-- ==== Sys2Proof/Word.lean ====
section
/-! DEFINITION. The plain shapes the whole model shares: a dictionary key and an octet string. -/

namespace Sys2Proof

/-- An octet string of `len` bytes whose value, most significant byte first (R5), is `val`. -/
structure Bytes where
  len : Nat
  val : Nat
  deriving DecidableEq, Repr

/-- Where a value lives in the object dictionary: index, subindex and DOM element (0 for a value that is no DOM). -/
structure Key where
  ix : Nat
  sub : Nat
  el : Nat
  deriving DecidableEq, Repr

end Sys2Proof
end

