-- ==== Sys2Proof/Syntax.lean ====
section
/-! DEFINITION. The commands the block takes: one constructor per row of the opcode table, with the row's operands. -/

namespace Sys2Proof

/-- What a received RCP frame ends in (R409, R410): a CRC-32C over its header and payload, right or wrong; or the tag of an AES-256-GCM
encryption with the request key of a session's key pair K and a nonce, its header the additional data (a wrong tag is one made with
another key or nonce, or of another frame). -/
inductive Seal where
  | crc (right : Bool)
  | gcm (k nonce : Nat)
  deriving DecidableEq, Repr

/-- The envelope of an RCP frame (R408, R409): when and where it arrives, its header, whether its length is right, and what it ends in. -/
structure Rcp where
  /-- nanoseconds since the command before it -/
  dt : Nat
  /-- 0 MG0, 1 MG1, 2 + i network interface i -/
  via : Nat
  /-- source address, IPv4 in IPv6-mapped form -/
  peer : Nat
  /-- source UDP port -/
  port : Nat
  magic : Nat
  version : Nat
  flags : Nat
  session : Nat
  seq : Nat
  /-- the OP byte of the header -/
  op : Nat
  /-- LEN matches the datagram -/
  lenOk : Bool
  closing : Seal
  /-- destination UDP port -/
  dst : Nat
  deriving DecidableEq, Repr

/-- The same frame, taken up again without time passing before it. -/
def Rcp.again (q : Rcp) : Rcp := { q with dt := 0 }

/-- A cell as it travels: the 192 header bits (Table 02.2), the 2,048 payload bits, the trailer's CRC-32C and replay tag
(R44, R46). -/
structure Cell where
  hdr : Nat
  payload : Nat
  crc : Nat
  tag : Nat
  deriving DecidableEq, Repr

/-- A frame that arrives on a network port, as its headers are parsed (R172, R174). -/
structure NetFrame where
  port : Nat
  /-- the FCS is right -/
  fcsOk : Bool
  /-- VLAN ID, 0 untagged -/
  vlan : Nat
  /-- destination MAC, 48 bits -/
  mac : Nat
  /-- IP version, length and IPv4 header checksum are right, and the packet is no fragment -/
  ipOk : Bool
  /-- the UDP checksum passes Table 06.2, order 4 -/
  udpOk : Bool
  /-- what it carries: 0 UDP, 1 ARP, 2 IPv6 neighbour discovery, 3 an ICMP or ICMPv6 echo request, 4 a membership query (its content comes
  as NET_QUERY_RX), others another protocol -/
  what : Nat
  /-- destination and source address, IPv4 in IPv6-mapped form (for ARP and neighbour discovery the address asked for and the
  asker's), and UDP destination port -/
  dst : Nat
  src : Nat
  udp : Nat
  /-- at least an RTP header of version 2 -/
  rtpOk : Bool
  pt : Nat
  /-- RTP sequence number, extended to 32 bits for ST 2110-20 -/
  seq : Nat
  ts : Nat
  marker : Bool
  /-- ST 2110-20 sample row data headers: field, line within the field, offset in pixels, bytes -/
  rows : List (Nat × Nat × Nat × Nat)
  /-- ST 2022-6: the high-bit-rate media header matches FORMAT -/
  mediaOk : Bool
  /-- the media bytes -/
  media : Bytes
  deriving DecidableEq, Repr

/-- A PTP Announce message (IEEE 1588-2019): its sender (clockIdentity, port number), the log interval, the flags, and the
grandmaster's data set. -/
structure Announce where
  sender : Nat
  senderPort : Nat
  domain : Nat
  logInterval : Int
  utcOffset : Nat
  utcValid : Bool
  leap61 : Bool
  leap59 : Bool
  traceable : Bool
  priority1 : Nat
  gmClass : Nat
  accuracy : Nat
  variance : Nat
  priority2 : Nat
  gm : Nat
  stepsRemoved : Nat
  addr : Nat
  deriving DecidableEq, Repr

/-- What a relayed PTP message keeps (R381): its IP addresses (IPv4 in IPv6-mapped form) and UDP ports, whether its checksum was right, and the
rest of its UDP payload, with the two bytes that IPv6 ends it with. -/
structure TcMsg where
  src : Nat
  dst : Nat
  udpSrc : Nat
  udpDst : Nat
  sumOk : Bool
  body : Bytes
  deriving DecidableEq, Repr

/-- A PTP event or follow-up message (IEEE 1588-2019). `kind` is its messageType: 0 Sync, 2 Pdelay_Req, 3 Pdelay_Resp,
8 Follow_Up, 9 Delay_Resp, 10 Pdelay_Resp_Follow_Up. `corr` is correctionField in 2⁻¹⁶ ns, `time` the timestamp it carries in
ns. `mine` says whether a response names this device's own request. -/
structure PtpMsg where
  kind : Nat
  domain : Nat
  sender : Nat
  senderPort : Nat
  seq : Nat
  twoStep : Bool
  corr : Int
  time : Nat
  mine : Bool
  deriving DecidableEq, Repr

/-- A request to the frame store (R257, R258): the requester port, the allocation's handle, the logical block and offset, how many
bytes, whether it writes and what. -/
structure StoreReq where
  port : Nat
  handle : Nat
  logical : Nat
  offset : Nat
  len : Nat
  write : Bool
  data : Nat
  deriving DecidableEq, Repr

/-- What the active twin copies to the standby beside its statistics (R122): the last frames of each leg (context; timestamp and first
number), the frequency and its history of each DPLL, the measured frequency and the glitches of each reference, and the servo's samples
(source, offset). -/
structure TwinCopy where
  anchors : List (Nat × List (Nat × Nat))
  dplls : List (Nat × Int × List Int)
  refs : List (Nat × Option Int × List Nat)
  servo : List (Nat × Int)
  deriving DecidableEq, Repr


/-- The commands of the block: one constructor per row of the opcode table. Rows that arrive in an RCP frame carry its
envelope `q`; every other row carries `dt`, the nanoseconds since the command before it. -/
inductive Instr where
  /-- READ (R412). An RCP READ request returns the value of one dictionary entry. -/
  | read (q : Rcp) (ix sub : Nat)
  /-- WRITE (R10). An RCP WRITE to an entry that has no row of its own; a CW entry is staged, and other entries act as their access kind lays down. -/
  | write (q : Rcp) (ix sub : Nat) (v : Bytes)
  /-- READ_DOM (R413). A segment of a DOM read transfer; the FIRST segment takes a snapshot. -/
  | readDom (q : Rcp) (ix sub flags offset length : Nat)
  /-- WRITE_DOM (R413). A segment of a DOM write transfer; the LAST segment acts as one write. -/
  | writeDom (q : Rcp) (ix sub flags offset : Nat) (v : Bytes)
  /-- TRANSFER_TIMEOUT (R413). A gap of 1 s between segments ends a DOM transfer. -/
  | transferTimeout (dt session : Nat)
  /-- HELD_REQUEST_DISCARD (R414). Requests held behind a sequence gap are discarded when the gap is still open after 100 ms. -/
  | heldRequestDiscard (dt session : Nat)
  /-- COMMIT (R421). COMMIT checks the staged group, journals it, applies every value together and answers OK with the GENERATION of the commit record. -/
  | commit (q : Rcp)
  /-- DISCARD (R422). The holder discards its commit group. -/
  | discard (q : Rcp)
  /-- GROUP_ABORT (R422). A HOST write to GROUP_ABORT discards the commit group. -/
  | groupAbort (q : Rcp) (v : Bytes)
  /-- GROUP_IDLE_DISCARD (R422). The commit group is discarded after GROUP_IDLE_S seconds with no staging write or COMMIT. -/
  | groupIdleDiscard (dt : Nat)
  /-- SUBSCRIBE (R423). A session subscribes to changes over a range of indexes. -/
  | subscribe (q : Rcp) (first last minMs : Nat)
  /-- UNSUBSCRIBE (R412). A session removes one of its subscriptions. -/
  | unsubscribe (q : Rcp) (id : Nat)
  /-- NOTIFY_SEND (R423). A NOTIFY frame is sent for a subscription whose entries changed, at most once per MIN_INTERVAL_MS. -/
  | notifySend (dt session id : Nat) (leave : Bool)
  /-- CLOSE (R417). CLOSE ends the session and discards its transfer, subscriptions and commit group. -/
  | close (q : Rcp)
  /-- KEEPALIVE (R417). A KEEPALIVE request does nothing except count as a request. -/
  | keepalive (q : Rcp)
  /-- SESSION_IDLE_EXPIRY (R417). A session ends when no valid request has arrived for SESSION_IDLE_S seconds. -/
  | sessionIdleExpiry (dt session : Nat)
  /-- DISCOVER (R434). A DISCOVER request is answered after a random delay with the payload of Table 15.9. -/
  | discover (q : Rcp) (multicast : Bool)
  /-- MODE_WRITE (R428). A HOST write to an area MODE entry is accepted and journalled, and waits for the operation in progress to complete. -/
  | modeWrite (q : Rcp) (ix : Nat) (v : Bytes)
  /-- MODE_CHANGE_EFFECT (R33). A waiting MODE change takes effect once the operation in progress completes, and the entry is notified. -/
  | modeChangeEffect (dt ix : Nat)
  /-- JOURNAL_COMPACTION (R427). When the journal ring is 75 % full, it is compacted into the settings area of the running slot and its sectors are erased. -/
  | journalCompaction (dt : Nat)
  /-- MG_CFG_EFFECT (R430). A committed change to MG_CFG, INBAND_IF or RCP_UDP_PORT takes effect 1,000 ms after the COMMIT response leaves. -/
  | mgCfgEffect (dt : Nat)
  /-- RCP_MG_REVERTED (R430). With no authenticated request within MG_CONFIRM_S, the device commits the previous management values itself. -/
  | rcpMgReverted (dt : Nat)
  /-- OPEN_HELLO (R446). A HELLO segment of an OPEN exchange; the last segment is answered with CHALLENGE segment 0. -/
  | openHello (q : Rcp) (id offset total : Nat) (v : Bytes)
  /-- OPEN_CHALLENGE_FETCH (R446). An OPEN of MSG 0x02 fetches a later CHALLENGE segment. -/
  | openChallengeFetch (q : Rcp) (id offset : Nat)
  /-- OPEN_RESPONSE (R447). A RESPONSE segment; on the last one the device derives keys, decides the role by Table 16.6 and sends ACCEPT, or AUTH. -/
  | openResponse (q : Rcp) (id offset total : Nat) (v : Bytes)
  /-- OPEN_EXCHANGE_TIMEOUT (R446). An OPEN exchange with no frame for 5 s is discarded. -/
  | openExchangeTimeout (dt : Nat)
  /-- FLOW_ENGINE_CONFIGURED (R60). A STARTING flow context finishes configuring its engine and enters RUNNING, or STOPPING if a stop is queued. -/
  | flowEngineConfigured (dt ctx : Nat)
  /-- FLOW_ENGINE_QUIESCED (R60). A STOPPING flow context finishes quiescing its engine and enters STARTING or IDLE. -/
  | flowEngineQuiesced (dt ctx : Nat)
  /-- RUN_START (R62). An ingress run begins at the first frame start, or the first unit of media, after RUNNING. -/
  | runStart (dt ctx : Nat)
  /-- CELL_EMIT (R57). An originating ingress context emits a cell with the next sequence number and its ITIME. -/
  | cellEmit (dt ctx itime len pos : Nat) (sof eof : Bool) (payload field : Nat)
  /-- CELL_RECEIVED (R47). A stage accepts a cell, discarding it and counting if it is malformed. -/
  | cellReceived (dt group : Nat) (cell : Cell)
  /-- MERGE_COPY_ARRIVAL (R102). A plane delivers a copy of a cell to an egress merge; it is anchored, kept, discarded or compared. -/
  | mergeCopyArrival (dt ctx plane : Nat) (cell : Cell)
  /-- MERGE_WINDOW_END (R102). The merge window of a standby copy ends, and the copy counts as arriving. -/
  | mergeWindowEnd (dt ctx seq : Nat)
  /-- CELL_RELEASE (R15). At ingress time plus playout delay, the egress releases the kept cell, or sends missing content and counts MISSING. -/
  | cellRelease (dt ctx : Nat)
  /-- SOURCE_LOSS_TIMEOUT (R106). An egress context that has kept no valid cell for one frame period, or 1 ms for audio, sets SOURCE_LOST and enters safe state. -/
  | sourceLossTimeout (dt ctx : Nat)
  /-- TAKE (R77). A write of a take descriptor is checked, logged, sent to the twin and accepted as pending. -/
  | take (q : Rcp) (v : Nat)
  /-- TWIN_TAKE_RX (R564). A twin receives a take descriptor over group 7, checks it, and logs and acknowledges it or refuses it. -/
  | twinTakeRx (dt msg v : Nat)
  /-- TWIN_TAKE_ACK (R80). The acknowledgement of the twin arrives, and the take returns OK. -/
  | twinTakeAck (dt msg status : Nat)
  /-- TWIN_TAKE_TIMEOUT (R80). With no twin acknowledgement within 500 µs, the take is applied locally and XC_TWIN_TAKE_MISSED is raised. -/
  | twinTakeTimeout (dt : Nat)
  /-- TAKE_APPLY (R83). At the application instant a pending take or salvo change switches the output source, and updates XP_TABLE and the counters. -/
  | takeApply (dt ctx : Nat)
  /-- DELAY_CHANGE_APPLY (R72). A committed playout-delay change takes effect at the next frame boundary of the output. -/
  | delayChangeApply (dt ctx : Nat)
  /-- SALVO_CHANGES_WRITE (R85). A CHANGES write replaces or extends elements of a salvo slot. -/
  | salvoChangesWrite (q : Rcp) (slot offset : Nat) (v : Bytes)
  /-- SALVO_TAKE_TIME_WRITE (R86). A TAKE_TIME write to a salvo slot keeps the value for the next ARM. -/
  | salvoTakeTimeWrite (q : Rcp) (slot v : Nat)
  /-- SALVO_ARM (R87). CONTROL = ARM increments EPOCH, sends the parts and PREPARE, and the slot enters PREPARING. -/
  | salvoArm (q : Rcp) (slot : Nat)
  /-- SALVO_ABORT (R91). CONTROL = ABORT decides an abort, logs it and sends ABORT. -/
  | salvoAbort (q : Rcp) (slot : Nat)
  /-- SALVO_CLEAR (R86). CONTROL = CLEAR empties the slot. -/
  | salvoClear (q : Rcp) (slot : Nat)
  /-- SALVO_COMMIT_CMD (R95). CONTROL = COMMIT in host-assisted mode takes a prepared slot to COMMITTED. -/
  | salvoCommitCmd (q : Rcp) (slot : Nat)
  /-- SALVO_PREPARE (R90). A participant receives PREPARE and checks its part, reserves resources and logs the SALVO_PART record. -/
  | salvoPrepare (dt group block : Nat)
  /-- SALVO_PREPARED (R90). Once its own part and its twin's are prepared, a member sends its VOTE and enters PREPARED. -/
  | salvoPrepared (dt slot : Nat)
  /-- SALVO_VOTE_RX (R91). The coordinator receives a VOTE and decides when the last OK vote or a failing vote arrives. -/
  | salvoVoteRx (dt group block : Nat)
  /-- SALVO_DECISION_LOGGED (R91). The decision record of the coordinator becomes durable, the slot reads COMMITTED or ABORTED, and the marker is sent. -/
  | salvoDecisionLogged (dt slot : Nat)
  /-- SALVO_VOTE_DEADLINE (R86). At TAKE_TIME − VOTE_LEAD_US without all votes, the coordinator aborts the slot with TIMEOUT. -/
  | salvoVoteDeadline (dt slot : Nat)
  /-- SALVO_COMMIT_RX (R86). A participant receives COMMIT, writes its commit record and makes its outputs pending. -/
  | salvoCommitRx (dt group block : Nat)
  /-- SALVO_ABORT_RX (R86). A participant receives ABORT, discards its part and releases its reservations. -/
  | salvoAbortRx (dt group block : Nat)
  /-- SALVO_DECIDE_DEADLINE (R92). At TAKE_TIME − DECIDE_LEAD_US a PREPARED participant enters INDOUBT, or a host-mode slot is aborted. -/
  | salvoDecideDeadline (dt slot : Nat)
  /-- SALVO_QUERY_TIMER (R92). An INDOUBT participant sends QUERY to the coordinator every 1 ms. -/
  | salvoQueryTimer (dt slot : Nat)
  /-- SALVO_QUERY_RX (R93). The coordinator answers a QUERY from its log with COMMIT or ABORT. -/
  | salvoQueryRx (dt group block : Nat)
  /-- SALVO_TAKE_TIME_REACHED (R86). A committed slot on a device that holds no change becomes APPLIED at TAKE_TIME. -/
  | salvoTakeTimeReached (dt slot : Nat)
  /-- LOG_SECTOR_ERASE (R99). Before erasing a sector of the take log, the device copies forward pending records and writes a base copy. -/
  | logSectorErase (dt : Nat)
  /-- PLANE_FAIL (R109). A failure cause declares a plane FAILED, promoting the standby or starting a rebuild, and AUTO_REPAIR resets it. -/
  | planeFail (dt plane cause : Nat)
  /-- PLANE_CMD_RESET_X (R111). PLANE_CMD RESET_X swaps if needed and resets plane X to OFFLINE. -/
  | planeCmdResetX (q : Rcp)
  /-- PLANE_CMD_RESET_Y (R111). PLANE_CMD RESET_Y swaps if needed and resets plane Y to OFFLINE. -/
  | planeCmdResetY (q : Rcp)
  /-- PLANE_CMD_SWAP (R111). PLANE_CMD SWAP makes the standby plane active at the next cell boundary. -/
  | planeCmdSwap (q : Rcp)
  /-- PLANE_BIST_DONE (R111). A reset plane completes BIST and enters RESYNC, ACTIVE or FAILED. -/
  | planeBistDone (dt plane : Nat) (pass shadowOk : Bool) (slice : Option Nat)
  /-- PLANE_RESYNC_DONE (R113). The resynchronisation copy completes and is verified, and the plane joins as standby. -/
  | planeResyncDone (dt plane : Nat) (wrong : List (Nat × Nat))
  /-- PLANE_REBUILD_DONE (R116). A rebuild completes, the planes enter service together and egress contexts re-anchor. -/
  | planeRebuildDone (dt : Nat) (shadowOk : Bool)
  /-- TWIN_PAIRING_SEND (R118). The device sends a pairing block over group 7, and resends it every 1 s until paired. -/
  | twinPairingSend (dt : Nat)
  /-- TWIN_PAIRING_RX (R119). A pairing block is received and compared, and the pair is made with roles set, or refused. -/
  | twinPairingRx (dt block : Nat)
  /-- TWIN_PAIRING_TIMEOUT (R118). No matching block within 100 ms returns the twin state to UNPAIRED. -/
  | twinPairingTimeout (dt : Nat)
  /-- TWIN_RECONCILE (R121). The crosspoint table of the twin is received, and the standby applies differing entries as takes. -/
  | twinReconcile (dt table : Nat)
  /-- TWIN_COPY_DONE (R122). The copy of non-committed state to the standby completes, and the pair enters PAIRED. -/
  | twinCopyDone (dt : Nat) (stats : List (Nat × Nat × Nat × Nat)) (copy : TwinCopy)
  /-- TWIN_LOST (R122). Group 7 goes down, or no frame arrives from the twin for 1 ms, and the twin state becomes LOST. -/
  | twinLost (dt : Nat) (reset : Bool)
  /-- TWIN_CMD_MAKE_ACTIVE (R120). CMD = MAKE_ACTIVE swaps the roles of a PAIRED pair. -/
  | twinCmdMakeActive (q : Rcp)
  /-- TWIN_SIGNATURE_RX (R123). A frame signature of the twin is compared with its own, counting SIG_MISMATCHES. -/
  | twinSignatureRx (dt ctx source boundary crc : Nat)
  /-- TWIN_ANCHOR_SEND (R124). Every ANCHOR_PERIOD_MS the active twin sends the leg anchors. -/
  | twinAnchorSend (dt : Nat)
  /-- TWIN_ANCHOR_RX (R124). The standby compares an anchor and steps its RTP numbering at the next frame start. -/
  | twinAnchorRx (dt ctx : Nat) (anchor : Nat × Nat) (running : Bool)
  /-- SDI_RX_LOCK (R137). A receive lane locks at a supported rate. -/
  | sdiRxLock (dt lane rate : Nat)
  /-- SDI_RX_LOCK_LOST (R137). A lane loses lock on CDR unlock or on two line periods without a valid EAV, and the port freezes. -/
  | sdiRxLockLost (dt lane : Nat)
  /-- SDI_RX_FORMAT_CHANGE (R138). A locked lane detects a change of TRS spacing, line count or payload identifier. -/
  | sdiRxFormatChange (dt lane : Nat)
  /-- SDI_FORMAT_DETECTED (R138). Two frames after lock or a change, DETECTED_FORMAT and FMT_MATCH are written. -/
  | sdiFormatDetected (dt lane raster rate : Nat) (arrivals : List Nat) (ltc : Nat) (pid : Option (Nat × Nat))
  /-- SDI_PORT_RESUME (R139). A frozen port resumes emission with SOF at the first frame start at which every lane is locked, matched and aligned. -/
  | sdiPortResume (dt ctx first : Nat) (others : List Nat)
  /-- SDI_TX_FRAME_BOUNDARY (R73). At a transmit frame boundary the held frame is captured, kerf timing is checked and safe state may be left. -/
  | sdiTxFrameBoundary (dt ctx line lines : Nat)
  /-- HOLD_MAX_EXPIRY (R153). An output that has held for HOLD_MAX_S seconds sends BLACK instead. -/
  | holdMaxExpiry (dt ctx : Nat)
  /-- NET_LINK_UP (R158). A port completes training and the link comes UP. -/
  | netLinkUp (dt port : Nat)
  /-- NET_LINK_DOWN (R158). A port loses PCS alignment or FEC lock and leaves UP. -/
  | netLinkDown (dt port : Nat)
  /-- NET_SPARE_REMAP (R162). A failed network lane is remapped onto its spare and the port retrains. -/
  | netSpareRemap (dt lane : Nat)
  /-- NET_FRAME_RX (R172). A received frame is sorted by Table 06.2 and passed to a context or the management cores, or discarded. -/
  | netFrameRx (dt : Nat) (f : NetFrame)
  /-- NET_CTRL_FRAME (R165). The management cores answer ARP, neighbour discovery or echo addressed to an interface. -/
  | netCtrlFrame (dt : Nat)
  /-- NET_QUERY_RX (R167). A membership query is received and counted, and a response report is scheduled. -/
  | netQueryRx (dt port iface version : Nat) (ask : Nat × Nat)
  /-- NET_QUERY_RESPONSE (R167). After the random delay, the current-state report is sent in answer to a query. -/
  | netQueryResponse (dt iface : Nat)
  /-- NET_MEMBERSHIP_REPORT (R167). A state-change report is sent within 1 ms of a membership change. -/
  | netMembershipReport (dt iface : Nat)
  /-- IGMP_REPORT_REPEAT (R167). A state-change report is repeated at a random interval. -/
  | igmpReportRepeat (dt iface : Nat)
  /-- CTRL_TX (R170). A CTRL_TX write sends one Ethernet frame in host-assisted mode. -/
  | ctrlTx (q : Rcp) (v : Bytes)
  /-- NET_RESOLVE_REFRESH (R166). A next-hop resolution is refreshed, or retried after failures. -/
  | netResolveRefresh (dt ctx : Nat) (legB : Bool) (mac : Option Nat)
  /-- NET_RX_SILENCE (R181). A leg with no packets for 10 ms clears its OK bit and raises NET_LEG_DOWN. -/
  | netRxSilence (dt ctx : Nat) (legB : Bool)
  /-- NET_2022_7_RELEASE (R180). The ST 2022-7 merge releases a packet at its basis plus MAX_SKEW_US. -/
  | net20227Release (dt ctx : Nat)
  /-- NET_PACKET_TX (R186). An egress packet leaves, paced by its sender type. -/
  | netPacketTx (dt ctx : Nat)
  /-- DWL_ITEM_RX (R206). A cell or management frame arrives on a dowel lane and is delivered, or a replay is requested. -/
  | dwlItemRx (dt group lane chars ending : Nat) (cv disparity : Nat × Nat) (skips : Nat)
  /-- DWL_REPLAY_REQ_RX (R207). A replay request is received, and the transmitter aborts its item and resends from the requested LCOUNT. -/
  | dwlReplayReqRx (dt group lane block : Nat)
  /-- DWL_LANE_MARKER_RX (R241). A lane marker is received and applied to re-rank, to replace a lost replay, or to complete a peer swap. -/
  | dwlLaneMarkerRx (dt group lane block : Nat)
  /-- DWL_MGMT_FRAME_RX (R201). A management frame segment is received and its message assembled. -/
  | dwlMgmtFrameRx (dt group chars : Nat)
  /-- DWL_MSG_TIMEOUT (R201). A message without all its segments within 10 ms is discarded. -/
  | dwlMsgTimeout (dt : Nat)
  /-- DWL_TRAINING_BLOCK_RX (R212). A training block is received, and offers, acceptances, refusals and step moves follow. -/
  | dwlTrainingBlockRx (dt group lane block : Nat) (inverted : Bool)
  /-- DWL_STEP_DWELL_END (R212). The dwell of a bring-up step ends within its error limit, and the end offers the next step. -/
  | dwlStepDwellEnd (dt group lane errors : Nat)
  /-- DWL_STEP_FAILURE (R213). A lane fails to lock within the lock limit or exceeds the error limit, and returns to S0. -/
  | dwlStepFailure (dt group : Nat) (lane : Nat × Option Nat)
  /-- GROUP_MISWIRED_RETRY (R216). After 1 s in MISWIRED, the group retries training. -/
  | groupMiswiredRetry (dt group : Nat)
  /-- CHAIN_FRAME_TX (R217). A device sends its chain frame on CHN_OUT every 100 µs. -/
  | chainFrameTx (dt : Nat)
  /-- CHAIN_FRAME_RX (R217). A chain frame is received and the position is taken, or DWL_CHAIN_MISMATCH is raised. -/
  | chainFrameRx (dt frame : Nat)
  /-- CHAIN_LOST (R219). The absence of chain frames for 1 ms raises DWL_CHAIN_LOST. -/
  | chainLost (dt : Nat)
  /-- MEMBER_REPORT_TX (R220). The tailstock sends a member report to the headstock every 1 s. -/
  | memberReportTx (dt : Nat)
  /-- MEMBER_REPORT_RX (R220). The headstock records the chain length and updates ENSEMBLE_STATE. -/
  | memberReportRx (dt group length : Nat)
  /-- CHAIN_SHORT_TIMEOUT (R220). With no report within 2 s of the first UP group, the headstock raises DWL_CHAIN_SHORT. -/
  | chainShortTimeout (dt : Nat)
  /-- BEACON_TX (R226). Each UP group sends a time beacon every 8,000 ns. -/
  | beaconTx (dt group : Nat)
  /-- BEACON_RX (R227). A beacon is received and the link delay and peer offset are computed, feeding the servo and the fault summary. -/
  | beaconRx (dt group block : Nat)
  /-- BEACON_LOST (R228). No valid beacon for 4 periods clears BEACON_OK, and the member changes the group it follows. -/
  | beaconLost (dt group : Nat)
  /-- LANE_CMD_STEP (R248). LANE_CMD STEP lets a holding dowel lane offer its next step once. -/
  | laneCmdStep (q : Rcp) (lane : Nat)
  /-- LANE_CMD_SWAP_OUT (R242). LANE_CMD SWAP_OUT swaps a dowel lane hitlessly onto the spare. -/
  | laneCmdSwapOut (q : Rcp) (lane : Nat)
  /-- LANE_CMD_RETRAIN (R245). LANE_CMD RETRAIN restarts a FAILED lane or a spare from S0. -/
  | laneCmdRetrain (q : Rcp) (lane : Nat)
  /-- LANE_CMD_MARGIN_SCAN (R238). LANE_CMD MARGIN_SCAN starts an eye-margin scan of a locked lane. -/
  | laneCmdMarginScan (q : Rcp) (target lane : Nat)
  /-- LANE_CMD_MARGIN_ABORT (R238). LANE_CMD MARGIN_ABORT aborts a running scan. -/
  | laneCmdMarginAbort (q : Rcp) (lane : Nat)
  /-- MARGIN_SCAN_DONE (R238). A margin scan completes and writes its MARGIN element. -/
  | marginScanDone (dt lane width height : Nat)
  /-- PHY_LANE_FAILED (R243). A dowel lane fails, and it is replaced by the ready spare with a replay, or the group re-ranks. -/
  | phyLaneFailed (dt lane cause skew : Nat)
  /-- PHY_DEGRADE_CHECK (R240). Each whole second, lane error counts are judged, and a degraded dowel lane is swapped out. -/
  | phyDegradeCheck (dt lane errors symbols : Nat)
  /-- SPARE_READINESS_CHECK (R239). Each second the filler errors of a spare are judged, and an unfit spare is retrained. -/
  | spareReadinessCheck (dt group errors : Nat)
  /-- SDI_SLICE_SPARE (R247). A failed SDI receive lane is moved to its spare CDR slice. -/
  | sdiSliceSpare (dt lane : Nat) (locks : Bool)
  /-- MEM_REQUEST_SERVE (R258). A channel controller selects and serves a request at a command slot. -/
  | memRequestServe (dt chan : Nat) (arrivals : List StoreReq) (ecc : Nat)
  /-- REQUEST_DEADLINE_MISS (R260). A real-time request not served within 2,000 ns counts a deadline miss, and its data counts as missing. -/
  | requestDeadlineMiss (dt chan : Nat)
  /-- MR4_POLL (R261). Every 1 ms the controller reads MR4 and sets the refresh rate, raising FS_DRAM_HOT if needed. -/
  | mr4Poll (dt chan rate : Nat) (hot : Bool)
  /-- SR_ENTRY (R262). After SR_IDLE_NS idle, a channel precharges, refreshes and enters self-refresh. -/
  | srEntry (dt chan : Nat) (issued : Bool)
  /-- SR_EXIT (R263). A request arriving during or after entry abandons the entry, or exits self-refresh and is served. -/
  | srExit (dt chan : Nat)
  /-- CHAN_TRAINING_SET_DONE (R266). A delay set finishes its trial, and the channel goes ONLINE, or the next set is tried, or it is retired. -/
  | chanTrainingSetDone (dt chan : Nat) (pass : Bool) (defects : List Nat)
  /-- DELAY_RECENTRE (R267). Every 100 ms the firmware re-centres the read and write delays of an online channel. -/
  | delayRecentre (dt chan : Nat)
  /-- CHAN_DEGRADE_CHECK (R268). Each whole second the corrected link-ECC errors move a channel between ONLINE and DEGRADED. -/
  | chanDegradeCheck (dt chan : Nat)
  /-- CHAN_FAIL (R269). Uncorrectable errors or a mode-register mismatch put a channel in FAILED, and its blocks are remapped without copy. -/
  | chanFail (dt chan cause : Nat)
  /-- CHAN_CMD_RETRAIN (R270). CHAN_CMD RETRAIN evacuates a channel by copy for retraining. -/
  | chanCmdRetrain (q : Rcp) (chan : Nat)
  /-- CHAN_CMD_RETIRE (R270). CHAN_CMD RETIRE evacuates a channel by copy for retirement. -/
  | chanCmdRetire (q : Rcp) (chan : Nat)
  /-- CHAN_CMD_RESTORE (R268). CHAN_CMD RESTORE retrains a retired channel. -/
  | chanCmdRestore (q : Rcp) (chan : Nat)
  /-- BLOCK_RELOCATED (R270). A relocation copy ends and the translation switches, and the last block moves the channel on. -/
  | blockRelocated (dt handle logical : Nat)
  /-- PATROL_TEST (R274). The patrol tests a free block, and a defective row is substituted from the reserve. -/
  | patrolTest (dt block row : Nat) (ok : Bool)
  /-- TILE_FAIL (R311). A physical tile fails, and a spare takes its logical tile, or it becomes UNAVAILABLE. -/
  | tileFail (dt phys : Nat)
  /-- TILE_SUBSTITUTION_DONE (R311). The substituted tile resumes its outputs with SOF. -/
  | tileSubstitutionDone (dt tile : Nat)
  /-- TILE_CMD_SUBSTITUTE (R310). TILE_CMD SUBSTITUTE moves a logical tile to a spare. -/
  | tileCmdSubstitute (q : Rcp) (tile : Nat)
  /-- TILE_CMD_RESTORE (R310). TILE_CMD RESTORE tests a failed physical tile. -/
  | tileCmdRestore (q : Rcp) (phys : Nat)
  /-- TILE_CMD_TEST (R310). TILE_CMD TEST tests a spare physical tile. -/
  | tileCmdTest (q : Rcp) (phys : Nat)
  /-- TILE_BIST_DONE (R310). A tile in TESTING passes or fails BIST. -/
  | tileBistDone (dt phys : Nat) (pass : Bool)
  /-- FS_OUTPUT_FRAME (R297). At each output frame start a frame synchroniser reads a frame, repeating or dropping frames. -/
  | fsOutputFrame (dt tile : Nat) (chanB : Bool) (lost : Nat)
  /-- FS_INPUT_LOSS (R299). After one input frame period without cells the frame synchroniser acts by LOSS. -/
  | fsInputLoss (dt tile : Nat) (chanB : Bool)
  /-- HEAD_FRAME_BOUNDARY (R326). At a head frame boundary each layer shows the content of Table 11.1, and shadowed changes and flips apply. -/
  | headFrameBoundary (dt head : Nat) (lost probe : List (Nat × Nat))
  /-- LAYER_FRAME_COMPLETE (R322). A layer engine completes a source frame in its store. -/
  | layerFrameComplete (dt engine : Nat) (filled : List (Nat × Nat × Nat))
  /-- LAYER_RUN_START (R325). At the start of a source run the engine evaluates its format, line need and geometry. -/
  | layerRunStart (dt engine : Nat)
  /-- VENEER_WRITE (R330). A VENEER_WRITE writes a rectangle of ARGB pixels into a veneer. -/
  | veneerWrite (q : Rcp) (veneer x y w h : Nat) (back : Bool) (pixels : Nat)
  /-- VENEER_FLIP (R330). VENEER_CMD FLIP schedules the back buffer of a double-buffered veneer to the front. -/
  | veneerFlip (q : Rcp) (veneer : Nat)
  /-- TALLY_WRITE (R331). A TALLY write sets the border, applied at the next eligible boundary. -/
  | tallyWrite (q : Rcp) (engine value : Nat)
  /-- CMP_ENGINE_FAIL (R334). A running layer engine fails and shows fill from the next boundary. -/
  | cmpEngineFail (dt engine : Nat)
  /-- AUDIO_POSITION (R342). At each sample instant the matrix reads sources, fades, delays and gains every destination record. -/
  | audioPosition (dt : Nat)
  /-- AUDIO_SAMPLE_WRITE (R349). An origin writes a sample into a source store, or it is dropped as late or early. -/
  | audioSampleWrite (dt lane groups : Nat) (words : List Nat)
  /-- SAP_FRAME (R362). A serial audio port frame sends a destination position and writes received samples. -/
  | sapFrame (dt port : Nat) (slots : List Nat) (half : Bool)
  /-- SERVO_SAMPLE (R372). A servo sample from PTP, 1PPS or a beacon drives the servo state, rate changes and steps. -/
  | servoSample (dt : Nat)
  /-- SERVO_SAMPLE_TIMEOUT (R372). No valid sample for 2 s puts the servo in HOLDOVER. -/
  | servoSampleTimeout (dt : Nat)
  /-- SERVO_HOLDOVER_EXPIRY (R372). The holdover limit is reached and the servo enters FREE_RUN. -/
  | servoHoldoverExpiry (dt : Nat)
  /-- TIME_CHANGEOVER (R368). A rate change or step of device time is applied at one RAW value on every island. -/
  | timeChangeover (dt : Nat)
  /-- SERVO_CMD_STEP (R374). SERVO_CMD STEP steps device time by VALUE ns. -/
  | servoCmdStep (q : Rcp) (value : Int)
  /-- SERVO_CMD_SET_RATE (R374). SERVO_CMD SET_RATE changes RATE to VALUE. -/
  | servoCmdSetRate (q : Rcp) (value : Int)
  /-- SERVO_CMD_ADD_RATE (R374). SERVO_CMD ADD_RATE changes RATE to RATE plus VALUE. -/
  | servoCmdAddRate (q : Rcp) (value : Int)
  /-- PTP_ANNOUNCE_RX (R376). An Announce message is qualified and the best master clock algorithm selects the leader. -/
  | ptpAnnounceRx (dt iface : Nat) (ann : Announce)
  /-- PTP_LEADER_LOST (R376). A leader is lost after ANNOUNCE_TIMEOUT intervals without Announce. -/
  | ptpLeaderLost (dt iface sender port : Nat)
  /-- PTP_DELAY_REQ_TX (R377). A Delay_Req or Pdelay_Req is sent at its randomised interval. -/
  | ptpDelayReqTx (dt iface : Nat)
  /-- PTP_EVENT_RX (R377). A PTP event or follow-up message completes an exchange and yields a sample, or a Pdelay_Req is answered. -/
  | ptpEventRx (dt iface : Nat) (m : PtpMsg)
  /-- TC_RELAY (R381). A PTP message is relayed on other TC interfaces with corrected correctionField. -/
  | tcRelay (dt iface kind domain seq rx : Nat) (corr : Int) (msg : TcMsg)
  /-- LEAP_SECOND (R378). An announced leap second takes effect in the time of day at the end of the UTC day. -/
  | leapSecond (dt : Nat)
  /-- TIME_OUTPUT_EDGE (R383). PPS_OUT or a TIMEPULSE output reaches an edge time of device time. -/
  | timeOutputEdge (dt output : Nat)
  /-- REF_PHASE_EVENT (R389). A phase event of a reference is judged, and glitches, stops and rate changes are detected. -/
  | refPhaseEvent (dt ref : Nat)
  /-- REF_STOP (R389). Two consecutive missing events are a stop, and the reference is disqualified. -/
  | refStop (dt ref : Nat)
  /-- REF_FREQ_UPDATE (R390). Every 100 ms the frequency monitor updates OFFSET_PPB and applies the limits. -/
  | refFreqUpdate (dt : Nat) (meas demand : List (Nat × Int))
  /-- REF_HOLDOFF_ELAPSED (R391). The hold-off of a reference elapses cleanly and it becomes QUALIFIED. -/
  | refHoldoffElapsed (dt ref : Nat)
  /-- DPLL_LOCKED (R395). A DPLL meets the lock condition and enters LOCKED. -/
  | dpllLocked (dt dpll err : Nat)
  /-- DPLL_SWITCH_MEASURED (R396). The measurement of the switch target ends, and build-out or slew applies. -/
  | dpllSwitchMeasured (dt dpll : Nat)
  /-- DPLL_HOLDOVER_EXPIRY (R399). HOLDOVER_MAX_S elapses and the DPLL enters FREE_RUN. -/
  | dpllHoldoverExpiry (dt dpll : Nat)
  /-- DPLL_CMD_PHASE_STEP (R400). DPLL_CMD PHASE_STEP starts a phase move of VALUE ns. -/
  | dpllCmdPhaseStep (q : Rcp) (dpll : Nat) (value : Int)
  /-- DPLL_CMD_CLEAR_BUILDOUT (R400). DPLL_CMD CLEAR_BUILDOUT moves the phase by −BUILDOUT_NS. -/
  | dpllCmdClearBuildout (q : Rcp) (dpll : Nat)
  /-- DPLL_PHASE_MOVE_DONE (R400). A phase move ends and PHASE_STEPS counts it. -/
  | dpllPhaseMoveDone (dt dpll : Nat)
  /-- OWNER_CMD_ENROL (R444). An ENROL owner command enrols the owner and policy. -/
  | ownerCmdEnrol (q : Rcp) (nonce policy pub sig : Nat)
  /-- OWNER_CMD_TRANSFER (R444). A TRANSFER owner command changes the owner. -/
  | ownerCmdTransfer (q : Rcp) (nonce policy pub newSig ownerSig : Nat)
  /-- OWNER_CMD_RELEASE (R444). A RELEASE owner command returns the device to UNENROLLED. -/
  | ownerCmdRelease (q : Rcp) (nonce ownerSig : Nat)
  /-- ENROL_WINDOW_EXPIRY (R442). The 600 s enrolment window closes. -/
  | enrolWindowExpiry (dt : Nat)
  /-- ATTEST_NONCE (R451). A write of ATTEST_NONCE makes a signed quote of the present state. -/
  | attestNonce (q : Rcp) (nonce : Nat)
  /-- DEBUG_TOKEN (R453). A debug token write is checked, and DEBUG_STATE is armed. -/
  | debugToken (q : Rcp) (serial nonce sig : Nat)
  /-- UPDATE_BEGIN (R459). UPDATE_CMD BEGIN erases the target slot and opens an update session. -/
  | updateBegin (q : Rcp)
  /-- MANIFEST_IN (R460). A manifest is written and checked for the target slot. -/
  | manifestIn (q : Rcp) (v : Nat)
  /-- IMAGE_WRITE (R460). An image is written and checked against its manifest entry. -/
  | imageWrite (q : Rcp) (kind : Nat) (v : Bytes)
  /-- UPDATE_END (R459). UPDATE_CMD END makes the slot READY. -/
  | updateEnd (q : Rcp)
  /-- UPDATE_ABORT (R459). UPDATE_CMD ABORT ends the update session or restores an armed activation. -/
  | updateAbort (q : Rcp)
  /-- UPDATE_IDLE_EXPIRY (R458). An update session ends after UPDATE_IDLE_S seconds without a holder write. -/
  | updateIdleExpiry (dt : Nat)
  /-- ACTIVATE_IN_SERVICE (R462). UPDATE_CMD ACTIVATE_IN_SERVICE compacts, writes settings and replaces images one step at a time. -/
  | activateInService (q : Rcp)
  /-- ACTIVATION_STEP_DONE (R462). A replaced controller reports ready, and the next step or the trial starts. -/
  | activationStepDone (dt : Nat)
  /-- ACTIVATION_STEP_TIMEOUT (R462). A controller does not report ready in time, and the completed steps are reversed. -/
  | activationStepTimeout (dt : Nat)
  /-- ACTIVATE_RESTART (R461). UPDATE_CMD ACTIVATE_RESTART arms a trial for the next reset. -/
  | activateRestart (q : Rcp)
  /-- UPDATE_ACCEPT (R467). UPDATE_CMD ACCEPT confirms the trial slot and raises ARC. -/
  | updateAccept (q : Rcp)
  /-- UPDATE_REJECT (R468). UPDATE_CMD REJECT starts a fallback. -/
  | updateReject (q : Rcp)
  /-- UPDATE_RECOVER (R471). UPDATE_CMD RECOVER resets the device into recovery start-up. -/
  | updateRecover (q : Rcp)
  /-- TRIAL_TIMER_END (R459). The trial timer ends and the trial is accepted or falls back by AUTO_ACCEPT. -/
  | trialTimerEnd (dt : Nat)
  /-- FALLBACK_DONE (R468). A fallback completes and FALLBACKS counts it. -/
  | fallbackDone (dt : Nat)
  /-- SLOT_R_COPY_DONE (R467). The background copy into slot R is verified. -/
  | slotRCopyDone (dt : Nat)
  /-- RECOVERY_INTERVAL_END (R471). At the end of a recovery interval one candidate becomes the update holder. -/
  | recoveryIntervalEnd (dt : Nat)
  /-- FAULT_LATCH (R476). FLT latches a raised source, applies its reactions and updates the first-error capture. -/
  | faultLatch (dt src inst : Nat) (lasting : Bool)
  /-- FAULT_CONDITION_END (R476). The condition of a lasting source ends and ACTIVE clears. -/
  | faultConditionEnd (dt src inst : Nat)
  /-- FAULT_CMD_CLEAR (R484). FAULT_CMD CLEAR clears PENDING of one source. -/
  | faultCmdClear (q : Rcp) (src : Nat)
  /-- FAULT_CMD_CLEAR_GROUP (R484). FAULT_CMD CLEAR_GROUP clears PENDING of every source of one group. -/
  | faultCmdClearGroup (q : Rcp) (src : Nat)
  /-- FAULT_CMD_CLEAR_ALL (R484). FAULT_CMD CLEAR_ALL clears PENDING of every source. -/
  | faultCmdClearAll (q : Rcp)
  /-- FAULT_CMD_FIRST_CLEAR (R486). FAULT_CMD FIRST_CLEAR clears the first-error capture. -/
  | faultCmdFirstClear (q : Rcp)
  /-- FAULT_CMD_SUMMARY_CLEAR (R488). FAULT_CMD SUMMARY_CLEAR clears the ensemble summary on the headstock. -/
  | faultCmdSummaryClear (q : Rcp)
  /-- FAULT_CMD_BLKRST (R479). FAULT_CMD BLKRST requests a BLOCK reset of an instance. -/
  | faultCmdBlkrst (q : Rcp) (src inst : Nat)
  /-- FAULT_CMD_CHIPRST (R479). FAULT_CMD CHIPRST requests a WARM reset. -/
  | faultCmdChiprst (q : Rcp) (src : Nat)
  /-- FAULT_CMD_INJECT (R489). FAULT_CMD INJECT latches a source as if its event had occurred. -/
  | faultCmdInject (q : Rcp) (src inst : Nat)
  /-- ERRN_MIN_EXPIRY (R487). ERR_N is released once ERRN_MIN_US has passed and no ERRPIN source is pending. -/
  | errnMinExpiry (dt : Nat)
  /-- PORST_ASSERT (R494). PORST_N low for 250 ns or longer requests a POR. -/
  | porstAssert (dt low : Nat)
  /-- SUPPLY_FAULT (R544). A rail out of its window, REF_LO stopped or a thermal trip requests a POR. -/
  | supplyFault (dt kind ns : Nat)
  /-- RST_N_INPUT (R494). RST_N held low from outside requests a reset of reach RST_N_REACH. -/
  | rstNInput (dt low : Nat)
  /-- RESET_CMD_COLD (R494). RESET_CMD COLD requests a COLD reset. -/
  | resetCmdCold (q : Rcp)
  /-- RESET_CMD_WARM (R494). RESET_CMD WARM requests a WARM reset. -/
  | resetCmdWarm (q : Rcp)
  /-- RESET_CMD_DOMAIN (R494). RESET_CMD DOMAIN requests a DOMAIN reset of a core or controller. -/
  | resetCmdDomain (q : Rcp) (dom : Nat)
  /-- WATCHDOG_EXPIRY (R494). A watchdog expires after 1,000 ms and resets its domain, or the device at the third expiry. -/
  | watchdogExpiry (dt dom : Nat)
  /-- RESET_ASSERT (R492). After the entry delay a reset asserts over its domains. -/
  | resetAssert (dt n : Nat)
  /-- RESET_RELEASE (R495). A reset is released after its minimum width and its source, combining with narrower resets. -/
  | resetRelease (dt n : Nat) (head planeB testMode : Bool) (geo : Nat)
  /-- BLOCK_RESET_END (R493). At the end of a BLOCK reset the instance reloads its configuration and restarts. -/
  | blockResetEnd (dt target inst : Nat)
  /-- RSTN_OUT_END (R498). The drive of RST_N ends and the pin is sampled again after 2 µs. -/
  | rstnOutEnd (dt low : Nat)
  /-- FUSE_LOAD_DONE (R501). A fuse and trim load completes, passing its CRC or failing and restarting, and enters safe boot after three failures. -/
  | fuseLoadDone (dt words : Nat) (pass : Bool)
  /-- STARTUP_STAGE_DONE (R503). A start-up stage completes and the next one begins. -/
  | startupStageDone (dt gbit : Nat) (failed tiles engines planes : List Nat) (slices : List (Nat × Nat))
  /-- BUS_TRANSACTION (R506). A master issues a bus transaction, answered by its target or the default target. -/
  | busTransaction (dt master addr beats : Nat) (write : Bool) (data enables : Nat) (answer : Option Nat) (placed : Nat)
  /-- BUS_TIMEOUT (R512). A transaction with no response after 10 µs gets ERR_TIMEOUT, and the target is isolated. -/
  | busTimeout (dt : Nat)
  /-- BUS_CMD_UNISOLATE (R512). BUS_CMD UNISOLATE releases a target from isolation. -/
  | busCmdUnisolate (q : Rcp) (target : Nat)
  /-- BUS_CMD_ISOLATE (R511). BUS_CMD ISOLATE isolates a target. -/
  | busCmdIsolate (q : Rcp) (target : Nat)
  /-- BUS_CMD_LOG_CLEAR (R518). BUS_CMD LOG_CLEAR clears the error log. -/
  | busCmdLogClear (q : Rcp)
  /-- SRAM_ECC_ERROR (R522). An SRAM error marks a row defective and makes a knot entry. -/
  | sramEccError (dt macro_ row dom cause : Nat) (corrected : Bool)
  /-- KNOT_COPY_WRITE (R523). Within 100 ms of a new knot entry the device writes a new copy of the map. -/
  | knotCopyWrite (dt : Nat) (ok : Bool)
  /-- ISLAND_HORIZON_RECOMPUTE (R526). The event horizon of an island is recomputed and its power state chosen. -/
  | islandHorizonRecompute (dt island : Nat) (next : Option Nat)
  /-- ISLAND_WAKE (R527). A demand wakes an island below ACTIVE. -/
  | islandWake (dt island took : Nat)
  /-- ISLAND_REQUEST (R529). A write of ISLAND_REQUEST sets the state of an island in host-assisted mode. -/
  | islandRequest (q : Rcp) (island v : Nat)
  /-- PWR_WARN (R530). PWR_WARN_N falls, the flash is quiesced and the partial ring-log record is written. -/
  | pwrWarn (dt : Nat) (erasing ok : Bool)
  /-- PWR_WARN_RISE (R530). PWR_WARN_N rises with supplies good and the suspended erase resumes. -/
  | pwrWarnRise (dt : Nat)
  /-- LOG_INTERVAL_END (R531). An interval ends and its tier 0 record, and a daily record when due, is written. -/
  | logIntervalEnd (dt : Nat) (ok dailyOk : Bool)
  /-- EVENT_RECORD_WRITE (R536). An event record is written to tier 2 within 10 ms of its event. -/
  | eventRecordWrite (dt : Nat) (ok : Bool)
  /-- RING_CMD_VERIFY (R537). RING_CMD VERIFY starts a check of the CRC and chain of one tier. -/
  | ringCmdVerify (q : Rcp) (tier : Nat)
  /-- RING_VERIFY_DONE (R537). A ring verification completes and VERIFY_RESULT shows the outcome. -/
  | ringVerifyDone (dt : Nat)
  /-- THERMAL_SAMPLE (R559). Every 1 ms the junction sensors are sampled and the thresholds applied, including the trip. -/
  | thermalSample (dt : Nat) (temp : Int)
  /-- AVS_UPDATE (R547). A new VDD_CORE target is computed and written over AVSBus. -/
  | avsUpdate (dt : Nat) (acks : List Bool)
  /-- AVS_RETRY (R548). After a failed AVS write the device retries every 100 ms. -/
  | avsRetry (dt : Nat) (ack : Bool)
  /-- PMBUS_POLL (R549). Every 100 ms the device reads voltage and current of each rail, and handles PMB_ALERT_N. -/
  | pmbusPoll (dt : Nat) (readings : List (Option (Nat × Nat))) (alert : Bool)
  /-- PRBS_CHECKER_LOCK (R237). A PRBS checker that is searching locks after 64 consecutive error-free bits and starts counting BITS and ERRORS. -/
  | prbsCheckerLock (dt lane : Nat)
  /-- PRBS_CHECKER_UNLOCK (R237). A locked PRBS checker that sees more than 64 errors in 1,024 bits unlocks, adds 1 to LOCK_LOSSES, stops counting and searches again. -/
  | prbsCheckerUnlock (dt lane bits errors : Nat)
  /-- SDI_GROUP_DESKEW_LOST (R139). A lane of a locked and matched SDI receive group falls outside the 2,000 ns deskew, so the port freezes and SDI_GROUP_SKEW is raised. -/
  | sdiGroupDeskewLost (dt lane skew : Nat)
  /-- SDI_PID_ABSENT (R139). With PID_REQUIRED set, a frame passes with no ST 352 packet, so PID_PRESENT clears and the port freezes. -/
  | sdiPidAbsent (dt lane : Nat)
  /-- NET_TRAINING_FAILED (R240). A network port's link training attempt fails, including training on a spare, and counts toward the three consecutive failures that fail a lane, or sets SPARE_STATUS FAILED. -/
  | netTrainingFailed (dt port lane : Nat) (signal : Bool)
  /-- MG_LINK_UP (R429). The link of management port MG0 or MG1 comes up, and MG_STATUS LINK and SPEED_IN_USE are set. -/
  | mgLinkUp (dt port speed : Nat)
  /-- MG_LINK_DOWN (R429). The link of management port MG0 or MG1 goes down. -/
  | mgLinkDown (dt port : Nat)
  /-- MG_SPEED_TRY_TIMEOUT (R429). With SPEED AUTO, 2 s at one speed without link moves the port to the next speed in turn. -/
  | mgSpeedTryTimeout (dt port : Nat)
  deriving DecidableEq, Repr

end Sys2Proof
end

