-- ==== Sys2Proof/Machine/Bits.lean ====
section
/-! DEFINITION. Bit fields of a value, signed readings, wrapping comparison, rounding, the two CRCs. -/

namespace Sys2Proof

/-- Bits `lo` to `lo + w − 1` of a value (R5: bit 0 is the least significant). -/
def bitsOf (v lo w : Nat) : Nat := v / 2 ^ lo % 2 ^ w

/-- The value with bits `lo` to `lo + w − 1` replaced by the low `w` bits of `x`. -/
def setBits (v lo w x : Nat) : Nat :=
  v / 2 ^ (lo + w) * 2 ^ (lo + w) + (x % 2 ^ w) * 2 ^ lo + v % 2 ^ lo

/-- Is bit `i` set? -/
def bit (v i : Nat) : Bool := v / 2 ^ i % 2 == 1

/-- A Boolean as a one-bit value (type B1, R9). -/
def ofBool (b : Bool) : Nat := if b then 1 else 0

/-- Two's complement reading of a `w`-bit value (R9). -/
def toInt (w v : Nat) : Int :=
  if v % 2 ^ w < 2 ^ (w - 1) then (v % 2 ^ w : Nat) else (v % 2 ^ w : Nat) - (2 ^ w : Nat)

/-- The `w`-bit two's complement encoding of an integer (R9). -/
def ofInt (w : Nat) (i : Int) : Nat := (i % (2 ^ w : Nat)).toNat

/-- R7: the signed difference of two wrapping quantities of width `w`; exactly half the range apart counts as earlier. -/
def sdiff (a b w : Nat) : Int :=
  let d := (a % 2 ^ w + 2 ^ w - b % 2 ^ w) % 2 ^ w
  if 2 ^ (w - 1) ≤ d then (d : Int) - (2 ^ w : Nat) else d

/-- Division rounded up. -/
def ceilDiv (a b : Nat) : Nat := (a + b - 1) / b

/-- Byte i of an n-byte value, byte 0 the most significant (R5). -/
def byteAt (n v i : Nat) : Nat := v / 256 ^ (n - 1 - i) % 256

/-- The n bytes of a value, most significant first (R5). -/
def bytesOf : (n : Nat) → Nat → List Nat
  | 0, _ => []
  | n + 1, v => v / 256 ^ n % 256 :: bytesOf n (v % 256 ^ n)

/-- The value of a list of bytes, most significant first (R5). -/
def ofBytes (l : List Nat) : Nat := l.foldl (fun a b => a * 256 + b) 0

/-- Fields side by side, the first most significant: each its width in bits and its value. -/
def pack (l : List (Nat × Nat)) : Nat := l.foldl (fun a x => a * 2 ^ x.1 + x.2 % 2 ^ x.1) 0

/-- Bytes off to off + n − 1 of a value of len bytes, byte 0 the most significant (R5). -/
def bytesAt (len v off n : Nat) : Nat := bitsOf v (8 * (len - off - n)) (8 * n)

/-- One bit of the CRC-16 of R45 (polynomial 0x1021, no reflection). -/
def crc16Bit (c : Nat) : Nat := if 0x8000 ≤ c then (c * 2 % 0x10000) ^^^ 0x1021 else c * 2

/-- One byte of the CRC-16 of R45. -/
def crc16Byte (c b : Nat) : Nat :=
  crc16Bit (crc16Bit (crc16Bit (crc16Bit (crc16Bit (crc16Bit (crc16Bit (crc16Bit (c ^^^ (b * 256)))))))))

/-- R45: CRC-16, polynomial 0x1021, initial value 0xFFFF, no reflection, no final XOR. -/
def crc16 (l : List Nat) : Nat := l.foldl crc16Byte 0xFFFF

/-- One bit of the CRC-32C of R46 (polynomial 0x1EDC6F41, reflected: 0x82F63B78). -/
def crc32cBit (c : Nat) : Nat := if c % 2 = 1 then (c / 2) ^^^ 0x82F63B78 else c / 2

/-- One byte of the CRC-32C of R46. -/
def crc32cByte (c b : Nat) : Nat :=
  crc32cBit (crc32cBit (crc32cBit (crc32cBit (crc32cBit (crc32cBit (crc32cBit (crc32cBit (c ^^^ b))))))))

/-- R46: CRC-32C, reflected, initial value and final XOR 0xFFFFFFFF. -/
def crc32c (l : List Nat) : Nat := (l.foldl crc32cByte 0xFFFFFFFF) ^^^ 0xFFFFFFFF

/-- How many elements of a list satisfy a test. -/
def countIf {α : Type} (p : α → Bool) : List α → Nat
  | [] => 0
  | a :: t => (if p a then 1 else 0) + countIf p t

/-- The sum of a function over a list. -/
def sumOf {α : Type} (f : α → Nat) : List α → Nat
  | [] => 0
  | a :: t => f a + sumOf f t

end Sys2Proof
end

