-- ==== Sys2Proof/Machine/Formats.lean ====
section
/-! DEFINITION. FORMAT codes and the arithmetic the spec builds on them: rasters, frame rates, lane rates, media rates, fill
times, delay requirements (R56, R69, R70, R73, R130 to R134). Rates are exact: frame rates and bit rates are numbers over
1,001. -/

namespace Sys2Proof
namespace Fmt

/-- RASTER of a FORMAT code (Table 05.2). -/
def raster (f : Nat) : Nat := bitsOf f 12 4
/-- RATE of a FORMAT code. -/
def rate (f : Nat) : Nat := bitsOf f 8 4
/-- SAMPLING of a FORMAT code. -/
def sampling (f : Nat) : Nat := bitsOf f 5 3
/-- MAPPING of a FORMAT code. -/
def mapping (f : Nat) : Nat := bitsOf f 2 3

/-- Frame rate × 1,001 of a RATE code (Table 05.2): 24000/1001 Hz is 24000. -/
def fps1001 (r : Nat) : Nat :=
  match r with
  | 1 => 24000 | 2 => 24024 | 3 => 25025 | 4 => 30000 | 5 => 30030 | 6 => 50050 | 7 => 60000 | 8 => 60060
  | _ => 0

/-- Frames per second × 1,001 of a FORMAT. -/
def fps (f : Nat) : Nat := fps1001 (rate f)

/-- Nanoseconds × fps1001 in a frame: the frame period is this over `fps`. -/
def period1001 : Nat := 1001000000000

/-- The frame period in ns, rounded up; 1 s where the code gives no rate. -/
def periodNs (f : Nat) : Nat := if fps f = 0 then 1000000000 else ceilDiv period1001 (fps f)

/-- Total lines per frame, or per sub-image (Table 03.3). -/
def totalLines (f : Nat) : Nat :=
  match raster f with
  | 1 => 525 | 2 => 625 | 3 => 750 | _ => 1125

/-- The switching line (Table 03.3). -/
def switchLine (f : Nat) : Nat :=
  match raster f with
  | 1 => 10 | 2 => 6 | _ => 7

/-- Active samples per line. The 525-line and 625-line values are the family's (PRESUMED). -/
def width (f : Nat) : Nat :=
  match raster f with
  | 1 => 720 | 2 => 720 | 3 => 1280 | 4 => 1920 | 5 => 1920 | 6 => 1920 | 7 => 3840 | 8 => 7680 | _ => 0

/-- Active lines per frame. The 525-line value is the family's (PRESUMED). -/
def height (f : Nat) : Nat :=
  match raster f with
  | 1 => 486 | 2 => 576 | 3 => 720 | 4 => 1080 | 5 => 1080 | 6 => 1080 | 7 => 2160 | 8 => 4320 | _ => 0

/-- Total lines of the picture's raster standard (R186's ratio of active to total lines). -/
def rasterLines (f : Nat) : Nat :=
  match raster f with
  | 7 => 2250 | 8 => 4500 | _ => totalLines f

/-- Total samples per line as the raster standard defines them (PRESUMED: the standards' values). -/
def totalSamples (f : Nat) : Nat :=
  match raster f with
  | 1 => 858
  | 2 => 864
  | 3 => match rate f with | 6 => 1980 | _ => 1650
  | r =>
    let m := if r = 7 then 2 else if r = 8 then 4 else 1
    m * (match rate f with | 1 => 2750 | 2 => 2750 | 3 => 2640 | 6 => 2640 | _ => 2200)

/-- Bits per pixel of the active picture in ST 2110-20 pixel groups. -/
def bpp (f : Nat) : Nat :=
  match sampling f with
  | 0 => 20 | 1 => 30 | 2 => 30 | 3 => 36 | 4 => 36 | _ => 24

/-- Bytes of an ST 2110-20 pixel group (pgroup) of the sampling (PRESUMED: ST 2110-20's values). -/
def pgroup (f : Nat) : Nat :=
  match sampling f with
  | 0 => 5 | 1 => 15 | 2 => 15 | 3 => 9 | 4 => 9 | _ => 6

/-- Does the raster use an interlaced or segmented scan? -/
def interlaced (f : Nat) : Bool := raster f == 1 || raster f == 2 || raster f == 4 || raster f == 5

/-- Are every field's values ones Table 05.2 defines? -/
def defined (f : Nat) : Bool :=
  decide (1 ≤ raster f) && decide (raster f ≤ 8) && decide (1 ≤ rate f) && decide (rate f ≤ 8) && decide (sampling f ≤ 5)
    && decide (mapping f ≤ 5)

/-- Bytes of the active picture of one frame. -/
def activeBytes (f : Nat) : Nat := ceilDiv (width f * height f * bpp f) 8

/-- Active-picture bit rate × 1,001 (Table 02.5). -/
def active1001 (f : Nat) : Nat := width f * height f * bpp f * fps f

/-- Links and Mbit/s × 100 of the lane rate of an SDI FORMAT (Table 05.3); none where the combination is not supported. -/
def sdiLinks (f : Nat) : Option (Nat × Nat) :=
  if defined f = false then none
  else
    let r := raster f; let q := rate f; let s := sampling f; let m := mapping f
    let s444 := decide (1 ≤ s) && decide (s ≤ 4)
    let low := decide (1 ≤ q) && decide (q ≤ 5)
    let high := decide (6 ≤ q) && decide (q ≤ 8)
    let r15 := (r == 3 && high) || ((r == 4 || r == 5) && (q == 3 || q == 4 || q == 5)) || (r == 6 && low)
    if ((r = 1 ∧ q = 4) ∨ (r = 2 ∧ q = 3)) ∧ s = 0 ∧ m = 0 then some (1, 27000)
    else if r15 && s == 0 && m == 0 then some (1, 148500)
    else if r15 && s444 && m == 0 then some (1, 297000)
    else if r == 6 && high && s == 0 && (m == 0 || m == 1) then some (1, 297000)
    else if r == 6 && high && s444 && m == 2 then some (2, 297000)
    else if r == 7 && low && s == 0 && m == 2 then some (2, 297000)
    else if r == 7 && low && s == 0 && m == 0 then some (1, 594000)
    else if r == 7 && low && s444 && m == 0 then some (1, 1188000)
    else if r == 7 && high && s == 0 && m == 0 then some (1, 1188000)
    else if r == 7 && high && s == 0 && (m == 3 || m == 4) then some (4, 297000)
    else if r == 8 && s == 0 && m == 5 then some (4, 1188000)
    else none

/-- Links of an SDI FORMAT; 1 where it is not supported. -/
def links (f : Nat) : Nat := match sdiLinks f with | some p => p.1 | none => 1

/-- Bit rate × 1,001 of one link (Table 05.3; /1.001 for the rates R131 names, 270 Mbit/s apart). -/
def link1001 (f : Nat) : Nat :=
  match sdiLinks f with
  | none => 0
  | some p => p.2 * 10000 * (if p.2 ≠ 27000 ∧ (rate f = 1 ∨ rate f = 4 ∨ rate f = 7) then 1000 else 1001)

/-- Lane rate × 1,001 of the carried signal: the sum over its links (R134). -/
def lane1001 (f : Nat) : Nat := links f * link1001 f

/-- The RATE_CODE of Table 05.6 that a FORMAT's links run at. -/
def rateCode (f : Nat) : Nat :=
  let slow := ofBool (rate f == 1 || rate f == 4 || rate f == 7)
  match sdiLinks f with
  | some (_, 27000) => 1
  | some (_, 148500) => 2 + slow
  | some (_, 297000) => 4 + slow
  | some (_, 594000) => 6 + slow
  | some (_, 1188000) => 8 + slow
  | _ => 0

/-- Words per line of one link: its rate over the frame rate and the total lines, in 10-bit words (R148). -/
def linkWords (f : Nat) : Nat := link1001 f / (fps f * totalLines f * 10)

/-- Words per line of the interleaved stream (R134). -/
def lineWords (f : Nat) : Nat := links f * linkWords f

/-- Words per frame of the interleaved stream. -/
def frameWords (f : Nat) : Nat := lineWords f * totalLines f

/-- Bytes of one frame of all the links of an SDI output (R151). -/
def sdiFrameBytes (f : Nat) : Nat := ceilDiv (frameWords f * 10) 8

/-- Does an SDI cell whose n valid bits start at stream bit `b` hold the first bit of the word at frame word index `w`? -/
def holdsWord (f b n w : Nat) : Bool :=
  let p := frameWords f * 10
  if p = 0 then false
  else
    let t := 10 * w
    -- the distance from b up to the next occurrence of bit t of a frame
    decide ((t + p - b % p) % p < n)

/-- Does an SDI cell whose n valid bits start at stream bit `b` hold the last bit of a frame (Table 02.4)? -/
def holdsEnd (f b n : Nat) : Bool :=
  let p := frameWords f * 10
  if p = 0 then false else decide ((2 * p - 1 - b % p) % p < n)

/-- The valid bits of an SDI cell of `len` bytes from stream bit `b`: 2,048, or up to the last whole word (R51). -/
def sdiBits (b len : Nat) : Nat := if 256 ≤ len then 2048 else (b + 8 * len) / 10 * 10 - b

/-- Interface line (1-based) and word offset of the first word that starts in the cell at stream bit `b` (R51, Table 02.4). -/
def position (f b : Nat) : Nat × Nat :=
  let w := ceilDiv b 10 % frameWords f
  if lineWords f = 0 then (1, 0) else (w / lineWords f + 1, w % lineWords f)

/-! ## Carriage over IP and the ledger -/

/-- A reservation from a media payload rate × 1,001 in bit/s: × 288/256, rounded up to a whole Mbit/s (R25). -/
def reserve (rate1001 : Nat) : Nat := ceilDiv (rate1001 * 288) (256 * 1001 * 1000000)

/-- Ceiling of a bit rate × 1,001 in Mbit/s. -/
def mbps (rate1001 : Nat) : Nat := ceilDiv rate1001 (1001 * 1000000)

/-- Nanoseconds that n bits take at a rate × 1,001 in bit/s, rounded up. -/
def fillNs (n rate1001 : Nat) : Nat := if rate1001 = 0 then 0 else ceilDiv (n * 1001 * 1000000000) rate1001

/-- Components (Table 03.1) for a hop count. -/
def components (hops : Nat) : Nat := if hops = 0 then 215 else if hops = 1 then 1815 else 2615

/-- Floor (Table 03.1) for a hop count. -/
def floorNs (hops : Nat) : Nat := if hops = 0 then 1600 else if hops = 1 then 3200 else 4000

/-- The delay requirement for a fill time and a hop count (R69). -/
def requirement (fill hops : Nat) : Nat := max (floorNs hops) (fill + components hops)

end Fmt
end Sys2Proof
end

