-- ==== Sys2Proof/Machine/Assoc.lean ====
section
/-! DEFINITION. Sparse tables as ordered association lists: at most one entry for a key, in ascending key order, and no entry
equal to the key's default, so that equal tables are equal data. -/

namespace Sys2Proof

namespace Assoc

/-- The value listed for a key. -/
def find {κ β : Type} [DecidableEq κ] : List (κ × β) → κ → Option β
  | [], _ => none
  | (k', v) :: t, k => if k' = k then some v else find t k

/-- The table without a key. -/
def erase {κ β : Type} [DecidableEq κ] : List (κ × β) → κ → List (κ × β)
  | [], _ => []
  | (k', v) :: t, k => if k' = k then erase t k else (k', v) :: erase t k

/-- Insert a pair before the first greater key. -/
def insertAt {κ β : Type} (lt : κ → κ → Bool) : List (κ × β) → κ → β → List (κ × β)
  | [], k, v => [(k, v)]
  | (k', v') :: t, k, v => if lt k k' then (k, v) :: (k', v') :: t else (k', v') :: insertAt lt t k v

/-- The value at a key, the default where none is listed. -/
def get {κ β : Type} [DecidableEq κ] (l : List (κ × β)) (d : β) (k : κ) : β := (find l k).getD d

/-- Store a value at a key; the default is stored by listing nothing. -/
def put {κ β : Type} [DecidableEq κ] [DecidableEq β] (lt : κ → κ → Bool) (l : List (κ × β)) (d : β) (k : κ) (v : β) :
    List (κ × β) :=
  if v = d then erase l k else insertAt lt (erase l k) k v

/-- Keys strictly ascending. -/
def sorted {κ β : Type} (lt : κ → κ → Bool) : List (κ × β) → Bool
  | [] => true
  | [_] => true
  | (k, _) :: (k', v') :: t => lt k k' && sorted lt ((k', v') :: t)

end Assoc

/-- A sparse table over numbers. -/
abbrev NMap (β : Type) := List (Nat × β)

/-- The order of numbers as a test. -/
def natLt (a b : Nat) : Bool := decide (a < b)

/-- Read a sparse table over numbers. -/
def nget {β : Type} (m : NMap β) (d : β) (k : Nat) : β := Assoc.get m d k

/-- Write a sparse table over numbers. -/
def nput {β : Type} [DecidableEq β] (m : NMap β) (d : β) (k : Nat) (v : β) : NMap β := Assoc.put natLt m d k v

/-- The lexicographic order of keys: index, subindex, element (R407's directory order). -/
def Key.lt (a b : Key) : Bool :=
  decide (a.ix < b.ix) || (a.ix == b.ix && (decide (a.sub < b.sub) || (a.sub == b.sub && decide (a.el < b.el))))

end Sys2Proof
end

