-- ==== Sys2Proof/Config.lean ====
section
/-! DEFINITION. What one part fixes (its serial number, its keys) and the free values: what the spec leaves open while the
device goes on. Every constant here is opaque, so no proof can rest on a value of it. -/

namespace Sys2Proof

/-! ## Values fixed per part (Tables 15.12 and 16.14: "Per part") -/

/-- 0x0000.04 ORDERING_CODE, 16 bytes. -/
opaque Config.orderingCode : Nat
/-- 0x0000.05 STEPPING. -/
opaque Config.stepping : Nat
/-- 0x0000.06 SERIAL, 16 bytes. -/
opaque Config.serial : Nat
/-- The base MAC address held in the fuse array (R432). -/
opaque Config.baseMac : Nat
/-- The number of MAC addresses assigned, held in the fuse array (R432). -/
opaque Config.macCount : Nat
/-- 0x0000.0C IDENTITY_DIGEST, 32 bytes. -/
opaque Config.identityDigest : Nat
/-- 0x0200.03 IDENTITY_PUBLIC, 1,952 bytes (R439). -/
opaque Config.identityPublic : Nat
/-- 0x0200.04 VENDOR_CERT, 3,309 bytes (R440). -/
opaque Config.vendorCert : Nat
/-- The identity private key as the SEC stores it: the nonce of its wrapping, 12 bytes, and the wrapped key with its tag, 4,048 bytes
(R439, Table 16.2). -/
opaque Config.wrapNonce : Nat
opaque Config.identityWrapped : Nat
/-- The built-in LUT of slot k (Table 10.3), 215,642 bytes in the layout of Table 10.4. -/
opaque Config.builtInLut : Nat → Nat
/-- The factory delay set at element e of 0x0E10.03 DELAY_SETS, 64 bytes (Table 09.5). -/
opaque Config.factoryDelaySet : Nat → Nat
/-- The nominal delay set in ROM for element e (R524). -/
opaque Config.nominalDelaySet : Nat → Nat

/-- The manifest of the image set the part left manufacture with, 6,976 bytes (Table 16.10). -/
opaque Config.factoryManifest : Nat
/-- The measurement of the boot ROM and the SEC first stage, M0 (R450). -/
opaque Config.romMeasure : Nat

/-- The dies of a memory channel (R261 and R275 speak of each die and no table counts them). -/
opaque Config.channelDies : Nat
/-- The die of a channel that holds a row (R254 numbers rows and not dies). -/
opaque Config.rowDie : (row : Nat) → Nat
/-- The all-bank refresh interval in ns that a refresh-rate code of MR4 asks for (R261; the codes are those of JESD209-5C). -/
opaque Config.refreshInterval : (rate : Nat) → Nat
/-- The same at the fastest rate that MR4 defines (R261). -/
opaque Config.fastestRefresh : Nat
/-- The class and the number of the resource of island i (Table 19.15): the spec counts the islands and does not number them. -/
opaque Config.island : (i : Nat) → Nat × Nat
/-- Does a word of the fuse shadow hold the device key (Table 18.8)? -/
opaque Config.fuseKeyWord : (word : Nat) → Bool
/-- The VDD_CORE target in mV that the fused speed grade gives at a junction temperature in °C (R547), before it is held within 650
to 800 mV in steps of 5 mV. -/
opaque Config.avsTarget : (celsius : Int) → Nat
/-- The knot entries made at manufacture, held in the fuse repair words (R524): kind, action, number, spare. -/
opaque Config.fuseRepairs : List (Nat × Nat × Nat × Nat)

/-! ## Free values -/

/-- A free value: draw number n of a quantity the spec leaves open (a random number, a measured quantity, a servo's
correction). State's counter `freeIdx` names the draw, so that every draw is a fresh one. -/
opaque Config.free : Nat → Nat

/-- What a lane's equaliser has settled on when the model's clock reads t: CTLE_CODE and DFE_H1_MV (Table 08.8; R232 says when it
adapts and not to what). -/
opaque Config.equaliser : (lane t : Nat) → Nat × Nat

/-- The four data bytes of the payload identifier (ST 352) of a FORMAT (R143). -/
opaque Config.payloadId : (format : Nat) → Nat

/-- The 8-byte high-bit-rate media header of ST 2022-6 for a FORMAT and the count of frames sent (R183). -/
opaque Config.mediaHeader : (format count : Nat) → Nat

/-- Data i of the audio data packet (ST 299-1, ST 299-2) of a group that carries the words of its four channels, and of the group's
audio control packet (R353). -/
opaque Config.audioData : (group i : Nat) → (words : List Nat) → Nat
opaque Config.audioCtrl : (group i : Nat) → Nat

/-- The sample that stands for a real value (× 2^128) half way between two samples: R358 does not say which way it rounds. -/
opaque Config.halfRound : Int → Int

/-- The sample that stands for the exact result (× 2^128) of a gain or a fade: R344 and R96 do not say how it is rounded. -/
opaque Config.rounded : Int → Int

/-- The colour (three components of 10 bits, in the head's SAMPLING) of pixel (x, y) of frame n of a layer engine's store: the spec names
the filters that make it and not their coefficients (R322). -/
opaque Config.layerPixel : (engine n x y : Nat) → Nat

/-! ## Cryptographic primitives, named by the spec and not defined by it -/

/-- The SHAKE256 digest of an octet string, 32 bytes. -/
opaque Config.shake256 : Bytes → Nat
/-- The first n bytes of the SHAKE256 output over an octet string. -/
opaque Config.shake256Long : (n : Nat) → Bytes → Nat
/-- The Scenois firmware key held in ROM (R455). -/
opaque Config.firmwareKey : Nat
/-- ML-DSA-65: does the signature verify over the message under the public key? -/
opaque Config.mldsaVerify : (key : Nat) → (msg : Bytes) → (sig : Nat) → Bool
/-- ML-DSA-65: the signature the identity key makes over a message (R439). -/
opaque Config.identitySign : Bytes → Nat
/-- AES-256-GCM (R410): the encryption of a text under a key and a 12-byte nonce with additional data, its 16-byte tag behind it. -/
opaque Config.gcmSeal : (key nonce : Nat) → (aad text : Bytes) → Nat
/-- ML-KEM-768: the encapsulation key of the key pair made for a draw, 1,184 bytes. -/
opaque Config.kemKey : (draw : Nat) → Nat
/-- ML-KEM-768: the shared secret that ciphertext gives under the key pair of a draw, 32 bytes; none where it fails. -/
opaque Config.kemDecaps : (draw : Nat) → (ct : Nat) → Option Nat

end Sys2Proof
end

