-- ==== Sys2Proof/Machine/Dict.lean ====
section
/-! DEFINITION. The object dictionary as the spec's entry tables give it: type, size, access kind, persistence, role,
default and the checks a write must pass (R3, R6, R8 to R12, R407). -/

namespace Sys2Proof
namespace Dict

/-- A range check on bits `lo` to `lo + w − 1`: the value must lie in one of the intervals. -/
structure Part where
  lo : Nat
  w : Nat
  ok : List (Nat × Nat)
  deriving DecidableEq, Repr

/-- What a write to an entry must satisfy beyond its length: bits outside `mask` are reserved (R6), each part lies in
its range, and a STR entry holds UTF-8 (R9). -/
structure Chk where
  mask : Option Nat := none
  parts : List Part := []
  utf8 : Bool := false
  deriving DecidableEq, Repr

/-- One row of an entry table. `ty` is the TYPE code of Table 15.1, `size` the value size or the largest DOM size in bytes,
`elem` the DOM element size (0 for a whole object), `acc` the ACCESS code of Table 15.1 (0 RO, 1 RW, 2 WO, 3 RC, 4 CW),
`role` the ROLE code (0 VIEW to 4 OWNER), `dflt` the default of the value or of each element. -/
structure Row where
  ix : Nat
  rep : Nat
  sub : Nat
  ty : Nat
  size : Nat
  elem : Nat
  acc : Nat
  pers : Bool
  role : Nat
  dflt : Nat
  chk : Chk := {}
  deriving DecidableEq, Repr

/-- Record Ident: Table 15.12. -/
def rowsIdent : List Row := [
  ⟨0x0000, 1, 0x00, 2, 1, 0, 0, false, 0, 0xF, {}⟩,  -- HIGHEST_SUB
  ⟨0x0000, 1, 0x01, 2, 1, 0, 1, true, 3, 0, { parts := [⟨0, 8, [(0, 0)]⟩] }⟩,  -- MODE
  ⟨0x0000, 1, 0x02, 11, 16, 0, 0, false, 0, 0x5363656E6F6973000000000000000000, {}⟩,  -- VENDOR
  ⟨0x0000, 1, 0x03, 11, 16, 0, 0, false, 0, 0x54583836343000000000000000000000, {}⟩,  -- PRODUCT
  ⟨0x0000, 1, 0x04, 11, 16, 0, 0, false, 0, Config.orderingCode, {}⟩,  -- ORDERING_CODE
  ⟨0x0000, 1, 0x05, 3, 2, 0, 0, false, 0, Config.stepping, {}⟩,  -- STEPPING
  ⟨0x0000, 1, 0x06, 12, 16, 0, 0, false, 0, Config.serial, {}⟩,  -- SERIAL
  ⟨0x0000, 1, 0x07, 11, 32, 0, 4, true, 3, 0, { utf8 := true }⟩,  -- FRAME_ID
  ⟨0x0000, 1, 0x08, 11, 32, 0, 0, false, 0, 0, {}⟩,  -- FRAME_ID_IN_USE
  ⟨0x0000, 1, 0x09, 11, 32, 0, 1, true, 2, 0, { utf8 := true }⟩,  -- DEVICE_LABEL
  ⟨0x0000, 1, 0x0A, 12, 6, 0, 0, false, 0, Config.baseMac, {}⟩,  -- BASE_MAC
  ⟨0x0000, 1, 0x0B, 2, 1, 0, 0, false, 0, Config.macCount, {}⟩,  -- MAC_COUNT
  ⟨0x0000, 1, 0x0C, 12, 32, 0, 0, false, 0, Config.identityDigest, {}⟩,  -- IDENTITY_DIGEST
  ⟨0x0000, 1, 0x0D, 5, 8, 0, 0, false, 0, 0, {}⟩,  -- UPTIME_S
  ⟨0x0000, 1, 0x0E, 4, 4, 0, 0, true, 0, 0, {}⟩,  -- BOOT_COUNT
  ⟨0x0000, 1, 0x0F, 3, 2, 0, 0, false, 0, 1, {}⟩]  -- DICT_LAYOUT

/-- Record Direc: Table 15.12. -/
def rowsDirec : List Row := [
  ⟨0x0001, 1, 0x00, 2, 1, 0, 0, false, 0, 2, {}⟩,  -- HIGHEST_SUB
  ⟨0x0001, 1, 0x01, 13, 16384, 16, 0, false, 0, 0, {}⟩,  -- DIRECTORY
  ⟨0x0001, 1, 0x02, 3, 2, 0, 0, false, 0, 0, {}⟩]  -- DIRECTORY_COUNT

/-- Record Rcp: Table 15.13. -/
def rowsRcp : List Row := [
  ⟨0x0100, 1, 0x00, 2, 1, 0, 0, false, 0, 0x11, {}⟩,  -- HIGHEST_SUB
  ⟨0x0100, 1, 0x01, 2, 1, 0, 1, true, 3, 0, { parts := [⟨0, 8, [(0, 0)]⟩] }⟩,  -- MODE
  ⟨0x0100, 1, 0x02, 3, 2, 0, 4, true, 3, 0x166C, { parts := [⟨0, 16, [(1024, 65535)]⟩] }⟩,  -- RCP_UDP_PORT
  ⟨0x0100, 1, 0x03, 3, 2, 0, 4, true, 3, 0x3C, { parts := [⟨0, 16, [(10, 3600)]⟩] }⟩,  -- SESSION_IDLE_S
  ⟨0x0100, 1, 0x04, 3, 2, 0, 4, true, 3, 0x1E, { parts := [⟨0, 16, [(5, 600)]⟩] }⟩,  -- GROUP_IDLE_S
  ⟨0x0100, 1, 0x05, 1, 1, 0, 4, true, 4, 0, { parts := [⟨0, 8, [(0, 1)]⟩] }⟩,  -- ANON_VIEW
  ⟨0x0100, 1, 0x06, 3, 2, 0, 4, true, 3, 0x3C, { parts := [⟨0, 16, [(0, 0), (10, 3600)]⟩] }⟩,  -- MG_CONFIRM_S
  ⟨0x0100, 1, 0x07, 2, 1, 0, 0, false, 0, 0, {}⟩,  -- SESSIONS_OPEN
  ⟨0x0100, 1, 0x08, 4, 4, 0, 0, false, 0, 0, {}⟩,  -- GROUP_HOLDER
  ⟨0x0100, 1, 0x09, 3, 2, 0, 0, false, 0, 0, {}⟩,  -- GROUP_ENTRIES
  ⟨0x0100, 1, 0x0A, 4, 4, 0, 0, false, 0, 0, {}⟩,  -- GROUP_BYTES
  ⟨0x0100, 1, 0x0B, 1, 1, 0, 2, false, 3, 0, { parts := [⟨0, 8, [(1, 1)]⟩] }⟩,  -- GROUP_ABORT
  ⟨0x0100, 1, 0x0C, 5, 8, 0, 0, true, 0, 0, {}⟩,  -- COMMIT_GENERATION
  ⟨0x0100, 1, 0x0D, 2, 1, 0, 0, false, 0, 0, {}⟩,  -- JOURNAL_USED_PCT
  ⟨0x0100, 1, 0x0E, 4, 4, 0, 3, false, 0, 0, {}⟩,  -- NOTIFY_LOST
  ⟨0x0100, 1, 0x0F, 4, 4, 0, 3, false, 0, 0, {}⟩,  -- FRAMES_DROPPED
  ⟨0x0100, 1, 0x10, 4, 4, 0, 3, false, 0, 0, {}⟩,  -- AUTH_FAILURES
  ⟨0x0100, 1, 0x11, 4, 4, 0, 3, false, 0, 0, {}⟩]  -- RETRANSMITS

/-- Record Mg: Table 15.13. -/
def rowsMg : List Row := [
  ⟨0x0110, 1, 0x00, 2, 1, 0, 0, false, 0, 4, {}⟩,  -- HIGHEST_SUB
  ⟨0x0110, 1, 0x01, 13, 96, 48, 4, true, 3, 0x8000000000000000000000000000000000000000000000000000000000000000000000000000000000000000E0000000, { mask := some 0xFFFFFFFFFFFFFFFFFFFFFFFFFFFFFFFFFFFFFFFFFFFFFFFFFFFFFFFFFFFFFFFFFFFFFFFFFFFFFFFFFFFFFFFFE0000000, parts := [⟨368, 12, [(0, 4094)]⟩, ⟨360, 8, [(0, 32)]⟩, ⟨352, 8, [(0, 128)]⟩] }⟩,  -- MG_CFG
  ⟨0x0110, 1, 0x02, 13, 32, 16, 0, false, 0, 0, {}⟩,  -- MG_STATUS
  ⟨0x0110, 1, 0x03, 13, 64, 32, 3, false, 0, 0, {}⟩,  -- MG_COUNTERS
  ⟨0x0110, 1, 0x04, 12, 32, 0, 4, true, 3, 0, {}⟩]  -- INBAND_IF

/-- Record Sess: Table 15.13. -/
def rowsSess : List Row := [
  ⟨0x0120, 1, 0x00, 2, 1, 0, 0, false, 0, 1, {}⟩,  -- HIGHEST_SUB
  ⟨0x0120, 1, 0x01, 13, 512, 32, 0, false, 3, 0, {}⟩]  -- SESSION_TABLE

/-- Record Sec: Table 16.14. -/
def rowsSec : List Row := [
  ⟨0x0200, 1, 0x00, 2, 1, 0, 0, false, 0, 0x11, {}⟩,  -- HIGHEST_SUB
  ⟨0x0200, 1, 0x01, 2, 1, 0, 1, true, 3, 0, { parts := [⟨0, 8, [(0, 0)]⟩] }⟩,  -- MODE
  ⟨0x0200, 1, 0x02, 2, 1, 0, 0, false, 0, 0, {}⟩,  -- OWNER_STATE
  ⟨0x0200, 1, 0x03, 12, 1952, 0, 0, false, 0, Config.identityPublic, {}⟩,  -- IDENTITY_PUBLIC
  ⟨0x0200, 1, 0x04, 12, 3309, 0, 0, false, 0, Config.vendorCert, {}⟩,  -- VENDOR_CERT
  ⟨0x0200, 1, 0x05, 12, 1952, 0, 0, false, 0, 0, {}⟩,  -- OWNER_PUBLIC
  ⟨0x0200, 1, 0x06, 12, 32, 0, 4, true, 4, 0x8180000000000000000000000000000000000000000000000000000000000000, { mask := some 0xFF800000FFFFFFFF000000000000000000000000000000000000000000000000, parts := [⟨247, 3, [(3, 4)]⟩] }⟩,  -- POLICY
  ⟨0x0200, 1, 0x07, 12, 32, 0, 0, false, 0, 0, {}⟩,  -- OWNER_NONCE
  ⟨0x0200, 1, 0x08, 13, 8644, 0, 2, false, 3, 0, {}⟩,  -- OWNER_CMD
  ⟨0x0200, 1, 0x09, 3, 2, 0, 0, false, 0, 0, {}⟩,  -- ENROL_WINDOW_S
  ⟨0x0200, 1, 0x0A, 5, 8, 0, 0, false, 0, 0, {}⟩,  -- OWNER_GENERATION
  ⟨0x0200, 1, 0x0B, 12, 32, 0, 2, false, 0, 0, {}⟩,  -- ATTEST_NONCE
  ⟨0x0200, 1, 0x0C, 13, 3701, 0, 0, false, 0, 0, {}⟩,  -- ATTEST_QUOTE
  ⟨0x0200, 1, 0x0D, 13, 320, 32, 0, false, 0, 0, {}⟩,  -- MEASUREMENTS
  ⟨0x0200, 1, 0x0E, 2, 1, 0, 0, false, 0, 0, {}⟩,  -- DEBUG_STATE
  ⟨0x0200, 1, 0x0F, 13, 3360, 0, 2, false, 4, 0, {}⟩,  -- DEBUG_TOKEN
  ⟨0x0200, 1, 0x10, 2, 1, 0, 0, false, 0, 0, {}⟩,  -- ARC
  ⟨0x0200, 1, 0x11, 4, 4, 0, 3, false, 0, 0, {}⟩]  -- OPEN_FAILURES

/-- Record Upd: Table 16.15. -/
def rowsUpd : List Row := [
  ⟨0x0300, 1, 0x00, 2, 1, 0, 0, false, 0, 0xE, {}⟩,  -- HIGHEST_SUB
  ⟨0x0300, 1, 0x01, 2, 1, 0, 1, true, 3, 0, { parts := [⟨0, 8, [(0, 0)]⟩] }⟩,  -- MODE
  ⟨0x0300, 1, 0x02, 12, 4, 0, 2, false, 3, 0, {}⟩,  -- UPDATE_CMD
  ⟨0x0300, 1, 0x03, 2, 1, 0, 0, false, 0, 0, {}⟩,  -- UPDATE_STATE
  ⟨0x0300, 1, 0x04, 4, 4, 0, 0, false, 0, 0, {}⟩,  -- UPDATE_HOLDER
  ⟨0x0300, 1, 0x05, 3, 2, 0, 4, true, 3, 0x78, { parts := [⟨0, 16, [(10, 3600)]⟩] }⟩,  -- UPDATE_IDLE_S
  ⟨0x0300, 1, 0x06, 13, 6976, 0, 2, false, 3, 0, {}⟩,  -- MANIFEST_IN
  ⟨0x0300, 1, 0x07, 2, 1, 0, 0, false, 0, 0, {}⟩,  -- CONFIRMED_SLOT
  ⟨0x0300, 1, 0x08, 2, 1, 0, 0, false, 0, 0xFF, {}⟩,  -- TRIAL_SLOT
  ⟨0x0300, 1, 0x09, 4, 4, 0, 4, true, 3, 0x258, { parts := [⟨0, 32, [(60, 86400)]⟩] }⟩,  -- TRIAL_S
  ⟨0x0300, 1, 0x0A, 1, 1, 0, 4, true, 3, 0, { parts := [⟨0, 8, [(0, 1)]⟩] }⟩,  -- AUTO_ACCEPT
  ⟨0x0300, 1, 0x0B, 4, 4, 0, 0, false, 0, 0, {}⟩,  -- TRIAL_LEFT_S
  ⟨0x0300, 1, 0x0C, 1, 1, 0, 0, false, 0, 0, {}⟩,  -- SETTINGS_DEFAULTED
  ⟨0x0300, 1, 0x0D, 4, 4, 0, 0, false, 0, 0, {}⟩,  -- FALLBACKS
  ⟨0x0300, 1, 0x0E, 2, 1, 0, 0, false, 0, 0, {}⟩]  -- LAST_RESULT

/-- Record Img: Table 16.15. -/
def rowsImg : List Row := [
  ⟨0x0301, 1, 0x00, 2, 1, 0, 0, false, 0, 5, {}⟩,  -- HIGHEST_SUB
  ⟨0x0301, 1, 0x01, 13, 16777216, 0, 2, false, 3, 0, {}⟩,  -- IMAGE_MGT
  ⟨0x0301, 1, 0x02, 13, 16777216, 0, 2, false, 3, 0, {}⟩,  -- IMAGE_LNC
  ⟨0x0301, 1, 0x03, 13, 16777216, 0, 2, false, 3, 0, {}⟩,  -- IMAGE_MEM
  ⟨0x0301, 1, 0x04, 13, 16777216, 0, 2, false, 3, 0, {}⟩,  -- IMAGE_TMC
  ⟨0x0301, 1, 0x05, 13, 16777216, 0, 2, false, 3, 0, {}⟩]  -- IMAGE_SEC

/-- Record Slot: Table 16.15. -/
def rowsSlot : List Row := [
  ⟨0x0310, 1, 0x00, 2, 1, 0, 0, false, 0, 3, {}⟩,  -- HIGHEST_SUB
  ⟨0x0310, 1, 0x01, 13, 96, 32, 0, false, 0, 0, {}⟩,  -- SLOT_STATUS
  ⟨0x0310, 1, 0x02, 13, 20928, 6976, 0, false, 0, 0, {}⟩,  -- SLOT_MANIFEST
  ⟨0x0310, 1, 0x03, 13, 80, 16, 0, false, 0, 0, {}⟩]  -- IMAGE_STATUS

/-- Record Flt: Table 17.6. -/
def rowsFlt : List Row := [
  ⟨0x0400, 1, 0x00, 2, 1, 0, 0, false, 0, 0xB, {}⟩,  -- HIGHEST_SUB
  ⟨0x0400, 1, 0x01, 2, 1, 0, 1, true, 3, 0, { parts := [⟨0, 8, [(0, 1)]⟩] }⟩,  -- MODE
  ⟨0x0400, 1, 0x02, 12, 8, 0, 2, false, 2, 0, {}⟩,  -- FAULT_CMD
  ⟨0x0400, 1, 0x03, 2, 1, 0, 4, true, 3, 2, { parts := [⟨0, 8, [(0, 3)]⟩] }⟩,  -- CAPTURE_MIN_SEV
  ⟨0x0400, 1, 0x04, 3, 2, 0, 4, true, 3, 0x64, { parts := [⟨0, 16, [(1, 10000)]⟩] }⟩,  -- ERRN_MIN_US
  ⟨0x0400, 1, 0x05, 12, 16, 0, 0, false, 0, 0, {}⟩,  -- FIRST_ERROR
  ⟨0x0400, 1, 0x06, 4, 4, 0, 0, false, 0, 0, {}⟩,  -- PENDING_GROUPS
  ⟨0x0400, 1, 0x07, 3, 2, 0, 0, false, 0, 0, {}⟩,  -- PENDING_COUNT
  ⟨0x0400, 1, 0x08, 1, 1, 0, 0, false, 0, 0, {}⟩,  -- ERRN_STATE
  ⟨0x0400, 1, 0x09, 2, 1, 0, 0, false, 0, 3, {}⟩,  -- BLKRST_LIMIT
  ⟨0x0400, 1, 0x0A, 3, 2, 0, 0, false, 0, 0, {}⟩,  -- SAFE_FORCED
  ⟨0x0400, 1, 0x0B, 1, 1, 0, 0, false, 0, 0, {}⟩]  -- INJECT_ALLOWED

/-- Record Src: Table 17.6. -/
def rowsSrc : List Row := [
  ⟨0x0410, 1, 0x00, 2, 1, 0, 0, false, 0, 2, {}⟩,  -- HIGHEST_SUB
  ⟨0x0410, 1, 0x01, 13, 2048, 4, 4, true, 3, 0, { mask := some 0xFFC00000 }⟩,  -- SOURCE_CFG
  ⟨0x0410, 1, 0x02, 13, 8192, 16, 0, false, 0, 0, {}⟩]  -- SOURCE_STATUS

/-- Record Summ: Table 17.6. -/
def rowsSumm : List Row := [
  ⟨0x0420, 1, 0x00, 2, 1, 0, 0, false, 0, 1, {}⟩,  -- HIGHEST_SUB
  ⟨0x0420, 1, 0x01, 12, 8, 0, 0, false, 0, 0, {}⟩]  -- SUMMARY

/-- Record Pwr: Table 19.13. -/
def rowsPwr : List Row := [
  ⟨0x0500, 1, 0x00, 2, 1, 0, 0, false, 0, 6, {}⟩,  -- HIGHEST_SUB
  ⟨0x0500, 1, 0x01, 2, 1, 0, 1, true, 3, 0, { parts := [⟨0, 8, [(0, 1)]⟩] }⟩,  -- MODE
  ⟨0x0500, 1, 0x02, 4, 4, 0, 4, true, 3, 0x3E8, { parts := [⟨0, 32, [(100, 100000)]⟩] }⟩,  -- HORIZON_GUARD_NS
  ⟨0x0500, 1, 0x03, 2, 1, 0, 0, false, 0, 0x8E, {}⟩,  -- ISLANDS
  ⟨0x0500, 1, 0x04, 2, 1, 0, 0, false, 0, 0, {}⟩,  -- ISLANDS_ACTIVE
  ⟨0x0500, 1, 0x05, 4, 4, 0, 3, false, 0, 0, {}⟩,  -- WAKE_LATE
  ⟨0x0500, 1, 0x06, 4, 4, 0, 0, false, 0, 0, {}⟩]  -- PWR_WARNS

/-- Record Rst: Table 18.11. -/
def rowsRst : List Row := [
  ⟨0x0510, 1, 0x00, 2, 1, 0, 0, false, 0, 0xB, {}⟩,  -- HIGHEST_SUB
  ⟨0x0510, 1, 0x01, 12, 4, 0, 2, false, 3, 0, {}⟩,  -- RESET_CMD
  ⟨0x0510, 1, 0x02, 12, 16, 0, 0, false, 0, 0, {}⟩,  -- RESET_CAUSE
  ⟨0x0510, 1, 0x03, 13, 20, 4, 0, false, 0, 0, {}⟩,  -- RESET_COUNTS
  ⟨0x0510, 1, 0x04, 2, 1, 0, 4, true, 3, 2, { parts := [⟨0, 8, [(1, 2)]⟩] }⟩,  -- RST_N_REACH
  ⟨0x0510, 1, 0x05, 2, 1, 0, 4, true, 3, 6, { mask := some 6 }⟩,  -- RSTN_OUT_MASK
  ⟨0x0510, 1, 0x06, 3, 2, 0, 4, true, 3, 0x64, { parts := [⟨0, 16, [(10, 10000)]⟩] }⟩,  -- RSTN_OUT_US
  ⟨0x0510, 1, 0x07, 2, 1, 0, 0, false, 0, 0, {}⟩,  -- STARTUP_STAGE
  ⟨0x0510, 1, 0x08, 13, 32, 4, 0, false, 0, 0, {}⟩,  -- STARTUP_MS
  ⟨0x0510, 1, 0x09, 4, 4, 0, 0, false, 0, 0, {}⟩,  -- TRIM_RESULT
  ⟨0x0510, 1, 0x0A, 2, 1, 0, 0, false, 0, 0, {}⟩,  -- STRAPS
  ⟨0x0510, 1, 0x0B, 3, 2, 0, 0, false, 0, 0x3E8, {}⟩]  -- WATCHDOG_MS

/-- Record Isl: Table 19.13. -/
def rowsIsl : List Row := [
  ⟨0x0520, 1, 0x00, 2, 1, 0, 0, false, 0, 2, {}⟩,  -- HIGHEST_SUB
  ⟨0x0520, 1, 0x01, 13, 1280, 8, 0, false, 0, 0, {}⟩,  -- ISLAND_STATUS
  ⟨0x0520, 1, 0x02, 13, 160, 1, 1, false, 3, 0, { mask := some 0x87 }⟩]  -- ISLAND_REQUEST

/-- Record Time: Table 13.4. -/
def rowsTime : List Row := [
  ⟨0x0600, 1, 0x00, 2, 1, 0, 0, false, 0, 0x12, {}⟩,  -- HIGHEST_SUB
  ⟨0x0600, 1, 0x01, 2, 1, 0, 1, true, 3, 0, { parts := [⟨0, 8, [(0, 1)]⟩] }⟩,  -- MODE
  ⟨0x0600, 1, 0x02, 5, 8, 0, 0, false, 0, 0, {}⟩,  -- RAW
  ⟨0x0600, 1, 0x03, 10, 8, 0, 0, false, 0, 0, {}⟩,  -- DEVICE_TIME
  ⟨0x0600, 1, 0x04, 10, 8, 0, 0, false, 0, 0, {}⟩,  -- OFFSET
  ⟨0x0600, 1, 0x05, 7, 8, 0, 0, false, 0, 0, {}⟩,  -- RATE
  ⟨0x0600, 1, 0x06, 5, 8, 0, 0, false, 0, 0, {}⟩,  -- RATE_EPOCH
  ⟨0x0600, 1, 0x07, 2, 1, 0, 0, false, 0, 0, {}⟩,  -- SERVO_STATE
  ⟨0x0600, 1, 0x08, 12, 9, 0, 2, false, 3, 0, {}⟩,  -- SERVO_CMD
  ⟨0x0600, 1, 0x09, 2, 1, 0, 4, true, 3, 0, { parts := [⟨0, 8, [(0, 2)]⟩] }⟩,  -- STEP_POLICY
  ⟨0x0600, 1, 0x0A, 4, 4, 0, 4, true, 3, 0x3E8, { parts := [⟨0, 32, [(100, 1000000000)]⟩] }⟩,  -- STEP_THRESHOLD_NS
  ⟨0x0600, 1, 0x0B, 4, 4, 0, 4, true, 3, 0x64, { parts := [⟨0, 32, [(10, 100000)]⟩] }⟩,  -- LOCK_THRESHOLD_NS
  ⟨0x0600, 1, 0x0C, 3, 2, 0, 4, true, 3, 0x64, { parts := [⟨0, 16, [(10, 10000)]⟩] }⟩,  -- LOOP_BW_MHZ
  ⟨0x0600, 1, 0x0D, 3, 2, 0, 4, true, 3, 0x1F4, { parts := [⟨0, 16, [(1, 10000)]⟩] }⟩,  -- MAX_SLOPE_PPB_S
  ⟨0x0600, 1, 0x0E, 3, 2, 0, 4, true, 3, 0x64, { parts := [⟨0, 16, [(1, 500)]⟩] }⟩,  -- MAX_RATE_PPM
  ⟨0x0600, 1, 0x0F, 4, 4, 0, 0, false, 0, 0, {}⟩,  -- STEPS
  ⟨0x0600, 1, 0x10, 3, 2, 0, 0, false, 0, 0x25, {}⟩,  -- UTC_OFFSET_S
  ⟨0x0600, 1, 0x11, 3, 2, 0, 4, true, 2, 0x25, { parts := [⟨0, 16, [(0, 255)]⟩] }⟩,  -- UTC_OFFSET_DEFAULT_S
  ⟨0x0600, 1, 0x12, 7, 8, 0, 0, false, 0, 0, {}⟩]  -- OFFSET_NS

/-- Record Ptp: Table 13.5. -/
def rowsPtp : List Row := [
  ⟨0x0610, 1, 0x00, 2, 1, 0, 0, false, 0, 0xD, {}⟩,  -- HIGHEST_SUB
  ⟨0x0610, 1, 0x01, 1, 1, 0, 4, true, 3, 0, { parts := [⟨0, 8, [(0, 1)]⟩] }⟩,  -- PTP_ENABLE
  ⟨0x0610, 1, 0x02, 2, 1, 0, 4, true, 3, 0, { parts := [⟨0, 8, [(0, 1)]⟩] }⟩,  -- PROFILE
  ⟨0x0610, 1, 0x03, 2, 1, 0, 4, true, 3, 0x7F, { parts := [⟨0, 8, [(0, 127)]⟩] }⟩,  -- DOMAIN
  ⟨0x0610, 1, 0x04, 2, 1, 0, 4, true, 3, 0xFF, { parts := [⟨0, 8, [(0, 255), (255, 255)]⟩] }⟩,  -- IF_A
  ⟨0x0610, 1, 0x05, 2, 1, 0, 4, true, 3, 0xFF, { parts := [⟨0, 8, [(0, 255), (255, 255)]⟩] }⟩,  -- IF_B
  ⟨0x0610, 1, 0x06, 2, 1, 0, 4, true, 3, 0, { parts := [⟨0, 8, [(0, 1)]⟩] }⟩,  -- DELAY_MECH
  ⟨0x0610, 1, 0x07, 6, 4, 0, 4, true, 3, 0xFFFFFFFD, { parts := [⟨0, 32, [(0, 4), (4294967289, 4294967295)]⟩] }⟩,  -- LOG_DELAY_REQ
  ⟨0x0610, 1, 0x08, 1, 1, 0, 4, true, 3, 0, { parts := [⟨0, 8, [(0, 1)]⟩] }⟩,  -- DELAY_UNICAST
  ⟨0x0610, 1, 0x09, 2, 1, 0, 4, true, 3, 3, { parts := [⟨0, 8, [(2, 10)]⟩] }⟩,  -- ANNOUNCE_TIMEOUT
  ⟨0x0610, 1, 0x0A, 12, 24, 0, 0, false, 0, 0, {}⟩,  -- PTP_STATUS
  ⟨0x0610, 1, 0x0B, 12, 32, 0, 3, false, 0, 0, {}⟩,  -- PTP_COUNTERS
  ⟨0x0610, 1, 0x0C, 12, 40, 0, 0, false, 0, 0, {}⟩,  -- PTP_SAMPLE
  ⟨0x0610, 1, 0x0D, 13, 384, 12, 4, true, 2, 0, {}⟩]  -- TS_CORR

/-- Record Tc: Table 13.5. -/
def rowsTc : List Row := [
  ⟨0x0620, 1, 0x00, 2, 1, 0, 0, false, 0, 7, {}⟩,  -- HIGHEST_SUB
  ⟨0x0620, 1, 0x01, 1, 1, 0, 4, true, 3, 0, { parts := [⟨0, 8, [(0, 1)]⟩] }⟩,  -- TC_ENABLE
  ⟨0x0620, 1, 0x02, 12, 32, 0, 4, true, 3, 0, {}⟩,  -- TC_PORTS
  ⟨0x0620, 1, 0x03, 2, 1, 0, 4, true, 3, 0x7F, { parts := [⟨0, 8, [(0, 127)]⟩] }⟩,  -- TC_DOMAIN
  ⟨0x0620, 1, 0x04, 2, 1, 0, 4, true, 3, 0, { parts := [⟨0, 8, [(0, 1)]⟩] }⟩,  -- TC_MECH
  ⟨0x0620, 1, 0x05, 4, 4, 0, 3, false, 0, 0, {}⟩,  -- TC_RELAYED
  ⟨0x0620, 1, 0x06, 4, 4, 0, 3, false, 0, 0, {}⟩,  -- TC_DROPPED
  ⟨0x0620, 1, 0x07, 13, 128, 4, 0, false, 0, 0, {}⟩]  -- MEAN_LINK_DELAY

/-- Record TimeOut: Table 13.5. -/
def rowsTimeOut : List Row := [
  ⟨0x0630, 1, 0x00, 2, 1, 0, 0, false, 0, 2, {}⟩,  -- HIGHEST_SUB
  ⟨0x0630, 1, 0x01, 5, 8, 0, 4, true, 2, 0, { mask := some 0xC00FFFFFFFFFFFFF, parts := [⟨32, 20, [(0, 500000)]⟩, ⟨0, 32, [(0, 999999999)]⟩] }⟩,  -- PPS_CFG
  ⟨0x0630, 1, 0x02, 13, 48, 24, 4, true, 2, 0, { mask := some 0xE000FFFFFFFFFFFFFFFFFFFFFFFFFFFFFFFFFFFFFFFFFFFF }⟩]  -- TIMEPULSE_CFG

/-- Record RefArea: Table 14.7. -/
def rowsRefArea : List Row := [
  ⟨0x0700, 1, 0x00, 2, 1, 0, 0, false, 0, 0xD, {}⟩,  -- HIGHEST_SUB
  ⟨0x0700, 1, 0x01, 2, 1, 0, 1, true, 3, 0, { parts := [⟨0, 8, [(0, 1)]⟩] }⟩,  -- MODE
  ⟨0x0700, 1, 0x02, 4, 4, 0, 4, true, 3, 0x2710, { parts := [⟨0, 32, [(1000, 100000)]⟩] }⟩,  -- BW_H_MHZ
  ⟨0x0700, 1, 0x03, 4, 4, 0, 4, true, 3, 0x3E8, { parts := [⟨0, 32, [(100, 1000)]⟩] }⟩,  -- BW_F_MHZ
  ⟨0x0700, 1, 0x04, 4, 4, 0, 4, true, 3, 0x64, { parts := [⟨0, 32, [(1, 10000)]⟩] }⟩,  -- BW_10M_MHZ
  ⟨0x0700, 1, 0x05, 4, 4, 0, 4, true, 3, 0xA, { parts := [⟨0, 32, [(1, 50)]⟩] }⟩,  -- BW_PPS_MHZ
  ⟨0x0700, 1, 0x06, 4, 4, 0, 4, true, 3, 0x2710, { parts := [⟨0, 32, [(1000, 100000)]⟩] }⟩,  -- BW_WORD_MHZ
  ⟨0x0700, 1, 0x07, 4, 4, 0, 4, true, 3, 0x3E8, { parts := [⟨0, 32, [(100, 10000)]⟩] }⟩,  -- BW_SDI_MHZ
  ⟨0x0700, 1, 0x08, 4, 4, 0, 4, true, 3, 0x186A0, { parts := [⟨0, 32, [(1000, 1000000)]⟩] }⟩,  -- BW_TIME_MHZ
  ⟨0x0700, 1, 0x09, 4, 4, 0, 4, true, 3, 0x15180, { parts := [⟨0, 32, [(0, 86400)]⟩] }⟩,  -- TIME_HOLDOVER_MAX_S
  ⟨0x0700, 1, 0x0A, 2, 1, 0, 4, true, 3, 0xFF, { parts := [⟨0, 8, [(0, 3), (255, 255)]⟩] }⟩,  -- TIME_PPS_REF
  ⟨0x0700, 1, 0x0B, 2, 1, 0, 0, false, 0, 0xFF, {}⟩,  -- FOLLOW_GROUP
  ⟨0x0700, 1, 0x0C, 6, 4, 0, 0, false, 0, 0, {}⟩,  -- LO_OFFSET_PPB
  ⟨0x0700, 1, 0x0D, 12, 8, 0, 2, false, 3, 0, {}⟩]  -- DPLL_CMD

/-- Record Ref: Table 14.8. -/
def rowsRef : List Row := [
  ⟨0x0710, 1, 0x00, 2, 1, 0, 0, false, 0, 3, {}⟩,  -- HIGHEST_SUB
  ⟨0x0710, 1, 0x01, 13, 1064, 8, 4, true, 3, 0x70A000007D02710, { parts := [⟨60, 3, [(0, 5)]⟩, ⟨56, 3, [(0, 3), (7, 7)]⟩, ⟨48, 8, [(1, 255)]⟩, ⟨16, 16, [(100, 50000)]⟩, ⟨0, 16, [(100, 50000)]⟩] }⟩,  -- REF_CFG
  ⟨0x0710, 1, 0x02, 13, 1064, 8, 0, false, 0, 0, {}⟩,  -- REF_STATUS
  ⟨0x0710, 1, 0x03, 13, 266, 2, 3, false, 0, 0, {}⟩]  -- REF_STICKY

/-- Record Dpll: Table 14.8. -/
def rowsDpll : List Row := [
  ⟨0x0720, 1, 0x00, 2, 1, 0, 0, false, 0, 3, {}⟩,  -- HIGHEST_SUB
  ⟨0x0720, 1, 0x01, 13, 128, 16, 4, true, 3, 0x20FFFFFFFFFF00640F00006400015180, { mask := some 0xEFFFFFFFFFFFFFFFFF00FFFFFFFFFFFF, parts := [⟨112, 8, [(0, 132), (255, 255)]⟩, ⟨104, 8, [(0, 132), (255, 255)]⟩, ⟨96, 8, [(0, 132), (255, 255)]⟩, ⟨88, 8, [(0, 132), (255, 255)]⟩, ⟨80, 8, [(0, 132), (255, 255)]⟩, ⟨64, 16, [(1, 10000)]⟩, ⟨56, 8, [(1, 100)]⟩, ⟨32, 16, [(1, 10000)]⟩, ⟨0, 32, [(0, 86400)]⟩] }⟩,  -- DPLL_CFG
  ⟨0x0720, 1, 0x02, 13, 128, 16, 0, false, 0, 0, {}⟩,  -- DPLL_STATUS
  ⟨0x0720, 1, 0x03, 13, 128, 16, 3, false, 0, 0, {}⟩]  -- DPLL_COUNTERS

/-- Record Phy: Table 08.6. -/
def rowsPhy : List Row := [
  ⟨0x0800, 1, 0x00, 2, 1, 0, 0, false, 0, 0xB, {}⟩,  -- HIGHEST_SUB
  ⟨0x0800, 1, 0x01, 2, 1, 0, 1, true, 3, 0, { parts := [⟨0, 8, [(0, 1)]⟩] }⟩,  -- MODE
  ⟨0x0800, 1, 0x02, 12, 4, 0, 2, false, 2, 0, {}⟩,  -- LANE_CMD
  ⟨0x0800, 1, 0x03, 1, 1, 0, 4, true, 3, 1, { parts := [⟨0, 8, [(0, 1)]⟩] }⟩,  -- AUTO_SPARE
  ⟨0x0800, 1, 0x04, 4, 4, 0, 4, true, 3, 0x40, { parts := [⟨0, 32, [(1, 1000000)]⟩] }⟩,  -- DEGRADE_CV_PER_S
  ⟨0x0800, 1, 0x05, 4, 4, 0, 4, true, 3, 0x10, { parts := [⟨0, 32, [(0, 1000000)]⟩] }⟩,  -- SPARE_ERR_PER_S
  ⟨0x0800, 1, 0x06, 2, 1, 0, 4, true, 3, 4, { parts := [⟨0, 8, [(3, 8)]⟩] }⟩,  -- NET_FAIL_SER
  ⟨0x0800, 1, 0x07, 2, 1, 0, 0, false, 0, 0, {}⟩,  -- DWL_SPARES_READY
  ⟨0x0800, 1, 0x08, 2, 1, 0, 0, false, 0, 8, {}⟩,  -- SDI_SLICES_FREE
  ⟨0x0800, 1, 0x09, 4, 4, 0, 0, false, 0, 0, {}⟩,  -- SWAPS
  ⟨0x0800, 1, 0x0A, 3, 2, 0, 0, false, 0, 0xFFFF, {}⟩,  -- LAST_SWAP_LANE
  ⟨0x0800, 1, 0x0B, 2, 1, 0, 0, false, 0, 0, {}⟩]  -- SCANS_RUNNING

/-- Record PhyLane: Table 08.6. -/
def rowsPhyLane : List Row := [
  ⟨0x0810, 1, 0x00, 2, 1, 0, 0, false, 0, 4, {}⟩,  -- HIGHEST_SUB
  ⟨0x0810, 1, 0x01, 13, 1888, 8, 4, true, 2, 0x404D06000000000, { mask := some 0xEFFFFFFF00000000, parts := [⟨56, 4, [(0, 6)]⟩, ⟨48, 6, [(0, 31)]⟩, ⟨36, 6, [(0, 31)]⟩] }⟩,  -- LANE_CFG
  ⟨0x0810, 1, 0x02, 13, 1888, 8, 0, false, 0, 0, {}⟩,  -- LANE_STATUS
  ⟨0x0810, 1, 0x03, 13, 3776, 16, 3, false, 0, 0, {}⟩,  -- PRBS_COUNTERS
  ⟨0x0810, 1, 0x04, 13, 1888, 8, 0, false, 0, 0, {}⟩]  -- MARGIN

/-- Record Slice: Table 08.6. -/
def rowsSlice : List Row := [
  ⟨0x0820, 1, 0x00, 2, 1, 0, 0, false, 0, 1, {}⟩,  -- HIGHEST_SUB
  ⟨0x0820, 1, 0x01, 13, 32, 4, 0, false, 0, 0, {}⟩]  -- SLICE_MAP

/-- Record SdiArea: Table 05.5. -/
def rowsSdiArea : List Row := [
  ⟨0x0900, 1, 0x00, 2, 1, 0, 0, false, 0, 7, {}⟩,  -- HIGHEST_SUB
  ⟨0x0900, 1, 0x01, 2, 1, 0, 1, true, 3, 0, { parts := [⟨0, 8, [(0, 0)]⟩] }⟩,  -- MODE
  ⟨0x0900, 1, 0x02, 3, 2, 0, 0, false, 0, 0x7D0, {}⟩,  -- GROUP_DESKEW_NS
  ⟨0x0900, 1, 0x03, 4, 4, 0, 0, false, 0, 0x40000, {}⟩,  -- RETIME_SRAM_BITS
  ⟨0x0900, 1, 0x04, 6, 4, 0, 4, true, 2, 0, { parts := [⟨0, 32, [(0, 86399), (4294880897, 4294967295)]⟩] }⟩,  -- TC_OFFSET_S
  ⟨0x0900, 1, 0x05, 2, 1, 0, 0, false, 0, 0, {}⟩,  -- LANES_LOCKED
  ⟨0x0900, 1, 0x06, 2, 1, 0, 0, false, 0, 0, {}⟩,  -- OUTPUTS_SAFE
  ⟨0x0900, 1, 0x07, 3, 2, 0, 0, false, 0, 0, {}⟩]  -- HOLD_BLOCKS

/-- Record Sdi: Table 05.5. -/
def rowsSdi : List Row := [
  ⟨0x0910, 1, 0x00, 2, 1, 0, 0, false, 0, 6, {}⟩,  -- HIGHEST_SUB
  ⟨0x0910, 1, 0x01, 13, 512, 4, 4, true, 2, 0, { mask := some 0xF8000000, parts := [⟨28, 4, [(0, 9)]⟩] }⟩,  -- RX_CFG
  ⟨0x0910, 1, 0x02, 13, 2048, 16, 0, false, 0, 0, {}⟩,  -- RX_STATUS
  ⟨0x0910, 1, 0x03, 13, 4096, 32, 3, false, 0, 0, {}⟩,  -- RX_COUNTERS
  ⟨0x0910, 1, 0x04, 13, 1024, 8, 4, true, 2, 0, { mask := some 0xFFE0FFFFFFFFFFFF, parts := [⟨58, 2, [(0, 1)]⟩, ⟨54, 2, [(0, 2)]⟩, ⟨32, 16, [(0, 3600)]⟩] }⟩,  -- TX_CFG
  ⟨0x0910, 1, 0x05, 13, 1024, 8, 0, false, 0, 0, {}⟩,  -- TX_STATUS
  ⟨0x0910, 1, 0x06, 13, 2048, 16, 3, false, 0, 0, {}⟩]  -- TX_COUNTERS

/-- Record Net: Table 06.8. -/
def rowsNet : List Row := [
  ⟨0x0A00, 1, 0x00, 2, 1, 0, 0, false, 0, 9, {}⟩,  -- HIGHEST_SUB
  ⟨0x0A00, 1, 0x01, 2, 1, 0, 1, true, 3, 0, { parts := [⟨0, 8, [(0, 1)]⟩] }⟩,  -- MODE
  ⟨0x0A00, 1, 0x02, 4, 4, 0, 0, false, 0, 0xC000, {}⟩,  -- RX_POOL_KIB
  ⟨0x0A00, 1, 0x03, 4, 4, 0, 0, false, 0, 0xC000, {}⟩,  -- RX_POOL_FREE_KIB
  ⟨0x0A00, 1, 0x04, 2, 1, 0, 4, true, 2, 2, { parts := [⟨0, 8, [(1, 7)]⟩] }⟩,  -- IGMP_ROBUSTNESS
  ⟨0x0A00, 1, 0x05, 3, 2, 0, 4, true, 2, 0x3E8, { parts := [⟨0, 16, [(100, 10000)]⟩] }⟩,  -- UNSOLICITED_MS
  ⟨0x0A00, 1, 0x06, 4, 4, 0, 3, false, 0, 0, {}⟩,  -- OLD_QUERIERS
  ⟨0x0A00, 1, 0x07, 4, 4, 0, 3, false, 0, 0, {}⟩,  -- QUERIES_RX
  ⟨0x0A00, 1, 0x08, 1, 1, 0, 4, true, 3, 1, { parts := [⟨0, 8, [(0, 1)]⟩] }⟩,  -- AUTO_SPARE
  ⟨0x0A00, 1, 0x09, 3, 2, 0, 4, true, 2, 0x3C, { parts := [⟨0, 16, [(10, 3600)]⟩] }⟩]  -- ARP_REFRESH_S

/-- Record NetCtl: Table 06.8. -/
def rowsNetCtl : List Row := [
  ⟨0x0A01, 1, 0x00, 2, 1, 0, 0, false, 0, 1, {}⟩,  -- HIGHEST_SUB
  ⟨0x0A01, 1, 0x01, 13, 1516, 0, 2, false, 3, 0, {}⟩]  -- CTRL_TX

/-- Record NetPort: Table 06.8. -/
def rowsNetPort : List Row := [
  ⟨0x0A10, 1, 0x00, 2, 1, 0, 0, false, 0, 5, {}⟩,  -- HIGHEST_SUB
  ⟨0x0A10, 1, 0x01, 13, 256, 8, 4, true, 3, 0, { mask := some 0xFE00000000000000, parts := [⟨60, 4, [(0, 5)]⟩, ⟨58, 2, [(0, 2)]⟩] }⟩,  -- PORT_CFG
  ⟨0x0A10, 1, 0x02, 13, 256, 8, 0, false, 0, 0, {}⟩,  -- PORT_STATUS
  ⟨0x0A10, 1, 0x03, 13, 3072, 96, 3, false, 0, 0, {}⟩,  -- PORT_COUNTERS
  ⟨0x0A10, 1, 0x04, 13, 16, 4, 4, true, 3, 0xF80000, { mask := some 0x9FF80000, parts := [⟨19, 5, [(0, 15), (31, 31)]⟩] }⟩,  -- SPARE_CFG
  ⟨0x0A10, 1, 0x05, 13, 16, 4, 0, false, 0, 0, {}⟩]  -- SPARE_STATUS

/-- Record NetIf: Table 06.8. -/
def rowsNetIf : List Row := [
  ⟨0x0A20, 1, 0x00, 2, 1, 0, 0, false, 0, 1, {}⟩,  -- HIGHEST_SUB
  ⟨0x0A20, 1, 0x01, 13, 12288, 48, 4, true, 2, 0, { mask := some 0xFFFFFFFFFFFFFFFFFFFFFFFFFFFFFFFFFFFFFFFFFFFFFFFFFFFFFFFFFFFFFFFFFFFFFFFFFFFFFFFFFFFFFFFF00000000, parts := [⟨368, 12, [(0, 4094)]⟩, ⟨360, 8, [(0, 32)]⟩, ⟨352, 8, [(0, 128)]⟩] }⟩]  -- IF_CFG

/-- Record NetRx: Table 06.8. -/
def rowsNetRx : List Row := [
  ⟨0x0A30, 1, 0x00, 2, 1, 0, 0, false, 0, 3, {}⟩,  -- HIGHEST_SUB
  ⟨0x0A30, 1, 0x01, 13, 327680, 80, 4, true, 2, 0, { mask := some 0xFFFFFFFFFFFFFFFFFFFFFFFFFFFFFFFFFFFFFFFFFFFFFFFFFFFFFFFFFFFFFFFFFFFFFFFFFFFFFFFFFFFFFFFFFFFFFFFFFFFFFFFFFFFFFFFFFFFFFFFFFFFFFFFFFFFFFFFFFFFFFFFFFFFE000000000000, parts := [⟨80, 16, [(0, 50000)]⟩, ⟨66, 2, [(0, 2)]⟩, ⟨51, 7, [(0, 64)]⟩] }⟩,  -- RX_CFG
  ⟨0x0A30, 1, 0x02, 13, 65536, 16, 0, false, 0, 0, {}⟩,  -- RX_STATUS
  ⟨0x0A30, 1, 0x03, 13, 196608, 48, 3, false, 0, 0, {}⟩]  -- RX_COUNTERS

/-- Record NetTx: Table 06.8. -/
def rowsNetTx : List Row := [
  ⟨0x0A31, 1, 0x00, 2, 1, 0, 0, false, 0, 3, {}⟩,  -- HIGHEST_SUB
  ⟨0x0A31, 1, 0x01, 13, 327680, 80, 4, true, 2, 0, { mask := some 0xFFFFFFFFFFFFFFFFFFFFFFFFFFFFFFFFFFFFFFFFFFFFFFFFFFFFFFFFFFFFFFFFFFFFFFFFFFFFFFFFFFFFFFFFFFFFFFFFFFFFFFE000000000000000000000000000000000000000000000000000000000, parts := [⟨276, 2, [(0, 2)]⟩, ⟨257, 11, [(0, 0), (200, 1420)]⟩, ⟨250, 7, [(0, 64)]⟩, ⟨246, 2, [(0, 1)]⟩, ⟨229, 16, [(0, 3600)]⟩] }⟩,  -- TX_CFG
  ⟨0x0A31, 1, 0x02, 13, 32768, 8, 0, false, 0, 0, {}⟩,  -- TX_STATUS
  ⟨0x0A31, 1, 0x03, 13, 98304, 24, 3, false, 0, 0, {}⟩]  -- TX_COUNTERS

/-- Record Ens: Table 07.14. -/
def rowsEns : List Row := [
  ⟨0x0B00, 1, 0x00, 2, 1, 0, 0, false, 0, 0xF, {}⟩,  -- HIGHEST_SUB
  ⟨0x0B00, 1, 0x01, 2, 1, 0, 1, true, 3, 0, { parts := [⟨0, 8, [(0, 1)]⟩] }⟩,  -- MODE
  ⟨0x0B00, 1, 0x02, 2, 1, 0, 4, true, 3, 1, { parts := [⟨0, 8, [(1, 8)]⟩] }⟩,  -- ENSEMBLE_SIZE
  ⟨0x0B00, 1, 0x03, 2, 1, 0, 0, false, 0, 0xFF, {}⟩,  -- POSITION
  ⟨0x0B00, 1, 0x04, 2, 1, 0, 0, false, 0, 0xFF, {}⟩,  -- MEMBER
  ⟨0x0B00, 1, 0x05, 2, 1, 0, 0, false, 0, 0, {}⟩,  -- ENSEMBLE_STATE
  ⟨0x0B00, 1, 0x06, 2, 1, 0, 0, false, 0, 0, {}⟩,  -- CHAIN_LENGTH
  ⟨0x0B00, 1, 0x07, 2, 1, 0, 0, false, 0, 0, {}⟩,  -- MEMBERS_UP
  ⟨0x0B00, 1, 0x08, 1, 1, 0, 0, false, 0, 0, {}⟩,  -- HEADSTOCK
  ⟨0x0B00, 1, 0x09, 1, 1, 0, 0, false, 0, 0, {}⟩,  -- TAILSTOCK
  ⟨0x0B00, 1, 0x0A, 2, 1, 0, 0, false, 0, 0, {}⟩,  -- GEO
  ⟨0x0B00, 1, 0x0B, 1, 1, 0, 0, false, 0, 0, {}⟩,  -- CARD
  ⟨0x0B00, 1, 0x0C, 4, 4, 0, 0, false, 0, 0, {}⟩,  -- REPLANS
  ⟨0x0B00, 1, 0x0D, 3, 2, 0, 0, false, 0, 0, {}⟩,  -- PAIRS_MAX
  ⟨0x0B00, 1, 0x0E, 4, 4, 0, 3, false, 0, 0, {}⟩,  -- MSG_DROPPED
  ⟨0x0B00, 1, 0x0F, 3, 2, 0, 0, false, 0, 0x1F40, {}⟩]  -- BEACON_PERIOD_NS

/-- Record Dwl: Table 07.14. -/
def rowsDwl : List Row := [
  ⟨0x0B10, 1, 0x00, 2, 1, 0, 0, false, 0, 5, {}⟩,  -- HIGHEST_SUB
  ⟨0x0B10, 1, 0x01, 13, 32, 4, 4, true, 3, 0xC0000000, { mask := some 0xF0000000, parts := [⟨28, 3, [(0, 4)]⟩] }⟩,  -- GROUP_CFG
  ⟨0x0B10, 1, 0x02, 13, 128, 16, 0, false, 0, 0, {}⟩,  -- GROUP_STATUS
  ⟨0x0B10, 1, 0x03, 13, 384, 48, 3, false, 0, 0, {}⟩,  -- GROUP_COUNTERS
  ⟨0x0B10, 1, 0x04, 13, 576, 8, 0, false, 0, 0, {}⟩,  -- LANE_STATUS
  ⟨0x0B10, 1, 0x05, 13, 2304, 32, 3, false, 0, 0, {}⟩]  -- LANE_COUNTERS

/-- Record Xp: Table 03.15. -/
def rowsXp : List Row := [
  ⟨0x0C00, 1, 0x00, 2, 1, 0, 0, false, 0, 0xB, {}⟩,  -- HIGHEST_SUB
  ⟨0x0C00, 1, 0x01, 2, 1, 0, 1, true, 3, 0, { parts := [⟨0, 8, [(0, 1)]⟩] }⟩,  -- MODE
  ⟨0x0C00, 1, 0x02, 2, 1, 0, 4, true, 3, 0, { parts := [⟨0, 8, [(0, 1)]⟩] }⟩,  -- DELAY_POLICY
  ⟨0x0C00, 1, 0x03, 4, 4, 0, 4, true, 3, 0xFA0, { parts := [⟨0, 32, [(4000, 16777215)]⟩] }⟩,  -- UNIFORM_DELAY_NS
  ⟨0x0C00, 1, 0x04, 2, 1, 0, 4, true, 2, 2, { parts := [⟨0, 8, [(0, 16)]⟩] }⟩,  -- KERF_LINES
  ⟨0x0C00, 1, 0x05, 3, 2, 0, 4, true, 2, 0x1E0, { parts := [⟨0, 16, [(0, 4800)]⟩] }⟩,  -- XFADE_SAMPLES
  ⟨0x0C00, 1, 0x06, 4, 4, 0, 4, true, 3, 0x2710, { parts := [⟨0, 32, [(3000, 1000000)]⟩] }⟩,  -- SALVO_MIN_LEAD_US
  ⟨0x0C00, 1, 0x07, 4, 4, 0, 4, true, 3, 0x7D0, { parts := [⟨0, 32, [(1000, 999000)]⟩] }⟩,  -- VOTE_LEAD_US
  ⟨0x0C00, 1, 0x08, 4, 4, 0, 0, false, 0, 0xFA, {}⟩,  -- DECIDE_LEAD_US
  ⟨0x0C00, 1, 0x09, 4, 4, 0, 0, false, 0, 0x4E20, {}⟩,  -- TAKE_LEAD_NS
  ⟨0x0C00, 1, 0x0A, 3, 2, 0, 0, false, 0, 0, {}⟩,  -- FS_EFN_BASE
  ⟨0x0C00, 1, 0x0B, 1, 1, 0, 0, false, 0, 0, {}⟩]  -- COORDINATOR

/-- Record XpCount: Table 03.15. -/
def rowsXpCount : List Row := [
  ⟨0x0C01, 1, 0x00, 2, 1, 0, 0, false, 0, 9, {}⟩,  -- HIGHEST_SUB
  ⟨0x0C01, 1, 0x01, 4, 4, 0, 0, false, 0, 0, {}⟩,  -- TAKES_APPLIED
  ⟨0x0C01, 1, 0x02, 4, 4, 0, 3, false, 0, 0, {}⟩,  -- TAKES_REFUSED
  ⟨0x0C01, 1, 0x03, 4, 4, 0, 3, false, 0, 0, {}⟩,  -- TAKES_REPLACED
  ⟨0x0C01, 1, 0x04, 4, 4, 0, 3, false, 0, 0, {}⟩,  -- UNTIMED_AT_BOUNDARY
  ⟨0x0C01, 1, 0x05, 4, 4, 0, 0, false, 0, 0, {}⟩,  -- SALVOS_APPLIED
  ⟨0x0C01, 1, 0x06, 4, 4, 0, 3, false, 0, 0, {}⟩,  -- SALVOS_ABORTED
  ⟨0x0C01, 1, 0x07, 4, 4, 0, 3, false, 0, 0, {}⟩,  -- INDOUBT_EVENTS
  ⟨0x0C01, 1, 0x08, 4, 4, 0, 3, false, 0, 0, {}⟩,  -- TWIN_TAKES_MISSED
  ⟨0x0C01, 1, 0x09, 5, 8, 0, 0, false, 0, 0, {}⟩]  -- RECORD_GENERATION

/-- Record Take: Table 03.15. -/
def rowsTake : List Row := [
  ⟨0x0C10, 1, 0x00, 2, 1, 0, 0, false, 0, 2, {}⟩,  -- HIGHEST_SUB
  ⟨0x0C10, 1, 0x01, 12, 16, 0, 2, false, 1, 0, {}⟩,  -- TAKE
  ⟨0x0C10, 1, 0x02, 10, 8, 0, 0, false, 0, 0, {}⟩]  -- LAST_ACCEPT_TIME

/-- Record XpDom: Table 03.16. -/
def rowsXpDom : List Row := [
  ⟨0x0C11, 1, 0x00, 2, 1, 0, 0, false, 0, 3, {}⟩,  -- HIGHEST_SUB
  ⟨0x0C11, 1, 0x01, 13, 65536, 16, 0, false, 0, 0, {}⟩,  -- XP_TABLE
  ⟨0x0C11, 1, 0x02, 13, 32768, 8, 4, true, 2, 0, { mask := some 0xFFFFFF8000000000, parts := [⟨40, 24, [(0, 0), (1600, 16777215)]⟩] }⟩,  -- OUT_CFG
  ⟨0x0C11, 1, 0x03, 13, 0, 0, 0, false, 2, 0, {}⟩]  -- TAKE_RECORD

/-- Record Salvo: Table 03.17. -/
def rowsSalvo : List Row := [
  ⟨0x0C20, 16, 0x00, 2, 1, 0, 0, false, 0, 0xC, {}⟩,  -- HIGHEST_SUB
  ⟨0x0C20, 16, 0x01, 2, 1, 0, 0, false, 0, 0, {}⟩,  -- STATE
  ⟨0x0C20, 16, 0x02, 13, 65536, 8, 1, false, 1, 0, {}⟩,  -- CHANGES
  ⟨0x0C20, 16, 0x03, 3, 2, 0, 0, false, 0, 0, {}⟩,  -- COUNT
  ⟨0x0C20, 16, 0x04, 10, 8, 0, 1, false, 1, 0, {}⟩,  -- TAKE_TIME
  ⟨0x0C20, 16, 0x05, 2, 1, 0, 2, false, 1, 0, { parts := [⟨0, 8, [(1, 4)]⟩] }⟩,  -- CONTROL
  ⟨0x0C20, 16, 0x06, 2, 1, 0, 0, false, 0, 0, {}⟩,  -- RESULT
  ⟨0x0C20, 16, 0x07, 2, 1, 0, 0, false, 0, 0xFF, {}⟩,  -- FAIL_MEMBER
  ⟨0x0C20, 16, 0x08, 3, 2, 0, 0, false, 0, 0xFFFF, {}⟩,  -- FAIL_INDEX
  ⟨0x0C20, 16, 0x09, 2, 1, 0, 0, false, 0, 0, {}⟩,  -- EPOCH
  ⟨0x0C20, 16, 0x0A, 10, 8, 0, 0, false, 0, 0, {}⟩,  -- APPLIED_TIME
  ⟨0x0C20, 16, 0x0B, 11, 32, 0, 1, false, 1, 0, { utf8 := true }⟩,  -- LABEL
  ⟨0x0C20, 16, 0x0C, 2, 1, 0, 0, false, 0, 0, {}⟩]  -- TWIN_ABSENT

/-- Record Planes: Table 04.9. -/
def rowsPlanes : List Row := [
  ⟨0x0D00, 1, 0x00, 2, 1, 0, 0, false, 0, 0xA, {}⟩,  -- HIGHEST_SUB
  ⟨0x0D00, 1, 0x01, 2, 1, 0, 1, true, 3, 0, { parts := [⟨0, 8, [(0, 0)]⟩] }⟩,  -- MODE
  ⟨0x0D00, 1, 0x02, 2, 1, 0, 4, true, 3, 0, { parts := [⟨0, 8, [(0, 1)]⟩] }⟩,  -- PREFERRED_PLANE
  ⟨0x0D00, 1, 0x03, 2, 1, 0, 4, true, 3, 0x2D, { parts := [⟨0, 8, [(20, 45)]⟩] }⟩,  -- MERGE_WINDOW_NS
  ⟨0x0D00, 1, 0x04, 2, 1, 0, 4, true, 3, 8, { parts := [⟨0, 8, [(1, 64)]⟩] }⟩,  -- ACTIVE_FAIL_LIMIT
  ⟨0x0D00, 1, 0x05, 3, 2, 0, 4, true, 3, 0x64, { parts := [⟨0, 16, [(10, 10000)]⟩] }⟩,  -- ACTIVE_FAIL_WINDOW_US
  ⟨0x0D00, 1, 0x06, 2, 1, 0, 4, true, 3, 4, { parts := [⟨0, 8, [(1, 255)]⟩] }⟩,  -- MISMATCH_LIMIT
  ⟨0x0D00, 1, 0x07, 1, 1, 0, 4, true, 3, 1, { parts := [⟨0, 8, [(0, 1)]⟩] }⟩,  -- AUTO_REPAIR
  ⟨0x0D00, 1, 0x08, 2, 1, 0, 2, false, 3, 0, { parts := [⟨0, 8, [(1, 3)]⟩] }⟩,  -- PLANE_CMD
  ⟨0x0D00, 1, 0x09, 4, 4, 0, 0, false, 0, 0, {}⟩,  -- REBUILDS
  ⟨0x0D00, 1, 0x0A, 4, 4, 0, 0, false, 0, 0, {}⟩]  -- LAST_REBUILD_US

/-- Record Plane: Table 04.10. -/
def rowsPlane : List Row := [
  ⟨0x0D10, 2, 0x00, 2, 1, 0, 0, false, 0, 0xC, {}⟩,  -- HIGHEST_SUB
  ⟨0x0D10, 2, 0x01, 2, 1, 0, 0, false, 0, 0, {}⟩,  -- STATE
  ⟨0x0D10, 2, 0x02, 4, 4, 0, 0, false, 0, 0, {}⟩,  -- HEALTH
  ⟨0x0D10, 2, 0x03, 5, 8, 0, 0, false, 0, 0, {}⟩,  -- COMPARED
  ⟨0x0D10, 2, 0x04, 4, 4, 0, 3, false, 0, 0, {}⟩,  -- MISMATCHES
  ⟨0x0D10, 2, 0x05, 4, 4, 0, 3, false, 0, 0, {}⟩,  -- CRC_ERRORS
  ⟨0x0D10, 2, 0x06, 4, 4, 0, 3, false, 0, 0, {}⟩,  -- MISSING
  ⟨0x0D10, 2, 0x07, 5, 8, 0, 0, false, 0, 0, {}⟩,  -- USED
  ⟨0x0D10, 2, 0x08, 4, 4, 0, 0, false, 0, 0, {}⟩,  -- FAILURES
  ⟨0x0D10, 2, 0x09, 10, 8, 0, 0, false, 0, 0, {}⟩,  -- LAST_FAIL_TIME
  ⟨0x0D10, 2, 0x0A, 2, 1, 0, 0, false, 0, 0, {}⟩,  -- LAST_FAIL_CAUSE
  ⟨0x0D10, 2, 0x0B, 4, 4, 0, 0, false, 0, 0, {}⟩,  -- RESYNCS
  ⟨0x0D10, 2, 0x0C, 4, 4, 0, 0, false, 0, 0, {}⟩]  -- LAST_RESYNC_US

/-- Record Twin: Table 04.11. -/
def rowsTwin : List Row := [
  ⟨0x0D20, 1, 0x00, 2, 1, 0, 0, false, 0, 0xC, {}⟩,  -- HIGHEST_SUB
  ⟨0x0D20, 1, 0x01, 2, 1, 0, 0, false, 0, 0, {}⟩,  -- STATE
  ⟨0x0D20, 1, 0x02, 2, 1, 0, 0, false, 0, 0, {}⟩,  -- ROLE
  ⟨0x0D20, 1, 0x03, 1, 1, 0, 4, true, 3, 1, { parts := [⟨0, 8, [(0, 1)]⟩] }⟩,  -- ENABLE
  ⟨0x0D20, 1, 0x04, 12, 16, 0, 0, false, 0, 0, {}⟩,  -- PEER_ID
  ⟨0x0D20, 1, 0x05, 10, 8, 0, 0, false, 0, 0, {}⟩,  -- PAIRED_TIME
  ⟨0x0D20, 1, 0x06, 4, 4, 0, 0, false, 0, 0, {}⟩,  -- LOSSES
  ⟨0x0D20, 1, 0x07, 4, 4, 0, 0, false, 0, 0, {}⟩,  -- RESYNCS
  ⟨0x0D20, 1, 0x08, 4, 4, 0, 3, false, 0, 0, {}⟩,  -- ABANDONED
  ⟨0x0D20, 1, 0x09, 4, 4, 0, 3, false, 0, 0, {}⟩,  -- TAKES_RECONCILED
  ⟨0x0D20, 1, 0x0A, 4, 4, 0, 3, false, 0, 0, {}⟩,  -- SIG_MISMATCHES
  ⟨0x0D20, 1, 0x0B, 6, 4, 0, 0, false, 0, 0, {}⟩,  -- TIME_SKEW_NS
  ⟨0x0D20, 1, 0x0C, 2, 1, 0, 2, false, 3, 0, { parts := [⟨0, 8, [(1, 1)]⟩] }⟩]  -- CMD

/-- Record Leg: Table 04.11. -/
def rowsLeg : List Row := [
  ⟨0x0D21, 1, 0x00, 2, 1, 0, 0, false, 0, 4, {}⟩,  -- HIGHEST_SUB
  ⟨0x0D21, 1, 0x01, 13, 16384, 4, 4, true, 2, 0, { mask := some 0x80000000 }⟩,  -- LEG_CFG
  ⟨0x0D21, 1, 0x02, 13, 16384, 4, 0, false, 0, 0, {}⟩,  -- LEG_STATUS
  ⟨0x0D21, 1, 0x03, 4, 4, 0, 3, false, 0, 0, {}⟩,  -- REANCHORS
  ⟨0x0D21, 1, 0x04, 3, 2, 0, 4, true, 2, 0x3E8, { parts := [⟨0, 16, [(100, 10000)]⟩] }⟩]  -- ANCHOR_PERIOD_MS

/-- Record Fs: Table 09.9. -/
def rowsFs : List Row := [
  ⟨0x0E00, 1, 0x00, 2, 1, 0, 0, false, 0, 0x11, {}⟩,  -- HIGHEST_SUB
  ⟨0x0E00, 1, 0x01, 2, 1, 0, 1, true, 3, 0, { parts := [⟨0, 8, [(0, 1)]⟩] }⟩,  -- MODE
  ⟨0x0E00, 1, 0x02, 2, 1, 0, 0, false, 0, 0, {}⟩,  -- CHANNELS_ONLINE
  ⟨0x0E00, 1, 0x03, 3, 2, 0, 0, false, 0, 0, {}⟩,  -- POOL_BLOCKS
  ⟨0x0E00, 1, 0x04, 3, 2, 0, 0, false, 0, 0, {}⟩,  -- FREE_BLOCKS
  ⟨0x0E00, 1, 0x05, 3, 2, 0, 0, false, 0, 0x200, {}⟩,  -- RESERVE_FREE
  ⟨0x0E00, 1, 0x06, 4, 4, 0, 0, false, 0, 0x42A680, {}⟩,  -- CAPACITY_MBPS
  ⟨0x0E00, 1, 0x07, 4, 4, 0, 0, false, 0, 0, {}⟩,  -- RESERVED_MBPS
  ⟨0x0E00, 1, 0x08, 1, 1, 0, 4, true, 3, 1, { parts := [⟨0, 8, [(0, 1)]⟩] }⟩,  -- SR_ENABLE
  ⟨0x0E00, 1, 0x09, 4, 4, 0, 4, true, 3, 0x2710, { parts := [⟨0, 32, [(1000, 1000000)]⟩] }⟩,  -- SR_IDLE_NS
  ⟨0x0E00, 1, 0x0A, 1, 1, 0, 4, true, 3, 0, { parts := [⟨0, 8, [(0, 1)]⟩] }⟩,  -- PASR_ENABLE
  ⟨0x0E00, 1, 0x0B, 3, 2, 0, 0, false, 0, 0x28D, {}⟩,  -- SR_WAKE_MAX_NS
  ⟨0x0E00, 1, 0x0C, 4, 4, 0, 4, true, 3, 0x3E8, { parts := [⟨0, 32, [(1, 1000000)]⟩] }⟩,  -- RETRAIN_CORR_PER_S
  ⟨0x0E00, 1, 0x0D, 12, 4, 0, 2, false, 3, 0, {}⟩,  -- CHAN_CMD
  ⟨0x0E00, 1, 0x0E, 4, 4, 0, 3, false, 0, 0, {}⟩,  -- SHRINK_EVENTS
  ⟨0x0E00, 1, 0x0F, 3, 2, 0, 0, false, 0, 0, {}⟩,  -- BLOCKS_SUBSTITUTED
  ⟨0x0E00, 1, 0x10, 2, 1, 0, 0, false, 0, 0xFF, {}⟩,  -- LAST_RETIRED_CHANNEL
  ⟨0x0E00, 1, 0x11, 3, 2, 0, 0, false, 0, 0, {}⟩]  -- ALLOCATIONS

/-- Record FsHost: Table 09.10. -/
def rowsFsHost : List Row := [
  ⟨0x0E01, 1, 0x00, 2, 1, 0, 0, false, 0, 2, {}⟩,  -- HIGHEST_SUB
  ⟨0x0E01, 1, 0x01, 13, 130048, 2, 1, false, 3, 0, {}⟩,  -- HOST_LIST
  ⟨0x0E01, 1, 0x02, 3, 2, 0, 0, false, 0, 0, {}⟩]  -- HOST_LIST_LEN

/-- Record Chan: Table 09.10. -/
def rowsChan : List Row := [
  ⟨0x0E10, 1, 0x00, 2, 1, 0, 0, false, 0, 3, {}⟩,  -- HIGHEST_SUB
  ⟨0x0E10, 1, 0x01, 13, 512, 16, 0, false, 0, 0, {}⟩,  -- CHAN_STATUS
  ⟨0x0E10, 1, 0x02, 13, 1024, 32, 3, false, 0, 0, {}⟩,  -- CHAN_COUNTERS
  ⟨0x0E10, 1, 0x03, 13, 16384, 64, 1, true, 3, 0, { mask := some 0x80FFFFFFFFFFFFFFFFFFFFFFFFFFFFFFFFFFFFFFFFFFFFFFFFFFFFFFFFFFFFFFFFFFFFFFFFFFFFFFFFFFFFFFFFFFFFFFFFFFFFFFFFFFFFFF00000000FFFFFFFF }⟩]  -- DELAY_SETS

/-- Record FsPort: Table 09.10. -/
def rowsFsPort : List Row := [
  ⟨0x0E20, 1, 0x00, 2, 1, 0, 0, false, 0, 1, {}⟩,  -- HIGHEST_SUB
  ⟨0x0E20, 1, 0x01, 13, 192, 16, 3, false, 0, 0, {}⟩]  -- PORT_COUNTERS

/-- Record FsMap: Table 09.10. -/
def rowsFsMap : List Row := [
  ⟨0x0E30, 1, 0x00, 2, 1, 0, 0, false, 0, 2, {}⟩,  -- HIGHEST_SUB
  ⟨0x0E30, 1, 0x01, 13, 131072, 16, 0, false, 0, 0, {}⟩,  -- ALLOC_TABLE
  ⟨0x0E30, 1, 0x02, 13, 262144, 4, 0, false, 0, 0, {}⟩]  -- BLOCK_MAP

/-- Record Shift: Table 09.10. -/
def rowsShift : List Row := [
  ⟨0x0E40, 1, 0x00, 2, 1, 0, 0, false, 0, 3, {}⟩,  -- HIGHEST_SUB
  ⟨0x0E40, 1, 0x01, 13, 1024, 8, 4, true, 2, 0, { mask := some 0x8000FFFFFFFF0000, parts := [⟨32, 16, [(0, 65024)]⟩, ⟨16, 16, [(0, 65024)]⟩] }⟩,  -- POOL_CFG
  ⟨0x0E40, 1, 0x02, 13, 1024, 8, 0, false, 0, 0, {}⟩,  -- POOL_STATUS
  ⟨0x0E40, 1, 0x03, 13, 16384, 4, 4, true, 2, 0, {}⟩]  -- PLAY_CFG

/-- Record Tiles: Table 10.9. -/
def rowsTiles : List Row := [
  ⟨0x0F00, 1, 0x00, 2, 1, 0, 0, false, 0, 0xA, {}⟩,  -- HIGHEST_SUB
  ⟨0x0F00, 1, 0x01, 2, 1, 0, 1, true, 3, 0, { parts := [⟨0, 8, [(0, 0)]⟩] }⟩,  -- MODE
  ⟨0x0F00, 1, 0x02, 2, 1, 0, 0, false, 0, 0x40, {}⟩,  -- TILES_AVAILABLE
  ⟨0x0F00, 1, 0x03, 2, 1, 0, 0, false, 0, 4, {}⟩,  -- SPARES_FREE
  ⟨0x0F00, 1, 0x04, 5, 8, 0, 4, true, 3, 0xFFFF000000000000, {}⟩,  -- TAKE_TILE_MASK
  ⟨0x0F00, 1, 0x05, 2, 1, 0, 0, false, 0, 0, {}⟩,  -- TILES_INSERTED
  ⟨0x0F00, 1, 0x06, 1, 1, 0, 4, true, 3, 1, { parts := [⟨0, 8, [(0, 1)]⟩] }⟩,  -- AUTO_SPARE
  ⟨0x0F00, 1, 0x07, 4, 4, 0, 0, false, 0, 0, {}⟩,  -- SUBSTITUTIONS
  ⟨0x0F00, 1, 0x08, 12, 4, 0, 2, false, 3, 0, {}⟩,  -- TILE_CMD
  ⟨0x0F00, 1, 0x09, 4, 4, 0, 0, false, 0, 0x2367B880, {}⟩,  -- LOAD_LIMIT_SPS
  ⟨0x0F00, 1, 0x0A, 2, 1, 0, 0, false, 0, 0, {}⟩]  -- TILES_FAILED

/-- Record TileMap: Table 10.9. -/
def rowsTileMap : List Row := [
  ⟨0x0F10, 1, 0x00, 2, 1, 0, 0, false, 0, 1, {}⟩,  -- HIGHEST_SUB
  ⟨0x0F10, 1, 0x01, 13, 272, 4, 0, false, 0, 0, {}⟩]  -- TILE_MAP

/-- Record Lut: Table 10.9. -/
def rowsLut : List Row := [
  ⟨0x0F20, 16, 0x00, 2, 1, 0, 0, false, 0, 3, {}⟩,  -- HIGHEST_SUB
  ⟨0x0F20, 8, 0x01, 13, 215642, 0, 0, false, 0, 0, {}⟩,  -- LUT
  ⟨0x0F20, 16, 0x02, 4, 4, 0, 0, false, 0, 0, {}⟩,  -- LUT_CRC
  ⟨0x0F20, 16, 0x03, 2, 1, 0, 0, false, 0, 0, {}⟩,  -- USERS
  ⟨0x0F28, 8, 0x01, 13, 215642, 0, 1, true, 2, 0, {}⟩]  -- LUT

/-- Record Comp: Table 11.4. -/
def rowsComp : List Row := [
  ⟨0x1000, 1, 0x00, 2, 1, 0, 0, false, 0, 7, {}⟩,  -- HIGHEST_SUB
  ⟨0x1000, 1, 0x01, 2, 1, 0, 1, true, 3, 0, { parts := [⟨0, 8, [(0, 0)]⟩] }⟩,  -- MODE
  ⟨0x1000, 1, 0x02, 2, 1, 0, 0, false, 0, 0xC0, {}⟩,  -- ENGINES_FREE
  ⟨0x1000, 1, 0x03, 3, 2, 0, 0, false, 0, 0x64, {}⟩,  -- LAYER_LEAD_US
  ⟨0x1000, 1, 0x04, 4, 4, 0, 0, false, 0, 0x4E20, {}⟩,  -- READY_LEAD_NS
  ⟨0x1000, 1, 0x05, 3, 2, 0, 0, false, 0, 0x1000, {}⟩,  -- LINE_BUFFER_PX
  ⟨0x1000, 1, 0x06, 2, 1, 0, 0, false, 0, 0, {}⟩,  -- ENGINES_FAILED
  ⟨0x1000, 1, 0x07, 12, 4, 0, 2, false, 2, 0, {}⟩]  -- VENEER_CMD

/-- Record Veneer: Table 11.4. -/
def rowsVeneer : List Row := [
  ⟨0x1010, 1, 0x00, 2, 1, 0, 0, false, 0, 3, {}⟩,  -- HIGHEST_SUB
  ⟨0x1010, 1, 0x01, 13, 4096, 8, 4, true, 2, 0, { mask := some 0xC0003FFF3FFF0000, parts := [⟨32, 14, [(0, 8192)]⟩, ⟨16, 14, [(0, 4320)]⟩] }⟩,  -- VENEER_CFG
  ⟨0x1010, 1, 0x02, 13, 4096, 8, 0, false, 0, 0, {}⟩,  -- VENEER_STATUS
  ⟨0x1010, 1, 0x03, 13, 141557776, 0, 2, false, 2, 0, {}⟩]  -- VENEER_WRITE

/-- Record Aud: Table 12.6. -/
def rowsAud : List Row := [
  ⟨0x1100, 1, 0x00, 2, 1, 0, 0, false, 0, 9, {}⟩,  -- HIGHEST_SUB
  ⟨0x1100, 1, 0x01, 2, 1, 0, 1, true, 3, 0, { parts := [⟨0, 8, [(0, 0)]⟩] }⟩,  -- MODE
  ⟨0x1100, 1, 0x02, 5, 8, 0, 0, false, 0, 0, {}⟩,  -- POSITION
  ⟨0x1100, 1, 0x03, 2, 1, 0, 0, false, 0, 0x30, {}⟩,  -- REPEAT_LIMIT
  ⟨0x1100, 1, 0x04, 4, 4, 0, 0, false, 0, 0x80000, {}⟩,  -- DELAY_SRAM_WORDS
  ⟨0x1100, 1, 0x05, 4, 4, 0, 0, false, 0, 0x80000, {}⟩,  -- DELAY_SRAM_FREE
  ⟨0x1100, 1, 0x06, 3, 2, 0, 0, false, 0, 0, {}⟩,  -- DELAY_BLOCKS
  ⟨0x1100, 1, 0x07, 2, 1, 0, 0, false, 0, 0x40, {}⟩,  -- STORE_WINDOW
  ⟨0x1100, 1, 0x08, 4, 4, 0, 3, false, 0, 0, {}⟩,  -- AFV_MISSES
  ⟨0x1100, 1, 0x09, 4, 4, 0, 3, false, 0, 0, {}⟩]  -- RECENTRES

/-- Record AudLane: Table 12.6. -/
def rowsAudLane : List Row := [
  ⟨0x1110, 1, 0x00, 2, 1, 0, 0, false, 0, 3, {}⟩,  -- HIGHEST_SUB
  ⟨0x1110, 1, 0x01, 13, 512, 4, 4, true, 2, 0, { mask := some 0xFF800000 }⟩,  -- DEEMBED_CFG
  ⟨0x1110, 1, 0x02, 13, 512, 4, 4, true, 2, 0, { mask := some 0xFFC00000 }⟩,  -- EMBED_CFG
  ⟨0x1110, 1, 0x03, 13, 1024, 8, 0, false, 0, 0, {}⟩]  -- LANE_STATUS

/-- Record Bundle: Table 12.6. -/
def rowsBundle : List Row := [
  ⟨0x1120, 1, 0x00, 2, 1, 0, 0, false, 0, 2, {}⟩,  -- HIGHEST_SUB
  ⟨0x1120, 1, 0x01, 13, 4096, 8, 4, true, 2, 0, { mask := some 0xFFFFFFFFFF000000, parts := [⟨43, 7, [(0, 64)]⟩] }⟩,  -- BUNDLE_CFG
  ⟨0x1120, 1, 0x02, 13, 8192, 16, 0, false, 0, 0, {}⟩]  -- BUNDLE_STATUS

/-- Record Tone: Table 12.6. -/
def rowsTone : List Row := [
  ⟨0x1130, 1, 0x00, 2, 1, 0, 0, false, 0, 1, {}⟩,  -- HIGHEST_SUB
  ⟨0x1130, 1, 0x01, 13, 256, 4, 4, true, 2, 0, { mask := some 0xFFFF3FFF, parts := [⟨16, 15, [(0, 0), (20, 20000)]⟩, ⟨0, 14, [(0, 9600)]⟩] }⟩]  -- TONE_CFG

/-- Record Sap: Table 12.6. -/
def rowsSap : List Row := [
  ⟨0x1140, 1, 0x00, 2, 1, 0, 0, false, 0, 2, {}⟩,  -- HIGHEST_SUB
  ⟨0x1140, 1, 0x01, 13, 128, 16, 4, true, 2, 0, { mask := some 0xFFFFFFFFFFFFFFFFFFFC000000000000, parts := [⟨55, 3, [(0, 4)]⟩, ⟨53, 2, [(0, 2)]⟩] }⟩,  -- SAP_CFG
  ⟨0x1140, 1, 0x02, 13, 128, 16, 0, false, 0, 0, {}⟩]  -- SAP_STATUS

/-- Record Afv: Table 12.6. -/
def rowsAfv : List Row := [
  ⟨0x1150, 1, 0x00, 2, 1, 0, 0, false, 0, 1, {}⟩,  -- HIGHEST_SUB
  ⟨0x1150, 1, 0x01, 13, 4096, 4, 4, true, 2, 0, { mask := some 0xFFFFBFFF }⟩]  -- AFV_MAP

/-- Record Knot: Table 19.14. -/
def rowsKnot : List Row := [
  ⟨0x1200, 1, 0x00, 2, 1, 0, 0, false, 0, 6, {}⟩,  -- HIGHEST_SUB
  ⟨0x1200, 1, 0x01, 2, 1, 0, 1, true, 3, 0, { parts := [⟨0, 8, [(0, 0)]⟩] }⟩,  -- MODE
  ⟨0x1200, 1, 0x02, 3, 2, 0, 0, false, 0, 0, {}⟩,  -- KNOT_COUNT
  ⟨0x1200, 1, 0x03, 5, 8, 0, 0, false, 0, 0, {}⟩,  -- KNOT_GENERATION
  ⟨0x1200, 1, 0x04, 2, 1, 0, 0, false, 0, 0, {}⟩,  -- KNOT_STATUS
  ⟨0x1200, 1, 0x05, 13, 131072, 32, 0, false, 0, 0, {}⟩,  -- KNOT_MAP
  ⟨0x1200, 1, 0x06, 3, 2, 0, 0, false, 0, 0, {}⟩]  -- SPARES_USED

/-- Record Ring: Table 19.14. -/
def rowsRing : List Row := [
  ⟨0x1210, 1, 0x00, 2, 1, 0, 0, false, 0, 7, {}⟩,  -- HIGHEST_SUB
  ⟨0x1210, 1, 0x01, 12, 16, 0, 1, false, 0, 0, { mask := some 0xFFFF000000000000FFFFFFFFFFFFFFFF, parts := [⟨120, 8, [(0, 2)]⟩, ⟨112, 8, [(0, 64)]⟩] }⟩,  -- RING_SELECT
  ⟨0x1210, 1, 0x02, 13, 262144, 0, 0, false, 0, 0, {}⟩,  -- RING_DATA
  ⟨0x1210, 1, 0x03, 13, 156, 52, 0, false, 0, 0, {}⟩,  -- TIER_STATUS
  ⟨0x1210, 1, 0x04, 12, 4, 0, 2, false, 2, 0, {}⟩,  -- RING_CMD
  ⟨0x1210, 1, 0x05, 12, 16, 0, 0, false, 0, 0, {}⟩,  -- VERIFY_RESULT
  ⟨0x1210, 1, 0x06, 3, 2, 0, 0, false, 0, 0x258, {}⟩,  -- INTERVAL_S
  ⟨0x1210, 1, 0x07, 10, 8, 0, 0, false, 0, 0, {}⟩]  -- CURRENT_START

/-- Record Bus: Table 18.12. -/
def rowsBus : List Row := [
  ⟨0x1300, 1, 0x00, 2, 1, 0, 0, false, 0, 5, {}⟩,  -- HIGHEST_SUB
  ⟨0x1300, 1, 0x01, 2, 1, 0, 1, true, 3, 0, { parts := [⟨0, 8, [(0, 0)]⟩] }⟩,  -- MODE
  ⟨0x1300, 1, 0x02, 12, 4, 0, 2, false, 3, 0, {}⟩,  -- BUS_CMD
  ⟨0x1300, 1, 0x03, 4, 4, 0, 3, false, 0, 0, {}⟩,  -- ERRORS
  ⟨0x1300, 1, 0x04, 13, 256, 16, 0, false, 0, 0, {}⟩,  -- ERROR_LOG
  ⟨0x1300, 1, 0x05, 3, 2, 0, 0, false, 0, 0xA, {}⟩]  -- TIMEOUT_US

/-- Record BusT: Table 18.12. -/
def rowsBusT : List Row := [
  ⟨0x1310, 1, 0x00, 2, 1, 0, 0, false, 0, 3, {}⟩,  -- HIGHEST_SUB
  ⟨0x1310, 1, 0x01, 13, 192, 8, 0, false, 0, 0, {}⟩,  -- TARGET_STATUS
  ⟨0x1310, 1, 0x02, 13, 80, 8, 0, false, 0, 0, {}⟩,  -- MASTER_STATUS
  ⟨0x1310, 1, 0x03, 13, 24, 1, 4, true, 3, 0, { mask := some 0x8F, parts := [⟨0, 4, [(0, 9)]⟩] }⟩]  -- PARK_CFG

/-- Record Flow: Table 02.9. -/
def rowsFlow : List Row := [
  ⟨0x4000, 8192, 0x00, 2, 1, 0, 0, false, 0, 0x14, {}⟩,  -- HIGHEST_SUB
  ⟨0x4000, 8192, 0x01, 2, 1, 0, 1, true, 3, 0, { parts := [⟨0, 8, [(0, 0)]⟩] }⟩,  -- MODE
  ⟨0x4000, 8192, 0x02, 1, 1, 0, 4, true, 2, 0, { parts := [⟨0, 8, [(0, 1)]⟩] }⟩,  -- ENABLE
  ⟨0x4000, 8192, 0x03, 2, 1, 0, 0, false, 0, 0, {}⟩,  -- STATE
  ⟨0x4000, 8192, 0x04, 2, 1, 0, 4, true, 2, 0, { parts := [⟨0, 8, [(0, 12), (65, 71), (73, 76)]⟩] }⟩,  -- KIND
  ⟨0x4000, 8192, 0x05, 3, 2, 0, 4, true, 2, 0, {}⟩,  -- EFN
  ⟨0x4000, 8192, 0x06, 4, 4, 0, 4, true, 2, 0, { mask := some 0xFF00FFFF, parts := [⟨24, 8, [(0, 8)]⟩] }⟩,  -- BIND
  ⟨0x4000, 8192, 0x07, 3, 2, 0, 4, true, 2, 0, { parts := [⟨12, 4, [(0, 8)]⟩, ⟨8, 4, [(0, 8)]⟩, ⟨5, 3, [(0, 5)]⟩, ⟨2, 3, [(0, 5)]⟩] }⟩,  -- FORMAT
  ⟨0x4000, 8192, 0x08, 4, 4, 0, 4, true, 2, 0, { parts := [⟨0, 32, [(0, 100000000)]⟩] }⟩,  -- DECLARED_KBPS
  ⟨0x4000, 8192, 0x09, 4, 4, 0, 4, true, 2, 0, {}⟩,  -- PATH
  ⟨0x4000, 8192, 0x0A, 2, 1, 0, 0, false, 0, 0, {}⟩,  -- DEST_MAP
  ⟨0x4000, 8192, 0x0B, 4, 4, 0, 0, false, 0, 0, {}⟩,  -- RESERVED_MBPS
  ⟨0x4000, 8192, 0x0C, 4, 4, 0, 0, false, 0, 0, {}⟩,  -- SEQ_NEXT
  ⟨0x4000, 8192, 0x0D, 5, 8, 0, 0, false, 0, 0, {}⟩,  -- CELLS
  ⟨0x4000, 8192, 0x0E, 4, 4, 0, 3, false, 0, 0, {}⟩,  -- MISSING
  ⟨0x4000, 8192, 0x0F, 4, 4, 0, 3, false, 0, 0, {}⟩,  -- LATE
  ⟨0x4000, 8192, 0x10, 4, 4, 0, 3, false, 0, 0, {}⟩,  -- MALFORMED
  ⟨0x4000, 8192, 0x11, 4, 4, 0, 3, false, 0, 0, {}⟩,  -- STALE
  ⟨0x4000, 8192, 0x12, 4, 4, 0, 0, false, 0, 0, {}⟩,  -- STATUS
  ⟨0x4000, 8192, 0x13, 10, 8, 0, 0, false, 0, 0, {}⟩,  -- RUN_START
  ⟨0x4000, 8192, 0x14, 11, 32, 0, 1, true, 2, 0, { utf8 := true }⟩]  -- LABEL

/-- Record Layer: Table 11.6. -/
def rowsLayer : List Row := [
  ⟨0x6000, 192, 0x00, 2, 1, 0, 0, false, 0, 0x10, {}⟩,  -- HIGHEST_SUB
  ⟨0x6000, 192, 0x01, 2, 1, 0, 1, true, 3, 0, { parts := [⟨0, 8, [(0, 0)]⟩] }⟩,  -- MODE
  ⟨0x6000, 192, 0x02, 2, 1, 0, 4, true, 2, 0xFF, { parts := [⟨0, 8, [(0, 11), (255, 255)]⟩] }⟩,  -- HEAD
  ⟨0x6000, 192, 0x03, 2, 1, 0, 4, true, 2, 0, { parts := [⟨0, 8, [(0, 1)]⟩] }⟩,  -- SOURCE
  ⟨0x6000, 192, 0x04, 3, 2, 0, 4, true, 2, 0, { parts := [⟨0, 16, [(0, 511)]⟩] }⟩,  -- VENEER
  ⟨0x6000, 192, 0x05, 12, 16, 0, 4, true, 2, 0, {}⟩,  -- GEOMETRY
  ⟨0x6000, 192, 0x06, 4, 4, 0, 4, true, 2, 0xFF0000, { mask := some 0xF8FFC000 }⟩,  -- BLEND
  ⟨0x6000, 192, 0x07, 4, 4, 0, 4, true, 2, 0xFF000000, {}⟩,  -- FILL_COLOUR
  ⟨0x6000, 192, 0x08, 2, 1, 0, 4, true, 2, 2, {}⟩,  -- NOT_READY_REPEAT
  ⟨0x6000, 192, 0x09, 3, 2, 0, 1, true, 1, 0, { mask := some 0x8F0F }⟩,  -- TALLY
  ⟨0x6000, 192, 0x0A, 4, 4, 0, 4, true, 2, 0, { mask := some 0xFFC03FFF, parts := [⟨27, 5, [(0, 16)]⟩] }⟩,  -- BARS
  ⟨0x6000, 192, 0x0B, 4, 4, 0, 0, false, 0, 0, {}⟩,  -- STATUS
  ⟨0x6000, 192, 0x0C, 4, 4, 0, 3, false, 0, 0, {}⟩,  -- NOT_READY_FRAMES
  ⟨0x6000, 192, 0x0D, 4, 4, 0, 3, false, 0, 0, {}⟩,  -- REPEATS
  ⟨0x6000, 192, 0x0E, 4, 4, 0, 3, false, 0, 0, {}⟩,  -- DROPS
  ⟨0x6000, 192, 0x0F, 4, 4, 0, 3, false, 0, 0, {}⟩,  -- LOST_LINES
  ⟨0x6000, 192, 0x10, 3, 2, 0, 0, false, 0, 0, {}⟩]  -- LINE_NEED

/-- Record Head: Table 11.5. -/
def rowsHead : List Row := [
  ⟨0x6100, 12, 0x00, 2, 1, 0, 0, false, 0, 9, {}⟩,  -- HIGHEST_SUB
  ⟨0x6100, 12, 0x01, 2, 1, 0, 1, true, 3, 0, { parts := [⟨0, 8, [(0, 0)]⟩] }⟩,  -- MODE
  ⟨0x6100, 12, 0x02, 5, 8, 0, 4, true, 2, 0, { mask := some 0xF0000000FFFFFFFF }⟩,  -- TIMING
  ⟨0x6100, 12, 0x03, 4, 4, 0, 4, true, 2, 0xFF000000, {}⟩,  -- BACKGROUND
  ⟨0x6100, 12, 0x04, 12, 64, 0, 4, true, 2, 0xFF000000FF000000FF000000FF000000FF000000FF000000FF000000FF000000FF000000FF000000FF000000FF000000FF000000FF000000FF000000FF000000, {}⟩,  -- PALETTE
  ⟨0x6100, 12, 0x05, 4, 4, 0, 0, false, 0, 0, {}⟩,  -- STATUS
  ⟨0x6100, 12, 0x06, 2, 1, 0, 0, false, 0, 0, {}⟩,  -- LAYERS
  ⟨0x6100, 12, 0x07, 3, 2, 0, 0, false, 0, 0xFFFF, {}⟩,  -- OUT_CONTEXT
  ⟨0x6100, 12, 0x08, 12, 24, 0, 0, false, 0, 0, {}⟩,  -- ENGINE_MASK
  ⟨0x6100, 12, 0x09, 11, 32, 0, 1, true, 2, 0, { utf8 := true }⟩]  -- LABEL

/-- Record Tile: Table 10.10. -/
def rowsTile : List Row := [
  ⟨0x6200, 64, 0x00, 2, 1, 0, 0, false, 0, 0x12, {}⟩,  -- HIGHEST_SUB
  ⟨0x6200, 64, 0x01, 2, 1, 0, 1, true, 3, 0, { parts := [⟨0, 8, [(0, 0)]⟩] }⟩,  -- MODE
  ⟨0x6200, 64, 0x02, 4, 4, 0, 4, true, 2, 0xFF0000, { mask := some 0xF8FF0000, parts := [⟨30, 2, [(0, 2)]⟩, ⟨28, 2, [(0, 2)]⟩, ⟨16, 8, [(0, 15), (255, 255)]⟩] }⟩,  -- PROC_CFG
  ⟨0x6200, 64, 0x03, 5, 8, 0, 4, true, 2, 0, { mask := some 0xFF800000FFFFFFFF, parts := [⟨55, 2, [(0, 2)]⟩] }⟩,  -- FS_CFG_A
  ⟨0x6200, 64, 0x04, 5, 8, 0, 4, true, 2, 0, { mask := some 0xFF800000FFFFFFFF, parts := [⟨55, 2, [(0, 2)]⟩] }⟩,  -- FS_CFG_B
  ⟨0x6200, 64, 0x05, 12, 32, 0, 4, true, 2, 0, {}⟩,  -- ANC_PASS
  ⟨0x6200, 64, 0x06, 4, 4, 0, 0, false, 0, 0, {}⟩,  -- STATUS
  ⟨0x6200, 64, 0x07, 4, 4, 0, 0, false, 0, 0, {}⟩,  -- LATENCY_NS
  ⟨0x6200, 64, 0x08, 3, 2, 0, 0, false, 0, 0xFFFF, {}⟩,  -- IN_CONTEXT
  ⟨0x6200, 64, 0x09, 3, 2, 0, 0, false, 0, 0xFFFF, {}⟩,  -- OUT_CONTEXT
  ⟨0x6200, 64, 0x0A, 2, 1, 0, 0, false, 0, 0xFF, {}⟩,  -- PHYS_TILE
  ⟨0x6200, 64, 0x0B, 4, 4, 0, 3, false, 0, 0, {}⟩,  -- DROPS_A
  ⟨0x6200, 64, 0x0C, 4, 4, 0, 3, false, 0, 0, {}⟩,  -- REPEATS_A
  ⟨0x6200, 64, 0x0D, 4, 4, 0, 3, false, 0, 0, {}⟩,  -- DROPS_B
  ⟨0x6200, 64, 0x0E, 4, 4, 0, 3, false, 0, 0, {}⟩,  -- REPEATS_B
  ⟨0x6200, 64, 0x0F, 4, 4, 0, 3, false, 0, 0, {}⟩,  -- LOST_LINES
  ⟨0x6200, 64, 0x10, 4, 4, 0, 3, false, 0, 0, {}⟩,  -- ANC_DROPPED
  ⟨0x6200, 64, 0x11, 3, 2, 0, 0, false, 0, 0, {}⟩,  -- SUBSTITUTIONS
  ⟨0x6200, 64, 0x12, 11, 32, 0, 1, true, 2, 0, { utf8 := true }⟩]  -- LABEL

/-- Record Dest: Table 12.7. -/
def rowsDest : List Row := [
  ⟨0x7000, 2048, 0x00, 2, 1, 0, 0, false, 0, 0xB, {}⟩,  -- HIGHEST_SUB
  ⟨0x7000, 2048, 0x01, 2, 1, 0, 1, true, 3, 0, { parts := [⟨0, 8, [(0, 0)]⟩] }⟩,  -- MODE
  ⟨0x7000, 2048, 0x02, 12, 16, 0, 4, true, 2, 0xFFFFFFFFFFFFFFFFFFFFFFFFFFFFFFFF, { parts := [⟨0, 16, [(0, 16383), (65535, 65535)]⟩, ⟨16, 16, [(0, 16383), (65535, 65535)]⟩, ⟨32, 16, [(0, 16383), (65535, 65535)]⟩, ⟨48, 16, [(0, 16383), (65535, 65535)]⟩, ⟨64, 16, [(0, 16383), (65535, 65535)]⟩, ⟨80, 16, [(0, 16383), (65535, 65535)]⟩, ⟨96, 16, [(0, 16383), (65535, 65535)]⟩, ⟨112, 16, [(0, 16383), (65535, 65535)]⟩] }⟩,  -- SOURCES
  ⟨0x7000, 2048, 0x03, 12, 16, 0, 4, true, 1, 0, {}⟩,  -- GAINS
  ⟨0x7000, 2048, 0x04, 4, 4, 0, 4, true, 2, 0, { parts := [⟨0, 32, [(0, 480000)]⟩] }⟩,  -- DELAY_SAMPLES
  ⟨0x7000, 2048, 0x05, 4, 4, 0, 4, true, 2, 0, { mask := some 0x803F0FFF }⟩,  -- FOLLOW
  ⟨0x7000, 2048, 0x06, 4, 4, 0, 0, false, 0, 0, {}⟩,  -- STATUS
  ⟨0x7000, 2048, 0x07, 12, 16, 0, 0, false, 0, 0xFFFFFFFFFFFFFFFFFFFFFFFFFFFFFFFF, {}⟩,  -- CURRENT_SOURCES
  ⟨0x7000, 2048, 0x08, 4, 4, 0, 3, false, 0, 0, {}⟩,  -- CLIPS
  ⟨0x7000, 2048, 0x09, 4, 4, 0, 0, false, 0, 0, {}⟩,  -- FADES
  ⟨0x7000, 2048, 0x0A, 4, 4, 0, 3, false, 0, 0, {}⟩,  -- FADES_REPLACED
  ⟨0x7000, 2048, 0x0B, 11, 32, 0, 1, true, 2, 0, { utf8 := true }⟩]  -- LABEL

/-- The records in ascending index order: first index, indexes described, rows. -/
def records : List (Nat × Nat × List Row) :=
  [(0x0000, 1, rowsIdent), (0x0001, 1, rowsDirec), (0x0100, 1, rowsRcp), (0x0110, 1, rowsMg), (0x0120, 1, rowsSess), (0x0200, 1, rowsSec), (0x0300, 1, rowsUpd), (0x0301, 1, rowsImg), (0x0310, 1, rowsSlot), (0x0400, 1, rowsFlt), (0x0410, 1, rowsSrc), (0x0420, 1, rowsSumm), (0x0500, 1, rowsPwr), (0x0510, 1, rowsRst), (0x0520, 1, rowsIsl), (0x0600, 1, rowsTime)]
  ++ [(0x0610, 1, rowsPtp), (0x0620, 1, rowsTc), (0x0630, 1, rowsTimeOut), (0x0700, 1, rowsRefArea), (0x0710, 1, rowsRef), (0x0720, 1, rowsDpll), (0x0800, 1, rowsPhy), (0x0810, 1, rowsPhyLane), (0x0820, 1, rowsSlice), (0x0900, 1, rowsSdiArea), (0x0910, 1, rowsSdi), (0x0A00, 1, rowsNet), (0x0A01, 1, rowsNetCtl), (0x0A10, 1, rowsNetPort), (0x0A20, 1, rowsNetIf), (0x0A30, 1, rowsNetRx)]
  ++ [(0x0A31, 1, rowsNetTx), (0x0B00, 1, rowsEns), (0x0B10, 1, rowsDwl), (0x0C00, 1, rowsXp), (0x0C01, 1, rowsXpCount), (0x0C10, 1, rowsTake), (0x0C11, 1, rowsXpDom), (0x0C20, 16, rowsSalvo), (0x0D00, 1, rowsPlanes), (0x0D10, 2, rowsPlane), (0x0D20, 1, rowsTwin), (0x0D21, 1, rowsLeg), (0x0E00, 1, rowsFs), (0x0E01, 1, rowsFsHost), (0x0E10, 1, rowsChan), (0x0E20, 1, rowsFsPort)]
  ++ [(0x0E30, 1, rowsFsMap), (0x0E40, 1, rowsShift), (0x0F00, 1, rowsTiles), (0x0F10, 1, rowsTileMap), (0x0F20, 16, rowsLut), (0x1000, 1, rowsComp), (0x1010, 1, rowsVeneer), (0x1100, 1, rowsAud), (0x1110, 1, rowsAudLane), (0x1120, 1, rowsBundle), (0x1130, 1, rowsTone), (0x1140, 1, rowsSap), (0x1150, 1, rowsAfv), (0x1200, 1, rowsKnot), (0x1210, 1, rowsRing), (0x1300, 1, rowsBus)]
  ++ [(0x1310, 1, rowsBusT), (0x4000, 8192, rowsFlow), (0x6000, 192, rowsLayer), (0x6100, 12, rowsHead), (0x6200, 64, rowsTile), (0x7000, 2048, rowsDest)]

end Dict
end Sys2Proof
end

