-- ==== Sys2Proof/Machine/Fields.lean ====
section
/-! DEFINITION. The named entries of the object dictionary (namespace D) and the named bit fields of their
layouts, one constant per line of the spec's entry tables and bit tables. -/

namespace Sys2Proof

/-- A field of a dictionary entry: bits `lo` to `lo + w − 1` of the entry `ix.sub` (R5). Where `rep` is true
the entry repeats at consecutive indexes, and instance n is at index ix + n; otherwise instance n is DOM element n. -/
structure Fld where
  ix : Nat
  sub : Nat
  lo : Nat
  w : Nat
  rep : Bool
  deriving DecidableEq, Repr

namespace D

/-! ### Record Ident, 0x0000 (Table 15.12, chapter 15) -/
/-- 0x0000.01 MODE (R435, Table 15.12). -/
def Ident.MODE : Fld := ⟨0x0000, 0x01, 0, 8, false⟩
/-- 0x0000.02 VENDOR (R435, Table 15.12). -/
def Ident.VENDOR : Fld := ⟨0x0000, 0x02, 0, 128, false⟩
/-- 0x0000.03 PRODUCT (R435, Table 15.12). -/
def Ident.PRODUCT : Fld := ⟨0x0000, 0x03, 0, 128, false⟩
/-- 0x0000.04 ORDERING_CODE (R435, Table 15.12). -/
def Ident.ORDERING_CODE : Fld := ⟨0x0000, 0x04, 0, 128, false⟩
/-- 0x0000.05 STEPPING (R435, Table 15.12). -/
def Ident.STEPPING : Fld := ⟨0x0000, 0x05, 0, 16, false⟩
/-- 0x0000.06 SERIAL (R435, Table 15.12). -/
def Ident.SERIAL : Fld := ⟨0x0000, 0x06, 0, 128, false⟩
/-- 0x0000.07 FRAME_ID (R435, Table 15.12). -/
def Ident.FRAME_ID : Fld := ⟨0x0000, 0x07, 0, 256, false⟩
/-- 0x0000.08 FRAME_ID_IN_USE (R435, Table 15.12). -/
def Ident.FRAME_ID_IN_USE : Fld := ⟨0x0000, 0x08, 0, 256, false⟩
/-- 0x0000.09 DEVICE_LABEL (R435, Table 15.12). -/
def Ident.DEVICE_LABEL : Fld := ⟨0x0000, 0x09, 0, 256, false⟩
/-- 0x0000.0A BASE_MAC (R435, Table 15.12). -/
def Ident.BASE_MAC : Fld := ⟨0x0000, 0x0A, 0, 48, false⟩
/-- 0x0000.0B MAC_COUNT (R435, Table 15.12). -/
def Ident.MAC_COUNT : Fld := ⟨0x0000, 0x0B, 0, 8, false⟩
/-- 0x0000.0C IDENTITY_DIGEST (R435, Table 15.12). -/
def Ident.IDENTITY_DIGEST : Fld := ⟨0x0000, 0x0C, 0, 256, false⟩
/-- 0x0000.0D UPTIME_S (R435, Table 15.12). -/
def Ident.UPTIME_S : Fld := ⟨0x0000, 0x0D, 0, 64, false⟩
/-- 0x0000.0E BOOT_COUNT (R435, Table 15.12). -/
def Ident.BOOT_COUNT : Fld := ⟨0x0000, 0x0E, 0, 32, false⟩
/-- 0x0000.0F DICT_LAYOUT (R435, Table 15.12). -/
def Ident.DICT_LAYOUT : Fld := ⟨0x0000, 0x0F, 0, 16, false⟩

/-! ### Record Direc, 0x0001 (Table 15.12, chapter 15) -/
/-- 0x0001.01 DIRECTORY (R435, Table 15.12). -/
def Direc.DIRECTORY : Fld := ⟨0x0001, 0x01, 0, 128, false⟩
/-- 0x0001.02 DIRECTORY_COUNT (R435, Table 15.12). -/
def Direc.DIRECTORY_COUNT : Fld := ⟨0x0001, 0x02, 0, 16, false⟩

/-! ### Record Rcp, 0x0100 (Table 15.13, chapter 15) -/
/-- 0x0100.01 MODE (R435, Table 15.13). -/
def Rcp.MODE : Fld := ⟨0x0100, 0x01, 0, 8, false⟩
/-- 0x0100.02 RCP_UDP_PORT (R435, Table 15.13). -/
def Rcp.RCP_UDP_PORT : Fld := ⟨0x0100, 0x02, 0, 16, false⟩
/-- 0x0100.03 SESSION_IDLE_S (R435, Table 15.13). -/
def Rcp.SESSION_IDLE_S : Fld := ⟨0x0100, 0x03, 0, 16, false⟩
/-- 0x0100.04 GROUP_IDLE_S (R435, Table 15.13). -/
def Rcp.GROUP_IDLE_S : Fld := ⟨0x0100, 0x04, 0, 16, false⟩
/-- 0x0100.05 ANON_VIEW (R435, Table 15.13). -/
def Rcp.ANON_VIEW : Fld := ⟨0x0100, 0x05, 0, 8, false⟩
/-- 0x0100.06 MG_CONFIRM_S (R435, Table 15.13). -/
def Rcp.MG_CONFIRM_S : Fld := ⟨0x0100, 0x06, 0, 16, false⟩
/-- 0x0100.07 SESSIONS_OPEN (R435, Table 15.13). -/
def Rcp.SESSIONS_OPEN : Fld := ⟨0x0100, 0x07, 0, 8, false⟩
/-- 0x0100.08 GROUP_HOLDER (R435, Table 15.13). -/
def Rcp.GROUP_HOLDER : Fld := ⟨0x0100, 0x08, 0, 32, false⟩
/-- 0x0100.09 GROUP_ENTRIES (R435, Table 15.13). -/
def Rcp.GROUP_ENTRIES : Fld := ⟨0x0100, 0x09, 0, 16, false⟩
/-- 0x0100.0A GROUP_BYTES (R435, Table 15.13). -/
def Rcp.GROUP_BYTES : Fld := ⟨0x0100, 0x0A, 0, 32, false⟩
/-- 0x0100.0B GROUP_ABORT (R435, Table 15.13). -/
def Rcp.GROUP_ABORT : Fld := ⟨0x0100, 0x0B, 0, 8, false⟩
/-- 0x0100.0C COMMIT_GENERATION (R435, Table 15.13). -/
def Rcp.COMMIT_GENERATION : Fld := ⟨0x0100, 0x0C, 0, 64, false⟩
/-- 0x0100.0D JOURNAL_USED_PCT (R435, Table 15.13). -/
def Rcp.JOURNAL_USED_PCT : Fld := ⟨0x0100, 0x0D, 0, 8, false⟩
/-- 0x0100.0E NOTIFY_LOST (R435, Table 15.13). -/
def Rcp.NOTIFY_LOST : Fld := ⟨0x0100, 0x0E, 0, 32, false⟩
/-- 0x0100.0F FRAMES_DROPPED (R435, Table 15.13). -/
def Rcp.FRAMES_DROPPED : Fld := ⟨0x0100, 0x0F, 0, 32, false⟩
/-- 0x0100.10 AUTH_FAILURES (R435, Table 15.13). -/
def Rcp.AUTH_FAILURES : Fld := ⟨0x0100, 0x10, 0, 32, false⟩
/-- 0x0100.11 RETRANSMITS (R435, Table 15.13). -/
def Rcp.RETRANSMITS : Fld := ⟨0x0100, 0x11, 0, 32, false⟩

/-! ### Record Mg, 0x0110 (Table 15.13, chapter 15) -/
/-- 0x0110.01 MG_CFG (R435, Table 15.13). -/
def Mg.MG_CFG : Fld := ⟨0x0110, 0x01, 0, 384, false⟩
/-- 0x0110.02 MG_STATUS (R435, Table 15.13). -/
def Mg.MG_STATUS : Fld := ⟨0x0110, 0x02, 0, 128, false⟩
/-- 0x0110.03 MG_COUNTERS (R435, Table 15.13). -/
def Mg.MG_COUNTERS : Fld := ⟨0x0110, 0x03, 0, 256, false⟩
/-- 0x0110.04 INBAND_IF (R435, Table 15.13). -/
def Mg.INBAND_IF : Fld := ⟨0x0110, 0x04, 0, 256, false⟩
/-! Fields of MG_STATUS (Table 15.14). -/
def MgStatus.LINK : Fld := ⟨0x0110, 0x02, 126, 2, false⟩
def MgStatus.SPEED_IN_USE : Fld := ⟨0x0110, 0x02, 124, 2, false⟩
def MgStatus.CONFIRM_PENDING : Fld := ⟨0x0110, 0x02, 123, 1, false⟩
def MgStatus.IPV4_LL_IN_USE : Fld := ⟨0x0110, 0x02, 122, 1, false⟩
def MgStatus.IPV4_IN_USE : Fld := ⟨0x0110, 0x02, 64, 32, false⟩
/-! Fields of MG_COUNTERS (Table 15.15). -/
def MgCounters.RX_FRAMES : Fld := ⟨0x0110, 0x03, 192, 64, false⟩
def MgCounters.TX_FRAMES : Fld := ⟨0x0110, 0x03, 128, 64, false⟩
def MgCounters.RX_FCS_ERRORS : Fld := ⟨0x0110, 0x03, 64, 64, false⟩
def MgCounters.RCP_FRAMES : Fld := ⟨0x0110, 0x03, 0, 64, false⟩
/-! Fields of MG_CFG (Table 15.8). -/
def MgCfg.ENABLE : Fld := ⟨0x0110, 0x01, 383, 1, false⟩
def MgCfg.PCP : Fld := ⟨0x0110, 0x01, 380, 3, false⟩
def MgCfg.VLAN_ID : Fld := ⟨0x0110, 0x01, 368, 12, false⟩
def MgCfg.IPV4_PREFIX : Fld := ⟨0x0110, 0x01, 360, 8, false⟩
def MgCfg.IPV6_PREFIX : Fld := ⟨0x0110, 0x01, 352, 8, false⟩
def MgCfg.IPV4_ADDR : Fld := ⟨0x0110, 0x01, 320, 32, false⟩
def MgCfg.IPV6_ADDR : Fld := ⟨0x0110, 0x01, 192, 128, false⟩
def MgCfg.IPV4_GATEWAY : Fld := ⟨0x0110, 0x01, 160, 32, false⟩
def MgCfg.IPV6_GATEWAY : Fld := ⟨0x0110, 0x01, 32, 128, false⟩
def MgCfg.SPEED : Fld := ⟨0x0110, 0x01, 30, 2, false⟩
def MgCfg.IPV4_LL : Fld := ⟨0x0110, 0x01, 29, 1, false⟩

/-! ### Record Sess, 0x0120 (Table 15.13, chapter 15) -/
/-- 0x0120.01 SESSION_TABLE (R435, Table 15.13). -/
def Sess.SESSION_TABLE : Fld := ⟨0x0120, 0x01, 0, 256, false⟩

/-! ### Record Sec, 0x0200 (Table 16.14, chapter 16) -/
/-- 0x0200.01 MODE (R473, Table 16.14). -/
def Sec.MODE : Fld := ⟨0x0200, 0x01, 0, 8, false⟩
/-- 0x0200.02 OWNER_STATE (R473, Table 16.14). -/
def Sec.OWNER_STATE : Fld := ⟨0x0200, 0x02, 0, 8, false⟩
/-- 0x0200.03 IDENTITY_PUBLIC (R473, Table 16.14). -/
def Sec.IDENTITY_PUBLIC : Fld := ⟨0x0200, 0x03, 0, 15616, false⟩
/-- 0x0200.04 VENDOR_CERT (R473, Table 16.14). -/
def Sec.VENDOR_CERT : Fld := ⟨0x0200, 0x04, 0, 26472, false⟩
/-- 0x0200.05 OWNER_PUBLIC (R473, Table 16.14). -/
def Sec.OWNER_PUBLIC : Fld := ⟨0x0200, 0x05, 0, 15616, false⟩
/-- 0x0200.06 POLICY (R473, Table 16.14). -/
def Sec.POLICY : Fld := ⟨0x0200, 0x06, 0, 256, false⟩
/-- 0x0200.07 OWNER_NONCE (R473, Table 16.14). -/
def Sec.OWNER_NONCE : Fld := ⟨0x0200, 0x07, 0, 256, false⟩
/-- 0x0200.08 OWNER_CMD (R473, Table 16.14). -/
def Sec.OWNER_CMD : Fld := ⟨0x0200, 0x08, 0, 69152, false⟩
/-- 0x0200.09 ENROL_WINDOW_S (R473, Table 16.14). -/
def Sec.ENROL_WINDOW_S : Fld := ⟨0x0200, 0x09, 0, 16, false⟩
/-- 0x0200.0A OWNER_GENERATION (R473, Table 16.14). -/
def Sec.OWNER_GENERATION : Fld := ⟨0x0200, 0x0A, 0, 64, false⟩
/-- 0x0200.0B ATTEST_NONCE (R473, Table 16.14). -/
def Sec.ATTEST_NONCE : Fld := ⟨0x0200, 0x0B, 0, 256, false⟩
/-- 0x0200.0C ATTEST_QUOTE (R473, Table 16.14). -/
def Sec.ATTEST_QUOTE : Fld := ⟨0x0200, 0x0C, 0, 29608, false⟩
/-- 0x0200.0D MEASUREMENTS (R473, Table 16.14). -/
def Sec.MEASUREMENTS : Fld := ⟨0x0200, 0x0D, 0, 256, false⟩
/-- 0x0200.0E DEBUG_STATE (R473, Table 16.14). -/
def Sec.DEBUG_STATE : Fld := ⟨0x0200, 0x0E, 0, 8, false⟩
/-- 0x0200.0F DEBUG_TOKEN (R473, Table 16.14). -/
def Sec.DEBUG_TOKEN : Fld := ⟨0x0200, 0x0F, 0, 26880, false⟩
/-- 0x0200.10 ARC (R473, Table 16.14). -/
def Sec.ARC : Fld := ⟨0x0200, 0x10, 0, 8, false⟩
/-- 0x0200.11 OPEN_FAILURES (R473, Table 16.14). -/
def Sec.OPEN_FAILURES : Fld := ⟨0x0200, 0x11, 0, 32, false⟩
/-! Fields of POLICY (Table 16.4). -/
def Policy.ACCEPT_VENDOR : Fld := ⟨0x0200, 0x06, 255, 1, false⟩
def Policy.ACCEPT_OWNER : Fld := ⟨0x0200, 0x06, 254, 1, false⟩
def Policy.REQUIRE_BOTH : Fld := ⟨0x0200, 0x06, 253, 1, false⟩
def Policy.OPEN_VIEW : Fld := ⟨0x0200, 0x06, 252, 1, false⟩
def Policy.DEBUG_ALLOWED : Fld := ⟨0x0200, 0x06, 251, 1, false⟩
def Policy.STRICT_TIME : Fld := ⟨0x0200, 0x06, 250, 1, false⟩
def Policy.UPDATE_ROLE : Fld := ⟨0x0200, 0x06, 247, 3, false⟩
def Policy.CRED_EPOCH : Fld := ⟨0x0200, 0x06, 192, 32, false⟩

/-! ### Record Upd, 0x0300 (Table 16.15, chapter 16) -/
/-- 0x0300.01 MODE (R473, Table 16.15). -/
def Upd.MODE : Fld := ⟨0x0300, 0x01, 0, 8, false⟩
/-- 0x0300.02 UPDATE_CMD (R473, Table 16.15). -/
def Upd.UPDATE_CMD : Fld := ⟨0x0300, 0x02, 0, 32, false⟩
/-- 0x0300.03 UPDATE_STATE (R473, Table 16.15). -/
def Upd.UPDATE_STATE : Fld := ⟨0x0300, 0x03, 0, 8, false⟩
/-- 0x0300.04 UPDATE_HOLDER (R473, Table 16.15). -/
def Upd.UPDATE_HOLDER : Fld := ⟨0x0300, 0x04, 0, 32, false⟩
/-- 0x0300.05 UPDATE_IDLE_S (R473, Table 16.15). -/
def Upd.UPDATE_IDLE_S : Fld := ⟨0x0300, 0x05, 0, 16, false⟩
/-- 0x0300.06 MANIFEST_IN (R473, Table 16.15). -/
def Upd.MANIFEST_IN : Fld := ⟨0x0300, 0x06, 0, 55808, false⟩
/-- 0x0300.07 CONFIRMED_SLOT (R473, Table 16.15). -/
def Upd.CONFIRMED_SLOT : Fld := ⟨0x0300, 0x07, 0, 8, false⟩
/-- 0x0300.08 TRIAL_SLOT (R473, Table 16.15). -/
def Upd.TRIAL_SLOT : Fld := ⟨0x0300, 0x08, 0, 8, false⟩
/-- 0x0300.09 TRIAL_S (R473, Table 16.15). -/
def Upd.TRIAL_S : Fld := ⟨0x0300, 0x09, 0, 32, false⟩
/-- 0x0300.0A AUTO_ACCEPT (R473, Table 16.15). -/
def Upd.AUTO_ACCEPT : Fld := ⟨0x0300, 0x0A, 0, 8, false⟩
/-- 0x0300.0B TRIAL_LEFT_S (R473, Table 16.15). -/
def Upd.TRIAL_LEFT_S : Fld := ⟨0x0300, 0x0B, 0, 32, false⟩
/-- 0x0300.0C SETTINGS_DEFAULTED (R473, Table 16.15). -/
def Upd.SETTINGS_DEFAULTED : Fld := ⟨0x0300, 0x0C, 0, 8, false⟩
/-- 0x0300.0D FALLBACKS (R473, Table 16.15). -/
def Upd.FALLBACKS : Fld := ⟨0x0300, 0x0D, 0, 32, false⟩
/-- 0x0300.0E LAST_RESULT (R473, Table 16.15). -/
def Upd.LAST_RESULT : Fld := ⟨0x0300, 0x0E, 0, 8, false⟩

/-! ### Record Img, 0x0301 (Table 16.15, chapter 16) -/
/-- 0x0301.01 IMAGE_MGT (R473, Table 16.15). -/
def Img.IMAGE_MGT : Fld := ⟨0x0301, 0x01, 0, 134217728, false⟩
/-- 0x0301.02 IMAGE_LNC (R473, Table 16.15). -/
def Img.IMAGE_LNC : Fld := ⟨0x0301, 0x02, 0, 134217728, false⟩
/-- 0x0301.03 IMAGE_MEM (R473, Table 16.15). -/
def Img.IMAGE_MEM : Fld := ⟨0x0301, 0x03, 0, 134217728, false⟩
/-- 0x0301.04 IMAGE_TMC (R473, Table 16.15). -/
def Img.IMAGE_TMC : Fld := ⟨0x0301, 0x04, 0, 134217728, false⟩
/-- 0x0301.05 IMAGE_SEC (R473, Table 16.15). -/
def Img.IMAGE_SEC : Fld := ⟨0x0301, 0x05, 0, 134217728, false⟩

/-! ### Record Slot, 0x0310 (Table 16.15, chapter 16) -/
/-- 0x0310.01 SLOT_STATUS (R473, Table 16.15). -/
def Slot.SLOT_STATUS : Fld := ⟨0x0310, 0x01, 0, 256, false⟩
/-- 0x0310.02 SLOT_MANIFEST (R473, Table 16.15). -/
def Slot.SLOT_MANIFEST : Fld := ⟨0x0310, 0x02, 0, 55808, false⟩
/-- 0x0310.03 IMAGE_STATUS (R473, Table 16.15). -/
def Slot.IMAGE_STATUS : Fld := ⟨0x0310, 0x03, 0, 128, false⟩
/-! Fields of SLOT_STATUS (Table 16.19). -/
def SlotStatus.STATE : Fld := ⟨0x0310, 0x01, 253, 3, false⟩
def SlotStatus.VENDOR_SIGNED : Fld := ⟨0x0310, 0x01, 252, 1, false⟩
def SlotStatus.OWNER_SIGNED : Fld := ⟨0x0310, 0x01, 251, 1, false⟩
def SlotStatus.SVN : Fld := ⟨0x0310, 0x01, 240, 8, false⟩
def SlotStatus.SET_VERSION : Fld := ⟨0x0310, 0x01, 208, 32, false⟩
def SlotStatus.SETTINGS_FORMAT : Fld := ⟨0x0310, 0x01, 192, 16, false⟩
def SlotStatus.MANIFEST_DIGEST : Fld := ⟨0x0310, 0x01, 64, 128, false⟩
def SlotStatus.IMAGES_KEPT : Fld := ⟨0x0310, 0x01, 0, 5, false⟩
/-! Fields of IMAGE_STATUS (Table 16.21). -/
def ImageStatus.SOURCE : Fld := ⟨0x0310, 0x03, 125, 3, false⟩
def ImageStatus.STATE : Fld := ⟨0x0310, 0x03, 122, 3, false⟩
def ImageStatus.IFACE : Fld := ⟨0x0310, 0x03, 104, 16, false⟩
def ImageStatus.DIGEST : Fld := ⟨0x0310, 0x03, 0, 96, false⟩

/-! ### Record Flt, 0x0400 (Table 17.6, chapter 17) -/
/-- 0x0400.01 MODE (R490, Table 17.6). -/
def Flt.MODE : Fld := ⟨0x0400, 0x01, 0, 8, false⟩
/-- 0x0400.02 FAULT_CMD (R490, Table 17.6). -/
def Flt.FAULT_CMD : Fld := ⟨0x0400, 0x02, 0, 64, false⟩
/-- 0x0400.03 CAPTURE_MIN_SEV (R490, Table 17.6). -/
def Flt.CAPTURE_MIN_SEV : Fld := ⟨0x0400, 0x03, 0, 8, false⟩
/-- 0x0400.04 ERRN_MIN_US (R490, Table 17.6). -/
def Flt.ERRN_MIN_US : Fld := ⟨0x0400, 0x04, 0, 16, false⟩
/-- 0x0400.05 FIRST_ERROR (R490, Table 17.6). -/
def Flt.FIRST_ERROR : Fld := ⟨0x0400, 0x05, 0, 128, false⟩
/-- 0x0400.06 PENDING_GROUPS (R490, Table 17.6). -/
def Flt.PENDING_GROUPS : Fld := ⟨0x0400, 0x06, 0, 32, false⟩
/-- 0x0400.07 PENDING_COUNT (R490, Table 17.6). -/
def Flt.PENDING_COUNT : Fld := ⟨0x0400, 0x07, 0, 16, false⟩
/-- 0x0400.08 ERRN_STATE (R490, Table 17.6). -/
def Flt.ERRN_STATE : Fld := ⟨0x0400, 0x08, 0, 8, false⟩
/-- 0x0400.09 BLKRST_LIMIT (R490, Table 17.6). -/
def Flt.BLKRST_LIMIT : Fld := ⟨0x0400, 0x09, 0, 8, false⟩
/-- 0x0400.0A SAFE_FORCED (R490, Table 17.6). -/
def Flt.SAFE_FORCED : Fld := ⟨0x0400, 0x0A, 0, 16, false⟩
/-- 0x0400.0B INJECT_ALLOWED (R490, Table 17.6). -/
def Flt.INJECT_ALLOWED : Fld := ⟨0x0400, 0x0B, 0, 8, false⟩
/-! Fields of FIRST_ERROR (Table 17.8). -/
def FirstError.VALID : Fld := ⟨0x0400, 0x05, 127, 1, false⟩
def FirstError.OVERFLOW : Fld := ⟨0x0400, 0x05, 126, 1, false⟩
def FirstError.INJECTED : Fld := ⟨0x0400, 0x05, 125, 1, false⟩
def FirstError.SOURCE : Fld := ⟨0x0400, 0x05, 112, 9, false⟩
def FirstError.INSTANCE : Fld := ⟨0x0400, 0x05, 96, 16, false⟩
def FirstError.OVERFLOW_COUNT : Fld := ⟨0x0400, 0x05, 64, 32, false⟩
def FirstError.TIME : Fld := ⟨0x0400, 0x05, 0, 64, false⟩

/-! ### Record Src, 0x0410 (Table 17.6, chapter 17) -/
/-- 0x0410.01 SOURCE_CFG (R490, Table 17.6). -/
def Src.SOURCE_CFG : Fld := ⟨0x0410, 0x01, 0, 32, false⟩
/-- 0x0410.02 SOURCE_STATUS (R490, Table 17.6). -/
def Src.SOURCE_STATUS : Fld := ⟨0x0410, 0x02, 0, 128, false⟩
/-! Fields of SOURCE_STATUS (Table 17.10). -/
def SourceStatus.PENDING : Fld := ⟨0x0410, 0x02, 127, 1, false⟩
def SourceStatus.ACTIVE : Fld := ⟨0x0410, 0x02, 126, 1, false⟩
def SourceStatus.INJECTED : Fld := ⟨0x0410, 0x02, 125, 1, false⟩
def SourceStatus.SAFE_HOLDING : Fld := ⟨0x0410, 0x02, 124, 1, false⟩
def SourceStatus.INSTANCE : Fld := ⟨0x0410, 0x02, 96, 16, false⟩
def SourceStatus.COUNT : Fld := ⟨0x0410, 0x02, 64, 32, false⟩
def SourceStatus.LAST_TIME : Fld := ⟨0x0410, 0x02, 0, 64, false⟩
/-! Fields of SOURCE_CFG (Table 17.9). -/
def SourceCfg.ENABLE : Fld := ⟨0x0410, 0x01, 31, 1, false⟩
def SourceCfg.SEV : Fld := ⟨0x0410, 0x01, 29, 2, false⟩
def SourceCfg.SAFE : Fld := ⟨0x0410, 0x01, 28, 1, false⟩
def SourceCfg.SAFE_SCOPE : Fld := ⟨0x0410, 0x01, 27, 1, false⟩
def SourceCfg.IRQ : Fld := ⟨0x0410, 0x01, 26, 1, false⟩
def SourceCfg.TRAP : Fld := ⟨0x0410, 0x01, 25, 1, false⟩
def SourceCfg.BLKRST : Fld := ⟨0x0410, 0x01, 24, 1, false⟩
def SourceCfg.CHIPRST : Fld := ⟨0x0410, 0x01, 23, 1, false⟩
def SourceCfg.ERRPIN : Fld := ⟨0x0410, 0x01, 22, 1, false⟩

/-! ### Record Summ, 0x0420 (Table 17.6, chapter 17) -/
/-- 0x0420.01 SUMMARY (R490, Table 17.6). -/
def Summ.SUMMARY : Fld := ⟨0x0420, 0x01, 0, 64, false⟩
/-! Fields of SUMMARY (Table 17.11). -/
def Summary.VALID : Fld := ⟨0x0420, 0x01, 63, 1, false⟩
def Summary.TIE : Fld := ⟨0x0420, 0x01, 62, 1, false⟩
def Summary.FIRST_KNOWN : Fld := ⟨0x0420, 0x01, 61, 1, false⟩
def Summary.FIRST_MEMBER : Fld := ⟨0x0420, 0x01, 58, 3, false⟩
def Summary.FIRST_SOURCE : Fld := ⟨0x0420, 0x01, 49, 9, false⟩
def Summary.STICKY : Fld := ⟨0x0420, 0x01, 32, 8, false⟩

/-! ### Record Pwr, 0x0500 (Table 19.13, chapter 19) -/
/-- 0x0500.01 MODE (R538, Table 19.13). -/
def Pwr.MODE : Fld := ⟨0x0500, 0x01, 0, 8, false⟩
/-- 0x0500.02 HORIZON_GUARD_NS (R538, Table 19.13). -/
def Pwr.HORIZON_GUARD_NS : Fld := ⟨0x0500, 0x02, 0, 32, false⟩
/-- 0x0500.03 ISLANDS (R538, Table 19.13). -/
def Pwr.ISLANDS : Fld := ⟨0x0500, 0x03, 0, 8, false⟩
/-- 0x0500.04 ISLANDS_ACTIVE (R538, Table 19.13). -/
def Pwr.ISLANDS_ACTIVE : Fld := ⟨0x0500, 0x04, 0, 8, false⟩
/-- 0x0500.05 WAKE_LATE (R538, Table 19.13). -/
def Pwr.WAKE_LATE : Fld := ⟨0x0500, 0x05, 0, 32, false⟩
/-- 0x0500.06 PWR_WARNS (R538, Table 19.13). -/
def Pwr.PWR_WARNS : Fld := ⟨0x0500, 0x06, 0, 32, false⟩

/-! ### Record Rst, 0x0510 (Table 18.11, chapter 18) -/
/-- 0x0510.01 RESET_CMD (R517, Table 18.11). -/
def Rst.RESET_CMD : Fld := ⟨0x0510, 0x01, 0, 32, false⟩
/-- 0x0510.02 RESET_CAUSE (R517, Table 18.11). -/
def Rst.RESET_CAUSE : Fld := ⟨0x0510, 0x02, 0, 128, false⟩
/-- 0x0510.03 RESET_COUNTS (R517, Table 18.11). -/
def Rst.RESET_COUNTS : Fld := ⟨0x0510, 0x03, 0, 32, false⟩
/-- 0x0510.04 RST_N_REACH (R517, Table 18.11). -/
def Rst.RST_N_REACH : Fld := ⟨0x0510, 0x04, 0, 8, false⟩
/-- 0x0510.05 RSTN_OUT_MASK (R517, Table 18.11). -/
def Rst.RSTN_OUT_MASK : Fld := ⟨0x0510, 0x05, 0, 8, false⟩
/-- 0x0510.06 RSTN_OUT_US (R517, Table 18.11). -/
def Rst.RSTN_OUT_US : Fld := ⟨0x0510, 0x06, 0, 16, false⟩
/-- 0x0510.07 STARTUP_STAGE (R517, Table 18.11). -/
def Rst.STARTUP_STAGE : Fld := ⟨0x0510, 0x07, 0, 8, false⟩
/-- 0x0510.08 STARTUP_MS (R517, Table 18.11). -/
def Rst.STARTUP_MS : Fld := ⟨0x0510, 0x08, 0, 32, false⟩
/-- 0x0510.09 TRIM_RESULT (R517, Table 18.11). -/
def Rst.TRIM_RESULT : Fld := ⟨0x0510, 0x09, 0, 32, false⟩
/-- 0x0510.0A STRAPS (R517, Table 18.11). -/
def Rst.STRAPS : Fld := ⟨0x0510, 0x0A, 0, 8, false⟩
/-- 0x0510.0B WATCHDOG_MS (R517, Table 18.11). -/
def Rst.WATCHDOG_MS : Fld := ⟨0x0510, 0x0B, 0, 16, false⟩
/-! Fields of RESET_CAUSE (Table 18.13). -/
def ResetCause.REACH : Fld := ⟨0x0510, 0x02, 125, 3, false⟩
def ResetCause.SOURCE : Fld := ⟨0x0510, 0x02, 120, 5, false⟩
def ResetCause.FOLLOWED : Fld := ⟨0x0510, 0x02, 119, 1, false⟩
def ResetCause.DETAIL : Fld := ⟨0x0510, 0x02, 96, 16, false⟩
def ResetCause.TIME : Fld := ⟨0x0510, 0x02, 0, 64, false⟩
/-! Fields of TRIM_RESULT (Table 18.14). -/
def TrimResult.VALID : Fld := ⟨0x0510, 0x09, 31, 1, false⟩
def TrimResult.SAFE_BOOT : Fld := ⟨0x0510, 0x09, 30, 1, false⟩
def TrimResult.FAILED_LOADS : Fld := ⟨0x0510, 0x09, 28, 2, false⟩
def TrimResult.WORDS : Fld := ⟨0x0510, 0x09, 16, 8, false⟩
def TrimResult.LOAD_US : Fld := ⟨0x0510, 0x09, 0, 16, false⟩
/-! Fields of STRAPS (Table 18.15). -/
def Straps.TEST_MODE : Fld := ⟨0x0510, 0x0A, 2, 1, false⟩
def Straps.PLANE_B : Fld := ⟨0x0510, 0x0A, 1, 1, false⟩
def Straps.HEAD : Fld := ⟨0x0510, 0x0A, 0, 1, false⟩

/-! ### Record Isl, 0x0520 (Table 19.13, chapter 19) -/
/-- 0x0520.01 ISLAND_STATUS (R538, Table 19.13). -/
def Isl.ISLAND_STATUS : Fld := ⟨0x0520, 0x01, 0, 64, false⟩
/-- 0x0520.02 ISLAND_REQUEST (R538, Table 19.13). -/
def Isl.ISLAND_REQUEST : Fld := ⟨0x0520, 0x02, 0, 8, false⟩
/-! Fields of ISLAND_STATUS (Table 19.15). -/
def IslandStatus.CLASS : Fld := ⟨0x0520, 0x01, 56, 8, false⟩
def IslandStatus.INSTANCE : Fld := ⟨0x0520, 0x01, 40, 16, false⟩
def IslandStatus.STATE : Fld := ⟨0x0520, 0x01, 37, 3, false⟩
def IslandStatus.WAKING : Fld := ⟨0x0520, 0x01, 36, 1, false⟩
def IslandStatus.WAKES : Fld := ⟨0x0520, 0x01, 0, 32, false⟩
/-! Fields of ISLAND_REQUEST (Table 19.16). -/
def IslandReq.VALID : Fld := ⟨0x0520, 0x02, 7, 1, false⟩
def IslandReq.STATE : Fld := ⟨0x0520, 0x02, 0, 3, false⟩

/-! ### Record Time, 0x0600 (Table 13.4, chapter 13) -/
/-- 0x0600.01 MODE (R385, Table 13.4). -/
def Time.MODE : Fld := ⟨0x0600, 0x01, 0, 8, false⟩
/-- 0x0600.02 RAW (R385, Table 13.4). -/
def Time.RAW : Fld := ⟨0x0600, 0x02, 0, 64, false⟩
/-- 0x0600.03 DEVICE_TIME (R385, Table 13.4). -/
def Time.DEVICE_TIME : Fld := ⟨0x0600, 0x03, 0, 64, false⟩
/-- 0x0600.04 OFFSET (R385, Table 13.4). -/
def Time.OFFSET : Fld := ⟨0x0600, 0x04, 0, 64, false⟩
/-- 0x0600.05 RATE (R385, Table 13.4). -/
def Time.RATE : Fld := ⟨0x0600, 0x05, 0, 64, false⟩
/-- 0x0600.06 RATE_EPOCH (R385, Table 13.4). -/
def Time.RATE_EPOCH : Fld := ⟨0x0600, 0x06, 0, 64, false⟩
/-- 0x0600.07 SERVO_STATE (R385, Table 13.4). -/
def Time.SERVO_STATE : Fld := ⟨0x0600, 0x07, 0, 8, false⟩
/-- 0x0600.08 SERVO_CMD (R385, Table 13.4). -/
def Time.SERVO_CMD : Fld := ⟨0x0600, 0x08, 0, 72, false⟩
/-- 0x0600.09 STEP_POLICY (R385, Table 13.4). -/
def Time.STEP_POLICY : Fld := ⟨0x0600, 0x09, 0, 8, false⟩
/-- 0x0600.0A STEP_THRESHOLD_NS (R385, Table 13.4). -/
def Time.STEP_THRESHOLD_NS : Fld := ⟨0x0600, 0x0A, 0, 32, false⟩
/-- 0x0600.0B LOCK_THRESHOLD_NS (R385, Table 13.4). -/
def Time.LOCK_THRESHOLD_NS : Fld := ⟨0x0600, 0x0B, 0, 32, false⟩
/-- 0x0600.0C LOOP_BW_MHZ (R385, Table 13.4). -/
def Time.LOOP_BW_MHZ : Fld := ⟨0x0600, 0x0C, 0, 16, false⟩
/-- 0x0600.0D MAX_SLOPE_PPB_S (R385, Table 13.4). -/
def Time.MAX_SLOPE_PPB_S : Fld := ⟨0x0600, 0x0D, 0, 16, false⟩
/-- 0x0600.0E MAX_RATE_PPM (R385, Table 13.4). -/
def Time.MAX_RATE_PPM : Fld := ⟨0x0600, 0x0E, 0, 16, false⟩
/-- 0x0600.0F STEPS (R385, Table 13.4). -/
def Time.STEPS : Fld := ⟨0x0600, 0x0F, 0, 32, false⟩
/-- 0x0600.10 UTC_OFFSET_S (R385, Table 13.4). -/
def Time.UTC_OFFSET_S : Fld := ⟨0x0600, 0x10, 0, 16, false⟩
/-- 0x0600.11 UTC_OFFSET_DEFAULT_S (R385, Table 13.4). -/
def Time.UTC_OFFSET_DEFAULT_S : Fld := ⟨0x0600, 0x11, 0, 16, false⟩
/-- 0x0600.12 OFFSET_NS (R385, Table 13.4). -/
def Time.OFFSET_NS : Fld := ⟨0x0600, 0x12, 0, 64, false⟩

/-! ### Record Ptp, 0x0610 (Table 13.5, chapter 13) -/
/-- 0x0610.01 PTP_ENABLE (R385, Table 13.5). -/
def Ptp.PTP_ENABLE : Fld := ⟨0x0610, 0x01, 0, 8, false⟩
/-- 0x0610.02 PROFILE (R385, Table 13.5). -/
def Ptp.PROFILE : Fld := ⟨0x0610, 0x02, 0, 8, false⟩
/-- 0x0610.03 DOMAIN (R385, Table 13.5). -/
def Ptp.DOMAIN : Fld := ⟨0x0610, 0x03, 0, 8, false⟩
/-- 0x0610.04 IF_A (R385, Table 13.5). -/
def Ptp.IF_A : Fld := ⟨0x0610, 0x04, 0, 8, false⟩
/-- 0x0610.05 IF_B (R385, Table 13.5). -/
def Ptp.IF_B : Fld := ⟨0x0610, 0x05, 0, 8, false⟩
/-- 0x0610.06 DELAY_MECH (R385, Table 13.5). -/
def Ptp.DELAY_MECH : Fld := ⟨0x0610, 0x06, 0, 8, false⟩
/-- 0x0610.07 LOG_DELAY_REQ (R385, Table 13.5). -/
def Ptp.LOG_DELAY_REQ : Fld := ⟨0x0610, 0x07, 0, 32, false⟩
/-- 0x0610.08 DELAY_UNICAST (R385, Table 13.5). -/
def Ptp.DELAY_UNICAST : Fld := ⟨0x0610, 0x08, 0, 8, false⟩
/-- 0x0610.09 ANNOUNCE_TIMEOUT (R385, Table 13.5). -/
def Ptp.ANNOUNCE_TIMEOUT : Fld := ⟨0x0610, 0x09, 0, 8, false⟩
/-- 0x0610.0A PTP_STATUS (R385, Table 13.5). -/
def Ptp.PTP_STATUS : Fld := ⟨0x0610, 0x0A, 0, 192, false⟩
/-- 0x0610.0B PTP_COUNTERS (R385, Table 13.5). -/
def Ptp.PTP_COUNTERS : Fld := ⟨0x0610, 0x0B, 0, 256, false⟩
/-- 0x0610.0C PTP_SAMPLE (R385, Table 13.5). -/
def Ptp.PTP_SAMPLE : Fld := ⟨0x0610, 0x0C, 0, 320, false⟩
/-- 0x0610.0D TS_CORR (R385, Table 13.5). -/
def Ptp.TS_CORR : Fld := ⟨0x0610, 0x0D, 0, 96, false⟩
/-! Fields of PTP_STATUS (Table 13.6). -/
def PtpStatus.PORT_STATE : Fld := ⟨0x0610, 0x0A, 189, 3, false⟩
def PtpStatus.ON_IF_B : Fld := ⟨0x0610, 0x0A, 188, 1, false⟩
def PtpStatus.UTC_VALID : Fld := ⟨0x0610, 0x0A, 187, 1, false⟩
def PtpStatus.LEAP61 : Fld := ⟨0x0610, 0x0A, 186, 1, false⟩
def PtpStatus.LEAP59 : Fld := ⟨0x0610, 0x0A, 185, 1, false⟩
def PtpStatus.TIME_TRACEABLE : Fld := ⟨0x0610, 0x0A, 184, 1, false⟩
def PtpStatus.GM_CLASS : Fld := ⟨0x0610, 0x0A, 176, 8, false⟩
def PtpStatus.STEPS_REMOVED : Fld := ⟨0x0610, 0x0A, 160, 16, false⟩
def PtpStatus.GM_IDENTITY : Fld := ⟨0x0610, 0x0A, 96, 64, false⟩
def PtpStatus.PARENT_IDENTITY : Fld := ⟨0x0610, 0x0A, 32, 64, false⟩
def PtpStatus.PARENT_PORT : Fld := ⟨0x0610, 0x0A, 16, 16, false⟩
def PtpStatus.MEAN_PATH_NS : Fld := ⟨0x0610, 0x0A, 0, 16, false⟩
/-! Fields of PTP_COUNTERS (Table 13.7). -/
def PtpCounters.SYNC_RX : Fld := ⟨0x0610, 0x0B, 224, 32, false⟩
def PtpCounters.ANNOUNCE_RX : Fld := ⟨0x0610, 0x0B, 192, 32, false⟩
def PtpCounters.DELAY_REQ_TX : Fld := ⟨0x0610, 0x0B, 160, 32, false⟩
def PtpCounters.DELAY_RESP_RX : Fld := ⟨0x0610, 0x0B, 128, 32, false⟩
def PtpCounters.SAMPLES : Fld := ⟨0x0610, 0x0B, 96, 32, false⟩
def PtpCounters.SAMPLES_REJECTED : Fld := ⟨0x0610, 0x0B, 64, 32, false⟩
def PtpCounters.LEADER_LOSSES : Fld := ⟨0x0610, 0x0B, 32, 32, false⟩
def PtpCounters.GM_CHANGES : Fld := ⟨0x0610, 0x0B, 0, 32, false⟩
/-! Fields of TS_CORR (Table 13.9). -/
def TsCorr.RX_DELAY_PS : Fld := ⟨0x0610, 0x0D, 64, 32, false⟩
def TsCorr.TX_DELAY_PS : Fld := ⟨0x0610, 0x0D, 32, 32, false⟩
def TsCorr.ASYM_PS : Fld := ⟨0x0610, 0x0D, 0, 32, false⟩

/-! ### Record Tc, 0x0620 (Table 13.5, chapter 13) -/
/-- 0x0620.01 TC_ENABLE (R385, Table 13.5). -/
def Tc.TC_ENABLE : Fld := ⟨0x0620, 0x01, 0, 8, false⟩
/-- 0x0620.02 TC_PORTS (R385, Table 13.5). -/
def Tc.TC_PORTS : Fld := ⟨0x0620, 0x02, 0, 256, false⟩
/-- 0x0620.03 TC_DOMAIN (R385, Table 13.5). -/
def Tc.TC_DOMAIN : Fld := ⟨0x0620, 0x03, 0, 8, false⟩
/-- 0x0620.04 TC_MECH (R385, Table 13.5). -/
def Tc.TC_MECH : Fld := ⟨0x0620, 0x04, 0, 8, false⟩
/-- 0x0620.05 TC_RELAYED (R385, Table 13.5). -/
def Tc.TC_RELAYED : Fld := ⟨0x0620, 0x05, 0, 32, false⟩
/-- 0x0620.06 TC_DROPPED (R385, Table 13.5). -/
def Tc.TC_DROPPED : Fld := ⟨0x0620, 0x06, 0, 32, false⟩
/-- 0x0620.07 MEAN_LINK_DELAY (R385, Table 13.5). -/
def Tc.MEAN_LINK_DELAY : Fld := ⟨0x0620, 0x07, 0, 32, false⟩

/-! ### Record TimeOut, 0x0630 (Table 13.5, chapter 13) -/
/-- 0x0630.01 PPS_CFG (R385, Table 13.5). -/
def TimeOut.PPS_CFG : Fld := ⟨0x0630, 0x01, 0, 64, false⟩
/-- 0x0630.02 TIMEPULSE_CFG (R385, Table 13.5). -/
def TimeOut.TIMEPULSE_CFG : Fld := ⟨0x0630, 0x02, 0, 192, false⟩
/-! Fields of PPS_CFG (Table 13.11). -/
def PpsCfg.ENABLE : Fld := ⟨0x0630, 0x01, 63, 1, false⟩
def PpsCfg.SQUELCH : Fld := ⟨0x0630, 0x01, 62, 1, false⟩
def PpsCfg.PPS_WIDTH_US : Fld := ⟨0x0630, 0x01, 32, 20, false⟩
def PpsCfg.PPS_PHASE_NS : Fld := ⟨0x0630, 0x01, 0, 32, false⟩
/-! Fields of TIMEPULSE_CFG (Table 13.12). -/
def PulseCfg.ENABLE : Fld := ⟨0x0630, 0x02, 191, 1, false⟩
def PulseCfg.POLARITY : Fld := ⟨0x0630, 0x02, 190, 1, false⟩
def PulseCfg.SQUELCH : Fld := ⟨0x0630, 0x02, 189, 1, false⟩
def PulseCfg.PERIOD_DEN : Fld := ⟨0x0630, 0x02, 160, 16, false⟩
def PulseCfg.WIDTH_NS : Fld := ⟨0x0630, 0x02, 128, 32, false⟩
def PulseCfg.PERIOD_NUM : Fld := ⟨0x0630, 0x02, 64, 64, false⟩
def PulseCfg.START : Fld := ⟨0x0630, 0x02, 0, 64, false⟩

/-! ### Record RefArea, 0x0700 (Table 14.7, chapter 14) -/
/-- 0x0700.01 MODE (R405, Table 14.7). -/
def RefArea.MODE : Fld := ⟨0x0700, 0x01, 0, 8, false⟩
/-- 0x0700.02 BW_H_MHZ (R405, Table 14.7). -/
def RefArea.BW_H_MHZ : Fld := ⟨0x0700, 0x02, 0, 32, false⟩
/-- 0x0700.03 BW_F_MHZ (R405, Table 14.7). -/
def RefArea.BW_F_MHZ : Fld := ⟨0x0700, 0x03, 0, 32, false⟩
/-- 0x0700.04 BW_10M_MHZ (R405, Table 14.7). -/
def RefArea.BW_10M_MHZ : Fld := ⟨0x0700, 0x04, 0, 32, false⟩
/-- 0x0700.05 BW_PPS_MHZ (R405, Table 14.7). -/
def RefArea.BW_PPS_MHZ : Fld := ⟨0x0700, 0x05, 0, 32, false⟩
/-- 0x0700.06 BW_WORD_MHZ (R405, Table 14.7). -/
def RefArea.BW_WORD_MHZ : Fld := ⟨0x0700, 0x06, 0, 32, false⟩
/-- 0x0700.07 BW_SDI_MHZ (R405, Table 14.7). -/
def RefArea.BW_SDI_MHZ : Fld := ⟨0x0700, 0x07, 0, 32, false⟩
/-- 0x0700.08 BW_TIME_MHZ (R405, Table 14.7). -/
def RefArea.BW_TIME_MHZ : Fld := ⟨0x0700, 0x08, 0, 32, false⟩
/-- 0x0700.09 TIME_HOLDOVER_MAX_S (R405, Table 14.7). -/
def RefArea.TIME_HOLDOVER_MAX_S : Fld := ⟨0x0700, 0x09, 0, 32, false⟩
/-- 0x0700.0A TIME_PPS_REF (R405, Table 14.7). -/
def RefArea.TIME_PPS_REF : Fld := ⟨0x0700, 0x0A, 0, 8, false⟩
/-- 0x0700.0B FOLLOW_GROUP (R405, Table 14.7). -/
def RefArea.FOLLOW_GROUP : Fld := ⟨0x0700, 0x0B, 0, 8, false⟩
/-- 0x0700.0C LO_OFFSET_PPB (R405, Table 14.7). -/
def RefArea.LO_OFFSET_PPB : Fld := ⟨0x0700, 0x0C, 0, 32, false⟩
/-- 0x0700.0D DPLL_CMD (R405, Table 14.7). -/
def RefArea.DPLL_CMD : Fld := ⟨0x0700, 0x0D, 0, 64, false⟩

/-! ### Record Ref, 0x0710 (Table 14.8, chapter 14) -/
/-- 0x0710.01 REF_CFG (R405, Table 14.8). -/
def Ref.REF_CFG : Fld := ⟨0x0710, 0x01, 0, 64, false⟩
/-- 0x0710.02 REF_STATUS (R405, Table 14.8). -/
def Ref.REF_STATUS : Fld := ⟨0x0710, 0x02, 0, 64, false⟩
/-- 0x0710.03 REF_STICKY (R405, Table 14.8). -/
def Ref.REF_STICKY : Fld := ⟨0x0710, 0x03, 0, 16, false⟩
/-! Fields of REF_CFG (Table 14.10). -/
def RefCfg.ENABLE : Fld := ⟨0x0710, 0x01, 63, 1, false⟩
def RefCfg.TYPE : Fld := ⟨0x0710, 0x01, 60, 3, false⟩
def RefCfg.EDGE : Fld := ⟨0x0710, 0x01, 59, 1, false⟩
def RefCfg.F_PIN : Fld := ⟨0x0710, 0x01, 56, 3, false⟩
def RefCfg.HOLDOFF_S : Fld := ⟨0x0710, 0x01, 48, 8, false⟩
def RefCfg.FORMAT : Fld := ⟨0x0710, 0x01, 32, 16, false⟩
def RefCfg.SOFT_LIMIT_PPB : Fld := ⟨0x0710, 0x01, 16, 16, false⟩
def RefCfg.HARD_LIMIT_PPB : Fld := ⟨0x0710, 0x01, 0, 16, false⟩
/-! Fields of REF_STATUS (Table 14.11). -/
def RefStatus.STATE : Fld := ⟨0x0710, 0x02, 61, 3, false⟩
def RefStatus.ACTIVE : Fld := ⟨0x0710, 0x02, 60, 1, false⟩
def RefStatus.SOFT : Fld := ⟨0x0710, 0x02, 59, 1, false⟩
def RefStatus.HARD : Fld := ⟨0x0710, 0x02, 58, 1, false⟩
def RefStatus.HOLDOFF_LEFT_S : Fld := ⟨0x0710, 0x02, 48, 8, false⟩
def RefStatus.GLITCHES_10S : Fld := ⟨0x0710, 0x02, 40, 8, false⟩
def RefStatus.CAUSE : Fld := ⟨0x0710, 0x02, 36, 4, false⟩
def RefStatus.OFFSET_PPB : Fld := ⟨0x0710, 0x02, 0, 32, false⟩
/-! Fields of REF_STICKY (Table 14.16). -/
def RefSticky.STOP : Fld := ⟨0x0710, 0x03, 15, 1, false⟩
def RefSticky.GLITCH : Fld := ⟨0x0710, 0x03, 14, 1, false⟩
def RefSticky.SOFT : Fld := ⟨0x0710, 0x03, 13, 1, false⟩
def RefSticky.HARD : Fld := ⟨0x0710, 0x03, 12, 1, false⟩
def RefSticky.DISQUALIFIED : Fld := ⟨0x0710, 0x03, 11, 1, false⟩
def RefSticky.QUALIFIED : Fld := ⟨0x0710, 0x03, 10, 1, false⟩
def RefSticky.FORMAT : Fld := ⟨0x0710, 0x03, 9, 1, false⟩

/-! ### Record Dpll, 0x0720 (Table 14.8, chapter 14) -/
/-- 0x0720.01 DPLL_CFG (R405, Table 14.8). -/
def Dpll.DPLL_CFG : Fld := ⟨0x0720, 0x01, 0, 128, false⟩
/-- 0x0720.02 DPLL_STATUS (R405, Table 14.8). -/
def Dpll.DPLL_STATUS : Fld := ⟨0x0720, 0x02, 0, 128, false⟩
/-- 0x0720.03 DPLL_COUNTERS (R405, Table 14.8). -/
def Dpll.DPLL_COUNTERS : Fld := ⟨0x0720, 0x03, 0, 128, false⟩
/-! Fields of DPLL_CFG (Table 14.12). -/
def DpllCfg.ENABLE : Fld := ⟨0x0720, 0x01, 127, 1, false⟩
def DpllCfg.REVERTIVE : Fld := ⟨0x0720, 0x01, 126, 1, false⟩
def DpllCfg.PBO : Fld := ⟨0x0720, 0x01, 125, 1, false⟩
def DpllCfg.RATE : Fld := ⟨0x0720, 0x01, 120, 4, false⟩
def DpllCfg.CAND0 : Fld := ⟨0x0720, 0x01, 112, 8, false⟩
def DpllCfg.CAND1 : Fld := ⟨0x0720, 0x01, 104, 8, false⟩
def DpllCfg.CAND2 : Fld := ⟨0x0720, 0x01, 96, 8, false⟩
def DpllCfg.CAND3 : Fld := ⟨0x0720, 0x01, 88, 8, false⟩
def DpllCfg.SELECT : Fld := ⟨0x0720, 0x01, 80, 8, false⟩
def DpllCfg.SLOPE_PPB_S : Fld := ⟨0x0720, 0x01, 64, 16, false⟩
def DpllCfg.PULL_PPM : Fld := ⟨0x0720, 0x01, 56, 8, false⟩
def DpllCfg.PHASE_SLEW_NS_S : Fld := ⟨0x0720, 0x01, 32, 16, false⟩
def DpllCfg.HOLDOVER_MAX_S : Fld := ⟨0x0720, 0x01, 0, 32, false⟩
/-! Fields of DPLL_STATUS (Table 14.13). -/
def DpllStatus.STATE : Fld := ⟨0x0720, 0x02, 125, 3, false⟩
def DpllStatus.CURRENT : Fld := ⟨0x0720, 0x02, 117, 8, false⟩
def DpllStatus.PENDING : Fld := ⟨0x0720, 0x02, 109, 8, false⟩
def DpllStatus.FROZEN : Fld := ⟨0x0720, 0x02, 108, 1, false⟩
def DpllStatus.PHASE_MOVING : Fld := ⟨0x0720, 0x02, 107, 1, false⟩
def DpllStatus.TIME_ALIGNED : Fld := ⟨0x0720, 0x02, 106, 1, false⟩
def DpllStatus.FREQ_PPB : Fld := ⟨0x0720, 0x02, 64, 32, false⟩
def DpllStatus.BUILDOUT_NS : Fld := ⟨0x0720, 0x02, 32, 32, false⟩
def DpllStatus.HOLDOVER_S : Fld := ⟨0x0720, 0x02, 0, 32, false⟩
/-! Fields of DPLL_COUNTERS (Table 14.14). -/
def DpllCounters.SWITCHES : Fld := ⟨0x0720, 0x03, 96, 32, false⟩
def DpllCounters.HOLDOVERS : Fld := ⟨0x0720, 0x03, 64, 32, false⟩
def DpllCounters.FREEZES : Fld := ⟨0x0720, 0x03, 32, 32, false⟩
def DpllCounters.PHASE_STEPS : Fld := ⟨0x0720, 0x03, 0, 32, false⟩

/-! ### Record Phy, 0x0800 (Table 08.6, chapter 08) -/
/-- 0x0800.01 MODE (R250, Table 08.6). -/
def Phy.MODE : Fld := ⟨0x0800, 0x01, 0, 8, false⟩
/-- 0x0800.02 LANE_CMD (R250, Table 08.6). -/
def Phy.LANE_CMD : Fld := ⟨0x0800, 0x02, 0, 32, false⟩
/-- 0x0800.03 AUTO_SPARE (R250, Table 08.6). -/
def Phy.AUTO_SPARE : Fld := ⟨0x0800, 0x03, 0, 8, false⟩
/-- 0x0800.04 DEGRADE_CV_PER_S (R250, Table 08.6). -/
def Phy.DEGRADE_CV_PER_S : Fld := ⟨0x0800, 0x04, 0, 32, false⟩
/-- 0x0800.05 SPARE_ERR_PER_S (R250, Table 08.6). -/
def Phy.SPARE_ERR_PER_S : Fld := ⟨0x0800, 0x05, 0, 32, false⟩
/-- 0x0800.06 NET_FAIL_SER (R250, Table 08.6). -/
def Phy.NET_FAIL_SER : Fld := ⟨0x0800, 0x06, 0, 8, false⟩
/-- 0x0800.07 DWL_SPARES_READY (R250, Table 08.6). -/
def Phy.DWL_SPARES_READY : Fld := ⟨0x0800, 0x07, 0, 8, false⟩
/-- 0x0800.08 SDI_SLICES_FREE (R250, Table 08.6). -/
def Phy.SDI_SLICES_FREE : Fld := ⟨0x0800, 0x08, 0, 8, false⟩
/-- 0x0800.09 SWAPS (R250, Table 08.6). -/
def Phy.SWAPS : Fld := ⟨0x0800, 0x09, 0, 32, false⟩
/-- 0x0800.0A LAST_SWAP_LANE (R250, Table 08.6). -/
def Phy.LAST_SWAP_LANE : Fld := ⟨0x0800, 0x0A, 0, 16, false⟩
/-- 0x0800.0B SCANS_RUNNING (R250, Table 08.6). -/
def Phy.SCANS_RUNNING : Fld := ⟨0x0800, 0x0B, 0, 8, false⟩

/-! ### Record PhyLane, 0x0810 (Table 08.6, chapter 08) -/
/-- 0x0810.01 LANE_CFG (R250, Table 08.6). -/
def PhyLane.LANE_CFG : Fld := ⟨0x0810, 0x01, 0, 64, false⟩
/-- 0x0810.02 LANE_STATUS (R250, Table 08.6). -/
def PhyLane.LANE_STATUS : Fld := ⟨0x0810, 0x02, 0, 64, false⟩
/-- 0x0810.03 PRBS_COUNTERS (R250, Table 08.6). -/
def PhyLane.PRBS_COUNTERS : Fld := ⟨0x0810, 0x03, 0, 128, false⟩
/-- 0x0810.04 MARGIN (R250, Table 08.6). -/
def PhyLane.MARGIN : Fld := ⟨0x0810, 0x04, 0, 64, false⟩
/-! Fields of MARGIN (Table 08.10). -/
def Margin.SCAN_STATE : Fld := ⟨0x0810, 0x04, 62, 2, false⟩
def Margin.TARGET_EXP : Fld := ⟨0x0810, 0x04, 48, 8, false⟩
def Margin.WIDTH_MUI : Fld := ⟨0x0810, 0x04, 32, 16, false⟩
def Margin.HEIGHT_MV : Fld := ⟨0x0810, 0x04, 16, 16, false⟩
def Margin.SCAN_MS : Fld := ⟨0x0810, 0x04, 0, 16, false⟩
/-! Fields of LANE_CFG (Table 08.7). -/
def LaneCfg.RX_INVERT : Fld := ⟨0x0810, 0x01, 63, 1, false⟩
def LaneCfg.TX_INVERT : Fld := ⟨0x0810, 0x01, 62, 1, false⟩
def LaneCfg.ADAPT_FREEZE : Fld := ⟨0x0810, 0x01, 61, 1, false⟩
def LaneCfg.PRBS_PATTERN : Fld := ⟨0x0810, 0x01, 56, 4, false⟩
def LaneCfg.PRBS_MODE : Fld := ⟨0x0810, 0x01, 54, 2, false⟩
def LaneCfg.TX_PRE : Fld := ⟨0x0810, 0x01, 48, 6, false⟩
def LaneCfg.TX_MAIN : Fld := ⟨0x0810, 0x01, 42, 6, false⟩
def LaneCfg.TX_POST : Fld := ⟨0x0810, 0x01, 36, 6, false⟩
def LaneCfg.TEST_RATE : Fld := ⟨0x0810, 0x01, 32, 4, false⟩
/-! Fields of LANE_STATUS (Table 08.8). -/
def LaneStatus.SIGNAL_DETECT : Fld := ⟨0x0810, 0x02, 63, 1, false⟩
def LaneStatus.CDR_LOCKED : Fld := ⟨0x0810, 0x02, 62, 1, false⟩
def LaneStatus.ADAPTED : Fld := ⟨0x0810, 0x02, 61, 1, false⟩
def LaneStatus.RX_INVERTED : Fld := ⟨0x0810, 0x02, 60, 1, false⟩
def LaneStatus.USE : Fld := ⟨0x0810, 0x02, 57, 3, false⟩
def LaneStatus.PRBS_LOCK : Fld := ⟨0x0810, 0x02, 56, 1, false⟩
def LaneStatus.SPARED : Fld := ⟨0x0810, 0x02, 55, 1, false⟩
def LaneStatus.CTLE_CODE : Fld := ⟨0x0810, 0x02, 49, 6, false⟩
def LaneStatus.DFE_H1_MV : Fld := ⟨0x0810, 0x02, 41, 8, false⟩
def LaneStatus.ERRORS_PER_S : Fld := ⟨0x0810, 0x02, 0, 32, false⟩
/-! Fields of PRBS_COUNTERS (Table 08.9). -/
def PrbsCounters.ERRORS : Fld := ⟨0x0810, 0x03, 80, 48, false⟩
def PrbsCounters.BITS : Fld := ⟨0x0810, 0x03, 32, 48, false⟩
def PrbsCounters.LOCK_LOSSES : Fld := ⟨0x0810, 0x03, 16, 16, false⟩

/-! ### Record Slice, 0x0820 (Table 08.6, chapter 08) -/
/-- 0x0820.01 SLICE_MAP (R250, Table 08.6). -/
def Slice.SLICE_MAP : Fld := ⟨0x0820, 0x01, 0, 32, false⟩
/-! Fields of SLICE_MAP (Table 08.11). -/
def SliceMap.IN_USE : Fld := ⟨0x0820, 0x01, 31, 1, false⟩
def SliceMap.LANE : Fld := ⟨0x0820, 0x01, 23, 8, false⟩

/-! ### Record SdiArea, 0x0900 (Table 05.5, chapter 05) -/
/-- 0x0900.01 MODE (R155, Table 05.5). -/
def SdiArea.MODE : Fld := ⟨0x0900, 0x01, 0, 8, false⟩
/-- 0x0900.02 GROUP_DESKEW_NS (R155, Table 05.5). -/
def SdiArea.GROUP_DESKEW_NS : Fld := ⟨0x0900, 0x02, 0, 16, false⟩
/-- 0x0900.03 RETIME_SRAM_BITS (R155, Table 05.5). -/
def SdiArea.RETIME_SRAM_BITS : Fld := ⟨0x0900, 0x03, 0, 32, false⟩
/-- 0x0900.04 TC_OFFSET_S (R155, Table 05.5). -/
def SdiArea.TC_OFFSET_S : Fld := ⟨0x0900, 0x04, 0, 32, false⟩
/-- 0x0900.05 LANES_LOCKED (R155, Table 05.5). -/
def SdiArea.LANES_LOCKED : Fld := ⟨0x0900, 0x05, 0, 8, false⟩
/-- 0x0900.06 OUTPUTS_SAFE (R155, Table 05.5). -/
def SdiArea.OUTPUTS_SAFE : Fld := ⟨0x0900, 0x06, 0, 8, false⟩
/-- 0x0900.07 HOLD_BLOCKS (R155, Table 05.5). -/
def SdiArea.HOLD_BLOCKS : Fld := ⟨0x0900, 0x07, 0, 16, false⟩

/-! ### Record Sdi, 0x0910 (Table 05.5, chapter 05) -/
/-- 0x0910.01 RX_CFG (R155, Table 05.5). -/
def Sdi.RX_CFG : Fld := ⟨0x0910, 0x01, 0, 32, false⟩
/-- 0x0910.02 RX_STATUS (R155, Table 05.5). -/
def Sdi.RX_STATUS : Fld := ⟨0x0910, 0x02, 0, 128, false⟩
/-- 0x0910.03 RX_COUNTERS (R155, Table 05.5). -/
def Sdi.RX_COUNTERS : Fld := ⟨0x0910, 0x03, 0, 256, false⟩
/-- 0x0910.04 TX_CFG (R155, Table 05.5). -/
def Sdi.TX_CFG : Fld := ⟨0x0910, 0x04, 0, 64, false⟩
/-- 0x0910.05 TX_STATUS (R155, Table 05.5). -/
def Sdi.TX_STATUS : Fld := ⟨0x0910, 0x05, 0, 64, false⟩
/-- 0x0910.06 TX_COUNTERS (R155, Table 05.5). -/
def Sdi.TX_COUNTERS : Fld := ⟨0x0910, 0x06, 0, 128, false⟩
/-! Fields of TX_STATUS (Table 05.10). -/
def SdiTxStatus.TIMING_LOCKED : Fld := ⟨0x0910, 0x05, 63, 1, false⟩
def SdiTxStatus.SAFE : Fld := ⟨0x0910, 0x05, 62, 1, false⟩
def SdiTxStatus.SAFE_HOLD : Fld := ⟨0x0910, 0x05, 61, 1, false⟩
def SdiTxStatus.HOLD_READY : Fld := ⟨0x0910, 0x05, 60, 1, false⟩
def SdiTxStatus.RETIME_SPILL : Fld := ⟨0x0910, 0x05, 59, 1, false⟩
def SdiTxStatus.UNTIMED : Fld := ⟨0x0910, 0x05, 58, 1, false⟩
def SdiTxStatus.FROZEN : Fld := ⟨0x0910, 0x05, 57, 1, false⟩
def SdiTxStatus.HOLD_BLOCKS : Fld := ⟨0x0910, 0x05, 32, 16, false⟩
def SdiTxStatus.SOURCE_OFFSET_NS : Fld := ⟨0x0910, 0x05, 0, 32, false⟩
/-! Fields of TX_COUNTERS (Table 05.11). -/
def SdiTxCounters.SAFE_ENTRIES : Fld := ⟨0x0910, 0x06, 96, 32, false⟩
def SdiTxCounters.HOLD_FRAMES : Fld := ⟨0x0910, 0x06, 64, 32, false⟩
def SdiTxCounters.RETIME_OVERFLOWS : Fld := ⟨0x0910, 0x06, 32, 32, false⟩
def SdiTxCounters.INSERT_OVERFLOWS : Fld := ⟨0x0910, 0x06, 0, 32, false⟩
/-! Fields of RX_CFG (Table 05.6). -/
def SdiRxCfg.RATE_CODE : Fld := ⟨0x0910, 0x01, 28, 4, false⟩
def SdiRxCfg.PID_REQUIRED : Fld := ⟨0x0910, 0x01, 27, 1, false⟩
/-! Fields of RX_STATUS (Table 05.7). -/
def SdiRxStatus.LOCKED : Fld := ⟨0x0910, 0x02, 127, 1, false⟩
def SdiRxStatus.TRS_OK : Fld := ⟨0x0910, 0x02, 126, 1, false⟩
def SdiRxStatus.PID_PRESENT : Fld := ⟨0x0910, 0x02, 125, 1, false⟩
def SdiRxStatus.PID_MISMATCH : Fld := ⟨0x0910, 0x02, 124, 1, false⟩
def SdiRxStatus.FMT_MATCH : Fld := ⟨0x0910, 0x02, 123, 1, false⟩
def SdiRxStatus.GROUP_ALIGNED : Fld := ⟨0x0910, 0x02, 122, 1, false⟩
def SdiRxStatus.RATE : Fld := ⟨0x0910, 0x02, 118, 4, false⟩
def SdiRxStatus.DETECTED_FORMAT : Fld := ⟨0x0910, 0x02, 96, 16, false⟩
def SdiRxStatus.PID : Fld := ⟨0x0910, 0x02, 64, 32, false⟩
def SdiRxStatus.ATC_LTC : Fld := ⟨0x0910, 0x02, 32, 32, false⟩
def SdiRxStatus.GROUP_SKEW_NS : Fld := ⟨0x0910, 0x02, 16, 16, false⟩
/-! Fields of RX_COUNTERS (Table 05.8). -/
def SdiRxCounters.CRC_Y : Fld := ⟨0x0910, 0x03, 224, 32, false⟩
def SdiRxCounters.CRC_C : Fld := ⟨0x0910, 0x03, 192, 32, false⟩
def SdiRxCounters.TRS_ERRORS : Fld := ⟨0x0910, 0x03, 160, 32, false⟩
def SdiRxCounters.LINE_NUM_ERRORS : Fld := ⟨0x0910, 0x03, 128, 32, false⟩
def SdiRxCounters.ANC_CHECKSUM_ERRORS : Fld := ⟨0x0910, 0x03, 96, 32, false⟩
def SdiRxCounters.LOCK_LOSSES : Fld := ⟨0x0910, 0x03, 64, 32, false⟩
def SdiRxCounters.FORMAT_CHANGES : Fld := ⟨0x0910, 0x03, 32, 32, false⟩
def SdiRxCounters.ERRORED_FRAMES : Fld := ⟨0x0910, 0x03, 0, 32, false⟩
/-! Fields of TX_CFG (Table 05.9). -/
def SdiTxCfg.TIMED : Fld := ⟨0x0910, 0x04, 63, 1, false⟩
def SdiTxCfg.DPLL : Fld := ⟨0x0910, 0x04, 60, 3, false⟩
def SdiTxCfg.SAFE_KIND : Fld := ⟨0x0910, 0x04, 58, 2, false⟩
def SdiTxCfg.HOLD_ARM : Fld := ⟨0x0910, 0x04, 57, 1, false⟩
def SdiTxCfg.PID_MODE : Fld := ⟨0x0910, 0x04, 56, 1, false⟩
def SdiTxCfg.TC_MODE : Fld := ⟨0x0910, 0x04, 54, 2, false⟩
def SdiTxCfg.CRC_MODE : Fld := ⟨0x0910, 0x04, 53, 1, false⟩
def SdiTxCfg.HOLD_MAX_S : Fld := ⟨0x0910, 0x04, 32, 16, false⟩
def SdiTxCfg.OUT_PHASE_NS : Fld := ⟨0x0910, 0x04, 0, 32, false⟩

/-! ### Record Net, 0x0A00 (Table 06.8, chapter 06) -/
/-- 0x0A00.01 MODE (R195, Table 06.8). -/
def Net.MODE : Fld := ⟨0x0A00, 0x01, 0, 8, false⟩
/-- 0x0A00.02 RX_POOL_KIB (R195, Table 06.8). -/
def Net.RX_POOL_KIB : Fld := ⟨0x0A00, 0x02, 0, 32, false⟩
/-- 0x0A00.03 RX_POOL_FREE_KIB (R195, Table 06.8). -/
def Net.RX_POOL_FREE_KIB : Fld := ⟨0x0A00, 0x03, 0, 32, false⟩
/-- 0x0A00.04 IGMP_ROBUSTNESS (R195, Table 06.8). -/
def Net.IGMP_ROBUSTNESS : Fld := ⟨0x0A00, 0x04, 0, 8, false⟩
/-- 0x0A00.05 UNSOLICITED_MS (R195, Table 06.8). -/
def Net.UNSOLICITED_MS : Fld := ⟨0x0A00, 0x05, 0, 16, false⟩
/-- 0x0A00.06 OLD_QUERIERS (R195, Table 06.8). -/
def Net.OLD_QUERIERS : Fld := ⟨0x0A00, 0x06, 0, 32, false⟩
/-- 0x0A00.07 QUERIES_RX (R195, Table 06.8). -/
def Net.QUERIES_RX : Fld := ⟨0x0A00, 0x07, 0, 32, false⟩
/-- 0x0A00.08 AUTO_SPARE (R195, Table 06.8). -/
def Net.AUTO_SPARE : Fld := ⟨0x0A00, 0x08, 0, 8, false⟩
/-- 0x0A00.09 ARP_REFRESH_S (R195, Table 06.8). -/
def Net.ARP_REFRESH_S : Fld := ⟨0x0A00, 0x09, 0, 16, false⟩

/-! ### Record NetCtl, 0x0A01 (Table 06.8, chapter 06) -/
/-- 0x0A01.01 CTRL_TX (R195, Table 06.8). -/
def NetCtl.CTRL_TX : Fld := ⟨0x0A01, 0x01, 0, 12128, false⟩

/-! ### Record NetPort, 0x0A10 (Table 06.8, chapter 06) -/
/-- 0x0A10.01 PORT_CFG (R195, Table 06.8). -/
def NetPort.PORT_CFG : Fld := ⟨0x0A10, 0x01, 0, 64, false⟩
/-- 0x0A10.02 PORT_STATUS (R195, Table 06.8). -/
def NetPort.PORT_STATUS : Fld := ⟨0x0A10, 0x02, 0, 64, false⟩
/-- 0x0A10.03 PORT_COUNTERS (R195, Table 06.8). -/
def NetPort.PORT_COUNTERS : Fld := ⟨0x0A10, 0x03, 0, 768, false⟩
/-- 0x0A10.04 SPARE_CFG (R195, Table 06.8). -/
def NetPort.SPARE_CFG : Fld := ⟨0x0A10, 0x04, 0, 32, false⟩
/-- 0x0A10.05 SPARE_STATUS (R195, Table 06.8). -/
def NetPort.SPARE_STATUS : Fld := ⟨0x0A10, 0x05, 0, 32, false⟩
/-! Fields of PORT_STATUS (Table 06.10). -/
def PortStatus.LINK : Fld := ⟨0x0A10, 0x02, 62, 2, false⟩
def PortStatus.PCS_ALIGNED : Fld := ⟨0x0A10, 0x02, 61, 1, false⟩
def PortStatus.FEC_LOCKED : Fld := ⟨0x0A10, 0x02, 60, 1, false⟩
def PortStatus.ON_SPARE : Fld := ⟨0x0A10, 0x02, 59, 1, false⟩
def PortStatus.TX_WIRE_MBPS : Fld := ⟨0x0A10, 0x02, 0, 32, false⟩
/-! Fields of PORT_COUNTERS (Table 06.11). -/
def PortCounters.RX_FRAMES : Fld := ⟨0x0A10, 0x03, 704, 64, false⟩
def PortCounters.RX_FCS_ERRORS : Fld := ⟨0x0A10, 0x03, 640, 64, false⟩
def PortCounters.RX_UNMATCHED : Fld := ⟨0x0A10, 0x03, 576, 64, false⟩
def PortCounters.RX_IP_ERRORS : Fld := ⟨0x0A10, 0x03, 512, 64, false⟩
def PortCounters.RX_UDP_ERRORS : Fld := ⟨0x0A10, 0x03, 448, 64, false⟩
def PortCounters.CTRL_FRAMES : Fld := ⟨0x0A10, 0x03, 384, 64, false⟩
def PortCounters.CTRL_DROPS : Fld := ⟨0x0A10, 0x03, 320, 64, false⟩
def PortCounters.TX_FRAMES : Fld := ⟨0x0A10, 0x03, 256, 64, false⟩
def PortCounters.TX_DISCARDS : Fld := ⟨0x0A10, 0x03, 192, 64, false⟩
def PortCounters.FEC_CORRECTED : Fld := ⟨0x0A10, 0x03, 128, 64, false⟩
def PortCounters.FEC_UNCORRECTED : Fld := ⟨0x0A10, 0x03, 64, 64, false⟩
def PortCounters.LINK_DOWNS : Fld := ⟨0x0A10, 0x03, 0, 64, false⟩
/-! Fields of SPARE_CFG (Table 06.12). -/
def SpareCfg.REMAP : Fld := ⟨0x0A10, 0x04, 31, 1, false⟩
def SpareCfg.LANE : Fld := ⟨0x0A10, 0x04, 24, 5, false⟩
def SpareCfg.GPIO : Fld := ⟨0x0A10, 0x04, 19, 5, false⟩
/-! Fields of SPARE_STATUS (Table 06.13). -/
def SpareStatus.IN_USE : Fld := ⟨0x0A10, 0x05, 31, 1, false⟩
def SpareStatus.AUTO : Fld := ⟨0x0A10, 0x05, 30, 1, false⟩
def SpareStatus.FAILED : Fld := ⟨0x0A10, 0x05, 29, 1, false⟩
def SpareStatus.LANE : Fld := ⟨0x0A10, 0x05, 24, 5, false⟩
/-! Fields of PORT_CFG (Table 06.9). -/
def PortCfg.MODE : Fld := ⟨0x0A10, 0x01, 60, 4, false⟩
def PortCfg.FEC : Fld := ⟨0x0A10, 0x01, 58, 2, false⟩
def PortCfg.AN : Fld := ⟨0x0A10, 0x01, 57, 1, false⟩

/-! ### Record NetIf, 0x0A20 (Table 06.8, chapter 06) -/
/-- 0x0A20.01 IF_CFG (R195, Table 06.8). -/
def NetIf.IF_CFG : Fld := ⟨0x0A20, 0x01, 0, 384, false⟩
/-! Fields of IF_CFG (Table 06.14). -/
def IfCfg.ENABLE : Fld := ⟨0x0A20, 0x01, 383, 1, false⟩
def IfCfg.PCP : Fld := ⟨0x0A20, 0x01, 380, 3, false⟩
def IfCfg.VLAN_ID : Fld := ⟨0x0A20, 0x01, 368, 12, false⟩
def IfCfg.IPV4_PREFIX : Fld := ⟨0x0A20, 0x01, 360, 8, false⟩
def IfCfg.IPV6_PREFIX : Fld := ⟨0x0A20, 0x01, 352, 8, false⟩
def IfCfg.IPV4_ADDR : Fld := ⟨0x0A20, 0x01, 320, 32, false⟩
def IfCfg.IPV6_ADDR : Fld := ⟨0x0A20, 0x01, 192, 128, false⟩
def IfCfg.IPV4_GATEWAY : Fld := ⟨0x0A20, 0x01, 160, 32, false⟩
def IfCfg.IPV6_GATEWAY : Fld := ⟨0x0A20, 0x01, 32, 128, false⟩

/-! ### Record NetRx, 0x0A30 (Table 06.8, chapter 06) -/
/-- 0x0A30.01 RX_CFG (R195, Table 06.8). -/
def NetRx.RX_CFG : Fld := ⟨0x0A30, 0x01, 0, 640, false⟩
/-- 0x0A30.02 RX_STATUS (R195, Table 06.8). -/
def NetRx.RX_STATUS : Fld := ⟨0x0A30, 0x02, 0, 128, false⟩
/-- 0x0A30.03 RX_COUNTERS (R195, Table 06.8). -/
def NetRx.RX_COUNTERS : Fld := ⟨0x0A30, 0x03, 0, 384, false⟩
/-! Fields of RX_CFG (Table 06.15). -/
def NetRxCfg.DEST_A : Fld := ⟨0x0A30, 0x01, 512, 128, false⟩
def NetRxCfg.SRC_A : Fld := ⟨0x0A30, 0x01, 384, 128, false⟩
def NetRxCfg.DEST_B : Fld := ⟨0x0A30, 0x01, 256, 128, false⟩
def NetRxCfg.SRC_B : Fld := ⟨0x0A30, 0x01, 128, 128, false⟩
def NetRxCfg.UDP_A : Fld := ⟨0x0A30, 0x01, 112, 16, false⟩
def NetRxCfg.UDP_B : Fld := ⟨0x0A30, 0x01, 96, 16, false⟩
def NetRxCfg.MAX_SKEW_US : Fld := ⟨0x0A30, 0x01, 80, 16, false⟩
def NetRxCfg.LEG_B_ENABLE : Fld := ⟨0x0A30, 0x01, 79, 1, false⟩
def NetRxCfg.LEG_B_PORT : Fld := ⟨0x0A30, 0x01, 74, 5, false⟩
def NetRxCfg.LEG_B_IF : Fld := ⟨0x0A30, 0x01, 71, 3, false⟩
def NetRxCfg.LEG_A_IF : Fld := ⟨0x0A30, 0x01, 68, 3, false⟩
def NetRxCfg.SENDER_TYPE : Fld := ⟨0x0A30, 0x01, 66, 2, false⟩
def NetRxCfg.PT_CHECK : Fld := ⟨0x0A30, 0x01, 65, 1, false⟩
def NetRxCfg.PT : Fld := ⟨0x0A30, 0x01, 58, 7, false⟩
def NetRxCfg.CHANNELS : Fld := ⟨0x0A30, 0x01, 51, 7, false⟩
def NetRxCfg.RATE_96K : Fld := ⟨0x0A30, 0x01, 50, 1, false⟩
def NetRxCfg.PTIME_1MS : Fld := ⟨0x0A30, 0x01, 49, 1, false⟩
/-! Fields of RX_STATUS (Table 06.16). -/
def NetRxStatus.RECEIVING : Fld := ⟨0x0A30, 0x02, 127, 1, false⟩
def NetRxStatus.LEG_A_OK : Fld := ⟨0x0A30, 0x02, 126, 1, false⟩
def NetRxStatus.LEG_B_OK : Fld := ⟨0x0A30, 0x02, 125, 1, false⟩
def NetRxStatus.SKEW_EXCEEDED : Fld := ⟨0x0A30, 0x02, 124, 1, false⟩
def NetRxStatus.JOINED : Fld := ⟨0x0A30, 0x02, 123, 1, false⟩
def NetRxStatus.SPILL : Fld := ⟨0x0A30, 0x02, 122, 1, false⟩
def NetRxStatus.SKEW_NS : Fld := ⟨0x0A30, 0x02, 64, 32, false⟩
def NetRxStatus.RX_PAGES : Fld := ⟨0x0A30, 0x02, 48, 16, false⟩
def NetRxStatus.FS_BLOCKS : Fld := ⟨0x0A30, 0x02, 32, 16, false⟩
def NetRxStatus.LAST_RTP_TS : Fld := ⟨0x0A30, 0x02, 0, 32, false⟩
/-! Fields of RX_COUNTERS (Table 06.17). -/
def NetRxCounters.PACKETS_A : Fld := ⟨0x0A30, 0x03, 352, 32, false⟩
def NetRxCounters.PACKETS_B : Fld := ⟨0x0A30, 0x03, 320, 32, false⟩
def NetRxCounters.LOST : Fld := ⟨0x0A30, 0x03, 288, 32, false⟩
def NetRxCounters.MISSING_A : Fld := ⟨0x0A30, 0x03, 256, 32, false⟩
def NetRxCounters.MISSING_B : Fld := ⟨0x0A30, 0x03, 224, 32, false⟩
def NetRxCounters.REORDERED : Fld := ⟨0x0A30, 0x03, 192, 32, false⟩
def NetRxCounters.DUPLICATES : Fld := ⟨0x0A30, 0x03, 160, 32, false⟩
def NetRxCounters.LATE_LEG : Fld := ⟨0x0A30, 0x03, 128, 32, false⟩
def NetRxCounters.RTP_ERRORS : Fld := ⟨0x0A30, 0x03, 96, 32, false⟩
def NetRxCounters.FORMAT_ERRORS : Fld := ⟨0x0A30, 0x03, 64, 32, false⟩
def NetRxCounters.OVERFLOWS : Fld := ⟨0x0A30, 0x03, 32, 32, false⟩
def NetRxCounters.POLICED : Fld := ⟨0x0A30, 0x03, 0, 32, false⟩

/-! ### Record NetTx, 0x0A31 (Table 06.8, chapter 06) -/
/-- 0x0A31.01 TX_CFG (R195, Table 06.8). -/
def NetTx.TX_CFG : Fld := ⟨0x0A31, 0x01, 0, 640, false⟩
/-- 0x0A31.02 TX_STATUS (R195, Table 06.8). -/
def NetTx.TX_STATUS : Fld := ⟨0x0A31, 0x02, 0, 64, false⟩
/-- 0x0A31.03 TX_COUNTERS (R195, Table 06.8). -/
def NetTx.TX_COUNTERS : Fld := ⟨0x0A31, 0x03, 0, 192, false⟩
/-! Fields of TX_CFG (Table 06.18). -/
def NetTxCfg.DEST_A : Fld := ⟨0x0A31, 0x01, 512, 128, false⟩
def NetTxCfg.DEST_B : Fld := ⟨0x0A31, 0x01, 384, 128, false⟩
def NetTxCfg.SSRC : Fld := ⟨0x0A31, 0x01, 352, 32, false⟩
def NetTxCfg.UDP_DST_A : Fld := ⟨0x0A31, 0x01, 336, 16, false⟩
def NetTxCfg.UDP_DST_B : Fld := ⟨0x0A31, 0x01, 320, 16, false⟩
def NetTxCfg.UDP_SRC : Fld := ⟨0x0A31, 0x01, 304, 16, false⟩
def NetTxCfg.DSCP : Fld := ⟨0x0A31, 0x01, 298, 6, false⟩
def NetTxCfg.TTL : Fld := ⟨0x0A31, 0x01, 290, 8, false⟩
def NetTxCfg.LEG_B_ENABLE : Fld := ⟨0x0A31, 0x01, 289, 1, false⟩
def NetTxCfg.LEG_B_PORT : Fld := ⟨0x0A31, 0x01, 284, 5, false⟩
def NetTxCfg.LEG_B_IF : Fld := ⟨0x0A31, 0x01, 281, 3, false⟩
def NetTxCfg.LEG_A_IF : Fld := ⟨0x0A31, 0x01, 278, 3, false⟩
def NetTxCfg.SENDER_TYPE : Fld := ⟨0x0A31, 0x01, 276, 2, false⟩
def NetTxCfg.PACKING : Fld := ⟨0x0A31, 0x01, 275, 1, false⟩
def NetTxCfg.PT : Fld := ⟨0x0A31, 0x01, 268, 7, false⟩
def NetTxCfg.PKT_BYTES : Fld := ⟨0x0A31, 0x01, 257, 11, false⟩
def NetTxCfg.CHANNELS : Fld := ⟨0x0A31, 0x01, 250, 7, false⟩
def NetTxCfg.RATE_96K : Fld := ⟨0x0A31, 0x01, 249, 1, false⟩
def NetTxCfg.PTIME_1MS : Fld := ⟨0x0A31, 0x01, 248, 1, false⟩
def NetTxCfg.SAFE_KIND : Fld := ⟨0x0A31, 0x01, 246, 2, false⟩
def NetTxCfg.HOLD_ARM : Fld := ⟨0x0A31, 0x01, 245, 1, false⟩
def NetTxCfg.HOLD_MAX_S : Fld := ⟨0x0A31, 0x01, 229, 16, false⟩
/-! Fields of TX_STATUS (Table 06.19). -/
def NetTxStatus.SENDING : Fld := ⟨0x0A31, 0x02, 63, 1, false⟩
def NetTxStatus.RESOLVING : Fld := ⟨0x0A31, 0x02, 62, 1, false⟩
def NetTxStatus.SAFE : Fld := ⟨0x0A31, 0x02, 61, 1, false⟩
def NetTxStatus.SAFE_HOLD : Fld := ⟨0x0A31, 0x02, 60, 1, false⟩
def NetTxStatus.HOLD_READY : Fld := ⟨0x0A31, 0x02, 59, 1, false⟩
def NetTxStatus.PACING_SPILL : Fld := ⟨0x0A31, 0x02, 58, 1, false⟩
def NetTxStatus.LEG_B_ACTIVE : Fld := ⟨0x0A31, 0x02, 57, 1, false⟩
def NetTxStatus.RTP_SEQ_NEXT : Fld := ⟨0x0A31, 0x02, 32, 16, false⟩
def NetTxStatus.WIRE_KBPS : Fld := ⟨0x0A31, 0x02, 0, 32, false⟩
/-! Fields of TX_COUNTERS (Table 06.20). -/
def NetTxCounters.PACKETS : Fld := ⟨0x0A31, 0x03, 160, 32, false⟩
def NetTxCounters.DISCARDS : Fld := ⟨0x0A31, 0x03, 128, 32, false⟩
def NetTxCounters.PACING_OVERRUNS : Fld := ⟨0x0A31, 0x03, 96, 32, false⟩
def NetTxCounters.FILLED_PACKETS : Fld := ⟨0x0A31, 0x03, 64, 32, false⟩
def NetTxCounters.SAFE_ENTRIES : Fld := ⟨0x0A31, 0x03, 32, 32, false⟩
def NetTxCounters.HOLD_FRAMES : Fld := ⟨0x0A31, 0x03, 0, 32, false⟩

/-! ### Record Ens, 0x0B00 (Table 07.14, chapter 07) -/
/-- 0x0B00.01 MODE (R229, Table 07.14). -/
def Ens.MODE : Fld := ⟨0x0B00, 0x01, 0, 8, false⟩
/-- 0x0B00.02 ENSEMBLE_SIZE (R229, Table 07.14). -/
def Ens.ENSEMBLE_SIZE : Fld := ⟨0x0B00, 0x02, 0, 8, false⟩
/-- 0x0B00.03 POSITION (R229, Table 07.14). -/
def Ens.POSITION : Fld := ⟨0x0B00, 0x03, 0, 8, false⟩
/-- 0x0B00.04 MEMBER (R229, Table 07.14). -/
def Ens.MEMBER : Fld := ⟨0x0B00, 0x04, 0, 8, false⟩
/-- 0x0B00.05 ENSEMBLE_STATE (R229, Table 07.14). -/
def Ens.ENSEMBLE_STATE : Fld := ⟨0x0B00, 0x05, 0, 8, false⟩
/-- 0x0B00.06 CHAIN_LENGTH (R229, Table 07.14). -/
def Ens.CHAIN_LENGTH : Fld := ⟨0x0B00, 0x06, 0, 8, false⟩
/-- 0x0B00.07 MEMBERS_UP (R229, Table 07.14). -/
def Ens.MEMBERS_UP : Fld := ⟨0x0B00, 0x07, 0, 8, false⟩
/-- 0x0B00.08 HEADSTOCK (R229, Table 07.14). -/
def Ens.HEADSTOCK : Fld := ⟨0x0B00, 0x08, 0, 8, false⟩
/-- 0x0B00.09 TAILSTOCK (R229, Table 07.14). -/
def Ens.TAILSTOCK : Fld := ⟨0x0B00, 0x09, 0, 8, false⟩
/-- 0x0B00.0A GEO (R229, Table 07.14). -/
def Ens.GEO : Fld := ⟨0x0B00, 0x0A, 0, 8, false⟩
/-- 0x0B00.0B CARD (R229, Table 07.14). -/
def Ens.CARD : Fld := ⟨0x0B00, 0x0B, 0, 8, false⟩
/-- 0x0B00.0C REPLANS (R229, Table 07.14). -/
def Ens.REPLANS : Fld := ⟨0x0B00, 0x0C, 0, 32, false⟩
/-- 0x0B00.0D PAIRS_MAX (R229, Table 07.14). -/
def Ens.PAIRS_MAX : Fld := ⟨0x0B00, 0x0D, 0, 16, false⟩
/-- 0x0B00.0E MSG_DROPPED (R229, Table 07.14). -/
def Ens.MSG_DROPPED : Fld := ⟨0x0B00, 0x0E, 0, 32, false⟩
/-- 0x0B00.0F BEACON_PERIOD_NS (R229, Table 07.14). -/
def Ens.BEACON_PERIOD_NS : Fld := ⟨0x0B00, 0x0F, 0, 16, false⟩

/-! ### Record Dwl, 0x0B10 (Table 07.14, chapter 07) -/
/-- 0x0B10.01 GROUP_CFG (R229, Table 07.14). -/
def Dwl.GROUP_CFG : Fld := ⟨0x0B10, 0x01, 0, 32, false⟩
/-- 0x0B10.02 GROUP_STATUS (R229, Table 07.14). -/
def Dwl.GROUP_STATUS : Fld := ⟨0x0B10, 0x02, 0, 128, false⟩
/-- 0x0B10.03 GROUP_COUNTERS (R229, Table 07.14). -/
def Dwl.GROUP_COUNTERS : Fld := ⟨0x0B10, 0x03, 0, 384, false⟩
/-- 0x0B10.04 LANE_STATUS (R229, Table 07.14). -/
def Dwl.LANE_STATUS : Fld := ⟨0x0B10, 0x04, 0, 64, false⟩
/-- 0x0B10.05 LANE_COUNTERS (R229, Table 07.14). -/
def Dwl.LANE_COUNTERS : Fld := ⟨0x0B10, 0x05, 0, 256, false⟩
/-! Fields of GROUP_CFG (Table 07.15). -/
def GroupCfg.ENABLE : Fld := ⟨0x0B10, 0x01, 31, 1, false⟩
def GroupCfg.MAX_STEP : Fld := ⟨0x0B10, 0x01, 28, 3, false⟩
/-! Fields of GROUP_STATUS (Table 07.16). -/
def GroupStatus.STATE : Fld := ⟨0x0B10, 0x02, 125, 3, false⟩
def GroupStatus.ACTIVE_LANES : Fld := ⟨0x0B10, 0x02, 121, 4, false⟩
def GroupStatus.PEER_MEMBER : Fld := ⟨0x0B10, 0x02, 118, 3, false⟩
def GroupStatus.PEER_CARD : Fld := ⟨0x0B10, 0x02, 117, 1, false⟩
def GroupStatus.PEER_GROUP : Fld := ⟨0x0B10, 0x02, 114, 3, false⟩
def GroupStatus.BEACON_OK : Fld := ⟨0x0B10, 0x02, 113, 1, false⟩
def GroupStatus.CAPACITY_MBPS : Fld := ⟨0x0B10, 0x02, 88, 20, false⟩
def GroupStatus.RESERVED_MBPS : Fld := ⟨0x0B10, 0x02, 68, 20, false⟩
def GroupStatus.SDI_RESERVE_MBPS : Fld := ⟨0x0B10, 0x02, 48, 20, false⟩
def GroupStatus.LINK_DELAY_NS : Fld := ⟨0x0B10, 0x02, 32, 16, false⟩
def GroupStatus.PEER_OFFSET_NS : Fld := ⟨0x0B10, 0x02, 0, 32, false⟩
/-! Fields of GROUP_COUNTERS (Table 07.17). -/
def GroupCounters.CELLS_TX : Fld := ⟨0x0B10, 0x03, 320, 64, false⟩
def GroupCounters.CELLS_RX : Fld := ⟨0x0B10, 0x03, 256, 64, false⟩
def GroupCounters.MGMT_TX : Fld := ⟨0x0B10, 0x03, 224, 32, false⟩
def GroupCounters.MGMT_RX : Fld := ⟨0x0B10, 0x03, 192, 32, false⟩
def GroupCounters.REPLAYS : Fld := ⟨0x0B10, 0x03, 160, 32, false⟩
def GroupCounters.REPLAYS_FAILED : Fld := ⟨0x0B10, 0x03, 128, 32, false⟩
def GroupCounters.MARKERS_RX : Fld := ⟨0x0B10, 0x03, 96, 32, false⟩
def GroupCounters.BEACONS_RX : Fld := ⟨0x0B10, 0x03, 64, 32, false⟩
def GroupCounters.BEACONS_LOST : Fld := ⟨0x0B10, 0x03, 32, 32, false⟩
def GroupCounters.SETS_DROPPED : Fld := ⟨0x0B10, 0x03, 0, 32, false⟩
/-! Fields of LANE_STATUS (Table 07.18). -/
def DwlLane.STEP : Fld := ⟨0x0B10, 0x04, 61, 3, false⟩
def DwlLane.LANE_STATE : Fld := ⟨0x0B10, 0x04, 58, 3, false⟩
def DwlLane.RANK : Fld := ⟨0x0B10, 0x04, 54, 4, false⟩
def DwlLane.ATTEMPTS : Fld := ⟨0x0B10, 0x04, 52, 2, false⟩
def DwlLane.PEER_HOLD : Fld := ⟨0x0B10, 0x04, 51, 1, false⟩
def DwlLane.SKEW_PS : Fld := ⟨0x0B10, 0x04, 32, 16, false⟩
def DwlLane.LCOUNT_TX : Fld := ⟨0x0B10, 0x04, 16, 16, false⟩
def DwlLane.LCOUNT_RX : Fld := ⟨0x0B10, 0x04, 0, 16, false⟩
/-! Fields of LANE_COUNTERS (Table 07.19). -/
def DwlLaneCounters.CODE_VIOLATIONS : Fld := ⟨0x0B10, 0x05, 224, 32, false⟩
def DwlLaneCounters.DISPARITY_ERRORS : Fld := ⟨0x0B10, 0x05, 192, 32, false⟩
def DwlLaneCounters.CRC_ERRORS : Fld := ⟨0x0B10, 0x05, 160, 32, false⟩
def DwlLaneCounters.REPLAY_REQ_SENT : Fld := ⟨0x0B10, 0x05, 128, 32, false⟩
def DwlLaneCounters.REPLAY_REQ_RECEIVED : Fld := ⟨0x0B10, 0x05, 96, 32, false⟩
def DwlLaneCounters.STEP_FAILURES : Fld := ⟨0x0B10, 0x05, 64, 32, false⟩
def DwlLaneCounters.LOCK_LOSSES : Fld := ⟨0x0B10, 0x05, 32, 32, false⟩
def DwlLaneCounters.SKIPS_ADJUSTED : Fld := ⟨0x0B10, 0x05, 0, 32, false⟩

/-! ### Record Xp, 0x0C00 (Table 03.15, chapter 03) -/
/-- 0x0C00.01 MODE (R100, Table 03.15). -/
def Xp.MODE : Fld := ⟨0x0C00, 0x01, 0, 8, false⟩
/-- 0x0C00.02 DELAY_POLICY (R100, Table 03.15). -/
def Xp.DELAY_POLICY : Fld := ⟨0x0C00, 0x02, 0, 8, false⟩
/-- 0x0C00.03 UNIFORM_DELAY_NS (R100, Table 03.15). -/
def Xp.UNIFORM_DELAY_NS : Fld := ⟨0x0C00, 0x03, 0, 32, false⟩
/-- 0x0C00.04 KERF_LINES (R100, Table 03.15). -/
def Xp.KERF_LINES : Fld := ⟨0x0C00, 0x04, 0, 8, false⟩
/-- 0x0C00.05 XFADE_SAMPLES (R100, Table 03.15). -/
def Xp.XFADE_SAMPLES : Fld := ⟨0x0C00, 0x05, 0, 16, false⟩
/-- 0x0C00.06 SALVO_MIN_LEAD_US (R100, Table 03.15). -/
def Xp.SALVO_MIN_LEAD_US : Fld := ⟨0x0C00, 0x06, 0, 32, false⟩
/-- 0x0C00.07 VOTE_LEAD_US (R100, Table 03.15). -/
def Xp.VOTE_LEAD_US : Fld := ⟨0x0C00, 0x07, 0, 32, false⟩
/-- 0x0C00.08 DECIDE_LEAD_US (R100, Table 03.15). -/
def Xp.DECIDE_LEAD_US : Fld := ⟨0x0C00, 0x08, 0, 32, false⟩
/-- 0x0C00.09 TAKE_LEAD_NS (R100, Table 03.15). -/
def Xp.TAKE_LEAD_NS : Fld := ⟨0x0C00, 0x09, 0, 32, false⟩
/-- 0x0C00.0A FS_EFN_BASE (R100, Table 03.15). -/
def Xp.FS_EFN_BASE : Fld := ⟨0x0C00, 0x0A, 0, 16, false⟩
/-- 0x0C00.0B COORDINATOR (R100, Table 03.15). -/
def Xp.COORDINATOR : Fld := ⟨0x0C00, 0x0B, 0, 8, false⟩

/-! ### Record XpCount, 0x0C01 (Table 03.15, chapter 03) -/
/-- 0x0C01.01 TAKES_APPLIED (R100, Table 03.15). -/
def XpCount.TAKES_APPLIED : Fld := ⟨0x0C01, 0x01, 0, 32, false⟩
/-- 0x0C01.02 TAKES_REFUSED (R100, Table 03.15). -/
def XpCount.TAKES_REFUSED : Fld := ⟨0x0C01, 0x02, 0, 32, false⟩
/-- 0x0C01.03 TAKES_REPLACED (R100, Table 03.15). -/
def XpCount.TAKES_REPLACED : Fld := ⟨0x0C01, 0x03, 0, 32, false⟩
/-- 0x0C01.04 UNTIMED_AT_BOUNDARY (R100, Table 03.15). -/
def XpCount.UNTIMED_AT_BOUNDARY : Fld := ⟨0x0C01, 0x04, 0, 32, false⟩
/-- 0x0C01.05 SALVOS_APPLIED (R100, Table 03.15). -/
def XpCount.SALVOS_APPLIED : Fld := ⟨0x0C01, 0x05, 0, 32, false⟩
/-- 0x0C01.06 SALVOS_ABORTED (R100, Table 03.15). -/
def XpCount.SALVOS_ABORTED : Fld := ⟨0x0C01, 0x06, 0, 32, false⟩
/-- 0x0C01.07 INDOUBT_EVENTS (R100, Table 03.15). -/
def XpCount.INDOUBT_EVENTS : Fld := ⟨0x0C01, 0x07, 0, 32, false⟩
/-- 0x0C01.08 TWIN_TAKES_MISSED (R100, Table 03.15). -/
def XpCount.TWIN_TAKES_MISSED : Fld := ⟨0x0C01, 0x08, 0, 32, false⟩
/-- 0x0C01.09 RECORD_GENERATION (R100, Table 03.15). -/
def XpCount.RECORD_GENERATION : Fld := ⟨0x0C01, 0x09, 0, 64, false⟩

/-! ### Record Take, 0x0C10 (Table 03.15, chapter 03) -/
/-- 0x0C10.01 TAKE (R100, Table 03.15). -/
def Take.TAKE : Fld := ⟨0x0C10, 0x01, 0, 128, false⟩
/-- 0x0C10.02 LAST_ACCEPT_TIME (R100, Table 03.15). -/
def Take.LAST_ACCEPT_TIME : Fld := ⟨0x0C10, 0x02, 0, 64, false⟩

/-! ### Record XpDom, 0x0C11 (Table 03.16, chapter 03) -/
/-- 0x0C11.01 XP_TABLE (R100, Table 03.16). -/
def XpDom.XP_TABLE : Fld := ⟨0x0C11, 0x01, 0, 128, false⟩
/-- 0x0C11.02 OUT_CFG (R100, Table 03.16). -/
def XpDom.OUT_CFG : Fld := ⟨0x0C11, 0x02, 0, 64, false⟩
/-- 0x0C11.03 TAKE_RECORD (R100, Table 03.16). -/
def XpDom.TAKE_RECORD : Fld := ⟨0x0C11, 0x03, 0, 0, false⟩
/-! Fields of XP_TABLE (Table 03.18). -/
def XpTable.SOURCE : Fld := ⟨0x0C11, 0x01, 112, 16, false⟩
def XpTable.PENDING_SOURCE : Fld := ⟨0x0C11, 0x01, 96, 16, false⟩
def XpTable.PENDING_TIME : Fld := ⟨0x0C11, 0x01, 32, 64, false⟩
def XpTable.VALID : Fld := ⟨0x0C11, 0x01, 31, 1, false⟩
def XpTable.PENDING : Fld := ⟨0x0C11, 0x01, 30, 1, false⟩
def XpTable.PENDING_DISCONNECT : Fld := ⟨0x0C11, 0x01, 29, 1, false⟩
def XpTable.FS_INSERTED : Fld := ⟨0x0C11, 0x01, 28, 1, false⟩
def XpTable.GATEWAY_INSERTED : Fld := ⟨0x0C11, 0x01, 27, 1, false⟩
def XpTable.HOPS : Fld := ⟨0x0C11, 0x01, 25, 2, false⟩
def XpTable.UNTIMED : Fld := ⟨0x0C11, 0x01, 24, 1, false⟩
def XpTable.INDOUBT : Fld := ⟨0x0C11, 0x01, 23, 1, false⟩
def XpTable.TILE : Fld := ⟨0x0C11, 0x01, 8, 8, false⟩
def XpTable.FROM_SALVO : Fld := ⟨0x0C11, 0x01, 7, 1, false⟩
def XpTable.SLOT : Fld := ⟨0x0C11, 0x01, 0, 4, false⟩
/-! Fields of OUT_CFG (Table 03.19). -/
def OutCfg.DELAY_NS : Fld := ⟨0x0C11, 0x02, 40, 24, false⟩
def OutCfg.PROTECT : Fld := ⟨0x0C11, 0x02, 39, 1, false⟩

/-! ### Record Salvo, 0x0C20 (Table 03.17, chapter 03) -/
/-- 0x0C20.01 STATE (R100, Table 03.17). -/
def Salvo.STATE : Fld := ⟨0x0C20, 0x01, 0, 8, true⟩
/-- 0x0C20.02 CHANGES (R100, Table 03.17). -/
def Salvo.CHANGES : Fld := ⟨0x0C20, 0x02, 0, 64, true⟩
/-- 0x0C20.03 COUNT (R100, Table 03.17). -/
def Salvo.COUNT : Fld := ⟨0x0C20, 0x03, 0, 16, true⟩
/-- 0x0C20.04 TAKE_TIME (R100, Table 03.17). -/
def Salvo.TAKE_TIME : Fld := ⟨0x0C20, 0x04, 0, 64, true⟩
/-- 0x0C20.05 CONTROL (R100, Table 03.17). -/
def Salvo.CONTROL : Fld := ⟨0x0C20, 0x05, 0, 8, true⟩
/-- 0x0C20.06 RESULT (R100, Table 03.17). -/
def Salvo.RESULT : Fld := ⟨0x0C20, 0x06, 0, 8, true⟩
/-- 0x0C20.07 FAIL_MEMBER (R100, Table 03.17). -/
def Salvo.FAIL_MEMBER : Fld := ⟨0x0C20, 0x07, 0, 8, true⟩
/-- 0x0C20.08 FAIL_INDEX (R100, Table 03.17). -/
def Salvo.FAIL_INDEX : Fld := ⟨0x0C20, 0x08, 0, 16, true⟩
/-- 0x0C20.09 EPOCH (R100, Table 03.17). -/
def Salvo.EPOCH : Fld := ⟨0x0C20, 0x09, 0, 8, true⟩
/-- 0x0C20.0A APPLIED_TIME (R100, Table 03.17). -/
def Salvo.APPLIED_TIME : Fld := ⟨0x0C20, 0x0A, 0, 64, true⟩
/-- 0x0C20.0B LABEL (R100, Table 03.17). -/
def Salvo.LABEL : Fld := ⟨0x0C20, 0x0B, 0, 256, true⟩
/-- 0x0C20.0C TWIN_ABSENT (R100, Table 03.17). -/
def Salvo.TWIN_ABSENT : Fld := ⟨0x0C20, 0x0C, 0, 8, true⟩

/-! ### Record Planes, 0x0D00 (Table 04.9, chapter 04) -/
/-- 0x0D00.01 MODE (R126, Table 04.9). -/
def Planes.MODE : Fld := ⟨0x0D00, 0x01, 0, 8, false⟩
/-- 0x0D00.02 PREFERRED_PLANE (R126, Table 04.9). -/
def Planes.PREFERRED_PLANE : Fld := ⟨0x0D00, 0x02, 0, 8, false⟩
/-- 0x0D00.03 MERGE_WINDOW_NS (R126, Table 04.9). -/
def Planes.MERGE_WINDOW_NS : Fld := ⟨0x0D00, 0x03, 0, 8, false⟩
/-- 0x0D00.04 ACTIVE_FAIL_LIMIT (R126, Table 04.9). -/
def Planes.ACTIVE_FAIL_LIMIT : Fld := ⟨0x0D00, 0x04, 0, 8, false⟩
/-- 0x0D00.05 ACTIVE_FAIL_WINDOW_US (R126, Table 04.9). -/
def Planes.ACTIVE_FAIL_WINDOW_US : Fld := ⟨0x0D00, 0x05, 0, 16, false⟩
/-- 0x0D00.06 MISMATCH_LIMIT (R126, Table 04.9). -/
def Planes.MISMATCH_LIMIT : Fld := ⟨0x0D00, 0x06, 0, 8, false⟩
/-- 0x0D00.07 AUTO_REPAIR (R126, Table 04.9). -/
def Planes.AUTO_REPAIR : Fld := ⟨0x0D00, 0x07, 0, 8, false⟩
/-- 0x0D00.08 PLANE_CMD (R126, Table 04.9). -/
def Planes.PLANE_CMD : Fld := ⟨0x0D00, 0x08, 0, 8, false⟩
/-- 0x0D00.09 REBUILDS (R126, Table 04.9). -/
def Planes.REBUILDS : Fld := ⟨0x0D00, 0x09, 0, 32, false⟩
/-- 0x0D00.0A LAST_REBUILD_US (R126, Table 04.9). -/
def Planes.LAST_REBUILD_US : Fld := ⟨0x0D00, 0x0A, 0, 32, false⟩

/-! ### Record Plane, 0x0D10 (Table 04.10, chapter 04) -/
/-- 0x0D10.01 STATE (R126, Table 04.10). -/
def Plane.STATE : Fld := ⟨0x0D10, 0x01, 0, 8, true⟩
/-- 0x0D10.02 HEALTH (R126, Table 04.10). -/
def Plane.HEALTH : Fld := ⟨0x0D10, 0x02, 0, 32, true⟩
/-- 0x0D10.03 COMPARED (R126, Table 04.10). -/
def Plane.COMPARED : Fld := ⟨0x0D10, 0x03, 0, 64, true⟩
/-- 0x0D10.04 MISMATCHES (R126, Table 04.10). -/
def Plane.MISMATCHES : Fld := ⟨0x0D10, 0x04, 0, 32, true⟩
/-- 0x0D10.05 CRC_ERRORS (R126, Table 04.10). -/
def Plane.CRC_ERRORS : Fld := ⟨0x0D10, 0x05, 0, 32, true⟩
/-- 0x0D10.06 MISSING (R126, Table 04.10). -/
def Plane.MISSING : Fld := ⟨0x0D10, 0x06, 0, 32, true⟩
/-- 0x0D10.07 USED (R126, Table 04.10). -/
def Plane.USED : Fld := ⟨0x0D10, 0x07, 0, 64, true⟩
/-- 0x0D10.08 FAILURES (R126, Table 04.10). -/
def Plane.FAILURES : Fld := ⟨0x0D10, 0x08, 0, 32, true⟩
/-- 0x0D10.09 LAST_FAIL_TIME (R126, Table 04.10). -/
def Plane.LAST_FAIL_TIME : Fld := ⟨0x0D10, 0x09, 0, 64, true⟩
/-- 0x0D10.0A LAST_FAIL_CAUSE (R126, Table 04.10). -/
def Plane.LAST_FAIL_CAUSE : Fld := ⟨0x0D10, 0x0A, 0, 8, true⟩
/-- 0x0D10.0B RESYNCS (R126, Table 04.10). -/
def Plane.RESYNCS : Fld := ⟨0x0D10, 0x0B, 0, 32, true⟩
/-- 0x0D10.0C LAST_RESYNC_US (R126, Table 04.10). -/
def Plane.LAST_RESYNC_US : Fld := ⟨0x0D10, 0x0C, 0, 32, true⟩
/-! Fields of HEALTH (Table 04.12). -/
def PlaneHealth.BIST_PASS : Fld := ⟨0x0D10, 0x02, 7, 1, true⟩
def PlaneHealth.SPARE_IN_USE : Fld := ⟨0x0D10, 0x02, 6, 1, true⟩
def PlaneHealth.ECC_CORRECTED : Fld := ⟨0x0D10, 0x02, 5, 1, true⟩
def PlaneHealth.MISMATCH_WARN : Fld := ⟨0x0D10, 0x02, 4, 1, true⟩
def PlaneHealth.STALL_SEEN : Fld := ⟨0x0D10, 0x02, 3, 1, true⟩
def PlaneHealth.CRC_WARN : Fld := ⟨0x0D10, 0x02, 2, 1, true⟩
def PlaneHealth.IN_SERVICE : Fld := ⟨0x0D10, 0x02, 1, 1, true⟩
def PlaneHealth.ROLE_ACTIVE : Fld := ⟨0x0D10, 0x02, 0, 1, true⟩

/-! ### Record Twin, 0x0D20 (Table 04.11, chapter 04) -/
/-- 0x0D20.01 STATE (R126, Table 04.11). -/
def Twin.STATE : Fld := ⟨0x0D20, 0x01, 0, 8, false⟩
/-- 0x0D20.02 ROLE (R126, Table 04.11). -/
def Twin.ROLE : Fld := ⟨0x0D20, 0x02, 0, 8, false⟩
/-- 0x0D20.03 ENABLE (R126, Table 04.11). -/
def Twin.ENABLE : Fld := ⟨0x0D20, 0x03, 0, 8, false⟩
/-- 0x0D20.04 PEER_ID (R126, Table 04.11). -/
def Twin.PEER_ID : Fld := ⟨0x0D20, 0x04, 0, 128, false⟩
/-- 0x0D20.05 PAIRED_TIME (R126, Table 04.11). -/
def Twin.PAIRED_TIME : Fld := ⟨0x0D20, 0x05, 0, 64, false⟩
/-- 0x0D20.06 LOSSES (R126, Table 04.11). -/
def Twin.LOSSES : Fld := ⟨0x0D20, 0x06, 0, 32, false⟩
/-- 0x0D20.07 RESYNCS (R126, Table 04.11). -/
def Twin.RESYNCS : Fld := ⟨0x0D20, 0x07, 0, 32, false⟩
/-- 0x0D20.08 ABANDONED (R126, Table 04.11). -/
def Twin.ABANDONED : Fld := ⟨0x0D20, 0x08, 0, 32, false⟩
/-- 0x0D20.09 TAKES_RECONCILED (R126, Table 04.11). -/
def Twin.TAKES_RECONCILED : Fld := ⟨0x0D20, 0x09, 0, 32, false⟩
/-- 0x0D20.0A SIG_MISMATCHES (R126, Table 04.11). -/
def Twin.SIG_MISMATCHES : Fld := ⟨0x0D20, 0x0A, 0, 32, false⟩
/-- 0x0D20.0B TIME_SKEW_NS (R126, Table 04.11). -/
def Twin.TIME_SKEW_NS : Fld := ⟨0x0D20, 0x0B, 0, 32, false⟩
/-- 0x0D20.0C CMD (R126, Table 04.11). -/
def Twin.CMD : Fld := ⟨0x0D20, 0x0C, 0, 8, false⟩

/-! ### Record Leg, 0x0D21 (Table 04.11, chapter 04) -/
/-- 0x0D21.01 LEG_CFG (R126, Table 04.11). -/
def Leg.LEG_CFG : Fld := ⟨0x0D21, 0x01, 0, 32, false⟩
/-- 0x0D21.02 LEG_STATUS (R126, Table 04.11). -/
def Leg.LEG_STATUS : Fld := ⟨0x0D21, 0x02, 0, 32, false⟩
/-- 0x0D21.03 REANCHORS (R126, Table 04.11). -/
def Leg.REANCHORS : Fld := ⟨0x0D21, 0x03, 0, 32, false⟩
/-- 0x0D21.04 ANCHOR_PERIOD_MS (R126, Table 04.11). -/
def Leg.ANCHOR_PERIOD_MS : Fld := ⟨0x0D21, 0x04, 0, 16, false⟩
/-! Fields of LEG_CFG (Table 04.13). -/
def LegCfg.TWIN_LEG : Fld := ⟨0x0D21, 0x01, 31, 1, false⟩
/-! Fields of LEG_STATUS (Table 04.14). -/
def LegStatus.ANCHORED : Fld := ⟨0x0D21, 0x02, 31, 1, false⟩
def LegStatus.LEG : Fld := ⟨0x0D21, 0x02, 30, 1, false⟩
def LegStatus.TWIN_SENDING : Fld := ⟨0x0D21, 0x02, 29, 1, false⟩
def LegStatus.ANCHOR_SEQ : Fld := ⟨0x0D21, 0x02, 0, 16, false⟩

/-! ### Record Fs, 0x0E00 (Table 09.9, chapter 09) -/
/-- 0x0E00.01 MODE (R279, Table 09.9). -/
def Fs.MODE : Fld := ⟨0x0E00, 0x01, 0, 8, false⟩
/-- 0x0E00.02 CHANNELS_ONLINE (R279, Table 09.9). -/
def Fs.CHANNELS_ONLINE : Fld := ⟨0x0E00, 0x02, 0, 8, false⟩
/-- 0x0E00.03 POOL_BLOCKS (R279, Table 09.9). -/
def Fs.POOL_BLOCKS : Fld := ⟨0x0E00, 0x03, 0, 16, false⟩
/-- 0x0E00.04 FREE_BLOCKS (R279, Table 09.9). -/
def Fs.FREE_BLOCKS : Fld := ⟨0x0E00, 0x04, 0, 16, false⟩
/-- 0x0E00.05 RESERVE_FREE (R279, Table 09.9). -/
def Fs.RESERVE_FREE : Fld := ⟨0x0E00, 0x05, 0, 16, false⟩
/-- 0x0E00.06 CAPACITY_MBPS (R279, Table 09.9). -/
def Fs.CAPACITY_MBPS : Fld := ⟨0x0E00, 0x06, 0, 32, false⟩
/-- 0x0E00.07 RESERVED_MBPS (R279, Table 09.9). -/
def Fs.RESERVED_MBPS : Fld := ⟨0x0E00, 0x07, 0, 32, false⟩
/-- 0x0E00.08 SR_ENABLE (R279, Table 09.9). -/
def Fs.SR_ENABLE : Fld := ⟨0x0E00, 0x08, 0, 8, false⟩
/-- 0x0E00.09 SR_IDLE_NS (R279, Table 09.9). -/
def Fs.SR_IDLE_NS : Fld := ⟨0x0E00, 0x09, 0, 32, false⟩
/-- 0x0E00.0A PASR_ENABLE (R279, Table 09.9). -/
def Fs.PASR_ENABLE : Fld := ⟨0x0E00, 0x0A, 0, 8, false⟩
/-- 0x0E00.0B SR_WAKE_MAX_NS (R279, Table 09.9). -/
def Fs.SR_WAKE_MAX_NS : Fld := ⟨0x0E00, 0x0B, 0, 16, false⟩
/-- 0x0E00.0C RETRAIN_CORR_PER_S (R279, Table 09.9). -/
def Fs.RETRAIN_CORR_PER_S : Fld := ⟨0x0E00, 0x0C, 0, 32, false⟩
/-- 0x0E00.0D CHAN_CMD (R279, Table 09.9). -/
def Fs.CHAN_CMD : Fld := ⟨0x0E00, 0x0D, 0, 32, false⟩
/-- 0x0E00.0E SHRINK_EVENTS (R279, Table 09.9). -/
def Fs.SHRINK_EVENTS : Fld := ⟨0x0E00, 0x0E, 0, 32, false⟩
/-- 0x0E00.0F BLOCKS_SUBSTITUTED (R279, Table 09.9). -/
def Fs.BLOCKS_SUBSTITUTED : Fld := ⟨0x0E00, 0x0F, 0, 16, false⟩
/-- 0x0E00.10 LAST_RETIRED_CHANNEL (R279, Table 09.9). -/
def Fs.LAST_RETIRED_CHANNEL : Fld := ⟨0x0E00, 0x10, 0, 8, false⟩
/-- 0x0E00.11 ALLOCATIONS (R279, Table 09.9). -/
def Fs.ALLOCATIONS : Fld := ⟨0x0E00, 0x11, 0, 16, false⟩

/-! ### Record FsHost, 0x0E01 (Table 09.10, chapter 09) -/
/-- 0x0E01.01 HOST_LIST (R279, Table 09.10). -/
def FsHost.HOST_LIST : Fld := ⟨0x0E01, 0x01, 0, 16, false⟩
/-- 0x0E01.02 HOST_LIST_LEN (R279, Table 09.10). -/
def FsHost.HOST_LIST_LEN : Fld := ⟨0x0E01, 0x02, 0, 16, false⟩

/-! ### Record Chan, 0x0E10 (Table 09.10, chapter 09) -/
/-- 0x0E10.01 CHAN_STATUS (R279, Table 09.10). -/
def Chan.CHAN_STATUS : Fld := ⟨0x0E10, 0x01, 0, 128, false⟩
/-- 0x0E10.02 CHAN_COUNTERS (R279, Table 09.10). -/
def Chan.CHAN_COUNTERS : Fld := ⟨0x0E10, 0x02, 0, 256, false⟩
/-- 0x0E10.03 DELAY_SETS (R279, Table 09.10). -/
def Chan.DELAY_SETS : Fld := ⟨0x0E10, 0x03, 0, 512, false⟩
/-! Fields of CHAN_STATUS (Table 09.12). -/
def ChanStatus.STATE : Fld := ⟨0x0E10, 0x01, 125, 3, false⟩
def ChanStatus.SET_IN_USE : Fld := ⟨0x0E10, 0x01, 122, 3, false⟩
def ChanStatus.SELF_REFRESH : Fld := ⟨0x0E10, 0x01, 121, 1, false⟩
def ChanStatus.PASR_MASK : Fld := ⟨0x0E10, 0x01, 112, 8, false⟩
def ChanStatus.MR4_RATE : Fld := ⟨0x0E10, 0x01, 107, 5, false⟩
def ChanStatus.FREE_BLOCKS : Fld := ⟨0x0E10, 0x01, 80, 16, false⟩
def ChanStatus.RESERVE_FREE : Fld := ⟨0x0E10, 0x01, 64, 16, false⟩
def ChanStatus.PPR_LEFT : Fld := ⟨0x0E10, 0x01, 48, 16, false⟩
def ChanStatus.RESERVED_MBPS : Fld := ⟨0x0E10, 0x01, 0, 32, false⟩
/-! Fields of CHAN_COUNTERS (Table 09.13). -/
def ChanCounters.ECC_CORRECTED : Fld := ⟨0x0E10, 0x02, 224, 32, false⟩
def ChanCounters.ECC_UNCORRECTED : Fld := ⟨0x0E10, 0x02, 192, 32, false⟩
def ChanCounters.RETRAINS : Fld := ⟨0x0E10, 0x02, 160, 32, false⟩
def ChanCounters.SETS_FAILED : Fld := ⟨0x0E10, 0x02, 128, 32, false⟩
def ChanCounters.SR_ENTRIES : Fld := ⟨0x0E10, 0x02, 96, 32, false⟩
def ChanCounters.SR_ABORTS : Fld := ⟨0x0E10, 0x02, 64, 32, false⟩
def ChanCounters.ROWS_REPAIRED : Fld := ⟨0x0E10, 0x02, 32, 32, false⟩
def ChanCounters.BLOCKS_SUBSTITUTED : Fld := ⟨0x0E10, 0x02, 0, 32, false⟩

/-! ### Record FsPort, 0x0E20 (Table 09.10, chapter 09) -/
/-- 0x0E20.01 PORT_COUNTERS (R279, Table 09.10). -/
def FsPort.PORT_COUNTERS : Fld := ⟨0x0E20, 0x01, 0, 128, false⟩
/-! Fields of PORT_COUNTERS (Table 09.14). -/
def FsPortCounters.BYTES : Fld := ⟨0x0E20, 0x01, 64, 64, false⟩
def FsPortCounters.DEADLINE_MISSES : Fld := ⟨0x0E20, 0x01, 32, 32, false⟩
def FsPortCounters.MAX_SERVICE_NS : Fld := ⟨0x0E20, 0x01, 0, 32, false⟩

/-! ### Record FsMap, 0x0E30 (Table 09.10, chapter 09) -/
/-- 0x0E30.01 ALLOC_TABLE (R279, Table 09.10). -/
def FsMap.ALLOC_TABLE : Fld := ⟨0x0E30, 0x01, 0, 128, false⟩
/-- 0x0E30.02 BLOCK_MAP (R279, Table 09.10). -/
def FsMap.BLOCK_MAP : Fld := ⟨0x0E30, 0x02, 0, 32, false⟩
/-! Fields of ALLOC_TABLE (Table 09.15). -/
def AllocTable.VALID : Fld := ⟨0x0E30, 0x01, 127, 1, false⟩
def AllocTable.CLASS : Fld := ⟨0x0E30, 0x01, 123, 4, false⟩
def AllocTable.SHRUNK : Fld := ⟨0x0E30, 0x01, 122, 1, false⟩
def AllocTable.OWNER : Fld := ⟨0x0E30, 0x01, 96, 16, false⟩
def AllocTable.BLOCKS : Fld := ⟨0x0E30, 0x01, 80, 16, false⟩
def AllocTable.FULL_BLOCKS : Fld := ⟨0x0E30, 0x01, 64, 16, false⟩
def AllocTable.RATE_MBPS : Fld := ⟨0x0E30, 0x01, 32, 32, false⟩
def AllocTable.MIN_BLOCKS : Fld := ⟨0x0E30, 0x01, 16, 16, false⟩
def AllocTable.LOST_BLOCKS : Fld := ⟨0x0E30, 0x01, 0, 16, false⟩
/-! Fields of BLOCK_MAP (Table 09.16). -/
def BlockMap.STATE : Fld := ⟨0x0E30, 0x02, 29, 3, false⟩
def BlockMap.LOST : Fld := ⟨0x0E30, 0x02, 28, 1, false⟩
def BlockMap.PROTECTED : Fld := ⟨0x0E30, 0x02, 27, 1, false⟩
def BlockMap.SUBSTITUTE : Fld := ⟨0x0E30, 0x02, 26, 1, false⟩
def BlockMap.HANDLE : Fld := ⟨0x0E30, 0x02, 0, 13, false⟩

/-! ### Record Shift, 0x0E40 (Table 09.10, chapter 09) -/
/-- 0x0E40.01 POOL_CFG (R279, Table 09.10). -/
def Shift.POOL_CFG : Fld := ⟨0x0E40, 0x01, 0, 64, false⟩
/-- 0x0E40.02 POOL_STATUS (R279, Table 09.10). -/
def Shift.POOL_STATUS : Fld := ⟨0x0E40, 0x02, 0, 64, false⟩
/-- 0x0E40.03 PLAY_CFG (R279, Table 09.10). -/
def Shift.PLAY_CFG : Fld := ⟨0x0E40, 0x03, 0, 32, false⟩
/-! Fields of POOL_CFG (Table 09.17). -/
def PoolCfg.ENABLE : Fld := ⟨0x0E40, 0x01, 63, 1, false⟩
def PoolCfg.BLOCKS : Fld := ⟨0x0E40, 0x01, 32, 16, false⟩
def PoolCfg.MIN_BLOCKS : Fld := ⟨0x0E40, 0x01, 16, 16, false⟩
/-! Fields of POOL_STATUS (Table 09.18). -/
def PoolStatus.BLOCKS_HELD : Fld := ⟨0x0E40, 0x02, 48, 16, false⟩
def PoolStatus.RECORDING : Fld := ⟨0x0E40, 0x02, 47, 1, false⟩
def PoolStatus.SPAN_US : Fld := ⟨0x0E40, 0x02, 0, 32, false⟩
/-! Fields of PLAY_CFG (Table 09.19). -/
def PlayCfg.LAG_US : Fld := ⟨0x0E40, 0x03, 0, 32, false⟩

/-! ### Record Tiles, 0x0F00 (Table 10.9, chapter 10) -/
/-- 0x0F00.01 MODE (R313, Table 10.9). -/
def Tiles.MODE : Fld := ⟨0x0F00, 0x01, 0, 8, false⟩
/-- 0x0F00.02 TILES_AVAILABLE (R313, Table 10.9). -/
def Tiles.TILES_AVAILABLE : Fld := ⟨0x0F00, 0x02, 0, 8, false⟩
/-- 0x0F00.03 SPARES_FREE (R313, Table 10.9). -/
def Tiles.SPARES_FREE : Fld := ⟨0x0F00, 0x03, 0, 8, false⟩
/-- 0x0F00.04 TAKE_TILE_MASK (R313, Table 10.9). -/
def Tiles.TAKE_TILE_MASK : Fld := ⟨0x0F00, 0x04, 0, 64, false⟩
/-- 0x0F00.05 TILES_INSERTED (R313, Table 10.9). -/
def Tiles.TILES_INSERTED : Fld := ⟨0x0F00, 0x05, 0, 8, false⟩
/-- 0x0F00.06 AUTO_SPARE (R313, Table 10.9). -/
def Tiles.AUTO_SPARE : Fld := ⟨0x0F00, 0x06, 0, 8, false⟩
/-- 0x0F00.07 SUBSTITUTIONS (R313, Table 10.9). -/
def Tiles.SUBSTITUTIONS : Fld := ⟨0x0F00, 0x07, 0, 32, false⟩
/-- 0x0F00.08 TILE_CMD (R313, Table 10.9). -/
def Tiles.TILE_CMD : Fld := ⟨0x0F00, 0x08, 0, 32, false⟩
/-- 0x0F00.09 LOAD_LIMIT_SPS (R313, Table 10.9). -/
def Tiles.LOAD_LIMIT_SPS : Fld := ⟨0x0F00, 0x09, 0, 32, false⟩
/-- 0x0F00.0A TILES_FAILED (R313, Table 10.9). -/
def Tiles.TILES_FAILED : Fld := ⟨0x0F00, 0x0A, 0, 8, false⟩

/-! ### Record TileMap, 0x0F10 (Table 10.9, chapter 10) -/
/-- 0x0F10.01 TILE_MAP (R313, Table 10.9). -/
def TileMap.TILE_MAP : Fld := ⟨0x0F10, 0x01, 0, 32, false⟩
/-! Fields of TILE_MAP (Table 10.14). -/
def TileMapEl.STATE : Fld := ⟨0x0F10, 0x01, 29, 3, false⟩
def TileMapEl.KNOT : Fld := ⟨0x0F10, 0x01, 28, 1, false⟩
def TileMapEl.LOGICAL : Fld := ⟨0x0F10, 0x01, 22, 6, false⟩
def TileMapEl.FAILURES : Fld := ⟨0x0F10, 0x01, 0, 16, false⟩

/-! ### Record Lut, 0x0F20 (Table 10.9, chapter 10) -/
/-- 0x0F20.01 LUT (R313, Table 10.9). -/
def Lut.LUT : Fld := ⟨0x0F20, 0x01, 0, 1725136, true⟩
/-- 0x0F20.02 LUT_CRC (R313, Table 10.9). -/
def Lut.LUT_CRC : Fld := ⟨0x0F20, 0x02, 0, 32, true⟩
/-- 0x0F20.03 USERS (R313, Table 10.9). -/
def Lut.USERS : Fld := ⟨0x0F20, 0x03, 0, 8, true⟩

/-! ### Record Comp, 0x1000 (Table 11.4, chapter 11) -/
/-- 0x1000.01 MODE (R336, Table 11.4). -/
def Comp.MODE : Fld := ⟨0x1000, 0x01, 0, 8, false⟩
/-- 0x1000.02 ENGINES_FREE (R336, Table 11.4). -/
def Comp.ENGINES_FREE : Fld := ⟨0x1000, 0x02, 0, 8, false⟩
/-- 0x1000.03 LAYER_LEAD_US (R336, Table 11.4). -/
def Comp.LAYER_LEAD_US : Fld := ⟨0x1000, 0x03, 0, 16, false⟩
/-- 0x1000.04 READY_LEAD_NS (R336, Table 11.4). -/
def Comp.READY_LEAD_NS : Fld := ⟨0x1000, 0x04, 0, 32, false⟩
/-- 0x1000.05 LINE_BUFFER_PX (R336, Table 11.4). -/
def Comp.LINE_BUFFER_PX : Fld := ⟨0x1000, 0x05, 0, 16, false⟩
/-- 0x1000.06 ENGINES_FAILED (R336, Table 11.4). -/
def Comp.ENGINES_FAILED : Fld := ⟨0x1000, 0x06, 0, 8, false⟩
/-- 0x1000.07 VENEER_CMD (R336, Table 11.4). -/
def Comp.VENEER_CMD : Fld := ⟨0x1000, 0x07, 0, 32, false⟩

/-! ### Record Veneer, 0x1010 (Table 11.4, chapter 11) -/
/-- 0x1010.01 VENEER_CFG (R336, Table 11.4). -/
def Veneer.VENEER_CFG : Fld := ⟨0x1010, 0x01, 0, 64, false⟩
/-- 0x1010.02 VENEER_STATUS (R336, Table 11.4). -/
def Veneer.VENEER_STATUS : Fld := ⟨0x1010, 0x02, 0, 64, false⟩
/-- 0x1010.03 VENEER_WRITE (R336, Table 11.4). -/
def Veneer.VENEER_WRITE : Fld := ⟨0x1010, 0x03, 0, 1132462208, false⟩
/-! Fields of VENEER_CFG (Table 11.7). -/
def VeneerCfg.ENABLE : Fld := ⟨0x1010, 0x01, 63, 1, false⟩
def VeneerCfg.DOUBLE : Fld := ⟨0x1010, 0x01, 62, 1, false⟩
def VeneerCfg.WIDTH : Fld := ⟨0x1010, 0x01, 32, 14, false⟩
def VeneerCfg.HEIGHT : Fld := ⟨0x1010, 0x01, 16, 14, false⟩
/-! Fields of VENEER_STATUS (Table 11.8). -/
def VeneerStatus.ALLOCATED : Fld := ⟨0x1010, 0x02, 63, 1, false⟩
def VeneerStatus.FRONT_LOST : Fld := ⟨0x1010, 0x02, 62, 1, false⟩
def VeneerStatus.BACK_LOST : Fld := ⟨0x1010, 0x02, 61, 1, false⟩
def VeneerStatus.FLIP_PENDING : Fld := ⟨0x1010, 0x02, 60, 1, false⟩
def VeneerStatus.FRONT : Fld := ⟨0x1010, 0x02, 59, 1, false⟩
def VeneerStatus.USERS : Fld := ⟨0x1010, 0x02, 40, 8, false⟩
def VeneerStatus.BLOCKS : Fld := ⟨0x1010, 0x02, 16, 16, false⟩
def VeneerStatus.HANDLE : Fld := ⟨0x1010, 0x02, 0, 13, false⟩

/-! ### Record Aud, 0x1100 (Table 12.6, chapter 12) -/
/-- 0x1100.01 MODE (R363, Table 12.6). -/
def Aud.MODE : Fld := ⟨0x1100, 0x01, 0, 8, false⟩
/-- 0x1100.02 POSITION (R363, Table 12.6). -/
def Aud.POSITION : Fld := ⟨0x1100, 0x02, 0, 64, false⟩
/-- 0x1100.03 REPEAT_LIMIT (R363, Table 12.6). -/
def Aud.REPEAT_LIMIT : Fld := ⟨0x1100, 0x03, 0, 8, false⟩
/-- 0x1100.04 DELAY_SRAM_WORDS (R363, Table 12.6). -/
def Aud.DELAY_SRAM_WORDS : Fld := ⟨0x1100, 0x04, 0, 32, false⟩
/-- 0x1100.05 DELAY_SRAM_FREE (R363, Table 12.6). -/
def Aud.DELAY_SRAM_FREE : Fld := ⟨0x1100, 0x05, 0, 32, false⟩
/-- 0x1100.06 DELAY_BLOCKS (R363, Table 12.6). -/
def Aud.DELAY_BLOCKS : Fld := ⟨0x1100, 0x06, 0, 16, false⟩
/-- 0x1100.07 STORE_WINDOW (R363, Table 12.6). -/
def Aud.STORE_WINDOW : Fld := ⟨0x1100, 0x07, 0, 8, false⟩
/-- 0x1100.08 AFV_MISSES (R363, Table 12.6). -/
def Aud.AFV_MISSES : Fld := ⟨0x1100, 0x08, 0, 32, false⟩
/-- 0x1100.09 RECENTRES (R363, Table 12.6). -/
def Aud.RECENTRES : Fld := ⟨0x1100, 0x09, 0, 32, false⟩

/-! ### Record AudLane, 0x1110 (Table 12.6, chapter 12) -/
/-- 0x1110.01 DEEMBED_CFG (R363, Table 12.6). -/
def AudLane.DEEMBED_CFG : Fld := ⟨0x1110, 0x01, 0, 32, false⟩
/-- 0x1110.02 EMBED_CFG (R363, Table 12.6). -/
def AudLane.EMBED_CFG : Fld := ⟨0x1110, 0x02, 0, 32, false⟩
/-- 0x1110.03 LANE_STATUS (R363, Table 12.6). -/
def AudLane.LANE_STATUS : Fld := ⟨0x1110, 0x03, 0, 64, false⟩
/-! Fields of LANE_STATUS (Table 12.10). -/
def AudLaneStatus.GROUPS_PRESENT : Fld := ⟨0x1110, 0x03, 56, 8, false⟩
def AudLaneStatus.GROUPS_EMBEDDED : Fld := ⟨0x1110, 0x03, 48, 8, false⟩
def AudLaneStatus.SILENT : Fld := ⟨0x1110, 0x03, 47, 1, false⟩
def AudLaneStatus.RX_RECENTRES : Fld := ⟨0x1110, 0x03, 16, 16, false⟩
def AudLaneStatus.TX_RECENTRES : Fld := ⟨0x1110, 0x03, 0, 16, false⟩
/-! Fields of DEEMBED_CFG (Table 12.8). -/
def DeembedCfg.ENABLE : Fld := ⟨0x1110, 0x01, 31, 1, false⟩
def DeembedCfg.GROUPS : Fld := ⟨0x1110, 0x01, 23, 8, false⟩
/-! Fields of EMBED_CFG (Table 12.9). -/
def EmbedCfg.ENABLE : Fld := ⟨0x1110, 0x02, 31, 1, false⟩
def EmbedCfg.GROUPS : Fld := ⟨0x1110, 0x02, 23, 8, false⟩
def EmbedCfg.CS_MODE : Fld := ⟨0x1110, 0x02, 22, 1, false⟩

/-! ### Record Bundle, 0x1120 (Table 12.6, chapter 12) -/
/-- 0x1120.01 BUNDLE_CFG (R363, Table 12.6). -/
def Bundle.BUNDLE_CFG : Fld := ⟨0x1120, 0x01, 0, 64, false⟩
/-- 0x1120.02 BUNDLE_STATUS (R363, Table 12.6). -/
def Bundle.BUNDLE_STATUS : Fld := ⟨0x1120, 0x02, 0, 128, false⟩
/-! Fields of BUNDLE_CFG (Table 12.11). -/
def BundleCfg.BASE : Fld := ⟨0x1120, 0x01, 50, 14, false⟩
def BundleCfg.CHANNELS : Fld := ⟨0x1120, 0x01, 43, 7, false⟩
def BundleCfg.RATE_96K : Fld := ⟨0x1120, 0x01, 42, 1, false⟩
def BundleCfg.AES3 : Fld := ⟨0x1120, 0x01, 41, 1, false⟩
def BundleCfg.ALIGN : Fld := ⟨0x1120, 0x01, 40, 1, false⟩
def BundleCfg.ALIGN_OFFSET : Fld := ⟨0x1120, 0x01, 24, 16, false⟩
/-! Fields of BUNDLE_STATUS (Table 12.12). -/
def BundleStatus.BOUND : Fld := ⟨0x1120, 0x02, 127, 1, false⟩
def BundleStatus.SILENT : Fld := ⟨0x1120, 0x02, 126, 1, false⟩
def BundleStatus.CONTEXT : Fld := ⟨0x1120, 0x02, 96, 16, false⟩
def BundleStatus.LATE_SAMPLES : Fld := ⟨0x1120, 0x02, 64, 32, false⟩
def BundleStatus.EARLY_SAMPLES : Fld := ⟨0x1120, 0x02, 32, 32, false⟩
def BundleStatus.UNDERRUNS : Fld := ⟨0x1120, 0x02, 0, 32, false⟩

/-! ### Record Tone, 0x1130 (Table 12.6, chapter 12) -/
/-- 0x1130.01 TONE_CFG (R363, Table 12.6). -/
def Tone.TONE_CFG : Fld := ⟨0x1130, 0x01, 0, 32, false⟩
/-! Fields of TONE_CFG (Table 12.13). -/
def ToneCfg.ENABLE : Fld := ⟨0x1130, 0x01, 31, 1, false⟩
def ToneCfg.FREQ_HZ : Fld := ⟨0x1130, 0x01, 16, 15, false⟩
def ToneCfg.LEVEL_CDB : Fld := ⟨0x1130, 0x01, 0, 14, false⟩

/-! ### Record Sap, 0x1140 (Table 12.6, chapter 12) -/
/-- 0x1140.01 SAP_CFG (R363, Table 12.6). -/
def Sap.SAP_CFG : Fld := ⟨0x1140, 0x01, 0, 128, false⟩
/-- 0x1140.02 SAP_STATUS (R363, Table 12.6). -/
def Sap.SAP_STATUS : Fld := ⟨0x1140, 0x02, 0, 128, false⟩
/-! Fields of SAP_CFG (Table 12.14). -/
def SapCfg.TX_MASK : Fld := ⟨0x1140, 0x01, 96, 32, false⟩
def SapCfg.RX_MASK : Fld := ⟨0x1140, 0x01, 64, 32, false⟩
def SapCfg.ENABLE : Fld := ⟨0x1140, 0x01, 63, 1, false⟩
def SapCfg.DPLL : Fld := ⟨0x1140, 0x01, 60, 3, false⟩
def SapCfg.FRAME : Fld := ⟨0x1140, 0x01, 58, 2, false⟩
def SapCfg.SLOTS : Fld := ⟨0x1140, 0x01, 55, 3, false⟩
def SapCfg.SLOT_BITS : Fld := ⟨0x1140, 0x01, 53, 2, false⟩
def SapCfg.DATA24 : Fld := ⟨0x1140, 0x01, 52, 1, false⟩
def SapCfg.RATE_96K : Fld := ⟨0x1140, 0x01, 51, 1, false⟩
def SapCfg.BCLK_EDGE : Fld := ⟨0x1140, 0x01, 50, 1, false⟩
/-! Fields of SAP_STATUS (Table 12.15). -/
def SapStatus.RUNNING : Fld := ⟨0x1140, 0x02, 127, 1, false⟩
def SapStatus.LOCKED : Fld := ⟨0x1140, 0x02, 126, 1, false⟩
def SapStatus.TX_ACTIVE : Fld := ⟨0x1140, 0x02, 119, 7, false⟩
def SapStatus.RX_ACTIVE : Fld := ⟨0x1140, 0x02, 112, 7, false⟩
def SapStatus.DIVIDER : Fld := ⟨0x1140, 0x02, 64, 32, false⟩
def SapStatus.BCLK_HZ : Fld := ⟨0x1140, 0x02, 32, 32, false⟩
def SapStatus.TX_RECENTRES : Fld := ⟨0x1140, 0x02, 16, 16, false⟩
def SapStatus.RX_RECENTRES : Fld := ⟨0x1140, 0x02, 0, 16, false⟩

/-! ### Record Afv, 0x1150 (Table 12.6, chapter 12) -/
/-- 0x1150.01 AFV_MAP (R363, Table 12.6). -/
def Afv.AFV_MAP : Fld := ⟨0x1150, 0x01, 0, 32, false⟩
/-! Fields of AFV_MAP (Table 12.16). -/
def AfvMap.VALID : Fld := ⟨0x1150, 0x01, 31, 1, false⟩
def AfvMap.EFN : Fld := ⟨0x1150, 0x01, 15, 16, false⟩
def AfvMap.BASE : Fld := ⟨0x1150, 0x01, 0, 14, false⟩

/-! ### Record Knot, 0x1200 (Table 19.14, chapter 19) -/
/-- 0x1200.01 MODE (R538, Table 19.14). -/
def Knot.MODE : Fld := ⟨0x1200, 0x01, 0, 8, false⟩
/-- 0x1200.02 KNOT_COUNT (R538, Table 19.14). -/
def Knot.KNOT_COUNT : Fld := ⟨0x1200, 0x02, 0, 16, false⟩
/-- 0x1200.03 KNOT_GENERATION (R538, Table 19.14). -/
def Knot.KNOT_GENERATION : Fld := ⟨0x1200, 0x03, 0, 64, false⟩
/-- 0x1200.04 KNOT_STATUS (R538, Table 19.14). -/
def Knot.KNOT_STATUS : Fld := ⟨0x1200, 0x04, 0, 8, false⟩
/-- 0x1200.05 KNOT_MAP (R538, Table 19.14). -/
def Knot.KNOT_MAP : Fld := ⟨0x1200, 0x05, 0, 256, false⟩
/-- 0x1200.06 SPARES_USED (R538, Table 19.14). -/
def Knot.SPARES_USED : Fld := ⟨0x1200, 0x06, 0, 16, false⟩
/-! Fields of KNOT_STATUS (Table 19.17). -/
def KnotStatus.FULL : Fld := ⟨0x1200, 0x04, 7, 1, false⟩
def KnotStatus.REBUILT : Fld := ⟨0x1200, 0x04, 6, 1, false⟩
def KnotStatus.ROW_SHORT : Fld := ⟨0x1200, 0x04, 5, 1, false⟩
def KnotStatus.COPY_0_VALID : Fld := ⟨0x1200, 0x04, 4, 1, false⟩
def KnotStatus.COPY_1_VALID : Fld := ⟨0x1200, 0x04, 3, 1, false⟩

/-! ### Record Ring, 0x1210 (Table 19.14, chapter 19) -/
/-- 0x1210.01 RING_SELECT (R538, Table 19.14). -/
def Ring.RING_SELECT : Fld := ⟨0x1210, 0x01, 0, 128, false⟩
/-- 0x1210.02 RING_DATA (R538, Table 19.14). -/
def Ring.RING_DATA : Fld := ⟨0x1210, 0x02, 0, 2097152, false⟩
/-- 0x1210.03 TIER_STATUS (R538, Table 19.14). -/
def Ring.TIER_STATUS : Fld := ⟨0x1210, 0x03, 0, 416, false⟩
/-- 0x1210.04 RING_CMD (R538, Table 19.14). -/
def Ring.RING_CMD : Fld := ⟨0x1210, 0x04, 0, 32, false⟩
/-- 0x1210.05 VERIFY_RESULT (R538, Table 19.14). -/
def Ring.VERIFY_RESULT : Fld := ⟨0x1210, 0x05, 0, 128, false⟩
/-- 0x1210.06 INTERVAL_S (R538, Table 19.14). -/
def Ring.INTERVAL_S : Fld := ⟨0x1210, 0x06, 0, 16, false⟩
/-- 0x1210.07 CURRENT_START (R538, Table 19.14). -/
def Ring.CURRENT_START : Fld := ⟨0x1210, 0x07, 0, 64, false⟩
/-! Fields of RING_SELECT (Table 19.18). -/
def RingSelect.TIER : Fld := ⟨0x1210, 0x01, 120, 8, false⟩
def RingSelect.COUNT : Fld := ⟨0x1210, 0x01, 112, 8, false⟩
def RingSelect.FIRST_SEQ : Fld := ⟨0x1210, 0x01, 0, 64, false⟩
/-! Fields of VERIFY_RESULT (Table 19.21). -/
def VerifyResult.STATE : Fld := ⟨0x1210, 0x05, 126, 2, false⟩
def VerifyResult.TIER : Fld := ⟨0x1210, 0x05, 112, 8, false⟩
def VerifyResult.CHECKED : Fld := ⟨0x1210, 0x05, 64, 32, false⟩
def VerifyResult.FIRST_BAD_SEQ : Fld := ⟨0x1210, 0x05, 0, 64, false⟩

/-! ### Record Bus, 0x1300 (Table 18.12, chapter 18) -/
/-- 0x1300.01 MODE (R517, Table 18.12). -/
def Bus.MODE : Fld := ⟨0x1300, 0x01, 0, 8, false⟩
/-- 0x1300.02 BUS_CMD (R517, Table 18.12). -/
def Bus.BUS_CMD : Fld := ⟨0x1300, 0x02, 0, 32, false⟩
/-- 0x1300.03 ERRORS (R517, Table 18.12). -/
def Bus.ERRORS : Fld := ⟨0x1300, 0x03, 0, 32, false⟩
/-- 0x1300.04 ERROR_LOG (R517, Table 18.12). -/
def Bus.ERROR_LOG : Fld := ⟨0x1300, 0x04, 0, 128, false⟩
/-- 0x1300.05 TIMEOUT_US (R517, Table 18.12). -/
def Bus.TIMEOUT_US : Fld := ⟨0x1300, 0x05, 0, 16, false⟩
/-! Fields of ERROR_LOG (Table 18.17). -/
def ErrorLog.RESP : Fld := ⟨0x1300, 0x04, 124, 4, false⟩
def ErrorLog.MASTER : Fld := ⟨0x1300, 0x04, 120, 4, false⟩
def ErrorLog.TARGET : Fld := ⟨0x1300, 0x04, 115, 5, false⟩
def ErrorLog.WRITE : Fld := ⟨0x1300, 0x04, 114, 1, false⟩
def ErrorLog.ADDRESS : Fld := ⟨0x1300, 0x04, 64, 32, false⟩
def ErrorLog.TIME : Fld := ⟨0x1300, 0x04, 0, 64, false⟩

/-! ### Record BusT, 0x1310 (Table 18.12, chapter 18) -/
/-- 0x1310.01 TARGET_STATUS (R517, Table 18.12). -/
def BusT.TARGET_STATUS : Fld := ⟨0x1310, 0x01, 0, 64, false⟩
/-- 0x1310.02 MASTER_STATUS (R517, Table 18.12). -/
def BusT.MASTER_STATUS : Fld := ⟨0x1310, 0x02, 0, 64, false⟩
/-- 0x1310.03 PARK_CFG (R517, Table 18.12). -/
def BusT.PARK_CFG : Fld := ⟨0x1310, 0x03, 0, 8, false⟩
/-! Fields of TARGET_STATUS (Table 18.18). -/
def TargetStatus.ISOLATED : Fld := ⟨0x1310, 0x01, 63, 1, false⟩
def TargetStatus.CAUSE : Fld := ⟨0x1310, 0x01, 60, 3, false⟩
def TargetStatus.TIMEOUTS : Fld := ⟨0x1310, 0x01, 32, 16, false⟩
def TargetStatus.ISOLATED_RESPONSES : Fld := ⟨0x1310, 0x01, 0, 32, false⟩
/-! Fields of MASTER_STATUS (Table 18.19). -/
def MasterStatus.IN_RESET : Fld := ⟨0x1310, 0x02, 63, 1, false⟩
def MasterStatus.OUTSTANDING : Fld := ⟨0x1310, 0x02, 59, 4, false⟩
def MasterStatus.DROPPED : Fld := ⟨0x1310, 0x02, 16, 16, false⟩
def MasterStatus.ERRORS : Fld := ⟨0x1310, 0x02, 0, 16, false⟩
/-! Fields of PARK_CFG (Table 18.20). -/
def ParkCfg.FIXED : Fld := ⟨0x1310, 0x03, 7, 1, false⟩
def ParkCfg.PARK_MASTER : Fld := ⟨0x1310, 0x03, 0, 4, false⟩

/-! ### Record Flow, 0x4000 (Table 02.9, chapter 02) -/
/-- 0x4000.01 MODE (R64, Table 02.9). -/
def Flow.MODE : Fld := ⟨0x4000, 0x01, 0, 8, true⟩
/-- 0x4000.02 ENABLE (R64, Table 02.9). -/
def Flow.ENABLE : Fld := ⟨0x4000, 0x02, 0, 8, true⟩
/-- 0x4000.03 STATE (R64, Table 02.9). -/
def Flow.STATE : Fld := ⟨0x4000, 0x03, 0, 8, true⟩
/-- 0x4000.04 KIND (R64, Table 02.9). -/
def Flow.KIND : Fld := ⟨0x4000, 0x04, 0, 8, true⟩
/-- 0x4000.05 EFN (R64, Table 02.9). -/
def Flow.EFN : Fld := ⟨0x4000, 0x05, 0, 16, true⟩
/-- 0x4000.06 BIND (R64, Table 02.9). -/
def Flow.BIND : Fld := ⟨0x4000, 0x06, 0, 32, true⟩
/-- 0x4000.07 FORMAT (R64, Table 02.9). -/
def Flow.FORMAT : Fld := ⟨0x4000, 0x07, 0, 16, true⟩
/-- 0x4000.08 DECLARED_KBPS (R64, Table 02.9). -/
def Flow.DECLARED_KBPS : Fld := ⟨0x4000, 0x08, 0, 32, true⟩
/-- 0x4000.09 PATH (R64, Table 02.9). -/
def Flow.PATH : Fld := ⟨0x4000, 0x09, 0, 32, true⟩
/-- 0x4000.0A DEST_MAP (R64, Table 02.9). -/
def Flow.DEST_MAP : Fld := ⟨0x4000, 0x0A, 0, 8, true⟩
/-- 0x4000.0B RESERVED_MBPS (R64, Table 02.9). -/
def Flow.RESERVED_MBPS : Fld := ⟨0x4000, 0x0B, 0, 32, true⟩
/-- 0x4000.0C SEQ_NEXT (R64, Table 02.9). -/
def Flow.SEQ_NEXT : Fld := ⟨0x4000, 0x0C, 0, 32, true⟩
/-- 0x4000.0D CELLS (R64, Table 02.9). -/
def Flow.CELLS : Fld := ⟨0x4000, 0x0D, 0, 64, true⟩
/-- 0x4000.0E MISSING (R64, Table 02.9). -/
def Flow.MISSING : Fld := ⟨0x4000, 0x0E, 0, 32, true⟩
/-- 0x4000.0F LATE (R64, Table 02.9). -/
def Flow.LATE : Fld := ⟨0x4000, 0x0F, 0, 32, true⟩
/-- 0x4000.10 MALFORMED (R64, Table 02.9). -/
def Flow.MALFORMED : Fld := ⟨0x4000, 0x10, 0, 32, true⟩
/-- 0x4000.11 STALE (R64, Table 02.9). -/
def Flow.STALE : Fld := ⟨0x4000, 0x11, 0, 32, true⟩
/-- 0x4000.12 STATUS (R64, Table 02.9). -/
def Flow.STATUS : Fld := ⟨0x4000, 0x12, 0, 32, true⟩
/-- 0x4000.13 RUN_START (R64, Table 02.9). -/
def Flow.RUN_START : Fld := ⟨0x4000, 0x13, 0, 64, true⟩
/-- 0x4000.14 LABEL (R64, Table 02.9). -/
def Flow.LABEL : Fld := ⟨0x4000, 0x14, 0, 256, true⟩
/-! Fields of BIND (Table 02.10). -/
def FlowBind.CLASS : Fld := ⟨0x4000, 0x06, 24, 8, true⟩
def FlowBind.INDEX : Fld := ⟨0x4000, 0x06, 0, 16, true⟩
/-! Fields of PATH (Table 02.11). -/
def FlowPath.DEST7 : Fld := ⟨0x4000, 0x09, 28, 4, true⟩
def FlowPath.DEST6 : Fld := ⟨0x4000, 0x09, 24, 4, true⟩
def FlowPath.DEST5 : Fld := ⟨0x4000, 0x09, 20, 4, true⟩
def FlowPath.DEST4 : Fld := ⟨0x4000, 0x09, 16, 4, true⟩
def FlowPath.DEST3 : Fld := ⟨0x4000, 0x09, 12, 4, true⟩
def FlowPath.DEST2 : Fld := ⟨0x4000, 0x09, 8, 4, true⟩
def FlowPath.DEST1 : Fld := ⟨0x4000, 0x09, 4, 4, true⟩
def FlowPath.DEST0 : Fld := ⟨0x4000, 0x09, 0, 4, true⟩
/-! Fields of STATUS (Table 02.12). -/
def FlowStatus.PLANNER_OWNED : Fld := ⟨0x4000, 0x12, 7, 1, true⟩
def FlowStatus.ENABLE_QUEUED : Fld := ⟨0x4000, 0x12, 6, 1, true⟩
def FlowStatus.ALIGNED : Fld := ⟨0x4000, 0x12, 5, 1, true⟩
def FlowStatus.SAFE : Fld := ⟨0x4000, 0x12, 4, 1, true⟩
def FlowStatus.SOURCE_LOST : Fld := ⟨0x4000, 0x12, 3, 1, true⟩
def FlowStatus.FROZEN : Fld := ⟨0x4000, 0x12, 2, 1, true⟩
def FlowStatus.ANCHORED : Fld := ⟨0x4000, 0x12, 1, 1, true⟩
def FlowStatus.EMITTING : Fld := ⟨0x4000, 0x12, 0, 1, true⟩

/-! ### Record Layer, 0x6000 (Table 11.6, chapter 11) -/
/-- 0x6000.01 MODE (R337, Table 11.6). -/
def Layer.MODE : Fld := ⟨0x6000, 0x01, 0, 8, true⟩
/-- 0x6000.02 HEAD (R337, Table 11.6). -/
def Layer.HEAD : Fld := ⟨0x6000, 0x02, 0, 8, true⟩
/-- 0x6000.03 SOURCE (R337, Table 11.6). -/
def Layer.SOURCE : Fld := ⟨0x6000, 0x03, 0, 8, true⟩
/-- 0x6000.04 VENEER (R337, Table 11.6). -/
def Layer.VENEER : Fld := ⟨0x6000, 0x04, 0, 16, true⟩
/-- 0x6000.05 GEOMETRY (R337, Table 11.6). -/
def Layer.GEOMETRY : Fld := ⟨0x6000, 0x05, 0, 128, true⟩
/-- 0x6000.06 BLEND (R337, Table 11.6). -/
def Layer.BLEND : Fld := ⟨0x6000, 0x06, 0, 32, true⟩
/-- 0x6000.07 FILL_COLOUR (R337, Table 11.6). -/
def Layer.FILL_COLOUR : Fld := ⟨0x6000, 0x07, 0, 32, true⟩
/-- 0x6000.08 NOT_READY_REPEAT (R337, Table 11.6). -/
def Layer.NOT_READY_REPEAT : Fld := ⟨0x6000, 0x08, 0, 8, true⟩
/-- 0x6000.09 TALLY (R337, Table 11.6). -/
def Layer.TALLY : Fld := ⟨0x6000, 0x09, 0, 16, true⟩
/-- 0x6000.0A BARS (R337, Table 11.6). -/
def Layer.BARS : Fld := ⟨0x6000, 0x0A, 0, 32, true⟩
/-- 0x6000.0B STATUS (R337, Table 11.6). -/
def Layer.STATUS : Fld := ⟨0x6000, 0x0B, 0, 32, true⟩
/-- 0x6000.0C NOT_READY_FRAMES (R337, Table 11.6). -/
def Layer.NOT_READY_FRAMES : Fld := ⟨0x6000, 0x0C, 0, 32, true⟩
/-- 0x6000.0D REPEATS (R337, Table 11.6). -/
def Layer.REPEATS : Fld := ⟨0x6000, 0x0D, 0, 32, true⟩
/-- 0x6000.0E DROPS (R337, Table 11.6). -/
def Layer.DROPS : Fld := ⟨0x6000, 0x0E, 0, 32, true⟩
/-- 0x6000.0F LOST_LINES (R337, Table 11.6). -/
def Layer.LOST_LINES : Fld := ⟨0x6000, 0x0F, 0, 32, true⟩
/-- 0x6000.10 LINE_NEED (R337, Table 11.6). -/
def Layer.LINE_NEED : Fld := ⟨0x6000, 0x10, 0, 16, true⟩
/-! Fields of GEOMETRY (Table 11.13). -/
def Geometry.X : Fld := ⟨0x6000, 0x05, 112, 16, true⟩
def Geometry.Y : Fld := ⟨0x6000, 0x05, 96, 16, true⟩
def Geometry.W : Fld := ⟨0x6000, 0x05, 80, 16, true⟩
def Geometry.H : Fld := ⟨0x6000, 0x05, 64, 16, true⟩
def Geometry.CROP_L : Fld := ⟨0x6000, 0x05, 48, 16, true⟩
def Geometry.CROP_R : Fld := ⟨0x6000, 0x05, 32, 16, true⟩
def Geometry.CROP_T : Fld := ⟨0x6000, 0x05, 16, 16, true⟩
def Geometry.CROP_B : Fld := ⟨0x6000, 0x05, 0, 16, true⟩
/-! Fields of BLEND (Table 11.14). -/
def Blend.Z : Fld := ⟨0x6000, 0x06, 27, 5, true⟩
def Blend.OPACITY : Fld := ⟨0x6000, 0x06, 16, 8, true⟩
def Blend.PREDECIM : Fld := ⟨0x6000, 0x06, 14, 2, true⟩
/-! Fields of TALLY (Table 11.15). -/
def Tally.ENABLE : Fld := ⟨0x6000, 0x09, 15, 1, true⟩
def Tally.BORDER_PX : Fld := ⟨0x6000, 0x09, 8, 4, true⟩
def Tally.COLOUR_IDX : Fld := ⟨0x6000, 0x09, 0, 4, true⟩
/-! Fields of BARS (Table 11.16). -/
def Bars.COUNT : Fld := ⟨0x6000, 0x0A, 27, 5, true⟩
def Bars.SIDE : Fld := ⟨0x6000, 0x0A, 26, 1, true⟩
def Bars.BAR_PX : Fld := ⟨0x6000, 0x0A, 22, 4, true⟩
def Bars.CH_BASE : Fld := ⟨0x6000, 0x0A, 0, 14, true⟩
/-! Fields of STATUS (Table 11.17). -/
def LayerStatus.DISPLAY : Fld := ⟨0x6000, 0x0B, 13, 3, true⟩
def LayerStatus.NOT_READY : Fld := ⟨0x6000, 0x0B, 12, 1, true⟩
def LayerStatus.LINEBUF : Fld := ⟨0x6000, 0x0B, 11, 1, true⟩
def LayerStatus.GEOMETRY : Fld := ⟨0x6000, 0x0B, 10, 1, true⟩
def LayerStatus.UNBACKED : Fld := ⟨0x6000, 0x0B, 9, 1, true⟩
def LayerStatus.ENGINE_FAILED : Fld := ⟨0x6000, 0x0B, 8, 1, true⟩
def LayerStatus.UNAVAILABLE : Fld := ⟨0x6000, 0x0B, 7, 1, true⟩
def LayerStatus.PENDING_UPDATE : Fld := ⟨0x6000, 0x0B, 6, 1, true⟩
def LayerStatus.VENEER_LOST : Fld := ⟨0x6000, 0x0B, 5, 1, true⟩

/-! ### Record Head, 0x6100 (Table 11.5, chapter 11) -/
/-- 0x6100.01 MODE (R337, Table 11.5). -/
def Head.MODE : Fld := ⟨0x6100, 0x01, 0, 8, true⟩
/-- 0x6100.02 TIMING (R337, Table 11.5). -/
def Head.TIMING : Fld := ⟨0x6100, 0x02, 0, 64, true⟩
/-- 0x6100.03 BACKGROUND (R337, Table 11.5). -/
def Head.BACKGROUND : Fld := ⟨0x6100, 0x03, 0, 32, true⟩
/-- 0x6100.04 PALETTE (R337, Table 11.5). -/
def Head.PALETTE : Fld := ⟨0x6100, 0x04, 0, 512, true⟩
/-- 0x6100.05 STATUS (R337, Table 11.5). -/
def Head.STATUS : Fld := ⟨0x6100, 0x05, 0, 32, true⟩
/-- 0x6100.06 LAYERS (R337, Table 11.5). -/
def Head.LAYERS : Fld := ⟨0x6100, 0x06, 0, 8, true⟩
/-- 0x6100.07 OUT_CONTEXT (R337, Table 11.5). -/
def Head.OUT_CONTEXT : Fld := ⟨0x6100, 0x07, 0, 16, true⟩
/-- 0x6100.08 ENGINE_MASK (R337, Table 11.5). -/
def Head.ENGINE_MASK : Fld := ⟨0x6100, 0x08, 0, 192, true⟩
/-- 0x6100.09 LABEL (R337, Table 11.5). -/
def Head.LABEL : Fld := ⟨0x6100, 0x09, 0, 256, true⟩
/-! Fields of TIMING (Table 11.11). -/
def HeadTiming.DPLL : Fld := ⟨0x6100, 0x02, 61, 3, true⟩
def HeadTiming.ZORDER : Fld := ⟨0x6100, 0x02, 60, 1, true⟩
def HeadTiming.PHASE_NS : Fld := ⟨0x6100, 0x02, 0, 32, true⟩
/-! Fields of STATUS (Table 11.12). -/
def HeadStatus.RUNNING : Fld := ⟨0x6100, 0x05, 2, 1, true⟩
def HeadStatus.TIMING_LOCKED : Fld := ⟨0x6100, 0x05, 1, 1, true⟩
def HeadStatus.ANY_FILL : Fld := ⟨0x6100, 0x05, 0, 1, true⟩

/-! ### Record Tile, 0x6200 (Table 10.10, chapter 10) -/
/-- 0x6200.01 MODE (R314, Table 10.10). -/
def Tile.MODE : Fld := ⟨0x6200, 0x01, 0, 8, true⟩
/-- 0x6200.02 PROC_CFG (R314, Table 10.10). -/
def Tile.PROC_CFG : Fld := ⟨0x6200, 0x02, 0, 32, true⟩
/-- 0x6200.03 FS_CFG_A (R314, Table 10.10). -/
def Tile.FS_CFG_A : Fld := ⟨0x6200, 0x03, 0, 64, true⟩
/-- 0x6200.04 FS_CFG_B (R314, Table 10.10). -/
def Tile.FS_CFG_B : Fld := ⟨0x6200, 0x04, 0, 64, true⟩
/-- 0x6200.05 ANC_PASS (R314, Table 10.10). -/
def Tile.ANC_PASS : Fld := ⟨0x6200, 0x05, 0, 256, true⟩
/-- 0x6200.06 STATUS (R314, Table 10.10). -/
def Tile.STATUS : Fld := ⟨0x6200, 0x06, 0, 32, true⟩
/-- 0x6200.07 LATENCY_NS (R314, Table 10.10). -/
def Tile.LATENCY_NS : Fld := ⟨0x6200, 0x07, 0, 32, true⟩
/-- 0x6200.08 IN_CONTEXT (R314, Table 10.10). -/
def Tile.IN_CONTEXT : Fld := ⟨0x6200, 0x08, 0, 16, true⟩
/-- 0x6200.09 OUT_CONTEXT (R314, Table 10.10). -/
def Tile.OUT_CONTEXT : Fld := ⟨0x6200, 0x09, 0, 16, true⟩
/-- 0x6200.0A PHYS_TILE (R314, Table 10.10). -/
def Tile.PHYS_TILE : Fld := ⟨0x6200, 0x0A, 0, 8, true⟩
/-- 0x6200.0B DROPS_A (R314, Table 10.10). -/
def Tile.DROPS_A : Fld := ⟨0x6200, 0x0B, 0, 32, true⟩
/-- 0x6200.0C REPEATS_A (R314, Table 10.10). -/
def Tile.REPEATS_A : Fld := ⟨0x6200, 0x0C, 0, 32, true⟩
/-- 0x6200.0D DROPS_B (R314, Table 10.10). -/
def Tile.DROPS_B : Fld := ⟨0x6200, 0x0D, 0, 32, true⟩
/-- 0x6200.0E REPEATS_B (R314, Table 10.10). -/
def Tile.REPEATS_B : Fld := ⟨0x6200, 0x0E, 0, 32, true⟩
/-- 0x6200.0F LOST_LINES (R314, Table 10.10). -/
def Tile.LOST_LINES : Fld := ⟨0x6200, 0x0F, 0, 32, true⟩
/-- 0x6200.10 ANC_DROPPED (R314, Table 10.10). -/
def Tile.ANC_DROPPED : Fld := ⟨0x6200, 0x10, 0, 32, true⟩
/-- 0x6200.11 SUBSTITUTIONS (R314, Table 10.10). -/
def Tile.SUBSTITUTIONS : Fld := ⟨0x6200, 0x11, 0, 16, true⟩
/-- 0x6200.12 LABEL (R314, Table 10.10). -/
def Tile.LABEL : Fld := ⟨0x6200, 0x12, 0, 256, true⟩
/-! Fields of PROC_CFG (Table 10.11). -/
def ProcCfg.ASPECT : Fld := ⟨0x6200, 0x02, 30, 2, true⟩
def ProcCfg.DEINT_MODE : Fld := ⟨0x6200, 0x02, 28, 2, true⟩
def ProcCfg.OUT_SDI : Fld := ⟨0x6200, 0x02, 27, 1, true⟩
def ProcCfg.LUT_SLOT : Fld := ⟨0x6200, 0x02, 16, 8, true⟩
/-! Fields of FS_CFG_A (Table 10.12). -/
def FsCfgA.ENABLE : Fld := ⟨0x6200, 0x03, 63, 1, true⟩
def FsCfgA.DPLL : Fld := ⟨0x6200, 0x03, 60, 3, true⟩
def FsCfgA.DELAY_FRAMES : Fld := ⟨0x6200, 0x03, 57, 3, true⟩
def FsCfgA.LOSS : Fld := ⟨0x6200, 0x03, 55, 2, true⟩
def FsCfgA.PHASE_NS : Fld := ⟨0x6200, 0x03, 0, 32, true⟩
/-! Fields of FS_CFG_B (Table 10.12). -/
def FsCfgB.ENABLE : Fld := ⟨0x6200, 0x04, 63, 1, true⟩
def FsCfgB.DPLL : Fld := ⟨0x6200, 0x04, 60, 3, true⟩
def FsCfgB.DELAY_FRAMES : Fld := ⟨0x6200, 0x04, 57, 3, true⟩
def FsCfgB.LOSS : Fld := ⟨0x6200, 0x04, 55, 2, true⟩
def FsCfgB.PHASE_NS : Fld := ⟨0x6200, 0x04, 0, 32, true⟩
/-! Fields of STATUS (Table 10.15). -/
def TileStatus.DEINT : Fld := ⟨0x6200, 0x06, 23, 1, true⟩
def TileStatus.INTERLACE : Fld := ⟨0x6200, 0x06, 22, 1, true⟩
def TileStatus.SCALE : Fld := ⟨0x6200, 0x06, 21, 1, true⟩
def TileStatus.COLOUR : Fld := ⟨0x6200, 0x06, 20, 1, true⟩
def TileStatus.GATEWAY : Fld := ⟨0x6200, 0x06, 19, 1, true⟩
def TileStatus.FS_A : Fld := ⟨0x6200, 0x06, 18, 1, true⟩
def TileStatus.FS_B : Fld := ⟨0x6200, 0x06, 17, 1, true⟩
def TileStatus.GANG : Fld := ⟨0x6200, 0x06, 16, 1, true⟩
def TileStatus.INSERTED : Fld := ⟨0x6200, 0x06, 7, 1, true⟩
def TileStatus.EMITTING_A : Fld := ⟨0x6200, 0x06, 6, 1, true⟩
def TileStatus.EMITTING_B : Fld := ⟨0x6200, 0x06, 5, 1, true⟩
def TileStatus.FS_LOCKED : Fld := ⟨0x6200, 0x06, 4, 1, true⟩
def TileStatus.FS_SHORT : Fld := ⟨0x6200, 0x06, 3, 1, true⟩
def TileStatus.FS_UNBACKED : Fld := ⟨0x6200, 0x06, 2, 1, true⟩
def TileStatus.SUBSTITUTING : Fld := ⟨0x6200, 0x06, 1, 1, true⟩
def TileStatus.UNAVAILABLE : Fld := ⟨0x6200, 0x06, 0, 1, true⟩

/-! ### Record Dest, 0x7000 (Table 12.7, chapter 12) -/
/-- 0x7000.01 MODE (R364, Table 12.7). -/
def Dest.MODE : Fld := ⟨0x7000, 0x01, 0, 8, true⟩
/-- 0x7000.02 SOURCES (R364, Table 12.7). -/
def Dest.SOURCES : Fld := ⟨0x7000, 0x02, 0, 128, true⟩
/-- 0x7000.03 GAINS (R364, Table 12.7). -/
def Dest.GAINS : Fld := ⟨0x7000, 0x03, 0, 128, true⟩
/-- 0x7000.04 DELAY_SAMPLES (R364, Table 12.7). -/
def Dest.DELAY_SAMPLES : Fld := ⟨0x7000, 0x04, 0, 32, true⟩
/-- 0x7000.05 FOLLOW (R364, Table 12.7). -/
def Dest.FOLLOW : Fld := ⟨0x7000, 0x05, 0, 32, true⟩
/-- 0x7000.06 STATUS (R364, Table 12.7). -/
def Dest.STATUS : Fld := ⟨0x7000, 0x06, 0, 32, true⟩
/-- 0x7000.07 CURRENT_SOURCES (R364, Table 12.7). -/
def Dest.CURRENT_SOURCES : Fld := ⟨0x7000, 0x07, 0, 128, true⟩
/-- 0x7000.08 CLIPS (R364, Table 12.7). -/
def Dest.CLIPS : Fld := ⟨0x7000, 0x08, 0, 32, true⟩
/-- 0x7000.09 FADES (R364, Table 12.7). -/
def Dest.FADES : Fld := ⟨0x7000, 0x09, 0, 32, true⟩
/-- 0x7000.0A FADES_REPLACED (R364, Table 12.7). -/
def Dest.FADES_REPLACED : Fld := ⟨0x7000, 0x0A, 0, 32, true⟩
/-- 0x7000.0B LABEL (R364, Table 12.7). -/
def Dest.LABEL : Fld := ⟨0x7000, 0x0B, 0, 256, true⟩
/-! Fields of FOLLOW (Table 12.17). -/
def Follow.ENABLE : Fld := ⟨0x7000, 0x05, 31, 1, true⟩
def Follow.OFFSET : Fld := ⟨0x7000, 0x05, 16, 6, true⟩
def Follow.LEADER : Fld := ⟨0x7000, 0x05, 0, 12, true⟩
/-! Fields of STATUS (Table 12.18). -/
def DestStatus.FOLLOWING : Fld := ⟨0x7000, 0x06, 7, 1, true⟩
def DestStatus.FOLLOW_UNMAPPED : Fld := ⟨0x7000, 0x06, 6, 1, true⟩
def DestStatus.FADE_ACTIVE : Fld := ⟨0x7000, 0x06, 5, 1, true⟩
def DestStatus.FADE_QUEUED : Fld := ⟨0x7000, 0x06, 4, 1, true⟩
def DestStatus.DELAY_SPILL : Fld := ⟨0x7000, 0x06, 3, 1, true⟩
def DestStatus.DELAY_LOST : Fld := ⟨0x7000, 0x06, 2, 1, true⟩
def DestStatus.RAMPING : Fld := ⟨0x7000, 0x06, 1, 1, true⟩
def DestStatus.ANY_SILENT : Fld := ⟨0x7000, 0x06, 0, 1, true⟩

end D

end Sys2Proof
end

