-- ==== Sys2Proof/Machine/Sources.lean ====
section
/-! DEFINITION. The fault sources of Table 17.1 (R475), the instance kind and default severity of each. -/

namespace Sys2Proof
namespace Src

/-- Source 0x000, instance kind DEV, severity F. -/
def FLT_CFG_PARITY : Nat := 0x000
/-- Source 0x001, instance kind DEV, severity E. -/
def FLT_RESET_STORM : Nat := 0x001
/-- Source 0x002, instance kind DEV, severity I. -/
def FLT_INJECTED : Nat := 0x002
/-- Source 0x00F, instance kind DEV, severity E. -/
def FLT_STALL : Nat := 0x00F
/-- Source 0x010, instance kind DEV, severity F. -/
def RST_TRIM_FAIL : Nat := 0x010
/-- Source 0x011, instance kind DEV, severity E. -/
def RST_WATCHDOG : Nat := 0x011
/-- Source 0x012, instance kind DEV, severity W. -/
def RST_EXTERNAL : Nat := 0x012
/-- Source 0x01F, instance kind DEV, severity E. -/
def RST_STALL : Nat := 0x01F
/-- Source 0x020, instance kind DEV, severity F. -/
def PWR_WARN : Nat := 0x020
/-- Source 0x021, instance kind DEV, severity W. -/
def PWR_TEMP_WARN : Nat := 0x021
/-- Source 0x022, instance kind DEV, severity F. -/
def PWR_TEMP_CRIT : Nat := 0x022
/-- Source 0x023, instance kind DEV, severity E. -/
def PWR_AVS_FAIL : Nat := 0x023
/-- Source 0x024, instance kind DEV, severity W. -/
def PWR_WAKE_LATE : Nat := 0x024
/-- Source 0x02F, instance kind DEV, severity E. -/
def PWR_STALL : Nat := 0x02F
/-- Source 0x030, instance kind DEV, severity E. -/
def BUS_DEFAULT_TARGET : Nat := 0x030
/-- Source 0x031, instance kind DEV, severity W. -/
def BUS_ISOLATED : Nat := 0x031
/-- Source 0x032, instance kind DEV, severity E. -/
def BUS_TIMEOUT : Nat := 0x032
/-- Source 0x033, instance kind DEV, severity F. -/
def BUS_ECC : Nat := 0x033
/-- Source 0x03F, instance kind DEV, severity E. -/
def BUS_STALL : Nat := 0x03F
/-- Source 0x040, instance kind DEV, severity E. -/
def MGT_FW_FALLBACK : Nat := 0x040
/-- Source 0x041, instance kind DEV, severity W. -/
def MGT_SETTINGS_DEFAULT : Nat := 0x041
/-- Source 0x042, instance kind DEV, severity E. -/
def MGT_CORE_FAIL : Nat := 0x042
/-- Source 0x043, instance kind DEV, severity F. -/
def MGT_SRAM_UNCORR : Nat := 0x043
/-- Source 0x04F, instance kind DEV, severity E. -/
def MGT_STALL : Nat := 0x04F
/-- Source 0x050, instance kind DEV, severity F. -/
def SEC_FLASH_SIZE : Nat := 0x050
/-- Source 0x051, instance kind DEV, severity F. -/
def SEC_KEY_LOST : Nat := 0x051
/-- Source 0x052, instance kind DEV, severity W. -/
def SEC_DEBUG_OPEN : Nat := 0x052
/-- Source 0x053, instance kind DEV, severity E. -/
def SEC_IMAGE_INVALID : Nat := 0x053
/-- Source 0x054, instance kind DEV, severity F. -/
def SEC_ENTROPY : Nat := 0x054
/-- Source 0x05F, instance kind DEV, severity E. -/
def SEC_STALL : Nat := 0x05F
/-- Source 0x060, instance kind DEV, severity E. -/
def DIC_JOURNAL_CORRUPT : Nat := 0x060
/-- Source 0x061, instance kind DEV, severity E. -/
def DIC_IDENTITY_DEFAULT : Nat := 0x061
/-- Source 0x062, instance kind DEV, severity W. -/
def RCP_MG_REVERTED : Nat := 0x062
/-- Source 0x063, instance kind DEV, severity F. -/
def DIC_FLASH_WRITE : Nat := 0x063
/-- Source 0x06F, instance kind DEV, severity E. -/
def DIC_STALL : Nat := 0x06F
/-- Source 0x070, instance kind DEV, severity E. -/
def RPR_CHAIN_BROKEN : Nat := 0x070
/-- Source 0x071, instance kind DEV, severity W. -/
def RPR_LOG_WRITE : Nat := 0x071
/-- Source 0x072, instance kind DEV, severity E. -/
def RPR_KNOT_COPY : Nat := 0x072
/-- Source 0x07F, instance kind DEV, severity E. -/
def RPR_STALL : Nat := 0x07F
/-- Source 0x080, instance kind DEV, severity W. -/
def TIM_STEP : Nat := 0x080
/-- Source 0x081, instance kind DEV, severity W. -/
def TIM_LOCK_LOST : Nat := 0x081
/-- Source 0x082, instance kind DEV, severity W. -/
def TIM_HOLDOVER : Nat := 0x082
/-- Source 0x083, instance kind DEV, severity I. -/
def TIM_GM_CHANGE : Nat := 0x083
/-- Source 0x08F, instance kind DEV, severity E. -/
def TIM_STALL : Nat := 0x08F
/-- Source 0x090, instance kind REF, severity W. -/
def REF_LOS : Nat := 0x090
/-- Source 0x091, instance kind REF, severity I. -/
def REF_GLITCH : Nat := 0x091
/-- Source 0x092, instance kind REF, severity I. -/
def REF_SOFT_LIMIT : Nat := 0x092
/-- Source 0x093, instance kind REF, severity W. -/
def REF_DISQUALIFIED : Nat := 0x093
/-- Source 0x094, instance kind DEV, severity E. -/
def REF_LO_SUSPECT : Nat := 0x094
/-- Source 0x095, instance kind DPLL, severity I. -/
def REF_SWITCH : Nat := 0x095
/-- Source 0x096, instance kind DPLL, severity W. -/
def REF_DPLL_HOLDOVER : Nat := 0x096
/-- Source 0x097, instance kind DPLL, severity E. -/
def REF_DPLL_FREE_RUN : Nat := 0x097
/-- Source 0x09F, instance kind DEV, severity E. -/
def REF_STALL : Nat := 0x09F
/-- Source 0x0A0, instance kind LANE, severity W. -/
def PHY_LANE_DEGRADED : Nat := 0x0A0
/-- Source 0x0A1, instance kind LANE, severity W. -/
def PHY_SPARE_UNFIT : Nat := 0x0A1
/-- Source 0x0A2, instance kind LANE, severity I. -/
def PHY_SLICE_SPARED : Nat := 0x0A2
/-- Source 0x0AF, instance kind DEV, severity E. -/
def PHY_STALL : Nat := 0x0AF
/-- Source 0x0B0, instance kind LANE, severity W. -/
def SDI_RX_LOCK_LOST : Nat := 0x0B0
/-- Source 0x0B1, instance kind LANE, severity W. -/
def SDI_RX_FORMAT : Nat := 0x0B1
/-- Source 0x0B2, instance kind LANE, severity W. -/
def SDI_GROUP_SKEW : Nat := 0x0B2
/-- Source 0x0BF, instance kind DEV, severity E. -/
def SDI_RX_STALL : Nat := 0x0BF
/-- Source 0x0C0, instance kind LANE, severity W. -/
def SDI_TX_UNTIMED : Nat := 0x0C0
/-- Source 0x0C1, instance kind LANE, severity W. -/
def SDI_HOLD_EMPTY : Nat := 0x0C1
/-- Source 0x0C2, instance kind LANE, severity E. -/
def SDI_TX_RETIME_ECC : Nat := 0x0C2
/-- Source 0x0C3, instance kind LANE, severity E. -/
def SDI_TX_PLL : Nat := 0x0C3
/-- Source 0x0CF, instance kind DEV, severity E. -/
def SDI_TX_STALL : Nat := 0x0CF
/-- Source 0x0D0, instance kind PORT, severity W. -/
def NET_LINK_DOWN : Nat := 0x0D0
/-- Source 0x0D1, instance kind PORT, severity I. -/
def NET_SPARE_IN : Nat := 0x0D1
/-- Source 0x0D2, instance kind CTX, severity W. -/
def NET_TX_UNRESOLVED : Nat := 0x0D2
/-- Source 0x0D3, instance kind PORT, severity I. -/
def NET_OLD_QUERIER : Nat := 0x0D3
/-- Source 0x0DF, instance kind DEV, severity E. -/
def NET_PORT_STALL : Nat := 0x0DF
/-- Source 0x0E0, instance kind CTX, severity W. -/
def NET_RX_OVERFLOW : Nat := 0x0E0
/-- Source 0x0E1, instance kind CTX, severity W. -/
def NET_2022_7_SKEW : Nat := 0x0E1
/-- Source 0x0E2, instance kind CTX, severity W. -/
def NET_LEG_DOWN : Nat := 0x0E2
/-- Source 0x0E3, instance kind CTX, severity W. -/
def NET_HOLD_EMPTY : Nat := 0x0E3
/-- Source 0x0E4, instance kind DEV, severity E. -/
def NET_RX_ECC : Nat := 0x0E4
/-- Source 0x0EF, instance kind DEV, severity E. -/
def NET_MEDIA_STALL : Nat := 0x0EF
/-- Source 0x0F0, instance kind LANE, severity W. -/
def DWL_LANE_FAILED : Nat := 0x0F0
/-- Source 0x0F1, instance kind LANE, severity W. -/
def DWL_REPLAY_LOST : Nat := 0x0F1
/-- Source 0x0F2, instance kind LANE, severity I. -/
def DWL_SPARE_IN : Nat := 0x0F2
/-- Source 0x0F3, instance kind GROUP, severity E. -/
def DWL_MISWIRED : Nat := 0x0F3
/-- Source 0x0FF, instance kind DEV, severity E. -/
def DWL_LANE_STALL : Nat := 0x0FF
/-- Source 0x100, instance kind GROUP, severity E. -/
def DWL_GROUP_DOWN : Nat := 0x100
/-- Source 0x101, instance kind DEV, severity E. -/
def DWL_CHAIN_MISMATCH : Nat := 0x101
/-- Source 0x102, instance kind DEV, severity E. -/
def DWL_CHAIN_LOST : Nat := 0x102
/-- Source 0x103, instance kind DEV, severity E. -/
def DWL_CHAIN_SHORT : Nat := 0x103
/-- Source 0x104, instance kind GROUP, severity W. -/
def DWL_BEACON_LOST : Nat := 0x104
/-- Source 0x10F, instance kind DEV, severity E. -/
def DWL_ENS_STALL : Nat := 0x10F
/-- Source 0x110, instance kind CTX, severity W. -/
def XC_TAKE_UNTIMED : Nat := 0x110
/-- Source 0x111, instance kind SLOT, severity E. -/
def XC_SALVO_INDOUBT : Nat := 0x111
/-- Source 0x112, instance kind CTX, severity W. -/
def XC_TWIN_TAKE_MISSED : Nat := 0x112
/-- Source 0x11F, instance kind DEV, severity E. -/
def XC_TAKE_STALL : Nat := 0x11F
/-- Source 0x120, instance kind PLANE, severity W. -/
def XC_PLANE_FAIL : Nat := 0x120
/-- Source 0x121, instance kind PLANE, severity I. -/
def XC_PLANE_MISMATCH : Nat := 0x121
/-- Source 0x122, instance kind DEV, severity E. -/
def XC_PLANE_REBUILD : Nat := 0x122
/-- Source 0x123, instance kind DEV, severity F. -/
def XC_PLANE_LOSS_BOTH : Nat := 0x123
/-- Source 0x12F, instance kind DEV, severity E. -/
def XC_PLANE_STALL : Nat := 0x12F
/-- Source 0x130, instance kind DEV, severity W. -/
def XC_TWIN_LOST : Nat := 0x130
/-- Source 0x131, instance kind DEV, severity E. -/
def XC_TWIN_PAIR_REFUSED : Nat := 0x131
/-- Source 0x132, instance kind CTX, severity E. -/
def XC_TWIN_DIVERGED : Nat := 0x132
/-- Source 0x13F, instance kind DEV, severity E. -/
def XC_TWIN_STALL : Nat := 0x13F
/-- Source 0x140, instance kind CHAN, severity E. -/
def FS_CHAN_FAULT : Nat := 0x140
/-- Source 0x141, instance kind CHAN, severity W. -/
def FS_CHAN_DEGRADED : Nat := 0x141
/-- Source 0x142, instance kind CHAN, severity E. -/
def FS_CHAN_RETIRED : Nat := 0x142
/-- Source 0x143, instance kind CHAN, severity W. -/
def FS_DRAM_HOT : Nat := 0x143
/-- Source 0x14F, instance kind DEV, severity E. -/
def FS_CHAN_STALL : Nat := 0x14F
/-- Source 0x150, instance kind DEV, severity E. -/
def FS_POOL_SHORT : Nat := 0x150
/-- Source 0x151, instance kind CHAN, severity I. -/
def FS_BLOCK_RETIRED : Nat := 0x151
/-- Source 0x152, instance kind DEV, severity E. -/
def FS_RESERVE_EMPTY : Nat := 0x152
/-- Source 0x153, instance kind CHAN, severity E. -/
def FS_PROT_UNCORR : Nat := 0x153
/-- Source 0x15F, instance kind DEV, severity E. -/
def FS_ALLOC_STALL : Nat := 0x15F
/-- Source 0x160, instance kind TILE, severity W. -/
def PT_SPARE_IN : Nat := 0x160
/-- Source 0x161, instance kind TILE, severity E. -/
def PT_NO_SPARE : Nat := 0x161
/-- Source 0x16F, instance kind DEV, severity E. -/
def PT_STALL : Nat := 0x16F
/-- Source 0x170, instance kind ENG, severity W. -/
def CMP_LAYER_NOT_READY : Nat := 0x170
/-- Source 0x171, instance kind ENG, severity W. -/
def CMP_LAYER_LINEBUF : Nat := 0x171
/-- Source 0x172, instance kind ENG, severity W. -/
def CMP_LAYER_GEOMETRY : Nat := 0x172
/-- Source 0x173, instance kind ENG, severity W. -/
def CMP_SURFACE_LOST : Nat := 0x173
/-- Source 0x174, instance kind DEV, severity W. -/
def CMP_VENEER_LOST : Nat := 0x174
/-- Source 0x175, instance kind ENG, severity E. -/
def CMP_ENGINE_FAIL : Nat := 0x175
/-- Source 0x17F, instance kind DEV, severity E. -/
def CMP_STALL : Nat := 0x17F
/-- Source 0x180, instance kind CH, severity W. -/
def AUD_UNDERRUN : Nat := 0x180
/-- Source 0x181, instance kind CH, severity I. -/
def AUD_RECENTRE : Nat := 0x181
/-- Source 0x182, instance kind REC, severity W. -/
def AUD_FOLLOW_UNMAPPED : Nat := 0x182
/-- Source 0x183, instance kind REC, severity E. -/
def AUD_DELAY_LOST : Nat := 0x183
/-- Source 0x18F, instance kind DEV, severity E. -/
def AUD_STALL : Nat := 0x18F

/-- The named sources in ascending order, each with its instance kind (0 DEV, 1 LANE, 2 PORT, 3 CTX, 4 CHAN, 5 TILE, 6 ENG,
7 REC, 8 CH, 9 REF, 10 DPLL, 11 GROUP, 12 PLANE, 13 SLOT) and its default severity (0 INFO, 1 WARN, 2 ERROR, 3 FATAL). -/
def table : List (Nat × Nat × Nat) :=
  [(0x000, 0, 3), (0x001, 0, 2), (0x002, 0, 0), (0x00F, 0, 2), (0x010, 0, 3), (0x011, 0, 2), (0x012, 0, 1), (0x01F, 0, 2), (0x020, 0, 3), (0x021, 0, 1), (0x022, 0, 3), (0x023, 0, 2), (0x024, 0, 1), (0x02F, 0, 2), (0x030, 0, 2), (0x031, 0, 1), (0x032, 0, 2), (0x033, 0, 3), (0x03F, 0, 2), (0x040, 0, 2)]
  ++ [(0x041, 0, 1), (0x042, 0, 2), (0x043, 0, 3), (0x04F, 0, 2), (0x050, 0, 3), (0x051, 0, 3), (0x052, 0, 1), (0x053, 0, 2), (0x054, 0, 3), (0x05F, 0, 2), (0x060, 0, 2), (0x061, 0, 2), (0x062, 0, 1), (0x063, 0, 3), (0x06F, 0, 2), (0x070, 0, 2), (0x071, 0, 1), (0x072, 0, 2), (0x07F, 0, 2), (0x080, 0, 1)]
  ++ [(0x081, 0, 1), (0x082, 0, 1), (0x083, 0, 0), (0x08F, 0, 2), (0x090, 9, 1), (0x091, 9, 0), (0x092, 9, 0), (0x093, 9, 1), (0x094, 0, 2), (0x095, 10, 0), (0x096, 10, 1), (0x097, 10, 2), (0x09F, 0, 2), (0x0A0, 1, 1), (0x0A1, 1, 1), (0x0A2, 1, 0), (0x0AF, 0, 2), (0x0B0, 1, 1), (0x0B1, 1, 1), (0x0B2, 1, 1)]
  ++ [(0x0BF, 0, 2), (0x0C0, 1, 1), (0x0C1, 1, 1), (0x0C2, 1, 2), (0x0C3, 1, 2), (0x0CF, 0, 2), (0x0D0, 2, 1), (0x0D1, 2, 0), (0x0D2, 3, 1), (0x0D3, 2, 0), (0x0DF, 0, 2), (0x0E0, 3, 1), (0x0E1, 3, 1), (0x0E2, 3, 1), (0x0E3, 3, 1), (0x0E4, 0, 2), (0x0EF, 0, 2), (0x0F0, 1, 1), (0x0F1, 1, 1), (0x0F2, 1, 0)]
  ++ [(0x0F3, 11, 2), (0x0FF, 0, 2), (0x100, 11, 2), (0x101, 0, 2), (0x102, 0, 2), (0x103, 0, 2), (0x104, 11, 1), (0x10F, 0, 2), (0x110, 3, 1), (0x111, 13, 2), (0x112, 3, 1), (0x11F, 0, 2), (0x120, 12, 1), (0x121, 12, 0), (0x122, 0, 2), (0x123, 0, 3), (0x12F, 0, 2), (0x130, 0, 1), (0x131, 0, 2), (0x132, 3, 2)]
  ++ [(0x13F, 0, 2), (0x140, 4, 2), (0x141, 4, 1), (0x142, 4, 2), (0x143, 4, 1), (0x14F, 0, 2), (0x150, 0, 2), (0x151, 4, 0), (0x152, 0, 2), (0x153, 4, 2), (0x15F, 0, 2), (0x160, 5, 1), (0x161, 5, 2), (0x16F, 0, 2), (0x170, 6, 1), (0x171, 6, 1), (0x172, 6, 1), (0x173, 6, 1), (0x174, 0, 1), (0x175, 6, 2)]
  ++ [(0x17F, 0, 2), (0x180, 8, 1), (0x181, 8, 0), (0x182, 7, 1), (0x183, 7, 2), (0x18F, 0, 2)]

end Src
end Sys2Proof
end

