-- ==== Sys2Proof/Machine/Entry.lean ====
section
/-! DEFINITION. Looking an entry up in the dictionary tables, the default of every key, and the checks a write must pass. -/

namespace Sys2Proof
namespace Dict

/-- The row of an index and subindex, if the dictionary defines it (R3, R407). -/
def row (ix sub : Nat) : Option Row :=
  match records.find? (fun r => decide (r.1 ≤ ix) && decide (ix < r.1 + r.2.1)) with
  | none => none
  | some r => r.2.2.find? (fun w => decide (w.ix ≤ ix) && decide (ix < w.ix + w.rep) && w.sub == sub)

/-- Bits in one value, or in one DOM element, of an entry. -/
def Row.width (r : Row) : Nat := 8 * (if r.elem = 0 then r.size else r.elem)

/-- DOM elements an entry has; 1 for a value or a whole object. -/
def Row.count (r : Row) : Nat := if r.elem = 0 then 1 else r.size / r.elem

/-- R480: reaction bits [28:22] a source has by default: SAFE, SAFE_SCOPE, IRQ, TRAP, BLKRST, CHIPRST, ERRPIN. -/
def reactionDefault (src sev : Nat) : Nat :=
  if src = 0x042 then 0b0010100
  else if src = 0x043 ∨ src = 0x033 then 0b0011011
  else if src = 0x0C2 then 0b1010000
  else if src = 0x0C3 then 0b0010100
  else if src = 0x123 then 0b1111001
  else if sev = 0 then 0
  else if sev = 3 then 0b0011001
  else 0b0010000

/-- The default SOURCE_CFG element of a source (Table 17.9, R480): ENABLE 1 with its severity and reactions; 0 where the
source is reserved (R475). -/
def sourceDefault (src : Nat) : Nat :=
  match Src.table.find? (fun t => t.1 == src) with
  | none => 0
  | some t => 2 ^ 31 + t.2.2 * 2 ^ 29 + reactionDefault src t.2.2 * 2 ^ 22

/-- The LUT a slot holds by default: built in for slots 0–7, the contents of slot 0 for slots 8–15 (Tables 10.3, 10.9). -/
def lutDefault (k : Nat) : Nat := Config.builtInLut (if k < 8 then k else 0)

/-- The default of a key whose entry does not default to one value for every element, or one of whose fields resets to a value
of its own (RANK, Table 07.18; TILE, Table 03.18; CURRENT and PENDING, Table 14.13). -/
def specialDefault (k : Key) : Option Nat :=
  if k.ix = 0x0410 ∧ k.sub = 1 then some (sourceDefault k.el)
  else if k.ix = 0x0710 ∧ k.sub = 1 ∧ k.el = 132 then some (2 ^ 63 + 0x70A000007D02710)
  else if k.ix = 0x0720 ∧ k.sub = 2 then some (0xFF * 2 ^ 117 + 0xFF * 2 ^ 109)
  else if k.ix = 0x0B10 ∧ k.sub = 4 then some (0xF * 2 ^ 54)
  else if k.ix = 0x0C11 ∧ k.sub = 1 then some 0xFF00
  else if k.ix = 0x0E10 ∧ k.sub = 3 then some (Config.factoryDelaySet k.el)
  else if 0x0F20 ≤ k.ix ∧ k.ix < 0x0F30 ∧ k.sub = 1 then some (lutDefault (k.ix - 0x0F20))
  else none

/-- The default of a key: what it reads while nothing is stored there. Keys the dictionary does not define read 0. -/
def dflt (k : Key) : Nat :=
  match specialDefault k with
  | some v => v
  | none =>
    match row k.ix k.sub with
    | some r => r.dflt
    | none => 0

/-- Does a value lie in one of the intervals? -/
def inAny (v : Nat) (l : List (Nat × Nat)) : Bool := l.any (fun p => decide (p.1 ≤ v) && decide (v ≤ p.2))

/-- One step of reading UTF-8: how many continuation bytes are still due, and the least and greatest value of the next (the byte after
the first is narrower where a longer form than needed, a surrogate or a number above 0x10FFFF would follow); none where the octets
are no UTF-8. -/
def utf8Step (st : Option (Nat × Nat × Nat)) (b : Nat) : Option (Nat × Nat × Nat) :=
  match st with
  | none => none
  | some (0, _, _) =>
    if b < 0x80 then some (0, 0, 0)
    else if 0xC2 ≤ b ∧ b < 0xE0 then some (1, 0x80, 0xBF)
    else if 0xE0 ≤ b ∧ b < 0xF0 then some (2, if b = 0xE0 then 0xA0 else 0x80, if b = 0xED then 0x9F else 0xBF)
    else if 0xF0 ≤ b ∧ b < 0xF5 then some (3, if b = 0xF0 then 0x90 else 0x80, if b = 0xF4 then 0x8F else 0xBF)
    else none
  | some (n + 1, lo, hi) => if lo ≤ b ∧ b ≤ hi then some (n, 0x80, 0xBF) else none

/-- Is an n-byte value UTF-8 padded with 0x00 after the last character (R9)? -/
def isStr (n v : Nat) : Bool :=
  let l := bytesOf n v
  let t := l.dropWhile (· != 0)
  t.all (· == 0) && (match (l.takeWhile (· != 0)).foldl utf8Step (some (0, 0, 0)) with | some (n, _, _) => n == 0 | none => false)

/-- Does one value (or element) satisfy the range and reserved-bit checks of its row (R6)? -/
def Chk.ok (c : Chk) (v : Nat) : Bool :=
  (match c.mask with | none => true | some m => (v &&& m) == v) && c.parts.all (fun p => inAny (bitsOf v p.lo p.w) p.ok)

/-- Does a value have the encoding of its row's type (R9)? Length is checked apart. -/
def Row.typed (r : Row) (v : Nat) : Bool :=
  if r.ty = 1 then decide (v ≤ 1) else if r.ty = 11 then isStr r.size v else true

/-- T80: the nanoseconds of a value of that type must be below 1,000,000,000 (R9). -/
def Row.t80Ok (r : Row) (v : Nat) : Bool := r.ty != 9 || decide (v % 2 ^ 32 < 1000000000)

/-- All rows in ascending index and subindex order, as DIRECTORY lists them (R407). -/
def allRows : List Row := (records.map (fun r => r.2.2)).flatten

/-- One DIRECTORY element (Table 15.1). -/
def directoryElement (r : Row) : Nat :=
  r.ix * 2 ^ 112 + r.sub * 2 ^ 104 + r.ty * 2 ^ 96 + r.acc * 2 ^ 93 + ofBool r.pers * 2 ^ 92 + r.role * 2 ^ 89
    + (if r.ty = 13 then r.elem else 0) * 2 ^ 64 + r.size * 2 ^ 32 + r.rep * 2 ^ 16

end Dict

/-- The key of instance n of a field's entry. -/
def Fld.key (f : Fld) (n : Nat) : Key := if f.rep then ⟨f.ix + n, f.sub, 0⟩ else ⟨f.ix, f.sub, n⟩

/-- A dictionary store: what differs from the defaults. -/
abbrev Store := List (Key × Nat)

/-- The value stored at a key. -/
def Store.get (m : Store) (k : Key) : Nat := Assoc.get m (Dict.dflt k) k

/-- Store a value at a key. -/
def Store.put (m : Store) (k : Key) (v : Nat) : Store := Assoc.put Key.lt m (Dict.dflt k) k v

end Sys2Proof
end

