-- ==== Sys2Proof/Machine/Types.lean ====
section
/-! DEFINITION. The state the device holds beside its dictionary entries, area by area, as plain data. -/

namespace Sys2Proof.Machine

open Sys2Proof

/-! ## What the device sends -/

/-- The pins of a serial audio port over a frame (R359, Table 12.4): the SAP_BCLK periods of the frame from the SAP_FS edge that opens slot 0 on,
SAP_FS and SAP_DOUT in each (the first in the most significant bit), the periods by which the first data bit follows that edge, and whether
data changes on the rising edge of SAP_BCLK. -/
structure SapWave where
  periods : Nat
  fs : Nat
  data : Nat
  late : Nat
  rising : Bool
  deriving DecidableEq, Repr

/-- What a layer shows at a frame boundary (Table 11.1): its engine, DISPLAY, the frame shown (flow layers), the veneer and buffer
(veneer layers), geometry, blend, fill colour, tally and bars in use, the heights of its bars (level and peak mark, by bar, in
hundredths of a decibel above −60 dBFS; none shows the ground only); the lines of a flow layer read poisoned or late, and the spans (line, first
pixel, pixels) of its frame for which no cell came. -/
structure LayerShown where
  engine : Nat
  display : Nat
  frame : Nat
  veneer : Nat
  buffer : Nat
  geometry : Nat
  blend : Nat
  fill : Nat
  tally : Nat
  bars : Nat
  levels : List (Option (Nat × Nat))
  lost : List Nat
  filled : List (Nat × Nat × Nat)
  deriving DecidableEq, Repr

/-- The addressing of a media packet on a leg (R183, R188, R196): port, MAC addresses, VLAN and priority, IP addresses (IPv4 in IPv6-mapped
form), DSCP, TTL or hop limit, UDP ports. -/
structure PktHead where
  port : Nat
  dstMac : Nat
  srcMac : Nat
  vlan : Nat
  pcp : Nat
  src : Nat
  dst : Nat
  dscp : Nat
  ttl : Nat
  udpSrc : Nat
  udpDst : Nat
  deriving DecidableEq, Repr

/-- The RTP header of a media packet: payload type, marker, sequence number (16 bits), timestamp, SSRC. -/
structure RtpHead where
  pt : Nat
  marker : Bool
  seq : Nat
  ts : Nat
  ssrc : Nat
  deriving DecidableEq, Repr

/-- A membership report (R167): the interface, VLAN, source address, MLDv2 or IGMPv3, and its group records: type (1, 2 the current INCLUDE or
EXCLUDE, 3, 4 a change to it, 5 sources allowed, 6 sources blocked), group, sources. -/
structure Report where
  iface : Nat
  vlan : Nat
  src : Nat
  v6 : Bool
  recs : List (Nat × Nat × List Nat)
  deriving DecidableEq, Repr

/-- A PTP message that leaves an interface (R375, R377, R381): MAC address and VLAN, IP addresses (IPv4 in IPv6-mapped form) and UDP ports; messageType,
domain, sequenceId, correctionField (2⁻¹⁶ ns), timestamp, the rest of the UDP payload; whether the UDP checksum is sent as 0. -/
structure PtpOut where
  srcMac : Nat
  vlan : Nat
  src : Nat
  dst : Nat
  udpSrc : Nat
  udpDst : Nat
  kind : Nat
  domain : Nat
  seq : Nat
  corr : Int
  time : Nat
  body : Bytes
  sumZero : Bool
  deriving DecidableEq, Repr

/-- What the device sent during the last command: one value per frame, cell, message, or pin change. -/
inductive Emission where
  /-- an RCP response (R408, R412), and the key and nonce its payload is encrypted with in a session (R410) -/
  | response (via peer port session seq op status : Nat) (payload : Bytes) (closing : Option (Nat × Nat))
  /-- a NOTIFY frame (R424): session, its count, subscription, LOST flag, the items INDEX, SUB, value, and the key and nonce -/
  | notify (session count sub : Nat) (lost : Bool) (items : List (Nat × Nat × Bytes)) (closing : Nat × Nat)
  /-- a cell sent into both planes by an ingress context (R14) -/
  | cell (ctx : Nat) (c : Cell)
  /-- a cell sent over a dowel group (R14) -/
  | dowelCell (group : Nat) (c : Cell)
  /-- a cell an egress context releases to its output (R15) -/
  | release (ctx : Nat) (c : Cell)
  /-- missing content sent in place of a sequence number (Table 04.2) -/
  | missing (ctx seq : Nat)
  /-- a copy of a salvo marker on a lane of a group (R89, Table 03.10) -/
  | marker (group lane block : Nat)
  /-- a message of a class, which leaves in management frames (Table 07.4) -/
  | message (group cls : Nat) (payload : Bytes)
  /-- an item on a dowel lane: LCOUNT and its 284 data characters (Tables 07.2, 07.4) -/
  | item (group lane lcount chars : Nat)
  /-- an item a group delivers in order: a cell with its replay tag (Table 07.3), or the characters of a management frame -/
  | deliveredCell (group : Nat) (c : Cell)
  | deliveredFrame (group chars : Nat)
  /-- a message of a class that has all its segments -/
  | assembled (group cls id : Nat) (payload : Bytes)
  /-- an ordered set of a dowel lane: symbol and data (Table 07.1) -/
  | orderedSet (group lane sym data : Nat)
  /-- K28.5 idle on a dowel lane, with this many skip sets and lane markers in it (R202, R203) -/
  | idleChars (group lane skips marks block : Nat)
  /-- this many training blocks of a dowel lane, 1,024 characters apart, PRBS31 between them (R210) -/
  | training (group lane count block : Nat)
  /-- a frame on CHN_OUT (Table 07.11) -/
  | chain (frame : Nat)
  /-- an Ethernet frame of the management cores on a port: what it is and its fields -/
  | frame (port iface what : Nat) (payload : Bytes)
  /-- a PTP message on an interface (R377, R381) -/
  | ptp (port iface : Nat) (m : PtpOut)
  /-- a membership report on its interface's port (R167) -/
  | report (r : Report)
  /-- a media packet of an egress context: its headers, the payload header of Table 06.4, the media bytes -/
  | packet (ctx : Nat) (net : PktHead) (rtp : RtpHead) (head media : Bytes)
  /-- what an output sends from a frame boundary: 0 source content, 1 BLACK, 2 the held frame. A line of the frame that no `sdiLine`
  carries is the BLACK generator's (Sdi.blackLine) -/
  | sdiFrame (ctx content : Nat)
  /-- the n words of a line that a lane sends, 10 bits each, the first the most significant (R134) -/
  | sdiLine (lane line n words : Nat)
  /-- the state that the active twin copies over group 7 (R122) -/
  | twinCopy (stats : List (Nat × Nat × Nat × Nat)) (copy : TwinCopy)
  /-- these SDI lanes send BLACK from their keepers; every other SDI lane is in electrical idle, and so are the transmit lanes of
  network ports and dowel groups (Table 18.4) -/
  | sdiKeepers (lanes : List Nat)
  /-- a pin of the device changes level -/
  | pin (name : Nat) (level : Nat)
  /-- the matrix words of a destination record at a position (R342) -/
  | samples (record position : Nat) (words : List Nat)
  /-- a frame of a serial audio port: the contents of its slots (R359) -/
  | sapFrame (port : Nat) (slots : List Nat) (wave : SapWave)
  /-- a picture from a composition head: background, palette, the layers from the back forward, and the composed colour (R, G, B,
  10 bits each) at the pixels asked for -/
  | picture (head background palette : Nat) (layers : List LayerShown) (pixels : List (Nat × Nat × Nat))
  /-- data a frame-store port has read: allocation, offset within it, poisoned (R273), the bytes -/
  | memRead (port handle off : Nat) (poison : Bool) (bytes : List Nat)
  /-- a transaction result of the internal bus: master, target, response, data -/
  | busResponse (master target resp data : Nat)
  /-- a write on AVSBus (rail 2, command 0: the target in mV) or PMBus (the address, command, value) -/
  | railWrite (rail cmd value : Nat)
  deriving DecidableEq, Repr

/-- Numbers of the pins that commands drive or sense. -/
def Pin.PPS_OUT : Nat := 0
/-- TIMEPULSE[0]; TIMEPULSE[1] is the next number. -/
def Pin.TIMEPULSE : Nat := 1
def Pin.ERR_N : Nat := 3
def Pin.RST_N : Nat := 4
def Pin.THERM_N : Nat := 5
def Pin.PWR_ALERT_N : Nat := 6
def Pin.CHN_OUT : Nat := 7
/-- SAP_BCLK, SAP_FS and SAP_DOUT of serial port p are these numbers plus p; GPIO n is 16 + n. -/
def Pin.SAP_BCLK : Nat := 64
def Pin.SAP_FS : Nat := 72
def Pin.SAP_DOUT : Nat := 80

/-! ## Sessions and RCP (R408 to R424, R430) -/

/-- A response kept for retransmission (R414). -/
structure Resp where
  seq : Nat
  op : Nat
  status : Nat
  payload : Bytes
  deriving DecidableEq, Repr

/-- A DOM transfer in progress (R413). `data` holds the bytes received so far, or the snapshot a read serves from. -/
structure Transfer where
  write : Bool
  ix : Nat
  sub : Nat
  start : Nat
  next : Nat
  data : Nat
  total : Nat
  seenAt : Nat
  deriving DecidableEq, Repr

/-- A subscription (R423): its range and interval, what its entries held when it was last sent, and when that was. -/
structure Sub where
  id : Nat
  first : Nat
  last : Nat
  minMs : Nat
  seen : List (Key × Nat)
  /-- when its last frame was put in the queue, and when its last frame left -/
  sentAt : Option Nat
  leftAt : Option Nat
  lost : Bool
  deriving DecidableEq, Repr

/-- A NOTIFY frame waiting to leave (R424): its subscription and the entries it names. -/
structure Note where
  sub : Nat
  items : List (Nat × Nat)
  deriving DecidableEq, Repr

/-- An open session (R414, R417). `groupEnd` says how its last commit group ended: 0 in no way its COMMIT must report,
1 by idle time, 2 by GROUP_ABORT (R422). -/
structure Session where
  slot : Nat
  id : Nat
  role : Nat
  last : Nat
  held : List (Nat × Instr)
  heldAt : Nat
  cache : List Resp
  xfer : Option Transfer
  xferDead : Bool
  subs : List Sub
  queue : List Note
  count : Nat
  reqAt : Nat
  via : Nat
  peer : Nat
  port : Nat
  /-- the two session keys, K of R447 -/
  key : Nat
  groupEnd : Nat
  deriving DecidableEq, Repr

/-- The commit group (R419, R420): its holder, the staged values, and when it was last written. -/
structure Group where
  holder : Nat
  staged : Store
  seenAt : Nat
  deriving DecidableEq, Repr

/-- The management network values in effect (R430): the RCP port, the two MG_CFG elements, INBAND_IF. -/
structure MgNet where
  port : Nat
  mg0 : Nat
  mg1 : Nat
  inband : Nat
  deriving DecidableEq, Repr

/-- An OPEN exchange in progress (R446, R447): its OPEN_ID and client; `stage` 0 HELLO, 1 CHALLENGE, with the bytes received so far;
`draw` names its key pair. -/
structure OpenEx where
  id : Nat
  via : Nat
  peer : Nat
  port : Nat
  stage : Nat
  hello : Nat
  helloLen : Nat
  helloTotal : Nat
  challenge : Nat
  draw : Nat
  resp : Nat
  respLen : Nat
  respTotal : Nat
  seenAt : Nat
  deriving DecidableEq, Repr

/-- The RCP endpoint. `waiting` holds the MODE values accepted and not yet in effect (R428): index and value. -/
structure RcpSt where
  sessions : List Session := []
  group : Option Group := none
  opens : List OpenEx := []
  waiting : List (Nat × Nat) := []
  inUse : MgNet
  /-- a committed change that is not yet in effect, and when it takes effect (R430) -/
  next : Option (MgNet × Nat) := none
  /-- the values before a change under test, and when the test ends (R430) -/
  test : Option (MgNet × Nat) := none
  /-- SESSION 0 frames answered on each port since the second began: port, when it began, how many (R418) -/
  anon : List (Nat × Nat × Nat) := []
  /-- the transfer in progress of SESSION 0, and whether one has ended by a gap (R413, R418) -/
  anonXfer : Option Transfer := none
  anonDead : Bool := false
  /-- the speed a management port tries with SPEED AUTO, and since when (R429) -/
  tries : NMap (Nat × Nat) := []
  /-- the request being run waited, or was held: its frame has been counted when it came (the model's own field) -/
  retake : Bool := false
  deriving DecidableEq, Repr

/-! ## The journal and the settings in flash (R425 to R427, R432) -/

/-- A journal record (Table 15.6): KIND 1 DATA, 2 COMMIT, 3 SINGLE. -/
structure JRec where
  kind : Nat
  gen : Nat
  group : Nat
  items : Store
  deriving DecidableEq, Repr

/-- A settings copy (Table 16.16): FORMAT of the image that wrote it, the GENERATION of the last record included, the values. -/
structure Settings where
  valid : Bool := false
  format : Nat := 0
  gen : Nat := 0
  vals : Store := []
  deriving DecidableEq, Repr

/-- A copy of the network identity record (Table 15.10). -/
structure NetId where
  valid : Bool
  gen : Nat
  frameId : Nat
  net : MgNet
  deriving DecidableEq, Repr

/-- What the flash holds for the dictionary: the journal's records (oldest first) and the bytes they fill in the ring, the two
settings copies of each area (copy k of slot s at 2s + k; R463), the two network identity copies. -/
structure Flash where
  journal : List JRec := []
  used : Nat := 0
  gen : Nat := 0
  settings : NMap Settings := []
  netId0 : NetId
  netId1 : NetId
  deriving DecidableEq, Repr

/-! ## Faults waiting to be latched (R475, R476) -/

/-- A raising event FLT has not latched yet: source, instance, whether it is a lasting condition. -/
structure Raise where
  src : Nat
  inst : Nat
  lasting : Bool
  deriving DecidableEq, Repr

/-! ## Resets (R492 to R497) -/

/-- A reset: its reach (0 POR, 1 COLD, 2 WARM, 3 DOMAIN, 4 BLOCK), source code (Table 18.3), detail, the domain or the
kind of block it covers with the block's number, when it was requested (device time), when it asserted and until when its source
holds it (model clock). -/
structure Reset where
  reach : Nat
  src : Nat
  detail : Nat
  dom : Nat
  inst : Nat
  time : Nat
  at_ : Nat
  till : Nat
  deriving DecidableEq, Repr

/-- The reset controller. `asserted` are the resets in force, `entering` the requests in their entry delay (`at_` is then the time
of the request). Times are on the model's clock. -/
structure RstSt where
  asserted : List Reset := []
  entering : List Reset := []
  /-- the device drives RST_N low; the drive's end, none while the reset it belongs to stands (R498) -/
  rstnDrive : Bool := false
  rstnUntil : Option Nat := none
  /-- a fuse and trim load runs, and when it began (R501) -/
  loading : Bool := false
  loadAt : Nat := 0
  /-- when the last POR, COLD or WARM was released, and the source of the reset the present start-up follows -/
  endedAt : Nat := 0
  lastSrc : Nat := 0
  /-- watchdog expiries: domain and time (Table 18.3, source 0x07) -/
  watchdogs : List (Nat × Nat) := []
  /-- SDI lanes whose keepers send BLACK through a WARM (Table 18.4) -/
  keep : List Nat := []
  /-- recovery start-up is running (R471), and RECOVER asks for it at the next start-up -/
  recovery : Bool := false
  recoverNext : Bool := false
  deriving DecidableEq, Repr

/-! ## Flows and merges (chapters 02 and 04) -/

/-- A copy of a cell that a plane has delivered to a merge (R102): the plane, whether it was standby then, whether both CRCs
were right, the cell, whether its merge window is still open, and when it was delivered (model clock). -/
structure Copy where
  plane : Nat
  stand : Bool
  good : Bool
  cell : Cell
  window : Bool
  at_ : Nat
  deriving DecidableEq, Repr

/-- What a merge holds for one sequence number until its release time: the copies delivered, which plane's copy is kept, whether
the pair has been compared (R108), whether its merge window has ended, and whether the kept copy has been counted in USED (Table 04.1). -/
structure Slot where
  seq : Nat
  itime : Nat
  copies : List Copy
  kept : Option (Nat × Cell)
  compared : Bool
  ended : Bool
  used : Bool
  deriving DecidableEq, Repr

/-- The merge state of one source of an egress context (R58): its flow number, the cell type learned for it (R47; 0 none),
its anchor's ITIME, the sequence numbers held, and the last one released. -/
structure Merge where
  efn : Nat
  type : Nat
  anchor : Option Nat
  slots : List Slot
  released : Option Nat
  deriving DecidableEq, Repr

/-- A line of a source on its way through an SDI output: its number and its words in the interleaved stream, none where no source word
came (R140). Line 0 marks the place at which the source's switching line begins (R73). -/
structure SdiLine where
  line : Nat
  words : List (Option Nat)
  deriving DecidableEq, Repr

/-- What an SDI output holds of one source's stream (R52, R134, R148). -/
structure SdiBuf where
  /-- word alignment is held (R52) -/
  aligned : Bool := false
  /-- the last bits received while it is not, and the bits of a word begun: how many, and their value -/
  tail : Nat × Nat := (0, 0)
  carry : Nat × Nat := (0, 0)
  /-- bits of the last cell that lie before the alignment it found, and the bit of its frame that the first after them is -/
  skip : Nat := 0
  pos : Nat := 0
  /-- sequence number of the last cell -/
  seq : Option Nat := none
  /-- the line in progress (0 none) and the words of it that came, each run with its place -/
  line : Nat := 0
  spans : List (Nat × List Nat) := []
  /-- whole lines that wait to be sent -/
  lines : List SdiLine := []
  /-- the output's frame boundary has come and the source's switching line has not -/
  owed : Bool := false
  /-- the frame has begun without this source: its words count from its next switching line on -/
  mute : Bool := false
  deriving DecidableEq, Repr

/-- What a flow context holds beside its record. -/
structure FlowSt where
  /-- a stop waits for STARTING to end (Table 02.7) -/
  stop : Bool := false
  /-- when STATE was entered -/
  since : Nat := 0
  /-- the values STARTING took up, whose change restarts the context (Table 02.7, R189, R308) -/
  conf : List Nat := []
  /-- ingress: the run has begun (R62), the ITIME of its last cell, the SEQ at which the present stretch of an SDI stream
  began (none while the stream is ended or frozen, R139) -/
  begun : Bool := false
  lastItime : Option Nat := none
  base : Option Nat := none
  /-- ingress: the bytes of the frame that the cells so far carry (R53); a cell is in progress and may still leave in STOPPING (R60) -/
  off : Nat := 0
  last : Bool := false
  /-- device time of the last SWITCH_POINT cell's ITIME (R75) -/
  lastSwitch : Option Nat := none
  /-- when a cell was last emitted or released -/
  movedAt : Nat := 0
  /-- ingress: media bytes the burst allowance still admits, in 1/9,000 byte, and when it was last reckoned (R178) -/
  burst : Nat := 147456000
  burstAt : Nat := 0
  /-- egress: the source whose cells are released, the pending source (R58) -/
  cur : Option Merge := none
  pend : Option Merge := none
  /-- when a cell of the current source was last kept (R106) -/
  keptAt : Nat := 0
  /-- an SDI output's buffers for its current and its pending source (R52, R148) -/
  sdi : SdiBuf := {}
  sdiNext : SdiBuf := {}
  /-- why the output is in safe state: bit 0 no cells, 1 disconnected, 2 in doubt, 3 rebuild, 5 not timed (R106, R149) -/
  safe : Nat := 0
  /-- device time of the output's last frame boundary (R73) -/
  boundary : Option Nat := none
  /-- the output has been timed since its last application instant (R149), or sends BLACK until its source's next frame start, a TIMED
  one until it is timed (R83) -/
  timed : Bool := false
  waitTimed : Bool := false
  /-- the playout delay a commit replaced, in force until the next frame boundary (R72) -/
  oldDelay : Option Nat := none
  deriving DecidableEq, Repr

/-- What is known of a flow that another member originates (R47, R70, R222): its record as its member tells it, PATH included. -/
structure Remote where
  kind : Nat
  type : Nat
  format : Nat
  mbps : Nat
  fill : Nat
  path : Nat
  deriving DecidableEq, Repr

/-! ## Planes (chapter 04) -/

/-- What a plane holds beside its record: its bad copies while the other plane's were valid (times, R109), its charged
mismatches (times), when its present state began, when its buffer last had a corrected error, a copy of it a CRC error, a mismatch was
charged to it. -/
structure PlaneSt where
  bad : List Nat := []
  mism : List Nat := []
  since : Nat := 0
  eccAt : Option Nat := none
  crcAt : Option Nat := none
  mismAt : Option Nat := none
  /-- its flow and sequence state (R112), in words of 8 bytes: see Dev.tablePut -/
  table : NMap Nat := []
  /-- the join instant (64-bit device time), after which its missing copies count (R113) -/
  join : Option Nat := none
  /-- during a rebuild: how BIST ended (R115) -/
  bist : Option Bool := none
  deriving DecidableEq, Repr

/-! ## Twins (chapter 04) -/

/-- What the pair holds beside its entries: when the present state began, when a frame last came from the twin, when a pairing
block and the leg anchors were last sent (model clock); RESET_SINCE_PAIRED (R119); this device's last signature of each output: the
source its frame had, the frame boundary, the CRC (R123), and the twin's that waits for its counterpart. -/
structure TwinSt where
  since : Nat := 0
  heardAt : Nat := 0
  sentAt : Option Nat := none
  resetSince : Bool := false
  anchorAt : Nat := 0
  sigs : NMap (Nat × Nat × Nat) := []
  theirs : NMap (Nat × Nat × Nat) := []
  deriving DecidableEq, Repr

/-! ## SDI ports (chapter 05) -/

/-- What a receive lane holds beside its elements: when it locked or its format last changed while no result has been written
(R138), whether its SDI_RX_FORMAT condition stands; for a group's first lane, by how many ns the latest link follows it (R136). -/
structure SdiRxSt where
  changedAt : Option Nat := none
  wrong : Bool := false
  lag : Nat := 0
  deriving DecidableEq, Repr

/-- What an output holds for HOLD (R151 to R153): when the present HOLD began, whether HOLD_MAX_S has passed, whether the frame in
progress holds a substituted word, and the half being written. The rest is an SDI output's transmitter (R142 to R146). -/
structure HoldSt where
  heldSince : Option Nat := none
  expired : Bool := false
  /-- the want of a held frame has been reported in this HOLD -/
  empty : Bool := false
  dirty : Bool := false
  half : Bool := false
  /-- the lines of the frame in progress that hold no substituted word, and those of the held frame: line, and the words of each link
  as one value -/
  write : List (Nat × List Nat) := []
  held : List (Nat × List Nat) := []
  /-- the last line sent: its number, and for each link the CRCs so far of its streams and whether an active word changed -/
  prev : Option (Nat × List (List Nat × Bool)) := none
  /-- the source's payload identifier was seen in this frame, in the one before -/
  pidNow : Bool := false
  pidLast : Bool := false
  /-- audio data packets sent -/
  blocks : Nat := 0
  /-- the timecode label of the frame in progress, and of the one that begins at the boundary (R144) -/
  ltc : Nat := 0
  ltcNext : Nat := 0
  /-- the boundary and the source of the frame in progress, and the boundary that the next one begins at -/
  frameAt : Option Nat := none
  frameSrc : Option Nat := none
  frameNext : Option Nat := none
  /-- the signature of the frame so far, and how many of its lines it covers (R123) -/
  sig : Nat := 0xFFFFFFFF
  sigLines : Nat := 0
  /-- the rate follower (R146): ITIME of the last switching line, the frame period it holds in ns (0 nominal), whether it tracks -/
  switchAt : Option Nat := none
  period : Nat := 0
  tracks : Bool := false
  deriving DecidableEq, Repr

/-! ## Network media (chapter 06) -/

/-- A packet on its way to the depacketiser: sequence number, RTP timestamp, marker, row headers, media, receive time-stamp
(R49, R180), and whether its media header matches (R174). -/
structure Pkt where
  seq : Nat
  ts : Nat
  marker : Bool
  rows : List (Nat × Nat × Nat × Nat)
  media : Bytes
  time : Nat
  ok : Bool
  deriving DecidableEq, Repr

/-- A packet held in the ST 2022-7 merge (R180): when each leg delivered it, its basis (device time), and whether it has been counted in
MISSING_A or MISSING_B. -/
structure HeldPkt where
  pkt : Pkt
  a : Option Nat
  b : Option Nat
  basis : Nat
  counted : Bool
  deriving DecidableEq, Repr

/-- Content under assembly into cells (R174): its RTP timestamp, whether its end has come, the pieces received (byte offset,
bytes, receive time-stamp), the bytes it has so far and those already emitted, the receive time-stamp of the packet that closed it. -/
structure Asm where
  ts : Nat
  closed : Bool
  pieces : List (Nat × Bytes × Nat)
  size : Nat
  sent : Nat
  closedAt : Nat
  deriving DecidableEq, Repr

/-- What a network receive context holds: the next expected sequence number, when a packet was last accepted and when each leg
last delivered (model clock), whether D has been set, the packets in the merge, the last sequence number released from it, the
content under assembly (oldest first), the last audio sample set. -/
structure NetRxSt where
  exp : Option Nat := none
  acceptedAt : Option Nat := none
  legA : Option Nat := none
  legB : Option Nat := none
  skewSet : Bool := false
  held : List HeldPkt := []
  released : Option Nat := none
  asm : List Asm := []
  lastSet : Nat := 0
  /-- a packet that opens a frame has begun the run's content (R62); timestamp and marker of the packet before it -/
  opened : Bool := false
  before : Option (Nat × Bool) := none
  /-- the last sequence number each leg delivered to the merge, and when each leg delivered the packets released last (sequence number,
  by leg A, by leg B), newest first -/
  topA : Option Nat := none
  topB : Option Nat := none
  past : List (Nat × Option Nat × Option Nat) := []
  deriving DecidableEq, Repr

/-- Media waiting to be sent (R183): its RTP timestamp (for an SDI stream, the SEQ its stretch began at), the bytes of it already
sent, the bytes waiting, whether its end is among them, the span of filled bytes, where each cell's bytes begin with their ITIME,
the stream bits at which SDI frames end. -/
structure TxFrame where
  ts : Nat
  sent : Nat
  wait : Bytes
  closed : Bool
  fillAt : Nat
  fillEnd : Nat
  marks : List (Nat × Nat)
  ends : List Nat
  /-- bytes of BLACK words that follow `wait` and are yet to be made (R190); the bit of its SDI frame that the stretch begins at -/
  gen : Nat := 0
  org : Nat := 0
  deriving DecidableEq, Repr

/-- The resolution of a leg's next hop (R166): its MAC address (none: unresolved), failed attempts, when one was last made (model clock). -/
structure Hop where
  mac : Option Nat := none
  fails : Nat := 0
  triedAt : Option Nat := none
  deriving DecidableEq, Repr

/-- What a network transmit context holds: the next RTP sequence number (32 bits) and, for audio, the timestamp after the last
packet; media waiting (oldest first); the bytes of the frame being collected for HOLD, for audio the last sample set; the held
frame; when a packet was last due out, and when one last left (model clock); each leg's resolution; how far the numbering steps at the next frame start, and the twin's anchor (timestamp and number) of a frame still to start
(R124); the timestamp and first number of each of the last frames, newest first. -/
structure NetTxSt where
  seq : Nat := 0
  ts : Nat := 0
  frames : List TxFrame := []
  collect : Bytes := ⟨0, 0⟩
  heldFrame : Bytes := ⟨0, 0⟩
  leftAt : Option Nat := none
  goneAt : Option Nat := none
  hopA : Hop := {}
  hopB : Hop := {}
  /-- frames begun, for the frame count of the media header of ST 2022-6 -/
  count : Nat := 0
  step : Nat := 0
  twin : Option (Nat × Nat) := none
  anchors : List (Nat × Nat) := []
  /-- the next packet begins a frame -/
  fresh : Bool := true
  /-- after a missing sequence number of a compressed or ancillary stream: wait for the next SOF cell (Table 06.5) -/
  skip : Bool := false
  deriving DecidableEq, Repr

/-- What a port holds: control frames handed to the management cores in the second that began at `ctrlAt`. -/
structure NetPortSt where
  ctrlAt : Nat := 0
  ctrl : Nat := 0
  /-- failed trainings in a row with a signal detected (Table 08.3) -/
  fails : Nat := 0
  deriving DecidableEq, Repr

/-- A group record of a membership report (R167): group address, EXCLUDE with no source or INCLUDE with a list. -/
structure GroupRec where
  group : Nat
  exclude : Bool
  sources : List Nat
  deriving DecidableEq, Repr

/-- What an interface last reported (R167): its memberships, and the VLAN and IPv4 address it had. -/
structure Reported where
  groups : List GroupRec := []
  vlan : Nat := 0
  v4 : Nat := 0
  deriving DecidableEq, Repr

/-- A frame that waits for the management cores' answer (R165): port, interface, what it is (NetFrame.what), addresses, data. -/
structure CtrlIn where
  port : Nat
  iface : Nat
  what : Nat
  dst : Nat
  src : Nat
  data : Bytes
  deriving DecidableEq, Repr

/-- A query to answer (R167): interface, when, MLD or IGMP, the group asked for (0 general). -/
structure Query where
  iface : Nat
  at_ : Nat
  v6 : Bool
  group : Nat
  deriving DecidableEq, Repr

/-- The management cores' network state: frames waiting for an answer, what each interface has reported, repeats due (how many are left,
when, the report), queries to answer. -/
structure CtrlSt where
  waiting : List CtrlIn := []
  reported : NMap Reported := []
  repeats : List (Nat × Nat × Report) := []
  queries : List Query := []
  deriving DecidableEq, Repr

/-! ## The knot map and ring-log events (chapter 19) -/

/-- A knot entry (Table 19.3). -/
structure Knot where
  kind : Nat
  action : Nat
  inst : Nat
  spare : Nat
  cause : Nat
  field : Bool
  time : Nat
  detail : Nat
  deriving DecidableEq, Repr

/-- The knot map: its entries, the two flash copies (generation and entries; none where invalid), and whether an entry waits for a
copy. -/
structure KnotSt where
  entries : List Knot := []
  copy0 : Option (Nat × List Knot) := some (0, [])
  copy1 : Option (Nat × List Knot) := none
  dirty : Bool := false
  /-- the factory delay sets are the nominal ones of ROM (R524) -/
  nominal : Bool := false
  deriving DecidableEq, Repr

/-- An event that waits for its event record (R536): kind, time, DATA (16 bytes). -/
structure EventRec where
  kind : Nat
  time : Nat
  data : Nat
  deriving DecidableEq, Repr

/-! ## Faults (chapter 17) -/

/-- The fault collector's own state: the sources whose SAFE reaction forces outputs, each with its instance (R481, R483); the
instances of each lasting condition that stands (R476); BLKRST requests performed, by target kind, instance and time (R484); when
ERR_N fell (R487). -/
structure FltSt where
  holding : List (Nat × Nat) := []
  active : List (Nat × Nat) := []
  blk : List (Nat × Nat × Nat) := []
  errnAt : Nat := 0
  errnLow : Bool := false
  /-- when a reload of SOURCE_CFG began, after a parity error (R485) -/
  reloadAt : Option Nat := none
  /-- interrupts raised: IRQ and TRAP (Table 17.2) -/
  irq : Nat := 0
  trap : Nat := 0
  /-- the beacon period in which the first member of the summary appeared (R488) -/
  period : Nat := 0
  deriving DecidableEq, Repr

/-! ## The frame store (chapter 09) -/

/-- What the committed configuration asks of the allocator: class and owner (Tables 09.2, 09.15), a tag that tells an owner's
allocations of one class apart, the blocks, the least size a shrink leaves, the ledger rate in Mbit/s. -/
structure Want where
  cls : Nat
  owner : Nat
  tag : Nat
  full : Nat
  min : Nat
  rate : Nat
  deriving DecidableEq, Repr

/-- An allocation (R255): what was asked, the physical block of each logical block (none where unmapped), and the logical
blocks marked LOST, each with the byte ranges its owner has written again (R269). -/
structure Alloc where
  want : Want
  blocks : List (Option Nat)
  lost : List (Nat × List (Nat × Nat))
  deriving DecidableEq, Repr

/-- A relocation copy in progress (R270): the handle, the logical block, the new physical block, whether the old block is
withdrawn from the pool at the end (R274). -/
structure Copying where
  handle : Nat
  logical : Nat
  target : Nat
  withdraw : Bool
  deriving DecidableEq, Repr

/-- What a channel holds beside its elements: entries to FAILED, recent uncorrectable errors (times); corrected errors in the
present second and clean seconds in a row (R268); what an evacuation leads to (1 RETRAIN, 2 RETIRE); the delay sets tried in
this training and the set that last passed (R266); when its last request was served and whether self-refresh entry has begun
(R262); entry to training is a RESTORE. -/
structure ChanSt where
  failedAt : List Nat := []
  uncorrAt : List Nat := []
  second : Nat := 0
  corr : Nat := 0
  clean : Nat := 0
  evac : Nat := 0
  tried : List Nat := []
  passed : Option Nat := none
  idleAt : Nat := 0
  entering : Bool := false
  sreAt : Nat := 0
  /-- defective rows on record: block × 1,024 + row within the block (R274, R275) -/
  defects : List Nat := []
  restore : Bool := false
  hot : Bool := false
  /-- read and write delays against the set in use, in steps (R267), and when they were last moved -/
  shift : Int × Int := (0, 0)
  shiftAt : Nat := 0
  /-- up to when refresh has been issued (R261; model clock) -/
  refreshed : Nat := 0
  /-- command slots port 10, port 11, and ports 8 and 9 together have waited for with requests ready (R259) -/
  starve : List Nat := [0, 0, 0]
  deriving DecidableEq, Repr

/-- A request waiting at a channel controller (R258): channel, port, allocation, logical block, offset, bytes, whether it writes
and what, when it arrived, how often it was passed, whether its deadline has been missed. -/
structure MemReq where
  chan : Nat
  port : Nat
  handle : Nat
  logical : Nat
  off : Nat
  len : Nat
  write : Bool
  data : Nat
  since : Nat
  passed : Nat
  missed : Bool
  deriving DecidableEq, Repr

/-- The frame store: allocations by handle; blocks withdrawn as defective; reserve blocks standing in (reserve block, the
block it replaces); copies in progress; HOST_LIST; requests waiting; the open row of each bank (bank key, row). -/
structure StoreSt where
  alloc : NMap Alloc := []
  withdrawn : List Nat := []
  subs : List (Nat × Nat) := []
  copying : List Copying := []
  hostList : List Nat := []
  reqs : List MemReq := []
  openRow : NMap Nat := []
  /-- corrected errors of protected rows: row key and time (R276) -/
  corrected : List (Nat × Nat) := []
  deriving DecidableEq, Repr

/-- A time-shift pool (R277): the cells recorded and not yet overwritten, oldest first; the number of the first of them since
recording began; their cell type; the number of the next cell each PLAYBACK context is to emit; the plane reservation of the flow
recorded (Table 02.5). -/
structure PoolSt where
  cells : List Cell := []
  first : Nat := 0
  type : Nat := 0
  next : List (Nat × Nat) := []
  mbps : Nat := 0
  deriving DecidableEq, Repr

/-! ## Device time (chapter 13) -/

/-- A changeover asked for (R368): a step of `value` ns or a rate change to `value`, when it was asked for, and the SERVO_CMD
response it owes (session, sequence number, operation). -/
structure Change where
  step : Bool
  value : Int
  at_ : Nat
  owes : Option (Nat × Nat × Nat)
  deriving DecidableEq, Repr

/-- A foreign leader (R376): the interface it is heard on, its last Announce, the times of its last four, whether it is
qualified. -/
structure Leader where
  iface : Nat
  ann : Announce
  times : List Nat
  qualified : Bool
  deriving DecidableEq, Repr

/-- A time output (R383, R384): the device time up to which its edges have been considered, the first edge the present sequence
may have, when the pulse in progress ends (model clock), the inactive level of its pin. -/
structure PulseSt where
  seen : Nat := 0
  from_ : Nat := 0
  high : Option Nat := none
  rest : Nat := 0
  deriving DecidableEq, Repr

/-- The servo, the PTP follower and the time outputs. Stamps of an exchange are in 2⁻¹⁶ ns. -/
structure TimeSt where
  /-- SERVO_STATE has been LOCKED since the last POR or COLD (R449) -/
  traced : Bool := false
  change : Option Change := none
  /-- after the holdover limit: RATE is slewed to 0, last moved then -/
  slewAt : Option Nat := none
  /-- consecutive samples within the lock threshold, and beyond ten times it -/
  good : Nat := 0
  bad : Nat := 0
  /-- the present ACQUIRING is an acquisition; the grandmaster last locked to -/
  acquiring : Bool := false
  gmLocked : Nat := 0
  sampleAt : Nat := 0
  holdAt : Nat := 0
  /-- samples not yet taken by the servo: source (0 PTP, 1 1PPS, 2 beacon) and offset -/
  samples : List (Nat × Int) := []
  leaders : List Leader := []
  /-- the followed leader: interface, sender, port -/
  leader : Option (Nat × Nat × Nat) := none
  /-- a two-step Sync that waits for its Follow_Up: sequence, arrival, correction -/
  waiting : Option (Nat × Int × Int) := none
  /-- the last complete Sync: sequence, t1, t2 -/
  sync : Option (Nat × Int × Int) := none
  /-- the requests under way, by interface: sequence, t3; and two-step peer answers: sequence, t2 with correction, t4 -/
  req : NMap (Nat × Int) := []
  peer : NMap (Nat × Int × Int) := []
  reqAt : Nat := 0
  reqSeq : Nat := 0
  /-- the UTC day on which a leap flag was last set, and the offset the leader gives while valid -/
  leapDay : Option Nat := none
  utc : Option Nat := none
  outs : NMap PulseSt := []
  deriving DecidableEq, Repr

/-! ## References and DPLLs (chapter 14) -/

/-- What a reference holds beside its elements: its last phase event (model clock), how many events have come, misplaced events
in a row, glitches (times), when the hold-off began, the device time of its last frame phase, its measured frequency (ppb
against REF_LO). -/
structure RefSt where
  last : Option Nat := none
  count : Nat := 0
  bad : Nat := 0
  glitches : List Nat := []
  holdAt : Nat := 0
  frameAt : Option Nat := none
  meas : Option Int := none
  deriving DecidableEq, Repr

/-- What a DPLL holds: its output phase (ns of its frame references after the grid of device time) while it follows nothing, the
phase it gives a reference without frame phase, whether it has locked since DISABLED, whether its phase is being pulled in, a
phase move (kind 0 switch, 1 PHASE_STEP, 2 CLEAR_BUILDOUT; ns; since when), its frequency in 0.1 ppb, what it was in LOCKED
each 100 ms (newest first), when its state began, where the target stood then, its phase error at lock, the frequency that a holdover holds,
the part of a nanosecond by which its phase has run on against device time (over 100 × 2^52). -/
structure DpllSt where
  phase : Int := 0
  base : Int := 0
  everLocked : Bool := false
  pull : Bool := false
  move : Option (Nat × Int × Nat) := none
  freq : Int := 0
  hist : List Int := []
  since : Nat := 0
  count : Nat := 0
  grid : Nat := 0
  err : Nat := 0
  hold : Int := 0
  part : Int := 0
  deriving DecidableEq, Repr

/-! ## Processing tiles (chapter 10) -/

/-- An ancillary space with packets, as it arrived: link, data stream and line, the word of the stream's line it begins at, its words. -/
structure AncSpace where
  link : Nat
  stream : Nat
  line : Nat
  first : Nat
  words : List Nat
  deriving DecidableEq, Repr

/-- An ancillary packet that arrived on a line: its words from the flag on. -/
structure AncPkt where
  line : Nat
  words : List Nat
  deriving DecidableEq, Repr

/-- What a tile holds of a frame: its timecode label (R294), the ancillary spaces that hold packets, the packets in arrival order; runs of bits of
its picture (the first bit, how many, their value), and how far the bytes of a VID frame have come. -/
structure FrameAnc where
  tc : Option Nat := none
  spaces : List AncSpace := []
  pkts : List AncPkt := []
  pic : List (Nat × Nat × Nat) := []
  upTo : Nat := 0
  deriving DecidableEq, Repr

/-- A frame synchroniser: frames completed, in half frames, and how many were when it last read; whether the present input frame
has lost nothing; when the input last delivered a cell (model clock); whether it acts by LOSS; whether a released allocation
waits for its first frame; whether the step to a short allocation has been counted; the ITIME of the next SWITCH_POINT cell
(R296); when the newest frame was complete and when the last output frame started (device time); the ancillary content of the input frame
in progress, of the frames complete (newest first), and of the frame read last (R293, R298). -/
structure FsSt where
  done2 : Nat := 0
  seen : Nat := 0
  whole : Bool := true
  inAt : Nat := 0
  lossy : Bool := false
  waits : Bool := false
  short : Bool := false
  target : Option Nat := none
  doneAt : Nat := 0
  readAt : Nat := 0
  cur : FrameAnc := {}
  frames : List FrameAnc := []
  shown : FrameAnc := {}
  deriving DecidableEq, Repr

/-- A logical tile: the output a take inserted it for and whether on channel B, its two frame synchronisers, the LUT_SLOT, LUT
CRC and ANC_PASS in use since the last output frame start (R292, R308); of channel A, the newest timecode label read, input frames complete
since the last output frame start of the main and of the ancillary output, the field from which the present output frame was built (R294), the
spaces with packets placed in it, the bytes of the ANC frames coming in and going out. -/
structure TileSt where
  forOutput : Option Nat := none
  insB : Bool := false
  a : FsSt := {}
  b : FsSt := {}
  slot : Nat := 0xFF
  lutCrc : Nat := 0
  anc : Nat := 0
  tc : Option Nat := none
  fresh : Nat := 0
  freshAnc : Nat := 0
  half : Nat := 0
  placed : List AncSpace := []
  ancIn : Bytes := ⟨0, 0⟩
  ancOut : Bytes := ⟨0, 0⟩
  deriving DecidableEq, Repr

/-! ## Composition (chapter 11) -/

/-- A complete frame in a layer store: its number, when it was complete (model clock), the size, crops and pre-decimation it was
made under, the spans (line, first pixel, pixels) for which no cell came. -/
structure LayerFrame where
  no : Nat
  at_ : Nat
  made : Nat
  filled : List (Nat × Nat × Nat)
  deriving DecidableEq, Repr

/-- A layer engine beside its record: the geometry, blend, fill colour and bars in use at the last boundary, the tally in use; when
a committed change was made that waits for its boundary (R328), and whether it waits for a frame (with the boundaries passed
since the first eligible one); tally values waiting; the frames complete and not shown, the frame shown last, repeats in a row;
the source frame being written and those that wait to be completed (what each is made under), how many have been; the FORMAT the layer last took, how
large the samples of its bar channels were in the present frame period, its bars (level and peak mark in hundredths of a decibel above −60 dBFS, time of the mark); whether a
DISCONNECT emptied it. -/
structure LayerSt where
  geometry : Nat := 0
  blend : Nat := 0x00FF0000
  fill : Nat := 0xFF000000
  bars : Nat := 0
  tally : Nat := 0
  changed : Option Nat := none
  frameWait : Option (Nat × Nat) := none
  tallies : List (Nat × Nat) := []
  ready : List LayerFrame := []
  prev : Option LayerFrame := none
  repeats : Nat := 0
  inFrame : Option Nat := none
  due : List Nat := []
  frames : Nat := 0
  format : Nat := 0
  peaks : NMap Nat := []
  levels : NMap (Nat × Nat × Nat) := []
  empty : Bool := false
  deriving DecidableEq, Repr

/-- A head beside its record: background, palette and stacking order in use, when a change of them was committed; the device time of
its last frame boundary, and what its layers show since (R317, R326). -/
structure HeadSt where
  background : Nat := 0xFF000000
  palette : Nat := 0
  zorder : Bool := false
  changed : Option Nat := none
  started : Bool := false
  boundary : Option Nat := none
  stack : List LayerShown := []
  deriving DecidableEq, Repr

/-- A veneer with a flip under way (R330): when it was commanded, the heads that have still to pass their boundary, and those that
have passed. -/
structure FlipSt where
  at_ : Nat
  waiting : List Nat
  deriving DecidableEq, Repr

/-! ## Audio (chapter 12) -/

/-- A source channel (R349, R350): the words written at positions not yet read, the last sample, how many positions in a row
were not written; the place in the AES3 channel-status block and its non-audio bit (ST 2110-31). -/
structure SrcCh where
  words : List (Nat × Nat) := []
  last : Nat := 0
  run : Nat := 0
  cs : Nat := 0
  data : Bool := false
  deriving DecidableEq, Repr

/-- A fade of a destination record (R346, R96): the sources and the delay it leads to, the first position, how many positions. -/
structure Fade where
  sources : List Nat
  delay : Nat
  start : Nat
  len : Nat
  deriving DecidableEq, Repr

/-- A destination record beside its entries: sources and delay in use, the fade that runs, the one that waits, those not begun; the
delay line (position and eight words, newest first); the gain ramp: the amplitudes (× 2^128) it began at, the gains it leads to,
its first position, the changes not begun (first position, GAINS); the words of the last eight positions; the EFN its sources
follow (none while it follows nothing). -/
structure DestSt where
  sources : List Nat := [0xFFFF, 0xFFFF, 0xFFFF, 0xFFFF, 0xFFFF, 0xFFFF, 0xFFFF, 0xFFFF]
  delay : Nat := 0
  fade : Option Fade := none
  waiting : Option Fade := none
  due : List Fade := []
  line : List (Nat × List Nat) := []
  gainFrom : List Int := []
  gainTo : Nat := 0
  gainAt : Nat := 0
  gains : List (Nat × Nat) := []
  hist : List (Nat × List Nat) := []
  deriving DecidableEq, Repr

/-- A bundle: for ARRIVAL, the position and RTP timestamp its run began at (R355); for AUDIO_OUT, the RTP timestamp of the first
sample set not yet sent, how many sets wait, their bytes (R356). -/
structure BundleSt where
  q0 : Int := 0
  r0 : Nat := 0
  rtp : Nat := 0
  sets : Nat := 0
  bytes : Nat := 0
  deriving DecidableEq, Repr

/-- The audio matrix: the current position; source channels, destination records, bundles; where the clocked writer of each lane and
port and the clocked reader of each lane and port stand (R351; none before the first sample), with the fraction of a sample that
an embedder's last line left (one over lines and frames × 1,001 a second). -/
structure AudioSt where
  pos : Nat := 0
  src : NMap SrcCh := []
  dest : NMap DestSt := []
  bundle : NMap BundleSt := []
  laneW : List (Nat × Nat) := []
  laneR : List (Nat × Int × Nat) := []
  portW : List (Nat × Nat) := []
  portR : List (Nat × Int) := []
  /-- samples read for the embedder of a lane in safe content and not yet inserted, oldest first: the words of the channels it embeds (R353) -/
  embed : NMap (List (List Nat)) := []
  deriving DecidableEq, Repr

/-! ## Takes and salvos (chapter 03) -/

/-- A tile that a take inserts (R81): its number, whether a frame synchroniser runs, whether it is a gateway. -/
structure Insert where
  tile : Nat
  sync : Bool
  gateway : Bool
  deriving DecidableEq, Repr

/-- A change accepted for an output and not yet applied: its source as asked for (none: DISCONNECT), the flow the output will carry
(an inserted tile's where there is one), FS_ON_TAKE, TAKE_TIME, the accept time, its salvo (slot, epoch), whether the salvo is
in doubt (R92). `back`: a route of the take record that a restart took up and that applies at the output's first application instant
(R98); `again`: its tile is still to be inserted, once its source is known. -/
structure Pend where
  source : Option Nat
  feed : Option Nat
  fs : Bool
  time : Nat
  accept : Nat
  ins : Option Insert
  slot : Option (Nat × Nat)
  doubt : Bool
  back : Bool
  again : Bool
  deriving DecidableEq, Repr

/-- A take that waits for its twin (R80): output, change, when it was sent, its MSG_ID, the response it owes (session, sequence
number, operation). -/
structure TakeAsk where
  output : Nat
  pend : Pend
  sentAt : Nat
  msg : Nat
  session : Nat
  seq : Nat
  op : Nat
  deriving DecidableEq, Repr

/-- A device's part of an armed salvo (R90): epoch, TAKE_TIME, its elements with their index in the slot, the group it came over
(none: this device arms it), the CARD of its coordinator, the status of its own check and of its twin's (status and index), whether a twin votes with it or is
absent, whether it has voted, the changes prepared, whether it was read back from the log and waits for an answer (R93). -/
structure Part where
  epoch : Nat
  time : Nat
  elems : List (Nat × Nat)
  via : Option Nat
  coord : Nat
  own : Option (Nat × Nat)
  twin : Option (Nat × Nat)
  needTwin : Bool
  absent : Bool
  voted : Bool
  changes : List (Nat × Pend)
  restored : Bool
  deriving DecidableEq, Repr

/-- A salvo slot beside its entries: the part; for the coordinator the members whose pair must vote and those that have voted OK,
the decision made and not yet in the log (commit, RESULT, FAIL_MEMBER, FAIL_INDEX), the response an ABORT owes; when a QUERY was last sent; the
decisions of the last four epochs (epoch, commit, TAKE_TIME); the first application instant of its changes. -/
structure SalvoSt where
  part : Option Part := none
  need : List Nat := []
  got : List Nat := []
  decided : Option (Bool × Nat × Nat × Nat) := none
  owes : Option (Nat × Nat × Nat) := none
  queryAt : Nat := 0
  log : List (Nat × Bool × Nat) := []
  applied : Option Nat := none
  deriving DecidableEq, Repr

/-- The take engine: changes pending (output and change, in the order of their times), takes that wait for the twin,
salvo slots, the outputs whose present entry was taken with FS_ON_TAKE, those whose last change was a DISCONNECT, those that carry a
restored source whose tile is still to be inserted, and the salvo markers heard of late (group, block, when), whose further copies are ignored (R89). -/
structure XpSt where
  pend : List (Nat × Pend) := []
  asks : List TakeAsk := []
  slots : NMap SalvoSt := []
  fs : List Nat := []
  cut : List Nat := []
  unmet : List Nat := []
  heard : List (Nat × Nat × Nat) := []
  /-- the flow-table shadow (R115): the words of the plane tables but the sequence numbers -/
  shadow : NMap Nat := []
  deriving DecidableEq, Repr

/-- A record of the take record log (Table 03.13): KIND, SLOT, EPOCH, GENERATION, TAKE_TIME, elements (Table 03.14), and where it
begins, counted in bytes since the log was first written. -/
structure TRec where
  kind : Nat
  slot : Nat
  epoch : Nat
  gen : Nat
  time : Nat
  elems : List Nat
  pos : Nat
  deriving DecidableEq, Repr

/-- A base copy (Table 03.12): GENERATION, WRITE_TIME, MEMBER, CARD, elements. -/
structure TBase where
  gen : Nat
  time : Nat
  member : Nat
  card : Nat
  elems : List Nat
  deriving DecidableEq, Repr

/-- The take record area in flash (R97): the bytes of the two base copies (no byte: never written), the bytes of the log's records with
where each begins (oldest first), where the next record begins, GENERATION. -/
structure TakeLog where
  base0 : Bytes := ⟨0, 0⟩
  base1 : Bytes := ⟨0, 0⟩
  log : List (Nat × Bytes) := []
  head : Nat := 0
  gen : Nat := 0
  deriving DecidableEq, Repr

/-! ## Dowel groups, lanes and the ensemble (chapters 07 and 08) -/

/-- What a dowel lane sends at a point between items, items apart (R204): an item again, a replay request, a salvo marker, a time beacon
whose TX_TIME is not known yet (Table 07.13 without it and the CRC), a skip set, a lane marker, the lane marker of the lane's present
state. -/
inductive LaneDue where
  | replay (lcount chars : Nat)
  | request (block : Nat)
  | salvo (block : Nat)
  | beacon (v : Nat)
  | skip
  | marker (block : Nat)
  | mark
  deriving DecidableEq, Repr

/-- An item that waits for its group's next lane (R202, R204): a cell, relayed or originated, or the characters of a management frame. -/
inductive ItemDue where
  | cell (relayed : Bool) (c : Cell)
  | frame (body : Nat)
  deriving DecidableEq, Repr

/-- A dowel lane beside its elements: the bring-up step it is at, since when, whether that step's dwell has ended; the offers and
acceptances sent and received (R212); the peer's MAX_STEP; a STEP commanded (R214); the steps at which it has
failed; whether it is its group's spare, whether three failures or a knot entry keep it FAILED, whether LANE_CMD RETRAIN restarted
it; whether it refuses its peer (R215); the training blocks sent at the step, those since ACCEPT was sent and received, the filler errors
of the last dwell (R211); what waits for a point between items, and on the lanes' clock the next such point and when the last skip set
and the last lane marker ended (R203, R204); the last 64 items sent (newest first: LCOUNT, characters); its receive rank (15 none) and the rank it has from a
round on; whether it awaits a replay, the last LCOUNT seen since, when it asked for replays, the replay it serves (LCOUNT, until when); whether a swap waits; code and disparity errors in the present second;
the spare's filler errors of the last whole seconds; whether an unfit spare is in its retraining. -/
structure DwlLaneSt where
  step : Nat := 0
  since : Nat := 0
  dwelt : Bool := false
  offerTx : Bool := false
  offerRx : Bool := false
  acceptTx : Bool := false
  acceptRx : Bool := false
  peerMax : Nat := 0
  allow : Bool := false
  fails : List Nat := []
  spare : Bool := false
  dead : Bool := false
  commanded : Bool := false
  refuse : Bool := false
  blocks : Nat := 0
  more : Nat := 0
  dwellErrs : Nat := 0
  due : List LaneDue := []
  free : Nat := 0
  skipped : Nat := 0
  marked : Nat := 0
  sent : List (Nat × Nat) := []
  rxRank : Nat := 15
  rxNext : Option (Nat × Nat) := none
  await : Bool := false
  peek : Option Nat := none
  reqs : List Nat := []
  serving : Option (Nat × Nat) := none
  swap : Bool := false
  errs : Nat := 0
  filler : List Nat := []
  unfit : Bool := false
  deriving DecidableEq, Repr

/-- A message being assembled (R201): MSG_ID, class, the next segment, the bytes so far, when it began. -/
structure OpenMsg where
  id : Nat
  cls : Nat
  next : Nat
  data : Bytes
  since : Nat
  deriving DecidableEq, Repr

/-- A dowel group beside its elements: the rotation items are sent over (lanes by rank) with the next round and rank, a rotation that
takes its place from a round, the items that wait, from when the next management frame may leave (R205); on receive A, the next round and rank, the items that wait (rank, LCOUNT, characters with the lane;
none lost), ranks whose items are lost from a round on, a change of A; messages being assembled; the beacons sent (BSEQ and T64), the
next BSEQ, when one was last sent and received, the last received (BSEQ and arrival); when its state began. -/
structure DwlGroupSt where
  lanes : List Nat := []
  txRound : Nat := 0
  txRank : Nat := 0
  next : Option (Nat × List Nat) := none
  items : List ItemDue := []
  mgmtAt : Nat := 0
  rxActive : Nat := 0
  rxRound : Nat := 0
  rxRank : Nat := 0
  held : List (Nat × Nat × Option (Nat × Nat)) := []
  gone : List (Nat × Nat) := []
  rxNext : Option (Nat × Nat) := none
  msgs : List OpenMsg := []
  beacons : List (Nat × Nat) := []
  bseq : Nat := 0
  beaconTx : Option Nat := none
  beaconRx : Nat := 0
  echo : Nat × Nat := (0, 0)
  since : Nat := 0
  deriving DecidableEq, Repr

/-- A pair of the path plan (R223): flow, member, colour (below 128 its home is the colour modulo N; from 128 on, 128 + the member it is
sent to first), and whether the member's outputs allow two hops (R71). -/
structure PlanPair where
  efn : Nat
  member : Nat
  colour : Nat
  two : Bool
  deriving DecidableEq, Repr

/-- The ensemble: lanes (9g + l) and groups; the next MSG_ID; the size in effect; the values the position was taken with (position,
SIZE, GEO, FRAME_DIGEST), the last chain frames received that agree (values and how many), when a frame last came, whether its
absence has been reported; the frames sent, when, and the last; the member report: when it was last sent, whether one has come, when
the headstock's first group came up, whether CHAIN_SHORT has been raised, whether the ensemble has been complete; the group each
flow crosses toward a member (R563); the path plan (headstock); what this member last told the others of its groups and outputs, and what
they told it. -/
structure DwlSt where
  lane : NMap DwlLaneSt := []
  group : NMap DwlGroupSt := []
  msg : Nat := 0
  size : Nat := 1
  taken : Option (Nat × Nat × Nat × Nat) := none
  seen : Option ((Nat × Nat × Nat × Nat) × Nat) := none
  chainAt : Nat := 0
  chainLost : Bool := false
  fseq : Nat := 0
  chainTx : Option Nat := none
  lastFrame : Nat := 0
  reportAt : Option Nat := none
  reported : Bool := false
  upAt : Option Nat := none
  short : Bool := false
  complete : Bool := false
  route : List (Nat × Nat × Nat) := []
  plan : List PlanPair := []
  told : Nat := 0
  reports : NMap Nat := []
  deriving DecidableEq, Repr

/-- The lanes' physical layer: scans under way (lane element, start), checkers locked (element, since when), when a lane's errors were
last judged. -/
structure PhySt where
  scans : List (Nat × Nat) := []
  prbs : List (Nat × Nat) := []
  /-- lanes with ADAPT_FREEZE, and when it was committed (R232) -/
  frozen : NMap Nat := []
  judged : NMap Nat := []
  deriving DecidableEq, Repr

/-! ## Security and firmware (chapter 16) -/

/-- A copy of the ownership record (Table 16.2); the identity fields never change. -/
structure OwnerRec where
  valid : Bool := true
  gen : Nat := 0
  enrolled : Bool := false
  since : Nat := 0
  policy : Nat := 2 ^ 255 + 3 * 2 ^ 247
  pub : Nat := 0
  deriving DecidableEq, Repr

/-- A copy of the boot control record (Table 16.17). -/
structure BootRec where
  valid : Bool := true
  gen : Nat := 0
  confirmed : Nat := 0
  trial : Nat := 0xFF
  kind : Nat := 0
  arcTarget : Nat := 0
  started : Nat := 0
  deriving DecidableEq, Repr

/-- States of a slot (Table 16.19). -/
def ImgState.EMPTY : Nat := 0
def ImgState.WRITING : Nat := 1
def ImgState.READY : Nat := 2
def ImgState.CONFIRMED : Nat := 3
def ImgState.TRIAL : Nat := 4
def ImgState.INVALID : Nat := 5
def ImgState.ABSENT : Nat := 6

/-- A slot of the flash (R454): its STATE, the 6,976 bytes of its manifest (none kept: none), the images kept, by KIND, and
whether it holds the image set the part left manufacture with. -/
structure ImgSlot where
  state : Nat := ImgState.EMPTY
  manifest : Option Nat := none
  images : List (Nat × Bytes) := []
  factory : Bool := false
  deriving DecidableEq, Repr

/-- A candidate update session in recovery (R471): session, management port, the manifest that passed and when. -/
structure Candidate where
  session : Nat
  via : Nat
  manifest : Option (Nat × Nat) := none
  deriving DecidableEq, Repr

/-- The security core and the update engine. `m` are M0 to M9; `source` is the slot each running image (kinds 1 to 5) came
from; `restarting` the kind whose controller restarts; `steps` the kinds an in-service activation has replaced, `todo` those it
has yet to replace. Times are on the model's clock. -/
structure SecSt where
  owner0 : OwnerRec := {}
  owner1 : OwnerRec := {}
  boot0 : BootRec := {}
  boot1 : BootRec := {}
  /-- slots A, B, R -/
  slots : NMap ImgSlot := [(0, { state := ImgState.CONFIRMED, factory := true })]
  /-- the flash is a 2 Gbit part: slot R exists (R437) -/
  big : Bool := false
  /-- fuses blown of the anti-rollback counter (R456) -/
  arc : Nat := 0
  /-- the slot whose set runs; the slot started (R470) -/
  running : Nat := 0
  started : Nat := 0
  source : List Nat := [0, 0, 0, 0, 0]
  restarting : Option Nat := none
  /-- when the enrolment window opened (R442) -/
  windowAt : Option Nat := none
  quote : Option Nat := none
  m : List Nat := [0, 0, 0, 0, 0, 0, 0, 0, 0, 0]
  /-- the digest of an accepted debug token (R453) -/
  token : Option Nat := none
  /-- when the holder of the update session last wrote (R458) -/
  heardAt : Nat := 0
  steps : List Nat := []
  todo : List Nat := []
  stepAt : Nat := 0
  /-- the running set's sources before the activation -/
  before : List Nat := []
  trialAt : Nat := 0
  trialKind : Nat := 0
  /-- slot R is being copied (R467) -/
  copying : Bool := false
  candidates : List Candidate := []
  intervalAt : Nat := 0
  /-- requests that wait while the MGT image restarts (R462) -/
  waiting : List Instr := []
  deriving DecidableEq, Repr

/-! ## Power, thermal and telemetry (chapters 19 and 20) -/

/-- The supplies and sensors. Times are on the model's clock; voltages in mV, temperatures in °C. `avsHigh` is the highest target
computed since an AVS write failed for the third time (none: writes succeed, R548); `readings` are READ_VOUT (mV) and READ_IOUT
(mA) of the rails that answered the last poll (R549). -/
structure PwrSt where
  /-- PWR_WARN_N is low, and an erase it suspended waits (R530) -/
  warnLow : Bool := false
  suspended : Bool := false
  /-- when the supply or REF_LO fault began and since when all is well; a POR of source 0x02 stands while it lasts (R544) -/
  supplyBad : Bool := false
  supplyOkAt : Nat := 0
  temp : Int := 25
  warnHot : Bool := false
  warnCold : Bool := false
  crit : Bool := false
  trip : Bool := false
  tripAt : Nat := 0
  avsTarget : Nat := 800
  avsWritten : Nat := 800
  avsHigh : Option Nat := none
  avsAt : Nat := 0
  lowerAt : Nat := 0
  readings : NMap (Nat × Nat) := []
  polledAt : Nat := 0
  alertLow : Bool := false
  /-- nanojoules since the interval began (R549, Table 19.8) -/
  energy : Nat := 0
  deriving DecidableEq, Repr

/-! ## The bus matrix (chapter 18) -/

/-- A transaction in flight (R506): master, target, address of its first beat, whether it writes, when the target accepted it. -/
structure Flight where
  master : Nat
  target : Nat
  addr : Nat
  write : Bool
  at_ : Nat
  deriving DecidableEq, Repr

/-- The bus matrix: the transactions in flight, oldest first; the targets isolated by a timeout (3) or BUS_CMD (4); the last master
granted by each target (R509). -/
structure BusSt where
  flight : List Flight := []
  cut : NMap Nat := []
  last : NMap Nat := []
  deriving DecidableEq, Repr

/-! ## SRAM rows and the ring log (chapter 19) -/

/-- SRAM rows (R522): corrected errors of the last 24 h (macro, row, time), defective rows that wait for a reset of their macro's
domain (macro, row, domain), spare rows used by each macro. -/
structure RowSt where
  errors : List (Nat × Nat × Nat) := []
  waiting : List (Nat × Nat × Nat) := []
  used : NMap Nat := []
  deriving DecidableEq, Repr

/-- A tier of the ring log (Table 19.6): the records held, by slot; the slot and SEQ of the next record; the newest record; an
earlier slot holds no valid record since the last one was written (GAP); a broken chain was found. -/
structure Tier where
  recs : NMap Nat := []
  next : Nat := 0
  seq : Nat := 0
  last : Option Nat := none
  gap : Bool := false
  broken : Bool := false
  deriving DecidableEq, Repr

/-- The ring log. Of the interval in progress: its START and flags, `base` the dictionary as it was when it began, `cleared` the
values that read-to-clear counters held when they were read since (RC, R10), the cells each plane has carried, SRAM errors, knot
entries, when it began (model clock), the bins (32 × histogram + bin); a step of device time that has ended it (its END, the next START,
R531). -/
structure RingSt where
  t0 : Tier := {}
  t1 : Tier := {}
  t2 : Tier := {}
  start : Nat := 0
  flags : Nat := 0
  base : Store := []
  cleared : List (Key × Nat) := []
  cellsX : Nat := 0
  cellsY : Nat := 0
  sram : Nat := 0
  knots : Nat := 0
  upAt : Nat := 0
  hist : NMap Nat := []
  histAt : Nat := 0
  stepped : Option (Nat × Nat) := none
  /-- the last multiple of 86,400 s of device time for which a DAILY record has been considered -/
  day : Nat := 0
  /-- a verification under way: tier, when it began (R537) -/
  verify : Option (Nat × Nat) := none
  deriving DecidableEq, Repr

end Sys2Proof.Machine
end

