-- ==== Sys2Proof/Machine/State.lean ====
section
/-! DEFINITION. The state of the block, the reasons a step can stop, and the state after reset. -/

namespace Sys2Proof.Machine

open Sys2Proof

/-- Why a step stops the machine. -/
inductive Fault where
  /-- Raised by an access to frame-store memory at or above 128 GiB, an address the spec says does not exist (Table 00.2).
  Safe: the machine stops where the hardware has no such address. -/
  | noSuchAddress (addr : Nat)
  deriving DecidableEq, Repr

/-- Why a command has no meaning in the model. -/
inductive Refusal where
  /-- Raised by exec for a command whose meaning is not written yet. Safe: nothing is claimed of it. -/
  | notModelled (mnemonic : String)
  deriving DecidableEq, Repr

/-- Everything the device holds but the frame store's bytes. -/
structure Dev where
  /-- the dictionary entries that differ from their defaults -/
  dict : Store := []
  /-- RAW, the device-time counter (R366) -/
  raw : Nat := 0
  /-- the model's own clock: nanoseconds since the run began, through every reset -/
  wall : Nat := 0
  /-- what the device sent during the last command (the model's own field) -/
  out : List Emission := []
  /-- which free value is drawn next (the model's own field) -/
  freeIdx : Nat := 0
  /-- raising events not latched yet (R476) -/
  raised : List Raise := []
  /-- ends of lasting conditions not shown yet (R476): source and instance number -/
  ended : List (Nat × Nat) := []
  rst : RstSt
  rcp : RcpSt
  flash : Flash
  /-- flow contexts, by number -/
  flow : NMap FlowSt := []
  /-- flows other members originate, by ensemble flow number -/
  remote : NMap Remote := []
  plane : NMap PlaneSt := []
  sdiRx : NMap SdiRxSt := []
  hold : NMap HoldSt := []
  flt : FltSt := {}
  store : StoreSt := {}
  chan : NMap ChanSt := []
  twin : TwinSt := {}
  knot : KnotSt := {}
  /-- events without their record yet (R536) -/
  events : List EventRec := []
  netRx : NMap NetRxSt := []
  netTx : NMap NetTxSt := []
  netPort : NMap NetPortSt := []
  ctrl : CtrlSt := {}
  time : TimeSt := {}
  ref : NMap RefSt := []
  dpll : NMap DpllSt := []
  tile : NMap TileSt := []
  /-- physical tiles in TESTING after RESTORE (Table 10.7) -/
  tileRestore : List Nat := []
  /-- outputs whose inserted tile failed: the take engine inserts another at their next frame boundary (R311) -/
  tileAgain : List Nat := []
  layer : NMap LayerSt := []
  head : NMap HeadSt := []
  /-- flips under way, by veneer -/
  flip : List (Nat × FlipSt) := []
  /-- bytes on their way into the frame store within a command: address and bytes (the model's own field; empty between commands) -/
  memQ : List (Nat × List Nat) := []
  audio : AudioSt := {}
  pool : NMap PoolSt := []
  xp : XpSt := {}
  takeLog : TakeLog := {}
  dwl : DwlSt := {}
  phy : PhySt := {}
  sec : SecSt := {}
  pwr : PwrSt := {}
  bus : BusSt := {}
  rows : RowSt := {}
  ring : RingSt := {}
  deriving DecidableEq, Repr

/-- The block. -/
structure State where
  dev : Dev
  /-- frame-store bytes (128 GiB; block B at B × 2 MiB), canonical -/
  mem : List Host.Cell
  /-- the commands that are waiting, first in, first out -/
  pending : List Instr
  deriving DecidableEq, Repr

/-- The management network values of Table 15.17. -/
def MgNet.defaults : MgNet :=
  ⟨5740, Dict.dflt (D.Mg.MG_CFG.key 0), Dict.dflt (D.Mg.MG_CFG.key 1), 0⟩

/-- The device at power-on: PORST_N has just risen and the POR it caused is in force (R496, R498, R487). -/
def Dev.reset : Dev where
  dict := [(⟨0x0400, 8, 0⟩, 1), (⟨0x0510, 2, 0⟩, 2 ^ 120), (⟨0x0510, 3, 0⟩, 1)]
  flt := { errnLow := true }
  rst := { asserted := [⟨0, 1, 0, 0, 0, 0, 0, 0⟩], rstnDrive := true }
  rcp := { inUse := MgNet.defaults }
  flash := { netId0 := ⟨false, 0, 0, MgNet.defaults⟩, netId1 := ⟨false, 0, 0, MgNet.defaults⟩ }

/-- The machine at power-on, with no command waiting. -/
def State.reset : State where
  dev := Dev.reset
  mem := []
  pending := []

/-- A command whose effect touches neither the frame store's bytes nor the queue. -/
def State.act (s : State) (f : Dev → Dev) : Host.Outcome State Fault Refusal := .next { s with dev := f s.dev }

end Sys2Proof.Machine
end

