-- ==== Sys2Proof/Machine/Ops.lean ====
section
/-! DEFINITION. The named operations every meaning is written with: reading and writing dictionary fields, counters, device
time, the passing of time, raising faults, sending, drawing a free value, frame-store bytes. -/

namespace Sys2Proof.Machine

open Sys2Proof

/-! ## Dictionary entries -/

/-- The value stored in the dictionary at a key. -/
def Dev.ent (s : Dev) (k : Key) : Nat := s.dict.get k

/-- Store a value in the dictionary. -/
def Dev.setEnt (s : Dev) (k : Key) (v : Nat) : Dev := { s with dict := s.dict.put k v }

/-- A counter returns to its default, by a read (RC, R10) or a reset (R11); the ring log's intervals count on (R533). -/
def Dev.clearKey (d : Dev) (k : Key) : Dev :=
  let v := d.ent k
  if v = Dict.dflt k then d
  else { d.setEnt k (Dict.dflt k) with ring := { d.ring with cleared := d.ring.cleared ++ [(k, v)] } }

/-- The same for every key of a list. -/
def Dev.clearKeys (d : Dev) (l : List Key) : Dev := l.foldl Dev.clearKey d

/-- A field of instance n. -/
def Dev.rd (s : Dev) (f : Fld) (n : Nat) : Nat := bitsOf (s.ent (f.key n)) f.lo f.w

/-- Write a field of instance n; the value is cut to the field's width. -/
def Dev.wr (s : Dev) (f : Fld) (n : Nat) (v : Nat) : Dev :=
  s.setEnt (f.key n) (setBits (s.ent (f.key n)) f.lo f.w v)

/-- A one-bit field as a Boolean. -/
def Dev.on (s : Dev) (f : Fld) (n : Nat) : Bool := s.rd f n == 1

/-- Write a one-bit field. -/
def Dev.flag (s : Dev) (f : Fld) (n : Nat) (b : Bool) : Dev := s.wr f n (ofBool b)

/-- Advance a counter that wraps at its width (Range "Full range"). -/
def Dev.add (s : Dev) (f : Fld) (n d : Nat) : Dev := s.wr f n (s.rd f n + d)

/-- Advance a counter that saturates at its largest value. -/
def Dev.sat (s : Dev) (f : Fld) (n d : Nat) : Dev := s.wr f n (min (s.rd f n + d) (2 ^ f.w - 1))

/-- A signed field. -/
def Dev.rdI (s : Dev) (f : Fld) (n : Nat) : Int := toInt f.w (s.rd f n)

/-- Write a signed field. -/
def Dev.wrI (s : Dev) (f : Fld) (n : Nat) (i : Int) : Dev := s.wr f n (ofInt f.w i)

/-- The instances below m that a test selects. -/
def pick (m : Nat) (p : Nat → Bool) : List Nat := (List.range m).filter p

/-- Do two fields lie apart: in entries of different sub-indexes, in different bits, in different entries that do not repeat, or one below the
first of the other's entries? Instance numbers do not matter. -/
def Fld.apart (f g : Fld) : Bool :=
  f.sub != g.sub || decide (f.lo + f.w ≤ g.lo) || decide (g.lo + g.w ≤ f.lo) || (!f.rep && !g.rep && f.ix != g.ix)
    || (f.rep && !g.rep && decide (g.ix < f.ix)) || (g.rep && !f.rep && decide (f.ix < g.ix))

/-- The whole entry that a field lies in. -/
def Fld.whole (f : Fld) : Fld := { f with lo := 0, w := 4294967296 }

/-- Apply an update for each number of a list, in order. -/
def Dev.each (s : Dev) (l : List Nat) (f : Dev → Nat → Dev) : Dev := l.foldl f s

/-! ## Time -/

/-- R367: device time. -/
def Dev.now (s : Dev) : Nat :=
  ofInt 64 ((s.raw : Int) + s.rd D.Time.OFFSET 0
    + Int.fdiv (s.rdI D.Time.RATE 0 * sdiff s.raw (s.rd D.Time.RATE_EPOCH 0) 64) (2 ^ 52 : Nat))

/-- R370: widen a 48-bit time to the 64-bit value nearest to the present device time. -/
def Dev.extend48 (s : Dev) (x : Nat) : Nat := ofInt 64 ((s.now : Int) - sdiff (s.now % 2 ^ 48) x 48)

/-- Is a reset of reach WARM or wider in force? -/
def Dev.inReset (s : Dev) : Bool := s.rst.asserted.any (fun r => decide (r.reach ≤ 2))

/-- Is a POR or COLD in force, which clears the TIME domain (Table 18.2, R366)? -/
def Dev.inCold (s : Dev) : Bool := s.rst.asserted.any (fun r => decide (r.reach ≤ 1))

/-- Time passes before a command: both clocks advance (RAW stands at 0 through a POR or COLD, R366), and the record of what
was sent is cleared. -/
def Dev.elapse (s : Dev) (dt : Nat) : Dev :=
  { s with wall := s.wall + dt, raw := if s.inCold then 0 else (s.raw + dt) % 2 ^ 64, out := [] }

/-- Has `ns` passed on the model's clock since `t`? -/
def Dev.past (s : Dev) (t ns : Nat) : Bool := decide (t + ns ≤ s.wall)

/-- The start-up stage (Table 18.5). -/
def Dev.stage (s : Dev) : Nat := s.rd D.Rst.STARTUP_STAGE 0

/-- Media blocks run: SERVICE has been entered and no WARM or wider reset is in force (R503). -/
def Dev.serving (s : Dev) : Bool := decide (6 ≤ s.stage) && !s.inReset

/-- R527: a demand wakes the islands below ACTIVE that it needs, within the bound of what demands them. -/
def Dev.wake (d : Dev) (need : Nat × Nat → Bool) : Dev :=
  ((List.range 142).filter (fun i => d.rd D.IslandStatus.STATE i != 0 && need (Config.island i))).foldl
    (fun (d : Dev) i => (d.wr D.IslandStatus.STATE i 0).sat D.IslandStatus.WAKES i 1) d

/-! ## Faults, sending, free values -/

/-- A raising event of a source (R475). -/
def Dev.raise (s : Dev) (src inst : Nat) : Dev := { s with raised := s.raised ++ [⟨src, inst, false⟩] }

/-- The raising event of a lasting condition (R476). -/
def Dev.raiseL (s : Dev) (src inst : Nat) : Dev := { s with raised := s.raised ++ [⟨src, inst, true⟩] }

/-- A lasting condition ends (R476). -/
def Dev.endCond (s : Dev) (src inst : Nat) : Dev := { s with ended := s.ended ++ [(src, inst)] }

/-- The device sends something. -/
def Dev.emit (s : Dev) (e : Emission) : Dev := { s with out := s.out ++ [e] }

/-- The next free value. -/
def Dev.freeVal (s : Dev) : Nat := Config.free s.freeIdx

/-- The state after a free value has been drawn. -/
def Dev.drawn (s : Dev) : Dev := { s with freeIdx := s.freeIdx + 1 }

/-- The state after n free values have been drawn. -/
def Dev.drawnN (s : Dev) (n : Nat) : Dev := { s with freeIdx := s.freeIdx + n }

/-! ## Errors on a link that no command of the table reports -/

/-- What a locked SDI lane has counted since it locked, or was last settled: each of its error counters goes up by a free value. At
270 Mbit/s (RATE 1) there are no CRCs and no line numbers (R145). -/
def Dev.sdiErrors (d : Dev) (n : Nat) : Dev :=
  if d.on D.SdiRxStatus.LOCKED n = false then d
  else
    let d := if d.rd D.SdiRxStatus.RATE n = 1 then d
      else
        let d := d.drawn.sat D.SdiRxCounters.CRC_Y n d.freeVal
        let d := d.drawn.sat D.SdiRxCounters.CRC_C n d.freeVal
        d.drawn.sat D.SdiRxCounters.LINE_NUM_ERRORS n d.freeVal
    let d := d.drawn.sat D.SdiRxCounters.TRS_ERRORS n d.freeVal
    let d := d.drawn.sat D.SdiRxCounters.ANC_CHECKSUM_ERRORS n d.freeVal
    d.drawn.sat D.SdiRxCounters.ERRORED_FRAMES n d.freeVal

/-- The same for a network port that is UP with a FEC (Table 06.9). -/
def Dev.fecErrors (d : Dev) (p : Nat) : Dev :=
  if d.rd D.PortStatus.LINK p ≠ 2 ∨ d.rd D.PortCfg.FEC p = 1 then d
  else
    let d := d.drawn.sat D.PortCounters.FEC_CORRECTED p d.freeVal
    d.drawn.sat D.PortCounters.FEC_UNCORRECTED p d.freeVal

/-- The same for a management port whose link is up. -/
def Dev.mgErrors (d : Dev) (p : Nat) : Dev :=
  if d.rd D.MgStatus.LINK p ≠ 2 then d else d.drawn.sat D.MgCounters.RX_FCS_ERRORS p d.freeVal

/-- Every link settles its error counters, before they are read or summed. -/
def Dev.linkErrors (d : Dev) : Dev :=
  ((d.each (List.range 128) Dev.sdiErrors).each (List.range 32) Dev.fecErrors).each (List.range 2) Dev.mgErrors

/-! ## Frame-store bytes -/

/-- Bytes of the frame store: 128 GiB (Table 00.2). -/
def memSize : Nat := 137438953472

/-- What a frame-store byte that nothing has written reads as. -/
def memDefault : BitVec 8 := 0

/-- The byte at an address. -/
def Memory.read (m : List Host.Cell) (a : Nat) : BitVec 8 := Assoc.get m memDefault a

/-- Write one byte; the canonical form is kept. -/
def Memory.write (m : List Host.Cell) (a : Nat) (b : BitVec 8) : List Host.Cell := Assoc.put natLt m memDefault a b

/-- The canonical form: addresses strictly rising, no entry equal to what an unlisted address reads as. -/
def Memory.wf (m : List Host.Cell) : Bool := Assoc.sorted natLt m && m.all (fun c => c.2 != memDefault)

/-- Write n bytes, most significant first, from an address up. -/
def Memory.writeBytes (m : List Host.Cell) (a : Nat) : List Nat → List Host.Cell
  | [] => m
  | b :: t => Memory.writeBytes (Memory.write m a (BitVec.ofNat 8 b)) (a + 1) t

/-- Read n bytes from an address up. -/
def Memory.readBytes (m : List Host.Cell) (a : Nat) : Nat → List Nat
  | 0 => []
  | n + 1 => (Memory.read m a).toNat :: Memory.readBytes m (a + 1) n

/-- Put the bytes a command has queued into memory. -/
def Memory.writeAll (m : List Host.Cell) : List (Nat × List Nat) → List Host.Cell
  | [] => m
  | (a, l) :: t => Memory.writeAll (Memory.writeBytes m a l) t

/-- A command that may write the frame store: its effect on the device queues the bytes, which then go into memory. Bytes that lie
outside the frame store stop the machine. -/
def State.actMem (s : State) (f : Dev → Dev) : Host.Outcome State Fault Refusal :=
  let d := f s.dev
  match d.memQ.find? (fun w => decide (memSize < w.1 + w.2.length)) with
  | some w => .fault (.noSuchAddress w.1)
  | none => .next { s with dev := { d with memQ := [] }, mem := Memory.writeAll s.mem d.memQ }

/-- Bytes n onward of the frame store read as unwritten again from a to a + n − 1 (a block whose contents are lost). -/
def Memory.clear (m : List Host.Cell) (a n : Nat) : List Host.Cell :=
  m.filter (fun c => decide (c.1 < a) || decide (a + n ≤ c.1))

end Sys2Proof.Machine
end

