-- ==== Sys2Proof/Machine/Knot.lean ====
section
/-! DEFINITION. The knot map (R520 to R524) and the events that the ring log records (R536). -/

namespace Sys2Proof.Machine

open Sys2Proof

/-- Note an event for its event record (R536). -/
def Dev.event (d : Dev) (kind data : Nat) : Dev := { d with events := d.events ++ [⟨kind, d.now, data % 2 ^ 128⟩] }

/-- Kinds of Table 19.3. -/
def KnotKind.TILE : Nat := 1
def KnotKind.ENGINE : Nat := 2
def KnotKind.NET_LANE : Nat := 3
def KnotKind.DOWEL_LANE : Nat := 4
def KnotKind.SDI_SLICE : Nat := 5
def KnotKind.PLANE_SLICE : Nat := 6
def KnotKind.SRAM_ROW : Nat := 7
def KnotKind.DRAM_ROW : Nat := 8
def KnotKind.BLOCK : Nat := 9
def KnotKind.CHANNEL : Nat := 10

/-- Actions of Table 19.3. -/
def KnotAct.SPARE_IN : Nat := 1
def KnotAct.RETIRED : Nat := 2
def KnotAct.REPAIRED : Nat := 3
def KnotAct.RESTORED : Nat := 4

/-- The cause of an entry that a command made. -/
def knotCommand : Nat := 0x1FF
/-- No spare was used. -/
def knotNone : Nat := 0xFFFF

/-- Same kind and instance? -/
def Knot.same (a b : Knot) : Bool := a.kind == b.kind && a.inst == b.inst

/-- Of a list in the order made, the entries that no newer one of the same kind and instance replaces. -/
def Knot.newest : List Knot → List Knot
  | [] => []
  | k :: t => if t.any (fun x => x.same k) then Knot.newest t else k :: Knot.newest t

/-- R524: the entries without replaced ones and without what a RESTORED entry undoes. -/
def Knot.compact (l : List Knot) : List Knot := (Knot.newest l).filter (fun k => k.action != KnotAct.RESTORED)

/-- The 32 bytes of an entry (Table 19.3). -/
def Knot.word (k : Knot) : Nat :=
  k.kind % 256 * 2 ^ 248 + k.action % 256 * 2 ^ 240 + k.inst % 65536 * 2 ^ 224 + k.spare % 65536 * 2 ^ 208 + k.cause % 512 * 2 ^ 199
    + ofBool k.field * 2 ^ 198 + k.time % 2 ^ 64 * 2 ^ 128 + k.detail % 2 ^ 128

/-- R520, R523, R524: an entry is made in the field; the event is noted. A full map takes no entry, and FULL reads 1. -/
def Dev.knotAdd (d : Dev) (kind action inst spare cause detail : Nat) : Dev :=
  let k : Knot := ⟨kind, action, inst, spare, cause, true, d.now, detail⟩
  let l := if 4096 ≤ d.knot.entries.length then Knot.compact d.knot.entries else d.knot.entries
  if 4096 ≤ l.length then { d with knot := { d.knot with entries := l } }.flag D.KnotStatus.FULL 0 true
  else
    ({ d with knot := { d.knot with entries := l ++ [k], dirty := true },
              ring := { d.ring with knots := d.ring.knots + 1 } }).event 5 (k.word / 2 ^ 128)

/-- R523: does an entry of an action stand for a resource? -/
def Dev.knotStands (d : Dev) (kind action inst : Nat) : Bool :=
  match d.knot.entries.reverse.find? (fun k => k.kind == kind && k.inst == inst) with
  | some k => k.action == action
  | none => false

end Sys2Proof.Machine
end

