-- ==== Sys2Proof/Machine/Operands.lean ====
section
/-! DEFINITION. The fields of the blocks that commands carry: the cell (Table 02.2), the take descriptor (Table 03.5), the
salvo change and marker (Tables 03.8, 03.10), the kinds of flow (Table 02.1). -/

namespace Sys2Proof

/-! ## Flow kinds (Table 02.1) -/

namespace Kind

/-- A kind that an ingress context may have. -/
def ingress (k : Nat) : Bool := decide (1 ≤ k) && decide (k ≤ 0x0C)
/-- A kind that an egress context may have. -/
def egress (k : Nat) : Bool := (decide (0x41 ≤ k) && decide (k ≤ 0x47)) || (decide (0x49 ≤ k) && decide (k ≤ 0x4C))
/-- Is the kind valid for context c (R39, R41)? -/
def fits (c k : Nat) : Bool := if c < 4096 then ingress k else egress k
/-- Does the kind originate a flow? -/
def originates (k : Nat) : Bool := ingress k && k != 0x08
/-- A network receive kind. -/
def netRx (k : Nat) : Bool := decide (2 ≤ k) && decide (k ≤ 7)
/-- A network transmit kind. -/
def netTx (k : Nat) : Bool := decide (0x42 ≤ k) && decide (k ≤ 0x47)
/-- An audio kind, whose cells are AUD. -/
def audio (k : Nat) : Bool := k == 4 || k == 5 || k == 0x0B || k == 0x44 || k == 0x45 || k == 0x4B

/-- The cell type of a kind, 0 where Table 02.1 gives more than one or none. -/
def cellType (k : Nat) : Nat :=
  match k with
  | 0x01 => 1 | 0x02 => 2 | 0x03 => 3 | 0x04 => 4 | 0x05 => 4 | 0x06 => 5 | 0x07 => 1 | 0x0A => 2 | 0x0B => 4
  | 0x41 => 1 | 0x42 => 2 | 0x43 => 3 | 0x44 => 4 | 0x45 => 4 | 0x46 => 5 | 0x47 => 1 | 0x4A => 2 | 0x4B => 4
  | _ => 0

/-- The BIND class of a kind. -/
def bindClass (k : Nat) : Nat :=
  match k with
  | 0x01 => 1 | 0x08 => 3 | 0x09 => 4 | 0x0A => 6 | 0x0B => 7 | 0x0C => 8
  | 0x41 => 1 | 0x49 => 4 | 0x4A => 5 | 0x4B => 7 | 0x4C => 8
  | k => if netRx k || netTx k then 2 else 0

/-- An SDI or ST 2022-6 output: its frame boundary is the application instant (Table 03.4). -/
def sdiOut (k : Nat) : Bool := k == 0x41 || k == 0x47

end Kind

/-! ## The cell -/

namespace Cell

def type (c : Cell) : Nat := bitsOf c.hdr 188 4
def sof (c : Cell) : Bool := bit c.hdr 187
def eof (c : Cell) : Bool := bit c.hdr 186
def switchPoint (c : Cell) : Bool := bit c.hdr 185
def relayed (c : Cell) : Bool := bit c.hdr 184
def efn (c : Cell) : Nat := bitsOf c.hdr 168 16
def seq (c : Cell) : Nat := bitsOf c.hdr 136 32
def itime (c : Cell) : Nat := bitsOf c.hdr 88 48
def src (c : Cell) : Nat := bitsOf c.hdr 85 3
def dest (c : Cell) : Nat := bitsOf c.hdr 77 8
def hops (c : Cell) : Nat := bitsOf c.hdr 75 2
def planeBit (c : Cell) : Nat := bitsOf c.hdr 74 1
def len (c : Cell) : Nat := bitsOf c.hdr 65 9
def line (c : Cell) : Nat := bitsOf c.hdr 51 14
def woff (c : Cell) : Nat := bitsOf c.hdr 33 18
def hcrc (c : Cell) : Nat := bitsOf c.hdr 0 16

/-- LINE and WOFF together: the RTP timestamp or byte offset (Table 02.4). -/
def pos (c : Cell) : Nat := bitsOf c.hdr 33 32

/-- The HCRC of a header: CRC-16 over bytes 0 to 21 with PLANE taken as 0 (R45). -/
def headerCrc (hdr : Nat) : Nat := crc16 (bytesOf 22 (setBits hdr 74 1 0 / 2 ^ 16))

/-- The trailer's CRC-32C over the 256 payload bytes (R46). -/
def payloadCrc (payload : Nat) : Nat := crc32c (bytesOf 256 payload)

/-- The header with HCRC computed. -/
def withCrc (hdr : Nat) : Nat := setBits hdr 0 16 (headerCrc hdr)

/-- Are both CRCs right (R15)? -/
def crcOk (c : Cell) : Bool := c.hcrc == headerCrc c.hdr && c.crc == payloadCrc c.payload

/-- R44, R47: the header checks that need no context. -/
def wellFormed (c : Cell) : Bool :=
  decide (1 ≤ c.type) && decide (c.type ≤ 5) && c.src == c.efn / 8192 && decide (1 ≤ c.len) && decide (c.len ≤ 256)
    && decide (c.hops ≤ 2) && bitsOf c.hdr 16 17 == 0

/-- A cell as its origin builds it (Table 02.2): PLANE, RELAYED, HOPS and reserved bits 0, both CRCs computed. `pos` is LINE
and WOFF together. -/
def build (type : Nat) (sof eof sp : Bool) (efn seq itime dest len pos payload : Nat) : Cell :=
  let h := type % 16 * 2 ^ 188 + ofBool sof * 2 ^ 187 + ofBool eof * 2 ^ 186 + ofBool sp * 2 ^ 185 + efn % 65536 * 2 ^ 168
    + seq % 2 ^ 32 * 2 ^ 136 + itime % 2 ^ 48 * 2 ^ 88 + efn % 65536 / 8192 * 2 ^ 85 + dest % 256 * 2 ^ 77
    + len % 512 * 2 ^ 65 + pos % 2 ^ 32 * 2 ^ 33
  -- payload bytes beyond LEN are 0 (R46)
  let p := payload % 2 ^ 2048 / 2 ^ (8 * (256 - len)) * 2 ^ (8 * (256 - len))
  ⟨withCrc h, p, payloadCrc p, 0⟩

/-- What the comparison of R108 covers: bytes 0 to 283 with PLANE taken as 0. -/
def compared (c : Cell) : Nat × Nat × Nat := (setBits c.hdr 74 1 0, c.payload, c.crc)

/-- The cell as a relay forwards it (R48): RELAYED and HOPS written, HCRC computed again. -/
def relay (c : Cell) (hops : Nat) : Cell := { c with hdr := withCrc (setBits (setBits c.hdr 184 1 1) 75 2 hops) }

/-- The cell as a direct crossing delivers it: HOPS written, HCRC computed again. -/
def cross (c : Cell) (hops : Nat) : Cell := { c with hdr := withCrc (setBits c.hdr 75 2 hops) }

end Cell

/-- The first bit index in the `n` low bits of `v` (counted from the most significant) at which the `w`-bit pattern `p`
begins, looking at `k` positions. -/
def findPattern (v n p w : Nat) : Nat → Nat → Option Nat
  | _, 0 => none
  | i, k + 1 => if n < i + w then none else if bitsOf v (n - i - w) w = p then some i else findPattern v n p w (i + 1) k

/-- The EAV preamble of L links: L words of 0x3FF, then 2L words of 0 (R52, R135). -/
def preamble (l : Nat) : Nat := (2 ^ (10 * l) - 1) * 2 ^ (20 * l)

/-! ## Octet strings -/

/-- No bytes. -/
def Bytes.none : Bytes := ⟨0, 0⟩
/-- One string after another. -/
def Bytes.app (a b : Bytes) : Bytes := ⟨a.len + b.len, a.val % 256 ^ a.len * 256 ^ b.len + b.val % 256 ^ b.len⟩
/-- Bytes with their CRC-32C of R46 behind them. -/
def Bytes.withCrc (b : Bytes) : Bytes := b.app ⟨4, crc32c (bytesOf b.len b.val)⟩
/-- The first n bytes. -/
def Bytes.take (a : Bytes) (n : Nat) : Bytes := ⟨min n a.len, a.val % 256 ^ a.len / 256 ^ (a.len - n)⟩
/-- All but the first n bytes. -/
def Bytes.drop (a : Bytes) (n : Nat) : Bytes := ⟨a.len - n, a.val % 256 ^ (a.len - n)⟩
/-- Byte i. -/
def Bytes.at_ (a : Bytes) (i : Nat) : Nat := byteAt a.len a.val i
/-- n bytes given by index. -/
def Bytes.gen (n : Nat) (f : Nat → Nat) : Bytes := ⟨n, ofBytes ((List.range n).map f)⟩

/-- Is an address a multicast group (RFC 1112, RFC 4291)? -/
def isMulticast (a : Nat) : Bool := if a / 2 ^ 32 = 0xFFFF then a / 2 ^ 28 % 16 == 0xE else a / 2 ^ 120 == 0xFF

/-! ## The take descriptor (Table 03.5) -/

namespace TakeD
def output (v : Nat) : Nat := bitsOf v 112 16
def source (v : Nat) : Nat := bitsOf v 96 16
def fsOnTake (v : Nat) : Bool := bit v 95
def disconnect (v : Nat) : Bool := bit v 94
def reserved (v : Nat) : Nat := bitsOf v 64 30
def time (v : Nat) : Nat := bitsOf v 0 64
end TakeD

/-! ## The salvo change (Table 03.8) -/

namespace Change
def member (v : Nat) : Nat := bitsOf v 61 3
def output (v : Nat) : Nat := bitsOf v 48 12 + 4096
def source (v : Nat) : Nat := bitsOf v 32 16
def fsOnTake (v : Nat) : Bool := bit v 31
def disconnect (v : Nat) : Bool := bit v 30
/-- Are the reserved bits 0? -/
def clean (v : Nat) : Bool := bitsOf v 60 1 == 0 && bitsOf v 0 30 == 0
end Change

/-! ## The salvo marker (Table 03.10) -/

namespace Mark
def phase (v : Nat) : Nat := bitsOf v 120 8
def slot (v : Nat) : Nat := bitsOf v 116 4
def epoch (v : Nat) : Nat := bitsOf v 112 4
def card (v : Nat) : Nat := bitsOf v 111 1
def twinAbsent (v : Nat) : Bool := bit v 110
def member (v : Nat) : Nat := bitsOf v 104 3
def status (v : Nat) : Nat := bitsOf v 96 8
def time (v : Nat) : Nat := bitsOf v 32 64
def failIndex (v : Nat) : Nat := bitsOf v 16 16
/-- R88: CRC right, PHASE known, reserved field 0. -/
def ok (v : Nat) : Bool :=
  bitsOf v 0 16 == crc16 (bytesOf 14 (v / 65536)) && decide (1 ≤ phase v) && decide (phase v ≤ 5) && bitsOf v 107 3 == 0
/-- A marker as a device builds it. -/
def build (phase slot epoch card : Nat) (absent : Bool) (member status time fail : Nat) : Nat :=
  let v := phase * 2 ^ 104 + slot * 2 ^ 100 + epoch % 16 * 2 ^ 96 + card * 2 ^ 95 + ofBool absent * 2 ^ 94 + member * 2 ^ 88
    + status * 2 ^ 80 + time % 2 ^ 64 * 2 ^ 16 + fail % 65536
  v * 65536 + crc16 (bytesOf 14 v)
end Mark

end Sys2Proof
end

