-- ==== Sys2Proof/Machine/Media.lean ====
section
/-! DEFINITION. What every media chapter asks of the flow table: contexts, sources, the resources a context is bound to, media
rates, the ledger (R24 to R29, R39 to R43, R56, R70, R134). -/

namespace Sys2Proof.Machine

open Sys2Proof

/-! ## Media events -/

/-- Time passes, then a media block acts: blocks run from SERVICE on, and not while a reset of reach WARM or wider is in force
(R503). -/
def Dev.live (d : Dev) (dt : Nat) (f : Dev → Dev) : Dev :=
  let d := d.elapse dt
  if d.serving then f d else d

/-! ## Contexts -/

/-- What context c holds beside its record. -/
def Dev.flowSt (d : Dev) (c : Nat) : FlowSt := nget d.flow {} c

/-- Change what context c holds. -/
def Dev.setFlow (d : Dev) (c : Nat) (f : FlowSt → FlowSt) : Dev := { d with flow := nput d.flow {} c (f (d.flowSt c)) }

/-- The instances, below m, of a field's entry that have a value stored, in ascending order. -/
def Dev.listed (d : Dev) (f : Fld) (m : Nat) : List Nat :=
  d.dict.filterMap (fun e =>
    if e.1.sub ≠ f.sub then none
    else if f.rep then (if f.ix ≤ e.1.ix ∧ e.1.ix < f.ix + m then some (e.1.ix - f.ix) else none)
    else (if e.1.ix = f.ix ∧ e.1.el < m then some e.1.el else none))

/-- The contexts whose ENABLE is committed as 1. -/
def Dev.enabled (d : Dev) : List Nat := (d.listed D.Flow.ENABLE 8192).filter (fun c => d.on D.Flow.ENABLE c)

/-- KIND of a context. -/
def Dev.kind (d : Dev) (c : Nat) : Nat := d.rd D.Flow.KIND c

/-- FORMAT of a context. -/
def Dev.format (d : Dev) (c : Nat) : Nat := d.rd D.Flow.FORMAT c

/-- BIND INDEX of a context. -/
def Dev.bindIx (d : Dev) (c : Nat) : Nat := d.rd D.FlowBind.INDEX c

/-- Is the context RUNNING? -/
def Dev.running (d : Dev) (c : Nat) : Bool := d.rd D.Flow.STATE c == 2

/-- A number that no enabled context has: used where a search finds none. -/
def noCtx : Nat := 8192

/-- The enabled ingress context of this device that originates a flow. -/
def Dev.originOf (d : Dev) (efn : Nat) : Option Nat :=
  d.enabled.find? (fun c => decide (c < 4096) && Kind.originates (d.kind c) && d.rd D.Flow.EFN c == efn)

/-- The enabled PEER_IN context of a flow. -/
def Dev.peerOf (d : Dev) (efn : Nat) : Option Nat :=
  d.enabled.find? (fun c => decide (c < 4096) && d.kind c == 8 && d.rd D.Flow.EFN c == efn)

/-- The ingress context that brings a flow into this device's planes. -/
def Dev.ingressOf (d : Dev) (efn : Nat) : Option Nat :=
  match d.originOf efn with
  | some c => some c
  | none => d.peerOf efn

/-- The enabled context of a kind bound to a resource. -/
def Dev.boundTo (d : Dev) (k ix : Nat) : Option Nat := d.enabled.find? (fun c => d.kind c == k && d.bindIx c == ix)

/-- The SDI lanes of an SDI_IN or SDI_OUT context: as many as its FORMAT has links (R133). -/
def Dev.lanes (d : Dev) (c : Nat) : List Nat := (List.range (Fmt.links (d.format c))).map (fun i => d.bindIx c + i)

/-- The SDI_IN (kind 1) or SDI_OUT (kind 0x41) context that uses a lane. -/
def Dev.sdiCtx (d : Dev) (k lane : Nat) : Option Nat :=
  d.enabled.find? (fun c => d.kind c == k && (d.lanes c).contains lane)

/-- This device's member index; 0 for a device that is not a member (R40). -/
def Dev.me (d : Dev) : Nat := if d.rd D.Ens.MEMBER 0 = 0xFF then 0 else d.rd D.Ens.MEMBER 0

/-- The number of members (R40: an ensemble of one where the device is no member). -/
def Dev.ensSize (d : Dev) : Nat := if d.rd D.Ens.MEMBER 0 = 0xFF then 1 else max 1 d.dwl.size

/-- The first number of this member's reserved block (R81). -/
def Dev.fsEfnBase (d : Dev) : Nat := d.me * 8192 + 8128

/-- The record of an egress context reads as its source what the crosspoint holds. -/
def Dev.source (d : Dev) (c : Nat) : Option Nat :=
  if d.on D.XpTable.VALID (c - 4096) then some (d.rd D.XpTable.SOURCE (c - 4096)) else none

/-- The flow an output carries: its source, or the TILE_OUT flow of the tile a take inserted before it (R81). -/
def Dev.feed (d : Dev) (c : Nat) : Option Nat :=
  if d.on D.XpTable.FS_INSERTED (c - 4096) || d.on D.XpTable.GATEWAY_INSERTED (c - 4096) then
    some (d.fsEfnBase + d.rd D.XpTable.TILE (c - 4096)) else d.source c

/-! ## Media rates (Table 02.5), × 1,001, in bit/s -/

/-- Bytes of one sample set of an audio context: 3 bytes a channel for ST 2110-30, 4 for ST 2110-31 (Table 02.4); an audio
bundle's record says which (Table 12.11). -/
def Dev.setBytes (d : Dev) (c : Nat) : Nat :=
  let k := d.kind c
  if k = 4 then 3 * d.rd D.NetRxCfg.CHANNELS c
  else if k = 5 then 4 * d.rd D.NetRxCfg.CHANNELS c
  else if k = 0x44 then 3 * d.rd D.NetTxCfg.CHANNELS (c - 4096)
  else if k = 0x45 then 4 * d.rd D.NetTxCfg.CHANNELS (c - 4096)
  else (if d.on D.BundleCfg.AES3 (d.bindIx c) then 4 else 3) * d.rd D.BundleCfg.CHANNELS (d.bindIx c)

/-- Does an audio context run at 96 kHz? -/
def Dev.rate96 (d : Dev) (c : Nat) : Bool :=
  let k := d.kind c
  if k = 4 ∨ k = 5 then d.on D.NetRxCfg.RATE_96K c
  else if k = 0x44 ∨ k = 0x45 then d.on D.NetTxCfg.RATE_96K (c - 4096)
  else d.on D.BundleCfg.RATE_96K (d.bindIx c)

/-- Sample sets in a full AUD cell (R54). -/
def Dev.setsPerCell (d : Dev) (c : Nat) : Nat := if d.setBytes c = 0 then 0 else 256 / d.setBytes c

/-- The cell type an egress context has learned for its current source (R47), 0 where it has none. -/
def Dev.takenType (d : Dev) (c : Nat) : Nat := match (d.flowSt c).cur with | some m => m.type | none => 0

/-- The cells a tile output emits (R283): SDI or VID from the channel A main output by OUT_SDI, ANC from its ancillary output,
and from channel B the type of its input, whose context's merge has learned it (R47). -/
def Dev.tileOutType (d : Dev) (ix : Nat) : Nat :=
  let t := bitsOf ix 0 6
  let path := bitsOf ix 8 2
  if path = 0 then (if d.on D.ProcCfg.OUT_SDI t then 1 else 2)
  else if path = 1 then 5
  else
    match d.boundTo 0x49 ix with
    | none => 2
    | some c => d.takenType c

/-- The cell type of a locally originated flow (Table 02.1). -/
def Dev.originType (d : Dev) (c : Nat) : Nat :=
  let k := d.kind c
  if k = 0x09 then d.tileOutType (d.bindIx c)
  else if k = 0x0C then (nget d.pool {} (d.bindIx c)).type
  else Kind.cellType k

/-- The media payload rate of a context, × 1,001 in bit/s. A PEER_IN, PLAYBACK or RECORD context has the rate of the flow it
carries, which the caller gives. -/
def Dev.media1001 (d : Dev) (c carried : Nat) : Nat :=
  let k := d.kind c
  let f := d.format c
  let tile := bitsOf (d.bindIx c) 8 2
  if k = 0x01 ∨ k = 0x07 ∨ k = 0x41 ∨ k = 0x47 then Fmt.lane1001 f
  else if (k = 0x09 ∨ k = 0x49) ∧ tile = 1 then d.rd D.Flow.DECLARED_KBPS c * 1000 * 1001
  else if k = 0x09 ∧ d.tileOutType (d.bindIx c) = 1 then Fmt.lane1001 f
  else if k = 0x49 ∧ d.takenType c = 1 then Fmt.lane1001 f
  else if k = 0x02 ∨ k = 0x42 ∨ k = 0x09 ∨ k = 0x0A ∨ k = 0x4A ∨ k = 0x49 then Fmt.active1001 f
  else if k = 0x03 ∨ k = 0x43 ∨ k = 0x06 ∨ k = 0x46 then d.rd D.Flow.DECLARED_KBPS c * 1000 * 1001
  else if Kind.audio k then
    (if d.setsPerCell c = 0 then 0
     else ceilDiv (2048 * (if d.rate96 c then 96000 else 48000) * 1001) (d.setsPerCell c))
  else carried

/-- Packet time of an audio receive context in ns. -/
def Dev.packetNs (d : Dev) (c : Nat) : Nat := if d.on D.NetRxCfg.PTIME_1MS c then 1000000 else 125000

/-- The fill time of a locally originated flow (R70). -/
def Dev.fill (d : Dev) (c : Nat) : Nat :=
  let k := d.kind c
  if k = 1 then Fmt.fillNs 2048 (Fmt.lane1001 (d.format c))
  else if k = 7 then Fmt.fillNs 13056 (Fmt.lane1001 (d.format c))
  else if k = 2 ∨ k = 3 ∨ k = 6 then
    Fmt.fillNs (if d.rd D.NetRxCfg.SENDER_TYPE c = 2 then 24000 else 12000) (d.media1001 c 0)
  else if k = 4 ∨ k = 5 then d.packetNs c
  else 0

/-- What is known of a source: its kind, FORMAT, plane reservation, fill time and PATH, from the record of its originating
context or from what its member tells (R47, R69). -/
def Dev.sourceInfo (d : Dev) (efn : Nat) : Option Remote :=
  match d.originOf efn with
  | some c => some ⟨d.kind c, d.originType c, d.format c, d.rd D.Flow.RESERVED_MBPS c, d.fill c, d.rd D.Flow.PATH c⟩
  | none => Assoc.find d.remote efn

/-- The cell type of a source, 0 where it is not known. -/
def Dev.sourceType (d : Dev) (efn : Nat) : Nat :=
  match d.sourceInfo efn with
  | some r => r.type
  | none => 0

/-- The playout delay of an egress context (R68); on a member other than the headstock the policy entries read the headstock's
values. -/
def Dev.playout (d : Dev) (c : Nat) : Nat :=
  if d.rd D.Xp.DELAY_POLICY 0 = 1 then d.rd D.Xp.UNIFORM_DELAY_NS 0
  else
    let v := d.rd D.OutCfg.DELAY_NS (c - 4096)
    if v = 0 then 1600 else v

/-- The playout delay in force: a committed change waits for the output's next frame boundary (R72). -/
def Dev.delayNow (d : Dev) (c : Nat) : Nat := (d.flowSt c).oldDelay.getD (d.playout c)

/-- The dowel crossings on a flow's path to this device: none for its own flow, two by a relay, else one. -/
def Dev.hopsTo (d : Dev) (efn : Nat) : Nat :=
  match d.originOf efn, Assoc.find d.remote efn with
  | none, some r => if bit r.path (4 * d.me + 3) ∧ bitsOf r.path (4 * d.me) 3 ≠ d.me then 2 else 1
  | _, _ => 0

/-- The delay requirement of a source at an output (R69). -/
def Dev.required (d : Dev) (efn : Nat) : Nat :=
  match d.sourceInfo efn with
  | some r => Fmt.requirement r.fill (d.hopsTo efn)
  | none => 0

/-! ## The ledger (R24 to R29), in Mbit/s -/

/-- The planes' capacity. -/
def planeCapacity : Nat := 12800000
/-- The fixed SDI reservation of the planes (R28). -/
def planeSdi : Nat := 1710720

/-- Is the flow of an ingress context an SDI flow in the ledger's sense (R28)? -/
def Dev.sdiFlow (d : Dev) (c : Nat) : Bool :=
  let k := d.kind c
  k == 1 || (k == 8 && (match Assoc.find d.remote (d.rd D.Flow.EFN c) with | some r => r.kind == 1 | none => false))

/-- The ingress contexts that hold a plane reservation. -/
def Dev.reserving (d : Dev) : List Nat := (d.listed D.Flow.RESERVED_MBPS 4096)

/-- What the planes carry in the ledger: the larger of the fixed SDI reservation and the SDI flows, and every other flow; `more` are the
reservations of flows that have no context here yet, and whether each is an SDI flow. -/
def Dev.planeUseWith (d : Dev) (more : List (Nat × Bool)) : Nat :=
  max planeSdi (sumOf (fun c => if d.sdiFlow c then d.rd D.Flow.RESERVED_MBPS c else 0) d.reserving
      + sumOf (fun x => if x.2 then x.1 else 0) more)
    + sumOf (fun c => if d.sdiFlow c then 0 else d.rd D.Flow.RESERVED_MBPS c) d.reserving
    + sumOf (fun x => if x.2 then 0 else x.1) more

/-- What the planes carry in the ledger. -/
def Dev.planeUse (d : Dev) : Nat := d.planeUseWith []

/-- R26, R29: does a resource admit a change from one total to another? -/
def admits (capacity before after : Nat) : Bool := decide (after ≤ capacity) || decide (after ≤ before)

end Sys2Proof.Machine
end

