-- ==== Sys2Proof/Machine/SdiWords.lean ====
section
/-! DEFINITION. The words of an SDI link (R134, R142 to R145, R150, R353): data streams, TRS, line numbers, line CRCs, the BLACK
generator, ancillary packets, and the transmitter's work on a line. Where a word stands is the standards' (PRESUMED, log 110). -/

namespace Sys2Proof
namespace Sdi

/-! ## Lines, streams and positions -/

/-- Is the link at 270 Mbit/s, where line numbers and CRCs do not exist (R145)? -/
def sd (f : Nat) : Bool := Fmt.raster f == 1 || Fmt.raster f == 2

/-- Does a sample of the sampling take two words of a data stream (4:4:4 on a single link)? -/
def wide (f : Nat) : Bool := decide (1 ≤ Fmt.sampling f) && decide (Fmt.sampling f ≤ 4) && Fmt.mapping f == 0

/-- Words of a line of one data stream. -/
def streamLen (f : Nat) : Nat :=
  if sd f then 2 * Fmt.totalSamples f
  else
    let m := match Fmt.raster f with | 7 => 2 | 8 => 4 | _ => 1
    Fmt.totalSamples f / m * (if wide f then 2 else 1)

/-- Active words of a line of one data stream. -/
def activeLen (f : Nat) : Nat :=
  if sd f then 1440 else (if Fmt.raster f = 3 then 1280 else 1920) * (if wide f then 2 else 1)

/-- Data streams of a link: word j of a line is word ⌊j/K⌋ of stream j mod K. -/
def streams (f : Nat) : Nat := max 1 (Fmt.linkWords f / max 1 (streamLen f))

/-- Words ahead of the horizontal ancillary space: EAV, and above 270 Mbit/s the line number and the CRC. -/
def headLen (f : Nat) : Nat := if sd f then 4 else 8

/-- Where SAV begins. -/
def savAt (f : Nat) : Nat := streamLen f - activeLen f - 4

/-- Is a line in the second field (F of its TRS)? -/
def field2 (f n : Nat) : Bool :=
  match Fmt.raster f with
  | 1 => decide (n < 4) || decide (266 ≤ n)
  | 2 => decide (313 ≤ n)
  | 4 => decide (564 ≤ n)
  | 5 => decide (564 ≤ n)
  | _ => false

/-- Is a line in vertical blanking (V of its TRS)? -/
def blanked (f n : Nat) : Bool :=
  let active := match Fmt.raster f with
    | 1 => (decide (21 ≤ n) && decide (n ≤ 263)) || (decide (283 ≤ n) && decide (n ≤ 525))
    | 2 => (decide (23 ≤ n) && decide (n ≤ 310)) || (decide (336 ≤ n) && decide (n ≤ 623))
    | 3 => decide (26 ≤ n) && decide (n ≤ 745)
    | 4 => (decide (21 ≤ n) && decide (n ≤ 560)) || (decide (584 ≤ n) && decide (n ≤ 1123))
    | 5 => (decide (21 ≤ n) && decide (n ≤ 560)) || (decide (584 ≤ n) && decide (n ≤ 1123))
    | _ => decide (42 ≤ n) && decide (n ≤ 1121)
  !active

/-- The switching lines of a frame: R73's, and that of the second field. -/
def switchLines (f : Nat) : List Nat :=
  match Fmt.raster f with
  | 1 => [10, 273] | 2 => [6, 319] | 4 => [7, 569] | 5 => [7, 569] | _ => [Fmt.switchLine f]

/-- The lines that carry timecode: the first after the switching line of each field (R144). -/
def tcLines (f : Nat) : List Nat := (switchLines f).map (fun n => n + 1)

/-- The lines on which ST 352 puts its packet. -/
def pidLines (f : Nat) : List Nat :=
  match Fmt.raster f with
  | 1 => [13, 276] | 2 => [9, 322] | 4 => [10, 572] | 5 => [10, 572] | _ => [10]

/-! ## The BLACK generator (R150) -/

/-- A 9-bit value with bit 9 the inverse of bit 8. -/
def inv9 (v : Nat) : Nat := v % 512 + (if bit v 8 then 0 else 512)

/-- The fourth word of a TRS. -/
def xyz (f v h : Bool) : Nat :=
  512 + ofBool f * 256 + ofBool v * 128 + ofBool h * 64 + ofBool (v != h) * 32 + ofBool (f != h) * 16 + ofBool (f != v) * 8
    + ofBool ((f != v) != h) * 4

/-- The two words of a line number. -/
def lineWord (n i : Nat) : Nat := if i = 0 then inv9 (n % 128 * 4) else inv9 (n / 128 % 16 * 4)

/-- Black level of word j of a data stream: Y 64, Cb and Cr 512, the components of RGB 64 (R150); 12-bit samples on a single link lie
three to a word. The first half of the streams carry colour, the second half luma. -/
def black (f s j : Nat) : Nat :=
  let luma := decide (streams f ≤ 2 * s)
  let rgb := Fmt.sampling f == 2 || Fmt.sampling f == 4
  let even := j % 2 == 0
  if sd f then (if even then 512 else 64)
  else if wide f && (Fmt.sampling f == 3 || Fmt.sampling f == 4) then
    (if rgb then (if !luma && even then inv9 0x124 else inv9 0)
     else if luma && even then inv9 0x104 else if !luma && even then inv9 0x020 else inv9 0)
  else if rgb then 64
  else if wide f then (if luma != even then 512 else if luma then 64 else if even then 512 else 64)
  else if luma then 64 else 512

/-- Word j of line n of a data stream as the BLACK generator sends it, the CRC apart. -/
def blackWord (f s n j : Nat) : Nat :=
  let trs := fun (i : Nat) (h : Bool) => if i = 0 then 0x3FF else if i < 3 then 0 else xyz (field2 f n) (blanked f n) h
  let sav := savAt f
  if j < 4 then trs j true
  else if j < headLen f then (if j < 6 then lineWord n (j - 4) else 512)
  else if sav ≤ j ∧ j < sav + 4 then trs (j - sav) false
  else black f s j

/-- Line n of a data stream as the BLACK generator sends it, the CRC apart. -/
def blackStream (f s n : Nat) : List Nat := (List.range (streamLen f)).map (blackWord f s n)

/-! ## Streams and words -/

/-- Word j of a list of streams, interleaved. -/
def interleave (ss : List (List Nat)) : List Nat :=
  let k := ss.length
  let a := ss.map List.toArray
  (List.range (k * (ss.headD []).length)).map (fun j => (a.getD (j % k) #[]).getD (j / k) 0)

/-- Stream s of k of a list of interleaved words. -/
def stream {α : Type} (ws : List α) (k s : Nat) : List α := ws.zipIdx.filterMap (fun x => if x.2 % k = s then some x.1 else none)

/-- Words of 10 bits as one value, the first the most significant. -/
def packWords (ws : List Nat) : Nat := ws.foldl (fun a w => a * 1024 + w % 1024) 0

/-- The n words of such a value. -/
def unpackWords (n v : Nat) : List Nat := (List.range n).map (fun i => v / 1024 ^ (n - 1 - i) % 1024)

/-! ## Line CRCs (R145) -/

/-- One bit of the line CRC, x^18 + x^5 + x^4 + 1, least significant bit first. -/
def crcBit (c : Nat) : Nat := if c % 2 = 1 then (c / 2) ^^^ 0x23000 else c / 2
/-- One word of the line CRC. -/
def crcWord (c w : Nat) : Nat :=
  crcBit (crcBit (crcBit (crcBit (crcBit (crcBit (crcBit (crcBit (crcBit (crcBit (c ^^^ (w % 1024)))))))))))
/-- A list of words on top of a CRC. -/
def crcOf (c : Nat) (ws : List Nat) : Nat := ws.foldl crcWord c
/-- The two CRC words. -/
def crcWords (c : Nat) : List Nat := [inv9 (c % 512), inv9 (c / 512 % 512)]

/-- The active words of a line of a data stream. -/
def activeOf (f : Nat) (ws : List Nat) : List Nat := ws.drop (savAt f + 4)

/-- The CRC so far of each stream of a link after a BLACK line n: it runs from the first active word of a line to the line number of the
next. -/
def blackCrcs (f n : Nat) : List Nat := (List.range (streams f)).map (fun s => crcOf 0 (activeOf f (blackStream f s n)))

/-- The line before a line. -/
def lineBefore (f n : Nat) : Nat := if n ≤ 1 then Fmt.totalLines f else n - 1

/-- Put the line CRC in a line of a stream: `c` is the CRC over the active words of the line before. -/
def withCrc (f c : Nat) (ws : List Nat) : List Nat :=
  if sd f then ws else ws.take 6 ++ crcWords (crcOf c (ws.take 6)) ++ ws.drop 8

/-- Line n of one link as the BLACK generator sends it. -/
def blackLine (f n : Nat) : List Nat :=
  let prev := if sd f then [] else blackCrcs f (lineBefore f n)
  interleave ((List.range (streams f)).map (fun s => withCrc f (prev.getD s 0) (blackStream f s n)))

/-- Word w of a frame of the interleaved words of all links (R134), from the first word of line 1. Only words in the place of a CRC take
the whole line. -/
def frameWord (f w : Nat) : Nat :=
  let n := w / max 1 (Fmt.lineWords f) % max 1 (Fmt.totalLines f) + 1
  let j := w % max 1 (Fmt.lineWords f) / max 1 (Fmt.links f)
  let k := streams f
  if !sd f && decide (6 ≤ j / k) && decide (j / k < 8) then
    (crcWords (crcOf (crcOf 0 (activeOf f (blackStream f (j % k) (lineBefore f n)))) ((List.range 6).map (blackWord f (j % k) n)))).getD (j / k - 6) 0
  else blackWord f (j % k) n (j / k)

/-- n bits of the frame from bit `pos`: frames follow each other. -/
def blackBits (f pos n : Nat) : Nat :=
  let a := pos / 10
  let b := ceilDiv (pos + n) 10
  let v := packWords ((List.range (b - a)).map (fun i => frameWord f (a + i)))
  v / 2 ^ (10 * b - pos - n) % 2 ^ n

/-! ## Ancillary packets (ST 291-1) -/

/-- A value of 8 bits with its parity bits. -/
def par8 (v : Nat) : Nat := inv9 (v % 256 + (if sumOf (fun i => v / 2 ^ i % 2) (List.range 8) % 2 = 1 then 256 else 0))

/-- A packet with a correct checksum (R142): data identifier, second identifier or block number, user data. -/
def packet (did sdid : Nat) (data : List Nat) : List Nat :=
  let body := [par8 did, par8 sdid, par8 data.length] ++ data.map par8
  [0, 0x3FF, 0x3FF] ++ body ++ [inv9 (body.foldl (fun a w => a + w % 512) 0)]

/-- What an ancillary space holds, in order: packets, and words outside them. -/
def parse : Nat → List Nat → List (Bool × List Nat)
  | 0, _ => []
  | fuel + 1, ws =>
    match ws with
    | [] => []
    | 0 :: 0x3FF :: 0x3FF :: did :: sdid :: dc :: rest =>
      let n := 7 + dc % 256
      if (6 + rest.length) < n then [(false, ws)]
      else (true, ws.take n) :: parse fuel ((0x3FF :: 0x3FF :: did :: sdid :: dc :: rest).drop (n - 1))
    | w :: rest => (false, [w]) :: parse fuel rest

/-- DID and SDID of a packet. -/
def idOf (p : List Nat) : Nat × Nat := (p.getD 3 0 % 256, p.getD 4 0 % 256)

/-- A payload identifier (ST 352). -/
def isPid (p : List Nat) : Bool := idOf p == (0x41, 0x01)
/-- An ancillary timecode (ST 12-2). -/
def isTc (p : List Nat) : Bool := idOf p == (0x60, 0x60)
/-- The audio group of an audio data or control packet (ST 299-1, ST 299-2). -/
def audioGroup (p : List Nat) : Option Nat :=
  match (idOf p).1 with
  | 0xE7 => some 1 | 0xE6 => some 2 | 0xE5 => some 3 | 0xE4 => some 4 | 0xA7 => some 5 | 0xA6 => some 6 | 0xA5 => some 7 | 0xA4 => some 8
  | 0xE3 => some 1 | 0xE2 => some 2 | 0xE1 => some 3 | 0xE0 => some 4 | 0xA3 => some 5 | 0xA2 => some 6 | 0xA1 => some 7 | 0xA0 => some 8
  | _ => none
/-- DID of a group's audio data packets. -/
def audioDid (g : Nat) : Nat := if g ≤ 4 then 0xE8 - g else 0xA8 + 4 - g
/-- DID of a group's audio control packets. -/
def audioCtrlDid (g : Nat) : Nat := audioDid g - 4

/-- An ancillary space with packets changed or taken out (`f` answers the packet to stand there, or none) and packets placed after the
last (R142); how many found no room. Words after the last packet are the blanking level. Untouched where nothing changes. -/
def edit (space : List Nat) (f : List Nat → Option (List Nat)) (add : List (List Nat)) (blank : Nat → Nat) : List Nat × Nat :=
  let items := parse space.length space
  if add.isEmpty && items.all (fun x => !x.1 || f x.2 == some x.2) then (space, 0)
  else
    let upTo := (items.reverse.dropWhile (fun x => !x.1)).reverse
    let kept := (upTo.filterMap (fun x => if x.1 then f x.2 else some x.2)).flatten
    let room := space.length
    let r := add.foldl (fun (a : List Nat × Nat) p => if room < a.1.length + p.length then (a.1, a.2 + 1) else (a.1 ++ p, a.2)) (kept, 0)
    (r.1 ++ (List.range (room - r.1.length)).map (fun i => blank (r.1.length + i)), r.2)

/-! ## The transmitter's work on a line -/

/-- What the transmitter is to do: replace payload identifiers, or insert them where the source has none (R143); the timecode mode
and the label (R144); pass line CRCs (R145); the groups embedded and the samples of this line, a list of channel words for each
sample, `take` them all out (R153); the count of audio data packets so far. -/
structure Opts where
  pidNew : Bool
  pidSeen : Bool
  tcMode : Nat
  ltc : Nat
  crcPass : Bool
  groups : List Nat
  audio : List (List Nat)
  strip : Bool
  block : Nat
  deriving DecidableEq, Repr

/-- The 16 data of a timecode packet: an eight-digit label as ST 12-2 spreads it over the high four bits of every other word, and
the payload type, 0 for LTC, 1 and 2 for the VITC of the two fields, in bit 3 of the first eight. -/
def tcData (ltc dbb : Nat) : List Nat :=
  (List.range 16).map (fun i =>
    (if i % 2 = 0 then ltc / 16 ^ (i / 2) % 16 * 16 else 0) + (if i < 8 then dbb / 2 ^ i % 2 * 8 else 0))

/-- The audio data packets of a line: one for each group and sample. -/
def audioPackets (o : Opts) : List (List Nat) :=
  (o.audio.zipIdx.map (fun x => o.groups.zipIdx.map (fun g =>
    packet (audioDid g.1) ((o.block + x.2) % 255 + 1)
      ((List.range 24).map (fun i => Config.audioData g.1 i ((x.1.drop (4 * g.2)).take 4) % 256))))).flatten

/-- The audio control packets of a line: one for each group on the second line after a switching line. -/
def audioCtrls (f n : Nat) (o : Opts) : List (List Nat) :=
  if ((switchLines f).map (fun x => x + 2)).contains n then
    o.groups.map (fun g => packet (audioCtrlDid g) 0 ((List.range 11).map (fun i => Config.audioCtrl g i % 256))) else []

/-- What becomes of a packet of the source. -/
def source (f : Nat) (o : Opts) (p : List Nat) : Option (List Nat) :=
  if isPid p then
    (if o.pidNew then some (packet 0x41 0x01 (bytesOf 4 (Config.payloadId f % 2 ^ 32))) else some p)
  else if isTc p then (if o.tcMode = 0 then some p else none)
  else match audioGroup p with
    | some g => if o.strip || o.groups.contains g then none else some p
    | none => some p

/-- Packets to insert in the horizontal space of a stream: identifiers and timecode in every luma stream, audio data in the last colour
stream, audio control in the last luma stream. -/
def inserted (f n s : Nat) (o : Opts) (hasPid : Bool) : List (List Nat) :=
  let k := streams f
  let luma := decide (k ≤ 2 * s) || k == 1
  let pid := if luma && o.pidNew && !o.pidSeen && !hasPid && (pidLines f).contains n then
    [packet 0x41 0x01 (bytesOf 4 (Config.payloadId f % 2 ^ 32))] else []
  let tc := if luma && o.tcMode == 1 && (tcLines f).contains n then
    [packet 0x60 0x60 (tcData o.ltc 0), packet 0x60 0x60 (tcData o.ltc (if (tcLines f).headD 0 = n then 1 else 2))] else []
  let aud := if s + 1 = k / 2 then audioPackets o else []
  let ctl := if s + 1 = k ∧ 1 < k then audioCtrls f n o else []
  pid ++ tc ++ aud ++ ctl

/-- What the transmitter made of a line of one link: its words; packets that found no room; whether a source packet was a payload
identifier; the CRC so far of each stream after its active words; whether an active word changed. -/
structure Sent where
  words : List Nat
  dropped : Nat
  pid : Bool
  crcs : List Nat
  changed : Bool
  deriving DecidableEq, Repr

/-- The transmitter's work on one data stream of a line: `src` is the source's words, none where it holds none (R140); `c` and `ch`
are the CRC over the active words of the line before and whether one of those changed. -/
def sendStream (f n s : Nat) (o : Opts) (src : List (Option Nat)) (c : Nat) (ch : Bool) : Sent :=
  let gen := blackStream f s n
  let ws := (src.zip gen).map (fun x => x.1.getD x.2)
  let holes := src.any Option.isNone
  let h := headLen f
  let sav := savAt f
  let hanc := (ws.take sav).drop h
  let vanc := ws.drop (sav + 4)
  let has := (parse hanc.length hanc).any (fun x => x.1 && isPid x.2)
  let a := edit hanc (source f o) (inserted f n s o has) (fun i => black f s (h + i))
  let b := if blanked f n then edit vanc (source f o) [] (fun i => black f s (sav + 4 + i)) else (vanc, 0)
  let head := if sd f then ws.take 4 else ws.take 4 ++ [lineWord n 0, lineWord n 1] ++ (ws.take 8).drop 6
  let out := head ++ a.1 ++ (ws.take (sav + 4)).drop sav ++ b.1
  let here := holes || out.take 6 != ws.take 6 || a.1 != hanc || ch
  let out := if o.crcPass && !here then out else withCrc f c out
  ⟨out, a.2 + b.2, has, [crcOf 0 b.1], holes || b.1 != vanc⟩

/-- The transmitter's work on a line of one link; `prev` is the CRC of each stream over the active words of the line before. -/
def sendLine (f n : Nat) (o : Opts) (src : List (Option Nat)) (prev : List Nat) (ch : Bool) : Sent :=
  let k := streams f
  let r := (List.range k).map (fun s => sendStream f n s o (stream src k s) (prev.getD s 0) ch)
  ⟨interleave (r.map Sent.words), sumOf Sent.dropped r, r.any Sent.pid, (r.map Sent.crcs).flatten, r.any Sent.changed⟩

/-- The active-picture words of a line of one link; none in vertical blanking. -/
def pictureOf (f n : Nat) (words : List Nat) : List Nat := if blanked f n then [] else words.drop (streams f * (savAt f + 4))

/-- The active-picture words of a BLACK line, of all links. -/
def blackPicture (f n : Nat) : List Nat :=
  if blanked f n then []
  else
    let one := pictureOf f n (interleave ((List.range (streams f)).map (fun s => blackStream f s n)))
    interleave (List.replicate (Fmt.links f) one)

/-- A CRC-32C run on over words of 10 bits, packed into bytes. -/
def crcPicture (c : Nat) (ws : List Nat) : Nat :=
  let n := ceilDiv (10 * ws.length) 8
  (bytesOf n (packWords ws * 2 ^ (8 * n - 10 * ws.length))).foldl crc32cByte c

/-! ## Links of a group (R134) -/

/-- Link i's words of a line of the interleaved stream of L links: word i of the stream is word ⌊i/L⌋ of link i mod L. -/
def linkOf {α : Type} (f i : Nat) (ws : List α) : List α := stream ws (Fmt.links f) i

end Sdi
end Sys2Proof
end

