-- ==== Sys2Proof/Machine/SdiTx.lean ====
section
/-! DEFINITION. The SDI transmitter: words of a source through an output's buffer (R52, R134, R135, R148), the rate follower (R146),
the lines an output sends (R140 to R145, R150, R153), timecode (R144). -/

namespace Sys2Proof.Machine

open Sys2Proof

/-! ## A source's words in an output's buffer -/


/-- Put a mark at the source's switching line. Words of a frame that the output has begun without this source begin to count, and of
two frames that wait the older is dropped. -/
def SdiBuf.atSwitch (b : SdiBuf) : SdiBuf :=
  if b.mute then { b with mute := false, owed := false, lines := [], spans := [] }
  else
    let l := (b.lines.reverse.takeWhile (fun x => x.line != 0)).reverse
    let l := if b.lines.any (fun x => x.line == 0) then l else b.lines
    { b with lines := l ++ [⟨0, []⟩] }

/-- The words of a line, from its runs. -/
def SdiBuf.lineWords (n : Nat) (spans : List (Nat × List Nat)) : List (Option Nat) :=
  let r := spans.foldl (fun (a : List (Option Nat)) s =>
    if a.length ≤ s.1 then a ++ List.replicate (s.1 - a.length) none ++ s.2.map some else a) []
  (r ++ List.replicate (n - r.length) none).take n

/-- The line in progress is whole, or gives way to another. -/
def SdiBuf.finish (f : Nat) (b : SdiBuf) : SdiBuf :=
  if b.spans = [] then b
  else { b with spans := [], lines := if b.mute then b.lines else b.lines ++ [⟨b.line, SdiBuf.lineWords (Fmt.lineWords f) b.spans⟩] }

/-- The place of a line in a frame that begins with the switching line. -/
def SdiBuf.ord (f n : Nat) : Nat := (n + Fmt.totalLines f - Fmt.switchLine f) % Fmt.totalLines f

/-- Words from frame word w on reach the buffer, line by line. -/
def SdiBuf.put (f : Nat) : Nat → SdiBuf → Nat → List Nat → SdiBuf
  | 0, b, _, _ => b
  | fuel + 1, b, w, ws =>
    if ws = [] then b
    else
      let lw := Fmt.lineWords f
      let n := w / lw % Fmt.totalLines f + 1
      let off := w % lw
      let seg := ws.take (lw - off)
      let b := if b.line = n then b else b.finish f
      let passed := if b.line = 0 then n == Fmt.switchLine f && off == 0 else decide (SdiBuf.ord f n < SdiBuf.ord f b.line)
      let b := if passed then b.atSwitch else b
      let b := { b with line := n, spans := b.spans ++ [(off, seg)] }
      let b := if off + seg.length = lw then b.finish f else b
      SdiBuf.put f fuel b ((w + seg.length) % Fmt.frameWords f) (ws.drop (lw - off))

/-- Alignment is lost (R52). -/
def SdiBuf.lose (b : SdiBuf) : SdiBuf := { b with aligned := false, tail := (0, 0), carry := (0, 0) }

/-- Where the EAV preamble begins in the bits held and those of a cell (R52, R135). -/
def SdiBuf.seek (f : Nat) (b : SdiBuf) (cell : Cell) : Option Nat :=
  let l := Fmt.links f
  let n := b.tail.1 + 8 * cell.len
  let v := b.tail.2 * 2 ^ (8 * cell.len) + cell.payload / 2 ^ (8 * (256 - cell.len))
  findPattern v n (preamble l) (30 * l) 0 n

/-- A cell of an SDI stream reaches the buffer: its whole words, from the frame word they begin at. The first cell of a run aligns; after
a missing span the stream aligns where the EAV preamble is found in the bits received since (R52, R135). A short cell ends at its
last whole word (R51). -/
def SdiBuf.take (f : Nat) (b : SdiBuf) (cell : Cell) (first : Bool) : SdiBuf × Nat × List Nat :=
  let len := 8 * cell.len
  let bits := cell.payload / 2 ^ (8 * (256 - cell.len))
  -- the frame word that is the first to begin in the cell (R134)
  let w := (cell.line - 1) * Fmt.lineWords f + cell.woff
  let b := match b.seq with | some s => if cell.seq = (s + 1) % 2 ^ 32 then b else b.lose | none => b
  let b := { b with seq := some cell.seq }
  let b := if first && cell.sof then { b with aligned := true, tail := (0, 0), carry := (0, 0) } else b
  if b.aligned then
    let n := b.carry.1 + len
    let v := b.carry.2 * 2 ^ len + bits
    let r := n % 10
    let w := if b.carry.1 = 0 then w else (w + Fmt.frameWords f - 1) % max 1 (Fmt.frameWords f)
    ({ b with skip := 0, pos := 10 * w + b.carry.1, carry := if cell.len < 256 then (0, 0) else (r, v % 2 ^ r) }, w,
      Sdi.unpackWords (n / 10) (v / 2 ^ r))
  else
    let n := b.tail.1 + len
    let v := b.tail.2 * 2 ^ len + bits
    match b.seek f cell with
    | some i =>
      let m := n - i
      let r := m % 10
      let x : Int := (i : Int) - b.tail.1
      let at_ := (((w : Int) + (x - x % 10) / 10) % (max 1 (Fmt.frameWords f) : Nat)).toNat
      ({ b with aligned := true, tail := (0, 0), skip := i - b.tail.1, pos := 10 * at_ + (b.tail.1 - i)
                carry := if cell.len < 256 then (0, 0) else (r, v % 2 ^ r) }, at_, Sdi.unpackWords (m / 10) (v % 2 ^ m / 2 ^ r))
    | none =>
      let k := min n (30 * Fmt.links f - 1)
      ({ b with tail := (k, v % 2 ^ k), skip := len }, 0, [])

/-- A cell of an SDI stream reaches an SDI output's buffer. -/
def SdiBuf.feed (f : Nat) (b : SdiBuf) (cell : Cell) (first : Bool) : SdiBuf :=
  let r := b.take f cell first
  SdiBuf.put f 8 r.1 r.2.1 r.2.2

/-- The frame begins with this source: words from its switching line on belong to it, and where that has not come, from there on. -/
def SdiBuf.start (b : SdiBuf) : SdiBuf :=
  if b.lines.any (fun x => x.line == 0) then
    { b with lines := (b.lines.reverse.takeWhile (fun x => x.line != 0)).reverse, owed := false, mute := false }
  else { b with lines := [], spans := [], owed := false, mute := true }


/-- What an output's transmitter holds. -/
def Dev.txSt (d : Dev) (c : Nat) : HoldSt := nget d.hold {} c

/-- Change what an output's transmitter holds. -/
def Dev.setTx (d : Dev) (c : Nat) (f : HoldSt → HoldSt) : Dev := { d with hold := nput d.hold {} c (f (d.txSt c)) }

/-! ## Timecode (R144) -/

/-- The two BCD digits of a number below 100. -/
def bcd2 (n : Nat) : Nat := n / 10 % 10 * 16 + n % 10

/-- The frame count of a label, with the drop-frame correction of ST 12-1 (PRESUMED: that standard's count). -/
def dropCount (n : Nat) : Nat :=
  let m := n % 17982
  n + 18 * (n / 17982) + (if 2 ≤ m then 2 * ((m - 2) / 1798) else 0)

/-- The LTC word, laid out as ATC_LTC, of a time of day in ns at a RATE; frame pairs are counted above 30 Hz (PRESUMED: ST 12-1). -/
def ltcOf (ns rate : Nat) : Nat :=
  let r := if rate = 6 then 3 else if rate = 7 then 4 else if rate = 8 then 5 else rate
  let nominal := if r ≤ 2 then 24 else if r = 3 then 25 else 30
  let raw := ns * Fmt.fps1001 r / Fmt.period1001
  let n := if r = 4 then dropCount raw else raw
  let secs := n / nominal
  bcd2 (secs / 3600 % 24) * 2 ^ 24 + bcd2 (secs / 60 % 60) * 2 ^ 16 + bcd2 (secs % 60) * 2 ^ 8
    + (if r = 4 then 64 else 0) + bcd2 (n % nominal)

/-- The timecode an output writes for a frame whose boundary lies at a device time: its time of day plus TC_OFFSET_S; 0 where TC_MODE is
not REGENERATE. -/
def Dev.ltcAt (d : Dev) (c t : Nat) : Nat :=
  if d.kind c = 0x41 ∧ d.rd D.SdiTxCfg.TC_MODE (d.bindIx c) = 1 then
    ltcOf (((t : Int) + d.rdI D.SdiArea.TC_OFFSET_S 0 * 1000000000) % 86400000000000).toNat (Fmt.rate (d.format c))
  else 0

/-- What ATC_LTC shows of an LTC word: eight digits and the drop-frame flag; the other flags of ST 12-1 read 0 (R144). -/
def ltcShown (ltc : Nat) : Nat := ltc &&& 0x3F7F7F7F

/-- The LTC label of a list of ancillary words, where a packet of it holds one: the first payload type of ST 12-2 is 0 (PRESUMED). -/
def ltcIn (ws : List Nat) : Option Nat :=
  match (Sdi.parse ws.length ws).find? (fun x => x.1 && Sdi.isTc x.2 && (List.range 8).all (fun i => !bit (x.2.getD (6 + i) 0) 3)) with
  | some p => some (sumOf (fun i => p.2.getD (6 + 2 * i) 0 % 256 / 16 * 16 ^ i) (List.range 8))
  | none => none

/-- R144: the LTC label that a line of a link carries. -/
def lineLtc (f n : Nat) (words : List Nat) : Option Nat :=
  let k := Sdi.streams f
  (List.range k).findSome? (fun s =>
    let ws := Sdi.stream words k s
    (ltcIn ((ws.take (Sdi.savAt f)).drop (Sdi.headLen f))).orElse (fun _ =>
      if Sdi.blanked f n then ltcIn (ws.drop (Sdi.savAt f + 4)) else none))

/-- R144: the whole lines a receive port's buffer holds are read for timecode, lane by lane. -/
def Dev.readLines (d : Dev) (c : Nat) : Dev :=
  let f := d.format c
  let b := (d.flowSt c).sdi
  let d := d.each (List.range b.lines.length) (fun d i =>
    let x := b.lines.getD i ⟨0, []⟩
    d.each (List.range (if x.line = 0 then 0 else Fmt.links f)) (fun d j =>
      match lineLtc f x.line ((Sdi.linkOf f j x.words).map (fun w => w.getD 0)) with
      | some v => d.wr D.SdiRxStatus.ATC_LTC (d.bindIx c + j) (ltcShown v)
      | none => d))
  d.setFlow c (fun x => { x with sdi := { b with lines := [] } })

/-- Words of a group in stream order (R134), n of them from the stream's word `a` on: the links' words stand one after the other in `v`, link 0 first, 10 bits each. -/
def Sdi.gather (f a n v : Nat) : Nat :=
  let l := max 1 (Fmt.links f)
  -- words of link i among the n
  let cnt := fun (i : Nat) => countIf (fun j => (a + j) % l == i) (List.range n)
  let all := Sdi.unpackWords n v
  let parts := (List.range l).map (fun i => (all.drop (sumOf cnt (List.range i))).take (cnt i))
  Sdi.packWords ((List.range n).map (fun j =>
    let i := (a + j) % l
    (parts.getD i []).getD (countIf (fun m => (a + m) % l == i) (List.range j)) 0))

/-! ## Lines (R140 to R145, R150, R153) -/

/-- The audio groups an output embeds (R353). -/
def Dev.embedGroups (d : Dev) (c : Nat) : List Nat :=
  let l := d.bindIx c
  if d.on D.EmbedCfg.ENABLE l && !Sdi.sd (d.format c) then
    ((List.range 8).filter (fun i => bit (d.rd D.EmbedCfg.GROUPS l) i)).map (fun i => i + 1) else []

/-- What a destination record holds. -/
def Dev.destSt (d : Dev) (r : Nat) : DestSt := nget d.audio.dest {} r

/-- The word of a destination channel at a position, as long as it stays readable. -/
def Dev.destWord (d : Dev) (ch : Nat) (k : Int) : Nat :=
  match (d.destSt (ch / 8)).hist.find? (fun e => (e.1 : Int) == k) with
  | some e => e.2.getD (ch % 8) 0
  | none => 0

/-- Bit i of the channel status that an embedder generates: professional use, 48 kHz, 24-bit, the non-audio bit from DATA, and its CRC
(PRESUMED: the AES3 layout). -/
def csByte (data : Bool) (n : Nat) : Nat := if n = 0 then 0x81 + 2 * ofBool data else if n = 2 then 0x2C else 0
/-- One bit of the channel-status CRC, x^8 + x^4 + x^3 + x^2 + 1, least significant bit first. -/
def csCrcBit (c : Nat) : Nat := if c % 2 = 1 then (c / 2) ^^^ 0xB8 else c / 2
/-- Bit i of the block of 192. -/
def csBit (data : Bool) (i : Nat) : Bool :=
  if i < 184 then bit (csByte data (i / 8)) (i % 8)
  else
    let crc := (List.range 23).foldl (fun c n =>
      csCrcBit (csCrcBit (csCrcBit (csCrcBit (csCrcBit (csCrcBit (csCrcBit (csCrcBit (c ^^^ csByte data n))))))))) 0xFF
    bit crc (i - 184)

/-- A matrix word as an embedder sends it (R353): bits [7:4] generated, or passed. -/
def embedWord (pass : Bool) (k : Int) (w : Nat) : Nat :=
  if pass then w
  else
    let i := (k % 192).toNat
    setBits w 4 4 (ofBool (csBit (bit w 3) i) * 2 + ofBool (i == 0))

/-- The words of position k that an output embeds, group by group. -/
def Dev.embedWords (d : Dev) (c : Nat) (k : Int) : List Nat :=
  let l := d.bindIx c
  ((d.embedGroups c).map (fun g => (List.range 4).map (fun i =>
    embedWord (d.on D.EmbedCfg.CS_MODE l) k (d.destWord (32 * l + 4 * (g - 1) + i) k)))).flatten

/-- The embedder of a lane stops: it starts at its nominal position (R351). -/
def Dev.embedStop (d : Dev) (l : Nat) : Dev :=
  { d with audio := { d.audio with laneR := d.audio.laneR.filter (fun e => e.1 != l), embed := nput d.audio.embed [] l [] } }

/-- The de-embedder of a lane stops: it starts at its nominal position (R351). -/
def Dev.deembedStop (d : Dev) (l : Nat) : Dev := { d with audio := { d.audio with laneW := d.audio.laneW.filter (fun e => e.1 != l) } }

/-- An embedder's clock has left its margin: it reads on at the nominal position (R351). -/
def Dev.embedCentre (d : Dev) (l : Nat) : Dev := ((d.sat D.AudLaneStatus.TX_RECENTRES l 1).sat D.Aud.RECENTRES 0 1).raise Src.AUD_RECENTRE (32 * l)

/-- Read n samples of an embedder from position w on, the nominal position being k − 4 and the margin 3 (Table 12.3). -/
def Dev.embedTake (d : Dev) (c : Nat) (k w : Int) : Nat → Dev × Int × List (List Nat)
  | 0 => (d, w, [])
  | n + 1 =>
    let off : Bool := decide (w < k - 7) || decide (k - 1 < w)
    let w := if off then k - 4 else w
    let r := (if off then d.embedCentre (d.bindIx c) else d).embedTake c k (w + 1) n
    (r.1, r.2.1, d.embedWords c w :: r.2.2)

/-- The samples that the embedder of an output reads for its next `lines` lines, by the output's own clock (R351, R353). -/
def Dev.embedLines (d : Dev) (c lines : Nat) : Dev × List (List Nat) :=
  let l := d.bindIx c
  if d.embedGroups c = [] then (d, [])
  else
    let f := d.format c
    let k : Int := d.audio.pos
    let den := max 1 (Fmt.fps f * Fmt.totalLines f)
    let e := (d.audio.laneR.find? (fun e => e.1 == l)).getD (l, k - 4, 0)
    let n := e.2.2 + 48000 * 1001 * lines
    let r := d.embedTake c k e.2.1 (n / den)
    ({ r.1 with audio := { r.1.audio with laneR := (l, r.2.1, n % den) :: r.1.audio.laneR.filter (fun x => x.1 != l) } }, r.2.2)

/-- What the transmitter is to do with link i's share of a line: source content, or safe content (BLACK or the held frame), whose
identifier is generated. Audio goes into the first link. -/
def Dev.txOpts (d : Dev) (c i : Nat) (safe strip : Bool) (audio : List (List Nat)) : Sdi.Opts :=
  let l := d.bindIx c
  let x := d.txSt c
  let first := i == 0
  ⟨safe || d.on D.SdiTxCfg.PID_MODE l, !safe && (x.pidNow || x.pidLast), d.rd D.SdiTxCfg.TC_MODE l, x.ltc,
    !safe && d.on D.SdiTxCfg.CRC_MODE l, if first then d.embedGroups c else [], if first then audio else [], strip, x.blocks⟩

/-- The CRC carry of link i into line n: of the line sent before it, else of the BLACK line before it. -/
def Dev.txCarry (d : Dev) (c n i : Nat) : List Nat × Bool :=
  let f := d.format c
  match (d.txSt c).prev with
  | some p => if p.1 = Sdi.lineBefore f n then p.2.getD i ([], true) else (Sdi.blackCrcs f (Sdi.lineBefore f n), true)
  | none => (Sdi.blackCrcs f (Sdi.lineBefore f n), true)

/-- A line leaves on every link of an output (R134); answers the words sent. -/
def Dev.sendLine (d : Dev) (c n : Nat) (words : List (Option Nat)) (safe strip : Bool) : Dev × List (List Nat) :=
  let f := d.format c
  let a := if safe then (d, nget d.audio.embed [] (d.bindIx c)) else d.embedLines c 1
  let d := { a.1 with audio := { a.1.audio with embed := nput a.1.audio.embed [] (d.bindIx c) [] } }
  let r := (List.range (Fmt.links f)).map (fun i =>
    let p := d.txCarry c n i
    Sdi.sendLine f n (d.txOpts c i safe strip a.2) (Sdi.linkOf f i words) p.1 p.2)
  let d := d.each (List.range r.length) (fun d i =>
    let x := r.getD i ⟨[], 0, false, [], false⟩
    (d.sat D.SdiTxCounters.INSERT_OVERFLOWS (d.bindIx c + i) x.dropped).emit
      (.sdiLine (d.bindIx c + i) n x.words.length (Sdi.packWords x.words)))
  (d.setTx c (fun x => { x with prev := some (n, r.map (fun s => (s.crcs, s.changed))), pidNow := x.pidNow || r.any Sdi.Sent.pid,
                                blocks := (x.blocks + a.2.length) % 255 }),
    r.map Sdi.Sent.words)

/-- The lines of a BLACK frame that carry a packet beside embedded audio data: identifiers and timecode (R150). -/
def Dev.sendBlack (d : Dev) (c : Nat) : Dev :=
  let f := d.format c
  let lines := (Sdi.pidLines f ++ (if d.rd D.SdiTxCfg.TC_MODE (d.bindIx c) = 1 then Sdi.tcLines f else [])).eraseDups
  d.each lines (fun d n => (d.sendLine c n (List.replicate (Fmt.lineWords f) none) true false).1)

/-- Lines of a BLACK frame that carry no packet, as far as they are asked for (R150). -/
def Dev.showBlack (d : Dev) (c : Nat) (lines : List Nat) : Dev :=
  let f := d.format c
  let sent := Sdi.pidLines f ++ (if d.rd D.SdiTxCfg.TC_MODE (d.bindIx c) = 1 then Sdi.tcLines f else [])
  d.each (lines.filter (fun n => decide (1 ≤ n) && decide (n ≤ Fmt.totalLines f) && !sent.contains n)) (fun d n =>
    let ws := Sdi.blackLine f n
    d.each (d.lanes c) (fun d l => d.emit (.sdiLine l n ws.length (Sdi.packWords ws))))

/-- The held frame, with TRS, line numbers and CRCs regenerated, its audio packets removed, its identifier generated from FORMAT and
timecode by TC_MODE (R153). -/
def Dev.sendHeld (d : Dev) (c : Nat) : Dev :=
  let f := d.format c
  let l := Fmt.links f
  let trs := fun (j : Nat) => j / l / Sdi.streams f < 4 || (decide (Sdi.savAt f ≤ j / l / Sdi.streams f) && decide (j / l / Sdi.streams f < Sdi.savAt f + 4))
  let held := (d.txSt c).held
  d.each (List.range held.length) (fun d i =>
    let x := held.getD i (0, [])
    let links := x.2.map (Sdi.unpackWords (Fmt.linkWords f))
    let words := (Sdi.interleave links).zipIdx.map (fun y => if trs y.2 then none else some y.1)
    (d.sendLine c x.1 words true true).1)

/-- What an SDI output sends from a boundary on: 0 source content, 1 BLACK, 2 the held frame. Samples that wait for the embedder when a
safe frame begins ride its BLACK lines. -/
def Dev.sendSdi (d : Dev) (c content : Nat) : Dev :=
  let d := d.emit (.sdiFrame c content)
  if content = 0 then d
  else
    let d := d.setTx c (fun x => { x with prev := none })
    if content = 2 then d.sendHeld c else d.sendBlack c

end Sys2Proof.Machine
end

