-- ==== Sys2Proof/Machine/Flags.lean ====
section
/-! DEFINITION. The status flags that follow an output into and out of safe state: STATUS of its flow record, TX_STATUS of its
lanes or its network context, and the safe-state counters (R106, R107, R153, R192, R481 to R483). -/

namespace Sys2Proof.Machine

open Sys2Proof

/-- Reasons for safe state that a context keeps (R106): bit numbers of FlowSt.safe. -/
def Safe.noCells : Nat := 0
def Safe.disconnect : Nat := 1
def Safe.indoubt : Nat := 2
def Safe.rebuild : Nat := 3
/-- A reset whose safe state lasts (R504): the content is BLACK whatever SAFE_KIND is. -/
def Safe.reset : Nat := 4
def Safe.untimed : Nat := 5

/-- The instance kind of a source (Table 17.1): 0 DEV, 1 LANE, 2 PORT, 3 CTX, and so on. -/
def sourceKind (src : Nat) : Nat := match Src.table.find? (fun t => t.1 == src) with | some t => t.2.1 | none => 0

/-- Does a source, latched with SAFE for an instance, force an egress context (R481)? -/
def Dev.scopeHas (d : Dev) (src inst c : Nat) : Bool :=
  if d.on D.SourceCfg.SAFE_SCOPE src then true
  else
    let k := d.kind c
    match sourceKind src with
    | 1 => k == 0x41 && decide (inst < 128) && (d.lanes c).contains inst
    | 2 => Kind.netTx k && (d.bindIx c == inst || (d.on D.NetTxCfg.LEG_B_ENABLE (c - 4096) && d.rd D.NetTxCfg.LEG_B_PORT (c - 4096) == inst))
    | 3 => inst == c
    | _ => false

/-- Does a pending SAFE reaction force the context now? -/
def Dev.forced (d : Dev) (c : Nat) : Bool := d.flt.holding.any (fun h => d.scopeHas h.1 h.2 c)

/-- Is the output in safe state? -/
def Dev.isSafe (d : Dev) (c : Nat) : Bool := d.on D.FlowStatus.SAFE c

/-- The SAFE flags of an output's port follow its STATUS. -/
def Dev.showSafe (d : Dev) (c : Nat) (b : Bool) : Dev :=
  let d := d.flag D.FlowStatus.SAFE c b
  let k := d.kind c
  if k = 0x41 then d.each (d.lanes c) (fun d l =>
    let d := d.flag D.SdiTxStatus.SAFE l b
    if b then d else d.flag D.SdiTxStatus.SAFE_HOLD l false)
  else if Kind.netTx k then
    let d := d.flag D.NetTxStatus.SAFE (c - 4096) b
    if b then d else d.flag D.NetTxStatus.SAFE_HOLD (c - 4096) false
  else d

/-- Count an entry to safe state (Tables 05.11, 06.20). -/
def Dev.countSafe (d : Dev) (c : Nat) : Dev :=
  let k := d.kind c
  if k = 0x41 then d.each (d.lanes c) (fun d l => d.sat D.SdiTxCounters.SAFE_ENTRIES l 1)
  else if Kind.netTx k then d.sat D.NetTxCounters.SAFE_ENTRIES (c - 4096) 1
  else d

/-- An output enters safe state; one already in safe state is unchanged by a further forcing (R483). It sends BLACK until its
next frame boundary (R483), which the flag SAFE_HOLD at 0 shows. -/
def Dev.safeNow (d : Dev) (c : Nat) : Dev :=
  if d.isSafe c then d else
    let d := (d.countSafe c).showSafe c true
    { d with hold := nput d.hold {} c { nget d.hold {} c with heldSince := none, expired := false, empty := false } }

/-- An output enters safe state for a reason that it keeps (R106). -/
def Dev.enterSafe (d : Dev) (c why : Nat) : Dev := (d.safeNow c).setFlow c (fun x => { x with safe := setBits x.safe why 1 1 })

/-- A reason for safe state ends; the output itself leaves at its next application instant. -/
def Dev.dropWhy (d : Dev) (c why : Nat) : Dev := d.setFlow c (fun x => { x with safe := setBits x.safe why 1 0 })

/-- R107: the context has taken an anchor, and for SDI kinds set ALIGNED. -/
def Dev.anchoredOk (d : Dev) (c : Nat) : Bool :=
  d.on D.FlowStatus.ANCHORED c && (!Kind.sdiOut (d.kind c) || d.on D.FlowStatus.ALIGNED c)

/-- R107, R483, R504: at an application instant of an output in safe state, the reasons that have ended fall away, and the output
leaves safe state when none is left and no pending SAFE reaction forces it. None leaves it while a COLD or WARM is about to
assert (R492). -/
def Dev.leaveSafe (d : Dev) (c : Nat) : Dev :=
  if !d.isSafe c ∨ d.rst.entering.any (fun r => decide (r.reach ≤ 2)) = true then d
  else
    let d := if d.anchoredOk c && !d.on D.FlowStatus.SOURCE_LOST c then ((d.dropWhy c Safe.noCells).dropWhy c Safe.rebuild).dropWhy c Safe.reset else d
    if (d.flowSt c).safe = 0 ∧ d.forced c = false then d.showSafe c false else d

/-- SAFE forces every egress context in a source's scope that is enabled (R481). -/
def Dev.forceScope (d : Dev) (src inst : Nat) : Dev :=
  d.each (d.enabled.filter (fun c => decide (4096 ≤ c) && d.scopeHas src inst c)) (fun d c => d.safeNow c)

/-! ## HOLD (R151 to R153, R190 to R192) -/

/-- SAFE_KIND of an output is HOLD. -/
def Dev.holdKind (d : Dev) (c : Nat) : Bool :=
  if d.kind c = 0x41 then d.rd D.SdiTxCfg.SAFE_KIND (d.bindIx c) == 1
  else Kind.netTx (d.kind c) && d.rd D.NetTxCfg.SAFE_KIND (c - 4096) == 1

/-- Is a held frame there? -/
def Dev.holdReady (d : Dev) (c : Nat) : Bool :=
  if d.kind c = 0x41 then d.on D.SdiTxStatus.HOLD_READY (d.bindIx c) else d.on D.NetTxStatus.HOLD_READY (c - 4096)

/-- Show whether a held frame is there. -/
def Dev.setHoldReady (d : Dev) (c : Nat) (b : Bool) : Dev :=
  if d.kind c = 0x41 then d.each (d.lanes c) (fun d l => d.flag D.SdiTxStatus.HOLD_READY l b)
  else d.flag D.NetTxStatus.HOLD_READY (c - 4096) b

/-- Show whether the safe output is sending the held frame. -/
def Dev.setSafeHold (d : Dev) (c : Nat) (b : Bool) : Dev :=
  if d.kind c = 0x41 then d.each (d.lanes c) (fun d l => d.flag D.SdiTxStatus.SAFE_HOLD l b)
  else if Kind.netTx (d.kind c) then d.flag D.NetTxStatus.SAFE_HOLD (c - 4096) b
  else d

/-- Is the safe output sending the held frame? -/
def Dev.safeHold (d : Dev) (c : Nat) : Bool :=
  if d.kind c = 0x41 then d.on D.SdiTxStatus.SAFE_HOLD (d.bindIx c) else d.on D.NetTxStatus.SAFE_HOLD (c - 4096)

/-- HOLD_MAX_S of an output. -/
def Dev.holdMax (d : Dev) (c : Nat) : Nat :=
  if d.kind c = 0x41 then d.rd D.SdiTxCfg.HOLD_MAX_S (d.bindIx c) else d.rd D.NetTxCfg.HOLD_MAX_S (c - 4096)

/-- Count a held frame sent. -/
def Dev.countHeld (d : Dev) (c : Nat) : Dev :=
  if d.kind c = 0x41 then d.each (d.lanes c) (fun d l => d.sat D.SdiTxCounters.HOLD_FRAMES l 1)
  else d.sat D.NetTxCounters.HOLD_FRAMES (c - 4096) 1

/-- The fault of a HOLD with no held frame: SDI_HOLD_EMPTY (R153), NET_HOLD_EMPTY (R192). -/
def Dev.holdEmpty (d : Dev) (c : Nat) : Dev :=
  if d.kind c = 0x41 then d.raise Src.SDI_HOLD_EMPTY (d.bindIx c) else d.raise Src.NET_HOLD_EMPTY c

/-- UTC_OFFSET_S (R378): the followed leader's while it is valid, else UTC_OFFSET_DEFAULT_S. -/
def Dev.utcOffset (d : Dev) : Nat := d.time.utc.getD (d.rd D.Time.UTC_OFFSET_DEFAULT_S 0)

/-- An output sends a frame: 0 source content, 1 BLACK, 2 the held frame (R150, R153); ST 2110-22 has no BLACK. -/
def Dev.sendFrame (d : Dev) (c content : Nat) : Dev :=
  if d.kind c = 0x41 then d.sendSdi c content
  else if d.kind c = 0x43 ∧ content = 1 then d
  else d.emit (.sdiFrame c content)

/-- The start of a frame of an output in safe state (R153, R483, R504): HOLD repeats the held frame, and BLACK is sent where
SAFE_KIND is BLACK, after a reset, where no held frame exists, or where HOLD_MAX_S has passed. -/
def Dev.safeFrame (d : Dev) (c : Nat) : Dev :=
  if d.holdKind c = false ∨ bit (d.flowSt c).safe Safe.reset then (d.setSafeHold c false).sendFrame c 1
  else
    let h := nget d.hold {} c
    if d.holdReady c = false then
      ((if h.empty then d
        else (d.setTx c (fun h => { h with empty := true, heldSince := some (h.heldSince.getD d.wall) })).holdEmpty c).setSafeHold c false).sendFrame c 1
    else if h.expired then (d.setSafeHold c false).sendFrame c 1
    else
      let d := d.setTx c (fun h => { h with heldSince := some (h.heldSince.getD d.wall), empty := false })
      ((d.setSafeHold c true).countHeld c).sendFrame c 2

/-- R152: at the end of an armed SDI output's frame, the frame becomes the held frame where every line of it was written, none with a
substituted word; the next goes into the other half of the blocks. -/
def Dev.sdiFrameEnd (d : Dev) (c : Nat) : Dev :=
  let x := d.txSt c
  let whole := decide (x.write.length = Fmt.totalLines (d.format c))
  let d := d.setTx c (fun x => { x with write := [], held := if whole then x.write else x.held, half := if whole then !x.half else x.half
                                        pidNow := false, pidLast := x.pidNow, ltc := x.ltcNext, sig := 0xFFFFFFFF, sigLines := 0 })
  if whole then d.setHoldReady c true else d

/-- R191: at the end of a frame of a network output, an armed output's frame becomes the held frame where it began at a boundary in
service, holds no substituted word, and the output holds its blocks. The next frame begins; it is known to be unfit where the output
has no source content now. -/
def Dev.frameEnd (d : Dev) (c : Nat) (armed : Bool) : Dev :=
  let x := d.flowSt c
  let clean := x.boundary.isSome && !(d.txSt c).dirty && !d.isSafe c
  let unfit := !d.anchoredOk c || x.cur.isNone || x.waitTimed || d.isSafe c || d.on D.FlowStatus.SOURCE_LOST c
  let d := d.setTx c (fun h => { h with dirty := unfit, half := if armed && clean then !h.half else h.half })
  let n := nget d.netTx {} c
  let d := if Kind.netTx (d.kind c) && !Kind.audio (d.kind c) then
      { d with netTx := nput d.netTx {} c { n with heldFrame := if armed && clean then n.collect else n.heldFrame, collect := ⟨0, 0⟩ } }
    else d
  if armed && clean then d.setHoldReady c true else d

end Sys2Proof.Machine
end

