-- ==== Sys2Proof/Machine/Addr.lean ====
section
/-! DEFINITION. Network addresses: MAC and link-local addresses of the ports, group MAC addresses, what is addressed to an interface
(R163 to R166, R172), and what the management cores take in (R165). -/

namespace Sys2Proof.Machine

open Sys2Proof

/-- Is the port UP? -/
def Dev.portUp (d : Dev) (p : Nat) : Bool := d.rd D.PortStatus.LINK p == 2

/-- The MAC address of port p (R163). -/
def portMac (p : Nat) : Nat := (Config.baseMac + p) % 2 ^ 48

/-- Is an address an IPv4 one, in IPv6-mapped form? -/
def isV4 (a : Nat) : Bool := a / 2 ^ 32 == 0xFFFF

/-- The MAC address of a multicast destination: RFC 1112 for IPv4, RFC 2464 for IPv6 (R166; PRESUMED: those documents' mapping). -/
def groupMac (a : Nat) : Nat := if isV4 a then 0x01005E000000 + a % 2 ^ 23 else 0x333300000000 + a % 2 ^ 32

/-- The IPv6 link-local address of a MAC address, by its modified EUI-64 (R164; PRESUMED: RFC 4291's form). -/
def linkLocal (mac : Nat) : Nat :=
  let hi := mac / 2 ^ 24 % 2 ^ 24
  0xFE80 * 2 ^ 112 + ((hi ^^^ 0x020000) * 2 ^ 40 + 0xFFFE * 2 ^ 24 + mac % 2 ^ 24)

/-- The addresses of an interface (element 8p + i of IF_CFG): IPv4 in mapped form, IPv6, link-local. -/
def Dev.ifAddrs (d : Dev) (i : Nat) : List Nat :=
  let v4 := d.rd D.IfCfg.IPV4_ADDR i
  let v6 := d.rd D.IfCfg.IPV6_ADDR i
  (if v4 = 0 then [] else [0xFFFF * 2 ^ 32 + v4]) ++ (if v6 = 0 then [] else [v6]) ++ [linkLocal (portMac (i / 8))]

/-- The groups an interface is in without reporting them: all hosts, all nodes, and the solicited-node groups of its addresses (PRESUMED:
RFC 3376, RFC 4861). -/
def Dev.ownGroups (d : Dev) (i : Nat) : List Nat :=
  [0xFFFFE0000001, 0xFF02 * 2 ^ 112 + 1]
    ++ ((d.ifAddrs i).filter (fun a => !isV4 a)).map (fun a => 0xFF02 * 2 ^ 112 + 0x1FF * 2 ^ 24 + a % 2 ^ 24)

/-- VLAN of interface i of port p, none where it is not enabled. -/
def Dev.ifVlan (d : Dev) (p i : Nat) : Option Nat :=
  if d.on D.IfCfg.ENABLE (8 * p + i) then some (d.rd D.IfCfg.VLAN_ID (8 * p + i)) else none

/-- R166: does an address lie inside the prefix of an interface? A link-local one lies on every link. -/
def Dev.inPrefix (d : Dev) (i a : Nat) : Bool :=
  let inside (w prefix_ own a : Nat) : Bool := own != 0 && a / 2 ^ (w - prefix_) == own / 2 ^ (w - prefix_)
  if isV4 a then inside 32 (d.rd D.IfCfg.IPV4_PREFIX i) (d.rd D.IfCfg.IPV4_ADDR i) (a % 2 ^ 32)
  else inside 128 (d.rd D.IfCfg.IPV6_PREFIX i) (d.rd D.IfCfg.IPV6_ADDR i) a || a / 2 ^ 64 == 0xFE80000000000000

/-- R166: the address that a unicast destination's next hop is resolved by: its own, or the interface's gateway. -/
def Dev.nextHop (d : Dev) (i a : Nat) : Nat :=
  if d.inPrefix i a then a
  else if isV4 a then 0xFFFF * 2 ^ 32 + d.rd D.IfCfg.IPV4_GATEWAY i else d.rd D.IfCfg.IPV6_GATEWAY i

/-- The source address of what an interface sends to a destination of a family. -/
def Dev.sourceAddr (d : Dev) (i dst : Nat) : Nat :=
  if isV4 dst then 0xFFFF * 2 ^ 32 + d.rd D.IfCfg.IPV4_ADDR i
  else if d.rd D.IfCfg.IPV6_ADDR i = 0 then linkLocal (portMac (i / 8)) else d.rd D.IfCfg.IPV6_ADDR i

/-! ## What the management cores take in -/

/-- Frames a port has handed to the management cores in the second that runs: when it began, how many. A second begins with the first
frame after the last one ended (DESIGN CHOICE). -/
def Dev.coreSecond (d : Dev) (p : Nat) : Nat × Nat :=
  let x := nget d.netPort {} p
  if d.past x.ctrlAt 1000000000 then (d.wall, 0) else (x.ctrlAt, x.ctrl)

/-- Do the cores take one more frame of a port (R165)? -/
def Dev.coresTake (d : Dev) (p : Nat) : Bool := decide ((d.coreSecond p).2 < 1000)

/-- A frame for the management cores is counted (R165): taken in, or discarded beyond 1,000 in a second. -/
def Dev.coreFrame (d : Dev) (p : Nat) : Dev :=
  let u := d.coreSecond p
  let take := decide (u.2 < 1000)
  let d := d.sat D.PortCounters.CTRL_FRAMES p 1
  let d := if take then d else d.sat D.PortCounters.CTRL_DROPS p 1
  { d with netPort := nput d.netPort {} p { nget d.netPort {} p with ctrlAt := u.1, ctrl := u.2 + ofBool take } }

/-- The port of an in-band way into the device. -/
def viaPort (via : Nat) : Nat := (via - 2) / 8

end Sys2Proof.Machine
end

