-- ==== Sys2Proof/Machine/RcpCore.lean ====
section
/-! DEFINITION. Receiving an RCP frame: acceptance, sequence numbers, holding, retransmission, the response (R408 to R418,
R502, R505), and the checks every write passes before its entry acts. -/

namespace Sys2Proof.Machine

open Sys2Proof

/-! ## Status codes (Table 15.5) -/

namespace St
def OK : Nat := 0x00
def NO_ENTRY : Nat := 0x01
def ACCESS : Nat := 0x02
def TYPE : Nat := 0x03
def RANGE : Nat := 0x04
def BUSY : Nat := 0x05
def STATE : Nat := 0x06
def COMMIT_CONFLICT : Nat := 0x07
def AUTH : Nat := 0x08
def RESOURCE : Nat := 0x09
def TIMEOUT : Nat := 0x0A
def FORMAT : Nat := 0x0B
def LINEBUF : Nat := 0x0C
def BANDWIDTH : Nat := 0x0D
def UNTIMED : Nat := 0x0E
def NOT_OWNER : Nat := 0x0F
def ROLLBACK : Nat := 0x10
def INCOMPATIBLE : Nat := 0x11
/-- No status of Table 15.5: the response is sent later, by the event that completes the operation (R374). -/
def LATER : Nat := 0x100
/-- No status of Table 15.5: the request waits, and is taken up again later (R462, R530). -/
def DEFER : Nat := 0x101
end St

/-- A response: its status and its payload. -/
structure Reply where
  status : Nat
  payload : Bytes
  deriving DecidableEq, Repr

/-- A response without a payload. -/
def Reply.of (st : Nat) : Reply := ⟨st, ⟨0, 0⟩⟩

/-- Who asks: the session (0 none), its role, the port. -/
structure Who where
  session : Nat
  role : Nat
  via : Nat
  deriving DecidableEq, Repr

/-! ## Sessions -/

/-- The open session of an identity. -/
def Dev.session? (s : Dev) (id : Nat) : Option Session := s.rcp.sessions.find? (fun x => x.id == id)

/-- Change one session. -/
def Dev.setSession (s : Dev) (id : Nat) (f : Session → Session) : Dev :=
  { s with rcp := { s.rcp with sessions := s.rcp.sessions.map (fun x => if x.id = id then f x else x) } }

/-- The session without the commit group it holds: GROUP_HOLDER reads 0 (R422). -/
def Dev.dropGroup (s : Dev) : Dev := { s with rcp := { s.rcp with group := none } }

/-- A slot of the boot flash. -/
def Dev.slot (s : Dev) (k : Nat) : ImgSlot := nget s.sec.slots {} k

/-- Change a slot. -/
def Dev.setSlot (s : Dev) (k : Nat) (f : ImgSlot → ImgSlot) : Dev :=
  { s with sec := { s.sec with slots := nput s.sec.slots {} k (f (s.slot k)) } }

/-- The boot control record in force (R438); neither copy valid: CONFIRMED A, no trial (R470). -/
def Dev.boot (s : Dev) : BootRec :=
  let a := s.sec.boot0
  let b := s.sec.boot1
  if a.valid && (!b.valid || decide (b.gen ≤ a.gen)) then a
  else if b.valid then b else { valid := false }

/-- R458: the target slot. -/
def Dev.targetSlot (s : Dev) : Nat :=
  if s.rst.recovery ∨ s.sec.running = 2 then s.boot.confirmed else 1 - s.boot.confirmed

/-- R458: the update session ends other than by END: its slot is left EMPTY and the state returns to IDLE. -/
def Dev.updateDrop (s : Dev) : Dev :=
  ((s.setSlot s.targetSlot (fun _ => {})).wr D.Upd.UPDATE_STATE 0 0).wr D.Upd.UPDATE_HOLDER 0 0

/-- An update session is open for a session identity. -/
def Dev.updateHolds (s : Dev) (id : Nat) : Bool := s.rd D.Upd.UPDATE_STATE 0 == 1 && s.rd D.Upd.UPDATE_HOLDER 0 == id

/-- R417: a session ends; its transfer and subscriptions go with it, and its commit group is discarded. An update session it
holds, or is a candidate for, ends with it (R458, R471). -/
def Dev.closeSession (s : Dev) (id : Nat) : Dev :=
  let s := match s.rcp.group with
    | some g => if g.holder = id then s.dropGroup else s
    | none => s
  let s := if s.updateHolds id then s.updateDrop else s
  { s with rcp := { s.rcp with sessions := s.rcp.sessions.filter (fun x => x.id != id) },
           sec := { s.sec with candidates := s.sec.candidates.filter (fun c => c.session != id) } }

/-- PWR_WARN_N is low: no flash operation starts (R530). -/
def Dev.pwrWarn (s : Dev) : Bool := s.pwr.warnLow

/-- The controller of an image kind (2 LNC, 3 MEM, 4 TMC) restarts (R462). -/
def Dev.restarts (s : Dev) (kind : Nat) : Bool := s.sec.restarting == some kind

/-! ## Frames (R409, R410) -/

/-- Directions of a nonce. -/
def Dir.REQUEST : Nat := 0
def Dir.RESPONSE : Nat := 1
def Dir.NOTIFICATION : Nat := 2

/-- R410: the 12 bytes of a nonce: SESSION, the direction, three zeros, SEQ. -/
def gcmNonce (session dir seq : Nat) : Nat := session % 2 ^ 32 * 2 ^ 64 + dir * 2 ^ 56 + seq % 2 ^ 32

/-- R447: the request key, and the key for responses and notifications. -/
def requestKey (k : Nat) : Nat := k / 2 ^ 256 % 2 ^ 256
def deviceKey (k : Nat) : Nat := k % 2 ^ 256

/-- The 16 bytes of a header (Table 15.2). -/
def rcpHeader (magic version flags session seq op status len : Nat) : Bytes :=
  ⟨16, pack [(16, magic), (8, version), (8, flags), (32, session), (32, seq), (8, op), (8, status), (16, len)]⟩

/-- A frame's bytes: the header; the payload and a CRC-32C over both, or the payload's encryption and its 16-byte tag, with the header as
additional data (R409, R410). -/
def rcpFrame (header payload : Bytes) (closing : Option (Nat × Nat)) : Bytes :=
  match closing with
  | none => let b := header.app payload; b.app ⟨4, crc32c (bytesOf b.len b.val)⟩
  | some (key, nonce) => header.app ⟨payload.len + 16, Config.gcmSeal key nonce header payload⟩

/-- The datagram that a request with a payload is; none where its CRC is wrong (R409, R410). -/
def requestDatagram (q : Rcp) (payload : Bytes) : Option Bytes :=
  let h := rcpHeader q.magic q.version q.flags q.session q.seq q.op 0 payload.len
  match q.closing with
  | .crc ok => if ok then some (rcpFrame h payload none) else none
  | .gcm k nonce => some (rcpFrame h payload (some (requestKey k, nonce)))

/-- The payload of a NOTIFY (Table 15.7): subscription, LOST, the count of items, and each item: INDEX, SUB, its value's length and bytes,
zeros to a multiple of 4. -/
def notifyPayload (sub : Nat) (lost : Bool) (items : List (Nat × Nat × Bytes)) : Bytes :=
  items.foldl (fun (b : Bytes) i =>
    (b.app (Bytes.app ⟨4, pack [(16, i.1), (8, i.2.1), (8, i.2.2.len)]⟩ i.2.2)).app ⟨(4 - i.2.2.len % 4) % 4, 0⟩)
    ⟨4, pack [(8, sub), (8, ofBool lost * 128), (16, items.length)]⟩

/-- The datagram in which a response or a notification leaves. -/
def Emission.datagram : Emission → Option Bytes
  | .response _ _ _ session seq op status payload closing => some (rcpFrame (rcpHeader 0x5243 1 0x80 session seq op status payload.len) payload closing)
  | .notify session count sub lost items closing =>
    let p := notifyPayload sub lost items
    some (rcpFrame (rcpHeader 0x5243 1 0x40 session count 9 0 p.len) p (some closing))
  | _ => none

/-- Does a frame end in the right CRC or tag: in a session, one made with the session's request key and this frame's nonce (R410, R411)? -/
def Dev.sealOk (s : Dev) (q : Rcp) : Bool :=
  if q.session = 0 then q.closing == .crc true
  else match s.session? q.session with
    | some x => q.closing == .gcm x.key (gcmNonce q.session Dir.REQUEST q.seq)
    | none => false

/-- The key and nonce of the response to a request (R410). -/
def sealBack (q : Rcp) : Option (Nat × Nat) :=
  if q.session = 0 then none
  else match q.closing with
    | .gcm k _ => some (deviceKey k, gcmNonce q.session Dir.RESPONSE q.seq)
    | .crc _ => none

/-! ## Acceptance -/

/-- Safe boot is in force (R502). -/
def Dev.safeBoot (s : Dev) : Bool := s.on D.TrimResult.SAFE_BOOT 0

/-- Is the device listening on the port a frame arrives at (R408, R471, R502, R505)? -/
def Dev.listens (s : Dev) (via : Nat) : Bool :=
  !s.inReset && (s.safeBoot || decide (4 ≤ s.stage) || s.rst.recovery)
    && (if via ≤ 1 then true
        else bit s.rcp.inUse.inband (via - 2) && decide (6 ≤ s.stage) && !s.safeBoot && !s.rst.recovery && s.portUp (viaPort via))

/-- A frame that is only counted: it is sent to another UDP port than RCP_UDP_PORT in effect (R408), or it comes in band beyond the 1,000
frames that the management cores take in a second (R165). -/
def Dev.passedBy (s : Dev) (q : Rcp) : Bool :=
  !s.rcp.retake && (q.dst != s.rcp.inUse.port || (decide (2 ≤ q.via) && !s.coresTake (viaPort q.via)))

/-- The header checks of R411 that need no session. -/
def headerOk (q : Rcp) : Bool := q.magic == 0x5243 && q.version == 0x01 && q.lenOk && !bit q.flags 7 && !bit q.flags 6

/-- A frame received is counted, once: by its management port (Table 15.15), or by its network port, which hands it to the management
cores (R165). -/
def Dev.mgRx (s : Dev) (via : Nat) : Dev :=
  if s.rcp.retake then s
  else if via ≤ 1 then s.sat D.MgCounters.RX_FRAMES via 1
  else (s.sat D.PortCounters.RX_FRAMES (viaPort via) 1).coreFrame (viaPort via)

/-- A management port counts an RCP frame accepted. -/
def Dev.mgAccept (s : Dev) (via : Nat) : Dev := if via ≤ 1 then s.sat D.MgCounters.RCP_FRAMES via 1 else s

/-- A frame is discarded without an answer (R411). -/
def Dev.dropFrame (s : Dev) : Dev := s.sat D.Rcp.FRAMES_DROPPED 0 1

/-- An operation code Table 15.3 does not let a client send. -/
def unknownOp (op : Nat) : Bool := op == 0 || op == 9 || decide (0x0D < op)

/-- R418, R502: may a SESSION 0 READ or READ_DOM of an index be answered on a port now? -/
def Dev.anonAllowed (s : Dev) (ix : Nat) : Bool :=
  if s.safeBoot then decide (ix ≤ 0x00FF) || (decide (0x0400 ≤ ix) && decide (ix ≤ 0x05FF)) || (decide (0x1200 ≤ ix) && decide (ix ≤ 0x12FF))
  else decide (5 ≤ s.stage) && s.on D.Rcp.ANON_VIEW 0

/-- The port a frame comes by, in-band interfaces by their network port: 0 MG0, 1 MG1, 2 + p. -/
def portOf (via : Nat) : Nat := if via ≤ 1 then via else 2 + viaPort via

/-- SESSION 0 frames answered on a port in the present second (R418). -/
def Dev.anonUsed (s : Dev) (via : Nat) : Nat × Nat :=
  match s.rcp.anon.find? (fun a => a.1 == portOf via) with
  | some a => if s.wall < a.2.1 + 1000000000 then a.2 else (s.wall, 0)
  | none => (s.wall, 0)

/-- Count one SESSION 0 frame answered on a port. -/
def Dev.anonCount (s : Dev) (via : Nat) : Dev :=
  let u := s.anonUsed via
  { s with rcp := { s.rcp with anon := (portOf via, u.1, u.2 + 1) :: s.rcp.anon.filter (fun a => a.1 != portOf via) } }

/-- R471: in recovery start-up an index other than those of the security and firmware areas returns STATE. -/
def recoveryServes (ix : Nat) : Bool := ix == 0x0200 || ix == 0x0300 || ix == 0x0301 || ix == 0x0310

/-! ## Serving a request -/

/-- R430: an authenticated request confirms a management change under test. -/
def Dev.confirmMg (s : Dev) : Dev :=
  match s.rcp.test with
  | some _ => ({ s with rcp := { s.rcp with test := none } }.flag D.MgStatus.CONFIRM_PENDING 0 false).flag
      D.MgStatus.CONFIRM_PENDING 1 false
  | none => s

/-- A valid request has arrived: the session's idle time restarts and its latest source is kept (R408, R417). -/
def Dev.heard (s : Dev) (q : Rcp) : Dev :=
  if s.rcp.retake then s
  else
    let s := s.setSession q.session (fun x => { x with reqAt := s.wall, via := q.via, peer := q.peer, port := q.port })
    (s.mgAccept q.via).confirmMg

/-- A request waits, and is taken up again later (R462, R530). -/
def Dev.postpone (s : Dev) (me : Instr) : Dev :=
  if s.sec.waiting.contains me then s else { s with sec := { s.sec with waiting := s.sec.waiting ++ [me] } }

/-- A frame is sent on a port, which counts it (Tables 06.11, 15.15). -/
def Dev.sendOn (s : Dev) (via : Nat) (e : Emission) : Dev :=
  (if via ≤ 1 then s.sat D.MgCounters.TX_FRAMES via 1 else s.sat D.PortCounters.TX_FRAMES (viaPort via) 1).emit e

/-- A response that an operation completed later owes: it is sent and kept for retransmission (R374, R414). -/
def Dev.answerLate (s : Dev) (session seq op status : Nat) : Dev :=
  match s.session? session with
  | none => s
  | some x =>
    (s.setSession session (fun x => { x with cache := (⟨seq, op, status, ⟨0, 0⟩⟩ :: x.cache).take 32 })).sendOn x.via
      (.response x.via x.peer x.port session seq op status ⟨0, 0⟩ (some (deviceKey x.key, gcmNonce session Dir.RESPONSE seq)))

/-- Execute a request: the response is sent, and kept for retransmission with the sequence number (R414). -/
def Dev.answer (s : Dev) (q : Rcp) (r : Reply) : Dev :=
  if r.status = St.LATER then s.setSession q.session (fun x => { x with last := q.seq, held := x.held.filter (fun h => h.1 != q.seq) })
  else
  (s.setSession q.session (fun x =>
    { x with last := q.seq, held := x.held.filter (fun h => h.1 != q.seq),
             cache := (⟨q.seq, q.op, r.status, r.payload⟩ :: x.cache).take 32 })).sendOn q.via
    (.response q.via q.peer q.port q.session q.seq q.op r.status r.payload (sealBack q))

/-- The answer an operation gets before its body runs: an unknown OP (R411), an operation not served yet (R505), an index
recovery start-up does not serve (R471). -/
def Dev.gate (s : Dev) (q : Rcp) (early : Bool) (ix : Option Nat) : Option Nat :=
  if unknownOp q.op then some St.FORMAT
  else if s.rst.recovery then
    match ix with
    | some i => if recoveryServes i then none else some St.STATE
    | none => none
  else if s.stage < 6 ∧ early = false then some St.BUSY
  else none

/-- R414: run the request, hold it, resend the kept response, or discard it. While the MGT image restarts a request waits
(R462), and one that must write the flash waits while PWR_WARN_N is low (R530). -/
def Dev.sequenced (s : Dev) (me : Instr) (q : Rcp) (early : Bool) (ix : Option Nat) (x : Session)
    (body : Who → Dev → Dev × Reply) : Dev :=
  let d := sdiff q.seq x.last 32
  if d = 1 then
    match s.gate q early ix with
    | some st => s.answer q (Reply.of st)
    | none =>
      let r := body ⟨x.id, x.role, q.via⟩ s
      if s.sec.restarting = some 1 ∨ r.2.status = St.DEFER then
        s.postpone me
      else r.1.answer q r.2
  else if 2 ≤ d ∧ d ≤ 8 then
    if x.held.any (fun h => h.1 == q.seq) then s
    else s.setSession x.id (fun y => { y with held := y.held ++ [(q.seq, me)], heldAt := if y.held.isEmpty then s.wall else y.heldAt })
  else if -31 ≤ d ∧ d ≤ 0 then
    match x.cache.find? (fun c => c.seq == q.seq) with
    | some c => (s.sendOn q.via (.response q.via q.peer q.port q.session c.seq c.op c.status c.payload (sealBack q))).sat D.Rcp.RETRANSMITS 0 1
    | none => s
  else s

/-- Receive an RCP request frame. `anon` says whether the operation is one that SESSION 0 may use (READ, READ_DOM), `early`
whether it is served before SERVICE (R505), `ix` the index it names. -/
def serve (me : Instr) (q : Rcp) (anon early : Bool) (ix : Option Nat) (body : Who → Dev → Dev × Reply) (s0 : Dev) :
    Dev :=
  let s := s0.elapse q.dt
  if !s.listens q.via then s
  else
  if s.passedBy q then s.mgRx q.via
  else
  let s := s.mgRx q.via
  if !headerOk q then s.dropFrame
  else if q.session = 0 then
    if s.sealOk q && anon && s.anonAllowed (ix.getD 0) && decide ((s.anonUsed q.via).2 < 10) then
      if s.restarts 1 then s.postpone me
      else
      let s := (s.anonCount q.via).mgAccept q.via
      let r := match s.gate q early ix with
        | some st => (s, Reply.of st)
        | none => body ⟨0, 0, q.via⟩ s
      r.1.sendOn q.via (.response q.via q.peer q.port 0 q.seq q.op r.2.status r.2.payload none)
    else s.dropFrame
  else
    match s.session? q.session with
    | none => s.dropFrame
    | some x =>
      if !s.sealOk q then s.dropFrame.sat D.Rcp.AUTH_FAILURES 0 1
      else (s.heard q).sequenced me q early ix x body

/-! ## Writing an entry -/

/-- R442: the role check of a write; an entry of the OWNER role returns NOT_OWNER while no owner is enrolled. -/
def Dev.roleFail (s : Dev) (w : Who) (need : Nat) : Option Nat :=
  if need = 4 ∧ s.rd D.Sec.OWNER_STATE 0 = 0 then some St.NOT_OWNER
  else if w.role < need then some St.ACCESS else none

/-- The checks of a WRITE that hold for every entry, in the order NO_ENTRY, ACCESS, TYPE, RANGE (R3, R6, R9, R10, R12, R413). -/
def Dev.writeFail (s : Dev) (w : Who) (ix sub : Nat) (v : Bytes) : Option Nat :=
  match Dict.row ix sub with
  | none => some St.NO_ENTRY
  | some r =>
    if r.acc = 0 ∨ r.acc = 3 then some St.ACCESS
    else
      match s.roleFail w r.role with
      | some st => some st
      | none =>
        if r.ty = 13 ∨ 1096 < r.size ∨ v.len ≠ r.size ∨ !r.typed v.val then some St.TYPE
        else if !r.t80Ok v.val || !r.chk.ok v.val then some St.RANGE
        else none

/-- The same checks for a DOM (or long STR or OCT) write that is complete: the bytes from `offset` on (R413). -/
def Dev.domFail (s : Dev) (w : Who) (ix sub offset : Nat) (v : Bytes) : Option Nat :=
  match Dict.row ix sub with
  | none => some St.NO_ENTRY
  | some r =>
    if r.acc = 0 ∨ r.acc = 3 then some St.ACCESS
    else
      match s.roleFail w r.role with
      | some st => some st
      | none =>
        if r.size < offset + v.len then some St.RANGE
        else if r.ty = 13 ∧ r.elem ≠ 0 then
          if offset % r.elem ≠ 0 ∨ v.len % r.elem ≠ 0 then some St.TYPE
          else if !(List.range (v.len / r.elem)).all (fun j => r.chk.ok (bitsOf v.val (8 * (v.len - r.elem * (j + 1))) (8 * r.elem)))
            then some St.RANGE else none
        else if r.ty = 13 then (if offset ≠ 0 then some St.TYPE else none)
        else if offset ≠ 0 ∨ v.len ≠ r.size ∨ !r.typed v.val then some St.TYPE
        else if !r.chk.ok v.val then some St.RANGE else none

/-- Element j of the bytes a DOM write carries. -/
def domElement (v : Bytes) (elem j : Nat) : Nat := bitsOf v.val (8 * (v.len - elem * (j + 1))) (8 * elem)

/-- Serve a WRITE of an entry that acts at the write: `act` runs when the common checks pass and answers a status. -/
def serveWrite (me : Instr) (q : Rcp) (ix sub : Nat) (v : Bytes) (act : Who → Dev → Dev × Nat) (s : Dev) : Dev :=
  serve me q false false (some ix) (fun w s =>
    match s.writeFail w ix sub v with
    | some st => (s, Reply.of st)
    | none => let r := act w s; (r.1, Reply.of r.2)) s

/-- Serve a complete WRITE_DOM of an entry that acts at its LAST segment. -/
def serveDom (me : Instr) (q : Rcp) (ix sub offset : Nat) (v : Bytes) (act : Who → Dev → Dev × Nat) (s : Dev) : Dev :=
  serve me q false false (some ix) (fun w s =>
    match s.domFail w ix sub offset v with
    | some st => (s, Reply.of st)
    | none => let r := act w s; (r.1, Reply.of r.2)) s

end Sys2Proof.Machine
end

