-- ==== Sys2Proof/Machine/Ref.lean ====
section
/-! DEFINITION. References, their monitors, and the eight DPLLs: states, selection, switching, holdover, frame references (R387 to
R401). -/

namespace Sys2Proof.Machine

open Sys2Proof

namespace RefState
def OFF : Nat := 0
def ABSENT : Nat := 1
def HOLDING_OFF : Nat := 2
def QUALIFIED : Nat := 3
end RefState

namespace DpllState
def DISABLED : Nat := 0
def FREE_RUN : Nat := 1
def LOCKING : Nat := 2
def LOCKED : Nat := 3
def SWITCHING : Nat := 4
def HOLDOVER : Nat := 5
end DpllState

/-- The reference that is device time (Table 14.1). -/
def refTime : Nat := 132
/-- No reference. -/
def refNone : Nat := 0xFF

/-- What a reference holds beside its elements. -/
def Dev.refSt (d : Dev) (r : Nat) : RefSt := nget d.ref {} r
/-- Change what a reference holds. -/
def Dev.setRef (d : Dev) (r : Nat) (f : RefSt → RefSt) : Dev := { d with ref := nput d.ref {} r (f (d.refSt r)) }
/-- What a DPLL holds beside its elements. -/
def Dev.dpllSt (d : Dev) (k : Nat) : DpllSt := nget d.dpll {} k
/-- Change what a DPLL holds. -/
def Dev.setDpll (d : Dev) (k : Nat) (f : DpllSt → DpllSt) : Dev := { d with dpll := nput d.dpll {} k (f (d.dpllSt k)) }

/-! ## Grids and phases -/

/-- Instant n of the grid of a frame rate (Table 14.1): ⌈n × P⌉ ns of device time. -/
def gridAt (fps n : Nat) : Nat := if fps = 0 then 0 else ceilDiv (n * Fmt.period1001) fps

/-- The number of the last grid instant not after a time. -/
def gridIx (fps t : Nat) : Nat :=
  let n := (t + 1) * fps / Fmt.period1001
  if gridAt fps n ≤ t then n else n - 1

/-- How far a time lies after the grid instant before it. -/
def gridPhase (fps t : Nat) : Nat := t - gridAt fps (gridIx fps t)

/-- The frame period of a frame rate in ns, rounded up. -/
def gridNs (fps : Nat) : Nat := if fps = 0 then 1 else ceilDiv Fmt.period1001 fps

/-- A phase difference taken the shorter way round the frame period (R396). -/
def shorter (fps : Nat) (x : Int) : Int :=
  let p : Int := gridNs fps
  let m := x % p
  if p < 2 * m then m - p else m

/-- The frame rate × 1,001 of a DPLL's RATE. -/
def Dev.dpllFps (d : Dev) (k : Nat) : Nat := Fmt.fps1001 (d.rd D.DpllCfg.RATE k)

/-- Does a reference have frame phase of its own (Tables 14.1, 14.2)? -/
def Dev.hasPhase (d : Dev) (r : Nat) : Bool :=
  if r < 4 then d.rd D.RefCfg.TYPE r == 2 || (d.rd D.RefCfg.TYPE r == 1 && decide (d.rd D.RefCfg.F_PIN r < 4)) else true

/-- The frame phase of a reference against a DPLL's grid; `base` for a reference without one. -/
def Dev.refPhase (d : Dev) (k r : Nat) : Int :=
  if r = refTime then 0
  else if !d.hasPhase r then (d.dpllSt k).base
  else
    let q := if r < 4 ∧ d.rd D.RefCfg.TYPE r = 1 then d.rd D.RefCfg.F_PIN r else r
    match (d.refSt q).frameAt with
    | some t => gridPhase (d.dpllFps k) t
    | none => 0

/-- How far a phase move has come, at PHASE_SLEW_NS_S (R400). -/
def Dev.moved (d : Dev) (k : Nat) : Int :=
  match (d.dpllSt k).move with
  | none => 0
  | some (_, by_, t) =>
    let a := min by_.natAbs ((d.wall - t) * d.rd D.DpllCfg.PHASE_SLEW_NS_S k / 1000000000)
    if by_ < 0 then -(a : Int) else a

/-- STATE of a DPLL. -/
def Dev.dpllState (d : Dev) (k : Nat) : Nat := d.rd D.DpllStatus.STATE k

/-- The phase of a DPLL's frame references after the grid of device time (R392, R396, R400). -/
def Dev.dpllPhase (d : Dev) (k : Nat) : Int :=
  let x := d.dpllSt k
  let st := d.dpllState k
  if st = DpllState.LOCKED ∨ (st = DpllState.LOCKING ∧ !x.pull) then
    let back := match x.move with | some (0, by_, _) => by_ | _ => 0
    d.refPhase k (d.rd D.DpllStatus.CURRENT k) + d.rdI D.DpllStatus.BUILDOUT_NS k + d.moved k - back
  else x.phase + d.moved k

/-- The first frame reference of a DPLL after time t, for an output of a frame rate (R393: the grid of the output's own rate, which
lies in the DPLL's grid or halves it). -/
def Dev.nextRef (d : Dev) (k fps t : Nat) : Nat :=
  let p := (d.dpllPhase k % (gridNs fps : Int)).toNat
  let n := gridIx fps (t - p)
  if t < gridAt fps n + p then gridAt fps n + p
  else if t < gridAt fps (n + 1) + p then gridAt fps (n + 1) + p else gridAt fps (n + 2) + p

/-- The last instant not after now of a grid that a DPLL gives a FORMAT's frames, moved by `ph` ns (R147, R317). -/
def Dev.gridLast (d : Dev) (k f ph : Nat) : Option Nat :=
  let fps := Fmt.fps f
  let t := d.now - ph
  -- frame references after a time two periods back: the last of them not after `t`
  let a := d.nextRef k fps (t - 2 * Fmt.periodNs f)
  let b := d.nextRef k fps a
  let e := d.nextRef k fps b
  if e ≤ t then some (e + ph) else if b ≤ t then some (b + ph) else if a ≤ t then some (a + ph) else none

/-- The frame boundary on that grid that falls now: none where the last one was at or after it (device time that has stepped back
past the last one has left it behind). -/
def Dev.boundaryAt (d : Dev) (k f ph : Nat) (last : Option Nat) : Option Nat :=
  match d.gridLast k f ph, last with
  | some t, some b => if 0 < sdiff t b 64 ∨ 0 < sdiff b d.now 64 then some t else none
  | some t, none => some t
  | none, _ => none

/-- R393: do a frame rate and a DPLL RATE (both × 1,001) suit each other? -/
def rateSuits (f r : Nat) : Bool := f != 0 && r != 0 && (f == r || 2 * f == r || f == 2 * r)

/-! ## Selection (R391, R395) -/

/-- Is a reference qualified? An H reference with an F pin is so only while that pin is (R388). -/
def Dev.refQualified (d : Dev) (r : Nat) : Bool :=
  d.rd D.RefStatus.STATE r == RefState.QUALIFIED &&
    !(decide (r < 4) && d.rd D.RefCfg.TYPE r == 1 && decide (d.rd D.RefCfg.F_PIN r < 4)
      && d.rd D.RefStatus.STATE (d.rd D.RefCfg.F_PIN r) != RefState.QUALIFIED)

/-- Does an SDI reference's detected rate suit a DPLL? -/
def Dev.refFits (d : Dev) (k r : Nat) : Bool :=
  decide (r < 4) || r == refTime || rateSuits (Fmt.fps (d.rd D.SdiRxStatus.DETECTED_FORMAT (r - 4))) (d.dpllFps k)

/-- Is a reference eligible for a DPLL? -/
def Dev.eligible (d : Dev) (k r : Nat) : Bool := decide (r ≤ refTime) && d.refQualified r && d.refFits k r

/-- The candidates of a DPLL in order of priority. -/
def Dev.cands (d : Dev) (k : Nat) : List Nat :=
  [d.rd D.DpllCfg.CAND0 k, d.rd D.DpllCfg.CAND1 k, d.rd D.DpllCfg.CAND2 k, d.rd D.DpllCfg.CAND3 k]

/-- The reference that selection yields. -/
def Dev.selection (d : Dev) (k : Nat) : Option Nat :=
  if d.rd D.RefArea.MODE 0 = 0 then (d.cands k).find? (d.eligible k)
  else if d.eligible k (d.rd D.DpllCfg.SELECT k) then some (d.rd D.DpllCfg.SELECT k) else none

/-- A DPLL leaves what it did: its phase stands as it is, and a move under way ends. -/
def Dev.dpllTo (d : Dev) (k st : Nat) : Dev :=
  let p := d.dpllPhase k
  let d := d.setDpll k (fun x => { x with phase := p, move := none, since := d.wall, pull := false })
  (((d.wr D.DpllStatus.STATE k st).flag D.DpllStatus.PHASE_MOVING k false).flag D.DpllStatus.FROZEN k false).wr D.DpllStatus.PENDING k refNone

/-- SWITCHING toward a reference begins (R396). -/
def Dev.dpllSwitch (d : Dev) (k r : Nat) (raise : Bool) : Dev :=
  let d := (d.dpllTo k DpllState.SWITCHING).wr D.DpllStatus.PENDING k r
  let d := d.setDpll k (fun x => { x with count := (d.refSt r).count, grid := gridIx (d.dpllFps k) d.now })
  if raise then d.raise Src.REF_SWITCH k else d

/-- The mean frequency of the last 60 s in LOCKED without the final second; the present one with less than 2 s (R399). -/
def DpllSt.holdFreq (x : DpllSt) : Int :=
  let l := (x.hist.take 600).drop 10
  if x.hist.length < 20 then x.freq else Int.fdiv (l.foldl (· + ·) 0) l.length

/-- A DPLL has no reference: HOLDOVER, or FREE_RUN where HOLDOVER_MAX_S is 0 (R399). -/
def Dev.dpllHold (d : Dev) (k : Nat) : Dev :=
  if d.rd D.DpllCfg.HOLDOVER_MAX_S k = 0 then
    ((d.dpllTo k DpllState.FREE_RUN).wr D.DpllStatus.CURRENT k refNone).raise Src.REF_DPLL_FREE_RUN k
  else
    let d := (((d.dpllTo k DpllState.HOLDOVER).wr D.DpllStatus.CURRENT k refNone).raise Src.REF_DPLL_HOLDOVER k).sat D.DpllCounters.HOLDOVERS k 1
    d.setDpll k (fun x => { x with hold := x.holdFreq })

/-- A DPLL in FREE_RUN takes a reference: the phase is pulled in by frequency (Table 14.5). -/
def Dev.dpllPull (d : Dev) (k r : Nat) : Dev :=
  let d := (d.dpllTo k DpllState.LOCKING).wr D.DpllStatus.CURRENT k r
  let d := d.wrI D.DpllStatus.BUILDOUT_NS k 0
  -- until its first lock its frame references lie on the grid of device time (R392); later the phase on the way to the reference is not
  -- given: a free value
  if !(d.dpllSt k).everLocked then d.setDpll k (fun x => { x with pull := true, phase := 0, base := 0 })
  else
    let p : Int := d.freeVal
    (d.setDpll k (fun x => { x with pull := true, phase := p % (gridNs (d.dpllFps k) : Int), base := x.phase })).drawn

/-- Table 14.5: a DPLL looks at its references again. -/
def Dev.dpllReselect (d : Dev) (k : Nat) : Dev :=
  let st := d.dpllState k
  let sel := d.selection k
  let cur := d.rd D.DpllStatus.CURRENT k
  if st = DpllState.FREE_RUN then (match sel with | some r => d.dpllPull k r | none => d)
  else if st = DpllState.HOLDOVER then (match sel with | some r => d.dpllSwitch k r false | none => d)
  else if st = DpllState.SWITCHING then
    (if d.eligible k (d.rd D.DpllStatus.PENDING k) then d
     else match sel with | some r => d.dpllSwitch k r false | none => d.dpllHold k)
  else if st = DpllState.LOCKING ∨ st = DpllState.LOCKED then
    (if !d.eligible k cur then (match sel with | some r => d.dpllSwitch k r true | none => d.dpllHold k)
     else if st = DpllState.LOCKED ∧ d.rd D.RefArea.MODE 0 = 0 ∧ d.on D.DpllCfg.REVERTIVE k then
       (match sel with | some r => if r = cur then d else d.dpllSwitch k r true | none => d)
     else if st = DpllState.LOCKED ∧ d.rd D.RefArea.MODE 0 = 1 then
       (match sel with | some r => if r = cur then d else d.dpllSwitch k r true | none => d)
     else d)
  else d

/-- Every DPLL looks at its references again. -/
def Dev.reselectAll (d : Dev) : Dev := d.each (List.range 8) (fun d k => d.dpllReselect k)

/-! ## Reference states (Table 14.3) -/

/-- The STATE of a reference. -/
def Dev.refState (d : Dev) (r : Nat) : Nat := d.rd D.RefStatus.STATE r

/-- QUALIFIED to DISQUALIFIED, and at once to ABSENT: DISQUALIFIED sticky, REF_DISQUALIFIED raised. -/
def Dev.refDown (d : Dev) (r cause : Nat) : Dev :=
  (((d.wr D.RefStatus.CAUSE r cause).wr D.RefStatus.STATE r RefState.ABSENT).flag D.RefSticky.DISQUALIFIED r true).raise Src.REF_DISQUALIFIED r

/-- A reference is disqualified; an H reference paired with it goes with it (R388), and the DPLLs select again. -/
def Dev.disqualify (d : Dev) (r cause : Nat) : Dev :=
  let d := d.refDown r cause
  let d := if r < 4 then d.each ((List.range 4).filter (fun h => d.rd D.RefCfg.TYPE h == 1 && d.rd D.RefCfg.F_PIN h == r
      && d.refState h == RefState.QUALIFIED)) (fun d h => d.refDown h cause) else d
  d.reselectAll

/-- A stop, rate change or limit ends a hold-off, or disqualifies. -/
def Dev.refFails (d : Dev) (r cause : Nat) : Dev :=
  if d.refState r = RefState.QUALIFIED then d.disqualify r cause
  else if d.refState r = RefState.HOLDING_OFF then d.wr D.RefStatus.STATE r RefState.ABSENT
  else d

/-- Events are present and correctly placed: ABSENT goes to HOLDING_OFF. -/
def Dev.refPresent (d : Dev) (r : Nat) : Dev :=
  let d := d.flag D.RefStatus.ACTIVE r true
  if d.refState r = RefState.ABSENT then (d.wr D.RefStatus.STATE r RefState.HOLDING_OFF).setRef r (fun x => { x with holdAt := d.wall }) else d

/-- DEVICE_TIME counts as active while the servo is LOCKED, HOLDOVER or HOST (R391). -/
def Dev.timeActive (d : Dev) : Bool := decide (2 ≤ d.rd D.Time.SERVO_STATE 0)

/-- The state of DEVICE_TIME as a reference follows the servo. -/
def Dev.timeRef (d : Dev) : Dev :=
  if d.refState refTime = RefState.OFF then d
  else if d.timeActive then d.refPresent refTime
  else (d.flag D.RefStatus.ACTIVE refTime false).refFails refTime 5

/-- The DPLLs that follow a reference. -/
def Dev.followers (d : Dev) (r : Nat) : List Nat :=
  (List.range 8).filter (fun k => (d.dpllState k == DpllState.LOCKING || d.dpllState k == DpllState.LOCKED) && d.rd D.DpllStatus.CURRENT k == r)

/-- R389: the DPLLs following a reference freeze for the period of a glitch. -/
def Dev.freezeDplls (d : Dev) (r : Nat) : Dev :=
  d.each (d.followers r) (fun d k => (d.flag D.DpllStatus.FROZEN k true).sat D.DpllCounters.FREEZES k 1)

/-- A glitch is complete (Table 14.3): REF_GLITCH for the first two within 10 s, the third disqualifies. -/
def Dev.refGlitch (d : Dev) (r : Nat) : Dev :=
  let l := (d.refSt r).glitches.filter (fun t => decide (d.wall < t + 10000000000)) ++ [d.wall]
  let d := d.setRef r (fun x => { x with glitches := l })
  if d.refState r = RefState.QUALIFIED then
    let d := d.flag D.RefSticky.GLITCH r true
    if 3 ≤ l.length then d.disqualify r 2 else d.raise Src.REF_GLITCH r
  else d.refFails r 2

/-- The nominal period of a reference's events, as a fraction in ns (R388, R389). -/
def Dev.refPeriod (d : Dev) (r : Nat) : Nat × Nat :=
  if r < 4 then
    let f := d.rd D.RefCfg.FORMAT r
    match d.rd D.RefCfg.TYPE r with
    | 1 => (Fmt.period1001, max 1 (Fmt.fps f * Fmt.totalLines f))
    | 2 => (Fmt.period1001, max 1 (Fmt.fps f))
    | 3 => (100, 1)
    | 4 => (1000000000, 1)
    | _ => (62500, 3)
  else (Fmt.period1001, max 1 (Fmt.fps (d.rd D.SdiRxStatus.DETECTED_FORMAT (r - 4))))

/-- Does a span match n nominal periods within 1/8 period? -/
def near (span : Nat) (p : Nat × Nat) (n : Nat) : Bool :=
  decide (((span * p.2 : Nat) : Int) * 8 - 8 * n * p.1 ≤ p.1) && decide (8 * n * (p.1 : Int) - ((span * p.2 : Nat) : Int) * 8 ≤ p.1)

/-- Is a reference's monitor running? -/
def Dev.refOn (d : Dev) (r : Nat) : Bool :=
  d.on D.RefCfg.ENABLE r && d.refState r != RefState.OFF && !(decide (r < 4) && d.rd D.RefCfg.TYPE r == 0)

/-- A correctly placed event ends a run of misplaced ones: one to three of them were a glitch. -/
def Dev.refPlaced (d : Dev) (r : Nat) (missed : Bool) : Dev :=
  let b := (d.refSt r).bad
  let d := d.setRef r (fun x => { x with bad := 0 })
  let d := if missed ∧ b = 0 then d.freezeDplls r else d
  let d := d.each (d.followers r) (fun d k => d.flag D.DpllStatus.FROZEN k false)
  let d := if b ≠ 0 ∨ missed then d.refGlitch r else d
  d.refPresent r

/-- A misplaced event; the fourth in a row is a rate change. -/
def Dev.refMisplaced (d : Dev) (r : Nat) : Dev :=
  let b := (d.refSt r).bad + 1
  let d := if b = 1 then d.freezeDplls r else d
  if 4 ≤ b then (d.setRef r (fun x => { x with bad := 0 })).flag D.RefSticky.HARD r (d.on D.RefSticky.HARD r || d.refState r == RefState.QUALIFIED) |>.refFails r 3
  else d.setRef r (fun x => { x with bad := b })

/-- REF_PHASE_EVENT (R389, R391, R402): a phase event of a reference is judged; a 1PPS reference that the servo follows gives a
sample. -/
def execRefPhaseEvent (dt ref : Nat) (s : State) : Host.Outcome State Fault Refusal :=
  s.act fun d =>
    let d := d.elapse dt
    if 132 ≤ ref ∨ !d.refOn ref ∨ d.inReset ∨ (4 ≤ ref ∧ d.on D.SdiRxStatus.LOCKED (ref - 4) = false) then d
    else
      let x := d.refSt ref
      let p := d.refPeriod ref
      let d := d.setRef ref (fun y => { y with last := some d.wall, count := y.count + 1, frameAt := some d.now })
      let d := match x.last with
        | none => d
        | some t =>
          let span := d.wall - t
          if near span p 1 then d.refPlaced ref false
          else if x.bad = 0 ∧ near span p 2 then d.refPlaced ref true
          else d.refMisplaced ref
      if d.rd D.RefArea.TIME_PPS_REF 0 = ref ∧ d.refQualified ref ∧ d.rd D.RefCfg.TYPE ref = 4 then
        let sec := (d.now + 500000000) / 1000000000 * 1000000000
        { d with time := { d.time with samples := d.time.samples ++ [(1, sdiff d.now sec 64)] } }
      else d

/-- Has a reference stopped: two events are missing (R389: detected within two periods), or its lane is not locked? -/
def Dev.refStopped (d : Dev) (r : Nat) : Bool :=
  (decide (4 ≤ r) && !d.on D.SdiRxStatus.LOCKED (r - 4)) ||
    (match (d.refSt r).last with
     | some t => decide (2 * (d.refPeriod r).1 ≤ (d.wall - t) * (d.refPeriod r).2)
     | none => false)

/-- A reference has stopped (Table 14.3). -/
def Dev.refHalt (d : Dev) (r : Nat) : Dev :=
  if !d.refOn r then d
  else
    let d := (d.flag D.RefStatus.ACTIVE r false).setRef r (fun x => { x with last := none, bad := 0 })
    if d.refState r = RefState.QUALIFIED then ((d.flag D.RefSticky.STOP r true).raise Src.REF_LOS r).disqualify r 1
    else d.refFails r 1

/-- REF_STOP (R389, R391). -/
def execRefStop (dt ref : Nat) (s : State) : Host.Outcome State Fault Refusal :=
  s.act fun d =>
    let d := d.elapse dt
    if 132 ≤ ref ∨ d.inReset ∨ !d.refStopped ref then d else d.refHalt ref

/-! ## Frequency (R390, R398) -/

/-- The median of a list: the middle value in order, the mean of the two middle ones rounded down for an even count. -/
def median (l : List Int) : Int :=
  let s := l.foldl (fun acc x => (acc.takeWhile (· ≤ x)) ++ [x] ++ acc.dropWhile (· ≤ x)) []
  let n := s.length
  if n % 2 = 1 then s.getD (n / 2) 0 else Int.fdiv (s.getD (n / 2 - 1) 0 + s.getD (n / 2) 0) 2

/-- The measured frequency of a reference: DEVICE_TIME's is its RATE in ppb. -/
def Dev.refMeas (d : Dev) (r : Nat) : Option Int :=
  if r = refTime then some (Int.fdiv (d.rdI D.Time.RATE 0 * 1000000000) (2 ^ 52 : Nat)) else (d.refSt r).meas

/-- The qualified references. -/
def Dev.qualified (d : Dev) : List Nat := (List.range 133).filter (fun r => d.refQualified r)

/-- The consensus against which a reference is judged. -/
def Dev.consensus (d : Dev) (r : Nat) : Int :=
  let l := (d.qualified.filter (· != r)).filterMap d.refMeas
  if l.length < 2 then 0 else median l

/-- The limits act on one reference's OFFSET_PPB (R390, R391, R404): REF_SOFT_LIMIT once on each crossing. -/
def Dev.refLimits (d : Dev) (r : Nat) (off : Int) : Dev :=
  let hard := decide (d.rd D.RefCfg.HARD_LIMIT_PPB r < off.natAbs)
  let soft := decide (d.rd D.RefCfg.SOFT_LIMIT_PPB r < off.natAbs)
  let cross := soft && !d.on D.RefStatus.SOFT r && d.refState r == RefState.QUALIFIED
  let d := (d.wrI D.RefStatus.OFFSET_PPB r off).flag D.RefStatus.HARD r hard
  let d := if cross then (d.flag D.RefSticky.SOFT r true).raise Src.REF_SOFT_LIMIT r else d
  let d := d.flag D.RefStatus.SOFT r soft
  if hard then
    (if d.refState r = RefState.QUALIFIED then (d.flag D.RefSticky.HARD r true).disqualify r 3 else d.refFails r 3)
  else d

/-- A frequency moves toward another no faster than the slope, within the pull range (R398); 0.1 ppb. -/
def Dev.slopeTo (d : Dev) (k : Nat) (from_ to_ : Int) : Int :=
  let s : Int := d.rd D.DpllCfg.SLOPE_PPB_S k
  let m : Int := d.rd D.DpllCfg.PULL_PPM k * 10000
  let x := max (from_ - s) (min (from_ + s) to_)
  max (-m) (min m x)

/-- A DPLL's frequency over one update of 100 ms: toward its loop's demand in LOCKING and LOCKED (unless frozen), held in SWITCHING, toward
the frequency it holds in HOLDOVER, toward nominal in FREE_RUN (R389, R396, R398, R399). Where it follows nothing, its frame references run on by that
frequency against device time (R392). -/
def Dev.dpllFreq (d : Dev) (k : Nat) (demand : Option Int) : Dev :=
  let x := d.dpllSt k
  let st := d.dpllState k
  let follow := (st = DpllState.LOCKING ∨ st = DpllState.LOCKED) ∧ !d.on D.DpllStatus.FROZEN k
  let f := if follow then (match demand with | some p => d.slopeTo k x.freq (10 * p) | none => x.freq)
    else if st = DpllState.FREE_RUN then d.slopeTo k x.freq 0 else if st = DpllState.HOLDOVER then d.slopeTo k x.freq x.hold else x.freq
  let alone := x.everLocked && (st == DpllState.SWITCHING || st == DpllState.HOLDOVER || st == DpllState.FREE_RUN)
  let unit : Int := 100 * 2 ^ 52
  let run := x.part + (if alone then 10000000000 * d.rdI D.Time.RATE 0 - f * 2 ^ 52 else 0)
  (d.setDpll k (fun x => { x with freq := f, hist := if st = DpllState.LOCKED then (f :: x.hist).take 620 else x.hist,
                                  phase := x.phase + Int.fdiv run unit, part := run % unit })).wrI
    D.DpllStatus.FREQ_PPB k (Int.fdiv f 10)

/-- REF_FREQ_UPDATE (R390, R404): every 100 ms the monitor has measured the enabled references against REF_LO (`meas`: reference and
ppb), and the loops of the DPLLs ask for frequencies (`demand`: DPLL and ppb). -/
def execRefFreqUpdate (dt : Nat) (meas demand : List (Nat × Int)) (s : State) : Host.Outcome State Fault Refusal :=
  s.act fun d =>
    let d := d.elapse dt
    if d.inReset then d
    else
      let d := meas.foldl (fun d m => if m.1 < 132 ∧ d.refOn m.1 then d.setRef m.1 (fun x => { x with meas := some m.2 }) else d) d
      let offs := ((List.range 133).filter (fun r => d.refOn r)).filterMap (fun r => (d.refMeas r).map (fun o => (r, o - d.consensus r)))
      let all := d.qualified.filterMap d.refMeas
      let lo := if all.length < 2 then 0 else median all
      let was := d.rdI D.RefArea.LO_OFFSET_PPB 0
      let d := d.wrI D.RefArea.LO_OFFSET_PPB 0 lo
      let d := if 50000 < lo.natAbs ∧ was.natAbs ≤ 50000 then d.raise Src.REF_LO_SUSPECT 0 else d
      let d := offs.foldl (fun d o => d.refLimits o.1 o.2) d
      let d := d.each ((List.range 128).filter (fun l => d.refOn (l + 4))) (fun d l =>
        if (List.range 8).any (fun k => (d.cands k).contains (l + 4) && d.on D.DpllCfg.ENABLE k && !d.refFits k (l + 4))
        then d.flag D.RefSticky.FORMAT (l + 4) true else d)
      d.each ((List.range 8).filter (fun k => d.dpllState k != DpllState.DISABLED)) (fun d k =>
        d.dpllFreq k ((demand.find? (fun p => p.1 == k)).map (·.2)))

/-- REF_HOLDOFF_ELAPSED (R391): HOLDOFF_S have passed cleanly and the reference becomes QUALIFIED; DPLLs may take it (R395, R397). -/
def execRefHoldoffElapsed (dt ref : Nat) (s : State) : Host.Outcome State Fault Refusal :=
  s.act fun d =>
    let d := d.elapse dt
    let pin := d.rd D.RefCfg.F_PIN ref
    if 133 ≤ ref ∨ !d.refOn ref ∨ d.inReset ∨ d.refState ref ≠ RefState.HOLDING_OFF
        ∨ !d.past (d.refSt ref).holdAt (d.rd D.RefCfg.HOLDOFF_S ref * 1000000000) ∨ d.on D.RefStatus.HARD ref
        ∨ (ref < 4 ∧ d.rd D.RefCfg.TYPE ref = 1 ∧ pin < 4 ∧ d.refState pin ≠ RefState.QUALIFIED) then d
    else ((d.wr D.RefStatus.STATE ref RefState.QUALIFIED).flag D.RefSticky.QUALIFIED ref true).reselectAll

/-! ## DPLL events -/

/-- Phase events of a reference since a DPLL noted its count; grid instants for DEVICE_TIME. -/
def Dev.eventsSince (d : Dev) (k r : Nat) : Nat :=
  if r = refTime then gridIx (d.dpllFps k) d.now - (d.dpllSt k).grid else (d.refSt r).count - (d.dpllSt k).count

/-- DPLL_LOCKED (R395): the phase error `err` has stayed within 100 ns for 16 phase events or 1 s, whichever is longer. -/
def execDpllLocked (dt dpll err : Nat) (s : State) : Host.Outcome State Fault Refusal :=
  s.act fun d =>
    let d := d.elapse dt
    if 8 ≤ dpll ∨ d.inReset ∨ d.dpllState dpll ≠ DpllState.LOCKING ∨ 100 < err ∨ !d.past (d.dpllSt dpll).since 1000000000
        ∨ d.eventsSince dpll (d.rd D.DpllStatus.CURRENT dpll) < 16 ∨ d.on D.DpllStatus.FROZEN dpll then d
    else
      let d := (d.wr D.DpllStatus.STATE dpll DpllState.LOCKED).setDpll dpll (fun x =>
        { x with everLocked := true, pull := false, since := d.wall, err := err, hist := [] })
      d.dpllReselect dpll

/-- DPLL_SWITCH_MEASURED (R396): four phase events of the target, and at least 1 ms, have been measured. With PBO the build-out
takes up the difference of phase; without, the output moves onto the target. -/
def execDpllSwitchMeasured (dt dpll : Nat) (s : State) : Host.Outcome State Fault Refusal :=
  s.act fun d =>
    let d := d.elapse dt
    let r := d.rd D.DpllStatus.PENDING dpll
    if 8 ≤ dpll ∨ d.inReset ∨ d.dpllState dpll ≠ DpllState.SWITCHING ∨ !d.past (d.dpllSt dpll).since 1000000
        ∨ d.eventsSince dpll r < 4 then d
    else if !d.eligible dpll r then d.dpllReselect dpll
    else
      let out := d.dpllPhase dpll
      let d := d.setDpll dpll (fun x => { x with base := out })
      let diff := shorter (d.dpllFps dpll) (out - d.refPhase dpll r)
      let d := (d.dpllTo dpll DpllState.LOCKING).wr D.DpllStatus.CURRENT dpll r
      let d := d.setDpll dpll (fun x => { x with count := (d.refSt r).count, grid := gridIx (d.dpllFps dpll) d.now })
      let d := d.sat D.DpllCounters.SWITCHES dpll 1
      if d.on D.DpllCfg.PBO dpll then d.wrI D.DpllStatus.BUILDOUT_NS dpll diff
      else
        let d := d.wrI D.DpllStatus.BUILDOUT_NS dpll 0
        if diff = 0 then d
        else (d.flag D.DpllStatus.PHASE_MOVING dpll true).setDpll dpll (fun x => { x with move := some (0, -diff, d.wall) })

/-- DPLL_HOLDOVER_EXPIRY (R399). -/
def execDpllHoldoverExpiry (dt dpll : Nat) (s : State) : Host.Outcome State Fault Refusal :=
  s.act fun d =>
    let d := d.elapse dt
    if 8 ≤ dpll ∨ d.inReset ∨ d.dpllState dpll ≠ DpllState.HOLDOVER
        ∨ !d.past (d.dpllSt dpll).since (d.rd D.DpllCfg.HOLDOVER_MAX_S dpll * 1000000000) then d
    else (d.dpllTo dpll DpllState.FREE_RUN).raise Src.REF_DPLL_FREE_RUN dpll

/-- A DPLL_CMD (Table 14.9, R400): KIND, DPLL, two zero bytes, VALUE. -/
def Dev.dpllCmd (d : Dev) (v : Nat) : Dev × Nat :=
  let kind := bitsOf v 56 8
  let k := bitsOf v 48 8
  let val := toInt 32 (bitsOf v 0 32)
  if kind ≠ 1 ∧ kind ≠ 2 ∨ 8 ≤ k ∨ bitsOf v 32 16 ≠ 0 ∨ 1000000000 < val.natAbs ∨ (kind = 2 ∧ val ≠ 0) then (d, St.RANGE)
  else if d.dpllState k = DpllState.DISABLED ∨ d.dpllState k = DpllState.SWITCHING then (d, St.STATE)
  else if d.on D.DpllStatus.PHASE_MOVING k then (d, St.BUSY)
  else
    let by_ := if kind = 1 then val else -(d.rdI D.DpllStatus.BUILDOUT_NS k)
    ((d.flag D.DpllStatus.PHASE_MOVING k true).setDpll k (fun x => { x with move := some (kind, by_, d.wall) }), St.OK)

/-- DPLL_CMD PHASE_STEP (R400). -/
def execDpllCmdPhaseStep (q : Rcp) (dpll : Nat) (value : Int) (s : State) : Host.Outcome State Fault Refusal :=
  let v := 2 ^ 56 + dpll % 256 * 2 ^ 48 + ofInt 32 value
  s.act (serveWrite (.dpllCmdPhaseStep q.again dpll value) q 0x0700 0x0D ⟨8, v⟩ fun _ d => d.dpllCmd v)

/-- DPLL_CMD CLEAR_BUILDOUT (R400). -/
def execDpllCmdClearBuildout (q : Rcp) (dpll : Nat) (s : State) : Host.Outcome State Fault Refusal :=
  let v := 2 ^ 57 + dpll % 256 * 2 ^ 48
  s.act (serveWrite (.dpllCmdClearBuildout q.again dpll) q 0x0700 0x0D ⟨8, v⟩ fun _ d => d.dpllCmd v)

/-- DPLL_PHASE_MOVE_DONE (R400): the move has covered its whole distance at PHASE_SLEW_NS_S. -/
def execDpllPhaseMoveDone (dt dpll : Nat) (s : State) : Host.Outcome State Fault Refusal :=
  s.act fun d =>
    let d := d.elapse dt
    match (d.dpllSt dpll).move with
    | none => d
    | some (kind, by_, _) =>
      if 8 ≤ dpll ∨ d.inReset ∨ d.moved dpll ≠ by_ then d
      else
        let d := d.flag D.DpllStatus.PHASE_MOVING dpll false
        let d := if kind = 0 then d
          else if kind = 1 then (d.wrI D.DpllStatus.BUILDOUT_NS dpll (d.rdI D.DpllStatus.BUILDOUT_NS dpll + by_)).sat D.DpllCounters.PHASE_STEPS dpll 1
          else (d.wrI D.DpllStatus.BUILDOUT_NS dpll 0).sat D.DpllCounters.PHASE_STEPS dpll 1
        d.setDpll dpll (fun x => { x with phase := if kind = 0 then x.phase else x.phase + by_, move := none })

/-- TIME_ALIGNED (R392). -/
def Dev.timeAligned (d : Dev) (k : Nat) : Bool :=
  d.dpllState k == DpllState.LOCKED && d.rd D.DpllStatus.CURRENT k == refTime && d.rdI D.DpllStatus.BUILDOUT_NS k == 0
    && decide ((d.dpllSt k).err ≤ 50)

/-- The committed ENABLE of references and DPLLs takes effect (Tables 14.3, 14.5), and selection runs again. -/
def Dev.refCommit (d : Dev) : Dev :=
  let d := d.each (List.range 133) (fun d r =>
    if d.on D.RefCfg.ENABLE r then
      (if d.refState r = RefState.OFF then
         (d.wr D.RefStatus.STATE r RefState.ABSENT).setRef r (fun _ => {}) else d)
    else if d.refState r = RefState.OFF then d
    else (d.wr D.RefStatus.STATE r RefState.OFF).flag D.RefStatus.ACTIVE r false)
  let d := d.timeRef
  let d := d.each (List.range 8) (fun d k =>
    if d.on D.DpllCfg.ENABLE k then
      (if d.dpllState k = DpllState.DISABLED then
         (((d.dpllTo k DpllState.FREE_RUN).wr D.DpllStatus.CURRENT k refNone).wrI D.DpllStatus.BUILDOUT_NS k 0).setDpll k (fun _ => { since := d.wall })
       else d)
    else if d.dpllState k = DpllState.DISABLED then d
    else (((d.dpllTo k DpllState.DISABLED).wr D.DpllStatus.CURRENT k refNone).wrI D.DpllStatus.BUILDOUT_NS k 0).setDpll k (fun _ => {}))
  d.reselectAll

end Sys2Proof.Machine
end

