-- ==== Sys2Proof/Machine/Fixed.lean ====
section
/-! DEFINITION. Real functions the audio rules name (sine, decibels, the fade curve), in fixed point with 128 fraction bits. Every
result is far more exact than the sample it is rounded to. -/

namespace Sys2Proof

namespace Fix

/-- One. -/
def one : Int := 2 ^ 128
/-- π. -/
def pi : Int := 1069028584064966747859680373161870783301
/-- ln 10. -/
def ln10 : Int := 783529105480883066805338482703447369892

/-- x × y. -/
def mul (x y : Int) : Int := x * y / one

/-- The sum of k further terms of a sine or cosine series: `t` is the last term, `n` the number of its last factor. -/
def series (x2 : Int) : (k n : Nat) → Int → Int
  | 0, _, _ => 0
  | k + 1, n, t =>
    let u := -(mul t x2) / (((n + 1) * (n + 2) : Nat) : Int)
    u + series x2 k (n + 2) u

/-- The sine of an angle in −π to π. -/
def sin (x : Int) : Int := x + series (mul x x) 40 1 x
/-- The cosine of an angle in −π to π. -/
def cos (x : Int) : Int := one + series (mul x x) 40 0 one

/-- The sum of k further terms of the exponential series. -/
def expSeries (x : Int) : (k n : Nat) → Int → Int
  | 0, _, _ => 0
  | k + 1, n, t => let u := mul t x / ((n + 1 : Nat) : Int); u + expSeries x k (n + 1) u

/-- e to a power of 0 or more. -/
def exp (x : Int) : Int := one + expSeries x 100 0 one

/-- The linear amplitude of a level in 0.01 dB: 10 to the power of level / 2,000. -/
def amplitude (cdb : Int) : Int :=
  if cdb = 0 then one
  else if 0 < cdb then exp (cdb * ln10 / 2000)
  else one * one / exp (-cdb * ln10 / 2000)

/-- A real number as the nearest integer; one that lies too near the middle between two integers to tell is left open. -/
def round (x : Int) : Int :=
  let f := x % one
  if (2 * f - one).natAbs < 2 ^ 64 then Config.halfRound x
  else if 2 * f < one then x / one else x / one + 1

/-- A result whose rounding the spec does not state: the integer where it is one, else left open. -/
def settle (x : Int) : Int := if x % one = 0 then x / one else Config.rounded x

/-- R358: sample k of a tone. -/
def tone (freq level k : Nat) : Int :=
  let a := freq * k % 48000
  let x := 2 * pi * (if 24000 ≤ a then (a : Int) - 48000 else a) / 48000
  round (mul ((2 ^ 23 - 1) * amplitude (-(level : Int))) (sin x))

/-- R96: the part of the new signal at sample n of a fade of N. -/
def fade (n len : Nat) : Int :=
  if n = 0 then 0 else if len ≤ n then one else (one - cos (pi * n / len)) / 2

end Fix
end Sys2Proof
end

