-- ==== Sys2Proof/Machine/NetIn.lean ====
section
/-! DEFINITION. Receive pages (R176, R182), and the content a network receive context assembles into cells (R53, R54, R55, R174,
R175). -/

namespace Sys2Proof.Machine

open Sys2Proof

/-- What a network receive context holds. -/
def Dev.netRxSt (d : Dev) (c : Nat) : NetRxSt := nget d.netRx {} c

/-- Change what a network receive context holds. -/
def Dev.setNetRx (d : Dev) (c : Nat) (f : NetRxSt → NetRxSt) : Dev := { d with netRx := nput d.netRx {} c (f (d.netRxSt c)) }

/-! ## Receive pages -/

/-- ⌈B × 1.0625 × ns / unit⌉ for a media rate × 1,001 in bit/s, with the unit in bits. -/
def holdUnits (rate1001 ns unit : Nat) : Nat := ceilDiv (rate1001 * 17 * ns) (16 * 1001 * 1000000000 * unit)

/-- The window of a receive context in ns (R176). -/
def Dev.rxWindow (d : Dev) (c : Nat) : Nat :=
  let k := d.kind c
  if k = 4 ∨ k = 5 then 2 * d.packetNs c
  else if k = 3 ∨ k = 6 ∨ (k = 2 ∧ d.rd D.NetRxCfg.SENDER_TYPE c = 2) then 1000000
  else 200000

/-- The 4 KiB pages of a network receive context (R176, R182). -/
def Dev.rxPages (d : Dev) (c : Nat) : Nat :=
  if Kind.netRx (d.kind c) then
    let b := d.media1001 c 0
    let skew := d.rd D.NetRxCfg.MAX_SKEW_US c
    max 4 (holdUnits b (d.rxWindow c) 32768)
      + (if d.on D.NetRxCfg.LEG_B_ENABLE c ∧ skew ≤ 2000 then holdUnits b (skew * 1000) 32768 else 0)
  else 0

/-! ## Black content (R150, R174) -/

/-- The components of one pixel group at black level: their bits and values. -/
def blackGroup (f : Nat) : Nat × List Nat :=
  match Fmt.sampling f with
  | 0 => (10, [512, 64, 512, 64])
  | 1 => (10, [512, 64, 512, 512, 64, 512, 512, 64, 512, 512, 64, 512])
  | 2 => (10, [64, 64, 64, 64, 64, 64, 64, 64, 64, 64, 64, 64])
  | 3 => (12, [2048, 256, 2048, 2048, 256, 2048])
  | 4 => (12, [256, 256, 256, 256, 256, 256])
  | _ => (12, [2048, 256, 2048, 256])

/-- Byte i of an active picture at black level. -/
def blackByte (f i : Nat) : Nat :=
  let g := blackGroup f
  let v := g.2.foldl (fun a x => a * 2 ^ g.1 + x) 0
  let n := g.1 * g.2.length / 8
  byteAt n v (i % n)

/-- n bytes of an active picture at black level from byte `start`. -/
def blackPicture (f start n : Nat) : Bytes := Bytes.gen n (fun i => blackByte f (start + i))

/-- Byte i of an SDI stream of words 0x200: stream bits at multiples of 10 are 1. -/
def midByte (i : Nat) : Nat := sumOf (fun j => if (8 * i + j) % 10 = 0 then 2 ^ (7 - j) else 0) (List.range 8)

/-! ## Assembly -/

/-- Bytes of a line of the active picture. -/
def Fmt.lineBytes (f : Nat) : Nat := Fmt.width f * Fmt.bpp f / 8
/-- Active lines of a field, or of a frame that has none. -/
def Fmt.fieldLines (f : Nat) : Nat := if Fmt.interlaced f then Fmt.height f / 2 else Fmt.height f

/-- Append a piece to the content last opened. -/
def Asm.add (a : Asm) (off : Nat) (b : Bytes) (time : Nat) : Asm :=
  { a with pieces := a.pieces ++ [(off, b, time)], size := max a.size (off + b.len) }

/-- The content with new pieces at its end. -/
def Asm.addAll (a : Asm) : List (Nat × Bytes × Nat) → Asm
  | [] => a
  | p :: t => (a.add p.1 p.2.1 p.2.2).addAll t

/-- Change the content last opened. -/
def mapLast (l : List Asm) (f : Asm → Asm) : List Asm :=
  match l with
  | [] => []
  | [a] => [f a]
  | a :: b :: t => a :: mapLast (b :: t) f

/-- The content last opened, where it is still open. -/
def openAsm (l : List Asm) : Option Asm := match l.getLast? with | some a => if a.closed then none else some a | none => none

/-- Content that pieces of a packet received at `time` are added to: the open one, or one opened now with the packet's timestamp; the open
one is closed first where `next` says that the packet belongs to the next. -/
def placeIn (l : List Asm) (ts time : Nat) (next close : Bool) (pieces : List (Nat × Bytes × Nat)) : List Asm :=
  let l := if next then mapLast l (fun a => { a with closed := true, closedAt := time }) else l
  let l := match openAsm l with | some _ => l | none => l ++ [⟨ts, false, [], 0, 0, 0⟩]
  mapLast l (fun a => { (a.addAll pieces) with closed := close, closedAt := time })

/-- By how many ticks of 90 kHz the second field of a FORMAT follows the first: half a frame period, rounded down; segments have one time
(R183). -/
def fieldTicks (f : Nat) : Nat := if Fmt.raster f = 5 then 0 else 45000 * Fmt.period1001 / (max 1 (Fmt.fps f) * 1000000000)

/-- The pieces of an ST 2110-20 packet, by its row headers. -/
def rowPieces (f time : Nat) : List (Nat × Nat × Nat × Nat) → Bytes → List (Nat × Bytes × Nat)
  | [], _ => []
  | (fld, line, off, n) :: t, m =>
    ((fld * Fmt.fieldLines f + line) * Fmt.lineBytes f + off * Fmt.bpp f / 8, m.take n, time) :: rowPieces f time t (m.drop n)

/-- R174: does every row lie inside the raster? -/
def rowsOk (f : Nat) (rows : List (Nat × Nat × Nat × Nat)) : Bool :=
  rows.all (fun r => decide (r.1 ≤ ofBool (Fmt.interlaced f)) && decide (r.2.1 < Fmt.fieldLines f)
    && decide (r.2.2.1 < Fmt.width f) && decide (r.2.2.1 * Fmt.bpp f / 8 + r.2.2.2 ≤ Fmt.lineBytes f))

/-- Samples per packet of an audio context. -/
def Dev.packetSets (d : Dev) (c : Nat) : Nat := d.packetNs c * (if d.rate96 c then 96 else 48) / 1000000

/-- The gap in sample sets before a packet; none where nothing is open. -/
def Dev.audGap (d : Dev) (c : Nat) (x : NetRxSt) (p : Pkt) : Option Int :=
  match openAsm x.asm with
  | none => none
  | some a => some (sdiff p.ts (a.ts + (if d.setBytes c = 0 then 0 else a.size / d.setBytes c)) 32)

/-- R174: what an accepted packet adds to the content under assembly; `lost` datagrams went before it. -/
def Dev.depack (d : Dev) (c : Nat) (p : Pkt) (lost : Nat) : Dev :=
  let k := d.kind c
  let f := d.format c
  let x := d.netRxSt c
  let bad := d.sat D.NetRxCounters.FORMAT_ERRORS c 1
  if k = 2 then
    if rowsOk f p.rows = false then bad
    else
      let second := Fmt.interlaced f && p.rows.any (fun r => r.1 == 1)
      -- the frame carries its first field's timestamp; a packet of the second field belongs to it up to a frame period after that
      let later := match openAsm x.asm with
        | some a => decide ((if second then max 0 (2 * (fieldTicks f : Int) - 1) else 0) < sdiff p.ts a.ts 32)
        | none => false
      let ts := if second then (p.ts + 2 ^ 32 - fieldTicks f) % 2 ^ 32 else p.ts
      let close := p.marker && (!Fmt.interlaced f || second)
      d.setNetRx c (fun y => { y with asm := placeIn y.asm ts p.time later close (rowPieces f p.time p.rows p.media) })
  else if k = 3 ∨ k = 6 then
    let later := match openAsm x.asm with | some a => decide (0 < sdiff p.ts a.ts 32) | none => false
    let head : Bytes := ⟨2, ofBool p.marker * 32768 + p.media.len % 32768⟩
    let at_ := if later then 0 else (match openAsm x.asm with | some a => a.size | none => 0)
    d.setNetRx c (fun y => { y with asm := placeIn y.asm p.ts p.time later p.marker [(at_, head.app p.media, p.time)] })
  else if k = 7 then
    let at_ := match openAsm x.asm with | some a => a.size | none => 0
    let n := 1376 * (if p.ok then lost else lost + 1)
    let fill := if n = 0 then [] else [(at_, Bytes.gen n (fun i => midByte (at_ + i)), p.time)]
    let d := if p.ok then d else bad
    let pieces := fill ++ (if p.ok then [(at_ + n, p.media.take 1376, p.time)] else [])
    d.setNetRx c (fun y => { y with asm := placeIn y.asm p.ts p.time false false pieces })
  else
    let sb := d.setBytes c
    if sb = 0 ∨ p.media.len ≠ sb * d.packetSets c then bad
    else
      let last := p.media.val % 256 ^ sb
      let limit : Int := if d.rate96 c then 96 else 48
      let g := d.audGap c x p
      match g with
      | none => d.setNetRx c (fun y => { y with lastSet := last, asm := placeIn y.asm p.ts p.time false false [(0, p.media, p.time)] })
      | some g =>
        if g < 0 then d.sat D.NetRxCounters.REORDERED c 1
        else if limit < g then
          d.setNetRx c (fun y => { y with lastSet := last, asm := placeIn y.asm p.ts p.time true false [(0, p.media, p.time)] })
        else
          let at_ := match openAsm x.asm with | some a => a.size | none => 0
          let fill := Bytes.gen (g.toNat * sb) (fun i => byteAt sb x.lastSet (i % sb))
          let pieces := (if g = 0 then [] else [(at_, fill, p.time)]) ++ [(at_ + fill.len, p.media, p.time)]
          d.setNetRx c (fun y => { y with lastSet := last, asm := placeIn y.asm p.ts p.time false false pieces })

/-! ## Taking a cell's content -/

/-- The piece that holds a byte; of two that do, the one received last. -/
def Asm.pieceAt (a : Asm) (i : Nat) : Option (Nat × Bytes × Nat) :=
  a.pieces.reverse.find? (fun p => decide (p.1 ≤ i) && decide (i < p.1 + p.2.1.len))

/-- Byte i, black where no packet supplied it. -/
def Asm.byte (a : Asm) (f i : Nat) : Nat := match a.pieceAt i with | some p => p.2.1.at_ (i - p.1) | none => blackByte f i

/-- The time-stamp of byte i: that of the packet that supplied it, or of the first accepted after the gap (R49, R175). -/
def Asm.timeAt (a : Asm) (i : Nat) : Nat :=
  match a.pieceAt i with
  | some p => p.2.2
  | none => match a.pieces.find? (fun p => decide (i < p.1)) with
    | some p => p.2.2
    | none => a.closedAt

/-- What a cell takes from the assembled content: time-stamp, LEN, LINE and WOFF, SOF, EOF, payload; and what stays. -/
structure Taken where
  itime : Nat
  len : Nat
  pos : Nat
  sof : Bool
  eof : Bool
  payload : Nat
  rest : List Asm
  deriving DecidableEq, Repr

/-- The content a network receive context has ready for its next cell (R51, R53, R54, R55). -/
def Dev.takeCell (d : Dev) (c : Nat) : Option Taken :=
  let k := d.kind c
  let f := d.format c
  match (d.netRxSt c).asm with
  | [] => none
  | a :: t =>
    let p := a.sent
    let total := if k = 2 then Fmt.activeBytes f else a.size
    let sb := d.setBytes c
    -- in STOPPING the stream of an ST 2022-6 receiver ends at its last whole word (R51)
    let ends := k == 7 && d.rd D.Flow.STATE c == 3
    let n := if k = 4 ∨ k = 5 then min (d.setsPerCell c * sb) (total - p)
      else if ends then ceilDiv (Fmt.sdiBits (8 * p) (min 256 (total - p))) 8
      else min 256 (total - p)
    let ready :=
      if k = 2 then a.closed || (List.range n).all (fun i => (a.pieceAt (p + i)).isSome)
      else if k = 7 then ends || decide (256 ≤ total - p)
      else if k = 3 ∨ k = 6 then a.closed || decide (256 < total - p)
      else a.closed || decide (d.setsPerCell c * sb ≤ total - p)
    if n = 0 ∨ ready = false then none
    else
      let v := (Bytes.gen n (fun i => a.byte f (p + i))).val * 256 ^ (256 - n)
      let eof := (k == 2 || (a.closed && (k == 3 || k == 6))) && p + n == total
      let pos := if k = 4 ∨ k = 5 then a.ts + p / max 1 sb
        else if p = 0 then a.ts
        else if k = 2 then p / Fmt.lineBytes f * 2 ^ 18 + p % Fmt.lineBytes f
        else p
      let gone := eof || (a.closed && p + n == total)
      some ⟨a.timeAt p, n, pos % 2 ^ 32, p == 0, eof, v,
        if gone then t else { a with sent := p + n, pieces := a.pieces.filter (fun q => decide (p + n < q.1 + q.2.1.len)) } :: t⟩

end Sys2Proof.Machine
end

