-- ==== Sys2Proof/Machine/Store.lean ====
section
/-! DEFINITION. The block allocator of the frame store: placement, shrinking, regrowth, and bringing the allocations in line with
what the committed configuration asks (R253 to R256, R271, R272). -/

namespace Sys2Proof.Machine

open Sys2Proof

/-- Bytes of a block. -/
def blockBytes : Nat := 2097152
/-- Blocks of 2 MiB that n bytes need. -/
def blocksFor (n : Nat) : Nat := ceilDiv n blockBytes
/-- Local blocks of the pool on a channel (R253). -/
def poolLocal : Nat := 2032

/-- Does the allocator grant blocks of a channel: ONLINE or DEGRADED (Table 09.6)? -/
def Dev.chanOpen (d : Dev) (ch : Nat) : Bool := d.rd D.ChanStatus.STATE ch == 2 || d.rd D.ChanStatus.STATE ch == 3

/-- The frame store's sustained bandwidth, less 17.06 GB/s for each retired channel (Table 01.3); one that is tried again after RESTORE
counts once a set has passed (Table 09.6). -/
def Dev.storeCapacity (d : Dev) : Nat :=
  4368000 - 136480 * countIf (fun n => d.rd D.ChanStatus.STATE n == 6 || (nget d.chan {} n).restore) (List.range 32)

/-- Physical blocks that allocations hold or copies are filling. -/
def Dev.blocksInUse (d : Dev) : List Nat :=
  (d.store.alloc.map (fun a => a.2.blocks.filterMap id)).flatten ++ d.store.copying.map (fun c => c.target)

/-- The blocks of a channel the pool may hold: pool blocks not withdrawn, and reserve blocks standing in (R253, R274). -/
def Dev.candidates (d : Dev) (ch : Nat) : List Nat :=
  (List.range 2048).filterMap (fun l =>
    let b := 32 * l + ch
    if (if l < poolLocal then !d.store.withdrawn.contains b else d.store.subs.any (fun p => p.1 == b)) then some b else none)

/-- The lowest free block of a channel. -/
def Dev.lowestFree (d : Dev) (used : List Nat) (ch : Nat) : Option Nat :=
  if d.chanOpen ch then (d.candidates ch).find? (fun b => !used.contains b) else none

/-- Free pool blocks of a channel. -/
def Dev.freeOn (d : Dev) (ch : Nat) : Nat :=
  if d.chanOpen ch then
    let used := d.blocksInUse
    countIf (fun b => !used.contains b) (d.candidates ch)
  else 0

/-- Free pool blocks. -/
def Dev.freeBlocks (d : Dev) : Nat := sumOf d.freeOn (List.range 32)

/-- The rate placed on a channel: of each allocation the share its blocks there are of its blocks (log 16). -/
def Dev.chanRate (d : Dev) (ch : Nat) : Nat :=
  sumOf (fun a =>
    let held := a.2.blocks.filterMap id
    a.2.want.rate * countIf (fun b => b % 32 == ch) held / max 1 held.length) d.store.alloc

/-- The open channel with the least reserved rate, the lower number on a tie (R255). -/
def Dev.leastLoaded (d : Dev) : Nat :=
  (List.range 32).foldl (fun best ch =>
    if d.chanOpen ch ∧ (!d.chanOpen best ∨ d.chanRate ch < d.chanRate best) then ch else best) 0

/-- From a channel on, the first of k channels with a free block, and that block. -/
def Dev.nextFree (d : Dev) (used : List Nat) (ch : Nat) : Nat → Option Nat
  | 0 => none
  | k + 1 => match d.lowestFree used (ch % 32) with
    | some b => some b
    | none => d.nextFree used (ch + 1) k

/-- Up to n free blocks, the first on channel `ch` and each further on the next channel (R255). -/
def Dev.grabHw (d : Dev) (used : List Nat) (ch : Nat) : Nat → List Nat
  | 0 => []
  | n + 1 => match d.nextFree used ch 32 with
    | some b => b :: d.grabHw (b :: used) (b % 32 + 1) n
    | none => []

/-- The free blocks HOST_LIST names, in list order, each once (R278). -/
def Dev.hostFree (d : Dev) (used : List Nat) : List Nat → List Nat
  | [] => []
  | b :: t =>
    if b < 65536 ∧ d.chanOpen (b % 32) ∧ !used.contains b ∧ (d.candidates (b % 32)).contains b then b :: d.hostFree (b :: used) t
    else d.hostFree used t

/-- Up to n free blocks for a new allocation or a remap; `host` says whether they come from HOST_LIST (R278). -/
def Dev.grab (d : Dev) (host : Bool) (n : Nat) : List Nat :=
  if host then (d.hostFree d.blocksInUse d.store.hostList).take n else d.grabHw d.blocksInUse d.leastLoaded n

/-- Is allocation host-assisted (0x0E00.01 MODE)? -/
def Dev.hostAlloc (d : Dev) : Bool := d.rd D.Fs.MODE 0 == 1

/-- Blocks a commit group can be given. -/
def Dev.grantable (d : Dev) : Nat :=
  if d.hostAlloc then (d.hostFree d.blocksInUse d.store.hostList).length else d.freeBlocks

/-- Change the frame-store state. -/
def Dev.setStore (d : Dev) (f : StoreSt → StoreSt) : Dev := { d with store := f d.store }

/-- Blocks granted leave HOST_LIST, with the entries before them that were skipped (R278). -/
def Dev.spendHost (d : Dev) (got : List Nat) : Dev :=
  if d.hostAlloc then d.setStore (fun s => { s with hostList := s.hostList.filter (fun b => !got.contains b) }) else d

/-- Blocks an allocation holds. -/
def Alloc.held (a : Alloc) : Nat := (a.blocks.filterMap id).length
/-- SHRUNK (Table 09.15). -/
def Alloc.shrunk (a : Alloc) : Bool := decide (a.held < a.want.full)

/-- The lowest handle not in use. -/
def Dev.freeHandle (d : Dev) : Nat :=
  ((List.range 8192).find? (fun h => !d.store.alloc.any (fun a => a.1 == h))).getD 8191

/-- Store, change or remove (none) the allocation of a handle. -/
def Dev.putAlloc (d : Dev) (h : Nat) (a : Option Alloc) : Dev :=
  d.setStore (fun s => { s with alloc := match a with
    | some a => Assoc.insertAt natLt (Assoc.erase s.alloc h) h a
    | none => Assoc.erase s.alloc h })

/-- Blocks become allocated in segments a channel has masked: the mask is cleared (R264). -/
def Dev.unmask (d : Dev) (got : List Nat) : Dev :=
  d.each got (fun d b => d.wr D.ChanStatus.PASR_MASK (b % 32)
    (setBits (d.rd D.ChanStatus.PASR_MASK (b % 32)) (b / 32 / 256) 1 0))

/-! ## Reaching an allocation's bytes (R254, R269 to R271) -/

/-- Do the ranges hold n bytes from a? -/
def covered (l : List (Nat × Nat)) (a n : Nat) : Bool := l.any (fun p => decide (p.1 ≤ a) && decide (a + n ≤ p.2))

/-- Add a range to a set of ranges, joining those it touches. -/
def cover (l : List (Nat × Nat)) (a b : Nat) : List (Nat × Nat) :=
  let hit := l.filter (fun p => decide (p.1 ≤ b) && decide (a ≤ p.2))
  (hit.foldl (fun x p => min x p.1) a, hit.foldl (fun x p => max x p.2) b) :: l.filter (fun p => !(decide (p.1 ≤ b) && decide (a ≤ p.2)))

/-- Is a read of n bytes at an offset of a logical block poisoned: the block is unmapped, or LOST and not written again there
(R269, R271, R273)? -/
def Alloc.poison (a : Alloc) (l off n : Nat) : Bool :=
  (a.blocks.getD l none).isNone ||
    (match a.lost.find? (fun p => p.1 == l) with | some p => !covered p.2 off n | none => false)

/-- The owner has written n bytes at an offset of a logical block: LOST clears once all 2 MiB are written (R269). -/
def Alloc.wrote (a : Alloc) (l off n : Nat) : Alloc :=
  let upd := a.lost.map (fun p => if p.1 = l then (p.1, cover p.2 off (off + n)) else p)
  { a with lost := upd.filter (fun p => !(p.1 == l && covered p.2 0 blockBytes)) }

/-- The physical address of an offset of a logical block (R254). -/
def Alloc.addr (a : Alloc) (l off : Nat) : Option Nat := (a.blocks.getD l none).map (fun b => b * blockBytes + off)

/-- An owner writes bytes within one logical block: a write of an unmapped block is dropped (R271), a write during a copy goes to
both places (R270). -/
def Dev.storePut (d : Dev) (h l off : Nat) (bytes : List Nat) : Dev :=
  match Assoc.find d.store.alloc h with
  | none => d
  | some a =>
    match a.addr l off with
    | none => d
    | some p =>
      let both := (d.store.copying.filter (fun c => c.handle == h && c.logical == l)).map (fun c => (c.target * blockBytes + off, bytes))
      { d.putAlloc h (some (a.wrote l off bytes.length)) with memQ := d.memQ ++ (p, bytes) :: both }

/-- An owner writes bytes from an offset of its whole allocation; `k` bounds the blocks it crosses. -/
def Dev.storeSpan (d : Dev) (h : Nat) : Nat → Nat → List Nat → Dev
  | 0, _, _ => d
  | k + 1, off, bytes =>
    let room := blockBytes - off % blockBytes
    let d := d.storePut h (off / blockBytes) (off % blockBytes) (bytes.take room)
    if bytes.length ≤ room then d else d.storeSpan h k (off + room) (bytes.drop room)

/-- A flow layer's store is released: it behaves as if it had never captured content (R273, R333). -/
def Dev.layerGone (d : Dev) (e : Nat) : Dev :=
  let x := nget d.layer {} e
  ({ d with layer := nput d.layer {} e { x with ready := [], prev := none } }.flag D.LayerStatus.UNBACKED e true).raise Src.CMP_SURFACE_LOST e

/-- What an owner shows when its allocation's content is lost or the allocation is released (Table 09.7, R300, R333): a held
frame ceases to exist; a frame synchroniser released whole waits for its first frame; a surface is marked. -/
def Dev.ownerLost (d : Dev) (w : Want) (held : Nat) : Dev :=
  if w.cls = 3 ∨ w.cls = 4 then d.setHoldReady w.owner false
  else if w.cls = 2 ∧ w.tag = 1 then d.raise Src.CMP_VENEER_LOST w.owner
  else if w.cls = 2 then (if held = 0 then d.layerGone w.owner else d)
  else if w.cls = 5 ∧ held = 0 then
    let x := nget d.tile {} w.owner
    { d with tile := nput d.tile {} w.owner (if w.tag = 0 then { x with a := { x.a with waits := true, frames := [] } } else { x with b := { x.b with waits := true, frames := [] } }) }
  else d

/-- Where cell n of a pool lies: the ring holds whole cells of 288 bytes. -/
def poolOffset (blocks n : Nat) : Nat := n % max 1 (blocks * blockBytes / 288) * 288

/-- The logical blocks of an allocation, those with the oldest content first. -/
def Dev.byAge (d : Dev) (a : Alloc) : List Nat :=
  let n := a.blocks.length
  if a.want.cls = 1 then
    let l := poolOffset a.want.full (nget d.pool {} a.want.owner).first / blockBytes
    (List.range n).map (fun i => (l + i) % n)
  else List.range n

/-- The oldest cells of a pool go with the blocks that held them (R271). -/
def Dev.poolLoses (d : Dev) (w : Want) (gone : List Nat) : Dev :=
  let x := nget d.pool {} w.owner
  let k := ((List.range x.cells.length).takeWhile (fun i =>
    let o := poolOffset w.full (x.first + i)
    gone.contains (o / blockBytes) || gone.contains ((o + 287) / blockBytes))).length
  { d with pool := nput d.pool {} w.owner { x with cells := x.cells.drop k, first := x.first + k } }

/-- An allocation gives up blocks (R271): the oldest k of those it holds. -/
def Dev.giveUp (d : Dev) (h k : Nat) : Dev :=
  match Assoc.find d.store.alloc h with
  | none => d
  | some a =>
    let drop := ((d.byAge a).filter (fun l => (a.blocks.getD l none).isSome)).take k
    let a' := { a with blocks := (List.range a.blocks.length).map (fun l => if drop.contains l then none else a.blocks.getD l none) }
    let d := if a.want.cls = 1 then d.poolLoses a.want drop else d
    ((d.putAlloc h (some a')).ownerLost a.want a'.held).sat D.Fs.SHRINK_EVENTS 0 1

/-- One stage of the shrink order (R271): classes, and whether allocations are released whole or cut to their least size. -/
def Dev.shrinkStage (d : Dev) (cls : List Nat) (whole : Bool) (need : Nat) : Dev :=
  (d.store.alloc.reverse.filter (fun a => cls.contains a.2.want.cls)).foldl (fun d e =>
    let free := d.freeBlocks
    let spare := if whole then e.2.held else e.2.held - e.2.want.min
    if need ≤ free ∨ spare = 0 then d
    else d.giveUp e.1 (if whole ∨ e.2.want.cls = 5 then spare else min spare (need - free))) d

/-- R271: free blocks in the shrink order until `need` blocks are free. FS_POOL_SHORT is raised at the first shrink. -/
def Dev.shrink (d : Dev) (need : Nat) : Dev :=
  if need ≤ d.freeBlocks then d
  else
    let d' := ((((d.shrinkStage [1] false need).shrinkStage [2] true need).shrinkStage [3, 4] true need).shrinkStage [5] false need)
      |>.shrinkStage [5] true need
    d'.raise Src.FS_POOL_SHORT 0

/-- The logical blocks of an allocation that are unmapped. -/
def Alloc.unmapped (a : Alloc) : List Nat := (List.range a.blocks.length).filter (fun i => (a.blocks.getD i none).isNone)

/-- Fill unmapped blocks of an allocation, those of a list, from the pool as far as it goes; a regrown block is LOST (R272). -/
def Dev.fillBlocks (d : Dev) (h : Nat) (ls : List Nat) (host lost : Bool) : Dev :=
  match Assoc.find d.store.alloc h with
  | none => d
  | some a =>
    let miss := a.unmapped.filter (fun i => ls.contains i)
    let got := d.grab host miss.length
    let put := miss.zip got
    let blocks := (List.range a.blocks.length).map (fun i => match put.find? (fun p => p.1 == i) with
      | some p => some p.2
      | none => a.blocks.getD i none)
    let d := (d.putAlloc h (some { a with blocks := blocks, lost := if lost then a.lost ++ (put.map (fun p => (p.1, []))) else a.lost })).unmask got
    if host then d.spendHost got else d

/-- Fill the unmapped blocks of an allocation from the pool as far as it goes. -/
def Dev.fillAlloc (d : Dev) (h : Nat) (host lost : Bool) : Dev :=
  match Assoc.find d.store.alloc h with
  | none => d
  | some a => d.fillBlocks h a.unmapped host lost

/-- The classes in the order of regrowth (R272). -/
def regrowOrder : List (List Nat) := [[10, 9, 8, 7, 6], [5], [3, 4], [2], [1]]

/-- The shrunk allocations of some classes regrow, in ascending handle order, to their least size or in full. -/
def Dev.regrowClass (d : Dev) (cls : List Nat) (least : Bool) : Dev :=
  (d.store.alloc.filter (fun a => cls.contains a.2.want.cls && a.2.shrunk)).foldl (fun d e =>
    if d.grantable = 0 then d
    else d.fillBlocks e.1 (e.2.unmapped.take ((if least then e.2.want.min else e.2.want.full) - e.2.held)) d.hostAlloc true) d

/-- R272: whenever free blocks appear, shrunk allocations regrow in the reverse of the shrink order; under host-assisted allocation from
HOST_LIST (R278). -/
def Dev.regrow (d : Dev) : Dev :=
  regrowOrder.foldl (fun d cls => (if cls = [5] then d.regrowClass cls true else d).regrowClass cls false) d

/-- Is this the allocation of a want (same class, owner and tag)? -/
def Want.same (a b : Want) : Bool := a.cls == b.cls && a.owner == b.owner && a.tag == b.tag

/-- The allocation that serves a want. -/
def Dev.allocOf (d : Dev) (w : Want) : Option (Nat × Alloc) := d.store.alloc.find? (fun a => a.2.want.same w)

/-- Blocks the pool must supply beyond those a set of wants would give back. -/
def Dev.blocksShort (d : Dev) (ws : List Want) : Int :=
  (sumOf (fun w => w.full - (match d.allocOf w with | some a => a.2.blocks.length | none => 0)) ws : Nat)
    - (if d.hostAlloc then 0 else (sumOf (fun a => match ws.find? (fun w => w.same a.2.want) with
        | some w => a.2.held - w.full
        | none => a.2.held) d.store.alloc : Nat) : Int)

/-- Frame-store bandwidth a set of wants reserves. -/
def wantRate (ws : List Want) : Nat := sumOf (fun w => w.rate) ws

/-- Bring the allocations in line with the wants: what is no longer asked is released, what is asked in another size is
resized, what is new is placed. Released blocks let shrunk allocations regrow (R272). -/
def Dev.reconcile (d : Dev) (ws : List Want) : Dev :=
  let d := d.setStore (fun s => { s with alloc := s.alloc.filter (fun a => ws.any (fun w => w.same a.2.want)) })
  let d := d.setStore (fun s => { s with alloc := s.alloc.map (fun a => match ws.find? (fun w => w.same a.2.want) with
    | some w => (a.1, { a.2 with want := w, blocks := a.2.blocks.take w.full ++ List.replicate (w.full - a.2.blocks.length) none })
    | none => a) })
  let d := (d.store.alloc.filter (fun a => decide (a.2.blocks.length = a.2.want.full) && a.2.blocks.any Option.isNone)).foldl
    (fun d e => d.fillAlloc e.1 d.hostAlloc false) d
  let d := (ws.filter (fun w => (d.allocOf w).isNone && w.full != 0)).foldl (fun d w =>
    let h := d.freeHandle
    (d.putAlloc h (some ⟨w, List.replicate w.full none, []⟩)).fillAlloc h d.hostAlloc false) d
  d.regrow

/-- The allocation order of a start-up (R256). -/
def startOrder : List (List Nat) := [[10], [9], [8], [7], [6], [5], [3, 4], [2], [1]]

/-- The blocks an allocation asks for at start-up where the pool is short: it has the highest handle of its class, and is itself the first
to shrink of those that may (R271). -/
def Want.shortNeed (w : Want) (free : Nat) : Nat :=
  if w.cls = 1 then max w.min (Nat.min w.full free)
  else if w.cls = 5 then w.min
  else if w.cls ≤ 4 then 0
  else w.full

/-- An allocation is made anew at start-up. -/
def Dev.startAlloc (d : Dev) (w : Want) : Dev :=
  let free := d.freeBlocks
  let need := if w.full ≤ free then w.full else w.shortNeed free
  let d := if need = w.full then d else (d.sat D.Fs.SHRINK_EVENTS 0 1).raise Src.FS_POOL_SHORT 0
  let d := if w.cls = 5 then d.shrinkStage [5] false need else d.shrink need
  let need := if w.cls = 5 ∧ d.freeBlocks < need then 0 else need
  let h := d.freeHandle
  let d := (d.putAlloc h (some ⟨w, List.replicate w.full none, []⟩)).fillBlocks h (List.range need) false false
  if need = 0 then d.ownerLost w 0 else d

/-- R256: at start-up every allocation is rebuilt, class by class; where the pool is short the rules of shrinking decide. -/
def Dev.rebuildStore (d : Dev) (ws : List Want) : Dev :=
  let d := d.setStore (fun s => { s with alloc := [], copying := [], reqs := [], openRow := [] })
  startOrder.foldl (fun d cls => (ws.filter (fun w => cls.contains w.cls && w.full != 0)).foldl (fun d w => d.startAlloc w) d) d

end Sys2Proof.Machine
end

