-- ==== Sys2Proof/Machine/Wants.lean ====
section
/-! DEFINITION. What the committed configuration asks of the frame store: one want for each allocation the owning chapters name
(R148, R151, R182, R186, R191, R277, R288, R290, R295, R321, R329, R345), and the store's ledger. -/

namespace Sys2Proof.Machine

open Sys2Proof

/-- The contexts that are enabled or not yet IDLE. -/
def Dev.active (d : Dev) : List Nat :=
  (d.listed D.Flow.STATE 8192).filter (fun c => d.rd D.Flow.STATE c != 0)
    ++ d.enabled.filter (fun c => d.rd D.Flow.STATE c == 0)

/-- Blocks the re-timing buffer of a TIMED output needs, one per link where 2 × KERF_LINES lines do not fit in SRAM (R148). -/
def Dev.retimeSpill (d : Dev) (c : Nat) : Bool :=
  d.on D.SdiTxCfg.TIMED (d.bindIx c)
    && decide (262144 < 2 * d.rd D.Xp.KERF_LINES 0 * Fmt.linkWords (d.format c) * 10)

/-- Is HOLD armed on an output (R151, R191)? -/
def Dev.armed (d : Dev) (c : Nat) : Bool :=
  if d.kind c = 0x41 then d.on D.SdiTxCfg.HOLD_ARM (d.bindIx c)
  else (d.kind c == 0x42 || d.kind c == 0x43 || d.kind c == 0x47) && d.on D.NetTxCfg.HOLD_ARM (c - 4096)

/-- Bytes of one frame of an armed output: all words of its links, the active picture, or DECLARED_KBPS over a frame period. -/
def Dev.holdBytes (d : Dev) (c : Nat) : Nat :=
  let f := d.format c
  if d.kind c = 0x42 then Fmt.activeBytes f
  else if d.kind c = 0x43 then (if Fmt.fps f = 0 then 0 else ceilDiv (d.rd D.Flow.DECLARED_KBPS c * 125 * 1001) (Fmt.fps f))
  else Fmt.sdiFrameBytes f

/-- The wants of an SDI or network output. -/
def Dev.wantsOut (d : Dev) (c : Nat) : List Want :=
  let k := d.kind c
  let f := d.format c
  (if k = 0x41 ∧ d.retimeSpill c then [⟨6, c, 0, Fmt.links f, Fmt.links f, Fmt.links f * Fmt.mbps (2 * Fmt.link1001 f)⟩] else [])
    ++ (if d.armed c then
          let n := 2 * blocksFor (d.holdBytes c)
          [⟨if k = 0x41 ∨ k = 0x47 then 3 else 4, c, 0, n, 0, Fmt.mbps (2 * d.media1001 c 0)⟩]
        else [])
    ++ (if k = 0x42 ∧ d.rd D.NetTxCfg.SENDER_TYPE (c - 4096) = 1 then [⟨8, c, 0, 1, 1, Fmt.mbps (2 * d.media1001 c 0)⟩] else [])

/-- The want of an ST 2022-7 receive whose hold lies in the frame store (R182). -/
def Dev.wantsRx (d : Dev) (c : Nat) : List Want :=
  let skew := d.rd D.NetRxCfg.MAX_SKEW_US c
  if Kind.netRx (d.kind c) && d.on D.NetRxCfg.LEG_B_ENABLE c && decide (2000 < skew) then
    let n := ceilDiv (d.media1001 c 0 * 17 * skew) (16 * 1001 * 1000000 * 16777216) + 1
    [⟨7, c, 0, n, n, ceilDiv (d.media1001 c 0 * 34) (16 * 1001 * 1000000)⟩]
  else []

/-- The FORMAT of a composition head: that of its HEAD_OUT context. -/
def Dev.headFormat (d : Dev) (h : Nat) : Nat := match d.boundTo 0x0A h with | some c => d.format c | none => 0

/-- The want of a flow layer (R321). -/
def Dev.wantsLayer (d : Dev) (c : Nat) : List Want :=
  if d.kind c = 0x4A then
    let e := d.bindIx c
    let w := d.rd D.Geometry.W e
    let h := d.rd D.Geometry.H e
    [⟨2, e, 0, 3 * blocksFor (w * h * 4), 0,
      Fmt.mbps (w * h * 32 * (Fmt.fps (d.format c) + Fmt.fps (d.headFormat (d.rd D.Layer.HEAD e))))⟩]
  else []

/-- The wants of a tile (R288, R295). -/
def Dev.wantsTile (d : Dev) (t : Nat) : List Want :=
  let inA := d.boundTo 0x49 t
  let outA := d.boundTo 0x09 t
  let inB := d.boundTo 0x49 (t + 512)
  let fsA := match outA with
    | some c => if d.on D.FsCfgA.ENABLE t then
        let sdi := d.tileOutType t == 1
        let f := d.format c
        let b := blocksFor (if sdi then Fmt.sdiFrameBytes f else Fmt.activeBytes f)
        [⟨5, t, 0, (3 + d.rd D.FsCfgA.DELAY_FRAMES t) * b, 3 * b, Fmt.mbps (2 * (if sdi then Fmt.lane1001 f else Fmt.active1001 f))⟩]
      else []
    | none => []
  let fsB := match inB with
    | some c => if d.on D.FsCfgB.ENABLE t then
        let sdi := d.takenType c == 1
        let f := d.format c
        let b := blocksFor (if sdi then Fmt.sdiFrameBytes f else Fmt.activeBytes f)
        [⟨5, t, 1, (3 + d.rd D.FsCfgB.DELAY_FRAMES t) * b, 3 * b, Fmt.mbps (2 * (if sdi then Fmt.lane1001 f else Fmt.active1001 f))⟩]
      else []
    | none => []
  let dma := match inA, outA with
    | some i, some o =>
      let f := d.format i
      if Fmt.interlaced f && !Fmt.interlaced (d.format o) && Fmt.raster f != 5 && d.rd D.ProcCfg.DEINT_MODE t == 0 then
        let n := blocksFor (3 * ceilDiv (Fmt.activeBytes f) 2)
        [⟨9, t, 0, n, n, Fmt.mbps (3 * Fmt.active1001 f)⟩]
      else []
    | _, _ => []
  fsA ++ fsB ++ dma

/-- The veneers that are enabled. -/
def Dev.wantsVeneers (d : Dev) : List Want :=
  (d.listed D.Veneer.VENEER_CFG 65536).filterMap (fun v =>
    if d.on D.VeneerCfg.ENABLE v then
      some ⟨2, v, 1, (1 + d.rd D.VeneerCfg.DOUBLE v) * blocksFor (d.rd D.VeneerCfg.WIDTH v * d.rd D.VeneerCfg.HEIGHT v * 4), 0, 0⟩
    else none)

/-- The time-shift pools (R277). -/
def Dev.wantsPools (d : Dev) : List Want :=
  (d.listed D.Shift.POOL_CFG 128).filterMap (fun k =>
    if d.on D.PoolCfg.ENABLE k then some ⟨1, k, 0, d.rd D.PoolCfg.BLOCKS k, d.rd D.PoolCfg.MIN_BLOCKS k, 0⟩ else none)

/-- The audio delay lines in protected blocks (R345). -/
def Dev.wantsDelay (d : Dev) : List Want :=
  (d.listed D.DestStatus.DELAY_SPILL 2048).filterMap (fun r =>
    if d.on D.DestStatus.DELAY_SPILL r then
      let n := ceilDiv (32 * d.rd D.Dest.DELAY_SAMPLES r) 1835008
      some ⟨10, r, 1, n, n, 25⟩
    else none)

/-- The protected blocks that keep the 16 LUT slots (R292). -/
def wantLuts : Want := ⟨10, 0xFFFF, 0, 2, 2, 0⟩

/-- Tiles with a context bound. -/
def Dev.boundTiles (d : Dev) : List Nat :=
  (List.range 64).filter (fun t => d.enabled.any (fun c => (d.kind c == 0x09 || d.kind c == 0x49) && d.bindIx c % 64 == t))

/-- Everything the committed configuration asks of the frame store. -/
def Dev.wants (d : Dev) : List Want :=
  [wantLuts] ++ d.wantsDelay ++ (d.boundTiles.map d.wantsTile).flatten
    ++ (d.active.map d.wantsRx).flatten ++ (d.enabled.map d.wantsOut).flatten
    ++ (d.active.map d.wantsLayer).flatten ++ d.wantsVeneers ++ d.wantsPools

/-- The reservations of veneer layers, which hold no allocation of their own (R329). -/
def Dev.veneerRate (d : Dev) : Nat :=
  sumOf (fun e =>
    if d.rd D.Layer.HEAD e ≠ 0xFF ∧ d.rd D.Layer.SOURCE e = 1 then
      Fmt.mbps (d.rd D.Geometry.W e * d.rd D.Geometry.H e * 32 * Fmt.fps (d.headFormat (d.rd D.Layer.HEAD e)))
    else 0) (List.range 192)

/-- Frame-store reservations held, in Mbit/s (0x0E00.07). -/
def Dev.storeUse (d : Dev) : Nat := wantRate d.wants + d.veneerRate

/-- A held frame goes with its blocks (R151, R153). -/
def Dev.dropHeld (d : Dev) : Dev :=
  d.each (d.hold.map (fun e => e.1)) (fun d c =>
    if (d.holdReady c && !(d.on D.Flow.ENABLE c && d.armed c)) then (d.setHoldReady c false).setTx c (fun x => { x with held := [], write := [] }) else d)

/-- R256, R272: bring the allocations in line with the committed configuration. -/
def Dev.settle (d : Dev) : Dev := (d.reconcile d.wants).dropHeld

end Sys2Proof.Machine
end

