-- ==== Sys2Proof/Machine/TilePic.lean ====
section
/-! DEFINITION. The picture of a tile's frames where no function changes a sample (R293, R297, R299, R302): bits of a frame in pieces, and the
way between the words of an SDI stream and the active picture of a VID stream. -/

namespace Sys2Proof
namespace Pic

/-- A run of bits of a frame: its first bit, how many, and their value, the first the most significant. -/
abbrev Piece : Type := Nat × Nat × Nat

/-- n bits of a frame of `size` bits from bit b on, frame after frame: what the pieces hold, over a background. -/
def bits (size b n back : Nat) (l : List Piece) : Nat :=
  l.foldl (fun v p => [p.1, p.1 + size].foldl (fun v a =>
    let lo := max a b
    let hi := min (a + p.2.1) (b + n)
    if lo < hi then setBits v (b + n - hi) (hi - lo) (p.2.2 / 2 ^ (a + p.2.1 - hi) % 2 ^ (hi - lo)) else v) v) back

/-- Do the pieces reach beyond a bit of their frame? -/
def past (l : List Piece) (b : Nat) : Bool := l.any (fun p => decide (b < p.1 + p.2.1))

/-- Bits of a frame of SDI words. -/
def sdiBits (f : Nat) : Nat := 10 * Fmt.frameWords f

/-- A FORMAT whose SDI active words are its VID samples, word for word: 4:2:2 of 10 bits on one link of at most two streams (Cb, Y, Cr, Y;
PRESUMED of ST 2110-20 and the SDI standards). -/
def plain (f : Nat) : Bool := Fmt.links f == 1 && decide (Sdi.streams f ≤ 2) && Fmt.sampling f == 0 && Fmt.mapping f == 0

/-- The bit of the active picture at which line n of the raster begins. -/
def lineBit (f n : Nat) : Nat := countIf (fun i => !Sdi.blanked f (i + 1)) (List.range (n - 1)) * (Fmt.width f * 20)

/-- A received line of an SDI stream as a piece of its frame, words that did not come as the BLACK generator makes them (R302). -/
def ofLine (f : Nat) (l : Machine.SdiLine) : Piece :=
  let w := (l.line - 1) * Fmt.lineWords f
  (10 * w, 10 * l.words.length, Sdi.packWords (l.words.zipIdx.map (fun x => x.1.getD (Sdi.frameWord f (w + x.2)))))

/-- The active words of a received line as a piece of the active picture; none of a line of vertical blanking. -/
def activeOf (f : Nat) (l : Machine.SdiLine) : List Piece :=
  if Sdi.blanked f l.line then []
  else
    let o := Sdi.streams f * (Sdi.savAt f + 4)
    let w := (l.line - 1) * Fmt.lineWords f + o
    let ws := (l.words.drop o).zipIdx.map (fun x => x.1.getD (Sdi.frameWord f (w + x.2)))
    [(lineBit f l.line, 10 * ws.length, Sdi.packWords ws)]

/-- n bits of an active picture from bit b on, at black level where no piece lies (R150). -/
def video (f b n : Nat) (l : List Piece) : Nat :=
  let a := b / 8
  let e := ceilDiv (b + n) 8
  bits (8 * Fmt.activeBytes f) b n ((Machine.blackPicture f a (e - a)).val / 2 ^ (8 * e - b - n) % 2 ^ n) l

/-- n bits of an SDI frame from bit b on, as the BLACK generator makes them where no piece lies. -/
def words (f b n : Nat) (l : List Piece) : Nat := bits (sdiBits f) b n (Sdi.blackBits f b n) l

/-- The active words of line n of a picture; those of BLACK in vertical blanking. -/
def activeWords (f n : Nat) (l : List Piece) : List Nat :=
  let o := Sdi.streams f * (Sdi.savAt f + 4)
  let k := Fmt.lineWords f - o
  if Sdi.blanked f n then (List.range k).map (fun i => Sdi.frameWord f ((n - 1) * Fmt.lineWords f + o + i))
  else Sdi.unpackWords k (video f (lineBit f n) (10 * k) l)

/-- Line n of an SDI stream that carries an active picture, with its line CRCs. -/
def lineWords (f n : Nat) (l : List Piece) : List Nat :=
  let k := Sdi.streams f
  let before := activeWords f (Sdi.lineBefore f n) l
  let prev := (List.range k).map (fun s => Sdi.crcOf 0 (Sdi.stream before k s))
  let o : Sdi.Opts := ⟨false, false, 0, 0, false, [], [], false, 0⟩
  (Sdi.sendLine f n o (List.replicate (k * (Sdi.savAt f + 4)) none ++ (activeWords f n l).map some) prev true).words

/-- n bits from bit b on of an SDI frame that carries an active picture. -/
def wordsOfVideo (f b n : Nat) (l : List Piece) : Nat :=
  let w := 10 * Fmt.lineWords f
  let first := b / max 1 w
  let last := (b + n) / max 1 w
  let all := ((List.range (last + 1 - first)).map (fun i => lineWords f ((first + i) % max 1 (Fmt.totalLines f) + 1) l)).flatten
  Sdi.packWords all / 2 ^ (w * (last + 1) - b - n) % 2 ^ n

end Pic
end Sys2Proof
end

