-- ==== Sys2Proof/Machine/TileAnc.lean ====
section
/-! DEFINITION. Ancillary data and timecode through a tile (R293, R294, R298): packets read from SDI lines and ST 2110-40 payloads, the frame
they go with, the spaces of an output frame that carry them. The layout of an ST 2110-40 payload is RFC 8331's (PRESUMED, log 150). -/

namespace Sys2Proof
namespace Sdi

/-! ## ST 2110-40 payloads (RFC 8331) -/

/-- Bits [p, p + w) of n bits, the first the most significant. -/
def bitsFrom (n v p w : Nat) : Nat := v / 2 ^ (n - p - w) % 2 ^ w

/-- The packets of a payload of n bits, from bit p on: each is its line, place and stream, then its words from DID to the checksum, in
multiples of 32 bits. -/
def ancPackets (n v : Nat) : Nat → Nat → List Machine.AncPkt
  | 0, _ => []
  | k + 1, p =>
    let m := 4 + bitsFrom n v (p + 52) 10 % 256
    if n < p + 62 ∨ n < p + 32 + 10 * m then []
    else
      ⟨bitsFrom n v (p + 1) 11, [0, 0x3FF, 0x3FF] ++ (List.range m).map (fun i => bitsFrom n v (p + 32 + 10 * i) 10)⟩
        :: ancPackets n v k (p + ceilDiv (32 + 10 * m) 32 * 32)

/-- The packets of an ANC frame: RTP payloads, each after a 2-byte prefix with its length (R174, Table 02.4); ANC_Count is byte 4 of a
payload, and its packets begin at byte 8. -/
def ancFrame : Nat → Bytes → List Machine.AncPkt
  | 0, _ => []
  | k + 1, b =>
    if b.len < 2 then []
    else
      let n := (b.at_ 0 * 256 + b.at_ 1) % 32768
      let p := (b.drop 2).take n
      (if p.len < 8 then [] else (ancPackets (8 * p.len) p.val (p.at_ 4) 64)) ++ ancFrame k (b.drop (2 + n))

/-- A packet of a payload: line, no place, stream 0, its words, zeros to a multiple of 32 bits. -/
def ancPacketBytes (p : Machine.AncPkt) : Bytes :=
  let ws := p.words.drop 3
  let n := 32 + 10 * ws.length
  let v := (p.line % 2048 * 4096 + 0xFFF) * 256
  ⟨ceilDiv n 32 * 4, (v * 1024 ^ ws.length + packWords ws) * 2 ^ (ceilDiv n 32 * 32 - n)⟩

/-- A payload with its prefix; the last of a frame has the marker. -/
def ancPayload (f : Nat) (ps : List Machine.AncPkt) (last : Bool) : Bytes :=
  let body := ps.foldl (fun (b : Bytes) p => b.app (ancPacketBytes p)) ⟨0, 0⟩
  let head : Bytes := ⟨8, body.len % 65536 * 2 ^ 32 + ps.length % 256 * 2 ^ 24 + (if Fmt.interlaced f then 2 else 0) * 2 ^ 22⟩
  (Bytes.app ⟨2, ofBool last * 32768 + (8 + body.len) % 32768⟩ head).app body

/-- The payloads of a frame: packets go into one until it would hold more than 1,400 bytes. -/
def ancPayloads (f : Nat) (ps now : List Machine.AncPkt) (size : Nat) : Bytes :=
  match ps with
  | [] => ancPayload f now true
  | p :: t =>
    let n := (ancPacketBytes p).len
    if now ≠ [] ∧ 1400 < size + n then (ancPayload f now false).app (ancPayloads f t [p] n)
    else ancPayloads f t (now ++ [p]) (size + n)

/-- Timecode of a list of packets: the first with payload type 0. -/
def tcOf (ps : List Machine.AncPkt) : Option Nat := ps.findSome? (fun p => Machine.ltcIn p.words)

/-! ## Spaces of a line -/

/-- The ancillary spaces of a line that hold packets, link by link, stream by stream; one with a word missing holds none (R302). -/
def spacesOf (f n : Nat) (words : List (Option Nat)) : List Machine.AncSpace :=
  let k := streams f
  (List.range (Fmt.links f)).flatMap (fun i =>
    (List.range k).flatMap (fun s =>
      let ws := stream (linkOf f i words) k s
      let h := headLen f
      let sav := savAt f
      let one := fun (first : Nat) (x : List (Option Nat)) =>
        let v := x.filterMap id
        if v.length = x.length ∧ (parse v.length v).any (fun y => y.1) then [(⟨i, s, n, first, v⟩ : Machine.AncSpace)] else []
      one h ((ws.take sav).drop h) ++ (if blanked f n then one (sav + 4) (ws.drop (sav + 4)) else [])))

/-- The packets of a space. -/
def packetsOf (s : Machine.AncSpace) : List Machine.AncPkt :=
  (parse s.words.length s.words).filterMap (fun y => if y.1 then some ⟨s.line, y.2⟩ else none)

/-- A space with its audio packets deleted (R298). -/
def noAudio (f : Nat) (s : Machine.AncSpace) : Machine.AncSpace :=
  { s with words := (edit s.words (fun p => if (audioGroup p).isSome then none else some p) [] (fun i => black f s.stream (s.first + i))).1 }

/-- Where word i of a space stands in its frame's interleaved words (R134). -/
def spaceWord (f : Nat) (s : Machine.AncSpace) (i : Nat) : Nat :=
  (s.line - 1) * Fmt.lineWords f + ((s.first + i) * streams f + s.stream) * Fmt.links f + s.link

/-- n bits of a stream that begin at bit `b` of their frame, with a word of the frame put in. -/
def putWord (f b n v w x : Nat) : Nat :=
  let p := 10 * Fmt.frameWords f
  -- the word's first bit, counted from ten bits before the cell
  let o := (10 * w + 10 + p - b % max 1 p) % max 1 p
  if o = 0 ∨ n + 10 ≤ o then v else setBits (v * 1024) (n + 10 - o) 10 x / 1024 % 2 ^ n

/-- n bits of a stream with the words of spaces put in. -/
def putSpaces (f b n v : Nat) (l : List Machine.AncSpace) : Nat :=
  l.foldl (fun v s => s.words.zipIdx.foldl (fun v x => putWord f b n v (spaceWord f s x.2) x.1) v) v

end Sdi

namespace Machine

/-- What a logical tile holds beside its record. -/
def Dev.tileSt (d : Dev) (t : Nat) : TileSt := nget d.tile {} t
/-- Change what a logical tile holds. -/
def Dev.setTile (d : Dev) (t : Nat) (f : TileSt → TileSt) : Dev := { d with tile := nput d.tile {} t (f (d.tileSt t)) }
/-- Change a frame synchroniser: channel A or B. -/
def Dev.setFs (d : Dev) (t : Nat) (b : Bool) (f : FsSt → FsSt) : Dev :=
  d.setTile t (fun x => if b then { x with b := f x.b } else { x with a := f x.a })
/-- A frame synchroniser. -/
def Dev.fsSt (d : Dev) (t : Nat) (b : Bool) : FsSt := if b then (d.tileSt t).b else (d.tileSt t).a

/-! ## Input -/

/-- Ancillary content of the input frame in progress grows. -/
def FrameAnc.add (x : FrameAnc) (tc : Option Nat) (spaces : List AncSpace) (pkts : List AncPkt) : FrameAnc :=
  { x with tc := x.tc.orElse (fun _ => tc), spaces := x.spaces ++ spaces, pkts := x.pkts ++ pkts }

/-- How a channel's output picture follows from its input's. -/
inductive PicMode where
  /-- a function of Table 10.2 makes its samples -/
  | made
  /-- bit for bit -/
  | same
  /-- a gateway from SDI words to an active picture, and back -/
  | toVideo
  | toSdi
  deriving DecidableEq, Repr

/-- The ancillary packets and the timecode of an input's lines are read (R293, R294), and the lines' picture. -/
def Dev.tileReads (d : Dev) (c t : Nat) (b : Bool) (mode : PicMode) (cell : Cell) : Dev :=
  let f := d.format c
  let buf := (d.flowSt c).sdi.feed f cell (cell.seq == 0)
  let lines := buf.lines.filter (fun x => x.line != 0)
  let pic := match mode with
    | .same => lines.map (Pic.ofLine f)
    | .toVideo => lines.flatMap (Pic.activeOf f)
    | _ => []
  let spaces := lines.flatMap (fun x => Sdi.spacesOf f x.line x.words)
  let pkts := spaces.flatMap Sdi.packetsOf
  let tc := Sdi.tcOf pkts
  let d := d.setFlow c (fun x => { x with sdi := { buf with lines := [] } })
  let d := d.setFs t b (fun x => { x with cur := { x.cur.add tc spaces pkts with pic := x.cur.pic ++ pic } })
  if b then d else d.setTile t (fun x => { x with tc := tc.orElse (fun _ => x.tc) })

/-- The bytes of a VID cell find their place in the input frame in progress. -/
def Dev.picReads (d : Dev) (t : Nat) (b : Bool) (mode : PicMode) (cell : Cell) : Dev :=
  d.setFs t b (fun x =>
    let at_ := if cell.sof then 0 else x.cur.upTo
    let old := if cell.sof then [] else x.cur.pic
    let piece := if mode = .made then [] else [(8 * at_, 8 * cell.len, cell.payload / 256 ^ (256 - cell.len))]
    { x with cur := { x.cur with pic := old ++ piece, upTo := at_ + cell.len } })

/-- A cell of the ancillary input: the last of a frame completes it. -/
def Dev.ancReads (d : Dev) (t : Nat) (cell : Cell) : Dev :=
  let all := (d.tileSt t).ancIn.app ⟨cell.len, cell.payload / 256 ^ (256 - cell.len)⟩
  if !cell.eof then d.setTile t (fun x => { x with ancIn := all })
  else
    let pkts := Sdi.ancFrame all.len all
    let tc := Sdi.tcOf pkts
    d.setTile t (fun x => { x with ancIn := ⟨0, 0⟩, tc := tc.orElse (fun _ => x.tc), a := { x.a with cur := x.a.cur.add tc [] pkts } })

/-- An input frame is complete: what it carried is kept with it, up to the six frames that DELAY_FRAMES can ask for, and the two before. -/
def Dev.ancFrameDone (d : Dev) (t : Nat) (b : Bool) : Dev :=
  let d := d.setFs t b (fun x => { x with frames := (x.cur :: x.frames).take 8, cur := {} })
  if b then d else d.setTile t (fun x => { x with fresh := x.fresh + 1, freshAnc := x.freshAnc + 1 })

/-! ## Output -/

/-- Does a packet pass ANC_PASS (R293)? Audio packets and payload identifiers never do, and timecode is inserted anew (R294). -/
def ancPasses (pass : Nat) (p : AncPkt) : Bool :=
  let id := Sdi.idOf p.words
  let pairs := (List.range 16).map (fun i => (byteAt 32 pass (2 * i), byteAt 32 pass (2 * i + 1)))
  (pairs.headD (0, 0) == (0, 0) || pairs.contains id) && !Sdi.isPid p.words && !Sdi.isTc p.words && (Sdi.audioGroup p.words).isNone

/-- The flag of ST 12-1 that tells the frames of a pair apart (PRESUMED: bit 59 of the LTC word at 25 pairs per second, else bit 27). -/
def pairFlag (f half : Nat) : Nat := if half = 0 then 0 else if Fmt.rate f = 6 ∨ Fmt.rate f = 3 then 2 ^ 31 else 2 ^ 15

/-- Packets placed in the vertical ancillary space, line by line from the first after the switching line, in the last stream of link 0; how
many find no room (R293). -/
def placeVanc (f : Nat) : List Nat → List AncPkt → List Nat → List AncSpace × Nat
  | [], l, _ => ([], l.length)
  | n :: t, l, ws =>
    let room := Sdi.activeLen f
    let fit := (l.foldl (fun (a : Nat × Nat) p => if a.1 + p.words.length ≤ room then (a.1 + p.words.length, a.2 + 1) else (room + 1, a.2)) (ws.length, 0)).2
    if l = [] then ([], 0)
    else
      let s := Sdi.streams f - 1
      let first := Sdi.savAt f + 4
      let body := ws ++ ((l.take fit).map AncPkt.words).flatten
      let space : AncSpace := ⟨0, s, n, first, body ++ (List.range (room - body.length)).map (fun i => Sdi.black f s (first + body.length + i))⟩
      -- the CRC of the line, in the line after it
      let next := n % Fmt.totalLines f + 1
      let crc : List AncSpace := if Sdi.sd f then [] else
        [⟨0, s, next, 6, Sdi.crcWords (Sdi.crcOf (Sdi.crcOf 0 space.words) ((List.range 6).map (Sdi.blackWord f s next)))⟩]
      let r := placeVanc f t (l.drop fit) []
      if fit = 0 then r else (space :: crc ++ r.1, r.2)

/-- The lines of the vertical ancillary space, from the first after the switching line on. -/
def vancLines (f : Nat) : List Nat :=
  ((List.range (Fmt.totalLines f)).map (fun i => i + 1)).filter (fun n => decide (Fmt.switchLine f < n) && Sdi.blanked f n)

/-- The horizontal spaces in which an output frame carries its payload identifier (`pid`) and a timecode label. -/
def hancSpaces (f : Nat) (pid : Bool) (tc : Option Nat) : List AncSpace :=
  let lines := ((if pid then Sdi.pidLines f else []) ++ (if tc.isSome then Sdi.tcLines f else [])).eraseDups
  lines.flatMap (fun n => (List.range (Fmt.links f)).flatMap (fun i =>
    ((List.range (Sdi.streams f)).filter (fun s => decide (Sdi.streams f ≤ 2 * s) || Sdi.streams f == 1)).map (fun s =>
      let o : Sdi.Opts := ⟨pid, false, if tc.isSome then 1 else 0, tc.getD 0, false, [], [], false, 0⟩
      let h := Sdi.headLen f
      let blank := fun i => Sdi.black f s (h + i)
      ⟨i, s, n, h, (Sdi.edit ((List.range (Sdi.savAt f - h)).map blank) some (Sdi.inserted f n s o false) blank).1⟩)))

end Machine
end Sys2Proof
end

