-- ==== Sys2Proof/Machine/TileCore.lean ====
section
/-! DEFINITION. Processing tiles: the functions a tile runs, its frame synchronisers, when its outputs may emit, substitution by
spares, and the conditions of Table 10.6 (R281 to R315). -/

namespace Sys2Proof.Machine

open Sys2Proof

namespace PhysTile
def ACTIVE : Nat := 0
def SPARE : Nat := 1
def FAILED : Nat := 2
def TESTING : Nat := 3
end PhysTile

/-- The BIND INDEX of a tile path: 0 A main, 1 A ancillary, 2 B (Table 10.1). -/
def tileIx (t path : Nat) : Nat := path * 256 + t
/-- The TILE_IN context of a path. -/
def Dev.tileIn (d : Dev) (t path : Nat) : Option Nat := d.boundTo 0x49 (tileIx t path)
/-- The TILE_OUT context of a path. -/
def Dev.tileOut (d : Dev) (t path : Nat) : Option Nat := d.boundTo 0x09 (tileIx t path)

/-- Is a tile one of a quad-link 12G gang (R301)? -/
def Dev.gang (d : Dev) (t : Nat) : Bool :=
  (List.range 64).any (fun u => u / 4 == t / 4 && (match d.tileOut u 2 with | some c => Fmt.raster (d.format c) == 8 | none => false))

/-- The contexts that emit a tile's outputs; in a gang those of the tile that holds the binding. -/
def Dev.tileOuts (d : Dev) (t : Nat) : List Nat :=
  d.enabled.filter (fun c => d.kind c == 0x09 && (d.bindIx c % 64 == t
    || (bitsOf (d.bindIx c) 8 2 == 2 && Fmt.raster (d.format c) == 8 && d.bindIx c % 64 / 4 == t / 4)))

/-- Does the frame synchroniser of a channel run? -/
def Dev.fsOn (d : Dev) (t : Nat) (b : Bool) : Bool := if b then d.on D.FsCfgB.ENABLE t else d.on D.FsCfgA.ENABLE t
/-- Its DPLL, DELAY_FRAMES, LOSS and PHASE_NS. -/
def Dev.fsDpll (d : Dev) (t : Nat) (b : Bool) : Nat := if b then d.rd D.FsCfgB.DPLL t else d.rd D.FsCfgA.DPLL t
def Dev.fsDelay (d : Dev) (t : Nat) (b : Bool) : Nat := if b then d.rd D.FsCfgB.DELAY_FRAMES t else d.rd D.FsCfgA.DELAY_FRAMES t
def Dev.fsLoss (d : Dev) (t : Nat) (b : Bool) : Nat := if b then d.rd D.FsCfgB.LOSS t else d.rd D.FsCfgA.LOSS t
def Dev.fsPhase (d : Dev) (t : Nat) (b : Bool) : Nat := if b then d.rd D.FsCfgB.PHASE_NS t else d.rd D.FsCfgA.PHASE_NS t

/-- The FRAME_SYNC allocation of a channel. -/
def Dev.fsAlloc (d : Dev) (t : Nat) (b : Bool) : Option Alloc :=
  (d.store.alloc.find? (fun a => a.2.want.cls == 5 && a.2.want.owner == t && a.2.want.tag == ofBool b)).map (·.2)

/-- FS_SHORT: the allocation has been cut to MIN_BLOCKS (R300). -/
def Dev.fsShort (d : Dev) (t : Nat) (b : Bool) : Bool :=
  match d.fsAlloc t b with | some a => decide (0 < a.held) && a.shrunk | none => false
/-- FS_UNBACKED: the allocation has been released whole. -/
def Dev.fsUnbacked (d : Dev) (t : Nat) (b : Bool) : Bool :=
  d.fsOn t b && (match d.fsAlloc t b with | some a => a.held == 0 | none => true)

/-! ## Functions (Table 10.2) -/

/-- DEINT runs: interlaced or segmented input, progressive output. -/
def deintOf (i o : Nat) : Bool := Fmt.interlaced i && !Fmt.interlaced o
/-- INTERLACE runs: progressive input, interlaced output. -/
def interlaceOf (i o : Nat) : Bool := !Fmt.interlaced i && (Fmt.raster o == 1 || Fmt.raster o == 2 || Fmt.raster o == 4)
/-- SCALE runs: the active picture sizes differ. -/
def scaleOf (i o : Nat) : Bool := Fmt.width i != Fmt.width o || Fmt.height i != Fmt.height o
/-- COLOUR of a FORMAT (Table 05.2). -/
def colourOf (f : Nat) : Nat := f % 4
/-- COLOUR runs. -/
def Dev.colourRuns (d : Dev) (t i o : Nat) : Bool :=
  Fmt.sampling i != Fmt.sampling o || colourOf i != colourOf o || d.rd D.ProcCfg.LUT_SLOT t != 0xFF

/-- Table 10.3: IN_COLOUR and OUT_COLOUR of the built-in slots. -/
def builtInColours : List (Nat × Nat) := [(0, 1), (1, 0), (0, 2), (2, 0), (3, 2), (2, 3), (0, 3), (3, 0)]

/-- Byte i of a LUT (Table 10.4). -/
def lutByte (v i : Nat) : Nat := byteAt 215642 v i

/-- The colours of a slot: the built-in table for slots 0 to 7 and for a slot that holds slot 0's contents. -/
def Dev.slotColours (d : Dev) (k : Nat) : Nat × Nat :=
  if k < 8 then builtInColours.getD k (0, 0)
  else match Assoc.find d.dict (D.Lut.LUT.key k) with
    | some v => (lutByte v 6, lutByte v 7)
    | none => (0, 1)

/-- The slot a tile's COLOUR uses: LUT_SLOT, or for 0xFF the built-in slot whose colours match; none where stage 2 is bypassed or
nothing matches (R289). -/
def Dev.slotUsed (d : Dev) (t i o : Nat) : Option Nat :=
  let s := d.rd D.ProcCfg.LUT_SLOT t
  if s < 16 then some s
  else if colourOf i = colourOf o then none
  else (List.range 8).find? (fun k => builtInColours.getD k (0, 0) == (colourOf i, colourOf o))

/-- FORMATs of the A main input and output, where both are bound. -/
def Dev.tileFormats (d : Dev) (t : Nat) : Option (Nat × Nat) :=
  match d.tileIn t 0, d.tileOut t 0 with
  | some i, some o => some (d.format i, d.format o)
  | _, _ => none

/-- The tiles that use a slot. -/
def Dev.slotUsers (d : Dev) (k : Nat) : List Nat :=
  (List.range 64).filter (fun t => match d.tileFormats t with | some (i, o) => d.slotUsed t i o == some k | none => false)

/-! ## Ancillary data of an output frame (R293, R294, R298) -/

/-- Does every packet of channel A's input keep its place: input and output are SDI of one RASTER and RATE and of lines of one length, and
neither SCALE nor DEINT runs? -/
def Dev.ancExact (d : Dev) (t : Nat) : Bool :=
  match d.tileIn t 0, d.tileOut t 0 with
  | some ci, some co =>
    let i := d.format ci
    let o := d.format co
    d.takenType ci == 1 && d.tileOutType (d.bindIx co) == 1 && Fmt.raster i == Fmt.raster o && Fmt.rate i == Fmt.rate o && !scaleOf i o
      && !deintOf i o && Fmt.lineWords i == Fmt.lineWords o
  | _, _ => false

/-- Does the output run at twice the input's frame rate (R294)? -/
def Dev.tileDoubles (d : Dev) (t : Nat) : Bool :=
  match d.tileFormats t with | some (i, o) => Fmt.fps o == 2 * Fmt.fps i | none => false

/-- The packets that go with an output frame of channel A: those of the frame read, and without a frame synchroniser those of the input
frames complete since the last output frame. -/
def Dev.framePkts (d : Dev) (t fresh : Nat) : List AncPkt :=
  let x := d.tileSt t
  let l := if d.fsOn t false then x.a.shown.pkts else (x.a.frames.take fresh).reverse.flatMap FrameAnc.pkts
  l.filter (ancPasses (d.rd D.Tile.ANC_PASS t))

/-- An output frame of channel A starts: its packets find their place in it (R293), and it is known from which field it was built (R294). -/
def Dev.placeAnc (d : Dev) (c t field : Nat) : Dev :=
  let x := d.tileSt t
  let f := d.format c
  let r := if d.originType c ≠ 1 ∨ d.ancExact t = true then ([], 0) else placeVanc f (vancLines f) (d.framePkts t x.fresh) []
  (d.sat D.Tile.ANC_DROPPED t r.2).setTile t (fun x => { x with placed := r.1, fresh := 0, half := field % 2 })

/-- The spaces of the present output frame that the tile writes. With every packet in its place, those of the frame read or, without a
frame synchroniser, the newest that came; a timecode label and the payload identifier where they are not so carried. -/
def Dev.tileSpaces (d : Dev) (c t : Nat) (b : Bool) : List AncSpace :=
  let x := d.tileSt t
  let f := d.format c
  if b then (if d.fsOn t true then x.b.shown.spaces else [])
  else
    let silent := d.fsOn t false && x.a.lossy && d.fsLoss t false == 1
    if d.ancExact t && !silent then
      (if d.fsOn t false then x.a.shown.spaces
       else
         let old := ((x.a.frames.head?.map FrameAnc.spaces).getD []).filter (fun s => !x.a.cur.spaces.any (fun u =>
           u.line == s.line && u.stream == s.stream && u.link == s.link && u.first == s.first))
         old ++ x.a.cur.spaces)
    else
      let label := if d.fsOn t false then x.a.shown.tc else x.tc
      let label := label.map (fun v => v + (if d.tileDoubles t then pairFlag f x.half else 0))
      hancSpaces f true label ++ x.placed

/-- How a channel's output picture follows from its input's (Table 10.2): channel B stores and sends one FORMAT, and channel A changes no sample
where none of its functions but GATEWAY and FS runs. -/
def Dev.picMode (d : Dev) (t : Nat) (b : Bool) : PicMode :=
  if b then
    (match d.tileIn t 2, d.tileOut t 2 with
     | some i, some o => if d.format i = d.format o ∧ d.fsOn t true = true then .same else .made
     | _, _ => .made)
  else
    match d.tileIn t 0, d.tileOut t 0 with
    | some ci, some co =>
      let i := d.format ci
      let o := d.format co
      if deintOf i o || interlaceOf i o || scaleOf i o || d.colourRuns t i o then .made
      else
        (match d.takenType ci, d.tileOutType (d.bindIx co) with
         | 1, 1 => if Fmt.lineWords i = Fmt.lineWords o ∧ Fmt.totalLines i = Fmt.totalLines o ∧ Fmt.mapping i = Fmt.mapping o then .same else .made
         | 1, 2 => if Pic.plain i then .toVideo else .made
         | 2, 1 => if Pic.plain o then .toSdi else .made
         | 2, 2 => .same
         | _, _ => .made)
    | _, _ => .made

/-- The input frame whose picture an output shows at bit b: the one a frame synchroniser reads (R297); without one the frame in progress as far
as it has come, and before that the last. -/
def Dev.picShown (d : Dev) (t : Nat) (b : Bool) (at_ : Nat) : List Pic.Piece :=
  let x := d.fsSt t b
  if d.fsOn t b then x.shown.pic
  else if Pic.past x.cur.pic at_ then x.cur.pic else (x.frames.headD {}).pic

/-- The first n bits of a cell of a tile's output, from bit b of its frame or stream on: its picture, where no function makes it, and its
ancillary spaces. -/
def Dev.tilePayload (d : Dev) (c b n payload : Nat) : Nat :=
  let t := d.bindIx c % 64
  let chanB := bitsOf (d.bindIx c) 8 2 == 2
  let f := d.format c
  let sdi := d.tileOutType (d.bindIx c) == 1
  let p := b % max 1 (if sdi then Pic.sdiBits f else 8 * Fmt.activeBytes f)
  let v := match d.picMode t chanB with
    | .made => payload / 2 ^ (2048 - n)
    | .same => if sdi then Pic.words f p n (d.picShown t chanB p) else Pic.video f p n (d.picShown t chanB p)
    | .toVideo => Pic.video f p n (d.picShown t chanB p)
    | .toSdi => Pic.wordsOfVideo f p n (d.picShown t chanB (Pic.lineBit f (p / (10 * max 1 (Fmt.lineWords f)) + 1)))
  let l := (d.tileSpaces c t chanB).filter (fun s => s.words != [])
  (if sdi then Sdi.putSpaces f b n v l else v) * 2 ^ (2048 - n)

/-- R293: the ancillary output begins an ANC frame. -/
def Dev.ancStart (d : Dev) (c t : Nat) : Dev :=
  let l := d.framePkts t (d.tileSt t).freshAnc
  d.setTile t (fun x => { x with ancOut := Sdi.ancPayloads (d.format c) l [] 0, freshAnc := 0 })

/-! ## Output -/

/-- Does a channel of a tile emit nothing now: the tile is UNAVAILABLE or substituting (R311), its input is lost and LOSS is STOP or
no frame synchroniser runs (R299, R302), or its frame store is released (R300)? -/
def Dev.tileSilent (d : Dev) (t : Nat) (b : Bool) : Bool :=
  let x := d.fsSt t b
  d.on D.TileStatus.UNAVAILABLE t || d.on D.TileStatus.SUBSTITUTING t
    || (if d.fsOn t b then d.fsUnbacked t b || x.waits || x.done2 < 2 || (x.lossy && d.fsLoss t b == 2) else x.lossy)

/-- Is a TILE_OUT context kept from emitting? -/
def Dev.tileMute (d : Dev) (c : Nat) : Bool :=
  d.kind c == 0x09 && d.tileSilent (d.bindIx c % 64) (bitsOf (d.bindIx c) 8 2 == 2)

/-- The ITIME of the SWITCH_POINT cell a frame synchroniser emits (R296). -/
def Dev.fsTarget (d : Dev) (c : Nat) : Option Nat :=
  let t := d.bindIx c % 64
  let b := bitsOf (d.bindIx c) 8 2 == 2
  if d.kind c = 0x09 ∧ bitsOf (d.bindIx c) 8 2 ≠ 1 ∧ d.fsOn t b then (d.fsSt t b).target else none

/-- At an output frame start a newly written LUT, a changed LUT_SLOT and a changed ANC_PASS come into use (R292, R308). -/
def Dev.tileFrameStart (d : Dev) (t : Nat) : Dev :=
  let s := match d.tileFormats t with | some (i, o) => d.slotUsed t i o | none => none
  d.setTile t (fun x => { x with slot := s.getD 0xFF, anc := d.rd D.Tile.ANC_PASS t,
                                 lutCrc := match s with | some k => d.ent (D.Lut.LUT.key k) % 2 ^ 32 | none => 0 })

/-- SOURCE_LOST of a tile's outputs. -/
def Dev.tileOutsLost (d : Dev) (t : Nat) : Dev :=
  d.each (d.tileOuts t) (fun d c => (d.flag D.FlowStatus.SOURCE_LOST c true).flag D.FlowStatus.EMITTING c false)

/-! ## Input -/

/-- Half frames that one input frame completes: DEINT to the field rate makes two frames, INTERLACE one field (R285, R297). -/
def Dev.halves (d : Dev) (t : Nat) (b : Bool) : Nat :=
  if b then 2
  else match d.tileFormats t with
    | some (i, o) => if deintOf i o && Fmt.fps o == 2 * Fmt.fps i then 4 else if interlaceOf i o && Fmt.fps i == 2 * Fmt.fps o then 1 else 2
    | none => 2

/-- The input frame in progress is complete (R297). -/
def Dev.tileFrameDone (d : Dev) (t : Nat) (b : Bool) : Dev :=
  let n := d.halves t b
  let w := (d.fsSt t b).whole
  let now := d.now
  ((d.ancFrameDone t b).setFs t b (fun x =>
    { x with done2 := x.done2 + n, whole := true, waits := x.waits && d.fsUnbacked t b, doneAt := now })).flag D.TileStatus.FS_LOCKED t w

/-- A TILE_IN has released a cell: the input is there, and its last cell completes a frame (R297, R299). -/
def Dev.tileTakes (d : Dev) (c : Nat) (cell : Cell) : Dev :=
  if d.kind c ≠ 0x49 then d
  else if bitsOf (d.bindIx c) 8 2 = 1 then d.ancReads (d.bindIx c % 64) cell
  else
    let t := d.bindIx c % 64
    let b := bitsOf (d.bindIx c) 8 2 == 2
    let mode := d.picMode t b
    let d := if cell.type = 1 then d.tileReads c t b mode cell else if cell.type = 2 then d.picReads t b mode cell else d
    let d := d.setFs t b (fun x => { x with inAt := d.wall, lossy := false })
    if cell.eof then d.tileFrameDone t b else d

/-- A TILE_IN has no valid copy of a sequence number (R302): the span counts in the frame, which it may complete. -/
def Dev.tileMisses (d : Dev) (c : Nat) : Dev :=
  if d.kind c ≠ 0x49 ∨ bitsOf (d.bindIx c) 8 2 = 1 then d
  else
    let t := d.bindIx c % 64
    let b := bitsOf (d.bindIx c) 8 2 == 2
    let d := (d.setFs t b (fun x => { x with whole := false, cur := { x.cur with upTo := x.cur.upTo + 256 } })).flag D.TileStatus.FS_LOCKED t false
    if d.takenType c = 2 ∧ Fmt.activeBytes (d.format c) ≤ (d.fsSt t b).cur.upTo then d.tileFrameDone t b else d

/-! ## Latency (Table 10.5) -/

/-- A line period of a FORMAT in ns, rounded up. -/
def lineNs (f : Nat) : Nat := if Fmt.fps f = 0 then 0 else ceilDiv Fmt.period1001 (Fmt.fps f * Fmt.rasterLines f)

/-- LATENCY_NS of channel A, for the first sample of a frame where FS runs. -/
def Dev.tileLatency (d : Dev) (t : Nat) : Nat :=
  match d.tileIn t 0, d.tileOut t 0 with
  | some ci, some co =>
    let i := d.format ci
    let o := d.format co
    let l := lineNs i
    let field := Fmt.periodNs i / 2
    let de := if deintOf i o then
        (if Fmt.raster i = 5 ∨ d.rd D.ProcCfg.DEINT_MODE t = 1 then field
         else if d.rd D.ProcCfg.DEINT_MODE t = 0 then field + 4 * l else 2 * l)
      else 0
    let x := (d.tileSt t).a
    1000 + (if d.takenType ci != d.tileOutType (d.bindIx co) then 500 else 0) + (if d.colourRuns t i o then 400 else 0)
      + (if scaleOf i o then 4 * l + 300 else 0) + de + (if interlaceOf i o then 4 * l else 0)
      + (if d.fsOn t false then Fmt.periodNs i + (x.readAt - x.doneAt) + d.fsDelay t false * Fmt.periodNs o else 0)
  | _, _ => 0

/-! ## Conditions at a commit (Table 10.6) -/

/-- Samples per second × 1,001 of a FORMAT (R286). -/
def sampleRate (f : Nat) : Nat := Fmt.totalSamples f * Fmt.rasterLines f * Fmt.fps f

/-- R285: does the output frame rate meet a condition without FS? -/
def rateMet (i o : Nat) : Bool :=
  Fmt.fps i == Fmt.fps o || (deintOf i o && Fmt.fps o == 2 * Fmt.fps i) || (interlaceOf i o && 2 * Fmt.fps o == Fmt.fps i)

/-- R286: may channel A take a FORMAT? -/
def fitsA (f : Nat) : Bool := decide (1 ≤ Fmt.raster f) && decide (Fmt.raster f ≤ 7) && decide (sampleRate f ≤ 594000000 * 1001)
/-- R286: may channel B take a FORMAT, outside the gang? -/
def fitsB (f : Nat) : Bool :=
  decide (1 ≤ Fmt.raster f) && decide (Fmt.raster f ≤ 7)
    && (match Fmt.sdiLinks f with | some p => decide (p.1 * p.2 ≤ 1188000) | none => Fmt.mapping f == 0 && Fmt.defined f)

/-- Does a frame synchroniser's committed configuration meet R296 and R393? -/
def Dev.fsOk (d : Dev) (t : Nat) (b : Bool) (f : Nat) : Bool :=
  !d.fsOn t b ||
    (decide (d.fsPhase t b < Fmt.periodNs f) && decide (d.fsDelay t b ≤ 5)
      && d.on D.DpllCfg.ENABLE (d.fsDpll t b) && rateSuits (Fmt.fps f) (d.dpllFps (d.fsDpll t b)))

/-- R289, R292: the colours can be converted with the slot named. -/
def Dev.colourOk (d : Dev) (t i o : Nat) : Bool :=
  let s := d.rd D.ProcCfg.LUT_SLOT t
  if s < 16 then d.slotColours s == (colourOf i, colourOf o)
  else colourOf i == colourOf o || (d.slotUsed t i o).isSome

/-- Check 4 of Table 02.6 for a tile: R130, R285, R286, R289, R292, R296. -/
def Dev.tileCheck4 (d : Dev) (t : Nat) : Bool :=
  let i0 := d.tileIn t 0
  let o0 := d.tileOut t 0
  let okA := (match i0 with | some c => fitsA (d.format c) | none => true) && (match o0 with | some c => fitsA (d.format c) && d.fsOk t false (d.format c) | none => true)
    && (match d.tileFormats t with | some (i, o) => (rateMet i o || d.fsOn t false) && d.colourOk t i o | none => true)
  let gangOk := fun (c : Nat) => Fmt.raster (d.format c) == 8 && t % 4 == 0 && (Fmt.sdiLinks (d.format c)).isSome
  let okB := (match d.tileIn t 2 with | some c => fitsB (d.format c) || gangOk c | none => true)
    && (match d.tileOut t 2 with | some c => (fitsB (d.format c) || gangOk c) && d.fsOk t true (d.format c) | none => true)
    && (match d.tileIn t 2, d.tileOut t 2 with | some i, some o => d.format i == d.format o | _, _ => true)
  -- MAPPING is 0 for VID and CMP (R130)
  let plain := fun (c : Option Nat) (type : Nat → Nat) => match c with
    | some c => type c == 0 || type c == 1 || type c == 5 || Fmt.mapping (d.format c) == 0
    | none => true
  let mapOk := plain i0 d.takenType && plain (d.tileIn t 2) d.takenType && plain o0 (fun c => d.tileOutType (d.bindIx c))
    && plain (d.tileOut t 2) (fun c => d.tileOutType (d.bindIx c))
  okA && okB && mapOk

/-- Check 5 of Table 02.6 for a tile with a context bound: it is available and, unless a take inserted it, not in TAKE_TILE_MASK
(R306, R307). -/
def Dev.tileCheck5 (d : Dev) (t : Nat) : Bool :=
  !d.on D.TileStatus.UNAVAILABLE t && (!bit (d.rd D.Tiles.TAKE_TILE_MASK 0) t || (d.tileSt t).forOutput.isSome)

/-! ## LUTs (R290 to R292) -/

/-- R291: MAGIC, LAYOUT, colour codes and CRC of a LUT. -/
def lutOk (v : Nat) : Bool :=
  v / 2 ^ (8 * 215638) == 0x4C555433 && lutByte v 4 * 256 + lutByte v 5 == 1 && decide (lutByte v 6 ≤ 3) && decide (lutByte v 7 ≤ 3)
    && v % 2 ^ 32 == crc32c (bytesOf 215638 (v / 2 ^ 32))

/-- A LUT is written (R291, R292). -/
def Dev.lutWrite (d : Dev) (k v : Nat) : Dev × Nat :=
  if !lutOk v then (d, St.FORMAT)
  else if (List.range 8).any (fun i => lutByte v (8 + i) != 0) then (d, St.RANGE)
  else if d.slotUsers k ≠ [] ∧ d.slotColours k ≠ (lutByte v 6, lutByte v 7) then (d, St.FORMAT)
  else (d.setEnt (D.Lut.LUT.key k) v, St.OK)

/-! ## Spares (R309 to R312) -/

/-- The lowest-numbered spare. -/
def Dev.tileSpare (d : Dev) : Option Nat := (List.range 68).find? (fun p => d.rd D.TileMapEl.STATE p == PhysTile.SPARE)

/-- The physical tile of a logical tile. -/
def Dev.physOf (d : Dev) (t : Nat) : Option Nat :=
  let p := d.rd D.Tile.PHYS_TILE t
  if p < 68 then some p else none

/-- A tile gets no physical tile: its outputs emit nothing (R311). -/
def Dev.tileGone (d : Dev) (t : Nat) (raise : Bool) : Dev :=
  let d := (((d.wr D.Tile.PHYS_TILE t 0xFF).flag D.TileStatus.UNAVAILABLE t true).flag D.TileStatus.SUBSTITUTING t false).tileOutsLost t
  let d := if raise then d.raise Src.PT_NO_SPARE t else d
  match (d.tileSt t).forOutput with
  | some c => { d with tileAgain := if d.tileAgain.contains c then d.tileAgain else d.tileAgain ++ [c] }
  | none => d

/-- A spare takes a logical tile (R311): emission ends with the cell in progress. -/
def Dev.tileTakeSpare (d : Dev) (t p : Nat) : Dev :=
  let d := (d.wr D.TileMapEl.STATE p PhysTile.ACTIVE).wr D.TileMapEl.LOGICAL p t
  let d := d.wake (fun i => i == (4, p))
  let d := ((d.wr D.Tile.PHYS_TILE t p).flag D.TileStatus.SUBSTITUTING t true).flag D.TileStatus.UNAVAILABLE t false
  let d := d.each (d.tileOuts t) (fun d c => d.flag D.FlowStatus.EMITTING c false)
  ((d.add D.Tiles.SUBSTITUTIONS 0 1).add D.Tile.SUBSTITUTIONS t 1).raise Src.PT_SPARE_IN t

/-- A physical tile enters FAILED. -/
def Dev.tileFailed (d : Dev) (p : Nat) : Dev := (d.wr D.TileMapEl.STATE p PhysTile.FAILED).sat D.TileMapEl.FAILURES p 1

end Sys2Proof.Machine
end

