-- ==== Sys2Proof/Machine/LayerCore.lean ====
section
/-! DEFINITION. Composition heads and layers: line need and geometry, what reaches a layer store, commit conditions (R316 to
R335). -/

namespace Sys2Proof.Machine

open Sys2Proof

/-- What a layer engine holds beside its record. -/
def Dev.layerSt (d : Dev) (e : Nat) : LayerSt := nget d.layer {} e
/-- Change what a layer engine holds. -/
def Dev.setLayer (d : Dev) (e : Nat) (f : LayerSt → LayerSt) : Dev := { d with layer := nput d.layer {} e (f (d.layerSt e)) }
/-- What a head holds beside its record. -/
def Dev.headSt (d : Dev) (h : Nat) : HeadSt := nget d.head {} h
/-- Change what a head holds. -/
def Dev.setHead (d : Dev) (h : Nat) (f : HeadSt → HeadSt) : Dev := { d with head := nput d.head {} h (f (d.headSt h)) }

/-- The engines of a head, in ascending order. -/
def Dev.headEngines (d : Dev) (h : Nat) : List Nat := (List.range 192).filter (fun e => d.rd D.Layer.HEAD e == h)
/-- Is a layer a flow layer? -/
def Dev.flowLayer (d : Dev) (e : Nat) : Bool := d.rd D.Layer.SOURCE e == 0
/-- The LAYER_IN context of an engine. -/
def Dev.layerIn (d : Dev) (e : Nat) : Option Nat := d.boundTo 0x4A e
/-- The HEAD_OUT context of a head. -/
def Dev.headOut (d : Dev) (h : Nat) : Option Nat := d.boundTo 0x0A h

/-- RUNNING of a head (Table 11.12): its HEAD_OUT is RUNNING. -/
def Dev.headRuns (d : Dev) (h : Nat) : Bool := match d.headOut h with | some c => d.running c | none => false

/-! ## Geometry words (Table 11.13) -/

namespace Geo
def x (g : Nat) : Nat := bitsOf g 112 16
def y (g : Nat) : Nat := bitsOf g 96 16
def w (g : Nat) : Nat := bitsOf g 80 16
def h (g : Nat) : Nat := bitsOf g 64 16
def cropL (g : Nat) : Nat := bitsOf g 48 16
def cropR (g : Nat) : Nat := bitsOf g 32 16
def cropT (g : Nat) : Nat := bitsOf g 16 16
def cropB (g : Nat) : Nat := bitsOf g 0 16
/-- The part that takes effect with the first frame made under it: W, H and the crops (R328). -/
def frame (g : Nat) : Nat := bitsOf g 0 96
end Geo

/-- What a frame of a layer is made under: size, crops and PREDECIM. -/
def madeUnder (g b : Nat) : Nat := Geo.frame g * 4 + bitsOf b 14 2

/-- D of PREDECIM in a BLEND word. -/
def predecim (b : Nat) : Nat := 2 ^ bitsOf b 14 2
/-- OPACITY of a BLEND word. -/
def opacityOf (b : Nat) : Nat := bitsOf b 16 8

/-- The line-buffer need for a source FORMAT (R323). -/
def Dev.lineNeed (d : Dev) (e f : Nat) : Nat :=
  let g := d.rd D.Layer.GEOMETRY e
  ceilDiv (Fmt.width f - Geo.cropL g - Geo.cropR g) (predecim (d.rd D.Layer.BLEND e)) * (if Fmt.sampling f = 0 then 1 else 2)

/-- Is a scaling ratio within 1/8 to 8? -/
def ratioOk (src out : Nat) : Bool := decide (src ≤ 8 * out) && decide (out ≤ 8 * src) && src != 0 && out != 0

/-- R322: do crops and ratios fit a source FORMAT? -/
def Dev.layerFits (d : Dev) (e f : Nat) : Bool :=
  let g := d.rd D.Layer.GEOMETRY e
  let w := Fmt.width f - Geo.cropL g - Geo.cropR g
  let h := Fmt.height f - Geo.cropT g - Geo.cropB g
  decide (Geo.cropL g + Geo.cropR g < Fmt.width f) && decide (Geo.cropT g + Geo.cropB g < Fmt.height f)
    && (Fmt.sampling f != 0 || (Geo.cropL g % 2 == 0 && Geo.cropR g % 2 == 0))
    && ratioOk (ceilDiv w (predecim (d.rd D.Layer.BLEND e))) (Geo.w g) && ratioOk h (Geo.h g)

/-- The engine evaluates a source FORMAT (R325): LINE_NEED, and LINEBUF or GEOMETRY where it is out of limits; a new finding raises
its fault. -/
def Dev.layerEval (d : Dev) (e f : Nat) (raise : Bool) : Dev :=
  let need := d.lineNeed e f
  let lb := decide (4096 < need)
  let ge := !lb && !d.layerFits e f
  let d := d.wr D.Layer.LINE_NEED e need
  let d := if raise && lb then d.raise Src.CMP_LAYER_LINEBUF e else d
  let d := if raise && ge then d.raise Src.CMP_LAYER_GEOMETRY e else d
  -- a layer that comes to fill shows again from the first complete frame made within the limits
  let d := if lb || ge then d.setLayer e (fun x => { x with ready := [], prev := none, inFrame := none, due := [] }) else d
  ((d.flag D.LayerStatus.LINEBUF e lb).flag D.LayerStatus.GEOMETRY e ge).setLayer e (fun x => { x with format := f })

/-! ## What reaches a layer store -/

/-- Is an engine fit to write its store? -/
def Dev.engineOk (d : Dev) (e : Nat) : Bool :=
  !d.on D.LayerStatus.ENGINE_FAILED e && !d.on D.LayerStatus.UNAVAILABLE e && !d.on D.LayerStatus.LINEBUF e && !d.on D.LayerStatus.GEOMETRY e

/-- A LAYER_IN has released a cell (R322): EOF, or the SOF of the run's next frame, completes a frame. -/
def Dev.layerTakes (d : Dev) (c : Nat) (cell : Cell) : Dev :=
  if d.kind c ≠ 0x4A then d
  else
    let e := d.bindIx c
    -- a frame is made under what is committed at its start (R328)
    let made := madeUnder (d.rd D.Layer.GEOMETRY e) (d.rd D.Layer.BLEND e)
    d.setLayer e (fun x =>
      let x := if cell.sof then { x with due := x.due ++ x.inFrame.toList, inFrame := if d.engineOk e then some made else none } else x
      if cell.eof then { x with due := x.due ++ x.inFrame.toList, inFrame := none } else x)

/-- A run of the layer's source has begun: the frame it was writing is discarded (R322). -/
def Dev.layerNewRun (d : Dev) (c : Nat) : Dev :=
  if d.kind c ≠ 0x4A then d else d.setLayer (d.bindIx c) (fun x => { x with inFrame := none, due := [] })

/-- A take applies on a LAYER_IN (R327): the old source's last shown frame becomes the previous one, the repeat count starts from 0;
a disconnect empties the layer. -/
def Dev.layerApply (d : Dev) (c : Nat) (disconnect : Bool) : Dev :=
  if d.kind c ≠ 0x4A then d
  else
    let e := d.bindIx c
    let n := (d.layerSt e).ready.length
    let d := (d.sat D.Layer.DROPS e n).setLayer e (fun x => { x with ready := [], repeats := 0, inFrame := none, due := [], empty := disconnect })
    if disconnect then d.setLayer e (fun x => { x with prev := none }) else d

/-- A LAYER_IN is IDLE: its allocation has gone, and its frames with it (R321). -/
def Dev.layerIdle (d : Dev) (c : Nat) : Dev :=
  if d.kind c ≠ 0x4A then d
  else d.setLayer (d.bindIx c) (fun x => { x with ready := [], prev := none, repeats := 0, inFrame := none, due := [] })

/-- The ITIME of a head's SWITCH_POINT cell emitted now: the reference instant nearest to now, plus PHASE_NS (R317). -/
def Dev.headTarget (d : Dev) (c : Nat) : Option Nat :=
  if d.kind c = 0x0A then
    let h := d.bindIx c
    let fps := Fmt.fps (d.format c)
    let p := d.rd D.HeadTiming.PHASE_NS h
    some ((d.nextRef (d.rd D.HeadTiming.DPLL h) fps (d.now - p - gridNs fps / 2) + p) % 2 ^ 48)
  else none

/-- The frame boundary of a head that falls now, at the last reference of its DPLL plus PHASE_NS (R317); none where that boundary has
passed. -/
def Dev.headBoundary (d : Dev) (h c : Nat) : Option Nat :=
  d.boundaryAt (d.rd D.HeadTiming.DPLL h) (d.format c) (d.rd D.HeadTiming.PHASE_NS h) (d.headSt h).boundary

/-- A sample of a source channel counts for the level bars that show it (R332). -/
def Dev.barSample (d : Dev) (ch v : Nat) : Dev :=
  d.each ((List.range 192).filter (fun e => decide (d.rd D.Bars.CH_BASE e ≤ ch) && decide (ch < d.rd D.Bars.CH_BASE e + d.rd D.Bars.COUNT e)))
    (fun d e => d.setLayer e (fun x => { x with peaks := Assoc.insertAt natLt (Assoc.erase x.peaks ch) ch (max v ((Assoc.find x.peaks ch).getD 0)) }))

/-! ## Commit conditions (Table 11.2) -/

/-- R316: may a head have a FORMAT? -/
def headFormatOk (f : Nat) : Bool :=
  (Fmt.raster f == 3 || Fmt.raster f == 6 || Fmt.raster f == 7)
    && (Fmt.sampling f == 0 || Fmt.sampling f == 1 || Fmt.sampling f == 2) && Fmt.mapping f == 0
    && Fmt.defined f && decide (sampleRate f ≤ 594000000 * 1001)

/-- Order 2: ranges of a layer record. -/
def Dev.layerCheck2 (d : Dev) (e : Nat) : Bool :=
  let h := d.rd D.Layer.HEAD e
  let g := d.rd D.Layer.GEOMETRY e
  let bars := d.rd D.Bars.COUNT e
  let v := d.rd D.Layer.VENEER e
  let inHead := match d.headOut h with
    | some c => decide (Geo.x g + Geo.w g ≤ Fmt.width (d.format c)) && decide (Geo.y g + Geo.h g ≤ Fmt.height (d.format c))
    | none => true
  (h == 0xFF || decide (h < 12))
    && (match d.layerIn e with | some _ => d.flowLayer e && h != 0xFF | none => true)
    && (bars == 0 || (decide (2 ≤ d.rd D.Bars.BAR_PX e) && decide (d.rd D.Bars.CH_BASE e + bars - 1 ≤ 16383) && decide (bars ≤ 16)))
    && (h == 0xFF ||
      (decide (16 ≤ Geo.w g) && decide (16 ≤ Geo.h g) && inHead
        && (d.flowLayer e ||
          (d.on D.VeneerCfg.ENABLE v && decide (Geo.cropL g + Geo.w g ≤ d.rd D.VeneerCfg.WIDTH v)
            && decide (Geo.cropT g + Geo.h g ≤ d.rd D.VeneerCfg.HEIGHT v) && Geo.cropR g == 0 && Geo.cropB g == 0))))

/-- Order 2: R318 and R319 of a head. -/
def Dev.headCheck2 (d : Dev) (h : Nat) : Bool :=
  let l := d.headEngines h
  decide (l.length ≤ 32)
    && (match d.headOut h with | some c => !d.running c || decide (2 ≤ l.length) | none => true)
    && (!d.on D.HeadTiming.ZORDER h || ((l.map (fun e => d.rd D.Blend.Z e)).eraseDups.length == l.length))

/-- Order 2: an enabled veneer has a size within Table 11.7. -/
def Dev.veneerCheck2 (d : Dev) (v : Nat) : Bool :=
  !d.on D.VeneerCfg.ENABLE v ||
    (decide (1 ≤ d.rd D.VeneerCfg.WIDTH v) && decide (d.rd D.VeneerCfg.WIDTH v ≤ 8192) && decide (1 ≤ d.rd D.VeneerCfg.HEIGHT v)
      && decide (d.rd D.VeneerCfg.HEIGHT v ≤ 4320))

/-- Order 4: FORMAT conditions of a head. -/
def Dev.headCheck4 (d : Dev) (h : Nat) : Bool :=
  match d.headOut h with
  | none => true
  | some c =>
    let k := d.rd D.HeadTiming.DPLL h
    headFormatOk (d.format c) && decide (d.rd D.HeadTiming.PHASE_NS h < Fmt.periodNs (d.format c))
      && d.on D.DpllCfg.ENABLE k && rateSuits (Fmt.fps (d.format c)) (d.dpllFps k)

/-- Order 4: FORMAT conditions of a flow layer; it takes VID cells, and no 4320p (R130, R131). -/
def Dev.layerCheck4 (d : Dev) (e : Nat) : Bool :=
  match d.layerIn e with
  | none => true
  | some c =>
    d.layerFits e (d.format c) && Fmt.defined (d.format c) && Fmt.mapping (d.format c) == 0 && decide (Fmt.raster (d.format c) ≤ 7)
      && (match d.headOut (d.rd D.Layer.HEAD e) with | some o => colourOf (d.format o) == colourOf (d.format c) | none => true)

/-- Order 4, last: R323. -/
def Dev.lineBufOk (d : Dev) (e : Nat) : Bool :=
  match d.layerIn e with
  | none => true
  | some c => decide (d.lineNeed e (d.format c) ≤ 4096)

/-- Order 5: a newly assigned engine is available (R334). -/
def Dev.layerCheck5 (d : Dev) (e : Nat) : Bool :=
  d.rd D.Layer.HEAD e == 0xFF || (!d.on D.LayerStatus.UNAVAILABLE e)

/-! ## Veneers -/

/-- Layers that show a veneer. -/
def Dev.veneerLayers (d : Dev) (v : Nat) : List Nat :=
  (List.range 192).filter (fun e => d.rd D.Layer.HEAD e != 0xFF && !d.flowLayer e && d.rd D.Layer.VENEER e == v)

/-- The allocation of a veneer. -/
def Dev.veneerAlloc (d : Dev) (v : Nat) : Option (Nat × Alloc) :=
  d.store.alloc.find? (fun a => a.2.want.cls == 2 && a.2.want.tag == 1 && a.2.want.owner == v)

/-- Blocks of one buffer of a veneer. -/
def Dev.veneerBlocks (d : Dev) (v : Nat) : Nat := blocksFor (d.rd D.VeneerCfg.WIDTH v * d.rd D.VeneerCfg.HEIGHT v * 4)

/-- The heads whose running HEAD_OUT shows a veneer. -/
def Dev.veneerHeads (d : Dev) (v : Nat) : List Nat :=
  (((d.veneerLayers v).map (fun e => d.rd D.Layer.HEAD e)).eraseDups).filter (fun h =>
    match d.headOut h with | some c => d.running c | none => false)

/-- Which buffer of a veneer a head shows: the new front once the head has passed its flip boundary (R330). -/
def Dev.shownBuffer (d : Dev) (h v : Nat) : Nat :=
  let f := d.rd D.VeneerStatus.FRONT v
  match d.flip.find? (fun p => p.1 == v) with
  | some (_, x) => if x.waiting.contains h then f else 1 - f
  | none => f

/-- The flip of a veneer is complete once every showing head has passed its boundary. -/
def Dev.flipDone (d : Dev) (v : Nat) : Dev :=
  match d.flip.find? (fun p => p.1 == v) with
  | some (_, x) =>
    if x.waiting = [] then
      ({ d with flip := d.flip.filter (fun p => p.1 != v) }.wr D.VeneerStatus.FRONT v (1 - d.rd D.VeneerStatus.FRONT v)).flag
        D.VeneerStatus.FLIP_PENDING v false
    else d
  | none => d

/-- Heads that no longer show a veneer have no flip boundary to pass. -/
def Dev.flipsLeft (d : Dev) : Dev :=
  let l := d.flip.map (fun (p : Nat × FlipSt) => (p.1, { p.2 with waiting := p.2.waiting.filter (fun h => (d.veneerHeads p.1).contains h) }))
  { d with flip := l }.each (l.map Prod.fst) (fun d v => d.flipDone v)

/-- Does a buffer of a veneer hold lost pixels (R333)? -/
def Dev.bufferLost (d : Dev) (v buf : Nat) : Bool :=
  match d.veneerAlloc v with
  | none => false
  | some (_, a) =>
    let n := d.veneerBlocks v
    (List.range n).any (fun i => (a.blocks.getD (buf * n + i) none).isNone || a.lost.any (fun p => p.1 == buf * n + i))

/-- Has a committed layer or head change taken effect no earlier than LAYER_LEAD_US after it (R328)? -/
def Dev.leadPast (d : Dev) (t : Nat) : Bool := d.past t (d.rd D.Comp.LAYER_LEAD_US 0 * 1000)

/-- A committed change of a layer record waits for its boundary; it replaces one that waits (R328). -/
def Dev.layerCommit (d : Dev) (e : Nat) : Dev :=
  let g := d.rd D.Layer.GEOMETRY e
  let b := d.rd D.Layer.BLEND e
  let x := d.layerSt e
  let framed := madeUnder g b != madeUnder x.geometry x.blend
  let d := d.setLayer e (fun x => { x with changed := some d.wall, frameWait := if framed then some (d.wall, 0) else none })
  -- an engine that no head holds shows nothing
  let d := if d.rd D.Layer.HEAD e = 0xFF then
      (d.wr D.LayerStatus.DISPLAY e 0).setLayer e (fun x => { x with ready := [], prev := none, repeats := 0, changed := none, frameWait := none })
    else d
  -- the committed need and geometry are judged anew for the FORMAT the layer last took (R325)
  let f := match d.layerIn e with | some c => d.format c | none => 0
  if x.format ≠ 0 ∧ f ≠ 0 then d.layerEval e (if sameSdi' x.format f then x.format else f) false else if f ≠ 0 then d.wr D.Layer.LINE_NEED e (d.lineNeed e f) else d
where
  /-- FORMATs that agree in the fields a LAYER_IN take compares (R324). -/
  sameSdi' (a b : Nat) : Bool := Fmt.raster a == Fmt.raster b && Fmt.rate a == Fmt.rate b && Fmt.sampling a == Fmt.sampling b

/-- A committed change of a head record waits for its boundary. -/
def Dev.headCommit (d : Dev) (h : Nat) : Dev := d.setHead h (fun x => { x with changed := some d.wall })

end Sys2Proof.Machine
end

