-- ==== Sys2Proof/Machine/AudioCore.lean ====
section
/-! DEFINITION. The audio matrix: positions, source stores, what an AUDIO_IN context writes, destination records and their fades
(R339 to R355, R96). -/

namespace Sys2Proof.Machine

open Sys2Proof

/-- Change the audio state. -/
def Dev.setAudio (d : Dev) (f : AudioSt → AudioSt) : Dev := { d with audio := f d.audio }
/-- A source channel. -/
def Dev.srcCh (d : Dev) (ch : Nat) : SrcCh := nget d.audio.src {} ch
/-- Change a source channel. -/
def Dev.setSrc (d : Dev) (ch : Nat) (f : SrcCh → SrcCh) : Dev :=
  d.setAudio (fun a => { a with src := nput a.src {} ch (f (d.srcCh ch)) })
/-- Change what a destination record holds. -/
def Dev.setDest (d : Dev) (r : Nat) (f : DestSt → DestSt) : Dev :=
  d.setAudio (fun a => { a with dest := nput a.dest {} r (f (d.destSt r)) })
/-- What a bundle holds. -/
def Dev.bundleSt (d : Dev) (b : Nat) : BundleSt := nget d.audio.bundle {} b
/-- Change what a bundle holds. -/
def Dev.setBundle (d : Dev) (b : Nat) (f : BundleSt → BundleSt) : Dev :=
  d.setAudio (fun a => { a with bundle := nput a.bundle {} b (f (d.bundleSt b)) })

/-! ## Positions (R339) -/

/-- The instant of a position. -/
def instant (k : Nat) : Nat := ceilDiv (k * 62500) 3
/-- The first position whose instant is a device time or later. -/
def posFrom (t : Nat) : Nat := if t = 0 then 0 else 3 * (t - 1) / 62500 + 1
/-- The position whose instant is nearest to a device time, the earlier of two equally near. -/
def posNear (t : Nat) : Nat :=
  let k := posFrom t
  if 0 < k ∧ t - instant (k - 1) ≤ instant k - t then k - 1 else k

/-- R339: device time was set: the current position moves at once, and what the stores hold outside the window is no longer there. -/
def Dev.audioStep (d : Dev) : Dev :=
  let k := posFrom (d.now + 1)
  d.setAudio (fun a =>
    let src := a.src.map (fun (e : Nat × SrcCh) =>
      (e.1, { e.2 with words := e.2.words.filter (fun w => decide (k ≤ w.1) && decide (w.1 ≤ k + 63)) }))
    { a with pos := k, src := src })

/-! ## Matrix words (Table 12.2) -/

/-- SAMPLE of a word. -/
def wordSample (w : Nat) : Int := toInt 24 (w / 256)
/-- DATA of a word. -/
def wordData (w : Nat) : Bool := bit w 3
/-- A word with another SAMPLE. -/
def wordWith (w : Nat) (x : Int) : Nat := ofInt 24 x * 256 + w % 256

/-! ## Origins (Table 12.1) -/

/-- What feeds a source channel: a de-embedder, a serial port, a tone generator, a bundle. -/
inductive Origin where
  | lane (n : Nat)
  | port (p : Nat)
  | tone (t : Nat)
  | bundle (b : Nat)
  deriving DecidableEq, Repr

/-- Slots a port has (Table 12.14). -/
def Dev.sapSlots (d : Dev) (p : Nat) : Nat := 2 * 2 ^ d.rd D.SapCfg.SLOTS p
/-- The active slots of a mask, in ascending order. -/
def Dev.sapActive (d : Dev) (p : Nat) (mask : Fld) : List Nat := (List.range (min 32 (d.sapSlots p))).filter (fun s => bit (d.rd mask p) s)
/-- Matrix channels a port uses for n active slots (R361). -/
def Dev.sapChannels (d : Dev) (p n : Nat) : Nat := if d.on D.SapCfg.RATE_96K p then 2 * n else n

/-- Channels a bundle covers: S of R354. -/
def Dev.bundleSpan (d : Dev) (b : Nat) : Nat := d.rd D.BundleCfg.CHANNELS b * (1 + d.rd D.BundleCfg.RATE_96K b)

/-- The enabled AUDIO_IN contexts. -/
def Dev.audioIns (d : Dev) : List Nat := d.enabled.filter (fun c => d.kind c == 0x4B)

/-- The source channels of a lane's de-embedder (R352). -/
def Dev.laneChannels (d : Dev) (n : Nat) : List Nat :=
  if d.on D.DeembedCfg.ENABLE n then
    ((List.range 32).filter (fun c => bit (d.rd D.DeembedCfg.GROUPS n) (c / 4))).map (fun c => 32 * n + c) else []

/-- The source channels that an enabled origin feeds, with their origin, in ascending order of origins. -/
def Dev.fed (d : Dev) : List (Nat × Origin) :=
  ((d.listed D.AudLane.DEEMBED_CFG 128).map (fun n => (d.laneChannels n).map (fun c => (c, Origin.lane n)))).flatten
    ++ (((d.listed D.Sap.SAP_CFG 8).filter (fun p => d.on D.SapCfg.ENABLE p)).map (fun p =>
        (List.range (d.sapChannels p (d.sapActive p D.SapCfg.RX_MASK).length)).map (fun j => (4096 + 32 * p + j, Origin.port p)))).flatten
    ++ ((d.listed D.Tone.TONE_CFG 64).filter (fun t => d.on D.ToneCfg.ENABLE t)).map (fun t => (4352 + t, Origin.tone t))
    ++ (d.audioIns.map (fun c => (List.range (d.bundleSpan (d.bindIx c))).map
        (fun i => (d.rd D.BundleCfg.BASE (d.bindIx c) + i, Origin.bundle (d.bindIx c))))).flatten

/-! ## Writing a source channel (R349) -/

/-- Where a write falls: 0 in the window, 1 below it (late), 2 above it (early). -/
def Dev.placed (d : Dev) (p : Int) : Nat := if p < d.audio.pos then 1 else if (d.audio.pos : Int) + 63 < p then 2 else 0

/-- A sample enters the store at a position within the window. -/
def Dev.putSample (d : Dev) (ch p w : Nat) : Dev :=
  d.setSrc ch (fun x => { x with words := (p, w) :: x.words.filter (fun e => e.1 != p) })

/-- A word of an ST 2110-31 sample: V, U, C and the block start are bits 0, 1, 2 and 5 of its first byte (PRESUMED: the AM824
layout that ST 2110-31 takes); DATA is bit 1 of channel-status byte 0, the second C bit of a block. -/
def Dev.am824 (d : Dev) (ch v : Nat) : Dev × Nat :=
  let f := v / 2 ^ 24
  let x := d.srcCh ch
  let cs := if bit f 5 then 0 else (x.cs + 1) % 192
  let data := if cs = 1 then bit f 2 else x.data
  let d := d.setSrc ch (fun x => { x with cs := cs, data := data })
  (d, v % 2 ^ 24 * 256 + ofBool (bit f 0) * 128 + ofBool (bit f 1) * 64 + ofBool (bit f 2) * 32 + ofBool (bit f 5) * 16 + ofBool data * 8)

/-- R355: the position and slot of a sample set with an RTP timestamp. -/
def Dev.placeSet (d : Dev) (b r : Nat) : Int × Nat :=
  let k := d.audio.pos
  let off := d.rdI D.BundleCfg.ALIGN_OFFSET b
  let m := 1 + d.rd D.BundleCfg.RATE_96K b
  let x := d.bundleSt b
  let arrival := d.on D.BundleCfg.ALIGN b
  let base : Int := if arrival then x.q0 else k
  let rr : Int := if arrival then (r : Int) - x.r0 else (r : Int) + off * m - (m : Int) * k
  let e := toInt 32 (ofInt 32 rr)
  if m = 1 then (base + e, 0) else (base + e.fdiv 2, (e % 2).toNat)

/-- One sample set of an AUDIO_IN cell is written by R349; a set outside the window is counted once. -/
def Dev.putSet (d : Dev) (b r : Nat) (set : Bytes) : Dev :=
  let at_ := d.placeSet b r
  let m := 1 + d.rd D.BundleCfg.RATE_96K b
  let w := if d.on D.BundleCfg.AES3 b then 4 else 3
  match d.placed at_.1 with
  | 1 => d.sat D.BundleStatus.LATE_SAMPLES b 1
  | 2 => d.sat D.BundleStatus.EARLY_SAMPLES b 1
  | _ =>
    d.each (List.range (d.rd D.BundleCfg.CHANNELS b)) (fun d c =>
      let ch := d.rd D.BundleCfg.BASE b + m * c + at_.2
      let v := ofBytes ((List.range w).map (fun i => set.at_ (w * c + i)))
      let r := if w = 4 then d.am824 ch v else (d, v * 256)
      r.1.putSample ch at_.1.toNat r.2)

/-- R355: a released cell of an AUDIO_IN context is written; `first` says whether it is the first of a run or a new source. -/
def Dev.audioTakes (d : Dev) (c : Nat) (cell : Cell) (first : Bool) : Dev :=
  if d.kind c ≠ 0x4B then d
  else
    let b := d.bindIx c
    let n := max 1 (d.setBytes c)
    let all : Bytes := ⟨cell.len, cell.payload / 256 ^ (256 - cell.len)⟩
    let d := if first then d.setBundle b (fun x =>
        { x with q0 := (d.audio.pos : Int) + d.rdI D.BundleCfg.ALIGN_OFFSET b, r0 := cell.pos }) else d
    d.each (List.range (cell.len / n)) (fun d j => d.putSet b ((cell.pos + j) % 2 ^ 32) ((all.drop (n * j)).take n))

/-! ## Destination records -/

/-- The destination records with an entry stored, or something in progress. -/
def Dev.destRecs (d : Dev) : List Nat :=
  (List.range 2048).filter (fun r => d.dict.any (fun e => e.1.ix == 0x7000 + r) || d.audio.dest.any (fun e => e.1 == r))

/-- Eight 16-bit items of a value, the first in the most significant bits (R5). -/
def items8 (v : Nat) : List Nat := (List.range 8).map (fun i => bitsOf v (112 - 16 * i) 16)

/-- Silence on all eight channels. -/
def noSources : List Nat := List.replicate 8 0xFFFF

/-- The leader context of a record. -/
def Dev.leader (d : Dev) (r : Nat) : Nat := 4096 + d.rd D.Follow.LEADER r

/-- R347: the base channel of a source: the first valid AFV_MAP element, else that of the lane of a local SDI_IN flow. -/
def Dev.afvBase (d : Dev) (efn : Nat) : Option Nat :=
  match (List.range 1024).find? (fun e => d.on D.AfvMap.VALID e && d.rd D.AfvMap.EFN e == efn) with
  | some e => some (d.rd D.AfvMap.BASE e)
  | none => match d.originOf efn with
    | some c => if d.kind c = 1 then some (32 * d.bindIx c) else none
    | none => none

/-- R347: the eight channels a base gives a record; a number above 16,383 reads silence. -/
def Dev.followed (d : Dev) (r base : Nat) : List Nat :=
  (List.range 8).map (fun i =>
    let ch := base + d.rd D.Follow.OFFSET r + i
    if 16383 < ch then 0xFFFF else ch)

/-- R347: the sources a following record has while its leader takes `efn` (none: no source). -/
def Dev.followOf (d : Dev) (r : Nat) (efn : Option Nat) : List Nat :=
  match efn with
  | none => noSources
  | some e => match d.afvBase e with
    | some b => d.followed r b
    | none => noSources

/-- The flags of a following record, and what a missing base raises. -/
def Dev.noteFollow (d : Dev) (r : Nat) (efn : Option Nat) : Dev :=
  let miss := match efn with | some e => (d.afvBase e).isNone | none => false
  let d := (d.flag D.DestStatus.FOLLOWING r true).flag D.DestStatus.FOLLOW_UNMAPPED r miss
  if miss then (d.sat D.Aud.AFV_MISSES 0 1).raise Src.AUD_FOLLOW_UNMAPPED r else d

/-- The sources the committed configuration gives a record now. -/
def Dev.wantedSources (d : Dev) (r : Nat) : List Nat :=
  if d.on D.Follow.ENABLE r then d.followOf r (d.source (d.leader r)) else items8 (d.rd D.Dest.SOURCES r)

/-- The sources a record is on its way to. -/
def DestSt.target (x : DestSt) : List Nat × Nat :=
  match x.due.getLast? with
  | some f => (f.sources, f.delay)
  | none => match x.waiting with
    | some f => (f.sources, f.delay)
    | none => match x.fade with
      | some f => (f.sources, f.delay)
      | none => (x.sources, x.delay)

/-- A fade is asked for from a position on (R346, R96). -/
def Dev.askFade (d : Dev) (r : Nat) (f : Fade) : Dev := d.setDest r (fun x => { x with due := x.due ++ [f] })

/-- R346: a commit changed what a record shows: a fade from the first position at least 20 µs later. -/
def Dev.commitFade (d : Dev) (r : Nat) : Dev :=
  let want := (d.wantedSources r, d.rd D.Dest.DELAY_SAMPLES r)
  let following := d.on D.Follow.ENABLE r
  let d := if following then d.noteFollow r (d.source (d.leader r))
    else (d.flag D.DestStatus.FOLLOWING r false).flag D.DestStatus.FOLLOW_UNMAPPED r false
  if (d.destSt r).target = want then d
  else d.askFade r ⟨want.1, want.2, posFrom (d.now + 20000), d.rd D.Xp.XFADE_SAMPLES 0⟩

/-- R96: the fade of a follower towards a source: centred on the position nearest the application instant, not begun before 20 µs
after the accept time, and over N/2 positions after the centre. -/
def Dev.followFade (d : Dev) (sources : List Nat) (delay accept apply : Nat) : Fade :=
  let n := d.rd D.Xp.XFADE_SAMPLES 0
  let mid := posNear apply
  let start := max (mid - n / 2) (posFrom (accept + 20000))
  ⟨sources, delay, start, mid + (n - n / 2) - start⟩

/-- The records that follow an output. -/
def Dev.audioFollowers (d : Dev) (c : Nat) : List Nat := d.destRecs.filter (fun r => d.on D.Follow.ENABLE r && d.leader r == c)

/-- R96, R347: a take applied to an output at an instant: its followers fade to the new source, unless their fade has begun. -/
def Dev.audioApply (d : Dev) (c : Nat) (efn : Option Nat) (accept : Nat) : Dev :=
  d.each (d.audioFollowers c) (fun d r =>
    let want := d.followOf r efn
    let d := d.noteFollow r efn
    let x := d.destSt r
    if x.target.1 = want then d
    else d.askFade r (d.followFade want x.target.2 accept d.now))

/-! ## Delay lines (R345) -/

/-- Words of the SRAM pool that the lines of other records hold. -/
def Dev.delayUsed (d : Dev) (not : List Nat) : Nat :=
  sumOf (fun r => if not.contains r ∨ d.on D.DestStatus.DELAY_SPILL r then 0 else 8 * d.rd D.Dest.DELAY_SAMPLES r) (d.listed D.Dest.DELAY_SAMPLES 2048)

/-- Words of the SRAM delay pool. -/
def delayPool : Nat := 524288

/-- The lines of records whose delay a commit sets are placed, in record order: in SRAM where they fit, else in protected blocks. A
line that changes its place starts empty. -/
def Dev.placeLines (d : Dev) : List Nat → Dev
  | [] => d
  | r :: t =>
    let spill := decide (delayPool < d.delayUsed (r :: t) + 8 * d.rd D.Dest.DELAY_SAMPLES r)
    let d := if spill != d.on D.DestStatus.DELAY_SPILL r then
        (d.flag D.DestStatus.DELAY_SPILL r spill).setDest r (fun x => { x with line := [] }) else d
    (d.flag D.DestStatus.DELAY_LOST r false).placeLines t

/-- Words of a spilled line are lost (R345, Table 09.7): those whose place in the line, word 8p + i of position p modulo its
length, lies in a range of bytes (the line is a ring, log 63). -/
def Dev.delayLost (d : Dev) (r off n : Nat) : Dev :=
  let m := max 1 (8 * d.rd D.Dest.DELAY_SAMPLES r)
  let d := d.setDest r (fun x => { x with line := x.line.map (fun (e : Nat × List Nat) =>
    (e.1, (List.range 8).map (fun i =>
      let b := (8 * e.1 + i) % m * 4
      if off < b + 4 ∧ b < off + n then 0 else e.2.getD i 0))) })
  (d.flag D.DestStatus.DELAY_LOST r true).raise Src.AUD_DELAY_LOST r

end Sys2Proof.Machine
end

