-- ==== Sys2Proof/Machine/LaneCore.lean ====
section
/-! DEFINITION. What a dowel lane sends and when: cells, management frames, ordered sets and training blocks on their way out, the order
of R204 at each point between items, the rotation (R197 to R205, R210 to R214). -/

namespace Sys2Proof.Machine

open Sys2Proof

/-! ## Accessors -/

/-- What a dowel lane (element 9g + l) holds beside its elements. -/
def Dev.dl (d : Dev) (e : Nat) : DwlLaneSt := nget d.dwl.lane {} e

/-- Change it. -/
def Dev.setDl (d : Dev) (e : Nat) (f : DwlLaneSt → DwlLaneSt) : Dev :=
  { d with dwl := { d.dwl with lane := nput d.dwl.lane {} e (f (d.dl e)) } }

/-- What a group holds beside its elements. -/
def Dev.dg (d : Dev) (g : Nat) : DwlGroupSt := nget d.dwl.group {} g

/-- Change it. -/
def Dev.setDg (d : Dev) (g : Nat) (f : DwlGroupSt → DwlGroupSt) : Dev :=
  { d with dwl := { d.dwl with group := nput d.dwl.group {} g (f (d.dg g)) } }

/-- Change the ensemble state. -/
def Dev.setDwl (d : Dev) (f : DwlSt → DwlSt) : Dev := { d with dwl := f d.dwl }

/-- Is a group UP? -/
def Dev.groupUp (d : Dev) (g : Nat) : Bool := d.rd D.GroupStatus.STATE g == 3

/-! ## Names -/

namespace GroupState
def DISABLED : Nat := 0
def UNUSED : Nat := 1
def TRAINING : Nat := 2
def UP : Nat := 3
def MISWIRED : Nat := 4
end GroupState

/-! LANE_STATE (Table 07.18). -/
namespace LaneState
def OFF : Nat := 0
def TRAINING : Nat := 1
def IN_ROTATION : Nat := 2
def FAILED : Nat := 3
def SPARE_PRBS : Nat := 4
end LaneState

/-! USE (Table 08.8). -/
namespace LaneUse
def OFF : Nat := 0
def IN_SERVICE : Nat := 1
def TEST : Nat := 2
def SPARE_READY : Nat := 3
def FAILED : Nat := 4
def DEGRADED : Nat := 5
def TRAINING : Nat := 6
end LaneUse

/-- The lane element of Table 08.1 of dowel lane 9g + l. -/
def phyOf (e : Nat) : Nat := 164 + e

/-- The nine lanes of a group, as 9g + l. -/
def lanesOf (g : Nat) : List Nat := (List.range 9).map (fun l => 9 * g + l)

/-- LANE_STATE of a lane. -/
def Dev.laneState (d : Dev) (e : Nat) : Nat := d.rd D.DwlLane.LANE_STATE e

/-- LANE_STATE and USE of a lane. -/
def Dev.laneTo (d : Dev) (e st use : Nat) : Dev := (d.wr D.DwlLane.LANE_STATE e st).wr D.LaneStatus.USE (phyOf e) use

/-- A scan of a lane's eye ends without a result (R238). -/
def Dev.scanAbort (d : Dev) (lane : Nat) : Dev :=
  if d.phy.scans.any (fun x => x.1 == lane) then
    { d with phy := { d.phy with scans := d.phy.scans.filter (fun x => x.1 != lane) } }.wr D.Margin.SCAN_STATE lane 3
  else d

/-! ## Items (R199 to R202) -/

/-- The 282 data characters of a cell before its LCOUNT: header bytes 20 and 21 are not sent (Table 07.2). -/
def cellBody (c : Cell) : Nat :=
  (c.hdr % 2 ^ 192 / 2 ^ 32 * 2 ^ 16 + c.hdr % 2 ^ 16) * 2 ^ 2080 + c.payload % 2 ^ 2048 * 2 ^ 32 + c.crc % 2 ^ 32

/-- The 282 data characters of a management frame before its LCOUNT (Table 07.4). -/
def frameBody (cls id seg : Nat) (last : Bool) (p : Bytes) : Nat :=
  let head := 0xF0 * 2 ^ 56 + cls % 256 * 2 ^ 48 + id % 65536 * 2 ^ 32 + (ofBool last * 32768 + seg % 32768) * 2 ^ 16 + p.len % 65536
  let v := head * 256 ^ 270 + p.val % 256 ^ p.len * 256 ^ (270 - p.len)
  v * 2 ^ 32 + crc32c (bytesOf 278 v)

/-- The characters of a waiting item before its LCOUNT. -/
def ItemDue.body : ItemDue → Nat
  | .cell _ c => cellBody c
  | .frame b => b

/-! ## Ordered sets (Tables 07.1, 07.5, 07.6, 07.9) -/

/-- Special symbols of Table 07.1 that open an ordered set. -/
def Sym.SKIP : Nat := 0
def Sym.ABORT : Nat := 307
def Sym.SALVO : Nat := 282
def Sym.BEACON : Nat := 283
def Sym.TRAIN : Nat := 284
def Sym.MARKER : Nat := 286
def Sym.REPLAY : Nat := 237

namespace LaneMark
def lane (v : Nat) : Nat := bitsOf v 44 4
def rank (v : Nat) : Nat := bitsOf v 40 4
def next (v : Nat) : Nat := bitsOf v 24 16
def active (v : Nat) : Nat := bitsOf v 20 4
def group (v : Nat) : Nat := bitsOf v 17 3
/-- R198: the CRC is right and the reserved bit 0. -/
def ok (v : Nat) : Bool := bitsOf v 0 16 == crc16 (bytesOf 4 (v / 65536)) && bitsOf v 16 1 == 0
/-- A marker as the device builds it. -/
def build (lane rank next active group : Nat) : Nat :=
  let v := lane * 2 ^ 28 + rank % 16 * 2 ^ 24 + next % 65536 * 2 ^ 8 + active % 16 * 2 ^ 4 + group * 2
  v * 65536 + crc16 (bytesOf 4 v)
end LaneMark

namespace ReplayReq
def lane (v : Nat) : Nat := bitsOf v 44 4
def count (v : Nat) : Nat := bitsOf v 24 16
/-- R198: the CRC is right and the reserved fields 0. -/
def ok (v : Nat) : Bool := bitsOf v 0 16 == crc16 (bytesOf 4 (v / 65536)) && bitsOf v 40 4 == 0 && bitsOf v 16 8 == 0
/-- A request as the device builds it. -/
def build (lane count : Nat) : Nat :=
  let v := lane * 2 ^ 28 + count % 65536 * 2 ^ 8
  v * 65536 + crc16 (bytesOf 4 v)
end ReplayReq

/-! ## The order on a lane (R202 to R205)

A lane in service sends 11.2 × 10⁹ characters/s. The lanes' clock counts 448 units in a nanosecond, 40 in a character. -/

/-- The lanes' clock now. -/
def Dev.laneClock (d : Dev) : Nat := d.wall * 448

/-- Units of the lanes' clock in a number of characters. -/
def charsFor (n : Nat) : Nat := n * 40

/-- The place of R204 (1 first). -/
def LaneDue.rank : LaneDue → Nat
  | .replay _ _ => 1
  | .request _ => 2
  | .salvo _ => 3
  | .beacon _ => 4
  | .skip => 5
  | .marker _ => 6
  | .mark => 6

/-- How many characters it takes (Tables 07.1, 07.2). -/
def LaneDue.chars : LaneDue → Nat
  | .replay _ _ => 286
  | .request _ => 7
  | .salvo _ => 17
  | .beacon _ => 25
  | .skip => 2
  | .marker _ => 7
  | .mark => 7

/-- The place of R204 of an item: a relayed cell, an originated cell, a management frame. -/
def ItemDue.rank : ItemDue → Nat
  | .cell r _ => if r then 7 else 8
  | .frame _ => 9

/-- From when a skip set is due: an item that begins just before it leaves the set within 2,048 characters of the last (R203). -/
def DwlLaneSt.skipDue (x : DwlLaneSt) : Nat := x.skipped + charsFor (2048 - 286 - 2)

/-- From when a lane marker is due: an item and a skip set before it leave it within 16,384 characters of the last (R202). -/
def DwlLaneSt.markDue (x : DwlLaneSt) : Nat := x.marked + charsFor (16384 - 286 - 2 - 7)

/-- What a lane sends first of what is due at a point, items apart (R204); of two of one place, the one that has waited longer. -/
def DwlLaneSt.first (x : DwlLaneSt) (p : Nat) : Option LaneDue :=
  (x.due ++ (if x.skipDue ≤ p then [LaneDue.skip] else []) ++ (if x.markDue ≤ p then [LaneDue.mark] else [])).foldl
    (fun (b : Option LaneDue) y => match b with
      | none => some y
      | some z => if y.rank < z.rank then some y else some z) none

/-- The item a group sends first of those that may leave at a point (R204, R205). -/
def DwlGroupSt.ready (x : DwlGroupSt) (g p : Nat) : Option ItemDue :=
  (x.items.filter (fun i => i.rank != 9 || g != 7 || decide (x.mgmtAt ≤ p))).foldl
    (fun (b : Option ItemDue) y => match b with
      | none => some y
      | some z => if y.rank < z.rank then some y else some z) none

/-- Does a lane carry items, markers and beacons: has it completed S4, and is it in service or the spare, or still in the rotation? -/
def Dev.laneOpen (d : Dev) (e : Nat) : Bool :=
  d.laneState e == LaneState.IN_ROTATION || d.laneState e == LaneState.SPARE_PRBS || (d.dg (e / 9)).lanes.contains (e % 9)

/-- Device time at a point of the lanes' clock that is not ahead of the present. -/
def Dev.timeAtPoint (d : Dev) (p : Nat) : Nat := ({ d with raw := (d.raw + 2 ^ 64 - (d.wall - p / 448)) % 2 ^ 64 }).now

/-- The lane marker of a lane's present state (Table 07.5). -/
def Dev.markNow (d : Dev) (e : Nat) : Nat :=
  LaneMark.build (e % 9) (d.rd D.DwlLane.RANK e) (d.rd D.DwlLane.LCOUNT_TX e) (d.rd D.GroupStatus.ACTIVE_LANES (e / 9)) (e / 9)

/-- A replay or an ordered set leaves at a point. A beacon takes its TX_TIME there (R226). -/
def Dev.sendSet (d : Dev) (g l p : Nat) (s : LaneDue) : Dev :=
  let e := 9 * g + l
  let stop := p + charsFor s.chars
  let d := d.setDl e (fun x => { x with due := x.due.erase s, free := stop })
  match s with
  | .replay c v => (d.emit (.item g l c v)).setDl e (fun x => { x with serving := x.serving.map (fun y => (y.1, ceilDiv stop 448)) })
  | .request b => d.emit (.orderedSet g l Sym.REPLAY b)
  | .salvo b => d.emit (.marker g l b)
  | .beacon v =>
    let t := d.timeAtPoint p
    let v := v + t * 2 ^ 48
    (d.emit (.orderedSet g l Sym.BEACON (v * 65536 + crc16 (bytesOf 22 v)))).setDg g (fun x =>
      { x with beacons := ((v / 2 ^ 160, t) :: x.beacons).take 16 })
  | .skip => (d.emit (.orderedSet g l Sym.SKIP 0)).setDl e (fun x => { x with skipped := stop })
  | .marker b => (d.emit (.orderedSet g l Sym.MARKER b)).setDl e (fun x => { x with marked := stop })
  | .mark => (d.emit (.orderedSet g l Sym.MARKER (d.markNow e))).setDl e (fun x => { x with marked := stop })

/-- The next slot of the rotation; at a round's end a rotation that waits for that round takes its place. -/
def DwlGroupSt.advance (x : DwlGroupSt) : DwlGroupSt :=
  if x.txRank + 1 < x.lanes.length then { x with txRank := x.txRank + 1 }
  else
    let r := (x.txRound + 1) % 65536
    match x.next with
    | some (n, ls) => if n = r then { x with txRank := 0, txRound := r, lanes := ls, next := none } else { x with txRank := 0, txRound := r }
    | none => { x with txRank := 0, txRound := r }

/-- R205: the time on the lanes' clock that a management frame of group 7 takes at 8 Gbit/s of payload, 270 bytes a frame; while the state
copy takes 4 Gbit/s of it, twice that. -/
def Dev.frameTime (d : Dev) : Nat := if d.rd D.Twin.STATE 0 = 3 then 540 * 448 else 270 * 448

/-- ACTIVE_LANES, the ranks and the ledger's capacity follow the rotation (R216, R244). -/
def Dev.showRotation (d : Dev) (g : Nat) (ls : List Nat) : Dev :=
  let d := (d.wr D.GroupStatus.ACTIVE_LANES g ls.length).wr D.GroupStatus.CAPACITY_MBPS g (89600 * ls.length)
  d.each (List.range 9) (fun d l => d.wr D.DwlLane.RANK (9 * g + l)
    (if ls.contains l then (ls.takeWhile (fun x => x != l)).length else 15))

/-- R202: an item leaves at a point on the lane of the next rank, which keeps its last 64 items (R207). A lane that has been swapped out
starts at S0 once the rotation has left it (R245). -/
def Dev.sendItem (d : Dev) (g l p : Nat) (i : ItemDue) : Dev :=
  let e := 9 * g + l
  let x := d.dg g
  let chars := i.body * 65536 + x.txRound
  let d := match i with
    | .cell _ c => (d.emit (.dowelCell g c)).sat D.GroupCounters.CELLS_TX g 1
    | .frame _ => d.sat D.GroupCounters.MGMT_TX g 1
  let d := (d.emit (.item g l x.txRound chars)).setDl e (fun y =>
    { y with sent := ((x.txRound, chars) :: y.sent).take 64, free := p + charsFor 286 })
  let mgmt := match i with | .cell _ _ => x.mgmtAt | .frame _ => max p x.mgmtAt + d.frameTime
  let d := (d.wr D.DwlLane.LCOUNT_TX e (x.txRound + 1)).setDg g (fun y => { y with items := y.items.erase i, mgmtAt := mgmt }.advance)
  let now := (d.dg g).lanes
  let d := if now = x.lanes then d else d.showRotation g now
  d.each (x.lanes.filter (fun k => !now.contains k && d.laneState (9 * g + k) == LaneState.TRAINING)) (fun d k =>
    d.setDl (9 * g + k) (fun y => { y with since := d.wall, blocks := 0, due := [] }))

/-- The point at which a lane next sends something, if nothing more becomes due. -/
def Dev.laneAt (d : Dev) (g l : Nat) : Nat :=
  let x := d.dl (9 * g + l)
  let y := d.dg g
  if x.due ≠ [] then x.free
  else
    let t := max x.free (min x.skipDue x.markDue)
    if y.lanes[y.txRank]? = some l ∧ y.items ≠ [] then
      min t (max x.free (if g = 7 ∧ y.items.all (fun i => i.rank == 9) then y.mgmtAt else 0))
    else t

/-- A lane sends the first thing that is due at a point (R204). -/
def Dev.laneTurn (d : Dev) (g l p : Nat) : Dev :=
  match (d.dl (9 * g + l)).first p with
  | some s => d.sendSet g l p s
  | none =>
    match (d.dg g).ready g p with
    | some i => d.sendItem g l p i
    | none => d

/-- The lanes of a group that carry items, with the point at which each next sends. -/
def Dev.turns (d : Dev) (g : Nat) : List (Nat × Nat) :=
  ((List.range 9).filter (fun l => d.laneOpen (9 * g + l))).map (fun l => (l, d.laneAt g l))

/-- What waits on a group leaves up to the present, earliest point first. -/
def Dev.groupTurns (d : Dev) (g : Nat) : Nat → Dev
  | 0 => d
  | k + 1 =>
    if (d.dg g).items.isEmpty && (lanesOf g).all (fun e => (d.dl e).due.isEmpty || !d.laneOpen e) then d
    else
      match (d.turns g).foldl (fun (b : Option (Nat × Nat)) t => match b with
          | none => some t
          | some u => if t.2 < u.2 then some t else some u) none with
      | some (l, p) => if p ≤ d.laneClock then (d.laneTurn g l p).groupTurns g k else d
      | none => d

/-- How many sets of a period fall into the time up to a point, the first at `t`. -/
def setsUpTo (t period p : Nat) : Nat := if p < t then 0 else (p - t) / period + 1

/-- A lane that has had nothing else to send has sent idle, with its skip sets and lane markers (R202, R203). -/
def Dev.laneIdle (d : Dev) (e : Nat) : Dev :=
  let x := d.dl e
  let p := d.laneClock
  if !d.laneOpen e ∨ p < x.free then d
  else
    let n := setsUpTo x.skipDue (charsFor (2048 - 286)) p
    let m := setsUpTo x.markDue (charsFor (16384 - 286 - 2)) p
    let d := if n + m = 0 then d else d.emit (.idleChars (e / 9) (e % 9) n m (d.markNow e))
    d.setDl e (fun x => { x with free := p, skipped := x.skipped + n * charsFor (2048 - 286), marked := x.marked + m * charsFor (16384 - 286 - 2) })

/-- A group's lanes send up to the present. -/
def Dev.groupRun (d : Dev) (g : Nat) : Dev :=
  let n := (d.dg g).items.length + sumOf (fun e => (d.dl e).due.length) (lanesOf g)
  (d.groupTurns g (64 * n + 1)).each (lanesOf g) Dev.laneIdle

/-- A set becomes due on a lane. -/
def Dev.queueSet (d : Dev) (e : Nat) (s : LaneDue) : Dev := d.setDl e (fun x => { x with due := x.due ++ [s] })

/-- Sets become due on a lane now. -/
def Dev.sendSets (d : Dev) (e : Nat) (l : List LaneDue) : Dev :=
  ((d.groupRun (e / 9)).setDl e (fun x => { x with due := x.due ++ l })).groupRun (e / 9)

/-- Items become due on a group now. -/
def Dev.sendItems (d : Dev) (g : Nat) (l : List ItemDue) : Dev :=
  ((d.groupRun g).setDg g (fun x => { x with items := x.items ++ l })).groupRun g

/-- A lane marker becomes due on a lane. -/
def Dev.sendMarker (d : Dev) (g lane rank next active : Nat) : Dev :=
  d.sendSets (9 * g + lane) [.marker (LaneMark.build lane rank next active g)]

/-- A replay request becomes due on a lane, three times (R206). -/
def Dev.sendRequest (d : Dev) (e lane count : Nat) : Dev :=
  let r := LaneDue.request (ReplayReq.build lane count)
  d.sendSets e [r, r, r]

/-! ## Bring-up (R210 to R214) -/

/-- Line rate of a step in Mbit/s, dwell in ns, errors allowed (Table 07.8). -/
def stepRow (k : Nat) : Nat × Nat × Nat :=
  match k with
  | 0 => (1250, 100000, 0)
  | 1 => (10000, 200000, 0)
  | 2 => (28000, 500000, 0)
  | 3 => (56000, 2000000, 1)
  | _ => (112000, 10000000, 1)

/-- Lock limit of a step in ns (Table 07.8). -/
def lockLimit (k : Nat) : Nat :=
  match k with
  | 0 => 1000000
  | 1 => 1000000
  | 2 => 2000000
  | 3 => 5000000
  | _ => 10000000

/-- FRAME_DIGEST: the first 4 bytes of the SHAKE256 digest of the frame identifier in use. -/
def Dev.frameDigest (d : Dev) : Nat := Config.shake256 ⟨32, d.rd D.Ident.FRAME_ID_IN_USE 0⟩ % 2 ^ 256 / 2 ^ 224

/-! KIND of a training block (Table 07.9). -/
namespace Block
def PRESENT : Nat := 0
def OFFER : Nat := 1
def ACCEPT : Nat := 2
def HOLD : Nat := 3
def REFUSE : Nat := 4
end Block

/-- What a lane's training blocks say (R212, R214, R215): HOLD once its dwell has ended in host-assisted stepping, until a STEP; PRESENT
while the peer holds; else the offer of the next step, and the acceptance once it has sent and received an offer. -/
def Dev.blockKind (d : Dev) (e : Nat) : Nat :=
  let x := d.dl e
  if x.refuse then Block.REFUSE
  else if !x.dwelt ∨ 4 ≤ x.step then Block.PRESENT
  else if d.rd D.Phy.MODE 0 = 1 ∧ !x.allow ∧ !x.offerTx then Block.HOLD
  else if d.on D.DwlLane.PEER_HOLD e then Block.PRESENT
  else if x.offerTx && x.offerRx then Block.ACCEPT
  else if x.step + 1 ≤ d.rd D.GroupCfg.MAX_STEP (e / 9) ∧ x.step + 1 ≤ x.peerMax then Block.OFFER
  else Block.PRESENT

/-- The training block a lane sends (Table 07.9). -/
def Dev.trainBlock (d : Dev) (e : Nat) : Nat :=
  let g := e / 9
  let x := d.dl e
  let kind := d.blockKind e
  let step := if kind = Block.OFFER ∨ kind = Block.ACCEPT then x.step + 1 else x.step
  let v := kind * 2 ^ 108 + step * 2 ^ 105 + d.me * 2 ^ 102 + d.rd D.Straps.PLANE_B 0 * 2 ^ 101 + g * 2 ^ 98 + e % 9 * 2 ^ 94
    + d.ensSize * 2 ^ 90 + d.rd D.GroupCfg.MAX_STEP g * 2 ^ 86 + d.frameDigest * 2 ^ 48 + min x.dwellErrs 65535 * 2 ^ 32
  v * 65536 + crc16 (bytesOf 14 v)

/-- The lane begins bring-up at S0 (R210). -/
def Dev.laneStart (d : Dev) (e : Nat) : Dev :=
  let d := (d.laneTo e LaneState.TRAINING LaneUse.TRAINING).setDl e (fun x =>
    { fails := x.fails, spare := x.spare, commanded := x.commanded, unfit := x.unfit, dwellErrs := x.dwellErrs, since := d.wall })
  let d := ((d.wr D.DwlLane.RANK e 15).wr D.DwlLane.STEP e 0).flag D.DwlLane.PEER_HOLD e false
  let d := (d.flag D.LaneStatus.CDR_LOCKED (phyOf e) false).scanAbort (phyOf e)
  (d.wr D.DwlLane.LCOUNT_TX e 0).wr D.DwlLane.LCOUNT_RX e 0

/-- R212: the training blocks up to the present, one every 1,024 characters, what they say changing as they are sent; 16 blocks after
ACCEPT has been sent and received, the lane stands at the next step. -/
def Dev.sendBlocks (d : Dev) (e : Nat) : Nat → Dev
  | 0 => d
  | k + 1 =>
    let x := d.dl e
    let rate := (stepRow x.step).1
    let n := (d.wall - x.since) * rate / (250 * charsFor 1024) - x.blocks
    if n = 0 then d
    else
      let kind := d.blockKind e
      let agreed := kind == Block.ACCEPT && x.acceptTx && x.acceptRx
      let m := if agreed then min n (16 - x.more)
        else if (kind = Block.OFFER ∧ x.offerRx) ∨ (kind = Block.ACCEPT ∧ x.acceptRx) then 1 else n
      let d := d.emit (.training (e / 9) (e % 9) m (d.trainBlock e))
      let more := if agreed then x.more + m else x.more
      if more < 16 then
        (d.setDl e (fun x => { x with blocks := x.blocks + m, more := more, offerTx := x.offerTx || kind == Block.OFFER,
                                      acceptTx := x.acceptTx || kind == Block.ACCEPT })).sendBlocks e k
      else
        let d := d.wr D.DwlLane.ATTEMPTS e (countIf (fun f => f == x.step + 1) x.fails)
        (d.setDl e (fun y =>
          { fails := y.fails, spare := y.spare, commanded := y.commanded, unfit := y.unfit, peerMax := y.peerMax, dwellErrs := y.dwellErrs,
            step := x.step + 1, since := x.since + ceilDiv ((x.blocks + m) * charsFor 1024 * 250) rate })).sendBlocks e k

/-- A lane in bring-up, or a spare, sends its training blocks (R210, R239); a lane that has failed starts again from S0 after 1 ms
(R245, Table 08.4). -/
def Dev.laneBlocks (d : Dev) (e : Nat) : Dev :=
  let st := d.laneState e
  if st = LaneState.FAILED ∧ !(d.dl e).dead ∧ d.past (d.dl e).since 1000000 then d.laneStart e
  else if (st = LaneState.TRAINING ∧ !(d.dg (e / 9)).lanes.contains (e % 9)) ∨ st = LaneState.SPARE_PRBS then d.sendBlocks e 6
  else d

/-- Every dowel lane sends up to the present. -/
def Dev.lanesOut (d : Dev) : Dev := (d.each (List.range 8) Dev.groupRun).each (List.range 72) Dev.laneBlocks

/-- Time passes, and every dowel lane sends what falls into it. -/
def Dev.lanesAt (d : Dev) (dt : Nat) : Dev := (d.elapse dt).lanesOut

/-- Time passes, then the dowel lanes act: they run from the RESOURCES stage on (Tables 18.4, 18.5). -/
def Dev.lanesRun (d : Dev) (dt : Nat) (f : Dev → Dev) : Dev :=
  if 5 ≤ (d.elapse dt).stage ∧ !(d.elapse dt).inReset then f (d.lanesAt dt) else d.elapse dt

end Sys2Proof.Machine
end

