-- ==== Sys2Proof/Machine/Dwl.lean ====
section
/-! DEFINITION. Dowel groups as senders: the group table of an ensemble, messages, which group a flow crosses, the ledger of a group (R201,
R221, R222, R563). -/

namespace Sys2Proof.Machine

open Sys2Proof

/-! ## The group table (R221, Table 07.10) -/

/-- Offset of groups 0 to 6 by ensemble size; 0 where a group is UNUSED. -/
def groupOffsets (n : Nat) : List Nat :=
  match n with
  | 2 => [1, 1, 1, 1, 1, 1, 1]
  | 3 => [1, 2, 1, 2, 1, 2, 0]
  | 4 => [1, 2, 3, 1, 2, 3, 2]
  | 5 => [1, 2, 3, 4, 1, 4, 0]
  | 6 => [1, 2, 3, 4, 5, 3, 3]
  | 7 => [1, 2, 3, 4, 5, 6, 0]
  | 8 => [1, 2, 3, 4, 5, 6, 7]
  | _ => [0, 0, 0, 0, 0, 0, 0]

/-- The groups of an offset, in ascending order. -/
def groupsOf (n k : Nat) : List Nat := (List.range 7).filter (fun g => (groupOffsets n).getD g 0 == k)

/-- The peer member and the peer's group of mesh group g of member m: the j-th group of offset k meets the j-th of offset N − k. -/
def meshPeer (n m g : Nat) : Option (Nat × Nat) :=
  let k := (groupOffsets n).getD g 0
  if k = 0 then none
  else
    let j := ((groupsOf n k).takeWhile (fun x => x != g)).length
    match (groupsOf n (n - k))[j]? with
    | some h => some ((m + k) % n, h)
    | none => none

/-- R222: the SDI reservation of a mesh group, Mbit/s (Table 07.12). -/
def sdiShare (n g : Nat) : Nat :=
  let k := (groupOffsets n).getD g 0
  if k = 0 then 0
  else match n with
  | 3 => 570240
  | 7 => 570240
  | 5 => if k = 2 ∨ k = 3 then 694980 else 507870
  | 6 => if k = 3 then 356400 else 588060
  | _ => 488777

/-! ## Messages (R201) -/

/-- The frames of a message, segment by segment. -/
def segments (cls id : Nat) (p : Bytes) : Nat → Nat → List ItemDue
  | _, 0 => []
  | seg, k + 1 => .frame (frameBody cls id seg (k == 0) ((p.drop (270 * seg)).take 270)) :: segments cls id p (seg + 1) k

/-- R201: a message leaves in management frames over a group that is UP. -/
def Dev.sendMsg (d : Dev) (g cls : Nat) (p : Bytes) : Dev :=
  let id := d.dwl.msg
  let d := (d.emit (.message g cls p)).setDwl (fun x => { x with msg := (id + 1) % 65536 })
  if d.groupUp g then d.sendItems g (segments cls id p 0 (max 1 (ceilDiv p.len 270))) else d

/-! ## Which group a flow crosses (R563), and the ledger of a group (R222) -/

/-- The reservation of a flow, and whether it is an SDI flow. -/
def Dev.flowRate (d : Dev) (efn : Nat) : Nat × Bool :=
  match d.ingressOf efn with
  | some c => (d.rd D.Flow.RESERVED_MBPS c, d.sdiFlow c)
  | none => (0, false)

/-- The reservations of the flows that cross a group. -/
def Dev.groupReserved (d : Dev) (g : Nat) : Nat :=
  sumOf (fun r => if r.2.2 = g then (d.flowRate r.1).1 else 0) d.dwl.route

/-- What the ledger counts on a group: the larger of the SDI reservation and the SDI flows, and every other flow. -/
def Dev.groupUse (d : Dev) (g : Nat) : Nat :=
  let of (b : Bool) := sumOf (fun r => if r.2.2 = g ∧ (d.flowRate r.1).2 = b then (d.flowRate r.1).1 else 0) d.dwl.route
  max (sdiShare d.ensSize g) (of true) + of false

/-- The mesh groups that are UP toward a member. -/
def Dev.groupsTo (d : Dev) (m : Nat) : List Nat :=
  (List.range 7).filter (fun g => d.groupUp g && d.rd D.GroupStatus.PEER_MEMBER g == m)

/-- The dowel group toward a member that messages take: the lowest that is UP. -/
def Dev.groupTo (d : Dev) (m : Nat) : Option Nat := (d.groupsTo m).head?

/-- R563: the group with the most capacity left, the lowest on a tie. -/
def Dev.bestGroup (d : Dev) (m : Nat) : Option Nat :=
  (d.groupsTo m).foldl (fun b g => match b with
    | none => some g
    | some h => if (d.rd D.GroupStatus.CAPACITY_MBPS h : Int) - d.groupUse h < (d.rd D.GroupStatus.CAPACITY_MBPS g : Int) - d.groupUse g
        then some g else some h) none

/-- The group a flow crosses toward a member: the one it has while that is UP, else one chosen now. -/
def Dev.routeOf (d : Dev) (efn m : Nat) : Option Nat :=
  match d.dwl.route.find? (fun r => r.1 == efn && r.2.1 == m) with
  | some r => if (d.groupsTo m).contains r.2.2 then some r.2.2 else d.bestGroup m
  | none => d.bestGroup m

/-- A flow crosses a group toward a member from now on. -/
def Dev.setRoute (d : Dev) (efn m g : Nat) : Dev :=
  d.setDwl (fun x => { x with route := x.route.filter (fun r => !(r.1 == efn && r.2.1 == m)) ++ [(efn, m, g)] })

/-- The members a PATH sends copies to: the VIA of each valid field, each once (Table 02.11). -/
def pathVias (path : Nat) : List Nat :=
  (List.range 8).filter (fun v => (List.range 8).any (fun m => bit path (4 * m + 3) && bitsOf path (4 * m) 3 == v))

/-- The paths of a flow that leave this device are set up anew: each crosses the best group, or none while none is UP (R563). -/
def Dev.reroute (d : Dev) (efn : Nat) (vias : List Nat) : Dev :=
  let d := d.setDwl (fun x => { x with route := x.route.filter (fun r => r.1 != efn || vias.contains r.2.1) })
  d.each vias (fun d m => match d.routeOf efn m with
    | some g => d.setRoute efn m g
    | none => d.setDwl (fun x => { x with route := x.route.filter (fun r => !(r.1 == efn && r.2.1 == m)) }))

/-- One copy of a cell over the group toward each member of a list (R14). -/
def Dev.sendOver (d : Dev) (ms : List Nat) (relayed : Bool) (c : Cell) : Dev :=
  d.each ms (fun d m => match d.routeOf c.efn m with
    | some g => (if d.dwl.route.contains (c.efn, m, g) then d else d.setRoute c.efn m g).sendItems g [.cell relayed c]
    | none => d)

end Sys2Proof.Machine
end

