-- ==== Sys2Proof/Machine/HeadPic.lean ====
section
/-! DEFINITION. The picture that a composition head composes: pixels, borders, level bars, and the cells that carry it (R320, R326,
R331, R332). -/

namespace Sys2Proof.Machine

open Sys2Proof

/-! ## Colours (R320) -/

/-- A pixel at 16-bit precision: R, G, B, or Cb, Y, Cr. -/
abbrev Px : Type := Nat × Nat × Nat

/-- The 10-bit narrow-range value of an 8-bit colour code: 64 + round(c × 876 / 255). -/
def code10 (c : Nat) : Nat := 64 + (c * 876 * 2 + 255) / 510

/-- The luma coefficients of red and blue of a COLOUR's matrix, in ten-thousandths (ITU-R BT.709, BT.2020, BT.2100; PRESUMED, log 111). -/
def matrixOf (f : Nat) : Nat × Nat := if colourOf f = 0 then (2126, 722) else (2627, 593)

/-- A colour difference (in ten-thousandths, 16-bit range) as narrow-range chroma: 2^15 + difference × 896 / (876 × 2 × (1 − k)). -/
def chroma16 (diff : Int) (k : Nat) : Nat :=
  let den : Int := 876 * 2 * (10000 - k)
  (32768 + Int.fdiv (2 * 896 * diff + den) (2 * den)).toNat

/-- The value of an ARGB word's colour in a head's FORMAT, 16 bits a component: RGB as it is, YCbCr by the matrix of the COLOUR. -/
def argb16 (f w : Nat) : Px :=
  let r := 64 * code10 (bitsOf w 16 8)
  let g := 64 * code10 (bitsOf w 8 8)
  let b := 64 * code10 (bitsOf w 0 8)
  if Fmt.sampling f = 2 then (r, g, b)
  else
    let m := matrixOf f
    let y := m.1 * r + (10000 - m.1 - m.2) * g + m.2 * b
    (chroma16 ((10000 * b : Nat) - (y : Int)) m.2, (y + 5000) / 10000, chroma16 ((10000 * r : Nat) - (y : Int)) m.1)

/-- One component blended at 16-bit precision: alpha is num / 65,025, and the result is rounded to the nearest value. -/
def blend16 (num upper below : Nat) : Nat := (num * upper + (65025 - num) * below + 32512) / 65025

/-- A pixel with a colour laid over it. -/
def overlay (num : Nat) (c p : Px) : Px := (blend16 num c.1 p.1, blend16 num c.2.1 p.2.1, blend16 num c.2.2 p.2.2)

/-- The palette colour i of a 64-byte palette. -/
def paletteAt (p i : Nat) : Nat := bitsOf p (32 * (15 - i % 16)) 32

/-! ## Border and bars (R331, R332) -/

/-- The width of a border. -/
def borderOf (tally : Nat) : Nat := if bit tally 15 then bitsOf tally 8 4 else 0

/-- Is a pixel (relative to the layer's rectangle) on its border? -/
def onBorder (g tally x y : Nat) : Bool :=
  let n := borderOf tally
  decide (x < n) || decide (y < n) || decide (Geo.w g ≤ x + n) || decide (Geo.h g ≤ y + n)

/-- The bar a pixel lies in: bars stand side by side against the left or right inner edge of the border. -/
def barAt (g tally bars x : Nat) : Option Nat :=
  let n := borderOf tally
  let px := bitsOf bars 22 4
  let count := bitsOf bars 27 5
  let off := if bit bars 26 then Geo.w g - n - 1 - x else x - n
  if count = 0 ∨ px = 0 ∨ x < n ∨ Geo.w g ≤ x + n ∨ count * px ≤ off then none else some (off / px)

/-- The level of a sample (24 bits, absolute) in hundredths of a decibel above −60 dBFS: the largest m to 6,000 for which
a / 2^23 is at least 10^((m − 6000) / 2000). -/
def levelOf (a : Nat) : Nat :=
  (List.range 13).foldl (fun m i =>
    let t := m + 2 ^ (12 - i)
    if t ≤ 6000 ∧ 2 ^ 46000 ≤ a ^ 2000 * 10 ^ (6000 - t) then t else m) 0

/-- The palette entry of row k (from the bottom) of a bar n rows high: colour 1 below −20 dBFS, 2 to −9 dBFS, 3 above, on a ground of colour 0; the
peak mark is two pixels of colour 3. -/
def barColour (n k : Nat) (level : Option (Nat × Nat)) : Nat :=
  match level with
  | none => 0
  | some (lv, peak) =>
    let top := ceilDiv (peak * n) 6000
    if 0 < peak ∧ k < top ∧ top ≤ k + 2 then 3
    else if lv * n ≤ 6000 * k then 0
    else if 6000 * k < 4000 * n then 1 else if 6000 * k < 5100 * n then 2 else 3

/-! ## Layers and the head's pixel -/

/-- The ARGB word of a veneer pixel: fully transparent where its burst is lost (Table 11.1, row 4). -/
def Dev.veneerPixel (d : Dev) (m : List Host.Cell) (v buf x y : Nat) : Nat :=
  match d.veneerAlloc v with
  | none => 0
  | some (_, a) =>
    let off := buf * d.veneerBlocks v * blockBytes + (y * d.rd D.VeneerCfg.WIDTH v + x) * 4
    let l := off / blockBytes
    let o := off % blockBytes
    if a.poison l (o / 64 * 64) 64 && a.poison l o 4 then 0
    else match a.addr l o with
      | some p => ofBytes (Memory.readBytes m p 4)
      | none => 0

/-- Lay one layer over a pixel of a head of FORMAT f. -/
def Dev.layerOver (d : Dev) (m : List Host.Cell) (f palette x y : Nat) (p : Px) (s : LayerShown) : Px :=
  let g := s.geometry
  if x < Geo.x g ∨ y < Geo.y g ∨ Geo.x g + Geo.w g ≤ x ∨ Geo.y g + Geo.h g ≤ y then p
  else
    let lx := x - Geo.x g
    let ly := y - Geo.y g
    let op := opacityOf s.blend
    let n := borderOf s.tally
    if onBorder g s.tally lx ly then overlay 65025 (argb16 f (paletteAt palette (bitsOf s.tally 0 4))) p
    else
      match barAt g s.tally s.bars lx with
      | some i => overlay 65025 (argb16 f (paletteAt palette (barColour (Geo.h g - 2 * n) (Geo.h g - n - 1 - ly) (s.levels.getD i none)))) p
      | none =>
        if s.display = 4 then
          let w := d.veneerPixel m s.veneer s.buffer (Geo.cropL g + lx) (Geo.cropT g + ly)
          overlay (bitsOf w 24 8 * op) (argb16 f w) p
        else if s.display = 3 ∨ s.lost.contains ly ∨ s.filled.any (fun r => r.1 == ly && decide (r.2.1 ≤ lx) && decide (lx < r.2.1 + r.2.2)) = true then
          overlay (bitsOf s.fill 24 8 * op) (argb16 f s.fill) p
        else
          let c := Config.layerPixel s.engine s.frame lx ly
          overlay (255 * op) (64 * bitsOf c 20 10, 64 * bitsOf c 10 10, 64 * bitsOf c 0 10) p

/-- A pixel of the head: the layers from the back forward over the background, rounded to 10 bits. -/
def Dev.headPixel (d : Dev) (m : List Host.Cell) (f background palette : Nat) (stack : List LayerShown) (x y : Nat) : Px :=
  let p := stack.foldl (fun p s => d.layerOver m f palette x y p s) (argb16 f background)
  (min 1023 ((p.1 + 32) / 64), min 1023 ((p.2.1 + 32) / 64), min 1023 ((p.2.2 + 32) / 64))

/-- Three 10-bit components as one number. -/
def packPx (p : Px) : Nat := p.1 * 2 ^ 20 + p.2.1 * 2 ^ 10 + p.2.2

/-- Component i of a head's active picture, line by line: Cb, Y, Cr, Y of two pixels (4:2:2, with the chroma of the first of them), or the
three of a pixel. -/
def Dev.headWord (d : Dev) (m : List Host.Cell) (h f i : Nat) : Nat :=
  let s := d.headSt h
  let k := if Fmt.sampling f = 0 then 2 else 3
  let n := max 1 (k * Fmt.width f)
  let w := i % n
  let px (x : Nat) : Px := d.headPixel m f s.background s.palette s.stack x (i / n)
  if Fmt.sampling f = 0 then
    (if w % 2 = 1 then (px (w / 2)).2.1 else if w % 4 = 0 then (px (w / 2)).1 else (px (w / 2 - 1)).2.2)
  else if w % 3 = 0 then (px (w / 3)).1 else if w % 3 = 1 then (px (w / 3)).2.1 else (px (w / 3)).2.2

/-- The payload of a HEAD_OUT cell of n bits from bit b of its picture on. -/
def Dev.headPayload (d : Dev) (m : List Host.Cell) (c b n : Nat) : Nat :=
  let e := ceilDiv (b + n) 10
  let ws := (List.range (e - b / 10)).map (fun i => d.headWord m (d.bindIx c) (d.format c) (b / 10 + i))
  ws.foldl (fun a w => a * 1024 + w) 0 / 2 ^ (10 * e - b - n) % 2 ^ n * 2 ^ (2048 - n)

end Sys2Proof.Machine
end

