-- ==== Sys2Proof/Machine/Planes.lean ====
section
/-! DEFINITION. Planes X and Y: failure, promotion, reset, resynchronisation and rebuild (R104, R109 to R117). -/

namespace Sys2Proof.Machine

open Sys2Proof

/-! ## Plane states (Table 04.4) -/

namespace PlaneState
def OFFLINE : Nat := 0
def RESYNC : Nat := 1
def STANDBY : Nat := 2
def ACTIVE : Nat := 3
def FAILED : Nat := 4
def REBUILD : Nat := 5
end PlaneState

open PlaneState

/-- STATE of a plane. -/
def Dev.planeState (d : Dev) (p : Nat) : Nat := d.rd D.Plane.STATE p

/-- What a plane holds beside its record. -/
def Dev.planeSt (d : Dev) (p : Nat) : PlaneSt := nget d.plane {} p

/-- Change what a plane holds. -/
def Dev.setPlane (d : Dev) (p : Nat) (f : PlaneSt → PlaneSt) : Dev := { d with plane := nput d.plane {} p (f (d.planeSt p)) }

/-- Is the plane in service (ACTIVE or STANDBY)? -/
def Dev.inService (d : Dev) (p : Nat) : Bool := d.planeState p == STANDBY || d.planeState p == ACTIVE

/-! ## Plane tables (R112, R115) -/

/-- A word of the plane tables changes, in the shadow and in both planes but one that holds none: word c of the first 4,096 holds the
source of output 4,096 + c, plus 1, word 4,096 + c the relay entry of ingress context c (EFN and PATH, plus 1), word 8,192 + c the
highest sequence number delivered to output 4,096 + c, plus 1 (DESIGN CHOICE: the layout). -/
def Dev.tablePut (d : Dev) (i v : Nat) : Dev :=
  let d := if i < 8192 then { d with xp := { d.xp with shadow := nput d.xp.shadow 0 i v } } else d
  d.each ((List.range 2).filter (fun p => d.planeState p == RESYNC || d.inService p)) (fun d p =>
    d.setPlane p (fun x => { x with table := nput x.table 0 i v }))

/-- A plane's tables are loaded from the shadow (R115). -/
def Dev.loadPlane (d : Dev) (p : Nat) : Dev := d.setPlane p (fun x => { x with table := d.xp.shadow })

/-- Does the shadow agree with the committed crosspoint (R115)? -/
def Dev.shadowMatches (d : Dev) : Bool :=
  (d.listed D.XpDom.XP_TABLE 4096 ++ (d.xp.shadow.map (fun e => e.1)).filter (fun n => decide (n < 4096))).all (fun n =>
    nget d.xp.shadow 0 n == (if d.on D.XpTable.VALID n then d.rd D.XpTable.SOURCE n + 1 else 0))

/-- The CRC-32C of a page of 4 KiB: words 512k to 512k + 511. -/
def pageCrc (t : NMap Nat) (k : Nat) : Nat :=
  crc32c (bytesOf 4096 (sumOf (fun (e : Nat × Nat) => if e.1 / 512 = k then e.2 % 2 ^ 64 * 2 ^ (64 * (511 - e.1 % 512)) else 0) t))

/-- R112: is every page of two plane tables of the same CRC-32C? A page in which neither holds a word is. -/
def pagesAgree (a b : NMap Nat) : Bool :=
  (((a ++ b).map (fun e => e.1 / 512)).eraseDups).all (fun k => pageCrc a k == pageCrc b k)

/-! ## States -/

/-- Enter a plane state; HEALTH follows it (Table 04.12). -/
def Dev.planeTo (d : Dev) (p st : Nat) : Dev :=
  (((d.wr D.Plane.STATE p st).flag D.PlaneHealth.IN_SERVICE p (st == STANDBY || st == ACTIVE)).flag D.PlaneHealth.ROLE_ACTIVE p
    (st == ACTIVE)).setPlane p (fun x => { x with since := d.wall })

/-- Record a cause and its time (R109). -/
def Dev.planeCause (d : Dev) (p cause : Nat) : Dev :=
  (d.wr D.Plane.LAST_FAIL_CAUSE p cause).wr D.Plane.LAST_FAIL_TIME p d.now

/-- A failure of the record: FAILURES, cause, time, XC_PLANE_FAIL (R111). -/
def Dev.planeFailure (d : Dev) (p cause : Nat) : Dev :=
  ((d.add D.Plane.FAILURES p 1).planeCause p cause).raise Src.XC_PLANE_FAIL p

/-- A plane is reset: OFFLINE, its tables lost, its window counts begun again (R111, R112). -/
def Dev.planeOffline (d : Dev) (p : Nat) : Dev :=
  ((d.flag D.PlaneHealth.STALL_SEEN p false).setPlane p (fun x => { x with bad := [], mism := [], join := none, bist := none, table := [] })).planeTo p OFFLINE

/-- A plane enters FAILED; with AUTO_REPAIR it is reset at once (R111). -/
def Dev.planeFailed (d : Dev) (p cause : Nat) : Dev :=
  let d := (d.planeFailure p cause).planeTo p FAILED
  if d.on D.Planes.AUTO_REPAIR 0 then d.planeOffline p else d

/-- AUTO_REPAIR is committed as 1: a plane already FAILED is reset (Table 04.4). -/
def Dev.repairPlanes (d : Dev) : Dev :=
  if d.on D.Planes.AUTO_REPAIR 0 then d.each ((List.range 2).filter (fun p => d.planeState p == FAILED)) (fun d p => d.planeOffline p) else d

/-- The egress contexts that are enabled. -/
def Dev.outputs (d : Dev) : List Nat := d.enabled.filter (fun c => decide (4096 ≤ c))

/-- An egress context holds no anchor (R58, R116). -/
def Dev.dropAnchor (d : Dev) (c : Nat) : Dev :=
  (d.flag D.FlowStatus.ANCHORED c false).setFlow c (fun x =>
    { x with cur := x.cur.map (fun m => { m with anchor := none, slots := [], released := none }),
             pend := x.pend.map (fun m => { m with anchor := none, slots := [], released := none }) })

/-- Are the planes being rebuilt: none in service and one in REBUILD (R115, R116)? -/
def Dev.rebuilding (d : Dev) : Bool := !d.inService 0 && !d.inService 1 && (d.planeState 0 == REBUILD || d.planeState 1 == REBUILD)

/-- R115: a rebuild starts. Every egress context enters safe state, both planes are reset. -/
def Dev.startRebuild (d : Dev) : Dev :=
  let d := d.each d.outputs (fun d c => d.enterSafe c Safe.rebuild)
  let d := d.raise Src.XC_PLANE_REBUILD 0
  let d := ((d.planeOffline 0).planeTo 0 REBUILD)
  (d.planeOffline 1).planeTo 1 REBUILD

/-- R109, R110, R111: a failure cause of a plane acts by its state and that of the other plane. -/
def Dev.planeFail (d : Dev) (p cause : Nat) : Dev :=
  let q := 1 - p
  if d.planeState p = STANDBY then d.planeFailed p cause
  else if d.planeState p = RESYNC then
    (if cause = 1 ∨ cause = 2 ∨ cause = 6 then d.planeFailed p cause else d)
  else if d.planeState p = ACTIVE then
    if d.planeState q = STANDBY then
      let d := d.planeFailed p cause
      d.planeTo q ACTIVE
    else if cause = 3 ∨ cause = 4 then d.planeFailure p cause
    else (d.planeCause p cause).startRebuild
  else d

/-- Times of a list within the last `ns`. -/
def Dev.recent (d : Dev) (l : List Nat) (ns : Nat) : List Nat := l.filter (fun t => decide (d.wall < t + ns))

/-- A copy of a plane was missing or failed a CRC while the other plane's copy was valid: cause 0x03 at the limit (R109). -/
def Dev.badCopy (d : Dev) (p : Nat) : Dev :=
  let l := d.recent (d.planeSt p).bad (d.rd D.Planes.ACTIVE_FAIL_WINDOW_US 0 * 1000) ++ [d.wall]
  if d.rd D.Planes.ACTIVE_FAIL_LIMIT 0 ≤ l.length then (d.setPlane p (fun x => { x with bad := [] })).planeFail p 3
  else d.setPlane p (fun x => { x with bad := l })

/-- R108: a mismatch is charged to the standby plane; cause 0x04 at the limit (R109). -/
def Dev.mismatch (d : Dev) (p : Nat) : Dev :=
  let d := ((d.sat D.Plane.MISMATCHES p 1).raise Src.XC_PLANE_MISMATCH p).setPlane p (fun x => { x with mismAt := some d.wall })
  let l := d.recent (d.planeSt p).mism 1000000000 ++ [d.wall]
  if d.rd D.Planes.MISMATCH_LIMIT 0 ≤ l.length then (d.setPlane p (fun x => { x with mism := [] })).planeFail p 4
  else d.setPlane p (fun x => { x with mism := l })

/-- A plane enters service alone or with the other: every egress context loses its anchor (R116). -/
def Dev.reanchor (d : Dev) : Dev := d.each d.outputs (fun d c => d.dropAnchor c)

/-- Both planes enter service together; PREFERRED_PLANE decides the roles (R104). -/
def Dev.bothIn (d : Dev) : Dev :=
  let a := d.rd D.Planes.PREFERRED_PLANE 0
  (d.planeTo a ACTIVE).planeTo (1 - a) STANDBY

/-- SWAP: the standby plane becomes active, the other standby (Table 04.4). -/
def Dev.swapPlanes (d : Dev) (s : Nat) : Dev := (d.planeTo s ACTIVE).planeTo (1 - s) STANDBY

/-- PLANE_CMD RESET of a plane (R109, R111). -/
def Dev.resetPlane (d : Dev) (p : Nat) : Dev × Nat :=
  if d.planeState p = ACTIVE ∧ d.planeState (1 - p) = STANDBY then
    (((d.swapPlanes (1 - p)).planeCause p 7).planeOffline p, St.OK)
  else if d.planeState p = FAILED then (d.planeOffline p, St.OK)
  else (d, St.STATE)

/-- PLANE_CMD SWAP (Table 04.4). -/
def Dev.swapCmd (d : Dev) : Dev × Nat :=
  if d.planeState 0 = STANDBY then (d.swapPlanes 0, St.OK)
  else if d.planeState 1 = STANDBY then (d.swapPlanes 1, St.OK)
  else (d, St.STATE)

/-- A BLOCK reset of a plane (R115). -/
def Dev.blockPlane (d : Dev) (p : Nat) : Dev :=
  let st := d.planeState p
  if st = STANDBY ∨ st = RESYNC ∨ st = FAILED then d.planeOffline p
  else if st = ACTIVE then
    if d.planeState (1 - p) = STANDBY then (d.resetPlane p).1 else d.startRebuild
  else d

/-- The body of a PLANE_CMD write. -/
def Dev.planeCmd (d : Dev) (v : Nat) : Dev × Nat :=
  if v = 1 then d.resetPlane 0 else if v = 2 then d.resetPlane 1 else d.swapCmd

/-! ## Commands -/

/-- PLANE_FAIL (R109): an uncorrectable buffer error (0x01), a stall of more than 10 µs (0x02), or a cause the merges have
counted. -/
def execPlaneFail (dt plane cause : Nat) (s : State) : Host.Outcome State Fault Refusal :=
  s.act fun d => d.live dt fun d =>
    if 1 < plane ∨ cause = 0 ∨ 6 < cause then d
    else
      let d := if cause = 2 then (d.flag D.PlaneHealth.STALL_SEEN plane true).raise Src.XC_PLANE_STALL 0 else d
      d.planeFail plane cause

/-- PLANE_CMD_RESET_X (R111). -/
def execPlaneCmdResetX (q : Rcp) (s : State) : Host.Outcome State Fault Refusal :=
  s.act (serveWrite (.planeCmdResetX q.again) q 0x0D00 8 ⟨1, 1⟩ fun _ d => d.resetPlane 0)

/-- PLANE_CMD_RESET_Y (R111). -/
def execPlaneCmdResetY (q : Rcp) (s : State) : Host.Outcome State Fault Refusal :=
  s.act (serveWrite (.planeCmdResetY q.again) q 0x0D00 8 ⟨1, 2⟩ fun _ d => d.resetPlane 1)

/-- PLANE_CMD_SWAP (R111). -/
def execPlaneCmdSwap (q : Rcp) (s : State) : Host.Outcome State Fault Refusal :=
  s.act (serveWrite (.planeCmdSwap q.again) q 0x0D00 8 ⟨1, 3⟩ fun _ d => d.swapCmd)

/-- R521: BIST finds a failing slice, which goes onto the spare slice; a second failing slice fails BIST. -/
def Dev.planeSlice (d : Dev) (p : Nat) (slice : Option Nat) : Dev × Bool :=
  let stands := (List.range 17).find? (fun k => d.knotStands KnotKind.PLANE_SLICE KnotAct.SPARE_IN (17 * p + k))
  match slice, stands with
  | none, none => (d, true)
  | none, some _ => (d.flag D.PlaneHealth.SPARE_IN_USE p true, true)
  | some k, none => ((d.knotAdd KnotKind.PLANE_SLICE KnotAct.SPARE_IN (17 * p + k % 17) (17 * p + 16) Src.XC_PLANE_FAIL 0).flag
      D.PlaneHealth.SPARE_IN_USE p true, true)
  | some k, some j => (d.flag D.PlaneHealth.SPARE_IN_USE p true, k == j)

/-- The resynchronisation copy starts: the returning plane takes the active plane's tables as they stand (R112). -/
def Dev.startResync (d : Dev) (p : Nat) : Dev := (d.setPlane p (fun x => { x with table := (d.planeSt (1 - p)).table })).planeTo p RESYNC

/-- A plane enters service alone, loaded from the shadow (R111, R116). -/
def Dev.enterAlone (d : Dev) (p : Nat) : Dev := ((d.loadPlane p).planeTo p ACTIVE).reanchor

/-- PLANE_BIST_DONE (R111, R115, R521): a reset plane has run BIST; `slice` is a slice that failed. `shadowOk` says whether the flow-table shadow passed its ECC
check, which matters where the plane enters service alone. -/
def execPlaneBistDone (dt plane : Nat) (pass shadowOk : Bool) (slice : Option Nat) (s : State) : Host.Outcome State Fault Refusal :=
  s.act fun d => d.live dt fun d =>
    let q := 1 - plane
    if 1 < plane ∨ (d.planeState plane ≠ OFFLINE ∧ d.planeState plane ≠ REBUILD) then d
    else
    let sl := d.planeSlice plane slice
    let d := sl.1
    let pass := pass && sl.2
    if d.planeState plane = OFFLINE then
      let d := d.flag D.PlaneHealth.BIST_PASS plane pass
      if pass = false then d.planeFailed plane 5
      else if d.planeState q = ACTIVE then d.startResync plane
      else if d.inService q then d
      else if shadowOk && d.shadowMatches then d.enterAlone plane
      else d.raise Src.XC_PLANE_LOSS_BOTH 0
    else if d.planeState plane = REBUILD then
      let d := (d.flag D.PlaneHealth.BIST_PASS plane pass).setPlane plane (fun x => { x with bist := some pass })
      if pass then d
      else
        let d := d.planeFailed plane 5
        if d.planeState q = REBUILD then d else d.raise Src.XC_PLANE_LOSS_BOTH 0
    else d

/-- PLANE_RESYNC_DONE (R112, R113): the copy is complete and is checked page by page; `wrong` are the words that it left with another
value. -/
def execPlaneResyncDone (dt plane : Nat) (wrong : List (Nat × Nat)) (s : State) : Host.Outcome State Fault Refusal :=
  s.act fun d => d.live dt fun d =>
    if 1 < plane ∨ d.planeState plane ≠ RESYNC then d
    else
      let d := d.setPlane plane (fun x => { x with table := wrong.foldl (fun t e => nput t 0 e.1 e.2) x.table })
      if pagesAgree (d.planeSt plane).table (d.planeSt (1 - plane)).table = false then d.planeFailed plane 6
      else
        let us := min 250 ((d.wall - (d.planeSt plane).since) / 1000)
        let d := (d.add D.Plane.RESYNCS plane 1).wr D.Plane.LAST_RESYNC_US plane us
        (d.planeTo plane STANDBY).setPlane plane (fun x => { x with join := some d.now })

/-- Is a plane of a rebuild ready to enter service, or has its BIST still to end? -/
def Dev.planeReady (d : Dev) (p : Nat) : Bool := d.planeState p == REBUILD && (d.planeSt p).bist == some true

/-- PLANE_REBUILD_DONE (R115 to R117): the planes that passed BIST have been loaded from the flow-table shadow and enter
service; beside a plane that has entered service meanwhile, as standby (R104). A shadow that fails its ECC check, or does not agree with
the take record, is as two planes that fail BIST. -/
def execPlaneRebuildDone (dt : Nat) (shadowOk : Bool) (s : State) : Host.Outcome State Fault Refusal :=
  s.act fun d => d.live dt fun d =>
    let waiting := fun p => d.planeState p == REBUILD && !d.planeReady p
    let r0 := d.planeReady 0
    let r1 := d.planeReady 1
    if waiting 0 || waiting 1 || (!r0 && !r1) then d
    else if (shadowOk && d.shadowMatches) = false then
      let d := if r0 then d.planeFailed 0 5 else d
      let d := if r1 then d.planeFailed 1 5 else d
      if d.inService 0 || d.inService 1 then d else d.raise Src.XC_PLANE_LOSS_BOTH 0
    else
      let start := min (if r0 then (d.planeSt 0).since else d.wall) (if r1 then (d.planeSt 1).since else d.wall)
      let us := min 10000 ((d.wall - start) / 1000)
      let d := (d.add D.Planes.REBUILDS 0 1).wr D.Planes.LAST_REBUILD_US 0 us
      let d := if r0 then d.loadPlane 0 else d
      let d := if r1 then d.loadPlane 1 else d
      if r0 && r1 then d.bothIn.reanchor
      else
        let p := if r0 then 0 else 1
        if d.inService (1 - p) then (d.planeTo p STANDBY).setPlane p (fun x => { x with join := some d.now })
        else (d.planeTo p ACTIVE).reanchor

end Sys2Proof.Machine
end

