-- ==== Sys2Proof/Machine/PoolCore.lean ====
section
/-! DEFINITION. Time-shift pools: recording cells into a ring and finding the cells that a lag makes due (R277, Table 09.7). -/

namespace Sys2Proof.Machine

open Sys2Proof

/-- A pool. -/
def Dev.poolSt (d : Dev) (k : Nat) : PoolSt := nget d.pool {} k
/-- Change a pool. -/
def Dev.setPool (d : Dev) (k : Nat) (f : PoolSt → PoolSt) : Dev := { d with pool := nput d.pool {} k (f (d.poolSt k)) }

/-- The allocation of a pool. -/
def Dev.poolAlloc (d : Dev) (k : Nat) : Option (Nat × Alloc) := d.store.alloc.find? (fun a => a.2.want.cls == 1 && a.2.want.owner == k)

/-- The 288 bytes of a cell (Table 02.2). -/
def cellBytes (c : Cell) : List Nat := bytesOf 24 c.hdr ++ bytesOf 256 c.payload ++ bytesOf 4 c.crc ++ [0, 0, 0, 0]

/-- Is a byte span of an allocation poisoned in any of the blocks it touches? -/
def Alloc.poisonSpan (a : Alloc) (off n : Nat) : Bool :=
  let l := off / blockBytes
  let o := off % blockBytes
  let k := min n (blockBytes - o)
  a.poison l o k || (decide (k < n) && a.poison (l + 1) 0 (n - k))

/-- A RECORD context has released a cell of a flow: it is written with its ITIME, over the oldest where the ring is full. -/
def Dev.poolTakes (d : Dev) (c efn type : Nat) (cell : Cell) : Dev :=
  if d.kind c ≠ 0x4C then d
  else
    let k := d.bindIx c
    match d.poolAlloc k with
    | none => d
    | some (h, a) =>
      let cap := max 1 (a.want.full * blockBytes / 288)
      let x := d.poolSt k
      let d := d.storeSpan h 3 (poolOffset a.want.full (x.first + x.cells.length)) (cellBytes cell)
      d.setPool k (fun x =>
        let drop := if cap ≤ x.cells.length then 1 else 0
        { x with cells := x.cells.drop drop ++ [cell], first := x.first + drop, type := type
                 mbps := match d.sourceInfo efn with | some r => r.mbps | none => x.mbps })

/-- Earlier than or at a lag before now? -/
def Dev.lagged (d : Dev) (c : Nat) (cell : Cell) : Bool :=
  decide (0 ≤ sdiff d.now (cell.itime + d.rd D.PlayCfg.LAG_US c * 1000) 48)

/-- Does the recorded span cover the lag: is the oldest cell at least that old? -/
def Dev.spanCovers (d : Dev) (c : Nat) : Bool :=
  match (d.poolSt (d.bindIx c)).cells.head? with
  | some x => d.lagged c x
  | none => false

/-- The next cell a PLAYBACK context is to emit and its number; a run begins at an SOF cell. -/
def Dev.playNext (d : Dev) (c : Nat) (first : Bool) : Option (Nat × Cell) :=
  let x := d.poolSt (d.bindIx c)
  let due := (List.range x.cells.length).zip x.cells |>.map (fun (p : Nat × Cell) => (x.first + p.1, p.2)) |>.filter (fun (p : Nat × Cell) => d.lagged c p.2)
  match x.next.find? (fun e => e.1 == c) with
  | some e => if first then due.getLast?.bind (fun _ => due.reverse.find? (fun p => p.2.sof || p.2.type == 4))
      else due.find? (fun p => decide (e.2 ≤ p.1))
  | none => due.reverse.find? (fun p => p.2.sof || p.2.type == 4)

/-- Are the bytes of a recorded cell lost (R269, R271)? -/
def Dev.playLost (d : Dev) (c n : Nat) : Bool :=
  match d.poolAlloc (d.bindIx c) with
  | some (_, a) => a.poisonSpan (poolOffset a.want.full n) 288
  | none => true

/-- A PLAYBACK context has dealt with a cell. -/
def Dev.played (d : Dev) (c n : Nat) : Dev :=
  d.setPool (d.bindIx c) (fun x => { x with next := (c, n + 1) :: x.next.filter (fun e => e.1 != c) })

end Sys2Proof.Machine
end

