-- ==== Sys2Proof/Machine/Flow.lean ====
section
/-! DEFINITION. Flow contexts: engine states, runs, emission, acceptance of cells (R39 to R63), and the part of a commit that
touches flow records (R59, R60, R66). -/

namespace Sys2Proof.Machine

open Sys2Proof

/-! ## States (Table 02.7) -/

namespace FlowState
def IDLE : Nat := 0
def STARTING : Nat := 1
def RUNNING : Nat := 2
def STOPPING : Nat := 3
end FlowState

open FlowState

/-- The merge state of a context for a source, with no anchor (R58) and the cell type learned for it (R47). -/
def Dev.newMerge (d : Dev) (c efn : Nat) : Merge :=
  let k := d.kind c
  ⟨efn, if k = 0x49 ∨ k = 0x4C then d.sourceType efn else Kind.cellType k, none, [], none⟩

/-- Enter a state of Table 02.7. -/
def Dev.flowTo (d : Dev) (c st : Nat) : Dev := (d.wr D.Flow.STATE c st).setFlow c (fun x => { x with since := d.wall })

/-- The values whose committed change restarts a context: KIND, EFN, BIND, FORMAT, DECLARED_KBPS (Table 02.7); the RX_CFG or
TX_CFG element but for DSCP, TTL, HOLD_MAX_S, SAFE_KIND and HOLD_ARM (R189); for a tile output its channel's settings but for
LUT_SLOT and ANC_PASS (R308); for a head output TIMING but for ZORDER, for a layer input HEAD (R328). -/
def Dev.conf (d : Dev) (c : Nat) : List Nat :=
  let k := d.kind c
  let t := d.bindIx c % 64
  [k, if c < 4096 then d.rd D.Flow.EFN c else 0, d.rd D.Flow.BIND c, d.format c, d.rd D.Flow.DECLARED_KBPS c]
    ++ (if Kind.netRx k then [d.rd D.NetRx.RX_CFG c] else [])
    ++ (if Kind.netTx k then
          let v := d.rd D.NetTx.TX_CFG (c - 4096)
          [setBits (setBits (setBits v D.NetTxCfg.DSCP.lo 6 0) D.NetTxCfg.TTL.lo 8 0) 229 19 0]
        else [])
    ++ (if k = 0x09 then
          (if bitsOf (d.bindIx c) 8 2 = 2 then [d.rd D.Tile.FS_CFG_B t]
           else [setBits (d.rd D.Tile.PROC_CFG t) 16 8 0, d.rd D.Tile.FS_CFG_A t])
        else if k = 0x0A then [setBits (d.rd D.Head.TIMING (d.bindIx c)) 60 1 0]
        else if k = 0x4A then [d.rd D.Layer.HEAD (d.bindIx c)]
        else [])

/-! ## Receive ports (R136 to R139) -/

/-- What a receive lane holds beside its elements. -/
def Dev.rxSt (d : Dev) (l : Nat) : SdiRxSt := nget d.sdiRx {} l

/-- Change what a receive lane holds. -/
def Dev.setRx (d : Dev) (l : Nat) (f : SdiRxSt → SdiRxSt) : Dev := { d with sdiRx := nput d.sdiRx {} l (f (d.rxSt l)) }
/-- R132: do two FORMATs agree in every field compared between SDI signals? -/
def sameSdi (a b : Nat) : Bool := a / 4 == b / 4

/-- FMT_MATCH of a lane (R138): the detected format equals the FORMAT of the SDI_IN context that uses the lane. -/
def Dev.laneMatch (d : Dev) (lane : Nat) : Bool :=
  match d.sdiCtx 1 lane with
  | some c => d.rd D.SdiRxStatus.DETECTED_FORMAT lane != 0 && sameSdi (d.rd D.SdiRxStatus.DETECTED_FORMAT lane) (d.format c)
  | none => false

/-- R139: is nothing freezing the receive port of an SDI_IN context? -/
def Dev.portReady (d : Dev) (c : Nat) : Bool :=
  (d.lanes c).all (fun l => d.on D.SdiRxStatus.LOCKED l && d.laneMatch l
    && (Fmt.links (d.format c) == 1 || d.on D.SdiRxStatus.GROUP_ALIGNED l)
    && (!d.on D.SdiRxCfg.PID_REQUIRED (d.bindIx c) || d.on D.SdiRxStatus.PID_PRESENT l))

/-- R138: SDI_RX_FORMAT stands for a lane while the SDI_IN context that uses it runs and FMT_MATCH is 0. -/
def Dev.showMatch (d : Dev) (l : Nat) : Dev :=
  let bad := match d.sdiCtx 1 l with | some c => d.running c && !d.laneMatch l | none => false
  if bad = (d.rxSt l).wrong then d
  else
    let d := d.setRx l (fun x => { x with wrong := bad })
    if bad then d.raiseL Src.SDI_RX_FORMAT l else d.endCond Src.SDI_RX_FORMAT l

/-- The lanes whose SDI_RX_FORMAT stands are judged anew. -/
def Dev.matchSweep (d : Dev) : Dev := d.each ((d.sdiRx.filter (fun x => x.2.wrong)).map Prod.fst) (fun d l => d.showMatch l)

/-- R138, R139: the port of a running SDI_IN context is judged: it freezes where something freezes it. -/
def Dev.freezeIf (d : Dev) (c : Nat) : Dev :=
  let d := if d.kind c = 1 then d.each (d.lanes c) (fun d l => d.showMatch l) else d
  if d.kind c = 1 ∧ d.running c ∧ d.portReady c = false then
    (((d.flag D.FlowStatus.FROZEN c true).flag D.FlowStatus.SOURCE_LOST c true).flag D.FlowStatus.EMITTING c false).setFlow c
      (fun x => { x with base := none })
  else d

/-- Entry to STARTING: CELLS counts from here (Table 02.9). -/
def Dev.flowStart (d : Dev) (c : Nat) : Dev :=
  ((d.flag D.FlowStatus.ENABLE_QUEUED c false).wr D.Flow.CELLS c 0).flowTo c STARTING
    |>.setFlow c (fun x => { x with stop := false, conf := d.conf c })

/-- Entry to STOPPING: emission ends at the next cell boundary, so the cell in progress may still leave (Table 02.8); an enable
committed meanwhile waits (R61). -/
def Dev.flowStop (d : Dev) (c : Nat) (queued : Bool) : Dev :=
  ((d.flag D.FlowStatus.ENABLE_QUEUED c queued).flag D.FlowStatus.EMITTING c false).flowTo c STOPPING
    |>.setFlow c (fun x => { x with stop := false, last := decide (c < 4096) && x.begun })
    |>.matchSweep |>.flipsLeft

/-- A head's first frame boundary after its output starts takes every committed setting. -/
def Dev.headRestart (d : Dev) (c : Nat) : Dev :=
  if d.kind c = 0x0A then d.setHead (d.bindIx c) (fun x => { x with started := false, boundary := none, stack := [] }) else d

/-- The relay entry of a PEER_IN context in the plane tables follows its record (R112). -/
def Dev.showRelay (d : Dev) (c : Nat) : Dev :=
  if 4096 ≤ c then d
  else
    let v := if d.kind c = 8 ∧ d.running c then d.rd D.Flow.EFN c * 2 ^ 32 + d.rd D.Flow.PATH c + 1 else 0
    if v = nget d.xp.shadow 0 (4096 + c) then d else d.tablePut (4096 + c) v

/-- Entry to RUNNING. An egress context holds no anchor (R58) and enters in safe state where something forces it (R481). -/
def Dev.flowRun (d : Dev) (c : Nat) : Dev :=
  let d := (d.flowTo c RUNNING).wr D.Flow.SEQ_NEXT c 0
  if c < 4096 then d.setFlow c (fun x => { x with begun := false, lastItime := none, base := none, off := 0, last := false, lastSwitch := none, burst := 147456000, burstAt := d.wall })
    |>.setNetRx c (fun x => { legA := x.legA, legB := x.legB }) |>.freezeIf c |>.headRestart c |>.showRelay c
  else
    let d := (d.flag D.FlowStatus.ANCHORED c false).flag D.FlowStatus.ALIGNED c false
    let d := d.setFlow c (fun x => { x with cur := (d.feed c).map (d.newMerge c), keptAt := d.wall, sdi := {}, sdiNext := {},
                                            pend := x.pend.map (fun m => d.newMerge c m.efn), boundary := none })
    let d := if Kind.netTx (d.kind c) then { d with netTx := nput d.netTx {} c { heldFrame := (nget d.netTx {} c).heldFrame } }.wr D.NetTxStatus.RTP_SEQ_NEXT (c - 4096) 0
          |>.flag D.NetTxStatus.RESOLVING (c - 4096) (!isMulticast (d.rd D.NetTxCfg.DEST_A (c - 4096))
            || (d.on D.NetTxCfg.LEG_B_ENABLE (c - 4096) && !isMulticast (d.rd D.NetTxCfg.DEST_B (c - 4096)))) else d
    let d := if d.kind c = 0x41 then d.embedStop (d.bindIx c) else d
    if (d.flowSt c).safe ≠ 0 ∨ d.forced c then d.safeNow c else d

/-! ## Plane entry and crossings -/

/-- Do the planes take cells: is one in service (R115)? -/
def Dev.planesOpen (d : Dev) : Bool := d.inService 0 || d.inService 1

/-- A cell goes into both planes; those in service carry it (Table 19.8). -/
def Dev.intoPlanes (d : Dev) (c : Nat) (cell : Cell) : Dev :=
  let d := d.emit (.cell c cell)
  { d with ring := { d.ring with cellsX := d.ring.cellsX + ofBool (d.inService 0), cellsY := d.ring.cellsY + ofBool (d.inService 1) } }

/-! ## Commands -/

/-- FLOW_ENGINE_CONFIGURED (R60): STARTING ends. -/
def execFlowEngineConfigured (dt ctx : Nat) (s : State) : Host.Outcome State Fault Refusal :=
  s.act fun d => d.live dt fun d =>
    if d.rd D.Flow.STATE ctx ≠ STARTING ∨ 8192 ≤ ctx then d
    else if (d.flowSt ctx).stop then d.flowStop ctx (d.on D.Flow.ENABLE ctx)
    else d.flowRun ctx

/-- R43: the planner has removed a PEER_IN context once it is IDLE: its record holds its defaults again. -/
def Dev.peerGone (d : Dev) (c : Nat) : Dev :=
  if !d.on D.FlowStatus.PLANNER_OWNED c then d
  else
    let d := ((d.flag D.FlowStatus.PLANNER_OWNED c false).wr D.Flow.KIND c 0).wr D.Flow.EFN c 0
    let d := ((d.wr D.FlowBind.CLASS c 0).wr D.FlowBind.INDEX c 0).wr D.Flow.FORMAT c 0
    (d.wr D.Flow.PATH c 0).wr D.Flow.DEST_MAP c 0

/-- FLOW_ENGINE_QUIESCED (R60, R61): STOPPING ends. Blocks and pages held until IDLE return (R63, R176, R321), and shrunk
allocations regrow (R272). -/
def execFlowEngineQuiesced (dt ctx : Nat) (s : State) : Host.Outcome State Fault Refusal :=
  s.act fun d => d.live dt fun d =>
    if d.rd D.Flow.STATE ctx ≠ STOPPING ∨ 8192 ≤ ctx then d
    else
    let d := d.setFlow ctx (fun x => { x with begun := false, base := none, last := false })
    if d.on D.Flow.ENABLE ctx then d.flowStart ctx
    else
      let d := (((d.flag D.FlowStatus.ENABLE_QUEUED ctx false).flowTo ctx IDLE).peerGone ctx).showRelay ctx
      let d := if 4096 ≤ ctx then
          (((d.flag D.FlowStatus.ANCHORED ctx false).flag D.FlowStatus.ALIGNED ctx false).setFlow ctx (fun x => { x with cur := none })).layerIdle ctx
        else
          -- no leg delivers to a context that is IDLE
          (((d.flag D.NetRxStatus.LEG_A_OK ctx false).flag D.NetRxStatus.LEG_B_OK ctx false).flag D.NetRxStatus.SKEW_EXCEEDED ctx false).setNetRx
            ctx (fun _ => {})
      d.settle

/-- RUN_START (R62): the first frame start, or first unit of media, after RUNNING. -/
def execRunStart (dt ctx : Nat) (s : State) : Host.Outcome State Fault Refusal :=
  s.act fun d => d.live dt fun d =>
    if 4096 ≤ ctx ∨ !d.running ctx ∨ (d.flowSt ctx).begun ∨ (d.kind ctx = 1 ∧ d.portReady ctx = false) then d
    else
      let d := (d.wr D.Flow.SEQ_NEXT ctx 0).flag D.FlowStatus.SOURCE_LOST ctx false
      let d := d.flag D.FlowStatus.FROZEN ctx false
      d.setFlow ctx (fun x => { x with begun := true, lastItime := none, base := some 0 })

/-- What an ingress context notes when a cell leaves it (Tables 02.9, 02.12). -/
def Dev.emitted (d : Dev) (c itime : Nat) (first sp : Bool) : Dev :=
  let d := ((d.add D.Flow.CELLS c 1).flag D.FlowStatus.EMITTING c true).flag D.FlowStatus.SOURCE_LOST c false
  let d := if first then d.wr D.Flow.RUN_START c d.now else d
  d.setFlow c (fun x => { x with lastItime := some (itime % 2 ^ 48), movedAt := d.wall,
                                 lastSwitch := if sp then some (itime % 2 ^ 48) else x.lastSwitch })

/-- The header fields and valid bits of a cell that follow from the stream's position (Table 02.4): SOF, EOF, SWITCH_POINT, LINE and
WOFF together, LEN, the bits of the payload that count. -/
structure CellPlace where
  sof : Bool
  eof : Bool
  sp : Bool
  pos : Nat
  len : Nat
  bits : Nat
  deriving DecidableEq, Repr

/-- LINE and WOFF of a VID cell at a byte of the active picture (Table 02.4). -/
def Fmt.lineAt (f off : Nat) : Nat :=
  let n := Fmt.lineBytes f
  if n = 0 then 0 else off / n * 2 ^ 18 + off % n

/-- Where a context's next cell lies (R50 to R54). An SDI cell lies at a bit of the stream, a VID, CMP or ANC cell at a byte of its
frame; `sof` begins a frame, of which every byte of the active picture is carried (VID) or `eof` ends it (CMP, ANC); `pos` is the RTP timestamp
of the frame, or of the first sample set. -/
def Dev.cellPlace (d : Dev) (ctx len pos : Nat) (sof eof : Bool) : CellPlace :=
  let x := d.flowSt ctx
  let type := d.originType ctx
  let f := d.format ctx
  let first := x.lastItime.isNone
  if type = 1 then
    let b := 2048 * ((d.rd D.Flow.SEQ_NEXT ctx + 2 ^ 32 - x.base.getD 0) % 2 ^ 32)
    let n := Fmt.sdiBits b len
    let p := Fmt.position f b
    ⟨b == 0 || Fmt.holdsWord f b n 0, Fmt.holdsEnd f b n, Fmt.holdsWord f b n ((Fmt.switchLine f - 1) * Fmt.lineWords f),
      p.1 % 2 ^ 14 * 2 ^ 18 + p.2 % 2 ^ 18, len, n⟩
  else if type = 4 then ⟨first, false, false, pos, len, 8 * len⟩
  else
    let start := sof || first || x.off == 0
    let off := if start then 0 else x.off
    let left := Fmt.activeBytes f - off
    let len := if type = 2 then min 256 left else len
    ⟨start, if type = 2 then decide (left ≤ 256) else eof, start,
      if start then pos else if type = 2 then Fmt.lineAt f off else off % 2 ^ 32, len, 8 * len⟩

/-- An originating context sends a cell (R14, R50 to R57). A cell the rules do not allow (an ITIME earlier than the last, a short cell
that is not the frame's last, or whose last byte ends no word of an SDI stream) is not sent. -/
def Dev.sendCell (d : Dev) (ctx itime len pos : Nat) (sof eof : Bool) (payload : Nat) (field : Nat := 0) : Dev :=
  let x := d.flowSt ctx
  let type := d.originType ctx
  let base := x.base
  let f := d.format ctx
  let p := d.cellPlace ctx len pos sof eof
  -- a frame synchroniser and a head place their SWITCH_POINT cells (R296, R317)
  let itime := if p.sp then ((d.fsTarget ctx).orElse (fun _ => d.headTarget ctx)).getD itime else itime
  let early := match x.lastItime with | some t => decide (sdiff itime t 48 < 0) | none => false
  if early || p.len == 0 || decide (256 < p.len) || (type == 1 && (x.base.isNone || decide (p.bits ≤ 8 * (p.len - 1))))
      || ((type == 3 || type == 5) && decide (p.len < 256) && !p.eof) then d
  else
    let d := if d.kind ctx = 0x09 ∧ p.sof ∧ bitsOf (d.bindIx ctx) 8 2 = 0 then
        (d.tileFrameStart (d.bindIx ctx % 64)).placeAnc ctx (d.bindIx ctx % 64) field else d
    let payload := if d.kind ctx = 0x09 ∧ type = 1 then
        d.tilePayload ctx (2048 * ((d.rd D.Flow.SEQ_NEXT ctx + 2 ^ 32 - x.base.getD 0) % 2 ^ 32)) p.bits payload
      else if d.kind ctx = 0x09 ∧ type = 2 then d.tilePayload ctx (8 * (if p.sof then 0 else x.off)) p.bits payload
      else payload
    let cell := Cell.build type p.sof p.eof p.sp (d.rd D.Flow.EFN ctx) (d.rd D.Flow.SEQ_NEXT ctx) itime (d.rd D.Flow.DEST_MAP ctx) p.len p.pos
      (payload / 2 ^ (2048 - p.bits) * 2 ^ (2048 - p.bits))
    let d := (d.add D.Flow.SEQ_NEXT ctx 1).emitted ctx itime x.lastItime.isNone p.sp
    let d := d.setFlow ctx (fun x => { x with
      base := if type = 1 ∧ p.len < 256 then none else x.base
      off := if p.eof then 0 else if p.sof then p.len else x.off + p.len
      last := false })
    -- the receiver reads the words that it sends (R144)
    let d := if d.kind ctx = 1 then (d.setFlow ctx (fun x => { x with sdi := x.sdi.feed f cell (some cell.seq == base) })).readLines ctx else d
    if d.planesOpen then (d.intoPlanes ctx cell).sendOver (pathVias (d.rd D.Flow.PATH ctx)) false (cell.cross 1) else d

/-- An SDI_IN context sends a cell (R134, R136): `itime` is when its first bit's word position crossed the ball of link 0, and `words` holds the
words of the links that the cell has bits of, from the one in which it begins on (Sdi.gather). -/
def Dev.sendSdiIn (d : Dev) (ctx itime len words : Nat) : Dev :=
  let f := d.format ctx
  let p := d.cellPlace ctx len 0 false false
  let b := 2048 * ((d.rd D.Flow.SEQ_NEXT ctx + 2 ^ 32 - (d.flowSt ctx).base.getD 0) % 2 ^ 32)
  let n := ceilDiv (b % 10 + p.bits) 10
  let v := Sdi.gather f (b / 10) n words % 2 ^ (10 * n - b % 10)
  let bits := if 10 * n - b % 10 ≤ 2048 then v * 2 ^ (2048 - (10 * n - b % 10)) else v / 2 ^ (10 * n - b % 10 - 2048)
  d.sendCell ctx (itime + (if 1 < Fmt.links f then (d.rxSt (d.bindIx ctx)).lag else 0)) len 0 false false bits

/-- R356: an AUDIO_OUT context sends a cell once every sample set it holds has been computed. -/
def Dev.sendBundle (d : Dev) (ctx : Nat) : Dev :=
  let b := d.bindIx ctx
  let x := d.bundleSt b
  let n := d.setsPerCell ctx
  let len := n * d.setBytes ctx
  if n = 0 ∨ x.sets < n then d
  else
    let left := x.sets * d.setBytes ctx - len
    let d := d.sendCell ctx d.now len x.rtp false false (x.bytes / 256 ^ left * 256 ^ (256 - len))
    d.setBundle b (fun x => { x with rtp := (x.rtp + n) % 2 ^ 32, sets := x.sets - n, bytes := x.bytes % 256 ^ left })

/-- R277: a PLAYBACK context emits the recorded cell that its lag makes due, with a new ITIME; a lost one is a missing cell. While the
span is shorter than the lag it emits nothing and sets SOURCE_LOST. -/
def Dev.sendPlayback (d : Dev) (ctx : Nat) : Dev :=
  if !d.spanCovers ctx then (d.flag D.FlowStatus.SOURCE_LOST ctx true).flag D.FlowStatus.EMITTING ctx false
  else
    let first := (d.flowSt ctx).lastItime.isNone
    match d.playNext ctx first with
    | none => d
    | some (n, c) =>
      let d := (d.played ctx n).setFlow ctx (fun x => { x with last := false })
      if d.playLost ctx n then d.add D.Flow.SEQ_NEXT ctx 1
      else
        let it := d.now % 2 ^ 48
        let cell := Cell.build c.type (c.sof || first) c.eof c.switchPoint (d.rd D.Flow.EFN ctx) (d.rd D.Flow.SEQ_NEXT ctx) it (d.rd D.Flow.DEST_MAP ctx)
          c.len c.pos c.payload
        let d := (d.add D.Flow.SEQ_NEXT ctx 1).emitted ctx it first c.switchPoint
        if d.planesOpen then (d.intoPlanes ctx cell).sendOver (pathVias (d.rd D.Flow.PATH ctx)) false (cell.cross 1) else d

/-- The ancillary output of a tile sends the next cell of its ANC frame (R293). -/
def Dev.sendAnc (d : Dev) (ctx itime pos : Nat) : Dev :=
  let t := d.bindIx ctx % 64
  let x := d.flowSt ctx
  let d := if x.off = 0 ∨ x.lastItime.isNone = true then d.ancStart ctx t else d
  let b := (d.tileSt t).ancOut
  let n := min 256 b.len
  (d.setTile t (fun y => { y with ancOut := b.drop n })).sendCell ctx itime n pos false (decide (b.len ≤ 256)) ((b.take n).val * 256 ^ (256 - n))

/-- CELL_EMIT (R49 to R57): an originating context in a run emits a cell; in STOPPING, the one that was in progress (Table 02.8). A network receive context takes its content from the
packets it has assembled (R174); for SDI the content is the words that crossed the balls, with their time; a tile, head, bundle or pool emits
what its engine made, at the time of emission, a head the picture that it composes (R320); a tile writes the ancillary spaces of its output itself, and `field` is the field of the input frame
from which the output frame that begins here was built (R294). -/
def execCellEmit (dt ctx itime len pos : Nat) (sof eof : Bool) (payload field : Nat) (s : State) : Host.Outcome State Fault Refusal :=
  s.act fun d => d.live dt fun d =>
    let x := d.flowSt ctx
    let k := d.kind ctx
    if 4096 ≤ ctx ∨ !(d.running ctx || (x.last && d.rd D.Flow.STATE ctx == STOPPING)) ∨ !x.begun ∨ !Kind.originates k ∨ d.tileMute ctx then d
    else if Kind.netRx k then
      (match d.takeCell ctx with
       | none => d
       | some t =>
         let it := match x.lastItime with | some l => if sdiff t.itime l 48 < 0 then l else t.itime % 2 ^ 48 | none => t.itime % 2 ^ 48
         (d.setNetRx ctx (fun y => { y with asm := t.rest })).sendCell ctx it t.len t.pos t.sof t.eof t.payload)
    else
      if k = 0x0B then d.sendBundle ctx else if k = 0x0C then d.sendPlayback ctx
      else if k = 1 then d.sendSdiIn ctx itime len payload
      else if k = 9 ∧ bitsOf (d.bindIx ctx) 8 2 = 1 then d.sendAnc ctx d.now pos
      else if k = 0x0A then
        let p := d.cellPlace ctx len pos sof eof
        d.sendCell ctx d.now len pos sof eof (d.headPayload s.mem ctx (8 * (if p.sof then 0 else x.off)) p.bits)
      else d.sendCell ctx (if 9 ≤ k then d.now else itime) len pos sof eof payload field

/-- R47: does a stage whose cell type is `type` (0: none is compared) accept a cell's header? -/
def cellAccepted (c : Cell) (type : Nat) : Bool := c.crcOk && c.wellFormed && (type == 0 || c.type == type)

/-- CELL_RECEIVED (R14, R44, R47, R48): a cell from a dowel group reaches the PEER_IN context of its flow, which sends it into
both planes unchanged and, as a relay, over the groups its PATH names. A cell that would need a third crossing is discarded, and while no
plane is in service nothing leaves (R115). -/
def execCellReceived (dt group : Nat) (cell : Cell) (s : State) : Host.Outcome State Fault Refusal :=
  s.act fun d => d.live dt fun d =>
    if 7 ≤ group then d
    else
    match d.peerOf cell.efn with
    | none => d
    | some c =>
      if !d.running c then d
      else if !cellAccepted cell 0 then d.sat D.Flow.MALFORMED c 1
      else
        let vias := pathVias (d.rd D.Flow.PATH c)
        if vias ≠ [] ∧ 2 ≤ cell.hops then d.sat D.Flow.MALFORMED c 1
        else
          let first := !(d.flowSt c).begun
          let d := d.setFlow c (fun x => { x with begun := true })
          let d := d.emitted c cell.itime first cell.switchPoint
          if d.planesOpen then (d.intoPlanes c cell).sendOver vias true (cell.relay (cell.hops + 1)) else d

/-! ## Commit checks (Table 02.6) -/

/-- The contexts a commit group touches. -/
def touchedFlows (keys : List Key) : List Nat :=
  keys.filterMap (fun k => if 0x4000 ≤ k.ix ∧ k.ix < 0x6000 then some (k.ix - 0x4000) else none)

/-- R60: a change of KIND, EFN, BIND, FORMAT or DECLARED_KBPS. -/
def restartKey (k : Key) : Bool := k.sub == 4 || k.sub == 5 || k.sub == 6 || k.sub == 7 || k.sub == 8

/-- Check 1 (R41): KIND is one of Table 02.1 for the direction, and not NONE where ENABLE is 1. -/
def Dev.flowCheck1 (d : Dev) (c : Nat) : Bool :=
  if d.on D.Flow.ENABLE c then Kind.fits c (d.kind c) else d.kind c == 0 || Kind.fits c (d.kind c)

/-- Does the resource a context names exist (Table 02.10, R133, R282)? Network ports and interfaces are checked by R194. -/
def Dev.bindOk (d : Dev) (c : Nat) : Bool :=
  let k := d.kind c
  let ix := d.bindIx c
  let l := Fmt.links (d.format c)
  d.rd D.FlowBind.CLASS c == Kind.bindClass k &&
    (match Kind.bindClass k with
     | 1 => decide (ix + l ≤ 128) && decide (ix % l = 0)
     | 2 => decide (ix < 32)
     | 3 => decide (ix < 8)
     | 4 => decide (bitsOf ix 6 2 = 0) && decide (ix < 0x300)
     | 5 => decide (ix < 192)
     | 6 => decide (ix < 12)
     | 7 => decide (ix < 512)
     | 8 => decide (ix < 128)
     | _ => false)

/-- Check 3 (R42, R82): EFN in the partition the kind requires, and not in a reserved block. -/
def Dev.efnOk (d : Dev) (c : Nat) : Bool :=
  let e := d.rd D.Flow.EFN c
  if c ≥ 4096 then true
  else if Kind.originates (d.kind c) then e / 8192 == d.me && decide (e % 8192 < 8128)
  else if d.kind c = 8 then e / 8192 != d.me
  else true

/-- Check 3 (R66): PATH names members of the ensemble, never the device itself; an egress context has none. -/
def Dev.pathOk (d : Dev) (c : Nat) : Bool :=
  let p := d.rd D.Flow.PATH c
  if c ≥ 4096 then p == 0
  else bitsOf p (4 * d.me) 4 == 0 &&
    (List.range 8).all (fun m => !bit p (4 * m + 3)
      || (decide (m < d.ensSize) && decide (bitsOf p (4 * m) 3 < d.ensSize) && bitsOf p (4 * m) 3 != d.me))

/-- A single-link or level B-DL code of at most 2.970 Gbit/s (R131, ST 2022-6). -/
def fits2022 (f : Nat) : Bool :=
  match Fmt.sdiLinks f with
  | some (1, r) => decide (r ≤ 297000)
  | _ => false

/-- Check 4: the kind's engine supports FORMAT (R130, R131, R184); tile and head conditions are R307's and R336's. -/
def Dev.formatOk (d : Dev) (c : Nat) : Bool :=
  let k := d.kind c
  let f := d.format c
  if k = 0x01 ∨ k = 0x41 then (Fmt.sdiLinks f).isSome
  else if k = 0x07 ∨ k = 0x47 then fits2022 f
  else if k = 0x02 ∨ k = 0x03 ∨ k = 0x06 ∨ k = 0x42 ∨ k = 0x43 ∨ k = 0x46 then Fmt.defined f && Fmt.mapping f == 0
  else true

/-- Do two enabled contexts bind one exclusive resource (check 5 of Table 02.6, R282, R301)? -/
def Dev.clash (d : Dev) (a b : Nat) : Bool :=
  let k := d.kind a
  a != b && k == d.kind b &&
    (if k = 0x01 ∨ k = 0x41 then (d.lanes a).any (fun l => (d.lanes b).contains l)
     else if k = 0x49 ∨ k = 0x09 then
       (if Fmt.raster (d.format a) = 8 ∧ bitsOf (d.bindIx a) 8 2 = 2 then
          bitsOf (d.bindIx b) 8 2 == 2 && bitsOf (d.bindIx a) 0 6 / 4 == bitsOf (d.bindIx b) 0 6 / 4
        else d.bindIx a == d.bindIx b)
     else if k = 0x4A ∨ k = 0x0A then d.bindIx a == d.bindIx b
     else false)

/-- Check 5: no two enabled originating contexts hold one EFN. -/
def Dev.efnAlone (d : Dev) (c : Nat) : Bool :=
  d.enabled.all (fun b => b == c || !(decide (c < 4096) && decide (b < 4096) && Kind.originates (d.kind c) && Kind.originates (d.kind b)
    && d.rd D.Flow.EFN c == d.rd D.Flow.EFN b))

/-- Check 5: no exclusive resource is bound twice. -/
def Dev.unique (d : Dev) (c : Nat) : Bool := d.enabled.all (fun b => b == c || (!d.clash c b && !d.clash b c))

/-- Check 6: with host-assisted path planning, a valid PATH field for each destination member. -/
def Dev.planned (d : Dev) (c : Nat) : Bool :=
  decide (4096 ≤ c) ||
    (List.range 8).all (fun m => m == d.me || !bit (d.rd D.Flow.DEST_MAP c) m || bit (d.rd D.Flow.PATH c) (4 * m + 3))

/-- The plane reservation of an ingress context after a commit (R25). A PEER_IN context reserves the rate of the flow it carries, a PLAYBACK
context that of the flow its pool has recorded, or of the one it records where it holds nothing yet (R56). -/
def Dev.reservation (d : Dev) (c : Nat) : Nat :=
  if !d.on D.Flow.ENABLE c ∨ c ≥ 4096 then 0
  else if d.kind c = 8 then (match Assoc.find d.remote (d.rd D.Flow.EFN c) with | some r => r.mbps | none => 0)
  else if d.kind c = 0x0C then
    if (d.poolSt (d.bindIx c)).cells ≠ [] then (d.poolSt (d.bindIx c)).mbps
    else (match d.boundTo 0x4C (d.bindIx c) with
     | some r => (match d.source r with | some e => (match d.sourceInfo e with | some i => i.mbps | none => 0) | none => 0)
     | none => 0)
  else Fmt.reserve (d.media1001 c 0)

/-- The effect of a committed group on a context it touches, or whose settings it changes (Table 02.7). -/
def Dev.flowCommit (d : Dev) (c : Nat) : Dev :=
  let on := d.on D.Flow.ENABLE c
  let st := d.rd D.Flow.STATE c
  let same := d.conf c == (d.flowSt c).conf
  let d := d.wr D.Flow.RESERVED_MBPS c (d.reservation c)
  if st = IDLE then (if on then d.flowStart c else d)
  else if st = STARTING then d.setFlow c (fun x => { x with stop := !on || !same })
  else if st = RUNNING then
    if !on then d.flowStop c false
    else if !same then d.flowStop c true
    else d
  else d.flag D.FlowStatus.ENABLE_QUEUED c on

end Sys2Proof.Machine
end

