-- ==== Sys2Proof/Machine/TxQueue.lean ====
section
/-! DEFINITION. Media on its way from release to packets (R183, R185, R190, Table 06.5): what a released cell, a missing sequence
number or a frame of safe content adds to a network output. -/

namespace Sys2Proof.Machine

open Sys2Proof

/-- What a network transmit context holds. -/
def Dev.netTxSt (d : Dev) (c : Nat) : NetTxSt := nget d.netTx {} c

/-- Change what a network transmit context holds. -/
def Dev.setNetTx (d : Dev) (c : Nat) (f : NetTxSt → NetTxSt) : Dev := { d with netTx := nput d.netTx {} c (f (d.netTxSt c)) }

/-- Media that begins now. -/
def TxFrame.new (ts : Nat) : TxFrame := ⟨ts, 0, Bytes.none, false, 0, 0, [], [], 0, 0⟩

/-- n bytes of BLACK words of an SDI stream from bit `pos` of a frame on (R150). -/
def sdiBlack (f pos n : Nat) : Bytes := ⟨n, Sdi.blackBits f (pos % max 1 (Fmt.frameWords f * 10)) (8 * n)⟩

/-- Make n bytes ready, of what is yet to be made. -/
def TxFrame.draw (a : TxFrame) (f n : Nat) : TxFrame :=
  let m := min a.gen (n - a.wait.len)
  if m = 0 then a else { a with wait := a.wait.app (sdiBlack f (a.org + 8 * (a.sent + a.wait.len)) m), gen := a.gen - m }

/-- Change the media last begun. -/
def mapLastTx (l : List TxFrame) (f : TxFrame → TxFrame) : List TxFrame :=
  match l with
  | [] => []
  | [a] => [f a]
  | a :: b :: t => a :: mapLastTx (b :: t) f

/-- The media last begun, where its end has not come. -/
def openTx (l : List TxFrame) : Option TxFrame := match l.getLast? with | some a => if a.closed then none else some a | none => none

/-- Bytes of it so far. -/
def TxFrame.size (a : TxFrame) : Nat := a.sent + a.wait.len

/-- Append bytes with their ITIME. -/
def TxFrame.push (a : TxFrame) (b : Bytes) (itime : Nat) : TxFrame :=
  { a with wait := a.wait.app b, marks := a.marks ++ [(a.size, itime)] }

/-- Append filled bytes. -/
def TxFrame.fill (a : TxFrame) (b : Bytes) (itime : Nat) : TxFrame :=
  if b.len = 0 then a
  else { (a.push b itime) with fillAt := if a.fillEnd ≤ a.sent then a.size else a.fillAt, fillEnd := a.size + b.len }

/-- Black bytes that complete an active picture. -/
def TxFrame.padBlack (a : TxFrame) (f itime : Nat) : TxFrame := a.fill (blackPicture f a.size (Fmt.activeBytes f - a.size)) itime

/-- The bytes of the packet in progress: how many of the carried payload at the end of `wait` are still due, walking its
2-byte prefixes. -/
def dueBytes (b : Bytes) : Nat → Nat
  | 0 => 0
  | k + 1 =>
    if b.len = 0 then 0
    else if b.len = 1 then 1
    else
      let n := 2 + byteAt b.len b.val 0 % 128 * 256 + byteAt b.len b.val 1
      if b.len < n then n - b.len else dueBytes (b.drop n) k

/-- The whole packets at the start of `wait`, without the one in progress. -/
def wholeBytes (b : Bytes) : Nat → Nat
  | 0 => 0
  | k + 1 =>
    if b.len < 2 then 0
    else
      let n := 2 + byteAt b.len b.val 0 % 128 * 256 + byteAt b.len b.val 1
      if b.len < n then 0 else n + wholeBytes (b.drop n) k

/-- An ancillary payload with ANC_Count 0, behind its prefix with the marker bit (PRESUMED: the 8-byte header of ST 2110-40). -/
def emptyAnc : Bytes := ⟨10, 0x8008 * 2 ^ 64⟩

/-- How many of n bits that begin at bit `pos` of a frame lie in it, where its last bit is among them. -/
def endIn (f pos n : Nat) : Option Nat :=
  let p := Fmt.frameWords f * 10
  if pos % max 1 p + n < p then none else some (p - pos % max 1 p)

/-- A released cell reaches the packetiser of a network output. -/
def Dev.txPush (d : Dev) (c : Nat) (cell : Cell) : Dev :=
  let k := d.kind c
  if Kind.netTx k = false then d
  else
    let x := d.netTxSt c
    let b : Bytes := ⟨cell.len, cell.payload / 256 ^ (256 - cell.len)⟩
    let it := cell.itime
    if Kind.audio k then
      let sb := max 1 (d.setBytes c)
      let last : Bytes := ⟨sb, b.val % 256 ^ sb⟩
      let joins := match openTx x.frames with | some a => (a.ts + a.size / sb) % 2 ^ 32 == cell.pos | none => false
      d.setNetTx c (fun x =>
        let fs := if joins then x.frames else mapLastTx x.frames (fun a => { a with closed := true }) ++ [TxFrame.new cell.pos]
        { x with frames := mapLastTx fs (fun a => a.push b it), collect := last })
    else if k = 0x47 then
      let f := d.format c
      d.setNetTx c (fun x =>
        let fs := match openTx x.frames with | some _ => x.frames | none => x.frames ++ [TxFrame.new cell.seq]
        { x with collect := x.collect.app b
                 frames := mapLastTx fs (fun a =>
                   -- bits ahead of the alignment are the BLACK generator's (R52)
                   let keep := 8 * cell.len - min (8 * cell.len) (d.flowSt c).sdi.skip
                   let bytes : Bytes := if keep = 8 * cell.len then b
                     else ⟨cell.len, (sdiBlack f (a.org + 8 * a.size) cell.len).val / 2 ^ keep * 2 ^ keep + b.val % 2 ^ keep⟩
                   let p := Fmt.frameWords f * 10
                   let org := if keep = 0 then a.org
                     else ((d.flowSt c).sdi.pos % max 1 p + p * (8 * a.size + 2048) - (8 * a.size + (8 * cell.len - keep))) % max 1 p
                   let e := match endIn f (d.flowSt c).sdi.pos keep with | some e => [8 * a.size + (8 * cell.len - keep) + e] | none => []
                   { (a.push bytes it) with ends := a.ends ++ e, org := org, closed := decide (cell.len < 256) }) })
    else
      let f := d.format c
      if cell.sof then
        d.setNetTx c (fun x =>
          let fs := mapLastTx x.frames (fun a => if a.closed then a else { (if k = 0x42 then a.padBlack f it else a) with closed := true })
          { x with skip := false, collect := b, frames := fs ++ [{ ((TxFrame.new cell.pos).push b it) with closed := cell.eof }] })
      else if x.skip ∨ (openTx x.frames).isNone then d
      else d.setNetTx c (fun x => { x with collect := x.collect.app b
                                           frames := mapLastTx x.frames (fun a => { (a.push b it) with closed := cell.eof }) })

/-- The time at which the words of a missing cell began: the last cell's time and what its bits last at the lane rate (DESIGN CHOICE: R55
takes the timestamp from the cell that holds the word, and no cell does). -/
def TxFrame.fillTime (a : TxFrame) (f : Nat) : Nat :=
  match a.marks.getLast? with
  | some m => (m.2 + 8 * (a.size - m.1) * 1000000000 * 1001 / max 1 (Fmt.lane1001 f)) % 2 ^ 48
  | none => 0

/-- Content that stands for a missing sequence number (Tables 04.2, 06.5). -/
def Dev.txMissing (d : Dev) (c : Nat) : Dev :=
  let k := d.kind c
  let x := d.netTxSt c
  let f := d.format c
  if Kind.netTx k = false then d
  else if k = 0x42 then
    -- a frame whose first cell is missing is sent too; its RTP timestamp came with that cell, and is a free value
    let whole := match openTx x.frames with | some a => decide (Fmt.activeBytes f ≤ a.size) | none => true
    let d := if whole then d.drawn.setNetTx c (fun x =>
        let fs := mapLastTx x.frames (fun a => { a with closed := true })
        { x with skip := false, collect := Bytes.none, frames := fs ++ [TxFrame.new (d.freeVal % 2 ^ 32)] }) else d
    d.setNetTx c (fun x => { x with frames := mapLastTx x.frames (fun a =>
      a.fill (blackPicture f a.size (min 256 (Fmt.activeBytes f - a.size))) 0) })
  else
    match openTx x.frames with
    | none => d
    | some _ =>
      if Kind.audio k then
        d.setNetTx c (fun x => { x with frames := mapLastTx x.frames (fun a =>
          a.fill (Bytes.gen (d.setsPerCell c * x.collect.len) (fun i => x.collect.at_ (i % max 1 x.collect.len))) 0) })
      else if k = 0x43 then
        d.setNetTx c (fun x => { x with skip := true, frames := mapLastTx x.frames (fun a =>
          { (a.fill ⟨dueBytes a.wait a.wait.len, 0⟩ 0) with closed := true }) })
      else if k = 0x46 then
        d.setNetTx c (fun x => { x with skip := true, frames := mapLastTx x.frames (fun a =>
          if dueBytes a.wait a.wait.len = 0 then { a with closed := true }
          else { ({ a with wait := a.wait.take (wholeBytes a.wait a.wait.len) }.fill emptyAnc 0) with closed := true }) })
      else
        d.setNetTx c (fun x => { x with frames := mapLastTx x.frames (fun a =>
          a.fill (sdiBlack f (a.org + 8 * a.size) 256) (a.fillTime f)) })

/-- The RTP timestamp of a frame that a safe output generates (R190). -/
def Dev.safeTs (d : Dev) : Nat := d.now * 9 / 100000 % 2 ^ 32

/-- Media left open when safe content begins is completed as for missing bytes (R190, Table 06.5): an active picture with black, the packet in
progress of a compressed or ancillary stream, an SDI frame with BLACK words to its end. -/
def Dev.txClose (d : Dev) (c : Nat) : Dev :=
  let k := d.kind c
  let f := d.format c
  match openTx (d.netTxSt c).frames with
  | none => d
  | some a =>
    if k = 0x42 then d.setNetTx c (fun x => { x with frames := mapLastTx x.frames (fun a => { (a.padBlack f 0) with closed := true }) })
    else if k = 0x43 ∨ k = 0x46 then d.txMissing c
    else if k = 0x47 then
      let done := (a.org + 8 * a.size) % max 1 (Fmt.frameWords f * 10)
      let n := if done = 0 then 0 else ceilDiv (Fmt.frameWords f * 10 - done) 8
      d.setNetTx c (fun x => { x with frames := mapLastTx x.frames (fun a =>
        { a with closed := true, gen := n, ends := if n = 0 then a.ends else a.ends ++ [8 * (a.size + n)] }) })
    else d

/-- A frame of safe content of a network output: the held frame, or BLACK (Table 06.5); an ST 2110-22 output has no BLACK. -/
def Dev.txSafe (d : Dev) (c : Nat) (held : Bool) : Dev :=
  let k := d.kind c
  let f := d.format c
  let d := d.txClose c
  let x := d.netTxSt c
  let one := fun (b : Bytes) => d.setNetTx c (fun x => { x with frames := x.frames ++ [{ ((TxFrame.new d.safeTs).push b (d.now % 2 ^ 48)) with closed := true }] })
  if k = 0x42 then one (if held then x.heldFrame else blackPicture f 0 (Fmt.activeBytes f))
  else if k = 0x43 then (if held then one x.heldFrame else d)
  else if k = 0x46 then one (if Fmt.interlaced f then emptyAnc.app emptyAnc else emptyAnc)
  else if k = 0x47 then
    let b := if held then x.heldFrame else Bytes.none
    d.setNetTx c (fun x => { x with frames := x.frames ++
      [{ ((TxFrame.new d.safeTs).push b (d.now % 2 ^ 48)) with
         closed := true, gen := if held then 0 else Fmt.sdiFrameBytes f, ends := [8 * (if held then b.len else Fmt.sdiFrameBytes f)] }] })
  else d

end Sys2Proof.Machine
end

