-- ==== Sys2Proof/Machine/SdiOut.lean ====
section
/-! DEFINITION. An SDI output at work: the source's lines leave it frame by frame (R52, R134, R140, R146, R148, R152), and the signature of
each frame (R123). -/

namespace Sys2Proof.Machine

open Sys2Proof

/-! ## Signatures (R123) -/

/-- R123: the active twin compares its signature of an output with the twin's, where both are there, of one source, and of frames that
began within half a frame period of each other. -/
def Dev.compareSig (d : Dev) (c : Nat) : Dev :=
  let a := nget d.twin.sigs (0, 0, 0) c
  let b := nget d.twin.theirs (0, 0, 0) c
  let near := decide (2 * (sdiff a.2.1 b.2.1 64).natAbs < Fmt.periodNs (d.format c))
  if a = (0, 0, 0) ∨ b = (0, 0, 0) ∨ near = false then d
  else
    let d := { d with twin := { d.twin with sigs := nput d.twin.sigs (0, 0, 0) c (0, 0, 0), theirs := nput d.twin.theirs (0, 0, 0) c (0, 0, 0) } }
    if a.1 = b.1 ∧ a.2.2 ≠ b.2.2 ∧ d.rd D.Twin.ROLE 0 = 0 then d.sat D.Twin.SIG_MISMATCHES 0 1 else d

/-- Do signatures go to the twin: is the pair PAIRED? -/
def Dev.signing (d : Dev) : Bool := d.rd D.Twin.STATE 0 == 4

/-- R123: the signature of a frame that ended goes to the twin, and is kept for the comparison: output, source, frame boundary, CRC. -/
def Dev.signFrame (d : Dev) (c : Nat) (source boundary : Option Nat) (sig : Nat) : Dev :=
  match boundary, source with
  | some b, some e =>
    if !d.signing then d
    else
      let d := { d with twin := { d.twin with sigs := nput d.twin.sigs (0, 0, 0) c (e, b, sig) } }
      (d.sendMsg 7 7 ⟨16, c * 2 ^ 112 + e * 2 ^ 96 + b % 2 ^ 64 * 2 ^ 32 + sig⟩).compareSig c
  | _, _ => d

/-- BLACK lines of the frame in progress, up to the line at place `o` of the frame, reach its signature. -/
def Dev.signBlack (d : Dev) (c o : Nat) : Dev :=
  let f := d.format c
  let x := d.txSt c
  let n := fun (i : Nat) => (Fmt.switchLine f + x.sigLines + i - 1) % Fmt.totalLines f + 1
  d.setTx c (fun x => { x with sig := (List.range (o - x.sigLines)).foldl (fun a i => Sdi.crcPicture a (Sdi.blackPicture f (n i))) x.sig
                               sigLines := max o x.sigLines })

/-- A line sent reaches the signature of its frame. -/
def Dev.signLine (d : Dev) (c n : Nat) (links : List (List Nat)) : Dev :=
  let f := d.format c
  let o := SdiBuf.ord f n
  if !d.signing ∨ o < (d.txSt c).sigLines then d
  else (d.signBlack c o).setTx c (fun x =>
    { x with sig := Sdi.crcPicture x.sig (Sdi.interleave (links.map (Sdi.pictureOf f n))), sigLines := o + 1 })

/-! ## Frames -/

/-- Does the output carry its source now? -/
def Dev.carries (d : Dev) (c : Nat) : Bool := !d.isSafe c && !(d.flowSt c).waitTimed && (d.flowSt c).cur.isSome

/-- The frame in progress ends (R123, R152): signed where a line of the source was sent in it. -/
def Dev.endFrame (d : Dev) (c : Nat) : Dev :=
  let x := d.txSt c
  let d := if 0 < x.sigLines then
      let d := d.signBlack c (Fmt.totalLines (d.format c))
      d.signFrame c x.frameSrc x.frameAt ((d.txSt c).sig ^^^ 0xFFFFFFFF)
    else d
  (d.sdiFrameEnd c).setTx c (fun x => { x with frameAt := x.frameNext, frameSrc := d.source c })

/-- A line of the source leaves (R134, R140); an armed output writes it into its blocks (R152). -/
def Dev.sendSource (d : Dev) (c : Nat) (armed : Bool) (l : SdiLine) : Dev :=
  let r := d.sendLine c l.line l.words false false
  let d := r.1.signLine c l.line r.2
  if armed && l.words.all Option.isSome then d.setTx c (fun x => { x with write := x.write ++ [(l.line, r.2.map Sdi.packWords)] }) else d

/-- Lines leave in order. At the source's switching line the frame turns where the output's boundary has come; else the lines that follow
wait for it. -/
def Dev.drainLines (d : Dev) (c : Nat) (armed : Bool) : List SdiLine → Dev
  | [] => d.setFlow c (fun x => { x with sdi := { x.sdi with lines := [] } })
  | l :: t =>
    if l.line = 0 then
      if (d.flowSt c).sdi.owed then
        (((d.endFrame c).setFlow c (fun x => { x with sdi := { x.sdi with owed := false } })).sendFrame c 0).drainLines c armed t
      else d.setFlow c (fun x => { x with sdi := { x.sdi with lines := l :: t } })
    else (d.sendSource c armed l).drainLines c armed t

/-- What waits in an output's buffer leaves; where the output does not carry its source, lines ahead of the last switching line are not
sent. -/
def Dev.flushLines (d : Dev) (c : Nat) : Dev :=
  let b := (d.flowSt c).sdi
  if d.kind c ≠ 0x41 then d
  else if d.carries c then d.drainLines c (d.armed c) b.lines
  else
    let after := (b.lines.reverse.takeWhile (fun x => x.line != 0)).reverse
    d.setFlow c (fun x => { x with sdi := { x.sdi with lines := if b.lines.any (fun x => x.line == 0) then ⟨0, []⟩ :: after else [] } })

/-- A frame begins at a boundary: with its source's switching line where the output carried that source until now, else at once. -/
def Dev.turnFrame (d : Dev) (c : Nat) (steady : Bool) (show_ : List Nat) : Dev :=
  if !d.carries c then
    let d := d.endFrame c
    let d := if d.isSafe c then d.safeFrame c else d.sendFrame c 1
    if d.safeHold c then d else d.showBlack c show_
  else if steady && !(d.flowSt c).sdi.owed && (d.flowSt c).sdi.aligned then
    (d.setFlow c (fun x => { x with sdi := { x.sdi with owed := true } })).flushLines c
  else
    -- the line in progress of a frame that ends here
    let cut := steady && !(d.flowSt c).sdi.lines.any (fun x => x.line == 0)
    let d := if cut then (d.setFlow c (fun x => { x with sdi := x.sdi.finish (d.format c) })).flushLines c else d
    let d := (d.endFrame c).setFlow c (fun x => { x with sdi := if steady && cut then { x.sdi with owed := false } else x.sdi.start })
    (d.sendFrame c 0).flushLines c

/-! ## Cells -/

/-- R146: the rate follower measures a frame of the source from switching line to switching line; it tracks within ±100 ppm of
nominal, and holds its last rate otherwise. -/
def Dev.follow (d : Dev) (c itime : Nat) : Dev :=
  let f := d.format c
  d.setTx c (fun x =>
    let x := match x.switchAt with
      | none => x
      | some t =>
        let p := (sdiff itime t 48).natAbs
        let off := ((p * Fmt.fps f : Nat) : Int) - Fmt.period1001
        if off.natAbs ≤ Fmt.period1001 / 10000 + Fmt.fps f then { x with period := p, tracks := true } else { x with tracks := false }
    { x with switchAt := some itime })

/-- The time of the switching line's first word, where a cell holds it: words from frame word w on, `b` the buffer before. -/
def switchTime (f : Nat) (b : SdiBuf) (skip w n : Nat) (itime : Nat) : Option Nat :=
  let k := ((Fmt.switchLine f - 1) * Fmt.lineWords f + Fmt.frameWords f - w) % max 1 (Fmt.frameWords f)
  if n ≤ k then none
  else
    let at_ : Int := (skip : Int) + 10 * k - b.carry.1
    some (((itime : Int) + at_ * 1001000000000 / (max 1 (Fmt.lane1001 f) : Nat)) % 2 ^ 48).toNat

/-- A released cell of the current source reaches an SDI output (R52, R134). -/
def Dev.sdiTake (d : Dev) (c : Nat) (cell : Cell) : Dev :=
  if cell.type ≠ 1 ∨ Kind.sdiOut (d.kind c) = false then d
  else
    let f := d.format c
    let b := (d.flowSt c).sdi
    let r := b.take f cell (cell.seq == 0)
    let d := d.flag D.FlowStatus.ALIGNED c r.1.aligned
    if d.kind c ≠ 0x41 then d.setFlow c (fun x => { x with sdi := r.1 })
    else
      let d := match switchTime f b r.1.skip r.2.1 r.2.2.length cell.itime with | some t => d.follow c t | none => d
      (d.setFlow c (fun x => { x with sdi := SdiBuf.put f 8 r.1 r.2.1 r.2.2 })).flushLines c

/-- Cells of a pending source whose release time has passed stand in the re-timing buffer (R148). -/
def Dev.sdiAhead (d : Dev) (c : Nat) (cells : List Cell) : Dev :=
  let one := fun (b : SdiBuf) (cell : Cell) =>
    if cell.type ≠ 1 then b
    else
      let b := b.feed (d.format c) cell (cell.seq == 0)
      -- only what follows its last switching line may be needed
      if b.lines.any (fun x => x.line == 0) then { b with lines := ⟨0, []⟩ :: (b.lines.reverse.takeWhile (fun x => x.line != 0)).reverse }
      else { b with lines := [] }
  if d.kind c ≠ 0x41 then d else d.setFlow c (fun x => { x with sdiNext := cells.foldl one x.sdiNext })

/-- The pending source of an SDI output becomes the current one: what its buffer holds goes with it. -/
def FlowSt.sdiSwap (x : FlowSt) : FlowSt := { x with sdi := x.sdiNext, sdiNext := {} }

end Sys2Proof.Machine
end

