-- ==== Sys2Proof/Machine/Merge.lean ====
section
/-! DEFINITION. The merge of the two plane copies at an egress context, release at the release time, and the loss of a source
(R15, R47, R52, R58, R102 to R108, R140). -/

namespace Sys2Proof.Machine

open Sys2Proof

/-! ## Slots -/

/-- Put a slot in place of the one with its sequence number, or add it. -/
def Merge.putSlot (m : Merge) (t : Slot) : Merge := { m with slots := m.slots.filter (fun u => u.seq != t.seq) ++ [t] }

/-- The slot of a sequence number. -/
def Merge.slot (m : Merge) (seq : Nat) : Option Slot := m.slots.find? (fun t => t.seq == seq)

/-- The good copy of a plane in a slot. -/
def Slot.good (t : Slot) (p : Nat) : Option Copy := t.copies.find? (fun c => c.plane == p && c.good)

/-- Has a copy of a plane been delivered, good or bad? -/
def Slot.has (t : Slot) (p : Nat) : Bool := t.copies.any (fun c => c.plane == p)

/-- How long the release time of a cell with this ITIME has passed at a context, ns (R15). -/
def Dev.overdue (d : Dev) (c itime : Nat) : Int := sdiff (d.now % 2 ^ 48) (itime + d.delayNow c) 48

/-- R15: has the release time of a cell with this ITIME come? -/
def Dev.due (d : Dev) (c itime : Nat) : Bool := decide (0 ≤ d.overdue c itime)

/-- Which merge of a context takes a flow: true its current source, false its pending one (R58); none where it takes neither. -/
def FlowSt.takes (x : FlowSt) (efn : Nat) : Option (Bool × Merge) :=
  match x.cur with
  | some m => if m.efn = efn then some (true, m) else
      (match x.pend with | some p => if p.efn = efn then some (false, p) else none | none => none)
  | none => match x.pend with | some p => if p.efn = efn then some (false, p) else none | none => none

/-- Store a merge back. -/
def Dev.putMerge (d : Dev) (c : Nat) (current : Bool) (m : Merge) : Dev :=
  d.setFlow c (fun x => if current then { x with cur := some m } else { x with pend := some m })

/-- A cell of the context's current source is kept: its loss timer restarts (R106). -/
def Dev.keptNow (d : Dev) (c : Nat) (current : Bool) : Dev :=
  if current then (d.flag D.FlowStatus.SOURCE_LOST c false).setFlow c (fun x => { x with keptAt := d.wall }) else d

/-! ## Arrival -/

/-- R58: the anchor after a valid cell arrives; none where the cell is discarded, with a flag that says whether it is stale. -/
def Merge.anchored (m : Merge) (cell : Cell) : Option (Merge × Bool) × Bool :=
  match m.anchor with
  | none => if cell.type = 4 ∨ cell.sof then (some ({ m with anchor := some cell.itime, slots := [], released := none }, true), false) else (none, false)
  | some a =>
    let e := sdiff cell.itime a 48
    if cell.seq = 0 ∧ cell.sof ∧ 0 < e then (some ({ m with anchor := some cell.itime, slots := [], released := none }, true), false)
    else if e < 0 then (none, true)
    else (some (m, false), false)

/-- R108: compare a pair once both copies are valid. -/
def Dev.comparePair (d : Dev) (t : Slot) : Dev × Slot :=
  match t.good 0, t.good 1 with
  | some a, some b =>
    if t.compared then (d, t)
    else
      let d := (d.add D.Plane.COMPARED 0 1).add D.Plane.COMPARED 1 1
      let sb := if d.planeState 0 = PlaneState.STANDBY then 0 else if d.planeState 1 = PlaneState.STANDBY then 1
        else if a.stand then 0 else 1
      (if a.cell.compared ≠ b.cell.compared then d.mismatch sb else d, { t with compared := true })
  | _, _ => (d, t)

/-- A valid copy enters its slot (R102, R103): it counts as arriving at once where its plane is active or alone, and when its
window ends where it is standby and no valid active copy has come. -/
def Slot.deliver (t : Slot) (p : Nat) (stand : Bool) (cell : Cell) (at_ : Nat) : Slot :=
  if (t.good p).isSome then t
  else
    let wait := stand && t.kept.isNone
    let others := if stand then t.copies else t.copies.map (fun c => { c with window := false })
    { t with copies := others ++ [⟨p, stand, true, cell, wait, at_⟩],
             kept := if wait then t.kept else some (t.kept.getD (p, cell)) }

/-- An empty slot. -/
def Slot.fresh (seq itime : Nat) : Slot := ⟨seq, itime, [], none, false, false, false⟩

/-- Set an output's ANCHORED and the anchor it shows in RUN_START (Table 02.9). -/
def Dev.showAnchor (d : Dev) (c itime : Nat) : Dev :=
  (d.flag D.FlowStatus.ANCHORED c true).wr D.Flow.RUN_START c (d.extend48 itime)

/-- Has a copy with a right HCRC told the number's ingress time? -/
def Slot.timed (t : Slot) : Bool := t.kept.isSome || t.copies.any (fun x => x.cell.hcrc == Cell.headerCrc x.cell.hdr)

/-- A copy that failed a CRC (R47, Table 04.1): counted on its plane, it is the failed copy of the sequence number its header shows. -/
def Dev.badArrival (d : Dev) (c p : Nat) (cell : Cell) : Dev :=
  let d := (d.sat D.Plane.CRC_ERRORS p 1).setPlane p (fun x => { x with crcAt := some d.wall })
  match (d.flowSt c).takes cell.efn with
  | none => d
  | some (cur, m) =>
    if m.anchor.isNone then d
    else
      let t := (m.slot cell.seq).getD (Slot.fresh cell.seq cell.itime)
      if t.has p then d
      else
        let t := { t with copies := t.copies ++ [⟨p, d.planeState p == PlaneState.STANDBY, false, cell, false, d.wall⟩] }
        let d := d.putMerge c cur (m.putSlot t)
        if (t.good (1 - p)).isSome then d.badCopy p else d

/-- A copy that passed both CRCs and R47. -/
def Dev.goodArrival (d : Dev) (c p : Nat) (cell : Cell) : Dev :=
  match (d.flowSt c).takes cell.efn with
  | none => d
  | some (cur, m) =>
    match m.anchored cell with
    | (none, stale) => if stale then d.sat D.Flow.STALE c 1 else d
    | (some (m, new), _) =>
      let d := if new && cur then d.showAnchor c cell.itime else d
      let d := d.putMerge c cur m
      -- the first valid copy gives the number's ingress time; a later one is judged by it
      let t := (m.slot cell.seq).getD (Slot.fresh cell.seq cell.itime)
      let t := if (t.good p).isSome || (t.good (1 - p)).isSome then t else { t with itime := cell.itime }
      let gone := match m.released with | some r => decide (sdiff cell.seq r 32 ≤ 0) | none => false
      -- the planes keep the highest sequence number delivered (R112)
      let top := nget (d.planeSt p).table 0 (4096 + c)
      let d := if top = 0 ∨ new = true ∨ 0 < sdiff cell.seq (top - 1) 32 then d.tablePut (4096 + c) (cell.seq + 1) else d
      if 0 < d.overdue c t.itime then d.sat D.Flow.LATE c 1
      else if gone then d
      else
        let firstBad := t.copies.any (fun x => x.plane == 1 - p && !x.good) && (t.good p).isNone
        let t := t.deliver p (d.planeState p == PlaneState.STANDBY) cell d.wall
        let d := if t.kept.isSome then d.keptNow c cur else d
        let r := d.comparePair t
        let d := r.1.putMerge c cur (m.putSlot r.2)
        if firstBad then d.badCopy (1 - p) else d

/-- MERGE_COPY_ARRIVAL (R102, R58, R108): a plane in service delivers a copy of a cell to an egress merge. -/
def execMergeCopyArrival (dt ctx plane : Nat) (cell : Cell) (s : State) : Host.Outcome State Fault Refusal :=
  s.act fun d => d.live dt fun d =>
    if ctx < 4096 ∨ 8192 ≤ ctx ∨ 1 < plane ∨ !d.running ctx ∨ !d.inService plane then d
    else
    match (d.flowSt ctx).takes cell.efn with
    | none => d
    | some (_, m) =>
      if !cell.crcOk then d.badArrival ctx plane cell
      else if !cellAccepted cell m.type then d.sat D.Flow.MALFORMED ctx 1
      else d.goodArrival ctx plane cell

/-- A standby copy is kept because the active copy is missing or bad (Table 04.1): counted when that is certain, else at the release. -/
def Dev.countUsed (d : Dev) (p : Nat) (t : Slot) (certain : Bool) : Dev × Slot :=
  let stand := t.copies.any (fun x => x.plane == p && x.good && x.stand)
  if !stand || t.used || (t.good (1 - p)).isSome || !certain then (d, t) else (d.add D.Plane.USED p 1, { t with used := true })

/-- Does the ITIME of a sequence number lie before the join instant of a plane (R113)? -/
def Dev.beforeJoin (d : Dev) (q itime : Nat) : Bool :=
  match (d.planeSt q).join with | some j => decide (sdiff (d.extend48 itime) j 64 < 0) | none => false

/-- A copy of a plane is absent while the other plane's was valid: counted (R102), and charged to the plane (R109). -/
def Dev.absentCopy (d : Dev) (q : Nat) (t : Slot) : Dev :=
  if t.has q || d.beforeJoin q t.itime then d else (d.sat D.Plane.MISSING q 1).badCopy q

/-- The end of a slot's window (R102, Table 04.1): a waiting standby copy counts as arriving. It is kept where no valid active copy came
and its release time has not passed; past that it is late (R15). A copy that is absent counts as missing on its plane. -/
def Dev.windowEnd (d : Dev) (c : Nat) (cur : Bool) (m : Merge) (t : Slot) : Dev :=
  if t.ended then d
  else
    match t.copies.find? (fun x => x.window) with
    | some x =>
      let q := 1 - x.plane
      let waited := d.wall - (x.at_ + d.rd D.Planes.MERGE_WINDOW_NS 0)
      let gone := match m.released with | some r => decide (sdiff t.seq r 32 ≤ 0) | none => false
      if (waited : Int) < d.overdue c t.itime ∨ gone = true then
        let d := if (waited : Int) < d.overdue c t.itime then d.sat D.Flow.LATE c 1 else d
        d.putMerge c cur (if gone then { m with slots := m.slots.filter (fun u => u.seq != t.seq) }
          else m.putSlot { t with ended := true, copies := t.copies.map (fun y => { y with window := false }) })
      else
        let t := { t with ended := true, copies := t.copies.map (fun y => { y with window := false }),
                          kept := some (t.kept.getD (x.plane, x.cell)) }
        let r := d.countUsed x.plane t (t.has q || !d.inService q)
        ((r.1.putMerge c cur (m.putSlot r.2)).keptNow c cur).absentCopy q t
    | none =>
      let d := d.putMerge c cur (m.putSlot { t with ended := true })
      match t.kept with
      | none => d
      | some (p, _) => if d.inService (1 - p) then d.absentCopy (1 - p) t else d

/-- Has the merge window of a slot passed: MERGE_WINDOW_NS since its first copy was delivered, or its waiting one? -/
def Dev.windowPast (d : Dev) (t : Slot) : Bool :=
  match (t.copies.find? (fun x => x.window)).orElse (fun _ => t.copies.head?) with
  | some x => d.past x.at_ (d.rd D.Planes.MERGE_WINDOW_NS 0)
  | none => false

/-- The window of a sequence number ends in one of a context's merges, where it has passed. -/
def Dev.settleWindow (d : Dev) (c seq : Nat) (cur : Bool) : Dev :=
  match if cur then (d.flowSt c).cur else (d.flowSt c).pend with
  | some m => (match m.slot seq with | some t => if d.windowPast t then d.windowEnd c cur m t else d | none => d)
  | none => d

/-- MERGE_WINDOW_END (R102): the merge window of a sequence number has passed. -/
def execMergeWindowEnd (dt ctx seq : Nat) (s : State) : Host.Outcome State Fault Refusal :=
  s.act fun d => d.live dt fun d =>
    if ctx < 4096 ∨ 8192 ≤ ctx then d else (d.settleWindow ctx seq true).settleWindow ctx seq false

/-! ## Release -/

/-- The sequence number due next: the one after the last released, or the first held. -/
def Merge.next (m : Merge) : Option Nat :=
  match m.released with
  | some r => some ((r + 1) % 2 ^ 32)
  | none => (m.slots.filter Slot.timed).foldl (fun b t => match b with
      | none => some t.seq
      | some x => if sdiff t.seq x 32 < 0 then some t.seq else some x) none

/-- Show whether an SDI output substitutes on all its links for lack of source words (R140). -/
def Dev.showFrozen (d : Dev) (c : Nat) (b : Bool) : Dev :=
  if d.kind c = 0x41 then
    (if 1 < Fmt.links (d.format c) then d.flag D.FlowStatus.FROZEN c b else d).each (d.lanes c) (fun d l => d.flag D.SdiTxStatus.FROZEN l b)
  else d

/-- The output substitutes words from here on (R140): its frame will not become the held frame (R152). -/
def Dev.substitutes (d : Dev) (c : Nat) : Dev :=
  ({ d with hold := nput d.hold {} c { nget d.hold {} c with dirty := true } }).showFrozen c true

/-- Is the release of this cell an application instant of the context (Table 03.4)? SDI and ST 2022-6 outputs have theirs at the
frame boundary, layer inputs at the head's. -/
def Dev.appliesAt (d : Dev) (c : Nat) (cell : Cell) : Bool :=
  let k := d.kind c
  if Kind.sdiOut k || k == 0x4A then false
  else if cell.type = 4 then true
  else if cell.type = 1 then cell.switchPoint
  else cell.sof

/-- A sequence number for which no valid copy is held at its release time (R105). -/
def Dev.releaseMissing (d : Dev) (c : Nat) (m : Merge) (seq : Nat) : Dev :=
  -- a standby copy whose window is still open will count as late
  let d := (d.sat D.Flow.MISSING c 1).putMerge c true { m with
    released := some seq, slots := m.slots.filter (fun t => t.seq != seq || t.copies.any (fun x => x.window)) }
  let d := (d.flag D.FlowStatus.ALIGNED c false).setFlow c (fun x => { x with sdi := x.sdi.lose })
  (((d.substitutes c).txMissing c).tileMisses c).emit (.missing c seq)

/-- A kept cell is released at its ingress time plus the playout delay (R15). Where the instant is an application instant the
output may leave safe state (R107); in safe state the cell's content is not sent. -/
def Dev.releaseCell (d : Dev) (c : Nat) (m : Merge) (t : Slot) (p : Nat) (cell : Cell) : Dev :=
  let d := (d.countUsed p t true).1
  let d := d.putMerge c true { m with released := some t.seq, slots := m.slots.filter (fun u => u.seq != t.seq) }
  let d := ((d.wr D.Flow.SEQ_NEXT c t.seq).add D.Flow.CELLS c 1).flag D.FlowStatus.EMITTING c true
  let d := d.setFlow c (fun x => { x with movedAt := d.wall, lastSwitch := if cell.switchPoint then some cell.itime else x.lastSwitch })
  let d := d.sdiTake c cell
  let d := d.showFrozen c (cell.type == 1 && Kind.sdiOut (d.kind c) && !(d.flowSt c).sdi.aligned)
  let d := if cell.type = 1 ∧ cell.len < 256 then d.substitutes c else d
  let at_ := d.appliesAt c cell
  let d := if at_ then d.frameEnd c (d.armed c) else d
  let d := if at_ then d.setFlow c (fun x => { x with boundary := some d.now, oldDelay := none }) else d
  let d := if at_ then d.leaveSafe c else d
  -- BLACK of an untimed change ends at the source's next frame start (R83)
  let d := if at_ && m.released.isSome then d.setFlow c (fun x => { x with waitTimed := false }) else d
  let d := ((d.tileTakes c cell).layerTakes c cell).audioTakes c cell m.released.isNone
  let d := d.poolTakes c m.efn m.type cell
  if d.isSafe c || (d.flowSt c).waitTimed || d.kind c == 0x41 then d
  else
    let d := (d.emit (.release c cell)).txPush c cell
    -- the signature of a frame of an ST 2110-20 output (R123)
    if d.signing && d.kind c == 0x42 && cell.eof then
      let x := (d.netTxSt c).collect
      d.signFrame c (d.source c) (d.flowSt c).boundary (crc32c (bytesOf x.len x.val))
    else d

/-- The next sequence number of the current source is released, or its content is missing, where its time has come. -/
def Dev.releaseNext (d : Dev) (c : Nat) (m : Merge) (n : Nat) : Dev :=
  match (m.slot n).filter Slot.timed with
  | some t =>
    if !d.due c t.itime then d
    else
      (match t.kept with
       | some (p, cell) => d.releaseCell c m t p cell
       | none => d.releaseMissing c m n)
  | none =>
    if m.slots.any (fun t => t.timed && decide (0 < sdiff t.seq n 32) && d.due c t.itime) then d.releaseMissing c m n else d

/-- CELL_RELEASE (R15, R105): the next sequence number of a running output is released, or its content is missing. -/
def execCellRelease (dt ctx : Nat) (s : State) : Host.Outcome State Fault Refusal :=
  s.actMem fun d => d.live dt fun d =>
    if ctx < 4096 ∨ 8192 ≤ ctx ∨ !d.running ctx then d
    else
      -- cells of a pending source whose release time has passed are not released
      let d := d.sdiAhead ctx (match (d.flowSt ctx).pend with
        | some m => (m.slots.filter (fun t => d.due ctx t.itime)).filterMap (fun t => t.kept.map (fun k => k.2))
        | none => [])
      let d := d.setFlow ctx (fun x => { x with pend := x.pend.map (fun m =>
        { m with slots := m.slots.filter (fun t => !d.due ctx t.itime) }) })
      match (d.flowSt ctx).cur.bind Merge.next with
      | none => d
      | some n =>
        let d := d.settleWindow ctx n true
        match (d.flowSt ctx).cur with
        | none => d
        | some m => d.releaseNext ctx m n

/-- The span without kept cells that loses a source: one frame period of FORMAT, or 1 ms for an AUD output (R106). A PEER_IN context
goes by what its flow's member tells, never by its own FORMAT (R565). -/
def Dev.lossNs (d : Dev) (c : Nat) : Nat :=
  if d.kind c = 8 then
    (match Assoc.find d.remote (d.rd D.Flow.EFN c) with
     | some r => if r.type = 4 then 1000000 else Fmt.periodNs r.format
     | none => Fmt.periodNs 0)
  else if Kind.audio (d.kind c) || d.takenType c == 4 then 1000000 else Fmt.periodNs (d.format c)

/-- SOURCE_LOSS_TIMEOUT (R106, R62): an egress context that has kept no valid cell of its current source for the loss span sets
SOURCE_LOST and its output enters safe state; an ingress context in RUNNING with no source sets SOURCE_LOST. -/
def execSourceLossTimeout (dt ctx : Nat) (s : State) : Host.Outcome State Fault Refusal :=
  s.act fun d => d.live dt fun d =>
    if 8192 ≤ ctx ∨ !d.running ctx then d
    else if ctx < 4096 then
      (if (d.flowSt ctx).begun then d else d.flag D.FlowStatus.SOURCE_LOST ctx true)
    else if !d.past (d.flowSt ctx).keptAt (d.lossNs ctx) then d
    else
      let d := (d.flag D.FlowStatus.SOURCE_LOST ctx true).flag D.FlowStatus.EMITTING ctx false
      (d.substitutes ctx).enterSafe ctx Safe.noCells

end Sys2Proof.Machine
end

