-- ==== Sys2Proof/Machine/Kerf.lean ====
section
/-! DEFINITION. The kerf window (R75): the offset of a source at an output, and whether the source is timed. -/

namespace Sys2Proof.Machine

open Sys2Proof

/-- Is an SDI_OUT context TIMED (R147)? -/
def Dev.timedOut (d : Dev) (c : Nat) : Bool := d.kind c == 0x41 && d.on D.SdiTxCfg.TIMED (d.bindIx c)

/-- The part of a signed distance (ns × fps1001) that is left after the nearest whole number of frame periods. -/
def nearest (x : Int) : Int :=
  let p : Int := Fmt.period1001
  let r := x % p
  if p ≤ 2 * r then r - p else r

/-- The offset, in ns × fps1001 of FORMAT, from a frame boundary to the release of the nearest SWITCH_POINT cell of a source, one
of whose SWITCH_POINT cells has this ITIME. -/
def Dev.offsetAt (d : Dev) (c boundary itime : Nat) : Int :=
  nearest ((sdiff (itime + d.delayNow c) (boundary % 2 ^ 48) 48) * (Fmt.fps (d.format c) : Nat))

/-- The ITIME of a SWITCH_POINT cell of a source, where one has been sent into this device's planes. -/
def Dev.switchOf (d : Dev) (efn : Nat) : Option Nat := (d.ingressOf efn).bind (fun c => (d.flowSt c).lastSwitch)

/-- Is the egress kind one whose takes make the kerf check (Table 03.4)? -/
def Dev.kerfChecked (d : Dev) (c : Nat) : Bool :=
  let k := d.kind c
  k == 0x41 || k == 0x42 || k == 0x43 || k == 0x46 || k == 0x47 || k == 0x49 || (k == 0x4C && d.takenType c != 4)

/-- R75: is a source a frame synchroniser's flow locked to the output's reference? -/
def Dev.fsLocked (d : Dev) (c efn : Nat) : Bool :=
  match d.originOf efn with
  | none => false
  | some s =>
    let t := d.bindIx s % 64
    let b := bitsOf (d.bindIx s) 8 2 == 2
    d.kind s == 9 && d.timedOut c && d.on D.TileStatus.FS_LOCKED t
      && (if b then d.on D.FsCfgB.ENABLE t && d.rd D.FsCfgB.DPLL t == d.rd D.SdiTxCfg.DPLL (d.bindIx c)
          else d.on D.FsCfgA.ENABLE t && d.rd D.FsCfgA.DPLL t == d.rd D.SdiTxCfg.DPLL (d.bindIx c))

/-- R75: the offset of a source at an output, where it can be measured. -/
def Dev.offsetOf (d : Dev) (c efn : Nat) : Option Int :=
  if !d.kerfChecked c ∨ !d.running c ∨ d.fsLocked c efn ∨ (!d.timedOut c ∧ (d.source c).isNone) then none
  else
    match (d.flowSt c).boundary, d.switchOf efn with
    | some b, some t => some (d.offsetAt c b t)
    | _, _ => none

/-- Does an offset lie within ±KERF_LINES lines? -/
def Dev.inKerf (d : Dev) (c : Nat) (x : Int) : Bool :=
  decide (x.natAbs * Fmt.totalLines (d.format c) ≤ d.rd D.Xp.KERF_LINES 0 * Fmt.period1001)

/-- R75: is a source timed at an output? One whose offset cannot be measured counts as timed. -/
def Dev.isTimed (d : Dev) (c efn : Nat) : Bool :=
  match d.offsetOf c efn with
  | none => true
  | some x => d.inKerf c x

/-- An offset in whole ns. -/
def Dev.offsetNs (d : Dev) (c : Nat) (x : Int) : Int := if Fmt.fps (d.format c) = 0 then 0 else x.fdiv (Fmt.fps (d.format c))

/-- Show whether the current source of an output lies outside the window. -/
def Dev.showUntimed (d : Dev) (c : Nat) (b : Bool) : Dev :=
  let d := d.flag D.XpTable.UNTIMED (c - 4096) b
  if d.kind c = 0x41 then d.each (d.lanes c) (fun d l => d.flag D.SdiTxStatus.UNTIMED l b) else d

end Sys2Proof.Machine
end

