-- ==== Sys2Proof/Machine/Reach.lean ====
section
/-! DEFINITION. Paths between members (R17, R71, R223, R563): what a path has room for. Every member tells the others what its groups and
planes have left and what delays its outputs need (DESIGN CHOICE: the spec says no more than that the planner and the checks know it). -/

namespace Sys2Proof.Machine

open Sys2Proof

/-! ## What this member's outputs use -/

/-- The sources of an egress context: its current one and those of its pending changes. -/
def Dev.sourcesOf (d : Dev) (c : Nat) : List Nat :=
  (match d.source c with | some e => [e] | none => []) ++ d.xp.pend.filterMap (fun p => if p.1 = c then p.2.source else none)
    ++ d.xp.asks.filterMap (fun a => if a.output = c then a.pend.source else none)

/-- The enabled egress contexts that hold a flow as their current or pending source: its destinations here. -/
def Dev.takers (d : Dev) (efn : Nat) : List Nat :=
  d.enabled.filter (fun c => decide (4096 ≤ c) && (d.sourcesOf c).contains efn)

/-- DEST_MAP of the flow's ingress context (Table 02.9): this member's bit while an output here holds the flow; in a PEER_IN context the
members of its valid PATH fields as well. -/
def Dev.showDest (d : Dev) (efn : Nat) : Dev :=
  match d.ingressOf efn with
  | none => d
  | some c =>
    let path := d.rd D.Flow.PATH c
    let far := if d.kind c = 8 then sumOf (fun m => if bit path (4 * m + 3) then 2 ^ m else 0) (List.range 8) else d.rd D.Flow.DEST_MAP c
    d.wr D.Flow.DEST_MAP c (setBits far d.me 1 (ofBool (d.takers efn != [])))

/-- R71: do all outputs that hold a flow have the delay that two hops require? -/
def Dev.twoHops (d : Dev) (efn : Nat) : Bool :=
  match d.sourceInfo efn with
  | none => true
  | some r => (d.takers efn).all (fun c => decide (Fmt.requirement r.fill 2 ≤ d.playout c))

/-! ## What the members have left -/

/-- What the ledger has left on a group, for an SDI flow or another (R28, R222). -/
def Dev.groupLeft (d : Dev) (g : Nat) (sdi : Bool) : Nat :=
  d.rd D.GroupStatus.CAPACITY_MBPS g - (if sdi then d.groupReserved g else d.groupUse g)

/-- What the ledger has left in the planes, for an SDI flow or another. -/
def Dev.planeLeft (d : Dev) (sdi : Bool) : Nat :=
  planeCapacity - (if sdi then sumOf (fun c => d.rd D.Flow.RESERVED_MBPS c) d.reserving else d.planeUse)

/-- The playout delay of an output under PER_OUTPUT (R68). -/
def Dev.ownDelay (d : Dev) (c : Nat) : Nat :=
  let v := d.rd D.OutCfg.DELAY_NS (c - 4096)
  if v = 0 then 1600 else v

/-- What a member tells the others, 55 bytes: for each mesh group what it has left for SDI flows and for others, plus 1, or 0 where the group
is not UP; the same of the planes; the largest requirement of its outputs' sources, and whether DELAY_NS of one is below it. -/
def Dev.reportValue (d : Dev) : Nat :=
  let needs := ((d.enabled.filter (fun c => decide (4096 ≤ c))).map (fun c => (d.sourcesOf c).map (fun e => (c, d.required e)))).flatten
  pack (((List.range 7).map (fun g =>
      if d.groupUp g then [(24, d.groupLeft g true + 1), (24, d.groupLeft g false + 1)] else [(48, 0)])).flatten
    ++ [(32, d.planeLeft true), (32, d.planeLeft false), (32, needs.foldl (fun a x => max a x.2) 0),
        (8, ofBool (needs.any (fun x => decide (d.ownDelay x.1 < x.2))))])

namespace Report
/-- What group g has left, plus 1. -/
def left (v g : Nat) (sdi : Bool) : Nat := bitsOf v (440 - 48 * g - (if sdi then 24 else 48)) 24
def planes (v : Nat) (sdi : Bool) : Nat := bitsOf v (if sdi then 72 else 40) 32
/-- The largest requirement. -/
def needs (v : Nat) : Nat := bitsOf v 8 32
/-- Is a DELAY_NS below its requirement? -/
def short (v : Nat) : Bool := bitsOf v 0 8 == 1
end Report

/-- What is known of a member: what it told, or this device's own state; 0 where nothing has come. -/
def Dev.reportOf (d : Dev) (m : Nat) : Nat := if m = d.me then d.reportValue else (Assoc.find d.dwl.reports m).getD 0

/-- The other members of the ensemble. -/
def Dev.others (d : Dev) : List Nat := (List.range d.ensSize).filter (fun m => m != d.me)

/-- Is a group of member a toward member b UP, as member a tells? -/
def Dev.linked (d : Dev) (a b : Nat) : Bool :=
  let n := d.ensSize
  (groupsOf n ((b + n - a) % n)).any (fun g => Report.left (d.reportOf a) g false != 0)

/-- A message of class 0x0A goes to a member over a group toward it; where none is UP, through another member, which passes it on
(DESIGN CHOICE: byte 0 is then 7 and byte 1 the member). -/
def Dev.post (d : Dev) (m : Nat) (b : Bytes) : Dev :=
  match d.groupTo m with
  | some g => d.sendMsg g 0x0A b
  | none =>
    match (d.others.find? (fun r => r != m && (d.groupTo r).isSome && d.linked r m)).bind d.groupTo with
    | some g => d.sendMsg g 0x0A ⟨b.len + 2, (7 * 256 + m) * 256 ^ b.len + b.val⟩
    | none => d

/-- What this member tells the others. -/
def Dev.reportBytes (d : Dev) (v : Nat) : Bytes := ⟨57, 5 * 2 ^ 448 + d.me * 2 ^ 440 + v % 2 ^ 440⟩

/-- A member tells the others what has changed. -/
def Dev.report (d : Dev) : Dev :=
  if d.ensSize ≤ 1 then d
  else
    let v := d.reportValue
    if d.dwl.told = v then d
    else (d.setDwl (fun x => { x with told := v })).each d.others (fun d m => d.post m (d.reportBytes v))

/-! ## Paths -/

/-- Does the PATH of a flow's originating record bring it to member b from member a: from the origin to the VIA of a valid field, or from
there to the field's member? -/
def crosses (path efn a b : Nat) : Bool :=
  if efn / 8192 = a then (pathVias path).contains b else bit path (4 * b + 3) && bitsOf path (4 * b) 3 == a && a != b

/-- The most that a group from member a toward member b has left for a flow, where one has enough for it; a flow that crosses already needs
nothing more. -/
def Dev.hopRoom (d : Dev) (r : Remote) (efn a b : Nat) : Option Nat :=
  if crosses r.path efn a b then some (2 ^ 24)
  else
    let n := d.ensSize
    let sdi := r.kind = 1
    (groupsOf n ((b + n - a) % n)).foldl (fun best g =>
      let l := Report.left (d.reportOf a) g sdi
      if l ≤ r.mbps then best else some (match best with | none => l | some x => max x l)) none

/-- Has a relay room for a flow: a hop to it, one from it, and its planes? -/
def Dev.relayRoom (d : Dev) (r : Remote) (efn v m : Nat) : Option Nat :=
  match d.hopRoom r efn (efn / 8192) v, d.hopRoom r efn v m with
  | some x, some y =>
    if crosses r.path efn (efn / 8192) v ∨ r.mbps ≤ Report.planes (d.reportOf v) (r.kind = 1) then some (min x y) else none
  | _, _ => none

/-- R223: the member a flow is sent to first on its way to a member: the member itself where the direct group has room, else, where two
hops are allowed (R71), the relay with the most free capacity on both hops, the lowest on a tie. -/
def Dev.pathFor (d : Dev) (efn m : Nat) (two : Bool) : Option Nat :=
  match d.sourceInfo efn with
  | none => none
  | some r =>
    if (d.hopRoom r efn (efn / 8192) m).isSome then some m
    else if !two then none
    else (((List.range d.ensSize).filter (fun v => v != m && v != efn / 8192)).foldl (fun (best : Option (Nat × Nat)) v =>
      match d.relayRoom r efn v m, best with
      | some x, some b => if b.2 < x then some (v, x) else some b
      | some x, none => some (v, x)
      | none, b => b) none).map (fun b => b.1)

/-- Does a flow of another member reach this one by a path already? -/
def Dev.pathHere (d : Dev) (efn : Nat) : Bool :=
  match d.sourceInfo efn with
  | some r => bit r.path (4 * d.me + 3)
  | none => false

/-- A flow is charged, in what a member has told, on the group from it toward another that has the most left. -/
def Dev.chargeHop (d : Dev) (r : Remote) (efn a b : Nat) : Dev :=
  let n := d.ensSize
  let sdi := r.kind = 1
  let v := d.reportOf a
  if crosses r.path efn a b ∨ a = d.me then d
  else
    match (groupsOf n ((b + n - a) % n)).foldl (fun (best : Option Nat) g =>
        if Report.left v g sdi ≤ r.mbps then best
        else match best with
          | none => some g
          | some h => if Report.left v h sdi < Report.left v g sdi then some g else some h) none with
    | none => d
    | some g =>
      let s := Report.left v g true - r.mbps
      let o := if sdi then min (Report.left v g false) s else Report.left v g false - r.mbps
      let v' := setBits (setBits v (440 - 48 * g - 24) 24 s) (440 - 48 * g - 48) 24 o
      d.setDwl (fun x => { x with reports := Assoc.insertAt natLt (Assoc.erase x.reports a) a v' })

/-- R26: has every flow of a list a path to this member with room, all of them together? -/
def Dev.pathsFit (d : Dev) : List Nat → Bool
  | [] => true
  | e :: t =>
    if d.pathHere e then d.pathsFit t
    else
      match d.sourceInfo e, d.pathFor e d.me true with
      | some r, some v =>
        let d := d.chargeHop r e (e / 8192) v
        (if v = d.me then d else d.chargeHop r e v d.me).pathsFit t
      | none, _ => d.pathsFit t
      | _, none => false

/-- Flows of other members that outputs here hold and that no context brings in yet: each needs a path and a PEER_IN context. -/
def Dev.unbrought (d : Dev) : List Nat :=
  (((d.enabled.filter (fun c => decide (4096 ≤ c))).map d.sourcesOf).flatten.filter (fun e => e / 8192 != d.me && (d.ingressOf e).isNone)).eraseDups

/-- The same flows, with those of the salvo changes prepared here (R90). -/
def Dev.awaited (d : Dev) : List Nat :=
  let prepared := (d.xp.slots.map (fun e => match e.2.part with | some p => p.changes.filterMap (fun c => c.2.source) | none => [])).flatten
  (d.unbrought ++ prepared.filter (fun e => e / 8192 != d.me && (d.ingressOf e).isNone)).eraseDups

/-- The plane reservation of a flow of another member, and whether it is an SDI flow. -/
def Dev.farRate (d : Dev) (efn : Nat) : Nat × Bool := match d.sourceInfo efn with | some r => (r.mbps, r.kind == 1) | none => (0, false)

/-- The requirement of a source for a change (R69, R71): by the path it has, or by the path the planner would choose. -/
def Dev.takeRequired (d : Dev) (efn : Nat) : Nat :=
  match d.sourceInfo efn with
  | none => 0
  | some r =>
    if (d.originOf efn).isSome ∨ d.rd D.Ens.MODE 0 = 1 ∨ d.pathHere efn then d.required efn
    else Fmt.requirement r.fill (match d.pathFor efn d.me true with | some v => if v = d.me then 1 else 2 | none => 1)

end Sys2Proof.Machine
end

