-- ==== Sys2Proof/Machine/Plan.lean ====
section
/-! DEFINITION. The path planner (R43, R223 to R225): pairs and their homes on the headstock, the plan's orders to the members, the
PEER_IN contexts and PATH fields they make. Messages of class 0x0A are laid out here (DESIGN CHOICE): byte 0 says what it is (0 a path
asked for, 1 an order, 2 a flow announced, 3 a path given up, 4 the headstock's playout policy, 5 what a member has left, 6 under MODE 1 a
destination of a flow, 7 a message to pass on), bytes 1 and 2 the flow, or of 5 byte 1 the member. -/

namespace Sys2Proof.Machine

open Sys2Proof

/-! ## Contexts that the device itself makes -/

/-- The highest-numbered IDLE context from a number down, among n. -/
def Dev.idleFrom (d : Dev) (top : Nat) : Nat → Option Nat
  | 0 => none
  | n + 1 => if d.rd D.Flow.STATE top = 0 ∧ !d.on D.Flow.ENABLE top then some top else d.idleFrom (top - 1) n

/-- A flow record that the device itself writes. -/
def Dev.ownFlow (d : Dev) (c kind efn bind format : Nat) : Dev :=
  let d := ((d.wr D.Flow.KIND c kind).wr D.Flow.EFN c efn).wr D.Flow.FORMAT c format
  let d := (d.wr D.FlowBind.CLASS c (Kind.bindClass kind)).wr D.FlowBind.INDEX c bind
  d.wr D.Flow.ENABLE c 1

/-! ## Homes -/

/-- The member a pair is sent to first: its home, or the member itself where the home is the origin or the member. -/
def PlanPair.via (p : PlanPair) (n : Nat) : Nat :=
  if 128 ≤ p.colour then p.colour - 128
  else
    let h := p.colour % (max 1 n)
    if h = p.efn / 8192 ∨ h = p.member then p.member else h

/-- Is a colour free at an origin, and at a destination? -/
def planFreeAt (l : List PlanPair) (origin : Bool) (m c : Nat) : Bool :=
  l.all (fun p => p.colour != c || (if origin then p.efn / 8192 else p.member) != m)

/-- The pairs of an alternating path from a member on, of colours a and b in turn. -/
def planChain (l : List PlanPair) : Nat → Bool → Nat → Nat → Nat → List PlanPair
  | 0, _, _, _, _ => []
  | k + 1, origin, m, a, b =>
    match l.find? (fun p => p.colour == a && (if origin then p.efn / 8192 else p.member) == m) with
    | none => []
    | some p => p :: planChain l k (!origin) (if origin then p.member else p.efn / 8192) b a

/-- May a pair's cells take the way its colour says: the hops have room, and two hops are allowed (R71)? -/
def Dev.planMay (d : Dev) (p : PlanPair) : Bool :=
  match d.sourceInfo p.efn with
  | none => false
  | some r =>
    let v := p.via d.ensSize
    let two := p.two && (d.rd D.Xp.DELAY_POLICY 0 != 1 || decide (Fmt.requirement r.fill 2 ≤ d.rd D.Xp.UNIFORM_DELAY_NS 0))
    if v = p.member then (d.hopRoom r p.efn (p.efn / 8192) v).isSome else two && (d.relayRoom r p.efn v p.member).isSome

/-- The plan with the colours a and b swapped along one alternating path from a pair's member, so that a is free for it (R224). -/
def planSwap (l : List PlanPair) (m a b : Nat) : List PlanPair :=
  let path := planChain l 256 false m a b
  l.map (fun p => if path.contains p then { p with colour := if p.colour = a then b else a } else p)

/-- R223, R224: the plan with a new pair. An SDI pair takes a colour free at both ends that its way has room for, a direct one first, else one
freed by a swap that leaves every pair a way it may take. Any other pair, and an SDI pair that finds none, goes direct where that has room,
else by the relay with the most (R223). None where no way has room. -/
def Dev.planAdd (d : Dev) (l : List PlanPair) (efn m : Nat) (two : Bool) : Option (List PlanPair) :=
  let n := d.ensSize
  let s := efn / 8192
  let pair := fun (c : Nat) => (⟨efn, m, c, two⟩ : PlanPair)
  let other := (d.pathFor efn m two).map (fun v => l ++ [pair (128 + v)])
  if (match d.sourceInfo efn with | some r => r.kind != 1 | none => true) then other
  else
    let cs := List.range 128
    let both := cs.filter (fun c => planFreeAt l true s c && planFreeAt l false m c && d.planMay (pair c))
    match both.find? (fun c => (pair c).via n == m), both.head? with
    | some c, _ => some (l ++ [pair c])
    | none, some c => some (l ++ [pair c])
    | none, none =>
      match cs.find? (planFreeAt l true s), cs.find? (planFreeAt l false m) with
      | some a, some b =>
        let l' := planSwap l m a b
        if d.planMay (pair a) && (l'.filter (fun p => !l.contains p)).all (fun p => d.planMay p) then some (l' ++ [pair a]) else other
      | _, _ => other

/-! ## Orders -/

/-- The 16 bytes that tell of a flow: kind, type, FORMAT, reservation, fill time, PATH. -/
def Remote.bytes (r : Remote) : Nat :=
  r.kind * 2 ^ 120 + r.type * 2 ^ 112 + r.format * 2 ^ 96 + r.mbps * 2 ^ 64 + r.fill * 2 ^ 32 + r.path

/-- A flow as 16 bytes tell it. -/
def Remote.ofBytes (v : Nat) : Remote :=
  ⟨bitsOf v 120 8, bitsOf v 112 8, bitsOf v 96 16, bitsOf v 64 32, bitsOf v 32 32, bitsOf v 0 32⟩

/-- PATH of a member for a flow: at the origin every pair's field, at a relay the fields of the pairs relayed there. -/
def planPath (l : List PlanPair) (n efn m : Nat) : Nat :=
  sumOf (fun p => if p.efn = efn ∧ (efn / 8192 = m ∨ (p.via n = m ∧ p.member ≠ m)) then
    (8 + (if efn / 8192 = m then p.via n else p.member)) * 2 ^ (4 * p.member) else 0) l

/-- The crossings a member receives a flow after, and the member it comes from: none where it does not receive it. -/
def planHops (l : List PlanPair) (n efn m : Nat) : Option (Nat × Nat) :=
  match l.find? (fun p => p.efn == efn && p.member == m) with
  | some p => if p.via n = m then some (1, efn / 8192) else some (2, p.via n)
  | none => if l.any (fun p => p.efn == efn && p.via n == m) then some (1, efn / 8192) else none

/-- The record of a PEER_IN context goes. -/
def Dev.endPeer (d : Dev) (efn : Nat) : Dev :=
  match d.peerOf efn with
  | none => d
  | some c => if d.on D.FlowStatus.PLANNER_OWNED c then ((d.wr D.Flow.ENABLE c 0).flowCommit c).reroute efn [] else d

/-- R43, R565: the planner writes BIND, FORMAT and the reservation of a PEER_IN context that stands; its run goes on (R57). -/
def Dev.replanPeer (d : Dev) (c : Nat) (group : Option Nat) (format : Nat) : Dev :=
  let d := d.wr D.Flow.FORMAT c format
  let d := match group with | some g => d.wr D.FlowBind.INDEX c g | none => d
  let d := d.wr D.Flow.RESERVED_MBPS c (d.reservation c)
  d.setFlow c (fun x => { x with conf := d.conf c })

/-- FORMAT of a flow, its own or another member's. -/
def Dev.formatOf (d : Dev) (efn : Nat) : Nat := match d.sourceInfo efn with | some r => r.format | none => 0

/-- A flow that this device originates is announced to every other member, or its end. -/
def Dev.announce (d : Dev) (efn : Nat) : Dev :=
  let v := match d.originOf efn with
    | some _ => 2 ^ 128 + (match d.sourceInfo efn with | some r => r.bytes | none => 0)
    | none => 0
  d.each d.others (fun d m => d.post m ⟨20, 2 * 2 ^ 152 + efn * 2 ^ 136 + v⟩)

/-- An order of the plan acts on this member: hops 0xFF ends a path, 0 is for the origin; `info` tells of the flow. -/
def Dev.planApply (d : Dev) (efn hops frm path : Nat) (info : Nat) : Dev :=
  match d.originOf efn with
  | some c =>
    let d := (d.wr D.Flow.PATH c path).wr D.Flow.DEST_MAP c (sumOf (fun m => if bit path (4 * m + 3) then 2 ^ m else 0) (List.range 8))
    (((d.showDest efn).reroute efn (pathVias path)).announce efn).report
  | none =>
    if hops = 0xFF then (d.endPeer efn).report
    else
      let d := { d with remote := Assoc.insertAt natLt (Assoc.erase d.remote efn) efn (Remote.ofBytes info) }
      let d := match d.peerOf efn with
        | some c => if d.on D.FlowStatus.PLANNER_OWNED c then d.replanPeer c (d.groupTo frm) (Remote.ofBytes info).format else d
        | none =>
          match d.idleFrom 4095 4096 with
          | none => d
          | some c =>
            let d := (d.ownFlow c 0x08 efn ((d.groupTo frm).getD 0) (Remote.ofBytes info).format).flag D.FlowStatus.PLANNER_OWNED c true
            d.flowCommit c
      match d.peerOf efn with
      | some c => ((((d.wr D.Flow.PATH c path).showDest efn).showRelay c).reroute efn (pathVias path)).report
      | none => d

/-- The order for a flow goes to a member, this one or another; it tells of the flow with the PATH the plan gives its origin. -/
def Dev.planOrder (d : Dev) (efn m : Nat) : Dev :=
  let l := d.dwl.plan
  let n := d.ensSize
  let h := if efn / 8192 = m then (0, 0) else (planHops l n efn m).getD (0xFF, 0)
  let path := planPath l n efn m
  let info := match d.sourceInfo efn with | some r => ({ r with path := planPath l n efn (efn / 8192) } : Remote).bytes | none => 0
  if m = d.me then d.planApply efn h.1 h.2 path info
  else d.post m ⟨25, 1 * 2 ^ 192 + efn * 2 ^ 176 + h.1 * 2 ^ 168 + h.2 * 2 ^ 160 + path * 2 ^ 128 + info⟩

/-- Pairs a member originates, a link group as many as it has links. -/
def Dev.pairsOf (d : Dev) (s : Nat) : Nat :=
  sumOf (fun p => if p.efn / 8192 = s then max 1 (Fmt.links ((d.formatOf p.efn))) else 0) d.dwl.plan

/-- The plan becomes another: PAIRS_MAX and REPLANS follow, and every member of a flow whose paths changed gets its order. -/
def Dev.planTo (d : Dev) (l : List PlanPair) (efn : Nat) : Dev :=
  let old := d.dwl.plan
  let n := d.ensSize
  let moved := l.filter (fun p => old.any (fun q => q.efn == p.efn && q.member == p.member && q.via n != p.via n))
  let links := sumOf (fun p => max 1 (Fmt.links ((d.formatOf p.efn)))) moved
  let flows := efn :: ((moved.map (fun p => p.efn)).eraseDups.filter (fun e => e != efn))
  let seen (l : List PlanPair) (e : Nat) := (List.range 8).filter (fun m => e / 8192 == m || (planHops l n e m).isSome)
  let d := d.setDwl (fun x => { x with plan := l })
  let d := d.add D.Ens.REPLANS 0 links
  let most := (List.range n).foldl (fun a s => max a (d.pairsOf s)) 0
  let d := d.wr D.Ens.PAIRS_MAX 0 (min 1024 most)
  d.each flows (fun d e => d.each ((seen old e ++ seen l e).eraseDups) (fun d m => d.planOrder e m))

/-- The headstock plans a path of a flow to a member, or takes one back. A member that asks again has its order again. -/
def Dev.plan (d : Dev) (efn m : Nat) (want two : Bool) : Dev :=
  let l := d.dwl.plan
  let this := fun (p : PlanPair) => p.efn == efn && p.member == m
  if want then
    if m = efn / 8192 ∨ d.ensSize ≤ m then d
    else if l.any this then
      let d := d.setDwl (fun x => { x with plan := l.map (fun p => if this p then { p with two := two } else p) })
      -- a way of two hops that the outputs no longer allow is given up for a direct one, where there is room for it
      if two || l.any (fun p => this p && p.via d.ensSize == m) then d.planOrder efn m
      else match d.planAdd (l.filter (fun p => !this p)) efn m false with
        | some l' => d.planTo l' efn
        | none => d.planOrder efn m
    else match d.planAdd l efn m two with
      | some l' => d.planTo l' efn
      | none => d
  else if l.any this then d.planTo (l.filter (fun p => !this p)) efn else d

/-- This member asks the headstock for a path of a flow, or gives one up; the headstock answers itself. -/
def Dev.askPlan (d : Dev) (efn : Nat) (want : Bool) : Dev :=
  let two := d.twoHops efn
  if d.on D.Straps.HEAD 0 then d.plan efn d.me want two
  else d.post 0 ⟨5, (if want then 0 else 3) * 2 ^ 32 + efn * 2 ^ 16 + d.me * 2 ^ 8 + ofBool two⟩

/-- The outputs that hold a flow have changed: DEST_MAP follows, and for another member's flow the planner is asked for a path or told that it
is no longer needed; under MODE 1 the flow's member is told (log 25). -/
def Dev.flowUse (d : Dev) (efn : Nat) : Dev :=
  let d := d.showDest efn
  let held := d.takers efn != []
  if (d.originOf efn).isSome ∨ efn / 8192 = d.me then d
  else if d.rd D.Ens.MODE 0 = 1 then d.post (efn / 8192) ⟨5, 6 * 2 ^ 32 + efn * 2 ^ 16 + d.me * 2 ^ 8 + ofBool held⟩
  else if held then d.askPlan efn true
  else match d.peerOf efn with
    | some c => if d.on D.FlowStatus.PLANNER_OWNED c then d.askPlan efn false else d
    | none => d

/-- R72: running outputs whose playout delay has changed keep the old one until their next frame boundary; `o` is the device before. -/
def Dev.holdDelays (o d : Dev) : Dev :=
  d.each (d.enabled.filter (fun c => decide (4096 ≤ c) && d.running c && d.playout c != o.playout c)) (fun d c =>
    let was := o.delayNow c
    d.setFlow c (fun x => { x with oldDelay := some was }))

/-- R43: under planner path planning a PEER_IN context is the planner's: one that no output here needs, or that another context makes
superfluous, is removed; for the others a path is asked for. -/
def Dev.adoptPeer (d : Dev) (c : Nat) : Dev :=
  let efn := d.rd D.Flow.EFN c
  let d := d.flag D.FlowStatus.PLANNER_OWNED c true
  if d.peerOf efn = some c ∧ (d.takers efn ≠ [] ∨ d.rd D.Flow.PATH c ≠ 0) then d.flowUse efn
  else (d.wr D.Flow.ENABLE c 0).flowCommit c

/-- Another member's flows that outputs here hold. -/
def Dev.farSources (d : Dev) : List Nat :=
  (((d.enabled.filter (fun c => decide (4096 ≤ c))).map d.sourcesOf).flatten.filter (fun e => e / 8192 != d.me)).eraseDups

/-- The headstock tells a member its DELAY_POLICY and UNIFORM_DELAY_NS (R68). -/
def Dev.sharePolicy (d : Dev) (g : Nat) : Dev :=
  if d.on D.Straps.HEAD 0 then
    d.sendMsg g 0x0A ⟨8, 4 * 2 ^ 56 + d.rd D.Xp.DELAY_POLICY 0 * 2 ^ 32 + d.rd D.Xp.UNIFORM_DELAY_NS 0⟩
  else d

/-- A group toward another member has come up: the member learns the flows this device originates, what this device has left, from the
headstock its playout policy, and which flows this device holds that concern it. -/
def Dev.greet (d : Dev) (g : Nat) : Dev :=
  if 7 ≤ g then d
  else
    let p := d.rd D.GroupStatus.PEER_MEMBER g
    let own := d.enabled.filter (fun c => decide (c < 4096) && Kind.originates (d.kind c))
    let d := (d.each own (fun d c =>
      let efn := d.rd D.Flow.EFN c
      let info := match d.sourceInfo efn with | some r => r.bytes | none => 0
      d.sendMsg g 0x0A ⟨20, 2 * 2 ^ 152 + efn * 2 ^ 136 + 2 ^ 128 + info⟩)).sharePolicy g
    let d := d.sendMsg g 0x0A (d.reportBytes d.reportValue)
    d.each (d.farSources.filter (fun e => if d.rd D.Ens.MODE 0 = 1 then e / 8192 == p else p == 0)) (fun d e => d.flowUse e)

/-- The paths of the flows that leave this device follow its groups (R563). -/
def Dev.followGroups (d : Dev) : Dev :=
  d.each ((d.listed D.Flow.PATH 4096).filter (fun c => d.on D.Flow.ENABLE c)) (fun d c => d.reroute (d.rd D.Flow.EFN c) (pathVias (d.rd D.Flow.PATH c)))

/-- A flow is announced by its member, or its end. A flow that outputs here hold has its path asked for; the headstock gives the member
its PATH again where it has lost it. -/
def Dev.flowKnown (d : Dev) (efn : Nat) (here : Bool) (info : Nat) : Dev :=
  if efn / 8192 = d.me then d
  else if !here then { d with remote := Assoc.erase d.remote efn }
  else
    let r := Remote.ofBytes info
    let d := { d with remote := Assoc.insertAt natLt (Assoc.erase d.remote efn) efn r }
    let d := match d.peerOf efn with
      | some c => if d.on D.FlowStatus.PLANNER_OWNED c then d.replanPeer c none r.format else d
      | none => d
    let d := if d.rd D.Ens.MODE 0 = 0 ∧ d.takers efn != [] ∧ !d.pathHere efn then d.flowUse efn else d
    let l := d.dwl.plan
    if d.on D.Straps.HEAD 0 ∧ d.rd D.Ens.MODE 0 = 0 ∧ l.any (fun p => p.efn == efn) ∧ r.path ≠ planPath l d.ensSize efn (efn / 8192) then
      d.planOrder efn (efn / 8192)
    else d

/-- Under MODE 1 a member tells that its outputs hold a flow of this device, or no longer do. -/
def Dev.destTold (d : Dev) (efn m : Nat) (held : Bool) : Dev :=
  match d.originOf efn with
  | some c => if d.rd D.Ens.MODE 0 = 1 ∧ m ≠ d.me then d.wr D.Flow.DEST_MAP c (setBits (d.rd D.Flow.DEST_MAP c) m 1 (ofBool held)) else d
  | none => d

/-- A path plan message for this member. -/
def Dev.planHere (d : Dev) (b : Bytes) : Dev :=
  let efn := b.at_ 1 * 256 + b.at_ 2
  let heads := d.on D.Straps.HEAD 0 && d.rd D.Ens.MODE 0 == 0
  match b.at_ 0 with
  | 0 => if heads then d.plan efn (b.at_ 3) true (b.at_ 4 == 1) else d
  | 3 => if heads then d.plan efn (b.at_ 3) false false else d
  | 1 => if d.rd D.Ens.MODE 0 = 0 then d.planApply efn (b.at_ 3) (b.at_ 4) (bitsOf b.val 128 32) (bitsOf b.val 0 128) else d
  | 2 => d.flowKnown efn (b.at_ 3 == 1) (bitsOf b.val 0 128)
  | 4 => if d.on D.Straps.HEAD 0 then d
    else
      let n := Dev.holdDelays d ((d.wr D.Xp.DELAY_POLICY 0 (b.at_ 3)).wr D.Xp.UNIFORM_DELAY_NS 0 (bitsOf b.val 0 32))
      -- whether a path of two hops will do is told anew (R71)
      n.each (if n.rd D.Ens.MODE 0 = 0 then n.farSources else []) (fun d e => d.flowUse e)
  | 5 => d.setDwl (fun x => { x with reports := Assoc.insertAt natLt (Assoc.erase x.reports (b.at_ 1)) (b.at_ 1) (bitsOf b.val 0 440) })
  | 6 => d.destTold efn (b.at_ 3) (b.at_ 4 == 1)
  | _ => d

/-- A path plan message is received: one for another member goes on to it. -/
def Dev.planIn (d : Dev) (b : Bytes) : Dev :=
  if b.at_ 0 ≠ 7 then d.planHere b
  else if b.at_ 1 = d.me then d.planHere (b.drop 2)
  else match d.groupTo (b.at_ 1) with
    | some g => d.sendMsg g 0x0A (b.drop 2)
    | none => d

end Sys2Proof.Machine
end

