-- ==== Sys2Proof/Machine/TakeCore.lean ====
section
/-! DEFINITION. The take engine: the take record log, the checks of a change, inserted tiles, path requests, pending changes, and
what happens at the application instant (R67 to R83, R97 to R99, R304, R305, R324, R357). -/

namespace Sys2Proof.Machine

open Sys2Proof

/-- Change the take engine's state. -/
def Dev.setXp (d : Dev) (f : XpSt → XpSt) : Dev := { d with xp := f d.xp }

/-- An output's entry in the crosspoint changes, and the flow-table shadow with it (R115). -/
def Dev.setSource (d : Dev) (c : Nat) (source : Option Nat) : Dev :=
  ((d.flag D.XpTable.VALID (c - 4096) source.isSome).wr D.XpTable.SOURCE (c - 4096) (source.getD 0)).tablePut (c - 4096)
    (match source with | some e => e + 1 | none => 0)

/-! ## The take record (R97 to R99) -/

/-- A take record element (Table 03.14). -/
def takeElem (output : Nat) (source : Option Nat) (fs : Bool) : Nat :=
  output % 65536 * 2 ^ 48 + source.getD 0 % 65536 * 2 ^ 32 + ofBool source.isSome * 2 ^ 31 + ofBool fs * 2 ^ 30

/-- The element of a change. -/
def Pend.elem (p : Pend) (output : Nat) : Nat := takeElem output p.source p.fs

/-- The element of an output in the crosspoint with every change applied whose instant has passed: a route that a restart took up counts as
applied (R98); none where the output has never had a source. -/
def Dev.crossElem (d : Dev) (c : Nat) : Option Nat :=
  match d.xp.pend.find? (fun p => p.1 == c && p.2.back) with
  | some p => some (p.2.elem c)
  | none =>
    if d.on D.XpTable.VALID (c - 4096) then some (takeElem c (some (d.rd D.XpTable.SOURCE (c - 4096))) (d.xp.fs.contains c))
    else if d.xp.cut.contains c then some (takeElem c none false) else none

/-- The crosspoint, in ascending OUTPUT order. -/
def Dev.crosspoint (d : Dev) : List Nat := (List.range 4096).filterMap (fun n => d.crossElem (4096 + n))

/-- The bytes of a base copy (Table 03.12). -/
def TBase.image (b : TBase) : Bytes :=
  let n := 8 * b.elems.length
  let head := pack [(32, 0x544B5244), (16, 1), (16, b.elems.length), (64, b.gen), (64, b.time), (8, b.member), (8, b.card), (272, 0)]
  let body := ofBytes (b.elems.map (bytesOf 8)).flatten
  ⟨64 + n + 4, ((head * 2 ^ 32 + crc32c (bytesOf 60 head)) * 256 ^ n + body) * 2 ^ 32 + crc32c (bytesOf n body)⟩

/-- The base copy that bytes hold, where MAGIC, LAYOUT, HEADER_CRC and BODY_CRC are correct (R98). -/
def TBase.ofImage (v : Bytes) : Option TBase :=
  let n := bytesAt v.len v.val 6 2
  if v.len < 68 ∨ v.len ≠ 68 + 8 * n then none
  else if bytesAt v.len v.val 0 4 ≠ 0x544B5244 ∨ bytesAt v.len v.val 4 2 ≠ 1 ∨ bytesAt v.len v.val 60 4 ≠ crc32c (bytesOf 60 (bytesAt v.len v.val 0 60))
      ∨ bytesAt v.len v.val (64 + 8 * n) 4 ≠ crc32c (bytesOf (8 * n) (bytesAt v.len v.val 64 (8 * n))) then none
  else some ⟨bytesAt v.len v.val 8 8, bytesAt v.len v.val 16 8, bytesAt v.len v.val 24 1, bytesAt v.len v.val 25 1,
    (List.range n).map (fun i => bytesAt v.len v.val (64 + 8 * i) 8)⟩

/-- The bytes of a log record (Table 03.13). -/
def TRec.image (r : TRec) : Bytes :=
  let n := 8 * r.elems.length
  let head := pack [(16, 0x5444), (8, r.kind), (8, r.slot), (8, r.epoch), (24, 0), (64, r.gen), (64, r.time), (16, r.elems.length), (16, 0)]
  let body := ofBytes (r.elems.map (bytesOf 8)).flatten
  ⟨32 + n, (head * 2 ^ 32 + crc32c (bytesOf (28 + n) (head * 256 ^ n + body))) * 256 ^ n + body⟩

/-- The log record that bytes hold, where MAGIC and CRC are correct. -/
def TRec.ofImage (pos : Nat) (v : Bytes) : Option TRec :=
  let n := bytesAt v.len v.val 24 2
  if v.len < 32 ∨ v.len ≠ 32 + 8 * n then none
  else if bytesAt v.len v.val 0 2 ≠ 0x5444
      ∨ bytesAt v.len v.val 28 4 ≠ crc32c (bytesOf (28 + 8 * n) (bytesAt v.len v.val 0 28 * 256 ^ (8 * n) + bytesAt v.len v.val 32 (8 * n))) then none
  else some ⟨bytesAt v.len v.val 2 1, bytesAt v.len v.val 3 1, bytesAt v.len v.val 4 1, bytesAt v.len v.val 8 8, bytesAt v.len v.val 16 8,
    (List.range n).map (fun i => bytesAt v.len v.val (32 + 8 * i) 8), pos⟩

/-- The valid records of the log, oldest first. -/
def TakeLog.recs (l : TakeLog) : List TRec := l.log.filterMap (fun r => TRec.ofImage r.1 r.2)

/-- Is base copy 1 the newer one: valid, and of the greater GENERATION where both are (R98)? -/
def TakeLog.newer1 (l : TakeLog) : Bool :=
  match TBase.ofImage l.base0, TBase.ofImage l.base1 with
  | some a, some b => decide (a.gen < b.gen)
  | none, some _ => true
  | _, none => false

/-- The newer valid base copy; none where neither is valid. -/
def TakeLog.base (l : TakeLog) : Option TBase := TBase.ofImage (if l.newer1 then l.base1 else l.base0)

/-- Bytes a record fills in the log: a header and its elements, up to the next 32-byte boundary (Table 03.13). -/
def recBytes (n : Nat) : Nat := ceilDiv (32 + 8 * n) 32 * 32

/-- Bytes of the log ring: 224 sectors of 4 KiB. -/
def ringBytes : Nat := 917504

/-- Does a record still describe a change not yet applied (R99)? -/
def Dev.recLive (d : Dev) (recs : List TRec) (r : TRec) : Bool :=
  if r.kind = 1 then
    d.xp.pend.any (fun p => p.2.slot.isNone && r.elems == [p.2.elem p.1] && (p.2.time == r.time || p.2.back))
      || d.xp.asks.any (fun a => r.elems == [a.pend.elem a.output] && a.pend.time == r.time)
  else if r.kind = 2 then
    let decided := recs.find? (fun x => (x.kind == 3 || x.kind == 4) && x.slot == r.slot && x.epoch == r.epoch && decide (r.gen < x.gen))
    match decided with
    | none => true
    | some x => x.kind == 3 && (decide (0 < sdiff r.time d.now 64) || d.xp.pend.any (fun p => p.2.slot == some (r.slot, r.epoch)))
  else if r.kind = 3 then
    (decide (0 < sdiff r.time d.now 64) || d.xp.pend.any (fun p => p.2.slot == some (r.slot, r.epoch)))
      && recs.any (fun x => x.kind == 2 && x.slot == r.slot && x.epoch == r.epoch && x.pos / 4096 == r.pos / 4096)
  else false

/-- Write a record at the head of the log. -/
def TakeLog.put (l : TakeLog) (kind slot epoch time : Nat) (elems : List Nat) : TakeLog :=
  { l with log := l.log ++ [(l.head, (⟨kind, slot, epoch, l.gen + 1, time, elems, l.head⟩ : TRec).image)]
           head := l.head + recBytes elems.length, gen := l.gen + 1 }

/-- The base copy that is written now (Table 03.12): the crosspoint, with a GENERATION. -/
def Dev.baseNow (d : Dev) (gen : Nat) : TBase := ⟨gen, d.now, d.rd D.Ens.MEMBER 0, d.rd D.Straps.PLANE_B 0, d.crosspoint⟩

/-- R99: the oldest sector of the log is erased: what it holds of changes not yet applied is copied to the head, and a base copy is
written over the older one. -/
def Dev.eraseSector (d : Dev) : Dev :=
  match d.takeLog.log with
  | [] => d
  | r :: _ =>
    let sector := r.1 / 4096
    let recs := d.takeLog.recs
    let old := recs.filter (fun x => x.pos / 4096 == sector)
    let l := { d.takeLog with log := d.takeLog.log.filter (fun x => x.1 / 4096 != sector) }
    let l := (old.filter (d.recLive recs)).foldl (fun l x => l.put x.kind x.slot x.epoch x.time x.elems) l
    let top := old.foldl (fun m x => max m x.gen) (match l.base with | some b => b.gen | none => 0)
    let image := (d.baseNow top).image
    let l := if l.newer1 then { l with base0 := image } else { l with base1 := image }
    { d with takeLog := l }.wr D.XpCount.RECORD_GENERATION 0 l.gen

/-- Would n more bytes overwrite the oldest record? -/
def TakeLog.full (l : TakeLog) (n : Nat) : Bool :=
  match l.log with
  | [] => false
  | r :: _ => decide (r.1 / 4096 * 4096 + ringBytes < l.head + n)

/-- Erase sectors until there is room. -/
def Dev.makeRoom (d : Dev) (n : Nat) : Nat → Dev
  | 0 => d
  | k + 1 => if d.takeLog.full n then d.eraseSector.makeRoom n k else d

/-- A record becomes durable. -/
def Dev.logTake (d : Dev) (kind slot epoch time : Nat) (elems : List Nat) : Dev :=
  let d := d.makeRoom (recBytes elems.length) 224
  let l := d.takeLog.put kind slot epoch time elems
  { d with takeLog := l }.wr D.XpCount.RECORD_GENERATION 0 l.gen

/-! ## Sources -/

/-- The FORMAT of a source. -/
def Dev.sourceFormat (d : Dev) (efn : Nat) : Nat := match d.sourceInfo efn with | some r => r.format | none => 0

/-- Does a tile's output reach one of its inputs through any chain of k tiles, from a flow on (R304)? -/
def Dev.reaches (d : Dev) (tile : Nat) : Nat → Nat → Bool
  | 0, _ => false
  | k + 1, efn =>
    match d.originOf efn with
    | none => false
    | some s =>
      d.kind s == 9 && (d.bindIx s % 64 == tile ||
        d.enabled.any (fun c => d.kind c == 0x49 && d.bindIx c % 64 == d.bindIx s % 64 &&
          (match d.feed c with | some e => d.reaches tile k e | none => false)))

/-- Check 4 of Table 03.6: an enabled originating context on some member, and no loop of tiles. -/
def Dev.takeCheck4 (d : Dev) (c efn : Nat) : Bool :=
  (d.sourceInfo efn).isSome && !(d.kind c == 0x49 && d.reaches (d.bindIx c % 64) 64 efn)

/-- The cell type an output takes, 0 where it takes any (RECORD, and the SDI, VID or CMP inputs of a tile). -/
def Dev.outType (d : Dev) (c : Nat) : Nat :=
  if d.kind c = 0x49 then (if bitsOf (d.bindIx c) 8 2 = 1 then 5 else 0) else Kind.cellType (d.kind c)

/-- Does a type suit a tile input (R283, R284): SDI or VID on the channel A main input, ANC on its ancillary input; channel B takes
SDI, VID and CMP? -/
def Dev.tileSuits (d : Dev) (c t : Nat) : Bool :=
  match bitsOf (d.bindIx c) 8 2 with
  | 0 => t == 1 || t == 2
  | 1 => t == 5
  | _ => t == 1 || t == 2 || t == 3

/-- Is a gateway needed between a source's cell type and an output's? -/
def gatewayNeeded (src out : Nat) : Bool := (src == 1 && out == 2) || (src == 2 && out == 1)

/-- Channels, 96 kHz flag and bytes per channel of an audio source (R357). -/
def Dev.audioShape (d : Dev) (efn : Nat) : Option (Nat × Bool × Nat) :=
  match d.originOf efn with
  | none => none
  | some s =>
    let n := if d.kind s = 4 ∨ d.kind s = 5 then d.rd D.NetRxCfg.CHANNELS s else d.rd D.BundleCfg.CHANNELS (d.bindIx s)
    some (n, d.rate96 s, if n = 0 then 0 else d.setBytes s / n)

/-- Check 5 of Table 03.6 (R132, R324, R357). The shape of an audio source of another member is not known here and passes. -/
def Dev.takeCheck5 (d : Dev) (c efn : Nat) : Bool :=
  let k := d.kind c
  let f := d.format c
  let g := d.sourceFormat efn
  let st := d.sourceType efn
  let ot := d.outType c
  let frame := Fmt.raster f == Fmt.raster g && Fmt.rate f == Fmt.rate g
  if k = 0x4B then
    st == 4 && (match d.audioShape efn with
      | some x => x == (d.rd D.BundleCfg.CHANNELS (d.bindIx c), d.rate96 c, if d.on D.BundleCfg.AES3 (d.bindIx c) then 4 else 3)
      | none => true)
  else if st = 4 ∨ ot = 4 then st == 4 && (ot == 4 || k == 0x4C)
  else if k = 0x49 then d.tileSuits c st && frame && (st == 5 || st == 3 || Fmt.sampling f == Fmt.sampling g) && (st != 1 || Fmt.mapping f == Fmt.mapping g)
  else if k = 0x4C then st != 0 && frame
  else if st = 1 ∧ ot = 1 then frame && Fmt.sampling f == Fmt.sampling g && Fmt.mapping f == Fmt.mapping g
  else if gatewayNeeded st ot then frame && Fmt.sampling f == Fmt.sampling g
  else st == ot && frame && (k != 0x4A || Fmt.sampling f == Fmt.sampling g)

/-- Check 6 of Table 03.6: with host-assisted planning, a path to this member. -/
def Dev.takeCheck6 (d : Dev) (efn : Nat) : Bool :=
  d.rd D.Ens.MODE 0 != 1 || (d.originOf efn).isSome || d.pathHere efn

/-! ## Instants (R74, R78) -/

/-- 0x0C00.09 TAKE_LEAD_NS. -/
def takeLead : Nat := 20000

/-- R78: the earliest time a change may apply. -/
def Pend.earliest (p : Pend) : Nat :=
  if p.time = 0 ∨ sdiff p.time (p.accept + takeLead) 64 < 0 then p.accept + takeLead else p.time

/-- The first instant of a grid of frame periods through `base` at or after a time. -/
def gridFrom (base : Int) (fps : Nat) (t : Nat) : Nat :=
  let p : Int := Fmt.period1001
  let f : Int := max 1 fps
  let n := -(Int.fdiv (-((t - base) * f)) p)
  (base - Int.fdiv (-(n * p)) f).toNat

/-- Does an output apply changes at frame boundaries of its own, and not at those of the new source (R74, Table 03.4): SDI and ST 2022-6
outputs but a TRANSPARENT one without a source, a TILE_IN or RECORD that carries SDI while its source gives it boundaries, a layer input by its
head? -/
def Dev.ownInstants (d : Dev) (c : Nat) : Bool :=
  let k := d.kind c
  let fed := (d.flowSt c).cur.isSome && !d.on D.FlowStatus.SOURCE_LOST c
  if Kind.sdiOut k then d.timedOut c || (d.flowSt c).cur.isSome
  else k == 0x4A || ((k == 0x49 || k == 0x4C) && d.takenType c == 1 && fed)

/-- Frames per second × 1,001 of an output's frame boundaries: of its FORMAT, for a layer input of its head's. -/
def Dev.instantFps (d : Dev) (c : Nat) : Nat :=
  if d.kind c = 0x4A then
    (match d.headOut (d.rd D.Layer.HEAD (d.bindIx c)) with
     | some o => Fmt.fps (d.format o)
     | none => 0)
  else Fmt.fps (d.format c)

/-- The application instant an output is expected to have for a change to a flow at or after a time: by its frame boundary, or the
frame starts of the source; the time itself where neither is known. -/
def Dev.expectedAt (d : Dev) (c : Nat) (efn : Option Nat) (t : Nat) : Nat :=
  let fps := d.instantFps c
  if !d.running c ∨ fps = 0 then t
  else if d.ownInstants c then
    (match (d.flowSt c).boundary with
     | some b => gridFrom b fps t
     | none => t)
  else if d.kerfChecked c then
    (match efn.bind d.switchOf with
     | some x => gridFrom (d.extend48 x + d.delayNow c : Nat) fps t
     | none => t)
  else t

/-- Check 9 of Table 03.6, R90: does a change of an output at an instant meet a committed or prepared salvo change, or for a salvo
change a pending take, at the same instant? -/
def Dev.takeConflict (d : Dev) (c t : Nat) (slot : Option (Nat × Nat)) : Bool :=
  d.xp.pend.any (fun p => p.1 == c && (p.2.slot.isSome || slot.isSome) && p.2.slot != slot && d.expectedAt c p.2.feed p.2.earliest == t)
    || d.xp.slots.any (fun e => match e.2.part with
      | some x => some (e.1, x.epoch) != slot && x.own == some (0, 0xFFFF) && d.rd D.Salvo.STATE e.1 != 4
          && x.changes.any (fun p => p.1 == c && d.expectedAt c p.2.feed p.2.earliest == t)
      | none => false)

/-! ## Inserted tiles (R81, R305) -/

/-- What a change of an output to a source inserts. -/
def Dev.insertNeed (d : Dev) (c efn : Nat) (fs : Bool) : Bool × Bool :=
  (fs && !d.isTimed c efn, gatewayNeeded (d.sourceType efn) (d.outType c))

/-- The tile a take would use: the lowest in TAKE_TILE_MASK that is available and has no context bound. -/
def Dev.tileFor (d : Dev) : Option Nat :=
  let busy := d.boundTiles
  (List.range 64).find? (fun t => bit (d.rd D.Tiles.TAKE_TILE_MASK 0) t && !d.on D.TileStatus.UNAVAILABLE t && !busy.contains t
    && (d.tileSt t).forOutput.isNone)

/-- A tile is inserted before an output: its contexts are bound, its channel configured. None where no tile or pair of contexts is free. -/
def Dev.insertTile (d : Dev) (c efn : Nat) (sync gateway : Bool) : Option (Dev × Insert) :=
  match d.tileFor, d.idleFrom 4095 4096, d.idleFrom 8191 4096 with
  | some t, some o, some i =>
    let f := d.format c
    let path := if gateway then 0 else 2
    let phase := ((d.rd D.SdiTxCfg.OUT_PHASE_NS (d.bindIx c) : Int) - d.playout c) % (max 1 (Fmt.periodNs f) : Nat)
    let fsBits := (d.rd D.SdiTxCfg.DPLL (d.bindIx c), phase.toNat)
    let d := (d.ownFlow o 0x09 (d.fsEfnBase + t) (tileIx t path) f).ownFlow i 0x49 0 (tileIx t path) (d.sourceFormat efn)
    let d := if gateway then
        let d := d.wr D.ProcCfg.OUT_SDI t (ofBool (d.outType c == 1))
        if sync then (((d.wr D.FsCfgA.DPLL t fsBits.1).wr D.FsCfgA.DELAY_FRAMES t 0).wr D.FsCfgA.LOSS t 2).wr D.FsCfgA.PHASE_NS t fsBits.2
          |>.wr D.FsCfgA.ENABLE t 1
        else d.wr D.FsCfgA.ENABLE t 0
      else (((d.wr D.FsCfgB.DPLL t fsBits.1).wr D.FsCfgB.DELAY_FRAMES t 0).wr D.FsCfgB.LOSS t 2).wr D.FsCfgB.PHASE_NS t fsBits.2
          |>.wr D.FsCfgB.ENABLE t 1
    let d := (d.flag D.TileStatus.INSERTED t true).setTile t (fun x => { x with forOutput := some c, insB := !gateway })
    let d := d.wake (fun i => i == (4, d.rd D.Tile.PHYS_TILE t))
    let d := d.setSource i (some efn)
    let d := d.setFlow i (fun x => { x with cur := some (d.newMerge i efn) })
    some ((d.flowCommit o).flowCommit i, ⟨t, sync, gateway⟩)
  | _, _, _ => none

/-- A tile a take inserted is freed: its contexts stop, its channel returns to its defaults. -/
def Dev.freeTile (d : Dev) (t : Nat) : Dev :=
  if (d.tileSt t).forOutput.isNone then d
  else
    let cs := d.enabled.filter (fun c => (d.kind c == 0x09 || d.kind c == 0x49) && d.bindIx c % 64 == t)
    let d := d.each cs (fun d c =>
      let d := (d.wr D.Flow.ENABLE c 0).flowCommit c
      if 4096 ≤ c then d.setSource c none else d)
    let d := ((d.wr D.FsCfgA.ENABLE t 0).wr D.FsCfgB.ENABLE t 0).wr D.ProcCfg.OUT_SDI t 0
    ((d.flag D.TileStatus.INSERTED t false).setTile t (fun x => { x with forOutput := none })).settle

/-! ## The checks (Table 03.6) -/

/-- Check 12: planes and frame store after the insertion, with the path of a flow not yet here; under the planner the way to this member
has room (R224), beside the flows that other changes here have been promised (R90). -/
def Dev.takeLedger (before after : Dev) (efn : Nat) : Bool :=
  let held := before.awaited
  let all := if (before.ingressOf efn).isSome || held.contains efn then held else held ++ [efn]
  ((before.originOf efn).isSome || before.rd D.Ens.MODE 0 == 1 || before.pathHere efn || before.pathsFit all
    || (!before.pathsFit held && (before.pathFor efn before.me true).isSome)) &&
  admits planeCapacity (before.planeUseWith (held.map before.farRate)) (after.planeUseWith (all.map before.farRate))
    && admits before.storeCapacity before.storeUse after.storeUse

/-- Checks 3 to 12 on a change: the failing status, or the device with its tile inserted and the change. -/
def Dev.takeChecks (d : Dev) (c : Nat) (source : Option Nat) (fs : Bool) (time : Nat) (slot : Option (Nat × Nat)) : Except Nat (Dev × Pend) :=
  let p : Pend := ⟨source, source, fs, time, d.now, none, slot, false, false, false⟩
  let at_ := d.expectedAt c source p.earliest
  if c < 4096 ∨ 8192 ≤ c ∨ !d.on D.Flow.ENABLE c then .error St.STATE
  else
  match source with
  | none => if d.takeConflict c at_ slot then .error St.COMMIT_CONFLICT else .ok (d, p)
  | some e =>
    if !d.takeCheck4 c e then .error St.STATE
    else if !d.takeCheck5 c e then .error St.FORMAT
    else if !d.takeCheck6 e then .error St.STATE
    else if d.playout c < d.takeRequired e then .error St.RANGE
    else if fs && !d.timedOut c then .error St.STATE
    else if d.takeConflict c at_ slot then .error St.COMMIT_CONFLICT
    else if !fs && !d.isTimed c e then .error St.UNTIMED
    else
      let need := d.insertNeed c e fs
      if !need.1 && !need.2 then (if Dev.takeLedger d d e then .ok (d, p) else .error St.BANDWIDTH)
      else
        match d.insertTile c e need.1 need.2 with
        | none => .error St.RESOURCE
        | some (d', i) =>
          if (d'.grantable : Int) < d'.blocksShort d'.wants then .error St.RESOURCE
          else if !Dev.takeLedger d d' e then .error St.BANDWIDTH
          else .ok (d'.settle, { p with feed := some (d.fsEfnBase + i.tile), ins := some i })

/-! ## Pending changes -/

/-- The change of an output that applies first. -/
def Dev.firstPend (d : Dev) (c : Nat) : Option Pend :=
  (d.xp.pend.filter (fun p => p.1 == c)).foldl (fun b p => match b with
    | none => some p.2
    | some x => if sdiff p.2.earliest x.earliest 64 < 0 then some p.2 else b) none

/-- XP_TABLE and the pending merge follow the first pending change; a change that names the current source keeps its anchor (R58). -/
def Dev.showPend (d : Dev) (c : Nat) : Dev :=
  let n := c - 4096
  match d.firstPend c with
  | none =>
    let d := (((d.flag D.XpTable.PENDING n false).flag D.XpTable.PENDING_DISCONNECT n false).wr D.XpTable.PENDING_SOURCE n 0).wr D.XpTable.PENDING_TIME n 0
    let d := (d.flag D.XpTable.FROM_SALVO n false).wr D.XpTable.SLOT n 0
    d.setFlow c (fun x => { x with pend := none, sdiNext := {} })
  | some p =>
    let d := ((d.flag D.XpTable.PENDING n true).flag D.XpTable.PENDING_DISCONNECT n p.source.isNone).wr D.XpTable.PENDING_SOURCE n (p.source.getD 0)
    let d := ((d.wr D.XpTable.PENDING_TIME n p.time).flag D.XpTable.FROM_SALVO n p.slot.isSome).wr D.XpTable.SLOT n (match p.slot with | some s => s.1 | none => 0)
    let cur := (d.flowSt c).cur
    let m := p.feed.map (d.newMerge c)
    let keep := fun (x : FlowSt) => match x.pend, m with | some q, some m => q.efn == m.efn | _, _ => false
    let next := fun (x : FlowSt) => match m with
      | none => none
      | some m => if (match cur with | some u => u.efn == m.efn | none => false) then none
          else if keep x then x.pend else some m
    d.setFlow c (fun x => { x with pend := next x, sdiNext := if keep x then x.sdiNext else {} })

/-- A single take is accepted (R78, R79): it replaces the pending take of its output, whose inserted tile is freed. -/
def Dev.acceptTake (d : Dev) (c : Nat) (p : Pend) : Dev :=
  let p := { p with accept := d.now }
  let old := d.xp.pend.filter (fun x => x.1 == c && x.2.slot.isNone)
  let d := if old.isEmpty then d else d.sat D.XpCount.TAKES_REPLACED 0 1
  let d := d.setXp (fun x => { x with pend := x.pend.filter (fun y => !(y.1 == c && y.2.slot.isNone)) ++ [(c, p)] })
  let d := d.each (old.filterMap (fun x => x.2.ins.map (fun i => i.tile))) (fun d t => d.freeTile t)
  let d := d.each ((p.source.toList ++ old.filterMap (fun x => x.2.source)).eraseDups) (fun d e => d.flowUse e)
  -- the new take's source holds no anchor yet, though the replaced one named it too (R58)
  let d := d.setFlow c (fun x => { x with pend := none })
  ((d.wr D.Take.LAST_ACCEPT_TIME 0 d.now).showPend c).report

/-! ## The application instant (R83) -/

/-- Is a change's earliest time reached? -/
def Dev.pendDue (d : Dev) (p : Pend) : Bool := decide (0 ≤ sdiff d.now p.earliest 64)

/-- Is now an application instant of an output for a change (Table 03.4): at a frame boundary of its own where it has those, else at the
release of the first cell of the new source that begins a frame, or is an audio cell? A DISCONNECT of an output without boundaries of its own has
no new source to wait for and applies at any time (DESIGN CHOICE). -/
def Dev.atInstant (d : Dev) (c : Nat) (p : Pend) : Bool :=
  let k := d.kind c
  let x := d.flowSt c
  let none_ := p.source.isNone
  if d.ownInstants c || (Kind.sdiOut k && none_) then x.boundary == some d.now
  else if none_ then true
  else
    match x.pend with
    | none => x.boundary == some d.now || !d.kerfChecked c
    | some m =>
      m.slots.any (fun t => d.due c t.itime && (match t.kept with
        | some y => y.2.type == 4 || (if y.2.type = 1 then y.2.switchPoint else y.2.sof)
        | none => false))

/-- A salvo change held in doubt reaches its instant (R92): the output is put in safe state. -/
def Dev.holdDoubt (d : Dev) (c : Nat) : Dev :=
  if d.on D.XpTable.INDOUBT (c - 4096) then d else (d.flag D.XpTable.INDOUBT (c - 4096) true).enterSafe c Safe.indoubt

/-- A change of a salvo has applied: with the last of this device the slot is APPLIED (Table 03.9). -/
def Dev.salvoApplied (d : Dev) (slot : Nat) : Dev :=
  let x := nget d.xp.slots {} slot
  let first := x.applied.getD d.now
  let d := d.setXp (fun y => { y with slots := nput y.slots {} slot { x with applied := some first } })
  if d.xp.pend.any (fun p => match p.2.slot with | some s => s.1 == slot | none => false) then d
  else
    let d := (d.wr D.Salvo.STATE slot 5).wr D.Salvo.APPLIED_TIME slot first
    (d.setXp (fun y => { y with slots := nput y.slots {} slot { nget y.slots {} slot with part := none, applied := none } })).add D.XpCount.SALVOS_APPLIED 0 1

/-- R83: the change applies. -/
def Dev.applyPend (d : Dev) (c : Nat) (p : Pend) : Dev :=
  let n := c - 4096
  let prev := d.source c
  let inserted := if d.on D.XpTable.FS_INSERTED n || d.on D.XpTable.GATEWAY_INSERTED n then some (d.rd D.XpTable.TILE n) else none
  let untimed := match p.feed with | some e => p.ins.isNone && !d.isTimed c e && d.kerfChecked c | none => false
  let d := d.setXp (fun x =>
    let others := x.fs.filter (fun o => o != c)
    let apart := x.cut.filter (fun o => o != c)
    let late := x.unmet.filter (fun o => o != c)
    { x with pend := x.pend.filter (fun y => !(y.1 == c && y.2 == p)), fs := if p.source.isSome && p.fs then c :: others else others
             cut := if p.source.isNone then c :: apart else apart, unmet := if p.again then c :: late else late })
  let d := d.setSource c p.source
  let d := ((d.flag D.XpTable.FS_INSERTED n (match p.ins with | some i => i.sync | none => false)).flag D.XpTable.GATEWAY_INSERTED n
    (match p.ins with | some i => i.gateway | none => false)).wr D.XpTable.TILE n (match p.ins with | some i => i.tile | none => 0xFF)
  let d := (d.wr D.XpTable.HOPS n (match p.source with | some e => d.hopsTo e | none => 0)).flag
    D.XpTable.INDOUBT n false
  let same := match (d.flowSt c).cur, p.feed with | some m, some e => m.efn == e | _, _ => false
  let next := if same then (d.flowSt c).cur else match (d.flowSt c).pend, p.feed with
    | some m, some e => if m.efn = e then some m else some (d.newMerge c e)
    | _, some e => some (d.newMerge c e)
    | _, none => none
  let d := if d.running c then d.setFlow c (fun x => { x with cur := next, keptAt := d.wall, timed := p.feed.isSome && !untimed }) else d
  let d := if d.running c && !same then
      (d.setFlow c FlowSt.sdiSwap).setTx c (fun x => { x with switchAt := none }) else d
  let d := if same then d else (d.flag D.FlowStatus.ALIGNED c (d.flowSt c).sdi.aligned).flag D.FlowStatus.ANCHORED c false
  let d := match next.bind (fun m => m.anchor) with
    | some a => if d.running c then d.showAnchor c a else d
    | none => d
  let d := (d.flag D.FlowStatus.SOURCE_LOST c false).dropWhy c Safe.indoubt
  let d := if p.source.isSome then d.dropWhy c Safe.disconnect
    else if d.kind c = 0x4A then d else d.enterSafe c Safe.disconnect
  let d := if untimed then
      -- BLACK from now until the source's next frame start, on a TIMED output until the source is timed
      let d := d.setFlow c (fun x => { x with waitTimed := true })
      let d := if Kind.netTx (d.kind c) && !Kind.sdiOut (d.kind c) then d.txSafe c false else d
      ((d.sat D.XpCount.UNTIMED_AT_BOUNDARY 0 1).showUntimed c true).raise Src.XC_TAKE_UNTIMED c
    else d.showUntimed c false
  let d := d.add D.XpCount.TAKES_APPLIED 0 1
  let d := match inserted with
    | some t => if (match p.ins with | some i => i.tile == t | none => false) then d else d.freeTile t
    | none => d
  let d := match p.source with | some e => d.showDest e | none => d
  let d := match prev with | some e => if p.source = some e then d else d.flowUse e | none => d
  let d := (d.layerApply c p.source.isNone).audioApply c p.source p.accept
  let d := ((d.showPend c).leaveSafe c).report
  match p.slot with
  | some s => d.salvoApplied s.1
  | none => d

/-- A change that a restart took up has its tile inserted once its source is known: a synchroniser it was taken with wherever the output is
TIMED, since the offset cannot be measured then (R35, DEDUCED), a gateway where the types call for it. -/
def Dev.takeUp (d : Dev) (c : Nat) (p : Pend) : Dev :=
  match p.source with
  | none => d
  | some e =>
    if !p.again || (d.sourceInfo e).isNone then d
    else
      let put := fun (d : Dev) (q : Pend) => (d.setXp (fun x => { x with pend := x.pend.map (fun y => if y.1 = c ∧ y.2 = p then (c, q) else y) })).showPend c
      let sync := p.fs && d.timedOut c && !d.fsLocked c e
      let gate := gatewayNeeded (d.sourceType e) (d.outType c)
      if !sync && !gate then put d { p with again := false }
      else
        match d.insertTile c e sync gate with
        | none => put d { p with again := false }
        | some (d', i) => put d'.settle { p with again := false, feed := some (d.fsEfnBase + i.tile), ins := some i }

/-- The tile of a restored source that was not known when its change applied is inserted at a frame boundary once it is known. -/
def Dev.insertLate (d : Dev) (c : Nat) : Dev :=
  match d.source c with
  | none => d
  | some e =>
    if !d.xp.unmet.contains c || (d.sourceInfo e).isNone then d
    else
      let d := d.setXp (fun x => { x with unmet := x.unmet.filter (fun o => o != c) })
      let sync := d.xp.fs.contains c && d.timedOut c && !d.fsLocked c e
      let gate := gatewayNeeded (d.sourceType e) (d.outType c)
      if !sync && !gate then d
      else
        match d.insertTile c e sync gate with
        | none => d
        | some (d', i) =>
          let d := (((d'.settle.wr D.XpTable.TILE (c - 4096) i.tile).flag D.XpTable.FS_INSERTED (c - 4096) sync).flag
            D.XpTable.GATEWAY_INSERTED (c - 4096) gate)
          d.setFlow c (fun x => { x with cur := some (d.newMerge c (d.fsEfnBase + i.tile)) })

/-- R311: a tile inserted before an output has failed, and at the output's frame boundary another is inserted, where one is free. -/
def Dev.insertAgain (d : Dev) (c : Nat) : Dev :=
  if !d.tileAgain.contains c then d
  else
    let d := { d with tileAgain := d.tileAgain.filter (fun x => x != c) }
    let n := c - 4096
    match d.source c with
    | none => d
    | some e =>
      let sync := d.on D.XpTable.FS_INSERTED n
      let gate := d.on D.XpTable.GATEWAY_INSERTED n
      let d := d.freeTile (d.rd D.XpTable.TILE n)
      (match d.insertTile c e sync gate with
       | none => d
       | some (d', i) =>
         let d := d'.settle.wr D.XpTable.TILE n i.tile
         d.setFlow c (fun x => { x with cur := some (d.newMerge c (d.fsEfnBase + i.tile)) }))

/-- At an application instant of an output, the first of its pending changes that is due applies; one of a salvo in doubt puts the output in
safe state (R83, R92). While the planes are rebuilt no instant counts: a change applies at the first one after (R116). -/
def Dev.applyDue (d : Dev) (c : Nat) : Dev :=
  match d.firstPend c with
  | none => d
  | some p =>
    if !d.pendDue p || !d.atInstant c p || d.rebuilding then d
    else if p.doubt then d.holdDoubt c
    else
      let d := d.takeUp c p
      match d.firstPend c with
      | some q => if q.feed = p.feed then d.applyPend c q else d
      | none => d

end Sys2Proof.Machine
end

