-- ==== Sys2Proof/Machine/Audio.lean ====
section
/-! DEFINITION. The audio matrix at work: positions, de-embedded samples, serial ports (R339 to R362). -/

namespace Sys2Proof.Machine

open Sys2Proof

/-! ## Reading the sources (R350, R358) -/

/-- Enter or leave SILENT (R350): the origin's flag, and AUD_UNDERRUN for its first channel at the entry; `now_` says that a channel turned
silent at this position, which is the entry of a serial port, that has no flag. -/
def Dev.showSilent (d : Dev) (o : Origin) (ch : Nat) (b now_ : Bool) : Dev :=
  match o with
  | .lane n => if b && !d.on D.AudLaneStatus.SILENT n then (d.flag D.AudLaneStatus.SILENT n true).raise Src.AUD_UNDERRUN ch
      else d.flag D.AudLaneStatus.SILENT n b
  | .bundle n => if b && !d.on D.BundleStatus.SILENT n then (d.flag D.BundleStatus.SILENT n true).raise Src.AUD_UNDERRUN ch
      else d.flag D.BundleStatus.SILENT n b
  | .port _ => if now_ then d.raise Src.AUD_UNDERRUN ch else d
  | .tone _ => d

/-- One source channel at position k: its word, and the channel afterwards. An unwritten position repeats the last sample, and is silent
after 48 of them. -/
def SrcCh.at_ (x : SrcCh) (k : Nat) : Nat × SrcCh × Bool :=
  match x.words.find? (fun w => w.1 == k) with
  | some w => (w.2, { x with words := x.words.filter (fun w => decide (k < w.1)), last := w.2, run := 0 }, true)
  | none =>
    let n := x.run + 1
    (if n ≤ 48 then x.last else 0, { x with words := x.words.filter (fun w => decide (k < w.1)), run := min n 50 }, false)

/-- Read position k from one fed channel; samples reach the level bars (R332). -/
def Dev.readCh (d : Dev) (k ch : Nat) (o : Origin) : Dev × Nat :=
  match o with
  | .tone t =>
    let v := Fix.tone (d.rd D.ToneCfg.FREQ_HZ t) (d.rd D.ToneCfg.LEVEL_CDB t) k
    (d.barSample ch v.natAbs, wordWith 0 v)
  | _ =>
    let r := (d.srcCh ch).at_ k
    let d := d.setSrc ch (fun _ => r.2.1)
    (if r.2.2 then d.barSample ch (wordSample r.1).natAbs else d, r.1)

/-- Read position k from every fed channel, in order: the words read. -/
def Dev.readAll (d : Dev) (k : Nat) : List (Nat × Origin) → Dev × List (Nat × Nat)
  | [] => (d, [])
  | (ch, o) :: t =>
    let r := d.readCh k ch o
    let q := r.1.readAll k t
    (q.1, (ch, r.2) :: q.2)

/-- The origins of a list, each once, with their channels. -/
def originsOf (l : List (Nat × Origin)) : List (Origin × List Nat) :=
  ((l.map (fun e => e.2)).eraseDups).map (fun o => (o, (l.filter (fun e => e.2 == o)).map (fun e => e.1)))

/-- After a position: an origin is SILENT while one of its channels reads silence for want of samples; a bundle counts the position
where a channel of it was not written. -/
def Dev.noteOrigin (d : Dev) (o : Origin) (chs : List Nat) : Dev :=
  let silent := chs.find? (fun c => decide (48 < (d.srcCh c).run))
  let d := match o with
    | .bundle n => if chs.any (fun c => decide (0 < (d.srcCh c).run)) then d.sat D.BundleStatus.UNDERRUNS n 1 else d
    | _ => d
  d.showSilent o (silent.getD 0) silent.isSome (chs.any (fun c => (d.srcCh c).run == 49) && !chs.any (fun c => (d.srcCh c).run == 50))

/-! ## Destination records (R342 to R346) -/

/-- The word of a source at the position read; silence for a channel that nothing feeds. -/
def wordOf (words : List (Nat × Nat)) (ch : Nat) : Nat := (Assoc.find words ch).getD 0

/-- Sample n of a fade of `len` between two words (R96); a channel with DATA set on either side cuts in the middle (R346). The bits
beside SAMPLE change in the middle (DESIGN CHOICE). -/
def mix (old new n len : Nat) : Nat :=
  let w := if 2 * n < len then old else new
  if wordData old || wordData new || n = 0 then w
  else
    let g := Fix.fade n len
    if wordSample old = wordSample new then wordWith w (wordSample new)
    else wordWith w (Fix.settle ((Fix.one - g) * wordSample old + g * wordSample new))

/-- Fades due to begin at position k begin, or wait where one runs; a waiting one is replaced (R348); a fade that has ended is
complete, and the waiting one begins. `fuel` bounds how often that happens at one position. -/
def Dev.turnFades (d : Dev) (r k : Nat) : Nat → Dev
  | 0 => d
  | fuel + 1 =>
    let x := d.destSt r
    match x.fade with
    | some f =>
      if f.start + f.len ≤ k then
        ((d.setDest r (fun x => { x with fade := none, sources := f.sources, delay := f.delay })).add D.Dest.FADES r 1).turnFades r k fuel
      else
        (match x.due.find? (fun g => decide (g.start ≤ k)) with
         | some g =>
           let d := if x.waiting.isSome then d.sat D.Dest.FADES_REPLACED r 1 else d
           (d.setDest r (fun x => { x with waiting := some g, due := x.due.filter (fun h => h != g) })).turnFades r k fuel
         | none => d)
    | none =>
      match x.waiting with
      | some g => (d.setDest r (fun x => { x with waiting := none, fade := some { g with start := k } })).turnFades r k fuel
      | none =>
        match x.due.find? (fun g => decide (g.start ≤ k)) with
        | some g => (d.setDest r (fun x => { x with due := x.due.filter (fun h => h != g), fade := some { g with start := k, len := g.start + g.len - k } })).turnFades r k fuel
        | none => d

/-- The amplitude of a GAINS item: −32,768 mutes (R344). -/
def gainAmp (v : Nat) : Int := if v = 0x8000 then 0 else Fix.amplitude (toInt 16 v)

/-- The amplitude of channel i at position k, along its ramp of 48 positions. -/
def DestSt.amp (x : DestSt) (i k : Nat) : Int :=
  let b := gainAmp (bitsOf x.gainTo (112 - 16 * i) 16)
  let n := k - x.gainAt
  if 48 ≤ n then b
  else
    let a := x.gainFrom.getD i Fix.one
    a + (b - a) * n / 48

/-- A gain change due at position k begins its ramp from the amplitudes reached. -/
def DestSt.turnGains (x : DestSt) (k : Nat) : DestSt :=
  match (x.gains.filter (fun g => decide (g.1 ≤ k))).getLast? with
  | some g => { x with gainFrom := (List.range 8).map (fun i => x.amp i k), gainTo := g.2, gainAt := k, gains := x.gains.filter (fun h => decide (k < h.1)) }
  | none => x

/-- A word after the gain, and whether it was cut at full scale. -/
def gained (a : Int) (w : Nat) : Nat × Bool :=
  if wordData w ∨ a = Fix.one then (w, false)
  else
    let v := Fix.settle (a * wordSample w)
    if 8388607 < v then (wordWith w 8388607, true) else if v < -8388608 then (wordWith w (-8388608), true) else (wordWith w v, false)

/-- The words of a line at a position; silence where it never held it. -/
def DestSt.lineAt (x : DestSt) (k : Int) : List Nat :=
  match x.line.find? (fun e => (e.1 : Int) == k) with
  | some e => e.2
  | none => [0, 0, 0, 0, 0, 0, 0, 0]

/-- R342: a record at position k. -/
def Dev.computeRecord (d : Dev) (words : List (Nat × Nat)) (r k : Nat) : Dev :=
  let d := (d.turnFades r k 6).setDest r (fun x => x.turnGains k)
  let x := d.destSt r
  let n := match x.fade with | some f => k - f.start | none => 0
  let len := match x.fade with | some f => f.len | none => 0
  let to_ := match x.fade with | some f => f.sources | none => x.sources
  let dTo := match x.fade with | some f => f.delay | none => x.delay
  let row := (List.range 8).map (fun i =>
    let a := wordOf words (x.sources.getD i 0xFFFF)
    let b := wordOf words (to_.getD i 0xFFFF)
    if x.fade.isNone then a else mix a b n len)
  let keep := max x.delay dTo
  let line := (k, row) :: x.line.filter (fun e => decide (k ≤ e.1 + keep) && e.1 != k)
  let x : DestSt := { x with line := line }
  let a := x.lineAt ((k : Int) - x.delay)
  let b := x.lineAt ((k : Int) - dTo)
  let y := (List.range 8).map (fun i => if x.delay = dTo then a.getD i 0 else mix (a.getD i 0) (b.getD i 0) n len)
  let z := (List.range 8).map (fun i => gained (x.amp i k) (y.getD i 0))
  let out := z.map (fun p => p.1)
  let x : DestSt := { x with hist := (k, out) :: x.hist.filter (fun e => decide (k ≤ e.1 + 8) && e.1 != k) }
  let d := d.setDest r (fun _ => x)
  let d := d.sat D.Dest.CLIPS r (countIf (fun p => p.2) z)
  let d := ((d.flag D.DestStatus.FADE_ACTIVE r x.fade.isSome).flag D.DestStatus.FADE_QUEUED r x.waiting.isSome).flag D.DestStatus.RAMPING r
    (decide (k < x.gainAt + 48) && (List.range 8).any (fun i => x.gainFrom.getD i Fix.one != gainAmp (bitsOf x.gainTo (112 - 16 * i) 16)))
  let d := d.flag D.DestStatus.ANY_SILENT r (x.sources.any (fun c => decide (48 < (d.srcCh c).run) && words.any (fun w => w.1 == c)))
  let d := d.wr D.Dest.CURRENT_SOURCES r (x.sources.foldl (fun v s => v * 65536 + s) 0)
  d.emit (.samples r k out)

/-! ## AUDIO_OUT (R356) -/

/-- A word as one channel of a sample set: 3 bytes, or 4 in the layout of ST 2110-31 (PRESUMED: AM824; parity over its 31 other bits,
the frame flag on even channels). -/
def setWord (aes : Bool) (ch w : Nat) : Bytes :=
  if aes then
    let b := ofBool (bit w 4) * 32 + ofBool (ch % 2 == 0) * 16 + ofBool (bit w 5) * 4 + ofBool (bit w 6) * 2 + ofBool (bit w 7)
    let v := b % 8 * 2 ^ 24 + w / 256
    let parity := sumOf (fun i => v / 2 ^ i % 2) (List.range 27) % 2
    ⟨4, (b + 8 * parity) * 2 ^ 24 + w / 256⟩
  else ⟨3, w / 256⟩

/-- Position k of an AUDIO_OUT context has been computed: its sample sets wait to be sent. The run starts with the first position
computed in RUNNING. -/
def Dev.bundleOut (d : Dev) (c k : Nat) : Dev :=
  if !d.running c then d
  else
    let b := d.bindIx c
    let m := 1 + d.rd D.BundleCfg.RATE_96K b
    let start := !(d.flowSt c).begun
    let d := if start then
        ((d.wr D.Flow.SEQ_NEXT c 0).flag D.FlowStatus.SOURCE_LOST c false).setFlow c (fun x => { x with begun := true, lastItime := none, base := some 0 })
      else d
    let one := fun j => (List.range (d.rd D.BundleCfg.CHANNELS b)).foldl
      (fun (a : Bytes) ch => a.app (setWord (d.on D.BundleCfg.AES3 b) ch (d.destWord (d.rd D.BundleCfg.BASE b + m * ch + j) k))) Bytes.none
    let sets := (List.range m).foldl (fun (a : Bytes) j => a.app (one j)) Bytes.none
    d.setBundle b (fun x =>
      let x := if start ∨ (d.flowSt c).lastItime.isNone ∧ x.sets = 0 then { x with rtp := m * k % 2 ^ 32, sets := 0, bytes := 0 } else x
      { x with sets := x.sets + m, bytes := x.bytes * 256 ^ sets.len + sets.val % 256 ^ sets.len })

/-! ## Audio follows video (R96, R347) -/

/-- Is the instant of an output's next change known before it comes? -/
def Dev.instantKnown (d : Dev) (c : Nat) (p : Pend) : Bool :=
  d.running c && d.instantFps c != 0 &&
    (if d.ownInstants c then (d.flowSt c).boundary.isSome
     else d.kerfChecked c && (p.feed.bind d.switchOf).isSome)

/-- A follower's fade begins before its leader's take applies, so that its centre falls on the instant. -/
def Dev.foresee (d : Dev) (r k : Nat) : Dev :=
  if !d.on D.Follow.ENABLE r then d
  else
    let c := d.leader r
    match d.firstPend c with
    | none => d
    | some p =>
      if p.doubt || !d.instantKnown c p then d
      else
        let f := d.followFade (d.followOf r p.source) (d.destSt r).target.2 p.accept (d.expectedAt c p.feed p.earliest)
        if k < f.start ∨ (d.destSt r).target.1 = f.sources then d else d.askFade r f

/-- The embedders of outputs in safe content read position k of their channels; what they read waits for the next safe frame (R353). -/
def Dev.embedRead (d : Dev) (k : Int) : Dev :=
  d.each (d.outputs.filter (fun c => d.kind c == 0x41 && d.running c && d.isSafe c)) (fun d c =>
    let l := d.bindIx c
    if d.embedGroups c = [] then d
    else d.setAudio (fun a => { a with embed := nput a.embed [] l ((nget a.embed [] l ++ [d.embedWords c k]).drop ((nget a.embed [] l).length + 1 - 4096)) }))

/-- AUDIO_POSITION (R342, R350, R356): at its instant the matrix reads the current position from every source channel and writes it to
every destination channel. -/
def execAudioPosition (dt : Nat) (s : State) : Host.Outcome State Fault Refusal :=
  s.act fun d => d.live dt fun d =>
    let k := d.audio.pos
    if d.now < instant k then d
    else
      let fed := d.fed
      let r := d.readAll k fed
      let d := (originsOf fed).foldl (fun d o => d.noteOrigin o.1 o.2) r.1
      let d := d.each d.destRecs (fun d n => (d.foresee n k).computeRecord r.2 n k)
      let d := d.each (d.enabled.filter (fun c => d.kind c == 0x0B)) (fun d c => d.bundleOut c k)
      (d.embedRead ((k : Int) - 4)).setAudio (fun a => { a with pos := k + 1 })

/-! ## De-embedders (R349, R351, R352) -/

/-- AUD_RECENTRE of an origin or target, for its first channel. -/
def Dev.recentre (d : Dev) (f : Fld) (n ch : Nat) : Dev := ((d.sat f n 1).sat D.Aud.RECENTRES 0 1).raise Src.AUD_RECENTRE ch

/-- May a lane's de-embedder write: locked, not frozen, not at 270 Mbit/s, and of a link group only the lane that BIND INDEX names? -/
def Dev.deembeds (d : Dev) (n : Nat) : Bool :=
  d.on D.DeembedCfg.ENABLE n && d.on D.SdiRxStatus.LOCKED n &&
    (match d.sdiCtx 1 n with
     | some c => n == d.bindIx c && !d.on D.FlowStatus.FROZEN c && Fmt.raster (d.format c) != 1 && Fmt.raster (d.format c) != 2
     | none => true)

/-- AUDIO_SAMPLE_WRITE (R349, R351, R352): a de-embedder writes its next sample of all its channels (`words`, by embedded channel) at
the position its writer stands at; `groups` are the groups received in the last frame. -/
def execAudioSampleWrite (dt lane groups : Nat) (words : List Nat) (s : State) : Host.Outcome State Fault Refusal :=
  s.act fun d => d.live dt fun d =>
    if 128 ≤ lane ∨ !d.deembeds lane then d
    else
      let k := d.audio.pos
      let d := d.wr D.AudLaneStatus.GROUPS_PRESENT lane groups
      let at_ := (Assoc.find d.audio.laneW lane).getD (k + 12)
      let off : Bool := decide (at_ < k + 4) || decide (k + 20 < at_)
      let d := if off then d.recentre D.AudLaneStatus.RX_RECENTRES lane (32 * lane) else d
      let w := if off then k + 12 else at_
      let d := d.setAudio (fun a => { a with laneW := (lane, w + 1) :: a.laneW.filter (fun e => e.1 != lane) })
      d.each ((d.laneChannels lane).filter (fun ch => bit groups (ch % 32 / 4))) (fun d ch => d.putSample ch w (words.getD (ch % 32) 0 / 8 * 8 % 2 ^ 32))

/-! ## Serial audio ports (R359 to R362) -/

/-- Bits of a slot, and of its data. -/
def Dev.sapBits (d : Dev) (p : Nat) : Nat × Nat := (16 + 8 * d.rd D.SapCfg.SLOT_BITS p, if d.on D.SapCfg.DATA24 p then 24 else 16)

/-- A word left-justified in a slot of n bits with k data bits, truncated. -/
def slotOf (n k w : Nat) : Nat := if k ≤ n then w / 2 ^ (32 - k) * 2 ^ (n - k) else w / 2 ^ (32 - n)

/-- The word a slot of n bits with k data bits carries. -/
def wordOfSlot (n k v : Nat) : Nat := if k ≤ n then v % 2 ^ n / 2 ^ (n - k) * 2 ^ (32 - k) else v % 2 ^ n * 2 ^ (32 - n)

/-- R359, Table 12.4: the pins of port p over a frame that sends these slots. -/
def Dev.sapWave (d : Dev) (p : Nat) (slots : List Nat) : SapWave :=
  let b := (d.sapBits p).1
  let n := slots.length * b
  let frame := d.rd D.SapCfg.FRAME p
  let ones := 2 ^ b - 1
  ⟨n, if frame = 0 then ones else if frame = 2 then 2 ^ (n - 1) else ones * 2 ^ (n - b),
    slots.foldl (fun v s => v * 2 ^ b + s % 2 ^ b) 0, if frame = 0 ∨ frame = 2 then 1 else 0, d.on D.SapCfg.BCLK_EDGE p⟩

/-- A port clock's position: locked to device time, the position of the frame's start plus the lead; else its own count, set back to nominal
where it lies outside the margin (R351, R362). -/
def clocked (locked : Bool) (at_ : Option Int) (nominal now : Int) : Int × Bool :=
  if locked then (now, false)
  else match at_ with
    | none => (nominal, false)
    | some w => if nominal - 3 ≤ w ∧ w ≤ nominal + 3 then (w, false) else (nominal, true)

/-- SAP_FRAME (R359, R361, R362): a frame of port p: `slots` are the slots received; `half` says that it is the second frame of a
position at 96 kHz. -/
def execSapFrame (dt port : Nat) (slots : List Nat) (half : Bool) (s : State) : Host.Outcome State Fault Refusal :=
  s.act fun d => d.live dt fun d =>
    if 8 ≤ port ∨ !d.on D.SapCfg.ENABLE port then d
    else
      let k : Int := d.audio.pos
      let j : Int := posNear d.now
      let locked := d.timeAligned (d.rd D.SapCfg.DPLL port)
      let n96 := d.on D.SapCfg.RATE_96K port
      let h := n96 && half
      let d := (d.flag D.SapStatus.RUNNING port true).flag D.SapStatus.LOCKED port locked
      let tx := clocked locked (Assoc.find d.audio.portR port) (k - 4) (j - 4)
      let rx := clocked locked ((Assoc.find d.audio.portW port).map (fun w => (w : Int))) (k + 4) (j + 4)
      let d := if tx.2 then d.recentre D.SapStatus.TX_RECENTRES port (4096 + 32 * port) else d
      let d := if rx.2 then d.recentre D.SapStatus.RX_RECENTRES port (4096 + 32 * port) else d
      let bits := d.sapBits port
      let chan := fun i => 4096 + 32 * port + (if n96 then 2 * i + ofBool h else i)
      let txs := d.sapActive port D.SapCfg.TX_MASK
      let out := (List.range (d.sapSlots port)).map (fun sl =>
        match txs.findIdx? (fun a => a == sl) with
        | some i => slotOf bits.1 bits.2 (d.destWord (chan i) tx.1)
        | none => 0)
      let d := d.emit (.sapFrame port out (d.sapWave port out))
      let rxs := d.sapActive port D.SapCfg.RX_MASK
      let d := if d.placed rx.1 = 0 then
          d.each (List.range rxs.length) (fun d i => d.putSample (chan i) rx.1.toNat (wordOfSlot bits.1 bits.2 (slots.getD (rxs.getD i 0) 0)))
        else d
      let next : Int := if n96 && !half then 0 else 1
      d.setAudio (fun a => { a with portR := (port, tx.1 + next) :: a.portR.filter (fun e => e.1 != port),
                                    portW := (port, (rx.1 + next).toNat) :: a.portW.filter (fun e => e.1 != port) })

/-! ## Commits -/

/-- Fractional divider and frequency of a port (R360): DIVIDER in 8.24 fixed point, BCLK_HZ. -/
def Dev.sapClock (d : Dev) (p : Nat) : Nat × Nat :=
  let f := (if d.on D.SapCfg.RATE_96K p then 96000 else 48000) * d.sapSlots p * (d.sapBits p).1
  (98304000 * 2 ^ 24 / max 1 f, f)

/-- R360, Table 12.14: the settings of an enabled port. -/
def Dev.sapOk (d : Dev) (p : Nat) : Bool :=
  let c := d.sapClock p
  let frame := d.rd D.SapCfg.FRAME p
  let sl := d.rd D.SapCfg.SLOTS p
  decide (c.2 ≤ 49152000) && decide (2 * 2 ^ 24 ≤ c.1)
    && (!d.on D.SapCfg.RATE_96K p || (decide ((d.sapActive p D.SapCfg.TX_MASK).length ≤ 16) && decide ((d.sapActive p D.SapCfg.RX_MASK).length ≤ 16)))
    && (if frame ≤ 1 then sl == 0 else decide (1 ≤ sl) && decide (sl ≤ 4)) && d.rd D.SapCfg.SLOT_BITS p != 3

/-- A committed port shows its clock and active slots (Table 12.15). -/
def Dev.sapCommit (d : Dev) (p : Nat) : Dev :=
  if d.on D.SapCfg.ENABLE p then
    let c := d.sapClock p
    let d := ((d.flag D.SapStatus.RUNNING p true).wr D.SapStatus.DIVIDER p c.1).wr D.SapStatus.BCLK_HZ p c.2
    (d.wr D.SapStatus.TX_ACTIVE p (d.sapActive p D.SapCfg.TX_MASK).length).wr D.SapStatus.RX_ACTIVE p (d.sapActive p D.SapCfg.RX_MASK).length
  else
    let d := ((d.flag D.SapStatus.RUNNING p false).wr D.SapStatus.DIVIDER p 0).wr D.SapStatus.BCLK_HZ p 0
    let d := ((d.wr D.SapStatus.TX_ACTIVE p 0).wr D.SapStatus.RX_ACTIVE p 0).flag D.SapStatus.LOCKED p false
    d.setAudio (fun a => { a with portR := a.portR.filter (fun e => e.1 != p), portW := a.portW.filter (fun e => e.1 != p) })

/-- R354: a bundle bound to a context of a kind. -/
def Dev.bundleOk (d : Dev) (k b : Nat) : Bool :=
  let base := d.rd D.BundleCfg.BASE b
  let n := d.rd D.BundleCfg.CHANNELS b
  let s := d.bundleSpan b
  decide (1 ≤ n) && decide (n ≤ (if d.on D.BundleCfg.RATE_96K b then 32 else 64)) && decide (base + s ≤ 16384)
    && decide ((if k = 0x4B then 4416 else 4352) ≤ base)
    && (!(k == 0x4B && d.on D.BundleCfg.ALIGN b) || (decide (0 ≤ d.rdI D.BundleCfg.ALIGN_OFFSET b) && decide (d.rdI D.BundleCfg.ALIGN_OFFSET b ≤ 63)))

/-- R354: do two enabled contexts of one direction share a bundle or a channel? -/
def Dev.bundleClash (d : Dev) (a b : Nat) : Bool :=
  a != b && d.kind a == d.kind b && (d.kind a == 0x4B || d.kind a == 0x0B) &&
    (d.bindIx a == d.bindIx b ||
      (decide (d.rd D.BundleCfg.BASE (d.bindIx a) < d.rd D.BundleCfg.BASE (d.bindIx b) + d.bundleSpan (d.bindIx b))
        && decide (d.rd D.BundleCfg.BASE (d.bindIx b) < d.rd D.BundleCfg.BASE (d.bindIx a) + d.bundleSpan (d.bindIx a))))

/-- Ranges of a destination record: sources, gains (R344), delay, and the leader's kind (R347). -/
def Dev.destOk (d : Dev) (r : Nat) : Bool :=
  (items8 (d.rd D.Dest.SOURCES r)).all (fun s => decide (s ≤ 16383) || s == 0xFFFF)
    && (items8 (d.rd D.Dest.GAINS r)).all (fun g => g == 0x8000 || (decide (-9600 ≤ toInt 16 g) && decide (toInt 16 g ≤ 2400)))
    && (!d.on D.Follow.ENABLE r ||
      (let k := d.kind (d.leader r)
       k == 0x41 || k == 0x42 || k == 0x43 || k == 0x47 || k == 0x4A || (k == 0x49 && bitsOf (d.bindIx (d.leader r)) 8 2 != 1)
         || (k == 0x4C && d.takenType (d.leader r) != 4 && d.takenType (d.leader r) != 5)))

/-- R352, R353: de-embedder and embedder settings of a lane. -/
def Dev.embedOk (d : Dev) (n : Nat) : Bool :=
  let slow := fun f => Fmt.raster f == 1 || Fmt.raster f == 2
  (match d.sdiCtx 1 n with | some c => !(d.on D.DeembedCfg.ENABLE n && slow (d.format c)) | none => true)
    && (match d.sdiCtx 0x41 n with
      | some c => !d.on D.EmbedCfg.ENABLE n || (!slow (d.format c)
          && !(decide (16 ≤ d.rd D.EmbedCfg.GROUPS n) && (match Fmt.sdiLinks (d.format c) with | some (_, r) => decide (r ≤ 148500) | none => false)))
      | none => true)

/-- Tone settings (R358). -/
def Dev.toneOk (d : Dev) (t : Nat) : Bool :=
  !d.on D.ToneCfg.ENABLE t || (decide (20 ≤ d.rd D.ToneCfg.FREQ_HZ t) && decide (d.rd D.ToneCfg.FREQ_HZ t ≤ 20000) && decide (d.rd D.ToneCfg.LEVEL_CDB t ≤ 9600))

/-- A commit changed gains of a record: the ramp begins at the first position at least 20 µs later (R344). -/
def Dev.gainCommit (d : Dev) (r : Nat) : Dev :=
  d.setDest r (fun x => { x with gains := x.gains ++ [(posFrom (d.now + 20000), d.rd D.Dest.GAINS r)] })

/-- At start-up the matrix begins at the position of the present time, every record with its committed sources, delay and gains. -/
def Dev.audioStart (d : Dev) : Dev :=
  let d := { d with audio := { pos := posFrom (d.now + 1) } }
  d.each d.destRecs (fun d r =>
    let d := if d.on D.Follow.ENABLE r then d.noteFollow r (d.source (d.leader r)) else d
    let d := d.setDest r (fun x => { x with sources := d.wantedSources r, delay := d.rd D.Dest.DELAY_SAMPLES r, gainTo := d.rd D.Dest.GAINS r })
    d.wr D.Dest.CURRENT_SOURCES r ((d.wantedSources r).foldl (fun v s => v * 65536 + s) 0))

end Sys2Proof.Machine
end

