-- ==== Sys2Proof/Machine/Journal.lean ====
section
/-! DEFINITION. The records that keep the dictionary in flash: the journal ring, its compaction into a settings area and the
state rebuilt from both (R425 to R427, R463), the network identity record (R432) and the ownership record (R438, R445). -/

namespace Sys2Proof.Machine

open Sys2Proof

/-! ## The journal ring -/

/-- Bytes of the ring: 1,022 sectors of 4 KiB from offset 0x2000 (Table 16.1). -/
def journalBytes : Nat := 1022 * 4096

/-- Bytes one item takes in a record: 12 and the value, padded to a multiple of 4 (R425). -/
def itemBytes (k : Key) : Nat :=
  12 + 4 * ceilDiv (match Dict.row k.ix k.sub with | some r => r.width / 8 | none => 0) 4

/-- Bytes a record takes in the ring: the next record starts at a 32-byte boundary (R425). -/
def recordBytes (items : Store) : Nat := 32 * ceilDiv (32 + sumOf (fun (x : Key × Nat) => itemBytes x.1) items) 32

/-! ## The records' bytes

State holds what a record says, and `valid` for a copy whose MAGIC, LAYOUT and CRC are correct; these are the bytes the flash holds for it. -/

/-- An item (R425): INDEX, SUB, OFFSET of a DOM element, LENGTH, and its value padded to a multiple of 4. -/
def itemImage (x : Key × Nat) : Bytes :=
  match Dict.row x.1.ix x.1.sub with
  | none => ⟨0, 0⟩
  | some r =>
    let n := r.width / 8
    let off := if r.ty = 13 then x.1.el * r.elem else 0
    let pad := 4 * ceilDiv n 4 - n
    ⟨12 + n + pad, pack [(16, x.1.ix), (8, x.1.sub), (8, 0), (32, off), (32, n), (8 * n, x.2), (8 * pad, 0)]⟩

/-- The items of a record, one after the other. -/
def itemsImage (items : Store) : Bytes := items.foldl (fun (b : Bytes) x => b.app (itemImage x)) ⟨0, 0⟩

/-- A journal record (Table 15.6). -/
def JRec.image (r : JRec) : Bytes :=
  let body := itemsImage r.items
  let head : Bytes := ⟨28, pack [(16, 0x4A52), (8, r.kind), (8, 0), (32, body.len), (64, r.gen), (64, r.group), (32, 0)]⟩
  (head.app ⟨4, crc32c (bytesOf (28 + body.len) (head.app body).val)⟩).app body

/-- A settings copy (Table 16.16): of the items only those whose value differs from the default (R463). -/
def Settings.image (s : Settings) : Bytes :=
  let body := itemsImage (s.vals.filter (fun (x : Key × Nat) => (Dict.row x.1.ix x.1.sub).any (fun r => r.dflt != x.2)))
  Bytes.withCrc (Bytes.app ⟨32, pack [(32, 0x53455454), (16, 1), (16, s.format), (64, s.gen), (32, body.len), (96, 0)]⟩ body)

/-- The network identity record (Table 15.10). -/
def NetId.image (r : NetId) : Bytes :=
  Bytes.withCrc ⟨252, pack [(32, 0x4E494452), (16, 1), (16, 0), (64, r.gen), (48, Config.baseMac), (8, Config.macCount), (8, 0), (256, r.frameId),
    (16, r.net.port), (48, 0), (384, r.net.mg0), (384, r.net.mg1), (256, r.net.inband), (480, 0)]⟩

/-- The ownership and key record (Table 16.2). -/
def OwnerRec.image (r : OwnerRec) : Bytes :=
  Bytes.withCrc ⟨11388, pack [(32, 0x4F574E52), (16, 1), (8, ofBool r.enrolled), (8, 0), (64, r.gen), (64, r.since), (256, r.policy), (64, 0),
    (15616, Config.identityPublic), (96, Config.wrapNonce), (32, 0), (32384, Config.identityWrapped), (26472, Config.vendorCert), (24, 0),
    (15616, r.pub), (352, 0)]⟩

/-- The boot control record (Table 16.17). -/
def BootRec.image (r : BootRec) : Bytes :=
  Bytes.withCrc ⟨28, pack [(32, 0x42435452), (16, 1), (16, 0), (64, r.gen), (8, r.confirmed), (8, r.trial), (8, r.kind), (8, r.arcTarget),
    (8, r.started), (56, 0)]⟩

/-- The ring's fill in per cent. -/
def Dev.journalPct (d : Dev) : Nat := min 100 (d.flash.used * 100 / journalBytes)

/-- The settings area's copies of a slot, and the one in force: the valid copy with the greater GENERATION (R463). -/
def Dev.settings (d : Dev) (slot : Nat) : Settings :=
  let a := nget d.flash.settings {} (2 * slot)
  let b := nget d.flash.settings {} (2 * slot + 1)
  if a.valid && (!b.valid || decide (b.gen ≤ a.gen)) then a else if b.valid then b else {}

/-- R463: a new settings copy is written over the copy with the lower GENERATION. -/
def Dev.writeSettings (d : Dev) (slot : Nat) (v : Settings) : Dev :=
  let a := nget d.flash.settings {} (2 * slot)
  let b := nget d.flash.settings {} (2 * slot + 1)
  let k := if !a.valid then 2 * slot
    else if !b.valid || decide (b.gen < a.gen) then 2 * slot + 1 else 2 * slot
  { d with flash := { d.flash with settings := nput d.flash.settings {} k v } }

/-- The items of a record put over a state. -/
def applyItems (st items : Store) : Store := items.foldl (fun (st : Store) (x : Key × Nat) => st.put x.1 x.2) st

/-- Is every DATA record of the group that a COMMIT record ends present (R426)? -/
def Dev.groupWhole (d : Dev) (r : JRec) : Bool :=
  (List.range (r.gen - r.group)).all (fun i => d.flash.journal.any (fun x => x.kind == 1 && x.group == r.group && x.gen == r.group + i))

/-- The journal's records after a GENERATION, put over a state in ascending GENERATION (R426). -/
def Dev.replay (d : Dev) (gen : Nat) (st : Store) : Store :=
  d.flash.journal.foldl (fun (st : Store) (r : JRec) =>
    if r.gen ≤ gen then st
    else if r.kind = 3 then applyItems st r.items
    else if r.kind = 2 ∧ d.groupWhole r = true then
      (d.flash.journal.filter (fun (x : JRec) => x.kind == 1 && x.group == r.group)).foldl (fun st x => applyItems st x.items) st
    else st) st

/-- A committed group whose DATA records are not all there (R426: DIC_JOURNAL_CORRUPT). -/
def Dev.journalCorrupt (d : Dev) (slot : Nat) : Bool :=
  d.flash.journal.any (fun r => decide ((d.settings slot).gen < r.gen) && r.kind == 2 && !d.groupWhole r)

/-- R426: the persistent entries of a slot. -/
def Dev.rebuilt (d : Dev) (slot : Nat) : Store := d.replay (d.settings slot).gen (d.settings slot).vals

/-- The slot whose settings area the running image uses: slot R runs with the settings of the slot it copied (R470). -/
def Dev.settingsSlot (d : Dev) : Nat := if d.sec.running = 2 then d.boot.confirmed else d.sec.running

/-- The manifest of a slot. -/
def Dev.manifest (d : Dev) (k : Nat) : Nat :=
  let x := d.slot k
  if x.factory then Config.factoryManifest else x.manifest.getD 0

/-- Bytes at an offset of a manifest (Table 16.10). -/
def manField (m off n : Nat) : Nat := bytesAt 6976 m off n

/-- The settings format that the running MGT image writes. -/
def Dev.runFormat (d : Dev) : Nat := manField (d.manifest (d.sec.source.headD 0)) 12 2

/-- R427: the journal is compacted into the running slot's settings area, and its sectors are erased. -/
def Dev.compact (d : Dev) : Dev :=
  let d := d.writeSettings d.settingsSlot ⟨true, d.runFormat, d.flash.gen, d.rebuilt d.settingsSlot⟩
  ({ d with flash := { d.flash with journal := [], used := 0 } }).wr D.Rcp.JOURNAL_USED_PCT 0 0

/-- R427: a record waits for a compaction that is due. -/
def Dev.compactDue (d : Dev) : Dev := if 75 ≤ d.journalPct then d.compact else d

/-- Records are appended, each with the next GENERATION. -/
def Dev.append (d : Dev) (r : JRec) : Dev :=
  let d := { d with flash := { d.flash with journal := d.flash.journal ++ [r], used := d.flash.used + recordBytes r.items, gen := r.gen } }
  d.wr D.Rcp.JOURNAL_USED_PCT 0 d.journalPct

/-- A commit group goes into the journal as a DATA record and its COMMIT record (R425). -/
def Dev.journalGroup (d : Dev) (items : Store) : Dev :=
  let d := d.compactDue
  let g := d.flash.gen + 1
  ((d.append ⟨1, g, g, items⟩).append ⟨2, g + 1, g, []⟩).wr D.Rcp.COMMIT_GENERATION 0 (g + 1)

/-- A write of a P entry of RW access goes into the journal as a SINGLE record (R425). -/
def Dev.journalSingle (d : Dev) (items : Store) : Dev :=
  let d := d.compactDue
  let g := d.flash.gen + 1
  d.append ⟨3, g, g, items⟩

/-- R425: what a write of P entries of RW access has put into the dictionary goes into the journal before its response; while
PWR_WARN_N is low the write waits (R530). -/
def kept (keys : List Key) (r : Dev × Nat) : Dev × Nat :=
  if r.2 ≠ St.OK then r
  else if r.1.pwrWarn then (r.1, St.DEFER)
  else (r.1.journalSingle (keys.map (fun k => (k, r.1.ent k))), St.OK)

/-! ## The network identity record (R432) -/

/-- The entries the record holds. -/
def netIdKey (k : Key) : Bool :=
  (k.ix == 0 && k.sub == 7) || (k.ix == 0x0100 && k.sub == 2) || (k.ix == 0x0110 && (k.sub == 1 || k.sub == 4))

/-- The management values of the entries. -/
def Dev.mgNet (d : Dev) : MgNet :=
  ⟨d.rd D.Rcp.RCP_UDP_PORT 0, d.ent (D.Mg.MG_CFG.key 0), d.ent (D.Mg.MG_CFG.key 1), d.rd D.Mg.INBAND_IF 0⟩

/-- The entries take the management values. -/
def Dev.setMgNet (d : Dev) (m : MgNet) : Dev :=
  (((d.wr D.Rcp.RCP_UDP_PORT 0 m.port).setEnt (D.Mg.MG_CFG.key 0) m.mg0).setEnt (D.Mg.MG_CFG.key 1) m.mg1).wr D.Mg.INBAND_IF 0 m.inband

/-- The copy in force: valid, of the greater GENERATION. -/
def Dev.netId (d : Dev) : Option NetId :=
  let a := d.flash.netId0
  let b := d.flash.netId1
  if a.valid && (!b.valid || decide (b.gen ≤ a.gen)) then some a else if b.valid then some b else none

/-- Write the copy with the lower GENERATION. -/
def Dev.writeNetId (d : Dev) (gen : Nat) : Dev :=
  let r : NetId := ⟨true, gen, d.rd D.Ident.FRAME_ID 0, d.mgNet⟩
  let a := d.flash.netId0
  let b := d.flash.netId1
  if !a.valid || (b.valid && decide (a.gen ≤ b.gen)) then { d with flash := { d.flash with netId0 := r } }
  else { d with flash := { d.flash with netId1 := r } }

/-! ## The ownership record (R438, R441) -/

/-- The copy in force. -/
def Dev.owner (d : Dev) : Option OwnerRec :=
  let a := d.sec.owner0
  let b := d.sec.owner1
  if a.valid && (!b.valid || decide (b.gen ≤ a.gen)) then some a else if b.valid then some b else none

/-- Write the copy with the lower GENERATION; GENERATION is one more than the previous copy's. -/
def Dev.writeOwner (d : Dev) (enrolled : Bool) (since policy pub : Nat) : Dev :=
  let a := d.sec.owner0
  let b := d.sec.owner1
  let g := max (if a.valid then a.gen else 0) (if b.valid then b.gen else 0) + 1
  let r : OwnerRec := ⟨true, g, enrolled, since, policy, pub⟩
  let d := if !a.valid || (b.valid && decide (a.gen ≤ b.gen)) then { d with sec := { d.sec with owner0 := r } }
    else { d with sec := { d.sec with owner1 := r } }
  d.wr D.Sec.OWNER_GENERATION 0 g

/-- The entries show the ownership record. -/
def Dev.showOwner (d : Dev) (r : OwnerRec) : Dev :=
  (((d.wr D.Sec.OWNER_STATE 0 (ofBool r.enrolled)).wr D.Sec.OWNER_PUBLIC 0 r.pub).setEnt (D.Sec.POLICY.key 0) r.policy).wr
    D.Sec.OWNER_GENERATION 0 r.gen

/-! ## Measurements (R450) -/

/-- The 32-byte SHAKE256 digest of n bytes. -/
def digest (n v : Nat) : Nat := Config.shake256 ⟨n, v % 256 ^ n⟩ % 2 ^ 256

/-- Set a measurement. -/
def Dev.setM (d : Dev) (k v : Nat) : Dev := { d with sec := { d.sec with m := d.sec.m.set k v } }

/-- Measurement k. -/
def Dev.meas (d : Dev) (k : Nat) : Nat := d.sec.m.getD k 0

/-- R450: a change of M2 to M8 after start-up extends M9 by the new value followed by its register number. -/
def Dev.changeM (d : Dev) (k v : Nat) : Dev :=
  if d.meas k = v then d
  else
    let x := v * 256 + k
    (d.setM k v).setM 9 (digest 65 (d.meas 9 * 2 ^ 264 + x))

/-- The digest of OWNER_PUB followed by POLICY, M7. -/
def Dev.ownerDigest (d : Dev) : Nat :=
  digest 1984 (d.rd D.Sec.OWNER_PUBLIC 0 * 2 ^ 256 + d.ent (D.Sec.POLICY.key 0))

/-- R445: a committed POLICY goes into the ownership record. -/
def Dev.policyCommit (d : Dev) : Dev :=
  match d.owner with
  | none => d
  | some r =>
    let d := d.writeOwner r.enrolled r.since (d.ent (D.Sec.POLICY.key 0)) r.pub
    d.changeM 7 d.ownerDigest

/-- R445: a POLICY that cannot stand. -/
def policyBad (p : Nat) : Bool :=
  let v := bit p 255
  let o := bit p 254
  (!v && !o) || (bit p 253 && !(v && o)) || !(bitsOf p 247 3 == 3 || bitsOf p 247 3 == 4)

/-- The reset POLICY of Table 16.4. -/
def policyReset : Nat := 2 ^ 255 + 3 * 2 ^ 247

end Sys2Proof.Machine
end

