-- ==== Sys2Proof/Machine/BusCore.lean ====
section
/-! DEFINITION. The bus matrix: targets and access, responses, the error log, isolation (R506 to R516). -/

namespace Sys2Proof.Machine

open Sys2Proof

/-! Response codes (Table 18.10). -/
namespace BusResp
def OK : Nat := 0
def ERR_TARGET : Nat := 1
def ERR_DECODE : Nat := 2
def ERR_ISOLATED : Nat := 3
def ERR_TIMEOUT : Nat := 4
def ERR_ECC : Nat := 5
end BusResp

/-- What stands for the default target in ERROR_LOG. -/
def busDefault : Nat := 31

/-- Transactions a master may have outstanding (Table 18.7). -/
def masterLimit (m : Nat) : Nat := if m ≤ 3 then 8 else if m ≤ 7 then 4 else if m = 8 then 16 else 1

/-- May a master reach a target, for reads or writes (Table 18.8)? The words of the fuse shadow that hold the device key are the
SEC's alone. -/
def busAccess (m t : Nat) (write : Bool) (addr beats : Nat) : Bool :=
  if t = 0 then !write
  else if t = 1 then decide (m ≤ 8)
  else if t = 2 then decide (m ≤ 3) || m == 7
  else if t = 3 then !write && (m == 7 || !(List.range (2 * beats)).any (fun i => Config.fuseKeyWord (addr % 2 ^ 24 / 4 + i)))
  else if t = 4 then m == 7
  else if t ≤ 7 then true
  else if t = 8 ∨ t = 23 then decide (m ≤ 3) || m == 8
  else if t ≤ 22 then decide (m ≤ 6) || m == 8 || m == 9
  else false

/-- A master is in reset: a core or controller by its domain; every master through a WARM or wider reset. -/
def Dev.masterReset (d : Dev) (m : Nat) : Bool :=
  d.inReset || decide (m ≤ 7) && d.rst.asserted.any (fun r => r.reach == 3 && r.dom == m)

/-- A target's domain or block is in reset (R511): the planes' own targets, and the SEC's. -/
def Dev.targetReset (d : Dev) (t : Nat) : Bool :=
  d.inReset || d.rst.asserted.any (fun r =>
    r.reach == 4 && r.dom == 4 && r.inst + 15 == t && decide (r.inst ≤ 1) || r.reach == 3 && r.dom == 7 && t == 4)

/-- CAUSE of a target's isolation (Table 18.18): 0 none, 1 reset, 3 timeout, 4 BUS_CMD. -/
def Dev.isolation (d : Dev) (t : Nat) : Nat := if d.targetReset t then 1 else nget d.bus.cut 0 t

/-- An error response enters ERROR_LOG, newest first (Table 18.17). -/
def Dev.logError (d : Dev) (resp master target : Nat) (write : Bool) (addr : Nat) : Dev :=
  let d := d.each ((List.range 15).map (fun i => 15 - i)) (fun d i => d.setEnt (D.ErrorLog.RESP.key i) (d.ent (D.ErrorLog.RESP.key (i - 1))))
  d.setEnt (D.ErrorLog.RESP.key 0) (pack [(4, resp), (4, master), (5, target), (1, ofBool write), (18, 0), (32, addr), (64, d.now)])

/-- A response goes to a master; an error is counted and logged, and carries all-zero data (R510). -/
def Dev.busRespond (d : Dev) (resp master target : Nat) (write : Bool) (addr data : Nat) : Dev :=
  let d := d.emit (.busResponse master target resp (if resp = 0 ∧ !write then data else 0))
  if resp = 0 then d
  else
    let d := ((d.sat D.Bus.ERRORS 0 1).sat D.MasterStatus.ERRORS master 1).logError resp master target write addr
    if resp = BusResp.ERR_ISOLATED then d.sat D.TargetStatus.ISOLATED_RESPONSES target 1
    else if resp = BusResp.ERR_TIMEOUT then d.sat D.TargetStatus.TIMEOUTS target 1
    else if resp = BusResp.ERR_DECODE then d.raise Src.BUS_DEFAULT_TARGET master
    else if resp = BusResp.ERR_ECC then d.raise Src.BUS_ECC 0
    else d

/-- What is in flight to a target is answered with ERR_ISOLATED (R514). -/
def Dev.busIsolate (d : Dev) (t : Nat) : Dev :=
  let l := d.bus.flight.filter (fun f => f.target == t)
  let d := { d with bus := { d.bus with flight := d.bus.flight.filter (fun f => f.target != t) } }
  l.foldl (fun (d : Dev) (f : Flight) => d.busRespond BusResp.ERR_ISOLATED f.master t f.write f.addr 0) d

/-- R513: a master is reset: what it has in flight ends, and the responses are dropped. -/
def Dev.busDrop (d : Dev) (m : Nat) : Dev :=
  let n := countIf (fun (f : Flight) => f.master == m) d.bus.flight
  ({ d with bus := { d.bus with flight := d.bus.flight.filter (fun f => f.master != m) } }).sat D.MasterStatus.DROPPED m n

end Sys2Proof.Machine
end

