-- ==== Sys2Proof/Machine/Bus.lean ====
section
/-! DEFINITION. Bus transactions, timeouts and BUS_CMD (R506 to R518), BUS_TRANSACTION to BUS_CMD_LOG_CLEAR. -/

namespace Sys2Proof.Machine

open Sys2Proof

/-- The target through which masters reach the frame store. -/
def fsWindow : Nat := 19

/-- May FS_WINDOW name a block: one of class PROTECTED, or one that holds a veneer surface? -/
def Dev.windowBlock (d : Dev) (b : Nat) : Bool :=
  d.store.alloc.any (fun a => (a.2.want.cls == 10 || a.2.want.cls == 2 && a.2.want.tag == 1) && a.2.blocks.contains (some b))

/-- The frame-store bytes an access of FS_WINDOW names: it lies wholly in such blocks. -/
def Dev.windowOk (d : Dev) (a n : Nat) : Bool :=
  d.windowBlock (a / blockBytes) && d.windowBlock ((a + n - 1) / blockBytes)

/-- The bytes a write enables: address and value. -/
def enabledBytes (a n data enables : Nat) : List (Nat × List Nat) :=
  ((List.range n).filter (fun i => bit enables (n - 1 - i))).map (fun i => (a + i, [byteAt n data i]))

/-- What a transaction that reaches its target is answered: the target's own answer; through FS_WINDOW ERR_TARGET outside the blocks it may
name. -/
def Dev.busAnswer (d : Dev) (target a n ans : Nat) : Nat :=
  if target = fsWindow ∧ ans = 0 ∧ d.windowOk a n = false then BusResp.ERR_TARGET else ans

/-- A transaction is issued by a master. -/
def Dev.busIssue (d : Dev) (mem : List Host.Cell) (master addr beats : Nat) (write : Bool) (data enables : Nat) (answer : Option Nat)
    (placed : Nat) : Dev :=
  let t := addr / 2 ^ 24
  let busy := countIf (fun (f : Flight) => f.master == master) d.bus.flight
  if 9 < master ∨ d.masterReset master = true ∨ (master = 9 ∧ d.rd D.Sec.DEBUG_STATE 0 ≠ 2) ∨ beats = 0 ∨ 16 < beats ∨ addr % 8 ≠ 0 ∨ 2 ^ 32 ≤ addr
      ∨ masterLimit master ≤ busy then d
  else if 23 < t ∨ busAccess master t write addr beats = false then d.busRespond BusResp.ERR_DECODE master busDefault write addr 0
  else if d.isolation t ≠ 0 then d.busRespond BusResp.ERR_ISOLATED master t write addr 0
  else
    let d := { d with bus := { d.bus with last := nput d.bus.last 0 t master } }
    let waits := d.bus.flight.any (fun f => f.master == master && f.target == t)
    match answer with
    | none => { d with bus := { d.bus with flight := d.bus.flight ++ [⟨master, t, addr, write, d.wall⟩] } }
    | some ans =>
      if waits then { d with bus := { d.bus with flight := d.bus.flight ++ [⟨master, t, addr, write, d.wall⟩] } }
      else
        let n := 8 * beats
        let a := placed + addr % 2 ^ 24
        let r := d.busAnswer t a n (if ans = 1 ∨ ans = 5 then ans else 0)
        let fs := t == fsWindow && r == 0
        let d := if fs then d.add D.FsPortCounters.BYTES 10 n else d
        let d := if fs && write then { d with memQ := d.memQ ++ enabledBytes a n data enables } else d
        d.busRespond r master t write addr (if fs then ofBytes (Memory.readBytes mem a n) else data)

/-- BUS_TRANSACTION (R506 to R511): a burst of `beats` of 8 bytes at an address. `answer` is what the target answers (0 OK, 1 ERR_TARGET,
5 ERR_ECC), none where it gives no response; `data` what is written, with a byte enable each, or what a target other than FS_WINDOW returns;
`placed` is where FS_WINDOW is placed in the frame store. A transaction behind an unanswered one to the same target waits (R506). -/
def execBusTransaction (dt master addr beats : Nat) (write : Bool) (data enables : Nat) (answer : Option Nat) (placed : Nat) (s : State) :
    Host.Outcome State Fault Refusal :=
  s.actMem fun d => (d.elapse dt).busIssue s.mem master addr beats write data enables answer placed

/-- A target is isolated for a cause, 3 a timeout or 4 BUS_CMD; BUS_ISOLATED is raised where it is powered and out of reset (R512). -/
def Dev.cutTarget (d : Dev) (t cause : Nat) : Dev :=
  let d := if d.isolation t = 0 then d.raise Src.BUS_ISOLATED t else d
  ({ d with bus := { d.bus with cut := nput d.bus.cut 0 t cause } }).busIsolate t

/-- BUS_TIMEOUT (R512): the oldest transaction without a response 10 µs after its target accepted it. -/
def execBusTimeout (dt : Nat) (s : State) : Host.Outcome State Fault Refusal :=
  s.act fun d =>
    let d := d.elapse dt
    match d.bus.flight with
    | [] => d
    | f :: l =>
      if !d.past f.at_ 10000 then d
      else
        let d := { d with bus := { d.bus with flight := l } }
        let d := (d.busRespond BusResp.ERR_TIMEOUT f.master f.target f.write f.addr 0).raise Src.BUS_TIMEOUT f.target
        d.cutTarget f.target 3

/-- R512, R518: a write of BUS_CMD. -/
def Dev.busCmd (d : Dev) (v : Nat) : Dev × Nat :=
  let cmd := bitsOf v 24 8
  let t := v % 32
  if cmd = 0 ∨ 3 < cmd ∨ bitsOf v 5 19 ≠ 0 ∨ 23 < t ∨ (cmd = 3 ∧ t ≠ 0) then (d, St.RANGE)
  else if cmd = 1 then
    if d.targetReset t then (d, St.STATE) else ({ d with bus := { d.bus with cut := nput d.bus.cut 0 t 0 } }, St.OK)
  else if cmd = 2 then (d.cutTarget t 4, St.OK)
  else (d.each (List.range 16) (fun d i => d.setEnt (D.ErrorLog.RESP.key i) 0), St.OK)

/-- BUS_CMD_UNISOLATE (R512). -/
def execBusCmdUnisolate (q : Rcp) (target : Nat) (s : State) : Host.Outcome State Fault Refusal :=
  let v := 1 * 2 ^ 24 + target % 32
  s.act (serveWrite (.busCmdUnisolate q.again target) q 0x1300 2 ⟨4, v⟩ fun _ d => d.busCmd v)

/-- BUS_CMD_ISOLATE (R511). -/
def execBusCmdIsolate (q : Rcp) (target : Nat) (s : State) : Host.Outcome State Fault Refusal :=
  let v := 2 * 2 ^ 24 + target % 32
  s.act (serveWrite (.busCmdIsolate q.again target) q 0x1300 2 ⟨4, v⟩ fun _ d => d.busCmd v)

/-- BUS_CMD_LOG_CLEAR (R518). -/
def execBusCmdLogClear (q : Rcp) (s : State) : Host.Outcome State Fault Refusal :=
  s.act (serveWrite (.busCmdLogClear q.again) q 0x1300 2 ⟨4, 3 * 2 ^ 24⟩ fun _ d => d.busCmd (3 * 2 ^ 24))

end Sys2Proof.Machine
end

