-- ==== Sys2Proof/Machine/Compose.lean ====
section
/-! DEFINITION. The composition commands: a head's frame boundary, layer frames and runs, veneers, tally, engine failure (R317 to
R334). -/

namespace Sys2Proof.Machine

open Sys2Proof

/-! ## The frame boundary (R326 to R332) -/

/-- A head passes its boundary: flips at least LAYER_LEAD_US old take place on it. -/
def Dev.passFlips (d : Dev) (h : Nat) : Dev :=
  let vs := d.flip.map (·.1)
  let d' := { d with flip := d.flip.map (fun (p : Nat × FlipSt) =>
    if d.leadPast p.2.at_ then (p.1, { p.2 with waiting := p.2.waiting.filter (fun g => g != h) }) else p) }
  d'.each vs (fun d v => d.flipDone v)

/-- Committed changes of a layer come into use (R328): those of place, blend, colour and bars together; those of size with the first
frame made under them. -/
def Dev.layerUse (d : Dev) (e : Nat) (first : Bool) : Dev :=
  let x := d.layerSt e
  let g := d.rd D.Layer.GEOMETRY e
  let b := d.rd D.Layer.BLEND e
  let d := match x.changed with
    | some t =>
      if first || d.leadPast t then
        let whole := first || !d.flowLayer e || x.frameWait.isNone
        d.setLayer e (fun x => { x with
          geometry := if whole then g else setBits g 0 96 (Geo.frame x.geometry)
          blend := if whole then b else setBits b 14 2 (bitsOf x.blend 14 2)
          fill := d.rd D.Layer.FILL_COLOUR e
          bars := d.rd D.Layer.BARS e
          changed := none
          frameWait := if whole then none else x.frameWait })
      else d
    | none => if first then d.setLayer e (fun x => { x with geometry := g, blend := b, fill := d.rd D.Layer.FILL_COLOUR e, bars := d.rd D.Layer.BARS e }) else d
  -- of the tally values at least LAYER_LEAD_US old the last applies (R331)
  let past := (d.layerSt e).tallies.filter (fun t => d.leadPast t.1)
  d.setLayer e (fun x => { x with tally := (past.getLast?.map (·.2)).getD x.tally, tallies := x.tallies.filter (fun t => !d.leadPast t.1) })

/-- A flow layer switches to its new size. -/
def Dev.layerSwitch (d : Dev) (e : Nat) : Dev :=
  let g := d.rd D.Layer.GEOMETRY e
  let b := d.rd D.Layer.BLEND e
  d.setLayer e (fun x => { x with geometry := setBits x.geometry 0 96 (Geo.frame g), blend := setBits x.blend 14 2 (bitsOf b 14 2), frameWait := none })

/-- Row 7 of Table 11.1: fill; NOT_READY set, the fault raised on entry, not after a disconnect (R327). -/
def Dev.layerNotReady (d : Dev) (e : Nat) : Dev :=
  let d := if d.on D.LayerStatus.NOT_READY e || (d.layerSt e).empty then d else d.raise Src.CMP_LAYER_NOT_READY e
  ((d.flag D.LayerStatus.NOT_READY e true).sat D.Layer.NOT_READY_FRAMES e 1).wr D.LayerStatus.DISPLAY e 3

/-- Row 5: the newest frame ready is shown; older ones are dropped. -/
def Dev.layerNew (d : Dev) (e : Nat) (f : LayerFrame) : Dev :=
  let x := d.layerSt e
  let older := countIf (fun r => decide (r.no < f.no)) x.ready
  let d := if some f.made = some (madeUnder x.geometry x.blend) then d else d.layerSwitch e
  let d := d.setLayer e (fun x => { x with ready := x.ready.filter (fun r => decide (f.no < r.no)), prev := some f, repeats := 0, empty := false })
  (((d.sat D.Layer.DROPS e older).flag D.LayerStatus.NOT_READY e false).flag D.LayerStatus.UNBACKED e false).wr D.LayerStatus.DISPLAY e 1

/-- A flow layer's rows 5 to 7 of Table 11.1. -/
def Dev.layerFlow (d : Dev) (e : Nat) : Dev :=
  let x := d.layerSt e
  let lead := d.rd D.Comp.READY_LEAD_NS 0
  let limit := d.rd D.Layer.NOT_READY_REPEAT e
  -- the frames whose size is in use or waits to come into use
  let waits := match x.frameWait with | some (t, _) => d.leadPast t | none => false
  let key := madeUnder (d.rd D.Layer.GEOMETRY e) (d.rd D.Layer.BLEND e)
  let fit := x.ready.filter (fun r => d.past r.at_ lead && (r.made == madeUnder x.geometry x.blend || (waits && r.made == key)))
  let n := match x.frameWait with | some (_, n) => if waits then n + 1 else n | none => 0
  let d := d.setLayer e (fun x => { x with frameWait := x.frameWait.map (fun w => (w.1, n)) })
  match fit.getLast? with
  | some f => d.layerNew e f
  | none =>
    if limit + 1 < n then ((d.layerSwitch e).setLayer e (fun x => { x with prev := none })).layerNotReady e
    else if x.prev.isSome ∧ x.repeats < limit then
      ((d.setLayer e (fun x => { x with repeats := x.repeats + 1 })).sat D.Layer.REPEATS e 1).wr D.LayerStatus.DISPLAY e 2
    else d.layerNotReady e

/-- What a layer shows at a boundary: the first row of Table 11.1 that applies. -/
def Dev.layerRow (d : Dev) (e : Nat) : Dev :=
  let held := match d.store.alloc.find? (fun a => a.2.want.cls == 2 && a.2.want.tag == 0 && a.2.want.owner == e) with
    | some a => a.2.held | none => 0
  if d.on D.LayerStatus.ENGINE_FAILED e || d.on D.LayerStatus.UNAVAILABLE e || d.on D.LayerStatus.LINEBUF e || d.on D.LayerStatus.GEOMETRY e then d.wr D.LayerStatus.DISPLAY e 3
  else if !d.flowLayer e then
    (d.wr D.LayerStatus.DISPLAY e 4).flag D.LayerStatus.VENEER_LOST e
      (d.bufferLost (d.rd D.Layer.VENEER e) (d.shownBuffer (d.rd D.Layer.HEAD e) (d.rd D.Layer.VENEER e)))
  else if d.on D.LayerStatus.UNBACKED e ∧ held = 0 then d.wr D.LayerStatus.DISPLAY e 3
  else if d.on D.LayerStatus.UNBACKED e ∧ !(d.layerSt e).ready.any (fun r => d.past r.at_ (d.rd D.Comp.READY_LEAD_NS 0)) then
    d.wr D.LayerStatus.DISPLAY e 3
  else d.layerFlow e

/-- The level bars of a layer for the frame period that ends (R332): a bar follows the largest sample and falls no faster than
20 dB/s; its peak mark is held for 2 s. -/
def Dev.layerBars (d : Dev) (e : Nat) : Dev :=
  let x := d.layerSt e
  let base := bitsOf x.bars 0 14
  let fall := 2000 * Fmt.periodNs (d.headFormat (d.rd D.Layer.HEAD e)) / 1000000000
  let l := (List.range (bitsOf x.bars 27 5)).filterMap (fun i =>
    match Assoc.find x.peaks (base + i) with
    | none => none
    | some a =>
      let p := levelOf a
      match Assoc.find x.levels i with
      | none => some (i, p, p, d.wall)
      | some (lv, pk, t) =>
        let lv' := max p (lv - fall)
        if pk ≤ p ∨ d.past t 2000000000 then some (i, lv', lv', d.wall) else some (i, lv', pk, t))
  d.setLayer e (fun x => { x with levels := l, peaks := [] })

/-- What a layer shows, as the picture carries it. -/
def Dev.layerShown (d : Dev) (h : Nat) (lost : List (Nat × Nat)) (e : Nat) : LayerShown :=
  let x := d.layerSt e
  let v := d.rd D.Layer.VENEER e
  ⟨e, d.rd D.LayerStatus.DISPLAY e, (x.prev.map (·.no)).getD 0, v, d.shownBuffer h v, x.geometry, x.blend, x.fill, x.tally, x.bars,
    (List.range (bitsOf x.bars 27 5)).map (fun i => (Assoc.find x.levels i).map (fun p => (p.1, p.2.1))),
    if d.flowLayer e then ((lost.filter (fun p => p.1 == e)).map (·.2)).eraseDups else [], (x.prev.map LayerFrame.filled).getD []⟩

/-- R319: the engines of a head from the back forward. -/
def Dev.stackOrder (d : Dev) (h : Nat) : List Nat :=
  let l := d.headEngines h
  if (d.headSt h).zorder then
    ((List.range 32).map (fun z => l.filter (fun e => bitsOf (d.layerSt e).blend 27 5 == z))).flatten
  else l

/-- A head's frame begins at device time t: what HEAD_FRAME_BOUNDARY does. -/
def Dev.headFrame (d : Dev) (m : List Host.Cell) (head c t : Nat) (lost probe : List (Nat × Nat)) : Dev :=
  let x := d.headSt head
  let first := !x.started
  let d := if first || (match x.changed with | some t => d.leadPast t | none => false) then
      d.setHead head (fun x => { x with background := d.rd D.Head.BACKGROUND head, palette := d.rd D.Head.PALETTE head,
                                        zorder := d.on D.HeadTiming.ZORDER head, changed := none, started := true })
    else d
  let d := d.passFlips head
  let es := d.headEngines head
  -- the boundary is the application instant of the head's layer inputs
  let d := d.each (es.filterMap d.layerIn) (fun d i => d.setFlow i (fun y => { y with boundary := some t, oldDelay := none }))
  let d := d.each es (fun d e => ((d.layerUse e first).layerRow e).layerBars e)
  let d := d.each es (fun d e => d.flag D.LayerStatus.PENDING_UPDATE e ((d.layerSt e).changed.isSome || (d.layerSt e).frameWait.isSome))
  let d := d.each (es.filter d.flowLayer) (fun d e => d.sat D.Layer.LOST_LINES e (d.layerShown head lost e).lost.length)
  let d := d.flag D.HeadStatus.ANY_FILL head (es.any (fun e => d.rd D.LayerStatus.DISPLAY e == 3))
  let stack := (d.stackOrder head).map (d.layerShown head lost)
  let d := d.setHead head (fun x => { x with boundary := some t, stack := stack })
  let y := d.headSt head
  d.emit (.picture head y.background y.palette stack
    (probe.map (fun p => (p.1, p.2, packPx (d.headPixel m (d.format c) y.background y.palette stack p.1 p.2)))))

/-- HEAD_FRAME_BOUNDARY (R317, R319, R320, R326 to R333): the SWITCH_POINT cell of a head's frame is emitted, at a frame reference plus
PHASE_NS. Shadowed changes and flips apply, each layer shows the content of Table 11.1, and the picture is composed. `lost`: lines of flow
layers (engine, line of its rectangle) read poisoned or late. `probe`: the pixels whose composed colour is reported. -/
def execHeadFrameBoundary (dt head : Nat) (lost : List (Nat × Nat)) (probe : List (Nat × Nat)) (s : State) :
    Host.Outcome State Fault Refusal :=
  s.act fun d => d.live dt fun d =>
    match d.headOut head with
    | none => d
    | some c =>
      match d.headBoundary head c with
      | none => d
      | some t => if 12 ≤ head ∨ !d.running c then d else d.headFrame s.mem head c t lost probe

/-! ## Layer frames and runs -/

/-- LAYER_FRAME_COMPLETE (R322): the engine has completed a source frame in its store. `filled`: the spans (line of its rectangle, first pixel,
pixels) for which no cell came; each such line counts. With two frames complete and not shown the older one's buffer is written
over. -/
def execLayerFrameComplete (dt engine : Nat) (filled : List (Nat × Nat × Nat)) (s : State) : Host.Outcome State Fault Refusal :=
  s.act fun d => d.live dt fun d =>
    let x := d.layerSt engine
    match x.due with
    | [] => d
    | made :: rest =>
      let d := d.setLayer engine (fun x => { x with due := rest })
      let held := match d.store.alloc.find? (fun a => a.2.want.cls == 2 && a.2.want.tag == 0 && a.2.want.owner == engine) with
        | some a => a.2.held | none => 0
      if 192 ≤ engine ∨ !d.engineOk engine ∨ held = 0 then d
      else
        let spare := if 2 ≤ x.ready.length then 1 else 0
        let lines := ((filled.filter (fun r => r.2.2 != 0)).map (·.1)).eraseDups
        let f : LayerFrame := ⟨x.frames + 1, d.wall, made, filled⟩
        ((d.sat D.Layer.LOST_LINES engine lines.length).sat D.Layer.DROPS engine spare).setLayer engine (fun x =>
          { x with frames := x.frames + 1, ready := x.ready.drop spare ++ [f] })

/-- LAYER_RUN_START (R325): a run of the layer's source starts, and the engine evaluates the source's committed FORMAT where it differs
from the one the layer last took. -/
def execLayerRunStart (dt engine : Nat) (s : State) : Host.Outcome State Fault Refusal :=
  s.act fun d => d.live dt fun d =>
    match d.layerIn engine with
    | none => d
    | some c =>
      match (d.flowSt c).cur with
      | none => d
      | some m =>
        match d.sourceInfo m.efn with
        | none => d
        | some r =>
          if 192 ≤ engine ∨ !d.running c then d
          else
            let d := d.layerNewRun c
            if (d.layerSt engine).format = r.format then d else d.layerEval engine r.format true

/-! ## Veneers (R330) -/

/-- The header of a VENEER_WRITE (Table 11.9). -/
def veneerHeader (veneer x y w h : Nat) (back : Bool) : Nat :=
  (((((veneer % 65536 * 65536 + x % 65536) * 65536 + y % 65536) * 65536 + w % 65536) * 65536 + h % 65536) * 65536 + ofBool back * 32768) * 2 ^ 32

/-- A VENEER_WRITE: header and pixels (R330). -/
def Dev.veneerWrite (d : Dev) (v : Bytes) : Dev × Nat :=
  if v.len < 16 then (d, St.TYPE)
  else
    let hd := v.val / 256 ^ (v.len - 16)
    let n := bitsOf hd 112 16
    let x := bitsOf hd 96 16
    let y := bitsOf hd 80 16
    let w := bitsOf hd 64 16
    let h := bitsOf hd 48 16
    let back := bit hd 47
    if 512 ≤ n ∨ bitsOf hd 0 47 ≠ 0 ∨ w = 0 ∨ h = 0 then (d, St.RANGE)
    else if v.len ≠ 16 + 4 * w * h then (d, St.TYPE)
    else if !d.on D.VeneerCfg.ENABLE n ∨ d.rd D.VeneerCfg.WIDTH n < x + w ∨ d.rd D.VeneerCfg.HEIGHT n < y + h then (d, St.RANGE)
    else if back ∧ d.on D.VeneerStatus.FLIP_PENDING n then (d, St.BUSY)
    else
      match d.veneerAlloc n with
      | none => (d, St.OK)
      | some (hd, _) =>
        let buf := if !d.on D.VeneerCfg.DOUBLE n then 0 else if back then 1 - d.rd D.VeneerStatus.FRONT n else d.rd D.VeneerStatus.FRONT n
        let base := buf * d.veneerBlocks n * blockBytes
        (d.each (List.range h) (fun d j =>
          let row := bytesOf (4 * w) (v.val / 256 ^ (4 * w * (h - 1 - j)))
          d.storeSpan hd 3 (base + ((y + j) * d.rd D.VeneerCfg.WIDTH n + x) * 4) row), St.OK)

/-- VENEER_WRITE (R330). `pixels` are the W × H ARGB words, row by row from the top. -/
def execVeneerWrite (q : Rcp) (veneer x y w h : Nat) (back : Bool) (pixels : Nat) (s : State) : Host.Outcome State Fault Refusal :=
  let v : Bytes := ⟨16 + 4 * w * h, veneerHeader veneer x y w h back * 256 ^ (4 * w * h) + pixels % 256 ^ (4 * w * h)⟩
  s.actMem (serveDom (.veneerWrite q.again veneer x y w h back pixels) q 0x1010 0x03 0 v fun _ d => d.veneerWrite v)

/-- A VENEER_CMD (R330, Table 11.10). -/
def Dev.veneerCmd (d : Dev) (v : Nat) : Dev × Nat :=
  let n := bitsOf v 0 9
  if bitsOf v 24 8 ≠ 1 ∨ bitsOf v 9 15 ≠ 0 then (d, St.RANGE)
  else if !d.on D.VeneerCfg.ENABLE n ∨ !d.on D.VeneerCfg.DOUBLE n then (d, St.STATE)
  else if d.on D.VeneerStatus.FLIP_PENDING n then (d, St.BUSY)
  else if d.veneerHeads n = [] then (d.wr D.VeneerStatus.FRONT n (1 - d.rd D.VeneerStatus.FRONT n), St.OK)
  else ({ d with flip := d.flip ++ [(n, (⟨d.wall, d.veneerHeads n⟩ : FlipSt))] }.flag D.VeneerStatus.FLIP_PENDING n true, St.OK)

/-- VENEER_FLIP (R330). -/
def execVeneerFlip (q : Rcp) (veneer : Nat) (s : State) : Host.Outcome State Fault Refusal :=
  let v := 1 * 2 ^ 24 + veneer % 512
  s.act (serveWrite (.veneerFlip q.again veneer) q 0x1000 0x07 ⟨4, v⟩ fun _ d => d.veneerCmd v)

/-! ## Tally and engines -/

/-- A write of TALLY (R331, Table 11.15): BORDER_PX is 1 to 15 while ENABLE is 1. -/
def Dev.tallyWrite (d : Dev) (e v : Nat) : Dev × Nat :=
  if bit v 15 ∧ bitsOf v 8 4 = 0 then (d, St.RANGE)
  else ((d.wr D.Layer.TALLY e v).setLayer e (fun x => { x with tallies := x.tallies ++ [(d.wall, v)] }), St.OK)

/-- TALLY_WRITE (R331). -/
def execTallyWrite (q : Rcp) (engine value : Nat) (s : State) : Host.Outcome State Fault Refusal :=
  s.act (serveWrite (.tallyWrite q.again engine value) q (0x6000 + engine) 0x09 ⟨2, value⟩ fun _ d =>
    kept [⟨0x6000 + engine, 9, 0⟩] (d.tallyWrite engine value))

/-- CMP_ENGINE_FAIL (R334). -/
def execCmpEngineFail (dt engine : Nat) (s : State) : Host.Outcome State Fault Refusal :=
  s.act fun d => d.live dt fun d =>
    if 192 ≤ engine ∨ d.on D.LayerStatus.ENGINE_FAILED engine ∨ d.on D.LayerStatus.UNAVAILABLE engine then d
    else ((d.flag D.LayerStatus.ENGINE_FAILED engine true).raise Src.CMP_ENGINE_FAIL engine).knotAdd KnotKind.ENGINE KnotAct.RETIRED engine
      knotNone Src.CMP_ENGINE_FAIL 0

end Sys2Proof.Machine
end

