-- ==== Sys2Proof/Machine/Lanes.lean ====
section
/-! DEFINITION. Dowel lanes and groups at work: group states, bring-up steps, the rotation, spares, failure, the ensemble's state and
the group a member follows (R210 to R216, R220, R228, R239 to R246, R403). -/

namespace Sys2Proof.Machine

open Sys2Proof

/-! ## The expected peer (R215) -/

/-- The peer a group expects: member, card, group. -/
def Dev.expectedPeer (d : Dev) (g : Nat) : Option (Nat × Nat × Nat) :=
  let card := d.rd D.Straps.PLANE_B 0
  if g = 7 then some (d.me, 1 - card, 7)
  else (meshPeer d.ensSize d.me g).map (fun p => (p.1, card, p.2))

/-! ## The ensemble (R220) and the group followed (R403) -/

/-- The group a member follows: the lowest toward member 0 that is UP with BEACON_OK. -/
def Dev.followGroup (d : Dev) : Dev :=
  let g := if d.me = 0 then none else (d.groupsTo 0).find? (fun g => d.on D.GroupStatus.BEACON_OK g)
  d.wr D.RefArea.FOLLOW_GROUP 0 (g.getD 0xFF)

/-- Bit m of MEMBERS_UP: member m is reachable by a group that is UP. -/
def Dev.membersUp (d : Dev) : Nat :=
  sumOf (fun m => if (d.groupsTo m).isEmpty then 0 else 2 ^ m) (List.range 8)

/-- R220, R563: what follows a change of the groups: MEMBERS_UP, the groups that flows cross, and on the headstock ENSEMBLE_STATE. -/
def Dev.ensUpdate (d : Dev) : Dev :=
  let n := d.ensSize
  let d := (d.wr D.Ens.MEMBERS_UP 0 d.membersUp).followGroup.followGroups.report
  if !d.on D.Straps.HEAD 0 then d
  else if n = 1 then d.wr D.Ens.ENSEMBLE_STATE 0 0
  else
    let used := (List.range 7).filter (fun g => (groupOffsets n).getD g 0 != 0)
    let d := if d.dwl.upAt.isNone ∧ used.any (fun g => d.groupUp g) then d.setDwl (fun x => { x with upAt := some d.wall }) else d
    let all := d.dwl.reported && used.all (fun g => d.groupUp g)
    let reach := (List.range n).all (fun m => m == 0 || bit (d.rd D.Ens.MEMBERS_UP 0) m)
    let d := if all then d.setDwl (fun x => { x with complete := true }) else d
    d.wr D.Ens.ENSEMBLE_STATE 0 (if !d.dwl.complete then 1 else if all then 2
      else if reach ∧ d.rd D.Ens.ENSEMBLE_STATE 0 = 2 then 2 else 3)

/-- R488: the summary engine of the headstock sees that a member shows FAULT_VALID with a source, at a device time from which the
link delay has been taken. -/
def Dev.summarySee (d : Dev) (m src t : Nat) : Dev :=
  if !d.on D.Straps.HEAD 0 then d
  else
    let old := d.rd D.Summary.STICKY 0
    let p := t / 8000
    let d := (d.flag D.Summary.VALID 0 true).wr D.Summary.STICKY 0 (setBits old m 1 1)
    if 4 < d.ensSize ∨ bit old m then d
    else
      let first (d : Dev) := (d.wr D.Summary.FIRST_MEMBER 0 m).wr D.Summary.FIRST_SOURCE 0 src
      if !d.on D.Summary.FIRST_KNOWN 0 then
        first { d with flt := { d.flt with period := p } } |>.flag D.Summary.FIRST_KNOWN 0 true
      else if d.flt.period = p then
        let d := d.flag D.Summary.TIE 0 true
        if m < d.rd D.Summary.FIRST_MEMBER 0 then first d else d
      else d

/-! ## Group states (Table 07.10a) -/

/-- A group enters a state. -/
def Dev.groupState (d : Dev) (g st : Nat) : Dev :=
  ((d.wr D.GroupStatus.STATE g st).setDg g (fun x => { x with since := d.wall })).ensUpdate

/-- A lane powers down. -/
def Dev.laneOff (d : Dev) (e : Nat) : Dev :=
  let d := (d.laneTo e LaneState.OFF LaneUse.OFF).setDl e (fun _ => {})
  let d := ((d.wr D.DwlLane.RANK e 15).wr D.DwlLane.STEP e 0).wr D.DwlLane.ATTEMPTS e 0
  (d.flag D.LaneStatus.CDR_LOCKED (phyOf e) false).scanAbort (phyOf e)

/-- Every lane of a group is set up again at S0; lane 8 is the spare, and a lane with a standing knot entry stays FAILED (R523). -/
def Dev.groupTrain (d : Dev) (g : Nat) : Dev :=
  let d := d.setDg g (fun x => { bseq := x.bseq })
  let d := d.showRotation g []
  let d := d.each (lanesOf g) (fun d e =>
    let d := d.laneStart e
    let d := (d.setDl e (fun x => { x with spare := e % 9 == 8, fails := [] })).wr D.DwlLane.ATTEMPTS e 0
    if d.knotStands KnotKind.DOWEL_LANE KnotAct.RETIRED e ∨ d.knotStands KnotKind.DOWEL_LANE KnotAct.SPARE_IN e then
      (d.laneTo e LaneState.FAILED LaneUse.FAILED).setDl e (fun x => { x with dead := true })
    else d)
  d.groupState g GroupState.TRAINING

/-- A group's lanes power down. -/
def Dev.groupOff (d : Dev) (g st : Nat) : Dev :=
  let d := d.each (lanesOf g) (fun d e => d.laneOff e)
  let d := (d.setDg g (fun x => { bseq := x.bseq })).showRotation g []
  (d.flag D.GroupStatus.BEACON_OK g false).groupState g st

/-- Has the device taken what decides its groups: a member index for a mesh group, a position for the twin's? -/
def Dev.groupMay (d : Dev) (g : Nat) : Bool :=
  if g = 7 then d.rd D.Ens.POSITION 0 != 0xFF else d.rd D.Ens.MEMBER 0 != 0xFF

/-- The DISABLED rows of Table 07.10a, and ENABLE committed as 0: a group without a peer at this size is UNUSED, enabled or not. -/
def Dev.groupCheck (d : Dev) (g : Nat) : Dev :=
  let st := d.rd D.GroupStatus.STATE g
  if st = GroupState.UNUSED then d
  else if st = GroupState.DISABLED ∧ d.groupMay g ∧ d.expectedPeer g = none then d.groupOff g GroupState.UNUSED
  else if !d.on D.GroupCfg.ENABLE g then (if st = GroupState.DISABLED then d else d.groupOff g GroupState.DISABLED)
  else if st = GroupState.DISABLED ∧ d.groupMay g then
    match d.expectedPeer g with
    | none => d
    | some p =>
      let d := ((d.wr D.GroupStatus.PEER_MEMBER g p.1).wr D.GroupStatus.PEER_CARD g p.2.1).wr D.GroupStatus.PEER_GROUP g p.2.2
      (d.wr D.GroupStatus.SDI_RESERVE_MBPS g (if g = 7 then 0 else sdiShare d.ensSize g)).groupTrain g
  else d

/-- Every group is looked at. -/
def Dev.groupsCheck (d : Dev) : Dev := d.each (List.range 8) (fun d g => d.groupCheck g)

/-- The rotation has no lane left: DWL_GROUP_DOWN (Table 07.10a). -/
def Dev.groupDown (d : Dev) (g : Nat) : Dev :=
  ((d.setDg g (fun x => { bseq := x.bseq })).raise Src.DWL_GROUP_DOWN g).groupState g GroupState.TRAINING

/-! ## The rotation (R202, R241) -/

/-- The rotation becomes another. The items follow from a round at least 4 items ahead, named in lane markers on every lane of the new
rotation whose rank or count changes and on every lane that leaves; at once where the rotation was empty or `now` says so. `name` is the
LCOUNT_NEXT of the markers where the first item on the new lanes is a resent one (R243). -/
def Dev.rotate (d : Dev) (g : Nat) (ls : List Nat) (now : Bool) (name : Option Nat := none) : Dev :=
  let x := d.dg g
  let cur := match x.next with | some n => n.2 | none => x.lanes
  let at_ := if now ∨ cur = [] then x.txRound else (x.txRound + (if x.txRank = 0 then 4 else 5)) % 65536
  let d := d.setDg g (fun x => if now ∨ cur = [] then { x with lanes := ls, next := none, txRank := if x.txRank < ls.length then x.txRank else 0 }
    else { x with next := some (at_, ls) })
  let d := d.each (ls.filter (fun l => cur.length != ls.length || (cur.takeWhile (fun y => y != l)).length != (ls.takeWhile (fun y => y != l)).length))
    (fun d l => d.sendMarker g l (ls.takeWhile (fun y => y != l)).length (name.getD at_) ls.length)
  let d := d.each (cur.filter (fun l => !ls.contains l)) (fun d l => d.sendMarker g l 15 at_ ls.length)
  if now ∨ cur = [] then d.showRotation g ls else d

/-- The rotation that is in force or waits for its round. -/
def Dev.rotation (d : Dev) (g : Nat) : List Nat := match (d.dg g).next with | some n => n.2 | none => (d.dg g).lanes

/-! ## The spare (R239) -/

/-- Is a lane a ready spare: at S4, not FAILED, its filler errors of each of the last ten seconds within the limit? -/
def Dev.spareReady (d : Dev) (e : Nat) : Bool :=
  d.laneState e == LaneState.SPARE_PRBS && (d.dl e).filler.all (fun n => decide (n ≤ d.rd D.Phy.SPARE_ERR_PER_S 0))

/-- The ready spare of a group, as 9g + l. -/
def Dev.readySpare (d : Dev) (g : Nat) : Option Nat := (lanesOf g).find? (fun e => d.spareReady e)

/-- USE of a spare and the group's bit of DWL_SPARES_READY follow its readiness. -/
def Dev.showSpares (d : Dev) (g : Nat) : Dev :=
  let d := d.each (lanesOf g) (fun d e => if d.laneState e = LaneState.SPARE_PRBS then
    d.wr D.LaneStatus.USE (phyOf e) (if d.spareReady e then LaneUse.SPARE_READY else LaneUse.TRAINING) else d)
  d.wr D.Phy.DWL_SPARES_READY 0 (setBits (d.rd D.Phy.DWL_SPARES_READY 0) g 1 (ofBool (d.readySpare g).isSome))

/-! ## Climbing (R212 to R214) -/

/-- A lane has completed S4: it joins the rotation, or becomes the group's spare (R216, R239, R245). -/
def Dev.laneComplete (d : Dev) (e : Nat) : Dev :=
  let g := e / 9
  let x := d.dl e
  let d := if x.commanded ∧ (d.knotStands KnotKind.DOWEL_LANE KnotAct.RETIRED e ∨ d.knotStands KnotKind.DOWEL_LANE KnotAct.SPARE_IN e) then
      d.knotAdd KnotKind.DOWEL_LANE KnotAct.RESTORED e knotNone knotCommand 0 else d
  let d := (d.flag D.LaneStatus.SPARED (phyOf e) false).wr D.DwlLane.ATTEMPTS e 0
  let p := d.laneClock
  let d := d.setDl e (fun x => { x with fails := [], commanded := false, filler := [], offerTx := false, offerRx := false, due := [],
                                        free := p, skipped := p, marked := p })
  if x.spare then (d.laneTo e LaneState.SPARE_PRBS LaneUse.SPARE_READY).showSpares g
  else
    let d := (d.laneTo e LaneState.IN_ROTATION LaneUse.IN_SERVICE).rotate g (d.rotation g ++ [e % 9]) false
    if d.rd D.GroupStatus.STATE g = GroupState.TRAINING then 
      let d := (d.groupState g GroupState.UP).greet g
      -- the pairing block follows at once (R118)
      if g = 7 then { d with twin := { d.twin with sentAt := none } } else d
    else d.ensUpdate

/-- R213, R245: a bring-up step fails. After three failures at one step the lane stays FAILED. -/
def Dev.stepFailed (d : Dev) (e : Nat) : Dev :=
  let x := d.dl e
  let n := countIf (fun f => f == x.step) x.fails + 1
  let d := (d.sat D.DwlLaneCounters.STEP_FAILURES e 1).wr D.DwlLane.ATTEMPTS e n
  let d := d.setDl e (fun x => { x with fails := x.step :: x.fails })
  let d := d.laneStart e
  if n < 3 then d
  else
    let d := ((d.laneTo e LaneState.FAILED LaneUse.FAILED).setDl e (fun x => { x with dead := true })).raise Src.DWL_LANE_FAILED (phyOf e)
    let d := d.knotAdd KnotKind.DOWEL_LANE KnotAct.RETIRED e knotNone Src.DWL_LANE_FAILED 0
    d.showSpares (e / 9)

/-! ## Swaps and failures (R242 to R246) -/

/-- The spare takes a lane's rank: the counts of SWAPS, and what the two lanes then are. -/
def Dev.swapped (d : Dev) (e sp : Nat) : Dev :=
  let d := (d.add D.Phy.SWAPS 0 1).wr D.Phy.LAST_SWAP_LANE 0 (phyOf e)
  let d := (d.flag D.LaneStatus.SPARED (phyOf e) true).raise Src.DWL_SPARE_IN (phyOf e)
  let d := (d.laneTo sp LaneState.IN_ROTATION LaneUse.IN_SERVICE).setDl sp (fun x => { x with spare := false })
  (d.setDl e (fun x => { x with spare := true })).showSpares (e / 9)

/-- The rotation with one lane in place of another. -/
def putIn (ls : List Nat) (l by_ : Nat) : List Nat := ls.map (fun x => if x = l then by_ else x)

/-- R242: a lane in the rotation is swapped out for the ready spare; while it awaits a replay the swap waits (R246). The lane then
climbs again from S0 (R245). -/
def Dev.swapOut (d : Dev) (e sp : Nat) : Dev :=
  if (d.dl e).await then d.setDl e (fun x => { x with swap := true })
  else
    let g := e / 9
    let d := (d.rotate g (putIn (d.rotation g) (e % 9) (sp % 9)) false).swapped e sp
    -- what waits on the lane, its marker among it, still leaves
    let d := d.setDl e (fun x => { sent := x.sent, spare := x.spare, rxRank := x.rxRank, rxNext := x.rxNext, since := d.wall, due := x.due,
                                   free := x.free, skipped := x.skipped, marked := x.marked })
    (d.laneTo e LaneState.TRAINING LaneUse.TRAINING).wr D.DwlLane.STEP e 0

/-- A swap that is under way onto a lane: the round it names, and the lane the spare is to replace, still in the rotation. -/
def Dev.swapOnto (d : Dev) (e : Nat) : Option (Nat × Nat) :=
  let x := d.dg (e / 9)
  match x.next with
  | none => none
  | some (n, ls) =>
    if x.lanes.contains (e % 9) then none
    else (x.lanes.find? (fun l => ls == putIn x.lanes l (e % 9) && d.laneState (9 * (e / 9) + l) == LaneState.TRAINING)).map (fun l => (n, l))

/-- R246: a swap is abandoned and the lane keeps its rank; a marker with that rank and the round the swap named says so to the peer. -/
def Dev.abandonSwap (d : Dev) (g l n : Nat) : Dev :=
  let e := 9 * g + l
  let ls := (d.dg g).lanes
  let d := d.setDg g (fun x => { x with next := none })
  let d := (d.laneTo e LaneState.IN_ROTATION LaneUse.IN_SERVICE).setDl e (fun x => { x with spare := false, step := 4, dwelt := true })
  let d := (d.wr D.DwlLane.STEP e 4).flag D.LaneStatus.SPARED (phyOf e) false
  (d.sendMarker g l (ls.takeWhile (fun y => y != l)).length n ls.length).showSpares g

/-- A lane that is no longer in the rotation, or the spare, fails. -/
def Dev.spareFail (d : Dev) (e : Nat) : Dev :=
  let d := (d.laneTo e LaneState.FAILED LaneUse.FAILED).flag D.LaneStatus.CDR_LOCKED (phyOf e) false
  ((d.setDl e (fun _ => { spare := true, since := d.wall })).scanAbort (phyOf e)).showSpares (e / 9)

/-- A lane of the rotation fails (R243, R244): the ready spare takes its rank and the item expected is asked for on it; with no ready
spare the remaining lanes are ranked anew; a spare that fails during a swap gives it up (R246). -/
def Dev.laneFail (d : Dev) (e : Nat) : Dev :=
  let g := e / 9
  match d.swapOnto e with
  | some (n, l) => (d.spareFail e).abandonSwap g l n
  | none =>
  let l := e % 9
  let rx := (d.dl e).rxRank
  let count := d.rd D.DwlLane.LCOUNT_RX e
  let d := (d.laneTo e LaneState.FAILED LaneUse.FAILED).flag D.LaneStatus.CDR_LOCKED (phyOf e) false
  let d := (d.scanAbort (phyOf e)).setDl e (fun x => { sent := x.sent, spare := x.spare, since := d.wall })
  match d.readySpare g with
  | some sp =>
    let d := ((d.rotate g (putIn (d.rotation g) l (sp % 9)) true).swapped e sp).setDl sp (fun x => { x with rxRank := rx, await := true })
    ((d.wr D.DwlLane.LCOUNT_RX sp count).sat D.DwlLaneCounters.REPLAY_REQ_SENT sp 1).sendRequest sp l count
  | none =>
    let ls := (d.rotation g).filter (fun x => x != l)
    let d := d.setDg g (fun x => { x with gone := if rx < 15 then (rx, count) :: x.gone else x.gone })
    let other := (lanesOf g).any (fun y => y != e && (d.dl y).spare && d.laneState y != LaneState.FAILED)
    let d := (d.setDl e (fun x => { x with spare := !other })).raise Src.DWL_LANE_FAILED (phyOf e)
    if ls = [] then (d.showRotation g []).groupDown g else d.rotate g ls false

end Sys2Proof.Machine
end

