-- ==== Sys2Proof/Machine/ResetCore.lean ====
section
/-! DEFINITION. Asking for a reset (R492, R494, R497), and what a reset covers. -/

namespace Sys2Proof.Machine

open Sys2Proof

/-- Reaches (R492). -/
def Reach.POR : Nat := 0
def Reach.COLD : Nat := 1
def Reach.WARM : Nat := 2
def Reach.DOMAIN : Nat := 3
def Reach.BLOCK : Nat := 4

/-- What a BLOCK reset can target (R493). -/
def Target.LANE : Nat := 1
def Target.PORT : Nat := 2
def Target.GROUP : Nat := 3
def Target.PLANE : Nat := 4
def Target.TILE : Nat := 5
def Target.ENGINE : Nat := 6
def Target.HEAD : Nat := 7
def Target.CHAN : Nat := 8
def Target.DPLL : Nat := 9

/-- The enabled egress contexts. -/
def Dev.egress (d : Dev) : List Nat := d.enabled.filter (fun c => decide (4096 ≤ c))

/-- A reset is requested (R494). Before a COLD or WARM asserts, every output is forced into safe state (R492). -/
def Dev.request (d : Dev) (reach src detail dom inst : Nat) : Dev :=
  let r : Reset := ⟨reach, src, detail, dom, inst, d.now, d.wall, 0⟩
  let d := { d with rst := { d.rst with entering := d.rst.entering ++ [r] } }
  if reach = Reach.COLD ∨ reach = Reach.WARM then d.each d.egress (fun d c => d.safeNow c) else d

end Sys2Proof.Machine
end

