-- ==== Sys2Proof/Machine/Security.lean ====
section
/-! DEFINITION. Ownership, attestation and the debug lock: OWNER_CMD_ENROL to DEBUG_TOKEN (R439 to R445, R450 to R453). -/

namespace Sys2Proof.Machine

open Sys2Proof

/-- R449: device time is traceable. -/
def Dev.traceable (d : Dev) : Bool := d.time.traced

/-- R442: seconds left of the enrolment window, 0 while it is closed. -/
def Dev.enrolLeft (d : Dev) : Nat :=
  match d.sec.windowAt with
  | some t => if d.rd D.Sec.OWNER_STATE 0 = 0 ∧ d.wall < t + 600000000000 then ceilDiv (t + 600000000000 - d.wall) 1000000000 else 0
  | none => 0

/-- R443: the device draws a new OWNER_NONCE. -/
def Dev.newNonce (d : Dev) : Dev := (d.wr D.Sec.OWNER_NONCE 0 d.freeVal).drawn

/-- An owner command (Table 16.3): KIND and its fields, as 8,644 bytes. -/
def ownerValue (kind nonce policy pub newSig ownerSig : Nat) : Nat :=
  pack [(8, kind), (24, 0), (256, nonce), (256, policy), (15616, pub), (26472, newSig), (24, 0), (26472, ownerSig), (24, 0)]

/-- R444: the status of the first check that fails, OK when none does. -/
def Dev.ownerCheck (d : Dev) (w : Who) (v : Nat) : Nat :=
  let f := bytesAt 8644 v
  let kind := f 0 1
  let pub := f 68 1952
  let msg : Bytes := ⟨2052, f 0 2020 * 2 ^ 256 + Config.identityDigest % 2 ^ 256⟩
  let enrolled := d.on D.Sec.OWNER_STATE 0
  let owner := d.rd D.Sec.OWNER_PUBLIC 0
  let clean := f 1 3 == 0 && f 5329 3 == 0 && f 8641 3 == 0 && (kind != 3 || (f 36 32 == 0 && pub == 0 && f 2020 3309 == 0))
    && (kind != 1 || f 5332 3309 == 0)
  if !(kind == 1 || kind == 2 || kind == 3) || !clean then St.RANGE
  else if f 4 32 ≠ d.rd D.Sec.OWNER_NONCE 0 then St.AUTH
  else if kind = 1 ∧ (enrolled ∨ d.enrolLeft = 0) then St.STATE
  else if kind ≠ 1 ∧ enrolled = false then St.NOT_OWNER
  else if kind ≠ 1 ∧ w.role < 4 then St.ACCESS
  else if (kind ≠ 3 ∧ Config.mldsaVerify pub msg (f 2020 3309) = false)
      ∨ (kind ≠ 1 ∧ Config.mldsaVerify owner msg (f 5332 3309) = false) then St.AUTH
  else if kind ≠ 3 ∧ (policyBad (f 36 32) || !(Dict.row 0x0200 6).any (fun r => r.chk.ok (f 36 32))) then St.RANGE
  else St.OK

/-- R444: the change of ownership is recorded, and every session ends, the one that asked last. -/
def Dev.ownerChange (d : Dev) (w : Who) (v : Nat) : Dev :=
  let f := bytesAt 8644 v
  let kind := f 0 1
  let policy := if kind = 3 then policyReset else f 36 32
  let pub := f 68 1952
  let d := d.writeOwner (kind != 3) d.now policy pub
  let d := match d.owner with | some r => d.showOwner r | none => d
  let d := { d with sec := { d.sec with windowAt := if kind = 3 then some d.wall else none } }
  let d := d.changeM 7 d.ownerDigest
  let d := d.event 4 (kind * 2 ^ 120 + (if kind = 3 then 0 else digest 1952 pub / 2 ^ 136))
  let ids := d.rcp.sessions.map (fun x => x.id)
  let d := d.each (ids.filter (· != w.session)) (fun d i => d.closeSession i)
  d.closeSession w.session

/-- R443, R444: a write of OWNER_CMD. A new nonce is drawn whatever its outcome. -/
def Dev.ownerCmd (d : Dev) (w : Who) (v : Bytes) : Dev × Nat :=
  if v.len ≠ 8644 then (d, St.TYPE)
  else
    let st := d.ownerCheck w v.val
    if st ≠ St.OK then (d.newNonce, st)
    else if d.pwrWarn then (d, St.DEFER)
    else ((d.ownerChange w v.val).newNonce, St.OK)

/-- OWNER_CMD_ENROL (R444). -/
def execOwnerCmdEnrol (q : Rcp) (nonce policy pub sig : Nat) (s : State) : Host.Outcome State Fault Refusal :=
  let v : Bytes := ⟨8644, ownerValue 1 nonce policy pub sig 0⟩
  s.act (serveDom (.ownerCmdEnrol q.again nonce policy pub sig) q 0x0200 0x08 0 v fun w d => d.ownerCmd w v)

/-- OWNER_CMD_TRANSFER (R444). -/
def execOwnerCmdTransfer (q : Rcp) (nonce policy pub newSig ownerSig : Nat) (s : State) : Host.Outcome State Fault Refusal :=
  let v : Bytes := ⟨8644, ownerValue 2 nonce policy pub newSig ownerSig⟩
  s.act (serveDom (.ownerCmdTransfer q.again nonce policy pub newSig ownerSig) q 0x0200 0x08 0 v fun w d => d.ownerCmd w v)

/-- OWNER_CMD_RELEASE (R444). -/
def execOwnerCmdRelease (q : Rcp) (nonce ownerSig : Nat) (s : State) : Host.Outcome State Fault Refusal :=
  let v : Bytes := ⟨8644, ownerValue 3 nonce 0 0 0 ownerSig⟩
  s.act (serveDom (.ownerCmdRelease q.again nonce ownerSig) q 0x0200 0x08 0 v fun w d => d.ownerCmd w v)

/-- ENROL_WINDOW_EXPIRY (R442). -/
def execEnrolWindowExpiry (dt : Nat) (s : State) : Host.Outcome State Fault Refusal :=
  s.act fun d =>
    let d := d.elapse dt
    match d.sec.windowAt with
    | some t => if d.past t 600000000000 then { d with sec := { d.sec with windowAt := none } } else d
    | none => d

/-! ## Attestation -/

/-- The first 392 bytes of a quote (Table 16.9). -/
def Dev.quoteBody (d : Dev) (nonce : Nat) : Nat :=
  let flags := ofBool (d.on D.Sec.OWNER_STATE 0) * 128 + ofBool (d.rd D.Upd.UPDATE_STATE 0 == 3) * 64
    + ofBool (d.rd D.Sec.DEBUG_STATE 0 == 2) * 32 + ofBool d.rst.recovery * 16 + ofBool d.traceable * 8
  pack ([(32, 0x51554F54), (16, 1), (16, 0), (256, nonce), (64, d.now), (32, d.rd D.Ident.BOOT_COUNT 0), (8, d.sec.arc), (8, flags),
    (8, d.sec.started), (8, 0), (128, Config.serial)] ++ (List.range 10).map (fun k => (256, d.meas k)))

/-- R451: a write of ATTEST_NONCE makes a quote of the state at the write, signed with the identity key. -/
def Dev.makeQuote (d : Dev) (nonce : Nat) : Dev :=
  let b := d.quoteBody nonce
  { d with sec := { d.sec with quote := some (b * 2 ^ 26472 + Config.identitySign ⟨392, b⟩ % 2 ^ 26472) } }

/-- ATTEST_NONCE (R451). -/
def execAttestNonce (q : Rcp) (nonce : Nat) (s : State) : Host.Outcome State Fault Refusal :=
  s.act (serveWrite (.attestNonce q.again nonce) q 0x0200 0x0B ⟨32, nonce⟩ fun _ d => (d.makeQuote nonce, St.OK))

/-! ## The debug lock -/

/-- R453: a write of DEBUG_TOKEN, 3,360 bytes: SERIAL, OWNER_NONCE, the owner's signature over both. The NOT_OWNER case is
the role check of every OWNER entry (R442). -/
def Dev.debugCmd (d : Dev) (v : Bytes) : Dev × Nat :=
  let f := bytesAt 3360 v.val
  if v.len ≠ 3360 then (d, St.TYPE)
  else if d.on D.Policy.DEBUG_ALLOWED 0 = false then (d, St.STATE)
  else if f 0 16 ≠ Config.serial ∨ f 16 32 ≠ d.rd D.Sec.OWNER_NONCE 0 ∨ f 3357 3 ≠ 0
      ∨ Config.mldsaVerify (d.rd D.Sec.OWNER_PUBLIC 0) ⟨48, f 0 48⟩ (f 48 3309) = false then (d, St.AUTH)
  else
    let d := if d.rd D.Sec.DEBUG_STATE 0 = 2 then d else d.wr D.Sec.DEBUG_STATE 0 1
    ({ d with sec := { d.sec with token := some (digest 3360 v.val) } }, St.OK)

/-- DEBUG_TOKEN (R453). -/
def execDebugToken (q : Rcp) (serial nonce sig : Nat) (s : State) : Host.Outcome State Fault Refusal :=
  let v : Bytes := ⟨3360, pack [(128, serial), (256, nonce), (26472, sig), (24, 0)]⟩
  s.act (serveDom (.debugToken q.again serial nonce sig) q 0x0200 0x0F 0 v fun _ d => d.debugCmd v)

end Sys2Proof.Machine
end

