-- ==== Sys2Proof/Machine/Update.lean ====
section
/-! DEFINITION. Firmware update: manifests and slots, update sessions, activation, trial, acceptance and fallback (R454 to
R472), UPDATE_BEGIN to RECOVERY_INTERVAL_END. -/

namespace Sys2Proof.Machine

open Sys2Proof

/-- Update states (Table 16.12). -/
def Upd.IDLE : Nat := 0
def Upd.RECEIVING : Nat := 1
def Upd.ACTIVATING : Nat := 2
def Upd.TRIAL : Nat := 3
def Upd.FALLING_BACK : Nat := 4
def Upd.ARMED : Nat := 5

/-- UPDATE_STATE. -/
def Dev.upd (d : Dev) : Nat := d.rd D.Upd.UPDATE_STATE 0

/-- Enter an update state. -/
def Dev.updTo (d : Dev) (st : Nat) : Dev := d.wr D.Upd.UPDATE_STATE 0 st

/-- Change the security core's state. -/
def Dev.setSec (d : Dev) (f : SecSt → SecSt) : Dev := { d with sec := f d.sec }

/-! ## Manifests (R454 to R457) -/

/-- Bytes of image entry i of a manifest, kind i + 1 (Table 16.11). -/
def imgField (m i off n : Nat) : Nat := manField m (32 + 64 * i + off) n

/-- SVN of a manifest. -/
def manSvn (m : Nat) : Nat := manField m 7 1

/-- Two images lie apart in the slot. -/
def imgApart (m i j : Nat) : Bool :=
  i == j || decide (imgField m i 16 4 + imgField m i 20 4 ≤ imgField m j 16 4)
    || decide (imgField m j 16 4 + imgField m j 20 4 ≤ imgField m i 16 4)

/-- Table 16.13, MANIFEST_IN check 1. -/
def manifestForm (m : Nat) : Bool :=
  manField m 0 4 == 0x4D414E46 && manField m 4 2 == 1 && manField m 6 1 == 5
    && (List.range 5).all (fun i =>
      imgField m i 0 1 == i + 1 && imgField m i 16 4 % 4096 == 0 && decide (8192 ≤ imgField m i 16 4) && decide (1 ≤ imgField m i 20 4)
        && decide (imgField m i 16 4 + imgField m i 20 4 ≤ 26214400) && (List.range 5).all (fun j => imgApart m i j))

/-- VENDOR_SIG verifies with the firmware key in ROM (R455). -/
def vendorSigned (factory : Bool) (m : Nat) : Bool :=
  factory || Config.mldsaVerify Config.firmwareKey ⟨352, manField m 0 352⟩ (manField m 352 3309)

/-- OWNER_SIG verifies with OWNER_PUB (R455). -/
def Dev.ownerSigned (d : Dev) (factory : Bool) (m : Nat) : Bool :=
  !factory && d.on D.Sec.OWNER_STATE 0
    && Config.mldsaVerify (d.rd D.Sec.OWNER_PUBLIC 0) ⟨352, manField m 0 352⟩ (manField m 3664 3309)

/-- R455: a manifest is acceptable under the policy in force. -/
def Dev.acceptable (d : Dev) (factory : Bool) (m : Nat) : Bool :=
  let v := vendorSigned factory m
  let o := d.ownerSigned factory m
  ((v && d.on D.Policy.ACCEPT_VENDOR 0) || (o && d.on D.Policy.ACCEPT_OWNER 0)) && (!d.on D.Policy.REQUIRE_BOTH 0 || (v && o))

/-- R456: SVN lies below the anti-rollback counter. -/
def Dev.rolledBack (d : Dev) (m : Nat) : Bool := d.sec.arc != 0 && decide (manSvn m < d.sec.arc)

/-- Every image of a slot matches its DIGEST. -/
def Dev.imagesOk (d : Dev) (k : Nat) : Bool :=
  let x := d.slot k
  let m := d.manifest k
  x.factory || (x.manifest.isSome && (List.range 5).all (fun i => x.images.any (fun (g : Nat × Bytes) =>
    g.1 == i + 1 && g.2.len == imgField m i 20 4 && digest g.2.len g.2.val == imgField m i 32 32)))

/-- R470: a slot verifies. -/
def Dev.verifies (d : Dev) (k : Nat) : Bool :=
  let x := d.slot k
  (x.factory || x.manifest.isSome) && (x.state != ImgState.EMPTY && x.state != ImgState.WRITING) && d.acceptable x.factory (d.manifest k)
    && !d.rolledBack (d.manifest k) && d.imagesOk k

/-- R457: the images of kinds 1 to 5, taken from the slots listed, form a compatible set. -/
def Dev.compatible (d : Dev) (l : List Nat) : Bool :=
  (List.range 5).all (fun a => (List.range 5).all (fun b =>
    let need := imgField (d.manifest (l.getD a 0)) a (4 + 2 * b) 2
    let has := imgField (d.manifest (l.getD b 0)) b 2 2
    need == 0 || (need / 256 == has / 256 && decide (need % 256 ≤ has % 256))))

/-- DIGEST of the image of a kind (1 to 5) in a slot. -/
def Dev.imgDigest (d : Dev) (slot kind : Nat) : Nat := imgField (d.manifest slot) (kind - 1) 32 32

/-- R462: the kinds an in-service activation replaces, in its order; an image whose DIGEST equals the running one is skipped. -/
def Dev.kindsToDo (d : Dev) (slot : Nat) : List Nat :=
  [2, 3, 4, 5, 1].filter (fun k => d.imgDigest slot k != d.imgDigest (d.sec.source.getD (k - 1) 0) k)

/-- R462: every mix an in-service activation passes through. -/
def mixes (slot : Nat) : List Nat → List Nat → List (List Nat)
  | _, [] => []
  | l, k :: t => let l' := l.set (k - 1) slot; l' :: mixes slot l' t

/-- R464: does a manifest's MGT image read a settings format? -/
def readsFormat (m f : Nat) : Bool :=
  f == manField m 12 2 || (List.range 4).any (fun i => manField m (16 + 2 * i) 2 != 0 && manField m (16 + 2 * i) 2 == f)

/-! ## Boot control (R438, R469) -/

/-- Write boot control over the copy with the lower GENERATION. -/
def Dev.writeBoot (d : Dev) (f : BootRec → BootRec) : Dev :=
  let a := d.sec.boot0
  let b := d.sec.boot1
  let r := { f d.boot with valid := true, gen := max (if a.valid then a.gen else 0) (if b.valid then b.gen else 0) + 1 }
  if !a.valid || (b.valid && decide (a.gen ≤ b.gen)) then d.setSec (fun x => { x with boot0 := r })
  else d.setSec (fun x => { x with boot1 := r })

/-- The entries show boot control. -/
def Dev.showBoot (d : Dev) : Dev :=
  (d.wr D.Upd.CONFIRMED_SLOT 0 d.boot.confirmed).wr D.Upd.TRIAL_SLOT 0 d.boot.trial

/-- An event record of firmware (Table 19.11, KIND 0x03). -/
def Dev.fwEvent (d : Dev) (what slot : Nat) : Dev :=
  let m := d.manifest slot
  d.event 3 (pack [(8, what), (8, slot), (8, manSvn m), (8, 0), (32, manField m 8 4), (64, 0)])

/-! ## Settings at a change of image (R464, R468) -/

/-- Does the journal keep an entry: P, of RW or CW access? -/
def persistKey (k : Key) : Bool :=
  match Dict.row k.ix k.sub with
  | some r => r.pers && (r.acc == 1 || r.acc == 4)
  | none => false

/-- R426, R432, R445: the persistent entries as the records give them: the settings area and the journal, and before them the
network identity record, with the journal's later groups, and the ownership record. -/
def Dev.loadSettings (d : Dev) (slot : Nat) : Dev :=
  let vals := (d.rebuilt slot).filter (fun (x : Key × Nat) => persistKey x.1 && !netIdKey x.1 && !(x.1.ix == 0x0200 && x.1.sub == 6))
  let net := match d.netId with
    | some r => (d.replay r.gen []).filter (fun (x : Key × Nat) => netIdKey x.1)
    | none => []
  let m := match d.netId with | some r => (r.frameId, r.net) | none => (0, MgNet.defaults)
  let d := { d with dict := applyItems (d.dict.filter (fun (x : Key × Nat) => !persistKey x.1)) vals }
  let d := (d.wr D.Ident.FRAME_ID 0 m.1).setMgNet m.2
  let d := { d with dict := applyItems d.dict net }
  match d.owner with
  | some r => d.showOwner r
  | none => d

/-- R464: a newly activated image's settings: the running slot's, converted; defaults where their format is not read. -/
def Dev.newSettings (d : Dev) (old new : Nat) : Dev :=
  let s := d.settings old
  let m := d.manifest new
  let f := manField m 12 2
  if !s.valid || readsFormat m s.format || ((d.slot new).factory && (d.slot old).factory) then
    (d.writeSettings new ⟨true, f, s.gen, s.vals⟩).flag D.Upd.SETTINGS_DEFAULTED 0 false
  else
    ((d.writeSettings new ⟨true, f, s.gen, []⟩).flag D.Upd.SETTINGS_DEFAULTED 0 true).raise Src.MGT_SETTINGS_DEFAULT 0

/-! ## Update sessions (R458 to R460, R471) -/

/-- R458: the checks of who asks. -/
def Dev.updateWho (d : Dev) (w : Who) : Option Nat :=
  if w.role < d.rd D.Policy.UPDATE_ROLE 0 then some St.ACCESS
  else if d.upd = Upd.RECEIVING ∧ d.rd D.Upd.UPDATE_HOLDER 0 ≠ w.session then some St.BUSY
  else if d.pwrWarn then some St.DEFER
  else none

/-- The holder has written. -/
def Dev.holderHeard (d : Dev) (w : Who) : Dev := if d.updateHolds w.session then d.setSec (fun x => { x with heardAt := d.wall }) else d

/-- LAST_RESULT shows the outcome of a check of Table 16.13. -/
def Dev.result (d : Dev) (st : Nat) : Dev × Nat := (d.wr D.Upd.LAST_RESULT 0 st, st)

/-- R459, R471: BEGIN. -/
def Dev.updateBegin (d : Dev) (w : Who) : Dev × Nat :=
  if d.upd ≠ Upd.IDLE then (d, St.STATE)
  else if d.rst.recovery then
    (d.setSec (fun x => { x with candidates := x.candidates.filter (fun c => c.session != w.session) ++ [⟨w.session, w.via, none⟩] }), St.OK)
  else
    let d := d.setSlot d.targetSlot (fun _ => {})
    let d := (d.updTo Upd.RECEIVING).wr D.Upd.UPDATE_HOLDER 0 w.session
    (d.setSec (fun x => { x with heardAt := d.wall }), St.OK)

/-- Table 16.13, MANIFEST_IN. -/
def Dev.manifestCheck (d : Dev) (v : Bytes) : Nat :=
  if v.len ≠ 6976 ∨ manifestForm v.val = false then St.FORMAT
  else if d.acceptable false v.val = false then St.AUTH
  else if manSvn v.val < d.sec.arc then St.ROLLBACK
  else St.OK

/-- The target slot keeps a manifest; images kept before are discarded (Table 16.12). -/
def Dev.keepManifest (d : Dev) (m : Nat) : Dev :=
  d.setSlot d.targetSlot (fun _ => { state := ImgState.WRITING, manifest := some m })

/-- R458 to R460, R471: a write of MANIFEST_IN. -/
def Dev.manifestIn (d : Dev) (w : Who) (v : Bytes) : Dev × Nat :=
  match d.updateWho w with
  | some st => (d, st)
  | none =>
    let d := d.holderHeard w
    if d.upd = Upd.RECEIVING then
      let st := d.manifestCheck v
      (if st = St.OK then d.keepManifest v.val else d).result st
    else if d.rst.recovery ∧ d.sec.candidates.any (fun c => c.session == w.session) = true then
      let st := d.manifestCheck v
      (if st = St.OK then
        d.setSec (fun x => { x with candidates := x.candidates.map (fun c =>
          if c.session = w.session then { c with manifest := some (v.val, d.wall) } else c) })
       else d).result st
    else (d, St.STATE)

/-- R458 to R460: a write of the image of a kind. -/
def Dev.imageIn (d : Dev) (w : Who) (kind : Nat) (v : Bytes) : Dev × Nat :=
  match d.updateWho w with
  | some st => (d, st)
  | none =>
    let d := d.holderHeard w
    if d.upd ≠ Upd.RECEIVING then (d, St.STATE)
    else
      match (d.slot d.targetSlot).manifest with
      | none => d.result St.STATE
      | some m =>
        if v.len ≠ imgField m (kind - 1) 20 4 then d.result St.FORMAT
        else if digest v.len v.val ≠ imgField m (kind - 1) 32 32 then d.result St.AUTH
        else
          (d.setSlot d.targetSlot (fun x => { x with images := x.images.filter (fun (g : Nat × Bytes) => g.1 != kind) ++ [(kind, v)] })).result
            St.OK

/-- R459: END. -/
def Dev.updateEnd (d : Dev) : Dev × Nat :=
  if d.upd ≠ Upd.RECEIVING ∨ d.imagesOk d.targetSlot = false then (d, St.STATE)
  else
    let d := d.setSlot d.targetSlot (fun x => { x with state := ImgState.READY })
    ((d.updTo Upd.IDLE).wr D.Upd.UPDATE_HOLDER 0 0, St.OK)

/-- R459: ABORT. -/
def Dev.updateAbort (d : Dev) : Dev × Nat :=
  if d.upd = Upd.RECEIVING then (d.updateDrop, St.OK)
  else if d.upd = Upd.ARMED then
    (((d.writeBoot (fun b => { b with trial := 0xFF, kind := 0, started := 0 })).updTo Upd.IDLE).showBoot, St.OK)
  else (d, St.STATE)

/-! ## Activation (R461, R462) -/

/-- Table 16.13, ACTIVATE. -/
def Dev.activateCheck (d : Dev) (inService : Bool) : Nat :=
  let k := d.targetSlot
  let m := d.manifest k
  if (d.slot k).state ≠ ImgState.READY ∨ d.rcp.group.isSome = true then St.STATE
  else if d.acceptable (d.slot k).factory m = false ∨ d.imagesOk k = false then St.AUTH
  else if d.rolledBack m then St.ROLLBACK
  else if !d.compatible [k, k, k, k, k] then St.INCOMPATIBLE
  else if inService && (!(mixes k d.sec.source (d.kindsToDo k)).all (fun l => d.compatible l) || !readsFormat m d.runFormat) then
    St.INCOMPATIBLE
  else St.OK

/-- R462: the next image is replaced: its controller restarts (R494, source 0x09). With none left, the trial starts. -/
def Dev.nextStep (d : Dev) : Dev :=
  match d.sec.todo with
  | [] =>
    let k := d.boot.trial
    let d := d.setSlot k (fun x => { x with state := ImgState.TRIAL })
    let d := d.setSec (fun x => { x with restarting := none, trialAt := d.wall, trialKind := 1, running := k })
    d.updTo Upd.TRIAL
  | kind :: _ =>
    let d := d.setSec (fun x => { x with restarting := some kind, stepAt := d.wall })
    let d := if kind = 5 then { d with rcp := { d.rcp with opens := [] } } else d
    d.each (if kind = 1 then [0, 1, 2, 3] else [kind + 2]) (fun d m => d.request Reach.DOMAIN 0x09 0 m 0)

/-- R462: ACTIVATE_IN_SERVICE. -/
def Dev.activateInService (d : Dev) : Dev × Nat :=
  if d.rst.recovery ∨ d.upd ≠ Upd.IDLE then (d, St.STATE)
  else
    let st := d.activateCheck true
    if st ≠ St.OK then d.result st
    else
      let k := d.targetSlot
      let d := d.compact.newSettings d.settingsSlot k
      let d := d.writeBoot (fun b => { b with trial := k, kind := 1, started := 1 })
      let d := (d.updTo Upd.ACTIVATING).showBoot
      let d := d.setSec (fun x => { x with before := x.source, steps := [], todo := d.kindsToDo k })
      (d.fwEvent 1 k).nextStep.result St.OK

/-- R461: ACTIVATE_RESTART. In recovery start-up the device resets itself at once (R471). -/
def Dev.activateRestart (d : Dev) : Dev × Nat :=
  if d.upd ≠ Upd.IDLE then (d, St.STATE)
  else
    let st := d.activateCheck false
    if st ≠ St.OK then d.result st
    else
      let k := d.targetSlot
      let d := d.writeBoot (fun b => { b with trial := k, kind := 2, started := 0 })
      let d := ((d.updTo Upd.ARMED).showBoot.fwEvent 2 k)
      (if d.rst.recovery then d.request Reach.WARM 0x08 0 0 0 else d).result St.OK

/-! ## Trial, acceptance and fallback (R465 to R468) -/

/-- R456, R467: slots whose SVN now lies below ARC become INVALID. -/
def Dev.invalidate (d : Dev) : Dev :=
  d.each [0, 1, 2] (fun d k =>
    let x := d.slot k
    if (x.factory || x.manifest.isSome) && d.rolledBack (d.manifest k) then d.setSlot k (fun x => { x with state := ImgState.INVALID }) else d)

/-- R467: the trial slot is accepted. -/
def Dev.accept (d : Dev) : Dev :=
  let k := d.boot.trial
  let svn := manSvn (d.manifest k)
  let arc := max d.sec.arc (min 64 svn)
  let d := d.writeBoot (fun b => { b with confirmed := k, trial := 0xFF, kind := 0, started := 0, arcTarget := max b.arcTarget arc })
  let d := d.setSec (fun x => { x with arc := arc })
  let d := d.setSlot k (fun x => { x with state := ImgState.CONFIRMED })
  let d := d.setSlot (1 - k) (fun x => { x with state := if x.state = ImgState.CONFIRMED then ImgState.READY else x.state })
  let d := d.invalidate
  let d := if d.sec.big then (d.setSlot 2 (fun x => { x with state := ImgState.WRITING })).setSec (fun x => { x with copying := true }) else d
  (((d.updTo Upd.IDLE).showBoot).setSec (fun x => { x with trialKind := 0 })).fwEvent 3 k

/-- The measurements of running images of the kinds listed follow their sources. -/
def Dev.measureKinds (d : Dev) (l : List Nat) : Dev :=
  d.each l (fun d k => d.changeM (k + 1) (d.imgDigest (d.sec.source.getD (k - 1) 0) k))

/-- R468: what every fallback does beside restoring images. -/
def Dev.fallbackCounts (d : Dev) (slot : Nat) : Dev :=
  ((d.add D.Upd.FALLBACKS 0 1).raise Src.MGT_FW_FALLBACK 0).fwEvent 4 slot

/-- R468: the journal ring is erased; its GENERATION numbering goes on. -/
def Dev.eraseJournal (d : Dev) : Dev :=
  ({ d with flash := { d.flash with journal := [], used := 0 } }).wr D.Rcp.JOURNAL_USED_PCT 0 0

/-- R459: REJECT, or the end of the trial with AUTO_ACCEPT 0. -/
def Dev.reject (d : Dev) : Dev := d.updTo Upd.FALLING_BACK

/-- R33, R468: a MODE that a fallback gives another value than the one in effect waits to take it (R428); `o` is the device before the
fallback, and other waits end with the writes that began them. -/
def Dev.modesBack (o d : Dev) : Dev :=
  let l := [0x0400, 0x0500, 0x0600, 0x0700, 0x0800, 0x0A00, 0x0B00, 0x0C00, 0x0E00].filterMap (fun ix =>
    let k : Key := ⟨ix, 1, 0⟩
    if o.ent k = d.ent k then none else some (ix, d.ent k))
  let d := { d with rcp := { d.rcp with waiting := l } }
  d.each (l.map (fun (x : Nat × Nat) => x.1)) (fun d ix => d.setEnt ⟨ix, 1, 0⟩ (o.ent ⟨ix, 1, 0⟩))

/-- R468: a fallback after a trial of kind 1 completes. -/
def Dev.fallbackLive (d : Dev) : Dev :=
  let k := d.boot.trial
  let steps := d.sec.steps
  let d := d.setSec (fun x => { x with source := x.before, steps := [], running := d.boot.confirmed, trialKind := 0 })
  let d := (d.measureKinds steps.reverse).eraseJournal
  let d := d.setSlot k (fun x => { x with state := ImgState.READY })
  let d := d.writeBoot (fun b => { b with trial := 0xFF, kind := 0, started := 0 })
  let d := Dev.modesBack d (d.loadSettings d.settingsSlot)
  ((d.updTo Upd.IDLE).showBoot).fallbackCounts k

/-- R471: the device resets itself into recovery start-up. -/
def Dev.recover (d : Dev) : Dev := ({ d with rst := { d.rst with recoverNext := true } }).request Reach.WARM 0x08 0 0 0

/-- R458, R459, R471: a write of UPDATE_CMD (Table 16.20). -/
def Dev.updateCmd (d : Dev) (w : Who) (v : Nat) : Dev × Nat :=
  let cmd := bitsOf v 24 8
  if v % 2 ^ 24 ≠ 0 ∨ cmd = 0 ∨ 8 < cmd then (d, St.RANGE)
  else
    match d.updateWho w with
    | some st => (d, st)
    | none =>
      let d := d.holderHeard w
      if cmd = 1 then d.updateBegin w
      else if cmd = 2 then d.updateEnd
      else if cmd = 3 then d.updateAbort
      else if cmd = 4 then d.activateInService
      else if cmd = 5 then d.activateRestart
      else if cmd = 6 then (if d.upd = Upd.TRIAL then (d.accept, St.OK) else (d, St.STATE))
      else if cmd = 7 then (if d.upd = Upd.TRIAL then (d.reject, St.OK) else (d, St.STATE))
      else (d.recover, St.OK)

/-! ## The rows -/

/-- UPDATE_BEGIN (R459). -/
def execUpdateBegin (q : Rcp) (s : State) : Host.Outcome State Fault Refusal :=
  s.act (serveWrite (.updateBegin q.again) q 0x0300 2 ⟨4, 1 * 2 ^ 24⟩ fun w d => d.updateCmd w (1 * 2 ^ 24))

/-- MANIFEST_IN (R460). -/
def execManifestIn (q : Rcp) (v : Nat) (s : State) : Host.Outcome State Fault Refusal :=
  s.act (serveDom (.manifestIn q.again v) q 0x0300 6 0 ⟨6976, v⟩ fun w d => d.manifestIn w ⟨6976, v⟩)

/-- IMAGE_WRITE (R460). -/
def execImageWrite (q : Rcp) (kind : Nat) (v : Bytes) (s : State) : Host.Outcome State Fault Refusal :=
  s.act (serveDom (.imageWrite q.again kind v) q 0x0301 kind 0 v fun w d => d.imageIn w kind v)

/-- UPDATE_END (R459). -/
def execUpdateEnd (q : Rcp) (s : State) : Host.Outcome State Fault Refusal :=
  s.act (serveWrite (.updateEnd q.again) q 0x0300 2 ⟨4, 2 * 2 ^ 24⟩ fun w d => d.updateCmd w (2 * 2 ^ 24))

/-- UPDATE_ABORT (R459). -/
def execUpdateAbort (q : Rcp) (s : State) : Host.Outcome State Fault Refusal :=
  s.act (serveWrite (.updateAbort q.again) q 0x0300 2 ⟨4, 3 * 2 ^ 24⟩ fun w d => d.updateCmd w (3 * 2 ^ 24))

/-- UPDATE_IDLE_EXPIRY (R458). -/
def execUpdateIdleExpiry (dt : Nat) (s : State) : Host.Outcome State Fault Refusal :=
  s.act fun d =>
    let d := d.elapse dt
    if d.upd = Upd.RECEIVING ∧ d.past d.sec.heardAt (d.rd D.Upd.UPDATE_IDLE_S 0 * 1000000000) then d.updateDrop else d

/-- ACTIVATE_IN_SERVICE (R462). -/
def execActivateInService (q : Rcp) (s : State) : Host.Outcome State Fault Refusal :=
  s.act (serveWrite (.activateInService q.again) q 0x0300 2 ⟨4, 4 * 2 ^ 24⟩ fun w d => d.updateCmd w (4 * 2 ^ 24))

/-- The bound of an activation step (R462). -/
def stepBound (kind : Nat) : Nat := if kind = 1 then 500000000 else 100000000

/-- ACTIVATION_STEP_DONE (R462). -/
def execActivationStepDone (dt : Nat) (s : State) : Host.Outcome State Fault Refusal :=
  s.act fun d =>
    let d := d.elapse dt
    match d.sec.restarting with
    | none => d
    | some k =>
      if d.upd ≠ Upd.ACTIVATING ∨ d.past (d.sec.stepAt + 1) (stepBound k) then d
      else
        let d := d.setSec (fun x => { x with source := x.source.set (k - 1) d.boot.trial, steps := x.steps ++ [k], todo := x.todo.tail,
                                             restarting := none })
        (d.measureKinds [k]).nextStep

/-- ACTIVATION_STEP_TIMEOUT (R462). -/
def execActivationStepTimeout (dt : Nat) (s : State) : Host.Outcome State Fault Refusal :=
  s.act fun d =>
    let d := d.elapse dt
    match d.sec.restarting with
    | none => d
    | some k =>
      if d.upd ≠ Upd.ACTIVATING ∨ !d.past d.sec.stepAt (stepBound k) then d
      else
        let steps := d.sec.steps
        let d := d.setSec (fun x => { x with source := x.before, steps := [], todo := [], restarting := none })
        let d := (d.measureKinds steps.reverse).writeBoot (fun b => { b with trial := 0xFF, kind := 0, started := 0 })
        (((d.raise Src.MGT_FW_FALLBACK 0).raise Src.MGT_CORE_FAIL 0).updTo Upd.IDLE).showBoot

/-- ACTIVATE_RESTART (R461). -/
def execActivateRestart (q : Rcp) (s : State) : Host.Outcome State Fault Refusal :=
  s.act (serveWrite (.activateRestart q.again) q 0x0300 2 ⟨4, 5 * 2 ^ 24⟩ fun w d => d.updateCmd w (5 * 2 ^ 24))

/-- UPDATE_ACCEPT (R467). -/
def execUpdateAccept (q : Rcp) (s : State) : Host.Outcome State Fault Refusal :=
  s.act (serveWrite (.updateAccept q.again) q 0x0300 2 ⟨4, 6 * 2 ^ 24⟩ fun w d => d.updateCmd w (6 * 2 ^ 24))

/-- UPDATE_REJECT (R468). -/
def execUpdateReject (q : Rcp) (s : State) : Host.Outcome State Fault Refusal :=
  s.act (serveWrite (.updateReject q.again) q 0x0300 2 ⟨4, 7 * 2 ^ 24⟩ fun w d => d.updateCmd w (7 * 2 ^ 24))

/-- UPDATE_RECOVER (R471). -/
def execUpdateRecover (q : Rcp) (s : State) : Host.Outcome State Fault Refusal :=
  s.act (serveWrite (.updateRecover q.again) q 0x0300 2 ⟨4, 8 * 2 ^ 24⟩ fun w d => d.updateCmd w (8 * 2 ^ 24))

/-- TRIAL_TIMER_END (R459). -/
def execTrialTimerEnd (dt : Nat) (s : State) : Host.Outcome State Fault Refusal :=
  s.act fun d =>
    let d := d.elapse dt
    if d.inReset ∨ d.pwrWarn ∨ d.upd ≠ Upd.TRIAL ∨ !d.past d.sec.trialAt (d.rd D.Upd.TRIAL_S 0 * 1000000000) then d
    else if d.on D.Upd.AUTO_ACCEPT 0 then d.accept else d.reject

/-- FALLBACK_DONE (R468): after a trial of kind 1; one of kind 2 falls back at start-up. -/
def execFallbackDone (dt : Nat) (s : State) : Host.Outcome State Fault Refusal :=
  s.act fun d =>
    let d := d.elapse dt
    if d.inReset ∨ d.upd ≠ Upd.FALLING_BACK ∨ d.sec.trialKind ≠ 1 then d else d.fallbackLive

/-- SLOT_R_COPY_DONE (R467). -/
def execSlotRCopyDone (dt : Nat) (s : State) : Host.Outcome State Fault Refusal :=
  s.act fun d =>
    let d := d.elapse dt
    if d.inReset ∨ d.sec.copying = false then d
    else
      let x := d.slot d.boot.confirmed
      (d.setSlot 2 (fun _ => { x with state := ImgState.READY })).setSec (fun x => { x with copying := false })

/-- R471: of the candidates whose manifests passed in the interval, the one on the lower port, then the earlier. -/
def bestCandidate (l : List Candidate) (since : Nat) : Option (Candidate × Nat) :=
  l.foldl (fun (b : Option (Candidate × Nat × Nat)) (c : Candidate) =>
    match c.manifest with
    | none => b
    | some (m, t) =>
      if t < since then b
      else match b with
        | none => some (c, m, t)
        | some (c', m', t') => if c.via < c'.via ∨ (c.via = c'.via ∧ t < t') then some (c, m, t) else some (c', m', t')) none
  |>.map (fun (x : Candidate × Nat × Nat) => (x.1, x.2.1))

/-- RECOVERY_INTERVAL_END (R471). -/
def execRecoveryIntervalEnd (dt : Nat) (s : State) : Host.Outcome State Fault Refusal :=
  s.act fun d =>
    let d := d.elapse dt
    if d.inReset ∨ d.rst.recovery = false ∨ !d.past d.sec.intervalAt 1000000000 then d
    else
      let since := d.sec.intervalAt
      let d := d.setSec (fun x => { x with intervalAt := d.wall })
      if d.upd ≠ Upd.IDLE then d
      else
        match bestCandidate d.sec.candidates since with
        | none => d
        | some (c, m) =>
          let d := (d.keepManifest m).setSec (fun x => { x with candidates := [], heardAt := d.wall })
          (d.updTo Upd.RECEIVING).wr D.Upd.UPDATE_HOLDER 0 c.session

end Sys2Proof.Machine
end

