-- ==== Sys2Proof/Machine/Faults.lean ====
section
/-! DEFINITION. The fault collector: latching, reactions, clearing, the first-error capture, ERR_N, injection (R475 to R489),
FAULT_LATCH to ERRN_MIN_EXPIRY. -/

namespace Sys2Proof.Machine

open Sys2Proof

/-- Change the collector's state. -/
def Dev.setFlt (d : Dev) (f : FltSt → FltSt) : Dev := { d with flt := f d.flt }

/-- A named source: any other number is reserved and never latches (R475). -/
def sourceNamed (src : Nat) : Bool := Src.table.any (fun t => t.1 == src)

/-- R485: SOURCE_CFG is being reloaded, and default reactions apply. -/
def Dev.reloading (d : Dev) : Bool :=
  match d.flt.reloadAt with
  | some t => decide (d.wall < t + 10000)
  | none => false

/-- The configuration FLT applies to a source. -/
def Dev.sourceCfg (d : Dev) (src : Nat) : Nat :=
  if d.reloading then Dict.sourceDefault src else d.ent (D.Src.SOURCE_CFG.key src)

/-- A one-bit field of a source's configuration (Table 17.9). -/
def Dev.cfgOn (d : Dev) (f : Fld) (src : Nat) : Bool := bit (d.sourceCfg src) f.lo

/-- An enabled source with ERRPIN is pending (R487). -/
def Dev.errPending (d : Dev) : Bool :=
  Src.table.any (fun t => d.on D.SourceStatus.PENDING t.1 && d.cfgOn D.SourceCfg.ENABLE t.1 && d.cfgOn D.SourceCfg.ERRPIN t.1)

/-- R487: ERR_N is driven low. -/
def Dev.errnFall (d : Dev) : Dev :=
  if d.flt.errnLow then d
  else (d.setFlt (fun x => { x with errnLow := true, errnAt := d.wall })).flag D.Flt.ERRN_STATE 0 true |>.emit (.pin Pin.ERR_N 0)

/-- R487: ERR_N is released when no pending source holds it, no POR stands, and it has been low long enough. -/
def Dev.errnRise (d : Dev) : Dev :=
  if d.flt.errnLow = false ∨ d.errPending = true ∨ d.rst.asserted.any (fun r => decide (r.reach = 0)) = true
      ∨ !d.past d.flt.errnAt (d.rd D.Flt.ERRN_MIN_US 0 * 1000) then d
  else (d.setFlt (fun x => { x with errnLow := false })).flag D.Flt.ERRN_STATE 0 false |>.emit (.pin Pin.ERR_N 1)

/-! ## Reactions (R477 to R481) -/

/-- The domain that stands for the whole block of a source: its subsystem controller, or management core 0. -/
def blockDomain (src : Nat) : Nat :=
  let g := src / 16
  if g = 5 then 7 else if g = 8 ∨ g = 9 then 6 else if g = 20 ∨ g = 21 then 5 else if g = 10 ∨ g = 15 ∨ g = 16 then 4 else 0

/-- What a BLKRST of a source and instance resets: a BLOCK instance, or none where R478 names the whole block. -/
def Dev.blkTarget (d : Dev) (src inst : Nat) : Option (Nat × Nat) :=
  match sourceKind src with
  | 1 => some (Target.LANE, inst)
  | 2 => some (Target.PORT, inst)
  | 3 => if d.kind inst = 0x41 then some (Target.LANE, d.bindIx inst)
      else if Kind.netTx (d.kind inst) then some (Target.PORT, d.bindIx inst) else none
  | 4 => some (Target.CHAN, inst)
  | 5 => some (Target.TILE, d.rd D.Tile.PHYS_TILE inst)
  | 6 => some (Target.ENGINE, inst)
  | 10 => some (Target.DPLL, inst)
  | 11 => some (Target.GROUP, inst)
  | 12 => some (Target.PLANE, inst)
  | _ => none

/-- R478, R484: BLKRST, at most 3 of one instance in any 60 s. -/
def Dev.blkrst (d : Dev) (src inst : Nat) : Dev :=
  let t := (d.blkTarget src inst).getD (0, blockDomain src)
  let seen := d.flt.blk.filter (fun x => decide (d.wall < x.2.2 + 60000000000))
  if 3 ≤ countIf (fun (x : Nat × Nat × Nat) => x.1 == t.1 && x.2.1 == t.2) seen then
    (d.setFlt (fun x => { x with blk := seen })).raise Src.FLT_RESET_STORM src
  else
    let d := d.setFlt (fun x => { x with blk := seen ++ [(t.1, t.2, d.wall)] })
    if t.1 = 0 then d.request Reach.DOMAIN 0x06 0 t.2 0 else d.request Reach.BLOCK 0x06 0 t.1 t.2

/-- SAFE of a source: outputs in its scope are forced, and stay forced while it is pending (R481, R483). -/
def Dev.safeReact (d : Dev) (src inst : Nat) : Dev :=
  let d := d.setFlt (fun x => { x with holding := x.holding ++ [(src, inst)] })
  (d.flag D.SourceStatus.SAFE_HOLDING src true).forceScope src inst

/-- R477 to R479, R485: the reactions of an enabled source whose PENDING has gone to 1. With MODE 1, BLKRST and CHIPRST are the
host's, and IRQ is raised whatever is configured. Of CHIPRST and BLKRST, CHIPRST is taken. -/
def Dev.react (d : Dev) (src inst : Nat) : Dev :=
  let host := d.rd D.Flt.MODE 0 == 1
  let d := if host || d.cfgOn D.SourceCfg.IRQ src then d.setFlt (fun x => { x with irq := x.irq + 1 }) else d
  let d := if d.cfgOn D.SourceCfg.TRAP src then d.setFlt (fun x => { x with trap := x.trap + 1 }) else d
  let d := if d.cfgOn D.SourceCfg.SAFE src then d.safeReact src inst else d
  let d := if d.cfgOn D.SourceCfg.ERRPIN src then d.errnFall else d
  if host then d
  else if d.cfgOn D.SourceCfg.CHIPRST src then d.request Reach.WARM 0x05 src 0 0
  else if d.cfgOn D.SourceCfg.BLKRST src then d.blkrst src inst
  else d

/-- Set the first-error capture (Table 17.8) and note its event (Table 19.11). -/
def Dev.capture (d : Dev) (src inst : Nat) (injected : Bool) : Dev :=
  let d := (((d.flag D.FirstError.VALID 0 true).flag D.FirstError.INJECTED 0 injected).wr D.FirstError.SOURCE 0 src).wr
    D.FirstError.INSTANCE 0 inst
  let d := d.wr D.FirstError.TIME 0 d.now
  d.event 2 (d.ent (D.FirstError.VALID.key 0))

/-- R485, R486: a latch enters the first-error capture: the first one fills it; of latches in the same nanosecond the lowest source
number does; every other one counts as a later latch. -/
def Dev.firstError (d : Dev) (src inst : Nat) (injected : Bool) : Dev :=
  if d.on D.FirstError.VALID 0 = false then (d.capture src inst injected).summarySee 0 src d.now
  else
    let d := (d.flag D.FirstError.OVERFLOW 0 true).sat D.FirstError.OVERFLOW_COUNT 0 1
    if d.rd D.FirstError.TIME 0 = d.now ∧ src < d.rd D.FirstError.SOURCE 0 then
      let shown := d.on D.Straps.HEAD 0 && d.on D.Summary.FIRST_KNOWN 0 && d.rd D.Summary.FIRST_MEMBER 0 == 0 && d.flt.period == d.now / 8000
      let d := d.capture src inst injected
      if shown then d.wr D.Summary.FIRST_SOURCE 0 src else d
    else d

/-- R476, R477: FLT latches a source. -/
def Dev.latch (d : Dev) (src inst : Nat) (lasting injected : Bool) : Dev :=
  if !sourceNamed src then d
  else
    let was := d.on D.SourceStatus.PENDING src
    let d := (d.flag D.SourceStatus.PENDING src true).sat D.SourceStatus.COUNT src 1
    let d := ((d.wr D.SourceStatus.LAST_TIME src d.now).wr D.SourceStatus.INSTANCE src inst).flag D.SourceStatus.INJECTED src injected
    let d := if lasting then
        (d.setFlt (fun x => { x with active := if x.active.contains (src, inst) then x.active else x.active ++ [(src, inst)] })).flag
          D.SourceStatus.ACTIVE src true
      else d
    let d := if src = Src.FLT_CFG_PARITY then d.setFlt (fun x => { x with reloadAt := some d.wall }) else d
    if !d.cfgOn D.SourceCfg.ENABLE src then d
    else
      let d := if d.rd D.Flt.CAPTURE_MIN_SEV 0 ≤ bitsOf (d.sourceCfg src) D.SourceCfg.SEV.lo 2 then d.firstError src inst injected else d
      if was then d else d.react src inst

/-- Take one raising event of a source off the queue. -/
def takeRaise (src inst : Nat) : List Raise → List Raise
  | [] => []
  | r :: t => if r.src = src ∧ r.inst = inst then t else r :: takeRaise src inst t

/-- FAULT_LATCH (R476): a raising event of a source reaches FLT, one the device has queued or one of a block's own hardware. -/
def execFaultLatch (dt src inst : Nat) (lasting : Bool) (s : State) : Host.Outcome State Fault Refusal :=
  s.act fun d =>
    let d := d.elapse dt
    let long := lasting || d.raised.any (fun r => r.src == src && r.inst == inst && r.lasting)
    let d := { d with raised := takeRaise src inst d.raised }
    if d.inCold then d else d.latch src inst long false

/-- R476: a lasting condition of a source and instance ends. -/
def Dev.endActive (d : Dev) (src inst : Nat) : Dev :=
  let d := d.setFlt (fun x => { x with active := x.active.filter (fun a => !(a.1 == src && a.2 == inst)) })
  if d.flt.active.any (fun a => a.1 == src) then d else d.flag D.SourceStatus.ACTIVE src false

/-- FAULT_CONDITION_END (R476): ACTIVE clears when no condition of the source is left; PENDING stays. -/
def execFaultConditionEnd (dt src inst : Nat) (s : State) : Host.Outcome State Fault Refusal :=
  s.act fun d =>
    let d := d.elapse dt
    let d := { d with ended := d.ended.filter (fun a => !(a.1 == src && a.2 == inst)) }
    if d.inCold || !sourceNamed src then d else d.endActive src inst

/-! ## Clearing (R484) and commands (Table 17.7) -/

/-- Clear PENDING of one source; one whose ACTIVE is 1 stays pending. -/
def Dev.clearSource (d : Dev) (src : Nat) : Dev :=
  if d.on D.SourceStatus.ACTIVE src then d
  else
    let d := (d.flag D.SourceStatus.PENDING src false).flag D.SourceStatus.SAFE_HOLDING src false
    d.setFlt (fun x => { x with holding := x.holding.filter (fun h => h.1 != src) })

/-- R488: SUMMARY_CLEAR: the summary is cleared; a capture of the headstock's own that stands is sampled again. -/
def Dev.summaryClear (d : Dev) : Dev :=
  let d := d.setEnt (D.Summary.VALID.key 0) 0
  if d.on D.FirstError.VALID 0 then d.summarySee 0 (d.rd D.FirstError.SOURCE 0) d.now else d

/-- R489: INJECT is accepted in the device's present state. -/
def Dev.injectAllowed (d : Dev) : Bool := d.on D.Straps.TEST_MODE 0 && d.rd D.Sec.DEBUG_STATE 0 == 2

/-- A fault command's bytes (Table 17.7). -/
def faultValue (cmd src inst : Nat) : Nat := pack [(8, cmd), (9, src), (15, 0), (16, inst), (16, 0)]

/-- R484 to R491: a write of FAULT_CMD. -/
def Dev.faultCmd (d : Dev) (w : Who) (v : Nat) : Dev × Nat :=
  let cmd := bitsOf v 56 8
  let src := bitsOf v 47 9
  let inst := bitsOf v 16 16
  if 6 ≤ cmd ∧ cmd ≤ 8 ∧ w.role < 3 then (d, St.ACCESS)
  else if cmd = 0 ∨ 8 < cmd ∨ bitsOf v 32 15 ≠ 0 ∨ v % 2 ^ 16 ≠ 0 then (d, St.RANGE)
  else if cmd = 1 then (if sourceNamed src then ((d.clearSource src).errnRise, St.OK) else (d, St.RANGE))
  else if cmd = 2 then
    (if 400 ≤ src then (d, St.RANGE)
     else ((d.each (pick 16 (fun _ => true)) (fun d i => d.clearSource (src / 16 * 16 + i))).errnRise, St.OK))
  else if cmd = 3 then ((d.each (Src.table.map (fun t => t.1)) (fun d i => d.clearSource i)).errnRise, St.OK)
  else if cmd = 4 then (d.setEnt (D.FirstError.VALID.key 0) 0, St.OK)
  else if cmd = 5 then
    (if d.on D.Straps.HEAD 0 then (d.summaryClear, St.OK) else (d, St.STATE))
  else if cmd = 6 then (if sourceNamed src then (d.blkrst src inst, St.OK) else (d, St.RANGE))
  else if cmd = 7 then (d.request Reach.WARM 0x05 src 0 0, St.OK)
  else if !d.injectAllowed then (d, St.STATE)
  else if !sourceNamed src then (d, St.RANGE)
  else ((d.latch src inst false true).raise Src.FLT_INJECTED 0, St.OK)

/-- FAULT_CMD_CLEAR (R484). -/
def execFaultCmdClear (q : Rcp) (src : Nat) (s : State) : Host.Outcome State Fault Refusal :=
  s.act (serveWrite (.faultCmdClear q.again src) q 0x0400 2 ⟨8, faultValue 1 src 0⟩ fun w d => d.faultCmd w (faultValue 1 src 0))

/-- FAULT_CMD_CLEAR_GROUP (R484). -/
def execFaultCmdClearGroup (q : Rcp) (src : Nat) (s : State) : Host.Outcome State Fault Refusal :=
  s.act (serveWrite (.faultCmdClearGroup q.again src) q 0x0400 2 ⟨8, faultValue 2 src 0⟩ fun w d => d.faultCmd w (faultValue 2 src 0))

/-- FAULT_CMD_CLEAR_ALL (R484). -/
def execFaultCmdClearAll (q : Rcp) (s : State) : Host.Outcome State Fault Refusal :=
  s.act (serveWrite (.faultCmdClearAll q.again) q 0x0400 2 ⟨8, faultValue 3 0 0⟩ fun w d => d.faultCmd w (faultValue 3 0 0))

/-- FAULT_CMD_FIRST_CLEAR (R486). -/
def execFaultCmdFirstClear (q : Rcp) (s : State) : Host.Outcome State Fault Refusal :=
  s.act (serveWrite (.faultCmdFirstClear q.again) q 0x0400 2 ⟨8, faultValue 4 0 0⟩ fun w d => d.faultCmd w (faultValue 4 0 0))

/-- FAULT_CMD_SUMMARY_CLEAR (R488). -/
def execFaultCmdSummaryClear (q : Rcp) (s : State) : Host.Outcome State Fault Refusal :=
  s.act (serveWrite (.faultCmdSummaryClear q.again) q 0x0400 2 ⟨8, faultValue 5 0 0⟩ fun w d => d.faultCmd w (faultValue 5 0 0))

/-- FAULT_CMD_BLKRST (R479, R484). -/
def execFaultCmdBlkrst (q : Rcp) (src inst : Nat) (s : State) : Host.Outcome State Fault Refusal :=
  s.act (serveWrite (.faultCmdBlkrst q.again src inst) q 0x0400 2 ⟨8, faultValue 6 src inst⟩ fun w d => d.faultCmd w (faultValue 6 src inst))

/-- FAULT_CMD_CHIPRST (R479). -/
def execFaultCmdChiprst (q : Rcp) (src : Nat) (s : State) : Host.Outcome State Fault Refusal :=
  s.act (serveWrite (.faultCmdChiprst q.again src) q 0x0400 2 ⟨8, faultValue 7 src 0⟩ fun w d => d.faultCmd w (faultValue 7 src 0))

/-- FAULT_CMD_INJECT (R489). -/
def execFaultCmdInject (q : Rcp) (src inst : Nat) (s : State) : Host.Outcome State Fault Refusal :=
  s.act (serveWrite (.faultCmdInject q.again src inst) q 0x0400 2 ⟨8, faultValue 8 src inst⟩ fun w d => d.faultCmd w (faultValue 8 src inst))

/-- ERRN_MIN_EXPIRY (R487). -/
def execErrnMinExpiry (dt : Nat) (s : State) : Host.Outcome State Fault Refusal :=
  s.act fun d => (d.elapse dt).errnRise

end Sys2Proof.Machine
end

