-- ==== Sys2Proof/Machine/NetRx.lean ====
section
/-! DEFINITION. Network ports on receive: sorting a frame, RTP acceptance, policing, the ST 2022-7 merge, silent legs (R171 to R182). -/

namespace Sys2Proof.Machine

open Sys2Proof

/-! ## Ports and legs -/

/-- A receive leg: port, interface, destination, source, UDP port. -/
structure Leg where
  port : Nat
  iface : Nat
  dst : Nat
  src : Nat
  udp : Nat
  deriving DecidableEq, Repr

/-- Leg A of a receive context. -/
def Dev.legA (d : Dev) (c : Nat) : Leg :=
  ⟨d.bindIx c, d.rd D.NetRxCfg.LEG_A_IF c, d.rd D.NetRxCfg.DEST_A c, d.rd D.NetRxCfg.SRC_A c, d.rd D.NetRxCfg.UDP_A c⟩

/-- Leg B of a receive context. -/
def Dev.legB (d : Dev) (c : Nat) : Leg :=
  ⟨d.rd D.NetRxCfg.LEG_B_PORT c, d.rd D.NetRxCfg.LEG_B_IF c, d.rd D.NetRxCfg.DEST_B c, d.rd D.NetRxCfg.SRC_B c, d.rd D.NetRxCfg.UDP_B c⟩

/-- Has the context a second leg? -/
def Dev.twoLegs (d : Dev) (c : Nat) : Bool := d.on D.NetRxCfg.LEG_B_ENABLE c

/-- R171: does a frame match a leg? -/
def Dev.matchesLeg (d : Dev) (l : Leg) (f : NetFrame) : Bool :=
  f.what == 0 && f.port == l.port && d.ifVlan l.port l.iface == some f.vlan && f.dst == l.dst && f.udp == l.udp
    && (l.src == 0 || f.src == l.src)

/-- Network receive contexts in STARTING, RUNNING or STOPPING. -/
def Dev.rxActive (d : Dev) : List Nat := d.active.filter (fun c => decide (c < 4096) && Kind.netRx (d.kind c) && d.rd D.Flow.STATE c != 0)

/-- The context a frame goes to, and whether by leg A (Table 06.2, order 5). -/
def Dev.rxMatch (d : Dev) (f : NetFrame) : Option (Nat × Bool) :=
  match d.rxActive.find? (fun c => d.matchesLeg (d.legA c) f) with
  | some c => some (c, true)
  | none => match d.rxActive.find? (fun c => d.twoLegs c && d.matchesLeg (d.legB c) f) with
    | some c => some (c, false)
    | none => none

/-- The groups the legs of an interface contribute: group and source (0 any). -/
def Dev.contributions (d : Dev) (port iface : Nat) : List (Nat × Nat) :=
  (d.rxActive.map (fun c =>
    let a := d.legA c
    let b := d.legB c
    (if a.port = port ∧ a.iface = iface ∧ isMulticast a.dst then [(a.dst, a.src)] else [])
      ++ (if d.twoLegs c ∧ b.port = port ∧ b.iface = iface ∧ isMulticast b.dst then [(b.dst, b.src)] else []))).flatten

/-- The groups that an interface is a member of: those its receive legs contribute (R167), and its own. -/
def Dev.groupsOf (d : Dev) (port iface : Nat) : List Nat :=
  (d.contributions port iface).map (fun x => x.1) ++ d.ownGroups (8 * port + iface)

/-- Table 06.2, order 2: is a destination MAC the port's, broadcast, or of a membership? -/
def Dev.macOk (d : Dev) (port iface mac : Nat) : Bool :=
  mac == 2 ^ 48 - 1 || (d.groupsOf port iface).any (fun g => groupMac g == mac) || mac == portMac port

/-! ## Acceptance -/

/-- Width of the sequence number of a context (R173). -/
def Dev.seqWidth (d : Dev) (c : Nat) : Nat := if d.kind c = 2 then 32 else 16

/-- Bytes a context's buffer holds. -/
def Dev.rxHeld (d : Dev) (c : Nat) : Nat :=
  let x := d.netRxSt c
  sumOf (fun h => h.pkt.media.len) x.held + sumOf (fun a => sumOf (fun p => p.2.1.len) a.pieces) x.asm

/-- Bytes a context's buffer has room for (R176, R182). -/
def Dev.rxRoom (d : Dev) (c : Nat) : Nat := d.rxPages c * 4096 + sumOf (fun w => w.full * blockBytes) (d.wantsRx c)

/-- Credit of the burst allowance now, in 1/9,000 byte: at reservation R Mbit/s of cells a media byte takes 9,000 / R ns (R178). -/
def Dev.credit (d : Dev) (c : Nat) : Nat :=
  min (64 * 256 * 9000) ((d.flowSt c).burst + (d.wall - (d.flowSt c).burstAt) * d.rd D.Flow.RESERVED_MBPS c)

/-- R178: does a compressed or ancillary context exceed its reservation with n more bytes? -/
def Dev.polices (d : Dev) (c n : Nat) : Bool := (d.kind c == 3 || d.kind c == 6) && decide (d.credit c < n * 9000)

/-- Take n bytes from the allowance. -/
def Dev.spend (d : Dev) (c n : Nat) : Dev :=
  if d.kind c = 3 ∨ d.kind c = 6 then
    let b := d.credit c - n * 9000
    d.setFlow c (fun x => { x with burst := b, burstAt := d.wall })
  else d

/-- R62: does a packet open a frame? An ST 2110-20 one with the first row of field 0, or with a row of field 0 after a packet that ended a
frame; any other but audio the one after a packet that ended a frame, or of a later frame than the one before it. -/
def Dev.opensFrame (d : Dev) (c : Nat) (p : Pkt) : Bool :=
  let k := d.kind c
  let ended := match (d.netRxSt c).before with | some (t, m) => m || (k != 7 && decide (0 < sdiff p.ts t 32)) | none => false
  if k = 4 ∨ k = 5 then true
  else if k = 2 then (match p.rows.head? with | some r => r.1 == 0 && (ended || (r.2.1 == 0 && r.2.2.1 == 0)) | none => false)
  else ended

/-- A packet that passed its sequence check is placed into the cell stream of a context in a run, from the first that opens a frame on
(R62). -/
def Dev.place (d : Dev) (c : Nat) (p : Pkt) (lost : Nat) : Dev :=
  if d.polices c (p.media.len + 2) then d.sat D.NetRxCounters.POLICED c 1
  else
    let d := (d.spend c (p.media.len + 2)).wr D.NetRxStatus.LAST_RTP_TS c p.ts
    let opens := d.running c && (d.flowSt c).begun && ((d.netRxSt c).opened || d.opensFrame c p)
    let from_ := (d.netRxSt c).opened
    let d := d.setNetRx c (fun x => { x with opened := x.opened || opens, before := some (p.ts, p.marker) })
    if opens then d.depack c p (if from_ then lost else 0) else d

/-- A packet is accepted: RECEIVING, SOURCE_LOST. -/
def Dev.rxAccepted (d : Dev) (c : Nat) : Dev :=
  ((d.flag D.NetRxStatus.RECEIVING c true).flag D.FlowStatus.SOURCE_LOST c false).setNetRx c (fun x => { x with acceptedAt := some d.wall })

/-- R173: a packet of a single-leg context; `before` is when the packet before it came. -/
def Dev.acceptSingle (d : Dev) (c : Nat) (p : Pkt) (before : Option Nat) : Dev :=
  let w := d.seqWidth c
  let x := d.netRxSt c
  let silent := match before with | some t => d.past t 10000000 | none => true
  let e := if silent then p.seq else x.exp.getD p.seq
  let k := sdiff p.seq e w
  if k < 0 then d.sat D.NetRxCounters.REORDERED c 1
  else
    let d := d.sat D.NetRxCounters.LOST c k.toNat
    let d := (d.rxAccepted c).setNetRx c (fun x => { x with exp := some ((p.seq + 1) % 2 ^ w) })
    d.place c p k.toNat

/-! ## The ST 2022-7 merge -/

/-- D in ns (R180). -/
def Dev.skew (d : Dev) (c : Nat) : Int := d.rdI D.NetRxStatus.SKEW_NS c

/-- A signed number of picoseconds in 2⁻¹⁶ ns. -/
def psUnits (ps : Int) : Int := Int.fdiv (ps * 65536) 1000

/-- The stamp of a frame received now on a port, in 2⁻¹⁶ ns (R379). -/
def Dev.rxStamp (d : Dev) (p : Nat) : Int := (d.now : Int) * 65536 + psUnits (d.rdI D.TsCorr.RX_DELAY_PS p)
/-- The stamp of a frame sent now on a port (R379). -/
def Dev.txStamp (d : Dev) (p : Nat) : Int := (d.now : Int) * 65536 - psUnits (d.rdI D.TsCorr.TX_DELAY_PS p)
/-- Nanoseconds of a value in 2⁻¹⁶ ns, rounded down. -/
def wholeNs (x : Int) : Int := Int.fdiv x 65536

/-- R180, R181: a skew sample. A move of D is rounded toward −∞ to a whole ns (DESIGN CHOICE). -/
def Dev.skewSample (d : Dev) (c : Nat) (sample : Int) : Dev :=
  if d.rd D.NetRxCfg.MAX_SKEW_US c * 1000 < sample.natAbs then
    (d.flag D.NetRxStatus.SKEW_EXCEEDED c true).raise Src.NET_2022_7_SKEW c
  else
    let new := if (d.netRxSt c).skewSet then d.skew c + (sample - d.skew c).fdiv 256 else sample
    ((d.flag D.NetRxStatus.SKEW_EXCEEDED c false).wrI D.NetRxStatus.SKEW_NS c new).setNetRx c (fun x => { x with skewSet := true })

/-- The leading leg is A (R180). -/
def Dev.leadsA (d : Dev) (c : Nat) : Bool := decide (0 ≤ d.skew c)

/-- R181: a copy of a packet that has been released: where the other leg delivered it, the pair is a skew sample. The merge knows
when the last 1,024 packets released were delivered (DESIGN CHOICE). -/
def Dev.lateCopy (d : Dev) (c : Nat) (isA : Bool) (seq now : Nat) : Dev :=
  let d := d.sat D.NetRxCounters.LATE_LEG c 1
  match (d.netRxSt c).past.find? (fun x => x.1 == seq) with
  | none => d
  | some (_, a, b) =>
    let sample : Option Int := if isA then (match a, b with | none, some t => some ((t : Int) - now) | _, _ => none)
      else (match a, b with | some t, none => some ((now : Int) - t) | _, _ => none)
    match sample with
    | none => d
    | some v =>
      (d.skewSample c v).setNetRx c (fun x => { x with past := x.past.map (fun y =>
        if y.1 = seq then (if isA then (y.1, some now, y.2.2) else (y.1, y.2.1, some now)) else y) })

/-- R180: a packet taken from one leg because the other lacked it counts as missing there. -/
def Dev.countMissing (d : Dev) (c : Nat) (fromA : Bool) : Dev :=
  d.sat (if fromA then D.NetRxCounters.MISSING_B else D.NetRxCounters.MISSING_A) c 1

/-- R179 to R181: a packet of a two-leg context, by leg A or leg B. -/
def Dev.acceptMerge (d : Dev) (c : Nat) (isA : Bool) (p : Pkt) : Dev :=
  let w := d.seqWidth c
  let x := d.netRxSt c
  let d := d.setNetRx c (fun x => if isA then { x with topA := some p.seq } else { x with topB := some p.seq })
  let late := match x.released with | some r => decide (sdiff p.seq r w ≤ 0) | none => false
  if late then d.lateCopy c isA p.seq p.time
  else
    match x.held.find? (fun h => h.pkt.seq == p.seq) with
    | some h =>
      let d := d.sat D.NetRxCounters.DUPLICATES c 1
      if (if isA then h.a else h.b).isSome then d
      else
        let h' := if isA then { h with a := some p.time } else { h with b := some p.time }
        let d := match h'.a, h'.b with
          | some a, some b => d.skewSample c ((b : Int) - a)
          | _, _ => d
        -- the basis of a packet is its arrival on the leading leg
        let h' := if isA = d.leadsA c then { h' with basis := p.time } else h'
        d.setNetRx c (fun x => { x with held := x.held.map (fun y => if y.pkt.seq = p.seq then h' else y) })
    | none =>
      let lead := isA == d.leadsA c
      let behind := p.time - (d.skew c).natAbs
      -- the leading leg has gone on without this packet
      let lacked := !lead && (match (if isA then x.topB else x.topA) with | some t => decide (0 < sdiff t p.seq w) | none => false)
      let d := if lacked then d.countMissing c isA else d
      let h : HeldPkt := ⟨p, if isA then some p.time else none, if isA then none else some p.time, if lead then p.time else behind, lacked⟩
      (d.rxAccepted c).setNetRx c (fun x => { x with held := x.held ++ [h] })

/-- The next packet of a merge in sequence order. -/
def Dev.nextHeld (d : Dev) (c : Nat) : Option HeldPkt :=
  (d.netRxSt c).held.foldl (fun b h => match b with
    | none => some h
    | some x => if sdiff h.pkt.seq x.pkt.seq (d.seqWidth c) < 0 then some h else some x) none

/-- NET_2022_7_RELEASE (R180): the merge releases its next packet at its basis plus MAX_SKEW_US, which is its receive
time-stamp. A packet that one leg alone delivered counts as missing on the other; sequence numbers that neither leg
supplied count as lost. -/
def execNet20227Release (dt ctx : Nat) (s : State) : Host.Outcome State Fault Refusal :=
  s.act fun d => d.live dt fun d =>
    match d.nextHeld ctx with
    | none => d
    | some h =>
      let at_ := h.basis + d.rd D.NetRxCfg.MAX_SKEW_US ctx * 1000
      if 4096 ≤ ctx ∨ d.now < at_ then d
      else
        let w := d.seqWidth ctx
        let lost := match (d.netRxSt ctx).released with | some r => (sdiff h.pkt.seq r w - 1).toNat | none => 0
        let d := d.sat D.NetRxCounters.LOST ctx lost
        let d := if h.counted then d
          else match h.a, h.b with
            | some _, none => d.countMissing ctx true
            | none, some _ => d.countMissing ctx false
            | _, _ => d
        let d := d.setNetRx ctx (fun x => { x with
          released := some h.pkt.seq, held := x.held.filter (fun y => y.pkt.seq != h.pkt.seq), past := ((h.pkt.seq, h.a, h.b) :: x.past).take 1024 })
        d.place ctx { h.pkt with time := at_ } lost

/-! ## Frames -/

/-- The receive time-stamp of a frame that a port receives now, in whole ns (R379, R380). -/
def Dev.stampNs (d : Dev) (p : Nat) : Nat := (wholeNs (d.rxStamp p)).toNat

/-- A frame for the management cores (R165): at most 1,000 per second per port, what is beyond is dropped. One that asks for an answer at
one of the interface's addresses waits for it. -/
def Dev.toCores (d : Dev) (p i : Nat) (f : NetFrame) : Dev :=
  let asks := decide (1 ≤ f.what) && decide (f.what ≤ 3) && (d.ifAddrs (8 * p + i)).contains f.dst
  let d' := d.coreFrame p
  if d.coresTake p && asks then
    { d' with ctrl := { d'.ctrl with waiting := d'.ctrl.waiting ++ [⟨p, i, f.what, f.dst, f.src, f.media⟩] } }
  else d'

/-- A packet that matches a leg (Table 06.2, orders 5 and 6; R177). -/
def Dev.toContext (d : Dev) (c : Nat) (isA : Bool) (f : NetFrame) : Dev :=
  let d := d.sat (if isA then D.NetRxCounters.PACKETS_A else D.NetRxCounters.PACKETS_B) c 1
  let d := d.flag (if isA then D.NetRxStatus.LEG_A_OK else D.NetRxStatus.LEG_B_OK) c true
  let before := (d.netRxSt c).legA
  let d := d.setNetRx c (fun x => if isA then { x with legA := some d.wall } else { x with legB := some d.wall })
  if f.rtpOk = false ∨ (d.on D.NetRxCfg.PT_CHECK c ∧ f.pt ≠ d.rd D.NetRxCfg.PT c) then d.sat D.NetRxCounters.RTP_ERRORS c 1
  else if !d.running c then d
  else if d.rxRoom c < d.rxHeld c + f.media.len then (d.sat D.NetRxCounters.OVERFLOWS c 1).raise Src.NET_RX_OVERFLOW c
  else
    let p : Pkt := ⟨f.seq % 2 ^ d.seqWidth c, f.ts % 2 ^ 32, f.marker, f.rows, f.media, d.stampNs f.port, f.mediaOk⟩
    if d.twoLegs c then d.acceptMerge c isA p else d.acceptSingle c p (if (d.netRxSt c).exp.isSome then before else none)

/-- NET_FRAME_RX (R165, R171 to R181): a received frame is handled by the first row of Table 06.2 that applies. -/
def execNetFrameRx (dt : Nat) (f : NetFrame) (s : State) : Host.Outcome State Fault Refusal :=
  s.act fun d => d.live dt fun d =>
    if 32 ≤ f.port ∨ !d.portUp f.port then d
    else
      let p := f.port
      let d := d.sat D.PortCounters.RX_FRAMES p 1
      let iface := (List.range 8).find? (fun i => d.ifVlan p i == some f.vlan)
      if f.fcsOk = false then d.sat D.PortCounters.RX_FCS_ERRORS p 1
      else
        match iface with
        | none => d.sat D.PortCounters.RX_UNMATCHED p 1
        | some i =>
          if d.macOk p i f.mac = false then d.sat D.PortCounters.RX_UNMATCHED p 1
          else if f.ipOk = false then d.sat D.PortCounters.RX_IP_ERRORS p 1
          else if f.what = 0 && !f.udpOk then d.sat D.PortCounters.RX_UDP_ERRORS p 1
          else
            match d.rxMatch f with
            | some (c, isA) => d.toContext c isA f
            | none =>
              -- addressed to the interface, or a protocol of R165
              if (d.ifAddrs (8 * p + i)).contains f.dst || (decide (1 ≤ f.what) && decide (f.what ≤ 4)) then d.toCores p i f
              else d.sat D.PortCounters.RX_UNMATCHED p 1

/-- NET_RX_SILENCE (R62, R180, R181): a leg has had no packets for 10 ms. D stays as it is; with every leg silent the context sets
SOURCE_LOST. -/
def execNetRxSilence (dt ctx : Nat) (legB : Bool) (s : State) : Host.Outcome State Fault Refusal :=
  s.act fun d => d.live dt fun d =>
    let x := d.netRxSt ctx
    let at_ := if legB then x.legB else x.legA
    match at_ with
    | none => d
    | some t =>
      if 4096 ≤ ctx ∨ !Kind.netRx (d.kind ctx) ∨ !d.past t 10000000 then d
      else
        let ok := d.on (if legB then D.NetRxStatus.LEG_B_OK else D.NetRxStatus.LEG_A_OK) ctx
        let d := d.flag (if legB then D.NetRxStatus.LEG_B_OK else D.NetRxStatus.LEG_A_OK) ctx false
        let d := if ok && d.twoLegs ctx then d.raise Src.NET_LEG_DOWN ctx else d
        if d.on D.NetRxStatus.LEG_A_OK ctx || d.on D.NetRxStatus.LEG_B_OK ctx then d
        else ((d.flag D.NetRxStatus.RECEIVING ctx false).flag D.FlowStatus.EMITTING ctx false).flag D.FlowStatus.SOURCE_LOST ctx
          (d.on D.FlowStatus.SOURCE_LOST ctx || d.running ctx)

end Sys2Proof.Machine
end

