-- ==== Sys2Proof/Machine/NetTx.lean ====
section
/-! DEFINITION. Network ports on transmit: legs, wire budget, packets, pacing, resolution (R160, R163, R166, R183 to R190, R193). -/

namespace Sys2Proof.Machine

open Sys2Proof

/-! ## Legs -/

/-- A transmit leg: port, interface, destination, UDP destination port. -/
structure TxLeg where
  port : Nat
  iface : Nat
  dst : Nat
  udp : Nat
  deriving DecidableEq, Repr

/-- Leg A of a transmit context. -/
def Dev.txLegA (d : Dev) (c : Nat) : TxLeg :=
  ⟨d.bindIx c, d.rd D.NetTxCfg.LEG_A_IF (c - 4096), d.rd D.NetTxCfg.DEST_A (c - 4096), d.rd D.NetTxCfg.UDP_DST_A (c - 4096)⟩

/-- Leg B of a transmit context. -/
def Dev.txLegB (d : Dev) (c : Nat) : TxLeg :=
  ⟨d.rd D.NetTxCfg.LEG_B_PORT (c - 4096), d.rd D.NetTxCfg.LEG_B_IF (c - 4096), d.rd D.NetTxCfg.DEST_B (c - 4096), d.rd D.NetTxCfg.UDP_DST_B (c - 4096)⟩

/-- Does the context send on two legs (R188)? -/
def Dev.txTwo (d : Dev) (c : Nat) : Bool := d.on D.NetTxCfg.LEG_B_ENABLE (c - 4096)

/-- The legs a context sends on. -/
def Dev.txLegs (d : Dev) (c : Nat) : List TxLeg := if d.txTwo c then [d.txLegA c, d.txLegB c] else [d.txLegA c]

/-! ## The wire budget (R193) -/

/-- Media bytes of a full packet (Table 06.4, Table 06.6). -/
def Dev.packetBytes (d : Dev) (c : Nat) : Nat :=
  let k := d.kind c
  if k = 0x42 then (if d.on D.NetTxCfg.PACKING (c - 4096) then d.rd D.NetTxCfg.PKT_BYTES (c - 4096) else 1260)
  else if k = 0x43 ∨ k = 0x46 then 1400
  else if k = 0x47 then 1376
  else d.setBytes c * (if d.on D.NetTxCfg.PTIME_1MS (c - 4096) then 8 else 1) * (if d.rate96 c then 12 else 6)

/-- Packets of one frame of an ST 2110-20 output as its charge counts them (Table 06.6). -/
def Dev.framePackets (d : Dev) (c : Nat) : Nat := if d.packetBytes c = 0 then 0 else ceilDiv (Fmt.activeBytes (d.format c)) (d.packetBytes c)

/-- N of R186: the packets of one frame, of which each field has a last one of its own (Table 06.4). -/
def Dev.packetsSent (d : Dev) (c : Nat) : Nat :=
  let f := d.format c
  if d.packetBytes c = 0 then 0
  else if Fmt.interlaced f then 2 * ceilDiv (Fmt.activeBytes f / 2) (d.packetBytes c) else ceilDiv (Fmt.activeBytes f) (d.packetBytes c)

/-- Packets per second × 1,001 (Table 06.6). -/
def Dev.packetRate (d : Dev) (c : Nat) : Nat :=
  let k := d.kind c
  if k = 0x42 then d.framePackets c * Fmt.fps (d.format c)
  else if k = 0x43 ∨ k = 0x46 then ceilDiv (d.rd D.Flow.DECLARED_KBPS c * 10) 112 * 1001
  else if k = 0x47 then ceilDiv (Fmt.lane1001 (d.format c)) (11008 * 1001) * 1001
  else (if d.on D.NetTxCfg.PTIME_1MS (c - 4096) then 1000 else 8000) * 1001

/-- H of R193 for a leg. -/
def Dev.headerBytes (d : Dev) (c : Nat) (l : TxLeg) : Nat :=
  let i := 8 * l.port + l.iface
  20 + 18 + (if d.rd D.IfCfg.VLAN_ID i = 0 then 0 else 4) + (if l.dst / 2 ^ 32 = 0xFFFF then 20 else 40) + 8 + 12
    + (if d.kind c = 0x42 then 14 else if d.kind c = 0x47 then 8 else 0)

/-- The wire charge of a leg × 1,001, in bit/s. -/
def Dev.wireCharge (d : Dev) (c : Nat) (l : TxLeg) : Nat := d.packetRate c * 8 * (d.packetBytes c + d.headerBytes c l)

/-- The wire charge of a port × 1,001: every leg of every enabled transmit context. -/
def Dev.portCharge (d : Dev) (p : Nat) : Nat :=
  sumOf (fun c => if Kind.netTx (d.kind c) then sumOf (fun l => if l.port = p then d.wireCharge c l else 0) (d.txLegs c) else 0)
    (d.enabled.filter (fun c => decide (4096 ≤ c)))

/-- Ethernet rate of a port mode in Gbit/s (Table 06.1). -/
def portGbps (mode : Nat) : Nat := match mode with | 1 => 25 | 2 => 50 | 3 => 100 | 4 => 200 | 5 => 400 | _ => 0

/-- Lanes of a port mode (Table 06.1). -/
def portLanes (mode : Nat) : Nat := if mode = 4 then 2 else if mode = 5 then 4 else 1

/-- Does the wire budget of a port hold: 99 % of its Ethernet rate? -/
def Dev.wireOk (d : Dev) (p : Nat) : Bool :=
  decide (d.portCharge p * 100 ≤ portGbps (d.rd D.PortCfg.MODE p) * 1000000000 * 1001 * 99)

/-- The SSRC of a context: configured, or the CRC-32C of the port MAC and the context number (R183). -/
def Dev.ssrc (d : Dev) (c : Nat) : Nat :=
  let v := d.rd D.NetTxCfg.SSRC (c - 4096)
  if v = 0 then crc32c (bytesOf 6 (portMac (d.bindIx c)) ++ bytesOf 2 c) else v

/-! ## Packets -/

/-- A packet ready to leave: its place in the frame, media, marker, RTP timestamp, whether filled bytes are in it, and what stays
waiting. -/
structure TxPkt where
  off : Nat
  media : Bytes
  marker : Bool
  ts : Nat
  filled : Bool
  rest : List TxFrame
  deriving DecidableEq, Repr

/-- Remove n bytes from the media at the front. -/
def TxFrame.cut (a : TxFrame) (n : Nat) : TxFrame :=
  { a with sent := a.sent + n, wait := a.wait.drop n,
           marks := (a.marks.filter (fun m => decide (m.1 ≤ a.sent + n))).reverse.take 1 ++ a.marks.filter (fun m => decide (a.sent + n < m.1)),
           ends := a.ends.filter (fun e => decide (8 * (a.sent + n) < e)) }

/-- Does a span of bytes hold filled ones? -/
def TxFrame.holdsFill (a : TxFrame) (n : Nat) : Bool := decide (a.sent < a.fillEnd) && decide (a.fillAt < a.sent + n)

/-- The ITIME of the first word that a datagram carries: that of the cell which holds it. -/
def TxFrame.itimeAt (a : TxFrame) : Nat :=
  match (a.marks.filter (fun m => decide (m.1 ≤ a.sent))).getLast? with | some m => m.2 | none => 0

/-- The next packet of a context (Table 06.4). -/
def Dev.nextPacket (d : Dev) (c : Nat) : Option TxPkt :=
  let k := d.kind c
  let f := d.format c
  match (d.netTxSt c).frames with
  | [] => none
  | a :: t =>
    if k = 0x42 then
      let n := Fmt.activeBytes f
      let second := Fmt.interlaced f && decide (n / 2 ≤ a.sent)
      let e := if Fmt.interlaced f ∧ a.sent < n / 2 then n / 2 else n
      let m := min (d.packetBytes c) (e - a.sent)
      if m = 0 ∨ a.wait.len < m then none
      else
        let ts := if second then a.ts + fieldTicks f else a.ts
        some ⟨a.sent, a.wait.take m, a.sent + m == e, ts % 2 ^ 32, a.holdsFill m, if a.sent + m = n then t else a.cut m :: t⟩
    else if k = 0x43 ∨ k = 0x46 then
      let m := byteAt a.wait.len a.wait.val 0 % 128 * 256 + byteAt a.wait.len a.wait.val 1
      if a.wait.len < 2 ∨ a.wait.len < 2 + m then none
      else
        let gone := a.closed && decide (a.wait.len = 2 + m)
        some ⟨a.sent, (a.wait.drop 2).take m, decide (128 ≤ byteAt a.wait.len a.wait.val 0), a.ts, a.holdsFill (2 + m), if gone then t else a.cut (2 + m) :: t⟩
    else if k = 0x47 then
      -- the stream runs on: the last bytes of a stretch share a datagram with the first of the next
      let a := a.draw f 1376
      let t := match t with | b :: u => b.draw f (1376 - a.wait.len) :: u | [] => []
      if 1376 ≤ a.wait.len then
        let mark := a.ends.any (fun e => decide (e ≤ 8 * (a.sent + 1376)))
        some ⟨a.sent, a.wait.take 1376, mark, d.extend48 a.itimeAt * 27 / 1000 % 2 ^ 32, a.holdsFill 1376,
          if a.closed && a.wait.len == 1376 && a.gen == 0 then t else a.cut 1376 :: t⟩
      else if a.closed && a.gen == 0 then
        (match t with
         | [] => none
         | b :: u =>
           let n := 1376 - a.wait.len
           if b.wait.len < n then none
           else
             let mark := !a.ends.isEmpty || b.ends.any (fun e => decide (e ≤ 8 * (b.sent + n)))
             let at_ := if a.wait.len = 0 then b.itimeAt else a.itimeAt
             some ⟨a.sent, a.wait.app (b.wait.take n), mark, d.extend48 at_ * 27 / 1000 % 2 ^ 32, a.holdsFill a.wait.len || b.holdsFill n,
               b.cut n :: u⟩)
      else none
    else
      let m := d.packetBytes c
      if m = 0 ∨ a.wait.len < m then none
      else
        let ts := (a.ts + a.sent / max 1 (d.setBytes c)) % 2 ^ 32
        some ⟨a.sent, a.wait.take m, false, ts, a.holdsFill m, if a.closed && a.wait.len == m then t else a.cut m :: t⟩

/-- Media too short for another packet, and closed, is dropped; an ST 2022-6 stream runs on. -/
def Dev.dropRest (d : Dev) (c : Nat) : Dev :=
  match (d.netTxSt c).frames with
  | a :: t => if d.kind c ≠ 0x47 ∧ a.closed ∧ d.nextPacket c = none then d.setNetTx c (fun x => { x with frames := t }) else d
  | [] => d

/-- Full packets waiting, and the bytes they hold. -/
def Dev.waitingBytes (d : Dev) (c : Nat) : Nat := sumOf (fun a => a.wait.len) (d.netTxSt c).frames

/-- R186: may the next packet leave now; and does it leave ahead of its time because too much waits? -/
def Dev.paced (d : Dev) (c : Nat) : Bool × Bool :=
  let f := d.format c
  let st := d.rd D.NetTxCfg.SENDER_TYPE (c - 4096)
  match (d.netTxSt c).leftAt with
  | none => (true, false)
  | some t =>
    if d.kind c ≠ 0x42 ∨ 2 ≤ st then (true, false)
    else
      let gone := d.wall - t
      let n := d.packetsSent c
      let due := if st = 0 then decide (Fmt.period1001 * Fmt.height f ≤ gone * Fmt.fps f * Fmt.rasterLines f * n)
        else decide (Fmt.period1001 ≤ gone * Fmt.fps f * n)
      let full := if st = 0 then decide (32 * d.packetBytes c < d.waitingBytes c) else decide (blockBytes ≤ d.waitingBytes c)
      if due then (true, false) else (full, full)

/-- What is known of a leg's next hop. -/
def Dev.hop (d : Dev) (c : Nat) (legB : Bool) : Hop := if legB then (d.netTxSt c).hopB else (d.netTxSt c).hopA

/-- Change what is known of a leg's next hop. -/
def Dev.setHop (d : Dev) (c : Nat) (legB : Bool) (f : Hop → Hop) : Dev :=
  d.setNetTx c (fun x => if legB then { x with hopB := f x.hopB } else { x with hopA := f x.hopA })

/-- A leg. -/
def Dev.txLeg (d : Dev) (c : Nat) (legB : Bool) : TxLeg := if legB then d.txLegB c else d.txLegA c

/-- The MAC address of a leg's next hop, where it is known (R166): mapped from a multicast destination, resolved for another. -/
def Dev.nextMac (d : Dev) (c : Nat) (legB : Bool) : Option Nat :=
  let l := d.txLeg c legB
  if isMulticast l.dst then some (groupMac l.dst) else (d.hop c legB).mac

/-- Is a leg's next hop known (R166)? -/
def Dev.resolved (d : Dev) (c : Nat) (legB : Bool) : Bool := (d.nextMac c legB).isSome

/-- The addressing of a leg's packets (R183, R188): the DSCP and TTL committed now, 64 for TTL 0; the UDP source port, or the leg's destination
port where it is 0. -/
def Dev.pktHead (d : Dev) (c : Nat) (legB : Bool) (mac : Nat) : PktHead :=
  let l := d.txLeg c legB
  let i := 8 * l.port + l.iface
  let n := c - 4096
  let ttl := d.rd D.NetTxCfg.TTL n
  let udp := d.rd D.NetTxCfg.UDP_SRC n
  ⟨l.port, mac, portMac l.port, d.rd D.IfCfg.VLAN_ID i, d.rd D.IfCfg.PCP i, d.sourceAddr i l.dst, l.dst, d.rd D.NetTxCfg.DSCP n,
    if ttl = 0 then 64 else ttl, if udp = 0 then l.udp else udp, l.udp⟩

/-- A copy of a packet that cannot leave on a leg is discarded (R160). -/
def Dev.discardLeg (d : Dev) (c : Nat) (legB : Bool) (p : Nat) : Dev :=
  let d := (d.sat D.NetTxCounters.DISCARDS (c - 4096) 1).sat D.PortCounters.TX_DISCARDS p 1
  if legB then d.flag D.NetTxStatus.LEG_B_ACTIVE (c - 4096) false else d

/-- One copy of a packet on a leg, or its discard where the port is not UP or the destination is unresolved (R160, R166). -/
def Dev.sendLeg (d : Dev) (c : Nat) (legB : Bool) (rtp : RtpHead) (head media : Bytes) : Dev :=
  let l := d.txLeg c legB
  match d.nextMac c legB with
  | some mac =>
    if d.portUp l.port then
      let d := ((d.emit (.packet c (d.pktHead c legB mac) rtp head media)).sat D.PortCounters.TX_FRAMES l.port 1).setNetTx c
        (fun x => { x with goneAt := some d.wall })
      if legB then d.flag D.NetTxStatus.LEG_B_ACTIVE (c - 4096) true else d.sat D.NetTxCounters.PACKETS (c - 4096) 1
    else d.discardLeg c legB l.port
  | none => d.discardLeg c legB l.port

/-- A sample row data header of RFC 4175 (Table 06.4; PRESUMED: its layout): bytes of the row, second field, line, whether another
follows, pixel offset. -/
def rowHeader (len line off : Nat) (second more : Bool) : Nat :=
  len % 2 ^ 16 * 2 ^ 32 + (ofBool second * 2 ^ 15 + line % 2 ^ 15) * 2 ^ 16 + ofBool more * 2 ^ 15 + off % 2 ^ 15

/-- The payload header of a packet (Table 06.4): for ST 2110-20 the high bits of the sequence number and one or two row headers, for ST 2022-6
the media header. -/
def Dev.payloadHead (d : Dev) (c seq off len : Nat) : Bytes :=
  let f := d.format c
  if d.kind c = 0x42 then
    let n := Fmt.activeBytes f
    let second := Fmt.interlaced f && decide (n / 2 ≤ off)
    let p := if second then off - n / 2 else off
    let w := max 1 (Fmt.lineBytes f)
    let px := fun (b : Nat) => b * 8 / max 1 (Fmt.bpp f)
    let a := min len (w - p % w)
    if a = len then ⟨8, seq / 65536 % 65536 * 2 ^ 48 + rowHeader a (p / w) (px (p % w)) second false⟩
    else ⟨14, (seq / 65536 % 65536 * 2 ^ 48 + rowHeader a (p / w) (px (p % w)) second true) * 2 ^ 48 + rowHeader (len - a) (p / w + 1) 0 second false⟩
  else if d.kind c = 0x47 then ⟨8, Config.mediaHeader f ((d.netTxSt c).count % 256) % 2 ^ 64⟩
  else ⟨0, 0⟩

/-- R124: at a frame start the numbering steps to a twin anchor, and the frame's anchor is noted. -/
def Dev.frameStart (d : Dev) (c ts : Nat) : Dev :=
  let x := d.netTxSt c
  let same := match x.twin with | some a => a.1 == ts | none => false
  let by_ := match x.twin with
    | some a => if a.1 = ts then (a.2 + 2 ^ 32 - x.seq) % 2 ^ 32 else x.step
    | none => x.step
  let d := if by_ = 0 then d else d.sat D.Leg.REANCHORS 0 1
  let d := if same || x.step != 0 then d.flag D.LegStatus.ANCHORED (c - 4096) true else d
  let seq := (x.seq + by_) % 2 ^ 32
  d.setNetTx c (fun y => { y with seq := seq, step := 0, twin := if same then none else y.twin, anchors := ((ts, seq) :: y.anchors).take 16 })

/-- A packet leaves on every leg; the sequence number runs on (R183, R188). -/
def Dev.sendPacket (d : Dev) (c : Nat) (p : TxPkt) (first : Bool) : Dev :=
  let d := if first then d.frameStart c p.ts else d
  let seq := (d.netTxSt c).seq
  let rtp : RtpHead := ⟨d.rd D.NetTxCfg.PT (c - 4096), p.marker, seq % 65536, p.ts, d.ssrc c⟩
  let head := d.payloadHead c seq p.off p.media.len
  let d := d.sendLeg c false rtp head p.media
  let d := if d.txTwo c then d.sendLeg c true rtp head p.media else d
  let d := if p.filled then d.sat D.NetTxCounters.FILLED_PACKETS (c - 4096) 1 else d
  let fresh := p.marker || Kind.audio (d.kind c)
  let d := d.setNetTx c (fun x =>
    { x with seq := (x.seq + 1) % 2 ^ 32, leftAt := some d.wall, fresh := fresh, count := x.count + ofBool p.marker })
  d.wr D.NetTxStatus.RTP_SEQ_NEXT (c - 4096) ((d.netTxSt c).seq % 65536)

/-- Packet time of an audio output in ns. -/
def Dev.txPacketNs (d : Dev) (c : Nat) : Nat := if d.on D.NetTxCfg.PTIME_1MS (c - 4096) then 1000000 else 125000

/-- Digital silence of an audio output in safe state: its timestamps run on at the sample rate (R106, R190). -/
def Dev.silence (d : Dev) (c : Nat) : Dev :=
  let x := d.netTxSt c
  let ready := match x.leftAt with | some t => d.past t (d.txPacketNs c) | none => true
  if ready = false then d
  else
    let sets := if d.setBytes c = 0 then 0 else d.packetBytes c / d.setBytes c
    let d := d.sendPacket c ⟨0, ⟨d.packetBytes c, 0⟩, false, x.ts, false, []⟩ false
    d.setNetTx c (fun y => { y with ts := (x.ts + sets) % 2 ^ 32, frames := [] })

/-- NET_PACKET_TX (R124, R160, R183 to R192): the next packet of an output leaves, where its sender type lets it leave now. -/
def execNetPacketTx (dt ctx : Nat) (s : State) : Host.Outcome State Fault Refusal :=
  s.act fun d => d.live dt fun d =>
    if ctx < 4096 ∨ 8192 ≤ ctx ∨ !d.running ctx ∨ !Kind.netTx (d.kind ctx) then d
    else if d.isSafe ctx ∧ Kind.audio (d.kind ctx) then d.silence ctx
    else
      match d.nextPacket ctx with
      | none => d.dropRest ctx
      | some p =>
        let w := d.paced ctx
        if w.1 = false then d
        else
          let d := if w.2 then d.sat D.NetTxCounters.PACING_OVERRUNS (ctx - 4096) 1 else d
          -- a frame of an ST 2022-6 stream begins after a marked datagram, every audio packet is one (R124)
          let first := match (d.netTxSt ctx).frames with
            | a :: _ => a.sent == 0 || (d.kind ctx == 0x47 && (d.netTxSt ctx).fresh) || Kind.audio (d.kind ctx)
            | [] => false
          let d := d.setNetTx ctx (fun x => { x with frames := p.rest })
          let sets := if d.setBytes ctx = 0 then 0 else p.media.len / d.setBytes ctx
          (d.sendPacket ctx p first).setNetTx ctx (fun x => { x with ts := if Kind.audio (d.kind ctx) then (p.ts + sets) % 2 ^ 32 else x.ts })

/-- NET_RESOLVE_REFRESH (R166): an attempt to resolve the next hop of a leg's unicast destination: the request leaves, and `mac` is what
came back, none where nothing did. Each leg is tried again every ARP_REFRESH_S, and every 1 s after three failures in a row, which raise
NET_TX_UNRESOLVED; a resolution stands until then (DEDUCED). -/
def execNetResolveRefresh (dt ctx : Nat) (legB : Bool) (mac : Option Nat) (s : State) : Host.Outcome State Fault Refusal :=
  s.act fun d => d.live dt fun d =>
    let l := d.txLeg ctx legB
    let i := 8 * l.port + l.iface
    let x := d.hop ctx legB
    let wait : Bool := match x.triedAt with
      | some t => !d.past t (if 3 ≤ x.fails then 1000000000 else if x.mac.isSome && x.fails == 0 then d.rd D.Net.ARP_REFRESH_S 0 * 1000000000 else 0)
      | none => false
    if ctx < 4096 ∨ 8192 ≤ ctx ∨ !Kind.netTx (d.kind ctx) ∨ d.rd D.Flow.STATE ctx = 0 ∨ (legB && !d.txTwo ctx) ∨ isMulticast l.dst ∨ wait = true then d
    else
      let mac := if d.portUp l.port then mac else none
      let d := if d.portUp l.port then
          (d.emit (.frame l.port l.iface 5 ⟨16, d.nextHop i l.dst⟩)).sat D.PortCounters.TX_FRAMES l.port 1 else d
      let d := d.setHop ctx legB (fun y => match mac with
        | some m => ⟨some (m % 2 ^ 48), 0, some d.wall⟩
        | none => ⟨if 3 ≤ y.fails + 1 then none else y.mac, y.fails + 1, some d.wall⟩)
      let d := d.flag D.NetTxStatus.RESOLVING (ctx - 4096) (!(d.resolved ctx false && (!d.txTwo ctx || d.resolved ctx true)))
      if mac.isNone && x.fails + 1 == 3 then d.raise Src.NET_TX_UNRESOLVED ctx else d

end Sys2Proof.Machine
end

