-- ==== Sys2Proof/Machine/FrameStore.lean ====
section
/-! DEFINITION. The frame store at work: requests, refresh, self-refresh, training, channel states, remapping, relocation, defective rows
(R257 to R276). -/

namespace Sys2Proof.Machine

open Sys2Proof

/-! ## Channels -/

/-- Channel states (Table 09.6). -/
def ChanState.OFFLINE : Nat := 0
def ChanState.TRAINING : Nat := 1
def ChanState.ONLINE : Nat := 2
def ChanState.DEGRADED : Nat := 3
def ChanState.FAILED : Nat := 4
def ChanState.EVACUATING : Nat := 5
def ChanState.RETIRED : Nat := 6

/-- STATE of a channel. -/
def Dev.chanState (d : Dev) (c : Nat) : Nat := d.rd D.ChanStatus.STATE c
/-- What a channel holds beside its elements. -/
def Dev.chanSt (d : Dev) (c : Nat) : ChanSt := nget d.chan {} c
/-- Change what a channel holds. -/
def Dev.setChan (d : Dev) (c : Nat) (f : ChanSt → ChanSt) : Dev := { d with chan := nput d.chan {} c (f (d.chanSt c)) }
/-- Enter a channel state. -/
def Dev.chanTo (d : Dev) (c st : Nat) : Dev := d.wr D.ChanStatus.STATE c st

/-- Does a channel take requests: ONLINE, DEGRADED or EVACUATING (R269)? -/
def Dev.chanServes (d : Dev) (c : Nat) : Bool :=
  d.chanState c == ChanState.ONLINE || d.chanState c == ChanState.DEGRADED || d.chanState c == ChanState.EVACUATING

/-- Allocated blocks on a channel: handle and logical block, in ascending handle order. -/
def Dev.blocksOn (d : Dev) (c : Nat) : List (Nat × Nat) :=
  (d.store.alloc.map (fun a => ((List.range a.2.blocks.length).filter (fun l => match a.2.blocks.getD l none with
    | some b => b % 32 == c
    | none => false)).map (fun l => (a.1, l)))).flatten

/-! ## What owners do with lost or missed data (Table 09.7) -/

/-- A block of an allocation of class PROTECTED carries 1,835,008 usable bytes (R276). -/
def protBytes : Nat := 1835008

/-- The next k packets of a sender are not sent and count in DISCARDS (Table 09.7). -/
def Dev.packetsLost (d : Dev) (c : Nat) : Nat → Dev
  | 0 => d
  | k + 1 => match d.nextPacket c with
    | some p => ((d.setNetTx c (fun x => { x with frames := p.rest, seq := (x.seq + 1) % 2 ^ 32 })).sat D.NetTxCounters.DISCARDS (c - 4096) 1).packetsLost c k
    | none => d

/-- An owner meets poisoned or missed data of n bytes at an offset of a logical block. -/
def Dev.ownerPoison (d : Dev) (a : Alloc) (l off n : Nat) : Dev :=
  let w := a.want
  if w.cls = 6 then
    -- the words of the lines that wait are substituted (R140)
    ((d.substitutes w.owner).setTx w.owner (fun x => { x with write := [] })).setFlow w.owner (fun x =>
      { x with sdi := { x.sdi with lines := x.sdi.lines.map (fun l => { l with words := l.words.map (fun _ => none) }) } })
  else if w.cls = 3 ∨ w.cls = 4 then d.setHoldReady w.owner false
  else if w.cls = 7 then
    d.setNetRx w.owner (fun x => { x with held := x.held.drop 1 })
  else if w.cls = 8 then
    d.packetsLost w.owner (max 1 (ceilDiv n (max 1 (d.packetBytes w.owner))))
  else if w.cls = 5 ∨ w.cls = 9 then d.sat D.Tile.LOST_LINES w.owner 1
  else if w.cls = 2 ∧ w.tag = 0 then d.sat D.Layer.LOST_LINES w.owner 1
  else if w.cls = 10 ∧ w.tag = 1 then d.delayLost w.owner (l * protBytes + off) n
  else d

/-- Content of a whole logical block is lost (R269, R273). -/
def Dev.blockLost (d : Dev) (a : Alloc) (l : Nat) : Dev :=
  if a.want.cls = 10 ∧ a.want.tag = 1 then d.delayLost a.want.owner (l * protBytes) protBytes
  else d.ownerLost a.want a.held

/-! ## Training (R265, R266) -/

/-- May a delay set be tried: VALID, and its CRC correct? -/
def Dev.setValid (d : Dev) (c k : Nat) : Bool :=
  let v := d.rd D.Chan.DELAY_SETS (8 * c + k)
  bit v 511 && v % 2 ^ 32 == crc32c (bytesOf 60 (v / 2 ^ 32))

/-- The set under trial: the one that last passed, then the other valid sets in ascending order. -/
def Dev.setTried (d : Dev) (c : Nat) : Option Nat :=
  let x := d.chanSt c
  ((match x.passed with | some p => [p] | none => []) ++ List.range 8).find? (fun k => d.setValid c k && !x.tried.contains k)

/-- Training begins. -/
def Dev.startTraining (d : Dev) (c : Nat) (restore : Bool) : Dev :=
  ((d.chanTo c ChanState.TRAINING).sat D.ChanCounters.RETRAINS c 1).setChan c (fun x => { x with tried := [], restore := restore, entering := false })
    |>.flag D.ChanStatus.SELF_REFRESH c false

/-- Free reserve blocks of a channel that is not retired. -/
def Dev.reserveFree (d : Dev) (c : Nat) : List Nat :=
  if d.chanState c = ChanState.RETIRED then []
  else ((List.range 16).map (fun i => 32 * (2032 + i) + c)).filter (fun b =>
    !d.store.subs.any (fun p => p.1 == b) && !d.store.withdrawn.contains b)

/-- Is a reserve block free on any channel? -/
def Dev.reserveLeft (d : Dev) : Bool := (List.range 32).any (fun c => !(d.reserveFree c).isEmpty)

/-- R274: FS_RESERVE_EMPTY is raised when the last reserve block goes; `o` is the device before. -/
def Dev.reserveCheck (o d : Dev) : Dev := if o.reserveLeft && !d.reserveLeft then d.raise Src.FS_RESERVE_EMPTY 0 else d

/-- A channel is retired (Table 09.6, R268). -/
def Dev.retireChan (d : Dev) (c : Nat) : Dev :=
  let o := d
  let d := ((d.chanTo c ChanState.RETIRED).raiseL Src.FS_CHAN_RETIRED c).wr D.Fs.LAST_RETIRED_CHANNEL 0 c
  Dev.reserveCheck o ((d.setChan c (fun x => { x with restore := false, evac := 0 })).knotAdd KnotKind.CHANNEL KnotAct.RETIRED c knotNone Src.FS_CHAN_RETIRED 0)

/-! ## Defective rows (R274, R275) -/

/-- The reserve block that takes a withdrawn block's place: of the same channel, else of the channel with most free reserve. -/
def Dev.reserveFor (d : Dev) (c : Nat) : Option Nat :=
  match (d.reserveFree c).head? with
  | some b => some b
  | none =>
    let best := (List.range 32).foldl (fun m k => if (d.reserveFree m).length < (d.reserveFree k).length then k else m) 0
    (d.reserveFree best).head?

/-- Copies of blocks to free blocks begin (R270): from HOST_LIST with host-assisted allocation where `host`, else any free block. -/
def Dev.startCopies (d : Dev) (l : List (Nat × Nat)) (host withdraw : Bool) : Dev :=
  let l := l.filter (fun e => !d.store.copying.any (fun c => c.handle == e.1 && c.logical == e.2))
  let got := d.grab host l.length
  let d := d.setStore (fun s => { s with copying := s.copying ++ (l.zip got).map (fun (p : (Nat × Nat) × Nat) => ⟨p.1.1, p.1.2, p.2, withdraw⟩) })
  if host then d.spendHost got else d

/-- Copies of blocks with a defective row that still have to begin, for want of a free block (R274). -/
def Dev.defectCopies (d : Dev) : Dev :=
  d.each (List.range 32) (fun d c =>
    let bad := (d.chanSt c).defects.map (fun r => r / 1024)
    if bad.isEmpty then d
    else d.startCopies ((d.blocksOn c).filter (fun e => match Assoc.find d.store.alloc e.1 with
      | some a => (match a.blocks.getD e.2 none with | some b => bad.contains b | none => false)
      | none => false)) false true)

/-- A defective row: its block is withdrawn, and a reserve block takes its place; an allocated block is first relocated by copy. -/
def Dev.rowDefective (d : Dev) (block row cause : Nat) : Dev :=
  let c := block % 32
  if d.store.withdrawn.contains block ∨ (d.chanSt c).defects.contains (block * 1024 + row) then d
  else
    let d := d.setChan c (fun x => { x with defects := x.defects ++ [block * 1024 + row] })
    let d := (d.setStore (fun s => { s with subs := s.subs.filter (fun p => p.1 != block) })).raise Src.FS_BLOCK_RETIRED c
    let d := match d.reserveFor c with
      | some r =>
        let d := Dev.reserveCheck d (d.setStore (fun s => { s with subs := s.subs ++ [(r, block)] }))
        (d.sat D.ChanCounters.BLOCKS_SUBSTITUTED c 1).knotAdd KnotKind.BLOCK KnotAct.SPARE_IN block r cause 0
      | none => d.knotAdd KnotKind.BLOCK KnotAct.RETIRED block knotNone cause 0
    let owner := (d.blocksOn c).find? (fun e => match Assoc.find d.store.alloc e.1 with
      | some a => a.blocks.getD e.2 none == some block
      | none => false)
    let d := match owner with
      | some e => d.startCopies [e] false true
      | none => d
    if owner.isNone then (d.setStore (fun s => { s with withdrawn := s.withdrawn ++ [block] })).regrow else d.regrow

/-- The bank and the die of a row on record: BANK and BANK_GROUP of Table 09.1 are the low four bits of the row within its block. -/
def pprBank (r : Nat) : Nat × Nat := (r % 16, Config.rowDie (64 * (r / 1024 / 32) + r % 1024 / 16))

/-- The banks of a channel that hold a repair, one for each standing repair in the knot map. -/
def Dev.pprUsed (d : Dev) (c : Nat) : List (Nat × Nat) :=
  (d.knot.entries.filter (fun k => k.kind == KnotKind.DRAM_ROW && k.action == KnotAct.REPAIRED && k.inst % 32 == c)).map
    (fun k => pprBank k.detail)

/-- R275: rows that hPPR has repaired, at most one in a bank of a die, and the training checker has proved: their blocks return to the
pool, and a substitute that is free returns to the reserve. -/
def Dev.repairRows (d : Dev) (c : Nat) (bad : List Nat) : Dev :=
  let fixed := (d.chanSt c).defects.foldl (fun l r =>
    if bad.contains r ∨ (d.pprUsed c).contains (pprBank r) ∨ l.any (fun q => pprBank q == pprBank r) then l else l ++ [r]) []
  d.each fixed (fun d r =>
    let b := r / 1024
    let used := d.blocksInUse
    let d := d.setChan c (fun x => { x with defects := x.defects.filter (fun q => q != r) })
    let d := if (d.chanSt c).defects.any (fun q => q / 1024 == b) then d
      else d.setStore (fun s => { s with withdrawn := s.withdrawn.filter (fun x => x != b), subs := s.subs.filter (fun p => p.2 != b || used.contains p.1) })
    (d.sat D.ChanCounters.ROWS_REPAIRED c 1).knotAdd KnotKind.DRAM_ROW KnotAct.REPAIRED b knotNone Src.FS_BLOCK_RETIRED r)

/-- CHAN_TRAINING_SET_DONE (R266, R268, R275): the set under trial has passed, with the rows the checker found defective; or it has failed, and the next is
tried, or the channel is retired. -/
def execChanTrainingSetDone (dt chan : Nat) (pass : Bool) (defects : List Nat) (s : State) : Host.Outcome State Fault Refusal :=
  s.act fun d =>
    let d := d.elapse dt
    if d.inReset ∨ 32 ≤ chan ∨ d.chanState chan ≠ ChanState.TRAINING then d
    else
      match d.setTried chan with
      | none => d.retireChan chan
      | some k =>
        if pass then
          let restore := (d.chanSt chan).restore
          let d := (d.chanTo chan ChanState.ONLINE).wr D.ChanStatus.SET_IN_USE chan k
          let d := d.setChan chan (fun x => { x with passed := some k, tried := [], restore := false, evac := 0, second := d.wall, corr := 0, clean := 0, idleAt := d.wall, refreshed := d.wall, shift := (0, 0), shiftAt := d.wall, uncorrAt := [] })
          let d := if d.stage < 6 then d.repairRows chan defects else d
          let d := d.each (defects.filter (fun r => r / 1024 % 32 == chan)) (fun d r => d.rowDefective (r / 1024) (r % 1024) Src.FS_BLOCK_RETIRED)
          let d := if restore then (d.endCond Src.FS_CHAN_RETIRED chan).knotAdd KnotKind.CHANNEL KnotAct.RESTORED chan knotNone knotCommand 0 else d
          if d.stage < 6 then d else d.regrow
        else
          let d := (d.sat D.ChanCounters.SETS_FAILED chan 1).setChan chan (fun x => { x with tried := x.tried ++ [k] })
          if (d.setTried chan).isNone then d.retireChan chan else d

/-- DELAY_RECENTRE (R267, R462): every 100 ms the read and write delays of a running channel may move by at most 2 steps; how far is open. -/
def execDelayRecentre (dt chan : Nat) (s : State) : Host.Outcome State Fault Refusal :=
  s.act fun d => d.live dt fun d =>
    let x := d.chanSt chan
    if 32 ≤ chan ∨ !(d.chanState chan == ChanState.ONLINE || d.chanState chan == ChanState.DEGRADED) ∨ !d.past x.shiftAt 100000000
        ∨ d.restarts 3 = true then d
    else
      let r : Int := (d.freeVal % 5 : Nat)
      let w : Int := (d.drawn.freeVal % 5 : Nat)
      (d.setChan chan (fun x => { x with shift := (x.shift.1 + r - 2, x.shift.2 + w - 2), shiftAt := d.wall })).drawnN 2

/-- CHAN_DEGRADE_CHECK (Table 09.6): a whole second has ended. -/
def execChanDegradeCheck (dt chan : Nat) (s : State) : Host.Outcome State Fault Refusal :=
  s.act fun d => d.live dt fun d =>
    let x := d.chanSt chan
    if 32 ≤ chan ∨ !d.past x.second 1000000000 then d
    else
      let many := decide (d.rd D.Fs.RETRAIN_CORR_PER_S 0 < x.corr)
      let clean := if many then 0 else x.clean + 1
      let d := d.setChan chan (fun y => { y with second := y.second + 1000000000, corr := 0, clean := clean })
      if d.chanState chan = ChanState.ONLINE ∧ many then
        (d.chanTo chan ChanState.DEGRADED).raise Src.FS_CHAN_DEGRADED chan
      else if d.chanState chan = ChanState.DEGRADED ∧ 10 ≤ clean then d.chanTo chan ChanState.ONLINE
      else d

/-! ## Failure (R269) -/

/-- The logical blocks of an allocation that lie on a channel. -/
def Alloc.hits (a : Alloc) (c : Nat) : List Nat :=
  (List.range a.blocks.length).filter (fun l => match a.blocks.getD l none with | some b => b % 32 == c | none => false)

/-- Remap without copy the blocks a channel held (R269), class by class, in ascending handle order. When the pool runs out, what is short
is made up by shrinking (R271), and remapping goes on but for allocations so released whole. -/
def Dev.remapChan (d : Dev) (c : Nat) : Dev :=
  let moved := (startOrder.map (fun cls => d.store.alloc.filter (fun a => cls.contains a.2.want.cls && a.2.hits c != []))).flatten
  let d := moved.foldl (fun d e =>
    let hit := e.2.hits c
    let a' := { e.2 with blocks := e.2.blocks.map (fun b => match b with | some x => if x % 32 = c then none else some x | none => none),
                         lost := e.2.lost.filter (fun p => !hit.contains p.1) }
    (d.putAlloc e.1 (some a')).each hit (fun d l => d.blockLost e.2 l)) d
  let heldOf (d : Dev) (h : Nat) : Nat := match Assoc.find d.store.alloc h with | some a => a.held | none => 0
  let place (d : Dev) (l : List (Nat × Alloc)) : Dev := l.foldl (fun d e => d.fillBlocks e.1 (e.2.hits c) false true) d
  let d := place d moved
  let left := sumOf (fun e => match Assoc.find d.store.alloc e.1 with
    | some a => (a.unmapped.filter (fun l => (e.2.hits c).contains l)).length
    | none => 0) moved
  if left = 0 then d
  else
    let o := d
    let d := d.shrink left
    place d (moved.filter (fun e => !(heldOf d e.1 == 0 && decide (0 < heldOf o e.1))))

/-- A channel's requests are not served any more: reads come back poisoned, writes are dropped. -/
def Dev.dropReqs (d : Dev) (c : Nat) : Dev :=
  let gone := d.store.reqs.filter (fun r => r.chan == c)
  let d := d.setStore (fun s => { s with reqs := s.reqs.filter (fun r => r.chan != c) })
  gone.foldl (fun d r => if r.write then d else
    match Assoc.find d.store.alloc r.handle with
    | some a => (d.emit (.memRead r.port r.handle (r.logical * blockBytes + r.off) true [])).ownerPoison a r.logical r.off r.len
    | none => d) d

/-- A channel enters FAILED: its blocks are remapped, then it is trained again, or retired at the third failure within 24 h. -/
def Dev.chanFailed (d : Dev) (c : Nat) : Dev :=
  let d := (d.chanTo c ChanState.FAILED).raise Src.FS_CHAN_FAULT c
  let times := d.wall :: (d.chanSt c).failedAt.filter (fun t => decide (d.wall < t + 86400000000000))
  let d := d.setChan c (fun x => { x with failedAt := times, uncorrAt := [], evac := 0 })
  let d := d.setStore (fun s => { s with copying := s.copying.filter (fun k => k.target % 32 != c && !(d.blocksOn c).contains (k.handle, k.logical)) })
  let d := (d.dropReqs c).remapChan c
  let d := d.defectCopies
  if 3 ≤ times.length then d.retireChan c else d.startTraining c false

/-- CHAN_FAIL (R269): three uncorrectable link-ECC errors within 1 ms (cause 0), or a mode-register read mismatch (cause 1). -/
def execChanFail (dt chan cause : Nat) (s : State) : Host.Outcome State Fault Refusal :=
  s.act fun d => d.live dt fun d =>
    if 32 ≤ chan ∨ !d.chanServes chan ∨ 1 < cause then d
    else if cause = 0 ∧ ((d.chanSt chan).uncorrAt.filter (fun t => decide (d.wall < t + 1000000))).length < 3 then d
    else d.chanFailed chan

/-! ## CHAN_CMD (R270, R280) -/

/-- An evacuating channel that holds no block any more moves on. -/
def Dev.evacDone (d : Dev) (c : Nat) : Dev :=
  if d.chanState c = ChanState.EVACUATING ∧ (d.blocksOn c) = [] then
    (if (d.chanSt c).evac = 1 then d.startTraining c false else d.retireChan c)
  else d

/-- Copies that an evacuation still has to begin. -/
def Dev.evacCopies (d : Dev) (c : Nat) : Dev :=
  if d.chanState c = ChanState.EVACUATING then d.startCopies (d.blocksOn c) d.hostAlloc false else d

/-- A CHAN_CMD (Table 09.11). -/
def Dev.chanCmd (d : Dev) (v : Nat) : Dev × Nat :=
  let cmd := bitsOf v 24 8
  let c := bitsOf v 0 24
  if 31 < c ∨ cmd = 0 ∨ 3 < cmd then (d, St.RANGE)
  else if cmd = 3 then
    (if d.chanState c = ChanState.RETIRED then (d.startTraining c true, St.OK) else (d, St.STATE))
  else if !(d.chanState c == ChanState.ONLINE || d.chanState c == ChanState.DEGRADED) then (d, St.STATE)
  else if d.freeBlocks - d.freeOn c < (d.blocksOn c).length then (d, St.RESOURCE)
  else
    let d := (d.chanTo c ChanState.EVACUATING).setChan c (fun x => { x with evac := cmd })
    ((d.evacCopies c).evacDone c, St.OK)

/-- CHAN_CMD RETRAIN (R270). -/
def execChanCmdRetrain (q : Rcp) (chan : Nat) (s : State) : Host.Outcome State Fault Refusal :=
  let v := 2 ^ 24 + chan % 2 ^ 24
  s.act (serveWrite (.chanCmdRetrain q.again chan) q 0x0E00 0x0D ⟨4, v⟩ (fun _ d => d.chanCmd v))

/-- CHAN_CMD RETIRE (R270). -/
def execChanCmdRetire (q : Rcp) (chan : Nat) (s : State) : Host.Outcome State Fault Refusal :=
  let v := 2 * 2 ^ 24 + chan % 2 ^ 24
  s.act (serveWrite (.chanCmdRetire q.again chan) q 0x0E00 0x0D ⟨4, v⟩ (fun _ d => d.chanCmd v))

/-- CHAN_CMD RESTORE (R268). -/
def execChanCmdRestore (q : Rcp) (chan : Nat) (s : State) : Host.Outcome State Fault Refusal :=
  let v := 3 * 2 ^ 24 + chan % 2 ^ 24
  s.act (serveWrite (.chanCmdRestore q.again chan) q 0x0E00 0x0D ⟨4, v⟩ (fun _ d => d.chanCmd v))

/-! ## Relocation (R270) -/

/-- The bytes of one block copied over another. -/
def Memory.copyBlock (m : List Host.Cell) (old new : Nat) : List Host.Cell :=
  (m.filter (fun c => decide (old * blockBytes ≤ c.1) && decide (c.1 < (old + 1) * blockBytes))).foldl
    (fun m c => Memory.write m (c.1 - old * blockBytes + new * blockBytes) c.2) (Memory.clear m (new * blockBytes) blockBytes)

/-- The translation switches to the new block; a defective old one leaves the pool. -/
def Dev.relocated (d : Dev) (k : Copying) (a : Alloc) (old : Nat) : Dev :=
  let d := d.putAlloc k.handle (some { a with blocks := (List.range a.blocks.length).map (fun i => if i = k.logical then some k.target else a.blocks.getD i none) })
  let d := d.setStore (fun s => { s with copying := s.copying.filter (fun x => x != k), withdrawn := if k.withdraw then s.withdrawn ++ [old] else s.withdrawn })
  -- port 11 has read and written the block
  let d := d.sat D.FsPortCounters.BYTES 11 (2 * blockBytes)
  ((d.each (List.range 32) (fun d c => (d.evacCopies c).evacDone c)).regrow).defectCopies

/-- BLOCK_RELOCATED (R270): the copy of a logical block ends. -/
def execBlockRelocated (dt handle logical : Nat) (s : State) : Host.Outcome State Fault Refusal :=
  let d := s.dev.elapse dt
  if !d.serving then .next { s with dev := d }
  else
    match d.store.copying.find? (fun k => k.handle == handle && k.logical == logical), Assoc.find d.store.alloc handle with
    | some k, some a =>
      (match a.blocks.getD logical none with
       | some old =>
         if 65536 ≤ k.target then .fault (.noSuchAddress (k.target * blockBytes))
         else .next { s with dev := d.relocated k a old, mem := Memory.copyBlock s.mem old k.target }
       | none => .next { s with dev := d.setStore (fun st => { st with copying := st.copying.filter (fun x => x != k) }) })
    | _, _ => .next { s with dev := d }

/-- PATROL_TEST (R274): the patrol has written and read a row of a free pool block. -/
def execPatrolTest (dt block row : Nat) (ok : Bool) (s : State) : Host.Outcome State Fault Refusal :=
  s.act fun d => d.live dt fun d =>
    if 65536 ≤ block ∨ 1024 ≤ row ∨ d.blocksInUse.contains block ∨ !(d.candidates (block % 32)).contains block then d
    else
      let d := d.sat D.FsPortCounters.BYTES 11 4096
      if ok then d else d.rowDefective block row Src.FS_BLOCK_RETIRED

/-! ## Refresh and self-refresh (R261 to R264) -/

/-- MR4_POLL (R261): the refresh rate read from MR4, and whether it tells a temperature above the high limit. -/
def execMr4Poll (dt chan rate : Nat) (hot : Bool) (s : State) : Host.Outcome State Fault Refusal :=
  s.act fun d => d.live dt fun d =>
    if 32 ≤ chan ∨ d.chanState chan = ChanState.OFFLINE ∨ d.chanState chan = ChanState.RETIRED then d
    else
      let was := (d.chanSt chan).hot
      let d := (d.wr D.ChanStatus.MR4_RATE chan rate).setChan chan (fun x => { x with hot := hot })
      if hot && !was then d.raiseL Src.FS_DRAM_HOT chan else if was && !hot then d.endCond Src.FS_DRAM_HOT chan else d

/-- The PASR segments of a channel that hold nothing in use (R264). -/
def Dev.pasrMask (d : Dev) (c : Nat) : Nat :=
  if d.on D.Fs.PASR_ENABLE 0 then
    let used := d.blocksInUse ++ d.store.subs.map (fun p => p.1)
    sumOf (fun k => if used.any (fun b => b % 32 == c && b / 32 / 256 == k) then 0 else 2 ^ k) (List.range 8)
  else 0

/-- Does a request wait at a channel? -/
def Dev.reqWaits (d : Dev) (c : Nat) : Bool := d.store.reqs.any (fun r => r.chan == c)

/-- All-bank refresh intervals of a channel, at the rate MR4 asks for. -/
def Dev.refreshEvery (d : Dev) (c : Nat) : Nat :=
  if (d.chanSt c).hot then Config.fastestRefresh else Config.refreshInterval (d.rd D.ChanStatus.MR4_RATE c)

/-- How many intervals' worth of refresh is postponed (R261). -/
def Dev.postponed (d : Dev) (c : Nat) : Nat := (d.wall - (d.chanSt c).refreshed) / d.refreshEvery c

/-- Refresh waits behind the ports: what is postponed is issued while no request waits. A channel in self-refresh refreshes itself. -/
def Dev.refreshIdle (d : Dev) (c : Nat) : Dev :=
  if d.on D.ChanStatus.SELF_REFRESH c then d.setChan c (fun x => { x with refreshed := d.wall })
  else if d.reqWaits c then d
  else
    let n := d.postponed c * d.refreshEvery c
    d.setChan c (fun x => { x with refreshed := x.refreshed + n })

/-- Port 0 takes a command slot: 8 intervals' worth is postponed. The rows it refreshes are closed. -/
def Dev.refreshSlot (d : Dev) (c : Nat) : Dev :=
  let n := d.refreshEvery c
  (d.setStore (fun st => { st with openRow := st.openRow.filter (fun e => e.1 / 16 != c) })).setChan c (fun x => { x with refreshed := x.refreshed + n })

/-- The blocks of segments that a channel in self-refresh masks (R264). -/
def Dev.masked (d : Dev) (block : Nat) : Bool :=
  d.on D.ChanStatus.SELF_REFRESH (block % 32) && bit (d.rd D.ChanStatus.PASR_MASK (block % 32)) (block / 32 / 256)

/-- Masked segments lose their contents (R264). -/
def State.maskedLost (s : State) : State := { s with mem := s.mem.filter (fun c => !s.dev.masked (c.1 / blockBytes)) }

/-- After SR_IDLE_NS without a request a channel precharges and refreshes; then (`issued`) SRE is issued (R262). -/
def Dev.srEntry (d : Dev) (dt chan : Nat) (issued : Bool) : Dev :=
  d.live dt fun d =>
    let d := if chan < 32 then d.refreshIdle chan else d
    let x := d.chanSt chan
    if 32 ≤ chan ∨ !d.chanServes chan ∨ d.reqWaits chan ∨ d.on D.ChanStatus.SELF_REFRESH chan then d
    else if issued then
      (if x.entering then
        ((d.flag D.ChanStatus.SELF_REFRESH chan true).sat D.ChanCounters.SR_ENTRIES chan 1).wr D.ChanStatus.PASR_MASK chan (d.pasrMask chan)
          |>.setChan chan (fun x => { x with sreAt := d.wall })
       else d)
    else if x.entering ∨ !d.on D.Fs.SR_ENABLE 0 ∨ !d.past x.idleAt (d.rd D.Fs.SR_IDLE_NS 0) ∨ 1 < d.postponed chan then d
    else d.setStore (fun st => { st with openRow := st.openRow.filter (fun e => e.1 / 16 != chan) })
      |>.setChan chan (fun x => { x with entering := true, refreshed := d.wall })

/-- SR_ENTRY (R262, R264): the masked segments of a channel that has entered self-refresh lose their contents. -/
def execSrEntry (dt chan : Nat) (issued : Bool) (s : State) : Host.Outcome State Fault Refusal :=
  .next ({ s with dev := s.dev.srEntry dt chan issued } : State).maskedLost

/-- SR_EXIT (R263): a waiting request abandons an entry whose SRE has not been issued, or ends self-refresh after the minimum time of
15 ns and tXSR. -/
def execSrExit (dt chan : Nat) (s : State) : Host.Outcome State Fault Refusal :=
  s.act fun d => d.live dt fun d =>
    let x := d.chanSt chan
    if 32 ≤ chan ∨ !x.entering ∨ !d.reqWaits chan then d
    else if !d.on D.ChanStatus.SELF_REFRESH chan then
      (d.sat D.ChanCounters.SR_ABORTS chan 1).setChan chan (fun x => { x with entering := false, idleAt := d.wall })
    else if !d.past x.sreAt 403 then d
    else (((d.wake (fun i => i == (8, chan / 4))).flag D.ChanStatus.SELF_REFRESH chan false).wr D.ChanStatus.PASR_MASK chan 0).setChan chan (fun x => { x with entering := false, idleAt := d.wall, refreshed := d.wall })

/-! ## Requests (R257 to R260) -/

/-- Priority of a port (Table 09.3). -/
def portPriority (p : Nat) : Nat :=
  if p = 0 then 0 else if p ≤ 4 then 1 else if p ≤ 7 then 2 else if p ≤ 9 then 3 else if p = 10 then 4 else 5

/-- Is a port real-time (R257)? -/
def realTime (p : Nat) : Bool := portPriority p == 1 || portPriority p == 2

/-- The physical block of a request. -/
def Dev.reqBlock (d : Dev) (r : MemReq) : Option Nat := (Assoc.find d.store.alloc r.handle).bind (fun a => a.blocks.getD r.logical none)

/-- Bank (key: channel × 16 + bank) and row of a request (Table 09.1). -/
def Dev.reqRow (d : Dev) (r : MemReq) : Nat × Nat :=
  (r.chan * 16 + r.off / 2048 % 16, (match d.reqBlock r with | some b => 64 * (b / 32) | none => 0) + r.off / 32768)

/-- Does a request hit an open row? -/
def Dev.reqHit (d : Dev) (r : MemReq) : Bool := Assoc.find d.store.openRow (d.reqRow r).1 == some (d.reqRow r).2

/-- Do two requests touch the same 64-byte burst? -/
def sameBurst (a b : MemReq) : Bool :=
  a.handle == b.handle && a.logical == b.logical && decide (a.off / 64 ≤ (b.off + b.len - 1) / 64) && decide (b.off / 64 ≤ (a.off + a.len - 1) / 64)

/-- Of requests in arrival order, the first of the port with the highest priority, the oldest among ports of equal priority. -/
def firstReq : List MemReq → Option MemReq
  | [] => none
  | r :: t => match firstReq t with
    | none => some r
    | some q => if portPriority q.port < portPriority r.port then some q else some r

/-- The port a starved share of command slots goes to (R259): 10 or 11 after 63 slots, 8 and 9 after 15. -/
def Dev.owedPort (d : Dev) (c : Nat) (l : List MemReq) : Option MemReq :=
  let s := (d.chanSt c).starve
  if 63 ≤ s.getD 0 0 ∧ l.any (fun r => r.port == 10) then l.find? (fun r => r.port == 10)
  else if 63 ≤ s.getD 1 0 ∧ l.any (fun r => r.port == 11) then l.find? (fun r => r.port == 11)
  else if 15 ≤ s.getD 2 0 ∧ l.any (fun r => r.port == 8 || r.port == 9) then l.find? (fun r => r.port == 8 || r.port == 9)
  else none

/-- R258: the request selected from those waiting at a channel, in arrival order. -/
def Dev.selectReq (d : Dev) (c : Nat) (l : List MemReq) : Option MemReq :=
  match (d.owedPort c l).orElse (fun _ => firstReq l) with
  | none => none
  | some r =>
    if d.reqHit r then some r
    else
      -- a row hit may pass the older request to another row of its bank, from a port of the same or higher priority
      let pass := l.find? (fun q => q != r && d.reqHit q && (d.reqRow q).1 == (d.reqRow r).1 && decide (portPriority q.port ≤ portPriority r.port)
        && decide (r.passed < 8) && !sameBurst q r
        && !(l.takeWhile (fun x => x != q)).any (fun x => sameBurst x q || (x.port == q.port && !x.write && !q.write)))
      some (pass.getD r)

/-- Requests arrive: a read of an unmapped block is poisoned at once, a write of one is dropped (R271); a request must lie within one row. -/
def Dev.arrive (d : Dev) (c : Nat) (r : StoreReq) : Dev :=
  match Assoc.find d.store.alloc r.handle with
  | none => d
  | some a =>
    if r.len = 0 ∨ 2048 < r.offset % 2048 + r.len ∨ blockBytes ≤ r.offset ∨ a.blocks.length ≤ r.logical ∨ 12 ≤ r.port ∨ r.port = 0 then d
    else
      match a.blocks.getD r.logical none with
      | none => if r.write then d else (d.emit (.memRead r.port r.handle (r.logical * blockBytes + r.offset) true [])).ownerPoison a r.logical r.offset r.len
      | some b =>
        if b % 32 ≠ c then d
        else d.setStore (fun s => { s with reqs := s.reqs ++ [⟨c, r.port, r.handle, r.logical, r.offset, r.len, r.write, r.data, d.wall, 0, false⟩] })

/-- The counters of a port for a request served now, and its deadline (R260). -/
def Dev.countReq (d : Dev) (r : MemReq) : Dev :=
  let t := d.wall - r.since
  let d := (d.sat D.FsPortCounters.BYTES r.port r.len).wr D.FsPortCounters.MAX_SERVICE_NS r.port (max t (d.rd D.FsPortCounters.MAX_SERVICE_NS r.port))
  if realTime r.port && !r.missed && decide (2000 < t) then d.sat D.FsPortCounters.DEADLINE_MISSES r.port 1 else d

/-- The errors met by an access (R268, R276): 1 corrected and 2 uncorrectable on the link, 3 corrected and 4 uncorrectable by the inline code
of a protected block. -/
def Dev.noteEcc (d : Dev) (c ecc : Nat) (r : MemReq) (prot : Bool) : Dev :=
  match ecc with
  | 1 => (d.sat D.ChanCounters.ECC_CORRECTED c 1).setChan c (fun x => { x with corr := x.corr + 1 })
  | 2 => (d.sat D.ChanCounters.ECC_UNCORRECTED c 1).setChan c (fun x => { x with uncorrAt := d.wall :: x.uncorrAt.filter (fun t => decide (d.wall < t + 1000000)) })
  | 3 =>
    if !prot then d
    else
      match d.reqBlock r with
      | none => d
      | some b =>
        let row := b * 1024 + r.off / 2048
        let again := d.store.corrected.any (fun e => e.1 == row && decide (d.wall < e.2 + 86400000000000))
        let d := d.setStore (fun s => { s with corrected := (row, d.wall) :: s.corrected.filter (fun e => decide (d.wall < e.2 + 86400000000000)) })
        if again then d.rowDefective b (r.off / 2048) Src.FS_BLOCK_RETIRED else d
  | 4 => if prot then d.raise Src.FS_PROT_UNCORR c else d
  | _ => d

/-- Slots the low ports have waited for, after a slot went to a port. -/
def Dev.countStarve (d : Dev) (c port : Nat) (l : List MemReq) : Dev :=
  let w := fun (i : Nat) (p : Nat → Bool) => if p port ∨ !l.any (fun r => p r.port) then 0 else (d.chanSt c).starve.getD i 0 + 1
  d.setChan c (fun x => { x with starve := [w 0 (fun p => p == 10), w 1 (fun p => p == 11), w 2 (fun p => p == 8 || p == 9)] })

/-- A selected request is served. `bytes` is what memory holds there. -/
def Dev.serveReq (d : Dev) (c ecc : Nat) (r : MemReq) (bytes : List Nat) : Dev :=
  match Assoc.find d.store.alloc r.handle with
  | none => d
  | some a =>
    let all := d.store.reqs.filter (fun x => x.chan == c)
    let late := realTime r.port && (r.missed || decide (2000 < d.wall - r.since))
    let d := (d.countReq r).countStarve c r.port (all.filter (fun x => x != r))
    let older := all.takeWhile (fun x => x != r)
    let d := d.setStore (fun s =>
      let rest := (s.reqs.filter (fun x => x != r)).map (fun (x : MemReq) =>
        if older.contains x ∧ (d.reqRow x).1 = (d.reqRow r).1 then { x with passed := x.passed + 1 } else x)
      { s with reqs := rest, openRow := Assoc.insertAt natLt (Assoc.erase s.openRow (d.reqRow r).1) (d.reqRow r).1 (d.reqRow r).2 })
    let d := d.setChan c (fun x => { x with idleAt := d.wall })
    let d := d.noteEcc c ecc r (a.want.cls == 10)
    if r.write then d.storePut r.handle r.logical r.off (bytesOf r.len r.data)
    else
      let bad := a.poison r.logical r.off r.len || ecc == 2 || (ecc == 4 && a.want.cls == 10)
      let d := d.emit (.memRead r.port r.handle (r.logical * blockBytes + r.off) bad bytes)
      if bad || late then d.ownerPoison a r.logical r.off r.len else d

/-- MEM_REQUEST_SERVE (R258): requests arrive at a channel controller, which serves one at its command slot. A channel on its way into or in self-refresh
serves none until SR_EXIT. -/
def execMemRequestServe (dt chan : Nat) (arrivals : List StoreReq) (ecc : Nat) (s : State) : Host.Outcome State Fault Refusal :=
  s.actMem fun d => d.live dt fun d =>
    if 32 ≤ chan ∨ !d.chanServes chan then d
    else
      let d := arrivals.foldl (fun d r => d.arrive chan r) (d.refreshIdle chan)
      if (d.chanSt chan).entering then d
      else if 8 ≤ d.postponed chan then d.refreshSlot chan
      else
        match d.selectReq chan (d.store.reqs.filter (fun r => r.chan == chan)) with
        | none => d
        | some r =>
          d.serveReq chan ecc r (match (Assoc.find d.store.alloc r.handle).bind (fun a => a.addr r.logical r.off) with
            | some p => Memory.readBytes s.mem p r.len
            | none => [])

/-- REQUEST_DEADLINE_MISS (R260): the oldest real-time request of a channel has waited more than 2,000 ns: a miss, and its data counts as
missing. -/
def execRequestDeadlineMiss (dt chan : Nat) (s : State) : Host.Outcome State Fault Refusal :=
  s.act fun d => d.live dt fun d =>
    match d.store.reqs.find? (fun r => r.chan == chan && realTime r.port && !r.missed && decide (2000 < d.wall - r.since)) with
    | none => d
    | some r =>
      let d := d.setStore (fun st => { st with reqs := st.reqs.map (fun (x : MemReq) => if x = r then { x with missed := true } else x) })
      d.sat D.FsPortCounters.DEADLINE_MISSES r.port 1

end Sys2Proof.Machine
end

