-- ==== Sys2Proof/Machine/Net.lean ====
section
/-! DEFINITION. Network ports: links, spare lanes, the management cores, memberships, CTRL_TX (R157 to R170, R240). -/

namespace Sys2Proof.Machine

open Sys2Proof

/-- Pin numbers in Emission.pin: GPIO n at 16 + n, and the named pins. -/
def Pin.GPIO : Nat := 16

/-! ## Links and spares -/

/-- The port that uses a network lane: the one whose mode covers it. -/
def Dev.portOfLane (d : Dev) (lane : Nat) : Option Nat :=
  (List.range 32).find? (fun p => d.rd D.PortCfg.MODE p != 0 && decide (p ≤ lane) && decide (lane < p + portLanes (d.rd D.PortCfg.MODE p)))

/-- R160: receive contexts with no leg on a port that is UP set SOURCE_LOST. -/
def Dev.noLegs (d : Dev) : Dev :=
  d.each (d.rxActive.filter (fun c => d.running c && !d.portUp (d.legA c).port && !(d.twoLegs c && d.portUp (d.legB c).port)))
    (fun d c => (d.flag D.FlowStatus.SOURCE_LOST c true).flag D.FlowStatus.EMITTING c false)

/-- A port leaves UP (R158). -/
def Dev.portDown (d : Dev) (p : Nat) : Dev :=
  if !d.portUp p then d
  else
    let d := (((d.fecErrors p).wr D.PortStatus.LINK p 1).flag D.PortStatus.PCS_ALIGNED p false).flag D.PortStatus.FEC_LOCKED p false
    ((d.sat D.PortCounters.LINK_DOWNS p 1).raise Src.NET_LINK_DOWN p).noLegs
    |> fun d => d.each (List.range (portLanes (d.rd D.PortCfg.MODE p))) (fun d i => d.scanAbort (128 + p + i))

/-- R162: the port that uses a lane goes down and trains. -/
def Dev.portTrains (d : Dev) (lane : Nat) : Dev :=
  match d.portOfLane lane with
  | some p => (d.portDown p).wr D.PortStatus.LINK p 1
  | none => d

/-- The spare that stands in for a lane. -/
def Dev.spareOf (d : Dev) (lane : Nat) : Option Nat :=
  (List.range 4).find? (fun s => d.on D.SpareStatus.IN_USE s && d.rd D.SpareStatus.LANE s == lane)

/-- Runs a lane of the port on a spare? -/
def Dev.onSpare (d : Dev) (p : Nat) : Bool :=
  d.rd D.PortCfg.MODE p != 0 && (List.range (portLanes (d.rd D.PortCfg.MODE p))).any (fun i => (d.spareOf (p + i)).isSome)

/-- Is the port kept down by a spare that has failed its training (R162)? -/
def Dev.spareFailed (d : Dev) (p : Nat) : Bool :=
  (List.range (portLanes (d.rd D.PortCfg.MODE p))).any (fun i => match d.spareOf (p + i) with | some s => d.on D.SpareStatus.FAILED s | none => false)

/-- R162: a remap starts: the port goes down, the spare takes the lane's place, the GPIO pin goes high, and the port trains. NET_SPARE_IN names
the port, or the lane where no port uses it (DESIGN CHOICE). -/
def Dev.remap (d : Dev) (s lane : Nat) (auto : Bool) (cause : Nat) : Dev :=
  let d := (d.portTrains lane).wake (fun i => i == (3, 160 + s))
  let d := ((d.flag D.SpareStatus.IN_USE s true).flag D.SpareStatus.AUTO s auto).flag D.SpareStatus.FAILED s false
  let d := (d.wr D.SpareStatus.LANE s lane).flag D.LaneStatus.SPARED (128 + lane) true
  let g := d.rd D.SpareCfg.GPIO s
  let d := if g < 16 then d.emit (.pin (Pin.GPIO + g) 1) else d
  (d.knotAdd KnotKind.NET_LANE KnotAct.SPARE_IN lane (32 + s) cause 0).raise Src.NET_SPARE_IN ((d.portOfLane lane).getD lane)

/-- R162: a remap is reversed, with the same outage. -/
def Dev.unmap (d : Dev) (s : Nat) : Dev :=
  let lane := d.rd D.SpareStatus.LANE s
  let d := d.portTrains lane
  let d := ((d.flag D.SpareStatus.IN_USE s false).flag D.SpareStatus.AUTO s false).flag D.SpareStatus.FAILED s false
  let d := (d.wr D.SpareStatus.LANE s 0).flag D.LaneStatus.SPARED (128 + lane) false
  let g := d.rd D.SpareCfg.GPIO s
  let d := if g < 16 then d.emit (.pin (Pin.GPIO + g) 0) else d
  d.knotAdd KnotKind.NET_LANE KnotAct.RESTORED lane (32 + s) knotCommand 0

/-- R161: a failed lane is remapped where AUTO_SPARE is 1 and the spare of its range is not in use; the device writes the SPARE_CFG
element itself. -/
def Dev.autoRemap (d : Dev) (lane : Nat) : Dev :=
  let s := lane / 8
  if d.on D.Net.AUTO_SPARE 0 ∧ !d.on D.SpareStatus.IN_USE s then
    let d := (d.flag D.SpareCfg.REMAP s true).wr D.SpareCfg.LANE s lane
    d.remap s lane true Src.NET_SPARE_IN
  else d

/-- NET_LINK_UP (R158, R162): a port completes training. -/
def execNetLinkUp (dt port : Nat) (s : State) : Host.Outcome State Fault Refusal :=
  s.act fun d => d.live dt fun d =>
    if 32 ≤ port ∨ d.rd D.PortCfg.MODE port = 0 ∨ d.portUp port ∨ d.spareFailed port then d
    else
      let d := ((d.wr D.PortStatus.LINK port 2).flag D.PortStatus.PCS_ALIGNED port true).flag D.PortStatus.FEC_LOCKED port true
      { d with netPort := nput d.netPort {} port { nget d.netPort {} port with fails := 0 } }

/-- NET_LINK_DOWN (R158, R160). -/
def execNetLinkDown (dt port : Nat) (s : State) : Host.Outcome State Fault Refusal :=
  s.act fun d => d.live dt fun d => if 32 ≤ port then d else d.portDown port

/-- NET_SPARE_REMAP (R161, R162): a failed network lane is remapped onto its spare. -/
def execNetSpareRemap (dt lane : Nat) (s : State) : Host.Outcome State Fault Refusal :=
  s.act fun d => d.live dt fun d =>
    if 32 ≤ lane ∨ (d.portOfLane lane).isNone ∨ d.rd D.LaneStatus.USE (128 + lane) ≠ 4 then d else d.autoRemap lane

/-- NET_TRAINING_FAILED (R162, R240): a training attempt of a port fails. On a spare the remap has failed; otherwise the third
failure in a row with a signal fails the lane. -/
def execNetTrainingFailed (dt port lane : Nat) (signal : Bool) (s : State) : Host.Outcome State Fault Refusal :=
  s.act fun d => d.live dt fun d =>
    let n := portLanes (d.rd D.PortCfg.MODE port)
    if 32 ≤ port ∨ d.rd D.PortCfg.MODE port = 0 ∨ d.portUp port ∨ lane < port ∨ port + n ≤ lane then d
    else
      match d.spareOf lane with
      | some s => (d.wr D.PortStatus.LINK port 0).flag D.SpareStatus.FAILED s true
      | none =>
        let x := nget d.netPort {} port
        let k := if signal then x.fails + 1 else 0
        let d := { d with netPort := nput d.netPort {} port { x with fails := if k = 3 then 0 else k } }
        if k = 3 then (d.wr D.LaneStatus.USE (128 + lane) 4).autoRemap lane else d

/-! ## The management cores -/

/-- NET_CTRL_FRAME (R165): the management cores answer the oldest frame that waits: to its sender, from the address asked for, an ARP or
neighbour answer with the port's MAC address, an echo answer with the data. -/
def execNetCtrlFrame (dt : Nat) (s : State) : Host.Outcome State Fault Refusal :=
  s.act fun d => d.live dt fun d =>
    match d.ctrl.waiting with
    | [] => d
    | x :: t =>
      let d := { d with ctrl := { d.ctrl with waiting := t } }
      let head : Bytes := ⟨32, x.src % 2 ^ 128 * 2 ^ 128 + x.dst % 2 ^ 128⟩
      let body : Bytes := if x.what = 3 then x.data else ⟨6, portMac x.port⟩
      if d.portUp x.port then (d.emit (.frame x.port x.iface x.what (head.app body))).sat D.PortCounters.TX_FRAMES x.port 1 else d

/-! ## Memberships (R167 to R169) -/

/-- The list without repeats, in order. -/
def distinct : List Nat → List Nat
  | [] => []
  | a :: t => a :: (distinct t).filter (fun b => b != a)

/-- The membership state of an interface (R167): EXCLUDE with no source where a leg has a zero source, else INCLUDE with the union; none
where it is not enabled. -/
def Dev.memberships (d : Dev) (port iface : Nat) : List GroupRec :=
  let l := if d.on D.IfCfg.ENABLE (8 * port + iface) then d.contributions port iface else []
  (distinct (l.map (fun x => x.1))).map (fun g =>
    let srcs := (l.filter (fun x => x.1 == g)).map (fun x => x.2)
    if srcs.contains 0 then ⟨g, true, []⟩ else ⟨g, false, distinct srcs⟩)

/-- Is the join mode hardware (0x0A00.01 at 0)? -/
def Dev.hwJoins (d : Dev) : Bool := d.rd D.Net.MODE 0 == 0

/-- What an interface would report now. -/
def Dev.reportedNow (d : Dev) (i : Nat) : Reported := ⟨d.memberships (i / 8) (i % 8), d.rd D.IfCfg.VLAN_ID i, d.rd D.IfCfg.IPV4_ADDR i⟩

/-- What an interface has reported. -/
def Dev.reported (d : Dev) (i : Nat) : Reported := nget d.ctrl.reported {} i

/-- The records of a group whose filter changes (R167; PRESUMED: RFC 3376's state-change records). No membership is INCLUDE with no source. -/
def changeRecs (old new : GroupRec) : List (Nat × Nat × List Nat) :=
  if new.exclude then (if old.exclude then [] else [(4, new.group, [])])
  else if old.exclude then [(3, new.group, new.sources)]
  else
    let add := new.sources.filter (fun s => !old.sources.contains s)
    let gone := old.sources.filter (fun s => !new.sources.contains s)
    (if add.isEmpty then [] else [(5, new.group, add)]) ++ (if gone.isEmpty then [] else [(6, new.group, gone)])

/-- The records of all changes from one membership state to another. -/
def changesOf (old new : List GroupRec) : List (Nat × Nat × List Nat) :=
  let get := fun (l : List GroupRec) (g : Nat) => (l.find? (fun x => x.group == g)).getD ⟨g, false, []⟩
  ((distinct (old.map GroupRec.group ++ new.map GroupRec.group)).map (fun g => changeRecs (get old g) (get new g))).flatten

/-- The records that tell a membership state as it is. -/
def currentRecs (l : List GroupRec) : List (Nat × Nat × List Nat) := l.map (fun g => (if g.exclude then 2 else 1, g.group, g.sources))

/-- The reports that carry records from an interface: IGMPv3 from its IPv4 address, or 0.0.0.0, for IPv4 groups, MLDv2 from its link-local
address for IPv6 groups (R167). -/
def reportsOf (i vlan v4 : Nat) (recs : List (Nat × Nat × List Nat)) : List Report :=
  let a := recs.filter (fun r => isV4 r.2.1)
  let b := recs.filter (fun r => !isV4 r.2.1)
  (if a.isEmpty then [] else [⟨i, vlan, 0xFFFF * 2 ^ 32 + v4, false, a⟩])
    ++ (if b.isEmpty then [] else [⟨i, vlan, linkLocal (portMac (i / 8)), true, b⟩])

/-- A report leaves its port, where that is UP. -/
def Dev.sendReport (d : Dev) (r : Report) : Dev :=
  if d.portUp (r.iface / 8) then (d.emit (.report r)).sat D.PortCounters.TX_FRAMES (r.iface / 8) 1 else d

/-- A random wait below a bound in ns: a free value. -/
def Dev.randomWait (d : Dev) (bound : Nat) : Nat := d.freeVal % (bound + 1)

/-- The bound of a repeat's wait in ns. -/
def Dev.unsolicited (d : Dev) : Nat := d.rd D.Net.UNSOLICITED_MS 0 * 1000000

/-- A report leaves and will be repeated IGMP_ROBUSTNESS − 1 times (R167). What waits to be repeated of its groups gives way to it. -/
def Dev.sendRepeated (d : Dev) (r : Report) : Dev :=
  let d := d.sendReport r
  let k := d.rd D.Net.IGMP_ROBUSTNESS 0 - 1
  let at_ := d.wall + d.randomWait d.unsolicited
  let d := d.drawn
  let groups := r.recs.map (fun x => x.2.1)
  let old := (d.ctrl.repeats.map (fun (x : Nat × Nat × Report) =>
    if x.2.2.iface = r.iface ∧ x.2.2.vlan = r.vlan then
      (x.1, x.2.1, { x.2.2 with recs := x.2.2.recs.filter (fun y => !groups.contains y.2.1) })
    else x)).filter (fun x => !x.2.2.recs.isEmpty)
  { d with ctrl := { d.ctrl with repeats := old ++ (if k = 0 then [] else [(k, at_, r)]) } }

/-- Reports leave one after the other. -/
def Dev.sendAll (d : Dev) : List Report → Dev
  | [] => d
  | r :: t => (d.sendRepeated r).sendAll t

/-- The state-change reports of an interface whose state was `old` and is `new` (R164, R167): memberships move to a new VLAN, those of IPv4
groups also to a new address, by leaving and joining. -/
def changeReports (i : Nat) (old new : Reported) : List Report :=
  let part := fun (v4 moved : Bool) =>
    let o := old.groups.filter (fun g => isV4 g.group == v4)
    let n := new.groups.filter (fun g => isV4 g.group == v4)
    if moved then reportsOf i old.vlan old.v4 (changesOf o []) ++ reportsOf i new.vlan new.v4 (changesOf [] n)
    else reportsOf i new.vlan new.v4 (changesOf o n)
  part true (old.vlan != new.vlan || old.v4 != new.v4) ++ part false (old.vlan != new.vlan)

/-- NET_MEMBERSHIP_REPORT (R164, R167): the memberships of an interface, its VLAN or its address have changed, and the state-change reports are
sent, once its port is UP. -/
def execNetMembershipReport (dt iface : Nat) (s : State) : Host.Outcome State Fault Refusal :=
  s.act fun d => d.live dt fun d =>
    if 256 ≤ iface ∨ !d.hwJoins ∨ !d.portUp (iface / 8) then d
    else
      let now := d.reportedNow iface
      let d' := d.sendAll (changeReports iface (d.reported iface) now)
      { d' with ctrl := { d'.ctrl with reported := nput d'.ctrl.reported {} iface now } }

/-- IGMP_REPORT_REPEAT (R167): the repeat of a state-change report of an interface falls due. -/
def execIgmpReportRepeat (dt iface : Nat) (s : State) : Host.Outcome State Fault Refusal :=
  s.act fun d => d.live dt fun d =>
    match d.ctrl.repeats.find? (fun r => r.2.2.iface == iface && decide (r.2.1 ≤ d.wall)) with
    | none => d
    | some r =>
      if !d.hwJoins then d
      else
        let d := d.sendReport r.2.2
        let at_ := d.wall + d.randomWait d.unsolicited
        let d := d.drawn
        let rest := d.ctrl.repeats.erase r
        { d with ctrl := { d.ctrl with repeats := if r.1 ≤ 1 then rest else rest ++ [(r.1 - 1, at_, r.2.2)] } }

/-- NET_QUERY_RX (R165, R167, R168, R170): a membership query arrives on an interface of a port: `version` 1 to 3 is IGMPv1 to v3, 4 and 5 MLDv1
and v2; `ask` is the group it asks for (0 a general query) and its maximum response time in ns. -/
def execNetQueryRx (dt port iface version : Nat) (ask : Nat × Nat) (s : State) : Host.Outcome State Fault Refusal :=
  s.act fun d => d.live dt fun d =>
    if 32 ≤ port ∨ 8 ≤ iface ∨ !d.portUp port ∨ !d.on D.IfCfg.ENABLE (8 * port + iface) then d
    else
      let take := d.coresTake port
      let d := (d.sat D.PortCounters.RX_FRAMES port 1).coreFrame port
      if take = false then d
      else
        let d := d.sat D.Net.QUERIES_RX 0 1
        let d := if version < 3 ∨ version = 4 then (d.sat D.Net.OLD_QUERIERS 0 1).raise Src.NET_OLD_QUERIER port else d
        if d.hwJoins then
          let at_ := d.wall + d.randomWait ask.2
          let d := d.drawn
          { d with ctrl := { d.ctrl with queries := d.ctrl.queries ++ [⟨8 * port + iface, at_, decide (4 ≤ version), ask.1⟩] } }
        else d

/-- NET_QUERY_RESPONSE (R167): the random delay of a query has passed, and the current-state report is sent: of all groups of its family,
or of the group asked for. -/
def execNetQueryResponse (dt iface : Nat) (s : State) : Host.Outcome State Fault Refusal :=
  s.act fun d => d.live dt fun d =>
    match d.ctrl.queries.find? (fun q => q.iface == iface && decide (q.at_ ≤ d.wall)) with
    | none => d
    | some q =>
      if !d.hwJoins then d
      else
        let d := { d with ctrl := { d.ctrl with queries := d.ctrl.queries.erase q } }
        let l := (d.memberships (iface / 8) (iface % 8)).filter (fun g => isV4 g.group != q.v6 && (q.group == 0 || g.group == q.group))
        (reportsOf iface (d.rd D.IfCfg.VLAN_ID iface) (d.rd D.IfCfg.IPV4_ADDR iface) (currentRecs l)).foldl (fun d r => d.sendReport r) d

/-- R170: a write of CTRL_TX: the port, a reserved byte, one Ethernet frame. -/
def Dev.ctrlTx (d : Dev) (v : Bytes) : Dev × Nat :=
  let p := byteAt v.len v.val 0
  if d.hwJoins then (d, St.STATE)
  else if v.len < 62 ∨ 1516 < v.len ∨ 32 ≤ p ∨ byteAt v.len v.val 1 ≠ 0 then (d, St.RANGE)
  else ((if d.portUp p then (d.emit (.frame p 8 4 (v.drop 2))).sat D.PortCounters.TX_FRAMES p 1 else d), St.OK)

/-- CTRL_TX (R170): one Ethernet frame is sent in host-assisted mode. -/
def execCtrlTx (q : Rcp) (v : Bytes) (s : State) : Host.Outcome State Fault Refusal :=
  s.act (serveDom (.ctrlTx q.again v) q 0x0A01 1 0 v fun _ d => d.ctrlTx v)

end Sys2Proof.Machine
end

