-- ==== Sys2Proof/Machine/Sdi.lean ====
section
/-! DEFINITION. SDI ports: receive lock, format detection, freezing and resuming (R136 to R141, R144), the transmit frame boundary
(R73, R149, R152, R153), HOLD's limit. -/

namespace Sys2Proof.Machine

open Sys2Proof

/-- The lane whose RX_CFG element a lane uses: that named by BIND INDEX of its group (R156). -/
def Dev.rxCfgLane (d : Dev) (l : Nat) : Nat := match d.sdiCtx 1 l with | some c => d.bindIx c | none => l

/-- The context of a lane freezes where its port is not ready (R139). -/
def Dev.laneChanged (d : Dev) (l : Nat) : Dev := match d.sdiCtx 1 l with | some c => d.freezeIf c | none => d

/-- DETECTED_FORMAT reads 0 until a result is written (R138). -/
def Dev.undetect (d : Dev) (l : Nat) : Dev := d.wr D.SdiRxStatus.DETECTED_FORMAT l 0

/-- The spread of a group's EAVs of line 1, from when each arrived at its ball (R136). -/
def spread (arrivals : List Nat) : Nat := arrivals.foldl max 0 - arrivals.foldl min (arrivals.headD 0)

/-- A group is measured at its EAVs of line 1 (R136): it is aligned within 2,000 ns, and its stream then follows the latest link. -/
def Dev.showSkew (d : Dev) (c : Nat) (arrivals : List Nat) : Dev :=
  let lanes := d.lanes c
  let skew := spread arrivals
  if lanes.length < 2 then d.each lanes (fun d l => d.flag D.SdiRxStatus.GROUP_ALIGNED l true)
  else
    let locked := lanes.all (fun l => d.on D.SdiRxStatus.LOCKED l)
    let ok := locked && decide (skew ≤ 2000)
    let d := (d.wr D.SdiRxStatus.GROUP_SKEW_NS (d.bindIx c) (min skew 65535)).each lanes (fun d l => d.flag D.SdiRxStatus.GROUP_ALIGNED l ok)
    if ok then d.setRx (d.bindIx c) (fun x => { x with lag := arrivals.foldl max 0 - arrivals.headD 0 })
    else if locked then d.raise Src.SDI_GROUP_SKEW (d.bindIx c) else d

/-! ## Receive -/

/-- SDI_RX_LOCK (R129, R137): a lane that is not locked locks at a rate of Table 05.1, the one RATE_CODE fixes where it does. -/
def execSdiRxLock (dt lane rate : Nat) (s : State) : Host.Outcome State Fault Refusal :=
  s.act fun d => d.live dt fun d =>
    let code := d.rd D.SdiRxCfg.RATE_CODE (d.rxCfgLane lane)
    if 128 ≤ lane ∨ rate = 0 ∨ 9 < rate ∨ (code ≠ 0 ∧ code ≠ rate) ∨ d.on D.SdiRxStatus.LOCKED lane then d
    else
      let d := ((d.flag D.SdiRxStatus.LOCKED lane true).flag D.SdiRxStatus.TRS_OK lane true).wr D.SdiRxStatus.RATE lane rate
      d.setRx lane (fun x => { x with changedAt := some d.wall })

/-- SDI_RX_LOCK_LOST (R137, R138, R139). -/
def execSdiRxLockLost (dt lane : Nat) (s : State) : Host.Outcome State Fault Refusal :=
  s.act fun d => d.live dt fun d =>
    if 128 ≤ lane ∨ !d.on D.SdiRxStatus.LOCKED lane then d
    else
      let d := (((d.sdiErrors lane).flag D.SdiRxStatus.LOCKED lane false).flag D.SdiRxStatus.TRS_OK lane false).wr D.SdiRxStatus.RATE lane 0
      let d := ((d.flag D.SdiRxStatus.PID_PRESENT lane false).flag D.SdiRxStatus.PID_MISMATCH lane false).flag D.SdiRxStatus.GROUP_ALIGNED lane false
      let d := (d.undetect lane).setRx lane (fun x => { x with changedAt := none })
      let d := (d.sat D.SdiRxCounters.LOCK_LOSSES lane 1).raise Src.SDI_RX_LOCK_LOST lane
      (((d.scanAbort lane).laneChanged lane).deembedStop lane).refHalt (lane + 4)

/-- SDI_RX_FORMAT_CHANGE (R138). -/
def execSdiRxFormatChange (dt lane : Nat) (s : State) : Host.Outcome State Fault Refusal :=
  s.act fun d => d.live dt fun d =>
    if 128 ≤ lane ∨ !d.on D.SdiRxStatus.LOCKED lane then d
    else
      let d := (d.sat D.SdiRxCounters.FORMAT_CHANGES lane 1).undetect lane
      (d.setRx lane (fun x => { x with changedAt := some d.wall })).laneChanged lane

/-- The FORMAT the receiver derives (R138): RASTER and RATE as measured, the rest from the identifier, or 4:2:2 10-bit, the
MAPPING of the bound FORMAT and BT.709 where there is none. -/
def Dev.derived (d : Dev) (lane raster rate : Nat) (pid : Option (Nat × Nat)) : Nat :=
  raster % 16 * 4096 + rate % 16 * 256 + (match pid with
    | some p => p.2 % 256
    | none => match d.sdiCtx 1 lane with | some c => Fmt.mapping (d.format c) * 4 | none => 0)

/-- SDI_FORMAT_DETECTED (R138, R141, R144): two frames after lock or a change the result is written. `pid` holds the ST 352 word
received and the FORMAT it names, `ltc` the LTC word, `arrivals` when the EAV of line 1 came on each link of the group, in ns. -/
def execSdiFormatDetected (dt lane raster rate : Nat) (arrivals : List Nat) (ltc : Nat) (pid : Option (Nat × Nat)) (s : State) :
    Host.Outcome State Fault Refusal :=
  s.act fun d => d.live dt fun d =>
    match (d.rxSt lane).changedAt with
    | none => d
    | some t =>
      if 128 ≤ lane ∨ !d.on D.SdiRxStatus.LOCKED lane ∨ rate = 0 ∨ 8 < rate ∨ raster = 0 ∨ 8 < raster
          ∨ (d.wall - t) * Fmt.fps1001 rate < 2 * Fmt.period1001 then d
      else
        let f := d.derived lane raster rate pid
        let d := (d.wr D.SdiRxStatus.DETECTED_FORMAT lane f).flag D.SdiRxStatus.PID_PRESENT lane pid.isSome
        let d := match pid with
          | some p => (d.wr D.SdiRxStatus.PID lane p.1).flag D.SdiRxStatus.PID_MISMATCH lane (p.2 % 65536 / 256 != f / 256)
          | none => d.flag D.SdiRxStatus.PID_MISMATCH lane false
        let d := (d.wr D.SdiRxStatus.ATC_LTC lane (ltcShown ltc)).setRx lane (fun x => { x with changedAt := none })
        match d.sdiCtx 1 lane with
        | none => d
        | some c => (d.showSkew c arrivals).freezeIf c

/-- SDI_PORT_RESUME (R136, R139): the first frame start, of a group's latest link, at which every lane of a frozen port is locked, matched and
aligned. `first` and `others` tell when the EAV of line 1 came on link 0 and on the others, in ns. -/
def execSdiPortResume (dt ctx first : Nat) (others : List Nat) (s : State) : Host.Outcome State Fault Refusal :=
  s.act fun d => d.live dt fun d =>
    if 4096 ≤ ctx ∨ d.kind ctx ≠ 1 ∨ !d.running ctx ∨ (d.flowSt ctx).base.isSome then d
    else
      let d := d.showSkew ctx (first :: others)
      if d.portReady ctx = false ∨ !(d.flowSt ctx).begun then d
      else
        let d := (d.flag D.FlowStatus.FROZEN ctx false).flag D.FlowStatus.SOURCE_LOST ctx false
        d.setFlow ctx (fun x => { x with base := some (d.rd D.Flow.SEQ_NEXT ctx) })

/-- SDI_GROUP_DESKEW_LOST (R136, R139). -/
def execSdiGroupDeskewLost (dt lane skew : Nat) (s : State) : Host.Outcome State Fault Refusal :=
  s.act fun d => d.live dt fun d =>
    match d.sdiCtx 1 lane with
    | none => d
    | some c =>
      if (d.lanes c).length < 2 ∨ skew ≤ 2000 ∨ !d.on D.SdiRxStatus.LOCKED lane then d
      else
        let d := (d.wr D.SdiRxStatus.GROUP_SKEW_NS (d.bindIx c) (min skew 65535)).flag D.SdiRxStatus.GROUP_ALIGNED lane false
        (d.raise Src.SDI_GROUP_SKEW (d.bindIx c)).freezeIf c

/-- SDI_PID_ABSENT (R139): a frame has passed with no ST 352 packet. -/
def execSdiPidAbsent (dt lane : Nat) (s : State) : Host.Outcome State Fault Refusal :=
  s.act fun d => d.live dt fun d =>
    if 128 ≤ lane then d
    else ((d.flag D.SdiRxStatus.PID_PRESENT lane false).flag D.SdiRxStatus.PID_MISMATCH lane false).laneChanged lane

/-! ## Transmit -/

/-- R149, R83: the kerf check of a TIMED output at its frame boundary. -/
def Dev.boundaryKerf (d : Dev) (c : Nat) : Dev :=
  match (d.flowSt c).cur with
  | none => d
  | some m =>
    let off := match (d.flowSt c).boundary, (d.flowSt c).lastSwitch with
      | some b, some t => if d.fsLocked c m.efn then none else some (d.offsetAt c b t)
      | _, _ => none
    let ok := match off with | some x => d.inKerf c x | none => true
    let d := match off with
      | some x => d.each (d.lanes c) (fun d l => d.wrI D.SdiTxStatus.SOURCE_OFFSET_NS l (d.offsetNs c x))
      | none => d
    if ok then
      ((d.showUntimed c false).dropWhy c Safe.untimed).setFlow c (fun x => { x with timed := true, waitTimed := false })
    else if (d.flowSt c).timed && !bit (d.flowSt c).safe Safe.untimed then
      let d := (d.enterSafe c Safe.untimed).showUntimed c true
      (d.each (d.lanes c) (fun d l => d.sat D.SdiTxCounters.RETIME_OVERFLOWS l 1)).raise Src.SDI_TX_UNTIMED (d.bindIx c)
    else d.showUntimed c true

/-- R351, R353: the groups an output inserts are shown; the embedder of an output in safe content has read the samples of a frame. -/
def Dev.embedFrame (d : Dev) (c : Nat) : Dev :=
  let l := d.bindIx c
  if d.embedGroups c = [] then (d.wr D.AudLaneStatus.GROUPS_EMBEDDED l 0).embedStop l
  else
    let d := d.wr D.AudLaneStatus.GROUPS_EMBEDDED l (d.rd D.EmbedCfg.GROUPS l)
    if !d.isSafe c then d
    else
      let f := d.format c
      let k : Int := d.audio.pos
      let den := max 1 (Fmt.fps f * Fmt.totalLines f)
      let put := fun (d : Dev) (w : Int) (left : Nat) => d.setAudio (fun a => { a with laneR := (l, w, left) :: a.laneR.filter (fun e => e.1 != l) })
      match d.audio.laneR.find? (fun e => e.1 == l) with
      | none => put d (k - 4) 0
      | some e =>
        let n := e.2.2 + 48000 * 1001 * Fmt.totalLines f
        let w := e.2.1 + (n / den : Nat)
        if k - 7 ≤ w ∧ w ≤ k - 1 then put d w (n % den) else put (d.embedCentre l) (k - 4) 0

/-- The device time at which a frame boundary of an SDI output falls now; none where none does. A TIMED output has them at its DPLL's
references (R147), a TRANSPARENT one where it releases its source's switching line, and at its last rate where it has no source words
(R146). -/
def Dev.boundaryNow (d : Dev) (c : Nat) : Option Nat :=
  let x := d.flowSt c
  if d.timedOut c then
    d.boundaryAt (d.rd D.SdiTxCfg.DPLL (d.bindIx c)) (d.format c) (d.rd D.SdiTxCfg.OUT_PHASE_NS (d.bindIx c)) x.boundary
  else
    let words := x.sdi.aligned && !d.on D.FlowStatus.SOURCE_LOST c && x.cur.isSome
    let switch := x.sdi.lines.any (fun l => l.line == 0) || x.sdiNext.lines.any (fun l => l.line == 0)
    match x.boundary with
    | none => some d.now
    | some b =>
      let p := if (d.txSt c).period = 0 then Fmt.periodNs (d.format c) else (d.txSt c).period
      let gone := sdiff d.now b 64
      if switch ∨ (if words then decide ((p + p / 5000 : Nat) ≤ gone) else decide ((p : Nat) ≤ gone)) = true then some d.now else none

/-- R190: does a frame of a network output in safe state begin now: a frame period of FORMAT after the last? -/
def Dev.safeDue (d : Dev) (c : Nat) : Bool :=
  match (d.flowSt c).boundary with
  | none => true
  | some b => decide ((Fmt.periodNs (d.format c) : Int) ≤ sdiff d.now b 64)

/-- SDI_TX_FRAME_BOUNDARY of an SDI output (R73, R107, R144, R146 to R149, R152, R153): it releases the first bit of the switching line's
EAV, and the frame turns. -/
def Dev.sdiBoundary (d : Dev) (c at_ : Nat) (show_ : List Nat) : Dev :=
  let source := d.source c
  let served := d.carries c
  let d := d.setFlow c (fun x => { x with boundary := some at_, oldDelay := none })
  let d := d.setTx c (fun x => { x with ltcNext := d.ltcAt c at_, frameNext := some at_ })
  let d := ((d.embedFrame c).insertAgain c).insertLate c
  let d := if d.timedOut c then d.boundaryKerf c
    else d.setFlow c (fun x => { x with waitTimed := false })
  -- the boundary is the application instant of a change that is due (R83)
  let d := (d.applyDue c).leaveSafe c
  d.turnFrame c (served && d.source c == source) show_

/-- SDI_TX_FRAME_BOUNDARY (R73, R72, R107, R149, R152, R153, R190, R483): the output releases the first bit of the switching line's
EAV; for a network output in safe state, a frame of its own timing begins. `lines` lines of the BLACK generator from `line` on are among
those shown of a BLACK frame that begins. -/
def execSdiTxFrameBoundary (dt ctx line lines : Nat) (s : State) : Host.Outcome State Fault Refusal :=
  s.act fun d => d.live dt fun d =>
    if ctx < 4096 ∨ 8192 ≤ ctx ∨ !d.running ctx then d
    else if d.kind ctx = 0x41 then
      (match d.boundaryNow ctx with
       | some t => d.sdiBoundary ctx t ((List.range lines).map (fun i => line + i))
       | none => d)
    else if d.isSafe ctx && !d.safeDue ctx then d
    else if d.kind ctx = 0x47 then
      let d := d.frameEnd ctx (d.armed ctx)
      let d := d.setFlow ctx (fun x => { x with boundary := some d.now, oldDelay := none, waitTimed := false })
      let d := (((d.insertAgain ctx).insertLate ctx).applyDue ctx).leaveSafe ctx
      if d.isSafe ctx then
        let d := d.safeFrame ctx
        d.txSafe ctx (d.safeHold ctx)
      else d.sendFrame ctx (if (d.flowSt ctx).waitTimed ∨ (d.flowSt ctx).cur.isNone then 1 else 0)
    else
      let d := (d.insertAgain ctx).insertLate ctx
      if d.isSafe ctx && Kind.netTx (d.kind ctx) && !Kind.audio (d.kind ctx) then
        let d := (d.setFlow ctx (fun x => { x with boundary := some d.now })).safeFrame ctx
        d.txSafe ctx (d.safeHold ctx)
      else d

/-- HOLD_MAX_EXPIRY (R153, R192): an output that has held for HOLD_MAX_S seconds sends BLACK from its next frame on; an
ST2110_22_OUT output is silent and raises NET_HOLD_EMPTY. -/
def execHoldMaxExpiry (dt ctx : Nat) (s : State) : Host.Outcome State Fault Refusal :=
  s.act fun d => d.live dt fun d =>
    let h := nget d.hold {} ctx
    match h.heldSince with
    | none => d
    | some t =>
      if !d.isSafe ctx ∨ !d.safeHold ctx ∨ d.holdMax ctx = 0 ∨ h.expired ∨ !d.past t (d.holdMax ctx * 1000000000) then d
      else
        let d := { d with hold := nput d.hold {} ctx { h with expired := true } }
        if d.kind ctx = 0x43 then (d.setSafeHold ctx false).holdEmpty ctx else d

end Sys2Proof.Machine
end

