-- ==== Sys2Proof/Machine/Phy.lean ====
section
/-! DEFINITION. The lanes' physical layer: LANE_CMD, eye margin, lane failure and degradation, spares, PRBS checkers (R235 to R249). -/

namespace Sys2Proof.Machine

open Sys2Proof

/-- Is an element a dowel lane (Table 08.1)? -/
def isDowel (lane : Nat) : Bool := decide (164 ≤ lane) && decide (lane ≤ 235)

/-- Is the receive lane of an element locked? -/
def Dev.laneLocked (d : Dev) (lane : Nat) : Bool :=
  if lane < 128 then d.on D.SdiRxStatus.LOCKED lane
  else if lane < 164 then
    let phys := lane - 128
    let used := match (List.range 4).find? (fun s => d.on D.SpareStatus.IN_USE s && 32 + s == phys) with
      | some s => d.rd D.SpareStatus.LANE s
      | none => phys
    (match d.portOfLane used with | some p => d.on D.PortStatus.PCS_ALIGNED p | none => false)
  else d.on D.LaneStatus.CDR_LOCKED lane

/-! ## LANE_CMD (R248, R249, Table 08.5) -/

/-- STEP: a holding dowel lane offers its next step once (R214, R248). -/
def Dev.cmdStep (d : Dev) (lane : Nat) : Dev × Nat :=
  let e := lane - 164
  let d := d.laneBlocks e
  let x := d.dl e
  if !isDowel lane ∨ d.rd D.Phy.MODE 0 ≠ 1 ∨ d.laneState e ≠ LaneState.TRAINING ∨ !x.dwelt ∨ 4 ≤ x.step ∨ x.offerTx ∨ x.allow then (d, St.STATE)
  else (d.setDl e (fun x => { x with allow := true }), St.OK)

/-- SWAP_OUT (R242). -/
def Dev.cmdSwap (d : Dev) (lane : Nat) : Dev × Nat :=
  let e := lane - 164
  if !isDowel lane ∨ d.laneState e ≠ LaneState.IN_ROTATION then (d, St.STATE)
  else match d.readySpare (e / 9) with
    | some sp => (d.swapOut e sp, St.OK)
    | none => (d, St.STATE)

/-- RETRAIN: a FAILED dowel lane or a spare starts again from S0 (R245), by a BLOCK reset of the lane (Table 18.3). -/
def Dev.cmdRetrain (d : Dev) (lane : Nat) : Dev × Nat :=
  let e := lane - 164
  let st := d.laneState e
  if !isDowel lane ∨ (st ≠ LaneState.FAILED ∧ !(d.dl e).spare) ∨ st = LaneState.OFF then (d, St.STATE)
  else
    let d := (d.sat D.Rst.RESET_COUNTS 4 1).laneStart e
    let d := (d.setDl e (fun x => { x with fails := [], commanded := st == LaneState.FAILED })).wr D.DwlLane.ATTEMPTS e 0
    (d.showSpares (e / 9), St.OK)

/-- MARGIN_SCAN (R238). -/
def Dev.cmdScan (d : Dev) (target lane : Nat) : Dev × Nat :=
  if target < 6 ∨ 15 < target then (d, St.RANGE)
  else if !d.laneLocked lane ∨ (lane < 128 ∧ d.rd D.SdiRxStatus.RATE lane = 1) then (d, St.STATE)
  else if 8 ≤ d.phy.scans.length ∨ d.phy.scans.any (fun x => x.1 == lane) then (d, St.BUSY)
  else
    let d := { d with phy := { d.phy with scans := d.phy.scans ++ [(lane, d.wall)] } }
    (((d.wr D.Margin.SCAN_STATE lane 1).wr D.Margin.TARGET_EXP lane target), St.OK)

/-- MARGIN_ABORT (R238). -/
def Dev.cmdAbort (d : Dev) (lane : Nat) : Dev × Nat :=
  if d.phy.scans.any (fun x => x.1 == lane) then (d.scanAbort lane, St.OK) else (d, St.STATE)

/-- The body of a LANE_CMD write. -/
def Dev.laneCmd (d : Dev) (v : Nat) : Dev × Nat :=
  let cmd := bitsOf v 24 8
  let target := bitsOf v 16 8
  let lane := bitsOf v 0 16
  if 235 < lane ∨ cmd = 0 ∨ 5 < cmd ∨ (cmd ≠ 4 ∧ target ≠ 0) then (d, St.RANGE)
  else if cmd = 1 then d.cmdStep lane
  else if cmd = 2 then d.cmdSwap lane
  else if cmd = 3 then d.cmdRetrain lane
  else if cmd = 4 then d.cmdScan target lane
  else d.cmdAbort lane

/-- The value of a LANE_CMD write. -/
def laneCmdValue (cmd target lane : Nat) : Nat := cmd * 2 ^ 24 + target % 256 * 2 ^ 16 + lane % 65536

/-- LANE_CMD_STEP (R248). -/
def execLaneCmdStep (q : Rcp) (lane : Nat) (s : State) : Host.Outcome State Fault Refusal :=
  s.act (serveWrite (.laneCmdStep q.again lane) q 0x0800 2 ⟨4, laneCmdValue 1 0 lane⟩ fun _ d => d.laneCmd (laneCmdValue 1 0 lane))

/-- LANE_CMD_SWAP_OUT (R242). -/
def execLaneCmdSwapOut (q : Rcp) (lane : Nat) (s : State) : Host.Outcome State Fault Refusal :=
  s.act (serveWrite (.laneCmdSwapOut q.again lane) q 0x0800 2 ⟨4, laneCmdValue 2 0 lane⟩ fun _ d => d.laneCmd (laneCmdValue 2 0 lane))

/-- LANE_CMD_RETRAIN (R245). -/
def execLaneCmdRetrain (q : Rcp) (lane : Nat) (s : State) : Host.Outcome State Fault Refusal :=
  s.act (serveWrite (.laneCmdRetrain q.again lane) q 0x0800 2 ⟨4, laneCmdValue 3 0 lane⟩ fun _ d => d.laneCmd (laneCmdValue 3 0 lane))

/-- LANE_CMD_MARGIN_SCAN (R238). -/
def execLaneCmdMarginScan (q : Rcp) (target lane : Nat) (s : State) : Host.Outcome State Fault Refusal :=
  s.act (serveWrite (.laneCmdMarginScan q.again target lane) q 0x0800 2 ⟨4, laneCmdValue 4 target lane⟩
    fun _ d => d.laneCmd (laneCmdValue 4 target lane))

/-- LANE_CMD_MARGIN_ABORT (R238). -/
def execLaneCmdMarginAbort (q : Rcp) (lane : Nat) (s : State) : Host.Outcome State Fault Refusal :=
  s.act (serveWrite (.laneCmdMarginAbort q.again lane) q 0x0800 2 ⟨4, laneCmdValue 5 0 lane⟩ fun _ d => d.laneCmd (laneCmdValue 5 0 lane))

/-- MARGIN_SCAN_DONE (R238): the eye measured, width in 1/1,000 UI and height in mV. -/
def execMarginScanDone (dt lane width height : Nat) (s : State) : Host.Outcome State Fault Refusal :=
  s.act fun d => d.lanesRun dt fun d =>
    match d.phy.scans.find? (fun x => x.1 == lane) with
    | none => d
    | some (_, t) =>
      if !d.laneLocked lane then d.scanAbort lane
      else
        let d := { d with phy := { d.phy with scans := d.phy.scans.filter (fun x => x.1 != lane) } }
        let d := (d.wr D.Margin.SCAN_STATE lane 2).wr D.Margin.WIDTH_MUI lane (min width 65535)
        (d.wr D.Margin.HEIGHT_MV lane (min height 65535)).wr D.Margin.SCAN_MS lane (min 65535 ((d.wall - t) / 1000000))

/-! ## Failure, degradation, spares -/

/-- PHY_LANE_FAILED (R240, R243, R244): a dowel lane that has completed S4 loses lock (cause 0) or its skew exceeds 25 ns (cause 1). -/
def execPhyLaneFailed (dt lane cause skew : Nat) (s : State) : Host.Outcome State Fault Refusal :=
  s.act fun d => d.lanesRun dt fun d =>
    let e := lane - 164
    let st := d.laneState e
    if !isDowel lane ∨ (st ≠ LaneState.IN_ROTATION ∧ st ≠ LaneState.SPARE_PRBS) ∨ 1 < cause ∨ (cause = 1 ∧ skew ≤ 25000) then d
    else
      let d := if cause = 0 then d.sat D.DwlLaneCounters.LOCK_LOSSES e 1 else d.wr D.DwlLane.SKEW_PS e (min skew 65535)
      if st = LaneState.SPARE_PRBS then d.spareFail e else d.laneFail e

/-- A whole second has passed since a lane's errors were last judged; none has before its first. -/
def Dev.judgeDue (d : Dev) (lane : Nat) : Bool := d.past (nget d.phy.judged 0 lane) 1000000000

/-- PHY_DEGRADE_CHECK (R240, R242): the whole second of a lane: pre-FEC symbol errors and symbols of a network lane, line CRC errors
of an SDI lane; of a dowel lane the code violations and disparity errors that no item's arrival has reported (R197). -/
def execPhyDegradeCheck (dt lane errors symbols : Nat) (s : State) : Host.Outcome State Fault Refusal :=
  s.act fun d => d.lanesRun dt fun d =>
    if 235 < lane ∨ !d.judgeDue lane then d
    else
      let d := { d with phy := { d.phy with judged := nput d.phy.judged 0 lane d.wall } }
      if isDowel lane then
        let e := lane - 164
        let n := (d.dl e).errs + errors + symbols
        let d := (d.sat D.DwlLaneCounters.CODE_VIOLATIONS e errors).sat D.DwlLaneCounters.DISPARITY_ERRORS e symbols
        let d := (d.setDl e (fun x => { x with errs := 0 })).wr D.LaneStatus.ERRORS_PER_S lane (min n (2 ^ 32 - 1))
        if d.laneState e ≠ LaneState.IN_ROTATION ∨ n ≤ d.rd D.Phy.DEGRADE_CV_PER_S 0 then d
        else
          let d := (d.wr D.LaneStatus.USE lane LaneUse.DEGRADED).raise Src.PHY_LANE_DEGRADED lane
          match d.on D.Phy.AUTO_SPARE 0, d.readySpare (e / 9) with
          | true, some sp => d.swapOut e sp
          | _, _ => d
      else
        let d := d.wr D.LaneStatus.ERRORS_PER_S lane (min errors (2 ^ 32 - 1))
        if lane < 128 then d
        else
          let phys := lane - 128
          let limit := 10 ^ d.rd D.Phy.NET_FAIL_SER 0
          match d.portOfLane phys with
          | none => d
          | some p =>
            if !d.portUp p then d
            else if symbols < errors * limit then (d.wr D.LaneStatus.USE lane LaneUse.FAILED).autoRemap phys
            else if symbols < errors * limit * 100 then (d.wr D.LaneStatus.USE lane LaneUse.DEGRADED).raise Src.PHY_LANE_DEGRADED lane
            else d.wr D.LaneStatus.USE lane LaneUse.IN_SERVICE

/-- SPARE_READINESS_CHECK (R239): the filler errors of a group's spare in a whole second. -/
def execSpareReadinessCheck (dt group errors : Nat) (s : State) : Host.Outcome State Fault Refusal :=
  s.act fun d => d.lanesRun dt fun d =>
    match (lanesOf group).find? (fun e => d.laneState e == LaneState.SPARE_PRBS) with
    | none => d
    | some e =>
      if 8 ≤ group ∨ !d.judgeDue (phyOf e) then d
      else
        let d := { d with phy := { d.phy with judged := nput d.phy.judged 0 (phyOf e) d.wall } }
        let ready := d.spareReady e
        let d := (d.sat D.PrbsCounters.ERRORS (phyOf e) errors).sat D.PrbsCounters.BITS (phyOf e) 112000000000
        let d := d.setDl e (fun x => { x with filler := (errors :: x.filler).take 10 })
        if ready ∧ d.rd D.Phy.SPARE_ERR_PER_S 0 < errors then
          let d := d.raise Src.PHY_SPARE_UNFIT (phyOf e)
          let d := if (d.dl e).unfit then d else (d.laneStart e).setDl e (fun x => { x with unfit := true })
          d.showSpares group
        else d.showSpares group

/-- SDI_SLICE_SPARE (R240, R247): a failed SDI receive lane is moved to the spare slice of its range; `locks` says whether it then
locks. -/
def execSdiSliceSpare (dt lane : Nat) (locks : Bool) (s : State) : Host.Outcome State Fault Refusal :=
  s.act fun d => d.live dt fun d =>
    let sp := lane / 16
    if 128 ≤ lane ∨ !d.on D.Phy.AUTO_SPARE 0 ∨ d.on D.SliceMap.IN_USE sp ∨ d.on D.SdiRxStatus.LOCKED lane ∨ d.on D.LaneStatus.SPARED lane then d
    else if locks = false then d
    else
      let d := (d.flag D.SliceMap.IN_USE sp true).wr D.SliceMap.LANE sp lane
      let d := (d.flag D.LaneStatus.SPARED lane true).wr D.LaneStatus.USE lane LaneUse.IN_SERVICE
      (d.knotAdd KnotKind.SDI_SLICE KnotAct.SPARE_IN lane sp Src.PHY_SLICE_SPARED 0).raise Src.PHY_SLICE_SPARED lane

/-! ## PRBS checkers (R235 to R237) -/

/-- Bit rate of a lane under test, in Mbit/s: TEST_RATE (Table 08.7); a PAM4 symbol is two bits. -/
def Dev.testRate (d : Dev) (lane : Nat) : Nat :=
  let r := d.rd D.LaneCfg.TEST_RATE lane
  if lane < 128 then (match r with | 1 => 270 | 2 => 1485 | 3 => 1485 | 4 => 2970 | 5 => 2970 | 6 => 5940 | 7 => 5940 | 8 => 11880 | 9 => 11880 | _ => 0)
  else if lane < 164 then (match r with | 1 => 25781 | 2 => 53125 | 3 => 106250 | _ => 0)
  else (stepRow r).1

/-- Does a checker run on a lane: PRBS_MODE names checking? -/
def Dev.checking (d : Dev) (lane : Nat) : Bool := decide (2 ≤ d.rd D.LaneCfg.PRBS_MODE lane)

/-- PRBS_CHECKER_LOCK (R237). -/
def execPrbsCheckerLock (dt lane : Nat) (s : State) : Host.Outcome State Fault Refusal :=
  s.act fun d => d.lanesRun dt fun d =>
    if 235 < lane ∨ !d.checking lane ∨ d.on D.LaneStatus.PRBS_LOCK lane then d
    else { d with phy := { d.phy with prbs := (lane, d.wall) :: d.phy.prbs.filter (fun x => x.1 != lane) } }.flag D.LaneStatus.PRBS_LOCK lane true

/-- PRBS_CHECKER_UNLOCK (R237): the bits compared and in error since the checker locked or was last read. -/
def execPrbsCheckerUnlock (dt lane bits errors : Nat) (s : State) : Host.Outcome State Fault Refusal :=
  s.act fun d => d.lanesRun dt fun d =>
    if 235 < lane ∨ !d.on D.LaneStatus.PRBS_LOCK lane then d
    else
      let d := { d with phy := { d.phy with prbs := d.phy.prbs.filter (fun x => x.1 != lane) } }.flag D.LaneStatus.PRBS_LOCK lane false
      let d := (d.sat D.PrbsCounters.BITS lane bits).sat D.PrbsCounters.ERRORS lane (min errors bits)
      d.sat D.PrbsCounters.LOCK_LOSSES lane 1

end Sys2Proof.Machine
end

