-- ==== Sys2Proof/Machine/Reset.lean ====
section
/-! DEFINITION. Resets: their sources, assertion, release and the pins (R492 to R500), PORST_ASSERT to RSTN_OUT_END. -/

namespace Sys2Proof.Machine

open Sys2Proof

/-- Change the reset controller's state. -/
def Dev.setRst (d : Dev) (f : RstSt → RstSt) : Dev := { d with rst := f d.rst }

/-! ## What a reset clears (Tables 18.1 and 18.2) -/

/-- Does an entry keep its value through a reset of a reach? P entries do; RESET_CAUSE, RESET_COUNTS and PWR_WARNS but for a POR (AON);
the straps until they are sampled again; DEBUG_STATE; the fuse shadow's result, the held time values and the fault status through a
WARM. -/
def keeps (reach : Nat) (k : Key) : Bool :=
  (match Dict.row k.ix k.sub with | some r => r.pers | none => false)
    || k.ix == 0x0510 && k.sub == 0x0A || k.ix == D.Ens.GEO.ix && k.sub == D.Ens.GEO.sub
    || k.ix == D.Sec.DEBUG_STATE.ix && k.sub == D.Sec.DEBUG_STATE.sub || k.ix == 0x0400 && k.sub == 8
    || reach != 0 && (k.ix == 0x0510 && (k.sub == 2 || k.sub == 3) || k.ix == 0x0500 && k.sub == 6)
    || reach == 2 && (k.ix == 0x0510 && k.sub == 9 || k.ix == 0x0600 && 4 ≤ k.sub && k.sub ≤ 6
        || k.ix == 0x0400 && k.sub == 5 || k.ix == 0x0410 && k.sub == 2 || k.ix == 0x0420 && k.sub == 1)

/-- What a reset of reach WARM or wider leaves. The flash, the records read from it at start-up, and what stands in the analogue
monitors stay. -/
def Dev.wiped (d : Dev) (reach : Nat) : Dev :=
  let warm := reach == 2
  let zero := reach == 0
  { dict := d.dict.filter (fun (x : Key × Nat) => keeps reach x.1)
    raw := if warm then d.raw else 0
    wall := d.wall
    out := d.out
    freeIdx := d.freeIdx
    raised := if warm then d.raised else []
    ended := if warm then d.ended else []
    rst := d.rst
    rcp := { inUse := d.rcp.inUse }
    flash := d.flash
    flt := if warm then d.flt else { errnAt := d.flt.errnAt, errnLow := d.flt.errnLow }
    store := { withdrawn := d.store.withdrawn, subs := d.store.subs }
    chan := (d.chan.map (fun (x : Nat × ChanSt) => (x.1, ({ defects := x.2.defects, passed := x.2.passed } : ChanSt)))).filter (fun x => x.2 != {})
    twin := { resetSince := true }
    knot := d.knot
    events := if zero then [] else d.events
    time := if warm then { traced := d.time.traced, change := d.time.change.map (fun c => { c with owes := none }) } else {}
    takeLog := d.takeLog
    dwl := if warm then { lastFrame := d.dwl.lastFrame } else {}
    sec := { d.sec with restarting := none, quote := none, steps := [], todo := [], candidates := [], waiting := [],
                        m := if zero then [0, 0, 0, 0, 0, 0, 0, 0, 0, 0] else d.sec.m }
    pwr := d.pwr
    rows := d.rows
    ring := { t0 := d.ring.t0, t1 := d.ring.t1, t2 := d.ring.t2 } }

/-- R504: every egress context is in safe state, with BLACK whatever SAFE_KIND is. -/
def Dev.allSafe (d : Dev) : Dev :=
  d.each d.egress (fun d c => (d.showSafe c true).setFlow c (fun x => { x with safe := setBits x.safe Safe.reset 1 1 }))

/-- R453: a POR ends an open debug state. -/
def Dev.debugPor (d : Dev) : Dev :=
  if d.rd D.Sec.DEBUG_STATE 0 = 2 then (d.wr D.Sec.DEBUG_STATE 0 0).setSec (fun x => { x with token := none }) else d

/-- SDI lanes that send: those of running outputs, and those a keeper sends for already (Table 18.4). -/
def Dev.sendingLanes (d : Dev) : List Nat :=
  d.rst.keep ++ ((d.egress.filter (fun c => d.kind c == 0x41 && d.running c)).map (fun c => d.lanes c)).flatten

/-! ## Assertion -/

/-- R498: does a reset have RST_N driven out? -/
def Dev.drivesOut (d : Dev) (r : Reset) : Bool :=
  r.reach == 0 || (r.reach ≤ 2 && r.src != 3 && bit (d.rd D.Rst.RSTN_OUT_MASK 0) r.reach)

/-- RST_N is driven low, until a time not known yet. -/
def Dev.rstnLow (d : Dev) : Dev :=
  (if d.rst.rstnDrive then d else d.emit (.pin Pin.RST_N 0)).setRst (fun x => { x with rstnDrive := true, rstnUntil := none })

/-- R496: RESET_CAUSE records a reset, unless a wider one is in force. -/
def Dev.recordCause (d : Dev) (r : Reset) : Dev :=
  if d.rst.asserted.any (fun x => decide (x.reach < r.reach)) then d
  else
    let d := ((d.wr D.ResetCause.REACH 0 r.reach).wr D.ResetCause.SOURCE 0 r.src).flag D.ResetCause.FOLLOWED 0 false
    (d.wr D.ResetCause.DETAIL 0 r.detail).wr D.ResetCause.TIME 0 (if r.src = 1 ∨ r.src = 2 then 0 else r.time)

/-- The island class and number of a block (Table 19.5); none for a dowel group, whose lanes are islands. -/
def islandOfTarget (kind inst : Nat) : Option (Nat × Nat) :=
  if kind = Target.LANE then some (3, inst) else if kind = Target.PORT then some (7, inst / 4)
  else if kind = Target.TILE then some (4, inst) else if kind = Target.ENGINE then some (5, inst / 16)
  else if kind = Target.HEAD then some (6, inst) else if kind = Target.CHAN then some (8, inst / 4)
  else if kind = Target.DPLL then some (10, inst) else none

/-- The island of a class with a number. -/
def islandFind (c : Nat × Nat) : Option Nat := (List.range 142).find? (fun i => Config.island i == c)

/-- R528: is the island of a block OFF? -/
def Dev.targetOff (d : Dev) (kind inst : Nat) : Bool :=
  match (islandOfTarget kind inst).bind islandFind with
  | some i => d.rd D.IslandStatus.STATE i == 4
  | none => false

/-- R501: an assertion stops a fuse and trim load. -/
def Dev.stopLoad (d : Dev) : Dev := d.setRst (fun x => { x with loading := false })

/-- GPIO pins that a standing remap drives high (R162). -/
def Dev.gpioHigh (d : Dev) : List Nat :=
  ((List.range 4).filter (fun s => d.on D.SpareStatus.IN_USE s && decide (d.rd D.SpareCfg.GPIO s < 16))).map (fun s => d.rd D.SpareCfg.GPIO s)

/-- Table 18.4: the lanes in `keep` send BLACK, every other lane is in electrical idle; the time outputs go to their inactive level, the serial
ports' outputs low; through a POR or COLD CHN_OUT is low and the GPIO pins are pulled down. -/
def Dev.pinsIdle (d : Dev) (cold : Bool) (keep gpio : List Nat) : Dev :=
  let saps := (List.range 8).filter (fun p => d.on D.SapCfg.ENABLE p)
  let low := [(Pin.PPS_OUT, 0), (Pin.TIMEPULSE, d.rd D.PulseCfg.POLARITY 0), (Pin.TIMEPULSE + 1, d.rd D.PulseCfg.POLARITY 1)]
    ++ (saps.map (fun p => [(Pin.SAP_BCLK + p, 0), (Pin.SAP_FS + p, 0), (Pin.SAP_DOUT + p, 0)])).flatten
    ++ (if cold then (Pin.CHN_OUT, 0) :: gpio.map (fun g => (Pin.GPIO + g, 0)) else [])
  low.foldl (fun (d : Dev) (x : Nat × Nat) => d.emit (.pin x.1 x.2)) (d.emit (.sdiKeepers keep))

/-- A dowel lane or group in reset carries nothing: a lane of the rotation, or the spare, fails as by lost lock (Table 08.3); a group that is UP
goes down (Table 07.10a). -/
def Dev.blockDowel (d : Dev) (kind inst : Nat) : Dev :=
  if kind = Target.LANE ∧ 164 ≤ inst then
    let e := inst - 164
    if d.laneState e = LaneState.IN_ROTATION then d.laneFail e
    else if d.laneState e = LaneState.SPARE_PRBS then d.spareFail e else d
  else if kind = Target.GROUP ∧ d.groupUp inst = true then (d.showRotation inst []).groupDown inst
  else d

/-- A reset asserts (R492, R495, R496): it is counted, absorbed or not; one of reach WARM or wider clears its domains. -/
def Dev.assertReset (d : Dev) (r : Reset) : Dev :=
  if r.reach = Reach.BLOCK ∧ d.targetOff r.dom r.inst = true then d
  else
    let keep := if r.reach = Reach.WARM then d.sendingLanes else []
    let gpio := d.gpioHigh
    let d := if d.upd = Upd.RECEIVING ∧ r.reach ≤ 2 then d.updateDrop else d
    let d := if r.reach ≤ 2 then d.wiped r.reach else d
    let d := (d.sat D.Rst.RESET_COUNTS r.reach 1).stopLoad
    let d := if r.reach ≤ 2 then (d.recordCause r).wr D.Rst.STARTUP_STAGE 0 0 else d
    let d := d.setRst (fun x => { x with asserted := x.asserted ++ [{ r with at_ := d.wall }],
                                         entering := if r.reach = 0 then [] else x.entering,
                                         keep := if r.reach ≤ 2 then keep else x.keep })
    let d := if r.reach ≤ 2 then ((d.setRst (fun x => { x with recovery := false })).pinsIdle (decide (r.reach ≤ 1)) keep gpio).allSafe else d
    let d := if r.reach = 0 then d.debugPor.errnFall else d
    let d := if r.reach = Reach.DOMAIN ∧ r.dom = 7 then { d with rcp := { d.rcp with opens := [] } } else d
    let d := if r.reach = Reach.DOMAIN then d.busDrop r.dom else d
    let d := if r.reach = Reach.DOMAIN ∧ r.dom = 7 then d.busIsolate 4 else d
    let d := if r.reach = Reach.BLOCK ∧ r.dom = Target.PLANE then (d.blockPlane r.inst).busIsolate (15 + r.inst) else d
    let d := if r.reach = Reach.BLOCK then d.blockDowel r.dom r.inst else d
    if d.drivesOut r then d.rstnLow else d

/-- A POR asserts at once, and a reset in its entry delay is abandoned (R492, R497). -/
def Dev.porNow (d : Dev) (src till : Nat) : Dev := d.assertReset ⟨Reach.POR, src, 0, 0, 0, d.now, d.wall, till⟩

/-! ## Sources (R494) -/

/-- The command leaves no frame-store bytes where it asserts a reset of reach WARM or wider (R256). -/
def State.actReset (s : State) (f : Dev → Dev) : Host.Outcome State Fault Refusal :=
  let d := f s.dev
  .next { s with dev := d, mem := if d.inReset then [] else s.mem }

/-- PORST_ASSERT (R494): PORST_N is low for `low` ns; the request comes after 250 ns. -/
def execPorstAssert (dt low : Nat) (s : State) : Host.Outcome State Fault Refusal :=
  s.actReset fun d =>
    if low < 250 then d.elapse (dt + low)
    else
      let d := d.elapse (dt + 250)
      d.porNow 0x01 (d.wall + (low - 250))

/-- SUPPLY_FAULT (R544): kind 0 a rail outside its window, 1 REF_LO without an edge, for `ns`; 2 the thermal trip, which its own state
holds (R560). -/
def execSupplyFault (dt kind ns : Nat) (s : State) : Host.Outcome State Fault Refusal :=
  s.actReset fun d =>
    let least := if kind = 0 then 1000 else 10000
    if kind = 2 then
      let d := d.elapse dt
      if d.pwr.trip = true ∧ d.rst.asserted.all (fun r => r.src != 2) = true then d.porNow 0x02 d.wall else d
    else if 2 < kind ∨ ns < least then d.elapse (dt + ns)
    else
      let d := d.elapse (dt + least)
      d.porNow 0x02 (d.wall + (ns - least))

/-- RST_N is low from outside for 250 ns (source 0x03); it stays low until a time. -/
def Dev.rstnRequest (d : Dev) (till : Nat) : Dev :=
  let n := d.rst.entering.length
  let d := d.request (if d.rd D.Rst.RST_N_REACH 0 = 1 then Reach.COLD else Reach.WARM) 0x03 0 0 0
  d.setRst (fun x => { x with entering := x.entering.take n ++ (x.entering.drop n).map (fun r => { r with till := till }) })

/-- RST_N_INPUT (R494, R498): RST_N is pulled low from outside for `low` ns; ignored while the device drives the pin. -/
def execRstNInput (dt low : Nat) (s : State) : Host.Outcome State Fault Refusal :=
  s.act fun d =>
    if low < 250 then d.elapse (dt + low)
    else
      let d := d.elapse (dt + 250)
      if d.rst.rstnDrive then d else d.rstnRequest (d.wall + (low - 250))

/-- R494, R518: a write of RESET_CMD. -/
def Dev.resetCmd (d : Dev) (v : Nat) : Dev × Nat :=
  let cmd := bitsOf v 24 8
  let dom := bitsOf v 16 8
  if cmd = 0 ∨ 3 < cmd ∨ v % 65536 ≠ 0 ∨ (if cmd = 3 then decide (7 < dom) else dom != 0) = true then (d, St.RANGE)
  else (d.request cmd 0x04 0 dom 0, St.OK)

/-- RESET_CMD_COLD (R494). -/
def execResetCmdCold (q : Rcp) (s : State) : Host.Outcome State Fault Refusal :=
  s.act (serveWrite (.resetCmdCold q.again) q 0x0510 1 ⟨4, 1 * 2 ^ 24⟩ fun _ d => d.resetCmd (1 * 2 ^ 24))

/-- RESET_CMD_WARM (R494). -/
def execResetCmdWarm (q : Rcp) (s : State) : Host.Outcome State Fault Refusal :=
  s.act (serveWrite (.resetCmdWarm q.again) q 0x0510 1 ⟨4, 2 * 2 ^ 24⟩ fun _ d => d.resetCmd (2 * 2 ^ 24))

/-- RESET_CMD_DOMAIN (R494). -/
def execResetCmdDomain (q : Rcp) (dom : Nat) (s : State) : Host.Outcome State Fault Refusal :=
  let v := 3 * 2 ^ 24 + dom % 256 * 2 ^ 16
  s.act (serveWrite (.resetCmdDomain q.again dom) q 0x0510 1 ⟨4, v⟩ fun _ d => d.resetCmd v)

/-- WATCHDOG_EXPIRY (R494): DOMAIN of the core or controller; WARM at its third expiry within 60 s. -/
def execWatchdogExpiry (dt dom : Nat) (s : State) : Host.Outcome State Fault Refusal :=
  s.act fun d =>
    let d := d.elapse dt
    if 7 < dom ∨ d.inReset = true ∨ d.rst.asserted.any (fun r => r.reach == 3 && r.dom == dom) = true then d
    else
      let seen := d.rst.watchdogs.filter (fun w => w.1 != dom || decide (d.wall < w.2 + 60000000000)) ++ [(dom, d.wall)]
      let d := (d.setRst (fun x => { x with watchdogs := seen })).raise Src.RST_WATCHDOG dom
      if 3 ≤ countIf (fun (w : Nat × Nat) => w.1 == dom) seen then d.request Reach.WARM 0x07 dom 0 0
      else d.request Reach.DOMAIN 0x07 dom dom 0

/-- RESET_ASSERT (R492): the entry delay of a request is over. A POR has none. -/
def execResetAssert (dt n : Nat) (s : State) : Host.Outcome State Fault Refusal :=
  s.actReset fun d =>
    let d := d.elapse dt
    match d.rst.entering[n]? with
    | none => d
    | some r =>
      let d := d.setRst (fun x => { x with entering := x.entering.take n ++ x.entering.drop (n + 1) })
      d.assertReset r

/-! ## Release (R495, R500) -/

/-- The minimum width of a reach (Table 18.1), counted for a POR from the end of its cause. -/
def minWidth (reach : Nat) : Nat :=
  if reach = 0 then 2000000 else if reach = 1 then 100000 else if reach = 2 then 20000 else if reach = 3 then 2000 else 200

/-- May a reset be released now? A supply POR holds until every rail has been good for 1 ms, and through a thermal trip (R544, R560). -/
def Dev.releasable (d : Dev) (r : Reset) : Bool :=
  if r.reach = 0 then
    if r.src = 2 then !d.pwr.trip && decide (r.till + 1000000 ≤ d.wall) else decide (r.till + minWidth 0 ≤ d.wall)
  else decide (r.till ≤ d.wall) && decide (r.at_ + minWidth r.reach ≤ d.wall)

/-- R495: a narrower reset that is still asserted begins again where nothing wider is left. -/
def Dev.resumeNarrower (d : Dev) (r : Reset) : Dev :=
  d.setRst (fun x => { x with asserted := x.asserted.map (fun y =>
    if r.reach < y.reach ∧ x.asserted.all (fun z => decide (y.reach ≤ z.reach)) = true then { y with at_ := d.wall } else y) })

/-- R501: a load starts from word 0. -/
def Dev.startLoad (d : Dev) : Dev := d.setRst (fun x => { x with loading := true, loadAt := d.wall })

/-- R501: at a release a load starts at the end of a POR or COLD, and one that a reset stopped starts again at that reset's end. -/
def Dev.loadAfter (d : Dev) (r : Reset) : Dev :=
  if d.inCold ∨ d.on D.TrimResult.VALID 0 = true ∨ d.rst.loading = true then d
  else if r.reach ≤ 1 ∨ d.rst.asserted.all (fun x => decide (x.at_ ≤ d.rst.loadAt)) = true then d.startLoad
  else d

/-- R453: an armed debug token opens debug at the end of a reset. -/
def Dev.debugOpen (d : Dev) : Dev :=
  if d.rd D.Sec.DEBUG_STATE 0 = 1 then
    ((d.wr D.Sec.DEBUG_STATE 0 2).setM 8 (d.sec.token.getD 0)).raise Src.SEC_DEBUG_OPEN 0
  else d

/-- A domain of SRAM macros that a WARM keeps: AON, FUSE, TIME, FLTK, KEEP (Table 18.2). -/
def warmKept : Nat := 9

/-- The number that stands, as an SRAM macro's domain, for the one instance its macro belongs to. -/
def blockDom (kind inst : Nat) : Nat := 65536 * kind + inst

/-- R522: macros of the domains reset take the spare rows their defective rows wait for; 4 in each macro, and a macro with none left keeps the
row. -/
def Dev.takeRows (d : Dev) (reach : Nat → Bool) : Dev :=
  let mine := d.rows.waiting.filter (fun w => reach w.2.2)
  let d := { d with rows := { d.rows with waiting := d.rows.waiting.filter (fun w => !reach w.2.2) } }
  mine.foldl (fun (d : Dev) (w : Nat × Nat × Nat) =>
    { d with rows := { d.rows with used := nput d.rows.used 0 w.1 (min 4 (nget d.rows.used 0 w.1 + 1)) } }) d

/-- RST_N is driven until RSTN_OUT_US after the last reset that has it driven out. -/
def Dev.rstnRelease (d : Dev) : Dev :=
  if d.rst.rstnDrive = true ∧ d.rst.rstnUntil = none ∧ d.rst.asserted.all (fun x => !d.drivesOut x) = true then
    d.setRst (fun x => { x with rstnUntil := some (d.wall + d.rd D.Rst.RSTN_OUT_US 0 * 1000) })
  else d

/-- R528: islands are ACTIVE at the end of a reset over them. -/
def Dev.islandsOn (d : Dev) (l : List Nat) : Dev := d.each l (fun d i => d.wr D.IslandStatus.STATE i 0)

/-- The end of the last reset of reach WARM or wider: start-up begins (R503). -/
def Dev.startUp (d : Dev) (reach src : Nat) : Dev :=
  let d := d.setRst (fun x => { x with endedAt := d.wall, lastSrc := src })
  let d := (d.add D.Ident.BOOT_COUNT 0 1).wr D.Rst.STARTUP_STAGE 0 (if d.on D.TrimResult.VALID 0 then 2 else 1)
  ((d.debugOpen.takeRows (fun x => reach != 2 || x != warmKept)).islandsOn (List.range 142)).errnRise

/-- The straps that are sampled at a release (R500). -/
structure Levels where
  head : Bool
  planeB : Bool
  testMode : Bool
  geo : Nat
  deriving DecidableEq, Repr

/-- R500: STRAPS and GEO show the levels at the end of a POR, COLD or WARM, TEST_MODE that at the end of a POR. -/
def Dev.sampleStraps (d : Dev) (r : Reset) (l : Levels) : Dev :=
  let d := ((d.flag D.Straps.HEAD 0 l.head).flag D.Straps.PLANE_B 0 l.planeB).wr D.Ens.GEO 0 (l.geo % 32)
  if r.reach = 0 then d.flag D.Straps.TEST_MODE 0 l.testMode else d

/-- R496: FOLLOWED is set where a WARM is still asserted at the release of the reset RESET_CAUSE names. -/
def Dev.followedBy (d : Dev) (r : Reset) : Dev :=
  if r.reach ≤ 1 ∧ d.rd D.ResetCause.REACH 0 = r.reach ∧ d.rst.asserted.any (fun x => x.reach == 2) = true then
    d.flag D.ResetCause.FOLLOWED 0 true
  else d

/-- A reset is released. -/
def Dev.release (d : Dev) (n : Nat) (r : Reset) (l : Levels) : Dev :=
  let d := d.setRst (fun x => { x with asserted := x.asserted.take n ++ x.asserted.drop (n + 1) })
  let d := (d.resumeNarrower r).followedBy r
  let d := if r.reach ≤ 2 then d.sampleStraps r l else d
  let d := d.loadAfter r
  let d := if r.reach = 0 ∧ d.rst.asserted.all (fun x => x.reach != 0) = true then d.setSec (fun x => { x with windowAt := some d.wall }) else d
  let d := d.rstnRelease
  let d := if r.reach = Reach.DOMAIN then (d.takeRows (fun x => x == r.dom)).islandsOn (islandFind (9, r.dom)).toList else d
  let d := if r.reach = Reach.DOMAIN ∧ r.dom = 7 then (d.clearKeys [⟨0x0200, 0x11, 0⟩]).setSec (fun x => { x with quote := none }) else d
  -- the key store's target leaves an isolation by timeout (R512)
  let d := if r.reach = Reach.DOMAIN ∧ r.dom = 7 then { d with bus := { d.bus with cut := d.bus.cut.filter (fun x => !(x.1 == 4 && x.2 == 3)) } } else d
  if r.reach ≤ 2 ∧ d.inReset = false then d.startUp r.reach r.src else d

/-- RESET_RELEASE (R495): a reset of reach DOMAIN or wider is released once its source lets go and its minimum width has passed. The
straps are sampled at the end of a POR, COLD or WARM (R500). -/
def execResetRelease (dt n : Nat) (head planeB testMode : Bool) (geo : Nat) (s : State) : Host.Outcome State Fault Refusal :=
  s.act fun d =>
    let d := d.elapse dt
    match d.rst.asserted[n]? with
    | none => d
    | some r => if r.reach = Reach.BLOCK ∨ d.releasable r = false then d else d.release n r ⟨head, planeB, testMode, geo⟩

/-! ## The end of a BLOCK reset (R493) -/

/-- The bus target behind which a block lies (Table 18.8). -/
def targetOf (kind inst : Nat) : Nat :=
  if kind = Target.LANE then (if inst < 128 then 12 else if inst < 164 then 13 else 14)
  else if kind = Target.PORT then 13 else if kind = Target.GROUP then 14
  else if kind = Target.PLANE then (if inst = 0 then 15 else 16)
  else if kind = Target.TILE then 20 else if kind = Target.CHAN then 18
  else if kind = Target.DPLL then 10 else 21

/-- The flow contexts bound to a block. -/
def Dev.flowsOf (d : Dev) (kind inst : Nat) : List Nat :=
  d.enabled.filter (fun c =>
    let k := d.kind c
    if kind = Target.LANE then (k == 1 || k == 0x41) && (d.lanes c).contains inst
    else if kind = Target.PORT then
      Kind.netTx k && (d.bindIx c == inst || (d.on D.NetTxCfg.LEG_B_ENABLE (c - 4096) && d.rd D.NetTxCfg.LEG_B_PORT (c - 4096) == inst))
        || Kind.netRx k && ((d.legA c).port == inst || (d.twoLegs c && (d.legB c).port == inst))
    else if kind = Target.TILE then (k == 9 || k == 0x49) && d.rd D.Tile.PHYS_TILE (d.bindIx c % 256) == inst
    else if kind = Target.ENGINE then k == 0x4A && d.bindIx c == inst
    else if kind = Target.HEAD then k == 0x0A && d.bindIx c == inst
    else false)

/-- The V entries a BLOCK reset returns to their defaults (R11): the counters and measurements of the instance's own elements or
record. What the instance shows of its state is set by its start; the record of a plane is the switch core's. -/
def Dev.blockEntries (d : Dev) (kind inst : Nat) : List Key :=
  if kind = Target.LANE then
    [⟨0x0810, 3, inst⟩, ⟨0x0810, 4, inst⟩]
      ++ (if inst < 128 then [⟨0x0910, 2, inst⟩, ⟨0x0910, 3, inst⟩, ⟨0x0910, 6, inst⟩]
          else if inst < 164 then [] else [⟨0x0B10, 5, inst - 164⟩])
  else if kind = Target.PORT then [⟨0x0A10, 3, inst⟩]
  else if kind = Target.GROUP then [⟨0x0B10, 3, inst⟩]
  else if kind = Target.TILE then
    ((pick 64 (fun t => d.rd D.Tile.PHYS_TILE t == inst)).map (fun t =>
      [0x0B, 0x0C, 0x0D, 0x0E, 0x0F, 0x10].map (fun s => (⟨0x6200 + t, s, 0⟩ : Key)))).flatten
  else if kind = Target.ENGINE then [0x0B, 0x0C, 0x0D, 0x0E, 0x0F].map (fun s => (⟨0x6000 + inst, s, 0⟩ : Key))
  else if kind = Target.HEAD then [⟨0x6100 + inst, 5, 0⟩]
  else if kind = Target.CHAN then [⟨0x0E10, 2, inst⟩]
  else if kind = Target.DPLL then [⟨0x0720, 3, inst⟩]
  else []

/-- The block starts as at start-up. -/
def Dev.blockStart (d : Dev) (kind inst : Nat) : Dev :=
  if kind = Target.LANE then
    if inst < 128 then
      let d := (((d.sdiErrors inst).flag D.SdiRxStatus.LOCKED inst false).flag D.LaneStatus.CDR_LOCKED inst false).scanAbort inst
      { d with sdiRx := nput d.sdiRx {} inst {} }
    else if inst < 164 then match d.portOfLane (inst - 128) with | some p => d.portDown p | none => d
    else d.laneStart (inst - 164)
  else if kind = Target.PORT then d.portDown inst
  else if kind = Target.GROUP then d.groupTrain inst
  else if kind = Target.TILE then { d with tile := d.tile.filter (fun x => d.rd D.Tile.PHYS_TILE x.1 != inst || x.2.forOutput.isSome) }
  else if kind = Target.ENGINE then { d with layer := d.layer.filter (fun x => x.1 != inst) }
  else if kind = Target.HEAD then { d with head := d.head.filter (fun x => x.1 != inst) }
  else if kind = Target.CHAN then (if d.chanState inst = ChanState.RETIRED then d else d.startTraining inst false)
  else if kind = Target.DPLL then
    ((d.clearKeys [⟨0x0720, 2, inst⟩]).setDpll inst (fun _ => {})).refCommit
  else d

/-- R493: a block reloads its committed configuration, starts again, and the flows bound to it begin new runs; an isolation by timeout ends
(R512). -/
def Dev.blockEnd (d : Dev) (kind inst : Nat) : Dev :=
  let d := (((d.blockStart kind inst).clearKeys (d.blockEntries kind inst)).takeRows (fun x => x == blockDom kind inst)).islandsOn ((islandOfTarget kind inst).bind islandFind).toList
  let d := d.each ((d.flowsOf kind inst).filter (fun c => d.running c)) (fun d c => d.flowStop c true)
  { d with bus := { d.bus with cut := d.bus.cut.filter (fun x => !(x.1 == targetOf kind inst && x.2 == 3)) } }

/-- BLOCK_RESET_END (R493). -/
def execBlockResetEnd (dt target inst : Nat) (s : State) : Host.Outcome State Fault Refusal :=
  s.act fun d =>
    let d := d.elapse dt
    match d.rst.asserted.findIdx? (fun r => r.reach == 4 && r.dom == target && r.inst == inst) with
    | none => d
    | some n =>
      match d.rst.asserted[n]? with
      | none => d
      | some r =>
        if d.inReset ∨ d.releasable r = false then d
        else
          let d := d.setRst (fun x => { x with asserted := x.asserted.take n ++ x.asserted.drop (n + 1) })
          let d := d.loadAfter r
          if 5 ≤ d.stage then d.blockEnd target inst else d

/-- RSTN_OUT_END (R498): the drive of RST_N ends; 2 µs later the pin is sampled, and stays low from outside for `low` ns. -/
def execRstnOutEnd (dt low : Nat) (s : State) : Host.Outcome State Fault Refusal :=
  s.act fun d =>
    let d := d.elapse dt
    match d.rst.rstnUntil with
    | none => d
    | some t =>
      if d.rst.rstnDrive = false ∨ d.wall < t then d
      else
        let d := (d.setRst (fun x => { x with rstnDrive := false, rstnUntil := none })).emit (.pin Pin.RST_N 1)
        if low < 250 then d
        else
          let out := d.out
          let d := { d.elapse 2250 with out := out }
          d.rstnRequest (d.wall + (low - 250))

end Sys2Proof.Machine
end

