-- ==== Sys2Proof/Machine/RingCore.lean ====
section
/-! DEFINITION. The ring log: its tiers, records, chains and intervals (R531 to R536). -/

namespace Sys2Proof.Machine

open Sys2Proof

/-! ## Tiers (Table 19.6) -/

/-- Records a tier holds, bytes in a record, records in a 4 KiB sector. -/
def tierSlots (t : Nat) : Nat := if t = 0 then 16384 else if t = 1 then 8192 else 262144
def tierBytes (t : Nat) : Nat := if t = 2 then 64 else 2048
def tierPerSector (t : Nat) : Nat := if t = 2 then 64 else 2

/-- A tier of the ring. -/
def Dev.tier (d : Dev) (t : Nat) : Tier := if t = 0 then d.ring.t0 else if t = 1 then d.ring.t1 else d.ring.t2

/-- Change a tier. -/
def Dev.setTier (d : Dev) (t : Nat) (x : Tier) : Dev :=
  if t = 0 then { d with ring := { d.ring with t0 := x } }
  else if t = 1 then { d with ring := { d.ring with t1 := x } } else { d with ring := { d.ring with t2 := x } }

/-- Change the ring log's state. -/
def Dev.setRing (d : Dev) (f : RingSt → RingSt) : Dev := { d with ring := f d.ring }

/-- SEQ of a record. -/
def recSeq (t v : Nat) : Nat := if t = 2 then bytesAt 64 v 4 4 else bytesAt 2048 v 8 8

/-- PREV_HASH of a record. -/
def recPrev (t v : Nat) : Nat := if t = 2 then bytesAt 64 v 32 16 else bytesAt 2048 v 32 32

/-- The SHAKE256 output over a record, 32 bytes. -/
def recDigest (t v : Nat) : Nat := digest (tierBytes t) v

/-- The hash a tier chains with: 32 bytes, of which an event record keeps the first 16 (R534, R536). -/
def chainHash (t v : Nat) : Nat := if t = 2 then v / 2 ^ 128 else v

/-- What the first record of a tier carries as PREV_HASH. -/
def firstHash (t : Nat) : Nat := chainHash t (digest 33 (Config.identityDigest % 2 ^ 256 * 256 + t))

/-- A record's CRC is right. -/
def recCrcOk (t v : Nat) : Bool :=
  let n := tierBytes t
  crc32c (bytesOf (n - 4) (v / 2 ^ 32)) == v % 2 ^ 32

/-- Put a record's SEQ order: the records a tier holds, oldest first. -/
def insertSeq (t : Nat) (v : Nat) : List Nat → List Nat
  | [] => [v]
  | x :: l => if recSeq t v < recSeq t x then v :: x :: l else x :: insertSeq t v l

/-- The records a tier holds, oldest first. -/
def Dev.records (d : Dev) (t : Nat) : List Nat := (d.tier t).recs.foldl (fun l r => insertSeq t r.2 l) []

/-- Check CRC and chain of records in order: the number checked and the first bad SEQ. The oldest record's chain is checked only where
it is the first of its tier, whose predecessor is known. -/
def chainCheck (t : Nat) : Option Nat → List Nat → Nat → Option Nat → Nat × Option Nat
  | _, [], n, bad => (n, bad)
  | prev, v :: l, n, bad =>
    let ok := recCrcOk t v && (match prev with
      | some h => recPrev t v == h
      | none => recSeq t v != 0 || recPrev t v == firstHash t)
    let next := if recCrcOk t v then some (chainHash t (recDigest t v)) else prev
    chainCheck t next l (n + 1) (if ok then bad else some (bad.getD (recSeq t v)))

/-- R533: the sector of the next slot is erased where that slot is its first. -/
def Tier.ready (x : Tier) (t : Nat) : Tier :=
  if x.next % tierPerSector t = 0 then
    { x with recs := x.recs.filter (fun r => decide (r.1 < x.next) || decide (x.next + tierPerSector t ≤ r.1)) }
  else x

/-- R533, R534: a record goes into the next slot of its tier; `build` makes it from its SEQ, PREV_HASH and GAP. Where the write fails its
read-back the slot is left and RPR_LOG_WRITE is raised. -/
def Dev.writeRecord (d : Dev) (t : Nat) (ok : Bool) (build : Nat → Nat → Bool → Nat) : Dev :=
  let x := (d.tier t).ready t
  let prev := match x.last with | some v => chainHash t (recDigest t v) | none => firstHash t
  let v := build x.seq prev x.gap
  let next := (x.next + 1) % tierSlots t
  if ok then
    d.setTier t { x with recs := nput x.recs 0 x.next v, next := next, seq := x.seq + 1, last := some v, gap := false }
  else (d.setTier t { x with next := next, seq := x.seq + 1, gap := true }).raise Src.RPR_LOG_WRITE 0

/-- A record with its CRC. -/
def sealed (n v : Nat) : Nat := v * 2 ^ 32 + crc32c (bytesOf (n - 4) v)

/-! ## Event records (R536, Table 19.10) -/

/-- The event record of an event. -/
def eventBytes (traceable : Bool) (e : EventRec) (seq prev : Nat) : Nat :=
  sealed 64 (pack [(16, 0x4556), (8, e.kind), (8, ofBool traceable * 128), (32, seq), (64, e.time), (128, e.data), (128, prev), (96, 0)])

/-- Write an event record. -/
def Dev.writeEvent (d : Dev) (ok : Bool) (e : EventRec) : Dev :=
  let tr := d.traceable
  d.writeRecord 2 ok (fun seq prev _ => eventBytes tr e seq prev)

/-! ## What an interval counts (Table 19.8) -/

/-- What a counter field has counted since the interval began, whatever was read and cleared meanwhile. -/
def Dev.since (d : Dev) (f : Fld) (n : Nat) : Nat :=
  let k := f.key n
  let cleared := sumOf (fun (c : Key × Nat) => if c.1 = k then bitsOf c.2 f.lo f.w else 0) d.ring.cleared
  (cleared + d.rd f n + 2 ^ f.w - bitsOf (d.ring.base.get k) f.lo f.w) % 2 ^ f.w

/-- The same over m numbers of a record. -/
def Dev.sinceAll (d : Dev) (f : Fld) (m : Nat) : Nat := sumOf (fun n => d.since f n) (List.range m)

/-- Counters 0 to 28 of Table 19.8. -/
def Dev.intervalCounters (d : Dev) : List Nat :=
  [ (d.wall - d.ring.upAt) / 1000000000, d.ring.cellsX, d.ring.cellsY, d.since D.Plane.COMPARED 0,
    d.since D.Plane.MISMATCHES 0, d.since D.Plane.MISMATCHES 1, d.sinceAll D.Plane.USED 2,
    sumOf (fun c => d.since D.Flow.MISSING (4096 + c)) (List.range 4096), sumOf (fun c => d.since D.Flow.LATE (4096 + c)) (List.range 4096),
    d.sinceAll D.GroupCounters.REPLAYS 8, d.sinceAll D.GroupCounters.REPLAYS_FAILED 8, d.sinceAll D.DwlLaneCounters.CODE_VIOLATIONS 72,
    d.sinceAll D.PortCounters.FEC_CORRECTED 32, d.sinceAll D.PortCounters.FEC_UNCORRECTED 32, d.sinceAll D.PortCounters.LINK_DOWNS 32,
    d.sinceAll D.SdiRxCounters.CRC_Y 128 + d.sinceAll D.SdiRxCounters.CRC_C 128, d.sinceAll D.SdiRxCounters.LOCK_LOSSES 128,
    d.sinceAll D.ChanCounters.ECC_CORRECTED 32, d.sinceAll D.ChanCounters.ECC_UNCORRECTED 32,
    d.sinceAll D.FsPortCounters.DEADLINE_MISSES 12, d.sinceAll D.ChanCounters.SR_ENTRIES 32,
    d.since D.XpCount.TAKES_APPLIED 0, d.since D.XpCount.SALVOS_APPLIED 0,
    d.sinceAll D.SdiTxCounters.SAFE_ENTRIES 128 + d.sinceAll D.NetTxCounters.SAFE_ENTRIES 4096,
    d.sinceAll D.DpllCounters.SWITCHES 8, d.since D.Time.STEPS 0, d.pwr.energy / 1000000000, d.ring.sram, d.ring.knots ]

/-- Values side by side, each cut to its largest value at w bits. -/
def packSat (w : Nat) (l : List Nat) : Nat := l.foldl (fun a v => a * 2 ^ w + min v (2 ^ w - 1)) 0

/-- The parts of a record that are summed into a daily record: counters (64), fault counts (512), bins (192). -/
structure Sums where
  counters : List Nat
  faults : List Nat
  bins : List Nat
  deriving DecidableEq, Repr

/-- What the interval in progress has counted. -/
def Dev.sums (d : Dev) : Sums :=
  let c := d.intervalCounters
  ⟨(List.range 64).map (fun i => c.getD i 0), (List.range 512).map (fun s => d.since D.SourceStatus.COUNT s),
   (List.range 192).map (fun b => nget d.ring.hist 0 b)⟩

/-- The sums a record holds. -/
def recSums (v : Nat) : Sums :=
  ⟨(List.range 64).map (fun i => bytesAt 2048 v (64 + 8 * i) 8), (List.range 512).map (fun s => bytesAt 2048 v (576 + 2 * s) 2),
   (List.range 192).map (fun b => bytesAt 2048 v (1600 + 2 * b) 2)⟩

/-- Add two records' sums. -/
def Sums.add (a b : Sums) : Sums :=
  ⟨List.zipWith (· + ·) a.counters b.counters, List.zipWith (· + ·) a.faults b.faults, List.zipWith (· + ·) a.bins b.bins⟩

/-- An interval or daily record (Table 19.7). -/
def intervalBytes (kind flags seq start stop prev : Nat) (x : Sums) (first last lastHash : Nat) : Nat :=
  let head := pack [(32, 0x52494E47), (16, 1), (8, kind), (8, flags), (64, seq), (64, start), (64, stop), (256, prev)]
  let body := ((head * 2 ^ 4096 + packSat 64 x.counters) * 2 ^ 8192 + packSat 16 x.faults) * 2 ^ 3072 + packSat 16 x.bins
  sealed 2048 (body * 2 ^ 480 + pack [(64, first), (64, last), (256, lastHash), (96, 0)])

/-- The next interval begins at a device time, and the next tier 0 slot is erased (R533), while PWR_WARN_N is high (R530). -/
def Dev.intervalStart (d : Dev) (start flags : Nat) : Dev :=
  let d := d.setRing (fun r => { r with start := start, flags := flags, base := d.dict, cleared := [], cellsX := 0, cellsY := 0, sram := 0,
                                        knots := 0, upAt := d.wall, hist := [], stepped := none,
                                        t0 := if d.pwr.warnLow then r.t0 else r.t0.ready 0 })
  { d with pwr := { d.pwr with energy := 0 } }

/-- The tier 0 record of the interval in progress is written; KIND 1 INTERVAL, 2 PARTIAL (R531). -/
def Dev.intervalEnd (d : Dev) (ok : Bool) (kind flags stop : Nat) : Dev :=
  let d := d.linkErrors
  let x := d.sums
  let start := d.ring.start
  let fl := (d.ring.flags ||| flags) + ofBool d.traceable * 128
  d.writeRecord 0 ok (fun seq prev gap => intervalBytes kind (fl + ofBool gap * 8) seq start stop prev x 0 0 0)

/-- A day of device time, ns. -/
def dayNs : Nat := 86400000000000

/-- R535: the DAILY record of the day from `m`, where tier 0 holds a record whose START lies in it. -/
def Dev.dailyWrite (d : Dev) (ok : Bool) (m : Nat) : Dev :=
  let start := fun v => bytesAt 2048 v 16 8
  let l := (d.records 0).filter (fun v => decide (m ≤ start v) && decide (start v < m + dayNs))
  match l with
  | [] => d
  | v :: t =>
    let last := t.getLastD v
    let x := t.foldl (fun a r => a.add (recSums r)) (recSums v)
    let flags := l.foldl (fun a r => a ||| bytesAt 2048 r 7 1) 0
    d.writeRecord 1 ok (fun seq prev gap => intervalBytes 3 (if gap then flags ||| 8 else flags) seq (start v) (bytesAt 2048 last 24 8) prev x
      (recSeq 0 v) (recSeq 0 last) (recDigest 0 last))

/-- R535: at the end of an interval, the day that has ended gets its DAILY record. -/
def Dev.daily (d : Dev) (ok : Bool) (stop : Nat) : Dev :=
  let m := (stop - 1) / dayNs * dayNs
  if m ≤ d.ring.day then (if m < d.ring.day then d.setRing (fun r => { r with day := m }) else d)
  else (d.dailyWrite ok d.ring.day).setRing (fun r => { r with day := m })

/-- R534: at start-up the chain of the 16 newest records of each tier is checked. -/
def Dev.chainStart (d : Dev) : Dev :=
  d.each [0, 1, 2] (fun d t =>
    let l := d.records t
    -- the record before the sixteen gives the first one's PREV_HASH
    let before := ((l.take (l.length - 16)).getLast?.filter (fun v => recCrcOk t v)).map (fun v => chainHash t (recDigest t v))
    match (chainCheck t before (l.drop (l.length - 16)) 0 none).2 with
    | none => d
    | some _ => (d.setTier t { d.tier t with broken := true }).raise Src.RPR_CHAIN_BROKEN 0)

/-! ## Histograms (Table 19.9) -/

/-- The bin of a count: 0, then powers of two. -/
def log2Bin : Nat → Nat → Nat
  | 0, _ => 31
  | f + 1, v => if v = 0 then 31 - f - 1 else log2Bin f (v / 2)

/-- Add one sample to a bin. -/
def Dev.histAdd (d : Dev) (h b : Nat) : Dev :=
  d.setRing (fun r => { r with hist := nput r.hist 0 (32 * h + min b 31) (min 65535 (nget r.hist 0 (32 * h + min b 31) + 1)) })

end Sys2Proof.Machine
end

