-- ==== Sys2Proof/Machine/Electrical.lean ====
section
/-! DEFINITION. The sensors and regulators (R547 to R549, R559, R560): THERMAL_SAMPLE to PMBUS_POLL. -/

namespace Sys2Proof.Machine

open Sys2Proof

/-- Change the supplies' state. -/
def Dev.setPwr (d : Dev) (f : PwrSt → PwrSt) : Dev := { d with pwr := f d.pwr }

/-! ## Junction temperature (R559, R560, Table 20.10) -/

/-- The ordering code's grade letter, byte 12 of TX8640-FB75-I or TX8640-FB75-C. -/
def gradeLetter : Nat := byteAt 16 Config.orderingCode 12

/-- PWR_TEMP_WARN, high: raised at 100 °C, ACTIVE until 95 °C or less. -/
def Dev.tempHigh (d : Dev) (t : Int) : Dev :=
  if d.pwr.warnHot = false ∧ 100 ≤ t then (d.setPwr (fun p => { p with warnHot := true })).raiseL Src.PWR_TEMP_WARN 0
  else if d.pwr.warnHot = true ∧ t ≤ 95 then
    let d := d.setPwr (fun p => { p with warnHot := false })
    if d.pwr.warnCold then d else d.endCond Src.PWR_TEMP_WARN 0
  else d

/-- PWR_TEMP_WARN, low: below −45 °C (grade I) or −5 °C (grade C), until 5 °C more. -/
def Dev.tempLow (d : Dev) (t : Int) : Dev :=
  if gradeLetter ≠ 0x49 ∧ gradeLetter ≠ 0x43 then d
  else
    let limit : Int := if gradeLetter = 0x49 then -45 else -5
    if d.pwr.warnCold = false ∧ t < limit then (d.setPwr (fun p => { p with warnCold := true })).raiseL Src.PWR_TEMP_WARN 0
    else if d.pwr.warnCold = true ∧ limit + 5 ≤ t then
      let d := d.setPwr (fun p => { p with warnCold := false })
      if d.pwr.warnHot then d else d.endCond Src.PWR_TEMP_WARN 0
    else d

/-- PWR_TEMP_CRIT, raised at 110 °C; it can be raised again after 105 °C or less. -/
def Dev.tempCrit (d : Dev) (t : Int) : Dev :=
  if d.pwr.crit = false ∧ 110 ≤ t then (d.setPwr (fun p => { p with crit := true })).raise Src.PWR_TEMP_CRIT 0
  else if d.pwr.crit = true ∧ t ≤ 105 then d.setPwr (fun p => { p with crit := false })
  else d

/-- R560: the trip at 120 °C requests a POR of source 0x02 and takes every island to OFF but the class of AON; it clears at 100 °C or less, at least 1 s
later. -/
def Dev.tempTrip (d : Dev) (t : Int) : Dev :=
  if d.pwr.trip = false ∧ 120 ≤ t then
    let d := (d.setPwr (fun p => { p with trip := true, tripAt := d.wall })).porNow 0x02 d.wall
    d.each ((List.range 142).filter (fun i => (Config.island i).1 != 1)) (fun d i => d.wr D.IslandStatus.STATE i 4)
  else if d.pwr.trip = true ∧ t ≤ 100 ∧ d.past d.pwr.tripAt 1000000000 = true then
    let d := d.setPwr (fun p => { p with trip := false })
    { d with rst := { d.rst with asserted := d.rst.asserted.map (fun r => if r.reach = 0 ∧ r.src = 2 then { r with till := d.wall } else r) } }
  else d

/-! ## Histograms (Table 19.9) -/

/-- Device power of the last PMBus poll, in W. -/
def Dev.watts (d : Dev) : Nat := sumOf (fun (r : Nat × Nat × Nat) => r.2.1 * r.2.2) d.pwr.readings / 1000000

/-- The largest of a list. -/
def greatest (l : List Nat) : Nat := l.foldl max 0

/-- The six histograms take a sample. -/
def Dev.histSample (d : Dev) : Dev :=
  let bin := fun (v : Int) => if v < 0 then 0 else min 31 v.toNat
  let d := d.histAdd 0 (bin (Int.fdiv (d.pwr.temp + 40) 5))
  let d := d.histAdd 1 (bin (Int.fdiv ((d.pwr.avsWritten : Int) - 640) 5))
  let d := d.histAdd 2 (min 31 (d.watts / 10))
  let d := d.histAdd 3 (min 31 (d.storeUse * 32 / max 1 d.storeCapacity))
  let d := d.histAdd 4 (log2Bin 31 (greatest ((List.range 72).map (fun i => d.rd D.LaneStatus.ERRORS_PER_S (164 + i)))))
  d.histAdd 5 (log2Bin 31 (greatest ((List.range 36).map (fun i => d.rd D.LaneStatus.ERRORS_PER_S (128 + i)))))

/-- R531: the histograms take one sample every 10 s of an interval. -/
def Dev.histTick (d : Dev) : Dev :=
  if d.inReset ∨ d.stage < 5 ∨ !d.past d.ring.histAt 10000000000 then d
  else (d.histSample).setRing (fun r => { r with histAt := d.wall })

/-- THERMAL_SAMPLE (R559, R560): the hottest of the 16 sensors reads `temp` °C. -/
def execThermalSample (dt : Nat) (temp : Int) (s : State) : Host.Outcome State Fault Refusal :=
  s.actReset fun d =>
    let d := (d.elapse dt).setPwr (fun p => { p with temp := temp })
    let d := ((d.tempHigh temp).tempLow temp).tempCrit temp
    d.histTick.tempTrip temp

/-! ## AVSBus (R547, R548) -/

/-- The target: the speed grade's at the present temperature, in 5 mV steps within 650 to 800 mV. -/
def Dev.avsWants (d : Dev) : Nat := max 650 (min 800 (5 * ceilDiv (Config.avsTarget d.pwr.temp) 5))

/-- R548: a target is written; each element of `acks` says whether one attempt succeeded, of at most three. -/
def Dev.avsWrite (d : Dev) (mv : Nat) (acks : List Bool) : Dev :=
  let tries := acks.take 3
  let good := tries.any (fun a => a)
  let n := if good then (tries.takeWhile (fun a => !a)).length + 1 else 3
  let d := d.each (List.range n) (fun d _ => d.emit (.railWrite 2 0 mv))
  if good then d.setPwr (fun p => { p with avsWritten := mv, avsHigh := none })
  else (d.setPwr (fun p => { p with avsHigh := some (max mv (p.avsHigh.getD 0)), avsAt := d.wall })).raise Src.PWR_AVS_FAIL 0

/-- AVS_UPDATE (R547): a new target is computed. A raise is written at once, a lower one step at a time every 10 ms; after a failure
no lower target is written (R548). -/
def execAvsUpdate (dt : Nat) (acks : List Bool) (s : State) : Host.Outcome State Fault Refusal :=
  s.act fun d =>
    let d := d.elapse dt
    if d.inReset ∨ d.stage < 3 ∨ d.pwrWarn = true then d
    else
      let t := d.avsWants
      let d := d.setPwr (fun p => { p with avsTarget := t })
      match d.pwr.avsHigh with
      | some h => d.setPwr (fun p => { p with avsHigh := some (max h t) })
      | none =>
        if d.pwr.avsWritten < t then d.avsWrite t acks
        else if t < d.pwr.avsWritten ∧ d.past d.pwr.lowerAt 10000000 = true then
          (d.setPwr (fun p => { p with lowerAt := d.wall })).avsWrite (d.pwr.avsWritten - 5) acks
        else d

/-- AVS_RETRY (R548): every 100 ms after the third failure, with the highest target computed since. -/
def execAvsRetry (dt : Nat) (ack : Bool) (s : State) : Host.Outcome State Fault Refusal :=
  s.act fun d =>
    let d := d.elapse dt
    match d.pwr.avsHigh with
    | none => d
    | some h =>
      if d.inReset ∨ d.pwrWarn = true ∨ !d.past d.pwr.avsAt 100000000 then d
      else
        let d := d.emit (.railWrite 2 0 h)
        if ack then d.setPwr (fun p => { p with avsWritten := h, avsHigh := none }) else d.setPwr (fun p => { p with avsAt := d.wall })

/-! ## PMBus (R549) -/

/-- PMBUS_POLL (R549): every 100 ms; element n of `readings` is READ_VOUT (mV) and READ_IOUT (mA) of rail n, none where it does not answer;
`alert` says that PMB_ALERT_N is low. Where it was low, the regulators' status is read and CLEAR_FAULTS sent. -/
def execPmbusPoll (dt : Nat) (readings : List (Option (Nat × Nat))) (alert : Bool) (s : State) : Host.Outcome State Fault Refusal :=
  s.act fun d =>
    let d := d.elapse dt
    if d.inReset ∨ d.stage < 3 ∨ !d.past d.pwr.polledAt 100000000 then d
    else
      let l := ((List.range 9).zip readings).filterMap (fun (x : Nat × Option (Nat × Nat)) => x.2.map (fun r => (x.1, r)))
      let nj := sumOf (fun (r : Nat × Nat × Nat) => 100 * r.2.1 * r.2.2) l
      let d := if d.pwr.alertLow then d.each (List.range 9) (fun d n => d.emit (.railWrite (0x40 + n) 0x03 0)) else d
      d.setPwr (fun p => { p with readings := l, polledAt := d.wall, alertLow := alert, energy := p.energy + nj })

end Sys2Proof.Machine
end

