-- ==== Sys2Proof/Machine/Open.lean ====
section
/-! DEFINITION. Opening a session: the OPEN exchange, its keys and the role it gives (R446 to R449), OPEN_HELLO to
OPEN_EXCHANGE_TIMEOUT. -/

namespace Sys2Proof.Machine

open Sys2Proof

/-! ## Exchanges -/

/-- The messages (Table 16.5). -/
def Msg.HELLO : Nat := 1
def Msg.CHALLENGE : Nat := 2
def Msg.RESPONSE : Nat := 3
def Msg.ACCEPT : Nat := 4

/-- Bytes of HELLO, CHALLENGE and CHALLENGE without DEVICE_SIG. -/
def helloBytes : Nat := 1988
def challengeBytes : Nat := 6481
def challengeHead : Nat := 3172

/-- The payload of an OPEN frame (Table 15.3). -/
def openPayload (id msg offset total : Nat) (v : Bytes) : Bytes :=
  ⟨16 + v.len, pack [(32, id), (8, msg), (24, 0), (32, offset), (32, total), (8 * v.len, v.val)]⟩

/-- An exchange is known by its OPEN_ID and its client's address. -/
def OpenEx.is (x : OpenEx) (q : Rcp) (id : Nat) : Bool := x.id == id && x.peer == q.peer && x.port == q.port

/-- The exchange a frame belongs to. -/
def Dev.openEx (d : Dev) (q : Rcp) (id : Nat) : Option OpenEx := d.rcp.opens.find? (fun x => x.is q id)

/-- Change an exchange; it has been heard. -/
def Dev.setOpen (d : Dev) (q : Rcp) (id : Nat) (f : OpenEx → OpenEx) : Dev :=
  { d with rcp := { d.rcp with opens := d.rcp.opens.map (fun x => if x.is q id then { f x with seenAt := d.wall } else x) } }

/-- Discard an exchange. -/
def Dev.dropOpen (d : Dev) (q : Rcp) (id : Nat) : Dev :=
  { d with rcp := { d.rcp with opens := d.rcp.opens.filter (fun x => !x.is q id) } }

/-- Answer an OPEN frame. -/
def Dev.openSay (d : Dev) (q : Rcp) (status : Nat) (v : Bytes) : Dev :=
  d.sendOn q.via (.response q.via q.peer q.port 0 q.seq q.op status v none)

/-- A refused OPEN frame. -/
def Dev.openFail (d : Dev) (q : Rcp) (status : Nat) : Dev := d.openSay q status ⟨0, 0⟩

/-- Does the device answer OPEN (R441, R471, R502, R505)? -/
def Dev.opensOk (d : Dev) : Bool := d.owner.isSome && !d.safeBoot && (d.rst.recovery || decide (5 ≤ d.stage))

/-- Receive an OPEN frame: SESSION 0 only (R446); while the MGT image restarts it waits (R462). -/
def Dev.openServe (d0 : Dev) (me : Instr) (q : Rcp) (body : Dev → Dev) : Dev :=
  let d := d0.elapse q.dt
  if !d.listens q.via then d
  else if d.passedBy q then d.mgRx q.via
  else
    let d := d.mgRx q.via
    if !headerOk q then d.dropFrame
    else if q.session ≠ 0 then
      match d.session? q.session with
      | none => d.dropFrame
      | some x =>
        if !d.sealOk q then d.dropFrame.sat D.Rcp.AUTH_FAILURES 0 1
        else (d.heard q).sequenced me q true none x (fun _ d => (d, Reply.of St.STATE))
    else if !d.sealOk q then d.dropFrame
    else if !d.opensOk then d
    else if d.restarts 1 then d.postpone me
    else body (d.mgAccept q.via)

/-- The segment bytes put behind those received. -/
def joined (have_ v : Nat) (len : Nat) : Nat := have_ * 256 ^ len + v % 256 ^ len

/-! ## HELLO and CHALLENGE -/

/-- A session identity: random, not zero, different from every open one and from those offered. -/
def Dev.newSessionId (d : Dev) (seed : Nat) : Nat :=
  let used := d.rcp.sessions.map (fun x => x.id) ++ d.rcp.opens.map (fun x => x.challenge / 256 ^ 6477)
  (((List.range 32).map (fun i => (seed + i) % (2 ^ 32 - 1) + 1)).find? (fun n => !used.contains n)).getD 1

/-- H of R447: the 64-byte SHAKE256 output over HELLO and CHALLENGE without DEVICE_SIG. -/
def openHash (hello head : Nat) : Nat :=
  Config.shake256Long 64 ⟨helloBytes + challengeHead, hello * 256 ^ challengeHead + head⟩ % 2 ^ 512

/-- CHALLENGE without DEVICE_SIG: SESSION, DEVICE_NONCE, EK, IDENTITY_PUB. -/
def challengeOf (sid nonce draw : Nat) : Nat := pack [(32, sid), (256, nonce), (9472, Config.kemKey draw), (15616, Config.identityPublic)]

/-- The last HELLO segment has come: CHALLENGE is made from three draws, and its segment 0 is the answer. -/
def Dev.challenge (d : Dev) (q : Rcp) (id hello : Nat) : Dev :=
  let draw := (d.drawnN 2).freeVal
  let head := challengeOf (d.newSessionId d.freeVal) d.drawn.freeVal draw
  let sig := Config.identitySign ⟨64, openHash hello head⟩
  let c := pack [(8 * challengeHead, head), (26472, sig)]
  let d := (d.drawnN 3).setOpen q id (fun x => { x with stage := 1, hello := hello, helloLen := helloBytes, challenge := c, draw := draw })
  d.openSay q St.OK (openPayload id Msg.CHALLENGE 0 challengeBytes ⟨1024, bytesAt challengeBytes c 0 1024⟩)

/-- OPEN_HELLO (R446): a HELLO segment. -/
def execOpenHello (q : Rcp) (id offset total : Nat) (v : Bytes) (s : State) : Host.Outcome State Fault Refusal :=
  s.act fun d => d.openServe (.openHello q.again id offset total v) q fun d =>
    if v.len = 0 ∨ 1024 < v.len ∨ total ≠ helloBytes ∨ total < offset + v.len then d.openFail q St.FORMAT
    else
      match d.openEx q id with
      | none =>
        if offset ≠ 0 then d.openFail q St.STATE
        else if 4 ≤ d.rcp.opens.length ∨ d.restarts 5 = true then d.openFail q St.BUSY
        else if 16 ≤ d.rcp.sessions.length then d.openFail q St.RESOURCE
        else
          let x : OpenEx := ⟨id, q.via, q.peer, q.port, 0, v.val % 256 ^ v.len, v.len, total, 0, 0, 0, 0, 0, d.wall⟩
          ({ d with rcp := { d.rcp with opens := d.rcp.opens ++ [x] } }).openSay q St.OK (openPayload id Msg.HELLO offset total ⟨0, 0⟩)
      | some x =>
        if x.stage ≠ 0 ∨ offset ≠ x.helloLen then (d.setOpen q id (fun x => x)).openFail q St.STATE
        else
          let h := joined x.hello v.val v.len
          if offset + v.len < total then
            (d.setOpen q id (fun x => { x with hello := h, helloLen := offset + v.len })).openSay q St.OK (openPayload id Msg.HELLO offset total ⟨0, 0⟩)
          else if 4 < bytesAt helloBytes h 32 1 ∨ bytesAt helloBytes h 33 3 ≠ 0 then (d.dropOpen q id).openFail q St.RANGE
          else d.challenge q id h

/-- OPEN_CHALLENGE_FETCH (R446): a later CHALLENGE segment is fetched. -/
def execOpenChallengeFetch (q : Rcp) (id offset : Nat) (s : State) : Host.Outcome State Fault Refusal :=
  s.act fun d => d.openServe (.openChallengeFetch q.again id offset) q fun d =>
    match d.openEx q id with
    | none => d.openFail q St.STATE
    | some x =>
      let d := d.setOpen q id (fun x => x)
      if x.stage ≠ 1 then d.openFail q St.STATE
      else if challengeBytes ≤ offset then d.openFail q St.RANGE
      else
        let n := min 1024 (challengeBytes - offset)
        d.openSay q St.OK (openPayload id Msg.CHALLENGE offset challengeBytes ⟨n, bytesAt challengeBytes x.challenge offset n⟩)

/-! ## The role (R448, R449) -/

/-- R449: a credential is valid for a client's key. -/
def Dev.credentialOk (d : Dev) (pub cred : Nat) : Bool :=
  let f := bytesAt 3408 cred
  let now := d.now
  f 0 4 == 0x43524544 && f 4 2 == 1 && decide (f 6 1 ≤ 3) && f 32 32 == digest 1952 pub
    && (f 64 32 == 0 || f 64 32 == Config.identityDigest % 2 ^ 256)
    && decide (d.rd D.Policy.CRED_EPOCH 0 ≤ f 8 4)
    && Config.mldsaVerify (d.rd D.Sec.OWNER_PUBLIC 0) ⟨96, f 0 96⟩ (f 96 3309)
    && (if d.traceable then decide (f 16 8 ≤ now) && (f 24 8 == 0 || decide (now ≤ f 24 8)) else !d.on D.Policy.STRICT_TIME 0)

/-- Table 16.6: the role granted, none where the first row that applies gives none. -/
def Dev.roleOf (d : Dev) (want pub : Nat) (cred : Option Nat) : Option Nat :=
  if d.on D.Sec.OWNER_STATE 0 = false then some (min want 3)
  else if pub = d.rd D.Sec.OWNER_PUBLIC 0 then some want
  else
    match cred.filter (fun c => d.credentialOk pub c) with
    | some c => some (min want (bytesAt 3408 c 6 1))
    | none => if d.on D.Policy.OPEN_VIEW 0 then some 0 else none

/-! ## RESPONSE and ACCEPT (R447) -/

/-- The lowest free session slot. -/
def Dev.sessionSlot (d : Dev) : Nat := ((List.range 16).find? (fun k => !d.rcp.sessions.any (fun x => x.slot == k))).getD 0

/-- What the checks of a whole RESPONSE give: the role and K of R447; none where a signature, the decapsulation or the role fails. -/
def Dev.openDecide (d : Dev) (x : OpenEx) (r : Bytes) : Option (Nat × Nat) :=
  let f := bytesAt r.len r.val
  let n := f 1088 2
  let h := openHash x.hello (x.challenge / 256 ^ 3309)
  let pub := bytesAt helloBytes x.hello 36 1952
  let msg : Bytes := ⟨64 + 1088 + n, h * 256 ^ (1088 + n) + f 0 1088 * 256 ^ n + f 1092 n⟩
  if Config.mldsaVerify pub msg (f (1092 + n) 3309) = false then none
  else
    match Config.kemDecaps x.draw (f 0 1088) with
    | none => none
    | some z =>
      (d.roleOf (bytesAt helloBytes x.hello 32 1) pub (if n = 0 then none else some (f 1092 n))).map (fun role =>
        (role, Config.shake256Long 64 ⟨32 + 64 + 1088, (z % 2 ^ 256 * 2 ^ 512 + h) * 256 ^ 1088 + f 0 1088⟩ % 2 ^ 512))

/-- CONFIRM of R447: SHAKE256 over K and the ASCII bytes ACCEPT, 16 bytes. -/
def confirmOf (k : Nat) : Nat := digest 70 (k * 2 ^ 48 + 0x414343455054) / 2 ^ 128

/-- The session opens: the last segment is acknowledged as every one is, and ACCEPT is sent (R446). -/
def Dev.accepted (d : Dev) (q : Rcp) (x : OpenEx) (offset total role k : Nat) : Dev :=
  let sid := x.challenge / 256 ^ 6477
  let n : Session :=
    { slot := d.sessionSlot, id := sid, role := role, last := 0, held := [], heldAt := 0, cache := [], xfer := none, xferDead := false,
      subs := [], queue := [], count := 0, reqAt := d.wall, via := q.via, peer := q.peer, port := q.port, key := k, groupEnd := 0 }
  let d := ({ d with rcp := { d.rcp with sessions := d.rcp.sessions ++ [n] } }).dropOpen q x.id
  let d := d.openSay q St.OK (openPayload x.id Msg.RESPONSE offset total ⟨0, 0⟩)
  d.openSay q St.OK (openPayload x.id Msg.ACCEPT 0 20 ⟨20, role * 2 ^ 152 + confirmOf k⟩)

/-- The last RESPONSE segment has come. -/
def Dev.openEnd (d : Dev) (q : Rcp) (x : OpenEx) (offset : Nat) (r : Bytes) : Dev :=
  let n := bytesAt r.len r.val 1088 2
  if !(n == 0 || n == 3408) || r.len != 4401 + n then (d.dropOpen q x.id).openFail q St.FORMAT
  else if bytesAt r.len r.val 1090 2 ≠ 0 then (d.dropOpen q x.id).openFail q St.RANGE
  else
    match d.openDecide x r with
    | none => ((d.dropOpen q x.id).sat D.Sec.OPEN_FAILURES 0 1).openFail q St.AUTH
    | some a =>
      if 16 ≤ d.rcp.sessions.length then (d.dropOpen q x.id).openFail q St.RESOURCE
      else d.accepted q x offset r.len a.1 a.2

/-- OPEN_RESPONSE (R446, R447): a RESPONSE segment. -/
def execOpenResponse (q : Rcp) (id offset total : Nat) (v : Bytes) (s : State) : Host.Outcome State Fault Refusal :=
  s.act fun d => d.openServe (.openResponse q.again id offset total v) q fun d =>
    match d.openEx q id with
    | none => d.openFail q St.STATE
    | some x =>
      let d := d.setOpen q id (fun x => x)
      if v.len = 0 ∨ 1024 < v.len ∨ total < offset + v.len ∨ (total ≠ 4401 ∧ total ≠ 7809) then d.openFail q St.FORMAT
      else if x.stage ≠ 1 ∨ offset ≠ x.respLen ∨ (offset ≠ 0 ∧ total ≠ x.respTotal) then d.openFail q St.STATE
      else
        let r := joined x.resp v.val v.len
        if offset + v.len < total then
          (d.setOpen q id (fun x => { x with resp := r, respLen := offset + v.len, respTotal := total })).openSay q St.OK
            (openPayload id Msg.RESPONSE offset total ⟨0, 0⟩)
        else d.openEnd q x offset ⟨total, r⟩

/-- OPEN_EXCHANGE_TIMEOUT (R446): an exchange with no frame for 5 s is discarded. -/
def execOpenExchangeTimeout (dt : Nat) (s : State) : Host.Outcome State Fault Refusal :=
  s.act fun d =>
    let d := d.elapse dt
    { d with rcp := { d.rcp with opens := d.rcp.opens.filter (fun x => !d.past x.seenAt 5000000000) } }

end Sys2Proof.Machine
end

