-- ==== Sys2Proof/Machine/Repair.lean ====
section
/-! DEFINITION. SRAM rows and the copies of the knot map (R522 to R524): SRAM_ECC_ERROR, KNOT_COPY_WRITE. -/

namespace Sys2Proof.Machine

open Sys2Proof

/-! ## SRAM rows (R522) -/

/-- The number of an SRAM row's resource within its kind: its macro; DETAIL holds the row. -/
def Dev.sramDefective (d : Dev) (macro_ row : Nat) : Bool :=
  d.rows.waiting.any (fun w => w.1 == macro_ && w.2.1 == row)
    || d.knot.entries.any (fun k => k.kind == KnotKind.SRAM_ROW && k.inst == macro_ % 65536 && k.detail == row)

/-- R522: a row is judged defective. Its macro takes a spare row at the next reset of the macro's domain; a macro with none left keeps the
row in use. -/
def Dev.rowFails (d : Dev) (macro_ row dom cause : Nat) : Dev :=
  let taken := nget d.rows.used 0 macro_ + countIf (fun (w : Nat × Nat × Nat) => w.1 == macro_) d.rows.waiting
  if taken < 4 then
    let d := { d with rows := { d.rows with waiting := d.rows.waiting ++ [(macro_, row, dom)] } }
    d.knotAdd KnotKind.SRAM_ROW KnotAct.REPAIRED macro_ taken cause row
  else (d.flag D.KnotStatus.ROW_SHORT 0 true).knotAdd KnotKind.SRAM_ROW KnotAct.RETIRED macro_ knotNone cause row

/-- SRAM_ECC_ERROR (R522): an error in a row of a 256 KiB macro, whose fault source and domain the command names: 0 to 7 a DOMAIN-resettable
one (Table 18.9), 8 another that a WARM clears, 9 one that it keeps, 65,536 × kind + number the BLOCK instance it belongs to. -/
def execSramEccError (dt macro_ row dom cause : Nat) (corrected : Bool) (s : State) : Host.Outcome State Fault Refusal :=
  s.act fun d =>
    let d := d.elapse dt
    let recent := d.rows.errors.filter (fun e => decide (d.wall < e.2.2 + 86400000000000))
    let d :=
      if corrected then
        let d : Dev := { d with rows := { d.rows with errors := recent ++ [(macro_, row, d.wall)] }, ring := { d.ring with sram := d.ring.sram + 1 } }
        -- a plane's cell buffers: macros in turn, X and Y (DESIGN CHOICE)
        if cause = Src.XC_PLANE_FAIL then d.setPlane (macro_ % 2) (fun x => { x with eccAt := some d.wall }) else d
      else d
    let bad := !corrected || decide (3 ≤ countIf (fun (e : Nat × Nat × Nat) => e.1 == macro_ && e.2.1 == row) d.rows.errors)
    if bad && !d.sramDefective macro_ row then d.rowFails macro_ row dom cause else d

/-! ## The copies (R520, R523, R524) -/

/-- GENERATION of the newest valid copy. -/
def Dev.knotGen (d : Dev) : Nat :=
  max (match d.knot.copy0 with | some c => c.1 | none => 0) (match d.knot.copy1 with | some c => c.1 | none => 0)

/-- The factory delay set at an element: the nominal one of ROM where the map was rebuilt (R524). -/
def Dev.factorySet (d : Dev) (e : Nat) : Nat := if d.knot.nominal then Config.nominalDelaySet e else Config.factoryDelaySet e

/-- The bytes of a copy (Table 19.2). -/
def Dev.knotImage (d : Dev) (c : Nat × List Knot) : Bytes :=
  let head : Bytes := ⟨60, pack [(32, 0x4B4E4F54), (16, 1), (16, c.2.length), (64, c.1), (128, Config.serial), (224, 0)]⟩
  let sets := (List.range 256).foldl (fun (b : Bytes) e => b.app ⟨64, d.factorySet e⟩) ⟨0, 0⟩
  head.withCrc.app (c.2.foldl (fun (b : Bytes) k => b.app ⟨32, k.word⟩) sets).withCrc

/-- R438, R520: a new copy goes over the copy with the lower GENERATION, or over one that is not valid; none where the write failed its
read-back. -/
def Dev.knotPut (d : Dev) (c : Option (Nat × List Knot)) : Dev :=
  let first := match d.knot.copy0, d.knot.copy1 with
    | none, _ => true
    | some _, none => false
    | some a, some b => decide (a.1 ≤ b.1)
  let d := if first then { d with knot := { d.knot with copy0 := c } } else { d with knot := { d.knot with copy1 := c } }
  (d.flag D.KnotStatus.COPY_0_VALID 0 d.knot.copy0.isSome).flag D.KnotStatus.COPY_1_VALID 0 d.knot.copy1.isSome

/-- May the flash be written: no reset of reach WARM or wider, the settings read, PWR_WARN_N high (R530)? -/
def Dev.flashOpen (d : Dev) : Bool := !d.inReset && decide (5 ≤ d.stage) && !d.pwr.warnLow

/-- KNOT_COPY_WRITE (R523, R524): the map goes into the flash; `ok` says whether the read-back was right. -/
def execKnotCopyWrite (dt : Nat) (ok : Bool) (s : State) : Host.Outcome State Fault Refusal :=
  s.act fun d =>
    let d := d.elapse dt
    if !d.flashOpen ∨ d.knot.dirty = false then d
    else if ok then
      let d := d.knotPut (some (d.knotGen + 1, d.knot.entries))
      { d with knot := { d.knot with dirty := false } }
    else (d.knotPut none).raise Src.RPR_KNOT_COPY 0

end Sys2Proof.Machine
end

