-- ==== Sys2Proof/Machine/Power.lean ====
section
/-! DEFINITION. Power states of the islands (R525 to R529) and the power warning (R530): ISLAND_HORIZON_RECOMPUTE to PWR_WARN_RISE. -/

namespace Sys2Proof.Machine

open Sys2Proof

/-! ## Classes (Tables 19.4 and 19.5) -/

/-- Power states. -/
def Isl.ACTIVE : Nat := 0
def Isl.IDLE : Nat := 1
def Isl.NAP : Nat := 2
def Isl.DOZE : Nat := 3
def Isl.OFF : Nat := 4

/-- The wake time of a state, ns; DOZE with its reconfiguration, OFF without the class's start-up. -/
def wakeNs (st : Nat) : Nat :=
  if st = 0 then 0 else if st = 1 then 50 else if st = 2 then 5000 else if st = 3 then 500000 else 1000000

/-- Does an enabled reference use a lane element: references 4 to 131 are the SDI receive lanes (R387)? -/
def Dev.refLane (d : Dev) (e : Nat) : Bool := decide (e < 128) && d.on D.RefCfg.ENABLE (4 + e)

/-- A lane in service (R236): bound by an enabled context; of a port whose MODE is not DISABLED, a spare in use with it; of a
dowel group that is not DISABLED, or that leaves that state now. -/
def Dev.laneUsed (d : Dev) (e : Nat) : Bool :=
  if e < 128 then d.enabled.any (fun c => (d.kind c == 1 || d.kind c == 0x41) && (d.lanes c).contains e)
  else if e < 160 then (d.portOfLane (e - 128)).isSome
  else if e < 164 then d.on D.SpareStatus.IN_USE (e - 160)
  else if e ≤ 235 then
    let g := (e - 164) / 9
    let st := d.rd D.GroupStatus.STATE g
    st == GroupState.UNUSED || (d.on D.GroupCfg.ENABLE g && (st != GroupState.DISABLED || d.groupMay g))
  else false

/-- Is a spare running PRBS (R239, R240): a network spare not in use whose range has a port enabled? Dowel spares are in service with
their group. -/
def Dev.sparePrbs (d : Dev) (e : Nat) : Bool :=
  decide (160 ≤ e) && decide (e < 164) && !d.on D.SpareStatus.IN_USE (e - 160)
    && (List.range 8).any (fun i => (d.portOfLane (8 * (e - 160) + i)).isSome)

/-- Is the lane under test (R236)? -/
def Dev.laneTested (d : Dev) (e : Nat) : Bool := decide (e ≤ 235) && decide (d.rd D.LaneCfg.PRBS_MODE e ≠ 0)

/-- The physical tiles that serve an enabled context. -/
def Dev.tileBusy (d : Dev) (p : Nat) : Bool := d.boundTiles.any (fun t => d.rd D.Tile.PHYS_TILE t == p)

/-- A tile that is a spare, or free in TAKE_TILE_MASK (Table 19.5). -/
def Dev.tileReady (d : Dev) (p : Nat) : Bool :=
  d.rd D.TileMapEl.STATE p == PhysTile.SPARE
    || (List.range 64).any (fun t => d.rd D.Tile.PHYS_TILE t == p && bit (d.rd D.Tiles.TAKE_TILE_MASK 0) t)

/-- The blocks in use at a memory site: ALLOCATED, COPYING, PROTECTED, or standing in for another. -/
def Dev.siteUsed (d : Dev) (site : Nat) : Bool :=
  (d.blocksInUse ++ d.store.subs.map (fun p => p.1)).any (fun b => b % 32 / 4 == site)

/-- A class's states now, shallowest first, and its notice in ns (none: unbounded). -/
def Dev.islandRule (d : Dev) (cls n : Nat) : List Nat × Option Nat :=
  if cls = 3 then
    if d.laneUsed n || d.laneTested n || d.sparePrbs n || d.refLane n then ([0], some 0) else ([0, Isl.OFF], none)
  else if cls = 4 then
    if d.tileBusy n then ([0], some 0) else if d.tileReady n then ([0, Isl.NAP], some 20000) else ([0, Isl.DOZE], none)
  else if cls = 5 then
    if (List.range 16).any (fun i => d.rd D.Layer.HEAD (16 * n + i) != 0xFF && d.headRuns (d.rd D.Layer.HEAD (16 * n + i)))
    then ([0], some 0) else ([0, Isl.DOZE], none)
  else if cls = 6 then (if d.headRuns n then ([0], some 0) else ([0, Isl.DOZE], none))
  else if cls = 7 then
    if (List.range 4).any (fun i => d.rd D.PortCfg.MODE (4 * n + i) != 0) then ([0], some 0) else ([0, Isl.OFF], none)
  else if cls = 8 then
    if !d.siteUsed n then ([0, Isl.DOZE], none)
    else if (List.range 4).all (fun i => d.on D.ChanStatus.SELF_REFRESH (4 * n + i)) then ([0, Isl.NAP], none)
    else ([0], some 0)
  else if cls = 9 then ([0, Isl.IDLE], some 1000)
  else if cls = 10 then
    let on := if n < 8 then d.on D.SapCfg.ENABLE n else d.on D.DpllCfg.ENABLE (n - 8)
    if on then ([0], some 0) else ([0, Isl.OFF], none)
  else ([0], some 0)

/-- Does a committed configuration need an island ACTIVE (R527)? A head that is to run, and the layer engines of one. -/
def Dev.islandNeeded (d : Dev) (c : Nat × Nat) : Bool :=
  if c.1 = 5 then (List.range 16).any (fun i => (d.headOut (d.rd D.Layer.HEAD (16 * c.2 + i))).isSome)
  else if c.1 = 6 then (d.headOut c.2).isSome
  else (d.islandRule c.1 c.2).2 == some 0

/-- Every state a class may take (Table 19.5), which R529 holds a request to. -/
def classStates (cls : Nat) : List Nat :=
  if cls = 3 ∨ cls = 7 ∨ cls = 10 then [0, Isl.OFF]
  else if cls = 4 ∨ cls = 8 then [0, Isl.NAP, Isl.DOZE]
  else if cls = 5 ∨ cls = 6 then [0, Isl.DOZE]
  else if cls = 9 then [0, Isl.IDLE]
  else [0]

/-- R526: may the island rest in a state? The horizon is the smaller of the time to the next scheduled event and the notice; set by
an event, it must also be 10 wake times away. -/
def restOk (guard st : Nat) (next notice : Option Nat) : Bool :=
  if st = 0 then true
  else
    let need := wakeNs st + guard
    let byNotice := match notice with | some n => decide (need ≤ n) | none => true
    let byEvent := match next with | some e => decide (need ≤ e) | none => true
    let eventSets := match next, notice with | none, _ => false | some _, none => true | some e, some n => decide (e < n)
    byNotice && byEvent && (!eventSets || decide (10 * wakeNs st ≤ next.getD 0))

/-- The deepest state that may be taken. -/
def deepest (guard : Nat) (next notice : Option Nat) (l : List Nat) : Nat :=
  l.foldl (fun best st => if restOk guard st next notice then st else best) 0

/-- R526: an island takes the state its horizon gives. -/
def Dev.islandRest (d : Dev) (i : Nat) (next : Option Nat) : Dev :=
  let c := Config.island i
  let r := d.islandRule c.1 c.2
  d.wr D.IslandStatus.STATE i (deepest (d.rd D.Pwr.HORIZON_GUARD_NS 0) next r.2 r.1)

/-- ISLAND_HORIZON_RECOMPUTE (R526): `next` is the time to the island's next scheduled event, ns; none where none is scheduled. -/
def execIslandHorizonRecompute (dt island : Nat) (next : Option Nat) (s : State) : Host.Outcome State Fault Refusal :=
  s.act fun d =>
    let d := d.elapse dt
    if 142 ≤ island ∨ d.inReset = true ∨ d.stage < 3 ∨ d.rd D.Pwr.MODE 0 ≠ 0 then d else d.islandRest island next

/-- R527: a wake ends that took `took` ns. -/
def Dev.islandUp (d : Dev) (i took : Nat) : Dev :=
  let late := decide (wakeNs (d.rd D.IslandStatus.STATE i) < took)
  let d := (d.wr D.IslandStatus.STATE i 0).sat D.IslandStatus.WAKES i 1
  if late then (d.sat D.Pwr.WAKE_LATE 0 1).raise Src.PWR_WAKE_LATE 0 else d

/-- ISLAND_WAKE (R527): a demand reaches an island below ACTIVE; the wake takes `took` ns. -/
def execIslandWake (dt island took : Nat) (s : State) : Host.Outcome State Fault Refusal :=
  s.act fun d =>
    let d := d.elapse (dt + took)
    if 142 ≤ island ∨ d.inReset = true ∨ d.rd D.IslandStatus.STATE island = 0 then d else d.islandUp island took

/-- R529: a write of an ISLAND_REQUEST element. -/
def Dev.islandReq (d : Dev) (i v : Nat) : Dev × Nat :=
  let c := Config.island i
  let st := bitsOf v 0 3
  if d.rd D.Pwr.MODE 0 ≠ 1 then (d, St.STATE)
  else if bitsOf v 3 4 ≠ 0 then (d, St.RANGE)
  else if 142 ≤ i then (if v = 0 then (d, St.OK) else (d, St.RANGE))
  else if bit v 7 = false then (d.setEnt (D.IslandReq.STATE.key i) v, St.OK)
  else if !(classStates c.1).contains st then (d, St.RANGE)
  else if st ≠ 0 ∧ (d.islandRule c.1 c.2).2 = some 0 then (d, St.STATE)
  else ((d.setEnt (D.IslandReq.STATE.key i) v).wr D.IslandStatus.STATE i st, St.OK)

/-- The elements of an ISLAND_REQUEST write, in order; the first that is refused gives the status, and none is kept. -/
def Dev.islandReqs (d : Dev) (i : Nat) : List Nat → Dev × Nat
  | [] => (d, St.OK)
  | v :: l =>
    let r := d.islandReq i v
    if r.2 = St.OK then r.1.islandReqs (i + 1) l else r

/-- A write of ISLAND_REQUEST. -/
def Dev.islandWrite (d : Dev) (offset : Nat) (v : Bytes) : Dev × Nat :=
  let r := d.islandReqs offset (bytesOf v.len v.val)
  if r.2 = St.OK then r else (d, r.2)

/-- ISLAND_REQUEST (R529): the element of an island is written. -/
def execIslandRequest (q : Rcp) (island v : Nat) (s : State) : Host.Outcome State Fault Refusal :=
  s.act (serveDom (.islandRequest q.again island v) q 0x0520 2 island ⟨1, v % 256⟩ fun _ d => d.islandWrite island ⟨1, v % 256⟩)

/-! ## The power warning (R530) -/

/-- R530, R531: the interval in progress ends in a PARTIAL record, and the event record names its SEQ; a trip writes no record (R560). -/
def Dev.warnRecord (d : Dev) (ok : Bool) : Dev :=
  if d.inReset ∨ d.stage < 5 ∨ d.pwr.trip = true then d
  else
    let seq := d.ring.t0.seq
    let now := d.now
    let d := (d.intervalEnd ok 2 16 now).writeEvent ok ⟨7, now, (if ok then seq else 2 ^ 64 - 1) * 2 ^ 64⟩
    d.intervalStart now 16

/-- PWR_WARN (R530): PWR_WARN_N falls; `erasing` says whether a flash erase was running, `ok` whether the record's write passed. -/
def execPwrWarn (dt : Nat) (erasing ok : Bool) (s : State) : Host.Outcome State Fault Refusal :=
  s.act fun d =>
    let d := d.elapse dt
    if d.pwr.warnLow ∨ d.inCold = true then d
    else
      let d := (d.add D.Pwr.PWR_WARNS 0 1).raise Src.PWR_WARN 0
      let d := { d with pwr := { d.pwr with warnLow := true, suspended := erasing } }
      d.warnRecord ok

/-- PWR_WARN_RISE (R530): PWR_WARN_N is high again, and a suspended erase resumes. -/
def execPwrWarnRise (dt : Nat) (s : State) : Host.Outcome State Fault Refusal :=
  s.act fun d =>
    let d := d.elapse dt
    if d.pwr.warnLow then { d with pwr := { d.pwr with warnLow := false, suspended := false }, ring := { d.ring with t0 := d.ring.t0.ready 0 } }
    else d

end Sys2Proof.Machine
end

