-- ==== Sys2Proof/Machine/Take.lean ====
section
/-! DEFINITION. Single takes: the request, the twin's copy, acceptance, and the application instant (R76 to R83, R564, R72, R99). -/

namespace Sys2Proof.Machine

open Sys2Proof

/-- Is the twin PAIRED? -/
def Dev.paired (d : Dev) : Bool := d.rd D.Twin.STATE 0 == 4

/-- Checks 1 and 2 of Table 03.6. -/
def Dev.takeCheck12 (d : Dev) (role v : Nat) : Option Nat :=
  if !Kind.fits (TakeD.output v) 0x41 || TakeD.output v < 4096 || 8192 ≤ TakeD.output v || TakeD.reserved v != 0
    || (TakeD.time v != 0 && decide (86400000000000 < sdiff (TakeD.time v) d.now 64)) then some St.RANGE
  else if d.on D.OutCfg.PROTECT (TakeD.output v - 4096) && decide (role < 2) then some St.ACCESS
  else none

/-- The source a descriptor names. -/
def takeSource (v : Nat) : Option Nat := if TakeD.disconnect v then none else some (TakeD.source v)

/-- A TAKE write: checked, logged, and accepted at once where no twin is paired; else the descriptor goes to the twin, and the
response is sent when the twin has answered or 500 µs have passed (R77, R80). -/
def Dev.take (d : Dev) (w : Who) (seq op v : Nat) : Dev × Nat :=
  let c := TakeD.output v
  let refuse := fun (d : Dev) (st : Nat) => (d.sat D.XpCount.TAKES_REFUSED 0 1, st)
  match d.takeCheck12 w.role v with
  | some st => refuse d st
  | none =>
    match d.takeChecks c (takeSource v) (TakeD.fsOnTake v) (TakeD.time v) none with
    | .error st => refuse d st
    | .ok (d, p) =>
      let d := d.logTake 1 0xFF 0xFF (TakeD.time v) [p.elem c]
      if d.paired then
        let id := d.dwl.msg
        let d := d.sendMsg 7 0x02 ⟨16, v⟩
        (d.setXp (fun x => { x with asks := x.asks ++ [⟨c, p, d.wall, id, w.session, seq, op⟩] }), St.LATER)
      else (d.acceptTake c p, St.OK)

/-- TAKE (R77). -/
def execTake (q : Rcp) (v : Nat) (s : State) : Host.Outcome State Fault Refusal :=
  s.act (serveWrite (.take q.again v) q 0x0C10 0x01 ⟨16, v⟩ (fun w d => d.take w q.seq q.op v))

/-- TWIN_TAKE_RX (R564): the twin's take is checked here by checks 3 to 12; the answer names
the MSG_ID it came under. -/
def execTwinTakeRx (dt msg v : Nat) (s : State) : Host.Outcome State Fault Refusal :=
  s.act fun d => d.live dt fun d =>
    if !d.paired then d
    else
      match d.takeChecks (TakeD.output v) (takeSource v) (TakeD.fsOnTake v) (TakeD.time v) none with
      | .error st => (d.sendMsg 7 0x03 ⟨3, msg * 256 + st⟩).raise Src.XC_TWIN_DIVERGED (TakeD.output v)
      | .ok (d, p) =>
        let d := d.logTake 1 0xFF 0xFF (TakeD.time v) [p.elem (TakeD.output v)]
        (d.sendMsg 7 0x03 ⟨3, msg * 256 + St.OK⟩).acceptTake (TakeD.output v) p

/-- An open exchange ends: the take is accepted and its response sent. -/
def Dev.endAsk (d : Dev) (a : TakeAsk) : Dev :=
  let d := d.setXp (fun x => { x with asks := x.asks.filter (fun b => b.msg != a.msg) })
  (d.acceptTake a.output a.pend).answerLate a.session a.seq a.op St.OK

/-- TWIN_TAKE_ACK (R80, R564): the twin has answered the take it was sent under a MSG_ID. -/
def execTwinTakeAck (dt msg status : Nat) (s : State) : Host.Outcome State Fault Refusal :=
  s.act fun d => d.live dt fun d =>
    match d.xp.asks.find? (fun a => a.msg == msg) with
    | none => d
    | some a => (if status = St.OK then d else d.sat D.XpCount.TWIN_TAKES_MISSED 0 1).endAsk a

/-- TWIN_TAKE_TIMEOUT (R80): 500 µs have passed without an answer to the oldest open exchange. -/
def execTwinTakeTimeout (dt : Nat) (s : State) : Host.Outcome State Fault Refusal :=
  s.act fun d => d.live dt fun d =>
    match d.xp.asks with
    | [] => d
    | a :: _ =>
      if !d.past a.sentAt 500000 then d
      else ((d.sat D.XpCount.TWIN_TAKES_MISSED 0 1).raise Src.XC_TWIN_TAKE_MISSED a.output).endAsk a

/-- TAKE_APPLY (R83, R92, R74): an application instant of an output. -/
def execTakeApply (dt ctx : Nat) (s : State) : Host.Outcome State Fault Refusal :=
  s.act fun d => d.live dt fun d =>
    if ctx < 4096 ∨ 8192 ≤ ctx ∨ !d.running ctx then d
    else d.applyDue ctx

/-- DELAY_CHANGE_APPLY (R72): at an output's next frame boundary its committed playout delay is in force; on one that has had no frame boundary since
it started, at any time (DESIGN CHOICE). -/
def execDelayChangeApply (dt ctx : Nat) (s : State) : Host.Outcome State Fault Refusal :=
  s.act fun d => d.live dt fun d =>
    if ctx < 4096 ∨ 8192 ≤ ctx then d
    else
      let wait := d.running ctx &&
        (match (d.flowSt ctx).boundary with | some b => b != d.now | none => false)
      if wait then d else d.setFlow ctx (fun x => { x with oldDelay := none })

/-- LOG_SECTOR_ERASE (R99). -/
def execLogSectorErase (dt : Nat) (s : State) : Host.Outcome State Fault Refusal :=
  s.act fun d => (d.elapse dt).eraseSector

end Sys2Proof.Machine
end

