-- ==== Sys2Proof/Machine/Salvo.lean ====
section
/-! DEFINITION. Salvos: the slots, arming, prepare, vote, decision, doubt (R84 to R95). -/

namespace Sys2Proof.Machine

open Sys2Proof

/-! ## Slot states (Table 03.9) -/

namespace SlotState
def EMPTY : Nat := 0
def LOADED : Nat := 1
def PREPARING : Nat := 2
def PREPARED : Nat := 3
def COMMITTED : Nat := 4
def APPLIED : Nat := 5
def ABORTED : Nat := 6
def INDOUBT : Nat := 7
end SlotState

open SlotState

/-- STATE of a slot. -/
def Dev.slotState (d : Dev) (s : Nat) : Nat := d.rd D.Salvo.STATE s
/-- Enter a slot state. -/
def Dev.slotTo (d : Dev) (s st : Nat) : Dev := d.wr D.Salvo.STATE s st
/-- What a slot holds beside its entries. -/
def Dev.salvoSt (d : Dev) (s : Nat) : SalvoSt := nget d.xp.slots {} s
/-- Change what a slot holds. -/
def Dev.setSalvo (d : Dev) (s : Nat) (f : SalvoSt → SalvoSt) : Dev :=
  d.setXp (fun x => { x with slots := nput x.slots {} s (f (d.salvoSt s)) })

/-- Is salvo sequencing host-assisted (0x0C00.01)? -/
def Dev.hostSalvo (d : Dev) : Bool := d.rd D.Xp.MODE 0 == 1
/-- The PLANE_B strap. -/
def Dev.card (d : Dev) : Nat := d.rd D.Straps.PLANE_B 0
/-- STATE of group 7. -/
def Dev.twinGroup (d : Dev) : Nat := d.rd D.GroupStatus.STATE 7

/-- 0x0C00.0B COORDINATOR (R84): under MODE 0 the headstock of the card with PLANE_B low; that of the other card while its group 7 is down. -/
def Dev.coordinates (d : Dev) : Bool := !d.hostSalvo && d.on D.Straps.HEAD 0 && (d.card == 0 || d.twinGroup != 3)

/-- May this device's slots be written (R84, R95)? -/
def Dev.slotOpen (d : Dev) : Bool := d.hostSalvo || d.coordinates

/-- The elements of a slot, in order. -/
def Dev.changes (d : Dev) (s : Nat) : List Nat :=
  (List.range (d.rd D.Salvo.COUNT s)).map (fun i => d.ent ⟨D.Salvo.CHANGES.ix + s, D.Salvo.CHANGES.sub, i⟩)

/-- The elements of a slot for a member, with their index. -/
def Dev.partOf (d : Dev) (s m : Nat) : List (Nat × Nat) :=
  ((List.range (d.rd D.Salvo.COUNT s)).zip (d.changes s)).filter (fun e => Change.member e.2 == m)

/-! ## Requests -/

/-- R85: elements are replaced or added. -/
def Dev.writeChanges (d : Dev) (s offset : Nat) (v : Bytes) : Dev × Nat :=
  let count := d.rd D.Salvo.COUNT s
  let first := offset / 8
  let n := v.len / 8
  let new := (List.range n).map (fun j => domElement v 8 j)
  let all := (d.changes s).take first ++ new ++ (d.changes s).drop (first + n)
  let names := all.map (fun e => (Change.member e, Change.output e))
  if !d.slotOpen then (d, St.STATE)
  else if (d.slotState s ≠ EMPTY ∧ d.slotState s ≠ LOADED) ∨ (d.slotState s = EMPTY ∧ n = 0) then (d, St.STATE)
  else if count < first ∨ 8192 < all.length ∨ !names.Nodup ∨ new.any (fun e => !Change.clean e || decide (d.ensSize ≤ Change.member e))
    ∨ (d.hostSalvo ∧ new.any (fun e => Change.member e != d.me)) then (d, St.RANGE)
  else
    let d := d.each (List.range n) (fun d j => d.setEnt ⟨D.Salvo.CHANGES.ix + s, D.Salvo.CHANGES.sub, first + j⟩ (domElement v 8 j))
    ((d.wr D.Salvo.COUNT s all.length).slotTo s LOADED, St.OK)

/-- SALVO_CHANGES_WRITE (R85): a complete WRITE_DOM of CHANGES. -/
def execSalvoChangesWrite (q : Rcp) (slot offset : Nat) (v : Bytes) (s : State) : Host.Outcome State Fault Refusal :=
  s.act (serveDom (.salvoChangesWrite q.again slot offset v) q (0x0C20 + slot % 16) 0x02 offset v (fun _ d => d.writeChanges (slot % 16) offset v))

/-- A TAKE_TIME write (Table 03.9). -/
def Dev.writeTakeTime (d : Dev) (s v : Nat) : Dev × Nat :=
  let st := d.slotState s
  if !d.slotOpen ∨ !(st == EMPTY || st == LOADED || st == ABORTED || st == APPLIED) then (d, St.STATE)
  else (d.wr D.Salvo.TAKE_TIME s v, St.OK)

/-- SALVO_TAKE_TIME_WRITE (R86). -/
def execSalvoTakeTimeWrite (q : Rcp) (slot v : Nat) (s : State) : Host.Outcome State Fault Refusal :=
  s.act (serveWrite (.salvoTakeTimeWrite q.again slot v) q (0x0C20 + slot % 16) 0x04 ⟨8, v⟩ (fun _ d => d.writeTakeTime (slot % 16) v))

/-! ## Markers and parts -/

/-- A marker of a slot as this device sends it. -/
def Dev.mark (d : Dev) (phase s epoch time : Nat) : Nat := Mark.build phase s epoch d.card false d.me 0 time 0xFFFF

/-- R89: three copies of a marker, on the lanes of a group's rotation in rank order, from rank 0 again where it holds fewer than three. -/
def Dev.sendMark (d : Dev) (g block : Nat) : Dev :=
  let l := (d.dg g).lanes
  match l with
  | [] => d
  | a :: _ => ([0, 1, 2].foldl (fun d i => d.queueSet (9 * g + l.getD (i % l.length) a) (.salvo block)) (d.groupRun g)).groupRun g

/-- A marker over the group toward a member. -/
def Dev.markTo (d : Dev) (m block : Nat) : Dev := match d.groupTo m with | some g => d.sendMark g block | none => d

/-- A marker over group 7, where it is UP. -/
def Dev.markTwin (d : Dev) (block : Nat) : Dev := if d.twinGroup = 3 then d.sendMark 7 block else d

/-- The coordinator's markers (R89): over the mesh, and over group 7 to its twin; a headstock of the other card coordinates that card alone
(R84). -/
def Dev.broadcast (d : Dev) (block : Nat) : Dev :=
  let d := d.each d.others (fun d m => d.markTo m block)
  if d.card = 0 then d.markTwin block else d

/-- R89: a marker from the coordinator goes on: a member of its card sends it to the twin; the headstock of the other card sends what came over
group 7 to its members. -/
def Dev.repeatMark (d : Dev) (group block : Nat) : Dev :=
  if group ≠ 7 then (if Mark.card block = 0 ∧ d.card = 0 then d.markTwin block else d)
  else if d.on D.Straps.HEAD 0 then d.each d.others (fun d m => d.markTo m block) else d

/-- How long a further copy of a marker counts as one: the copies leave within 100 ns, and the same QUERY comes again after 1 ms (DESIGN CHOICE). -/
def markSpan : Nat := 500000

/-- Is this the first valid copy of a marker over a group (R89)? -/
def Dev.firstCopy (d : Dev) (group block : Nat) : Bool :=
  !d.xp.heard.any (fun h => h.1 == group && h.2.1 == block && !d.past h.2.2 markSpan)

/-- The part message (class 0x04; DESIGN CHOICE of layout): member, SLOT and EPOCH, TAKE_TIME, and for each element its index and its
eight bytes. -/
def partMessage (m s epoch time : Nat) (elems : List (Nat × Nat)) : Bytes :=
  elems.foldl (fun b e => b.app ⟨10, e.1 * 2 ^ 64 + e.2⟩) ⟨10, m * 2 ^ 72 + s * 2 ^ 68 + epoch * 2 ^ 64 + time % 2 ^ 64⟩

/-- An armed part enters a slot. -/
def Dev.partIn (d : Dev) (s epoch time : Nat) (via : Option Nat) (elems : List (Nat × Nat)) : Dev :=
  d.setSalvo s (fun x => { x with part := some ⟨epoch, time, elems, via, d.card, none, none, false, false, false, [], false⟩, applied := none })

/-- Is a slot free to take a new arming from the coordinator: none of its own is undecided here? -/
def Dev.slotIdle (d : Dev) (s epoch : Nat) : Bool :=
  let st := d.slotState s
  !(st == PREPARING || st == PREPARED || st == COMMITTED || st == INDOUBT) || d.rd D.Salvo.EPOCH s == epoch

/-- A part message is received: the device's own part is kept, unless another arming of the slot is undecided here (R92), and one that came
from the twin for another member goes on. -/
def Dev.partMessageIn (d : Dev) (group : Nat) (b : Bytes) : Dev :=
  let m := b.at_ 0
  let h := b.take 10
  let n := (b.len - 10) / 10
  let elems := (List.range n).map (fun j => let e := (b.drop (10 + 10 * j)).take 10; (e.val / 2 ^ 64, e.val % 2 ^ 64))
  if m ≠ d.me then (match d.groupTo m with | some g => d.sendMsg g 0x04 b | none => d)
  else
    let s := h.val / 2 ^ 68 % 16
    let epoch := h.val / 2 ^ 64 % 16
    if d.slotIdle s epoch && (d.slotState s != INDOUBT && d.slotState s != PREPARED && d.slotState s != COMMITTED) then
      d.partIn s epoch (h.val % 2 ^ 64) (some group) elems
    else d

/-! ## Prepare (R90) -/

/-- Check the elements of a part, in order, and reserve what each needs: its tile, and the ledger's capacity for its source, which the later
ones no longer have (R90). The changes, or the first failing status and index. -/
def Dev.prepareElems (d : Dev) (s epoch time : Nat) : List (Nat × Nat) → List (Nat × Pend) → Dev × Except (Nat × Nat) (List (Nat × Pend))
  | [], done => (d, .ok done)
  | (i, e) :: t, done =>
    match d.takeChecks (Change.output e) (if Change.disconnect e then none else some (Change.source e)) (Change.fsOnTake e) time (some (s, epoch)) with
    | .error st => (d, .error (st, i))
    | .ok (d', p) =>
      let l := done ++ [(Change.output e, p)]
      (d'.setSalvo s (fun x => { x with part := x.part.map (fun q => { q with changes := l }) })).prepareElems s epoch time t l

/-- The reservations of a part are released. -/
def Dev.releasePart (d : Dev) (l : List (Nat × Pend)) : Dev :=
  d.each (l.filterMap (fun c => c.2.ins.map (fun i => i.tile))) (fun d t => d.freeTile t)

/-- A participant checks its part, reserves what it needs, and logs it (R90). Where an element fails, nothing is reserved. -/
def Dev.preparePart (d : Dev) (s : Nat) : Dev :=
  match (d.salvoSt s).part with
  | none => d
  | some p =>
    match d.prepareElems s p.epoch p.time p.elems [] with
    | (_, .error f) => d.setSalvo s (fun x => { x with part := some { p with own := some f } })
    | (d', .ok l) =>
      let d := d'.logTake 2 s p.epoch p.time (l.map (fun c => c.2.elem c.1))
      d.setSalvo s (fun x => { x with part := some { p with own := some (0, 0xFFFF), changes := l } })

/-- R94: does a twin vote with this member, or is it absent? -/
def Dev.twinVotes (d : Dev) : Bool × Bool :=
  if !d.on D.Twin.ENABLE 0 ∨ d.twinGroup = 0 ∨ d.twinGroup = 1 then (false, false) else (d.twinGroup == 3, d.twinGroup != 3)

/-! ## The decision (R91) -/

/-- The decision is fixed; it takes effect when its record is in the log. -/
def Dev.decideSalvo (d : Dev) (s : Nat) (commit : Bool) (result member index : Nat) : Dev :=
  d.setSalvo s (fun x => { x with decided := some (commit, result, member, index) })

/-- Does a slot wait for votes? -/
def Dev.voting (d : Dev) (s : Nat) : Bool := d.slotState s == PREPARING && (d.salvoSt s).decided.isNone && d.coordinates && !d.hostSalvo

/-- Has TAKE_TIME less a lead come? -/
def Dev.leadOver (d : Dev) (s lead : Nat) : Bool := decide (0 ≤ sdiff d.now (d.rd D.Salvo.TAKE_TIME s - lead) 64)

/-- A pair's vote reaches the coordinator. TWIN_ABSENT shows every vote that carries the bit, also one after the decision (R94). -/
def Dev.voteIn (d : Dev) (s m card : Nat) (absent : Bool) (status index : Nat) : Dev :=
  let d := if absent && d.coordinates then d.wr D.Salvo.TWIN_ABSENT s (setBits (d.rd D.Salvo.TWIN_ABSENT s) m 1 1) else d
  if !d.voting s then d
  else
    if status ≠ 0 then d.decideSalvo s false status (card * 8 + m) index
    else
      let got := m :: (d.salvoSt s).got.filter (fun x => x != m)
      let d := d.setSalvo s (fun x => { x with got := got })
      if (d.salvoSt s).need.all (fun x => got.contains x) ∧ !d.leadOver s (d.rd D.Xp.VOTE_LEAD_US 0 * 1000) then d.decideSalvo s true 0 0xFF 0xFFFF else d

/-- The changes of a part become pending (Table 03.9). -/
def Dev.pendPart (d : Dev) (s : Nat) (doubt : Bool) : Dev :=
  match (d.salvoSt s).part with
  | none => d
  | some p =>
    let mine := fun (e : Nat × Pend) => e.2.slot == some (s, p.epoch)
    let d := d.setXp (fun x => { x with pend := x.pend.filter (fun e => !mine e) ++ p.changes.map (fun c => (c.1, { c.2 with doubt := doubt })) })
    d.each (p.changes.map (fun c => c.1)) (fun d c => d.showPend c)

/-- A part is discarded: its pending changes go, outputs held in doubt stay on their old source and leave safe state (R92). -/
def Dev.dropPart (d : Dev) (s : Nat) : Dev :=
  match (d.salvoSt s).part with
  | none => d
  | some p =>
    let d := d.setXp (fun x => { x with pend := x.pend.filter (fun e => e.2.slot != some (s, p.epoch)) })
    let d := d.each (p.changes.map (fun c => c.1)) (fun d c =>
      ((d.flag D.XpTable.INDOUBT (c - 4096) false).dropWhy c Safe.indoubt).showPend c)
    let d := (d.releasePart p.changes).setSalvo s (fun x => { x with part := none })
    (d.each (p.changes.filterMap (fun c => c.2.source)) (fun d e => d.flowUse e)).report

/-- The paths of the sources of a committed part are asked for (R223). -/
def Dev.partPaths (d : Dev) (s : Nat) : Dev :=
  match (d.salvoSt s).part with
  | none => d
  | some p => d.each (p.changes.filterMap (fun c => c.2.source)) (fun d e => d.flowUse e)

/-- COMMIT takes effect on a participant: logged, and its outputs pending. A part read back from the log takes changes whose TAKE_TIME has
passed at each output's first application instant (R93). -/
def Dev.commitPart (d : Dev) (s : Nat) : Dev :=
  match (d.salvoSt s).part with
  | none => d.slotTo s COMMITTED
  | some p =>
    let d := (d.logTake 3 s p.epoch p.time []).slotTo s COMMITTED
    ((d.pendPart s false).partPaths s).report

/-- ABORT takes effect on a participant. A device that neither holds a part nor coordinates shows it and counts nothing, as with
SALVOS_APPLIED in Table 03.9 (log 37). -/
def Dev.abortPart (d : Dev) (s : Nat) : Dev :=
  let counts := (d.salvoSt s).part.isSome || d.coordinates || d.hostSalvo
  let d := match (d.salvoSt s).part with | some p => d.logTake 4 s p.epoch p.time [] | none => d
  let d := (d.dropPart s).slotTo s ABORTED
  if counts then d.sat D.XpCount.SALVOS_ABORTED 0 1 else d

/-! ## ARM, ABORT, CLEAR, COMMIT -/

/-- RESULT of an outcome that no element failed: FAIL_MEMBER and FAIL_INDEX name none (under MODE 1 a DESIGN CHOICE, as in hardware mode). -/
def Dev.slotResult (d : Dev) (s result : Nat) : Dev :=
  ((d.wr D.Salvo.RESULT s result).wr D.Salvo.FAIL_MEMBER s 0xFF).wr D.Salvo.FAIL_INDEX s 0xFFFF

/-- CONTROL = ARM (R87, R95): parts go out, then PREPARE. -/
def Dev.arm (d : Dev) (s : Nat) : Dev × Nat :=
  let st := d.slotState s
  let lead := sdiff (d.rd D.Salvo.TAKE_TIME s) d.now 64
  if !d.slotOpen ∨ !(st == LOADED || st == ABORTED || st == APPLIED) then (d, St.STATE)
  else if d.rd D.Salvo.COUNT s = 0 ∨ lead < d.rd D.Xp.SALVO_MIN_LEAD_US 0 * 1000 ∨ 86400000000000 < lead then (d, St.RANGE)
  else
    let epoch := (d.rd D.Salvo.EPOCH s + 1) % 16
    let time := d.rd D.Salvo.TAKE_TIME s
    let d := ((d.wr D.Salvo.EPOCH s epoch).wr D.Salvo.TWIN_ABSENT s 0).slotTo s PREPARING
    let d := d.setSalvo s (fun x => { x with part := none, got := [], decided := none, owes := none, applied := none,
                                             need := (List.range 8).filter (fun m => (d.partOf s m) != []) })
    if d.hostSalvo then ((d.partIn s epoch time none (d.partOf s d.me)).preparePart s, St.OK)
    else
      let d := d.each ((d.salvoSt s).need.filter (fun m => m != d.me)) (fun d m => match d.groupTo m with
        | some g => d.sendMsg g 0x04 (partMessage m s epoch time (d.partOf s m))
        | none => d)
      let d := if d.twinGroup = 3 then
          d.each (d.salvoSt s).need (fun d m => d.sendMsg 7 0x04 (partMessage m s epoch time (d.partOf s m))) else d
      let d := d.broadcast (d.mark 1 s epoch time)
      if (d.salvoSt s).need.contains d.me then
        let v := d.twinVotes
        let d := (d.partIn s epoch time none (d.partOf s d.me)).preparePart s
        (d.setSalvo s (fun x => { x with part := x.part.map (fun p => { p with needTwin := v.1, absent := v.2 }) }), St.OK)
      else (d, St.OK)

/-- CONTROL = ABORT (R91, R95). -/
def Dev.abortCmd (d : Dev) (s : Nat) (w : Who) (seq op : Nat) : Dev × Nat :=
  let st := d.slotState s
  if !d.slotOpen then (d, St.STATE)
  else if d.hostSalvo then
    (if st = PREPARING ∨ st = PREPARED then ((d.abortPart s).slotResult s 0, St.OK) else (d, if st = ABORTED then St.OK else St.STATE))
  else if st = PREPARING then
    (match (d.salvoSt s).decided with
     | some x => (d, if x.1 then St.STATE else St.OK)
     | none => ((d.decideSalvo s false 0 0xFF 0xFFFF).setSalvo s (fun x => { x with owes := some (w.session, seq, op) }), St.LATER))
  else (d, if st = ABORTED then St.OK else St.STATE)

/-- CONTROL = CLEAR (R86). -/
def Dev.clearSlot (d : Dev) (s : Nat) : Dev × Nat :=
  let st := d.slotState s
  if !d.slotOpen ∨ !(st == LOADED || st == ABORTED || st == APPLIED) then (d, St.STATE)
  else
    let d := d.each (List.range (d.rd D.Salvo.COUNT s)) (fun d i => d.setEnt ⟨D.Salvo.CHANGES.ix + s, D.Salvo.CHANGES.sub, i⟩ 0)
    ((d.wr D.Salvo.COUNT s 0).slotTo s EMPTY, St.OK)

/-- CONTROL = COMMIT (R95). -/
def Dev.commitCmd (d : Dev) (s : Nat) : Dev × Nat :=
  if !d.hostSalvo ∨ d.slotState s ≠ PREPARED then (d, St.STATE)
  else ((d.commitPart s).slotResult s 0, St.OK)

/-- A CONTROL write. -/
def Dev.salvoControl (d : Dev) (s v : Nat) (w : Who) (seq op : Nat) : Dev × Nat :=
  if v = 1 then d.arm s
  else if v = 2 then d.abortCmd s w seq op
  else if v = 3 then d.clearSlot s
  else if v = 4 then d.commitCmd s
  else (d, St.RANGE)

/-- SALVO_ARM (R87). -/
def execSalvoArm (q : Rcp) (slot : Nat) (s : State) : Host.Outcome State Fault Refusal :=
  s.act (serveWrite (.salvoArm q.again slot) q (0x0C20 + slot % 16) 0x05 ⟨1, 1⟩ (fun w d => d.salvoControl (slot % 16) 1 w q.seq q.op))

/-- SALVO_ABORT (R91). -/
def execSalvoAbort (q : Rcp) (slot : Nat) (s : State) : Host.Outcome State Fault Refusal :=
  s.act (serveWrite (.salvoAbort q.again slot) q (0x0C20 + slot % 16) 0x05 ⟨1, 2⟩ (fun w d => d.salvoControl (slot % 16) 2 w q.seq q.op))

/-- SALVO_CLEAR (R86). -/
def execSalvoClear (q : Rcp) (slot : Nat) (s : State) : Host.Outcome State Fault Refusal :=
  s.act (serveWrite (.salvoClear q.again slot) q (0x0C20 + slot % 16) 0x05 ⟨1, 3⟩ (fun w d => d.salvoControl (slot % 16) 3 w q.seq q.op))

/-- SALVO_COMMIT_CMD (R95). -/
def execSalvoCommitCmd (q : Rcp) (slot : Nat) (s : State) : Host.Outcome State Fault Refusal :=
  s.act (serveWrite (.salvoCommitCmd q.again slot) q (0x0C20 + slot % 16) 0x05 ⟨1, 4⟩ (fun w d => d.salvoControl (slot % 16) 4 w q.seq q.op))

/-! ## Participants -/

/-- A group counts a salvo marker it accepts (R88, Table 07.17). -/
def Dev.heardMark (d : Dev) (group block : Nat) : Dev :=
  if Mark.ok block && decide (group < 8) then
    let l := d.xp.heard.filter (fun h => !(h.1 == group && h.2.1 == block) && !d.past h.2.2 markSpan)
    let new := d.firstCopy group block
    let d := d.sat D.GroupCounters.MARKERS_RX group 1
    if new then d.setXp (fun x => { x with heard := l ++ [(group, block, d.wall)] }) else d
  else d

/-- SALVO_PREPARE (R88, R90): PREPARE reaches a participant; a device with no part shows the coordinator's phase. -/
def execSalvoPrepare (dt group block : Nat) (s : State) : Host.Outcome State Fault Refusal :=
  s.act fun d => d.live dt fun d =>
    let new := d.firstCopy group block
    let d := d.heardMark group block
    let sl := Mark.slot block
    if !new || !Mark.ok block || Mark.phase block != 1 || 8 ≤ group || d.coordinates || d.hostSalvo || !d.slotIdle sl (Mark.epoch block)
      || (d.slotState sl == PREPARING && d.rd D.Salvo.EPOCH sl == Mark.epoch block) then d
    else
      let d := d.repeatMark group block
      let d := ((d.wr D.Salvo.EPOCH sl (Mark.epoch block)).wr D.Salvo.TAKE_TIME sl (Mark.time block)).slotTo sl PREPARING
      match (d.salvoSt sl).part with
      | none => d
      | some p =>
        if p.epoch ≠ Mark.epoch block then d.setSalvo sl (fun x => { x with part := none })
        else
          -- a member of the coordinator's card votes for itself and its twin; the twin votes to its member over group 7. A headstock of the
          -- card with PLANE_B high coordinates that card alone (R84): no twin votes with its members
          let v := if group = 7 ∨ d.card ≠ Mark.card block then (false, false) else d.twinVotes
          let d := d.setSalvo sl (fun x => { x with part := some { p with
            via := some group, coord := Mark.card block, needTwin := v.1 && Mark.card block == 0, absent := v.2 } })
          d.preparePart sl

/-- The failure a member reports for itself and its twin: the lower index, its own on a tie (R90). -/
def Part.vote (p : Part) (card : Nat) : Nat × Nat × Nat :=
  match p.own, (if p.needTwin then p.twin else none) with
  | some (0, _), some (0, _) => (0, 0xFFFF, card)
  | some (0, _), some (st, i) => (st, i, 1 - card)
  | some (st, i), some (0, _) => (st, i, card)
  | some (a, i), some (b, j) => if j < i then (b, j, 1 - card) else (a, i, card)
  | some (0, _), none => (0, 0xFFFF, card)
  | some (st, i), none => (st, i, card)
  | none, _ => (0, 0xFFFF, card)

/-- SALVO_PREPARED (R90, R94, R95): the part is prepared here and on the twin; the member votes. -/
def execSalvoPrepared (dt slot : Nat) (s : State) : Host.Outcome State Fault Refusal :=
  s.act fun d => d.live dt fun d =>
    match (d.salvoSt slot).part with
    | none => d
    | some p =>
      if p.voted ∨ p.own.isNone ∨ (p.needTwin ∧ p.twin.isNone) ∨ d.slotState slot ≠ PREPARING then d
      else
        let d := d.setSalvo slot (fun x => { x with part := some { p with voted := true } })
        let v := p.vote d.card
        if d.hostSalvo then
          (if v.1 = 0 then d.slotTo slot PREPARED
           else (((d.abortPart slot).wr D.Salvo.RESULT slot v.1).wr D.Salvo.FAIL_MEMBER slot (d.card * 8 + d.me)).wr D.Salvo.FAIL_INDEX slot v.2.1)
        else
          let d := if p.absent then d.sat D.XpCount.INDOUBT_EVENTS 0 1 else d
          if d.coordinates then d.voteIn slot d.me v.2.2 p.absent v.1 v.2.1
          else
            let block := Mark.build 2 slot p.epoch v.2.2 p.absent d.me v.1 p.time v.2.1
            let d := if v.1 = 0 then d.slotTo slot PREPARED else d
            -- to the coordinator of this card, or over group 7 to the member of its card that this device is the twin of
            if p.coord = d.card then d.markTo 0 block else d.markTwin block

/-- SALVO_VOTE_RX (R90, R91): a pair's vote reaches the coordinator, or a twin's vote reaches its member over group 7. -/
def execSalvoVoteRx (dt group block : Nat) (s : State) : Host.Outcome State Fault Refusal :=
  s.act fun d => d.live dt fun d =>
    let new := d.firstCopy group block
    let d := d.heardMark group block
    let sl := Mark.slot block
    if !new || !Mark.ok block || Mark.phase block != 2 || d.rd D.Salvo.EPOCH sl != Mark.epoch block then d
    else if group = 7 ∧ Mark.member block = d.me then
      d.setSalvo sl (fun x => { x with part := x.part.map (fun p =>
        if p.epoch = Mark.epoch block ∧ p.twin.isNone then
          { p with twin := some (Mark.status block, if Mark.status block = 0 then 0xFFFF else Mark.failIndex block) } else p) })
    else d.voteIn sl (Mark.member block) (Mark.card block) (Mark.twinAbsent block) (Mark.status block) (Mark.failIndex block)

/-- SALVO_DECISION_LOGGED (R91): the record is in the log, the slot shows the outcome, the markers go out. -/
def execSalvoDecisionLogged (dt slot : Nat) (s : State) : Host.Outcome State Fault Refusal :=
  s.act fun d => d.live dt fun d =>
    match (d.salvoSt slot).decided with
    | none => d
    | some (commit, result, member, index) =>
      let epoch := d.rd D.Salvo.EPOCH slot
      let time := d.rd D.Salvo.TAKE_TIME slot
      let d := d.setSalvo slot (fun x => { x with decided := none, log := ((epoch, commit, time) :: x.log.filter (fun e => e.1 != epoch)).take 4 })
      let d := ((d.wr D.Salvo.RESULT slot result).wr D.Salvo.FAIL_MEMBER slot member).wr D.Salvo.FAIL_INDEX slot index
      let part := (d.salvoSt slot).part.isSome
      let d := if part then d else d.logTake (if commit then 3 else 4) slot epoch time []
      let d := if commit then d.commitPart slot else d.abortPart slot
      let d := d.broadcast (d.mark (if commit then 3 else 4) slot epoch time)
      let owes := (d.salvoSt slot).owes
      let d := d.setSalvo slot (fun x => { x with owes := none })
      match owes with
      | some (session, seq, op) => d.answerLate session seq op St.OK
      | none => d

/-- SALVO_VOTE_DEADLINE (R86): TAKE_TIME − VOTE_LEAD_US without all votes. -/
def execSalvoVoteDeadline (dt slot : Nat) (s : State) : Host.Outcome State Fault Refusal :=
  s.act fun d => d.live dt fun d =>
    if d.voting slot ∧ d.leadOver slot (d.rd D.Xp.VOTE_LEAD_US 0 * 1000) then d.decideSalvo slot false St.TIMEOUT 0xFF 0xFFFF else d

/-- Does a decision marker belong to a slot's arming here (R88)? -/
def Dev.decisionFor (d : Dev) (block phase : Nat) : Bool :=
  Mark.ok block && Mark.phase block == phase && d.rd D.Salvo.EPOCH (Mark.slot block) == Mark.epoch block && !d.coordinates && !d.hostSalvo

/-- SALVO_COMMIT_RX (R86, R92, R93). -/
def execSalvoCommitRx (dt group block : Nat) (s : State) : Host.Outcome State Fault Refusal :=
  s.act fun d => d.live dt fun d =>
    let new := d.firstCopy group block
    let d := d.heardMark group block
    let sl := Mark.slot block
    let st := d.slotState sl
    if !new || !d.decisionFor block 3 then d
    else
      let d := d.repeatMark group block
      if st = PREPARED ∨ st = INDOUBT ∨ (st = PREPARING ∧ (d.salvoSt sl).part.isNone) then d.commitPart sl else d

/-- SALVO_ABORT_RX (R86, R92, R93). -/
def execSalvoAbortRx (dt group block : Nat) (s : State) : Host.Outcome State Fault Refusal :=
  s.act fun d => d.live dt fun d =>
    let new := d.firstCopy group block
    let d := d.heardMark group block
    let sl := Mark.slot block
    let st := d.slotState sl
    if !new || !d.decisionFor block 4 then d
    else
      let d := d.repeatMark group block
      if st = PREPARED ∨ st = INDOUBT ∨ st = PREPARING then d.abortPart sl else d

/-- The QUERY of a participant: over the mesh to its card's headstock, which coordinates or passes it over group 7 to the one that does. -/
def Dev.sendQuery (d : Dev) (s : Nat) : Dev :=
  let block := d.mark 5 s (d.rd D.Salvo.EPOCH s) (d.rd D.Salvo.TAKE_TIME s)
  let d := d.setSalvo s (fun x => { x with queryAt := d.wall })
  if d.on D.Straps.HEAD 0 then d.markTwin block else d.markTo 0 block

/-- SALVO_DECIDE_DEADLINE (R92, R95): TAKE_TIME − DECIDE_LEAD_US has come without a decision. -/
def execSalvoDecideDeadline (dt slot : Nat) (s : State) : Host.Outcome State Fault Refusal :=
  s.act fun d => d.live dt fun d =>
    let st := d.slotState slot
    if !d.leadOver slot 250000 then d
    else if d.hostSalvo then
      (if st = PREPARING ∨ st = PREPARED then (d.abortPart slot).slotResult slot St.TIMEOUT else d)
    else if st = PREPARED ∧ !d.coordinates then
      let d := ((d.slotTo slot INDOUBT).sat D.XpCount.INDOUBT_EVENTS 0 1).raise Src.XC_SALVO_INDOUBT slot
      (d.pendPart slot true).sendQuery slot
    else d

/-- SALVO_QUERY_TIMER (R92): every 1 ms while in doubt. -/
def execSalvoQueryTimer (dt slot : Nat) (s : State) : Host.Outcome State Fault Refusal :=
  s.act fun d => d.live dt fun d =>
    if d.slotState slot = INDOUBT ∧ d.past (d.salvoSt slot).queryAt 1000000 then d.sendQuery slot else d

/-- SALVO_QUERY_RX (R93): the coordinator answers from its log, ABORT where it holds no decision; a headstock that does not coordinate
answers what it decided itself while it did (R84), and passes any other QUERY of its card on to its twin. -/
def execSalvoQueryRx (dt group block : Nat) (s : State) : Host.Outcome State Fault Refusal :=
  s.act fun d => d.live dt fun d =>
    let new := d.firstCopy group block
    let d := d.heardMark group block
    if !new || !Mark.ok block || Mark.phase block != 5 || d.hostSalvo then d
    else
    let sl := Mark.slot block
    let r := (d.salvoSt sl).log.find? (fun e => e.1 == Mark.epoch block)
    if d.coordinates || (d.on D.Straps.HEAD 0 && r.isSome) then
      let phase := match r with | some e => if e.2.1 then 3 else 4 | none => 4
      let block' := d.mark phase sl (Mark.epoch block) (match r with | some e => e.2.2 | none => Mark.time block)
      d.sendMark group block'
    else if group ≠ 7 ∧ d.on D.Straps.HEAD 0 then d.markTwin block
    else d

/-- SALVO_TAKE_TIME_REACHED (R86): a committed slot of which this device holds no change. -/
def execSalvoTakeTimeReached (dt slot : Nat) (s : State) : Host.Outcome State Fault Refusal :=
  s.act fun d => d.live dt fun d =>
    if d.slotState slot = COMMITTED ∧ (d.salvoSt slot).part.isNone ∧ d.leadOver slot 0
        ∧ !d.xp.pend.any (fun p => match p.2.slot with | some x => x.1 == slot | none => false) then
      (d.slotTo slot APPLIED).wr D.Salvo.APPLIED_TIME slot (d.rd D.Salvo.TAKE_TIME slot)
    else d

end Sys2Proof.Machine
end

