-- ==== Sys2Proof/Machine/Time.lean ====
section
/-! DEFINITION. Device time: changeovers, the servo, the time outputs (R366 to R374, R383, R384, R402, R403). -/

namespace Sys2Proof.Machine

open Sys2Proof

namespace ServoState
def FREE_RUN : Nat := 0
def ACQUIRING : Nat := 1
def LOCKED : Nat := 2
def HOLDOVER : Nat := 3
def HOST : Nat := 4
end ServoState

/-- Change the time state. -/
def Dev.setTime (d : Dev) (f : TimeSt → TimeSt) : Dev := { d with time := f d.time }

/-- SERVO_STATE. -/
def Dev.servo (d : Dev) : Nat := d.rd D.Time.SERVO_STATE 0

/-- Enter a servo state; DEVICE_TIME as a reference follows it (R391). -/
def Dev.servoTo (d : Dev) (st : Nat) : Dev :=
  let keep (t : TimeSt) := if st = ServoState.FREE_RUN then t.slewAt else none
  ((d.wr D.Time.SERVO_STATE 0 st).setTime (fun t => { t with good := 0, bad := 0, slewAt := keep t, traced := t.traced || st == ServoState.LOCKED })).timeRef

/-- The time source of R402: 0 PTP, 1 1PPS, 2 beacons, 3 none. -/
def Dev.timeSource (d : Dev) : Nat :=
  if d.me ≠ 0 then 2
  else if d.on D.Ptp.PTP_ENABLE 0 then 0
  else if d.rd D.RefArea.TIME_PPS_REF 0 < 4 then 1 else 3

/-- The grandmaster identity the present samples come from: the PTP leader's, 0 for the other sources. -/
def Dev.gmNow (d : Dev) : Nat := if d.timeSource = 0 then d.rd D.PtpStatus.GM_IDENTITY 0 else 0

/-- ACQUIRING is entered; it is an acquisition from FREE_RUN, or where the grandmaster is not the last one locked to (R372). -/
def Dev.acquire (d : Dev) : Dev :=
  let a := d.servo == ServoState.FREE_RUN || d.gmNow != d.time.gmLocked
  (d.servoTo ServoState.ACQUIRING).setTime (fun t => { t with acquiring := a })

/-- Units of 2⁻⁵² in n ppb, rounded down. -/
def ppbUnits (n : Nat) : Nat := n * 2 ^ 52 / 1000000000

/-- Is a rate within MAX_RATE_PPM? -/
def Dev.rateOk (d : Dev) (r : Int) : Bool := decide (r.natAbs * 1000000 ≤ d.rd D.Time.MAX_RATE_PPM 0 * 2 ^ 52)

/-- A rate held to MAX_RATE_PPM and, from the present RATE, to MAX_SLOPE_PPB_S over a span (R372). -/
def Dev.rateToward (d : Dev) (span : Nat) (r : Int) : Int :=
  let m : Int := ppbUnits (d.rd D.Time.MAX_RATE_PPM 0 * 1000)
  let s : Int := d.rd D.Time.MAX_SLOPE_PPB_S 0 * span * 2 ^ 52 / 1000000000000000000
  let cur := d.rdI D.Time.RATE 0
  max (-m) (min m (max (cur - s) (min (cur + s) r)))

/-- Ask for a changeover (R368); one already asked for goes first, and the servo asks for none meanwhile. -/
def Dev.askChange (d : Dev) (step : Bool) (v : Int) (owes : Option (Nat × Nat × Nat)) : Dev :=
  match d.time.change with
  | some _ => d
  | none => d.setTime (fun t => { t with change := some ⟨step, v, d.wall, owes⟩ })

/-- The servo's loop asks for a rate. What a loop of bandwidth LOOP_BW_MHZ makes of the samples is not given: a free value, held to
the limits of R372. -/
def Dev.servoRate (d : Dev) : Dev :=
  let span := (sdiff d.raw (d.rd D.Time.RATE_EPOCH 0) 64).natAbs
  (d.askChange false (d.rateToward span (toInt 64 d.freeVal)) none).drawn

/-- SERVO_SAMPLE (R372, R373, R402): the servo takes the oldest sample of its time source. -/
def execServoSample (dt : Nat) (s : State) : Host.Outcome State Fault Refusal :=
  s.act fun d =>
    let d := d.elapse dt
    match d.time.samples with
    | [] => d
    | (src, off) :: rest =>
      let d := d.setTime (fun t => { t with samples := rest })
      if d.inReset ∨ src ≠ d.timeSource ∨ d.sec.restarting = some 4 then d
      else
        let d := (d.wrI D.Time.OFFSET_NS 0 off).setTime (fun t => { t with sampleAt := d.wall })
        let st := d.servo
        let lock := d.rd D.Time.LOCK_THRESHOLD_NS 0
        let pol := d.rd D.Time.STEP_POLICY 0
        if d.rd D.Time.MODE 0 = 1 then d
        else if st = ServoState.FREE_RUN ∨ st = ServoState.HOLDOVER then d.acquire
        else if st = ServoState.ACQUIRING then
          if d.rd D.Time.STEP_THRESHOLD_NS 0 < off.natAbs ∧ ((pol = 0 ∧ d.time.acquiring) ∨ pol = 1) then
            (d.askChange true (-off) none).setTime (fun t => { t with good := 0 })
          else
            let n := if off.natAbs ≤ lock then d.time.good + 1 else 0
            let d := (d.setTime (fun t => { t with good := n })).servoRate
            if 16 ≤ n then (d.servoTo ServoState.LOCKED).setTime (fun t => { t with gmLocked := d.gmNow }) else d
        else if st = ServoState.LOCKED then
          if 10 * lock < off.natAbs then
            let d := (d.sat D.PtpCounters.SAMPLES_REJECTED 0 1).setTime (fun t => { t with bad := t.bad + 1 })
            if 16 ≤ d.time.bad then
              let a := d.gmNow != d.time.gmLocked
              ((d.raise Src.TIM_LOCK_LOST 0).servoTo ServoState.ACQUIRING).setTime (fun t => { t with acquiring := a })
            else d
          else (d.setTime (fun t => { t with bad := 0 })).servoRate
        else d

/-- ACQUIRING or LOCKED goes to HOLDOVER (Table 13.2). -/
def Dev.servoHold (d : Dev) : Dev :=
  if d.servo = ServoState.ACQUIRING ∨ d.servo = ServoState.LOCKED then
    ((d.raise Src.TIM_HOLDOVER 0).servoTo ServoState.HOLDOVER).setTime (fun t => { t with holdAt := d.wall })
  else d

/-- Is the time reference disqualified (R402)? -/
def Dev.timeRefLost (d : Dev) : Bool :=
  match d.timeSource with
  | 0 => d.time.leader.isNone
  | 1 => !d.refQualified (d.rd D.RefArea.TIME_PPS_REF 0)
  | 2 => d.rd D.RefArea.FOLLOW_GROUP 0 == 0xFF
  | _ => true

/-- SERVO_SAMPLE_TIMEOUT (R372): no valid sample for 2 s, or the time reference is disqualified. -/
def execServoSampleTimeout (dt : Nat) (s : State) : Host.Outcome State Fault Refusal :=
  s.act fun d =>
    let d := d.elapse dt
    if d.inReset ∨ !(d.past d.time.sampleAt 2000000000 || d.timeRefLost) then d else d.servoHold

/-- SERVO_HOLDOVER_EXPIRY (R372, R403). -/
def execServoHoldoverExpiry (dt : Nat) (s : State) : Host.Outcome State Fault Refusal :=
  s.act fun d =>
    let d := d.elapse dt
    if d.inReset ∨ d.servo ≠ ServoState.HOLDOVER ∨ !d.past d.time.holdAt (d.rd D.RefArea.TIME_HOLDOVER_MAX_S 0 * 1000000000) then d
    else (d.setTime (fun t => { t with slewAt := some d.wall })).servoTo ServoState.FREE_RUN

/-! ## Changeovers -/

/-- A rate change at the present RAW (R368). -/
def Dev.setRate (d : Dev) (r : Int) : Dev :=
  let add := Int.fdiv (d.rdI D.Time.RATE 0 * sdiff d.raw (d.rd D.Time.RATE_EPOCH 0) 64) (2 ^ 52 : Nat)
  ((d.wr D.Time.OFFSET 0 (ofInt 64 ((d.rd D.Time.OFFSET 0 : Int) + add))).wr D.Time.RATE_EPOCH 0 d.raw).wrI D.Time.RATE 0 r

/-- What a step does to one merge: after a forward step the cells whose release time is passed are late; after a backward step a
number that is not given no longer fit the egress buffers, the newest first (R371). -/
def Dev.stepMerge (d : Dev) (c : Nat) (cur : Bool) (m : Merge) (fwd : Bool) : Dev :=
  if fwd then
    let late := m.slots.filter (fun t => t.kept.isSome && d.due c t.itime)
    (d.putMerge c cur { m with slots := m.slots.filter (fun t => !(t.kept.isSome && d.due c t.itime)) }).sat D.Flow.LATE c late.length
  else
    let n := d.freeVal % (m.slots.length + 1)
    ((d.putMerge c cur { m with slots := m.slots.take (m.slots.length - n) }).sat D.Flow.LATE c n).drawn

/-- R371: a step of s ns. -/
def Dev.stepTime (d : Dev) (v : Int) : Dev :=
  let before := match d.ring.stepped with | some x => x.1 | none => d.now
  let d := d.wr D.Time.OFFSET 0 (ofInt 64 ((d.rd D.Time.OFFSET 0 : Int) + v))
  -- the ring log's interval ends at the step (R531)
  let d := { d with ring := { d.ring with stepped := some (before, d.now) } }
  let d := ((d.add D.Time.STEPS 0 1).raise Src.TIM_STEP 0).event 6 (pack [(64, ofInt 64 v), (64, d.raw)])
  let d := d.each d.outputs (fun d c =>
    let d := match (d.flowSt c).cur with | some m => d.stepMerge c true m (decide (0 < v)) | none => d
    match (d.flowSt c).pend with | some m => d.stepMerge c false m (decide (0 < v)) | none => d)
  -- events already seen stand at their new device times; DPLLs that do not follow DEVICE_TIME keep their instants (R401)
  let d := { d with ref := d.ref.map (fun (e : Nat × RefSt) => (e.1, { e.2 with frameAt := e.2.frameAt.map (fun t => ofInt 64 ((t : Int) + v)) })) }
  let d := d.each (List.range 8) (fun d k => if d.rd D.DpllStatus.CURRENT k = refTime ∨ !(d.dpllSt k).everLocked then d
    else d.setDpll k (fun x => { x with phase := x.phase + v, base := x.base + v }))
  -- pulses: a forward step omits the edges it passes over, a backward step issues them again (R384)
  let now := d.now
  d.audioStep.setTime (fun t => { t with outs := t.outs.map (fun (o : Nat × PulseSt) =>
    (o.1, { o.2 with seen := now, from_ := if (o.2.from_ : Int) + v ≤ now then 0 else ((o.2.from_ : Int) + v).toNat })) })

/-- TIME_CHANGEOVER (R368): at least 1,024 ns after it was asked for, the change is applied, and a SERVO_CMD gets its OK. After the
holdover limit RATE is slewed to 0 (Table 13.2). An exchange that spans a changeover is discarded (R377). -/
def execTimeChangeover (dt : Nat) (s : State) : Host.Outcome State Fault Refusal :=
  s.act fun d =>
    let d := d.elapse dt
    if d.inCold then d
    else
    match d.time.change with
    | some c =>
      if !d.past c.at_ 1024 then d
      else
        let d := if c.step then d.stepTime c.value else d.setRate c.value
        let d := d.setTime (fun t => { t with change := none, sync := none, waiting := none, req := [], peer := [] })
        (match c.owes with
         | some (session, seq, op) => d.answerLate session seq op St.OK
         | none => d)
    | none =>
      match d.time.slewAt with
      | some t0 =>
        let r := d.rateToward (d.wall - t0) 0
        (d.setRate r).setTime (fun t => { t with slewAt := if r = 0 then none else some d.wall, sync := none, waiting := none, req := [], peer := [] })
      | none => d

/-- SERVO_CMD (R374, Table 13.8): KIND and VALUE. The response waits for the changeover. -/
def Dev.servoCmd (d : Dev) (session op v : Nat) : Dev × Nat :=
  let kind := bitsOf v 64 8
  let val := toInt 64 (bitsOf v 0 64)
  let seq := match d.session? session with | some x => (x.last + 1) % 2 ^ 32 | none => 0
  if d.rd D.Time.MODE 0 ≠ 1 then (d, St.STATE)
  else if kind ≠ 1 ∧ kind ≠ 2 ∧ kind ≠ 3 then (d, St.RANGE)
  else if d.time.change.isSome then (d, St.BUSY)
  else
    let r := if kind = 1 then d.rdI D.Time.RATE 0 else if kind = 2 then val else d.rdI D.Time.RATE 0 + val
    if !d.rateOk r then (d, St.RANGE)
    else (d.askChange (kind == 1) (if kind = 1 then val else r) (some (session, seq, op)), St.LATER)

/-- SERVO_CMD STEP (R374). -/
def execServoCmdStep (q : Rcp) (value : Int) (s : State) : Host.Outcome State Fault Refusal :=
  s.act (serveWrite (.servoCmdStep q.again value) q 0x0600 0x08 ⟨9, 1 * 2 ^ 64 + ofInt 64 value⟩ fun w d =>
    d.servoCmd w.session q.op (1 * 2 ^ 64 + ofInt 64 value))

/-- SERVO_CMD SET_RATE (R374). -/
def execServoCmdSetRate (q : Rcp) (value : Int) (s : State) : Host.Outcome State Fault Refusal :=
  s.act (serveWrite (.servoCmdSetRate q.again value) q 0x0600 0x08 ⟨9, 2 * 2 ^ 64 + ofInt 64 value⟩ fun w d =>
    d.servoCmd w.session q.op (2 * 2 ^ 64 + ofInt 64 value))

/-- SERVO_CMD ADD_RATE (R374). -/
def execServoCmdAddRate (q : Rcp) (value : Int) (s : State) : Host.Outcome State Fault Refusal :=
  s.act (serveWrite (.servoCmdAddRate q.again value) q 0x0600 0x08 ⟨9, 3 * 2 ^ 64 + ofInt 64 value⟩ fun w d =>
    d.servoCmd w.session q.op (3 * 2 ^ 64 + ofInt 64 value))

/-- The servo's state after MODE takes effect, or at the end of a POR or COLD reset (Table 13.2, R367). -/
def Dev.servoMode (d : Dev) : Dev :=
  if d.rd D.Time.MODE 0 = 1 then d.servoTo ServoState.HOST
  else if d.servo = ServoState.HOST then d.servoTo ServoState.FREE_RUN else d

/-! ## Time outputs (R383, R384) -/

/-- The last edge of a time output not after the present time: 0 PPS_OUT, 1 and 2 TIMEPULSE[0], TIMEPULSE[1]. -/
def Dev.lastEdge (d : Dev) (o : Nat) : Option Nat :=
  let t := d.now
  if o = 0 then
    let p := d.rd D.PpsCfg.PPS_PHASE_NS 0
    if t < p then none else some ((t - p) / 1000000000 * 1000000000 + p)
  else
    let k := o - 1
    let st := d.rd D.PulseCfg.START k
    let num := d.rd D.PulseCfg.PERIOD_NUM k
    let den := d.rd D.PulseCfg.PERIOD_DEN k
    if t < st ∨ num = 0 ∨ den = 0 then none
    else
      -- the largest n with ⌊n × num / den⌋ ≤ t − st
      some (st + ((t - st + 1) * den - 1) / num * num / den)

/-- Is a time output driven? -/
def Dev.pulseOn (d : Dev) (o : Nat) : Bool := if o = 0 then d.on D.PpsCfg.ENABLE 0 else d.on D.PulseCfg.ENABLE (o - 1)
/-- Is an output's pulse suppressed by SQUELCH now? -/
def Dev.squelched (d : Dev) (o : Nat) : Bool :=
  (if o = 0 then d.on D.PpsCfg.SQUELCH 0 else d.on D.PulseCfg.SQUELCH (o - 1))
    && d.servo != ServoState.LOCKED && d.servo != ServoState.HOLDOVER
/-- The width of an output's pulse in ns. -/
def Dev.pulseNs (d : Dev) (o : Nat) : Nat :=
  if o = 0 then (let w := d.rd D.PpsCfg.PPS_WIDTH_US 0; if w = 0 then 100000 else w * 1000) else d.rd D.PulseCfg.WIDTH_NS (o - 1)
/-- The level of an output's pin while its pulse is high or not. -/
def Dev.pulseLevel (d : Dev) (o : Nat) (high : Bool) : Nat :=
  if o = 0 then ofBool high else if d.on D.PulseCfg.POLARITY (o - 1) then ofBool (!high) else ofBool high

/-- TIME_OUTPUT_EDGE (R383, R384): an output's pulse ends, or an edge time of device time has come. -/
def execTimeOutputEdge (dt output : Nat) (s : State) : Host.Outcome State Fault Refusal :=
  s.act fun d => d.live dt fun d =>
    if 3 ≤ output then d
    else
      let x := nget d.time.outs {} output
      let put := fun (d : Dev) (y : PulseSt) => d.setTime (fun t => { t with outs := nput t.outs {} output y })
      let ended := match x.high with | some t => decide (t ≤ d.wall) | none => false
      let d := if ended then (put d { x with high := none }).emit (.pin output (d.pulseLevel output false)) else d
      let x := nget d.time.outs {} output
      match d.lastEdge output with
      | none => d
      | some e =>
        if e ≤ x.seen ∨ e < x.from_ ∨ d.pulseOn output = false ∨ x.high.isSome then d
        else if d.squelched output then put d { x with seen := d.now }
        else
          (put d { x with seen := d.now, high := some (d.wall + d.pulseNs output - (d.now - e)) }).emit (.pin output (d.pulseLevel output true))

/-- A committed change to an output's element: a pulse in progress finishes its width, and the new sequence begins at least 10 µs later (R384). The pin
rests at the inactive level that the element now gives. -/
def Dev.pulseCommit (d : Dev) (o : Nat) : Dev :=
  let now := d.now
  let x := nget d.time.outs {} o
  let rest := d.pulseLevel o false
  let d := if x.high.isNone ∧ x.rest ≠ rest then d.emit (.pin o rest) else d
  d.setTime (fun t => { t with outs := nput t.outs {} o { x with from_ := now + 10000, seen := now, rest := rest } })

end Sys2Proof.Machine
end

