-- ==== Sys2Proof/Machine/Dowel.lean ====
section
/-! DEFINITION. Dowel lanes and the ensemble: items and replay, markers, management frames, bring-up, the address chain, member
reports, time beacons (R197 to R228). -/

namespace Sys2Proof.Machine

open Sys2Proof

/-- An ordered set with a wrong CRC or a reserved field that is not 0 is dropped (R198). -/
def Dev.dropSet (d : Dev) (g : Nat) : Dev := d.sat D.GroupCounters.SETS_DROPPED g 1

/-- Something came from the twin. -/
def Dev.heardTwin (d : Dev) (g : Nat) : Dev := if g = 7 then { d with twin := { d.twin with heardAt := d.wall } } else d

/-! ## Items and replay (R199, R200, R202, R206 to R209) -/

/-- The next slot to deliver; at a round's end a change of A that names that round takes effect. -/
def DwlGroupSt.rxAdvance (x : DwlGroupSt) : DwlGroupSt :=
  if x.rxRank + 1 < x.rxActive then { x with rxRank := x.rxRank + 1 }
  else
    let r := (x.rxRound + 1) % 65536
    match x.rxNext with
    | some (n, a) => if n = r then { x with rxRank := 0, rxRound := r, rxActive := a, rxNext := none, gone := [] } else { x with rxRank := 0, rxRound := r }
    | none => { x with rxRank := 0, rxRound := r }

/-- The cell that 284 data characters hold, with its replay tag (Tables 07.2, 07.3): bytes 20 and 21 are restored as 0. -/
def cellOf (g lane chars : Nat) : Cell :=
  ⟨bitsOf chars 2112 160 * 2 ^ 32 + bitsOf chars 2096 16, bitsOf chars 48 2048, bitsOf chars 16 32,
    lane * 2 ^ 28 + g * 2 ^ 25 + chars % 65536⟩

/-- Is an item a management frame? -/
def isMgmt (chars : Nat) : Bool := bitsOf chars 2264 8 == 0xF0

/-- Are an item's CRCs right: HCRC and CRC-32C of a cell, CRC-32C of a management frame (R201, R206)? -/
def itemOk (chars : Nat) : Bool :=
  if isMgmt chars then bitsOf chars 16 32 == crc32c (bytesOf 278 (chars / 2 ^ 48)) else (cellOf 0 0 chars).crcOk

/-- R202: items are delivered in ascending order, a lost one passed over. -/
def Dev.deliver (d : Dev) (g : Nat) : Nat → Dev
  | 0 => d
  | k + 1 =>
    let x := d.dg g
    match x.held.find? (fun i => i.1 == x.rxRank && i.2.1 == x.rxRound) with
    | some i =>
      let d := d.setDg g (fun y => { y with held := y.held.filter (fun j => !(j.1 == i.1 && j.2.1 == i.2.1)) }.rxAdvance)
      let d := match i.2.2 with
        | none => d
        | some (lane, chars) =>
          if isMgmt chars then (d.emit (.deliveredFrame g chars)).sat D.GroupCounters.MGMT_RX g 1
          else (d.emit (.deliveredCell g (cellOf g lane chars))).sat D.GroupCounters.CELLS_RX g 1
      d.deliver g k
    | none =>
      if x.held ≠ [] ∧ x.gone.any (fun r => r.1 == x.rxRank && decide (0 ≤ sdiff x.rxRound r.2 16)) then
        (d.setDg g DwlGroupSt.rxAdvance).deliver g k
      else d

/-- A replay is asked for on the reverse lane, three times; the 16th request within 1 ms fails the lane (R206, R209). -/
def Dev.askReplay (d : Dev) (e : Nat) : Dev :=
  let l := e % 9
  let c := d.rd D.DwlLane.LCOUNT_RX e
  let d := (d.sendRequest e l c).sat D.DwlLaneCounters.REPLAY_REQ_SENT e 1
  let recent := (d.dl e).reqs.filter (fun t => decide (d.wall < t + 1000000)) ++ [d.wall]
  let d := d.setDl e (fun x => { x with await := true, peek := none, reqs := recent })
  if 16 ≤ recent.length ∧ d.laneState e = LaneState.IN_ROTATION then d.laneFail e else d

/-- The rank a lane has from a round on takes effect there (R241). -/
def Dev.takeRank (d : Dev) (e count : Nat) : Dev :=
  match (d.dl e).rxNext with
  | some (r, k) => if count = r then d.setDl e (fun x => { x with rxRank := k, rxNext := none }) else d
  | none => d

/-- A swap that waited for a lane's replay goes on (R246). -/
def Dev.afterReplay (d : Dev) (e : Nat) : Dev :=
  let d := d.setDl e (fun x => { x with await := false })
  if !(d.dl e).swap then d
  else
    let d := d.setDl e (fun x => { x with swap := false })
    match d.readySpare (e / 9) with
    | some sp => if d.laneState e = LaneState.IN_ROTATION then d.swapOut e sp else d
    | none => d

/-- Does a lane that awaits a replay ask again (R206)? It does for a corrupt item, and where the LCOUNTs have gone back without the expected
one: the replay has passed it. Items that follow the one asked for are discarded and no more. -/
def DwlLaneSt.asksAgain (x : DwlLaneSt) (corrupt : Bool) (count : Nat) : Bool :=
  corrupt || (match x.peek with | some p => decide (sdiff count p 16 ≤ 0) | none => false)

/-- DWL_ITEM_RX (R197, R199, R200, R202, R203, R206, R208): an item ends on a lane. `chars` are its 284 data characters, `ending` how
it ended (0 K29.7, 1 K30.7, 2 neither within 285 characters), `cv` and `disparity` the errors inside the item and those since the item
before it, `skips` the K28.0 characters deleted or repeated. -/
def execDwlItemRx (dt group lane chars ending : Nat) (cv disparity : Nat × Nat) (skips : Nat) (s : State) : Host.Outcome State Fault Refusal :=
  s.act fun d => d.lanesRun dt fun d =>
    let e := 9 * group + lane
    if 8 ≤ group ∨ 9 ≤ lane then d
    else
      let d := (d.sat D.DwlLaneCounters.CODE_VIOLATIONS e (cv.1 + cv.2)).sat D.DwlLaneCounters.DISPARITY_ERRORS e (disparity.1 + disparity.2)
      let d := (d.sat D.DwlLaneCounters.SKIPS_ADJUSTED e skips).setDl e (fun x =>
        { x with errs := x.errs + cv.1 + cv.2 + disparity.1 + disparity.2 })
      let d := d.heardTwin group
      let c := d.rd D.DwlLane.LCOUNT_RX e
      let d := d.takeRank e c
      if 15 ≤ (d.dl e).rxRank ∨ ending = 1 then d
      else
        let whole := ending == 0 && itemOk chars
        let d := if ending = 0 ∧ whole = false then d.sat D.DwlLaneCounters.CRC_ERRORS e 1 else d
        let corrupt := !whole || cv.1 != 0 || disparity.1 != 0
        let x := d.dl e
        if corrupt ∨ chars % 65536 ≠ c then
          (if x.await ∧ x.asksAgain corrupt (chars % 65536) = false then d.setDl e (fun x => { x with peek := some (chars % 65536) })
           else d.askReplay e)
        else
          let rank := x.rxRank
          let d := d.wr D.DwlLane.LCOUNT_RX e (c + 1)
          let d := d.setDg group (fun x => { x with held := x.held ++ [(rank, c, some (lane, chars))] })
          let d := if x.await then d.afterReplay e else d
          d.deliver group (16 * ((d.dg group).held.length + 1))

/-- The items of a lane's replay buffer from a count on, oldest first; none where that item is no longer there. -/
def replayFrom (l : List (Nat × Nat)) (c : Nat) : Option (List (Nat × Nat)) :=
  if l.any (fun i => i.1 == c) then some (l.filter (fun i => decide (0 ≤ sdiff i.1 c 16))).reverse else none

/-- Does a lane serve a replay from a count: is one of its items still to leave, or on its way? -/
def DwlLaneSt.serves (x : DwlLaneSt) (c wall : Nat) : Bool :=
  match x.serving with
  | some y => y.1 == c && (decide (wall < y.2) || x.due.any (fun s => s.rank == 1))
  | none => false

/-- DWL_REPLAY_REQ_RX (R198, R207, R243): a replay request on a lane. One that names another lane says that lane has failed. -/
def execDwlReplayReqRx (dt group lane block : Nat) (s : State) : Host.Outcome State Fault Refusal :=
  s.act fun d => d.lanesRun dt fun d =>
    let a := 9 * group + lane
    let n := 9 * group + ReplayReq.lane block
    let c := ReplayReq.count block
    if 8 ≤ group ∨ 9 ≤ lane then d
    else if !ReplayReq.ok block ∨ 8 < ReplayReq.lane block then d.dropSet group
    else
      let d := (d.sat D.DwlLaneCounters.REPLAY_REQ_RECEIVED a 1).heardTwin group
      let busy := (d.dl a).serves c d.wall
      if busy then d
      else
        let buf := (d.dl n).sent
        let moved := n != a && (d.rotation group).contains (n % 9) && d.laneState a == LaneState.SPARE_PRBS
        let d := if moved then
            let d := (d.rotate group (putIn (d.rotation group) (n % 9) lane) true (some c)).swapped n a
            (d.laneTo n LaneState.FAILED LaneUse.FAILED).setDl n (fun x => { sent := x.sent, spare := x.spare, rxRank := x.rxRank })
          else d
        let items := if c = (d.dg group).txRound ∧ (buf.all fun i => i.1 != c) then some [] else replayFrom buf c
        match items with
        | some l =>
          -- the item in progress ends at once (R207)
          let p := d.laneClock
          let d := if p < (d.dl a).free then (d.emit (.orderedSet group lane Sym.ABORT 0)).setDl a (fun x => { x with free := p + charsFor 1 })
            else d
          let d := if n = a then d else d.setDl a (fun x => { x with sent := buf })
          let d := (d.sat D.GroupCounters.REPLAYS group 1).setDl a (fun x => { x with serving := some (c, d.wall + 1) })
          d.sendSets a (l.map (fun i => .replay i.1 i.2))
        | none =>
          let ls := d.rotation group
          (d.sat D.GroupCounters.REPLAYS_FAILED group 1).sendMarker group lane (ls.takeWhile (fun y => y != lane)).length
            (d.rd D.DwlLane.LCOUNT_TX a) ls.length

/-- DWL_LANE_MARKER_RX (R198, R202, R209, R241, R242): a lane takes another rank, leaves the rotation, or names its next item in
place of a replay. -/
def execDwlLaneMarkerRx (dt group lane block : Nat) (s : State) : Host.Outcome State Fault Refusal :=
  s.act fun d => d.lanesRun dt fun d =>
    let e := 9 * group + lane
    let r := LaneMark.rank block
    let n := LaneMark.next block
    let act := LaneMark.active block
    if 8 ≤ group ∨ 9 ≤ lane then d
    else if !LaneMark.ok block ∨ LaneMark.lane block ≠ lane ∨ (8 ≤ r ∧ r ≠ 15) ∨ 8 < act then d.dropSet group
    else
      let d := d.heardTwin group
      let x := d.dl e
      if r = x.rxRank ∧ x.rxNext = some (n, 15) then
        -- the peer has given up a swap of this lane (R246): so does this end
        let d := d.setDl e (fun y => { y with rxNext := none })
        let spare := (lanesOf group).find? (fun y => (d.swapOnto y).any (fun z => z.2 == lane))
        match spare.bind (fun y => (d.swapOnto y).map (fun z => (y, z.1))) with
        | some (y, k) => (d.laneTo y LaneState.SPARE_PRBS LaneUse.SPARE_READY).setDl y (fun z => { z with spare := true, rxRank := 15, rxNext := none })
            |>.abandonSwap group lane k
        | none => d
      else if r = x.rxRank ∨ x.rxNext = some (n, r) then
        if x.await ∧ n ≠ d.rd D.DwlLane.LCOUNT_RX e then
          let c := d.rd D.DwlLane.LCOUNT_RX e
          let lost := (List.range ((n + 65536 - c) % 65536)).map (fun i => (x.rxRank, (c + i) % 65536, (none : Option (Nat × Nat))))
          let d := (d.setDg group (fun y => { y with held := y.held ++ lost })).wr D.DwlLane.LCOUNT_RX e n
          let d := (d.setDl e (fun y => { y with await := false })).raise Src.DWL_REPLAY_LOST (phyOf e)
          let d := d.deliver group (16 * ((d.dg group).held.length + 1))
          if d.laneState e = LaneState.IN_ROTATION then d.laneFail e else d
        else d
      else
        let at_ := d.rd D.DwlLane.LCOUNT_RX e
        let d := if x.rxRank = 15 then (d.setDl e (fun y => { y with rxRank := r, rxNext := none })).wr D.DwlLane.LCOUNT_RX e n
          else if at_ = n then d.setDl e (fun y => { y with rxRank := r, rxNext := none })
          else d.setDl e (fun y => { y with rxNext := some (n, r) })
        let g := d.dg group
        let d := if g.rxActive = 0 then d.setDg group (fun y => { y with rxActive := max 1 act, rxRound := n, rxRank := 0 })
          else if act ≠ g.rxActive ∧ 0 < act then d.setDg group (fun y => { y with rxNext := some (n, act) }) else d
        -- the peer has given this lane's rank to the spare: this end makes the same swap on its own transmit direction
        if r = 15 ∧ d.laneState e = LaneState.IN_ROTATION then
          match (lanesOf group).find? (fun y => y != e && (d.dl y).rxRank == x.rxRank && d.laneState y == LaneState.SPARE_PRBS) with
          | some sp => d.swapOut e sp
          | none => d
        else d

/-! ## Management frames (R201) -/

namespace Mgmt
def cls (v : Nat) : Nat := bitsOf v 2256 8
def id (v : Nat) : Nat := bitsOf v 2240 16
def last (v : Nat) : Bool := bit v 2239
def seg (v : Nat) : Nat := bitsOf v 2224 15
def len (v : Nat) : Nat := bitsOf v 2208 16
/-- The valid payload bytes. -/
def payload (v : Nat) : Bytes := ⟨len v, bitsOf v 48 2160 / 256 ^ (270 - len v)⟩
end Mgmt

/-- The twin's roles have been swapped at the other card (R120; the message is a DESIGN CHOICE): this card takes the role that is left. -/
def Dev.roleTold (d : Dev) (p : Bytes) : Dev :=
  if d.rd D.Twin.STATE 0 = 4 ∧ p.len = 1 then d.wr D.Twin.ROLE 0 (1 - p.at_ 0 % 2) else d

/-- A message has all its segments. Salvo parts, path plans and a swap of the twins' roles act here; the other classes act by the commands
of their own rows. -/
def Dev.message (d : Dev) (g cls id : Nat) (p : Bytes) : Dev :=
  let d := d.emit (.assembled g cls id p)
  if cls = 0x04 then d.partMessageIn g p
  else if cls = 0x0A then d.planIn p
  else if cls = 0x06 ∧ g = 7 then d.roleTold p
  else d

/-- DWL_MGMT_FRAME_RX (R201): a segment is added to its message; the last completes it. -/
def execDwlMgmtFrameRx (dt group chars : Nat) (s : State) : Host.Outcome State Fault Refusal :=
  s.act fun d => d.lanesRun dt fun d =>
    if 8 ≤ group ∨ !d.groupUp group ∨ !isMgmt chars ∨ Mgmt.len chars = 0 ∨ 270 < Mgmt.len chars then d
    else
      let d := d.heardTwin group
      let id := Mgmt.id chars
      let ms := (d.dg group).msgs
      let m : OpenMsg := (ms.find? (fun m => m.id == id)).getD ⟨id, Mgmt.cls chars, 0, ⟨0, 0⟩, d.wall⟩
      let rest := ms.filter (fun m => m.id != id)
      if m.next ≠ Mgmt.seg chars then d
      else
        let m : OpenMsg := { m with next := m.next + 1, data := m.data.app (Mgmt.payload chars) }
        if Mgmt.last chars then (d.setDg group (fun x => { x with msgs := rest })).message group m.cls id m.data
        else d.setDg group (fun x => { x with msgs := rest ++ [m] })

/-- DWL_MSG_TIMEOUT (R201): messages without all their segments 10 ms after the first are discarded. -/
def execDwlMsgTimeout (dt : Nat) (s : State) : Host.Outcome State Fault Refusal :=
  s.act fun d => d.lanesRun dt fun d =>
    d.each (List.range 8) (fun d g =>
      let late := (d.dg g).msgs.filter (fun m => d.past m.since 10000000)
      if late.isEmpty then d
      else (d.setDg g (fun x => { x with msgs := x.msgs.filter (fun m => !d.past m.since 10000000) })).sat D.Ens.MSG_DROPPED 0 late.length)

/-! ## Bring-up (R210 to R216) -/

namespace Train
def kind (v : Nat) : Nat := bitsOf v 124 4
def step (v : Nat) : Nat := bitsOf v 121 3
def member (v : Nat) : Nat := bitsOf v 118 3
def card (v : Nat) : Nat := bitsOf v 117 1
def group (v : Nat) : Nat := bitsOf v 114 3
def lane (v : Nat) : Nat := bitsOf v 110 4
def size (v : Nat) : Nat := bitsOf v 106 4
def maxStep (v : Nat) : Nat := bitsOf v 102 4
def digest (v : Nat) : Nat := bitsOf v 64 32
/-- R198: the CRC is right, KIND is known and the reserved fields are 0. -/
def ok (v : Nat) : Bool :=
  bitsOf v 0 16 == crc16 (bytesOf 14 (v / 65536)) && decide (kind v ≤ 4) && bitsOf v 96 6 == 0 && bitsOf v 16 32 == 0
end Train

/-- A group is wired to what it does not expect (R215): its lanes stay at S0. From UP, its rotation falls to no lane first (R216). -/
def Dev.miswired (d : Dev) (g : Nat) : Dev :=
  let st := d.rd D.GroupStatus.STATE g
  if st = GroupState.MISWIRED then d
  else
    let d := if st = GroupState.UP then (d.showRotation g []).groupDown g else d
    let d := d.each (lanesOf g) (fun d e => if d.laneState e = LaneState.FAILED then d else d.laneStart e)
    (d.raise Src.DWL_MISWIRED g).groupState g GroupState.MISWIRED

/-- DWL_TRAINING_BLOCK_RX (R198, R210, R212 to R215, R234). `inverted` says that K28.5 arrived with the other polarity. -/
def execDwlTrainingBlockRx (dt group lane block : Nat) (inverted : Bool) (s : State) : Host.Outcome State Fault Refusal :=
  s.act fun d => d.lanesRun dt fun d =>
    let e := 9 * group + lane
    let st := if group < 8 then d.rd D.GroupStatus.STATE group else 0
    if 9 ≤ lane ∨ (st ≠ GroupState.TRAINING ∧ st ≠ GroupState.UP) then d
    else if !Train.ok block then d.dropSet group
    else
      let d := if d.laneState e = LaneState.FAILED ∧ !(d.dl e).dead then d.laneStart e else d
      if d.laneState e ≠ LaneState.TRAINING then d
      else
        let want := d.expectedPeer group
        let same := want == some (Train.member block, Train.card block, Train.group block) && Train.lane block == lane
          && Train.size block == d.ensSize && Train.digest block == d.frameDigest
        if same = false then (d.miswired group).setDl e (fun x => { x with refuse := true })
        else if Train.kind block = Block.REFUSE then d.miswired group
        else
          let x := d.dl e
          let d := if x.step = 0 then d.flag D.LaneStatus.RX_INVERTED (phyOf e) inverted else d
          let k := Train.kind block
          let d := (d.flag D.LaneStatus.SIGNAL_DETECT (phyOf e) true).flag D.DwlLane.PEER_HOLD e (k == Block.HOLD)
          let up := Train.step block == x.step + 1
          d.setDl e (fun x => { x with peerMax := Train.maxStep block, offerRx := x.offerRx || (k == Block.OFFER && up),
                                       acceptRx := x.acceptRx || (k == Block.ACCEPT && up) })

/-- DWL_STEP_DWELL_END (R210, R212, R213): the dwell of a lane's step has ended with this many errors, within the limit. One that ends later
than the lock limit and the dwell allow began too late: the lane did not lock in time. -/
def execDwlStepDwellEnd (dt group lane errors : Nat) (s : State) : Host.Outcome State Fault Refusal :=
  s.act fun d => d.lanesRun dt fun d =>
    let e := 9 * group + lane
    if 8 ≤ group ∨ 9 ≤ lane ∨ d.laneState e ≠ LaneState.TRAINING then d
    else
      let x := d.dl e
      let row := stepRow x.step
      if x.dwelt ∨ d.wall < x.since + row.2.1 ∨ row.2.2 < errors ∨ d.restarts 2 = true then d
      else if x.since + lockLimit x.step + row.2.1 < d.wall then d.stepFailed e
      else
        let d := (d.setDl e (fun x => { x with dwelt := true, dwellErrs := errors })).wr D.DwlLane.STEP e x.step
        let d := ((d.flag D.LaneStatus.CDR_LOCKED (phyOf e) true).flag D.LaneStatus.ADAPTED (phyOf e) true)
        if x.step = 4 then d.laneComplete e else d

/-- DWL_STEP_FAILURE (R213, R245): a lane exceeds its step's error limit with this many filler errors in the dwell, or (none) is not locked at
its lock limit. -/
def execDwlStepFailure (dt group : Nat) (lane : Nat × Option Nat) (s : State) : Host.Outcome State Fault Refusal :=
  s.act fun d => d.lanesRun dt fun d =>
    let e := 9 * group + lane.1
    let x := d.dl e
    if 8 ≤ group ∨ 9 ≤ lane.1 ∨ d.laneState e ≠ LaneState.TRAINING ∨ x.dwelt = true then d
    else match lane.2 with
      | some n => if n ≤ (stepRow x.step).2.2 then d else (d.setDl e (fun x => { x with dwellErrs := n })).stepFailed e
      | none => if d.past x.since (lockLimit x.step) then d.stepFailed e else d

/-- GROUP_MISWIRED_RETRY (R216). -/
def execGroupMiswiredRetry (dt group : Nat) (s : State) : Host.Outcome State Fault Refusal :=
  s.act fun d => d.lanesRun dt fun d =>
    if 8 ≤ group ∨ d.rd D.GroupStatus.STATE group ≠ GroupState.MISWIRED ∨ !d.past (d.dg group).since 1000000000 then d
    else d.groupTrain group

/-! ## The address chain (R217 to R219) -/

namespace Chain
def position (v : Nat) : Nat := bitsOf v 76 4
def size (v : Nat) : Nat := bitsOf v 72 4
def geo (v : Nat) : Nat := bitsOf v 67 5
def digest (v : Nat) : Nat := bitsOf v 32 32
def ok (v : Nat) : Bool := bitsOf v 0 16 == crc16 (bytesOf 8 (v / 65536)) && bitsOf v 64 3 == 0
def values (v : Nat) : Nat × Nat × Nat × Nat := (position v, size v, geo v, digest v)
/-- A frame as a device sends it. -/
def build (p size geo digest fseq : Nat) : Nat :=
  let v := p * 2 ^ 60 + size * 2 ^ 56 + geo * 2 ^ 51 + digest * 2 ^ 16 + fseq % 65536
  v * 65536 + crc16 (bytesOf 8 v)
end Chain

/-- GEO[4:0] as the device sampled it. -/
def Dev.geo (d : Dev) : Nat := d.rd D.Ens.GEO 0

/-- The headstock takes position 0 and is member 0 (R217, R218). -/
def Dev.headChain (d : Dev) : Dev :=
  if !d.on D.Straps.HEAD 0 then d
  else
    let n := d.rd D.Ens.ENSEMBLE_SIZE 0
    let d := d.setDwl (fun x => { x with size := n, taken := some (0, n, d.geo, d.frameDigest) })
    (((d.wr D.Ens.POSITION 0 0).wr D.Ens.MEMBER 0 0).wr D.Ens.TAILSTOCK 0 (ofBool (n == 1))).groupsCheck.ensUpdate

/-- R217, R218: a position is taken from three frames that agree. -/
def Dev.takePosition (d : Dev) (v : Nat × Nat × Nat × Nat) : Dev :=
  let p := v.1 + 1
  let n := v.2.1
  if 15 < p then d
  else
    let member := decide (p < n) && v.2.2.1 == d.geo && v.2.2.2 == d.frameDigest
    let d := d.setDwl (fun x => { x with size := n, taken := some v })
    let d := ((d.wr D.Ens.POSITION 0 p).wr D.Ens.ENSEMBLE_SIZE 0 n).wr D.Ens.TAILSTOCK 0 (ofBool (p + 1 == n))
    let d := d.wr D.Ens.MEMBER 0 (if member then p else 0xFF)
    (if member then d else d.raise Src.DWL_CHAIN_MISMATCH 0).groupsCheck.ensUpdate

/-- CHAIN_FRAME_TX (R217, R499): every 100 µs; through a WARM the last frame is repeated. -/
def execChainFrameTx (dt : Nat) (s : State) : Host.Outcome State Fault Refusal :=
  s.act fun d =>
    let d := d.elapse dt
    let due := match d.dwl.chainTx with | some t => d.past t 100000 | none => true
    if !due ∨ d.inCold then d
    else if d.inReset ∨ d.stage < 5 then
      (if d.dwl.lastFrame = 0 then d else (d.emit (.chain d.dwl.lastFrame)).setDwl (fun x => { x with chainTx := some d.wall }))
    else
      match d.dwl.taken with
      | none => d
      | some v =>
        let head := d.on D.Straps.HEAD 0
        let f := Chain.build (d.rd D.Ens.POSITION 0) (if head then d.rd D.Ens.ENSEMBLE_SIZE 0 else v.2.1) v.2.2.1 v.2.2.2 d.dwl.fseq
        (d.emit (.chain f)).setDwl (fun x => { x with fseq := (x.fseq + 1) % 65536, chainTx := some d.wall, lastFrame := f })

/-- CHAIN_FRAME_RX (R217 to R219). The headstock ignores CHN_IN. -/
def execChainFrameRx (dt frame : Nat) (s : State) : Host.Outcome State Fault Refusal :=
  s.act fun d => d.lanesRun dt fun d =>
    if d.on D.Straps.HEAD 0 ∨ !Chain.ok frame then d
    else
      let v := Chain.values frame
      let d := d.setDwl (fun x => { x with chainAt := d.wall, chainLost := false })
      match d.dwl.taken with
      | some t => if t = v then d else d.raise Src.DWL_CHAIN_MISMATCH 0
      | none =>
        let n := match d.dwl.seen with | some (w, k) => if w = v then k + 1 else 1 | none => 1
        let d := d.setDwl (fun x => { x with seen := some (v, n) })
        if n < 3 then d else d.takePosition v

/-- CHAIN_LOST (R219). -/
def execChainLost (dt : Nat) (s : State) : Host.Outcome State Fault Refusal :=
  s.act fun d => d.lanesRun dt fun d =>
    if d.on D.Straps.HEAD 0 ∨ d.dwl.taken.isNone ∨ d.dwl.chainLost ∨ !d.past d.dwl.chainAt 1000000 then d
    else (d.setDwl (fun x => { x with chainLost := true })).raise Src.DWL_CHAIN_LOST 0

/-! ## Member reports (R220) -/

/-- MEMBER_REPORT_TX: the tailstock's report is one byte, the chain length. -/
def execMemberReportTx (dt : Nat) (s : State) : Host.Outcome State Fault Refusal :=
  s.act fun d => d.lanesRun dt fun d =>
    let due := match d.dwl.reportAt with | some t => d.past t 1000000000 | none => true
    if d.rd D.Ens.TAILSTOCK 0 = 0 ∨ d.rd D.Ens.MEMBER 0 = 0xFF ∨ d.me = 0 ∨ !due then d
    else match d.groupTo 0 with
      | none => d
      | some g => (d.sendMsg g 0x09 ⟨1, d.rd D.Ens.POSITION 0 + 1⟩).setDwl (fun x => { x with reportAt := some d.wall })

/-- MEMBER_REPORT_RX. -/
def execMemberReportRx (dt group length : Nat) (s : State) : Host.Outcome State Fault Refusal :=
  s.act fun d => d.lanesRun dt fun d =>
    if !d.on D.Straps.HEAD 0 ∨ 7 ≤ group ∨ !d.groupUp group then d
    else ((d.wr D.Ens.CHAIN_LENGTH 0 length).setDwl (fun x => { x with reported := true })).ensUpdate

/-- CHAIN_SHORT_TIMEOUT. -/
def execChainShortTimeout (dt : Nat) (s : State) : Host.Outcome State Fault Refusal :=
  s.act fun d => d.lanesRun dt fun d =>
    match d.dwl.upAt with
    | none => d
    | some t =>
      if !d.on D.Straps.HEAD 0 ∨ d.dwl.reported ∨ d.dwl.short ∨ !d.past t 2000000000 then d
      else (d.setDwl (fun x => { x with short := true })).raise Src.DWL_CHAIN_SHORT 0

/-! ## Time beacons (R226 to R228) -/

/-- TIME_STATE of a beacon (R403). -/
def Dev.timeState (d : Dev) : Nat :=
  let st := d.servo
  if st = ServoState.HOLDOVER then 1
  else if st = ServoState.ACQUIRING ∨ st = ServoState.LOCKED then
    (match d.timeSource with | 0 => 2 | 1 => 3 | 2 => 4 | _ => 0)
  else if st = ServoState.HOST ∧ d.on D.Ptp.PTP_ENABLE 0 ∧ d.rd D.PtpStatus.PORT_STATE 0 = 3 then 2
  else 0

namespace Beacon
def bseq (v : Nat) : Nat := bitsOf v 176 16
def echo (v : Nat) : Nat := bitsOf v 160 16
def card (v : Nat) : Nat := bitsOf v 159 1
def member (v : Nat) : Nat := bitsOf v 156 3
def faultValid (v : Nat) : Bool := bit v 151
def faultSource (v : Nat) : Nat := bitsOf v 142 9
def txTime (v : Nat) : Nat := bitsOf v 64 64
def echoRx (v : Nat) : Nat := bitsOf v 16 48
def ok (v : Nat) : Bool := bitsOf v 0 16 == crc16 (bytesOf 22 (v / 65536)) && bitsOf v 128 14 == 0
end Beacon

/-- What a beacon carries beside TX_TIME and its CRC (Table 07.13). -/
def Dev.beacon (d : Dev) (g : Nat) : Nat :=
  let x := d.dg g
  let fv := d.rd D.FirstError.VALID 0
  x.bseq % 65536 * 2 ^ 160 + x.echo.1 % 65536 * 2 ^ 144 + d.rd D.Straps.PLANE_B 0 * 2 ^ 143 + d.me * 2 ^ 140 + d.timeState * 2 ^ 136
    + fv * 2 ^ 135 + (if fv = 1 then d.rd D.FirstError.SOURCE 0 else 0) * 2 ^ 126 + x.echo.2 % 2 ^ 48

/-- BEACON_TX (R226): every 8,000 ns on the rank-0 lane of a group that is UP. -/
def execBeaconTx (dt group : Nat) (s : State) : Host.Outcome State Fault Refusal :=
  s.act fun d => d.lanesRun dt fun d =>
    let x := d.dg group
    let due := match x.beaconTx with | some t => d.past t 8000 | none => true
    if 8 ≤ group ∨ !d.groupUp group ∨ !due then d
    else
      let v := d.beacon group
      -- what the groups have left is told where it has changed since the last time
      let d := d.report
      (d.setDg group (fun x => { x with bseq := (x.bseq + 1) % 65536, beaconTx := some d.wall })).sendSets
        (9 * group + x.lanes.headD 0) [.beacon v]

/-- BEACON_RX (R125, R198, R227, R402, R403, R488). -/
def execBeaconRx (dt group block : Nat) (s : State) : Host.Outcome State Fault Refusal :=
  s.act fun d => d.lanesRun dt fun d =>
    if 8 ≤ group ∨ !d.groupUp group then d
    else if !Beacon.ok block then d.dropSet group
    else
      let d := (d.sat D.GroupCounters.BEACONS_RX group 1).heardTwin group
      let t4 := d.now
      let d := d.setDg group (fun x => { x with beaconRx := d.wall, echo := (Beacon.bseq block, t4) })
      let d := (d.flag D.GroupStatus.BEACON_OK group true).followGroup
      let d := match (d.dg group).beacons.find? (fun b => b.1 == Beacon.echo block) with
        | none => d
        | some (_, t1) =>
          let delay := Int.tdiv (sdiff t4 t1 48 - sdiff (Beacon.txTime block) (Beacon.echoRx block) 48) 2
          let offset := sdiff (Beacon.txTime block) t4 48 + delay
          let d := (d.wrI D.GroupStatus.LINK_DELAY_NS group delay).wrI D.GroupStatus.PEER_OFFSET_NS group offset
          let d := if group = 7 then d.wrI D.Twin.TIME_SKEW_NS 0 offset else d
          if d.rd D.RefArea.FOLLOW_GROUP 0 = group then d.setTime (fun t => { t with samples := t.samples ++ [(2, -offset)] }) else d
      let m := Beacon.member block
      let t := t4 - d.rd D.GroupStatus.LINK_DELAY_NS group
      let turn := decide (d.ensSize ≤ 4) || (if m < 4 then t / 8000 % 2 == 0 else t / 8000 % 2 == 1)
      if group < 7 ∧ Beacon.faultValid block ∧ turn then d.summarySee m (Beacon.faultSource block) t else d

/-- BEACON_LOST (R228): no valid beacon for 4 periods. -/
def execBeaconLost (dt group : Nat) (s : State) : Host.Outcome State Fault Refusal :=
  s.act fun d => d.lanesRun dt fun d =>
    if 8 ≤ group ∨ !d.on D.GroupStatus.BEACON_OK group ∨ !d.past (d.dg group).beaconRx 32000 then d
    else
      let d := (d.flag D.GroupStatus.BEACON_OK group false).sat D.GroupCounters.BEACONS_LOST group 1
      if d.rd D.RefArea.FOLLOW_GROUP 0 = group then
        let d := (d.raise Src.DWL_BEACON_LOST group).followGroup
        if d.rd D.RefArea.FOLLOW_GROUP 0 = 0xFF then d.servoHold else d
      else d

end Sys2Proof.Machine
end

