-- ==== Sys2Proof/Machine/Ptp.lean ====
section
/-! DEFINITION. The PTP follower and the transparent clock (R375 to R382). -/

namespace Sys2Proof.Machine

open Sys2Proof

/-- ASYM_PS of a port in 2⁻¹⁶ ns. -/
def Dev.asym (d : Dev) (p : Nat) : Int := psUnits (d.rdI D.TsCorr.ASYM_PS p)

/-- The multicast address of PTP: 224.0.1.129, or FF0E::181 where the interface has no IPv4 address (R375). -/
def Dev.ptpGroup (d : Dev) (iface : Nat) : Nat :=
  if d.rd D.IfCfg.IPV4_ADDR iface ≠ 0 then 0xFFFFE0000181 else 0xFF0E * 2 ^ 112 + 0x181

/-- Is a PTP message an event message, which uses UDP port 319 (others 320)? -/
def ptpPort (kind : Nat) : Nat := if kind < 8 then 319 else 320

/-- A PTP message leaves an interface of a port that is UP, with the interface's own MAC address and VLAN. -/
def Dev.ptpOut (d : Dev) (iface : Nat) (m : PtpOut) : Dev :=
  let p := iface / 8
  match d.ifVlan p (iface % 8) with
  | some v => if d.portUp p then (d.emit (.ptp p (iface % 8) { m with srcMac := portMac p, vlan := v })).sat D.PortCounters.TX_FRAMES p 1 else d
  | none => d

/-- The follower's instance sends a message of its own. -/
def Dev.ptpSend (d : Dev) (iface dst kind domain seq : Nat) (corr : Int) : Dev :=
  d.ptpOut iface ⟨0, 0, d.sourceAddr iface dst, dst, ptpPort kind, ptpPort kind, kind, domain, seq, corr, 0, Bytes.none, false⟩

/-- Does the instance listen on an interface? -/
def Dev.ptpOn (d : Dev) (iface : Nat) : Bool :=
  d.on D.Ptp.PTP_ENABLE 0 && iface != 0xFF && (d.rd D.Ptp.IF_A 0 == iface || d.rd D.Ptp.IF_B 0 == iface)

/-! ## The leader (R376) -/

/-- What the best master clock algorithm compares, in order (PRESUMED: IEEE 1588-2019's order); a leader reached on both
interfaces is followed on IF_A. -/
def Leader.rank (l : Leader) (onB : Bool) : List Nat :=
  [l.ann.priority1, l.ann.gmClass, l.ann.accuracy, l.ann.variance, l.ann.priority2, l.ann.gm, l.ann.stepsRemoved, l.ann.sender,
   l.ann.senderPort, ofBool onB]

/-- Lexicographic order. -/
def ranks : List Nat → List Nat → Bool
  | [], _ => false
  | _, [] => false
  | a :: s, b :: t => decide (a < b) || (a == b && ranks s t)

/-- The best qualified leader. -/
def Dev.bestLeader (d : Dev) : Option Leader :=
  let a := d.rd D.Ptp.IF_A 0
  (d.time.leaders.filter (fun l => l.qualified)).foldl (fun best l =>
    match best with
    | none => some l
    | some b => if ranks (l.rank (l.iface != a)) (b.rank (b.iface != a)) then some l else some b) none

/-- PTP_STATUS follows the leader's Announce (Table 13.6, R378). -/
def Dev.showLeader (d : Dev) (l : Leader) : Dev :=
  let a := l.ann
  let d := (d.flag D.PtpStatus.ON_IF_B 0 (l.iface != d.rd D.Ptp.IF_A 0)).flag D.PtpStatus.UTC_VALID 0 a.utcValid
  let d := ((d.flag D.PtpStatus.LEAP61 0 a.leap61).flag D.PtpStatus.LEAP59 0 a.leap59).flag D.PtpStatus.TIME_TRACEABLE 0 a.traceable
  let d := ((d.wr D.PtpStatus.GM_CLASS 0 a.gmClass).wr D.PtpStatus.STEPS_REMOVED 0 a.stepsRemoved).wr D.PtpStatus.GM_IDENTITY 0 a.gm
  let d := (d.wr D.PtpStatus.PARENT_IDENTITY 0 a.sender).wr D.PtpStatus.PARENT_PORT 0 a.senderPort
  let d := d.setTime (fun t => { t with utc := if a.utcValid then some (a.utcOffset % 256) else none })
  let day := (d.now / 1000000000 - d.utcOffset) / 86400
  d.setTime (fun t => { t with leapDay := if a.leap61 || a.leap59 then some (t.leapDay.getD day) else none })

/-- The follower follows the best leader; a change of grandmaster identity is counted. Without a leader the time reference is
disqualified (R402). -/
def Dev.selectLeader (d : Dev) : Dev :=
  match d.bestLeader with
  | none =>
    if d.time.leader.isNone then d
    else
      let d := d.setTime (fun t => { t with leader := none, utc := none, leapDay := none, sync := none, waiting := none })
      let d := (d.wr D.PtpStatus.PORT_STATE 0 1).flag D.PtpStatus.UTC_VALID 0 false
      if d.timeSource = 0 then d.servoHold else d
  | some l =>
    let id := (l.iface, l.ann.sender, l.ann.senderPort)
    let old := d.rd D.PtpStatus.GM_IDENTITY 0
    let d := if old ≠ 0 ∧ old ≠ l.ann.gm then (d.sat D.PtpCounters.GM_CHANGES 0 1).raise Src.TIM_GM_CHANGE 0 else d
    let d := if d.time.leader = some id then d
      else (d.wr D.PtpStatus.PORT_STATE 0 2).setTime (fun t => { t with leader := some id, sync := none, waiting := none })
    d.showLeader l

/-- The Announce interval of a leader in ns. -/
def annNs (log : Int) : Nat := if 0 ≤ log then 1000000000 * 2 ^ log.toNat else 1000000000 / 2 ^ (-log).toNat

/-- PTP_ANNOUNCE_RX (R376): a leader is qualified after two Announce messages within four of its intervals, and the best master
clock algorithm selects. -/
def execPtpAnnounceRx (dt iface : Nat) (ann : Announce) (s : State) : Host.Outcome State Fault Refusal :=
  s.act fun d => d.live dt fun d =>
    if !d.ptpOn iface ∨ ann.domain ≠ d.rd D.Ptp.DOMAIN 0 then d
    else
      let d := d.sat D.PtpCounters.ANNOUNCE_RX 0 1
      let same := fun (l : Leader) => l.iface == iface && l.ann.sender == ann.sender && l.ann.senderPort == ann.senderPort
      let old := d.time.leaders.find? same
      let times := ((match old with | some l => l.times | none => []).filter (fun t => decide (d.wall ≤ t + 4 * annNs ann.logInterval))) ++ [d.wall]
      let q := (match old with | some l => l.qualified | none => false) || decide (2 ≤ times.length)
      (d.setTime (fun t => { t with leaders := t.leaders.filter (fun l => !same l) ++ [⟨iface, ann, times, q⟩] })).selectLeader

/-- PTP_LEADER_LOST (R376): ANNOUNCE_TIMEOUT intervals without an Announce. -/
def execPtpLeaderLost (dt iface sender port : Nat) (s : State) : Host.Outcome State Fault Refusal :=
  s.act fun d => d.live dt fun d =>
    let same := fun (l : Leader) => l.iface == iface && l.ann.sender == sender && l.ann.senderPort == port
    match d.time.leaders.find? same with
    | none => d
    | some l =>
      let last := l.times.foldl max 0
      if !d.past last (d.rd D.Ptp.ANNOUNCE_TIMEOUT 0 * annNs l.ann.logInterval) then d
      else
        let d := d.setTime (fun t => { t with leaders := t.leaders.filter (fun l => !same l) })
        (if l.qualified then d.sat D.PtpCounters.LEADER_LOSSES 0 1 else d).selectLeader

/-- The follower's part of a commit: it listens once enabled, and forgets leaders its settings no longer admit. -/
def Dev.ptpCommit (d : Dev) : Dev :=
  let d := d.setTime (fun t => { t with leaders := t.leaders.filter (fun l => d.ptpOn l.iface && l.ann.domain == d.rd D.Ptp.DOMAIN 0) })
  let d := d.selectLeader
  if d.on D.Ptp.PTP_ENABLE 0 then (if d.rd D.PtpStatus.PORT_STATE 0 = 0 then d.wr D.PtpStatus.PORT_STATE 0 1 else d)
  else d.wr D.PtpStatus.PORT_STATE 0 0

/-! ## Exchanges (R377, R380) -/

/-- Is an interface in the transparent clock's set (0x0620.02)? -/
def Dev.tcIface (d : Dev) (iface : Nat) : Bool := decide (iface < 256) && bit (d.rd D.Tc.TC_PORTS 0) iface

/-- PTP_DELAY_REQ_TX (R377): a Delay_Req on the followed interface, or with the peer mechanism a Pdelay_Req there and on each
interface of a peer-to-peer transparent clock. The interval is drawn between 0 and twice 2^LOG_DELAY_REQ s. -/
def execPtpDelayReqTx (dt iface : Nat) (s : State) : Host.Outcome State Fault Refusal :=
  s.act fun d => d.live dt fun d =>
    let p2p := d.rd D.Ptp.DELAY_MECH 0 == 1
    let followed := match d.time.leader with | some l => l.1 == iface | none => false
    let peer := (d.on D.Ptp.PTP_ENABLE 0 && p2p && followed)
      || (d.on D.Tc.TC_ENABLE 0 && d.rd D.Tc.TC_MECH 0 == 1 && d.tcIface iface)
    if !(peer || (d.on D.Ptp.PTP_ENABLE 0 && followed)) ∨ d.portUp (iface / 8) = false then d
    else
      let seq := (d.time.reqSeq + 1) % 65536
      let t3 := d.txStamp (iface / 8)
      let d := d.setTime (fun t => { t with reqSeq := seq, reqAt := d.wall, req := Assoc.insertAt natLt (Assoc.erase t.req iface) iface (seq, t3),
                                            peer := Assoc.erase t.peer iface })
      -- the request goes to the multicast address, or to the leader's own (R377)
      let leader := (d.time.leaders.find? (fun l => d.time.leader == some (l.iface, l.ann.sender, l.ann.senderPort))).map (fun l => l.ann.addr)
      let dst := if !peer && d.on D.Ptp.DELAY_UNICAST 0 then leader.getD (d.ptpGroup iface) else d.ptpGroup iface
      let domain := if d.on D.Ptp.PTP_ENABLE 0 && followed then d.rd D.Ptp.DOMAIN 0 else d.rd D.Tc.TC_DOMAIN 0
      (d.ptpSend iface dst (if peer then 2 else 1) domain seq 0).sat D.PtpCounters.DELAY_REQ_TX 0 1

/-- A completed exchange gives a sample (R377): T1 to T4 as Table 13.10 shows them, and the offset. `link` is the link delay of the
peer mechanism. -/
def Dev.ptpSample (d : Dev) (iface : Nat) (t3 t4 : Int) (link : Option Int) : Dev :=
  match d.time.sync with
  | none => d
  | some (seq, t1, t2) =>
    let mean := match link with
      | some l => l
      | none => Int.fdiv ((t2 - t1) + (t4 - t3)) 2
    let off := t2 - t1 - d.asym (iface / 8) - mean
    let last := match link with | some l => wholeNs l | none => wholeNs t4
    let rec_ := ((((seq % 65536) * 2 ^ 48 * 2 ^ 64 + ofInt 64 (wholeNs t1)) * 2 ^ 64 + ofInt 64 (wholeNs t2)) * 2 ^ 64 + ofInt 64 (wholeNs t3)) * 2 ^ 64
      + ofInt 64 last
    let d := (d.wr D.Ptp.PTP_SAMPLE 0 rec_).sat D.PtpCounters.SAMPLES 0 1
    let d := (d.wr D.PtpStatus.MEAN_PATH_NS 0 (min 65535 (wholeNs mean).toNat)).wr D.PtpStatus.PORT_STATE 0 3
    d.setTime (fun t => { t with samples := t.samples ++ [(0, wholeNs off)] })

/-- The link delay of an interface has been measured (R377). -/
def Dev.linkDelay (d : Dev) (iface : Nat) (t3 t4 : Int) (l : Int) : Dev :=
  let followed := match d.time.leader with | some x => x.1 == iface | none => false
  let d := (d.wr D.Tc.MEAN_LINK_DELAY (iface / 8) (wholeNs l).toNat).sat D.PtpCounters.DELAY_RESP_RX 0 1
  let d := d.setTime (fun t => { t with req := Assoc.erase t.req iface, peer := Assoc.erase t.peer iface })
  if followed && d.rd D.Ptp.DELAY_MECH 0 == 1 then d.ptpSample iface t3 t4 (some l) else d

/-- PTP_EVENT_RX (R377, R380): a PTP event or follow-up message. -/
def execPtpEventRx (dt iface : Nat) (m : PtpMsg) (s : State) : Host.Outcome State Fault Refusal :=
  s.act fun d => d.live dt fun d =>
    let p := iface / 8
    let rx := d.rxStamp p
    let t := (m.time : Int) * 65536
    let inst := d.ptpOn iface && m.domain == d.rd D.Ptp.DOMAIN 0
    let mine := inst && d.time.leader == some (iface, m.sender, m.senderPort)
    let peerDom := inst || (d.on D.Tc.TC_ENABLE 0 && d.tcIface iface && m.domain == d.rd D.Tc.TC_DOMAIN 0)
    if 256 ≤ iface then d
    else if m.kind = 0 then
      if !mine then d
      else
        let d := d.sat D.PtpCounters.SYNC_RX 0 1
        if m.twoStep then d.setTime (fun x => { x with waiting := some (m.seq, rx, m.corr) })
        else d.setTime (fun x => { x with sync := some (m.seq, t + m.corr, rx) })
    else if m.kind = 8 then
      if !mine then d
      else
        (match d.time.waiting with
         | some (seq, t2, c) =>
           if seq = m.seq then d.setTime (fun x => { x with waiting := none, sync := some (seq, t + c + m.corr, t2) }) else d
         | none => d)
    else if m.kind = 9 then
      (match Assoc.find d.time.req iface with
       | some (seq, t3) =>
         if mine && m.mine && seq == m.seq && d.rd D.Ptp.DELAY_MECH 0 == 0 then
           ((d.sat D.PtpCounters.DELAY_RESP_RX 0 1).setTime (fun x => { x with req := Assoc.erase x.req iface })).ptpSample iface t3 (t - m.corr) none
         else d
       | none => d)
    else if m.kind = 2 then
      -- answered by a one-step Pdelay_Resp whose correction is the turnaround
      if d.tcIface iface && peerDom && (d.rd D.Ptp.DELAY_MECH 0 == 1 || d.rd D.Tc.TC_MECH 0 == 1) then
        d.ptpSend iface (d.ptpGroup iface) 3 m.domain m.seq (m.corr + (d.txStamp p - rx))
      else d
    else if m.kind = 3 then
      (match Assoc.find d.time.req iface with
       | some (seq, t3) =>
         if peerDom && m.mine && seq == m.seq then
           if m.twoStep then d.setTime (fun x => { x with peer := Assoc.insertAt natLt (Assoc.erase x.peer iface) iface (seq, t - m.corr, rx) })
           else d.linkDelay iface t3 rx (Int.fdiv (rx - t3 - m.corr) 2)
         else d
       | none => d)
    else if m.kind = 10 then
      (match Assoc.find d.time.req iface, Assoc.find d.time.peer iface with
       | some (seq, t3), some (seq', t2, t4) =>
         if peerDom && m.mine && seq == m.seq && seq' == m.seq then d.linkDelay iface t3 t4 (Int.fdiv ((t4 - t3) - (t + m.corr - t2)) 2) else d
       | _, _ => d)
    else d

/-! ## The transparent clock (R381, R382) -/

/-- How a relayed message of a type is treated (Table 13.3): none not relayed, some false unchanged, some true corrected. -/
def tcTreats (kind mech : Nat) : Option Bool :=
  if kind = 0 then some true
  else if kind = 1 then (if mech = 0 then some true else none)
  else if kind = 2 ∨ kind = 3 ∨ kind = 10 then (if mech = 0 then some true else none)
  else if kind = 9 then (if mech = 0 then some false else none)
  else if kind = 8 ∨ kind = 11 ∨ kind = 12 ∨ kind = 13 then some false
  else none

/-- The last two bytes of a UDP payload over IPv6 whose correctionField changes from a to b: the checksum, a ones' complement sum of 16-bit
words, stays valid (R382). -/
def fixTail (a b : Int) (body : Bytes) : Bytes :=
  let words (x : Int) : Nat := sumOf (fun i => ofInt 64 x / 65536 ^ i % 65536) (List.range 4)
  ⟨body.len, body.val / 65536 * 65536 + (body.val % 65536 + words a + 4 * 65535 - words b) % 65535⟩

/-- A relayed message with its new correctionField: over IPv4 the UDP checksum is set to 0, over IPv6 the payload's last two bytes make up for
it (R382). -/
def relayed (kind domain seq : Nat) (corr c : Int) (m : TcMsg) : PtpOut :=
  let v4 := isV4 m.src
  ⟨0, 0, m.src, m.dst, m.udpSrc, m.udpDst, kind, domain, seq, c, 0, if v4 || c == corr then m.body else fixTail corr c m.body, v4⟩

/-- TC_RELAY (R381, R382): a PTP message that arrived on an interface at device time `rx` leaves on every other transparent-clock
interface, its correction increased by the residence time, and for a Sync of the peer mechanism by the link delay. -/
def execTcRelay (dt iface kind domain seq rx : Nat) (corr : Int) (msg : TcMsg) (s : State) : Host.Outcome State Fault Refusal :=
  s.act fun d => d.live dt fun d =>
    let mech := d.rd D.Tc.TC_MECH 0
    if !d.on D.Tc.TC_ENABLE 0 ∨ !d.tcIface iface ∨ domain ≠ d.rd D.Tc.TC_DOMAIN 0 ∨ msg.sumOk = false then d
    else
    match tcTreats kind mech with
    | none => d
    | some fix =>
      let stay := sdiff d.now rx 64
      if stay < 0 then d
      else if 10000 < stay then d.sat D.Tc.TC_DROPPED 0 1
      else
        let link : Int := if kind = 0 ∧ mech = 1 then (d.rd D.Tc.MEAN_LINK_DELAY (iface / 8) : Int) * 65536 + d.asym (iface / 8) else 0
        -- residence: transmit stamp minus receive stamp, with the delays of the two ports (R379)
        let c := fun (i : Nat) => if fix then corr + stay * 65536 - psUnits (d.rdI D.TsCorr.TX_DELAY_PS (i / 8)) - psUnits (d.rdI D.TsCorr.RX_DELAY_PS (iface / 8)) + link
          else corr
        (d.each ((List.range 256).filter (fun i => i != iface && d.tcIface i)) (fun e i =>
          e.ptpOut i (relayed kind domain seq corr (c i) msg))).sat D.Tc.TC_RELAYED 0 1

/-- LEAP_SECOND (R378): at the end of the UTC day on which the leader announces a leap second, the time of day takes it up. Device
time is not stepped. -/
def execLeapSecond (dt : Nat) (s : State) : Host.Outcome State Fault Refusal :=
  s.act fun d => d.live dt fun d =>
    match d.time.leapDay with
    | none => d
    | some day =>
      let ins := d.on D.PtpStatus.LEAP61 0
      let secs := d.now / 1000000000 - d.utcOffset + (if ins then 0 else 1)
      if secs / 86400 ≤ day then d
      else
        let off := if ins then d.utcOffset + 1 else d.utcOffset - 1
        ((d.flag D.PtpStatus.LEAP61 0 false).flag D.PtpStatus.LEAP59 0 false).setTime (fun t => { t with utc := some off, leapDay := none })

end Sys2Proof.Machine
end

