-- ==== Sys2Proof/Machine/Tile.lean ====
section
/-! DEFINITION. The tile commands: failure and substitution, TILE_CMD, BIST, and the events of the frame synchronisers (R297 to
R300, R310 to R312). -/

namespace Sys2Proof.Machine

open Sys2Proof

/-- TILE_FAIL (R310 to R312): the physical tile of a logical tile fails. A spare takes its place where AUTO_SPARE is 1; with none
free, a higher-numbered tile that is still substituting gives its spare up. -/
def execTileFail (dt phys : Nat) (s : State) : Host.Outcome State Fault Refusal :=
  s.act fun d => d.live dt fun d =>
    if 68 ≤ phys ∨ d.rd D.TileMapEl.STATE phys ≠ PhysTile.ACTIVE then d
    else
      let t := d.rd D.TileMapEl.LOGICAL phys
      let d := d.tileFailed phys
      let auto := d.on D.Tiles.AUTO_SPARE 0
      let retired := fun (d : Dev) => d.knotAdd KnotKind.TILE KnotAct.RETIRED phys knotNone Src.PT_NO_SPARE 0
      if auto = false then (retired d).tileGone t false
      else
        match d.tileSpare with
        | some p => (d.knotAdd KnotKind.TILE KnotAct.SPARE_IN phys p Src.PT_SPARE_IN 0).tileTakeSpare t p
        | none =>
          match (List.range 64).reverse.find? (fun u => decide (t < u) && d.on D.TileStatus.SUBSTITUTING u) with
          | some u =>
            let p := d.rd D.Tile.PHYS_TILE u
            ((d.knotAdd KnotKind.TILE KnotAct.SPARE_IN phys p Src.PT_SPARE_IN 0).tileGone u true).tileTakeSpare t p
          | none => (retired d).tileGone t true

/-- TILE_SUBSTITUTION_DONE (R311): the outputs resume with SOF; their sequence numbering continues. -/
def execTileSubstitutionDone (dt tile : Nat) (s : State) : Host.Outcome State Fault Refusal :=
  s.act fun d => d.live dt fun d =>
    if 64 ≤ tile ∨ !d.on D.TileStatus.SUBSTITUTING tile then d
    else
      let d := d.flag D.TileStatus.SUBSTITUTING tile false
      let d := d.tileFrameStart tile
      d.each (d.tileOuts tile) (fun d c => d.setFlow c (fun x => { x with base := if x.begun then some (d.rd D.Flow.SEQ_NEXT c) else x.base }))

/-- A TILE_CMD (Tables 10.7, 10.13). -/
def Dev.tileCmd (d : Dev) (v : Nat) : Dev × Nat :=
  let cmd := bitsOf v 24 8
  let n := bitsOf v 0 7
  if bitsOf v 7 17 ≠ 0 ∨ cmd = 0 ∨ 3 < cmd ∨ (if cmd = 1 then 64 ≤ n else 68 ≤ n) then (d, St.RANGE)
  else if cmd = 1 then
    match d.physOf n with
    | none => (d, St.STATE)
    | some p =>
      match d.tileSpare with
      | none => (d, St.RESOURCE)
      | some q => ((d.wr D.TileMapEl.STATE p PhysTile.TESTING).tileTakeSpare n q, St.OK)
  else if cmd = 2 then
    if d.rd D.TileMapEl.STATE n ≠ PhysTile.FAILED then (d, St.STATE)
    else ({ d.wr D.TileMapEl.STATE n PhysTile.TESTING with tileRestore := d.tileRestore ++ [n] }, St.OK)
  else if d.rd D.TileMapEl.STATE n ≠ PhysTile.SPARE then (d, St.STATE)
  else (d.wr D.TileMapEl.STATE n PhysTile.TESTING, St.OK)

/-- TILE_CMD SUBSTITUTE (R310). -/
def execTileCmdSubstitute (q : Rcp) (tile : Nat) (s : State) : Host.Outcome State Fault Refusal :=
  let v := 1 * 2 ^ 24 + tile % 128
  s.act (serveWrite (.tileCmdSubstitute q.again tile) q 0x0F00 0x08 ⟨4, v⟩ fun _ d => d.tileCmd v)

/-- TILE_CMD RESTORE (R310). -/
def execTileCmdRestore (q : Rcp) (phys : Nat) (s : State) : Host.Outcome State Fault Refusal :=
  let v := 2 * 2 ^ 24 + phys % 128
  s.act (serveWrite (.tileCmdRestore q.again phys) q 0x0F00 0x08 ⟨4, v⟩ fun _ d => d.tileCmd v)

/-- TILE_CMD TEST (R310). -/
def execTileCmdTest (q : Rcp) (phys : Nat) (s : State) : Host.Outcome State Fault Refusal :=
  let v := 3 * 2 ^ 24 + phys % 128
  s.act (serveWrite (.tileCmdTest q.again phys) q 0x0F00 0x08 ⟨4, v⟩ fun _ d => d.tileCmd v)

/-- TILE_BIST_DONE (Table 10.7): a tile in TESTING becomes SPARE or FAILED; one that RESTORE tests and that passes loses its knot
entry. -/
def execTileBistDone (dt phys : Nat) (pass : Bool) (s : State) : Host.Outcome State Fault Refusal :=
  s.act fun d => d.live dt fun d =>
    if 68 ≤ phys ∨ d.rd D.TileMapEl.STATE phys ≠ PhysTile.TESTING then d
    else
      let restore := d.tileRestore.contains phys
      let d := { d with tileRestore := d.tileRestore.filter (fun x => x != phys) }
      if pass then
        let d := d.wr D.TileMapEl.STATE phys PhysTile.SPARE
        if restore then d.knotAdd KnotKind.TILE KnotAct.RESTORED phys knotNone knotCommand 0 else d
      else d.tileFailed phys

/-- What the frame read carries (R298): the packets of the frame that lies DELAY_FRAMES before the newest; without its audio packets where it is
repeated; nothing where BLACK takes its place (R299). -/
def Dev.readAnc (d : Dev) (t : Nat) (b : Bool) (f : Nat) (again black : Bool) : Dev :=
  let delay := if d.fsShort t b then 0 else d.fsDelay t b
  d.setFs t b (fun x =>
    let y := if again then x.shown else x.frames.getD delay {}
    { x with shown := if black then {} else if again then { y with spaces := y.spaces.map (Sdi.noAudio f) } else y })

/-- FS_OUTPUT_FRAME (R296 to R300, R308): a frame synchroniser's output frame starts. It reads the frame that lies DELAY_FRAMES
before the newest complete one, repeating or dropping frames, and its SWITCH_POINT cell takes the time of the next frame
reference plus PHASE_NS. `lost` lines read poisoned or late. -/
def execFsOutputFrame (dt tile : Nat) (chanB : Bool) (lost : Nat) (s : State) : Host.Outcome State Fault Refusal :=
  s.act fun d => d.live dt fun d =>
    match d.tileOut tile (if chanB then 2 else 0) with
    | none => d
    | some c =>
      if 64 ≤ tile ∨ !d.fsOn tile chanB ∨ !d.running c ∨ d.on D.TileStatus.UNAVAILABLE tile ∨ d.on D.TileStatus.SUBSTITUTING tile then d
      else
        let d := if chanB then d else d.tileFrameStart tile
        let x := d.fsSt tile chanB
        let done := x.done2 / 2
        let n := done - x.seen
        let short := d.fsShort tile chanB
        let cut := if short ∧ !x.short then d.fsDelay tile chanB else 0
        let idle := d.fsUnbacked tile chanB || x.waits || done == 0 || (x.lossy && d.fsLoss tile chanB != 0)
        let reps := if !idle ∧ n = 0 then 1 else 0
        let drops := (if idle then 0 else n - 1) + cut
        let now := d.now
        let t := d.nextRef (d.fsDpll tile chanB) (Fmt.fps (d.format c)) now + d.fsPhase tile chanB
        let d := d.setFs tile chanB (fun x => { x with seen := done, short := short, target := some (t % 2 ^ 48), readAt := now })
        let d := d.readAnc tile chanB (d.format c) (reps == 1) (x.lossy && d.fsLoss tile chanB == 1)
        let d := if chanB then (d.sat D.Tile.REPEATS_B tile reps).sat D.Tile.DROPS_B tile drops
          else (d.sat D.Tile.REPEATS_A tile reps).sat D.Tile.DROPS_A tile drops
        d.sat D.Tile.LOST_LINES tile (if idle then 0 else lost)

/-- FS_INPUT_LOSS (R299, R302): for one input frame period the input has delivered no cell. The frame synchroniser acts by LOSS; a
channel without one emits nothing. -/
def execFsInputLoss (dt tile : Nat) (chanB : Bool) (s : State) : Host.Outcome State Fault Refusal :=
  s.act fun d => d.live dt fun d =>
    match d.tileIn tile (if chanB then 2 else 0) with
    | none => d
    | some c =>
      let x := d.fsSt tile chanB
      if 64 ≤ tile ∨ !d.running c ∨ x.lossy ∨ !d.past x.inAt (Fmt.periodNs (d.format c)) then d
      else
        let d := (d.setFs tile chanB (fun x => { x with lossy := true, whole := false })).flag D.TileStatus.FS_LOCKED tile false
        if d.tileSilent tile chanB then
          match d.tileOut tile (if chanB then 2 else 0) with
          | some o => (d.flag D.FlowStatus.SOURCE_LOST o true).flag D.FlowStatus.EMITTING o false
          | none => d
        else d

end Sys2Proof.Machine
end

