-- ==== Sys2Proof/Machine/Twin.lean ====
section
/-! DEFINITION. Twins: pairing, reconciliation, the state copy, loss, roles, signatures and leg anchors (R118 to R125). -/

namespace Sys2Proof.Machine

open Sys2Proof

namespace TwinState
def UNPAIRED : Nat := 0
def PAIRING : Nat := 1
def RECONCILE : Nat := 2
def RESYNC : Nat := 3
def PAIRED : Nat := 4
def LOST : Nat := 5
end TwinState

/-- STATE of the pair. -/
def Dev.twinState (d : Dev) : Nat := d.rd D.Twin.STATE 0

/-- Change what the pair holds. -/
def Dev.setTwin (d : Dev) (f : TwinSt → TwinSt) : Dev := { d with twin := f d.twin }

/-- The pair enters a state. UNPAIRED and LOST read ROLE ACTIVE (R120), and every leg keeps its own numbering (R124). -/
def Dev.twinTo (d : Dev) (st : Nat) : Dev :=
  let d := (d.wr D.Twin.STATE 0 st).setTwin (fun x => { x with since := d.wall })
  if st = TwinState.UNPAIRED ∨ st = TwinState.LOST then
    let d := (d.wr D.Twin.ROLE 0 0).setTwin (fun x => { x with sigs := [], theirs := [] })
    d.each (d.listed D.Leg.LEG_STATUS 4096) (fun d n =>
      ((d.flag D.LegStatus.ANCHORED n false).flag D.LegStatus.TWIN_SENDING n false).setNetTx (4096 + n) (fun x => { x with step := 0, twin := none }))
  else d

/-- ENABLE committed as 0 (Table 04.8). -/
def Dev.twinCommit (d : Dev) : Dev :=
  if d.on D.Twin.ENABLE 0 ∨ d.twinState = TwinState.UNPAIRED then d else d.twinTo TwinState.UNPAIRED

/-! ## Pairing (R118 to R120) -/

/-- The pairing block (Table 04.7), 48 bytes. -/
def Dev.pairBlock (d : Dev) : Nat :=
  let flags := d.rd D.Straps.PLANE_B 0 * 128 + ofBool d.twin.resetSince * 64 + ofBool (d.on D.Twin.ENABLE 0) * 32
  let ident := Config.shake256 ⟨1952, Config.identityPublic⟩ % 2 ^ 256 / 2 ^ 128
  let v := 0x5457494E * 2 ^ 320 + 1 * 2 ^ 304 + d.me * 2 ^ 296 + flags * 2 ^ 288 + d.ensSize * 2 ^ 280 + d.frameDigest * 2 ^ 224
    + d.rd D.XpCount.RECORD_GENERATION 0 * 2 ^ 160 + ident * 2 ^ 32
  v * 2 ^ 32 + crc32c (bytesOf 44 v)

namespace PairBlock
def magic (v : Nat) : Nat := bitsOf v 352 32
def layout (v : Nat) : Nat := bitsOf v 336 16
def member (v : Nat) : Nat := bitsOf v 328 8
def planeB (v : Nat) : Nat := bitsOf v 327 1
def resetSince (v : Nat) : Bool := bit v 326
def enable (v : Nat) : Bool := bit v 325
def size (v : Nat) : Nat := bitsOf v 312 8
def digest (v : Nat) : Nat := bitsOf v 256 32
def identity (v : Nat) : Nat := bitsOf v 64 128
def crcOk (v : Nat) : Bool := bitsOf v 0 32 == crc32c (bytesOf 44 (v / 2 ^ 32))
end PairBlock

/-- A pairing block is sent over group 7. -/
def Dev.sendPairing (d : Dev) : Dev :=
  ((d.sendMsg 7 0x01 ⟨48, d.pairBlock⟩).setTwin (fun x => { x with sentAt := some d.wall })).twinTo TwinState.PAIRING

/-- May a pairing block be sent: group 7 is UP, ENABLE is 1? -/
def Dev.mayPair (d : Dev) : Bool := d.groupUp 7 && d.on D.Twin.ENABLE 0

/-- TWIN_PAIRING_SEND (R118): at once when group 7 comes up, and every 1 s until the pair is made. -/
def execTwinPairingSend (dt : Nat) (s : State) : Host.Outcome State Fault Refusal :=
  s.act fun d => d.lanesRun dt fun d =>
    let st := d.twinState
    let due := match d.twin.sentAt with | some t => d.past t 1000000000 | none => true
    if !d.mayPair ∨ !due ∨ st = TwinState.RECONCILE ∨ st = TwinState.RESYNC ∨ st = TwinState.PAIRED then d else d.sendPairing

/-- R119: do a block of the twin and this device's own match? -/
def Dev.pairMatch (d : Dev) (v : Nat) : Bool :=
  PairBlock.crcOk v && PairBlock.magic v == 0x5457494E && PairBlock.layout v == 1 && PairBlock.member v == d.me
    && PairBlock.planeB v != d.rd D.Straps.PLANE_B 0 && PairBlock.size v == d.ensSize && PairBlock.digest v == d.frameDigest
    && PairBlock.enable v && d.on D.Twin.ENABLE 0

/-- XP_TABLE as it is sent: 4,096 elements of 16 bytes. -/
def Dev.xpTable (d : Dev) : Nat :=
  sumOf (fun n => d.ent (D.XpDom.XP_TABLE.key n) * 2 ^ (128 * (4095 - n))) (d.listed D.XpDom.XP_TABLE 4096)

/-- TWIN_PAIRING_RX (R118 to R121). A block that comes before this device has sent its own is answered with it. -/
def execTwinPairingRx (dt block : Nat) (s : State) : Host.Outcome State Fault Refusal :=
  s.act fun d => d.lanesRun dt fun d =>
    let st := d.twinState
    if !d.mayPair ∨ st = TwinState.RECONCILE ∨ st = TwinState.RESYNC ∨ st = TwinState.PAIRED then d
    else
      let d := d.setTwin (fun x => { x with heardAt := d.wall })
      let d := if st = TwinState.PAIRING then d else d.sendPairing
      if !d.pairMatch block then (d.raise Src.XC_TWIN_PAIR_REFUSED 0).twinTo TwinState.UNPAIRED
      else
        let mine := d.twin.resetSince
        let standby := if mine != PairBlock.resetSince block then mine else d.on D.Straps.PLANE_B 0
        let d := (d.wr D.Twin.PEER_ID 0 (PairBlock.identity block)).wr D.Twin.ROLE 0 (ofBool standby)
        (d.twinTo TwinState.RECONCILE).sendMsg 7 0x05 ⟨65536, d.xpTable⟩
/-- TWIN_PAIRING_TIMEOUT (Table 04.8). -/
def execTwinPairingTimeout (dt : Nat) (s : State) : Host.Outcome State Fault Refusal :=
  s.act fun d => d.lanesRun dt fun d =>
    if d.twinState ≠ TwinState.PAIRING ∨ !d.past d.twin.since 100000000 then d else d.twinTo TwinState.UNPAIRED

/-! ## Reconciliation and the state copy (R121, R122) -/

/-- Element n of an XP_TABLE that was received: source it holds, source it waits for (none for a disconnect), is one waiting? -/
def xpEntry (e : Nat) : Option Nat × Bool × Option Nat :=
  let f (x : Fld) := bitsOf e x.lo x.w
  (if f D.XpTable.VALID = 1 then some (f D.XpTable.SOURCE) else none, f D.XpTable.PENDING == 1,
    if f D.XpTable.PENDING = 1 ∧ f D.XpTable.PENDING_DISCONNECT = 0 then some (f D.XpTable.PENDING_SOURCE) else none)

/-- The active twin's entry of an output is applied as a take with TAKE_TIME 0: its pending source where it has one, else its
current source (R121). -/
def Dev.reconcileOne (d : Dev) (n e : Nat) : Dev :=
  let theirs := xpEntry e
  if theirs = xpEntry (d.ent (D.XpDom.XP_TABLE.key n)) then d
  else
    let c := 4096 + n
    match d.takeChecks c (if theirs.2.1 then theirs.2.2 else theirs.1) false 0 none with
    | .error _ => d.raise Src.XC_TWIN_DIVERGED c
    | .ok (d, p) => ((d.logTake 1 0xFF 0xFF 0 [p.elem c]).acceptTake c p).sat D.Twin.TAKES_RECONCILED 0 1

/-- Is a dictionary value part of the flow and output statistics, or of a leg's anchor, that the copy carries? -/
def copied (ix sub : Nat) : Bool :=
  (decide (0x4000 ≤ ix) && decide (ix < 0x6000) && decide (0x0D ≤ sub) && decide (sub ≤ 0x11))
    || (ix == 0x0910 && (sub == 3 || sub == 6)) || (ix == 0x0A30 && sub == 3) || (ix == 0x0A31 && sub == 3) || (ix == 0x0D21 && sub == 2)

/-- R122: what the active twin copies: statistics, the anchors of the legs, and the reference and servo history. -/
def Dev.twinState24 (d : Dev) : TwinCopy :=
  { anchors := (d.netTx.filter (fun e => e.2.anchors != [])).map (fun e => (e.1, e.2.anchors))
    dplls := d.dpll.map (fun e => (e.1, e.2.freq, e.2.hist))
    refs := d.ref.map (fun e => (e.1, e.2.meas, e.2.glitches))
    servo := d.time.samples }

/-- The statistics it copies: index, subindex, element, value. -/
def Dev.twinStats (d : Dev) : List (Nat × Nat × Nat × Nat) :=
  (d.dict.filter (fun e => copied e.1.ix e.1.sub)).map (fun e => (e.1.ix, e.1.sub, e.1.el, e.2))

/-- The standby takes a copy over: statistics and anchors, the frequency history of each DPLL, what was measured of each reference, and the
samples of the servo. -/
def Dev.takeCopy (d : Dev) (stats : List (Nat × Nat × Nat × Nat)) (x : TwinCopy) : Dev :=
  let d := stats.foldl (fun d y => match Dict.row y.1 y.2.1 with
    | some r => if copied y.1 y.2.1 then d.setEnt ⟨y.1, y.2.1, y.2.2.1⟩ (y.2.2.2 % 2 ^ r.width) else d
    | none => d) d
  let d := x.anchors.foldl (fun d y => d.setNetTx y.1 (fun z => { z with twin := y.2.head? })) d
  { d with dpll := x.dplls.foldl (fun m y => nput m {} y.1 { nget m {} y.1 with freq := y.2.1, hist := y.2.2 }) d.dpll
           ref := x.refs.foldl (fun m y => nput m {} y.1 { nget m {} y.1 with meas := y.2.1, glitches := y.2.2 }) d.ref
           time := { d.time with samples := x.servo } }

/-- TWIN_RECONCILE (R121, R122): the twin's XP_TABLE has come. Only the standby applies it; the active twin then starts the copy. -/
def execTwinReconcile (dt table : Nat) (s : State) : Host.Outcome State Fault Refusal :=
  s.act fun d => d.live dt fun d =>
    if d.twinState ≠ TwinState.RECONCILE then d
    else
      let d := if d.rd D.Twin.ROLE 0 = 1 then
          d.each (List.range 4096) (fun d n => d.reconcileOne n (bitsOf table (128 * (4095 - n)) 128)) else d
      let d := d.twinTo TwinState.RESYNC
      if d.rd D.Twin.ROLE 0 = 1 then d else d.emit (.twinCopy d.twinStats d.twinState24)

/-- How long the copy takes: 24 MiB at 4 Gbit/s, in ns (R122). -/
def twinCopyNs : Nat := 24 * 1048576 * 8 / 4

/-- TWIN_COPY_DONE (R122): the copy is complete, and the standby takes it over. -/
def execTwinCopyDone (dt : Nat) (stats : List (Nat × Nat × Nat × Nat)) (copy : TwinCopy) (s : State) : Host.Outcome State Fault Refusal :=
  s.act fun d => d.live dt fun d =>
    if d.twinState ≠ TwinState.RESYNC ∨ !d.past d.twin.since twinCopyNs then d
    else
      let d := if d.rd D.Twin.ROLE 0 = 1 then d.takeCopy stats copy else d
      let d := (d.add D.Twin.RESYNCS 0 1).wr D.Twin.PAIRED_TIME 0 d.now
      (d.setTwin (fun x => { x with resetSince := false, heardAt := d.wall, sentAt := none, anchorAt := d.wall })).twinTo TwinState.PAIRED

/-- TWIN_LOST (Table 04.8, R122): group 7 is down, the twin was reset, or while PAIRED nothing has come from it for 1 ms. -/
def execTwinLost (dt : Nat) (reset : Bool) (s : State) : Host.Outcome State Fault Refusal :=
  s.act fun d => d.lanesRun dt fun d =>
    let st := d.twinState
    let gone := !d.groupUp 7 || reset
    let lost (d : Dev) := (d.twinTo TwinState.LOST).setTwin (fun x => { x with sentAt := none })
    if st = TwinState.PAIRED ∧ (!d.groupUp 7 || d.past d.twin.heardAt 1000000) then
      lost ((d.add D.Twin.LOSSES 0 1).raise Src.XC_TWIN_LOST 0)
    else if st = TwinState.RESYNC ∧ gone then lost (d.sat D.Twin.ABANDONED 0 1)
    else if st = TwinState.RECONCILE ∧ gone then lost d
    else d

/-- The body of a CMD write: MAKE_ACTIVE swaps the roles of a PAIRED pair, and tells the twin its side of it (DESIGN CHOICE: in a message
of class 0x06). -/
def Dev.twinCmd (d : Dev) (_v : Nat) : Dev × Nat :=
  if d.twinState = TwinState.PAIRED then
    let r := 1 - d.rd D.Twin.ROLE 0
    ((d.wr D.Twin.ROLE 0 r).sendMsg 7 0x06 ⟨1, r⟩, St.OK)
  else (d, St.STATE)

/-- TWIN_CMD_MAKE_ACTIVE (R120). -/
def execTwinCmdMakeActive (q : Rcp) (s : State) : Host.Outcome State Fault Refusal :=
  s.act (serveWrite (.twinCmdMakeActive q.again) q 0x0D20 0x0C ⟨1, 1⟩ fun _ d => d.twinCmd 1)

/-! ## Signatures and anchors (R123, R124) -/

/-- TWIN_SIGNATURE_RX (R123): the twin's signature of a frame: output, source, frame boundary, CRC. -/
def execTwinSignatureRx (dt ctx source boundary crc : Nat) (s : State) : Host.Outcome State Fault Refusal :=
  s.act fun d => d.live dt fun d =>
    if d.twinState ≠ TwinState.PAIRED then d
    else (d.setTwin (fun x => { x with heardAt := d.wall, theirs := nput x.theirs (0, 0, 0) ctx (source, boundary, crc) })).compareSig ctx

/-- The network egress contexts with TWIN_LEG. -/
def Dev.twinLegs (d : Dev) : List Nat :=
  d.outputs.filter (fun c => Kind.netTx (d.kind c) && d.on D.LegCfg.TWIN_LEG (c - 4096))

/-- A leg's anchor goes to the twin: context, whether the leg runs, RTP timestamp of its last frame and that frame's first sequence
number. -/
def Dev.sendAnchor (d : Dev) (c : Nat) : Dev :=
  let a := (d.netTxSt c).anchors.headD (0, 0)
  d.sendMsg 7 0x08 ⟨11, c * 2 ^ 72 + ofBool (d.running c && (d.netTxSt c).anchors != []) * 2 ^ 64 + a.1 % 2 ^ 32 * 2 ^ 32 + a.2 % 2 ^ 32⟩

/-- TWIN_ANCHOR_SEND (R124). -/
def execTwinAnchorSend (dt : Nat) (s : State) : Host.Outcome State Fault Refusal :=
  s.act fun d => d.live dt fun d =>
    if d.twinState ≠ TwinState.PAIRED ∨ d.rd D.Twin.ROLE 0 ≠ 0 ∨ !d.past d.twin.anchorAt (d.rd D.Leg.ANCHOR_PERIOD_MS 0 * 1000000) then d
    else
      let d := d.setTwin (fun x => { x with anchorAt := d.wall })
      d.each d.twinLegs (fun d c =>
        let d := match (d.netTxSt c).anchors with
          | a :: _ => (d.flag D.LegStatus.ANCHORED (c - 4096) true).wr D.LegStatus.ANCHOR_SEQ (c - 4096) a.2
          | [] => d
        d.sendAnchor c)

/-- TWIN_ANCHOR_RX (R124): the standby compares an anchor with its own numbering, at the frame of that timestamp where it has started
it, else at the frame when it starts; and it answers with its own, by which the active twin knows that the leg runs. -/
def execTwinAnchorRx (dt ctx : Nat) (anchor : Nat × Nat) (running : Bool) (s : State) : Host.Outcome State Fault Refusal :=
  s.act fun d => d.live dt fun d =>
    let n := ctx - 4096
    let ts := anchor.1
    let seq := anchor.2
    if d.twinState ≠ TwinState.PAIRED ∨ !d.twinLegs.contains ctx then d
    else
      let d := (d.setTwin (fun x => { x with heardAt := d.wall })).flag D.LegStatus.TWIN_SENDING n running
      if d.rd D.Twin.ROLE 0 ≠ 1 then d
      else
        let d := d.sendAnchor ctx
        if running = false then d
        else
          let d := d.wr D.LegStatus.ANCHOR_SEQ n seq
          match (d.netTxSt ctx).anchors.find? (fun a => a.1 == ts) with
          | none => d.setNetTx ctx (fun x => { x with twin := some (ts, seq) })
          | some a =>
            let by_ := (seq + 2 ^ 32 - a.2) % 2 ^ 32
            if by_ = 0 then d.flag D.LegStatus.ANCHORED n true
            else (d.flag D.LegStatus.ANCHORED n false).setNetTx ctx (fun x => { x with step := by_ })

end Sys2Proof.Machine
end

