-- ==== Sys2Proof/Machine/Startup.lean ====
section
/-! DEFINITION. Fuse loading and the start-up stages (R501 to R505): slot selection (R470), settings (R426), the knot map (R523), the
crosspoint (R98), what each stage leaves. FUSE_LOAD_DONE and STARTUP_STAGE_DONE. -/

namespace Sys2Proof.Machine

open Sys2Proof

/-- A stage ends: STARTUP_MS keeps its end, the next one begins. -/
def Dev.stageEnd (d : Dev) (next : Nat) : Dev :=
  (d.wr D.Rst.STARTUP_MS d.stage ((d.wall - d.rst.endedAt) / 1000000)).wr D.Rst.STARTUP_STAGE 0 next

/-! ## Fuse and trim loading (R501, R502) -/

/-- FUSE_LOAD_DONE (R501, R502): `words` is the index of the last word read. -/
def execFuseLoadDone (dt words : Nat) (pass : Bool) (s : State) : Host.Outcome State Fault Refusal :=
  s.act fun d =>
    let d := d.elapse dt
    if d.rst.loading = false ∨ d.inCold = true then d
    else
      let d := (d.wr D.TrimResult.WORDS 0 (min 255 words)).wr D.TrimResult.LOAD_US 0 ((d.wall - d.rst.loadAt) / 1000)
      let next := fun (d : Dev) =>
        let d := (d.flag D.TrimResult.VALID 0 true).setRst (fun x => { x with loading := false })
        if d.stage = 1 then d.stageEnd 2 else d
      if pass then next d
      else
        let d := d.wr D.TrimResult.FAILED_LOADS 0 (min 3 (d.rd D.TrimResult.FAILED_LOADS 0 + 1))
        if d.rd D.TrimResult.FAILED_LOADS 0 < 3 then d.startLoad
        else next ((d.flag D.TrimResult.SAFE_BOOT 0 true).raise Src.RST_TRIM_FAIL 0)

/-! ## ROM: slot selection (R470) -/

/-- A slot that fails verification reads INVALID (R470). -/
def Dev.markInvalid (d : Dev) (k : Nat) : Dev :=
  let x := d.slot k
  if x.state = ImgState.EMPTY ∨ x.state = ImgState.WRITING ∨ x.state = ImgState.ABSENT then d
  else (d.setSlot k (fun x => { x with state := ImgState.INVALID })).raise Src.SEC_IMAGE_INVALID 0

/-- The images of a slot are those that run. -/
def Dev.runSlot (d : Dev) (k : Nat) : Dev := d.setSec (fun x => { x with running := k, started := k, source := [k, k, k, k, k] })

/-- A trial ends at start-up: the journal ring is erased before any settings are read (R466, R468). -/
def Dev.fallbackBoot (d : Dev) (trial : Nat) : Dev :=
  let d := d.writeBoot (fun b => { b with trial := 0xFF, kind := 0, started := 0 })
  let d := d.setSlot trial (fun x => { x with state := if x.state = ImgState.TRIAL then ImgState.READY else x.state })
  d.eraseJournal.fallbackCounts trial

/-- The first slot of a list that verifies; those before it read INVALID. -/
def Dev.firstGood (d : Dev) : List Nat → Dev × Option Nat
  | [] => (d, none)
  | k :: t => if d.verifies k then (d, some k) else (d.markInvalid k).firstGood t

/-- R470: the slot to start, none where recovery start-up must run. -/
def Dev.selectSlot (d : Dev) : Dev × Option Nat :=
  let b := d.boot
  let d := d.setSec (fun x => { x with arc := max x.arc b.arcTarget, trialKind := 0 })
  let d := d.runSlot b.confirmed
  let fresh := b.trial != 0xFF && b.kind == 2 && b.started == 0
  let d := if fresh then d.compact else d
  if fresh && d.verifies b.trial then
    let d := d.writeBoot (fun b => { b with started := 1 })
    let d := d.setSlot b.trial (fun x => { x with state := ImgState.TRIAL })
    ((d.runSlot b.trial).setSec (fun x => { x with trialKind := 2 }), some b.trial)
  else
    let d := if fresh then d.markInvalid b.trial else d
    let d := if b.trial = 0xFF then d else d.fallbackBoot b.trial
    let r := d.firstGood ([b.confirmed, 1 - b.confirmed] ++ (if d.sec.big then [2] else []))
    match r.2 with
    | none => (r.1, none)
    | some k =>
      let d := if k = 1 - b.confirmed then r.1.writeBoot (fun x => { x with confirmed := k }) else r.1
      (d.runSlot k, some k)

/-- The entries that the ownership and the network identity records hold. -/
def Dev.loadRecords (d : Dev) : Dev :=
  let m := match d.netId with | some r => (r.frameId, r.net) | none => (0, MgNet.defaults)
  let d := (d.wr D.Ident.FRAME_ID 0 m.1).setMgNet m.2
  let d := match d.owner with | some r => d.showOwner r | none => d
  ({ d with rcp := { d.rcp with inUse := d.mgNet } }.wr D.Ident.FRAME_ID_IN_USE 0 (d.rd D.Ident.FRAME_ID 0)).showBoot

/-- R471: recovery start-up runs, from ROM with the ownership and network identity records. -/
def Dev.enterRecovery (d : Dev) : Dev :=
  let d := d.setRst (fun x => { x with recovery := true, recoverNext := false })
  let d := (d.loadRecords.newNonce).setSec (fun x => { x with intervalAt := d.wall, candidates := [] })
  d.fwEvent 5 d.boot.confirmed

/-- The ROM stage: flash size (R437), keys (R441), slot selection (R470), M0 and M1 (R450). -/
def Dev.romDone (d : Dev) (gbit : Nat) : Dev :=
  let big := decide (2 ≤ gbit)
  let d := d.setSec (fun x => { x with big := big })
  let d := d.setSlot 2 (fun x => if big then (if x.state = ImgState.ABSENT then {} else x) else { state := ImgState.ABSENT })
  let d := if d.meas 0 = 0 then d.setM 0 Config.romMeasure else d
  if gbit < 1 then (d.raise Src.SEC_FLASH_SIZE 0).enterRecovery
  else if d.owner = none then (d.raise Src.SEC_KEY_LOST 0).enterRecovery
  else if d.rst.recoverNext then d.enterRecovery
  else
    let d := match d.owner with | some r => d.showOwner r | none => d
    let r := d.selectSlot
    match r.2 with
    | none => r.1.enterRecovery
    | some k => (r.1.setM 1 (digest 6976 (r.1.manifest k))).stageEnd 3

/-- The CONTROLLERS stage: the running images' measurements (R450). -/
def Dev.controllersDone (d : Dev) (failed : List Nat) : Dev :=
  let d := d.each failed (fun d m => d.raise Src.MGT_CORE_FAIL m)
  let d := d.each [1, 2, 3, 4, 5] (fun d k => d.setM (k + 1) (d.imgDigest (d.sec.source.getD (k - 1) 0) k))
  d.stageEnd 4

/-! ## SETTINGS -/

/-- R523, R524: the knot map is read from its newer valid copy; without one, from the fuse repair words. -/
def Dev.knotLoad (d : Dev) : Dev :=
  let k := d.knot
  let best := match k.copy0, k.copy1 with
    | some a, some b => some (if a.1 < b.1 then b.2 else a.2)
    | some a, none => some a.2
    | none, some b => some b.2
    | none, none => none
  let d := match best with
    | some l => { d with knot := { k with entries := l, dirty := false } }
    | none =>
      let l : List Knot := Config.fuseRepairs.map (fun (r : Nat × Nat × Nat × Nat) => ⟨r.1, r.2.1, r.2.2.1, r.2.2.2, knotCommand, false, 0, 0⟩)
      ({ d with knot := { k with entries := l, dirty := true, nominal := true } }.flag D.KnotStatus.REBUILT 0 true).raise Src.RPR_KNOT_COPY 0
  let d := if d.knot.nominal then
      d.each ((List.range 256).filter (fun e => d.dict.all (fun (x : Key × Nat) => x.1 != ⟨0x0E10, 3, e⟩))) (fun d e =>
        d.setEnt ⟨0x0E10, 3, e⟩ (Config.nominalDelaySet e))
    else d
  let d := (d.flag D.KnotStatus.COPY_0_VALID 0 k.copy0.isSome).flag D.KnotStatus.COPY_1_VALID 0 k.copy1.isSome
  d.flag D.KnotStatus.FULL 0 (decide (4096 ≤ (Knot.compact d.knot.entries).length))

/-- R432: the network identity record is written from its defaults where neither copy is valid, and again where the journal held a
later group. -/
def Dev.netIdSettle (d : Dev) : Dev :=
  match d.netId with
  | none => ((d.raise Src.DIC_IDENTITY_DEFAULT 0).writeNetId 0).writeNetId 0
  | some r =>
    if d.flash.journal.any (fun j => decide (r.gen < j.gen) && j.items.any (fun (x : Key × Nat) => netIdKey x.1)) then d.writeNetId d.flash.gen
    else d

/-- The SETTINGS stage (R426, R432, R464, R498, R523, R531, R534). -/
def Dev.settingsDone (d : Dev) : Dev :=
  let d := if d.sec.trialKind = 2 then d.newSettings d.boot.confirmed d.sec.running else d
  let d := if d.journalCorrupt d.settingsSlot then d.raise Src.DIC_JOURNAL_CORRUPT 0 else d
  let d := (d.loadSettings d.settingsSlot).netIdSettle
  let d := { d with rcp := { d.rcp with inUse := d.mgNet } }
  let d := (d.wr D.Ident.FRAME_ID_IN_USE 0 (d.rd D.Ident.FRAME_ID 0)).wr D.Rcp.JOURNAL_USED_PCT 0 d.journalPct
  let d := (d.newNonce.setM 7 d.ownerDigest).showBoot
  let d := d.knotLoad.wr D.XpCount.RECORD_GENERATION 0 d.takeLog.gen
  let d := if d.rst.lastSrc = 3 then d.raise Src.RST_EXTERNAL 0 else d
  let d := (d.event 1 (d.ent (D.ResetCause.REACH.key 0))).servoMode
  let d := d.chainStart.intervalStart d.now 64
  d.setRing (fun r => { r with upAt := d.rst.endedAt, day := d.now / dayNs * dayNs, histAt := d.wall })

/-! ## Entering RESOURCES -/

/-- Standing entries of the knot map act on spares (R523): network lanes and their spares, SDI slices. -/
def Dev.knotSpares (d : Dev) : Dev :=
  let d := d.each (List.range 32) (fun d lane =>
    if d.knotStands KnotKind.NET_LANE KnotAct.SPARE_IN lane then
      let s := lane / 8
      let d := ((d.flag D.SpareStatus.IN_USE s true).wr D.SpareStatus.LANE s lane).flag D.LaneStatus.SPARED (128 + lane) true
      let g := d.rd D.SpareCfg.GPIO s
      if g < 16 then d.emit (.pin (Pin.GPIO + g) 1) else d
    else d)
  d.each (List.range 128) (fun d lane =>
    if d.knotStands KnotKind.SDI_SLICE KnotAct.SPARE_IN lane then
      ((d.flag D.SliceMap.IN_USE (lane / 16) true).wr D.SliceMap.LANE (lane / 16) lane).flag D.LaneStatus.SPARED lane true
    else d)

/-- The RESOURCES stage begins: channels train (R266), ports train, the chain position is taken and lane bring-up starts. -/
def Dev.enterResources (d : Dev) : Dev :=
  let d := d.knotSpares
  let d := d.each (List.range 32) (fun d c =>
    if d.knotStands KnotKind.CHANNEL KnotAct.RETIRED c then (d.chanTo c ChanState.RETIRED).raiseL Src.FS_CHAN_RETIRED c
    else (d.chanTo c ChanState.TRAINING).setChan c (fun x => { x with tried := [], restore := false, entering := false }))
  let d := d.each (List.range 32) (fun d p => d.wr D.PortStatus.LINK p (if d.rd D.PortCfg.MODE p = 0 then 0 else 1))
  (d.headChain.groupsCheck).stageEnd 5

/-! ## Entering SERVICE -/

/-- R309: logical tiles go onto passing physical tiles in ascending order. -/
def Dev.tilesStart (d : Dev) (failed : List Nat) : Dev :=
  let known := fun (d : Dev) (p : Nat) => d.knotStands KnotKind.TILE KnotAct.RETIRED p || d.knotStands KnotKind.TILE KnotAct.SPARE_IN p
  let good := (List.range 68).filter (fun p => !failed.contains p && !known d p)
  let d := d.each (List.range 68) (fun d p =>
    let d := d.flag D.TileMapEl.KNOT p (known d p)
    if !good.contains p then d.wr D.TileMapEl.STATE p PhysTile.FAILED
    else
      let k := (good.takeWhile (fun x => x != p)).length
      if k < 64 then
        ((d.wr D.TileMapEl.STATE p PhysTile.ACTIVE).wr D.TileMapEl.LOGICAL p k).wr D.Tile.PHYS_TILE k p
      else d.wr D.TileMapEl.STATE p PhysTile.SPARE)
  d.each ((List.range 64).filter (fun t => decide (good.length ≤ t))) (fun d t => d.tileGone t true)

/-- R334: engines that fail BIST, or that the knot map records as failed, read UNAVAILABLE. -/
def Dev.enginesStart (d : Dev) (failed : List Nat) : Dev :=
  d.each (List.range 192) (fun d e =>
    if failed.contains e ∨ d.knotStands KnotKind.ENGINE KnotAct.RETIRED e = true then d.flag D.LayerStatus.UNAVAILABLE e true else d)

/-- R104, R521: planes that pass BIST enter service together. -/
def Dev.planesStart (d : Dev) (failed : List Nat) (slices : List (Nat × Nat)) : Dev :=
  let bist := fun (d : Dev) (p : Nat) =>
    let r := d.planeSlice p ((slices.find? (fun s => s.1 == p)).map (fun s => s.2))
    let pass := !failed.contains p && r.2
    let d := r.1.flag D.PlaneHealth.BIST_PASS p pass
    (if pass then d else d.planeFailed p 5, pass)
  let x := bist d 0
  let y := bist x.1 1
  if x.2 && y.2 then ((y.1.loadPlane 0).loadPlane 1).bothIn
  else if x.2 then (y.1.loadPlane 0).planeTo 0 PlaneState.ACTIVE
  else if y.2 then (y.1.loadPlane 1).planeTo 1 PlaneState.ACTIVE
  else y.1.raise Src.XC_PLANE_LOSS_BOTH 0

/-- R333: veneer content is lost through a reset. -/
def Dev.veneersStart (d : Dev) : Dev :=
  let d := d.setStore (fun s => { s with alloc := s.alloc.map (fun (a : Nat × Alloc) =>
    if a.2.want.cls = 2 ∧ a.2.want.tag = 1 then (a.1, { a.2 with lost := (List.range a.2.blocks.length).map (fun i => (i, [])) }) else a) })
  d.each ((d.listed D.VeneerCfg.ENABLE 512).filter (fun v => d.on D.VeneerCfg.ENABLE v)) (fun d v =>
    ((d.flag D.VeneerStatus.FRONT_LOST v true).flag D.VeneerStatus.BACK_LOST v (d.on D.VeneerCfg.DOUBLE v)).raise Src.CMP_VENEER_LOST v)

/-! ### The crosspoint (R98, R93) -/

/-- Fields of a take record element (Table 03.14). -/
def elemOutput (e : Nat) : Nat := bitsOf e 48 16
def elemSource (e : Nat) : Option Nat := if bit e 31 then some (bitsOf e 32 16) else none
def elemFs (e : Nat) : Bool := bit e 30

/-- The state R98 rebuilds: for each output the element to apply, and the changes still to come (element, TAKE_TIME, slot and epoch of a
salvo), oldest first. -/
structure Routes where
  now : NMap Nat
  later : List (Nat × Nat × Option (Nat × Nat))
  deriving DecidableEq, Repr

/-- Is a TAKE_TIME still to come? -/
def Dev.toCome (d : Dev) (t : Nat) : Bool := t != 0 && decide (0 < sdiff t d.now 64)

/-- The SALVO_PART record a decision record decides. -/
def Dev.partRec (d : Dev) (r : TRec) : Option TRec :=
  d.takeLog.recs.find? (fun x => x.kind == 2 && x.slot == r.slot && x.epoch == r.epoch && x.time == r.time)

/-- A log record is applied to the state; a newer take replaces the pending take of its output (R79). -/
def Dev.applyRec (d : Dev) (x : Routes) (r : TRec) : Routes :=
  if r.kind = 1 then
    r.elems.foldl (fun x e =>
      let later := x.later.filter (fun p => !(elemOutput p.1 == elemOutput e && p.2.2.isNone))
      if d.toCome r.time then { x with later := later ++ [(e, r.time, none)] }
      else { now := nput x.now 0 (elemOutput e) e, later := later }) x
  else if r.kind = 3 then
    match d.partRec r with
    | none => x
    | some p => p.elems.foldl (fun x e =>
        if d.toCome r.time then { x with later := x.later.filter (fun y => y != (e, r.time, some (r.slot, r.epoch))) ++ [(e, r.time, some (r.slot, r.epoch))] }
        else { x with now := nput x.now 0 (elemOutput e) e }) x
  else x

/-- R98: the crosspoint as the base copy and the log give it. -/
def Dev.routes (d : Dev) : Routes :=
  let l := d.takeLog
  let base := l.base
  let x : Routes := ⟨match base with | some b => b.elems.foldl (fun m e => nput m 0 (elemOutput e) e) [] | none => [], []⟩
  (l.recs.filter (fun r => match base with | some b => decide (b.gen < r.gen) | none => true)).foldl (fun x r => d.applyRec x r) x

/-- A change is taken up again: pending until its output's application instant, when its tile is inserted where it needs one (R81); its path is
asked for (R223). `back`: it had applied, or its time had come, before the restart. -/
def Dev.restoreChange (d : Dev) (e time : Nat) (slot : Option (Nat × Nat)) (back : Bool) : Dev :=
  let c := elemOutput e
  let p : Pend := ⟨elemSource e, elemSource e, elemFs e, time, d.now, none, slot, false, back, (elemSource e).isSome⟩
  let d := d.setXp (fun x => { x with pend := x.pend ++ [(c, p)] })
  (match p.source with | some f => d.flowUse f | none => d).showPend c

/-- What the log says of a salvo slot: its last epoch, the decisions of its last four epochs, newest first (R91, R93). -/
def Dev.slotStart (d : Dev) (s : Nat) : Dev :=
  let l := d.takeLog.recs.filter (fun r => r.kind != 1 && r.slot == s)
  match l.getLast? with
  | none => d
  | some r =>
    let log := ((l.filter (fun x => x.kind != 2)).map (fun x => (x.epoch, x.kind == 3, x.time))).reverse
    (d.wr D.Salvo.EPOCH s r.epoch).setSalvo s (fun x => { x with log := log.take 4 })

/-- Does this device coordinate whatever its group 7 does: the headstock of the card with PLANE_B low, or of a card without a twin (R84, R94)? -/
def Dev.coordinatesAlways (d : Dev) : Bool :=
  d.on D.Straps.HEAD 0 && (d.card == 0 || !d.on D.Twin.ENABLE 0 || !d.on D.GroupCfg.ENABLE 7)

/-- R93: a part without a decision: the coordinator is asked before its outputs are restored, and they hold safe state. The coordinator's own log
holds no decision, and under MODE 1 (R95) there is none to ask: the part is aborted, and nothing is restored from it. -/
def Dev.doubtStart (d : Dev) (r : TRec) : Dev :=
  let s := r.slot
  let decided := d.takeLog.recs.any (fun x => (x.kind == 3 || x.kind == 4) && x.slot == s && x.epoch == r.epoch && x.time == r.time)
  if r.kind ≠ 2 ∨ decided = true then d
  else if d.hostSalvo ∨ d.coordinatesAlways then
    (d.logTake 4 s r.epoch r.time []).setSalvo s (fun x => { x with log := ((r.epoch, false, r.time) :: x.log).take 4 })
  else
    let n := d.xp.pend.length
    let d := r.elems.foldl (fun (d : Dev) e => d.restoreChange e r.time (some (s, r.epoch)) false) d
    let mine := d.xp.pend.drop n
    let part : Part := ⟨r.epoch, r.time, [], none, 0, some (0, 0xFFFF), none, false, false, true, mine, true⟩
    let d := d.setXp (fun x => { x with pend := x.pend.take n })
    let d := (((d.setSalvo s (fun x => { x with part := some part })).wr D.Salvo.EPOCH s r.epoch).wr D.Salvo.TAKE_TIME s r.time).slotTo s SlotState.INDOUBT
    let d := d.pendPart s true
    d.each (r.elems.map elemOutput) (fun d c => d.holdDoubt c)

/-- R98: the crosspoint is rebuilt; changes still to come are pending, all others apply at each output's first application instant. -/
def Dev.crosspointStart (d : Dev) : Dev :=
  let x := d.routes
  let d := x.now.foldl (fun (d : Dev) (e : Nat × Nat) =>
    if (elemSource e.2).isSome then d.restoreChange e.2 0 none true
    else d.setXp (fun y => { y with cut := elemOutput e.2 :: y.cut })) d
  let d := x.later.foldl (fun (d : Dev) (p : Nat × Nat × Option (Nat × Nat)) =>
    let d := d.restoreChange p.1 p.2.1 p.2.2 false
    match p.2.2 with
    | some s => (d.wr D.Salvo.TAKE_TIME s.1 p.2.1).slotTo s.1 SlotState.COMMITTED
    | none => d) d
  let d := d.each (List.range 16) (fun d s => d.slotStart s)
  d.takeLog.recs.foldl (fun (d : Dev) (r : TRec) => d.doubtStart r) d

/-- R461: a trial of kind 2 runs from the end of start-up. -/
def Dev.trialStart (d : Dev) : Dev :=
  if d.sec.trialKind = 2 then (d.updTo Upd.TRIAL).setSec (fun x => { x with trialAt := d.wall }) else d

/-- The SERVICE stage begins: allocations, planes, flows and crosspoint (R256, R104), every output in safe state (R504). -/
def Dev.enterService (d : Dev) (tiles engines planes : List Nat) (slices : List (Nat × Nat)) : Dev :=
  let d := ((d.tilesStart tiles).enginesStart engines).planesStart planes slices
  let d := (d.rebuildStore d.wants).veneersStart
  let d := (d.stageEnd 6).setRst (fun x => { x with keep := [] })
  let d := d.allSafe
  let d := (d.refCommit.ptpCommit).audioStart
  let d := d.each (List.range 8) (fun d p => d.sapCommit p)
  let d := d.each (List.range 3) (fun d o => d.pulseCommit o)
  let d := d.each d.enabled (fun d c => d.flowCommit c)
  d.crosspointStart.trialStart

/-- R503: every enabled output has left safe state, or has no source. -/
def Dev.mediaReady (d : Dev) : Bool := d.egress.all (fun c => !d.isSafe c || (d.source c).isNone)

/-- STARTUP_STAGE_DONE (R503): the stage's work is done. `gbit` is the flash size found in ROM; `failed` the cores and controllers that did
not report ready; `tiles`, `engines`, `planes` those that failed BIST in RESOURCES, `slices` a failing slice of a plane. In safe boot
start-up goes no further than CONTROLLERS (R502), in recovery no further than ROM (R471). -/
def execStartupStageDone (dt gbit : Nat) (failed tiles engines planes : List Nat) (slices : List (Nat × Nat)) (s : State) :
    Host.Outcome State Fault Refusal :=
  s.act fun d =>
    let d := d.elapse dt
    if d.inReset ∨ d.rst.recovery = true then d
    else if d.stage = 2 then d.romDone gbit
    else if d.stage = 3 then (if d.safeBoot then d else d.controllersDone failed)
    else if d.stage = 4 then d.settingsDone.enterResources
    else if d.stage = 5 then d.enterService tiles engines planes slices
    else if d.stage = 6 ∧ d.mediaReady = true then d.stageEnd 7
    else d

end Sys2Proof.Machine
end

