-- ==== Sys2Proof/Machine/View.lean ====
section
/-! DEFINITION. What a read of an entry returns: the value stored, or, for the entries that show how the device stands at the moment,
the value computed here (R10, and the entry tables of each chapter). -/

namespace Sys2Proof.Machine

open Sys2Proof

/-- A value held within a width. -/
def capTo (w v : Nat) : Nat := min v (2 ^ w - 1)

/-- The stored value of a key with some fields replaced. -/
def Dev.shown (d : Dev) (k : Key) (l : List (Fld × Nat)) : Option Nat :=
  some (l.foldl (fun v (p : Fld × Nat) => setBits v p.1.lo p.1.w p.2) (d.ent k))

/-- Whole seconds since a time on the model's clock. -/
def Dev.secsSince (d : Dev) (t : Nat) : Nat := (d.wall - t) / 1000000000

/-- Seconds left of a span of `s` seconds that began at a time, rounded up. -/
def Dev.secsLeft (d : Dev) (t s : Nat) : Nat := ceilDiv (t + s * 1000000000 - d.wall) 1000000000

/-! ## Identity, RCP, security, firmware (Tables 15.12 to 15.16, 16.14 to 16.21) -/

/-- Entries in a set of keys, each entry counted once however many of its elements are there. -/
def entriesIn (l : Store) : Nat := ((l.map (fun (x : Key × Nat) => (x.1.ix, x.1.sub))).eraseDups).length

/-- Bytes a set of values takes. -/
def storeBytes (l : Store) : Nat :=
  sumOf (fun (x : Key × Nat) => match Dict.row x.1.ix x.1.sub with | some r => r.width / 8 | none => 0) l

/-- The commit group's values. -/
def Dev.staged (d : Dev) : Store := match d.rcp.group with | some g => g.staged | none => []

/-- The session that holds the commit group, 0 where there is none. -/
def Dev.groupHolder (d : Dev) : Nat := match d.rcp.group with | some g => g.holder | none => 0

/-- A SESSION_TABLE element (Table 15.16). -/
def Dev.sessionElement (d : Dev) (el : Nat) : Nat :=
  match d.rcp.sessions.find? (fun x => x.slot == el) with
  | none => 0
  | some x =>
    let n := x.subs.length
    pack [(1, 1), (3, x.role), (2, min x.via 2), (5, (x.via - 2) / 8), (5, n / 4), (16, capTo 16 (d.secsSince x.reqAt)), (32, x.id), (16, x.port),
      (128, x.peer), (2, n), (1, ofBool (d.groupHolder == x.id)), (45, 0)]

/-- A SLOT_STATUS element (Table 16.19). -/
def Dev.slotElement (d : Dev) (k : Nat) : Nat :=
  let x := d.slot k
  let m := d.manifest k
  if !x.factory && x.manifest.isNone then x.state * 2 ^ 253
  else
    pack [(3, x.state), (1, ofBool (vendorSigned x.factory m)), (1, ofBool (d.ownerSigned x.factory m)), (3, 0), (8, manSvn m), (32, manField m 8 4),
      (16, manField m 12 2), (128, digest 352 (manField m 0 352) / 2 ^ 128), (59, 0),
      (5, sumOf (fun i => if x.factory || x.images.any (fun g => g.1 == i + 1) then 2 ^ i else 0) (List.range 5))]

/-- An IMAGE_STATUS element (Table 16.21). -/
def Dev.imageElement (d : Dev) (i : Nat) : Nat :=
  let slot := d.sec.source.getD i 0
  let m := d.manifest slot
  pack [(3, slot), (3, ofBool (d.sec.restarting == some (i + 1))), (2, 0), (16, imgField m i 2 2), (8, 0), (96, imgField m i 32 12)]

/-- Areas 0x0000 to 0x03FF. -/
def Dev.viewBase (d : Dev) (k : Key) : Option Nat :=
  if k.ix = 0x0000 then (if k.sub = 0x0D then some (d.secsSince d.rst.endedAt) else none)
  else if k.ix = 0x0001 then (if k.sub = 2 then some Dict.allRows.length else none)
  else if k.ix = 0x0100 then
    (match k.sub with
     | 0x07 => some d.rcp.sessions.length
     | 0x08 => some d.groupHolder
     | 0x09 => some (entriesIn d.staged)
     | 0x0A => some (storeBytes d.staged)
     | _ => none)
  else if k.ix = 0x0120 ∧ k.sub = 1 then some (d.sessionElement k.el)
  else if k.ix = 0x0200 then
    (match k.sub with
     | 0x03 => some Config.identityPublic
     | 0x04 => some Config.vendorCert
     | 0x09 => some d.enrolLeft
     | 0x0D => some (d.meas k.el)
     | 0x10 => some d.sec.arc
     | _ => none)
  else if k.ix = 0x0300 ∧ k.sub = 0x0B then
    some (if d.rd D.Upd.UPDATE_STATE 0 = 3 then d.secsLeft d.sec.trialAt (d.rd D.Upd.TRIAL_S 0) else 0)
  else if k.ix = 0x0310 then
    (match k.sub with
     | 1 => some (d.slotElement k.el)
     | 2 => some (if (d.slot k.el).factory || (d.slot k.el).manifest.isSome then d.manifest k.el else 0)
     | 3 => some (d.imageElement k.el)
     | _ => none)
  else none

/-! ## Faults, power, time, references (Tables 17.6, 19.13, 13.7, 14.7 to 14.10) -/

/-- The sources that are pending. -/
def Dev.pendingSources (d : Dev) : List Nat := (List.range 512).filter (fun s => d.on D.SourceStatus.PENDING s)

/-- Areas 0x0400 to 0x07FF. -/
def Dev.viewControl (d : Dev) (k : Key) : Option Nat :=
  if k.ix = 0x0400 then
    (match k.sub with
     | 0x06 => some (sumOf (fun g => if d.pendingSources.any (fun s => s / 16 == g) then 2 ^ g else 0) (List.range 32))
     | 0x07 => some d.pendingSources.length
     | 0x0A => some (countIf (fun c => decide (4096 ≤ c) && d.forced c) d.enabled)
     | 0x0B => some (ofBool d.injectAllowed)
     | _ => none)
  else if k.ix = 0x0500 ∧ k.sub = 4 then some (countIf (fun i => d.rd D.IslandStatus.STATE i == 0) (List.range 142))
  else if k.ix = 0x0520 ∧ k.sub = 1 then
    (if k.el < 142 then d.shown k [(D.IslandStatus.CLASS, (Config.island k.el).1), (D.IslandStatus.INSTANCE, (Config.island k.el).2)] else some 0)
  else if k.ix = 0x0600 then
    (match k.sub with
     | 0x02 => some d.raw
     | 0x03 => some d.now
     | 0x10 => some d.utcOffset
     | _ => none)
  else if k.ix = 0x0710 ∧ k.sub = 2 then
    let x := d.refSt k.el
    d.shown k [(D.RefStatus.HOLDOFF_LEFT_S, if d.refState k.el = RefState.HOLDING_OFF then capTo 8 (d.secsLeft x.holdAt (d.rd D.RefCfg.HOLDOFF_S k.el)) else 0),
      (D.RefStatus.GLITCHES_10S, capTo 8 (d.recent x.glitches 10000000000).length)]
  else if k.ix = 0x0720 ∧ k.sub = 2 then
    d.shown k [(D.DpllStatus.TIME_ALIGNED, ofBool (d.timeAligned k.el)),
      (D.DpllStatus.HOLDOVER_S, if d.dpllState k.el = DpllState.HOLDOVER then capTo 32 (d.secsSince (d.dpllSt k.el).since) else 0)]
  else none

/-! ## Lanes, SDI, network (Tables 08.6 to 08.8, 05.5 to 05.10, 06.8 to 06.19) -/

/-- Blocks that the allocations of some classes hold for an owner. -/
def Dev.heldFor (d : Dev) (cls : List Nat) (owner : Nat) : Nat :=
  sumOf (fun (a : Nat × Alloc) => if cls.contains a.2.want.cls && a.2.want.owner == owner then a.2.held else 0) d.store.alloc

/-- Blocks that all allocations of some classes hold. -/
def Dev.heldBy (d : Dev) (cls : List Nat) : Nat :=
  sumOf (fun (a : Nat × Alloc) => if cls.contains a.2.want.cls then a.2.held else 0) d.store.alloc

/-- USE of an SDI or network lane (Table 08.8). -/
def Dev.laneUse (d : Dev) (e : Nat) : Nat :=
  let u := d.rd D.LaneStatus.USE e
  if d.laneTested e then LaneUse.TEST
  else if d.laneUsed e then
    if u = LaneUse.FAILED ∨ u = LaneUse.DEGRADED then u
    else if 128 ≤ e ∧ !d.laneLocked e then LaneUse.TRAINING else LaneUse.IN_SERVICE
  else if d.sparePrbs e then LaneUse.SPARE_READY
  else LaneUse.OFF

/-- A LANE_STATUS element (Table 08.8). -/
def Dev.laneElement (d : Dev) (k : Key) : Option Nat :=
  let e := k.el
  let locked := d.laneLocked e
  let held := if d.on D.LaneCfg.ADAPT_FREEZE e then (Assoc.find d.phy.frozen e).getD d.wall else d.wall
  let q := if locked then Config.equaliser e held else (0, 0)
  let eq := [(D.LaneStatus.CTLE_CODE, q.1), (D.LaneStatus.DFE_H1_MV, q.2),
    (D.LaneStatus.RX_INVERTED, ofBool (d.on D.LaneCfg.RX_INVERT e != (isDowel e && d.on D.LaneStatus.RX_INVERTED e)))]
  if isDowel e then d.shown k ((if d.laneTested e then [(D.LaneStatus.USE, LaneUse.TEST)] else []) ++ eq)
  else d.shown k ([(D.LaneStatus.USE, d.laneUse e), (D.LaneStatus.CDR_LOCKED, ofBool locked),
    (D.LaneStatus.SIGNAL_DETECT, ofBool (locked || d.on D.LaneStatus.SIGNAL_DETECT e)), (D.LaneStatus.ADAPTED, ofBool locked)] ++ eq)

/-- Is the clock an SDI output follows locked: its DPLL, or the rate follower, which locks to the cells of its source (R146, R147)? -/
def Dev.outputLocked (d : Dev) (c : Nat) : Bool :=
  if d.timedOut c then d.dpllState (d.rd D.SdiTxCfg.DPLL (d.bindIx c)) == DpllState.LOCKED
  else d.running c && (d.txSt c).tracks && !d.on D.FlowStatus.SOURCE_LOST c

/-- Has no cell come to an SDI output for longer than the words that it holds last (R140): those of a cell and, on a TIMED output, of its
re-timing buffer (R148)? -/
def Dev.starved (d : Dev) (c : Nat) : Bool :=
  let f := d.format c
  let line := ceilDiv (Fmt.periodNs f) (max 1 (Fmt.totalLines f))
  let held := ceilDiv (2048 * 1000000000 * 1001) (max 1 (Fmt.lane1001 f)) + (if d.timedOut c then 2 * d.rd D.Xp.KERF_LINES 0 * line else 0)
  d.kind c == 0x41 && d.running c && (d.flowSt c).cur.isSome && d.past (d.flowSt c).movedAt held

/-- Areas 0x0800 to 0x09FF. -/
def Dev.viewLanes (d : Dev) (k : Key) : Option Nat :=
  if k.ix = 0x0800 then
    (match k.sub with
     | 0x08 => some (countIf (fun s => !d.on D.SliceMap.IN_USE s) (List.range 8))
     | 0x0B => some d.phy.scans.length
     | _ => none)
  else if k.ix = 0x0810 ∧ k.sub = 2 then (if k.el < 236 then d.laneElement k else none)
  else if k.ix = 0x0900 then
    (match k.sub with
     | 0x05 => some (countIf (fun l => d.on D.SdiRxStatus.LOCKED l) (List.range 128))
     | 0x06 => some (countIf (fun l => d.on D.SdiTxStatus.SAFE l) (List.range 128))
     | 0x07 => some (d.heldBy [3])
     | _ => none)
  else if k.ix = 0x0910 ∧ k.sub = 2 then
    let alone := match d.sdiCtx 1 k.el with | some c => Fmt.links (d.format c) == 1 | none => false
    d.shown k [(D.SdiRxStatus.FMT_MATCH, ofBool (d.laneMatch k.el)), (D.SdiRxStatus.GROUP_ALIGNED, ofBool (alone || d.on D.SdiRxStatus.GROUP_ALIGNED k.el))]
  else if k.ix = 0x0910 ∧ k.sub = 5 then
    (match d.sdiCtx 0x41 k.el with
     | none => none
     | some c => d.shown k [(D.SdiTxStatus.TIMING_LOCKED, ofBool (d.outputLocked c)), (D.SdiTxStatus.RETIME_SPILL, ofBool (d.heldFor [6] c != 0)),
         (D.SdiTxStatus.FROZEN, ofBool (d.starved c || d.on D.SdiTxStatus.FROZEN k.el)),
         (D.SdiTxStatus.HOLD_BLOCKS, d.heldFor [3] c)])
  else none

/-- JOINED: are the multicast groups of a context's legs reported, in hardware mode (Table 06.16)? -/
def Dev.joined (d : Dev) (c : Nat) : Bool :=
  let legs := (d.legA c :: (if d.twoLegs c then [d.legB c] else [])).filter (fun l => isMulticast l.dst)
  d.hwJoins && d.rxActive.contains c && !legs.isEmpty
    && legs.all (fun l => (d.reported (8 * l.port + l.iface)).groups.any (fun g => g.group == l.dst))

/-- Areas 0x0A00 to 0x0AFF. -/
def Dev.viewNet (d : Dev) (k : Key) : Option Nat :=
  if k.ix = 0x0A00 ∧ k.sub = 3 then some (49152 - 4 * sumOf (fun c => d.rxPages c) d.rxActive)
  else if k.ix = 0x0A10 ∧ k.sub = 2 then d.shown k [(D.PortStatus.TX_WIRE_MBPS, Fmt.mbps (d.portCharge k.el)), (D.PortStatus.ON_SPARE, ofBool (d.onSpare k.el))]
  else if k.ix = 0x0A30 ∧ k.sub = 2 then
    let c := k.el
    let on := d.rxActive.contains c
    let recent := match (d.netRxSt c).acceptedAt with | some t => !d.past t 10000000 | none => false
    d.shown k [(D.NetRxStatus.RECEIVING, ofBool (on && recent)), (D.NetRxStatus.JOINED, ofBool (d.joined c)), (D.NetRxStatus.SPILL, ofBool (d.heldFor [7] c != 0)),
      (D.NetRxStatus.RX_PAGES, if on then d.rxPages c else 0), (D.NetRxStatus.FS_BLOCKS, d.heldFor [7] c)]
  else if k.ix = 0x0A31 ∧ k.sub = 2 then
    let c := 4096 + k.el
    let on := d.on D.Flow.ENABLE c && Kind.netTx (d.kind c)
    let recent := match (d.netTxSt c).goneAt with | some t => !d.past t (d.lossNs c) | none => false
    d.shown k [(D.NetTxStatus.SENDING, ofBool (on && recent)), (D.NetTxStatus.PACING_SPILL, ofBool (d.heldFor [8] c != 0)),
      (D.NetTxStatus.WIRE_KBPS, if on then ceilDiv (d.wireCharge c (d.txLegA c)) (1001 * 1000) else 0)]
  else none

/-! ## Ensemble, crosspoint, planes (Tables 07.14, 07.16, 03.15, 04.11) -/

/-- The bytes TAKE_RECORD reads (Table 03.12): the crosspoint as a base copy made now. -/
def Dev.takeRecord (d : Dev) : Bytes := (d.baseNow d.takeLog.gen).image

/-- Areas 0x0B00 to 0x0DFF. -/
def Dev.viewCross (d : Dev) (k : Key) : Option Nat :=
  if k.ix = 0x0B00 then
    (if k.sub = D.Ens.HEADSTOCK.sub then some (d.rd D.Straps.HEAD 0)
     else if k.sub = D.Ens.CARD.sub then some d.card else none)
  else if k.ix = D.GroupStatus.STATE.ix ∧ k.sub = D.GroupStatus.STATE.sub then
    d.shown k [(D.GroupStatus.RESERVED_MBPS, if k.el < 7 then d.groupReserved k.el else 0)]
  else if k.ix = 0x0C00 then
    (if k.sub = D.Xp.FS_EFN_BASE.sub then some d.fsEfnBase
     else if k.sub = D.Xp.COORDINATOR.sub then some (ofBool d.coordinates) else none)
  else none

/-- HEALTH of a plane: the warnings that last a second (Table 04.12). -/
def Dev.viewPlane (d : Dev) (k : Key) : Option Nat :=
  let f := D.Plane.HEALTH
  if f.rep ∧ k.sub = f.sub ∧ f.ix ≤ k.ix ∧ k.ix < f.ix + 2 then
    let x := d.planeSt (k.ix - f.ix)
    let lit (t : Option Nat) : Nat := match t with | some t => ofBool (!d.past t 1000000000) | none => 0
    d.shown k [(D.PlaneHealth.ECC_CORRECTED, lit x.eccAt), (D.PlaneHealth.MISMATCH_WARN, lit x.mismAt), (D.PlaneHealth.CRC_WARN, lit x.crcAt)]
  else if k.ix = 0x0D21 ∧ k.sub = 2 then
    -- the leg this twin sends (R124, Table 04.14)
    d.shown k [(D.LegStatus.LEG, if d.on D.LegCfg.TWIN_LEG k.el then d.rd D.Straps.PLANE_B 0 else 0)]
  else none

/-! ## Frame store (Tables 09.9 to 09.18) -/

/-- An ALLOC_TABLE element (Table 09.15). -/
def allocElement (a : Alloc) : Nat :=
  pack [(1, 1), (4, a.want.cls), (1, ofBool a.shrunk), (10, 0), (16, a.want.owner), (16, a.held), (16, a.want.full), (32, a.want.rate),
    (16, a.want.min), (16, a.lost.length)]

/-- A BLOCK_MAP element (Table 09.16). -/
def Dev.blockElement (d : Dev) (b : Nat) : Nat :=
  let st := d.rd D.ChanStatus.STATE (b % 32)
  let holder := d.store.alloc.find? (fun (a : Nat × Alloc) => a.2.blocks.contains (some b))
  let copying := d.store.copying.find? (fun (c : Copying) => c.target == b)
  let lost := match holder with
    | some a => a.2.lost.any (fun p => a.2.blocks.getD p.1 none == some b)
    | none => false
  let prot := match holder with | some a => a.2.want.cls == 10 | none => false
  let sub := d.store.subs.any (fun p => p.1 == b)
  let state := if st = 6 ∨ st = 4 then 5 else if d.store.withdrawn.contains b then 3 else if copying.isSome then 4
    else if holder.isSome then 1 else if 65024 ≤ b ∧ !sub then 2 else 0
  let handle := match holder, copying with | some a, _ => a.1 | none, some c => c.handle | none, none => 0
  pack [(3, state), (1, ofBool lost), (1, ofBool prot), (1, ofBool sub), (13, 0), (13, if state = 1 ∨ state = 4 then handle else 0)]

/-- The recorded span of a pool in µs, from its oldest cell to its newest. -/
def Dev.poolSpan (d : Dev) (p : Nat) : Nat :=
  match (d.poolSt p).cells.head?, (d.poolSt p).cells.getLast? with
  | some a, some b => (sdiff b.itime a.itime 48).toNat / 1000
  | _, _ => 0

/-- Area 0x0E00. -/
def Dev.viewStore (d : Dev) (k : Key) : Option Nat :=
  let chans := List.range 32
  if k.ix = 0x0E00 then
    (match k.sub with
     | 0x02 => some (countIf d.chanOpen chans)
     | 0x03 => some (sumOf (fun c => if d.chanOpen c then (d.candidates c).length else 0) chans)
     | 0x04 => some d.freeBlocks
     | 0x05 => some (sumOf (fun c => (d.reserveFree c).length) chans)
     | 0x06 => some d.storeCapacity
     | 0x07 => some d.storeUse
     | 0x0F => some d.store.subs.length
     | 0x11 => some d.store.alloc.length
     | _ => none)
  else if k.ix = 0x0E01 ∧ k.sub = 2 then some d.store.hostList.length
  else if k.ix = 0x0E01 ∧ k.sub = 1 then some (d.store.hostList.getD k.el 0)
  else if k.ix = 0x0E10 ∧ k.sub = 1 then
    let c := k.el
    d.shown k [(D.ChanStatus.FREE_BLOCKS, d.freeOn c), (D.ChanStatus.RESERVE_FREE, (d.reserveFree c).length),
      (D.ChanStatus.PPR_LEFT, if d.chanState c = 0 then 0 else capTo 16 (16 * Config.channelDies - (d.pprUsed c).length)),
      (D.ChanStatus.RESERVED_MBPS, d.chanRate c)]
  else if k.ix = 0x0E30 ∧ k.sub = 1 then some (match Assoc.find d.store.alloc k.el with | some a => allocElement a | none => 0)
  else if k.ix = 0x0E30 ∧ k.sub = 2 then some (d.blockElement k.el)
  else if k.ix = 0x0E40 ∧ k.sub = 2 then
    let held := match d.poolAlloc k.el with | some a => a.2.held | none => 0
    let rec_ := match d.boundTo 0x4C k.el with | some c => d.running c | none => false
    some (pack [(16, held), (1, ofBool rec_), (15, 0), (32, capTo 32 (d.poolSpan k.el))])
  else none

/-! ## Tiles (Tables 10.9, 10.10, 10.15) -/

/-- Has an ingress context emitted a cell in the last frame period? -/
def Dev.emittingNow (d : Dev) (c : Nat) : Bool := d.on D.FlowStatus.EMITTING c && !d.past (d.flowSt c).movedAt (d.lossNs c)

/-- Has an output of a tile emitted a cell in the last frame period? -/
def Dev.tileEmits (d : Dev) (t path : Nat) : Bool := match d.tileOut t path with | some c => d.emittingNow c | none => false

/-- Tile STATUS (Table 10.15); the stored bits are those that events set. -/
def Dev.tileElement (d : Dev) (k : Key) (t : Nat) : Option Nat :=
  let io := d.tileFormats t
  let run (f : Nat → Nat → Bool) : Nat := match io with | some (i, o) => ofBool (f i o) | none => 0
  let inType := match d.tileIn t 0 with | some c => d.takenType c | none => 0
  d.shown k [(D.TileStatus.DEINT, run deintOf), (D.TileStatus.INTERLACE, run interlaceOf), (D.TileStatus.SCALE, run scaleOf),
    (D.TileStatus.COLOUR, run (d.colourRuns t)),
    (D.TileStatus.GATEWAY, run (fun _ _ => inType != 0 && inType != d.tileOutType (tileIx t 0))),
    (D.TileStatus.FS_A, ofBool (d.fsOn t false)), (D.TileStatus.FS_B, ofBool (d.fsOn t true)), (D.TileStatus.GANG, ofBool (d.gang t)),
    (D.TileStatus.EMITTING_A, ofBool (d.tileEmits t 0)), (D.TileStatus.EMITTING_B, ofBool (d.tileEmits t 2)),
    (D.TileStatus.FS_SHORT, ofBool (d.fsShort t false || d.fsShort t true)),
    (D.TileStatus.FS_UNBACKED, ofBool (d.fsUnbacked t false || d.fsUnbacked t true))]

/-- Areas 0x0F00 and 0x6200. -/
def Dev.viewTiles (d : Dev) (k : Key) : Option Nat :=
  if k.ix = 0x0F00 then
    (match k.sub with
     | 0x02 => some (countIf (fun t => !d.on D.TileStatus.UNAVAILABLE t) (List.range 64))
     | 0x03 => some (countIf (fun p => d.rd D.TileMapEl.STATE p == PhysTile.SPARE) (List.range 68))
     | 0x05 => some (countIf (fun t => (d.tileSt t).forOutput.isSome) (List.range 64))
     | 0x0A => some (countIf (fun p => d.rd D.TileMapEl.STATE p == PhysTile.FAILED) (List.range 68))
     | _ => none)
  else if 0x0F20 ≤ k.ix ∧ k.ix < 0x0F30 then
    (if k.sub = 2 then some (d.ent ⟨k.ix, 1, 0⟩ % 2 ^ 32)
     else if k.sub = 3 then some (d.slotUsers (k.ix - 0x0F20)).length else none)
  else if 0x6200 ≤ k.ix ∧ k.ix < 0x6240 then
    let t := k.ix - 0x6200
    (match k.sub with
     | 0x06 => d.tileElement k t
     | 0x07 => some (d.tileLatency t)
     | 0x08 => some ((d.tileIn t 0).getD 0xFFFF)
     | 0x09 => some ((d.tileOut t 0).getD 0xFFFF)
     | _ => none)
  else none

/-! ## Composition (Tables 11.4 to 11.12) -/

/-- A VENEER_STATUS element (Table 11.8); the stored bits are those that events set. -/
def Dev.veneerElement (d : Dev) (k : Key) : Option Nat :=
  let a := d.veneerAlloc k.el
  let held := match a with | some a => a.2.held | none => 0
  d.shown k [(D.VeneerStatus.ALLOCATED, ofBool (held != 0)), (D.VeneerStatus.USERS, (d.veneerLayers k.el).length), (D.VeneerStatus.BLOCKS, held),
    (D.VeneerStatus.HANDLE, match a with | some a => a.1 | none => 0)]

/-- An engine that no head may be given: it failed BIST or is in the knot map. -/
def Dev.engineGone (d : Dev) (e : Nat) : Bool := d.on D.LayerStatus.UNAVAILABLE e

/-- Areas 0x1000, 0x6100. -/
def Dev.viewHeads (d : Dev) (k : Key) : Option Nat :=
  let es := List.range 192
  if k.ix = 0x1000 then
    (if k.sub = 2 then some (countIf (fun e => d.rd D.Layer.HEAD e == 0xFF && !d.engineGone e) es)
     else if k.sub = 6 then some (countIf (fun e => d.engineGone e || d.on D.LayerStatus.ENGINE_FAILED e) es) else none)
  else if k.ix = 0x1010 ∧ k.sub = 2 then d.veneerElement k
  else if 0x6100 ≤ k.ix ∧ k.ix < 0x610C then
    let h := k.ix - 0x6100
    (match k.sub with
     | 0x05 => d.shown k [(D.HeadStatus.RUNNING, ofBool (d.headRuns h)),
         (D.HeadStatus.TIMING_LOCKED, ofBool (d.dpllState (d.rd D.HeadTiming.DPLL h) == DpllState.LOCKED))]
     | 0x06 => some (d.headEngines h).length
     | 0x07 => some ((d.headOut h).getD 0xFFFF)
     | 0x08 => some (sumOf (fun e => 2 ^ e) (d.headEngines h))
     | _ => none)
  else none

/-! ## Audio, repair, ring log, bus (Tables 12.6, 12.12, 19.14, 18.18, 18.19) -/

/-- The enabled context bound to an audio bundle. -/
def Dev.bundleCtx (d : Dev) (b : Nat) : Option Nat := (d.boundTo 0x4B b).orElse (fun _ => d.boundTo 0x0B b)

/-- A TIER_STATUS element (Table 19.19). -/
def Dev.tierElement (d : Dev) (t : Nat) : Nat :=
  let l := d.records t
  let oldest := match l.head? with | some v => recSeq t v | none => 0
  let newest := l.getLast?
  pack [(64, oldest), (64, match newest with | some v => recSeq t v | none => 0), (256, match newest with | some v => recDigest t v | none => 0),
    (1, ofBool (d.tier t).broken), (7, 0), (24, 0)]

/-- Areas 0x1100 to 0x13FF. -/
def Dev.viewRest (d : Dev) (k : Key) : Option Nat :=
  if k.ix = 0x1100 then
    (match k.sub with
     | 0x02 => some (posFrom (d.now + 1))
     | 0x05 => some (delayPool - d.delayUsed [])
     | 0x06 => some (sumOf (fun (a : Nat × Alloc) => if a.2.want.cls == 10 && a.2.want.tag == 1 then a.2.held else 0) d.store.alloc)
     | _ => none)
  else if k.ix = 0x1120 ∧ k.sub = 2 then
    d.shown k [(D.BundleStatus.BOUND, ofBool (d.bundleCtx k.el).isSome), (D.BundleStatus.CONTEXT, (d.bundleCtx k.el).getD 0)]
  else if k.ix = 0x1140 ∧ k.sub = 2 then
    d.shown k [(D.SapStatus.LOCKED, ofBool (d.on D.SapCfg.ENABLE k.el && d.timeAligned (d.rd D.SapCfg.DPLL k.el)))]
  else if k.ix = 0x1200 then
    (if k.sub = 2 then some d.knot.entries.length
     else if k.sub = 3 then some d.knotGen
     else if k.sub = 6 then some (countIf (fun (e : Knot) => e.action == KnotAct.SPARE_IN) (Knot.newest d.knot.entries)) else none)
  else if k.ix = 0x1210 ∧ k.sub = 3 then some (d.tierElement k.el)
  else if k.ix = 0x1210 ∧ k.sub = 7 then some d.ring.start
  else if k.ix = 0x1310 ∧ k.sub = 1 then
    d.shown k [(D.TargetStatus.ISOLATED, ofBool (d.isolation k.el != 0)), (D.TargetStatus.CAUSE, d.isolation k.el)]
  else if k.ix = 0x1310 ∧ k.sub = 2 then
    d.shown k [(D.MasterStatus.IN_RESET, ofBool (d.masterReset k.el)),
      (D.MasterStatus.OUTSTANDING, capTo 4 (countIf (fun (f : Flight) => f.master == k.el) d.bus.flight))]
  else none

/-! ## Flow records (Tables 02.9, 02.12) -/

/-- The STATUS of a flow context: EMITTING follows the time of the last cell. -/
def Dev.viewFlow (d : Dev) (k : Key) : Option Nat :=
  if 0x4000 ≤ k.ix ∧ k.ix < 0x6000 then
    let c := k.ix - 0x4000
    if k.sub = 5 ∧ 4096 ≤ c then some ((d.source c).getD 0)
    else if k.sub = 0x12 then
      let moved := if c < 4096 then d.emittingNow c
        else d.running c && d.rd D.Flow.CELLS c != 0 && !d.past (d.flowSt c).movedAt (d.lossNs c)
      let frozen := d.on D.FlowStatus.FROZEN c || (d.starved c && decide (1 < Fmt.links (d.format c)))
      d.shown k [(D.FlowStatus.EMITTING, ofBool moved), (D.FlowStatus.FROZEN, ofBool frozen)]
    else none
  else none

/-! ## Reading -/

/-- The computed value of a key, where its entry has one. -/
def Dev.viewOf (d : Dev) (k : Key) : Option Nat :=
  if k.ix < 0x0400 then d.viewBase k
  else if k.ix < 0x0800 then d.viewControl k
  else if k.ix < 0x0A00 then d.viewLanes k
  else if k.ix < 0x0B00 then d.viewNet k
  else if k.ix < 0x0E00 then (d.viewCross k).orElse (fun _ => d.viewPlane k)
  else if k.ix < 0x0F00 then d.viewStore k
  else if k.ix < 0x1000 then d.viewTiles k
  else if k.ix < 0x1100 then d.viewHeads k
  else if k.ix < 0x4000 then d.viewRest k
  else if k.ix < 0x6000 then d.viewFlow k
  else if 0x6200 ≤ k.ix then d.viewTiles k
  else d.viewHeads k

/-- What a key reads. -/
def Dev.view (d : Dev) (k : Key) : Nat := (d.viewOf k).getD (d.ent k)

/-- A value of n bytes as an octet string. -/
def octets (n v : Nat) : Bytes := ⟨n, v % 256 ^ n⟩

/-- The records RING_DATA reads: those RING_SELECT names, 0x00 where one is not held (R537). -/
def Dev.ringData (d : Dev) : Bytes :=
  let v := d.ent (D.RingSelect.TIER.key 0)
  let t := bitsOf v 120 8
  let n := bitsOf v 112 8
  let first := bitsOf v 0 64
  let held := d.records t
  (List.range n).foldl (fun (b : Bytes) i =>
    b.app (octets (tierBytes t) ((held.find? (fun r => recSeq t r == first + i)).getD 0))) Bytes.none

/-- Every byte an entry reads: one value, or its elements in order; entries whose size varies have the size they have now. -/
def Dev.object (d : Dev) (r : Dict.Row) (ix : Nat) : Bytes :=
  let sub := r.sub
  if ix = 0x0001 ∧ sub = 1 then Dict.allRows.foldl (fun (b : Bytes) (x : Dict.Row) => b.app (octets 16 (Dict.directoryElement x))) Bytes.none
  else if ix = 0x0200 ∧ sub = 0x0C then (match d.sec.quote with | some q => octets r.size q | none => Bytes.none)
  else if ix = 0x0C11 ∧ sub = 3 then d.takeRecord
  else if ix = 0x0E01 ∧ sub = 1 then d.store.hostList.foldl (fun (b : Bytes) x => b.app (octets 2 x)) Bytes.none
  else if ix = 0x1200 ∧ sub = 5 then d.knot.entries.foldl (fun (b : Bytes) (x : Knot) => b.app (octets 32 x.word)) Bytes.none
  else if ix = 0x1210 ∧ sub = 2 then d.ringData
  else if r.elem = 0 then octets r.size (d.view ⟨ix, sub, 0⟩)
  else (List.range (r.size / r.elem)).foldl (fun (b : Bytes) e => b.app (octets r.elem (d.view ⟨ix, sub, e⟩))) Bytes.none

/-- The keys of an entry's elements. -/
def keysOf (r : Dict.Row) (ix : Nat) : List Key := (List.range r.count).map (fun e => ⟨ix, r.sub, e⟩)

end Sys2Proof.Machine
end

