-- ==== Sys2Proof/Machine/RcpRead.lean ====
section
/-! DEFINITION. Reading the dictionary over RCP: READ, the segments of a DOM transfer in either direction, the end of a transfer
(R10, R12, R412, R413). -/

namespace Sys2Proof.Machine

open Sys2Proof

/-! ## Reading an entry -/

/-- R10, R12: a WO entry is never read; an RO or RC entry names the lowest role that may read it. -/
def readFail (role : Nat) (r : Dict.Row) : Option Nat :=
  if r.acc = 2 ∨ ((r.acc = 0 ∨ r.acc = 3) ∧ role < r.role) then some St.ACCESS else none

/-- The checkers' counts since they locked, or were last read, go into PRBS_COUNTERS (R237): how many bits a checker compared, and
how many of them differed, is a free value (the far end's clock sets it). -/
def Dev.prbsSettle (d : Dev) : Dev :=
  d.phy.prbs.foldl (fun (d : Dev) (x : Nat × Nat) =>
    let bits := if x.2 = d.wall then 0 else d.freeVal
    let errs := d.drawn.freeVal % (bits + 1)
    let d := ((d.drawnN 2).sat D.PrbsCounters.BITS x.1 bits).sat D.PrbsCounters.ERRORS x.1 errs
    { d with phy := { d.phy with prbs := d.phy.prbs.map (fun (y : Nat × Nat) => if y.1 = x.1 then (y.1, d.wall) else y) } }) d

/-- Read a whole entry; an RC entry is cleared in the same operation (R10). -/
def Dev.fetch (d : Dev) (r : Dict.Row) (ix : Nat) : Dev × Bytes :=
  let d := if ix = 0x0810 ∧ r.sub = 3 then d.prbsSettle else d
  let d := if r.sub = 3 ∧ (ix = 0x0910 ∨ ix = 0x0A10 ∨ ix = 0x0110) then d.linkErrors else d
  let d := if ix = 0x0B10 then d.lanesOut else d
  let b := d.object r ix
  if r.acc = 3 then (d.clearKeys (keysOf r ix), b) else (d, b)

/-- The body of a READ (R412, R413). -/
def Dev.readBody (d : Dev) (role ix sub : Nat) : Dev × Reply :=
  match Dict.row ix sub with
  | none => (d, Reply.of St.NO_ENTRY)
  | some r =>
    match readFail role r with
    | some st => (d, Reply.of st)
    | none =>
      if r.ty = 13 ∨ 1100 < r.size then (d, Reply.of St.TYPE)
      else let x := d.fetch r ix; (x.1, ⟨St.OK, x.2⟩)

/-- READ (R412). -/
def execRead (q : Rcp) (ix sub : Nat) (s : State) : Host.Outcome State Fault Refusal :=
  s.act (serve (.read q.again ix sub) q true true (some ix) (fun w d => d.readBody w.role ix sub))

/-! ## Transfers (R413) -/

/-- The transfer in progress of a session, SESSION 0 among them, and whether one has ended by a gap of 1 s. -/
def Dev.xfer (d : Dev) (id : Nat) : Option Transfer × Bool :=
  if id = 0 then (d.rcp.anonXfer, d.rcp.anonDead)
  else match d.session? id with
    | some x => (x.xfer, x.xferDead)
    | none => (none, false)

/-- Set the transfer in progress of a session. -/
def Dev.setXfer (d : Dev) (id : Nat) (t : Option Transfer) (dead : Bool) : Dev :=
  if id = 0 then { d with rcp := { d.rcp with anonXfer := t, anonDead := dead } }
  else d.setSession id (fun x => { x with xfer := t, xferDead := dead })

/-- A gap of 1 s has ended a transfer. -/
def Dev.gapped (d : Dev) (t : Transfer) : Bool := d.past t.seenAt 1000000000

/-- The transfer that a later segment goes on with: it must be of the same entry and direction and start where the last segment
ended (STATE), within 1 s (TIMEOUT, once). -/
def Dev.goOn (d : Dev) (id : Nat) (write : Bool) (ix sub offset : Nat) : Except (Dev × Nat) Transfer :=
  let x := d.xfer id
  if x.2 then .error (d.setXfer id none false, St.TIMEOUT)
  else
    match x.1 with
    | none => .error (d, St.STATE)
    | some t =>
      if d.gapped t then .error (d.setXfer id none false, St.TIMEOUT)
      else if t.write ≠ write ∨ t.ix ≠ ix ∨ t.sub ≠ sub ∨ t.next ≠ offset then .error (d, St.STATE)
      else .ok t

/-- One segment of a read: TOTAL and the bytes. -/
def Dev.readSegment (d : Dev) (id : Nat) (t : Transfer) (offset length : Nat) : Dev × Reply :=
  let n := min length (t.total - offset)
  let seg : Bytes := ((⟨t.total, t.data⟩ : Bytes).drop offset).take n
  (d.setXfer id (some { t with next := offset + n, seenAt := d.wall }) false, ⟨St.OK, (octets 4 t.total).app seg⟩)

/-- The body of a READ_DOM. -/
def Dev.readDomBody (d : Dev) (w : Who) (ix sub flags offset length : Nat) : Dev × Reply :=
  if (Dict.row ix sub).isNone then (d, Reply.of St.NO_ENTRY)
  else if length = 0 ∨ 1024 < length ∨ flags % 128 ≠ 0 ∨ 256 ≤ flags then (d, Reply.of St.RANGE)
  else if flags = 0 then
    match d.goOn w.session false ix sub offset with
    | .error e => (e.1, Reply.of e.2)
    | .ok t => d.readSegment w.session t offset length
  else
    let d := d.setXfer w.session none false
    match Dict.row ix sub with
    | none => (d, Reply.of St.NO_ENTRY)
    | some r =>
      match readFail w.role r with
      | some st => (d, Reply.of st)
      | none =>
        if r.ty < 11 then (d, Reply.of St.TYPE)
        else if (d.object r ix).len < offset then (d, Reply.of St.RANGE)
        else
          let x := d.fetch r ix
          x.1.readSegment w.session ⟨false, ix, sub, offset, offset, x.2.val, x.2.len, x.1.wall⟩ offset length

/-- READ_DOM (R413): FIRST takes a snapshot of the whole object, from which the later segments come. -/
def execReadDom (q : Rcp) (ix sub flags offset length : Nat) (s : State) : Host.Outcome State Fault Refusal :=
  s.act (serve (.readDom q.again ix sub flags offset length) q true true (some ix) (fun w d => d.readDomBody w ix sub flags offset length))

/-- TRANSFER_TIMEOUT (R413). -/
def execTransferTimeout (dt session : Nat) (s : State) : Host.Outcome State Fault Refusal :=
  s.act fun d =>
    let d := d.elapse dt
    match (d.xfer session).1 with
    | some t => if d.gapped t then d.setXfer session none true else d
    | none => d

end Sys2Proof.Machine
end

