-- ==== Sys2Proof/Machine/Ring.lean ====
section
/-! DEFINITION. The ring log at work (R531 to R537): LOG_INTERVAL_END to RING_VERIFY_DONE. -/

namespace Sys2Proof.Machine

open Sys2Proof

/-- R531: the end of an interval: its record, the daily record when one is due, the next interval. -/
def Dev.intervalTurn (d : Dev) (ok dailyOk : Bool) (kind flags stop start : Nat) : Dev :=
  ((d.intervalEnd ok kind flags stop).daily dailyOk stop).intervalStart start 0

/-- LOG_INTERVAL_END (R531, R535): a multiple of 600 s of device time, or a step of device time, has ended the interval; `ok` and `dailyOk`
say whether the two writes pass their read-back. -/
def execLogIntervalEnd (dt : Nat) (ok dailyOk : Bool) (s : State) : Host.Outcome State Fault Refusal :=
  s.act fun d =>
    let d := d.elapse dt
    if !d.flashOpen then d
    else
      match d.ring.stepped with
      | some (stop, start) => d.intervalTurn ok dailyOk 2 32 stop start
      | none =>
        let m := (d.ring.start / 600000000000 + 1) * 600000000000
        if m ≤ d.now then d.intervalTurn ok dailyOk 1 0 m m else d

/-- EVENT_RECORD_WRITE (R536): the oldest event without a record gets it. -/
def execEventRecordWrite (dt : Nat) (ok : Bool) (s : State) : Host.Outcome State Fault Refusal :=
  s.act fun d =>
    let d := d.elapse dt
    if !d.flashOpen then d
    else
      match d.events with
      | [] => d
      | e :: l => ({ d with events := l }).writeEvent ok e

/-- R537, R539: a write of RING_CMD. -/
def Dev.ringCmd (d : Dev) (v : Nat) : Dev × Nat :=
  let tier := bitsOf v 0 8
  if bitsOf v 24 8 ≠ 1 ∨ bitsOf v 8 16 ≠ 0 ∨ 2 < tier then (d, St.RANGE)
  else if d.ring.verify.isSome then (d, St.BUSY)
  else
    let d := d.setRing (fun r => { r with verify := some (tier, d.wall) })
    ((d.setEnt (D.VerifyResult.STATE.key 0) 0 |>.wr D.VerifyResult.STATE 0 1).wr D.VerifyResult.TIER 0 tier, St.OK)

/-- RING_CMD_VERIFY (R537). -/
def execRingCmdVerify (q : Rcp) (tier : Nat) (s : State) : Host.Outcome State Fault Refusal :=
  let v := 2 ^ 24 + tier % 256
  s.act (serveWrite (.ringCmdVerify q.again tier) q 0x1210 4 ⟨4, v⟩ fun _ d => d.ringCmd v)

/-- R537: the outcome of a verification of a tier. -/
def Dev.verified (d : Dev) (t : Nat) : Dev :=
  let r := chainCheck t none (d.records t) 0 none
  let d := (d.wr D.VerifyResult.STATE 0 (if r.2.isSome then 3 else 2)).wr D.VerifyResult.CHECKED 0 r.1
  (d.wr D.VerifyResult.FIRST_BAD_SEQ 0 (r.2.getD 0)).setRing (fun r => { r with verify := none })

/-- RING_VERIFY_DONE (R537): the flash has been read at no more than 64 MiB/s. -/
def execRingVerifyDone (dt : Nat) (s : State) : Host.Outcome State Fault Refusal :=
  s.act fun d =>
    let d := d.elapse dt
    match d.ring.verify with
    | none => d
    | some (t, began) =>
      if d.inReset ∨ !d.past began ((d.records t).length * tierBytes t * 1000000000 / 67108864) then d else d.verified t

end Sys2Proof.Machine
end

