-- ==== Sys2Proof/Machine/RcpWrite.lean ====
section
/-! DEFINITION. Writing the dictionary over RCP: what each entry does with a value that has passed the common checks, the staging of
CW values, WRITE, WRITE_DOM, MODE_WRITE, GROUP_ABORT (R4, R10, R33, R413, R419, R420, R422, R425, R428). -/

namespace Sys2Proof.Machine

open Sys2Proof

/-- The bytes as a number below 256 to their count. -/
def Bytes.cut (v : Bytes) : Bytes := ⟨v.len, v.val % 256 ^ v.len⟩

/-! ## WO entries -/

/-- R422: the commit group is discarded, and the holder's next COMMIT returns STATE. -/
def Dev.abortGroup (d : Dev) : Dev :=
  match d.rcp.group with
  | some g => (d.dropGroup).setSession g.holder (fun x => { x with groupEnd := 2 })
  | none => d

/-- A write of a WO entry takes effect when it completes (R10). -/
def Dev.writeOnly (d : Dev) (w : Who) (q : Rcp) (ix sub : Nat) (v : Bytes) : Dev × Nat :=
  if ix = 0x0100 then (d.abortGroup, St.OK)
  else if ix = 0x0200 then
    (if sub = 0x08 then d.ownerCmd w v else if sub = 0x0B then (d.makeQuote v.val, St.OK) else d.debugCmd v)
  else if ix = 0x0300 then (if sub = 0x02 then d.updateCmd w v.val else d.manifestIn w v)
  else if ix = 0x0301 then d.imageIn w sub v
  else if ix = 0x0400 then d.faultCmd w v.val
  else if ix = 0x0510 then d.resetCmd v.val
  else if ix = 0x0600 then d.servoCmd w.session q.op v.val
  else if ix = 0x0700 then d.dpllCmd v.val
  else if ix = 0x0800 then d.laneCmd v.val
  else if ix = 0x0A01 then d.ctrlTx v
  else if ix = 0x0C10 then d.take w q.seq q.op v.val
  else if ix < 0x0D00 then d.salvoControl (ix - 0x0C20) v.val w q.seq q.op
  else if ix = 0x0D00 then d.planeCmd v.val
  else if ix = 0x0D20 then d.twinCmd v.val
  else if ix = 0x0E00 then d.chanCmd v.val
  else if ix = 0x0F00 then d.tileCmd v.val
  else if ix = 0x1000 then d.veneerCmd v.val
  else if ix = 0x1010 then d.veneerWrite v
  else if ix = 0x1210 then d.ringCmd v.val
  else d.busCmd v.val

/-! ## RW entries -/

/-- R33, R428: a MODE value is journalled and waits for the operation in progress to complete; a further write replaces the waiting
value, and the value now in effect ends the wait. -/
def Dev.modeWrite (d : Dev) (ix v : Nat) : Dev × Nat :=
  let k : Key := ⟨ix, 1, 0⟩
  let rest := d.rcp.waiting.filter (fun (x : Nat × Nat) => x.1 != ix)
  if d.pwrWarn then (d, St.DEFER)
  else
    let d := d.journalSingle [(k, v)]
    ({ d with rcp := { d.rcp with waiting := if v = d.ent k then rest else rest ++ [(ix, v)] } }, St.OK)

/-- R278: HOST_LIST takes block numbers from a position on; an evacuation that waits for listed blocks goes on, and shrunk
allocations regrow (R272). -/
def Dev.hostListWrite (d : Dev) (offset : Nat) (v : Bytes) : Dev × Nat :=
  let first := offset / 2
  let n := v.len / 2
  let old := d.store.hostList
  if old.length < first then (d, St.RANGE)
  else
    let d := d.setStore (fun s => { s with hostList := old.take first ++ (List.range n).map (fun j => domElement v 2 j) ++ old.drop (first + n) })
    ((d.each (List.range 32) (fun d c => d.evacCopies c)).regrow, St.OK)

/-- The keys of the elements that bytes from an offset cover. -/
def keysFrom (r : Dict.Row) (ix offset : Nat) (v : Bytes) : List Key :=
  if r.elem = 0 then [⟨ix, r.sub, 0⟩] else (List.range (v.len / r.elem)).map (fun j => ⟨ix, r.sub, offset / r.elem + j⟩)

/-- The values those bytes give the keys. -/
def valuesFrom (r : Dict.Row) (ix offset : Nat) (v : Bytes) : Store :=
  if r.elem = 0 then [(⟨ix, r.sub, 0⟩, v.val)]
  else (List.range (v.len / r.elem)).map (fun j => (⟨ix, r.sub, offset / r.elem + j⟩, domElement v r.elem j))

/-- Values go into the dictionary. -/
def Dev.putAll (d : Dev) (l : Store) : Dev := l.foldl (fun (d : Dev) (x : Key × Nat) => d.setEnt x.1 x.2) d

/-- R539: RING_SELECT names a tier and 1 to 64 records. -/
def ringSelectOk (v : Nat) : Bool :=
  decide (bitsOf v 120 8 ≤ 2) && decide (1 ≤ bitsOf v 112 8) && decide (bitsOf v 112 8 ≤ 64) && bitsOf v 64 48 == 0

/-- A write of an RW entry takes effect when it completes (R10); a P entry is in the journal by then (R425). -/
def Dev.writeNow (d : Dev) (r : Dict.Row) (ix offset : Nat) (v : Bytes) : Dev × Nat :=
  let sub := r.sub
  if sub = 1 ∧ r.ty = 2 then d.modeWrite ix v.val
  else if ix = 0x0520 then d.islandWrite offset v
  else if 0x0C20 ≤ ix ∧ ix < 0x0C30 ∧ sub = 2 then d.writeChanges (ix - 0x0C20) offset v
  else if 0x0C20 ≤ ix ∧ ix < 0x0C30 ∧ sub = 4 then d.writeTakeTime (ix - 0x0C20) v.val
  else if ix = 0x0E01 then d.hostListWrite offset v
  else if 0x0F28 ≤ ix ∧ ix < 0x0F30 then kept [⟨ix, sub, 0⟩] (d.lutWrite (ix - 0x0F20) v.val)
  else if 0x6000 ≤ ix ∧ ix < 0x6100 ∧ sub = 9 then kept [⟨ix, sub, 0⟩] (d.tallyWrite (ix - 0x6000) v.val)
  else if ix = 0x1210 ∧ ringSelectOk v.val = false then (d, St.RANGE)
  else
    let d := d.putAll (valuesFrom r ix offset v)
    if r.pers then kept (keysFrom r ix offset v) (d, St.OK) else (d, St.OK)

/-! ## CW entries -/

/-- A flow record that a take inserted with its tile (R305). -/
def Dev.insertedFlow (d : Dev) (c : Nat) : Bool :=
  (d.kind c == 0x09 || d.kind c == 0x49) && d.rd D.FlowBind.CLASS c == 4 && d.on D.TileStatus.INSERTED (d.bindIx c % 64)

/-- Conditions on a staging write that the owning chapters set beside range and type: R43, R64, R161, R219, R305, R445, R475. -/
def Dev.guard (d : Dev) (k : Key) (v : Nat) : Option Nat :=
  if 0x4000 ≤ k.ix ∧ k.ix < 0x6000 then
    let c := k.ix - 0x4000
    if k.sub = 5 ∧ 4096 ≤ c then some St.ACCESS
    else if d.on D.FlowStatus.PLANNER_OWNED c ∨ d.insertedFlow c = true then some St.STATE
    else if k.sub = 9 ∧ d.rd D.Ens.MODE 0 = 0 then some St.STATE
    else none
  else if 0x6200 ≤ k.ix ∧ k.ix < 0x6240 then (if d.on D.TileStatus.INSERTED (k.ix - 0x6200) then some St.STATE else none)
  else if k.ix = 0x0410 then (if !sourceNamed k.el && v != 0 then some St.RANGE else none)
  else if k.ix = 0x0A10 ∧ k.sub = 4 then
    (if bit v 31 && bitsOf v 24 5 / 8 != k.el then some St.RANGE else none)
  else if k.ix = 0x0B00 ∧ k.sub = 2 then (if d.on D.Straps.HEAD 0 then none else some St.STATE)
  else if k.ix = 0x0200 ∧ k.sub = 6 then (if policyBad v then some St.RANGE else none)
  else none

/-- Put a value into a set of staged values; a value equal to the default is staged like any other. -/
def stagePut (l : Store) (k : Key) (v : Nat) : Store := Assoc.insertAt Key.lt (Assoc.erase l k) k v

/-- R419, R420, R472: values are staged in the session's commit group, which the first CW write opens. -/
def Dev.stageAll (d : Dev) (w : Who) (l : Store) : Dev × Nat :=
  match l.findSome? (fun (x : Key × Nat) => d.guard x.1 x.2) with
  | some st => (d, st)
  | none =>
    if d.upd = Upd.ACTIVATING ∨ (d.groupHolder ≠ 0 ∧ d.groupHolder ≠ w.session) then (d, St.BUSY)
    else
      let staged := l.foldl (fun (a : Store) (x : Key × Nat) => stagePut a x.1 x.2) d.staged
      if 4096 < entriesIn staged ∨ 8388608 < storeBytes staged then (d, St.RESOURCE)
      else
        let d := { d with rcp := { d.rcp with group := some ⟨w.session, staged, d.wall⟩ } }
        (d.setSession w.session (fun x => { x with groupEnd := 0 }), St.OK)

/-! ## The commands -/

/-- A value that has passed the common checks does what its access kind lays down (R10). -/
def Dev.writeEntry (d : Dev) (w : Who) (q : Rcp) (ix sub offset : Nat) (v : Bytes) : Dev × Nat :=
  match Dict.row ix sub with
  | none => (d, St.NO_ENTRY)
  | some r =>
    if r.acc = 4 then d.stageAll w (valuesFrom r ix offset v)
    else if r.acc = 2 then d.writeOnly w q ix sub v
    else d.writeNow r ix offset v

/-- WRITE (R10, R412). -/
def execWrite (q : Rcp) (ix sub : Nat) (v : Bytes) (s : State) : Host.Outcome State Fault Refusal :=
  s.act (serveWrite (.write q.again ix sub v) q ix sub (Bytes.cut v) (fun w d => d.writeEntry w q ix sub 0 (Bytes.cut v)))

/-- The complete transfer acts as one write (R413). -/
def Dev.writeWhole (d : Dev) (w : Who) (q : Rcp) (t : Transfer) : Dev × Nat :=
  let v : Bytes := ⟨t.next - t.start, t.data⟩
  match d.domFail w t.ix t.sub t.start v with
  | some st => (d, st)
  | none => d.writeEntry w q t.ix t.sub t.start v

/-- The first segment of a write transfer: the entry may be written, and is moved in segments. -/
def Dev.firstSegment (d : Dev) (w : Who) (ix sub offset len : Nat) : Option Nat :=
  match Dict.row ix sub with
  | none => some St.NO_ENTRY
  | some r =>
    if r.acc = 0 ∨ r.acc = 3 then some St.ACCESS
    else match d.roleFail w r.role with
      | some st => some st
      | none => if r.ty < 11 then some St.TYPE else if r.size < offset + len then some St.RANGE else none

/-- The body of a WRITE_DOM: bit 7 of FLAGS is FIRST, bit 6 LAST. -/
def Dev.writeDomBody (d : Dev) (w : Who) (q : Rcp) (ix sub flags offset : Nat) (v : Bytes) : Dev × Nat :=
  let first := bit flags 7
  if (Dict.row ix sub).isNone then (d, St.NO_ENTRY)
  else if v.len = 0 ∨ 1024 < v.len ∨ flags % 64 ≠ 0 ∨ 256 ≤ flags then (d, St.RANGE)
  else
    let d := if first then d.setXfer w.session none false else d
    let got := if first then
        (match d.firstSegment w ix sub offset v.len with
         | some st => Except.error (d, st)
         | none => .ok ⟨true, ix, sub, offset, offset, 0, 0, d.wall⟩)
      else d.goOn w.session true ix sub offset
    match got with
    | .error e => e
    | .ok t =>
      if (match Dict.row ix sub with | some r => r.size | none => 0) < offset + v.len then (d, St.RANGE)
      else
        let t : Transfer := { t with next := offset + v.len, data := t.data * 256 ^ v.len + v.val, total := t.total + v.len, seenAt := d.wall }
        if bit flags 6 then (d.setXfer w.session none false).writeWhole w q t
        else (d.setXfer w.session (some t) false, St.OK)

/-- WRITE_DOM (R413): the LAST segment acts as one write. -/
def execWriteDom (q : Rcp) (ix sub flags offset : Nat) (v : Bytes) (s : State) : Host.Outcome State Fault Refusal :=
  s.actMem (serve (.writeDom q.again ix sub flags offset v) q false false (some ix) (fun w d =>
    let r := d.writeDomBody w q ix sub flags offset (Bytes.cut v)
    (r.1, Reply.of r.2)))

/-- MODE_WRITE (R33, R428): a write of the MODE entry of an area. -/
def execModeWrite (q : Rcp) (ix : Nat) (v : Bytes) (s : State) : Host.Outcome State Fault Refusal :=
  s.act (serveWrite (.modeWrite q.again ix v) q ix 1 (Bytes.cut v) (fun w d => d.writeEntry w q ix 1 0 (Bytes.cut v)))

/-- GROUP_ABORT (R422). -/
def execGroupAbort (q : Rcp) (v : Bytes) (s : State) : Host.Outcome State Fault Refusal :=
  s.act (serveWrite (.groupAbort q.again v) q 0x0100 0x0B (Bytes.cut v) (fun _ d => (d.abortGroup, St.OK)))

end Sys2Proof.Machine
end

