-- ==== Sys2Proof/Machine/CommitCheck.lean ====
section
/-! DEFINITION. The checks of a commit group (R421): those the chapters set on single areas, and the seven orders of Table 02.6 with the
conditions of Tables 06.7, 10.6 and 11.2 at the order each gives. `o` is the device before the group, `d` with its values applied. -/

namespace Sys2Proof.Machine

open Sys2Proof

/-- A failing check: the status and the entry it names. -/
abbrev Bad := Nat × Key

/-- The first of some things that a test refuses. -/
def firstBad {α : Type} (l : List α) (st : Nat) (key : α → Key) (ok : α → Bool) : Option Bad :=
  (l.find? (fun a => !ok a)).map (fun a => (st, key a))

/-- The first failure among checks in order. -/
def firstOf (l : List (Option Bad)) : Option Bad := l.findSome? (fun x => x)

/-- An entry of the record of a context. -/
def flowKey (sub c : Nat) : Key := ⟨0x4000 + c, sub, 0⟩

/-! ## What a group touches -/

/-- Elements of an entry among the staged keys. -/
def elsOf (keys : List Key) (ix sub : Nat) : List Nat := keys.filterMap (fun k => if k.ix = ix ∧ k.sub = sub then some k.el else none)

/-- Records of an index range among the staged keys. -/
def recsOf (keys : List Key) (ix n : Nat) : List Nat :=
  (keys.filterMap (fun k => if ix ≤ k.ix ∧ k.ix < ix + n then some (k.ix - ix) else none)).eraseDups

/-- The DPLLs whose element the group writes. -/
def dpllsOf (keys : List Key) : List Nat := elsOf keys 0x0720 1

/-- The contexts a group touches (Table 02.6): those whose record it writes, and those bound to an element it writes that belongs
to them. -/
def Dev.touched (d : Dev) (keys : List Key) : List Nat :=
  let own := touchedFlows keys
  let rx := (elsOf keys 0x0A30 1).filter (fun c => Kind.netRx (d.kind c))
  let tx := ((elsOf keys 0x0A31 1 ++ elsOf keys 0x0D21 1).map (fun e => 4096 + e)).filter (fun c => Kind.netTx (d.kind c))
  let sdi := (elsOf keys 0x0910 1).filterMap (fun l => d.sdiCtx 1 l) ++ (elsOf keys 0x0910 4).filterMap (fun l => d.sdiCtx 0x41 l)
  let play := (elsOf keys 0x0E40 3).filter (fun c => d.kind c == 0x0C)
  let bound := d.enabled.filter (fun c =>
    let k := d.kind c
    let i := d.bindIx c
    ((k == 0x0C || k == 0x4C) && (elsOf keys 0x0E40 1).contains i) || ((k == 0x0B || k == 0x4B) && (elsOf keys 0x1120 1).contains i)
      || (k == 0x41 && d.on D.SdiTxCfg.TIMED i && (dpllsOf keys).contains (d.rd D.SdiTxCfg.DPLL i)))
  (own ++ rx ++ tx ++ sdi ++ play ++ bound).eraseDups

/-- The tiles a group touches. -/
def Dev.touchedTiles (d : Dev) (keys cs : List Key) (ctxs : List Nat) : List Nat :=
  let bound := ctxs.filterMap (fun c => if d.kind c = 0x09 ∨ d.kind c = 0x49 then some (d.bindIx c % 64) else none)
  let timed := (List.range 64).filter (fun t => [false, true].any (fun b => d.fsOn t b && (dpllsOf cs).contains (d.fsDpll t b)))
  (recsOf keys 0x6200 64 ++ bound ++ timed).eraseDups

/-- The layer engines a group touches: their records, their LAYER_IN, the veneer they show, the head they belong to. -/
def Dev.touchedLayers (d : Dev) (keys : List Key) (ctxs : List Nat) : List Nat :=
  let bound := ctxs.filterMap (fun c => if d.kind c = 0x4A then some (d.bindIx c) else none)
  let shown := ((elsOf keys 0x1010 1).map (fun v => d.veneerLayers v)).flatten
  let headed := ctxs.filterMap (fun c => if d.kind c = 0x0A then some (d.bindIx c) else none)
  (recsOf keys 0x6000 192 ++ bound ++ shown ++ (List.range 192).filter (fun e => headed.contains (d.rd D.Layer.HEAD e))).eraseDups

/-- The heads a group touches. -/
def Dev.touchedHeads (o d : Dev) (keys : List Key) (ctxs : List Nat) : List Nat :=
  let of_ := ((recsOf keys 0x6000 192).map (fun e => [o.rd D.Layer.HEAD e, d.rd D.Layer.HEAD e])).flatten
  let bound := ctxs.filterMap (fun c => if d.kind c = 0x0A then some (d.bindIx c) else none)
  let timed := (List.range 12).filter (fun h => (dpllsOf keys).contains (d.rd D.HeadTiming.DPLL h))
  ((recsOf keys 0x6100 12 ++ of_ ++ bound ++ timed).filter (fun h => decide (h < 12))).eraseDups

/-! ## Areas of their own -/

/-- R157: a port's lanes begin at a multiple of their number, its other lanes are DISABLED, and FEC suits the mode. -/
def Dev.portOk (d : Dev) (p : Nat) : Bool :=
  let m := d.rd D.PortCfg.MODE p
  let n := portLanes m
  (m == 0 || (p % n == 0 && decide (p + n ≤ 32) && (List.range n).all (fun i => i == 0 || d.rd D.PortCfg.MODE (p + i) == 0)))
    && (d.rd D.PortCfg.FEC p == 0 || m == 1)

/-- The ports an enabled context uses as leg A or leg B (R159). -/
def Dev.portsUsed (d : Dev) (c : Nat) : List Nat :=
  if Kind.netRx (d.kind c) then d.bindIx c :: (if d.twoLegs c then [(d.legB c).port] else [])
  else if Kind.netTx (d.kind c) then (d.txLegs c).map (fun l => l.port)
  else []

/-- R164: the enabled interfaces of a port have different VLAN_IDs. -/
def Dev.vlansOk (d : Dev) (p : Nat) : Bool := (((List.range 8).filterMap (fun i => d.ifVlan p i)).eraseDups).length == ((List.range 8).filterMap (fun i => d.ifVlan p i)).length

/-- R166: a unicast destination lies in the interface's prefix or there is a gateway of its family. -/
def Dev.routeOk (d : Dev) (l : TxLeg) : Bool :=
  let i := 8 * l.port + l.iface
  isMulticast l.dst || d.inPrefix i l.dst
    || (if isV4 l.dst then d.rd D.IfCfg.IPV4_GATEWAY i != 0 else d.rd D.IfCfg.IPV6_GATEWAY i != 0)

/-- R481: SAFE with scope INSTANCE on a source whose instances name egress contexts. -/
def Dev.scopeOk (d : Dev) (src : Nat) : Bool :=
  !d.on D.SourceCfg.SAFE src || d.on D.SourceCfg.SAFE_SCOPE src
    || (let k := sourceKind src
        k == 2 || k == 3 || (k == 1 && src / 16 != 15 && src != Src.PHY_LANE_DEGRADED && src != Src.PHY_SPARE_UNFIT))

/-- R384: a period of at least 100 ns, and a shorter width. -/
def Dev.pulseOk (d : Dev) (k : Nat) : Bool :=
  let n := d.rd D.PulseCfg.PERIOD_NUM k
  let m := d.rd D.PulseCfg.PERIOD_DEN k
  m != 0 && decide (100 * m ≤ n) && decide (d.rd D.PulseCfg.WIDTH_NS k * m < n)

/-- The candidates of a DPLL. -/
def Dev.candidatesOf (d : Dev) (k : Nat) : List Nat :=
  [d.rd D.DpllCfg.CAND0 k, d.rd D.DpllCfg.CAND1 k, d.rd D.DpllCfg.CAND2 k, d.rd D.DpllCfg.CAND3 k].filter (fun r => decide (r < 133))

/-- R388, R391, R406: an element of REF_CFG. -/
def Dev.refOk (d : Dev) (r : Nat) : Bool :=
  let ty := d.rd D.RefCfg.TYPE r
  let f := d.rd D.RefCfg.F_PIN r
  let fm := d.rd D.RefCfg.FORMAT r
  let hard := d.rd D.RefCfg.HARD_LIMIT_PPB r
  decide (d.rd D.RefCfg.SOFT_LIMIT_PPB r ≤ hard)
    && (List.range 8).all (fun k => !d.on D.DpllCfg.ENABLE k || !(d.candidatesOf k).contains r || decide (hard ≤ 1000 * d.rd D.DpllCfg.PULL_PPM k))
    && (if r < 4 then
          (f == 7 || (ty == 1 && f != r && d.rd D.RefCfg.TYPE f == 2 && d.rd D.RefCfg.FORMAT f == fm))
            && (!(ty == 1 || ty == 2) || fm % 256 == 0)
        else ty == 0 && d.rd D.RefCfg.EDGE r == 0 && fm == 0 && f == 7)

/-- R387: every candidate of an enabled DPLL is enabled. -/
def Dev.dpllOk (d : Dev) (k : Nat) : Bool :=
  !d.on D.DpllCfg.ENABLE k || (d.candidatesOf k).all (fun r => d.on D.RefCfg.ENABLE r)

/-- R392: is a DPLL named by an enabled TIMED output, frame synchroniser, head or serial audio port? -/
def Dev.dpllNamed (d : Dev) (k : Nat) : Bool :=
  d.enabled.any (fun c => d.kind c == 0x41 && d.on D.SdiTxCfg.TIMED (d.bindIx c) && d.rd D.SdiTxCfg.DPLL (d.bindIx c) == k)
    || (List.range 64).any (fun t => [false, true].any (fun b => d.fsOn t b && d.fsDpll t b == k))
    || (List.range 12).any (fun h => (d.headOut h).isSome && d.rd D.HeadTiming.DPLL h == k)
    || (List.range 8).any (fun p => d.on D.SapCfg.ENABLE p && d.rd D.SapCfg.DPLL p == k)

/-- Is the signalling of a lane's TEST_RATE PAM4? None where TEST_RATE names no rate of the lane (Table 08.7). -/
def Dev.testPam4 (d : Dev) (e : Nat) : Option Bool :=
  let r := d.rd D.LaneCfg.TEST_RATE e
  if e < 128 then (if 1 ≤ r ∧ r ≤ 9 then some false else none)
  else if e < 164 then (if r = 1 then some false else if r = 2 ∨ r = 3 then some true else none)
  else if r ≤ 4 then some (decide (3 ≤ r)) else none

/-- R233, R235: the taps of an element, and the test pattern for its rate. -/
def Dev.laneCfgOk (d : Dev) (e : Nat) : Bool :=
  let p := d.rd D.LaneCfg.PRBS_PATTERN e
  decide (d.rd D.LaneCfg.TX_PRE e + d.rd D.LaneCfg.TX_MAIN e + d.rd D.LaneCfg.TX_POST e ≤ 63)
    && (match d.testPam4 e with
        | none => d.rd D.LaneCfg.TEST_RATE e == 0 && d.rd D.LaneCfg.PRBS_MODE e == 0
        | some true => decide (4 ≤ p)
        | some false => decide (p ≤ 4))

/-- R151, R191: HOLD is selected only where it is armed and the kind has it. -/
def holdArmed (kind arm : Nat) : Bool := kind != 1 || arm == 1

/-- The checks on single areas, in the order the entries stand in the directory. -/
def Dev.areaChecks (o d : Dev) (keys : List Key) (ctxs : List Nat) : List (Option Bad) :=
  let el (ix sub : Nat) : Nat → Key := fun e => ⟨ix, sub, e⟩
  let any (ix : Nat) : Bool := keys.any (fun k => k.ix == ix)
  let delayed := ((d.outputs ++ (d.listed D.XpTable.VALID 4096).map (fun n => 4096 + n) ++ d.xp.pend.map (fun (p : Nat × Pend) => p.1)).eraseDups).filter
    (fun c => d.playout c != o.playout c)
  let uniform := d.rd D.Xp.DELAY_POLICY 0 == 1
  [ firstBad (elsOf keys 0x0410 1) St.RANGE (el 0x0410 1) d.scopeOk,
    firstBad (elsOf keys 0x0630 2) St.RANGE (el 0x0630 2) d.pulseOk,
    firstBad (if any 0x0710 || any 0x0720 then elsOf keys 0x0710 1 ++ (List.range 4).filter (fun r => d.rd D.RefCfg.F_PIN r != 7)
        ++ ((dpllsOf keys).map d.candidatesOf).flatten else []) St.RANGE (el 0x0710 1) d.refOk,
    firstBad (if any 0x0710 || any 0x0720 then List.range 8 else []) St.RANGE (el 0x0720 1) d.dpllOk,
    firstBad (dpllsOf keys) St.STATE (el 0x0720 1) (fun k => !(o.on D.DpllCfg.ENABLE k && !d.on D.DpllCfg.ENABLE k && d.dpllNamed k)),
    firstBad (elsOf keys 0x0810 1) St.RANGE (el 0x0810 1) d.laneCfgOk,
    firstBad (elsOf keys 0x0810 1) St.STATE (el 0x0810 1) (fun e => !(d.laneTested e && d.laneUsed e)),
    firstBad (elsOf keys 0x0910 4) St.RANGE (el 0x0910 4)
      (fun l => holdArmed (d.rd D.SdiTxCfg.SAFE_KIND l) (d.rd D.SdiTxCfg.HOLD_ARM l)),
    firstBad (ctxs.filter (fun c => d.kind c == 0x41 && d.on D.Flow.ENABLE c)) St.RANGE (fun c => ⟨0x0910, 4, d.bindIx c⟩)
      (fun c => !d.on D.SdiTxCfg.TIMED (d.bindIx c) || decide (d.rd D.SdiTxCfg.OUT_PHASE_NS (d.bindIx c) < Fmt.periodNs (d.format c))),
    firstBad (if (elsOf keys 0x0A10 1).isEmpty then [] else List.range 32) St.RANGE (el 0x0A10 1) d.portOk,
    firstBad (elsOf keys 0x0A10 1) St.STATE (el 0x0A10 1) (fun p => o.ent (D.PortCfg.MODE.key p) == d.ent (D.PortCfg.MODE.key p)
      || !d.enabled.any (fun c => (d.portsUsed c).contains p)),
    firstBad (elsOf keys 0x0A20 1) St.RANGE (el 0x0A20 1) (fun i => d.vlansOk (i / 8)),
    firstBad (ctxs.filter (fun c => Kind.netTx (d.kind c) && d.on D.Flow.ENABLE c)) St.RANGE (fun c => ⟨0x0A31, 1, c - 4096⟩)
      (fun c => (d.txLegs c).all d.routeOk),
    firstBad (ctxs.filter (fun c => Kind.netTx (d.kind c))) St.RANGE (fun c => ⟨0x0A31, 1, c - 4096⟩) (fun c =>
      let k := d.kind c
      let safe := d.rd D.NetTxCfg.SAFE_KIND (c - 4096)
      holdArmed safe (d.rd D.NetTxCfg.HOLD_ARM (c - 4096)) && !(safe == 1 && (k == 0x44 || k == 0x45 || k == 0x46))
        && !(d.on D.LegCfg.TWIN_LEG (c - 4096) && d.txTwo c)),
    firstBad ((keys.filter (fun k => k.ix == 0x0C00 && (k.sub == 2 || k.sub == 3))).map (fun k => k.sub)) St.STATE
      (fun s => ⟨0x0C00, s, 0⟩) (fun _ => d.on D.Straps.HEAD 0),
    firstBad (if keys.any (fun k => k.ix == 0x0C00 && (k.sub == 6 || k.sub == 7)) then [0] else []) St.RANGE (fun _ => ⟨0x0C00, 7, 0⟩)
      (fun _ => decide (d.rd D.Xp.VOTE_LEAD_US 0 + 1000 ≤ d.rd D.Xp.SALVO_MIN_LEAD_US 0)),
    firstBad (if uniform && keys.any (fun k => k.ix == 0x0C00 && (k.sub == 2 || k.sub == 3)) then d.others else []) St.RANGE
      (fun _ => ⟨0x0C00, if keys.contains ⟨0x0C00, 3, 0⟩ then 3 else 2, 0⟩)
      (fun m => decide (Report.needs (d.reportOf m) ≤ d.rd D.Xp.UNIFORM_DELAY_NS 0)),
    firstBad (if !uniform && keys.contains ⟨0x0C00, 2, 0⟩ then d.others else []) St.RANGE (fun _ => ⟨0x0C00, 2, 0⟩)
      (fun m => !Report.short (d.reportOf m)),
    firstBad delayed St.RANGE (fun c => ⟨0x0C11, 2, c - 4096⟩) (fun c => (d.sourcesOf c).all (fun e => decide (d.required e ≤ d.playout c))),
    firstBad (elsOf keys 0x0D21 1) St.RANGE (el 0x0D21 1) (fun e => !d.on D.LegCfg.TWIN_LEG e || Kind.netTx (d.kind (4096 + e))),
    firstBad (elsOf keys 0x0E40 1) St.RANGE (el 0x0E40 1) (fun p =>
      decide (d.rd D.PoolCfg.MIN_BLOCKS p ≤ d.rd D.PoolCfg.BLOCKS p) && (!d.on D.PoolCfg.ENABLE p || d.rd D.PoolCfg.MIN_BLOCKS p != 0)),
    firstBad (ctxs.filter (fun c => d.kind c == 0x0C && d.on D.Flow.ENABLE c)) St.RANGE (fun c => ⟨0x0E40, 3, c⟩)
      (fun c => d.rd D.PlayCfg.LAG_US c != 0),
    firstBad (if any 0x0F00 then List.range 64 else []) St.RESOURCE (fun _ => ⟨0x0F00, 4, 0⟩) (fun t =>
      !(bit (d.rd D.Tiles.TAKE_TILE_MASK 0) t && !bit (o.rd D.Tiles.TAKE_TILE_MASK 0) t && d.boundTiles.contains t)),
    firstBad (elsOf keys 0x1010 1) St.STATE (el 0x1010 1) (fun v =>
      !(o.on D.VeneerCfg.ENABLE v && !d.on D.VeneerCfg.ENABLE v && d.veneerLayers v != [])),
    firstBad (((elsOf keys 0x1110 1 ++ elsOf keys 0x1110 2)
        ++ (ctxs.filter (fun c => d.kind c == 1 || d.kind c == 0x41)).map d.bindIx).eraseDups.filter (fun n => decide (n < 128)))
      St.RANGE (fun n => ⟨0x1110, if (elsOf keys 0x1110 1).contains n then 1 else 2, n⟩) d.embedOk,
    firstBad (elsOf keys 0x1130 1) St.RANGE (el 0x1130 1) d.toneOk,
    firstBad (elsOf keys 0x1140 1) St.RANGE (el 0x1140 1) d.sapOk,
    firstBad (recsOf keys 0x7000 2048) St.RANGE (fun r => ⟨0x7000 + r, if (keys.contains ⟨0x7000 + r, 5, 0⟩) then 5 else 3, 0⟩) d.destOk ]

/-! ## Table 02.6 -/

/-- R194, order 2: the ports of a network context's legs are not DISABLED, and the interfaces are enabled. -/
def Dev.legsOk (d : Dev) (c : Nat) : Bool :=
  let ok (p i : Nat) : Bool := decide (p < 32) && d.rd D.PortCfg.MODE p != 0 && (d.ifVlan p i).isSome
  if Kind.netRx (d.kind c) then ok (d.legA c).port (d.legA c).iface && (!d.twoLegs c || ok (d.legB c).port (d.legB c).iface)
  else if Kind.netTx (d.kind c) then (d.txLegs c).all (fun l => ok l.port l.iface)
  else true

/-- R282, R283: PATH suits the kind and the cell type: the ancillary path carries ANC alone, which no other path takes. -/
def Dev.tilePathOk (d : Dev) (c : Nat) : Bool :=
  !(d.kind c == 0x49 || d.kind c == 0x09) || decide (bitsOf (d.bindIx c) 8 2 < 3)

/-- R194, order 4: a sender type suits the kind: one of ST 2110-21 for the ST 2110-20 and ST 2110-22 kinds, none but 0 for another (log 154). -/
def Dev.senderOk (d : Dev) (c : Nat) : Bool :=
  let k := d.kind c
  let st := if Kind.netRx k then d.rd D.NetRxCfg.SENDER_TYPE c else if Kind.netTx k then d.rd D.NetTxCfg.SENDER_TYPE (c - 4096) else 0
  if k = 2 ∨ k = 3 ∨ k = 0x42 ∨ k = 0x43 then st != 3 else st == 0

/-- R184: packet bytes and audio shapes. -/
def Dev.packetsOk (d : Dev) (c : Nat) : Bool :=
  let k := d.kind c
  let audio (n : Nat) (r96 slow : Bool) : Bool := decide (1 ≤ n) && decide (n ≤ (if r96 || slow then 8 else 64))
  if k = 0x42 then
    let n := d.rd D.NetTxCfg.PKT_BYTES (c - 4096)
    !d.on D.NetTxCfg.PACKING (c - 4096) || (decide (200 ≤ n) && decide (n ≤ 1420) && n % Fmt.pgroup (d.format c) == 0)
  else if k = 4 ∨ k = 5 then audio (d.rd D.NetRxCfg.CHANNELS c) (d.on D.NetRxCfg.RATE_96K c) (d.on D.NetRxCfg.PTIME_1MS c)
  else if k = 0x44 ∨ k = 0x45 then
    audio (d.rd D.NetTxCfg.CHANNELS (c - 4096)) (d.on D.NetTxCfg.RATE_96K (c - 4096)) (d.on D.NetTxCfg.PTIME_1MS (c - 4096))
  else true

/-- R393: the DPLL of a TIMED SDI output. -/
def Dev.timedOk (d : Dev) (c : Nat) : Bool :=
  let l := d.bindIx c
  !(d.kind c == 0x41 && d.on D.SdiTxCfg.TIMED l)
    || (d.on D.DpllCfg.ENABLE (d.rd D.SdiTxCfg.DPLL l) && rateSuits (Fmt.fps (d.format c)) (d.dpllFps (d.rd D.SdiTxCfg.DPLL l)))

/-- R171: two legs whose keys conflict. -/
def legClash (a b : Leg) : Bool :=
  a.port == b.port && a.iface == b.iface && a.dst == b.dst && a.udp == b.udp && (a.src == 0 || b.src == 0 || a.src == b.src)

/-- The legs of an enabled receive context. -/
def Dev.rxLegs (d : Dev) (c : Nat) : List Leg := if d.twoLegs c then [d.legA c, d.legB c] else [d.legA c]

/-- R171: no leg of a context conflicts with another leg. -/
def Dev.legsFree (d : Dev) (c : Nat) : Bool :=
  !Kind.netRx (d.kind c)
    || (!(d.twoLegs c && legClash (d.legA c) (d.legB c))
        && d.enabled.all (fun b => b == c || !(decide (b < 4096) && Kind.netRx (d.kind b))
            || !(d.rxLegs c).any (fun x => (d.rxLegs b).any (fun y => legClash x y))))

/-- Receive pages held by the contexts that are enabled or not yet IDLE (R176). -/
def Dev.pagesUsed (d : Dev) : Nat :=
  sumOf (fun c => d.rxPages c) (d.active.filter (fun c => decide (c < 4096)))

/-- R277: a RECORD or PLAYBACK context binds an enabled pool, a RECORD as the only one. -/
def Dev.poolOk (d : Dev) (c : Nat) : Bool :=
  let k := d.kind c
  !(k == 0x0C || k == 0x4C)
    || (d.on D.PoolCfg.ENABLE (d.bindIx c)
        && (k == 0x0C || !d.enabled.any (fun b => b != c && d.kind b == 0x4C && d.bindIx b == d.bindIx c)))

/-- Blocks can be had for everything the group asks (R148, R182, R186, R191, R255, R278, R288, R295, R321, R329, R345): a group that asks
for no more than before is not refused. -/
def Dev.blocksOk (o d : Dev) : Bool := decide (d.blocksShort d.wants ≤ max 0 (o.blocksShort o.wants) ) || decide (d.blocksShort d.wants ≤ (d.grantable : Int))

/-- Orders 1 to 6 of Table 02.6. -/
def Dev.flowTable (o d : Dev) (keys : List Key) (ctxs : List Nat) : List (Option Bad) :=
  let on := ctxs.filter (fun c => d.on D.Flow.ENABLE c)
  -- checks 2 to 4 are made on every record whose entries the group changes, enabled or not
  let recs := (ctxs.filter (fun c => d.kind c != 0 && (d.on D.Flow.ENABLE c || (touchedFlows keys).contains c)))
  let tiles := d.touchedTiles keys keys ctxs
  let layers := d.touchedLayers keys ctxs
  let heads := Dev.touchedHeads o d keys ctxs
  let audio := on.filter (fun c => d.kind c == 0x0B || d.kind c == 0x4B)
  let first : Key := keys.headD ⟨0, 0, 0⟩
  [ firstBad ctxs St.RANGE (flowKey 4) d.flowCheck1,
    firstBad recs St.RANGE (flowKey 6) (fun c => d.bindOk c && d.tilePathOk c),
    firstBad on St.RANGE (flowKey 6) d.legsOk,
    firstBad layers St.RANGE (fun e => ⟨0x6000 + e, 2, 0⟩) d.layerCheck2,
    firstBad heads St.RANGE (fun h => ⟨0x6100 + h, 2, 0⟩) d.headCheck2,
    firstBad (elsOf keys 0x1010 1) St.RANGE (fun v => ⟨0x1010, 1, v⟩) d.veneerCheck2,
    firstBad audio St.RANGE (flowKey 6) (fun c => d.bundleOk (d.kind c) (d.bindIx c)),
    firstBad recs St.RANGE (flowKey 5) d.efnOk,
    firstBad ctxs St.RANGE (flowKey 9) d.pathOk,
    firstBad recs St.FORMAT (flowKey 7) (fun c => d.formatOk c && (!d.on D.Flow.ENABLE c || (d.packetsOk c && d.senderOk c && d.timedOk c))),
    firstBad tiles St.FORMAT (fun t => ⟨0x6200 + t, 2, 0⟩) d.tileCheck4,
    firstBad heads St.FORMAT (fun h => ⟨0x6100 + h, 2, 0⟩) d.headCheck4,
    firstBad layers St.FORMAT (fun e => ⟨0x6000 + e, 5, 0⟩) d.layerCheck4,
    firstBad layers St.LINEBUF (fun e => ⟨0x6000 + e, 5, 0⟩) d.lineBufOk,
    firstBad on St.RESOURCE (flowKey 5) d.efnAlone,
    firstBad on St.RESOURCE (flowKey 6) d.unique,
    firstBad on St.RESOURCE (flowKey 6) d.legsFree,
    firstBad on St.RESOURCE (flowKey 6) (fun c => d.poolOk c),
    firstBad audio St.RESOURCE (flowKey 6) (fun c => !d.enabled.any (fun b => d.bundleClash c b)),
    firstBad (tiles.filter (fun t => on.any (fun c => (d.kind c == 0x09 || d.kind c == 0x49) && d.bindIx c % 64 == t))) St.RESOURCE
      (fun t => ⟨0x6200 + t, 2, 0⟩) d.tileCheck5,
    firstBad ((recsOf keys 0x6000 192).filter (fun e => keys.contains ⟨0x6000 + e, 2, 0⟩)) St.RESOURCE (fun e => ⟨0x6000 + e, 2, 0⟩) d.layerCheck5,
    if d.pagesUsed ≤ 12288 ∨ d.pagesUsed ≤ o.pagesUsed then none else some (St.RESOURCE, first),
    if Dev.blocksOk o d then none else some (St.RESOURCE, first),
    firstBad (if d.rd D.Ens.MODE 0 = 1 then on else []) St.STATE (flowKey 9) d.planned ]

/-- Order 7: the ledger admits the group's net change on the planes, the dowel groups and the frame store (R26, R28, R29), and every
port's wire budget holds (R193). `d` holds the new reservations and routes. The paths of other members' flows that the group's outputs hold
count as well, with their PEER_IN contexts. -/
def Dev.ledgerCheck (o d : Dev) (keys : List Key) : Option Bad :=
  let first : Key := keys.headD ⟨0, 0, 0⟩
  -- what a flow of another member needs that an output brought in by the group holds (chapter 07)
  let far := if d.rd D.Ens.MODE 0 = 1 then [] else d.awaited
  let new := far.filter (fun e => !o.awaited.contains e)
  let ok := admits planeCapacity (o.planeUseWith (o.awaited.map o.farRate)) (d.planeUseWith (far.map d.farRate)) && d.pathsFit new && admits d.storeCapacity o.storeUse d.storeUse
    && (List.range 7).all (fun g => admits (d.rd D.GroupStatus.CAPACITY_MBPS g) (o.groupUse g) (d.groupUse g))
    && (List.range 32).all (fun p => d.wireOk p || decide (d.portCharge p ≤ o.portCharge p))
  if ok then none else some (St.BANDWIDTH, first)

end Sys2Proof.Machine
end

