-- ==== Sys2Proof/Machine/Commit.lean ====
section
/-! DEFINITION. COMMIT: the checks, the journal, the values, and what each area does at the commit (R421). In every step `o` is the device
before the group, `d` has its values, `keys` are the entries the group writes, `ctxs` the contexts it touches. -/

namespace Sys2Proof.Machine

open Sys2Proof

/-- Has the group a value of an index? -/
def writesIx (keys : List Key) (ix : Nat) : Bool := keys.any (fun k => k.ix == ix)

/-- Has the group a value of an entry? -/
def writesSub (keys : List Key) (ix sub : Nat) : Bool := keys.any (fun k => k.ix == ix && k.sub == sub)

/-! ## The values -/

/-- R236: the lanes under test that the group brings into service; the commit that does so ends the test. -/
def Dev.testsEnded (d : Dev) (keys : List Key) : List Nat :=
  (d.listed D.LaneCfg.PRBS_MODE 236).filter (fun e => d.laneTested e && d.laneUsed e && !keys.contains ⟨0x0810, 1, e⟩)

/-- The values the commit puts into the dictionary: those staged, and tests that end. -/
def Dev.groupValues (o : Dev) (staged : Store) : Store :=
  let d := o.putAll staged
  staged ++ (d.testsEnded (staged.map (fun (x : Key × Nat) => x.1))).map (fun e =>
    let k := D.LaneCfg.PRBS_MODE.key e
    (k, setBits (d.ent k) D.LaneCfg.PRBS_MODE.lo D.LaneCfg.PRBS_MODE.w 0))

/-- The values in the dictionary, delay lines in their new places (R345). -/
def Dev.withValues (o : Dev) (items : Store) : Dev :=
  let keys := items.map (fun (x : Key × Nat) => x.1)
  (o.putAll items).placeLines ((recsOf keys 0x7000 2048).filter (fun r => keys.contains ⟨0x7000 + r, 4, 0⟩))

/-- Reservations (R25) and, under host-assisted path planning, the routes that the committed PATH entries lay down (R66, R563). -/
def Dev.withCharges (o d : Dev) (ctxs : List Nat) : Dev :=
  d.each (ctxs.filter (fun c => decide (c < 4096))) (fun d c =>
    let d := d.wr D.Flow.RESERVED_MBPS c (d.reservation c)
    if d.rd D.Ens.MODE 0 ≠ 1 then d
    else
      let old := o.rd D.Flow.EFN c
      let efn := d.rd D.Flow.EFN c
      let d := if o.on D.Flow.ENABLE c && (old != efn || !d.on D.Flow.ENABLE c) then d.reroute old [] else d
      if d.on D.Flow.ENABLE c then (d.showRelay c).reroute efn (pathVias (d.rd D.Flow.PATH c)) else d)

/-! ## Flows (R59, R60, R72, R481) -/

/-- Contexts start, stop and restart; allocations follow (R255, R256). -/
def Dev.commitFlows (o d : Dev) (ctxs : List Nat) : Dev :=
  let moved := d.active.filter (fun c => d.conf c != (d.flowSt c).conf)
  let d := d.each ((ctxs ++ moved).eraseDups) (fun d c => d.flowCommit c)
  let d := (d.each (ctxs.filter (fun c => d.kind c == 1)) (fun d c => d.freezeIf c)).matchSweep
  let d := d.each (ctxs.filter (fun c => decide (4096 ≤ c) && d.on D.Flow.ENABLE c && d.forced c)) (fun d c => d.safeNow c)
  (Dev.holdDelays o d).settle

/-- The originating flows the group brings, ends or changes, and the flows of outputs it starts, ends or gives another delay: DEST_MAP, the
paths, and what the other members are told. -/
def Dev.commitOrigins (o d : Dev) (ctxs : List Nat) : Dev :=
  let own := ctxs.filter (fun c => decide (c < 4096) && (Kind.originates (o.kind c) || Kind.originates (d.kind c)))
  let efns := ((own.map (fun c => [o.rd D.Flow.EFN c, d.rd D.Flow.EFN c])).flatten).eraseDups
  let d := d.each efns (fun d e =>
    let d := d.showDest e
    if (o.originOf e).isSome ∨ (d.originOf e).isSome then d.announce e else d)
  let peers := (ctxs.filter (fun c => decide (c < 4096) && d.kind c == 8)).map (fun c => d.rd D.Flow.EFN c)
  let d := d.each peers (fun d e => d.showDest e)
  let d := if d.rd D.Ens.MODE 0 = 1 then d
    else d.each (ctxs.filter (fun c => decide (c < 4096) && d.kind c == 8 && d.on D.Flow.ENABLE c)) (fun d c => d.adoptPeer c)
  let outs := ctxs.filter (fun c => decide (4096 ≤ c)) ++ d.outputs.filter (fun c => d.playout c != o.playout c)
  let held := ((outs.map d.sourcesOf).flatten).eraseDups
  (d.each held (fun d e => d.flowUse e)).report

/-! ## Time and references -/

/-- References, the PTP follower, the time outputs (R384, R387, R395). -/
def Dev.commitTime (d : Dev) (keys : List Key) : Dev :=
  let d := if writesIx keys 0x0700 || writesIx keys 0x0710 || writesIx keys 0x0720 then d.refCommit else d
  let d := if writesIx keys 0x0610 || writesIx keys 0x0A20 then d.ptpCommit else d
  let d := if writesSub keys 0x0630 1 then d.pulseCommit 0 else d
  d.each (elsOf keys 0x0630 2) (fun d e => d.pulseCommit (e + 1))

/-! ## Pictures and audio -/

/-- Layers and heads wait for their boundary (R328); a veneer of one buffer shows it (R329); a pool that ends, or changes its size, begins anew
(R277). -/
def Dev.commitPictures (o d : Dev) (keys : List Key) : Dev :=
  let d := d.each (recsOf keys 0x6000 192) (fun d e => d.layerCommit e)
  let d := d.each (recsOf keys 0x6100 12) (fun d h => d.headCommit h)
  let d := if recsOf keys 0x6000 192 = [] then d else d.flipsLeft
  let d := d.each ((elsOf keys 0x1010 1).filter (fun v => !d.on D.VeneerCfg.DOUBLE v || !d.on D.VeneerCfg.ENABLE v)) (fun d v =>
    ({ d with flip := d.flip.filter (fun f => f.1 != v) }.flag D.VeneerStatus.FLIP_PENDING v false).flag D.VeneerStatus.FRONT v false)
  d.each ((elsOf keys 0x0E40 1).filter (fun p => !d.on D.PoolCfg.ENABLE p || d.rd D.PoolCfg.BLOCKS p != o.rd D.PoolCfg.BLOCKS p))
    (fun d p => d.setPool p (fun _ => {}))

/-- Serial ports, fades and gain ramps (R344, R346, R360). -/
def Dev.commitAudio (d : Dev) (keys : List Key) : Dev :=
  let d := d.each (elsOf keys 0x1140 1) (fun d p => d.sapCommit p)
  let d := d.each ((elsOf keys 0x1110 1).filter (fun n => !d.on D.DeembedCfg.ENABLE n)) (fun d n => d.deembedStop n)
  let recs := recsOf keys 0x7000 2048
  let faded := recs.filter (fun r => [2, 4, 5].any (fun s => keys.contains ⟨0x7000 + r, s, 0⟩))
  let mapped := if writesIx keys 0x1150 then d.destRecs.filter (fun r => d.on D.Follow.ENABLE r) else []
  let d := d.each ((faded ++ mapped).eraseDups) (fun d r => d.commitFade r)
  d.each (recs.filter (fun r => keys.contains ⟨0x7000 + r, 3, 0⟩)) (fun d r => d.gainCommit r)

/-! ## Ports and lanes -/

/-- R157, R158: a port whose element changed goes down, and trains in its new mode. -/
def Dev.commitPorts (o d : Dev) (keys : List Key) : Dev :=
  d.each (elsOf keys 0x0A10 1) (fun d p =>
    let k := D.PortCfg.MODE.key p
    let new := d.ent k
    if o.ent k = new then d
    else
      let d := (((d.setEnt k (o.ent k)).portDown p).setEnt k new)
      d.wr D.PortStatus.LINK p (if d.rd D.PortCfg.MODE p = 0 then 0 else 1))

/-- R161, R162: remaps the group starts, reverses or moves; a GPIO pin that a standing remap no longer names goes low, the pin it now
names goes high. -/
def Dev.commitSpares (o d : Dev) (keys : List Key) : Dev :=
  d.each (elsOf keys 0x0A10 4) (fun d s =>
    let k := D.SpareCfg.REMAP.key s
    let new := d.ent k
    let lane := d.rd D.SpareCfg.LANE s
    let want := d.on D.SpareCfg.REMAP s
    let keeps := want && d.rd D.SpareStatus.LANE s == lane
    if d.on D.SpareStatus.IN_USE s && keeps then
      (let a := o.rd D.SpareCfg.GPIO s
       let b := d.rd D.SpareCfg.GPIO s
       if a = b then d
       else
         let d := if a < 16 then d.emit (.pin (Pin.GPIO + a) 0) else d
         if b < 16 then d.emit (.pin (Pin.GPIO + b) 1) else d)
    else
      let d := if d.on D.SpareStatus.IN_USE s then (((d.setEnt k (o.ent k)).unmap s).setEnt k new) else d
      if want then d.remap s lane false knotCommand else d)

/-- R232, R236, R238: a test that begins, changes or ends; an equaliser held or released; scans of lanes that leave service. -/
def Dev.commitLanes (o d : Dev) (keys : List Key) : Dev :=
  let els := elsOf keys 0x0810 1
  let tests := els.filter (fun e => d.rd D.LaneCfg.PRBS_MODE e != o.rd D.LaneCfg.PRBS_MODE e)
  let d := if tests.any (fun e => d.phy.prbs.any (fun x => x.1 == e)) then d.prbsSettle else d
  let d := d.each tests (fun d e =>
    { d with phy := { d.phy with prbs := d.phy.prbs.filter (fun x => x.1 != e) } }.flag D.LaneStatus.PRBS_LOCK e false)
  let d := d.each els (fun d e =>
    let now := d.wall
    let l := d.phy.frozen.filter (fun x => x.1 != e)
    if !d.on D.LaneCfg.ADAPT_FREEZE e then { d with phy := { d.phy with frozen := l } }
    else if o.on D.LaneCfg.ADAPT_FREEZE e then d
    else { d with phy := { d.phy with frozen := Assoc.insertAt natLt l e now } })
  d.each ((d.phy.scans.map (fun x => x.1)).filter (fun e => o.laneUsed e && !d.laneUsed e)) (fun d e => d.scanAbort e)

/-! ## The ensemble, the twin, the records -/

/-- Groups (R216), the pair (Table 04.8), the headstock's playout policy (R68). -/
def Dev.commitEnsemble (d : Dev) (keys : List Key) : Dev :=
  let d := if writesSub keys 0x0C00 2 || writesSub keys 0x0C00 3 then
      d.each ((List.range 7).filter (fun g => d.groupUp g)) (fun d g => d.sharePolicy g)
    else d
  let d := if writesSub keys 0x0D00 7 then d.repairPlanes else d
  let d := if writesSub keys 0x0B10 1 then d.groupsCheck else d
  if writesSub keys 0x0D20 3 then d.twinCommit else d

/-- R430, R432, R445: the network identity record, the management values that take effect 1 s from now, the ownership record. -/
def Dev.commitRecords (o d : Dev) (keys : List Key) : Dev :=
  let d := if keys.any netIdKey then d.writeNetId d.flash.gen else d
  let d := if d.mgNet = o.mgNet then d
    else { d with rcp := { d.rcp with next := some (d.mgNet, d.wall + 1000000000) } }
  if writesSub keys 0x0200 6 then d.policyCommit else d

/-! ## COMMIT -/

/-- The payload of a failed COMMIT: INDEX, SUB, 0x00, ELEMENT (Table 15.3). -/
def badPayload (k : Key) : Bytes :=
  let whole := match Dict.row k.ix k.sub with | some r => r.elem == 0 | none => true
  ⟨8, ((k.ix * 256 + k.sub) * 256) * 2 ^ 32 + (if whole then 0xFFFFFFFF else k.el)⟩

/-- What the group makes of the device when every check passes, or the first check that fails. -/
def Dev.commitGroup (o : Dev) (staged : Store) : Except Bad Dev :=
  let items := o.groupValues staged
  let keys := items.map (fun (x : Key × Nat) => x.1)
  let d := o.withValues items
  let ctxs := d.touched keys
  match firstOf (Dev.areaChecks o d keys ctxs ++ Dev.flowTable o d keys ctxs) with
  | some b => .error b
  | none =>
    let d := Dev.withCharges o d ctxs
    match Dev.ledgerCheck o d keys with
    | some b => .error b
    | none =>
      let d := d.journalGroup items
      let d := d.wake d.islandNeeded
      let d := Dev.commitFlows o d ctxs
      let d := Dev.commitOrigins o d ctxs
      let d := d.commitTime keys
      let d := Dev.commitPictures o d keys
      let d := d.commitAudio keys
      let d := Dev.commitPorts o d keys
      let d := Dev.commitSpares o d keys
      let d := Dev.commitLanes o d keys
      let d := d.commitEnsemble keys
      .ok (Dev.commitRecords o d keys)

/-- R422: the answer of a COMMIT without a group: how the session's last group ended, said once. -/
def Dev.noGroup (d : Dev) (id : Nat) : Dev × Reply :=
  let e := match d.session? id with | some x => x.groupEnd | none => 0
  (d.setSession id (fun x => { x with groupEnd := 0 }), Reply.of (if e = 1 then St.TIMEOUT else St.STATE))

/-- The body of a COMMIT. During a trial of kind 1 it answers STATE and leaves the group (R465). -/
def Dev.commitBody (d : Dev) (id : Nat) : Dev × Reply :=
  match d.rcp.group with
  | none => d.noGroup id
  | some g =>
    if g.holder ≠ id then d.noGroup id
    else if d.upd = Upd.TRIAL ∧ d.sec.trialKind = 1 then
      ({ d with rcp := { d.rcp with group := some { g with seenAt := d.wall } } }, Reply.of St.STATE)
    else if d.pwrWarn then (d, Reply.of St.DEFER)
    else
      match d.commitGroup g.staged with
      | .error b => (d.dropGroup, ⟨b.1, badPayload b.2⟩)
      | .ok d => ((d.dropGroup).setSession id (fun x => { x with groupEnd := 0 }), ⟨St.OK, octets 8 (d.rd D.Rcp.COMMIT_GENERATION 0)⟩)

/-- COMMIT (R421). -/
def execCommit (q : Rcp) (s : State) : Host.Outcome State Fault Refusal :=
  s.act (serve (.commit q.again) q false false none (fun w d => d.commitBody w.session))

end Sys2Proof.Machine
end

