-- ==== Sys2Proof/Machine/Rcp.lean ====
section
/-! DEFINITION. The rest of RCP: groups that end, subscriptions and NOTIFY, sessions, DISCOVER, MODE changes, compaction, the
management ports (R414, R417, R422 to R434). -/

namespace Sys2Proof.Machine

open Sys2Proof

/-! ## Groups and held requests -/

/-- HELD_REQUEST_DISCARD (R414): a gap has stood for 100 ms. -/
def execHeldRequestDiscard (dt session : Nat) (s : State) : Host.Outcome State Fault Refusal :=
  s.act fun d =>
    let d := d.elapse dt
    match d.session? session with
    | none => d
    | some x =>
      if x.held.isEmpty ∨ x.held.any (fun h => sdiff h.1 x.last 32 == 1) ∨ !d.past x.heldAt 100000000 then d
      else d.setSession session (fun y => { y with held := [] })

/-- DISCARD (R422). -/
def execDiscard (q : Rcp) (s : State) : Host.Outcome State Fault Refusal :=
  s.act (serve (.discard q.again) q false false none (fun w d =>
    if d.groupHolder = w.session ∧ w.session ≠ 0 then (d.dropGroup, Reply.of St.OK) else (d, Reply.of St.STATE)))

/-- GROUP_IDLE_DISCARD (R422): no staging write and no COMMIT for GROUP_IDLE_S seconds. -/
def execGroupIdleDiscard (dt : Nat) (s : State) : Host.Outcome State Fault Refusal :=
  s.act fun d =>
    let d := d.elapse dt
    match d.rcp.group with
    | none => d
    | some g =>
      if d.past g.seenAt (d.rd D.Rcp.GROUP_IDLE_S 0 * 1000000000) then
        (d.dropGroup).setSession g.holder (fun x => { x with groupEnd := 1 })
      else d

/-! ## Requests taken up again -/

/-- The device as it takes a request up again. -/
def Dev.retaking (d : Dev) : Dev := { d with rcp := { d.rcp with retake := true } }

/-- A request that waits and may run now (R462, R530), with the device that no longer holds it. -/
def Dev.readyRequest (d : Dev) : Option (Instr × Dev) :=
  if d.restarts 1 ∨ d.pwrWarn then none
  else
    match d.sec.waiting with
    | [] => none
    | c :: t => some (c, ({ d with sec := { d.sec with waiting := t } } : Dev).retaking)

/-- A request held behind a gap that has been filled (R414). It leaves its session's list when it runs. -/
def Dev.heldRequest (d : Dev) : Option (Instr × Dev) :=
  (d.rcp.sessions.findSome? (fun x => (x.held.find? (fun h => sdiff h.1 x.last 32 == 1)).map (fun h => (h.2, x.id, h.1)))).map
    (fun h => (h.1, (d.setSession h.2.1 (fun x => { x with held := x.held.filter (fun y => y.1 != h.2.2) })).retaking))

/-! ## Subscriptions (R423, R424) -/

/-- The entries of an index range that a subscription notifies a role of: RO, RW and CW entries, in directory order. -/
def notifiable (first last role : Nat) : List (Nat × Dict.Row) :=
  (Dict.records.map (fun (t : Nat × Nat × List Dict.Row) =>
    let lo := max first t.1
    let hi := min (last + 1) (t.1 + t.2.1)
    ((List.range (hi - lo)).map (fun i =>
      let ix := lo + i
      (t.2.2.filter (fun r => decide (r.ix ≤ ix) && decide (ix < r.ix + r.rep) && (r.acc == 0 || r.acc == 1 || r.acc == 4)
        && (readFail role r).isNone)).map (fun r => (ix, r)))).flatten)).flatten

/-- What each entry of a range reads now, as one number that tells values and lengths apart. -/
def Dev.snapshot (d : Dev) (first last role : Nat) : List (Key × Nat) :=
  (notifiable first last role).map (fun (x : Nat × Dict.Row) =>
    let b := d.object x.2 x.1
    (⟨x.1, x.2.sub, 0⟩, b.val * 2 ^ 32 + b.len))

/-- The value an item carries: 1 to 32 bytes, and none of a longer entry or a DOM. -/
def Dev.itemValue (d : Dev) (ix sub : Nat) : Bytes :=
  match Dict.row ix sub with
  | none => Bytes.none
  | some r => if r.ty = 13 ∨ 32 < r.size then Bytes.none else d.object r ix

/-- Bytes an item takes. -/
def itemSize (k : Key) : Nat :=
  4 + (match Dict.row k.ix k.sub with
    | none => 0
    | some r => if r.ty = 13 ∨ 32 < r.size then 0 else 4 * ceilDiv r.size 4)

/-- As many items, in order, as a payload of 1,100 bytes holds. -/
def fitting (room : Nat) : List (Key × Nat) → List (Key × Nat)
  | [] => []
  | x :: t => if itemSize x.1 ≤ room then x :: fitting (room - itemSize x.1) t else []

/-- The lowest subscription number not in use. -/
def Session.freeSub (x : Session) : Nat := ((List.range 64).find? (fun k => !x.subs.any (fun b => b.id == k))).getD 0

/-- The body of a SUBSCRIBE. -/
def Dev.subscribe (d : Dev) (w : Who) (first last minMs : Nat) : Dev × Reply :=
  match d.session? w.session with
  | none => (d, Reply.of St.STATE)
  | some x =>
    if minMs < 10 ∨ 60000 < minMs ∨ last < first ∨ 0xFFFF < last then (d, Reply.of St.RANGE)
    else if 64 ≤ x.subs.length then (d, Reply.of St.RESOURCE)
    else
      let id := x.freeSub
      let b : Sub := ⟨id, first, last, minMs, d.snapshot first last w.role, none, none, false⟩
      (d.setSession w.session (fun y => { y with subs := y.subs ++ [b] }), ⟨St.OK, ⟨1, id⟩⟩)

/-- SUBSCRIBE (R423). -/
def execSubscribe (q : Rcp) (first last minMs : Nat) (s : State) : Host.Outcome State Fault Refusal :=
  s.act (serve (.subscribe q.again first last minMs) q false false none (fun w d => d.subscribe w first last minMs))

/-- UNSUBSCRIBE (R412): a SUB_ID the session has not returns RANGE (DESIGN CHOICE). Frames of the subscription that wait go with it. -/
def execUnsubscribe (q : Rcp) (id : Nat) (s : State) : Host.Outcome State Fault Refusal :=
  s.act (serve (.unsubscribe q.again id) q false false none (fun w d =>
    match d.session? w.session with
    | none => (d, Reply.of St.STATE)
    | some x =>
      if x.subs.any (fun b => b.id == id) then
        (d.setSession w.session (fun y => { y with subs := y.subs.filter (fun b => b.id != id), queue := y.queue.filter (fun n => n.sub != id) }),
         Reply.of St.OK)
      else (d, Reply.of St.RANGE)))

/-- Change one subscription of a session. -/
def Dev.setSub (d : Dev) (session id : Nat) (f : Sub → Sub) : Dev :=
  d.setSession session (fun y => { y with subs := y.subs.map (fun b => if b.id = id then f b else b) })

/-- Has a subscription's interval passed since a time? -/
def Dev.intervalPast (d : Dev) (b : Sub) : Option Nat → Bool
  | none => true
  | some t => d.past t (b.minMs * 1000000)

/-- A NOTIFY frame is put in the queue of its session: it names what has changed since the subscription's last frame. A full queue
loses its oldest frame. -/
def Dev.noteChanges (d : Dev) (x : Session) (b : Sub) : Dev :=
  let now := d.snapshot b.first b.last x.role
  let new := fitting 1096 (now.filter (fun e => !b.seen.contains e))
  if new.isEmpty ∨ d.intervalPast b b.sentAt = false then d
  else
    let t := d.wall
    let d := d.setSub x.id b.id (fun c => { c with sentAt := some t, seen := c.seen.map (fun e =>
      match new.find? (fun (n : Key × Nat) => n.1 == e.1) with | some n => n | none => e) })
    let d := if 64 ≤ x.queue.length then
        (match x.queue.head? with
         | none => d
         | some old => ((d.setSub x.id old.sub (fun c => { c with lost := true })).setSession x.id (fun y => { y with queue := y.queue.drop 1 })).sat
             D.Rcp.NOTIFY_LOST 0 1)
      else d
    d.setSession x.id (fun y => { y with queue := y.queue ++ [⟨b.id, new.map (fun (n : Key × Nat) => (n.1.ix, n.1.sub))⟩] })

/-- The oldest frame of a subscription that waits leaves, with the values its entries hold now. -/
def Dev.noteLeaves (d : Dev) (x : Session) (b : Sub) : Dev :=
  match x.queue.find? (fun n => n.sub == b.id) with
  | none => d
  | some n =>
    if d.intervalPast b b.leftAt = false ∨ d.sec.restarting = some 1 then d
    else
      let t := d.wall
      let e := Emission.notify x.id (x.count + 1) b.id b.lost (n.items.map (fun (i : Nat × Nat) => (i.1, i.2, d.itemValue i.1 i.2)))
        (deviceKey x.key, gcmNonce x.id Dir.NOTIFICATION (x.count + 1))
      let d := d.setSub x.id b.id (fun c => { c with leftAt := some t, lost := false })
      (d.setSession x.id (fun y => { y with count := y.count + 1, queue := y.queue.erase n })).sendOn x.via e

/-- NOTIFY_SEND (R423, R424): a frame for a subscription is queued, or, with `leave`, leaves. -/
def execNotifySend (dt session id : Nat) (leave : Bool) (s : State) : Host.Outcome State Fault Refusal :=
  s.act fun d =>
    let d := d.elapse dt
    match d.session? session with
    | none => d
    | some x =>
      match x.subs.find? (fun b => b.id == id) with
      | none => d
      | some b => if leave then d.noteLeaves x b else d.noteChanges x b

/-! ## Sessions (R417) and DISCOVER (R434) -/

/-- CLOSE (R417): the response is sent, and where the request was served (R505) the session ends. -/
def execClose (q : Rcp) (s : State) : Host.Outcome State Fault Refusal :=
  s.act fun d =>
    let before := (d.session? q.session).map (fun x => x.last)
    let open_ := (d.gate q false none).isNone
    let d := serve (.close q.again) q false false none (fun _ d => (d, Reply.of St.OK)) d
    match d.session? q.session with
    | some x => if before ≠ some x.last ∧ open_ = true then d.closeSession q.session else d
    | none => d

/-- KEEPALIVE (R417). -/
def execKeepalive (q : Rcp) (s : State) : Host.Outcome State Fault Refusal :=
  s.act (serve (.keepalive q.again) q false false none (fun _ d => (d, Reply.of St.OK)))

/-- SESSION_IDLE_EXPIRY (R417). -/
def execSessionIdleExpiry (dt session : Nat) (s : State) : Host.Outcome State Fault Refusal :=
  s.act fun d =>
    let d := d.elapse dt
    match d.session? session with
    | none => d
    | some x => if d.past x.reqAt (d.rd D.Rcp.SESSION_IDLE_S 0 * 1000000000) then d.closeSession session else d

/-- The payload of Table 15.9. -/
def Dev.discoverPayload (d : Dev) : Bytes :=
  let r (f : Fld) := d.rd f 0
  let flags := r D.Straps.PLANE_B * 128 + r D.Straps.HEAD * 64 + r D.Sec.OWNER_STATE * 32 + ofBool d.rst.recovery * 16
  ⟨80, pack [(128, r D.Ident.SERIAL), (256, r D.Ident.FRAME_ID_IN_USE), (8, r D.Ens.GEO % 32), (8, r D.Ens.POSITION), (8, r D.Ens.MEMBER), (8, flags),
    (16, d.rcp.inUse.port), (16, 0), (128, r D.Ident.IDENTITY_DIGEST / 2 ^ 128), (64, 0x5458383634300000)]⟩

/-- A response is sent as a SESSION 0 frame. -/
def Emission.anon : Emission → Emission
  | .response v p po _ sq op st b _ => .response v p po 0 sq op st b none
  | e => e

/-- DISCOVER (R408, R418, R434): a multicast one counts on a management port only. In a session it takes its turn among the
session's requests; the response is a SESSION 0 frame either way. -/
def execDiscover (q : Rcp) (multicast : Bool) (s : State) : Host.Outcome State Fault Refusal :=
  s.act fun d =>
    if multicast ∧ 2 ≤ q.via then d.elapse q.dt
    else if q.session ≠ 0 then
      let d := serve (.discover q.again multicast) q false true none (fun _ d => (d, ⟨St.OK, d.discoverPayload⟩)) d
      { d with out := d.out.map Emission.anon }
    else
      let d := d.elapse q.dt
      if !d.listens q.via then d
      else if d.passedBy q then d.mgRx q.via
      else
        let d := d.mgRx q.via
        if headerOk q && d.sealOk q then
          if d.restarts 1 then d.postpone (.discover q.again multicast) else
          (d.mgAccept q.via).sendOn q.via (.response q.via q.peer q.port 0 q.seq q.op St.OK d.discoverPayload none)
        else d.dropFrame

/-! ## MODE changes (R33, R428) -/

/-- Is an operation in progress that a MODE change of an area waits for (R33)? -/
def Dev.modeBusy (d : Dev) (ix : Nat) : Bool :=
  if ix = 0x0600 then d.time.change.isSome
  else if ix = 0x0700 then (List.range 8).any (fun k => d.dpllState k == DpllState.SWITCHING)
  else if ix = 0x0800 then
    (List.range 72).any (fun e => d.laneState e == LaneState.TRAINING && (!(d.dl e).dwelt || (d.dl e).offerTx))
  else if ix = 0x0E00 then
    !d.store.copying.isEmpty || (List.range 32).any (fun c => d.chanState c == ChanState.EVACUATING)
  else if ix = 0x0C00 then (List.range 16).any (fun k =>
    [SlotState.PREPARING, SlotState.PREPARED, SlotState.COMMITTED, SlotState.INDOUBT].contains (d.slotState k))
  else false

/-- R169: in hardware mode again, a current-state report for every membership, repeated by IGMP_ROBUSTNESS. -/
def Dev.reportAll (d : Dev) : Dev :=
  d.each (pick 256 (fun i => d.on D.IfCfg.ENABLE i && !(d.memberships (i / 8) (i % 8)).isEmpty)) (fun d i =>
    let now := d.reportedNow i
    let d := d.sendAll (reportsOf i now.vlan now.v4 (currentRecs now.groups))
    { d with ctrl := { d.ctrl with reported := nput d.ctrl.reported {} i now } })

/-- What an area does when its MODE takes effect. -/
def Dev.modeEffect (d : Dev) (ix v : Nat) : Dev :=
  -- the training blocks up to now say what the mode so far gives them
  let d := (if ix = 0x0800 then d.lanesOut else d).setEnt ⟨ix, 1, 0⟩ v
  if ix = 0x0600 then d.servoMode
  else if ix = 0x0700 then d.reselectAll
  else if ix = 0x0A00 then
    (if v = 0 then d.reportAll
     -- no leave is sent: what was reported stands until it times out
     else { d with ctrl := { d.ctrl with repeats := [], queries := [] } })
  else if ix = 0x0B00 then
    (if v = 0 then d.each (d.enabled.filter (fun c => decide (c < 4096) && d.kind c == 8)) (fun d c => d.adoptPeer c)
     else d.each (pick 4096 (fun c => d.on D.FlowStatus.PLANNER_OWNED c)) (fun d c => d.flag D.FlowStatus.PLANNER_OWNED c false))
  else d

/-- MODE_CHANGE_EFFECT (R33, R428): a waiting MODE value takes effect. -/
def execModeChangeEffect (dt ix : Nat) (s : State) : Host.Outcome State Fault Refusal :=
  s.act fun d =>
    let d := d.elapse dt
    match d.rcp.waiting.find? (fun x => x.1 == ix) with
    | none => d
    | some x =>
      if d.modeBusy ix then d
      else ({ d with rcp := { d.rcp with waiting := d.rcp.waiting.filter (fun (y : Nat × Nat) => y.1 != ix) } }).modeEffect ix x.2

/-- JOURNAL_COMPACTION (R427). -/
def execJournalCompaction (dt : Nat) (s : State) : Host.Outcome State Fault Refusal :=
  s.act fun d =>
    let d := d.elapse dt
    if 75 ≤ d.journalPct ∧ d.pwrWarn = false ∧ d.inReset = false then d.compact else d

/-! ## The management ports (R429, R430) -/

/-- The MG_CFG element in effect on a port. -/
def MgNet.element (m : MgNet) (p : Nat) : Nat := if p = 0 then m.mg0 else m.mg1

/-- A field of the MG_CFG element in effect. -/
def Dev.mgField (d : Dev) (p : Nat) (f : Fld) : Nat := bitsOf (d.rcp.inUse.element p) f.lo f.w

/-- A management port without a link: it trains where it is enabled, from its fastest speed. -/
def Dev.mgDown (d : Dev) (p : Nat) : Dev :=
  let d := (d.mgErrors p).wr D.MgStatus.LINK p (if d.mgField p D.MgCfg.ENABLE = 1 then 1 else 0)
  let d := ((d.wr D.MgStatus.SPEED_IN_USE p 0).wr D.MgStatus.IPV4_IN_USE p 0).flag D.MgStatus.IPV4_LL_IN_USE p false
  { d with rcp := { d.rcp with tries := nput d.rcp.tries (2, 0) p (2, d.wall) } }

/-- The management values in effect change; a port whose element changed starts again. -/
def Dev.useMg (d : Dev) (m : MgNet) : Dev :=
  let old := d.rcp.inUse
  let d := { d with rcp := { d.rcp with inUse := m } }
  d.each ((List.range 2).filter (fun p => old.element p != m.element p)) (fun d p => d.mgDown p)

/-- CONFIRM_PENDING of both ports. -/
def Dev.showTest (d : Dev) (b : Bool) : Dev := (d.flag D.MgStatus.CONFIRM_PENDING 0 b).flag D.MgStatus.CONFIRM_PENDING 1 b

/-- MG_CFG_EFFECT (R430): 1,000 ms after the COMMIT response a change takes effect, and where MG_CONFIRM_S is not 0 its test begins;
a change that replaces one under test leaves the values before it to go back to. -/
def execMgCfgEffect (dt : Nat) (s : State) : Host.Outcome State Fault Refusal :=
  s.act fun d =>
    let d := d.elapse dt
    match d.rcp.next with
    | none => d
    | some (m, t) =>
      if d.wall < t ∨ d.inReset then d
      else
        let was := match d.rcp.test with | some x => x.1 | none => d.rcp.inUse
        let n := d.rd D.Rcp.MG_CONFIRM_S 0
        let test := if n = 0 then none else some (was, d.wall + n * 1000000000)
        ({ d with rcp := { d.rcp with next := none, test := test } }.useMg m).showTest test.isSome

/-- RCP_MG_REVERTED (R430): no authenticated request has come in time, and the device commits the values before the change. -/
def execRcpMgReverted (dt : Nat) (s : State) : Host.Outcome State Fault Refusal :=
  s.act fun d =>
    let d := d.elapse dt
    match d.rcp.test with
    | none => d
    | some (m, t) =>
      if d.wall < t ∨ d.inReset ∨ d.pwrWarn then d
      else
        let d := { d with rcp := { d.rcp with test := none, next := none } }.setMgNet m
        let d := d.journalGroup ([D.Rcp.RCP_UDP_PORT.key 0, D.Mg.MG_CFG.key 0, D.Mg.MG_CFG.key 1, D.Mg.INBAND_IF.key 0].map (fun k => (k, d.ent k)))
        let d := d.writeNetId d.flash.gen
        ((d.useMg m).showTest false).raise Src.RCP_MG_REVERTED 0

/-- The speed a port tries now: SPEED, or with AUTO the one whose turn it is. -/
def Dev.mgTries (d : Dev) (p : Nat) : Nat :=
  let v := d.mgField p D.MgCfg.SPEED
  if v = 3 then (nget d.rcp.tries (2, 0) p).1 else v

/-- MG_LINK_UP (R429): a port has a link at the speed it tries. Its IPv4 address is IPV4_ADDR, or one of 169.254/16 that it takes by RFC 3927
(a free value). -/
def execMgLinkUp (dt port speed : Nat) (s : State) : Host.Outcome State Fault Refusal :=
  s.act fun d =>
    let d := d.elapse dt
    if 2 ≤ port ∨ !d.listens port ∨ d.mgField port D.MgCfg.ENABLE ≠ 1 ∨ speed ≠ d.mgTries port ∨ d.rd D.MgStatus.LINK port = 2 then d
    else
      let d := (d.wr D.MgStatus.LINK port 2).wr D.MgStatus.SPEED_IN_USE port speed
      let own := d.mgField port D.MgCfg.IPV4_ADDR
      if own = 0 ∧ d.mgField port D.MgCfg.IPV4_LL = 1 then
        let a := 169 * 2 ^ 24 + 254 * 2 ^ 16 + 256 + d.freeVal % 65024
        (d.drawn.wr D.MgStatus.IPV4_IN_USE port a).flag D.MgStatus.IPV4_LL_IN_USE port true
      else d.wr D.MgStatus.IPV4_IN_USE port own

/-- MG_LINK_DOWN (R429). -/
def execMgLinkDown (dt port : Nat) (s : State) : Host.Outcome State Fault Refusal :=
  s.act fun d =>
    let d := d.elapse dt
    if 2 ≤ port ∨ !d.listens port ∨ d.rd D.MgStatus.LINK port ≠ 2 then d else d.mgDown port

/-- MG_SPEED_TRY_TIMEOUT (R429): with SPEED AUTO, 2 s at one speed without a link move the port to the next: 10GBASE-R, 2500BASE-X,
1000BASE-X in turn. -/
def execMgSpeedTryTimeout (dt port : Nat) (s : State) : Host.Outcome State Fault Refusal :=
  s.act fun d =>
    let d := d.elapse dt
    if 2 ≤ port ∨ !d.listens port ∨ d.mgField port D.MgCfg.ENABLE ≠ 1 ∨ d.mgField port D.MgCfg.SPEED ≠ 3 ∨ d.rd D.MgStatus.LINK port = 2 then d
    else
      let x := nget d.rcp.tries (2, 0) port
      if d.past x.2 2000000000 then
        { d with rcp := { d.rcp with tries := nput d.rcp.tries (2, 0) port (if x.1 = 0 then 2 else x.1 - 1, d.wall) } }
      else d

end Sys2Proof.Machine
end

