-- ==== Sys2Proof/Machine/Dispatch.lean ====
section
/-! DEFINITION. One arm per command: the call of its meaning. -/

namespace Sys2Proof.Machine

open Sys2Proof

/-- The effect of a command on everything but the queue of waiting commands. -/
def exec (i : Instr) (s : State) : Host.Outcome State Fault Refusal :=
  match i with
  | .read q ix sub => Sys2Proof.Machine.execRead q ix sub s
  | .write q ix sub v => Sys2Proof.Machine.execWrite q ix sub v s
  | .readDom q ix sub flags offset length => Sys2Proof.Machine.execReadDom q ix sub flags offset length s
  | .writeDom q ix sub flags offset v => Sys2Proof.Machine.execWriteDom q ix sub flags offset v s
  | .transferTimeout dt session => Sys2Proof.Machine.execTransferTimeout dt session s
  | .heldRequestDiscard dt session => Sys2Proof.Machine.execHeldRequestDiscard dt session s
  | .commit q => Sys2Proof.Machine.execCommit q s
  | .discard q => Sys2Proof.Machine.execDiscard q s
  | .groupAbort q v => Sys2Proof.Machine.execGroupAbort q v s
  | .groupIdleDiscard dt => Sys2Proof.Machine.execGroupIdleDiscard dt s
  | .subscribe q first last minMs => Sys2Proof.Machine.execSubscribe q first last minMs s
  | .unsubscribe q id => Sys2Proof.Machine.execUnsubscribe q id s
  | .notifySend dt session id leave => Sys2Proof.Machine.execNotifySend dt session id leave s
  | .close q => Sys2Proof.Machine.execClose q s
  | .keepalive q => Sys2Proof.Machine.execKeepalive q s
  | .sessionIdleExpiry dt session => Sys2Proof.Machine.execSessionIdleExpiry dt session s
  | .discover q multicast => Sys2Proof.Machine.execDiscover q multicast s
  | .modeWrite q ix v => Sys2Proof.Machine.execModeWrite q ix v s
  | .modeChangeEffect dt ix => Sys2Proof.Machine.execModeChangeEffect dt ix s
  | .journalCompaction dt => Sys2Proof.Machine.execJournalCompaction dt s
  | .mgCfgEffect dt => Sys2Proof.Machine.execMgCfgEffect dt s
  | .rcpMgReverted dt => Sys2Proof.Machine.execRcpMgReverted dt s
  | .openHello q id offset total v => Sys2Proof.Machine.execOpenHello q id offset total v s
  | .openChallengeFetch q id offset => Sys2Proof.Machine.execOpenChallengeFetch q id offset s
  | .openResponse q id offset total v => Sys2Proof.Machine.execOpenResponse q id offset total v s
  | .openExchangeTimeout dt => Sys2Proof.Machine.execOpenExchangeTimeout dt s
  | .flowEngineConfigured dt ctx => Sys2Proof.Machine.execFlowEngineConfigured dt ctx s
  | .flowEngineQuiesced dt ctx => Sys2Proof.Machine.execFlowEngineQuiesced dt ctx s
  | .runStart dt ctx => Sys2Proof.Machine.execRunStart dt ctx s
  | .cellEmit dt ctx itime len pos sof eof payload field => Sys2Proof.Machine.execCellEmit dt ctx itime len pos sof eof payload field s
  | .cellReceived dt group cell => Sys2Proof.Machine.execCellReceived dt group cell s
  | .mergeCopyArrival dt ctx plane cell => Sys2Proof.Machine.execMergeCopyArrival dt ctx plane cell s
  | .mergeWindowEnd dt ctx seq => Sys2Proof.Machine.execMergeWindowEnd dt ctx seq s
  | .cellRelease dt ctx => Sys2Proof.Machine.execCellRelease dt ctx s
  | .sourceLossTimeout dt ctx => Sys2Proof.Machine.execSourceLossTimeout dt ctx s
  | .take q v => Sys2Proof.Machine.execTake q v s
  | .twinTakeRx dt msg v => Sys2Proof.Machine.execTwinTakeRx dt msg v s
  | .twinTakeAck dt msg status => Sys2Proof.Machine.execTwinTakeAck dt msg status s
  | .twinTakeTimeout dt => Sys2Proof.Machine.execTwinTakeTimeout dt s
  | .takeApply dt ctx => Sys2Proof.Machine.execTakeApply dt ctx s
  | .delayChangeApply dt ctx => Sys2Proof.Machine.execDelayChangeApply dt ctx s
  | .salvoChangesWrite q slot offset v => Sys2Proof.Machine.execSalvoChangesWrite q slot offset v s
  | .salvoTakeTimeWrite q slot v => Sys2Proof.Machine.execSalvoTakeTimeWrite q slot v s
  | .salvoArm q slot => Sys2Proof.Machine.execSalvoArm q slot s
  | .salvoAbort q slot => Sys2Proof.Machine.execSalvoAbort q slot s
  | .salvoClear q slot => Sys2Proof.Machine.execSalvoClear q slot s
  | .salvoCommitCmd q slot => Sys2Proof.Machine.execSalvoCommitCmd q slot s
  | .salvoPrepare dt group block => Sys2Proof.Machine.execSalvoPrepare dt group block s
  | .salvoPrepared dt slot => Sys2Proof.Machine.execSalvoPrepared dt slot s
  | .salvoVoteRx dt group block => Sys2Proof.Machine.execSalvoVoteRx dt group block s
  | .salvoDecisionLogged dt slot => Sys2Proof.Machine.execSalvoDecisionLogged dt slot s
  | .salvoVoteDeadline dt slot => Sys2Proof.Machine.execSalvoVoteDeadline dt slot s
  | .salvoCommitRx dt group block => Sys2Proof.Machine.execSalvoCommitRx dt group block s
  | .salvoAbortRx dt group block => Sys2Proof.Machine.execSalvoAbortRx dt group block s
  | .salvoDecideDeadline dt slot => Sys2Proof.Machine.execSalvoDecideDeadline dt slot s
  | .salvoQueryTimer dt slot => Sys2Proof.Machine.execSalvoQueryTimer dt slot s
  | .salvoQueryRx dt group block => Sys2Proof.Machine.execSalvoQueryRx dt group block s
  | .salvoTakeTimeReached dt slot => Sys2Proof.Machine.execSalvoTakeTimeReached dt slot s
  | .logSectorErase dt => Sys2Proof.Machine.execLogSectorErase dt s
  | .planeFail dt plane cause => Sys2Proof.Machine.execPlaneFail dt plane cause s
  | .planeCmdResetX q => Sys2Proof.Machine.execPlaneCmdResetX q s
  | .planeCmdResetY q => Sys2Proof.Machine.execPlaneCmdResetY q s
  | .planeCmdSwap q => Sys2Proof.Machine.execPlaneCmdSwap q s
  | .planeBistDone dt plane pass shadowOk slice => Sys2Proof.Machine.execPlaneBistDone dt plane pass shadowOk slice s
  | .planeResyncDone dt plane wrong => Sys2Proof.Machine.execPlaneResyncDone dt plane wrong s
  | .planeRebuildDone dt shadowOk => Sys2Proof.Machine.execPlaneRebuildDone dt shadowOk s
  | .twinPairingSend dt => Sys2Proof.Machine.execTwinPairingSend dt s
  | .twinPairingRx dt block => Sys2Proof.Machine.execTwinPairingRx dt block s
  | .twinPairingTimeout dt => Sys2Proof.Machine.execTwinPairingTimeout dt s
  | .twinReconcile dt table => Sys2Proof.Machine.execTwinReconcile dt table s
  | .twinCopyDone dt stats copy => Sys2Proof.Machine.execTwinCopyDone dt stats copy s
  | .twinLost dt reset => Sys2Proof.Machine.execTwinLost dt reset s
  | .twinCmdMakeActive q => Sys2Proof.Machine.execTwinCmdMakeActive q s
  | .twinSignatureRx dt ctx source boundary crc => Sys2Proof.Machine.execTwinSignatureRx dt ctx source boundary crc s
  | .twinAnchorSend dt => Sys2Proof.Machine.execTwinAnchorSend dt s
  | .twinAnchorRx dt ctx anchor running => Sys2Proof.Machine.execTwinAnchorRx dt ctx anchor running s
  | .sdiRxLock dt lane rate => Sys2Proof.Machine.execSdiRxLock dt lane rate s
  | .sdiRxLockLost dt lane => Sys2Proof.Machine.execSdiRxLockLost dt lane s
  | .sdiRxFormatChange dt lane => Sys2Proof.Machine.execSdiRxFormatChange dt lane s
  | .sdiFormatDetected dt lane raster rate arrivals ltc pid => Sys2Proof.Machine.execSdiFormatDetected dt lane raster rate arrivals ltc pid s
  | .sdiPortResume dt ctx first others => Sys2Proof.Machine.execSdiPortResume dt ctx first others s
  | .sdiTxFrameBoundary dt ctx line lines => Sys2Proof.Machine.execSdiTxFrameBoundary dt ctx line lines s
  | .holdMaxExpiry dt ctx => Sys2Proof.Machine.execHoldMaxExpiry dt ctx s
  | .netLinkUp dt port => Sys2Proof.Machine.execNetLinkUp dt port s
  | .netLinkDown dt port => Sys2Proof.Machine.execNetLinkDown dt port s
  | .netSpareRemap dt lane => Sys2Proof.Machine.execNetSpareRemap dt lane s
  | .netFrameRx dt f => Sys2Proof.Machine.execNetFrameRx dt f s
  | .netCtrlFrame dt => Sys2Proof.Machine.execNetCtrlFrame dt s
  | .netQueryRx dt port iface version ask => Sys2Proof.Machine.execNetQueryRx dt port iface version ask s
  | .netQueryResponse dt iface => Sys2Proof.Machine.execNetQueryResponse dt iface s
  | .netMembershipReport dt iface => Sys2Proof.Machine.execNetMembershipReport dt iface s
  | .igmpReportRepeat dt iface => Sys2Proof.Machine.execIgmpReportRepeat dt iface s
  | .ctrlTx q v => Sys2Proof.Machine.execCtrlTx q v s
  | .netResolveRefresh dt ctx legB mac => Sys2Proof.Machine.execNetResolveRefresh dt ctx legB mac s
  | .netRxSilence dt ctx legB => Sys2Proof.Machine.execNetRxSilence dt ctx legB s
  | .net20227Release dt ctx => Sys2Proof.Machine.execNet20227Release dt ctx s
  | .netPacketTx dt ctx => Sys2Proof.Machine.execNetPacketTx dt ctx s
  | .dwlItemRx dt group lane chars ending cv disparity skips => Sys2Proof.Machine.execDwlItemRx dt group lane chars ending cv disparity skips s
  | .dwlReplayReqRx dt group lane block => Sys2Proof.Machine.execDwlReplayReqRx dt group lane block s
  | .dwlLaneMarkerRx dt group lane block => Sys2Proof.Machine.execDwlLaneMarkerRx dt group lane block s
  | .dwlMgmtFrameRx dt group chars => Sys2Proof.Machine.execDwlMgmtFrameRx dt group chars s
  | .dwlMsgTimeout dt => Sys2Proof.Machine.execDwlMsgTimeout dt s
  | .dwlTrainingBlockRx dt group lane block inverted => Sys2Proof.Machine.execDwlTrainingBlockRx dt group lane block inverted s
  | .dwlStepDwellEnd dt group lane errors => Sys2Proof.Machine.execDwlStepDwellEnd dt group lane errors s
  | .dwlStepFailure dt group lane => Sys2Proof.Machine.execDwlStepFailure dt group lane s
  | .groupMiswiredRetry dt group => Sys2Proof.Machine.execGroupMiswiredRetry dt group s
  | .chainFrameTx dt => Sys2Proof.Machine.execChainFrameTx dt s
  | .chainFrameRx dt frame => Sys2Proof.Machine.execChainFrameRx dt frame s
  | .chainLost dt => Sys2Proof.Machine.execChainLost dt s
  | .memberReportTx dt => Sys2Proof.Machine.execMemberReportTx dt s
  | .memberReportRx dt group length => Sys2Proof.Machine.execMemberReportRx dt group length s
  | .chainShortTimeout dt => Sys2Proof.Machine.execChainShortTimeout dt s
  | .beaconTx dt group => Sys2Proof.Machine.execBeaconTx dt group s
  | .beaconRx dt group block => Sys2Proof.Machine.execBeaconRx dt group block s
  | .beaconLost dt group => Sys2Proof.Machine.execBeaconLost dt group s
  | .laneCmdStep q lane => Sys2Proof.Machine.execLaneCmdStep q lane s
  | .laneCmdSwapOut q lane => Sys2Proof.Machine.execLaneCmdSwapOut q lane s
  | .laneCmdRetrain q lane => Sys2Proof.Machine.execLaneCmdRetrain q lane s
  | .laneCmdMarginScan q target lane => Sys2Proof.Machine.execLaneCmdMarginScan q target lane s
  | .laneCmdMarginAbort q lane => Sys2Proof.Machine.execLaneCmdMarginAbort q lane s
  | .marginScanDone dt lane width height => Sys2Proof.Machine.execMarginScanDone dt lane width height s
  | .phyLaneFailed dt lane cause skew => Sys2Proof.Machine.execPhyLaneFailed dt lane cause skew s
  | .phyDegradeCheck dt lane errors symbols => Sys2Proof.Machine.execPhyDegradeCheck dt lane errors symbols s
  | .spareReadinessCheck dt group errors => Sys2Proof.Machine.execSpareReadinessCheck dt group errors s
  | .sdiSliceSpare dt lane locks => Sys2Proof.Machine.execSdiSliceSpare dt lane locks s
  | .memRequestServe dt chan arrivals ecc => Sys2Proof.Machine.execMemRequestServe dt chan arrivals ecc s
  | .requestDeadlineMiss dt chan => Sys2Proof.Machine.execRequestDeadlineMiss dt chan s
  | .mr4Poll dt chan rate hot => Sys2Proof.Machine.execMr4Poll dt chan rate hot s
  | .srEntry dt chan issued => Sys2Proof.Machine.execSrEntry dt chan issued s
  | .srExit dt chan => Sys2Proof.Machine.execSrExit dt chan s
  | .chanTrainingSetDone dt chan pass defects => Sys2Proof.Machine.execChanTrainingSetDone dt chan pass defects s
  | .delayRecentre dt chan => Sys2Proof.Machine.execDelayRecentre dt chan s
  | .chanDegradeCheck dt chan => Sys2Proof.Machine.execChanDegradeCheck dt chan s
  | .chanFail dt chan cause => Sys2Proof.Machine.execChanFail dt chan cause s
  | .chanCmdRetrain q chan => Sys2Proof.Machine.execChanCmdRetrain q chan s
  | .chanCmdRetire q chan => Sys2Proof.Machine.execChanCmdRetire q chan s
  | .chanCmdRestore q chan => Sys2Proof.Machine.execChanCmdRestore q chan s
  | .blockRelocated dt handle logical => Sys2Proof.Machine.execBlockRelocated dt handle logical s
  | .patrolTest dt block row ok => Sys2Proof.Machine.execPatrolTest dt block row ok s
  | .tileFail dt phys => Sys2Proof.Machine.execTileFail dt phys s
  | .tileSubstitutionDone dt tile => Sys2Proof.Machine.execTileSubstitutionDone dt tile s
  | .tileCmdSubstitute q tile => Sys2Proof.Machine.execTileCmdSubstitute q tile s
  | .tileCmdRestore q phys => Sys2Proof.Machine.execTileCmdRestore q phys s
  | .tileCmdTest q phys => Sys2Proof.Machine.execTileCmdTest q phys s
  | .tileBistDone dt phys pass => Sys2Proof.Machine.execTileBistDone dt phys pass s
  | .fsOutputFrame dt tile chanB lost => Sys2Proof.Machine.execFsOutputFrame dt tile chanB lost s
  | .fsInputLoss dt tile chanB => Sys2Proof.Machine.execFsInputLoss dt tile chanB s
  | .headFrameBoundary dt head lost probe => Sys2Proof.Machine.execHeadFrameBoundary dt head lost probe s
  | .layerFrameComplete dt engine filled => Sys2Proof.Machine.execLayerFrameComplete dt engine filled s
  | .layerRunStart dt engine => Sys2Proof.Machine.execLayerRunStart dt engine s
  | .veneerWrite q veneer x y w h back pixels => Sys2Proof.Machine.execVeneerWrite q veneer x y w h back pixels s
  | .veneerFlip q veneer => Sys2Proof.Machine.execVeneerFlip q veneer s
  | .tallyWrite q engine value => Sys2Proof.Machine.execTallyWrite q engine value s
  | .cmpEngineFail dt engine => Sys2Proof.Machine.execCmpEngineFail dt engine s
  | .audioPosition dt => Sys2Proof.Machine.execAudioPosition dt s
  | .audioSampleWrite dt lane groups words => Sys2Proof.Machine.execAudioSampleWrite dt lane groups words s
  | .sapFrame dt port slots half => Sys2Proof.Machine.execSapFrame dt port slots half s
  | .servoSample dt => Sys2Proof.Machine.execServoSample dt s
  | .servoSampleTimeout dt => Sys2Proof.Machine.execServoSampleTimeout dt s
  | .servoHoldoverExpiry dt => Sys2Proof.Machine.execServoHoldoverExpiry dt s
  | .timeChangeover dt => Sys2Proof.Machine.execTimeChangeover dt s
  | .servoCmdStep q value => Sys2Proof.Machine.execServoCmdStep q value s
  | .servoCmdSetRate q value => Sys2Proof.Machine.execServoCmdSetRate q value s
  | .servoCmdAddRate q value => Sys2Proof.Machine.execServoCmdAddRate q value s
  | .ptpAnnounceRx dt iface ann => Sys2Proof.Machine.execPtpAnnounceRx dt iface ann s
  | .ptpLeaderLost dt iface sender port => Sys2Proof.Machine.execPtpLeaderLost dt iface sender port s
  | .ptpDelayReqTx dt iface => Sys2Proof.Machine.execPtpDelayReqTx dt iface s
  | .ptpEventRx dt iface m => Sys2Proof.Machine.execPtpEventRx dt iface m s
  | .tcRelay dt iface kind domain seq rx corr msg => Sys2Proof.Machine.execTcRelay dt iface kind domain seq rx corr msg s
  | .leapSecond dt => Sys2Proof.Machine.execLeapSecond dt s
  | .timeOutputEdge dt output => Sys2Proof.Machine.execTimeOutputEdge dt output s
  | .refPhaseEvent dt ref => Sys2Proof.Machine.execRefPhaseEvent dt ref s
  | .refStop dt ref => Sys2Proof.Machine.execRefStop dt ref s
  | .refFreqUpdate dt meas demand => Sys2Proof.Machine.execRefFreqUpdate dt meas demand s
  | .refHoldoffElapsed dt ref => Sys2Proof.Machine.execRefHoldoffElapsed dt ref s
  | .dpllLocked dt dpll err => Sys2Proof.Machine.execDpllLocked dt dpll err s
  | .dpllSwitchMeasured dt dpll => Sys2Proof.Machine.execDpllSwitchMeasured dt dpll s
  | .dpllHoldoverExpiry dt dpll => Sys2Proof.Machine.execDpllHoldoverExpiry dt dpll s
  | .dpllCmdPhaseStep q dpll value => Sys2Proof.Machine.execDpllCmdPhaseStep q dpll value s
  | .dpllCmdClearBuildout q dpll => Sys2Proof.Machine.execDpllCmdClearBuildout q dpll s
  | .dpllPhaseMoveDone dt dpll => Sys2Proof.Machine.execDpllPhaseMoveDone dt dpll s
  | .ownerCmdEnrol q nonce policy pub sig => Sys2Proof.Machine.execOwnerCmdEnrol q nonce policy pub sig s
  | .ownerCmdTransfer q nonce policy pub newSig ownerSig => Sys2Proof.Machine.execOwnerCmdTransfer q nonce policy pub newSig ownerSig s
  | .ownerCmdRelease q nonce ownerSig => Sys2Proof.Machine.execOwnerCmdRelease q nonce ownerSig s
  | .enrolWindowExpiry dt => Sys2Proof.Machine.execEnrolWindowExpiry dt s
  | .attestNonce q nonce => Sys2Proof.Machine.execAttestNonce q nonce s
  | .debugToken q serial nonce sig => Sys2Proof.Machine.execDebugToken q serial nonce sig s
  | .updateBegin q => Sys2Proof.Machine.execUpdateBegin q s
  | .manifestIn q v => Sys2Proof.Machine.execManifestIn q v s
  | .imageWrite q kind v => Sys2Proof.Machine.execImageWrite q kind v s
  | .updateEnd q => Sys2Proof.Machine.execUpdateEnd q s
  | .updateAbort q => Sys2Proof.Machine.execUpdateAbort q s
  | .updateIdleExpiry dt => Sys2Proof.Machine.execUpdateIdleExpiry dt s
  | .activateInService q => Sys2Proof.Machine.execActivateInService q s
  | .activationStepDone dt => Sys2Proof.Machine.execActivationStepDone dt s
  | .activationStepTimeout dt => Sys2Proof.Machine.execActivationStepTimeout dt s
  | .activateRestart q => Sys2Proof.Machine.execActivateRestart q s
  | .updateAccept q => Sys2Proof.Machine.execUpdateAccept q s
  | .updateReject q => Sys2Proof.Machine.execUpdateReject q s
  | .updateRecover q => Sys2Proof.Machine.execUpdateRecover q s
  | .trialTimerEnd dt => Sys2Proof.Machine.execTrialTimerEnd dt s
  | .fallbackDone dt => Sys2Proof.Machine.execFallbackDone dt s
  | .slotRCopyDone dt => Sys2Proof.Machine.execSlotRCopyDone dt s
  | .recoveryIntervalEnd dt => Sys2Proof.Machine.execRecoveryIntervalEnd dt s
  | .faultLatch dt src inst lasting => Sys2Proof.Machine.execFaultLatch dt src inst lasting s
  | .faultConditionEnd dt src inst => Sys2Proof.Machine.execFaultConditionEnd dt src inst s
  | .faultCmdClear q src => Sys2Proof.Machine.execFaultCmdClear q src s
  | .faultCmdClearGroup q src => Sys2Proof.Machine.execFaultCmdClearGroup q src s
  | .faultCmdClearAll q => Sys2Proof.Machine.execFaultCmdClearAll q s
  | .faultCmdFirstClear q => Sys2Proof.Machine.execFaultCmdFirstClear q s
  | .faultCmdSummaryClear q => Sys2Proof.Machine.execFaultCmdSummaryClear q s
  | .faultCmdBlkrst q src inst => Sys2Proof.Machine.execFaultCmdBlkrst q src inst s
  | .faultCmdChiprst q src => Sys2Proof.Machine.execFaultCmdChiprst q src s
  | .faultCmdInject q src inst => Sys2Proof.Machine.execFaultCmdInject q src inst s
  | .errnMinExpiry dt => Sys2Proof.Machine.execErrnMinExpiry dt s
  | .porstAssert dt low => Sys2Proof.Machine.execPorstAssert dt low s
  | .supplyFault dt kind ns => Sys2Proof.Machine.execSupplyFault dt kind ns s
  | .rstNInput dt low => Sys2Proof.Machine.execRstNInput dt low s
  | .resetCmdCold q => Sys2Proof.Machine.execResetCmdCold q s
  | .resetCmdWarm q => Sys2Proof.Machine.execResetCmdWarm q s
  | .resetCmdDomain q dom => Sys2Proof.Machine.execResetCmdDomain q dom s
  | .watchdogExpiry dt dom => Sys2Proof.Machine.execWatchdogExpiry dt dom s
  | .resetAssert dt n => Sys2Proof.Machine.execResetAssert dt n s
  | .resetRelease dt n head planeB testMode geo => Sys2Proof.Machine.execResetRelease dt n head planeB testMode geo s
  | .blockResetEnd dt target inst => Sys2Proof.Machine.execBlockResetEnd dt target inst s
  | .rstnOutEnd dt low => Sys2Proof.Machine.execRstnOutEnd dt low s
  | .fuseLoadDone dt words pass => Sys2Proof.Machine.execFuseLoadDone dt words pass s
  | .startupStageDone dt gbit failed tiles engines planes slices => Sys2Proof.Machine.execStartupStageDone dt gbit failed tiles engines planes slices s
  | .busTransaction dt master addr beats write data enables answer placed => Sys2Proof.Machine.execBusTransaction dt master addr beats write data enables answer placed s
  | .busTimeout dt => Sys2Proof.Machine.execBusTimeout dt s
  | .busCmdUnisolate q target => Sys2Proof.Machine.execBusCmdUnisolate q target s
  | .busCmdIsolate q target => Sys2Proof.Machine.execBusCmdIsolate q target s
  | .busCmdLogClear q => Sys2Proof.Machine.execBusCmdLogClear q s
  | .sramEccError dt macro_ row dom cause corrected => Sys2Proof.Machine.execSramEccError dt macro_ row dom cause corrected s
  | .knotCopyWrite dt ok => Sys2Proof.Machine.execKnotCopyWrite dt ok s
  | .islandHorizonRecompute dt island next => Sys2Proof.Machine.execIslandHorizonRecompute dt island next s
  | .islandWake dt island took => Sys2Proof.Machine.execIslandWake dt island took s
  | .islandRequest q island v => Sys2Proof.Machine.execIslandRequest q island v s
  | .pwrWarn dt erasing ok => Sys2Proof.Machine.execPwrWarn dt erasing ok s
  | .pwrWarnRise dt => Sys2Proof.Machine.execPwrWarnRise dt s
  | .logIntervalEnd dt ok dailyOk => Sys2Proof.Machine.execLogIntervalEnd dt ok dailyOk s
  | .eventRecordWrite dt ok => Sys2Proof.Machine.execEventRecordWrite dt ok s
  | .ringCmdVerify q tier => Sys2Proof.Machine.execRingCmdVerify q tier s
  | .ringVerifyDone dt => Sys2Proof.Machine.execRingVerifyDone dt s
  | .thermalSample dt temp => Sys2Proof.Machine.execThermalSample dt temp s
  | .avsUpdate dt acks => Sys2Proof.Machine.execAvsUpdate dt acks s
  | .avsRetry dt ack => Sys2Proof.Machine.execAvsRetry dt ack s
  | .pmbusPoll dt readings alert => Sys2Proof.Machine.execPmbusPoll dt readings alert s
  | .prbsCheckerLock dt lane => Sys2Proof.Machine.execPrbsCheckerLock dt lane s
  | .prbsCheckerUnlock dt lane bits errors => Sys2Proof.Machine.execPrbsCheckerUnlock dt lane bits errors s
  | .sdiGroupDeskewLost dt lane skew => Sys2Proof.Machine.execSdiGroupDeskewLost dt lane skew s
  | .sdiPidAbsent dt lane => Sys2Proof.Machine.execSdiPidAbsent dt lane s
  | .netTrainingFailed dt port lane signal => Sys2Proof.Machine.execNetTrainingFailed dt port lane signal s
  | .mgLinkUp dt port speed => Sys2Proof.Machine.execMgLinkUp dt port speed s
  | .mgLinkDown dt port => Sys2Proof.Machine.execMgLinkDown dt port s
  | .mgSpeedTryTimeout dt port => Sys2Proof.Machine.execMgSpeedTryTimeout dt port s

end Sys2Proof.Machine
end

