-- ==== Sys2Proof/Machine/Step.lean ====
section
/-! DEFINITION. One step: the command at the front of the queue, or, where none waits, a request the device itself holds back, or one
nanosecond. -/

namespace Sys2Proof.Machine

open Sys2Proof

/-- The block with no command waiting: a request it has held back runs, or a nanosecond passes. -/
def State.idle (s : State) : Host.Outcome State Fault Refusal :=
  match s.dev.readyRequest.orElse (fun _ => s.dev.heldRequest) with
  | some (c, d) =>
    (match exec c { s with dev := d } with
     | .next t => .next { t with dev := { t.dev with rcp := { t.dev.rcp with retake := false } } }
     | o => o)
  | none => .next { s with dev := s.dev.lanesRun 1 id }

/-- Take the command at the front of the queue and run it with the queue's rest. -/
def step (s : State) : Host.Outcome State Fault Refusal :=
  match s.pending with
  | [] => s.idle
  | c :: rest => exec c { s with pending := rest }

/-- The state with the command a table word spells at the front of its queue; the table gives no row any bits, so no word spells a
command and the state is unchanged. -/
def State.withFetchWord (s : State) (nbits w : Nat) : State :=
  match decodeTableWord nbits w with
  | some c => { s with pending := c :: s.pending }
  | none => s

end Sys2Proof.Machine
end

