-- ==== Sys2Proof/Safety.lean ====
section
/-! DEFINITION. What the statements say of a run: a command that completes, the invariant of the frame store's bytes. -/

namespace Sys2Proof.Machine

open Sys2Proof

/-- Every byte listed lies in the frame store. -/
def Memory.inside (m : List Host.Cell) : Bool := m.all (fun c => decide (c.1 < memSize))

/-- The frame store's bytes stand in their one canonical form, at addresses the frame store has. -/
def State.memOk (s : State) : Prop := Memory.wf s.mem = true ∧ Memory.inside s.mem = true

/-- A command completes: exec answers a next state, and it is so. -/
def Completes (c : Instr) (s : State) (p : State → Prop) : Prop := ∃ t, exec c s = .next t ∧ p t

/-! ## Frames -/

/-- What a command leaves as it was, beside the passing of time and what the device sends: the queue, the frame store, the device but for
the parts that `may` copies from the new device, and every dictionary field apart from those listed. -/
def Frame (c : Instr) (may : Dev → Dev → Dev) (l : List Fld) : Prop :=
  ∀ s t : State, exec c s = .next t →
    t.dev = { may s.dev t.dev with dict := t.dev.dict, raw := t.dev.raw, wall := t.dev.wall, out := t.dev.out }
      ∧ t.mem = s.mem ∧ t.pending = s.pending
      ∧ ∀ (g : Fld) (m : Nat), l.all (fun f => Fld.apart f g) = true → t.dev.rd g m = s.dev.rd g m

/-- The same of a command that may write the frame store. -/
def FrameBut (c : Instr) (may : Dev → Dev → Dev) (l : List Fld) : Prop :=
  ∀ s t : State, exec c s = .next t →
    t.dev = { may s.dev t.dev with dict := t.dev.dict, raw := t.dev.raw, wall := t.dev.wall, out := t.dev.out }
      ∧ t.pending = s.pending
      ∧ ∀ (g : Fld) (m : Nat), l.all (fun f => Fld.apart f g) = true → t.dev.rd g m = s.dev.rd g m

/-- The same where entries besides the fields listed may change, which the state before and the entry's key tell. -/
def FrameOver (c : Instr) (may : Dev → Dev → Dev) (l : List Fld) (more : State → Key → Bool) : Prop :=
  ∀ s t : State, exec c s = .next t →
    t.dev = { may s.dev t.dev with dict := t.dev.dict, raw := t.dev.raw, wall := t.dev.wall, out := t.dev.out }
      ∧ t.mem = s.mem ∧ t.pending = s.pending
      ∧ ∀ (g : Fld) (m : Nat), l.all (fun f => Fld.apart f g) = true → more s (g.key m) = false → t.dev.rd g m = s.dev.rd g m

/-- What a reset leaves whatever its reach: the queue, the flash records, the knot map, the take records, the SRAM rows, the blocks withdrawn
and substituted, the ownership and boot control records, and of the dictionary fields apart from those listed every one that a POR keeps. The
frame store keeps its bytes or loses them all. -/
def FrameReset (c : Instr) (l : List Fld) : Prop :=
  ∀ s t : State, exec c s = .next t →
    t.pending = s.pending ∧ (t.mem = s.mem ∨ t.mem = []) ∧ t.dev.flash = s.dev.flash ∧ t.dev.knot = s.dev.knot
      ∧ t.dev.takeLog = s.dev.takeLog ∧ t.dev.rows = s.dev.rows ∧ t.dev.store.withdrawn = s.dev.store.withdrawn
      ∧ t.dev.store.subs = s.dev.store.subs ∧ t.dev.sec.owner0 = s.dev.sec.owner0 ∧ t.dev.sec.owner1 = s.dev.sec.owner1
      ∧ t.dev.sec.boot0 = s.dev.sec.boot0 ∧ t.dev.sec.boot1 = s.dev.sec.boot1
      ∧ ∀ (g : Fld) (m : Nat), l.all (fun f => Fld.apart f g) = true → keeps 0 (g.key m) = true → t.dev.rd g m = s.dev.rd g m

/-- The fields that receiving and answering an RCP request may change, whatever it asks. -/
def rcpFields : List Fld :=
  [D.MgCounters.RX_FRAMES, D.MgCounters.TX_FRAMES, D.MgCounters.RCP_FRAMES, D.MgStatus.CONFIRM_PENDING, D.Rcp.FRAMES_DROPPED,
   D.Rcp.AUTH_FAILURES, D.Rcp.RETRANSMITS]

/-! ## RCP requests -/

/-- The device at which a request's operation runs: time has passed, the frame is counted, the session has been heard. -/
def Dev.atBody (d : Dev) (q : Rcp) : Dev := ((d.elapse q.dt).mgRx q.via).heard q

/-- The device takes a frame in: it listens where the frame arrives, the frame is sent to RCP_UDP_PORT and, in band, lies within the 1,000 that
the management cores take in a second (R165, R408). -/
def Dev.hears (d : Dev) (q : Rcp) : Bool := d.listens q.via && !(d.elapse q.dt).passedBy q

/-- The device takes a frame as its session's next request and serves it now: header and tag are right, the session is open and has executed
the request before (R408, R411, R414), the operation is known, SERVICE has been reached (R505), no recovery start-up runs (R471), the MGT image
does not restart (R462). -/
def Dev.takes (d : Dev) (q : Rcp) : Bool :=
  d.hears q && headerOk q && q.session != 0 && d.sealOk q && !unknownOp q.op && decide (6 ≤ d.stage) && !d.rst.recovery && !d.restarts 1
    && (match d.session? q.session with | some x => sdiff q.seq x.last 32 == 1 | none => false)

/-- Who asks. -/
def Dev.asker (d : Dev) (q : Rcp) : Who := ⟨q.session, (match d.session? q.session with | some x => x.role | none => 0), q.via⟩

/-- The device's last command sent the response of a status to a request. -/
def Dev.answered (d : Dev) (q : Rcp) (status : Nat) : Bool :=
  d.out.any (fun e => match e with
    | .response via peer port session seq op st _ _ =>
      via == q.via && peer == q.peer && port == q.port && session == q.session && seq == q.seq && op == q.op && st == status
    | _ => false)

/-- A WRITE of an entry is taken and passes every check that holds for all entries (R10, R12, R413). -/
def Dev.grants (d : Dev) (q : Rcp) (ix sub : Nat) (v : Bytes) : Bool := d.takes q && (d.writeFail (d.asker q) ix sub v).isNone

/-- A whole WRITE_DOM of an entry is taken and passes every check that holds for all entries (R10, R12, R413). -/
def Dev.grantsDom (d : Dev) (q : Rcp) (ix sub offset : Nat) (v : Bytes) : Bool := d.takes q && (d.domFail (d.asker q) ix sub offset v).isNone

/-- The RCP frame that a command is: every request row has one. -/
def requestOf : Instr → Option Rcp
  | .read q _ _ => some q
  | .write q _ _ _ => some q
  | .readDom q _ _ _ _ _ => some q
  | .writeDom q _ _ _ _ _ => some q
  | .commit q => some q
  | .discard q => some q
  | .groupAbort q _ => some q
  | .subscribe q _ _ _ => some q
  | .unsubscribe q _ => some q
  | .close q => some q
  | .keepalive q => some q
  | .discover q _ => some q
  | .modeWrite q _ _ => some q
  | .planeCmdResetX q => some q
  | .planeCmdResetY q => some q
  | .planeCmdSwap q => some q
  | .ctrlTx q _ => some q
  | .dpllCmdPhaseStep q _ _ => some q
  | .dpllCmdClearBuildout q _ => some q
  | .servoCmdStep q _ => some q
  | .servoCmdSetRate q _ => some q
  | .servoCmdAddRate q _ => some q
  | .tileCmdSubstitute q _ => some q
  | .tileCmdRestore q _ => some q
  | .tileCmdTest q _ => some q
  | .veneerWrite q _ _ _ _ _ _ _ => some q
  | .veneerFlip q _ => some q
  | .tallyWrite q _ _ => some q
  | .take q _ => some q
  | .salvoChangesWrite q _ _ _ => some q
  | .salvoTakeTimeWrite q _ _ => some q
  | .salvoArm q _ => some q
  | .salvoAbort q _ => some q
  | .salvoClear q _ => some q
  | .salvoCommitCmd q _ => some q
  | .chanCmdRetrain q _ => some q
  | .chanCmdRetire q _ => some q
  | .chanCmdRestore q _ => some q
  | .twinCmdMakeActive q => some q
  | .laneCmdStep q _ => some q
  | .laneCmdSwapOut q _ => some q
  | .laneCmdRetrain q _ => some q
  | .laneCmdMarginScan q _ _ => some q
  | .laneCmdMarginAbort q _ => some q
  | .ownerCmdEnrol q _ _ _ _ => some q
  | .ownerCmdTransfer q _ _ _ _ _ => some q
  | .ownerCmdRelease q _ _ => some q
  | .attestNonce q _ => some q
  | .debugToken q _ _ _ => some q
  | .updateBegin q => some q
  | .manifestIn q _ => some q
  | .imageWrite q _ _ => some q
  | .updateEnd q => some q
  | .updateAbort q => some q
  | .activateInService q => some q
  | .activateRestart q => some q
  | .updateAccept q => some q
  | .updateReject q => some q
  | .updateRecover q => some q
  | .faultCmdClear q _ => some q
  | .faultCmdClearGroup q _ => some q
  | .faultCmdClearAll q => some q
  | .faultCmdFirstClear q => some q
  | .faultCmdSummaryClear q => some q
  | .faultCmdBlkrst q _ _ => some q
  | .faultCmdChiprst q _ => some q
  | .faultCmdInject q _ _ => some q
  | .resetCmdCold q => some q
  | .resetCmdWarm q => some q
  | .resetCmdDomain q _ => some q
  | .busCmdUnisolate q _ => some q
  | .busCmdIsolate q _ => some q
  | .busCmdLogClear q => some q
  | .islandRequest q _ _ => some q
  | .ringCmdVerify q _ => some q
  | .openHello q _ _ _ _ => some q
  | .openChallengeFetch q _ _ => some q
  | .openResponse q _ _ _ _ => some q
  | _ => none

/-- The time before a media command: one that does something in SERVICE only. -/
def mediaDt : Instr → Option Nat
  | .flowEngineConfigured dt _ => some dt
  | .flowEngineQuiesced dt _ => some dt
  | .runStart dt _ => some dt
  | .cellEmit dt _ _ _ _ _ _ _ _ => some dt
  | .cellReceived dt _ _ => some dt
  | .mergeCopyArrival dt _ _ _ => some dt
  | .mergeWindowEnd dt _ _ => some dt
  | .cellRelease dt _ => some dt
  | .sourceLossTimeout dt _ => some dt
  | .planeFail dt _ _ => some dt
  | .planeBistDone dt _ _ _ _ => some dt
  | .planeResyncDone dt _ _ => some dt
  | .planeRebuildDone dt _ => some dt
  | .sdiRxLock dt _ _ => some dt
  | .sdiRxLockLost dt _ => some dt
  | .sdiRxFormatChange dt _ => some dt
  | .sdiFormatDetected dt _ _ _ _ _ _ => some dt
  | .sdiPortResume dt _ _ _ => some dt
  | .sdiTxFrameBoundary dt _ _ _ => some dt
  | .holdMaxExpiry dt _ => some dt
  | .sdiGroupDeskewLost dt _ _ => some dt
  | .sdiPidAbsent dt _ => some dt
  | .netFrameRx dt _ => some dt
  | .netRxSilence dt _ _ => some dt
  | .net20227Release dt _ => some dt
  | .netLinkUp dt _ => some dt
  | .netLinkDown dt _ => some dt
  | .netSpareRemap dt _ => some dt
  | .netCtrlFrame dt => some dt
  | .netQueryRx dt _ _ _ _ => some dt
  | .netQueryResponse dt _ => some dt
  | .netMembershipReport dt _ => some dt
  | .igmpReportRepeat dt _ => some dt
  | .netResolveRefresh dt _ _ _ => some dt
  | .netPacketTx dt _ => some dt
  | .netTrainingFailed dt _ _ _ => some dt
  | .ptpAnnounceRx dt _ _ => some dt
  | .ptpLeaderLost dt _ _ _ => some dt
  | .ptpDelayReqTx dt _ => some dt
  | .ptpEventRx dt _ _ => some dt
  | .tcRelay dt _ _ _ _ _ _ _ => some dt
  | .leapSecond dt => some dt
  | .timeOutputEdge dt _ => some dt
  | .tileFail dt _ => some dt
  | .tileSubstitutionDone dt _ => some dt
  | .tileBistDone dt _ _ => some dt
  | .fsOutputFrame dt _ _ _ => some dt
  | .fsInputLoss dt _ _ => some dt
  | .headFrameBoundary dt _ _ _ => some dt
  | .layerFrameComplete dt _ _ => some dt
  | .layerRunStart dt _ => some dt
  | .cmpEngineFail dt _ => some dt
  | .twinTakeRx dt _ _ => some dt
  | .twinTakeAck dt _ _ => some dt
  | .twinTakeTimeout dt => some dt
  | .takeApply dt _ => some dt
  | .delayChangeApply dt _ => some dt
  | .salvoPrepare dt _ _ => some dt
  | .salvoPrepared dt _ => some dt
  | .salvoVoteRx dt _ _ => some dt
  | .salvoDecisionLogged dt _ => some dt
  | .salvoVoteDeadline dt _ => some dt
  | .salvoCommitRx dt _ _ => some dt
  | .salvoAbortRx dt _ _ => some dt
  | .salvoDecideDeadline dt _ => some dt
  | .salvoQueryTimer dt _ => some dt
  | .salvoQueryRx dt _ _ => some dt
  | .salvoTakeTimeReached dt _ => some dt
  | .audioPosition dt => some dt
  | .audioSampleWrite dt _ _ _ => some dt
  | .sapFrame dt _ _ _ => some dt
  | .memRequestServe dt _ _ _ => some dt
  | .requestDeadlineMiss dt _ => some dt
  | .mr4Poll dt _ _ _ => some dt
  | .srEntry dt _ _ => some dt
  | .srExit dt _ => some dt
  | .delayRecentre dt _ => some dt
  | .chanDegradeCheck dt _ => some dt
  | .chanFail dt _ _ => some dt
  | .patrolTest dt _ _ _ => some dt
  | .twinReconcile dt _ => some dt
  | .twinCopyDone dt _ _ => some dt
  | .twinSignatureRx dt _ _ _ _ => some dt
  | .twinAnchorSend dt => some dt
  | .twinAnchorRx dt _ _ _ => some dt
  | .sdiSliceSpare dt _ _ => some dt
  | _ => none

/-- A frame that R411 has discarded without an answer: a wrong header, a wrong CRC or tag, or a session that is not open. -/
def Dev.discards (d : Dev) (q : Rcp) : Bool :=
  q.magic != 0x5243 || q.version != 0x01 || !q.lenOk || bit q.flags 7 || bit q.flags 6 || !d.sealOk q
    || q.session != 0 && (d.session? q.session).isNone

/-- The device holds no more sessions and OPEN exchanges than it may (R417, R446). -/
def State.sessionsOk (s : State) : Prop := s.dev.rcp.sessions.length ≤ 16 ∧ s.dev.rcp.opens.length ≤ 4

/-- An index outside every range of Table 00.3. -/
def outsideDirectory (ix : Nat) : Bool :=
  !(decide (ix ≤ 0x13FF) || decide (0x4000 ≤ ix) && decide (ix ≤ 0x60BF) || decide (0x6100 ≤ ix) && decide (ix ≤ 0x610B)
    || decide (0x6200 ≤ ix) && decide (ix ≤ 0x623F) || decide (0x7000 ≤ ix) && decide (ix ≤ 0x77FF))

end Sys2Proof.Machine
end

