-- ==== Sys2Proof/Certificates/Slice0/Obligations.lean ====
section
/-! DEFINITION. The statements for the provers. -/

open Sys2Proof Sys2Proof.Machine

/-- A step runs the command at the front of the queue. The queue is the model's own way of receiving commands (assumption log, 5). -/
def Obligations.StepRunsFront : Prop :=
  ∀ (s : State) (c : Instr) (rest : List Instr), s.pending = c :: rest → step s = exec c { s with pending := rest }

/-- On an empty queue a step takes up a request the device has held back, and where there is none lets one nanosecond pass, in which the dowel lanes send what is due. The model's choice (assumption log, 5). -/
def Obligations.StepIdles : Prop :=
  (∀ s : State, s.pending = [] → s.dev.readyRequest = none → s.dev.heldRequest = none → step s = .next { s with dev := s.dev.lanesRun 1 id }) ∧
  (∀ (s : State) (c : Instr) (d : Dev), s.pending = [] → (s.dev.readyRequest = some (c, d) ∨ s.dev.readyRequest = none ∧ s.dev.heldRequest = some (c, d)) →
    ∀ t, step s = .next t → ∃ u, exec c { s with dev := d } = .next u ∧ t.dev.rcp.retake = false ∧ t.dev.dict = u.dev.dict ∧ t.dev.out = u.dev.out ∧ t.mem = u.mem)

/-- In every state every command answers a next state with the queue unchanged, but for an access beyond the end of the 128 GiB frame store, which stops with noSuchAddress. No command is refused. -/
def Obligations.EveryCommandAnswers : Prop :=
  ∀ (c : Instr) (s : State), (∃ t, exec c s = .next t ∧ t.pending = s.pending) ∨ (∃ a n, memSize < a + n ∧ exec c s = .fault (.noSuchAddress a))

/-- From every state whose frame-store bytes stand in canonical form at addresses the frame store has, every step that answers a next state leaves such bytes. -/
def Obligations.StepKeepsMemory : Prop :=
  ∀ s t : State, s.memOk → step s = .next t → t.memOk

/-- From every state with at most 16 open sessions and at most 4 OPEN exchanges, every step that answers a next state leaves no more. -/
def Obligations.StepKeepsSessions : Prop :=
  ∀ s t : State, s.sessionsOk → step s = .next t → t.sessionsOk

/-- At power-on a POR of source 0x01 stands and RESET_CAUSE and RESET_COUNTS say so, ERR_N is low, start-up is at RESET, no session and no exchange is open, every other entry holds its default, the frame store's bytes are in canonical form, and no command waits. That the run begins in this POR is the model's choice (assumption log, 21). -/
def Obligations.ResetState : Prop :=
  State.reset.pending = [] ∧ State.reset.mem = [] ∧ State.reset.memOk ∧ State.reset.sessionsOk ∧ State.reset.dev.inReset = true ∧ State.reset.dev.stage = 0 ∧
  State.reset.dev.rd D.ResetCause.REACH 0 = 0 ∧ State.reset.dev.rd D.ResetCause.SOURCE 0 = 1 ∧ State.reset.dev.rd D.Rst.RESET_COUNTS 0 = 1 ∧
  State.reset.dev.on D.Flt.ERRN_STATE 0 = true ∧ State.reset.dev.flt.errnLow = true ∧ State.reset.dev.rcp.sessions = [] ∧
  (∀ k : Key, k ≠ ⟨0x0400, 8, 0⟩ → k ≠ ⟨0x0510, 2, 0⟩ → k ≠ ⟨0x0510, 3, 0⟩ → State.reset.dev.ent k = Dict.dflt k)

/-- A request that arrives where the device is not listening, and a media command while start-up has not reached SERVICE or a reset stands, leave every part of the device as it was but for the time that passes. A request that is sent to another UDP port than RCP_UDP_PORT in effect, or comes in band beyond the 1,000 frames of a second, is counted where it arrives and does nothing else. Where the spec leaves a point open it rests on the model's choices and readings (assumption logs 7, 116 and 143). -/
def Obligations.NothingOutsideItsTime : Prop :=
  (∀ (c : Instr) (q : Rcp) (s : State), requestOf c = some q → s.dev.memQ = [] → s.dev.listens q.via = false → exec c s = .next { s with dev := s.dev.elapse q.dt }) ∧
  (∀ (c : Instr) (q : Rcp) (s : State), requestOf c = some q → s.dev.memQ = [] → (c ≠ .discover q true ∨ q.via ≤ 1) → s.dev.listens q.via = true →
    (s.dev.elapse q.dt).passedBy q = true → exec c s = .next { s with dev := (s.dev.elapse q.dt).mgRx q.via }) ∧
  (∀ (c : Instr) (dt : Nat) (s : State), mediaDt c = some dt → s.dev.memQ = [] → s.dev.serving = false → exec c s = .next { s with dev := s.dev.elapse dt })

/-- Of the frames the device takes in, one with a wrong MAGIC or VERSION or length, a wrong CRC or tag, RESPONSE or NOTIFY set, or a session that is not open is not answered and adds 1 to FRAMES_DROPPED; a wrong GCM tag (that of an open session's frame whose header is right) also adds 1 to AUTH_FAILURES. A frame that passes these checks with an unknown OP, executed in its session, is answered with FORMAT. -/
def Obligations.BadFramesAreDiscarded : Prop :=
  (∀ (c : Instr) (q : Rcp) (s : State), requestOf c = some q → s.dev.memQ = [] → s.dev.hears q = true → (c ≠ .discover q true ∨ q.via ≤ 1) → s.dev.discards q = true →
    Completes c s (fun t => t.dev.out = [] ∧ t.dev.rd D.Rcp.FRAMES_DROPPED 0 = min (s.dev.rd D.Rcp.FRAMES_DROPPED 0 + 1) (2 ^ 32 - 1) ∧
      t.dev.rd D.Rcp.AUTH_FAILURES 0 = (if headerOk q = true ∧ q.session ≠ 0 ∧ s.dev.sealOk q = false ∧ (s.dev.session? q.session).isSome = true
        then min (s.dev.rd D.Rcp.AUTH_FAILURES 0 + 1) (2 ^ 32 - 1) else s.dev.rd D.Rcp.AUTH_FAILURES 0))) ∧
  (∀ (c : Instr) (q : Rcp) (s : State) (x : Session), requestOf c = some q → s.dev.memQ = [] → s.dev.hears q = true → (c ≠ .discover q true ∨ q.via ≤ 1) → s.dev.discards q = false →
    q.session ≠ 0 → s.dev.session? q.session = some x → sdiff q.seq x.last 32 = 1 → unknownOp q.op = true →
    Completes c s (fun t => t.dev.out.any (fun e => match e with
      | .response _ _ _ _ seq op st _ _ => seq == q.seq && op == q.op && st == St.FORMAT
      | _ => false) = true))

/-- A session's request that is 2 to 8 ahead of the last one is held and executes nothing; one that is up to 31 behind and has its response kept gets it again and adds 1 to RETRANSMITS; one further ahead or behind is discarded. None of them moves the session's last executed number. -/
def Obligations.RequestsRunInOrder : Prop :=
  ∀ (c : Instr) (q : Rcp) (s : State) (x : Session), requestOf c = some q → (∀ b, c ≠ .discover q b) → s.dev.memQ = [] → s.dev.hears q = true →
    s.dev.discards q = false → q.session ≠ 0 → s.dev.session? q.session = some x →
    (2 ≤ sdiff q.seq x.last 32 → sdiff q.seq x.last 32 ≤ 8 →
      Completes c s (fun t => t.dev.out = [] ∧ (t.dev.session? q.session).map (fun y => (y.last, y.held.any (fun h => h.1 == q.seq))) = some (x.last, true))) ∧
    (∀ r, -31 ≤ sdiff q.seq x.last 32 → sdiff q.seq x.last 32 ≤ 0 → x.cache.find? (fun k => k.seq == q.seq) = some r →
      Completes c s (fun t => t.dev.out = [.response q.via q.peer q.port q.session r.seq r.op r.status r.payload (sealBack q)] ∧
        t.dev.rd D.Rcp.RETRANSMITS 0 = min (s.dev.rd D.Rcp.RETRANSMITS 0 + 1) (2 ^ 32 - 1) ∧ (t.dev.session? q.session).map (fun y => y.last) = some x.last)) ∧
    (sdiff q.seq x.last 32 < -31 ∨ 8 < sdiff q.seq x.last 32 →
      Completes c s (fun t => t.dev.out = [] ∧ (t.dev.session? q.session).map (fun y => (y.last, y.held, y.cache)) = some (x.last, x.held, x.cache)))

/-- An index outside every range of Table 00.3 has no entry, and READ, WRITE, READ_DOM and WRITE_DOM of it are answered NO_ENTRY. -/
def Obligations.NoEntryOutsideTheDirectory : Prop :=
  ∀ ix sub : Nat, outsideDirectory ix = true → Dict.row ix sub = none ∧
    (∀ (s : State) (q : Rcp) (v : Bytes) (offset length : Nat), s.dev.takes q = true → s.dev.memQ = [] →
      Completes (.read q ix sub) s (fun t => t.dev.answered q St.NO_ENTRY = true) ∧
      Completes (.write q ix sub v) s (fun t => t.dev.answered q St.NO_ENTRY = true) ∧
      (1 ≤ length → length ≤ 1024 → Completes (.readDom q ix sub 128 offset length) s (fun t => t.dev.answered q St.NO_ENTRY = true)) ∧
      (1 ≤ v.len → v.len ≤ 1024 → Completes (.writeDom q ix sub 128 offset v) s (fun t => t.dev.answered q St.NO_ENTRY = true)))

/-- A WRITE that is taken and fails a check leaves the device as it stood when the request was heard, but for the response. An RO or RC entry gives ACCESS, a role below the entry's gives ACCESS (NOT_OWNER for the OWNER role while no owner is enrolled), a wrong length gives TYPE, and a reserved bit or a value out of range gives RANGE; a role above one that may write may write too. Where the spec leaves a point open it rests on the model's choices and readings (assumption log 11). -/
def Obligations.RefusedWritesChangeNothing : Prop :=
  (∀ (s : State) (q : Rcp) (ix sub st : Nat) (v : Bytes), s.dev.takes q = true → s.dev.writeFail (s.dev.asker q) ix sub v = some st → v.val < 256 ^ v.len →
    exec (.write q ix sub v) s = .next { s with dev := (s.dev.atBody q).answer q (Reply.of st) }) ∧
  (∀ (d : Dev) (w : Who) (ix sub : Nat) (v : Bytes) (r : Dict.Row), Dict.row ix sub = some r →
    (r.acc = 0 ∨ r.acc = 3 → d.writeFail w ix sub v = some St.ACCESS) ∧
    (r.acc ≠ 0 → r.acc ≠ 3 → w.role < r.role → d.writeFail w ix sub v = some (if r.role = 4 ∧ d.rd D.Sec.OWNER_STATE 0 = 0 then St.NOT_OWNER else St.ACCESS)) ∧
    (r.acc ≠ 0 → r.acc ≠ 3 → r.role ≤ w.role → (r.role = 4 → d.rd D.Sec.OWNER_STATE 0 ≠ 0) → v.len ≠ r.size → d.writeFail w ix sub v = some St.TYPE) ∧
    (r.acc ≠ 0 → r.acc ≠ 3 → r.role ≤ w.role → (r.role = 4 → d.rd D.Sec.OWNER_STATE 0 ≠ 0) → r.ty ≠ 13 → r.size ≤ 1096 → v.len = r.size → r.typed v.val = true →
      r.t80Ok v.val = false ∨ r.chk.ok v.val = false → d.writeFail w ix sub v = some St.RANGE) ∧
    (∀ w' : Who, w.role ≤ w'.role → d.writeFail w ix sub v = none → d.writeFail w' ix sub v = none))

/-- The commit group is discarded by DISCARD of its holder, by the end of the holder's session (CLOSE, idle time, a WARM or wider reset), by a write of 1 to GROUP_ABORT, and after GROUP_IDLE_S seconds (30 by default) without a staging write or COMMIT, each of which restarts that time; a COMMIT with no group returns TIMEOUT after an idle discard and STATE otherwise, after GROUP_ABORT too. -/
def Obligations.GroupsEnd : Prop :=
  State.reset.dev.rd D.Rcp.GROUP_IDLE_S 0 = 30 ∧
  (∀ (s : State) (q : Rcp), s.dev.takes q = true → s.dev.groupHolder = q.session → Completes (.discard q) s (fun t => t.dev.answered q St.OK = true ∧ t.dev.rcp.group = none)) ∧
  (∀ (s : State) (q : Rcp), s.dev.takes q = true → s.dev.groupHolder = q.session → Completes (.close q) s (fun t => t.dev.rcp.group = none)) ∧
  (∀ (s : State) (dt session : Nat) (x : Session), s.dev.session? session = some x → s.dev.groupHolder = session → session ≠ 0 →
    (s.dev.elapse dt).past x.reqAt (s.dev.rd D.Rcp.SESSION_IDLE_S 0 * 1000000000) = true → Completes (.sessionIdleExpiry dt session) s (fun t => t.dev.rcp.group = none)) ∧
  (∀ (s : State) (dt n : Nat) (r : Reset), s.dev.rst.entering[n]? = some r → r.reach ≤ 2 → Completes (.resetAssert dt n) s (fun t => t.dev.rcp.group = none)) ∧
  (∀ (s : State) (q : Rcp) (g : Group), s.dev.grants q 0x0100 0x0B ⟨1, 1⟩ = true → s.dev.rcp.group = some g → Completes (.groupAbort q ⟨1, 1⟩) s (fun t =>
    t.dev.answered q St.OK = true ∧ t.dev.rcp.group = none ∧ (t.dev.session? g.holder).map (fun y => y.groupEnd) = (s.dev.session? g.holder).map (fun _ => 2))) ∧
  (∀ (s : State) (dt : Nat) (g : Group), s.dev.rcp.group = some g → (s.dev.elapse dt).past g.seenAt (s.dev.rd D.Rcp.GROUP_IDLE_S 0 * 1000000000) = true →
    Completes (.groupIdleDiscard dt) s (fun t => t.dev.rcp.group = none ∧ (t.dev.session? g.holder).map (fun y => y.groupEnd) = (s.dev.session? g.holder).map (fun _ => 1))) ∧
  (∀ (s : State) (dt : Nat) (g : Group), s.dev.rcp.group = some g → (s.dev.elapse dt).past g.seenAt (s.dev.rd D.Rcp.GROUP_IDLE_S 0 * 1000000000) = false →
    Completes (.groupIdleDiscard dt) s (fun t => t.dev.rcp.group = some g)) ∧
  (∀ (d e : Dev) (w : Who) (l : Store), d.stageAll w l = (e, St.OK) → e.rcp.group.map (fun g => (g.holder, g.seenAt)) = some (w.session, d.wall)) ∧
  (∀ (s : State) (q : Rcp) (x : Session), s.dev.takes q = true → s.dev.rcp.group = none → s.dev.session? q.session = some x →
    Completes (.commit q) s (fun t => t.dev.answered q (if x.groupEnd = 1 then St.TIMEOUT else St.STATE) = true))

/-- In service, a STARTING context whose engine is configured is RUNNING with the next sequence number 0; a STOPPING one that is quiesced goes IDLE, or STARTING with CELLS 0 where its enable is queued; a run starts with sequence number 0 and its source present; an SDI input whose next cell ends in a whole word, at a time not before that of its last cell, sends it, counts it and advances its sequence number by 1 modulo 2³². Where the spec leaves a point open it rests on the model's choices and readings (assumption log 29). -/
def Obligations.FlowEnginesComplete : Prop :=
  (∀ (s : State) (dt ctx : Nat), s.dev.serving = true → ctx < 8192 → s.dev.rd D.Flow.STATE ctx = FlowState.STARTING → (s.dev.flowSt ctx).stop = false → Completes (.flowEngineConfigured dt ctx) s (fun t => t.dev.rd D.Flow.STATE ctx = FlowState.RUNNING ∧ t.dev.rd D.Flow.SEQ_NEXT ctx = 0)) ∧
  (∀ (s : State) (dt ctx : Nat), s.dev.serving = true → ctx < 8192 → s.dev.rd D.Flow.STATE ctx = FlowState.STOPPING → s.dev.on D.Flow.ENABLE ctx = false → Completes (.flowEngineQuiesced dt ctx) s (fun t => t.dev.rd D.Flow.STATE ctx = FlowState.IDLE)) ∧
  (∀ (s : State) (dt ctx : Nat), s.dev.serving = true → ctx < 8192 → s.dev.rd D.Flow.STATE ctx = FlowState.STOPPING → s.dev.on D.Flow.ENABLE ctx = true → Completes (.flowEngineQuiesced dt ctx) s (fun t => t.dev.rd D.Flow.STATE ctx = FlowState.STARTING ∧ t.dev.rd D.Flow.CELLS ctx = 0)) ∧
  (∀ (s : State) (dt ctx : Nat), s.dev.serving = true → ctx < 4096 → s.dev.running ctx = true → (s.dev.flowSt ctx).begun = false → s.dev.kind ctx ≠ 1 → Completes (.runStart dt ctx) s (fun t => t.dev.rd D.Flow.SEQ_NEXT ctx = 0 ∧ t.dev.on D.FlowStatus.SOURCE_LOST ctx = false ∧ (t.dev.flowSt ctx).begun = true)) ∧
  (∀ (s : State) (dt ctx itime len pos payload field : Nat) (sof eof : Bool), s.dev.serving = true → ctx < 4096 → s.dev.running ctx = true → s.dev.kind ctx = 1 → (s.dev.flowSt ctx).begun = true → (s.dev.flowSt ctx).base.isSome = true → (s.dev.flowSt ctx).lastItime.all (fun t0 => decide (0 ≤ sdiff (itime + (if 1 < Fmt.links (s.dev.format ctx) then (s.dev.rxSt (s.dev.bindIx ctx)).lag else 0)) t0 48)) = true → 1 ≤ len → len ≤ 256 → 8 * (len - 1) < (s.dev.cellPlace ctx len 0 false false).bits → Completes (.cellEmit dt ctx itime len pos sof eof payload field) s (fun t => t.dev.rd D.Flow.SEQ_NEXT ctx = (s.dev.rd D.Flow.SEQ_NEXT ctx + 1) % 2 ^ 32 ∧ t.dev.rd D.Flow.CELLS ctx = (s.dev.rd D.Flow.CELLS ctx + 1) % 2 ^ 64 ∧ t.dev.on D.FlowStatus.EMITTING ctx = true))

/-- In service, a cell that passes R47 counts at its PEER_IN context and one that does not counts as malformed there; at an output the first cell of a run anchors it, a cell that comes after its release time counts as late, the end of a merge window counts the absent copy on its plane, a sequence number without a valid copy at its release time counts as missing, and a source without cells for the loss span is lost, which puts an output in safe state. Where the spec leaves a point open it rests on the model's choices and readings (assumption logs 15 and 103). -/
def Obligations.CellsAreTakenOrCounted : Prop :=
  (∀ (s : State) (dt group c : Nat) (cell : Cell), s.dev.serving = true → group < 7 → s.dev.peerOf cell.efn = some c → s.dev.running c = true → cellAccepted cell 0 = true → pathVias (s.dev.rd D.Flow.PATH c) = [] → Completes (.cellReceived dt group cell) s (fun t => t.dev.rd D.Flow.CELLS c = (s.dev.rd D.Flow.CELLS c + 1) % 2 ^ 64 ∧ t.dev.rd D.Flow.MALFORMED c = s.dev.rd D.Flow.MALFORMED c)) ∧
  (∀ (s : State) (dt group c : Nat) (cell : Cell), s.dev.serving = true → group < 7 → s.dev.peerOf cell.efn = some c → s.dev.running c = true → cellAccepted cell 0 = false → Completes (.cellReceived dt group cell) s (fun t => t.dev.rd D.Flow.MALFORMED c = min (s.dev.rd D.Flow.MALFORMED c + 1) (2 ^ 32 - 1) ∧ t.dev.rd D.Flow.CELLS c = s.dev.rd D.Flow.CELLS c ∧ t.dev.out = [])) ∧
  (∀ (s : State) (dt ctx p : Nat) (cell : Cell) (m : Merge), s.dev.serving = true → 4096 ≤ ctx → ctx < 8192 → p < 2 → s.dev.running ctx = true → s.dev.inService p = true → (s.dev.flowSt ctx).cur = some m → m.efn = cell.efn → m.anchor = none → cellAccepted cell m.type = true → cell.sof = true → (s.dev.elapse dt).overdue ctx cell.itime ≤ 0 → Completes (.mergeCopyArrival dt ctx p cell) s (fun t => t.dev.on D.FlowStatus.ANCHORED ctx = true ∧ ((t.dev.flowSt ctx).cur.bind (fun x0 => x0.anchor)) = some cell.itime)) ∧
  (∀ (s : State) (dt ctx p : Nat) (cell : Cell) (m : Merge), s.dev.serving = true → 4096 ≤ ctx → ctx < 8192 → p < 2 → s.dev.running ctx = true → s.dev.inService p = true → (s.dev.flowSt ctx).cur = some m → m.efn = cell.efn → m.anchor = none → cellAccepted cell m.type = true → cell.sof = true → 0 < (s.dev.elapse dt).overdue ctx cell.itime → Completes (.mergeCopyArrival dt ctx p cell) s (fun t => t.dev.rd D.Flow.LATE ctx = min (s.dev.rd D.Flow.LATE ctx + 1) (2 ^ 32 - 1))) ∧
  (∀ (s : State) (dt ctx seq p : Nat) (cell : Cell) (m : Merge) (sl : Slot) (cp : Copy), s.dev.serving = true → 4096 ≤ ctx → ctx < 8192 → (s.dev.flowSt ctx).cur = some m → (s.dev.flowSt ctx).pend = none → m.slot seq = some sl → sl.ended = false → sl.copies.find? (fun x => x.window) = none → sl.copies.head? = some cp → (s.dev.elapse dt).past cp.at_ (s.dev.rd D.Planes.MERGE_WINDOW_NS 0) = true → sl.kept = some (p, cell) → p < 2 → sl.has (1 - p) = false → s.dev.inService (1 - p) = true → (s.dev.planeSt (1 - p)).join = none → Completes (.mergeWindowEnd dt ctx seq) s (fun t => t.dev.rd D.Plane.MISSING (1 - p) = min (s.dev.rd D.Plane.MISSING (1 - p) + 1) (2 ^ 32 - 1))) ∧
  (∀ (s : State) (dt ctx n p : Nat) (cell : Cell) (m : Merge) (sl : Slot), s.dev.serving = true → s.dev.memQ = [] → 4096 ≤ ctx → ctx < 8192 → s.dev.running ctx = true → s.dev.kind ctx = 0x41 → (s.dev.flowSt ctx).cur = some m → m.next = some n → m.slot n = some sl → sl.kept = some (p, cell) → (s.dev.elapse dt).due ctx sl.itime = true → Completes (.cellRelease dt ctx) s (fun t => t.dev.rd D.Flow.SEQ_NEXT ctx = sl.seq % 2 ^ 32 ∧ t.dev.rd D.Flow.CELLS ctx = (s.dev.rd D.Flow.CELLS ctx + 1) % 2 ^ 64 ∧ t.dev.on D.FlowStatus.EMITTING ctx = true)) ∧
  (∀ (s : State) (dt ctx n : Nat) (m : Merge) (sl : Slot), s.dev.serving = true → s.dev.memQ = [] → 4096 ≤ ctx → ctx < 8192 → s.dev.running ctx = true → (s.dev.flowSt ctx).cur = some m → m.next = some n → m.slot n = some sl → sl.kept = none → sl.timed = true → (s.dev.elapse dt).due ctx sl.itime = true → Completes (.cellRelease dt ctx) s (fun t => t.dev.rd D.Flow.MISSING ctx = min (s.dev.rd D.Flow.MISSING ctx + 1) (2 ^ 32 - 1) ∧ t.dev.out.contains (Emission.missing ctx n) = true ∧ t.mem = s.mem)) ∧
  (∀ (s : State) (dt ctx : Nat), s.dev.serving = true → ctx < 4096 → s.dev.running ctx = true → (s.dev.flowSt ctx).begun = false → Completes (.sourceLossTimeout dt ctx) s (fun t => t.dev.on D.FlowStatus.SOURCE_LOST ctx = true)) ∧
  (∀ (s : State) (dt ctx : Nat), s.dev.serving = true → 4096 ≤ ctx → ctx < 8192 → s.dev.running ctx = true → (s.dev.elapse dt).past (s.dev.flowSt ctx).keptAt (s.dev.lossNs ctx) = true → Completes (.sourceLossTimeout dt ctx) s (fun t => t.dev.on D.FlowStatus.SOURCE_LOST ctx = true ∧ t.dev.on D.FlowStatus.EMITTING ctx = false ∧ t.dev.on D.FlowStatus.SAFE ctx = true))

/-- A TAKE that passes every check is accepted with OK where no twin is paired and its change waits for its output; a twin's take that passes is accepted too; an exchange ends with the twin's answer or after 500 µs, which counts a miss; a due change applies at its instant outside a rebuild, is counted and stands in the crosspoint; a new playout delay comes into force at a frame boundary, or where the output has had none (the model's choice); and erasing a log sector writes the crosspoint over the older base copy and leaves the newer one. Where the spec leaves a point open it rests on the model's choices and readings (assumption log 113). -/
def Obligations.TakesComplete : Prop :=
  (∀ (s : State) (q : Rcp) (v : Nat), s.dev.grants q 0x0C10 0x01 ⟨16, v⟩ = true → (s.dev.atBody q).takeCheck12 (s.dev.asker q).role v = none → ((s.dev.atBody q).takeChecks (TakeD.output v) (takeSource v) (TakeD.fsOnTake v) (TakeD.time v) none).toOption.isSome = true → s.dev.paired = false → Completes (.take q v) s (fun t => t.dev.answered q St.OK = true ∧ t.dev.xp.pend.any (fun x0 => x0.1 == TakeD.output v && x0.2.source == takeSource v && x0.2.time == TakeD.time v) = true)) ∧
  (∀ (s : State) (dt msg v : Nat), s.dev.serving = true → s.dev.paired = true → ((s.dev.elapse dt).takeChecks (TakeD.output v) (takeSource v) (TakeD.fsOnTake v) (TakeD.time v) none).toOption.isSome = true → Completes (.twinTakeRx dt msg v) s (fun t => t.dev.xp.pend.any (fun x0 => x0.1 == TakeD.output v && x0.2.source == takeSource v) = true)) ∧
  (∀ (s : State) (dt msg status : Nat) (a : TakeAsk), s.dev.serving = true → s.dev.xp.asks.find? (fun (x0 : TakeAsk) => x0.msg == msg) = some a → Completes (.twinTakeAck dt msg status) s (fun t => t.dev.xp.asks.find? (fun (x0 : TakeAsk) => x0.msg == msg) = none ∧ t.dev.xp.pend.any (fun x0 => x0.1 == a.output && x0.2.source == a.pend.source) = true)) ∧
  (∀ (s : State) (dt : Nat) (a : TakeAsk) (rest : List TakeAsk), s.dev.serving = true → s.dev.xp.asks = a :: rest → a.sentAt + 500000 ≤ s.dev.wall + dt → Completes (.twinTakeTimeout dt) s (fun t => t.dev.rd D.XpCount.TWIN_TAKES_MISSED 0 = min (s.dev.rd D.XpCount.TWIN_TAKES_MISSED 0 + 1) (2 ^ 32 - 1) ∧ t.dev.xp.asks.find? (fun (x0 : TakeAsk) => x0.msg == a.msg) = none ∧ t.dev.raised.contains ⟨Src.XC_TWIN_TAKE_MISSED, a.output, false⟩ = true)) ∧
  (∀ (s : State) (dt ctx : Nat) (p : Pend), s.dev.serving = true → 4096 ≤ ctx → ctx < 8192 → s.dev.running ctx = true → s.dev.firstPend ctx = some p → s.dev.rebuilding = false → p.again = false → (s.dev.elapse dt).pendDue p = true → (s.dev.elapse dt).atInstant ctx p = true → p.doubt = false → s.dev.on D.XpTable.FS_INSERTED (ctx - 4096) = false → s.dev.on D.XpTable.GATEWAY_INSERTED (ctx - 4096) = false → Completes (.takeApply dt ctx) s (fun t => t.dev.rd D.XpCount.TAKES_APPLIED 0 = (s.dev.rd D.XpCount.TAKES_APPLIED 0 + 1) % 2 ^ 32 ∧ t.dev.on D.XpTable.VALID (ctx - 4096) = p.source.isSome ∧ t.dev.rd D.XpTable.SOURCE (ctx - 4096) = p.source.getD 0 % 2 ^ 16)) ∧
  (∀ (s : State) (dt ctx : Nat), s.dev.serving = true → 4096 ≤ ctx → ctx < 8192 → s.dev.running ctx = false ∨ (s.dev.flowSt ctx).boundary = none ∨ (s.dev.flowSt ctx).boundary = some (s.dev.elapse dt).now → Completes (.delayChangeApply dt ctx) s (fun t => (t.dev.flowSt ctx).oldDelay = none)) ∧
  (∀ (s : State) (dt : Nat), s.dev.takeLog.log ≠ [] → Completes (.logSectorErase dt) s (fun t => (if s.dev.takeLog.newer1 then t.dev.takeLog.base1 else t.dev.takeLog.base0) = (if s.dev.takeLog.newer1 then s.dev.takeLog.base1 else s.dev.takeLog.base0) ∧ (∃ g, (if s.dev.takeLog.newer1 then t.dev.takeLog.base0 else t.dev.takeLog.base1) = ((s.dev.elapse dt).baseNow g).image)))

/-- Where the slots may be written, one change written to an EMPTY slot makes it LOADED; TAKE_TIME is taken in the states that allow it; ARM of a LOADED slot within the leads starts PREPARING under the next EPOCH; ABORT of an undecided slot decides to abort; in host-assisted mode COMMIT of a PREPARED slot commits it; and CLEAR empties a LOADED slot. Where the spec leaves a point open it rests on the model's choices and readings (assumption log 37). -/
def Obligations.SalvoRequestsComplete : Prop :=
  (∀ (s : State) (q : Rcp) (slot e : Nat), slot < 16 → e < 2 ^ 64 → s.dev.grantsDom q (0x0C20 + slot) 0x02 0 ⟨8, e⟩ = true → s.dev.slotOpen = true → s.dev.hostSalvo = false → s.dev.slotState slot = SlotState.EMPTY → s.dev.rd D.Salvo.COUNT slot = 0 → Change.clean e = true → Change.member e < s.dev.ensSize → Completes (.salvoChangesWrite q slot 0 ⟨8, e⟩) s (fun t => t.dev.answered q St.OK = true ∧ t.dev.slotState slot = SlotState.LOADED ∧ t.dev.changes slot = [e])) ∧
  (∀ (s : State) (q : Rcp) (slot v : Nat), slot < 16 → v < 2 ^ 64 → s.dev.grants q (0x0C20 + slot) 0x04 ⟨8, v⟩ = true → s.dev.slotOpen = true → s.dev.slotState slot = SlotState.EMPTY ∨ s.dev.slotState slot = SlotState.LOADED ∨ s.dev.slotState slot = SlotState.ABORTED ∨ s.dev.slotState slot = SlotState.APPLIED → Completes (.salvoTakeTimeWrite q slot v) s (fun t => t.dev.answered q St.OK = true ∧ t.dev.rd D.Salvo.TAKE_TIME slot = v)) ∧
  (∀ (s : State) (q : Rcp) (slot : Nat), slot < 16 → s.dev.grants q (0x0C20 + slot) 0x05 ⟨1, 1⟩ = true → s.dev.slotOpen = true → s.dev.slotState slot = SlotState.LOADED → s.dev.rd D.Salvo.COUNT slot ≠ 0 → (s.dev.rd D.Xp.SALVO_MIN_LEAD_US 0 * 1000 : Int) ≤ sdiff (s.dev.rd D.Salvo.TAKE_TIME slot) (s.dev.atBody q).now 64 → sdiff (s.dev.rd D.Salvo.TAKE_TIME slot) (s.dev.atBody q).now 64 ≤ 86400000000000 → Completes (.salvoArm q slot) s (fun t => t.dev.answered q St.OK = true ∧ t.dev.slotState slot = SlotState.PREPARING ∧ t.dev.rd D.Salvo.EPOCH slot = (s.dev.rd D.Salvo.EPOCH slot + 1) % 16)) ∧
  (∀ (s : State) (q : Rcp) (slot : Nat), slot < 16 → s.dev.grants q (0x0C20 + slot) 0x05 ⟨1, 2⟩ = true → s.dev.slotOpen = true → s.dev.hostSalvo = false → s.dev.slotState slot = SlotState.PREPARING → (s.dev.salvoSt slot).decided = none → Completes (.salvoAbort q slot) s (fun t => (t.dev.salvoSt slot).decided = some (false, 0, 0xFF, 0xFFFF))) ∧
  (∀ (s : State) (q : Rcp) (slot : Nat), slot < 16 → s.dev.grants q (0x0C20 + slot) 0x05 ⟨1, 3⟩ = true → s.dev.slotOpen = true → s.dev.slotState slot = SlotState.LOADED → Completes (.salvoClear q slot) s (fun t => t.dev.answered q St.OK = true ∧ t.dev.slotState slot = SlotState.EMPTY ∧ t.dev.rd D.Salvo.COUNT slot = 0)) ∧
  (∀ (s : State) (q : Rcp) (slot : Nat), slot < 16 → s.dev.grants q (0x0C20 + slot) 0x05 ⟨1, 4⟩ = true → s.dev.hostSalvo = true → s.dev.slotState slot = SlotState.PREPARED → Completes (.salvoCommitCmd q slot) s (fun t => t.dev.answered q St.OK = true ∧ t.dev.slotState slot = SlotState.COMMITTED ∧ t.dev.rd D.Salvo.RESULT slot = 0))

/-- In service, PREPARE, a prepared part, a failing vote, a missed vote deadline, a logged decision, COMMIT, ABORT, a missed decision deadline, the query timer, a query without a decision in the log (answered ABORT, three copies on the group it came over) and the take time of a committed slot each take the slot to the state the protocol lays down. Where the spec leaves a point open it rests on the model's choices and readings (assumption logs 37, 102 and 122). -/
def Obligations.SalvoEventsComplete : Prop :=
  (∀ (s : State) (dt group block : Nat), s.dev.serving = true → (s.dev.elapse dt).firstCopy group block = true → group < 8 → Mark.ok block = true → Mark.phase block = 1 → s.dev.coordinates = false → s.dev.hostSalvo = false → s.dev.slotIdle (Mark.slot block) (Mark.epoch block) = true → s.dev.slotState (Mark.slot block) ≠ SlotState.PREPARING → Completes (.salvoPrepare dt group block) s (fun t => t.dev.slotState (Mark.slot block) = SlotState.PREPARING ∧ t.dev.rd D.Salvo.EPOCH (Mark.slot block) = Mark.epoch block ∧ t.dev.rd D.Salvo.TAKE_TIME (Mark.slot block) = Mark.time block)) ∧
  (∀ (s : State) (dt slot : Nat) (p : Part), s.dev.serving = true → slot < 16 → s.dev.hostSalvo = true → s.dev.slotState slot = SlotState.PREPARING → (s.dev.salvoSt slot).part = some p → p.voted = false → p.own = some (0, 0xFFFF) → p.needTwin = false → Completes (.salvoPrepared dt slot) s (fun t => t.dev.slotState slot = SlotState.PREPARED)) ∧
  (∀ (s : State) (dt group block : Nat), s.dev.serving = true → (s.dev.elapse dt).firstCopy group block = true → group < 7 → Mark.ok block = true → Mark.phase block = 2 → s.dev.rd D.Salvo.EPOCH (Mark.slot block) = Mark.epoch block → s.dev.voting (Mark.slot block) = true → Mark.status block ≠ 0 → Completes (.salvoVoteRx dt group block) s (fun t => (t.dev.salvoSt (Mark.slot block)).decided = some (false, Mark.status block, Mark.card block * 8 + Mark.member block, Mark.failIndex block))) ∧
  (∀ (s : State) (dt slot : Nat), s.dev.serving = true → slot < 16 → s.dev.voting slot = true → (s.dev.elapse dt).leadOver slot (s.dev.rd D.Xp.VOTE_LEAD_US 0 * 1000) = true → Completes (.salvoVoteDeadline dt slot) s (fun t => (t.dev.salvoSt slot).decided = some (false, St.TIMEOUT, 0xFF, 0xFFFF))) ∧
  (∀ (s : State) (dt slot result member index : Nat) (commit : Bool), s.dev.serving = true → slot < 16 → (s.dev.salvoSt slot).decided = some (commit, result, member, index) → result < 256 → Completes (.salvoDecisionLogged dt slot) s (fun t => t.dev.slotState slot = (if commit then SlotState.COMMITTED else SlotState.ABORTED) ∧ t.dev.rd D.Salvo.RESULT slot = result ∧ (t.dev.salvoSt slot).decided = none)) ∧
  (∀ (s : State) (dt group block : Nat), s.dev.serving = true → (s.dev.elapse dt).firstCopy group block = true → group < 8 → s.dev.decisionFor block 3 = true → s.dev.slotState (Mark.slot block) = SlotState.PREPARED ∨ s.dev.slotState (Mark.slot block) = SlotState.INDOUBT → Completes (.salvoCommitRx dt group block) s (fun t => t.dev.slotState (Mark.slot block) = SlotState.COMMITTED)) ∧
  (∀ (s : State) (dt group block : Nat), s.dev.serving = true → (s.dev.elapse dt).firstCopy group block = true → group < 8 → s.dev.decisionFor block 4 = true → s.dev.slotState (Mark.slot block) = SlotState.PREPARING ∨ s.dev.slotState (Mark.slot block) = SlotState.PREPARED ∨ s.dev.slotState (Mark.slot block) = SlotState.INDOUBT → Completes (.salvoAbortRx dt group block) s (fun t => t.dev.slotState (Mark.slot block) = SlotState.ABORTED ∧ t.dev.rd D.XpCount.SALVOS_ABORTED 0 = (if (s.dev.salvoSt (Mark.slot block)).part.isSome then min (s.dev.rd D.XpCount.SALVOS_ABORTED 0 + 1) (2 ^ 32 - 1) else s.dev.rd D.XpCount.SALVOS_ABORTED 0))) ∧
  (∀ (s : State) (dt slot : Nat), s.dev.serving = true → slot < 16 → s.dev.hostSalvo = false → s.dev.coordinates = false → s.dev.slotState slot = SlotState.PREPARED → (s.dev.elapse dt).leadOver slot 250000 = true → Completes (.salvoDecideDeadline dt slot) s (fun t => t.dev.slotState slot = SlotState.INDOUBT ∧ t.dev.raised.contains ⟨Src.XC_SALVO_INDOUBT, slot, false⟩ = true ∧ (t.dev.salvoSt slot).queryAt = s.dev.wall + dt)) ∧
  (∀ (s : State) (dt slot : Nat), s.dev.serving = true → slot < 16 → s.dev.slotState slot = SlotState.INDOUBT → (s.dev.elapse dt).past (s.dev.salvoSt slot).queryAt 1000000 = true → Completes (.salvoQueryTimer dt slot) s (fun t => (t.dev.salvoSt slot).queryAt = s.dev.wall + dt)) ∧
  (∀ (s : State) (dt group block : Nat), s.dev.serving = true → (s.dev.elapse dt).firstCopy group block = true → group < 8 → Mark.ok block = true → Mark.phase block = 5 → s.dev.hostSalvo = false → s.dev.coordinates = true → (s.dev.salvoSt (Mark.slot block)).log.find? (fun x0 => x0.1 == Mark.epoch block) = none → Completes (.salvoQueryRx dt group block) s (fun t => t.dev = ((s.dev.elapse dt).heardMark group block).sendMark group (s.dev.mark 4 (Mark.slot block) (Mark.epoch block) (Mark.time block)))) ∧
  (∀ (s : State) (dt slot : Nat), s.dev.serving = true → slot < 16 → s.dev.slotState slot = SlotState.COMMITTED → (s.dev.salvoSt slot).part = none → s.dev.xp.pend.any (fun x0 => x0.2.slot.any (fun y0 => y0.1 == slot)) = false → (s.dev.elapse dt).leadOver slot 0 = true → Completes (.salvoTakeTimeReached dt slot) s (fun t => t.dev.slotState slot = SlotState.APPLIED ∧ t.dev.rd D.Salvo.APPLIED_TIME slot = s.dev.rd D.Salvo.TAKE_TIME slot))

/-- In service, a failure cause of a STANDBY plane, or of an ACTIVE plane beside a STANDBY one, is recorded with the present device time, counted and raised, and takes the plane out of service (FAILED, or OFFLINE with AUTO_REPAIR), the standby plane becoming ACTIVE; of an ACTIVE plane whose companion is no standby, cause 0x03 or 0x04 is recorded only, and any other starts a rebuild of both. -/
def Obligations.PlaneFailureActs : Prop :=
  (∀ (s : State) (dt p cause : Nat), s.dev.serving = true → p < 2 → 1 ≤ cause → cause ≤ 6 → s.dev.planeState p = PlaneState.STANDBY → Completes (.planeFail dt p cause) s (fun t => t.dev.rd D.Plane.LAST_FAIL_CAUSE p = cause ∧ t.dev.rd D.Plane.LAST_FAIL_TIME p = (s.dev.elapse dt).now % 2 ^ 64 ∧ t.dev.rd D.Plane.FAILURES p = (s.dev.rd D.Plane.FAILURES p + 1) % 2 ^ 32 ∧ t.dev.raised.contains ⟨Src.XC_PLANE_FAIL, p, false⟩ = true ∧ t.dev.planeState p = (if s.dev.on D.Planes.AUTO_REPAIR 0 then PlaneState.OFFLINE else PlaneState.FAILED) ∧ t.dev.planeState (1 - p) = s.dev.planeState (1 - p))) ∧
  (∀ (s : State) (dt p cause : Nat), s.dev.serving = true → p < 2 → 1 ≤ cause → cause ≤ 6 → s.dev.planeState p = PlaneState.ACTIVE → s.dev.planeState (1 - p) = PlaneState.STANDBY → Completes (.planeFail dt p cause) s (fun t => t.dev.rd D.Plane.LAST_FAIL_CAUSE p = cause ∧ t.dev.rd D.Plane.LAST_FAIL_TIME p = (s.dev.elapse dt).now % 2 ^ 64 ∧ t.dev.rd D.Plane.FAILURES p = (s.dev.rd D.Plane.FAILURES p + 1) % 2 ^ 32 ∧ t.dev.raised.contains ⟨Src.XC_PLANE_FAIL, p, false⟩ = true ∧ t.dev.planeState p = (if s.dev.on D.Planes.AUTO_REPAIR 0 then PlaneState.OFFLINE else PlaneState.FAILED) ∧ t.dev.planeState (1 - p) = PlaneState.ACTIVE)) ∧
  (∀ (s : State) (dt p cause : Nat), s.dev.serving = true → p < 2 → cause = 3 ∨ cause = 4 → s.dev.planeState p = PlaneState.ACTIVE → s.dev.planeState (1 - p) ≠ PlaneState.STANDBY → Completes (.planeFail dt p cause) s (fun t => t.dev.rd D.Plane.LAST_FAIL_CAUSE p = cause ∧ t.dev.rd D.Plane.LAST_FAIL_TIME p = (s.dev.elapse dt).now % 2 ^ 64 ∧ t.dev.rd D.Plane.FAILURES p = (s.dev.rd D.Plane.FAILURES p + 1) % 2 ^ 32 ∧ t.dev.raised.contains ⟨Src.XC_PLANE_FAIL, p, false⟩ = true ∧ t.dev.planeState 0 = s.dev.planeState 0 ∧ t.dev.planeState 1 = s.dev.planeState 1)) ∧
  (∀ (s : State) (dt p cause : Nat), s.dev.serving = true → p < 2 → cause = 1 ∨ cause = 2 ∨ cause = 5 ∨ cause = 6 → s.dev.planeState p = PlaneState.ACTIVE → s.dev.planeState (1 - p) ≠ PlaneState.STANDBY → Completes (.planeFail dt p cause) s (fun t => t.dev.planeState 0 = PlaneState.REBUILD ∧ t.dev.planeState 1 = PlaneState.REBUILD))

/-- PLANE_CMD RESET of a FAILED plane takes it OFFLINE and SWAP exchanges the roles, answered OK; BIST of an OFFLINE plane beside an ACTIVE one starts RESYNC, a copy of which every page agrees makes it STANDBY and counts it, one with a page that does not fails it with cause 0x06, and a rebuild of two tested planes from a shadow that passes its check and agrees with the crosspoint puts the preferred one in service as ACTIVE and the other as STANDBY. Where the spec leaves a point open it rests on the model's choices and readings (assumption logs 30 and 124). -/
def Obligations.PlaneCommandsComplete : Prop :=
  (∀ (s : State) (q : Rcp), s.dev.grants q 0x0D00 8 ⟨1, 1⟩ = true → s.dev.planeState 0 = PlaneState.FAILED → Completes (.planeCmdResetX q) s (fun t => t.dev.answered q St.OK = true ∧ t.dev.planeState 0 = PlaneState.OFFLINE ∧ t.dev.planeState 1 = s.dev.planeState 1)) ∧
  (∀ (s : State) (q : Rcp), s.dev.grants q 0x0D00 8 ⟨1, 2⟩ = true → s.dev.planeState 1 = PlaneState.FAILED → Completes (.planeCmdResetY q) s (fun t => t.dev.answered q St.OK = true ∧ t.dev.planeState 1 = PlaneState.OFFLINE ∧ t.dev.planeState 0 = s.dev.planeState 0)) ∧
  (∀ (s : State) (q : Rcp), s.dev.grants q 0x0D00 8 ⟨1, 3⟩ = true → s.dev.planeState 0 = PlaneState.ACTIVE → s.dev.planeState 1 = PlaneState.STANDBY → Completes (.planeCmdSwap q) s (fun t => t.dev.answered q St.OK = true ∧ t.dev.planeState 0 = PlaneState.STANDBY ∧ t.dev.planeState 1 = PlaneState.ACTIVE)) ∧
  (∀ (s : State) (dt p : Nat) (shadowOk : Bool), s.dev.serving = true → p < 2 → s.dev.planeState p = PlaneState.OFFLINE → s.dev.planeState (1 - p) = PlaneState.ACTIVE → Completes (.planeBistDone dt p true shadowOk none) s (fun t => t.dev.planeState p = PlaneState.RESYNC ∧ t.dev.on D.PlaneHealth.BIST_PASS p = true)) ∧
  (∀ (s : State) (dt p : Nat) (wrong : List (Nat × Nat)), s.dev.serving = true → p < 2 → s.dev.planeState p = PlaneState.RESYNC → pagesAgree (wrong.foldl (fun m0 e0 => nput m0 0 e0.1 e0.2) (s.dev.planeSt p).table) (s.dev.planeSt (1 - p)).table = true → Completes (.planeResyncDone dt p wrong) s (fun t => t.dev.planeState p = PlaneState.STANDBY ∧ t.dev.rd D.Plane.RESYNCS p = (s.dev.rd D.Plane.RESYNCS p + 1) % 2 ^ 32 ∧ t.dev.planeState (1 - p) = s.dev.planeState (1 - p))) ∧
  (∀ (s : State) (dt p : Nat) (wrong : List (Nat × Nat)), s.dev.serving = true → p < 2 → s.dev.planeState p = PlaneState.RESYNC → pagesAgree (wrong.foldl (fun m0 e0 => nput m0 0 e0.1 e0.2) (s.dev.planeSt p).table) (s.dev.planeSt (1 - p)).table = false → Completes (.planeResyncDone dt p wrong) s (fun t => t.dev.planeState p = (if s.dev.on D.Planes.AUTO_REPAIR 0 then PlaneState.OFFLINE else PlaneState.FAILED) ∧ t.dev.rd D.Plane.LAST_FAIL_CAUSE p = 6 ∧ t.dev.rd D.Plane.RESYNCS p = s.dev.rd D.Plane.RESYNCS p)) ∧
  (∀ (s : State) (dt : Nat), s.dev.serving = true → s.dev.planeState 0 = PlaneState.REBUILD → s.dev.planeState 1 = PlaneState.REBUILD → s.dev.rd D.Planes.PREFERRED_PLANE 0 < 2 → (s.dev.planeSt 0).bist = some true → (s.dev.planeSt 1).bist = some true → s.dev.shadowMatches = true → Completes (.planeRebuildDone dt true) s (fun t => t.dev.planeState (s.dev.rd D.Planes.PREFERRED_PLANE 0) = PlaneState.ACTIVE ∧ t.dev.planeState (1 - s.dev.rd D.Planes.PREFERRED_PLANE 0) = PlaneState.STANDBY))

/-- With the lanes running, a due pairing block starts PAIRING; a block that matches starts RECONCILE with its identity shown and the role R120 gives; a pairing without answer for 100 ms ends UNPAIRED; the loss of group 7 ends a PAIRED pair in LOST, counted and raised; in service the twin's table starts RESYNC and the copy, complete after its 24 MiB at 4 Gbit/s, makes the pair PAIRED, counted; MAKE_ACTIVE of a PAIRED pair swaps the role and is answered OK. Where the spec leaves a point open it rests on the model's choices and readings (assumption logs 33 and 125). -/
def Obligations.TwinPairingComplete : Prop :=
  (∀ (s : State) (dt : Nat), 5 ≤ s.dev.stage → s.dev.inReset = false → s.dev.mayPair = true → s.dev.twin.sentAt = none ∨ s.dev.twin.sentAt = some s.dev.wall ∧ 1000000000 ≤ dt → s.dev.twinState = TwinState.UNPAIRED ∨ s.dev.twinState = TwinState.PAIRING ∨ s.dev.twinState = TwinState.LOST → Completes (.twinPairingSend dt) s (fun t => t.dev.twinState = TwinState.PAIRING ∧ t.dev.twin.sentAt = some (s.dev.wall + dt))) ∧
  (∀ (s : State) (dt block : Nat), 5 ≤ s.dev.stage → s.dev.inReset = false → s.dev.mayPair = true → s.dev.twinState = TwinState.PAIRING → s.dev.pairMatch block = true → Completes (.twinPairingRx dt block) s (fun t => t.dev.twinState = TwinState.RECONCILE ∧ t.dev.rd D.Twin.PEER_ID 0 = PairBlock.identity block ∧ t.dev.rd D.Twin.ROLE 0 = (if s.dev.twin.resetSince = PairBlock.resetSince block then s.dev.rd D.Straps.PLANE_B 0 else ofBool s.dev.twin.resetSince))) ∧
  (∀ (s : State) (dt : Nat), 5 ≤ s.dev.stage → s.dev.inReset = false → s.dev.twinState = TwinState.PAIRING → (s.dev.elapse dt).past s.dev.twin.since 100000000 = true → Completes (.twinPairingTimeout dt) s (fun t => t.dev.twinState = TwinState.UNPAIRED ∧ t.dev.rd D.Twin.ROLE 0 = 0)) ∧
  (∀ (s : State) (dt table : Nat), s.dev.serving = true → s.dev.twinState = TwinState.RECONCILE → Completes (.twinReconcile dt table) s (fun t => t.dev.twinState = TwinState.RESYNC)) ∧
  (∀ (s : State) (dt : Nat) (stats : List (Nat × Nat × Nat × Nat)) (copy : TwinCopy), s.dev.serving = true → s.dev.twinState = TwinState.RESYNC → (s.dev.elapse dt).past s.dev.twin.since twinCopyNs = true → Completes (.twinCopyDone dt stats copy) s (fun t => t.dev.twinState = TwinState.PAIRED ∧ t.dev.rd D.Twin.RESYNCS 0 = (s.dev.rd D.Twin.RESYNCS 0 + 1) % 2 ^ 32 ∧ t.dev.twin.resetSince = false)) ∧
  (∀ (s : State) (dt : Nat) (reset : Bool), 5 ≤ s.dev.stage → s.dev.inReset = false → s.dev.twinState = TwinState.PAIRED → s.dev.groupUp 7 = false ∨ (s.dev.elapse dt).past s.dev.twin.heardAt 1000000 = true → Completes (.twinLost dt reset) s (fun t => t.dev.twinState = TwinState.LOST ∧ t.dev.rd D.Twin.ROLE 0 = 0 ∧ t.dev.rd D.Twin.LOSSES 0 = (s.dev.rd D.Twin.LOSSES 0 + 1) % 2 ^ 32 ∧ t.dev.raised.contains ⟨Src.XC_TWIN_LOST, 0, false⟩ = true)) ∧
  (∀ (s : State) (q : Rcp), s.dev.grants q 0x0D20 0x0C ⟨1, 1⟩ = true → s.dev.twinState = TwinState.PAIRED → Completes (.twinCmdMakeActive q) s (fun t => t.dev.answered q St.OK = true ∧ t.dev.rd D.Twin.ROLE 0 = 1 - s.dev.rd D.Twin.ROLE 0))

/-- In service, while PAIRED, a signature from the twin counts as hearing it; it is kept for an output of which this device holds none, and beside one of the same source, of a frame within half a frame period and of another CRC, it counts as a mismatch on the active twin; when ANCHOR_PERIOD_MS has passed the active twin shows the anchor of every twin leg that has started a frame and sends it; the standby compares an anchor with its own frame of that timestamp, shows the leg ANCHORED where the sequence numbers agree and notes by how much to step where they do not. Where the spec leaves a point open it rests on the model's choices and readings (assumption logs 34 and 35). -/
def Obligations.TwinFramesComplete : Prop :=
  (∀ (s : State) (dt ctx source boundary crc : Nat), s.dev.serving = true → s.dev.twinState = TwinState.PAIRED → nget s.dev.twin.sigs (0, 0, 0) ctx = (0, 0, 0) → Completes (.twinSignatureRx dt ctx source boundary crc) s (fun t => nget t.dev.twin.theirs (0, 0, 0) ctx = (source, boundary, crc) ∧ t.dev.twin.heardAt = s.dev.wall + dt ∧ t.dev.rd D.Twin.SIG_MISMATCHES 0 = s.dev.rd D.Twin.SIG_MISMATCHES 0)) ∧
  (∀ (s : State) (dt ctx source boundary crc b sig : Nat), s.dev.serving = true → s.dev.twinState = TwinState.PAIRED → s.dev.rd D.Twin.ROLE 0 = 0 → nget s.dev.twin.sigs (0, 0, 0) ctx = (source, b, sig) → (source, b, sig) ≠ (0, 0, 0) → (source, boundary, crc) ≠ (0, 0, 0) → 2 * (sdiff b boundary 64).natAbs < Fmt.periodNs (s.dev.format ctx) → Completes (.twinSignatureRx dt ctx source boundary crc) s (fun t => nget t.dev.twin.theirs (0, 0, 0) ctx = (0, 0, 0) ∧ nget t.dev.twin.sigs (0, 0, 0) ctx = (0, 0, 0) ∧ t.dev.rd D.Twin.SIG_MISMATCHES 0 = (if sig = crc then s.dev.rd D.Twin.SIG_MISMATCHES 0 else min (s.dev.rd D.Twin.SIG_MISMATCHES 0 + 1) (2 ^ 32 - 1)))) ∧
  (∀ (s : State) (dt : Nat), s.dev.serving = true → s.dev.twinState = TwinState.PAIRED → s.dev.rd D.Twin.ROLE 0 = 0 → (s.dev.elapse dt).past s.dev.twin.anchorAt (s.dev.rd D.Leg.ANCHOR_PERIOD_MS 0 * 1000000) = true → Completes (.twinAnchorSend dt) s (fun t => t.dev.twin.anchorAt = s.dev.wall + dt ∧ s.dev.twinLegs.all (fun c => (s.dev.netTxSt c).anchors == [] || t.dev.on D.LegStatus.ANCHORED (c - 4096) && t.dev.rd D.LegStatus.ANCHOR_SEQ (c - 4096) == ((s.dev.netTxSt c).anchors.headD (0, 0)).2 % 2 ^ 32) = true)) ∧
  (∀ (s : State) (dt ctx : Nat) (anchor a : Nat × Nat), s.dev.serving = true → s.dev.twinState = TwinState.PAIRED → s.dev.rd D.Twin.ROLE 0 = 1 → s.dev.twinLegs.contains ctx = true → (s.dev.netTxSt ctx).anchors.find? (fun a0 => a0.1 == anchor.1) = some a → Completes (.twinAnchorRx dt ctx anchor true) s (fun t => t.dev.on D.LegStatus.ANCHORED (ctx - 4096) = decide ((anchor.2 + 2 ^ 32 - a.2) % 2 ^ 32 = 0) ∧ t.dev.on D.LegStatus.TWIN_SENDING (ctx - 4096) = true ∧ t.dev.rd D.LegStatus.ANCHOR_SEQ (ctx - 4096) = anchor.2 % 2 ^ 32 ∧ ((anchor.2 + 2 ^ 32 - a.2) % 2 ^ 32 = 0 ∨ (t.dev.netTxSt ctx).step = (anchor.2 + 2 ^ 32 - a.2) % 2 ^ 32) ∧ t.dev.twin.heardAt = s.dev.wall + dt)) ∧
  (∀ (s : State) (dt ctx : Nat) (anchor : Nat × Nat), s.dev.serving = true → s.dev.twinState = TwinState.PAIRED → s.dev.rd D.Twin.ROLE 0 = 1 → s.dev.twinLegs.contains ctx = true → (s.dev.netTxSt ctx).anchors.find? (fun a0 => a0.1 == anchor.1) = none → Completes (.twinAnchorRx dt ctx anchor true) s (fun t => (t.dev.netTxSt ctx).twin = some anchor ∧ t.dev.rd D.LegStatus.ANCHOR_SEQ (ctx - 4096) = anchor.2 % 2 ^ 32))

/-- In service, a lane that is not locked locks at the rate found, and one that loses lock shows rate 0 and no detected format and counts the loss; a format change clears the detected format; the detected format is written two frames later; a port whose lanes are ready again at a frame start, the lanes of a group aligned, goes on there; lost deskew and an absent identifier are shown; an SDI or ST 2022-6 output notes its frame boundary where one falls and takes up its committed delay there; and a held frame expires after HOLD_MAX_S. Where the spec leaves a point open it rests on the model's choices and readings (assumption logs 41 and 126). -/
def Obligations.SdiPortsComplete : Prop :=
  (∀ (s : State) (dt lane rate : Nat), s.dev.serving = true → lane < 128 → 1 ≤ rate → rate ≤ 9 → s.dev.rd D.SdiRxCfg.RATE_CODE (s.dev.rxCfgLane lane) = 0 ∨ s.dev.rd D.SdiRxCfg.RATE_CODE (s.dev.rxCfgLane lane) = rate → s.dev.on D.SdiRxStatus.LOCKED lane = false → Completes (.sdiRxLock dt lane rate) s (fun t => t.dev.on D.SdiRxStatus.LOCKED lane = true ∧ t.dev.rd D.SdiRxStatus.RATE lane = rate)) ∧
  (∀ (s : State) (dt lane : Nat), s.dev.serving = true → lane < 128 → s.dev.on D.SdiRxStatus.LOCKED lane = true → Completes (.sdiRxLockLost dt lane) s (fun t => t.dev.on D.SdiRxStatus.LOCKED lane = false ∧ t.dev.rd D.SdiRxStatus.RATE lane = 0 ∧ t.dev.rd D.SdiRxStatus.DETECTED_FORMAT lane = 0 ∧ t.dev.rd D.SdiRxCounters.LOCK_LOSSES lane = min (s.dev.rd D.SdiRxCounters.LOCK_LOSSES lane + 1) (2 ^ 32 - 1) ∧ t.dev.raised.contains ⟨Src.SDI_RX_LOCK_LOST, lane, false⟩ = true)) ∧
  (∀ (s : State) (dt lane : Nat), s.dev.serving = true → lane < 128 → s.dev.on D.SdiRxStatus.LOCKED lane = true → Completes (.sdiRxFormatChange dt lane) s (fun t => t.dev.rd D.SdiRxStatus.DETECTED_FORMAT lane = 0 ∧ t.dev.rd D.SdiRxCounters.FORMAT_CHANGES lane = min (s.dev.rd D.SdiRxCounters.FORMAT_CHANGES lane + 1) (2 ^ 32 - 1))) ∧
  (∀ (s : State) (dt lane raster rate ltc t0 : Nat) (arrivals : List Nat) (pid : Option (Nat × Nat)), s.dev.serving = true → lane < 128 → s.dev.on D.SdiRxStatus.LOCKED lane = true → 1 ≤ raster → raster ≤ 8 → 1 ≤ rate → rate ≤ 8 → (s.dev.rxSt lane).changedAt = some t0 → 2 * Fmt.period1001 ≤ (s.dev.wall + dt - t0) * Fmt.fps1001 rate → Completes (.sdiFormatDetected dt lane raster rate arrivals ltc pid) s (fun t => t.dev.rd D.SdiRxStatus.DETECTED_FORMAT lane = s.dev.derived lane raster rate pid % 2 ^ 16 ∧ t.dev.on D.SdiRxStatus.PID_PRESENT lane = pid.isSome)) ∧
  (∀ (s : State) (dt ctx first : Nat) (others : List Nat), s.dev.serving = true → ctx < 4096 → s.dev.kind ctx = 1 → s.dev.running ctx = true → (s.dev.flowSt ctx).base = none → (s.dev.flowSt ctx).begun = true → ((s.dev.elapse dt).showSkew ctx (first :: others)).portReady ctx = true → Completes (.sdiPortResume dt ctx first others) s (fun t => t.dev.on D.FlowStatus.FROZEN ctx = false ∧ t.dev.on D.FlowStatus.SOURCE_LOST ctx = false ∧ (t.dev.flowSt ctx).base = some (s.dev.rd D.Flow.SEQ_NEXT ctx))) ∧
  (∀ (s : State) (dt lane skew c : Nat), s.dev.serving = true → s.dev.sdiCtx 1 lane = some c → 2 ≤ (s.dev.lanes c).length → 2000 < skew → s.dev.on D.SdiRxStatus.LOCKED lane = true → Completes (.sdiGroupDeskewLost dt lane skew) s (fun t => t.dev.on D.SdiRxStatus.GROUP_ALIGNED lane = false ∧ t.dev.raised.contains ⟨Src.SDI_GROUP_SKEW, s.dev.bindIx c, false⟩ = true)) ∧
  (∀ (s : State) (dt lane : Nat), s.dev.serving = true → lane < 128 → Completes (.sdiPidAbsent dt lane) s (fun t => t.dev.on D.SdiRxStatus.PID_PRESENT lane = false ∧ t.dev.on D.SdiRxStatus.PID_MISMATCH lane = false)) ∧
  (∀ (s : State) (dt ctx line lines b : Nat), s.dev.serving = true → 4096 ≤ ctx → ctx < 8192 → s.dev.running ctx = true → s.dev.kind ctx = 0x41 → s.dev.tileAgain = [] → s.dev.xp.unmet = [] → s.dev.xp.pend.all (fun p0 => !p0.2.again) = true → (s.dev.elapse dt).boundaryNow ctx = some b → Completes (.sdiTxFrameBoundary dt ctx line lines) s (fun t => (t.dev.flowSt ctx).boundary = some b ∧ (t.dev.flowSt ctx).oldDelay = none)) ∧
  (∀ (s : State) (dt ctx line lines : Nat), s.dev.serving = true → 4096 ≤ ctx → ctx < 8192 → s.dev.running ctx = true → s.dev.kind ctx = 0x47 → s.dev.tileAgain = [] → s.dev.xp.unmet = [] → s.dev.xp.pend.all (fun p0 => !p0.2.again) = true → s.dev.isSafe ctx = false ∨ (s.dev.elapse dt).safeDue ctx = true → Completes (.sdiTxFrameBoundary dt ctx line lines) s (fun t => (t.dev.flowSt ctx).boundary = some (s.dev.elapse dt).now ∧ (t.dev.flowSt ctx).oldDelay = none)) ∧
  (∀ (s : State) (dt ctx t0 : Nat), s.dev.serving = true → (nget s.dev.hold {} ctx).heldSince = some t0 → (nget s.dev.hold {} ctx).expired = false → s.dev.isSafe ctx = true → s.dev.safeHold ctx = true → s.dev.holdMax ctx ≠ 0 → (s.dev.elapse dt).past t0 (s.dev.holdMax ctx * 1000000000) = true → Completes (.holdMaxExpiry dt ctx) s (fun t => (nget t.dev.hold {} ctx).expired = true))

/-- In service, a frame with a wrong FCS counts as one on an UP port; a packet to an interface's VLAN that is well formed and matches leg A of a context counts there and makes the leg good; an ARP, neighbour or echo request for an address of the interface counts as a control frame and waits for its answer, beyond 1,000 in a second it is dropped and counted; a merge releases its next packet when its basis plus MAX_SKEW_US has come; and a leg without packets for 10 ms is no longer good. Where the spec leaves a point open it rests on the model's choices and readings (assumption logs 116 and 117). -/
def Obligations.NetworkReceiveCompletes : Prop :=
  (∀ (s : State) (dt : Nat) (f : NetFrame), s.dev.serving = true → f.port < 32 → s.dev.portUp f.port = true → f.fcsOk = false → Completes (.netFrameRx dt f) s (fun t => t.dev.rd D.PortCounters.RX_FCS_ERRORS f.port = min (s.dev.rd D.PortCounters.RX_FCS_ERRORS f.port + 1) (2 ^ 64 - 1) ∧ t.dev.rd D.PortCounters.RX_FRAMES f.port = min (s.dev.rd D.PortCounters.RX_FRAMES f.port + 1) (2 ^ 64 - 1))) ∧
  (∀ (s : State) (dt c i : Nat) (f : NetFrame), s.dev.serving = true → f.port < 32 → s.dev.portUp f.port = true → f.fcsOk = true → f.ipOk = true → f.what ≠ 0 ∨ f.udpOk = true → (List.range 8).find? (fun i0 => s.dev.ifVlan f.port i0 == some f.vlan) = some i → s.dev.macOk f.port i f.mac = true → s.dev.rxMatch f = some (c, true) → Completes (.netFrameRx dt f) s (fun t => t.dev.rd D.NetRxCounters.PACKETS_A c = min (s.dev.rd D.NetRxCounters.PACKETS_A c + 1) (2 ^ 32 - 1) ∧ t.dev.on D.NetRxStatus.LEG_A_OK c = true)) ∧
  (∀ (s : State) (dt i : Nat) (f : NetFrame), s.dev.serving = true → f.port < 32 → s.dev.portUp f.port = true → f.fcsOk = true → f.ipOk = true → f.what ≠ 0 ∨ f.udpOk = true → (List.range 8).find? (fun i0 => s.dev.ifVlan f.port i0 == some f.vlan) = some i → s.dev.macOk f.port i f.mac = true → s.dev.rxMatch f = none → 1 ≤ f.what → f.what ≤ 3 → (s.dev.ifAddrs (8 * f.port + i)).contains f.dst = true → Completes (.netFrameRx dt f) s (fun t => t.dev.rd D.PortCounters.CTRL_FRAMES f.port = min (s.dev.rd D.PortCounters.CTRL_FRAMES f.port + 1) (2 ^ 64 - 1) ∧ t.dev.rd D.PortCounters.CTRL_DROPS f.port = (if (s.dev.elapse dt).coresTake f.port then s.dev.rd D.PortCounters.CTRL_DROPS f.port else min (s.dev.rd D.PortCounters.CTRL_DROPS f.port + 1) (2 ^ 64 - 1)) ∧ t.dev.ctrl.waiting = (if (s.dev.elapse dt).coresTake f.port then s.dev.ctrl.waiting ++ [⟨f.port, i, f.what, f.dst, f.src, f.media⟩] else s.dev.ctrl.waiting))) ∧
  (∀ (s : State) (dt ctx : Nat) (h : HeldPkt), s.dev.serving = true → ctx < 4096 → s.dev.nextHeld ctx = some h → h.basis + s.dev.rd D.NetRxCfg.MAX_SKEW_US ctx * 1000 ≤ (s.dev.elapse dt).now → Completes (.net20227Release dt ctx) s (fun t => (t.dev.netRxSt ctx).released = some h.pkt.seq)) ∧
  (∀ (s : State) (dt ctx t0 : Nat), s.dev.serving = true → ctx < 4096 → Kind.netRx (s.dev.kind ctx) = true → (s.dev.netRxSt ctx).legA = some t0 → (s.dev.elapse dt).past t0 10000000 = true → Completes (.netRxSilence dt ctx false) s (fun t => t.dev.on D.NetRxStatus.LEG_A_OK ctx = false))

/-- In service, a trained port is UP, aligned and FEC-locked, unless a failed spare of one of its lanes keeps it down; a port that loses its link goes to TRAINING, neither aligned nor FEC-locked, counts the loss and raises NET_LINK_DOWN; a failed lane of a port takes the spare of its range where AUTO_SPARE is set and the spare is free, and the port trains; a training failure on a spare fails the spare and leaves the port DOWN, and without one the third in a row with a signal fails the lane. Where the spec leaves a point open it rests on the model's choices and readings (assumption log 116). -/
def Obligations.NetworkPortsComplete : Prop :=
  (∀ (s : State) (dt port : Nat), s.dev.serving = true → port < 32 → s.dev.rd D.PortCfg.MODE port ≠ 0 → s.dev.portUp port = false → s.dev.spareFailed port = false → Completes (.netLinkUp dt port) s (fun t => t.dev.rd D.PortStatus.LINK port = 2 ∧ t.dev.on D.PortStatus.PCS_ALIGNED port = true ∧ t.dev.on D.PortStatus.FEC_LOCKED port = true)) ∧
  (∀ (s : State) (dt port : Nat), s.dev.serving = true → port < 32 → s.dev.spareFailed port = true → Completes (.netLinkUp dt port) s (fun t => t.dev.rd D.PortStatus.LINK port = s.dev.rd D.PortStatus.LINK port)) ∧
  (∀ (s : State) (dt port : Nat), s.dev.serving = true → port < 32 → s.dev.portUp port = true → Completes (.netLinkDown dt port) s (fun t => t.dev.rd D.PortStatus.LINK port = 1 ∧ t.dev.on D.PortStatus.PCS_ALIGNED port = false ∧ t.dev.on D.PortStatus.FEC_LOCKED port = false ∧ t.dev.rd D.PortCounters.LINK_DOWNS port = min (s.dev.rd D.PortCounters.LINK_DOWNS port + 1) (2 ^ 64 - 1) ∧ t.dev.raised.contains ⟨Src.NET_LINK_DOWN, port, false⟩ = true)) ∧
  (∀ (s : State) (dt lane : Nat), s.dev.serving = true → lane < 32 → (s.dev.portOfLane lane).isSome = true → s.dev.rd D.LaneStatus.USE (128 + lane) = 4 → s.dev.on D.Net.AUTO_SPARE 0 = true → s.dev.on D.SpareStatus.IN_USE (lane / 8) = false → Completes (.netSpareRemap dt lane) s (fun t => t.dev.on D.SpareStatus.IN_USE (lane / 8) = true ∧ t.dev.rd D.SpareStatus.LANE (lane / 8) = lane ∧ t.dev.on D.SpareStatus.AUTO (lane / 8) = true ∧ (s.dev.portOfLane lane = none ∨ t.dev.rd D.PortStatus.LINK ((s.dev.portOfLane lane).getD 0) = 1))) ∧
  (∀ (s : State) (dt port lane : Nat), s.dev.serving = true → port < 32 → s.dev.rd D.PortCfg.MODE port ≠ 0 → s.dev.portUp port = false → port ≤ lane → lane < port + portLanes (s.dev.rd D.PortCfg.MODE port) → s.dev.spareOf lane = none → (nget s.dev.netPort {} port).fails = 2 → Completes (.netTrainingFailed dt port lane true) s (fun t => t.dev.rd D.LaneStatus.USE (128 + lane) = 4)) ∧
  (∀ (s : State) (dt port lane k : Nat) (signal : Bool), s.dev.serving = true → port < 32 → s.dev.rd D.PortCfg.MODE port ≠ 0 → s.dev.portUp port = false → port ≤ lane → lane < port + portLanes (s.dev.rd D.PortCfg.MODE port) → s.dev.spareOf lane = some k → Completes (.netTrainingFailed dt port lane signal) s (fun t => t.dev.rd D.PortStatus.LINK port = 0 ∧ t.dev.on D.SpareStatus.FAILED k = true))

/-- In service, the cores answer the oldest control frame that waits; a query that they take in is counted, and in hardware mode waits for its response; the changes of an interface's memberships are sent in state-change reports on an UP port, each repeated as it was, one repeat fewer each time; a query's response sends the current state of the groups it asks for and removes the query; and in host-assisted mode CTRL_TX sends the frame after its two header bytes. Where the spec leaves a point open it rests on the model's choices and readings (assumption logs 116 and 118). -/
def Obligations.NetworkControlCompletes : Prop :=
  (∀ (s : State) (dt : Nat) (x : CtrlIn) (rest : List CtrlIn), s.dev.serving = true → s.dev.ctrl.waiting = x :: rest → s.dev.portUp x.port = true → Completes (.netCtrlFrame dt) s (fun t => t.dev.ctrl.waiting = rest ∧ t.dev.out = [Emission.frame x.port x.iface x.what (Bytes.app ⟨32, x.src % 2 ^ 128 * 2 ^ 128 + x.dst % 2 ^ 128⟩ (if x.what = 3 then x.data else ⟨6, portMac x.port⟩))] ∧ t.dev.rd D.PortCounters.TX_FRAMES x.port = min (s.dev.rd D.PortCounters.TX_FRAMES x.port + 1) (2 ^ 64 - 1))) ∧
  (∀ (s : State) (dt port iface version : Nat) (ask : Nat × Nat), s.dev.serving = true → port < 32 → iface < 8 → s.dev.portUp port = true → s.dev.on D.IfCfg.ENABLE (8 * port + iface) = true → (s.dev.elapse dt).coresTake port = true → Completes (.netQueryRx dt port iface version ask) s (fun t => t.dev.rd D.Net.QUERIES_RX 0 = min (s.dev.rd D.Net.QUERIES_RX 0 + 1) (2 ^ 32 - 1) ∧ t.dev.rd D.PortCounters.CTRL_FRAMES port = min (s.dev.rd D.PortCounters.CTRL_FRAMES port + 1) (2 ^ 64 - 1) ∧ t.dev.ctrl.queries.length = s.dev.ctrl.queries.length + (if s.dev.hwJoins then 1 else 0))) ∧
  (∀ (s : State) (dt iface : Nat) (r : Query), s.dev.serving = true → s.dev.hwJoins = true → s.dev.ctrl.queries.find? (fun x0 => x0.iface == iface && decide (x0.at_ ≤ s.dev.wall + dt)) = some r → Completes (.netQueryResponse dt iface) s (fun t => t.dev.ctrl.queries = s.dev.ctrl.queries.erase r ∧ t.dev.out = (if s.dev.portUp (iface / 8) then (reportsOf iface (s.dev.rd D.IfCfg.VLAN_ID iface) (s.dev.rd D.IfCfg.IPV4_ADDR iface) (currentRecs ((s.dev.memberships (iface / 8) (iface % 8)).filter (fun g0 => isV4 g0.group != r.v6 && (r.group == 0 || g0.group == r.group))))).map Emission.report else []))) ∧
  (∀ (s : State) (dt iface : Nat), s.dev.serving = true → iface < 256 → s.dev.hwJoins = true → s.dev.portUp (iface / 8) = true → Completes (.netMembershipReport dt iface) s (fun t => nget t.dev.ctrl.reported {} iface = s.dev.reportedNow iface ∧ t.dev.out = (changeReports iface (s.dev.reported iface) (s.dev.reportedNow iface)).map Emission.report)) ∧
  (∀ (s : State) (dt iface : Nat) (r : Nat × Nat × Report), s.dev.serving = true → s.dev.hwJoins = true → s.dev.ctrl.repeats.find? (fun (x0 : Nat × Nat × Report) => x0.2.2.iface == iface && decide (x0.2.1 ≤ s.dev.wall + dt)) = some r → Completes (.igmpReportRepeat dt iface) s (fun t => t.dev.ctrl.repeats.length = (if r.1 ≤ 1 then s.dev.ctrl.repeats.length - 1 else s.dev.ctrl.repeats.length) ∧ t.dev.ctrl.repeats.map (fun (x0 : Nat × Nat × Report) => (x0.1, x0.2.2)) = (s.dev.ctrl.repeats.erase r).map (fun (x0 : Nat × Nat × Report) => (x0.1, x0.2.2)) ++ (if r.1 ≤ 1 then [] else [(r.1 - 1, r.2.2)]) ∧ t.dev.out = (if s.dev.portUp (r.2.2.iface / 8) then [Emission.report r.2.2] else []))) ∧
  (∀ (s : State) (q : Rcp) (v : Bytes), s.dev.grantsDom q 0x0A01 1 0 v = true → s.dev.hwJoins = false → 62 ≤ v.len → v.len ≤ 1516 → byteAt v.len v.val 0 < 32 → byteAt v.len v.val 1 = 0 → s.dev.portUp (byteAt v.len v.val 0) = true → Completes (.ctrlTx q v) s (fun t => t.dev.answered q St.OK = true ∧ t.dev.out.contains (Emission.frame (byteAt v.len v.val 0) 8 4 (v.drop 2)) = true))

/-- In service, the next packet of a running network output leaves when its sender type lets it, takes the next RTP sequence number and is counted where its next hop is known and leg A's port is UP; an answer to an attempt to resolve a leg's next hop over an UP port is the next hop's MAC address and ends the count of failures. Where the spec leaves a point open it rests on the model's choices and readings (assumption log 47). -/
def Obligations.NetworkTransmitCompletes : Prop :=
  (∀ (s : State) (dt ctx m : Nat) (p : TxPkt), s.dev.serving = true → 4096 ≤ ctx → ctx < 8192 → s.dev.running ctx = true → Kind.netTx (s.dev.kind ctx) = true → s.dev.isSafe ctx = false → s.dev.nextPacket ctx = some p → ((s.dev.elapse dt).paced ctx).1 = true → s.dev.nextMac ctx false = some m → s.dev.portUp (s.dev.txLegA ctx).port = true → Completes (.netPacketTx dt ctx) s (fun t => (t.dev.netTxSt ctx).leftAt = some (s.dev.wall + dt) ∧ (t.dev.netTxSt ctx).goneAt = some (s.dev.wall + dt) ∧ t.dev.rd D.NetTxStatus.RTP_SEQ_NEXT (ctx - 4096) = ((s.dev.netTxSt ctx).seq + 1) % 65536 ∧ t.dev.rd D.NetTxCounters.PACKETS (ctx - 4096) = min (s.dev.rd D.NetTxCounters.PACKETS (ctx - 4096) + 1) (2 ^ 32 - 1))) ∧
  (∀ (s : State) (dt ctx m : Nat) (legB : Bool), s.dev.serving = true → 4096 ≤ ctx → ctx < 8192 → Kind.netTx (s.dev.kind ctx) = true → s.dev.rd D.Flow.STATE ctx ≠ 0 → legB = false ∨ s.dev.txTwo ctx = true → isMulticast (s.dev.txLeg ctx legB).dst = false → (s.dev.hop ctx legB).triedAt = none → s.dev.portUp (s.dev.txLeg ctx legB).port = true → Completes (.netResolveRefresh dt ctx legB (some m)) s (fun t => (t.dev.hop ctx legB).mac = some (m % 2 ^ 48) ∧ (t.dev.hop ctx legB).fails = 0))

/-- With the lanes running: the item a lane expects, whole and without error in it, advances LCOUNT_RX and, when it is the group's next, is delivered, and errors outside it are counted; a replay request for items still held ends the item in progress by ABORT, puts the items from the one it names on in line and is counted; a marker that gives an idle lane a rank sets its rank and its next count; a first segment opens a message, a single segment that is the last completes it; messages open for 10 ms are discarded. Where the spec leaves a point open it rests on the model's choices and readings (assumption logs 130, 131 and 132). -/
def Obligations.DowelItemsComplete : Prop :=
  (∀ (s : State) (dt group lane chars skips a b : Nat), 5 ≤ s.dev.stage → s.dev.inReset = false → group < 8 → lane < 9 → ((s.dev.lanesAt dt).dl (9 * group + lane)).rxRank < 15 → ((s.dev.lanesAt dt).dl (9 * group + lane)).rxNext = none → ((s.dev.lanesAt dt).dl (9 * group + lane)).await = false → chars % 65536 = (s.dev.lanesAt dt).rd D.DwlLane.LCOUNT_RX (9 * group + lane) → isMgmt chars = true → ((s.dev.lanesAt dt).dg group).held = [] → ((s.dev.lanesAt dt).dg group).rxRank = ((s.dev.lanesAt dt).dl (9 * group + lane)).rxRank → ((s.dev.lanesAt dt).dg group).rxRound = (s.dev.lanesAt dt).rd D.DwlLane.LCOUNT_RX (9 * group + lane) → itemOk chars = true → Completes (.dwlItemRx dt group lane chars 0 (0, a) (0, b) skips) s (fun t => t.dev.rd D.DwlLane.LCOUNT_RX (9 * group + lane) = ((s.dev.lanesAt dt).rd D.DwlLane.LCOUNT_RX (9 * group + lane) + 1) % 2 ^ 16 ∧ t.dev.out.contains (.deliveredFrame group chars) = true ∧ t.dev.rd D.GroupCounters.MGMT_RX group = min (s.dev.rd D.GroupCounters.MGMT_RX group + 1) (2 ^ 32 - 1) ∧ t.dev.rd D.DwlLaneCounters.CODE_VIOLATIONS (9 * group + lane) = min (s.dev.rd D.DwlLaneCounters.CODE_VIOLATIONS (9 * group + lane) + a) (2 ^ 32 - 1) ∧ t.dev.rd D.DwlLaneCounters.DISPARITY_ERRORS (9 * group + lane) = min (s.dev.rd D.DwlLaneCounters.DISPARITY_ERRORS (9 * group + lane) + b) (2 ^ 32 - 1) ∧ t.dev.rd D.DwlLaneCounters.SKIPS_ADJUSTED (9 * group + lane) = min (s.dev.rd D.DwlLaneCounters.SKIPS_ADJUSTED (9 * group + lane) + skips) (2 ^ 32 - 1))) ∧
  (∀ (s : State) (dt group lane block : Nat) (l : List (Nat × Nat)), 5 ≤ s.dev.stage → s.dev.inReset = false → group < 8 → lane < 9 → ReplayReq.ok block = true → ReplayReq.lane block = lane → ((s.dev.lanesAt dt).dl (9 * group + lane)).serves (ReplayReq.count block) (s.dev.wall + dt) = false → replayFrom ((s.dev.lanesAt dt).dl (9 * group + lane)).sent (ReplayReq.count block) = some l → Completes (.dwlReplayReqRx dt group lane block) s (fun t => t.dev.rd D.GroupCounters.REPLAYS group = min (s.dev.rd D.GroupCounters.REPLAYS group + 1) (2 ^ 32 - 1) ∧ t.dev.rd D.DwlLaneCounters.REPLAY_REQ_RECEIVED (9 * group + lane) = min (s.dev.rd D.DwlLaneCounters.REPLAY_REQ_RECEIVED (9 * group + lane) + 1) (2 ^ 32 - 1) ∧ l.all (fun (x0 : Nat × Nat) => t.dev.out.contains (Emission.item group lane x0.1 x0.2) || (t.dev.dl (9 * group + lane)).due.contains (LaneDue.replay x0.1 x0.2)) = true ∧ (t.dev.out.contains (Emission.orderedSet group lane Sym.ABORT 0) = true ∨ ((s.dev.lanesAt dt).dl (9 * group + lane)).free ≤ (s.dev.lanesAt dt).laneClock))) ∧
  (∀ (s : State) (dt group lane block : Nat), 5 ≤ s.dev.stage → s.dev.inReset = false → group < 8 → lane < 9 → LaneMark.ok block = true → LaneMark.lane block = lane → LaneMark.rank block < 8 → LaneMark.active block ≤ 8 → ((s.dev.lanesAt dt).dl (9 * group + lane)).rxRank = 15 → ((s.dev.lanesAt dt).dl (9 * group + lane)).rxNext = none → Completes (.dwlLaneMarkerRx dt group lane block) s (fun t => (t.dev.dl (9 * group + lane)).rxRank = LaneMark.rank block ∧ t.dev.rd D.DwlLane.LCOUNT_RX (9 * group + lane) = LaneMark.next block)) ∧
  (∀ (s : State) (dt group chars : Nat), 5 ≤ s.dev.stage → s.dev.inReset = false → group < 8 → s.dev.groupUp group = true → isMgmt chars = true → 1 ≤ Mgmt.len chars → Mgmt.len chars ≤ 270 → Mgmt.seg chars = 0 → Mgmt.last chars = false → (s.dev.dg group).msgs = [] → Completes (.dwlMgmtFrameRx dt group chars) s (fun t => (t.dev.dg group).msgs.map (fun (m : OpenMsg) => (m.id, m.cls, m.next, m.since)) = [(Mgmt.id chars, Mgmt.cls chars, 1, s.dev.wall + dt)])) ∧
  (∀ (s : State) (dt group chars : Nat), 5 ≤ s.dev.stage → s.dev.inReset = false → group < 8 → s.dev.groupUp group = true → isMgmt chars = true → 1 ≤ Mgmt.len chars → Mgmt.len chars ≤ 270 → Mgmt.seg chars = 0 → Mgmt.last chars = true → Mgmt.cls chars ≠ 4 → Mgmt.cls chars ≠ 10 → (s.dev.dg group).msgs = [] → Completes (.dwlMgmtFrameRx dt group chars) s (fun t => t.dev.out.contains (.assembled group (Mgmt.cls chars) (Mgmt.id chars) ((⟨0, 0⟩ : Bytes).app (Mgmt.payload chars))) = true ∧ (t.dev.dg group).msgs = [])) ∧
  (∀ (s : State) (dt : Nat), 5 ≤ s.dev.stage → s.dev.inReset = false → Completes (.dwlMsgTimeout dt) s (fun t => (List.range 8).all (fun g => (t.dev.dg g).msgs.all (fun m => decide (s.dev.wall + dt < m.since + 10000000))) = true))

/-- With the lanes running, on a lane in TRAINING: a training block of the expected peer that is no hold and no refusal shows the signal and is remembered; a step below S4 whose dwell ends within its error limit is shown with the CDR locked; a failed step that is not the third at its step is counted and the lane starts again at S0; a MISWIRED group trains again after 1 s. Where the spec leaves a point open it rests on the model's choices and readings (assumption logs 130 and 132). -/
def Obligations.DowelBringUpCompletes : Prop :=
  (∀ (s : State) (dt group lane block : Nat) (inverted : Bool), 5 ≤ s.dev.stage → s.dev.inReset = false → group < 8 → lane < 9 → s.dev.rd D.GroupStatus.STATE group = GroupState.TRAINING ∨ s.dev.rd D.GroupStatus.STATE group = GroupState.UP → (s.dev.lanesAt dt).laneState (9 * group + lane) = LaneState.TRAINING → Train.ok block = true → s.dev.expectedPeer group = some (Train.member block, Train.card block, Train.group block) → Train.lane block = lane → Train.size block = s.dev.ensSize → Train.digest block = s.dev.frameDigest → Train.kind block < 3 → Completes (.dwlTrainingBlockRx dt group lane block inverted) s (fun t => (t.dev.dl (9 * group + lane)).peerMax = Train.maxStep block ∧ t.dev.on D.LaneStatus.SIGNAL_DETECT (phyOf (9 * group + lane)) = true)) ∧
  (∀ (s : State) (dt group lane errors : Nat), 5 ≤ s.dev.stage → s.dev.inReset = false → group < 8 → lane < 9 → (s.dev.lanesAt dt).laneState (9 * group + lane) = LaneState.TRAINING → ((s.dev.lanesAt dt).dl (9 * group + lane)).dwelt = false → ((s.dev.lanesAt dt).dl (9 * group + lane)).step < 4 → ((s.dev.lanesAt dt).dl (9 * group + lane)).since + (stepRow ((s.dev.lanesAt dt).dl (9 * group + lane)).step).2.1 ≤ s.dev.wall + dt → s.dev.wall + dt ≤ ((s.dev.lanesAt dt).dl (9 * group + lane)).since + lockLimit ((s.dev.lanesAt dt).dl (9 * group + lane)).step + (stepRow ((s.dev.lanesAt dt).dl (9 * group + lane)).step).2.1 → errors ≤ (stepRow ((s.dev.lanesAt dt).dl (9 * group + lane)).step).2.2 → s.dev.restarts 2 = false → Completes (.dwlStepDwellEnd dt group lane errors) s (fun t => (t.dev.dl (9 * group + lane)).dwelt = true ∧ t.dev.rd D.DwlLane.STEP (9 * group + lane) = ((s.dev.lanesAt dt).dl (9 * group + lane)).step ∧ t.dev.on D.LaneStatus.CDR_LOCKED (phyOf (9 * group + lane)) = true)) ∧
  (∀ (s : State) (dt group lane : Nat) (n : Option Nat), 5 ≤ s.dev.stage → s.dev.inReset = false → group < 8 → lane < 9 → (s.dev.lanesAt dt).laneState (9 * group + lane) = LaneState.TRAINING → ((s.dev.lanesAt dt).dl (9 * group + lane)).dwelt = false → (match n with | some n0 => decide ((stepRow ((s.dev.lanesAt dt).dl (9 * group + lane)).step).2.2 < n0) | none => (s.dev.lanesAt dt).past ((s.dev.lanesAt dt).dl (9 * group + lane)).since (lockLimit ((s.dev.lanesAt dt).dl (9 * group + lane)).step)) = true → countIf (fun f => f == ((s.dev.lanesAt dt).dl (9 * group + lane)).step) ((s.dev.lanesAt dt).dl (9 * group + lane)).fails < 2 → Completes (.dwlStepFailure dt group (lane, n)) s (fun t => t.dev.laneState (9 * group + lane) = LaneState.TRAINING ∧ t.dev.rd D.DwlLane.STEP (9 * group + lane) = 0 ∧ t.dev.rd D.DwlLaneCounters.STEP_FAILURES (9 * group + lane) = min (s.dev.rd D.DwlLaneCounters.STEP_FAILURES (9 * group + lane) + 1) (2 ^ 32 - 1))) ∧
  (∀ (s : State) (dt group : Nat), 5 ≤ s.dev.stage → s.dev.inReset = false → group < 8 → s.dev.rd D.GroupStatus.STATE group = GroupState.MISWIRED → (s.dev.elapse dt).past (s.dev.dg group).since 1000000000 = true → Completes (.groupMiswiredRetry dt group) s (fun t => t.dev.rd D.GroupStatus.STATE group = GroupState.TRAINING))

/-- With the lanes running: a due chain frame is sent and numbered; the third agreeing frame with a position below 15 gives the next position; a chain silent for 1 ms is reported lost; a tailstock sends its report to member 0; the headstock shows a report's length and raises CHAIN_SHORT after 2 s without one; a group that is UP puts a due beacon in line on its rank-0 lane, a valid one received shows BEACON_OK and is counted, and 32,000 ns without one clear it, counted. Where the spec leaves a point open it rests on the model's choices and readings (assumption logs 67, 130 and 131). -/
def Obligations.EnsembleComplete : Prop :=
  (∀ (s : State) (dt : Nat) (v : Nat × Nat × Nat × Nat), 5 ≤ s.dev.stage → s.dev.inReset = false → s.dev.inCold = false → s.dev.dwl.chainTx = none → s.dev.dwl.taken = some v → Completes (.chainFrameTx dt) s (fun t => t.dev.out = [.chain t.dev.dwl.lastFrame] ∧ t.dev.dwl.lastFrame = Chain.build (s.dev.rd D.Ens.POSITION 0) (if s.dev.on D.Straps.HEAD 0 then s.dev.rd D.Ens.ENSEMBLE_SIZE 0 else v.2.1) v.2.2.1 v.2.2.2 s.dev.dwl.fseq ∧ t.dev.dwl.fseq = (s.dev.dwl.fseq + 1) % 65536)) ∧
  (∀ (s : State) (dt frame : Nat), 5 ≤ s.dev.stage → s.dev.inReset = false → s.dev.on D.Straps.HEAD 0 = false → Chain.ok frame = true → s.dev.dwl.taken = none → s.dev.dwl.seen = some (Chain.values frame, 2) → Chain.position frame < 15 → Completes (.chainFrameRx dt frame) s (fun t => t.dev.rd D.Ens.POSITION 0 = Chain.position frame + 1 ∧ t.dev.rd D.Ens.ENSEMBLE_SIZE 0 = Chain.size frame)) ∧
  (∀ (s : State) (dt : Nat), 5 ≤ s.dev.stage → s.dev.inReset = false → s.dev.on D.Straps.HEAD 0 = false → s.dev.dwl.taken.isNone = false → s.dev.dwl.chainLost = false → (s.dev.elapse dt).past s.dev.dwl.chainAt 1000000 = true → Completes (.chainLost dt) s (fun t => t.dev.dwl.chainLost = true ∧ t.dev.raised.contains ⟨Src.DWL_CHAIN_LOST, 0, false⟩ = true)) ∧
  (∀ (s : State) (dt g : Nat), 5 ≤ s.dev.stage → s.dev.inReset = false → s.dev.rd D.Ens.TAILSTOCK 0 ≠ 0 → s.dev.rd D.Ens.MEMBER 0 ≠ 0xFF → s.dev.me ≠ 0 → s.dev.dwl.reportAt = none → s.dev.groupTo 0 = some g → Completes (.memberReportTx dt) s (fun t => t.dev.dwl.reportAt = some (s.dev.wall + dt) ∧ t.dev.out.contains (.message g 0x09 ⟨1, s.dev.rd D.Ens.POSITION 0 + 1⟩) = true)) ∧
  (∀ (s : State) (dt group length : Nat), 5 ≤ s.dev.stage → s.dev.inReset = false → s.dev.on D.Straps.HEAD 0 = true → group < 7 → s.dev.groupUp group = true → length < 256 → Completes (.memberReportRx dt group length) s (fun t => t.dev.rd D.Ens.CHAIN_LENGTH 0 = length ∧ t.dev.dwl.reported = true)) ∧
  (∀ (s : State) (dt t0 : Nat), 5 ≤ s.dev.stage → s.dev.inReset = false → s.dev.on D.Straps.HEAD 0 = true → s.dev.dwl.upAt = some t0 → s.dev.dwl.reported = false → s.dev.dwl.short = false → (s.dev.elapse dt).past t0 2000000000 = true → Completes (.chainShortTimeout dt) s (fun t => t.dev.dwl.short = true ∧ t.dev.raised.contains ⟨Src.DWL_CHAIN_SHORT, 0, false⟩ = true)) ∧
  (∀ (s : State) (dt group lane : Nat) (rest : List Nat), 5 ≤ s.dev.stage → s.dev.inReset = false → group < 8 → s.dev.groupUp group = true → (s.dev.dg group).beaconTx = none → ((s.dev.lanesAt dt).dg group).lanes = lane :: rest → Completes (.beaconTx dt group) s (fun t => ((t.dev.dl (9 * group + lane)).due.contains (.beacon ((s.dev.lanesAt dt).beacon group)) = true ∨ t.dev.out.any (fun x0 => match x0 with | .orderedSet g0 l0 k0 v0 => g0 == group && l0 == lane && k0 == Sym.BEACON && Beacon.bseq v0 == (s.dev.dg group).bseq % 65536 && Beacon.ok v0 | _ => false) = true) ∧ (t.dev.dg group).bseq = ((s.dev.dg group).bseq + 1) % 65536 ∧ (t.dev.dg group).beaconTx = some (s.dev.wall + dt))) ∧
  (∀ (s : State) (dt group block : Nat), 5 ≤ s.dev.stage → s.dev.inReset = false → group < 8 → s.dev.groupUp group = true → Beacon.ok block = true → Completes (.beaconRx dt group block) s (fun t => t.dev.on D.GroupStatus.BEACON_OK group = true ∧ t.dev.rd D.GroupCounters.BEACONS_RX group = min (s.dev.rd D.GroupCounters.BEACONS_RX group + 1) (2 ^ 32 - 1) ∧ (t.dev.dg group).beaconRx = s.dev.wall + dt)) ∧
  (∀ (s : State) (dt group : Nat), 5 ≤ s.dev.stage → s.dev.inReset = false → group < 8 → s.dev.on D.GroupStatus.BEACON_OK group = true → (s.dev.elapse dt).past (s.dev.dg group).beaconRx 32000 = true → Completes (.beaconLost dt group) s (fun t => t.dev.on D.GroupStatus.BEACON_OK group = false ∧ t.dev.rd D.GroupCounters.BEACONS_LOST group = min (s.dev.rd D.GroupCounters.BEACONS_LOST group + 1) (2 ^ 32 - 1)))

/-- A granted LANE_CMD answers OK: STEP allows a holding dowel lane its next step, SWAP_OUT puts a ready spare in the place of a lane of the rotation which climbs again, RETRAIN starts a FAILED lane again, MARGIN_SCAN and MARGIN_ABORT start and abort a scan; a finished scan of a locked lane shows its eye. Where the spec leaves a point open it rests on the model's choices and readings (assumption logs 66, 130 and 134). -/
def Obligations.LaneCommandsComplete : Prop :=
  (∀ (s : State) (q : Rcp) (lane : Nat), s.dev.grants q 0x0800 2 ⟨4, 2 ^ 24 + lane⟩ = true → isDowel lane = true → s.dev.rd D.Phy.MODE 0 = 1 → ((s.dev.elapse q.dt).laneBlocks (lane - 164)).laneState (lane - 164) = LaneState.TRAINING → (((s.dev.elapse q.dt).laneBlocks (lane - 164)).dl (lane - 164)).dwelt = true → (((s.dev.elapse q.dt).laneBlocks (lane - 164)).dl (lane - 164)).step < 4 → (((s.dev.elapse q.dt).laneBlocks (lane - 164)).dl (lane - 164)).offerTx = false → (((s.dev.elapse q.dt).laneBlocks (lane - 164)).dl (lane - 164)).allow = false → Completes (.laneCmdStep q lane) s (fun t => t.dev.answered q St.OK = true ∧ (t.dev.dl (lane - 164)).allow = true)) ∧
  (∀ (s : State) (q : Rcp) (lane sp : Nat), s.dev.grants q 0x0800 2 ⟨4, 2 * 2 ^ 24 + lane⟩ = true → isDowel lane = true → s.dev.laneState (lane - 164) = LaneState.IN_ROTATION → s.dev.readySpare ((lane - 164) / 9) = some sp → (s.dev.dl (lane - 164)).await = false → Completes (.laneCmdSwapOut q lane) s (fun t => t.dev.answered q St.OK = true ∧ t.dev.laneState (lane - 164) = LaneState.TRAINING ∧ t.dev.laneState sp = LaneState.IN_ROTATION)) ∧
  (∀ (s : State) (q : Rcp) (lane : Nat), s.dev.grants q 0x0800 2 ⟨4, 3 * 2 ^ 24 + lane⟩ = true → isDowel lane = true → s.dev.laneState (lane - 164) = LaneState.FAILED → Completes (.laneCmdRetrain q lane) s (fun t => t.dev.answered q St.OK = true ∧ t.dev.laneState (lane - 164) = LaneState.TRAINING ∧ t.dev.rd D.DwlLane.STEP (lane - 164) = 0)) ∧
  (∀ (s : State) (q : Rcp) (target lane : Nat), s.dev.grants q 0x0800 2 ⟨4, 4 * 2 ^ 24 + target * 2 ^ 16 + lane⟩ = true → 6 ≤ target → target ≤ 15 → lane ≤ 235 → s.dev.laneLocked lane = true → 128 ≤ lane ∨ s.dev.rd D.SdiRxStatus.RATE lane ≠ 1 → s.dev.phy.scans.length < 8 → s.dev.phy.scans.any (fun x => x.1 == lane) = false → Completes (.laneCmdMarginScan q target lane) s (fun t => t.dev.answered q St.OK = true ∧ t.dev.rd D.Margin.SCAN_STATE lane = 1 ∧ t.dev.rd D.Margin.TARGET_EXP lane = target)) ∧
  (∀ (s : State) (q : Rcp) (lane : Nat), s.dev.grants q 0x0800 2 ⟨4, 5 * 2 ^ 24 + lane⟩ = true → lane ≤ 235 → s.dev.phy.scans.any (fun x => x.1 == lane) = true → Completes (.laneCmdMarginAbort q lane) s (fun t => t.dev.answered q St.OK = true ∧ t.dev.rd D.Margin.SCAN_STATE lane = 3 ∧ t.dev.phy.scans.any (fun x => x.1 == lane) = false)) ∧
  (∀ (s : State) (dt lane width height t0 : Nat), 5 ≤ s.dev.stage → s.dev.inReset = false → (s.dev.lanesAt dt).phy.scans.find? (fun x => x.1 == lane) = some (lane, t0) → (s.dev.lanesAt dt).laneLocked lane = true → Completes (.marginScanDone dt lane width height) s (fun t => t.dev.rd D.Margin.SCAN_STATE lane = 2 ∧ t.dev.rd D.Margin.WIDTH_MUI lane = min width 65535 ∧ t.dev.rd D.Margin.HEIGHT_MV lane = min height 65535 ∧ t.dev.rd D.Margin.SCAN_MS lane = min 65535 ((s.dev.wall + dt - t0) / 1000000)))

/-- With the lanes running: a lane in the rotation or a spare that loses lock is FAILED; a rotation lane with more errors in a second than DEGRADE_CV_PER_S without AUTO_SPARE is shown DEGRADED and raised; a spare's seconds within the limit are remembered; in service a failed SDI lane whose spare slice locks is moved there; a PRBS checker shows lock, and its loss with the bits and errors counted. Where the spec leaves a point open it rests on the model's choices and readings (assumption logs 132 and 133). -/
def Obligations.LaneFailuresComplete : Prop :=
  (∀ (s : State) (dt lane skew : Nat), 5 ≤ s.dev.stage → s.dev.inReset = false → isDowel lane = true → s.dev.laneState (lane - 164) = LaneState.IN_ROTATION ∨ s.dev.laneState (lane - 164) = LaneState.SPARE_PRBS → Completes (.phyLaneFailed dt lane 0 skew) s (fun t => t.dev.laneState (lane - 164) = LaneState.FAILED ∧ t.dev.rd D.DwlLaneCounters.LOCK_LOSSES (lane - 164) = min (s.dev.rd D.DwlLaneCounters.LOCK_LOSSES (lane - 164) + 1) (2 ^ 32 - 1))) ∧
  (∀ (s : State) (dt lane errors symbols : Nat), 5 ≤ s.dev.stage → s.dev.inReset = false → isDowel lane = true → (s.dev.elapse dt).judgeDue lane = true → s.dev.laneState (lane - 164) = LaneState.IN_ROTATION → s.dev.rd D.Phy.DEGRADE_CV_PER_S 0 < (s.dev.dl (lane - 164)).errs + errors + symbols → s.dev.on D.Phy.AUTO_SPARE 0 = false → Completes (.phyDegradeCheck dt lane errors symbols) s (fun t => t.dev.rd D.LaneStatus.USE lane = LaneUse.DEGRADED ∧ t.dev.raised.contains ⟨Src.PHY_LANE_DEGRADED, lane, false⟩ = true ∧ t.dev.rd D.LaneStatus.ERRORS_PER_S lane = min ((s.dev.dl (lane - 164)).errs + errors + symbols) (2 ^ 32 - 1))) ∧
  (∀ (s : State) (dt group errors e : Nat), 5 ≤ s.dev.stage → s.dev.inReset = false → group < 8 → (lanesOf group).find? (fun x => s.dev.laneState x == LaneState.SPARE_PRBS) = some e → (s.dev.elapse dt).judgeDue (phyOf e) = true → errors ≤ s.dev.rd D.Phy.SPARE_ERR_PER_S 0 → Completes (.spareReadinessCheck dt group errors) s (fun t => (t.dev.dl e).filler = (errors :: (s.dev.dl e).filler).take 10 ∧ t.dev.rd D.PrbsCounters.ERRORS (phyOf e) = min (s.dev.rd D.PrbsCounters.ERRORS (phyOf e) + errors) (2 ^ 48 - 1))) ∧
  (∀ (s : State) (dt lane : Nat), s.dev.serving = true → lane < 128 → s.dev.on D.Phy.AUTO_SPARE 0 = true → s.dev.on D.SliceMap.IN_USE (lane / 16) = false → s.dev.on D.SdiRxStatus.LOCKED lane = false → s.dev.on D.LaneStatus.SPARED lane = false → Completes (.sdiSliceSpare dt lane true) s (fun t => t.dev.on D.SliceMap.IN_USE (lane / 16) = true ∧ t.dev.rd D.SliceMap.LANE (lane / 16) = lane ∧ t.dev.on D.LaneStatus.SPARED lane = true ∧ t.dev.raised.contains ⟨Src.PHY_SLICE_SPARED, lane, false⟩ = true)) ∧
  (∀ (s : State) (dt lane : Nat), 5 ≤ s.dev.stage → s.dev.inReset = false → lane ≤ 235 → s.dev.checking lane = true → s.dev.on D.LaneStatus.PRBS_LOCK lane = false → Completes (.prbsCheckerLock dt lane) s (fun t => t.dev.on D.LaneStatus.PRBS_LOCK lane = true)) ∧
  (∀ (s : State) (dt lane bits errors : Nat), 5 ≤ s.dev.stage → s.dev.inReset = false → lane ≤ 235 → s.dev.on D.LaneStatus.PRBS_LOCK lane = true → Completes (.prbsCheckerUnlock dt lane bits errors) s (fun t => t.dev.on D.LaneStatus.PRBS_LOCK lane = false ∧ t.dev.rd D.PrbsCounters.BITS lane = min (s.dev.rd D.PrbsCounters.BITS lane + bits) (2 ^ 48 - 1) ∧ t.dev.rd D.PrbsCounters.ERRORS lane = min (s.dev.rd D.PrbsCounters.ERRORS lane + min errors bits) (2 ^ 48 - 1) ∧ t.dev.rd D.PrbsCounters.LOCK_LOSSES lane = min (s.dev.rd D.PrbsCounters.LOCK_LOSSES lane + 1) (2 ^ 16 - 1)))

/-- In service, a channel that takes requests, is not on its way into self-refresh and has less than 8 intervals' worth of refresh postponed serves the request R258 selects: a timely error-free read returns the bytes memory holds and leaves memory as it was, an error-free write with no copy of its block in progress stores its bytes at the address its block translates to and nowhere else; a real-time request that has waited more than 2,000 ns is counted as a miss of its port. Where the spec leaves a point open it rests on the model's choices and readings (assumption logs 50 and 135). -/
def Obligations.StoreRequestsComplete : Prop :=
  (∀ (s : State) (dt chan p : Nat) (r : MemReq) (a : Alloc), s.dev.serving = true → chan < 32 → s.dev.chanServes chan = true → (s.dev.chanSt chan).entering = false → s.dev.selectReq chan (s.dev.store.reqs.filter (fun x => x.chan == chan)) = some r → r.write = false → Assoc.find s.dev.store.alloc r.handle = some a → a.addr r.logical r.off = some p → a.poison r.logical r.off r.len = false → r.missed = false → s.dev.wall + dt - r.since ≤ 2000 → s.dev.memQ = [] → ((s.dev.elapse dt).refreshIdle chan).postponed chan < 8 → Completes (.memRequestServe dt chan [] 0) s (fun t => t.dev.out.contains (.memRead r.port r.handle (r.logical * blockBytes + r.off) false (Memory.readBytes s.mem p r.len)) = true ∧ t.mem = s.mem)) ∧
  (∀ (s : State) (dt chan p : Nat) (r : MemReq) (a : Alloc), s.dev.serving = true → chan < 32 → s.dev.chanServes chan = true → (s.dev.chanSt chan).entering = false → s.dev.selectReq chan (s.dev.store.reqs.filter (fun x => x.chan == chan)) = some r → r.write = true → Assoc.find s.dev.store.alloc r.handle = some a → a.addr r.logical r.off = some p → p + r.len ≤ memSize → s.dev.store.copying = [] → s.dev.memQ = [] → ((s.dev.elapse dt).refreshIdle chan).postponed chan < 8 → Completes (.memRequestServe dt chan [] 0) s (fun t => t.mem = Memory.writeBytes s.mem p (bytesOf r.len r.data))) ∧
  (∀ (s : State) (dt chan : Nat) (r : MemReq), s.dev.serving = true → s.dev.store.reqs.find? (fun x => x.chan == chan && realTime x.port && !x.missed && decide (2000 < s.dev.wall + dt - x.since)) = some r → Completes (.requestDeadlineMiss dt chan) s (fun t => t.dev.rd D.FsPortCounters.DEADLINE_MISSES r.port = min (s.dev.rd D.FsPortCounters.DEADLINE_MISSES r.port + 1) (2 ^ 32 - 1) ∧ t.dev.store.reqs.contains r = false))

/-- A delay set that passes with no defective row puts a channel ONLINE with that set in use; in service a running channel's delays are moved every 100 ms, by at most 2 steps each; a second with more corrected errors than RETRAIN_CORR_PER_S degrades an ONLINE channel; a failed channel is trained again, or retired at the third failure within 24 h; an MR4 poll shows the refresh rate and a rise above the high limit is raised; SRE enters self-refresh, is counted, and the segments masked then lose their contents; a waiting request abandons an entry before SRE, which is counted too. Where the spec leaves a point open it rests on the model's choices and readings (assumption logs 2, 49 and 100). -/
def Obligations.ChannelsComplete : Prop :=
  (∀ (s : State) (dt chan k : Nat), s.dev.inReset = false → chan < 32 → s.dev.chanState chan = ChanState.TRAINING → s.dev.setTried chan = some k → k < 8 → Completes (.chanTrainingSetDone dt chan true []) s (fun t => t.dev.chanState chan = ChanState.ONLINE ∧ t.dev.rd D.ChanStatus.SET_IN_USE chan = k)) ∧
  (∀ (s : State) (dt chan : Nat), s.dev.serving = true → chan < 32 → s.dev.chanState chan = ChanState.ONLINE ∨ s.dev.chanState chan = ChanState.DEGRADED → (s.dev.elapse dt).past (s.dev.chanSt chan).shiftAt 100000000 = true → s.dev.restarts 3 = false → Completes (.delayRecentre dt chan) s (fun t => (t.dev.chanSt chan).shiftAt = s.dev.wall + dt ∧ ((t.dev.chanSt chan).shift.1 - (s.dev.chanSt chan).shift.1).natAbs ≤ 2 ∧ ((t.dev.chanSt chan).shift.2 - (s.dev.chanSt chan).shift.2).natAbs ≤ 2)) ∧
  (∀ (s : State) (dt chan : Nat), s.dev.serving = true → chan < 32 → (s.dev.elapse dt).past (s.dev.chanSt chan).second 1000000000 = true → s.dev.rd D.Fs.RETRAIN_CORR_PER_S 0 < (s.dev.chanSt chan).corr → s.dev.chanState chan = ChanState.ONLINE → Completes (.chanDegradeCheck dt chan) s (fun t => t.dev.chanState chan = ChanState.DEGRADED ∧ t.dev.raised.contains ⟨Src.FS_CHAN_DEGRADED, chan, false⟩ = true)) ∧
  (∀ (s : State) (dt chan : Nat), s.dev.serving = true → chan < 32 → (s.dev.elapse dt).past (s.dev.chanSt chan).second 1000000000 = true → (s.dev.chanSt chan).corr ≤ s.dev.rd D.Fs.RETRAIN_CORR_PER_S 0 → 9 ≤ (s.dev.chanSt chan).clean → s.dev.chanState chan = ChanState.DEGRADED → Completes (.chanDegradeCheck dt chan) s (fun t => t.dev.chanState chan = ChanState.ONLINE)) ∧
  (∀ (s : State) (dt chan : Nat), s.dev.serving = true → chan < 32 → s.dev.chanServes chan = true → Completes (.chanFail dt chan 1) s (fun t => t.dev.chanState chan = (if 2 ≤ ((s.dev.chanSt chan).failedAt.filter (fun x0 => decide (s.dev.wall + dt < x0 + 86400000000000))).length then ChanState.RETIRED else ChanState.TRAINING))) ∧
  (∀ (s : State) (dt chan rate : Nat), s.dev.serving = true → chan < 32 → s.dev.chanState chan ≠ ChanState.OFFLINE → s.dev.chanState chan ≠ ChanState.RETIRED → (s.dev.chanSt chan).hot = false → rate < 8 → Completes (.mr4Poll dt chan rate true) s (fun t => t.dev.rd D.ChanStatus.MR4_RATE chan = rate ∧ t.dev.raised.contains ⟨Src.FS_DRAM_HOT, chan, true⟩ = true)) ∧
  (∀ (s : State) (dt chan : Nat), s.dev.serving = true → chan < 32 → s.dev.chanServes chan = true → s.dev.reqWaits chan = false → s.dev.on D.ChanStatus.SELF_REFRESH chan = false → (s.dev.chanSt chan).entering = true → Completes (.srEntry dt chan true) s (fun t => t.dev.on D.ChanStatus.SELF_REFRESH chan = true ∧ t.dev.rd D.ChanCounters.SR_ENTRIES chan = min (s.dev.rd D.ChanCounters.SR_ENTRIES chan + 1) (2 ^ 32 - 1) ∧ t.dev.rd D.ChanStatus.PASR_MASK chan = s.dev.pasrMask chan ∧ t.mem = s.mem.filter (fun x0 => !t.dev.masked (x0.1 / blockBytes)))) ∧
  (∀ (s : State) (dt chan : Nat), s.dev.serving = true → chan < 32 → s.dev.reqWaits chan = true → s.dev.on D.ChanStatus.SELF_REFRESH chan = false → (s.dev.chanSt chan).entering = true → Completes (.srExit dt chan) s (fun t => (t.dev.chanSt chan).entering = false ∧ t.dev.rd D.ChanCounters.SR_ABORTS chan = min (s.dev.rd D.ChanCounters.SR_ABORTS chan + 1) (2 ^ 32 - 1))) ∧
  (∀ (s : State) (dt chan : Nat), s.dev.serving = true → chan < 32 → s.dev.reqWaits chan = true → s.dev.on D.ChanStatus.SELF_REFRESH chan = true → (s.dev.chanSt chan).entering = true → (s.dev.elapse dt).past (s.dev.chanSt chan).sreAt 403 = true → Completes (.srExit dt chan) s (fun t => (t.dev.chanSt chan).entering = false ∧ t.dev.on D.ChanStatus.SELF_REFRESH chan = false ∧ t.dev.rd D.ChanStatus.PASR_MASK chan = 0))

/-- CHAN_CMD RETRAIN of a running channel that holds no block trains it, RETIRE retires it, RESTORE of a RETIRED channel trains it, each answered OK; the end of a relocation copy translates the logical block to its new place; a free block with a row that fails the patrol is withdrawn. Where the spec leaves a point open it rests on the model's choices and readings (assumption log 136). -/
def Obligations.ChannelCommandsComplete : Prop :=
  (∀ (s : State) (q : Rcp) (chan : Nat), chan < 32 → s.dev.grants q 0x0E00 0x0D ⟨4, 2 ^ 24 + chan⟩ = true → s.dev.chanState chan = ChanState.ONLINE ∨ s.dev.chanState chan = ChanState.DEGRADED → s.dev.blocksOn chan = [] → Completes (.chanCmdRetrain q chan) s (fun t => t.dev.answered q St.OK = true ∧ t.dev.chanState chan = ChanState.TRAINING)) ∧
  (∀ (s : State) (q : Rcp) (chan : Nat), chan < 32 → s.dev.grants q 0x0E00 0x0D ⟨4, 2 ^ 25 + chan⟩ = true → s.dev.chanState chan = ChanState.ONLINE ∨ s.dev.chanState chan = ChanState.DEGRADED → s.dev.blocksOn chan = [] → Completes (.chanCmdRetire q chan) s (fun t => t.dev.answered q St.OK = true ∧ t.dev.chanState chan = ChanState.RETIRED)) ∧
  (∀ (s : State) (q : Rcp) (chan : Nat), chan < 32 → s.dev.grants q 0x0E00 0x0D ⟨4, 3 * 2 ^ 24 + chan⟩ = true → s.dev.chanState chan = ChanState.RETIRED → Completes (.chanCmdRestore q chan) s (fun t => t.dev.answered q St.OK = true ∧ t.dev.chanState chan = ChanState.TRAINING ∧ t.dev.rd D.ChanCounters.RETRAINS chan = min (s.dev.rd D.ChanCounters.RETRAINS chan + 1) (2 ^ 32 - 1))) ∧
  (∀ (s : State) (dt handle logical old : Nat) (k : Copying) (a : Alloc), s.dev.serving = true → s.dev.store.copying.find? (fun x => x.handle == handle && x.logical == logical) = some k → k.target < 65536 → Assoc.find s.dev.store.alloc handle = some a → a.blocks.getD logical none = some old → Completes (.blockRelocated dt handle logical) s (fun t => t.mem = Memory.copyBlock s.mem old k.target)) ∧
  (∀ (s : State) (dt block row : Nat), s.dev.serving = true → block < 65536 → row < 1024 → s.dev.blocksInUse.contains block = false → (s.dev.candidates (block % 32)).contains block = true → s.dev.store.withdrawn.contains block = false → (s.dev.chanSt (block % 32)).defects.contains (block * 1024 + row) = false → s.dev.store.alloc = [] → Completes (.patrolTest dt block row false) s (fun t => t.dev.store.withdrawn.contains block = true ∧ (t.dev.chanSt (block % 32)).defects.contains (block * 1024 + row) = true))

/-- In service, an ACTIVE physical tile that fails without AUTO_SPARE is FAILED and its logical tile UNAVAILABLE; TILE_CMD SUBSTITUTE tests the tile replaced, RESTORE tests a FAILED one, TEST a SPARE one, answered OK; BIST that passes makes a tile SPARE; substitution ends; an output frame reads the newest complete input frame and sets its switch point; and an input without cells for a frame is lost. Where the spec leaves a point open it rests on the model's choices and readings (assumption log 58). -/
def Obligations.TilesComplete : Prop :=
  (∀ (s : State) (dt phys : Nat), s.dev.serving = true → phys < 68 → s.dev.rd D.TileMapEl.STATE phys = PhysTile.ACTIVE → s.dev.on D.Tiles.AUTO_SPARE 0 = false → Completes (.tileFail dt phys) s (fun t => t.dev.rd D.TileMapEl.STATE phys = PhysTile.FAILED ∧ t.dev.on D.TileStatus.UNAVAILABLE (s.dev.rd D.TileMapEl.LOGICAL phys) = true)) ∧
  (∀ (s : State) (dt tile : Nat), s.dev.serving = true → tile < 64 → s.dev.on D.TileStatus.SUBSTITUTING tile = true → Completes (.tileSubstitutionDone dt tile) s (fun t => t.dev.on D.TileStatus.SUBSTITUTING tile = false)) ∧
  (∀ (s : State) (q : Rcp) (tile p r : Nat), tile < 64 → s.dev.grants q 0x0F00 0x08 ⟨4, 2 ^ 24 + tile⟩ = true → s.dev.physOf tile = some p → s.dev.tileSpare = some r → s.dev.rd D.TileMapEl.STATE p = PhysTile.ACTIVE → Completes (.tileCmdSubstitute q tile) s (fun t => t.dev.answered q St.OK = true ∧ t.dev.rd D.TileMapEl.STATE p = PhysTile.TESTING ∧ t.dev.rd D.TileMapEl.STATE r = PhysTile.ACTIVE ∧ t.dev.rd D.Tile.PHYS_TILE tile = r)) ∧
  (∀ (s : State) (q : Rcp) (phys : Nat), phys < 68 → s.dev.grants q 0x0F00 0x08 ⟨4, 2 * 2 ^ 24 + phys⟩ = true → s.dev.rd D.TileMapEl.STATE phys = PhysTile.FAILED → Completes (.tileCmdRestore q phys) s (fun t => t.dev.answered q St.OK = true ∧ t.dev.rd D.TileMapEl.STATE phys = PhysTile.TESTING ∧ t.dev.tileRestore.contains phys = true)) ∧
  (∀ (s : State) (q : Rcp) (phys : Nat), phys < 68 → s.dev.grants q 0x0F00 0x08 ⟨4, 3 * 2 ^ 24 + phys⟩ = true → s.dev.rd D.TileMapEl.STATE phys = PhysTile.SPARE → Completes (.tileCmdTest q phys) s (fun t => t.dev.answered q St.OK = true ∧ t.dev.rd D.TileMapEl.STATE phys = PhysTile.TESTING)) ∧
  (∀ (s : State) (dt phys : Nat), s.dev.serving = true → phys < 68 → s.dev.rd D.TileMapEl.STATE phys = PhysTile.TESTING → Completes (.tileBistDone dt phys true) s (fun t => t.dev.rd D.TileMapEl.STATE phys = PhysTile.SPARE ∧ t.dev.tileRestore.contains phys = false)) ∧
  (∀ (s : State) (dt tile lost c : Nat) (b : Bool), s.dev.serving = true → tile < 64 → s.dev.tileOut tile (if b then 2 else 0) = some c → s.dev.fsOn tile b = true → s.dev.running c = true → s.dev.on D.TileStatus.UNAVAILABLE tile = false → s.dev.on D.TileStatus.SUBSTITUTING tile = false → Completes (.fsOutputFrame dt tile b lost) s (fun t => (t.dev.fsSt tile b).seen = (s.dev.fsSt tile b).done2 / 2 ∧ (t.dev.fsSt tile b).target.isSome = true)) ∧
  (∀ (s : State) (dt tile c : Nat) (b : Bool), s.dev.serving = true → tile < 64 → s.dev.tileIn tile (if b then 2 else 0) = some c → s.dev.running c = true → (s.dev.fsSt tile b).lossy = false → (s.dev.elapse dt).past (s.dev.fsSt tile b).inAt (Fmt.periodNs (s.dev.format c)) = true → Completes (.fsInputLoss dt tile b) s (fun t => (t.dev.fsSt tile b).lossy = true ∧ t.dev.on D.TileStatus.FS_LOCKED tile = false))

/-- In service, a running head composes a picture at each frame boundary from what its layers show; a layer frame that is complete joins those ready, and its lines without cells are counted; a run of a new FORMAT is evaluated; a pixel written to a veneer stands in the frame store and every other byte is as before; a flip of a veneer no running head shows exchanges its buffers; a tally value is kept; and a failed engine is marked and raised. Where the spec leaves a point open it rests on the model's choices and readings (assumption logs 59, 60, 61, 137 and 138). -/
def Obligations.CompositionCompletes : Prop :=
  (∀ (s : State) (dt head c t0 : Nat) (lost probe : List (Nat × Nat)), s.dev.serving = true → head < 12 → s.dev.headOut head = some c → s.dev.running c = true → (s.dev.elapse dt).headBoundary head c = some t0 → Completes (.headFrameBoundary dt head lost probe) s (fun t => (t.dev.headSt head).started = true ∧ (t.dev.headSt head).boundary = some t0 ∧ t.dev.out.any (fun x0 => match x0 with | .picture h0 b0 _ l0 p0 => h0 == head && b0 == (t.dev.headSt head).background && l0 == (t.dev.headSt head).stack && p0.map (fun y0 => (y0.1, y0.2.1)) == probe | _ => false) = true)) ∧
  (∀ (s : State) (dt e made : Nat) (rest : List Nat) (filled : List (Nat × Nat × Nat)), s.dev.serving = true → e < 192 → (s.dev.layerSt e).due = made :: rest → s.dev.engineOk e = true → ((s.dev.store.alloc.find? (fun (x0 : Nat × Alloc) => x0.2.want.cls == 2 && x0.2.want.tag == 0 && x0.2.want.owner == e)).map (fun (x0 : Nat × Alloc) => x0.2.held)).getD 0 ≠ 0 → Completes (.layerFrameComplete dt e filled) s (fun t => (t.dev.layerSt e).due = rest ∧ (t.dev.layerSt e).frames = (s.dev.layerSt e).frames + 1 ∧ (t.dev.layerSt e).ready.getLast? = some ⟨(s.dev.layerSt e).frames + 1, s.dev.wall + dt, made, filled⟩ ∧ t.dev.rd D.Layer.LOST_LINES e = min (s.dev.rd D.Layer.LOST_LINES e + (((filled.filter (fun (x0 : Nat × Nat × Nat) => x0.2.2 != 0)).map (fun (x0 : Nat × Nat × Nat) => x0.1)).eraseDups).length) (2 ^ 32 - 1))) ∧
  (∀ (s : State) (dt e c : Nat) (m : Merge) (r : Remote), s.dev.serving = true → e < 192 → s.dev.layerIn e = some c → (s.dev.flowSt c).cur = some m → s.dev.sourceInfo m.efn = some r → s.dev.running c = true → Completes (.layerRunStart dt e) s (fun t => (t.dev.layerSt e).format = r.format ∧ (t.dev.layerSt e).due = [])) ∧
  (∀ (s : State) (q : Rcp) (v x y pixel h p : Nat) (a : Alloc), v < 512 → x < 65536 → y < 65536 → pixel < 2 ^ 32 → s.dev.grantsDom q 0x1010 0x03 0 ⟨20, veneerHeader v x y 1 1 false * 256 ^ 4 + pixel⟩ = true → s.dev.on D.VeneerCfg.ENABLE v = true → s.dev.on D.VeneerCfg.DOUBLE v = false → x + 1 ≤ s.dev.rd D.VeneerCfg.WIDTH v → y + 1 ≤ s.dev.rd D.VeneerCfg.HEIGHT v → s.dev.veneerAlloc v = some (h, a) → Assoc.find s.dev.store.alloc h = some a → s.dev.store.copying = [] → s.dev.memQ = [] → a.addr ((y * s.dev.rd D.VeneerCfg.WIDTH v + x) * 4 / blockBytes) ((y * s.dev.rd D.VeneerCfg.WIDTH v + x) * 4 % blockBytes) = some p → p + 4 ≤ memSize → Completes (.veneerWrite q v x y 1 1 false pixel) s (fun t => t.dev.answered q St.OK = true ∧ Memory.readBytes t.mem p 4 = bytesOf 4 pixel ∧ (∀ b, b < p ∨ p + 4 ≤ b → Memory.read t.mem b = Memory.read s.mem b))) ∧
  (∀ (s : State) (q : Rcp) (v : Nat), v < 512 → s.dev.grants q 0x1000 0x07 ⟨4, 2 ^ 24 + v⟩ = true → s.dev.on D.VeneerCfg.ENABLE v = true → s.dev.on D.VeneerCfg.DOUBLE v = true → s.dev.on D.VeneerStatus.FLIP_PENDING v = false → s.dev.veneerHeads v = [] → Completes (.veneerFlip q v) s (fun t => t.dev.answered q St.OK = true ∧ t.dev.rd D.VeneerStatus.FRONT v = 1 - s.dev.rd D.VeneerStatus.FRONT v)) ∧
  (∀ (s : State) (q : Rcp) (e value : Nat), e < 192 → value < 65536 → s.dev.grants q (0x6000 + e) 0x09 ⟨2, value⟩ = true → bit value 15 = false ∨ bitsOf value 8 4 ≠ 0 → s.dev.pwrWarn = false → Completes (.tallyWrite q e value) s (fun t => t.dev.answered q St.OK = true ∧ t.dev.rd D.Layer.TALLY e = value)) ∧
  (∀ (s : State) (dt e : Nat), s.dev.serving = true → e < 192 → s.dev.on D.LayerStatus.ENGINE_FAILED e = false → s.dev.on D.LayerStatus.UNAVAILABLE e = false → Completes (.cmpEngineFail dt e) s (fun t => t.dev.on D.LayerStatus.ENGINE_FAILED e = true ∧ t.dev.raised.contains ⟨Src.CMP_ENGINE_FAIL, e, false⟩ = true))

/-- In service: at the instant of the current position the matrix computes it and the next becomes current; a de-embedder that may write shows the groups received and moves its writer one position on; a frame of an enabled serial port is sent with one slot for each slot the port has, on pins that R359 lays out, and the port shows RUNNING. Where the spec leaves a point open it rests on the model's choices and readings (assumption logs 139 and 140). -/
def Obligations.AudioCommandsComplete : Prop :=
  (∀ (s : State) (dt : Nat), s.dev.serving = true → instant s.dev.audio.pos ≤ (s.dev.elapse dt).now → Completes (.audioPosition dt) s (fun t => t.dev.audio.pos = s.dev.audio.pos + 1)) ∧
  (∀ (s : State) (dt lane groups : Nat) (words : List Nat), s.dev.serving = true → lane < 128 → s.dev.deembeds lane = true → (Assoc.find s.dev.audio.laneW lane).isNone = true → Completes (.audioSampleWrite dt lane groups words) s (fun t => t.dev.rd D.AudLaneStatus.GROUPS_PRESENT lane = groups % 256 ∧ Assoc.find t.dev.audio.laneW lane = some (s.dev.audio.pos + 13))) ∧
  (∀ (s : State) (dt port : Nat) (slots : List Nat) (half : Bool), s.dev.serving = true → port < 8 → s.dev.on D.SapCfg.ENABLE port = true → Completes (.sapFrame dt port slots half) s (fun t => t.dev.on D.SapStatus.RUNNING port = true ∧ t.dev.on D.SapStatus.LOCKED port = (s.dev.elapse dt).timeAligned (s.dev.rd D.SapCfg.DPLL port) ∧ t.dev.out.any (fun e => match e with | .sapFrame p l w0 => p == port && l.length == s.dev.sapSlots port && w0 == s.dev.sapWave port l | _ => false) = true))

/-- Outside a POR or COLD, a rate change that has been asked for 1,024 ns ago takes effect and leaves device time as it is at that instant; a step is counted; in host-assisted mode SERVO_CMD asks for its step or rate where no change waits and the rate stays within MAX_RATE_PPM. Where the spec leaves a point open it rests on the model's choices and readings (assumption logs 13 and 141). -/
def Obligations.DeviceTimeChangesComplete : Prop :=
  (∀ (s : State) (dt at0 : Nat) (v : Int), s.dev.inCold = false → s.dev.time.change = some ⟨false, v, at0, none⟩ → at0 + 1024 ≤ s.dev.wall + dt → Completes (.timeChangeover dt) s (fun t => t.dev.rd D.Time.RATE 0 = ofInt 64 v ∧ t.dev.now = (s.dev.elapse dt).now ∧ t.dev.time.change = none)) ∧
  (∀ (s : State) (dt at0 : Nat) (v : Int), s.dev.inCold = false → s.dev.time.change = some ⟨true, v, at0, none⟩ → at0 + 1024 ≤ s.dev.wall + dt → Completes (.timeChangeover dt) s (fun t => t.dev.now = ofInt 64 (((s.dev.elapse dt).now : Int) + v) ∧ t.dev.rd D.Time.STEPS 0 = (s.dev.rd D.Time.STEPS 0 + 1) % 2 ^ 32 ∧ t.dev.time.change = none)) ∧
  (∀ (s : State) (q : Rcp) (v : Int), -(2 ^ 63) ≤ v → v < 2 ^ 63 → s.dev.grants q 0x0600 0x08 ⟨9, 1 * 2 ^ 64 + ofInt 64 v⟩ = true → s.dev.rd D.Time.MODE 0 = 1 → s.dev.time.change = none → s.dev.rateOk (s.dev.rdI D.Time.RATE 0) = true → Completes (.servoCmdStep q v) s (fun t => t.dev.time.change.map (fun (x0 : Change) => (x0.step, x0.value)) = some (true, v))) ∧
  (∀ (s : State) (q : Rcp) (v : Int), -(2 ^ 63) ≤ v → v < 2 ^ 63 → s.dev.grants q 0x0600 0x08 ⟨9, 2 * 2 ^ 64 + ofInt 64 v⟩ = true → s.dev.rd D.Time.MODE 0 = 1 → s.dev.time.change = none → s.dev.rateOk v = true → Completes (.servoCmdSetRate q v) s (fun t => t.dev.time.change.map (fun (x0 : Change) => (x0.step, x0.value)) = some (false, v))) ∧
  (∀ (s : State) (q : Rcp) (v : Int), -(2 ^ 63) ≤ v → v < 2 ^ 63 → s.dev.grants q 0x0600 0x08 ⟨9, 3 * 2 ^ 64 + ofInt 64 v⟩ = true → s.dev.rd D.Time.MODE 0 = 1 → s.dev.time.change = none → s.dev.rateOk (s.dev.rdI D.Time.RATE 0 + v) = true → Completes (.servoCmdAddRate q v) s (fun t => t.dev.time.change.map (fun (x0 : Change) => (x0.step, x0.value)) = some (false, s.dev.rdI D.Time.RATE 0 + v)))

/-- A sample of the time source in force starts acquisition from FREE_RUN; a LOCKED servo without samples for 2 s goes to HOLDOVER with TIM_HOLDOVER raised; holdover ends in FREE_RUN; and an edge of an enabled time output that is not squelched drives its pin. Where the spec leaves a point open it rests on the model's choices and readings (assumption logs 101 and 141). -/
def Obligations.ServoCompletes : Prop :=
  (∀ (s : State) (dt src : Nat) (off : Int) (rest : List (Nat × Int)), s.dev.inReset = false → s.dev.time.samples = (src, off) :: rest → src = s.dev.timeSource → s.dev.sec.restarting ≠ some 4 → s.dev.rd D.Time.MODE 0 ≠ 1 → s.dev.servo = ServoState.FREE_RUN → Completes (.servoSample dt) s (fun t => t.dev.servo = ServoState.ACQUIRING ∧ t.dev.time.samples = rest ∧ t.dev.time.sampleAt = s.dev.wall + dt)) ∧
  (∀ (s : State) (dt : Nat), s.dev.inReset = false → (s.dev.elapse dt).past s.dev.time.sampleAt 2000000000 = true → s.dev.servo = ServoState.LOCKED → Completes (.servoSampleTimeout dt) s (fun t => t.dev.servo = ServoState.HOLDOVER ∧ t.dev.raised.contains ⟨Src.TIM_HOLDOVER, 0, false⟩ = true)) ∧
  (∀ (s : State) (dt : Nat), s.dev.inReset = false → s.dev.servo = ServoState.HOLDOVER → (s.dev.elapse dt).past s.dev.time.holdAt (s.dev.rd D.RefArea.TIME_HOLDOVER_MAX_S 0 * 1000000000) = true → Completes (.servoHoldoverExpiry dt) s (fun t => t.dev.servo = ServoState.FREE_RUN)) ∧
  (∀ (s : State) (dt o e : Nat), s.dev.serving = true → o < 3 → (nget s.dev.time.outs {} o).high = none → (s.dev.elapse dt).lastEdge o = some e → (nget s.dev.time.outs {} o).seen < e → (nget s.dev.time.outs {} o).from_ ≤ e → s.dev.pulseOn o = true → s.dev.squelched o = false → Completes (.timeOutputEdge dt o) s (fun t => t.dev.out = [Emission.pin o (s.dev.pulseLevel o true)] ∧ (nget t.dev.time.outs {} o).seen = (s.dev.elapse dt).now))

/-- In service, an Announce of the instance's domain is counted, a leader without Announce messages is forgotten, a Delay_Req goes out on the followed interface, a one-step Sync of the leader is stamped, a message relayed within 10 µs is counted and leaves on every other transparent-clock interface of a port that is UP with the correction R381 gives, and a leap second that is due ends its warning. Where the spec leaves a point open it rests on the model's choices and readings (assumption logs 53 and 141). -/
def Obligations.PtpCompletes : Prop :=
  (∀ (s : State) (dt iface : Nat) (a : Announce), s.dev.serving = true → s.dev.ptpOn iface = true → a.domain = s.dev.rd D.Ptp.DOMAIN 0 → Completes (.ptpAnnounceRx dt iface a) s (fun t => t.dev.rd D.PtpCounters.ANNOUNCE_RX 0 = min (s.dev.rd D.PtpCounters.ANNOUNCE_RX 0 + 1) (2 ^ 32 - 1))) ∧
  (∀ (s : State) (dt iface sender port : Nat) (l : Leader), s.dev.serving = true → s.dev.time.leaders.find? (fun (x0 : Leader) => x0.iface == iface && x0.ann.sender == sender && x0.ann.senderPort == port) = some l → (s.dev.elapse dt).past (l.times.foldl max 0) (s.dev.rd D.Ptp.ANNOUNCE_TIMEOUT 0 * annNs l.ann.logInterval) = true → Completes (.ptpLeaderLost dt iface sender port) s (fun t => t.dev.time.leaders.find? (fun (x0 : Leader) => x0.iface == iface && x0.ann.sender == sender && x0.ann.senderPort == port) = none)) ∧
  (∀ (s : State) (dt iface a b : Nat), s.dev.serving = true → s.dev.on D.Ptp.PTP_ENABLE 0 = true → s.dev.time.leader = some (iface, a, b) → s.dev.portUp (iface / 8) = true → Completes (.ptpDelayReqTx dt iface) s (fun t => t.dev.rd D.PtpCounters.DELAY_REQ_TX 0 = min (s.dev.rd D.PtpCounters.DELAY_REQ_TX 0 + 1) (2 ^ 32 - 1) ∧ t.dev.time.reqSeq = (s.dev.time.reqSeq + 1) % 65536)) ∧
  (∀ (s : State) (dt iface : Nat) (m : PtpMsg), s.dev.serving = true → iface < 256 → s.dev.ptpOn iface = true → m.domain = s.dev.rd D.Ptp.DOMAIN 0 → s.dev.time.leader = some (iface, m.sender, m.senderPort) → m.kind = 0 → m.twoStep = false → Completes (.ptpEventRx dt iface m) s (fun t => t.dev.time.sync = some (m.seq, (m.time : Int) * 65536 + m.corr, (s.dev.elapse dt).rxStamp (iface / 8)) ∧ t.dev.rd D.PtpCounters.SYNC_RX 0 = min (s.dev.rd D.PtpCounters.SYNC_RX 0 + 1) (2 ^ 32 - 1))) ∧
  (∀ (s : State) (dt iface kind domain seq rx i v : Nat) (corr : Int) (msg : TcMsg), s.dev.serving = true → s.dev.on D.Tc.TC_ENABLE 0 = true → s.dev.tcIface iface = true → domain = s.dev.rd D.Tc.TC_DOMAIN 0 → msg.sumOk = true → (tcTreats kind (s.dev.rd D.Tc.TC_MECH 0)).isSome = true → 0 ≤ sdiff (s.dev.elapse dt).now rx 64 → sdiff (s.dev.elapse dt).now rx 64 ≤ 10000 → i ≠ iface → s.dev.tcIface i = true → s.dev.ifVlan (i / 8) (i % 8) = some v → s.dev.portUp (i / 8) = true → Completes (.tcRelay dt iface kind domain seq rx corr msg) s (fun t => t.dev.rd D.Tc.TC_RELAYED 0 = min (s.dev.rd D.Tc.TC_RELAYED 0 + 1) (2 ^ 32 - 1) ∧ t.dev.out.any (fun x0 => match x0 with | .ptp p0 i0 m0 => p0 == i / 8 && i0 == i % 8 && m0.vlan == v && m0.kind == kind && m0.seq == seq && m0.corr == (if tcTreats kind (s.dev.rd D.Tc.TC_MECH 0) = some true then corr + sdiff (s.dev.elapse dt).now rx 64 * 65536 - psUnits (s.dev.rdI D.TsCorr.TX_DELAY_PS (i / 8)) - psUnits (s.dev.rdI D.TsCorr.RX_DELAY_PS (iface / 8)) + (if kind = 0 ∧ s.dev.rd D.Tc.TC_MECH 0 = 1 then (s.dev.rd D.Tc.MEAN_LINK_DELAY (iface / 8) : Int) * 65536 + s.dev.asym (iface / 8) else 0) else corr) | _ => false) = true)) ∧
  (∀ (s : State) (dt day : Nat), s.dev.serving = true → s.dev.time.leapDay = some day → s.dev.on D.PtpStatus.LEAP61 0 = true → day < ((s.dev.elapse dt).now / 1000000000 - s.dev.utcOffset) / 86400 → Completes (.leapSecond dt) s (fun t => t.dev.time.utc = some (s.dev.utcOffset + 1) ∧ t.dev.time.leapDay = none ∧ t.dev.on D.PtpStatus.LEAP61 0 = false))

/-- Outside resets, a phase event of a monitored reference, of an SDI lane while it is locked, is noted and counted; a QUALIFIED reference that stops is disqualified with cause 1 and is ABSENT; a measured frequency is kept; and a reference that has held off cleanly is QUALIFIED. Where the spec leaves a point open it rests on the model's choices and readings (assumption logs 56 and 142). -/
def Obligations.ReferencesComplete : Prop :=
  (∀ (s : State) (dt ref : Nat), ref < 132 → s.dev.refOn ref = true → s.dev.inReset = false → ref < 4 ∨ s.dev.on D.SdiRxStatus.LOCKED (ref - 4) = true → Completes (.refPhaseEvent dt ref) s (fun t => (t.dev.refSt ref).last = some (s.dev.wall + dt) ∧ (t.dev.refSt ref).count = (s.dev.refSt ref).count + 1)) ∧
  (∀ (s : State) (dt ref : Nat), ref < 132 → s.dev.refOn ref = true → s.dev.inReset = false → (s.dev.elapse dt).refStopped ref = true → s.dev.refState ref = RefState.QUALIFIED → Completes (.refStop dt ref) s (fun t => t.dev.refState ref = RefState.ABSENT ∧ t.dev.rd D.RefStatus.CAUSE ref = 1 ∧ t.dev.on D.RefSticky.DISQUALIFIED ref = true ∧ t.dev.on D.RefStatus.ACTIVE ref = false)) ∧
  (∀ (s : State) (dt r : Nat) (v : Int) (demand : List (Nat × Int)), r < 132 → s.dev.refOn r = true → s.dev.inReset = false → Completes (.refFreqUpdate dt [(r, v)] demand) s (fun t => (t.dev.refSt r).meas = some v)) ∧
  (∀ (s : State) (dt ref : Nat), ref < 133 → s.dev.refOn ref = true → s.dev.inReset = false → s.dev.refState ref = RefState.HOLDING_OFF → (s.dev.elapse dt).past (s.dev.refSt ref).holdAt (s.dev.rd D.RefCfg.HOLDOFF_S ref * 1000000000) = true → s.dev.on D.RefStatus.HARD ref = false → 4 ≤ ref ∨ s.dev.rd D.RefCfg.TYPE ref ≠ 1 → Completes (.refHoldoffElapsed dt ref) s (fun t => t.dev.refState ref = RefState.QUALIFIED ∧ t.dev.on D.RefSticky.QUALIFIED ref = true))

/-- Outside resets, a LOCKING DPLL within 100 ns for its span is LOCKED while its reference stays eligible and nothing reverts it; a measured switch makes the target current and starts LOCKING; expired holdover ends in FREE_RUN; a DPLL_CMD starts its phase move, answered OK, and a move that has covered its distance ends and is counted. Where the spec leaves a point open it rests on the model's choices and readings (assumption logs 56 and 142). -/
def Obligations.DpllsComplete : Prop :=
  (∀ (s : State) (dt k err : Nat), k < 8 → s.dev.inReset = false → s.dev.dpllState k = DpllState.LOCKING → err ≤ 100 → (s.dev.elapse dt).past (s.dev.dpllSt k).since 1000000000 = true → 16 ≤ (s.dev.elapse dt).eventsSince k (s.dev.rd D.DpllStatus.CURRENT k) → s.dev.on D.DpllStatus.FROZEN k = false → s.dev.eligible k (s.dev.rd D.DpllStatus.CURRENT k) = true → s.dev.rd D.RefArea.MODE 0 = 0 → s.dev.on D.DpllCfg.REVERTIVE k = false → Completes (.dpllLocked dt k err) s (fun t => t.dev.dpllState k = DpllState.LOCKED ∧ (t.dev.dpllSt k).err = err)) ∧
  (∀ (s : State) (dt k : Nat), k < 8 → s.dev.inReset = false → s.dev.dpllState k = DpllState.SWITCHING → (s.dev.elapse dt).past (s.dev.dpllSt k).since 1000000 = true → 4 ≤ (s.dev.elapse dt).eventsSince k (s.dev.rd D.DpllStatus.PENDING k) → s.dev.eligible k (s.dev.rd D.DpllStatus.PENDING k) = true → Completes (.dpllSwitchMeasured dt k) s (fun t => t.dev.dpllState k = DpllState.LOCKING ∧ t.dev.rd D.DpllStatus.CURRENT k = s.dev.rd D.DpllStatus.PENDING k ∧ t.dev.rd D.DpllCounters.SWITCHES k = min (s.dev.rd D.DpllCounters.SWITCHES k + 1) (2 ^ 32 - 1))) ∧
  (∀ (s : State) (dt k : Nat), k < 8 → s.dev.inReset = false → s.dev.dpllState k = DpllState.HOLDOVER → (s.dev.elapse dt).past (s.dev.dpllSt k).since (s.dev.rd D.DpllCfg.HOLDOVER_MAX_S k * 1000000000) = true → Completes (.dpllHoldoverExpiry dt k) s (fun t => t.dev.dpllState k = DpllState.FREE_RUN ∧ t.dev.raised.contains ⟨Src.REF_DPLL_FREE_RUN, k, false⟩ = true)) ∧
  (∀ (s : State) (q : Rcp) (k : Nat) (value : Int), k < 8 → value.natAbs ≤ 1000000000 → s.dev.grants q 0x0700 0x0D ⟨8, 2 ^ 56 + k * 2 ^ 48 + ofInt 32 value⟩ = true → s.dev.dpllState k ≠ DpllState.DISABLED → s.dev.dpllState k ≠ DpllState.SWITCHING → s.dev.on D.DpllStatus.PHASE_MOVING k = false → Completes (.dpllCmdPhaseStep q k value) s (fun t => t.dev.answered q St.OK = true ∧ (t.dev.dpllSt k).move = some (1, value, s.dev.wall + q.dt) ∧ t.dev.on D.DpllStatus.PHASE_MOVING k = true)) ∧
  (∀ (s : State) (q : Rcp) (k : Nat), k < 8 → s.dev.grants q 0x0700 0x0D ⟨8, 2 ^ 57 + k * 2 ^ 48⟩ = true → s.dev.dpllState k ≠ DpllState.DISABLED → s.dev.dpllState k ≠ DpllState.SWITCHING → s.dev.on D.DpllStatus.PHASE_MOVING k = false → Completes (.dpllCmdClearBuildout q k) s (fun t => t.dev.answered q St.OK = true ∧ (t.dev.dpllSt k).move = some (2, -(s.dev.rdI D.DpllStatus.BUILDOUT_NS k), s.dev.wall + q.dt))) ∧
  (∀ (s : State) (dt k t0 : Nat) (by0 : Int), k < 8 → s.dev.inReset = false → (s.dev.dpllSt k).move = some (1, by0, t0) → (s.dev.elapse dt).moved k = by0 → Completes (.dpllPhaseMoveDone dt k) s (fun t => (t.dev.dpllSt k).move = none ∧ t.dev.on D.DpllStatus.PHASE_MOVING k = false ∧ t.dev.rd D.DpllCounters.PHASE_STEPS k = min (s.dev.rd D.DpllCounters.PHASE_STEPS k + 1) (2 ^ 32 - 1)))

/-- A READ that its session may make answers OK with the entry's bytes, encrypted with the session's key for responses and a nonce of SESSION, 0x01 and SEQ with the header as additional data, and clears an RC entry; a WRITE of a CW entry opens the commit group with its value, one of the persistent RW entry DEVICE_LABEL takes effect and stands in the journal as a SINGLE record; the first READ_DOM segment takes a snapshot and answers its first bytes, a WRITE_DOM segment is kept, and one that is FIRST and LAST acts as one write; a transfer with a gap of 1 s ends. Where the spec leaves a point open it rests on the model's choices and readings (assumption logs 8, 11, 71 and 143). -/
def Obligations.RcpReadsAndWritesComplete : Prop :=
  (∀ (s : State) (q : Rcp) (ix sub : Nat) (r : Dict.Row) (x1 : Session), s.dev.takes q = true → s.dev.session? q.session = some x1 → Dict.row ix sub = some r → readFail (s.dev.asker q).role r = none → r.ty ≠ 13 ∧ r.size ≤ 1100 ∧ r.acc ≠ 3 → Completes (.read q ix sub) s (fun t => t.dev.out = [.response q.via q.peer q.port q.session q.seq q.op 0 ((s.dev.atBody q).object r ix) (some (deviceKey x1.key, gcmNonce q.session 1 q.seq))] ∧ t.dev.out.map Emission.datagram = [some ((rcpHeader 0x5243 1 0x80 q.session q.seq q.op 0 ((s.dev.atBody q).object r ix).len).app ⟨((s.dev.atBody q).object r ix).len + 16, Config.gcmSeal (deviceKey x1.key) (gcmNonce q.session 1 q.seq) (rcpHeader 0x5243 1 0x80 q.session q.seq q.op 0 ((s.dev.atBody q).object r ix).len) ((s.dev.atBody q).object r ix)⟩)])) ∧
  (∀ (s : State) (q : Rcp) (ix sub : Nat) (r : Dict.Row), s.dev.takes q = true → Dict.row ix sub = some r → readFail (s.dev.asker q).role r = none → r.ty ≠ 13 ∧ r.size ≤ 1100 ∧ r.acc = 3 → ix ≠ 0x0110 → Completes (.read q ix sub) s (fun t => t.dev.answered q St.OK = true ∧ (keysOf r ix).all (fun k => t.dev.ent k == Dict.dflt k) = true)) ∧
  (∀ (s : State) (q : Rcp) (ix sub : Nat) (v : Bytes) (r : Dict.Row), s.dev.grants q ix sub v = true → v.val < 256 ^ v.len → Dict.row ix sub = some r → r.acc = 4 ∧ r.elem = 0 → (s.dev.atBody q).guard ⟨ix, sub, 0⟩ v.val = none → s.dev.upd ≠ Upd.ACTIVATING → s.dev.rcp.group = none → storeBytes [(⟨ix, sub, 0⟩, v.val)] ≤ 8388608 → Completes (.write q ix sub v) s (fun t => t.dev.answered q St.OK = true ∧ t.dev.rcp.group = some ⟨q.session, [(⟨ix, sub, 0⟩, v.val)], (s.dev.elapse q.dt).wall⟩)) ∧
  (∀ (s : State) (q : Rcp) (v : Nat), s.dev.grants q 0 9 ⟨32, v⟩ = true → v < 2 ^ 256 → s.dev.pwrWarn = false → Completes (.write q 0 9 ⟨32, v⟩) s (fun t => t.dev.answered q St.OK = true ∧ t.dev.ent ⟨0, 9, 0⟩ = v ∧ t.dev.flash.gen = s.dev.flash.gen + 1 ∧ t.dev.flash.journal.getLast? = some ⟨3, s.dev.flash.gen + 1, s.dev.flash.gen + 1, [(⟨0, 9, 0⟩, v)]⟩)) ∧
  (∀ (s : State) (q : Rcp) (ix sub offset length : Nat) (r : Dict.Row), s.dev.takes q = true → Dict.row ix sub = some r → readFail (s.dev.asker q).role r = none → 11 ≤ r.ty ∧ r.acc ≠ 3 → 1 ≤ length ∧ length ≤ 1024 → offset ≤ (((s.dev.atBody q).setXfer q.session none false).object r ix).len → Completes (.readDom q ix sub 128 offset length) s (fun t => t.dev.answered q St.OK = true ∧ (t.dev.xfer q.session).1.map (fun x0 => (x0.write, x0.ix, x0.sub, x0.next)) = some (false, ix, sub, offset + min length ((((s.dev.atBody q).setXfer q.session none false).object r ix).len - offset)) ∧ t.dev.out = [.response q.via q.peer q.port q.session q.seq q.op 0 ((octets 4 (((s.dev.atBody q).setXfer q.session none false).object r ix).len).app (((((s.dev.atBody q).setXfer q.session none false).object r ix).drop offset).take (min length ((((s.dev.atBody q).setXfer q.session none false).object r ix).len - offset)))) (sealBack q)])) ∧
  (∀ (s : State) (q : Rcp) (ix sub offset : Nat) (v : Bytes), s.dev.takes q = true → s.dev.memQ = [] → s.dev.firstSegment (s.dev.asker q) ix sub offset v.len = none → 1 ≤ v.len ∧ v.len ≤ 1024 → v.val < 256 ^ v.len → Completes (.writeDom q ix sub 128 offset v) s (fun t => t.dev.answered q St.OK = true ∧ t.dev.xfer q.session = (some ⟨true, ix, sub, offset, offset + v.len, v.val, v.len, (s.dev.elapse q.dt).wall⟩, false) ∧ t.mem = s.mem)) ∧
  (∀ (s : State) (q : Rcp) (ix sub offset : Nat) (v : Bytes) (r : Dict.Row), s.dev.grantsDom q ix sub offset v = true → s.dev.memQ = [] → 1 ≤ v.len ∧ v.len ≤ 1024 → v.val < 256 ^ v.len → Dict.row ix sub = some r → r.acc = 4 ∧ r.elem = v.len ∧ 11 ≤ r.ty → (s.dev.atBody q).guard ⟨ix, sub, offset / v.len⟩ v.val = none → s.dev.upd ≠ Upd.ACTIVATING → s.dev.rcp.group = none → storeBytes [(⟨ix, sub, offset / v.len⟩, v.val)] ≤ 8388608 → Completes (.writeDom q ix sub 192 offset v) s (fun t => t.dev.answered q St.OK = true ∧ t.dev.rcp.group = some ⟨q.session, [(⟨ix, sub, offset / v.len⟩, v.val)], (s.dev.elapse q.dt).wall⟩ ∧ t.dev.xfer q.session = (none, false))) ∧
  (∀ (s : State) (dt session : Nat) (x1 : Transfer), (s.dev.xfer session).1 = some x1 → (s.dev.elapse dt).gapped x1 = true → Completes (.transferTimeout dt session) s (fun t => t.dev.xfer session = (none, true)))

/-- A COMMIT of the holder whose group passes every check answers OK and ends the group, as DISCARD, GROUP_ABORT and the idle time do; SUBSCRIBE adds a subscription and UNSUBSCRIBE removes it, a changed entry queues a NOTIFY frame and a queued frame leaves with the session's next count; CLOSE and the idle time end the session, KEEPALIVE keeps it; DISCOVER answers in a SESSION 0 frame; a MODE value waits and then takes effect; a gap that has stood for 100 ms discards the requests held behind it. Where the spec leaves a point open it rests on the model's choices and readings (assumption logs 72, 73, 74 and 75). -/
def Obligations.RcpSessionsComplete : Prop :=
  (∀ (s : State) (dt session : Nat) (x1 : Session), s.dev.session? session = some x1 → x1.held.isEmpty = false → x1.held.any (fun h => sdiff h.1 x1.last 32 == 1) = false → (s.dev.elapse dt).past x1.heldAt 100000000 = true → Completes (.heldRequestDiscard dt session) s (fun t => (t.dev.session? session).map (fun y => y.held) = some [])) ∧
  (∀ (s : State) (q : Rcp) (g : Group), s.dev.takes q = true → s.dev.rcp.group = some g → g.holder = q.session → s.dev.upd ≠ Upd.TRIAL → s.dev.pwrWarn = false → ((s.dev.atBody q).commitGroup g.staged).toOption.isSome = true → Completes (.commit q) s (fun t => t.dev.answered q St.OK = true ∧ t.dev.rcp.group = none)) ∧
  (∀ (s : State) (q : Rcp), s.dev.takes q = true → s.dev.groupHolder = q.session → Completes (.discard q) s (fun t => t.dev.answered q St.OK = true ∧ t.dev.rcp.group = none)) ∧
  (∀ (s : State) (q : Rcp) (v : Nat), s.dev.grants q 0x0100 0x0B ⟨1, v⟩ = true → v < 256 → Completes (.groupAbort q ⟨1, v⟩) s (fun t => t.dev.answered q St.OK = true ∧ t.dev.rcp.group = none)) ∧
  (∀ (s : State) (dt : Nat) (g : Group), s.dev.rcp.group = some g → (s.dev.elapse dt).past g.seenAt (s.dev.rd D.Rcp.GROUP_IDLE_S 0 * 1000000000) = true → Completes (.groupIdleDiscard dt) s (fun t => t.dev.rcp.group = none)) ∧
  (∀ (s : State) (q : Rcp) (first last minMs : Nat) (x1 : Session), s.dev.takes q = true → s.dev.session? q.session = some x1 → x1.subs.length < 64 → 10 ≤ minMs ∧ minMs ≤ 60000 → first ≤ last ∧ last ≤ 0xFFFF → Completes (.subscribe q first last minMs) s (fun t => t.dev.out = [.response q.via q.peer q.port q.session q.seq q.op 0 ⟨1, x1.freeSub⟩ (sealBack q)] ∧ (t.dev.session? q.session).map (fun y => y.subs.map (fun (b : Sub) => (b.id, b.first, b.last, b.minMs))) = some (x1.subs.map (fun (b : Sub) => (b.id, b.first, b.last, b.minMs)) ++ [(x1.freeSub, first, last, minMs)]))) ∧
  (∀ (s : State) (q : Rcp) (id : Nat) (x1 : Session), s.dev.takes q = true → s.dev.session? q.session = some x1 → x1.subs.any (fun b => b.id == id) = true → Completes (.unsubscribe q id) s (fun t => t.dev.answered q St.OK = true ∧ (t.dev.session? q.session).map (fun y => y.subs) = some (x1.subs.filter (fun b => b.id != id)) ∧ (t.dev.session? q.session).map (fun y => y.queue.any (fun n => n.sub == id)) = some false)) ∧
  (∀ (s : State) (dt session id : Nat) (x1 : Session) (b1 : Sub), s.dev.session? session = some x1 → x1.subs.find? (fun b => b.id == id) = some b1 → (fitting 1096 (((s.dev.elapse dt).snapshot b1.first b1.last x1.role).filter (fun e => !b1.seen.contains e))).isEmpty = false → (s.dev.elapse dt).intervalPast b1 b1.sentAt = true → x1.queue.length < 64 → Completes (.notifySend dt session id false) s (fun t => (t.dev.session? session).map (fun y => y.queue) = some (x1.queue ++ [⟨b1.id, (fitting 1096 (((s.dev.elapse dt).snapshot b1.first b1.last x1.role).filter (fun e => !b1.seen.contains e))).map (fun (n : Key × Nat) => (n.1.ix, n.1.sub))⟩]))) ∧
  (∀ (s : State) (dt session id : Nat) (x1 : Session) (b1 : Sub) (n1 : Note), s.dev.session? session = some x1 → x1.subs.find? (fun b => b.id == id) = some b1 → x1.queue.find? (fun n => n.sub == b1.id) = some n1 → (s.dev.elapse dt).intervalPast b1 b1.leftAt = true → s.dev.restarts 1 = false → Completes (.notifySend dt session id true) s (fun t => t.dev.out = [.notify x1.id (x1.count + 1) b1.id b1.lost (n1.items.map (fun (i : Nat × Nat) => (i.1, i.2, (s.dev.elapse dt).itemValue i.1 i.2))) (deviceKey x1.key, gcmNonce x1.id 2 (x1.count + 1))] ∧ (t.dev.session? session).map (fun y => (y.count, y.queue)) = some (x1.count + 1, x1.queue.erase n1))) ∧
  (∀ (s : State) (q : Rcp), s.dev.takes q = true → Completes (.close q) s (fun t => t.dev.answered q St.OK = true ∧ t.dev.session? q.session = none)) ∧
  (∀ (s : State) (q : Rcp), s.dev.takes q = true → Completes (.keepalive q) s (fun t => t.dev.answered q St.OK = true ∧ (t.dev.session? q.session).map (fun y => (y.last, y.via, y.peer, y.port)) = some (q.seq, q.via, q.peer, q.port))) ∧
  (∀ (s : State) (dt session : Nat) (x1 : Session), s.dev.session? session = some x1 → (s.dev.elapse dt).past x1.reqAt (s.dev.rd D.Rcp.SESSION_IDLE_S 0 * 1000000000) = true → Completes (.sessionIdleExpiry dt session) s (fun t => t.dev.session? session = none)) ∧
  (∀ (s : State) (q : Rcp) (multicast : Bool), s.dev.hears q = true → headerOk q = true ∧ s.dev.sealOk q = true ∧ q.session = 0 → multicast = true → q.via ≤ 1 → s.dev.restarts 1 = false → Completes (.discover q multicast) s (fun t => t.dev.out = [.response q.via q.peer q.port 0 q.seq q.op 0 (s.dev.elapse q.dt).discoverPayload none])) ∧
  (∀ (s : State) (q : Rcp) (ix v : Nat) (r : Dict.Row), s.dev.grants q ix 1 ⟨1, v⟩ = true → v < 256 → Dict.row ix 1 = some r → r.acc = 1 ∧ r.ty = 2 → s.dev.pwrWarn = false → v ≠ s.dev.ent ⟨ix, 1, 0⟩ → Completes (.modeWrite q ix ⟨1, v⟩) s (fun t => t.dev.answered q St.OK = true ∧ t.dev.rcp.waiting = s.dev.rcp.waiting.filter (fun (x0 : Nat × Nat) => x0.1 != ix) ++ [(ix, v)] ∧ t.dev.flash.gen = s.dev.flash.gen + 1)) ∧
  (∀ (s : State) (dt v : Nat), s.dev.rcp.waiting.find? (fun x0 => x0.1 == 0x0C00) = some (0x0C00, v) → s.dev.modeBusy 0x0C00 = false → Completes (.modeChangeEffect dt 0x0C00) s (fun t => t.dev.ent ⟨0x0C00, 1, 0⟩ = v ∧ t.dev.rcp.waiting = s.dev.rcp.waiting.filter (fun (x0 : Nat × Nat) => x0.1 != 0x0C00)))

/-- A first HELLO segment begins an exchange and is acknowledged, a CHALLENGE segment is sent when fetched, a RESPONSE segment that is not the last is kept and acknowledged, and an exchange without a frame for 5 s is discarded; a management port reports the speed and address of its link, trains again without it, and with SPEED AUTO tries the next speed after 2 s; a committed management change takes effect in its time and is reverted where nobody confirms it; a journal 75 % full is compacted. Where the spec leaves a point open it rests on the model's choices and readings (assumption logs 71, 76 and 77). -/
def Obligations.OpenAndManagementComplete : Prop :=
  (∀ (s : State) (q : Rcp) (id : Nat) (v : Bytes), s.dev.hears q = true → headerOk q = true ∧ s.dev.sealOk q = true ∧ q.session = 0 → s.dev.opensOk = true ∧ s.dev.restarts 1 = false ∧ s.dev.restarts 5 = false → 1 ≤ v.len ∧ v.len ≤ 1024 → s.dev.openEx q id = none → s.dev.rcp.opens.length < 4 → s.dev.rcp.sessions.length < 16 → Completes (.openHello q id 0 1988 v) s (fun t => t.dev.rcp.opens.length = s.dev.rcp.opens.length + 1 ∧ (t.dev.openEx q id).map (fun y => (y.stage, y.hello, y.helloLen)) = some (0, v.val % 256 ^ v.len, v.len) ∧ t.dev.out = [.response q.via q.peer q.port 0 q.seq q.op 0 (openPayload id 1 0 1988 ⟨0, 0⟩) none])) ∧
  (∀ (s : State) (q : Rcp) (id offset : Nat) (x1 : OpenEx), s.dev.hears q = true → headerOk q = true ∧ s.dev.sealOk q = true ∧ q.session = 0 → s.dev.opensOk = true ∧ s.dev.restarts 1 = false → s.dev.openEx q id = some x1 → x1.stage = 1 → offset < 6481 → Completes (.openChallengeFetch q id offset) s (fun t => t.dev.out = [.response q.via q.peer q.port 0 q.seq q.op 0 (openPayload id 2 offset 6481 ⟨min 1024 (6481 - offset), bytesAt 6481 x1.challenge offset (min 1024 (6481 - offset))⟩) none])) ∧
  (∀ (s : State) (q : Rcp) (id : Nat) (v : Bytes) (x1 : OpenEx), s.dev.hears q = true → headerOk q = true ∧ s.dev.sealOk q = true ∧ q.session = 0 → s.dev.opensOk = true ∧ s.dev.restarts 1 = false → s.dev.openEx q id = some x1 → x1.stage = 1 ∧ x1.respLen = 0 → 1 ≤ v.len ∧ v.len ≤ 1024 → Completes (.openResponse q id 0 7809 v) s (fun t => (t.dev.openEx q id).map (fun y => (y.resp, y.respLen, y.respTotal)) = some (joined x1.resp v.val v.len, v.len, 7809) ∧ t.dev.out = [.response q.via q.peer q.port 0 q.seq q.op 0 (openPayload id 3 0 7809 ⟨0, 0⟩) none])) ∧
  (∀ (s : State) (dt : Nat), Completes (.openExchangeTimeout dt) s (fun t => t.dev.rcp.opens = s.dev.rcp.opens.filter (fun x0 => decide ((s.dev.elapse dt).wall < x0.seenAt + 5000000000)))) ∧
  (∀ (s : State) (dt port speed : Nat), port ≤ 1 → s.dev.listens port = true → s.dev.mgField port D.MgCfg.ENABLE = 1 → speed = s.dev.mgTries port → speed ≤ 2 → s.dev.rd D.MgStatus.LINK port ≠ 2 → s.dev.mgField port D.MgCfg.IPV4_ADDR ≠ 0 → Completes (.mgLinkUp dt port speed) s (fun t => t.dev.rd D.MgStatus.LINK port = 2 ∧ t.dev.rd D.MgStatus.SPEED_IN_USE port = speed ∧ t.dev.rd D.MgStatus.IPV4_IN_USE port = s.dev.mgField port D.MgCfg.IPV4_ADDR)) ∧
  (∀ (s : State) (dt port speed : Nat), port ≤ 1 → s.dev.listens port = true → s.dev.mgField port D.MgCfg.ENABLE = 1 → speed = s.dev.mgTries port → speed ≤ 2 → s.dev.rd D.MgStatus.LINK port ≠ 2 → s.dev.mgField port D.MgCfg.IPV4_ADDR = 0 ∧ s.dev.mgField port D.MgCfg.IPV4_LL = 1 → Completes (.mgLinkUp dt port speed) s (fun t => t.dev.rd D.MgStatus.LINK port = 2 ∧ t.dev.on D.MgStatus.IPV4_LL_IN_USE port = true ∧ t.dev.rd D.MgStatus.IPV4_IN_USE port / 65536 = 169 * 256 + 254)) ∧
  (∀ (s : State) (dt port : Nat), port ≤ 1 → s.dev.listens port = true → s.dev.rd D.MgStatus.LINK port = 2 → Completes (.mgLinkDown dt port) s (fun t => t.dev.rd D.MgStatus.LINK port = (if s.dev.mgField port D.MgCfg.ENABLE = 1 then 1 else 0) ∧ t.dev.rd D.MgStatus.IPV4_IN_USE port = 0)) ∧
  (∀ (s : State) (dt port n0 t0 : Nat), port ≤ 1 → s.dev.listens port = true → s.dev.mgField port D.MgCfg.ENABLE = 1 ∧ s.dev.mgField port D.MgCfg.SPEED = 3 → s.dev.rd D.MgStatus.LINK port ≠ 2 → nget s.dev.rcp.tries (2, 0) port = (n0, t0) → (s.dev.elapse dt).past t0 2000000000 = true → Completes (.mgSpeedTryTimeout dt port) s (fun t => t.dev.mgTries port = (if n0 = 0 then 2 else n0 - 1))) ∧
  (∀ (s : State) (dt at_ : Nat) (m : MgNet), s.dev.rcp.next = some (m, at_) → at_ ≤ (s.dev.elapse dt).wall → s.dev.inReset = false → Completes (.mgCfgEffect dt) s (fun t => t.dev.rcp.inUse = m ∧ t.dev.rcp.next = none ∧ t.dev.rcp.test.isSome = (s.dev.rd D.Rcp.MG_CONFIRM_S 0 != 0) ∧ t.dev.on D.MgStatus.CONFIRM_PENDING 1 = (s.dev.rd D.Rcp.MG_CONFIRM_S 0 != 0))) ∧
  (∀ (s : State) (dt at_ : Nat) (m : MgNet), s.dev.rcp.test = some (m, at_) → at_ ≤ (s.dev.elapse dt).wall → s.dev.inReset = false → s.dev.pwrWarn = false → Completes (.rcpMgReverted dt) s (fun t => t.dev.rcp.inUse = m ∧ t.dev.rcp.test = none ∧ t.dev.flash.gen = s.dev.flash.gen + 2 ∧ t.dev.on D.MgStatus.CONFIRM_PENDING 0 = false ∧ t.dev.raised.contains ⟨Src.RCP_MG_REVERTED, 0, false⟩ = true)) ∧
  (∀ (s : State) (dt : Nat), 75 ≤ s.dev.journalPct → s.dev.pwrWarn = false → s.dev.inReset = false → Completes (.journalCompaction dt) s (fun t => t.dev.flash.journal = [] ∧ t.dev.flash.used = 0 ∧ t.dev.rd D.Rcp.JOURNAL_USED_PCT 0 = 0 ∧ t.dev.flash.gen = s.dev.flash.gen))

/-- With the flash writable, a granted OWNER_CMD is answered with the outcome of R444's checks and a new nonce is drawn; where they pass, ENROL and TRANSFER leave the device owned and RELEASE leaves it unowned. A write of ATTEST_NONCE makes the quote of the state at the write, answered OK. A DEBUG_TOKEN is accepted exactly when it names this device, the current nonce and carries the owner's signature. The enrolment window closes after 600 s. (Signature verification is a constant without a body.) Where the spec leaves a point open it rests on the model's choices and readings (assumption logs 8, 82 and 144). -/
def Obligations.SecurityCommandsComplete : Prop :=
  (∀ (s : State) (q : Rcp) (nonce policy pub sig : Nat), s.dev.grantsDom q 0x0200 0x08 0 ⟨8644, ownerValue 1 nonce policy pub sig 0⟩ = true → s.dev.pwrWarn = false → Completes (.ownerCmdEnrol q nonce policy pub sig) s (fun t => t.dev.answered q ((s.dev.atBody q).ownerCheck (s.dev.asker q) (ownerValue 1 nonce policy pub sig 0)) = true ∧ t.dev.on D.Sec.OWNER_STATE 0 = (if (s.dev.atBody q).ownerCheck (s.dev.asker q) (ownerValue 1 nonce policy pub sig 0) = St.OK then true else s.dev.on D.Sec.OWNER_STATE 0) ∧ t.dev.freeIdx = s.dev.freeIdx + 1)) ∧
  (∀ (s : State) (q : Rcp) (nonce policy pub newSig ownerSig : Nat), s.dev.grantsDom q 0x0200 0x08 0 ⟨8644, ownerValue 2 nonce policy pub newSig ownerSig⟩ = true → s.dev.pwrWarn = false → Completes (.ownerCmdTransfer q nonce policy pub newSig ownerSig) s (fun t => t.dev.answered q ((s.dev.atBody q).ownerCheck (s.dev.asker q) (ownerValue 2 nonce policy pub newSig ownerSig)) = true ∧ t.dev.on D.Sec.OWNER_STATE 0 = (if (s.dev.atBody q).ownerCheck (s.dev.asker q) (ownerValue 2 nonce policy pub newSig ownerSig) = St.OK then true else s.dev.on D.Sec.OWNER_STATE 0) ∧ t.dev.freeIdx = s.dev.freeIdx + 1)) ∧
  (∀ (s : State) (q : Rcp) (nonce ownerSig : Nat), s.dev.grantsDom q 0x0200 0x08 0 ⟨8644, ownerValue 3 nonce 0 0 0 ownerSig⟩ = true → s.dev.pwrWarn = false → Completes (.ownerCmdRelease q nonce ownerSig) s (fun t => t.dev.answered q ((s.dev.atBody q).ownerCheck (s.dev.asker q) (ownerValue 3 nonce 0 0 0 ownerSig)) = true ∧ t.dev.on D.Sec.OWNER_STATE 0 = (if (s.dev.atBody q).ownerCheck (s.dev.asker q) (ownerValue 3 nonce 0 0 0 ownerSig) = St.OK then false else s.dev.on D.Sec.OWNER_STATE 0) ∧ t.dev.freeIdx = s.dev.freeIdx + 1)) ∧
  (∀ (s : State) (dt t0 : Nat), s.dev.sec.windowAt = some t0 → (s.dev.elapse dt).past t0 600000000000 = true → Completes (.enrolWindowExpiry dt) s (fun t => t.dev.sec.windowAt = none ∧ t.dev.enrolLeft = 0)) ∧
  (∀ (s : State) (q : Rcp) (nonce : Nat), s.dev.grants q 0x0200 0x0B ⟨32, nonce⟩ = true → Completes (.attestNonce q nonce) s (fun t => t.dev.answered q St.OK = true ∧ t.dev.sec.quote = some ((s.dev.atBody q).quoteBody nonce * 2 ^ 26472 + Config.identitySign ⟨392, (s.dev.atBody q).quoteBody nonce⟩ % 2 ^ 26472))) ∧
  (∀ (s : State) (q : Rcp) (serial nonce sig : Nat), s.dev.grantsDom q 0x0200 0x0F 0 ⟨3360, pack [(128, serial), (256, nonce), (26472, sig), (24, 0)]⟩ = true → s.dev.on D.Policy.DEBUG_ALLOWED 0 = true → serial < 2 ^ 128 → nonce < 2 ^ 256 → sig < 2 ^ 26472 → s.dev.rd D.Sec.DEBUG_STATE 0 = 0 → Completes (.debugToken q serial nonce sig) s (fun t => t.dev.answered q (if serial = Config.serial ∧ nonce = s.dev.rd D.Sec.OWNER_NONCE 0 ∧ Config.mldsaVerify (s.dev.rd D.Sec.OWNER_PUBLIC 0) ⟨48, serial * 2 ^ 256 + nonce⟩ sig = true then St.OK else St.AUTH) = true ∧ t.dev.rd D.Sec.DEBUG_STATE 0 = (if serial = Config.serial ∧ nonce = s.dev.rd D.Sec.OWNER_NONCE 0 ∧ Config.mldsaVerify (s.dev.rd D.Sec.OWNER_PUBLIC 0) ⟨48, serial * 2 ^ 256 + nonce⟩ sig = true then 1 else 0)))

/-- For who may update: BEGIN in IDLE opens the session; an acceptable manifest of the right form and security version is kept by the target slot, another refused with AUTH, and LAST_RESULT shows which; an image of the manifest's length and digest is kept, another digest refused with AUTH; END with every image makes the slot READY; ABORT and the idle time leave it EMPTY; in recovery the end of an interval opens the session of the best candidate. Where the spec leaves a point open it rests on the model's choices and readings (assumption logs 79, 80 and 143). -/
def Obligations.UpdateSessionsComplete : Prop :=
  (∀ (s : State) (q : Rcp), s.dev.grants q 0x0300 2 ⟨4, 2 ^ 24⟩ = true → s.dev.updateWho (s.dev.asker q) = none → s.dev.upd = Upd.IDLE → s.dev.rst.recovery = false → Completes (.updateBegin q) s (fun t => t.dev.answered q St.OK = true ∧ t.dev.upd = Upd.RECEIVING ∧ t.dev.rd D.Upd.UPDATE_HOLDER 0 = q.session % 2 ^ 32 ∧ t.dev.slot t.dev.targetSlot = {})) ∧
  (∀ (s : State) (q : Rcp) (v : Nat), s.dev.grantsDom q 0x0300 6 0 ⟨6976, v⟩ = true → s.dev.updateWho (s.dev.asker q) = none → s.dev.upd = Upd.RECEIVING → manifestForm v = true → s.dev.sec.arc ≤ manSvn v → Completes (.manifestIn q v) s (fun t => t.dev.answered q (if s.dev.acceptable false v = true then St.OK else St.AUTH) = true ∧ t.dev.rd D.Upd.LAST_RESULT 0 = (if s.dev.acceptable false v = true then St.OK else St.AUTH) ∧ (t.dev.slot t.dev.targetSlot).manifest = (if s.dev.acceptable false v = true then some v else (s.dev.slot s.dev.targetSlot).manifest))) ∧
  (∀ (s : State) (q : Rcp) (kind m : Nat) (v : Bytes), s.dev.grantsDom q 0x0301 kind 0 v = true → s.dev.updateWho (s.dev.asker q) = none → s.dev.upd = Upd.RECEIVING → (s.dev.slot s.dev.targetSlot).manifest = some m → v.len = imgField m (kind - 1) 20 4 → Completes (.imageWrite q kind v) s (fun t => t.dev.answered q (if digest v.len v.val = imgField m (kind - 1) 32 32 then St.OK else St.AUTH) = true ∧ (t.dev.slot t.dev.targetSlot).images.contains (kind, v) = ((s.dev.slot s.dev.targetSlot).images.contains (kind, v) || decide (digest v.len v.val = imgField m (kind - 1) 32 32)))) ∧
  (∀ (s : State) (q : Rcp), s.dev.grants q 0x0300 2 ⟨4, 2 * 2 ^ 24⟩ = true → s.dev.updateWho (s.dev.asker q) = none → s.dev.upd = Upd.RECEIVING → s.dev.imagesOk s.dev.targetSlot = true → Completes (.updateEnd q) s (fun t => t.dev.answered q St.OK = true ∧ t.dev.upd = Upd.IDLE ∧ (t.dev.slot t.dev.targetSlot).state = ImgState.READY ∧ (t.dev.slot t.dev.targetSlot).manifest = (s.dev.slot s.dev.targetSlot).manifest)) ∧
  (∀ (s : State) (q : Rcp), s.dev.grants q 0x0300 2 ⟨4, 3 * 2 ^ 24⟩ = true → s.dev.updateWho (s.dev.asker q) = none → s.dev.upd = Upd.RECEIVING → Completes (.updateAbort q) s (fun t => t.dev.answered q St.OK = true ∧ t.dev.upd = Upd.IDLE ∧ t.dev.slot t.dev.targetSlot = {})) ∧
  (∀ (s : State) (dt : Nat), s.dev.upd = Upd.RECEIVING → (s.dev.elapse dt).past s.dev.sec.heardAt (s.dev.rd D.Upd.UPDATE_IDLE_S 0 * 1000000000) = true → Completes (.updateIdleExpiry dt) s (fun t => t.dev.upd = Upd.IDLE ∧ t.dev.slot t.dev.targetSlot = {} ∧ t.dev.rd D.Upd.UPDATE_HOLDER 0 = 0)) ∧
  (∀ (s : State) (dt m : Nat) (c : Candidate), s.dev.inReset = false → s.dev.rst.recovery = true → (s.dev.elapse dt).past s.dev.sec.intervalAt 1000000000 = true → s.dev.upd = Upd.IDLE → bestCandidate s.dev.sec.candidates s.dev.sec.intervalAt = some (c, m) → Completes (.recoveryIntervalEnd dt) s (fun t => t.dev.upd = Upd.RECEIVING ∧ t.dev.rd D.Upd.UPDATE_HOLDER 0 = c.session % 2 ^ 32 ∧ (t.dev.slot t.dev.targetSlot).manifest = some m))

/-- For who may update, outside recovery and in IDLE: ACTIVATE_IN_SERVICE and ACTIVATE_RESTART answer the outcome of Table 16.13's check, and where it passes the first activates (or starts the trial when no image differs) and the second arms the restart. A step in time adds its image to those replaced; a late one ends the activation, raised. ACCEPT of a trial confirms the trial slot, REJECT falls back, RECOVER is answered OK and the next start is a recovery; the end of the trial time accepts or falls back by AUTO_ACCEPT; a live fallback ends in IDLE; the copy to slot R ends READY. Where the spec leaves a point open it rests on the model's choices and readings (assumption logs 79, 80 and 143). -/
def Obligations.ActivationCompletes : Prop :=
  (∀ (s : State) (q : Rcp), s.dev.grants q 0x0300 2 ⟨4, 4 * 2 ^ 24⟩ = true → s.dev.updateWho (s.dev.asker q) = none → s.dev.upd = Upd.IDLE → s.dev.rst.recovery = false → Completes (.activateInService q) s (fun t => t.dev.answered q (s.dev.activateCheck true) = true ∧ t.dev.upd = (if s.dev.activateCheck true = St.OK then (if s.dev.kindsToDo s.dev.targetSlot = [] then Upd.TRIAL else Upd.ACTIVATING) else Upd.IDLE) ∧ t.dev.rd D.Upd.LAST_RESULT 0 = s.dev.activateCheck true)) ∧
  (∀ (s : State) (dt k : Nat), s.dev.sec.restarting = some k → s.dev.upd = Upd.ACTIVATING → s.dev.wall + dt ≤ s.dev.sec.stepAt + stepBound k → Completes (.activationStepDone dt) s (fun t => t.dev.sec.steps = s.dev.sec.steps ++ [k] ∧ t.dev.sec.source = s.dev.sec.source.set (k - 1) s.dev.boot.trial)) ∧
  (∀ (s : State) (dt k : Nat), s.dev.sec.restarting = some k → s.dev.upd = Upd.ACTIVATING → (s.dev.elapse dt).past s.dev.sec.stepAt (stepBound k) = true → Completes (.activationStepTimeout dt) s (fun t => t.dev.upd = Upd.IDLE ∧ t.dev.sec.source = s.dev.sec.before ∧ t.dev.sec.restarting = none ∧ t.dev.raised.contains ⟨Src.MGT_FW_FALLBACK, 0, false⟩ = true)) ∧
  (∀ (s : State) (q : Rcp), s.dev.grants q 0x0300 2 ⟨4, 5 * 2 ^ 24⟩ = true → s.dev.updateWho (s.dev.asker q) = none → s.dev.upd = Upd.IDLE → s.dev.rst.recovery = false → Completes (.activateRestart q) s (fun t => t.dev.answered q (s.dev.activateCheck false) = true ∧ t.dev.upd = (if s.dev.activateCheck false = St.OK then Upd.ARMED else Upd.IDLE) ∧ t.dev.rd D.Upd.LAST_RESULT 0 = s.dev.activateCheck false)) ∧
  (∀ (s : State) (q : Rcp), s.dev.grants q 0x0300 2 ⟨4, 6 * 2 ^ 24⟩ = true → s.dev.updateWho (s.dev.asker q) = none → s.dev.upd = Upd.TRIAL → Completes (.updateAccept q) s (fun t => t.dev.answered q St.OK = true ∧ t.dev.upd = Upd.IDLE ∧ t.dev.boot.confirmed = s.dev.boot.trial ∧ t.dev.boot.trial = 0xFF)) ∧
  (∀ (s : State) (q : Rcp), s.dev.grants q 0x0300 2 ⟨4, 7 * 2 ^ 24⟩ = true → s.dev.updateWho (s.dev.asker q) = none → s.dev.upd = Upd.TRIAL → Completes (.updateReject q) s (fun t => t.dev.answered q St.OK = true ∧ t.dev.upd = Upd.FALLING_BACK)) ∧
  (∀ (s : State) (q : Rcp), s.dev.grants q 0x0300 2 ⟨4, 8 * 2 ^ 24⟩ = true → s.dev.updateWho (s.dev.asker q) = none → Completes (.updateRecover q) s (fun t => t.dev.answered q St.OK = true ∧ t.dev.rst.recoverNext = true)) ∧
  (∀ (s : State) (dt : Nat), s.dev.inReset = false → s.dev.pwrWarn = false → s.dev.upd = Upd.TRIAL → (s.dev.elapse dt).past s.dev.sec.trialAt (s.dev.rd D.Upd.TRIAL_S 0 * 1000000000) = true → Completes (.trialTimerEnd dt) s (fun t => t.dev.upd = (if s.dev.on D.Upd.AUTO_ACCEPT 0 = true then Upd.IDLE else Upd.FALLING_BACK))) ∧
  (∀ (s : State) (dt : Nat), s.dev.inReset = false → s.dev.upd = Upd.FALLING_BACK → s.dev.sec.trialKind = 1 → Completes (.fallbackDone dt) s (fun t => t.dev.upd = Upd.IDLE ∧ t.dev.sec.trialKind = 0 ∧ t.dev.sec.source = s.dev.sec.before)) ∧
  (∀ (s : State) (dt : Nat), s.dev.inReset = false → s.dev.sec.copying = true → Completes (.slotRCopyDone dt) s (fun t => (t.dev.slot 2).state = ImgState.READY ∧ (t.dev.slot 2).manifest = (s.dev.slot s.dev.boot.confirmed).manifest ∧ t.dev.sec.copying = false))

/-- Outside POR and COLD, a raising event of a named source sets PENDING, counts, and records instance and device time; the end of a source's only condition clears ACTIVE and leaves PENDING; ERR_N that has been low for ERRN_MIN_US with nothing holding it is released. Where the spec leaves a point open it rests on the model's choices and readings (assumption logs 4, 84 and 85). -/
def Obligations.FaultEventsComplete : Prop :=
  (∀ (s : State) (dt src inst : Nat) (lasting : Bool), s.dev.inCold = false → sourceNamed src = true → Completes (.faultLatch dt src inst lasting) s (fun t => t.dev.on D.SourceStatus.PENDING src = true ∧ t.dev.rd D.SourceStatus.COUNT src = min (s.dev.rd D.SourceStatus.COUNT src + 1) (2 ^ 32 - 1) ∧ t.dev.rd D.SourceStatus.INSTANCE src = inst % 2 ^ 16 ∧ t.dev.rd D.SourceStatus.LAST_TIME src = (s.dev.elapse dt).now)) ∧
  (∀ (s : State) (dt src inst : Nat), s.dev.inCold = false → sourceNamed src = true → s.dev.flt.active.any (fun a => a.1 == src && a.2 != inst) = false → Completes (.faultConditionEnd dt src inst) s (fun t => t.dev.on D.SourceStatus.ACTIVE src = false ∧ t.dev.on D.SourceStatus.PENDING src = s.dev.on D.SourceStatus.PENDING src)) ∧
  (∀ (s : State) (dt : Nat), s.dev.flt.errnLow = true → s.dev.errPending = false → s.dev.flt.reloadAt = none → s.dev.rst.asserted.any (fun r => decide (r.reach = 0)) = false → (s.dev.elapse dt).past s.dev.flt.errnAt (s.dev.rd D.Flt.ERRN_MIN_US 0 * 1000) = true → Completes (.errnMinExpiry dt) s (fun t => t.dev.flt.errnLow = false ∧ t.dev.on D.Flt.ERRN_STATE 0 = false ∧ t.dev.out = [.pin Pin.ERR_N 1]))

/-- A granted FAULT_CMD answers OK: CLEAR clears PENDING of a named source whose condition has ended, CLEAR_GROUP and CLEAR_ALL clear it for every source of their scope without a standing condition, FIRST_CLEAR clears the capture and the headstock's SUMMARY_CLEAR the summary, which a capture of its own that stands enters again (the model's reading of R488, assumption log 146); from HOST on, BLKRST (short of the storm limit) and CHIPRST ask for the reset, and INJECT where it is allowed latches the source as INJECTED and raises FLT_INJECTED. -/
def Obligations.FaultCommandsComplete : Prop :=
  (∀ (s : State) (q : Rcp) (src : Nat), s.dev.grants q 0x0400 2 ⟨8, faultValue 1 src 0⟩ = true → sourceNamed src = true → s.dev.on D.SourceStatus.ACTIVE src = false → Completes (.faultCmdClear q src) s (fun t => t.dev.answered q St.OK = true ∧ t.dev.on D.SourceStatus.PENDING src = false ∧ t.dev.on D.SourceStatus.SAFE_HOLDING src = false)) ∧
  (∀ (s : State) (q : Rcp) (src : Nat), s.dev.grants q 0x0400 2 ⟨8, faultValue 2 src 0⟩ = true → src < 400 → Completes (.faultCmdClearGroup q src) s (fun t => t.dev.answered q St.OK = true ∧ (List.range 16).all (fun i => t.dev.on D.SourceStatus.PENDING (src / 16 * 16 + i) == (s.dev.on D.SourceStatus.ACTIVE (src / 16 * 16 + i) && s.dev.on D.SourceStatus.PENDING (src / 16 * 16 + i))) = true)) ∧
  (∀ (s : State) (q : Rcp), s.dev.grants q 0x0400 2 ⟨8, faultValue 3 0 0⟩ = true → Completes (.faultCmdClearAll q) s (fun t => t.dev.answered q St.OK = true ∧ Src.table.all (fun x0 => t.dev.on D.SourceStatus.PENDING x0.1 == (s.dev.on D.SourceStatus.ACTIVE x0.1 && s.dev.on D.SourceStatus.PENDING x0.1)) = true)) ∧
  (∀ (s : State) (q : Rcp), s.dev.grants q 0x0400 2 ⟨8, faultValue 4 0 0⟩ = true → Completes (.faultCmdFirstClear q) s (fun t => t.dev.answered q St.OK = true ∧ t.dev.ent (D.FirstError.VALID.key 0) = 0)) ∧
  (∀ (s : State) (q : Rcp), s.dev.grants q 0x0400 2 ⟨8, faultValue 5 0 0⟩ = true → s.dev.on D.Straps.HEAD 0 = true → Completes (.faultCmdSummaryClear q) s (fun t => t.dev.answered q St.OK = true ∧ t.dev.on D.Summary.VALID 0 = s.dev.on D.FirstError.VALID 0 ∧ (s.dev.on D.FirstError.VALID 0 = true ∨ t.dev.ent (D.Summary.VALID.key 0) = 0))) ∧
  (∀ (s : State) (q : Rcp) (src inst : Nat), s.dev.grants q 0x0400 2 ⟨8, faultValue 6 src inst⟩ = true → 3 ≤ (s.dev.asker q).role → sourceNamed src = true → src < 512 → inst < 65536 → s.dev.flt.blk.length < 3 → Completes (.faultCmdBlkrst q src inst) s (fun t => t.dev.answered q St.OK = true ∧ t.dev.rst.entering.length = s.dev.rst.entering.length + 1)) ∧
  (∀ (s : State) (q : Rcp) (src : Nat), s.dev.grants q 0x0400 2 ⟨8, faultValue 7 src 0⟩ = true → 3 ≤ (s.dev.asker q).role → Completes (.faultCmdChiprst q src) s (fun t => t.dev.answered q St.OK = true ∧ t.dev.rst.entering.map (fun (r : Reset) => (r.reach, r.src)) = s.dev.rst.entering.map (fun (r : Reset) => (r.reach, r.src)) ++ [(Reach.WARM, 5)])) ∧
  (∀ (s : State) (q : Rcp) (src inst : Nat), s.dev.grants q 0x0400 2 ⟨8, faultValue 8 src inst⟩ = true → 3 ≤ (s.dev.asker q).role → s.dev.injectAllowed = true → sourceNamed src = true → src < 512 → inst < 65536 → Completes (.faultCmdInject q src inst) s (fun t => t.dev.answered q St.OK = true ∧ t.dev.on D.SourceStatus.PENDING src = true ∧ t.dev.on D.SourceStatus.INJECTED src = true ∧ t.dev.raised.contains ⟨Src.FLT_INJECTED, 0, false⟩ = true))

/-- PORST_N low for 250 ns, and a supply fault that lasts, put a POR in force at once; RST_N low from outside for 250 ns, RESET_CMD COLD, WARM and DOMAIN, and a watchdog expiry each add one request, with the reach and source code of Table 18.3, behind those already in their entry delay. Where the spec leaves a point open it rests on the model's choices and readings (assumption logs 2, 86 and 112). -/
def Obligations.ResetSourcesComplete : Prop :=
  (∀ (s : State) (dt low : Nat), 250 ≤ low → Completes (.porstAssert dt low) s (fun t => t.dev.rst.asserted.any (fun r => r.reach == 0 && r.src == 1) = true ∧ t.dev.rst.entering = [] ∧ t.dev.stage = 0 ∧ t.dev.raw = 0 ∧ t.mem = [])) ∧
  (∀ (s : State) (dt kind ns : Nat), kind ≤ 1 → 10000 ≤ ns → Completes (.supplyFault dt kind ns) s (fun t => t.dev.rst.asserted.any (fun r => r.reach == 0 && r.src == 2) = true ∧ t.dev.rst.entering = [] ∧ t.dev.stage = 0 ∧ t.mem = [])) ∧
  (∀ (s : State) (dt low : Nat), 250 ≤ low → s.dev.rst.rstnDrive = false → Completes (.rstNInput dt low) s (fun t => t.dev.rst.entering.map (fun (r : Reset) => (r.reach, r.src)) = s.dev.rst.entering.map (fun (r : Reset) => (r.reach, r.src)) ++ [(if s.dev.rd D.Rst.RST_N_REACH 0 = 1 then 1 else 2, 3)])) ∧
  (∀ (s : State) (q : Rcp), s.dev.grants q 0x0510 1 ⟨4, 1 * 2 ^ 24⟩ = true → Completes (.resetCmdCold q) s (fun t => t.dev.answered q St.OK = true ∧ t.dev.rst.entering.map (fun (r : Reset) => (r.reach, r.src)) = s.dev.rst.entering.map (fun (r : Reset) => (r.reach, r.src)) ++ [(1, 4)])) ∧
  (∀ (s : State) (q : Rcp), s.dev.grants q 0x0510 1 ⟨4, 2 * 2 ^ 24⟩ = true → Completes (.resetCmdWarm q) s (fun t => t.dev.answered q St.OK = true ∧ t.dev.rst.entering.map (fun (r : Reset) => (r.reach, r.src)) = s.dev.rst.entering.map (fun (r : Reset) => (r.reach, r.src)) ++ [(2, 4)])) ∧
  (∀ (s : State) (q : Rcp) (dom : Nat), s.dev.grants q 0x0510 1 ⟨4, 3 * 2 ^ 24 + dom * 2 ^ 16⟩ = true → dom ≤ 7 → Completes (.resetCmdDomain q dom) s (fun t => t.dev.answered q St.OK = true ∧ t.dev.rst.entering.map (fun (r : Reset) => (r.reach, r.src, r.dom)) = s.dev.rst.entering.map (fun (r : Reset) => (r.reach, r.src, r.dom)) ++ [(3, 4, dom)])) ∧
  (∀ (s : State) (dt dom : Nat), dom ≤ 7 → s.dev.inReset = false → s.dev.rst.asserted.any (fun r => r.reach == 3 && r.dom == dom) = false → countIf (fun (w : Nat × Nat) => w.1 == dom && decide ((s.dev.elapse dt).wall < w.2 + 60000000000)) s.dev.rst.watchdogs < 2 → Completes (.watchdogExpiry dt dom) s (fun t => t.dev.rst.entering.map (fun (r : Reset) => (r.reach, r.src, r.dom)) = s.dev.rst.entering.map (fun (r : Reset) => (r.reach, r.src, r.dom)) ++ [(3, 7, dom)] ∧ t.dev.raised.contains ⟨Src.RST_WATCHDOG, dom, false⟩ = true)) ∧
  (∀ (s : State) (dt dom : Nat), dom ≤ 7 → s.dev.inReset = false → s.dev.rst.asserted.any (fun r => r.reach == 3 && r.dom == dom) = false → 2 ≤ countIf (fun (w : Nat × Nat) => w.1 == dom && decide ((s.dev.elapse dt).wall < w.2 + 60000000000)) s.dev.rst.watchdogs → Completes (.watchdogExpiry dt dom) s (fun t => t.dev.rst.entering.map (fun (r : Reset) => (r.reach, r.src, r.detail)) = s.dev.rst.entering.map (fun (r : Reset) => (r.reach, r.src, r.detail)) ++ [(2, 7, dom)]))

/-- A request of reach COLD or WARM asserts, and the frame store's content is gone; the last reset of reach WARM or wider, released after its minimum width, begins start-up (stage 2 where the fuses are loaded, else 1), counts the boot and samples the straps; a channel whose BLOCK reset ends trains; the drive of RST_N ends; a load that passes and each stage that is done lead to the next stage. Where the spec leaves a point open it rests on the model's choices and readings (assumption logs 2, 86 and 112). -/
def Obligations.ResetStagesComplete : Prop :=
  (∀ (s : State) (dt n : Nat) (r : Reset), s.dev.rst.entering[n]? = some r → r.reach = 1 ∨ r.reach = 2 → Completes (.resetAssert dt n) s (fun t => t.dev.rst.asserted.any (fun x0 => x0.reach == r.reach && x0.src == r.src) = true ∧ t.dev.rst.entering.length + 1 = s.dev.rst.entering.length ∧ t.dev.stage = 0 ∧ t.mem = [])) ∧
  (∀ (s : State) (dt n : Nat) (r : Reset), s.dev.rst.entering[n]? = some r → r.reach = 3 → Completes (.resetAssert dt n) s (fun t => t.dev.rst.asserted.any (fun x0 => x0.reach == 3 && x0.dom == r.dom) = true ∧ t.mem = (if s.dev.inReset then [] else s.mem))) ∧
  (∀ (s : State) (dt geo : Nat) (head planeB testMode : Bool) (r : Reset), s.dev.rst.asserted = [r] → r.reach ≤ 2 → (s.dev.elapse dt).releasable r = true → Completes (.resetRelease dt 0 head planeB testMode geo) s (fun t => t.dev.rst.asserted = [] ∧ t.dev.inReset = false ∧ t.dev.stage = (if s.dev.on D.TrimResult.VALID 0 then 2 else 1) ∧ t.dev.rd D.Ident.BOOT_COUNT 0 = (s.dev.rd D.Ident.BOOT_COUNT 0 + 1) % 2 ^ 32 ∧ t.dev.on D.Straps.HEAD 0 = head ∧ t.dev.on D.Straps.PLANE_B 0 = planeB ∧ t.dev.rd D.Ens.GEO 0 = geo % 32)) ∧
  (∀ (s : State) (dt inst : Nat) (r : Reset), s.dev.rst.asserted = [r] → r.reach = 4 ∧ r.dom = 8 ∧ r.inst = inst → 5 ≤ s.dev.stage → s.dev.chanState inst ≠ ChanState.RETIRED → (s.dev.elapse dt).releasable r = true → Completes (.blockResetEnd dt 8 inst) s (fun t => t.dev.rst.asserted = [] ∧ t.dev.chanState inst = ChanState.TRAINING)) ∧
  (∀ (s : State) (dt low until_ : Nat), s.dev.rst.rstnUntil = some until_ → s.dev.rst.rstnDrive = true → until_ ≤ (s.dev.elapse dt).wall → low < 250 → Completes (.rstnOutEnd dt low) s (fun t => t.dev.rst.rstnDrive = false ∧ t.dev.out = [.pin Pin.RST_N 1])) ∧
  (∀ (s : State) (dt words : Nat), s.dev.rst.loading = true → s.dev.inCold = false → Completes (.fuseLoadDone dt words true) s (fun t => t.dev.on D.TrimResult.VALID 0 = true ∧ t.dev.rst.loading = false ∧ t.dev.rd D.TrimResult.WORDS 0 = min 255 words ∧ t.dev.stage = (if s.dev.stage = 1 then 2 else s.dev.stage))) ∧
  (∀ (s : State) (dt gbit : Nat) (failed tiles engines planes : List Nat) (slices : List (Nat × Nat)), s.dev.inReset = false → s.dev.rst.recovery = false → s.dev.stage = 3 → s.dev.safeBoot = false → Completes (.startupStageDone dt gbit failed tiles engines planes slices) s (fun t => t.dev.stage = 4)) ∧
  (∀ (s : State) (dt gbit : Nat) (failed tiles engines planes : List Nat) (slices : List (Nat × Nat)), s.dev.inReset = false → s.dev.rst.recovery = false → s.dev.stage = 6 → (s.dev.elapse dt).mediaReady = true → Completes (.startupStageDone dt gbit failed tiles engines planes slices) s (fun t => t.dev.stage = 7))

/-- With nothing in flight, a transaction that its master may make and whose target answers OK gets one response, through FS_WINDOW with its enabled bytes stored and every other byte kept; one to no target gets ERR_DECODE from the default target. A transaction that has waited 10 µs is answered ERR_TIMEOUT and its target isolated. BUS_CMD isolates a target, ends an isolation and clears the log. Where the spec leaves a point open it rests on the model's choices and readings (assumption logs 95 and 147). -/
def Obligations.BusComplete : Prop :=
  (∀ (s : State) (dt master off beats data enables placed : Nat), s.dev.memQ = [] → s.dev.bus.flight = [] → s.dev.masterReset master = false → busAccess master 19 true (19 * 2 ^ 24 + off) beats = true ∧ master ≤ 8 → s.dev.isolation 19 = 0 → 1 ≤ beats ∧ beats ≤ 16 ∧ off % 8 = 0 ∧ off < 2 ^ 24 → s.dev.windowOk (placed + off) (8 * beats) = true → placed + off + 8 * beats ≤ memSize → Completes (.busTransaction dt master (19 * 2 ^ 24 + off) beats true data enables (some 0) placed) s (fun t => t.dev.out = [.busResponse master 19 0 0] ∧ (∀ i : Nat, i < 8 * beats → Memory.read t.mem (placed + off + i) = if bit enables (8 * beats - 1 - i) then BitVec.ofNat 8 (byteAt (8 * beats) data i) else Memory.read s.mem (placed + off + i)) ∧ (∀ a : Nat, a < placed + off ∨ placed + off + 8 * beats ≤ a → Memory.read t.mem a = Memory.read s.mem a))) ∧
  (∀ (s : State) (dt master addr beats data enables placed : Nat), s.dev.memQ = [] → s.dev.bus.flight = [] → s.dev.masterReset master = false → master ≤ 8 → addr / 2 ^ 24 ≤ 23 ∧ addr / 2 ^ 24 ≠ 19 → busAccess master (addr / 2 ^ 24) false addr beats = true → s.dev.isolation (addr / 2 ^ 24) = 0 → 1 ≤ beats ∧ beats ≤ 16 ∧ addr % 8 = 0 → Completes (.busTransaction dt master addr beats false data enables (some 0) placed) s (fun t => t.dev.out = [.busResponse master (addr / 2 ^ 24) 0 data] ∧ t.mem = s.mem)) ∧
  (∀ (s : State) (dt master addr beats data enables placed : Nat) (write : Bool) (answer : Option Nat), s.dev.memQ = [] → s.dev.bus.flight = [] → s.dev.masterReset master = false → master ≤ 8 → 23 < addr / 2 ^ 24 ∧ addr < 2 ^ 32 → 1 ≤ beats ∧ beats ≤ 16 ∧ addr % 8 = 0 → Completes (.busTransaction dt master addr beats write data enables answer placed) s (fun t => t.dev.out = [.busResponse master 31 2 0] ∧ t.dev.rd D.Bus.ERRORS 0 = min (s.dev.rd D.Bus.ERRORS 0 + 1) (2 ^ 32 - 1) ∧ t.dev.raised.contains ⟨Src.BUS_DEFAULT_TARGET, master, false⟩ = true ∧ t.mem = s.mem)) ∧
  (∀ (s : State) (dt : Nat) (f : Flight) (l : List Flight), s.dev.bus.flight = f :: l → (s.dev.elapse dt).past f.at_ 10000 = true → Completes (.busTimeout dt) s (fun t => nget t.dev.bus.cut 0 f.target = 3 ∧ t.dev.bus.flight = l.filter (fun x0 => x0.target != f.target) ∧ t.dev.raised.contains ⟨Src.BUS_TIMEOUT, f.target, false⟩ = true ∧ t.dev.out.head? = some (.busResponse f.master f.target 4 0))) ∧
  (∀ (s : State) (q : Rcp) (target : Nat), s.dev.grants q 0x1300 2 ⟨4, 1 * 2 ^ 24 + target⟩ = true → target ≤ 23 → s.dev.targetReset target = false → Completes (.busCmdUnisolate q target) s (fun t => t.dev.answered q St.OK = true ∧ t.dev.isolation target = 0)) ∧
  (∀ (s : State) (q : Rcp) (target : Nat), s.dev.grants q 0x1300 2 ⟨4, 2 * 2 ^ 24 + target⟩ = true → target ≤ 23 → Completes (.busCmdIsolate q target) s (fun t => t.dev.answered q St.OK = true ∧ nget t.dev.bus.cut 0 target = 4 ∧ t.dev.bus.flight = s.dev.bus.flight.filter (fun x0 => x0.target != target))) ∧
  (∀ (s : State) (q : Rcp), s.dev.grants q 0x1300 2 ⟨4, 3 * 2 ^ 24⟩ = true → Completes (.busCmdLogClear q) s (fun t => t.dev.answered q St.OK = true ∧ (List.range 16).all (fun i => t.dev.ent (D.ErrorLog.RESP.key i) == 0) = true))

/-- An uncorrected error has its SRAM row judged defective, with a spare for it where fewer than 4 are taken; a waiting knot map is written to flash as the next generation; an island rests in the deepest state its horizon allows, wakes on demand, and takes the state requested of it in host-assisted mode; PWR_WARN_N falling is counted and raised, and its rise lets the flash be written again. Where the spec leaves a point open it rests on the model's choices and readings (assumption logs 22, 88, 89, 90 and 148). -/
def Obligations.RepairAndPowerComplete : Prop :=
  (∀ (s : State) (dt m row dom cause : Nat), s.dev.sramDefective m row = false → nget s.dev.rows.used 0 m + countIf (fun (w : Nat × Nat × Nat) => w.1 == m) s.dev.rows.waiting < 4 → Completes (.sramEccError dt m row dom cause false) s (fun t => t.dev.rows.waiting = s.dev.rows.waiting ++ [(m, row, dom)])) ∧
  (∀ (s : State) (dt m row dom cause : Nat), s.dev.sramDefective m row = false → 4 ≤ nget s.dev.rows.used 0 m + countIf (fun (w : Nat × Nat × Nat) => w.1 == m) s.dev.rows.waiting → Completes (.sramEccError dt m row dom cause false) s (fun t => t.dev.rows.waiting = s.dev.rows.waiting ∧ t.dev.on D.KnotStatus.ROW_SHORT 0 = true)) ∧
  (∀ (s : State) (dt : Nat), s.dev.flashOpen = true → s.dev.knot.dirty = true → Completes (.knotCopyWrite dt true) s (fun t => t.dev.knot.dirty = false ∧ t.dev.knotGen = s.dev.knotGen + 1 ∧ (t.dev.knot.copy0 = some (s.dev.knotGen + 1, s.dev.knot.entries) ∨ t.dev.knot.copy1 = some (s.dev.knotGen + 1, s.dev.knot.entries)))) ∧
  (∀ (s : State) (dt island : Nat) (next : Option Nat), island < 142 → s.dev.inReset = false → 3 ≤ s.dev.stage → s.dev.rd D.Pwr.MODE 0 = 0 → Completes (.islandHorizonRecompute dt island next) s (fun t => t.dev.rd D.IslandStatus.STATE island = deepest (s.dev.rd D.Pwr.HORIZON_GUARD_NS 0) next ((s.dev.elapse dt).islandRule (Config.island island).1 (Config.island island).2).2 ((s.dev.elapse dt).islandRule (Config.island island).1 (Config.island island).2).1 % 8)) ∧
  (∀ (s : State) (dt island took : Nat), island < 142 → s.dev.inReset = false → s.dev.rd D.IslandStatus.STATE island ≠ 0 → Completes (.islandWake dt island took) s (fun t => t.dev.rd D.IslandStatus.STATE island = 0 ∧ t.dev.rd D.IslandStatus.WAKES island = min (s.dev.rd D.IslandStatus.WAKES island + 1) (2 ^ 32 - 1) ∧ (wakeNs (s.dev.rd D.IslandStatus.STATE island) < took → t.dev.raised.contains ⟨Src.PWR_WAKE_LATE, 0, false⟩ = true))) ∧
  (∀ (s : State) (q : Rcp) (island v : Nat), s.dev.grantsDom q 0x0520 2 island ⟨1, v⟩ = true → s.dev.rd D.Pwr.MODE 0 = 1 → island < 142 → v = 128 → Completes (.islandRequest q island v) s (fun t => t.dev.answered q St.OK = true ∧ t.dev.rd D.IslandStatus.STATE island = 0)) ∧
  (∀ (s : State) (q : Rcp) (island v : Nat), s.dev.grantsDom q 0x0520 2 island ⟨1, v⟩ = true → s.dev.rd D.Pwr.MODE 0 = 1 → island < 142 → v < 8 → Completes (.islandRequest q island v) s (fun t => t.dev.answered q St.OK = true ∧ t.dev.ent (D.IslandReq.STATE.key island) = v)) ∧
  (∀ (s : State) (dt : Nat) (erasing ok : Bool), s.dev.pwr.warnLow = false → s.dev.inCold = false → Completes (.pwrWarn dt erasing ok) s (fun t => t.dev.pwr.warnLow = true ∧ t.dev.pwr.suspended = erasing ∧ t.dev.rd D.Pwr.PWR_WARNS 0 = (s.dev.rd D.Pwr.PWR_WARNS 0 + 1) % 2 ^ 32 ∧ t.dev.raised.contains ⟨Src.PWR_WARN, 0, false⟩ = true)) ∧
  (∀ (s : State) (dt : Nat), s.dev.pwr.warnLow = true → Completes (.pwrWarnRise dt) s (fun t => t.dev.pwr.warnLow = false ∧ t.dev.pwr.suspended = false))

/-- The end of an interval writes a tier 0 record with the next SEQ and begins the next interval; an event gets its event record; a verification of a tier is accepted and ends; a thermal sample gives the warnings and the trip of its temperature; a new VDD_CORE target is computed, a raise written and a failed write retried; a PMBus poll keeps the rails' readings. Where the spec leaves a point open it rests on the model's choices and readings (assumption logs 91, 92, 94 and 149). -/
def Obligations.RingAndSensorsComplete : Prop :=
  (∀ (s : State) (dt : Nat) (dailyOk : Bool), s.dev.flashOpen = true → s.dev.ring.stepped = none → (s.dev.ring.start / 600000000000 + 1) * 600000000000 ≤ (s.dev.elapse dt).now → Completes (.logIntervalEnd dt true dailyOk) s (fun t => t.dev.ring.t0.seq = s.dev.ring.t0.seq + 1 ∧ t.dev.ring.t0.next = (s.dev.ring.t0.next + 1) % 16384 ∧ t.dev.ring.start = (s.dev.ring.start / 600000000000 + 1) * 600000000000)) ∧
  (∀ (s : State) (dt : Nat) (e : EventRec) (l : List EventRec) (ok : Bool), s.dev.flashOpen = true → s.dev.events = e :: l → Completes (.eventRecordWrite dt ok) s (fun t => t.dev.events = l ∧ t.dev.ring.t2.seq = s.dev.ring.t2.seq + 1 ∧ t.dev.ring.t2.next = (s.dev.ring.t2.next + 1) % 262144 ∧ t.dev.ring.t2.gap = !ok)) ∧
  (∀ (s : State) (q : Rcp) (tier : Nat), s.dev.grants q 0x1210 4 ⟨4, 2 ^ 24 + tier⟩ = true → tier ≤ 2 → s.dev.ring.verify = none → Completes (.ringCmdVerify q tier) s (fun t => t.dev.answered q St.OK = true ∧ t.dev.rd D.VerifyResult.STATE 0 = 1 ∧ t.dev.rd D.VerifyResult.TIER 0 = tier ∧ t.dev.ring.verify = some (tier, (s.dev.elapse q.dt).wall))) ∧
  (∀ (s : State) (dt tier began : Nat), s.dev.ring.verify = some (tier, began) → s.dev.inReset = false → (s.dev.elapse dt).past began ((s.dev.records tier).length * tierBytes tier * 1000000000 / 67108864) = true → Completes (.ringVerifyDone dt) s (fun t => t.dev.ring.verify = none ∧ t.dev.rd D.VerifyResult.STATE 0 = (if (chainCheck tier none (s.dev.records tier) 0 none).2.isSome then 3 else 2) ∧ t.dev.rd D.VerifyResult.CHECKED 0 = (chainCheck tier none (s.dev.records tier) 0 none).1 % 2 ^ 32)) ∧
  (∀ (s : State) (dt : Nat) (temp : Int), s.dev.pwr.warnHot = false ∧ s.dev.pwr.crit = false ∧ s.dev.pwr.trip = false → 110 ≤ temp ∧ temp < 120 → Completes (.thermalSample dt temp) s (fun t => t.dev.pwr.temp = temp ∧ t.dev.pwr.warnHot = true ∧ t.dev.pwr.crit = true ∧ t.dev.pwr.trip = false ∧ t.dev.raised.contains ⟨Src.PWR_TEMP_WARN, 0, true⟩ = true ∧ t.dev.raised.contains ⟨Src.PWR_TEMP_CRIT, 0, false⟩ = true)) ∧
  (∀ (s : State) (dt : Nat) (temp : Int), s.dev.pwr.trip = false → 120 ≤ temp → Completes (.thermalSample dt temp) s (fun t => t.dev.pwr.trip = true ∧ t.dev.rst.asserted.any (fun r => r.reach == 0 && r.src == 2) = true ∧ t.mem = [])) ∧
  (∀ (s : State) (dt : Nat), s.dev.inReset = false → 3 ≤ s.dev.stage → s.dev.pwrWarn = false → s.dev.pwr.avsHigh = none → Completes (.avsUpdate dt [true]) s (fun t => t.dev.pwr.avsHigh = none ∧ t.dev.pwr.avsTarget = s.dev.avsWants ∧ (s.dev.pwr.avsWritten < s.dev.avsWants → t.dev.pwr.avsWritten = s.dev.avsWants ∧ t.dev.out = [.railWrite 2 0 s.dev.avsWants]))) ∧
  (∀ (s : State) (dt mv : Nat) (ack : Bool), s.dev.inReset = false → s.dev.pwrWarn = false → s.dev.pwr.avsHigh = some mv → (s.dev.elapse dt).past s.dev.pwr.avsAt 100000000 = true → Completes (.avsRetry dt ack) s (fun t => t.dev.out = [.railWrite 2 0 mv] ∧ t.dev.pwr.avsHigh = (if ack then none else some mv) ∧ t.dev.pwr.avsWritten = (if ack then mv else s.dev.pwr.avsWritten))) ∧
  (∀ (s : State) (dt mv ma : Nat) (alert : Bool), s.dev.inReset = false → 3 ≤ s.dev.stage → (s.dev.elapse dt).past s.dev.pwr.polledAt 100000000 = true → s.dev.pwr.alertLow = false → Completes (.pmbusPoll dt [some (mv, ma), none] alert) s (fun t => t.dev.pwr.readings = [(0, mv, ma)] ∧ t.dev.pwr.energy = s.dev.pwr.energy + 100 * mv * ma ∧ t.dev.pwr.alertLow = alert ∧ t.dev.out = []))

/-- Each of the RCP requests, where it answers a next state, keeps the queue, the frame store (but for the bytes of those that store there), every part of the device the statement does not name for it, and every dictionary field apart from those the statement lists for it. A COMMIT may change the staged entries besides. -/
def Obligations.RequestFrames : Prop :=
  (∀ (q : Rcp) (ix sub : Nat), Frame (.read q ix sub)
      (fun d e => { d with freeIdx := e.freeIdx, rcp := e.rcp, netPort := e.netPort, ctrl := e.ctrl, dwl := e.dwl, phy := e.phy, sec := { d.sec with waiting := e.sec.waiting }, ring := e.ring })
      (rcpFields ++ [D.DwlLane.ATTEMPTS, D.DwlLane.LANE_STATE, D.DwlLane.LCOUNT_RX, D.DwlLane.LCOUNT_TX, D.DwlLane.PEER_HOLD, D.DwlLane.RANK, D.DwlLane.STEP, D.GroupCounters.CELLS_TX, D.GroupCounters.MGMT_TX, D.GroupStatus.ACTIVE_LANES, D.GroupStatus.CAPACITY_MBPS, D.LaneStatus.CDR_LOCKED, D.LaneStatus.USE, D.Margin.SCAN_STATE, D.MgCounters.RX_FCS_ERRORS, D.PortCounters.CTRL_DROPS, D.PortCounters.CTRL_FRAMES, D.PortCounters.FEC_CORRECTED, D.PortCounters.FEC_UNCORRECTED, D.PortCounters.RX_FRAMES, D.PortCounters.TX_FRAMES, D.PrbsCounters.BITS, D.PrbsCounters.ERRORS, D.SdiRxCounters.ANC_CHECKSUM_ERRORS, D.SdiRxCounters.CRC_C, D.SdiRxCounters.CRC_Y, D.SdiRxCounters.ERRORED_FRAMES, D.SdiRxCounters.LINE_NUM_ERRORS, D.SdiRxCounters.TRS_ERRORS, ⟨ix, sub, 0, 4294967296, false⟩])) ∧
  (∀ (q : Rcp) (ix sub : Nat) (v : Bytes), Frame (.write q ix sub v)
      (fun d e => { d with freeIdx := e.freeIdx, raised := e.raised, ended := e.ended, rst := e.rst, rcp := e.rcp, flash := e.flash, flow := e.flow, remote := e.remote, plane := e.plane, sdiRx := e.sdiRx, hold := e.hold, flt := e.flt, store := e.store, chan := e.chan, knot := e.knot, events := e.events, netPort := e.netPort, ctrl := e.ctrl, time := e.time, dpll := e.dpll, tile := e.tile, tileRestore := e.tileRestore, layer := e.layer, flip := e.flip, memQ := e.memQ, xp := e.xp, takeLog := e.takeLog, dwl := e.dwl, phy := e.phy, sec := e.sec, bus := e.bus, ring := e.ring })
      (rcpFields ++ [(Fld.whole D.Salvo.CHANGES), D.Bus.ERRORS, D.ChanCounters.RETRAINS, D.ChanStatus.PASR_MASK, D.ChanStatus.SELF_REFRESH, D.ChanStatus.STATE, D.DpllStatus.PHASE_MOVING, D.DwlLane.ATTEMPTS, D.DwlLane.LANE_STATE, D.DwlLane.LCOUNT_RX, D.DwlLane.LCOUNT_TX, D.DwlLane.PEER_HOLD, D.DwlLane.RANK, D.DwlLane.STEP, D.Ens.PAIRS_MAX, D.Ens.REPLANS, (Fld.whole D.ErrorLog.RESP), D.FirstError.INJECTED, D.FirstError.INSTANCE, D.FirstError.OVERFLOW, D.FirstError.OVERFLOW_COUNT, D.FirstError.SOURCE, D.FirstError.TIME, (Fld.whole D.FirstError.VALID), D.Flow.CELLS, D.Flow.DEST_MAP, D.Flow.EFN, D.Flow.ENABLE, D.Flow.FORMAT, D.Flow.KIND, D.Flow.PATH, D.Flow.RESERVED_MBPS, D.Flow.STATE, D.FlowBind.CLASS, D.FlowBind.INDEX, D.FlowStatus.EMITTING, D.FlowStatus.ENABLE_QUEUED, D.FlowStatus.PLANNER_OWNED, D.FlowStatus.SAFE, D.Flt.ERRN_STATE, D.Fs.LAST_RETIRED_CHANNEL, D.FsCfgA.DELAY_FRAMES, D.FsCfgA.DPLL, D.FsCfgA.ENABLE, D.FsCfgA.LOSS, D.FsCfgA.PHASE_NS, D.FsCfgB.DELAY_FRAMES, D.FsCfgB.DPLL, D.FsCfgB.ENABLE, D.FsCfgB.LOSS, D.FsCfgB.PHASE_NS, D.GroupCounters.CELLS_TX, D.GroupCounters.MGMT_TX, D.GroupStatus.ACTIVE_LANES, D.GroupStatus.CAPACITY_MBPS, (Fld.whole D.IslandReq.STATE), D.IslandStatus.STATE, D.IslandStatus.WAKES, D.KnotStatus.FULL, D.LaneStatus.CDR_LOCKED, D.LaneStatus.SPARED, D.LaneStatus.USE, D.Layer.TALLY, (Fld.whole D.Lut.LUT), D.Margin.SCAN_STATE, D.Margin.TARGET_EXP, D.MasterStatus.ERRORS, D.NetTxCounters.SAFE_ENTRIES, D.NetTxStatus.HOLD_READY, D.NetTxStatus.SAFE, D.NetTxStatus.SAFE_HOLD, D.Phy.DWL_SPARES_READY, D.Phy.LAST_SWAP_LANE, D.Phy.SWAPS, D.Plane.LAST_FAIL_CAUSE, D.Plane.LAST_FAIL_TIME, D.Plane.STATE, D.PlaneHealth.IN_SERVICE, D.PlaneHealth.ROLE_ACTIVE, D.PlaneHealth.STALL_SEEN, D.PortCounters.CTRL_DROPS, D.PortCounters.CTRL_FRAMES, D.PortCounters.RX_FRAMES, D.PortCounters.TX_FRAMES, D.ProcCfg.OUT_SDI, D.Rcp.JOURNAL_USED_PCT, D.Rst.RESET_COUNTS, D.Salvo.COUNT, D.Salvo.EPOCH, D.Salvo.FAIL_INDEX, D.Salvo.FAIL_MEMBER, D.Salvo.RESULT, D.Salvo.STATE, D.Salvo.TAKE_TIME, D.Salvo.TWIN_ABSENT, D.SdiTxCounters.SAFE_ENTRIES, D.SdiTxStatus.HOLD_READY, D.SdiTxStatus.SAFE, D.SdiTxStatus.SAFE_HOLD, D.Sec.DEBUG_STATE, D.Sec.OWNER_GENERATION, D.Sec.OWNER_NONCE, D.Sec.OWNER_PUBLIC, D.Sec.OWNER_STATE, (Fld.whole D.Sec.POLICY), D.SourceStatus.ACTIVE, D.SourceStatus.COUNT, D.SourceStatus.INJECTED, D.SourceStatus.INSTANCE, D.SourceStatus.LAST_TIME, D.SourceStatus.PENDING, D.SourceStatus.SAFE_HOLDING, D.Summary.FIRST_KNOWN, D.Summary.FIRST_MEMBER, D.Summary.FIRST_SOURCE, D.Summary.STICKY, D.Summary.TIE, (Fld.whole D.Summary.VALID), D.Take.LAST_ACCEPT_TIME, D.TargetStatus.ISOLATED_RESPONSES, D.TargetStatus.TIMEOUTS, D.Tile.PHYS_TILE, D.Tile.SUBSTITUTIONS, D.TileMapEl.LOGICAL, D.TileMapEl.STATE, D.TileStatus.INSERTED, D.TileStatus.SUBSTITUTING, D.TileStatus.UNAVAILABLE, D.Tiles.SUBSTITUTIONS, D.Twin.ROLE, D.Upd.CONFIRMED_SLOT, D.Upd.LAST_RESULT, D.Upd.SETTINGS_DEFAULTED, D.Upd.TRIAL_SLOT, D.Upd.UPDATE_HOLDER, D.Upd.UPDATE_STATE, D.VeneerStatus.FLIP_PENDING, D.VeneerStatus.FRONT, (Fld.whole D.VerifyResult.STATE), D.VerifyResult.TIER, D.XpCount.RECORD_GENERATION, D.XpCount.SALVOS_ABORTED, D.XpCount.TAKES_REFUSED, D.XpCount.TAKES_REPLACED, D.XpTable.FROM_SALVO, D.XpTable.INDOUBT, D.XpTable.PENDING, D.XpTable.PENDING_DISCONNECT, D.XpTable.PENDING_SOURCE, D.XpTable.PENDING_TIME, D.XpTable.SLOT, D.XpTable.SOURCE, D.XpTable.VALID, ⟨ix, sub, 0, 4294967296, false⟩])) ∧
  (∀ (q : Rcp) (ix : Nat) (v : Bytes), Frame (.modeWrite q ix v)
      (fun d e => { d with freeIdx := e.freeIdx, raised := e.raised, ended := e.ended, rst := e.rst, rcp := e.rcp, flash := e.flash, flow := e.flow, remote := e.remote, plane := e.plane, sdiRx := e.sdiRx, hold := e.hold, flt := e.flt, store := e.store, chan := e.chan, knot := e.knot, events := e.events, netPort := e.netPort, ctrl := e.ctrl, time := e.time, dpll := e.dpll, tile := e.tile, tileRestore := e.tileRestore, layer := e.layer, flip := e.flip, memQ := e.memQ, xp := e.xp, takeLog := e.takeLog, dwl := e.dwl, phy := e.phy, sec := e.sec, bus := e.bus, ring := e.ring })
      (rcpFields ++ [(Fld.whole D.Salvo.CHANGES), D.Bus.ERRORS, D.ChanCounters.RETRAINS, D.ChanStatus.PASR_MASK, D.ChanStatus.SELF_REFRESH, D.ChanStatus.STATE, D.DpllStatus.PHASE_MOVING, D.DwlLane.ATTEMPTS, D.DwlLane.LANE_STATE, D.DwlLane.LCOUNT_RX, D.DwlLane.LCOUNT_TX, D.DwlLane.PEER_HOLD, D.DwlLane.RANK, D.DwlLane.STEP, D.Ens.PAIRS_MAX, D.Ens.REPLANS, (Fld.whole D.ErrorLog.RESP), D.FirstError.INJECTED, D.FirstError.INSTANCE, D.FirstError.OVERFLOW, D.FirstError.OVERFLOW_COUNT, D.FirstError.SOURCE, D.FirstError.TIME, (Fld.whole D.FirstError.VALID), D.Flow.CELLS, D.Flow.DEST_MAP, D.Flow.EFN, D.Flow.ENABLE, D.Flow.FORMAT, D.Flow.KIND, D.Flow.PATH, D.Flow.RESERVED_MBPS, D.Flow.STATE, D.FlowBind.CLASS, D.FlowBind.INDEX, D.FlowStatus.EMITTING, D.FlowStatus.ENABLE_QUEUED, D.FlowStatus.PLANNER_OWNED, D.FlowStatus.SAFE, D.Flt.ERRN_STATE, D.Fs.LAST_RETIRED_CHANNEL, D.FsCfgA.DELAY_FRAMES, D.FsCfgA.DPLL, D.FsCfgA.ENABLE, D.FsCfgA.LOSS, D.FsCfgA.PHASE_NS, D.FsCfgB.DELAY_FRAMES, D.FsCfgB.DPLL, D.FsCfgB.ENABLE, D.FsCfgB.LOSS, D.FsCfgB.PHASE_NS, D.GroupCounters.CELLS_TX, D.GroupCounters.MGMT_TX, D.GroupStatus.ACTIVE_LANES, D.GroupStatus.CAPACITY_MBPS, (Fld.whole D.IslandReq.STATE), D.IslandStatus.STATE, D.IslandStatus.WAKES, D.KnotStatus.FULL, D.LaneStatus.CDR_LOCKED, D.LaneStatus.SPARED, D.LaneStatus.USE, D.Layer.TALLY, (Fld.whole D.Lut.LUT), D.Margin.SCAN_STATE, D.Margin.TARGET_EXP, D.MasterStatus.ERRORS, D.NetTxCounters.SAFE_ENTRIES, D.NetTxStatus.HOLD_READY, D.NetTxStatus.SAFE, D.NetTxStatus.SAFE_HOLD, D.Phy.DWL_SPARES_READY, D.Phy.LAST_SWAP_LANE, D.Phy.SWAPS, D.Plane.LAST_FAIL_CAUSE, D.Plane.LAST_FAIL_TIME, D.Plane.STATE, D.PlaneHealth.IN_SERVICE, D.PlaneHealth.ROLE_ACTIVE, D.PlaneHealth.STALL_SEEN, D.PortCounters.CTRL_DROPS, D.PortCounters.CTRL_FRAMES, D.PortCounters.RX_FRAMES, D.PortCounters.TX_FRAMES, D.ProcCfg.OUT_SDI, D.Rcp.JOURNAL_USED_PCT, D.Rst.RESET_COUNTS, D.Salvo.COUNT, D.Salvo.EPOCH, D.Salvo.FAIL_INDEX, D.Salvo.FAIL_MEMBER, D.Salvo.RESULT, D.Salvo.STATE, D.Salvo.TAKE_TIME, D.Salvo.TWIN_ABSENT, D.SdiTxCounters.SAFE_ENTRIES, D.SdiTxStatus.HOLD_READY, D.SdiTxStatus.SAFE, D.SdiTxStatus.SAFE_HOLD, D.Sec.DEBUG_STATE, D.Sec.OWNER_GENERATION, D.Sec.OWNER_NONCE, D.Sec.OWNER_PUBLIC, D.Sec.OWNER_STATE, (Fld.whole D.Sec.POLICY), D.SourceStatus.ACTIVE, D.SourceStatus.COUNT, D.SourceStatus.INJECTED, D.SourceStatus.INSTANCE, D.SourceStatus.LAST_TIME, D.SourceStatus.PENDING, D.SourceStatus.SAFE_HOLDING, D.Summary.FIRST_KNOWN, D.Summary.FIRST_MEMBER, D.Summary.FIRST_SOURCE, D.Summary.STICKY, D.Summary.TIE, (Fld.whole D.Summary.VALID), D.Take.LAST_ACCEPT_TIME, D.TargetStatus.ISOLATED_RESPONSES, D.TargetStatus.TIMEOUTS, D.Tile.PHYS_TILE, D.Tile.SUBSTITUTIONS, D.TileMapEl.LOGICAL, D.TileMapEl.STATE, D.TileStatus.INSERTED, D.TileStatus.SUBSTITUTING, D.TileStatus.UNAVAILABLE, D.Tiles.SUBSTITUTIONS, D.Twin.ROLE, D.Upd.CONFIRMED_SLOT, D.Upd.LAST_RESULT, D.Upd.SETTINGS_DEFAULTED, D.Upd.TRIAL_SLOT, D.Upd.UPDATE_HOLDER, D.Upd.UPDATE_STATE, D.VeneerStatus.FLIP_PENDING, D.VeneerStatus.FRONT, (Fld.whole D.VerifyResult.STATE), D.VerifyResult.TIER, D.XpCount.RECORD_GENERATION, D.XpCount.SALVOS_ABORTED, D.XpCount.TAKES_REFUSED, D.XpCount.TAKES_REPLACED, D.XpTable.FROM_SALVO, D.XpTable.INDOUBT, D.XpTable.PENDING, D.XpTable.PENDING_DISCONNECT, D.XpTable.PENDING_SOURCE, D.XpTable.PENDING_TIME, D.XpTable.SLOT, D.XpTable.SOURCE, D.XpTable.VALID, ⟨ix, 1, 0, 4294967296, false⟩])) ∧
  (∀ (q : Rcp) (ix sub flags offset length : Nat), Frame (.readDom q ix sub flags offset length)
      (fun d e => { d with freeIdx := e.freeIdx, rcp := e.rcp, netPort := e.netPort, ctrl := e.ctrl, dwl := e.dwl, phy := e.phy, sec := { d.sec with waiting := e.sec.waiting }, ring := e.ring })
      (rcpFields ++ [D.DwlLane.ATTEMPTS, D.DwlLane.LANE_STATE, D.DwlLane.LCOUNT_RX, D.DwlLane.LCOUNT_TX, D.DwlLane.PEER_HOLD, D.DwlLane.RANK, D.DwlLane.STEP, D.GroupCounters.CELLS_TX, D.GroupCounters.MGMT_TX, D.GroupStatus.ACTIVE_LANES, D.GroupStatus.CAPACITY_MBPS, D.LaneStatus.CDR_LOCKED, D.LaneStatus.USE, D.Margin.SCAN_STATE, D.MgCounters.RX_FCS_ERRORS, D.PortCounters.CTRL_DROPS, D.PortCounters.CTRL_FRAMES, D.PortCounters.FEC_CORRECTED, D.PortCounters.FEC_UNCORRECTED, D.PortCounters.RX_FRAMES, D.PortCounters.TX_FRAMES, D.PrbsCounters.BITS, D.PrbsCounters.ERRORS, D.SdiRxCounters.ANC_CHECKSUM_ERRORS, D.SdiRxCounters.CRC_C, D.SdiRxCounters.CRC_Y, D.SdiRxCounters.ERRORED_FRAMES, D.SdiRxCounters.LINE_NUM_ERRORS, D.SdiRxCounters.TRS_ERRORS, ⟨ix, sub, 0, 4294967296, false⟩])) ∧
  (∀ (q : Rcp) (ix sub flags offset : Nat) (v : Bytes), FrameBut (.writeDom q ix sub flags offset v)
      (fun d e => { d with freeIdx := e.freeIdx, raised := e.raised, ended := e.ended, rst := e.rst, rcp := e.rcp, flash := e.flash, flow := e.flow, remote := e.remote, plane := e.plane, sdiRx := e.sdiRx, hold := e.hold, flt := e.flt, store := e.store, chan := e.chan, knot := e.knot, events := e.events, netPort := e.netPort, ctrl := e.ctrl, time := e.time, dpll := e.dpll, tile := e.tile, tileRestore := e.tileRestore, layer := e.layer, flip := e.flip, memQ := e.memQ, xp := e.xp, takeLog := e.takeLog, dwl := e.dwl, phy := e.phy, sec := e.sec, bus := e.bus, ring := e.ring })
      (rcpFields ++ [(Fld.whole D.Salvo.CHANGES), D.Bus.ERRORS, D.ChanCounters.RETRAINS, D.ChanStatus.PASR_MASK, D.ChanStatus.SELF_REFRESH, D.ChanStatus.STATE, D.DpllStatus.PHASE_MOVING, D.DwlLane.ATTEMPTS, D.DwlLane.LANE_STATE, D.DwlLane.LCOUNT_RX, D.DwlLane.LCOUNT_TX, D.DwlLane.PEER_HOLD, D.DwlLane.RANK, D.DwlLane.STEP, D.Ens.PAIRS_MAX, D.Ens.REPLANS, (Fld.whole D.ErrorLog.RESP), D.FirstError.INJECTED, D.FirstError.INSTANCE, D.FirstError.OVERFLOW, D.FirstError.OVERFLOW_COUNT, D.FirstError.SOURCE, D.FirstError.TIME, (Fld.whole D.FirstError.VALID), D.Flow.CELLS, D.Flow.DEST_MAP, D.Flow.EFN, D.Flow.ENABLE, D.Flow.FORMAT, D.Flow.KIND, D.Flow.PATH, D.Flow.RESERVED_MBPS, D.Flow.STATE, D.FlowBind.CLASS, D.FlowBind.INDEX, D.FlowStatus.EMITTING, D.FlowStatus.ENABLE_QUEUED, D.FlowStatus.PLANNER_OWNED, D.FlowStatus.SAFE, D.Flt.ERRN_STATE, D.Fs.LAST_RETIRED_CHANNEL, D.FsCfgA.DELAY_FRAMES, D.FsCfgA.DPLL, D.FsCfgA.ENABLE, D.FsCfgA.LOSS, D.FsCfgA.PHASE_NS, D.FsCfgB.DELAY_FRAMES, D.FsCfgB.DPLL, D.FsCfgB.ENABLE, D.FsCfgB.LOSS, D.FsCfgB.PHASE_NS, D.GroupCounters.CELLS_TX, D.GroupCounters.MGMT_TX, D.GroupStatus.ACTIVE_LANES, D.GroupStatus.CAPACITY_MBPS, (Fld.whole D.IslandReq.STATE), D.IslandStatus.STATE, D.IslandStatus.WAKES, D.KnotStatus.FULL, D.LaneStatus.CDR_LOCKED, D.LaneStatus.SPARED, D.LaneStatus.USE, D.Layer.TALLY, (Fld.whole D.Lut.LUT), D.Margin.SCAN_STATE, D.Margin.TARGET_EXP, D.MasterStatus.ERRORS, D.NetTxCounters.SAFE_ENTRIES, D.NetTxStatus.HOLD_READY, D.NetTxStatus.SAFE, D.NetTxStatus.SAFE_HOLD, D.Phy.DWL_SPARES_READY, D.Phy.LAST_SWAP_LANE, D.Phy.SWAPS, D.Plane.LAST_FAIL_CAUSE, D.Plane.LAST_FAIL_TIME, D.Plane.STATE, D.PlaneHealth.IN_SERVICE, D.PlaneHealth.ROLE_ACTIVE, D.PlaneHealth.STALL_SEEN, D.PortCounters.CTRL_DROPS, D.PortCounters.CTRL_FRAMES, D.PortCounters.RX_FRAMES, D.PortCounters.TX_FRAMES, D.ProcCfg.OUT_SDI, D.Rcp.JOURNAL_USED_PCT, D.Rst.RESET_COUNTS, D.Salvo.COUNT, D.Salvo.EPOCH, D.Salvo.FAIL_INDEX, D.Salvo.FAIL_MEMBER, D.Salvo.RESULT, D.Salvo.STATE, D.Salvo.TAKE_TIME, D.Salvo.TWIN_ABSENT, D.SdiTxCounters.SAFE_ENTRIES, D.SdiTxStatus.HOLD_READY, D.SdiTxStatus.SAFE, D.SdiTxStatus.SAFE_HOLD, D.Sec.DEBUG_STATE, D.Sec.OWNER_GENERATION, D.Sec.OWNER_NONCE, D.Sec.OWNER_PUBLIC, D.Sec.OWNER_STATE, (Fld.whole D.Sec.POLICY), D.SourceStatus.ACTIVE, D.SourceStatus.COUNT, D.SourceStatus.INJECTED, D.SourceStatus.INSTANCE, D.SourceStatus.LAST_TIME, D.SourceStatus.PENDING, D.SourceStatus.SAFE_HOLDING, D.Summary.FIRST_KNOWN, D.Summary.FIRST_MEMBER, D.Summary.FIRST_SOURCE, D.Summary.STICKY, D.Summary.TIE, (Fld.whole D.Summary.VALID), D.Take.LAST_ACCEPT_TIME, D.TargetStatus.ISOLATED_RESPONSES, D.TargetStatus.TIMEOUTS, D.Tile.PHYS_TILE, D.Tile.SUBSTITUTIONS, D.TileMapEl.LOGICAL, D.TileMapEl.STATE, D.TileStatus.INSERTED, D.TileStatus.SUBSTITUTING, D.TileStatus.UNAVAILABLE, D.Tiles.SUBSTITUTIONS, D.Twin.ROLE, D.Upd.CONFIRMED_SLOT, D.Upd.LAST_RESULT, D.Upd.SETTINGS_DEFAULTED, D.Upd.TRIAL_SLOT, D.Upd.UPDATE_HOLDER, D.Upd.UPDATE_STATE, D.VeneerStatus.FLIP_PENDING, D.VeneerStatus.FRONT, (Fld.whole D.VerifyResult.STATE), D.VerifyResult.TIER, D.XpCount.RECORD_GENERATION, D.XpCount.SALVOS_ABORTED, D.XpCount.TAKES_REFUSED, D.XpCount.TAKES_REPLACED, D.XpTable.FROM_SALVO, D.XpTable.INDOUBT, D.XpTable.PENDING, D.XpTable.PENDING_DISCONNECT, D.XpTable.PENDING_SOURCE, D.XpTable.PENDING_TIME, D.XpTable.SLOT, D.XpTable.SOURCE, D.XpTable.VALID, ⟨ix, sub, 0, 4294967296, false⟩])) ∧
  (∀ (q : Rcp), Frame (.discard q)
      (fun d e => { d with rcp := e.rcp, netPort := e.netPort, ctrl := e.ctrl, sec := { d.sec with waiting := e.sec.waiting } })
      (rcpFields ++ [D.PortCounters.CTRL_DROPS, D.PortCounters.CTRL_FRAMES, D.PortCounters.RX_FRAMES, D.PortCounters.TX_FRAMES])) ∧
  (∀ (q : Rcp), FrameOver (.commit q)
      (fun d e => { d with freeIdx := e.freeIdx, raised := e.raised, ended := e.ended, rcp := e.rcp, flash := e.flash, flow := e.flow, remote := e.remote, plane := e.plane, sdiRx := e.sdiRx, hold := e.hold, store := e.store, twin := e.twin, knot := e.knot, events := e.events, netTx := e.netTx, netPort := e.netPort, ctrl := e.ctrl, time := e.time, ref := e.ref, dpll := e.dpll, layer := e.layer, head := e.head, flip := e.flip, audio := e.audio, pool := e.pool, xp := e.xp, dwl := e.dwl, phy := e.phy, sec := e.sec, ring := e.ring })
      (rcpFields ++ [D.Aud.AFV_MISSES, D.ChanStatus.PASR_MASK, D.DestStatus.DELAY_LOST, D.DestStatus.DELAY_SPILL, D.DestStatus.FOLLOWING, D.DestStatus.FOLLOW_UNMAPPED, D.DpllCounters.HOLDOVERS, D.DpllStatus.BUILDOUT_NS, D.DpllStatus.CURRENT, D.DpllStatus.FROZEN, D.DpllStatus.PENDING, D.DpllStatus.PHASE_MOVING, D.DpllStatus.STATE, D.DwlLane.ATTEMPTS, D.DwlLane.LANE_STATE, D.DwlLane.LCOUNT_RX, D.DwlLane.LCOUNT_TX, D.DwlLane.PEER_HOLD, D.DwlLane.RANK, D.DwlLane.STEP, D.Ens.ENSEMBLE_STATE, D.Ens.MEMBERS_UP, D.Ens.PAIRS_MAX, D.Ens.REPLANS, D.Flow.CELLS, D.Flow.DEST_MAP, D.Flow.EFN, D.Flow.ENABLE, D.Flow.FORMAT, D.Flow.KIND, D.Flow.PATH, D.Flow.RESERVED_MBPS, D.Flow.STATE, D.FlowBind.CLASS, D.FlowBind.INDEX, D.FlowStatus.EMITTING, D.FlowStatus.ENABLE_QUEUED, D.FlowStatus.FROZEN, D.FlowStatus.PLANNER_OWNED, D.FlowStatus.SAFE, D.FlowStatus.SOURCE_LOST, D.GroupCounters.CELLS_TX, D.GroupCounters.MGMT_TX, D.GroupStatus.ACTIVE_LANES, D.GroupStatus.BEACON_OK, D.GroupStatus.CAPACITY_MBPS, D.GroupStatus.PEER_CARD, D.GroupStatus.PEER_GROUP, D.GroupStatus.PEER_MEMBER, D.GroupStatus.SDI_RESERVE_MBPS, D.GroupStatus.STATE, D.IslandStatus.STATE, D.IslandStatus.WAKES, D.KnotStatus.FULL, D.LaneStatus.CDR_LOCKED, D.LaneStatus.PRBS_LOCK, D.LaneStatus.SPARED, D.LaneStatus.USE, D.Layer.LINE_NEED, D.LayerStatus.DISPLAY, D.LayerStatus.GEOMETRY, D.LayerStatus.LINEBUF, D.LegStatus.ANCHORED, D.LegStatus.TWIN_SENDING, D.Margin.SCAN_STATE, D.NetTxCounters.SAFE_ENTRIES, D.NetTxStatus.HOLD_READY, D.NetTxStatus.SAFE, D.NetTxStatus.SAFE_HOLD, D.Plane.STATE, D.PlaneHealth.IN_SERVICE, D.PlaneHealth.ROLE_ACTIVE, D.PlaneHealth.STALL_SEEN, D.PortCounters.CTRL_DROPS, D.PortCounters.CTRL_FRAMES, D.PortCounters.FEC_CORRECTED, D.PortCounters.FEC_UNCORRECTED, D.PortCounters.LINK_DOWNS, D.PortCounters.RX_FRAMES, D.PortCounters.TX_FRAMES, D.PortStatus.FEC_LOCKED, D.PortStatus.LINK, D.PortStatus.PCS_ALIGNED, D.PrbsCounters.BITS, D.PrbsCounters.ERRORS, D.PtpCounters.GM_CHANGES, D.PtpStatus.GM_CLASS, D.PtpStatus.GM_IDENTITY, D.PtpStatus.LEAP59, D.PtpStatus.LEAP61, D.PtpStatus.ON_IF_B, D.PtpStatus.PARENT_IDENTITY, D.PtpStatus.PARENT_PORT, D.PtpStatus.PORT_STATE, D.PtpStatus.STEPS_REMOVED, D.PtpStatus.TIME_TRACEABLE, D.PtpStatus.UTC_VALID, D.Rcp.COMMIT_GENERATION, D.Rcp.JOURNAL_USED_PCT, D.RefArea.FOLLOW_GROUP, D.RefStatus.ACTIVE, D.RefStatus.CAUSE, D.RefStatus.STATE, D.RefSticky.DISQUALIFIED, D.SapStatus.BCLK_HZ, D.SapStatus.DIVIDER, D.SapStatus.LOCKED, D.SapStatus.RUNNING, D.SapStatus.RX_ACTIVE, D.SapStatus.TX_ACTIVE, D.SdiTxCounters.SAFE_ENTRIES, D.SdiTxStatus.HOLD_READY, D.SdiTxStatus.SAFE, D.SdiTxStatus.SAFE_HOLD, D.Sec.OWNER_GENERATION, D.SpareStatus.AUTO, D.SpareStatus.FAILED, D.SpareStatus.IN_USE, D.SpareStatus.LANE, D.Time.SERVO_STATE, D.Twin.ROLE, D.Twin.STATE, D.VeneerStatus.FLIP_PENDING, D.VeneerStatus.FRONT])
      (fun s k => s.dev.staged.any (fun x => x.1 == k))) ∧
  (∀ (q : Rcp) (v : Bytes), Frame (.groupAbort q v)
      (fun d e => { d with rcp := e.rcp, netPort := e.netPort, ctrl := e.ctrl, sec := { d.sec with waiting := e.sec.waiting } })
      (rcpFields ++ [D.PortCounters.CTRL_DROPS, D.PortCounters.CTRL_FRAMES, D.PortCounters.RX_FRAMES, D.PortCounters.TX_FRAMES])) ∧
  (∀ (q : Rcp) (first last minMs : Nat), Frame (.subscribe q first last minMs)
      (fun d e => { d with rcp := e.rcp, netPort := e.netPort, ctrl := e.ctrl, sec := { d.sec with waiting := e.sec.waiting } })
      (rcpFields ++ [D.PortCounters.CTRL_DROPS, D.PortCounters.CTRL_FRAMES, D.PortCounters.RX_FRAMES, D.PortCounters.TX_FRAMES])) ∧
  (∀ (q : Rcp) (id : Nat), Frame (.unsubscribe q id)
      (fun d e => { d with rcp := e.rcp, netPort := e.netPort, ctrl := e.ctrl, sec := { d.sec with waiting := e.sec.waiting } })
      (rcpFields ++ [D.PortCounters.CTRL_DROPS, D.PortCounters.CTRL_FRAMES, D.PortCounters.RX_FRAMES, D.PortCounters.TX_FRAMES])) ∧
  (∀ (q : Rcp), Frame (.close q)
      (fun d e => { d with rcp := e.rcp, netPort := e.netPort, ctrl := e.ctrl, sec := e.sec })
      (rcpFields ++ [D.PortCounters.CTRL_DROPS, D.PortCounters.CTRL_FRAMES, D.PortCounters.RX_FRAMES, D.PortCounters.TX_FRAMES, D.Upd.UPDATE_HOLDER, D.Upd.UPDATE_STATE])) ∧
  (∀ (q : Rcp), Frame (.keepalive q)
      (fun d e => { d with rcp := e.rcp, netPort := e.netPort, ctrl := e.ctrl, sec := { d.sec with waiting := e.sec.waiting } })
      (rcpFields ++ [D.PortCounters.CTRL_DROPS, D.PortCounters.CTRL_FRAMES, D.PortCounters.RX_FRAMES, D.PortCounters.TX_FRAMES])) ∧
  (∀ (q : Rcp) (multicast : Bool), Frame (.discover q multicast)
      (fun d e => { d with rcp := e.rcp, netPort := e.netPort, ctrl := e.ctrl, sec := { d.sec with waiting := e.sec.waiting } })
      (rcpFields ++ [D.PortCounters.CTRL_DROPS, D.PortCounters.CTRL_FRAMES, D.PortCounters.RX_FRAMES, D.PortCounters.TX_FRAMES])) ∧
  (∀ (q : Rcp), Frame (.planeCmdResetX q)
      (fun d e => { d with rcp := e.rcp, plane := e.plane, netPort := e.netPort, ctrl := e.ctrl, sec := { d.sec with waiting := e.sec.waiting } })
      (rcpFields ++ [D.Plane.LAST_FAIL_CAUSE, D.Plane.LAST_FAIL_TIME, D.Plane.STATE, D.PlaneHealth.IN_SERVICE, D.PlaneHealth.ROLE_ACTIVE, D.PlaneHealth.STALL_SEEN, D.PortCounters.CTRL_DROPS, D.PortCounters.CTRL_FRAMES, D.PortCounters.RX_FRAMES, D.PortCounters.TX_FRAMES])) ∧
  (∀ (q : Rcp), Frame (.planeCmdResetY q)
      (fun d e => { d with rcp := e.rcp, plane := e.plane, netPort := e.netPort, ctrl := e.ctrl, sec := { d.sec with waiting := e.sec.waiting } })
      (rcpFields ++ [D.Plane.LAST_FAIL_CAUSE, D.Plane.LAST_FAIL_TIME, D.Plane.STATE, D.PlaneHealth.IN_SERVICE, D.PlaneHealth.ROLE_ACTIVE, D.PlaneHealth.STALL_SEEN, D.PortCounters.CTRL_DROPS, D.PortCounters.CTRL_FRAMES, D.PortCounters.RX_FRAMES, D.PortCounters.TX_FRAMES])) ∧
  (∀ (q : Rcp), Frame (.planeCmdSwap q)
      (fun d e => { d with rcp := e.rcp, plane := e.plane, netPort := e.netPort, ctrl := e.ctrl, sec := { d.sec with waiting := e.sec.waiting } })
      (rcpFields ++ [D.Plane.STATE, D.PlaneHealth.IN_SERVICE, D.PlaneHealth.ROLE_ACTIVE, D.PortCounters.CTRL_DROPS, D.PortCounters.CTRL_FRAMES, D.PortCounters.RX_FRAMES, D.PortCounters.TX_FRAMES])) ∧
  (∀ (q : Rcp) (v : Bytes), Frame (.ctrlTx q v)
      (fun d e => { d with rcp := e.rcp, netPort := e.netPort, ctrl := e.ctrl, sec := { d.sec with waiting := e.sec.waiting } })
      (rcpFields ++ [D.PortCounters.CTRL_DROPS, D.PortCounters.CTRL_FRAMES, D.PortCounters.RX_FRAMES, D.PortCounters.TX_FRAMES])) ∧
  (∀ (q : Rcp) (dpll : Nat) (value : Int), Frame (.dpllCmdPhaseStep q dpll value)
      (fun d e => { d with rcp := e.rcp, netPort := e.netPort, ctrl := e.ctrl, dpll := e.dpll, sec := { d.sec with waiting := e.sec.waiting } })
      (rcpFields ++ [D.DpllStatus.PHASE_MOVING, D.PortCounters.CTRL_DROPS, D.PortCounters.CTRL_FRAMES, D.PortCounters.RX_FRAMES, D.PortCounters.TX_FRAMES])) ∧
  (∀ (q : Rcp) (dpll : Nat), Frame (.dpllCmdClearBuildout q dpll)
      (fun d e => { d with rcp := e.rcp, netPort := e.netPort, ctrl := e.ctrl, dpll := e.dpll, sec := { d.sec with waiting := e.sec.waiting } })
      (rcpFields ++ [D.DpllStatus.PHASE_MOVING, D.PortCounters.CTRL_DROPS, D.PortCounters.CTRL_FRAMES, D.PortCounters.RX_FRAMES, D.PortCounters.TX_FRAMES])) ∧
  (∀ (q : Rcp) (value : Int), Frame (.servoCmdStep q value)
      (fun d e => { d with rcp := e.rcp, netPort := e.netPort, ctrl := e.ctrl, time := e.time, sec := { d.sec with waiting := e.sec.waiting } })
      (rcpFields ++ [D.PortCounters.CTRL_DROPS, D.PortCounters.CTRL_FRAMES, D.PortCounters.RX_FRAMES, D.PortCounters.TX_FRAMES])) ∧
  (∀ (q : Rcp) (value : Int), Frame (.servoCmdSetRate q value)
      (fun d e => { d with rcp := e.rcp, netPort := e.netPort, ctrl := e.ctrl, time := e.time, sec := { d.sec with waiting := e.sec.waiting } })
      (rcpFields ++ [D.PortCounters.CTRL_DROPS, D.PortCounters.CTRL_FRAMES, D.PortCounters.RX_FRAMES, D.PortCounters.TX_FRAMES])) ∧
  (∀ (q : Rcp) (value : Int), Frame (.servoCmdAddRate q value)
      (fun d e => { d with rcp := e.rcp, netPort := e.netPort, ctrl := e.ctrl, time := e.time, sec := { d.sec with waiting := e.sec.waiting } })
      (rcpFields ++ [D.PortCounters.CTRL_DROPS, D.PortCounters.CTRL_FRAMES, D.PortCounters.RX_FRAMES, D.PortCounters.TX_FRAMES])) ∧
  (∀ (q : Rcp) (tile : Nat), Frame (.tileCmdSubstitute q tile)
      (fun d e => { d with raised := e.raised, rcp := e.rcp, netPort := e.netPort, ctrl := e.ctrl, tileRestore := e.tileRestore, sec := { d.sec with waiting := e.sec.waiting } })
      (rcpFields ++ [D.FlowStatus.EMITTING, D.IslandStatus.STATE, D.IslandStatus.WAKES, D.PortCounters.CTRL_DROPS, D.PortCounters.CTRL_FRAMES, D.PortCounters.RX_FRAMES, D.PortCounters.TX_FRAMES, D.Tile.PHYS_TILE, D.Tile.SUBSTITUTIONS, D.TileMapEl.LOGICAL, D.TileMapEl.STATE, D.TileStatus.SUBSTITUTING, D.TileStatus.UNAVAILABLE, D.Tiles.SUBSTITUTIONS])) ∧
  (∀ (q : Rcp) (phys : Nat), Frame (.tileCmdRestore q phys)
      (fun d e => { d with raised := e.raised, rcp := e.rcp, netPort := e.netPort, ctrl := e.ctrl, tileRestore := e.tileRestore, sec := { d.sec with waiting := e.sec.waiting } })
      (rcpFields ++ [D.FlowStatus.EMITTING, D.IslandStatus.STATE, D.IslandStatus.WAKES, D.PortCounters.CTRL_DROPS, D.PortCounters.CTRL_FRAMES, D.PortCounters.RX_FRAMES, D.PortCounters.TX_FRAMES, D.Tile.PHYS_TILE, D.Tile.SUBSTITUTIONS, D.TileMapEl.LOGICAL, D.TileMapEl.STATE, D.TileStatus.SUBSTITUTING, D.TileStatus.UNAVAILABLE, D.Tiles.SUBSTITUTIONS])) ∧
  (∀ (q : Rcp) (phys : Nat), Frame (.tileCmdTest q phys)
      (fun d e => { d with raised := e.raised, rcp := e.rcp, netPort := e.netPort, ctrl := e.ctrl, tileRestore := e.tileRestore, sec := { d.sec with waiting := e.sec.waiting } })
      (rcpFields ++ [D.FlowStatus.EMITTING, D.IslandStatus.STATE, D.IslandStatus.WAKES, D.PortCounters.CTRL_DROPS, D.PortCounters.CTRL_FRAMES, D.PortCounters.RX_FRAMES, D.PortCounters.TX_FRAMES, D.Tile.PHYS_TILE, D.Tile.SUBSTITUTIONS, D.TileMapEl.LOGICAL, D.TileMapEl.STATE, D.TileStatus.SUBSTITUTING, D.TileStatus.UNAVAILABLE, D.Tiles.SUBSTITUTIONS])) ∧
  (∀ (q : Rcp) (veneer x y w h : Nat) (back : Bool) (pixels : Nat), FrameBut (.veneerWrite q veneer x y w h back pixels)
      (fun d e => { d with rcp := e.rcp, store := e.store, netPort := e.netPort, ctrl := e.ctrl, memQ := e.memQ, sec := { d.sec with waiting := e.sec.waiting } })
      (rcpFields ++ [D.PortCounters.CTRL_DROPS, D.PortCounters.CTRL_FRAMES, D.PortCounters.RX_FRAMES, D.PortCounters.TX_FRAMES])) ∧
  (∀ (q : Rcp) (veneer : Nat), Frame (.veneerFlip q veneer)
      (fun d e => { d with rcp := e.rcp, netPort := e.netPort, ctrl := e.ctrl, flip := e.flip, sec := { d.sec with waiting := e.sec.waiting } })
      (rcpFields ++ [D.PortCounters.CTRL_DROPS, D.PortCounters.CTRL_FRAMES, D.PortCounters.RX_FRAMES, D.PortCounters.TX_FRAMES, D.VeneerStatus.FLIP_PENDING, D.VeneerStatus.FRONT])) ∧
  (∀ (q : Rcp) (engine value : Nat), Frame (.tallyWrite q engine value)
      (fun d e => { d with rcp := e.rcp, flash := e.flash, netPort := e.netPort, ctrl := e.ctrl, layer := e.layer, sec := { d.sec with waiting := e.sec.waiting } })
      (rcpFields ++ [D.Layer.TALLY, D.PortCounters.CTRL_DROPS, D.PortCounters.CTRL_FRAMES, D.PortCounters.RX_FRAMES, D.PortCounters.TX_FRAMES, D.Rcp.JOURNAL_USED_PCT])) ∧
  (∀ (q : Rcp) (slot offset : Nat) (v : Bytes), Frame (.salvoChangesWrite q slot offset v)
      (fun d e => { d with rcp := e.rcp, netPort := e.netPort, ctrl := e.ctrl, sec := { d.sec with waiting := e.sec.waiting } })
      (rcpFields ++ [D.PortCounters.CTRL_DROPS, D.PortCounters.CTRL_FRAMES, D.PortCounters.RX_FRAMES, D.PortCounters.TX_FRAMES, D.Salvo.COUNT, D.Salvo.STATE, ⟨D.Salvo.CHANGES.ix + slot, D.Salvo.CHANGES.sub, 0, 4294967296, false⟩])) ∧
  (∀ (q : Rcp) (slot v : Nat), Frame (.salvoTakeTimeWrite q slot v)
      (fun d e => { d with rcp := e.rcp, netPort := e.netPort, ctrl := e.ctrl, sec := { d.sec with waiting := e.sec.waiting } })
      (rcpFields ++ [D.PortCounters.CTRL_DROPS, D.PortCounters.CTRL_FRAMES, D.PortCounters.RX_FRAMES, D.PortCounters.TX_FRAMES, D.Salvo.TAKE_TIME])) ∧
  (∀ (q : Rcp) (chan : Nat), Frame (.chanCmdRetrain q chan)
      (fun d e => { d with raised := e.raised, rcp := e.rcp, store := e.store, chan := e.chan, knot := e.knot, events := e.events, netPort := e.netPort, ctrl := e.ctrl, sec := { d.sec with waiting := e.sec.waiting }, ring := e.ring })
      (rcpFields ++ [D.ChanCounters.RETRAINS, D.ChanStatus.SELF_REFRESH, D.ChanStatus.STATE, D.Fs.LAST_RETIRED_CHANNEL, D.KnotStatus.FULL, D.PortCounters.CTRL_DROPS, D.PortCounters.CTRL_FRAMES, D.PortCounters.RX_FRAMES, D.PortCounters.TX_FRAMES])) ∧
  (∀ (q : Rcp) (chan : Nat), Frame (.chanCmdRetire q chan)
      (fun d e => { d with raised := e.raised, rcp := e.rcp, store := e.store, chan := e.chan, knot := e.knot, events := e.events, netPort := e.netPort, ctrl := e.ctrl, sec := { d.sec with waiting := e.sec.waiting }, ring := e.ring })
      (rcpFields ++ [D.ChanCounters.RETRAINS, D.ChanStatus.SELF_REFRESH, D.ChanStatus.STATE, D.Fs.LAST_RETIRED_CHANNEL, D.KnotStatus.FULL, D.PortCounters.CTRL_DROPS, D.PortCounters.CTRL_FRAMES, D.PortCounters.RX_FRAMES, D.PortCounters.TX_FRAMES])) ∧
  (∀ (q : Rcp) (chan : Nat), Frame (.chanCmdRestore q chan)
      (fun d e => { d with raised := e.raised, rcp := e.rcp, store := e.store, chan := e.chan, knot := e.knot, events := e.events, netPort := e.netPort, ctrl := e.ctrl, sec := { d.sec with waiting := e.sec.waiting }, ring := e.ring })
      (rcpFields ++ [D.ChanCounters.RETRAINS, D.ChanStatus.SELF_REFRESH, D.ChanStatus.STATE, D.Fs.LAST_RETIRED_CHANNEL, D.KnotStatus.FULL, D.PortCounters.CTRL_DROPS, D.PortCounters.CTRL_FRAMES, D.PortCounters.RX_FRAMES, D.PortCounters.TX_FRAMES])) ∧
  (∀ (q : Rcp), Frame (.twinCmdMakeActive q)
      (fun d e => { d with rcp := e.rcp, netPort := e.netPort, ctrl := e.ctrl, dwl := e.dwl, sec := { d.sec with waiting := e.sec.waiting } })
      (rcpFields ++ [D.DwlLane.LCOUNT_TX, D.DwlLane.RANK, D.GroupCounters.CELLS_TX, D.GroupCounters.MGMT_TX, D.GroupStatus.ACTIVE_LANES, D.GroupStatus.CAPACITY_MBPS, D.PortCounters.CTRL_DROPS, D.PortCounters.CTRL_FRAMES, D.PortCounters.RX_FRAMES, D.PortCounters.TX_FRAMES, D.Twin.ROLE])) ∧
  (∀ (q : Rcp) (nonce policy pub sig : Nat), Frame (.ownerCmdEnrol q nonce policy pub sig)
      (fun d e => { d with freeIdx := e.freeIdx, rcp := e.rcp, events := e.events, netPort := e.netPort, ctrl := e.ctrl, sec := e.sec })
      (rcpFields ++ [D.PortCounters.CTRL_DROPS, D.PortCounters.CTRL_FRAMES, D.PortCounters.RX_FRAMES, D.PortCounters.TX_FRAMES, D.Sec.OWNER_GENERATION, D.Sec.OWNER_NONCE, D.Sec.OWNER_PUBLIC, D.Sec.OWNER_STATE, (Fld.whole D.Sec.POLICY), D.Upd.UPDATE_HOLDER, D.Upd.UPDATE_STATE])) ∧
  (∀ (q : Rcp) (nonce policy pub newSig ownerSig : Nat), Frame (.ownerCmdTransfer q nonce policy pub newSig ownerSig)
      (fun d e => { d with freeIdx := e.freeIdx, rcp := e.rcp, events := e.events, netPort := e.netPort, ctrl := e.ctrl, sec := e.sec })
      (rcpFields ++ [D.PortCounters.CTRL_DROPS, D.PortCounters.CTRL_FRAMES, D.PortCounters.RX_FRAMES, D.PortCounters.TX_FRAMES, D.Sec.OWNER_GENERATION, D.Sec.OWNER_NONCE, D.Sec.OWNER_PUBLIC, D.Sec.OWNER_STATE, (Fld.whole D.Sec.POLICY), D.Upd.UPDATE_HOLDER, D.Upd.UPDATE_STATE])) ∧
  (∀ (q : Rcp) (nonce ownerSig : Nat), Frame (.ownerCmdRelease q nonce ownerSig)
      (fun d e => { d with freeIdx := e.freeIdx, rcp := e.rcp, events := e.events, netPort := e.netPort, ctrl := e.ctrl, sec := e.sec })
      (rcpFields ++ [D.PortCounters.CTRL_DROPS, D.PortCounters.CTRL_FRAMES, D.PortCounters.RX_FRAMES, D.PortCounters.TX_FRAMES, D.Sec.OWNER_GENERATION, D.Sec.OWNER_NONCE, D.Sec.OWNER_PUBLIC, D.Sec.OWNER_STATE, (Fld.whole D.Sec.POLICY), D.Upd.UPDATE_HOLDER, D.Upd.UPDATE_STATE])) ∧
  (∀ (q : Rcp) (nonce : Nat), Frame (.attestNonce q nonce)
      (fun d e => { d with rcp := e.rcp, netPort := e.netPort, ctrl := e.ctrl, sec := e.sec })
      (rcpFields ++ [D.PortCounters.CTRL_DROPS, D.PortCounters.CTRL_FRAMES, D.PortCounters.RX_FRAMES, D.PortCounters.TX_FRAMES])) ∧
  (∀ (q : Rcp) (serial nonce sig : Nat), Frame (.debugToken q serial nonce sig)
      (fun d e => { d with rcp := e.rcp, netPort := e.netPort, ctrl := e.ctrl, sec := e.sec })
      (rcpFields ++ [D.PortCounters.CTRL_DROPS, D.PortCounters.CTRL_FRAMES, D.PortCounters.RX_FRAMES, D.PortCounters.TX_FRAMES, D.Sec.DEBUG_STATE])) ∧
  (∀ (q : Rcp) (v : Nat), Frame (.manifestIn q v)
      (fun d e => { d with rcp := e.rcp, netPort := e.netPort, ctrl := e.ctrl, sec := e.sec })
      (rcpFields ++ [D.PortCounters.CTRL_DROPS, D.PortCounters.CTRL_FRAMES, D.PortCounters.RX_FRAMES, D.PortCounters.TX_FRAMES, D.Upd.LAST_RESULT])) ∧
  (∀ (q : Rcp) (kind : Nat) (v : Bytes), Frame (.imageWrite q kind v)
      (fun d e => { d with rcp := e.rcp, netPort := e.netPort, ctrl := e.ctrl, sec := e.sec })
      (rcpFields ++ [D.PortCounters.CTRL_DROPS, D.PortCounters.CTRL_FRAMES, D.PortCounters.RX_FRAMES, D.PortCounters.TX_FRAMES, D.Upd.LAST_RESULT])) ∧
  (∀ (q : Rcp), Frame (.resetCmdCold q)
      (fun d e => { d with rst := e.rst, rcp := e.rcp, hold := e.hold, netPort := e.netPort, ctrl := e.ctrl, sec := { d.sec with waiting := e.sec.waiting } })
      (rcpFields ++ [D.FlowStatus.SAFE, D.NetTxCounters.SAFE_ENTRIES, D.NetTxStatus.SAFE, D.NetTxStatus.SAFE_HOLD, D.PortCounters.CTRL_DROPS, D.PortCounters.CTRL_FRAMES, D.PortCounters.RX_FRAMES, D.PortCounters.TX_FRAMES, D.SdiTxCounters.SAFE_ENTRIES, D.SdiTxStatus.SAFE, D.SdiTxStatus.SAFE_HOLD])) ∧
  (∀ (q : Rcp), Frame (.resetCmdWarm q)
      (fun d e => { d with rst := e.rst, rcp := e.rcp, hold := e.hold, netPort := e.netPort, ctrl := e.ctrl, sec := { d.sec with waiting := e.sec.waiting } })
      (rcpFields ++ [D.FlowStatus.SAFE, D.NetTxCounters.SAFE_ENTRIES, D.NetTxStatus.SAFE, D.NetTxStatus.SAFE_HOLD, D.PortCounters.CTRL_DROPS, D.PortCounters.CTRL_FRAMES, D.PortCounters.RX_FRAMES, D.PortCounters.TX_FRAMES, D.SdiTxCounters.SAFE_ENTRIES, D.SdiTxStatus.SAFE, D.SdiTxStatus.SAFE_HOLD])) ∧
  (∀ (q : Rcp) (dom : Nat), Frame (.resetCmdDomain q dom)
      (fun d e => { d with rst := e.rst, rcp := e.rcp, hold := e.hold, netPort := e.netPort, ctrl := e.ctrl, sec := { d.sec with waiting := e.sec.waiting } })
      (rcpFields ++ [D.FlowStatus.SAFE, D.NetTxCounters.SAFE_ENTRIES, D.NetTxStatus.SAFE, D.NetTxStatus.SAFE_HOLD, D.PortCounters.CTRL_DROPS, D.PortCounters.CTRL_FRAMES, D.PortCounters.RX_FRAMES, D.PortCounters.TX_FRAMES, D.SdiTxCounters.SAFE_ENTRIES, D.SdiTxStatus.SAFE, D.SdiTxStatus.SAFE_HOLD])) ∧
  (∀ (q : Rcp) (target : Nat), Frame (.busCmdUnisolate q target)
      (fun d e => { d with raised := e.raised, rcp := e.rcp, netPort := e.netPort, ctrl := e.ctrl, sec := { d.sec with waiting := e.sec.waiting }, bus := e.bus })
      (rcpFields ++ [D.Bus.ERRORS, (Fld.whole D.ErrorLog.RESP), D.MasterStatus.ERRORS, D.PortCounters.CTRL_DROPS, D.PortCounters.CTRL_FRAMES, D.PortCounters.RX_FRAMES, D.PortCounters.TX_FRAMES, D.TargetStatus.ISOLATED_RESPONSES, D.TargetStatus.TIMEOUTS])) ∧
  (∀ (q : Rcp) (target : Nat), Frame (.busCmdIsolate q target)
      (fun d e => { d with raised := e.raised, rcp := e.rcp, netPort := e.netPort, ctrl := e.ctrl, sec := { d.sec with waiting := e.sec.waiting }, bus := e.bus })
      (rcpFields ++ [D.Bus.ERRORS, (Fld.whole D.ErrorLog.RESP), D.MasterStatus.ERRORS, D.PortCounters.CTRL_DROPS, D.PortCounters.CTRL_FRAMES, D.PortCounters.RX_FRAMES, D.PortCounters.TX_FRAMES, D.TargetStatus.ISOLATED_RESPONSES, D.TargetStatus.TIMEOUTS])) ∧
  (∀ (q : Rcp), Frame (.busCmdLogClear q)
      (fun d e => { d with raised := e.raised, rcp := e.rcp, netPort := e.netPort, ctrl := e.ctrl, sec := { d.sec with waiting := e.sec.waiting }, bus := e.bus })
      (rcpFields ++ [D.Bus.ERRORS, (Fld.whole D.ErrorLog.RESP), D.MasterStatus.ERRORS, D.PortCounters.CTRL_DROPS, D.PortCounters.CTRL_FRAMES, D.PortCounters.RX_FRAMES, D.PortCounters.TX_FRAMES, D.TargetStatus.ISOLATED_RESPONSES, D.TargetStatus.TIMEOUTS])) ∧
  (∀ (q : Rcp) (island v : Nat), Frame (.islandRequest q island v)
      (fun d e => { d with rcp := e.rcp, netPort := e.netPort, ctrl := e.ctrl, sec := { d.sec with waiting := e.sec.waiting } })
      (rcpFields ++ [(Fld.whole D.IslandReq.STATE), D.IslandStatus.STATE, D.PortCounters.CTRL_DROPS, D.PortCounters.CTRL_FRAMES, D.PortCounters.RX_FRAMES, D.PortCounters.TX_FRAMES])) ∧
  (∀ (q : Rcp) (tier : Nat), Frame (.ringCmdVerify q tier)
      (fun d e => { d with rcp := e.rcp, netPort := e.netPort, ctrl := e.ctrl, sec := { d.sec with waiting := e.sec.waiting }, ring := e.ring })
      (rcpFields ++ [D.PortCounters.CTRL_DROPS, D.PortCounters.CTRL_FRAMES, D.PortCounters.RX_FRAMES, D.PortCounters.TX_FRAMES, (Fld.whole D.VerifyResult.STATE), D.VerifyResult.TIER])) ∧
  (∀ (q : Rcp) (id offset total : Nat) (v : Bytes), Frame (.openHello q id offset total v)
      (fun d e => { d with freeIdx := e.freeIdx, rcp := e.rcp, netPort := e.netPort, ctrl := e.ctrl, sec := { d.sec with waiting := e.sec.waiting } })
      (rcpFields ++ [D.PortCounters.CTRL_DROPS, D.PortCounters.CTRL_FRAMES, D.PortCounters.RX_FRAMES, D.PortCounters.TX_FRAMES])) ∧
  (∀ (q : Rcp) (id offset : Nat), Frame (.openChallengeFetch q id offset)
      (fun d e => { d with freeIdx := e.freeIdx, rcp := e.rcp, netPort := e.netPort, ctrl := e.ctrl, sec := { d.sec with waiting := e.sec.waiting } })
      (rcpFields ++ [D.PortCounters.CTRL_DROPS, D.PortCounters.CTRL_FRAMES, D.PortCounters.RX_FRAMES, D.PortCounters.TX_FRAMES])) ∧
  (∀ (q : Rcp) (id offset total : Nat) (v : Bytes), Frame (.openResponse q id offset total v)
      (fun d e => { d with freeIdx := e.freeIdx, rcp := e.rcp, netPort := e.netPort, ctrl := e.ctrl, sec := { d.sec with waiting := e.sec.waiting } })
      (rcpFields ++ [D.PortCounters.CTRL_DROPS, D.PortCounters.CTRL_FRAMES, D.PortCounters.RX_FRAMES, D.PortCounters.TX_FRAMES, D.Sec.OPEN_FAILURES]))

/-- Each of the commands of flows, takes, planes and twins, SDI and network ports, the frame store, tiles, heads and audio, where it answers a next state, keeps the queue, the frame store (but for the bytes of those that store there), every part of the device the statement does not name for it, and every dictionary field apart from those the statement lists for it. The end of the twins' state copy may change the statistics and anchors it carries besides. -/
def Obligations.MediaFrames : Prop :=
  (∀ (dt ctx : Nat), Frame (.flowEngineQuiesced dt ctx)
      (fun d e => { d with flow := e.flow, plane := e.plane, hold := e.hold, store := e.store, netRx := e.netRx, layer := e.layer, xp := e.xp })
      [D.ChanStatus.PASR_MASK, D.Flow.CELLS, D.Flow.DEST_MAP, D.Flow.EFN, D.Flow.FORMAT, D.Flow.KIND, D.Flow.PATH, D.Flow.STATE, D.FlowBind.CLASS, D.FlowBind.INDEX, D.FlowStatus.ALIGNED, D.FlowStatus.ANCHORED, D.FlowStatus.ENABLE_QUEUED, D.FlowStatus.PLANNER_OWNED, D.NetRxStatus.LEG_A_OK, D.NetRxStatus.LEG_B_OK, D.NetRxStatus.SKEW_EXCEEDED, D.NetTxStatus.HOLD_READY, D.SdiTxStatus.HOLD_READY]) ∧
  (∀ (dt ctx : Nat), Frame (.runStart dt ctx)
      (fun d e => { d with flow := e.flow })
      [D.Flow.SEQ_NEXT, D.FlowStatus.FROZEN, D.FlowStatus.SOURCE_LOST]) ∧
  (∀ (dt ctx itime len pos : Nat) (sof eof : Bool) (payload field : Nat), Frame (.cellEmit dt ctx itime len pos sof eof payload field)
      (fun d e => { d with flow := e.flow, netRx := e.netRx, tile := e.tile, audio := e.audio, pool := e.pool, dwl := e.dwl, ring := e.ring })
      [D.DwlLane.LCOUNT_TX, D.DwlLane.RANK, D.Flow.CELLS, D.Flow.RUN_START, D.Flow.SEQ_NEXT, D.FlowStatus.EMITTING, D.FlowStatus.SOURCE_LOST, D.GroupCounters.CELLS_TX, D.GroupCounters.MGMT_TX, D.GroupStatus.ACTIVE_LANES, D.GroupStatus.CAPACITY_MBPS, D.SdiRxStatus.ATC_LTC, D.Tile.ANC_DROPPED]) ∧
  (∀ (dt group : Nat) (cell : Cell), Frame (.cellReceived dt group cell)
      (fun d e => { d with flow := e.flow, dwl := e.dwl, ring := e.ring })
      [D.DwlLane.LCOUNT_TX, D.DwlLane.RANK, D.Flow.CELLS, D.Flow.MALFORMED, D.Flow.RUN_START, D.FlowStatus.EMITTING, D.FlowStatus.SOURCE_LOST, D.GroupCounters.CELLS_TX, D.GroupCounters.MGMT_TX, D.GroupStatus.ACTIVE_LANES, D.GroupStatus.CAPACITY_MBPS]) ∧
  (∀ (dt ctx : Nat), Frame (.sourceLossTimeout dt ctx)
      (fun d e => { d with flow := e.flow, hold := e.hold })
      [D.FlowStatus.EMITTING, D.FlowStatus.FROZEN, D.FlowStatus.SAFE, D.FlowStatus.SOURCE_LOST, D.NetTxCounters.SAFE_ENTRIES, D.NetTxStatus.SAFE, D.NetTxStatus.SAFE_HOLD, D.SdiTxCounters.SAFE_ENTRIES, D.SdiTxStatus.FROZEN, D.SdiTxStatus.SAFE, D.SdiTxStatus.SAFE_HOLD]) ∧
  (∀ (dt plane cause : Nat), Frame (.planeFail dt plane cause)
      (fun d e => { d with raised := e.raised, flow := e.flow, plane := e.plane, hold := e.hold })
      [D.FlowStatus.SAFE, D.NetTxCounters.SAFE_ENTRIES, D.NetTxStatus.SAFE, D.NetTxStatus.SAFE_HOLD, D.Plane.FAILURES, D.Plane.LAST_FAIL_CAUSE, D.Plane.LAST_FAIL_TIME, D.Plane.STATE, D.PlaneHealth.IN_SERVICE, D.PlaneHealth.ROLE_ACTIVE, D.PlaneHealth.STALL_SEEN, D.SdiTxCounters.SAFE_ENTRIES, D.SdiTxStatus.SAFE, D.SdiTxStatus.SAFE_HOLD]) ∧
  (∀ (dt plane : Nat) (pass shadowOk : Bool) (slice : Option Nat), Frame (.planeBistDone dt plane pass shadowOk slice)
      (fun d e => { d with raised := e.raised, flow := e.flow, plane := e.plane, knot := e.knot, events := e.events, ring := e.ring })
      [D.FlowStatus.ANCHORED, D.KnotStatus.FULL, D.Plane.FAILURES, D.Plane.LAST_FAIL_CAUSE, D.Plane.LAST_FAIL_TIME, D.Plane.STATE, D.PlaneHealth.BIST_PASS, D.PlaneHealth.IN_SERVICE, D.PlaneHealth.ROLE_ACTIVE, D.PlaneHealth.SPARE_IN_USE, D.PlaneHealth.STALL_SEEN]) ∧
  (∀ (dt plane : Nat) (wrong : List (Nat × Nat)), Frame (.planeResyncDone dt plane wrong)
      (fun d e => { d with raised := e.raised, plane := e.plane })
      [D.Plane.FAILURES, D.Plane.LAST_FAIL_CAUSE, D.Plane.LAST_FAIL_TIME, D.Plane.LAST_RESYNC_US, D.Plane.RESYNCS, D.Plane.STATE, D.PlaneHealth.IN_SERVICE, D.PlaneHealth.ROLE_ACTIVE, D.PlaneHealth.STALL_SEEN]) ∧
  (∀ (dt : Nat) (shadowOk : Bool), Frame (.planeRebuildDone dt shadowOk)
      (fun d e => { d with raised := e.raised, flow := e.flow, plane := e.plane })
      [D.FlowStatus.ANCHORED, D.Plane.FAILURES, D.Plane.LAST_FAIL_CAUSE, D.Plane.LAST_FAIL_TIME, D.Plane.STATE, D.PlaneHealth.IN_SERVICE, D.PlaneHealth.ROLE_ACTIVE, D.PlaneHealth.STALL_SEEN, D.Planes.LAST_REBUILD_US, D.Planes.REBUILDS]) ∧
  (∀ (dt lane rate : Nat), Frame (.sdiRxLock dt lane rate)
      (fun d e => { d with sdiRx := e.sdiRx })
      [D.SdiRxStatus.LOCKED, D.SdiRxStatus.RATE, D.SdiRxStatus.TRS_OK]) ∧
  (∀ (dt lane : Nat), Frame (.sdiRxLockLost dt lane)
      (fun d e => { d with freeIdx := e.freeIdx, raised := e.raised, ended := e.ended, flow := e.flow, sdiRx := e.sdiRx, hold := e.hold, ref := e.ref, dpll := e.dpll, audio := e.audio, phy := e.phy })
      [D.DpllCounters.HOLDOVERS, D.DpllStatus.BUILDOUT_NS, D.DpllStatus.CURRENT, D.DpllStatus.FROZEN, D.DpllStatus.PENDING, D.DpllStatus.PHASE_MOVING, D.DpllStatus.STATE, D.FlowStatus.EMITTING, D.FlowStatus.FROZEN, D.FlowStatus.SOURCE_LOST, D.Margin.SCAN_STATE, D.RefStatus.ACTIVE, D.RefStatus.CAUSE, D.RefStatus.STATE, D.RefSticky.DISQUALIFIED, D.RefSticky.STOP, D.SdiRxCounters.ANC_CHECKSUM_ERRORS, D.SdiRxCounters.CRC_C, D.SdiRxCounters.CRC_Y, D.SdiRxCounters.ERRORED_FRAMES, D.SdiRxCounters.LINE_NUM_ERRORS, D.SdiRxCounters.LOCK_LOSSES, D.SdiRxCounters.TRS_ERRORS, D.SdiRxStatus.DETECTED_FORMAT, D.SdiRxStatus.GROUP_ALIGNED, D.SdiRxStatus.LOCKED, D.SdiRxStatus.PID_MISMATCH, D.SdiRxStatus.PID_PRESENT, D.SdiRxStatus.RATE, D.SdiRxStatus.TRS_OK]) ∧
  (∀ (dt lane : Nat), Frame (.sdiRxFormatChange dt lane)
      (fun d e => { d with raised := e.raised, ended := e.ended, flow := e.flow, sdiRx := e.sdiRx })
      [D.FlowStatus.EMITTING, D.FlowStatus.FROZEN, D.FlowStatus.SOURCE_LOST, D.SdiRxCounters.FORMAT_CHANGES, D.SdiRxStatus.DETECTED_FORMAT]) ∧
  (∀ (dt lane raster rate : Nat) (arrivals : List Nat) (ltc : Nat) (pid : Option (Nat × Nat)), Frame (.sdiFormatDetected dt lane raster rate arrivals ltc pid)
      (fun d e => { d with raised := e.raised, ended := e.ended, flow := e.flow, sdiRx := e.sdiRx })
      [D.FlowStatus.EMITTING, D.FlowStatus.FROZEN, D.FlowStatus.SOURCE_LOST, D.SdiRxStatus.ATC_LTC, D.SdiRxStatus.DETECTED_FORMAT, D.SdiRxStatus.GROUP_ALIGNED, D.SdiRxStatus.GROUP_SKEW_NS, D.SdiRxStatus.PID, D.SdiRxStatus.PID_MISMATCH, D.SdiRxStatus.PID_PRESENT]) ∧
  (∀ (dt ctx first : Nat) (others : List Nat), Frame (.sdiPortResume dt ctx first others)
      (fun d e => { d with raised := e.raised, flow := e.flow, sdiRx := e.sdiRx })
      [D.FlowStatus.FROZEN, D.FlowStatus.SOURCE_LOST, D.SdiRxStatus.GROUP_ALIGNED, D.SdiRxStatus.GROUP_SKEW_NS]) ∧
  (∀ (dt ctx : Nat), Frame (.holdMaxExpiry dt ctx)
      (fun d e => { d with raised := e.raised, hold := e.hold })
      [D.NetTxStatus.SAFE_HOLD, D.SdiTxStatus.SAFE_HOLD]) ∧
  (∀ (dt lane skew : Nat), Frame (.sdiGroupDeskewLost dt lane skew)
      (fun d e => { d with raised := e.raised, ended := e.ended, flow := e.flow, sdiRx := e.sdiRx })
      [D.FlowStatus.EMITTING, D.FlowStatus.FROZEN, D.FlowStatus.SOURCE_LOST, D.SdiRxStatus.GROUP_ALIGNED, D.SdiRxStatus.GROUP_SKEW_NS]) ∧
  (∀ (dt lane : Nat), Frame (.sdiPidAbsent dt lane)
      (fun d e => { d with raised := e.raised, ended := e.ended, flow := e.flow, sdiRx := e.sdiRx })
      [D.FlowStatus.EMITTING, D.FlowStatus.FROZEN, D.FlowStatus.SOURCE_LOST, D.SdiRxStatus.PID_MISMATCH, D.SdiRxStatus.PID_PRESENT]) ∧
  (∀ (dt ctx : Nat) (legB : Bool), Frame (.netRxSilence dt ctx legB)
      (fun d e => { d with raised := e.raised })
      [D.FlowStatus.EMITTING, D.FlowStatus.SOURCE_LOST, D.NetRxStatus.LEG_A_OK, D.NetRxStatus.LEG_B_OK, D.NetRxStatus.RECEIVING]) ∧
  (∀ (dt ctx : Nat), Frame (.net20227Release dt ctx)
      (fun d e => { d with flow := e.flow, netRx := e.netRx, time := e.time })
      [D.NetRxCounters.FORMAT_ERRORS, D.NetRxCounters.LOST, D.NetRxCounters.MISSING_A, D.NetRxCounters.MISSING_B, D.NetRxCounters.POLICED, D.NetRxCounters.REORDERED, D.NetRxStatus.LAST_RTP_TS]) ∧
  (∀ (dt port : Nat), Frame (.netLinkUp dt port)
      (fun d e => { d with netPort := e.netPort })
      [D.PortStatus.FEC_LOCKED, D.PortStatus.LINK, D.PortStatus.PCS_ALIGNED]) ∧
  (∀ (dt port : Nat), Frame (.netLinkDown dt port)
      (fun d e => { d with freeIdx := e.freeIdx, raised := e.raised, phy := e.phy })
      [D.FlowStatus.EMITTING, D.FlowStatus.SOURCE_LOST, D.Margin.SCAN_STATE, D.PortCounters.FEC_CORRECTED, D.PortCounters.FEC_UNCORRECTED, D.PortCounters.LINK_DOWNS, D.PortStatus.FEC_LOCKED, D.PortStatus.LINK, D.PortStatus.PCS_ALIGNED]) ∧
  (∀ (dt lane : Nat), Frame (.netSpareRemap dt lane)
      (fun d e => { d with freeIdx := e.freeIdx, raised := e.raised, knot := e.knot, events := e.events, phy := e.phy, ring := e.ring })
      [D.FlowStatus.EMITTING, D.FlowStatus.SOURCE_LOST, D.IslandStatus.STATE, D.IslandStatus.WAKES, D.KnotStatus.FULL, D.LaneStatus.SPARED, D.Margin.SCAN_STATE, D.PortCounters.FEC_CORRECTED, D.PortCounters.FEC_UNCORRECTED, D.PortCounters.LINK_DOWNS, D.PortStatus.FEC_LOCKED, D.PortStatus.LINK, D.PortStatus.PCS_ALIGNED, D.SpareCfg.LANE, D.SpareCfg.REMAP, D.SpareStatus.AUTO, D.SpareStatus.FAILED, D.SpareStatus.IN_USE, D.SpareStatus.LANE]) ∧
  (∀ (dt : Nat), Frame (.netCtrlFrame dt)
      (fun d e => { d with ctrl := e.ctrl })
      [D.PortCounters.TX_FRAMES]) ∧
  (∀ (dt port iface version : Nat) (ask : Nat × Nat), Frame (.netQueryRx dt port iface version ask)
      (fun d e => { d with freeIdx := e.freeIdx, raised := e.raised, netPort := e.netPort, ctrl := e.ctrl })
      [D.Net.OLD_QUERIERS, D.Net.QUERIES_RX, D.PortCounters.CTRL_DROPS, D.PortCounters.CTRL_FRAMES, D.PortCounters.RX_FRAMES]) ∧
  (∀ (dt iface : Nat), Frame (.netQueryResponse dt iface)
      (fun d e => { d with ctrl := e.ctrl })
      [D.PortCounters.TX_FRAMES]) ∧
  (∀ (dt iface : Nat), Frame (.netMembershipReport dt iface)
      (fun d e => { d with freeIdx := e.freeIdx, ctrl := e.ctrl })
      [D.PortCounters.TX_FRAMES]) ∧
  (∀ (dt iface : Nat), Frame (.igmpReportRepeat dt iface)
      (fun d e => { d with freeIdx := e.freeIdx, ctrl := e.ctrl })
      [D.PortCounters.TX_FRAMES]) ∧
  (∀ (dt ctx : Nat) (legB : Bool) (mac : Option Nat), Frame (.netResolveRefresh dt ctx legB mac)
      (fun d e => { d with raised := e.raised, netTx := e.netTx })
      [D.NetTxStatus.RESOLVING, D.PortCounters.TX_FRAMES]) ∧
  (∀ (dt ctx : Nat), Frame (.netPacketTx dt ctx)
      (fun d e => { d with twin := e.twin, netTx := e.netTx })
      [D.Leg.REANCHORS, D.LegStatus.ANCHORED, D.NetTxCounters.DISCARDS, D.NetTxCounters.FILLED_PACKETS, D.NetTxCounters.PACING_OVERRUNS, D.NetTxCounters.PACKETS, D.NetTxStatus.LEG_B_ACTIVE, D.NetTxStatus.RTP_SEQ_NEXT, D.PortCounters.TX_DISCARDS, D.PortCounters.TX_FRAMES]) ∧
  (∀ (dt phys : Nat), Frame (.tileFail dt phys)
      (fun d e => { d with raised := e.raised, knot := e.knot, events := e.events, tileAgain := e.tileAgain, ring := e.ring })
      [D.FlowStatus.EMITTING, D.FlowStatus.SOURCE_LOST, D.IslandStatus.STATE, D.IslandStatus.WAKES, D.KnotStatus.FULL, D.Tile.PHYS_TILE, D.Tile.SUBSTITUTIONS, D.TileMapEl.FAILURES, D.TileMapEl.LOGICAL, D.TileMapEl.STATE, D.TileStatus.SUBSTITUTING, D.TileStatus.UNAVAILABLE, D.Tiles.SUBSTITUTIONS]) ∧
  (∀ (dt tile : Nat), Frame (.tileSubstitutionDone dt tile)
      (fun d e => { d with flow := e.flow, tile := e.tile })
      [D.TileStatus.SUBSTITUTING]) ∧
  (∀ (dt phys : Nat) (pass : Bool), Frame (.tileBistDone dt phys pass)
      (fun d e => { d with knot := e.knot, events := e.events, tileRestore := e.tileRestore, ring := e.ring })
      [D.KnotStatus.FULL, D.TileMapEl.FAILURES, D.TileMapEl.STATE]) ∧
  (∀ (dt tile : Nat) (chanB : Bool) (lost : Nat), Frame (.fsOutputFrame dt tile chanB lost)
      (fun d e => { d with tile := e.tile })
      [D.Tile.DROPS_A, D.Tile.DROPS_B, D.Tile.LOST_LINES, D.Tile.REPEATS_A, D.Tile.REPEATS_B]) ∧
  (∀ (dt tile : Nat) (chanB : Bool), Frame (.fsInputLoss dt tile chanB)
      (fun d e => { d with tile := e.tile })
      [D.FlowStatus.EMITTING, D.FlowStatus.SOURCE_LOST, D.TileStatus.FS_LOCKED]) ∧
  (∀ (dt head : Nat) (lost probe : List (Nat × Nat)), Frame (.headFrameBoundary dt head lost probe)
      (fun d e => { d with raised := e.raised, flow := e.flow, layer := e.layer, head := e.head, flip := e.flip })
      [D.HeadStatus.ANY_FILL, D.Layer.DROPS, D.Layer.LOST_LINES, D.Layer.NOT_READY_FRAMES, D.Layer.REPEATS, D.LayerStatus.DISPLAY, D.LayerStatus.NOT_READY, D.LayerStatus.PENDING_UPDATE, D.LayerStatus.UNBACKED, D.LayerStatus.VENEER_LOST, D.VeneerStatus.FLIP_PENDING, D.VeneerStatus.FRONT]) ∧
  (∀ (dt engine : Nat) (filled : List (Nat × Nat × Nat)), Frame (.layerFrameComplete dt engine filled)
      (fun d e => { d with layer := e.layer })
      [D.Layer.DROPS, D.Layer.LOST_LINES]) ∧
  (∀ (dt engine : Nat), Frame (.layerRunStart dt engine)
      (fun d e => { d with raised := e.raised, layer := e.layer })
      [D.Layer.LINE_NEED, D.LayerStatus.GEOMETRY, D.LayerStatus.LINEBUF]) ∧
  (∀ (dt engine : Nat), Frame (.cmpEngineFail dt engine)
      (fun d e => { d with raised := e.raised, knot := e.knot, events := e.events, ring := e.ring })
      [D.KnotStatus.FULL, D.LayerStatus.ENGINE_FAILED]) ∧
  (∀ (dt ctx : Nat), Frame (.delayChangeApply dt ctx)
      (fun d e => { d with flow := e.flow })
      []) ∧
  (∀ (dt group block : Nat), Frame (.salvoVoteRx dt group block)
      (fun d e => { d with rcp := e.rcp, twin := e.twin, xp := e.xp })
      [D.GroupCounters.MARKERS_RX, D.MgCounters.RCP_FRAMES, D.MgStatus.CONFIRM_PENDING, D.Salvo.TWIN_ABSENT]) ∧
  (∀ (dt slot : Nat), Frame (.salvoVoteDeadline dt slot)
      (fun d e => { d with xp := e.xp })
      []) ∧
  (∀ (dt slot : Nat), Frame (.salvoQueryTimer dt slot)
      (fun d e => { d with xp := e.xp, dwl := e.dwl })
      [D.DwlLane.LCOUNT_TX, D.DwlLane.RANK, D.GroupCounters.CELLS_TX, D.GroupCounters.MGMT_TX, D.GroupStatus.ACTIVE_LANES, D.GroupStatus.CAPACITY_MBPS]) ∧
  (∀ (dt group block : Nat), Frame (.salvoQueryRx dt group block)
      (fun d e => { d with rcp := e.rcp, xp := e.xp, dwl := e.dwl })
      [D.DwlLane.LCOUNT_TX, D.DwlLane.RANK, D.GroupCounters.CELLS_TX, D.GroupCounters.MARKERS_RX, D.GroupCounters.MGMT_TX, D.GroupStatus.ACTIVE_LANES, D.GroupStatus.CAPACITY_MBPS, D.MgCounters.RCP_FRAMES, D.MgStatus.CONFIRM_PENDING]) ∧
  (∀ (dt slot : Nat), Frame (.salvoTakeTimeReached dt slot)
      (fun d _ => d)
      [D.Salvo.APPLIED_TIME, D.Salvo.STATE]) ∧
  (∀ (dt : Nat), Frame (.logSectorErase dt)
      (fun d e => { d with takeLog := e.takeLog })
      [D.XpCount.RECORD_GENERATION]) ∧
  (∀ (dt lane groups : Nat) (words : List Nat), Frame (.audioSampleWrite dt lane groups words)
      (fun d e => { d with raised := e.raised, audio := e.audio })
      [D.Aud.RECENTRES, D.AudLaneStatus.GROUPS_PRESENT, D.AudLaneStatus.RX_RECENTRES, D.SapStatus.RX_RECENTRES, D.SapStatus.TX_RECENTRES]) ∧
  (∀ (dt port : Nat) (slots : List Nat) (half : Bool), Frame (.sapFrame dt port slots half)
      (fun d e => { d with raised := e.raised, audio := e.audio })
      [D.Aud.RECENTRES, D.AudLaneStatus.RX_RECENTRES, D.SapStatus.LOCKED, D.SapStatus.RUNNING, D.SapStatus.RX_RECENTRES, D.SapStatus.TX_RECENTRES]) ∧
  (∀ (dt chan : Nat), Frame (.requestDeadlineMiss dt chan)
      (fun d e => { d with store := e.store })
      [D.FsPortCounters.DEADLINE_MISSES]) ∧
  (∀ (dt chan rate : Nat) (hot : Bool), Frame (.mr4Poll dt chan rate hot)
      (fun d e => { d with raised := e.raised, ended := e.ended, chan := e.chan })
      [D.ChanStatus.MR4_RATE]) ∧
  (∀ (dt chan : Nat) (issued : Bool), Frame (.srEntry dt chan issued)
      (fun d e => { d with store := e.store, chan := e.chan })
      [D.ChanCounters.SR_ENTRIES, D.ChanStatus.PASR_MASK, D.ChanStatus.SELF_REFRESH]) ∧
  (∀ (dt chan : Nat), Frame (.srExit dt chan)
      (fun d e => { d with chan := e.chan })
      [D.ChanCounters.SR_ABORTS, D.ChanStatus.PASR_MASK, D.ChanStatus.SELF_REFRESH, D.IslandStatus.STATE, D.IslandStatus.WAKES]) ∧
  (∀ (dt chan : Nat) (pass : Bool) (defects : List Nat), Frame (.chanTrainingSetDone dt chan pass defects)
      (fun d e => { d with raised := e.raised, ended := e.ended, store := e.store, chan := e.chan, knot := e.knot, events := e.events, ring := e.ring })
      [D.ChanCounters.BLOCKS_SUBSTITUTED, D.ChanCounters.ROWS_REPAIRED, D.ChanCounters.SETS_FAILED, D.ChanStatus.PASR_MASK, D.ChanStatus.SET_IN_USE, D.ChanStatus.STATE, D.Fs.LAST_RETIRED_CHANNEL, D.KnotStatus.FULL]) ∧
  (∀ (dt chan : Nat), Frame (.delayRecentre dt chan)
      (fun d e => { d with freeIdx := e.freeIdx, chan := e.chan })
      []) ∧
  (∀ (dt chan : Nat), Frame (.chanDegradeCheck dt chan)
      (fun d e => { d with raised := e.raised, chan := e.chan })
      [D.ChanStatus.STATE]) ∧
  (∀ (dt handle logical : Nat), FrameBut (.blockRelocated dt handle logical)
      (fun d e => { d with raised := e.raised, store := e.store, chan := e.chan, knot := e.knot, events := e.events, ring := e.ring })
      [D.ChanCounters.RETRAINS, D.ChanStatus.PASR_MASK, D.ChanStatus.SELF_REFRESH, D.ChanStatus.STATE, D.Fs.LAST_RETIRED_CHANNEL, D.FsPortCounters.BYTES, D.KnotStatus.FULL]) ∧
  (∀ (dt block row : Nat) (ok : Bool), Frame (.patrolTest dt block row ok)
      (fun d e => { d with raised := e.raised, store := e.store, chan := e.chan, knot := e.knot, events := e.events, ring := e.ring })
      [D.ChanCounters.BLOCKS_SUBSTITUTED, D.ChanStatus.PASR_MASK, D.FsPortCounters.BYTES, D.KnotStatus.FULL]) ∧
  (∀ (dt : Nat), Frame (.twinPairingSend dt)
      (fun d e => { d with twin := e.twin, netTx := e.netTx, dwl := e.dwl, phy := e.phy })
      [D.DwlLane.ATTEMPTS, D.DwlLane.LANE_STATE, D.DwlLane.LCOUNT_RX, D.DwlLane.LCOUNT_TX, D.DwlLane.PEER_HOLD, D.DwlLane.RANK, D.DwlLane.STEP, D.GroupCounters.CELLS_TX, D.GroupCounters.MGMT_TX, D.GroupStatus.ACTIVE_LANES, D.GroupStatus.CAPACITY_MBPS, D.LaneStatus.CDR_LOCKED, D.LaneStatus.USE, D.LegStatus.ANCHORED, D.LegStatus.TWIN_SENDING, D.Margin.SCAN_STATE, D.Twin.ROLE, D.Twin.STATE]) ∧
  (∀ (dt block : Nat), Frame (.twinPairingRx dt block)
      (fun d e => { d with raised := e.raised, twin := e.twin, netTx := e.netTx, dwl := e.dwl, phy := e.phy })
      [D.DwlLane.ATTEMPTS, D.DwlLane.LANE_STATE, D.DwlLane.LCOUNT_RX, D.DwlLane.LCOUNT_TX, D.DwlLane.PEER_HOLD, D.DwlLane.RANK, D.DwlLane.STEP, D.GroupCounters.CELLS_TX, D.GroupCounters.MGMT_TX, D.GroupStatus.ACTIVE_LANES, D.GroupStatus.CAPACITY_MBPS, D.LaneStatus.CDR_LOCKED, D.LaneStatus.USE, D.LegStatus.ANCHORED, D.LegStatus.TWIN_SENDING, D.Margin.SCAN_STATE, D.Twin.PEER_ID, D.Twin.ROLE, D.Twin.STATE]) ∧
  (∀ (dt : Nat) (stats : List (Nat × Nat × Nat × Nat)) (copy : TwinCopy), FrameOver (.twinCopyDone dt stats copy)
      (fun d e => { d with twin := e.twin, netTx := e.netTx, time := e.time, ref := e.ref, dpll := e.dpll })
      [D.LegStatus.ANCHORED, D.LegStatus.TWIN_SENDING, D.Twin.PAIRED_TIME, D.Twin.RESYNCS, D.Twin.ROLE, D.Twin.STATE]
      (fun _ k => copied k.ix k.sub)) ∧
  (∀ (dt : Nat), Frame (.twinPairingTimeout dt)
      (fun d e => { d with twin := e.twin, netTx := e.netTx, dwl := e.dwl, phy := e.phy })
      [D.DwlLane.ATTEMPTS, D.DwlLane.LANE_STATE, D.DwlLane.LCOUNT_RX, D.DwlLane.LCOUNT_TX, D.DwlLane.PEER_HOLD, D.DwlLane.RANK, D.DwlLane.STEP, D.GroupCounters.CELLS_TX, D.GroupCounters.MGMT_TX, D.GroupStatus.ACTIVE_LANES, D.GroupStatus.CAPACITY_MBPS, D.LaneStatus.CDR_LOCKED, D.LaneStatus.USE, D.LegStatus.ANCHORED, D.LegStatus.TWIN_SENDING, D.Margin.SCAN_STATE, D.Twin.ROLE, D.Twin.STATE]) ∧
  (∀ (dt : Nat) (reset : Bool), Frame (.twinLost dt reset)
      (fun d e => { d with raised := e.raised, twin := e.twin, netTx := e.netTx, dwl := e.dwl, phy := e.phy })
      [D.DwlLane.ATTEMPTS, D.DwlLane.LANE_STATE, D.DwlLane.LCOUNT_RX, D.DwlLane.LCOUNT_TX, D.DwlLane.PEER_HOLD, D.DwlLane.RANK, D.DwlLane.STEP, D.GroupCounters.CELLS_TX, D.GroupCounters.MGMT_TX, D.GroupStatus.ACTIVE_LANES, D.GroupStatus.CAPACITY_MBPS, D.LaneStatus.CDR_LOCKED, D.LaneStatus.USE, D.LegStatus.ANCHORED, D.LegStatus.TWIN_SENDING, D.Margin.SCAN_STATE, D.Twin.ABANDONED, D.Twin.LOSSES, D.Twin.ROLE, D.Twin.STATE]) ∧
  (∀ (dt ctx source boundary crc : Nat), Frame (.twinSignatureRx dt ctx source boundary crc)
      (fun d e => { d with twin := e.twin })
      [D.Twin.SIG_MISMATCHES]) ∧
  (∀ (dt : Nat), Frame (.twinAnchorSend dt)
      (fun d e => { d with twin := e.twin, dwl := e.dwl })
      [D.DwlLane.LCOUNT_TX, D.DwlLane.RANK, D.GroupCounters.CELLS_TX, D.GroupCounters.MGMT_TX, D.GroupStatus.ACTIVE_LANES, D.GroupStatus.CAPACITY_MBPS, D.LegStatus.ANCHORED, D.LegStatus.ANCHOR_SEQ]) ∧
  (∀ (dt ctx : Nat) (anchor : Nat × Nat) (running : Bool), Frame (.twinAnchorRx dt ctx anchor running)
      (fun d e => { d with twin := e.twin, netTx := e.netTx, dwl := e.dwl })
      [D.DwlLane.LCOUNT_TX, D.DwlLane.RANK, D.GroupCounters.CELLS_TX, D.GroupCounters.MGMT_TX, D.GroupStatus.ACTIVE_LANES, D.GroupStatus.CAPACITY_MBPS, D.LegStatus.ANCHORED, D.LegStatus.ANCHOR_SEQ, D.LegStatus.TWIN_SENDING])

/-- Each of the commands of the dictionary, dowels and lanes, time and references, security, faults, resets, power and the ring log, where it answers a next state, keeps the queue, the frame store (but for the bytes of those that store there), every part of the device the statement does not name for it, and every dictionary field apart from those the statement lists for it. A fallback and a start-up stage may change the persistent entries besides. Of a reset the statement says that the flash records, the knot map, the take records, the SRAM rows, withdrawn and substituted blocks, the ownership and boot control records and the fields that a POR keeps stay as they were, and that the frame store keeps its bytes or loses them all. -/
def Obligations.EventFrames : Prop :=
  (∀ (dt session : Nat), Frame (.transferTimeout dt session)
      (fun d e => { d with rcp := e.rcp })
      []) ∧
  (∀ (dt session : Nat), Frame (.heldRequestDiscard dt session)
      (fun d e => { d with rcp := e.rcp })
      []) ∧
  (∀ (dt : Nat), Frame (.groupIdleDiscard dt)
      (fun d e => { d with rcp := e.rcp })
      []) ∧
  (∀ (dt session id : Nat) (leave : Bool), Frame (.notifySend dt session id leave)
      (fun d e => { d with rcp := e.rcp })
      [D.MgCounters.TX_FRAMES, D.PortCounters.TX_FRAMES, D.Rcp.NOTIFY_LOST]) ∧
  (∀ (dt session : Nat), Frame (.sessionIdleExpiry dt session)
      (fun d e => { d with rcp := e.rcp, sec := e.sec })
      [D.Upd.UPDATE_HOLDER, D.Upd.UPDATE_STATE]) ∧
  (∀ (dt ix : Nat), Frame (.modeChangeEffect dt ix)
      (fun d e => { d with freeIdx := e.freeIdx, raised := e.raised, ended := e.ended, rcp := e.rcp, flow := e.flow, remote := e.remote, plane := e.plane, sdiRx := e.sdiRx, hold := e.hold, ctrl := e.ctrl, time := e.time, ref := e.ref, dpll := e.dpll, flip := e.flip, xp := e.xp, dwl := e.dwl, phy := e.phy })
      [D.DpllCounters.HOLDOVERS, D.DpllStatus.BUILDOUT_NS, D.DpllStatus.CURRENT, D.DpllStatus.FROZEN, D.DpllStatus.PENDING, D.DpllStatus.PHASE_MOVING, D.DpllStatus.STATE, D.DwlLane.ATTEMPTS, D.DwlLane.LANE_STATE, D.DwlLane.LCOUNT_RX, D.DwlLane.LCOUNT_TX, D.DwlLane.PEER_HOLD, D.DwlLane.RANK, D.DwlLane.STEP, D.Ens.PAIRS_MAX, D.Ens.REPLANS, D.Flow.CELLS, D.Flow.DEST_MAP, D.Flow.EFN, D.Flow.ENABLE, D.Flow.FORMAT, D.Flow.KIND, D.Flow.PATH, D.Flow.RESERVED_MBPS, D.Flow.STATE, D.FlowBind.CLASS, D.FlowBind.INDEX, D.FlowStatus.EMITTING, D.FlowStatus.ENABLE_QUEUED, D.FlowStatus.PLANNER_OWNED, D.GroupCounters.CELLS_TX, D.GroupCounters.MGMT_TX, D.GroupStatus.ACTIVE_LANES, D.GroupStatus.CAPACITY_MBPS, D.LaneStatus.CDR_LOCKED, D.LaneStatus.USE, D.Margin.SCAN_STATE, D.PortCounters.TX_FRAMES, D.RefStatus.ACTIVE, D.RefStatus.CAUSE, D.RefStatus.STATE, D.RefSticky.DISQUALIFIED, D.Time.SERVO_STATE, D.VeneerStatus.FLIP_PENDING, D.VeneerStatus.FRONT, ⟨0, 1, 0, 4294967296, true⟩]) ∧
  (∀ (dt : Nat), Frame (.journalCompaction dt)
      (fun d e => { d with flash := e.flash })
      [D.Rcp.JOURNAL_USED_PCT]) ∧
  (∀ (dt : Nat), Frame (.mgCfgEffect dt)
      (fun d e => { d with freeIdx := e.freeIdx, rcp := e.rcp })
      [D.MgCounters.RX_FCS_ERRORS, D.MgStatus.CONFIRM_PENDING, D.MgStatus.IPV4_IN_USE, D.MgStatus.IPV4_LL_IN_USE, D.MgStatus.LINK, D.MgStatus.SPEED_IN_USE]) ∧
  (∀ (dt : Nat), Frame (.rcpMgReverted dt)
      (fun d e => { d with freeIdx := e.freeIdx, raised := e.raised, rcp := e.rcp, flash := e.flash })
      [D.Mg.INBAND_IF, (Fld.whole D.Mg.MG_CFG), D.MgCounters.RX_FCS_ERRORS, D.MgStatus.CONFIRM_PENDING, D.MgStatus.IPV4_IN_USE, D.MgStatus.IPV4_LL_IN_USE, D.MgStatus.LINK, D.MgStatus.SPEED_IN_USE, D.Rcp.COMMIT_GENERATION, D.Rcp.JOURNAL_USED_PCT, D.Rcp.RCP_UDP_PORT]) ∧
  (∀ (dt ref : Nat), Frame (.refPhaseEvent dt ref)
      (fun d e => { d with freeIdx := e.freeIdx, raised := e.raised, hold := e.hold, time := e.time, ref := e.ref, dpll := e.dpll })
      [D.DpllCounters.FREEZES, D.DpllCounters.HOLDOVERS, D.DpllStatus.BUILDOUT_NS, D.DpllStatus.CURRENT, D.DpllStatus.FROZEN, D.DpllStatus.PENDING, D.DpllStatus.PHASE_MOVING, D.DpllStatus.STATE, D.RefStatus.ACTIVE, D.RefStatus.CAUSE, D.RefStatus.STATE, D.RefSticky.DISQUALIFIED, D.RefSticky.GLITCH, D.RefSticky.HARD]) ∧
  (∀ (dt ref : Nat), Frame (.refStop dt ref)
      (fun d e => { d with freeIdx := e.freeIdx, raised := e.raised, hold := e.hold, ref := e.ref, dpll := e.dpll })
      [D.DpllCounters.HOLDOVERS, D.DpllStatus.BUILDOUT_NS, D.DpllStatus.CURRENT, D.DpllStatus.FROZEN, D.DpllStatus.PENDING, D.DpllStatus.PHASE_MOVING, D.DpllStatus.STATE, D.RefStatus.ACTIVE, D.RefStatus.CAUSE, D.RefStatus.STATE, D.RefSticky.DISQUALIFIED, D.RefSticky.STOP]) ∧
  (∀ (dt ref : Nat), Frame (.refHoldoffElapsed dt ref)
      (fun d e => { d with freeIdx := e.freeIdx, raised := e.raised, hold := e.hold, dpll := e.dpll })
      [D.DpllCounters.HOLDOVERS, D.DpllStatus.BUILDOUT_NS, D.DpllStatus.CURRENT, D.DpllStatus.FROZEN, D.DpllStatus.PENDING, D.DpllStatus.PHASE_MOVING, D.DpllStatus.STATE, D.RefStatus.STATE, D.RefSticky.QUALIFIED]) ∧
  (∀ (dt dpll err : Nat), Frame (.dpllLocked dt dpll err)
      (fun d e => { d with freeIdx := e.freeIdx, raised := e.raised, hold := e.hold, dpll := e.dpll })
      [D.DpllCounters.HOLDOVERS, D.DpllStatus.BUILDOUT_NS, D.DpllStatus.CURRENT, D.DpllStatus.FROZEN, D.DpllStatus.PENDING, D.DpllStatus.PHASE_MOVING, D.DpllStatus.STATE]) ∧
  (∀ (dt dpll : Nat), Frame (.dpllSwitchMeasured dt dpll)
      (fun d e => { d with freeIdx := e.freeIdx, raised := e.raised, hold := e.hold, dpll := e.dpll })
      [D.DpllCounters.HOLDOVERS, D.DpllCounters.SWITCHES, D.DpllStatus.BUILDOUT_NS, D.DpllStatus.CURRENT, D.DpllStatus.FROZEN, D.DpllStatus.PENDING, D.DpllStatus.PHASE_MOVING, D.DpllStatus.STATE]) ∧
  (∀ (dt dpll : Nat), Frame (.dpllHoldoverExpiry dt dpll)
      (fun d e => { d with raised := e.raised, dpll := e.dpll })
      [D.DpllStatus.FROZEN, D.DpllStatus.PENDING, D.DpllStatus.PHASE_MOVING, D.DpllStatus.STATE]) ∧
  (∀ (dt dpll : Nat), Frame (.dpllPhaseMoveDone dt dpll)
      (fun d e => { d with dpll := e.dpll })
      [D.DpllCounters.PHASE_STEPS, D.DpllStatus.BUILDOUT_NS, D.DpllStatus.PHASE_MOVING]) ∧
  (∀ (dt : Nat), Frame (.servoSample dt)
      (fun d e => { d with freeIdx := e.freeIdx, raised := e.raised, hold := e.hold, time := e.time, ref := e.ref, dpll := e.dpll })
      [D.DpllCounters.HOLDOVERS, D.DpllStatus.BUILDOUT_NS, D.DpllStatus.CURRENT, D.DpllStatus.FROZEN, D.DpllStatus.PENDING, D.DpllStatus.PHASE_MOVING, D.DpllStatus.STATE, D.PtpCounters.SAMPLES_REJECTED, D.RefStatus.ACTIVE, D.RefStatus.CAUSE, D.RefStatus.STATE, D.RefSticky.DISQUALIFIED, D.Time.OFFSET_NS, D.Time.SERVO_STATE]) ∧
  (∀ (dt : Nat), Frame (.servoSampleTimeout dt)
      (fun d e => { d with freeIdx := e.freeIdx, raised := e.raised, hold := e.hold, time := e.time, ref := e.ref, dpll := e.dpll })
      [D.DpllCounters.HOLDOVERS, D.DpllStatus.BUILDOUT_NS, D.DpllStatus.CURRENT, D.DpllStatus.FROZEN, D.DpllStatus.PENDING, D.DpllStatus.PHASE_MOVING, D.DpllStatus.STATE, D.RefStatus.ACTIVE, D.RefStatus.CAUSE, D.RefStatus.STATE, D.RefSticky.DISQUALIFIED, D.Time.SERVO_STATE]) ∧
  (∀ (dt : Nat), Frame (.servoHoldoverExpiry dt)
      (fun d e => { d with freeIdx := e.freeIdx, raised := e.raised, hold := e.hold, time := e.time, ref := e.ref, dpll := e.dpll })
      [D.DpllCounters.HOLDOVERS, D.DpllStatus.BUILDOUT_NS, D.DpllStatus.CURRENT, D.DpllStatus.FROZEN, D.DpllStatus.PENDING, D.DpllStatus.PHASE_MOVING, D.DpllStatus.STATE, D.RefStatus.ACTIVE, D.RefStatus.CAUSE, D.RefStatus.STATE, D.RefSticky.DISQUALIFIED, D.Time.SERVO_STATE]) ∧
  (∀ (dt iface : Nat), Frame (.ptpDelayReqTx dt iface)
      (fun d e => { d with time := e.time })
      [D.PortCounters.TX_FRAMES, D.PtpCounters.DELAY_REQ_TX]) ∧
  (∀ (dt iface : Nat) (m : PtpMsg), Frame (.ptpEventRx dt iface m)
      (fun d e => { d with time := e.time })
      [D.PortCounters.TX_FRAMES, D.Ptp.PTP_SAMPLE, D.PtpCounters.DELAY_RESP_RX, D.PtpCounters.SAMPLES, D.PtpCounters.SYNC_RX, D.PtpStatus.MEAN_PATH_NS, D.PtpStatus.PORT_STATE, D.Tc.MEAN_LINK_DELAY]) ∧
  (∀ (dt iface kind domain seq rx : Nat) (corr : Int) (msg : TcMsg), Frame (.tcRelay dt iface kind domain seq rx corr msg)
      (fun d _ => d)
      [D.PortCounters.TX_FRAMES, D.Tc.TC_DROPPED, D.Tc.TC_RELAYED]) ∧
  (∀ (dt : Nat), Frame (.leapSecond dt)
      (fun d e => { d with time := e.time })
      [D.PtpStatus.LEAP59, D.PtpStatus.LEAP61]) ∧
  (∀ (dt output : Nat), Frame (.timeOutputEdge dt output)
      (fun d e => { d with time := e.time })
      []) ∧
  (∀ (dt group lane block : Nat), Frame (.dwlReplayReqRx dt group lane block)
      (fun d e => { d with raised := e.raised, twin := e.twin, dwl := e.dwl, phy := e.phy })
      [D.DwlLane.ATTEMPTS, D.DwlLane.LANE_STATE, D.DwlLane.LCOUNT_RX, D.DwlLane.LCOUNT_TX, D.DwlLane.PEER_HOLD, D.DwlLane.RANK, D.DwlLane.STEP, D.DwlLaneCounters.REPLAY_REQ_RECEIVED, D.GroupCounters.CELLS_TX, D.GroupCounters.MGMT_TX, D.GroupCounters.REPLAYS, D.GroupCounters.REPLAYS_FAILED, D.GroupCounters.SETS_DROPPED, D.GroupStatus.ACTIVE_LANES, D.GroupStatus.CAPACITY_MBPS, D.LaneStatus.CDR_LOCKED, D.LaneStatus.SPARED, D.LaneStatus.USE, D.Margin.SCAN_STATE, D.Phy.DWL_SPARES_READY, D.Phy.LAST_SWAP_LANE, D.Phy.SWAPS]) ∧
  (∀ (dt : Nat), Frame (.dwlMsgTimeout dt)
      (fun d e => { d with dwl := e.dwl, phy := e.phy })
      [D.DwlLane.ATTEMPTS, D.DwlLane.LANE_STATE, D.DwlLane.LCOUNT_RX, D.DwlLane.LCOUNT_TX, D.DwlLane.PEER_HOLD, D.DwlLane.RANK, D.DwlLane.STEP, D.Ens.MSG_DROPPED, D.GroupCounters.CELLS_TX, D.GroupCounters.MGMT_TX, D.GroupStatus.ACTIVE_LANES, D.GroupStatus.CAPACITY_MBPS, D.LaneStatus.CDR_LOCKED, D.LaneStatus.USE, D.Margin.SCAN_STATE]) ∧
  (∀ (dt group : Nat) (lane : Nat × Option Nat), Frame (.dwlStepFailure dt group lane)
      (fun d e => { d with raised := e.raised, knot := e.knot, events := e.events, dwl := e.dwl, phy := e.phy, ring := e.ring })
      [D.DwlLane.ATTEMPTS, D.DwlLane.LANE_STATE, D.DwlLane.LCOUNT_RX, D.DwlLane.LCOUNT_TX, D.DwlLane.PEER_HOLD, D.DwlLane.RANK, D.DwlLane.STEP, D.DwlLaneCounters.STEP_FAILURES, D.GroupCounters.CELLS_TX, D.GroupCounters.MGMT_TX, D.GroupStatus.ACTIVE_LANES, D.GroupStatus.CAPACITY_MBPS, D.KnotStatus.FULL, D.LaneStatus.CDR_LOCKED, D.LaneStatus.USE, D.Margin.SCAN_STATE, D.Phy.DWL_SPARES_READY]) ∧
  (∀ (dt group : Nat), Frame (.groupMiswiredRetry dt group)
      (fun d e => { d with dwl := e.dwl, phy := e.phy })
      [D.DwlLane.ATTEMPTS, D.DwlLane.LANE_STATE, D.DwlLane.LCOUNT_RX, D.DwlLane.LCOUNT_TX, D.DwlLane.PEER_HOLD, D.DwlLane.RANK, D.DwlLane.STEP, D.Ens.ENSEMBLE_STATE, D.Ens.MEMBERS_UP, D.GroupCounters.CELLS_TX, D.GroupCounters.MGMT_TX, D.GroupStatus.ACTIVE_LANES, D.GroupStatus.CAPACITY_MBPS, D.GroupStatus.STATE, D.LaneStatus.CDR_LOCKED, D.LaneStatus.USE, D.Margin.SCAN_STATE, D.RefArea.FOLLOW_GROUP]) ∧
  (∀ (dt : Nat), Frame (.chainFrameTx dt)
      (fun d e => { d with dwl := e.dwl })
      []) ∧
  (∀ (dt : Nat), Frame (.chainLost dt)
      (fun d e => { d with raised := e.raised, dwl := e.dwl, phy := e.phy })
      [D.DwlLane.ATTEMPTS, D.DwlLane.LANE_STATE, D.DwlLane.LCOUNT_RX, D.DwlLane.LCOUNT_TX, D.DwlLane.PEER_HOLD, D.DwlLane.RANK, D.DwlLane.STEP, D.GroupCounters.CELLS_TX, D.GroupCounters.MGMT_TX, D.GroupStatus.ACTIVE_LANES, D.GroupStatus.CAPACITY_MBPS, D.LaneStatus.CDR_LOCKED, D.LaneStatus.USE, D.Margin.SCAN_STATE]) ∧
  (∀ (dt : Nat), Frame (.memberReportTx dt)
      (fun d e => { d with dwl := e.dwl, phy := e.phy })
      [D.DwlLane.ATTEMPTS, D.DwlLane.LANE_STATE, D.DwlLane.LCOUNT_RX, D.DwlLane.LCOUNT_TX, D.DwlLane.PEER_HOLD, D.DwlLane.RANK, D.DwlLane.STEP, D.GroupCounters.CELLS_TX, D.GroupCounters.MGMT_TX, D.GroupStatus.ACTIVE_LANES, D.GroupStatus.CAPACITY_MBPS, D.LaneStatus.CDR_LOCKED, D.LaneStatus.USE, D.Margin.SCAN_STATE]) ∧
  (∀ (dt group length : Nat), Frame (.memberReportRx dt group length)
      (fun d e => { d with dwl := e.dwl, phy := e.phy })
      [D.DwlLane.ATTEMPTS, D.DwlLane.LANE_STATE, D.DwlLane.LCOUNT_RX, D.DwlLane.LCOUNT_TX, D.DwlLane.PEER_HOLD, D.DwlLane.RANK, D.DwlLane.STEP, D.Ens.CHAIN_LENGTH, D.Ens.ENSEMBLE_STATE, D.Ens.MEMBERS_UP, D.GroupCounters.CELLS_TX, D.GroupCounters.MGMT_TX, D.GroupStatus.ACTIVE_LANES, D.GroupStatus.CAPACITY_MBPS, D.LaneStatus.CDR_LOCKED, D.LaneStatus.USE, D.Margin.SCAN_STATE, D.RefArea.FOLLOW_GROUP]) ∧
  (∀ (dt : Nat), Frame (.chainShortTimeout dt)
      (fun d e => { d with raised := e.raised, dwl := e.dwl, phy := e.phy })
      [D.DwlLane.ATTEMPTS, D.DwlLane.LANE_STATE, D.DwlLane.LCOUNT_RX, D.DwlLane.LCOUNT_TX, D.DwlLane.PEER_HOLD, D.DwlLane.RANK, D.DwlLane.STEP, D.GroupCounters.CELLS_TX, D.GroupCounters.MGMT_TX, D.GroupStatus.ACTIVE_LANES, D.GroupStatus.CAPACITY_MBPS, D.LaneStatus.CDR_LOCKED, D.LaneStatus.USE, D.Margin.SCAN_STATE]) ∧
  (∀ (dt group : Nat), Frame (.beaconTx dt group)
      (fun d e => { d with dwl := e.dwl, phy := e.phy })
      [D.DwlLane.ATTEMPTS, D.DwlLane.LANE_STATE, D.DwlLane.LCOUNT_RX, D.DwlLane.LCOUNT_TX, D.DwlLane.PEER_HOLD, D.DwlLane.RANK, D.DwlLane.STEP, D.GroupCounters.CELLS_TX, D.GroupCounters.MGMT_TX, D.GroupStatus.ACTIVE_LANES, D.GroupStatus.CAPACITY_MBPS, D.LaneStatus.CDR_LOCKED, D.LaneStatus.USE, D.Margin.SCAN_STATE]) ∧
  (∀ (dt group block : Nat), Frame (.beaconRx dt group block)
      (fun d e => { d with flt := e.flt, twin := e.twin, time := e.time, dwl := e.dwl, phy := e.phy })
      [D.DwlLane.ATTEMPTS, D.DwlLane.LANE_STATE, D.DwlLane.LCOUNT_RX, D.DwlLane.LCOUNT_TX, D.DwlLane.PEER_HOLD, D.DwlLane.RANK, D.DwlLane.STEP, D.GroupCounters.BEACONS_RX, D.GroupCounters.CELLS_TX, D.GroupCounters.MGMT_TX, D.GroupCounters.SETS_DROPPED, D.GroupStatus.ACTIVE_LANES, D.GroupStatus.BEACON_OK, D.GroupStatus.CAPACITY_MBPS, D.GroupStatus.LINK_DELAY_NS, D.GroupStatus.PEER_OFFSET_NS, D.LaneStatus.CDR_LOCKED, D.LaneStatus.USE, D.Margin.SCAN_STATE, D.RefArea.FOLLOW_GROUP, D.Summary.FIRST_KNOWN, D.Summary.FIRST_MEMBER, D.Summary.FIRST_SOURCE, D.Summary.STICKY, D.Summary.TIE, D.Summary.VALID, D.Twin.TIME_SKEW_NS]) ∧
  (∀ (dt group : Nat), Frame (.beaconLost dt group)
      (fun d e => { d with freeIdx := e.freeIdx, raised := e.raised, hold := e.hold, time := e.time, ref := e.ref, dpll := e.dpll, dwl := e.dwl, phy := e.phy })
      [D.DpllCounters.HOLDOVERS, D.DpllStatus.BUILDOUT_NS, D.DpllStatus.CURRENT, D.DpllStatus.FROZEN, D.DpllStatus.PENDING, D.DpllStatus.PHASE_MOVING, D.DpllStatus.STATE, D.DwlLane.ATTEMPTS, D.DwlLane.LANE_STATE, D.DwlLane.LCOUNT_RX, D.DwlLane.LCOUNT_TX, D.DwlLane.PEER_HOLD, D.DwlLane.RANK, D.DwlLane.STEP, D.GroupCounters.BEACONS_LOST, D.GroupCounters.CELLS_TX, D.GroupCounters.MGMT_TX, D.GroupStatus.ACTIVE_LANES, D.GroupStatus.BEACON_OK, D.GroupStatus.CAPACITY_MBPS, D.LaneStatus.CDR_LOCKED, D.LaneStatus.USE, D.Margin.SCAN_STATE, D.RefArea.FOLLOW_GROUP, D.RefStatus.ACTIVE, D.RefStatus.CAUSE, D.RefStatus.STATE, D.RefSticky.DISQUALIFIED, D.Time.SERVO_STATE]) ∧
  (∀ (dt lane width height : Nat), Frame (.marginScanDone dt lane width height)
      (fun d e => { d with dwl := e.dwl, phy := e.phy })
      [D.DwlLane.ATTEMPTS, D.DwlLane.LANE_STATE, D.DwlLane.LCOUNT_RX, D.DwlLane.LCOUNT_TX, D.DwlLane.PEER_HOLD, D.DwlLane.RANK, D.DwlLane.STEP, D.GroupCounters.CELLS_TX, D.GroupCounters.MGMT_TX, D.GroupStatus.ACTIVE_LANES, D.GroupStatus.CAPACITY_MBPS, D.LaneStatus.CDR_LOCKED, D.LaneStatus.USE, D.Margin.HEIGHT_MV, D.Margin.SCAN_MS, D.Margin.SCAN_STATE, D.Margin.WIDTH_MUI]) ∧
  (∀ (dt group errors : Nat), Frame (.spareReadinessCheck dt group errors)
      (fun d e => { d with raised := e.raised, dwl := e.dwl, phy := e.phy })
      [D.DwlLane.ATTEMPTS, D.DwlLane.LANE_STATE, D.DwlLane.LCOUNT_RX, D.DwlLane.LCOUNT_TX, D.DwlLane.PEER_HOLD, D.DwlLane.RANK, D.DwlLane.STEP, D.GroupCounters.CELLS_TX, D.GroupCounters.MGMT_TX, D.GroupStatus.ACTIVE_LANES, D.GroupStatus.CAPACITY_MBPS, D.LaneStatus.CDR_LOCKED, D.LaneStatus.USE, D.Margin.SCAN_STATE, D.Phy.DWL_SPARES_READY, D.PrbsCounters.BITS, D.PrbsCounters.ERRORS]) ∧
  (∀ (dt lane : Nat) (locks : Bool), Frame (.sdiSliceSpare dt lane locks)
      (fun d e => { d with raised := e.raised, knot := e.knot, events := e.events, ring := e.ring })
      [D.KnotStatus.FULL, D.LaneStatus.SPARED, D.LaneStatus.USE, D.SliceMap.IN_USE, D.SliceMap.LANE]) ∧
  (∀ (dt lane : Nat), Frame (.prbsCheckerLock dt lane)
      (fun d e => { d with dwl := e.dwl, phy := e.phy })
      [D.DwlLane.ATTEMPTS, D.DwlLane.LANE_STATE, D.DwlLane.LCOUNT_RX, D.DwlLane.LCOUNT_TX, D.DwlLane.PEER_HOLD, D.DwlLane.RANK, D.DwlLane.STEP, D.GroupCounters.CELLS_TX, D.GroupCounters.MGMT_TX, D.GroupStatus.ACTIVE_LANES, D.GroupStatus.CAPACITY_MBPS, D.LaneStatus.CDR_LOCKED, D.LaneStatus.PRBS_LOCK, D.LaneStatus.USE, D.Margin.SCAN_STATE]) ∧
  (∀ (dt lane bits errors : Nat), Frame (.prbsCheckerUnlock dt lane bits errors)
      (fun d e => { d with dwl := e.dwl, phy := e.phy })
      [D.DwlLane.ATTEMPTS, D.DwlLane.LANE_STATE, D.DwlLane.LCOUNT_RX, D.DwlLane.LCOUNT_TX, D.DwlLane.PEER_HOLD, D.DwlLane.RANK, D.DwlLane.STEP, D.GroupCounters.CELLS_TX, D.GroupCounters.MGMT_TX, D.GroupStatus.ACTIVE_LANES, D.GroupStatus.CAPACITY_MBPS, D.LaneStatus.CDR_LOCKED, D.LaneStatus.PRBS_LOCK, D.LaneStatus.USE, D.Margin.SCAN_STATE, D.PrbsCounters.BITS, D.PrbsCounters.ERRORS, D.PrbsCounters.LOCK_LOSSES]) ∧
  (∀ (dt : Nat), Frame (.enrolWindowExpiry dt)
      (fun d e => { d with sec := e.sec })
      []) ∧
  (∀ (dt : Nat), Frame (.updateIdleExpiry dt)
      (fun d e => { d with sec := e.sec })
      [D.Upd.UPDATE_HOLDER, D.Upd.UPDATE_STATE]) ∧
  (∀ (dt : Nat), Frame (.activationStepDone dt)
      (fun d e => { d with rst := e.rst, rcp := e.rcp, hold := e.hold, sec := e.sec })
      [D.FlowStatus.SAFE, D.NetTxCounters.SAFE_ENTRIES, D.NetTxStatus.SAFE, D.NetTxStatus.SAFE_HOLD, D.SdiTxCounters.SAFE_ENTRIES, D.SdiTxStatus.SAFE, D.SdiTxStatus.SAFE_HOLD, D.Upd.UPDATE_STATE]) ∧
  (∀ (dt : Nat), Frame (.activationStepTimeout dt)
      (fun d e => { d with raised := e.raised, sec := e.sec })
      [D.Upd.CONFIRMED_SLOT, D.Upd.TRIAL_SLOT, D.Upd.UPDATE_STATE]) ∧
  (∀ (dt : Nat), Frame (.trialTimerEnd dt)
      (fun d e => { d with events := e.events, sec := e.sec })
      [D.Upd.CONFIRMED_SLOT, D.Upd.TRIAL_SLOT, D.Upd.UPDATE_STATE]) ∧
  (∀ (dt : Nat), FrameOver (.fallbackDone dt)
      (fun d e => { d with raised := e.raised, rcp := e.rcp, flash := e.flash, events := e.events, sec := e.sec })
      [D.Ident.FRAME_ID, D.Mg.INBAND_IF, (Fld.whole D.Mg.MG_CFG), D.Rcp.JOURNAL_USED_PCT, D.Rcp.RCP_UDP_PORT, D.Sec.OWNER_GENERATION, D.Sec.OWNER_PUBLIC, D.Sec.OWNER_STATE, (Fld.whole D.Sec.POLICY), D.Upd.CONFIRMED_SLOT, D.Upd.FALLBACKS, D.Upd.TRIAL_SLOT, D.Upd.UPDATE_STATE]
      (fun _ k => persistKey k)) ∧
  (∀ (dt : Nat), Frame (.slotRCopyDone dt)
      (fun d e => { d with sec := e.sec })
      []) ∧
  (∀ (dt gbit : Nat) (failed tiles engines planes : List Nat) (slices : List (Nat × Nat)), FrameOver (.startupStageDone dt gbit failed tiles engines planes slices)
      (fun d e => { d with freeIdx := e.freeIdx, raised := e.raised, ended := e.ended, rst := e.rst, rcp := e.rcp, flash := e.flash, flow := e.flow, remote := e.remote, plane := e.plane, sdiRx := e.sdiRx, hold := e.hold, store := e.store, chan := e.chan, knot := e.knot, events := e.events, time := e.time, ref := e.ref, dpll := e.dpll, tile := e.tile, tileAgain := e.tileAgain, layer := e.layer, flip := e.flip, audio := e.audio, pool := e.pool, xp := e.xp, takeLog := e.takeLog, dwl := e.dwl, phy := e.phy, sec := e.sec, pwr := e.pwr, ring := e.ring })
      [D.Aud.AFV_MISSES, D.ChanStatus.PASR_MASK, D.ChanStatus.STATE, D.Dest.CURRENT_SOURCES, D.DestStatus.FOLLOWING, D.DestStatus.FOLLOW_UNMAPPED, D.DpllCounters.HOLDOVERS, D.DpllStatus.BUILDOUT_NS, D.DpllStatus.CURRENT, D.DpllStatus.FROZEN, D.DpllStatus.PENDING, D.DpllStatus.PHASE_MOVING, D.DpllStatus.STATE, D.DwlLane.ATTEMPTS, D.DwlLane.LANE_STATE, D.DwlLane.LCOUNT_RX, D.DwlLane.LCOUNT_TX, D.DwlLane.PEER_HOLD, D.DwlLane.RANK, D.DwlLane.STEP, D.Ens.ENSEMBLE_STATE, D.Ens.MEMBER, D.Ens.MEMBERS_UP, D.Ens.PAIRS_MAX, D.Ens.POSITION, D.Ens.REPLANS, D.Ens.TAILSTOCK, D.Flow.CELLS, D.Flow.DEST_MAP, D.Flow.EFN, D.Flow.ENABLE, D.Flow.FORMAT, D.Flow.KIND, D.Flow.PATH, D.Flow.RESERVED_MBPS, D.Flow.STATE, D.FlowBind.CLASS, D.FlowBind.INDEX, D.FlowStatus.EMITTING, D.FlowStatus.ENABLE_QUEUED, D.FlowStatus.PLANNER_OWNED, D.FlowStatus.SAFE, D.FlowStatus.SOURCE_LOST, D.Fs.SHRINK_EVENTS, D.GroupCounters.CELLS_TX, D.GroupCounters.MGMT_TX, D.GroupStatus.ACTIVE_LANES, D.GroupStatus.BEACON_OK, D.GroupStatus.CAPACITY_MBPS, D.GroupStatus.PEER_CARD, D.GroupStatus.PEER_GROUP, D.GroupStatus.PEER_MEMBER, D.GroupStatus.SDI_RESERVE_MBPS, D.GroupStatus.STATE, D.Ident.FRAME_ID, D.Ident.FRAME_ID_IN_USE, D.KnotStatus.COPY_0_VALID, D.KnotStatus.COPY_1_VALID, D.KnotStatus.FULL, D.KnotStatus.REBUILT, D.LaneStatus.CDR_LOCKED, D.LaneStatus.SPARED, D.LaneStatus.USE, D.LayerStatus.UNAVAILABLE, D.LayerStatus.UNBACKED, D.Margin.SCAN_STATE, D.Mg.INBAND_IF, (Fld.whole D.Mg.MG_CFG), D.NetTxCounters.SAFE_ENTRIES, D.NetTxStatus.HOLD_READY, D.NetTxStatus.SAFE, D.NetTxStatus.SAFE_HOLD, D.Plane.FAILURES, D.Plane.LAST_FAIL_CAUSE, D.Plane.LAST_FAIL_TIME, D.Plane.STATE, D.PlaneHealth.BIST_PASS, D.PlaneHealth.IN_SERVICE, D.PlaneHealth.ROLE_ACTIVE, D.PlaneHealth.SPARE_IN_USE, D.PlaneHealth.STALL_SEEN, D.PortStatus.LINK, D.PtpCounters.GM_CHANGES, D.PtpStatus.GM_CLASS, D.PtpStatus.GM_IDENTITY, D.PtpStatus.LEAP59, D.PtpStatus.LEAP61, D.PtpStatus.ON_IF_B, D.PtpStatus.PARENT_IDENTITY, D.PtpStatus.PARENT_PORT, D.PtpStatus.PORT_STATE, D.PtpStatus.STEPS_REMOVED, D.PtpStatus.TIME_TRACEABLE, D.PtpStatus.UTC_VALID, D.Rcp.JOURNAL_USED_PCT, D.Rcp.RCP_UDP_PORT, D.RefArea.FOLLOW_GROUP, D.RefStatus.ACTIVE, D.RefStatus.CAUSE, D.RefStatus.STATE, D.RefSticky.DISQUALIFIED, D.Rst.STARTUP_MS, D.Rst.STARTUP_STAGE, D.Salvo.EPOCH, D.Salvo.STATE, D.Salvo.TAKE_TIME, D.SapStatus.BCLK_HZ, D.SapStatus.DIVIDER, D.SapStatus.LOCKED, D.SapStatus.RUNNING, D.SapStatus.RX_ACTIVE, D.SapStatus.TX_ACTIVE, D.SdiTxCounters.SAFE_ENTRIES, D.SdiTxStatus.HOLD_READY, D.SdiTxStatus.SAFE, D.SdiTxStatus.SAFE_HOLD, D.Sec.OWNER_GENERATION, D.Sec.OWNER_NONCE, D.Sec.OWNER_PUBLIC, D.Sec.OWNER_STATE, (Fld.whole D.Sec.POLICY), D.SliceMap.IN_USE, D.SliceMap.LANE, D.SpareStatus.IN_USE, D.SpareStatus.LANE, D.Tile.PHYS_TILE, D.TileMapEl.KNOT, D.TileMapEl.LOGICAL, D.TileMapEl.STATE, D.TileStatus.SUBSTITUTING, D.TileStatus.UNAVAILABLE, D.Time.SERVO_STATE, D.Upd.CONFIRMED_SLOT, D.Upd.FALLBACKS, D.Upd.SETTINGS_DEFAULTED, D.Upd.TRIAL_SLOT, D.Upd.UPDATE_STATE, D.VeneerStatus.BACK_LOST, D.VeneerStatus.FLIP_PENDING, D.VeneerStatus.FRONT, D.VeneerStatus.FRONT_LOST, D.XpCount.RECORD_GENERATION, D.XpTable.FROM_SALVO, D.XpTable.INDOUBT, D.XpTable.PENDING, D.XpTable.PENDING_DISCONNECT, D.XpTable.PENDING_SOURCE, D.XpTable.PENDING_TIME, D.XpTable.SLOT, ⟨0x0E10, 3, 0, 4294967296, false⟩]
      (fun _ k => persistKey k)) ∧
  (∀ (dt : Nat), Frame (.recoveryIntervalEnd dt)
      (fun d e => { d with sec := e.sec })
      [D.Upd.UPDATE_HOLDER, D.Upd.UPDATE_STATE]) ∧
  (∀ (dt src inst : Nat), Frame (.faultConditionEnd dt src inst)
      (fun d e => { d with ended := e.ended, flt := e.flt })
      [D.SourceStatus.ACTIVE]) ∧
  (∀ (dt : Nat), Frame (.errnMinExpiry dt)
      (fun d e => { d with flt := e.flt })
      [D.Flt.ERRN_STATE]) ∧
  (∀ (dt low : Nat), Frame (.rstNInput dt low)
      (fun d e => { d with rst := e.rst, hold := e.hold })
      [D.FlowStatus.SAFE, D.NetTxCounters.SAFE_ENTRIES, D.NetTxStatus.SAFE, D.NetTxStatus.SAFE_HOLD, D.SdiTxCounters.SAFE_ENTRIES, D.SdiTxStatus.SAFE, D.SdiTxStatus.SAFE_HOLD]) ∧
  (∀ (dt low : Nat), FrameReset (.porstAssert dt low)
      [D.Bus.ERRORS, D.DwlLane.LANE_STATE, D.DwlLane.LCOUNT_RX, D.DwlLane.LCOUNT_TX, D.DwlLane.RANK, D.DwlLane.STEP, D.DwlLaneCounters.REPLAY_REQ_SENT, D.Ens.ENSEMBLE_STATE, D.Ens.MEMBERS_UP, (Fld.whole D.ErrorLog.RESP), D.FlowStatus.SAFE, D.Flt.ERRN_STATE, D.GroupCounters.CELLS_TX, D.GroupCounters.MGMT_TX, D.GroupStatus.ACTIVE_LANES, D.GroupStatus.CAPACITY_MBPS, D.GroupStatus.STATE, D.LaneStatus.CDR_LOCKED, D.LaneStatus.SPARED, D.LaneStatus.USE, D.Margin.SCAN_STATE, D.MasterStatus.DROPPED, D.MasterStatus.ERRORS, D.NetTxCounters.SAFE_ENTRIES, D.NetTxStatus.SAFE, D.NetTxStatus.SAFE_HOLD, D.Phy.DWL_SPARES_READY, D.Phy.LAST_SWAP_LANE, D.Phy.SWAPS, D.Plane.LAST_FAIL_CAUSE, D.Plane.LAST_FAIL_TIME, D.Plane.STATE, D.PlaneHealth.IN_SERVICE, D.PlaneHealth.ROLE_ACTIVE, D.PlaneHealth.STALL_SEEN, D.RefArea.FOLLOW_GROUP, D.ResetCause.DETAIL, D.ResetCause.FOLLOWED, D.ResetCause.REACH, D.ResetCause.SOURCE, D.ResetCause.TIME, D.Rst.RESET_COUNTS, D.Rst.STARTUP_STAGE, D.SdiTxCounters.SAFE_ENTRIES, D.SdiTxStatus.SAFE, D.SdiTxStatus.SAFE_HOLD, D.Sec.DEBUG_STATE, D.TargetStatus.ISOLATED_RESPONSES, D.TargetStatus.TIMEOUTS, D.Upd.UPDATE_HOLDER, D.Upd.UPDATE_STATE]) ∧
  (∀ (dt kind ns : Nat), FrameReset (.supplyFault dt kind ns)
      [D.Bus.ERRORS, D.DwlLane.LANE_STATE, D.DwlLane.LCOUNT_RX, D.DwlLane.LCOUNT_TX, D.DwlLane.RANK, D.DwlLane.STEP, D.DwlLaneCounters.REPLAY_REQ_SENT, D.Ens.ENSEMBLE_STATE, D.Ens.MEMBERS_UP, (Fld.whole D.ErrorLog.RESP), D.FlowStatus.SAFE, D.Flt.ERRN_STATE, D.GroupCounters.CELLS_TX, D.GroupCounters.MGMT_TX, D.GroupStatus.ACTIVE_LANES, D.GroupStatus.CAPACITY_MBPS, D.GroupStatus.STATE, D.LaneStatus.CDR_LOCKED, D.LaneStatus.SPARED, D.LaneStatus.USE, D.Margin.SCAN_STATE, D.MasterStatus.DROPPED, D.MasterStatus.ERRORS, D.NetTxCounters.SAFE_ENTRIES, D.NetTxStatus.SAFE, D.NetTxStatus.SAFE_HOLD, D.Phy.DWL_SPARES_READY, D.Phy.LAST_SWAP_LANE, D.Phy.SWAPS, D.Plane.LAST_FAIL_CAUSE, D.Plane.LAST_FAIL_TIME, D.Plane.STATE, D.PlaneHealth.IN_SERVICE, D.PlaneHealth.ROLE_ACTIVE, D.PlaneHealth.STALL_SEEN, D.RefArea.FOLLOW_GROUP, D.ResetCause.DETAIL, D.ResetCause.FOLLOWED, D.ResetCause.REACH, D.ResetCause.SOURCE, D.ResetCause.TIME, D.Rst.RESET_COUNTS, D.Rst.STARTUP_STAGE, D.SdiTxCounters.SAFE_ENTRIES, D.SdiTxStatus.SAFE, D.SdiTxStatus.SAFE_HOLD, D.Sec.DEBUG_STATE, D.TargetStatus.ISOLATED_RESPONSES, D.TargetStatus.TIMEOUTS, D.Upd.UPDATE_HOLDER, D.Upd.UPDATE_STATE]) ∧
  (∀ (dt n : Nat), FrameReset (.resetAssert dt n)
      [D.Bus.ERRORS, D.DwlLane.LANE_STATE, D.DwlLane.LCOUNT_RX, D.DwlLane.LCOUNT_TX, D.DwlLane.RANK, D.DwlLane.STEP, D.DwlLaneCounters.REPLAY_REQ_SENT, D.Ens.ENSEMBLE_STATE, D.Ens.MEMBERS_UP, (Fld.whole D.ErrorLog.RESP), D.FlowStatus.SAFE, D.Flt.ERRN_STATE, D.GroupCounters.CELLS_TX, D.GroupCounters.MGMT_TX, D.GroupStatus.ACTIVE_LANES, D.GroupStatus.CAPACITY_MBPS, D.GroupStatus.STATE, D.LaneStatus.CDR_LOCKED, D.LaneStatus.SPARED, D.LaneStatus.USE, D.Margin.SCAN_STATE, D.MasterStatus.DROPPED, D.MasterStatus.ERRORS, D.NetTxCounters.SAFE_ENTRIES, D.NetTxStatus.SAFE, D.NetTxStatus.SAFE_HOLD, D.Phy.DWL_SPARES_READY, D.Phy.LAST_SWAP_LANE, D.Phy.SWAPS, D.Plane.LAST_FAIL_CAUSE, D.Plane.LAST_FAIL_TIME, D.Plane.STATE, D.PlaneHealth.IN_SERVICE, D.PlaneHealth.ROLE_ACTIVE, D.PlaneHealth.STALL_SEEN, D.RefArea.FOLLOW_GROUP, D.ResetCause.DETAIL, D.ResetCause.FOLLOWED, D.ResetCause.REACH, D.ResetCause.SOURCE, D.ResetCause.TIME, D.Rst.RESET_COUNTS, D.Rst.STARTUP_STAGE, D.SdiTxCounters.SAFE_ENTRIES, D.SdiTxStatus.SAFE, D.SdiTxStatus.SAFE_HOLD, D.Sec.DEBUG_STATE, D.TargetStatus.ISOLATED_RESPONSES, D.TargetStatus.TIMEOUTS, D.Upd.UPDATE_HOLDER, D.Upd.UPDATE_STATE]) ∧
  (∀ (dt : Nat) (temp : Int), FrameReset (.thermalSample dt temp)
      [D.Bus.ERRORS, D.DwlLane.LANE_STATE, D.DwlLane.LCOUNT_RX, D.DwlLane.LCOUNT_TX, D.DwlLane.RANK, D.DwlLane.STEP, D.DwlLaneCounters.REPLAY_REQ_SENT, D.Ens.ENSEMBLE_STATE, D.Ens.MEMBERS_UP, (Fld.whole D.ErrorLog.RESP), D.FlowStatus.SAFE, D.Flt.ERRN_STATE, D.GroupCounters.CELLS_TX, D.GroupCounters.MGMT_TX, D.GroupStatus.ACTIVE_LANES, D.GroupStatus.CAPACITY_MBPS, D.GroupStatus.STATE, D.IslandStatus.STATE, D.LaneStatus.CDR_LOCKED, D.LaneStatus.SPARED, D.LaneStatus.USE, D.Margin.SCAN_STATE, D.MasterStatus.DROPPED, D.MasterStatus.ERRORS, D.NetTxCounters.SAFE_ENTRIES, D.NetTxStatus.SAFE, D.NetTxStatus.SAFE_HOLD, D.Phy.DWL_SPARES_READY, D.Phy.LAST_SWAP_LANE, D.Phy.SWAPS, D.Plane.LAST_FAIL_CAUSE, D.Plane.LAST_FAIL_TIME, D.Plane.STATE, D.PlaneHealth.IN_SERVICE, D.PlaneHealth.ROLE_ACTIVE, D.PlaneHealth.STALL_SEEN, D.RefArea.FOLLOW_GROUP, D.ResetCause.DETAIL, D.ResetCause.FOLLOWED, D.ResetCause.REACH, D.ResetCause.SOURCE, D.ResetCause.TIME, D.Rst.RESET_COUNTS, D.Rst.STARTUP_STAGE, D.SdiTxCounters.SAFE_ENTRIES, D.SdiTxStatus.SAFE, D.SdiTxStatus.SAFE_HOLD, D.Sec.DEBUG_STATE, D.TargetStatus.ISOLATED_RESPONSES, D.TargetStatus.TIMEOUTS, D.Upd.UPDATE_HOLDER, D.Upd.UPDATE_STATE]) ∧
  (∀ (dt dom : Nat), Frame (.watchdogExpiry dt dom)
      (fun d e => { d with raised := e.raised, rst := e.rst, hold := e.hold })
      [D.FlowStatus.SAFE, D.NetTxCounters.SAFE_ENTRIES, D.NetTxStatus.SAFE, D.NetTxStatus.SAFE_HOLD, D.SdiTxCounters.SAFE_ENTRIES, D.SdiTxStatus.SAFE, D.SdiTxStatus.SAFE_HOLD]) ∧
  (∀ (dt n : Nat) (head planeB testMode : Bool) (geo : Nat), Frame (.resetRelease dt n head planeB testMode geo)
      (fun d e => { d with raised := e.raised, rst := e.rst, flt := e.flt, sec := e.sec, bus := e.bus, rows := e.rows, ring := e.ring })
      [D.Ens.GEO, D.Flt.ERRN_STATE, D.Ident.BOOT_COUNT, D.IslandStatus.STATE, D.ResetCause.FOLLOWED, D.Rst.STARTUP_STAGE, D.Sec.DEBUG_STATE, D.Sec.OPEN_FAILURES, D.Straps.HEAD, D.Straps.PLANE_B, D.Straps.TEST_MODE]) ∧
  (∀ (dt low : Nat), Frame (.rstnOutEnd dt low)
      (fun d e => { d with rst := e.rst, hold := e.hold })
      [D.FlowStatus.SAFE, D.NetTxCounters.SAFE_ENTRIES, D.NetTxStatus.SAFE, D.NetTxStatus.SAFE_HOLD, D.SdiTxCounters.SAFE_ENTRIES, D.SdiTxStatus.SAFE, D.SdiTxStatus.SAFE_HOLD]) ∧
  (∀ (dt words : Nat) (pass : Bool), Frame (.fuseLoadDone dt words pass)
      (fun d e => { d with raised := e.raised, rst := e.rst })
      [D.Rst.STARTUP_MS, D.Rst.STARTUP_STAGE, D.TrimResult.FAILED_LOADS, D.TrimResult.LOAD_US, D.TrimResult.SAFE_BOOT, D.TrimResult.VALID, D.TrimResult.WORDS]) ∧
  (∀ (dt master addr beats : Nat) (write : Bool) (data enables : Nat) (answer : Option Nat) (placed : Nat), FrameBut (.busTransaction dt master addr beats write data enables answer placed)
      (fun d e => { d with raised := e.raised, memQ := e.memQ, bus := e.bus })
      [D.Bus.ERRORS, (Fld.whole D.ErrorLog.RESP), D.FsPortCounters.BYTES, D.MasterStatus.ERRORS, D.TargetStatus.ISOLATED_RESPONSES, D.TargetStatus.TIMEOUTS]) ∧
  (∀ (dt : Nat), Frame (.busTimeout dt)
      (fun d e => { d with raised := e.raised, bus := e.bus })
      [D.Bus.ERRORS, (Fld.whole D.ErrorLog.RESP), D.MasterStatus.ERRORS, D.TargetStatus.ISOLATED_RESPONSES, D.TargetStatus.TIMEOUTS]) ∧
  (∀ (dt macro_ row dom cause : Nat) (corrected : Bool), Frame (.sramEccError dt macro_ row dom cause corrected)
      (fun d e => { d with plane := e.plane, knot := e.knot, events := e.events, rows := e.rows, ring := e.ring })
      [D.KnotStatus.FULL, D.KnotStatus.ROW_SHORT]) ∧
  (∀ (dt : Nat) (ok : Bool), Frame (.knotCopyWrite dt ok)
      (fun d e => { d with raised := e.raised, knot := e.knot })
      [D.KnotStatus.COPY_0_VALID, D.KnotStatus.COPY_1_VALID]) ∧
  (∀ (dt island : Nat) (next : Option Nat), Frame (.islandHorizonRecompute dt island next)
      (fun d _ => d)
      [D.IslandStatus.STATE]) ∧
  (∀ (dt island took : Nat), Frame (.islandWake dt island took)
      (fun d e => { d with raised := e.raised })
      [D.IslandStatus.STATE, D.IslandStatus.WAKES, D.Pwr.WAKE_LATE]) ∧
  (∀ (dt : Nat) (erasing ok : Bool), Frame (.pwrWarn dt erasing ok)
      (fun d e => { d with freeIdx := e.freeIdx, raised := e.raised, pwr := e.pwr, ring := e.ring })
      [D.MgCounters.RX_FCS_ERRORS, D.PortCounters.FEC_CORRECTED, D.PortCounters.FEC_UNCORRECTED, D.Pwr.PWR_WARNS, D.SdiRxCounters.ANC_CHECKSUM_ERRORS, D.SdiRxCounters.CRC_C, D.SdiRxCounters.CRC_Y, D.SdiRxCounters.ERRORED_FRAMES, D.SdiRxCounters.LINE_NUM_ERRORS, D.SdiRxCounters.TRS_ERRORS]) ∧
  (∀ (dt : Nat), Frame (.pwrWarnRise dt)
      (fun d e => { d with pwr := e.pwr, ring := e.ring })
      []) ∧
  (∀ (dt : Nat) (ok dailyOk : Bool), Frame (.logIntervalEnd dt ok dailyOk)
      (fun d e => { d with freeIdx := e.freeIdx, raised := e.raised, pwr := e.pwr, ring := e.ring })
      [D.MgCounters.RX_FCS_ERRORS, D.PortCounters.FEC_CORRECTED, D.PortCounters.FEC_UNCORRECTED, D.SdiRxCounters.ANC_CHECKSUM_ERRORS, D.SdiRxCounters.CRC_C, D.SdiRxCounters.CRC_Y, D.SdiRxCounters.ERRORED_FRAMES, D.SdiRxCounters.LINE_NUM_ERRORS, D.SdiRxCounters.TRS_ERRORS]) ∧
  (∀ (dt : Nat) (ok : Bool), Frame (.eventRecordWrite dt ok)
      (fun d e => { d with raised := e.raised, events := e.events, ring := e.ring })
      []) ∧
  (∀ (dt : Nat), Frame (.ringVerifyDone dt)
      (fun d e => { d with ring := e.ring })
      [D.VerifyResult.CHECKED, D.VerifyResult.FIRST_BAD_SEQ, D.VerifyResult.STATE]) ∧
  (∀ (dt : Nat) (acks : List Bool), Frame (.avsUpdate dt acks)
      (fun d e => { d with raised := e.raised, pwr := e.pwr })
      []) ∧
  (∀ (dt : Nat) (ack : Bool), Frame (.avsRetry dt ack)
      (fun d e => { d with pwr := e.pwr })
      []) ∧
  (∀ (dt : Nat) (readings : List (Option (Nat × Nat))) (alert : Bool), Frame (.pmbusPoll dt readings alert)
      (fun d e => { d with pwr := e.pwr })
      []) ∧
  (∀ (dt : Nat), Frame (.openExchangeTimeout dt)
      (fun d e => { d with rcp := e.rcp })
      []) ∧
  (∀ (dt port speed : Nat), Frame (.mgLinkUp dt port speed)
      (fun d e => { d with freeIdx := e.freeIdx })
      [D.MgStatus.IPV4_IN_USE, D.MgStatus.IPV4_LL_IN_USE, D.MgStatus.LINK, D.MgStatus.SPEED_IN_USE]) ∧
  (∀ (dt port : Nat), Frame (.mgLinkDown dt port)
      (fun d e => { d with freeIdx := e.freeIdx, rcp := e.rcp })
      [D.MgCounters.RX_FCS_ERRORS, D.MgStatus.IPV4_IN_USE, D.MgStatus.IPV4_LL_IN_USE, D.MgStatus.LINK, D.MgStatus.SPEED_IN_USE]) ∧
  (∀ (dt port : Nat), Frame (.mgSpeedTryTimeout dt port)
      (fun d e => { d with rcp := e.rcp })
      [])

/-- Each of the requests whose effect reaches several parts of the device (takes and salvos, lane commands, the update session, fault commands), where it answers a next state, keeps the queue, the frame store (but for the bytes of those that store there), every part of the device the statement does not name for it, and every dictionary field apart from those the statement lists for it. -/
def Obligations.WideRequestFrames : Prop :=
  (∀ (q : Rcp) (v : Nat), Frame (.take q v)
      (fun d e => { d with raised := e.raised, ended := e.ended, rcp := e.rcp, flow := e.flow, remote := e.remote, plane := e.plane, sdiRx := e.sdiRx, hold := e.hold, store := e.store, netPort := e.netPort, ctrl := e.ctrl, tile := e.tile, flip := e.flip, xp := e.xp, takeLog := e.takeLog, dwl := e.dwl, sec := { d.sec with waiting := e.sec.waiting } })
      (rcpFields ++ [D.ChanStatus.PASR_MASK, D.DwlLane.LCOUNT_TX, D.DwlLane.RANK, D.Ens.PAIRS_MAX, D.Ens.REPLANS, D.Flow.CELLS, D.Flow.DEST_MAP, D.Flow.EFN, D.Flow.ENABLE, D.Flow.FORMAT, D.Flow.KIND, D.Flow.PATH, D.Flow.RESERVED_MBPS, D.Flow.STATE, D.FlowBind.CLASS, D.FlowBind.INDEX, D.FlowStatus.EMITTING, D.FlowStatus.ENABLE_QUEUED, D.FlowStatus.PLANNER_OWNED, D.FsCfgA.DELAY_FRAMES, D.FsCfgA.DPLL, D.FsCfgA.ENABLE, D.FsCfgA.LOSS, D.FsCfgA.PHASE_NS, D.FsCfgB.DELAY_FRAMES, D.FsCfgB.DPLL, D.FsCfgB.ENABLE, D.FsCfgB.LOSS, D.FsCfgB.PHASE_NS, D.GroupCounters.CELLS_TX, D.GroupCounters.MGMT_TX, D.GroupStatus.ACTIVE_LANES, D.GroupStatus.CAPACITY_MBPS, D.IslandStatus.STATE, D.IslandStatus.WAKES, D.NetTxStatus.HOLD_READY, D.PortCounters.CTRL_DROPS, D.PortCounters.CTRL_FRAMES, D.PortCounters.RX_FRAMES, D.PortCounters.TX_FRAMES, D.ProcCfg.OUT_SDI, D.SdiTxStatus.HOLD_READY, D.Take.LAST_ACCEPT_TIME, D.TileStatus.INSERTED, D.VeneerStatus.FLIP_PENDING, D.VeneerStatus.FRONT, D.XpCount.RECORD_GENERATION, D.XpCount.TAKES_REFUSED, D.XpCount.TAKES_REPLACED, D.XpTable.FROM_SALVO, D.XpTable.PENDING, D.XpTable.PENDING_DISCONNECT, D.XpTable.PENDING_SOURCE, D.XpTable.PENDING_TIME, D.XpTable.SLOT, D.XpTable.SOURCE, D.XpTable.VALID])) ∧
  (∀ (q : Rcp) (slot : Nat), Frame (.salvoArm q slot)
      (fun d e => { d with raised := e.raised, ended := e.ended, rcp := e.rcp, flow := e.flow, remote := e.remote, plane := e.plane, sdiRx := e.sdiRx, hold := e.hold, store := e.store, netPort := e.netPort, ctrl := e.ctrl, tile := e.tile, flip := e.flip, xp := e.xp, takeLog := e.takeLog, dwl := e.dwl, sec := { d.sec with waiting := e.sec.waiting } })
      (rcpFields ++ [D.ChanStatus.PASR_MASK, D.DwlLane.LCOUNT_TX, D.DwlLane.RANK, D.Ens.PAIRS_MAX, D.Ens.REPLANS, D.Flow.CELLS, D.Flow.DEST_MAP, D.Flow.EFN, D.Flow.ENABLE, D.Flow.FORMAT, D.Flow.KIND, D.Flow.PATH, D.Flow.RESERVED_MBPS, D.Flow.STATE, D.FlowBind.CLASS, D.FlowBind.INDEX, D.FlowStatus.EMITTING, D.FlowStatus.ENABLE_QUEUED, D.FlowStatus.PLANNER_OWNED, D.FsCfgA.DELAY_FRAMES, D.FsCfgA.DPLL, D.FsCfgA.ENABLE, D.FsCfgA.LOSS, D.FsCfgA.PHASE_NS, D.FsCfgB.DELAY_FRAMES, D.FsCfgB.DPLL, D.FsCfgB.ENABLE, D.FsCfgB.LOSS, D.FsCfgB.PHASE_NS, D.GroupCounters.CELLS_TX, D.GroupCounters.MGMT_TX, D.GroupStatus.ACTIVE_LANES, D.GroupStatus.CAPACITY_MBPS, D.IslandStatus.STATE, D.IslandStatus.WAKES, D.NetTxStatus.HOLD_READY, D.PortCounters.CTRL_DROPS, D.PortCounters.CTRL_FRAMES, D.PortCounters.RX_FRAMES, D.PortCounters.TX_FRAMES, D.ProcCfg.OUT_SDI, D.Salvo.COUNT, D.Salvo.EPOCH, D.Salvo.FAIL_INDEX, D.Salvo.FAIL_MEMBER, D.Salvo.RESULT, D.Salvo.STATE, D.Salvo.TWIN_ABSENT, D.SdiTxStatus.HOLD_READY, D.TileStatus.INSERTED, D.VeneerStatus.FLIP_PENDING, D.VeneerStatus.FRONT, D.XpCount.RECORD_GENERATION, D.XpCount.SALVOS_ABORTED, D.XpTable.FROM_SALVO, D.XpTable.INDOUBT, D.XpTable.PENDING, D.XpTable.PENDING_DISCONNECT, D.XpTable.PENDING_SOURCE, D.XpTable.PENDING_TIME, D.XpTable.SLOT, D.XpTable.SOURCE, D.XpTable.VALID, ⟨D.Salvo.CHANGES.ix + slot, D.Salvo.CHANGES.sub, 0, 4294967296, false⟩])) ∧
  (∀ (q : Rcp) (slot : Nat), Frame (.salvoAbort q slot)
      (fun d e => { d with raised := e.raised, ended := e.ended, rcp := e.rcp, flow := e.flow, remote := e.remote, plane := e.plane, sdiRx := e.sdiRx, hold := e.hold, store := e.store, netPort := e.netPort, ctrl := e.ctrl, tile := e.tile, flip := e.flip, xp := e.xp, takeLog := e.takeLog, dwl := e.dwl, sec := { d.sec with waiting := e.sec.waiting } })
      (rcpFields ++ [D.ChanStatus.PASR_MASK, D.DwlLane.LCOUNT_TX, D.DwlLane.RANK, D.Ens.PAIRS_MAX, D.Ens.REPLANS, D.Flow.CELLS, D.Flow.DEST_MAP, D.Flow.EFN, D.Flow.ENABLE, D.Flow.FORMAT, D.Flow.KIND, D.Flow.PATH, D.Flow.RESERVED_MBPS, D.Flow.STATE, D.FlowBind.CLASS, D.FlowBind.INDEX, D.FlowStatus.EMITTING, D.FlowStatus.ENABLE_QUEUED, D.FlowStatus.PLANNER_OWNED, D.FsCfgA.DELAY_FRAMES, D.FsCfgA.DPLL, D.FsCfgA.ENABLE, D.FsCfgA.LOSS, D.FsCfgA.PHASE_NS, D.FsCfgB.DELAY_FRAMES, D.FsCfgB.DPLL, D.FsCfgB.ENABLE, D.FsCfgB.LOSS, D.FsCfgB.PHASE_NS, D.GroupCounters.CELLS_TX, D.GroupCounters.MGMT_TX, D.GroupStatus.ACTIVE_LANES, D.GroupStatus.CAPACITY_MBPS, D.IslandStatus.STATE, D.IslandStatus.WAKES, D.NetTxStatus.HOLD_READY, D.PortCounters.CTRL_DROPS, D.PortCounters.CTRL_FRAMES, D.PortCounters.RX_FRAMES, D.PortCounters.TX_FRAMES, D.ProcCfg.OUT_SDI, D.Salvo.COUNT, D.Salvo.EPOCH, D.Salvo.FAIL_INDEX, D.Salvo.FAIL_MEMBER, D.Salvo.RESULT, D.Salvo.STATE, D.Salvo.TWIN_ABSENT, D.SdiTxStatus.HOLD_READY, D.TileStatus.INSERTED, D.VeneerStatus.FLIP_PENDING, D.VeneerStatus.FRONT, D.XpCount.RECORD_GENERATION, D.XpCount.SALVOS_ABORTED, D.XpTable.FROM_SALVO, D.XpTable.INDOUBT, D.XpTable.PENDING, D.XpTable.PENDING_DISCONNECT, D.XpTable.PENDING_SOURCE, D.XpTable.PENDING_TIME, D.XpTable.SLOT, D.XpTable.SOURCE, D.XpTable.VALID, ⟨D.Salvo.CHANGES.ix + slot, D.Salvo.CHANGES.sub, 0, 4294967296, false⟩])) ∧
  (∀ (q : Rcp) (slot : Nat), Frame (.salvoClear q slot)
      (fun d e => { d with raised := e.raised, ended := e.ended, rcp := e.rcp, flow := e.flow, remote := e.remote, plane := e.plane, sdiRx := e.sdiRx, hold := e.hold, store := e.store, netPort := e.netPort, ctrl := e.ctrl, tile := e.tile, flip := e.flip, xp := e.xp, takeLog := e.takeLog, dwl := e.dwl, sec := { d.sec with waiting := e.sec.waiting } })
      (rcpFields ++ [D.ChanStatus.PASR_MASK, D.DwlLane.LCOUNT_TX, D.DwlLane.RANK, D.Ens.PAIRS_MAX, D.Ens.REPLANS, D.Flow.CELLS, D.Flow.DEST_MAP, D.Flow.EFN, D.Flow.ENABLE, D.Flow.FORMAT, D.Flow.KIND, D.Flow.PATH, D.Flow.RESERVED_MBPS, D.Flow.STATE, D.FlowBind.CLASS, D.FlowBind.INDEX, D.FlowStatus.EMITTING, D.FlowStatus.ENABLE_QUEUED, D.FlowStatus.PLANNER_OWNED, D.FsCfgA.DELAY_FRAMES, D.FsCfgA.DPLL, D.FsCfgA.ENABLE, D.FsCfgA.LOSS, D.FsCfgA.PHASE_NS, D.FsCfgB.DELAY_FRAMES, D.FsCfgB.DPLL, D.FsCfgB.ENABLE, D.FsCfgB.LOSS, D.FsCfgB.PHASE_NS, D.GroupCounters.CELLS_TX, D.GroupCounters.MGMT_TX, D.GroupStatus.ACTIVE_LANES, D.GroupStatus.CAPACITY_MBPS, D.IslandStatus.STATE, D.IslandStatus.WAKES, D.NetTxStatus.HOLD_READY, D.PortCounters.CTRL_DROPS, D.PortCounters.CTRL_FRAMES, D.PortCounters.RX_FRAMES, D.PortCounters.TX_FRAMES, D.ProcCfg.OUT_SDI, D.Salvo.COUNT, D.Salvo.EPOCH, D.Salvo.FAIL_INDEX, D.Salvo.FAIL_MEMBER, D.Salvo.RESULT, D.Salvo.STATE, D.Salvo.TWIN_ABSENT, D.SdiTxStatus.HOLD_READY, D.TileStatus.INSERTED, D.VeneerStatus.FLIP_PENDING, D.VeneerStatus.FRONT, D.XpCount.RECORD_GENERATION, D.XpCount.SALVOS_ABORTED, D.XpTable.FROM_SALVO, D.XpTable.INDOUBT, D.XpTable.PENDING, D.XpTable.PENDING_DISCONNECT, D.XpTable.PENDING_SOURCE, D.XpTable.PENDING_TIME, D.XpTable.SLOT, D.XpTable.SOURCE, D.XpTable.VALID, ⟨D.Salvo.CHANGES.ix + slot, D.Salvo.CHANGES.sub, 0, 4294967296, false⟩])) ∧
  (∀ (q : Rcp) (slot : Nat), Frame (.salvoCommitCmd q slot)
      (fun d e => { d with raised := e.raised, ended := e.ended, rcp := e.rcp, flow := e.flow, remote := e.remote, plane := e.plane, sdiRx := e.sdiRx, hold := e.hold, store := e.store, netPort := e.netPort, ctrl := e.ctrl, tile := e.tile, flip := e.flip, xp := e.xp, takeLog := e.takeLog, dwl := e.dwl, sec := { d.sec with waiting := e.sec.waiting } })
      (rcpFields ++ [D.ChanStatus.PASR_MASK, D.DwlLane.LCOUNT_TX, D.DwlLane.RANK, D.Ens.PAIRS_MAX, D.Ens.REPLANS, D.Flow.CELLS, D.Flow.DEST_MAP, D.Flow.EFN, D.Flow.ENABLE, D.Flow.FORMAT, D.Flow.KIND, D.Flow.PATH, D.Flow.RESERVED_MBPS, D.Flow.STATE, D.FlowBind.CLASS, D.FlowBind.INDEX, D.FlowStatus.EMITTING, D.FlowStatus.ENABLE_QUEUED, D.FlowStatus.PLANNER_OWNED, D.FsCfgA.DELAY_FRAMES, D.FsCfgA.DPLL, D.FsCfgA.ENABLE, D.FsCfgA.LOSS, D.FsCfgA.PHASE_NS, D.FsCfgB.DELAY_FRAMES, D.FsCfgB.DPLL, D.FsCfgB.ENABLE, D.FsCfgB.LOSS, D.FsCfgB.PHASE_NS, D.GroupCounters.CELLS_TX, D.GroupCounters.MGMT_TX, D.GroupStatus.ACTIVE_LANES, D.GroupStatus.CAPACITY_MBPS, D.IslandStatus.STATE, D.IslandStatus.WAKES, D.NetTxStatus.HOLD_READY, D.PortCounters.CTRL_DROPS, D.PortCounters.CTRL_FRAMES, D.PortCounters.RX_FRAMES, D.PortCounters.TX_FRAMES, D.ProcCfg.OUT_SDI, D.Salvo.COUNT, D.Salvo.EPOCH, D.Salvo.FAIL_INDEX, D.Salvo.FAIL_MEMBER, D.Salvo.RESULT, D.Salvo.STATE, D.Salvo.TWIN_ABSENT, D.SdiTxStatus.HOLD_READY, D.TileStatus.INSERTED, D.VeneerStatus.FLIP_PENDING, D.VeneerStatus.FRONT, D.XpCount.RECORD_GENERATION, D.XpCount.SALVOS_ABORTED, D.XpTable.FROM_SALVO, D.XpTable.INDOUBT, D.XpTable.PENDING, D.XpTable.PENDING_DISCONNECT, D.XpTable.PENDING_SOURCE, D.XpTable.PENDING_TIME, D.XpTable.SLOT, D.XpTable.SOURCE, D.XpTable.VALID, ⟨D.Salvo.CHANGES.ix + slot, D.Salvo.CHANGES.sub, 0, 4294967296, false⟩])) ∧
  (∀ (q : Rcp) (lane : Nat), Frame (.laneCmdStep q lane)
      (fun d e => { d with raised := e.raised, rcp := e.rcp, netPort := e.netPort, ctrl := e.ctrl, dwl := e.dwl, phy := e.phy, sec := { d.sec with waiting := e.sec.waiting } })
      (rcpFields ++ [D.DwlLane.ATTEMPTS, D.DwlLane.LANE_STATE, D.DwlLane.LCOUNT_RX, D.DwlLane.LCOUNT_TX, D.DwlLane.PEER_HOLD, D.DwlLane.RANK, D.DwlLane.STEP, D.GroupCounters.CELLS_TX, D.GroupCounters.MGMT_TX, D.GroupStatus.ACTIVE_LANES, D.GroupStatus.CAPACITY_MBPS, D.LaneStatus.CDR_LOCKED, D.LaneStatus.SPARED, D.LaneStatus.USE, D.Margin.SCAN_STATE, D.Margin.TARGET_EXP, D.Phy.DWL_SPARES_READY, D.Phy.LAST_SWAP_LANE, D.Phy.SWAPS, D.PortCounters.CTRL_DROPS, D.PortCounters.CTRL_FRAMES, D.PortCounters.RX_FRAMES, D.PortCounters.TX_FRAMES, D.Rst.RESET_COUNTS])) ∧
  (∀ (q : Rcp) (lane : Nat), Frame (.laneCmdSwapOut q lane)
      (fun d e => { d with raised := e.raised, rcp := e.rcp, netPort := e.netPort, ctrl := e.ctrl, dwl := e.dwl, phy := e.phy, sec := { d.sec with waiting := e.sec.waiting } })
      (rcpFields ++ [D.DwlLane.ATTEMPTS, D.DwlLane.LANE_STATE, D.DwlLane.LCOUNT_RX, D.DwlLane.LCOUNT_TX, D.DwlLane.PEER_HOLD, D.DwlLane.RANK, D.DwlLane.STEP, D.GroupCounters.CELLS_TX, D.GroupCounters.MGMT_TX, D.GroupStatus.ACTIVE_LANES, D.GroupStatus.CAPACITY_MBPS, D.LaneStatus.CDR_LOCKED, D.LaneStatus.SPARED, D.LaneStatus.USE, D.Margin.SCAN_STATE, D.Margin.TARGET_EXP, D.Phy.DWL_SPARES_READY, D.Phy.LAST_SWAP_LANE, D.Phy.SWAPS, D.PortCounters.CTRL_DROPS, D.PortCounters.CTRL_FRAMES, D.PortCounters.RX_FRAMES, D.PortCounters.TX_FRAMES, D.Rst.RESET_COUNTS])) ∧
  (∀ (q : Rcp) (lane : Nat), Frame (.laneCmdRetrain q lane)
      (fun d e => { d with raised := e.raised, rcp := e.rcp, netPort := e.netPort, ctrl := e.ctrl, dwl := e.dwl, phy := e.phy, sec := { d.sec with waiting := e.sec.waiting } })
      (rcpFields ++ [D.DwlLane.ATTEMPTS, D.DwlLane.LANE_STATE, D.DwlLane.LCOUNT_RX, D.DwlLane.LCOUNT_TX, D.DwlLane.PEER_HOLD, D.DwlLane.RANK, D.DwlLane.STEP, D.GroupCounters.CELLS_TX, D.GroupCounters.MGMT_TX, D.GroupStatus.ACTIVE_LANES, D.GroupStatus.CAPACITY_MBPS, D.LaneStatus.CDR_LOCKED, D.LaneStatus.SPARED, D.LaneStatus.USE, D.Margin.SCAN_STATE, D.Margin.TARGET_EXP, D.Phy.DWL_SPARES_READY, D.Phy.LAST_SWAP_LANE, D.Phy.SWAPS, D.PortCounters.CTRL_DROPS, D.PortCounters.CTRL_FRAMES, D.PortCounters.RX_FRAMES, D.PortCounters.TX_FRAMES, D.Rst.RESET_COUNTS])) ∧
  (∀ (q : Rcp) (target lane : Nat), Frame (.laneCmdMarginScan q target lane)
      (fun d e => { d with raised := e.raised, rcp := e.rcp, netPort := e.netPort, ctrl := e.ctrl, dwl := e.dwl, phy := e.phy, sec := { d.sec with waiting := e.sec.waiting } })
      (rcpFields ++ [D.DwlLane.ATTEMPTS, D.DwlLane.LANE_STATE, D.DwlLane.LCOUNT_RX, D.DwlLane.LCOUNT_TX, D.DwlLane.PEER_HOLD, D.DwlLane.RANK, D.DwlLane.STEP, D.GroupCounters.CELLS_TX, D.GroupCounters.MGMT_TX, D.GroupStatus.ACTIVE_LANES, D.GroupStatus.CAPACITY_MBPS, D.LaneStatus.CDR_LOCKED, D.LaneStatus.SPARED, D.LaneStatus.USE, D.Margin.SCAN_STATE, D.Margin.TARGET_EXP, D.Phy.DWL_SPARES_READY, D.Phy.LAST_SWAP_LANE, D.Phy.SWAPS, D.PortCounters.CTRL_DROPS, D.PortCounters.CTRL_FRAMES, D.PortCounters.RX_FRAMES, D.PortCounters.TX_FRAMES, D.Rst.RESET_COUNTS])) ∧
  (∀ (q : Rcp) (lane : Nat), Frame (.laneCmdMarginAbort q lane)
      (fun d e => { d with raised := e.raised, rcp := e.rcp, netPort := e.netPort, ctrl := e.ctrl, dwl := e.dwl, phy := e.phy, sec := { d.sec with waiting := e.sec.waiting } })
      (rcpFields ++ [D.DwlLane.ATTEMPTS, D.DwlLane.LANE_STATE, D.DwlLane.LCOUNT_RX, D.DwlLane.LCOUNT_TX, D.DwlLane.PEER_HOLD, D.DwlLane.RANK, D.DwlLane.STEP, D.GroupCounters.CELLS_TX, D.GroupCounters.MGMT_TX, D.GroupStatus.ACTIVE_LANES, D.GroupStatus.CAPACITY_MBPS, D.LaneStatus.CDR_LOCKED, D.LaneStatus.SPARED, D.LaneStatus.USE, D.Margin.SCAN_STATE, D.Margin.TARGET_EXP, D.Phy.DWL_SPARES_READY, D.Phy.LAST_SWAP_LANE, D.Phy.SWAPS, D.PortCounters.CTRL_DROPS, D.PortCounters.CTRL_FRAMES, D.PortCounters.RX_FRAMES, D.PortCounters.TX_FRAMES, D.Rst.RESET_COUNTS])) ∧
  (∀ (q : Rcp), Frame (.updateBegin q)
      (fun d e => { d with raised := e.raised, rst := e.rst, rcp := e.rcp, flash := e.flash, hold := e.hold, events := e.events, netPort := e.netPort, ctrl := e.ctrl, sec := e.sec })
      (rcpFields ++ [D.FlowStatus.SAFE, D.NetTxCounters.SAFE_ENTRIES, D.NetTxStatus.SAFE, D.NetTxStatus.SAFE_HOLD, D.PortCounters.CTRL_DROPS, D.PortCounters.CTRL_FRAMES, D.PortCounters.RX_FRAMES, D.PortCounters.TX_FRAMES, D.Rcp.JOURNAL_USED_PCT, D.SdiTxCounters.SAFE_ENTRIES, D.SdiTxStatus.SAFE, D.SdiTxStatus.SAFE_HOLD, D.Upd.CONFIRMED_SLOT, D.Upd.LAST_RESULT, D.Upd.SETTINGS_DEFAULTED, D.Upd.TRIAL_SLOT, D.Upd.UPDATE_HOLDER, D.Upd.UPDATE_STATE])) ∧
  (∀ (q : Rcp), Frame (.updateEnd q)
      (fun d e => { d with raised := e.raised, rst := e.rst, rcp := e.rcp, flash := e.flash, hold := e.hold, events := e.events, netPort := e.netPort, ctrl := e.ctrl, sec := e.sec })
      (rcpFields ++ [D.FlowStatus.SAFE, D.NetTxCounters.SAFE_ENTRIES, D.NetTxStatus.SAFE, D.NetTxStatus.SAFE_HOLD, D.PortCounters.CTRL_DROPS, D.PortCounters.CTRL_FRAMES, D.PortCounters.RX_FRAMES, D.PortCounters.TX_FRAMES, D.Rcp.JOURNAL_USED_PCT, D.SdiTxCounters.SAFE_ENTRIES, D.SdiTxStatus.SAFE, D.SdiTxStatus.SAFE_HOLD, D.Upd.CONFIRMED_SLOT, D.Upd.LAST_RESULT, D.Upd.SETTINGS_DEFAULTED, D.Upd.TRIAL_SLOT, D.Upd.UPDATE_HOLDER, D.Upd.UPDATE_STATE])) ∧
  (∀ (q : Rcp), Frame (.updateAbort q)
      (fun d e => { d with raised := e.raised, rst := e.rst, rcp := e.rcp, flash := e.flash, hold := e.hold, events := e.events, netPort := e.netPort, ctrl := e.ctrl, sec := e.sec })
      (rcpFields ++ [D.FlowStatus.SAFE, D.NetTxCounters.SAFE_ENTRIES, D.NetTxStatus.SAFE, D.NetTxStatus.SAFE_HOLD, D.PortCounters.CTRL_DROPS, D.PortCounters.CTRL_FRAMES, D.PortCounters.RX_FRAMES, D.PortCounters.TX_FRAMES, D.Rcp.JOURNAL_USED_PCT, D.SdiTxCounters.SAFE_ENTRIES, D.SdiTxStatus.SAFE, D.SdiTxStatus.SAFE_HOLD, D.Upd.CONFIRMED_SLOT, D.Upd.LAST_RESULT, D.Upd.SETTINGS_DEFAULTED, D.Upd.TRIAL_SLOT, D.Upd.UPDATE_HOLDER, D.Upd.UPDATE_STATE])) ∧
  (∀ (q : Rcp), Frame (.activateInService q)
      (fun d e => { d with raised := e.raised, rst := e.rst, rcp := e.rcp, flash := e.flash, hold := e.hold, events := e.events, netPort := e.netPort, ctrl := e.ctrl, sec := e.sec })
      (rcpFields ++ [D.FlowStatus.SAFE, D.NetTxCounters.SAFE_ENTRIES, D.NetTxStatus.SAFE, D.NetTxStatus.SAFE_HOLD, D.PortCounters.CTRL_DROPS, D.PortCounters.CTRL_FRAMES, D.PortCounters.RX_FRAMES, D.PortCounters.TX_FRAMES, D.Rcp.JOURNAL_USED_PCT, D.SdiTxCounters.SAFE_ENTRIES, D.SdiTxStatus.SAFE, D.SdiTxStatus.SAFE_HOLD, D.Upd.CONFIRMED_SLOT, D.Upd.LAST_RESULT, D.Upd.SETTINGS_DEFAULTED, D.Upd.TRIAL_SLOT, D.Upd.UPDATE_HOLDER, D.Upd.UPDATE_STATE])) ∧
  (∀ (q : Rcp), Frame (.activateRestart q)
      (fun d e => { d with raised := e.raised, rst := e.rst, rcp := e.rcp, flash := e.flash, hold := e.hold, events := e.events, netPort := e.netPort, ctrl := e.ctrl, sec := e.sec })
      (rcpFields ++ [D.FlowStatus.SAFE, D.NetTxCounters.SAFE_ENTRIES, D.NetTxStatus.SAFE, D.NetTxStatus.SAFE_HOLD, D.PortCounters.CTRL_DROPS, D.PortCounters.CTRL_FRAMES, D.PortCounters.RX_FRAMES, D.PortCounters.TX_FRAMES, D.Rcp.JOURNAL_USED_PCT, D.SdiTxCounters.SAFE_ENTRIES, D.SdiTxStatus.SAFE, D.SdiTxStatus.SAFE_HOLD, D.Upd.CONFIRMED_SLOT, D.Upd.LAST_RESULT, D.Upd.SETTINGS_DEFAULTED, D.Upd.TRIAL_SLOT, D.Upd.UPDATE_HOLDER, D.Upd.UPDATE_STATE])) ∧
  (∀ (q : Rcp), Frame (.updateAccept q)
      (fun d e => { d with raised := e.raised, rst := e.rst, rcp := e.rcp, flash := e.flash, hold := e.hold, events := e.events, netPort := e.netPort, ctrl := e.ctrl, sec := e.sec })
      (rcpFields ++ [D.FlowStatus.SAFE, D.NetTxCounters.SAFE_ENTRIES, D.NetTxStatus.SAFE, D.NetTxStatus.SAFE_HOLD, D.PortCounters.CTRL_DROPS, D.PortCounters.CTRL_FRAMES, D.PortCounters.RX_FRAMES, D.PortCounters.TX_FRAMES, D.Rcp.JOURNAL_USED_PCT, D.SdiTxCounters.SAFE_ENTRIES, D.SdiTxStatus.SAFE, D.SdiTxStatus.SAFE_HOLD, D.Upd.CONFIRMED_SLOT, D.Upd.LAST_RESULT, D.Upd.SETTINGS_DEFAULTED, D.Upd.TRIAL_SLOT, D.Upd.UPDATE_HOLDER, D.Upd.UPDATE_STATE])) ∧
  (∀ (q : Rcp), Frame (.updateReject q)
      (fun d e => { d with raised := e.raised, rst := e.rst, rcp := e.rcp, flash := e.flash, hold := e.hold, events := e.events, netPort := e.netPort, ctrl := e.ctrl, sec := e.sec })
      (rcpFields ++ [D.FlowStatus.SAFE, D.NetTxCounters.SAFE_ENTRIES, D.NetTxStatus.SAFE, D.NetTxStatus.SAFE_HOLD, D.PortCounters.CTRL_DROPS, D.PortCounters.CTRL_FRAMES, D.PortCounters.RX_FRAMES, D.PortCounters.TX_FRAMES, D.Rcp.JOURNAL_USED_PCT, D.SdiTxCounters.SAFE_ENTRIES, D.SdiTxStatus.SAFE, D.SdiTxStatus.SAFE_HOLD, D.Upd.CONFIRMED_SLOT, D.Upd.LAST_RESULT, D.Upd.SETTINGS_DEFAULTED, D.Upd.TRIAL_SLOT, D.Upd.UPDATE_HOLDER, D.Upd.UPDATE_STATE])) ∧
  (∀ (q : Rcp), Frame (.updateRecover q)
      (fun d e => { d with raised := e.raised, rst := e.rst, rcp := e.rcp, flash := e.flash, hold := e.hold, events := e.events, netPort := e.netPort, ctrl := e.ctrl, sec := e.sec })
      (rcpFields ++ [D.FlowStatus.SAFE, D.NetTxCounters.SAFE_ENTRIES, D.NetTxStatus.SAFE, D.NetTxStatus.SAFE_HOLD, D.PortCounters.CTRL_DROPS, D.PortCounters.CTRL_FRAMES, D.PortCounters.RX_FRAMES, D.PortCounters.TX_FRAMES, D.Rcp.JOURNAL_USED_PCT, D.SdiTxCounters.SAFE_ENTRIES, D.SdiTxStatus.SAFE, D.SdiTxStatus.SAFE_HOLD, D.Upd.CONFIRMED_SLOT, D.Upd.LAST_RESULT, D.Upd.SETTINGS_DEFAULTED, D.Upd.TRIAL_SLOT, D.Upd.UPDATE_HOLDER, D.Upd.UPDATE_STATE])) ∧
  (∀ (q : Rcp) (src : Nat), Frame (.faultCmdClear q src)
      (fun d e => { d with raised := e.raised, rst := e.rst, rcp := e.rcp, hold := e.hold, flt := e.flt, events := e.events, netPort := e.netPort, ctrl := e.ctrl, sec := { d.sec with waiting := e.sec.waiting } })
      (rcpFields ++ [D.FirstError.INJECTED, D.FirstError.INSTANCE, D.FirstError.OVERFLOW, D.FirstError.OVERFLOW_COUNT, D.FirstError.SOURCE, D.FirstError.TIME, (Fld.whole D.FirstError.VALID), D.FlowStatus.SAFE, D.Flt.ERRN_STATE, D.NetTxCounters.SAFE_ENTRIES, D.NetTxStatus.SAFE, D.NetTxStatus.SAFE_HOLD, D.PortCounters.CTRL_DROPS, D.PortCounters.CTRL_FRAMES, D.PortCounters.RX_FRAMES, D.PortCounters.TX_FRAMES, D.SdiTxCounters.SAFE_ENTRIES, D.SdiTxStatus.SAFE, D.SdiTxStatus.SAFE_HOLD, D.SourceStatus.ACTIVE, D.SourceStatus.COUNT, D.SourceStatus.INJECTED, D.SourceStatus.INSTANCE, D.SourceStatus.LAST_TIME, D.SourceStatus.PENDING, D.SourceStatus.SAFE_HOLDING, D.Summary.FIRST_KNOWN, D.Summary.FIRST_MEMBER, D.Summary.FIRST_SOURCE, D.Summary.STICKY, D.Summary.TIE, (Fld.whole D.Summary.VALID)])) ∧
  (∀ (q : Rcp) (src : Nat), Frame (.faultCmdClearGroup q src)
      (fun d e => { d with raised := e.raised, rst := e.rst, rcp := e.rcp, hold := e.hold, flt := e.flt, events := e.events, netPort := e.netPort, ctrl := e.ctrl, sec := { d.sec with waiting := e.sec.waiting } })
      (rcpFields ++ [D.FirstError.INJECTED, D.FirstError.INSTANCE, D.FirstError.OVERFLOW, D.FirstError.OVERFLOW_COUNT, D.FirstError.SOURCE, D.FirstError.TIME, (Fld.whole D.FirstError.VALID), D.FlowStatus.SAFE, D.Flt.ERRN_STATE, D.NetTxCounters.SAFE_ENTRIES, D.NetTxStatus.SAFE, D.NetTxStatus.SAFE_HOLD, D.PortCounters.CTRL_DROPS, D.PortCounters.CTRL_FRAMES, D.PortCounters.RX_FRAMES, D.PortCounters.TX_FRAMES, D.SdiTxCounters.SAFE_ENTRIES, D.SdiTxStatus.SAFE, D.SdiTxStatus.SAFE_HOLD, D.SourceStatus.ACTIVE, D.SourceStatus.COUNT, D.SourceStatus.INJECTED, D.SourceStatus.INSTANCE, D.SourceStatus.LAST_TIME, D.SourceStatus.PENDING, D.SourceStatus.SAFE_HOLDING, D.Summary.FIRST_KNOWN, D.Summary.FIRST_MEMBER, D.Summary.FIRST_SOURCE, D.Summary.STICKY, D.Summary.TIE, (Fld.whole D.Summary.VALID)])) ∧
  (∀ (q : Rcp), Frame (.faultCmdClearAll q)
      (fun d e => { d with raised := e.raised, rst := e.rst, rcp := e.rcp, hold := e.hold, flt := e.flt, events := e.events, netPort := e.netPort, ctrl := e.ctrl, sec := { d.sec with waiting := e.sec.waiting } })
      (rcpFields ++ [D.FirstError.INJECTED, D.FirstError.INSTANCE, D.FirstError.OVERFLOW, D.FirstError.OVERFLOW_COUNT, D.FirstError.SOURCE, D.FirstError.TIME, (Fld.whole D.FirstError.VALID), D.FlowStatus.SAFE, D.Flt.ERRN_STATE, D.NetTxCounters.SAFE_ENTRIES, D.NetTxStatus.SAFE, D.NetTxStatus.SAFE_HOLD, D.PortCounters.CTRL_DROPS, D.PortCounters.CTRL_FRAMES, D.PortCounters.RX_FRAMES, D.PortCounters.TX_FRAMES, D.SdiTxCounters.SAFE_ENTRIES, D.SdiTxStatus.SAFE, D.SdiTxStatus.SAFE_HOLD, D.SourceStatus.ACTIVE, D.SourceStatus.COUNT, D.SourceStatus.INJECTED, D.SourceStatus.INSTANCE, D.SourceStatus.LAST_TIME, D.SourceStatus.PENDING, D.SourceStatus.SAFE_HOLDING, D.Summary.FIRST_KNOWN, D.Summary.FIRST_MEMBER, D.Summary.FIRST_SOURCE, D.Summary.STICKY, D.Summary.TIE, (Fld.whole D.Summary.VALID)])) ∧
  (∀ (q : Rcp), Frame (.faultCmdFirstClear q)
      (fun d e => { d with raised := e.raised, rst := e.rst, rcp := e.rcp, hold := e.hold, flt := e.flt, events := e.events, netPort := e.netPort, ctrl := e.ctrl, sec := { d.sec with waiting := e.sec.waiting } })
      (rcpFields ++ [D.FirstError.INJECTED, D.FirstError.INSTANCE, D.FirstError.OVERFLOW, D.FirstError.OVERFLOW_COUNT, D.FirstError.SOURCE, D.FirstError.TIME, (Fld.whole D.FirstError.VALID), D.FlowStatus.SAFE, D.Flt.ERRN_STATE, D.NetTxCounters.SAFE_ENTRIES, D.NetTxStatus.SAFE, D.NetTxStatus.SAFE_HOLD, D.PortCounters.CTRL_DROPS, D.PortCounters.CTRL_FRAMES, D.PortCounters.RX_FRAMES, D.PortCounters.TX_FRAMES, D.SdiTxCounters.SAFE_ENTRIES, D.SdiTxStatus.SAFE, D.SdiTxStatus.SAFE_HOLD, D.SourceStatus.ACTIVE, D.SourceStatus.COUNT, D.SourceStatus.INJECTED, D.SourceStatus.INSTANCE, D.SourceStatus.LAST_TIME, D.SourceStatus.PENDING, D.SourceStatus.SAFE_HOLDING, D.Summary.FIRST_KNOWN, D.Summary.FIRST_MEMBER, D.Summary.FIRST_SOURCE, D.Summary.STICKY, D.Summary.TIE, (Fld.whole D.Summary.VALID)])) ∧
  (∀ (q : Rcp), Frame (.faultCmdSummaryClear q)
      (fun d e => { d with raised := e.raised, rst := e.rst, rcp := e.rcp, hold := e.hold, flt := e.flt, events := e.events, netPort := e.netPort, ctrl := e.ctrl, sec := { d.sec with waiting := e.sec.waiting } })
      (rcpFields ++ [D.FirstError.INJECTED, D.FirstError.INSTANCE, D.FirstError.OVERFLOW, D.FirstError.OVERFLOW_COUNT, D.FirstError.SOURCE, D.FirstError.TIME, (Fld.whole D.FirstError.VALID), D.FlowStatus.SAFE, D.Flt.ERRN_STATE, D.NetTxCounters.SAFE_ENTRIES, D.NetTxStatus.SAFE, D.NetTxStatus.SAFE_HOLD, D.PortCounters.CTRL_DROPS, D.PortCounters.CTRL_FRAMES, D.PortCounters.RX_FRAMES, D.PortCounters.TX_FRAMES, D.SdiTxCounters.SAFE_ENTRIES, D.SdiTxStatus.SAFE, D.SdiTxStatus.SAFE_HOLD, D.SourceStatus.ACTIVE, D.SourceStatus.COUNT, D.SourceStatus.INJECTED, D.SourceStatus.INSTANCE, D.SourceStatus.LAST_TIME, D.SourceStatus.PENDING, D.SourceStatus.SAFE_HOLDING, D.Summary.FIRST_KNOWN, D.Summary.FIRST_MEMBER, D.Summary.FIRST_SOURCE, D.Summary.STICKY, D.Summary.TIE, (Fld.whole D.Summary.VALID)])) ∧
  (∀ (q : Rcp) (src inst : Nat), Frame (.faultCmdBlkrst q src inst)
      (fun d e => { d with raised := e.raised, rst := e.rst, rcp := e.rcp, hold := e.hold, flt := e.flt, events := e.events, netPort := e.netPort, ctrl := e.ctrl, sec := { d.sec with waiting := e.sec.waiting } })
      (rcpFields ++ [D.FirstError.INJECTED, D.FirstError.INSTANCE, D.FirstError.OVERFLOW, D.FirstError.OVERFLOW_COUNT, D.FirstError.SOURCE, D.FirstError.TIME, (Fld.whole D.FirstError.VALID), D.FlowStatus.SAFE, D.Flt.ERRN_STATE, D.NetTxCounters.SAFE_ENTRIES, D.NetTxStatus.SAFE, D.NetTxStatus.SAFE_HOLD, D.PortCounters.CTRL_DROPS, D.PortCounters.CTRL_FRAMES, D.PortCounters.RX_FRAMES, D.PortCounters.TX_FRAMES, D.SdiTxCounters.SAFE_ENTRIES, D.SdiTxStatus.SAFE, D.SdiTxStatus.SAFE_HOLD, D.SourceStatus.ACTIVE, D.SourceStatus.COUNT, D.SourceStatus.INJECTED, D.SourceStatus.INSTANCE, D.SourceStatus.LAST_TIME, D.SourceStatus.PENDING, D.SourceStatus.SAFE_HOLDING, D.Summary.FIRST_KNOWN, D.Summary.FIRST_MEMBER, D.Summary.FIRST_SOURCE, D.Summary.STICKY, D.Summary.TIE, (Fld.whole D.Summary.VALID)])) ∧
  (∀ (q : Rcp) (src : Nat), Frame (.faultCmdChiprst q src)
      (fun d e => { d with raised := e.raised, rst := e.rst, rcp := e.rcp, hold := e.hold, flt := e.flt, events := e.events, netPort := e.netPort, ctrl := e.ctrl, sec := { d.sec with waiting := e.sec.waiting } })
      (rcpFields ++ [D.FirstError.INJECTED, D.FirstError.INSTANCE, D.FirstError.OVERFLOW, D.FirstError.OVERFLOW_COUNT, D.FirstError.SOURCE, D.FirstError.TIME, (Fld.whole D.FirstError.VALID), D.FlowStatus.SAFE, D.Flt.ERRN_STATE, D.NetTxCounters.SAFE_ENTRIES, D.NetTxStatus.SAFE, D.NetTxStatus.SAFE_HOLD, D.PortCounters.CTRL_DROPS, D.PortCounters.CTRL_FRAMES, D.PortCounters.RX_FRAMES, D.PortCounters.TX_FRAMES, D.SdiTxCounters.SAFE_ENTRIES, D.SdiTxStatus.SAFE, D.SdiTxStatus.SAFE_HOLD, D.SourceStatus.ACTIVE, D.SourceStatus.COUNT, D.SourceStatus.INJECTED, D.SourceStatus.INSTANCE, D.SourceStatus.LAST_TIME, D.SourceStatus.PENDING, D.SourceStatus.SAFE_HOLDING, D.Summary.FIRST_KNOWN, D.Summary.FIRST_MEMBER, D.Summary.FIRST_SOURCE, D.Summary.STICKY, D.Summary.TIE, (Fld.whole D.Summary.VALID)])) ∧
  (∀ (q : Rcp) (src inst : Nat), Frame (.faultCmdInject q src inst)
      (fun d e => { d with raised := e.raised, rst := e.rst, rcp := e.rcp, hold := e.hold, flt := e.flt, events := e.events, netPort := e.netPort, ctrl := e.ctrl, sec := { d.sec with waiting := e.sec.waiting } })
      (rcpFields ++ [D.FirstError.INJECTED, D.FirstError.INSTANCE, D.FirstError.OVERFLOW, D.FirstError.OVERFLOW_COUNT, D.FirstError.SOURCE, D.FirstError.TIME, (Fld.whole D.FirstError.VALID), D.FlowStatus.SAFE, D.Flt.ERRN_STATE, D.NetTxCounters.SAFE_ENTRIES, D.NetTxStatus.SAFE, D.NetTxStatus.SAFE_HOLD, D.PortCounters.CTRL_DROPS, D.PortCounters.CTRL_FRAMES, D.PortCounters.RX_FRAMES, D.PortCounters.TX_FRAMES, D.SdiTxCounters.SAFE_ENTRIES, D.SdiTxStatus.SAFE, D.SdiTxStatus.SAFE_HOLD, D.SourceStatus.ACTIVE, D.SourceStatus.COUNT, D.SourceStatus.INJECTED, D.SourceStatus.INSTANCE, D.SourceStatus.LAST_TIME, D.SourceStatus.PENDING, D.SourceStatus.SAFE_HOLDING, D.Summary.FIRST_KNOWN, D.Summary.FIRST_MEMBER, D.Summary.FIRST_SOURCE, D.Summary.STICKY, D.Summary.TIE, (Fld.whole D.Summary.VALID)]))

/-- Each of the events whose effect reaches several parts of the device (cell release, takes that apply, salvo parts, dowel items, the audio tick), where it answers a next state, keeps the queue, the frame store (but for the bytes of those that store there), every part of the device the statement does not name for it, and every dictionary field apart from those the statement lists for it. The end of a BLOCK reset may change the volatile entries of its block besides. -/
def Obligations.WideEventFrames : Prop :=
  (∀ (dt ctx : Nat), Frame (.flowEngineConfigured dt ctx)
      (fun d e => { d with raised := e.raised, ended := e.ended, flow := e.flow, plane := e.plane, sdiRx := e.sdiRx, hold := e.hold, netRx := e.netRx, netTx := e.netTx, head := e.head, flip := e.flip, audio := e.audio, xp := e.xp })
      [D.Flow.SEQ_NEXT, D.Flow.STATE, D.FlowStatus.ALIGNED, D.FlowStatus.ANCHORED, D.FlowStatus.EMITTING, D.FlowStatus.ENABLE_QUEUED, D.FlowStatus.FROZEN, D.FlowStatus.SAFE, D.FlowStatus.SOURCE_LOST, D.NetTxCounters.SAFE_ENTRIES, D.NetTxStatus.RESOLVING, D.NetTxStatus.RTP_SEQ_NEXT, D.NetTxStatus.SAFE, D.NetTxStatus.SAFE_HOLD, D.SdiTxCounters.SAFE_ENTRIES, D.SdiTxStatus.SAFE, D.SdiTxStatus.SAFE_HOLD, D.VeneerStatus.FLIP_PENDING, D.VeneerStatus.FRONT]) ∧
  (∀ (dt ctx plane : Nat) (cell : Cell), Frame (.mergeCopyArrival dt ctx plane cell)
      (fun d e => { d with raised := e.raised, flow := e.flow, plane := e.plane, hold := e.hold, xp := e.xp, dwl := e.dwl })
      [D.Flow.LATE, D.Flow.MALFORMED, D.Flow.RUN_START, D.Flow.STALE, D.FlowStatus.ANCHORED, D.FlowStatus.SAFE, D.FlowStatus.SOURCE_LOST, D.GroupCounters.CELLS_RX, D.GroupCounters.MGMT_RX, D.NetTxCounters.SAFE_ENTRIES, D.NetTxStatus.SAFE, D.NetTxStatus.SAFE_HOLD, D.Plane.COMPARED, D.Plane.CRC_ERRORS, D.Plane.FAILURES, D.Plane.LAST_FAIL_CAUSE, D.Plane.LAST_FAIL_TIME, D.Plane.MISMATCHES, D.Plane.STATE, D.PlaneHealth.IN_SERVICE, D.PlaneHealth.ROLE_ACTIVE, D.PlaneHealth.STALL_SEEN, D.SdiTxCounters.SAFE_ENTRIES, D.SdiTxStatus.SAFE, D.SdiTxStatus.SAFE_HOLD]) ∧
  (∀ (dt ctx seq : Nat), Frame (.mergeWindowEnd dt ctx seq)
      (fun d e => { d with raised := e.raised, ended := e.ended, flash := e.flash, flow := e.flow, plane := e.plane, hold := e.hold })
      [D.Flow.LATE, D.FlowStatus.SAFE, D.FlowStatus.SOURCE_LOST, D.NetTxCounters.SAFE_ENTRIES, D.NetTxStatus.SAFE, D.NetTxStatus.SAFE_HOLD, D.Plane.FAILURES, D.Plane.LAST_FAIL_CAUSE, D.Plane.LAST_FAIL_TIME, D.Plane.MISSING, D.Plane.STATE, D.Plane.USED, D.PlaneHealth.IN_SERVICE, D.PlaneHealth.ROLE_ACTIVE, D.PlaneHealth.STALL_SEEN, D.Rcp.JOURNAL_USED_PCT, D.SdiTxCounters.SAFE_ENTRIES, D.SdiTxStatus.SAFE, D.SdiTxStatus.SAFE_HOLD]) ∧
  (∀ (dt ctx : Nat), FrameBut (.cellRelease dt ctx)
      (fun d e => { d with freeIdx := e.freeIdx, raised := e.raised, ended := e.ended, flash := e.flash, flow := e.flow, plane := e.plane, hold := e.hold, store := e.store, twin := e.twin, netTx := e.netTx, tile := e.tile, layer := e.layer, memQ := e.memQ, audio := e.audio, pool := e.pool, dwl := e.dwl })
      [D.Aud.RECENTRES, D.AudLaneStatus.TX_RECENTRES, D.BundleStatus.EARLY_SAMPLES, D.BundleStatus.LATE_SAMPLES, D.DwlLane.LCOUNT_TX, D.DwlLane.RANK, D.Flow.CELLS, D.Flow.LATE, D.Flow.MISSING, D.Flow.SEQ_NEXT, D.FlowStatus.ALIGNED, D.FlowStatus.EMITTING, D.FlowStatus.FROZEN, D.FlowStatus.SAFE, D.FlowStatus.SOURCE_LOST, D.GroupCounters.CELLS_TX, D.GroupCounters.MGMT_TX, D.GroupStatus.ACTIVE_LANES, D.GroupStatus.CAPACITY_MBPS, D.NetTxCounters.SAFE_ENTRIES, D.NetTxStatus.HOLD_READY, D.NetTxStatus.SAFE, D.NetTxStatus.SAFE_HOLD, D.Plane.FAILURES, D.Plane.LAST_FAIL_CAUSE, D.Plane.LAST_FAIL_TIME, D.Plane.MISSING, D.Plane.STATE, D.Plane.USED, D.PlaneHealth.IN_SERVICE, D.PlaneHealth.ROLE_ACTIVE, D.PlaneHealth.STALL_SEEN, D.Rcp.JOURNAL_USED_PCT, D.SdiTxCounters.INSERT_OVERFLOWS, D.SdiTxCounters.SAFE_ENTRIES, D.SdiTxStatus.FROZEN, D.SdiTxStatus.HOLD_READY, D.SdiTxStatus.SAFE, D.SdiTxStatus.SAFE_HOLD, D.TileStatus.FS_LOCKED, D.Twin.SIG_MISMATCHES]) ∧
  (∀ (dt ctx line lines : Nat), Frame (.sdiTxFrameBoundary dt ctx line lines)
      (fun d e => { d with freeIdx := e.freeIdx, raised := e.raised, ended := e.ended, flow := e.flow, remote := e.remote, plane := e.plane, sdiRx := e.sdiRx, hold := e.hold, store := e.store, twin := e.twin, events := e.events, netTx := e.netTx, tile := e.tile, tileAgain := e.tileAgain, layer := e.layer, flip := e.flip, audio := e.audio, xp := e.xp, dwl := e.dwl, sec := e.sec })
      [D.Aud.AFV_MISSES, D.Aud.RECENTRES, D.AudLaneStatus.GROUPS_EMBEDDED, D.AudLaneStatus.TX_RECENTRES, D.ChanStatus.PASR_MASK, D.DestStatus.FOLLOWING, D.DestStatus.FOLLOW_UNMAPPED, D.DwlLane.LCOUNT_TX, D.DwlLane.RANK, D.Ens.PAIRS_MAX, D.Ens.REPLANS, D.Flow.CELLS, D.Flow.DEST_MAP, D.Flow.EFN, D.Flow.ENABLE, D.Flow.FORMAT, D.Flow.KIND, D.Flow.PATH, D.Flow.RESERVED_MBPS, D.Flow.RUN_START, D.Flow.STATE, D.FlowBind.CLASS, D.FlowBind.INDEX, D.FlowStatus.ALIGNED, D.FlowStatus.ANCHORED, D.FlowStatus.EMITTING, D.FlowStatus.ENABLE_QUEUED, D.FlowStatus.PLANNER_OWNED, D.FlowStatus.SAFE, D.FlowStatus.SOURCE_LOST, D.FsCfgA.DELAY_FRAMES, D.FsCfgA.DPLL, D.FsCfgA.ENABLE, D.FsCfgA.LOSS, D.FsCfgA.PHASE_NS, D.FsCfgB.DELAY_FRAMES, D.FsCfgB.DPLL, D.FsCfgB.ENABLE, D.FsCfgB.LOSS, D.FsCfgB.PHASE_NS, D.GroupCounters.CELLS_TX, D.GroupCounters.MGMT_TX, D.GroupStatus.ACTIVE_LANES, D.GroupStatus.CAPACITY_MBPS, D.IslandStatus.STATE, D.IslandStatus.WAKES, D.Layer.DROPS, D.NetTxCounters.HOLD_FRAMES, D.NetTxCounters.SAFE_ENTRIES, D.NetTxStatus.HOLD_READY, D.NetTxStatus.SAFE, D.NetTxStatus.SAFE_HOLD, D.ProcCfg.OUT_SDI, D.Salvo.APPLIED_TIME, D.Salvo.STATE, D.SdiTxCounters.HOLD_FRAMES, D.SdiTxCounters.INSERT_OVERFLOWS, D.SdiTxCounters.RETIME_OVERFLOWS, D.SdiTxCounters.SAFE_ENTRIES, D.SdiTxStatus.HOLD_READY, D.SdiTxStatus.SAFE, D.SdiTxStatus.SAFE_HOLD, D.SdiTxStatus.SOURCE_OFFSET_NS, D.SdiTxStatus.UNTIMED, D.TileStatus.INSERTED, D.Twin.SIG_MISMATCHES, D.Upd.CONFIRMED_SLOT, D.Upd.TRIAL_SLOT, D.Upd.UPDATE_STATE, D.VeneerStatus.FLIP_PENDING, D.VeneerStatus.FRONT, D.XpCount.SALVOS_APPLIED, D.XpCount.TAKES_APPLIED, D.XpCount.UNTIMED_AT_BOUNDARY, D.XpTable.FROM_SALVO, D.XpTable.FS_INSERTED, D.XpTable.GATEWAY_INSERTED, D.XpTable.HOPS, D.XpTable.INDOUBT, D.XpTable.PENDING, D.XpTable.PENDING_DISCONNECT, D.XpTable.PENDING_SOURCE, D.XpTable.PENDING_TIME, D.XpTable.SLOT, D.XpTable.SOURCE, D.XpTable.TILE, D.XpTable.UNTIMED, D.XpTable.VALID]) ∧
  (∀ (dt : Nat) (f : NetFrame), Frame (.netFrameRx dt f)
      (fun d e => { d with raised := e.raised, flow := e.flow, netRx := e.netRx, netPort := e.netPort, ctrl := e.ctrl })
      [D.FlowStatus.SOURCE_LOST, D.NetRxCounters.DUPLICATES, D.NetRxCounters.FORMAT_ERRORS, D.NetRxCounters.LATE_LEG, D.NetRxCounters.LOST, D.NetRxCounters.MISSING_A, D.NetRxCounters.MISSING_B, D.NetRxCounters.OVERFLOWS, D.NetRxCounters.PACKETS_A, D.NetRxCounters.PACKETS_B, D.NetRxCounters.POLICED, D.NetRxCounters.REORDERED, D.NetRxCounters.RTP_ERRORS, D.NetRxStatus.LAST_RTP_TS, D.NetRxStatus.LEG_A_OK, D.NetRxStatus.LEG_B_OK, D.NetRxStatus.RECEIVING, D.NetRxStatus.SKEW_EXCEEDED, D.NetRxStatus.SKEW_NS, D.PortCounters.CTRL_DROPS, D.PortCounters.CTRL_FRAMES, D.PortCounters.RX_FCS_ERRORS, D.PortCounters.RX_FRAMES, D.PortCounters.RX_IP_ERRORS, D.PortCounters.RX_UDP_ERRORS, D.PortCounters.RX_UNMATCHED]) ∧
  (∀ (dt port lane : Nat) (signal : Bool), Frame (.netTrainingFailed dt port lane signal)
      (fun d e => { d with freeIdx := e.freeIdx, raised := e.raised, knot := e.knot, events := e.events, netPort := e.netPort, phy := e.phy, ring := e.ring })
      [D.FlowStatus.EMITTING, D.FlowStatus.SOURCE_LOST, D.IslandStatus.STATE, D.IslandStatus.WAKES, D.KnotStatus.FULL, D.LaneStatus.SPARED, D.LaneStatus.USE, D.Margin.SCAN_STATE, D.PortCounters.FEC_CORRECTED, D.PortCounters.FEC_UNCORRECTED, D.PortCounters.LINK_DOWNS, D.PortStatus.FEC_LOCKED, D.PortStatus.LINK, D.PortStatus.PCS_ALIGNED, D.SpareCfg.LANE, D.SpareCfg.REMAP, D.SpareStatus.AUTO, D.SpareStatus.FAILED, D.SpareStatus.IN_USE, D.SpareStatus.LANE]) ∧
  (∀ (dt : Nat) (meas demand : List (Nat × Int)), Frame (.refFreqUpdate dt meas demand)
      (fun d e => { d with freeIdx := e.freeIdx, raised := e.raised, hold := e.hold, ref := e.ref, dpll := e.dpll })
      [D.DpllCounters.HOLDOVERS, D.DpllStatus.BUILDOUT_NS, D.DpllStatus.CURRENT, D.DpllStatus.FREQ_PPB, D.DpllStatus.FROZEN, D.DpllStatus.PENDING, D.DpllStatus.PHASE_MOVING, D.DpllStatus.STATE, D.RefArea.LO_OFFSET_PPB, D.RefStatus.CAUSE, D.RefStatus.HARD, D.RefStatus.OFFSET_PPB, D.RefStatus.SOFT, D.RefStatus.STATE, D.RefSticky.DISQUALIFIED, D.RefSticky.FORMAT, D.RefSticky.HARD, D.RefSticky.SOFT]) ∧
  (∀ (dt : Nat), Frame (.timeChangeover dt)
      (fun d e => { d with freeIdx := e.freeIdx, raised := e.raised, rcp := e.rcp, flow := e.flow, events := e.events, time := e.time, ref := e.ref, dpll := e.dpll, audio := e.audio, ring := e.ring })
      [D.Flow.LATE, D.MgCounters.TX_FRAMES, D.PortCounters.TX_FRAMES, D.Time.OFFSET, D.Time.RATE, D.Time.RATE_EPOCH, D.Time.STEPS]) ∧
  (∀ (dt iface : Nat) (ann : Announce), Frame (.ptpAnnounceRx dt iface ann)
      (fun d e => { d with freeIdx := e.freeIdx, raised := e.raised, hold := e.hold, time := e.time, ref := e.ref, dpll := e.dpll })
      [D.DpllCounters.HOLDOVERS, D.DpllStatus.BUILDOUT_NS, D.DpllStatus.CURRENT, D.DpllStatus.FROZEN, D.DpllStatus.PENDING, D.DpllStatus.PHASE_MOVING, D.DpllStatus.STATE, D.PtpCounters.ANNOUNCE_RX, D.PtpCounters.GM_CHANGES, D.PtpStatus.GM_CLASS, D.PtpStatus.GM_IDENTITY, D.PtpStatus.LEAP59, D.PtpStatus.LEAP61, D.PtpStatus.ON_IF_B, D.PtpStatus.PARENT_IDENTITY, D.PtpStatus.PARENT_PORT, D.PtpStatus.PORT_STATE, D.PtpStatus.STEPS_REMOVED, D.PtpStatus.TIME_TRACEABLE, D.PtpStatus.UTC_VALID, D.RefStatus.ACTIVE, D.RefStatus.CAUSE, D.RefStatus.STATE, D.RefSticky.DISQUALIFIED, D.Time.SERVO_STATE]) ∧
  (∀ (dt iface sender port : Nat), Frame (.ptpLeaderLost dt iface sender port)
      (fun d e => { d with freeIdx := e.freeIdx, raised := e.raised, hold := e.hold, time := e.time, ref := e.ref, dpll := e.dpll })
      [D.DpllCounters.HOLDOVERS, D.DpllStatus.BUILDOUT_NS, D.DpllStatus.CURRENT, D.DpllStatus.FROZEN, D.DpllStatus.PENDING, D.DpllStatus.PHASE_MOVING, D.DpllStatus.STATE, D.PtpCounters.GM_CHANGES, D.PtpCounters.LEADER_LOSSES, D.PtpStatus.GM_CLASS, D.PtpStatus.GM_IDENTITY, D.PtpStatus.LEAP59, D.PtpStatus.LEAP61, D.PtpStatus.ON_IF_B, D.PtpStatus.PARENT_IDENTITY, D.PtpStatus.PARENT_PORT, D.PtpStatus.PORT_STATE, D.PtpStatus.STEPS_REMOVED, D.PtpStatus.TIME_TRACEABLE, D.PtpStatus.UTC_VALID, D.RefStatus.ACTIVE, D.RefStatus.CAUSE, D.RefStatus.STATE, D.RefSticky.DISQUALIFIED, D.Time.SERVO_STATE]) ∧
  (∀ (dt msg v : Nat), Frame (.twinTakeRx dt msg v)
      (fun d e => { d with raised := e.raised, ended := e.ended, flow := e.flow, remote := e.remote, plane := e.plane, sdiRx := e.sdiRx, hold := e.hold, store := e.store, tile := e.tile, flip := e.flip, xp := e.xp, takeLog := e.takeLog, dwl := e.dwl })
      [D.ChanStatus.PASR_MASK, D.DwlLane.LCOUNT_TX, D.DwlLane.RANK, D.Ens.PAIRS_MAX, D.Ens.REPLANS, D.Flow.CELLS, D.Flow.DEST_MAP, D.Flow.EFN, D.Flow.ENABLE, D.Flow.FORMAT, D.Flow.KIND, D.Flow.PATH, D.Flow.RESERVED_MBPS, D.Flow.STATE, D.FlowBind.CLASS, D.FlowBind.INDEX, D.FlowStatus.EMITTING, D.FlowStatus.ENABLE_QUEUED, D.FlowStatus.PLANNER_OWNED, D.FsCfgA.DELAY_FRAMES, D.FsCfgA.DPLL, D.FsCfgA.ENABLE, D.FsCfgA.LOSS, D.FsCfgA.PHASE_NS, D.FsCfgB.DELAY_FRAMES, D.FsCfgB.DPLL, D.FsCfgB.ENABLE, D.FsCfgB.LOSS, D.FsCfgB.PHASE_NS, D.GroupCounters.CELLS_TX, D.GroupCounters.MGMT_TX, D.GroupStatus.ACTIVE_LANES, D.GroupStatus.CAPACITY_MBPS, D.IslandStatus.STATE, D.IslandStatus.WAKES, D.NetTxStatus.HOLD_READY, D.ProcCfg.OUT_SDI, D.SdiTxStatus.HOLD_READY, D.Take.LAST_ACCEPT_TIME, D.TileStatus.INSERTED, D.VeneerStatus.FLIP_PENDING, D.VeneerStatus.FRONT, D.XpCount.RECORD_GENERATION, D.XpCount.TAKES_REPLACED, D.XpTable.FROM_SALVO, D.XpTable.PENDING, D.XpTable.PENDING_DISCONNECT, D.XpTable.PENDING_SOURCE, D.XpTable.PENDING_TIME, D.XpTable.SLOT, D.XpTable.SOURCE, D.XpTable.VALID]) ∧
  (∀ (dt msg status : Nat), Frame (.twinTakeAck dt msg status)
      (fun d e => { d with raised := e.raised, ended := e.ended, rcp := e.rcp, flow := e.flow, remote := e.remote, plane := e.plane, sdiRx := e.sdiRx, hold := e.hold, store := e.store, tile := e.tile, flip := e.flip, xp := e.xp, dwl := e.dwl })
      [D.ChanStatus.PASR_MASK, D.DwlLane.LCOUNT_TX, D.DwlLane.RANK, D.Ens.PAIRS_MAX, D.Ens.REPLANS, D.Flow.CELLS, D.Flow.DEST_MAP, D.Flow.EFN, D.Flow.ENABLE, D.Flow.FORMAT, D.Flow.KIND, D.Flow.PATH, D.Flow.RESERVED_MBPS, D.Flow.STATE, D.FlowBind.CLASS, D.FlowBind.INDEX, D.FlowStatus.EMITTING, D.FlowStatus.ENABLE_QUEUED, D.FlowStatus.PLANNER_OWNED, D.FsCfgA.ENABLE, D.FsCfgB.ENABLE, D.GroupCounters.CELLS_TX, D.GroupCounters.MGMT_TX, D.GroupStatus.ACTIVE_LANES, D.GroupStatus.CAPACITY_MBPS, D.MgCounters.TX_FRAMES, D.NetTxStatus.HOLD_READY, D.PortCounters.TX_FRAMES, D.ProcCfg.OUT_SDI, D.SdiTxStatus.HOLD_READY, D.Take.LAST_ACCEPT_TIME, D.TileStatus.INSERTED, D.VeneerStatus.FLIP_PENDING, D.VeneerStatus.FRONT, D.XpCount.TAKES_REPLACED, D.XpCount.TWIN_TAKES_MISSED, D.XpTable.FROM_SALVO, D.XpTable.PENDING, D.XpTable.PENDING_DISCONNECT, D.XpTable.PENDING_SOURCE, D.XpTable.PENDING_TIME, D.XpTable.SLOT, D.XpTable.SOURCE, D.XpTable.VALID]) ∧
  (∀ (dt : Nat), Frame (.twinTakeTimeout dt)
      (fun d e => { d with raised := e.raised, ended := e.ended, rcp := e.rcp, flow := e.flow, remote := e.remote, plane := e.plane, sdiRx := e.sdiRx, hold := e.hold, store := e.store, tile := e.tile, flip := e.flip, xp := e.xp, dwl := e.dwl })
      [D.ChanStatus.PASR_MASK, D.DwlLane.LCOUNT_TX, D.DwlLane.RANK, D.Ens.PAIRS_MAX, D.Ens.REPLANS, D.Flow.CELLS, D.Flow.DEST_MAP, D.Flow.EFN, D.Flow.ENABLE, D.Flow.FORMAT, D.Flow.KIND, D.Flow.PATH, D.Flow.RESERVED_MBPS, D.Flow.STATE, D.FlowBind.CLASS, D.FlowBind.INDEX, D.FlowStatus.EMITTING, D.FlowStatus.ENABLE_QUEUED, D.FlowStatus.PLANNER_OWNED, D.FsCfgA.ENABLE, D.FsCfgB.ENABLE, D.GroupCounters.CELLS_TX, D.GroupCounters.MGMT_TX, D.GroupStatus.ACTIVE_LANES, D.GroupStatus.CAPACITY_MBPS, D.MgCounters.TX_FRAMES, D.NetTxStatus.HOLD_READY, D.PortCounters.TX_FRAMES, D.ProcCfg.OUT_SDI, D.SdiTxStatus.HOLD_READY, D.Take.LAST_ACCEPT_TIME, D.TileStatus.INSERTED, D.VeneerStatus.FLIP_PENDING, D.VeneerStatus.FRONT, D.XpCount.TAKES_REPLACED, D.XpCount.TWIN_TAKES_MISSED, D.XpTable.FROM_SALVO, D.XpTable.PENDING, D.XpTable.PENDING_DISCONNECT, D.XpTable.PENDING_SOURCE, D.XpTable.PENDING_TIME, D.XpTable.SLOT, D.XpTable.SOURCE, D.XpTable.VALID]) ∧
  (∀ (dt ctx : Nat), Frame (.takeApply dt ctx)
      (fun d e => { d with freeIdx := e.freeIdx, raised := e.raised, ended := e.ended, flow := e.flow, remote := e.remote, plane := e.plane, sdiRx := e.sdiRx, hold := e.hold, store := e.store, events := e.events, netTx := e.netTx, tile := e.tile, layer := e.layer, flip := e.flip, audio := e.audio, xp := e.xp, dwl := e.dwl, sec := e.sec })
      [D.Aud.AFV_MISSES, D.ChanStatus.PASR_MASK, D.DestStatus.FOLLOWING, D.DestStatus.FOLLOW_UNMAPPED, D.DwlLane.LCOUNT_TX, D.DwlLane.RANK, D.Ens.PAIRS_MAX, D.Ens.REPLANS, D.Flow.CELLS, D.Flow.DEST_MAP, D.Flow.EFN, D.Flow.ENABLE, D.Flow.FORMAT, D.Flow.KIND, D.Flow.PATH, D.Flow.RESERVED_MBPS, D.Flow.RUN_START, D.Flow.STATE, D.FlowBind.CLASS, D.FlowBind.INDEX, D.FlowStatus.ALIGNED, D.FlowStatus.ANCHORED, D.FlowStatus.EMITTING, D.FlowStatus.ENABLE_QUEUED, D.FlowStatus.PLANNER_OWNED, D.FlowStatus.SAFE, D.FlowStatus.SOURCE_LOST, D.FsCfgA.DELAY_FRAMES, D.FsCfgA.DPLL, D.FsCfgA.ENABLE, D.FsCfgA.LOSS, D.FsCfgA.PHASE_NS, D.FsCfgB.DELAY_FRAMES, D.FsCfgB.DPLL, D.FsCfgB.ENABLE, D.FsCfgB.LOSS, D.FsCfgB.PHASE_NS, D.GroupCounters.CELLS_TX, D.GroupCounters.MGMT_TX, D.GroupStatus.ACTIVE_LANES, D.GroupStatus.CAPACITY_MBPS, D.IslandStatus.STATE, D.IslandStatus.WAKES, D.Layer.DROPS, D.NetTxCounters.SAFE_ENTRIES, D.NetTxStatus.HOLD_READY, D.NetTxStatus.SAFE, D.NetTxStatus.SAFE_HOLD, D.ProcCfg.OUT_SDI, D.Salvo.APPLIED_TIME, D.Salvo.STATE, D.SdiTxCounters.SAFE_ENTRIES, D.SdiTxStatus.HOLD_READY, D.SdiTxStatus.SAFE, D.SdiTxStatus.SAFE_HOLD, D.SdiTxStatus.UNTIMED, D.TileStatus.INSERTED, D.Upd.CONFIRMED_SLOT, D.Upd.TRIAL_SLOT, D.Upd.UPDATE_STATE, D.VeneerStatus.FLIP_PENDING, D.VeneerStatus.FRONT, D.XpCount.SALVOS_APPLIED, D.XpCount.TAKES_APPLIED, D.XpCount.UNTIMED_AT_BOUNDARY, D.XpTable.FROM_SALVO, D.XpTable.FS_INSERTED, D.XpTable.GATEWAY_INSERTED, D.XpTable.HOPS, D.XpTable.INDOUBT, D.XpTable.PENDING, D.XpTable.PENDING_DISCONNECT, D.XpTable.PENDING_SOURCE, D.XpTable.PENDING_TIME, D.XpTable.SLOT, D.XpTable.SOURCE, D.XpTable.TILE, D.XpTable.UNTIMED, D.XpTable.VALID]) ∧
  (∀ (dt group block : Nat), Frame (.salvoPrepare dt group block)
      (fun d e => { d with raised := e.raised, ended := e.ended, rcp := e.rcp, flow := e.flow, plane := e.plane, sdiRx := e.sdiRx, hold := e.hold, store := e.store, tile := e.tile, flip := e.flip, xp := e.xp, takeLog := e.takeLog, dwl := e.dwl })
      [D.ChanStatus.PASR_MASK, D.DwlLane.LCOUNT_TX, D.DwlLane.RANK, D.Flow.CELLS, D.Flow.EFN, D.Flow.ENABLE, D.Flow.FORMAT, D.Flow.KIND, D.Flow.RESERVED_MBPS, D.Flow.STATE, D.FlowBind.CLASS, D.FlowBind.INDEX, D.FlowStatus.EMITTING, D.FlowStatus.ENABLE_QUEUED, D.FsCfgA.DELAY_FRAMES, D.FsCfgA.DPLL, D.FsCfgA.ENABLE, D.FsCfgA.LOSS, D.FsCfgA.PHASE_NS, D.FsCfgB.DELAY_FRAMES, D.FsCfgB.DPLL, D.FsCfgB.ENABLE, D.FsCfgB.LOSS, D.FsCfgB.PHASE_NS, D.GroupCounters.CELLS_TX, D.GroupCounters.MARKERS_RX, D.GroupCounters.MGMT_TX, D.GroupStatus.ACTIVE_LANES, D.GroupStatus.CAPACITY_MBPS, D.IslandStatus.STATE, D.IslandStatus.WAKES, D.MgCounters.RCP_FRAMES, D.MgStatus.CONFIRM_PENDING, D.NetTxStatus.HOLD_READY, D.ProcCfg.OUT_SDI, D.Salvo.EPOCH, D.Salvo.STATE, D.Salvo.TAKE_TIME, D.SdiTxStatus.HOLD_READY, D.TileStatus.INSERTED, D.VeneerStatus.FLIP_PENDING, D.VeneerStatus.FRONT, D.XpCount.RECORD_GENERATION, D.XpTable.SOURCE, D.XpTable.VALID]) ∧
  (∀ (dt slot : Nat), Frame (.salvoPrepared dt slot)
      (fun d e => { d with raised := e.raised, ended := e.ended, flow := e.flow, remote := e.remote, plane := e.plane, sdiRx := e.sdiRx, hold := e.hold, store := e.store, tile := e.tile, flip := e.flip, xp := e.xp, takeLog := e.takeLog, dwl := e.dwl })
      [D.ChanStatus.PASR_MASK, D.DwlLane.LCOUNT_TX, D.DwlLane.RANK, D.Ens.PAIRS_MAX, D.Ens.REPLANS, D.Flow.CELLS, D.Flow.DEST_MAP, D.Flow.EFN, D.Flow.ENABLE, D.Flow.FORMAT, D.Flow.KIND, D.Flow.PATH, D.Flow.RESERVED_MBPS, D.Flow.STATE, D.FlowBind.CLASS, D.FlowBind.INDEX, D.FlowStatus.EMITTING, D.FlowStatus.ENABLE_QUEUED, D.FlowStatus.PLANNER_OWNED, D.FsCfgA.ENABLE, D.FsCfgB.ENABLE, D.GroupCounters.CELLS_TX, D.GroupCounters.MGMT_TX, D.GroupStatus.ACTIVE_LANES, D.GroupStatus.CAPACITY_MBPS, D.NetTxStatus.HOLD_READY, D.ProcCfg.OUT_SDI, D.Salvo.FAIL_INDEX, D.Salvo.FAIL_MEMBER, D.Salvo.RESULT, D.Salvo.STATE, D.Salvo.TWIN_ABSENT, D.SdiTxStatus.HOLD_READY, D.TileStatus.INSERTED, D.VeneerStatus.FLIP_PENDING, D.VeneerStatus.FRONT, D.XpCount.INDOUBT_EVENTS, D.XpCount.RECORD_GENERATION, D.XpCount.SALVOS_ABORTED, D.XpTable.FROM_SALVO, D.XpTable.INDOUBT, D.XpTable.PENDING, D.XpTable.PENDING_DISCONNECT, D.XpTable.PENDING_SOURCE, D.XpTable.PENDING_TIME, D.XpTable.SLOT, D.XpTable.SOURCE, D.XpTable.VALID]) ∧
  (∀ (dt slot : Nat), Frame (.salvoDecisionLogged dt slot)
      (fun d e => { d with raised := e.raised, ended := e.ended, rcp := e.rcp, flow := e.flow, remote := e.remote, plane := e.plane, sdiRx := e.sdiRx, hold := e.hold, store := e.store, tile := e.tile, flip := e.flip, xp := e.xp, takeLog := e.takeLog, dwl := e.dwl })
      [D.ChanStatus.PASR_MASK, D.DwlLane.LCOUNT_TX, D.DwlLane.RANK, D.Ens.PAIRS_MAX, D.Ens.REPLANS, D.Flow.CELLS, D.Flow.DEST_MAP, D.Flow.EFN, D.Flow.ENABLE, D.Flow.FORMAT, D.Flow.KIND, D.Flow.PATH, D.Flow.RESERVED_MBPS, D.Flow.STATE, D.FlowBind.CLASS, D.FlowBind.INDEX, D.FlowStatus.EMITTING, D.FlowStatus.ENABLE_QUEUED, D.FlowStatus.PLANNER_OWNED, D.FsCfgA.ENABLE, D.FsCfgB.ENABLE, D.GroupCounters.CELLS_TX, D.GroupCounters.MGMT_TX, D.GroupStatus.ACTIVE_LANES, D.GroupStatus.CAPACITY_MBPS, D.MgCounters.TX_FRAMES, D.NetTxStatus.HOLD_READY, D.PortCounters.TX_FRAMES, D.ProcCfg.OUT_SDI, D.Salvo.FAIL_INDEX, D.Salvo.FAIL_MEMBER, D.Salvo.RESULT, D.Salvo.STATE, D.SdiTxStatus.HOLD_READY, D.TileStatus.INSERTED, D.VeneerStatus.FLIP_PENDING, D.VeneerStatus.FRONT, D.XpCount.RECORD_GENERATION, D.XpCount.SALVOS_ABORTED, D.XpTable.FROM_SALVO, D.XpTable.INDOUBT, D.XpTable.PENDING, D.XpTable.PENDING_DISCONNECT, D.XpTable.PENDING_SOURCE, D.XpTable.PENDING_TIME, D.XpTable.SLOT, D.XpTable.SOURCE, D.XpTable.VALID]) ∧
  (∀ (dt group block : Nat), Frame (.salvoCommitRx dt group block)
      (fun d e => { d with raised := e.raised, ended := e.ended, rcp := e.rcp, flow := e.flow, remote := e.remote, plane := e.plane, sdiRx := e.sdiRx, flip := e.flip, xp := e.xp, takeLog := e.takeLog, dwl := e.dwl })
      [D.DwlLane.LCOUNT_TX, D.DwlLane.RANK, D.Ens.PAIRS_MAX, D.Ens.REPLANS, D.Flow.CELLS, D.Flow.DEST_MAP, D.Flow.EFN, D.Flow.ENABLE, D.Flow.FORMAT, D.Flow.KIND, D.Flow.PATH, D.Flow.RESERVED_MBPS, D.Flow.STATE, D.FlowBind.CLASS, D.FlowBind.INDEX, D.FlowStatus.EMITTING, D.FlowStatus.ENABLE_QUEUED, D.FlowStatus.PLANNER_OWNED, D.GroupCounters.CELLS_TX, D.GroupCounters.MARKERS_RX, D.GroupCounters.MGMT_TX, D.GroupStatus.ACTIVE_LANES, D.GroupStatus.CAPACITY_MBPS, D.MgCounters.RCP_FRAMES, D.MgStatus.CONFIRM_PENDING, D.Salvo.STATE, D.VeneerStatus.FLIP_PENDING, D.VeneerStatus.FRONT, D.XpCount.RECORD_GENERATION, D.XpTable.FROM_SALVO, D.XpTable.PENDING, D.XpTable.PENDING_DISCONNECT, D.XpTable.PENDING_SOURCE, D.XpTable.PENDING_TIME, D.XpTable.SLOT]) ∧
  (∀ (dt group block : Nat), Frame (.salvoAbortRx dt group block)
      (fun d e => { d with raised := e.raised, ended := e.ended, rcp := e.rcp, flow := e.flow, remote := e.remote, plane := e.plane, sdiRx := e.sdiRx, hold := e.hold, store := e.store, tile := e.tile, flip := e.flip, xp := e.xp, takeLog := e.takeLog, dwl := e.dwl })
      [D.ChanStatus.PASR_MASK, D.DwlLane.LCOUNT_TX, D.DwlLane.RANK, D.Ens.PAIRS_MAX, D.Ens.REPLANS, D.Flow.CELLS, D.Flow.DEST_MAP, D.Flow.EFN, D.Flow.ENABLE, D.Flow.FORMAT, D.Flow.KIND, D.Flow.PATH, D.Flow.RESERVED_MBPS, D.Flow.STATE, D.FlowBind.CLASS, D.FlowBind.INDEX, D.FlowStatus.EMITTING, D.FlowStatus.ENABLE_QUEUED, D.FlowStatus.PLANNER_OWNED, D.FsCfgA.ENABLE, D.FsCfgB.ENABLE, D.GroupCounters.CELLS_TX, D.GroupCounters.MARKERS_RX, D.GroupCounters.MGMT_TX, D.GroupStatus.ACTIVE_LANES, D.GroupStatus.CAPACITY_MBPS, D.MgCounters.RCP_FRAMES, D.MgStatus.CONFIRM_PENDING, D.NetTxStatus.HOLD_READY, D.ProcCfg.OUT_SDI, D.Salvo.STATE, D.SdiTxStatus.HOLD_READY, D.TileStatus.INSERTED, D.VeneerStatus.FLIP_PENDING, D.VeneerStatus.FRONT, D.XpCount.RECORD_GENERATION, D.XpCount.SALVOS_ABORTED, D.XpTable.FROM_SALVO, D.XpTable.INDOUBT, D.XpTable.PENDING, D.XpTable.PENDING_DISCONNECT, D.XpTable.PENDING_SOURCE, D.XpTable.PENDING_TIME, D.XpTable.SLOT, D.XpTable.SOURCE, D.XpTable.VALID]) ∧
  (∀ (dt slot : Nat), Frame (.salvoDecideDeadline dt slot)
      (fun d e => { d with raised := e.raised, ended := e.ended, flow := e.flow, remote := e.remote, plane := e.plane, sdiRx := e.sdiRx, hold := e.hold, store := e.store, tile := e.tile, flip := e.flip, xp := e.xp, takeLog := e.takeLog, dwl := e.dwl })
      [D.ChanStatus.PASR_MASK, D.DwlLane.LCOUNT_TX, D.DwlLane.RANK, D.Ens.PAIRS_MAX, D.Ens.REPLANS, D.Flow.CELLS, D.Flow.DEST_MAP, D.Flow.EFN, D.Flow.ENABLE, D.Flow.FORMAT, D.Flow.KIND, D.Flow.PATH, D.Flow.RESERVED_MBPS, D.Flow.STATE, D.FlowBind.CLASS, D.FlowBind.INDEX, D.FlowStatus.EMITTING, D.FlowStatus.ENABLE_QUEUED, D.FlowStatus.PLANNER_OWNED, D.FsCfgA.ENABLE, D.FsCfgB.ENABLE, D.GroupCounters.CELLS_TX, D.GroupCounters.MGMT_TX, D.GroupStatus.ACTIVE_LANES, D.GroupStatus.CAPACITY_MBPS, D.NetTxStatus.HOLD_READY, D.ProcCfg.OUT_SDI, D.Salvo.FAIL_INDEX, D.Salvo.FAIL_MEMBER, D.Salvo.RESULT, D.Salvo.STATE, D.SdiTxStatus.HOLD_READY, D.TileStatus.INSERTED, D.VeneerStatus.FLIP_PENDING, D.VeneerStatus.FRONT, D.XpCount.INDOUBT_EVENTS, D.XpCount.RECORD_GENERATION, D.XpCount.SALVOS_ABORTED, D.XpTable.FROM_SALVO, D.XpTable.INDOUBT, D.XpTable.PENDING, D.XpTable.PENDING_DISCONNECT, D.XpTable.PENDING_SOURCE, D.XpTable.PENDING_TIME, D.XpTable.SLOT, D.XpTable.SOURCE, D.XpTable.VALID]) ∧
  (∀ (dt : Nat), Frame (.audioPosition dt)
      (fun d e => { d with raised := e.raised, flow := e.flow, hold := e.hold, store := e.store, events := e.events, layer := e.layer, audio := e.audio, sec := e.sec })
      [D.AudLaneStatus.SILENT, D.BundleStatus.SILENT, D.BundleStatus.UNDERRUNS, D.ChanStatus.PASR_MASK, D.Dest.CLIPS, D.Dest.CURRENT_SOURCES, D.Dest.FADES, D.Dest.FADES_REPLACED, D.DestStatus.ANY_SILENT, D.DestStatus.FADE_ACTIVE, D.DestStatus.FADE_QUEUED, D.DestStatus.RAMPING, D.Flow.SEQ_NEXT, D.FlowStatus.SOURCE_LOST, D.NetTxStatus.HOLD_READY, D.SdiTxStatus.HOLD_READY, D.Upd.CONFIRMED_SLOT, D.Upd.TRIAL_SLOT, D.Upd.UPDATE_STATE]) ∧
  (∀ (dt chan : Nat) (arrivals : List StoreReq) (ecc : Nat), FrameBut (.memRequestServe dt chan arrivals ecc)
      (fun d e => { d with raised := e.raised, flow := e.flow, hold := e.hold, store := e.store, chan := e.chan, knot := e.knot, events := e.events, netRx := e.netRx, netTx := e.netTx, memQ := e.memQ, audio := e.audio, ring := e.ring })
      [D.ChanCounters.BLOCKS_SUBSTITUTED, D.ChanCounters.ECC_CORRECTED, D.ChanCounters.ECC_UNCORRECTED, D.ChanStatus.PASR_MASK, D.DestStatus.DELAY_LOST, D.FlowStatus.FROZEN, D.FsPortCounters.BYTES, D.FsPortCounters.DEADLINE_MISSES, D.FsPortCounters.MAX_SERVICE_NS, D.KnotStatus.FULL, D.Layer.LOST_LINES, D.NetTxCounters.DISCARDS, D.NetTxStatus.HOLD_READY, D.SdiTxStatus.FROZEN, D.SdiTxStatus.HOLD_READY, D.Tile.LOST_LINES]) ∧
  (∀ (dt chan cause : Nat), Frame (.chanFail dt chan cause)
      (fun d e => { d with raised := e.raised, flow := e.flow, hold := e.hold, store := e.store, chan := e.chan, knot := e.knot, events := e.events, netRx := e.netRx, netTx := e.netTx, tile := e.tile, layer := e.layer, audio := e.audio, pool := e.pool, ring := e.ring })
      [D.ChanCounters.RETRAINS, D.ChanStatus.PASR_MASK, D.ChanStatus.SELF_REFRESH, D.ChanStatus.STATE, D.DestStatus.DELAY_LOST, D.FlowStatus.FROZEN, D.Fs.LAST_RETIRED_CHANNEL, D.Fs.SHRINK_EVENTS, D.KnotStatus.FULL, D.Layer.LOST_LINES, D.LayerStatus.UNBACKED, D.NetTxCounters.DISCARDS, D.NetTxStatus.HOLD_READY, D.SdiTxStatus.FROZEN, D.SdiTxStatus.HOLD_READY, D.Tile.LOST_LINES]) ∧
  (∀ (dt table : Nat), Frame (.twinReconcile dt table)
      (fun d e => { d with raised := e.raised, ended := e.ended, flow := e.flow, remote := e.remote, plane := e.plane, sdiRx := e.sdiRx, hold := e.hold, store := e.store, twin := e.twin, netTx := e.netTx, tile := e.tile, flip := e.flip, xp := e.xp, takeLog := e.takeLog, dwl := e.dwl })
      [D.ChanStatus.PASR_MASK, D.DwlLane.LCOUNT_TX, D.DwlLane.RANK, D.Ens.PAIRS_MAX, D.Ens.REPLANS, D.Flow.CELLS, D.Flow.DEST_MAP, D.Flow.EFN, D.Flow.ENABLE, D.Flow.FORMAT, D.Flow.KIND, D.Flow.PATH, D.Flow.RESERVED_MBPS, D.Flow.STATE, D.FlowBind.CLASS, D.FlowBind.INDEX, D.FlowStatus.EMITTING, D.FlowStatus.ENABLE_QUEUED, D.FlowStatus.PLANNER_OWNED, D.FsCfgA.DELAY_FRAMES, D.FsCfgA.DPLL, D.FsCfgA.ENABLE, D.FsCfgA.LOSS, D.FsCfgA.PHASE_NS, D.FsCfgB.DELAY_FRAMES, D.FsCfgB.DPLL, D.FsCfgB.ENABLE, D.FsCfgB.LOSS, D.FsCfgB.PHASE_NS, D.GroupCounters.CELLS_TX, D.GroupCounters.MGMT_TX, D.GroupStatus.ACTIVE_LANES, D.GroupStatus.CAPACITY_MBPS, D.IslandStatus.STATE, D.IslandStatus.WAKES, D.LegStatus.ANCHORED, D.LegStatus.TWIN_SENDING, D.NetTxStatus.HOLD_READY, D.ProcCfg.OUT_SDI, D.SdiTxStatus.HOLD_READY, D.Take.LAST_ACCEPT_TIME, D.TileStatus.INSERTED, D.Twin.ROLE, D.Twin.STATE, D.Twin.TAKES_RECONCILED, D.VeneerStatus.FLIP_PENDING, D.VeneerStatus.FRONT, D.XpCount.RECORD_GENERATION, D.XpCount.TAKES_REPLACED, D.XpTable.FROM_SALVO, D.XpTable.PENDING, D.XpTable.PENDING_DISCONNECT, D.XpTable.PENDING_SOURCE, D.XpTable.PENDING_TIME, D.XpTable.SLOT, D.XpTable.SOURCE, D.XpTable.VALID]) ∧
  (∀ (dt group lane chars ending : Nat) (cv disparity : Nat × Nat) (skips : Nat), Frame (.dwlItemRx dt group lane chars ending cv disparity skips)
      (fun d e => { d with raised := e.raised, rst := e.rst, hold := e.hold, twin := e.twin, dwl := e.dwl, phy := e.phy })
      [D.DwlLane.ATTEMPTS, D.DwlLane.LANE_STATE, D.DwlLane.LCOUNT_RX, D.DwlLane.LCOUNT_TX, D.DwlLane.PEER_HOLD, D.DwlLane.RANK, D.DwlLane.STEP, D.DwlLaneCounters.CODE_VIOLATIONS, D.DwlLaneCounters.CRC_ERRORS, D.DwlLaneCounters.DISPARITY_ERRORS, D.DwlLaneCounters.REPLAY_REQ_SENT, D.DwlLaneCounters.SKIPS_ADJUSTED, D.Ens.ENSEMBLE_STATE, D.Ens.MEMBERS_UP, D.FlowStatus.SAFE, D.GroupCounters.CELLS_RX, D.GroupCounters.CELLS_TX, D.GroupCounters.MGMT_RX, D.GroupCounters.MGMT_TX, D.GroupStatus.ACTIVE_LANES, D.GroupStatus.CAPACITY_MBPS, D.GroupStatus.STATE, D.LaneStatus.CDR_LOCKED, D.LaneStatus.SPARED, D.LaneStatus.USE, D.Margin.SCAN_STATE, D.NetTxCounters.SAFE_ENTRIES, D.NetTxStatus.SAFE, D.NetTxStatus.SAFE_HOLD, D.Phy.DWL_SPARES_READY, D.Phy.LAST_SWAP_LANE, D.Phy.SWAPS, D.RefArea.FOLLOW_GROUP, D.SdiTxCounters.SAFE_ENTRIES, D.SdiTxStatus.SAFE, D.SdiTxStatus.SAFE_HOLD]) ∧
  (∀ (dt group lane block : Nat), Frame (.dwlLaneMarkerRx dt group lane block)
      (fun d e => { d with raised := e.raised, rst := e.rst, hold := e.hold, twin := e.twin, dwl := e.dwl, phy := e.phy })
      [D.DwlLane.ATTEMPTS, D.DwlLane.LANE_STATE, D.DwlLane.LCOUNT_RX, D.DwlLane.LCOUNT_TX, D.DwlLane.PEER_HOLD, D.DwlLane.RANK, D.DwlLane.STEP, D.DwlLaneCounters.REPLAY_REQ_SENT, D.Ens.ENSEMBLE_STATE, D.Ens.MEMBERS_UP, D.FlowStatus.SAFE, D.GroupCounters.CELLS_RX, D.GroupCounters.CELLS_TX, D.GroupCounters.MGMT_RX, D.GroupCounters.MGMT_TX, D.GroupCounters.SETS_DROPPED, D.GroupStatus.ACTIVE_LANES, D.GroupStatus.CAPACITY_MBPS, D.GroupStatus.STATE, D.LaneStatus.CDR_LOCKED, D.LaneStatus.SPARED, D.LaneStatus.USE, D.Margin.SCAN_STATE, D.NetTxCounters.SAFE_ENTRIES, D.NetTxStatus.SAFE, D.NetTxStatus.SAFE_HOLD, D.Phy.DWL_SPARES_READY, D.Phy.LAST_SWAP_LANE, D.Phy.SWAPS, D.RefArea.FOLLOW_GROUP, D.SdiTxCounters.SAFE_ENTRIES, D.SdiTxStatus.SAFE, D.SdiTxStatus.SAFE_HOLD]) ∧
  (∀ (dt group chars : Nat), Frame (.dwlMgmtFrameRx dt group chars)
      (fun d e => { d with raised := e.raised, ended := e.ended, flow := e.flow, remote := e.remote, plane := e.plane, sdiRx := e.sdiRx, twin := e.twin, flip := e.flip, xp := e.xp, dwl := e.dwl, phy := e.phy })
      [D.DwlLane.ATTEMPTS, D.DwlLane.LANE_STATE, D.DwlLane.LCOUNT_RX, D.DwlLane.LCOUNT_TX, D.DwlLane.PEER_HOLD, D.DwlLane.RANK, D.DwlLane.STEP, D.Ens.PAIRS_MAX, D.Ens.REPLANS, D.Flow.CELLS, D.Flow.DEST_MAP, D.Flow.EFN, D.Flow.ENABLE, D.Flow.FORMAT, D.Flow.KIND, D.Flow.PATH, D.Flow.RESERVED_MBPS, D.Flow.STATE, D.FlowBind.CLASS, D.FlowBind.INDEX, D.FlowStatus.EMITTING, D.FlowStatus.ENABLE_QUEUED, D.FlowStatus.PLANNER_OWNED, D.GroupCounters.CELLS_TX, D.GroupCounters.MGMT_TX, D.GroupStatus.ACTIVE_LANES, D.GroupStatus.CAPACITY_MBPS, D.LaneStatus.CDR_LOCKED, D.LaneStatus.USE, D.Margin.SCAN_STATE, D.Twin.ROLE, D.VeneerStatus.FLIP_PENDING, D.VeneerStatus.FRONT, D.Xp.DELAY_POLICY, D.Xp.UNIFORM_DELAY_NS]) ∧
  (∀ (dt group lane block : Nat) (inverted : Bool), Frame (.dwlTrainingBlockRx dt group lane block inverted)
      (fun d e => { d with raised := e.raised, dwl := e.dwl, phy := e.phy })
      [D.DwlLane.ATTEMPTS, D.DwlLane.LANE_STATE, D.DwlLane.LCOUNT_RX, D.DwlLane.LCOUNT_TX, D.DwlLane.PEER_HOLD, D.DwlLane.RANK, D.DwlLane.STEP, D.Ens.ENSEMBLE_STATE, D.Ens.MEMBERS_UP, D.GroupCounters.CELLS_TX, D.GroupCounters.MGMT_TX, D.GroupCounters.SETS_DROPPED, D.GroupStatus.ACTIVE_LANES, D.GroupStatus.CAPACITY_MBPS, D.GroupStatus.STATE, D.LaneStatus.CDR_LOCKED, D.LaneStatus.RX_INVERTED, D.LaneStatus.SIGNAL_DETECT, D.LaneStatus.USE, D.Margin.SCAN_STATE, D.RefArea.FOLLOW_GROUP]) ∧
  (∀ (dt group lane errors : Nat), Frame (.dwlStepDwellEnd dt group lane errors)
      (fun d e => { d with raised := e.raised, ended := e.ended, flow := e.flow, remote := e.remote, plane := e.plane, sdiRx := e.sdiRx, twin := e.twin, knot := e.knot, events := e.events, flip := e.flip, xp := e.xp, dwl := e.dwl, phy := e.phy, ring := e.ring })
      [D.DwlLane.ATTEMPTS, D.DwlLane.LANE_STATE, D.DwlLane.LCOUNT_RX, D.DwlLane.LCOUNT_TX, D.DwlLane.PEER_HOLD, D.DwlLane.RANK, D.DwlLane.STEP, D.DwlLaneCounters.STEP_FAILURES, D.Ens.ENSEMBLE_STATE, D.Ens.MEMBERS_UP, D.Ens.PAIRS_MAX, D.Ens.REPLANS, D.Flow.CELLS, D.Flow.DEST_MAP, D.Flow.EFN, D.Flow.ENABLE, D.Flow.FORMAT, D.Flow.KIND, D.Flow.PATH, D.Flow.RESERVED_MBPS, D.Flow.STATE, D.FlowBind.CLASS, D.FlowBind.INDEX, D.FlowStatus.EMITTING, D.FlowStatus.ENABLE_QUEUED, D.FlowStatus.PLANNER_OWNED, D.GroupCounters.CELLS_TX, D.GroupCounters.MGMT_TX, D.GroupStatus.ACTIVE_LANES, D.GroupStatus.CAPACITY_MBPS, D.GroupStatus.STATE, D.KnotStatus.FULL, D.LaneStatus.ADAPTED, D.LaneStatus.CDR_LOCKED, D.LaneStatus.SPARED, D.LaneStatus.USE, D.Margin.SCAN_STATE, D.Phy.DWL_SPARES_READY, D.RefArea.FOLLOW_GROUP, D.VeneerStatus.FLIP_PENDING, D.VeneerStatus.FRONT]) ∧
  (∀ (dt frame : Nat), Frame (.chainFrameRx dt frame)
      (fun d e => { d with raised := e.raised, dwl := e.dwl, phy := e.phy })
      [D.DwlLane.ATTEMPTS, D.DwlLane.LANE_STATE, D.DwlLane.LCOUNT_RX, D.DwlLane.LCOUNT_TX, D.DwlLane.PEER_HOLD, D.DwlLane.RANK, D.DwlLane.STEP, D.Ens.ENSEMBLE_SIZE, D.Ens.ENSEMBLE_STATE, D.Ens.MEMBER, D.Ens.MEMBERS_UP, D.Ens.POSITION, D.Ens.TAILSTOCK, D.GroupCounters.CELLS_TX, D.GroupCounters.MGMT_TX, D.GroupStatus.ACTIVE_LANES, D.GroupStatus.BEACON_OK, D.GroupStatus.CAPACITY_MBPS, D.GroupStatus.PEER_CARD, D.GroupStatus.PEER_GROUP, D.GroupStatus.PEER_MEMBER, D.GroupStatus.SDI_RESERVE_MBPS, D.GroupStatus.STATE, D.LaneStatus.CDR_LOCKED, D.LaneStatus.USE, D.Margin.SCAN_STATE, D.RefArea.FOLLOW_GROUP]) ∧
  (∀ (dt lane cause skew : Nat), Frame (.phyLaneFailed dt lane cause skew)
      (fun d e => { d with raised := e.raised, rst := e.rst, hold := e.hold, dwl := e.dwl, phy := e.phy })
      [D.DwlLane.ATTEMPTS, D.DwlLane.LANE_STATE, D.DwlLane.LCOUNT_RX, D.DwlLane.LCOUNT_TX, D.DwlLane.PEER_HOLD, D.DwlLane.RANK, D.DwlLane.SKEW_PS, D.DwlLane.STEP, D.DwlLaneCounters.LOCK_LOSSES, D.DwlLaneCounters.REPLAY_REQ_SENT, D.Ens.ENSEMBLE_STATE, D.Ens.MEMBERS_UP, D.FlowStatus.SAFE, D.GroupCounters.CELLS_TX, D.GroupCounters.MGMT_TX, D.GroupStatus.ACTIVE_LANES, D.GroupStatus.CAPACITY_MBPS, D.GroupStatus.STATE, D.LaneStatus.CDR_LOCKED, D.LaneStatus.SPARED, D.LaneStatus.USE, D.Margin.SCAN_STATE, D.NetTxCounters.SAFE_ENTRIES, D.NetTxStatus.SAFE, D.NetTxStatus.SAFE_HOLD, D.Phy.DWL_SPARES_READY, D.Phy.LAST_SWAP_LANE, D.Phy.SWAPS, D.RefArea.FOLLOW_GROUP, D.SdiTxCounters.SAFE_ENTRIES, D.SdiTxStatus.SAFE, D.SdiTxStatus.SAFE_HOLD]) ∧
  (∀ (dt lane errors symbols : Nat), Frame (.phyDegradeCheck dt lane errors symbols)
      (fun d e => { d with freeIdx := e.freeIdx, raised := e.raised, knot := e.knot, events := e.events, dwl := e.dwl, phy := e.phy, ring := e.ring })
      [D.DwlLane.ATTEMPTS, D.DwlLane.LANE_STATE, D.DwlLane.LCOUNT_RX, D.DwlLane.LCOUNT_TX, D.DwlLane.PEER_HOLD, D.DwlLane.RANK, D.DwlLane.STEP, D.DwlLaneCounters.CODE_VIOLATIONS, D.DwlLaneCounters.DISPARITY_ERRORS, D.FlowStatus.EMITTING, D.FlowStatus.SOURCE_LOST, D.GroupCounters.CELLS_TX, D.GroupCounters.MGMT_TX, D.GroupStatus.ACTIVE_LANES, D.GroupStatus.CAPACITY_MBPS, D.IslandStatus.STATE, D.IslandStatus.WAKES, D.KnotStatus.FULL, D.LaneStatus.CDR_LOCKED, D.LaneStatus.ERRORS_PER_S, D.LaneStatus.SPARED, D.LaneStatus.USE, D.Margin.SCAN_STATE, D.Phy.DWL_SPARES_READY, D.Phy.LAST_SWAP_LANE, D.Phy.SWAPS, D.PortCounters.FEC_CORRECTED, D.PortCounters.FEC_UNCORRECTED, D.PortCounters.LINK_DOWNS, D.PortStatus.FEC_LOCKED, D.PortStatus.LINK, D.PortStatus.PCS_ALIGNED, D.SpareCfg.LANE, D.SpareCfg.REMAP, D.SpareStatus.AUTO, D.SpareStatus.FAILED, D.SpareStatus.IN_USE, D.SpareStatus.LANE]) ∧
  (∀ (dt src inst : Nat) (lasting : Bool), Frame (.faultLatch dt src inst lasting)
      (fun d e => { d with raised := e.raised, rst := e.rst, hold := e.hold, flt := e.flt, events := e.events })
      [D.FirstError.INJECTED, D.FirstError.INSTANCE, D.FirstError.OVERFLOW, D.FirstError.OVERFLOW_COUNT, D.FirstError.SOURCE, D.FirstError.TIME, D.FirstError.VALID, D.FlowStatus.SAFE, D.Flt.ERRN_STATE, D.NetTxCounters.SAFE_ENTRIES, D.NetTxStatus.SAFE, D.NetTxStatus.SAFE_HOLD, D.SdiTxCounters.SAFE_ENTRIES, D.SdiTxStatus.SAFE, D.SdiTxStatus.SAFE_HOLD, D.SourceStatus.ACTIVE, D.SourceStatus.COUNT, D.SourceStatus.INJECTED, D.SourceStatus.INSTANCE, D.SourceStatus.LAST_TIME, D.SourceStatus.PENDING, D.SourceStatus.SAFE_HOLDING, D.Summary.FIRST_KNOWN, D.Summary.FIRST_MEMBER, D.Summary.FIRST_SOURCE, D.Summary.STICKY, D.Summary.TIE, D.Summary.VALID]) ∧
  (∀ (dt target inst : Nat), FrameOver (.blockResetEnd dt target inst)
      (fun d e => { d with freeIdx := e.freeIdx, raised := e.raised, ended := e.ended, rst := e.rst, flow := e.flow, sdiRx := e.sdiRx, hold := e.hold, chan := e.chan, ref := e.ref, dpll := e.dpll, tile := e.tile, layer := e.layer, head := e.head, flip := e.flip, dwl := e.dwl, phy := e.phy, bus := e.bus, rows := e.rows, ring := e.ring })
      [D.ChanCounters.RETRAINS, D.ChanStatus.SELF_REFRESH, D.ChanStatus.STATE, D.DpllCounters.HOLDOVERS, D.DpllStatus.BUILDOUT_NS, D.DpllStatus.CURRENT, D.DpllStatus.FROZEN, D.DpllStatus.PENDING, D.DpllStatus.PHASE_MOVING, D.DpllStatus.STATE, D.DwlLane.ATTEMPTS, D.DwlLane.LANE_STATE, D.DwlLane.LCOUNT_RX, D.DwlLane.LCOUNT_TX, D.DwlLane.PEER_HOLD, D.DwlLane.RANK, D.DwlLane.STEP, D.Ens.ENSEMBLE_STATE, D.Ens.MEMBERS_UP, D.Flow.STATE, D.FlowStatus.EMITTING, D.FlowStatus.ENABLE_QUEUED, D.FlowStatus.SOURCE_LOST, D.GroupCounters.CELLS_TX, D.GroupCounters.MGMT_TX, D.GroupStatus.ACTIVE_LANES, D.GroupStatus.CAPACITY_MBPS, D.GroupStatus.STATE, D.IslandStatus.STATE, D.LaneStatus.CDR_LOCKED, D.LaneStatus.USE, D.Margin.SCAN_STATE, D.PortCounters.FEC_CORRECTED, D.PortCounters.FEC_UNCORRECTED, D.PortCounters.LINK_DOWNS, D.PortStatus.FEC_LOCKED, D.PortStatus.LINK, D.PortStatus.PCS_ALIGNED, D.RefArea.FOLLOW_GROUP, D.RefStatus.ACTIVE, D.RefStatus.CAUSE, D.RefStatus.STATE, D.RefSticky.DISQUALIFIED, D.SdiRxCounters.ANC_CHECKSUM_ERRORS, D.SdiRxCounters.CRC_C, D.SdiRxCounters.CRC_Y, D.SdiRxCounters.ERRORED_FRAMES, D.SdiRxCounters.LINE_NUM_ERRORS, D.SdiRxCounters.TRS_ERRORS, D.SdiRxStatus.LOCKED, D.VeneerStatus.FLIP_PENDING, D.VeneerStatus.FRONT, ⟨0x0720, 2, 0, 4294967296, false⟩]
      (fun s k => (s.dev.blockEntries target inst).contains k))
end

