-- ==== Sys2Proof/Laws/Assoc.lean ====
section
/-! SUPPORT. Sparse tables: what is read after a write, and the canonical form. -/

namespace Sys2Proof
namespace Assoc

variable {κ β : Type} [DecidableEq κ]

theorem find_erase_same (l : List (κ × β)) (k : κ) : find (erase l k) k = none := by
  induction l with
  | nil => rfl
  | cons p t ih =>
    obtain ⟨k', v⟩ := p
    by_cases h : k' = k <;> simp [erase, find, h, ih]

theorem find_erase_other (l : List (κ × β)) {k j : κ} (h : j ≠ k) : find (erase l k) j = find l j := by
  induction l with
  | nil => rfl
  | cons p t ih =>
    obtain ⟨k', v⟩ := p
    by_cases hk : k' = k
    · subst hk; simp [erase, find, ih, Ne.symm h]
    · simp only [erase, hk, if_false, find, ih]

theorem find_insertAt_same (lt : κ → κ → Bool) (l : List (κ × β)) (k : κ) (v : β) (h : find l k = none) :
    find (insertAt lt l k v) k = some v := by
  induction l with
  | nil => simp [insertAt, find]
  | cons p t ih =>
    obtain ⟨k', v'⟩ := p
    have hk : k' ≠ k := by intro e; simp [find, e] at h
    have ht : find t k = none := by simpa [find, hk] using h
    by_cases hl : lt k k' = true <;> simp [insertAt, find, hl, hk, ih ht]

theorem find_insertAt_other (lt : κ → κ → Bool) (l : List (κ × β)) {k j : κ} (v : β) (h : j ≠ k) :
    find (insertAt lt l k v) j = find l j := by
  induction l with
  | nil => simp [insertAt, find, Ne.symm h]
  | cons p t ih =>
    obtain ⟨k', v'⟩ := p
    by_cases hl : lt k k' = true
    · simp [insertAt, find, hl, Ne.symm h]
    · simp only [insertAt, hl, Bool.false_eq_true, if_false, find, ih]

variable [DecidableEq β]

/-- A value stored at a key is read there. -/
@[simp] theorem get_put_same (lt : κ → κ → Bool) (l : List (κ × β)) (d : β) (k : κ) (v : β) : get (put lt l d k v) d k = v := by
  unfold get put
  by_cases h : v = d
  · simp [h, find_erase_same]
  · simp [h, find_insertAt_same lt _ k v (find_erase_same l k)]

/-- Every other key reads as before. -/
theorem get_put_other (lt : κ → κ → Bool) (l : List (κ × β)) (d d' : β) {k j : κ} (v : β) (h : j ≠ k) :
    get (put lt l d k v) d' j = get l d' j := by
  unfold get put
  by_cases hv : v = d
  · simp [hv, find_erase_other l h]
  · simp [hv, find_insertAt_other lt _ v h, find_erase_other l h]

/-! ## The canonical form -/

/-- Every key of a list exceeds k. -/
def above (lt : κ → κ → Bool) (k : κ) (l : List (κ × β)) : Prop := ∀ p ∈ l, lt k p.1 = true

omit [DecidableEq κ] [DecidableEq β] in
theorem sorted_cons (lt : κ → κ → Bool) (tr : ∀ a b c, lt a b = true → lt b c = true → lt a c = true) (k : κ) (v : β) (l : List (κ × β)) :
    sorted lt ((k, v) :: l) = true ↔ above lt k l ∧ sorted lt l = true := by
  induction l generalizing k v with
  | nil => simp [sorted, above]
  | cons p t ih =>
    obtain ⟨k', v'⟩ := p
    constructor
    · intro h
      simp only [sorted, Bool.and_eq_true] at h
      refine ⟨?_, h.2⟩
      have hk' := (ih k' v').1 h.2
      intro q hq
      rcases List.mem_cons.1 hq with rfl | hq
      · exact h.1
      · exact tr _ _ _ h.1 (hk'.1 q hq)
    · intro h
      simp only [sorted, Bool.and_eq_true]
      exact ⟨h.1 _ (List.mem_cons_self ..), h.2⟩

omit [DecidableEq β] in
theorem mem_erase (l : List (κ × β)) (k : κ) {p : κ × β} (h : p ∈ erase l k) : p ∈ l ∧ p.1 ≠ k := by
  induction l with
  | nil => simp [erase] at h
  | cons q t ih =>
    obtain ⟨k', v⟩ := q
    by_cases hk : k' = k
    · simp only [erase, hk, if_true] at h
      exact ⟨List.mem_cons_of_mem _ (ih h).1, (ih h).2⟩
    · simp only [erase, hk, if_false, List.mem_cons] at h
      rcases h with rfl | h
      · exact ⟨List.mem_cons_self .., hk⟩
      · exact ⟨List.mem_cons_of_mem _ (ih h).1, (ih h).2⟩

omit [DecidableEq κ] [DecidableEq β] in
theorem mem_insertAt (lt : κ → κ → Bool) (l : List (κ × β)) (k : κ) (v : β) {p : κ × β} (h : p ∈ insertAt lt l k v) :
    p = (k, v) ∨ p ∈ l := by
  induction l with
  | nil => simpa [insertAt] using h
  | cons q t ih =>
    obtain ⟨k', v'⟩ := q
    by_cases hl : lt k k' = true
    · simp only [insertAt, hl, if_true, List.mem_cons] at h; simpa using h
    · simp only [insertAt, hl, Bool.false_eq_true, if_false, List.mem_cons] at h
      rcases h with rfl | h
      · exact Or.inr (List.mem_cons_self ..)
      · rcases ih h with e | e
        · exact Or.inl e
        · exact Or.inr (List.mem_cons_of_mem _ e)

omit [DecidableEq β] in
theorem sorted_erase (lt : κ → κ → Bool) (tr : ∀ a b c, lt a b = true → lt b c = true → lt a c = true) (l : List (κ × β)) (k : κ)
    (h : sorted lt l = true) : sorted lt (erase l k) = true := by
  induction l with
  | nil => rfl
  | cons p t ih =>
    obtain ⟨k', v⟩ := p
    have hs := (sorted_cons lt tr k' v t).1 h
    by_cases hk : k' = k
    · simpa [erase, hk] using ih hs.2
    · simp only [erase, hk, if_false]
      exact (sorted_cons lt tr k' v _).2 ⟨fun p hp => hs.1 p (mem_erase t k hp).1, ih hs.2⟩

omit [DecidableEq κ] [DecidableEq β] in
theorem sorted_insertAt (lt : κ → κ → Bool) (tr : ∀ a b c, lt a b = true → lt b c = true → lt a c = true)
    (tot : ∀ a b, a ≠ b → lt a b = true ∨ lt b a = true) (l : List (κ × β)) (k : κ) (v : β) (hk : ∀ p ∈ l, p.1 ≠ k)
    (h : sorted lt l = true) : sorted lt (insertAt lt l k v) = true := by
  induction l with
  | nil => rfl
  | cons p t ih =>
    obtain ⟨k', v'⟩ := p
    have hs := (sorted_cons lt tr k' v' t).1 h
    by_cases hl : lt k k' = true
    · simp only [insertAt, hl, if_true]
      refine (sorted_cons lt tr k v _).2 ⟨?_, h⟩
      intro q hq
      rcases List.mem_cons.1 hq with rfl | hq
      · exact hl
      · exact tr _ _ _ hl (hs.1 q hq)
    · simp only [insertAt, hl, Bool.false_eq_true, if_false]
      refine (sorted_cons lt tr k' v' _).2 ⟨?_, ih (fun p hp => hk p (List.mem_cons_of_mem _ hp)) hs.2⟩
      intro q hq
      rcases mem_insertAt lt t k v hq with rfl | hq
      · rcases tot k k' (fun e => hk _ (List.mem_cons_self ..) e.symm) with e | e
        · exact absurd e hl
        · exact e
      · exact hs.1 q hq

theorem sorted_put (lt : κ → κ → Bool) (tr : ∀ a b c, lt a b = true → lt b c = true → lt a c = true)
    (tot : ∀ a b, a ≠ b → lt a b = true ∨ lt b a = true) (l : List (κ × β)) (d : β) (k : κ) (v : β) (h : sorted lt l = true) :
    sorted lt (put lt l d k v) = true := by
  unfold put
  split
  · exact sorted_erase lt tr l k h
  · exact sorted_insertAt lt tr tot _ k v (fun p hp => (mem_erase l k hp).2) (sorted_erase lt tr l k h)

theorem mem_put (lt : κ → κ → Bool) (l : List (κ × β)) (d : β) (k : κ) (v : β) {p : κ × β} (h : p ∈ put lt l d k v) :
    (p = (k, v) ∧ v ≠ d) ∨ p ∈ l := by
  unfold put at h
  split at h
  · exact Or.inr (mem_erase l k h).1
  · rcases mem_insertAt lt _ k v h with e | e
    · exact Or.inl ⟨e, by assumption⟩
    · exact Or.inr (mem_erase l k e).1

omit [DecidableEq κ] [DecidableEq β] in
theorem sorted_filter (lt : κ → κ → Bool) (tr : ∀ a b c, lt a b = true → lt b c = true → lt a c = true) (q : κ × β → Bool)
    (l : List (κ × β)) (h : sorted lt l = true) : sorted lt (l.filter q) = true := by
  induction l with
  | nil => rfl
  | cons p t ih =>
    obtain ⟨k, v⟩ := p
    have hs := (sorted_cons lt tr k v t).1 h
    by_cases hq : q (k, v) = true
    · simp only [List.filter_cons, hq, if_true]
      exact (sorted_cons lt tr k v _).2 ⟨fun p hp => hs.1 p (List.mem_filter.1 hp).1, ih hs.2⟩
    · simpa only [List.filter_cons, hq, Bool.false_eq_true, if_false] using ih hs.2

end Assoc

theorem natLt_trans (a b c : Nat) (h : natLt a b = true) (k : natLt b c = true) : natLt a c = true := by
  simp only [natLt, decide_eq_true_eq] at *; omega

theorem natLt_total (a b : Nat) (h : a ≠ b) : natLt a b = true ∨ natLt b a = true := by
  simp only [natLt, decide_eq_true_eq]; omega

/-- A table over numbers reads what was written, and is unchanged elsewhere. -/
@[simp] theorem nget_nput_same {β : Type} [DecidableEq β] (m : NMap β) (d : β) (k : Nat) (v : β) : nget (nput m d k v) d k = v :=
  Assoc.get_put_same natLt m d k v

theorem nget_nput_other {β : Type} [DecidableEq β] (m : NMap β) (d : β) {k j : Nat} (v : β) (h : j ≠ k) :
    nget (nput m d k v) d j = nget m d j := Assoc.get_put_other natLt m d d v h

end Sys2Proof
end

