-- ==== Sys2Proof/Laws/Bits.lean ====
section
/-! SUPPORT. Reading a bit field after writing one. -/

namespace Sys2Proof

theorem bitsOf_lt (v lo w : Nat) : bitsOf v lo w < 2 ^ w := Nat.mod_lt _ (Nat.two_pow_pos w)

/-- The field that was written reads the value, cut to its width. -/
@[simp] theorem bitsOf_setBits_same (v lo w x : Nat) : bitsOf (setBits v lo w x) lo w = x % 2 ^ w := by
  unfold bitsOf setBits
  have h1 : v % 2 ^ lo < 2 ^ lo := Nat.mod_lt _ (Nat.two_pow_pos lo)
  have h2 : (v / 2 ^ (lo + w) * 2 ^ (lo + w) + x % 2 ^ w * 2 ^ lo + v % 2 ^ lo) / 2 ^ lo = v / 2 ^ (lo + w) * 2 ^ w + x % 2 ^ w := by
    rw [show v / 2 ^ (lo + w) * 2 ^ (lo + w) + x % 2 ^ w * 2 ^ lo + v % 2 ^ lo
        = v % 2 ^ lo + (v / 2 ^ (lo + w) * 2 ^ w + x % 2 ^ w) * 2 ^ lo by rw [pow_add]; ring]
    rw [Nat.add_mul_div_right _ _ (Nat.two_pow_pos lo), Nat.div_eq_of_lt h1, Nat.zero_add]
  rw [h2, Nat.mul_add_mod_self_right, Nat.mod_mod]

/-- A field above the one written is unchanged. -/
theorem bitsOf_setBits_above (v lo w x lo' w' : Nat) (h : lo + w ≤ lo') : bitsOf (setBits v lo w x) lo' w' = bitsOf v lo' w' := by
  unfold bitsOf setBits
  congr 1
  obtain ⟨k, rfl⟩ := Nat.exists_eq_add_of_le h
  have hx : x % 2 ^ w < 2 ^ w := Nat.mod_lt _ (Nat.two_pow_pos w)
  have hv : v % 2 ^ lo < 2 ^ lo := Nat.mod_lt _ (Nat.two_pow_pos lo)
  have hlow : x % 2 ^ w * 2 ^ lo + v % 2 ^ lo < 2 ^ (lo + w) := by
    rw [pow_add]
    calc x % 2 ^ w * 2 ^ lo + v % 2 ^ lo < x % 2 ^ w * 2 ^ lo + 2 ^ lo := by omega
      _ = (x % 2 ^ w + 1) * 2 ^ lo := by ring
      _ ≤ 2 ^ w * 2 ^ lo := Nat.mul_le_mul_right _ hx
      _ = 2 ^ lo * 2 ^ w := by ring
  rw [pow_add _ (lo + w) k, ← Nat.div_div_eq_div_mul, ← Nat.div_div_eq_div_mul]
  congr 1
  rw [Nat.add_assoc, Nat.add_comm, Nat.add_mul_div_right _ _ (Nat.two_pow_pos _), Nat.div_eq_of_lt hlow, Nat.zero_add]

/-- A field below the one written is unchanged. -/
theorem bitsOf_setBits_below (v lo w x lo' w' : Nat) (h : lo' + w' ≤ lo) : bitsOf (setBits v lo w x) lo' w' = bitsOf v lo' w' := by
  unfold bitsOf setBits
  obtain ⟨k, rfl⟩ := Nat.exists_eq_add_of_le h
  have e : ∀ a : Nat, a / 2 ^ lo' % 2 ^ w' = a % 2 ^ (lo' + w') / 2 ^ lo' := by
    intro a; rw [pow_add, Nat.mod_mul_right_div_self]
  rw [e, e]
  congr 1
  rw [show v / 2 ^ (lo' + w' + k + w) * 2 ^ (lo' + w' + k + w) + x % 2 ^ w * 2 ^ (lo' + w' + k) + v % 2 ^ (lo' + w' + k)
      = v % 2 ^ (lo' + w' + k) + 2 ^ (lo' + w') * (v / 2 ^ (lo' + w' + k + w) * 2 ^ (k + w) + x % 2 ^ w * 2 ^ k) by
        simp only [pow_add]; ring]
  rw [Nat.add_mul_mod_self_left, Nat.mod_mod_of_dvd]
  exact pow_dvd_pow 2 (by omega)

@[simp] theorem ofBool_mod (b : Bool) : ofBool b % 2 ^ 1 = ofBool b := by cases b <;> rfl
@[simp] theorem ofBool_true : ofBool true = 1 := (rfl)
@[simp] theorem ofBool_false : ofBool false = 0 := (rfl)
theorem ofBool_eq_one (b : Bool) : (ofBool b == 1) = b := by cases b <;> rfl

/-! ## The CRCs -/

theorem crc32cBit_lt (c : Nat) (h : c < 2 ^ 32) : crc32cBit c < 2 ^ 32 := by
  unfold crc32cBit
  split
  · exact Nat.xor_lt_two_pow (by omega) (by decide)
  · omega

theorem crc32cByte_lt (c b : Nat) (h : c < 2 ^ 32) (hb : b < 256) : crc32cByte c b < 2 ^ 32 := by
  unfold crc32cByte
  have : c ^^^ b < 2 ^ 32 := Nat.xor_lt_two_pow h (by omega)
  iterate 8 apply crc32cBit_lt
  exact this

theorem bytesOf_lt (n v : Nat) : ∀ b ∈ bytesOf n v, b < 256 := by
  induction n generalizing v with
  | zero => simp [bytesOf]
  | succ n ih =>
    intro b hb
    rcases List.mem_cons.1 hb with rfl | hb
    · exact Nat.mod_lt _ (by decide)
    · exact ih _ b hb

theorem crcFold_lt (l : List Nat) (c : Nat) (h : c < 2 ^ 32) (hl : ∀ b ∈ l, b < 256) : l.foldl crc32cByte c < 2 ^ 32 := by
  induction l generalizing c with
  | nil => exact h
  | cons a t ih => exact ih _ (crc32cByte_lt c a h (hl a (by simp))) (fun b hb => hl b (by simp [hb]))

theorem crc32c_lt (n v : Nat) : crc32c (bytesOf n v) < 2 ^ 32 :=
  Nat.xor_lt_two_pow (crcFold_lt _ _ (by decide) (bytesOf_lt n v)) (by decide)

theorem crc16Bit_lt (c : Nat) (h : c < 2 ^ 16) : crc16Bit c < 2 ^ 16 := by
  unfold crc16Bit
  split
  · exact Nat.xor_lt_two_pow (by omega) (by decide)
  · omega

theorem crc16Byte_lt (c b : Nat) (h : c < 2 ^ 16) (hb : b < 256) : crc16Byte c b < 2 ^ 16 := by
  unfold crc16Byte
  have : c ^^^ b * 256 < 2 ^ 16 := Nat.xor_lt_two_pow h (by omega)
  iterate 8 apply crc16Bit_lt
  exact this

theorem crc16Fold_lt (l : List Nat) (c : Nat) (h : c < 2 ^ 16) (hl : ∀ b ∈ l, b < 256) : l.foldl crc16Byte c < 2 ^ 16 := by
  induction l generalizing c with
  | nil => exact h
  | cons a t ih => exact ih _ (crc16Byte_lt c a h (hl a (by simp))) (fun b hb => hl b (by simp [hb]))

theorem crc16_lt (n v : Nat) : crc16 (bytesOf n v) < 2 ^ 16 := crc16Fold_lt _ _ (by decide) (bytesOf_lt n v)

end Sys2Proof
end

