-- ==== Sys2Proof/Laws/State.lean ====
section
/-! SUPPORT. What each update of the device leaves alone: one lemma per field per update. They are stated as propositions proved by `(rfl)`, so
that simp rewrites with them one by one; by definitional unfolding the kernel would compare whole devices. -/

namespace Sys2Proof.Machine

open Sys2Proof

variable (d : Dev)

@[simp] theorem Dev.elapse_dict (dt : Nat) : (d.elapse dt).dict = d.dict := (rfl)
@[simp] theorem Dev.elapse_freeIdx (dt : Nat) : (d.elapse dt).freeIdx = d.freeIdx := (rfl)
@[simp] theorem Dev.elapse_raised (dt : Nat) : (d.elapse dt).raised = d.raised := (rfl)
@[simp] theorem Dev.elapse_ended (dt : Nat) : (d.elapse dt).ended = d.ended := (rfl)
@[simp] theorem Dev.elapse_rst (dt : Nat) : (d.elapse dt).rst = d.rst := (rfl)
@[simp] theorem Dev.elapse_rcp (dt : Nat) : (d.elapse dt).rcp = d.rcp := (rfl)
@[simp] theorem Dev.elapse_flash (dt : Nat) : (d.elapse dt).flash = d.flash := (rfl)
@[simp] theorem Dev.elapse_flow (dt : Nat) : (d.elapse dt).flow = d.flow := (rfl)
@[simp] theorem Dev.elapse_remote (dt : Nat) : (d.elapse dt).remote = d.remote := (rfl)
@[simp] theorem Dev.elapse_plane (dt : Nat) : (d.elapse dt).plane = d.plane := (rfl)
@[simp] theorem Dev.elapse_sdiRx (dt : Nat) : (d.elapse dt).sdiRx = d.sdiRx := (rfl)
@[simp] theorem Dev.elapse_hold (dt : Nat) : (d.elapse dt).hold = d.hold := (rfl)
@[simp] theorem Dev.elapse_flt (dt : Nat) : (d.elapse dt).flt = d.flt := (rfl)
@[simp] theorem Dev.elapse_store (dt : Nat) : (d.elapse dt).store = d.store := (rfl)
@[simp] theorem Dev.elapse_chan (dt : Nat) : (d.elapse dt).chan = d.chan := (rfl)
@[simp] theorem Dev.elapse_twin (dt : Nat) : (d.elapse dt).twin = d.twin := (rfl)
@[simp] theorem Dev.elapse_knot (dt : Nat) : (d.elapse dt).knot = d.knot := (rfl)
@[simp] theorem Dev.elapse_events (dt : Nat) : (d.elapse dt).events = d.events := (rfl)
@[simp] theorem Dev.elapse_netRx (dt : Nat) : (d.elapse dt).netRx = d.netRx := (rfl)
@[simp] theorem Dev.elapse_netTx (dt : Nat) : (d.elapse dt).netTx = d.netTx := (rfl)
@[simp] theorem Dev.elapse_netPort (dt : Nat) : (d.elapse dt).netPort = d.netPort := (rfl)
@[simp] theorem Dev.elapse_ctrl (dt : Nat) : (d.elapse dt).ctrl = d.ctrl := (rfl)
@[simp] theorem Dev.elapse_time (dt : Nat) : (d.elapse dt).time = d.time := (rfl)
@[simp] theorem Dev.elapse_ref (dt : Nat) : (d.elapse dt).ref = d.ref := (rfl)
@[simp] theorem Dev.elapse_dpll (dt : Nat) : (d.elapse dt).dpll = d.dpll := (rfl)
@[simp] theorem Dev.elapse_tile (dt : Nat) : (d.elapse dt).tile = d.tile := (rfl)
@[simp] theorem Dev.elapse_tileRestore (dt : Nat) : (d.elapse dt).tileRestore = d.tileRestore := (rfl)
@[simp] theorem Dev.elapse_tileAgain (dt : Nat) : (d.elapse dt).tileAgain = d.tileAgain := (rfl)
@[simp] theorem Dev.elapse_layer (dt : Nat) : (d.elapse dt).layer = d.layer := (rfl)
@[simp] theorem Dev.elapse_head (dt : Nat) : (d.elapse dt).head = d.head := (rfl)
@[simp] theorem Dev.elapse_flip (dt : Nat) : (d.elapse dt).flip = d.flip := (rfl)
@[simp] theorem Dev.elapse_memQ (dt : Nat) : (d.elapse dt).memQ = d.memQ := (rfl)
@[simp] theorem Dev.elapse_audio (dt : Nat) : (d.elapse dt).audio = d.audio := (rfl)
@[simp] theorem Dev.elapse_pool (dt : Nat) : (d.elapse dt).pool = d.pool := (rfl)
@[simp] theorem Dev.elapse_xp (dt : Nat) : (d.elapse dt).xp = d.xp := (rfl)
@[simp] theorem Dev.elapse_takeLog (dt : Nat) : (d.elapse dt).takeLog = d.takeLog := (rfl)
@[simp] theorem Dev.elapse_dwl (dt : Nat) : (d.elapse dt).dwl = d.dwl := (rfl)
@[simp] theorem Dev.elapse_phy (dt : Nat) : (d.elapse dt).phy = d.phy := (rfl)
@[simp] theorem Dev.elapse_sec (dt : Nat) : (d.elapse dt).sec = d.sec := (rfl)
@[simp] theorem Dev.elapse_pwr (dt : Nat) : (d.elapse dt).pwr = d.pwr := (rfl)
@[simp] theorem Dev.elapse_bus (dt : Nat) : (d.elapse dt).bus = d.bus := (rfl)
@[simp] theorem Dev.elapse_rows (dt : Nat) : (d.elapse dt).rows = d.rows := (rfl)
@[simp] theorem Dev.elapse_ring (dt : Nat) : (d.elapse dt).ring = d.ring := (rfl)

@[simp] theorem Dev.setEnt_raw (k : Key) (v : Nat) : (d.setEnt k v).raw = d.raw := (rfl)
@[simp] theorem Dev.setEnt_wall (k : Key) (v : Nat) : (d.setEnt k v).wall = d.wall := (rfl)
@[simp] theorem Dev.setEnt_out (k : Key) (v : Nat) : (d.setEnt k v).out = d.out := (rfl)
@[simp] theorem Dev.setEnt_freeIdx (k : Key) (v : Nat) : (d.setEnt k v).freeIdx = d.freeIdx := (rfl)
@[simp] theorem Dev.setEnt_raised (k : Key) (v : Nat) : (d.setEnt k v).raised = d.raised := (rfl)
@[simp] theorem Dev.setEnt_ended (k : Key) (v : Nat) : (d.setEnt k v).ended = d.ended := (rfl)
@[simp] theorem Dev.setEnt_rst (k : Key) (v : Nat) : (d.setEnt k v).rst = d.rst := (rfl)
@[simp] theorem Dev.setEnt_rcp (k : Key) (v : Nat) : (d.setEnt k v).rcp = d.rcp := (rfl)
@[simp] theorem Dev.setEnt_flash (k : Key) (v : Nat) : (d.setEnt k v).flash = d.flash := (rfl)
@[simp] theorem Dev.setEnt_flow (k : Key) (v : Nat) : (d.setEnt k v).flow = d.flow := (rfl)
@[simp] theorem Dev.setEnt_remote (k : Key) (v : Nat) : (d.setEnt k v).remote = d.remote := (rfl)
@[simp] theorem Dev.setEnt_plane (k : Key) (v : Nat) : (d.setEnt k v).plane = d.plane := (rfl)
@[simp] theorem Dev.setEnt_sdiRx (k : Key) (v : Nat) : (d.setEnt k v).sdiRx = d.sdiRx := (rfl)
@[simp] theorem Dev.setEnt_hold (k : Key) (v : Nat) : (d.setEnt k v).hold = d.hold := (rfl)
@[simp] theorem Dev.setEnt_flt (k : Key) (v : Nat) : (d.setEnt k v).flt = d.flt := (rfl)
@[simp] theorem Dev.setEnt_store (k : Key) (v : Nat) : (d.setEnt k v).store = d.store := (rfl)
@[simp] theorem Dev.setEnt_chan (k : Key) (v : Nat) : (d.setEnt k v).chan = d.chan := (rfl)
@[simp] theorem Dev.setEnt_twin (k : Key) (v : Nat) : (d.setEnt k v).twin = d.twin := (rfl)
@[simp] theorem Dev.setEnt_knot (k : Key) (v : Nat) : (d.setEnt k v).knot = d.knot := (rfl)
@[simp] theorem Dev.setEnt_events (k : Key) (v : Nat) : (d.setEnt k v).events = d.events := (rfl)
@[simp] theorem Dev.setEnt_netRx (k : Key) (v : Nat) : (d.setEnt k v).netRx = d.netRx := (rfl)
@[simp] theorem Dev.setEnt_netTx (k : Key) (v : Nat) : (d.setEnt k v).netTx = d.netTx := (rfl)
@[simp] theorem Dev.setEnt_netPort (k : Key) (v : Nat) : (d.setEnt k v).netPort = d.netPort := (rfl)
@[simp] theorem Dev.setEnt_ctrl (k : Key) (v : Nat) : (d.setEnt k v).ctrl = d.ctrl := (rfl)
@[simp] theorem Dev.setEnt_time (k : Key) (v : Nat) : (d.setEnt k v).time = d.time := (rfl)
@[simp] theorem Dev.setEnt_ref (k : Key) (v : Nat) : (d.setEnt k v).ref = d.ref := (rfl)
@[simp] theorem Dev.setEnt_dpll (k : Key) (v : Nat) : (d.setEnt k v).dpll = d.dpll := (rfl)
@[simp] theorem Dev.setEnt_tile (k : Key) (v : Nat) : (d.setEnt k v).tile = d.tile := (rfl)
@[simp] theorem Dev.setEnt_tileRestore (k : Key) (v : Nat) : (d.setEnt k v).tileRestore = d.tileRestore := (rfl)
@[simp] theorem Dev.setEnt_tileAgain (k : Key) (v : Nat) : (d.setEnt k v).tileAgain = d.tileAgain := (rfl)
@[simp] theorem Dev.setEnt_layer (k : Key) (v : Nat) : (d.setEnt k v).layer = d.layer := (rfl)
@[simp] theorem Dev.setEnt_head (k : Key) (v : Nat) : (d.setEnt k v).head = d.head := (rfl)
@[simp] theorem Dev.setEnt_flip (k : Key) (v : Nat) : (d.setEnt k v).flip = d.flip := (rfl)
@[simp] theorem Dev.setEnt_memQ (k : Key) (v : Nat) : (d.setEnt k v).memQ = d.memQ := (rfl)
@[simp] theorem Dev.setEnt_audio (k : Key) (v : Nat) : (d.setEnt k v).audio = d.audio := (rfl)
@[simp] theorem Dev.setEnt_pool (k : Key) (v : Nat) : (d.setEnt k v).pool = d.pool := (rfl)
@[simp] theorem Dev.setEnt_xp (k : Key) (v : Nat) : (d.setEnt k v).xp = d.xp := (rfl)
@[simp] theorem Dev.setEnt_takeLog (k : Key) (v : Nat) : (d.setEnt k v).takeLog = d.takeLog := (rfl)
@[simp] theorem Dev.setEnt_dwl (k : Key) (v : Nat) : (d.setEnt k v).dwl = d.dwl := (rfl)
@[simp] theorem Dev.setEnt_phy (k : Key) (v : Nat) : (d.setEnt k v).phy = d.phy := (rfl)
@[simp] theorem Dev.setEnt_sec (k : Key) (v : Nat) : (d.setEnt k v).sec = d.sec := (rfl)
@[simp] theorem Dev.setEnt_pwr (k : Key) (v : Nat) : (d.setEnt k v).pwr = d.pwr := (rfl)
@[simp] theorem Dev.setEnt_bus (k : Key) (v : Nat) : (d.setEnt k v).bus = d.bus := (rfl)
@[simp] theorem Dev.setEnt_rows (k : Key) (v : Nat) : (d.setEnt k v).rows = d.rows := (rfl)
@[simp] theorem Dev.setEnt_ring (k : Key) (v : Nat) : (d.setEnt k v).ring = d.ring := (rfl)

@[simp] theorem Dev.wr_raw (f : Fld) (n v : Nat) : (d.wr f n v).raw = d.raw := (rfl)
@[simp] theorem Dev.wr_wall (f : Fld) (n v : Nat) : (d.wr f n v).wall = d.wall := (rfl)
@[simp] theorem Dev.wr_out (f : Fld) (n v : Nat) : (d.wr f n v).out = d.out := (rfl)
@[simp] theorem Dev.wr_freeIdx (f : Fld) (n v : Nat) : (d.wr f n v).freeIdx = d.freeIdx := (rfl)
@[simp] theorem Dev.wr_raised (f : Fld) (n v : Nat) : (d.wr f n v).raised = d.raised := (rfl)
@[simp] theorem Dev.wr_ended (f : Fld) (n v : Nat) : (d.wr f n v).ended = d.ended := (rfl)
@[simp] theorem Dev.wr_rst (f : Fld) (n v : Nat) : (d.wr f n v).rst = d.rst := (rfl)
@[simp] theorem Dev.wr_rcp (f : Fld) (n v : Nat) : (d.wr f n v).rcp = d.rcp := (rfl)
@[simp] theorem Dev.wr_flash (f : Fld) (n v : Nat) : (d.wr f n v).flash = d.flash := (rfl)
@[simp] theorem Dev.wr_flow (f : Fld) (n v : Nat) : (d.wr f n v).flow = d.flow := (rfl)
@[simp] theorem Dev.wr_remote (f : Fld) (n v : Nat) : (d.wr f n v).remote = d.remote := (rfl)
@[simp] theorem Dev.wr_plane (f : Fld) (n v : Nat) : (d.wr f n v).plane = d.plane := (rfl)
@[simp] theorem Dev.wr_sdiRx (f : Fld) (n v : Nat) : (d.wr f n v).sdiRx = d.sdiRx := (rfl)
@[simp] theorem Dev.wr_hold (f : Fld) (n v : Nat) : (d.wr f n v).hold = d.hold := (rfl)
@[simp] theorem Dev.wr_flt (f : Fld) (n v : Nat) : (d.wr f n v).flt = d.flt := (rfl)
@[simp] theorem Dev.wr_store (f : Fld) (n v : Nat) : (d.wr f n v).store = d.store := (rfl)
@[simp] theorem Dev.wr_chan (f : Fld) (n v : Nat) : (d.wr f n v).chan = d.chan := (rfl)
@[simp] theorem Dev.wr_twin (f : Fld) (n v : Nat) : (d.wr f n v).twin = d.twin := (rfl)
@[simp] theorem Dev.wr_knot (f : Fld) (n v : Nat) : (d.wr f n v).knot = d.knot := (rfl)
@[simp] theorem Dev.wr_events (f : Fld) (n v : Nat) : (d.wr f n v).events = d.events := (rfl)
@[simp] theorem Dev.wr_netRx (f : Fld) (n v : Nat) : (d.wr f n v).netRx = d.netRx := (rfl)
@[simp] theorem Dev.wr_netTx (f : Fld) (n v : Nat) : (d.wr f n v).netTx = d.netTx := (rfl)
@[simp] theorem Dev.wr_netPort (f : Fld) (n v : Nat) : (d.wr f n v).netPort = d.netPort := (rfl)
@[simp] theorem Dev.wr_ctrl (f : Fld) (n v : Nat) : (d.wr f n v).ctrl = d.ctrl := (rfl)
@[simp] theorem Dev.wr_time (f : Fld) (n v : Nat) : (d.wr f n v).time = d.time := (rfl)
@[simp] theorem Dev.wr_ref (f : Fld) (n v : Nat) : (d.wr f n v).ref = d.ref := (rfl)
@[simp] theorem Dev.wr_dpll (f : Fld) (n v : Nat) : (d.wr f n v).dpll = d.dpll := (rfl)
@[simp] theorem Dev.wr_tile (f : Fld) (n v : Nat) : (d.wr f n v).tile = d.tile := (rfl)
@[simp] theorem Dev.wr_tileRestore (f : Fld) (n v : Nat) : (d.wr f n v).tileRestore = d.tileRestore := (rfl)
@[simp] theorem Dev.wr_tileAgain (f : Fld) (n v : Nat) : (d.wr f n v).tileAgain = d.tileAgain := (rfl)
@[simp] theorem Dev.wr_layer (f : Fld) (n v : Nat) : (d.wr f n v).layer = d.layer := (rfl)
@[simp] theorem Dev.wr_head (f : Fld) (n v : Nat) : (d.wr f n v).head = d.head := (rfl)
@[simp] theorem Dev.wr_flip (f : Fld) (n v : Nat) : (d.wr f n v).flip = d.flip := (rfl)
@[simp] theorem Dev.wr_memQ (f : Fld) (n v : Nat) : (d.wr f n v).memQ = d.memQ := (rfl)
@[simp] theorem Dev.wr_audio (f : Fld) (n v : Nat) : (d.wr f n v).audio = d.audio := (rfl)
@[simp] theorem Dev.wr_pool (f : Fld) (n v : Nat) : (d.wr f n v).pool = d.pool := (rfl)
@[simp] theorem Dev.wr_xp (f : Fld) (n v : Nat) : (d.wr f n v).xp = d.xp := (rfl)
@[simp] theorem Dev.wr_takeLog (f : Fld) (n v : Nat) : (d.wr f n v).takeLog = d.takeLog := (rfl)
@[simp] theorem Dev.wr_dwl (f : Fld) (n v : Nat) : (d.wr f n v).dwl = d.dwl := (rfl)
@[simp] theorem Dev.wr_phy (f : Fld) (n v : Nat) : (d.wr f n v).phy = d.phy := (rfl)
@[simp] theorem Dev.wr_sec (f : Fld) (n v : Nat) : (d.wr f n v).sec = d.sec := (rfl)
@[simp] theorem Dev.wr_pwr (f : Fld) (n v : Nat) : (d.wr f n v).pwr = d.pwr := (rfl)
@[simp] theorem Dev.wr_bus (f : Fld) (n v : Nat) : (d.wr f n v).bus = d.bus := (rfl)
@[simp] theorem Dev.wr_rows (f : Fld) (n v : Nat) : (d.wr f n v).rows = d.rows := (rfl)
@[simp] theorem Dev.wr_ring (f : Fld) (n v : Nat) : (d.wr f n v).ring = d.ring := (rfl)

@[simp] theorem Dev.raise_dict (a b : Nat) : (d.raise a b).dict = d.dict := (rfl)
@[simp] theorem Dev.raise_raw (a b : Nat) : (d.raise a b).raw = d.raw := (rfl)
@[simp] theorem Dev.raise_wall (a b : Nat) : (d.raise a b).wall = d.wall := (rfl)
@[simp] theorem Dev.raise_out (a b : Nat) : (d.raise a b).out = d.out := (rfl)
@[simp] theorem Dev.raise_freeIdx (a b : Nat) : (d.raise a b).freeIdx = d.freeIdx := (rfl)
@[simp] theorem Dev.raise_ended (a b : Nat) : (d.raise a b).ended = d.ended := (rfl)
@[simp] theorem Dev.raise_rst (a b : Nat) : (d.raise a b).rst = d.rst := (rfl)
@[simp] theorem Dev.raise_rcp (a b : Nat) : (d.raise a b).rcp = d.rcp := (rfl)
@[simp] theorem Dev.raise_flash (a b : Nat) : (d.raise a b).flash = d.flash := (rfl)
@[simp] theorem Dev.raise_flow (a b : Nat) : (d.raise a b).flow = d.flow := (rfl)
@[simp] theorem Dev.raise_remote (a b : Nat) : (d.raise a b).remote = d.remote := (rfl)
@[simp] theorem Dev.raise_plane (a b : Nat) : (d.raise a b).plane = d.plane := (rfl)
@[simp] theorem Dev.raise_sdiRx (a b : Nat) : (d.raise a b).sdiRx = d.sdiRx := (rfl)
@[simp] theorem Dev.raise_hold (a b : Nat) : (d.raise a b).hold = d.hold := (rfl)
@[simp] theorem Dev.raise_flt (a b : Nat) : (d.raise a b).flt = d.flt := (rfl)
@[simp] theorem Dev.raise_store (a b : Nat) : (d.raise a b).store = d.store := (rfl)
@[simp] theorem Dev.raise_chan (a b : Nat) : (d.raise a b).chan = d.chan := (rfl)
@[simp] theorem Dev.raise_twin (a b : Nat) : (d.raise a b).twin = d.twin := (rfl)
@[simp] theorem Dev.raise_knot (a b : Nat) : (d.raise a b).knot = d.knot := (rfl)
@[simp] theorem Dev.raise_events (a b : Nat) : (d.raise a b).events = d.events := (rfl)
@[simp] theorem Dev.raise_netRx (a b : Nat) : (d.raise a b).netRx = d.netRx := (rfl)
@[simp] theorem Dev.raise_netTx (a b : Nat) : (d.raise a b).netTx = d.netTx := (rfl)
@[simp] theorem Dev.raise_netPort (a b : Nat) : (d.raise a b).netPort = d.netPort := (rfl)
@[simp] theorem Dev.raise_ctrl (a b : Nat) : (d.raise a b).ctrl = d.ctrl := (rfl)
@[simp] theorem Dev.raise_time (a b : Nat) : (d.raise a b).time = d.time := (rfl)
@[simp] theorem Dev.raise_ref (a b : Nat) : (d.raise a b).ref = d.ref := (rfl)
@[simp] theorem Dev.raise_dpll (a b : Nat) : (d.raise a b).dpll = d.dpll := (rfl)
@[simp] theorem Dev.raise_tile (a b : Nat) : (d.raise a b).tile = d.tile := (rfl)
@[simp] theorem Dev.raise_tileRestore (a b : Nat) : (d.raise a b).tileRestore = d.tileRestore := (rfl)
@[simp] theorem Dev.raise_tileAgain (a b : Nat) : (d.raise a b).tileAgain = d.tileAgain := (rfl)
@[simp] theorem Dev.raise_layer (a b : Nat) : (d.raise a b).layer = d.layer := (rfl)
@[simp] theorem Dev.raise_head (a b : Nat) : (d.raise a b).head = d.head := (rfl)
@[simp] theorem Dev.raise_flip (a b : Nat) : (d.raise a b).flip = d.flip := (rfl)
@[simp] theorem Dev.raise_memQ (a b : Nat) : (d.raise a b).memQ = d.memQ := (rfl)
@[simp] theorem Dev.raise_audio (a b : Nat) : (d.raise a b).audio = d.audio := (rfl)
@[simp] theorem Dev.raise_pool (a b : Nat) : (d.raise a b).pool = d.pool := (rfl)
@[simp] theorem Dev.raise_xp (a b : Nat) : (d.raise a b).xp = d.xp := (rfl)
@[simp] theorem Dev.raise_takeLog (a b : Nat) : (d.raise a b).takeLog = d.takeLog := (rfl)
@[simp] theorem Dev.raise_dwl (a b : Nat) : (d.raise a b).dwl = d.dwl := (rfl)
@[simp] theorem Dev.raise_phy (a b : Nat) : (d.raise a b).phy = d.phy := (rfl)
@[simp] theorem Dev.raise_sec (a b : Nat) : (d.raise a b).sec = d.sec := (rfl)
@[simp] theorem Dev.raise_pwr (a b : Nat) : (d.raise a b).pwr = d.pwr := (rfl)
@[simp] theorem Dev.raise_bus (a b : Nat) : (d.raise a b).bus = d.bus := (rfl)
@[simp] theorem Dev.raise_rows (a b : Nat) : (d.raise a b).rows = d.rows := (rfl)
@[simp] theorem Dev.raise_ring (a b : Nat) : (d.raise a b).ring = d.ring := (rfl)

@[simp] theorem Dev.raiseL_dict (a b : Nat) : (d.raiseL a b).dict = d.dict := (rfl)
@[simp] theorem Dev.raiseL_raw (a b : Nat) : (d.raiseL a b).raw = d.raw := (rfl)
@[simp] theorem Dev.raiseL_wall (a b : Nat) : (d.raiseL a b).wall = d.wall := (rfl)
@[simp] theorem Dev.raiseL_out (a b : Nat) : (d.raiseL a b).out = d.out := (rfl)
@[simp] theorem Dev.raiseL_freeIdx (a b : Nat) : (d.raiseL a b).freeIdx = d.freeIdx := (rfl)
@[simp] theorem Dev.raiseL_ended (a b : Nat) : (d.raiseL a b).ended = d.ended := (rfl)
@[simp] theorem Dev.raiseL_rst (a b : Nat) : (d.raiseL a b).rst = d.rst := (rfl)
@[simp] theorem Dev.raiseL_rcp (a b : Nat) : (d.raiseL a b).rcp = d.rcp := (rfl)
@[simp] theorem Dev.raiseL_flash (a b : Nat) : (d.raiseL a b).flash = d.flash := (rfl)
@[simp] theorem Dev.raiseL_flow (a b : Nat) : (d.raiseL a b).flow = d.flow := (rfl)
@[simp] theorem Dev.raiseL_remote (a b : Nat) : (d.raiseL a b).remote = d.remote := (rfl)
@[simp] theorem Dev.raiseL_plane (a b : Nat) : (d.raiseL a b).plane = d.plane := (rfl)
@[simp] theorem Dev.raiseL_sdiRx (a b : Nat) : (d.raiseL a b).sdiRx = d.sdiRx := (rfl)
@[simp] theorem Dev.raiseL_hold (a b : Nat) : (d.raiseL a b).hold = d.hold := (rfl)
@[simp] theorem Dev.raiseL_flt (a b : Nat) : (d.raiseL a b).flt = d.flt := (rfl)
@[simp] theorem Dev.raiseL_store (a b : Nat) : (d.raiseL a b).store = d.store := (rfl)
@[simp] theorem Dev.raiseL_chan (a b : Nat) : (d.raiseL a b).chan = d.chan := (rfl)
@[simp] theorem Dev.raiseL_twin (a b : Nat) : (d.raiseL a b).twin = d.twin := (rfl)
@[simp] theorem Dev.raiseL_knot (a b : Nat) : (d.raiseL a b).knot = d.knot := (rfl)
@[simp] theorem Dev.raiseL_events (a b : Nat) : (d.raiseL a b).events = d.events := (rfl)
@[simp] theorem Dev.raiseL_netRx (a b : Nat) : (d.raiseL a b).netRx = d.netRx := (rfl)
@[simp] theorem Dev.raiseL_netTx (a b : Nat) : (d.raiseL a b).netTx = d.netTx := (rfl)
@[simp] theorem Dev.raiseL_netPort (a b : Nat) : (d.raiseL a b).netPort = d.netPort := (rfl)
@[simp] theorem Dev.raiseL_ctrl (a b : Nat) : (d.raiseL a b).ctrl = d.ctrl := (rfl)
@[simp] theorem Dev.raiseL_time (a b : Nat) : (d.raiseL a b).time = d.time := (rfl)
@[simp] theorem Dev.raiseL_ref (a b : Nat) : (d.raiseL a b).ref = d.ref := (rfl)
@[simp] theorem Dev.raiseL_dpll (a b : Nat) : (d.raiseL a b).dpll = d.dpll := (rfl)
@[simp] theorem Dev.raiseL_tile (a b : Nat) : (d.raiseL a b).tile = d.tile := (rfl)
@[simp] theorem Dev.raiseL_tileRestore (a b : Nat) : (d.raiseL a b).tileRestore = d.tileRestore := (rfl)
@[simp] theorem Dev.raiseL_tileAgain (a b : Nat) : (d.raiseL a b).tileAgain = d.tileAgain := (rfl)
@[simp] theorem Dev.raiseL_layer (a b : Nat) : (d.raiseL a b).layer = d.layer := (rfl)
@[simp] theorem Dev.raiseL_head (a b : Nat) : (d.raiseL a b).head = d.head := (rfl)
@[simp] theorem Dev.raiseL_flip (a b : Nat) : (d.raiseL a b).flip = d.flip := (rfl)
@[simp] theorem Dev.raiseL_memQ (a b : Nat) : (d.raiseL a b).memQ = d.memQ := (rfl)
@[simp] theorem Dev.raiseL_audio (a b : Nat) : (d.raiseL a b).audio = d.audio := (rfl)
@[simp] theorem Dev.raiseL_pool (a b : Nat) : (d.raiseL a b).pool = d.pool := (rfl)
@[simp] theorem Dev.raiseL_xp (a b : Nat) : (d.raiseL a b).xp = d.xp := (rfl)
@[simp] theorem Dev.raiseL_takeLog (a b : Nat) : (d.raiseL a b).takeLog = d.takeLog := (rfl)
@[simp] theorem Dev.raiseL_dwl (a b : Nat) : (d.raiseL a b).dwl = d.dwl := (rfl)
@[simp] theorem Dev.raiseL_phy (a b : Nat) : (d.raiseL a b).phy = d.phy := (rfl)
@[simp] theorem Dev.raiseL_sec (a b : Nat) : (d.raiseL a b).sec = d.sec := (rfl)
@[simp] theorem Dev.raiseL_pwr (a b : Nat) : (d.raiseL a b).pwr = d.pwr := (rfl)
@[simp] theorem Dev.raiseL_bus (a b : Nat) : (d.raiseL a b).bus = d.bus := (rfl)
@[simp] theorem Dev.raiseL_rows (a b : Nat) : (d.raiseL a b).rows = d.rows := (rfl)
@[simp] theorem Dev.raiseL_ring (a b : Nat) : (d.raiseL a b).ring = d.ring := (rfl)

@[simp] theorem Dev.endCond_dict (a b : Nat) : (d.endCond a b).dict = d.dict := (rfl)
@[simp] theorem Dev.endCond_raw (a b : Nat) : (d.endCond a b).raw = d.raw := (rfl)
@[simp] theorem Dev.endCond_wall (a b : Nat) : (d.endCond a b).wall = d.wall := (rfl)
@[simp] theorem Dev.endCond_out (a b : Nat) : (d.endCond a b).out = d.out := (rfl)
@[simp] theorem Dev.endCond_freeIdx (a b : Nat) : (d.endCond a b).freeIdx = d.freeIdx := (rfl)
@[simp] theorem Dev.endCond_raised (a b : Nat) : (d.endCond a b).raised = d.raised := (rfl)
@[simp] theorem Dev.endCond_rst (a b : Nat) : (d.endCond a b).rst = d.rst := (rfl)
@[simp] theorem Dev.endCond_rcp (a b : Nat) : (d.endCond a b).rcp = d.rcp := (rfl)
@[simp] theorem Dev.endCond_flash (a b : Nat) : (d.endCond a b).flash = d.flash := (rfl)
@[simp] theorem Dev.endCond_flow (a b : Nat) : (d.endCond a b).flow = d.flow := (rfl)
@[simp] theorem Dev.endCond_remote (a b : Nat) : (d.endCond a b).remote = d.remote := (rfl)
@[simp] theorem Dev.endCond_plane (a b : Nat) : (d.endCond a b).plane = d.plane := (rfl)
@[simp] theorem Dev.endCond_sdiRx (a b : Nat) : (d.endCond a b).sdiRx = d.sdiRx := (rfl)
@[simp] theorem Dev.endCond_hold (a b : Nat) : (d.endCond a b).hold = d.hold := (rfl)
@[simp] theorem Dev.endCond_flt (a b : Nat) : (d.endCond a b).flt = d.flt := (rfl)
@[simp] theorem Dev.endCond_store (a b : Nat) : (d.endCond a b).store = d.store := (rfl)
@[simp] theorem Dev.endCond_chan (a b : Nat) : (d.endCond a b).chan = d.chan := (rfl)
@[simp] theorem Dev.endCond_twin (a b : Nat) : (d.endCond a b).twin = d.twin := (rfl)
@[simp] theorem Dev.endCond_knot (a b : Nat) : (d.endCond a b).knot = d.knot := (rfl)
@[simp] theorem Dev.endCond_events (a b : Nat) : (d.endCond a b).events = d.events := (rfl)
@[simp] theorem Dev.endCond_netRx (a b : Nat) : (d.endCond a b).netRx = d.netRx := (rfl)
@[simp] theorem Dev.endCond_netTx (a b : Nat) : (d.endCond a b).netTx = d.netTx := (rfl)
@[simp] theorem Dev.endCond_netPort (a b : Nat) : (d.endCond a b).netPort = d.netPort := (rfl)
@[simp] theorem Dev.endCond_ctrl (a b : Nat) : (d.endCond a b).ctrl = d.ctrl := (rfl)
@[simp] theorem Dev.endCond_time (a b : Nat) : (d.endCond a b).time = d.time := (rfl)
@[simp] theorem Dev.endCond_ref (a b : Nat) : (d.endCond a b).ref = d.ref := (rfl)
@[simp] theorem Dev.endCond_dpll (a b : Nat) : (d.endCond a b).dpll = d.dpll := (rfl)
@[simp] theorem Dev.endCond_tile (a b : Nat) : (d.endCond a b).tile = d.tile := (rfl)
@[simp] theorem Dev.endCond_tileRestore (a b : Nat) : (d.endCond a b).tileRestore = d.tileRestore := (rfl)
@[simp] theorem Dev.endCond_tileAgain (a b : Nat) : (d.endCond a b).tileAgain = d.tileAgain := (rfl)
@[simp] theorem Dev.endCond_layer (a b : Nat) : (d.endCond a b).layer = d.layer := (rfl)
@[simp] theorem Dev.endCond_head (a b : Nat) : (d.endCond a b).head = d.head := (rfl)
@[simp] theorem Dev.endCond_flip (a b : Nat) : (d.endCond a b).flip = d.flip := (rfl)
@[simp] theorem Dev.endCond_memQ (a b : Nat) : (d.endCond a b).memQ = d.memQ := (rfl)
@[simp] theorem Dev.endCond_audio (a b : Nat) : (d.endCond a b).audio = d.audio := (rfl)
@[simp] theorem Dev.endCond_pool (a b : Nat) : (d.endCond a b).pool = d.pool := (rfl)
@[simp] theorem Dev.endCond_xp (a b : Nat) : (d.endCond a b).xp = d.xp := (rfl)
@[simp] theorem Dev.endCond_takeLog (a b : Nat) : (d.endCond a b).takeLog = d.takeLog := (rfl)
@[simp] theorem Dev.endCond_dwl (a b : Nat) : (d.endCond a b).dwl = d.dwl := (rfl)
@[simp] theorem Dev.endCond_phy (a b : Nat) : (d.endCond a b).phy = d.phy := (rfl)
@[simp] theorem Dev.endCond_sec (a b : Nat) : (d.endCond a b).sec = d.sec := (rfl)
@[simp] theorem Dev.endCond_pwr (a b : Nat) : (d.endCond a b).pwr = d.pwr := (rfl)
@[simp] theorem Dev.endCond_bus (a b : Nat) : (d.endCond a b).bus = d.bus := (rfl)
@[simp] theorem Dev.endCond_rows (a b : Nat) : (d.endCond a b).rows = d.rows := (rfl)
@[simp] theorem Dev.endCond_ring (a b : Nat) : (d.endCond a b).ring = d.ring := (rfl)

@[simp] theorem Dev.emit_dict (e : Emission) : (d.emit e).dict = d.dict := (rfl)
@[simp] theorem Dev.emit_raw (e : Emission) : (d.emit e).raw = d.raw := (rfl)
@[simp] theorem Dev.emit_wall (e : Emission) : (d.emit e).wall = d.wall := (rfl)
@[simp] theorem Dev.emit_freeIdx (e : Emission) : (d.emit e).freeIdx = d.freeIdx := (rfl)
@[simp] theorem Dev.emit_raised (e : Emission) : (d.emit e).raised = d.raised := (rfl)
@[simp] theorem Dev.emit_ended (e : Emission) : (d.emit e).ended = d.ended := (rfl)
@[simp] theorem Dev.emit_rst (e : Emission) : (d.emit e).rst = d.rst := (rfl)
@[simp] theorem Dev.emit_rcp (e : Emission) : (d.emit e).rcp = d.rcp := (rfl)
@[simp] theorem Dev.emit_flash (e : Emission) : (d.emit e).flash = d.flash := (rfl)
@[simp] theorem Dev.emit_flow (e : Emission) : (d.emit e).flow = d.flow := (rfl)
@[simp] theorem Dev.emit_remote (e : Emission) : (d.emit e).remote = d.remote := (rfl)
@[simp] theorem Dev.emit_plane (e : Emission) : (d.emit e).plane = d.plane := (rfl)
@[simp] theorem Dev.emit_sdiRx (e : Emission) : (d.emit e).sdiRx = d.sdiRx := (rfl)
@[simp] theorem Dev.emit_hold (e : Emission) : (d.emit e).hold = d.hold := (rfl)
@[simp] theorem Dev.emit_flt (e : Emission) : (d.emit e).flt = d.flt := (rfl)
@[simp] theorem Dev.emit_store (e : Emission) : (d.emit e).store = d.store := (rfl)
@[simp] theorem Dev.emit_chan (e : Emission) : (d.emit e).chan = d.chan := (rfl)
@[simp] theorem Dev.emit_twin (e : Emission) : (d.emit e).twin = d.twin := (rfl)
@[simp] theorem Dev.emit_knot (e : Emission) : (d.emit e).knot = d.knot := (rfl)
@[simp] theorem Dev.emit_events (e : Emission) : (d.emit e).events = d.events := (rfl)
@[simp] theorem Dev.emit_netRx (e : Emission) : (d.emit e).netRx = d.netRx := (rfl)
@[simp] theorem Dev.emit_netTx (e : Emission) : (d.emit e).netTx = d.netTx := (rfl)
@[simp] theorem Dev.emit_netPort (e : Emission) : (d.emit e).netPort = d.netPort := (rfl)
@[simp] theorem Dev.emit_ctrl (e : Emission) : (d.emit e).ctrl = d.ctrl := (rfl)
@[simp] theorem Dev.emit_time (e : Emission) : (d.emit e).time = d.time := (rfl)
@[simp] theorem Dev.emit_ref (e : Emission) : (d.emit e).ref = d.ref := (rfl)
@[simp] theorem Dev.emit_dpll (e : Emission) : (d.emit e).dpll = d.dpll := (rfl)
@[simp] theorem Dev.emit_tile (e : Emission) : (d.emit e).tile = d.tile := (rfl)
@[simp] theorem Dev.emit_tileRestore (e : Emission) : (d.emit e).tileRestore = d.tileRestore := (rfl)
@[simp] theorem Dev.emit_tileAgain (e : Emission) : (d.emit e).tileAgain = d.tileAgain := (rfl)
@[simp] theorem Dev.emit_layer (e : Emission) : (d.emit e).layer = d.layer := (rfl)
@[simp] theorem Dev.emit_head (e : Emission) : (d.emit e).head = d.head := (rfl)
@[simp] theorem Dev.emit_flip (e : Emission) : (d.emit e).flip = d.flip := (rfl)
@[simp] theorem Dev.emit_memQ (e : Emission) : (d.emit e).memQ = d.memQ := (rfl)
@[simp] theorem Dev.emit_audio (e : Emission) : (d.emit e).audio = d.audio := (rfl)
@[simp] theorem Dev.emit_pool (e : Emission) : (d.emit e).pool = d.pool := (rfl)
@[simp] theorem Dev.emit_xp (e : Emission) : (d.emit e).xp = d.xp := (rfl)
@[simp] theorem Dev.emit_takeLog (e : Emission) : (d.emit e).takeLog = d.takeLog := (rfl)
@[simp] theorem Dev.emit_dwl (e : Emission) : (d.emit e).dwl = d.dwl := (rfl)
@[simp] theorem Dev.emit_phy (e : Emission) : (d.emit e).phy = d.phy := (rfl)
@[simp] theorem Dev.emit_sec (e : Emission) : (d.emit e).sec = d.sec := (rfl)
@[simp] theorem Dev.emit_pwr (e : Emission) : (d.emit e).pwr = d.pwr := (rfl)
@[simp] theorem Dev.emit_bus (e : Emission) : (d.emit e).bus = d.bus := (rfl)
@[simp] theorem Dev.emit_rows (e : Emission) : (d.emit e).rows = d.rows := (rfl)
@[simp] theorem Dev.emit_ring (e : Emission) : (d.emit e).ring = d.ring := (rfl)

@[simp] theorem Dev.drawn_dict : (d.drawn).dict = d.dict := (rfl)
@[simp] theorem Dev.drawn_raw : (d.drawn).raw = d.raw := (rfl)
@[simp] theorem Dev.drawn_wall : (d.drawn).wall = d.wall := (rfl)
@[simp] theorem Dev.drawn_out : (d.drawn).out = d.out := (rfl)
@[simp] theorem Dev.drawn_raised : (d.drawn).raised = d.raised := (rfl)
@[simp] theorem Dev.drawn_ended : (d.drawn).ended = d.ended := (rfl)
@[simp] theorem Dev.drawn_rst : (d.drawn).rst = d.rst := (rfl)
@[simp] theorem Dev.drawn_rcp : (d.drawn).rcp = d.rcp := (rfl)
@[simp] theorem Dev.drawn_flash : (d.drawn).flash = d.flash := (rfl)
@[simp] theorem Dev.drawn_flow : (d.drawn).flow = d.flow := (rfl)
@[simp] theorem Dev.drawn_remote : (d.drawn).remote = d.remote := (rfl)
@[simp] theorem Dev.drawn_plane : (d.drawn).plane = d.plane := (rfl)
@[simp] theorem Dev.drawn_sdiRx : (d.drawn).sdiRx = d.sdiRx := (rfl)
@[simp] theorem Dev.drawn_hold : (d.drawn).hold = d.hold := (rfl)
@[simp] theorem Dev.drawn_flt : (d.drawn).flt = d.flt := (rfl)
@[simp] theorem Dev.drawn_store : (d.drawn).store = d.store := (rfl)
@[simp] theorem Dev.drawn_chan : (d.drawn).chan = d.chan := (rfl)
@[simp] theorem Dev.drawn_twin : (d.drawn).twin = d.twin := (rfl)
@[simp] theorem Dev.drawn_knot : (d.drawn).knot = d.knot := (rfl)
@[simp] theorem Dev.drawn_events : (d.drawn).events = d.events := (rfl)
@[simp] theorem Dev.drawn_netRx : (d.drawn).netRx = d.netRx := (rfl)
@[simp] theorem Dev.drawn_netTx : (d.drawn).netTx = d.netTx := (rfl)
@[simp] theorem Dev.drawn_netPort : (d.drawn).netPort = d.netPort := (rfl)
@[simp] theorem Dev.drawn_ctrl : (d.drawn).ctrl = d.ctrl := (rfl)
@[simp] theorem Dev.drawn_time : (d.drawn).time = d.time := (rfl)
@[simp] theorem Dev.drawn_ref : (d.drawn).ref = d.ref := (rfl)
@[simp] theorem Dev.drawn_dpll : (d.drawn).dpll = d.dpll := (rfl)
@[simp] theorem Dev.drawn_tile : (d.drawn).tile = d.tile := (rfl)
@[simp] theorem Dev.drawn_tileRestore : (d.drawn).tileRestore = d.tileRestore := (rfl)
@[simp] theorem Dev.drawn_tileAgain : (d.drawn).tileAgain = d.tileAgain := (rfl)
@[simp] theorem Dev.drawn_layer : (d.drawn).layer = d.layer := (rfl)
@[simp] theorem Dev.drawn_head : (d.drawn).head = d.head := (rfl)
@[simp] theorem Dev.drawn_flip : (d.drawn).flip = d.flip := (rfl)
@[simp] theorem Dev.drawn_memQ : (d.drawn).memQ = d.memQ := (rfl)
@[simp] theorem Dev.drawn_audio : (d.drawn).audio = d.audio := (rfl)
@[simp] theorem Dev.drawn_pool : (d.drawn).pool = d.pool := (rfl)
@[simp] theorem Dev.drawn_xp : (d.drawn).xp = d.xp := (rfl)
@[simp] theorem Dev.drawn_takeLog : (d.drawn).takeLog = d.takeLog := (rfl)
@[simp] theorem Dev.drawn_dwl : (d.drawn).dwl = d.dwl := (rfl)
@[simp] theorem Dev.drawn_phy : (d.drawn).phy = d.phy := (rfl)
@[simp] theorem Dev.drawn_sec : (d.drawn).sec = d.sec := (rfl)
@[simp] theorem Dev.drawn_pwr : (d.drawn).pwr = d.pwr := (rfl)
@[simp] theorem Dev.drawn_bus : (d.drawn).bus = d.bus := (rfl)
@[simp] theorem Dev.drawn_rows : (d.drawn).rows = d.rows := (rfl)
@[simp] theorem Dev.drawn_ring : (d.drawn).ring = d.ring := (rfl)

@[simp] theorem Dev.setFlow_dict (c : Nat) (g : FlowSt → FlowSt) : (d.setFlow c g).dict = d.dict := (rfl)
@[simp] theorem Dev.setFlow_raw (c : Nat) (g : FlowSt → FlowSt) : (d.setFlow c g).raw = d.raw := (rfl)
@[simp] theorem Dev.setFlow_wall (c : Nat) (g : FlowSt → FlowSt) : (d.setFlow c g).wall = d.wall := (rfl)
@[simp] theorem Dev.setFlow_out (c : Nat) (g : FlowSt → FlowSt) : (d.setFlow c g).out = d.out := (rfl)
@[simp] theorem Dev.setFlow_freeIdx (c : Nat) (g : FlowSt → FlowSt) : (d.setFlow c g).freeIdx = d.freeIdx := (rfl)
@[simp] theorem Dev.setFlow_raised (c : Nat) (g : FlowSt → FlowSt) : (d.setFlow c g).raised = d.raised := (rfl)
@[simp] theorem Dev.setFlow_ended (c : Nat) (g : FlowSt → FlowSt) : (d.setFlow c g).ended = d.ended := (rfl)
@[simp] theorem Dev.setFlow_rst (c : Nat) (g : FlowSt → FlowSt) : (d.setFlow c g).rst = d.rst := (rfl)
@[simp] theorem Dev.setFlow_rcp (c : Nat) (g : FlowSt → FlowSt) : (d.setFlow c g).rcp = d.rcp := (rfl)
@[simp] theorem Dev.setFlow_flash (c : Nat) (g : FlowSt → FlowSt) : (d.setFlow c g).flash = d.flash := (rfl)
@[simp] theorem Dev.setFlow_remote (c : Nat) (g : FlowSt → FlowSt) : (d.setFlow c g).remote = d.remote := (rfl)
@[simp] theorem Dev.setFlow_plane (c : Nat) (g : FlowSt → FlowSt) : (d.setFlow c g).plane = d.plane := (rfl)
@[simp] theorem Dev.setFlow_sdiRx (c : Nat) (g : FlowSt → FlowSt) : (d.setFlow c g).sdiRx = d.sdiRx := (rfl)
@[simp] theorem Dev.setFlow_hold (c : Nat) (g : FlowSt → FlowSt) : (d.setFlow c g).hold = d.hold := (rfl)
@[simp] theorem Dev.setFlow_flt (c : Nat) (g : FlowSt → FlowSt) : (d.setFlow c g).flt = d.flt := (rfl)
@[simp] theorem Dev.setFlow_store (c : Nat) (g : FlowSt → FlowSt) : (d.setFlow c g).store = d.store := (rfl)
@[simp] theorem Dev.setFlow_chan (c : Nat) (g : FlowSt → FlowSt) : (d.setFlow c g).chan = d.chan := (rfl)
@[simp] theorem Dev.setFlow_twin (c : Nat) (g : FlowSt → FlowSt) : (d.setFlow c g).twin = d.twin := (rfl)
@[simp] theorem Dev.setFlow_knot (c : Nat) (g : FlowSt → FlowSt) : (d.setFlow c g).knot = d.knot := (rfl)
@[simp] theorem Dev.setFlow_events (c : Nat) (g : FlowSt → FlowSt) : (d.setFlow c g).events = d.events := (rfl)
@[simp] theorem Dev.setFlow_netRx (c : Nat) (g : FlowSt → FlowSt) : (d.setFlow c g).netRx = d.netRx := (rfl)
@[simp] theorem Dev.setFlow_netTx (c : Nat) (g : FlowSt → FlowSt) : (d.setFlow c g).netTx = d.netTx := (rfl)
@[simp] theorem Dev.setFlow_netPort (c : Nat) (g : FlowSt → FlowSt) : (d.setFlow c g).netPort = d.netPort := (rfl)
@[simp] theorem Dev.setFlow_ctrl (c : Nat) (g : FlowSt → FlowSt) : (d.setFlow c g).ctrl = d.ctrl := (rfl)
@[simp] theorem Dev.setFlow_time (c : Nat) (g : FlowSt → FlowSt) : (d.setFlow c g).time = d.time := (rfl)
@[simp] theorem Dev.setFlow_ref (c : Nat) (g : FlowSt → FlowSt) : (d.setFlow c g).ref = d.ref := (rfl)
@[simp] theorem Dev.setFlow_dpll (c : Nat) (g : FlowSt → FlowSt) : (d.setFlow c g).dpll = d.dpll := (rfl)
@[simp] theorem Dev.setFlow_tile (c : Nat) (g : FlowSt → FlowSt) : (d.setFlow c g).tile = d.tile := (rfl)
@[simp] theorem Dev.setFlow_tileRestore (c : Nat) (g : FlowSt → FlowSt) : (d.setFlow c g).tileRestore = d.tileRestore := (rfl)
@[simp] theorem Dev.setFlow_tileAgain (c : Nat) (g : FlowSt → FlowSt) : (d.setFlow c g).tileAgain = d.tileAgain := (rfl)
@[simp] theorem Dev.setFlow_layer (c : Nat) (g : FlowSt → FlowSt) : (d.setFlow c g).layer = d.layer := (rfl)
@[simp] theorem Dev.setFlow_head (c : Nat) (g : FlowSt → FlowSt) : (d.setFlow c g).head = d.head := (rfl)
@[simp] theorem Dev.setFlow_flip (c : Nat) (g : FlowSt → FlowSt) : (d.setFlow c g).flip = d.flip := (rfl)
@[simp] theorem Dev.setFlow_memQ (c : Nat) (g : FlowSt → FlowSt) : (d.setFlow c g).memQ = d.memQ := (rfl)
@[simp] theorem Dev.setFlow_audio (c : Nat) (g : FlowSt → FlowSt) : (d.setFlow c g).audio = d.audio := (rfl)
@[simp] theorem Dev.setFlow_pool (c : Nat) (g : FlowSt → FlowSt) : (d.setFlow c g).pool = d.pool := (rfl)
@[simp] theorem Dev.setFlow_xp (c : Nat) (g : FlowSt → FlowSt) : (d.setFlow c g).xp = d.xp := (rfl)
@[simp] theorem Dev.setFlow_takeLog (c : Nat) (g : FlowSt → FlowSt) : (d.setFlow c g).takeLog = d.takeLog := (rfl)
@[simp] theorem Dev.setFlow_dwl (c : Nat) (g : FlowSt → FlowSt) : (d.setFlow c g).dwl = d.dwl := (rfl)
@[simp] theorem Dev.setFlow_phy (c : Nat) (g : FlowSt → FlowSt) : (d.setFlow c g).phy = d.phy := (rfl)
@[simp] theorem Dev.setFlow_sec (c : Nat) (g : FlowSt → FlowSt) : (d.setFlow c g).sec = d.sec := (rfl)
@[simp] theorem Dev.setFlow_pwr (c : Nat) (g : FlowSt → FlowSt) : (d.setFlow c g).pwr = d.pwr := (rfl)
@[simp] theorem Dev.setFlow_bus (c : Nat) (g : FlowSt → FlowSt) : (d.setFlow c g).bus = d.bus := (rfl)
@[simp] theorem Dev.setFlow_rows (c : Nat) (g : FlowSt → FlowSt) : (d.setFlow c g).rows = d.rows := (rfl)
@[simp] theorem Dev.setFlow_ring (c : Nat) (g : FlowSt → FlowSt) : (d.setFlow c g).ring = d.ring := (rfl)

@[simp] theorem Dev.setSession_dict (i : Nat) (g : Session → Session) : (d.setSession i g).dict = d.dict := (rfl)
@[simp] theorem Dev.setSession_raw (i : Nat) (g : Session → Session) : (d.setSession i g).raw = d.raw := (rfl)
@[simp] theorem Dev.setSession_wall (i : Nat) (g : Session → Session) : (d.setSession i g).wall = d.wall := (rfl)
@[simp] theorem Dev.setSession_out (i : Nat) (g : Session → Session) : (d.setSession i g).out = d.out := (rfl)
@[simp] theorem Dev.setSession_freeIdx (i : Nat) (g : Session → Session) : (d.setSession i g).freeIdx = d.freeIdx := (rfl)
@[simp] theorem Dev.setSession_raised (i : Nat) (g : Session → Session) : (d.setSession i g).raised = d.raised := (rfl)
@[simp] theorem Dev.setSession_ended (i : Nat) (g : Session → Session) : (d.setSession i g).ended = d.ended := (rfl)
@[simp] theorem Dev.setSession_rst (i : Nat) (g : Session → Session) : (d.setSession i g).rst = d.rst := (rfl)
@[simp] theorem Dev.setSession_flash (i : Nat) (g : Session → Session) : (d.setSession i g).flash = d.flash := (rfl)
@[simp] theorem Dev.setSession_flow (i : Nat) (g : Session → Session) : (d.setSession i g).flow = d.flow := (rfl)
@[simp] theorem Dev.setSession_remote (i : Nat) (g : Session → Session) : (d.setSession i g).remote = d.remote := (rfl)
@[simp] theorem Dev.setSession_plane (i : Nat) (g : Session → Session) : (d.setSession i g).plane = d.plane := (rfl)
@[simp] theorem Dev.setSession_sdiRx (i : Nat) (g : Session → Session) : (d.setSession i g).sdiRx = d.sdiRx := (rfl)
@[simp] theorem Dev.setSession_hold (i : Nat) (g : Session → Session) : (d.setSession i g).hold = d.hold := (rfl)
@[simp] theorem Dev.setSession_flt (i : Nat) (g : Session → Session) : (d.setSession i g).flt = d.flt := (rfl)
@[simp] theorem Dev.setSession_store (i : Nat) (g : Session → Session) : (d.setSession i g).store = d.store := (rfl)
@[simp] theorem Dev.setSession_chan (i : Nat) (g : Session → Session) : (d.setSession i g).chan = d.chan := (rfl)
@[simp] theorem Dev.setSession_twin (i : Nat) (g : Session → Session) : (d.setSession i g).twin = d.twin := (rfl)
@[simp] theorem Dev.setSession_knot (i : Nat) (g : Session → Session) : (d.setSession i g).knot = d.knot := (rfl)
@[simp] theorem Dev.setSession_events (i : Nat) (g : Session → Session) : (d.setSession i g).events = d.events := (rfl)
@[simp] theorem Dev.setSession_netRx (i : Nat) (g : Session → Session) : (d.setSession i g).netRx = d.netRx := (rfl)
@[simp] theorem Dev.setSession_netTx (i : Nat) (g : Session → Session) : (d.setSession i g).netTx = d.netTx := (rfl)
@[simp] theorem Dev.setSession_netPort (i : Nat) (g : Session → Session) : (d.setSession i g).netPort = d.netPort := (rfl)
@[simp] theorem Dev.setSession_ctrl (i : Nat) (g : Session → Session) : (d.setSession i g).ctrl = d.ctrl := (rfl)
@[simp] theorem Dev.setSession_time (i : Nat) (g : Session → Session) : (d.setSession i g).time = d.time := (rfl)
@[simp] theorem Dev.setSession_ref (i : Nat) (g : Session → Session) : (d.setSession i g).ref = d.ref := (rfl)
@[simp] theorem Dev.setSession_dpll (i : Nat) (g : Session → Session) : (d.setSession i g).dpll = d.dpll := (rfl)
@[simp] theorem Dev.setSession_tile (i : Nat) (g : Session → Session) : (d.setSession i g).tile = d.tile := (rfl)
@[simp] theorem Dev.setSession_tileRestore (i : Nat) (g : Session → Session) : (d.setSession i g).tileRestore = d.tileRestore := (rfl)
@[simp] theorem Dev.setSession_tileAgain (i : Nat) (g : Session → Session) : (d.setSession i g).tileAgain = d.tileAgain := (rfl)
@[simp] theorem Dev.setSession_layer (i : Nat) (g : Session → Session) : (d.setSession i g).layer = d.layer := (rfl)
@[simp] theorem Dev.setSession_head (i : Nat) (g : Session → Session) : (d.setSession i g).head = d.head := (rfl)
@[simp] theorem Dev.setSession_flip (i : Nat) (g : Session → Session) : (d.setSession i g).flip = d.flip := (rfl)
@[simp] theorem Dev.setSession_memQ (i : Nat) (g : Session → Session) : (d.setSession i g).memQ = d.memQ := (rfl)
@[simp] theorem Dev.setSession_audio (i : Nat) (g : Session → Session) : (d.setSession i g).audio = d.audio := (rfl)
@[simp] theorem Dev.setSession_pool (i : Nat) (g : Session → Session) : (d.setSession i g).pool = d.pool := (rfl)
@[simp] theorem Dev.setSession_xp (i : Nat) (g : Session → Session) : (d.setSession i g).xp = d.xp := (rfl)
@[simp] theorem Dev.setSession_takeLog (i : Nat) (g : Session → Session) : (d.setSession i g).takeLog = d.takeLog := (rfl)
@[simp] theorem Dev.setSession_dwl (i : Nat) (g : Session → Session) : (d.setSession i g).dwl = d.dwl := (rfl)
@[simp] theorem Dev.setSession_phy (i : Nat) (g : Session → Session) : (d.setSession i g).phy = d.phy := (rfl)
@[simp] theorem Dev.setSession_sec (i : Nat) (g : Session → Session) : (d.setSession i g).sec = d.sec := (rfl)
@[simp] theorem Dev.setSession_pwr (i : Nat) (g : Session → Session) : (d.setSession i g).pwr = d.pwr := (rfl)
@[simp] theorem Dev.setSession_bus (i : Nat) (g : Session → Session) : (d.setSession i g).bus = d.bus := (rfl)
@[simp] theorem Dev.setSession_rows (i : Nat) (g : Session → Session) : (d.setSession i g).rows = d.rows := (rfl)
@[simp] theorem Dev.setSession_ring (i : Nat) (g : Session → Session) : (d.setSession i g).ring = d.ring := (rfl)

end Sys2Proof.Machine
end

