-- ==== Sys2Proof/Laws/Ops.lean ====
section
/-! SUPPORT. Dictionary fields: what is read after a write. -/

namespace Sys2Proof.Machine

open Sys2Proof

@[simp] theorem Dev.ent_setEnt_same (d : Dev) (k : Key) (v : Nat) : (d.setEnt k v).ent k = v :=
  Assoc.get_put_same Key.lt d.dict (Dict.dflt k) k v

theorem Dev.ent_setEnt_other (d : Dev) {k j : Key} (v : Nat) (h : j ≠ k) : (d.setEnt k v).ent j = d.ent j :=
  Assoc.get_put_other Key.lt d.dict (Dict.dflt k) (Dict.dflt j) v h

/-- Two devices with one dictionary read the same. -/
theorem Dev.rd_congr {d e : Dev} (h : d.dict = e.dict) (f : Fld) (n : Nat) : d.rd f n = e.rd f n := by
  unfold Dev.rd Dev.ent; rw [h]

theorem Dev.on_congr {d e : Dev} (h : d.dict = e.dict) (f : Fld) (n : Nat) : d.on f n = e.on f n := by
  unfold Dev.on; rw [Dev.rd_congr h]

/-- A field that was written reads the value, cut to its width. -/
@[simp] theorem Dev.rd_wr_same (d : Dev) (f : Fld) (n v : Nat) : (d.wr f n v).rd f n = v % 2 ^ f.w := by
  simp [Dev.rd, Dev.wr]

@[simp] theorem Dev.on_flag_same (d : Dev) (f : Fld) (n : Nat) (b : Bool) (h : f.w = 1) : (d.flag f n b).on f n = b := by
  cases b <;> simp [Dev.on, Dev.flag, h]

/-- A field of another entry, or of another element, is unchanged. -/
theorem Dev.rd_wr_key (d : Dev) (f g : Fld) (n m v : Nat) (h : g.key m ≠ f.key n) : (d.wr f n v).rd g m = d.rd g m := by
  simp [Dev.rd, Dev.wr, Dev.ent_setEnt_other _ _ h]

/-- A field of the same entry above or below the one written is unchanged. -/
theorem Dev.rd_wr_bits (d : Dev) (f g : Fld) (n v : Nat) (hk : g.key n = f.key n) (h : f.lo + f.w ≤ g.lo ∨ g.lo + g.w ≤ f.lo) :
    (d.wr f n v).rd g n = d.rd g n := by
  simp only [Dev.rd, Dev.wr, hk, Dev.ent_setEnt_same]
  rcases h with h | h
  · exact bitsOf_setBits_above _ _ _ _ _ _ h
  · exact bitsOf_setBits_below _ _ _ _ _ _ h

/-- Fields that lie apart do not disturb each other, whatever their instances. -/
theorem Dev.rd_wr_apart (d : Dev) (f g : Fld) (n m v : Nat) (h : Fld.apart f g = true) : (d.wr f n v).rd g m = d.rd g m := by
  by_cases hk : g.key m = f.key n
  · simp only [Fld.apart, Bool.or_eq_true, Bool.and_eq_true, bne_iff_ne, decide_eq_true_eq, Bool.not_eq_true'] at h
    simp only [Dev.rd, Dev.wr, hk, Dev.ent_setEnt_same]
    rcases h with ((((h | h) | h) | ⟨⟨h1, h2⟩, h⟩) | ⟨⟨h1, h2⟩, h⟩) | ⟨⟨h1, h2⟩, h⟩
    · exfalso; unfold Fld.key at hk
      cases hf : f.rep <;> cases hg : g.rep <;> simp [hf, hg] at hk <;> omega
    · exact bitsOf_setBits_above _ _ _ _ _ _ h
    · exact bitsOf_setBits_below _ _ _ _ _ _ h
    · exfalso; unfold Fld.key at hk
      simp [h1, h2] at hk; omega
    · exfalso; unfold Fld.key at hk
      simp [h1, h2] at hk; omega
    · exfalso; unfold Fld.key at hk
      simp [h1, h2] at hk; omega
  · exact Dev.rd_wr_key d f g n m v hk

end Sys2Proof.Machine
end

