-- ==== Sys2Proof/Laws/Rcp.lean ====
section
/-! SUPPORT. What receiving a request does to the rest of the device, and what a request that is taken does. -/

namespace Sys2Proof.Machine

open Sys2Proof

/-! ## Time passing leaves the dictionary and the endpoint alone -/

@[simp] theorem Dev.rd_elapse (d : Dev) (dt : Nat) (f : Fld) (n : Nat) : (d.elapse dt).rd f n = d.rd f n := (rfl)
@[simp] theorem Dev.on_elapse (d : Dev) (dt : Nat) (f : Fld) (n : Nat) : (d.elapse dt).on f n = d.on f n := (rfl)
@[simp] theorem Dev.stage_elapse (d : Dev) (dt : Nat) : (d.elapse dt).stage = d.stage := (rfl)
@[simp] theorem Dev.inReset_elapse (d : Dev) (dt : Nat) : (d.elapse dt).inReset = d.inReset := (rfl)
@[simp] theorem Dev.serving_elapse (d : Dev) (dt : Nat) : (d.elapse dt).serving = d.serving := (rfl)
@[simp] theorem Dev.listens_elapse (d : Dev) (dt via : Nat) : (d.elapse dt).listens via = d.listens via := (rfl)
@[simp] theorem Dev.session_elapse (d : Dev) (dt id : Nat) : (d.elapse dt).session? id = d.session? id := (rfl)

/-- A media command acts where the media blocks run (R503). -/
theorem Dev.live_serving (d : Dev) (dt : Nat) (f : Dev → Dev) (h : d.serving = true) : d.live dt f = f (d.elapse dt) := by
  unfold Dev.live; simp [h]

/-! ## Counting a frame -/

theorem Dev.rd_sat_apart (d : Dev) (f g : Fld) (n m k : Nat) (h : Fld.apart f g = true) : (d.sat f n k).rd g m = d.rd g m :=
  Dev.rd_wr_apart d f g n m _ h

/-- Fields that no counter of received frames shares (Tables 06.11, 15.15). -/
def offRx (g : Fld) : Bool :=
  Fld.apart D.MgCounters.RX_FRAMES g && Fld.apart D.PortCounters.RX_FRAMES g && Fld.apart D.PortCounters.CTRL_FRAMES g &&
    Fld.apart D.PortCounters.CTRL_DROPS g

theorem Dev.rd_coreFrame (d : Dev) (p : Nat) (g : Fld) (m : Nat) (h1 : Fld.apart D.PortCounters.CTRL_FRAMES g = true)
    (h2 : Fld.apart D.PortCounters.CTRL_DROPS g = true) : (d.coreFrame p).rd g m = d.rd g m := by
  unfold Dev.coreFrame; dsimp only
  have e : ∀ (x : Dev) (n : NMap NetPortSt), ({ x with netPort := n } : Dev).rd g m = x.rd g m := fun _ _ => rfl
  rw [e]; split
  · exact Dev.rd_sat_apart _ _ _ _ _ _ h1
  · rw [Dev.rd_sat_apart _ _ _ _ _ _ h2, Dev.rd_sat_apart _ _ _ _ _ _ h1]

theorem Dev.rd_mgRx (d : Dev) (via : Nat) (g : Fld) (m : Nat) (h : offRx g = true) : (d.mgRx via).rd g m = d.rd g m := by
  unfold offRx at h; simp only [Bool.and_eq_true] at h
  rw [Dev.mgRx]; split
  · rfl
  · split
    · exact Dev.rd_sat_apart _ _ _ _ _ _ h.1.1.1
    · rw [Dev.rd_coreFrame _ _ _ _ h.1.2 h.2, Dev.rd_sat_apart _ _ _ _ _ _ h.1.1.2]

theorem Dev.rcp_coreFrame (d : Dev) (p : Nat) : (d.coreFrame p).rcp = d.rcp := by
  have e : ∀ (x : Dev) (n : NMap NetPortSt), ({ x with netPort := n } : Dev).rcp = x.rcp := fun _ _ => rfl
  rw [Dev.coreFrame, e]; split <;> simp only [Dev.sat, Dev.wr_rcp]
theorem Dev.rcp_mgRx (d : Dev) (via : Nat) : (d.mgRx via).rcp = d.rcp := by
  rw [Dev.mgRx]; split
  · rfl
  · split
    · exact Dev.wr_rcp ..
    · rw [Dev.rcp_coreFrame, Dev.sat, Dev.wr_rcp]
theorem Dev.rst_coreFrame (d : Dev) (p : Nat) : (d.coreFrame p).rst = d.rst := by
  have e : ∀ (x : Dev) (n : NMap NetPortSt), ({ x with netPort := n } : Dev).rst = x.rst := fun _ _ => rfl
  rw [Dev.coreFrame, e]; split <;> simp only [Dev.sat, Dev.wr_rst]
theorem Dev.rst_mgRx (d : Dev) (via : Nat) : (d.mgRx via).rst = d.rst := by
  rw [Dev.mgRx]; split
  · rfl
  · split
    · exact Dev.wr_rst ..
    · rw [Dev.rst_coreFrame, Dev.sat, Dev.wr_rst]
theorem Dev.sec_coreFrame (d : Dev) (p : Nat) : (d.coreFrame p).sec = d.sec := by
  have e : ∀ (x : Dev) (n : NMap NetPortSt), ({ x with netPort := n } : Dev).sec = x.sec := fun _ _ => rfl
  rw [Dev.coreFrame, e]; split <;> simp only [Dev.sat, Dev.wr_sec]
theorem Dev.sec_mgRx (d : Dev) (via : Nat) : (d.mgRx via).sec = d.sec := by
  rw [Dev.mgRx]; split
  · rfl
  · split
    · exact Dev.wr_sec ..
    · rw [Dev.sec_coreFrame, Dev.sat, Dev.wr_sec]
theorem Dev.wall_coreFrame (d : Dev) (p : Nat) : (d.coreFrame p).wall = d.wall := by
  have e : ∀ (x : Dev) (n : NMap NetPortSt), ({ x with netPort := n } : Dev).wall = x.wall := fun _ _ => rfl
  rw [Dev.coreFrame, e]; split <;> simp only [Dev.sat, Dev.wr_wall]
theorem Dev.wall_mgRx (d : Dev) (via : Nat) : (d.mgRx via).wall = d.wall := by
  rw [Dev.mgRx]; split
  · rfl
  · split
    · exact Dev.wr_wall ..
    · rw [Dev.wall_coreFrame, Dev.sat, Dev.wr_wall]

@[simp] theorem Dev.session_mgRx (d : Dev) (via id : Nat) : (d.mgRx via).session? id = d.session? id := by
  unfold Dev.session?; rw [Dev.rcp_mgRx]

/-- The session found after one session has changed. -/
theorem Dev.session_setSession (d : Dev) (id : Nat) (f : Session → Session) (hf : ∀ x, (f x).id = x.id) :
    (d.setSession id f).session? id = (d.session? id).map f := by
  unfold Dev.session? Dev.setSession
  simp only
  induction d.rcp.sessions with
  | nil => rfl
  | cons x t ih =>
    by_cases h : x.id = id
    · simp [h, List.find?, hf]
    · simp only [List.map_cons, h, if_false, List.find?_cons]
      have : (x.id == id) = false := by simpa using h
      simp only [this, ih]

/-! ## Hearing a session -/

theorem Dev.rd_mgAccept (d : Dev) (via : Nat) (g : Fld) (m : Nat) (h : Fld.apart D.MgCounters.RCP_FRAMES g = true) :
    (d.mgAccept via).rd g m = d.rd g m := by
  unfold Dev.mgAccept; split
  · exact Dev.rd_sat_apart _ _ _ _ _ _ h
  · rfl

theorem Dev.rd_confirmMg (d : Dev) (g : Fld) (m : Nat) (h : Fld.apart D.MgStatus.CONFIRM_PENDING g = true) :
    d.confirmMg.rd g m = d.rd g m := by
  unfold Dev.confirmMg; split
  · unfold Dev.flag; rw [Dev.rd_wr_apart _ _ _ _ _ _ h, Dev.rd_wr_apart _ _ _ _ _ _ h]; rfl
  · rfl

theorem Dev.rd_heard (d : Dev) (q : Rcp) (g : Fld) (m : Nat) (h1 : Fld.apart D.MgCounters.RCP_FRAMES g = true)
    (h2 : Fld.apart D.MgStatus.CONFIRM_PENDING g = true) : (d.heard q).rd g m = d.rd g m := by
  unfold Dev.heard; split
  · rfl
  · simp only [Dev.rd_confirmMg _ _ _ h2, Dev.rd_mgAccept _ _ _ _ h1]; rfl

theorem Dev.rst_confirmMg (d : Dev) : d.confirmMg.rst = d.rst := by
  unfold Dev.confirmMg; split
  · unfold Dev.flag; rw [Dev.wr_rst, Dev.wr_rst]
  · rfl

theorem Dev.rst_mgAccept (d : Dev) (via : Nat) : (d.mgAccept via).rst = d.rst := by
  unfold Dev.mgAccept Dev.sat; split
  · rw [Dev.wr_rst]
  · rfl

theorem Dev.rst_heard (d : Dev) (q : Rcp) : (d.heard q).rst = d.rst := by
  unfold Dev.heard; split
  · rfl
  · simp only [Dev.rst_confirmMg, Dev.rst_mgAccept, Dev.setSession_rst]

theorem Dev.sec_confirmMg (d : Dev) : d.confirmMg.sec = d.sec := by
  unfold Dev.confirmMg; split
  · unfold Dev.flag; rw [Dev.wr_sec, Dev.wr_sec]
  · rfl

theorem Dev.sec_mgAccept (d : Dev) (via : Nat) : (d.mgAccept via).sec = d.sec := by
  unfold Dev.mgAccept Dev.sat; split
  · rw [Dev.wr_sec]
  · rfl

theorem Dev.sec_heard (d : Dev) (q : Rcp) : (d.heard q).sec = d.sec := by
  unfold Dev.heard; split
  · rfl
  · simp only [Dev.sec_confirmMg, Dev.sec_mgAccept, Dev.setSession_sec]

/-! ## A request that is taken -/

theorem Dev.sealOk_mgRx (d : Dev) (dt via : Nat) (q : Rcp) : ((d.elapse dt).mgRx via).sealOk q = d.sealOk q := by
  unfold Dev.sealOk; rw [Dev.session_mgRx, Dev.session_elapse]

theorem Dev.stage_atBody (d : Dev) (q : Rcp) : (d.atBody q).stage = d.stage := by
  unfold Dev.stage Dev.atBody
  rw [Dev.rd_heard _ _ _ _ (by decide) (by decide), Dev.rd_mgRx _ _ _ _ (by decide), Dev.rd_elapse]

theorem Dev.gate_takes (d : Dev) (q : Rcp) (early : Bool) (ix : Option Nat) (h : d.takes q = true) : (d.atBody q).gate q early ix = none := by
  unfold Dev.takes at h
  simp only [Bool.and_eq_true, Bool.not_eq_true', decide_eq_true_eq] at h
  unfold Dev.gate
  have hr : (d.atBody q).rst = d.rst := by unfold Dev.atBody; rw [Dev.rst_heard, Dev.rst_mgRx]; rfl
  rw [Dev.stage_atBody, hr]
  simp only [h.1.1.1.1.2, h.1.1.2]
  simp only [Bool.false_eq_true, if_false]
  rw [if_neg]
  omega

/-- A request that is taken runs its body, and the device answers with the body's status and payload. -/
theorem serve_takes (me : Instr) (q : Rcp) (anon early : Bool) (ix : Option Nat) (body : Who → Dev → Dev × Reply) (d : Dev) (h : d.takes q = true)
    (hs : (body (d.asker q) (d.atBody q)).2.status ≠ St.DEFER) :
    serve me q anon early ix body d = (body (d.asker q) (d.atBody q)).1.answer q (body (d.asker q) (d.atBody q)).2 := by
  have hg := Dev.gate_takes d q early ix h
  unfold Dev.takes at h
  simp only [Bool.and_eq_true, Bool.not_eq_true', bne_iff_ne] at h
  obtain ⟨⟨⟨⟨⟨⟨⟨⟨hp, hh⟩, h0⟩, ht⟩, _⟩, _⟩, _⟩, hm⟩, hx⟩ := h
  unfold Dev.hears at hp
  simp only [Bool.and_eq_true, Bool.not_eq_true'] at hp
  obtain ⟨hl, hp⟩ := hp
  unfold serve
  simp only [Dev.listens_elapse, hp, hl, hh, Bool.not_true, Bool.false_eq_true, if_false, h0, Dev.session_mgRx, Dev.session_elapse, Dev.sealOk_mgRx, ht]
  cases hq : d.session? q.session with
  | none => simp [hq] at hx
  | some x =>
    simp only [hq, beq_iff_eq] at hx
    have hid : x.id = q.session := by
      unfold Dev.session? at hq
      simpa using List.find?_some hq
    have hw : d.asker q = ⟨x.id, x.role, q.via⟩ := by unfold Dev.asker; rw [hq, hid]
    simp only [Dev.sequenced, hx, if_true]
    have hb : ((d.elapse q.dt).mgRx q.via).heard q = d.atBody q := (rfl)
    rw [hb, hg]
    simp only [← hw]
    have hsec : (d.atBody q).sec.restarting ≠ some 1 := by
      have : (d.atBody q).sec = d.sec := by unfold Dev.atBody; rw [Dev.sec_heard, Dev.sec_mgRx]; rfl
      rw [this]
      intro e
      simp [Dev.restarts, e] at hm
    simp only [hsec, hs, or_self, if_false]

/-- The same of a WRITE that passes the common checks. -/
theorem serveWrite_takes (me : Instr) (q : Rcp) (ix sub : Nat) (v : Bytes) (act : Who → Dev → Dev × Nat) (d : Dev) (h : d.takes q = true)
    (hv : (d.atBody q).writeFail (d.asker q) ix sub v = none) (hs : (act (d.asker q) (d.atBody q)).2 ≠ St.DEFER) :
    serveWrite me q ix sub v act d = (act (d.asker q) (d.atBody q)).1.answer q (Reply.of (act (d.asker q) (d.atBody q)).2) := by
  unfold serveWrite
  rw [serve_takes _ _ _ _ _ _ _ h]
  · simp only [hv]
  · simp only [hv]; exact hs

/-- The same of a whole WRITE_DOM that passes the common checks. -/
theorem serveDom_takes (me : Instr) (q : Rcp) (ix sub off : Nat) (v : Bytes) (act : Who → Dev → Dev × Nat) (d : Dev) (h : d.takes q = true)
    (hv : (d.atBody q).domFail (d.asker q) ix sub off v = none) (hs : (act (d.asker q) (d.atBody q)).2 ≠ St.DEFER) :
    serveDom me q ix sub off v act d = (act (d.asker q) (d.atBody q)).1.answer q (Reply.of (act (d.asker q) (d.atBody q)).2) := by
  unfold serveDom
  rw [serve_takes _ _ _ _ _ _ _ h]
  · simp only [hv]
  · simp only [hv]; exact hs

/-! ## The answer -/

theorem Dev.rd_sendOn (d : Dev) (via : Nat) (e : Emission) (g : Fld) (m : Nat) (h : Fld.apart D.MgCounters.TX_FRAMES g = true)
    (h' : Fld.apart D.PortCounters.TX_FRAMES g = true) : (d.sendOn via e).rd g m = d.rd g m := by
  unfold Dev.sendOn
  have : ∀ x : Dev, (x.emit e).rd g m = x.rd g m := fun _ => rfl
  rw [this]; split
  · exact Dev.rd_sat_apart _ _ _ _ _ _ h
  · exact Dev.rd_sat_apart _ _ _ _ _ _ h'

theorem Dev.rd_answer (d : Dev) (q : Rcp) (r : Reply) (g : Fld) (m : Nat) (h : Fld.apart D.MgCounters.TX_FRAMES g = true)
    (h' : Fld.apart D.PortCounters.TX_FRAMES g = true) : (d.answer q r).rd g m = d.rd g m := by
  unfold Dev.answer; split
  · rfl
  · rw [Dev.rd_sendOn _ _ _ _ _ h h']; rfl

/-- An answer is a response of its status. -/
theorem Dev.answered_answer (d : Dev) (q : Rcp) (r : Reply) (h : r.status ≠ St.LATER) : (d.answer q r).answered q r.status = true := by
  unfold Dev.answer Dev.answered Dev.sendOn Dev.emit
  simp [h]

end Sys2Proof.Machine
end

