-- ==== Sys2Proof/Laws/Body.lean ====
section
/-! SUPPORT. What a device holds where a request's body starts, and after its answer: everything but the endpoint's own counters is as before. -/

namespace Sys2Proof.Machine

open Sys2Proof

theorem Dev.raised_coreFrame (d : Dev) (p : Nat) : (d.coreFrame p).raised = d.raised := by
  have e : ∀ (x : Dev) (n : NMap NetPortSt), ({ x with netPort := n } : Dev).raised = x.raised := fun _ _ => rfl
  rw [Dev.coreFrame, e]; split <;> simp only [Dev.sat, Dev.wr_raised]
theorem Dev.raised_mgRx' (d : Dev) (via : Nat) : (d.mgRx via).raised = d.raised := by
  rw [Dev.mgRx]; split
  · rfl
  · split
    · exact Dev.wr_raised ..
    · rw [Dev.raised_coreFrame, Dev.sat, Dev.wr_raised]
theorem Dev.raised_confirmMg' (d : Dev) : d.confirmMg.raised = d.raised := by
  unfold Dev.confirmMg Dev.flag; split
  · rw [Dev.wr_raised, Dev.wr_raised]
  · rfl
theorem Dev.raised_mgAccept' (d : Dev) (via : Nat) : (d.mgAccept via).raised = d.raised := by
  unfold Dev.mgAccept Dev.sat; split
  · rw [Dev.wr_raised]
  · rfl
theorem Dev.raised_heard' (d : Dev) (q : Rcp) : (d.heard q).raised = d.raised := by
  unfold Dev.heard; split
  · rfl
  · rw [Dev.raised_confirmMg', Dev.raised_mgAccept', Dev.setSession_raised]
@[simp] theorem Dev.raised_atBody (d : Dev) (q : Rcp) : (d.atBody q).raised = d.raised := by
  unfold Dev.atBody; rw [Dev.raised_heard', Dev.raised_mgRx', Dev.elapse_raised]
theorem Dev.raised_sendOn' (d : Dev) (via : Nat) (e : Emission) : (d.sendOn via e).raised = d.raised := by
  unfold Dev.sendOn Dev.sat; split <;> rw [Dev.emit_raised, Dev.wr_raised]
@[simp] theorem Dev.raised_answer (d : Dev) (q : Rcp) (r : Reply) : (d.answer q r).raised = d.raised := by
  unfold Dev.answer; split
  · rw [Dev.setSession_raised]
  · rw [Dev.raised_sendOn', Dev.setSession_raised]

theorem Dev.ended_coreFrame (d : Dev) (p : Nat) : (d.coreFrame p).ended = d.ended := by
  have e : ∀ (x : Dev) (n : NMap NetPortSt), ({ x with netPort := n } : Dev).ended = x.ended := fun _ _ => rfl
  rw [Dev.coreFrame, e]; split <;> simp only [Dev.sat, Dev.wr_ended]
theorem Dev.ended_mgRx' (d : Dev) (via : Nat) : (d.mgRx via).ended = d.ended := by
  rw [Dev.mgRx]; split
  · rfl
  · split
    · exact Dev.wr_ended ..
    · rw [Dev.ended_coreFrame, Dev.sat, Dev.wr_ended]
theorem Dev.ended_confirmMg' (d : Dev) : d.confirmMg.ended = d.ended := by
  unfold Dev.confirmMg Dev.flag; split
  · rw [Dev.wr_ended, Dev.wr_ended]
  · rfl
theorem Dev.ended_mgAccept' (d : Dev) (via : Nat) : (d.mgAccept via).ended = d.ended := by
  unfold Dev.mgAccept Dev.sat; split
  · rw [Dev.wr_ended]
  · rfl
theorem Dev.ended_heard' (d : Dev) (q : Rcp) : (d.heard q).ended = d.ended := by
  unfold Dev.heard; split
  · rfl
  · rw [Dev.ended_confirmMg', Dev.ended_mgAccept', Dev.setSession_ended]
@[simp] theorem Dev.ended_atBody (d : Dev) (q : Rcp) : (d.atBody q).ended = d.ended := by
  unfold Dev.atBody; rw [Dev.ended_heard', Dev.ended_mgRx', Dev.elapse_ended]
theorem Dev.ended_sendOn' (d : Dev) (via : Nat) (e : Emission) : (d.sendOn via e).ended = d.ended := by
  unfold Dev.sendOn Dev.sat; split <;> rw [Dev.emit_ended, Dev.wr_ended]
@[simp] theorem Dev.ended_answer (d : Dev) (q : Rcp) (r : Reply) : (d.answer q r).ended = d.ended := by
  unfold Dev.answer; split
  · rw [Dev.setSession_ended]
  · rw [Dev.ended_sendOn', Dev.setSession_ended]

theorem Dev.rst_mgRx' (d : Dev) (via : Nat) : (d.mgRx via).rst = d.rst := by
  rw [Dev.mgRx]; split
  · rfl
  · split
    · exact Dev.wr_rst ..
    · rw [Dev.rst_coreFrame, Dev.sat, Dev.wr_rst]
theorem Dev.rst_confirmMg' (d : Dev) : d.confirmMg.rst = d.rst := by
  unfold Dev.confirmMg Dev.flag; split
  · rw [Dev.wr_rst, Dev.wr_rst]
  · rfl
theorem Dev.rst_mgAccept' (d : Dev) (via : Nat) : (d.mgAccept via).rst = d.rst := by
  unfold Dev.mgAccept Dev.sat; split
  · rw [Dev.wr_rst]
  · rfl
theorem Dev.rst_heard' (d : Dev) (q : Rcp) : (d.heard q).rst = d.rst := by
  unfold Dev.heard; split
  · rfl
  · rw [Dev.rst_confirmMg', Dev.rst_mgAccept', Dev.setSession_rst]
@[simp] theorem Dev.rst_atBody (d : Dev) (q : Rcp) : (d.atBody q).rst = d.rst := by
  unfold Dev.atBody; rw [Dev.rst_heard', Dev.rst_mgRx', Dev.elapse_rst]
theorem Dev.rst_sendOn' (d : Dev) (via : Nat) (e : Emission) : (d.sendOn via e).rst = d.rst := by
  unfold Dev.sendOn Dev.sat; split <;> rw [Dev.emit_rst, Dev.wr_rst]
@[simp] theorem Dev.rst_answer (d : Dev) (q : Rcp) (r : Reply) : (d.answer q r).rst = d.rst := by
  unfold Dev.answer; split
  · rw [Dev.setSession_rst]
  · rw [Dev.rst_sendOn', Dev.setSession_rst]

theorem Dev.flash_coreFrame (d : Dev) (p : Nat) : (d.coreFrame p).flash = d.flash := by
  have e : ∀ (x : Dev) (n : NMap NetPortSt), ({ x with netPort := n } : Dev).flash = x.flash := fun _ _ => rfl
  rw [Dev.coreFrame, e]; split <;> simp only [Dev.sat, Dev.wr_flash]
theorem Dev.flash_mgRx' (d : Dev) (via : Nat) : (d.mgRx via).flash = d.flash := by
  rw [Dev.mgRx]; split
  · rfl
  · split
    · exact Dev.wr_flash ..
    · rw [Dev.flash_coreFrame, Dev.sat, Dev.wr_flash]
theorem Dev.flash_confirmMg' (d : Dev) : d.confirmMg.flash = d.flash := by
  unfold Dev.confirmMg Dev.flag; split
  · rw [Dev.wr_flash, Dev.wr_flash]
  · rfl
theorem Dev.flash_mgAccept' (d : Dev) (via : Nat) : (d.mgAccept via).flash = d.flash := by
  unfold Dev.mgAccept Dev.sat; split
  · rw [Dev.wr_flash]
  · rfl
theorem Dev.flash_heard' (d : Dev) (q : Rcp) : (d.heard q).flash = d.flash := by
  unfold Dev.heard; split
  · rfl
  · rw [Dev.flash_confirmMg', Dev.flash_mgAccept', Dev.setSession_flash]
@[simp] theorem Dev.flash_atBody (d : Dev) (q : Rcp) : (d.atBody q).flash = d.flash := by
  unfold Dev.atBody; rw [Dev.flash_heard', Dev.flash_mgRx', Dev.elapse_flash]
theorem Dev.flash_sendOn' (d : Dev) (via : Nat) (e : Emission) : (d.sendOn via e).flash = d.flash := by
  unfold Dev.sendOn Dev.sat; split <;> rw [Dev.emit_flash, Dev.wr_flash]
@[simp] theorem Dev.flash_answer (d : Dev) (q : Rcp) (r : Reply) : (d.answer q r).flash = d.flash := by
  unfold Dev.answer; split
  · rw [Dev.setSession_flash]
  · rw [Dev.flash_sendOn', Dev.setSession_flash]

theorem Dev.flow_coreFrame (d : Dev) (p : Nat) : (d.coreFrame p).flow = d.flow := by
  have e : ∀ (x : Dev) (n : NMap NetPortSt), ({ x with netPort := n } : Dev).flow = x.flow := fun _ _ => rfl
  rw [Dev.coreFrame, e]; split <;> simp only [Dev.sat, Dev.wr_flow]
theorem Dev.flow_mgRx' (d : Dev) (via : Nat) : (d.mgRx via).flow = d.flow := by
  rw [Dev.mgRx]; split
  · rfl
  · split
    · exact Dev.wr_flow ..
    · rw [Dev.flow_coreFrame, Dev.sat, Dev.wr_flow]
theorem Dev.flow_confirmMg' (d : Dev) : d.confirmMg.flow = d.flow := by
  unfold Dev.confirmMg Dev.flag; split
  · rw [Dev.wr_flow, Dev.wr_flow]
  · rfl
theorem Dev.flow_mgAccept' (d : Dev) (via : Nat) : (d.mgAccept via).flow = d.flow := by
  unfold Dev.mgAccept Dev.sat; split
  · rw [Dev.wr_flow]
  · rfl
theorem Dev.flow_heard' (d : Dev) (q : Rcp) : (d.heard q).flow = d.flow := by
  unfold Dev.heard; split
  · rfl
  · rw [Dev.flow_confirmMg', Dev.flow_mgAccept', Dev.setSession_flow]
@[simp] theorem Dev.flow_atBody (d : Dev) (q : Rcp) : (d.atBody q).flow = d.flow := by
  unfold Dev.atBody; rw [Dev.flow_heard', Dev.flow_mgRx', Dev.elapse_flow]
theorem Dev.flow_sendOn' (d : Dev) (via : Nat) (e : Emission) : (d.sendOn via e).flow = d.flow := by
  unfold Dev.sendOn Dev.sat; split <;> rw [Dev.emit_flow, Dev.wr_flow]
@[simp] theorem Dev.flow_answer (d : Dev) (q : Rcp) (r : Reply) : (d.answer q r).flow = d.flow := by
  unfold Dev.answer; split
  · rw [Dev.setSession_flow]
  · rw [Dev.flow_sendOn', Dev.setSession_flow]

theorem Dev.remote_coreFrame (d : Dev) (p : Nat) : (d.coreFrame p).remote = d.remote := by
  have e : ∀ (x : Dev) (n : NMap NetPortSt), ({ x with netPort := n } : Dev).remote = x.remote := fun _ _ => rfl
  rw [Dev.coreFrame, e]; split <;> simp only [Dev.sat, Dev.wr_remote]
theorem Dev.remote_mgRx' (d : Dev) (via : Nat) : (d.mgRx via).remote = d.remote := by
  rw [Dev.mgRx]; split
  · rfl
  · split
    · exact Dev.wr_remote ..
    · rw [Dev.remote_coreFrame, Dev.sat, Dev.wr_remote]
theorem Dev.remote_confirmMg' (d : Dev) : d.confirmMg.remote = d.remote := by
  unfold Dev.confirmMg Dev.flag; split
  · rw [Dev.wr_remote, Dev.wr_remote]
  · rfl
theorem Dev.remote_mgAccept' (d : Dev) (via : Nat) : (d.mgAccept via).remote = d.remote := by
  unfold Dev.mgAccept Dev.sat; split
  · rw [Dev.wr_remote]
  · rfl
theorem Dev.remote_heard' (d : Dev) (q : Rcp) : (d.heard q).remote = d.remote := by
  unfold Dev.heard; split
  · rfl
  · rw [Dev.remote_confirmMg', Dev.remote_mgAccept', Dev.setSession_remote]
@[simp] theorem Dev.remote_atBody (d : Dev) (q : Rcp) : (d.atBody q).remote = d.remote := by
  unfold Dev.atBody; rw [Dev.remote_heard', Dev.remote_mgRx', Dev.elapse_remote]
theorem Dev.remote_sendOn' (d : Dev) (via : Nat) (e : Emission) : (d.sendOn via e).remote = d.remote := by
  unfold Dev.sendOn Dev.sat; split <;> rw [Dev.emit_remote, Dev.wr_remote]
@[simp] theorem Dev.remote_answer (d : Dev) (q : Rcp) (r : Reply) : (d.answer q r).remote = d.remote := by
  unfold Dev.answer; split
  · rw [Dev.setSession_remote]
  · rw [Dev.remote_sendOn', Dev.setSession_remote]

theorem Dev.plane_coreFrame (d : Dev) (p : Nat) : (d.coreFrame p).plane = d.plane := by
  have e : ∀ (x : Dev) (n : NMap NetPortSt), ({ x with netPort := n } : Dev).plane = x.plane := fun _ _ => rfl
  rw [Dev.coreFrame, e]; split <;> simp only [Dev.sat, Dev.wr_plane]
theorem Dev.plane_mgRx' (d : Dev) (via : Nat) : (d.mgRx via).plane = d.plane := by
  rw [Dev.mgRx]; split
  · rfl
  · split
    · exact Dev.wr_plane ..
    · rw [Dev.plane_coreFrame, Dev.sat, Dev.wr_plane]
theorem Dev.plane_confirmMg' (d : Dev) : d.confirmMg.plane = d.plane := by
  unfold Dev.confirmMg Dev.flag; split
  · rw [Dev.wr_plane, Dev.wr_plane]
  · rfl
theorem Dev.plane_mgAccept' (d : Dev) (via : Nat) : (d.mgAccept via).plane = d.plane := by
  unfold Dev.mgAccept Dev.sat; split
  · rw [Dev.wr_plane]
  · rfl
theorem Dev.plane_heard' (d : Dev) (q : Rcp) : (d.heard q).plane = d.plane := by
  unfold Dev.heard; split
  · rfl
  · rw [Dev.plane_confirmMg', Dev.plane_mgAccept', Dev.setSession_plane]
@[simp] theorem Dev.plane_atBody (d : Dev) (q : Rcp) : (d.atBody q).plane = d.plane := by
  unfold Dev.atBody; rw [Dev.plane_heard', Dev.plane_mgRx', Dev.elapse_plane]
theorem Dev.plane_sendOn' (d : Dev) (via : Nat) (e : Emission) : (d.sendOn via e).plane = d.plane := by
  unfold Dev.sendOn Dev.sat; split <;> rw [Dev.emit_plane, Dev.wr_plane]
@[simp] theorem Dev.plane_answer (d : Dev) (q : Rcp) (r : Reply) : (d.answer q r).plane = d.plane := by
  unfold Dev.answer; split
  · rw [Dev.setSession_plane]
  · rw [Dev.plane_sendOn', Dev.setSession_plane]

theorem Dev.sdiRx_coreFrame (d : Dev) (p : Nat) : (d.coreFrame p).sdiRx = d.sdiRx := by
  have e : ∀ (x : Dev) (n : NMap NetPortSt), ({ x with netPort := n } : Dev).sdiRx = x.sdiRx := fun _ _ => rfl
  rw [Dev.coreFrame, e]; split <;> simp only [Dev.sat, Dev.wr_sdiRx]
theorem Dev.sdiRx_mgRx' (d : Dev) (via : Nat) : (d.mgRx via).sdiRx = d.sdiRx := by
  rw [Dev.mgRx]; split
  · rfl
  · split
    · exact Dev.wr_sdiRx ..
    · rw [Dev.sdiRx_coreFrame, Dev.sat, Dev.wr_sdiRx]
theorem Dev.sdiRx_confirmMg' (d : Dev) : d.confirmMg.sdiRx = d.sdiRx := by
  unfold Dev.confirmMg Dev.flag; split
  · rw [Dev.wr_sdiRx, Dev.wr_sdiRx]
  · rfl
theorem Dev.sdiRx_mgAccept' (d : Dev) (via : Nat) : (d.mgAccept via).sdiRx = d.sdiRx := by
  unfold Dev.mgAccept Dev.sat; split
  · rw [Dev.wr_sdiRx]
  · rfl
theorem Dev.sdiRx_heard' (d : Dev) (q : Rcp) : (d.heard q).sdiRx = d.sdiRx := by
  unfold Dev.heard; split
  · rfl
  · rw [Dev.sdiRx_confirmMg', Dev.sdiRx_mgAccept', Dev.setSession_sdiRx]
@[simp] theorem Dev.sdiRx_atBody (d : Dev) (q : Rcp) : (d.atBody q).sdiRx = d.sdiRx := by
  unfold Dev.atBody; rw [Dev.sdiRx_heard', Dev.sdiRx_mgRx', Dev.elapse_sdiRx]
theorem Dev.sdiRx_sendOn' (d : Dev) (via : Nat) (e : Emission) : (d.sendOn via e).sdiRx = d.sdiRx := by
  unfold Dev.sendOn Dev.sat; split <;> rw [Dev.emit_sdiRx, Dev.wr_sdiRx]
@[simp] theorem Dev.sdiRx_answer (d : Dev) (q : Rcp) (r : Reply) : (d.answer q r).sdiRx = d.sdiRx := by
  unfold Dev.answer; split
  · rw [Dev.setSession_sdiRx]
  · rw [Dev.sdiRx_sendOn', Dev.setSession_sdiRx]

theorem Dev.hold_coreFrame (d : Dev) (p : Nat) : (d.coreFrame p).hold = d.hold := by
  have e : ∀ (x : Dev) (n : NMap NetPortSt), ({ x with netPort := n } : Dev).hold = x.hold := fun _ _ => rfl
  rw [Dev.coreFrame, e]; split <;> simp only [Dev.sat, Dev.wr_hold]
theorem Dev.hold_mgRx' (d : Dev) (via : Nat) : (d.mgRx via).hold = d.hold := by
  rw [Dev.mgRx]; split
  · rfl
  · split
    · exact Dev.wr_hold ..
    · rw [Dev.hold_coreFrame, Dev.sat, Dev.wr_hold]
theorem Dev.hold_confirmMg' (d : Dev) : d.confirmMg.hold = d.hold := by
  unfold Dev.confirmMg Dev.flag; split
  · rw [Dev.wr_hold, Dev.wr_hold]
  · rfl
theorem Dev.hold_mgAccept' (d : Dev) (via : Nat) : (d.mgAccept via).hold = d.hold := by
  unfold Dev.mgAccept Dev.sat; split
  · rw [Dev.wr_hold]
  · rfl
theorem Dev.hold_heard' (d : Dev) (q : Rcp) : (d.heard q).hold = d.hold := by
  unfold Dev.heard; split
  · rfl
  · rw [Dev.hold_confirmMg', Dev.hold_mgAccept', Dev.setSession_hold]
@[simp] theorem Dev.hold_atBody (d : Dev) (q : Rcp) : (d.atBody q).hold = d.hold := by
  unfold Dev.atBody; rw [Dev.hold_heard', Dev.hold_mgRx', Dev.elapse_hold]
theorem Dev.hold_sendOn' (d : Dev) (via : Nat) (e : Emission) : (d.sendOn via e).hold = d.hold := by
  unfold Dev.sendOn Dev.sat; split <;> rw [Dev.emit_hold, Dev.wr_hold]
@[simp] theorem Dev.hold_answer (d : Dev) (q : Rcp) (r : Reply) : (d.answer q r).hold = d.hold := by
  unfold Dev.answer; split
  · rw [Dev.setSession_hold]
  · rw [Dev.hold_sendOn', Dev.setSession_hold]

theorem Dev.flt_coreFrame (d : Dev) (p : Nat) : (d.coreFrame p).flt = d.flt := by
  have e : ∀ (x : Dev) (n : NMap NetPortSt), ({ x with netPort := n } : Dev).flt = x.flt := fun _ _ => rfl
  rw [Dev.coreFrame, e]; split <;> simp only [Dev.sat, Dev.wr_flt]
theorem Dev.flt_mgRx' (d : Dev) (via : Nat) : (d.mgRx via).flt = d.flt := by
  rw [Dev.mgRx]; split
  · rfl
  · split
    · exact Dev.wr_flt ..
    · rw [Dev.flt_coreFrame, Dev.sat, Dev.wr_flt]
theorem Dev.flt_confirmMg' (d : Dev) : d.confirmMg.flt = d.flt := by
  unfold Dev.confirmMg Dev.flag; split
  · rw [Dev.wr_flt, Dev.wr_flt]
  · rfl
theorem Dev.flt_mgAccept' (d : Dev) (via : Nat) : (d.mgAccept via).flt = d.flt := by
  unfold Dev.mgAccept Dev.sat; split
  · rw [Dev.wr_flt]
  · rfl
theorem Dev.flt_heard' (d : Dev) (q : Rcp) : (d.heard q).flt = d.flt := by
  unfold Dev.heard; split
  · rfl
  · rw [Dev.flt_confirmMg', Dev.flt_mgAccept', Dev.setSession_flt]
@[simp] theorem Dev.flt_atBody (d : Dev) (q : Rcp) : (d.atBody q).flt = d.flt := by
  unfold Dev.atBody; rw [Dev.flt_heard', Dev.flt_mgRx', Dev.elapse_flt]
theorem Dev.flt_sendOn' (d : Dev) (via : Nat) (e : Emission) : (d.sendOn via e).flt = d.flt := by
  unfold Dev.sendOn Dev.sat; split <;> rw [Dev.emit_flt, Dev.wr_flt]
@[simp] theorem Dev.flt_answer (d : Dev) (q : Rcp) (r : Reply) : (d.answer q r).flt = d.flt := by
  unfold Dev.answer; split
  · rw [Dev.setSession_flt]
  · rw [Dev.flt_sendOn', Dev.setSession_flt]

theorem Dev.store_coreFrame (d : Dev) (p : Nat) : (d.coreFrame p).store = d.store := by
  have e : ∀ (x : Dev) (n : NMap NetPortSt), ({ x with netPort := n } : Dev).store = x.store := fun _ _ => rfl
  rw [Dev.coreFrame, e]; split <;> simp only [Dev.sat, Dev.wr_store]
theorem Dev.store_mgRx' (d : Dev) (via : Nat) : (d.mgRx via).store = d.store := by
  rw [Dev.mgRx]; split
  · rfl
  · split
    · exact Dev.wr_store ..
    · rw [Dev.store_coreFrame, Dev.sat, Dev.wr_store]
theorem Dev.store_confirmMg' (d : Dev) : d.confirmMg.store = d.store := by
  unfold Dev.confirmMg Dev.flag; split
  · rw [Dev.wr_store, Dev.wr_store]
  · rfl
theorem Dev.store_mgAccept' (d : Dev) (via : Nat) : (d.mgAccept via).store = d.store := by
  unfold Dev.mgAccept Dev.sat; split
  · rw [Dev.wr_store]
  · rfl
theorem Dev.store_heard' (d : Dev) (q : Rcp) : (d.heard q).store = d.store := by
  unfold Dev.heard; split
  · rfl
  · rw [Dev.store_confirmMg', Dev.store_mgAccept', Dev.setSession_store]
@[simp] theorem Dev.store_atBody (d : Dev) (q : Rcp) : (d.atBody q).store = d.store := by
  unfold Dev.atBody; rw [Dev.store_heard', Dev.store_mgRx', Dev.elapse_store]
theorem Dev.store_sendOn' (d : Dev) (via : Nat) (e : Emission) : (d.sendOn via e).store = d.store := by
  unfold Dev.sendOn Dev.sat; split <;> rw [Dev.emit_store, Dev.wr_store]
@[simp] theorem Dev.store_answer (d : Dev) (q : Rcp) (r : Reply) : (d.answer q r).store = d.store := by
  unfold Dev.answer; split
  · rw [Dev.setSession_store]
  · rw [Dev.store_sendOn', Dev.setSession_store]

theorem Dev.chan_coreFrame (d : Dev) (p : Nat) : (d.coreFrame p).chan = d.chan := by
  have e : ∀ (x : Dev) (n : NMap NetPortSt), ({ x with netPort := n } : Dev).chan = x.chan := fun _ _ => rfl
  rw [Dev.coreFrame, e]; split <;> simp only [Dev.sat, Dev.wr_chan]
theorem Dev.chan_mgRx' (d : Dev) (via : Nat) : (d.mgRx via).chan = d.chan := by
  rw [Dev.mgRx]; split
  · rfl
  · split
    · exact Dev.wr_chan ..
    · rw [Dev.chan_coreFrame, Dev.sat, Dev.wr_chan]
theorem Dev.chan_confirmMg' (d : Dev) : d.confirmMg.chan = d.chan := by
  unfold Dev.confirmMg Dev.flag; split
  · rw [Dev.wr_chan, Dev.wr_chan]
  · rfl
theorem Dev.chan_mgAccept' (d : Dev) (via : Nat) : (d.mgAccept via).chan = d.chan := by
  unfold Dev.mgAccept Dev.sat; split
  · rw [Dev.wr_chan]
  · rfl
theorem Dev.chan_heard' (d : Dev) (q : Rcp) : (d.heard q).chan = d.chan := by
  unfold Dev.heard; split
  · rfl
  · rw [Dev.chan_confirmMg', Dev.chan_mgAccept', Dev.setSession_chan]
@[simp] theorem Dev.chan_atBody (d : Dev) (q : Rcp) : (d.atBody q).chan = d.chan := by
  unfold Dev.atBody; rw [Dev.chan_heard', Dev.chan_mgRx', Dev.elapse_chan]
theorem Dev.chan_sendOn' (d : Dev) (via : Nat) (e : Emission) : (d.sendOn via e).chan = d.chan := by
  unfold Dev.sendOn Dev.sat; split <;> rw [Dev.emit_chan, Dev.wr_chan]
@[simp] theorem Dev.chan_answer (d : Dev) (q : Rcp) (r : Reply) : (d.answer q r).chan = d.chan := by
  unfold Dev.answer; split
  · rw [Dev.setSession_chan]
  · rw [Dev.chan_sendOn', Dev.setSession_chan]

theorem Dev.twin_coreFrame (d : Dev) (p : Nat) : (d.coreFrame p).twin = d.twin := by
  have e : ∀ (x : Dev) (n : NMap NetPortSt), ({ x with netPort := n } : Dev).twin = x.twin := fun _ _ => rfl
  rw [Dev.coreFrame, e]; split <;> simp only [Dev.sat, Dev.wr_twin]
theorem Dev.twin_mgRx' (d : Dev) (via : Nat) : (d.mgRx via).twin = d.twin := by
  rw [Dev.mgRx]; split
  · rfl
  · split
    · exact Dev.wr_twin ..
    · rw [Dev.twin_coreFrame, Dev.sat, Dev.wr_twin]
theorem Dev.twin_confirmMg' (d : Dev) : d.confirmMg.twin = d.twin := by
  unfold Dev.confirmMg Dev.flag; split
  · rw [Dev.wr_twin, Dev.wr_twin]
  · rfl
theorem Dev.twin_mgAccept' (d : Dev) (via : Nat) : (d.mgAccept via).twin = d.twin := by
  unfold Dev.mgAccept Dev.sat; split
  · rw [Dev.wr_twin]
  · rfl
theorem Dev.twin_heard' (d : Dev) (q : Rcp) : (d.heard q).twin = d.twin := by
  unfold Dev.heard; split
  · rfl
  · rw [Dev.twin_confirmMg', Dev.twin_mgAccept', Dev.setSession_twin]
@[simp] theorem Dev.twin_atBody (d : Dev) (q : Rcp) : (d.atBody q).twin = d.twin := by
  unfold Dev.atBody; rw [Dev.twin_heard', Dev.twin_mgRx', Dev.elapse_twin]
theorem Dev.twin_sendOn' (d : Dev) (via : Nat) (e : Emission) : (d.sendOn via e).twin = d.twin := by
  unfold Dev.sendOn Dev.sat; split <;> rw [Dev.emit_twin, Dev.wr_twin]
@[simp] theorem Dev.twin_answer (d : Dev) (q : Rcp) (r : Reply) : (d.answer q r).twin = d.twin := by
  unfold Dev.answer; split
  · rw [Dev.setSession_twin]
  · rw [Dev.twin_sendOn', Dev.setSession_twin]

theorem Dev.knot_coreFrame (d : Dev) (p : Nat) : (d.coreFrame p).knot = d.knot := by
  have e : ∀ (x : Dev) (n : NMap NetPortSt), ({ x with netPort := n } : Dev).knot = x.knot := fun _ _ => rfl
  rw [Dev.coreFrame, e]; split <;> simp only [Dev.sat, Dev.wr_knot]
theorem Dev.knot_mgRx' (d : Dev) (via : Nat) : (d.mgRx via).knot = d.knot := by
  rw [Dev.mgRx]; split
  · rfl
  · split
    · exact Dev.wr_knot ..
    · rw [Dev.knot_coreFrame, Dev.sat, Dev.wr_knot]
theorem Dev.knot_confirmMg' (d : Dev) : d.confirmMg.knot = d.knot := by
  unfold Dev.confirmMg Dev.flag; split
  · rw [Dev.wr_knot, Dev.wr_knot]
  · rfl
theorem Dev.knot_mgAccept' (d : Dev) (via : Nat) : (d.mgAccept via).knot = d.knot := by
  unfold Dev.mgAccept Dev.sat; split
  · rw [Dev.wr_knot]
  · rfl
theorem Dev.knot_heard' (d : Dev) (q : Rcp) : (d.heard q).knot = d.knot := by
  unfold Dev.heard; split
  · rfl
  · rw [Dev.knot_confirmMg', Dev.knot_mgAccept', Dev.setSession_knot]
@[simp] theorem Dev.knot_atBody (d : Dev) (q : Rcp) : (d.atBody q).knot = d.knot := by
  unfold Dev.atBody; rw [Dev.knot_heard', Dev.knot_mgRx', Dev.elapse_knot]
theorem Dev.knot_sendOn' (d : Dev) (via : Nat) (e : Emission) : (d.sendOn via e).knot = d.knot := by
  unfold Dev.sendOn Dev.sat; split <;> rw [Dev.emit_knot, Dev.wr_knot]
@[simp] theorem Dev.knot_answer (d : Dev) (q : Rcp) (r : Reply) : (d.answer q r).knot = d.knot := by
  unfold Dev.answer; split
  · rw [Dev.setSession_knot]
  · rw [Dev.knot_sendOn', Dev.setSession_knot]

theorem Dev.events_coreFrame (d : Dev) (p : Nat) : (d.coreFrame p).events = d.events := by
  have e : ∀ (x : Dev) (n : NMap NetPortSt), ({ x with netPort := n } : Dev).events = x.events := fun _ _ => rfl
  rw [Dev.coreFrame, e]; split <;> simp only [Dev.sat, Dev.wr_events]
theorem Dev.events_mgRx' (d : Dev) (via : Nat) : (d.mgRx via).events = d.events := by
  rw [Dev.mgRx]; split
  · rfl
  · split
    · exact Dev.wr_events ..
    · rw [Dev.events_coreFrame, Dev.sat, Dev.wr_events]
theorem Dev.events_confirmMg' (d : Dev) : d.confirmMg.events = d.events := by
  unfold Dev.confirmMg Dev.flag; split
  · rw [Dev.wr_events, Dev.wr_events]
  · rfl
theorem Dev.events_mgAccept' (d : Dev) (via : Nat) : (d.mgAccept via).events = d.events := by
  unfold Dev.mgAccept Dev.sat; split
  · rw [Dev.wr_events]
  · rfl
theorem Dev.events_heard' (d : Dev) (q : Rcp) : (d.heard q).events = d.events := by
  unfold Dev.heard; split
  · rfl
  · rw [Dev.events_confirmMg', Dev.events_mgAccept', Dev.setSession_events]
@[simp] theorem Dev.events_atBody (d : Dev) (q : Rcp) : (d.atBody q).events = d.events := by
  unfold Dev.atBody; rw [Dev.events_heard', Dev.events_mgRx', Dev.elapse_events]
theorem Dev.events_sendOn' (d : Dev) (via : Nat) (e : Emission) : (d.sendOn via e).events = d.events := by
  unfold Dev.sendOn Dev.sat; split <;> rw [Dev.emit_events, Dev.wr_events]
@[simp] theorem Dev.events_answer (d : Dev) (q : Rcp) (r : Reply) : (d.answer q r).events = d.events := by
  unfold Dev.answer; split
  · rw [Dev.setSession_events]
  · rw [Dev.events_sendOn', Dev.setSession_events]

theorem Dev.netRx_coreFrame (d : Dev) (p : Nat) : (d.coreFrame p).netRx = d.netRx := by
  have e : ∀ (x : Dev) (n : NMap NetPortSt), ({ x with netPort := n } : Dev).netRx = x.netRx := fun _ _ => rfl
  rw [Dev.coreFrame, e]; split <;> simp only [Dev.sat, Dev.wr_netRx]
theorem Dev.netRx_mgRx' (d : Dev) (via : Nat) : (d.mgRx via).netRx = d.netRx := by
  rw [Dev.mgRx]; split
  · rfl
  · split
    · exact Dev.wr_netRx ..
    · rw [Dev.netRx_coreFrame, Dev.sat, Dev.wr_netRx]
theorem Dev.netRx_confirmMg' (d : Dev) : d.confirmMg.netRx = d.netRx := by
  unfold Dev.confirmMg Dev.flag; split
  · rw [Dev.wr_netRx, Dev.wr_netRx]
  · rfl
theorem Dev.netRx_mgAccept' (d : Dev) (via : Nat) : (d.mgAccept via).netRx = d.netRx := by
  unfold Dev.mgAccept Dev.sat; split
  · rw [Dev.wr_netRx]
  · rfl
theorem Dev.netRx_heard' (d : Dev) (q : Rcp) : (d.heard q).netRx = d.netRx := by
  unfold Dev.heard; split
  · rfl
  · rw [Dev.netRx_confirmMg', Dev.netRx_mgAccept', Dev.setSession_netRx]
@[simp] theorem Dev.netRx_atBody (d : Dev) (q : Rcp) : (d.atBody q).netRx = d.netRx := by
  unfold Dev.atBody; rw [Dev.netRx_heard', Dev.netRx_mgRx', Dev.elapse_netRx]
theorem Dev.netRx_sendOn' (d : Dev) (via : Nat) (e : Emission) : (d.sendOn via e).netRx = d.netRx := by
  unfold Dev.sendOn Dev.sat; split <;> rw [Dev.emit_netRx, Dev.wr_netRx]
@[simp] theorem Dev.netRx_answer (d : Dev) (q : Rcp) (r : Reply) : (d.answer q r).netRx = d.netRx := by
  unfold Dev.answer; split
  · rw [Dev.setSession_netRx]
  · rw [Dev.netRx_sendOn', Dev.setSession_netRx]

theorem Dev.netTx_coreFrame (d : Dev) (p : Nat) : (d.coreFrame p).netTx = d.netTx := by
  have e : ∀ (x : Dev) (n : NMap NetPortSt), ({ x with netPort := n } : Dev).netTx = x.netTx := fun _ _ => rfl
  rw [Dev.coreFrame, e]; split <;> simp only [Dev.sat, Dev.wr_netTx]
theorem Dev.netTx_mgRx' (d : Dev) (via : Nat) : (d.mgRx via).netTx = d.netTx := by
  rw [Dev.mgRx]; split
  · rfl
  · split
    · exact Dev.wr_netTx ..
    · rw [Dev.netTx_coreFrame, Dev.sat, Dev.wr_netTx]
theorem Dev.netTx_confirmMg' (d : Dev) : d.confirmMg.netTx = d.netTx := by
  unfold Dev.confirmMg Dev.flag; split
  · rw [Dev.wr_netTx, Dev.wr_netTx]
  · rfl
theorem Dev.netTx_mgAccept' (d : Dev) (via : Nat) : (d.mgAccept via).netTx = d.netTx := by
  unfold Dev.mgAccept Dev.sat; split
  · rw [Dev.wr_netTx]
  · rfl
theorem Dev.netTx_heard' (d : Dev) (q : Rcp) : (d.heard q).netTx = d.netTx := by
  unfold Dev.heard; split
  · rfl
  · rw [Dev.netTx_confirmMg', Dev.netTx_mgAccept', Dev.setSession_netTx]
@[simp] theorem Dev.netTx_atBody (d : Dev) (q : Rcp) : (d.atBody q).netTx = d.netTx := by
  unfold Dev.atBody; rw [Dev.netTx_heard', Dev.netTx_mgRx', Dev.elapse_netTx]
theorem Dev.netTx_sendOn' (d : Dev) (via : Nat) (e : Emission) : (d.sendOn via e).netTx = d.netTx := by
  unfold Dev.sendOn Dev.sat; split <;> rw [Dev.emit_netTx, Dev.wr_netTx]
@[simp] theorem Dev.netTx_answer (d : Dev) (q : Rcp) (r : Reply) : (d.answer q r).netTx = d.netTx := by
  unfold Dev.answer; split
  · rw [Dev.setSession_netTx]
  · rw [Dev.netTx_sendOn', Dev.setSession_netTx]

theorem Dev.ctrl_coreFrame (d : Dev) (p : Nat) : (d.coreFrame p).ctrl = d.ctrl := by
  have e : ∀ (x : Dev) (n : NMap NetPortSt), ({ x with netPort := n } : Dev).ctrl = x.ctrl := fun _ _ => rfl
  rw [Dev.coreFrame, e]; split <;> simp only [Dev.sat, Dev.wr_ctrl]
theorem Dev.ctrl_mgRx' (d : Dev) (via : Nat) : (d.mgRx via).ctrl = d.ctrl := by
  rw [Dev.mgRx]; split
  · rfl
  · split
    · exact Dev.wr_ctrl ..
    · rw [Dev.ctrl_coreFrame, Dev.sat, Dev.wr_ctrl]
theorem Dev.ctrl_confirmMg' (d : Dev) : d.confirmMg.ctrl = d.ctrl := by
  unfold Dev.confirmMg Dev.flag; split
  · rw [Dev.wr_ctrl, Dev.wr_ctrl]
  · rfl
theorem Dev.ctrl_mgAccept' (d : Dev) (via : Nat) : (d.mgAccept via).ctrl = d.ctrl := by
  unfold Dev.mgAccept Dev.sat; split
  · rw [Dev.wr_ctrl]
  · rfl
theorem Dev.ctrl_heard' (d : Dev) (q : Rcp) : (d.heard q).ctrl = d.ctrl := by
  unfold Dev.heard; split
  · rfl
  · rw [Dev.ctrl_confirmMg', Dev.ctrl_mgAccept', Dev.setSession_ctrl]
@[simp] theorem Dev.ctrl_atBody (d : Dev) (q : Rcp) : (d.atBody q).ctrl = d.ctrl := by
  unfold Dev.atBody; rw [Dev.ctrl_heard', Dev.ctrl_mgRx', Dev.elapse_ctrl]
theorem Dev.ctrl_sendOn' (d : Dev) (via : Nat) (e : Emission) : (d.sendOn via e).ctrl = d.ctrl := by
  unfold Dev.sendOn Dev.sat; split <;> rw [Dev.emit_ctrl, Dev.wr_ctrl]
@[simp] theorem Dev.ctrl_answer (d : Dev) (q : Rcp) (r : Reply) : (d.answer q r).ctrl = d.ctrl := by
  unfold Dev.answer; split
  · rw [Dev.setSession_ctrl]
  · rw [Dev.ctrl_sendOn', Dev.setSession_ctrl]

theorem Dev.time_coreFrame (d : Dev) (p : Nat) : (d.coreFrame p).time = d.time := by
  have e : ∀ (x : Dev) (n : NMap NetPortSt), ({ x with netPort := n } : Dev).time = x.time := fun _ _ => rfl
  rw [Dev.coreFrame, e]; split <;> simp only [Dev.sat, Dev.wr_time]
theorem Dev.time_mgRx' (d : Dev) (via : Nat) : (d.mgRx via).time = d.time := by
  rw [Dev.mgRx]; split
  · rfl
  · split
    · exact Dev.wr_time ..
    · rw [Dev.time_coreFrame, Dev.sat, Dev.wr_time]
theorem Dev.time_confirmMg' (d : Dev) : d.confirmMg.time = d.time := by
  unfold Dev.confirmMg Dev.flag; split
  · rw [Dev.wr_time, Dev.wr_time]
  · rfl
theorem Dev.time_mgAccept' (d : Dev) (via : Nat) : (d.mgAccept via).time = d.time := by
  unfold Dev.mgAccept Dev.sat; split
  · rw [Dev.wr_time]
  · rfl
theorem Dev.time_heard' (d : Dev) (q : Rcp) : (d.heard q).time = d.time := by
  unfold Dev.heard; split
  · rfl
  · rw [Dev.time_confirmMg', Dev.time_mgAccept', Dev.setSession_time]
@[simp] theorem Dev.time_atBody (d : Dev) (q : Rcp) : (d.atBody q).time = d.time := by
  unfold Dev.atBody; rw [Dev.time_heard', Dev.time_mgRx', Dev.elapse_time]
theorem Dev.time_sendOn' (d : Dev) (via : Nat) (e : Emission) : (d.sendOn via e).time = d.time := by
  unfold Dev.sendOn Dev.sat; split <;> rw [Dev.emit_time, Dev.wr_time]
@[simp] theorem Dev.time_answer (d : Dev) (q : Rcp) (r : Reply) : (d.answer q r).time = d.time := by
  unfold Dev.answer; split
  · rw [Dev.setSession_time]
  · rw [Dev.time_sendOn', Dev.setSession_time]

theorem Dev.ref_coreFrame (d : Dev) (p : Nat) : (d.coreFrame p).ref = d.ref := by
  have e : ∀ (x : Dev) (n : NMap NetPortSt), ({ x with netPort := n } : Dev).ref = x.ref := fun _ _ => rfl
  rw [Dev.coreFrame, e]; split <;> simp only [Dev.sat, Dev.wr_ref]
theorem Dev.ref_mgRx' (d : Dev) (via : Nat) : (d.mgRx via).ref = d.ref := by
  rw [Dev.mgRx]; split
  · rfl
  · split
    · exact Dev.wr_ref ..
    · rw [Dev.ref_coreFrame, Dev.sat, Dev.wr_ref]
theorem Dev.ref_confirmMg' (d : Dev) : d.confirmMg.ref = d.ref := by
  unfold Dev.confirmMg Dev.flag; split
  · rw [Dev.wr_ref, Dev.wr_ref]
  · rfl
theorem Dev.ref_mgAccept' (d : Dev) (via : Nat) : (d.mgAccept via).ref = d.ref := by
  unfold Dev.mgAccept Dev.sat; split
  · rw [Dev.wr_ref]
  · rfl
theorem Dev.ref_heard' (d : Dev) (q : Rcp) : (d.heard q).ref = d.ref := by
  unfold Dev.heard; split
  · rfl
  · rw [Dev.ref_confirmMg', Dev.ref_mgAccept', Dev.setSession_ref]
@[simp] theorem Dev.ref_atBody (d : Dev) (q : Rcp) : (d.atBody q).ref = d.ref := by
  unfold Dev.atBody; rw [Dev.ref_heard', Dev.ref_mgRx', Dev.elapse_ref]
theorem Dev.ref_sendOn' (d : Dev) (via : Nat) (e : Emission) : (d.sendOn via e).ref = d.ref := by
  unfold Dev.sendOn Dev.sat; split <;> rw [Dev.emit_ref, Dev.wr_ref]
@[simp] theorem Dev.ref_answer (d : Dev) (q : Rcp) (r : Reply) : (d.answer q r).ref = d.ref := by
  unfold Dev.answer; split
  · rw [Dev.setSession_ref]
  · rw [Dev.ref_sendOn', Dev.setSession_ref]

theorem Dev.dpll_coreFrame (d : Dev) (p : Nat) : (d.coreFrame p).dpll = d.dpll := by
  have e : ∀ (x : Dev) (n : NMap NetPortSt), ({ x with netPort := n } : Dev).dpll = x.dpll := fun _ _ => rfl
  rw [Dev.coreFrame, e]; split <;> simp only [Dev.sat, Dev.wr_dpll]
theorem Dev.dpll_mgRx' (d : Dev) (via : Nat) : (d.mgRx via).dpll = d.dpll := by
  rw [Dev.mgRx]; split
  · rfl
  · split
    · exact Dev.wr_dpll ..
    · rw [Dev.dpll_coreFrame, Dev.sat, Dev.wr_dpll]
theorem Dev.dpll_confirmMg' (d : Dev) : d.confirmMg.dpll = d.dpll := by
  unfold Dev.confirmMg Dev.flag; split
  · rw [Dev.wr_dpll, Dev.wr_dpll]
  · rfl
theorem Dev.dpll_mgAccept' (d : Dev) (via : Nat) : (d.mgAccept via).dpll = d.dpll := by
  unfold Dev.mgAccept Dev.sat; split
  · rw [Dev.wr_dpll]
  · rfl
theorem Dev.dpll_heard' (d : Dev) (q : Rcp) : (d.heard q).dpll = d.dpll := by
  unfold Dev.heard; split
  · rfl
  · rw [Dev.dpll_confirmMg', Dev.dpll_mgAccept', Dev.setSession_dpll]
@[simp] theorem Dev.dpll_atBody (d : Dev) (q : Rcp) : (d.atBody q).dpll = d.dpll := by
  unfold Dev.atBody; rw [Dev.dpll_heard', Dev.dpll_mgRx', Dev.elapse_dpll]
theorem Dev.dpll_sendOn' (d : Dev) (via : Nat) (e : Emission) : (d.sendOn via e).dpll = d.dpll := by
  unfold Dev.sendOn Dev.sat; split <;> rw [Dev.emit_dpll, Dev.wr_dpll]
@[simp] theorem Dev.dpll_answer (d : Dev) (q : Rcp) (r : Reply) : (d.answer q r).dpll = d.dpll := by
  unfold Dev.answer; split
  · rw [Dev.setSession_dpll]
  · rw [Dev.dpll_sendOn', Dev.setSession_dpll]

theorem Dev.tile_coreFrame (d : Dev) (p : Nat) : (d.coreFrame p).tile = d.tile := by
  have e : ∀ (x : Dev) (n : NMap NetPortSt), ({ x with netPort := n } : Dev).tile = x.tile := fun _ _ => rfl
  rw [Dev.coreFrame, e]; split <;> simp only [Dev.sat, Dev.wr_tile]
theorem Dev.tile_mgRx' (d : Dev) (via : Nat) : (d.mgRx via).tile = d.tile := by
  rw [Dev.mgRx]; split
  · rfl
  · split
    · exact Dev.wr_tile ..
    · rw [Dev.tile_coreFrame, Dev.sat, Dev.wr_tile]
theorem Dev.tile_confirmMg' (d : Dev) : d.confirmMg.tile = d.tile := by
  unfold Dev.confirmMg Dev.flag; split
  · rw [Dev.wr_tile, Dev.wr_tile]
  · rfl
theorem Dev.tile_mgAccept' (d : Dev) (via : Nat) : (d.mgAccept via).tile = d.tile := by
  unfold Dev.mgAccept Dev.sat; split
  · rw [Dev.wr_tile]
  · rfl
theorem Dev.tile_heard' (d : Dev) (q : Rcp) : (d.heard q).tile = d.tile := by
  unfold Dev.heard; split
  · rfl
  · rw [Dev.tile_confirmMg', Dev.tile_mgAccept', Dev.setSession_tile]
@[simp] theorem Dev.tile_atBody (d : Dev) (q : Rcp) : (d.atBody q).tile = d.tile := by
  unfold Dev.atBody; rw [Dev.tile_heard', Dev.tile_mgRx', Dev.elapse_tile]
theorem Dev.tile_sendOn' (d : Dev) (via : Nat) (e : Emission) : (d.sendOn via e).tile = d.tile := by
  unfold Dev.sendOn Dev.sat; split <;> rw [Dev.emit_tile, Dev.wr_tile]
@[simp] theorem Dev.tile_answer (d : Dev) (q : Rcp) (r : Reply) : (d.answer q r).tile = d.tile := by
  unfold Dev.answer; split
  · rw [Dev.setSession_tile]
  · rw [Dev.tile_sendOn', Dev.setSession_tile]

theorem Dev.tileRestore_coreFrame (d : Dev) (p : Nat) : (d.coreFrame p).tileRestore = d.tileRestore := by
  have e : ∀ (x : Dev) (n : NMap NetPortSt), ({ x with netPort := n } : Dev).tileRestore = x.tileRestore := fun _ _ => rfl
  rw [Dev.coreFrame, e]; split <;> simp only [Dev.sat, Dev.wr_tileRestore]
theorem Dev.tileRestore_mgRx' (d : Dev) (via : Nat) : (d.mgRx via).tileRestore = d.tileRestore := by
  rw [Dev.mgRx]; split
  · rfl
  · split
    · exact Dev.wr_tileRestore ..
    · rw [Dev.tileRestore_coreFrame, Dev.sat, Dev.wr_tileRestore]
theorem Dev.tileRestore_confirmMg' (d : Dev) : d.confirmMg.tileRestore = d.tileRestore := by
  unfold Dev.confirmMg Dev.flag; split
  · rw [Dev.wr_tileRestore, Dev.wr_tileRestore]
  · rfl
theorem Dev.tileRestore_mgAccept' (d : Dev) (via : Nat) : (d.mgAccept via).tileRestore = d.tileRestore := by
  unfold Dev.mgAccept Dev.sat; split
  · rw [Dev.wr_tileRestore]
  · rfl
theorem Dev.tileRestore_heard' (d : Dev) (q : Rcp) : (d.heard q).tileRestore = d.tileRestore := by
  unfold Dev.heard; split
  · rfl
  · rw [Dev.tileRestore_confirmMg', Dev.tileRestore_mgAccept', Dev.setSession_tileRestore]
@[simp] theorem Dev.tileRestore_atBody (d : Dev) (q : Rcp) : (d.atBody q).tileRestore = d.tileRestore := by
  unfold Dev.atBody; rw [Dev.tileRestore_heard', Dev.tileRestore_mgRx', Dev.elapse_tileRestore]
theorem Dev.tileRestore_sendOn' (d : Dev) (via : Nat) (e : Emission) : (d.sendOn via e).tileRestore = d.tileRestore := by
  unfold Dev.sendOn Dev.sat; split <;> rw [Dev.emit_tileRestore, Dev.wr_tileRestore]
@[simp] theorem Dev.tileRestore_answer (d : Dev) (q : Rcp) (r : Reply) : (d.answer q r).tileRestore = d.tileRestore := by
  unfold Dev.answer; split
  · rw [Dev.setSession_tileRestore]
  · rw [Dev.tileRestore_sendOn', Dev.setSession_tileRestore]

theorem Dev.tileAgain_coreFrame (d : Dev) (p : Nat) : (d.coreFrame p).tileAgain = d.tileAgain := by
  have e : ∀ (x : Dev) (n : NMap NetPortSt), ({ x with netPort := n } : Dev).tileAgain = x.tileAgain := fun _ _ => rfl
  rw [Dev.coreFrame, e]; split <;> simp only [Dev.sat, Dev.wr_tileAgain]
theorem Dev.tileAgain_mgRx' (d : Dev) (via : Nat) : (d.mgRx via).tileAgain = d.tileAgain := by
  rw [Dev.mgRx]; split
  · rfl
  · split
    · exact Dev.wr_tileAgain ..
    · rw [Dev.tileAgain_coreFrame, Dev.sat, Dev.wr_tileAgain]
theorem Dev.tileAgain_confirmMg' (d : Dev) : d.confirmMg.tileAgain = d.tileAgain := by
  unfold Dev.confirmMg Dev.flag; split
  · rw [Dev.wr_tileAgain, Dev.wr_tileAgain]
  · rfl
theorem Dev.tileAgain_mgAccept' (d : Dev) (via : Nat) : (d.mgAccept via).tileAgain = d.tileAgain := by
  unfold Dev.mgAccept Dev.sat; split
  · rw [Dev.wr_tileAgain]
  · rfl
theorem Dev.tileAgain_heard' (d : Dev) (q : Rcp) : (d.heard q).tileAgain = d.tileAgain := by
  unfold Dev.heard; split
  · rfl
  · rw [Dev.tileAgain_confirmMg', Dev.tileAgain_mgAccept', Dev.setSession_tileAgain]
@[simp] theorem Dev.tileAgain_atBody (d : Dev) (q : Rcp) : (d.atBody q).tileAgain = d.tileAgain := by
  unfold Dev.atBody; rw [Dev.tileAgain_heard', Dev.tileAgain_mgRx', Dev.elapse_tileAgain]
theorem Dev.tileAgain_sendOn' (d : Dev) (via : Nat) (e : Emission) : (d.sendOn via e).tileAgain = d.tileAgain := by
  unfold Dev.sendOn Dev.sat; split <;> rw [Dev.emit_tileAgain, Dev.wr_tileAgain]
@[simp] theorem Dev.tileAgain_answer (d : Dev) (q : Rcp) (r : Reply) : (d.answer q r).tileAgain = d.tileAgain := by
  unfold Dev.answer; split
  · rw [Dev.setSession_tileAgain]
  · rw [Dev.tileAgain_sendOn', Dev.setSession_tileAgain]

theorem Dev.layer_coreFrame (d : Dev) (p : Nat) : (d.coreFrame p).layer = d.layer := by
  have e : ∀ (x : Dev) (n : NMap NetPortSt), ({ x with netPort := n } : Dev).layer = x.layer := fun _ _ => rfl
  rw [Dev.coreFrame, e]; split <;> simp only [Dev.sat, Dev.wr_layer]
theorem Dev.layer_mgRx' (d : Dev) (via : Nat) : (d.mgRx via).layer = d.layer := by
  rw [Dev.mgRx]; split
  · rfl
  · split
    · exact Dev.wr_layer ..
    · rw [Dev.layer_coreFrame, Dev.sat, Dev.wr_layer]
theorem Dev.layer_confirmMg' (d : Dev) : d.confirmMg.layer = d.layer := by
  unfold Dev.confirmMg Dev.flag; split
  · rw [Dev.wr_layer, Dev.wr_layer]
  · rfl
theorem Dev.layer_mgAccept' (d : Dev) (via : Nat) : (d.mgAccept via).layer = d.layer := by
  unfold Dev.mgAccept Dev.sat; split
  · rw [Dev.wr_layer]
  · rfl
theorem Dev.layer_heard' (d : Dev) (q : Rcp) : (d.heard q).layer = d.layer := by
  unfold Dev.heard; split
  · rfl
  · rw [Dev.layer_confirmMg', Dev.layer_mgAccept', Dev.setSession_layer]
@[simp] theorem Dev.layer_atBody (d : Dev) (q : Rcp) : (d.atBody q).layer = d.layer := by
  unfold Dev.atBody; rw [Dev.layer_heard', Dev.layer_mgRx', Dev.elapse_layer]
theorem Dev.layer_sendOn' (d : Dev) (via : Nat) (e : Emission) : (d.sendOn via e).layer = d.layer := by
  unfold Dev.sendOn Dev.sat; split <;> rw [Dev.emit_layer, Dev.wr_layer]
@[simp] theorem Dev.layer_answer (d : Dev) (q : Rcp) (r : Reply) : (d.answer q r).layer = d.layer := by
  unfold Dev.answer; split
  · rw [Dev.setSession_layer]
  · rw [Dev.layer_sendOn', Dev.setSession_layer]

theorem Dev.head_coreFrame (d : Dev) (p : Nat) : (d.coreFrame p).head = d.head := by
  have e : ∀ (x : Dev) (n : NMap NetPortSt), ({ x with netPort := n } : Dev).head = x.head := fun _ _ => rfl
  rw [Dev.coreFrame, e]; split <;> simp only [Dev.sat, Dev.wr_head]
theorem Dev.head_mgRx' (d : Dev) (via : Nat) : (d.mgRx via).head = d.head := by
  rw [Dev.mgRx]; split
  · rfl
  · split
    · exact Dev.wr_head ..
    · rw [Dev.head_coreFrame, Dev.sat, Dev.wr_head]
theorem Dev.head_confirmMg' (d : Dev) : d.confirmMg.head = d.head := by
  unfold Dev.confirmMg Dev.flag; split
  · rw [Dev.wr_head, Dev.wr_head]
  · rfl
theorem Dev.head_mgAccept' (d : Dev) (via : Nat) : (d.mgAccept via).head = d.head := by
  unfold Dev.mgAccept Dev.sat; split
  · rw [Dev.wr_head]
  · rfl
theorem Dev.head_heard' (d : Dev) (q : Rcp) : (d.heard q).head = d.head := by
  unfold Dev.heard; split
  · rfl
  · rw [Dev.head_confirmMg', Dev.head_mgAccept', Dev.setSession_head]
@[simp] theorem Dev.head_atBody (d : Dev) (q : Rcp) : (d.atBody q).head = d.head := by
  unfold Dev.atBody; rw [Dev.head_heard', Dev.head_mgRx', Dev.elapse_head]
theorem Dev.head_sendOn' (d : Dev) (via : Nat) (e : Emission) : (d.sendOn via e).head = d.head := by
  unfold Dev.sendOn Dev.sat; split <;> rw [Dev.emit_head, Dev.wr_head]
@[simp] theorem Dev.head_answer (d : Dev) (q : Rcp) (r : Reply) : (d.answer q r).head = d.head := by
  unfold Dev.answer; split
  · rw [Dev.setSession_head]
  · rw [Dev.head_sendOn', Dev.setSession_head]

theorem Dev.flip_coreFrame (d : Dev) (p : Nat) : (d.coreFrame p).flip = d.flip := by
  have e : ∀ (x : Dev) (n : NMap NetPortSt), ({ x with netPort := n } : Dev).flip = x.flip := fun _ _ => rfl
  rw [Dev.coreFrame, e]; split <;> simp only [Dev.sat, Dev.wr_flip]
theorem Dev.flip_mgRx' (d : Dev) (via : Nat) : (d.mgRx via).flip = d.flip := by
  rw [Dev.mgRx]; split
  · rfl
  · split
    · exact Dev.wr_flip ..
    · rw [Dev.flip_coreFrame, Dev.sat, Dev.wr_flip]
theorem Dev.flip_confirmMg' (d : Dev) : d.confirmMg.flip = d.flip := by
  unfold Dev.confirmMg Dev.flag; split
  · rw [Dev.wr_flip, Dev.wr_flip]
  · rfl
theorem Dev.flip_mgAccept' (d : Dev) (via : Nat) : (d.mgAccept via).flip = d.flip := by
  unfold Dev.mgAccept Dev.sat; split
  · rw [Dev.wr_flip]
  · rfl
theorem Dev.flip_heard' (d : Dev) (q : Rcp) : (d.heard q).flip = d.flip := by
  unfold Dev.heard; split
  · rfl
  · rw [Dev.flip_confirmMg', Dev.flip_mgAccept', Dev.setSession_flip]
@[simp] theorem Dev.flip_atBody (d : Dev) (q : Rcp) : (d.atBody q).flip = d.flip := by
  unfold Dev.atBody; rw [Dev.flip_heard', Dev.flip_mgRx', Dev.elapse_flip]
theorem Dev.flip_sendOn' (d : Dev) (via : Nat) (e : Emission) : (d.sendOn via e).flip = d.flip := by
  unfold Dev.sendOn Dev.sat; split <;> rw [Dev.emit_flip, Dev.wr_flip]
@[simp] theorem Dev.flip_answer (d : Dev) (q : Rcp) (r : Reply) : (d.answer q r).flip = d.flip := by
  unfold Dev.answer; split
  · rw [Dev.setSession_flip]
  · rw [Dev.flip_sendOn', Dev.setSession_flip]

theorem Dev.memQ_coreFrame (d : Dev) (p : Nat) : (d.coreFrame p).memQ = d.memQ := by
  have e : ∀ (x : Dev) (n : NMap NetPortSt), ({ x with netPort := n } : Dev).memQ = x.memQ := fun _ _ => rfl
  rw [Dev.coreFrame, e]; split <;> simp only [Dev.sat, Dev.wr_memQ]
theorem Dev.memQ_mgRx' (d : Dev) (via : Nat) : (d.mgRx via).memQ = d.memQ := by
  rw [Dev.mgRx]; split
  · rfl
  · split
    · exact Dev.wr_memQ ..
    · rw [Dev.memQ_coreFrame, Dev.sat, Dev.wr_memQ]
theorem Dev.memQ_confirmMg' (d : Dev) : d.confirmMg.memQ = d.memQ := by
  unfold Dev.confirmMg Dev.flag; split
  · rw [Dev.wr_memQ, Dev.wr_memQ]
  · rfl
theorem Dev.memQ_mgAccept' (d : Dev) (via : Nat) : (d.mgAccept via).memQ = d.memQ := by
  unfold Dev.mgAccept Dev.sat; split
  · rw [Dev.wr_memQ]
  · rfl
theorem Dev.memQ_heard' (d : Dev) (q : Rcp) : (d.heard q).memQ = d.memQ := by
  unfold Dev.heard; split
  · rfl
  · rw [Dev.memQ_confirmMg', Dev.memQ_mgAccept', Dev.setSession_memQ]
@[simp] theorem Dev.memQ_atBody (d : Dev) (q : Rcp) : (d.atBody q).memQ = d.memQ := by
  unfold Dev.atBody; rw [Dev.memQ_heard', Dev.memQ_mgRx', Dev.elapse_memQ]
theorem Dev.memQ_sendOn' (d : Dev) (via : Nat) (e : Emission) : (d.sendOn via e).memQ = d.memQ := by
  unfold Dev.sendOn Dev.sat; split <;> rw [Dev.emit_memQ, Dev.wr_memQ]
@[simp] theorem Dev.memQ_answer (d : Dev) (q : Rcp) (r : Reply) : (d.answer q r).memQ = d.memQ := by
  unfold Dev.answer; split
  · rw [Dev.setSession_memQ]
  · rw [Dev.memQ_sendOn', Dev.setSession_memQ]

theorem Dev.audio_coreFrame (d : Dev) (p : Nat) : (d.coreFrame p).audio = d.audio := by
  have e : ∀ (x : Dev) (n : NMap NetPortSt), ({ x with netPort := n } : Dev).audio = x.audio := fun _ _ => rfl
  rw [Dev.coreFrame, e]; split <;> simp only [Dev.sat, Dev.wr_audio]
theorem Dev.audio_mgRx' (d : Dev) (via : Nat) : (d.mgRx via).audio = d.audio := by
  rw [Dev.mgRx]; split
  · rfl
  · split
    · exact Dev.wr_audio ..
    · rw [Dev.audio_coreFrame, Dev.sat, Dev.wr_audio]
theorem Dev.audio_confirmMg' (d : Dev) : d.confirmMg.audio = d.audio := by
  unfold Dev.confirmMg Dev.flag; split
  · rw [Dev.wr_audio, Dev.wr_audio]
  · rfl
theorem Dev.audio_mgAccept' (d : Dev) (via : Nat) : (d.mgAccept via).audio = d.audio := by
  unfold Dev.mgAccept Dev.sat; split
  · rw [Dev.wr_audio]
  · rfl
theorem Dev.audio_heard' (d : Dev) (q : Rcp) : (d.heard q).audio = d.audio := by
  unfold Dev.heard; split
  · rfl
  · rw [Dev.audio_confirmMg', Dev.audio_mgAccept', Dev.setSession_audio]
@[simp] theorem Dev.audio_atBody (d : Dev) (q : Rcp) : (d.atBody q).audio = d.audio := by
  unfold Dev.atBody; rw [Dev.audio_heard', Dev.audio_mgRx', Dev.elapse_audio]
theorem Dev.audio_sendOn' (d : Dev) (via : Nat) (e : Emission) : (d.sendOn via e).audio = d.audio := by
  unfold Dev.sendOn Dev.sat; split <;> rw [Dev.emit_audio, Dev.wr_audio]
@[simp] theorem Dev.audio_answer (d : Dev) (q : Rcp) (r : Reply) : (d.answer q r).audio = d.audio := by
  unfold Dev.answer; split
  · rw [Dev.setSession_audio]
  · rw [Dev.audio_sendOn', Dev.setSession_audio]

theorem Dev.pool_coreFrame (d : Dev) (p : Nat) : (d.coreFrame p).pool = d.pool := by
  have e : ∀ (x : Dev) (n : NMap NetPortSt), ({ x with netPort := n } : Dev).pool = x.pool := fun _ _ => rfl
  rw [Dev.coreFrame, e]; split <;> simp only [Dev.sat, Dev.wr_pool]
theorem Dev.pool_mgRx' (d : Dev) (via : Nat) : (d.mgRx via).pool = d.pool := by
  rw [Dev.mgRx]; split
  · rfl
  · split
    · exact Dev.wr_pool ..
    · rw [Dev.pool_coreFrame, Dev.sat, Dev.wr_pool]
theorem Dev.pool_confirmMg' (d : Dev) : d.confirmMg.pool = d.pool := by
  unfold Dev.confirmMg Dev.flag; split
  · rw [Dev.wr_pool, Dev.wr_pool]
  · rfl
theorem Dev.pool_mgAccept' (d : Dev) (via : Nat) : (d.mgAccept via).pool = d.pool := by
  unfold Dev.mgAccept Dev.sat; split
  · rw [Dev.wr_pool]
  · rfl
theorem Dev.pool_heard' (d : Dev) (q : Rcp) : (d.heard q).pool = d.pool := by
  unfold Dev.heard; split
  · rfl
  · rw [Dev.pool_confirmMg', Dev.pool_mgAccept', Dev.setSession_pool]
@[simp] theorem Dev.pool_atBody (d : Dev) (q : Rcp) : (d.atBody q).pool = d.pool := by
  unfold Dev.atBody; rw [Dev.pool_heard', Dev.pool_mgRx', Dev.elapse_pool]
theorem Dev.pool_sendOn' (d : Dev) (via : Nat) (e : Emission) : (d.sendOn via e).pool = d.pool := by
  unfold Dev.sendOn Dev.sat; split <;> rw [Dev.emit_pool, Dev.wr_pool]
@[simp] theorem Dev.pool_answer (d : Dev) (q : Rcp) (r : Reply) : (d.answer q r).pool = d.pool := by
  unfold Dev.answer; split
  · rw [Dev.setSession_pool]
  · rw [Dev.pool_sendOn', Dev.setSession_pool]

theorem Dev.xp_coreFrame (d : Dev) (p : Nat) : (d.coreFrame p).xp = d.xp := by
  have e : ∀ (x : Dev) (n : NMap NetPortSt), ({ x with netPort := n } : Dev).xp = x.xp := fun _ _ => rfl
  rw [Dev.coreFrame, e]; split <;> simp only [Dev.sat, Dev.wr_xp]
theorem Dev.xp_mgRx' (d : Dev) (via : Nat) : (d.mgRx via).xp = d.xp := by
  rw [Dev.mgRx]; split
  · rfl
  · split
    · exact Dev.wr_xp ..
    · rw [Dev.xp_coreFrame, Dev.sat, Dev.wr_xp]
theorem Dev.xp_confirmMg' (d : Dev) : d.confirmMg.xp = d.xp := by
  unfold Dev.confirmMg Dev.flag; split
  · rw [Dev.wr_xp, Dev.wr_xp]
  · rfl
theorem Dev.xp_mgAccept' (d : Dev) (via : Nat) : (d.mgAccept via).xp = d.xp := by
  unfold Dev.mgAccept Dev.sat; split
  · rw [Dev.wr_xp]
  · rfl
theorem Dev.xp_heard' (d : Dev) (q : Rcp) : (d.heard q).xp = d.xp := by
  unfold Dev.heard; split
  · rfl
  · rw [Dev.xp_confirmMg', Dev.xp_mgAccept', Dev.setSession_xp]
@[simp] theorem Dev.xp_atBody (d : Dev) (q : Rcp) : (d.atBody q).xp = d.xp := by
  unfold Dev.atBody; rw [Dev.xp_heard', Dev.xp_mgRx', Dev.elapse_xp]
theorem Dev.xp_sendOn' (d : Dev) (via : Nat) (e : Emission) : (d.sendOn via e).xp = d.xp := by
  unfold Dev.sendOn Dev.sat; split <;> rw [Dev.emit_xp, Dev.wr_xp]
@[simp] theorem Dev.xp_answer (d : Dev) (q : Rcp) (r : Reply) : (d.answer q r).xp = d.xp := by
  unfold Dev.answer; split
  · rw [Dev.setSession_xp]
  · rw [Dev.xp_sendOn', Dev.setSession_xp]

theorem Dev.takeLog_coreFrame (d : Dev) (p : Nat) : (d.coreFrame p).takeLog = d.takeLog := by
  have e : ∀ (x : Dev) (n : NMap NetPortSt), ({ x with netPort := n } : Dev).takeLog = x.takeLog := fun _ _ => rfl
  rw [Dev.coreFrame, e]; split <;> simp only [Dev.sat, Dev.wr_takeLog]
theorem Dev.takeLog_mgRx' (d : Dev) (via : Nat) : (d.mgRx via).takeLog = d.takeLog := by
  rw [Dev.mgRx]; split
  · rfl
  · split
    · exact Dev.wr_takeLog ..
    · rw [Dev.takeLog_coreFrame, Dev.sat, Dev.wr_takeLog]
theorem Dev.takeLog_confirmMg' (d : Dev) : d.confirmMg.takeLog = d.takeLog := by
  unfold Dev.confirmMg Dev.flag; split
  · rw [Dev.wr_takeLog, Dev.wr_takeLog]
  · rfl
theorem Dev.takeLog_mgAccept' (d : Dev) (via : Nat) : (d.mgAccept via).takeLog = d.takeLog := by
  unfold Dev.mgAccept Dev.sat; split
  · rw [Dev.wr_takeLog]
  · rfl
theorem Dev.takeLog_heard' (d : Dev) (q : Rcp) : (d.heard q).takeLog = d.takeLog := by
  unfold Dev.heard; split
  · rfl
  · rw [Dev.takeLog_confirmMg', Dev.takeLog_mgAccept', Dev.setSession_takeLog]
@[simp] theorem Dev.takeLog_atBody (d : Dev) (q : Rcp) : (d.atBody q).takeLog = d.takeLog := by
  unfold Dev.atBody; rw [Dev.takeLog_heard', Dev.takeLog_mgRx', Dev.elapse_takeLog]
theorem Dev.takeLog_sendOn' (d : Dev) (via : Nat) (e : Emission) : (d.sendOn via e).takeLog = d.takeLog := by
  unfold Dev.sendOn Dev.sat; split <;> rw [Dev.emit_takeLog, Dev.wr_takeLog]
@[simp] theorem Dev.takeLog_answer (d : Dev) (q : Rcp) (r : Reply) : (d.answer q r).takeLog = d.takeLog := by
  unfold Dev.answer; split
  · rw [Dev.setSession_takeLog]
  · rw [Dev.takeLog_sendOn', Dev.setSession_takeLog]

theorem Dev.dwl_coreFrame (d : Dev) (p : Nat) : (d.coreFrame p).dwl = d.dwl := by
  have e : ∀ (x : Dev) (n : NMap NetPortSt), ({ x with netPort := n } : Dev).dwl = x.dwl := fun _ _ => rfl
  rw [Dev.coreFrame, e]; split <;> simp only [Dev.sat, Dev.wr_dwl]
theorem Dev.dwl_mgRx' (d : Dev) (via : Nat) : (d.mgRx via).dwl = d.dwl := by
  rw [Dev.mgRx]; split
  · rfl
  · split
    · exact Dev.wr_dwl ..
    · rw [Dev.dwl_coreFrame, Dev.sat, Dev.wr_dwl]
theorem Dev.dwl_confirmMg' (d : Dev) : d.confirmMg.dwl = d.dwl := by
  unfold Dev.confirmMg Dev.flag; split
  · rw [Dev.wr_dwl, Dev.wr_dwl]
  · rfl
theorem Dev.dwl_mgAccept' (d : Dev) (via : Nat) : (d.mgAccept via).dwl = d.dwl := by
  unfold Dev.mgAccept Dev.sat; split
  · rw [Dev.wr_dwl]
  · rfl
theorem Dev.dwl_heard' (d : Dev) (q : Rcp) : (d.heard q).dwl = d.dwl := by
  unfold Dev.heard; split
  · rfl
  · rw [Dev.dwl_confirmMg', Dev.dwl_mgAccept', Dev.setSession_dwl]
@[simp] theorem Dev.dwl_atBody (d : Dev) (q : Rcp) : (d.atBody q).dwl = d.dwl := by
  unfold Dev.atBody; rw [Dev.dwl_heard', Dev.dwl_mgRx', Dev.elapse_dwl]
theorem Dev.dwl_sendOn' (d : Dev) (via : Nat) (e : Emission) : (d.sendOn via e).dwl = d.dwl := by
  unfold Dev.sendOn Dev.sat; split <;> rw [Dev.emit_dwl, Dev.wr_dwl]
@[simp] theorem Dev.dwl_answer (d : Dev) (q : Rcp) (r : Reply) : (d.answer q r).dwl = d.dwl := by
  unfold Dev.answer; split
  · rw [Dev.setSession_dwl]
  · rw [Dev.dwl_sendOn', Dev.setSession_dwl]

theorem Dev.phy_coreFrame (d : Dev) (p : Nat) : (d.coreFrame p).phy = d.phy := by
  have e : ∀ (x : Dev) (n : NMap NetPortSt), ({ x with netPort := n } : Dev).phy = x.phy := fun _ _ => rfl
  rw [Dev.coreFrame, e]; split <;> simp only [Dev.sat, Dev.wr_phy]
theorem Dev.phy_mgRx' (d : Dev) (via : Nat) : (d.mgRx via).phy = d.phy := by
  rw [Dev.mgRx]; split
  · rfl
  · split
    · exact Dev.wr_phy ..
    · rw [Dev.phy_coreFrame, Dev.sat, Dev.wr_phy]
theorem Dev.phy_confirmMg' (d : Dev) : d.confirmMg.phy = d.phy := by
  unfold Dev.confirmMg Dev.flag; split
  · rw [Dev.wr_phy, Dev.wr_phy]
  · rfl
theorem Dev.phy_mgAccept' (d : Dev) (via : Nat) : (d.mgAccept via).phy = d.phy := by
  unfold Dev.mgAccept Dev.sat; split
  · rw [Dev.wr_phy]
  · rfl
theorem Dev.phy_heard' (d : Dev) (q : Rcp) : (d.heard q).phy = d.phy := by
  unfold Dev.heard; split
  · rfl
  · rw [Dev.phy_confirmMg', Dev.phy_mgAccept', Dev.setSession_phy]
@[simp] theorem Dev.phy_atBody (d : Dev) (q : Rcp) : (d.atBody q).phy = d.phy := by
  unfold Dev.atBody; rw [Dev.phy_heard', Dev.phy_mgRx', Dev.elapse_phy]
theorem Dev.phy_sendOn' (d : Dev) (via : Nat) (e : Emission) : (d.sendOn via e).phy = d.phy := by
  unfold Dev.sendOn Dev.sat; split <;> rw [Dev.emit_phy, Dev.wr_phy]
@[simp] theorem Dev.phy_answer (d : Dev) (q : Rcp) (r : Reply) : (d.answer q r).phy = d.phy := by
  unfold Dev.answer; split
  · rw [Dev.setSession_phy]
  · rw [Dev.phy_sendOn', Dev.setSession_phy]

theorem Dev.sec_mgRx' (d : Dev) (via : Nat) : (d.mgRx via).sec = d.sec := by
  rw [Dev.mgRx]; split
  · rfl
  · split
    · exact Dev.wr_sec ..
    · rw [Dev.sec_coreFrame, Dev.sat, Dev.wr_sec]
theorem Dev.sec_confirmMg' (d : Dev) : d.confirmMg.sec = d.sec := by
  unfold Dev.confirmMg Dev.flag; split
  · rw [Dev.wr_sec, Dev.wr_sec]
  · rfl
theorem Dev.sec_mgAccept' (d : Dev) (via : Nat) : (d.mgAccept via).sec = d.sec := by
  unfold Dev.mgAccept Dev.sat; split
  · rw [Dev.wr_sec]
  · rfl
theorem Dev.sec_heard' (d : Dev) (q : Rcp) : (d.heard q).sec = d.sec := by
  unfold Dev.heard; split
  · rfl
  · rw [Dev.sec_confirmMg', Dev.sec_mgAccept', Dev.setSession_sec]
@[simp] theorem Dev.sec_atBody (d : Dev) (q : Rcp) : (d.atBody q).sec = d.sec := by
  unfold Dev.atBody; rw [Dev.sec_heard', Dev.sec_mgRx', Dev.elapse_sec]
theorem Dev.sec_sendOn' (d : Dev) (via : Nat) (e : Emission) : (d.sendOn via e).sec = d.sec := by
  unfold Dev.sendOn Dev.sat; split <;> rw [Dev.emit_sec, Dev.wr_sec]
@[simp] theorem Dev.sec_answer (d : Dev) (q : Rcp) (r : Reply) : (d.answer q r).sec = d.sec := by
  unfold Dev.answer; split
  · rw [Dev.setSession_sec]
  · rw [Dev.sec_sendOn', Dev.setSession_sec]

theorem Dev.pwr_coreFrame (d : Dev) (p : Nat) : (d.coreFrame p).pwr = d.pwr := by
  have e : ∀ (x : Dev) (n : NMap NetPortSt), ({ x with netPort := n } : Dev).pwr = x.pwr := fun _ _ => rfl
  rw [Dev.coreFrame, e]; split <;> simp only [Dev.sat, Dev.wr_pwr]
theorem Dev.pwr_mgRx' (d : Dev) (via : Nat) : (d.mgRx via).pwr = d.pwr := by
  rw [Dev.mgRx]; split
  · rfl
  · split
    · exact Dev.wr_pwr ..
    · rw [Dev.pwr_coreFrame, Dev.sat, Dev.wr_pwr]
theorem Dev.pwr_confirmMg' (d : Dev) : d.confirmMg.pwr = d.pwr := by
  unfold Dev.confirmMg Dev.flag; split
  · rw [Dev.wr_pwr, Dev.wr_pwr]
  · rfl
theorem Dev.pwr_mgAccept' (d : Dev) (via : Nat) : (d.mgAccept via).pwr = d.pwr := by
  unfold Dev.mgAccept Dev.sat; split
  · rw [Dev.wr_pwr]
  · rfl
theorem Dev.pwr_heard' (d : Dev) (q : Rcp) : (d.heard q).pwr = d.pwr := by
  unfold Dev.heard; split
  · rfl
  · rw [Dev.pwr_confirmMg', Dev.pwr_mgAccept', Dev.setSession_pwr]
@[simp] theorem Dev.pwr_atBody (d : Dev) (q : Rcp) : (d.atBody q).pwr = d.pwr := by
  unfold Dev.atBody; rw [Dev.pwr_heard', Dev.pwr_mgRx', Dev.elapse_pwr]
theorem Dev.pwr_sendOn' (d : Dev) (via : Nat) (e : Emission) : (d.sendOn via e).pwr = d.pwr := by
  unfold Dev.sendOn Dev.sat; split <;> rw [Dev.emit_pwr, Dev.wr_pwr]
@[simp] theorem Dev.pwr_answer (d : Dev) (q : Rcp) (r : Reply) : (d.answer q r).pwr = d.pwr := by
  unfold Dev.answer; split
  · rw [Dev.setSession_pwr]
  · rw [Dev.pwr_sendOn', Dev.setSession_pwr]

theorem Dev.bus_coreFrame (d : Dev) (p : Nat) : (d.coreFrame p).bus = d.bus := by
  have e : ∀ (x : Dev) (n : NMap NetPortSt), ({ x with netPort := n } : Dev).bus = x.bus := fun _ _ => rfl
  rw [Dev.coreFrame, e]; split <;> simp only [Dev.sat, Dev.wr_bus]
theorem Dev.bus_mgRx' (d : Dev) (via : Nat) : (d.mgRx via).bus = d.bus := by
  rw [Dev.mgRx]; split
  · rfl
  · split
    · exact Dev.wr_bus ..
    · rw [Dev.bus_coreFrame, Dev.sat, Dev.wr_bus]
theorem Dev.bus_confirmMg' (d : Dev) : d.confirmMg.bus = d.bus := by
  unfold Dev.confirmMg Dev.flag; split
  · rw [Dev.wr_bus, Dev.wr_bus]
  · rfl
theorem Dev.bus_mgAccept' (d : Dev) (via : Nat) : (d.mgAccept via).bus = d.bus := by
  unfold Dev.mgAccept Dev.sat; split
  · rw [Dev.wr_bus]
  · rfl
theorem Dev.bus_heard' (d : Dev) (q : Rcp) : (d.heard q).bus = d.bus := by
  unfold Dev.heard; split
  · rfl
  · rw [Dev.bus_confirmMg', Dev.bus_mgAccept', Dev.setSession_bus]
@[simp] theorem Dev.bus_atBody (d : Dev) (q : Rcp) : (d.atBody q).bus = d.bus := by
  unfold Dev.atBody; rw [Dev.bus_heard', Dev.bus_mgRx', Dev.elapse_bus]
theorem Dev.bus_sendOn' (d : Dev) (via : Nat) (e : Emission) : (d.sendOn via e).bus = d.bus := by
  unfold Dev.sendOn Dev.sat; split <;> rw [Dev.emit_bus, Dev.wr_bus]
@[simp] theorem Dev.bus_answer (d : Dev) (q : Rcp) (r : Reply) : (d.answer q r).bus = d.bus := by
  unfold Dev.answer; split
  · rw [Dev.setSession_bus]
  · rw [Dev.bus_sendOn', Dev.setSession_bus]

theorem Dev.rows_coreFrame (d : Dev) (p : Nat) : (d.coreFrame p).rows = d.rows := by
  have e : ∀ (x : Dev) (n : NMap NetPortSt), ({ x with netPort := n } : Dev).rows = x.rows := fun _ _ => rfl
  rw [Dev.coreFrame, e]; split <;> simp only [Dev.sat, Dev.wr_rows]
theorem Dev.rows_mgRx' (d : Dev) (via : Nat) : (d.mgRx via).rows = d.rows := by
  rw [Dev.mgRx]; split
  · rfl
  · split
    · exact Dev.wr_rows ..
    · rw [Dev.rows_coreFrame, Dev.sat, Dev.wr_rows]
theorem Dev.rows_confirmMg' (d : Dev) : d.confirmMg.rows = d.rows := by
  unfold Dev.confirmMg Dev.flag; split
  · rw [Dev.wr_rows, Dev.wr_rows]
  · rfl
theorem Dev.rows_mgAccept' (d : Dev) (via : Nat) : (d.mgAccept via).rows = d.rows := by
  unfold Dev.mgAccept Dev.sat; split
  · rw [Dev.wr_rows]
  · rfl
theorem Dev.rows_heard' (d : Dev) (q : Rcp) : (d.heard q).rows = d.rows := by
  unfold Dev.heard; split
  · rfl
  · rw [Dev.rows_confirmMg', Dev.rows_mgAccept', Dev.setSession_rows]
@[simp] theorem Dev.rows_atBody (d : Dev) (q : Rcp) : (d.atBody q).rows = d.rows := by
  unfold Dev.atBody; rw [Dev.rows_heard', Dev.rows_mgRx', Dev.elapse_rows]
theorem Dev.rows_sendOn' (d : Dev) (via : Nat) (e : Emission) : (d.sendOn via e).rows = d.rows := by
  unfold Dev.sendOn Dev.sat; split <;> rw [Dev.emit_rows, Dev.wr_rows]
@[simp] theorem Dev.rows_answer (d : Dev) (q : Rcp) (r : Reply) : (d.answer q r).rows = d.rows := by
  unfold Dev.answer; split
  · rw [Dev.setSession_rows]
  · rw [Dev.rows_sendOn', Dev.setSession_rows]

theorem Dev.ring_coreFrame (d : Dev) (p : Nat) : (d.coreFrame p).ring = d.ring := by
  have e : ∀ (x : Dev) (n : NMap NetPortSt), ({ x with netPort := n } : Dev).ring = x.ring := fun _ _ => rfl
  rw [Dev.coreFrame, e]; split <;> simp only [Dev.sat, Dev.wr_ring]
theorem Dev.ring_mgRx' (d : Dev) (via : Nat) : (d.mgRx via).ring = d.ring := by
  rw [Dev.mgRx]; split
  · rfl
  · split
    · exact Dev.wr_ring ..
    · rw [Dev.ring_coreFrame, Dev.sat, Dev.wr_ring]
theorem Dev.ring_confirmMg' (d : Dev) : d.confirmMg.ring = d.ring := by
  unfold Dev.confirmMg Dev.flag; split
  · rw [Dev.wr_ring, Dev.wr_ring]
  · rfl
theorem Dev.ring_mgAccept' (d : Dev) (via : Nat) : (d.mgAccept via).ring = d.ring := by
  unfold Dev.mgAccept Dev.sat; split
  · rw [Dev.wr_ring]
  · rfl
theorem Dev.ring_heard' (d : Dev) (q : Rcp) : (d.heard q).ring = d.ring := by
  unfold Dev.heard; split
  · rfl
  · rw [Dev.ring_confirmMg', Dev.ring_mgAccept', Dev.setSession_ring]
@[simp] theorem Dev.ring_atBody (d : Dev) (q : Rcp) : (d.atBody q).ring = d.ring := by
  unfold Dev.atBody; rw [Dev.ring_heard', Dev.ring_mgRx', Dev.elapse_ring]
theorem Dev.ring_sendOn' (d : Dev) (via : Nat) (e : Emission) : (d.sendOn via e).ring = d.ring := by
  unfold Dev.sendOn Dev.sat; split <;> rw [Dev.emit_ring, Dev.wr_ring]
@[simp] theorem Dev.ring_answer (d : Dev) (q : Rcp) (r : Reply) : (d.answer q r).ring = d.ring := by
  unfold Dev.answer; split
  · rw [Dev.setSession_ring]
  · rw [Dev.ring_sendOn', Dev.setSession_ring]

theorem Dev.freeIdx_coreFrame (d : Dev) (p : Nat) : (d.coreFrame p).freeIdx = d.freeIdx := by
  have e : ∀ (x : Dev) (n : NMap NetPortSt), ({ x with netPort := n } : Dev).freeIdx = x.freeIdx := fun _ _ => rfl
  rw [Dev.coreFrame, e]; split <;> simp only [Dev.sat, Dev.wr_freeIdx]
theorem Dev.freeIdx_mgRx' (d : Dev) (via : Nat) : (d.mgRx via).freeIdx = d.freeIdx := by
  rw [Dev.mgRx]; split
  · rfl
  · split
    · exact Dev.wr_freeIdx ..
    · rw [Dev.freeIdx_coreFrame, Dev.sat, Dev.wr_freeIdx]
theorem Dev.freeIdx_confirmMg' (d : Dev) : d.confirmMg.freeIdx = d.freeIdx := by
  unfold Dev.confirmMg Dev.flag; split
  · rw [Dev.wr_freeIdx, Dev.wr_freeIdx]
  · rfl
theorem Dev.freeIdx_mgAccept' (d : Dev) (via : Nat) : (d.mgAccept via).freeIdx = d.freeIdx := by
  unfold Dev.mgAccept Dev.sat; split
  · rw [Dev.wr_freeIdx]
  · rfl
theorem Dev.freeIdx_heard' (d : Dev) (q : Rcp) : (d.heard q).freeIdx = d.freeIdx := by
  unfold Dev.heard; split
  · rfl
  · rw [Dev.freeIdx_confirmMg', Dev.freeIdx_mgAccept', Dev.setSession_freeIdx]
@[simp] theorem Dev.freeIdx_atBody (d : Dev) (q : Rcp) : (d.atBody q).freeIdx = d.freeIdx := by
  unfold Dev.atBody; rw [Dev.freeIdx_heard', Dev.freeIdx_mgRx', Dev.elapse_freeIdx]
theorem Dev.freeIdx_sendOn' (d : Dev) (via : Nat) (e : Emission) : (d.sendOn via e).freeIdx = d.freeIdx := by
  unfold Dev.sendOn Dev.sat; split <;> rw [Dev.emit_freeIdx, Dev.wr_freeIdx]
@[simp] theorem Dev.freeIdx_answer (d : Dev) (q : Rcp) (r : Reply) : (d.answer q r).freeIdx = d.freeIdx := by
  unfold Dev.answer; split
  · rw [Dev.setSession_freeIdx]
  · rw [Dev.freeIdx_sendOn', Dev.setSession_freeIdx]

/-- A field that no management counter shares reads, where the body starts, as before. -/
theorem Dev.rd_atBody (d : Dev) (q : Rcp) (g : Fld) (m : Nat) (h0 : offRx g = true)
    (h1 : Fld.apart D.MgCounters.RCP_FRAMES g = true) (h2 : Fld.apart D.MgStatus.CONFIRM_PENDING g = true) : (d.atBody q).rd g m = d.rd g m := by
  unfold Dev.atBody
  rw [Dev.rd_heard _ _ _ _ h1 h2, Dev.rd_mgRx _ _ _ _ h0, Dev.rd_elapse]

/-- A write is judged, where the body starts, as it is when the frame arrives. -/
theorem Dev.writeFail_atBody (d : Dev) (q : Rcp) (w : Who) (ix sub : Nat) (v : Bytes) :
    (d.atBody q).writeFail w ix sub v = d.writeFail w ix sub v := by
  unfold Dev.writeFail Dev.roleFail
  rw [Dev.rd_atBody _ _ _ _ (by decide) (by decide) (by decide)]

/-- A granted WRITE runs its entry's action where its body starts, and answers the status it gives. -/
theorem serveWrite_grants (me : Instr) (q : Rcp) (ix sub : Nat) (v : Bytes) (act : Who → Dev → Dev × Nat) (d : Dev)
    (h : d.grants q ix sub v = true) (hs : (act (d.asker q) (d.atBody q)).2 ≠ St.DEFER) :
    serveWrite me q ix sub v act d = (act (d.asker q) (d.atBody q)).1.answer q (Reply.of (act (d.asker q) (d.atBody q)).2) := by
  unfold Dev.grants at h
  rw [Bool.and_eq_true, Option.isNone_iff_eq_none] at h
  exact serveWrite_takes me q ix sub v act d h.1 (by rw [Dev.writeFail_atBody]; exact h.2) hs

theorem Dev.domFail_atBody (d : Dev) (q : Rcp) (w : Who) (ix sub off : Nat) (v : Bytes) :
    (d.atBody q).domFail w ix sub off v = d.domFail w ix sub off v := by
  unfold Dev.domFail Dev.roleFail
  rw [Dev.rd_atBody _ _ _ _ (by decide) (by decide) (by decide)]

/-- A granted whole WRITE_DOM likewise. -/
theorem serveDom_grants (me : Instr) (q : Rcp) (ix sub off : Nat) (v : Bytes) (act : Who → Dev → Dev × Nat) (d : Dev)
    (h : d.grantsDom q ix sub off v = true) (hs : (act (d.asker q) (d.atBody q)).2 ≠ St.DEFER) :
    serveDom me q ix sub off v act d = (act (d.asker q) (d.atBody q)).1.answer q (Reply.of (act (d.asker q) (d.atBody q)).2) := by
  unfold Dev.grantsDom at h
  rw [Bool.and_eq_true, Option.isNone_iff_eq_none] at h
  exact serveDom_takes me q ix sub off v act d h.1 (by rw [Dev.domFail_atBody]; exact h.2) hs

end Sys2Proof.Machine
end

