-- ==== Sys2Proof/Laws/Memory.lean ====
section
/-! SUPPORT. Frame-store bytes: a read after a write, and the canonical form that every memory operation keeps. -/

namespace Sys2Proof.Machine

open Sys2Proof

/-- The byte written is read. -/
@[simp] theorem Memory.read_write_same (m : List Host.Cell) (a : Nat) (b : BitVec 8) : Memory.read (Memory.write m a b) a = b :=
  Assoc.get_put_same natLt m memDefault a b

/-- Every other byte reads as before. -/
theorem Memory.read_write_other (m : List Host.Cell) {a c : Nat} (b : BitVec 8) (h : c ≠ a) :
    Memory.read (Memory.write m a b) c = Memory.read m c := Assoc.get_put_other natLt m memDefault memDefault b h

/-- Bytes outside those written read as before. -/
theorem Memory.read_writeBytes_other (l : List Nat) (m : List Host.Cell) {a c : Nat} (h : c < a ∨ a + l.length ≤ c) :
    Memory.read (Memory.writeBytes m a l) c = Memory.read m c := by
  induction l generalizing m a with
  | nil => rfl
  | cons b t ih =>
    simp only [Memory.writeBytes]
    rw [ih _ (by simp only [List.length_cons] at h; omega), Memory.read_write_other _ _ (by simp only [List.length_cons] at h; omega)]

/-- What the canonical form says, entry by entry. -/
theorem Memory.wf_iff (m : List Host.Cell) : Memory.wf m = true ↔ Assoc.sorted natLt m = true ∧ ∀ c ∈ m, c.2 ≠ memDefault := by
  simp [Memory.wf]

theorem Memory.wf_write (m : List Host.Cell) (a : Nat) (b : BitVec 8) (h : Memory.wf m = true) : Memory.wf (Memory.write m a b) = true := by
  rw [Memory.wf_iff] at *
  refine ⟨Assoc.sorted_put natLt natLt_trans natLt_total m memDefault a b h.1, ?_⟩
  intro c hc
  rcases Assoc.mem_put natLt m memDefault a b hc with ⟨rfl, e⟩ | e
  · exact e
  · exact h.2 c e

theorem Memory.wf_writeBytes (l : List Nat) (m : List Host.Cell) (a : Nat) (h : Memory.wf m = true) :
    Memory.wf (Memory.writeBytes m a l) = true := by
  induction l generalizing m a with
  | nil => exact h
  | cons b t ih => exact ih _ _ (Memory.wf_write m a _ h)

theorem Memory.wf_writeAll (q : List (Nat × List Nat)) (m : List Host.Cell) (h : Memory.wf m = true) :
    Memory.wf (Memory.writeAll m q) = true := by
  induction q generalizing m with
  | nil => exact h
  | cons p t ih => exact ih _ (Memory.wf_writeBytes p.2 m p.1 h)

theorem Memory.wf_filter (p : Host.Cell → Bool) (m : List Host.Cell) (h : Memory.wf m = true) : Memory.wf (m.filter p) = true := by
  rw [Memory.wf_iff] at *
  exact ⟨Assoc.sorted_filter natLt natLt_trans p m h.1, fun c hc => h.2 c (List.mem_filter.1 hc).1⟩

theorem Memory.wf_clear (m : List Host.Cell) (a n : Nat) (h : Memory.wf m = true) : Memory.wf (Memory.clear m a n) = true :=
  Memory.wf_filter _ m h

theorem Memory.wf_foldl_write {α : Type} (f : α → Nat) (g : α → BitVec 8) (l : List α) (m : List Host.Cell) (h : Memory.wf m = true) :
    Memory.wf (l.foldl (fun m c => Memory.write m (f c) (g c)) m) = true := by
  induction l generalizing m with
  | nil => exact h
  | cons c t ih => exact ih _ (Memory.wf_write m _ _ h)

theorem Memory.wf_copyBlock (m : List Host.Cell) (old new : Nat) (h : Memory.wf m = true) : Memory.wf (Memory.copyBlock m old new) = true :=
  Memory.wf_foldl_write _ _ _ _ (Memory.wf_clear m _ _ h)

/-! ## Addresses below the end of the frame store -/

theorem Memory.inside_iff (m : List Host.Cell) : Memory.inside m = true ↔ ∀ c ∈ m, c.1 < memSize := by
  simp [Memory.inside]

theorem Memory.inside_write (m : List Host.Cell) (a : Nat) (b : BitVec 8) (ha : a < memSize) (h : Memory.inside m = true) :
    Memory.inside (Memory.write m a b) = true := by
  rw [Memory.inside_iff] at *
  intro c hc
  rcases Assoc.mem_put natLt m memDefault a b hc with ⟨rfl, _⟩ | e
  · exact ha
  · exact h c e

theorem Memory.inside_writeBytes (l : List Nat) (m : List Host.Cell) (a : Nat) (ha : a + l.length ≤ memSize) (h : Memory.inside m = true) :
    Memory.inside (Memory.writeBytes m a l) = true := by
  induction l generalizing m a with
  | nil => exact h
  | cons b t ih =>
    simp only [List.length_cons] at ha
    exact ih _ _ (by omega) (Memory.inside_write m a _ (by omega) h)

theorem Memory.inside_writeAll (q : List (Nat × List Nat)) (m : List Host.Cell) (hq : ∀ w ∈ q, w.1 + w.2.length ≤ memSize)
    (h : Memory.inside m = true) : Memory.inside (Memory.writeAll m q) = true := by
  induction q generalizing m with
  | nil => exact h
  | cons p t ih =>
    exact ih _ (fun w hw => hq w (List.mem_cons_of_mem _ hw)) (Memory.inside_writeBytes p.2 m p.1 (hq p (List.mem_cons_self ..)) h)

theorem Memory.inside_filter (p : Host.Cell → Bool) (m : List Host.Cell) (h : Memory.inside m = true) : Memory.inside (m.filter p) = true := by
  rw [Memory.inside_iff] at *
  exact fun c hc => h c (List.mem_filter.1 hc).1

theorem Memory.inside_foldl_write {α : Type} (f : α → Nat) (g : α → BitVec 8) (l : List α) (m : List Host.Cell) (hf : ∀ c ∈ l, f c < memSize)
    (h : Memory.inside m = true) : Memory.inside (l.foldl (fun m c => Memory.write m (f c) (g c)) m) = true := by
  induction l generalizing m with
  | nil => exact h
  | cons c t ih =>
    exact ih _ (fun d hd => hf d (List.mem_cons_of_mem _ hd)) (Memory.inside_write m _ _ (hf c (List.mem_cons_self ..)) h)

theorem Memory.inside_copyBlock (m : List Host.Cell) (old new : Nat) (hn : new < 65536) (h : Memory.inside m = true) :
    Memory.inside (Memory.copyBlock m old new) = true := by
  apply Memory.inside_foldl_write
  · intro c hc
    have hx := (List.mem_filter.1 hc).2
    simp only [Bool.and_eq_true, decide_eq_true_eq] at hx
    unfold blockBytes memSize at *
    omega
  · exact Memory.inside_filter _ m h

/-- A command that may write the frame store keeps both. -/
theorem State.actMem_keeps (s t : State) (f : Dev → Dev) (hw : Memory.wf s.mem = true) (hi : Memory.inside s.mem = true)
    (h : s.actMem f = .next t) : Memory.wf t.mem = true ∧ Memory.inside t.mem = true := by
  simp only [State.actMem] at h
  split at h
  · cases h
  · rename_i hn
    cases h
    refine ⟨Memory.wf_writeAll _ _ hw, Memory.inside_writeAll _ _ ?_ hi⟩
    intro w hmem
    have := List.find?_eq_none.1 hn w hmem
    simpa using this

/-- The queue's bytes never linger, and the commands that wait are untouched. -/
theorem State.actMem_pending (s t : State) (f : Dev → Dev) (h : s.actMem f = .next t) : t.pending = s.pending := by
  simp only [State.actMem] at h
  split at h
  · cases h
  · cases h; rfl

/-- The segments a refresh mask loses (R264) go without harm to the form. -/
theorem State.maskedLost_keeps (s : State) (hw : Memory.wf s.mem = true) (hi : Memory.inside s.mem = true) :
    Memory.wf s.maskedLost.mem = true ∧ Memory.inside s.maskedLost.mem = true :=
  ⟨Memory.wf_filter _ _ hw, Memory.inside_filter _ _ hi⟩

/-- At reset nothing is listed. -/
theorem State.reset_memory : Memory.wf State.reset.mem = true ∧ Memory.inside State.reset.mem = true := ⟨rfl, rfl⟩

end Sys2Proof.Machine
end

