-- ==== Sys2Proof/Laws/Reads.lean ====
section
/-! SUPPORT. What a dictionary field reads after each update of the device: the updates that leave every field alone, and loops that do. -/

namespace Sys2Proof.Machine

open Sys2Proof

variable (d : Dev) (g : Fld) (m : Nat)

@[simp] theorem Dev.rd_raise (a b : Nat) : (d.raise a b).rd g m = d.rd g m := (rfl)
@[simp] theorem Dev.rd_raiseL (a b : Nat) : (d.raiseL a b).rd g m = d.rd g m := (rfl)
@[simp] theorem Dev.rd_endCond (a b : Nat) : (d.endCond a b).rd g m = d.rd g m := (rfl)
@[simp] theorem Dev.rd_emit (e : Emission) : (d.emit e).rd g m = d.rd g m := (rfl)
@[simp] theorem Dev.rd_drawn : d.drawn.rd g m = d.rd g m := (rfl)
@[simp] theorem Dev.rd_setFlow (c : Nat) (f : FlowSt → FlowSt) : (d.setFlow c f).rd g m = d.rd g m := (rfl)
@[simp] theorem Dev.rd_setSession (c : Nat) (f : Session → Session) : (d.setSession c f).rd g m = d.rd g m := (rfl)
@[simp] theorem Dev.rd_setPlane (p : Nat) (f : PlaneSt → PlaneSt) : (d.setPlane p f).rd g m = d.rd g m := (rfl)

theorem Dev.rd_flag_apart (f : Fld) (n : Nat) (b : Bool) (h : Fld.apart f g = true) : (d.flag f n b).rd g m = d.rd g m :=
  Dev.rd_wr_apart d f g n m _ h

theorem Dev.rd_add_apart (f : Fld) (n k : Nat) (h : Fld.apart f g = true) : (d.add f n k).rd g m = d.rd g m :=
  Dev.rd_wr_apart d f g n m _ h

/-- The same field of another instance. -/
theorem Dev.rd_wr_ne (f : Fld) (n v : Nat) (h : m ≠ n) : (d.wr f n v).rd f m = d.rd f m := by
  apply Dev.rd_wr_key
  unfold Fld.key
  intro e
  split at e <;> simp at e <;> omega

/-- A loop whose body leaves a field alone leaves it alone. -/
theorem Dev.rd_each (l : List Nat) (f : Dev → Nat → Dev) (h : ∀ d n, (f d n).rd g m = d.rd g m) : (d.each l f).rd g m = d.rd g m := by
  unfold Dev.each
  induction l generalizing d with
  | nil => rfl
  | cons x t ih => rw [List.foldl_cons, ih, h]

end Sys2Proof.Machine
end

