-- ==== Sys2Proof/Tests/Service.lean ====
section
/-! SUPPORT. Small states in service, on which the tests show that the statements' hypotheses can be met. -/

namespace Sys2Proof.Tests

open Sys2Proof Sys2Proof.Machine

/-- A session of the OWNER role. -/
def owner : Session := ⟨0, 1, 4, 7, [], 0, [], none, false, [], [], 0, 0, 0, 0, 0, 0, 0⟩

/-- The device in service: the power-on reset has been released, start-up has reached SERVICE, one session of the OWNER role is open. -/
def dev : Dev :=
  { Dev.reset with rst := {}, rcp := { Dev.reset.rcp with sessions := [owner] } }.wr D.Rst.STARTUP_STAGE 0 6

/-- The block in service. -/
def svc : State := ⟨dev, [], []⟩

/-- The block with a change of its device. -/
def svcWith (f : Dev → Dev) : State := ⟨f dev, [], []⟩

/-- Write fields: field, instance, value. -/
def set (l : List (Fld × Nat × Nat)) (d : Dev) : Dev := l.foldl (fun d x => d.wr x.1 x.2.1 x.2.2) d

/-- The block in service with some fields written. -/
def svcSet (l : List (Fld × Nat × Nat)) : State := svcWith (set l)

/-- The session's next request, on port MG0. -/
def ask (op : Nat) : Rcp := ⟨5, 0, 0, 0, 0x5243, 1, 0, 1, 8, op, true, .gcm 0 (gcmNonce 1 0 8), Dev.reset.rcp.inUse.port⟩

/-- The same with another sequence number. -/
def askSeq (op seq : Nat) : Rcp := { ask op with seq := seq, closing := .gcm 0 (gcmNonce 1 0 seq) }

/-- A frame outside any session, its CRC right. -/
def askAnon (op : Nat) : Rcp := { ask op with session := 0, closing := .crc true }

/-- A frame of one media packet to 192.168.0.1, UDP port 5000, on port 0. -/
def frame : NetFrame := ⟨0, true, 0, 0, true, true, 0, 0xFFFFC0A80001, 1, 5000, true, 96, 1, 0, false, [], true, ⟨0, 0⟩⟩

/-- Media of which one packet of one byte is complete. -/
def txFrame : TxFrame := ⟨0, 0, ⟨4, 256 ^ 2 + 9 * 256⟩, false, 0, 2, [], [], 0, 0⟩

/-- An Announce message of domain 127. -/
def announce : Announce := ⟨5, 1, 127, 1, 37, true, false, false, true, 128, 6, 0x21, 0, 128, 5, 0, 0⟩

/-- A channel in training that has one delay set, which passed before. -/
def inTraining : State :=
  ⟨((dev.wr D.ChanStatus.STATE 31 1).wr D.Chan.DELAY_SETS 255 0x800000000000000000000000000000000000000000000000000000000000000000000000000000000000000000000000000000000000000000000000402bc3eb).setChan 31
    (fun x => { x with passed := some 7, restore := true, defects := [65504] }), [], []⟩

/-- A device whose twin has not answered yet. -/
def pairing : State := svcSet [(D.GroupStatus.STATE, 7, 3), (D.Twin.ENABLE, 0, 1), (D.Twin.STATE, 0, 1)]

/-- The characters of a management frame as a group sends it, one byte of payload. -/
def ownFrame : Nat := frameBody 1 7 0 true ⟨1, 9⟩ * 65536

/-- Lane 8 of the twin's group stands first in the rotation received. -/
def item : State := svcWith (fun d => d.setDl 71 (fun x => { x with rxRank := 0 }))

/-- Lane 8 of the twin's group trains. -/
def training : State := svcSet [(D.GroupStatus.STATE, 7, 2), (D.DwlLane.LANE_STATE, 71, 1)]

/-- What the twin's training block of that lane says before its CRC: an offer of step 1, up to step 4, in an ensemble of one. -/
def trainValue (g : Nat) : Nat := 2 ^ 108 + 2 ^ 105 + 2 ^ 101 + 7 * 2 ^ 98 + 8 * 2 ^ 94 + 2 ^ 90 + 4 * 2 ^ 86 + g * 2 ^ 48

/-- That block. -/
def trainBlock7 (g : Nat) : Nat := trainValue g * 65536 + crc16 (bytesOf 14 (trainValue g))

/-- A manifest in form: version 1, five images of 4,096 bytes each, one after another from 8,192 on. -/
def manifest : Nat :=
  pack [(32, 0x4D414E46), (16, 1), (8, 5), (8, 3), (192, 0),
    (128, 1 * 2 ^ 120), (32, 8192), (32, 4096), (64, 0), (256, 1), (128, 2 * 2 ^ 120), (32, 12288), (32, 4096), (64, 0), (256, 2),
    (128, 3 * 2 ^ 120), (32, 16384), (32, 4096), (64, 0), (256, 3), (128, 4 * 2 ^ 120), (32, 20480), (32, 4096), (64, 0), (256, 4),
    (128, 5 * 2 ^ 120), (32, 24576), (32, 4096), (64, 0), (256, 5), (52992, 0)]

/-- An update session of session 1 with that manifest in its slot. -/
def receiving : State :=
  svcWith (fun d => (set [(D.Upd.UPDATE_STATE, 0, 1), (D.Upd.UPDATE_HOLDER, 0, 1)] d).setSlot 1 (fun _ => { state := 1, manifest := some manifest }))

end Sys2Proof.Tests
end

