-- ==== Sys2Proof/WellFormed.lean ====
section
/-! DEFINITION. Which commands are well formed: every operand to which the spec gives a field or a numbered unit fits it (Tables 02.2, 15.2, 15.3, the command
values of the areas; contexts, lanes, channels, tiles and the other units by number). A command that is not well formed cannot arrive; exec is total on it all the same. -/

namespace Sys2Proof

/-- The bytes fit their count. -/
def Bytes.wellFormed (b : Bytes) : Bool := decide (b.val < 256 ^ b.len)

/-- The header fields fit Table 15.2; the port is MG0, MG1 or one of the 256 interfaces. -/
def Rcp.wellFormed (q : Rcp) : Bool :=
  decide (q.via < 258) && decide (q.peer < 2 ^ 128) && decide (q.port < 2 ^ 16) && decide (q.magic < 2 ^ 16) && decide (q.version < 2 ^ 8)
    && decide (q.flags < 2 ^ 8) && decide (q.session < 2 ^ 32) && decide (q.seq < 2 ^ 32) && decide (q.op < 2 ^ 8)
    && decide (q.dst < 2 ^ 16)

/-- The parts of a cell fit Table 02.2. -/
def Cell.wellSized (c : Cell) : Bool :=
  decide (c.hdr < 2 ^ 192) && decide (c.payload < 2 ^ 2048) && decide (c.crc < 2 ^ 32) && decide (c.tag < 2 ^ 32)

/-- The parsed headers of a network frame fit their fields. -/
def NetFrame.wellFormed (f : NetFrame) : Bool :=
  decide (f.port < 32) && decide (f.vlan < 4096) && decide (f.mac < 2 ^ 48) && decide (f.dst < 2 ^ 128) && decide (f.src < 2 ^ 128)
    && decide (f.udp < 2 ^ 16) && decide (f.pt < 128) && decide (f.seq < 2 ^ 32) && decide (f.ts < 2 ^ 32) && f.media.wellFormed

/-- The fields of an Announce message fit IEEE 1588-2019. -/
def Announce.wellFormed (a : Announce) : Bool :=
  decide (a.sender < 2 ^ 64) && decide (a.senderPort < 2 ^ 16) && decide (a.domain < 256) && decide (a.utcOffset < 2 ^ 16)
    && decide (a.priority1 < 256) && decide (a.gmClass < 256) && decide (a.accuracy < 256) && decide (a.variance < 2 ^ 16)
    && decide (a.priority2 < 256) && decide (a.gm < 2 ^ 64) && decide (a.stepsRemoved < 2 ^ 16)

/-- The fields of an event message fit IEEE 1588-2019. -/
def PtpMsg.wellFormed (m : PtpMsg) : Bool :=
  decide (m.kind < 16) && decide (m.domain < 256) && decide (m.sender < 2 ^ 64) && decide (m.senderPort < 2 ^ 16)
    && decide (m.seq < 2 ^ 16)

/-- A request names one of the 12 ports of Table 09.3, and its data fits its length. -/
def StoreReq.wellFormed (r : StoreReq) : Bool :=
  decide (r.port < 12) && decide (r.handle < 8192) && decide (r.data < 256 ^ r.len)

/-- Is a command well formed? -/
def Instr.wellFormed : Instr → Bool
  | .read q ix sub => q.wellFormed && decide (ix < 65536) && decide (sub < 256)
  | .write q ix sub v => q.wellFormed && decide (ix < 65536) && decide (sub < 256) && v.wellFormed
  | .readDom q ix sub flags offset length => q.wellFormed && decide (ix < 65536) && decide (sub < 256) && decide (flags < 256) && decide (offset < 4294967296) && decide (length < 65536)
  | .writeDom q ix sub flags offset v => q.wellFormed && decide (ix < 65536) && decide (sub < 256) && decide (flags < 256) && decide (offset < 4294967296) && v.wellFormed
  | .transferTimeout _ session => decide (session < 2 ^ 32)
  | .heldRequestDiscard _ session => decide (session < 2 ^ 32)
  | .commit q => q.wellFormed
  | .discard q => q.wellFormed
  | .groupAbort q v => q.wellFormed && v.wellFormed
  | .groupIdleDiscard _ => true
  | .subscribe q first last minMs => q.wellFormed && decide (first < 65536) && decide (last < 65536) && decide (minMs < 65536)
  | .unsubscribe q id => q.wellFormed && decide (id < 256)
  | .notifySend _ session id _ => decide (session < 2 ^ 32) && decide (id < 256)
  | .close q => q.wellFormed
  | .keepalive q => q.wellFormed
  | .sessionIdleExpiry _ session => decide (session < 2 ^ 32)
  | .discover q _ => q.wellFormed
  | .modeWrite q ix v => q.wellFormed && decide (ix < 65536) && v.wellFormed
  | .modeChangeEffect _ ix => decide (ix < 65536)
  | .journalCompaction _ => true
  | .mgCfgEffect _ => true
  | .rcpMgReverted _ => true
  | .openHello q id offset total v => q.wellFormed && decide (id < 4294967296) && decide (offset < 4294967296) && decide (total < 4294967296) && v.wellFormed
  | .openChallengeFetch q id offset => q.wellFormed && decide (id < 4294967296) && decide (offset < 4294967296)
  | .openResponse q id offset total v => q.wellFormed && decide (id < 4294967296) && decide (offset < 4294967296) && decide (total < 4294967296) && v.wellFormed
  | .openExchangeTimeout _ => true
  | .flowEngineConfigured _ ctx => decide (ctx < 8192)
  | .flowEngineQuiesced _ ctx => decide (ctx < 8192)
  | .runStart _ ctx => decide (ctx < 8192)
  | .cellEmit _ ctx _ _ _ _ _ _ _ => decide (ctx < 8192)
  | .cellReceived _ group cell => decide (group < 8) && cell.wellSized
  | .mergeCopyArrival _ ctx plane cell => decide (ctx < 8192) && decide (plane < 2) && cell.wellSized
  | .mergeWindowEnd _ ctx seq => decide (ctx < 8192) && decide (seq < 2 ^ 32)
  | .cellRelease _ ctx => decide (ctx < 8192)
  | .sourceLossTimeout _ ctx => decide (ctx < 8192)
  | .take q v => q.wellFormed && decide (v < 2 ^ 128)
  | .twinTakeRx _ _ _ => true
  | .twinTakeAck _ _ _ => true
  | .twinTakeTimeout _ => true
  | .takeApply _ ctx => decide (ctx < 8192)
  | .delayChangeApply _ ctx => decide (ctx < 8192)
  | .salvoChangesWrite q slot offset v => q.wellFormed && decide (slot < 16) && decide (offset < 4294967296) && v.wellFormed
  | .salvoTakeTimeWrite q slot v => q.wellFormed && decide (slot < 16) && decide (v < 2 ^ 64)
  | .salvoArm q slot => q.wellFormed && decide (slot < 16)
  | .salvoAbort q slot => q.wellFormed && decide (slot < 16)
  | .salvoClear q slot => q.wellFormed && decide (slot < 16)
  | .salvoCommitCmd q slot => q.wellFormed && decide (slot < 16)
  | .salvoPrepare _ group _ => decide (group < 8)
  | .salvoPrepared _ slot => decide (slot < 16)
  | .salvoVoteRx _ group _ => decide (group < 8)
  | .salvoDecisionLogged _ slot => decide (slot < 16)
  | .salvoVoteDeadline _ slot => decide (slot < 16)
  | .salvoCommitRx _ group _ => decide (group < 8)
  | .salvoAbortRx _ group _ => decide (group < 8)
  | .salvoDecideDeadline _ slot => decide (slot < 16)
  | .salvoQueryTimer _ slot => decide (slot < 16)
  | .salvoQueryRx _ group _ => decide (group < 8)
  | .salvoTakeTimeReached _ slot => decide (slot < 16)
  | .logSectorErase _ => true
  | .planeFail _ plane _ => decide (plane < 2)
  | .planeCmdResetX q => q.wellFormed
  | .planeCmdResetY q => q.wellFormed
  | .planeCmdSwap q => q.wellFormed
  | .planeBistDone _ plane _ _ _ => decide (plane < 2)
  | .planeResyncDone _ plane _ => decide (plane < 2)
  | .planeRebuildDone _ _ => true
  | .twinPairingSend _ => true
  | .twinPairingRx _ _ => true
  | .twinPairingTimeout _ => true
  | .twinReconcile _ _ => true
  | .twinCopyDone _ _ _ => true
  | .twinLost _ _ => true
  | .twinCmdMakeActive q => q.wellFormed
  | .twinSignatureRx _ ctx _ _ crc => decide (ctx < 8192) && decide (crc < 2 ^ 32)
  | .twinAnchorSend _ => true
  | .twinAnchorRx _ ctx anchor _ => decide (ctx < 8192) && decide (anchor.1 < 2 ^ 32) && decide (anchor.2 < 2 ^ 32)
  | .sdiRxLock _ lane _ => decide (lane < 128)
  | .sdiRxLockLost _ lane => decide (lane < 128)
  | .sdiRxFormatChange _ lane => decide (lane < 128)
  | .sdiFormatDetected _ lane _ _ _ _ _ => decide (lane < 128)
  | .sdiPortResume _ ctx _ _ => decide (ctx < 8192)
  | .sdiTxFrameBoundary _ ctx _ _ => decide (ctx < 8192)
  | .holdMaxExpiry _ ctx => decide (ctx < 8192)
  | .netLinkUp _ port => decide (port < 32)
  | .netLinkDown _ port => decide (port < 32)
  | .netSpareRemap _ lane => decide (lane < 32)
  | .netFrameRx _ f => f.wellFormed
  | .netCtrlFrame _ => true
  | .netQueryRx _ port iface _ _ => decide (port < 32) && decide (iface < 256)
  | .netQueryResponse _ iface => decide (iface < 256)
  | .netMembershipReport _ iface => decide (iface < 256)
  | .igmpReportRepeat _ iface => decide (iface < 256)
  | .ctrlTx q v => q.wellFormed && v.wellFormed
  | .netResolveRefresh _ ctx _ mac => decide (ctx < 8192) && mac.all (fun m => decide (m < 2 ^ 48))
  | .netRxSilence _ ctx _ => decide (ctx < 8192)
  | .net20227Release _ ctx => decide (ctx < 8192)
  | .netPacketTx _ ctx => decide (ctx < 8192)
  | .dwlItemRx _ group lane _ _ _ _ _ => decide (group < 8) && decide (lane < 9)
  | .dwlReplayReqRx _ group lane _ => decide (group < 8) && decide (lane < 9)
  | .dwlLaneMarkerRx _ group lane _ => decide (group < 8) && decide (lane < 9)
  | .dwlMgmtFrameRx _ group _ => decide (group < 8)
  | .dwlMsgTimeout _ => true
  | .dwlTrainingBlockRx _ group lane _ _ => decide (group < 8) && decide (lane < 9)
  | .dwlStepDwellEnd _ group lane _ => decide (group < 8) && decide (lane < 9)
  | .dwlStepFailure _ group lane => decide (group < 8) && decide (lane.1 < 9)
  | .groupMiswiredRetry _ group => decide (group < 8)
  | .chainFrameTx _ => true
  | .chainFrameRx _ _ => true
  | .chainLost _ => true
  | .memberReportTx _ => true
  | .memberReportRx _ group _ => decide (group < 8)
  | .chainShortTimeout _ => true
  | .beaconTx _ group => decide (group < 8)
  | .beaconRx _ group _ => decide (group < 8)
  | .beaconLost _ group => decide (group < 8)
  | .laneCmdStep q lane => q.wellFormed && decide (lane < 256)
  | .laneCmdSwapOut q lane => q.wellFormed && decide (lane < 256)
  | .laneCmdRetrain q lane => q.wellFormed && decide (lane < 256)
  | .laneCmdMarginScan q target lane => q.wellFormed && decide (target < 256) && decide (lane < 256)
  | .laneCmdMarginAbort q lane => q.wellFormed && decide (lane < 256)
  | .marginScanDone _ lane _ _ => decide (lane < 236)
  | .phyLaneFailed _ lane _ _ => decide (lane < 236)
  | .phyDegradeCheck _ lane _ _ => decide (lane < 236)
  | .spareReadinessCheck _ group _ => decide (group < 8)
  | .sdiSliceSpare _ lane _ => decide (lane < 128)
  | .memRequestServe _ chan arrivals _ => decide (chan < 32) && arrivals.all StoreReq.wellFormed
  | .requestDeadlineMiss _ chan => decide (chan < 32)
  | .mr4Poll _ chan _ _ => decide (chan < 32)
  | .srEntry _ chan _ => decide (chan < 32)
  | .srExit _ chan => decide (chan < 32)
  | .chanTrainingSetDone _ chan _ _ => decide (chan < 32)
  | .delayRecentre _ chan => decide (chan < 32)
  | .chanDegradeCheck _ chan => decide (chan < 32)
  | .chanFail _ chan _ => decide (chan < 32)
  | .chanCmdRetrain q chan => q.wellFormed && decide (chan < 256)
  | .chanCmdRetire q chan => q.wellFormed && decide (chan < 256)
  | .chanCmdRestore q chan => q.wellFormed && decide (chan < 256)
  | .blockRelocated _ handle _ => decide (handle < 8192)
  | .patrolTest _ block _ _ => decide (block < 65536)
  | .tileFail _ phys => decide (phys < 68)
  | .tileSubstitutionDone _ tile => decide (tile < 64)
  | .tileCmdSubstitute q tile => q.wellFormed && decide (tile < 256)
  | .tileCmdRestore q phys => q.wellFormed && decide (phys < 256)
  | .tileCmdTest q phys => q.wellFormed && decide (phys < 256)
  | .tileBistDone _ phys _ => decide (phys < 68)
  | .fsOutputFrame _ tile _ _ => decide (tile < 64)
  | .fsInputLoss _ tile _ => decide (tile < 64)
  | .headFrameBoundary _ head _ _ => decide (head < 12)
  | .layerFrameComplete _ engine _ => decide (engine < 192)
  | .layerRunStart _ engine => decide (engine < 192)
  | .veneerWrite q veneer x y w h _ _ => q.wellFormed && decide (veneer < 65536) && decide (x < 65536) && decide (y < 65536) && decide (w < 65536) && decide (h < 65536)
  | .veneerFlip q veneer => q.wellFormed && decide (veneer < 512)
  | .tallyWrite q engine value => q.wellFormed && decide (engine < 192) && decide (value < 65536)
  | .cmpEngineFail _ engine => decide (engine < 192)
  | .audioPosition _ => true
  | .audioSampleWrite _ lane _ _ => decide (lane < 128)
  | .sapFrame _ port _ _ => decide (port < 8)
  | .servoSample _ => true
  | .servoSampleTimeout _ => true
  | .servoHoldoverExpiry _ => true
  | .timeChangeover _ => true
  | .servoCmdStep q _ => q.wellFormed
  | .servoCmdSetRate q _ => q.wellFormed
  | .servoCmdAddRate q _ => q.wellFormed
  | .ptpAnnounceRx _ iface ann => decide (iface < 256) && ann.wellFormed
  | .ptpLeaderLost _ iface _ port => decide (iface < 256) && decide (port < 65536)
  | .ptpDelayReqTx _ iface => decide (iface < 256)
  | .ptpEventRx _ iface m => decide (iface < 256) && m.wellFormed
  | .tcRelay _ iface _ _ seq _ _ _ => decide (iface < 256) && decide (seq < 2 ^ 32)
  | .leapSecond _ => true
  | .timeOutputEdge _ output => decide (output < 3)
  | .refPhaseEvent _ ref => decide (ref < 133)
  | .refStop _ ref => decide (ref < 133)
  | .refFreqUpdate _ _ _ => true
  | .refHoldoffElapsed _ ref => decide (ref < 133)
  | .dpllLocked _ dpll _ => decide (dpll < 8)
  | .dpllSwitchMeasured _ dpll => decide (dpll < 8)
  | .dpllHoldoverExpiry _ dpll => decide (dpll < 8)
  | .dpllCmdPhaseStep q dpll _ => q.wellFormed && decide (dpll < 256)
  | .dpllCmdClearBuildout q dpll => q.wellFormed && decide (dpll < 256)
  | .dpllPhaseMoveDone _ dpll => decide (dpll < 8)
  | .ownerCmdEnrol q nonce _ _ _ => q.wellFormed && decide (nonce < 2 ^ 256)
  | .ownerCmdTransfer q nonce _ _ _ _ => q.wellFormed && decide (nonce < 2 ^ 256)
  | .ownerCmdRelease q nonce _ => q.wellFormed && decide (nonce < 2 ^ 256)
  | .enrolWindowExpiry _ => true
  | .attestNonce q nonce => q.wellFormed && decide (nonce < 2 ^ 256)
  | .debugToken q _ nonce _ => q.wellFormed && decide (nonce < 2 ^ 256)
  | .updateBegin q => q.wellFormed
  | .manifestIn q _ => q.wellFormed
  | .imageWrite q kind v => q.wellFormed && decide (kind < 6) && v.wellFormed
  | .updateEnd q => q.wellFormed
  | .updateAbort q => q.wellFormed
  | .updateIdleExpiry _ => true
  | .activateInService q => q.wellFormed
  | .activationStepDone _ => true
  | .activationStepTimeout _ => true
  | .activateRestart q => q.wellFormed
  | .updateAccept q => q.wellFormed
  | .updateReject q => q.wellFormed
  | .updateRecover q => q.wellFormed
  | .trialTimerEnd _ => true
  | .fallbackDone _ => true
  | .slotRCopyDone _ => true
  | .recoveryIntervalEnd _ => true
  | .faultLatch _ src inst _ => decide (src < 512) && decide (inst < 65536)
  | .faultConditionEnd _ src inst => decide (src < 512) && decide (inst < 65536)
  | .faultCmdClear q src => q.wellFormed && decide (src < 512)
  | .faultCmdClearGroup q src => q.wellFormed && decide (src < 512)
  | .faultCmdClearAll q => q.wellFormed
  | .faultCmdFirstClear q => q.wellFormed
  | .faultCmdSummaryClear q => q.wellFormed
  | .faultCmdBlkrst q src inst => q.wellFormed && decide (src < 512) && decide (inst < 65536)
  | .faultCmdChiprst q src => q.wellFormed && decide (src < 512)
  | .faultCmdInject q src inst => q.wellFormed && decide (src < 512) && decide (inst < 65536)
  | .errnMinExpiry _ => true
  | .porstAssert _ _ => true
  | .supplyFault _ kind _ => decide (kind < 3)
  | .rstNInput _ _ => true
  | .resetCmdCold q => q.wellFormed
  | .resetCmdWarm q => q.wellFormed
  | .resetCmdDomain q dom => q.wellFormed && decide (dom < 256)
  | .watchdogExpiry _ dom => decide (dom < 8)
  | .resetAssert _ _ => true
  | .resetRelease _ _ _ _ _ geo => decide (geo < 32)
  | .blockResetEnd _ _ inst => decide (inst < 65536)
  | .rstnOutEnd _ _ => true
  | .fuseLoadDone _ _ _ => true
  | .startupStageDone _ _ _ _ _ _ _ => true
  | .busTransaction _ master addr beats _ _ _ _ _ => decide (master < 16) && decide (addr < 2 ^ 32) && decide (beats < 17)
  | .busTimeout _ => true
  | .busCmdUnisolate q target => q.wellFormed && decide (target < 32)
  | .busCmdIsolate q target => q.wellFormed && decide (target < 32)
  | .busCmdLogClear q => q.wellFormed
  | .sramEccError _ macro_ _ dom _ _ => decide (macro_ < 65536) && decide (dom < 8)
  | .knotCopyWrite _ _ => true
  | .islandHorizonRecompute _ island _ => decide (island < 142)
  | .islandWake _ island _ => decide (island < 142)
  | .islandRequest q island v => q.wellFormed && decide (island < 160) && decide (v < 256)
  | .pwrWarn _ _ _ => true
  | .pwrWarnRise _ => true
  | .logIntervalEnd _ _ _ => true
  | .eventRecordWrite _ _ => true
  | .ringCmdVerify q tier => q.wellFormed && decide (tier < 256)
  | .ringVerifyDone _ => true
  | .thermalSample _ _ => true
  | .avsUpdate _ _ => true
  | .avsRetry _ _ => true
  | .pmbusPoll _ _ _ => true
  | .prbsCheckerLock _ lane => decide (lane < 236)
  | .prbsCheckerUnlock _ lane _ _ => decide (lane < 236)
  | .sdiGroupDeskewLost _ lane _ => decide (lane < 128)
  | .sdiPidAbsent _ lane => decide (lane < 128)
  | .netTrainingFailed _ port lane _ => decide (port < 32) && decide (lane < 32)
  | .mgLinkUp _ port speed => decide (port < 2) && decide (speed < 4)
  | .mgLinkDown _ port => decide (port < 2)
  | .mgSpeedTryTimeout _ port => decide (port < 2)

end Sys2Proof
end

