-- ==== Sys2Proof/Tests/Slice0.lean ====
section
/-! SUPPORT. The model's own tests. -/

namespace Sys2Proof.Tests

open Sys2Proof Sys2Proof.Machine

set_option maxRecDepth 20000

/-- A request whose header fields are at the end of their ranges. -/
def ask0 : Rcp := ⟨0, 257, 2 ^ 128 - 1, 65535, 65535, 255, 255, 2 ^ 32 - 1, 2 ^ 32 - 1, 255, true, .crc true, 65535⟩

/-- A request from an interface that does not exist. -/
def badAsk : Rcp := { ask0 with via := 258 }

def okCell : Cell := ⟨2 ^ 192 - 1, 2 ^ 2048 - 1, 2 ^ 32 - 1, 2 ^ 32 - 1⟩
def badCell : Cell := { okCell with hdr := 2 ^ 192 }
def okFrame : NetFrame :=
  ⟨31, true, 4095, 2 ^ 48 - 1, true, true, 0, 2 ^ 128 - 1, 2 ^ 128 - 1, 65535, true, 127, 2 ^ 32 - 1, 2 ^ 32 - 1, false, [], true, ⟨0, 0⟩⟩
def badFrame : NetFrame := { okFrame with port := 32 }
def okAnnounce : Announce :=
  ⟨2 ^ 64 - 1, 65535, 255, 0, 65535, true, false, false, true, 255, 255, 255, 65535, 255, 2 ^ 64 - 1, 65535, 0⟩
def badAnnounce : Announce := { okAnnounce with domain := 256 }
def okPtp : PtpMsg := ⟨15, 255, 2 ^ 64 - 1, 65535, 65535, false, 0, 0, false⟩
def badPtp : PtpMsg := { okPtp with kind := 16 }
def okStore : StoreReq := ⟨11, 8191, 0, 0, 1, true, 255⟩
def badStore : StoreReq := { okStore with data := 256 }

-- WellFormed: the parts of the commands.
theorem test_wf_rcp : [{ ask0 with via := 258 }, { ask0 with peer := 2 ^ 128 }, { ask0 with port := 65536 }, { ask0 with magic := 65536 },
    { ask0 with version := 256 }, { ask0 with flags := 256 }, { ask0 with session := 2 ^ 32 }, { ask0 with seq := 2 ^ 32 },
    { ask0 with op := 256 }, { ask0 with dst := 65536 }].all (fun q => !q.wellFormed) = true := by decide

theorem test_wf_cell : [{ okCell with hdr := 2 ^ 192 }, { okCell with payload := 2 ^ 2048 }, { okCell with crc := 2 ^ 32 },
    { okCell with tag := 2 ^ 32 }].all (fun c => !c.wellSized) = true := by decide

theorem test_wf_frame : [{ okFrame with port := 32 }, { okFrame with vlan := 4096 }, { okFrame with mac := 2 ^ 48 }, { okFrame with dst := 2 ^ 128 },
    { okFrame with src := 2 ^ 128 }, { okFrame with udp := 65536 }, { okFrame with pt := 128 }, { okFrame with seq := 2 ^ 32 },
    { okFrame with ts := 2 ^ 32 }, { okFrame with media := ⟨0, 1⟩ }].all (fun f => !f.wellFormed) = true := by decide

theorem test_wf_announce : [{ okAnnounce with sender := 2 ^ 64 }, { okAnnounce with senderPort := 65536 }, { okAnnounce with domain := 256 },
    { okAnnounce with utcOffset := 65536 }, { okAnnounce with priority1 := 256 }, { okAnnounce with gmClass := 256 },
    { okAnnounce with accuracy := 256 }, { okAnnounce with variance := 65536 }, { okAnnounce with priority2 := 256 },
    { okAnnounce with gm := 2 ^ 64 }, { okAnnounce with stepsRemoved := 65536 }].all (fun a => !a.wellFormed) = true := by decide

theorem test_wf_ptp : [{ okPtp with kind := 16 }, { okPtp with domain := 256 }, { okPtp with sender := 2 ^ 64 },
    { okPtp with senderPort := 65536 }, { okPtp with seq := 65536 }].all (fun m => !m.wellFormed) = true := by decide

theorem test_wf_store : [{ okStore with port := 12 }, { okStore with handle := 8192 }, { okStore with data := 256 }].all
    (fun r => !r.wellFormed) = true := by decide

-- Every row has a well-formed term that answers a next state on the block in service, so no frame statement's premise is empty.
def answers (s : State) (c : Instr) : Bool := match exec c s with | .next _ => true | _ => false

-- Every command with its operands at the end of their ranges is well formed.
theorem test_wf_accepts_1 :
    ([.read ask0 65535 255, .write ask0 65535 255 ⟨1, 255⟩, .readDom ask0 65535 255 255 4294967295 65535,
     .writeDom ask0 65535 255 255 4294967295 ⟨1, 255⟩, .transferTimeout 0 (2 ^ 32 - 1), .heldRequestDiscard 0 (2 ^ 32 - 1), .commit ask0,
     .discard ask0, .groupAbort ask0 ⟨1, 255⟩, .groupIdleDiscard 0, .subscribe ask0 65535 65535 65535, .unsubscribe ask0 255,
     .notifySend 0 (2 ^ 32 - 1) 255 true, .close ask0, .keepalive ask0, .sessionIdleExpiry 0 (2 ^ 32 - 1), .discover ask0 true,
     .modeWrite ask0 65535 ⟨1, 255⟩, .modeChangeEffect 0 65535, .journalCompaction 0, .mgCfgEffect 0, .rcpMgReverted 0,
     .openHello ask0 4294967295 4294967295 4294967295 ⟨1, 255⟩, .openChallengeFetch ask0 4294967295 4294967295,
     .openResponse ask0 4294967295 4294967295 4294967295 ⟨1, 255⟩, .openExchangeTimeout 0, .flowEngineConfigured 0 8191, .flowEngineQuiesced 0 8191,
     .runStart 0 8191, .cellEmit 0 8191 0 0 0 true true 0 0, .cellReceived 0 7 okCell, .mergeCopyArrival 0 8191 1 okCell,
     .mergeWindowEnd 0 8191 (2 ^ 32 - 1), .cellRelease 0 8191, .sourceLossTimeout 0 8191, .take ask0 (2 ^ 128 - 1), .twinTakeRx 0 0 0,
     .twinTakeAck 0 0 0, .twinTakeTimeout 0, .takeApply 0 8191, .delayChangeApply 0 8191, .salvoChangesWrite ask0 15 4294967295 ⟨1, 255⟩,
     .salvoTakeTimeWrite ask0 15 (2 ^ 64 - 1), .salvoArm ask0 15, .salvoAbort ask0 15, .salvoClear ask0 15, .salvoCommitCmd ask0 15,
     .salvoPrepare 0 7 0, .salvoPrepared 0 15, .salvoVoteRx 0 7 0, .salvoDecisionLogged 0 15, .salvoVoteDeadline 0 15] : List Instr).all (fun c => c.wellFormed && answers svc c) = true := by decide

theorem test_wf_accepts_2 :
    ([.salvoCommitRx 0 7 0, .salvoAbortRx 0 7 0, .salvoDecideDeadline 0 15, .salvoQueryTimer 0 15, .salvoQueryRx 0 7 0, .salvoTakeTimeReached 0 15,
     .logSectorErase 0, .planeFail 0 1 0, .planeCmdResetX ask0, .planeCmdResetY ask0, .planeCmdSwap ask0, .planeBistDone 0 1 true true none,
     .planeResyncDone 0 1 [], .planeRebuildDone 0 true, .twinPairingSend 0, .twinPairingRx 0 0, .twinPairingTimeout 0, .twinReconcile 0 0,
     .twinCopyDone 0 [] ⟨[], [], [], []⟩, .twinLost 0 true, .twinCmdMakeActive ask0, .twinSignatureRx 0 8191 0 0 (2 ^ 32 - 1), .twinAnchorSend 0,
     .twinAnchorRx 0 8191 (2 ^ 32 - 1, 0) true, .sdiRxLock 0 127 0, .sdiRxLockLost 0 127, .sdiRxFormatChange 0 127,
     .sdiFormatDetected 0 127 0 0 [] 0 none, .sdiPortResume 0 8191 0 [], .sdiTxFrameBoundary 0 8191 0 0, .holdMaxExpiry 0 8191, .netLinkUp 0 31,
     .netLinkDown 0 31, .netSpareRemap 0 31, .netFrameRx 0 okFrame, .netCtrlFrame 0, .netQueryRx 0 31 255 0 (0, 0), .netQueryResponse 0 255,
     .netMembershipReport 0 255, .igmpReportRepeat 0 255, .ctrlTx ask0 ⟨1, 255⟩, .netResolveRefresh 0 8191 true (some (2 ^ 48 - 1)),
     .netRxSilence 0 8191 true, .net20227Release 0 8191, .netPacketTx 0 8191, .dwlItemRx 0 7 8 0 0 (0, 0) (0, 0) 0, .dwlReplayReqRx 0 7 8 0,
     .dwlLaneMarkerRx 0 7 8 0, .dwlMgmtFrameRx 0 7 0, .dwlMsgTimeout 0, .dwlTrainingBlockRx 0 7 8 0 true, .dwlStepDwellEnd 0 7 8 0] : List Instr).all (fun c => c.wellFormed && answers svc c) = true := by decide

theorem test_wf_accepts_3 :
    ([.dwlStepFailure 0 7 (8, none), .groupMiswiredRetry 0 7, .chainFrameTx 0, .chainFrameRx 0 0, .chainLost 0, .memberReportTx 0,
     .memberReportRx 0 7 0, .chainShortTimeout 0, .beaconTx 0 7, .beaconRx 0 7 0, .beaconLost 0 7, .laneCmdStep ask0 255, .laneCmdSwapOut ask0 255,
     .laneCmdRetrain ask0 255, .laneCmdMarginScan ask0 255 255, .laneCmdMarginAbort ask0 255, .marginScanDone 0 235 0 0, .phyLaneFailed 0 235 0 0,
     .phyDegradeCheck 0 235 0 0, .spareReadinessCheck 0 7 0, .sdiSliceSpare 0 127 true, .memRequestServe 0 31 [okStore] 0, .requestDeadlineMiss 0 31,
     .mr4Poll 0 31 0 true, .srEntry 0 31 true, .srExit 0 31, .chanTrainingSetDone 0 31 true [], .delayRecentre 0 31, .chanDegradeCheck 0 31,
     .chanFail 0 31 0, .chanCmdRetrain ask0 255, .chanCmdRetire ask0 255, .chanCmdRestore ask0 255, .blockRelocated 0 8191 0,
     .patrolTest 0 65535 0 true, .tileFail 0 67, .tileSubstitutionDone 0 63, .tileCmdSubstitute ask0 255, .tileCmdRestore ask0 255,
     .tileCmdTest ask0 255, .tileBistDone 0 67 true, .fsOutputFrame 0 63 true 0, .fsInputLoss 0 63 true, .headFrameBoundary 0 11 [] [],
     .layerFrameComplete 0 191 [], .layerRunStart 0 191, .veneerWrite ask0 65535 65535 65535 65535 65535 true 0, .veneerFlip ask0 511,
     .tallyWrite ask0 191 65535, .cmpEngineFail 0 191, .audioPosition 0, .audioSampleWrite 0 127 0 []] : List Instr).all (fun c => c.wellFormed && answers svc c) = true := by decide

theorem test_wf_accepts_4 :
    ([.sapFrame 0 7 [] true, .servoSample 0, .servoSampleTimeout 0, .servoHoldoverExpiry 0, .timeChangeover 0, .servoCmdStep ask0 0,
     .servoCmdSetRate ask0 0, .servoCmdAddRate ask0 0, .ptpAnnounceRx 0 255 okAnnounce, .ptpLeaderLost 0 255 0 65535, .ptpDelayReqTx 0 255,
     .ptpEventRx 0 255 okPtp, .tcRelay 0 255 0 0 (2 ^ 32 - 1) 0 0 ⟨0, 0, 0, 0, true, ⟨0, 0⟩⟩, .leapSecond 0, .timeOutputEdge 0 2,
     .refPhaseEvent 0 132, .refStop 0 132, .refFreqUpdate 0 [] [], .refHoldoffElapsed 0 132, .dpllLocked 0 7 0, .dpllSwitchMeasured 0 7,
     .dpllHoldoverExpiry 0 7, .dpllCmdPhaseStep ask0 255 0, .dpllCmdClearBuildout ask0 255, .dpllPhaseMoveDone 0 7,
     .ownerCmdEnrol ask0 (2 ^ 256 - 1) 0 0 0, .ownerCmdTransfer ask0 (2 ^ 256 - 1) 0 0 0 0, .ownerCmdRelease ask0 (2 ^ 256 - 1) 0,
     .enrolWindowExpiry 0, .attestNonce ask0 (2 ^ 256 - 1), .debugToken ask0 0 (2 ^ 256 - 1) 0, .updateBegin ask0, .manifestIn ask0 0,
     .imageWrite ask0 5 ⟨1, 255⟩, .updateEnd ask0, .updateAbort ask0, .updateIdleExpiry 0, .activateInService ask0, .activationStepDone 0,
     .activationStepTimeout 0, .activateRestart ask0, .updateAccept ask0, .updateReject ask0, .updateRecover ask0, .trialTimerEnd 0, .fallbackDone 0,
     .slotRCopyDone 0, .recoveryIntervalEnd 0, .faultLatch 0 511 65535 true, .faultConditionEnd 0 511 65535, .faultCmdClear ask0 511,
     .faultCmdClearGroup ask0 511] : List Instr).all (fun c => c.wellFormed && answers svc c) = true := by decide

theorem test_wf_accepts_5 :
    ([.faultCmdClearAll ask0, .faultCmdFirstClear ask0, .faultCmdSummaryClear ask0, .faultCmdBlkrst ask0 511 65535, .faultCmdChiprst ask0 511,
     .faultCmdInject ask0 511 65535, .errnMinExpiry 0, .porstAssert 0 0, .supplyFault 0 2 0, .rstNInput 0 0, .resetCmdCold ask0, .resetCmdWarm ask0,
     .resetCmdDomain ask0 255, .watchdogExpiry 0 7, .resetAssert 0 0, .resetRelease 0 0 true true true 31, .blockResetEnd 0 0 65535, .rstnOutEnd 0 0,
     .fuseLoadDone 0 0 true, .startupStageDone 0 0 [] [] [] [] [], .busTransaction 0 15 (2 ^ 32 - 1) 16 true 0 0 none 0, .busTimeout 0,
     .busCmdUnisolate ask0 31, .busCmdIsolate ask0 31, .busCmdLogClear ask0, .sramEccError 0 65535 0 7 0 true, .knotCopyWrite 0 true,
     .islandHorizonRecompute 0 141 none, .islandWake 0 141 0, .islandRequest ask0 159 255, .pwrWarn 0 true true, .pwrWarnRise 0,
     .logIntervalEnd 0 true true, .eventRecordWrite 0 true, .ringCmdVerify ask0 255, .ringVerifyDone 0, .thermalSample 0 0, .avsUpdate 0 [],
     .avsRetry 0 true, .pmbusPoll 0 [] true, .prbsCheckerLock 0 235, .prbsCheckerUnlock 0 235 0 0, .sdiGroupDeskewLost 0 127 0, .sdiPidAbsent 0 127,
     .netTrainingFailed 0 31 31 true, .mgLinkUp 0 1 3, .mgLinkDown 0 1, .mgSpeedTryTimeout 0 1] : List Instr).all (fun c => c.wellFormed && answers svc c) = true := by decide

-- Every check refuses: the same commands, each with one operand one past the end of its range.
theorem test_wf_refuses_1 :
    ([.read badAsk 65535 255, .read ask0 65536 255, .read ask0 65535 256, .write badAsk 65535 255 ⟨1, 255⟩, .write ask0 65536 255 ⟨1, 255⟩,
     .write ask0 65535 256 ⟨1, 255⟩, .write ask0 65535 255 ⟨1, 256⟩, .readDom badAsk 65535 255 255 4294967295 65535,
     .readDom ask0 65536 255 255 4294967295 65535, .readDom ask0 65535 256 255 4294967295 65535, .readDom ask0 65535 255 256 4294967295 65535,
     .readDom ask0 65535 255 255 4294967296 65535, .readDom ask0 65535 255 255 4294967295 65536, .writeDom badAsk 65535 255 255 4294967295 ⟨1, 255⟩,
     .writeDom ask0 65536 255 255 4294967295 ⟨1, 255⟩, .writeDom ask0 65535 256 255 4294967295 ⟨1, 255⟩,
     .writeDom ask0 65535 255 256 4294967295 ⟨1, 255⟩, .writeDom ask0 65535 255 255 4294967296 ⟨1, 255⟩,
     .writeDom ask0 65535 255 255 4294967295 ⟨1, 256⟩, .transferTimeout 0 (2 ^ 32), .heldRequestDiscard 0 (2 ^ 32), .commit badAsk, .discard badAsk,
     .groupAbort badAsk ⟨1, 255⟩, .groupAbort ask0 ⟨1, 256⟩, .subscribe badAsk 65535 65535 65535, .subscribe ask0 65536 65535 65535,
     .subscribe ask0 65535 65536 65535, .subscribe ask0 65535 65535 65536, .unsubscribe badAsk 255, .unsubscribe ask0 256,
     .notifySend 0 (2 ^ 32) 255 true, .notifySend 0 (2 ^ 32 - 1) 256 true, .close badAsk, .keepalive badAsk, .sessionIdleExpiry 0 (2 ^ 32),
     .discover badAsk true, .modeWrite badAsk 65535 ⟨1, 255⟩, .modeWrite ask0 65536 ⟨1, 255⟩, .modeWrite ask0 65535 ⟨1, 256⟩,
     .modeChangeEffect 0 65536, .openHello badAsk 4294967295 4294967295 4294967295 ⟨1, 255⟩,
     .openHello ask0 4294967296 4294967295 4294967295 ⟨1, 255⟩, .openHello ask0 4294967295 4294967296 4294967295 ⟨1, 255⟩,
     .openHello ask0 4294967295 4294967295 4294967296 ⟨1, 255⟩, .openHello ask0 4294967295 4294967295 4294967295 ⟨1, 256⟩,
     .openChallengeFetch badAsk 4294967295 4294967295, .openChallengeFetch ask0 4294967296 4294967295,
     .openChallengeFetch ask0 4294967295 4294967296, .openResponse badAsk 4294967295 4294967295 4294967295 ⟨1, 255⟩,
     .openResponse ask0 4294967296 4294967295 4294967295 ⟨1, 255⟩, .openResponse ask0 4294967295 4294967296 4294967295 ⟨1, 255⟩] : List Instr).all (fun c => !c.wellFormed) = true := by decide

theorem test_wf_refuses_2 :
    ([.openResponse ask0 4294967295 4294967295 4294967296 ⟨1, 255⟩, .openResponse ask0 4294967295 4294967295 4294967295 ⟨1, 256⟩,
     .flowEngineConfigured 0 8192, .flowEngineQuiesced 0 8192, .runStart 0 8192, .cellEmit 0 8192 0 0 0 true true 0 0, .cellReceived 0 8 okCell,
     .cellReceived 0 7 badCell, .mergeCopyArrival 0 8192 1 okCell, .mergeCopyArrival 0 8191 2 okCell, .mergeCopyArrival 0 8191 1 badCell,
     .mergeWindowEnd 0 8192 (2 ^ 32 - 1), .mergeWindowEnd 0 8191 (2 ^ 32), .cellRelease 0 8192, .sourceLossTimeout 0 8192,
     .take badAsk (2 ^ 128 - 1), .take ask0 (2 ^ 128), .takeApply 0 8192, .delayChangeApply 0 8192, .salvoChangesWrite badAsk 15 4294967295 ⟨1, 255⟩,
     .salvoChangesWrite ask0 16 4294967295 ⟨1, 255⟩, .salvoChangesWrite ask0 15 4294967296 ⟨1, 255⟩, .salvoChangesWrite ask0 15 4294967295 ⟨1, 256⟩,
     .salvoTakeTimeWrite badAsk 15 (2 ^ 64 - 1), .salvoTakeTimeWrite ask0 16 (2 ^ 64 - 1), .salvoTakeTimeWrite ask0 15 (2 ^ 64), .salvoArm badAsk 15,
     .salvoArm ask0 16, .salvoAbort badAsk 15, .salvoAbort ask0 16, .salvoClear badAsk 15, .salvoClear ask0 16, .salvoCommitCmd badAsk 15,
     .salvoCommitCmd ask0 16, .salvoPrepare 0 8 0, .salvoPrepared 0 16, .salvoVoteRx 0 8 0, .salvoDecisionLogged 0 16, .salvoVoteDeadline 0 16,
     .salvoCommitRx 0 8 0, .salvoAbortRx 0 8 0, .salvoDecideDeadline 0 16, .salvoQueryTimer 0 16, .salvoQueryRx 0 8 0, .salvoTakeTimeReached 0 16,
     .planeFail 0 2 0, .planeCmdResetX badAsk, .planeCmdResetY badAsk, .planeCmdSwap badAsk, .planeBistDone 0 2 true true none,
     .planeResyncDone 0 2 [], .twinCmdMakeActive badAsk] : List Instr).all (fun c => !c.wellFormed) = true := by decide

theorem test_wf_refuses_3 :
    ([.twinSignatureRx 0 8192 0 0 (2 ^ 32 - 1), .twinSignatureRx 0 8191 0 0 (2 ^ 32), .twinAnchorRx 0 8192 (2 ^ 32 - 1, 0) true,
     .twinAnchorRx 0 8191 (2 ^ 32, 0) true, .sdiRxLock 0 128 0, .sdiRxLockLost 0 128, .sdiRxFormatChange 0 128,
     .sdiFormatDetected 0 128 0 0 [] 0 none, .sdiPortResume 0 8192 0 [], .sdiTxFrameBoundary 0 8192 0 0, .holdMaxExpiry 0 8192, .netLinkUp 0 32,
     .netLinkDown 0 32, .netSpareRemap 0 32, .netFrameRx 0 badFrame, .netQueryRx 0 32 255 0 (0, 0), .netQueryRx 0 31 256 0 (0, 0),
     .netQueryResponse 0 256, .netMembershipReport 0 256, .igmpReportRepeat 0 256, .ctrlTx badAsk ⟨1, 255⟩, .ctrlTx ask0 ⟨1, 256⟩,
     .netResolveRefresh 0 8192 true (some (2 ^ 48 - 1)), .netResolveRefresh 0 8191 true (some (2 ^ 48)), .netRxSilence 0 8192 true,
     .net20227Release 0 8192, .netPacketTx 0 8192, .dwlItemRx 0 8 8 0 0 (0, 0) (0, 0) 0, .dwlItemRx 0 7 9 0 0 (0, 0) (0, 0) 0,
     .dwlReplayReqRx 0 8 8 0, .dwlReplayReqRx 0 7 9 0, .dwlLaneMarkerRx 0 8 8 0, .dwlLaneMarkerRx 0 7 9 0, .dwlMgmtFrameRx 0 8 0,
     .dwlTrainingBlockRx 0 8 8 0 true, .dwlTrainingBlockRx 0 7 9 0 true, .dwlStepDwellEnd 0 8 8 0, .dwlStepDwellEnd 0 7 9 0,
     .dwlStepFailure 0 8 (8, none), .dwlStepFailure 0 7 (9, none), .groupMiswiredRetry 0 8, .memberReportRx 0 8 0, .beaconTx 0 8, .beaconRx 0 8 0,
     .beaconLost 0 8, .laneCmdStep badAsk 255, .laneCmdStep ask0 256, .laneCmdSwapOut badAsk 255, .laneCmdSwapOut ask0 256,
     .laneCmdRetrain badAsk 255, .laneCmdRetrain ask0 256, .laneCmdMarginScan badAsk 255 255] : List Instr).all (fun c => !c.wellFormed) = true := by decide

theorem test_wf_refuses_4 :
    ([.laneCmdMarginScan ask0 256 255, .laneCmdMarginScan ask0 255 256, .laneCmdMarginAbort badAsk 255, .laneCmdMarginAbort ask0 256,
     .marginScanDone 0 236 0 0, .phyLaneFailed 0 236 0 0, .phyDegradeCheck 0 236 0 0, .spareReadinessCheck 0 8 0, .sdiSliceSpare 0 128 true,
     .memRequestServe 0 32 [okStore] 0, .memRequestServe 0 31 [badStore] 0, .requestDeadlineMiss 0 32, .mr4Poll 0 32 0 true, .srEntry 0 32 true,
     .srExit 0 32, .chanTrainingSetDone 0 32 true [], .delayRecentre 0 32, .chanDegradeCheck 0 32, .chanFail 0 32 0, .chanCmdRetrain badAsk 255,
     .chanCmdRetrain ask0 256, .chanCmdRetire badAsk 255, .chanCmdRetire ask0 256, .chanCmdRestore badAsk 255, .chanCmdRestore ask0 256,
     .blockRelocated 0 8192 0, .patrolTest 0 65536 0 true, .tileFail 0 68, .tileSubstitutionDone 0 64, .tileCmdSubstitute badAsk 255,
     .tileCmdSubstitute ask0 256, .tileCmdRestore badAsk 255, .tileCmdRestore ask0 256, .tileCmdTest badAsk 255, .tileCmdTest ask0 256,
     .tileBistDone 0 68 true, .fsOutputFrame 0 64 true 0, .fsInputLoss 0 64 true, .headFrameBoundary 0 12 [] [], .layerFrameComplete 0 192 [],
     .layerRunStart 0 192, .veneerWrite badAsk 65535 65535 65535 65535 65535 true 0, .veneerWrite ask0 65536 65535 65535 65535 65535 true 0,
     .veneerWrite ask0 65535 65536 65535 65535 65535 true 0, .veneerWrite ask0 65535 65535 65536 65535 65535 true 0,
     .veneerWrite ask0 65535 65535 65535 65536 65535 true 0, .veneerWrite ask0 65535 65535 65535 65535 65536 true 0, .veneerFlip badAsk 511,
     .veneerFlip ask0 512, .tallyWrite badAsk 191 65535, .tallyWrite ask0 192 65535, .tallyWrite ask0 191 65536] : List Instr).all (fun c => !c.wellFormed) = true := by decide

theorem test_wf_refuses_5 :
    ([.cmpEngineFail 0 192, .audioSampleWrite 0 128 0 [], .sapFrame 0 8 [] true, .servoCmdStep badAsk 0, .servoCmdSetRate badAsk 0,
     .servoCmdAddRate badAsk 0, .ptpAnnounceRx 0 256 okAnnounce, .ptpAnnounceRx 0 255 badAnnounce, .ptpLeaderLost 0 256 0 65535,
     .ptpLeaderLost 0 255 0 65536, .ptpDelayReqTx 0 256, .ptpEventRx 0 256 okPtp, .ptpEventRx 0 255 badPtp,
     .tcRelay 0 256 0 0 (2 ^ 32 - 1) 0 0 ⟨0, 0, 0, 0, true, ⟨0, 0⟩⟩, .tcRelay 0 255 0 0 (2 ^ 32) 0 0 ⟨0, 0, 0, 0, true, ⟨0, 0⟩⟩, .timeOutputEdge 0 3,
     .refPhaseEvent 0 133, .refStop 0 133, .refHoldoffElapsed 0 133, .dpllLocked 0 8 0, .dpllSwitchMeasured 0 8, .dpllHoldoverExpiry 0 8,
     .dpllCmdPhaseStep badAsk 255 0, .dpllCmdPhaseStep ask0 256 0, .dpllCmdClearBuildout badAsk 255, .dpllCmdClearBuildout ask0 256,
     .dpllPhaseMoveDone 0 8, .ownerCmdEnrol badAsk (2 ^ 256 - 1) 0 0 0, .ownerCmdEnrol ask0 (2 ^ 256) 0 0 0,
     .ownerCmdTransfer badAsk (2 ^ 256 - 1) 0 0 0 0, .ownerCmdTransfer ask0 (2 ^ 256) 0 0 0 0, .ownerCmdRelease badAsk (2 ^ 256 - 1) 0,
     .ownerCmdRelease ask0 (2 ^ 256) 0, .attestNonce badAsk (2 ^ 256 - 1), .attestNonce ask0 (2 ^ 256), .debugToken badAsk 0 (2 ^ 256 - 1) 0,
     .debugToken ask0 0 (2 ^ 256) 0, .updateBegin badAsk, .manifestIn badAsk 0, .imageWrite badAsk 5 ⟨1, 255⟩, .imageWrite ask0 6 ⟨1, 255⟩,
     .imageWrite ask0 5 ⟨1, 256⟩, .updateEnd badAsk, .updateAbort badAsk, .activateInService badAsk, .activateRestart badAsk, .updateAccept badAsk,
     .updateReject badAsk, .updateRecover badAsk, .faultLatch 0 512 65535 true, .faultLatch 0 511 65536 true, .faultConditionEnd 0 512 65535] : List Instr).all (fun c => !c.wellFormed) = true := by decide

theorem test_wf_refuses_6 :
    ([.faultConditionEnd 0 511 65536, .faultCmdClear badAsk 511, .faultCmdClear ask0 512, .faultCmdClearGroup badAsk 511, .faultCmdClearGroup ask0 512,
     .faultCmdClearAll badAsk, .faultCmdFirstClear badAsk, .faultCmdSummaryClear badAsk, .faultCmdBlkrst badAsk 511 65535,
     .faultCmdBlkrst ask0 512 65535, .faultCmdBlkrst ask0 511 65536, .faultCmdChiprst badAsk 511, .faultCmdChiprst ask0 512,
     .faultCmdInject badAsk 511 65535, .faultCmdInject ask0 512 65535, .faultCmdInject ask0 511 65536, .supplyFault 0 3 0, .resetCmdCold badAsk,
     .resetCmdWarm badAsk, .resetCmdDomain badAsk 255, .resetCmdDomain ask0 256, .watchdogExpiry 0 8, .resetRelease 0 0 true true true 32,
     .blockResetEnd 0 0 65536, .busTransaction 0 16 (2 ^ 32 - 1) 16 true 0 0 none 0, .busTransaction 0 15 (2 ^ 32) 16 true 0 0 none 0,
     .busTransaction 0 15 (2 ^ 32 - 1) 17 true 0 0 none 0, .busCmdUnisolate badAsk 31, .busCmdUnisolate ask0 32, .busCmdIsolate badAsk 31,
     .busCmdIsolate ask0 32, .busCmdLogClear badAsk, .sramEccError 0 65536 0 7 0 true, .sramEccError 0 65535 0 8 0 true,
     .islandHorizonRecompute 0 142 none, .islandWake 0 142 0, .islandRequest badAsk 159 255, .islandRequest ask0 160 255,
     .islandRequest ask0 159 256, .ringCmdVerify badAsk 255, .ringCmdVerify ask0 256, .prbsCheckerLock 0 236, .prbsCheckerUnlock 0 236 0 0,
     .sdiGroupDeskewLost 0 128 0, .sdiPidAbsent 0 128, .netTrainingFailed 0 32 31 true, .netTrainingFailed 0 31 32 true, .mgLinkUp 0 2 3,
     .mgLinkUp 0 1 4, .mgLinkDown 0 2, .mgSpeedTryTimeout 0 2] : List Instr).all (fun c => !c.wellFormed) = true := by decide

-- Check values of the codes the spec names (IEEE 802.3's CRC-32C polynomial, CRC-16/CCITT; R44, R205).
theorem test_crc16_check : crc16 [0x31, 0x32, 0x33, 0x34, 0x35, 0x36, 0x37, 0x38, 0x39] = 0x29B1 := by decide

theorem test_crc32c_check : crc32c [0x31, 0x32, 0x33, 0x34, 0x35, 0x36, 0x37, 0x38, 0x39] = 0xE3069283 := by decide

-- Chapter 01, the example of a UHD flow admitted by trading a HD flow (R25).
theorem test_reserve_uhd : Fmt.reserve (Fmt.active1001 0x7700) = 11187 := by decide

theorem test_reserve_hd : Fmt.reserve (Fmt.active1001 0x6700) = 2797 := by decide

-- R56: an 8-channel 48 kHz ST 2110-30 flow, 9.8304 Mbit/s of media payload.
theorem test_reserve_audio : Fmt.reserve (9830400 * 1001) = 12 := by decide

-- Chapter 02, the example of a frame boundary inside an SDI cell (R51): frame 2 starts in cell 24,169 at payload bit 1,888.
theorem test_frame_bits : Fmt.frameWords 0x6700 * 10 = 49500000 ∧ Fmt.lineWords 0x6700 = 4400 := by decide

theorem test_frame_boundary : Fmt.holdsEnd 0x6700 (24169 * 2048) 2048 = true ∧ Fmt.holdsWord 0x6700 (24169 * 2048) 2048 0 = true ∧
    Fmt.holdsEnd 0x6700 (24168 * 2048) 2048 = false ∧ Fmt.holdsWord 0x6700 (24170 * 2048) 2048 0 = false := by decide

theorem test_frame_position : Fmt.position 0x6700 (24169 * 2048) = (1125, 4212) := by decide

-- Table 05.1's examples: 2160p59.94 on quad-link 3G has four links; R148's bits per line.
theorem test_quad_link : Fmt.links 0x770C = 4 := by decide

theorem test_line_bits : Fmt.linkWords 0x6320 * 10 = 105600 ∧ Fmt.linkWords 0x6700 * 10 = 44000 := by decide

-- R295: a 1080p59.94 3G level A frame is 6,187,500 bytes, 3 blocks; twice its rate is 5,935 Mbit/s.
theorem test_frame_store : Fmt.sdiFrameBytes 0x6700 = 6187500 ∧ ceilDiv (Fmt.sdiFrameBytes 0x6700) blockBytes = 3 ∧
    Fmt.mbps (2 * Fmt.lane1001 0x6700) = 5935 := by decide

-- Chapter 04, the example of a plane failure: the fill time is 691 ns, the direct requirement 1,600 ns (R69).
theorem test_fill : Fmt.fillNs 2048 (Fmt.lane1001 0x6700) = 691 ∧ Fmt.requirement 691 0 = 1600 := by decide

-- R75: at KERF_LINES 2 a 1080p59.94 source 20.000 µs early is timed, one 41.500 µs late is not.
theorem test_kerf : (dev.wr D.Flow.FORMAT 4096 0x6700).inKerf 4096 (-20000 * (Fmt.fps 0x6700 : Nat)) = true ∧
    (dev.wr D.Flow.FORMAT 4096 0x6700).inKerf 4096 (41500 * (Fmt.fps 0x6700 : Nat)) = false := by decide

-- R221: member 1 of the four-device ensemble.
theorem test_mesh : (List.range 7).map (meshPeer 4 1) =
    [some (2, 2), some (3, 1), some (0, 0), some (2, 5), some (3, 4), some (0, 3), some (3, 6)] := by decide

-- Table 13.1: the rate change at RAW 5,004,000,000,000. Its rate term multiplies RATE by 4 × 10¹², which is what passed since the
-- epoch only where the epoch is 1,004,000,000,000 (the table's epoch, 5,000,000,000,000, gives 4 × 10⁹; assumption log, 13).
def beforeRate : Dev :=
  { (((dev.wr D.Time.RATE_EPOCH 0 1004000000000).wrI D.Time.RATE 0 11258999068).wr D.Time.OFFSET 0 1750000000000000000) with raw := 5004000000000 }

theorem test_rate_before : beforeRate.now = 1750005004009999999 := by decide

theorem test_rate_change : (beforeRate.setRate 6755399441).rd D.Time.OFFSET 0 = 1750000000009999999 ∧
    (beforeRate.setRate 6755399441).rd D.Time.RATE_EPOCH 0 = 5004000000000 ∧ (beforeRate.setRate 6755399441).now = 1750005004009999999 := by decide

theorem test_rate_after : ((beforeRate.setRate 6755399441).elapse 1000000000).now = 1750005005010001498 := by decide

-- R370: a 48-bit time stands for the nearest 64-bit one, on either side of a wrap.
theorem test_extend48 : { dev with raw := 2 ^ 48 + 5 }.extend48 (2 ^ 48 - 3) = 2 ^ 48 - 3 ∧ { dev with raw := 2 ^ 48 - 3 }.extend48 5 = 2 ^ 48 + 5 := by decide

-- R382: a Sync with a residence time of 1,850 ns and a link delay of 412 ns gains 0x08D60000.
theorem test_residence : (match exec (.tcRelay 0 0 0 5 7 ((dev.raw : Nat) + 2 ^ 20 - 1850) 0 ⟨0xFFFFC0A80001, 0xFFFFC0A80002, 319, 319, true, ⟨0, 0⟩⟩)
      (svcWith (fun d => { set [(D.Tc.TC_ENABLE, 0, 1), (D.Tc.TC_MECH, 0, 1), (D.Tc.TC_DOMAIN, 0, 5), (D.Tc.TC_PORTS, 0, 257), (D.Tc.MEAN_LINK_DELAY, 0, 412),
        (D.PortStatus.LINK, 1, 2), (D.IfCfg.ENABLE, 8, 1)] d with raw := dev.raw + 2 ^ 20 })) with
    | .next t => t.dev.out.map (fun e => match e with | .ptp port i m => (port, i, m.kind, m.seq, m.corr) | _ => (0, 0, 0, 0, 0))
    | _ => []) = [(1, 0, 0, 7, 0x08D60000)] := by decide

-- Witnesses: the hypotheses of the statements that are about every request, clause by clause.

/-- The session's next request, as a command that waits for the management software. -/
def waits : State := svcWith (fun d => { d with sec := { d.sec with waiting := [.keepalive (ask 11)] } })

/-- A request held behind a gap that has been filled. -/
def holds : State := svcWith (fun d => { d with rcp := { d.rcp with sessions := [{ owner with held := [(8, .keepalive (ask 11))] }] } })

/-- The owner's session holds a commit group. -/
def grouped : State := svcWith (fun d => { d with rcp := { d.rcp with group := some ⟨1, [], 0⟩ } })

theorem wit_StepRunsFront : (⟨dev, [], [.twinTakeTimeout 5]⟩ : State).pending = .twinTakeTimeout 5 :: [] := rfl

theorem wit_StepIdles : svc.pending = [] ∧ svc.dev.readyRequest.isNone = true ∧ svc.dev.heldRequest.isNone = true := by decide

theorem wit_StepIdles_waiting : waits.pending = [] ∧ waits.dev.readyRequest.isSome = true ∧
    (match step waits with | .next t => t.dev.answered (ask 11) St.OK | _ => false) = true := by decide

theorem wit_StepIdles_held : holds.pending = [] ∧ holds.dev.readyRequest.isNone = true ∧ holds.dev.heldRequest.isSome = true ∧
    (match step holds with | .next t => t.dev.answered (ask 11) St.OK | _ => false) = true := by decide

theorem wit_StepKeepsMemory : Memory.wf [((3 : Nat), (7 : BitVec 8))] = true ∧ Memory.inside [((3 : Nat), (7 : BitVec 8))] = true ∧
    answers ⟨dev, [(3, 7)], [.twinTakeTimeout 5]⟩ (.twinTakeTimeout 5) = true := by decide

theorem wit_StepKeepsSessions : svc.dev.rcp.sessions.length = 1 ∧ svc.dev.rcp.sessions.length ≤ 16 ∧ svc.dev.rcp.opens.length ≤ 4 ∧
    (match step svc with | .next _ => true | _ => false) = true := by decide

theorem wit_NothingOutsideItsTime_request : State.reset.dev.memQ = [] ∧ State.reset.dev.listens (ask 1).via = false ∧
    requestOf (.read (ask 1) 0x0100 1) = some (ask 1) := by decide

theorem wit_NothingOutsideItsTime_media : State.reset.dev.memQ = [] ∧ State.reset.dev.serving = false ∧ mediaDt (.takeApply 5 4096) = some 5 := by decide

theorem wit_BadFramesAreDiscarded : svc.dev.memQ = [] ∧ svc.dev.listens 0 = true ∧ svc.dev.discards { ask 1 with magic := 0 } = true ∧
    svc.dev.discards { ask 1 with closing := .crc true } = true ∧ (svc.dev.session? 1).isSome = true := by decide

theorem wit_BadFramesAreDiscarded_unknown : svc.dev.memQ = [] ∧ svc.dev.listens 0 = true ∧ svc.dev.discards (ask 9) = false ∧ (ask 9).session ≠ 0 ∧
    (svc.dev.session? 1).map (fun x => decide (sdiff (ask 9).seq x.last 32 = 1)) = some true ∧ unknownOp (ask 9).op = true ∧
    requestOf (.read (ask 9) 0x0100 1) = some (ask 9) := by decide

/-- A session that answered request 7 before. -/
def answered7 : State := svcWith (fun d => { d with rcp := { d.rcp with sessions := [{ owner with cache := [⟨7, 11, 0, ⟨0, 0⟩⟩] }] } })

theorem wit_RequestsRunInOrder_early : svc.dev.memQ = [] ∧ svc.dev.listens 0 = true ∧ svc.dev.discards (askSeq 11 15) = false ∧
    sdiff (15 : Nat) owner.last 32 = 8 ∧ sdiff (9 : Nat) owner.last 32 = 2 ∧ requestOf (.keepalive (askSeq 11 15)) = some (askSeq 11 15) := by decide

theorem wit_RequestsRunInOrder_again : answered7.dev.memQ = [] ∧ answered7.dev.listens 0 = true ∧ answered7.dev.discards (askSeq 11 7) = false ∧
    sdiff (7 : Nat) owner.last 32 = 0 ∧ ((answered7.dev.session? 1).map (fun x => (x.cache.find? (fun k => k.seq == 7)).isSome)) = some true := by decide

theorem wit_RequestsRunInOrder_outside : svc.dev.memQ = [] ∧ svc.dev.listens 0 = true ∧ svc.dev.discards (askSeq 11 16) = false ∧
    sdiff (16 : Nat) owner.last 32 = 9 ∧ sdiff (2 ^ 32 - 25 : Nat) owner.last 32 = -32 := by decide

theorem wit_NoEntryOutsideTheDirectory : outsideDirectory 0x1400 = true ∧ outsideDirectory 0xFFFF = true ∧ outsideDirectory 0x13FF = false ∧
    svc.dev.takes (ask 1) = true ∧ svc.dev.memQ = [] ∧ 1 ≤ (⟨1024, 0⟩ : Bytes).len ∧ (⟨1024, 0⟩ : Bytes).len ≤ 1024 := by decide

theorem wit_RefusedWritesChangeNothing : svc.dev.takes (ask 2) = true ∧
    svc.dev.writeFail (svc.dev.asker (ask 2)) 0x4000 0x12 ⟨1, 0⟩ = some St.ACCESS ∧ svc.dev.writeFail (svc.dev.asker (ask 2)) 0x4000 0x02 ⟨2, 0⟩ = some St.TYPE := by
  decide

theorem wit_RefusedWritesChangeNothing_access : (Dict.row 0x4000 0x12).map (fun r => r.acc) = some 0 ∧
    (Dict.row 0x0100 0x05).map (fun r => decide (r.acc ≠ 0 ∧ r.acc ≠ 3 ∧ (3 : Nat) < r.role)) = some true := by decide

theorem wit_RefusedWritesChangeNothing_type : (Dict.row 0x4000 0x02).map (fun r => decide (r.acc ≠ 0 ∧ r.acc ≠ 3 ∧ r.role ≤ 4 ∧ r.role ≠ 4 ∧ (2 : Nat) ≠ r.size)) =
    some true := by decide

theorem wit_RefusedWritesChangeNothing_range : (Dict.row 0x0C00 0x03).map (fun r => decide (r.acc ≠ 0 ∧ r.acc ≠ 3 ∧ r.role ≤ 4 ∧ r.role ≠ 4 ∧ r.ty ≠ 13 ∧
    r.size ≤ 1096 ∧ (4 : Nat) = r.size ∧ r.typed 3999 = true ∧ r.chk.ok 3999 = false ∧ r.chk.ok 4000 = true)) = some true := by decide

theorem wit_RefusedWritesChangeNothing_role : svc.dev.writeFail ⟨1, 2, 0⟩ 0x4000 0x02 ⟨1, 0⟩ = none := by decide

theorem wit_GroupsEnd_discard : grouped.dev.takes (ask 6) = true ∧ grouped.dev.groupHolder = (ask 6).session := by decide

theorem wit_GroupsEnd_idleSession : (grouped.dev.session? 1).isSome = true ∧ grouped.dev.groupHolder = 1 ∧
    (grouped.dev.elapse (2 ^ 40)).past ((grouped.dev.session? 1).map (fun x => x.reqAt)).get! (grouped.dev.rd D.Rcp.SESSION_IDLE_S 0 * 1000000000) = true := by decide

theorem wit_GroupsEnd_reset : ({ grouped.dev with rst := { grouped.dev.rst with entering := [⟨2, 2, 0, 0, 0, 0, 0, 0⟩] } } : Dev).rst.entering[0]? = some ⟨2, 2, 0, 0, 0, 0, 0, 0⟩ := by
  decide

theorem wit_GroupsEnd_abort : grouped.dev.grants (ask 2) 0x0100 0x0B ⟨1, 1⟩ = true ∧ grouped.dev.rcp.group.isSome = true := by decide

theorem wit_GroupsEnd_idle : (grouped.dev.elapse 30000000000).past 0 (grouped.dev.rd D.Rcp.GROUP_IDLE_S 0 * 1000000000) = true ∧
    (grouped.dev.elapse 29999999999).past 0 (grouped.dev.rd D.Rcp.GROUP_IDLE_S 0 * 1000000000) = false := by decide

theorem wit_GroupsEnd_stage : (match svc.dev.stageAll ⟨1, 4, 0⟩ [(⟨0x4000, 2, 0⟩, 1)] with | (e, st) => st == St.OK && e.rcp.group.isSome) = true := by decide

theorem wit_GroupsEnd_commit : svc.dev.takes (ask 5) = true ∧ svc.dev.rcp.group.isNone = true ∧ (svc.dev.session? (ask 5).session).isSome = true := by decide

end Sys2Proof.Tests
end

