-- ==== Sys2Proof/Tests/Witness.lean ====
section
/-! SUPPORT. For every statement with hypotheses, a state and operands that meet them all: one theorem per clause. -/

namespace Sys2Proof.Tests

open Sys2Proof Sys2Proof.Machine

set_option maxRecDepth 100000
set_option exponentiation.threshold 600

theorem crc_ten {f : Nat → Nat → Nat} (a b : Nat) (h : [0, 0, 0, 0, 0, 0, 0, 0, 0, 0].foldl f a = b) (l : List Nat) :
    (0 :: 0 :: 0 :: 0 :: 0 :: 0 :: 0 :: 0 :: 0 :: 0 :: l).foldl f a = l.foldl f b := by
  rw [← h]
  rfl

theorem crc_first (l : List Nat) :
    (128 :: 0 :: 0 :: 0 :: 0 :: 0 :: 0 :: 0 :: 0 :: 0 :: l).foldl crc32cByte 0xFFFFFFFF = l.foldl crc32cByte 1715299504 :=
  congrArg (fun x => l.foldl crc32cByte x) (show [128, 0, 0, 0, 0, 0, 0, 0, 0, 0].foldl crc32cByte 0xFFFFFFFF = 1715299504 by decide)

theorem crc_sixty : crc32c (bytesOf 60 (2 ^ 479)) = 1076610027 := by
  have h : bytesOf 60 (2 ^ 479) = 128 :: List.replicate 59 0 := by decide
  rw [h, crc32c]
  simp only [List.replicate]
  rw [crc_first, crc_ten _ 2639344842 (by decide), crc_ten _ 4008222184 (by decide), crc_ten _ 3068086429 (by decide),
    crc_ten _ 57093532 (by decide), crc_ten _ 3218357268 (by decide)]
  decide

theorem rd_setChan (d : Dev) (n : Nat) (f : ChanSt → ChanSt) (g : Fld) (m : Nat) : (d.setChan n f).rd g m = d.rd g m := (rfl)

theorem rd_two (d : Dev) (n v : Nat) (f : ChanSt → ChanSt) :
    (((d.wr D.ChanStatus.STATE 31 1).wr D.Chan.DELAY_SETS n v).setChan 31 f).rd D.Chan.DELAY_SETS n = v % 2 ^ D.Chan.DELAY_SETS.w := by
  rw [rd_setChan, Dev.rd_wr_same]

theorem inTraining_rd : inTraining.dev.rd D.Chan.DELAY_SETS 255 = 0x800000000000000000000000000000000000000000000000000000000000000000000000000000000000000000000000000000000000000000000000402bc3eb :=
  (rd_two dev 255 _ _).trans (Nat.mod_eq_of_lt (by decide))

theorem inTraining_chan : inTraining.dev.chanSt 31 = { passed := some 7, restore := true, defects := [65504] } := by decide

theorem inTraining_valid : inTraining.dev.setValid 31 7 = true := by
  unfold Dev.setValid
  rw [show 8 * 31 + 7 = 255 from rfl, inTraining_rd]
  show (bit 0x800000000000000000000000000000000000000000000000000000000000000000000000000000000000000000000000000000000000000000000000402bc3eb 511 && 0x800000000000000000000000000000000000000000000000000000000000000000000000000000000000000000000000000000000000000000000000402bc3eb % 2 ^ 32 == crc32c (bytesOf 60 (0x800000000000000000000000000000000000000000000000000000000000000000000000000000000000000000000000000000000000000000000000402bc3eb / 2 ^ 32))) = true
  rw [show 0x800000000000000000000000000000000000000000000000000000000000000000000000000000000000000000000000000000000000000000000000402bc3eb / 2 ^ 32 = 2 ^ 479 by decide, crc_sixty]
  decide

theorem inTraining_set : inTraining.dev.setTried 31 = some 7 := by
  unfold Dev.setTried
  rw [inTraining_chan]
  simp [inTraining_valid]

theorem rd_state (d : Dev) (n v : Nat) (f : ChanSt → ChanSt) :
    (((d.wr D.ChanStatus.STATE 31 1).wr D.Chan.DELAY_SETS n v).setChan 31 f).rd D.ChanStatus.STATE 31 = 1 := by
  rw [rd_setChan, Dev.rd_wr_apart _ _ _ _ _ _ (by decide), Dev.rd_wr_same]
  rfl

theorem inTraining_state : inTraining.dev.chanState 31 = ChanState.TRAINING := rd_state dev 255 _ _

theorem sealed (v c : Nat) (h : c < 2 ^ 32) : bitsOf (v * 2 ^ 32 + c) 0 32 = c ∧ (v * 2 ^ 32 + c) / 2 ^ 32 = v := by
  unfold bitsOf
  omega

/-- A pairing block of an ensemble of one, plane B, enabled, not reset since, before any record was taken. -/
def pairValue (g i : Nat) : Nat := 0x5457494E * 2 ^ 320 + 1 * 2 ^ 304 + 160 * 2 ^ 288 + 1 * 2 ^ 280 + g * 2 ^ 224 + i * 2 ^ 32

theorem pairBlock_of (d : Dev) (h1 : d.me = 0) (h2 : d.rd D.Straps.PLANE_B 0 = 1) (h3 : d.twin.resetSince = false)
    (h4 : d.on D.Twin.ENABLE 0 = true) (h5 : d.ensSize = 1) (h6 : d.rd D.XpCount.RECORD_GENERATION 0 = 0) :
    ∃ i, i < 2 ^ 128 ∧ d.pairBlock = pairValue d.frameDigest i * 2 ^ 32 + crc32c (bytesOf 44 (pairValue d.frameDigest i)) := by
  refine ⟨Config.shake256 ⟨1952, Config.identityPublic⟩ % 2 ^ 256 / 2 ^ 128, by omega, ?_⟩
  unfold Dev.pairBlock
  rw [h1, h2, h3, h4, h5, h6]
  generalize d.frameDigest = g
  generalize Config.shake256 ⟨1952, Config.identityPublic⟩ % 2 ^ 256 / 2 ^ 128 = i
  refine congrArg (fun v : Nat => v * 2 ^ 32 + crc32c (bytesOf 44 v)) ?_
  rw [show ofBool false = 0 from rfl, show ofBool true = 1 from rfl]
  unfold pairValue
  omega

theorem pairing_block : ∃ g i : Nat, g < 2 ^ 32 ∧ i < 2 ^ 128 ∧ g = pairing.dev.frameDigest ∧
    (pairing.dev.wr D.Straps.PLANE_B 0 1).pairBlock = pairValue g i * 2 ^ 32 + crc32c (bytesOf 44 (pairValue g i)) := by
  have h7 : (pairing.dev.wr D.Straps.PLANE_B 0 1).frameDigest = pairing.dev.frameDigest := by
    unfold Dev.frameDigest
    rw [Dev.rd_wr_apart _ _ _ _ _ _ (by decide)]
  obtain ⟨i, hi, h⟩ := pairBlock_of (pairing.dev.wr D.Straps.PLANE_B 0 1) (by decide) (by decide) (by decide) (by decide) (by decide) (by decide)
  rw [h7] at h
  exact ⟨_, i, by unfold Dev.frameDigest; omega, hi, rfl, h⟩

theorem pairing_match : pairing.dev.pairMatch ((pairing.dev.wr D.Straps.PLANE_B 0 1).pairBlock) = true := by
  obtain ⟨g, i, hg, hi, hd, hb⟩ := pairing_block
  rw [hb]
  generalize hv : pairValue g i = v
  have hc := crc32c_lt 44 v
  have hs := sealed v _ hc
  unfold Dev.pairMatch
  have h0 : PairBlock.crcOk (v * 2 ^ 32 + crc32c (bytesOf 44 v)) = true := by
    unfold PairBlock.crcOk
    rw [hs.1, hs.2]
    simp
  rw [h0, ← hd, show pairing.dev.me = 0 by decide, show pairing.dev.rd D.Straps.PLANE_B 0 = 0 by decide,
    show pairing.dev.ensSize = 1 by decide, show pairing.dev.on D.Twin.ENABLE 0 = true by decide]
  generalize crc32c (bytesOf 44 v) = c at *
  subst hv
  have e1 : PairBlock.magic (pairValue g i * 2 ^ 32 + c) = 0x5457494E := by
    unfold PairBlock.magic bitsOf pairValue; omega
  have e2 : PairBlock.layout (pairValue g i * 2 ^ 32 + c) = 1 := by
    unfold PairBlock.layout bitsOf pairValue; omega
  have e3 : PairBlock.member (pairValue g i * 2 ^ 32 + c) = 0 := by
    unfold PairBlock.member bitsOf pairValue; omega
  have e4 : PairBlock.planeB (pairValue g i * 2 ^ 32 + c) = 1 := by
    unfold PairBlock.planeB bitsOf pairValue; omega
  have e5 : PairBlock.size (pairValue g i * 2 ^ 32 + c) = 1 := by
    unfold PairBlock.size bitsOf pairValue; omega
  have e6 : PairBlock.digest (pairValue g i * 2 ^ 32 + c) = g := by
    unfold PairBlock.digest bitsOf pairValue; omega
  have e7 : PairBlock.enable (pairValue g i * 2 ^ 32 + c) = true := by
    unfold PairBlock.enable bit pairValue; simp only [beq_iff_eq]; omega
  rw [e1, e2, e3, e4, e5, e6, e7]
  simp

theorem frame_ok (v : Nat) (h : v / 2 ^ 2216 % 256 = 0xF0) : itemOk ((v * 2 ^ 32 + crc32c (bytesOf 278 v)) * 65536) = true := by
  have hc := crc32c_lt 278 v
  have h1 : bitsOf ((v * 2 ^ 32 + crc32c (bytesOf 278 v)) * 65536) 16 32 = crc32c (bytesOf 278 v) := by
    generalize crc32c (bytesOf 278 v) = c at *
    unfold bitsOf
    omega
  have h2 : (v * 2 ^ 32 + crc32c (bytesOf 278 v)) * 65536 / 2 ^ 48 = v := by
    generalize crc32c (bytesOf 278 v) = c at *
    omega
  have h3 : isMgmt ((v * 2 ^ 32 + crc32c (bytesOf 278 v)) * 65536) = true := by
    unfold isMgmt bitsOf
    rw [show (2 : Nat) ^ 2264 = 2 ^ 48 * 2 ^ 2216 from (Nat.pow_add 2 48 2216), ← Nat.div_div_eq_div_mul, h2]
    simp [h]
  unfold itemOk
  rw [h3, h1, h2]
  simp

theorem ownFrame_ok : itemOk ownFrame = true := frame_ok _ (by decide)

theorem train_ok (g : Nat) (h : g < 2 ^ 32) : Train.ok (trainBlock7 g) = true ∧ Train.member (trainBlock7 g) = 0 ∧ Train.card (trainBlock7 g) = 1
    ∧ Train.group (trainBlock7 g) = 7 ∧ Train.lane (trainBlock7 g) = 8 ∧ Train.size (trainBlock7 g) = 1 ∧ Train.digest (trainBlock7 g) = g
    ∧ Train.kind (trainBlock7 g) = 1 := by
  have hlt := crc16_lt 14 (trainValue g)
  have hb : trainBlock7 g = trainValue g * 65536 + crc16 (bytesOf 14 (trainValue g)) := rfl
  generalize hc : crc16 (bytesOf 14 (trainValue g)) = c at *
  generalize trainBlock7 g = b at *
  have h2 : b / 65536 = trainValue g := by rw [hb]; omega
  have h1 : bitsOf b 0 16 = c := by rw [hb]; unfold bitsOf; omega
  have hv : trainValue g = 2 ^ 108 + 2 ^ 105 + 2 ^ 101 + 7 * 2 ^ 98 + 8 * 2 ^ 94 + 2 ^ 90 + 4 * 2 ^ 86 + g * 2 ^ 48 := rfl
  have hk : Train.kind b = 1 := by unfold Train.kind bitsOf; omega
  have h4 : bitsOf b 96 6 = 0 := by unfold bitsOf; omega
  have h5 : bitsOf b 16 32 = 0 := by unfold bitsOf; omega
  refine ⟨?_, ?_, ?_, ?_, ?_, ?_, ?_, hk⟩
  · unfold Train.ok
    rw [h1, h2, hk, h4, h5, hc]
    simp
  · unfold Train.member bitsOf; omega
  · unfold Train.card bitsOf; omega
  · unfold Train.group bitsOf; omega
  · unfold Train.lane bitsOf; omega
  · unfold Train.size bitsOf; omega
  · unfold Train.digest bitsOf; omega

theorem digest_lt (d : Dev) : d.frameDigest < 2 ^ 32 := by unfold Dev.frameDigest; omega

theorem postponed_zero (d : Dev) (c : Nat) (h : d.wall = (d.chanSt c).refreshed) : d.postponed c < 8 := by
  unfold Dev.postponed
  rw [h, Nat.sub_self, Nat.zero_div]
  decide

theorem wit_FlowEnginesComplete_flowEngineConfigured : (svcSet [(D.Flow.STATE, 8191, 1), (D.Flow.KIND, 8191, 0x42)] : State).dev.serving = true ∧ (8191 : Nat) < 8192 ∧ (svcSet [(D.Flow.STATE, 8191, 1), (D.Flow.KIND, 8191, 0x42)] : State).dev.rd D.Flow.STATE (8191 : Nat) = FlowState.STARTING ∧ ((svcSet [(D.Flow.STATE, 8191, 1), (D.Flow.KIND, 8191, 0x42)] : State).dev.flowSt (8191 : Nat)).stop = false := by decide

theorem wit_FlowEnginesComplete_flowEngineQuiesced : (svcSet [(D.Flow.STATE, 4096, 3), (D.Flow.KIND, 4096, 0x42)] : State).dev.serving = true ∧ (4096 : Nat) < 8192 ∧ (svcSet [(D.Flow.STATE, 4096, 3), (D.Flow.KIND, 4096, 0x42)] : State).dev.rd D.Flow.STATE (4096 : Nat) = FlowState.STOPPING ∧ (svcSet [(D.Flow.STATE, 4096, 3), (D.Flow.KIND, 4096, 0x42)] : State).dev.on D.Flow.ENABLE (4096 : Nat) = false := by decide

theorem wit_FlowEnginesComplete_flowEngineQuiesced_2 : (svcSet [(D.Flow.STATE, 0, 3), (D.Flow.ENABLE, 0, 1), (D.Flow.CELLS, 0, 9)] : State).dev.serving = true ∧ (0 : Nat) < 8192 ∧ (svcSet [(D.Flow.STATE, 0, 3), (D.Flow.ENABLE, 0, 1), (D.Flow.CELLS, 0, 9)] : State).dev.rd D.Flow.STATE (0 : Nat) = FlowState.STOPPING ∧ (svcSet [(D.Flow.STATE, 0, 3), (D.Flow.ENABLE, 0, 1), (D.Flow.CELLS, 0, 9)] : State).dev.on D.Flow.ENABLE (0 : Nat) = true := by decide

theorem wit_FlowEnginesComplete_runStart : (svcSet [(D.Flow.STATE, 4095, 2), (D.Flow.KIND, 4095, 2), (D.FlowStatus.SOURCE_LOST, 4095, 1)] : State).dev.serving = true ∧ (4095 : Nat) < 4096 ∧ (svcSet [(D.Flow.STATE, 4095, 2), (D.Flow.KIND, 4095, 2), (D.FlowStatus.SOURCE_LOST, 4095, 1)] : State).dev.running (4095 : Nat) = true ∧ ((svcSet [(D.Flow.STATE, 4095, 2), (D.Flow.KIND, 4095, 2), (D.FlowStatus.SOURCE_LOST, 4095, 1)] : State).dev.flowSt (4095 : Nat)).begun = false ∧ (svcSet [(D.Flow.STATE, 4095, 2), (D.Flow.KIND, 4095, 2), (D.FlowStatus.SOURCE_LOST, 4095, 1)] : State).dev.kind (4095 : Nat) ≠ 1 := by decide

theorem wit_FlowEnginesComplete_cellEmit : (svcWith (fun d => (set [(D.Flow.STATE, 3, 2), (D.Flow.KIND, 3, 1), (D.Flow.FORMAT, 3, 0x6700), (D.Flow.SEQ_NEXT, 3, 2 ^ 32 - 1), (D.Plane.STATE, 0, 3)] d).setFlow 3 (fun x => { x with begun := true, base := some (2 ^ 32 - 3), lastItime := some 90 })) : State).dev.serving = true ∧ (3 : Nat) < 4096 ∧ (svcWith (fun d => (set [(D.Flow.STATE, 3, 2), (D.Flow.KIND, 3, 1), (D.Flow.FORMAT, 3, 0x6700), (D.Flow.SEQ_NEXT, 3, 2 ^ 32 - 1), (D.Plane.STATE, 0, 3)] d).setFlow 3 (fun x => { x with begun := true, base := some (2 ^ 32 - 3), lastItime := some 90 })) : State).dev.running (3 : Nat) = true ∧ (svcWith (fun d => (set [(D.Flow.STATE, 3, 2), (D.Flow.KIND, 3, 1), (D.Flow.FORMAT, 3, 0x6700), (D.Flow.SEQ_NEXT, 3, 2 ^ 32 - 1), (D.Plane.STATE, 0, 3)] d).setFlow 3 (fun x => { x with begun := true, base := some (2 ^ 32 - 3), lastItime := some 90 })) : State).dev.kind (3 : Nat) = 1 ∧ ((svcWith (fun d => (set [(D.Flow.STATE, 3, 2), (D.Flow.KIND, 3, 1), (D.Flow.FORMAT, 3, 0x6700), (D.Flow.SEQ_NEXT, 3, 2 ^ 32 - 1), (D.Plane.STATE, 0, 3)] d).setFlow 3 (fun x => { x with begun := true, base := some (2 ^ 32 - 3), lastItime := some 90 })) : State).dev.flowSt (3 : Nat)).begun = true ∧ ((svcWith (fun d => (set [(D.Flow.STATE, 3, 2), (D.Flow.KIND, 3, 1), (D.Flow.FORMAT, 3, 0x6700), (D.Flow.SEQ_NEXT, 3, 2 ^ 32 - 1), (D.Plane.STATE, 0, 3)] d).setFlow 3 (fun x => { x with begun := true, base := some (2 ^ 32 - 3), lastItime := some 90 })) : State).dev.flowSt (3 : Nat)).base.isSome = true ∧ ((svcWith (fun d => (set [(D.Flow.STATE, 3, 2), (D.Flow.KIND, 3, 1), (D.Flow.FORMAT, 3, 0x6700), (D.Flow.SEQ_NEXT, 3, 2 ^ 32 - 1), (D.Plane.STATE, 0, 3)] d).setFlow 3 (fun x => { x with begun := true, base := some (2 ^ 32 - 3), lastItime := some 90 })) : State).dev.flowSt (3 : Nat)).lastItime.all (fun t0 => decide (0 ≤ sdiff ((100 : Nat) + (if 1 < Fmt.links ((svcWith (fun d => (set [(D.Flow.STATE, 3, 2), (D.Flow.KIND, 3, 1), (D.Flow.FORMAT, 3, 0x6700), (D.Flow.SEQ_NEXT, 3, 2 ^ 32 - 1), (D.Plane.STATE, 0, 3)] d).setFlow 3 (fun x => { x with begun := true, base := some (2 ^ 32 - 3), lastItime := some 90 })) : State).dev.format (3 : Nat)) then ((svcWith (fun d => (set [(D.Flow.STATE, 3, 2), (D.Flow.KIND, 3, 1), (D.Flow.FORMAT, 3, 0x6700), (D.Flow.SEQ_NEXT, 3, 2 ^ 32 - 1), (D.Plane.STATE, 0, 3)] d).setFlow 3 (fun x => { x with begun := true, base := some (2 ^ 32 - 3), lastItime := some 90 })) : State).dev.rxSt ((svcWith (fun d => (set [(D.Flow.STATE, 3, 2), (D.Flow.KIND, 3, 1), (D.Flow.FORMAT, 3, 0x6700), (D.Flow.SEQ_NEXT, 3, 2 ^ 32 - 1), (D.Plane.STATE, 0, 3)] d).setFlow 3 (fun x => { x with begun := true, base := some (2 ^ 32 - 3), lastItime := some 90 })) : State).dev.bindIx (3 : Nat))).lag else 0)) t0 48)) = true ∧ 1 ≤ (256 : Nat) ∧ (256 : Nat) ≤ 256 ∧ 8 * ((256 : Nat) - 1) < ((svcWith (fun d => (set [(D.Flow.STATE, 3, 2), (D.Flow.KIND, 3, 1), (D.Flow.FORMAT, 3, 0x6700), (D.Flow.SEQ_NEXT, 3, 2 ^ 32 - 1), (D.Plane.STATE, 0, 3)] d).setFlow 3 (fun x => { x with begun := true, base := some (2 ^ 32 - 3), lastItime := some 90 })) : State).dev.cellPlace (3 : Nat) (256 : Nat) 0 false false).bits := by decide

theorem wit_CellsAreTakenOrCounted_cellReceived : (svcSet [(D.Flow.STATE, 7, 2), (D.Flow.ENABLE, 7, 1), (D.Flow.KIND, 7, 8), (D.Flow.EFN, 7, 8192), (D.Plane.STATE, 0, 3)] : State).dev.serving = true ∧ (6 : Nat) < 7 ∧ (svcSet [(D.Flow.STATE, 7, 2), (D.Flow.ENABLE, 7, 1), (D.Flow.KIND, 7, 8), (D.Flow.EFN, 7, 8192), (D.Plane.STATE, 0, 3)] : State).dev.peerOf (Cell.build 1 true false false 8192 0 100 1 256 0 77 : Cell).efn = some (7 : Nat) ∧ (svcSet [(D.Flow.STATE, 7, 2), (D.Flow.ENABLE, 7, 1), (D.Flow.KIND, 7, 8), (D.Flow.EFN, 7, 8192), (D.Plane.STATE, 0, 3)] : State).dev.running (7 : Nat) = true ∧ cellAccepted (Cell.build 1 true false false 8192 0 100 1 256 0 77 : Cell) 0 = true ∧ pathVias ((svcSet [(D.Flow.STATE, 7, 2), (D.Flow.ENABLE, 7, 1), (D.Flow.KIND, 7, 8), (D.Flow.EFN, 7, 8192), (D.Plane.STATE, 0, 3)] : State).dev.rd D.Flow.PATH (7 : Nat)) = [] := by decide

theorem wit_CellsAreTakenOrCounted_cellReceived_2 : (svcSet [(D.Flow.STATE, 7, 2), (D.Flow.ENABLE, 7, 1), (D.Flow.KIND, 7, 8), (D.Flow.EFN, 7, 8192), (D.Flow.MALFORMED, 7, 2 ^ 32 - 1), (D.Plane.STATE, 0, 3)] : State).dev.serving = true ∧ (0 : Nat) < 7 ∧ (svcSet [(D.Flow.STATE, 7, 2), (D.Flow.ENABLE, 7, 1), (D.Flow.KIND, 7, 8), (D.Flow.EFN, 7, 8192), (D.Flow.MALFORMED, 7, 2 ^ 32 - 1), (D.Plane.STATE, 0, 3)] : State).dev.peerOf ({ Cell.build 1 true false false 8192 0 100 1 256 0 77 with crc := 0 } : Cell).efn = some (7 : Nat) ∧ (svcSet [(D.Flow.STATE, 7, 2), (D.Flow.ENABLE, 7, 1), (D.Flow.KIND, 7, 8), (D.Flow.EFN, 7, 8192), (D.Flow.MALFORMED, 7, 2 ^ 32 - 1), (D.Plane.STATE, 0, 3)] : State).dev.running (7 : Nat) = true ∧ cellAccepted ({ Cell.build 1 true false false 8192 0 100 1 256 0 77 with crc := 0 } : Cell) 0 = false := by decide

theorem wit_CellsAreTakenOrCounted_mergeCopyArrival : (svcWith (fun d => (set [(D.Flow.STATE, 4096, 2), (D.Flow.KIND, 4096, 0x41), (D.Plane.STATE, 1, 3)] d).setFlow 4096 (fun x => { x with cur := some ⟨9, 1, none, [], none⟩ })) : State).dev.serving = true ∧ 4096 ≤ (4096 : Nat) ∧ (4096 : Nat) < 8192 ∧ (1 : Nat) < 2 ∧ (svcWith (fun d => (set [(D.Flow.STATE, 4096, 2), (D.Flow.KIND, 4096, 0x41), (D.Plane.STATE, 1, 3)] d).setFlow 4096 (fun x => { x with cur := some ⟨9, 1, none, [], none⟩ })) : State).dev.running (4096 : Nat) = true ∧ (svcWith (fun d => (set [(D.Flow.STATE, 4096, 2), (D.Flow.KIND, 4096, 0x41), (D.Plane.STATE, 1, 3)] d).setFlow 4096 (fun x => { x with cur := some ⟨9, 1, none, [], none⟩ })) : State).dev.inService (1 : Nat) = true ∧ ((svcWith (fun d => (set [(D.Flow.STATE, 4096, 2), (D.Flow.KIND, 4096, 0x41), (D.Plane.STATE, 1, 3)] d).setFlow 4096 (fun x => { x with cur := some ⟨9, 1, none, [], none⟩ })) : State).dev.flowSt (4096 : Nat)).cur = some (⟨9, 1, none, [], none⟩ : Merge) ∧ (⟨9, 1, none, [], none⟩ : Merge).efn = (Cell.build 1 true false false 9 0 100 1 256 0 77 : Cell).efn ∧ (⟨9, 1, none, [], none⟩ : Merge).anchor = none ∧ cellAccepted (Cell.build 1 true false false 9 0 100 1 256 0 77 : Cell) (⟨9, 1, none, [], none⟩ : Merge).type = true ∧ (Cell.build 1 true false false 9 0 100 1 256 0 77 : Cell).sof = true ∧ ((svcWith (fun d => (set [(D.Flow.STATE, 4096, 2), (D.Flow.KIND, 4096, 0x41), (D.Plane.STATE, 1, 3)] d).setFlow 4096 (fun x => { x with cur := some ⟨9, 1, none, [], none⟩ })) : State).dev.elapse (5 : Nat)).overdue (4096 : Nat) (Cell.build 1 true false false 9 0 100 1 256 0 77 : Cell).itime ≤ 0 := by decide

theorem wit_CellsAreTakenOrCounted_mergeCopyArrival_2 : (svcWith (fun d => (set [(D.Flow.STATE, 8191, 2), (D.Flow.KIND, 8191, 0x41), (D.Plane.STATE, 0, 2)] { d with raw := 100000 }).setFlow 8191 (fun x => { x with cur := some ⟨9, 1, none, [], none⟩ })) : State).dev.serving = true ∧ 4096 ≤ (8191 : Nat) ∧ (8191 : Nat) < 8192 ∧ (0 : Nat) < 2 ∧ (svcWith (fun d => (set [(D.Flow.STATE, 8191, 2), (D.Flow.KIND, 8191, 0x41), (D.Plane.STATE, 0, 2)] { d with raw := 100000 }).setFlow 8191 (fun x => { x with cur := some ⟨9, 1, none, [], none⟩ })) : State).dev.running (8191 : Nat) = true ∧ (svcWith (fun d => (set [(D.Flow.STATE, 8191, 2), (D.Flow.KIND, 8191, 0x41), (D.Plane.STATE, 0, 2)] { d with raw := 100000 }).setFlow 8191 (fun x => { x with cur := some ⟨9, 1, none, [], none⟩ })) : State).dev.inService (0 : Nat) = true ∧ ((svcWith (fun d => (set [(D.Flow.STATE, 8191, 2), (D.Flow.KIND, 8191, 0x41), (D.Plane.STATE, 0, 2)] { d with raw := 100000 }).setFlow 8191 (fun x => { x with cur := some ⟨9, 1, none, [], none⟩ })) : State).dev.flowSt (8191 : Nat)).cur = some (⟨9, 1, none, [], none⟩ : Merge) ∧ (⟨9, 1, none, [], none⟩ : Merge).efn = (Cell.build 1 true false false 9 0 100 1 256 0 77 : Cell).efn ∧ (⟨9, 1, none, [], none⟩ : Merge).anchor = none ∧ cellAccepted (Cell.build 1 true false false 9 0 100 1 256 0 77 : Cell) (⟨9, 1, none, [], none⟩ : Merge).type = true ∧ (Cell.build 1 true false false 9 0 100 1 256 0 77 : Cell).sof = true ∧ 0 < ((svcWith (fun d => (set [(D.Flow.STATE, 8191, 2), (D.Flow.KIND, 8191, 0x41), (D.Plane.STATE, 0, 2)] { d with raw := 100000 }).setFlow 8191 (fun x => { x with cur := some ⟨9, 1, none, [], none⟩ })) : State).dev.elapse (5 : Nat)).overdue (8191 : Nat) (Cell.build 1 true false false 9 0 100 1 256 0 77 : Cell).itime := by decide

theorem wit_CellsAreTakenOrCounted_mergeWindowEnd : (svcWith (fun d => (set [(D.Flow.STATE, 4096, 2), (D.Flow.KIND, 4096, 0x41), (D.Plane.STATE, 0, 3), (D.Plane.STATE, 1, 2)] d).setFlow 4096 (fun x => { x with cur := some ⟨9, 1, some 100, [⟨4, 100, [⟨0, false, true, ⟨0, 0, 0, 0⟩, false, 0⟩], some (0, ⟨0, 0, 0, 0⟩), false, false, false⟩], none⟩ })) : State).dev.serving = true ∧ 4096 ≤ (4096 : Nat) ∧ (4096 : Nat) < 8192 ∧ ((svcWith (fun d => (set [(D.Flow.STATE, 4096, 2), (D.Flow.KIND, 4096, 0x41), (D.Plane.STATE, 0, 3), (D.Plane.STATE, 1, 2)] d).setFlow 4096 (fun x => { x with cur := some ⟨9, 1, some 100, [⟨4, 100, [⟨0, false, true, ⟨0, 0, 0, 0⟩, false, 0⟩], some (0, ⟨0, 0, 0, 0⟩), false, false, false⟩], none⟩ })) : State).dev.flowSt (4096 : Nat)).cur = some (⟨9, 1, some 100, [⟨4, 100, [⟨0, false, true, ⟨0, 0, 0, 0⟩, false, 0⟩], some (0, ⟨0, 0, 0, 0⟩), false, false, false⟩], none⟩ : Merge) ∧ ((svcWith (fun d => (set [(D.Flow.STATE, 4096, 2), (D.Flow.KIND, 4096, 0x41), (D.Plane.STATE, 0, 3), (D.Plane.STATE, 1, 2)] d).setFlow 4096 (fun x => { x with cur := some ⟨9, 1, some 100, [⟨4, 100, [⟨0, false, true, ⟨0, 0, 0, 0⟩, false, 0⟩], some (0, ⟨0, 0, 0, 0⟩), false, false, false⟩], none⟩ })) : State).dev.flowSt (4096 : Nat)).pend = none ∧ (⟨9, 1, some 100, [⟨4, 100, [⟨0, false, true, ⟨0, 0, 0, 0⟩, false, 0⟩], some (0, ⟨0, 0, 0, 0⟩), false, false, false⟩], none⟩ : Merge).slot (4 : Nat) = some (⟨4, 100, [⟨0, false, true, ⟨0, 0, 0, 0⟩, false, 0⟩], some (0, ⟨0, 0, 0, 0⟩), false, false, false⟩ : Slot) ∧ (⟨4, 100, [⟨0, false, true, ⟨0, 0, 0, 0⟩, false, 0⟩], some (0, ⟨0, 0, 0, 0⟩), false, false, false⟩ : Slot).ended = false ∧ (⟨4, 100, [⟨0, false, true, ⟨0, 0, 0, 0⟩, false, 0⟩], some (0, ⟨0, 0, 0, 0⟩), false, false, false⟩ : Slot).copies.find? (fun x => x.window) = none ∧ (⟨4, 100, [⟨0, false, true, ⟨0, 0, 0, 0⟩, false, 0⟩], some (0, ⟨0, 0, 0, 0⟩), false, false, false⟩ : Slot).copies.head? = some (⟨0, false, true, ⟨0, 0, 0, 0⟩, false, 0⟩ : Copy) ∧ ((svcWith (fun d => (set [(D.Flow.STATE, 4096, 2), (D.Flow.KIND, 4096, 0x41), (D.Plane.STATE, 0, 3), (D.Plane.STATE, 1, 2)] d).setFlow 4096 (fun x => { x with cur := some ⟨9, 1, some 100, [⟨4, 100, [⟨0, false, true, ⟨0, 0, 0, 0⟩, false, 0⟩], some (0, ⟨0, 0, 0, 0⟩), false, false, false⟩], none⟩ })) : State).dev.elapse (5000 : Nat)).past (⟨0, false, true, ⟨0, 0, 0, 0⟩, false, 0⟩ : Copy).at_ ((svcWith (fun d => (set [(D.Flow.STATE, 4096, 2), (D.Flow.KIND, 4096, 0x41), (D.Plane.STATE, 0, 3), (D.Plane.STATE, 1, 2)] d).setFlow 4096 (fun x => { x with cur := some ⟨9, 1, some 100, [⟨4, 100, [⟨0, false, true, ⟨0, 0, 0, 0⟩, false, 0⟩], some (0, ⟨0, 0, 0, 0⟩), false, false, false⟩], none⟩ })) : State).dev.rd D.Planes.MERGE_WINDOW_NS 0) = true ∧ (⟨4, 100, [⟨0, false, true, ⟨0, 0, 0, 0⟩, false, 0⟩], some (0, ⟨0, 0, 0, 0⟩), false, false, false⟩ : Slot).kept = some ((0 : Nat), (⟨0, 0, 0, 0⟩ : Cell)) ∧ (0 : Nat) < 2 ∧ (⟨4, 100, [⟨0, false, true, ⟨0, 0, 0, 0⟩, false, 0⟩], some (0, ⟨0, 0, 0, 0⟩), false, false, false⟩ : Slot).has (1 - (0 : Nat)) = false ∧ (svcWith (fun d => (set [(D.Flow.STATE, 4096, 2), (D.Flow.KIND, 4096, 0x41), (D.Plane.STATE, 0, 3), (D.Plane.STATE, 1, 2)] d).setFlow 4096 (fun x => { x with cur := some ⟨9, 1, some 100, [⟨4, 100, [⟨0, false, true, ⟨0, 0, 0, 0⟩, false, 0⟩], some (0, ⟨0, 0, 0, 0⟩), false, false, false⟩], none⟩ })) : State).dev.inService (1 - (0 : Nat)) = true ∧ ((svcWith (fun d => (set [(D.Flow.STATE, 4096, 2), (D.Flow.KIND, 4096, 0x41), (D.Plane.STATE, 0, 3), (D.Plane.STATE, 1, 2)] d).setFlow 4096 (fun x => { x with cur := some ⟨9, 1, some 100, [⟨4, 100, [⟨0, false, true, ⟨0, 0, 0, 0⟩, false, 0⟩], some (0, ⟨0, 0, 0, 0⟩), false, false, false⟩], none⟩ })) : State).dev.planeSt (1 - (0 : Nat))).join = none := by decide

theorem wit_CellsAreTakenOrCounted_cellRelease : (svcWith (fun d => (set [(D.Flow.STATE, 4096, 2), (D.Flow.KIND, 4096, 0x41), (D.Plane.STATE, 0, 3)] { d with raw := 100000 }).setFlow 4096 (fun x => { x with cur := some ⟨9, 1, some 100, [⟨4, 100, [⟨0, false, true, ⟨0, 0, 0, 0⟩, false, 0⟩], some (0, ⟨0, 0, 0, 0⟩), false, false, false⟩], none⟩ })) : State).dev.serving = true ∧ (svcWith (fun d => (set [(D.Flow.STATE, 4096, 2), (D.Flow.KIND, 4096, 0x41), (D.Plane.STATE, 0, 3)] { d with raw := 100000 }).setFlow 4096 (fun x => { x with cur := some ⟨9, 1, some 100, [⟨4, 100, [⟨0, false, true, ⟨0, 0, 0, 0⟩, false, 0⟩], some (0, ⟨0, 0, 0, 0⟩), false, false, false⟩], none⟩ })) : State).dev.memQ = [] ∧ 4096 ≤ (4096 : Nat) ∧ (4096 : Nat) < 8192 ∧ (svcWith (fun d => (set [(D.Flow.STATE, 4096, 2), (D.Flow.KIND, 4096, 0x41), (D.Plane.STATE, 0, 3)] { d with raw := 100000 }).setFlow 4096 (fun x => { x with cur := some ⟨9, 1, some 100, [⟨4, 100, [⟨0, false, true, ⟨0, 0, 0, 0⟩, false, 0⟩], some (0, ⟨0, 0, 0, 0⟩), false, false, false⟩], none⟩ })) : State).dev.running (4096 : Nat) = true ∧ (svcWith (fun d => (set [(D.Flow.STATE, 4096, 2), (D.Flow.KIND, 4096, 0x41), (D.Plane.STATE, 0, 3)] { d with raw := 100000 }).setFlow 4096 (fun x => { x with cur := some ⟨9, 1, some 100, [⟨4, 100, [⟨0, false, true, ⟨0, 0, 0, 0⟩, false, 0⟩], some (0, ⟨0, 0, 0, 0⟩), false, false, false⟩], none⟩ })) : State).dev.kind (4096 : Nat) = 0x41 ∧ ((svcWith (fun d => (set [(D.Flow.STATE, 4096, 2), (D.Flow.KIND, 4096, 0x41), (D.Plane.STATE, 0, 3)] { d with raw := 100000 }).setFlow 4096 (fun x => { x with cur := some ⟨9, 1, some 100, [⟨4, 100, [⟨0, false, true, ⟨0, 0, 0, 0⟩, false, 0⟩], some (0, ⟨0, 0, 0, 0⟩), false, false, false⟩], none⟩ })) : State).dev.flowSt (4096 : Nat)).cur = some (⟨9, 1, some 100, [⟨4, 100, [⟨0, false, true, ⟨0, 0, 0, 0⟩, false, 0⟩], some (0, ⟨0, 0, 0, 0⟩), false, false, false⟩], none⟩ : Merge) ∧ (⟨9, 1, some 100, [⟨4, 100, [⟨0, false, true, ⟨0, 0, 0, 0⟩, false, 0⟩], some (0, ⟨0, 0, 0, 0⟩), false, false, false⟩], none⟩ : Merge).next = some (4 : Nat) ∧ (⟨9, 1, some 100, [⟨4, 100, [⟨0, false, true, ⟨0, 0, 0, 0⟩, false, 0⟩], some (0, ⟨0, 0, 0, 0⟩), false, false, false⟩], none⟩ : Merge).slot (4 : Nat) = some (⟨4, 100, [⟨0, false, true, ⟨0, 0, 0, 0⟩, false, 0⟩], some (0, ⟨0, 0, 0, 0⟩), false, false, false⟩ : Slot) ∧ (⟨4, 100, [⟨0, false, true, ⟨0, 0, 0, 0⟩, false, 0⟩], some (0, ⟨0, 0, 0, 0⟩), false, false, false⟩ : Slot).kept = some ((0 : Nat), (⟨0, 0, 0, 0⟩ : Cell)) ∧ ((svcWith (fun d => (set [(D.Flow.STATE, 4096, 2), (D.Flow.KIND, 4096, 0x41), (D.Plane.STATE, 0, 3)] { d with raw := 100000 }).setFlow 4096 (fun x => { x with cur := some ⟨9, 1, some 100, [⟨4, 100, [⟨0, false, true, ⟨0, 0, 0, 0⟩, false, 0⟩], some (0, ⟨0, 0, 0, 0⟩), false, false, false⟩], none⟩ })) : State).dev.elapse (5 : Nat)).due (4096 : Nat) (⟨4, 100, [⟨0, false, true, ⟨0, 0, 0, 0⟩, false, 0⟩], some (0, ⟨0, 0, 0, 0⟩), false, false, false⟩ : Slot).itime = true := by decide

theorem wit_CellsAreTakenOrCounted_cellRelease_2 : (svcWith (fun d => (set [(D.Flow.STATE, 8191, 2), (D.Flow.KIND, 8191, 0x42), (D.Plane.STATE, 0, 3)] { d with raw := 100000 }).setFlow 8191 (fun x => { x with cur := some ⟨9, 1, some 100, [⟨4, 100, [⟨0, false, false, { Cell.build 1 true false false 9 4 100 1 256 0 77 with crc := 0 }, false, 0⟩], none, false, false, false⟩], none⟩ })) : State).dev.serving = true ∧ (svcWith (fun d => (set [(D.Flow.STATE, 8191, 2), (D.Flow.KIND, 8191, 0x42), (D.Plane.STATE, 0, 3)] { d with raw := 100000 }).setFlow 8191 (fun x => { x with cur := some ⟨9, 1, some 100, [⟨4, 100, [⟨0, false, false, { Cell.build 1 true false false 9 4 100 1 256 0 77 with crc := 0 }, false, 0⟩], none, false, false, false⟩], none⟩ })) : State).dev.memQ = [] ∧ 4096 ≤ (8191 : Nat) ∧ (8191 : Nat) < 8192 ∧ (svcWith (fun d => (set [(D.Flow.STATE, 8191, 2), (D.Flow.KIND, 8191, 0x42), (D.Plane.STATE, 0, 3)] { d with raw := 100000 }).setFlow 8191 (fun x => { x with cur := some ⟨9, 1, some 100, [⟨4, 100, [⟨0, false, false, { Cell.build 1 true false false 9 4 100 1 256 0 77 with crc := 0 }, false, 0⟩], none, false, false, false⟩], none⟩ })) : State).dev.running (8191 : Nat) = true ∧ ((svcWith (fun d => (set [(D.Flow.STATE, 8191, 2), (D.Flow.KIND, 8191, 0x42), (D.Plane.STATE, 0, 3)] { d with raw := 100000 }).setFlow 8191 (fun x => { x with cur := some ⟨9, 1, some 100, [⟨4, 100, [⟨0, false, false, { Cell.build 1 true false false 9 4 100 1 256 0 77 with crc := 0 }, false, 0⟩], none, false, false, false⟩], none⟩ })) : State).dev.flowSt (8191 : Nat)).cur = some (⟨9, 1, some 100, [⟨4, 100, [⟨0, false, false, { Cell.build 1 true false false 9 4 100 1 256 0 77 with crc := 0 }, false, 0⟩], none, false, false, false⟩], none⟩ : Merge) ∧ (⟨9, 1, some 100, [⟨4, 100, [⟨0, false, false, { Cell.build 1 true false false 9 4 100 1 256 0 77 with crc := 0 }, false, 0⟩], none, false, false, false⟩], none⟩ : Merge).next = some (4 : Nat) ∧ (⟨9, 1, some 100, [⟨4, 100, [⟨0, false, false, { Cell.build 1 true false false 9 4 100 1 256 0 77 with crc := 0 }, false, 0⟩], none, false, false, false⟩], none⟩ : Merge).slot (4 : Nat) = some (⟨4, 100, [⟨0, false, false, { Cell.build 1 true false false 9 4 100 1 256 0 77 with crc := 0 }, false, 0⟩], none, false, false, false⟩ : Slot) ∧ (⟨4, 100, [⟨0, false, false, { Cell.build 1 true false false 9 4 100 1 256 0 77 with crc := 0 }, false, 0⟩], none, false, false, false⟩ : Slot).kept = none ∧ (⟨4, 100, [⟨0, false, false, { Cell.build 1 true false false 9 4 100 1 256 0 77 with crc := 0 }, false, 0⟩], none, false, false, false⟩ : Slot).timed = true ∧ ((svcWith (fun d => (set [(D.Flow.STATE, 8191, 2), (D.Flow.KIND, 8191, 0x42), (D.Plane.STATE, 0, 3)] { d with raw := 100000 }).setFlow 8191 (fun x => { x with cur := some ⟨9, 1, some 100, [⟨4, 100, [⟨0, false, false, { Cell.build 1 true false false 9 4 100 1 256 0 77 with crc := 0 }, false, 0⟩], none, false, false, false⟩], none⟩ })) : State).dev.elapse (5 : Nat)).due (8191 : Nat) (⟨4, 100, [⟨0, false, false, { Cell.build 1 true false false 9 4 100 1 256 0 77 with crc := 0 }, false, 0⟩], none, false, false, false⟩ : Slot).itime = true := by decide

theorem wit_CellsAreTakenOrCounted_sourceLossTimeout : (svcSet [(D.Flow.STATE, 0, 2), (D.Flow.KIND, 0, 2)] : State).dev.serving = true ∧ (0 : Nat) < 4096 ∧ (svcSet [(D.Flow.STATE, 0, 2), (D.Flow.KIND, 0, 2)] : State).dev.running (0 : Nat) = true ∧ ((svcSet [(D.Flow.STATE, 0, 2), (D.Flow.KIND, 0, 2)] : State).dev.flowSt (0 : Nat)).begun = false := by decide

theorem wit_CellsAreTakenOrCounted_sourceLossTimeout_2 : (svcSet [(D.Flow.STATE, 8191, 2), (D.Flow.KIND, 8191, 0x44)] : State).dev.serving = true ∧ 4096 ≤ (8191 : Nat) ∧ (8191 : Nat) < 8192 ∧ (svcSet [(D.Flow.STATE, 8191, 2), (D.Flow.KIND, 8191, 0x44)] : State).dev.running (8191 : Nat) = true ∧ ((svcSet [(D.Flow.STATE, 8191, 2), (D.Flow.KIND, 8191, 0x44)] : State).dev.elapse (1000000 : Nat)).past ((svcSet [(D.Flow.STATE, 8191, 2), (D.Flow.KIND, 8191, 0x44)] : State).dev.flowSt (8191 : Nat)).keptAt ((svcSet [(D.Flow.STATE, 8191, 2), (D.Flow.KIND, 8191, 0x44)] : State).dev.lossNs (8191 : Nat)) = true := by decide

theorem wit_TakesComplete_take : (svcSet [(D.Flow.ENABLE, 8191, 1), (D.Flow.KIND, 8191, 0x41)] : State).dev.grants (ask 2 : Rcp) 0x0C10 0x01 ⟨16, (8191 * 2 ^ 112 + 2 ^ 94 : Nat)⟩ = true ∧ ((svcSet [(D.Flow.ENABLE, 8191, 1), (D.Flow.KIND, 8191, 0x41)] : State).dev.atBody (ask 2 : Rcp)).takeCheck12 ((svcSet [(D.Flow.ENABLE, 8191, 1), (D.Flow.KIND, 8191, 0x41)] : State).dev.asker (ask 2 : Rcp)).role (8191 * 2 ^ 112 + 2 ^ 94 : Nat) = none ∧ (((svcSet [(D.Flow.ENABLE, 8191, 1), (D.Flow.KIND, 8191, 0x41)] : State).dev.atBody (ask 2 : Rcp)).takeChecks (TakeD.output (8191 * 2 ^ 112 + 2 ^ 94 : Nat)) (takeSource (8191 * 2 ^ 112 + 2 ^ 94 : Nat)) (TakeD.fsOnTake (8191 * 2 ^ 112 + 2 ^ 94 : Nat)) (TakeD.time (8191 * 2 ^ 112 + 2 ^ 94 : Nat)) none).toOption.isSome = true ∧ (svcSet [(D.Flow.ENABLE, 8191, 1), (D.Flow.KIND, 8191, 0x41)] : State).dev.paired = false := by decide

theorem wit_TakesComplete_twinTakeRx : (svcSet [(D.Flow.ENABLE, 4096, 1), (D.Flow.KIND, 4096, 0x41), (D.Twin.STATE, 0, 4)] : State).dev.serving = true ∧ (svcSet [(D.Flow.ENABLE, 4096, 1), (D.Flow.KIND, 4096, 0x41), (D.Twin.STATE, 0, 4)] : State).dev.paired = true ∧ (((svcSet [(D.Flow.ENABLE, 4096, 1), (D.Flow.KIND, 4096, 0x41), (D.Twin.STATE, 0, 4)] : State).dev.elapse (5 : Nat)).takeChecks (TakeD.output (4096 * 2 ^ 112 + 2 ^ 94 : Nat)) (takeSource (4096 * 2 ^ 112 + 2 ^ 94 : Nat)) (TakeD.fsOnTake (4096 * 2 ^ 112 + 2 ^ 94 : Nat)) (TakeD.time (4096 * 2 ^ 112 + 2 ^ 94 : Nat)) none).toOption.isSome = true := by decide

theorem wit_TakesComplete_twinTakeAck : (svcWith (fun d => { d with xp := { asks := [⟨4096, ⟨none, none, false, 0, 0, none, none, false, false, false⟩, 0, 9, 1, 7, 2⟩] } }) : State).dev.serving = true ∧ (svcWith (fun d => { d with xp := { asks := [⟨4096, ⟨none, none, false, 0, 0, none, none, false, false, false⟩, 0, 9, 1, 7, 2⟩] } }) : State).dev.xp.asks.find? (fun (x0 : TakeAsk) => x0.msg == (9 : Nat)) = some (⟨4096, ⟨none, none, false, 0, 0, none, none, false, false, false⟩, 0, 9, 1, 7, 2⟩ : TakeAsk) := by decide

theorem wit_TakesComplete_twinTakeTimeout : (svcWith (fun d => { d with xp := { asks := [⟨4096, ⟨none, none, false, 0, 0, none, none, false, false, false⟩, 0, 9, 1, 7, 2⟩] } }) : State).dev.serving = true ∧ (svcWith (fun d => { d with xp := { asks := [⟨4096, ⟨none, none, false, 0, 0, none, none, false, false, false⟩, 0, 9, 1, 7, 2⟩] } }) : State).dev.xp.asks = (⟨4096, ⟨none, none, false, 0, 0, none, none, false, false, false⟩, 0, 9, 1, 7, 2⟩ : TakeAsk) :: ([] : List TakeAsk) ∧ (⟨4096, ⟨none, none, false, 0, 0, none, none, false, false, false⟩, 0, 9, 1, 7, 2⟩ : TakeAsk).sentAt + 500000 ≤ (svcWith (fun d => { d with xp := { asks := [⟨4096, ⟨none, none, false, 0, 0, none, none, false, false, false⟩, 0, 9, 1, 7, 2⟩] } }) : State).dev.wall + (500000 : Nat) := by decide

theorem wit_TakesComplete_takeApply : (svcWith (fun d => { set [(D.Flow.STATE, 8191, 2), (D.Flow.KIND, 8191, 0x42), (D.XpTable.VALID, 4095, 1), (D.XpTable.SOURCE, 4095, 7)] { d with raw := 20000 } with xp := { pend := [(8191, ⟨none, none, false, 0, 0, none, none, false, false, false⟩)] } }) : State).dev.serving = true ∧ 4096 ≤ (8191 : Nat) ∧ (8191 : Nat) < 8192 ∧ (svcWith (fun d => { set [(D.Flow.STATE, 8191, 2), (D.Flow.KIND, 8191, 0x42), (D.XpTable.VALID, 4095, 1), (D.XpTable.SOURCE, 4095, 7)] { d with raw := 20000 } with xp := { pend := [(8191, ⟨none, none, false, 0, 0, none, none, false, false, false⟩)] } }) : State).dev.running (8191 : Nat) = true ∧ (svcWith (fun d => { set [(D.Flow.STATE, 8191, 2), (D.Flow.KIND, 8191, 0x42), (D.XpTable.VALID, 4095, 1), (D.XpTable.SOURCE, 4095, 7)] { d with raw := 20000 } with xp := { pend := [(8191, ⟨none, none, false, 0, 0, none, none, false, false, false⟩)] } }) : State).dev.firstPend (8191 : Nat) = some (⟨none, none, false, 0, 0, none, none, false, false, false⟩ : Pend) ∧ (svcWith (fun d => { set [(D.Flow.STATE, 8191, 2), (D.Flow.KIND, 8191, 0x42), (D.XpTable.VALID, 4095, 1), (D.XpTable.SOURCE, 4095, 7)] { d with raw := 20000 } with xp := { pend := [(8191, ⟨none, none, false, 0, 0, none, none, false, false, false⟩)] } }) : State).dev.rebuilding = false ∧ (⟨none, none, false, 0, 0, none, none, false, false, false⟩ : Pend).again = false ∧ ((svcWith (fun d => { set [(D.Flow.STATE, 8191, 2), (D.Flow.KIND, 8191, 0x42), (D.XpTable.VALID, 4095, 1), (D.XpTable.SOURCE, 4095, 7)] { d with raw := 20000 } with xp := { pend := [(8191, ⟨none, none, false, 0, 0, none, none, false, false, false⟩)] } }) : State).dev.elapse (5 : Nat)).pendDue (⟨none, none, false, 0, 0, none, none, false, false, false⟩ : Pend) = true ∧ ((svcWith (fun d => { set [(D.Flow.STATE, 8191, 2), (D.Flow.KIND, 8191, 0x42), (D.XpTable.VALID, 4095, 1), (D.XpTable.SOURCE, 4095, 7)] { d with raw := 20000 } with xp := { pend := [(8191, ⟨none, none, false, 0, 0, none, none, false, false, false⟩)] } }) : State).dev.elapse (5 : Nat)).atInstant (8191 : Nat) (⟨none, none, false, 0, 0, none, none, false, false, false⟩ : Pend) = true ∧ (⟨none, none, false, 0, 0, none, none, false, false, false⟩ : Pend).doubt = false ∧ (svcWith (fun d => { set [(D.Flow.STATE, 8191, 2), (D.Flow.KIND, 8191, 0x42), (D.XpTable.VALID, 4095, 1), (D.XpTable.SOURCE, 4095, 7)] { d with raw := 20000 } with xp := { pend := [(8191, ⟨none, none, false, 0, 0, none, none, false, false, false⟩)] } }) : State).dev.on D.XpTable.FS_INSERTED ((8191 : Nat) - 4096) = false ∧ (svcWith (fun d => { set [(D.Flow.STATE, 8191, 2), (D.Flow.KIND, 8191, 0x42), (D.XpTable.VALID, 4095, 1), (D.XpTable.SOURCE, 4095, 7)] { d with raw := 20000 } with xp := { pend := [(8191, ⟨none, none, false, 0, 0, none, none, false, false, false⟩)] } }) : State).dev.on D.XpTable.GATEWAY_INSERTED ((8191 : Nat) - 4096) = false := by decide

theorem wit_TakesComplete_delayChangeApply : (svcWith (fun d => (set [(D.Flow.STATE, 8191, 2), (D.Flow.KIND, 8191, 0x42)] d).setFlow 8191 (fun x => { x with oldDelay := some 5000 })) : State).dev.serving = true ∧ 4096 ≤ (8191 : Nat) ∧ (8191 : Nat) < 8192 ∧ ((svcWith (fun d => (set [(D.Flow.STATE, 8191, 2), (D.Flow.KIND, 8191, 0x42)] d).setFlow 8191 (fun x => { x with oldDelay := some 5000 })) : State).dev.running (8191 : Nat) = false ∨ ((svcWith (fun d => (set [(D.Flow.STATE, 8191, 2), (D.Flow.KIND, 8191, 0x42)] d).setFlow 8191 (fun x => { x with oldDelay := some 5000 })) : State).dev.flowSt (8191 : Nat)).boundary = none ∨ ((svcWith (fun d => (set [(D.Flow.STATE, 8191, 2), (D.Flow.KIND, 8191, 0x42)] d).setFlow 8191 (fun x => { x with oldDelay := some 5000 })) : State).dev.flowSt (8191 : Nat)).boundary = some ((svcWith (fun d => (set [(D.Flow.STATE, 8191, 2), (D.Flow.KIND, 8191, 0x42)] d).setFlow 8191 (fun x => { x with oldDelay := some 5000 })) : State).dev.elapse (5 : Nat)).now) := by decide

theorem wit_TakesComplete_logSectorErase : (svcWith (fun d => { d with takeLog := { log := [(0, (⟨1, 255, 255, 1, 0, [], 0⟩ : TRec).image)], head := 32, gen := 1 } }) : State).dev.takeLog.log ≠ [] := by decide

theorem wit_SalvoRequestsComplete_salvoChangesWrite : (15 : Nat) < 16 ∧ (4095 * 2 ^ 48 + 77 * 2 ^ 32 + 2 ^ 31 : Nat) < 2 ^ 64 ∧ (svcSet [(D.Straps.HEAD, 0, 1), (D.Ens.MEMBER, 0, 0xFF)] : State).dev.grantsDom (ask 4 : Rcp) (0x0C20 + (15 : Nat)) 0x02 0 ⟨8, (4095 * 2 ^ 48 + 77 * 2 ^ 32 + 2 ^ 31 : Nat)⟩ = true ∧ (svcSet [(D.Straps.HEAD, 0, 1), (D.Ens.MEMBER, 0, 0xFF)] : State).dev.slotOpen = true ∧ (svcSet [(D.Straps.HEAD, 0, 1), (D.Ens.MEMBER, 0, 0xFF)] : State).dev.hostSalvo = false ∧ (svcSet [(D.Straps.HEAD, 0, 1), (D.Ens.MEMBER, 0, 0xFF)] : State).dev.slotState (15 : Nat) = SlotState.EMPTY ∧ (svcSet [(D.Straps.HEAD, 0, 1), (D.Ens.MEMBER, 0, 0xFF)] : State).dev.rd D.Salvo.COUNT (15 : Nat) = 0 ∧ Change.clean (4095 * 2 ^ 48 + 77 * 2 ^ 32 + 2 ^ 31 : Nat) = true ∧ Change.member (4095 * 2 ^ 48 + 77 * 2 ^ 32 + 2 ^ 31 : Nat) < (svcSet [(D.Straps.HEAD, 0, 1), (D.Ens.MEMBER, 0, 0xFF)] : State).dev.ensSize := by decide

theorem wit_SalvoRequestsComplete_salvoTakeTimeWrite : (15 : Nat) < 16 ∧ (2 ^ 64 - 1 : Nat) < 2 ^ 64 ∧ (svcSet [(D.Straps.HEAD, 0, 1), (D.Salvo.STATE, 15, 6)] : State).dev.grants (ask 2 : Rcp) (0x0C20 + (15 : Nat)) 0x04 ⟨8, (2 ^ 64 - 1 : Nat)⟩ = true ∧ (svcSet [(D.Straps.HEAD, 0, 1), (D.Salvo.STATE, 15, 6)] : State).dev.slotOpen = true ∧ ((svcSet [(D.Straps.HEAD, 0, 1), (D.Salvo.STATE, 15, 6)] : State).dev.slotState (15 : Nat) = SlotState.EMPTY ∨ (svcSet [(D.Straps.HEAD, 0, 1), (D.Salvo.STATE, 15, 6)] : State).dev.slotState (15 : Nat) = SlotState.LOADED ∨ (svcSet [(D.Straps.HEAD, 0, 1), (D.Salvo.STATE, 15, 6)] : State).dev.slotState (15 : Nat) = SlotState.ABORTED ∨ (svcSet [(D.Straps.HEAD, 0, 1), (D.Salvo.STATE, 15, 6)] : State).dev.slotState (15 : Nat) = SlotState.APPLIED) := by decide

theorem wit_SalvoRequestsComplete_salvoArm : (15 : Nat) < 16 ∧ (svcSet [(D.Straps.HEAD, 0, 1), (D.Salvo.STATE, 15, 1), (D.Salvo.EPOCH, 15, 15), (D.Salvo.COUNT, 15, 1), (D.Salvo.TAKE_TIME, 15, 86400000000005)] : State).dev.grants (ask 2 : Rcp) (0x0C20 + (15 : Nat)) 0x05 ⟨1, 1⟩ = true ∧ (svcSet [(D.Straps.HEAD, 0, 1), (D.Salvo.STATE, 15, 1), (D.Salvo.EPOCH, 15, 15), (D.Salvo.COUNT, 15, 1), (D.Salvo.TAKE_TIME, 15, 86400000000005)] : State).dev.slotOpen = true ∧ (svcSet [(D.Straps.HEAD, 0, 1), (D.Salvo.STATE, 15, 1), (D.Salvo.EPOCH, 15, 15), (D.Salvo.COUNT, 15, 1), (D.Salvo.TAKE_TIME, 15, 86400000000005)] : State).dev.slotState (15 : Nat) = SlotState.LOADED ∧ (svcSet [(D.Straps.HEAD, 0, 1), (D.Salvo.STATE, 15, 1), (D.Salvo.EPOCH, 15, 15), (D.Salvo.COUNT, 15, 1), (D.Salvo.TAKE_TIME, 15, 86400000000005)] : State).dev.rd D.Salvo.COUNT (15 : Nat) ≠ 0 ∧ ((svcSet [(D.Straps.HEAD, 0, 1), (D.Salvo.STATE, 15, 1), (D.Salvo.EPOCH, 15, 15), (D.Salvo.COUNT, 15, 1), (D.Salvo.TAKE_TIME, 15, 86400000000005)] : State).dev.rd D.Xp.SALVO_MIN_LEAD_US 0 * 1000 : Int) ≤ sdiff ((svcSet [(D.Straps.HEAD, 0, 1), (D.Salvo.STATE, 15, 1), (D.Salvo.EPOCH, 15, 15), (D.Salvo.COUNT, 15, 1), (D.Salvo.TAKE_TIME, 15, 86400000000005)] : State).dev.rd D.Salvo.TAKE_TIME (15 : Nat)) ((svcSet [(D.Straps.HEAD, 0, 1), (D.Salvo.STATE, 15, 1), (D.Salvo.EPOCH, 15, 15), (D.Salvo.COUNT, 15, 1), (D.Salvo.TAKE_TIME, 15, 86400000000005)] : State).dev.atBody (ask 2 : Rcp)).now 64 ∧ sdiff ((svcSet [(D.Straps.HEAD, 0, 1), (D.Salvo.STATE, 15, 1), (D.Salvo.EPOCH, 15, 15), (D.Salvo.COUNT, 15, 1), (D.Salvo.TAKE_TIME, 15, 86400000000005)] : State).dev.rd D.Salvo.TAKE_TIME (15 : Nat)) ((svcSet [(D.Straps.HEAD, 0, 1), (D.Salvo.STATE, 15, 1), (D.Salvo.EPOCH, 15, 15), (D.Salvo.COUNT, 15, 1), (D.Salvo.TAKE_TIME, 15, 86400000000005)] : State).dev.atBody (ask 2 : Rcp)).now 64 ≤ 86400000000000 := by decide

theorem wit_SalvoRequestsComplete_salvoAbort : (0 : Nat) < 16 ∧ (svcSet [(D.Straps.HEAD, 0, 1), (D.Salvo.STATE, 0, 2)] : State).dev.grants (ask 2 : Rcp) (0x0C20 + (0 : Nat)) 0x05 ⟨1, 2⟩ = true ∧ (svcSet [(D.Straps.HEAD, 0, 1), (D.Salvo.STATE, 0, 2)] : State).dev.slotOpen = true ∧ (svcSet [(D.Straps.HEAD, 0, 1), (D.Salvo.STATE, 0, 2)] : State).dev.hostSalvo = false ∧ (svcSet [(D.Straps.HEAD, 0, 1), (D.Salvo.STATE, 0, 2)] : State).dev.slotState (0 : Nat) = SlotState.PREPARING ∧ ((svcSet [(D.Straps.HEAD, 0, 1), (D.Salvo.STATE, 0, 2)] : State).dev.salvoSt (0 : Nat)).decided = none := by decide

theorem wit_SalvoRequestsComplete_salvoClear : (15 : Nat) < 16 ∧ (svcSet [(D.Straps.HEAD, 0, 1), (D.Salvo.STATE, 15, 1), (D.Salvo.COUNT, 15, 3)] : State).dev.grants (ask 2 : Rcp) (0x0C20 + (15 : Nat)) 0x05 ⟨1, 3⟩ = true ∧ (svcSet [(D.Straps.HEAD, 0, 1), (D.Salvo.STATE, 15, 1), (D.Salvo.COUNT, 15, 3)] : State).dev.slotOpen = true ∧ (svcSet [(D.Straps.HEAD, 0, 1), (D.Salvo.STATE, 15, 1), (D.Salvo.COUNT, 15, 3)] : State).dev.slotState (15 : Nat) = SlotState.LOADED := by decide

theorem wit_SalvoRequestsComplete_salvoCommitCmd : (15 : Nat) < 16 ∧ (svcSet [(D.Xp.MODE, 0, 1), (D.Salvo.STATE, 15, 3), (D.Salvo.RESULT, 15, 3)] : State).dev.grants (ask 2 : Rcp) (0x0C20 + (15 : Nat)) 0x05 ⟨1, 4⟩ = true ∧ (svcSet [(D.Xp.MODE, 0, 1), (D.Salvo.STATE, 15, 3), (D.Salvo.RESULT, 15, 3)] : State).dev.hostSalvo = true ∧ (svcSet [(D.Xp.MODE, 0, 1), (D.Salvo.STATE, 15, 3), (D.Salvo.RESULT, 15, 3)] : State).dev.slotState (15 : Nat) = SlotState.PREPARED := by decide

theorem wit_SalvoEventsComplete_salvoPrepare : (svc : State).dev.serving = true ∧ ((svc : State).dev.elapse (5 : Nat)).firstCopy (7 : Nat) (Mark.build 1 15 9 0 false 0 0 1000 0xFFFF : Nat) = true ∧ (7 : Nat) < 8 ∧ Mark.ok (Mark.build 1 15 9 0 false 0 0 1000 0xFFFF : Nat) = true ∧ Mark.phase (Mark.build 1 15 9 0 false 0 0 1000 0xFFFF : Nat) = 1 ∧ (svc : State).dev.coordinates = false ∧ (svc : State).dev.hostSalvo = false ∧ (svc : State).dev.slotIdle (Mark.slot (Mark.build 1 15 9 0 false 0 0 1000 0xFFFF : Nat)) (Mark.epoch (Mark.build 1 15 9 0 false 0 0 1000 0xFFFF : Nat)) = true ∧ (svc : State).dev.slotState (Mark.slot (Mark.build 1 15 9 0 false 0 0 1000 0xFFFF : Nat)) ≠ SlotState.PREPARING := by decide

theorem wit_SalvoEventsComplete_salvoPrepared : (svcWith (fun d => (set [(D.Xp.MODE, 0, 1), (D.Salvo.STATE, 15, 2)] d).setSalvo 15 (fun x => { x with part := some ⟨1, 2, [], none, 0, some (0, 0xFFFF), none, false, false, false, [], false⟩ })) : State).dev.serving = true ∧ (15 : Nat) < 16 ∧ (svcWith (fun d => (set [(D.Xp.MODE, 0, 1), (D.Salvo.STATE, 15, 2)] d).setSalvo 15 (fun x => { x with part := some ⟨1, 2, [], none, 0, some (0, 0xFFFF), none, false, false, false, [], false⟩ })) : State).dev.hostSalvo = true ∧ (svcWith (fun d => (set [(D.Xp.MODE, 0, 1), (D.Salvo.STATE, 15, 2)] d).setSalvo 15 (fun x => { x with part := some ⟨1, 2, [], none, 0, some (0, 0xFFFF), none, false, false, false, [], false⟩ })) : State).dev.slotState (15 : Nat) = SlotState.PREPARING ∧ ((svcWith (fun d => (set [(D.Xp.MODE, 0, 1), (D.Salvo.STATE, 15, 2)] d).setSalvo 15 (fun x => { x with part := some ⟨1, 2, [], none, 0, some (0, 0xFFFF), none, false, false, false, [], false⟩ })) : State).dev.salvoSt (15 : Nat)).part = some (⟨1, 2, [], none, 0, some (0, 0xFFFF), none, false, false, false, [], false⟩ : Part) ∧ (⟨1, 2, [], none, 0, some (0, 0xFFFF), none, false, false, false, [], false⟩ : Part).voted = false ∧ (⟨1, 2, [], none, 0, some (0, 0xFFFF), none, false, false, false, [], false⟩ : Part).own = some (0, 0xFFFF) ∧ (⟨1, 2, [], none, 0, some (0, 0xFFFF), none, false, false, false, [], false⟩ : Part).needTwin = false := by decide

theorem wit_SalvoEventsComplete_salvoVoteRx : (svcSet [(D.Straps.HEAD, 0, 1), (D.Salvo.STATE, 15, 2), (D.Salvo.EPOCH, 15, 9)] : State).dev.serving = true ∧ ((svcSet [(D.Straps.HEAD, 0, 1), (D.Salvo.STATE, 15, 2), (D.Salvo.EPOCH, 15, 9)] : State).dev.elapse (5 : Nat)).firstCopy (6 : Nat) (Mark.build 2 15 9 0 false 7 11 1000 3 : Nat) = true ∧ (6 : Nat) < 7 ∧ Mark.ok (Mark.build 2 15 9 0 false 7 11 1000 3 : Nat) = true ∧ Mark.phase (Mark.build 2 15 9 0 false 7 11 1000 3 : Nat) = 2 ∧ (svcSet [(D.Straps.HEAD, 0, 1), (D.Salvo.STATE, 15, 2), (D.Salvo.EPOCH, 15, 9)] : State).dev.rd D.Salvo.EPOCH (Mark.slot (Mark.build 2 15 9 0 false 7 11 1000 3 : Nat)) = Mark.epoch (Mark.build 2 15 9 0 false 7 11 1000 3 : Nat) ∧ (svcSet [(D.Straps.HEAD, 0, 1), (D.Salvo.STATE, 15, 2), (D.Salvo.EPOCH, 15, 9)] : State).dev.voting (Mark.slot (Mark.build 2 15 9 0 false 7 11 1000 3 : Nat)) = true ∧ Mark.status (Mark.build 2 15 9 0 false 7 11 1000 3 : Nat) ≠ 0 := by decide

theorem wit_SalvoEventsComplete_salvoVoteDeadline : (svcSet [(D.Straps.HEAD, 0, 1), (D.Salvo.STATE, 15, 2), (D.Salvo.TAKE_TIME, 15, 1000)] : State).dev.serving = true ∧ (15 : Nat) < 16 ∧ (svcSet [(D.Straps.HEAD, 0, 1), (D.Salvo.STATE, 15, 2), (D.Salvo.TAKE_TIME, 15, 1000)] : State).dev.voting (15 : Nat) = true ∧ ((svcSet [(D.Straps.HEAD, 0, 1), (D.Salvo.STATE, 15, 2), (D.Salvo.TAKE_TIME, 15, 1000)] : State).dev.elapse (2000 : Nat)).leadOver (15 : Nat) ((svcSet [(D.Straps.HEAD, 0, 1), (D.Salvo.STATE, 15, 2), (D.Salvo.TAKE_TIME, 15, 1000)] : State).dev.rd D.Xp.VOTE_LEAD_US 0 * 1000) = true := by decide

theorem wit_SalvoEventsComplete_salvoDecisionLogged : (svcWith (fun d => d.setSalvo 15 (fun x => { x with decided := some (true, 255, 0xFF, 0xFFFF) })) : State).dev.serving = true ∧ (15 : Nat) < 16 ∧ ((svcWith (fun d => d.setSalvo 15 (fun x => { x with decided := some (true, 255, 0xFF, 0xFFFF) })) : State).dev.salvoSt (15 : Nat)).decided = some ((true : Bool), (255 : Nat), (0xFF : Nat), (0xFFFF : Nat)) ∧ (255 : Nat) < 256 := by decide

theorem wit_SalvoEventsComplete_salvoCommitRx : (svcSet [(D.Salvo.STATE, 15, 7), (D.Salvo.EPOCH, 15, 9)] : State).dev.serving = true ∧ ((svcSet [(D.Salvo.STATE, 15, 7), (D.Salvo.EPOCH, 15, 9)] : State).dev.elapse (5 : Nat)).firstCopy (7 : Nat) (Mark.build 3 15 9 0 false 0 0 1000 0xFFFF : Nat) = true ∧ (7 : Nat) < 8 ∧ (svcSet [(D.Salvo.STATE, 15, 7), (D.Salvo.EPOCH, 15, 9)] : State).dev.decisionFor (Mark.build 3 15 9 0 false 0 0 1000 0xFFFF : Nat) 3 = true ∧ ((svcSet [(D.Salvo.STATE, 15, 7), (D.Salvo.EPOCH, 15, 9)] : State).dev.slotState (Mark.slot (Mark.build 3 15 9 0 false 0 0 1000 0xFFFF : Nat)) = SlotState.PREPARED ∨ (svcSet [(D.Salvo.STATE, 15, 7), (D.Salvo.EPOCH, 15, 9)] : State).dev.slotState (Mark.slot (Mark.build 3 15 9 0 false 0 0 1000 0xFFFF : Nat)) = SlotState.INDOUBT) := by decide

theorem wit_SalvoEventsComplete_salvoAbortRx : (svcWith (fun d => (set [(D.Salvo.STATE, 0, 2), (D.Salvo.EPOCH, 0, 9)] d).setSalvo 0 (fun x => { x with part := some ⟨9, 2, [], none, 0, none, none, false, false, false, [], false⟩ })) : State).dev.serving = true ∧ ((svcWith (fun d => (set [(D.Salvo.STATE, 0, 2), (D.Salvo.EPOCH, 0, 9)] d).setSalvo 0 (fun x => { x with part := some ⟨9, 2, [], none, 0, none, none, false, false, false, [], false⟩ })) : State).dev.elapse (5 : Nat)).firstCopy (0 : Nat) (Mark.build 4 0 9 0 false 0 0 1000 0xFFFF : Nat) = true ∧ (0 : Nat) < 8 ∧ (svcWith (fun d => (set [(D.Salvo.STATE, 0, 2), (D.Salvo.EPOCH, 0, 9)] d).setSalvo 0 (fun x => { x with part := some ⟨9, 2, [], none, 0, none, none, false, false, false, [], false⟩ })) : State).dev.decisionFor (Mark.build 4 0 9 0 false 0 0 1000 0xFFFF : Nat) 4 = true ∧ ((svcWith (fun d => (set [(D.Salvo.STATE, 0, 2), (D.Salvo.EPOCH, 0, 9)] d).setSalvo 0 (fun x => { x with part := some ⟨9, 2, [], none, 0, none, none, false, false, false, [], false⟩ })) : State).dev.slotState (Mark.slot (Mark.build 4 0 9 0 false 0 0 1000 0xFFFF : Nat)) = SlotState.PREPARING ∨ (svcWith (fun d => (set [(D.Salvo.STATE, 0, 2), (D.Salvo.EPOCH, 0, 9)] d).setSalvo 0 (fun x => { x with part := some ⟨9, 2, [], none, 0, none, none, false, false, false, [], false⟩ })) : State).dev.slotState (Mark.slot (Mark.build 4 0 9 0 false 0 0 1000 0xFFFF : Nat)) = SlotState.PREPARED ∨ (svcWith (fun d => (set [(D.Salvo.STATE, 0, 2), (D.Salvo.EPOCH, 0, 9)] d).setSalvo 0 (fun x => { x with part := some ⟨9, 2, [], none, 0, none, none, false, false, false, [], false⟩ })) : State).dev.slotState (Mark.slot (Mark.build 4 0 9 0 false 0 0 1000 0xFFFF : Nat)) = SlotState.INDOUBT) := by decide

theorem wit_SalvoEventsComplete_salvoDecideDeadline : (svcSet [(D.Salvo.STATE, 15, 3), (D.Salvo.TAKE_TIME, 15, 250000)] : State).dev.serving = true ∧ (15 : Nat) < 16 ∧ (svcSet [(D.Salvo.STATE, 15, 3), (D.Salvo.TAKE_TIME, 15, 250000)] : State).dev.hostSalvo = false ∧ (svcSet [(D.Salvo.STATE, 15, 3), (D.Salvo.TAKE_TIME, 15, 250000)] : State).dev.coordinates = false ∧ (svcSet [(D.Salvo.STATE, 15, 3), (D.Salvo.TAKE_TIME, 15, 250000)] : State).dev.slotState (15 : Nat) = SlotState.PREPARED ∧ ((svcSet [(D.Salvo.STATE, 15, 3), (D.Salvo.TAKE_TIME, 15, 250000)] : State).dev.elapse (0 : Nat)).leadOver (15 : Nat) 250000 = true := by decide

theorem wit_SalvoEventsComplete_salvoQueryTimer : (svcSet [(D.Salvo.STATE, 15, 7)] : State).dev.serving = true ∧ (15 : Nat) < 16 ∧ (svcSet [(D.Salvo.STATE, 15, 7)] : State).dev.slotState (15 : Nat) = SlotState.INDOUBT ∧ ((svcSet [(D.Salvo.STATE, 15, 7)] : State).dev.elapse (1000000 : Nat)).past ((svcSet [(D.Salvo.STATE, 15, 7)] : State).dev.salvoSt (15 : Nat)).queryAt 1000000 = true := by decide

theorem wit_SalvoEventsComplete_salvoQueryRx : (svcSet [(D.Straps.HEAD, 0, 1)] : State).dev.serving = true ∧ ((svcSet [(D.Straps.HEAD, 0, 1)] : State).dev.elapse (5 : Nat)).firstCopy (7 : Nat) (Mark.build 5 15 9 0 false 0 0 1000 0xFFFF : Nat) = true ∧ (7 : Nat) < 8 ∧ Mark.ok (Mark.build 5 15 9 0 false 0 0 1000 0xFFFF : Nat) = true ∧ Mark.phase (Mark.build 5 15 9 0 false 0 0 1000 0xFFFF : Nat) = 5 ∧ (svcSet [(D.Straps.HEAD, 0, 1)] : State).dev.hostSalvo = false ∧ (svcSet [(D.Straps.HEAD, 0, 1)] : State).dev.coordinates = true ∧ ((svcSet [(D.Straps.HEAD, 0, 1)] : State).dev.salvoSt (Mark.slot (Mark.build 5 15 9 0 false 0 0 1000 0xFFFF : Nat))).log.find? (fun x0 => x0.1 == Mark.epoch (Mark.build 5 15 9 0 false 0 0 1000 0xFFFF : Nat)) = none := by decide

theorem wit_SalvoEventsComplete_salvoTakeTimeReached : (svcSet [(D.Salvo.STATE, 15, 4), (D.Salvo.TAKE_TIME, 15, 100)] : State).dev.serving = true ∧ (15 : Nat) < 16 ∧ (svcSet [(D.Salvo.STATE, 15, 4), (D.Salvo.TAKE_TIME, 15, 100)] : State).dev.slotState (15 : Nat) = SlotState.COMMITTED ∧ ((svcSet [(D.Salvo.STATE, 15, 4), (D.Salvo.TAKE_TIME, 15, 100)] : State).dev.salvoSt (15 : Nat)).part = none ∧ (svcSet [(D.Salvo.STATE, 15, 4), (D.Salvo.TAKE_TIME, 15, 100)] : State).dev.xp.pend.any (fun x0 => x0.2.slot.any (fun y0 => y0.1 == (15 : Nat))) = false ∧ ((svcSet [(D.Salvo.STATE, 15, 4), (D.Salvo.TAKE_TIME, 15, 100)] : State).dev.elapse (100 : Nat)).leadOver (15 : Nat) 0 = true := by decide

theorem wit_PlaneFailureActs_planeFail : (svcSet [(D.Plane.STATE, 1, 2), (D.Plane.STATE, 0, 3)] : State).dev.serving = true ∧ (1 : Nat) < 2 ∧ 1 ≤ (6 : Nat) ∧ (6 : Nat) ≤ 6 ∧ (svcSet [(D.Plane.STATE, 1, 2), (D.Plane.STATE, 0, 3)] : State).dev.planeState (1 : Nat) = PlaneState.STANDBY := by decide

theorem wit_PlaneFailureActs_planeFail_2 : (svcSet [(D.Plane.STATE, 1, 3), (D.Plane.STATE, 0, 2), (D.Plane.FAILURES, 1, 4294967295)] : State).dev.serving = true ∧ (1 : Nat) < 2 ∧ 1 ≤ (1 : Nat) ∧ (1 : Nat) ≤ 6 ∧ (svcSet [(D.Plane.STATE, 1, 3), (D.Plane.STATE, 0, 2), (D.Plane.FAILURES, 1, 4294967295)] : State).dev.planeState (1 : Nat) = PlaneState.ACTIVE ∧ (svcSet [(D.Plane.STATE, 1, 3), (D.Plane.STATE, 0, 2), (D.Plane.FAILURES, 1, 4294967295)] : State).dev.planeState (1 - (1 : Nat)) = PlaneState.STANDBY := by decide

theorem wit_PlaneFailureActs_planeFail_3 : (svcSet [(D.Plane.STATE, 1, 4), (D.Plane.STATE, 0, 3)] : State).dev.serving = true ∧ (0 : Nat) < 2 ∧ ((3 : Nat) = 3 ∨ (3 : Nat) = 4) ∧ (svcSet [(D.Plane.STATE, 1, 4), (D.Plane.STATE, 0, 3)] : State).dev.planeState (0 : Nat) = PlaneState.ACTIVE ∧ (svcSet [(D.Plane.STATE, 1, 4), (D.Plane.STATE, 0, 3)] : State).dev.planeState (1 - (0 : Nat)) ≠ PlaneState.STANDBY := by decide

theorem wit_PlaneFailureActs_planeFail_4 : (svcSet [(D.Plane.STATE, 0, 3), (D.Plane.STATE, 1, 4)] : State).dev.serving = true ∧ (0 : Nat) < 2 ∧ ((5 : Nat) = 1 ∨ (5 : Nat) = 2 ∨ (5 : Nat) = 5 ∨ (5 : Nat) = 6) ∧ (svcSet [(D.Plane.STATE, 0, 3), (D.Plane.STATE, 1, 4)] : State).dev.planeState (0 : Nat) = PlaneState.ACTIVE ∧ (svcSet [(D.Plane.STATE, 0, 3), (D.Plane.STATE, 1, 4)] : State).dev.planeState (1 - (0 : Nat)) ≠ PlaneState.STANDBY := by decide

theorem wit_PlaneCommandsComplete_planeCmdResetX : (svcSet [(D.Plane.STATE, 0, 4)] : State).dev.grants (ask 2 : Rcp) 0x0D00 8 ⟨1, 1⟩ = true ∧ (svcSet [(D.Plane.STATE, 0, 4)] : State).dev.planeState 0 = PlaneState.FAILED := by decide

theorem wit_PlaneCommandsComplete_planeCmdResetY : (svcSet [(D.Plane.STATE, 1, 4), (D.Plane.STATE, 0, 3)] : State).dev.grants (ask 2 : Rcp) 0x0D00 8 ⟨1, 2⟩ = true ∧ (svcSet [(D.Plane.STATE, 1, 4), (D.Plane.STATE, 0, 3)] : State).dev.planeState 1 = PlaneState.FAILED := by decide

theorem wit_PlaneCommandsComplete_planeCmdSwap : (svcSet [(D.Plane.STATE, 1, 2), (D.Plane.STATE, 0, 3)] : State).dev.grants (ask 2 : Rcp) 0x0D00 8 ⟨1, 3⟩ = true ∧ (svcSet [(D.Plane.STATE, 1, 2), (D.Plane.STATE, 0, 3)] : State).dev.planeState 0 = PlaneState.ACTIVE ∧ (svcSet [(D.Plane.STATE, 1, 2), (D.Plane.STATE, 0, 3)] : State).dev.planeState 1 = PlaneState.STANDBY := by decide

theorem wit_PlaneCommandsComplete_planeBistDone : (svcSet [(D.Plane.STATE, 0, 3)] : State).dev.serving = true ∧ (1 : Nat) < 2 ∧ (svcSet [(D.Plane.STATE, 0, 3)] : State).dev.planeState (1 : Nat) = PlaneState.OFFLINE ∧ (svcSet [(D.Plane.STATE, 0, 3)] : State).dev.planeState (1 - (1 : Nat)) = PlaneState.ACTIVE := by decide

theorem wit_PlaneCommandsComplete_planeResyncDone : (svcSet [(D.Plane.STATE, 0, 3), (D.Plane.STATE, 1, 1)] : State).dev.serving = true ∧ (1 : Nat) < 2 ∧ (svcSet [(D.Plane.STATE, 0, 3), (D.Plane.STATE, 1, 1)] : State).dev.planeState (1 : Nat) = PlaneState.RESYNC ∧ pagesAgree (([] : List (Nat × Nat)).foldl (fun m0 e0 => nput m0 0 e0.1 e0.2) ((svcSet [(D.Plane.STATE, 0, 3), (D.Plane.STATE, 1, 1)] : State).dev.planeSt (1 : Nat)).table) ((svcSet [(D.Plane.STATE, 0, 3), (D.Plane.STATE, 1, 1)] : State).dev.planeSt (1 - (1 : Nat))).table = true := by decide +kernel

theorem wit_PlaneCommandsComplete_planeResyncDone_2 : (svcSet [(D.Plane.STATE, 0, 3), (D.Plane.STATE, 1, 1)] : State).dev.serving = true ∧ (1 : Nat) < 2 ∧ (svcSet [(D.Plane.STATE, 0, 3), (D.Plane.STATE, 1, 1)] : State).dev.planeState (1 : Nat) = PlaneState.RESYNC ∧ pagesAgree (([(8191, 5)] : List (Nat × Nat)).foldl (fun m0 e0 => nput m0 0 e0.1 e0.2) ((svcSet [(D.Plane.STATE, 0, 3), (D.Plane.STATE, 1, 1)] : State).dev.planeSt (1 : Nat)).table) ((svcSet [(D.Plane.STATE, 0, 3), (D.Plane.STATE, 1, 1)] : State).dev.planeSt (1 - (1 : Nat))).table = false := by decide +kernel

theorem wit_PlaneCommandsComplete_planeRebuildDone : (svcWith (fun d => ((set [(D.Plane.STATE, 0, 5), (D.Plane.STATE, 1, 5)] d).setPlane 0 (fun x => { x with bist := some true })).setPlane 1 (fun x => { x with bist := some true })) : State).dev.serving = true ∧ (svcWith (fun d => ((set [(D.Plane.STATE, 0, 5), (D.Plane.STATE, 1, 5)] d).setPlane 0 (fun x => { x with bist := some true })).setPlane 1 (fun x => { x with bist := some true })) : State).dev.planeState 0 = PlaneState.REBUILD ∧ (svcWith (fun d => ((set [(D.Plane.STATE, 0, 5), (D.Plane.STATE, 1, 5)] d).setPlane 0 (fun x => { x with bist := some true })).setPlane 1 (fun x => { x with bist := some true })) : State).dev.planeState 1 = PlaneState.REBUILD ∧ (svcWith (fun d => ((set [(D.Plane.STATE, 0, 5), (D.Plane.STATE, 1, 5)] d).setPlane 0 (fun x => { x with bist := some true })).setPlane 1 (fun x => { x with bist := some true })) : State).dev.rd D.Planes.PREFERRED_PLANE 0 < 2 ∧ ((svcWith (fun d => ((set [(D.Plane.STATE, 0, 5), (D.Plane.STATE, 1, 5)] d).setPlane 0 (fun x => { x with bist := some true })).setPlane 1 (fun x => { x with bist := some true })) : State).dev.planeSt 0).bist = some true ∧ ((svcWith (fun d => ((set [(D.Plane.STATE, 0, 5), (D.Plane.STATE, 1, 5)] d).setPlane 0 (fun x => { x with bist := some true })).setPlane 1 (fun x => { x with bist := some true })) : State).dev.planeSt 1).bist = some true ∧ (svcWith (fun d => ((set [(D.Plane.STATE, 0, 5), (D.Plane.STATE, 1, 5)] d).setPlane 0 (fun x => { x with bist := some true })).setPlane 1 (fun x => { x with bist := some true })) : State).dev.shadowMatches = true := by decide

theorem wit_TwinPairingComplete_twinPairingSend : 5 ≤ (svcSet [(D.GroupStatus.STATE, 7, 3), (D.Twin.ENABLE, 0, 1)] : State).dev.stage ∧ (svcSet [(D.GroupStatus.STATE, 7, 3), (D.Twin.ENABLE, 0, 1)] : State).dev.inReset = false ∧ (svcSet [(D.GroupStatus.STATE, 7, 3), (D.Twin.ENABLE, 0, 1)] : State).dev.mayPair = true ∧ ((svcSet [(D.GroupStatus.STATE, 7, 3), (D.Twin.ENABLE, 0, 1)] : State).dev.twin.sentAt = none ∨ (svcSet [(D.GroupStatus.STATE, 7, 3), (D.Twin.ENABLE, 0, 1)] : State).dev.twin.sentAt = some (svcSet [(D.GroupStatus.STATE, 7, 3), (D.Twin.ENABLE, 0, 1)] : State).dev.wall ∧ 1000000000 ≤ (5 : Nat)) ∧ ((svcSet [(D.GroupStatus.STATE, 7, 3), (D.Twin.ENABLE, 0, 1)] : State).dev.twinState = TwinState.UNPAIRED ∨ (svcSet [(D.GroupStatus.STATE, 7, 3), (D.Twin.ENABLE, 0, 1)] : State).dev.twinState = TwinState.PAIRING ∨ (svcSet [(D.GroupStatus.STATE, 7, 3), (D.Twin.ENABLE, 0, 1)] : State).dev.twinState = TwinState.LOST) := by decide

theorem wit_TwinPairingComplete_twinPairingRx : 5 ≤ (pairing : State).dev.stage ∧ (pairing : State).dev.inReset = false ∧ (pairing : State).dev.mayPair = true ∧ (pairing : State).dev.twinState = TwinState.PAIRING ∧ (pairing : State).dev.pairMatch ((pairing.dev.wr D.Straps.PLANE_B 0 1).pairBlock : Nat) = true := ⟨by decide, by decide, by decide, by decide, pairing_match⟩

theorem wit_TwinPairingComplete_twinPairingTimeout : 5 ≤ (svcSet [(D.Twin.STATE, 0, 1), (D.Twin.ROLE, 0, 1)] : State).dev.stage ∧ (svcSet [(D.Twin.STATE, 0, 1), (D.Twin.ROLE, 0, 1)] : State).dev.inReset = false ∧ (svcSet [(D.Twin.STATE, 0, 1), (D.Twin.ROLE, 0, 1)] : State).dev.twinState = TwinState.PAIRING ∧ ((svcSet [(D.Twin.STATE, 0, 1), (D.Twin.ROLE, 0, 1)] : State).dev.elapse (100000000 : Nat)).past (svcSet [(D.Twin.STATE, 0, 1), (D.Twin.ROLE, 0, 1)] : State).dev.twin.since 100000000 = true := by decide

theorem wit_TwinPairingComplete_twinReconcile : (svcSet [(D.Twin.STATE, 0, 2), (D.Twin.ROLE, 0, 0)] : State).dev.serving = true ∧ (svcSet [(D.Twin.STATE, 0, 2), (D.Twin.ROLE, 0, 0)] : State).dev.twinState = TwinState.RECONCILE := by decide

theorem wit_TwinPairingComplete_twinCopyDone : (svcSet [(D.Twin.STATE, 0, 3), (D.Twin.ROLE, 0, 1), (D.Twin.RESYNCS, 0, 4294967295)] : State).dev.serving = true ∧ (svcSet [(D.Twin.STATE, 0, 3), (D.Twin.ROLE, 0, 1), (D.Twin.RESYNCS, 0, 4294967295)] : State).dev.twinState = TwinState.RESYNC ∧ ((svcSet [(D.Twin.STATE, 0, 3), (D.Twin.ROLE, 0, 1), (D.Twin.RESYNCS, 0, 4294967295)] : State).dev.elapse (60000000 : Nat)).past (svcSet [(D.Twin.STATE, 0, 3), (D.Twin.ROLE, 0, 1), (D.Twin.RESYNCS, 0, 4294967295)] : State).dev.twin.since twinCopyNs = true := by decide

theorem wit_TwinPairingComplete_twinLost : 5 ≤ (svcSet [(D.Twin.STATE, 0, 4), (D.GroupStatus.STATE, 7, 3), (D.Twin.LOSSES, 0, 4294967295)] : State).dev.stage ∧ (svcSet [(D.Twin.STATE, 0, 4), (D.GroupStatus.STATE, 7, 3), (D.Twin.LOSSES, 0, 4294967295)] : State).dev.inReset = false ∧ (svcSet [(D.Twin.STATE, 0, 4), (D.GroupStatus.STATE, 7, 3), (D.Twin.LOSSES, 0, 4294967295)] : State).dev.twinState = TwinState.PAIRED ∧ ((svcSet [(D.Twin.STATE, 0, 4), (D.GroupStatus.STATE, 7, 3), (D.Twin.LOSSES, 0, 4294967295)] : State).dev.groupUp 7 = false ∨ ((svcSet [(D.Twin.STATE, 0, 4), (D.GroupStatus.STATE, 7, 3), (D.Twin.LOSSES, 0, 4294967295)] : State).dev.elapse (1000000 : Nat)).past (svcSet [(D.Twin.STATE, 0, 4), (D.GroupStatus.STATE, 7, 3), (D.Twin.LOSSES, 0, 4294967295)] : State).dev.twin.heardAt 1000000 = true) := by decide

theorem wit_TwinPairingComplete_twinCmdMakeActive : (svcSet [(D.Twin.STATE, 0, 4), (D.Twin.ROLE, 0, 1)] : State).dev.grants (ask 2 : Rcp) 0x0D20 0x0C ⟨1, 1⟩ = true ∧ (svcSet [(D.Twin.STATE, 0, 4), (D.Twin.ROLE, 0, 1)] : State).dev.twinState = TwinState.PAIRED := by decide

theorem wit_TwinFramesComplete_twinSignatureRx : (svcSet [(D.Twin.STATE, 0, 4)] : State).dev.serving = true ∧ (svcSet [(D.Twin.STATE, 0, 4)] : State).dev.twinState = TwinState.PAIRED ∧ nget (svcSet [(D.Twin.STATE, 0, 4)] : State).dev.twin.sigs (0, 0, 0) (8191 : Nat) = (0, 0, 0) := by decide

theorem wit_TwinFramesComplete_twinSignatureRx_2 : (svcWith (fun d => { set [(D.Twin.STATE, 0, 4), (D.Flow.FORMAT, 8191, 0x6700)] d with twin := { sigs := [(8191, 7, 90, 8)] } }) : State).dev.serving = true ∧ (svcWith (fun d => { set [(D.Twin.STATE, 0, 4), (D.Flow.FORMAT, 8191, 0x6700)] d with twin := { sigs := [(8191, 7, 90, 8)] } }) : State).dev.twinState = TwinState.PAIRED ∧ (svcWith (fun d => { set [(D.Twin.STATE, 0, 4), (D.Flow.FORMAT, 8191, 0x6700)] d with twin := { sigs := [(8191, 7, 90, 8)] } }) : State).dev.rd D.Twin.ROLE 0 = 0 ∧ nget (svcWith (fun d => { set [(D.Twin.STATE, 0, 4), (D.Flow.FORMAT, 8191, 0x6700)] d with twin := { sigs := [(8191, 7, 90, 8)] } }) : State).dev.twin.sigs (0, 0, 0) (8191 : Nat) = ((7 : Nat), (90 : Nat), (8 : Nat)) ∧ ((7 : Nat), (90 : Nat), (8 : Nat)) ≠ (0, 0, 0) ∧ ((7 : Nat), (100 : Nat), (9 : Nat)) ≠ (0, 0, 0) ∧ 2 * (sdiff (90 : Nat) (100 : Nat) 64).natAbs < Fmt.periodNs ((svcWith (fun d => { set [(D.Twin.STATE, 0, 4), (D.Flow.FORMAT, 8191, 0x6700)] d with twin := { sigs := [(8191, 7, 90, 8)] } }) : State).dev.format (8191 : Nat)) := by decide

theorem wit_TwinFramesComplete_twinAnchorSend : (svcWith (fun d => (set [(D.Twin.STATE, 0, 4), (D.Flow.ENABLE, 8191, 1), (D.Flow.KIND, 8191, 0x43), (D.Flow.STATE, 8191, 2), (D.LegCfg.TWIN_LEG, 4095, 1)] d).setNetTx 8191 (fun x => { x with anchors := [(5, 77), (3, 70)] })) : State).dev.serving = true ∧ (svcWith (fun d => (set [(D.Twin.STATE, 0, 4), (D.Flow.ENABLE, 8191, 1), (D.Flow.KIND, 8191, 0x43), (D.Flow.STATE, 8191, 2), (D.LegCfg.TWIN_LEG, 4095, 1)] d).setNetTx 8191 (fun x => { x with anchors := [(5, 77), (3, 70)] })) : State).dev.twinState = TwinState.PAIRED ∧ (svcWith (fun d => (set [(D.Twin.STATE, 0, 4), (D.Flow.ENABLE, 8191, 1), (D.Flow.KIND, 8191, 0x43), (D.Flow.STATE, 8191, 2), (D.LegCfg.TWIN_LEG, 4095, 1)] d).setNetTx 8191 (fun x => { x with anchors := [(5, 77), (3, 70)] })) : State).dev.rd D.Twin.ROLE 0 = 0 ∧ ((svcWith (fun d => (set [(D.Twin.STATE, 0, 4), (D.Flow.ENABLE, 8191, 1), (D.Flow.KIND, 8191, 0x43), (D.Flow.STATE, 8191, 2), (D.LegCfg.TWIN_LEG, 4095, 1)] d).setNetTx 8191 (fun x => { x with anchors := [(5, 77), (3, 70)] })) : State).dev.elapse (100000000000 : Nat)).past (svcWith (fun d => (set [(D.Twin.STATE, 0, 4), (D.Flow.ENABLE, 8191, 1), (D.Flow.KIND, 8191, 0x43), (D.Flow.STATE, 8191, 2), (D.LegCfg.TWIN_LEG, 4095, 1)] d).setNetTx 8191 (fun x => { x with anchors := [(5, 77), (3, 70)] })) : State).dev.twin.anchorAt ((svcWith (fun d => (set [(D.Twin.STATE, 0, 4), (D.Flow.ENABLE, 8191, 1), (D.Flow.KIND, 8191, 0x43), (D.Flow.STATE, 8191, 2), (D.LegCfg.TWIN_LEG, 4095, 1)] d).setNetTx 8191 (fun x => { x with anchors := [(5, 77), (3, 70)] })) : State).dev.rd D.Leg.ANCHOR_PERIOD_MS 0 * 1000000) = true := by decide

theorem wit_TwinFramesComplete_twinAnchorRx : (svcWith (fun d => (set [(D.Twin.STATE, 0, 4), (D.Twin.ROLE, 0, 1), (D.Flow.ENABLE, 8191, 1), (D.Flow.KIND, 8191, 0x43), (D.Flow.STATE, 8191, 2), (D.LegCfg.TWIN_LEG, 4095, 1)] d).setNetTx 8191 (fun x => { x with anchors := [(5, 77)] })) : State).dev.serving = true ∧ (svcWith (fun d => (set [(D.Twin.STATE, 0, 4), (D.Twin.ROLE, 0, 1), (D.Flow.ENABLE, 8191, 1), (D.Flow.KIND, 8191, 0x43), (D.Flow.STATE, 8191, 2), (D.LegCfg.TWIN_LEG, 4095, 1)] d).setNetTx 8191 (fun x => { x with anchors := [(5, 77)] })) : State).dev.twinState = TwinState.PAIRED ∧ (svcWith (fun d => (set [(D.Twin.STATE, 0, 4), (D.Twin.ROLE, 0, 1), (D.Flow.ENABLE, 8191, 1), (D.Flow.KIND, 8191, 0x43), (D.Flow.STATE, 8191, 2), (D.LegCfg.TWIN_LEG, 4095, 1)] d).setNetTx 8191 (fun x => { x with anchors := [(5, 77)] })) : State).dev.rd D.Twin.ROLE 0 = 1 ∧ (svcWith (fun d => (set [(D.Twin.STATE, 0, 4), (D.Twin.ROLE, 0, 1), (D.Flow.ENABLE, 8191, 1), (D.Flow.KIND, 8191, 0x43), (D.Flow.STATE, 8191, 2), (D.LegCfg.TWIN_LEG, 4095, 1)] d).setNetTx 8191 (fun x => { x with anchors := [(5, 77)] })) : State).dev.twinLegs.contains (8191 : Nat) = true ∧ ((svcWith (fun d => (set [(D.Twin.STATE, 0, 4), (D.Twin.ROLE, 0, 1), (D.Flow.ENABLE, 8191, 1), (D.Flow.KIND, 8191, 0x43), (D.Flow.STATE, 8191, 2), (D.LegCfg.TWIN_LEG, 4095, 1)] d).setNetTx 8191 (fun x => { x with anchors := [(5, 77)] })) : State).dev.netTxSt (8191 : Nat)).anchors.find? (fun a0 => a0.1 == ((5, 80) : Nat × Nat).1) = some ((5, 77) : Nat × Nat) := by decide

theorem wit_TwinFramesComplete_twinAnchorRx_2 : (svcSet [(D.Twin.STATE, 0, 4), (D.Twin.ROLE, 0, 1), (D.Flow.ENABLE, 8191, 1), (D.Flow.KIND, 8191, 0x43), (D.Flow.STATE, 8191, 2), (D.LegCfg.TWIN_LEG, 4095, 1)] : State).dev.serving = true ∧ (svcSet [(D.Twin.STATE, 0, 4), (D.Twin.ROLE, 0, 1), (D.Flow.ENABLE, 8191, 1), (D.Flow.KIND, 8191, 0x43), (D.Flow.STATE, 8191, 2), (D.LegCfg.TWIN_LEG, 4095, 1)] : State).dev.twinState = TwinState.PAIRED ∧ (svcSet [(D.Twin.STATE, 0, 4), (D.Twin.ROLE, 0, 1), (D.Flow.ENABLE, 8191, 1), (D.Flow.KIND, 8191, 0x43), (D.Flow.STATE, 8191, 2), (D.LegCfg.TWIN_LEG, 4095, 1)] : State).dev.rd D.Twin.ROLE 0 = 1 ∧ (svcSet [(D.Twin.STATE, 0, 4), (D.Twin.ROLE, 0, 1), (D.Flow.ENABLE, 8191, 1), (D.Flow.KIND, 8191, 0x43), (D.Flow.STATE, 8191, 2), (D.LegCfg.TWIN_LEG, 4095, 1)] : State).dev.twinLegs.contains (8191 : Nat) = true ∧ ((svcSet [(D.Twin.STATE, 0, 4), (D.Twin.ROLE, 0, 1), (D.Flow.ENABLE, 8191, 1), (D.Flow.KIND, 8191, 0x43), (D.Flow.STATE, 8191, 2), (D.LegCfg.TWIN_LEG, 4095, 1)] : State).dev.netTxSt (8191 : Nat)).anchors.find? (fun a0 => a0.1 == ((9, 80) : Nat × Nat).1) = none := by decide

theorem wit_SdiPortsComplete_sdiRxLock : (svc : State).dev.serving = true ∧ (127 : Nat) < 128 ∧ 1 ≤ (9 : Nat) ∧ (9 : Nat) ≤ 9 ∧ ((svc : State).dev.rd D.SdiRxCfg.RATE_CODE ((svc : State).dev.rxCfgLane (127 : Nat)) = 0 ∨ (svc : State).dev.rd D.SdiRxCfg.RATE_CODE ((svc : State).dev.rxCfgLane (127 : Nat)) = (9 : Nat)) ∧ (svc : State).dev.on D.SdiRxStatus.LOCKED (127 : Nat) = false := by decide

theorem wit_SdiPortsComplete_sdiRxLockLost : (svcSet [(D.SdiRxStatus.LOCKED, 127, 1), (D.SdiRxStatus.RATE, 127, 4)] : State).dev.serving = true ∧ (127 : Nat) < 128 ∧ (svcSet [(D.SdiRxStatus.LOCKED, 127, 1), (D.SdiRxStatus.RATE, 127, 4)] : State).dev.on D.SdiRxStatus.LOCKED (127 : Nat) = true := by decide

theorem wit_SdiPortsComplete_sdiRxFormatChange : (svcSet [(D.SdiRxStatus.LOCKED, 0, 1), (D.SdiRxStatus.DETECTED_FORMAT, 0, 0x2400)] : State).dev.serving = true ∧ (0 : Nat) < 128 ∧ (svcSet [(D.SdiRxStatus.LOCKED, 0, 1), (D.SdiRxStatus.DETECTED_FORMAT, 0, 0x2400)] : State).dev.on D.SdiRxStatus.LOCKED (0 : Nat) = true := by decide

theorem wit_SdiPortsComplete_sdiFormatDetected : (svcWith (fun d => (set [(D.SdiRxStatus.LOCKED, 127, 1)] d).setRx 127 (fun x => { x with changedAt := some 0 })) : State).dev.serving = true ∧ (127 : Nat) < 128 ∧ (svcWith (fun d => (set [(D.SdiRxStatus.LOCKED, 127, 1)] d).setRx 127 (fun x => { x with changedAt := some 0 })) : State).dev.on D.SdiRxStatus.LOCKED (127 : Nat) = true ∧ 1 ≤ (8 : Nat) ∧ (8 : Nat) ≤ 8 ∧ 1 ≤ (3 : Nat) ∧ (3 : Nat) ≤ 8 ∧ ((svcWith (fun d => (set [(D.SdiRxStatus.LOCKED, 127, 1)] d).setRx 127 (fun x => { x with changedAt := some 0 })) : State).dev.rxSt (127 : Nat)).changedAt = some (0 : Nat) ∧ 2 * Fmt.period1001 ≤ ((svcWith (fun d => (set [(D.SdiRxStatus.LOCKED, 127, 1)] d).setRx 127 (fun x => { x with changedAt := some 0 })) : State).dev.wall + (80000000 : Nat) - (0 : Nat)) * Fmt.fps1001 (3 : Nat) := by decide

theorem wit_SdiPortsComplete_sdiPortResume : (svcWith (fun d => (set [(D.Flow.STATE, 4095, 2), (D.Flow.ENABLE, 4095, 1), (D.Flow.KIND, 4095, 1), (D.Flow.FORMAT, 4095, 0x2300), (D.SdiRxStatus.LOCKED, 0, 1), (D.SdiRxStatus.DETECTED_FORMAT, 0, 0x2300), (D.FlowStatus.FROZEN, 4095, 1), (D.Flow.SEQ_NEXT, 4095, 77)] d).setFlow 4095 (fun x => { x with begun := true })) : State).dev.serving = true ∧ (4095 : Nat) < 4096 ∧ (svcWith (fun d => (set [(D.Flow.STATE, 4095, 2), (D.Flow.ENABLE, 4095, 1), (D.Flow.KIND, 4095, 1), (D.Flow.FORMAT, 4095, 0x2300), (D.SdiRxStatus.LOCKED, 0, 1), (D.SdiRxStatus.DETECTED_FORMAT, 0, 0x2300), (D.FlowStatus.FROZEN, 4095, 1), (D.Flow.SEQ_NEXT, 4095, 77)] d).setFlow 4095 (fun x => { x with begun := true })) : State).dev.kind (4095 : Nat) = 1 ∧ (svcWith (fun d => (set [(D.Flow.STATE, 4095, 2), (D.Flow.ENABLE, 4095, 1), (D.Flow.KIND, 4095, 1), (D.Flow.FORMAT, 4095, 0x2300), (D.SdiRxStatus.LOCKED, 0, 1), (D.SdiRxStatus.DETECTED_FORMAT, 0, 0x2300), (D.FlowStatus.FROZEN, 4095, 1), (D.Flow.SEQ_NEXT, 4095, 77)] d).setFlow 4095 (fun x => { x with begun := true })) : State).dev.running (4095 : Nat) = true ∧ ((svcWith (fun d => (set [(D.Flow.STATE, 4095, 2), (D.Flow.ENABLE, 4095, 1), (D.Flow.KIND, 4095, 1), (D.Flow.FORMAT, 4095, 0x2300), (D.SdiRxStatus.LOCKED, 0, 1), (D.SdiRxStatus.DETECTED_FORMAT, 0, 0x2300), (D.FlowStatus.FROZEN, 4095, 1), (D.Flow.SEQ_NEXT, 4095, 77)] d).setFlow 4095 (fun x => { x with begun := true })) : State).dev.flowSt (4095 : Nat)).base = none ∧ ((svcWith (fun d => (set [(D.Flow.STATE, 4095, 2), (D.Flow.ENABLE, 4095, 1), (D.Flow.KIND, 4095, 1), (D.Flow.FORMAT, 4095, 0x2300), (D.SdiRxStatus.LOCKED, 0, 1), (D.SdiRxStatus.DETECTED_FORMAT, 0, 0x2300), (D.FlowStatus.FROZEN, 4095, 1), (D.Flow.SEQ_NEXT, 4095, 77)] d).setFlow 4095 (fun x => { x with begun := true })) : State).dev.flowSt (4095 : Nat)).begun = true ∧ (((svcWith (fun d => (set [(D.Flow.STATE, 4095, 2), (D.Flow.ENABLE, 4095, 1), (D.Flow.KIND, 4095, 1), (D.Flow.FORMAT, 4095, 0x2300), (D.SdiRxStatus.LOCKED, 0, 1), (D.SdiRxStatus.DETECTED_FORMAT, 0, 0x2300), (D.FlowStatus.FROZEN, 4095, 1), (D.Flow.SEQ_NEXT, 4095, 77)] d).setFlow 4095 (fun x => { x with begun := true })) : State).dev.elapse (5 : Nat)).showSkew (4095 : Nat) ((0 : Nat) :: ([] : List Nat))).portReady (4095 : Nat) = true := by decide +kernel

theorem wit_SdiPortsComplete_sdiGroupDeskewLost : (svcSet [(D.Flow.STATE, 9, 2), (D.Flow.ENABLE, 9, 1), (D.Flow.KIND, 9, 1), (D.Flow.FORMAT, 9, 0x7308), (D.SdiRxStatus.LOCKED, 1, 1), (D.SdiRxStatus.GROUP_ALIGNED, 1, 1)] : State).dev.serving = true ∧ (svcSet [(D.Flow.STATE, 9, 2), (D.Flow.ENABLE, 9, 1), (D.Flow.KIND, 9, 1), (D.Flow.FORMAT, 9, 0x7308), (D.SdiRxStatus.LOCKED, 1, 1), (D.SdiRxStatus.GROUP_ALIGNED, 1, 1)] : State).dev.sdiCtx 1 (1 : Nat) = some (9 : Nat) ∧ 2 ≤ ((svcSet [(D.Flow.STATE, 9, 2), (D.Flow.ENABLE, 9, 1), (D.Flow.KIND, 9, 1), (D.Flow.FORMAT, 9, 0x7308), (D.SdiRxStatus.LOCKED, 1, 1), (D.SdiRxStatus.GROUP_ALIGNED, 1, 1)] : State).dev.lanes (9 : Nat)).length ∧ 2000 < (2001 : Nat) ∧ (svcSet [(D.Flow.STATE, 9, 2), (D.Flow.ENABLE, 9, 1), (D.Flow.KIND, 9, 1), (D.Flow.FORMAT, 9, 0x7308), (D.SdiRxStatus.LOCKED, 1, 1), (D.SdiRxStatus.GROUP_ALIGNED, 1, 1)] : State).dev.on D.SdiRxStatus.LOCKED (1 : Nat) = true := by decide

theorem wit_SdiPortsComplete_sdiPidAbsent : (svcSet [(D.SdiRxStatus.PID_PRESENT, 127, 1)] : State).dev.serving = true ∧ (127 : Nat) < 128 := by decide

theorem wit_SdiPortsComplete_sdiTxFrameBoundary : (svcSet [(D.Flow.STATE, 8191, 2), (D.Flow.KIND, 8191, 0x41), (D.Flow.FORMAT, 8191, 0x2300)] : State).dev.serving = true ∧ 4096 ≤ (8191 : Nat) ∧ (8191 : Nat) < 8192 ∧ (svcSet [(D.Flow.STATE, 8191, 2), (D.Flow.KIND, 8191, 0x41), (D.Flow.FORMAT, 8191, 0x2300)] : State).dev.running (8191 : Nat) = true ∧ (svcSet [(D.Flow.STATE, 8191, 2), (D.Flow.KIND, 8191, 0x41), (D.Flow.FORMAT, 8191, 0x2300)] : State).dev.kind (8191 : Nat) = 0x41 ∧ (svcSet [(D.Flow.STATE, 8191, 2), (D.Flow.KIND, 8191, 0x41), (D.Flow.FORMAT, 8191, 0x2300)] : State).dev.tileAgain = [] ∧ (svcSet [(D.Flow.STATE, 8191, 2), (D.Flow.KIND, 8191, 0x41), (D.Flow.FORMAT, 8191, 0x2300)] : State).dev.xp.unmet = [] ∧ (svcSet [(D.Flow.STATE, 8191, 2), (D.Flow.KIND, 8191, 0x41), (D.Flow.FORMAT, 8191, 0x2300)] : State).dev.xp.pend.all (fun p0 => !p0.2.again) = true ∧ ((svcSet [(D.Flow.STATE, 8191, 2), (D.Flow.KIND, 8191, 0x41), (D.Flow.FORMAT, 8191, 0x2300)] : State).dev.elapse (5 : Nat)).boundaryNow (8191 : Nat) = some (5 : Nat) := by decide

theorem wit_SdiPortsComplete_sdiTxFrameBoundary_2 : (svcSet [(D.Flow.STATE, 8191, 2), (D.Flow.KIND, 8191, 0x47), (D.Flow.FORMAT, 8191, 0x2300)] : State).dev.serving = true ∧ 4096 ≤ (8191 : Nat) ∧ (8191 : Nat) < 8192 ∧ (svcSet [(D.Flow.STATE, 8191, 2), (D.Flow.KIND, 8191, 0x47), (D.Flow.FORMAT, 8191, 0x2300)] : State).dev.running (8191 : Nat) = true ∧ (svcSet [(D.Flow.STATE, 8191, 2), (D.Flow.KIND, 8191, 0x47), (D.Flow.FORMAT, 8191, 0x2300)] : State).dev.kind (8191 : Nat) = 0x47 ∧ (svcSet [(D.Flow.STATE, 8191, 2), (D.Flow.KIND, 8191, 0x47), (D.Flow.FORMAT, 8191, 0x2300)] : State).dev.tileAgain = [] ∧ (svcSet [(D.Flow.STATE, 8191, 2), (D.Flow.KIND, 8191, 0x47), (D.Flow.FORMAT, 8191, 0x2300)] : State).dev.xp.unmet = [] ∧ (svcSet [(D.Flow.STATE, 8191, 2), (D.Flow.KIND, 8191, 0x47), (D.Flow.FORMAT, 8191, 0x2300)] : State).dev.xp.pend.all (fun p0 => !p0.2.again) = true ∧ ((svcSet [(D.Flow.STATE, 8191, 2), (D.Flow.KIND, 8191, 0x47), (D.Flow.FORMAT, 8191, 0x2300)] : State).dev.isSafe (8191 : Nat) = false ∨ ((svcSet [(D.Flow.STATE, 8191, 2), (D.Flow.KIND, 8191, 0x47), (D.Flow.FORMAT, 8191, 0x2300)] : State).dev.elapse (5 : Nat)).safeDue (8191 : Nat) = true) := by decide

theorem wit_SdiPortsComplete_holdMaxExpiry : (svcWith (fun d => { set [(D.Flow.KIND, 4096, 0x41), (D.FlowStatus.SAFE, 4096, 1), (D.SdiTxStatus.SAFE_HOLD, 0, 1), (D.SdiTxCfg.HOLD_MAX_S, 0, 10)] d with hold := nput d.hold {} 4096 { heldSince := some 0 } }) : State).dev.serving = true ∧ (nget (svcWith (fun d => { set [(D.Flow.KIND, 4096, 0x41), (D.FlowStatus.SAFE, 4096, 1), (D.SdiTxStatus.SAFE_HOLD, 0, 1), (D.SdiTxCfg.HOLD_MAX_S, 0, 10)] d with hold := nput d.hold {} 4096 { heldSince := some 0 } }) : State).dev.hold {} (4096 : Nat)).heldSince = some (0 : Nat) ∧ (nget (svcWith (fun d => { set [(D.Flow.KIND, 4096, 0x41), (D.FlowStatus.SAFE, 4096, 1), (D.SdiTxStatus.SAFE_HOLD, 0, 1), (D.SdiTxCfg.HOLD_MAX_S, 0, 10)] d with hold := nput d.hold {} 4096 { heldSince := some 0 } }) : State).dev.hold {} (4096 : Nat)).expired = false ∧ (svcWith (fun d => { set [(D.Flow.KIND, 4096, 0x41), (D.FlowStatus.SAFE, 4096, 1), (D.SdiTxStatus.SAFE_HOLD, 0, 1), (D.SdiTxCfg.HOLD_MAX_S, 0, 10)] d with hold := nput d.hold {} 4096 { heldSince := some 0 } }) : State).dev.isSafe (4096 : Nat) = true ∧ (svcWith (fun d => { set [(D.Flow.KIND, 4096, 0x41), (D.FlowStatus.SAFE, 4096, 1), (D.SdiTxStatus.SAFE_HOLD, 0, 1), (D.SdiTxCfg.HOLD_MAX_S, 0, 10)] d with hold := nput d.hold {} 4096 { heldSince := some 0 } }) : State).dev.safeHold (4096 : Nat) = true ∧ (svcWith (fun d => { set [(D.Flow.KIND, 4096, 0x41), (D.FlowStatus.SAFE, 4096, 1), (D.SdiTxStatus.SAFE_HOLD, 0, 1), (D.SdiTxCfg.HOLD_MAX_S, 0, 10)] d with hold := nput d.hold {} 4096 { heldSince := some 0 } }) : State).dev.holdMax (4096 : Nat) ≠ 0 ∧ ((svcWith (fun d => { set [(D.Flow.KIND, 4096, 0x41), (D.FlowStatus.SAFE, 4096, 1), (D.SdiTxStatus.SAFE_HOLD, 0, 1), (D.SdiTxCfg.HOLD_MAX_S, 0, 10)] d with hold := nput d.hold {} 4096 { heldSince := some 0 } }) : State).dev.elapse (10000000000 : Nat)).past (0 : Nat) ((svcWith (fun d => { set [(D.Flow.KIND, 4096, 0x41), (D.FlowStatus.SAFE, 4096, 1), (D.SdiTxStatus.SAFE_HOLD, 0, 1), (D.SdiTxCfg.HOLD_MAX_S, 0, 10)] d with hold := nput d.hold {} 4096 { heldSince := some 0 } }) : State).dev.holdMax (4096 : Nat) * 1000000000) = true := by decide

theorem wit_NetworkReceiveCompletes_netFrameRx : (svcSet [(D.PortStatus.LINK, 31, 2)] : State).dev.serving = true ∧ ({ frame with port := 31, fcsOk := false } : NetFrame).port < 32 ∧ (svcSet [(D.PortStatus.LINK, 31, 2)] : State).dev.portUp ({ frame with port := 31, fcsOk := false } : NetFrame).port = true ∧ ({ frame with port := 31, fcsOk := false } : NetFrame).fcsOk = false := by decide

theorem wit_NetworkReceiveCompletes_netFrameRx_2 : (svcSet [(D.PortStatus.LINK, 0, 2), (D.IfCfg.ENABLE, 0, 1), (D.Flow.ENABLE, 4095, 1), (D.Flow.STATE, 4095, 2), (D.Flow.KIND, 4095, 2), (D.NetRxCfg.DEST_A, 4095, 0xFFFFC0A80001), (D.NetRxCfg.UDP_A, 4095, 5000)] : State).dev.serving = true ∧ ({ frame with mac := 2 ^ 48 - 1 } : NetFrame).port < 32 ∧ (svcSet [(D.PortStatus.LINK, 0, 2), (D.IfCfg.ENABLE, 0, 1), (D.Flow.ENABLE, 4095, 1), (D.Flow.STATE, 4095, 2), (D.Flow.KIND, 4095, 2), (D.NetRxCfg.DEST_A, 4095, 0xFFFFC0A80001), (D.NetRxCfg.UDP_A, 4095, 5000)] : State).dev.portUp ({ frame with mac := 2 ^ 48 - 1 } : NetFrame).port = true ∧ ({ frame with mac := 2 ^ 48 - 1 } : NetFrame).fcsOk = true ∧ ({ frame with mac := 2 ^ 48 - 1 } : NetFrame).ipOk = true ∧ (({ frame with mac := 2 ^ 48 - 1 } : NetFrame).what ≠ 0 ∨ ({ frame with mac := 2 ^ 48 - 1 } : NetFrame).udpOk = true) ∧ (List.range 8).find? (fun i0 => (svcSet [(D.PortStatus.LINK, 0, 2), (D.IfCfg.ENABLE, 0, 1), (D.Flow.ENABLE, 4095, 1), (D.Flow.STATE, 4095, 2), (D.Flow.KIND, 4095, 2), (D.NetRxCfg.DEST_A, 4095, 0xFFFFC0A80001), (D.NetRxCfg.UDP_A, 4095, 5000)] : State).dev.ifVlan ({ frame with mac := 2 ^ 48 - 1 } : NetFrame).port i0 == some ({ frame with mac := 2 ^ 48 - 1 } : NetFrame).vlan) = some (0 : Nat) ∧ (svcSet [(D.PortStatus.LINK, 0, 2), (D.IfCfg.ENABLE, 0, 1), (D.Flow.ENABLE, 4095, 1), (D.Flow.STATE, 4095, 2), (D.Flow.KIND, 4095, 2), (D.NetRxCfg.DEST_A, 4095, 0xFFFFC0A80001), (D.NetRxCfg.UDP_A, 4095, 5000)] : State).dev.macOk ({ frame with mac := 2 ^ 48 - 1 } : NetFrame).port (0 : Nat) ({ frame with mac := 2 ^ 48 - 1 } : NetFrame).mac = true ∧ (svcSet [(D.PortStatus.LINK, 0, 2), (D.IfCfg.ENABLE, 0, 1), (D.Flow.ENABLE, 4095, 1), (D.Flow.STATE, 4095, 2), (D.Flow.KIND, 4095, 2), (D.NetRxCfg.DEST_A, 4095, 0xFFFFC0A80001), (D.NetRxCfg.UDP_A, 4095, 5000)] : State).dev.rxMatch ({ frame with mac := 2 ^ 48 - 1 } : NetFrame) = some ((4095 : Nat), true) := by decide

theorem wit_NetworkReceiveCompletes_netFrameRx_3 : (svcWith (fun d => { set [(D.PortStatus.LINK, 0, 2), (D.IfCfg.ENABLE, 0, 1), (D.IfCfg.IPV4_ADDR, 0, 0xC0A80001)] d with netPort := nput d.netPort {} 0 { ctrl := 1000 } }) : State).dev.serving = true ∧ ({ frame with mac := 2 ^ 48 - 1, what := 3 } : NetFrame).port < 32 ∧ (svcWith (fun d => { set [(D.PortStatus.LINK, 0, 2), (D.IfCfg.ENABLE, 0, 1), (D.IfCfg.IPV4_ADDR, 0, 0xC0A80001)] d with netPort := nput d.netPort {} 0 { ctrl := 1000 } }) : State).dev.portUp ({ frame with mac := 2 ^ 48 - 1, what := 3 } : NetFrame).port = true ∧ ({ frame with mac := 2 ^ 48 - 1, what := 3 } : NetFrame).fcsOk = true ∧ ({ frame with mac := 2 ^ 48 - 1, what := 3 } : NetFrame).ipOk = true ∧ (({ frame with mac := 2 ^ 48 - 1, what := 3 } : NetFrame).what ≠ 0 ∨ ({ frame with mac := 2 ^ 48 - 1, what := 3 } : NetFrame).udpOk = true) ∧ (List.range 8).find? (fun i0 => (svcWith (fun d => { set [(D.PortStatus.LINK, 0, 2), (D.IfCfg.ENABLE, 0, 1), (D.IfCfg.IPV4_ADDR, 0, 0xC0A80001)] d with netPort := nput d.netPort {} 0 { ctrl := 1000 } }) : State).dev.ifVlan ({ frame with mac := 2 ^ 48 - 1, what := 3 } : NetFrame).port i0 == some ({ frame with mac := 2 ^ 48 - 1, what := 3 } : NetFrame).vlan) = some (0 : Nat) ∧ (svcWith (fun d => { set [(D.PortStatus.LINK, 0, 2), (D.IfCfg.ENABLE, 0, 1), (D.IfCfg.IPV4_ADDR, 0, 0xC0A80001)] d with netPort := nput d.netPort {} 0 { ctrl := 1000 } }) : State).dev.macOk ({ frame with mac := 2 ^ 48 - 1, what := 3 } : NetFrame).port (0 : Nat) ({ frame with mac := 2 ^ 48 - 1, what := 3 } : NetFrame).mac = true ∧ (svcWith (fun d => { set [(D.PortStatus.LINK, 0, 2), (D.IfCfg.ENABLE, 0, 1), (D.IfCfg.IPV4_ADDR, 0, 0xC0A80001)] d with netPort := nput d.netPort {} 0 { ctrl := 1000 } }) : State).dev.rxMatch ({ frame with mac := 2 ^ 48 - 1, what := 3 } : NetFrame) = none ∧ 1 ≤ ({ frame with mac := 2 ^ 48 - 1, what := 3 } : NetFrame).what ∧ ({ frame with mac := 2 ^ 48 - 1, what := 3 } : NetFrame).what ≤ 3 ∧ ((svcWith (fun d => { set [(D.PortStatus.LINK, 0, 2), (D.IfCfg.ENABLE, 0, 1), (D.IfCfg.IPV4_ADDR, 0, 0xC0A80001)] d with netPort := nput d.netPort {} 0 { ctrl := 1000 } }) : State).dev.ifAddrs (8 * ({ frame with mac := 2 ^ 48 - 1, what := 3 } : NetFrame).port + (0 : Nat))).contains ({ frame with mac := 2 ^ 48 - 1, what := 3 } : NetFrame).dst = true := by decide

theorem wit_NetworkReceiveCompletes_net20227Release : (svcWith (fun d => (set [(D.NetRxCfg.MAX_SKEW_US, 4095, 10)] d).setNetRx 4095 (fun x => { x with held := [⟨⟨7, 0, false, [], ⟨0, 0⟩, 0, true⟩, some 0, none, 0, false⟩] })) : State).dev.serving = true ∧ (4095 : Nat) < 4096 ∧ (svcWith (fun d => (set [(D.NetRxCfg.MAX_SKEW_US, 4095, 10)] d).setNetRx 4095 (fun x => { x with held := [⟨⟨7, 0, false, [], ⟨0, 0⟩, 0, true⟩, some 0, none, 0, false⟩] })) : State).dev.nextHeld (4095 : Nat) = some (⟨⟨7, 0, false, [], ⟨0, 0⟩, 0, true⟩, some 0, none, 0, false⟩ : HeldPkt) ∧ (⟨⟨7, 0, false, [], ⟨0, 0⟩, 0, true⟩, some 0, none, 0, false⟩ : HeldPkt).basis + (svcWith (fun d => (set [(D.NetRxCfg.MAX_SKEW_US, 4095, 10)] d).setNetRx 4095 (fun x => { x with held := [⟨⟨7, 0, false, [], ⟨0, 0⟩, 0, true⟩, some 0, none, 0, false⟩] })) : State).dev.rd D.NetRxCfg.MAX_SKEW_US (4095 : Nat) * 1000 ≤ ((svcWith (fun d => (set [(D.NetRxCfg.MAX_SKEW_US, 4095, 10)] d).setNetRx 4095 (fun x => { x with held := [⟨⟨7, 0, false, [], ⟨0, 0⟩, 0, true⟩, some 0, none, 0, false⟩] })) : State).dev.elapse (10000 : Nat)).now := by decide

theorem wit_NetworkReceiveCompletes_netRxSilence : (svcWith (fun d => (set [(D.Flow.KIND, 4095, 7), (D.NetRxStatus.LEG_A_OK, 4095, 1)] d).setNetRx 4095 (fun x => { x with legA := some 0 })) : State).dev.serving = true ∧ (4095 : Nat) < 4096 ∧ Kind.netRx ((svcWith (fun d => (set [(D.Flow.KIND, 4095, 7), (D.NetRxStatus.LEG_A_OK, 4095, 1)] d).setNetRx 4095 (fun x => { x with legA := some 0 })) : State).dev.kind (4095 : Nat)) = true ∧ ((svcWith (fun d => (set [(D.Flow.KIND, 4095, 7), (D.NetRxStatus.LEG_A_OK, 4095, 1)] d).setNetRx 4095 (fun x => { x with legA := some 0 })) : State).dev.netRxSt (4095 : Nat)).legA = some (0 : Nat) ∧ ((svcWith (fun d => (set [(D.Flow.KIND, 4095, 7), (D.NetRxStatus.LEG_A_OK, 4095, 1)] d).setNetRx 4095 (fun x => { x with legA := some 0 })) : State).dev.elapse (10000000 : Nat)).past (0 : Nat) 10000000 = true := by decide

theorem wit_NetworkPortsComplete_netLinkUp : (svcSet [(D.PortCfg.MODE, 31, 1), (D.PortStatus.LINK, 31, 1)] : State).dev.serving = true ∧ (31 : Nat) < 32 ∧ (svcSet [(D.PortCfg.MODE, 31, 1), (D.PortStatus.LINK, 31, 1)] : State).dev.rd D.PortCfg.MODE (31 : Nat) ≠ 0 ∧ (svcSet [(D.PortCfg.MODE, 31, 1), (D.PortStatus.LINK, 31, 1)] : State).dev.portUp (31 : Nat) = false ∧ (svcSet [(D.PortCfg.MODE, 31, 1), (D.PortStatus.LINK, 31, 1)] : State).dev.spareFailed (31 : Nat) = false := by decide

theorem wit_NetworkPortsComplete_netLinkUp_2 : (svcSet [(D.PortCfg.MODE, 31, 1), (D.SpareStatus.IN_USE, 3, 1), (D.SpareStatus.LANE, 3, 31), (D.SpareStatus.FAILED, 3, 1)] : State).dev.serving = true ∧ (31 : Nat) < 32 ∧ (svcSet [(D.PortCfg.MODE, 31, 1), (D.SpareStatus.IN_USE, 3, 1), (D.SpareStatus.LANE, 3, 31), (D.SpareStatus.FAILED, 3, 1)] : State).dev.spareFailed (31 : Nat) = true := by decide

theorem wit_NetworkPortsComplete_netLinkDown : (svcSet [(D.PortCfg.MODE, 31, 1), (D.PortStatus.LINK, 31, 2)] : State).dev.serving = true ∧ (31 : Nat) < 32 ∧ (svcSet [(D.PortCfg.MODE, 31, 1), (D.PortStatus.LINK, 31, 2)] : State).dev.portUp (31 : Nat) = true := by decide

theorem wit_NetworkPortsComplete_netSpareRemap : (svcSet [(D.PortCfg.MODE, 31, 1), (D.LaneStatus.USE, 159, 4), (D.Net.AUTO_SPARE, 0, 1)] : State).dev.serving = true ∧ (31 : Nat) < 32 ∧ ((svcSet [(D.PortCfg.MODE, 31, 1), (D.LaneStatus.USE, 159, 4), (D.Net.AUTO_SPARE, 0, 1)] : State).dev.portOfLane (31 : Nat)).isSome = true ∧ (svcSet [(D.PortCfg.MODE, 31, 1), (D.LaneStatus.USE, 159, 4), (D.Net.AUTO_SPARE, 0, 1)] : State).dev.rd D.LaneStatus.USE (128 + (31 : Nat)) = 4 ∧ (svcSet [(D.PortCfg.MODE, 31, 1), (D.LaneStatus.USE, 159, 4), (D.Net.AUTO_SPARE, 0, 1)] : State).dev.on D.Net.AUTO_SPARE 0 = true ∧ (svcSet [(D.PortCfg.MODE, 31, 1), (D.LaneStatus.USE, 159, 4), (D.Net.AUTO_SPARE, 0, 1)] : State).dev.on D.SpareStatus.IN_USE ((31 : Nat) / 8) = false := by decide

theorem wit_NetworkPortsComplete_netTrainingFailed : (svcWith (fun d => { set [(D.PortCfg.MODE, 28, 5)] d with netPort := nput d.netPort {} 28 { fails := 2 } }) : State).dev.serving = true ∧ (28 : Nat) < 32 ∧ (svcWith (fun d => { set [(D.PortCfg.MODE, 28, 5)] d with netPort := nput d.netPort {} 28 { fails := 2 } }) : State).dev.rd D.PortCfg.MODE (28 : Nat) ≠ 0 ∧ (svcWith (fun d => { set [(D.PortCfg.MODE, 28, 5)] d with netPort := nput d.netPort {} 28 { fails := 2 } }) : State).dev.portUp (28 : Nat) = false ∧ (28 : Nat) ≤ (31 : Nat) ∧ (31 : Nat) < (28 : Nat) + portLanes ((svcWith (fun d => { set [(D.PortCfg.MODE, 28, 5)] d with netPort := nput d.netPort {} 28 { fails := 2 } }) : State).dev.rd D.PortCfg.MODE (28 : Nat)) ∧ (svcWith (fun d => { set [(D.PortCfg.MODE, 28, 5)] d with netPort := nput d.netPort {} 28 { fails := 2 } }) : State).dev.spareOf (31 : Nat) = none ∧ (nget (svcWith (fun d => { set [(D.PortCfg.MODE, 28, 5)] d with netPort := nput d.netPort {} 28 { fails := 2 } }) : State).dev.netPort {} (28 : Nat)).fails = 2 := by decide

theorem wit_NetworkPortsComplete_netTrainingFailed_2 : (svcSet [(D.PortCfg.MODE, 31, 1), (D.PortStatus.LINK, 31, 1), (D.SpareStatus.IN_USE, 3, 1), (D.SpareStatus.LANE, 3, 31)] : State).dev.serving = true ∧ (31 : Nat) < 32 ∧ (svcSet [(D.PortCfg.MODE, 31, 1), (D.PortStatus.LINK, 31, 1), (D.SpareStatus.IN_USE, 3, 1), (D.SpareStatus.LANE, 3, 31)] : State).dev.rd D.PortCfg.MODE (31 : Nat) ≠ 0 ∧ (svcSet [(D.PortCfg.MODE, 31, 1), (D.PortStatus.LINK, 31, 1), (D.SpareStatus.IN_USE, 3, 1), (D.SpareStatus.LANE, 3, 31)] : State).dev.portUp (31 : Nat) = false ∧ (31 : Nat) ≤ (31 : Nat) ∧ (31 : Nat) < (31 : Nat) + portLanes ((svcSet [(D.PortCfg.MODE, 31, 1), (D.PortStatus.LINK, 31, 1), (D.SpareStatus.IN_USE, 3, 1), (D.SpareStatus.LANE, 3, 31)] : State).dev.rd D.PortCfg.MODE (31 : Nat)) ∧ (svcSet [(D.PortCfg.MODE, 31, 1), (D.PortStatus.LINK, 31, 1), (D.SpareStatus.IN_USE, 3, 1), (D.SpareStatus.LANE, 3, 31)] : State).dev.spareOf (31 : Nat) = some (3 : Nat) := by decide

theorem wit_NetworkControlCompletes_netCtrlFrame : (svcWith (fun d => { set [(D.PortStatus.LINK, 31, 2)] d with ctrl := { waiting := [⟨31, 7, 1, 5, 6, ⟨0, 0⟩⟩, ⟨0, 0, 3, 5, 6, ⟨1, 9⟩⟩] } }) : State).dev.serving = true ∧ (svcWith (fun d => { set [(D.PortStatus.LINK, 31, 2)] d with ctrl := { waiting := [⟨31, 7, 1, 5, 6, ⟨0, 0⟩⟩, ⟨0, 0, 3, 5, 6, ⟨1, 9⟩⟩] } }) : State).dev.ctrl.waiting = (⟨31, 7, 1, 5, 6, ⟨0, 0⟩⟩ : CtrlIn) :: ([⟨0, 0, 3, 5, 6, ⟨1, 9⟩⟩] : List CtrlIn) ∧ (svcWith (fun d => { set [(D.PortStatus.LINK, 31, 2)] d with ctrl := { waiting := [⟨31, 7, 1, 5, 6, ⟨0, 0⟩⟩, ⟨0, 0, 3, 5, 6, ⟨1, 9⟩⟩] } }) : State).dev.portUp (⟨31, 7, 1, 5, 6, ⟨0, 0⟩⟩ : CtrlIn).port = true := by decide

theorem wit_NetworkControlCompletes_netQueryRx : (svcSet [(D.PortStatus.LINK, 31, 2), (D.IfCfg.ENABLE, 255, 1)] : State).dev.serving = true ∧ (31 : Nat) < 32 ∧ (7 : Nat) < 8 ∧ (svcSet [(D.PortStatus.LINK, 31, 2), (D.IfCfg.ENABLE, 255, 1)] : State).dev.portUp (31 : Nat) = true ∧ (svcSet [(D.PortStatus.LINK, 31, 2), (D.IfCfg.ENABLE, 255, 1)] : State).dev.on D.IfCfg.ENABLE (8 * (31 : Nat) + (7 : Nat)) = true ∧ ((svcSet [(D.PortStatus.LINK, 31, 2), (D.IfCfg.ENABLE, 255, 1)] : State).dev.elapse (5 : Nat)).coresTake (31 : Nat) = true := by decide

theorem wit_NetworkControlCompletes_netQueryResponse : (svcWith (fun d => { set [(D.PortStatus.LINK, 0, 2), (D.IfCfg.ENABLE, 0, 1), (D.Flow.ENABLE, 4095, 1), (D.Flow.STATE, 4095, 2), (D.Flow.KIND, 4095, 2), (D.NetRxCfg.DEST_A, 4095, 0xFFFFE0000001)] d with ctrl := { queries := [⟨0, 5, false, 0⟩] } }) : State).dev.serving = true ∧ (svcWith (fun d => { set [(D.PortStatus.LINK, 0, 2), (D.IfCfg.ENABLE, 0, 1), (D.Flow.ENABLE, 4095, 1), (D.Flow.STATE, 4095, 2), (D.Flow.KIND, 4095, 2), (D.NetRxCfg.DEST_A, 4095, 0xFFFFE0000001)] d with ctrl := { queries := [⟨0, 5, false, 0⟩] } }) : State).dev.hwJoins = true ∧ (svcWith (fun d => { set [(D.PortStatus.LINK, 0, 2), (D.IfCfg.ENABLE, 0, 1), (D.Flow.ENABLE, 4095, 1), (D.Flow.STATE, 4095, 2), (D.Flow.KIND, 4095, 2), (D.NetRxCfg.DEST_A, 4095, 0xFFFFE0000001)] d with ctrl := { queries := [⟨0, 5, false, 0⟩] } }) : State).dev.ctrl.queries.find? (fun x0 => x0.iface == (0 : Nat) && decide (x0.at_ ≤ (svcWith (fun d => { set [(D.PortStatus.LINK, 0, 2), (D.IfCfg.ENABLE, 0, 1), (D.Flow.ENABLE, 4095, 1), (D.Flow.STATE, 4095, 2), (D.Flow.KIND, 4095, 2), (D.NetRxCfg.DEST_A, 4095, 0xFFFFE0000001)] d with ctrl := { queries := [⟨0, 5, false, 0⟩] } }) : State).dev.wall + (5 : Nat))) = some (⟨0, 5, false, 0⟩ : Query) := by decide

theorem wit_NetworkControlCompletes_netMembershipReport : (svcSet [(D.PortStatus.LINK, 0, 2), (D.IfCfg.ENABLE, 0, 1), (D.Flow.ENABLE, 4095, 1), (D.Flow.STATE, 4095, 2), (D.Flow.KIND, 4095, 2), (D.NetRxCfg.DEST_A, 4095, 0xFFFFE0000001)] : State).dev.serving = true ∧ (0 : Nat) < 256 ∧ (svcSet [(D.PortStatus.LINK, 0, 2), (D.IfCfg.ENABLE, 0, 1), (D.Flow.ENABLE, 4095, 1), (D.Flow.STATE, 4095, 2), (D.Flow.KIND, 4095, 2), (D.NetRxCfg.DEST_A, 4095, 0xFFFFE0000001)] : State).dev.hwJoins = true ∧ (svcSet [(D.PortStatus.LINK, 0, 2), (D.IfCfg.ENABLE, 0, 1), (D.Flow.ENABLE, 4095, 1), (D.Flow.STATE, 4095, 2), (D.Flow.KIND, 4095, 2), (D.NetRxCfg.DEST_A, 4095, 0xFFFFE0000001)] : State).dev.portUp ((0 : Nat) / 8) = true := by decide

theorem wit_NetworkControlCompletes_igmpReportRepeat : (svcWith (fun d => { set [(D.PortStatus.LINK, 31, 2)] d with ctrl := { repeats := [(2, 5, ⟨255, 0, 1, false, [(4, 9, [])]⟩)] } }) : State).dev.serving = true ∧ (svcWith (fun d => { set [(D.PortStatus.LINK, 31, 2)] d with ctrl := { repeats := [(2, 5, ⟨255, 0, 1, false, [(4, 9, [])]⟩)] } }) : State).dev.hwJoins = true ∧ (svcWith (fun d => { set [(D.PortStatus.LINK, 31, 2)] d with ctrl := { repeats := [(2, 5, ⟨255, 0, 1, false, [(4, 9, [])]⟩)] } }) : State).dev.ctrl.repeats.find? (fun (x0 : Nat × Nat × Report) => x0.2.2.iface == (255 : Nat) && decide (x0.2.1 ≤ (svcWith (fun d => { set [(D.PortStatus.LINK, 31, 2)] d with ctrl := { repeats := [(2, 5, ⟨255, 0, 1, false, [(4, 9, [])]⟩)] } }) : State).dev.wall + (5 : Nat))) = some ((2, 5, ⟨255, 0, 1, false, [(4, 9, [])]⟩) : Nat × Nat × Report) := by decide

theorem wit_NetworkControlCompletes_ctrlTx : (svcSet [(D.PortStatus.LINK, 31, 2), (D.Net.MODE, 0, 1)] : State).dev.grantsDom (ask 4 : Rcp) 0x0A01 1 0 (⟨62, 31 * 256 ^ 61 + 9⟩ : Bytes) = true ∧ (svcSet [(D.PortStatus.LINK, 31, 2), (D.Net.MODE, 0, 1)] : State).dev.hwJoins = false ∧ 62 ≤ (⟨62, 31 * 256 ^ 61 + 9⟩ : Bytes).len ∧ (⟨62, 31 * 256 ^ 61 + 9⟩ : Bytes).len ≤ 1516 ∧ byteAt (⟨62, 31 * 256 ^ 61 + 9⟩ : Bytes).len (⟨62, 31 * 256 ^ 61 + 9⟩ : Bytes).val 0 < 32 ∧ byteAt (⟨62, 31 * 256 ^ 61 + 9⟩ : Bytes).len (⟨62, 31 * 256 ^ 61 + 9⟩ : Bytes).val 1 = 0 ∧ (svcSet [(D.PortStatus.LINK, 31, 2), (D.Net.MODE, 0, 1)] : State).dev.portUp (byteAt (⟨62, 31 * 256 ^ 61 + 9⟩ : Bytes).len (⟨62, 31 * 256 ^ 61 + 9⟩ : Bytes).val 0) = true := by decide

theorem wit_NetworkTransmitCompletes_netPacketTx : (svcWith (fun d => (set [(D.Flow.STATE, 8191, 2), (D.Flow.KIND, 8191, 0x46), (D.NetTxCfg.DEST_A, 4095, 0xFFFFE0000001), (D.PortStatus.LINK, 0, 2)] d).setNetTx 8191 (fun x => { x with frames := [txFrame] })) : State).dev.serving = true ∧ 4096 ≤ (8191 : Nat) ∧ (8191 : Nat) < 8192 ∧ (svcWith (fun d => (set [(D.Flow.STATE, 8191, 2), (D.Flow.KIND, 8191, 0x46), (D.NetTxCfg.DEST_A, 4095, 0xFFFFE0000001), (D.PortStatus.LINK, 0, 2)] d).setNetTx 8191 (fun x => { x with frames := [txFrame] })) : State).dev.running (8191 : Nat) = true ∧ Kind.netTx ((svcWith (fun d => (set [(D.Flow.STATE, 8191, 2), (D.Flow.KIND, 8191, 0x46), (D.NetTxCfg.DEST_A, 4095, 0xFFFFE0000001), (D.PortStatus.LINK, 0, 2)] d).setNetTx 8191 (fun x => { x with frames := [txFrame] })) : State).dev.kind (8191 : Nat)) = true ∧ (svcWith (fun d => (set [(D.Flow.STATE, 8191, 2), (D.Flow.KIND, 8191, 0x46), (D.NetTxCfg.DEST_A, 4095, 0xFFFFE0000001), (D.PortStatus.LINK, 0, 2)] d).setNetTx 8191 (fun x => { x with frames := [txFrame] })) : State).dev.isSafe (8191 : Nat) = false ∧ (svcWith (fun d => (set [(D.Flow.STATE, 8191, 2), (D.Flow.KIND, 8191, 0x46), (D.NetTxCfg.DEST_A, 4095, 0xFFFFE0000001), (D.PortStatus.LINK, 0, 2)] d).setNetTx 8191 (fun x => { x with frames := [txFrame] })) : State).dev.nextPacket (8191 : Nat) = some (⟨0, ⟨1, 9⟩, false, 0, true, [txFrame.cut 3]⟩ : TxPkt) ∧ (((svcWith (fun d => (set [(D.Flow.STATE, 8191, 2), (D.Flow.KIND, 8191, 0x46), (D.NetTxCfg.DEST_A, 4095, 0xFFFFE0000001), (D.PortStatus.LINK, 0, 2)] d).setNetTx 8191 (fun x => { x with frames := [txFrame] })) : State).dev.elapse (5 : Nat)).paced (8191 : Nat)).1 = true ∧ (svcWith (fun d => (set [(D.Flow.STATE, 8191, 2), (D.Flow.KIND, 8191, 0x46), (D.NetTxCfg.DEST_A, 4095, 0xFFFFE0000001), (D.PortStatus.LINK, 0, 2)] d).setNetTx 8191 (fun x => { x with frames := [txFrame] })) : State).dev.nextMac (8191 : Nat) false = some (0x01005E000001 : Nat) ∧ (svcWith (fun d => (set [(D.Flow.STATE, 8191, 2), (D.Flow.KIND, 8191, 0x46), (D.NetTxCfg.DEST_A, 4095, 0xFFFFE0000001), (D.PortStatus.LINK, 0, 2)] d).setNetTx 8191 (fun x => { x with frames := [txFrame] })) : State).dev.portUp ((svcWith (fun d => (set [(D.Flow.STATE, 8191, 2), (D.Flow.KIND, 8191, 0x46), (D.NetTxCfg.DEST_A, 4095, 0xFFFFE0000001), (D.PortStatus.LINK, 0, 2)] d).setNetTx 8191 (fun x => { x with frames := [txFrame] })) : State).dev.txLegA (8191 : Nat)).port = true := by decide

theorem wit_NetworkTransmitCompletes_netResolveRefresh : (svcSet [(D.Flow.STATE, 8191, 2), (D.Flow.KIND, 8191, 0x46), (D.NetTxCfg.DEST_A, 4095, 0xFFFFC0A80001), (D.PortStatus.LINK, 0, 2)] : State).dev.serving = true ∧ 4096 ≤ (8191 : Nat) ∧ (8191 : Nat) < 8192 ∧ Kind.netTx ((svcSet [(D.Flow.STATE, 8191, 2), (D.Flow.KIND, 8191, 0x46), (D.NetTxCfg.DEST_A, 4095, 0xFFFFC0A80001), (D.PortStatus.LINK, 0, 2)] : State).dev.kind (8191 : Nat)) = true ∧ (svcSet [(D.Flow.STATE, 8191, 2), (D.Flow.KIND, 8191, 0x46), (D.NetTxCfg.DEST_A, 4095, 0xFFFFC0A80001), (D.PortStatus.LINK, 0, 2)] : State).dev.rd D.Flow.STATE (8191 : Nat) ≠ 0 ∧ ((false : Bool) = false ∨ (svcSet [(D.Flow.STATE, 8191, 2), (D.Flow.KIND, 8191, 0x46), (D.NetTxCfg.DEST_A, 4095, 0xFFFFC0A80001), (D.PortStatus.LINK, 0, 2)] : State).dev.txTwo (8191 : Nat) = true) ∧ isMulticast ((svcSet [(D.Flow.STATE, 8191, 2), (D.Flow.KIND, 8191, 0x46), (D.NetTxCfg.DEST_A, 4095, 0xFFFFC0A80001), (D.PortStatus.LINK, 0, 2)] : State).dev.txLeg (8191 : Nat) (false : Bool)).dst = false ∧ ((svcSet [(D.Flow.STATE, 8191, 2), (D.Flow.KIND, 8191, 0x46), (D.NetTxCfg.DEST_A, 4095, 0xFFFFC0A80001), (D.PortStatus.LINK, 0, 2)] : State).dev.hop (8191 : Nat) (false : Bool)).triedAt = none ∧ (svcSet [(D.Flow.STATE, 8191, 2), (D.Flow.KIND, 8191, 0x46), (D.NetTxCfg.DEST_A, 4095, 0xFFFFC0A80001), (D.PortStatus.LINK, 0, 2)] : State).dev.portUp ((svcSet [(D.Flow.STATE, 8191, 2), (D.Flow.KIND, 8191, 0x46), (D.NetTxCfg.DEST_A, 4095, 0xFFFFC0A80001), (D.PortStatus.LINK, 0, 2)] : State).dev.txLeg (8191 : Nat) (false : Bool)).port = true := by decide

theorem wit_DowelItemsComplete_dwlItemRx : 5 ≤ (item : State).dev.stage ∧ (item : State).dev.inReset = false ∧ (7 : Nat) < 8 ∧ (8 : Nat) < 9 ∧ (((item : State).dev.lanesAt (5 : Nat)).dl (9 * (7 : Nat) + (8 : Nat))).rxRank < 15 ∧ (((item : State).dev.lanesAt (5 : Nat)).dl (9 * (7 : Nat) + (8 : Nat))).rxNext = none ∧ (((item : State).dev.lanesAt (5 : Nat)).dl (9 * (7 : Nat) + (8 : Nat))).await = false ∧ (ownFrame : Nat) % 65536 = ((item : State).dev.lanesAt (5 : Nat)).rd D.DwlLane.LCOUNT_RX (9 * (7 : Nat) + (8 : Nat)) ∧ isMgmt (ownFrame : Nat) = true ∧ (((item : State).dev.lanesAt (5 : Nat)).dg (7 : Nat)).held = [] ∧ (((item : State).dev.lanesAt (5 : Nat)).dg (7 : Nat)).rxRank = (((item : State).dev.lanesAt (5 : Nat)).dl (9 * (7 : Nat) + (8 : Nat))).rxRank ∧ (((item : State).dev.lanesAt (5 : Nat)).dg (7 : Nat)).rxRound = ((item : State).dev.lanesAt (5 : Nat)).rd D.DwlLane.LCOUNT_RX (9 * (7 : Nat) + (8 : Nat)) ∧ itemOk (ownFrame : Nat) = true := ⟨by decide, by decide, by decide, by decide, by decide, by decide, by decide, by decide, by decide, by decide, by decide, by decide, ownFrame_ok⟩

theorem wit_DowelItemsComplete_dwlReplayReqRx : 5 ≤ (svcWith (fun d => d.setDl 71 (fun x => { x with sent := [(8, 77), (7, 66), (6, 55)], free := 100000 })) : State).dev.stage ∧ (svcWith (fun d => d.setDl 71 (fun x => { x with sent := [(8, 77), (7, 66), (6, 55)], free := 100000 })) : State).dev.inReset = false ∧ (7 : Nat) < 8 ∧ (8 : Nat) < 9 ∧ ReplayReq.ok (ReplayReq.build 8 7 : Nat) = true ∧ ReplayReq.lane (ReplayReq.build 8 7 : Nat) = (8 : Nat) ∧ (((svcWith (fun d => d.setDl 71 (fun x => { x with sent := [(8, 77), (7, 66), (6, 55)], free := 100000 })) : State).dev.lanesAt (5 : Nat)).dl (9 * (7 : Nat) + (8 : Nat))).serves (ReplayReq.count (ReplayReq.build 8 7 : Nat)) ((svcWith (fun d => d.setDl 71 (fun x => { x with sent := [(8, 77), (7, 66), (6, 55)], free := 100000 })) : State).dev.wall + (5 : Nat)) = false ∧ replayFrom (((svcWith (fun d => d.setDl 71 (fun x => { x with sent := [(8, 77), (7, 66), (6, 55)], free := 100000 })) : State).dev.lanesAt (5 : Nat)).dl (9 * (7 : Nat) + (8 : Nat))).sent (ReplayReq.count (ReplayReq.build 8 7 : Nat)) = some ([(7, 66), (8, 77)] : List (Nat × Nat)) := by decide

theorem wit_DowelItemsComplete_dwlLaneMarkerRx : 5 ≤ (svc : State).dev.stage ∧ (svc : State).dev.inReset = false ∧ (7 : Nat) < 8 ∧ (8 : Nat) < 9 ∧ LaneMark.ok (LaneMark.build 8 7 65535 8 7 : Nat) = true ∧ LaneMark.lane (LaneMark.build 8 7 65535 8 7 : Nat) = (8 : Nat) ∧ LaneMark.rank (LaneMark.build 8 7 65535 8 7 : Nat) < 8 ∧ LaneMark.active (LaneMark.build 8 7 65535 8 7 : Nat) ≤ 8 ∧ (((svc : State).dev.lanesAt (5 : Nat)).dl (9 * (7 : Nat) + (8 : Nat))).rxRank = 15 ∧ (((svc : State).dev.lanesAt (5 : Nat)).dl (9 * (7 : Nat) + (8 : Nat))).rxNext = none := by decide

theorem wit_DowelItemsComplete_dwlMgmtFrameRx : 5 ≤ (svcSet [(D.GroupStatus.STATE, 7, 3)] : State).dev.stage ∧ (svcSet [(D.GroupStatus.STATE, 7, 3)] : State).dev.inReset = false ∧ (7 : Nat) < 8 ∧ (svcSet [(D.GroupStatus.STATE, 7, 3)] : State).dev.groupUp (7 : Nat) = true ∧ isMgmt (0xF0 * 2 ^ 2264 + 1 * 2 ^ 2256 + 270 * 2 ^ 2208 : Nat) = true ∧ 1 ≤ Mgmt.len (0xF0 * 2 ^ 2264 + 1 * 2 ^ 2256 + 270 * 2 ^ 2208 : Nat) ∧ Mgmt.len (0xF0 * 2 ^ 2264 + 1 * 2 ^ 2256 + 270 * 2 ^ 2208 : Nat) ≤ 270 ∧ Mgmt.seg (0xF0 * 2 ^ 2264 + 1 * 2 ^ 2256 + 270 * 2 ^ 2208 : Nat) = 0 ∧ Mgmt.last (0xF0 * 2 ^ 2264 + 1 * 2 ^ 2256 + 270 * 2 ^ 2208 : Nat) = false ∧ ((svcSet [(D.GroupStatus.STATE, 7, 3)] : State).dev.dg (7 : Nat)).msgs = [] := by decide

theorem wit_DowelItemsComplete_dwlMgmtFrameRx_2 : 5 ≤ (svcSet [(D.GroupStatus.STATE, 7, 3)] : State).dev.stage ∧ (svcSet [(D.GroupStatus.STATE, 7, 3)] : State).dev.inReset = false ∧ (7 : Nat) < 8 ∧ (svcSet [(D.GroupStatus.STATE, 7, 3)] : State).dev.groupUp (7 : Nat) = true ∧ isMgmt (0xF0 * 2 ^ 2264 + 1 * 2 ^ 2256 + 2 ^ 2239 + 1 * 2 ^ 2208 + 7 * 2 ^ 2200 : Nat) = true ∧ 1 ≤ Mgmt.len (0xF0 * 2 ^ 2264 + 1 * 2 ^ 2256 + 2 ^ 2239 + 1 * 2 ^ 2208 + 7 * 2 ^ 2200 : Nat) ∧ Mgmt.len (0xF0 * 2 ^ 2264 + 1 * 2 ^ 2256 + 2 ^ 2239 + 1 * 2 ^ 2208 + 7 * 2 ^ 2200 : Nat) ≤ 270 ∧ Mgmt.seg (0xF0 * 2 ^ 2264 + 1 * 2 ^ 2256 + 2 ^ 2239 + 1 * 2 ^ 2208 + 7 * 2 ^ 2200 : Nat) = 0 ∧ Mgmt.last (0xF0 * 2 ^ 2264 + 1 * 2 ^ 2256 + 2 ^ 2239 + 1 * 2 ^ 2208 + 7 * 2 ^ 2200 : Nat) = true ∧ Mgmt.cls (0xF0 * 2 ^ 2264 + 1 * 2 ^ 2256 + 2 ^ 2239 + 1 * 2 ^ 2208 + 7 * 2 ^ 2200 : Nat) ≠ 4 ∧ Mgmt.cls (0xF0 * 2 ^ 2264 + 1 * 2 ^ 2256 + 2 ^ 2239 + 1 * 2 ^ 2208 + 7 * 2 ^ 2200 : Nat) ≠ 10 ∧ ((svcSet [(D.GroupStatus.STATE, 7, 3)] : State).dev.dg (7 : Nat)).msgs = [] := by decide

theorem wit_DowelItemsComplete_dwlMsgTimeout : 5 ≤ (svcWith (fun d => d.setDg 7 (fun x => { x with msgs := [⟨1, 2, 1, ⟨0, 0⟩, 0⟩] })) : State).dev.stage ∧ (svcWith (fun d => d.setDg 7 (fun x => { x with msgs := [⟨1, 2, 1, ⟨0, 0⟩, 0⟩] })) : State).dev.inReset = false := by decide

theorem wit_DowelBringUpCompletes_dwlTrainingBlockRx : 5 ≤ (training : State).dev.stage ∧ (training : State).dev.inReset = false ∧ (7 : Nat) < 8 ∧ (8 : Nat) < 9 ∧ ((training : State).dev.rd D.GroupStatus.STATE (7 : Nat) = GroupState.TRAINING ∨ (training : State).dev.rd D.GroupStatus.STATE (7 : Nat) = GroupState.UP) ∧ ((training : State).dev.lanesAt (5 : Nat)).laneState (9 * (7 : Nat) + (8 : Nat)) = LaneState.TRAINING ∧ Train.ok (trainBlock7 training.dev.frameDigest : Nat) = true ∧ (training : State).dev.expectedPeer (7 : Nat) = some (Train.member (trainBlock7 training.dev.frameDigest : Nat), Train.card (trainBlock7 training.dev.frameDigest : Nat), Train.group (trainBlock7 training.dev.frameDigest : Nat)) ∧ Train.lane (trainBlock7 training.dev.frameDigest : Nat) = (8 : Nat) ∧ Train.size (trainBlock7 training.dev.frameDigest : Nat) = (training : State).dev.ensSize ∧ Train.digest (trainBlock7 training.dev.frameDigest : Nat) = (training : State).dev.frameDigest ∧ Train.kind (trainBlock7 training.dev.frameDigest : Nat) < 3 := by
  obtain ⟨h1, h2, h3, h4, h5, h6, h7, h8⟩ := train_ok _ (digest_lt training.dev)
  exact ⟨by decide, by decide, by decide, by decide, by decide, by decide, h1, by rw [h2, h3, h4]; decide, h5, by rw [h6]; decide, h7,
    by rw [h8]; decide⟩

theorem wit_DowelBringUpCompletes_dwlStepDwellEnd : 5 ≤ (svcWith (fun d => (set [(D.DwlLane.LANE_STATE, 71, 1)] d).setDl 71 (fun x => { x with step := 3 })) : State).dev.stage ∧ (svcWith (fun d => (set [(D.DwlLane.LANE_STATE, 71, 1)] d).setDl 71 (fun x => { x with step := 3 })) : State).dev.inReset = false ∧ (7 : Nat) < 8 ∧ (8 : Nat) < 9 ∧ ((svcWith (fun d => (set [(D.DwlLane.LANE_STATE, 71, 1)] d).setDl 71 (fun x => { x with step := 3 })) : State).dev.lanesAt (2000000 : Nat)).laneState (9 * (7 : Nat) + (8 : Nat)) = LaneState.TRAINING ∧ (((svcWith (fun d => (set [(D.DwlLane.LANE_STATE, 71, 1)] d).setDl 71 (fun x => { x with step := 3 })) : State).dev.lanesAt (2000000 : Nat)).dl (9 * (7 : Nat) + (8 : Nat))).dwelt = false ∧ (((svcWith (fun d => (set [(D.DwlLane.LANE_STATE, 71, 1)] d).setDl 71 (fun x => { x with step := 3 })) : State).dev.lanesAt (2000000 : Nat)).dl (9 * (7 : Nat) + (8 : Nat))).step < 4 ∧ (((svcWith (fun d => (set [(D.DwlLane.LANE_STATE, 71, 1)] d).setDl 71 (fun x => { x with step := 3 })) : State).dev.lanesAt (2000000 : Nat)).dl (9 * (7 : Nat) + (8 : Nat))).since + (stepRow (((svcWith (fun d => (set [(D.DwlLane.LANE_STATE, 71, 1)] d).setDl 71 (fun x => { x with step := 3 })) : State).dev.lanesAt (2000000 : Nat)).dl (9 * (7 : Nat) + (8 : Nat))).step).2.1 ≤ (svcWith (fun d => (set [(D.DwlLane.LANE_STATE, 71, 1)] d).setDl 71 (fun x => { x with step := 3 })) : State).dev.wall + (2000000 : Nat) ∧ (svcWith (fun d => (set [(D.DwlLane.LANE_STATE, 71, 1)] d).setDl 71 (fun x => { x with step := 3 })) : State).dev.wall + (2000000 : Nat) ≤ (((svcWith (fun d => (set [(D.DwlLane.LANE_STATE, 71, 1)] d).setDl 71 (fun x => { x with step := 3 })) : State).dev.lanesAt (2000000 : Nat)).dl (9 * (7 : Nat) + (8 : Nat))).since + lockLimit (((svcWith (fun d => (set [(D.DwlLane.LANE_STATE, 71, 1)] d).setDl 71 (fun x => { x with step := 3 })) : State).dev.lanesAt (2000000 : Nat)).dl (9 * (7 : Nat) + (8 : Nat))).step + (stepRow (((svcWith (fun d => (set [(D.DwlLane.LANE_STATE, 71, 1)] d).setDl 71 (fun x => { x with step := 3 })) : State).dev.lanesAt (2000000 : Nat)).dl (9 * (7 : Nat) + (8 : Nat))).step).2.1 ∧ (1 : Nat) ≤ (stepRow (((svcWith (fun d => (set [(D.DwlLane.LANE_STATE, 71, 1)] d).setDl 71 (fun x => { x with step := 3 })) : State).dev.lanesAt (2000000 : Nat)).dl (9 * (7 : Nat) + (8 : Nat))).step).2.2 ∧ (svcWith (fun d => (set [(D.DwlLane.LANE_STATE, 71, 1)] d).setDl 71 (fun x => { x with step := 3 })) : State).dev.restarts 2 = false := by decide

theorem wit_DowelBringUpCompletes_dwlStepFailure : 5 ≤ (svcWith (fun d => (set [(D.DwlLane.LANE_STATE, 71, 1)] d).setDl 71 (fun x => { x with step := 3, fails := [3, 2, 2] })) : State).dev.stage ∧ (svcWith (fun d => (set [(D.DwlLane.LANE_STATE, 71, 1)] d).setDl 71 (fun x => { x with step := 3, fails := [3, 2, 2] })) : State).dev.inReset = false ∧ (7 : Nat) < 8 ∧ (8 : Nat) < 9 ∧ ((svcWith (fun d => (set [(D.DwlLane.LANE_STATE, 71, 1)] d).setDl 71 (fun x => { x with step := 3, fails := [3, 2, 2] })) : State).dev.lanesAt (5 : Nat)).laneState (9 * (7 : Nat) + (8 : Nat)) = LaneState.TRAINING ∧ (((svcWith (fun d => (set [(D.DwlLane.LANE_STATE, 71, 1)] d).setDl 71 (fun x => { x with step := 3, fails := [3, 2, 2] })) : State).dev.lanesAt (5 : Nat)).dl (9 * (7 : Nat) + (8 : Nat))).dwelt = false ∧ (match (some 2 : Option Nat) with | some n0 => decide ((stepRow (((svcWith (fun d => (set [(D.DwlLane.LANE_STATE, 71, 1)] d).setDl 71 (fun x => { x with step := 3, fails := [3, 2, 2] })) : State).dev.lanesAt (5 : Nat)).dl (9 * (7 : Nat) + (8 : Nat))).step).2.2 < n0) | none => ((svcWith (fun d => (set [(D.DwlLane.LANE_STATE, 71, 1)] d).setDl 71 (fun x => { x with step := 3, fails := [3, 2, 2] })) : State).dev.lanesAt (5 : Nat)).past (((svcWith (fun d => (set [(D.DwlLane.LANE_STATE, 71, 1)] d).setDl 71 (fun x => { x with step := 3, fails := [3, 2, 2] })) : State).dev.lanesAt (5 : Nat)).dl (9 * (7 : Nat) + (8 : Nat))).since (lockLimit (((svcWith (fun d => (set [(D.DwlLane.LANE_STATE, 71, 1)] d).setDl 71 (fun x => { x with step := 3, fails := [3, 2, 2] })) : State).dev.lanesAt (5 : Nat)).dl (9 * (7 : Nat) + (8 : Nat))).step)) = true ∧ countIf (fun f => f == (((svcWith (fun d => (set [(D.DwlLane.LANE_STATE, 71, 1)] d).setDl 71 (fun x => { x with step := 3, fails := [3, 2, 2] })) : State).dev.lanesAt (5 : Nat)).dl (9 * (7 : Nat) + (8 : Nat))).step) (((svcWith (fun d => (set [(D.DwlLane.LANE_STATE, 71, 1)] d).setDl 71 (fun x => { x with step := 3, fails := [3, 2, 2] })) : State).dev.lanesAt (5 : Nat)).dl (9 * (7 : Nat) + (8 : Nat))).fails < 2 := by decide

theorem wit_DowelBringUpCompletes_groupMiswiredRetry : 5 ≤ (svcSet [(D.GroupStatus.STATE, 7, 4)] : State).dev.stage ∧ (svcSet [(D.GroupStatus.STATE, 7, 4)] : State).dev.inReset = false ∧ (7 : Nat) < 8 ∧ (svcSet [(D.GroupStatus.STATE, 7, 4)] : State).dev.rd D.GroupStatus.STATE (7 : Nat) = GroupState.MISWIRED ∧ ((svcSet [(D.GroupStatus.STATE, 7, 4)] : State).dev.elapse (1000000000 : Nat)).past ((svcSet [(D.GroupStatus.STATE, 7, 4)] : State).dev.dg (7 : Nat)).since 1000000000 = true := by decide

theorem wit_EnsembleComplete_chainFrameTx : 5 ≤ (svcWith (fun d => d.setDwl (fun x => { x with taken := some (3, 8, 31, 77), fseq := 65535 })) : State).dev.stage ∧ (svcWith (fun d => d.setDwl (fun x => { x with taken := some (3, 8, 31, 77), fseq := 65535 })) : State).dev.inReset = false ∧ (svcWith (fun d => d.setDwl (fun x => { x with taken := some (3, 8, 31, 77), fseq := 65535 })) : State).dev.inCold = false ∧ (svcWith (fun d => d.setDwl (fun x => { x with taken := some (3, 8, 31, 77), fseq := 65535 })) : State).dev.dwl.chainTx = none ∧ (svcWith (fun d => d.setDwl (fun x => { x with taken := some (3, 8, 31, 77), fseq := 65535 })) : State).dev.dwl.taken = some ((3, 8, 31, 77) : Nat × Nat × Nat × Nat) := by decide

theorem wit_EnsembleComplete_chainFrameRx : 5 ≤ (svcWith (fun d => d.setDwl (fun x => { x with seen := some ((14, 15, 31, 77), 2) })) : State).dev.stage ∧ (svcWith (fun d => d.setDwl (fun x => { x with seen := some ((14, 15, 31, 77), 2) })) : State).dev.inReset = false ∧ (svcWith (fun d => d.setDwl (fun x => { x with seen := some ((14, 15, 31, 77), 2) })) : State).dev.on D.Straps.HEAD 0 = false ∧ Chain.ok (Chain.build 14 15 31 77 65535 : Nat) = true ∧ (svcWith (fun d => d.setDwl (fun x => { x with seen := some ((14, 15, 31, 77), 2) })) : State).dev.dwl.taken = none ∧ (svcWith (fun d => d.setDwl (fun x => { x with seen := some ((14, 15, 31, 77), 2) })) : State).dev.dwl.seen = some (Chain.values (Chain.build 14 15 31 77 65535 : Nat), 2) ∧ Chain.position (Chain.build 14 15 31 77 65535 : Nat) < 15 := by decide

theorem wit_EnsembleComplete_chainLost : 5 ≤ (svcWith (fun d => d.setDwl (fun x => { x with taken := some (3, 8, 31, 77) })) : State).dev.stage ∧ (svcWith (fun d => d.setDwl (fun x => { x with taken := some (3, 8, 31, 77) })) : State).dev.inReset = false ∧ (svcWith (fun d => d.setDwl (fun x => { x with taken := some (3, 8, 31, 77) })) : State).dev.on D.Straps.HEAD 0 = false ∧ (svcWith (fun d => d.setDwl (fun x => { x with taken := some (3, 8, 31, 77) })) : State).dev.dwl.taken.isNone = false ∧ (svcWith (fun d => d.setDwl (fun x => { x with taken := some (3, 8, 31, 77) })) : State).dev.dwl.chainLost = false ∧ ((svcWith (fun d => d.setDwl (fun x => { x with taken := some (3, 8, 31, 77) })) : State).dev.elapse (1000000 : Nat)).past (svcWith (fun d => d.setDwl (fun x => { x with taken := some (3, 8, 31, 77) })) : State).dev.dwl.chainAt 1000000 = true := by decide

theorem wit_EnsembleComplete_memberReportTx : 5 ≤ (svcSet [(D.Ens.TAILSTOCK, 0, 1), (D.Ens.MEMBER, 0, 2), (D.Ens.POSITION, 0, 2), (D.GroupStatus.STATE, 1, 3)] : State).dev.stage ∧ (svcSet [(D.Ens.TAILSTOCK, 0, 1), (D.Ens.MEMBER, 0, 2), (D.Ens.POSITION, 0, 2), (D.GroupStatus.STATE, 1, 3)] : State).dev.inReset = false ∧ (svcSet [(D.Ens.TAILSTOCK, 0, 1), (D.Ens.MEMBER, 0, 2), (D.Ens.POSITION, 0, 2), (D.GroupStatus.STATE, 1, 3)] : State).dev.rd D.Ens.TAILSTOCK 0 ≠ 0 ∧ (svcSet [(D.Ens.TAILSTOCK, 0, 1), (D.Ens.MEMBER, 0, 2), (D.Ens.POSITION, 0, 2), (D.GroupStatus.STATE, 1, 3)] : State).dev.rd D.Ens.MEMBER 0 ≠ 0xFF ∧ (svcSet [(D.Ens.TAILSTOCK, 0, 1), (D.Ens.MEMBER, 0, 2), (D.Ens.POSITION, 0, 2), (D.GroupStatus.STATE, 1, 3)] : State).dev.me ≠ 0 ∧ (svcSet [(D.Ens.TAILSTOCK, 0, 1), (D.Ens.MEMBER, 0, 2), (D.Ens.POSITION, 0, 2), (D.GroupStatus.STATE, 1, 3)] : State).dev.dwl.reportAt = none ∧ (svcSet [(D.Ens.TAILSTOCK, 0, 1), (D.Ens.MEMBER, 0, 2), (D.Ens.POSITION, 0, 2), (D.GroupStatus.STATE, 1, 3)] : State).dev.groupTo 0 = some (1 : Nat) := by decide

theorem wit_EnsembleComplete_memberReportRx : 5 ≤ (svcSet [(D.Straps.HEAD, 0, 1), (D.GroupStatus.STATE, 6, 3)] : State).dev.stage ∧ (svcSet [(D.Straps.HEAD, 0, 1), (D.GroupStatus.STATE, 6, 3)] : State).dev.inReset = false ∧ (svcSet [(D.Straps.HEAD, 0, 1), (D.GroupStatus.STATE, 6, 3)] : State).dev.on D.Straps.HEAD 0 = true ∧ (6 : Nat) < 7 ∧ (svcSet [(D.Straps.HEAD, 0, 1), (D.GroupStatus.STATE, 6, 3)] : State).dev.groupUp (6 : Nat) = true ∧ (16 : Nat) < 256 := by decide

theorem wit_EnsembleComplete_chainShortTimeout : 5 ≤ (svcWith (fun d => (set [(D.Straps.HEAD, 0, 1)] d).setDwl (fun x => { x with upAt := some 0 })) : State).dev.stage ∧ (svcWith (fun d => (set [(D.Straps.HEAD, 0, 1)] d).setDwl (fun x => { x with upAt := some 0 })) : State).dev.inReset = false ∧ (svcWith (fun d => (set [(D.Straps.HEAD, 0, 1)] d).setDwl (fun x => { x with upAt := some 0 })) : State).dev.on D.Straps.HEAD 0 = true ∧ (svcWith (fun d => (set [(D.Straps.HEAD, 0, 1)] d).setDwl (fun x => { x with upAt := some 0 })) : State).dev.dwl.upAt = some (0 : Nat) ∧ (svcWith (fun d => (set [(D.Straps.HEAD, 0, 1)] d).setDwl (fun x => { x with upAt := some 0 })) : State).dev.dwl.reported = false ∧ (svcWith (fun d => (set [(D.Straps.HEAD, 0, 1)] d).setDwl (fun x => { x with upAt := some 0 })) : State).dev.dwl.short = false ∧ ((svcWith (fun d => (set [(D.Straps.HEAD, 0, 1)] d).setDwl (fun x => { x with upAt := some 0 })) : State).dev.elapse (2000000000 : Nat)).past (0 : Nat) 2000000000 = true := by decide

theorem wit_EnsembleComplete_beaconTx : 5 ≤ (svcWith (fun d => (set [(D.GroupStatus.STATE, 7, 3)] d).setDg 7 (fun x => { x with lanes := [8, 1], bseq := 65535 })) : State).dev.stage ∧ (svcWith (fun d => (set [(D.GroupStatus.STATE, 7, 3)] d).setDg 7 (fun x => { x with lanes := [8, 1], bseq := 65535 })) : State).dev.inReset = false ∧ (7 : Nat) < 8 ∧ (svcWith (fun d => (set [(D.GroupStatus.STATE, 7, 3)] d).setDg 7 (fun x => { x with lanes := [8, 1], bseq := 65535 })) : State).dev.groupUp (7 : Nat) = true ∧ ((svcWith (fun d => (set [(D.GroupStatus.STATE, 7, 3)] d).setDg 7 (fun x => { x with lanes := [8, 1], bseq := 65535 })) : State).dev.dg (7 : Nat)).beaconTx = none ∧ (((svcWith (fun d => (set [(D.GroupStatus.STATE, 7, 3)] d).setDg 7 (fun x => { x with lanes := [8, 1], bseq := 65535 })) : State).dev.lanesAt (5 : Nat)).dg (7 : Nat)).lanes = (8 : Nat) :: ([1] : List Nat) := by decide

theorem wit_EnsembleComplete_beaconRx : 5 ≤ (svcSet [(D.GroupStatus.STATE, 7, 3)] : State).dev.stage ∧ (svcSet [(D.GroupStatus.STATE, 7, 3)] : State).dev.inReset = false ∧ (7 : Nat) < 8 ∧ (svcSet [(D.GroupStatus.STATE, 7, 3)] : State).dev.groupUp (7 : Nat) = true ∧ Beacon.ok (svc.dev.beacon 7 * 65536 + crc16 (bytesOf 22 (svc.dev.beacon 7)) : Nat) = true := by decide

theorem wit_EnsembleComplete_beaconLost : 5 ≤ (svcSet [(D.GroupStatus.BEACON_OK, 7, 1), (D.RefArea.FOLLOW_GROUP, 0, 7)] : State).dev.stage ∧ (svcSet [(D.GroupStatus.BEACON_OK, 7, 1), (D.RefArea.FOLLOW_GROUP, 0, 7)] : State).dev.inReset = false ∧ (7 : Nat) < 8 ∧ (svcSet [(D.GroupStatus.BEACON_OK, 7, 1), (D.RefArea.FOLLOW_GROUP, 0, 7)] : State).dev.on D.GroupStatus.BEACON_OK (7 : Nat) = true ∧ ((svcSet [(D.GroupStatus.BEACON_OK, 7, 1), (D.RefArea.FOLLOW_GROUP, 0, 7)] : State).dev.elapse (32000 : Nat)).past ((svcSet [(D.GroupStatus.BEACON_OK, 7, 1), (D.RefArea.FOLLOW_GROUP, 0, 7)] : State).dev.dg (7 : Nat)).beaconRx 32000 = true := by decide

theorem wit_LaneCommandsComplete_laneCmdStep : (svcWith (fun d => (set [(D.DwlLane.LANE_STATE, 71, 1), (D.Phy.MODE, 0, 1), (D.GroupCfg.MAX_STEP, 7, 4)] d).setDl 71 (fun x => { x with dwelt := true, step := 3, peerMax := 4 })) : State).dev.grants (ask 2 : Rcp) 0x0800 2 ⟨4, 2 ^ 24 + (235 : Nat)⟩ = true ∧ isDowel (235 : Nat) = true ∧ (svcWith (fun d => (set [(D.DwlLane.LANE_STATE, 71, 1), (D.Phy.MODE, 0, 1), (D.GroupCfg.MAX_STEP, 7, 4)] d).setDl 71 (fun x => { x with dwelt := true, step := 3, peerMax := 4 })) : State).dev.rd D.Phy.MODE 0 = 1 ∧ (((svcWith (fun d => (set [(D.DwlLane.LANE_STATE, 71, 1), (D.Phy.MODE, 0, 1), (D.GroupCfg.MAX_STEP, 7, 4)] d).setDl 71 (fun x => { x with dwelt := true, step := 3, peerMax := 4 })) : State).dev.elapse (ask 2 : Rcp).dt).laneBlocks ((235 : Nat) - 164)).laneState ((235 : Nat) - 164) = LaneState.TRAINING ∧ ((((svcWith (fun d => (set [(D.DwlLane.LANE_STATE, 71, 1), (D.Phy.MODE, 0, 1), (D.GroupCfg.MAX_STEP, 7, 4)] d).setDl 71 (fun x => { x with dwelt := true, step := 3, peerMax := 4 })) : State).dev.elapse (ask 2 : Rcp).dt).laneBlocks ((235 : Nat) - 164)).dl ((235 : Nat) - 164)).dwelt = true ∧ ((((svcWith (fun d => (set [(D.DwlLane.LANE_STATE, 71, 1), (D.Phy.MODE, 0, 1), (D.GroupCfg.MAX_STEP, 7, 4)] d).setDl 71 (fun x => { x with dwelt := true, step := 3, peerMax := 4 })) : State).dev.elapse (ask 2 : Rcp).dt).laneBlocks ((235 : Nat) - 164)).dl ((235 : Nat) - 164)).step < 4 ∧ ((((svcWith (fun d => (set [(D.DwlLane.LANE_STATE, 71, 1), (D.Phy.MODE, 0, 1), (D.GroupCfg.MAX_STEP, 7, 4)] d).setDl 71 (fun x => { x with dwelt := true, step := 3, peerMax := 4 })) : State).dev.elapse (ask 2 : Rcp).dt).laneBlocks ((235 : Nat) - 164)).dl ((235 : Nat) - 164)).offerTx = false ∧ ((((svcWith (fun d => (set [(D.DwlLane.LANE_STATE, 71, 1), (D.Phy.MODE, 0, 1), (D.GroupCfg.MAX_STEP, 7, 4)] d).setDl 71 (fun x => { x with dwelt := true, step := 3, peerMax := 4 })) : State).dev.elapse (ask 2 : Rcp).dt).laneBlocks ((235 : Nat) - 164)).dl ((235 : Nat) - 164)).allow = false := by decide

theorem wit_LaneCommandsComplete_laneCmdSwapOut : (svcSet [(D.DwlLane.LANE_STATE, 63, 2), (D.DwlLane.LANE_STATE, 71, 4)] : State).dev.grants (ask 2 : Rcp) 0x0800 2 ⟨4, 2 * 2 ^ 24 + (227 : Nat)⟩ = true ∧ isDowel (227 : Nat) = true ∧ (svcSet [(D.DwlLane.LANE_STATE, 63, 2), (D.DwlLane.LANE_STATE, 71, 4)] : State).dev.laneState ((227 : Nat) - 164) = LaneState.IN_ROTATION ∧ (svcSet [(D.DwlLane.LANE_STATE, 63, 2), (D.DwlLane.LANE_STATE, 71, 4)] : State).dev.readySpare (((227 : Nat) - 164) / 9) = some (71 : Nat) ∧ ((svcSet [(D.DwlLane.LANE_STATE, 63, 2), (D.DwlLane.LANE_STATE, 71, 4)] : State).dev.dl ((227 : Nat) - 164)).await = false := by decide

theorem wit_LaneCommandsComplete_laneCmdRetrain : (svcSet [(D.DwlLane.LANE_STATE, 71, 3)] : State).dev.grants (ask 2 : Rcp) 0x0800 2 ⟨4, 3 * 2 ^ 24 + (235 : Nat)⟩ = true ∧ isDowel (235 : Nat) = true ∧ (svcSet [(D.DwlLane.LANE_STATE, 71, 3)] : State).dev.laneState ((235 : Nat) - 164) = LaneState.FAILED := by decide

theorem wit_LaneCommandsComplete_laneCmdMarginScan : (svcSet [(D.LaneStatus.CDR_LOCKED, 235, 1)] : State).dev.grants (ask 2 : Rcp) 0x0800 2 ⟨4, 4 * 2 ^ 24 + (15 : Nat) * 2 ^ 16 + (235 : Nat)⟩ = true ∧ 6 ≤ (15 : Nat) ∧ (15 : Nat) ≤ 15 ∧ (235 : Nat) ≤ 235 ∧ (svcSet [(D.LaneStatus.CDR_LOCKED, 235, 1)] : State).dev.laneLocked (235 : Nat) = true ∧ (128 ≤ (235 : Nat) ∨ (svcSet [(D.LaneStatus.CDR_LOCKED, 235, 1)] : State).dev.rd D.SdiRxStatus.RATE (235 : Nat) ≠ 1) ∧ (svcSet [(D.LaneStatus.CDR_LOCKED, 235, 1)] : State).dev.phy.scans.length < 8 ∧ (svcSet [(D.LaneStatus.CDR_LOCKED, 235, 1)] : State).dev.phy.scans.any (fun x => x.1 == (235 : Nat)) = false := by decide

theorem wit_LaneCommandsComplete_laneCmdMarginAbort : (svcWith (fun d => { d with phy := { d.phy with scans := [(235, 7)] } }) : State).dev.grants (ask 2 : Rcp) 0x0800 2 ⟨4, 5 * 2 ^ 24 + (235 : Nat)⟩ = true ∧ (235 : Nat) ≤ 235 ∧ (svcWith (fun d => { d with phy := { d.phy with scans := [(235, 7)] } }) : State).dev.phy.scans.any (fun x => x.1 == (235 : Nat)) = true := by decide

theorem wit_LaneCommandsComplete_marginScanDone : 5 ≤ (svcWith (fun d => { (set [(D.LaneStatus.CDR_LOCKED, 235, 1)] d) with phy := { d.phy with scans := [(235, 0)] } }) : State).dev.stage ∧ (svcWith (fun d => { (set [(D.LaneStatus.CDR_LOCKED, 235, 1)] d) with phy := { d.phy with scans := [(235, 0)] } }) : State).dev.inReset = false ∧ ((svcWith (fun d => { (set [(D.LaneStatus.CDR_LOCKED, 235, 1)] d) with phy := { d.phy with scans := [(235, 0)] } }) : State).dev.lanesAt (7000000 : Nat)).phy.scans.find? (fun x => x.1 == (235 : Nat)) = some ((235 : Nat), (0 : Nat)) ∧ ((svcWith (fun d => { (set [(D.LaneStatus.CDR_LOCKED, 235, 1)] d) with phy := { d.phy with scans := [(235, 0)] } }) : State).dev.lanesAt (7000000 : Nat)).laneLocked (235 : Nat) = true := by decide

theorem wit_LaneFailuresComplete_phyLaneFailed : 5 ≤ (svcSet [(D.DwlLane.LANE_STATE, 63, 2), (D.DwlLane.LANE_STATE, 71, 4), (D.GroupStatus.STATE, 7, 3)] : State).dev.stage ∧ (svcSet [(D.DwlLane.LANE_STATE, 63, 2), (D.DwlLane.LANE_STATE, 71, 4), (D.GroupStatus.STATE, 7, 3)] : State).dev.inReset = false ∧ isDowel (227 : Nat) = true ∧ ((svcSet [(D.DwlLane.LANE_STATE, 63, 2), (D.DwlLane.LANE_STATE, 71, 4), (D.GroupStatus.STATE, 7, 3)] : State).dev.laneState ((227 : Nat) - 164) = LaneState.IN_ROTATION ∨ (svcSet [(D.DwlLane.LANE_STATE, 63, 2), (D.DwlLane.LANE_STATE, 71, 4), (D.GroupStatus.STATE, 7, 3)] : State).dev.laneState ((227 : Nat) - 164) = LaneState.SPARE_PRBS) := by decide

theorem wit_LaneFailuresComplete_phyDegradeCheck : 5 ≤ (svcWith (fun d => (set [(D.DwlLane.LANE_STATE, 71, 2), (D.Phy.AUTO_SPARE, 0, 0)] d).setDl 71 (fun x => { x with errs := 65000 })) : State).dev.stage ∧ (svcWith (fun d => (set [(D.DwlLane.LANE_STATE, 71, 2), (D.Phy.AUTO_SPARE, 0, 0)] d).setDl 71 (fun x => { x with errs := 65000 })) : State).dev.inReset = false ∧ isDowel (235 : Nat) = true ∧ ((svcWith (fun d => (set [(D.DwlLane.LANE_STATE, 71, 2), (D.Phy.AUTO_SPARE, 0, 0)] d).setDl 71 (fun x => { x with errs := 65000 })) : State).dev.elapse (1000000000 : Nat)).judgeDue (235 : Nat) = true ∧ (svcWith (fun d => (set [(D.DwlLane.LANE_STATE, 71, 2), (D.Phy.AUTO_SPARE, 0, 0)] d).setDl 71 (fun x => { x with errs := 65000 })) : State).dev.laneState ((235 : Nat) - 164) = LaneState.IN_ROTATION ∧ (svcWith (fun d => (set [(D.DwlLane.LANE_STATE, 71, 2), (D.Phy.AUTO_SPARE, 0, 0)] d).setDl 71 (fun x => { x with errs := 65000 })) : State).dev.rd D.Phy.DEGRADE_CV_PER_S 0 < ((svcWith (fun d => (set [(D.DwlLane.LANE_STATE, 71, 2), (D.Phy.AUTO_SPARE, 0, 0)] d).setDl 71 (fun x => { x with errs := 65000 })) : State).dev.dl ((235 : Nat) - 164)).errs + (536 : Nat) + (2 ^ 33 : Nat) ∧ (svcWith (fun d => (set [(D.DwlLane.LANE_STATE, 71, 2), (D.Phy.AUTO_SPARE, 0, 0)] d).setDl 71 (fun x => { x with errs := 65000 })) : State).dev.on D.Phy.AUTO_SPARE 0 = false := by decide

theorem wit_LaneFailuresComplete_spareReadinessCheck : 5 ≤ (svcSet [(D.DwlLane.LANE_STATE, 71, 4), (D.Phy.SPARE_ERR_PER_S, 0, 9)] : State).dev.stage ∧ (svcSet [(D.DwlLane.LANE_STATE, 71, 4), (D.Phy.SPARE_ERR_PER_S, 0, 9)] : State).dev.inReset = false ∧ (7 : Nat) < 8 ∧ (lanesOf (7 : Nat)).find? (fun x => (svcSet [(D.DwlLane.LANE_STATE, 71, 4), (D.Phy.SPARE_ERR_PER_S, 0, 9)] : State).dev.laneState x == LaneState.SPARE_PRBS) = some (71 : Nat) ∧ ((svcSet [(D.DwlLane.LANE_STATE, 71, 4), (D.Phy.SPARE_ERR_PER_S, 0, 9)] : State).dev.elapse (1000000000 : Nat)).judgeDue (phyOf (71 : Nat)) = true ∧ (9 : Nat) ≤ (svcSet [(D.DwlLane.LANE_STATE, 71, 4), (D.Phy.SPARE_ERR_PER_S, 0, 9)] : State).dev.rd D.Phy.SPARE_ERR_PER_S 0 := by decide

theorem wit_LaneFailuresComplete_sdiSliceSpare : (svcSet [(D.Phy.AUTO_SPARE, 0, 1)] : State).dev.serving = true ∧ (127 : Nat) < 128 ∧ (svcSet [(D.Phy.AUTO_SPARE, 0, 1)] : State).dev.on D.Phy.AUTO_SPARE 0 = true ∧ (svcSet [(D.Phy.AUTO_SPARE, 0, 1)] : State).dev.on D.SliceMap.IN_USE ((127 : Nat) / 16) = false ∧ (svcSet [(D.Phy.AUTO_SPARE, 0, 1)] : State).dev.on D.SdiRxStatus.LOCKED (127 : Nat) = false ∧ (svcSet [(D.Phy.AUTO_SPARE, 0, 1)] : State).dev.on D.LaneStatus.SPARED (127 : Nat) = false := by decide

theorem wit_LaneFailuresComplete_prbsCheckerLock : 5 ≤ (svcSet [(D.LaneCfg.PRBS_MODE, 235, 3)] : State).dev.stage ∧ (svcSet [(D.LaneCfg.PRBS_MODE, 235, 3)] : State).dev.inReset = false ∧ (235 : Nat) ≤ 235 ∧ (svcSet [(D.LaneCfg.PRBS_MODE, 235, 3)] : State).dev.checking (235 : Nat) = true ∧ (svcSet [(D.LaneCfg.PRBS_MODE, 235, 3)] : State).dev.on D.LaneStatus.PRBS_LOCK (235 : Nat) = false := by decide

theorem wit_LaneFailuresComplete_prbsCheckerUnlock : 5 ≤ (svcSet [(D.LaneStatus.PRBS_LOCK, 235, 1)] : State).dev.stage ∧ (svcSet [(D.LaneStatus.PRBS_LOCK, 235, 1)] : State).dev.inReset = false ∧ (235 : Nat) ≤ 235 ∧ (svcSet [(D.LaneStatus.PRBS_LOCK, 235, 1)] : State).dev.on D.LaneStatus.PRBS_LOCK (235 : Nat) = true := by decide

theorem wit_StoreRequestsComplete_memRequestServe : (⟨(set [(D.ChanStatus.STATE, 31, 2)] { dev with store := { dev.store with alloc := [(7, ⟨⟨2, 0, 0, 1, 1, 0⟩, [some 63], []⟩)], reqs := [⟨31, 4, 7, 0, 2048, 2, false, 0, 0, 0, false⟩] } }).setChan 31 (fun x => { x with refreshed := 5 }), [(132122624, 9)], []⟩ : State).dev.serving = true ∧ (31 : Nat) < 32 ∧ (⟨(set [(D.ChanStatus.STATE, 31, 2)] { dev with store := { dev.store with alloc := [(7, ⟨⟨2, 0, 0, 1, 1, 0⟩, [some 63], []⟩)], reqs := [⟨31, 4, 7, 0, 2048, 2, false, 0, 0, 0, false⟩] } }).setChan 31 (fun x => { x with refreshed := 5 }), [(132122624, 9)], []⟩ : State).dev.chanServes (31 : Nat) = true ∧ ((⟨(set [(D.ChanStatus.STATE, 31, 2)] { dev with store := { dev.store with alloc := [(7, ⟨⟨2, 0, 0, 1, 1, 0⟩, [some 63], []⟩)], reqs := [⟨31, 4, 7, 0, 2048, 2, false, 0, 0, 0, false⟩] } }).setChan 31 (fun x => { x with refreshed := 5 }), [(132122624, 9)], []⟩ : State).dev.chanSt (31 : Nat)).entering = false ∧ (⟨(set [(D.ChanStatus.STATE, 31, 2)] { dev with store := { dev.store with alloc := [(7, ⟨⟨2, 0, 0, 1, 1, 0⟩, [some 63], []⟩)], reqs := [⟨31, 4, 7, 0, 2048, 2, false, 0, 0, 0, false⟩] } }).setChan 31 (fun x => { x with refreshed := 5 }), [(132122624, 9)], []⟩ : State).dev.selectReq (31 : Nat) ((⟨(set [(D.ChanStatus.STATE, 31, 2)] { dev with store := { dev.store with alloc := [(7, ⟨⟨2, 0, 0, 1, 1, 0⟩, [some 63], []⟩)], reqs := [⟨31, 4, 7, 0, 2048, 2, false, 0, 0, 0, false⟩] } }).setChan 31 (fun x => { x with refreshed := 5 }), [(132122624, 9)], []⟩ : State).dev.store.reqs.filter (fun x => x.chan == (31 : Nat))) = some (⟨31, 4, 7, 0, 2048, 2, false, 0, 0, 0, false⟩ : MemReq) ∧ (⟨31, 4, 7, 0, 2048, 2, false, 0, 0, 0, false⟩ : MemReq).write = false ∧ Assoc.find (⟨(set [(D.ChanStatus.STATE, 31, 2)] { dev with store := { dev.store with alloc := [(7, ⟨⟨2, 0, 0, 1, 1, 0⟩, [some 63], []⟩)], reqs := [⟨31, 4, 7, 0, 2048, 2, false, 0, 0, 0, false⟩] } }).setChan 31 (fun x => { x with refreshed := 5 }), [(132122624, 9)], []⟩ : State).dev.store.alloc (⟨31, 4, 7, 0, 2048, 2, false, 0, 0, 0, false⟩ : MemReq).handle = some (⟨⟨2, 0, 0, 1, 1, 0⟩, [some 63], []⟩ : Alloc) ∧ (⟨⟨2, 0, 0, 1, 1, 0⟩, [some 63], []⟩ : Alloc).addr (⟨31, 4, 7, 0, 2048, 2, false, 0, 0, 0, false⟩ : MemReq).logical (⟨31, 4, 7, 0, 2048, 2, false, 0, 0, 0, false⟩ : MemReq).off = some (63 * blockBytes + 2048 : Nat) ∧ (⟨⟨2, 0, 0, 1, 1, 0⟩, [some 63], []⟩ : Alloc).poison (⟨31, 4, 7, 0, 2048, 2, false, 0, 0, 0, false⟩ : MemReq).logical (⟨31, 4, 7, 0, 2048, 2, false, 0, 0, 0, false⟩ : MemReq).off (⟨31, 4, 7, 0, 2048, 2, false, 0, 0, 0, false⟩ : MemReq).len = false ∧ (⟨31, 4, 7, 0, 2048, 2, false, 0, 0, 0, false⟩ : MemReq).missed = false ∧ (⟨(set [(D.ChanStatus.STATE, 31, 2)] { dev with store := { dev.store with alloc := [(7, ⟨⟨2, 0, 0, 1, 1, 0⟩, [some 63], []⟩)], reqs := [⟨31, 4, 7, 0, 2048, 2, false, 0, 0, 0, false⟩] } }).setChan 31 (fun x => { x with refreshed := 5 }), [(132122624, 9)], []⟩ : State).dev.wall + (5 : Nat) - (⟨31, 4, 7, 0, 2048, 2, false, 0, 0, 0, false⟩ : MemReq).since ≤ 2000 ∧ (⟨(set [(D.ChanStatus.STATE, 31, 2)] { dev with store := { dev.store with alloc := [(7, ⟨⟨2, 0, 0, 1, 1, 0⟩, [some 63], []⟩)], reqs := [⟨31, 4, 7, 0, 2048, 2, false, 0, 0, 0, false⟩] } }).setChan 31 (fun x => { x with refreshed := 5 }), [(132122624, 9)], []⟩ : State).dev.memQ = [] ∧ (((⟨(set [(D.ChanStatus.STATE, 31, 2)] { dev with store := { dev.store with alloc := [(7, ⟨⟨2, 0, 0, 1, 1, 0⟩, [some 63], []⟩)], reqs := [⟨31, 4, 7, 0, 2048, 2, false, 0, 0, 0, false⟩] } }).setChan 31 (fun x => { x with refreshed := 5 }), [(132122624, 9)], []⟩ : State).dev.elapse (5 : Nat)).refreshIdle (31 : Nat)).postponed (31 : Nat) < 8 := by
  repeat' apply And.intro
  all_goals first | exact postponed_zero _ _ (by decide) | decide

theorem wit_StoreRequestsComplete_memRequestServe_2 : (⟨(set [(D.ChanStatus.STATE, 31, 2)] { dev with store := { dev.store with alloc := [(7, ⟨⟨2, 0, 0, 1, 1, 0⟩, [some 63], []⟩)], reqs := [⟨31, 4, 7, 0, 2048, 2, true, 515, 0, 0, false⟩] } }).setChan 31 (fun x => { x with refreshed := 5 }), [(132122624, 9)], []⟩ : State).dev.serving = true ∧ (31 : Nat) < 32 ∧ (⟨(set [(D.ChanStatus.STATE, 31, 2)] { dev with store := { dev.store with alloc := [(7, ⟨⟨2, 0, 0, 1, 1, 0⟩, [some 63], []⟩)], reqs := [⟨31, 4, 7, 0, 2048, 2, true, 515, 0, 0, false⟩] } }).setChan 31 (fun x => { x with refreshed := 5 }), [(132122624, 9)], []⟩ : State).dev.chanServes (31 : Nat) = true ∧ ((⟨(set [(D.ChanStatus.STATE, 31, 2)] { dev with store := { dev.store with alloc := [(7, ⟨⟨2, 0, 0, 1, 1, 0⟩, [some 63], []⟩)], reqs := [⟨31, 4, 7, 0, 2048, 2, true, 515, 0, 0, false⟩] } }).setChan 31 (fun x => { x with refreshed := 5 }), [(132122624, 9)], []⟩ : State).dev.chanSt (31 : Nat)).entering = false ∧ (⟨(set [(D.ChanStatus.STATE, 31, 2)] { dev with store := { dev.store with alloc := [(7, ⟨⟨2, 0, 0, 1, 1, 0⟩, [some 63], []⟩)], reqs := [⟨31, 4, 7, 0, 2048, 2, true, 515, 0, 0, false⟩] } }).setChan 31 (fun x => { x with refreshed := 5 }), [(132122624, 9)], []⟩ : State).dev.selectReq (31 : Nat) ((⟨(set [(D.ChanStatus.STATE, 31, 2)] { dev with store := { dev.store with alloc := [(7, ⟨⟨2, 0, 0, 1, 1, 0⟩, [some 63], []⟩)], reqs := [⟨31, 4, 7, 0, 2048, 2, true, 515, 0, 0, false⟩] } }).setChan 31 (fun x => { x with refreshed := 5 }), [(132122624, 9)], []⟩ : State).dev.store.reqs.filter (fun x => x.chan == (31 : Nat))) = some (⟨31, 4, 7, 0, 2048, 2, true, 515, 0, 0, false⟩ : MemReq) ∧ (⟨31, 4, 7, 0, 2048, 2, true, 515, 0, 0, false⟩ : MemReq).write = true ∧ Assoc.find (⟨(set [(D.ChanStatus.STATE, 31, 2)] { dev with store := { dev.store with alloc := [(7, ⟨⟨2, 0, 0, 1, 1, 0⟩, [some 63], []⟩)], reqs := [⟨31, 4, 7, 0, 2048, 2, true, 515, 0, 0, false⟩] } }).setChan 31 (fun x => { x with refreshed := 5 }), [(132122624, 9)], []⟩ : State).dev.store.alloc (⟨31, 4, 7, 0, 2048, 2, true, 515, 0, 0, false⟩ : MemReq).handle = some (⟨⟨2, 0, 0, 1, 1, 0⟩, [some 63], []⟩ : Alloc) ∧ (⟨⟨2, 0, 0, 1, 1, 0⟩, [some 63], []⟩ : Alloc).addr (⟨31, 4, 7, 0, 2048, 2, true, 515, 0, 0, false⟩ : MemReq).logical (⟨31, 4, 7, 0, 2048, 2, true, 515, 0, 0, false⟩ : MemReq).off = some (63 * blockBytes + 2048 : Nat) ∧ (63 * blockBytes + 2048 : Nat) + (⟨31, 4, 7, 0, 2048, 2, true, 515, 0, 0, false⟩ : MemReq).len ≤ memSize ∧ (⟨(set [(D.ChanStatus.STATE, 31, 2)] { dev with store := { dev.store with alloc := [(7, ⟨⟨2, 0, 0, 1, 1, 0⟩, [some 63], []⟩)], reqs := [⟨31, 4, 7, 0, 2048, 2, true, 515, 0, 0, false⟩] } }).setChan 31 (fun x => { x with refreshed := 5 }), [(132122624, 9)], []⟩ : State).dev.store.copying = [] ∧ (⟨(set [(D.ChanStatus.STATE, 31, 2)] { dev with store := { dev.store with alloc := [(7, ⟨⟨2, 0, 0, 1, 1, 0⟩, [some 63], []⟩)], reqs := [⟨31, 4, 7, 0, 2048, 2, true, 515, 0, 0, false⟩] } }).setChan 31 (fun x => { x with refreshed := 5 }), [(132122624, 9)], []⟩ : State).dev.memQ = [] ∧ (((⟨(set [(D.ChanStatus.STATE, 31, 2)] { dev with store := { dev.store with alloc := [(7, ⟨⟨2, 0, 0, 1, 1, 0⟩, [some 63], []⟩)], reqs := [⟨31, 4, 7, 0, 2048, 2, true, 515, 0, 0, false⟩] } }).setChan 31 (fun x => { x with refreshed := 5 }), [(132122624, 9)], []⟩ : State).dev.elapse (5 : Nat)).refreshIdle (31 : Nat)).postponed (31 : Nat) < 8 := by
  repeat' apply And.intro
  all_goals first | exact postponed_zero _ _ (by decide) | decide

theorem wit_StoreRequestsComplete_requestDeadlineMiss : (svcWith (fun d => { d with store := { d.store with reqs := [⟨31, 4, 7, 0, 2048, 2, true, 515, 0, 0, false⟩] } }) : State).dev.serving = true ∧ (svcWith (fun d => { d with store := { d.store with reqs := [⟨31, 4, 7, 0, 2048, 2, true, 515, 0, 0, false⟩] } }) : State).dev.store.reqs.find? (fun x => x.chan == (31 : Nat) && realTime x.port && !x.missed && decide (2000 < (svcWith (fun d => { d with store := { d.store with reqs := [⟨31, 4, 7, 0, 2048, 2, true, 515, 0, 0, false⟩] } }) : State).dev.wall + (2001 : Nat) - x.since)) = some (⟨31, 4, 7, 0, 2048, 2, true, 515, 0, 0, false⟩ : MemReq) := by decide

theorem wit_ChannelsComplete_chanTrainingSetDone : (inTraining : State).dev.inReset = false ∧ (31 : Nat) < 32 ∧ (inTraining : State).dev.chanState (31 : Nat) = ChanState.TRAINING ∧ (inTraining : State).dev.setTried (31 : Nat) = some (7 : Nat) ∧ (7 : Nat) < 8 := ⟨by decide, by decide, inTraining_state, inTraining_set, by decide⟩

theorem wit_ChannelsComplete_delayRecentre : (svcSet [(D.ChanStatus.STATE, 31, 3)] : State).dev.serving = true ∧ (31 : Nat) < 32 ∧ ((svcSet [(D.ChanStatus.STATE, 31, 3)] : State).dev.chanState (31 : Nat) = ChanState.ONLINE ∨ (svcSet [(D.ChanStatus.STATE, 31, 3)] : State).dev.chanState (31 : Nat) = ChanState.DEGRADED) ∧ ((svcSet [(D.ChanStatus.STATE, 31, 3)] : State).dev.elapse (100000000 : Nat)).past ((svcSet [(D.ChanStatus.STATE, 31, 3)] : State).dev.chanSt (31 : Nat)).shiftAt 100000000 = true ∧ (svcSet [(D.ChanStatus.STATE, 31, 3)] : State).dev.restarts 3 = false := by decide

theorem wit_ChannelsComplete_chanDegradeCheck : (svcWith (fun d => (set [(D.ChanStatus.STATE, 0, 2)] d).setChan 0 (fun x => { x with corr := 65536 })) : State).dev.serving = true ∧ (0 : Nat) < 32 ∧ ((svcWith (fun d => (set [(D.ChanStatus.STATE, 0, 2)] d).setChan 0 (fun x => { x with corr := 65536 })) : State).dev.elapse (1000000000 : Nat)).past ((svcWith (fun d => (set [(D.ChanStatus.STATE, 0, 2)] d).setChan 0 (fun x => { x with corr := 65536 })) : State).dev.chanSt (0 : Nat)).second 1000000000 = true ∧ (svcWith (fun d => (set [(D.ChanStatus.STATE, 0, 2)] d).setChan 0 (fun x => { x with corr := 65536 })) : State).dev.rd D.Fs.RETRAIN_CORR_PER_S 0 < ((svcWith (fun d => (set [(D.ChanStatus.STATE, 0, 2)] d).setChan 0 (fun x => { x with corr := 65536 })) : State).dev.chanSt (0 : Nat)).corr ∧ (svcWith (fun d => (set [(D.ChanStatus.STATE, 0, 2)] d).setChan 0 (fun x => { x with corr := 65536 })) : State).dev.chanState (0 : Nat) = ChanState.ONLINE := by decide

theorem wit_ChannelsComplete_chanDegradeCheck_2 : (svcWith (fun d => (set [(D.ChanStatus.STATE, 31, 3)] d).setChan 31 (fun x => { x with clean := 9 })) : State).dev.serving = true ∧ (31 : Nat) < 32 ∧ ((svcWith (fun d => (set [(D.ChanStatus.STATE, 31, 3)] d).setChan 31 (fun x => { x with clean := 9 })) : State).dev.elapse (1000000000 : Nat)).past ((svcWith (fun d => (set [(D.ChanStatus.STATE, 31, 3)] d).setChan 31 (fun x => { x with clean := 9 })) : State).dev.chanSt (31 : Nat)).second 1000000000 = true ∧ ((svcWith (fun d => (set [(D.ChanStatus.STATE, 31, 3)] d).setChan 31 (fun x => { x with clean := 9 })) : State).dev.chanSt (31 : Nat)).corr ≤ (svcWith (fun d => (set [(D.ChanStatus.STATE, 31, 3)] d).setChan 31 (fun x => { x with clean := 9 })) : State).dev.rd D.Fs.RETRAIN_CORR_PER_S 0 ∧ 9 ≤ ((svcWith (fun d => (set [(D.ChanStatus.STATE, 31, 3)] d).setChan 31 (fun x => { x with clean := 9 })) : State).dev.chanSt (31 : Nat)).clean ∧ (svcWith (fun d => (set [(D.ChanStatus.STATE, 31, 3)] d).setChan 31 (fun x => { x with clean := 9 })) : State).dev.chanState (31 : Nat) = ChanState.DEGRADED := by decide

theorem wit_ChannelsComplete_chanFail : (svcWith (fun d => (set [(D.ChanStatus.STATE, 31, 5)] d).setChan 31 (fun x => { x with failedAt := [0, 0] })) : State).dev.serving = true ∧ (31 : Nat) < 32 ∧ (svcWith (fun d => (set [(D.ChanStatus.STATE, 31, 5)] d).setChan 31 (fun x => { x with failedAt := [0, 0] })) : State).dev.chanServes (31 : Nat) = true := by decide

theorem wit_ChannelsComplete_mr4Poll : (svcSet [(D.ChanStatus.STATE, 31, 2)] : State).dev.serving = true ∧ (31 : Nat) < 32 ∧ (svcSet [(D.ChanStatus.STATE, 31, 2)] : State).dev.chanState (31 : Nat) ≠ ChanState.OFFLINE ∧ (svcSet [(D.ChanStatus.STATE, 31, 2)] : State).dev.chanState (31 : Nat) ≠ ChanState.RETIRED ∧ ((svcSet [(D.ChanStatus.STATE, 31, 2)] : State).dev.chanSt (31 : Nat)).hot = false ∧ (7 : Nat) < 8 := by decide

theorem wit_ChannelsComplete_srEntry : (svcWith (fun d => (set [(D.ChanStatus.STATE, 31, 2)] d).setChan 31 (fun x => { x with entering := true })) : State).dev.serving = true ∧ (31 : Nat) < 32 ∧ (svcWith (fun d => (set [(D.ChanStatus.STATE, 31, 2)] d).setChan 31 (fun x => { x with entering := true })) : State).dev.chanServes (31 : Nat) = true ∧ (svcWith (fun d => (set [(D.ChanStatus.STATE, 31, 2)] d).setChan 31 (fun x => { x with entering := true })) : State).dev.reqWaits (31 : Nat) = false ∧ (svcWith (fun d => (set [(D.ChanStatus.STATE, 31, 2)] d).setChan 31 (fun x => { x with entering := true })) : State).dev.on D.ChanStatus.SELF_REFRESH (31 : Nat) = false ∧ ((svcWith (fun d => (set [(D.ChanStatus.STATE, 31, 2)] d).setChan 31 (fun x => { x with entering := true })) : State).dev.chanSt (31 : Nat)).entering = true := by decide

theorem wit_ChannelsComplete_srExit : (svcWith (fun d => ({ d with store := { d.store with reqs := [⟨31, 4, 7, 0, 2048, 2, true, 515, 0, 0, false⟩] } }).setChan 31 (fun x => { x with entering := true })) : State).dev.serving = true ∧ (31 : Nat) < 32 ∧ (svcWith (fun d => ({ d with store := { d.store with reqs := [⟨31, 4, 7, 0, 2048, 2, true, 515, 0, 0, false⟩] } }).setChan 31 (fun x => { x with entering := true })) : State).dev.reqWaits (31 : Nat) = true ∧ (svcWith (fun d => ({ d with store := { d.store with reqs := [⟨31, 4, 7, 0, 2048, 2, true, 515, 0, 0, false⟩] } }).setChan 31 (fun x => { x with entering := true })) : State).dev.on D.ChanStatus.SELF_REFRESH (31 : Nat) = false ∧ ((svcWith (fun d => ({ d with store := { d.store with reqs := [⟨31, 4, 7, 0, 2048, 2, true, 515, 0, 0, false⟩] } }).setChan 31 (fun x => { x with entering := true })) : State).dev.chanSt (31 : Nat)).entering = true := by decide

theorem wit_ChannelsComplete_srExit_2 : (svcWith (fun d => ({ (set [(D.ChanStatus.SELF_REFRESH, 31, 1)] d) with store := { d.store with reqs := [⟨31, 4, 7, 0, 2048, 2, true, 515, 0, 0, false⟩] } }).setChan 31 (fun x => { x with entering := true })) : State).dev.serving = true ∧ (31 : Nat) < 32 ∧ (svcWith (fun d => ({ (set [(D.ChanStatus.SELF_REFRESH, 31, 1)] d) with store := { d.store with reqs := [⟨31, 4, 7, 0, 2048, 2, true, 515, 0, 0, false⟩] } }).setChan 31 (fun x => { x with entering := true })) : State).dev.reqWaits (31 : Nat) = true ∧ (svcWith (fun d => ({ (set [(D.ChanStatus.SELF_REFRESH, 31, 1)] d) with store := { d.store with reqs := [⟨31, 4, 7, 0, 2048, 2, true, 515, 0, 0, false⟩] } }).setChan 31 (fun x => { x with entering := true })) : State).dev.on D.ChanStatus.SELF_REFRESH (31 : Nat) = true ∧ ((svcWith (fun d => ({ (set [(D.ChanStatus.SELF_REFRESH, 31, 1)] d) with store := { d.store with reqs := [⟨31, 4, 7, 0, 2048, 2, true, 515, 0, 0, false⟩] } }).setChan 31 (fun x => { x with entering := true })) : State).dev.chanSt (31 : Nat)).entering = true ∧ ((svcWith (fun d => ({ (set [(D.ChanStatus.SELF_REFRESH, 31, 1)] d) with store := { d.store with reqs := [⟨31, 4, 7, 0, 2048, 2, true, 515, 0, 0, false⟩] } }).setChan 31 (fun x => { x with entering := true })) : State).dev.elapse (403 : Nat)).past ((svcWith (fun d => ({ (set [(D.ChanStatus.SELF_REFRESH, 31, 1)] d) with store := { d.store with reqs := [⟨31, 4, 7, 0, 2048, 2, true, 515, 0, 0, false⟩] } }).setChan 31 (fun x => { x with entering := true })) : State).dev.chanSt (31 : Nat)).sreAt 403 = true := by decide

theorem wit_ChannelCommandsComplete_chanCmdRetrain : (31 : Nat) < 32 ∧ (svcSet [(D.ChanStatus.STATE, 31, 2)] : State).dev.grants (ask 2 : Rcp) 0x0E00 0x0D ⟨4, 2 ^ 24 + (31 : Nat)⟩ = true ∧ ((svcSet [(D.ChanStatus.STATE, 31, 2)] : State).dev.chanState (31 : Nat) = ChanState.ONLINE ∨ (svcSet [(D.ChanStatus.STATE, 31, 2)] : State).dev.chanState (31 : Nat) = ChanState.DEGRADED) ∧ (svcSet [(D.ChanStatus.STATE, 31, 2)] : State).dev.blocksOn (31 : Nat) = [] := by decide

theorem wit_ChannelCommandsComplete_chanCmdRetire : (31 : Nat) < 32 ∧ (svcSet [(D.ChanStatus.STATE, 31, 3)] : State).dev.grants (ask 2 : Rcp) 0x0E00 0x0D ⟨4, 2 ^ 25 + (31 : Nat)⟩ = true ∧ ((svcSet [(D.ChanStatus.STATE, 31, 3)] : State).dev.chanState (31 : Nat) = ChanState.ONLINE ∨ (svcSet [(D.ChanStatus.STATE, 31, 3)] : State).dev.chanState (31 : Nat) = ChanState.DEGRADED) ∧ (svcSet [(D.ChanStatus.STATE, 31, 3)] : State).dev.blocksOn (31 : Nat) = [] := by decide

theorem wit_ChannelCommandsComplete_chanCmdRestore : (31 : Nat) < 32 ∧ (svcSet [(D.ChanStatus.STATE, 31, 6)] : State).dev.grants (ask 2 : Rcp) 0x0E00 0x0D ⟨4, 3 * 2 ^ 24 + (31 : Nat)⟩ = true ∧ (svcSet [(D.ChanStatus.STATE, 31, 6)] : State).dev.chanState (31 : Nat) = ChanState.RETIRED := by decide

theorem wit_ChannelCommandsComplete_blockRelocated : (⟨{ dev with store := { dev.store with alloc := [(7, ⟨⟨2, 0, 0, 2, 1, 0⟩, [some 3, some 63], []⟩)], copying := [⟨7, 1, 65535, true⟩] } }, [(132122624, 9)], []⟩ : State).dev.serving = true ∧ (⟨{ dev with store := { dev.store with alloc := [(7, ⟨⟨2, 0, 0, 2, 1, 0⟩, [some 3, some 63], []⟩)], copying := [⟨7, 1, 65535, true⟩] } }, [(132122624, 9)], []⟩ : State).dev.store.copying.find? (fun x => x.handle == (7 : Nat) && x.logical == (1 : Nat)) = some (⟨7, 1, 65535, true⟩ : Copying) ∧ (⟨7, 1, 65535, true⟩ : Copying).target < 65536 ∧ Assoc.find (⟨{ dev with store := { dev.store with alloc := [(7, ⟨⟨2, 0, 0, 2, 1, 0⟩, [some 3, some 63], []⟩)], copying := [⟨7, 1, 65535, true⟩] } }, [(132122624, 9)], []⟩ : State).dev.store.alloc (7 : Nat) = some (⟨⟨2, 0, 0, 2, 1, 0⟩, [some 3, some 63], []⟩ : Alloc) ∧ (⟨⟨2, 0, 0, 2, 1, 0⟩, [some 3, some 63], []⟩ : Alloc).blocks.getD (1 : Nat) none = some (63 : Nat) := by decide

theorem wit_ChannelCommandsComplete_patrolTest : (svcSet [(D.ChanStatus.STATE, 31, 2)] : State).dev.serving = true ∧ (63 : Nat) < 65536 ∧ (1023 : Nat) < 1024 ∧ (svcSet [(D.ChanStatus.STATE, 31, 2)] : State).dev.blocksInUse.contains (63 : Nat) = false ∧ ((svcSet [(D.ChanStatus.STATE, 31, 2)] : State).dev.candidates ((63 : Nat) % 32)).contains (63 : Nat) = true ∧ (svcSet [(D.ChanStatus.STATE, 31, 2)] : State).dev.store.withdrawn.contains (63 : Nat) = false ∧ ((svcSet [(D.ChanStatus.STATE, 31, 2)] : State).dev.chanSt ((63 : Nat) % 32)).defects.contains ((63 : Nat) * 1024 + (1023 : Nat)) = false ∧ (svcSet [(D.ChanStatus.STATE, 31, 2)] : State).dev.store.alloc = [] := by decide

theorem wit_TilesComplete_tileFail : (svcSet [(D.TileMapEl.STATE, 67, 0), (D.TileMapEl.LOGICAL, 67, 63), (D.Tiles.AUTO_SPARE, 0, 0)] : State).dev.serving = true ∧ (67 : Nat) < 68 ∧ (svcSet [(D.TileMapEl.STATE, 67, 0), (D.TileMapEl.LOGICAL, 67, 63), (D.Tiles.AUTO_SPARE, 0, 0)] : State).dev.rd D.TileMapEl.STATE (67 : Nat) = PhysTile.ACTIVE ∧ (svcSet [(D.TileMapEl.STATE, 67, 0), (D.TileMapEl.LOGICAL, 67, 63), (D.Tiles.AUTO_SPARE, 0, 0)] : State).dev.on D.Tiles.AUTO_SPARE 0 = false := by decide

theorem wit_TilesComplete_tileSubstitutionDone : (svcSet [(D.TileStatus.SUBSTITUTING, 63, 1)] : State).dev.serving = true ∧ (63 : Nat) < 64 ∧ (svcSet [(D.TileStatus.SUBSTITUTING, 63, 1)] : State).dev.on D.TileStatus.SUBSTITUTING (63 : Nat) = true := by decide

theorem wit_TilesComplete_tileCmdSubstitute : (63 : Nat) < 64 ∧ (svcSet [(D.TileMapEl.STATE, 67, 1), (D.TileMapEl.STATE, 66, 2), (D.TileMapEl.STATE, 65, 2), (D.TileMapEl.STATE, 64, 2), (D.TileMapEl.STATE, 63, 0), (D.Tile.PHYS_TILE, 63, 63)] : State).dev.grants (ask 2 : Rcp) 0x0F00 0x08 ⟨4, 2 ^ 24 + (63 : Nat)⟩ = true ∧ (svcSet [(D.TileMapEl.STATE, 67, 1), (D.TileMapEl.STATE, 66, 2), (D.TileMapEl.STATE, 65, 2), (D.TileMapEl.STATE, 64, 2), (D.TileMapEl.STATE, 63, 0), (D.Tile.PHYS_TILE, 63, 63)] : State).dev.physOf (63 : Nat) = some (63 : Nat) ∧ (svcSet [(D.TileMapEl.STATE, 67, 1), (D.TileMapEl.STATE, 66, 2), (D.TileMapEl.STATE, 65, 2), (D.TileMapEl.STATE, 64, 2), (D.TileMapEl.STATE, 63, 0), (D.Tile.PHYS_TILE, 63, 63)] : State).dev.tileSpare = some (67 : Nat) ∧ (svcSet [(D.TileMapEl.STATE, 67, 1), (D.TileMapEl.STATE, 66, 2), (D.TileMapEl.STATE, 65, 2), (D.TileMapEl.STATE, 64, 2), (D.TileMapEl.STATE, 63, 0), (D.Tile.PHYS_TILE, 63, 63)] : State).dev.rd D.TileMapEl.STATE (63 : Nat) = PhysTile.ACTIVE := by decide

theorem wit_TilesComplete_tileCmdRestore : (67 : Nat) < 68 ∧ (svcSet [(D.TileMapEl.STATE, 67, 2)] : State).dev.grants (ask 2 : Rcp) 0x0F00 0x08 ⟨4, 2 * 2 ^ 24 + (67 : Nat)⟩ = true ∧ (svcSet [(D.TileMapEl.STATE, 67, 2)] : State).dev.rd D.TileMapEl.STATE (67 : Nat) = PhysTile.FAILED := by decide

theorem wit_TilesComplete_tileCmdTest : (67 : Nat) < 68 ∧ (svcSet [(D.TileMapEl.STATE, 67, 1)] : State).dev.grants (ask 2 : Rcp) 0x0F00 0x08 ⟨4, 3 * 2 ^ 24 + (67 : Nat)⟩ = true ∧ (svcSet [(D.TileMapEl.STATE, 67, 1)] : State).dev.rd D.TileMapEl.STATE (67 : Nat) = PhysTile.SPARE := by decide

theorem wit_TilesComplete_tileBistDone : (svcWith (fun d => { set [(D.TileMapEl.STATE, 67, 3)] d with tileRestore := [67, 3] }) : State).dev.serving = true ∧ (67 : Nat) < 68 ∧ (svcWith (fun d => { set [(D.TileMapEl.STATE, 67, 3)] d with tileRestore := [67, 3] }) : State).dev.rd D.TileMapEl.STATE (67 : Nat) = PhysTile.TESTING := by decide

theorem wit_TilesComplete_fsOutputFrame : (svcSet [(D.Flow.ENABLE, 9, 1), (D.Flow.STATE, 9, 2), (D.Flow.KIND, 9, 9), (D.FlowBind.INDEX, 9, 63 + 512), (D.FsCfgB.ENABLE, 63, 1)] : State).dev.serving = true ∧ (63 : Nat) < 64 ∧ (svcSet [(D.Flow.ENABLE, 9, 1), (D.Flow.STATE, 9, 2), (D.Flow.KIND, 9, 9), (D.FlowBind.INDEX, 9, 63 + 512), (D.FsCfgB.ENABLE, 63, 1)] : State).dev.tileOut (63 : Nat) (if (true : Bool) then 2 else 0) = some (9 : Nat) ∧ (svcSet [(D.Flow.ENABLE, 9, 1), (D.Flow.STATE, 9, 2), (D.Flow.KIND, 9, 9), (D.FlowBind.INDEX, 9, 63 + 512), (D.FsCfgB.ENABLE, 63, 1)] : State).dev.fsOn (63 : Nat) (true : Bool) = true ∧ (svcSet [(D.Flow.ENABLE, 9, 1), (D.Flow.STATE, 9, 2), (D.Flow.KIND, 9, 9), (D.FlowBind.INDEX, 9, 63 + 512), (D.FsCfgB.ENABLE, 63, 1)] : State).dev.running (9 : Nat) = true ∧ (svcSet [(D.Flow.ENABLE, 9, 1), (D.Flow.STATE, 9, 2), (D.Flow.KIND, 9, 9), (D.FlowBind.INDEX, 9, 63 + 512), (D.FsCfgB.ENABLE, 63, 1)] : State).dev.on D.TileStatus.UNAVAILABLE (63 : Nat) = false ∧ (svcSet [(D.Flow.ENABLE, 9, 1), (D.Flow.STATE, 9, 2), (D.Flow.KIND, 9, 9), (D.FlowBind.INDEX, 9, 63 + 512), (D.FsCfgB.ENABLE, 63, 1)] : State).dev.on D.TileStatus.SUBSTITUTING (63 : Nat) = false := by decide

theorem wit_TilesComplete_fsInputLoss : (svcSet [(D.Flow.ENABLE, 5000, 1), (D.Flow.STATE, 5000, 2), (D.Flow.KIND, 5000, 0x49), (D.FlowBind.INDEX, 5000, 63), (D.Flow.FORMAT, 5000, 0x2300)] : State).dev.serving = true ∧ (63 : Nat) < 64 ∧ (svcSet [(D.Flow.ENABLE, 5000, 1), (D.Flow.STATE, 5000, 2), (D.Flow.KIND, 5000, 0x49), (D.FlowBind.INDEX, 5000, 63), (D.Flow.FORMAT, 5000, 0x2300)] : State).dev.tileIn (63 : Nat) (if (false : Bool) then 2 else 0) = some (5000 : Nat) ∧ (svcSet [(D.Flow.ENABLE, 5000, 1), (D.Flow.STATE, 5000, 2), (D.Flow.KIND, 5000, 0x49), (D.FlowBind.INDEX, 5000, 63), (D.Flow.FORMAT, 5000, 0x2300)] : State).dev.running (5000 : Nat) = true ∧ ((svcSet [(D.Flow.ENABLE, 5000, 1), (D.Flow.STATE, 5000, 2), (D.Flow.KIND, 5000, 0x49), (D.FlowBind.INDEX, 5000, 63), (D.Flow.FORMAT, 5000, 0x2300)] : State).dev.fsSt (63 : Nat) (false : Bool)).lossy = false ∧ ((svcSet [(D.Flow.ENABLE, 5000, 1), (D.Flow.STATE, 5000, 2), (D.Flow.KIND, 5000, 0x49), (D.FlowBind.INDEX, 5000, 63), (D.Flow.FORMAT, 5000, 0x2300)] : State).dev.elapse (40000000 : Nat)).past ((svcSet [(D.Flow.ENABLE, 5000, 1), (D.Flow.STATE, 5000, 2), (D.Flow.KIND, 5000, 0x49), (D.FlowBind.INDEX, 5000, 63), (D.Flow.FORMAT, 5000, 0x2300)] : State).dev.fsSt (63 : Nat) (false : Bool)).inAt (Fmt.periodNs ((svcSet [(D.Flow.ENABLE, 5000, 1), (D.Flow.STATE, 5000, 2), (D.Flow.KIND, 5000, 0x49), (D.FlowBind.INDEX, 5000, 63), (D.Flow.FORMAT, 5000, 0x2300)] : State).dev.format (5000 : Nat))) = true := by decide

theorem wit_CompositionCompletes_headFrameBoundary : (svcSet [(D.Flow.ENABLE, 4095, 1), (D.Flow.STATE, 4095, 2), (D.Flow.KIND, 4095, 0x0A), (D.FlowBind.INDEX, 4095, 11), (D.Flow.FORMAT, 4095, 0x3300)] : State).dev.serving = true ∧ (11 : Nat) < 12 ∧ (svcSet [(D.Flow.ENABLE, 4095, 1), (D.Flow.STATE, 4095, 2), (D.Flow.KIND, 4095, 0x0A), (D.FlowBind.INDEX, 4095, 11), (D.Flow.FORMAT, 4095, 0x3300)] : State).dev.headOut (11 : Nat) = some (4095 : Nat) ∧ (svcSet [(D.Flow.ENABLE, 4095, 1), (D.Flow.STATE, 4095, 2), (D.Flow.KIND, 4095, 0x0A), (D.FlowBind.INDEX, 4095, 11), (D.Flow.FORMAT, 4095, 0x3300)] : State).dev.running (4095 : Nat) = true ∧ ((svcSet [(D.Flow.ENABLE, 4095, 1), (D.Flow.STATE, 4095, 2), (D.Flow.KIND, 4095, 0x0A), (D.FlowBind.INDEX, 4095, 11), (D.Flow.FORMAT, 4095, 0x3300)] : State).dev.elapse (40000001 : Nat)).headBoundary (11 : Nat) (4095 : Nat) = some (40000000 : Nat) := by decide

theorem wit_CompositionCompletes_layerFrameComplete : (svcWith (fun d => { d.setLayer 191 (fun x => { x with due := [3, 4] }) with store := { alloc := [(5, ⟨⟨2, 191, 0, 1, 1, 0⟩, [some 7], []⟩)] } }) : State).dev.serving = true ∧ (191 : Nat) < 192 ∧ ((svcWith (fun d => { d.setLayer 191 (fun x => { x with due := [3, 4] }) with store := { alloc := [(5, ⟨⟨2, 191, 0, 1, 1, 0⟩, [some 7], []⟩)] } }) : State).dev.layerSt (191 : Nat)).due = (3 : Nat) :: ([4] : List Nat) ∧ (svcWith (fun d => { d.setLayer 191 (fun x => { x with due := [3, 4] }) with store := { alloc := [(5, ⟨⟨2, 191, 0, 1, 1, 0⟩, [some 7], []⟩)] } }) : State).dev.engineOk (191 : Nat) = true ∧ (((svcWith (fun d => { d.setLayer 191 (fun x => { x with due := [3, 4] }) with store := { alloc := [(5, ⟨⟨2, 191, 0, 1, 1, 0⟩, [some 7], []⟩)] } }) : State).dev.store.alloc.find? (fun (x0 : Nat × Alloc) => x0.2.want.cls == 2 && x0.2.want.tag == 0 && x0.2.want.owner == (191 : Nat))).map (fun (x0 : Nat × Alloc) => x0.2.held)).getD 0 ≠ 0 := by decide

theorem wit_CompositionCompletes_layerRunStart : (svcWith (fun d => { (set [(D.Flow.ENABLE, 5000, 1), (D.Flow.STATE, 5000, 2), (D.Flow.KIND, 5000, 0x4A), (D.FlowBind.INDEX, 5000, 191)] d).setFlow 5000 (fun x => { x with cur := some ⟨9000, 2, none, [], none⟩ }) with remote := [(9000, ⟨2, 2, 0x3300, 5, 0, 0⟩)] }) : State).dev.serving = true ∧ (191 : Nat) < 192 ∧ (svcWith (fun d => { (set [(D.Flow.ENABLE, 5000, 1), (D.Flow.STATE, 5000, 2), (D.Flow.KIND, 5000, 0x4A), (D.FlowBind.INDEX, 5000, 191)] d).setFlow 5000 (fun x => { x with cur := some ⟨9000, 2, none, [], none⟩ }) with remote := [(9000, ⟨2, 2, 0x3300, 5, 0, 0⟩)] }) : State).dev.layerIn (191 : Nat) = some (5000 : Nat) ∧ ((svcWith (fun d => { (set [(D.Flow.ENABLE, 5000, 1), (D.Flow.STATE, 5000, 2), (D.Flow.KIND, 5000, 0x4A), (D.FlowBind.INDEX, 5000, 191)] d).setFlow 5000 (fun x => { x with cur := some ⟨9000, 2, none, [], none⟩ }) with remote := [(9000, ⟨2, 2, 0x3300, 5, 0, 0⟩)] }) : State).dev.flowSt (5000 : Nat)).cur = some (⟨9000, 2, none, [], none⟩ : Merge) ∧ (svcWith (fun d => { (set [(D.Flow.ENABLE, 5000, 1), (D.Flow.STATE, 5000, 2), (D.Flow.KIND, 5000, 0x4A), (D.FlowBind.INDEX, 5000, 191)] d).setFlow 5000 (fun x => { x with cur := some ⟨9000, 2, none, [], none⟩ }) with remote := [(9000, ⟨2, 2, 0x3300, 5, 0, 0⟩)] }) : State).dev.sourceInfo (⟨9000, 2, none, [], none⟩ : Merge).efn = some (⟨2, 2, 0x3300, 5, 0, 0⟩ : Remote) ∧ (svcWith (fun d => { (set [(D.Flow.ENABLE, 5000, 1), (D.Flow.STATE, 5000, 2), (D.Flow.KIND, 5000, 0x4A), (D.FlowBind.INDEX, 5000, 191)] d).setFlow 5000 (fun x => { x with cur := some ⟨9000, 2, none, [], none⟩ }) with remote := [(9000, ⟨2, 2, 0x3300, 5, 0, 0⟩)] }) : State).dev.running (5000 : Nat) = true := by decide

theorem wit_CompositionCompletes_veneerWrite : (511 : Nat) < 512 ∧ (15 : Nat) < 65536 ∧ (15 : Nat) < 65536 ∧ (0xFF00FF01 : Nat) < 2 ^ 32 ∧ (svcWith (fun d => { set [(D.VeneerCfg.ENABLE, 511, 1), (D.VeneerCfg.WIDTH, 511, 16), (D.VeneerCfg.HEIGHT, 511, 16)] d with store := { alloc := [(5, ⟨⟨2, 511, 1, 1, 1, 0⟩, [some 65535], []⟩)] } }) : State).dev.grantsDom (ask 4 : Rcp) 0x1010 0x03 0 ⟨20, veneerHeader (511 : Nat) (15 : Nat) (15 : Nat) 1 1 false * 256 ^ 4 + (0xFF00FF01 : Nat)⟩ = true ∧ (svcWith (fun d => { set [(D.VeneerCfg.ENABLE, 511, 1), (D.VeneerCfg.WIDTH, 511, 16), (D.VeneerCfg.HEIGHT, 511, 16)] d with store := { alloc := [(5, ⟨⟨2, 511, 1, 1, 1, 0⟩, [some 65535], []⟩)] } }) : State).dev.on D.VeneerCfg.ENABLE (511 : Nat) = true ∧ (svcWith (fun d => { set [(D.VeneerCfg.ENABLE, 511, 1), (D.VeneerCfg.WIDTH, 511, 16), (D.VeneerCfg.HEIGHT, 511, 16)] d with store := { alloc := [(5, ⟨⟨2, 511, 1, 1, 1, 0⟩, [some 65535], []⟩)] } }) : State).dev.on D.VeneerCfg.DOUBLE (511 : Nat) = false ∧ (15 : Nat) + 1 ≤ (svcWith (fun d => { set [(D.VeneerCfg.ENABLE, 511, 1), (D.VeneerCfg.WIDTH, 511, 16), (D.VeneerCfg.HEIGHT, 511, 16)] d with store := { alloc := [(5, ⟨⟨2, 511, 1, 1, 1, 0⟩, [some 65535], []⟩)] } }) : State).dev.rd D.VeneerCfg.WIDTH (511 : Nat) ∧ (15 : Nat) + 1 ≤ (svcWith (fun d => { set [(D.VeneerCfg.ENABLE, 511, 1), (D.VeneerCfg.WIDTH, 511, 16), (D.VeneerCfg.HEIGHT, 511, 16)] d with store := { alloc := [(5, ⟨⟨2, 511, 1, 1, 1, 0⟩, [some 65535], []⟩)] } }) : State).dev.rd D.VeneerCfg.HEIGHT (511 : Nat) ∧ (svcWith (fun d => { set [(D.VeneerCfg.ENABLE, 511, 1), (D.VeneerCfg.WIDTH, 511, 16), (D.VeneerCfg.HEIGHT, 511, 16)] d with store := { alloc := [(5, ⟨⟨2, 511, 1, 1, 1, 0⟩, [some 65535], []⟩)] } }) : State).dev.veneerAlloc (511 : Nat) = some ((5 : Nat), (⟨⟨2, 511, 1, 1, 1, 0⟩, [some 65535], []⟩ : Alloc)) ∧ Assoc.find (svcWith (fun d => { set [(D.VeneerCfg.ENABLE, 511, 1), (D.VeneerCfg.WIDTH, 511, 16), (D.VeneerCfg.HEIGHT, 511, 16)] d with store := { alloc := [(5, ⟨⟨2, 511, 1, 1, 1, 0⟩, [some 65535], []⟩)] } }) : State).dev.store.alloc (5 : Nat) = some (⟨⟨2, 511, 1, 1, 1, 0⟩, [some 65535], []⟩ : Alloc) ∧ (svcWith (fun d => { set [(D.VeneerCfg.ENABLE, 511, 1), (D.VeneerCfg.WIDTH, 511, 16), (D.VeneerCfg.HEIGHT, 511, 16)] d with store := { alloc := [(5, ⟨⟨2, 511, 1, 1, 1, 0⟩, [some 65535], []⟩)] } }) : State).dev.store.copying = [] ∧ (svcWith (fun d => { set [(D.VeneerCfg.ENABLE, 511, 1), (D.VeneerCfg.WIDTH, 511, 16), (D.VeneerCfg.HEIGHT, 511, 16)] d with store := { alloc := [(5, ⟨⟨2, 511, 1, 1, 1, 0⟩, [some 65535], []⟩)] } }) : State).dev.memQ = [] ∧ (⟨⟨2, 511, 1, 1, 1, 0⟩, [some 65535], []⟩ : Alloc).addr (((15 : Nat) * (svcWith (fun d => { set [(D.VeneerCfg.ENABLE, 511, 1), (D.VeneerCfg.WIDTH, 511, 16), (D.VeneerCfg.HEIGHT, 511, 16)] d with store := { alloc := [(5, ⟨⟨2, 511, 1, 1, 1, 0⟩, [some 65535], []⟩)] } }) : State).dev.rd D.VeneerCfg.WIDTH (511 : Nat) + (15 : Nat)) * 4 / blockBytes) (((15 : Nat) * (svcWith (fun d => { set [(D.VeneerCfg.ENABLE, 511, 1), (D.VeneerCfg.WIDTH, 511, 16), (D.VeneerCfg.HEIGHT, 511, 16)] d with store := { alloc := [(5, ⟨⟨2, 511, 1, 1, 1, 0⟩, [some 65535], []⟩)] } }) : State).dev.rd D.VeneerCfg.WIDTH (511 : Nat) + (15 : Nat)) * 4 % blockBytes) = some (65535 * 2097152 + 1020 : Nat) ∧ (65535 * 2097152 + 1020 : Nat) + 4 ≤ memSize := by decide

theorem wit_CompositionCompletes_veneerFlip : (511 : Nat) < 512 ∧ (svcSet [(D.VeneerCfg.ENABLE, 511, 1), (D.VeneerCfg.DOUBLE, 511, 1)] : State).dev.grants (ask 2 : Rcp) 0x1000 0x07 ⟨4, 2 ^ 24 + (511 : Nat)⟩ = true ∧ (svcSet [(D.VeneerCfg.ENABLE, 511, 1), (D.VeneerCfg.DOUBLE, 511, 1)] : State).dev.on D.VeneerCfg.ENABLE (511 : Nat) = true ∧ (svcSet [(D.VeneerCfg.ENABLE, 511, 1), (D.VeneerCfg.DOUBLE, 511, 1)] : State).dev.on D.VeneerCfg.DOUBLE (511 : Nat) = true ∧ (svcSet [(D.VeneerCfg.ENABLE, 511, 1), (D.VeneerCfg.DOUBLE, 511, 1)] : State).dev.on D.VeneerStatus.FLIP_PENDING (511 : Nat) = false ∧ (svcSet [(D.VeneerCfg.ENABLE, 511, 1), (D.VeneerCfg.DOUBLE, 511, 1)] : State).dev.veneerHeads (511 : Nat) = [] := by decide

theorem wit_CompositionCompletes_tallyWrite : (191 : Nat) < 192 ∧ (0x8F0F : Nat) < 65536 ∧ (svc : State).dev.grants (ask 2 : Rcp) (0x6000 + (191 : Nat)) 0x09 ⟨2, (0x8F0F : Nat)⟩ = true ∧ (bit (0x8F0F : Nat) 15 = false ∨ bitsOf (0x8F0F : Nat) 8 4 ≠ 0) ∧ (svc : State).dev.pwrWarn = false := by decide

theorem wit_CompositionCompletes_cmpEngineFail : (svc : State).dev.serving = true ∧ (191 : Nat) < 192 ∧ (svc : State).dev.on D.LayerStatus.ENGINE_FAILED (191 : Nat) = false ∧ (svc : State).dev.on D.LayerStatus.UNAVAILABLE (191 : Nat) = false := by decide

theorem wit_AudioCommandsComplete_audioPosition : (svcWith (fun d => (set [(D.ToneCfg.ENABLE, 0, 1), (D.ToneCfg.FREQ_HZ, 0, 1000), (D.Dest.SOURCES, 3, 4352 * 2 ^ 112)] d)) : State).dev.serving = true ∧ instant (svcWith (fun d => (set [(D.ToneCfg.ENABLE, 0, 1), (D.ToneCfg.FREQ_HZ, 0, 1000), (D.Dest.SOURCES, 3, 4352 * 2 ^ 112)] d)) : State).dev.audio.pos ≤ ((svcWith (fun d => (set [(D.ToneCfg.ENABLE, 0, 1), (D.ToneCfg.FREQ_HZ, 0, 1000), (D.Dest.SOURCES, 3, 4352 * 2 ^ 112)] d)) : State).dev.elapse (20834 : Nat)).now := by decide

theorem wit_AudioCommandsComplete_audioSampleWrite : (svcSet [(D.DeembedCfg.ENABLE, 127, 1), (D.DeembedCfg.GROUPS, 127, 255), (D.SdiRxStatus.LOCKED, 127, 1)] : State).dev.serving = true ∧ (127 : Nat) < 128 ∧ (svcSet [(D.DeembedCfg.ENABLE, 127, 1), (D.DeembedCfg.GROUPS, 127, 255), (D.SdiRxStatus.LOCKED, 127, 1)] : State).dev.deembeds (127 : Nat) = true ∧ (Assoc.find (svcSet [(D.DeembedCfg.ENABLE, 127, 1), (D.DeembedCfg.GROUPS, 127, 255), (D.SdiRxStatus.LOCKED, 127, 1)] : State).dev.audio.laneW (127 : Nat)).isNone = true := by decide

theorem wit_AudioCommandsComplete_sapFrame : (svcSet [(D.SapCfg.ENABLE, 7, 1), (D.SapCfg.TX_MASK, 7, 3), (D.SapCfg.RX_MASK, 7, 3)] : State).dev.serving = true ∧ (7 : Nat) < 8 ∧ (svcSet [(D.SapCfg.ENABLE, 7, 1), (D.SapCfg.TX_MASK, 7, 3), (D.SapCfg.RX_MASK, 7, 3)] : State).dev.on D.SapCfg.ENABLE (7 : Nat) = true := by decide

theorem wit_DeviceTimeChangesComplete_timeChangeover : (svcWith (fun d => { set [(D.Time.RATE, 0, 2 ^ 40), (D.Time.OFFSET, 0, 77)] { d with raw := 2 ^ 30 } with time := { change := some ⟨false, -2000, 0, none⟩ } }) : State).dev.inCold = false ∧ (svcWith (fun d => { set [(D.Time.RATE, 0, 2 ^ 40), (D.Time.OFFSET, 0, 77)] { d with raw := 2 ^ 30 } with time := { change := some ⟨false, -2000, 0, none⟩ } }) : State).dev.time.change = some ⟨false, (-2000 : Int), (0 : Nat), none⟩ ∧ (0 : Nat) + 1024 ≤ (svcWith (fun d => { set [(D.Time.RATE, 0, 2 ^ 40), (D.Time.OFFSET, 0, 77)] { d with raw := 2 ^ 30 } with time := { change := some ⟨false, -2000, 0, none⟩ } }) : State).dev.wall + (1024 : Nat) := by decide

theorem wit_DeviceTimeChangesComplete_timeChangeover_2 : (svcWith (fun d => { set [(D.Time.RATE, 0, 2 ^ 40), (D.Time.OFFSET, 0, 77)] { d with raw := 2 ^ 30 } with time := { change := some ⟨true, -2000, 0, none⟩ } }) : State).dev.inCold = false ∧ (svcWith (fun d => { set [(D.Time.RATE, 0, 2 ^ 40), (D.Time.OFFSET, 0, 77)] { d with raw := 2 ^ 30 } with time := { change := some ⟨true, -2000, 0, none⟩ } }) : State).dev.time.change = some ⟨true, (-2000 : Int), (0 : Nat), none⟩ ∧ (0 : Nat) + 1024 ≤ (svcWith (fun d => { set [(D.Time.RATE, 0, 2 ^ 40), (D.Time.OFFSET, 0, 77)] { d with raw := 2 ^ 30 } with time := { change := some ⟨true, -2000, 0, none⟩ } }) : State).dev.wall + (1024 : Nat) := by decide

theorem wit_DeviceTimeChangesComplete_servoCmdStep : -(2 ^ 63) ≤ (-(2 ^ 63) : Int) ∧ (-(2 ^ 63) : Int) < 2 ^ 63 ∧ (svcSet [(D.Time.MODE, 0, 1)] : State).dev.grants (ask 2 : Rcp) 0x0600 0x08 ⟨9, 1 * 2 ^ 64 + ofInt 64 (-(2 ^ 63) : Int)⟩ = true ∧ (svcSet [(D.Time.MODE, 0, 1)] : State).dev.rd D.Time.MODE 0 = 1 ∧ (svcSet [(D.Time.MODE, 0, 1)] : State).dev.time.change = none ∧ (svcSet [(D.Time.MODE, 0, 1)] : State).dev.rateOk ((svcSet [(D.Time.MODE, 0, 1)] : State).dev.rdI D.Time.RATE 0) = true := by decide

theorem wit_DeviceTimeChangesComplete_servoCmdSetRate : -(2 ^ 63) ≤ (-1000000 : Int) ∧ (-1000000 : Int) < 2 ^ 63 ∧ (svcSet [(D.Time.MODE, 0, 1)] : State).dev.grants (ask 2 : Rcp) 0x0600 0x08 ⟨9, 2 * 2 ^ 64 + ofInt 64 (-1000000 : Int)⟩ = true ∧ (svcSet [(D.Time.MODE, 0, 1)] : State).dev.rd D.Time.MODE 0 = 1 ∧ (svcSet [(D.Time.MODE, 0, 1)] : State).dev.time.change = none ∧ (svcSet [(D.Time.MODE, 0, 1)] : State).dev.rateOk (-1000000 : Int) = true := by decide

theorem wit_DeviceTimeChangesComplete_servoCmdAddRate : -(2 ^ 63) ≤ (-1000000 : Int) ∧ (-1000000 : Int) < 2 ^ 63 ∧ (svcSet [(D.Time.MODE, 0, 1), (D.Time.RATE, 0, 2 ^ 64 - 1000)] : State).dev.grants (ask 2 : Rcp) 0x0600 0x08 ⟨9, 3 * 2 ^ 64 + ofInt 64 (-1000000 : Int)⟩ = true ∧ (svcSet [(D.Time.MODE, 0, 1), (D.Time.RATE, 0, 2 ^ 64 - 1000)] : State).dev.rd D.Time.MODE 0 = 1 ∧ (svcSet [(D.Time.MODE, 0, 1), (D.Time.RATE, 0, 2 ^ 64 - 1000)] : State).dev.time.change = none ∧ (svcSet [(D.Time.MODE, 0, 1), (D.Time.RATE, 0, 2 ^ 64 - 1000)] : State).dev.rateOk ((svcSet [(D.Time.MODE, 0, 1), (D.Time.RATE, 0, 2 ^ 64 - 1000)] : State).dev.rdI D.Time.RATE 0 + (-1000000 : Int)) = true := by decide

theorem wit_ServoCompletes_servoSample : (svcWith (fun d => { set [(D.Ptp.PTP_ENABLE, 0, 1), (D.Ens.MEMBER, 0, 0xFF)] d with time := { samples := [(0, -5), (0, 6)] } }) : State).dev.inReset = false ∧ (svcWith (fun d => { set [(D.Ptp.PTP_ENABLE, 0, 1), (D.Ens.MEMBER, 0, 0xFF)] d with time := { samples := [(0, -5), (0, 6)] } }) : State).dev.time.samples = ((0 : Nat), (-5 : Int)) :: ([(0, 6)] : List (Nat × Int)) ∧ (0 : Nat) = (svcWith (fun d => { set [(D.Ptp.PTP_ENABLE, 0, 1), (D.Ens.MEMBER, 0, 0xFF)] d with time := { samples := [(0, -5), (0, 6)] } }) : State).dev.timeSource ∧ (svcWith (fun d => { set [(D.Ptp.PTP_ENABLE, 0, 1), (D.Ens.MEMBER, 0, 0xFF)] d with time := { samples := [(0, -5), (0, 6)] } }) : State).dev.sec.restarting ≠ some 4 ∧ (svcWith (fun d => { set [(D.Ptp.PTP_ENABLE, 0, 1), (D.Ens.MEMBER, 0, 0xFF)] d with time := { samples := [(0, -5), (0, 6)] } }) : State).dev.rd D.Time.MODE 0 ≠ 1 ∧ (svcWith (fun d => { set [(D.Ptp.PTP_ENABLE, 0, 1), (D.Ens.MEMBER, 0, 0xFF)] d with time := { samples := [(0, -5), (0, 6)] } }) : State).dev.servo = ServoState.FREE_RUN := by decide

theorem wit_ServoCompletes_servoSampleTimeout : (svcSet [(D.Time.SERVO_STATE, 0, 2)] : State).dev.inReset = false ∧ ((svcSet [(D.Time.SERVO_STATE, 0, 2)] : State).dev.elapse (2000000000 : Nat)).past (svcSet [(D.Time.SERVO_STATE, 0, 2)] : State).dev.time.sampleAt 2000000000 = true ∧ (svcSet [(D.Time.SERVO_STATE, 0, 2)] : State).dev.servo = ServoState.LOCKED := by decide

theorem wit_ServoCompletes_servoHoldoverExpiry : (svcSet [(D.Time.SERVO_STATE, 0, 3), (D.RefArea.TIME_HOLDOVER_MAX_S, 0, 1)] : State).dev.inReset = false ∧ (svcSet [(D.Time.SERVO_STATE, 0, 3), (D.RefArea.TIME_HOLDOVER_MAX_S, 0, 1)] : State).dev.servo = ServoState.HOLDOVER ∧ ((svcSet [(D.Time.SERVO_STATE, 0, 3), (D.RefArea.TIME_HOLDOVER_MAX_S, 0, 1)] : State).dev.elapse (1000000000 : Nat)).past (svcSet [(D.Time.SERVO_STATE, 0, 3), (D.RefArea.TIME_HOLDOVER_MAX_S, 0, 1)] : State).dev.time.holdAt ((svcSet [(D.Time.SERVO_STATE, 0, 3), (D.RefArea.TIME_HOLDOVER_MAX_S, 0, 1)] : State).dev.rd D.RefArea.TIME_HOLDOVER_MAX_S 0 * 1000000000) = true := by decide

theorem wit_ServoCompletes_timeOutputEdge : (svcSet [(D.PulseCfg.ENABLE, 1, 1), (D.PulseCfg.START, 1, 1000), (D.PulseCfg.PERIOD_NUM, 1, 100), (D.PulseCfg.PERIOD_DEN, 1, 3), (D.PulseCfg.WIDTH_NS, 1, 10), (D.PulseCfg.POLARITY, 1, 1)] : State).dev.serving = true ∧ (2 : Nat) < 3 ∧ (nget (svcSet [(D.PulseCfg.ENABLE, 1, 1), (D.PulseCfg.START, 1, 1000), (D.PulseCfg.PERIOD_NUM, 1, 100), (D.PulseCfg.PERIOD_DEN, 1, 3), (D.PulseCfg.WIDTH_NS, 1, 10), (D.PulseCfg.POLARITY, 1, 1)] : State).dev.time.outs {} (2 : Nat)).high = none ∧ ((svcSet [(D.PulseCfg.ENABLE, 1, 1), (D.PulseCfg.START, 1, 1000), (D.PulseCfg.PERIOD_NUM, 1, 100), (D.PulseCfg.PERIOD_DEN, 1, 3), (D.PulseCfg.WIDTH_NS, 1, 10), (D.PulseCfg.POLARITY, 1, 1)] : State).dev.elapse (1133 : Nat)).lastEdge (2 : Nat) = some (1133 : Nat) ∧ (nget (svcSet [(D.PulseCfg.ENABLE, 1, 1), (D.PulseCfg.START, 1, 1000), (D.PulseCfg.PERIOD_NUM, 1, 100), (D.PulseCfg.PERIOD_DEN, 1, 3), (D.PulseCfg.WIDTH_NS, 1, 10), (D.PulseCfg.POLARITY, 1, 1)] : State).dev.time.outs {} (2 : Nat)).seen < (1133 : Nat) ∧ (nget (svcSet [(D.PulseCfg.ENABLE, 1, 1), (D.PulseCfg.START, 1, 1000), (D.PulseCfg.PERIOD_NUM, 1, 100), (D.PulseCfg.PERIOD_DEN, 1, 3), (D.PulseCfg.WIDTH_NS, 1, 10), (D.PulseCfg.POLARITY, 1, 1)] : State).dev.time.outs {} (2 : Nat)).from_ ≤ (1133 : Nat) ∧ (svcSet [(D.PulseCfg.ENABLE, 1, 1), (D.PulseCfg.START, 1, 1000), (D.PulseCfg.PERIOD_NUM, 1, 100), (D.PulseCfg.PERIOD_DEN, 1, 3), (D.PulseCfg.WIDTH_NS, 1, 10), (D.PulseCfg.POLARITY, 1, 1)] : State).dev.pulseOn (2 : Nat) = true ∧ (svcSet [(D.PulseCfg.ENABLE, 1, 1), (D.PulseCfg.START, 1, 1000), (D.PulseCfg.PERIOD_NUM, 1, 100), (D.PulseCfg.PERIOD_DEN, 1, 3), (D.PulseCfg.WIDTH_NS, 1, 10), (D.PulseCfg.POLARITY, 1, 1)] : State).dev.squelched (2 : Nat) = false := by decide

theorem wit_PtpCompletes_ptpAnnounceRx : (svcSet [(D.Ptp.PTP_ENABLE, 0, 1), (D.Ptp.IF_A, 0, 9), (D.Ptp.DOMAIN, 0, 127)] : State).dev.serving = true ∧ (svcSet [(D.Ptp.PTP_ENABLE, 0, 1), (D.Ptp.IF_A, 0, 9), (D.Ptp.DOMAIN, 0, 127)] : State).dev.ptpOn (9 : Nat) = true ∧ (announce : Announce).domain = (svcSet [(D.Ptp.PTP_ENABLE, 0, 1), (D.Ptp.IF_A, 0, 9), (D.Ptp.DOMAIN, 0, 127)] : State).dev.rd D.Ptp.DOMAIN 0 := by decide

theorem wit_PtpCompletes_ptpLeaderLost : (svcWith (fun d => { d with time := { leaders := [⟨9, announce, [0], true⟩] } }) : State).dev.serving = true ∧ (svcWith (fun d => { d with time := { leaders := [⟨9, announce, [0], true⟩] } }) : State).dev.time.leaders.find? (fun (x0 : Leader) => x0.iface == (9 : Nat) && x0.ann.sender == (5 : Nat) && x0.ann.senderPort == (1 : Nat)) = some (⟨9, announce, [0], true⟩ : Leader) ∧ ((svcWith (fun d => { d with time := { leaders := [⟨9, announce, [0], true⟩] } }) : State).dev.elapse (60000000000 : Nat)).past ((⟨9, announce, [0], true⟩ : Leader).times.foldl max 0) ((svcWith (fun d => { d with time := { leaders := [⟨9, announce, [0], true⟩] } }) : State).dev.rd D.Ptp.ANNOUNCE_TIMEOUT 0 * annNs (⟨9, announce, [0], true⟩ : Leader).ann.logInterval) = true := by decide

theorem wit_PtpCompletes_ptpDelayReqTx : (svcWith (fun d => { set [(D.Ptp.PTP_ENABLE, 0, 1), (D.PortStatus.LINK, 31, 2)] d with time := { leader := some (255, 5, 1), reqSeq := 65535 } }) : State).dev.serving = true ∧ (svcWith (fun d => { set [(D.Ptp.PTP_ENABLE, 0, 1), (D.PortStatus.LINK, 31, 2)] d with time := { leader := some (255, 5, 1), reqSeq := 65535 } }) : State).dev.on D.Ptp.PTP_ENABLE 0 = true ∧ (svcWith (fun d => { set [(D.Ptp.PTP_ENABLE, 0, 1), (D.PortStatus.LINK, 31, 2)] d with time := { leader := some (255, 5, 1), reqSeq := 65535 } }) : State).dev.time.leader = some ((255 : Nat), (5 : Nat), (1 : Nat)) ∧ (svcWith (fun d => { set [(D.Ptp.PTP_ENABLE, 0, 1), (D.PortStatus.LINK, 31, 2)] d with time := { leader := some (255, 5, 1), reqSeq := 65535 } }) : State).dev.portUp ((255 : Nat) / 8) = true := by decide

theorem wit_PtpCompletes_ptpEventRx : (svcWith (fun d => { set [(D.Ptp.PTP_ENABLE, 0, 1), (D.Ptp.IF_B, 0, 254), (D.Ptp.DOMAIN, 0, 127)] d with time := { leader := some (254, 5, 1) } }) : State).dev.serving = true ∧ (254 : Nat) < 256 ∧ (svcWith (fun d => { set [(D.Ptp.PTP_ENABLE, 0, 1), (D.Ptp.IF_B, 0, 254), (D.Ptp.DOMAIN, 0, 127)] d with time := { leader := some (254, 5, 1) } }) : State).dev.ptpOn (254 : Nat) = true ∧ (⟨0, 127, 5, 1, 7, false, -3, 1000, false⟩ : PtpMsg).domain = (svcWith (fun d => { set [(D.Ptp.PTP_ENABLE, 0, 1), (D.Ptp.IF_B, 0, 254), (D.Ptp.DOMAIN, 0, 127)] d with time := { leader := some (254, 5, 1) } }) : State).dev.rd D.Ptp.DOMAIN 0 ∧ (svcWith (fun d => { set [(D.Ptp.PTP_ENABLE, 0, 1), (D.Ptp.IF_B, 0, 254), (D.Ptp.DOMAIN, 0, 127)] d with time := { leader := some (254, 5, 1) } }) : State).dev.time.leader = some ((254 : Nat), (⟨0, 127, 5, 1, 7, false, -3, 1000, false⟩ : PtpMsg).sender, (⟨0, 127, 5, 1, 7, false, -3, 1000, false⟩ : PtpMsg).senderPort) ∧ (⟨0, 127, 5, 1, 7, false, -3, 1000, false⟩ : PtpMsg).kind = 0 ∧ (⟨0, 127, 5, 1, 7, false, -3, 1000, false⟩ : PtpMsg).twoStep = false := by decide

theorem wit_PtpCompletes_tcRelay : (svcSet [(D.Tc.TC_ENABLE, 0, 1), (D.Tc.TC_PORTS, 0, 2 ^ 255 + 1), (D.Tc.TC_DOMAIN, 0, 3), (D.IfCfg.ENABLE, 0, 1), (D.PortStatus.LINK, 0, 2)] : State).dev.serving = true ∧ (svcSet [(D.Tc.TC_ENABLE, 0, 1), (D.Tc.TC_PORTS, 0, 2 ^ 255 + 1), (D.Tc.TC_DOMAIN, 0, 3), (D.IfCfg.ENABLE, 0, 1), (D.PortStatus.LINK, 0, 2)] : State).dev.on D.Tc.TC_ENABLE 0 = true ∧ (svcSet [(D.Tc.TC_ENABLE, 0, 1), (D.Tc.TC_PORTS, 0, 2 ^ 255 + 1), (D.Tc.TC_DOMAIN, 0, 3), (D.IfCfg.ENABLE, 0, 1), (D.PortStatus.LINK, 0, 2)] : State).dev.tcIface (255 : Nat) = true ∧ (3 : Nat) = (svcSet [(D.Tc.TC_ENABLE, 0, 1), (D.Tc.TC_PORTS, 0, 2 ^ 255 + 1), (D.Tc.TC_DOMAIN, 0, 3), (D.IfCfg.ENABLE, 0, 1), (D.PortStatus.LINK, 0, 2)] : State).dev.rd D.Tc.TC_DOMAIN 0 ∧ (⟨1, 2, 319, 319, true, ⟨0, 0⟩⟩ : TcMsg).sumOk = true ∧ (tcTreats (0 : Nat) ((svcSet [(D.Tc.TC_ENABLE, 0, 1), (D.Tc.TC_PORTS, 0, 2 ^ 255 + 1), (D.Tc.TC_DOMAIN, 0, 3), (D.IfCfg.ENABLE, 0, 1), (D.PortStatus.LINK, 0, 2)] : State).dev.rd D.Tc.TC_MECH 0)).isSome = true ∧ 0 ≤ sdiff ((svcSet [(D.Tc.TC_ENABLE, 0, 1), (D.Tc.TC_PORTS, 0, 2 ^ 255 + 1), (D.Tc.TC_DOMAIN, 0, 3), (D.IfCfg.ENABLE, 0, 1), (D.PortStatus.LINK, 0, 2)] : State).dev.elapse (10000 : Nat)).now (0 : Nat) 64 ∧ sdiff ((svcSet [(D.Tc.TC_ENABLE, 0, 1), (D.Tc.TC_PORTS, 0, 2 ^ 255 + 1), (D.Tc.TC_DOMAIN, 0, 3), (D.IfCfg.ENABLE, 0, 1), (D.PortStatus.LINK, 0, 2)] : State).dev.elapse (10000 : Nat)).now (0 : Nat) 64 ≤ 10000 ∧ (0 : Nat) ≠ (255 : Nat) ∧ (svcSet [(D.Tc.TC_ENABLE, 0, 1), (D.Tc.TC_PORTS, 0, 2 ^ 255 + 1), (D.Tc.TC_DOMAIN, 0, 3), (D.IfCfg.ENABLE, 0, 1), (D.PortStatus.LINK, 0, 2)] : State).dev.tcIface (0 : Nat) = true ∧ (svcSet [(D.Tc.TC_ENABLE, 0, 1), (D.Tc.TC_PORTS, 0, 2 ^ 255 + 1), (D.Tc.TC_DOMAIN, 0, 3), (D.IfCfg.ENABLE, 0, 1), (D.PortStatus.LINK, 0, 2)] : State).dev.ifVlan ((0 : Nat) / 8) ((0 : Nat) % 8) = some (0 : Nat) ∧ (svcSet [(D.Tc.TC_ENABLE, 0, 1), (D.Tc.TC_PORTS, 0, 2 ^ 255 + 1), (D.Tc.TC_DOMAIN, 0, 3), (D.IfCfg.ENABLE, 0, 1), (D.PortStatus.LINK, 0, 2)] : State).dev.portUp ((0 : Nat) / 8) = true := by decide

theorem wit_PtpCompletes_leapSecond : (svcWith (fun d => { set [(D.PtpStatus.LEAP61, 0, 1)] d with raw := 200000000000000, time := { leapDay := some 0, utc := some 37 } }) : State).dev.serving = true ∧ (svcWith (fun d => { set [(D.PtpStatus.LEAP61, 0, 1)] d with raw := 200000000000000, time := { leapDay := some 0, utc := some 37 } }) : State).dev.time.leapDay = some (0 : Nat) ∧ (svcWith (fun d => { set [(D.PtpStatus.LEAP61, 0, 1)] d with raw := 200000000000000, time := { leapDay := some 0, utc := some 37 } }) : State).dev.on D.PtpStatus.LEAP61 0 = true ∧ (0 : Nat) < (((svcWith (fun d => { set [(D.PtpStatus.LEAP61, 0, 1)] d with raw := 200000000000000, time := { leapDay := some 0, utc := some 37 } }) : State).dev.elapse (5 : Nat)).now / 1000000000 - (svcWith (fun d => { set [(D.PtpStatus.LEAP61, 0, 1)] d with raw := 200000000000000, time := { leapDay := some 0, utc := some 37 } }) : State).dev.utcOffset) / 86400 := by decide

theorem wit_ReferencesComplete_refPhaseEvent : (131 : Nat) < 132 ∧ (svcSet [(D.RefCfg.ENABLE, 131, 1), (D.RefStatus.STATE, 131, 1), (D.SdiRxStatus.LOCKED, 127, 1)] : State).dev.refOn (131 : Nat) = true ∧ (svcSet [(D.RefCfg.ENABLE, 131, 1), (D.RefStatus.STATE, 131, 1), (D.SdiRxStatus.LOCKED, 127, 1)] : State).dev.inReset = false ∧ ((131 : Nat) < 4 ∨ (svcSet [(D.RefCfg.ENABLE, 131, 1), (D.RefStatus.STATE, 131, 1), (D.SdiRxStatus.LOCKED, 127, 1)] : State).dev.on D.SdiRxStatus.LOCKED ((131 : Nat) - 4) = true) := by decide

theorem wit_ReferencesComplete_refStop : (3 : Nat) < 132 ∧ (svcWith (fun d => (set [(D.RefCfg.ENABLE, 3, 1), (D.RefCfg.TYPE, 3, 4), (D.RefStatus.STATE, 3, 3), (D.RefStatus.ACTIVE, 3, 1)] d).setRef 3 (fun x => { x with last := some 0 })) : State).dev.refOn (3 : Nat) = true ∧ (svcWith (fun d => (set [(D.RefCfg.ENABLE, 3, 1), (D.RefCfg.TYPE, 3, 4), (D.RefStatus.STATE, 3, 3), (D.RefStatus.ACTIVE, 3, 1)] d).setRef 3 (fun x => { x with last := some 0 })) : State).dev.inReset = false ∧ ((svcWith (fun d => (set [(D.RefCfg.ENABLE, 3, 1), (D.RefCfg.TYPE, 3, 4), (D.RefStatus.STATE, 3, 3), (D.RefStatus.ACTIVE, 3, 1)] d).setRef 3 (fun x => { x with last := some 0 })) : State).dev.elapse (3000000000 : Nat)).refStopped (3 : Nat) = true ∧ (svcWith (fun d => (set [(D.RefCfg.ENABLE, 3, 1), (D.RefCfg.TYPE, 3, 4), (D.RefStatus.STATE, 3, 3), (D.RefStatus.ACTIVE, 3, 1)] d).setRef 3 (fun x => { x with last := some 0 })) : State).dev.refState (3 : Nat) = RefState.QUALIFIED := by decide

theorem wit_ReferencesComplete_refFreqUpdate : (0 : Nat) < 132 ∧ (svcSet [(D.RefCfg.ENABLE, 0, 1), (D.RefCfg.TYPE, 0, 3), (D.RefStatus.STATE, 0, 3)] : State).dev.refOn (0 : Nat) = true ∧ (svcSet [(D.RefCfg.ENABLE, 0, 1), (D.RefCfg.TYPE, 0, 3), (D.RefStatus.STATE, 0, 3)] : State).dev.inReset = false := by decide

theorem wit_ReferencesComplete_refHoldoffElapsed : (132 : Nat) < 133 ∧ (svcSet [(D.RefCfg.ENABLE, 132, 1), (D.RefStatus.STATE, 132, 2), (D.RefCfg.HOLDOFF_S, 132, 1)] : State).dev.refOn (132 : Nat) = true ∧ (svcSet [(D.RefCfg.ENABLE, 132, 1), (D.RefStatus.STATE, 132, 2), (D.RefCfg.HOLDOFF_S, 132, 1)] : State).dev.inReset = false ∧ (svcSet [(D.RefCfg.ENABLE, 132, 1), (D.RefStatus.STATE, 132, 2), (D.RefCfg.HOLDOFF_S, 132, 1)] : State).dev.refState (132 : Nat) = RefState.HOLDING_OFF ∧ ((svcSet [(D.RefCfg.ENABLE, 132, 1), (D.RefStatus.STATE, 132, 2), (D.RefCfg.HOLDOFF_S, 132, 1)] : State).dev.elapse (1000000000 : Nat)).past ((svcSet [(D.RefCfg.ENABLE, 132, 1), (D.RefStatus.STATE, 132, 2), (D.RefCfg.HOLDOFF_S, 132, 1)] : State).dev.refSt (132 : Nat)).holdAt ((svcSet [(D.RefCfg.ENABLE, 132, 1), (D.RefStatus.STATE, 132, 2), (D.RefCfg.HOLDOFF_S, 132, 1)] : State).dev.rd D.RefCfg.HOLDOFF_S (132 : Nat) * 1000000000) = true ∧ (svcSet [(D.RefCfg.ENABLE, 132, 1), (D.RefStatus.STATE, 132, 2), (D.RefCfg.HOLDOFF_S, 132, 1)] : State).dev.on D.RefStatus.HARD (132 : Nat) = false ∧ (4 ≤ (132 : Nat) ∨ (svcSet [(D.RefCfg.ENABLE, 132, 1), (D.RefStatus.STATE, 132, 2), (D.RefCfg.HOLDOFF_S, 132, 1)] : State).dev.rd D.RefCfg.TYPE (132 : Nat) ≠ 1) := by decide

theorem wit_DpllsComplete_dpllLocked : (7 : Nat) < 8 ∧ (svcWith (fun d => (set [(D.DpllStatus.STATE, 7, 2), (D.DpllStatus.CURRENT, 7, 0), (D.RefStatus.STATE, 0, 3), (D.RefCfg.TYPE, 0, 3), (D.DpllCfg.REVERTIVE, 7, 0)] d).setRef 0 (fun x => { x with count := 16 })) : State).dev.inReset = false ∧ (svcWith (fun d => (set [(D.DpllStatus.STATE, 7, 2), (D.DpllStatus.CURRENT, 7, 0), (D.RefStatus.STATE, 0, 3), (D.RefCfg.TYPE, 0, 3), (D.DpllCfg.REVERTIVE, 7, 0)] d).setRef 0 (fun x => { x with count := 16 })) : State).dev.dpllState (7 : Nat) = DpllState.LOCKING ∧ (100 : Nat) ≤ 100 ∧ ((svcWith (fun d => (set [(D.DpllStatus.STATE, 7, 2), (D.DpllStatus.CURRENT, 7, 0), (D.RefStatus.STATE, 0, 3), (D.RefCfg.TYPE, 0, 3), (D.DpllCfg.REVERTIVE, 7, 0)] d).setRef 0 (fun x => { x with count := 16 })) : State).dev.elapse (1000000000 : Nat)).past ((svcWith (fun d => (set [(D.DpllStatus.STATE, 7, 2), (D.DpllStatus.CURRENT, 7, 0), (D.RefStatus.STATE, 0, 3), (D.RefCfg.TYPE, 0, 3), (D.DpllCfg.REVERTIVE, 7, 0)] d).setRef 0 (fun x => { x with count := 16 })) : State).dev.dpllSt (7 : Nat)).since 1000000000 = true ∧ 16 ≤ ((svcWith (fun d => (set [(D.DpllStatus.STATE, 7, 2), (D.DpllStatus.CURRENT, 7, 0), (D.RefStatus.STATE, 0, 3), (D.RefCfg.TYPE, 0, 3), (D.DpllCfg.REVERTIVE, 7, 0)] d).setRef 0 (fun x => { x with count := 16 })) : State).dev.elapse (1000000000 : Nat)).eventsSince (7 : Nat) ((svcWith (fun d => (set [(D.DpllStatus.STATE, 7, 2), (D.DpllStatus.CURRENT, 7, 0), (D.RefStatus.STATE, 0, 3), (D.RefCfg.TYPE, 0, 3), (D.DpllCfg.REVERTIVE, 7, 0)] d).setRef 0 (fun x => { x with count := 16 })) : State).dev.rd D.DpllStatus.CURRENT (7 : Nat)) ∧ (svcWith (fun d => (set [(D.DpllStatus.STATE, 7, 2), (D.DpllStatus.CURRENT, 7, 0), (D.RefStatus.STATE, 0, 3), (D.RefCfg.TYPE, 0, 3), (D.DpllCfg.REVERTIVE, 7, 0)] d).setRef 0 (fun x => { x with count := 16 })) : State).dev.on D.DpllStatus.FROZEN (7 : Nat) = false ∧ (svcWith (fun d => (set [(D.DpllStatus.STATE, 7, 2), (D.DpllStatus.CURRENT, 7, 0), (D.RefStatus.STATE, 0, 3), (D.RefCfg.TYPE, 0, 3), (D.DpllCfg.REVERTIVE, 7, 0)] d).setRef 0 (fun x => { x with count := 16 })) : State).dev.eligible (7 : Nat) ((svcWith (fun d => (set [(D.DpllStatus.STATE, 7, 2), (D.DpllStatus.CURRENT, 7, 0), (D.RefStatus.STATE, 0, 3), (D.RefCfg.TYPE, 0, 3), (D.DpllCfg.REVERTIVE, 7, 0)] d).setRef 0 (fun x => { x with count := 16 })) : State).dev.rd D.DpllStatus.CURRENT (7 : Nat)) = true ∧ (svcWith (fun d => (set [(D.DpllStatus.STATE, 7, 2), (D.DpllStatus.CURRENT, 7, 0), (D.RefStatus.STATE, 0, 3), (D.RefCfg.TYPE, 0, 3), (D.DpllCfg.REVERTIVE, 7, 0)] d).setRef 0 (fun x => { x with count := 16 })) : State).dev.rd D.RefArea.MODE 0 = 0 ∧ (svcWith (fun d => (set [(D.DpllStatus.STATE, 7, 2), (D.DpllStatus.CURRENT, 7, 0), (D.RefStatus.STATE, 0, 3), (D.RefCfg.TYPE, 0, 3), (D.DpllCfg.REVERTIVE, 7, 0)] d).setRef 0 (fun x => { x with count := 16 })) : State).dev.on D.DpllCfg.REVERTIVE (7 : Nat) = false := by decide

theorem wit_DpllsComplete_dpllSwitchMeasured : (7 : Nat) < 8 ∧ (svcWith (fun d => (set [(D.DpllStatus.STATE, 7, 4), (D.DpllStatus.PENDING, 7, 0), (D.RefStatus.STATE, 0, 3), (D.RefCfg.TYPE, 0, 3)] d).setRef 0 (fun x => { x with count := 4 })) : State).dev.inReset = false ∧ (svcWith (fun d => (set [(D.DpllStatus.STATE, 7, 4), (D.DpllStatus.PENDING, 7, 0), (D.RefStatus.STATE, 0, 3), (D.RefCfg.TYPE, 0, 3)] d).setRef 0 (fun x => { x with count := 4 })) : State).dev.dpllState (7 : Nat) = DpllState.SWITCHING ∧ ((svcWith (fun d => (set [(D.DpllStatus.STATE, 7, 4), (D.DpllStatus.PENDING, 7, 0), (D.RefStatus.STATE, 0, 3), (D.RefCfg.TYPE, 0, 3)] d).setRef 0 (fun x => { x with count := 4 })) : State).dev.elapse (1000000 : Nat)).past ((svcWith (fun d => (set [(D.DpllStatus.STATE, 7, 4), (D.DpllStatus.PENDING, 7, 0), (D.RefStatus.STATE, 0, 3), (D.RefCfg.TYPE, 0, 3)] d).setRef 0 (fun x => { x with count := 4 })) : State).dev.dpllSt (7 : Nat)).since 1000000 = true ∧ 4 ≤ ((svcWith (fun d => (set [(D.DpllStatus.STATE, 7, 4), (D.DpllStatus.PENDING, 7, 0), (D.RefStatus.STATE, 0, 3), (D.RefCfg.TYPE, 0, 3)] d).setRef 0 (fun x => { x with count := 4 })) : State).dev.elapse (1000000 : Nat)).eventsSince (7 : Nat) ((svcWith (fun d => (set [(D.DpllStatus.STATE, 7, 4), (D.DpllStatus.PENDING, 7, 0), (D.RefStatus.STATE, 0, 3), (D.RefCfg.TYPE, 0, 3)] d).setRef 0 (fun x => { x with count := 4 })) : State).dev.rd D.DpllStatus.PENDING (7 : Nat)) ∧ (svcWith (fun d => (set [(D.DpllStatus.STATE, 7, 4), (D.DpllStatus.PENDING, 7, 0), (D.RefStatus.STATE, 0, 3), (D.RefCfg.TYPE, 0, 3)] d).setRef 0 (fun x => { x with count := 4 })) : State).dev.eligible (7 : Nat) ((svcWith (fun d => (set [(D.DpllStatus.STATE, 7, 4), (D.DpllStatus.PENDING, 7, 0), (D.RefStatus.STATE, 0, 3), (D.RefCfg.TYPE, 0, 3)] d).setRef 0 (fun x => { x with count := 4 })) : State).dev.rd D.DpllStatus.PENDING (7 : Nat)) = true := by decide

theorem wit_DpllsComplete_dpllHoldoverExpiry : (0 : Nat) < 8 ∧ (svcSet [(D.DpllStatus.STATE, 0, 5), (D.DpllCfg.HOLDOVER_MAX_S, 0, 1)] : State).dev.inReset = false ∧ (svcSet [(D.DpllStatus.STATE, 0, 5), (D.DpllCfg.HOLDOVER_MAX_S, 0, 1)] : State).dev.dpllState (0 : Nat) = DpllState.HOLDOVER ∧ ((svcSet [(D.DpllStatus.STATE, 0, 5), (D.DpllCfg.HOLDOVER_MAX_S, 0, 1)] : State).dev.elapse (1000000000 : Nat)).past ((svcSet [(D.DpllStatus.STATE, 0, 5), (D.DpllCfg.HOLDOVER_MAX_S, 0, 1)] : State).dev.dpllSt (0 : Nat)).since ((svcSet [(D.DpllStatus.STATE, 0, 5), (D.DpllCfg.HOLDOVER_MAX_S, 0, 1)] : State).dev.rd D.DpllCfg.HOLDOVER_MAX_S (0 : Nat) * 1000000000) = true := by decide

theorem wit_DpllsComplete_dpllCmdPhaseStep : (7 : Nat) < 8 ∧ (-1000000000 : Int).natAbs ≤ 1000000000 ∧ (svcSet [(D.DpllStatus.STATE, 7, 3)] : State).dev.grants (ask 2 : Rcp) 0x0700 0x0D ⟨8, 2 ^ 56 + (7 : Nat) * 2 ^ 48 + ofInt 32 (-1000000000 : Int)⟩ = true ∧ (svcSet [(D.DpllStatus.STATE, 7, 3)] : State).dev.dpllState (7 : Nat) ≠ DpllState.DISABLED ∧ (svcSet [(D.DpllStatus.STATE, 7, 3)] : State).dev.dpllState (7 : Nat) ≠ DpllState.SWITCHING ∧ (svcSet [(D.DpllStatus.STATE, 7, 3)] : State).dev.on D.DpllStatus.PHASE_MOVING (7 : Nat) = false := by decide

theorem wit_DpllsComplete_dpllCmdClearBuildout : (7 : Nat) < 8 ∧ (svcSet [(D.DpllStatus.STATE, 7, 3), (D.DpllStatus.BUILDOUT_NS, 7, 2 ^ 32 - 5)] : State).dev.grants (ask 2 : Rcp) 0x0700 0x0D ⟨8, 2 ^ 57 + (7 : Nat) * 2 ^ 48⟩ = true ∧ (svcSet [(D.DpllStatus.STATE, 7, 3), (D.DpllStatus.BUILDOUT_NS, 7, 2 ^ 32 - 5)] : State).dev.dpllState (7 : Nat) ≠ DpllState.DISABLED ∧ (svcSet [(D.DpllStatus.STATE, 7, 3), (D.DpllStatus.BUILDOUT_NS, 7, 2 ^ 32 - 5)] : State).dev.dpllState (7 : Nat) ≠ DpllState.SWITCHING ∧ (svcSet [(D.DpllStatus.STATE, 7, 3), (D.DpllStatus.BUILDOUT_NS, 7, 2 ^ 32 - 5)] : State).dev.on D.DpllStatus.PHASE_MOVING (7 : Nat) = false := by decide

theorem wit_DpllsComplete_dpllPhaseMoveDone : (7 : Nat) < 8 ∧ (svcWith (fun d => (set [(D.DpllStatus.STATE, 7, 3), (D.DpllStatus.PHASE_MOVING, 7, 1), (D.DpllCfg.PHASE_SLEW_NS_S, 7, 1000)] d).setDpll 7 (fun x => { x with move := some (1, -1000, 0) })) : State).dev.inReset = false ∧ ((svcWith (fun d => (set [(D.DpllStatus.STATE, 7, 3), (D.DpllStatus.PHASE_MOVING, 7, 1), (D.DpllCfg.PHASE_SLEW_NS_S, 7, 1000)] d).setDpll 7 (fun x => { x with move := some (1, -1000, 0) })) : State).dev.dpllSt (7 : Nat)).move = some (1, (-1000 : Int), (0 : Nat)) ∧ ((svcWith (fun d => (set [(D.DpllStatus.STATE, 7, 3), (D.DpllStatus.PHASE_MOVING, 7, 1), (D.DpllCfg.PHASE_SLEW_NS_S, 7, 1000)] d).setDpll 7 (fun x => { x with move := some (1, -1000, 0) })) : State).dev.elapse (1000000000 : Nat)).moved (7 : Nat) = (-1000 : Int) := by decide

theorem wit_RcpReadsAndWritesComplete_read : (svc : State).dev.takes (ask 1 : Rcp) = true ∧ (svc : State).dev.session? (ask 1 : Rcp).session = some (owner : Session) ∧ Dict.row (0x0100 : Nat) (3 : Nat) = some (⟨0x0100, 1, 0x03, 3, 2, 0, 4, true, 3, 60, { parts := [⟨0, 16, [(10, 3600)]⟩] }⟩ : Dict.Row) ∧ readFail ((svc : State).dev.asker (ask 1 : Rcp)).role (⟨0x0100, 1, 0x03, 3, 2, 0, 4, true, 3, 60, { parts := [⟨0, 16, [(10, 3600)]⟩] }⟩ : Dict.Row) = none ∧ (⟨0x0100, 1, 0x03, 3, 2, 0, 4, true, 3, 60, { parts := [⟨0, 16, [(10, 3600)]⟩] }⟩ : Dict.Row).ty ≠ 13 ∧ (⟨0x0100, 1, 0x03, 3, 2, 0, 4, true, 3, 60, { parts := [⟨0, 16, [(10, 3600)]⟩] }⟩ : Dict.Row).size ≤ 1100 ∧ (⟨0x0100, 1, 0x03, 3, 2, 0, 4, true, 3, 60, { parts := [⟨0, 16, [(10, 3600)]⟩] }⟩ : Dict.Row).acc ≠ 3 := by decide

theorem wit_RcpReadsAndWritesComplete_read_2 : (svcSet [(D.Plane.MISMATCHES, 1, 9)] : State).dev.takes (ask 1 : Rcp) = true ∧ Dict.row (0x0D11 : Nat) (4 : Nat) = some (⟨0x0D10, 2, 0x04, 4, 4, 0, 3, false, 0, 0, {}⟩ : Dict.Row) ∧ readFail ((svcSet [(D.Plane.MISMATCHES, 1, 9)] : State).dev.asker (ask 1 : Rcp)).role (⟨0x0D10, 2, 0x04, 4, 4, 0, 3, false, 0, 0, {}⟩ : Dict.Row) = none ∧ (⟨0x0D10, 2, 0x04, 4, 4, 0, 3, false, 0, 0, {}⟩ : Dict.Row).ty ≠ 13 ∧ (⟨0x0D10, 2, 0x04, 4, 4, 0, 3, false, 0, 0, {}⟩ : Dict.Row).size ≤ 1100 ∧ (⟨0x0D10, 2, 0x04, 4, 4, 0, 3, false, 0, 0, {}⟩ : Dict.Row).acc = 3 ∧ (0x0D11 : Nat) ≠ 0x0110 := by decide

theorem wit_RcpReadsAndWritesComplete_write : (svc : State).dev.grants (ask 2 : Rcp) (0x0100 : Nat) (3 : Nat) (⟨2, 60⟩ : Bytes) = true ∧ (⟨2, 60⟩ : Bytes).val < 256 ^ (⟨2, 60⟩ : Bytes).len ∧ Dict.row (0x0100 : Nat) (3 : Nat) = some (⟨0x0100, 1, 0x03, 3, 2, 0, 4, true, 3, 60, { parts := [⟨0, 16, [(10, 3600)]⟩] }⟩ : Dict.Row) ∧ (⟨0x0100, 1, 0x03, 3, 2, 0, 4, true, 3, 60, { parts := [⟨0, 16, [(10, 3600)]⟩] }⟩ : Dict.Row).acc = 4 ∧ (⟨0x0100, 1, 0x03, 3, 2, 0, 4, true, 3, 60, { parts := [⟨0, 16, [(10, 3600)]⟩] }⟩ : Dict.Row).elem = 0 ∧ ((svc : State).dev.atBody (ask 2 : Rcp)).guard ⟨(0x0100 : Nat), (3 : Nat), 0⟩ (⟨2, 60⟩ : Bytes).val = none ∧ (svc : State).dev.upd ≠ Upd.ACTIVATING ∧ (svc : State).dev.rcp.group = none ∧ storeBytes [(⟨(0x0100 : Nat), (3 : Nat), 0⟩, (⟨2, 60⟩ : Bytes).val)] ≤ 8388608 := by decide

theorem wit_RcpReadsAndWritesComplete_write_2 : (svc : State).dev.grants (ask 2 : Rcp) 0 9 ⟨32, (0x41 * 2 ^ 248 : Nat)⟩ = true ∧ (0x41 * 2 ^ 248 : Nat) < 2 ^ 256 ∧ (svc : State).dev.pwrWarn = false := by decide

theorem wit_RcpReadsAndWritesComplete_readDom : (svc : State).dev.takes (ask 3 : Rcp) = true ∧ Dict.row (0 : Nat) (2 : Nat) = some (⟨0x0000, 1, 0x02, 11, 16, 0, 0, false, 0, 0x5363656E6F6973000000000000000000, {}⟩ : Dict.Row) ∧ readFail ((svc : State).dev.asker (ask 3 : Rcp)).role (⟨0x0000, 1, 0x02, 11, 16, 0, 0, false, 0, 0x5363656E6F6973000000000000000000, {}⟩ : Dict.Row) = none ∧ 11 ≤ (⟨0x0000, 1, 0x02, 11, 16, 0, 0, false, 0, 0x5363656E6F6973000000000000000000, {}⟩ : Dict.Row).ty ∧ (⟨0x0000, 1, 0x02, 11, 16, 0, 0, false, 0, 0x5363656E6F6973000000000000000000, {}⟩ : Dict.Row).acc ≠ 3 ∧ 1 ≤ (1024 : Nat) ∧ (1024 : Nat) ≤ 1024 ∧ (16 : Nat) ≤ ((((svc : State).dev.atBody (ask 3 : Rcp)).setXfer (ask 3 : Rcp).session none false).object (⟨0x0000, 1, 0x02, 11, 16, 0, 0, false, 0, 0x5363656E6F6973000000000000000000, {}⟩ : Dict.Row) (0 : Nat)).len := by decide

theorem wit_RcpReadsAndWritesComplete_writeDom : (svc : State).dev.takes (ask 4 : Rcp) = true ∧ (svc : State).dev.memQ = [] ∧ (svc : State).dev.firstSegment ((svc : State).dev.asker (ask 4 : Rcp)) (0x0E01 : Nat) (1 : Nat) (0 : Nat) (⟨4, 0x00030004⟩ : Bytes).len = none ∧ 1 ≤ (⟨4, 0x00030004⟩ : Bytes).len ∧ (⟨4, 0x00030004⟩ : Bytes).len ≤ 1024 ∧ (⟨4, 0x00030004⟩ : Bytes).val < 256 ^ (⟨4, 0x00030004⟩ : Bytes).len := by decide

theorem wit_RcpReadsAndWritesComplete_writeDom_2 : (svc : State).dev.grantsDom (ask 4 : Rcp) (0x1310 : Nat) (3 : Nat) (23 : Nat) (⟨1, 0x83⟩ : Bytes) = true ∧ (svc : State).dev.memQ = [] ∧ 1 ≤ (⟨1, 0x83⟩ : Bytes).len ∧ (⟨1, 0x83⟩ : Bytes).len ≤ 1024 ∧ (⟨1, 0x83⟩ : Bytes).val < 256 ^ (⟨1, 0x83⟩ : Bytes).len ∧ Dict.row (0x1310 : Nat) (3 : Nat) = some (⟨0x1310, 1, 0x03, 13, 24, 1, 4, true, 3, 0, { mask := some 0x8F, parts := [⟨0, 4, [(0, 9)]⟩] }⟩ : Dict.Row) ∧ (⟨0x1310, 1, 0x03, 13, 24, 1, 4, true, 3, 0, { mask := some 0x8F, parts := [⟨0, 4, [(0, 9)]⟩] }⟩ : Dict.Row).acc = 4 ∧ (⟨0x1310, 1, 0x03, 13, 24, 1, 4, true, 3, 0, { mask := some 0x8F, parts := [⟨0, 4, [(0, 9)]⟩] }⟩ : Dict.Row).elem = (⟨1, 0x83⟩ : Bytes).len ∧ 11 ≤ (⟨0x1310, 1, 0x03, 13, 24, 1, 4, true, 3, 0, { mask := some 0x8F, parts := [⟨0, 4, [(0, 9)]⟩] }⟩ : Dict.Row).ty ∧ ((svc : State).dev.atBody (ask 4 : Rcp)).guard ⟨(0x1310 : Nat), (3 : Nat), (23 : Nat) / (⟨1, 0x83⟩ : Bytes).len⟩ (⟨1, 0x83⟩ : Bytes).val = none ∧ (svc : State).dev.upd ≠ Upd.ACTIVATING ∧ (svc : State).dev.rcp.group = none ∧ storeBytes [(⟨(0x1310 : Nat), (3 : Nat), (23 : Nat) / (⟨1, 0x83⟩ : Bytes).len⟩, (⟨1, 0x83⟩ : Bytes).val)] ≤ 8388608 := by decide

theorem wit_RcpReadsAndWritesComplete_transferTimeout : ((svcWith (fun d => { d with rcp := { d.rcp with sessions := [{ owner with xfer := some ⟨true, 1, 2, 0, 4, 5, 4, 0⟩ }] } }) : State).dev.xfer (1 : Nat)).1 = some (⟨true, 1, 2, 0, 4, 5, 4, 0⟩ : Transfer) ∧ ((svcWith (fun d => { d with rcp := { d.rcp with sessions := [{ owner with xfer := some ⟨true, 1, 2, 0, 4, 5, 4, 0⟩ }] } }) : State).dev.elapse (1000000000 : Nat)).gapped (⟨true, 1, 2, 0, 4, 5, 4, 0⟩ : Transfer) = true := by decide

theorem wit_RcpSessionsComplete_heldRequestDiscard : (svcWith (fun d => { d with rcp := { d.rcp with sessions := [{ owner with held := [(9, .keepalive (ask 10))] }] } }) : State).dev.session? (1 : Nat) = some ({ owner with held := [(9, .keepalive (ask 10))] } : Session) ∧ ({ owner with held := [(9, .keepalive (ask 10))] } : Session).held.isEmpty = false ∧ ({ owner with held := [(9, .keepalive (ask 10))] } : Session).held.any (fun h => sdiff h.1 ({ owner with held := [(9, .keepalive (ask 10))] } : Session).last 32 == 1) = false ∧ ((svcWith (fun d => { d with rcp := { d.rcp with sessions := [{ owner with held := [(9, .keepalive (ask 10))] }] } }) : State).dev.elapse (100000000 : Nat)).past ({ owner with held := [(9, .keepalive (ask 10))] } : Session).heldAt 100000000 = true := by decide

theorem wit_RcpSessionsComplete_commit : (svcWith (fun d => { d with rcp := { d.rcp with group := some ⟨1, [(⟨0x0100, 4, 0⟩, 90)], 0⟩ } }) : State).dev.takes (ask 5 : Rcp) = true ∧ (svcWith (fun d => { d with rcp := { d.rcp with group := some ⟨1, [(⟨0x0100, 4, 0⟩, 90)], 0⟩ } }) : State).dev.rcp.group = some (⟨1, [(⟨0x0100, 4, 0⟩, 90)], 0⟩ : Group) ∧ (⟨1, [(⟨0x0100, 4, 0⟩, 90)], 0⟩ : Group).holder = (ask 5 : Rcp).session ∧ (svcWith (fun d => { d with rcp := { d.rcp with group := some ⟨1, [(⟨0x0100, 4, 0⟩, 90)], 0⟩ } }) : State).dev.upd ≠ Upd.TRIAL ∧ (svcWith (fun d => { d with rcp := { d.rcp with group := some ⟨1, [(⟨0x0100, 4, 0⟩, 90)], 0⟩ } }) : State).dev.pwrWarn = false ∧ (((svcWith (fun d => { d with rcp := { d.rcp with group := some ⟨1, [(⟨0x0100, 4, 0⟩, 90)], 0⟩ } }) : State).dev.atBody (ask 5 : Rcp)).commitGroup (⟨1, [(⟨0x0100, 4, 0⟩, 90)], 0⟩ : Group).staged).toOption.isSome = true := by decide

theorem wit_RcpSessionsComplete_discard : (svcWith (fun d => { d with rcp := { d.rcp with group := some ⟨1, [(⟨0x0100, 4, 0⟩, 90)], 0⟩ } }) : State).dev.takes (ask 6 : Rcp) = true ∧ (svcWith (fun d => { d with rcp := { d.rcp with group := some ⟨1, [(⟨0x0100, 4, 0⟩, 90)], 0⟩ } }) : State).dev.groupHolder = (ask 6 : Rcp).session := by decide

theorem wit_RcpSessionsComplete_groupAbort : (svcWith (fun d => { d with rcp := { d.rcp with group := some ⟨2, [(⟨0x0100, 4, 0⟩, 90)], 0⟩ } }) : State).dev.grants (ask 2 : Rcp) 0x0100 0x0B ⟨1, (1 : Nat)⟩ = true ∧ (1 : Nat) < 256 := by decide

theorem wit_RcpSessionsComplete_groupIdleDiscard : (svcWith (fun d => { d with rcp := { d.rcp with group := some ⟨2, [(⟨0x0100, 4, 0⟩, 90)], 0⟩ } }) : State).dev.rcp.group = some (⟨2, [(⟨0x0100, 4, 0⟩, 90)], 0⟩ : Group) ∧ ((svcWith (fun d => { d with rcp := { d.rcp with group := some ⟨2, [(⟨0x0100, 4, 0⟩, 90)], 0⟩ } }) : State).dev.elapse (3600000000000 : Nat)).past (⟨2, [(⟨0x0100, 4, 0⟩, 90)], 0⟩ : Group).seenAt ((svcWith (fun d => { d with rcp := { d.rcp with group := some ⟨2, [(⟨0x0100, 4, 0⟩, 90)], 0⟩ } }) : State).dev.rd D.Rcp.GROUP_IDLE_S 0 * 1000000000) = true := by decide

theorem wit_RcpSessionsComplete_subscribe : (svc : State).dev.takes (ask 7 : Rcp) = true ∧ (svc : State).dev.session? (ask 7 : Rcp).session = some (owner : Session) ∧ (owner : Session).subs.length < 64 ∧ 10 ≤ (60000 : Nat) ∧ (60000 : Nat) ≤ 60000 ∧ (0 : Nat) ≤ (0 : Nat) ∧ (0 : Nat) ≤ 0xFFFF := by decide

theorem wit_RcpSessionsComplete_unsubscribe : (svcWith (fun d => { d with rcp := { d.rcp with sessions := [{ owner with subs := [⟨63, 0, 9, 10, [], none, none, false⟩], queue := [⟨63, [(0, 1)]⟩] }] } }) : State).dev.takes (ask 8 : Rcp) = true ∧ (svcWith (fun d => { d with rcp := { d.rcp with sessions := [{ owner with subs := [⟨63, 0, 9, 10, [], none, none, false⟩], queue := [⟨63, [(0, 1)]⟩] }] } }) : State).dev.session? (ask 8 : Rcp).session = some ({ owner with subs := [⟨63, 0, 9, 10, [], none, none, false⟩], queue := [⟨63, [(0, 1)]⟩] } : Session) ∧ ({ owner with subs := [⟨63, 0, 9, 10, [], none, none, false⟩], queue := [⟨63, [(0, 1)]⟩] } : Session).subs.any (fun b => b.id == (63 : Nat)) = true := by decide

theorem wit_RcpSessionsComplete_notifySend : (svcWith (fun d => { d with rcp := { d.rcp with sessions := [{ owner with subs := [⟨63, 0, 0, 10, [], none, none, false⟩] }] } }) : State).dev.session? (1 : Nat) = some ({ owner with subs := [⟨63, 0, 0, 10, [], none, none, false⟩] } : Session) ∧ ({ owner with subs := [⟨63, 0, 0, 10, [], none, none, false⟩] } : Session).subs.find? (fun b => b.id == (63 : Nat)) = some (⟨63, 0, 0, 10, [], none, none, false⟩ : Sub) ∧ (fitting 1096 ((((svcWith (fun d => { d with rcp := { d.rcp with sessions := [{ owner with subs := [⟨63, 0, 0, 10, [], none, none, false⟩] }] } }) : State).dev.elapse (5 : Nat)).snapshot (⟨63, 0, 0, 10, [], none, none, false⟩ : Sub).first (⟨63, 0, 0, 10, [], none, none, false⟩ : Sub).last ({ owner with subs := [⟨63, 0, 0, 10, [], none, none, false⟩] } : Session).role).filter (fun e => !(⟨63, 0, 0, 10, [], none, none, false⟩ : Sub).seen.contains e))).isEmpty = false ∧ ((svcWith (fun d => { d with rcp := { d.rcp with sessions := [{ owner with subs := [⟨63, 0, 0, 10, [], none, none, false⟩] }] } }) : State).dev.elapse (5 : Nat)).intervalPast (⟨63, 0, 0, 10, [], none, none, false⟩ : Sub) (⟨63, 0, 0, 10, [], none, none, false⟩ : Sub).sentAt = true ∧ ({ owner with subs := [⟨63, 0, 0, 10, [], none, none, false⟩] } : Session).queue.length < 64 := by decide

theorem wit_RcpSessionsComplete_notifySend_2 : (svcWith (fun d => { d with rcp := { d.rcp with sessions := [{ owner with subs := [⟨63, 0, 9, 10, [], none, none, true⟩], queue := [⟨63, [(0, 1)]⟩] }] } }) : State).dev.session? (1 : Nat) = some ({ owner with subs := [⟨63, 0, 9, 10, [], none, none, true⟩], queue := [⟨63, [(0, 1)]⟩] } : Session) ∧ ({ owner with subs := [⟨63, 0, 9, 10, [], none, none, true⟩], queue := [⟨63, [(0, 1)]⟩] } : Session).subs.find? (fun b => b.id == (63 : Nat)) = some (⟨63, 0, 9, 10, [], none, none, true⟩ : Sub) ∧ ({ owner with subs := [⟨63, 0, 9, 10, [], none, none, true⟩], queue := [⟨63, [(0, 1)]⟩] } : Session).queue.find? (fun n => n.sub == (⟨63, 0, 9, 10, [], none, none, true⟩ : Sub).id) = some (⟨63, [(0, 1)]⟩ : Note) ∧ ((svcWith (fun d => { d with rcp := { d.rcp with sessions := [{ owner with subs := [⟨63, 0, 9, 10, [], none, none, true⟩], queue := [⟨63, [(0, 1)]⟩] }] } }) : State).dev.elapse (5 : Nat)).intervalPast (⟨63, 0, 9, 10, [], none, none, true⟩ : Sub) (⟨63, 0, 9, 10, [], none, none, true⟩ : Sub).leftAt = true ∧ (svcWith (fun d => { d with rcp := { d.rcp with sessions := [{ owner with subs := [⟨63, 0, 9, 10, [], none, none, true⟩], queue := [⟨63, [(0, 1)]⟩] }] } }) : State).dev.restarts 1 = false := by decide

theorem wit_RcpSessionsComplete_close : (svc : State).dev.takes (ask 11 : Rcp) = true := by decide

theorem wit_RcpSessionsComplete_keepalive : (svc : State).dev.takes (ask 12 : Rcp) = true := by decide

theorem wit_RcpSessionsComplete_sessionIdleExpiry : (svc : State).dev.session? (1 : Nat) = some (owner : Session) ∧ ((svc : State).dev.elapse (3600000000000 : Nat)).past (owner : Session).reqAt ((svc : State).dev.rd D.Rcp.SESSION_IDLE_S 0 * 1000000000) = true := by decide

theorem wit_RcpSessionsComplete_discover : (svc : State).dev.hears ({ askAnon 13 with via := 1 } : Rcp) = true ∧ headerOk ({ askAnon 13 with via := 1 } : Rcp) = true ∧ (svc : State).dev.sealOk ({ askAnon 13 with via := 1 } : Rcp) = true ∧ ({ askAnon 13 with via := 1 } : Rcp).session = 0 ∧ ((true : Bool) = true → ({ askAnon 13 with via := 1 } : Rcp).via ≤ 1) ∧ (svc : State).dev.restarts 1 = false := by decide

theorem wit_RcpSessionsComplete_modeWrite : (svc : State).dev.grants (ask 2 : Rcp) (0x0C00 : Nat) 1 ⟨1, (1 : Nat)⟩ = true ∧ (1 : Nat) < 256 ∧ Dict.row (0x0C00 : Nat) 1 = some (⟨0x0C00, 1, 0x01, 2, 1, 0, 1, true, 3, 0, { parts := [⟨0, 8, [(0, 1)]⟩] }⟩ : Dict.Row) ∧ (⟨0x0C00, 1, 0x01, 2, 1, 0, 1, true, 3, 0, { parts := [⟨0, 8, [(0, 1)]⟩] }⟩ : Dict.Row).acc = 1 ∧ (⟨0x0C00, 1, 0x01, 2, 1, 0, 1, true, 3, 0, { parts := [⟨0, 8, [(0, 1)]⟩] }⟩ : Dict.Row).ty = 2 ∧ (svc : State).dev.pwrWarn = false ∧ (1 : Nat) ≠ (svc : State).dev.ent ⟨(0x0C00 : Nat), 1, 0⟩ := by decide

theorem wit_RcpSessionsComplete_modeChangeEffect : (svcWith (fun d => { d with rcp := { d.rcp with waiting := [(0x0600, 1), (0x0C00, 1)] } }) : State).dev.rcp.waiting.find? (fun x0 => x0.1 == 0x0C00) = some (0x0C00, (1 : Nat)) ∧ (svcWith (fun d => { d with rcp := { d.rcp with waiting := [(0x0600, 1), (0x0C00, 1)] } }) : State).dev.modeBusy 0x0C00 = false := by decide

theorem wit_OpenAndManagementComplete_openHello : (svc : State).dev.hears (askAnon 9 : Rcp) = true ∧ headerOk (askAnon 9 : Rcp) = true ∧ (svc : State).dev.sealOk (askAnon 9 : Rcp) = true ∧ (askAnon 9 : Rcp).session = 0 ∧ (svc : State).dev.opensOk = true ∧ (svc : State).dev.restarts 1 = false ∧ (svc : State).dev.restarts 5 = false ∧ 1 ≤ (⟨4, 0x01020304⟩ : Bytes).len ∧ (⟨4, 0x01020304⟩ : Bytes).len ≤ 1024 ∧ (svc : State).dev.openEx (askAnon 9 : Rcp) (7 : Nat) = none ∧ (svc : State).dev.rcp.opens.length < 4 ∧ (svc : State).dev.rcp.sessions.length < 16 := by decide

theorem wit_OpenAndManagementComplete_openChallengeFetch : (svcWith (fun d => { d with rcp := { d.rcp with opens := [⟨7, 0, 0, 0, 1, 5, 1988, 1988, 77, 3, 0, 0, 0, 0⟩] } }) : State).dev.hears (askAnon 9 : Rcp) = true ∧ headerOk (askAnon 9 : Rcp) = true ∧ (svcWith (fun d => { d with rcp := { d.rcp with opens := [⟨7, 0, 0, 0, 1, 5, 1988, 1988, 77, 3, 0, 0, 0, 0⟩] } }) : State).dev.sealOk (askAnon 9 : Rcp) = true ∧ (askAnon 9 : Rcp).session = 0 ∧ (svcWith (fun d => { d with rcp := { d.rcp with opens := [⟨7, 0, 0, 0, 1, 5, 1988, 1988, 77, 3, 0, 0, 0, 0⟩] } }) : State).dev.opensOk = true ∧ (svcWith (fun d => { d with rcp := { d.rcp with opens := [⟨7, 0, 0, 0, 1, 5, 1988, 1988, 77, 3, 0, 0, 0, 0⟩] } }) : State).dev.restarts 1 = false ∧ (svcWith (fun d => { d with rcp := { d.rcp with opens := [⟨7, 0, 0, 0, 1, 5, 1988, 1988, 77, 3, 0, 0, 0, 0⟩] } }) : State).dev.openEx (askAnon 9 : Rcp) (7 : Nat) = some (⟨7, 0, 0, 0, 1, 5, 1988, 1988, 77, 3, 0, 0, 0, 0⟩ : OpenEx) ∧ (⟨7, 0, 0, 0, 1, 5, 1988, 1988, 77, 3, 0, 0, 0, 0⟩ : OpenEx).stage = 1 ∧ (6144 : Nat) < 6481 := by decide

theorem wit_OpenAndManagementComplete_openResponse : (svcWith (fun d => { d with rcp := { d.rcp with opens := [⟨7, 0, 0, 0, 1, 5, 1988, 1988, 77, 3, 0, 0, 0, 0⟩] } }) : State).dev.hears (askAnon 9 : Rcp) = true ∧ headerOk (askAnon 9 : Rcp) = true ∧ (svcWith (fun d => { d with rcp := { d.rcp with opens := [⟨7, 0, 0, 0, 1, 5, 1988, 1988, 77, 3, 0, 0, 0, 0⟩] } }) : State).dev.sealOk (askAnon 9 : Rcp) = true ∧ (askAnon 9 : Rcp).session = 0 ∧ (svcWith (fun d => { d with rcp := { d.rcp with opens := [⟨7, 0, 0, 0, 1, 5, 1988, 1988, 77, 3, 0, 0, 0, 0⟩] } }) : State).dev.opensOk = true ∧ (svcWith (fun d => { d with rcp := { d.rcp with opens := [⟨7, 0, 0, 0, 1, 5, 1988, 1988, 77, 3, 0, 0, 0, 0⟩] } }) : State).dev.restarts 1 = false ∧ (svcWith (fun d => { d with rcp := { d.rcp with opens := [⟨7, 0, 0, 0, 1, 5, 1988, 1988, 77, 3, 0, 0, 0, 0⟩] } }) : State).dev.openEx (askAnon 9 : Rcp) (7 : Nat) = some (⟨7, 0, 0, 0, 1, 5, 1988, 1988, 77, 3, 0, 0, 0, 0⟩ : OpenEx) ∧ (⟨7, 0, 0, 0, 1, 5, 1988, 1988, 77, 3, 0, 0, 0, 0⟩ : OpenEx).stage = 1 ∧ (⟨7, 0, 0, 0, 1, 5, 1988, 1988, 77, 3, 0, 0, 0, 0⟩ : OpenEx).respLen = 0 ∧ 1 ≤ (⟨4, 0x01020304⟩ : Bytes).len ∧ (⟨4, 0x01020304⟩ : Bytes).len ≤ 1024 := by decide

theorem wit_OpenAndManagementComplete_mgLinkUp : (1 : Nat) ≤ 1 ∧ (svcWith (fun d => { d with rcp := { d.rcp with inUse := { d.rcp.inUse with mg1 := 2 ^ 383 + 0xC0A80001 * 2 ^ 320 + 1 * 2 ^ 30 } } }) : State).dev.listens (1 : Nat) = true ∧ (svcWith (fun d => { d with rcp := { d.rcp with inUse := { d.rcp.inUse with mg1 := 2 ^ 383 + 0xC0A80001 * 2 ^ 320 + 1 * 2 ^ 30 } } }) : State).dev.mgField (1 : Nat) D.MgCfg.ENABLE = 1 ∧ (1 : Nat) = (svcWith (fun d => { d with rcp := { d.rcp with inUse := { d.rcp.inUse with mg1 := 2 ^ 383 + 0xC0A80001 * 2 ^ 320 + 1 * 2 ^ 30 } } }) : State).dev.mgTries (1 : Nat) ∧ (1 : Nat) ≤ 2 ∧ (svcWith (fun d => { d with rcp := { d.rcp with inUse := { d.rcp.inUse with mg1 := 2 ^ 383 + 0xC0A80001 * 2 ^ 320 + 1 * 2 ^ 30 } } }) : State).dev.rd D.MgStatus.LINK (1 : Nat) ≠ 2 ∧ (svcWith (fun d => { d with rcp := { d.rcp with inUse := { d.rcp.inUse with mg1 := 2 ^ 383 + 0xC0A80001 * 2 ^ 320 + 1 * 2 ^ 30 } } }) : State).dev.mgField (1 : Nat) D.MgCfg.IPV4_ADDR ≠ 0 := by decide

theorem wit_OpenAndManagementComplete_mgLinkUp_2 : (0 : Nat) ≤ 1 ∧ (svc : State).dev.listens (0 : Nat) = true ∧ (svc : State).dev.mgField (0 : Nat) D.MgCfg.ENABLE = 1 ∧ (2 : Nat) = (svc : State).dev.mgTries (0 : Nat) ∧ (2 : Nat) ≤ 2 ∧ (svc : State).dev.rd D.MgStatus.LINK (0 : Nat) ≠ 2 ∧ (svc : State).dev.mgField (0 : Nat) D.MgCfg.IPV4_ADDR = 0 ∧ (svc : State).dev.mgField (0 : Nat) D.MgCfg.IPV4_LL = 1 := by decide

theorem wit_OpenAndManagementComplete_mgLinkDown : (1 : Nat) ≤ 1 ∧ (svcSet [(D.MgStatus.LINK, 1, 2), (D.MgStatus.IPV4_IN_USE, 1, 9)] : State).dev.listens (1 : Nat) = true ∧ (svcSet [(D.MgStatus.LINK, 1, 2), (D.MgStatus.IPV4_IN_USE, 1, 9)] : State).dev.rd D.MgStatus.LINK (1 : Nat) = 2 := by decide

theorem wit_OpenAndManagementComplete_mgSpeedTryTimeout : (1 : Nat) ≤ 1 ∧ (svc : State).dev.listens (1 : Nat) = true ∧ (svc : State).dev.mgField (1 : Nat) D.MgCfg.ENABLE = 1 ∧ (svc : State).dev.mgField (1 : Nat) D.MgCfg.SPEED = 3 ∧ (svc : State).dev.rd D.MgStatus.LINK (1 : Nat) ≠ 2 ∧ nget (svc : State).dev.rcp.tries (2, 0) (1 : Nat) = ((2 : Nat), (0 : Nat)) ∧ ((svc : State).dev.elapse (2000000000 : Nat)).past (0 : Nat) 2000000000 = true := by decide

theorem wit_OpenAndManagementComplete_mgCfgEffect : (svcWith (fun d => { d with rcp := { d.rcp with next := some (⟨5741, 1, 2, 3⟩, 5) } }) : State).dev.rcp.next = some ((⟨5741, 1, 2, 3⟩ : MgNet), (5 : Nat)) ∧ (5 : Nat) ≤ ((svcWith (fun d => { d with rcp := { d.rcp with next := some (⟨5741, 1, 2, 3⟩, 5) } }) : State).dev.elapse (5 : Nat)).wall ∧ (svcWith (fun d => { d with rcp := { d.rcp with next := some (⟨5741, 1, 2, 3⟩, 5) } }) : State).dev.inReset = false := by decide

theorem wit_OpenAndManagementComplete_rcpMgReverted : (svcWith (fun d => { d with rcp := { d.rcp with test := some (⟨5741, 1, 2, 3⟩, 5) } }) : State).dev.rcp.test = some ((⟨5741, 1, 2, 3⟩ : MgNet), (5 : Nat)) ∧ (5 : Nat) ≤ ((svcWith (fun d => { d with rcp := { d.rcp with test := some (⟨5741, 1, 2, 3⟩, 5) } }) : State).dev.elapse (5 : Nat)).wall ∧ (svcWith (fun d => { d with rcp := { d.rcp with test := some (⟨5741, 1, 2, 3⟩, 5) } }) : State).dev.inReset = false ∧ (svcWith (fun d => { d with rcp := { d.rcp with test := some (⟨5741, 1, 2, 3⟩, 5) } }) : State).dev.pwrWarn = false := by decide

theorem wit_OpenAndManagementComplete_journalCompaction : 75 ≤ (svcWith (fun d => { d with flash := { d.flash with used := 4000000, journal := [⟨3, 1, 1, [(⟨0, 9, 0⟩, 5)]⟩] } }) : State).dev.journalPct ∧ (svcWith (fun d => { d with flash := { d.flash with used := 4000000, journal := [⟨3, 1, 1, [(⟨0, 9, 0⟩, 5)]⟩] } }) : State).dev.pwrWarn = false ∧ (svcWith (fun d => { d with flash := { d.flash with used := 4000000, journal := [⟨3, 1, 1, [(⟨0, 9, 0⟩, 5)]⟩] } }) : State).dev.inReset = false := by decide

theorem wit_SecurityCommandsComplete_ownerCmdEnrol : (svcWith (fun d => { d with sec := { d.sec with windowAt := some 0 } }) : State).dev.grantsDom (ask 7 : Rcp) 0x0200 0x08 0 ⟨8644, ownerValue 1 (0 : Nat) (2 ^ 255 + 3 * 2 ^ 247 : Nat) (5 : Nat) (9 : Nat) 0⟩ = true ∧ (svcWith (fun d => { d with sec := { d.sec with windowAt := some 0 } }) : State).dev.pwrWarn = false := by decide

theorem wit_SecurityCommandsComplete_ownerCmdTransfer : (svcSet [(D.Sec.OWNER_STATE, 0, 1)] : State).dev.grantsDom (ask 7 : Rcp) 0x0200 0x08 0 ⟨8644, ownerValue 2 (0 : Nat) (2 ^ 255 + 3 * 2 ^ 247 : Nat) (5 : Nat) (9 : Nat) (8 : Nat)⟩ = true ∧ (svcSet [(D.Sec.OWNER_STATE, 0, 1)] : State).dev.pwrWarn = false := by decide

theorem wit_SecurityCommandsComplete_ownerCmdRelease : (svcSet [(D.Sec.OWNER_STATE, 0, 1)] : State).dev.grantsDom (ask 7 : Rcp) 0x0200 0x08 0 ⟨8644, ownerValue 3 (0 : Nat) 0 0 0 (8 : Nat)⟩ = true ∧ (svcSet [(D.Sec.OWNER_STATE, 0, 1)] : State).dev.pwrWarn = false := by decide

theorem wit_SecurityCommandsComplete_enrolWindowExpiry : (svcWith (fun d => { d with sec := { d.sec with windowAt := some 0 } }) : State).dev.sec.windowAt = some (0 : Nat) ∧ ((svcWith (fun d => { d with sec := { d.sec with windowAt := some 0 } }) : State).dev.elapse (600000000000 : Nat)).past (0 : Nat) 600000000000 = true := by decide

theorem wit_SecurityCommandsComplete_attestNonce : (svc : State).dev.grants (ask 2 : Rcp) 0x0200 0x0B ⟨32, (2 ^ 256 - 1 : Nat)⟩ = true := by decide

theorem wit_SecurityCommandsComplete_debugToken : (svcSet [(D.Sec.OWNER_STATE, 0, 1), (D.Policy.DEBUG_ALLOWED, 0, 1)] : State).dev.grantsDom (ask 7 : Rcp) 0x0200 0x0F 0 ⟨3360, pack [(128, (0 : Nat)), (256, (0 : Nat)), (26472, (8 : Nat)), (24, 0)]⟩ = true ∧ (svcSet [(D.Sec.OWNER_STATE, 0, 1), (D.Policy.DEBUG_ALLOWED, 0, 1)] : State).dev.on D.Policy.DEBUG_ALLOWED 0 = true ∧ (0 : Nat) < 2 ^ 128 ∧ (0 : Nat) < 2 ^ 256 ∧ (8 : Nat) < 2 ^ 26472 ∧ (svcSet [(D.Sec.OWNER_STATE, 0, 1), (D.Policy.DEBUG_ALLOWED, 0, 1)] : State).dev.rd D.Sec.DEBUG_STATE 0 = 0 := by decide

theorem wit_UpdateSessionsComplete_updateBegin : (svcWith (fun d => d.setSlot 1 (fun _ => { state := 2 })) : State).dev.grants (ask 2 : Rcp) 0x0300 2 ⟨4, 2 ^ 24⟩ = true ∧ (svcWith (fun d => d.setSlot 1 (fun _ => { state := 2 })) : State).dev.updateWho ((svcWith (fun d => d.setSlot 1 (fun _ => { state := 2 })) : State).dev.asker (ask 2 : Rcp)) = none ∧ (svcWith (fun d => d.setSlot 1 (fun _ => { state := 2 })) : State).dev.upd = Upd.IDLE ∧ (svcWith (fun d => d.setSlot 1 (fun _ => { state := 2 })) : State).dev.rst.recovery = false := by decide

theorem wit_UpdateSessionsComplete_manifestIn : (receiving : State).dev.grantsDom (ask 7 : Rcp) 0x0300 6 0 ⟨6976, (manifest : Nat)⟩ = true ∧ (receiving : State).dev.updateWho ((receiving : State).dev.asker (ask 7 : Rcp)) = none ∧ (receiving : State).dev.upd = Upd.RECEIVING ∧ manifestForm (manifest : Nat) = true ∧ (receiving : State).dev.sec.arc ≤ manSvn (manifest : Nat) := by decide +kernel

theorem wit_UpdateSessionsComplete_imageWrite : (receiving : State).dev.grantsDom (ask 7 : Rcp) 0x0301 (5 : Nat) 0 (⟨4096, 77⟩ : Bytes) = true ∧ (receiving : State).dev.updateWho ((receiving : State).dev.asker (ask 7 : Rcp)) = none ∧ (receiving : State).dev.upd = Upd.RECEIVING ∧ ((receiving : State).dev.slot (receiving : State).dev.targetSlot).manifest = some (manifest : Nat) ∧ (⟨4096, 77⟩ : Bytes).len = imgField (manifest : Nat) ((5 : Nat) - 1) 20 4 := by decide +kernel

theorem wit_UpdateSessionsComplete_updateEnd : (svcWith (fun d => (set [(D.Upd.UPDATE_STATE, 0, 1), (D.Upd.UPDATE_HOLDER, 0, 1)] d).setSlot 1 (fun _ => { state := 1, factory := true })) : State).dev.grants (ask 2 : Rcp) 0x0300 2 ⟨4, 2 * 2 ^ 24⟩ = true ∧ (svcWith (fun d => (set [(D.Upd.UPDATE_STATE, 0, 1), (D.Upd.UPDATE_HOLDER, 0, 1)] d).setSlot 1 (fun _ => { state := 1, factory := true })) : State).dev.updateWho ((svcWith (fun d => (set [(D.Upd.UPDATE_STATE, 0, 1), (D.Upd.UPDATE_HOLDER, 0, 1)] d).setSlot 1 (fun _ => { state := 1, factory := true })) : State).dev.asker (ask 2 : Rcp)) = none ∧ (svcWith (fun d => (set [(D.Upd.UPDATE_STATE, 0, 1), (D.Upd.UPDATE_HOLDER, 0, 1)] d).setSlot 1 (fun _ => { state := 1, factory := true })) : State).dev.upd = Upd.RECEIVING ∧ (svcWith (fun d => (set [(D.Upd.UPDATE_STATE, 0, 1), (D.Upd.UPDATE_HOLDER, 0, 1)] d).setSlot 1 (fun _ => { state := 1, factory := true })) : State).dev.imagesOk (svcWith (fun d => (set [(D.Upd.UPDATE_STATE, 0, 1), (D.Upd.UPDATE_HOLDER, 0, 1)] d).setSlot 1 (fun _ => { state := 1, factory := true })) : State).dev.targetSlot = true := by decide

theorem wit_UpdateSessionsComplete_updateAbort : (receiving : State).dev.grants (ask 2 : Rcp) 0x0300 2 ⟨4, 3 * 2 ^ 24⟩ = true ∧ (receiving : State).dev.updateWho ((receiving : State).dev.asker (ask 2 : Rcp)) = none ∧ (receiving : State).dev.upd = Upd.RECEIVING := by decide

theorem wit_UpdateSessionsComplete_updateIdleExpiry : (receiving : State).dev.upd = Upd.RECEIVING ∧ ((receiving : State).dev.elapse (3600000000000 : Nat)).past (receiving : State).dev.sec.heardAt ((receiving : State).dev.rd D.Upd.UPDATE_IDLE_S 0 * 1000000000) = true := by decide

theorem wit_UpdateSessionsComplete_recoveryIntervalEnd : (svcWith (fun d => { d with rst := { d.rst with recovery := true }, sec := { d.sec with candidates := [⟨9, 1, some (7, 3)⟩, ⟨1, 0, some (6, 3)⟩, ⟨2, 0, none⟩] } }) : State).dev.inReset = false ∧ (svcWith (fun d => { d with rst := { d.rst with recovery := true }, sec := { d.sec with candidates := [⟨9, 1, some (7, 3)⟩, ⟨1, 0, some (6, 3)⟩, ⟨2, 0, none⟩] } }) : State).dev.rst.recovery = true ∧ ((svcWith (fun d => { d with rst := { d.rst with recovery := true }, sec := { d.sec with candidates := [⟨9, 1, some (7, 3)⟩, ⟨1, 0, some (6, 3)⟩, ⟨2, 0, none⟩] } }) : State).dev.elapse (1000000000 : Nat)).past (svcWith (fun d => { d with rst := { d.rst with recovery := true }, sec := { d.sec with candidates := [⟨9, 1, some (7, 3)⟩, ⟨1, 0, some (6, 3)⟩, ⟨2, 0, none⟩] } }) : State).dev.sec.intervalAt 1000000000 = true ∧ (svcWith (fun d => { d with rst := { d.rst with recovery := true }, sec := { d.sec with candidates := [⟨9, 1, some (7, 3)⟩, ⟨1, 0, some (6, 3)⟩, ⟨2, 0, none⟩] } }) : State).dev.upd = Upd.IDLE ∧ bestCandidate (svcWith (fun d => { d with rst := { d.rst with recovery := true }, sec := { d.sec with candidates := [⟨9, 1, some (7, 3)⟩, ⟨1, 0, some (6, 3)⟩, ⟨2, 0, none⟩] } }) : State).dev.sec.candidates (svcWith (fun d => { d with rst := { d.rst with recovery := true }, sec := { d.sec with candidates := [⟨9, 1, some (7, 3)⟩, ⟨1, 0, some (6, 3)⟩, ⟨2, 0, none⟩] } }) : State).dev.sec.intervalAt = some ((⟨1, 0, some (6, 3)⟩ : Candidate), (6 : Nat)) := by decide

theorem wit_ActivationCompletes_activateInService : (svcWith (fun d => d.setSlot 1 (fun _ => { state := 2, factory := true })) : State).dev.grants (ask 2 : Rcp) 0x0300 2 ⟨4, 4 * 2 ^ 24⟩ = true ∧ (svcWith (fun d => d.setSlot 1 (fun _ => { state := 2, factory := true })) : State).dev.updateWho ((svcWith (fun d => d.setSlot 1 (fun _ => { state := 2, factory := true })) : State).dev.asker (ask 2 : Rcp)) = none ∧ (svcWith (fun d => d.setSlot 1 (fun _ => { state := 2, factory := true })) : State).dev.upd = Upd.IDLE ∧ (svcWith (fun d => d.setSlot 1 (fun _ => { state := 2, factory := true })) : State).dev.rst.recovery = false := by decide

theorem wit_ActivationCompletes_activationStepDone : (svcWith (fun d => { (set [(D.Upd.UPDATE_STATE, 0, 2)] d) with sec := { d.sec with restarting := some 1, todo := [1], boot0 := { trial := 1, kind := 1, started := 1 } } }) : State).dev.sec.restarting = some (1 : Nat) ∧ (svcWith (fun d => { (set [(D.Upd.UPDATE_STATE, 0, 2)] d) with sec := { d.sec with restarting := some 1, todo := [1], boot0 := { trial := 1, kind := 1, started := 1 } } }) : State).dev.upd = Upd.ACTIVATING ∧ (svcWith (fun d => { (set [(D.Upd.UPDATE_STATE, 0, 2)] d) with sec := { d.sec with restarting := some 1, todo := [1], boot0 := { trial := 1, kind := 1, started := 1 } } }) : State).dev.wall + (500000000 : Nat) ≤ (svcWith (fun d => { (set [(D.Upd.UPDATE_STATE, 0, 2)] d) with sec := { d.sec with restarting := some 1, todo := [1], boot0 := { trial := 1, kind := 1, started := 1 } } }) : State).dev.sec.stepAt + stepBound (1 : Nat) := by decide

theorem wit_ActivationCompletes_activationStepTimeout : (svcWith (fun d => { (set [(D.Upd.UPDATE_STATE, 0, 2)] d) with sec := { d.sec with restarting := some 2, todo := [2, 1] } }) : State).dev.sec.restarting = some (2 : Nat) ∧ (svcWith (fun d => { (set [(D.Upd.UPDATE_STATE, 0, 2)] d) with sec := { d.sec with restarting := some 2, todo := [2, 1] } }) : State).dev.upd = Upd.ACTIVATING ∧ ((svcWith (fun d => { (set [(D.Upd.UPDATE_STATE, 0, 2)] d) with sec := { d.sec with restarting := some 2, todo := [2, 1] } }) : State).dev.elapse (100000000 : Nat)).past (svcWith (fun d => { (set [(D.Upd.UPDATE_STATE, 0, 2)] d) with sec := { d.sec with restarting := some 2, todo := [2, 1] } }) : State).dev.sec.stepAt (stepBound (2 : Nat)) = true := by decide

theorem wit_ActivationCompletes_activateRestart : (svcWith (fun d => d.setSlot 1 (fun _ => { state := 2, factory := true })) : State).dev.grants (ask 2 : Rcp) 0x0300 2 ⟨4, 5 * 2 ^ 24⟩ = true ∧ (svcWith (fun d => d.setSlot 1 (fun _ => { state := 2, factory := true })) : State).dev.updateWho ((svcWith (fun d => d.setSlot 1 (fun _ => { state := 2, factory := true })) : State).dev.asker (ask 2 : Rcp)) = none ∧ (svcWith (fun d => d.setSlot 1 (fun _ => { state := 2, factory := true })) : State).dev.upd = Upd.IDLE ∧ (svcWith (fun d => d.setSlot 1 (fun _ => { state := 2, factory := true })) : State).dev.rst.recovery = false := by decide

theorem wit_ActivationCompletes_updateAccept : (svcWith (fun d => { (set [(D.Upd.UPDATE_STATE, 0, 3)] d) with sec := { d.sec with running := 1, boot0 := { trial := 1, kind := 1, started := 1 } } }) : State).dev.grants (ask 2 : Rcp) 0x0300 2 ⟨4, 6 * 2 ^ 24⟩ = true ∧ (svcWith (fun d => { (set [(D.Upd.UPDATE_STATE, 0, 3)] d) with sec := { d.sec with running := 1, boot0 := { trial := 1, kind := 1, started := 1 } } }) : State).dev.updateWho ((svcWith (fun d => { (set [(D.Upd.UPDATE_STATE, 0, 3)] d) with sec := { d.sec with running := 1, boot0 := { trial := 1, kind := 1, started := 1 } } }) : State).dev.asker (ask 2 : Rcp)) = none ∧ (svcWith (fun d => { (set [(D.Upd.UPDATE_STATE, 0, 3)] d) with sec := { d.sec with running := 1, boot0 := { trial := 1, kind := 1, started := 1 } } }) : State).dev.upd = Upd.TRIAL := by decide

theorem wit_ActivationCompletes_updateReject : (svcSet [(D.Upd.UPDATE_STATE, 0, 3)] : State).dev.grants (ask 2 : Rcp) 0x0300 2 ⟨4, 7 * 2 ^ 24⟩ = true ∧ (svcSet [(D.Upd.UPDATE_STATE, 0, 3)] : State).dev.updateWho ((svcSet [(D.Upd.UPDATE_STATE, 0, 3)] : State).dev.asker (ask 2 : Rcp)) = none ∧ (svcSet [(D.Upd.UPDATE_STATE, 0, 3)] : State).dev.upd = Upd.TRIAL := by decide

theorem wit_ActivationCompletes_updateRecover : (svc : State).dev.grants (ask 2 : Rcp) 0x0300 2 ⟨4, 8 * 2 ^ 24⟩ = true ∧ (svc : State).dev.updateWho ((svc : State).dev.asker (ask 2 : Rcp)) = none := by decide

theorem wit_ActivationCompletes_trialTimerEnd : (svcSet [(D.Upd.UPDATE_STATE, 0, 3), (D.Upd.AUTO_ACCEPT, 0, 1)] : State).dev.inReset = false ∧ (svcSet [(D.Upd.UPDATE_STATE, 0, 3), (D.Upd.AUTO_ACCEPT, 0, 1)] : State).dev.pwrWarn = false ∧ (svcSet [(D.Upd.UPDATE_STATE, 0, 3), (D.Upd.AUTO_ACCEPT, 0, 1)] : State).dev.upd = Upd.TRIAL ∧ ((svcSet [(D.Upd.UPDATE_STATE, 0, 3), (D.Upd.AUTO_ACCEPT, 0, 1)] : State).dev.elapse (86400000000000 : Nat)).past (svcSet [(D.Upd.UPDATE_STATE, 0, 3), (D.Upd.AUTO_ACCEPT, 0, 1)] : State).dev.sec.trialAt ((svcSet [(D.Upd.UPDATE_STATE, 0, 3), (D.Upd.AUTO_ACCEPT, 0, 1)] : State).dev.rd D.Upd.TRIAL_S 0 * 1000000000) = true := by decide

theorem wit_ActivationCompletes_fallbackDone : (svcWith (fun d => { (set [(D.Upd.UPDATE_STATE, 0, 4)] d) with sec := { d.sec with trialKind := 1, before := [0, 0, 0, 0, 0], boot0 := { trial := 1, kind := 1, started := 1 } } }) : State).dev.inReset = false ∧ (svcWith (fun d => { (set [(D.Upd.UPDATE_STATE, 0, 4)] d) with sec := { d.sec with trialKind := 1, before := [0, 0, 0, 0, 0], boot0 := { trial := 1, kind := 1, started := 1 } } }) : State).dev.upd = Upd.FALLING_BACK ∧ (svcWith (fun d => { (set [(D.Upd.UPDATE_STATE, 0, 4)] d) with sec := { d.sec with trialKind := 1, before := [0, 0, 0, 0, 0], boot0 := { trial := 1, kind := 1, started := 1 } } }) : State).dev.sec.trialKind = 1 := by decide

theorem wit_ActivationCompletes_slotRCopyDone : (svcWith (fun d => { d with sec := { d.sec with copying := true, big := true } }) : State).dev.inReset = false ∧ (svcWith (fun d => { d with sec := { d.sec with copying := true, big := true } }) : State).dev.sec.copying = true := by decide

theorem wit_FaultEventsComplete_faultLatch : (svcSet [(D.SourceCfg.ENABLE, 0x140, 1), (D.SourceCfg.SAFE, 0x140, 1), (D.SourceCfg.ERRPIN, 0x140, 1)] : State).dev.inCold = false ∧ sourceNamed (0x140 : Nat) = true := by decide

theorem wit_FaultEventsComplete_faultConditionEnd : (svcWith (fun d => { (set [(D.SourceStatus.ACTIVE, 0x140, 1), (D.SourceStatus.PENDING, 0x140, 1)] d) with flt := { d.flt with active := [(0x140, 31)] } }) : State).dev.inCold = false ∧ sourceNamed (0x140 : Nat) = true ∧ (svcWith (fun d => { (set [(D.SourceStatus.ACTIVE, 0x140, 1), (D.SourceStatus.PENDING, 0x140, 1)] d) with flt := { d.flt with active := [(0x140, 31)] } }) : State).dev.flt.active.any (fun a => a.1 == (0x140 : Nat) && a.2 != (31 : Nat)) = false := by decide

theorem wit_FaultEventsComplete_errnMinExpiry : (svcWith (fun d => { (set [(D.Flt.ERRN_STATE, 0, 1)] d) with flt := { d.flt with errnLow := true } }) : State).dev.flt.errnLow = true ∧ (svcWith (fun d => { (set [(D.Flt.ERRN_STATE, 0, 1)] d) with flt := { d.flt with errnLow := true } }) : State).dev.errPending = false ∧ (svcWith (fun d => { (set [(D.Flt.ERRN_STATE, 0, 1)] d) with flt := { d.flt with errnLow := true } }) : State).dev.flt.reloadAt = none ∧ (svcWith (fun d => { (set [(D.Flt.ERRN_STATE, 0, 1)] d) with flt := { d.flt with errnLow := true } }) : State).dev.rst.asserted.any (fun r => decide (r.reach = 0)) = false ∧ ((svcWith (fun d => { (set [(D.Flt.ERRN_STATE, 0, 1)] d) with flt := { d.flt with errnLow := true } }) : State).dev.elapse (100000 : Nat)).past (svcWith (fun d => { (set [(D.Flt.ERRN_STATE, 0, 1)] d) with flt := { d.flt with errnLow := true } }) : State).dev.flt.errnAt ((svcWith (fun d => { (set [(D.Flt.ERRN_STATE, 0, 1)] d) with flt := { d.flt with errnLow := true } }) : State).dev.rd D.Flt.ERRN_MIN_US 0 * 1000) = true := by decide

theorem wit_FaultCommandsComplete_faultCmdClear : (svcSet [(D.SourceStatus.PENDING, 0x18F, 1)] : State).dev.grants (ask 2 : Rcp) 0x0400 2 ⟨8, faultValue 1 (0x18F : Nat) 0⟩ = true ∧ sourceNamed (0x18F : Nat) = true ∧ (svcSet [(D.SourceStatus.PENDING, 0x18F, 1)] : State).dev.on D.SourceStatus.ACTIVE (0x18F : Nat) = false := by decide

theorem wit_FaultCommandsComplete_faultCmdClearGroup : (svcSet [(D.SourceStatus.PENDING, 0x18F, 1), (D.SourceStatus.PENDING, 0x180, 1), (D.SourceStatus.ACTIVE, 0x180, 1)] : State).dev.grants (ask 2 : Rcp) 0x0400 2 ⟨8, faultValue 2 (399 : Nat) 0⟩ = true ∧ (399 : Nat) < 400 := by decide

theorem wit_FaultCommandsComplete_faultCmdClearAll : (svcSet [(D.SourceStatus.PENDING, 0x18F, 1), (D.SourceStatus.PENDING, 0, 1)] : State).dev.grants (ask 2 : Rcp) 0x0400 2 ⟨8, faultValue 3 0 0⟩ = true := by decide

theorem wit_FaultCommandsComplete_faultCmdFirstClear : (svcSet [(D.FirstError.VALID, 0, 1)] : State).dev.grants (ask 2 : Rcp) 0x0400 2 ⟨8, faultValue 4 0 0⟩ = true := by decide

theorem wit_FaultCommandsComplete_faultCmdSummaryClear : (svcSet [(D.Summary.VALID, 0, 1), (D.Straps.HEAD, 0, 1)] : State).dev.grants (ask 2 : Rcp) 0x0400 2 ⟨8, faultValue 5 0 0⟩ = true ∧ (svcSet [(D.Summary.VALID, 0, 1), (D.Straps.HEAD, 0, 1)] : State).dev.on D.Straps.HEAD 0 = true := by decide

theorem wit_FaultCommandsComplete_faultCmdBlkrst : (svcWith (fun d => { d with flt := { d.flt with blk := [(4, 31, 0), (4, 31, 0)] } }) : State).dev.grants (ask 2 : Rcp) 0x0400 2 ⟨8, faultValue 6 (0x140 : Nat) (31 : Nat)⟩ = true ∧ 3 ≤ ((svcWith (fun d => { d with flt := { d.flt with blk := [(4, 31, 0), (4, 31, 0)] } }) : State).dev.asker (ask 2 : Rcp)).role ∧ sourceNamed (0x140 : Nat) = true ∧ (0x140 : Nat) < 512 ∧ (31 : Nat) < 65536 ∧ (svcWith (fun d => { d with flt := { d.flt with blk := [(4, 31, 0), (4, 31, 0)] } }) : State).dev.flt.blk.length < 3 := by decide

theorem wit_FaultCommandsComplete_faultCmdChiprst : (svcSet [(D.Flow.ENABLE, 8191, 1), (D.Flow.KIND, 8191, 0x41), (D.Flow.STATE, 8191, 2)] : State).dev.grants (ask 2 : Rcp) 0x0400 2 ⟨8, faultValue 7 (511 : Nat) 0⟩ = true ∧ 3 ≤ ((svcSet [(D.Flow.ENABLE, 8191, 1), (D.Flow.KIND, 8191, 0x41), (D.Flow.STATE, 8191, 2)] : State).dev.asker (ask 2 : Rcp)).role := by decide

theorem wit_FaultCommandsComplete_faultCmdInject : (svcSet [(D.Straps.TEST_MODE, 0, 1), (D.Sec.DEBUG_STATE, 0, 2), (D.SourceCfg.ENABLE, 0x140, 1), (D.SourceCfg.SAFE, 0x140, 1)] : State).dev.grants (ask 2 : Rcp) 0x0400 2 ⟨8, faultValue 8 (0x140 : Nat) (31 : Nat)⟩ = true ∧ 3 ≤ ((svcSet [(D.Straps.TEST_MODE, 0, 1), (D.Sec.DEBUG_STATE, 0, 2), (D.SourceCfg.ENABLE, 0x140, 1), (D.SourceCfg.SAFE, 0x140, 1)] : State).dev.asker (ask 2 : Rcp)).role ∧ (svcSet [(D.Straps.TEST_MODE, 0, 1), (D.Sec.DEBUG_STATE, 0, 2), (D.SourceCfg.ENABLE, 0x140, 1), (D.SourceCfg.SAFE, 0x140, 1)] : State).dev.injectAllowed = true ∧ sourceNamed (0x140 : Nat) = true ∧ (0x140 : Nat) < 512 ∧ (31 : Nat) < 65536 := by decide

theorem wit_ResetSourcesComplete_porstAssert : 250 ≤ (250 : Nat) := by decide

theorem wit_ResetSourcesComplete_supplyFault : (1 : Nat) ≤ 1 ∧ 10000 ≤ (10000 : Nat) := by decide

theorem wit_ResetSourcesComplete_rstNInput : 250 ≤ (400 : Nat) ∧ (svcSet [(D.Rst.RST_N_REACH, 0, 1)] : State).dev.rst.rstnDrive = false := by decide

theorem wit_ResetSourcesComplete_resetCmdCold : (svc : State).dev.grants (ask 2 : Rcp) 0x0510 1 ⟨4, 1 * 2 ^ 24⟩ = true := by decide

theorem wit_ResetSourcesComplete_resetCmdWarm : (svc : State).dev.grants (ask 2 : Rcp) 0x0510 1 ⟨4, 2 * 2 ^ 24⟩ = true := by decide

theorem wit_ResetSourcesComplete_resetCmdDomain : (svc : State).dev.grants (ask 2 : Rcp) 0x0510 1 ⟨4, 3 * 2 ^ 24 + (7 : Nat) * 2 ^ 16⟩ = true ∧ (7 : Nat) ≤ 7 := by decide

theorem wit_ResetSourcesComplete_watchdogExpiry : (7 : Nat) ≤ 7 ∧ (svcWith (fun d => { d with rst := { d.rst with watchdogs := [(7, 0)] } }) : State).dev.inReset = false ∧ (svcWith (fun d => { d with rst := { d.rst with watchdogs := [(7, 0)] } }) : State).dev.rst.asserted.any (fun r => r.reach == 3 && r.dom == (7 : Nat)) = false ∧ countIf (fun (w : Nat × Nat) => w.1 == (7 : Nat) && decide (((svcWith (fun d => { d with rst := { d.rst with watchdogs := [(7, 0)] } }) : State).dev.elapse (5 : Nat)).wall < w.2 + 60000000000)) (svcWith (fun d => { d with rst := { d.rst with watchdogs := [(7, 0)] } }) : State).dev.rst.watchdogs < 2 := by decide

theorem wit_ResetSourcesComplete_watchdogExpiry_2 : (7 : Nat) ≤ 7 ∧ (svcWith (fun d => { d with rst := { d.rst with watchdogs := [(7, 0), (7, 0)] } }) : State).dev.inReset = false ∧ (svcWith (fun d => { d with rst := { d.rst with watchdogs := [(7, 0), (7, 0)] } }) : State).dev.rst.asserted.any (fun r => r.reach == 3 && r.dom == (7 : Nat)) = false ∧ 2 ≤ countIf (fun (w : Nat × Nat) => w.1 == (7 : Nat) && decide (((svcWith (fun d => { d with rst := { d.rst with watchdogs := [(7, 0), (7, 0)] } }) : State).dev.elapse (5 : Nat)).wall < w.2 + 60000000000)) (svcWith (fun d => { d with rst := { d.rst with watchdogs := [(7, 0), (7, 0)] } }) : State).dev.rst.watchdogs := by decide

theorem wit_ResetStagesComplete_resetAssert : (svcWith (fun d => { d with rst := { d.rst with entering := [⟨2, 4, 0, 0, 0, 0, 0, 0⟩] } }) : State).dev.rst.entering[(0 : Nat)]? = some (⟨2, 4, 0, 0, 0, 0, 0, 0⟩ : Reset) ∧ ((⟨2, 4, 0, 0, 0, 0, 0, 0⟩ : Reset).reach = 1 ∨ (⟨2, 4, 0, 0, 0, 0, 0, 0⟩ : Reset).reach = 2) := by decide

theorem wit_ResetStagesComplete_resetAssert_2 : (svcWith (fun d => { d with rst := { d.rst with entering := [⟨3, 4, 0, 7, 0, 0, 0, 0⟩] } }) : State).dev.rst.entering[(0 : Nat)]? = some (⟨3, 4, 0, 7, 0, 0, 0, 0⟩ : Reset) ∧ (⟨3, 4, 0, 7, 0, 0, 0, 0⟩ : Reset).reach = 3 := by decide

theorem wit_ResetStagesComplete_resetRelease : (Sys2Proof.Machine.State.reset : State).dev.rst.asserted = [(⟨0, 1, 0, 0, 0, 0, 0, 0⟩ : Reset)] ∧ (⟨0, 1, 0, 0, 0, 0, 0, 0⟩ : Reset).reach ≤ 2 ∧ ((Sys2Proof.Machine.State.reset : State).dev.elapse (2000000 : Nat)).releasable (⟨0, 1, 0, 0, 0, 0, 0, 0⟩ : Reset) = true := by decide

theorem wit_ResetStagesComplete_blockResetEnd : (svcWith (fun d => { d.wr D.ChanStatus.STATE 31 2 with rst := { d.rst with asserted := [⟨4, 5, 0, 8, 31, 0, 0, 0⟩] } }) : State).dev.rst.asserted = [(⟨4, 5, 0, 8, 31, 0, 0, 0⟩ : Reset)] ∧ (⟨4, 5, 0, 8, 31, 0, 0, 0⟩ : Reset).reach = 4 ∧ (⟨4, 5, 0, 8, 31, 0, 0, 0⟩ : Reset).dom = 8 ∧ (⟨4, 5, 0, 8, 31, 0, 0, 0⟩ : Reset).inst = (31 : Nat) ∧ 5 ≤ (svcWith (fun d => { d.wr D.ChanStatus.STATE 31 2 with rst := { d.rst with asserted := [⟨4, 5, 0, 8, 31, 0, 0, 0⟩] } }) : State).dev.stage ∧ (svcWith (fun d => { d.wr D.ChanStatus.STATE 31 2 with rst := { d.rst with asserted := [⟨4, 5, 0, 8, 31, 0, 0, 0⟩] } }) : State).dev.chanState (31 : Nat) ≠ ChanState.RETIRED ∧ ((svcWith (fun d => { d.wr D.ChanStatus.STATE 31 2 with rst := { d.rst with asserted := [⟨4, 5, 0, 8, 31, 0, 0, 0⟩] } }) : State).dev.elapse (200 : Nat)).releasable (⟨4, 5, 0, 8, 31, 0, 0, 0⟩ : Reset) = true := by decide

theorem wit_ResetStagesComplete_rstnOutEnd : (svcWith (fun d => { d with rst := { d.rst with rstnDrive := true, rstnUntil := some 5 } }) : State).dev.rst.rstnUntil = some (5 : Nat) ∧ (svcWith (fun d => { d with rst := { d.rst with rstnDrive := true, rstnUntil := some 5 } }) : State).dev.rst.rstnDrive = true ∧ (5 : Nat) ≤ ((svcWith (fun d => { d with rst := { d.rst with rstnDrive := true, rstnUntil := some 5 } }) : State).dev.elapse (5 : Nat)).wall ∧ (0 : Nat) < 250 := by decide

theorem wit_ResetStagesComplete_fuseLoadDone : (svcWith (fun d => { d.wr D.Rst.STARTUP_STAGE 0 1 with rst := { d.rst with loading := true } }) : State).dev.rst.loading = true ∧ (svcWith (fun d => { d.wr D.Rst.STARTUP_STAGE 0 1 with rst := { d.rst with loading := true } }) : State).dev.inCold = false := by decide

theorem wit_ResetStagesComplete_startupStageDone : (svcSet [(D.Rst.STARTUP_STAGE, 0, 3)] : State).dev.inReset = false ∧ (svcSet [(D.Rst.STARTUP_STAGE, 0, 3)] : State).dev.rst.recovery = false ∧ (svcSet [(D.Rst.STARTUP_STAGE, 0, 3)] : State).dev.stage = 3 ∧ (svcSet [(D.Rst.STARTUP_STAGE, 0, 3)] : State).dev.safeBoot = false := by decide

theorem wit_ResetStagesComplete_startupStageDone_2 : (svc : State).dev.inReset = false ∧ (svc : State).dev.rst.recovery = false ∧ (svc : State).dev.stage = 6 ∧ ((svc : State).dev.elapse (5 : Nat)).mediaReady = true := by decide

theorem wit_BusComplete_busTransaction : (svcWith (fun d => { d with store := { d.store with alloc := [(0, ⟨⟨10, 0xFFFF, 0, 2, 2, 0⟩, [some 3, some 4], []⟩)] } }) : State).dev.memQ = [] ∧ (svcWith (fun d => { d with store := { d.store with alloc := [(0, ⟨⟨10, 0xFFFF, 0, 2, 2, 0⟩, [some 3, some 4], []⟩)] } }) : State).dev.bus.flight = [] ∧ (svcWith (fun d => { d with store := { d.store with alloc := [(0, ⟨⟨10, 0xFFFF, 0, 2, 2, 0⟩, [some 3, some 4], []⟩)] } }) : State).dev.masterReset (6 : Nat) = false ∧ busAccess (6 : Nat) 19 true (19 * 2 ^ 24 + (8 : Nat)) (1 : Nat) = true ∧ (6 : Nat) ≤ 8 ∧ (svcWith (fun d => { d with store := { d.store with alloc := [(0, ⟨⟨10, 0xFFFF, 0, 2, 2, 0⟩, [some 3, some 4], []⟩)] } }) : State).dev.isolation 19 = 0 ∧ 1 ≤ (1 : Nat) ∧ (1 : Nat) ≤ 16 ∧ (8 : Nat) % 8 = 0 ∧ (8 : Nat) < 2 ^ 24 ∧ (svcWith (fun d => { d with store := { d.store with alloc := [(0, ⟨⟨10, 0xFFFF, 0, 2, 2, 0⟩, [some 3, some 4], []⟩)] } }) : State).dev.windowOk ((6291456 : Nat) + (8 : Nat)) (8 * (1 : Nat)) = true ∧ (6291456 : Nat) + (8 : Nat) + 8 * (1 : Nat) ≤ memSize := by decide

theorem wit_BusComplete_busTransaction_2 : (svc : State).dev.memQ = [] ∧ (svc : State).dev.bus.flight = [] ∧ (svc : State).dev.masterReset (8 : Nat) = false ∧ (8 : Nat) ≤ 8 ∧ (23 * 2 ^ 24 : Nat) / 2 ^ 24 ≤ 23 ∧ (23 * 2 ^ 24 : Nat) / 2 ^ 24 ≠ 19 ∧ busAccess (8 : Nat) ((23 * 2 ^ 24 : Nat) / 2 ^ 24) false (23 * 2 ^ 24 : Nat) (16 : Nat) = true ∧ (svc : State).dev.isolation ((23 * 2 ^ 24 : Nat) / 2 ^ 24) = 0 ∧ 1 ≤ (16 : Nat) ∧ (16 : Nat) ≤ 16 ∧ (23 * 2 ^ 24 : Nat) % 8 = 0 := by decide

theorem wit_BusComplete_busTransaction_3 : (svc : State).dev.memQ = [] ∧ (svc : State).dev.bus.flight = [] ∧ (svc : State).dev.masterReset (0 : Nat) = false ∧ (0 : Nat) ≤ 8 ∧ 23 < (24 * 2 ^ 24 : Nat) / 2 ^ 24 ∧ (24 * 2 ^ 24 : Nat) < 2 ^ 32 ∧ 1 ≤ (1 : Nat) ∧ (1 : Nat) ≤ 16 ∧ (24 * 2 ^ 24 : Nat) % 8 = 0 := by decide

theorem wit_BusComplete_busTimeout : (svcWith (fun d => { d with bus := { d.bus with flight := [⟨8, 23, 23 * 2 ^ 24, true, 0⟩, ⟨7, 22, 22 * 2 ^ 24, true, 0⟩, ⟨8, 23, 23 * 2 ^ 24, true, 0⟩] } }) : State).dev.bus.flight = (⟨8, 23, 23 * 2 ^ 24, true, 0⟩ : Flight) :: ([⟨7, 22, 22 * 2 ^ 24, true, 0⟩, ⟨8, 23, 23 * 2 ^ 24, true, 0⟩] : List Flight) ∧ ((svcWith (fun d => { d with bus := { d.bus with flight := [⟨8, 23, 23 * 2 ^ 24, true, 0⟩, ⟨7, 22, 22 * 2 ^ 24, true, 0⟩, ⟨8, 23, 23 * 2 ^ 24, true, 0⟩] } }) : State).dev.elapse (10000 : Nat)).past (⟨8, 23, 23 * 2 ^ 24, true, 0⟩ : Flight).at_ 10000 = true := by decide

theorem wit_BusComplete_busCmdUnisolate : (svcWith (fun d => { d with bus := { d.bus with cut := [(23, 3)] } }) : State).dev.grants (ask 2 : Rcp) 0x1300 2 ⟨4, 1 * 2 ^ 24 + (23 : Nat)⟩ = true ∧ (23 : Nat) ≤ 23 ∧ (svcWith (fun d => { d with bus := { d.bus with cut := [(23, 3)] } }) : State).dev.targetReset (23 : Nat) = false := by decide

theorem wit_BusComplete_busCmdIsolate : (svcWith (fun d => { d with bus := { d.bus with flight := [⟨8, 23, 23 * 2 ^ 24, true, 0⟩] } }) : State).dev.grants (ask 2 : Rcp) 0x1300 2 ⟨4, 2 * 2 ^ 24 + (23 : Nat)⟩ = true ∧ (23 : Nat) ≤ 23 := by decide

theorem wit_BusComplete_busCmdLogClear : (svcSet [(D.ErrorLog.RESP, 15, 2)] : State).dev.grants (ask 2 : Rcp) 0x1300 2 ⟨4, 3 * 2 ^ 24⟩ = true := by decide

theorem wit_RepairAndPowerComplete_sramEccError : (svcWith (fun d => { d with rows := { d.rows with waiting := [(7, 8, 1), (7, 9, 1), (7, 10, 1)] } }) : State).dev.sramDefective (7 : Nat) (11 : Nat) = false ∧ nget (svcWith (fun d => { d with rows := { d.rows with waiting := [(7, 8, 1), (7, 9, 1), (7, 10, 1)] } }) : State).dev.rows.used 0 (7 : Nat) + countIf (fun (w : Nat × Nat × Nat) => w.1 == (7 : Nat)) (svcWith (fun d => { d with rows := { d.rows with waiting := [(7, 8, 1), (7, 9, 1), (7, 10, 1)] } }) : State).dev.rows.waiting < 4 := by decide

theorem wit_RepairAndPowerComplete_sramEccError_2 : (svcWith (fun d => { d with rows := { d.rows with used := [(7, 4)] } }) : State).dev.sramDefective (7 : Nat) (11 : Nat) = false ∧ 4 ≤ nget (svcWith (fun d => { d with rows := { d.rows with used := [(7, 4)] } }) : State).dev.rows.used 0 (7 : Nat) + countIf (fun (w : Nat × Nat × Nat) => w.1 == (7 : Nat)) (svcWith (fun d => { d with rows := { d.rows with used := [(7, 4)] } }) : State).dev.rows.waiting := by decide

theorem wit_RepairAndPowerComplete_knotCopyWrite : (svcWith (fun d => { d with knot := { d.knot with copy0 := some (4, []), copy1 := some (3, []), dirty := true } }) : State).dev.flashOpen = true ∧ (svcWith (fun d => { d with knot := { d.knot with copy0 := some (4, []), copy1 := some (3, []), dirty := true } }) : State).dev.knot.dirty = true := by decide

theorem wit_RepairAndPowerComplete_islandHorizonRecompute : (141 : Nat) < 142 ∧ (svc : State).dev.inReset = false ∧ 3 ≤ (svc : State).dev.stage ∧ (svc : State).dev.rd D.Pwr.MODE 0 = 0 := by decide

theorem wit_RepairAndPowerComplete_islandWake : (141 : Nat) < 142 ∧ (svcSet [(D.IslandStatus.STATE, 141, 2)] : State).dev.inReset = false ∧ (svcSet [(D.IslandStatus.STATE, 141, 2)] : State).dev.rd D.IslandStatus.STATE (141 : Nat) ≠ 0 := by decide

theorem wit_RepairAndPowerComplete_islandRequest : (svcSet [(D.Pwr.MODE, 0, 1)] : State).dev.grantsDom (ask 4 : Rcp) 0x0520 2 (141 : Nat) ⟨1, (128 : Nat)⟩ = true ∧ (svcSet [(D.Pwr.MODE, 0, 1)] : State).dev.rd D.Pwr.MODE 0 = 1 ∧ (141 : Nat) < 142 ∧ (128 : Nat) = 128 := by decide

theorem wit_RepairAndPowerComplete_islandRequest_2 : (svcSet [(D.Pwr.MODE, 0, 1)] : State).dev.grantsDom (ask 4 : Rcp) 0x0520 2 (0 : Nat) ⟨1, (7 : Nat)⟩ = true ∧ (svcSet [(D.Pwr.MODE, 0, 1)] : State).dev.rd D.Pwr.MODE 0 = 1 ∧ (0 : Nat) < 142 ∧ (7 : Nat) < 8 := by decide

theorem wit_RepairAndPowerComplete_pwrWarn : (svcSet [(D.Pwr.PWR_WARNS, 0, 4294967295), (D.Rst.STARTUP_STAGE, 0, 4)] : State).dev.pwr.warnLow = false ∧ (svcSet [(D.Pwr.PWR_WARNS, 0, 4294967295), (D.Rst.STARTUP_STAGE, 0, 4)] : State).dev.inCold = false := by decide

theorem wit_RepairAndPowerComplete_pwrWarnRise : (svcWith (fun d => { d with pwr := { d.pwr with warnLow := true, suspended := true } }) : State).dev.pwr.warnLow = true := by decide

theorem wit_RingAndSensorsComplete_logIntervalEnd : (svcWith (fun d => { d with raw := 600000000000 * 2 ^ 32, ring := { d.ring with t0 := { d.ring.t0 with next := 16383, seq := 16383 } } }) : State).dev.flashOpen = true ∧ (svcWith (fun d => { d with raw := 600000000000 * 2 ^ 32, ring := { d.ring with t0 := { d.ring.t0 with next := 16383, seq := 16383 } } }) : State).dev.ring.stepped = none ∧ ((svcWith (fun d => { d with raw := 600000000000 * 2 ^ 32, ring := { d.ring with t0 := { d.ring.t0 with next := 16383, seq := 16383 } } }) : State).dev.ring.start / 600000000000 + 1) * 600000000000 ≤ ((svcWith (fun d => { d with raw := 600000000000 * 2 ^ 32, ring := { d.ring with t0 := { d.ring.t0 with next := 16383, seq := 16383 } } }) : State).dev.elapse (5 : Nat)).now := by decide

theorem wit_RingAndSensorsComplete_eventRecordWrite : (svcWith (fun d => { d with events := [⟨5, 7, 9⟩], ring := { d.ring with t2 := { d.ring.t2 with next := 262143 } } }) : State).dev.flashOpen = true ∧ (svcWith (fun d => { d with events := [⟨5, 7, 9⟩], ring := { d.ring with t2 := { d.ring.t2 with next := 262143 } } }) : State).dev.events = (⟨5, 7, 9⟩ : EventRec) :: ([] : List EventRec) := by decide

theorem wit_RingAndSensorsComplete_ringCmdVerify : (svcSet [(D.VerifyResult.STATE, 0, 3)] : State).dev.grants (ask 2 : Rcp) 0x1210 4 ⟨4, 2 ^ 24 + (2 : Nat)⟩ = true ∧ (2 : Nat) ≤ 2 ∧ (svcSet [(D.VerifyResult.STATE, 0, 3)] : State).dev.ring.verify = none := by decide

theorem wit_RingAndSensorsComplete_ringVerifyDone : (svcWith (fun d => { d with ring := { d.ring with verify := some (2, 0) } }) : State).dev.ring.verify = some ((2 : Nat), (0 : Nat)) ∧ (svcWith (fun d => { d with ring := { d.ring with verify := some (2, 0) } }) : State).dev.inReset = false ∧ ((svcWith (fun d => { d with ring := { d.ring with verify := some (2, 0) } }) : State).dev.elapse (5 : Nat)).past (0 : Nat) (((svcWith (fun d => { d with ring := { d.ring with verify := some (2, 0) } }) : State).dev.records (2 : Nat)).length * tierBytes (2 : Nat) * 1000000000 / 67108864) = true := by decide

theorem wit_RingAndSensorsComplete_thermalSample : (svc : State).dev.pwr.warnHot = false ∧ (svc : State).dev.pwr.crit = false ∧ (svc : State).dev.pwr.trip = false ∧ 110 ≤ (110 : Int) ∧ (110 : Int) < 120 := by decide

theorem wit_RingAndSensorsComplete_thermalSample_2 : (svc : State).dev.pwr.trip = false ∧ 120 ≤ (120 : Int) := by decide

theorem wit_RingAndSensorsComplete_avsUpdate : (svcWith (fun d => { d with pwr := { d.pwr with avsWritten := 640 } }) : State).dev.inReset = false ∧ 3 ≤ (svcWith (fun d => { d with pwr := { d.pwr with avsWritten := 640 } }) : State).dev.stage ∧ (svcWith (fun d => { d with pwr := { d.pwr with avsWritten := 640 } }) : State).dev.pwrWarn = false ∧ (svcWith (fun d => { d with pwr := { d.pwr with avsWritten := 640 } }) : State).dev.pwr.avsHigh = none := by decide

theorem wit_RingAndSensorsComplete_avsRetry : (svcWith (fun d => { d with pwr := { d.pwr with avsHigh := some 750 } }) : State).dev.inReset = false ∧ (svcWith (fun d => { d with pwr := { d.pwr with avsHigh := some 750 } }) : State).dev.pwrWarn = false ∧ (svcWith (fun d => { d with pwr := { d.pwr with avsHigh := some 750 } }) : State).dev.pwr.avsHigh = some (750 : Nat) ∧ ((svcWith (fun d => { d with pwr := { d.pwr with avsHigh := some 750 } }) : State).dev.elapse (100000000 : Nat)).past (svcWith (fun d => { d with pwr := { d.pwr with avsHigh := some 750 } }) : State).dev.pwr.avsAt 100000000 = true := by decide

theorem wit_RingAndSensorsComplete_pmbusPoll : (svc : State).dev.inReset = false ∧ 3 ≤ (svc : State).dev.stage ∧ ((svc : State).dev.elapse (100000000 : Nat)).past (svc : State).dev.pwr.polledAt 100000000 = true ∧ (svc : State).dev.pwr.alertLow = false := by decide

end Sys2Proof.Tests
end

section
/-! Obligations of 00_scope.md: what the common checks of a request answer (R3, R10, R12, R413), and what a READ sends. -/

namespace Sys2Proof.Machine

open Sys2Proof

/-! ## Requests that are taken -/

/-- A value that fits its count is not cut. -/
theorem Bytes.cut_of_lt (v : Bytes) (h : v.val < 256 ^ v.len) : Bytes.cut v = v := by
  simp only [Bytes.cut, Nat.mod_eq_of_lt h]

/-- A response is the last thing an answer sends. -/
theorem Dev.out_answer (d : Dev) (q : Rcp) (r : Reply) (h : r.status ≠ St.LATER) :
    (d.answer q r).out = d.out ++ [.response q.via q.peer q.port q.session q.seq q.op r.status r.payload (sealBack q)] := by
  simp only [Dev.answer, h, if_false, Dev.sendOn, Dev.emit]
  split <;> simp only [Dev.sat, Dev.wr_out, Dev.setSession_out]

/-- A command whose device queues no bytes for the frame store only changes the device. -/
theorem State.actMem_of_memQ_nil (s : State) (f : Dev → Dev) (h : (f s.dev).memQ = []) :
    s.actMem f = .next { s with dev := f s.dev } := by
  have keep : ({ f s.dev with memQ := [] } : Dev) = f s.dev := by rw [← h]
  simp only [State.actMem, h, List.find?_nil, Memory.writeAll, keep]

/-- A request that is taken and whose body only refuses it leaves the device where the body starts, but for the response. -/
theorem serve_refused (me : Instr) (q : Rcp) (anon early : Bool) (ix : Option Nat) (body : Who → Dev → Dev × Reply) (d : Dev) (st : Nat)
    (h : d.takes q = true) (hb : body (d.asker q) (d.atBody q) = (d.atBody q, Reply.of st)) (hst : st < 0x100) :
    serve me q anon early ix body d = (d.atBody q).answer q (Reply.of st) := by
  rw [serve_takes me q anon early ix body d h] <;> rw [hb]
  simp only [Reply.of, St.DEFER]; omega

/-- The refusal is answered with its status. -/
theorem Dev.answered_refused (d : Dev) (q : Rcp) (st : Nat) (hst : st < 0x100) : (d.answer q (Reply.of st)).answered q st = true :=
  Dev.answered_answer d q (Reply.of st) (by simp only [Reply.of, St.LATER]; omega)

/-! ## The common checks of a WRITE, case by case -/

theorem Dev.roleFail_of_lt (d : Dev) (w : Who) {need : Nat} (h : w.role < need) :
    d.roleFail w need = some (if need = 4 ∧ d.rd D.Sec.OWNER_STATE 0 = 0 then St.NOT_OWNER else St.ACCESS) := by
  simp only [Dev.roleFail, h, if_true]
  split <;> rfl

theorem Dev.roleFail_eq_none_iff (d : Dev) (w : Who) (need : Nat) :
    d.roleFail w need = none ↔ need ≤ w.role ∧ (need = 4 → d.rd D.Sec.OWNER_STATE 0 ≠ 0) := by
  unfold Dev.roleFail
  split
  · simp_all
  · split <;> simp_all

theorem Dev.writeFail_of_row_none (d : Dev) (w : Who) {ix sub : Nat} (v : Bytes) (hr : Dict.row ix sub = none) :
    d.writeFail w ix sub v = some St.NO_ENTRY := by
  simp only [Dev.writeFail, hr]

section
variable (d : Dev) (w : Who) {ix sub : Nat} (v : Bytes) {r : Dict.Row} (hr : Dict.row ix sub = some r)
include hr

theorem Dev.writeFail_of_readOnly (h : r.acc = 0 ∨ r.acc = 3) : d.writeFail w ix sub v = some St.ACCESS := by
  simp only [Dev.writeFail, hr, h, if_true]

theorem Dev.writeFail_of_roleFail (h : ¬(r.acc = 0 ∨ r.acc = 3)) {st : Nat} (hw : d.roleFail w r.role = some st) :
    d.writeFail w ix sub v = some st := by
  simp only [Dev.writeFail, hr, h, if_false, hw]

/-- An entry that the role may write is judged by its value alone: encoding, then reserved bits and range. -/
theorem Dev.writeFail_of_allowed (h : ¬(r.acc = 0 ∨ r.acc = 3)) (hw : d.roleFail w r.role = none) :
    d.writeFail w ix sub v =
      if r.ty = 13 ∨ 1096 < r.size ∨ v.len ≠ r.size ∨ !r.typed v.val then some St.TYPE
      else if !r.t80Ok v.val || !r.chk.ok v.val then some St.RANGE
      else none := by
  simp only [Dev.writeFail, hr, h, if_false, hw]

end

/-- A write passes only where the entry may be written and the role may write it. -/
theorem Dev.writeFail_eq_none (d : Dev) (w : Who) {ix sub : Nat} (v : Bytes) {r : Dict.Row} (hr : Dict.row ix sub = some r)
    (h : d.writeFail w ix sub v = none) : ¬(r.acc = 0 ∨ r.acc = 3) ∧ d.roleFail w r.role = none := by
  by_cases hacc : r.acc = 0 ∨ r.acc = 3
  · rw [Dev.writeFail_of_readOnly d w v hr hacc] at h; cases h
  · refine ⟨hacc, ?_⟩
    cases hw : d.roleFail w r.role with
    | none => rfl
    | some st => rw [Dev.writeFail_of_roleFail d w v hr hacc hw] at h; cases h

/-- The checks give statuses of Table 15.5. -/
theorem Dev.writeFail_lt (d : Dev) (w : Who) {ix sub : Nat} (v : Bytes) {st : Nat} (h : d.writeFail w ix sub v = some st) : st < 0x100 := by
  cases hr : Dict.row ix sub with
  | none => rw [Dev.writeFail_of_row_none d w v hr] at h; cases h; decide
  | some r =>
    by_cases hacc : r.acc = 0 ∨ r.acc = 3
    · rw [Dev.writeFail_of_readOnly d w v hr hacc] at h; cases h; decide
    · cases hw : d.roleFail w r.role with
      | none =>
        rw [Dev.writeFail_of_allowed d w v hr hacc hw] at h
        split at h
        · cases h; decide
        · split at h <;> cases h
          decide
      | some st' =>
        rw [Dev.writeFail_of_roleFail d w v hr hacc hw] at h; cases h
        unfold Dev.roleFail at hw
        split at hw
        · cases hw; decide
        · split at hw <;> cases hw
          decide

/-- A WRITE that is taken and fails a check leaves the device where its body starts, but for the response. -/
theorem exec_write_refused (s : State) (q : Rcp) (ix sub st : Nat) (v : Bytes) (ht : s.dev.takes q = true)
    (hf : s.dev.writeFail (s.dev.asker q) ix sub (Bytes.cut v) = some st) :
    exec (.write q ix sub v) s = .next { s with dev := (s.dev.atBody q).answer q (Reply.of st) } := by
  have hbody := Dev.writeFail_atBody s.dev q (s.dev.asker q) ix sub (Bytes.cut v)
  rw [hf] at hbody
  simp only [exec, execWrite, State.act, serveWrite]
  rw [serve_refused _ q false false (some ix) _ s.dev st ht (by simp only [hbody]) (Dev.writeFail_lt _ _ _ hf)]

/-- Settles O11: the first part is `exec_write_refused`, the rest the checks one by one. -/
theorem refusedWritesChangeNothing : Obligations.RefusedWritesChangeNothing := by
  unfold Obligations.RefusedWritesChangeNothing
  refine ⟨fun s q ix sub st v ht hf hv => ?_, fun d w ix sub v r hr => ⟨?_, ?_, ?_, ?_, ?_⟩⟩
  · exact exec_write_refused s q ix sub st v ht (by rw [Bytes.cut_of_lt v hv]; exact hf)
  · exact Dev.writeFail_of_readOnly d w v hr
  · intro h0 h3 hrole
    exact Dev.writeFail_of_roleFail d w v hr (by omega) (Dev.roleFail_of_lt d w hrole)
  · intro h0 h3 hrole hown hlen
    rw [Dev.writeFail_of_allowed d w v hr (by omega) ((Dev.roleFail_eq_none_iff ..).2 ⟨hrole, hown⟩)]
    exact if_pos (.inr (.inr (.inl hlen)))
  · intro h0 h3 hrole hown hty hsize hlen htyped hbad
    have hok : ¬(r.ty = 13 ∨ 1096 < r.size ∨ v.len ≠ r.size ∨ !r.typed v.val) := by
      simp [hty, hlen, htyped, hsize]
    rw [Dev.writeFail_of_allowed d w v hr (by omega) ((Dev.roleFail_eq_none_iff ..).2 ⟨hrole, hown⟩), if_neg hok]
    exact if_pos (by simpa using hbad)
  · intro w' hle hpass
    obtain ⟨hacc, hw⟩ := Dev.writeFail_eq_none d w v hr hpass
    obtain ⟨hrole, hown⟩ := (Dev.roleFail_eq_none_iff ..).1 hw
    rw [Dev.writeFail_of_allowed d w' v hr hacc ((Dev.roleFail_eq_none_iff ..).2 ⟨by omega, hown⟩),
      ← Dev.writeFail_of_allowed d w v hr hacc hw]
    exact hpass

/-! ## Indexes outside the directory -/

/-- Every record of the dictionary lies in a range of Table 00.3. -/
theorem Dict.records_inside : ∀ r ∈ Dict.records, r.1 + r.2.1 ≤ 0x1400 ∨ 0x4000 ≤ r.1 ∧ r.1 + r.2.1 ≤ 0x60C0
    ∨ 0x6100 ≤ r.1 ∧ r.1 + r.2.1 ≤ 0x610C ∨ 0x6200 ≤ r.1 ∧ r.1 + r.2.1 ≤ 0x6240 ∨ 0x7000 ≤ r.1 ∧ r.1 + r.2.1 ≤ 0x7800 := by
  decide

theorem Dict.row_of_outsideDirectory {ix : Nat} (sub : Nat) (h : outsideDirectory ix = true) : Dict.row ix sub = none := by
  have hnone : Dict.records.find? (fun r => decide (r.1 ≤ ix) && decide (ix < r.1 + r.2.1)) = none := by
    rw [List.find?_eq_none]
    intro r hr
    have hin := Dict.records_inside r hr
    simp only [outsideDirectory, Bool.not_eq_true', Bool.or_eq_false_iff, Bool.and_eq_false_iff, decide_eq_false_iff_not] at h
    simp only [Bool.and_eq_true, decide_eq_true_eq]
    omega
  simp only [Dict.row, hnone]

section
variable (s : State) (q : Rcp) {ix sub : Nat} (ht : s.dev.takes q = true) (hr : Dict.row ix sub = none)
include ht hr

theorem exec_read_noEntry : exec (.read q ix sub) s = .next { s with dev := (s.dev.atBody q).answer q (Reply.of St.NO_ENTRY) } := by
  simp only [exec, execRead, State.act]
  rw [serve_refused _ q true true (some ix) _ s.dev St.NO_ENTRY ht (by simp only [Dev.readBody, hr]) (by decide)]

theorem exec_readDom_noEntry (flags offset length : Nat) :
    exec (.readDom q ix sub flags offset length) s = .next { s with dev := (s.dev.atBody q).answer q (Reply.of St.NO_ENTRY) } := by
  simp only [exec, execReadDom, State.act]
  rw [serve_refused _ q true true (some ix) _ s.dev St.NO_ENTRY ht (by simp [Dev.readDomBody, hr]) (by decide)]

theorem exec_writeDom_noEntry (hm : s.dev.memQ = []) (flags offset : Nat) (v : Bytes) :
    exec (.writeDom q ix sub flags offset v) s = .next { s with dev := (s.dev.atBody q).answer q (Reply.of St.NO_ENTRY) } := by
  have hserve := serve_refused (.writeDom q.again ix sub flags offset v) q false false (some ix)
    (fun w d => ((d.writeDomBody w q ix sub flags offset (Bytes.cut v)).1, Reply.of (d.writeDomBody w q ix sub flags offset (Bytes.cut v)).2))
    s.dev St.NO_ENTRY ht (by simp [Dev.writeDomBody, hr]) (by decide)
  simp only [exec, execWriteDom]
  rw [State.actMem_of_memQ_nil _ _ (by rw [hserve, Dev.memQ_answer, Dev.memQ_atBody, hm]), hserve]

end

/-- Settles O10: no record covers the index, and each of the four requests asks for the row first. -/
theorem noEntryOutsideTheDirectory : Obligations.NoEntryOutsideTheDirectory := by
  unfold Obligations.NoEntryOutsideTheDirectory
  intro ix sub hout
  have hr := Dict.row_of_outsideDirectory sub hout
  refine ⟨hr, fun s q v offset length ht hm => ?_⟩
  have hans := Dev.answered_refused (s.dev.atBody q) q St.NO_ENTRY (by decide)
  have hwrite := exec_write_refused s q ix sub St.NO_ENTRY v ht (Dev.writeFail_of_row_none _ _ _ hr)
  exact ⟨⟨_, exec_read_noEntry s q ht hr, hans⟩, ⟨_, hwrite, hans⟩, fun _ _ => ⟨_, exec_readDom_noEntry s q ht hr 128 offset length, hans⟩,
    fun _ _ => ⟨_, exec_writeDom_noEntry s q ht hr hm 128 offset v, hans⟩⟩

/-! ## What a READ of the dowel area sends

A READ of any entry of 0x0B10 first lets every dowel lane send what has fallen due (`Dev.fetch`), so the response is not all that it sends. -/

/-- A session of the OWNER role that has asked nothing yet. -/
def freshSession : Session := ⟨0, 1, 4, 0, [], 0, [], none, false, [], [], 0, 0, 0, 0, 0, 0, 0⟩

/-- A device in service with that session, whose dowel lane 0 is in rotation and has nothing to send. -/
def laneInRotation : Dev :=
  ({ rst := {}, flash := Dev.reset.flash,
     rcp := { inUse := MgNet.defaults, sessions := [freshSession] } } : Dev)
    |>.wr D.Rst.STARTUP_STAGE 0 6 |>.wr D.DwlLane.LANE_STATE 0 2

/-- The session's first request, a READ after 1 µs, in which the lane's first skip set falls due (R203). -/
def readAfterSkip : Rcp := ⟨1000, 0, 0, 0, 0x5243, 1, 0, 1, 1, 1, true, .gcm 0 (gcmNonce 1 0 1), MgNet.defaults.port⟩

/-- HIGHEST_SUB of the dowel area. -/
def dwlHighestSub : Dict.Row := ⟨0x0B10, 1, 0x00, 2, 1, 0, 0, false, 0, 5, {}⟩

theorem row_dwlHighestSub : Dict.row 0x0B10 0 = some dwlHighestSub := by decide

theorem Dev.readBody_dwlHighestSub (d : Dev) (role : Nat) :
    d.readBody role 0x0B10 0 = (d.lanesOut, ⟨St.OK, d.lanesOut.object dwlHighestSub 0x0B10⟩) := by
  have hread : readFail role dwlHighestSub = none := by simp [readFail, dwlHighestSub]
  simp only [Dev.readBody, row_dwlHighestSub, hread]
  simp [Dev.fetch, dwlHighestSub]

/-- A READ of it that is taken sends what the lanes owe and then the response. -/
theorem exec_read_dwlHighestSub_out (s t : State) (q : Rcp) (ht : s.dev.takes q = true) (h : exec (.read q 0x0B10 0) s = .next t) :
    ∃ e, t.dev.out = (s.dev.atBody q).lanesOut.out ++ [e] := by
  have hok : St.OK ≠ St.DEFER := by decide
  simp only [exec, execRead, State.act] at h
  rw [serve_takes _ q true true _ _ s.dev ht (by rw [Dev.readBody_dwlHighestSub]; exact hok), Dev.readBody_dwlHighestSub] at h
  cases h
  exact ⟨_, Dev.out_answer _ q _ (show St.OK ≠ St.LATER by decide)⟩

/-- Refutes O43: a READ of 0x0B10.00 sends the idle characters of a dowel lane before its response, where the first clause says that the
response is all it sends. -/
theorem not_rcpReadsAndWritesComplete : ¬ Obligations.RcpReadsAndWritesComplete := by
  unfold Obligations.RcpReadsAndWritesComplete
  intro ⟨hread, _⟩
  have ht : laneInRotation.takes readAfterSkip = true := by decide
  obtain ⟨t, hexec, hout, _⟩ := hread ⟨laneInRotation, [], []⟩ readAfterSkip 0x0B10 0 dwlHighestSub freshSession ht (by decide) row_dwlHighestSub
    (by decide) (by decide)
  obtain ⟨e, hsent⟩ := exec_read_dwlHighestSub_out ⟨laneInRotation, [], []⟩ t readAfterSkip ht hexec
  have hidle : (laneInRotation.atBody readAfterSkip).lanesOut.out.length = 1 := by decide +kernel
  rw [hsent] at hout
  have hlen := congrArg List.length hout
  simp only [List.length_append, List.length_singleton, hidle] at hlen
  omega

end Sys2Proof.Machine
end

section
/-! Obligations of 01_architecture.md: what becomes of the cells that arrive at an output (R15, R102, R105). -/

namespace Sys2Proof.Machine

open Sys2Proof

/-! ## A standby copy that waits until its release

CELL_RELEASE first ends the merge window of the number that is due (`Dev.settleWindow`), so a number of which nothing is kept before the
command may have its standby copy kept by it (R102). -/

/-- A command that may write the frame store leaves the dictionary as its effect on the device does. -/
theorem State.rd_of_actMem {s t : State} {f : Dev → Dev} (h : s.actMem f = .next t) (g : Fld) (m : Nat) : t.dev.rd g m = (f s.dev).rd g m := by
  simp only [State.actMem] at h
  split at h
  · cases h
  · cases h; rfl

/-- A cell of flow 9 that begins a frame: sequence number 4, ingress time 100,000 ns, so that an output with the default playout delay of
1,600 ns releases it at 101,600 ns (R15). -/
def standbyCell : Cell := Cell.build 1 true false false 9 4 100000 1 256 0 77

/-- Its slot: plane Y has delivered it as the standby plane at 101,000 ns, and the copy waits for the end of its merge window. -/
def waitingSlot : Slot := ⟨4, 100000, [⟨1, true, true, standbyCell, true, 101000⟩], none, false, false, false⟩

/-- The merge of that flow, anchored and before its first release. -/
def waitingMerge : Merge := ⟨9, 1, some 100000, [waitingSlot], none⟩

/-- A device in service, 5 ns before the release, whose SDI output 0 takes the flow: plane X is ACTIVE and has delivered nothing, plane Y is
STANDBY, and the window of 45 ns ended at 101,045 ns. -/
def outputBeforeRelease : Dev :=
  (({ Dev.reset with rst := {}, wall := 101595, raw := 101595 } : Dev)
    |>.wr D.Rst.STARTUP_STAGE 0 6 |>.wr D.Plane.STATE 0 PlaneState.ACTIVE |>.wr D.Plane.STATE 1 PlaneState.STANDBY
    |>.wr D.Flow.KIND 4096 0x41 |>.wr D.Flow.STATE 4096 FlowState.RUNNING).setFlow 4096 (fun x => { x with cur := some waitingMerge })

/-- Nothing is kept, yet the number is timed: its waiting copy has a right HCRC. -/
theorem waitingSlot_timed : waitingSlot.timed = true := by decide +kernel

theorem waitingMerge_next : waitingMerge.next = some 4 := by decide +kernel

/-- The release takes the waiting copy as a cell and counts nothing as missing. -/
theorem cellRelease_takes_waitingCopy {t : State} (h : exec (.cellRelease 5 4096) ⟨outputBeforeRelease, [], []⟩ = .next t) :
    t.dev.rd D.Flow.CELLS 4096 = 1 ∧ t.dev.rd D.Flow.MISSING 4096 = 0 := by
  rw [exec, execCellRelease] at h
  rw [State.rd_of_actMem h, State.rd_of_actMem h]
  decide +kernel

/-- Refutes O14: its clause on missing numbers asks only that nothing is kept when CELL_RELEASE begins. Where the window of a waiting standby
copy has ended by then, the command keeps that copy and releases it (R102), and MISSING stays as it was (R105). -/
theorem not_cellsAreTakenOrCounted : ¬ Obligations.CellsAreTakenOrCounted := by
  unfold Obligations.CellsAreTakenOrCounted
  intro ⟨_, _, _, _, _, _, hmissing, _⟩
  obtain ⟨t, hexec, hcount, _⟩ := hmissing ⟨outputBeforeRelease, [], []⟩ 5 4096 4 waitingMerge waitingSlot (by decide) (by decide) (by decide)
    (by decide) (by decide) rfl waitingMerge_next rfl rfl waitingSlot_timed (by decide)
  obtain ⟨_, hafter⟩ := cellRelease_takes_waitingCopy hexec
  have hbefore : outputBeforeRelease.rd D.Flow.MISSING 4096 = 0 := by decide
  rw [hafter, hbefore] at hcount
  exact absurd hcount (by decide)

end Sys2Proof.Machine
end

section
/-! Lemmas: what the updates of the device leave of the records that repeat from 0x4000 on (Table 00.3), in the order of the definitions. -/

namespace Sys2Proof.Machine

open Sys2Proof

/-! ## Fields of the records -/

theorem Dev.rd_sat_same (d : Dev) (f : Fld) (n k : Nat) : (d.sat f n k).rd f n = min (d.rd f n + k) (2 ^ f.w - 1) := by
  have hpos : 0 < 2 ^ f.w := Nat.two_pow_pos _
  rw [Dev.sat, Dev.rd_wr_same, Nat.mod_eq_of_lt (by omega)]

theorem Dev.rd_add_same (d : Dev) (f : Fld) (n k : Nat) : (d.add f n k).rd f n = (d.rd f n + k) % 2 ^ f.w :=
  Dev.rd_wr_same d f n _

/-- Does a field lie in a record that repeats, from the flow contexts on (Table 00.3)? -/
def Fld.inRecord (g : Fld) : Bool := g.rep && decide (0x4000 ≤ g.ix)

/-- Does a field lie in an entry below those records that does not repeat? -/
def Fld.belowRecords (f : Fld) : Bool := !f.rep && decide (f.ix < 0x4000)

theorem Fld.apart_of_belowRecords {f g : Fld} (hf : Fld.belowRecords f = true) (hg : Fld.inRecord g = true) : Fld.apart f g = true := by
  simp only [Fld.belowRecords, Fld.inRecord, Bool.and_eq_true, Bool.not_eq_true', decide_eq_true_eq] at hf hg
  have hix : f.ix < g.ix := by omega
  simp [Fld.apart, hf, hg, hix]

/-- A loop over any list whose body leaves a field alone leaves it alone. -/
theorem Dev.rd_foldl {α : Type} (d : Dev) (g : Fld) (m : Nat) (l : List α) (f : Dev → α → Dev) (h : ∀ d x, (f d x).rd g m = d.rd g m) :
    (l.foldl f d).rd g m = d.rd g m := by
  induction l generalizing d with
  | nil => rfl
  | cons x t ih => rw [List.foldl_cons, ih, h]

/-- A choice reads as both of its branches do. -/
theorem Dev.rd_ite {p : Prop} [Decidable p] {a b : Dev} (g : Fld) (m : Nat) {v : Nat} (ha : a.rd g m = v) (hb : b.rd g m = v) :
    (if p then a else b).rd g m = v := by
  split <;> assumption

/-! ## Updates beside the dictionary -/

section
variable (d : Dev) (g : Fld) (m c : Nat)

@[simp] theorem Dev.rd_setRx (f : SdiRxSt → SdiRxSt) : (d.setRx c f).rd g m = d.rd g m := (rfl)
@[simp] theorem Dev.rd_setTx (f : HoldSt → HoldSt) : (d.setTx c f).rd g m = d.rd g m := (rfl)
@[simp] theorem Dev.rd_setNetRx (f : NetRxSt → NetRxSt) : (d.setNetRx c f).rd g m = d.rd g m := (rfl)
@[simp] theorem Dev.rd_setHead (f : HeadSt → HeadSt) : (d.setHead c f).rd g m = d.rd g m := (rfl)
@[simp] theorem Dev.rd_setLayer (f : LayerSt → LayerSt) : (d.setLayer c f).rd g m = d.rd g m := (rfl)
@[simp] theorem Dev.rd_setStore (f : StoreSt → StoreSt) : (d.setStore f).rd g m = d.rd g m := (rfl)
@[simp] theorem Dev.rd_setDl (f : DwlLaneSt → DwlLaneSt) : (d.setDl c f).rd g m = d.rd g m := (rfl)
@[simp] theorem Dev.rd_setDg (f : DwlGroupSt → DwlGroupSt) : (d.setDg c f).rd g m = d.rd g m := (rfl)
@[simp] theorem Dev.rd_embedStop : (d.embedStop c).rd g m = d.rd g m := (rfl)
@[simp] theorem Dev.rd_setRoute (e g' : Nat) : (d.setRoute e c g').rd g m = d.rd g m := (rfl)
@[simp] theorem Dev.rd_intoPlanes (cell : Cell) : (d.intoPlanes c cell).rd g m = d.rd g m := (rfl)
@[simp] theorem Dev.rd_putAlloc (a : Option Alloc) : (d.putAlloc c a).rd g m = d.rd g m := (rfl)

@[simp] theorem Dev.flowSt_setFlow_same (f : FlowSt → FlowSt) : (d.setFlow c f).flowSt c = f (d.flowSt c) := nget_nput_same ..
@[simp] theorem Dev.netRxSt_setNetRx_same (f : NetRxSt → NetRxSt) : (d.setNetRx c f).netRxSt c = f (d.netRxSt c) := nget_nput_same ..

theorem Dev.rd_tablePut (v : Nat) : (d.tablePut c v).rd g m = d.rd g m := by
  have hxp : ∀ (x : Dev) (y : XpSt), ({ x with xp := y } : Dev).rd g m = x.rd g m := fun _ _ => rfl
  rw [Dev.tablePut, Dev.rd_each _ _ _ _ _ fun d n => Dev.rd_setPlane ..]
  split
  · exact hxp ..
  · rfl

theorem Dev.rd_showMatch (l : Nat) : (d.showMatch l).rd g m = d.rd g m := by
  unfold Dev.showMatch
  exact Dev.rd_ite g m rfl (Dev.rd_ite g m ((Dev.rd_raiseL ..).trans (Dev.rd_setRx ..)) ((Dev.rd_endCond ..).trans (Dev.rd_setRx ..)))

theorem Dev.rd_showRelay : (d.showRelay c).rd g m = d.rd g m := by
  unfold Dev.showRelay
  exact Dev.rd_ite g m rfl (Dev.rd_ite g m rfl (Dev.rd_tablePut ..))

theorem Dev.rd_headRestart : (d.headRestart c).rd g m = d.rd g m := by
  unfold Dev.headRestart
  split
  · exact Dev.rd_setHead ..
  · rfl

theorem Dev.rd_layerIdle : (d.layerIdle c).rd g m = d.rd g m := by
  unfold Dev.layerIdle
  split
  · rfl
  · exact Dev.rd_setLayer ..

end

/-! ## What leaves the records alone -/

section
variable (d : Dev) {g : Fld} (m : Nat) (hg : Fld.inRecord g = true)
include hg

theorem Dev.rd_wr_below {f : Fld} (hf : Fld.belowRecords f = true) (n v : Nat) : (d.wr f n v).rd g m = d.rd g m :=
  Dev.rd_wr_apart d f g n m v (Fld.apart_of_belowRecords hf hg)

theorem Dev.rd_sat_below {f : Fld} (hf : Fld.belowRecords f = true) (n k : Nat) : (d.sat f n k).rd g m = d.rd g m :=
  Dev.rd_wr_below d m hg hf ..

theorem Dev.rd_flag_below {f : Fld} (hf : Fld.belowRecords f = true) (n : Nat) (b : Bool) : (d.flag f n b).rd g m = d.rd g m :=
  Dev.rd_wr_below d m hg hf ..

/-! ### Lanes and groups of the dowels -/

omit hg in
theorem Dev.rd_sendSet (e l p : Nat) (s : LaneDue) : (d.sendSet e l p s).rd g m = d.rd g m := by
  cases s <;> simp [Dev.sendSet]

theorem Dev.rd_showRotation (e : Nat) (ls : List Nat) : (d.showRotation e ls).rd g m = d.rd g m := by
  simp only [Dev.showRotation]
  rw [Dev.rd_each _ _ _ _ _ fun d l => Dev.rd_wr_below d m hg (by decide) _ _, Dev.rd_wr_below _ m hg (by decide),
    Dev.rd_wr_below _ m hg (by decide)]

theorem Dev.rd_sendItem (e l p : Nat) (i : ItemDue) : (d.sendItem e l p i).rd g m = d.rd g m := by
  have hcount : (match i with
      | .cell _ c => (d.emit (.dowelCell e c)).sat D.GroupCounters.CELLS_TX e 1
      | .frame _ => d.sat D.GroupCounters.MGMT_TX e 1).rd g m = d.rd g m := by
    cases i with
    | cell r c => rw [Dev.rd_sat_below _ m hg (by decide), Dev.rd_emit]
    | frame b => exact Dev.rd_sat_below d m hg (by decide) ..
  unfold Dev.sendItem
  refine (Dev.rd_each _ _ _ _ _ fun d l => Dev.rd_setDl ..).trans (Dev.rd_ite g m ?_ ((Dev.rd_showRotation _ m hg ..).trans ?_))
  all_goals
    rw [Dev.rd_setDg, Dev.rd_wr_below _ m hg (by decide), Dev.rd_setDl, Dev.rd_emit]
    exact hcount

theorem Dev.rd_laneTurn (e l p : Nat) : (d.laneTurn e l p).rd g m = d.rd g m := by
  unfold Dev.laneTurn
  split
  · exact Dev.rd_sendSet d m ..
  · split
    · exact Dev.rd_sendItem d m hg ..
    · rfl

theorem Dev.rd_groupTurns (e k : Nat) : (d.groupTurns e k).rd g m = d.rd g m := by
  induction k generalizing d with
  | zero => rfl
  | succ k ih =>
    unfold Dev.groupTurns
    split
    · rfl
    · split
      · split
        · rw [ih, Dev.rd_laneTurn _ m hg]
        · rfl
      · rfl

omit hg in
theorem Dev.rd_laneIdle (e : Nat) : (d.laneIdle e).rd g m = d.rd g m := by
  simp only [Dev.laneIdle]
  split
  · rfl
  · split <;> simp

theorem Dev.rd_groupRun (e : Nat) : (d.groupRun e).rd g m = d.rd g m := by
  simp only [Dev.groupRun]
  rw [Dev.rd_each _ _ _ _ _ fun d l => Dev.rd_laneIdle d m l, Dev.rd_groupTurns d m hg]

theorem Dev.rd_sendItems (e : Nat) (l : List ItemDue) : (d.sendItems e l).rd g m = d.rd g m := by
  simp only [Dev.sendItems]
  rw [Dev.rd_groupRun _ m hg, Dev.rd_setDg, Dev.rd_groupRun d m hg]

theorem Dev.rd_sendOver (ms : List Nat) (relayed : Bool) (c : Cell) : (d.sendOver ms relayed c).rd g m = d.rd g m := by
  unfold Dev.sendOver
  refine Dev.rd_each _ _ _ _ _ fun d n => ?_
  split
  · rw [Dev.rd_sendItems _ m hg]
    split <;> simp
  · rfl

/-! ### SDI lanes -/

theorem Dev.rd_readLines (c : Nat) : (d.readLines c).rd g m = d.rd g m := by
  unfold Dev.readLines
  rw [Dev.rd_setFlow]
  refine Dev.rd_each _ _ _ _ _ fun d i => Dev.rd_each _ _ _ _ _ fun d j => ?_
  split
  · exact Dev.rd_wr_below d m hg (by decide) ..
  · rfl

/-! ### The frame store -/

theorem Dev.rd_setHoldReady (c : Nat) (b : Bool) : (d.setHoldReady c b).rd g m = d.rd g m :=
  Dev.rd_ite g m (Dev.rd_each _ _ _ _ _ fun d l => Dev.rd_flag_below d m hg (by decide) ..) (Dev.rd_flag_below d m hg (by decide) ..)

theorem Dev.rd_dropHeld : d.dropHeld.rd g m = d.rd g m :=
  Dev.rd_each _ _ _ _ _ fun d _ => Dev.rd_ite g m ((Dev.rd_setTx ..).trans (Dev.rd_setHoldReady d m hg ..)) rfl

theorem Dev.rd_unmask (got : List Nat) : (d.unmask got).rd g m = d.rd g m :=
  Dev.rd_each _ _ _ _ _ fun d _ => Dev.rd_wr_below d m hg (by decide) ..

omit hg in
theorem Dev.rd_spendHost (got : List Nat) : (d.spendHost got).rd g m = d.rd g m := Dev.rd_ite g m (Dev.rd_setStore ..) rfl

theorem Dev.rd_fillBlocks (h : Nat) (ls : List Nat) (host lost : Bool) : (d.fillBlocks h ls host lost).rd g m = d.rd g m := by
  unfold Dev.fillBlocks
  split
  · rfl
  · exact Dev.rd_ite g m ((Dev.rd_spendHost ..).trans (Dev.rd_unmask _ m hg _)) (Dev.rd_unmask _ m hg _)

theorem Dev.rd_fillAlloc (h : Nat) (host lost : Bool) : (d.fillAlloc h host lost).rd g m = d.rd g m := by
  unfold Dev.fillAlloc
  split
  · rfl
  · exact Dev.rd_fillBlocks d m hg ..

theorem Dev.rd_regrowClass (cls : List Nat) (least : Bool) : (d.regrowClass cls least).rd g m = d.rd g m :=
  Dev.rd_foldl _ _ _ _ _ fun d _ => Dev.rd_ite g m rfl (Dev.rd_fillBlocks d m hg ..)

theorem Dev.rd_regrow : d.regrow.rd g m = d.rd g m :=
  Dev.rd_foldl _ _ _ _ _ fun d _ => (Dev.rd_regrowClass _ m hg ..).trans (Dev.rd_ite g m (Dev.rd_regrowClass d m hg ..) rfl)

theorem Dev.rd_reconcile (ws : List Want) : (d.reconcile ws).rd g m = d.rd g m := by
  simp only [Dev.reconcile]
  rw [Dev.rd_regrow _ m hg, Dev.rd_foldl _ _ _ _ _ fun d _ => (Dev.rd_fillAlloc _ m hg ..).trans (Dev.rd_putAlloc ..),
    Dev.rd_foldl _ _ _ _ _ fun d _ => Dev.rd_fillAlloc d m hg .., Dev.rd_setStore, Dev.rd_setStore]

theorem Dev.rd_settle : d.settle.rd g m = d.rd g m := by
  rw [Dev.settle, Dev.rd_dropHeld _ m hg, Dev.rd_reconcile d m hg]

/-! ### Safe state -/

theorem Dev.rd_countSafe (c : Nat) : (d.countSafe c).rd g m = d.rd g m :=
  Dev.rd_ite g m (Dev.rd_each _ _ _ _ _ fun d _ => Dev.rd_sat_below d m hg (by decide) ..)
    (Dev.rd_ite g m (Dev.rd_sat_below d m hg (by decide) ..) rfl)

theorem Dev.rd_showSafe (c : Nat) (b : Bool) : (d.showSafe c b).rd g m = (d.flag D.FlowStatus.SAFE c b).rd g m := by
  have below : ∀ (d : Dev) (f f' : Fld) (n : Nat), Fld.belowRecords f = true → Fld.belowRecords f' = true →
      (if b then d.flag f n b else (d.flag f n b).flag f' n false).rd g m = d.rd g m := fun d f f' n hf hf' =>
    Dev.rd_ite g m (Dev.rd_flag_below d m hg hf ..) ((Dev.rd_flag_below _ m hg hf' ..).trans (Dev.rd_flag_below d m hg hf ..))
  simp only [Dev.showSafe]
  exact Dev.rd_ite g m (Dev.rd_each _ _ _ _ _ fun d l => below d _ _ l (by decide) (by decide))
    (Dev.rd_ite g m (below _ _ _ _ (by decide) (by decide)) rfl)

theorem Dev.rd_safeNow (c : Nat) (hs : Fld.apart D.FlowStatus.SAFE g = true) : (d.safeNow c).rd g m = d.rd g m := by
  have hhold : ∀ (x : Dev) (h : NMap HoldSt), ({ x with hold := h } : Dev).rd g m = x.rd g m := fun _ _ => rfl
  simp only [Dev.safeNow]
  refine Dev.rd_ite g m rfl ?_
  rw [hhold, Dev.rd_showSafe _ m hg, Dev.rd_flag_apart _ _ _ _ _ _ hs, Dev.rd_countSafe d m hg]

end

end Sys2Proof.Machine
end

section
/-! Obligations of 02_flows_and_cells.md: how the flow engines move through their states, and the cell that an SDI input sends (R57, R60 to R62). -/

namespace Sys2Proof.Machine

open Sys2Proof

/-! ## Engine states (Table 02.7) -/

section
variable (d : Dev) {g : Fld} (m c : Nat)

theorem Fld.apart_of_status (hs : g.sub ≠ D.Flow.STATUS.sub) {f : Fld} (hf : f.sub = D.Flow.STATUS.sub) : Fld.apart f g = true := by
  simp [Fld.apart, hf, hs.symm]

theorem Dev.rd_flag_status (hs : g.sub ≠ D.Flow.STATUS.sub) {f : Fld} (hf : f.sub = D.Flow.STATUS.sub) (n : Nat) (b : Bool) :
    (d.flag f n b).rd g m = d.rd g m :=
  Dev.rd_flag_apart d g m f n b (Fld.apart_of_status hs hf)

theorem Dev.rd_freezeIf (hs : g.sub ≠ D.Flow.STATUS.sub) : (d.freezeIf c).rd g m = d.rd g m := by
  have hshow : (if d.kind c = 1 then d.each (d.lanes c) (fun d l => d.showMatch l) else d).rd g m = d.rd g m :=
    Dev.rd_ite g m (Dev.rd_each _ _ _ _ _ fun _ _ => Dev.rd_showMatch ..) rfl
  simp only [Dev.freezeIf]
  refine Dev.rd_ite g m ?_ hshow
  simp (disch := decide) only [Dev.rd_setFlow, Dev.rd_flag_status _ m hs, hshow]

/-- Entry to RUNNING writes STATE and SEQ_NEXT of a record, and else only its STATUS. -/
theorem Dev.rd_flowRun (hg : Fld.inRecord g = true) (hs : g.sub ≠ D.Flow.STATUS.sub) :
    (d.flowRun c).rd g m = ((d.flowTo c FlowState.RUNNING).wr D.Flow.SEQ_NEXT c 0).rd g m := by
  have hnet : ∀ (x : Dev) (y : NMap NetTxSt), ({ x with netTx := y } : Dev).rd g m = x.rd g m := fun _ _ => rfl
  simp only [Dev.flowRun]
  refine Dev.rd_ite g m ?_ ?_
  · rw [Dev.rd_showRelay, Dev.rd_headRestart, Dev.rd_freezeIf _ m c hs, Dev.rd_setNetRx, Dev.rd_setFlow]
  · refine (Dev.rd_ite g m (Dev.rd_safeNow _ m hg _ (Fld.apart_of_status hs rfl)) rfl).trans ((Dev.rd_ite g m (Dev.rd_embedStop ..) rfl).trans ?_)
    refine (Dev.rd_ite g m ?_ rfl).trans ?_
    · simp (disch := decide) only [Dev.rd_flag_below _ m hg, Dev.rd_wr_below _ m hg, hnet]
    · simp (disch := decide) only [Dev.rd_setFlow, Dev.rd_flag_status _ m hs]

theorem Dev.rd_flowTo_state (st : Nat) : (d.flowTo c st).rd D.Flow.STATE c = st % 2 ^ 8 := by
  rw [Dev.flowTo, Dev.rd_setFlow]
  exact Dev.rd_wr_same ..

theorem Dev.rd_flowTo_of_apart (hg : Fld.apart D.Flow.STATE g = true) (st : Nat) : (d.flowTo c st).rd g m = d.rd g m := by
  rw [Dev.flowTo, Dev.rd_setFlow, Dev.rd_wr_apart _ _ _ _ _ _ hg]

theorem Dev.rd_flowRun_state : (d.flowRun c).rd D.Flow.STATE c = FlowState.RUNNING := by
  rw [Dev.rd_flowRun d c c (by decide) (by decide), Dev.rd_wr_apart _ _ _ _ _ _ (by decide), Dev.rd_flowTo_state]
  rfl

theorem Dev.rd_flowRun_seqNext : (d.flowRun c).rd D.Flow.SEQ_NEXT c = 0 := by
  rw [Dev.rd_flowRun d c c (by decide) (by decide), Dev.rd_wr_same, Nat.zero_mod]

theorem Dev.rd_flowStart_state : (d.flowStart c).rd D.Flow.STATE c = FlowState.STARTING := by
  rw [Dev.flowStart, Dev.rd_setFlow, Dev.rd_flowTo_state]
  rfl

theorem Dev.rd_flowStart_cells : (d.flowStart c).rd D.Flow.CELLS c = 0 := by
  rw [Dev.flowStart, Dev.rd_setFlow, Dev.rd_flowTo_of_apart _ _ _ (by decide), Dev.rd_wr_same, Nat.zero_mod]

theorem Dev.rd_peerGone_state : (d.peerGone c).rd D.Flow.STATE m = d.rd D.Flow.STATE m := by
  simp only [Dev.peerGone]
  refine Dev.rd_ite _ m rfl ?_
  simp (disch := decide) only [Dev.rd_wr_apart, Dev.rd_flag_apart]

end

/-- What RUN_START makes of a context whose run may begin (R62). -/
def Dev.runBegun (d : Dev) (c : Nat) : Dev :=
  (((d.wr D.Flow.SEQ_NEXT c 0).flag D.FlowStatus.SOURCE_LOST c false).flag D.FlowStatus.FROZEN c false).setFlow c
    (fun x => { x with begun := true, lastItime := none, base := some 0 })

theorem Dev.rd_runBegun_seqNext (d : Dev) (c : Nat) : (d.runBegun c).rd D.Flow.SEQ_NEXT c = 0 := by
  rw [Dev.runBegun, Dev.rd_setFlow, Dev.rd_flag_apart _ _ _ _ _ _ (by decide), Dev.rd_flag_apart _ _ _ _ _ _ (by decide), Dev.rd_wr_same,
    Nat.zero_mod]

theorem Dev.on_runBegun_sourceLost (d : Dev) (c : Nat) : (d.runBegun c).on D.FlowStatus.SOURCE_LOST c = false := by
  rw [Dev.on, Dev.runBegun, Dev.rd_setFlow, Dev.rd_flag_apart _ _ _ _ _ _ (by decide)]
  exact Dev.on_flag_same _ _ _ _ rfl

theorem Dev.begun_runBegun (d : Dev) (c : Nat) : ((d.runBegun c).flowSt c).begun = true := by
  rw [Dev.runBegun, Dev.flowSt_setFlow_same]

/-! ## The commands -/

section
variable (s : State) (dt ctx : Nat) (hserve : s.dev.serving = true)
include hserve

theorem exec_flowEngineConfigured (hc : ctx < 8192) (hst : s.dev.rd D.Flow.STATE ctx = FlowState.STARTING)
    (hstop : (s.dev.flowSt ctx).stop = false) :
    exec (.flowEngineConfigured dt ctx) s = .next { s with dev := (s.dev.elapse dt).flowRun ctx } := by
  have hflow : (s.dev.elapse dt).flowSt ctx = s.dev.flowSt ctx := rfl
  have hin : ¬(FlowState.STARTING ≠ FlowState.STARTING ∨ 8192 ≤ ctx) := by simp; omega
  simp only [exec, execFlowEngineConfigured, State.act, Dev.live_serving _ _ _ hserve, Dev.rd_elapse, hst, hflow, hstop, if_neg hin,
    Bool.false_eq_true, if_false]

/-- A quiesced engine whose enable is queued starts again (R61). -/
theorem exec_flowEngineQuiesced_queued (hc : ctx < 8192) (hst : s.dev.rd D.Flow.STATE ctx = FlowState.STOPPING)
    (hen : s.dev.on D.Flow.ENABLE ctx = true) :
    ∃ d : Dev, exec (.flowEngineQuiesced dt ctx) s = .next { s with dev := d.flowStart ctx } := by
  have hin : ¬(FlowState.STOPPING ≠ FlowState.STOPPING ∨ 8192 ≤ ctx) := by simp; omega
  have hen' : ∀ f, ((s.dev.elapse dt).setFlow ctx f).on D.Flow.ENABLE ctx = true := fun _ => hen
  simp only [exec, execFlowEngineQuiesced, State.act, Dev.live_serving _ _ _ hserve, Dev.rd_elapse, hst, if_neg hin, hen', if_true]
  exact ⟨_, rfl⟩

theorem exec_flowEngineQuiesced_idle (hc : ctx < 8192) (hst : s.dev.rd D.Flow.STATE ctx = FlowState.STOPPING)
    (hen : s.dev.on D.Flow.ENABLE ctx = false) :
    ∃ d : Dev, exec (.flowEngineQuiesced dt ctx) s = .next { s with dev := d } ∧ d.rd D.Flow.STATE ctx = FlowState.IDLE := by
  have hin : ¬(FlowState.STOPPING ≠ FlowState.STOPPING ∨ 8192 ≤ ctx) := by simp; omega
  have hen' : ∀ f, ((s.dev.elapse dt).setFlow ctx f).on D.Flow.ENABLE ctx = false := fun _ => hen
  simp only [exec, execFlowEngineQuiesced, State.act, Dev.live_serving _ _ _ hserve, Dev.rd_elapse, hst, if_neg hin, hen', Bool.false_eq_true,
    if_false]
  have hidle : ∀ d : Dev, (((d.flowTo ctx FlowState.IDLE).peerGone ctx).showRelay ctx).rd D.Flow.STATE ctx = FlowState.IDLE := fun d => by
    rw [Dev.rd_showRelay, Dev.rd_peerGone_state, Dev.rd_flowTo_state]
    rfl
  refine ⟨_, rfl, ?_⟩
  rw [Dev.rd_settle _ ctx (by decide)]
  refine Dev.rd_ite _ ctx ?_ ?_
  · rw [Dev.rd_layerIdle, Dev.rd_setFlow, Dev.rd_flag_apart _ _ _ _ _ _ (by decide), Dev.rd_flag_apart _ _ _ _ _ _ (by decide), hidle]
  · simp (disch := decide) only [Dev.rd_setNetRx, Dev.rd_flag_apart, hidle]

/-- A run starts with sequence number 0 and its source present. -/
theorem exec_runStart (hc : ctx < 4096) (hrun : s.dev.running ctx = true) (hbegun : (s.dev.flowSt ctx).begun = false)
    (hkind : s.dev.kind ctx ≠ 1) :
    exec (.runStart dt ctx) s = .next { s with dev := (s.dev.elapse dt).runBegun ctx } := by
  have hflow : (s.dev.elapse dt).flowSt ctx = s.dev.flowSt ctx := rfl
  have hrun' : (s.dev.elapse dt).running ctx = true := hrun
  have hkind' : (s.dev.elapse dt).kind ctx ≠ 1 := hkind
  have hin : ¬4096 ≤ ctx := by omega
  simp only [exec, execRunStart, State.act, Dev.live_serving _ _ _ hserve, hflow, hrun', hbegun, hkind', hin, Bool.not_true, Bool.false_eq_true,
    false_and, or_self, if_false]
  rfl

end

/-! ## An SDI input sends its next cell (R49 to R57) -/

section
variable (d : Dev) (ctx : Nat)

/-- A field that does not tell when the run started reads after a cell as its count and its flags leave it. -/
theorem Dev.rd_emitted {g : Fld} (m itime : Nat) (first sp : Bool) (hrun : Fld.apart D.Flow.RUN_START g = true) :
    (d.emitted ctx itime first sp).rd g m
      = (((d.add D.Flow.CELLS ctx 1).flag D.FlowStatus.EMITTING ctx true).flag D.FlowStatus.SOURCE_LOST ctx false).rd g m := by
  simp only [Dev.emitted, Dev.rd_setFlow]
  exact Dev.rd_ite g m (Dev.rd_wr_apart _ _ _ _ _ _ hrun) rfl

theorem Dev.rd_emitted_seqNext (m itime : Nat) (first sp : Bool) :
    (d.emitted ctx itime first sp).rd D.Flow.SEQ_NEXT m = d.rd D.Flow.SEQ_NEXT m := by
  rw [Dev.rd_emitted d ctx m _ _ _ (by decide)]
  simp (disch := decide) only [Dev.rd_flag_apart, Dev.rd_add_apart]

theorem Dev.rd_emitted_cells (itime : Nat) (first sp : Bool) :
    (d.emitted ctx itime first sp).rd D.Flow.CELLS ctx = (d.rd D.Flow.CELLS ctx + 1) % 2 ^ 64 := by
  rw [Dev.rd_emitted d ctx ctx _ _ _ (by decide)]
  simp (disch := decide) only [Dev.rd_flag_apart]
  exact Dev.rd_add_same ..

theorem Dev.on_emitted_emitting (itime : Nat) (first sp : Bool) : (d.emitted ctx itime first sp).on D.FlowStatus.EMITTING ctx = true := by
  rw [Dev.on, Dev.rd_emitted d ctx ctx _ _ _ (by decide), Dev.rd_flag_apart _ _ _ _ _ _ (by decide)]
  exact Dev.on_flag_same _ _ _ _ rfl

end

/-- No time that is kept lies behind; `z` is how far the next one is ahead of it. -/
theorem notBehind_of_all (last : Option Nat) (z : Nat → Int) : last.all (fun t => decide (0 ≤ z t)) = true →
    (match last with | some t => decide (z t < 0) | none => false) = false := by
  intro h
  cases last with
  | none => rfl
  | some t =>
    have hle : 0 ≤ z t := of_decide_eq_true h
    exact decide_eq_false (by omega)

section
variable (d : Dev) (ctx : Nat)

theorem Dev.originType_sdiIn (hkind : d.kind ctx = 1) : d.originType ctx = 1 := by simp [Dev.originType, hkind, Kind.cellType]

theorem Dev.cellPlace_sdi_len (hkind : d.kind ctx = 1) (len pos : Nat) (sof eof : Bool) : (d.cellPlace ctx len pos sof eof).len = len := by
  unfold Dev.cellPlace
  dsimp only
  rw [if_pos (Dev.originType_sdiIn d ctx hkind)]

theorem Dev.fsTarget_sdiIn (hkind : d.kind ctx = 1) : d.fsTarget ctx = none := by simp [Dev.fsTarget, hkind]

theorem Dev.headTarget_sdiIn (hkind : d.kind ctx = 1) : d.headTarget ctx = none := by simp [Dev.headTarget, hkind]

/-- The next cell of an SDI stream, where it ends in a whole word and comes no earlier than the last, leaves: the record changes as a sent
cell changes it. -/
theorem Dev.rd_sendCell_sdi {itime len payload field : Nat} (hkind : d.kind ctx = 1) (hbase : (d.flowSt ctx).base.isSome = true)
    (htime : (d.flowSt ctx).lastItime.all (fun t0 => decide (0 ≤ sdiff itime t0 48)) = true) (hpos : 1 ≤ len) (hlen : len ≤ 256)
    (hbits : 8 * (len - 1) < (d.cellPlace ctx len 0 false false).bits) {g : Fld} (m : Nat) (hg : Fld.inRecord g = true) :
    (d.sendCell ctx itime len 0 false false payload field).rd g m = ((d.add D.Flow.SEQ_NEXT ctx 1).emitted ctx itime
      (d.flowSt ctx).lastItime.isNone (d.cellPlace ctx len 0 false false).sp).rd g m := by
  have htype := Dev.originType_sdiIn d ctx hkind
  have hplace := Dev.cellPlace_sdi_len d ctx hkind len 0 false false
  have hmoved : d.fsTarget ctx = none ∧ d.headTarget ctx = none := ⟨Dev.fsTarget_sdiIn d ctx hkind, Dev.headTarget_sdiIn d ctx hkind⟩
  have hnone : (d.flowSt ctx).base.isNone = false := by simpa using hbase
  unfold Dev.sendCell
  generalize d.cellPlace ctx len 0 false false = p at hplace hbits ⊢
  extract_lets x type base f q itime' early d0 content cell d1 d2 d3
  have hitime : itime' = itime := by simp [itime', hmoved]
  have hearly : early = false := by
    simp only [early, hitime]
    exact notBehind_of_all x.lastItime (fun t => sdiff itime t 48) htime
  have hd0 : d0 = d := if_neg (by simp [hkind])
  have hd2 : d2.rd g m = ((d.add D.Flow.SEQ_NEXT ctx 1).emitted ctx itime x.lastItime.isNone p.sp).rd g m := by
    rw [Dev.rd_setFlow]
    simp only [d1, hd0, hitime, q]
  have hd3 : d3.rd g m = d2.rd g m := Dev.rd_ite g m (Dev.rd_readLines _ m hg ctx) rfl
  have hsend : ¬(early || p.len == 0 || decide (256 < p.len) || (type == 1 && (x.base.isNone || decide (p.bits ≤ 8 * (p.len - 1))))
      || ((type == 3 || type == 5) && decide (p.len < 256) && !p.eof)) = true := by
    have hlen0 : len ≠ 0 := by omega
    simp [hearly, hplace, type, htype, x, hnone, hlen0, hlen, hbits]
  rw [if_neg hsend, ← hd2, ← hd3]
  exact Dev.rd_ite g m ((Dev.rd_sendOver _ m hg ..).trans (Dev.rd_intoPlanes ..)) rfl

end

/-! ## The cell that an SDI input sends -/

section
variable (d : Dev) (ctx len payload : Nat)

theorem Dev.rd_sendSdiIn {itime : Nat} (hkind : d.kind ctx = 1) (hbase : (d.flowSt ctx).base.isSome = true)
    (htime : (d.flowSt ctx).lastItime.all (fun t0 => decide (0 ≤ sdiff
      (itime + (if 1 < Fmt.links (d.format ctx) then (d.rxSt (d.bindIx ctx)).lag else 0)) t0 48)) = true)
    (hpos : 1 ≤ len) (hlen : len ≤ 256) (hbits : 8 * (len - 1) < (d.cellPlace ctx len 0 false false).bits) :
    ∃ it first sp, ∀ g m, Fld.inRecord g = true → (d.sendSdiIn ctx itime len payload).rd g m
      = ((d.add D.Flow.SEQ_NEXT ctx 1).emitted ctx it first sp).rd g m :=
  ⟨_, _, _, fun _ m hg => Dev.rd_sendCell_sdi d ctx hkind hbase htime hpos hlen hbits m hg⟩

end

section
variable (s : State) (dt ctx : Nat) (hserve : s.dev.serving = true) (hc : ctx < 4096) (hrun : s.dev.running ctx = true)
    (hkind : s.dev.kind ctx = 1) (hbegun : (s.dev.flowSt ctx).begun = true)
include hserve hc hrun hkind hbegun

theorem exec_cellEmit_sdiIn (itime len pos payload field : Nat) (sof eof : Bool) :
    exec (.cellEmit dt ctx itime len pos sof eof payload field) s
      = .next { s with dev := (s.dev.elapse dt).sendSdiIn ctx itime len payload } := by
  have hrun' : (s.dev.elapse dt).running ctx = true := hrun
  have hkind' : (s.dev.elapse dt).kind ctx = 1 := hkind
  have hflow : (s.dev.elapse dt).flowSt ctx = s.dev.flowSt ctx := rfl
  have hmute : (s.dev.elapse dt).tileMute ctx = false := by simp [Dev.tileMute, hkind']
  have horig : Kind.originates 1 = true := rfl
  have hnet : Kind.netRx 1 = false := rfl
  have hin : ¬4096 ≤ ctx := by omega
  simp [exec, execCellEmit, State.act, Dev.live_serving _ _ _ hserve, hrun', hkind', hflow, hmute, horig, hnet, hin, hbegun]

end

/-! ## The statement -/

/-- Settles O13: each command as its equation above says it, and what the context's record then reads. -/
theorem flowEnginesComplete : Obligations.FlowEnginesComplete := by
  unfold Obligations.FlowEnginesComplete
  refine ⟨fun s dt ctx hserve hc hst hstop => ?_, fun s dt ctx hserve hc hst hen => ?_, fun s dt ctx hserve hc hst hen => ?_,
    fun s dt ctx hserve hc hrun hbegun hkind => ?_,
    fun s dt ctx itime len pos payload field sof eof hserve hc hrun hkind hbegun hbase htime hpos hlen hbits => ?_⟩
  · exact ⟨_, exec_flowEngineConfigured s dt ctx hserve hc hst hstop, Dev.rd_flowRun_state .., Dev.rd_flowRun_seqNext ..⟩
  · obtain ⟨d, hexec, hidle⟩ := exec_flowEngineQuiesced_idle s dt ctx hserve hc hst hen
    exact ⟨_, hexec, hidle⟩
  · obtain ⟨d, hexec⟩ := exec_flowEngineQuiesced_queued s dt ctx hserve hc hst hen
    exact ⟨_, hexec, Dev.rd_flowStart_state .., Dev.rd_flowStart_cells ..⟩
  · exact ⟨_, exec_runStart s dt ctx hserve hc hrun hbegun hkind, Dev.rd_runBegun_seqNext .., Dev.on_runBegun_sourceLost ..,
      Dev.begun_runBegun ..⟩
  · obtain ⟨it, first, sp, hsent⟩ := Dev.rd_sendSdiIn (s.dev.elapse dt) ctx len payload hkind hbase htime hpos hlen hbits
    refine ⟨_, exec_cellEmit_sdiIn s dt ctx hserve hc hrun hkind hbegun itime len pos payload field sof eof, ?_, ?_, ?_⟩
    · rw [hsent _ _ (by decide), Dev.rd_emitted_seqNext, Dev.rd_add_same, Dev.rd_elapse]
      rfl
    · rw [hsent _ _ (by decide), Dev.rd_emitted_cells, Dev.rd_add_apart _ _ _ _ _ _ (by decide), Dev.rd_elapse]
    · rw [Dev.on, hsent _ _ (by decide), ← Dev.on, Dev.on_emitted_emitting]

end Sys2Proof.Machine
end

section
/-! Obligations of 02_flows_and_cells.md and 06_network_ports.md: how a network frame is counted and sorted, how a merge releases a packet and
a leg falls silent (R62, R165, R171, R173, R180, R181). -/

namespace Sys2Proof

namespace Assoc
variable {κ β γ : Type} [DecidableEq κ]

theorem filterMap_erase (l : List (κ × β)) (k : κ) (φ : κ × β → Option γ) (h : ∀ v, φ (k, v) = none) :
    (erase l k).filterMap φ = l.filterMap φ := by
  induction l with
  | nil => rfl
  | cons p t ih =>
    obtain ⟨k', v⟩ := p
    by_cases hk : k' = k
    · subst hk; simp [erase, ih, h]
    · simp [erase, hk, List.filterMap_cons, ih]

omit [DecidableEq κ] in
theorem filterMap_insertAt (lt : κ → κ → Bool) (l : List (κ × β)) (k : κ) (v : β) (φ : κ × β → Option γ) (h : ∀ v, φ (k, v) = none) :
    (insertAt lt l k v).filterMap φ = l.filterMap φ := by
  induction l with
  | nil => simp [insertAt, h]
  | cons p t ih =>
    obtain ⟨k', v'⟩ := p
    by_cases hl : lt k k' = true
    · simp [insertAt, hl, h]
    · simp [insertAt, hl, List.filterMap_cons, ih]

/-- A selection that passes a key over does not see what is stored there. -/
theorem filterMap_put [DecidableEq β] (lt : κ → κ → Bool) (l : List (κ × β)) (d : β) (k : κ) (v : β) (φ : κ × β → Option γ)
    (h : ∀ v, φ (k, v) = none) : (put lt l d k v).filterMap φ = l.filterMap φ := by
  unfold put
  split
  · exact filterMap_erase l k φ h
  · rw [filterMap_insertAt lt _ k v φ h, filterMap_erase l k φ h]

end Assoc

end Sys2Proof

namespace Sys2Proof.Machine

open Sys2Proof

/-- An entry below the records appears in no list of their numbers. -/
theorem Dev.listed_wr_below (d : Dev) {f g : Fld} (hf : Fld.belowRecords f = true) (hg : Fld.inRecord g = true) (n v k : Nat) :
    (d.wr f n v).listed g k = d.listed g k := by
  simp only [Fld.belowRecords, Fld.inRecord, Bool.and_eq_true, Bool.not_eq_true', decide_eq_true_eq] at hf hg
  refine Assoc.filterMap_put Key.lt d.dict _ (f.key n) _ _ fun w => ?_
  have hix : ¬(g.ix ≤ (f.key n).ix) := by simp [Fld.key, hf.1]; omega
  simp [hg.1, hix]

/-! ## What sorts a frame does not see the port's counters (Table 06.2) -/

/-- Do two devices sort a frame by the same values: do they agree in every field but the frame counter, and in the lists of contexts? -/
structure Dev.SameSorting (d e : Dev) : Prop where
  rd : ∀ (g : Fld) (m : Nat), Fld.apart D.PortCounters.RX_FRAMES g = true → e.rd g m = d.rd g m
  listed : ∀ (g : Fld) (k : Nat), Fld.inRecord g = true → e.listed g k = d.listed g k

theorem Dev.sameSorting_received (d : Dev) (dt p : Nat) : d.SameSorting ((d.elapse dt).sat D.PortCounters.RX_FRAMES p 1) where
  rd g m h := (Dev.rd_sat_apart _ _ _ _ _ _ h).trans (Dev.rd_elapse ..)
  listed g k h := (Dev.listed_wr_below _ (by decide) h _ _ _).trans rfl

section
variable {d e : Dev} (h : d.SameSorting e)
include h

theorem Dev.SameSorting.on {g : Fld} (hg : Fld.apart D.PortCounters.RX_FRAMES g = true) (m : Nat) : e.on g m = d.on g m := by
  rw [Dev.on, h.rd g m hg, Dev.on]

theorem Dev.SameSorting.ifVlan (p i : Nat) : e.ifVlan p i = d.ifVlan p i := by
  simp (disch := decide) only [Dev.ifVlan, h.on, h.rd]

theorem Dev.SameSorting.ifAddrs (i : Nat) : e.ifAddrs i = d.ifAddrs i := by
  simp (disch := decide) only [Dev.ifAddrs, h.rd]

theorem Dev.SameSorting.kind (c : Nat) : e.kind c = d.kind c := h.rd _ c (by decide)

theorem Dev.SameSorting.active : e.active = d.active := by
  simp (disch := decide) only [Dev.active, Dev.enabled, h.listed, h.rd, h.on]

theorem Dev.SameSorting.rxActive : e.rxActive = d.rxActive := by
  simp (disch := decide) only [Dev.rxActive, h.active, h.kind, h.rd]

theorem Dev.SameSorting.legA (c : Nat) : e.legA c = d.legA c := by
  simp (disch := decide) only [Dev.legA, Dev.bindIx, h.rd]

theorem Dev.SameSorting.legB (c : Nat) : e.legB c = d.legB c := by
  simp (disch := decide) only [Dev.legB, h.rd]

theorem Dev.SameSorting.twoLegs (c : Nat) : e.twoLegs c = d.twoLegs c := h.on (by decide) c

theorem Dev.SameSorting.matchesLeg (l : Leg) (f : NetFrame) : e.matchesLeg l f = d.matchesLeg l f := by
  simp only [Dev.matchesLeg, h.ifVlan]

theorem Dev.SameSorting.rxMatch (f : NetFrame) : e.rxMatch f = d.rxMatch f := by
  simp only [Dev.rxMatch, h.rxActive, h.matchesLeg, h.legA, h.legB, h.twoLegs]

theorem Dev.SameSorting.macOk (p i mac : Nat) : e.macOk p i mac = d.macOk p i mac := by
  simp only [Dev.macOk, Dev.groupsOf, Dev.contributions, Dev.ownGroups, h.rxActive, h.legA, h.legB, h.twoLegs, h.ifAddrs]

end

/-! ## What the acceptance of a packet writes -/

/-- The fields that the acceptance of a packet may write (R173, R174, R177 to R181). -/
def acceptFields : List Fld :=
  [D.NetRxCounters.LOST, D.NetRxCounters.MISSING_A, D.NetRxCounters.MISSING_B, D.NetRxCounters.REORDERED, D.NetRxCounters.DUPLICATES,
    D.NetRxCounters.LATE_LEG, D.NetRxCounters.RTP_ERRORS, D.NetRxCounters.FORMAT_ERRORS, D.NetRxCounters.OVERFLOWS, D.NetRxCounters.POLICED,
    D.NetRxStatus.RECEIVING, D.NetRxStatus.SKEW_EXCEEDED, D.NetRxStatus.SKEW_NS, D.NetRxStatus.LAST_RTP_TS, D.FlowStatus.SOURCE_LOST]

/-- Does a field lie apart from all of them? -/
def offAccept (g : Fld) : Bool := acceptFields.all (fun f => Fld.apart f g)

/-- What a packet can do to a context's content: it may count an error, and may change what is under assembly and the last sample set. -/
def Dev.Depacked (d : Dev) (c : Nat) (r : Dev) : Prop :=
  ∃ e, (e = d ∨ ∃ f, acceptFields.contains f = true ∧ e = d.sat f c 1) ∧
    (r = e ∨ ∃ (asm : NetRxSt → List Asm) (last : NetRxSt → Nat), r = e.setNetRx c (fun y => { y with asm := asm y, lastSet := last y }))

theorem Dev.Depacked.ite {d : Dev} {c : Nat} {q : Prop} [Decidable q] {a b : Dev} (ha : d.Depacked c a) (hb : d.Depacked c b) :
    d.Depacked c (if q then a else b) := by
  split <;> assumption

theorem Dev.depacked_depack (d : Dev) (c : Nat) (p : Pkt) (lost : Nat) : d.Depacked c (d.depack c p lost) := by
  have hcount : ∀ {f}, acceptFields.contains f = true → d.Depacked c (d.sat f c 1) := fun hf => ⟨_, .inr ⟨_, hf, rfl⟩, .inl rfl⟩
  have hplace : ∀ (asm : NetRxSt → List Asm) (last : NetRxSt → Nat),
      d.Depacked c (d.setNetRx c (fun y => { y with asm := asm y, lastSet := last y })) := fun asm last => ⟨d, .inl rfl, .inr ⟨asm, last, rfl⟩⟩
  have hbad : d.Depacked c (d.sat D.NetRxCounters.FORMAT_ERRORS c 1) := hcount (by decide)
  unfold Dev.depack
  refine .ite (.ite hbad (hplace ..)) (.ite (hplace ..) (.ite ?_ (.ite hbad ?_)))
  · refine ⟨if p.ok then d else d.sat D.NetRxCounters.FORMAT_ERRORS c 1, ?_, .inr ⟨_, _, rfl⟩⟩
    split
    · exact .inl rfl
    · exact .inr ⟨_, by decide, rfl⟩
  · dsimp only
    split
    · exact hplace ..
    · exact .ite (hcount (f := D.NetRxCounters.REORDERED) (by decide)) (.ite (hplace ..) (hplace ..))

section
variable (d : Dev) {g : Fld} (m c : Nat) (hg : offAccept g = true)
include hg

theorem Dev.rd_wr_accept {f : Fld} (hf : acceptFields.contains f = true) (n v : Nat) : (d.wr f n v).rd g m = d.rd g m :=
  Dev.rd_wr_apart d f g n m v (List.all_eq_true.1 hg f (List.contains_iff_mem.1 hf))

theorem Dev.rd_sat_accept {f : Fld} (hf : acceptFields.contains f = true) (n k : Nat) : (d.sat f n k).rd g m = d.rd g m :=
  Dev.rd_wr_accept d m hg hf ..

theorem Dev.rd_flag_accept {f : Fld} (hf : acceptFields.contains f = true) (n : Nat) (b : Bool) : (d.flag f n b).rd g m = d.rd g m :=
  Dev.rd_wr_accept d m hg hf ..

theorem Dev.rd_rxAccepted : (d.rxAccepted c).rd g m = d.rd g m := by
  rw [Dev.rxAccepted, Dev.rd_setNetRx, Dev.rd_flag_accept _ m hg (by decide), Dev.rd_flag_accept _ m hg (by decide)]

theorem Dev.rd_depack (p : Pkt) (lost : Nat) : (d.depack c p lost).rd g m = d.rd g m := by
  obtain ⟨e, he, hd⟩ := d.depacked_depack c p lost
  have hrd : e.rd g m = d.rd g m := by
    obtain rfl | ⟨f, hf, rfl⟩ := he
    · rfl
    · exact Dev.rd_sat_accept d m hg hf ..
  obtain hd | ⟨asm, last, hd⟩ := hd <;> rw [hd]
  · exact hrd
  · exact (Dev.rd_setNetRx ..).trans hrd

omit hg in
theorem Dev.rd_spend (n : Nat) : (d.spend c n).rd g m = d.rd g m := Dev.rd_ite g m (Dev.rd_setFlow ..) rfl

theorem Dev.rd_place (p : Pkt) (lost : Nat) : (d.place c p lost).rd g m = d.rd g m := by
  have htaken : ((d.spend c (p.media.len + 2)).wr D.NetRxStatus.LAST_RTP_TS c p.ts).rd g m = d.rd g m := by
    rw [Dev.rd_wr_accept _ m hg (by decide), Dev.rd_spend]
  simp only [Dev.place]
  refine Dev.rd_ite g m (Dev.rd_sat_accept d m hg (by decide) ..) (Dev.rd_ite g m ?_ ?_)
  · rw [Dev.rd_depack _ m c hg, Dev.rd_setNetRx, htaken]
  · rw [Dev.rd_setNetRx, htaken]

theorem Dev.rd_acceptSingle (p : Pkt) (before : Option Nat) : (d.acceptSingle c p before).rd g m = d.rd g m := by
  unfold Dev.acceptSingle
  extract_lets w x silent e k d1 d2
  refine Dev.rd_ite g m (Dev.rd_sat_accept d m hg (by decide) ..) ?_
  rw [Dev.rd_place _ m c hg, Dev.rd_setNetRx, Dev.rd_rxAccepted _ m c hg, Dev.rd_sat_accept d m hg (by decide)]

theorem Dev.rd_skewSample (sample : Int) : (d.skewSample c sample).rd g m = d.rd g m := by
  unfold Dev.skewSample
  refine Dev.rd_ite g m ?_ ?_
  · rw [Dev.rd_raise, Dev.rd_flag_accept _ m hg (by decide)]
  · rw [Dev.rd_setNetRx, Dev.wrI, Dev.rd_wr_accept _ m hg (by decide), Dev.rd_flag_accept _ m hg (by decide)]

theorem Dev.rd_lateCopy (isA : Bool) (seq now : Nat) : (d.lateCopy c isA seq now).rd g m = d.rd g m := by
  have hlate : (d.sat D.NetRxCounters.LATE_LEG c 1).rd g m = d.rd g m := Dev.rd_sat_accept d m hg (by decide) ..
  unfold Dev.lateCopy
  extract_lets d1
  split
  · exact hlate
  · dsimp only
    split
    · exact hlate
    · rw [Dev.rd_setNetRx, Dev.rd_skewSample _ m c hg, hlate]

theorem Dev.rd_countMissing (fromA : Bool) : (d.countMissing c fromA).rd g m = d.rd g m := by
  cases fromA <;> exact Dev.rd_sat_accept d m hg (by decide) ..

theorem Dev.rd_acceptMerge (isA : Bool) (p : Pkt) : (d.acceptMerge c isA p).rd g m = d.rd g m := by
  unfold Dev.acceptMerge
  extract_lets w x d1 late dup lead behind lacked missed fresh
  have hd1 : d1.rd g m = d.rd g m := Dev.rd_setNetRx ..
  have hdup : dup.rd g m = d1.rd g m := Dev.rd_sat_accept d1 m hg (by decide) ..
  rw [← hd1]
  refine Dev.rd_ite g m (Dev.rd_lateCopy d1 m c hg ..) ?_
  split
  case h_1 h _ =>
    refine Dev.rd_ite g m hdup ?_
    rw [Dev.rd_setNetRx, ← hdup]
    split
    · exact Dev.rd_skewSample dup m c hg _
    · rfl
  case h_2 =>
    rw [Dev.rd_setNetRx, Dev.rd_rxAccepted _ m c hg]
    exact Dev.rd_ite g m (Dev.rd_countMissing d1 m c hg _) rfl

/-- Beside leg A's count and flag, a packet that matches leg A changes none but the fields that acceptance writes. -/
theorem Dev.rd_toContext_legA (f : NetFrame) :
    (d.toContext c true f).rd g m = ((d.sat D.NetRxCounters.PACKETS_A c 1).flag D.NetRxStatus.LEG_A_OK c true).rd g m := by
  simp only [Dev.toContext, if_true]
  refine Dev.rd_ite g m ?_ (Dev.rd_ite g m ?_ (Dev.rd_ite g m ?_ (Dev.rd_ite g m ?_ ?_)))
  · rw [Dev.rd_sat_accept _ m hg (by decide), Dev.rd_setNetRx]
  · rw [Dev.rd_setNetRx]
  · rw [Dev.rd_raise, Dev.rd_sat_accept _ m hg (by decide), Dev.rd_setNetRx]
  · rw [Dev.rd_acceptMerge _ m c hg, Dev.rd_setNetRx]
  · rw [Dev.rd_acceptSingle _ m c hg, Dev.rd_setNetRx]

end

theorem Dev.rd_toContext_packetsA (d : Dev) (c : Nat) (f : NetFrame) :
    (d.toContext c true f).rd D.NetRxCounters.PACKETS_A c = min (d.rd D.NetRxCounters.PACKETS_A c + 1) (2 ^ 32 - 1) := by
  rw [Dev.rd_toContext_legA d c c (by decide), Dev.rd_flag_apart _ _ _ _ _ _ (by decide), Dev.rd_sat_same]
  rfl

theorem Dev.on_toContext_legA (d : Dev) (c : Nat) (f : NetFrame) : (d.toContext c true f).on D.NetRxStatus.LEG_A_OK c = true := by
  rw [Dev.on, Dev.rd_toContext_legA d c c (by decide)]
  exact Dev.on_flag_same _ _ _ _ rfl

/-! ## What a merge keeps of the packet that it released last (R180) -/

section
variable (d : Dev) (c : Nat)

@[simp] theorem Dev.netRxSt_wr (f : Fld) (n v : Nat) : (d.wr f n v).netRxSt c = d.netRxSt c := (rfl)
@[simp] theorem Dev.netRxSt_sat (f : Fld) (n k : Nat) : (d.sat f n k).netRxSt c = d.netRxSt c := (rfl)
@[simp] theorem Dev.netRxSt_setFlow (n : Nat) (f : FlowSt → FlowSt) : (d.setFlow n f).netRxSt c = d.netRxSt c := (rfl)

theorem Dev.netRxSt_spend (n : Nat) : (d.spend c n).netRxSt c = d.netRxSt c := by
  unfold Dev.spend
  split
  · exact Dev.netRxSt_setFlow ..
  · rfl

theorem Dev.released_depack (p : Pkt) (lost : Nat) : ((d.depack c p lost).netRxSt c).released = (d.netRxSt c).released := by
  obtain ⟨e, he, hd⟩ := d.depacked_depack c p lost
  have hkept : (e.netRxSt c).released = (d.netRxSt c).released := by
    obtain rfl | ⟨f, -, rfl⟩ := he
    · rfl
    · rw [Dev.netRxSt_sat]
  obtain hd | ⟨asm, last, hd⟩ := hd <;> rw [hd]
  · exact hkept
  · rw [Dev.netRxSt_setNetRx_same, ← hkept]

theorem Dev.released_place (p : Pkt) (lost : Nat) : ((d.place c p lost).netRxSt c).released = (d.netRxSt c).released := by
  simp only [Dev.place]
  split
  · rw [Dev.netRxSt_sat]
  · split
    · rw [Dev.released_depack, Dev.netRxSt_setNetRx_same, Dev.netRxSt_wr, Dev.netRxSt_spend]
    · rw [Dev.netRxSt_setNetRx_same, Dev.netRxSt_wr, Dev.netRxSt_spend]

end

/-! ## The commands -/

section
variable (s : State) (dt : Nat) (hserve : s.dev.serving = true)
include hserve

/-- A merge releases its next packet when its basis plus MAX_SKEW_US has come. -/
theorem exec_net20227Release {ctx : Nat} {h : HeldPkt} (hc : ctx < 4096) (hnext : s.dev.nextHeld ctx = some h)
    (hdue : h.basis + s.dev.rd D.NetRxCfg.MAX_SKEW_US ctx * 1000 ≤ (s.dev.elapse dt).now) :
    ∃ d p lost, exec (.net20227Release dt ctx) s = .next { s with dev := Dev.place d ctx p lost } ∧
      (d.netRxSt ctx).released = some h.pkt.seq := by
  have hnext' : (s.dev.elapse dt).nextHeld ctx = some h := hnext
  have hin : ¬(4096 ≤ ctx ∨ (s.dev.elapse dt).now < h.basis + s.dev.rd D.NetRxCfg.MAX_SKEW_US ctx * 1000) := by omega
  simp only [exec, execNet20227Release, State.act, Dev.live_serving _ _ _ hserve, hnext', Dev.rd_elapse, if_neg hin]
  exact ⟨_, _, _, rfl, by rw [Dev.netRxSt_setNetRx_same]⟩

/-- A leg that has had no packets for 10 ms is no longer good. -/
theorem exec_netRxSilence_legA {ctx t0 : Nat} (hc : ctx < 4096) (hkind : Kind.netRx (s.dev.kind ctx) = true)
    (hleg : (s.dev.netRxSt ctx).legA = some t0) (hpast : (s.dev.elapse dt).past t0 10000000 = true) :
    ∃ d, exec (.netRxSilence dt ctx false) s = .next { s with dev := d } ∧ d.on D.NetRxStatus.LEG_A_OK ctx = false := by
  have hleg' : ((s.dev.elapse dt).netRxSt ctx).legA = some t0 := hleg
  have hkind' : Kind.netRx ((s.dev.elapse dt).kind ctx) = true := hkind
  have hin : ¬4096 ≤ ctx := by omega
  simp only [exec, execNetRxSilence, State.act, Dev.live_serving _ _ _ hserve, Bool.false_eq_true, if_false, hleg', hkind', hpast, hin,
    Bool.not_true, or_self]
  have hdown : ∀ (q : Prop) [Decidable q], (if q then ((s.dev.elapse dt).flag D.NetRxStatus.LEG_A_OK ctx false).raise Src.NET_LEG_DOWN ctx
      else (s.dev.elapse dt).flag D.NetRxStatus.LEG_A_OK ctx false).rd D.NetRxStatus.LEG_A_OK ctx = 0 := fun _ _ =>
    Dev.rd_ite _ ctx ((Dev.rd_raise ..).trans (Dev.rd_wr_same ..)) (Dev.rd_wr_same ..)
  refine ⟨_, rfl, ?_⟩
  rw [Dev.on, Dev.rd_ite _ ctx (hdown _) ?_]
  · rfl
  · simp (disch := decide) only [Dev.rd_flag_apart]
    exact hdown _

section
variable {f : NetFrame} (hport : f.port < 32) (hup : s.dev.portUp f.port = true)
include hport hup

theorem exec_netFrameRx_fcs (hfcs : f.fcsOk = false) :
    exec (.netFrameRx dt f) s = .next { s with
      dev := ((s.dev.elapse dt).sat D.PortCounters.RX_FRAMES f.port 1).sat D.PortCounters.RX_FCS_ERRORS f.port 1 } := by
  have hup' : (s.dev.elapse dt).portUp f.port = true := hup
  have hin : ¬32 ≤ f.port := by omega
  simp only [exec, execNetFrameRx, State.act, Dev.live_serving _ _ _ hserve, hup', hin, hfcs, Bool.not_true, Bool.false_eq_true, or_self, if_false,
    if_true]

variable {i : Nat} (hfcs : f.fcsOk = true) (hip : f.ipOk = true) (hudp : f.what ≠ 0 ∨ f.udpOk = true)
  (hiface : (List.range 8).find? (fun i0 => s.dev.ifVlan f.port i0 == some f.vlan) = some i) (hmac : s.dev.macOk f.port i f.mac = true)
include hfcs hip hudp hiface hmac

/-- A well-formed frame for an interface goes to the context whose leg it matches. -/
theorem exec_netFrameRx_matched {c : Nat} {isA : Bool} (hmatch : s.dev.rxMatch f = some (c, isA)) :
    exec (.netFrameRx dt f) s
      = .next { s with dev := ((s.dev.elapse dt).sat D.PortCounters.RX_FRAMES f.port 1).toContext c isA f } := by
  have hup' : (s.dev.elapse dt).portUp f.port = true := hup
  have hin : ¬32 ≤ f.port := by omega
  have hsame := s.dev.sameSorting_received dt f.port
  have hudp' : (f.what = 0 && !f.udpOk) = false := by obtain h | h := hudp <;> simp [h]
  simp only [exec, execNetFrameRx, State.act, Dev.live_serving _ _ _ hserve, hup', hin, hfcs, hip, hudp', hsame.ifVlan, hiface, hsame.macOk, hmac,
    hsame.rxMatch, hmatch, Bool.not_true, Bool.false_eq_true, Bool.true_eq_false, or_self, if_false]

omit hudp in
/-- One that matches no leg and asks for an answer goes to the management cores. -/
theorem exec_netFrameRx_control (hmatch : s.dev.rxMatch f = none) (hlow : 1 ≤ f.what) (hhigh : f.what ≤ 3) :
    exec (.netFrameRx dt f) s
      = .next { s with dev := ((s.dev.elapse dt).sat D.PortCounters.RX_FRAMES f.port 1).toCores f.port i f } := by
  have hup' : (s.dev.elapse dt).portUp f.port = true := hup
  have hin : ¬32 ≤ f.port := by omega
  have hsame := s.dev.sameSorting_received dt f.port
  have hudp' : (f.what = 0 && !f.udpOk) = false := by simp; omega
  have hctrl : (decide (1 ≤ f.what) && decide (f.what ≤ 4)) = true := by simp; omega
  simp only [exec, execNetFrameRx, State.act, Dev.live_serving _ _ _ hserve, hup', hin, hfcs, hip, hudp', hsame.ifVlan, hiface, hsame.macOk, hmac,
    hsame.rxMatch, hmatch, hctrl, Bool.or_true, Bool.not_true, Bool.false_eq_true, Bool.true_eq_false, or_self, if_false, if_true]

end

end

/-! ## Frames for the management cores (R165) -/

section
variable (d : Dev) (p : Nat)

theorem Dev.rd_coreFrame_frames :
    (d.coreFrame p).rd D.PortCounters.CTRL_FRAMES p = min (d.rd D.PortCounters.CTRL_FRAMES p + 1) (2 ^ 64 - 1) := by
  have hnet : ∀ (x : Dev) (n : NMap NetPortSt) (g : Fld) (m : Nat), ({ x with netPort := n } : Dev).rd g m = x.rd g m := fun _ _ _ _ => rfl
  rw [Dev.coreFrame, hnet]
  exact Dev.rd_ite _ p (Dev.rd_sat_same ..) ((Dev.rd_sat_apart _ _ _ _ _ _ (by decide)).trans (Dev.rd_sat_same ..))

theorem Dev.rd_coreFrame_drops : (d.coreFrame p).rd D.PortCounters.CTRL_DROPS p
    = if d.coresTake p then d.rd D.PortCounters.CTRL_DROPS p else min (d.rd D.PortCounters.CTRL_DROPS p + 1) (2 ^ 64 - 1) := by
  have hnet : ∀ (x : Dev) (n : NMap NetPortSt) (g : Fld) (m : Nat), ({ x with netPort := n } : Dev).rd g m = x.rd g m := fun _ _ _ _ => rfl
  rw [Dev.coreFrame, hnet, Dev.coresTake]
  have happ : (d.sat D.PortCounters.CTRL_FRAMES p 1).rd D.PortCounters.CTRL_DROPS p = d.rd D.PortCounters.CTRL_DROPS p :=
    Dev.rd_sat_apart _ _ _ _ _ _ (by decide)
  split
  · exact happ
  · rw [Dev.rd_sat_same, happ]
    rfl

@[simp] theorem Dev.coresTake_sat (f : Fld) (n k : Nat) : (d.sat f n k).coresTake p = d.coresTake p := (rfl)

theorem Dev.rd_toCores (i : Nat) (f : NetFrame) (g : Fld) (m : Nat) : (d.toCores p i f).rd g m = (d.coreFrame p).rd g m := by
  have hctrl : ∀ (x : Dev) (y : CtrlSt), ({ x with ctrl := y } : Dev).rd g m = x.rd g m := fun _ _ => rfl
  simp only [Dev.toCores]
  exact Dev.rd_ite g m (hctrl ..) rfl

/-- A frame that asks for an answer at an address of the interface waits for it where the cores take it. -/
theorem Dev.waiting_toCores {i : Nat} {f : NetFrame} (hlow : 1 ≤ f.what) (hhigh : f.what ≤ 3)
    (haddr : (d.ifAddrs (8 * p + i)).contains f.dst = true) : (d.toCores p i f).ctrl.waiting
      = if d.coresTake p then d.ctrl.waiting ++ [⟨p, i, f.what, f.dst, f.src, f.media⟩] else d.ctrl.waiting := by
  have hasks : (decide (1 ≤ f.what) && decide (f.what ≤ 3) && (d.ifAddrs (8 * p + i)).contains f.dst) = true := by
    simp only [haddr, hlow, hhigh, decide_true, Bool.and_self]
  simp only [Dev.toCores, hasks, Bool.and_true]
  split
  · rw [Dev.ctrl_coreFrame]
  · rw [Dev.ctrl_coreFrame]

end

/-- Settles O23: each command as its equation above says it, and what the fields then read. -/
theorem networkReceiveCompletes : Obligations.NetworkReceiveCompletes := by
  unfold Obligations.NetworkReceiveCompletes
  refine ⟨fun s dt f hserve hport hup hfcs => ?_, fun s dt c i f hserve hport hup hfcs hip hudp hiface hmac hmatch => ?_,
    fun s dt i f hserve hport hup hfcs hip hudp hiface hmac hmatch hlow hhigh haddr => ?_, fun s dt ctx h hserve hc hnext hdue => ?_,
    fun s dt ctx t0 hserve hc hkind hleg hpast => ?_⟩
  · refine ⟨_, exec_netFrameRx_fcs s dt hserve hport hup hfcs, ?_, ?_⟩
    · rw [Dev.rd_sat_same, Dev.rd_sat_apart _ _ _ _ _ _ (by decide), Dev.rd_elapse]
      rfl
    · rw [Dev.rd_sat_apart _ _ _ _ _ _ (by decide), Dev.rd_sat_same, Dev.rd_elapse]
      rfl
  · refine ⟨_, exec_netFrameRx_matched s dt hserve hport hup hfcs hip hudp hiface hmac hmatch, ?_, Dev.on_toContext_legA ..⟩
    rw [Dev.rd_toContext_packetsA, Dev.rd_sat_apart _ _ _ _ _ _ (by decide), Dev.rd_elapse]
  · refine ⟨_, exec_netFrameRx_control s dt hserve hport hup hfcs hip hiface hmac hmatch hlow hhigh, ?_, ?_, ?_⟩
    · rw [Dev.rd_toCores, Dev.rd_coreFrame_frames, Dev.rd_sat_apart _ _ _ _ _ _ (by decide), Dev.rd_elapse]
    · rw [Dev.rd_toCores, Dev.rd_coreFrame_drops, Dev.coresTake_sat, Dev.rd_sat_apart _ _ _ _ _ _ (by decide), Dev.rd_elapse]
    · have haddr' := ((s.dev.sameSorting_received dt f.port).ifAddrs (8 * f.port + i)).symm ▸ haddr
      rw [Dev.waiting_toCores _ _ hlow hhigh haddr', Dev.coresTake_sat, Dev.sat, Dev.wr_ctrl, Dev.elapse_ctrl]
  · obtain ⟨d, p, lost, hexec, hreleased⟩ := exec_net20227Release s dt hserve hc hnext hdue
    exact ⟨_, hexec, (Dev.released_place d ctx p lost).trans hreleased⟩
  · obtain ⟨d, hexec, hdown⟩ := exec_netRxSilence_legA s dt hserve hc hkind hleg hpast
    exact ⟨_, hexec, hdown⟩

end Sys2Proof.Machine
end

section
/-! Lemmas: what the take engine tells, and the work of the device that leaves it alone (R76 to R95): sending over the dowel groups, the states
of the flow engines, the paths between members, the blocks of the frame store, and the take record log. -/

namespace Sys2Proof.Machine

open Sys2Proof

-- The many short proofs below are checked one after another: side by side, each on a thread of its own, they need more memory than the check has.
set_option Elab.async false

/-! ## What the take engine tells -/

/-- The fields that tell of takes and salvos and of who sequences them, but for the crosspoint. -/
def keptFields : List Fld :=
  [D.Xp.MODE, D.Xp.VOTE_LEAD_US, D.Xp.SALVO_MIN_LEAD_US, D.XpCount.TAKES_APPLIED, D.XpCount.SALVOS_ABORTED, D.XpCount.TWIN_TAKES_MISSED,
    D.Straps.PLANE_B, D.Straps.HEAD, D.GroupStatus.STATE, D.Twin.STATE, D.Ens.MEMBER, D.Salvo.STATE, D.Salvo.COUNT, D.Salvo.TAKE_TIME,
    D.Salvo.RESULT, D.Salvo.EPOCH]

/-- The crosspoint itself. -/
def routeFields : List Fld := [D.XpTable.VALID, D.XpTable.SOURCE]

/-- Does a field lie apart from another, or in records behind the first 16 of the other's? -/
def Fld.misses (f g : Fld) : Bool := Fld.apart f g || (f.rep && decide (g.ix + 16 ≤ f.ix))

/-- Does a field lie apart from all that the take engine tells but the crosspoint? -/
def Fld.offSlots (f : Fld) : Bool := keptFields.all (fun g => Fld.misses f g)

/-- Does it lie apart from the crosspoint too? -/
def Fld.offTakes (f : Fld) : Bool := Fld.offSlots f && routeFields.all (fun g => Fld.apart f g)

theorem Dev.rd_wr_misses (d : Dev) {f g : Fld} (h : Fld.misses f g = true) (n v : Nat) {m : Nat} (hm : g.rep = true → m < 16) :
    (d.wr f n v).rd g m = d.rd g m := by
  unfold Fld.misses at h
  rcases Bool.or_eq_true_iff.mp h with h | h
  · exact Dev.rd_wr_apart d f g n m v h
  · rw [Bool.and_eq_true, decide_eq_true_eq] at h
    obtain ⟨hrep, hix⟩ := h
    refine Dev.rd_wr_key d f g n m v fun hkey => ?_
    have hkey := congrArg Key.ix hkey
    simp only [Fld.key, hrep, if_true] at hkey
    split at hkey
    case isTrue hg => have := hm hg; simp only at hkey; omega
    case isFalse => simp only at hkey; omega

/-- What the take engine tells in one device stands in another: with the crosspoint, where `route` says so. -/
structure Dev.Kept (route : Bool) (o d : Dev) : Prop where
  rd : ∀ g ∈ keptFields, ∀ m, (g.rep = true → m < 16) → d.rd g m = o.rd g m
  route : route = true → ∀ g ∈ routeFields, ∀ m, d.rd g m = o.rd g m
  pend : d.xp.pend = o.xp.pend
  asks : d.xp.asks = o.xp.asks
  slots : d.xp.slots = o.xp.slots
  raised : ∀ r ∈ o.raised, r ∈ d.raised

namespace Dev.Kept

theorem refl (x : Bool) (d : Dev) : d.Kept x d := ⟨fun _ _ _ _ => rfl, fun _ _ _ _ => rfl, rfl, rfl, rfl, fun _ h => h⟩

theorem trans {x : Bool} {o d e : Dev} (h : o.Kept x d) (k : d.Kept x e) : o.Kept x e where
  rd g hg m hm := (k.rd g hg m hm).trans (h.rd g hg m hm)
  route hx g hg m := (k.route hx g hg m).trans (h.route hx g hg m)
  pend := k.pend.trans h.pend
  asks := k.asks.trans h.asks
  slots := k.slots.trans h.slots
  raised r hr := k.raised r (h.raised r hr)

/-- With the crosspoint is more than without. -/
theorem slotsOnly {x : Bool} {o d : Dev} (h : o.Kept x d) : o.Kept false d := ⟨h.rd, nofun, h.pend, h.asks, h.slots, h.raised⟩

section
variable {x : Bool} {o d : Dev} (h : o.Kept x d)
include h

/-- An update of other parts of the device. -/
theorem other {e : Dev} (hdict : e.dict = d.dict := by rfl) (hxp : e.xp = d.xp := by rfl) (hraised : e.raised = d.raised := by rfl) :
    o.Kept x e where
  rd g hg m hm := (Dev.rd_congr hdict g m).trans (h.rd g hg m hm)
  route hx g hg m := (Dev.rd_congr hdict g m).trans (h.route hx g hg m)
  pend := by rw [hxp, h.pend]
  asks := by rw [hxp, h.asks]
  slots := by rw [hxp, h.slots]
  raised r hr := hraised ▸ h.raised r hr

theorem setFlow {c : Nat} {f : FlowSt → FlowSt} : o.Kept x (d.setFlow c f) := h.other
theorem setTx {c : Nat} {f : HoldSt → HoldSt} : o.Kept x (d.setTx c f) := h.other
theorem setNetTx {c : Nat} {f : NetTxSt → NetTxSt} : o.Kept x (d.setNetTx c f) := h.other
theorem setRx {c : Nat} {f : SdiRxSt → SdiRxSt} : o.Kept x (d.setRx c f) := h.other
theorem setPlane {p : Nat} {f : PlaneSt → PlaneSt} : o.Kept x (d.setPlane p f) := h.other
theorem setLayer {e : Nat} {f : LayerSt → LayerSt} : o.Kept x (d.setLayer e f) := h.other
theorem setTile {t : Nat} {f : TileSt → TileSt} : o.Kept x (d.setTile t f) := h.other
theorem setDest {r : Nat} {f : DestSt → DestSt} : o.Kept x (d.setDest r f) := h.other
theorem setDl {e : Nat} {f : DwlLaneSt → DwlLaneSt} : o.Kept x (d.setDl e f) := h.other
theorem setDg {g : Nat} {f : DwlGroupSt → DwlGroupSt} : o.Kept x (d.setDg g f) := h.other
theorem setDwl {f : DwlSt → DwlSt} : o.Kept x (d.setDwl f) := h.other
theorem putAlloc {k : Nat} {a : Option Alloc} : o.Kept x (d.putAlloc k a) := h.other
theorem setSession {i : Nat} {f : Session → Session} : o.Kept x (d.setSession i f) := h.other
theorem hold {y : NMap HoldSt} : o.Kept x { d with hold := y } := h.other
theorem takeLog {l : TakeLog} : o.Kept x { d with takeLog := l } := h.other
theorem netPort {n : NMap NetPortSt} : o.Kept x { d with netPort := n } := h.other
theorem emit {e : Emission} : o.Kept x (d.emit e) := h.other

/-- A change of the take engine beside its pending changes, its exchanges and its slots. -/
theorem setXp (f : XpSt → XpSt) (hpend : (f d.xp).pend = d.xp.pend := by rfl) (hasks : (f d.xp).asks = d.xp.asks := by rfl)
    (hslots : (f d.xp).slots = d.xp.slots := by rfl) : o.Kept x (d.setXp f) :=
  ⟨h.rd, h.route, hpend.trans h.pend, hasks.trans h.asks, hslots.trans h.slots, h.raised⟩

theorem wr {f : Fld} {n v : Nat} (hf : Fld.offTakes f = true := by decide) : o.Kept x (d.wr f n v) := by
  unfold Fld.offTakes Fld.offSlots at hf
  rw [Bool.and_eq_true, List.all_eq_true, List.all_eq_true] at hf
  obtain ⟨hslots, hroute⟩ := hf
  exact ⟨fun g hg m hm => (Dev.rd_wr_misses d (hslots g hg) n v hm).trans (h.rd g hg m hm),
    fun hx g hg m => (Dev.rd_wr_apart d f g n m v (hroute g hg)).trans (h.route hx g hg m), h.pend, h.asks, h.slots, h.raised⟩

theorem flag {f : Fld} {n : Nat} {b : Bool} (hf : Fld.offTakes f = true := by decide) : o.Kept x (d.flag f n b) := h.wr hf
theorem sat {f : Fld} {n k : Nat} (hf : Fld.offTakes f = true := by decide) : o.Kept x (d.sat f n k) := h.wr hf
theorem add {f : Fld} {n k : Nat} (hf : Fld.offTakes f = true := by decide) : o.Kept x (d.add f n k) := h.wr hf

theorem raise {src inst : Nat} : o.Kept x (d.raise src inst) :=
  ⟨h.rd, h.route, h.pend, h.asks, h.slots, fun r hr => List.mem_append_left _ (h.raised r hr)⟩

theorem raiseL {src inst : Nat} : o.Kept x (d.raiseL src inst) :=
  ⟨h.rd, h.route, h.pend, h.asks, h.slots, fun r hr => List.mem_append_left _ (h.raised r hr)⟩

theorem endCond {src inst : Nat} : o.Kept x (d.endCond src inst) := h.other

theorem ite {p : Prop} [Decidable p] {e : Dev} (k : o.Kept x e) : o.Kept x (if p then d else e) := by
  split <;> assumption

theorem foldl {α : Type} (l : List α) {f : Dev → α → Dev} (hf : ∀ d a, o.Kept x d → o.Kept x (f d a)) : o.Kept x (l.foldl f d) := by
  induction l generalizing d with
  | nil => exact h
  | cons a t ih => exact ih (hf d a h)

theorem each {l : List Nat} {f : Dev → Nat → Dev} (hf : ∀ d n, o.Kept x d → o.Kept x (f d n)) : o.Kept x (d.each l f) := h.foldl l hf

end

/-- A write of the crosspoint or of another field leaves the slots. -/
theorem wrRoute {o d : Dev} (h : o.Kept false d) {f : Fld} {n v : Nat} (hf : Fld.offSlots f = true := by decide) : o.Kept false (d.wr f n v) := by
  unfold Fld.offSlots at hf
  rw [List.all_eq_true] at hf
  exact ⟨fun g hg m hm => (Dev.rd_wr_misses d (hf g hg) n v hm).trans (h.rd g hg m hm), nofun, h.pend, h.asks, h.slots, h.raised⟩

/-! ## Sending over the dowel groups (R199 to R205) -/

section
variable {x : Bool} {o d : Dev} (h : o.Kept x d)
include h

theorem sendSet (g l p : Nat) (s : LaneDue) : o.Kept x (d.sendSet g l p s) := by
  cases s <;> exact h.other

theorem showRotation (g : Nat) (ls : List Nat) : o.Kept x (d.showRotation g ls) :=
  h.wr.wr.each fun _ _ h => h.wr

theorem sendItem (g l p : Nat) (i : ItemDue) : o.Kept x (d.sendItem g l p i) := by
  have hcount : o.Kept x (match i with
      | .cell _ c => (d.emit (.dowelCell g c)).sat D.GroupCounters.CELLS_TX g 1
      | .frame _ => d.sat D.GroupCounters.MGMT_TX g 1) := by
    cases i with
    | cell r c => exact h.emit.sat
    | frame b => exact h.sat
  unfold Dev.sendItem
  refine each (ite ?_ (showRotation ?_ ..)) fun _ _ h => h.other
  all_goals exact hcount.emit.setDl.wr.setDg

theorem laneTurn (g l p : Nat) : o.Kept x (d.laneTurn g l p) := by
  unfold Dev.laneTurn
  split
  · exact h.sendSet ..
  · split
    · exact h.sendItem ..
    · exact h

theorem groupTurns (g k : Nat) : o.Kept x (d.groupTurns g k) := by
  induction k generalizing d with
  | zero => exact h
  | succ k ih =>
    unfold Dev.groupTurns
    split
    · exact h
    · split
      · split
        · exact ih (h.laneTurn ..)
        · exact h
      · exact h

theorem laneIdle (e : Nat) : o.Kept x (d.laneIdle e) := by
  unfold Dev.laneIdle
  exact h.ite (setDl (h.ite h.emit))

theorem groupRun (g : Nat) : o.Kept x (d.groupRun g) := (h.groupTurns ..).each fun _ e h => h.laneIdle e

theorem sendItems (g : Nat) (l : List ItemDue) : o.Kept x (d.sendItems g l) := (h.groupRun g).setDg.groupRun g

theorem sendMsg (g cls : Nat) (p : Bytes) : o.Kept x (d.sendMsg g cls p) := h.other.sendItems .. |>.ite h.other

theorem post (m : Nat) (b : Bytes) : o.Kept x (d.post m b) := by
  unfold Dev.post
  split
  · exact h.sendMsg ..
  · split
    · exact h.sendMsg ..
    · exact h

theorem report : o.Kept x d.report := by
  unfold Dev.report
  exact h.ite (h.ite (h.other.each fun _ m h => h.post ..))

theorem reroute (efn : Nat) (vias : List Nat) : o.Kept x (d.reroute efn vias) := by
  unfold Dev.reroute
  refine each h.other fun d m h => ?_
  split <;> exact h.other

/-! ### Salvo markers (R89) -/

theorem sendMark (g block : Nat) : o.Kept x (d.sendMark g block) := by
  unfold Dev.sendMark
  dsimp only
  split
  · exact h
  · exact ((h.groupRun g).foldl _ fun _ _ h => h.other).groupRun g

theorem markTo (m block : Nat) : o.Kept x (d.markTo m block) := by
  unfold Dev.markTo
  split
  · exact h.sendMark ..
  · exact h

theorem markTwin (block : Nat) : o.Kept x (d.markTwin block) := (h.sendMark ..).ite h

theorem broadcast (block : Nat) : o.Kept x (d.broadcast block) :=
  have hmesh := h.each (l := d.others) fun _ m h => h.markTo m block
  (hmesh.markTwin block).ite hmesh

theorem repeatMark (g block : Nat) : o.Kept x (d.repeatMark g block) :=
  ((h.markTwin block).ite h).ite ((h.each fun _ m h => h.markTo m block).ite h)

theorem heardMark (g block : Nat) : o.Kept x (d.heardMark g block) := by
  unfold Dev.heardMark
  refine ite ?_ h
  exact ite (h.sat.setXp _) h.sat

/-! ## Flow engines (Table 02.7) -/

theorem showMatch (l : Nat) : o.Kept x (d.showMatch l) := by
  unfold Dev.showMatch
  exact h.ite (ite h.setRx.raiseL h.setRx.endCond)

theorem matchSweep : o.Kept x d.matchSweep := h.each fun _ l h => h.showMatch l

theorem flipDone (v : Nat) : o.Kept x (d.flipDone v) := by
  unfold Dev.flipDone
  split
  · exact ite (other h).wr.flag h
  · exact h

theorem flipsLeft : o.Kept x d.flipsLeft := h.other.each fun _ v h => h.flipDone v

theorem flowTo (c st : Nat) : o.Kept x (d.flowTo c st) := h.wr.setFlow

theorem flowStart (c : Nat) : o.Kept x (d.flowStart c) := (h.flag.wr.flowTo ..).setFlow

theorem flowStop (c : Nat) (queued : Bool) : o.Kept x (d.flowStop c queued) := (h.flag.flag.flowTo ..).setFlow.matchSweep.flipsLeft

theorem flowCommit (c : Nat) : o.Kept x (d.flowCommit c) := by
  unfold Dev.flowCommit
  refine ite (ite (flowStart h.wr c) h.wr) (ite h.wr.setFlow (ite (ite (flowStop h.wr ..) (ite (flowStop h.wr ..) h.wr)) h.wr.flag))

theorem tablePut (i v : Nat) : o.Kept x (d.tablePut i v) := by
  unfold Dev.tablePut
  exact each (ite (h.setXp (fun y => { y with shadow := nput y.shadow 0 i v })) h) fun _ _ h => h.other

theorem showRelay (c : Nat) : o.Kept x (d.showRelay c) := h.ite (h.ite (h.tablePut ..))

theorem ownFlow (c kind efn bind format : Nat) : o.Kept x (d.ownFlow c kind efn bind format) := h.wr.wr.wr.wr.wr.wr

/-! ## Paths between members (R43, R223 to R225) -/

theorem showDest (efn : Nat) : o.Kept x (d.showDest efn) := by
  unfold Dev.showDest
  split
  · exact h
  · exact h.wr

theorem endPeer (efn : Nat) : o.Kept x (d.endPeer efn) := by
  unfold Dev.endPeer
  split
  · exact h
  · exact ite ((h.wr.flowCommit _).reroute ..) h

theorem replanPeer (c : Nat) (group : Option Nat) (format : Nat) : o.Kept x (d.replanPeer c group format) := by
  unfold Dev.replanPeer
  cases group with
  | none => exact setFlow (wr h.wr)
  | some g => exact setFlow (wr (wr h.wr))

theorem announce (efn : Nat) : o.Kept x (d.announce efn) := h.each fun _ _ h => h.post ..

theorem planApply (efn hops frm path info : Nat) : o.Kept x (d.planApply efn hops frm path info) := by
  unfold Dev.planApply
  split
  · exact (((h.wr.wr.showDest efn).reroute ..).announce efn).report
  · refine ite (h.endPeer efn).report ?_
    extract_lets d1 d2
    have h1 : o.Kept x d1 := h.other
    have h2 : o.Kept x d2 := by
      simp only [d2]
      split
      · exact ite (h1.replanPeer ..) h1
      · split
        · exact h1
        · exact (h1.ownFlow ..).flag.flowCommit _
    split
    · exact (((h2.wr.showDest efn).showRelay _).reroute ..).report
    · exact h2

theorem planOrder (efn m : Nat) : o.Kept x (d.planOrder efn m) := (h.planApply ..).ite (h.post ..)

theorem planTo (l : List PlanPair) (efn : Nat) : o.Kept x (d.planTo l efn) :=
  (other h).add.wr.each fun _ e h => h.each fun _ m h => h.planOrder e m

theorem plan (efn m : Nat) (want two : Bool) : o.Kept x (d.plan efn m want two) := by
  unfold Dev.plan
  extract_lets l this
  refine ite (ite h (ite ?_ ?_)) ((h.planTo ..).ite h)
  · refine ite (planOrder h.other ..) ?_
    split
    · exact planTo h.other ..
    · exact planOrder h.other ..
  · split
    · exact h.planTo ..
    · exact h

theorem askPlan (efn : Nat) (want : Bool) : o.Kept x (d.askPlan efn want) := (h.plan ..).ite (h.post ..)

theorem flowUse (efn : Nat) : o.Kept x (d.flowUse efn) := by
  unfold Dev.flowUse
  have h := h.showDest efn
  refine ite h (ite (h.post ..) (ite (h.askPlan ..) ?_))
  split
  · exact (h.askPlan ..).ite h
  · exact h

/-! ## The blocks of the frame store (R253 to R256, R271, R272) -/

theorem setHoldReady (c : Nat) (b : Bool) : o.Kept x (d.setHoldReady c b) := ite (h.each fun _ _ h => h.flag) h.flag

theorem dropHeld : o.Kept x d.dropHeld := h.each fun _ c h => ite (h.setHoldReady c false).setTx h

theorem fillBlocks (k : Nat) (ls : List Nat) (host lost : Bool) : o.Kept x (d.fillBlocks k ls host lost) := by
  have hmask : ∀ (a : Option Alloc) (got : List Nat), o.Kept x ((d.putAlloc k a).unmask got) := fun _ _ => h.putAlloc.each fun _ _ h => h.wr
  unfold Dev.fillBlocks
  split
  · exact h
  · exact ite (ite (hmask ..).other (hmask ..)) (hmask ..)

theorem fillAlloc (k : Nat) (host lost : Bool) : o.Kept x (d.fillAlloc k host lost) := by
  unfold Dev.fillAlloc
  split
  · exact h
  · exact h.fillBlocks ..

theorem regrowClass (cls : List Nat) (least : Bool) : o.Kept x (d.regrowClass cls least) := h.foldl _ fun _ _ h => h.ite (h.fillBlocks ..)

theorem regrow : o.Kept x d.regrow := h.foldl _ fun _ _ h => (ite (h.regrowClass ..) h).regrowClass ..

theorem reconcile (ws : List Want) : o.Kept x (d.reconcile ws) :=
  ((h.other.other.foldl _ fun _ _ h => h.fillAlloc ..).foldl _ fun _ _ h => h.other.fillAlloc ..).regrow

theorem settle : o.Kept x d.settle := (h.reconcile _).dropHeld

/-! ## The take record log (R97 to R99) -/

theorem eraseSector : o.Kept x d.eraseSector := by
  unfold Dev.eraseSector
  split
  · exact h
  · exact h.other.wr

theorem makeRoom (n k : Nat) : o.Kept x (d.makeRoom n k) := by
  induction k generalizing d with
  | zero => exact h
  | succ k ih => exact ite (ih h.eraseSector) h

theorem logTake (kind slot epoch time : Nat) (elems : List Nat) : o.Kept x (d.logTake kind slot epoch time elems) :=
  (wr (takeLog (h.makeRoom (recBytes elems.length) 224)))

/-! ## Requests and their answers -/

theorem elapse (dt : Nat) : o.Kept x (d.elapse dt) := h.other

theorem sendOn (via : Nat) (e : Emission) : o.Kept x (d.sendOn via e) := (ite h.sat h.sat).emit

theorem answer (q : Rcp) (r : Reply) : o.Kept x (d.answer q r) := ite h.setSession (h.setSession.sendOn ..)

theorem answerLate (session seq op status : Nat) : o.Kept x (d.answerLate session seq op status) := by
  unfold Dev.answerLate
  split
  · exact h
  · exact h.setSession.sendOn ..

theorem coreFrame (p : Nat) : o.Kept x (d.coreFrame p) := by
  unfold Dev.coreFrame
  exact netPort (ite h.sat h.sat.sat)

theorem mgRx (via : Nat) : o.Kept x (d.mgRx via) := by
  unfold Dev.mgRx
  exact h.ite (h.sat.ite (h.sat.coreFrame _))

theorem confirmMg : o.Kept x d.confirmMg := by
  unfold Dev.confirmMg
  split
  · exact (other h).flag.flag
  · exact h

theorem heard (q : Rcp) : o.Kept x (d.heard q) := h.ite (confirmMg (ite h.other.sat h.other))

theorem atBody (q : Rcp) : o.Kept x (d.atBody q) := ((h.elapse _).mgRx _).heard q

end

end Dev.Kept

end Sys2Proof.Machine
end

section
/-! Lemmas: what a change of an output does to what the take engine tells (R76 to R83): its checks, its inserted tile, what XP_TABLE shows of
it, its acceptance and its application. -/

namespace Sys2Proof.Machine

open Sys2Proof

-- Proofs one after another, as in the lemmas on what the take engine tells: for the memory of the check.
set_option Elab.async false

/-- A check that answers a failure has passed where the answer is none. -/
theorem of_check {α : Type} {p : Prop} [Decidable p] {st : Nat} {y : Except Nat α} {r : α}
    (h : (if p then .error st else y) = .ok r) : y = .ok r := by
  split at h
  · cases h
  · exact h

/-- A granted WRITE answers what its entry's action gives. -/
theorem serveWrite_answers {me : Instr} {q : Rcp} {ix sub st : Nat} {v : Bytes} {act : Who → Dev → Dev × Nat} {d e : Dev}
    (hgrant : d.grants q ix sub v = true) (hact : act (d.asker q) (d.atBody q) = (e, st)) (hst : st ≠ St.DEFER) :
    serveWrite me q ix sub v act d = e.answer q (Reply.of st) := by
  rw [serveWrite_grants _ _ _ _ _ _ _ hgrant (by rw [hact]; exact hst), hact]

theorem serveDom_answers {me : Instr} {q : Rcp} {ix sub off st : Nat} {v : Bytes} {act : Who → Dev → Dev × Nat} {d e : Dev}
    (hgrant : d.grantsDom q ix sub off v = true) (hact : act (d.asker q) (d.atBody q) = (e, st)) (hst : st ≠ St.DEFER) :
    serveDom me q ix sub off v act d = e.answer q (Reply.of st) := by
  rw [serveDom_grants _ _ _ _ _ _ _ _ hgrant (by rw [hact]; exact hst), hact]

namespace Dev.Kept

/-! ## Inserted tiles (R81, R305) -/

section
variable {x : Bool} {o d : Dev} (h : o.Kept x d)
include h

theorem wake (need : Nat × Nat → Bool) : o.Kept x (d.wake need) := h.foldl _ fun _ _ h => h.wr.sat

end

section
variable {o d : Dev} (h : o.Kept false d)
include h

theorem setSource (c : Nat) (source : Option Nat) : o.Kept false (d.setSource c source) := (h.wrRoute.wrRoute).tablePut ..

/-- A tile is inserted in settings, contexts and routes of its own. -/
theorem insertTile {c efn : Nat} {sync gateway : Bool} {e : Dev} {i : Insert} (hins : d.insertTile c efn sync gateway = some (e, i)) :
    o.Kept false e := by
  unfold Dev.insertTile at hins
  split at hins
  case h_2 => exact nomatch hins
  case h_1 t p q _ _ _ =>
    extract_lets f path phase fsBits d1 d2 d3 d4 d5 d6 d7 at hins
    have h1 : o.Kept false d1 := (h.ownFlow ..).ownFlow ..
    have h3 : o.Kept false d3 := ite (ite h1.wr.wr.wr.wr.wr.wr h1.wr.wr) h1.wr.wr.wr.wr.wr
    have h7 : o.Kept false d7 := ((h3.flag.setTile.wake _).setSource ..).setFlow
    obtain ⟨rfl, -⟩ := Prod.mk.inj (Option.some.inj hins)
    exact (h7.flowCommit _).flowCommit _

theorem freeTile (t : Nat) : o.Kept false (d.freeTile t) := by
  have hctx : ∀ d c, o.Kept false d → o.Kept false (if 4096 ≤ c then ((d.wr D.Flow.ENABLE c 0).flowCommit c).setSource c none
      else (d.wr D.Flow.ENABLE c 0).flowCommit c) := fun d c h => ite ((flowCommit h.wr c).setSource ..) (flowCommit h.wr c)
  unfold Dev.freeTile
  exact ite h (settle (setTile (flag (wr (wr (wr (h.each hctx)))))))

/-- The checks of a change leave what the take engine tells as it was, but for the tile that the change inserts. -/
theorem takeChecks {c : Nat} {source : Option Nat} {fs : Bool} {time : Nat} {slot : Option (Nat × Nat)} {e : Dev} {p : Pend}
    (hok : d.takeChecks c source fs time slot = .ok (e, p)) :
    o.Kept false e ∧ p.source = source ∧ p.time = time := by
  unfold Dev.takeChecks at hok
  extract_lets change instant at hok
  have hsame : ∀ {r : Dev × Pend}, (.ok (d, change) : Except Nat (Dev × Pend)) = .ok r →
      o.Kept false r.1 ∧ r.2.source = source ∧ r.2.time = time := fun hr => by
    obtain rfl := Except.ok.inj hr
    exact ⟨h, rfl, rfl⟩
  have hok := of_check hok
  cases source with
  | none => exact hsame (of_check hok)
  | some efn =>
    have hok := of_check (of_check (of_check (of_check (of_check (of_check (of_check hok))))))
    extract_lets need at hok
    split at hok
    · split at hok
      · exact hsame hok
      · cases hok
    · split at hok
      · cases hok
      case h_2 d' i hins =>
        obtain ⟨rfl, rfl⟩ := Prod.mk.inj (Except.ok.inj (of_check (of_check hok)))
        exact ⟨(h.insertTile hins).settle, rfl, rfl⟩

end

/-! ## What an output shows (Table 03.5, R106, R481 to R483) -/

section
variable {x : Bool} {o d : Dev} (h : o.Kept x d)
include h

theorem showPend (c : Nat) : o.Kept x (d.showPend c) := by
  unfold Dev.showPend
  dsimp only
  split
  · exact h.flag.flag.wr.wr.flag.wr.setFlow
  · exact h.flag.flag.wr.wr.flag.wr.setFlow

theorem showSafe (c : Nat) (b : Bool) : o.Kept x (d.showSafe c b) :=
  ite (h.flag.each fun _ _ h => ite h.flag h.flag.flag) (ite (ite h.flag.flag h.flag.flag.flag) h.flag)

theorem countSafe (c : Nat) : o.Kept x (d.countSafe c) := ite (h.each fun _ _ h => h.sat) (ite h.sat h)

theorem safeNow (c : Nat) : o.Kept x (d.safeNow c) := by
  unfold Dev.safeNow
  exact ite h (hold ((h.countSafe c).showSafe c true))

theorem enterSafe (c why : Nat) : o.Kept x (d.enterSafe c why) := (h.safeNow c).setFlow

theorem leaveSafe (c : Nat) : o.Kept x (d.leaveSafe c) := by
  have hdrop : o.Kept x (if d.anchoredOk c && !d.on D.FlowStatus.SOURCE_LOST c then
      ((d.dropWhy c Safe.noCells).dropWhy c Safe.rebuild).dropWhy c Safe.reset else d) := ite h.setFlow.setFlow.setFlow h
  unfold Dev.leaveSafe
  exact h.ite (ite (hdrop.showSafe c false) hdrop)

theorem txMissing (c : Nat) : o.Kept x (d.txMissing c) := by
  unfold Dev.txMissing
  refine h.ite (ite (setNetTx (ite (setNetTx h.other) h)) ?_)
  dsimp only
  split
  · exact h
  · exact h.setNetTx.ite (h.setNetTx.ite (h.setNetTx.ite h.setNetTx))

theorem txClose (c : Nat) : o.Kept x (d.txClose c) := by
  unfold Dev.txClose
  dsimp only
  split
  · exact h
  · exact h.setNetTx.ite ((h.txMissing c).ite (h.setNetTx.ite h))

theorem txSafe (c : Nat) (held : Bool) : o.Kept x (d.txSafe c held) := by
  have hclose := h.txClose c
  unfold Dev.txSafe
  exact hclose.setNetTx.ite (ite (hclose.setNetTx.ite hclose) (hclose.setNetTx.ite (hclose.setNetTx.ite hclose)))

theorem showUntimed (c : Nat) (b : Bool) : o.Kept x (d.showUntimed c b) := ite (h.flag.each fun _ _ h => h.flag) h.flag

theorem showAnchor (c itime : Nat) : o.Kept x (d.showAnchor c itime) := h.flag.wr

theorem layerApply (c : Nat) (disconnect : Bool) : o.Kept x (d.layerApply c disconnect) := by
  unfold Dev.layerApply
  exact h.ite (ite h.sat.setLayer.setLayer h.sat.setLayer)

theorem noteFollow (r : Nat) (efn : Option Nat) : o.Kept x (d.noteFollow r efn) := ite h.flag.flag.sat.raise h.flag.flag

theorem audioApply (c : Nat) (efn : Option Nat) (accept : Nat) : o.Kept x (d.audioApply c efn accept) :=
  h.each fun _ r h => ite (h.noteFollow r efn) (h.noteFollow r efn).setDest

end

end Dev.Kept

/-! ## The acceptance of a take (R78, R79) -/

/-- A device whose pending changes are others. -/
def Dev.withPend (d : Dev) (l : List (Nat × Pend)) : Dev := d.setXp (fun y => { y with pend := l })

@[simp] theorem Dev.rd_withPend (d : Dev) (l : List (Nat × Pend)) (g : Fld) (m : Nat) : (d.withPend l).rd g m = d.rd g m := (rfl)
@[simp] theorem Dev.pend_withPend (d : Dev) (l : List (Nat × Pend)) : (d.withPend l).xp.pend = l := (rfl)
@[simp] theorem Dev.asks_withPend (d : Dev) (l : List (Nat × Pend)) : (d.withPend l).xp.asks = d.xp.asks := (rfl)
@[simp] theorem Dev.raised_withPend (d : Dev) (l : List (Nat × Pend)) : (d.withPend l).raised = d.raised := (rfl)

theorem Dev.Kept.withPend {x : Bool} {o d : Dev} (h : o.Kept x d) (l : List (Nat × Pend)) : (o.withPend l).Kept x (d.withPend l) :=
  ⟨h.rd, h.route, rfl, h.asks, h.slots, h.raised⟩

/-- The changes pending once a single take of an output has been accepted: it stands in the place of the output's pending take. -/
def Dev.pendTaken (d : Dev) (c : Nat) (p : Pend) : List (Nat × Pend) :=
  d.xp.pend.filter (fun y => !(y.1 == c && y.2.slot.isNone)) ++ [(c, { p with accept := d.now })]

/-- Beside the new pending change, an acceptance leaves what the take engine tells of the slots. -/
theorem Dev.kept_acceptTake (d : Dev) (c : Nat) (p : Pend) : (d.withPend (d.pendTaken c p)).Kept false (d.acceptTake c p) := by
  have h := Dev.Kept.refl false d
  unfold Dev.acceptTake
  extract_lets p' old d1 d2 d3 d4 d5
  have h1 : d.Kept false d1 := .ite h h.sat
  have h2 : (d.withPend (d.pendTaken c p)).Kept false d2 := by
    have hpend : d1.xp.pend = d.xp.pend := h1.pend
    have hd2 : d2 = d1.withPend (d.pendTaken c p) := by simp only [d2, Dev.withPend, Dev.setXp, Dev.pendTaken, hpend, p']
    exact hd2 ▸ h1.withPend _
  exact ((((h2.each fun _ t h => h.freeTile t).each fun _ e h => h.flowUse e).setFlow).wr.showPend c).report

/-- The accepted change waits for its output. -/
theorem Dev.pend_acceptTake (d : Dev) (c : Nat) (p : Pend) :
    ∃ y ∈ (d.acceptTake c p).xp.pend, y.1 = c ∧ y.2.source = p.source ∧ y.2.time = p.time := by
  rw [(d.kept_acceptTake c p).pend, Dev.pend_withPend, Dev.pendTaken]
  exact ⟨_, List.mem_append_right _ (List.mem_singleton_self _), rfl, rfl, rfl⟩

/-- An open exchange leaves the list of exchanges. -/
def Dev.withoutAsk (d : Dev) (msg : Nat) : Dev := d.setXp (fun y => { y with asks := y.asks.filter (fun b => b.msg != msg) })

theorem Dev.kept_endAsk (d : Dev) (a : TakeAsk) :
    ((d.withoutAsk a.msg).withPend ((d.withoutAsk a.msg).pendTaken a.output a.pend)).Kept false (d.endAsk a) :=
  (Dev.kept_acceptTake ..).answerLate ..

/-- An exchange that has ended is open no more. -/
theorem Dev.asks_endAsk (d : Dev) (a : TakeAsk) : (d.endAsk a).xp.asks.find? (fun b => b.msg == a.msg) = none := by
  rw [(d.kept_endAsk a).asks, Dev.asks_withPend, List.find?_eq_none]
  intro b hb
  have hmsg := (List.mem_filter.1 hb).2
  simpa using hmsg

theorem Dev.pend_endAsk (d : Dev) (a : TakeAsk) : ∃ y ∈ (d.endAsk a).xp.pend, y.1 = a.output ∧ y.2.source = a.pend.source := by
  rw [(d.kept_endAsk a).pend, Dev.pend_withPend, Dev.pendTaken]
  exact ⟨_, List.mem_append_right _ (List.mem_singleton_self _), rfl, rfl⟩

theorem Dev.rd_endAsk (d : Dev) (a : TakeAsk) {g : Fld} (hg : g ∈ keptFields) {m : Nat} (hm : g.rep = true → m < 16) :
    (d.endAsk a).rd g m = d.rd g m := ((d.kept_endAsk a).rd g hg m hm).trans rfl

theorem Dev.raised_endAsk {d : Dev} {r : Raise} (hr : r ∈ d.raised) (a : TakeAsk) : r ∈ (d.endAsk a).raised :=
  (d.kept_endAsk a).raised r hr

theorem Dev.mem_raised_raise (d : Dev) (src inst : Nat) : ⟨src, inst, false⟩ ∈ (d.raise src inst).raised :=
  List.mem_append_right _ (List.mem_singleton_self _)

/-! ## The application of a change (R83) -/

theorem Dev.rd_setSource (d : Dev) (c : Nat) (source : Option Nat) {g : Fld} (m : Nat) (hvalid : Fld.apart D.XpTable.VALID g = true)
    (hsource : Fld.apart D.XpTable.SOURCE g = true) : (d.setSource c source).rd g m = d.rd g m := by
  unfold Dev.setSource
  rw [Dev.rd_tablePut, Dev.rd_wr_apart _ _ _ _ _ _ hsource, Dev.rd_flag_apart _ _ _ _ _ _ hvalid]

theorem Dev.on_setSource_valid (d : Dev) (c : Nat) (source : Option Nat) :
    (d.setSource c source).on D.XpTable.VALID (c - 4096) = source.isSome := by
  unfold Dev.on Dev.setSource
  rw [Dev.rd_tablePut, Dev.rd_wr_apart _ _ _ _ _ _ (by decide)]
  exact Dev.on_flag_same _ _ _ _ rfl

theorem Dev.rd_setSource_source (d : Dev) (c : Nat) (source : Option Nat) :
    (d.setSource c source).rd D.XpTable.SOURCE (c - 4096) = source.getD 0 % 2 ^ 16 := by
  unfold Dev.setSource
  rw [Dev.rd_tablePut]
  exact Dev.rd_wr_same ..

/-- The fields that tell of an application. -/
def appliedFields : List Fld := [D.XpCount.TAKES_APPLIED, D.XpTable.VALID, D.XpTable.SOURCE]

theorem Dev.Kept.rd_applied {o d : Dev} (h : o.Kept true d) {g : Fld} (hg : g ∈ appliedFields) (m : Nat) : d.rd g m = o.rd g m := by
  obtain hroute | ⟨hkept, hrep⟩ : g ∈ routeFields ∨ g ∈ keptFields ∧ g.rep = false := by
    clear h
    revert g
    decide
  · exact h.route rfl g hroute m
  · exact h.rd g hkept m fun hr => by simp [hrep] at hr

theorem Dev.rd_salvoApplied (d : Dev) (slot : Nat) {g : Fld} (hg : g ∈ appliedFields) (m : Nat) : (d.salvoApplied slot).rd g m = d.rd g m := by
  have hxp : ∀ (d : Dev) f, (d.setXp f).rd g m = d.rd g m := fun _ _ => rfl
  have happart : Fld.apart D.Salvo.STATE g = true ∧ Fld.apart D.Salvo.APPLIED_TIME g = true ∧ Fld.apart D.XpCount.SALVOS_APPLIED g = true := by
    clear hxp
    revert g
    decide
  unfold Dev.salvoApplied
  extract_lets x first d1 d2
  refine Dev.rd_ite g m (hxp ..) ?_
  rw [Dev.rd_add_apart _ _ _ _ _ _ happart.2.2, hxp, Dev.rd_wr_apart _ _ _ _ _ _ happart.2.1, Dev.rd_wr_apart _ _ _ _ _ _ happart.1, hxp]

/-- A change of an output that has no inserted tile sets its entry of the crosspoint, and counts once; what else it does leaves both. -/
theorem Dev.rd_applyPend (d : Dev) (c : Nat) (p : Pend) (hsync : d.on D.XpTable.FS_INSERTED (c - 4096) = false)
    (hgate : d.on D.XpTable.GATEWAY_INSERTED (c - 4096) = false) :
    ∃ o e : Dev, (∀ g m, o.rd g m = d.rd g m) ∧ (o.setSource c p.source).Kept true e ∧
      ∀ g ∈ appliedFields, ∀ m, (d.applyPend c p).rd g m = (e.add D.XpCount.TAKES_APPLIED 0 1).rd g m := by
  unfold Dev.applyPend
  -- up to the count; each stage is forgotten but for what it keeps
  extract_lets +onlyGivenNames n prev inserted untimed d1 d2 d3 d4
  have hinserted : inserted = none := by simp [inserted, n, hsync, hgate]
  clear_value inserted
  subst hinserted
  have h4 : d2.Kept true d4 := (Dev.Kept.refl true d2).flag.flag.wr.wr.flag
  clear_value d4 prev untimed
  extract_lets +onlyGivenNames same next d5 d6 d7
  have h7 : d2.Kept true d7 :=
    have h5 : d2.Kept true d5 := .ite h4.setFlow h4
    have h6 : d2.Kept true d6 := .ite (.setTx h5.setFlow) h5
    .ite h6 h6.flag.flag
  clear_value d7 next
  extract_lets +onlyGivenNames d8 d9 d10
  have h10 : d2.Kept true d10 := by
    have h8 : d2.Kept true d8 := by
      simp only [d8]
      split
      · exact .ite (h7.showAnchor ..) h7
      · exact h7
    have h9 : d2.Kept true d9 := h8.flag.setFlow
    exact .ite h9.setFlow (h9.ite (h9.enterSafe ..))
  clear_value d10
  extract_lets +onlyGivenNames d11 d12 d13
  have h13 : d2.Kept true d13 :=
    have h12 : d2.Kept true d12 := .ite (.txSafe (.setFlow h10) ..) (.setFlow h10)
    .ite (h12.sat.showUntimed ..).raise (h10.showUntimed ..)
  clear_value d13
  refine ⟨d1, d13, fun _ _ => rfl, h13, fun g hg m => ?_⟩
  -- and after it
  extract_lets +onlyGivenNames d14 d15 d16 d17 d18 d19
  change _ = d14.rd g m
  clear_value d14
  have h17 : d14.Kept true d17 := by
    have h16 : d14.Kept true d16 := by
      have h15 : d14.Kept true d15 := .refl ..
      simp only [d16]
      split
      · exact h15.showDest _
      · exact h15
    simp only [d17]
    split
    · exact h16.ite (h16.flowUse _)
    · exact h16
  clear_value d17
  have h19 : d14.Kept true d19 := ((((h17.layerApply ..).audioApply ..).showPend c).leaveSafe c).report
  refine Eq.trans ?_ (h19.rd_applied hg m)
  split
  · exact Dev.rd_salvoApplied _ _ hg m
  · rfl

end Sys2Proof.Machine
end

section
/-! Obligations of 03_takes_and_salvos.md: takes, from their acceptance to the record log (R72, R77, R78, R80, R83, R99, R564). -/

namespace Sys2Proof.Machine

open Sys2Proof

-- Proofs one after another, as in the lemmas on what the take engine tells: for the memory of the check.
set_option Elab.async false

/-! ## Requests and exchanges (R77, R80, R564) -/

theorem Dev.Kept.paired {x : Bool} {o d : Dev} (h : o.Kept x d) : d.paired = o.paired := by
  rw [Dev.paired, h.rd D.Twin.STATE (by decide) 0 (by decide), Dev.paired]

theorem exists_ok_of_isSome {α : Type} {y : Except Nat α} (h : y.toOption.isSome = true) : ∃ r, y = .ok r := by
  cases y with
  | error st => simp [Except.toOption] at h
  | ok r => exact ⟨r, rfl⟩

/-- Beside an unpaired twin a take that passes every check is accepted once it is in the log. -/
theorem Dev.take_accepted {d e : Dev} {w : Who} {v : Nat} {p : Pend} (hcheck : d.takeCheck12 w.role v = none)
    (hok : d.takeChecks (TakeD.output v) (takeSource v) (TakeD.fsOnTake v) (TakeD.time v) none = .ok (e, p)) (hpaired : d.paired = false)
    (seq op : Nat) :
    d.take w seq op v = ((e.logTake 1 0xFF 0xFF (TakeD.time v) [p.elem (TakeD.output v)]).acceptTake (TakeD.output v) p, St.OK) := by
  obtain ⟨hkept, -, -⟩ := (Dev.Kept.refl false d).takeChecks hok
  have hpaired' : (e.logTake 1 0xFF 0xFF (TakeD.time v) [p.elem (TakeD.output v)]).paired = false := (hkept.logTake ..).paired.trans hpaired
  simp only [Dev.take, hcheck, hok, hpaired', Bool.false_eq_true, if_false]

theorem exec_take (s : State) (q : Rcp) (v : Nat) :
    exec (.take q v) s = .next { s with
      dev := serveWrite (.take q.again v) q 0x0C10 0x01 ⟨16, v⟩ (fun w d => d.take w q.seq q.op v) s.dev } := rfl

section
variable (s : State) (dt : Nat) (hserve : s.dev.serving = true)
include hserve

/-- The twin's take that passes is logged, answered and accepted. -/
theorem exec_twinTakeRx {msg v : Nat} {e : Dev} {p : Pend} (hpaired : s.dev.paired = true)
    (hok : (s.dev.elapse dt).takeChecks (TakeD.output v) (takeSource v) (TakeD.fsOnTake v) (TakeD.time v) none = .ok (e, p)) :
    exec (.twinTakeRx dt msg v) s = .next { s with
      dev := ((e.logTake 1 0xFF 0xFF (TakeD.time v) [p.elem (TakeD.output v)]).sendMsg 7 0x03 ⟨3, msg * 256 + St.OK⟩).acceptTake
        (TakeD.output v) p } := by
  have hpaired' : (s.dev.elapse dt).paired = true := hpaired
  simp only [exec, execTwinTakeRx, State.act, Dev.live_serving _ _ _ hserve, hpaired', hok, Bool.not_true, Bool.false_eq_true, if_false]

theorem exec_twinTakeAck {msg status : Nat} {a : TakeAsk} (hask : s.dev.xp.asks.find? (fun b => b.msg == msg) = some a) :
    exec (.twinTakeAck dt msg status) s = .next { s with
      dev := (if status = St.OK then s.dev.elapse dt else (s.dev.elapse dt).sat D.XpCount.TWIN_TAKES_MISSED 0 1).endAsk a } := by
  simp only [exec, execTwinTakeAck, State.act, Dev.live_serving _ _ _ hserve, Dev.elapse_xp, hask]

theorem exec_twinTakeTimeout {a : TakeAsk} {rest : List TakeAsk} (hasks : s.dev.xp.asks = a :: rest)
    (hpast : a.sentAt + 500000 ≤ s.dev.wall + dt) :
    exec (.twinTakeTimeout dt) s = .next { s with
      dev := (((s.dev.elapse dt).sat D.XpCount.TWIN_TAKES_MISSED 0 1).raise Src.XC_TWIN_TAKE_MISSED a.output).endAsk a } := by
  have hpast' : (s.dev.elapse dt).past a.sentAt 500000 = true := decide_eq_true hpast
  simp only [exec, execTwinTakeTimeout, State.act, Dev.live_serving _ _ _ hserve, Dev.elapse_xp, hasks, hpast', Bool.not_true,
    Bool.false_eq_true, if_false]

/-! ## Application instants (R72, R83) -/

/-- The change of an output that applies first, once due, applies at an instant of the output outside a rebuild. -/
theorem exec_takeApply {ctx : Nat} {p : Pend} (hlow : 4096 ≤ ctx) (hhigh : ctx < 8192) (hrun : s.dev.running ctx = true)
    (hfirst : s.dev.firstPend ctx = some p) (hbuild : s.dev.rebuilding = false) (hagain : p.again = false)
    (hdue : (s.dev.elapse dt).pendDue p = true) (hinstant : (s.dev.elapse dt).atInstant ctx p = true) (hdoubt : p.doubt = false) :
    exec (.takeApply dt ctx) s = .next { s with dev := (s.dev.elapse dt).applyPend ctx p } := by
  have hrun' : (s.dev.elapse dt).running ctx = true := hrun
  have hfirst' : (s.dev.elapse dt).firstPend ctx = some p := hfirst
  have hbuild' : (s.dev.elapse dt).rebuilding = false := hbuild
  have hin : ¬(ctx < 4096 ∨ 8192 ≤ ctx) := by omega
  have htile : (s.dev.elapse dt).takeUp ctx p = s.dev.elapse dt := by
    unfold Dev.takeUp
    split
    · rfl
    · simp only [hagain, Bool.not_false, Bool.true_or, if_true]
  have happly : (s.dev.elapse dt).applyDue ctx = (s.dev.elapse dt).applyPend ctx p := by
    simp only [Dev.applyDue, hfirst', hdue, hinstant, hbuild', hdoubt, htile, Bool.not_true, Bool.false_eq_true, Bool.or_self,
      if_false, if_true]
  simp only [exec, execTakeApply, State.act, Dev.live_serving _ _ _ hserve, hrun', happly, ← or_assoc, hin, Bool.not_true, Bool.false_eq_true,
    or_self, if_false]

/-- A committed playout delay is in force where the output does not run, has had no frame boundary, or is at one. -/
theorem exec_delayChangeApply {ctx : Nat} (hlow : 4096 ≤ ctx) (hhigh : ctx < 8192)
    (hnow : s.dev.running ctx = false ∨ (s.dev.flowSt ctx).boundary = none ∨ (s.dev.flowSt ctx).boundary = some (s.dev.elapse dt).now) :
    exec (.delayChangeApply dt ctx) s
      = .next { s with dev := (s.dev.elapse dt).setFlow ctx (fun x => { x with oldDelay := none }) } := by
  have hrun : (s.dev.elapse dt).running ctx = s.dev.running ctx := rfl
  have hflow : (s.dev.elapse dt).flowSt ctx = s.dev.flowSt ctx := rfl
  have hin : ¬(ctx < 4096 ∨ 8192 ≤ ctx) := by omega
  simp only [exec, execDelayChangeApply, State.act, Dev.live_serving _ _ _ hserve, hrun, hflow, if_neg hin]
  obtain h | h | h := hnow <;> simp [h]

end

/-! ## The record log (R99) -/

theorem TakeLog.put_bases (l : TakeLog) (kind slot epoch time : Nat) (elems : List Nat) :
    (l.put kind slot epoch time elems).base0 = l.base0 ∧ (l.put kind slot epoch time elems).base1 = l.base1 := ⟨rfl, rfl⟩

theorem TakeLog.foldl_put_bases (old : List TRec) (l : TakeLog) :
    (old.foldl (fun l x => l.put x.kind x.slot x.epoch x.time x.elems) l).base0 = l.base0 ∧
      (old.foldl (fun l x => l.put x.kind x.slot x.epoch x.time x.elems) l).base1 = l.base1 := by
  induction old generalizing l with
  | nil => exact ⟨rfl, rfl⟩
  | cons x t ih => exact ih _

/-- A sector's erasure leaves the newer base copy and writes the crosspoint over the older one. -/
theorem Dev.eraseSector_bases (d : Dev) (hlog : d.takeLog.log ≠ []) :
    (if d.takeLog.newer1 then d.eraseSector.takeLog.base1 else d.eraseSector.takeLog.base0)
        = (if d.takeLog.newer1 then d.takeLog.base1 else d.takeLog.base0) ∧
      ∃ g, (if d.takeLog.newer1 then d.eraseSector.takeLog.base0 else d.eraseSector.takeLog.base1) = (d.baseNow g).image := by
  generalize hafter : d.eraseSector = e
  unfold Dev.eraseSector at hafter
  split at hafter
  case h_1 h => exact absurd h hlog
  case h_2 r rest _ =>
    extract_lets sector recs old l0 l1 l2 top image l3 at hafter
    subst hafter
    obtain ⟨h0, h1⟩ : l2.base0 = d.takeLog.base0 ∧ l2.base1 = d.takeLog.base1 := TakeLog.foldl_put_bases _ l1
    have hnewer : l2.newer1 = d.takeLog.newer1 := by simp only [TakeLog.newer1, h0, h1]
    rw [Dev.wr_takeLog]
    simp only [l3, hnewer]
    split
    · exact ⟨h1, top, rfl⟩
    · exact ⟨h0, top, rfl⟩

theorem exec_logSectorErase (s : State) (dt : Nat) :
    exec (.logSectorErase dt) s = .next { s with dev := (s.dev.elapse dt).eraseSector } := rfl

/-- Settles O15: each command as its equation above says it, and what then stands in the take engine. -/
theorem takesComplete : Obligations.TakesComplete := by
  unfold Obligations.TakesComplete
  refine ⟨fun s q v hgrant hcheck hok hpaired => ?_, fun s dt msg v hserve hpaired hok => ?_, fun s dt msg status a hserve hask => ?_,
    fun s dt a rest hserve hasks hpast => ?_,
    fun s dt ctx p hserve hlow hhigh hrun hfirst hbuild hagain hdue hinstant hdoubt hsync hgate => ?_,
    fun s dt ctx hserve hlow hhigh hnow => ?_, fun s dt hlog => ?_⟩
  · obtain ⟨⟨e, p⟩, hok⟩ := exists_ok_of_isSome hok
    obtain ⟨-, hsource, htime⟩ := (Dev.Kept.refl false _).takeChecks hok
    have hpaired' : (s.dev.atBody q).paired = false := ((Dev.Kept.refl false s.dev).atBody q).paired.trans hpaired
    have htake := Dev.take_accepted hcheck hok hpaired' q.seq q.op
    refine ⟨_, by rw [exec_take, serveWrite_answers hgrant htake (by decide)], Dev.answered_answer _ q (Reply.of St.OK) (by decide), ?_⟩
    obtain ⟨y, hy, hout, hsrc, htm⟩ := Dev.pend_acceptTake (e.logTake 1 0xFF 0xFF (TakeD.time v) [p.elem (TakeD.output v)]) (TakeD.output v) p
    rw [Dev.xp_answer, List.any_eq_true]
    exact ⟨y, hy, by simp [hout, hsrc, htm, hsource, htime]⟩
  · obtain ⟨⟨e, p⟩, hok⟩ := exists_ok_of_isSome hok
    obtain ⟨-, hsource, -⟩ := (Dev.Kept.refl false _).takeChecks hok
    refine ⟨_, exec_twinTakeRx s dt hserve hpaired hok, ?_⟩
    obtain ⟨y, hy, hout, hsrc, -⟩ := Dev.pend_acceptTake ((e.logTake 1 0xFF 0xFF (TakeD.time v) [p.elem (TakeD.output v)]).sendMsg 7 0x03
      ⟨3, msg * 256 + St.OK⟩) (TakeD.output v) p
    rw [List.any_eq_true]
    exact ⟨y, hy, by simp [hout, hsrc, hsource]⟩
  · have hmsg : a.msg = msg := by simpa using List.find?_some hask
    refine ⟨_, exec_twinTakeAck s dt hserve hask, hmsg ▸ Dev.asks_endAsk .., ?_⟩
    obtain ⟨y, hy, hout, hsrc⟩ :=
      Dev.pend_endAsk (if status = St.OK then s.dev.elapse dt else (s.dev.elapse dt).sat D.XpCount.TWIN_TAKES_MISSED 0 1) a
    rw [List.any_eq_true]
    exact ⟨y, hy, by simp [hout, hsrc]⟩
  · refine ⟨_, exec_twinTakeTimeout s dt hserve hasks hpast, ?_, Dev.asks_endAsk .., ?_⟩
    · rw [Dev.rd_endAsk _ _ (by decide) (by decide), Dev.rd_raise, Dev.rd_sat_same]
      rfl
    · exact List.contains_iff_mem.2 (Dev.raised_endAsk (Dev.mem_raised_raise ..) a)
  · obtain ⟨o, e, hsame, hkept, hafter⟩ := Dev.rd_applyPend (s.dev.elapse dt) ctx p hsync hgate
    refine ⟨_, exec_takeApply s dt hserve hlow hhigh hrun hfirst hbuild hagain hdue hinstant hdoubt, ?_, ?_, ?_⟩
    · rw [hafter _ (by decide), Dev.rd_add_same, hkept.rd_applied (by decide), Dev.rd_setSource _ _ _ _ (by decide) (by decide), hsame]
      rfl
    · rw [Dev.on, hafter _ (by decide), Dev.rd_add_apart _ _ _ _ _ _ (by decide), hkept.rd_applied (by decide)]
      exact Dev.on_setSource_valid ..
    · rw [hafter _ (by decide), Dev.rd_add_apart _ _ _ _ _ _ (by decide), hkept.rd_applied (by decide)]
      exact Dev.rd_setSource_source ..
  · exact ⟨_, exec_delayChangeApply s dt hserve hlow hhigh hnow, congrArg FlowSt.oldDelay (Dev.flowSt_setFlow_same ..)⟩
  · exact ⟨_, exec_logSectorErase s dt, (s.dev.elapse dt).eraseSector_bases hlog⟩

end Sys2Proof.Machine
end

section
/-! Lemmas: what the salvo protocol tells of a slot, and the work on a slot's part that leaves it alone (R84 to R95). -/

namespace Sys2Proof.Machine

open Sys2Proof

open SlotState

-- Proofs one after another, as in the lemmas on what the take engine tells: for the memory of the check.
set_option Elab.async false

/-! ## What a slot holds -/

@[simp] theorem Dev.salvoSt_setSalvo_same (d : Dev) (s : Nat) (f : SalvoSt → SalvoSt) : (d.setSalvo s f).salvoSt s = f (d.salvoSt s) :=
  nget_nput_same ..

theorem Dev.salvoSt_setSalvo_ne (d : Dev) {s k : Nat} (f : SalvoSt → SalvoSt) (h : k ≠ s) : (d.setSalvo s f).salvoSt k = d.salvoSt k :=
  nget_nput_other _ _ _ h

@[simp] theorem Dev.rd_setSalvo (d : Dev) (s : Nat) (f : SalvoSt → SalvoSt) (g : Fld) (m : Nat) : (d.setSalvo s f).rd g m = d.rd g m := (rfl)

@[simp] theorem Dev.salvoSt_wr (d : Dev) (f : Fld) (n v s : Nat) : (d.wr f n v).salvoSt s = d.salvoSt s := (rfl)

theorem Dev.slotState_slotTo (d : Dev) (s : Nat) {st : Nat} (h : st < 8) : (d.slotTo s st).slotState s = st :=
  (Dev.rd_wr_same ..).trans (Nat.mod_eq_of_lt (Nat.lt_trans h (by decide)))

/-! ## What the salvo protocol asks of the device -/

namespace Dev.Kept

section
variable {x : Bool} {o d : Dev} (h : o.Kept x d)
include h

theorem salvoSt (s : Nat) : d.salvoSt s = o.salvoSt s := by rw [Dev.salvoSt, Dev.salvoSt, h.slots]

theorem hostSalvo : d.hostSalvo = o.hostSalvo := by rw [Dev.hostSalvo, Dev.hostSalvo, h.rd _ (by decide) _ (by decide)]

theorem card : d.card = o.card := h.rd _ (by decide) _ (by decide)

theorem me : d.me = o.me := by rw [Dev.me, Dev.me, h.rd _ (by decide) _ (by decide)]

theorem coordinates : d.coordinates = o.coordinates := by
  rw [Dev.coordinates, Dev.coordinates, h.hostSalvo, h.card, Dev.on, Dev.on, Dev.twinGroup, Dev.twinGroup,
    h.rd D.Straps.HEAD (by decide) _ (by decide), h.rd D.GroupStatus.STATE (by decide) _ (by decide)]

theorem slotOpen : d.slotOpen = o.slotOpen := by rw [Dev.slotOpen, Dev.slotOpen, h.hostSalvo, h.coordinates]

variable {s : Nat} (hs : s < 16)
include hs

theorem slotState : d.slotState s = o.slotState s := h.rd _ (by decide) _ fun _ => hs

theorem voting : d.voting s = o.voting s := by
  rw [Dev.voting, Dev.voting, h.slotState hs, h.salvoSt, h.coordinates, h.hostSalvo]

theorem slotIdle (epoch : Nat) : d.slotIdle s epoch = o.slotIdle s epoch := by
  rw [Dev.slotIdle, Dev.slotIdle, h.slotState hs, h.rd D.Salvo.EPOCH (by decide) s fun _ => hs]

end

theorem decisionFor {x : Bool} {o d : Dev} (h : o.Kept x d) (block phase : Nat) : d.decisionFor block phase = o.decisionFor block phase := by
  rw [Dev.decisionFor, Dev.decisionFor, h.rd D.Salvo.EPOCH (by decide) _ fun _ => bitsOf_lt .., h.coordinates, h.hostSalvo]

end Dev.Kept

/-! ## Work on a slot's part -/

section
variable {d : Dev} {s epoch time i e : Nat} (t : List (Nat × Nat)) (done : List (Nat × Pend))

/-- An element that fails its checks ends the preparation. -/
theorem Dev.prepareElems_error {st : Nat} (hfail : d.takeChecks (Change.output e) (if Change.disconnect e then none else some (Change.source e))
      (Change.fsOnTake e) time (some (s, epoch)) = .error st) :
    d.prepareElems s epoch time ((i, e) :: t) done = (d, .error (st, i)) := by
  delta Dev.prepareElems
  dsimp only [List.brecOn, Dev.prepareElems._f]
  rw [hfail]

/-- An element that passes them joins the part's changes. -/
theorem Dev.prepareElems_ok {r : Dev × Pend} (hok : d.takeChecks (Change.output e)
      (if Change.disconnect e then none else some (Change.source e)) (Change.fsOnTake e) time (some (s, epoch)) = .ok r) :
    d.prepareElems s epoch time ((i, e) :: t) done
      = (r.1.setSalvo s (fun x => { x with part := x.part.map (fun q => { q with changes := done ++ [(Change.output e, r.2)] }) })).prepareElems
          s epoch time t (done ++ [(Change.output e, r.2)]) := by
  delta Dev.prepareElems
  dsimp only [List.brecOn, Dev.prepareElems._f]
  rw [hok]

end

/-- What the fields tell of the slots in one device stands in another, with every decision that waits for its record. -/
structure Dev.SlotsKept (o d : Dev) : Prop where
  rd : ∀ g ∈ keptFields, ∀ m, (g.rep = true → m < 16) → d.rd g m = o.rd g m
  decided : ∀ k, (d.salvoSt k).decided = (o.salvoSt k).decided
  raised : ∀ r ∈ o.raised, r ∈ d.raised

theorem Dev.Kept.slotsKept {x : Bool} {o d : Dev} (h : o.Kept x d) : o.SlotsKept d := ⟨h.rd, fun k => by rw [h.salvoSt], h.raised⟩

/-- The fields that tell of takes and salvos lie apart from each other, or 16 entries from each other. -/
theorem keptFields_apart :
    ∀ f ∈ keptFields, ∀ g ∈ keptFields, f = g ∨ Fld.apart f g = true ∨ f.ix + 16 ≤ g.ix ∨ g.ix + 16 ≤ f.ix := by decide

theorem Fld.key_ix_bounds (f : Fld) {n : Nat} (hn : f.rep = true → n < 16) : f.ix ≤ (f.key n).ix ∧ (f.key n).ix < f.ix + 16 := by
  unfold Fld.key
  split
  case isTrue hrep => exact ⟨Nat.le_add_right .., Nat.add_lt_add_left (hn hrep) _⟩
  case isFalse => exact ⟨Nat.le_refl _, Nat.lt_add_of_pos_right (by decide)⟩

/-- A write of one of them leaves another. -/
theorem Dev.rd_wr_keptFields (d : Dev) {f g : Fld} (hf : f ∈ keptFields) (hg : g ∈ keptFields) (hne : f ≠ g) {n m : Nat}
    (hn : f.rep = true → n < 16) (hm : g.rep = true → m < 16) (v : Nat) : (d.wr f n v).rd g m = d.rd g m := by
  obtain h | hapart | hfar := keptFields_apart f hf g hg
  · exact absurd h hne
  · exact Dev.rd_wr_apart _ _ _ _ _ _ hapart
  · refine Dev.rd_wr_key _ _ _ _ _ _ fun hkey => ?_
    have hfix := Fld.key_ix_bounds f hn
    have hgix := Fld.key_ix_bounds g hm
    rw [hkey] at hgix
    omega

namespace Dev.SlotsKept

theorem refl (d : Dev) : d.SlotsKept d := (Dev.Kept.refl false d).slotsKept

theorem trans {o d e : Dev} (h : o.SlotsKept d) (k : d.SlotsKept e) : o.SlotsKept e where
  rd g hg m hm := (k.rd g hg m hm).trans (h.rd g hg m hm)
  decided s := (k.decided s).trans (h.decided s)
  raised r hr := k.raised r (h.raised r hr)

section
variable {o d : Dev} (h : o.SlotsKept d)
include h

/-- Work that leaves all that the take engine tells. -/
theorem kept {x : Bool} {e : Dev} (k : d.Kept x e) : o.SlotsKept e := h.trans k.slotsKept

theorem setPend (f : XpSt → XpSt) (hslots : (f d.xp).slots = d.xp.slots := by rfl) : o.SlotsKept (d.setXp f) where
  rd := h.rd
  decided k := by rw [← h.decided, Dev.salvoSt, Dev.salvoSt, show (d.setXp f).xp.slots = d.xp.slots from hslots]
  raised := h.raised

theorem setSalvo {s : Nat} {f : SalvoSt → SalvoSt} (hf : (f (d.salvoSt s)).decided = (d.salvoSt s).decided := by rfl) :
    o.SlotsKept (d.setSalvo s f) where
  rd := h.rd
  decided k := by
    rw [← h.decided]
    by_cases hk : k = s
    · rw [hk, Dev.salvoSt_setSalvo_same, hf]
    · rw [Dev.salvoSt_setSalvo_ne _ _ hk]
  raised := h.raised

theorem each {l : List Nat} {f : Dev → Nat → Dev} (hf : ∀ d n, o.SlotsKept d → o.SlotsKept (f d n)) : o.SlotsKept (d.each l f) := by
  unfold Dev.each
  induction l generalizing d with
  | nil => exact h
  | cons n t ih => exact ih (hf d n h)

/-- The same write in both. -/
theorem wrBoth {f : Fld} {n v : Nat} (hn : f.rep = true → n < 16) (hf : f ∈ keptFields := by decide) :
    (o.wr f n v).SlotsKept (d.wr f n v) where
  rd g hg m hm := by
    by_cases hfg : f = g
    · subst hfg
      by_cases hmn : m = n
      · rw [hmn, Dev.rd_wr_same, Dev.rd_wr_same]
      · rw [Dev.rd_wr_ne _ _ _ _ _ hmn, Dev.rd_wr_ne _ _ _ _ _ hmn, h.rd f hf m hm]
    · rw [Dev.rd_wr_keptFields _ hf hg hfg hn hm, Dev.rd_wr_keptFields _ hf hg hfg hn hm, h.rd g hg m hm]
  decided := h.decided
  raised := h.raised

theorem satBoth {f : Fld} {n k : Nat} (hn : f.rep = true → n < 16) (hf : f ∈ keptFields := by decide) :
    (o.sat f n k).SlotsKept (d.sat f n k) := by
  rw [Dev.sat, Dev.sat, h.rd f hf n hn]
  exact h.wrBoth hn hf

/-! ### Parts (R90 to R92) -/

theorem partIn (s epoch time : Nat) (via : Option Nat) (elems : List (Nat × Nat)) : o.SlotsKept (d.partIn s epoch time via elems) := h.setSalvo

theorem prepareElems (s epoch time : Nat) (l : List (Nat × Nat)) (done : List (Nat × Pend)) :
    o.SlotsKept (d.prepareElems s epoch time l done).1 := by
  induction l generalizing d done with
  | nil => exact h
  | cons e t ih =>
    generalize hok : d.takeChecks (Change.output e.2) (if Change.disconnect e.2 then none else some (Change.source e.2)) (Change.fsOnTake e.2)
      time (some (s, epoch)) = r
    cases r with
    | error st => rwa [Dev.prepareElems_error t done hok]
    | ok r =>
      have hr : o.SlotsKept r.1 := h.kept (Dev.Kept.takeChecks (.refl false d) hok).1
      rw [Dev.prepareElems_ok t done hok]
      exact ih hr.setSalvo _

theorem preparePart (s : Nat) : o.SlotsKept (d.preparePart s) := by
  unfold Dev.preparePart
  split
  · exact h
  case h_2 p _ =>
    have hprep := h.prepareElems s p.epoch p.time p.elems []
    split
    · exact h.setSalvo
    case h_2 heq =>
      rw [heq] at hprep
      exact setSalvo (hprep.kept ((Dev.Kept.refl false _).logTake ..))

theorem flowUses (l : List Nat) : o.SlotsKept (d.each l (fun d e => d.flowUse e)) :=
  h.kept ((Dev.Kept.refl false d).each fun _ e k => k.flowUse e)

theorem releasePart (l : List (Nat × Pend)) : o.SlotsKept (d.releasePart l) := h.kept ((Dev.Kept.refl false d).each fun _ t k => k.freeTile t)

theorem pendPart (s : Nat) (doubt : Bool) : o.SlotsKept (d.pendPart s doubt) := by
  unfold Dev.pendPart
  split
  · exact h
  · exact (h.setPend (fun x => { x with pend := _ })).each fun _ c h => h.kept ((Dev.Kept.refl false _).showPend c)

theorem dropPart (s : Nat) : o.SlotsKept (d.dropPart s) := by
  unfold Dev.dropPart
  split
  · exact h
  case h_2 p _ =>
    extract_lets d1 d2 d3
    have h1 : o.SlotsKept d1 := h.setPend _
    have h2 : o.SlotsKept d2 := h1.each fun d c h => h.kept ((Dev.Kept.refl false d).flag.setFlow.showPend c)
    have h3 : o.SlotsKept d3 := (h2.releasePart _).setSalvo
    exact (h3.flowUses _).kept (Dev.Kept.refl false _).report

theorem partPaths (s : Nat) : o.SlotsKept (d.partPaths s) := by
  unfold Dev.partPaths
  split
  · exact h
  · exact h.flowUses _

end

/-- COMMIT shows COMMITTED, beside its record, its pending changes and their paths. -/
theorem commitPart (d : Dev) {s : Nat} (hs : s < 16) : (d.slotTo s COMMITTED).SlotsKept (d.commitPart s) := by
  unfold Dev.commitPart
  split
  · exact refl _
  case h_2 p _ =>
    have hlog : (d.slotTo s COMMITTED).SlotsKept ((d.logTake 3 s p.epoch p.time []).slotTo s COMMITTED) :=
      ((refl d).kept ((Dev.Kept.refl false d).logTake ..)).wrBoth fun _ => hs
    exact ((hlog.pendPart ..).partPaths s).kept (Dev.Kept.refl false _).report

/-- ABORT shows ABORTED and counts where the device holds a part, coordinates or takes in the host's salvos, beside its record and the part
it drops. -/
theorem abortPart (d : Dev) {s : Nat} (hs : s < 16) :
    (if (d.salvoSt s).part.isSome || d.coordinates || d.hostSalvo then (d.slotTo s ABORTED).sat D.XpCount.SALVOS_ABORTED 0 1
      else d.slotTo s ABORTED).SlotsKept (d.abortPart s) := by
  unfold Dev.abortPart
  extract_lets counts logged dropped
  have hlog : d.SlotsKept logged := by
    simp only [logged]
    split
    · exact (refl d).kept ((Dev.Kept.refl false d).logTake ..)
    · exact refl d
  have hdrop : (d.slotTo s ABORTED).SlotsKept dropped := (hlog.dropPart s).wrBoth fun _ => hs
  split
  · exact hdrop.satBoth nofun
  · exact hdrop

end Dev.SlotsKept

/-! ## The outcome that a slot shows -/

section
variable (d : Dev) {slot : Nat} (hslot : slot < 16)
include hslot

theorem Dev.slotState_commitPart : (d.commitPart slot).slotState slot = COMMITTED :=
  ((Dev.SlotsKept.commitPart d hslot).rd D.Salvo.STATE (by decide) slot fun _ => hslot).trans (Dev.slotState_slotTo d slot (by decide))

theorem Dev.rd_result_commitPart : (d.commitPart slot).rd D.Salvo.RESULT slot = d.rd D.Salvo.RESULT slot :=
  ((Dev.SlotsKept.commitPart d hslot).rd D.Salvo.RESULT (by decide) slot fun _ => hslot).trans (Dev.rd_wr_apart _ _ _ _ _ _ (by decide))

theorem Dev.decided_commitPart (k : Nat) : ((d.commitPart slot).salvoSt k).decided = (d.salvoSt k).decided :=
  (Dev.SlotsKept.commitPart d hslot).decided k

theorem Dev.slotState_abortPart : (d.abortPart slot).slotState slot = ABORTED := by
  rw [Dev.slotState, (Dev.SlotsKept.abortPart d hslot).rd D.Salvo.STATE (by decide) slot fun _ => hslot]
  split
  · rw [Dev.sat, Dev.rd_wr_keptFields _ (by decide) (by decide) (by decide) (by decide) fun _ => hslot]
    exact Dev.slotState_slotTo d slot (by decide)
  · exact Dev.slotState_slotTo d slot (by decide)

theorem Dev.rd_result_abortPart : (d.abortPart slot).rd D.Salvo.RESULT slot = d.rd D.Salvo.RESULT slot := by
  have hstate : (d.slotTo slot ABORTED).rd D.Salvo.RESULT slot = d.rd D.Salvo.RESULT slot := Dev.rd_wr_apart _ _ _ _ _ _ (by decide)
  rw [(Dev.SlotsKept.abortPart d hslot).rd D.Salvo.RESULT (by decide) slot fun _ => hslot]
  split
  · rw [Dev.sat, Dev.rd_wr_keptFields _ (by decide) (by decide) (by decide) (by decide) fun _ => hslot, hstate]
  · exact hstate

theorem Dev.decided_abortPart (k : Nat) : ((d.abortPart slot).salvoSt k).decided = (d.salvoSt k).decided := by
  rw [(Dev.SlotsKept.abortPart d hslot).decided k]
  split
  · rw [Dev.sat, Dev.slotTo, Dev.salvoSt_wr, Dev.salvoSt_wr]
  · rw [Dev.slotTo, Dev.salvoSt_wr]

/-- An abort is counted where the device holds a part, coordinates, or takes in the host's salvos. -/
theorem Dev.rd_aborted_abortPart : (d.abortPart slot).rd D.XpCount.SALVOS_ABORTED 0
    = if (d.salvoSt slot).part.isSome || d.coordinates || d.hostSalvo then min (d.rd D.XpCount.SALVOS_ABORTED 0 + 1) (2 ^ 32 - 1)
      else d.rd D.XpCount.SALVOS_ABORTED 0 := by
  have hstate : (d.slotTo slot ABORTED).rd D.XpCount.SALVOS_ABORTED 0 = d.rd D.XpCount.SALVOS_ABORTED 0 :=
    Dev.rd_wr_keptFields _ (by decide) (by decide) (by decide) (fun _ => hslot) (by decide) _
  rw [(Dev.SlotsKept.abortPart d hslot).rd D.XpCount.SALVOS_ABORTED (by decide) 0 (by decide)]
  split
  · rw [Dev.rd_sat_same, hstate]
    rfl
  · exact hstate

end

end Sys2Proof.Machine
end

section
/-! Obligations of 03_takes_and_salvos.md: the requests that load, arm, abort, commit and clear a salvo slot (R85 to R87, R91, R95). -/

namespace Sys2Proof.Machine

open Sys2Proof

open SlotState

-- Proofs one after another, as in the lemmas on what the take engine tells: for the memory of the check.
set_option Elab.async false

/-! ## Loading (R85, R86) -/

/-- The key of a slot's first change. -/
def firstChangeKey (slot : Nat) : Key := ⟨D.Salvo.CHANGES.ix + slot, D.Salvo.CHANGES.sub, 0⟩

theorem Dev.changes_of_count_zero {d : Dev} {s : Nat} (h : d.rd D.Salvo.COUNT s = 0) : d.changes s = [] := by
  rw [Dev.changes, h, List.range_zero, List.map_nil]

theorem Dev.changes_of_count_one {d : Dev} {s : Nat} (h : d.rd D.Salvo.COUNT s = 1) : d.changes s = [d.ent (firstChangeKey s)] := by
  rw [Dev.changes, h, List.range_one, List.map_singleton, firstChangeKey]

theorem domElement_whole {e : Nat} (he : e < 2 ^ 64) : domElement ⟨8, e⟩ 8 0 = e := by
  simpa [domElement, bitsOf] using he

/-- One change enters an EMPTY slot as its first. -/
theorem Dev.writeChanges_one {d : Dev} {slot e : Nat} (he : e < 2 ^ 64) (hopen : d.slotOpen = true) (hhost : d.hostSalvo = false)
    (hempty : d.slotState slot = EMPTY) (hcount : d.rd D.Salvo.COUNT slot = 0) (hclean : Change.clean e = true)
    (hmember : Change.member e < d.ensSize) :
    d.writeChanges slot 0 ⟨8, e⟩ = (((d.setEnt (firstChangeKey slot) e).wr D.Salvo.COUNT slot 1).slotTo slot LOADED, St.OK) := by
  simp [Dev.writeChanges, Dev.changes_of_count_zero hcount, domElement_whole he, hopen, hhost, hempty, hcount, hclean, hmember, firstChangeKey,
    Dev.each]

theorem Dev.writeTakeTime_taken {d : Dev} {slot : Nat} (v : Nat) (hopen : d.slotOpen = true)
    (hstate : d.slotState slot = EMPTY ∨ d.slotState slot = LOADED ∨ d.slotState slot = ABORTED ∨ d.slotState slot = APPLIED) :
    d.writeTakeTime slot v = (d.wr D.Salvo.TAKE_TIME slot v, St.OK) := by
  unfold Dev.writeTakeTime
  obtain h | h | h | h := hstate <;> simp [hopen, h]

/-! ## CONTROL (R86, R87, R91, R95) -/

/-- ARM of a LOADED slot within the leads starts PREPARING under the next EPOCH, beside the parts and markers it sends. -/
theorem Dev.arm_loaded {d : Dev} {slot : Nat} (hslot : slot < 16) (hopen : d.slotOpen = true) (hloaded : d.slotState slot = LOADED)
    (hcount : d.rd D.Salvo.COUNT slot ≠ 0) (hmin : (d.rd D.Xp.SALVO_MIN_LEAD_US 0 * 1000 : Int) ≤ sdiff (d.rd D.Salvo.TAKE_TIME slot) d.now 64)
    (hmax : sdiff (d.rd D.Salvo.TAKE_TIME slot) d.now 64 ≤ 86400000000000) :
    ∃ e, d.arm slot = (e, St.OK) ∧ e.slotState slot = PREPARING ∧ e.rd D.Salvo.EPOCH slot = (d.rd D.Salvo.EPOCH slot + 1) % 16 := by
  unfold Dev.arm
  extract_lets st lead epoch time d1 d2 d3 d4 d5 v d6
  have hstate : ¬(!d.slotOpen ∨ !(st == LOADED || st == ABORTED || st == APPLIED)) := by simp [st, hopen, hloaded]
  have hrange : ¬(d.rd D.Salvo.COUNT slot = 0 ∨ lead < d.rd D.Xp.SALVO_MIN_LEAD_US 0 * 1000 ∨ 86400000000000 < lead) := by
    simp only [lead]
    omega
  rw [if_neg hstate, if_neg hrange]
  have hshown : ∀ e, d2.SlotsKept e → e.slotState slot = PREPARING ∧ e.rd D.Salvo.EPOCH slot = (d.rd D.Salvo.EPOCH slot + 1) % 16 := by
    intro e he
    have hstate : d2.slotState slot = PREPARING := (Dev.rd_setSalvo ..).trans (Dev.slotState_slotTo _ _ (by decide))
    have hepoch : d2.rd D.Salvo.EPOCH slot = epoch := by
      simp only [d2, d1, Dev.rd_setSalvo, Dev.slotTo]
      rw [Dev.rd_wr_apart _ _ _ _ _ _ (by decide), Dev.rd_wr_apart _ _ _ _ _ _ (by decide), Dev.rd_wr_same]
      exact Nat.mod_eq_of_lt (Nat.lt_trans (Nat.mod_lt _ (by decide)) (by decide))
    exact ⟨(he.rd D.Salvo.STATE (by decide) slot fun _ => hslot).trans hstate,
      (he.rd D.Salvo.EPOCH (by decide) slot fun _ => hslot).trans hepoch⟩
  have h5 : d2.Kept false d5 :=
    have h3 : d2.Kept false d3 := (Dev.Kept.refl false d2).each fun d m h => by
      split
      · exact h.sendMsg ..
      · exact h
    have h4 : d2.Kept false d4 := .ite (h3.each fun d m h => h.sendMsg ..) h3
    h4.broadcast _
  split
  · exact ⟨_, rfl, hshown _ (((Dev.SlotsKept.refl d2).partIn ..).preparePart slot)⟩
  · split
    · exact ⟨_, rfl, hshown _ (((h5.slotsKept).partIn ..).preparePart slot).setSalvo⟩
    · exact ⟨_, rfl, hshown _ h5.slotsKept⟩

/-- ABORT of an undecided slot decides to abort, and answers once that is in the log. -/
theorem Dev.abortCmd_undecided {d : Dev} {slot : Nat} (w : Who) (seq op : Nat) (hopen : d.slotOpen = true) (hhost : d.hostSalvo = false)
    (hstate : d.slotState slot = PREPARING) (hdecided : (d.salvoSt slot).decided = none) :
    d.abortCmd slot w seq op
      = ((d.decideSalvo slot false 0 0xFF 0xFFFF).setSalvo slot (fun x => { x with owes := some (w.session, seq, op) }), St.LATER) := by
  simp [Dev.abortCmd, hopen, hhost, hstate, hdecided]

/-- CLEAR empties a LOADED slot. -/
theorem Dev.clearSlot_loaded {d : Dev} {slot : Nat} (hopen : d.slotOpen = true) (hstate : d.slotState slot = LOADED) :
    ∃ e : Dev, d.clearSlot slot = ((e.wr D.Salvo.COUNT slot 0).slotTo slot EMPTY, St.OK) :=
  ⟨_, by simp [Dev.clearSlot, hopen, hstate]; rfl⟩

theorem Dev.commitCmd_prepared {d : Dev} {slot : Nat} (hhost : d.hostSalvo = true) (hstate : d.slotState slot = PREPARED) :
    d.commitCmd slot = ((d.commitPart slot).slotResult slot 0, St.OK) := by
  simp [Dev.commitCmd, hhost, hstate]

/-! ## The requests as commands -/

theorem exec_salvoChangesWrite (s : State) (q : Rcp) {slot : Nat} (hslot : slot < 16) (offset : Nat) (v : Bytes) :
    exec (.salvoChangesWrite q slot offset v) s = .next { s with
      dev := serveDom (.salvoChangesWrite q.again slot offset v) q (0x0C20 + slot) 0x02 offset v
        (fun _ d => d.writeChanges slot offset v) s.dev } := by
  simp only [exec, execSalvoChangesWrite, State.act, Nat.mod_eq_of_lt hslot]

theorem exec_salvoTakeTimeWrite (s : State) (q : Rcp) {slot : Nat} (hslot : slot < 16) (v : Nat) :
    exec (.salvoTakeTimeWrite q slot v) s = .next { s with
      dev := serveWrite (.salvoTakeTimeWrite q.again slot v) q (0x0C20 + slot) 0x04 ⟨8, v⟩ (fun _ d => d.writeTakeTime slot v) s.dev } := by
  simp only [exec, execSalvoTakeTimeWrite, State.act, Nat.mod_eq_of_lt hslot]

theorem exec_salvoArm (s : State) (q : Rcp) {slot : Nat} (hslot : slot < 16) :
    exec (.salvoArm q slot) s = .next { s with
      dev := serveWrite (.salvoArm q.again slot) q (0x0C20 + slot) 0x05 ⟨1, 1⟩ (fun _ d => d.arm slot) s.dev } := by
  simp only [exec, execSalvoArm, State.act, Nat.mod_eq_of_lt hslot, Dev.salvoControl, if_true]

theorem exec_salvoAbort (s : State) (q : Rcp) {slot : Nat} (hslot : slot < 16) :
    exec (.salvoAbort q slot) s = .next { s with
      dev := serveWrite (.salvoAbort q.again slot) q (0x0C20 + slot) 0x05 ⟨1, 2⟩ (fun w d => d.abortCmd slot w q.seq q.op) s.dev } := by
  simp only [exec, execSalvoAbort, State.act, Nat.mod_eq_of_lt hslot, Dev.salvoControl, OfNat.ofNat_ne_one, Nat.reduceEqDiff, if_false, if_true]

theorem exec_salvoClear (s : State) (q : Rcp) {slot : Nat} (hslot : slot < 16) :
    exec (.salvoClear q slot) s = .next { s with
      dev := serveWrite (.salvoClear q.again slot) q (0x0C20 + slot) 0x05 ⟨1, 3⟩ (fun _ d => d.clearSlot slot) s.dev } := by
  simp only [exec, execSalvoClear, State.act, Nat.mod_eq_of_lt hslot, Dev.salvoControl, OfNat.ofNat_ne_one, Nat.reduceEqDiff, if_false, if_true]

theorem exec_salvoCommitCmd (s : State) (q : Rcp) {slot : Nat} (hslot : slot < 16) :
    exec (.salvoCommitCmd q slot) s = .next { s with
      dev := serveWrite (.salvoCommitCmd q.again slot) q (0x0C20 + slot) 0x05 ⟨1, 4⟩ (fun _ d => d.commitCmd slot) s.dev } := by
  simp only [exec, execSalvoCommitCmd, State.act, Nat.mod_eq_of_lt hslot, Dev.salvoControl, OfNat.ofNat_ne_one, Nat.reduceEqDiff, if_false, if_true]

/-! ## What stands after the answer -/

/-- An answer leaves every entry but the counters of frames sent. -/
theorem Dev.ent_answer (d : Dev) (q : Rcp) (r : Reply) {k : Key} (hmg : ∀ n, k ≠ D.MgCounters.TX_FRAMES.key n)
    (hport : ∀ n, k ≠ D.PortCounters.TX_FRAMES.key n) : (d.answer q r).ent k = d.ent k := by
  have hemit : ∀ (d : Dev) (e : Emission), (d.emit e).ent k = d.ent k := fun _ _ => rfl
  unfold Dev.answer Dev.sendOn
  split
  · rfl
  · rw [hemit]
    split
    · exact Dev.ent_setEnt_other _ _ (hmg _)
    · exact Dev.ent_setEnt_other _ _ (hport _)

theorem Dev.ensSize_atBody (d : Dev) (q : Rcp) : (d.atBody q).ensSize = d.ensSize := by
  rw [Dev.ensSize, Dev.ensSize, Dev.dwl_atBody, ((Dev.Kept.refl false d).atBody q).rd D.Ens.MEMBER (by decide) 0 (by decide)]

/-- The change that enters an EMPTY slot stands in it alone. -/
theorem Dev.changes_loaded (d : Dev) (q : Rcp) (r : Reply) (slot e : Nat) :
    ((((d.setEnt (firstChangeKey slot) e).wr D.Salvo.COUNT slot 1).slotTo slot LOADED).answer q r).changes slot = [e] := by
  have hkey : ∀ f : Fld, f.sub ≠ D.Salvo.CHANGES.sub → ∀ n, firstChangeKey slot ≠ f.key n := by
    intro f hf n h
    refine hf ((congrArg Key.sub h).trans ?_).symm
    unfold Fld.key
    split <;> rfl
  have hwr : ∀ (d : Dev) (f : Fld) n v, f.sub ≠ D.Salvo.CHANGES.sub → (d.wr f n v).ent (firstChangeKey slot) = d.ent (firstChangeKey slot) :=
    fun d f n v hf => Dev.ent_setEnt_other d _ (hkey f hf n)
  rw [Dev.changes_of_count_one, Dev.ent_answer _ _ _ (hkey _ (by decide)) (hkey _ (by decide)), Dev.slotTo, hwr _ _ _ _ (by decide),
    hwr _ _ _ _ (by decide), Dev.ent_setEnt_same]
  rw [Dev.rd_answer _ _ _ _ _ (by decide) (by decide), Dev.slotTo, Dev.rd_wr_apart _ _ _ _ _ _ (by decide), Dev.rd_wr_same]
  rfl

/-- What a slot shows once it has been committed with its result. -/
theorem Dev.slotResult_commitPart (d : Dev) {slot : Nat} (hslot : slot < 16) (result : Nat) :
    ((d.commitPart slot).slotResult slot result).slotState slot = COMMITTED ∧
      ((d.commitPart slot).slotResult slot result).rd D.Salvo.RESULT slot = result % 2 ^ 8 := by
  unfold Dev.slotResult Dev.slotState
  refine ⟨?_, ?_⟩
  · rw [Dev.rd_wr_apart _ _ _ _ _ _ (by decide), Dev.rd_wr_apart _ _ _ _ _ _ (by decide), Dev.rd_wr_apart _ _ _ _ _ _ (by decide)]
    exact d.slotState_commitPart hslot
  · rw [Dev.rd_wr_apart _ _ _ _ _ _ (by decide), Dev.rd_wr_apart _ _ _ _ _ _ (by decide), Dev.rd_wr_same]
    rfl

/-- Settles O16: each request as its equation above says it, and what the slot then shows. -/
theorem salvoRequestsComplete : Obligations.SalvoRequestsComplete := by
  unfold Obligations.SalvoRequestsComplete
  refine ⟨fun s q slot e hslot he hgrant hopen hhost hempty hcount hclean hmember => ?_, fun s q slot v hslot hv hgrant hopen hstate => ?_,
    fun s q slot hslot hgrant hopen hloaded hcount hmin hmax => ?_, fun s q slot hslot hgrant hopen hhost hstate hdecided => ?_,
    fun s q slot hslot hgrant hopen hstate => ?_, fun s q slot hslot hgrant hhost hstate => ?_⟩
  all_goals
    have hbody := (Dev.Kept.refl false s.dev).atBody q
    have hanswer := fun (d : Dev) (r : Reply) => (Dev.Kept.refl false d).answer q r
    have hok : ∀ d : Dev, (d.answer q (Reply.of St.OK)).answered q St.OK = true := fun d => Dev.answered_answer d q (Reply.of St.OK) (by decide)
    rw [← hbody.slotState hslot] at *
  · rw [← hbody.slotOpen] at hopen
    rw [← hbody.hostSalvo] at hhost
    rw [← hbody.rd D.Salvo.COUNT (by decide) slot fun _ => hslot] at hcount
    rw [← Dev.ensSize_atBody s.dev q] at hmember
    have hwrite := Dev.writeChanges_one he hopen hhost hempty hcount hclean hmember
    refine ⟨_, by rw [exec_salvoChangesWrite s q hslot, serveDom_answers hgrant hwrite (by decide)], hok _,
      ((hanswer ..).slotState hslot).trans (Dev.slotState_slotTo _ _ (st := LOADED) (by decide)), Dev.changes_loaded ..⟩
  · rw [← hbody.slotOpen] at hopen
    refine ⟨_, by rw [exec_salvoTakeTimeWrite s q hslot, serveWrite_answers hgrant (Dev.writeTakeTime_taken v hopen hstate) (by decide)],
      hok _, ?_⟩
    rw [(hanswer ..).rd D.Salvo.TAKE_TIME (by decide) slot fun _ => hslot, Dev.rd_wr_same]
    exact Nat.mod_eq_of_lt hv
  · rw [← hbody.slotOpen] at hopen
    rw [← hbody.rd D.Salvo.COUNT (by decide) slot fun _ => hslot] at hcount
    rw [← hbody.rd D.Xp.SALVO_MIN_LEAD_US (by decide) 0 (by decide)] at hmin
    rw [← hbody.rd D.Salvo.TAKE_TIME (by decide) slot fun _ => hslot] at hmin hmax
    obtain ⟨e, harm, hpreparing, hepoch⟩ := Dev.arm_loaded hslot hopen hloaded hcount hmin hmax
    refine ⟨_, by rw [exec_salvoArm s q hslot, serveWrite_answers hgrant harm (by decide)], hok _,
      ((hanswer ..).slotState hslot).trans hpreparing, ?_⟩
    rw [(hanswer ..).rd D.Salvo.EPOCH (by decide) slot fun _ => hslot, hepoch, hbody.rd D.Salvo.EPOCH (by decide) slot fun _ => hslot]
  · rw [← hbody.slotOpen] at hopen
    rw [← hbody.hostSalvo] at hhost
    rw [← hbody.salvoSt] at hdecided
    have habort := Dev.abortCmd_undecided (s.dev.asker q) q.seq q.op hopen hhost hstate hdecided
    refine ⟨_, by rw [exec_salvoAbort s q hslot, serveWrite_answers hgrant habort (by decide)], ?_⟩
    dsimp only
    rw [(hanswer ..).salvoSt, Dev.salvoSt_setSalvo_same, Dev.decideSalvo, Dev.salvoSt_setSalvo_same]
  · rw [← hbody.slotOpen] at hopen
    obtain ⟨e, hclear⟩ := Dev.clearSlot_loaded hopen hstate
    refine ⟨_, by rw [exec_salvoClear s q hslot, serveWrite_answers hgrant hclear (by decide)], hok _,
      ((hanswer ..).slotState hslot).trans (Dev.slotState_slotTo _ _ (st := EMPTY) (by decide)), ?_⟩
    rw [(hanswer ..).rd D.Salvo.COUNT (by decide) slot fun _ => hslot, Dev.slotTo, Dev.rd_wr_apart _ _ _ _ _ _ (by decide), Dev.rd_wr_same]
    rfl
  · rw [← hbody.hostSalvo] at hhost
    have hcommit := Dev.commitCmd_prepared hhost hstate
    refine ⟨_, by rw [exec_salvoCommitCmd s q hslot, serveWrite_answers hgrant hcommit (by decide)], hok _, ?_⟩
    obtain ⟨hcommitted, hresult⟩ := Dev.slotResult_commitPart (s.dev.atBody q) hslot 0
    exact ⟨((hanswer ..).slotState hslot).trans hcommitted, ((hanswer ..).rd D.Salvo.RESULT (by decide) slot fun _ => hslot).trans hresult⟩

end Sys2Proof.Machine
end

section
/-! Obligations of 03_takes_and_salvos.md: salvos between ARM and their outcome (R86, R88, R90 to R93). -/

namespace Sys2Proof.Machine

open Sys2Proof

open SlotState

-- Proofs one after another, as in the lemmas on what the take engine tells: for the memory of the check.
set_option Elab.async false

theorem Mark.slot_lt (block : Nat) : Mark.slot block < 16 := bitsOf_lt ..

/-! ## A marker's first copy (R88) -/

section
variable {s : State} {dt group block : Nat} (hserve : s.dev.serving = true) (hnew : (s.dev.elapse dt).firstCopy group block = true)
include hserve hnew

/-- PREPARE of an arming that the slot does not know goes on, and shows PREPARING under its EPOCH and TAKE_TIME. -/
theorem exec_salvoPrepare (hgroup : group < 8) (hok : Mark.ok block = true) (hphase : Mark.phase block = 1)
    (hcoord : s.dev.coordinates = false) (hhost : s.dev.hostSalvo = false) (hidle : s.dev.slotIdle (Mark.slot block) (Mark.epoch block) = true)
    (hstate : s.dev.slotState (Mark.slot block) ≠ PREPARING) :
    ∃ e : Dev, exec (.salvoPrepare dt group block) s = .next { s with dev := e } ∧
      ((((((s.dev.elapse dt).heardMark group block).repeatMark group block).wr D.Salvo.EPOCH (Mark.slot block) (Mark.epoch block)).wr
        D.Salvo.TAKE_TIME (Mark.slot block) (Mark.time block)).slotTo (Mark.slot block) PREPARING).SlotsKept e := by
  have hheard : s.dev.Kept false ((s.dev.elapse dt).heardMark group block) := ((Dev.Kept.refl false s.dev).elapse dt).heardMark ..
  have hcoord := hheard.coordinates.trans hcoord
  have hhost := hheard.hostSalvo.trans hhost
  have hidle := (hheard.slotIdle (Mark.slot_lt block) _).trans hidle
  have hstate := (hheard.slotState (Mark.slot_lt block)).trans_ne hstate
  simp only [exec, execSalvoPrepare, State.act, Dev.live_serving _ _ _ hserve, hnew, hok, hphase, hcoord, hhost, hidle, Nat.not_le.2 hgroup,
    beq_false_of_ne hstate, decide_false, bne_self_eq_false, Bool.not_true, Bool.false_and, Bool.or_self, Bool.false_eq_true, if_false]
  refine ⟨_, rfl, ?_⟩
  split
  · exact Dev.SlotsKept.refl _
  · split
    · exact (Dev.SlotsKept.refl _).setSalvo
    · exact ((Dev.SlotsKept.refl _).setSalvo).preparePart _

/-- A failing vote of a slot that waits for votes decides to abort. -/
theorem exec_salvoVoteRx (hgroup : group < 7) (hok : Mark.ok block = true) (hphase : Mark.phase block = 2)
    (hepoch : s.dev.rd D.Salvo.EPOCH (Mark.slot block) = Mark.epoch block) (hvoting : s.dev.voting (Mark.slot block) = true)
    (hstatus : Mark.status block ≠ 0) :
    ∃ d : Dev, exec (.salvoVoteRx dt group block) s = .next { s with
      dev := d.decideSalvo (Mark.slot block) false (Mark.status block) (Mark.card block * 8 + Mark.member block) (Mark.failIndex block) } := by
  have hheard : s.dev.Kept false ((s.dev.elapse dt).heardMark group block) := ((Dev.Kept.refl false s.dev).elapse dt).heardMark ..
  have hepoch := (hheard.rd D.Salvo.EPOCH (by decide) _ fun _ => Mark.slot_lt block).trans hepoch
  have hmember : ¬(group = 7 ∧ Mark.member block = ((s.dev.elapse dt).heardMark group block).me) := fun h => absurd h.1 (by omega)
  simp only [exec, execSalvoVoteRx, State.act, Dev.live_serving _ _ _ hserve, hnew, hok, hphase, hepoch, hmember, bne_self_eq_false, Bool.not_true,
    Bool.or_self, Bool.false_eq_true, if_false]
  unfold Dev.voteIn
  extract_lets d1 got d2
  have h1 : s.dev.Kept false d1 := .ite hheard.wr hheard
  have hvoting := (h1.voting (Mark.slot_lt block)).trans hvoting
  exact ⟨d1, by rw [hvoting, if_neg (by decide), if_pos hstatus]⟩

/-- COMMIT reaches a prepared slot, or one in doubt. -/
theorem exec_salvoCommitRx (hdecision : s.dev.decisionFor block 3 = true)
    (hstate : s.dev.slotState (Mark.slot block) = PREPARED ∨ s.dev.slotState (Mark.slot block) = INDOUBT) :
    exec (.salvoCommitRx dt group block) s = .next { s with
      dev := (((s.dev.elapse dt).heardMark group block).repeatMark group block).commitPart (Mark.slot block) } := by
  have hheard : s.dev.Kept false ((s.dev.elapse dt).heardMark group block) := ((Dev.Kept.refl false s.dev).elapse dt).heardMark ..
  rw [← hheard.decisionFor] at hdecision
  rw [← hheard.slotState (Mark.slot_lt block)] at hstate
  simp only [exec, execSalvoCommitRx, State.act, Dev.live_serving _ _ _ hserve, hnew, hdecision, Bool.not_true, Bool.or_self, Bool.false_eq_true,
    if_false]
  rw [if_pos (hstate.imp_right Or.inl)]

/-- ABORT reaches a slot that has no outcome. -/
theorem exec_salvoAbortRx (hdecision : s.dev.decisionFor block 4 = true)
    (hstate : s.dev.slotState (Mark.slot block) = PREPARING ∨ s.dev.slotState (Mark.slot block) = PREPARED ∨
      s.dev.slotState (Mark.slot block) = INDOUBT) :
    exec (.salvoAbortRx dt group block) s = .next { s with
      dev := (((s.dev.elapse dt).heardMark group block).repeatMark group block).abortPart (Mark.slot block) } := by
  have hheard : s.dev.Kept false ((s.dev.elapse dt).heardMark group block) := ((Dev.Kept.refl false s.dev).elapse dt).heardMark ..
  rw [← hheard.decisionFor] at hdecision
  rw [← hheard.slotState (Mark.slot_lt block)] at hstate
  simp only [exec, execSalvoAbortRx, State.act, Dev.live_serving _ _ _ hserve, hnew, hdecision, Bool.not_true, Bool.or_self, Bool.false_eq_true,
    if_false]
  rw [if_pos (by tauto)]

/-- A QUERY of an arming without a decision in the coordinator's log is answered ABORT on the group it came over. -/
theorem exec_salvoQueryRx (hok : Mark.ok block = true) (hphase : Mark.phase block = 5) (hhost : s.dev.hostSalvo = false)
    (hcoord : s.dev.coordinates = true)
    (hlog : (s.dev.salvoSt (Mark.slot block)).log.find? (fun e => e.1 == Mark.epoch block) = none) :
    exec (.salvoQueryRx dt group block) s = .next { s with
      dev := ((s.dev.elapse dt).heardMark group block).sendMark group
        (s.dev.mark 4 (Mark.slot block) (Mark.epoch block) (Mark.time block)) } := by
  have hheard : s.dev.Kept false ((s.dev.elapse dt).heardMark group block) := ((Dev.Kept.refl false s.dev).elapse dt).heardMark ..
  have hmark : ∀ phase slot epoch time,
      ((s.dev.elapse dt).heardMark group block).mark phase slot epoch time = s.dev.mark phase slot epoch time := fun _ _ _ _ => by
    rw [Dev.mark, Dev.mark, hheard.card, hheard.me]
  rw [← hheard.salvoSt] at hlog
  have hcoord := hheard.coordinates.trans hcoord
  have hhost := hheard.hostSalvo.trans hhost
  simp only [exec, execSalvoQueryRx, State.act, Dev.live_serving _ _ _ hserve, hnew, hok, hphase, hhost, hcoord, hlog, hmark, bne_self_eq_false,
    Bool.not_true, Bool.or_self, Bool.true_or, Bool.false_eq_true, if_false, if_true]

end

/-! ## A decision (R91) -/

/-- What a slot shows of its outcome. -/
theorem Dev.outcome_shown (d : Dev) {slot : Nat} (hslot : slot < 16) (commit : Bool) :
    (if commit then d.commitPart slot else d.abortPart slot).slotState slot = (if commit then COMMITTED else ABORTED) ∧
      (if commit then d.commitPart slot else d.abortPart slot).rd D.Salvo.RESULT slot = d.rd D.Salvo.RESULT slot ∧
      ((if commit then d.commitPart slot else d.abortPart slot).salvoSt slot).decided = (d.salvoSt slot).decided := by
  cases commit with
  | true => exact ⟨d.slotState_commitPart hslot, d.rd_result_commitPart hslot, d.decided_commitPart hslot slot⟩
  | false => exact ⟨d.slotState_abortPart hslot, d.rd_result_abortPart hslot, d.decided_abortPart hslot slot⟩

/-! ## The device's own steps (R86, R90 to R92) -/

section
variable {s : State} {dt slot : Nat} (hserve : s.dev.serving = true)
include hserve

/-- In host-assisted mode a part that has been prepared here is PREPARED. -/
theorem exec_salvoPrepared {p : Part} (hhost : s.dev.hostSalvo = true) (hstate : s.dev.slotState slot = PREPARING)
    (hpart : (s.dev.salvoSt slot).part = some p) (hvoted : p.voted = false) (hown : p.own = some (0, 0xFFFF)) (htwin : p.needTwin = false) :
    ∃ d : Dev, exec (.salvoPrepared dt slot) s = .next { s with dev := d.slotTo slot PREPARED } := by
  have hpart : ((s.dev.elapse dt).salvoSt slot).part = some p := hpart
  have hstate : (s.dev.elapse dt).slotState slot = PREPARING := hstate
  have hhost : ∀ f, ((s.dev.elapse dt).setSalvo slot f).hostSalvo = true := fun _ => hhost
  have hvote : ∀ card, (p.vote card).1 = 0 := fun card => by simp [Part.vote, hown, htwin]
  simp only [exec, execSalvoPrepared, State.act, Dev.live_serving _ _ _ hserve, hpart, hstate, hhost, hvote, hvoted, hown, htwin, Option.isNone_some,
    Bool.false_eq_true, ne_eq, not_true_eq_false, false_and, or_self, if_false, if_true]
  exact ⟨_, rfl⟩

theorem exec_salvoVoteDeadline (hvoting : s.dev.voting slot = true)
    (hlead : (s.dev.elapse dt).leadOver slot (s.dev.rd D.Xp.VOTE_LEAD_US 0 * 1000) = true) :
    exec (.salvoVoteDeadline dt slot) s = .next { s with dev := (s.dev.elapse dt).decideSalvo slot false St.TIMEOUT 0xFF 0xFFFF } := by
  have hvoting : (s.dev.elapse dt).voting slot = true := hvoting
  simp only [exec, execSalvoVoteDeadline, State.act, Dev.live_serving _ _ _ hserve, Dev.rd_elapse, hvoting, hlead, and_self, if_true]

/-- A decision whose record is in the log shows as the slot's outcome, and waits no more. -/
theorem exec_salvoDecisionLogged (hslot : slot < 16) {result member index : Nat} {commit : Bool}
    (hdecided : (s.dev.salvoSt slot).decided = some (commit, result, member, index)) (hresult : result < 256) :
    ∃ e : Dev, exec (.salvoDecisionLogged dt slot) s = .next { s with dev := e } ∧
      e.slotState slot = (if commit then COMMITTED else ABORTED) ∧ e.rd D.Salvo.RESULT slot = result ∧ (e.salvoSt slot).decided = none := by
  have hdecided : ((s.dev.elapse dt).salvoSt slot).decided = some (commit, result, member, index) := hdecided
  generalize hafter : exec (.salvoDecisionLogged dt slot) s = o
  change execSalvoDecisionLogged dt slot s = o at hafter
  unfold execSalvoDecisionLogged State.act at hafter
  beta_reduce at hafter
  rw [Dev.live_serving _ _ _ hserve] at hafter
  split at hafter
  case h_1 hnone => rw [hdecided] at hnone; cases hnone
  case h_2 commit' result' member' index' hsome =>
    obtain ⟨rfl, rfl, rfl, rfl⟩ : commit' = commit ∧ result' = result ∧ member' = member ∧ index' = index := by
      simpa [hdecided, eq_comm] using hsome
    extract_lets epoch time d1 d2 part d3 d4 d5 owes d6 at hafter
    subst hafter
    -- the record shows the result, and the decision waits no more
    have hresult2 : d2.rd D.Salvo.RESULT slot = result' := by
      simp only [d2]
      rw [Dev.rd_wr_apart _ _ _ _ _ _ (by decide), Dev.rd_wr_apart _ _ _ _ _ _ (by decide), Dev.rd_wr_same]
      exact Nat.mod_eq_of_lt hresult
    have hdecided2 : (d2.salvoSt slot).decided = none := by
      simp only [d2, d1, Dev.salvoSt_wr, Dev.salvoSt_setSalvo_same]
    have h3 : d2.Kept false d3 := .ite (.refl ..) ((Dev.Kept.refl false d2).logTake ..)
    -- the slot shows the outcome
    obtain ⟨hstate, hresult4, hdecided4⟩ := d3.outcome_shown hslot commit'
    -- and nothing that follows changes it
    have hshown : ∀ e, d4.SlotsKept e → e.slotState slot = (if commit' then COMMITTED else ABORTED) ∧ e.rd D.Salvo.RESULT slot = result' ∧
        (e.salvoSt slot).decided = none := fun e he =>
      ⟨(he.rd D.Salvo.STATE (by decide) slot fun _ => hslot).trans hstate,
        by rw [he.rd D.Salvo.RESULT (by decide) slot fun _ => hslot, hresult4, h3.rd D.Salvo.RESULT (by decide) slot fun _ => hslot, hresult2],
        by rw [he.decided, hdecided4, h3.salvoSt, hdecided2]⟩
    have h6 : d4.SlotsKept d6 := ((Dev.Kept.refl false d4).broadcast _).slotsKept.setSalvo
    refine ⟨_, rfl, hshown _ ?_⟩
    clear_value owes
    cases owes with
    | none => exact h6
    | some o => exact h6.kept ((Dev.Kept.refl false d6).answerLate ..)

/-- A participant without a decision at its deadline is in doubt, and queries. -/
theorem exec_salvoDecideDeadline (hhost : s.dev.hostSalvo = false) (hcoord : s.dev.coordinates = false)
    (hstate : s.dev.slotState slot = PREPARED) (hlead : (s.dev.elapse dt).leadOver slot 250000 = true) :
    exec (.salvoDecideDeadline dt slot) s = .next { s with
      dev := ((((((s.dev.elapse dt).slotTo slot INDOUBT).sat D.XpCount.INDOUBT_EVENTS 0 1).raise Src.XC_SALVO_INDOUBT slot).pendPart
        slot true).sendQuery slot) } := by
  have hhost : (s.dev.elapse dt).hostSalvo = false := hhost
  have hcoord : (s.dev.elapse dt).coordinates = false := hcoord
  have hstate : (s.dev.elapse dt).slotState slot = PREPARED := hstate
  simp only [exec, execSalvoDecideDeadline, State.act, Dev.live_serving _ _ _ hserve, hhost, hcoord, hstate, hlead, Bool.not_true, Bool.not_false,
    Bool.false_eq_true, and_self, if_false, if_true]

theorem exec_salvoQueryTimer (hstate : s.dev.slotState slot = INDOUBT)
    (hpast : (s.dev.elapse dt).past (s.dev.salvoSt slot).queryAt 1000000 = true) :
    exec (.salvoQueryTimer dt slot) s = .next { s with dev := (s.dev.elapse dt).sendQuery slot } := by
  have hstate : (s.dev.elapse dt).slotState slot = INDOUBT := hstate
  have hpast : (s.dev.elapse dt).past ((s.dev.elapse dt).salvoSt slot).queryAt 1000000 = true := hpast
  simp only [exec, execSalvoQueryTimer, State.act, Dev.live_serving _ _ _ hserve, hstate, hpast, and_self, if_true]

/-- A committed slot of which the device holds no change is applied at its time. -/
theorem exec_salvoTakeTimeReached (hstate : s.dev.slotState slot = COMMITTED) (hpart : (s.dev.salvoSt slot).part = none)
    (hpend : s.dev.xp.pend.any (fun p => p.2.slot.any (fun x => x.1 == slot)) = false) (hlead : (s.dev.elapse dt).leadOver slot 0 = true) :
    exec (.salvoTakeTimeReached dt slot) s = .next { s with
      dev := ((s.dev.elapse dt).slotTo slot APPLIED).wr D.Salvo.APPLIED_TIME slot (s.dev.rd D.Salvo.TAKE_TIME slot) } := by
  have hstate : (s.dev.elapse dt).slotState slot = COMMITTED := hstate
  have hpart : ((s.dev.elapse dt).salvoSt slot).part = none := hpart
  simp only [exec, execSalvoTakeTimeReached, State.act, Dev.live_serving _ _ _ hserve, hstate, hpart, hlead, Option.isNone_none, true_and,
    Dev.rd_elapse, Dev.elapse_xp]
  rw [if_pos]
  rw [Bool.not_eq_true', List.any_eq_false]
  intro p hp
  have hother := List.any_eq_false.1 hpend p hp
  cases hslot : p.2.slot with
  | none => exact Bool.false_ne_true
  | some x => simpa [hslot] using hother

end

/-! ## What a slot then shows -/

section
variable (d : Dev) {slot : Nat}

/-- The QUERY of a slot notes when it was sent, beside its marker. -/
theorem Dev.kept_sendQuery (slot : Nat) : (d.setSalvo slot (fun x => { x with queryAt := d.wall })).Kept false (d.sendQuery slot) := by
  unfold Dev.sendQuery
  exact .ite ((Dev.Kept.refl ..).markTwin _) ((Dev.Kept.refl ..).markTo ..)

theorem Dev.queryAt_sendQuery (slot : Nat) : ((d.sendQuery slot).salvoSt slot).queryAt = d.wall := by
  rw [(d.kept_sendQuery slot).salvoSt, Dev.salvoSt_setSalvo_same]

theorem Dev.wall_showPend (c : Nat) : (d.showPend c).wall = d.wall := by
  unfold Dev.showPend
  dsimp only
  split
  all_goals simp only [Dev.flag, Dev.setFlow_wall, Dev.wr_wall]

theorem Dev.wall_pendPart (slot : Nat) (doubt : Bool) : (d.pendPart slot doubt).wall = d.wall := by
  have heach : ∀ (l : List Nat) (d : Dev), (d.each l (fun d c => d.showPend c)).wall = d.wall := by
    intro l
    induction l with
    | nil => exact fun _ => rfl
    | cons c t ih => exact fun d => (ih _).trans (d.wall_showPend c)
  unfold Dev.pendPart
  split
  · rfl
  · exact heach ..

theorem Dev.decided_decideSalvo (slot : Nat) (commit : Bool) (result member index : Nat) :
    ((d.decideSalvo slot commit result member index).salvoSt slot).decided = some (commit, result, member, index) := by
  rw [Dev.decideSalvo, Dev.salvoSt_setSalvo_same]

/-- What a device in doubt shows, beside the changes it holds back and its query, it showed before them. -/
theorem Dev.kept_doubt (slot : Nat) : d.SlotsKept ((d.pendPart slot true).sendQuery slot) :=
  (((Dev.SlotsKept.refl d).pendPart slot true).setSalvo).kept (Dev.kept_sendQuery ..)

end

/-- Settles O17: each command as its equation above says it, and what the slot then shows. -/
theorem salvoEventsComplete : Obligations.SalvoEventsComplete := by
  unfold Obligations.SalvoEventsComplete
  refine ⟨fun s dt group block hserve hnew hgroup hok hphase hcoord hhost hidle hstate => ?_,
    fun s dt slot p hserve _ hhost hstate hpart hvoted hown htwin => ?_,
    fun s dt group block hserve hnew hgroup hok hphase hepoch hvoting hstatus => ?_, fun s dt slot hserve _ hvoting hlead => ?_,
    fun s dt slot result member index commit hserve hslot hdecided hresult => ?_,
    fun s dt group block hserve hnew _ hdecision hstate => ?_, fun s dt group block hserve hnew _ hdecision hstate => ?_,
    fun s dt slot hserve hslot hhost hcoord hstate hlead => ?_, fun s dt slot hserve _ hstate hpast => ?_,
    fun s dt group block hserve hnew _ hok hphase hhost hcoord hlog => ?_, fun s dt slot hserve _ hstate hpart hpend hlead => ?_⟩
  · have hslot := Mark.slot_lt block
    obtain ⟨e, hexec, hkept⟩ := exec_salvoPrepare hserve hnew hgroup hok hphase hcoord hhost hidle hstate
    refine ⟨_, hexec, ?_, ?_, ?_⟩
    · exact (hkept.rd D.Salvo.STATE (by decide) _ fun _ => hslot).trans (Dev.slotState_slotTo _ _ (by decide))
    · rw [hkept.rd D.Salvo.EPOCH (by decide) _ fun _ => hslot, Dev.slotTo, Dev.rd_wr_apart _ _ _ _ _ _ (by decide),
        Dev.rd_wr_apart _ _ _ _ _ _ (by decide), Dev.rd_wr_same]
      exact Nat.mod_eq_of_lt (Nat.lt_trans (bitsOf_lt ..) (by decide))
    · rw [hkept.rd D.Salvo.TAKE_TIME (by decide) _ fun _ => hslot, Dev.slotTo, Dev.rd_wr_apart _ _ _ _ _ _ (by decide), Dev.rd_wr_same]
      exact Nat.mod_eq_of_lt (bitsOf_lt ..)
  · obtain ⟨d, hexec⟩ := exec_salvoPrepared hserve hhost hstate hpart hvoted hown htwin
    exact ⟨_, hexec, Dev.slotState_slotTo _ _ (by decide)⟩
  · obtain ⟨d, hexec⟩ := exec_salvoVoteRx hserve hnew hgroup hok hphase hepoch hvoting hstatus
    exact ⟨_, hexec, Dev.decided_decideSalvo ..⟩
  · exact ⟨_, exec_salvoVoteDeadline hserve hvoting hlead, Dev.decided_decideSalvo ..⟩
  · obtain ⟨e, hexec, hshown⟩ := exec_salvoDecisionLogged hserve hslot hdecided hresult
    exact ⟨_, hexec, hshown⟩
  · exact ⟨_, exec_salvoCommitRx hserve hnew hdecision hstate, Dev.slotState_commitPart _ (Mark.slot_lt block)⟩
  · refine ⟨_, exec_salvoAbortRx hserve hnew hdecision hstate, Dev.slotState_abortPart _ (Mark.slot_lt block), ?_⟩
    have hkept : s.dev.Kept false (((s.dev.elapse dt).heardMark group block).repeatMark group block) :=
      (((Dev.Kept.refl false s.dev).elapse dt).heardMark ..).repeatMark ..
    obtain ⟨hcoord, hhost⟩ : s.dev.coordinates = false ∧ s.dev.hostSalvo = false := by
      simp only [Dev.decisionFor, Bool.and_eq_true, Bool.not_eq_true'] at hdecision
      exact ⟨hdecision.1.2, hdecision.2⟩
    rw [Dev.rd_aborted_abortPart _ (Mark.slot_lt block), hkept.coordinates, hkept.hostSalvo, hkept.salvoSt, hcoord, hhost, Bool.or_false,
      Bool.or_false, hkept.rd D.XpCount.SALVOS_ABORTED (by decide) 0 (by decide)]
  · refine ⟨_, exec_salvoDecideDeadline hserve hhost hcoord hstate hlead, ?_, ?_, (Dev.queryAt_sendQuery ..).trans (Dev.wall_pendPart ..)⟩
    · have hraised : ((s.dev.elapse dt).slotTo slot INDOUBT).Kept false
          ((((s.dev.elapse dt).slotTo slot INDOUBT).sat D.XpCount.INDOUBT_EVENTS 0 1).raise Src.XC_SALVO_INDOUBT slot) :=
        ((Dev.Kept.refl ..).sat).raise
      exact ((Dev.kept_doubt _ slot).rd D.Salvo.STATE (by decide) slot fun _ => hslot).trans
        ((hraised.slotState hslot).trans (Dev.slotState_slotTo _ _ (by decide)))
    · exact List.contains_iff_mem.2 ((Dev.kept_doubt _ slot).raised _ (Dev.mem_raised_raise ..))
  · exact ⟨_, exec_salvoQueryTimer hserve hstate hpast, (s.dev.elapse dt).queryAt_sendQuery slot⟩
  · exact ⟨_, exec_salvoQueryRx hserve hnew hok hphase hhost hcoord hlog, rfl⟩
  · refine ⟨_, exec_salvoTakeTimeReached hserve hstate hpart hpend hlead, ?_, ?_⟩
    · exact (Dev.rd_wr_apart _ _ _ _ _ _ (by decide)).trans (Dev.slotState_slotTo _ slot (by decide))
    · rw [Dev.rd_wr_same]
      exact Nat.mod_eq_of_lt (bitsOf_lt ..)

end Sys2Proof.Machine
end

section
/-! Obligations of 04_planes_and_twins.md: planes X and Y fail, are reset, change their roles, and return to service (R104, R109 to R117). -/

namespace Sys2Proof.Machine

open Sys2Proof

open PlaneState

/-! ## Reading a plane's record -/

section
variable (d : Dev) (p q : Nat)

@[simp] theorem Dev.planeState_elapse (dt : Nat) : (d.elapse dt).planeState p = d.planeState p := (rfl)
@[simp] theorem Dev.planeSt_elapse (dt : Nat) : (d.elapse dt).planeSt p = d.planeSt p := (rfl)
@[simp] theorem Dev.shadowMatches_elapse (dt : Nat) : (d.elapse dt).shadowMatches = d.shadowMatches := (rfl)
@[simp] theorem Dev.planeState_setPlane (f : PlaneSt → PlaneSt) : (d.setPlane q f).planeState p = d.planeState p := (rfl)
@[simp] theorem Dev.planeSt_setPlane_same (f : PlaneSt → PlaneSt) : (d.setPlane p f).planeSt p = f (d.planeSt p) := nget_nput_same ..

theorem Dev.planeSt_setPlane_ne (f : PlaneSt → PlaneSt) (h : p ≠ q) : (d.setPlane q f).planeSt p = d.planeSt p := nget_nput_other _ _ _ h

theorem Dev.planeState_atBody (r : Rcp) : (d.atBody r).planeState p = d.planeState p := Dev.rd_atBody d r _ p (by decide) (by decide) (by decide)

theorem Dev.planeState_answer (r : Rcp) (a : Reply) : (d.answer r a).planeState p = d.planeState p :=
  Dev.rd_answer d r a _ p (by decide) (by decide)

end

/-- Device time is read from the clock and from three entries of the TIME area (R367). -/
theorem Dev.now_wr (d : Dev) (f : Fld) (n v : Nat)
    (h : (Fld.apart f D.Time.OFFSET && Fld.apart f D.Time.RATE && Fld.apart f D.Time.RATE_EPOCH) = true) : (d.wr f n v).now = d.now := by
  simp only [Bool.and_eq_true] at h
  obtain ⟨⟨hoff, hrate⟩, hepoch⟩ := h
  simp only [Dev.now, Dev.rdI, Dev.wr_raw, Dev.rd_wr_apart _ _ _ _ _ _ hoff, Dev.rd_wr_apart _ _ _ _ _ _ hrate,
    Dev.rd_wr_apart _ _ _ _ _ _ hepoch]

@[simp] theorem Dev.now_raise (d : Dev) (src inst : Nat) : (d.raise src inst).now = d.now := by
  simp only [Dev.now, Dev.rdI, Dev.rd_raise, Dev.raise_raw]

/-! ## Entering a state (Table 04.4) -/

/-- The fields that a change of state, or the reset of a plane, writes. -/
def planeStateFields : List Fld := [D.Plane.STATE, D.PlaneHealth.IN_SERVICE, D.PlaneHealth.ROLE_ACTIVE, D.PlaneHealth.STALL_SEEN]

/-- Does a field lie apart from them? -/
def Fld.offPlaneState (g : Fld) : Bool := planeStateFields.all (fun f => Fld.apart f g)

section
variable (d : Dev) (p q st : Nat)

theorem Dev.planeState_planeTo_same (h : st < 256) : (d.planeTo p st).planeState p = st := by
  rw [Dev.planeState, Dev.planeTo, Dev.rd_setPlane, Dev.rd_flag_apart _ _ _ _ _ _ (by decide), Dev.rd_flag_apart _ _ _ _ _ _ (by decide),
    Dev.rd_wr_same]
  exact Nat.mod_eq_of_lt h

theorem Dev.planeState_planeTo_ne (h : q ≠ p) : (d.planeTo p st).planeState q = d.planeState q := by
  rw [Dev.planeState, Dev.planeTo, Dev.rd_setPlane, Dev.rd_flag_apart _ _ _ _ _ _ (by decide), Dev.rd_flag_apart _ _ _ _ _ _ (by decide),
    Dev.rd_wr_ne _ _ _ _ _ h, Dev.planeState]

theorem Dev.planeState_planeOffline_same : (d.planeOffline p).planeState p = OFFLINE := Dev.planeState_planeTo_same _ p OFFLINE (by decide)

theorem Dev.planeState_planeOffline_ne (h : q ≠ p) : (d.planeOffline p).planeState q = d.planeState q := by
  rw [Dev.planeOffline, Dev.planeState_planeTo_ne _ p q _ h, Dev.planeState_setPlane]
  exact Dev.rd_flag_apart _ _ _ _ _ _ (by decide)

section
variable {g : Fld} (m : Nat) (hg : Fld.offPlaneState g = true)
include hg

theorem Dev.rd_wr_planeState {f : Fld} (hf : planeStateFields.contains f = true) (n v : Nat) : (d.wr f n v).rd g m = d.rd g m :=
  Dev.rd_wr_apart d f g n m v (List.all_eq_true.1 hg f (List.contains_iff_mem.1 hf))

theorem Dev.rd_planeTo : (d.planeTo p st).rd g m = d.rd g m := by
  rw [Dev.planeTo, Dev.rd_setPlane, Dev.flag, Dev.rd_wr_planeState _ m hg (by decide), Dev.flag, Dev.rd_wr_planeState _ m hg (by decide),
    Dev.rd_wr_planeState _ m hg (by decide)]

theorem Dev.rd_planeOffline : (d.planeOffline p).rd g m = d.rd g m := by
  rw [Dev.planeOffline, Dev.rd_planeTo _ _ _ m hg, Dev.rd_setPlane, Dev.flag, Dev.rd_wr_planeState _ m hg (by decide)]

end

@[simp] theorem Dev.raised_planeTo : (d.planeTo p st).raised = d.raised := by
  simp only [Dev.planeTo, Dev.flag, Dev.setPlane, Dev.wr_raised]

@[simp] theorem Dev.raised_planeOffline : (d.planeOffline p).raised = d.raised := by
  simp only [Dev.planeOffline, Dev.raised_planeTo, Dev.flag, Dev.setPlane, Dev.wr_raised]

end

/-! ## A failure's record (R109, R111) -/

/-- Device e shows a failure of plane p that device d has recorded: its cause, d's time, one more in the count, and XC_PLANE_FAIL. -/
structure Dev.FailureShown (d : Dev) (p cause : Nat) (e : Dev) : Prop where
  cause : e.rd D.Plane.LAST_FAIL_CAUSE p = cause
  time : e.rd D.Plane.LAST_FAIL_TIME p = d.now % 2 ^ 64
  failures : e.rd D.Plane.FAILURES p = (d.rd D.Plane.FAILURES p + 1) % 2 ^ 32
  raised : e.raised.contains ⟨Src.XC_PLANE_FAIL, p, false⟩ = true

section
variable {d e : Dev} {p cause : Nat}

theorem Dev.failureShown_planeFailure (d : Dev) (p : Nat) (h : cause < 256) : d.FailureShown p cause (d.planeFailure p cause) where
  cause := by
    rw [Dev.planeFailure, Dev.rd_raise, Dev.planeCause, Dev.rd_wr_apart _ _ _ _ _ _ (by decide), Dev.rd_wr_same]
    exact Nat.mod_eq_of_lt h
  time := by
    rw [Dev.planeFailure, Dev.rd_raise, Dev.planeCause, Dev.rd_wr_same, Dev.add, Dev.now_wr _ _ _ _ (by decide)]
    rfl
  failures := by
    rw [Dev.planeFailure, Dev.rd_raise, Dev.planeCause, Dev.rd_wr_apart _ _ _ _ _ _ (by decide), Dev.rd_wr_apart _ _ _ _ _ _ (by decide),
      Dev.rd_add_same]
    rfl
  raised := List.contains_iff_mem.2 (Dev.mem_raised_raise ..)

/-- A later change of a plane's state leaves the record. -/
theorem Dev.FailureShown.planeTo (h : d.FailureShown p cause e) (q st : Nat) : d.FailureShown p cause (e.planeTo q st) where
  cause := (Dev.rd_planeTo _ _ _ _ (by decide)).trans h.cause
  time := (Dev.rd_planeTo _ _ _ _ (by decide)).trans h.time
  failures := (Dev.rd_planeTo _ _ _ _ (by decide)).trans h.failures
  raised := by rw [Dev.raised_planeTo]; exact h.raised

theorem Dev.FailureShown.planeOffline (h : d.FailureShown p cause e) (q : Nat) : d.FailureShown p cause (e.planeOffline q) where
  cause := (Dev.rd_planeOffline _ _ _ (by decide)).trans h.cause
  time := (Dev.rd_planeOffline _ _ _ (by decide)).trans h.time
  failures := (Dev.rd_planeOffline _ _ _ (by decide)).trans h.failures
  raised := by rw [Dev.raised_planeOffline]; exact h.raised

theorem Dev.failureShown_planeFailed (d : Dev) (p : Nat) (h : cause < 256) : d.FailureShown p cause (d.planeFailed p cause) := by
  have hfailed := (Dev.failureShown_planeFailure d p h).planeTo p FAILED
  simp only [Dev.planeFailed]
  split
  · exact hfailed.planeOffline p
  · exact hfailed

end

section
variable (d : Dev) (p cause : Nat)

/-- A field apart from what a failure writes. -/
theorem Dev.rd_planeFailure {g : Fld} (m : Nat) (hcause : Fld.apart D.Plane.LAST_FAIL_CAUSE g = true)
    (htime : Fld.apart D.Plane.LAST_FAIL_TIME g = true) (hcount : Fld.apart D.Plane.FAILURES g = true) :
    (d.planeFailure p cause).rd g m = d.rd g m := by
  rw [Dev.planeFailure, Dev.rd_raise, Dev.planeCause, Dev.rd_wr_apart _ _ _ _ _ _ htime, Dev.rd_wr_apart _ _ _ _ _ _ hcause,
    Dev.rd_add_apart _ _ _ _ _ _ hcount]

theorem Dev.planeState_planeFailure (q : Nat) : (d.planeFailure p cause).planeState q = d.planeState q :=
  Dev.rd_planeFailure d p cause q (by decide) (by decide) (by decide)

theorem Dev.rd_planeFailed {g : Fld} (m : Nat) (hg : Fld.offPlaneState g = true) (hcause : Fld.apart D.Plane.LAST_FAIL_CAUSE g = true)
    (htime : Fld.apart D.Plane.LAST_FAIL_TIME g = true) (hcount : Fld.apart D.Plane.FAILURES g = true) :
    (d.planeFailed p cause).rd g m = d.rd g m := by
  have hfailed : ((d.planeFailure p cause).planeTo p FAILED).rd g m = d.rd g m := by
    rw [Dev.rd_planeTo _ _ _ m hg, Dev.rd_planeFailure d p cause m hcause htime hcount]
  exact Dev.rd_ite g m ((Dev.rd_planeOffline _ _ m hg).trans hfailed) hfailed

/-- AUTO_REPAIR resets a plane that has failed at once. -/
theorem Dev.planeState_planeFailed_same :
    (d.planeFailed p cause).planeState p = if d.on D.Planes.AUTO_REPAIR 0 then OFFLINE else FAILED := by
  have hrepair : ((d.planeFailure p cause).planeTo p FAILED).on D.Planes.AUTO_REPAIR 0 = d.on D.Planes.AUTO_REPAIR 0 := by
    rw [Dev.on, Dev.rd_planeTo _ _ _ _ (by decide), Dev.rd_planeFailure _ _ _ _ (by decide) (by decide) (by decide), Dev.on]
  simp only [Dev.planeFailed, hrepair]
  split
  · exact Dev.planeState_planeOffline_same ..
  · exact Dev.planeState_planeTo_same _ _ _ (by decide)

theorem Dev.planeState_planeFailed_ne {q : Nat} (h : q ≠ p) : (d.planeFailed p cause).planeState q = d.planeState q := by
  have hfailed : ((d.planeFailure p cause).planeTo p FAILED).planeState q = d.planeState q :=
    (Dev.planeState_planeTo_ne _ p q _ h).trans (Dev.planeState_planeFailure ..)
  exact Dev.rd_ite _ q ((Dev.planeState_planeOffline_ne _ p q h).trans hfailed) hfailed

end

/-! ## A failure cause acts (R109 to R111, R115) -/

/-- What PLANE_FAIL notes before the cause acts: a stall shows in HEALTH and is raised. -/
def Dev.stallNoted (d : Dev) (p cause : Nat) : Dev :=
  if cause = 2 then (d.flag D.PlaneHealth.STALL_SEEN p true).raise Src.XC_PLANE_STALL 0 else d

section
variable (d : Dev) (p cause : Nat)

theorem Dev.rd_stallNoted {g : Fld} (m : Nat) (h : Fld.apart D.PlaneHealth.STALL_SEEN g = true) : (d.stallNoted p cause).rd g m = d.rd g m :=
  Dev.rd_ite g m ((Dev.rd_raise ..).trans (Dev.rd_flag_apart _ _ _ _ _ _ h)) rfl

theorem Dev.planeState_stallNoted (q : Nat) : (d.stallNoted p cause).planeState q = d.planeState q := Dev.rd_stallNoted d p cause q (by decide)

theorem Dev.on_autoRepair_stallNoted : (d.stallNoted p cause).on D.Planes.AUTO_REPAIR 0 = d.on D.Planes.AUTO_REPAIR 0 := by
  rw [Dev.on, Dev.rd_stallNoted _ _ _ _ (by decide), Dev.on]

theorem Dev.now_stallNoted : (d.stallNoted p cause).now = d.now := by
  unfold Dev.stallNoted
  split
  · rw [Dev.now_raise, Dev.flag, Dev.now_wr _ _ _ _ (by decide)]
  · rfl

/-- What is shown of a failure after a stall was noted is what is shown of it before. -/
theorem Dev.FailureShown.of_stallNoted {d e : Dev} {p cause : Nat} (h : (d.stallNoted p cause).FailureShown p cause e) :
    d.FailureShown p cause e where
  cause := h.cause
  time := by rw [h.time, Dev.now_stallNoted]
  failures := by rw [h.failures, Dev.rd_stallNoted _ _ _ _ (by decide)]
  raised := h.raised

end

section
variable {d : Dev} {p cause : Nat}

theorem Dev.planeFail_of_standby (h : d.planeState p = STANDBY) : d.planeFail p cause = d.planeFailed p cause := if_pos h

section
variable (h : d.planeState p = ACTIVE)
include h

theorem Dev.planeFail_of_active : d.planeFail p cause =
    if d.planeState (1 - p) = STANDBY then (d.planeFailed p cause).planeTo (1 - p) ACTIVE
    else if cause = 3 ∨ cause = 4 then d.planeFailure p cause
    else (d.planeCause p cause).startRebuild := by
  have hstandby : ACTIVE ≠ STANDBY := by decide
  have hresync : ACTIVE ≠ RESYNC := by decide
  simp only [Dev.planeFail, h, hstandby, hresync, if_false, if_true]

theorem Dev.planeFail_promotes (hother : d.planeState (1 - p) = STANDBY) :
    d.planeFail p cause = (d.planeFailed p cause).planeTo (1 - p) ACTIVE := by
  rw [Dev.planeFail_of_active h, if_pos hother]

theorem Dev.planeFail_survived (hother : d.planeState (1 - p) ≠ STANDBY) (hcause : cause = 3 ∨ cause = 4) :
    d.planeFail p cause = d.planeFailure p cause := by
  rw [Dev.planeFail_of_active h, if_neg hother, if_pos hcause]

theorem Dev.planeFail_rebuilds (hother : d.planeState (1 - p) ≠ STANDBY) (hcause : ¬(cause = 3 ∨ cause = 4)) :
    d.planeFail p cause = (d.planeCause p cause).startRebuild := by
  rw [Dev.planeFail_of_active h, if_neg hother, if_neg hcause]

end

/-- A rebuild takes both planes to REBUILD. -/
theorem Dev.planeState_startRebuild (d : Dev) : d.startRebuild.planeState 0 = REBUILD ∧ d.startRebuild.planeState 1 = REBUILD := by
  unfold Dev.startRebuild
  refine ⟨?_, Dev.planeState_planeTo_same _ _ _ (by decide)⟩
  rw [Dev.planeState_planeTo_ne _ _ _ _ (by decide), Dev.planeState_planeOffline_ne _ _ _ (by decide),
    Dev.planeState_planeTo_same _ _ _ (by decide)]

end

theorem exec_planeFail (s : State) (dt : Nat) {p cause : Nat} (hserve : s.dev.serving = true) (hp : p < 2) (hlow : 1 ≤ cause)
    (hhigh : cause ≤ 6) :
    exec (.planeFail dt p cause) s = .next { s with dev := ((s.dev.elapse dt).stallNoted p cause).planeFail p cause } := by
  have hin : ¬(1 < p ∨ cause = 0 ∨ 6 < cause) := by omega
  simp only [exec, execPlaneFail, State.act, Dev.live_serving _ _ _ hserve, if_neg hin, Dev.stallNoted]

/-- Settles O18: the device records the failure by one rule, `Dev.planeFailure`, and the cases of Table 04.4 say what it does to the planes. -/
theorem planeFailureActs : Obligations.PlaneFailureActs := by
  unfold Obligations.PlaneFailureActs
  refine ⟨fun s dt p cause hserve hp hlow hhigh hstate => ?_, fun s dt p cause hserve hp hlow hhigh hstate hother => ?_,
    fun s dt p cause hserve hp hcause hstate hother => ?_, fun s dt p cause hserve hp hcause hstate hother => ?_⟩
  -- in every case the command acts on the states before it, whether a stall is noted or not
  all_goals
    have hexec := exec_planeFail s dt (p := p) (cause := cause) hserve hp (by omega) (by omega)
    have hstates : ∀ q, ((s.dev.elapse dt).stallNoted p cause).planeState q = s.dev.planeState q := Dev.planeState_stallNoted _ p cause
    have hne : 1 - p ≠ p := by omega
    have hbyte : cause < 256 := by omega
    rw [← hstates] at hstate
  · refine ⟨_, hexec, ?_⟩
    rw [Dev.planeFail_of_standby hstate]
    have hshown := Dev.FailureShown.of_stallNoted (d := s.dev.elapse dt) (Dev.failureShown_planeFailed _ p hbyte)
    refine ⟨hshown.cause, hshown.time, hshown.failures, hshown.raised, ?_, ?_⟩
    · rw [Dev.planeState_planeFailed_same, Dev.on_autoRepair_stallNoted, Dev.on_elapse]
    · rw [Dev.planeState_planeFailed_ne _ _ _ hne, hstates]
  · refine ⟨_, hexec, ?_⟩
    rw [← hstates] at hother
    rw [Dev.planeFail_promotes hstate hother]
    have hshown := Dev.FailureShown.of_stallNoted (d := s.dev.elapse dt)
      ((Dev.failureShown_planeFailed _ p hbyte).planeTo (1 - p) ACTIVE)
    refine ⟨hshown.cause, hshown.time, hshown.failures, hshown.raised, ?_, Dev.planeState_planeTo_same _ _ _ (by decide)⟩
    rw [Dev.planeState_planeTo_ne _ _ _ _ hne.symm, Dev.planeState_planeFailed_same, Dev.on_autoRepair_stallNoted, Dev.on_elapse]
  · refine ⟨_, hexec, ?_⟩
    rw [← hstates] at hother
    rw [Dev.planeFail_survived hstate hother hcause]
    have hshown := Dev.FailureShown.of_stallNoted (d := s.dev.elapse dt) (Dev.failureShown_planeFailure _ p hbyte)
    exact ⟨hshown.cause, hshown.time, hshown.failures, hshown.raised, (Dev.planeState_planeFailure ..).trans (hstates 0),
      (Dev.planeState_planeFailure ..).trans (hstates 1)⟩
  · refine ⟨_, hexec, ?_⟩
    rw [← hstates] at hother
    rw [Dev.planeFail_rebuilds hstate hother (by omega)]
    exact Dev.planeState_startRebuild _

/-! ## Commands, and the ends of BIST, copy and rebuild (R104, R111 to R116) -/

section
variable {d : Dev}

theorem Dev.resetPlane_of_failed {p : Nat} (h : d.planeState p = FAILED) : d.resetPlane p = (d.planeOffline p, St.OK) := by
  have hactive : FAILED ≠ ACTIVE := by decide
  simp only [Dev.resetPlane, h, hactive, false_and, if_false, if_true]

theorem Dev.swapCmd_of_yStandby (hx : d.planeState 0 = ACTIVE) (hy : d.planeState 1 = STANDBY) : d.swapCmd = (d.swapPlanes 1, St.OK) := by
  have hactive : ACTIVE ≠ STANDBY := by decide
  simp only [Dev.swapCmd, hx, hy, hactive, if_false, if_true]

/-- SWAP makes the standby plane active and the other standby. -/
theorem Dev.planeState_swapPlanes (d : Dev) {p : Nat} (hp : p < 2) :
    (d.swapPlanes p).planeState p = ACTIVE ∧ (d.swapPlanes p).planeState (1 - p) = STANDBY := by
  refine ⟨?_, Dev.planeState_planeTo_same _ _ _ (by decide)⟩
  rw [Dev.swapPlanes, Dev.planeState_planeTo_ne _ _ _ _ (by omega), Dev.planeState_planeTo_same _ _ _ (by decide)]

end

section
variable {s : State} {q : Rcp}

/-- A granted RESET of a plane that has failed resets it. -/
theorem serveWrite_resetPlane {me : Instr} {v : Bytes} {p : Nat} (hgrant : s.dev.grants q 0x0D00 8 v = true) (hstate : s.dev.planeState p = FAILED) :
    serveWrite me q 0x0D00 8 v (fun _ d => d.resetPlane p) s.dev = ((s.dev.atBody q).planeOffline p).answer q (Reply.of St.OK) :=
  serveWrite_answers hgrant (Dev.resetPlane_of_failed ((Dev.planeState_atBody s.dev p q).trans hstate)) (by decide)

theorem exec_planeCmdResetX (hgrant : s.dev.grants q 0x0D00 8 ⟨1, 1⟩ = true) (hstate : s.dev.planeState 0 = FAILED) :
    exec (.planeCmdResetX q) s = .next { s with dev := ((s.dev.atBody q).planeOffline 0).answer q (Reply.of St.OK) } := by
  simp only [exec, execPlaneCmdResetX, State.act, serveWrite_resetPlane hgrant hstate]

theorem exec_planeCmdResetY (hgrant : s.dev.grants q 0x0D00 8 ⟨1, 2⟩ = true) (hstate : s.dev.planeState 1 = FAILED) :
    exec (.planeCmdResetY q) s = .next { s with dev := ((s.dev.atBody q).planeOffline 1).answer q (Reply.of St.OK) } := by
  simp only [exec, execPlaneCmdResetY, State.act, serveWrite_resetPlane hgrant hstate]

/-- The answer to a RESET is OK, with the plane OFFLINE and the other as it was. -/
theorem Dev.reset_answered (d : Dev) (q : Rcp) {p r : Nat} (hne : r ≠ p) :
    (((d.atBody q).planeOffline p).answer q (Reply.of St.OK)).answered q St.OK = true ∧
      (((d.atBody q).planeOffline p).answer q (Reply.of St.OK)).planeState p = OFFLINE ∧
      (((d.atBody q).planeOffline p).answer q (Reply.of St.OK)).planeState r = d.planeState r := by
  refine ⟨Dev.answered_answer _ q (Reply.of St.OK) (by decide), ?_, ?_⟩
  · rw [Dev.planeState_answer, Dev.planeState_planeOffline_same]
  · rw [Dev.planeState_answer, Dev.planeState_planeOffline_ne _ _ _ hne, Dev.planeState_atBody]

theorem exec_planeCmdSwap (hgrant : s.dev.grants q 0x0D00 8 ⟨1, 3⟩ = true) (hx : s.dev.planeState 0 = ACTIVE)
    (hy : s.dev.planeState 1 = STANDBY) :
    exec (.planeCmdSwap q) s = .next { s with dev := ((s.dev.atBody q).swapPlanes 1).answer q (Reply.of St.OK) } := by
  have hact := Dev.swapCmd_of_yStandby ((Dev.planeState_atBody s.dev 0 q).trans hx) ((Dev.planeState_atBody s.dev 1 q).trans hy)
  simp only [exec, execPlaneCmdSwap, State.act]
  rw [serveWrite_answers hgrant hact (by decide)]

end

/-- A BIST that finds no failing slice passes, and leaves the planes' states (R521). -/
theorem Dev.planeSlice_none (d : Dev) (p : Nat) :
    (d.planeSlice p none).2 = true ∧ ∀ q, (d.planeSlice p none).1.planeState q = d.planeState q := by
  simp only [Dev.planeSlice]
  split
  · exact ⟨rfl, fun _ => rfl⟩
  · exact ⟨rfl, fun _ => Dev.rd_flag_apart _ _ _ _ _ _ (by decide)⟩
  all_goals contradiction

/-- The copy of the active plane's tables, as it stands at its end: `wrong` are the words that it left with another value. -/
def Dev.copyEnded (d : Dev) (p : Nat) (wrong : List (Nat × Nat)) : Dev :=
  d.setPlane p (fun x => { x with table := wrong.foldl (fun t e => nput t 0 e.1 e.2) x.table })

/-- The planes enter service from the shadow, after a rebuild of `us` microseconds. -/
def Dev.fromShadow (d : Dev) (us : Nat) : Dev :=
  (((d.add D.Planes.REBUILDS 0 1).wr D.Planes.LAST_REBUILD_US 0 us).loadPlane 0).loadPlane 1

section
variable (d : Dev)

theorem Dev.tables_copyEnded {p : Nat} (hp : p < 2) (wrong : List (Nat × Nat)) :
    ((d.copyEnded p wrong).planeSt p).table = wrong.foldl (fun t e => nput t 0 e.1 e.2) (d.planeSt p).table ∧
      ((d.copyEnded p wrong).planeSt (1 - p)).table = (d.planeSt (1 - p)).table := by
  have hne : 1 - p ≠ p := by omega
  rw [Dev.copyEnded, Dev.planeSt_setPlane_same, Dev.planeSt_setPlane_ne _ _ _ _ hne]
  exact ⟨rfl, rfl⟩

theorem Dev.rd_fromShadow (us : Nat) {g : Fld} (m : Nat) (hcount : Fld.apart D.Planes.REBUILDS g = true)
    (hlast : Fld.apart D.Planes.LAST_REBUILD_US g = true) : (d.fromShadow us).rd g m = d.rd g m := by
  rw [Dev.fromShadow, Dev.loadPlane, Dev.rd_setPlane, Dev.loadPlane, Dev.rd_setPlane, Dev.rd_wr_apart _ _ _ _ _ _ hlast,
    Dev.rd_add_apart _ _ _ _ _ _ hcount]

theorem Dev.planeState_reanchor (q : Nat) : d.reanchor.planeState q = d.planeState q :=
  Dev.rd_each _ _ _ _ _ fun d c => (Dev.rd_setFlow ..).trans (Dev.rd_flag_apart _ _ _ _ _ _ (by decide))

/-- PREFERRED_PLANE names the plane that becomes active where both enter service together (R104). -/
theorem Dev.planeState_bothIn (h : d.rd D.Planes.PREFERRED_PLANE 0 < 2) :
    d.bothIn.planeState (d.rd D.Planes.PREFERRED_PLANE 0) = ACTIVE ∧ d.bothIn.planeState (1 - d.rd D.Planes.PREFERRED_PLANE 0) = STANDBY :=
  Dev.planeState_swapPlanes d h

end

section
variable {s : State} (dt : Nat) {p : Nat} (hserve : s.dev.serving = true)
include hserve

/-- A reset plane that passes BIST beside the active one takes that one's tables. -/
theorem exec_planeBistDone_resync (shadowOk : Bool) (hp : p < 2) (hstate : s.dev.planeState p = OFFLINE)
    (hother : s.dev.planeState (1 - p) = ACTIVE) :
    ∃ e : Dev, exec (.planeBistDone dt p true shadowOk none) s
      = .next { s with dev := (e.flag D.PlaneHealth.BIST_PASS p true).startResync p } := by
  obtain ⟨hpass, hkept⟩ := (s.dev.elapse dt).planeSlice_none p
  have hin : ¬(1 < p ∨ (OFFLINE ≠ OFFLINE ∧ OFFLINE ≠ REBUILD)) := by simp; omega
  have hflag : ∀ q b, (((s.dev.elapse dt).planeSlice p none).1.flag D.PlaneHealth.BIST_PASS p b).planeState q = s.dev.planeState q :=
    fun q b => (Dev.rd_flag_apart _ _ _ _ _ _ (by decide)).trans (hkept q)
  simp only [exec, execPlaneBistDone, State.act, Dev.live_serving _ _ _ hserve, Dev.planeState_elapse, hstate, if_neg hin, hpass, hkept, hflag,
    hother, Bool.and_self, Bool.true_eq_false, if_false, if_true]
  exact ⟨_, rfl⟩

section
variable (hp : p < 2) (hstate : s.dev.planeState p = RESYNC)
include hp hstate

theorem exec_planeResyncDone_agrees {wrong : List (Nat × Nat)} (hagree : pagesAgree (wrong.foldl (fun t e => nput t 0 e.1 e.2)
      (s.dev.planeSt p).table) (s.dev.planeSt (1 - p)).table = true) :
    ∃ (us : Nat) (f : PlaneSt → PlaneSt), exec (.planeResyncDone dt p wrong) s = .next { s with
      dev := ((((((s.dev.elapse dt).copyEnded p wrong).add D.Plane.RESYNCS p 1).wr D.Plane.LAST_RESYNC_US p us).planeTo p STANDBY).setPlane
        p f) } := by
  have hin : ¬(1 < p ∨ RESYNC ≠ RESYNC) := by simp; omega
  obtain ⟨hown, hother⟩ := (s.dev.elapse dt).tables_copyEnded hp wrong
  rw [← Dev.planeSt_elapse _ _ dt, ← Dev.planeSt_elapse _ (1 - p) dt, ← hown, ← hother] at hagree
  unfold Dev.copyEnded at hagree ⊢
  simp only [exec, execPlaneResyncDone, State.act, Dev.live_serving _ _ _ hserve, Dev.planeState_elapse, hstate, if_neg hin, hagree,
    Bool.true_eq_false, if_false]
  exact ⟨_, _, rfl⟩

theorem exec_planeResyncDone_differs {wrong : List (Nat × Nat)} (hdiffer : pagesAgree (wrong.foldl (fun t e => nput t 0 e.1 e.2)
      (s.dev.planeSt p).table) (s.dev.planeSt (1 - p)).table = false) :
    exec (.planeResyncDone dt p wrong) s = .next { s with dev := ((s.dev.elapse dt).copyEnded p wrong).planeFailed p 6 } := by
  have hin : ¬(1 < p ∨ RESYNC ≠ RESYNC) := by simp; omega
  obtain ⟨hown, hother⟩ := (s.dev.elapse dt).tables_copyEnded hp wrong
  rw [← Dev.planeSt_elapse _ _ dt, ← Dev.planeSt_elapse _ (1 - p) dt, ← hown, ← hother] at hdiffer
  unfold Dev.copyEnded at hdiffer ⊢
  simp only [exec, execPlaneResyncDone, State.act, Dev.live_serving _ _ _ hserve, Dev.planeState_elapse, hstate, if_neg hin, hdiffer, if_true]

end

/-- Two tested planes enter service together from a shadow that agrees with the crosspoint. -/
theorem exec_planeRebuildDone (hx : s.dev.planeState 0 = REBUILD) (hy : s.dev.planeState 1 = REBUILD)
    (hbistX : (s.dev.planeSt 0).bist = some true) (hbistY : (s.dev.planeSt 1).bist = some true) (hshadow : s.dev.shadowMatches = true) :
    ∃ us, exec (.planeRebuildDone dt true) s = .next { s with dev := ((s.dev.elapse dt).fromShadow us).bothIn.reanchor } := by
  have hready : (s.dev.elapse dt).planeReady 0 = true ∧ (s.dev.elapse dt).planeReady 1 = true := by
    simp only [Dev.planeReady, Dev.planeState_elapse, Dev.planeSt_elapse, hx, hy, hbistX, hbistY, beq_self_eq_true, Bool.and_self, and_self]
  unfold Dev.fromShadow
  simp only [exec, execPlaneRebuildDone, State.act, Dev.live_serving _ _ _ hserve, hready.1, hready.2, Dev.shadowMatches_elapse, hshadow,
    Bool.not_true, Bool.and_false, Bool.and_self, Bool.or_self, Bool.true_eq_false, Bool.false_eq_true, if_false, if_true]
  exact ⟨_, rfl⟩

end

/-- Settles O19: each command as its equation above says it, and what the planes' records then read. -/
theorem planeCommandsComplete : Obligations.PlaneCommandsComplete := by
  unfold Obligations.PlaneCommandsComplete
  refine ⟨fun s q hgrant hstate => ?_, fun s q hgrant hstate => ?_, fun s q hgrant hx hy => ?_,
    fun s dt p shadowOk hserve hp hstate hother => ?_, fun s dt p wrong hserve hp hstate hagree => ?_,
    fun s dt p wrong hserve hp hstate hdiffer => ?_, fun s dt hserve hx hy hpref hbistX hbistY hshadow => ?_⟩
  · exact ⟨_, exec_planeCmdResetX hgrant hstate, s.dev.reset_answered q (by decide)⟩
  · exact ⟨_, exec_planeCmdResetY hgrant hstate, s.dev.reset_answered q (by decide)⟩
  · obtain ⟨hactive, hstandby⟩ := (s.dev.atBody q).planeState_swapPlanes (show 1 < 2 by decide)
    exact ⟨_, exec_planeCmdSwap hgrant hx hy, Dev.answered_answer _ q (Reply.of St.OK) (by decide), (Dev.planeState_answer ..).trans hstandby,
      (Dev.planeState_answer ..).trans hactive⟩
  · obtain ⟨e, hexec⟩ := exec_planeBistDone_resync dt hserve shadowOk hp hstate hother
    refine ⟨_, hexec, Dev.planeState_planeTo_same _ _ _ (by decide), ?_⟩
    rw [Dev.on, Dev.startResync, Dev.rd_planeTo _ _ _ _ (by decide), Dev.rd_setPlane]
    exact Dev.on_flag_same _ _ _ _ rfl
  · obtain ⟨us, f, hexec⟩ := exec_planeResyncDone_agrees dt hserve hp hstate hagree
    refine ⟨_, hexec, (Dev.planeState_setPlane ..).trans (Dev.planeState_planeTo_same _ _ _ (by decide)), ?_, ?_⟩
    · rw [Dev.rd_setPlane, Dev.rd_planeTo _ _ _ _ (by decide), Dev.rd_wr_apart _ _ _ _ _ _ (by decide), Dev.rd_add_same]
      rfl
    · rw [Dev.planeState_setPlane, Dev.planeState_planeTo_ne _ _ _ _ (by omega), Dev.planeState, Dev.rd_wr_apart _ _ _ _ _ _ (by decide),
        Dev.rd_add_apart _ _ _ _ _ _ (by decide)]
      rfl
  · refine ⟨_, exec_planeResyncDone_differs dt hserve hp hstate hdiffer, Dev.planeState_planeFailed_same ..,
      (Dev.failureShown_planeFailed _ p (by decide)).cause, ?_⟩
    rw [Dev.rd_planeFailed _ _ _ _ (by decide) (by decide) (by decide) (by decide)]
    rfl
  · obtain ⟨us, hexec⟩ := exec_planeRebuildDone dt hserve hx hy hbistX hbistY hshadow
    have hpref' : ((s.dev.elapse dt).fromShadow us).rd D.Planes.PREFERRED_PLANE 0 = s.dev.rd D.Planes.PREFERRED_PLANE 0 :=
      (Dev.rd_fromShadow _ us 0 (by decide) (by decide)).trans (Dev.rd_elapse ..)
    obtain ⟨hactive, hstandby⟩ := ((s.dev.elapse dt).fromShadow us).planeState_bothIn (hpref' ▸ hpref)
    rw [hpref'] at hactive hstandby
    refine ⟨_, hexec, ?_, ?_⟩
    · rw [Dev.planeState_reanchor, hactive]
    · rw [Dev.planeState_reanchor, hstandby]

end Sys2Proof.Machine
end

section
/-! Lemmas: what the dowel lanes leave alone when they send what falls due (R197 to R217). -/

namespace Sys2Proof.Machine

open Sys2Proof

-- Proofs one after another, as in the lemmas on what the take engine tells: for the memory of the check.
set_option Elab.async false

/-- The fields that the sending lanes write: the rotation, the lanes' states and counts, and what their groups have sent. -/
def sendFields : List Fld :=
  [D.GroupStatus.ACTIVE_LANES, D.GroupStatus.CAPACITY_MBPS, D.GroupCounters.CELLS_TX, D.GroupCounters.MGMT_TX, D.DwlLane.LANE_STATE,
    D.DwlLane.STEP, D.DwlLane.RANK, D.DwlLane.ATTEMPTS, D.DwlLane.PEER_HOLD, D.DwlLane.LCOUNT_TX, D.DwlLane.LCOUNT_RX, D.LaneStatus.USE,
    D.LaneStatus.CDR_LOCKED, D.Margin.SCAN_STATE]

/-- Does a field lie apart from all of them? -/
def Fld.offSend (g : Fld) : Bool := sendFields.all (fun f => Fld.apart f g)

/-- A device after its lanes have sent: beside the lanes' own fields it reads as before, and what it holds of the twin and of the network
outputs is as it was. -/
structure Dev.Sent (o d : Dev) : Prop where
  rd : ∀ g, Fld.offSend g = true → ∀ m, d.rd g m = o.rd g m
  wall : d.wall = o.wall
  raised : d.raised = o.raised
  twin : d.twin = o.twin
  netTx : d.netTx = o.netTx
  size : d.dwl.size = o.dwl.size

namespace Dev.Sent

theorem refl (d : Dev) : d.Sent d := ⟨fun _ _ _ => rfl, rfl, rfl, rfl, rfl, rfl⟩

section
variable {o d : Dev} (h : o.Sent d)
include h

/-- An update of other parts of the device. -/
theorem other {e : Dev} (hdict : e.dict = d.dict := by rfl) (hwall : e.wall = d.wall := by rfl) (hraised : e.raised = d.raised := by rfl)
    (htwin : e.twin = d.twin := by rfl) (hnetTx : e.netTx = d.netTx := by rfl) (hsize : e.dwl.size = d.dwl.size := by rfl) : o.Sent e :=
  ⟨fun g hg m => (Dev.rd_congr hdict g m).trans (h.rd g hg m), hwall.trans h.wall, hraised.trans h.raised, htwin.trans h.twin,
    hnetTx.trans h.netTx, hsize.trans h.size⟩

theorem emit {e : Emission} : o.Sent (d.emit e) := h.other
theorem setDl {e : Nat} {f : DwlLaneSt → DwlLaneSt} : o.Sent (d.setDl e f) := h.other
theorem setDg {g : Nat} {f : DwlGroupSt → DwlGroupSt} : o.Sent (d.setDg g f) := h.other
theorem phy {y : PhySt} : o.Sent { d with phy := y } := h.other

theorem wr {f : Fld} {n v : Nat} (hf : sendFields.contains f = true := by decide) : o.Sent (d.wr f n v) :=
  ⟨fun g hg m => (Dev.rd_wr_apart d f g n m v (List.all_eq_true.1 hg f (List.contains_iff_mem.1 hf))).trans (h.rd g hg m), h.wall, h.raised,
    h.twin, h.netTx, h.size⟩

theorem flag {f : Fld} {n : Nat} {b : Bool} (hf : sendFields.contains f = true := by decide) : o.Sent (d.flag f n b) := h.wr hf
theorem sat {f : Fld} {n k : Nat} (hf : sendFields.contains f = true := by decide) : o.Sent (d.sat f n k) := h.wr hf

theorem ite {p : Prop} [Decidable p] {e : Dev} (k : o.Sent e) : o.Sent (if p then d else e) := by
  split <;> assumption

theorem each {l : List Nat} {f : Dev → Nat → Dev} (hf : ∀ d n, o.Sent d → o.Sent (f d n)) : o.Sent (d.each l f) := by
  unfold Dev.each
  induction l generalizing d with
  | nil => exact h
  | cons n t ih => exact ih (hf d n h)

/-! ## Items and ordered sets (R199 to R205) -/

theorem sendSet (g l p : Nat) (s : LaneDue) : o.Sent (d.sendSet g l p s) := by
  cases s <;> exact h.other

theorem showRotation (g : Nat) (ls : List Nat) : o.Sent (d.showRotation g ls) := h.wr.wr.each fun _ _ h => h.wr

theorem sendItem (g l p : Nat) (i : ItemDue) : o.Sent (d.sendItem g l p i) := by
  have hcount : o.Sent (match i with
      | .cell _ c => (d.emit (.dowelCell g c)).sat D.GroupCounters.CELLS_TX g 1
      | .frame _ => d.sat D.GroupCounters.MGMT_TX g 1) := by
    cases i with
    | cell r c => exact h.emit.sat
    | frame b => exact h.sat
  unfold Dev.sendItem
  refine each (ite ?_ (showRotation ?_ ..)) fun _ _ h => h.setDl
  all_goals exact hcount.emit.setDl.wr.setDg

theorem laneTurn (g l p : Nat) : o.Sent (d.laneTurn g l p) := by
  unfold Dev.laneTurn
  split
  · exact h.sendSet ..
  · split
    · exact h.sendItem ..
    · exact h

theorem groupTurns (g k : Nat) : o.Sent (d.groupTurns g k) := by
  induction k generalizing d with
  | zero => exact h
  | succ k ih =>
    unfold Dev.groupTurns
    refine h.ite ?_
    split
    · exact ite (ih (h.laneTurn ..)) h
    · exact h

theorem laneIdle (e : Nat) : o.Sent (d.laneIdle e) := by
  unfold Dev.laneIdle
  exact h.ite (setDl (h.ite h.emit))

theorem groupRun (g : Nat) : o.Sent (d.groupRun g) := (h.groupTurns ..).each fun _ e h => h.laneIdle e

theorem sendItems (g : Nat) (l : List ItemDue) : o.Sent (d.sendItems g l) := (h.groupRun g).setDg.groupRun g

theorem sendMsg (g cls : Nat) (p : Bytes) : o.Sent (d.sendMsg g cls p) :=
  have hmsg : o.Sent ((d.emit (.message g cls p)).setDwl (fun x => { x with msg := (d.dwl.msg + 1) % 65536 })) := h.other
  ite (hmsg.sendItems ..) hmsg

/-! ## Training blocks (R210 to R212, R239, R245) -/

theorem scanAbort (lane : Nat) : o.Sent (d.scanAbort lane) := ite (wr h.phy) h

theorem laneStart (e : Nat) : o.Sent (d.laneStart e) :=
  have hoff : o.Sent (d.laneTo e LaneState.TRAINING LaneUse.TRAINING) := h.wr.wr
  wr (wr ((hoff.setDl.wr.wr.flag.flag).scanAbort _))

theorem sendBlocks (e k : Nat) : o.Sent (d.sendBlocks e k) := by
  induction k generalizing d with
  | zero => exact h
  | succ k ih =>
    unfold Dev.sendBlocks
    exact h.ite (ite (ih h.emit.setDl) (ih h.emit.wr.setDl))

theorem laneBlocks (e : Nat) : o.Sent (d.laneBlocks e) := ite (h.laneStart e) (ite (h.sendBlocks ..) h)

theorem lanesOut : o.Sent d.lanesOut := (h.each fun _ g h => h.groupRun g).each fun _ e h => h.laneBlocks e

end

end Dev.Sent

theorem Dev.sent_lanesAt (d : Dev) (dt : Nat) : (d.elapse dt).Sent (d.lanesAt dt) := (Dev.Sent.refl _).lanesOut

/-- Lane events act from the RESOURCES stage on. -/
theorem Dev.lanesRun_of_stage (d : Dev) (dt : Nat) (f : Dev → Dev) (hstage : 5 ≤ d.stage) (hreset : d.inReset = false) :
    d.lanesRun dt f = f (d.lanesAt dt) := by
  simp only [Dev.lanesRun, Dev.stage_elapse, Dev.inReset_elapse, hstage, hreset, Bool.not_false, and_self, if_true]

end Sys2Proof.Machine
end

section
/-! Obligations of 04_planes_and_twins.md: a pair of twins is made, reconciled, copied and lost, and its anchors are exchanged (R118 to R124). -/

namespace Sys2Proof.Machine

open Sys2Proof

open TwinState

/-! ## What the pair's entries read after an update -/

theorem ofBool_on (d : Dev) {f : Fld} (n : Nat) (h : f.w = 1) : ofBool (d.on f n) = d.rd f n := by
  have hlt : d.rd f n < 2 ^ f.w := bitsOf_lt ..
  rw [h] at hlt
  obtain hrd | hrd : d.rd f n = 0 ∨ d.rd f n = 1 := by omega
  all_goals simp [Dev.on, hrd]

section
variable (d : Dev)

@[simp] theorem Dev.rd_setTwin (f : TwinSt → TwinSt) (g : Fld) (m : Nat) : (d.setTwin f).rd g m = d.rd g m := (rfl)
@[simp] theorem Dev.twinState_setTwin (f : TwinSt → TwinSt) : (d.setTwin f).twinState = d.twinState := (rfl)
@[simp] theorem Dev.rd_setNetTx (c : Nat) (f : NetTxSt → NetTxSt) (g : Fld) (m : Nat) : (d.setNetTx c f).rd g m = d.rd g m := (rfl)
@[simp] theorem Dev.twin_setTwin (f : TwinSt → TwinSt) : (d.setTwin f).twin = f d.twin := (rfl)
@[simp] theorem Dev.raised_setNetTx (c : Nat) (f : NetTxSt → NetTxSt) : (d.setNetTx c f).raised = d.raised := (rfl)
@[simp] theorem Dev.netTx_setTwin (f : TwinSt → TwinSt) : (d.setTwin f).netTx = d.netTx := (rfl)
@[simp] theorem Dev.raised_setTwin (f : TwinSt → TwinSt) : (d.setTwin f).raised = d.raised := (rfl)
@[simp] theorem Dev.netTxSt_wr (f : Fld) (n v c : Nat) : (d.wr f n v).netTxSt c = d.netTxSt c := (rfl)
@[simp] theorem Dev.twinLegs_elapse (dt : Nat) : (d.elapse dt).twinLegs = d.twinLegs := (rfl)
@[simp] theorem Dev.twinState_elapse (dt : Nat) : (d.elapse dt).twinState = d.twinState := (rfl)

variable {st : Nat}

/-- A pair that is being made or stands keeps its role and its signatures. -/
theorem Dev.twinTo_of_stands (h : ¬(st = UNPAIRED ∨ st = LOST)) :
    d.twinTo st = (d.wr D.Twin.STATE 0 st).setTwin (fun x => { x with since := d.wall }) := by
  simp only [Dev.twinTo, if_neg h]

theorem Dev.sentAt_sendPairing : d.sendPairing.twin.sentAt = some d.wall := by
  rw [Dev.sendPairing, Dev.twinTo_of_stands _ (by decide)]
  rfl

/-- A pair that has ended reads ROLE ACTIVE, and its legs keep their own numbering (R120, R124). -/
theorem Dev.rd_twinTo_of_ended (h : st = UNPAIRED ∨ st = LOST) {g : Fld} (m : Nat) (hanchored : Fld.apart D.LegStatus.ANCHORED g = true)
    (hsending : Fld.apart D.LegStatus.TWIN_SENDING g = true) :
    (d.twinTo st).rd g m = ((d.wr D.Twin.STATE 0 st).wr D.Twin.ROLE 0 0).rd g m := by
  simp only [Dev.twinTo, if_pos h]
  rw [Dev.rd_each _ _ _ _ _ fun d n => ?_]
  · rfl
  · rw [Dev.rd_setNetTx, Dev.rd_flag_apart _ _ _ _ _ _ hsending, Dev.rd_flag_apart _ _ _ _ _ _ hanchored]

theorem Dev.twinState_twinTo (h : st < 256) : (d.twinTo st).twinState = st := by
  rw [Dev.twinState]
  by_cases hend : st = UNPAIRED ∨ st = LOST
  · rw [Dev.rd_twinTo_of_ended d hend _ (by decide) (by decide), Dev.rd_wr_apart _ _ _ _ _ _ (by decide), Dev.rd_wr_same]
    exact Nat.mod_eq_of_lt h
  · rw [Dev.twinTo_of_stands d hend, Dev.rd_setTwin, Dev.rd_wr_same]
    exact Nat.mod_eq_of_lt h

theorem Dev.twinState_sendPairing : d.sendPairing.twinState = PAIRING := Dev.twinState_twinTo _ (by decide)

theorem Dev.rd_role_twinTo_of_ended (h : st = UNPAIRED ∨ st = LOST) : (d.twinTo st).rd D.Twin.ROLE 0 = 0 := by
  rw [Dev.rd_twinTo_of_ended d h _ (by decide) (by decide), Dev.rd_wr_same, Nat.zero_mod]

theorem Dev.raised_twinTo : (d.twinTo st).raised = d.raised := by
  have heach : ∀ (l : List Nat) (d : Dev), (d.each l (fun d n => ((d.flag D.LegStatus.ANCHORED n false).flag D.LegStatus.TWIN_SENDING n
      false).setNetTx (4096 + n) (fun x => { x with step := 0, twin := none }))).raised = d.raised := by
    intro l
    induction l with
    | nil => exact fun _ => rfl
    | cons n t ih => exact fun d => (ih _).trans (by simp only [Dev.raised_setNetTx, Dev.flag, Dev.wr_raised])
  unfold Dev.twinTo
  split
  · exact (heach ..).trans (by simp only [Dev.raised_setTwin, Dev.wr_raised])
  · rw [Dev.raised_setTwin, Dev.wr_raised]

end

/-! ## What the pairing asks of the device -/

namespace Dev.Sent

section
variable {o d : Dev} (h : o.Sent d)
include h

theorem on {g : Fld} (hg : Fld.offSend g = true) (m : Nat) : d.on g m = o.on g m := by rw [Dev.on, h.rd g hg, Dev.on]

theorem sendAnchor (c : Nat) : o.Sent (d.sendAnchor c) := h.sendMsg ..

theorem twinState : d.twinState = o.twinState := h.rd _ (by decide) _

theorem groupUp (g : Nat) : d.groupUp g = o.groupUp g := by rw [Dev.groupUp, h.rd _ (by decide), Dev.groupUp]

theorem mayPair : d.mayPair = o.mayPair := by rw [Dev.mayPair, h.groupUp, h.on (by decide), Dev.mayPair]

theorem past (t ns : Nat) : d.past t ns = o.past t ns := by rw [Dev.past, h.wall, Dev.past]

theorem pairMatch (block : Nat) : d.pairMatch block = o.pairMatch block := by
  simp (disch := decide) only [Dev.pairMatch, Dev.me, Dev.ensSize, Dev.frameDigest, h.rd, h.on, h.size]

end

end Dev.Sent

/-! ## The commands -/

section
variable {s : State} (dt : Nat) (hstage : 5 ≤ s.dev.stage) (hreset : s.dev.inReset = false)
include hstage hreset

theorem exec_twinPairingSend (hmay : s.dev.mayPair = true)
    (hdue : s.dev.twin.sentAt = none ∨ s.dev.twin.sentAt = some s.dev.wall ∧ 1000000000 ≤ dt)
    (hstate : s.dev.twinState = UNPAIRED ∨ s.dev.twinState = PAIRING ∨ s.dev.twinState = LOST) :
    exec (.twinPairingSend dt) s = .next { s with dev := (s.dev.lanesAt dt).sendPairing } := by
  have hsent := s.dev.sent_lanesAt dt
  have hmay : (s.dev.lanesAt dt).mayPair = true := hsent.mayPair.trans hmay
  have hopen : ¬(s.dev.twinState = RECONCILE ∨ s.dev.twinState = RESYNC ∨ s.dev.twinState = PAIRED) := by
    simp only [UNPAIRED, PAIRING, LOST] at hstate
    simp only [RECONCILE, RESYNC, PAIRED]
    omega
  simp only [exec, execTwinPairingSend, State.act, Dev.lanesRun_of_stage _ _ _ hstage hreset, hmay, hsent.twin, hsent.twinState,
    Dev.elapse_twin, Dev.twinState_elapse, hopen]
  obtain hnone | ⟨hsome, hdt⟩ := hdue
  · simp only [hnone, Bool.not_true, Bool.false_eq_true, or_self, if_false]
  · have hpast : (s.dev.lanesAt dt).past s.dev.wall 1000000000 = true :=
      (hsent.past ..).trans (decide_eq_true (Nat.add_le_add_left hdt s.dev.wall))
    simp only [hsome, hpast, Bool.not_true, Bool.false_eq_true, or_self, if_false]

/-- A block that matches while PAIRING starts RECONCILE in the role of R120. -/
theorem exec_twinPairingRx {block : Nat} (hmay : s.dev.mayPair = true) (hstate : s.dev.twinState = PAIRING)
    (hmatch : s.dev.pairMatch block = true) :
    ∃ (d : Dev) (table : Bytes), exec (.twinPairingRx dt block) s = .next { s with
      dev := (((d.wr D.Twin.PEER_ID 0 (PairBlock.identity block)).wr D.Twin.ROLE 0
        (if s.dev.twin.resetSince = PairBlock.resetSince block then s.dev.rd D.Straps.PLANE_B 0 else ofBool s.dev.twin.resetSince)).twinTo
          RECONCILE).sendMsg 7 0x05 table } := by
  have hsent := s.dev.sent_lanesAt dt
  have hmay : (s.dev.lanesAt dt).mayPair = true := hsent.mayPair.trans hmay
  have hopen : ¬(PAIRING = RECONCILE ∨ PAIRING = RESYNC ∨ PAIRING = PAIRED) := by decide
  have hmatch : ∀ f, ((s.dev.lanesAt dt).setTwin f).pairMatch block = true := fun f => (hsent.pairMatch block).trans hmatch
  have hrole : ofBool (if (s.dev.twin.resetSince != PairBlock.resetSince block) = true then s.dev.twin.resetSince
      else s.dev.on D.Straps.PLANE_B 0)
        = if s.dev.twin.resetSince = PairBlock.resetSince block then s.dev.rd D.Straps.PLANE_B 0 else ofBool s.dev.twin.resetSince := by
    by_cases hsame : s.dev.twin.resetSince = PairBlock.resetSince block
    · simp only [hsame, bne_self_eq_false, Bool.false_eq_true, if_false, if_true]
      exact ofBool_on _ _ rfl
    · simp only [hsame, bne_iff_ne, ne_eq, not_false_eq_true, if_false, if_true]
  have hplane : ∀ f, ((s.dev.lanesAt dt).setTwin f).on D.Straps.PLANE_B 0 = s.dev.on D.Straps.PLANE_B 0 := fun f => hsent.on (by decide) 0
  simp only [exec, execTwinPairingRx, State.act, Dev.lanesRun_of_stage _ _ _ hstage hreset, hmay, hsent.twinState, Dev.twinState_elapse, hstate,
    hopen, hmatch, Dev.twin_setTwin, hsent.twin, Dev.elapse_twin, hplane, hrole, Bool.not_true, Bool.false_eq_true, or_self, if_false, if_true]
  exact ⟨_, _, rfl⟩

theorem exec_twinPairingTimeout (hstate : s.dev.twinState = PAIRING) (hpast : (s.dev.elapse dt).past s.dev.twin.since 100000000 = true) :
    exec (.twinPairingTimeout dt) s = .next { s with dev := (s.dev.lanesAt dt).twinTo UNPAIRED } := by
  have hsent := s.dev.sent_lanesAt dt
  simp only [exec, execTwinPairingTimeout, State.act, Dev.lanesRun_of_stage _ _ _ hstage hreset, hsent.twinState, Dev.twinState_elapse, hstate,
    hsent.twin, Dev.elapse_twin, hsent.past, hpast, ne_eq, not_true_eq_false, Bool.not_true, Bool.false_eq_true, or_self, if_false]

/-- A PAIRED pair that group 7 no longer joins, or whose twin has been silent for 1 ms, is LOST. -/
theorem exec_twinLost (reset : Bool) (hstate : s.dev.twinState = PAIRED)
    (hgone : s.dev.groupUp 7 = false ∨ (s.dev.elapse dt).past s.dev.twin.heardAt 1000000 = true) :
    exec (.twinLost dt reset) s = .next { s with
      dev := ((((s.dev.lanesAt dt).add D.Twin.LOSSES 0 1).raise Src.XC_TWIN_LOST 0).twinTo LOST).setTwin
        (fun x => { x with sentAt := none }) } := by
  have hsent := s.dev.sent_lanesAt dt
  have hup : (s.dev.elapse dt).groupUp 7 = s.dev.groupUp 7 := rfl
  have hgone : (!s.dev.groupUp 7 || (s.dev.elapse dt).past s.dev.twin.heardAt 1000000) = true := by
    obtain h | h := hgone <;> simp [h]
  simp only [exec, execTwinLost, State.act, Dev.lanesRun_of_stage _ _ _ hstage hreset, hsent.twinState, Dev.twinState_elapse, hstate,
    hsent.twin, Dev.elapse_twin, hsent.past, hsent.groupUp, hup, hgone, and_self, if_true]

end

/-- A copy that the standby takes over writes none but the entries that it carries (R122). -/
theorem Dev.rd_takeCopy (d : Dev) (stats : List (Nat × Nat × Nat × Nat)) (copy : TwinCopy) {g : Fld} (m : Nat) (hrep : g.rep = false)
    (hg : copied g.ix g.sub = false) : (d.takeCopy stats copy).rd g m = d.rd g m := by
  have hother : ∀ (d : Dev) (a : NMap DpllSt) (b : NMap RefSt) (c : TimeSt), ({ d with dpll := a, ref := b, time := c } : Dev).rd g m = d.rd g m :=
    fun _ _ _ _ => rfl
  simp only [Dev.takeCopy]
  rw [hother, Dev.rd_foldl _ _ _ _ _ fun d y => Dev.rd_setNetTx .., Dev.rd_foldl _ _ _ _ _ fun d y => ?_]
  split
  · split
    next hy =>
      have hkey : g.key m ≠ ⟨y.1, y.2.1, y.2.2.1⟩ := fun h => by
        simp only [Fld.key, hrep, Bool.false_eq_true, if_false, Key.mk.injEq] at h
        rw [h.1, h.2.1, hy] at hg
        cases hg
      simp only [Dev.rd, Dev.ent_setEnt_other _ _ hkey]
    next => rfl
  · rfl

section
variable {s : State} (dt : Nat) (hserve : s.dev.serving = true)
include hserve

theorem exec_twinReconcile (table : Nat) (hstate : s.dev.twinState = RECONCILE) :
    ∃ e : Dev, exec (.twinReconcile dt table) s = .next { s with dev := e } ∧ e.twinState = RESYNC := by
  simp only [exec, execTwinReconcile, State.act, Dev.live_serving _ _ _ hserve, Dev.twinState_elapse, hstate, ne_eq, not_true_eq_false, if_false]
  exact ⟨_, rfl, Dev.rd_ite _ _ (Dev.twinState_twinTo _ (by decide)) (Dev.twinState_twinTo _ (by decide))⟩

/-- A copy that has had its time is complete, and the pair stands. -/
theorem exec_twinCopyDone (stats : List (Nat × Nat × Nat × Nat)) (copy : TwinCopy) (hstate : s.dev.twinState = RESYNC)
    (hpast : (s.dev.elapse dt).past s.dev.twin.since twinCopyNs = true) :
    ∃ (d : Dev) (time wall : Nat), d.rd D.Twin.RESYNCS 0 = s.dev.rd D.Twin.RESYNCS 0 ∧
      exec (.twinCopyDone dt stats copy) s = .next { s with
        dev := (((d.add D.Twin.RESYNCS 0 1).wr D.Twin.PAIRED_TIME 0 time).setTwin (fun x =>
          { x with resetSince := false, heardAt := wall, sentAt := none, anchorAt := wall })).twinTo PAIRED } := by
  simp only [exec, execTwinCopyDone, State.act, Dev.live_serving _ _ _ hserve, Dev.twinState_elapse, hstate, Dev.elapse_twin, hpast, ne_eq,
    not_true_eq_false, Bool.not_true, Bool.false_eq_true, or_self, if_false]
  refine ⟨_, _, _, ?_, rfl⟩
  exact Dev.rd_ite _ 0 ((Dev.rd_takeCopy _ _ _ 0 rfl (by decide)).trans (Dev.rd_elapse ..)) (Dev.rd_elapse ..)

end

/-- MAKE_ACTIVE of a PAIRED pair swaps the role and tells the twin. -/
theorem exec_twinCmdMakeActive {s : State} {q : Rcp} (hgrant : s.dev.grants q 0x0D20 0x0C ⟨1, 1⟩ = true) (hstate : s.dev.twinState = PAIRED) :
    exec (.twinCmdMakeActive q) s = .next { s with
      dev := (((s.dev.atBody q).wr D.Twin.ROLE 0 (1 - s.dev.rd D.Twin.ROLE 0)).sendMsg 7 0x06
        ⟨1, 1 - s.dev.rd D.Twin.ROLE 0⟩).answer q (Reply.of St.OK) } := by
  have hpaired : (s.dev.atBody q).twinState = PAIRED := (Dev.rd_atBody _ _ _ _ (by decide) (by decide) (by decide)).trans hstate
  have hrole : (s.dev.atBody q).rd D.Twin.ROLE 0 = s.dev.rd D.Twin.ROLE 0 := Dev.rd_atBody _ _ _ _ (by decide) (by decide) (by decide)
  have hact : (s.dev.atBody q).twinCmd 1 = (((s.dev.atBody q).wr D.Twin.ROLE 0 (1 - s.dev.rd D.Twin.ROLE 0)).sendMsg 7 0x06
      ⟨1, 1 - s.dev.rd D.Twin.ROLE 0⟩, St.OK) := by
    simp only [Dev.twinCmd, hpaired, hrole, if_true]
  simp only [exec, execTwinCmdMakeActive, State.act]
  rw [serveWrite_answers hgrant hact (by decide)]

/-- Settles O20: each command as its equation above says it, and what the pair's entries then read. -/
theorem twinPairingComplete : Obligations.TwinPairingComplete := by
  unfold Obligations.TwinPairingComplete
  refine ⟨fun s dt hstage hreset hmay hdue hstate => ?_, fun s dt block hstage hreset hmay hstate hmatch => ?_,
    fun s dt hstage hreset hstate hpast => ?_, fun s dt table hserve hstate => ?_, fun s dt stats copy hserve hstate hpast => ?_,
    fun s dt reset hstage hreset hstate hgone => ?_, fun s q hgrant hstate => ?_⟩
  · refine ⟨_, exec_twinPairingSend dt hstage hreset hmay hdue hstate, ?_, ?_⟩
    · rw [Dev.twinState_sendPairing]
    · rw [Dev.sentAt_sendPairing, (s.dev.sent_lanesAt dt).wall]
      rfl
  · obtain ⟨d, table, hexec⟩ := exec_twinPairingRx dt hstage hreset hmay hstate hmatch
    have hkept {e : Dev} : e.Sent (e.sendMsg 7 0x05 table) := (Dev.Sent.refl e).sendMsg ..
    have hplane : s.dev.rd D.Straps.PLANE_B 0 < 2 ^ 1 := bitsOf_lt ..
    have hbool : ∀ b, ofBool b < 2 ^ 8 := by decide
    refine ⟨_, hexec, ?_, ?_, ?_⟩
    · rw [hkept.twinState, Dev.twinState_twinTo _ (by decide)]
    · rw [hkept.rd _ (by decide), Dev.twinTo_of_stands _ (by decide), Dev.rd_setTwin, Dev.rd_wr_apart _ _ _ _ _ _ (by decide),
        Dev.rd_wr_apart _ _ _ _ _ _ (by decide), Dev.rd_wr_same]
      exact Nat.mod_eq_of_lt (bitsOf_lt ..)
    · rw [hkept.rd _ (by decide), Dev.twinTo_of_stands _ (by decide), Dev.rd_setTwin, Dev.rd_wr_apart _ _ _ _ _ _ (by decide),
        Dev.rd_wr_same]
      refine Nat.mod_eq_of_lt ?_
      split
      · exact Nat.lt_trans hplane (by decide)
      · exact hbool _
  · refine ⟨_, exec_twinPairingTimeout dt hstage hreset hstate hpast, ?_, ?_⟩
    · rw [Dev.twinState_twinTo _ (by decide)]
    · rw [Dev.rd_role_twinTo_of_ended _ (.inl rfl)]
  · obtain ⟨e, hexec, hresync⟩ := exec_twinReconcile dt hserve table hstate
    exact ⟨_, hexec, hresync⟩
  · obtain ⟨d, time, wall, hcount, hexec⟩ := exec_twinCopyDone dt hserve stats copy hstate hpast
    refine ⟨_, hexec, ?_, ?_, ?_⟩
    · rw [Dev.twinState_twinTo _ (by decide)]
    · rw [Dev.twinTo_of_stands _ (by decide), Dev.rd_setTwin, Dev.rd_wr_apart _ _ _ _ _ _ (by decide), Dev.rd_setTwin,
        Dev.rd_wr_apart _ _ _ _ _ _ (by decide), Dev.rd_add_same, hcount]
      rfl
    · rw [Dev.twinTo_of_stands _ (by decide)]
      rfl
  · have hsent := s.dev.sent_lanesAt dt
    refine ⟨_, exec_twinLost dt hstage hreset reset hstate hgone, ?_, ?_, ?_, ?_⟩
    · rw [Dev.twinState_setTwin, Dev.twinState_twinTo _ (by decide)]
    · rw [Dev.rd_setTwin, Dev.rd_role_twinTo_of_ended _ (.inr rfl)]
    · rw [Dev.rd_setTwin, Dev.rd_twinTo_of_ended _ (.inr rfl) _ (by decide) (by decide), Dev.rd_wr_apart _ _ _ _ _ _ (by decide),
        Dev.rd_wr_apart _ _ _ _ _ _ (by decide), Dev.rd_raise, Dev.rd_add_same, hsent.rd _ (by decide), Dev.rd_elapse]
      rfl
    · rw [Dev.raised_setTwin, Dev.raised_twinTo]
      exact List.contains_iff_mem.2 (Dev.mem_raised_raise ..)
  · refine ⟨_, exec_twinCmdMakeActive hgrant hstate, Dev.answered_answer _ q (Reply.of St.OK) (by decide), ?_⟩
    rw [Dev.rd_answer _ _ _ _ _ (by decide) (by decide), ((Dev.Sent.refl _).sendMsg ..).rd _ (by decide), Dev.rd_wr_same]
    exact Nat.mod_eq_of_lt (Nat.lt_of_le_of_lt (Nat.sub_le ..) (by decide))

/-! ## Anchors (R124) -/

/-- An anchor of a frame that the standby has not started is kept for that frame's start; ANCHOR_SEQ takes what fits of its sequence number. -/
theorem exec_twinAnchorRx_unstarted {s : State} (dt : Nat) {ctx : Nat} {anchor : Nat × Nat} (hserve : s.dev.serving = true)
    (hpaired : s.dev.twinState = PAIRED) (hrole : s.dev.rd D.Twin.ROLE 0 = 1) (hleg : s.dev.twinLegs.contains ctx = true)
    (hnone : (s.dev.netTxSt ctx).anchors.find? (fun a => a.1 == anchor.1) = none) :
    ∃ d : Dev, exec (.twinAnchorRx dt ctx anchor true) s = .next { s with
      dev := (d.wr D.LegStatus.ANCHOR_SEQ (ctx - 4096) anchor.2).setNetTx ctx (fun x => { x with twin := some (anchor.1, anchor.2) }) } := by
  generalize hafter : exec (.twinAnchorRx dt ctx anchor true) s = o
  change execTwinAnchorRx dt ctx anchor true s = o at hafter
  unfold execTwinAnchorRx State.act at hafter
  beta_reduce at hafter
  rw [Dev.live_serving _ _ _ hserve] at hafter
  extract_lets n ts seq d1 d2 d3 at hafter
  have hopen : ¬((s.dev.elapse dt).twinState ≠ PAIRED ∨ (!(s.dev.elapse dt).twinLegs.contains ctx) = true) := by
    rw [Dev.twinState_elapse, Dev.twinLegs_elapse, hpaired, hleg]
    decide
  have hstandby : d1.rd D.Twin.ROLE 0 = 1 := by
    rw [Dev.rd_flag_apart _ _ _ _ _ _ (by decide), Dev.rd_setTwin, Dev.rd_elapse, hrole]
  have hframes : (d3.netTxSt ctx).anchors.find? (fun a => a.1 == ts) = none := by
    have hkept : d1.netTx = s.dev.netTx := by simp only [d1, Dev.flag, Dev.wr_netTx, Dev.netTx_setTwin, Dev.elapse_netTx]
    rw [Dev.netTxSt_wr, Dev.netTxSt, ((Dev.Sent.refl d1).sendAnchor ctx).netTx, hkept]
    exact hnone
  rw [if_neg hopen, if_neg (not_not.2 hstandby), if_neg (by decide)] at hafter
  split at hafter
  case h_2 a hsome => exact absurd (hframes.symm.trans hsome) nofun
  subst hafter
  exact ⟨d2, rfl⟩

/-- A standby twin in service whose output 8,191, an ST 2110-20 output, is one leg of a pair and has started no frame. -/
def standbyLeg : Dev :=
  ({ Dev.reset with rst := {} } : Dev)
    |>.wr D.Rst.STARTUP_STAGE 0 6 |>.wr D.Twin.STATE 0 PAIRED |>.wr D.Twin.ROLE 0 1
    |>.wr D.Flow.ENABLE 8191 1 |>.wr D.Flow.KIND 8191 0x42 |>.wr D.LegCfg.TWIN_LEG 4095 1

/-- The anchor of a frame whose sequence number is the first of 17 bits: ANCHOR_SEQ, a field of 16 bits (Table 04.14), then reads 0. -/
theorem exec_twinAnchorRx_standbyLeg : ∃ t, exec (.twinAnchorRx 0 8191 (9, 65536) true) ⟨standbyLeg, [], []⟩ = .next t ∧
    t.dev.rd D.LegStatus.ANCHOR_SEQ 4095 = 0 := by
  obtain ⟨d, hexec⟩ := exec_twinAnchorRx_unstarted (s := ⟨standbyLeg, [], []⟩) 0 (ctx := 8191) (anchor := (9, 65536)) (by decide) (by decide)
    (by decide) (by decide) (by decide)
  refine ⟨_, hexec, ?_⟩
  rw [Dev.rd_setNetTx, Dev.rd_wr_same]
  rfl

/-- Refutes O21: its clauses on anchors say that ANCHOR_SEQ reads all 32 bits of an anchor's sequence number, the extended number of an
ST 2110-20 leg, where the field holds the low 16 of them. The last clause fails at number 65,536. -/
theorem not_twinFramesComplete : ¬ Obligations.TwinFramesComplete := by
  unfold Obligations.TwinFramesComplete
  intro ⟨_, _, _, _, hunstarted⟩
  obtain ⟨t, hexec, _, hseq⟩ := hunstarted ⟨standbyLeg, [], []⟩ 0 8191 (9, 65536) (by decide) (by decide) (by decide) (by decide) (by decide)
  obtain ⟨t', hexec', hread⟩ := exec_twinAnchorRx_standbyLeg
  obtain rfl : t = t' := Host.Outcome.next.inj (hexec.symm.trans hexec')
  rw [hread] at hseq
  exact absurd hseq (by decide)

end Sys2Proof.Machine
end

section
/-! Lemmas: the frame boundary and the playout delay in force that an output's context holds (R72, R73), and the work of the device that leaves
them alone: sending over the dowel groups, the flow engines, the paths between members, the frame store, takes and inserted tiles, safe state,
and the frames that an output sends. -/

namespace Sys2Proof.Machine

open Sys2Proof

-- The many short proofs below are checked one after another, as in the lemmas on what the take engine tells: for the memory of the check.
set_option Elab.async false

theorem Dev.flowSt_setFlow (d : Dev) (c k : Nat) (f : FlowSt → FlowSt) :
    (d.setFlow c f).flowSt k = if k = c then f (d.flowSt c) else d.flowSt k := by
  split
  case isTrue hk => rw [hk, Dev.flowSt_setFlow_same]
  case isFalse hk => exact nget_nput_other _ _ _ hk

/-- What every context of one device holds of an output's frames stands in another: the boundary noted last, and the delay that stays until
the next. -/
structure Dev.FramesKept (o d : Dev) : Prop where
  boundary : ∀ c, (d.flowSt c).boundary = (o.flowSt c).boundary
  delay : ∀ c, (d.flowSt c).oldDelay = (o.flowSt c).oldDelay

namespace Dev.FramesKept

theorem refl (d : Dev) : d.FramesKept d := ⟨fun _ => rfl, fun _ => rfl⟩

section
variable {o d : Dev} (h : o.FramesKept d)
include h

/-- An update of anything but the contexts. -/
theorem other {e : Dev} (hflow : e.flow = d.flow := by rfl) : o.FramesKept e := by
  have hst : e.flowSt = d.flowSt := funext fun c => by rw [Dev.flowSt, hflow, Dev.flowSt]
  exact ⟨hst ▸ h.boundary, hst ▸ h.delay⟩

/-- An update of a context that leaves its frames. -/
theorem setFlow {c : Nat} {f : FlowSt → FlowSt} (hboundary : ∀ x, (f x).boundary = x.boundary := by exact fun _ => rfl)
    (hdelay : ∀ x, (f x).oldDelay = x.oldDelay := by exact fun _ => rfl) : o.FramesKept (d.setFlow c f) := by
  refine ⟨fun k => ?_, fun k => ?_⟩
  · rw [Dev.flowSt_setFlow]
    split
    case isTrue hk => rw [hboundary, hk, h.boundary]
    case isFalse => exact h.boundary k
  · rw [Dev.flowSt_setFlow]
    split
    case isTrue hk => rw [hdelay, hk, h.delay]
    case isFalse => exact h.delay k

theorem wr {f : Fld} {n v : Nat} : o.FramesKept (d.wr f n v) := h.other
theorem flag {f : Fld} {n : Nat} {b : Bool} : o.FramesKept (d.flag f n b) := h.other
theorem sat {f : Fld} {n k : Nat} : o.FramesKept (d.sat f n k) := h.other
theorem add {f : Fld} {n k : Nat} : o.FramesKept (d.add f n k) := h.other
theorem raise {src inst : Nat} : o.FramesKept (d.raise src inst) := h.other
theorem emit {e : Emission} : o.FramesKept (d.emit e) := h.other
theorem setTx {c : Nat} {f : HoldSt → HoldSt} : o.FramesKept (d.setTx c f) := h.other
theorem setNetTx {c : Nat} {f : NetTxSt → NetTxSt} : o.FramesKept (d.setNetTx c f) := h.other
theorem setDl {e : Nat} {f : DwlLaneSt → DwlLaneSt} : o.FramesKept (d.setDl e f) := h.other
theorem setDg {g : Nat} {f : DwlGroupSt → DwlGroupSt} : o.FramesKept (d.setDg g f) := h.other
theorem setXp {f : XpSt → XpSt} : o.FramesKept (d.setXp f) := h.other
theorem setRx {l : Nat} {f : SdiRxSt → SdiRxSt} : o.FramesKept (d.setRx l f) := h.other
theorem setPlane {p : Nat} {f : PlaneSt → PlaneSt} : o.FramesKept (d.setPlane p f) := h.other
theorem setLayer {e : Nat} {f : LayerSt → LayerSt} : o.FramesKept (d.setLayer e f) := h.other
theorem setTile {t : Nat} {f : TileSt → TileSt} : o.FramesKept (d.setTile t f) := h.other
theorem setDest {r : Nat} {f : DestSt → DestSt} : o.FramesKept (d.setDest r f) := h.other
theorem setDwl {f : DwlSt → DwlSt} : o.FramesKept (d.setDwl f) := h.other
theorem setAudio {f : AudioSt → AudioSt} : o.FramesKept (d.setAudio f) := h.other
theorem setStore {f : StoreSt → StoreSt} : o.FramesKept (d.setStore f) := h.other
theorem putAlloc {k : Nat} {a : Option Alloc} : o.FramesKept (d.putAlloc k a) := h.other
theorem raiseL {src inst : Nat} : o.FramesKept (d.raiseL src inst) := h.other
theorem endCond {src inst : Nat} : o.FramesKept (d.endCond src inst) := h.other
theorem drawn : o.FramesKept d.drawn := h.other
theorem audio {y : AudioSt} : o.FramesKept { d with audio := y } := h.other
theorem hold {y : NMap HoldSt} : o.FramesKept { d with hold := y } := h.other

theorem ite {p : Prop} [Decidable p] {e : Dev} (k : o.FramesKept e) : o.FramesKept (if p then d else e) := by
  split <;> assumption

theorem foldl {α : Type} (l : List α) {f : Dev → α → Dev} (hf : ∀ d a, o.FramesKept d → o.FramesKept (f d a)) : o.FramesKept (l.foldl f d) := by
  induction l generalizing d with
  | nil => exact h
  | cons a t ih => exact ih (hf d a h)

theorem each {l : List Nat} {f : Dev → Nat → Dev} (hf : ∀ d n, o.FramesKept d → o.FramesKept (f d n)) : o.FramesKept (d.each l f) :=
  h.foldl l hf

/-! ## Sending over the dowel groups (R199 to R205) -/

theorem sendSet (g l p : Nat) (s : LaneDue) : o.FramesKept (d.sendSet g l p s) := by
  unfold Dev.sendSet
  cases s with
  | replay | skip | marker | mark => exact h.setDl.emit.setDl
  | request | salvo => exact h.setDl.emit
  | beacon => exact h.setDl.emit.setDg

theorem showRotation (g : Nat) (ls : List Nat) : o.FramesKept (d.showRotation g ls) := h.wr.wr.each fun _ _ h => h.wr

theorem sendItem (g l p : Nat) (i : ItemDue) : o.FramesKept (d.sendItem g l p i) := by
  have hcount : o.FramesKept (match i with
      | .cell _ c => (d.emit (.dowelCell g c)).sat D.GroupCounters.CELLS_TX g 1
      | .frame _ => d.sat D.GroupCounters.MGMT_TX g 1) := by
    cases i with
    | cell r c => exact h.emit.sat
    | frame b => exact h.sat
  unfold Dev.sendItem
  refine each (ite ?_ (showRotation ?_ ..)) fun _ _ h => h.setDl
  all_goals exact hcount.emit.setDl.wr.setDg

theorem laneTurn (g l p : Nat) : o.FramesKept (d.laneTurn g l p) := by
  unfold Dev.laneTurn
  split
  · exact h.sendSet ..
  · split
    · exact h.sendItem ..
    · exact h

theorem groupTurns (g k : Nat) : o.FramesKept (d.groupTurns g k) := by
  induction k generalizing d with
  | zero => exact h
  | succ k ih =>
    unfold Dev.groupTurns
    refine h.ite ?_
    split
    · exact ite (ih (h.laneTurn ..)) h
    · exact h

theorem laneIdle (e : Nat) : o.FramesKept (d.laneIdle e) := by
  unfold Dev.laneIdle
  exact h.ite (setDl (h.ite h.emit))

theorem groupRun (g : Nat) : o.FramesKept (d.groupRun g) := (h.groupTurns ..).each fun _ e h => h.laneIdle e

theorem sendItems (g : Nat) (l : List ItemDue) : o.FramesKept (d.sendItems g l) := (h.groupRun g).setDg.groupRun g

theorem sendMsg (g cls : Nat) (p : Bytes) : o.FramesKept (d.sendMsg g cls p) := h.emit.setDwl.sendItems .. |>.ite h.emit.setDwl

theorem post (m : Nat) (b : Bytes) : o.FramesKept (d.post m b) := by
  unfold Dev.post
  split
  · exact h.sendMsg ..
  · split
    · exact h.sendMsg ..
    · exact h

theorem report : o.FramesKept d.report := by
  unfold Dev.report
  exact h.ite (h.ite (h.setDwl.each fun _ m h => h.post ..))

theorem reroute (efn : Nat) (vias : List Nat) : o.FramesKept (d.reroute efn vias) := by
  unfold Dev.reroute
  refine each h.setDwl fun d m h => ?_
  split <;> exact h.setDwl

/-! ## Flow engines (Table 02.7) -/

theorem showMatch (l : Nat) : o.FramesKept (d.showMatch l) := by
  unfold Dev.showMatch
  exact h.ite (ite h.setRx.raiseL h.setRx.endCond)

theorem flipDone (v : Nat) : o.FramesKept (d.flipDone v) := by
  unfold Dev.flipDone
  split
  · exact ite (other h).wr.flag h
  · exact h

theorem flowTo (c st : Nat) : o.FramesKept (d.flowTo c st) := h.wr.setFlow

theorem flowStart (c : Nat) : o.FramesKept (d.flowStart c) := (h.flag.wr.flowTo ..).setFlow

theorem matchSweep : o.FramesKept d.matchSweep := h.each fun _ l h => h.showMatch l

theorem flipsLeft : o.FramesKept d.flipsLeft := h.other.each fun _ v h => h.flipDone v

theorem flowStop (c : Nat) (queued : Bool) : o.FramesKept (d.flowStop c queued) :=
  (h.flag.flag.flowTo ..).setFlow.matchSweep.flipsLeft

theorem flowCommit (c : Nat) : o.FramesKept (d.flowCommit c) := by
  unfold Dev.flowCommit
  exact ite (ite (flowStart h.wr c) h.wr) (ite h.wr.setFlow (ite (ite (flowStop h.wr ..) (ite (flowStop h.wr ..) h.wr)) h.wr.flag))

theorem tablePut (i v : Nat) : o.FramesKept (d.tablePut i v) := by
  unfold Dev.tablePut
  exact each (ite (h.setXp (f := fun x => { x with shadow := nput x.shadow 0 i v })) h) fun _ _ h => h.setPlane

theorem ownFlow (c kind efn bind format : Nat) : o.FramesKept (d.ownFlow c kind efn bind format) := h.wr.wr.wr.wr.wr.wr

theorem showRelay (c : Nat) : o.FramesKept (d.showRelay c) := h.ite (h.ite (h.tablePut ..))

/-! ## Paths between members (R43, R223 to R225) -/

theorem showDest (efn : Nat) : o.FramesKept (d.showDest efn) := by
  unfold Dev.showDest
  split
  · exact h
  · exact h.wr

theorem endPeer (efn : Nat) : o.FramesKept (d.endPeer efn) := by
  unfold Dev.endPeer
  split
  · exact h
  · exact ite ((h.wr.flowCommit _).reroute ..) h

theorem replanPeer (c : Nat) (group : Option Nat) (format : Nat) : o.FramesKept (d.replanPeer c group format) := by
  unfold Dev.replanPeer
  cases group with
  | none => exact h.wr.wr.setFlow
  | some g => exact h.wr.wr.wr.setFlow

theorem announce (efn : Nat) : o.FramesKept (d.announce efn) := h.each fun _ _ h => h.post ..

theorem planApply (efn hops frm path info : Nat) : o.FramesKept (d.planApply efn hops frm path info) := by
  unfold Dev.planApply
  split
  · exact (((h.wr.wr.showDest efn).reroute ..).announce efn).report
  · refine ite (h.endPeer efn).report ?_
    extract_lets d1 d2
    have h1 : o.FramesKept d1 := h.other
    have h2 : o.FramesKept d2 := by
      simp only [d2]
      split
      · exact ite (h1.replanPeer ..) h1
      · split
        · exact h1
        · exact ((h1.ownFlow ..).flag).flowCommit _
    split
    · exact (((h2.wr.showDest efn).showRelay _).reroute ..).report
    · exact h2

theorem planOrder (efn m : Nat) : o.FramesKept (d.planOrder efn m) := (h.planApply ..).ite (h.post ..)

theorem planTo (l : List PlanPair) (efn : Nat) : o.FramesKept (d.planTo l efn) :=
  h.setDwl.add.wr.each fun _ e h => h.each fun _ m h => h.planOrder e m

theorem plan (efn m : Nat) (want two : Bool) : o.FramesKept (d.plan efn m want two) := by
  unfold Dev.plan
  extract_lets l this
  refine ite (ite h (ite ?_ ?_)) ((h.planTo ..).ite h)
  · refine ite (h.setDwl.planOrder ..) ?_
    split
    · exact h.setDwl.planTo ..
    · exact h.setDwl.planOrder ..
  · split
    · exact h.planTo ..
    · exact h

theorem askPlan (efn : Nat) (want : Bool) : o.FramesKept (d.askPlan efn want) := (h.plan ..).ite (h.post ..)

theorem flowUse (efn : Nat) : o.FramesKept (d.flowUse efn) := by
  unfold Dev.flowUse
  have h := h.showDest efn
  refine ite h (ite (h.post ..) (ite (h.askPlan ..) ?_))
  split
  · exact (h.askPlan ..).ite h
  · exact h

/-! ## The blocks of the frame store (R253 to R256, R271, R272) -/

theorem setHoldReady (c : Nat) (b : Bool) : o.FramesKept (d.setHoldReady c b) := ite (h.each fun _ _ h => h.flag) h.flag

theorem fillBlocks (k : Nat) (ls : List Nat) (host lost : Bool) : o.FramesKept (d.fillBlocks k ls host lost) := by
  have hmask : ∀ (a : Option Alloc) (got : List Nat), o.FramesKept ((d.putAlloc k a).unmask got) := fun _ _ => h.putAlloc.each fun _ _ h => h.wr
  unfold Dev.fillBlocks
  split
  · exact h
  · exact ite (ite (hmask ..).setStore (hmask ..)) (hmask ..)

theorem fillAlloc (k : Nat) (host lost : Bool) : o.FramesKept (d.fillAlloc k host lost) := by
  unfold Dev.fillAlloc
  split
  · exact h
  · exact h.fillBlocks ..

theorem regrowClass (cls : List Nat) (least : Bool) : o.FramesKept (d.regrowClass cls least) := h.foldl _ fun _ _ h => h.ite (h.fillBlocks ..)

theorem regrow : o.FramesKept d.regrow := h.foldl _ fun _ _ h => (ite (h.regrowClass ..) h).regrowClass ..

theorem reconcile (ws : List Want) : o.FramesKept (d.reconcile ws) :=
  ((h.setStore.setStore.foldl _ fun _ _ h => h.fillAlloc ..).foldl _ fun _ _ h => h.putAlloc.fillAlloc ..).regrow

theorem settle : o.FramesKept d.settle := (h.reconcile _).each fun _ c h => ite (h.setHoldReady c false).setTx h

/-! ## Safe state (R106, R107, R153, R481 to R483) -/

theorem showSafe (c : Nat) (b : Bool) : o.FramesKept (d.showSafe c b) :=
  ite (h.flag.each fun _ _ h => ite h.flag h.flag.flag) (ite (ite h.flag.flag h.flag.flag.flag) h.flag)

theorem countSafe (c : Nat) : o.FramesKept (d.countSafe c) := ite (h.each fun _ _ h => h.sat) (ite h.sat h)

theorem safeNow (c : Nat) : o.FramesKept (d.safeNow c) := by
  unfold Dev.safeNow
  exact ite h (hold ((h.countSafe c).showSafe c true))

theorem enterSafe (c why : Nat) : o.FramesKept (d.enterSafe c why) := (h.safeNow c).setFlow

theorem leaveSafe (c : Nat) : o.FramesKept (d.leaveSafe c) := by
  have hdrop : o.FramesKept (if d.anchoredOk c && !d.on D.FlowStatus.SOURCE_LOST c then
      ((d.dropWhy c Safe.noCells).dropWhy c Safe.rebuild).dropWhy c Safe.reset else d) := ite h.setFlow.setFlow.setFlow h
  unfold Dev.leaveSafe
  exact h.ite (ite (hdrop.showSafe c false) hdrop)

theorem setSafeHold (c : Nat) (b : Bool) : o.FramesKept (d.setSafeHold c b) := ite (h.each fun _ _ h => h.flag) (ite h.flag h)

theorem countHeld (c : Nat) : o.FramesKept (d.countHeld c) := ite (h.each fun _ _ h => h.sat) h.sat

theorem holdEmpty (c : Nat) : o.FramesKept (d.holdEmpty c) := ite h.raise h.raise

theorem showUntimed (c : Nat) (b : Bool) : o.FramesKept (d.showUntimed c b) := ite (h.flag.each fun _ _ h => h.flag) h.flag

/-! ## Network outputs (R190) -/

theorem txMissing (c : Nat) : o.FramesKept (d.txMissing c) := by
  unfold Dev.txMissing
  refine h.ite (ite (setNetTx (ite h.drawn.setNetTx h)) ?_)
  dsimp only
  split
  · exact h
  · exact h.setNetTx.ite (h.setNetTx.ite (h.setNetTx.ite h.setNetTx))

theorem txClose (c : Nat) : o.FramesKept (d.txClose c) := by
  unfold Dev.txClose
  dsimp only
  split
  · exact h
  · exact h.setNetTx.ite ((h.txMissing c).ite (h.setNetTx.ite h))

theorem txSafe (c : Nat) (held : Bool) : o.FramesKept (d.txSafe c held) := by
  have hclose := h.txClose c
  unfold Dev.txSafe
  exact hclose.setNetTx.ite (ite (hclose.setNetTx.ite hclose) (hclose.setNetTx.ite (hclose.setNetTx.ite hclose)))

/-! ## Lines of an SDI output (R140 to R145, R150 to R153, R351) -/

theorem embedStop (l : Nat) : o.FramesKept (d.embedStop l) := h.other

theorem embedTake (c : Nat) (k w : Int) (n : Nat) : o.FramesKept (d.embedTake c k w n).1 := by
  induction n generalizing d w with
  | zero => exact h
  | succ n ih => exact ih (ite h.sat.sat.raise h) _

theorem embedLines (c n : Nat) : o.FramesKept (d.embedLines c n).1 := by
  unfold Dev.embedLines
  dsimp only
  split
  · exact h
  · exact (h.embedTake ..).audio

theorem sendLine (c n : Nat) (words : List (Option Nat)) (safe strip : Bool) : o.FramesKept (d.sendLine c n words safe strip).1 := by
  unfold Dev.sendLine
  extract_lets f a src audio d1 r d2
  have hread : o.FramesKept a.1 := by
    simp only [a]
    split
    · exact h
    · exact h.embedLines ..
  have h1 : o.FramesKept d1 := hread.audio
  have h2 : o.FramesKept d2 := h1.each fun _ _ h => h.sat.emit
  dsimp only
  exact h2.setTx

theorem sendHeld (c : Nat) : o.FramesKept (d.sendHeld c) := h.each fun _ _ h => h.sendLine ..

theorem sendBlack (c : Nat) : o.FramesKept (d.sendBlack c) := h.each fun _ _ h => h.sendLine ..

theorem showBlack (c : Nat) (lines : List Nat) : o.FramesKept (d.showBlack c lines) := h.each fun _ _ h => h.each fun _ _ h => h.emit

theorem sendSdi (c content : Nat) : o.FramesKept (d.sendSdi c content) := by
  unfold Dev.sendSdi
  exact ite h.emit (ite (h.emit.setTx.sendHeld c) (h.emit.setTx.sendBlack c))

theorem sendFrame (c content : Nat) : o.FramesKept (d.sendFrame c content) := ite (h.sendSdi ..) (ite h h.emit)

theorem safeFrame (c : Nat) : o.FramesKept (d.safeFrame c) := by
  unfold Dev.safeFrame
  refine ite ((h.setSafeHold ..).sendFrame ..) (ite ((setSafeHold (ite h (h.setTx.holdEmpty c)) ..).sendFrame ..)
    (ite ((h.setSafeHold ..).sendFrame ..) (((h.setTx.setSafeHold ..).countHeld c).sendFrame ..)))

/-! ## Frames of an output, and their signatures (R123, R152, R191) -/

theorem sdiFrameEnd (c : Nat) : o.FramesKept (d.sdiFrameEnd c) := ite (h.setTx.setHoldReady ..) h.setTx

theorem frameEnd (c : Nat) (armed : Bool) : o.FramesKept (d.frameEnd c armed) := by
  unfold Dev.frameEnd
  extract_lets x clean unfit d1 n d2
  have h1 : o.FramesKept d1 := h.setTx
  have h2 : o.FramesKept d2 := ite h1.other h1
  exact ite (h2.setHoldReady ..) h2

theorem compareSig (c : Nat) : o.FramesKept (d.compareSig c) := by
  unfold Dev.compareSig
  exact ite h (ite (other h).sat h.other)

theorem signFrame (c : Nat) (source boundary : Option Nat) (sig : Nat) : o.FramesKept (d.signFrame c source boundary sig) := by
  unfold Dev.signFrame
  split
  · exact ite h ((sendMsg (other h) ..).compareSig c)
  · exact h

theorem signBlack (c n : Nat) : o.FramesKept (d.signBlack c n) := by
  unfold Dev.signBlack
  exact h.setTx

theorem signLine (c n : Nat) (links : List (List Nat)) : o.FramesKept (d.signLine c n links) := by
  unfold Dev.signLine
  exact ite h (h.signBlack ..).setTx

theorem endFrame (c : Nat) : o.FramesKept (d.endFrame c) := by
  unfold Dev.endFrame
  exact (sdiFrameEnd (ite ((h.signBlack ..).signFrame ..) h) c).setTx

theorem sendSource (c : Nat) (armed : Bool) (l : SdiLine) : o.FramesKept (d.sendSource c armed l) := by
  unfold Dev.sendSource
  have hsent := (h.sendLine c l.line l.words false false).signLine c l.line (d.sendLine c l.line l.words false false).2
  exact ite hsent.setTx hsent

theorem drainLines (c : Nat) (armed : Bool) (ls : List SdiLine) : o.FramesKept (d.drainLines c armed ls) := by
  induction ls generalizing d with
  | nil => exact h.setFlow
  | cons l t ih =>
    unfold Dev.drainLines
    exact ite (ite (ih ((h.endFrame c).setFlow.sendFrame ..)) h.setFlow) (ih (h.sendSource ..))

theorem flushLines (c : Nat) : o.FramesKept (d.flushLines c) := by
  unfold Dev.flushLines
  exact ite h (ite (h.drainLines ..) h.setFlow)

theorem turnFrame (c : Nat) (steady : Bool) (shown : List Nat) : o.FramesKept (d.turnFrame c steady shown) := by
  unfold Dev.turnFrame
  extract_lets d1 d2 cut d3 d4
  have h2 : o.FramesKept d2 := ite ((h.endFrame c).safeFrame c) ((h.endFrame c).sendFrame ..)
  have h3 : o.FramesKept d3 := ite (h.setFlow.flushLines c) h
  have h4 : o.FramesKept d4 := (h3.endFrame c).setFlow
  exact ite (ite h2 (h2.showBlack ..)) (ite (h.setFlow.flushLines c) ((h4.sendFrame ..).flushLines c))

/-! ## Tiles that takes insert (R81, R305, R311) -/

theorem setSource (c : Nat) (source : Option Nat) : o.FramesKept (d.setSource c source) := h.flag.wr.tablePut ..

theorem wake (need : Nat × Nat → Bool) : o.FramesKept (d.wake need) := h.foldl _ fun _ _ h => h.wr.sat

theorem insertTile {c efn : Nat} {sync gateway : Bool} {e : Dev} {i : Insert} (hins : d.insertTile c efn sync gateway = some (e, i)) :
    o.FramesKept e := by
  unfold Dev.insertTile at hins
  split at hins
  case h_2 => exact nomatch hins
  case h_1 t p q _ _ _ =>
    extract_lets f path phase fsBits d1 d2 d3 d4 d5 d6 d7 at hins
    have h1 : o.FramesKept d1 := (h.ownFlow ..).ownFlow ..
    have h3 : o.FramesKept d3 := ite (ite h1.wr.wr.wr.wr.wr.wr h1.wr.wr) h1.wr.wr.wr.wr.wr
    have h7 : o.FramesKept d7 := ((h3.flag.setTile.wake _).setSource ..).setFlow
    obtain ⟨rfl, -⟩ := Prod.mk.inj (Option.some.inj hins)
    exact (h7.flowCommit _).flowCommit _

theorem freeTile (t : Nat) : o.FramesKept (d.freeTile t) := by
  have hctx : ∀ d c, o.FramesKept d → o.FramesKept (if 4096 ≤ c then ((d.wr D.Flow.ENABLE c 0).flowCommit c).setSource c none
      else (d.wr D.Flow.ENABLE c 0).flowCommit c) := fun d c h => ite ((h.wr.flowCommit c).setSource ..) (h.wr.flowCommit c)
  unfold Dev.freeTile
  exact ite h (h.each hctx).wr.wr.wr.flag.setTile.settle

theorem insertAgain (c : Nat) : o.FramesKept (d.insertAgain c) := by
  unfold Dev.insertAgain
  refine ite h ?_
  dsimp only
  split
  · exact h.other
  · split
    · exact freeTile (other h) _
    case h_2 hins => exact ((freeTile (other h) _).insertTile hins).settle.wr.setFlow

theorem insertLate (c : Nat) : o.FramesKept (d.insertLate c) := by
  unfold Dev.insertLate
  split
  · exact h
  · refine ite h (ite h.setXp ?_)
    split
    · exact h.setXp
    case h_2 hins => exact (h.setXp.insertTile hins).settle.wr.flag.flag.setFlow

/-! ## Pending changes and their application (R83, R92) -/

theorem showPend (c : Nat) : o.FramesKept (d.showPend c) := by
  unfold Dev.showPend
  dsimp only
  split
  · exact h.flag.flag.wr.wr.flag.wr.setFlow
  · exact h.flag.flag.wr.wr.flag.wr.setFlow

theorem takeUp (c : Nat) (p : Pend) : o.FramesKept (d.takeUp c p) := by
  unfold Dev.takeUp
  split
  · exact h
  · refine ite h (ite (h.setXp.showPend c) ?_)
    split
    · exact h.setXp.showPend c
    case h_2 hins => exact (h.insertTile hins).settle.setXp.showPend c

theorem holdDoubt (c : Nat) : o.FramesKept (d.holdDoubt c) := h.ite (h.flag.enterSafe ..)

theorem layerApply (c : Nat) (disconnect : Bool) : o.FramesKept (d.layerApply c disconnect) := by
  unfold Dev.layerApply
  exact h.ite (ite h.sat.setLayer.setLayer h.sat.setLayer)

theorem noteFollow (r : Nat) (efn : Option Nat) : o.FramesKept (d.noteFollow r efn) := ite h.flag.flag.sat.raise h.flag.flag

theorem audioApply (c : Nat) (efn : Option Nat) (accept : Nat) : o.FramesKept (d.audioApply c efn accept) :=
  h.each fun _ r h => ite (h.noteFollow r efn) (h.noteFollow r efn).setDest

theorem salvoApplied (slot : Nat) : o.FramesKept (d.salvoApplied slot) := ite h.setXp h.setXp.wr.wr.setXp.add

theorem applyPend (c : Nat) (p : Pend) : o.FramesKept (d.applyPend c p) := by
  unfold Dev.applyPend
  -- stage by stage; each is forgotten but for what it keeps
  extract_lets +onlyGivenNames n prev inserted untimed d1 d2 d3 d4
  have h1 : o.FramesKept d1 := h.setXp
  have h2 : o.FramesKept d2 := h1.setSource ..
  clear_value d2
  have h4 : o.FramesKept d4 := h2.flag.flag.wr.wr.flag
  clear_value d4 prev inserted untimed
  extract_lets +onlyGivenNames same next d5 d6 d7
  have h5 : o.FramesKept d5 := ite h4.setFlow h4
  have h6 : o.FramesKept d6 := ite h5.setFlow.setTx h5
  have h7 : o.FramesKept d7 := ite h6 h6.flag.flag
  clear_value d7 next
  extract_lets +onlyGivenNames d8 d9 d10
  have h8 : o.FramesKept d8 := by
    simp only [d8]
    split
    · exact ite h7.flag.wr h7
    · exact h7
  have h9 : o.FramesKept d9 := h8.flag.setFlow
  have h10 : o.FramesKept d10 := ite h9.setFlow (ite h9 (h9.enterSafe ..))
  clear_value d10
  extract_lets +onlyGivenNames d11 d12 d13 d14 d15 d16 d17 d18 d19
  have h12 : o.FramesKept d12 := ite (txSafe h10.setFlow ..) h10.setFlow
  have h13 : o.FramesKept d13 := ite (h12.sat.showUntimed ..).raise (h10.showUntimed ..)
  have h14 : o.FramesKept d14 := h13.add
  clear_value d14
  have h15 : o.FramesKept d15 := by
    simp only [d15]
    split
    · exact ite h14 (h14.freeTile _)
    · exact h14
  clear_value d15
  have h16 : o.FramesKept d16 := by
    simp only [d16]
    split
    · exact h15.showDest _
    · exact h15
  have h17 : o.FramesKept d17 := by
    simp only [d17]
    split
    · exact ite h16 (h16.flowUse _)
    · exact h16
  clear_value d17
  have h19 : o.FramesKept d19 := ((((h17.layerApply ..).audioApply ..).showPend c).leaveSafe c).report
  split
  · exact h19.salvoApplied _
  · exact h19

theorem applyDue (c : Nat) : o.FramesKept (d.applyDue c) := by
  unfold Dev.applyDue
  split
  · exact h
  case h_2 p _ =>
    refine ite h (ite (h.holdDoubt c) ?_)
    have htaken := h.takeUp c p
    dsimp only
    split
    · exact ite (htaken.applyPend ..) htaken
    · exact htaken

/-! ## The boundary itself (R149, R351, R353) -/

theorem embedFrame (c : Nat) : o.FramesKept (d.embedFrame c) := by
  unfold Dev.embedFrame
  refine ite (h.wr.embedStop _) (ite h.wr ?_)
  dsimp only
  split
  · exact h.wr.setAudio
  · exact ite h.wr.setAudio h.wr.sat.sat.raise.setAudio

theorem boundaryKerf (c : Nat) : o.FramesKept (d.boundaryKerf c) := by
  unfold Dev.boundaryKerf
  split
  · exact h
  · extract_lets off ok d1 d2
    clear_value off ok
    have h1 : o.FramesKept d1 := by
      simp only [d1]
      split
      · exact h.each fun _ _ h => h.wr
      · exact h
    clear_value d1
    refine ite (h1.showUntimed c false).setFlow.setFlow (ite ?_ (h1.showUntimed c true))
    exact (((h1.enterSafe ..).showUntimed c true).each fun _ _ h => h.sat).raise

end

end Dev.FramesKept

/-- At its boundary an SDI output notes it and takes up its committed delay; what else it does there leaves both. -/
theorem Dev.framesKept_sdiBoundary (d : Dev) (c at_ : Nat) (shown : List Nat) :
    (d.setFlow c (fun x => { x with boundary := some at_, oldDelay := none })).FramesKept (d.sdiBoundary c at_ shown) := by
  unfold Dev.sdiBoundary
  extract_lets source served d1 d2 d3 d4 d5
  have h3 : d1.FramesKept d3 := (((Dev.FramesKept.refl d1).setTx.embedFrame c).insertAgain c).insertLate c
  have h4 : d1.FramesKept d4 := .ite (h3.boundaryKerf c) h3.setFlow
  have h5 : d1.FramesKept d5 := (h4.applyDue c).leaveSafe c
  exact h5.turnFrame ..

end Sys2Proof.Machine
end

section
/-! Obligations of 05_sdi_ports.md: receive lanes lock, are judged, freeze and resume, outputs reach their frame boundaries, and a held frame
expires (R73, R136 to R139, R153). -/

namespace Sys2Proof.Machine

open Sys2Proof

-- Proofs one after another, as in the lemmas on what the take engine tells: for the memory of the check.
set_option Elab.async false

/-! ## What judging a receive port leaves alone -/

/-- The fields that tell how a receive lane stands, but for what only the judging of its identifier and of its group writes, and the number of
a run's next cell. -/
def portFields : List Fld :=
  [D.SdiRxStatus.LOCKED, D.SdiRxStatus.RATE, D.SdiRxStatus.DETECTED_FORMAT, D.SdiRxStatus.PID_PRESENT, D.SdiRxStatus.PID_MISMATCH,
    D.SdiRxCounters.LOCK_LOSSES, D.SdiRxCounters.FORMAT_CHANGES, D.Flow.SEQ_NEXT]

/-- Does a field lie apart from all of them? -/
def Fld.offPorts (f : Fld) : Bool := portFields.all (fun g => Fld.apart f g)

/-- What one device tells of its receive ports stands in another, with every fault that waits to be latched. -/
structure Dev.PortsKept (o d : Dev) : Prop where
  rd : ∀ g ∈ portFields, ∀ m, d.rd g m = o.rd g m
  raised : ∀ r ∈ o.raised, r ∈ d.raised

namespace Dev.PortsKept

theorem refl (d : Dev) : d.PortsKept d := ⟨fun _ _ _ => rfl, fun _ h => h⟩

section
variable {o d : Dev} (h : o.PortsKept d)
include h

/-- An update beside the dictionary and the faults. -/
theorem other {e : Dev} (hdict : e.dict = d.dict := by rfl) (hraised : e.raised = d.raised := by rfl) : o.PortsKept e :=
  ⟨fun g hg m => (Dev.rd_congr hdict g m).trans (h.rd g hg m), fun r hr => hraised ▸ h.raised r hr⟩

theorem setFlow {c : Nat} {f : FlowSt → FlowSt} : o.PortsKept (d.setFlow c f) := h.other
theorem setRx {l : Nat} {f : SdiRxSt → SdiRxSt} : o.PortsKept (d.setRx l f) := h.other
theorem setRef {r : Nat} {f : RefSt → RefSt} : o.PortsKept (d.setRef r f) := h.other
theorem setDpll {k : Nat} {f : DpllSt → DpllSt} : o.PortsKept (d.setDpll k f) := h.other
theorem phy {y : PhySt} : o.PortsKept { d with phy := y } := h.other
theorem deembedStop {l : Nat} : o.PortsKept (d.deembedStop l) := h.other
theorem drawn : o.PortsKept d.drawn := h.other
theorem endCond {src inst : Nat} : o.PortsKept (d.endCond src inst) := h.other

theorem raise {src inst : Nat} : o.PortsKept (d.raise src inst) := ⟨h.rd, fun r hr => List.mem_append_left _ (h.raised r hr)⟩
theorem raiseL {src inst : Nat} : o.PortsKept (d.raiseL src inst) := ⟨h.rd, fun r hr => List.mem_append_left _ (h.raised r hr)⟩

theorem wr {f : Fld} {n v : Nat} (hf : Fld.offPorts f = true := by decide) : o.PortsKept (d.wr f n v) :=
  ⟨fun g hg m => (Dev.rd_wr_apart d f g n m v (List.all_eq_true.1 hf g hg)).trans (h.rd g hg m), h.raised⟩

theorem wrI {f : Fld} {n : Nat} {i : Int} (hf : Fld.offPorts f = true := by decide) : o.PortsKept (d.wrI f n i) := h.wr hf
theorem flag {f : Fld} {n : Nat} {b : Bool} (hf : Fld.offPorts f = true := by decide) : o.PortsKept (d.flag f n b) := h.wr hf
theorem sat {f : Fld} {n k : Nat} (hf : Fld.offPorts f = true := by decide) : o.PortsKept (d.sat f n k) := h.wr hf

theorem ite {p : Prop} [Decidable p] {e : Dev} (k : o.PortsKept e) : o.PortsKept (if p then d else e) := by
  split <;> assumption

theorem each {l : List Nat} {f : Dev → Nat → Dev} (hf : ∀ d n, o.PortsKept d → o.PortsKept (f d n)) : o.PortsKept (d.each l f) := by
  unfold Dev.each
  induction l generalizing d with
  | nil => exact h
  | cons n t ih => exact ih (hf d n h)

/-! ### Receive ports (R136 to R139, R145, R238) -/

theorem sdiErrors (l : Nat) : o.PortsKept (d.sdiErrors l) := by
  unfold Dev.sdiErrors
  extract_lets d1 d2 d3 d4 d5
  have h3 : o.PortsKept d3 := .ite h h.drawn.sat.drawn.sat.drawn.sat
  exact h.ite h3.drawn.sat.drawn.sat.drawn.sat

theorem scanAbort (l : Nat) : o.PortsKept (d.scanAbort l) := ite (wr h.phy) h

theorem showMatch (l : Nat) : o.PortsKept (d.showMatch l) := by
  unfold Dev.showMatch
  exact h.ite (ite h.setRx.raiseL h.setRx.endCond)

theorem freezeIf (c : Nat) : o.PortsKept (d.freezeIf c) := by
  unfold Dev.freezeIf
  extract_lets d1
  have h1 : o.PortsKept d1 := ite (h.each fun _ l h => h.showMatch l) h
  exact ite h1.flag.flag.flag.setFlow h1

theorem laneChanged (l : Nat) : o.PortsKept (d.laneChanged l) := by
  unfold Dev.laneChanged
  split
  · exact h.freezeIf _
  · exact h

theorem showSkew (c : Nat) (arrivals : List Nat) : o.PortsKept (d.showSkew c arrivals) := by
  unfold Dev.showSkew
  extract_lets lanes skew locked ok d1
  have h1 : o.PortsKept d1 := h.wr.each fun _ _ h => h.flag
  exact ite (h.each fun _ _ h => h.flag) (ite h1.setRx (ite h1.raise h1))

/-! ### The lane as a reference (R391, R396 to R399) -/

theorem dpllTo (k st : Nat) : o.PortsKept (d.dpllTo k st) := h.setDpll.wr.flag.flag.wr

theorem dpllSwitch (k r : Nat) (raise : Bool) : o.PortsKept (d.dpllSwitch k r raise) :=
  have hto := (wr (h.dpllTo k DpllState.SWITCHING)).setDpll
  ite hto.raise hto

theorem dpllHold (k : Nat) : o.PortsKept (d.dpllHold k) := ite (h.dpllTo ..).wr.raise (h.dpllTo ..).wr.raise.sat.setDpll

theorem dpllPull (k r : Nat) : o.PortsKept (d.dpllPull k r) := by
  unfold Dev.dpllPull
  have hto : o.PortsKept (((d.dpllTo k DpllState.LOCKING).wr D.DpllStatus.CURRENT k r).wrI D.DpllStatus.BUILDOUT_NS k 0) :=
    (h.dpllTo ..).wr.wrI
  exact ite hto.setDpll hto.setDpll.drawn

theorem dpllReselect (k : Nat) : o.PortsKept (d.dpllReselect k) := by
  have hswitch : ∀ r raise, o.PortsKept (d.dpllSwitch k r raise) := fun _ _ => h.dpllSwitch ..
  have hhold := h.dpllHold k
  have hpull : ∀ r, o.PortsKept (d.dpllPull k r) := fun _ => h.dpllPull ..
  unfold Dev.dpllReselect
  extract_lets st sel cur
  cases sel with
  | none => exact ite h (ite h (ite (ite h hhold) (ite (ite hhold (ite h (ite h h))) h)))
  | some r =>
    have hother : o.PortsKept (if r = cur then d else d.dpllSwitch k r true) := ite h (hswitch ..)
    exact ite (hpull r) (ite (hswitch ..) (ite (ite h (hswitch ..)) (ite (ite (hswitch ..) (ite hother (ite hother h))) h)))

theorem refDown (r cause : Nat) : o.PortsKept (d.refDown r cause) := h.wr.wr.flag.raise

theorem disqualify (r cause : Nat) : o.PortsKept (d.disqualify r cause) := by
  unfold Dev.disqualify
  exact each (ite ((h.refDown ..).each fun _ _ h => h.refDown ..) (h.refDown ..)) fun _ k h => h.dpllReselect k

theorem refFails (r cause : Nat) : o.PortsKept (d.refFails r cause) := ite (h.disqualify ..) (ite h.wr h)

theorem refHalt (r : Nat) : o.PortsKept (d.refHalt r) := by
  unfold Dev.refHalt
  exact h.ite (ite (disqualify h.flag.setRef.flag.raise ..) (refFails h.flag.setRef ..))

end

end Dev.PortsKept

/-! ## What the commands read is not changed by time that passes -/

section
variable (d : Dev) (dt : Nat)

@[simp] theorem Dev.rxCfgLane_elapse (lane : Nat) : (d.elapse dt).rxCfgLane lane = d.rxCfgLane lane := (rfl)
@[simp] theorem Dev.rxSt_elapse (lane : Nat) : (d.elapse dt).rxSt lane = d.rxSt lane := (rfl)
@[simp] theorem Dev.sdiCtx_elapse (k lane : Nat) : (d.elapse dt).sdiCtx k lane = d.sdiCtx k lane := (rfl)
@[simp] theorem Dev.lanes_elapse (c : Nat) : (d.elapse dt).lanes c = d.lanes c := (rfl)
@[simp] theorem Dev.derived_elapse (lane raster rate : Nat) (pid : Option (Nat × Nat)) :
    (d.elapse dt).derived lane raster rate pid = d.derived lane raster rate pid := (rfl)
@[simp] theorem Dev.kind_elapse (c : Nat) : (d.elapse dt).kind c = d.kind c := (rfl)
@[simp] theorem Dev.running_elapse (c : Nat) : (d.elapse dt).running c = d.running c := (rfl)
@[simp] theorem Dev.flowSt_elapse (c : Nat) : (d.elapse dt).flowSt c = d.flowSt c := (rfl)
@[simp] theorem Dev.isSafe_elapse (c : Nat) : (d.elapse dt).isSafe c = d.isSafe c := (rfl)
@[simp] theorem Dev.safeHold_elapse (c : Nat) : (d.elapse dt).safeHold c = d.safeHold c := (rfl)
@[simp] theorem Dev.holdMax_elapse (c : Nat) : (d.elapse dt).holdMax c = d.holdMax c := (rfl)

end

/-! ## Reading past the updates of ports and outputs -/

/-- A loop whose body leaves a value alone leaves it alone. -/
theorem Dev.each_eq {α : Type} (φ : Dev → α) {f : Dev → Nat → Dev} (hf : ∀ d n, φ (f d n) = φ d) (d : Dev) (l : List Nat) :
    φ (d.each l f) = φ d := by
  unfold Dev.each
  induction l generalizing d with
  | nil => rfl
  | cons n t ih => rw [List.foldl_cons, ih, hf]

section
variable (d : Dev) (c : Nat)

/-- A measurement of a group leaves what the contexts hold. -/
theorem Dev.flow_showSkew (arrivals : List Nat) : (d.showSkew c arrivals).flow = d.flow := by
  have hflag : ∀ (d : Dev) (b : Bool) (l : List Nat), (d.each l (fun d n => d.flag D.SdiRxStatus.GROUP_ALIGNED n b)).flow = d.flow :=
    fun d b => Dev.each_eq Dev.flow (fun d n => Dev.wr_flow ..) d
  have hrx : ∀ (d : Dev) l f, (d.setRx l f).flow = d.flow := fun _ _ _ => rfl
  unfold Dev.showSkew
  extract_lets lanes skew locked ok d1
  have h1 : d1.flow = d.flow := (hflag ..).trans (Dev.wr_flow ..)
  split
  · exact hflag ..
  · split
    · exact (hrx ..).trans h1
    · split
      · exact (Dev.raise_flow ..).trans h1
      · exact h1

theorem Dev.flowSt_showSkew (arrivals : List Nat) (k : Nat) : (d.showSkew c arrivals).flowSt k = d.flowSt k := by
  rw [Dev.flowSt, Dev.flow_showSkew, Dev.flowSt]

/-- The end of a network output's frame leaves device time. -/
theorem Dev.now_frameEnd (armed : Bool) : (d.frameEnd c armed).now = d.now := by
  have hflag : ∀ (d : Dev) f n b, f = D.SdiTxStatus.HOLD_READY ∨ f = D.NetTxStatus.HOLD_READY → (d.flag f n b).now = d.now := by
    rintro d f n b (rfl | rfl) <;> exact Dev.now_wr _ _ _ _ (by decide)
  have hready : ∀ d : Dev, (d.setHoldReady c true).now = d.now := fun d => by
    unfold Dev.setHoldReady
    split
    · exact Dev.each_eq Dev.now (fun d l => hflag d _ l true (.inl rfl)) d _
    · exact hflag d _ _ _ (.inr rfl)
  have htx : ∀ (d : Dev) f, (d.setTx c f).now = d.now := fun _ _ => rfl
  have hnet : ∀ (d : Dev) y, ({ d with netTx := y } : Dev).now = d.now := fun _ _ => rfl
  unfold Dev.frameEnd
  extract_lets x clean unfit d1 n d2
  have h2 : d2.now = d.now := by
    simp only [d2]
    split
    · exact (hnet ..).trans (htx ..)
    · exact htx ..
  split
  · exact (hready d2).trans h2
  · exact h2

theorem Dev.hold_setSafeHold (b : Bool) : (d.setSafeHold c b).hold = d.hold := by
  unfold Dev.setSafeHold
  split
  · exact Dev.each_eq Dev.hold (fun _ _ => Dev.wr_hold ..) d _
  · split
    · exact Dev.wr_hold ..
    · rfl

theorem Dev.hold_holdEmpty : (d.holdEmpty c).hold = d.hold := by
  unfold Dev.holdEmpty
  split <;> exact Dev.raise_hold ..

end

/-! ## What a lane, a port and an output show at a command's end -/

/-- A lane that loses lock (R137, R138): what it shows and counts, and the fault it raises. -/
def Dev.lockLost (d : Dev) (lane : Nat) : Dev :=
  let d := ((d.flag D.SdiRxStatus.LOCKED lane false).flag D.SdiRxStatus.TRS_OK lane false).wr D.SdiRxStatus.RATE lane 0
  let d := ((d.flag D.SdiRxStatus.PID_PRESENT lane false).flag D.SdiRxStatus.PID_MISMATCH lane false).flag D.SdiRxStatus.GROUP_ALIGNED lane false
  let d := (d.undetect lane).setRx lane (fun x => { x with changedAt := none })
  (d.sat D.SdiRxCounters.LOCK_LOSSES lane 1).raise Src.SDI_RX_LOCK_LOST lane

/-- A lane whose format has been measured (R138): the result and its identifier. -/
def Dev.formatShown (d : Dev) (lane f : Nat) (pid : Option (Nat × Nat)) : Dev :=
  let d := (d.wr D.SdiRxStatus.DETECTED_FORMAT lane f).flag D.SdiRxStatus.PID_PRESENT lane pid.isSome
  match pid with
  | some p => (d.wr D.SdiRxStatus.PID lane p.1).flag D.SdiRxStatus.PID_MISMATCH lane (p.2 % 65536 / 256 != f / 256)
  | none => d.flag D.SdiRxStatus.PID_MISMATCH lane false

/-- A run goes on (R139): its source is there again, from the number that is next. -/
def Dev.resumed (d : Dev) (c : Nat) : Dev :=
  let d := (d.flag D.FlowStatus.FROZEN c false).flag D.FlowStatus.SOURCE_LOST c false
  d.setFlow c (fun x => { x with base := some (d.rd D.Flow.SEQ_NEXT c) })

section
variable (d : Dev) (lane : Nat)

theorem Dev.on_lockLost : (d.lockLost lane).on D.SdiRxStatus.LOCKED lane = false := by
  unfold Dev.lockLost Dev.undetect
  simp (disch := decide) only [Dev.on, Dev.rd_raise, Dev.rd_setRx, Dev.rd_sat_apart, Dev.rd_wr_apart, Dev.rd_flag_apart]
  exact Dev.on_flag_same _ _ _ _ rfl

theorem Dev.rd_lockLost_rate : (d.lockLost lane).rd D.SdiRxStatus.RATE lane = 0 := by
  unfold Dev.lockLost Dev.undetect
  simp (disch := decide) only [Dev.rd_raise, Dev.rd_setRx, Dev.rd_sat_apart, Dev.rd_wr_apart, Dev.rd_flag_apart, Dev.rd_wr_same, Nat.zero_mod]

theorem Dev.rd_lockLost_format : (d.lockLost lane).rd D.SdiRxStatus.DETECTED_FORMAT lane = 0 := by
  unfold Dev.lockLost Dev.undetect
  simp (disch := decide) only [Dev.rd_raise, Dev.rd_setRx, Dev.rd_sat_apart, Dev.rd_wr_same, Nat.zero_mod]

theorem Dev.rd_lockLost_losses :
    (d.lockLost lane).rd D.SdiRxCounters.LOCK_LOSSES lane = min (d.rd D.SdiRxCounters.LOCK_LOSSES lane + 1) (2 ^ 32 - 1) := by
  unfold Dev.lockLost Dev.undetect
  simp (disch := decide) only [Dev.rd_raise, Dev.rd_sat_same, Dev.rd_setRx, Dev.rd_wr_apart, Dev.rd_flag_apart]
  rfl

theorem Dev.raised_lockLost : ⟨Src.SDI_RX_LOCK_LOST, lane, false⟩ ∈ (d.lockLost lane).raised := Dev.mem_raised_raise ..

theorem Dev.rd_formatShown (f : Nat) (pid : Option (Nat × Nat)) :
    (d.formatShown lane f pid).rd D.SdiRxStatus.DETECTED_FORMAT lane = f % 2 ^ 16 := by
  cases pid <;>
    simp (disch := decide) only [Dev.formatShown, Dev.rd_flag_apart, Dev.rd_wr_apart, Dev.rd_wr_same, D.SdiRxStatus.DETECTED_FORMAT]

theorem Dev.on_formatShown (f : Nat) (pid : Option (Nat × Nat)) :
    (d.formatShown lane f pid).on D.SdiRxStatus.PID_PRESENT lane = pid.isSome := by
  cases pid <;> simp (disch := decide) only [Dev.formatShown, Dev.on, Dev.rd_flag_apart, Dev.rd_wr_apart] <;> exact Dev.on_flag_same _ _ _ _ rfl

end

section
variable (d : Dev) (c : Nat)

theorem Dev.on_resumed_frozen : (d.resumed c).on D.FlowStatus.FROZEN c = false := by
  unfold Dev.resumed
  rw [Dev.on, Dev.rd_setFlow, Dev.rd_flag_apart _ _ _ _ _ _ (by decide)]
  exact Dev.on_flag_same _ _ _ _ rfl

theorem Dev.on_resumed_sourceLost : (d.resumed c).on D.FlowStatus.SOURCE_LOST c = false := by
  unfold Dev.resumed
  rw [Dev.on, Dev.rd_setFlow]
  exact Dev.on_flag_same _ _ _ _ rfl

theorem Dev.base_resumed : ((d.resumed c).flowSt c).base = some (d.rd D.Flow.SEQ_NEXT c) := by
  simp (disch := decide) only [Dev.resumed, Dev.flowSt_setFlow_same, Dev.rd_flag_apart]

end

/-! ## Receive: the commands -/

section
variable {s : State} (dt : Nat) (hserve : s.dev.serving = true)
include hserve

section
variable {lane : Nat} (hlane : lane < 128)
include hlane

theorem exec_sdiRxLock {rate : Nat} (hlow : 1 ≤ rate) (hhigh : rate ≤ 9)
    (hcode : s.dev.rd D.SdiRxCfg.RATE_CODE (s.dev.rxCfgLane lane) = 0 ∨ s.dev.rd D.SdiRxCfg.RATE_CODE (s.dev.rxCfgLane lane) = rate)
    (hlocked : s.dev.on D.SdiRxStatus.LOCKED lane = false) :
    ∃ f, exec (.sdiRxLock dt lane rate) s = .next { s with
      dev := ((((s.dev.elapse dt).flag D.SdiRxStatus.LOCKED lane true).flag D.SdiRxStatus.TRS_OK lane true).wr D.SdiRxStatus.RATE lane
        rate).setRx lane f } := by
  have hin : ¬(128 ≤ lane ∨ rate = 0 ∨ 9 < rate ∨ (s.dev.rd D.SdiRxCfg.RATE_CODE (s.dev.rxCfgLane lane) ≠ 0 ∧
      s.dev.rd D.SdiRxCfg.RATE_CODE (s.dev.rxCfgLane lane) ≠ rate) ∨ false = true) := by simp; omega
  simp only [exec, execSdiRxLock, State.act, Dev.live_serving _ _ _ hserve, Dev.rxCfgLane_elapse, Dev.rd_elapse, Dev.on_elapse, hlocked, if_neg hin]
  exact ⟨_, rfl⟩

/-- SDI_PID_ABSENT shows that the identifier is not there; its port is judged anew. -/
theorem exec_sdiPidAbsent :
    ∃ e : Dev, exec (.sdiPidAbsent dt lane) s = .next { s with dev := e } ∧
      (((s.dev.elapse dt).flag D.SdiRxStatus.PID_PRESENT lane false).flag D.SdiRxStatus.PID_MISMATCH lane false).PortsKept e := by
  have hin : ¬128 ≤ lane := by omega
  simp only [exec, execSdiPidAbsent, State.act, Dev.live_serving _ _ _ hserve, if_neg hin]
  exact ⟨_, rfl, (Dev.PortsKept.refl _).laneChanged lane⟩

section
variable (hlocked : s.dev.on D.SdiRxStatus.LOCKED lane = true)
include hlocked

theorem exec_sdiRxLockLost : ∃ e : Dev, exec (.sdiRxLockLost dt lane) s = .next { s with dev := e } ∧
    (((s.dev.elapse dt).sdiErrors lane).lockLost lane).PortsKept e := by
  have hin : ¬(128 ≤ lane ∨ (!true) = true) := by simp; omega
  simp only [exec, execSdiRxLockLost, State.act, Dev.live_serving _ _ _ hserve, Dev.on_elapse, hlocked, if_neg hin]
  exact ⟨_, rfl, ((((Dev.PortsKept.refl _).scanAbort lane).laneChanged lane).deembedStop).refHalt _⟩

theorem exec_sdiRxFormatChange : ∃ e : Dev, exec (.sdiRxFormatChange dt lane) s = .next { s with dev := e } ∧
    (((s.dev.elapse dt).sat D.SdiRxCounters.FORMAT_CHANGES lane 1).undetect lane).PortsKept e := by
  have hin : ¬(128 ≤ lane ∨ (!true) = true) := by simp; omega
  simp only [exec, execSdiRxFormatChange, State.act, Dev.live_serving _ _ _ hserve, Dev.on_elapse, hlocked, if_neg hin]
  exact ⟨_, rfl, (Dev.PortsKept.refl _).setRx.laneChanged lane⟩

/-- Two frames after the lock or the change, the result is written; the lane's group is measured, and its port judged. -/
theorem exec_sdiFormatDetected {raster rate ltc t0 : Nat} (arrivals : List Nat) (pid : Option (Nat × Nat)) (hraster : 1 ≤ raster ∧ raster ≤ 8)
    (hrate : 1 ≤ rate ∧ rate ≤ 8) (hchanged : (s.dev.rxSt lane).changedAt = some t0)
    (hpast : 2 * Fmt.period1001 ≤ (s.dev.wall + dt - t0) * Fmt.fps1001 rate) :
    ∃ e : Dev, exec (.sdiFormatDetected dt lane raster rate arrivals ltc pid) s = .next { s with dev := e } ∧
      ((s.dev.elapse dt).formatShown lane (s.dev.derived lane raster rate pid) pid).PortsKept e := by
  have hwall : (s.dev.elapse dt).wall = s.dev.wall + dt := rfl
  have hin : ¬(128 ≤ lane ∨ (!true) = true ∨ rate = 0 ∨ 8 < rate ∨ raster = 0 ∨ 8 < raster
      ∨ (s.dev.wall + dt - t0) * Fmt.fps1001 rate < 2 * Fmt.period1001) := by
    simp only [Bool.not_true, Bool.false_eq_true, false_or]
    omega
  simp only [exec, execSdiFormatDetected, State.act, Dev.live_serving _ _ _ hserve, Dev.rxSt_elapse, hchanged, Dev.on_elapse, hlocked, hwall,
    if_neg hin, Dev.derived_elapse]
  have hkept : ∀ q f, ((s.dev.elapse dt).formatShown lane f q).PortsKept ((((s.dev.elapse dt).formatShown lane f q).wr D.SdiRxStatus.ATC_LTC
      lane (ltcShown ltc)).setRx lane (fun x => { x with changedAt := none })) := fun _ _ => (Dev.PortsKept.refl _).wr.setRx
  refine ⟨_, rfl, ?_⟩
  cases pid with
  | none =>
    have hshown := hkept none (s.dev.derived lane raster rate none)
    split
    · exact hshown
    · exact (hshown.showSkew ..).freezeIf _
  | some p =>
    have hshown := hkept (some p) (s.dev.derived lane raster rate (some p))
    split
    · exact hshown
    · exact (hshown.showSkew ..).freezeIf _

end

end

theorem exec_sdiPortResume {ctx first : Nat} {others : List Nat} (hc : ctx < 4096) (hkind : s.dev.kind ctx = 1) (hrun : s.dev.running ctx = true)
    (hbase : (s.dev.flowSt ctx).base = none) (hbegun : (s.dev.flowSt ctx).begun = true)
    (hready : ((s.dev.elapse dt).showSkew ctx (first :: others)).portReady ctx = true) :
    exec (.sdiPortResume dt ctx first others) s = .next { s with
      dev := ((s.dev.elapse dt).showSkew ctx (first :: others)).resumed ctx } := by
  have hin : ¬4096 ≤ ctx := by omega
  unfold Dev.resumed
  simp only [exec, execSdiPortResume, State.act, Dev.live_serving _ _ _ hserve, Dev.kind_elapse, Dev.running_elapse, Dev.flowSt_elapse,
    Dev.flowSt_showSkew, hkind, hrun, hbase, hbegun, hready, hin, Option.isSome_none, ne_eq, not_true_eq_false, Bool.not_true, Bool.false_eq_true,
    Bool.true_eq_false, or_self, if_false]

theorem exec_sdiGroupDeskewLost {lane skew c : Nat} (hctx : s.dev.sdiCtx 1 lane = some c) (hlanes : 2 ≤ (s.dev.lanes c).length)
    (hskew : 2000 < skew) (hlocked : s.dev.on D.SdiRxStatus.LOCKED lane = true) :
    ∃ d : Dev, exec (.sdiGroupDeskewLost dt lane skew) s = .next { s with
      dev := ((d.flag D.SdiRxStatus.GROUP_ALIGNED lane false).raise Src.SDI_GROUP_SKEW (s.dev.bindIx c)).freezeIf c } := by
  have hin : ¬((s.dev.lanes c).length < 2 ∨ skew ≤ 2000 ∨ (!true) = true) := by simp; omega
  have hbind : ∀ n v, (((s.dev.elapse dt).wr D.SdiRxStatus.GROUP_SKEW_NS n v).flag D.SdiRxStatus.GROUP_ALIGNED lane false).bindIx c
      = s.dev.bindIx c := fun n v => by
    rw [Dev.bindIx, Dev.rd_flag_apart _ _ _ _ _ _ (by decide), Dev.rd_wr_apart _ _ _ _ _ _ (by decide), Dev.rd_elapse, Dev.bindIx]
  simp only [exec, execSdiGroupDeskewLost, State.act, Dev.live_serving _ _ _ hserve, Dev.sdiCtx_elapse, hctx, Dev.lanes_elapse, Dev.on_elapse,
    hlocked, if_neg hin, hbind]
  exact ⟨_, rfl⟩

/-! ## Transmit: the commands -/

section
variable {ctx : Nat} (line lines : Nat) (hlow : 4096 ≤ ctx) (hhigh : ctx < 8192) (hrun : s.dev.running ctx = true)
include hlow hhigh hrun

theorem exec_sdiTxFrameBoundary_sdi {b : Nat} (hkind : s.dev.kind ctx = 0x41) (hnow : (s.dev.elapse dt).boundaryNow ctx = some b) :
    exec (.sdiTxFrameBoundary dt ctx line lines) s = .next { s with
      dev := (s.dev.elapse dt).sdiBoundary ctx b ((List.range lines).map (fun i => line + i)) } := by
  have hin : ¬(ctx < 4096 ∨ 8192 ≤ ctx ∨ (!true) = true) := by simp; omega
  simp only [exec, execSdiTxFrameBoundary, State.act, Dev.live_serving _ _ _ hserve, Dev.running_elapse, hrun, if_neg hin, Dev.kind_elapse, hkind,
    if_true, hnow]

/-- An ST 2022-6 output notes the present as its boundary and takes up its committed delay; what else it does there leaves both. -/
theorem exec_sdiTxFrameBoundary_net (hkind : s.dev.kind ctx = 0x47) (hdue : s.dev.isSafe ctx = false ∨ (s.dev.elapse dt).safeDue ctx = true) :
    ∃ d e : Dev, exec (.sdiTxFrameBoundary dt ctx line lines) s = .next { s with dev := e } ∧ (d.setFlow ctx (fun x =>
      { x with boundary := some (s.dev.elapse dt).now, oldDelay := none, waitTimed := false })).FramesKept e := by
  have hin : ¬(ctx < 4096 ∨ 8192 ≤ ctx ∨ (!true) = true) := by simp; omega
  have hsdi : ¬0x47 = 0x41 := by decide
  have hframe : ¬(s.dev.isSafe ctx && !(s.dev.elapse dt).safeDue ctx) = true := by obtain h | h := hdue <;> simp [h]
  simp only [exec, execSdiTxFrameBoundary, State.act, Dev.live_serving _ _ _ hserve, Dev.running_elapse, hrun, if_neg hin, Dev.kind_elapse, hkind,
    if_neg hsdi, Dev.isSafe_elapse, if_neg hframe, if_true, Dev.now_frameEnd]
  refine ⟨(s.dev.elapse dt).frameEnd ctx ((s.dev.elapse dt).armed ctx), _, rfl, ?_⟩
  have hleft := ((((Dev.FramesKept.refl (((s.dev.elapse dt).frameEnd ctx ((s.dev.elapse dt).armed ctx)).setFlow ctx (fun x =>
    { x with boundary := some (s.dev.elapse dt).now, oldDelay := none, waitTimed := false }))).insertAgain ctx).insertLate ctx).applyDue
      ctx).leaveSafe ctx
  exact .ite ((hleft.safeFrame ctx).txSafe ..) (hleft.sendFrame ..)

end

/-- A frame held for HOLD_MAX_S has expired; an ST 2110-22 output is then silent and tells so. -/
theorem exec_holdMaxExpiry {ctx t0 : Nat} (hsince : (nget s.dev.hold {} ctx).heldSince = some t0) (hnew : (nget s.dev.hold {} ctx).expired = false)
    (hsafe : s.dev.isSafe ctx = true) (hhold : s.dev.safeHold ctx = true) (hmax : s.dev.holdMax ctx ≠ 0)
    (hpast : (s.dev.elapse dt).past t0 (s.dev.holdMax ctx * 1000000000) = true) :
    ∃ e : Dev, exec (.holdMaxExpiry dt ctx) s = .next { s with dev := e } ∧
      e.hold = nput s.dev.hold {} ctx { nget s.dev.hold {} ctx with expired := true } := by
  simp only [exec, execHoldMaxExpiry, State.act, Dev.live_serving _ _ _ hserve, Dev.elapse_hold, hsince, hnew, Dev.isSafe_elapse, hsafe,
    Dev.safeHold_elapse, hhold, Dev.holdMax_elapse, hmax, hpast, Bool.not_true, Bool.false_eq_true, or_self, if_false]
  refine ⟨_, rfl, ?_⟩
  split
  · rw [Dev.hold_holdEmpty, Dev.hold_setSafeHold]
  · rfl

end

/-- Settles O22: each command as its equation above says it, and what the lane, the port or the output then shows. -/
theorem sdiPortsComplete : Obligations.SdiPortsComplete := by
  unfold Obligations.SdiPortsComplete
  refine ⟨fun s dt lane rate hserve hlane hlow hhigh hcode hlocked => ?_, fun s dt lane hserve hlane hlocked => ?_,
    fun s dt lane hserve hlane hlocked => ?_,
    fun s dt lane raster rate ltc t0 arrivals pid hserve hlane hlocked hlow hhigh hlow' hhigh' hchanged hpast => ?_,
    fun s dt ctx first others hserve hc hkind hrun hbase hbegun hready => ?_, fun s dt lane skew c hserve hctx hlanes hskew hlocked => ?_,
    fun s dt lane hserve hlane => ?_, fun s dt ctx line lines b hserve hlow hhigh hrun hkind _ _ _ hnow => ?_,
    fun s dt ctx line lines hserve hlow hhigh hrun hkind _ _ _ hdue => ?_, fun s dt ctx t0 hserve hsince hnew hsafe hhold hmax hpast => ?_⟩
  · obtain ⟨f, hexec⟩ := exec_sdiRxLock dt hserve hlane hlow hhigh hcode hlocked
    refine ⟨_, hexec, ?_, ?_⟩
    · rw [Dev.on, Dev.rd_setRx, Dev.rd_wr_apart _ _ _ _ _ _ (by decide), Dev.rd_flag_apart _ _ _ _ _ _ (by decide)]
      exact Dev.on_flag_same _ _ _ _ rfl
    · rw [Dev.rd_setRx, Dev.rd_wr_same]
      exact Nat.mod_eq_of_lt (Nat.lt_of_le_of_lt hhigh (by decide))
  · obtain ⟨e, hexec, hkept⟩ := exec_sdiRxLockLost dt hserve hlane hlocked
    have hbefore := (Dev.PortsKept.refl (s.dev.elapse dt)).sdiErrors lane
    refine ⟨_, hexec, ?_, ?_, ?_, ?_, List.contains_iff_mem.2 (hkept.raised _ (Dev.raised_lockLost ..))⟩
    · rw [Dev.on, hkept.rd _ (by decide), ← Dev.on, Dev.on_lockLost]
    · rw [hkept.rd _ (by decide), Dev.rd_lockLost_rate]
    · rw [hkept.rd _ (by decide), Dev.rd_lockLost_format]
    · rw [hkept.rd _ (by decide), Dev.rd_lockLost_losses, hbefore.rd _ (by decide), Dev.rd_elapse]
  · obtain ⟨e, hexec, hkept⟩ := exec_sdiRxFormatChange dt hserve hlane hlocked
    refine ⟨_, hexec, ?_, ?_⟩
    · rw [hkept.rd _ (by decide), Dev.undetect, Dev.rd_wr_same, Nat.zero_mod]
    · rw [hkept.rd _ (by decide), Dev.undetect, Dev.rd_wr_apart _ _ _ _ _ _ (by decide), Dev.rd_sat_same, Dev.rd_elapse]
      rfl
  · obtain ⟨e, hexec, hkept⟩ := exec_sdiFormatDetected (ltc := ltc) dt hserve hlane hlocked arrivals pid ⟨hlow, hhigh⟩ ⟨hlow', hhigh'⟩ hchanged hpast
    refine ⟨_, hexec, ?_, ?_⟩
    · rw [hkept.rd _ (by decide), Dev.rd_formatShown]
    · rw [Dev.on, hkept.rd _ (by decide), ← Dev.on, Dev.on_formatShown]
  · refine ⟨_, exec_sdiPortResume dt hserve hc hkind hrun hbase hbegun hready, Dev.on_resumed_frozen .., Dev.on_resumed_sourceLost .., ?_⟩
    rw [Dev.base_resumed, ((Dev.PortsKept.refl _).showSkew ..).rd _ (by decide), Dev.rd_elapse]
  · obtain ⟨d, hexec⟩ := exec_sdiGroupDeskewLost dt hserve hctx hlanes hskew hlocked
    refine ⟨_, hexec, ?_, List.contains_iff_mem.2 (((Dev.PortsKept.refl _).freezeIf c).raised _ (Dev.mem_raised_raise ..))⟩
    rw [Dev.on, Dev.rd_freezeIf _ _ _ (by decide), Dev.rd_raise]
    exact Dev.on_flag_same _ _ _ _ rfl
  · obtain ⟨e, hexec, hkept⟩ := exec_sdiPidAbsent dt hserve hlane
    refine ⟨_, hexec, ?_, ?_⟩
    · rw [Dev.on, hkept.rd _ (by decide), Dev.rd_flag_apart _ _ _ _ _ _ (by decide)]
      exact Dev.on_flag_same _ _ _ _ rfl
    · rw [Dev.on, hkept.rd _ (by decide)]
      exact Dev.on_flag_same _ _ _ _ rfl
  · have hkept := (s.dev.elapse dt).framesKept_sdiBoundary ctx b ((List.range lines).map (fun i => line + i))
    refine ⟨_, exec_sdiTxFrameBoundary_sdi dt hserve line lines hlow hhigh hrun hkind hnow, ?_, ?_⟩
    · rw [hkept.boundary, Dev.flowSt_setFlow_same]
    · rw [hkept.delay, Dev.flowSt_setFlow_same]
  · obtain ⟨d, e, hexec, hkept⟩ := exec_sdiTxFrameBoundary_net dt hserve line lines hlow hhigh hrun hkind hdue
    refine ⟨_, hexec, ?_, ?_⟩
    · rw [hkept.boundary, Dev.flowSt_setFlow_same]
    · rw [hkept.delay, Dev.flowSt_setFlow_same]
  · obtain ⟨e, hexec, hhold'⟩ := exec_holdMaxExpiry dt hserve hsince hnew hsafe hhold hmax hpast
    refine ⟨_, hexec, ?_⟩
    show (nget e.hold {} ctx).expired = true
    rw [hhold', nget_nput_same]

end Sys2Proof.Machine
end

section
/-! Obligations of 06_network_ports.md: the link of a network port comes and goes, a spare takes a failed lane's place, training fails (R158,
R160 to R162, R240). -/

namespace Sys2Proof.Machine

open Sys2Proof

/-! ## What the commands read is not changed by time that passes -/

section
variable (d : Dev) (dt : Nat)

@[simp] theorem Dev.portUp_elapse (p : Nat) : (d.elapse dt).portUp p = d.portUp p := (rfl)
@[simp] theorem Dev.spareFailed_elapse (p : Nat) : (d.elapse dt).spareFailed p = d.spareFailed p := (rfl)
@[simp] theorem Dev.spareOf_elapse (lane : Nat) : (d.elapse dt).spareOf lane = d.spareOf lane := (rfl)
@[simp] theorem Dev.portOfLane_elapse (lane : Nat) : (d.elapse dt).portOfLane lane = d.portOfLane lane := (rfl)

end

/-! ## What the parts of a link's loss and of a remap leave -/

section
variable (d : Dev) {g : Fld} (m : Nat)

theorem Dev.rd_noLegs (hlost : Fld.apart D.FlowStatus.SOURCE_LOST g = true) (hemit : Fld.apart D.FlowStatus.EMITTING g = true) :
    d.noLegs.rd g m = d.rd g m :=
  Dev.rd_each _ _ _ _ _ fun _ _ => (Dev.rd_flag_apart _ _ _ _ _ _ hemit).trans (Dev.rd_flag_apart _ _ _ _ _ _ hlost)

theorem Dev.rd_scanAbort (lane : Nat) (hscan : Fld.apart D.Margin.SCAN_STATE g = true) : (d.scanAbort lane).rd g m = d.rd g m := by
  have hphy : ∀ (x : Dev) (y : PhySt), ({ x with phy := y } : Dev).rd g m = x.rd g m := fun _ _ => rfl
  unfold Dev.scanAbort
  exact Dev.rd_ite g m ((Dev.rd_wr_apart _ _ _ _ _ _ hscan).trans (hphy ..)) rfl

theorem Dev.rd_fecErrors (p : Nat) (hcorr : Fld.apart D.PortCounters.FEC_CORRECTED g = true)
    (huncorr : Fld.apart D.PortCounters.FEC_UNCORRECTED g = true) : (d.fecErrors p).rd g m = d.rd g m := by
  unfold Dev.fecErrors
  refine Dev.rd_ite g m rfl ?_
  rw [Dev.rd_sat_apart _ _ _ _ _ _ huncorr, Dev.rd_drawn, Dev.rd_sat_apart _ _ _ _ _ _ hcorr, Dev.rd_drawn]

theorem Dev.rd_wake (need : Nat × Nat → Bool) (hstate : Fld.apart D.IslandStatus.STATE g = true)
    (hwakes : Fld.apart D.IslandStatus.WAKES g = true) : (d.wake need).rd g m = d.rd g m :=
  Dev.rd_foldl _ _ _ _ _ fun _ _ => (Dev.rd_sat_apart _ _ _ _ _ _ hwakes).trans (Dev.rd_wr_apart _ _ _ _ _ _ hstate)

theorem Dev.rd_knotAdd (kind action inst spare cause detail : Nat) (hfull : Fld.apart D.KnotStatus.FULL g = true) :
    (d.knotAdd kind action inst spare cause detail).rd g m = d.rd g m :=
  Dev.rd_ite g m (Dev.rd_flag_apart _ _ _ _ _ _ hfull) rfl

end

theorem Dev.raised_noLegs (d : Dev) : d.noLegs.raised = d.raised :=
  Dev.each_eq Dev.raised (fun _ _ => (Dev.wr_raised ..).trans (Dev.wr_raised ..)) d _

theorem Dev.raised_scanAbort (d : Dev) (lane : Nat) : (d.scanAbort lane).raised = d.raised := by
  have hphy : ∀ (x : Dev) (y : PhySt), ({ x with phy := y } : Dev).raised = x.raised := fun _ _ => rfl
  unfold Dev.scanAbort
  split
  · exact (Dev.wr_raised ..).trans (hphy ..)
  · rfl

/-! ## A port leaves UP (R158) -/

/-- What the port itself shows of its link's loss, and the fault it raises. -/
def Dev.linkLost (d : Dev) (p : Nat) : Dev :=
  let d := (((d.fecErrors p).wr D.PortStatus.LINK p 1).flag D.PortStatus.PCS_ALIGNED p false).flag D.PortStatus.FEC_LOCKED p false
  (d.sat D.PortCounters.LINK_DOWNS p 1).raise Src.NET_LINK_DOWN p

/-- Does a field lie apart from what is written elsewhere: in the contexts left without a leg and in the lanes' margin scans? -/
def Fld.besideLoss (g : Fld) : Bool := [D.FlowStatus.SOURCE_LOST, D.FlowStatus.EMITTING, D.Margin.SCAN_STATE].all (fun f => Fld.apart f g)

/-- Does it lie apart from what the port shows too? -/
def Fld.offLoss (g : Fld) : Bool :=
  Fld.besideLoss g && [D.PortStatus.LINK, D.PortStatus.PCS_ALIGNED, D.PortStatus.FEC_LOCKED, D.PortCounters.LINK_DOWNS,
    D.PortCounters.FEC_CORRECTED, D.PortCounters.FEC_UNCORRECTED].all (fun f => Fld.apart f g)

section
variable (d : Dev) (p : Nat)

theorem Dev.rd_linkLost_link : (d.linkLost p).rd D.PortStatus.LINK p = 1 := by
  unfold Dev.linkLost
  simp (disch := decide) only [Dev.rd_raise, Dev.rd_sat_apart, Dev.rd_flag_apart, Dev.rd_wr_same]
  rfl

theorem Dev.on_linkLost_aligned : (d.linkLost p).on D.PortStatus.PCS_ALIGNED p = false := by
  unfold Dev.linkLost
  simp (disch := decide) only [Dev.on, Dev.rd_raise, Dev.rd_sat_apart, Dev.rd_flag_apart]
  exact Dev.on_flag_same _ _ _ _ rfl

theorem Dev.on_linkLost_fecLocked : (d.linkLost p).on D.PortStatus.FEC_LOCKED p = false := by
  unfold Dev.linkLost
  simp (disch := decide) only [Dev.on, Dev.rd_raise, Dev.rd_sat_apart]
  exact Dev.on_flag_same _ _ _ _ rfl

theorem Dev.rd_linkLost_downs :
    (d.linkLost p).rd D.PortCounters.LINK_DOWNS p = min (d.rd D.PortCounters.LINK_DOWNS p + 1) (2 ^ 64 - 1) := by
  unfold Dev.linkLost
  simp (disch := decide) only [Dev.rd_raise, Dev.rd_sat_same, Dev.rd_flag_apart, Dev.rd_wr_apart, Dev.rd_fecErrors]
  rfl

theorem Dev.rd_linkLost_of_off {g : Fld} (m : Nat) (hg : Fld.offLoss g = true) : (d.linkLost p).rd g m = d.rd g m := by
  simp only [Fld.offLoss, List.all_cons, List.all_nil, Bool.and_eq_true] at hg
  obtain ⟨-, hlink, haligned, hlocked, hdowns, hcorr, huncorr, -⟩ := hg
  rw [Dev.linkLost, Dev.rd_raise, Dev.rd_sat_apart _ _ _ _ _ _ hdowns, Dev.rd_flag_apart _ _ _ _ _ _ hlocked,
    Dev.rd_flag_apart _ _ _ _ _ _ haligned, Dev.rd_wr_apart _ _ _ _ _ _ hlink, Dev.rd_fecErrors _ _ _ hcorr huncorr]

theorem Dev.portDown_of_up (hup : d.portUp p = true) : ∃ l, d.portDown p = (d.linkLost p).noLegs.each l (fun d i => d.scanAbort (128 + p + i)) := by
  simp only [Dev.portDown, hup, Bool.not_true, Bool.false_eq_true, if_false]
  exact ⟨_, rfl⟩

theorem Dev.rd_portDown_of_up (hup : d.portUp p = true) {g : Fld} (m : Nat) (hg : Fld.besideLoss g = true) :
    (d.portDown p).rd g m = (d.linkLost p).rd g m := by
  simp only [Fld.besideLoss, List.all_cons, List.all_nil, Bool.and_eq_true] at hg
  obtain ⟨hlost, hemit, hscan, -⟩ := hg
  obtain ⟨l, hdown⟩ := d.portDown_of_up p hup
  rw [hdown, Dev.rd_each _ _ _ _ _ fun _ _ => Dev.rd_scanAbort _ _ _ hscan, Dev.rd_noLegs _ _ hlost hemit]

theorem Dev.raised_portDown_of_up (hup : d.portUp p = true) : (d.portDown p).raised = (d.linkLost p).raised := by
  obtain ⟨l, hdown⟩ := d.portDown_of_up p hup
  rw [hdown, Dev.each_eq Dev.raised (fun _ _ => Dev.raised_scanAbort ..), Dev.raised_noLegs]

theorem Dev.rd_portDown_of_off {g : Fld} (m : Nat) (hg : Fld.offLoss g = true) : (d.portDown p).rd g m = d.rd g m := by
  cases hup : d.portUp p with
  | false => rw [Dev.portDown, hup]; rfl
  | true => rw [Dev.rd_portDown_of_up d p hup m (Bool.and_eq_true_iff.1 hg).1, Dev.rd_linkLost_of_off d p m hg]

end

/-! ## A spare takes a lane's place (R161, R162) -/

section
variable (d : Dev) (lane : Nat)

/-- The port of a lane depends on the modes alone. -/
theorem Dev.portOfLane_congr {e : Dev} (h : ∀ p, e.rd D.PortCfg.MODE p = d.rd D.PortCfg.MODE p) : e.portOfLane lane = d.portOfLane lane := by
  simp only [Dev.portOfLane, h]

theorem Dev.rd_portTrains_link {p : Nat} (h : d.portOfLane lane = some p) : (d.portTrains lane).rd D.PortStatus.LINK p = 1 := by
  simp only [Dev.portTrains, h, Dev.rd_wr_same]
  rfl

theorem Dev.rd_portTrains_of_off {g : Fld} (m : Nat) (hg : Fld.offLoss g = true) : (d.portTrains lane).rd g m = d.rd g m := by
  have hlink : Fld.apart D.PortStatus.LINK g = true := by
    simp only [Fld.offLoss, List.all_cons, Bool.and_eq_true] at hg
    exact hg.2.1
  unfold Dev.portTrains
  split
  · rw [Dev.rd_wr_apart _ _ _ _ _ _ hlink, Dev.rd_portDown_of_off _ _ _ hg]
  · rfl

/-- What SPARE_STATUS then shows of the spare. -/
def Dev.spareTakes (d : Dev) (s lane : Nat) (auto : Bool) : Dev :=
  (((d.flag D.SpareStatus.IN_USE s true).flag D.SpareStatus.AUTO s auto).flag D.SpareStatus.FAILED s false).wr D.SpareStatus.LANE s lane

theorem Dev.on_spareTakes_inUse (s : Nat) (auto : Bool) : (d.spareTakes s lane auto).on D.SpareStatus.IN_USE s = true := by
  simp (disch := decide) only [Dev.spareTakes, Dev.on, Dev.rd_wr_apart, Dev.rd_flag_apart]
  exact Dev.on_flag_same _ _ _ _ rfl

theorem Dev.on_spareTakes_auto (s : Nat) (auto : Bool) : (d.spareTakes s lane auto).on D.SpareStatus.AUTO s = auto := by
  simp (disch := decide) only [Dev.spareTakes, Dev.on, Dev.rd_wr_apart, Dev.rd_flag_apart]
  exact Dev.on_flag_same _ _ _ _ rfl

theorem Dev.rd_spareTakes_lane (s : Nat) (auto : Bool) : (d.spareTakes s lane auto).rd D.SpareStatus.LANE s = lane % 2 ^ 5 := Dev.rd_wr_same ..

/-- A remap shows the spare in the device in which the lane's port trains and the spare's island is awake. -/
theorem Dev.rd_remap (s : Nat) (auto : Bool) (cause : Nat) {g : Fld} (m : Nat) (hspared : Fld.apart D.LaneStatus.SPARED g = true)
    (hfull : Fld.apart D.KnotStatus.FULL g = true) : (d.remap s lane auto cause).rd g m
      = (((d.portTrains lane).wake (fun i => i == (3, 160 + s))).spareTakes s lane auto).rd g m := by
  rw [Dev.remap, Dev.rd_raise, Dev.rd_knotAdd _ _ _ _ _ _ _ _ hfull]
  have hpin := Dev.rd_flag_apart (((d.portTrains lane).wake (fun i => i == (3, 160 + s))).spareTakes s lane auto) g m _ (128 + lane) true hspared
  exact Dev.rd_ite g m ((Dev.rd_emit ..).trans hpin) hpin

theorem Dev.autoRemap_of_free (hauto : d.on D.Net.AUTO_SPARE 0 = true) (hfree : d.on D.SpareStatus.IN_USE (lane / 8) = false) :
    d.autoRemap lane = ((d.flag D.SpareCfg.REMAP (lane / 8) true).wr D.SpareCfg.LANE (lane / 8) lane).remap (lane / 8) lane true
      Src.NET_SPARE_IN := by
  simp only [Dev.autoRemap, hauto, hfree, Bool.not_false, and_self, if_true]

/-- A remap leaves what the lanes are used for. -/
theorem Dev.rd_autoRemap_use (m : Nat) : (d.autoRemap lane).rd D.LaneStatus.USE m = d.rd D.LaneStatus.USE m := by
  refine Dev.rd_ite _ m ?_ rfl
  rw [Dev.rd_remap _ _ _ _ _ _ (by decide) (by decide), Dev.spareTakes]
  simp (disch := decide) only [Dev.rd_wr_apart, Dev.rd_flag_apart, Dev.rd_wake, Dev.rd_portTrains_of_off]

end

/-- What an automatic remap onto a free spare shows. -/
theorem Dev.shown_autoRemap (d : Dev) {lane : Nat} (hlane : lane < 32) (hauto : d.on D.Net.AUTO_SPARE 0 = true)
    (hfree : d.on D.SpareStatus.IN_USE (lane / 8) = false) :
    (d.autoRemap lane).on D.SpareStatus.IN_USE (lane / 8) = true ∧ (d.autoRemap lane).rd D.SpareStatus.LANE (lane / 8) = lane ∧
      (d.autoRemap lane).on D.SpareStatus.AUTO (lane / 8) = true := by
  have hshown : ∀ g m, Fld.apart D.LaneStatus.SPARED g = true → Fld.apart D.KnotStatus.FULL g = true → ∃ e : Dev,
      (d.autoRemap lane).rd g m = (e.spareTakes (lane / 8) lane true).rd g m := fun g m hspared hfull =>
    ⟨_, (congrArg (fun e : Dev => e.rd g m) (d.autoRemap_of_free lane hauto hfree)).trans (Dev.rd_remap _ _ _ _ _ _ hspared hfull)⟩
  refine ⟨?_, ?_, ?_⟩
  · obtain ⟨e, he⟩ := hshown D.SpareStatus.IN_USE (lane / 8) (by decide) (by decide)
    rw [Dev.on, he, ← Dev.on, Dev.on_spareTakes_inUse]
  · obtain ⟨e, he⟩ := hshown D.SpareStatus.LANE (lane / 8) (by decide) (by decide)
    rw [he, Dev.rd_spareTakes_lane]
    exact Nat.mod_eq_of_lt hlane
  · obtain ⟨e, he⟩ := hshown D.SpareStatus.AUTO (lane / 8) (by decide) (by decide)
    rw [Dev.on, he, ← Dev.on, Dev.on_spareTakes_auto]

/-- The port that uses the lane then trains. -/
theorem Dev.rd_autoRemap_link (d : Dev) {lane p : Nat} (hauto : d.on D.Net.AUTO_SPARE 0 = true)
    (hfree : d.on D.SpareStatus.IN_USE (lane / 8) = false) (hport : d.portOfLane lane = some p) :
    (d.autoRemap lane).rd D.PortStatus.LINK p = 1 := by
  have hport' : ((d.flag D.SpareCfg.REMAP (lane / 8) true).wr D.SpareCfg.LANE (lane / 8) lane).portOfLane lane = some p := by
    rw [← hport]
    refine Dev.portOfLane_congr _ _ fun p => ?_
    rw [Dev.rd_wr_apart _ _ _ _ _ _ (by decide), Dev.rd_flag_apart _ _ _ _ _ _ (by decide)]
  rw [d.autoRemap_of_free lane hauto hfree, Dev.rd_remap _ _ _ _ _ _ (by decide) (by decide), Dev.spareTakes]
  simp (disch := decide) only [Dev.rd_wr_apart, Dev.rd_flag_apart, Dev.rd_wake]
  exact Dev.rd_portTrains_link _ _ hport'

/-! ## The commands -/

/-- What a port shows once it has trained (R158). -/
def Dev.linkShown (d : Dev) (p : Nat) : Dev :=
  ((d.wr D.PortStatus.LINK p 2).flag D.PortStatus.PCS_ALIGNED p true).flag D.PortStatus.FEC_LOCKED p true

section
variable (d : Dev) (p : Nat)

theorem Dev.rd_linkShown_link : (d.linkShown p).rd D.PortStatus.LINK p = 2 := by
  simp (disch := decide) only [Dev.linkShown, Dev.rd_flag_apart, Dev.rd_wr_same]
  rfl

theorem Dev.on_linkShown_aligned : (d.linkShown p).on D.PortStatus.PCS_ALIGNED p = true := by
  simp (disch := decide) only [Dev.linkShown, Dev.on, Dev.rd_flag_apart]
  exact Dev.on_flag_same _ _ _ _ rfl

theorem Dev.on_linkShown_fecLocked : (d.linkShown p).on D.PortStatus.FEC_LOCKED p = true := Dev.on_flag_same _ _ _ _ rfl

end

section
variable {s : State} (dt : Nat) (hserve : s.dev.serving = true)
include hserve

section
variable {port : Nat} (hport : port < 32)
include hport

theorem exec_netLinkUp (hmode : s.dev.rd D.PortCfg.MODE port ≠ 0) (hdown : s.dev.portUp port = false)
    (hspare : s.dev.spareFailed port = false) :
    ∃ e : Dev, exec (.netLinkUp dt port) s = .next { s with dev := e } ∧ e.dict = ((s.dev.elapse dt).linkShown port).dict := by
  have hin : ¬(32 ≤ port ∨ s.dev.rd D.PortCfg.MODE port = 0 ∨ false = true ∨ false = true) := by simp [hmode]; omega
  simp only [exec, execNetLinkUp, State.act, Dev.live_serving _ _ _ hserve, Dev.rd_elapse, Dev.portUp_elapse, Dev.spareFailed_elapse, hdown,
    hspare, if_neg hin]
  refine ⟨_, rfl, ?_⟩
  rw [Dev.linkShown]

theorem exec_netLinkDown : exec (.netLinkDown dt port) s = .next { s with dev := (s.dev.elapse dt).portDown port } := by
  have hin : ¬32 ≤ port := by omega
  simp only [exec, execNetLinkDown, State.act, Dev.live_serving _ _ _ hserve, if_neg hin]

end

/-- A spare that has failed its training keeps its port down. -/
theorem exec_netLinkUp_spareFailed {port : Nat} (hspare : s.dev.spareFailed port = true) :
    exec (.netLinkUp dt port) s = .next { s with dev := s.dev.elapse dt } := by
  simp only [exec, execNetLinkUp, State.act, Dev.live_serving _ _ _ hserve, Dev.spareFailed_elapse, hspare, or_true, if_true]

theorem exec_netSpareRemap {lane : Nat} (hlane : lane < 32) (hport : (s.dev.portOfLane lane).isSome = true)
    (huse : s.dev.rd D.LaneStatus.USE (128 + lane) = 4) :
    exec (.netSpareRemap dt lane) s = .next { s with dev := (s.dev.elapse dt).autoRemap lane } := by
  have hnone : (s.dev.portOfLane lane).isNone = false := by rw [← Option.not_isSome, hport]; rfl
  have hin : ¬(32 ≤ lane ∨ false = true ∨ 4 ≠ 4) := by simp; omega
  simp only [exec, execNetSpareRemap, State.act, Dev.live_serving _ _ _ hserve, Dev.portOfLane_elapse, hnone, Dev.rd_elapse, huse, if_neg hin]

section
variable {port lane : Nat} (hport : port < 32) (hmode : s.dev.rd D.PortCfg.MODE port ≠ 0) (hdown : s.dev.portUp port = false)
  (hlow : port ≤ lane) (hhigh : lane < port + portLanes (s.dev.rd D.PortCfg.MODE port))
include hport hmode hlow hhigh

omit hserve in
theorem not_besidePort : ¬(32 ≤ port ∨ s.dev.rd D.PortCfg.MODE port = 0 ∨ false = true ∨ lane < port ∨
    port + portLanes (s.dev.rd D.PortCfg.MODE port) ≤ lane) := by
  simp [hmode]; omega

include hdown

theorem exec_netTrainingFailed_spare {k : Nat} (signal : Bool) (hspare : s.dev.spareOf lane = some k) :
    exec (.netTrainingFailed dt port lane signal) s
      = .next { s with dev := ((s.dev.elapse dt).wr D.PortStatus.LINK port 0).flag D.SpareStatus.FAILED k true } := by
  simp only [exec, execNetTrainingFailed, State.act, Dev.live_serving _ _ _ hserve, Dev.rd_elapse, Dev.portUp_elapse, hdown,
    if_neg (not_besidePort hport hmode hlow hhigh), Dev.spareOf_elapse, hspare]

/-- The third failure in a row with a signal fails the lane, and a spare may take its place. -/
theorem exec_netTrainingFailed_third (hspare : s.dev.spareOf lane = none) (hfails : (nget s.dev.netPort {} port).fails = 2) :
    ∃ d : Dev, exec (.netTrainingFailed dt port lane true) s
      = .next { s with dev := (d.wr D.LaneStatus.USE (128 + lane) 4).autoRemap lane } := by
  simp only [exec, execNetTrainingFailed, State.act, Dev.live_serving _ _ _ hserve, Dev.rd_elapse, Dev.portUp_elapse, hdown,
    if_neg (not_besidePort hport hmode hlow hhigh), Dev.spareOf_elapse, hspare, Dev.elapse_netPort, hfails, Nat.reduceAdd, if_true]
  exact ⟨_, rfl⟩

end

end

/-- Settles O24: each command as its equation above says it, and what the port, the spare or the lane then shows. -/
theorem networkPortsComplete : Obligations.NetworkPortsComplete := by
  unfold Obligations.NetworkPortsComplete
  refine ⟨fun s dt port hserve hport hmode hdown hspare => ?_, fun s dt port hserve hport hspare => ?_, fun s dt port hserve hport hup => ?_,
    fun s dt lane hserve hlane hport huse hauto hfree => ?_,
    fun s dt port lane hserve hport hmode hdown hlow hhigh hspare hfails => ?_,
    fun s dt port lane k signal hserve hport hmode hdown hlow hhigh hspare => ?_⟩
  · obtain ⟨e, hexec, hdict⟩ := exec_netLinkUp dt hserve hport hmode hdown hspare
    exact ⟨_, hexec, (Dev.rd_congr hdict ..).trans (Dev.rd_linkShown_link ..), (Dev.on_congr hdict ..).trans (Dev.on_linkShown_aligned ..),
      (Dev.on_congr hdict ..).trans (Dev.on_linkShown_fecLocked ..)⟩
  · exact ⟨_, exec_netLinkUp_spareFailed dt hserve hspare, Dev.rd_elapse ..⟩
  · have hup' : (s.dev.elapse dt).portUp port = true := (Dev.portUp_elapse ..).trans hup
    have hrd : ∀ g m, Fld.besideLoss g = true → ((s.dev.elapse dt).portDown port).rd g m = ((s.dev.elapse dt).linkLost port).rd g m :=
      fun g m => Dev.rd_portDown_of_up _ _ hup' m
    refine ⟨_, exec_netLinkDown dt hserve hport, ?_, ?_, ?_, ?_, ?_⟩
    · rw [hrd _ _ (by decide), Dev.rd_linkLost_link]
    · rw [Dev.on, hrd _ _ (by decide), ← Dev.on, Dev.on_linkLost_aligned]
    · rw [Dev.on, hrd _ _ (by decide), ← Dev.on, Dev.on_linkLost_fecLocked]
    · rw [hrd _ _ (by decide), Dev.rd_linkLost_downs, Dev.rd_elapse]
    · rw [Dev.raised_portDown_of_up _ _ hup']
      exact List.contains_iff_mem.2 (Dev.mem_raised_raise ..)
  · obtain ⟨p, hp⟩ := Option.isSome_iff_exists.1 hport
    have hauto' : (s.dev.elapse dt).on D.Net.AUTO_SPARE 0 = true := (Dev.on_elapse ..).trans hauto
    have hfree' : (s.dev.elapse dt).on D.SpareStatus.IN_USE (lane / 8) = false := (Dev.on_elapse ..).trans hfree
    obtain ⟨hinUse, htakes, hself⟩ := Dev.shown_autoRemap _ hlane hauto' hfree'
    refine ⟨_, exec_netSpareRemap dt hserve hlane hport huse, hinUse, htakes, hself, .inr ?_⟩
    rw [hp]
    exact Dev.rd_autoRemap_link _ hauto' hfree' ((Dev.portOfLane_elapse ..).trans hp)
  · obtain ⟨d, hexec⟩ := exec_netTrainingFailed_third dt hserve hport hmode hdown hlow hhigh hspare hfails
    exact ⟨_, hexec, (Dev.rd_autoRemap_use ..).trans (Dev.rd_wr_same ..)⟩
  · refine ⟨_, exec_netTrainingFailed_spare dt hserve hport hmode hdown hlow hhigh signal hspare, ?_, Dev.on_flag_same _ _ _ _ rfl⟩
    rw [Dev.rd_flag_apart _ _ _ _ _ _ (by decide), Dev.rd_wr_same]
    rfl

end Sys2Proof.Machine
end

section
/-! Obligations of 06_network_ports.md: what the management cores answer, report and send (R164, R165, R167 to R170). -/

namespace Sys2Proof.Machine

open Sys2Proof

/-! ## What the commands read is not changed by time that passes, nor by a frame's count -/

section
variable (d : Dev)

@[simp] theorem Dev.hwJoins_elapse (dt : Nat) : (d.elapse dt).hwJoins = d.hwJoins := (rfl)
@[simp] theorem Dev.reported_elapse (dt i : Nat) : (d.elapse dt).reported i = d.reported i := (rfl)
@[simp] theorem Dev.reportedNow_elapse (dt i : Nat) : (d.elapse dt).reportedNow i = d.reportedNow i := (rfl)

theorem Dev.portUp_sat (p : Nat) {f : Fld} (n k : Nat) (hf : Fld.apart f D.PortStatus.LINK = true) : (d.sat f n k).portUp p = d.portUp p := by
  rw [Dev.portUp, Dev.rd_sat_apart _ _ _ _ _ _ hf, Dev.portUp]

end

/-! ## Reports leave (R167) -/

theorem reportsOf_iface {i vlan v4 : Nat} {recs : List (Nat × Nat × List Nat)} {r : Report} (h : r ∈ reportsOf i vlan v4 recs) : r.iface = i := by
  have hone : ∀ {p : Prop} [Decidable p] {x : Report}, r ∈ (if p then [] else [x]) → r = x := by
    intro p _ x hr
    split at hr
    · exact nomatch hr
    · exact List.mem_singleton.1 hr
  obtain h | h := List.mem_append.1 h
  · rw [hone h]
  · rw [hone h]

theorem changeReports_iface {i : Nat} {old new : Reported} {r : Report} (h : r ∈ changeReports i old new) : r.iface = i := by
  unfold changeReports at h
  extract_lets part at h
  have hpart : ∀ v4 moved, r ∈ part v4 moved → r.iface = i := by
    intro v4 moved hr
    simp only [part] at hr
    split at hr
    · obtain hr | hr := List.mem_append.1 hr <;> exact reportsOf_iface hr
    · exact reportsOf_iface hr
  obtain h | h := List.mem_append.1 h <;> exact hpart _ _ h

section
variable (d : Dev)

theorem Dev.portUp_sendReport (r : Report) (p : Nat) : (d.sendReport r).portUp p = d.portUp p := by
  unfold Dev.sendReport
  split
  · rw [Dev.portUp_sat _ _ _ _ (by decide)]
    rfl
  · rfl

theorem Dev.ctrl_sendReport (r : Report) : (d.sendReport r).ctrl = d.ctrl := by
  unfold Dev.sendReport
  split
  · rw [Dev.sat, Dev.wr_ctrl, Dev.emit_ctrl]
  · rfl

theorem Dev.out_sendReport (r : Report) :
    (d.sendReport r).out = d.out ++ if d.portUp (r.iface / 8) = true then [.report r] else [] := by
  unfold Dev.sendReport
  split
  · rw [Dev.sat, Dev.wr_out, Dev.emit]
  · rw [List.append_nil]

/-- Reports of one interface leave where its port is UP, in order. -/
theorem Dev.sent_reports {i : Nat} (l : List Report) (hl : ∀ r ∈ l, r.iface = i) :
    (l.foldl (fun d r => d.sendReport r) d).ctrl = d.ctrl ∧
      (l.foldl (fun d r => d.sendReport r) d).out = d.out ++ if d.portUp (i / 8) = true then l.map .report else [] := by
  induction l generalizing d with
  | nil => simp
  | cons r t ih =>
    obtain ⟨hctrl, hout⟩ := ih (d.sendReport r) fun x hx => hl x (List.mem_cons_of_mem _ hx)
    rw [List.foldl_cons, hctrl, hout, Dev.ctrl_sendReport, Dev.portUp_sendReport, Dev.out_sendReport, hl r List.mem_cons_self]
    refine ⟨rfl, ?_⟩
    split <;> simp

theorem Dev.portUp_sendRepeated (r : Report) (p : Nat) : (d.sendRepeated r).portUp p = d.portUp p := d.portUp_sendReport r p

theorem Dev.out_sendRepeated (r : Report) : (d.sendRepeated r).out = (d.sendReport r).out := (rfl)

/-- State-change reports of an interface whose port is UP all leave. -/
theorem Dev.out_sendAll {i : Nat} (l : List Report) (hl : ∀ r ∈ l, r.iface = i) (hup : d.portUp (i / 8) = true) :
    (d.sendAll l).out = d.out ++ l.map .report := by
  induction l generalizing d with
  | nil => rw [Dev.sendAll, List.map_nil, List.append_nil]
  | cons r t ih =>
    rw [Dev.sendAll, ih (d.sendRepeated r) (fun x hx => hl x (List.mem_cons_of_mem _ hx)) ((Dev.portUp_sendRepeated ..).trans hup),
      Dev.out_sendRepeated, Dev.out_sendReport, hl r List.mem_cons_self, if_pos hup, List.append_assoc, List.map_cons, List.singleton_append]

end

/-! ## The commands -/

/-- What the cores answer to a frame that waits (R165). -/
def CtrlIn.answer (x : CtrlIn) : Emission :=
  .frame x.port x.iface x.what (Bytes.app ⟨32, x.src % 2 ^ 128 * 2 ^ 128 + x.dst % 2 ^ 128⟩ (if x.what = 3 then x.data else ⟨6, portMac x.port⟩))

/-- A query that the cores take in is counted, one of an old version also as such (R165, R168). -/
def Dev.queryCounted (d : Dev) (port version : Nat) : Dev :=
  let d := ((d.sat D.PortCounters.RX_FRAMES port 1).coreFrame port).sat D.Net.QUERIES_RX 0 1
  if version < 3 ∨ version = 4 then (d.sat D.Net.OLD_QUERIERS 0 1).raise Src.NET_OLD_QUERIER port else d

/-- In hardware mode it waits for its response. -/
def Dev.queryWaits (d : Dev) (q : Query) : Dev :=
  if d.hwJoins then { d.drawn with ctrl := { d.ctrl with queries := d.ctrl.queries ++ [q] } } else d

section
variable (d : Dev)

theorem Dev.rd_queryCounted (port version : Nat) {g : Fld} (m : Nat) (hold : Fld.apart D.Net.OLD_QUERIERS g = true) :
    (d.queryCounted port version).rd g m
      = (((d.sat D.PortCounters.RX_FRAMES port 1).coreFrame port).sat D.Net.QUERIES_RX 0 1).rd g m :=
  Dev.rd_ite g m ((Dev.rd_raise ..).trans (Dev.rd_sat_apart _ _ _ _ _ _ hold)) rfl

theorem Dev.hwJoins_queryCounted (port version : Nat) : (d.queryCounted port version).hwJoins = d.hwJoins := by
  rw [Dev.hwJoins, Dev.rd_queryCounted _ _ _ _ (by decide), Dev.rd_sat_apart _ _ _ _ _ _ (by decide),
    Dev.rd_coreFrame _ _ _ _ (by decide) (by decide), Dev.rd_sat_apart _ _ _ _ _ _ (by decide), Dev.hwJoins]

theorem Dev.ctrl_queryCounted (port version : Nat) : (d.queryCounted port version).ctrl = d.ctrl := by
  unfold Dev.queryCounted
  split <;> simp only [Dev.raise_ctrl, Dev.sat, Dev.wr_ctrl, Dev.ctrl_coreFrame]

theorem Dev.dict_queryWaits (q : Query) : (d.queryWaits q).dict = d.dict := by
  unfold Dev.queryWaits
  split <;> rfl

theorem Dev.queries_queryWaits (q : Query) : (d.queryWaits q).ctrl.queries = d.ctrl.queries ++ if d.hwJoins = true then [q] else [] := by
  unfold Dev.queryWaits
  split
  · rfl
  · rw [List.append_nil]

end

section
variable {s : State} (dt : Nat) (hserve : s.dev.serving = true)
include hserve

theorem exec_netCtrlFrame {x : CtrlIn} {rest : List CtrlIn} (hwait : s.dev.ctrl.waiting = x :: rest) (hup : s.dev.portUp x.port = true) :
    exec (.netCtrlFrame dt) s = .next { s with
      dev := (({ s.dev.elapse dt with ctrl := { s.dev.ctrl with waiting := rest } } : Dev).emit x.answer).sat D.PortCounters.TX_FRAMES x.port 1 } := by
  have hup' : ({ s.dev.elapse dt with ctrl := { s.dev.ctrl with waiting := rest } } : Dev).portUp x.port = true := hup
  simp only [exec, execNetCtrlFrame, State.act, Dev.live_serving _ _ _ hserve, Dev.elapse_ctrl, hwait, hup', if_true]
  rfl

/-- A query that the cores take in is counted, and in hardware mode waits for its response. -/
theorem exec_netQueryRx {port iface : Nat} (version : Nat) (ask : Nat × Nat) (hport : port < 32) (hiface : iface < 8)
    (hup : s.dev.portUp port = true) (hon : s.dev.on D.IfCfg.ENABLE (8 * port + iface) = true)
    (htake : (s.dev.elapse dt).coresTake port = true) :
    ∃ q, exec (.netQueryRx dt port iface version ask) s
      = .next { s with dev := ((s.dev.elapse dt).queryCounted port version).queryWaits q } := by
  have hin : ¬(32 ≤ port ∨ 8 ≤ iface ∨ (!true) = true ∨ (!true) = true) := by simp; omega
  simp only [exec, execNetQueryRx, State.act, Dev.live_serving _ _ _ hserve, Dev.portUp_elapse, hup, Dev.on_elapse, hon, if_neg hin, htake,
    Bool.true_eq_false, if_false]
  exact ⟨_, rfl⟩

theorem exec_netQueryResponse {iface : Nat} {r : Query} (hjoins : s.dev.hwJoins = true)
    (hdue : s.dev.ctrl.queries.find? (fun q => q.iface == iface && decide (q.at_ ≤ s.dev.wall + dt)) = some r) :
    exec (.netQueryResponse dt iface) s = .next { s with
      dev := (reportsOf iface (s.dev.rd D.IfCfg.VLAN_ID iface) (s.dev.rd D.IfCfg.IPV4_ADDR iface)
        (currentRecs ((s.dev.memberships (iface / 8) (iface % 8)).filter
          (fun g => isV4 g.group != r.v6 && (r.group == 0 || g.group == r.group))))).foldl (fun d r => d.sendReport r)
        { s.dev.elapse dt with ctrl := { s.dev.ctrl with queries := s.dev.ctrl.queries.erase r } } } := by
  have hdue' : (s.dev.elapse dt).ctrl.queries.find? (fun q => q.iface == iface && decide (q.at_ ≤ (s.dev.elapse dt).wall)) = some r := hdue
  simp only [exec, execNetQueryResponse, State.act, Dev.live_serving _ _ _ hserve, hdue', Dev.hwJoins_elapse, hjoins, Bool.not_true,
    Bool.false_eq_true, if_false]
  rfl

theorem exec_netMembershipReport {iface : Nat} (hiface : iface < 256) (hjoins : s.dev.hwJoins = true)
    (hup : s.dev.portUp (iface / 8) = true) :
    ∃ e : Dev, exec (.netMembershipReport dt iface) s = .next { s with dev := e } ∧
      nget e.ctrl.reported {} iface = s.dev.reportedNow iface ∧
      e.out = ((s.dev.elapse dt).sendAll (changeReports iface (s.dev.reported iface) (s.dev.reportedNow iface))).out := by
  have hin : ¬(256 ≤ iface ∨ (!true) = true ∨ (!true) = true) := by simp; omega
  simp only [exec, execNetMembershipReport, State.act, Dev.live_serving _ _ _ hserve, Dev.hwJoins_elapse, hjoins, Dev.portUp_elapse, hup,
    if_neg hin, Dev.reported_elapse, Dev.reportedNow_elapse]
  exact ⟨_, rfl, nget_nput_same .., rfl⟩

/-- The repeat that is due leaves, and waits again while repeats of it are left. -/
theorem exec_igmpReportRepeat {iface : Nat} {r : Nat × Nat × Report} (hjoins : s.dev.hwJoins = true)
    (hdue : s.dev.ctrl.repeats.find? (fun (x : Nat × Nat × Report) => x.2.2.iface == iface && decide (x.2.1 ≤ s.dev.wall + dt)) = some r) :
    ∃ (e : Dev) (at_ : Nat), exec (.igmpReportRepeat dt iface) s = .next { s with dev := e } ∧
      e.ctrl.repeats = (if r.1 ≤ 1 then s.dev.ctrl.repeats.erase r else s.dev.ctrl.repeats.erase r ++ [(r.1 - 1, at_, r.2.2)]) ∧
      e.out = ((s.dev.elapse dt).sendReport r.2.2).out := by
  have hdue' : (s.dev.elapse dt).ctrl.repeats.find? (fun (x : Nat × Nat × Report) => x.2.2.iface == iface &&
      decide (x.2.1 ≤ (s.dev.elapse dt).wall)) = some r := hdue
  simp only [exec, execIgmpReportRepeat, State.act, Dev.live_serving _ _ _ hserve, hdue', Dev.hwJoins_elapse, hjoins, Bool.not_true,
    Bool.false_eq_true, if_false]
  refine ⟨_, ((s.dev.elapse dt).sendReport r.2.2).wall + ((s.dev.elapse dt).sendReport r.2.2).randomWait
    ((s.dev.elapse dt).sendReport r.2.2).unsolicited, rfl, ?_, rfl⟩
  rw [Dev.drawn_ctrl, Dev.ctrl_sendReport, Dev.elapse_ctrl]

end

/-- In host-assisted mode CTRL_TX sends the frame behind its header and answers OK. -/
theorem exec_ctrlTx {s : State} {q : Rcp} {v : Bytes} (hgrant : s.dev.grantsDom q 0x0A01 1 0 v = true) (hjoins : s.dev.hwJoins = false)
    (hlow : 62 ≤ v.len) (hhigh : v.len ≤ 1516) (hport : byteAt v.len v.val 0 < 32) (hzero : byteAt v.len v.val 1 = 0)
    (hup : s.dev.portUp (byteAt v.len v.val 0) = true) :
    exec (.ctrlTx q v) s = .next { s with dev := (((s.dev.atBody q).emit (.frame (byteAt v.len v.val 0) 8 4 (v.drop 2))).sat
      D.PortCounters.TX_FRAMES (byteAt v.len v.val 0) 1).answer q (Reply.of St.OK) } := by
  have hjoins' : (s.dev.atBody q).hwJoins = false := by
    rw [Dev.hwJoins, Dev.rd_atBody _ _ _ _ (by decide) (by decide) (by decide), ← Dev.hwJoins, hjoins]
  have hup' : (s.dev.atBody q).portUp (byteAt v.len v.val 0) = true := by
    rw [Dev.portUp, Dev.rd_atBody _ _ _ _ (by decide) (by decide) (by decide), ← Dev.portUp, hup]
  have hin : ¬(v.len < 62 ∨ 1516 < v.len ∨ 32 ≤ byteAt v.len v.val 0 ∨ byteAt v.len v.val 1 ≠ 0) := by omega
  have hact : (s.dev.atBody q).ctrlTx v = (((s.dev.atBody q).emit (.frame (byteAt v.len v.val 0) 8 4 (v.drop 2))).sat
      D.PortCounters.TX_FRAMES (byteAt v.len v.val 0) 1, St.OK) := by
    simp only [Dev.ctrlTx, hjoins', hup', if_neg hin, Bool.false_eq_true, if_false, if_true]
  simp only [exec, execCtrlTx, State.act]
  rw [serveDom_answers hgrant hact (by decide)]

/-- Settles O25: each command as its equation above says it, and what then waits, is counted and is sent. -/
theorem networkControlCompletes : Obligations.NetworkControlCompletes := by
  unfold Obligations.NetworkControlCompletes
  refine ⟨fun s dt x rest hserve hwait hup => ?_, fun s dt port iface version ask hserve hport hiface hup hon htake => ?_,
    fun s dt iface r hserve hjoins hdue => ?_, fun s dt iface hserve hiface hjoins hup => ?_, fun s dt iface r hserve hjoins hdue => ?_,
    fun s q v hgrant hjoins hlow hhigh hport hzero hup => ?_⟩
  · refine ⟨_, exec_netCtrlFrame dt hserve hwait hup, ?_, ?_, ?_⟩
    · rw [Dev.sat, Dev.wr_ctrl, Dev.emit_ctrl]
    · rw [Dev.sat, Dev.wr_out]
      rfl
    · exact (Dev.rd_sat_same ..).trans rfl
  · obtain ⟨q, hexec⟩ := exec_netQueryRx dt hserve version ask hport hiface hup hon htake
    have hrd : ∀ g m, Fld.apart D.Net.OLD_QUERIERS g = true → (((s.dev.elapse dt).queryCounted port version).queryWaits q).rd g m
        = ((((s.dev.elapse dt).sat D.PortCounters.RX_FRAMES port 1).coreFrame port).sat D.Net.QUERIES_RX 0 1).rd g m :=
      fun g m hold => (Dev.rd_congr (Dev.dict_queryWaits ..) g m).trans (Dev.rd_queryCounted _ _ _ m hold)
    refine ⟨_, hexec, ?_, ?_, ?_⟩
    · rw [hrd _ _ (by decide), Dev.rd_sat_same, Dev.rd_coreFrame _ _ _ _ (by decide) (by decide), Dev.rd_sat_apart _ _ _ _ _ _ (by decide),
        Dev.rd_elapse]
      rfl
    · rw [hrd _ _ (by decide), Dev.rd_sat_apart _ _ _ _ _ _ (by decide), Dev.rd_coreFrame_frames, Dev.rd_sat_apart _ _ _ _ _ _ (by decide),
        Dev.rd_elapse]
    · rw [Dev.queries_queryWaits, Dev.ctrl_queryCounted, Dev.hwJoins_queryCounted, Dev.elapse_ctrl, Dev.hwJoins_elapse, List.length_append]
      split <;> rfl
  · obtain ⟨hctrl, hout⟩ := Dev.sent_reports { s.dev.elapse dt with ctrl := { s.dev.ctrl with queries := s.dev.ctrl.queries.erase r } }
      (reportsOf iface (s.dev.rd D.IfCfg.VLAN_ID iface) (s.dev.rd D.IfCfg.IPV4_ADDR iface)
        (currentRecs ((s.dev.memberships (iface / 8) (iface % 8)).filter
          (fun g => isV4 g.group != r.v6 && (r.group == 0 || g.group == r.group))))) fun _ => reportsOf_iface
    exact ⟨_, exec_netQueryResponse dt hserve hjoins hdue, congrArg CtrlSt.queries hctrl, hout⟩
  · obtain ⟨e, hexec, hreported, hout⟩ := exec_netMembershipReport dt hserve hiface hjoins hup
    exact ⟨_, hexec, hreported, hout.trans (Dev.out_sendAll _ _ (fun _ => changeReports_iface) hup)⟩
  · obtain ⟨e, at_, hexec, hrepeats, hout⟩ := exec_igmpReportRepeat dt hserve hjoins hdue
    have hmem : r ∈ s.dev.ctrl.repeats := List.mem_of_find?_eq_some hdue
    have hlen := List.length_erase_of_mem hmem
    have hpos := List.length_pos_of_mem hmem
    refine ⟨_, hexec, ?_, ?_, ?_⟩
    · rw [hrepeats]
      split
      · exact hlen
      · rw [List.length_append, hlen, List.length_singleton]
        omega
    · rw [hrepeats]
      split <;> simp
    · exact hout.trans (Dev.out_sendReport ..)
  · refine ⟨_, exec_ctrlTx hgrant hjoins hlow hhigh hport hzero hup, Dev.answered_answer _ q (Reply.of St.OK) (by decide), ?_⟩
    rw [Dev.out_answer _ _ _ (by decide), Dev.sat, Dev.wr_out, Dev.emit]
    simp

end Sys2Proof.Machine
end

section
/-! Obligations of 06_network_ports.md that fail: what a media command leaves outside SERVICE (R503), and the number that the next packet of a
network output takes (R124, R183). -/

namespace Sys2Proof.Machine

open Sys2Proof

/-! ## A media command outside SERVICE -/

/-- SR_ENTRY lets time pass where nothing serves; the segments that are masked lose what they still hold. -/
theorem exec_srEntry_unserved {s : State} (hserve : s.dev.serving = false) (dt chan : Nat) (issued : Bool) :
    exec (.srEntry dt chan issued) s = .next ({ s with dev := s.dev.elapse dt } : State).maskedLost := by
  have hserve' : (s.dev.elapse dt).serving = false := hserve
  simp only [exec, execSrEntry, Dev.srEntry, Dev.live, hserve', Bool.false_eq_true, if_false]

/-- A device at power-on whose channel 0 reads as in self-refresh, segment 0 masked. -/
def maskedAtReset : Dev := (Dev.reset.wr D.ChanStatus.SELF_REFRESH 0 1).wr D.ChanStatus.PASR_MASK 0 1

/-- Refutes O7: its last clause says that SR_ENTRY leaves the frame store as it was while nothing serves, in every state. Where a byte still
stands in a segment that is masked, as at address 0 here, the command drops it (R264). -/
theorem not_nothingOutsideItsTime : ¬ Obligations.NothingOutsideItsTime := by
  unfold Obligations.NothingOutsideItsTime
  intro ⟨_, _, hmedia⟩
  have hkept := hmedia (.srEntry 0 0 false) 0 ⟨maskedAtReset, [(0, 1)], []⟩ rfl rfl (by decide)
  rw [exec_srEntry_unserved (by decide)] at hkept
  have hmem := congrArg State.mem (Host.Outcome.next.inj hkept)
  have hlost : (State.maskedLost ⟨maskedAtReset.elapse 0, [(0, 1)], []⟩).mem = [] := by decide
  exact nomatch hlost.symm.trans hmem

/-! ## The first packet of a frame on a leg that steps to its twin's numbering -/

/-- Media of an ancillary stream of which one datagram is complete, of one byte, the first of its frame. -/
def firstDatagram : TxFrame := ⟨0, 0, ⟨4, 0x00010900⟩, false, 0, 0, [], [], 0, 0⟩

/-- A device in service whose output 8,191 runs as an ST 2110-40 output to 224.0.0.1 and has this media waiting. Its next number is 0, and an
anchor of its twin has asked for a step of 5. -/
def steppedLeg : Dev :=
  (({ Dev.reset with rst := {} } : Dev)
    |>.wr D.Rst.STARTUP_STAGE 0 6 |>.wr D.Flow.STATE 8191 FlowState.RUNNING |>.wr D.Flow.KIND 8191 0x46
    |>.wr D.NetTxCfg.DEST_A 4095 0xFFFFE0000001 |>.wr D.PortStatus.LINK 0 2).setNetTx 8191
      (fun x => { x with frames := [firstDatagram], step := 5 })

theorem steppedLeg_nextPacket : steppedLeg.nextPacket 8191 = some ⟨0, ⟨1, 9⟩, false, 0, false, [firstDatagram.cut 3]⟩ := by decide +kernel

theorem steppedLeg_nextMac : steppedLeg.nextMac 8191 false = some 0x01005E000001 := by decide +kernel

theorem exec_netPacketTx_steppedLeg : ∃ t, exec (.netPacketTx 0 8191) ⟨steppedLeg, [], []⟩ = .next t ∧
    t.dev.rd D.NetTxStatus.RTP_SEQ_NEXT 4095 = 6 := ⟨_, rfl, by decide +kernel⟩

/-- Refutes O26: its first clause says that every packet moves the numbering on by 1. The first packet of a frame also takes the step that an
anchor of the twin has asked for (R124): here RTP_SEQ_NEXT goes from 0 to 6. -/
theorem not_networkTransmitCompletes : ¬ Obligations.NetworkTransmitCompletes := by
  unfold Obligations.NetworkTransmitCompletes
  intro ⟨hpacket, _⟩
  have hready : steppedLeg.serving = true ∧ steppedLeg.running 8191 = true ∧ Kind.netTx (steppedLeg.kind 8191) = true ∧
      steppedLeg.isSafe 8191 = false ∧ ((steppedLeg.elapse 0).paced 8191).1 = true ∧ steppedLeg.portUp (steppedLeg.txLegA 8191).port = true := by
    decide +kernel
  obtain ⟨hserve, hrun, hkind, hsafe, hpaced, hup⟩ := hready
  obtain ⟨t, hexec, _, _, hseq, _⟩ := hpacket ⟨steppedLeg, [], []⟩ 0 8191 _ _ hserve (by decide) (by decide) hrun hkind hsafe
    steppedLeg_nextPacket hpaced steppedLeg_nextMac hup
  obtain ⟨t', hexec', hread⟩ := exec_netPacketTx_steppedLeg
  obtain rfl : t = t' := Host.Outcome.next.inj (hexec.symm.trans hexec')
  have hfirst : ((⟨steppedLeg, [], []⟩ : State).dev.netTxSt 8191).seq = 0 := rfl
  rw [hread, hfirst] at hseq
  exact absurd hseq (by decide)

end Sys2Proof.Machine
end

section
/-! Obligations of 07_dowel_ensembles.md: lanes climb, fail a step and start again, and a miswired group trains anew (R210, R212 to R216). -/

namespace Sys2Proof.Machine

open Sys2Proof

-- Proofs one after another, as in the lemmas on what the take engine tells: for the memory of the check.
set_option Elab.async false

/-! ## What the sending lanes leave alone: the controllers, and since when a group has its state -/

/-- A device after its lanes have sent: its controllers and the beginnings of its groups' states are as they were. -/
structure Dev.SinceKept (o d : Dev) : Prop where
  sec : d.sec = o.sec
  since : ∀ g, (d.dg g).since = (o.dg g).since

namespace Dev.SinceKept

theorem refl (d : Dev) : d.SinceKept d := ⟨rfl, fun _ => rfl⟩

section
variable {o d : Dev} (h : o.SinceKept d)
include h

/-- An update of anything but the controllers and the groups. -/
theorem other {e : Dev} (hsec : e.sec = d.sec := by rfl) (hgroup : e.dwl.group = d.dwl.group := by rfl) : o.SinceKept e :=
  ⟨hsec.trans h.sec, fun g => by rw [Dev.dg, hgroup]; exact h.since g⟩

theorem emit {e : Emission} : o.SinceKept (d.emit e) := h.other
theorem setDl {e : Nat} {f : DwlLaneSt → DwlLaneSt} : o.SinceKept (d.setDl e f) := h.other
theorem wr {f : Fld} {n v : Nat} : o.SinceKept (d.wr f n v) := h.other
theorem phy {y : PhySt} : o.SinceKept { d with phy := y } := h.other

/-- An update of a group that leaves its state's beginning. -/
theorem setDg {g : Nat} {f : DwlGroupSt → DwlGroupSt} (hf : ∀ x, (f x).since = x.since := by exact fun _ => rfl) :
    o.SinceKept (d.setDg g f) := by
  refine ⟨h.sec, fun k => ?_⟩
  by_cases hk : k = g
  · subst hk
    simp only [Dev.dg, Dev.setDg, nget_nput_same, hf]
    exact h.since k
  · simp only [Dev.dg, Dev.setDg, nget_nput_other _ _ _ hk]
    exact h.since k

theorem ite {p : Prop} [Decidable p] {e : Dev} (k : o.SinceKept e) : o.SinceKept (if p then d else e) := by
  split <;> assumption

theorem each {l : List Nat} {f : Dev → Nat → Dev} (hf : ∀ d n, o.SinceKept d → o.SinceKept (f d n)) : o.SinceKept (d.each l f) := by
  unfold Dev.each
  induction l generalizing d with
  | nil => exact h
  | cons n t ih => exact ih (hf d n h)

theorem sendSet (g l p : Nat) (s : LaneDue) : o.SinceKept (d.sendSet g l p s) := by
  cases s with
  | beacon v =>
    unfold Dev.sendSet
    exact setDg (emit h.setDl)
  | _ => exact h.other

theorem showRotation (g : Nat) (ls : List Nat) : o.SinceKept (d.showRotation g ls) :=
  h.wr.wr.each fun _ _ h => h.wr

end

end Dev.SinceKept

theorem DwlGroupSt.since_advance (x : DwlGroupSt) : x.advance.since = x.since := by
  simp only [DwlGroupSt.advance]
  split
  · rfl
  · split
    · split <;> rfl
    · rfl

namespace Dev.SinceKept

section
variable {o d : Dev} (h : o.SinceKept d)
include h

theorem sendItem (g l p : Nat) (i : ItemDue) : o.SinceKept (d.sendItem g l p i) := by
  have hcount : o.SinceKept (match i with
      | .cell _ c => (d.emit (.dowelCell g c)).sat D.GroupCounters.CELLS_TX g 1
      | .frame _ => d.sat D.GroupCounters.MGMT_TX g 1) := by
    cases i with
    | cell r c => exact h.emit.wr
    | frame b => exact h.wr
  unfold Dev.sendItem
  refine each (ite ?_ (showRotation ?_ ..)) fun _ _ h => h.setDl
  all_goals exact hcount.emit.setDl.wr.setDg fun _ => DwlGroupSt.since_advance _

theorem laneTurn (g l p : Nat) : o.SinceKept (d.laneTurn g l p) := by
  unfold Dev.laneTurn
  split
  · exact h.sendSet ..
  · split
    · exact h.sendItem ..
    · exact h

theorem groupTurns (g k : Nat) : o.SinceKept (d.groupTurns g k) := by
  induction k generalizing d with
  | zero => exact h
  | succ k ih =>
    unfold Dev.groupTurns
    refine h.ite ?_
    split
    · exact ite (ih (h.laneTurn ..)) h
    · exact h

theorem laneIdle (e : Nat) : o.SinceKept (d.laneIdle e) := by
  unfold Dev.laneIdle
  exact h.ite (setDl (h.ite h.emit))

theorem groupRun (g : Nat) : o.SinceKept (d.groupRun g) := (h.groupTurns ..).each fun _ e h => h.laneIdle e

theorem scanAbort (lane : Nat) : o.SinceKept (d.scanAbort lane) := ite (wr h.phy) h

theorem laneStart (e : Nat) : o.SinceKept (d.laneStart e) :=
  have hoff : o.SinceKept (d.laneTo e LaneState.TRAINING LaneUse.TRAINING) := h.wr.wr
  wr (wr (hoff.setDl.wr.wr.wr.wr.scanAbort _))

theorem sendBlocks (e k : Nat) : o.SinceKept (d.sendBlocks e k) := by
  induction k generalizing d with
  | zero => exact h
  | succ k ih =>
    unfold Dev.sendBlocks
    exact h.ite (ite (ih h.emit.setDl) (ih h.emit.wr.setDl))

theorem laneBlocks (e : Nat) : o.SinceKept (d.laneBlocks e) := ite (h.laneStart e) (ite (h.sendBlocks ..) h)

theorem lanesOut : o.SinceKept d.lanesOut := (h.each fun _ g h => h.groupRun g).each fun _ e h => h.laneBlocks e

end

end Dev.SinceKept

theorem Dev.sinceKept_lanesAt (d : Dev) (dt : Nat) : (d.elapse dt).SinceKept (d.lanesAt dt) := (Dev.SinceKept.refl _).lanesOut

theorem Dev.restarts_lanesAt (d : Dev) (dt kind : Nat) : (d.lanesAt dt).restarts kind = d.restarts kind :=
  congrArg (fun x : SecSt => x.restarting == some kind) (d.sinceKept_lanesAt dt).sec

theorem Dev.since_lanesAt (d : Dev) (dt g : Nat) : ((d.lanesAt dt).dg g).since = (d.dg g).since :=
  (d.sinceKept_lanesAt dt).since g

namespace Dev.Sent

section
variable {o d : Dev} (h : o.Sent d)
include h

theorem ensSize : d.ensSize = o.ensSize := by
  simp (disch := decide) only [Dev.ensSize, h.rd, h.size]

theorem frameDigest : d.frameDigest = o.frameDigest := by
  simp (disch := decide) only [Dev.frameDigest, h.rd]

theorem expectedPeer (g : Nat) : d.expectedPeer g = o.expectedPeer g := by
  simp (disch := decide) only [Dev.expectedPeer, Dev.me, h.ensSize, h.rd]

end

end Dev.Sent

/-! ## What lanes and groups show after an update -/

section
variable (d : Dev) (e : Nat)

@[simp] theorem Dev.dl_setDl_same (f : DwlLaneSt → DwlLaneSt) : (d.setDl e f).dl e = f (d.dl e) := nget_nput_same ..
@[simp] theorem Dev.dl_wr (f : Fld) (n v k : Nat) : (d.wr f n v).dl k = d.dl k := (rfl)
@[simp] theorem Dev.dl_flag (f : Fld) (n : Nat) (b : Bool) (k : Nat) : (d.flag f n b).dl k = d.dl k := (rfl)
@[simp] theorem Dev.dl_sat (f : Fld) (n k j : Nat) : (d.sat f n k).dl j = d.dl j := (rfl)

theorem Dev.laneState_laneStart : (d.laneStart e).laneState e = LaneState.TRAINING := by
  simp (disch := decide) only [Dev.laneStart, Dev.laneTo, Dev.laneState, Dev.rd_wr_apart, Dev.rd_scanAbort, Dev.rd_flag_apart, Dev.rd_setDl,
    Dev.rd_wr_same]
  rfl

theorem Dev.step_laneStart : (d.laneStart e).rd D.DwlLane.STEP e = 0 := by
  simp (disch := decide) only [Dev.laneStart, Dev.rd_wr_apart, Dev.rd_scanAbort, Dev.rd_flag_apart, Dev.rd_wr_same, Nat.zero_mod]

/-- R213: after a failure that is not the third at its step the lane trains from S0, and the failure is counted. -/
theorem Dev.shows_stepFailed (h : countIf (fun f => f == (d.dl e).step) (d.dl e).fails < 2) :
    (d.stepFailed e).laneState e = LaneState.TRAINING ∧ (d.stepFailed e).rd D.DwlLane.STEP e = 0 ∧
      (d.stepFailed e).rd D.DwlLaneCounters.STEP_FAILURES e = min (d.rd D.DwlLaneCounters.STEP_FAILURES e + 1) (2 ^ 32 - 1) := by
  have hretry : countIf (fun f => f == (d.dl e).step) (d.dl e).fails + 1 < 3 := by omega
  simp only [Dev.stepFailed, hretry, if_true]
  refine ⟨Dev.laneState_laneStart .., Dev.step_laneStart .., ?_⟩
  rw [((Dev.Sent.refl _).laneStart e).rd _ (by decide), Dev.rd_setDl, Dev.rd_wr_apart _ _ _ _ _ _ (by decide), Dev.rd_sat_same]
  rfl

end

namespace Dev.Kept

section
variable {x : Bool} {o d : Dev} (h : o.Kept x d)
include h

theorem followGroup : o.Kept x d.followGroup := h.wr

theorem followGroups : o.Kept x d.followGroups := h.each fun _ _ h => h.reroute ..

theorem ensUpdate : o.Kept x d.ensUpdate := by
  have hgroups : o.Kept x (d.wr D.Ens.MEMBERS_UP 0 d.membersUp).followGroup.followGroups.report := h.wr.followGroup.followGroups.report
  unfold Dev.ensUpdate
  exact hgroups.ite (ite hgroups.wr (wr (ite (setDwl (ite hgroups.setDwl hgroups)) (ite hgroups.setDwl hgroups))))

end

end Dev.Kept

/-- A group shows the state it enters. -/
theorem Dev.state_groupState (d : Dev) (g st : Nat) : (d.groupState g st).rd D.GroupStatus.STATE g = st % 8 := by
  have hkept := (Dev.Kept.refl false ((d.wr D.GroupStatus.STATE g st).setDg g (fun x => { x with since := d.wall }))).ensUpdate
  rw [Dev.groupState, hkept.rd _ (by decide) _ fun h => absurd h (by decide), Dev.rd_setDg, Dev.rd_wr_same]
  rfl

/-! ## The commands -/

/-- A lane command completes with what it does to the device whose lanes have sent up to its time. -/
theorem Completes.of_lanesRun {c : Instr} {s : State} {dt : Nat} {f : Dev → Dev} {p : State → Prop} (hstage : 5 ≤ s.dev.stage)
    (hreset : s.dev.inReset = false) (hexec : exec c s = s.act fun d => d.lanesRun dt f) (h : p { s with dev := f (s.dev.lanesAt dt) }) :
    Completes c s p := by
  refine ⟨{ s with dev := s.dev.lanesRun dt f }, hexec, ?_⟩
  rwa [Dev.lanesRun_of_stage _ _ _ hstage hreset]

section
variable {s : State} {dt group : Nat} (hstage : 5 ≤ s.dev.stage) (hreset : s.dev.inReset = false) (hgroup : group < 8)
include hstage hreset hgroup

/-- R212, R215: a block of the expected peer that is no hold and no refusal. -/
theorem dwlTrainingBlockRx_completes {lane block : Nat} (inverted : Bool) (hlane : lane < 9)
    (hstate : s.dev.rd D.GroupStatus.STATE group = GroupState.TRAINING ∨ s.dev.rd D.GroupStatus.STATE group = GroupState.UP)
    (htrain : (s.dev.lanesAt dt).laneState (9 * group + lane) = LaneState.TRAINING) (hok : Train.ok block = true)
    (hpeer : s.dev.expectedPeer group = some (Train.member block, Train.card block, Train.group block)) (hindex : Train.lane block = lane)
    (hsize : Train.size block = s.dev.ensSize) (hdigest : Train.digest block = s.dev.frameDigest) (hkind : Train.kind block < 3) :
    Completes (.dwlTrainingBlockRx dt group lane block inverted) s (fun t =>
      (t.dev.dl (9 * group + lane)).peerMax = Train.maxStep block ∧
        t.dev.on D.LaneStatus.SIGNAL_DETECT (phyOf (9 * group + lane)) = true) := by
  have hsent := s.dev.sent_lanesAt dt
  have hsame : ((s.dev.lanesAt dt).expectedPeer group == some (Train.member block, Train.card block, Train.group block)
      && Train.lane block == lane && Train.size block == (s.dev.lanesAt dt).ensSize
      && Train.digest block == (s.dev.lanesAt dt).frameDigest) = true := by
    rw [hsent.expectedPeer, hsent.ensSize, hsent.frameDigest]
    simp only [Bool.and_eq_true, beq_iff_eq]
    exact ⟨⟨⟨hpeer, hindex⟩, hsize⟩, hdigest⟩
  have hheard : ¬(9 ≤ lane ∨ ((s.dev.lanesAt dt).rd D.GroupStatus.STATE group ≠ GroupState.TRAINING ∧
      (s.dev.lanesAt dt).rd D.GroupStatus.STATE group ≠ GroupState.UP)) := by
    rw [hsent.rd _ (by decide)]
    rintro (h | ⟨h1, h2⟩)
    · omega
    · exact hstate.elim h1 h2
  have hnorefusal : Train.kind block ≠ Block.REFUSE := by simp only [Block.REFUSE]; omega
  have hnofailed : LaneState.TRAINING ≠ LaneState.FAILED := by decide
  refine Completes.of_lanesRun hstage hreset rfl ?_
  simp only [if_pos hgroup, if_neg hheard, hok, Bool.not_true, Bool.false_eq_true, if_false, htrain, hnofailed, false_and, ne_eq,
    not_true_eq_false, hsame, Bool.true_eq_false, hnorefusal]
  refine ⟨by rw [Dev.dl_setDl_same], ?_⟩
  rw [Dev.on, Dev.rd_setDl, Dev.rd_flag_apart _ _ _ _ _ _ (by decide), ← Dev.on]
  exact Dev.on_flag_same _ _ _ _ rfl

/-- R212: a dwell that ends within its step's limits. -/
theorem dwlStepDwellEnd_completes {lane errors : Nat} (hlane : lane < 9)
    (htrain : (s.dev.lanesAt dt).laneState (9 * group + lane) = LaneState.TRAINING)
    (hdwelt : ((s.dev.lanesAt dt).dl (9 * group + lane)).dwelt = false) (hstep : ((s.dev.lanesAt dt).dl (9 * group + lane)).step < 4)
    (hended : ((s.dev.lanesAt dt).dl (9 * group + lane)).since + (stepRow ((s.dev.lanesAt dt).dl (9 * group + lane)).step).2.1
      ≤ s.dev.wall + dt)
    (hintime : s.dev.wall + dt ≤ ((s.dev.lanesAt dt).dl (9 * group + lane)).since + lockLimit ((s.dev.lanesAt dt).dl (9 * group + lane)).step
      + (stepRow ((s.dev.lanesAt dt).dl (9 * group + lane)).step).2.1)
    (herrors : errors ≤ (stepRow ((s.dev.lanesAt dt).dl (9 * group + lane)).step).2.2) (hlnc : s.dev.restarts 2 = false) :
    Completes (.dwlStepDwellEnd dt group lane errors) s (fun t =>
      (t.dev.dl (9 * group + lane)).dwelt = true ∧
        t.dev.rd D.DwlLane.STEP (9 * group + lane) = ((s.dev.lanesAt dt).dl (9 * group + lane)).step ∧
        t.dev.on D.LaneStatus.CDR_LOCKED (phyOf (9 * group + lane)) = true) := by
  have hwall : (s.dev.lanesAt dt).wall = s.dev.wall + dt := (s.dev.sent_lanesAt dt).wall
  have hlnc : (s.dev.lanesAt dt).restarts 2 = false := (s.dev.restarts_lanesAt dt 2).trans hlnc
  refine Completes.of_lanesRun hstage hreset rfl ?_
  generalize s.dev.lanesAt dt = d at *
  have hknown : ¬(8 ≤ group ∨ 9 ≤ lane) := by omega
  have hpassed : ¬(d.wall < (d.dl (9 * group + lane)).since + (stepRow (d.dl (9 * group + lane)).step).2.1 ∨
      (stepRow (d.dl (9 * group + lane)).step).2.2 < errors) := by omega
  have hnotlate : ¬((d.dl (9 * group + lane)).since + lockLimit (d.dl (9 * group + lane)).step
      + (stepRow (d.dl (9 * group + lane)).step).2.1 < d.wall) := by omega
  have hbelow : (d.dl (9 * group + lane)).step ≠ 4 := by omega
  simp only [not_or] at hknown hpassed
  simp only [hknown, htrain, hdwelt, hpassed, hlnc, hnotlate, hbelow, ne_eq, not_true_eq_false, Bool.false_eq_true, or_self, if_false]
  refine ⟨by simp only [Dev.dl_flag, Dev.dl_wr, Dev.dl_setDl_same], ?_, ?_⟩
  · simp (disch := decide) only [Dev.rd_flag_apart, Dev.rd_wr_same]
    exact Nat.mod_eq_of_lt (Nat.lt_of_lt_of_le hstep (by decide))
  · rw [Dev.on, Dev.rd_flag_apart _ _ _ _ _ _ (by decide), ← Dev.on]
    exact Dev.on_flag_same _ _ _ _ rfl

/-- R213: a failed step that is not the third at its step. -/
theorem dwlStepFailure_completes {lane : Nat} (n : Option Nat) (hlane : lane < 9)
    (htrain : (s.dev.lanesAt dt).laneState (9 * group + lane) = LaneState.TRAINING)
    (hdwelt : ((s.dev.lanesAt dt).dl (9 * group + lane)).dwelt = false)
    (hfailed : (match n with
      | some n0 => decide ((stepRow ((s.dev.lanesAt dt).dl (9 * group + lane)).step).2.2 < n0)
      | none => (s.dev.lanesAt dt).past ((s.dev.lanesAt dt).dl (9 * group + lane)).since
          (lockLimit ((s.dev.lanesAt dt).dl (9 * group + lane)).step)) = true)
    (hretry : countIf (fun f => f == ((s.dev.lanesAt dt).dl (9 * group + lane)).step) ((s.dev.lanesAt dt).dl (9 * group + lane)).fails < 2) :
    Completes (.dwlStepFailure dt group (lane, n)) s (fun t =>
      t.dev.laneState (9 * group + lane) = LaneState.TRAINING ∧ t.dev.rd D.DwlLane.STEP (9 * group + lane) = 0 ∧
        t.dev.rd D.DwlLaneCounters.STEP_FAILURES (9 * group + lane)
          = min (s.dev.rd D.DwlLaneCounters.STEP_FAILURES (9 * group + lane) + 1) (2 ^ 32 - 1)) := by
  have hcount : (s.dev.lanesAt dt).rd D.DwlLaneCounters.STEP_FAILURES (9 * group + lane)
      = s.dev.rd D.DwlLaneCounters.STEP_FAILURES (9 * group + lane) := (s.dev.sent_lanesAt dt).rd _ (by decide) _
  refine Completes.of_lanesRun hstage hreset rfl ?_
  rw [← hcount]
  generalize s.dev.lanesAt dt = d at *
  have hknown : ¬(8 ≤ group ∨ 9 ≤ lane) := by omega
  simp only [not_or] at hknown
  simp only [hknown, htrain, hdwelt, ne_eq, not_true_eq_false, Bool.false_eq_true, or_self, if_false]
  cases n with
  | some n =>
    have hmany : ¬n ≤ (stepRow (d.dl (9 * group + lane)).step).2.2 := Nat.not_le.2 (of_decide_eq_true hfailed)
    simp only [if_neg hmany]
    exact Dev.shows_stepFailed (d.setDl (9 * group + lane) fun x => { x with dwellErrs := n }) _ (by rwa [Dev.dl_setDl_same])
  | none =>
    simp only [show d.past _ _ = true from hfailed, if_true]
    exact Dev.shows_stepFailed d _ hretry

/-- R216: a MISWIRED group trains again after 1 s. -/
theorem groupMiswiredRetry_completes (hstate : s.dev.rd D.GroupStatus.STATE group = GroupState.MISWIRED)
    (hpast : (s.dev.elapse dt).past (s.dev.dg group).since 1000000000 = true) :
    Completes (.groupMiswiredRetry dt group) s (fun t => t.dev.rd D.GroupStatus.STATE group = GroupState.TRAINING) := by
  have hsent := s.dev.sent_lanesAt dt
  have hstate : (s.dev.lanesAt dt).rd D.GroupStatus.STATE group = GroupState.MISWIRED := (hsent.rd _ (by decide) _).trans hstate
  have hpast : (s.dev.lanesAt dt).past ((s.dev.lanesAt dt).dg group).since 1000000000 = true := by
    rw [s.dev.since_lanesAt, hsent.past, hpast]
  have hknown : ¬8 ≤ group := by omega
  refine Completes.of_lanesRun hstage hreset rfl ?_
  simp only [hknown, hstate, hpast, ne_eq, not_true_eq_false, Bool.not_true, Bool.false_eq_true, or_self, if_false]
  exact Dev.state_groupState ..

end

/-- Settles O28, a lemma for each command: what the lanes send up to a command's time leaves what the command asks of the device, and what the
command shows stands in fields that its other writes leave alone. -/
theorem dowelBringUpCompletes : Obligations.DowelBringUpCompletes := by
  unfold Obligations.DowelBringUpCompletes
  refine ⟨?_, ?_, ?_, ?_⟩
  · intro s dt group lane block inverted hstage hreset hgroup hlane hstate htrain hok hpeer hindex hsize hdigest hkind
    exact dwlTrainingBlockRx_completes hstage hreset hgroup inverted hlane hstate htrain hok hpeer hindex hsize hdigest hkind
  · intro s dt group lane errors hstage hreset hgroup hlane htrain hdwelt hstep hended hintime herrors hlnc
    exact dwlStepDwellEnd_completes hstage hreset hgroup hlane htrain hdwelt hstep hended hintime herrors hlnc
  · intro s dt group lane n hstage hreset hgroup hlane htrain hdwelt hfailed hretry
    exact dwlStepFailure_completes hstage hreset hgroup n hlane htrain hdwelt hfailed hretry
  · intro s dt group hstage hreset hgroup hstate hpast
    exact groupMiswiredRetry_completes hstage hreset hgroup hstate hpast

end Sys2Proof.Machine
end

section
/-! Obligations of 07_dowel_ensembles.md that fail: what becomes due on a lane that the rotation is leaving can be lost before it is sent (R202,
R207, R226, R245). -/

namespace Sys2Proof.Machine

open Sys2Proof

/-- The lanes' clock 2 ms after the power-on reset. -/
def twoMs : Nat := 2000000 * 448

/-- A device in service at that time. Lane 0 of group 7, of rank 0, has been swapped out; lane 1, of rank 1, failed 1 ms ago; from round 8 on
lane 8 alone is the rotation. Both lanes are still sending something. The last item of round 7 waits for lane 1: a management frame, which may
leave from now on (R205). -/
def leavingRotation : Dev :=
  let d := ({ Dev.reset with rst := {}, wall := 2000000 } : Dev)
    |>.wr D.Rst.STARTUP_STAGE 0 6 |>.wr D.GroupStatus.STATE 7 GroupState.UP |>.wr D.DwlLane.LANE_STATE 63 LaneState.TRAINING
    |>.wr D.DwlLane.LANE_STATE 64 LaneState.FAILED |>.wr D.DwlLane.LANE_STATE 71 LaneState.IN_ROTATION
  let d := d.setDl 63 (fun x => { x with sent := [(6, 77)], free := twoMs + charsFor 17 })
  let d := d.setDl 64 (fun x => { x with since := 1000000, free := twoMs + charsFor 2 })
  let d := d.setDl 71 (fun x => { x with free := twoMs, skipped := twoMs, marked := twoMs })
  d.setDg 7 (fun x => { x with lanes := [0, 1], txRound := 7, txRank := 1, next := some (8, [8]), items := [.frame 0], mgmtAt := twoMs })

/-! Whatever becomes due on lane 0 now is lost. The lanes send up to the present and lane 1 starts again from S0 (R245), with the skip sets of 2 ms
still to send; they use up the turns of the next sending (64 for each thing that waits, in `Dev.groupRun`), and the frame still waits when the
set on lane 0 is put in line. Then the frame leaves, round 7 ends, and the rotation leaves lane 0 and drops what is due on it. -/

/-- A replay request for the item that lane 0 sent last. -/
def lastItemAgain : Nat := ReplayReq.build 0 6

theorem exec_dwlReplayReqRx_leavingRotation : ∃ t, exec (.dwlReplayReqRx 0 7 0 lastItemAgain) ⟨leavingRotation, [], []⟩ = .next t ∧
    (t.dev.out.contains (Emission.item 7 0 6 77) || (t.dev.dl 63).due.contains (LaneDue.replay 6 77)) = false :=
  ⟨_, rfl, by decide +kernel⟩

/-- Refutes O27: its second clause says that every item of a replay is sent or stands in line when the request has been served. Here the one
item asked for is neither. -/
theorem not_dowelItemsComplete : ¬ Obligations.DowelItemsComplete := by
  unfold Obligations.DowelItemsComplete
  intro ⟨_, hreplay, _⟩
  have hasked : ReplayReq.ok lastItemAgain = true ∧ ReplayReq.lane lastItemAgain = 0 ∧
      ((leavingRotation.lanesAt 0).dl 63).serves (ReplayReq.count lastItemAgain) leavingRotation.wall = false ∧
      replayFrom ((leavingRotation.lanesAt 0).dl 63).sent (ReplayReq.count lastItemAgain) = some [(6, 77)] := by
    decide +kernel
  obtain ⟨hok, hlane, hfresh, hheld⟩ := hasked
  obtain ⟨t, hexec, _, _, hkept, _⟩ := hreplay ⟨leavingRotation, [], []⟩ 0 7 0 lastItemAgain [(6, 77)] (by decide) (by decide) (by decide)
    (by decide) hok hlane hfresh hheld
  obtain ⟨t', hexec', hlost⟩ := exec_dwlReplayReqRx_leavingRotation
  obtain rfl : t = t' := Host.Outcome.next.inj (hexec.symm.trans hexec')
  rw [List.all_cons, List.all_nil, Bool.and_true, hlost] at hkept
  exact Bool.false_ne_true hkept

/-- Is something that the device sends a time beacon? -/
def Emission.isBeacon : Emission → Bool
  | .orderedSet _ _ k _ => k == Sym.BEACON
  | _ => false

theorem exec_beaconTx_leavingRotation : ∃ t, exec (.beaconTx 0 7) ⟨leavingRotation, [], []⟩ = .next t ∧
    (t.dev.dl 63).due = [] ∧ t.dev.out.any Emission.isBeacon = false :=
  ⟨_, rfl, by decide +kernel⟩

/-- Refutes O29: its clause on BEACON_TX says that the beacon of a group that is UP is sent, or stands in line on the lane of rank 0. Here it is
neither. -/
theorem not_ensembleComplete : ¬ Obligations.EnsembleComplete := by
  unfold Obligations.EnsembleComplete
  intro ⟨_, _, _, _, _, _, hbeacon, _⟩
  have hlanes : ((leavingRotation.lanesAt 0).dg 7).lanes = 0 :: [1] := by decide +kernel
  obtain ⟨t, hexec, hsent, _⟩ := hbeacon ⟨leavingRotation, [], []⟩ 0 7 0 [1] (by decide) (by decide) (by decide) (by decide) (by decide) hlanes
  obtain ⟨t', hexec', hdue, hout⟩ := exec_beaconTx_leavingRotation
  obtain rfl : t = t' := Host.Outcome.next.inj (hexec.symm.trans hexec')
  obtain hline | hout' := hsent
  · rw [show t.dev.dl (9 * 7 + 0) = t.dev.dl 63 from rfl, hdue] at hline
    exact Bool.false_ne_true hline
  · obtain ⟨e, he, hset⟩ := List.any_eq_true.1 hout'
    refine List.any_eq_false.1 hout e he ?_
    split at hset
    · simp only [Bool.and_eq_true] at hset
      obtain ⟨⟨⟨_, hsym⟩, _⟩, _⟩ := hset
      exact hsym
    · exact absurd hset Bool.false_ne_true

end Sys2Proof.Machine
end

section
/-! Obligations of 08_lane_phy.md: LANE_CMD and the scans of a lane's eye (R238, R242, R245, R248, R249). -/

namespace Sys2Proof.Machine

open Sys2Proof

-- Proofs one after another, as in the lemmas on what the take engine tells: for the memory of the check.
set_option Elab.async false

/-! ## What the lanes' training blocks depend on (R212, R214)

Between a request's arrival and its body the device counts the frame and hears the session. The lanes do not see that: two devices that agree
on what training blocks ask of a device agree on it after the blocks too. -/

/-- The fields that the training blocks ask for. -/
def blockFields : List Fld := [D.DwlLane.LANE_STATE, D.DwlLane.PEER_HOLD, D.Phy.MODE, D.GroupCfg.MAX_STEP]

/-- Is a field one of them, or apart from them all? -/
def Fld.besideBlocks (f : Fld) : Bool := blockFields.all (fun g => f == g || Fld.apart f g)

/-- Two devices agree on what the training blocks ask for. -/
structure Dev.SameLanes (o d : Dev) : Prop where
  rd : ∀ g ∈ blockFields, ∀ m, d.rd g m = o.rd g m
  dwl : d.dwl = o.dwl
  phy : d.phy = o.phy
  wall : d.wall = o.wall

namespace Dev.SameLanes

section
variable {o d : Dev} (h : o.SameLanes d)
include h

theorem dl (e : Nat) : d.dl e = o.dl e := congrArg (fun x : DwlSt => nget x.lane {} e) h.dwl
theorem dg (g : Nat) : d.dg g = o.dg g := congrArg (fun x : DwlSt => nget x.group {} g) h.dwl
theorem laneState (e : Nat) : d.laneState e = o.laneState e := h.rd _ (by decide) e
theorem past (t ns : Nat) : d.past t ns = o.past t ns := congrArg (fun x => decide (t + ns ≤ x)) h.wall

theorem blockKind (e : Nat) : d.blockKind e = o.blockKind e := by
  unfold Dev.blockKind Dev.on
  rw [h.dl, h.rd D.Phy.MODE (by decide), h.rd D.DwlLane.PEER_HOLD (by decide), h.rd D.GroupCfg.MAX_STEP (by decide)]

theorem emit {a b : Emission} : (o.emit a).SameLanes (d.emit b) := ⟨h.rd, h.dwl, h.phy, h.wall⟩

theorem setDl {e : Nat} {f f' : DwlLaneSt → DwlLaneSt} (hf : f' = f := by rfl) : (o.setDl e f).SameLanes (d.setDl e f') :=
  ⟨h.rd, by simp only [Dev.setDl, h.dl, h.dwl, hf], h.phy, h.wall⟩

theorem wr {f : Fld} {n v : Nat} (hf : Fld.besideBlocks f = true := by decide) : (o.wr f n v).SameLanes (d.wr f n v) := by
  refine ⟨fun g hg m => ?_, h.dwl, h.phy, h.wall⟩
  obtain hfg | hfg := Bool.or_eq_true_iff.1 (List.all_eq_true.1 hf g hg)
  · obtain rfl : f = g := beq_iff_eq.1 hfg
    by_cases hm : m = n
    · rw [hm, Dev.rd_wr_same, Dev.rd_wr_same]
    · rw [Dev.rd_wr_ne _ _ _ _ _ hm, Dev.rd_wr_ne _ _ _ _ _ hm, h.rd _ hg]
  · rw [Dev.rd_wr_apart _ _ _ _ _ _ hfg, Dev.rd_wr_apart _ _ _ _ _ _ hfg, h.rd _ hg]

omit h in
theorem ite {p : Prop} [Decidable p] {o' d' : Dev} (h : o.SameLanes d) (h' : o'.SameLanes d') :
    (if p then o else o').SameLanes (if p then d else d') := by
  split <;> assumption

theorem scanAbort (lane : Nat) : (o.scanAbort lane).SameLanes (d.scanAbort lane) := by
  have hscans (y : PhySt) : ({ o with phy := y } : Dev).SameLanes { d with phy := y } := ⟨h.rd, h.dwl, rfl, h.wall⟩
  simp only [Dev.scanAbort, h.phy]
  exact (hscans _).wr.ite h

theorem laneStart (e : Nat) : (o.laneStart e).SameLanes (d.laneStart e) := by
  have hoff : (o.laneTo e LaneState.TRAINING LaneUse.TRAINING).SameLanes (d.laneTo e LaneState.TRAINING LaneUse.TRAINING) := h.wr.wr
  simp only [Dev.laneStart, h.wall]
  exact ((hoff.setDl.wr.wr.wr.wr.scanAbort _).wr).wr

theorem sendBlocks (e k : Nat) : (o.sendBlocks e k).SameLanes (d.sendBlocks e k) := by
  induction k generalizing o d with
  | zero => exact h
  | succ k ih =>
    simp only [Dev.sendBlocks, h.dl, h.wall, h.blockKind]
    exact h.ite (ite (ih h.emit.setDl) (ih h.emit.wr.setDl))

theorem laneBlocks (e : Nat) : (o.laneBlocks e).SameLanes (d.laneBlocks e) := by
  simp only [Dev.laneBlocks, h.laneState, h.dl, h.dg, h.past]
  exact (h.laneStart e).ite ((h.sendBlocks e 6).ite h)

end

end Dev.SameLanes

/-! ## Where a LANE_CMD's body starts -/

section
variable (d : Dev) (q : Rcp)

theorem Dev.wall_heard : (d.heard q).wall = d.wall := by
  have hconfirm (x : Dev) : x.confirmMg.wall = x.wall := by
    unfold Dev.confirmMg Dev.flag
    split
    · rw [Dev.wr_wall, Dev.wr_wall]
    · rfl
  have haccept (x : Dev) (via : Nat) : (x.mgAccept via).wall = x.wall := by
    unfold Dev.mgAccept
    split
    · rw [Dev.sat, Dev.wr_wall]
    · rfl
  unfold Dev.heard
  split
  · rfl
  · rw [hconfirm, haccept, Dev.setSession_wall]

theorem Dev.wall_atBody : (d.atBody q).wall = (d.elapse q.dt).wall := by
  rw [Dev.atBody, Dev.wall_heard, Dev.wall_mgRx]

theorem Dev.sameLanes_atBody : (d.elapse q.dt).SameLanes (d.atBody q) := by
  refine ⟨fun g hg m => ?_, by simp only [Dev.dwl_atBody, Dev.elapse_dwl], by simp only [Dev.phy_atBody, Dev.elapse_phy], Dev.wall_atBody d q⟩
  have hoff : ∀ g ∈ blockFields, offRx g = true ∧ Fld.apart D.MgCounters.RCP_FRAMES g = true ∧
      Fld.apart D.MgStatus.CONFIRM_PENDING g = true := by decide
  obtain ⟨hrx, hrcp, hconfirm⟩ := hoff g hg
  rw [Dev.rd_atBody _ _ _ _ hrx hrcp hconfirm, Dev.rd_elapse]

theorem Dev.laneState_atBody (e : Nat) : (d.atBody q).laneState e = d.laneState e := (d.sameLanes_atBody q).laneState e

theorem Dev.dl_atBody (e : Nat) : (d.atBody q).dl e = d.dl e := (d.sameLanes_atBody q).dl e

theorem Dev.readySpare_atBody (g : Nat) : (d.atBody q).readySpare g = d.readySpare g := by
  simp (disch := decide) only [Dev.readySpare, Dev.spareReady, Dev.laneState_atBody, Dev.dl_atBody, Dev.rd_atBody]

theorem Dev.laneLocked_atBody (lane : Nat) : (d.atBody q).laneLocked lane = d.laneLocked lane := by
  have hon (f : Fld) (hrx : offRx f = true) (hrcp : Fld.apart D.MgCounters.RCP_FRAMES f = true)
      (hconfirm : Fld.apart D.MgStatus.CONFIRM_PENDING f = true) : (d.atBody q).on f = d.on f :=
    funext fun n => congrArg (· == 1) (Dev.rd_atBody d q f n hrx hrcp hconfirm)
  unfold Dev.laneLocked
  rw [hon D.SdiRxStatus.LOCKED (by decide) (by decide) (by decide), hon D.SpareStatus.IN_USE (by decide) (by decide) (by decide),
    hon D.PortStatus.PCS_ALIGNED (by decide) (by decide) (by decide), hon D.LaneStatus.CDR_LOCKED (by decide) (by decide) (by decide),
    show (d.atBody q).rd D.SpareStatus.LANE = d.rd D.SpareStatus.LANE from funext fun n => Dev.rd_atBody _ _ _ _ (by decide) (by decide) (by decide),
    show (d.atBody q).portOfLane = d.portOfLane from funext fun l => Dev.portOfLane_congr _ _ fun p =>
      Dev.rd_atBody _ _ _ _ (by decide) (by decide) (by decide)]

@[simp] theorem Dev.dl_answer (r : Reply) (e : Nat) : (d.answer q r).dl e = d.dl e := by
  rw [Dev.dl, Dev.dwl_answer, Dev.dl]

theorem Dev.laneState_answer (r : Reply) (e : Nat) : (d.answer q r).laneState e = d.laneState e :=
  Dev.rd_answer _ _ _ _ _ (by decide) (by decide)

end

/-! ## What lanes show after an update -/

section
variable (d : Dev) (e st use : Nat)

@[simp] theorem Dev.laneState_setDl (k : Nat) (f : DwlLaneSt → DwlLaneSt) : (d.setDl k f).laneState e = d.laneState e := (rfl)

theorem Dev.laneState_wr {f : Fld} (n v : Nat) (hf : Fld.apart f D.DwlLane.LANE_STATE = true) :
    (d.wr f n v).laneState e = d.laneState e := Dev.rd_wr_apart _ _ _ _ _ _ hf

theorem Dev.laneState_laneTo_same : (d.laneTo e st use).laneState e = st % 8 := by
  rw [Dev.laneTo, Dev.laneState_wr _ _ _ _ (by decide), Dev.laneState, Dev.rd_wr_same]
  rfl

theorem Dev.laneState_laneTo_ne {k : Nat} (h : k ≠ e) : (d.laneTo e st use).laneState k = d.laneState k := by
  rw [Dev.laneTo, Dev.laneState_wr _ _ _ _ (by decide), Dev.laneState, Dev.rd_wr_ne _ _ _ _ _ h, Dev.laneState]

theorem Dev.rd_showSpares (g : Nat) {f : Fld} (m : Nat) (huse : Fld.apart D.LaneStatus.USE f = true)
    (hready : Fld.apart D.Phy.DWL_SPARES_READY f = true) : (d.showSpares g).rd f m = d.rd f m := by
  refine (Dev.rd_wr_apart _ _ _ _ _ _ hready).trans (Dev.rd_each _ _ _ _ _ fun d e => ?_)
  exact Dev.rd_ite _ _ (Dev.rd_wr_apart _ _ _ _ _ _ huse) rfl

theorem Dev.laneState_showSpares (g : Nat) : (d.showSpares g).laneState e = d.laneState e :=
  Dev.rd_showSpares d g e (by decide) (by decide)

/-- A ready spare is in state SPARE_PRBS (R239). -/
theorem Dev.laneState_of_readySpare {d : Dev} {g sp : Nat} (h : d.readySpare g = some sp) : d.laneState sp = LaneState.SPARE_PRBS := by
  have hready : d.spareReady sp = true := List.find?_some h
  exact beq_iff_eq.1 (Bool.and_eq_true_iff.1 hready).1

/-- R242: the spare stands in the lane's place, and the lane climbs again. -/
theorem Dev.laneState_swapOut {sp : Nat} (hne : sp ≠ e) (hwait : (d.dl e).await = false) :
    (d.swapOut e sp).laneState e = LaneState.TRAINING ∧ (d.swapOut e sp).laneState sp = LaneState.IN_ROTATION := by
  simp only [Dev.swapOut, hwait, Bool.false_eq_true, if_false, Dev.swapped]
  refine ⟨?_, ?_⟩
  · rw [Dev.laneState_wr _ _ _ _ (by decide), Dev.laneState_laneTo_same]
    rfl
  · rw [Dev.laneState_wr _ _ _ _ (by decide), Dev.laneState_laneTo_ne _ _ _ _ hne, Dev.laneState_setDl, Dev.laneState_showSpares,
      Dev.laneState_setDl, Dev.laneState_setDl, Dev.laneState_laneTo_same]
    rfl

end

/-! ## The value of a LANE_CMD (Table 08.5) -/

theorem laneCmdValue_eq {cmd target lane : Nat} (htarget : target < 256) (hlane : lane ≤ 235) :
    laneCmdValue cmd target lane = cmd * 2 ^ 24 + target * 2 ^ 16 + lane := by
  rw [laneCmdValue, Nat.mod_eq_of_lt htarget, Nat.mod_eq_of_lt (show lane < 65536 by omega)]

theorem laneCmdValue_fields {cmd target lane : Nat} (hcmd : cmd < 256) (htarget : target < 256) (hlane : lane ≤ 235) :
    bitsOf (laneCmdValue cmd target lane) 24 8 = cmd ∧ bitsOf (laneCmdValue cmd target lane) 16 8 = target ∧
      bitsOf (laneCmdValue cmd target lane) 0 16 = lane := by
  rw [laneCmdValue_eq htarget hlane]
  simp only [bitsOf]
  omega

/-- What the commands 1 to 5 do. -/
def Dev.laneCmdBody (d : Dev) (cmd target lane : Nat) : Dev × Nat :=
  match cmd with
  | 1 => d.cmdStep lane
  | 2 => d.cmdSwap lane
  | 3 => d.cmdRetrain lane
  | 4 => d.cmdScan target lane
  | _ => d.cmdAbort lane

/-- A command that names a lane, and a target only for a scan, is carried out. -/
theorem Dev.laneCmd_eq (d : Dev) {cmd target lane : Nat} (hcmd : 1 ≤ cmd ∧ cmd ≤ 5) (hnone : cmd = 4 ∨ target = 0) (htarget : target < 256)
    (hlane : lane ≤ 235) : d.laneCmd (laneCmdValue cmd target lane) = d.laneCmdBody cmd target lane := by
  obtain ⟨hlow, hhigh⟩ := hcmd
  obtain ⟨hc, ht, hl⟩ := laneCmdValue_fields (show cmd < 256 by omega) htarget hlane
  have hform : ¬(235 < lane ∨ cmd = 0 ∨ 5 < cmd ∨ (cmd ≠ 4 ∧ target ≠ 0)) := by omega
  simp only [Dev.laneCmd, hc, ht, hl, if_neg hform]
  interval_cases cmd <;> rfl

/-! ## The commands -/

/-- R248: a holding lane is allowed its next step. -/
theorem Dev.cmdStep_holding {d : Dev} {lane : Nat} (hdowel : isDowel lane = true) (hmode : d.rd D.Phy.MODE 0 = 1)
    (htrain : (d.laneBlocks (lane - 164)).laneState (lane - 164) = LaneState.TRAINING)
    (hdwelt : ((d.laneBlocks (lane - 164)).dl (lane - 164)).dwelt = true) (hstep : ((d.laneBlocks (lane - 164)).dl (lane - 164)).step < 4)
    (hoffer : ((d.laneBlocks (lane - 164)).dl (lane - 164)).offerTx = false)
    (hallow : ((d.laneBlocks (lane - 164)).dl (lane - 164)).allow = false) :
    d.cmdStep lane = ((d.laneBlocks (lane - 164)).setDl (lane - 164) (fun x => { x with allow := true }), St.OK) := by
  have hmode' : (d.laneBlocks (lane - 164)).rd D.Phy.MODE 0 = 1 :=
    (((Dev.Sent.refl d).laneBlocks _).rd _ (by decide) _).trans hmode
  simp only [Dev.cmdStep, hdowel, hmode', htrain, hdwelt, hoffer, hallow, Nat.not_le.2 hstep, Bool.not_true, Bool.false_eq_true, ne_eq,
    not_true_eq_false, or_self, if_false]

/-- R242: a lane of the rotation whose group has a ready spare. -/
theorem Dev.cmdSwap_inRotation {d : Dev} {lane sp : Nat} (hdowel : isDowel lane = true)
    (hstate : d.laneState (lane - 164) = LaneState.IN_ROTATION) (hspare : d.readySpare ((lane - 164) / 9) = some sp) :
    d.cmdSwap lane = (d.swapOut (lane - 164) sp, St.OK) := by
  simp only [Dev.cmdSwap, hdowel, hstate, hspare, Bool.not_true, Bool.false_eq_true, ne_eq, not_true_eq_false, or_self, if_false]

/-- R245: a FAILED lane starts again, and what it shows of that stands. -/
theorem Dev.cmdRetrain_failed {d : Dev} {lane : Nat} (hdowel : isDowel lane = true) (hstate : d.laneState (lane - 164) = LaneState.FAILED) :
    ∃ e : Dev, d.cmdRetrain lane = (e, St.OK) ∧ e.laneState (lane - 164) = LaneState.TRAINING ∧ e.rd D.DwlLane.STEP (lane - 164) = 0 := by
  have hoff : LaneState.FAILED ≠ LaneState.OFF := by decide
  simp only [Dev.cmdRetrain, hdowel, hstate, hoff, Bool.not_true, Bool.false_eq_true, ne_eq, not_true_eq_false, false_and, or_self, if_false]
  refine ⟨_, rfl, ?_, ?_⟩
  · rw [Dev.laneState_showSpares, Dev.laneState_wr _ _ _ _ (by decide), Dev.laneState_setDl, Dev.laneState_laneStart]
  · rw [Dev.rd_showSpares _ _ _ (by decide) (by decide), Dev.rd_wr_apart _ _ _ _ _ _ (by decide), Dev.rd_setDl, Dev.step_laneStart]

/-- R238: a scan of a lane begins now. -/
def Dev.scanBegun (d : Dev) (lane : Nat) : Dev := { d with phy := { d.phy with scans := d.phy.scans ++ [(lane, d.wall)] } }

/-- R238: the scans of a lane are over. -/
def Dev.scanEnded (d : Dev) (lane : Nat) : Dev := { d with phy := { d.phy with scans := d.phy.scans.filter (fun x => x.1 != lane) } }

theorem Dev.cmdScan_locked {d : Dev} {target lane : Nat} (hlow : 6 ≤ target) (hhigh : target ≤ 15) (hlock : d.laneLocked lane = true)
    (hrate : 128 ≤ lane ∨ d.rd D.SdiRxStatus.RATE lane ≠ 1) (hroom : d.phy.scans.length < 8)
    (hidle : d.phy.scans.any (fun x => x.1 == lane) = false) :
    d.cmdScan target lane = (((d.scanBegun lane).wr D.Margin.SCAN_STATE lane 1).wr D.Margin.TARGET_EXP lane target, St.OK) := by
  have htarget : ¬(target < 6 ∨ 15 < target) := by omega
  have hsdi : ¬(lane < 128 ∧ d.rd D.SdiRxStatus.RATE lane = 1) := by omega
  simp only [Dev.cmdScan, if_neg htarget, hlock, hsdi, Nat.not_le.2 hroom, hidle, Bool.not_true, Bool.false_eq_true, or_self, if_false,
    Dev.scanBegun]

theorem Dev.cmdAbort_running {d : Dev} {lane : Nat} (hrun : d.phy.scans.any (fun x => x.1 == lane) = true) :
    d.cmdAbort lane = ((d.scanEnded lane).wr D.Margin.SCAN_STATE lane 3, St.OK) := by
  simp only [Dev.cmdAbort, Dev.scanAbort, hrun, if_true, Dev.scanEnded]

theorem Dev.scans_scanEnded (d : Dev) (lane : Nat) : (d.scanEnded lane).phy.scans.any (fun x => x.1 == lane) = false := by
  simp [Dev.scanEnded]

theorem lane_le_of_isDowel {lane : Nat} (h : isDowel lane = true) : lane ≤ 235 := of_decide_eq_true (Bool.and_eq_true_iff.1 h).2

section
variable {s : State} {q : Rcp} {lane : Nat}

/-- A granted LANE_CMD answers what its body gives. -/
theorem State.act_laneCmd {me : Instr} {cmd target : Nat} {e : Dev} (hcmd : 1 ≤ cmd ∧ cmd ≤ 5) (hnone : cmd = 4 ∨ target = 0)
    (htarget : target < 256) (hlane : lane ≤ 235)
    (hgrant : s.dev.grants q 0x0800 2 ⟨4, cmd * 2 ^ 24 + target * 2 ^ 16 + lane⟩ = true)
    (hbody : (s.dev.atBody q).laneCmdBody cmd target lane = (e, St.OK)) :
    s.act (serveWrite me q 0x0800 2 ⟨4, laneCmdValue cmd target lane⟩ fun _ d => d.laneCmd (laneCmdValue cmd target lane))
      = .next { s with dev := e.answer q (Reply.of St.OK) } := by
  rw [← laneCmdValue_eq htarget hlane] at hgrant
  rw [← Dev.laneCmd_eq _ hcmd hnone htarget hlane] at hbody
  rw [State.act, serveWrite_answers hgrant hbody (by decide)]

theorem Dev.answered_ok (d : Dev) : (d.answer q (Reply.of St.OK)).answered q St.OK = true := Dev.answered_answer d q (Reply.of St.OK) (by decide)

theorem laneCmdStep_completes (hgrant : s.dev.grants q 0x0800 2 ⟨4, 2 ^ 24 + lane⟩ = true) (hdowel : isDowel lane = true)
    (hmode : s.dev.rd D.Phy.MODE 0 = 1)
    (htrain : ((s.dev.elapse q.dt).laneBlocks (lane - 164)).laneState (lane - 164) = LaneState.TRAINING)
    (hdwelt : (((s.dev.elapse q.dt).laneBlocks (lane - 164)).dl (lane - 164)).dwelt = true)
    (hstep : (((s.dev.elapse q.dt).laneBlocks (lane - 164)).dl (lane - 164)).step < 4)
    (hoffer : (((s.dev.elapse q.dt).laneBlocks (lane - 164)).dl (lane - 164)).offerTx = false)
    (hallow : (((s.dev.elapse q.dt).laneBlocks (lane - 164)).dl (lane - 164)).allow = false) :
    Completes (.laneCmdStep q lane) s (fun t => t.dev.answered q St.OK = true ∧ (t.dev.dl (lane - 164)).allow = true) := by
  have hsame := (s.dev.sameLanes_atBody q).laneBlocks (lane - 164)
  have hbody := Dev.cmdStep_holding (d := s.dev.atBody q) hdowel (((s.dev.sameLanes_atBody q).rd _ (by decide) _).trans hmode)
    ((hsame.laneState _).trans htrain) (by rw [hsame.dl, hdwelt]) (by rw [hsame.dl]; exact hstep) (by rw [hsame.dl, hoffer])
    (by rw [hsame.dl, hallow])
  refine ⟨_, State.act_laneCmd (by decide) (.inr rfl) (by decide) (lane_le_of_isDowel hdowel) hgrant hbody, Dev.answered_ok _, ?_⟩
  rw [Dev.dl_answer, Dev.dl_setDl_same]

theorem laneCmdSwapOut_completes {sp : Nat} (hgrant : s.dev.grants q 0x0800 2 ⟨4, 2 * 2 ^ 24 + lane⟩ = true) (hdowel : isDowel lane = true)
    (hstate : s.dev.laneState (lane - 164) = LaneState.IN_ROTATION) (hspare : s.dev.readySpare ((lane - 164) / 9) = some sp)
    (hwait : (s.dev.dl (lane - 164)).await = false) :
    Completes (.laneCmdSwapOut q lane) s (fun t => t.dev.answered q St.OK = true ∧ t.dev.laneState (lane - 164) = LaneState.TRAINING ∧
      t.dev.laneState sp = LaneState.IN_ROTATION) := by
  have hne : sp ≠ lane - 164 := by
    intro hself
    rw [← hself, Dev.laneState_of_readySpare hspare] at hstate
    exact absurd hstate (by decide)
  have hbody := Dev.cmdSwap_inRotation hdowel ((s.dev.laneState_atBody q _).trans hstate) ((s.dev.readySpare_atBody q _).trans hspare)
  refine ⟨_, State.act_laneCmd (by decide) (.inr rfl) (by decide) (lane_le_of_isDowel hdowel) hgrant hbody, Dev.answered_ok _, ?_⟩
  rw [Dev.laneState_answer, Dev.laneState_answer]
  exact Dev.laneState_swapOut _ _ hne (by rw [Dev.dl_atBody, hwait])

theorem laneCmdRetrain_completes (hgrant : s.dev.grants q 0x0800 2 ⟨4, 3 * 2 ^ 24 + lane⟩ = true) (hdowel : isDowel lane = true)
    (hstate : s.dev.laneState (lane - 164) = LaneState.FAILED) :
    Completes (.laneCmdRetrain q lane) s (fun t => t.dev.answered q St.OK = true ∧ t.dev.laneState (lane - 164) = LaneState.TRAINING ∧
      t.dev.rd D.DwlLane.STEP (lane - 164) = 0) := by
  obtain ⟨e, hbody, htrain, hstep⟩ := Dev.cmdRetrain_failed hdowel ((s.dev.laneState_atBody q _).trans hstate)
  refine ⟨_, State.act_laneCmd (by decide) (.inr rfl) (by decide) (lane_le_of_isDowel hdowel) hgrant hbody, Dev.answered_ok _, ?_, ?_⟩
  · rw [Dev.laneState_answer, htrain]
  · rw [Dev.rd_answer _ _ _ _ _ (by decide) (by decide), hstep]

theorem laneCmdMarginScan_completes {target : Nat} (hgrant : s.dev.grants q 0x0800 2 ⟨4, 4 * 2 ^ 24 + target * 2 ^ 16 + lane⟩ = true)
    (hlow : 6 ≤ target) (hhigh : target ≤ 15) (hlane : lane ≤ 235) (hlock : s.dev.laneLocked lane = true)
    (hrate : 128 ≤ lane ∨ s.dev.rd D.SdiRxStatus.RATE lane ≠ 1) (hroom : s.dev.phy.scans.length < 8)
    (hidle : s.dev.phy.scans.any (fun x => x.1 == lane) = false) :
    Completes (.laneCmdMarginScan q target lane) s (fun t => t.dev.answered q St.OK = true ∧ t.dev.rd D.Margin.SCAN_STATE lane = 1 ∧
      t.dev.rd D.Margin.TARGET_EXP lane = target) := by
  have htarget : target < 256 := by omega
  have hbody := Dev.cmdScan_locked (d := s.dev.atBody q) hlow hhigh ((s.dev.laneLocked_atBody q _).trans hlock)
    (by rwa [Dev.rd_atBody _ _ _ _ (by decide) (by decide) (by decide)]) (by rwa [Dev.phy_atBody]) (by rwa [Dev.phy_atBody])
  refine ⟨_, State.act_laneCmd (by decide) (.inl rfl) htarget hlane hgrant hbody, Dev.answered_ok _, ?_, ?_⟩
  · rw [Dev.rd_answer _ _ _ _ _ (by decide) (by decide), Dev.rd_wr_apart _ _ _ _ _ _ (by decide), Dev.rd_wr_same]
    rfl
  · rw [Dev.rd_answer _ _ _ _ _ (by decide) (by decide), Dev.rd_wr_same]
    exact Nat.mod_eq_of_lt htarget

theorem laneCmdMarginAbort_completes (hgrant : s.dev.grants q 0x0800 2 ⟨4, 5 * 2 ^ 24 + lane⟩ = true) (hlane : lane ≤ 235)
    (hrun : s.dev.phy.scans.any (fun x => x.1 == lane) = true) :
    Completes (.laneCmdMarginAbort q lane) s (fun t => t.dev.answered q St.OK = true ∧ t.dev.rd D.Margin.SCAN_STATE lane = 3 ∧
      t.dev.phy.scans.any (fun x => x.1 == lane) = false) := by
  have hbody := Dev.cmdAbort_running (d := s.dev.atBody q) (by rwa [Dev.phy_atBody])
  refine ⟨_, State.act_laneCmd (by decide) (.inr rfl) (by decide) hlane hgrant hbody, Dev.answered_ok _, ?_, ?_⟩
  · rw [Dev.rd_answer _ _ _ _ _ (by decide) (by decide), Dev.rd_wr_same]
    rfl
  · rw [Dev.phy_answer, Dev.wr_phy, Dev.scans_scanEnded]

end

/-- R238: the eye of a locked lane is shown when its scan is done. -/
theorem marginScanDone_completes {s : State} {dt lane t0 : Nat} (width height : Nat) (hstage : 5 ≤ s.dev.stage)
    (hreset : s.dev.inReset = false) (hscan : (s.dev.lanesAt dt).phy.scans.find? (fun x => x.1 == lane) = some (lane, t0))
    (hlock : (s.dev.lanesAt dt).laneLocked lane = true) :
    Completes (.marginScanDone dt lane width height) s (fun t => t.dev.rd D.Margin.SCAN_STATE lane = 2 ∧
      t.dev.rd D.Margin.WIDTH_MUI lane = min width 65535 ∧ t.dev.rd D.Margin.HEIGHT_MV lane = min height 65535 ∧
      t.dev.rd D.Margin.SCAN_MS lane = min 65535 ((s.dev.wall + dt - t0) / 1000000)) := by
  have hwall : (s.dev.lanesAt dt).wall = s.dev.wall + dt := (s.dev.sent_lanesAt dt).wall
  refine Completes.of_lanesRun hstage hreset rfl ?_
  simp only [hscan, hlock, Bool.not_true, Bool.false_eq_true, if_false]
  simp (disch := decide) only [Dev.rd_wr_apart, Dev.rd_wr_same, Dev.wr_wall, hwall]
  refine ⟨rfl, ?_, ?_, ?_⟩ <;> exact Nat.mod_eq_of_lt (by simp only [D.Margin.WIDTH_MUI, D.Margin.HEIGHT_MV, D.Margin.SCAN_MS]; omega)

/-- Settles O30, a lemma for each command: its body acts on lanes that the frame's arrival has left alone, and what it shows stands in fields
that its other writes and the answer leave alone. -/
theorem laneCommandsComplete : Obligations.LaneCommandsComplete := by
  unfold Obligations.LaneCommandsComplete
  exact ⟨fun _ _ _ => laneCmdStep_completes, fun _ _ _ _ => laneCmdSwapOut_completes, fun _ _ _ => laneCmdRetrain_completes,
    fun _ _ _ _ => laneCmdMarginScan_completes, fun _ _ _ => laneCmdMarginAbort_completes,
    fun _ _ _ width height _ => marginScanDone_completes width height⟩

end Sys2Proof.Machine
end

section
/-! Obligations of 08_lane_phy.md that fail: the seconds of a spare that the device remembers (R239). -/

namespace Sys2Proof.Machine

open Sys2Proof

/-- A device in service. Lane 8 of group 7 shows SPARE_PRBS, and one second without errors stands in its record; but its bring-up stands at
S3, one training block short of the 16 that follow an agreed offer (R212). The commands leave a spare at S4; the statement asks this of no
state. -/
def spareBelowS4 : Dev :=
  ({ Dev.reset with rst := {} } : Dev)
    |>.wr D.Rst.STARTUP_STAGE 0 6 |>.wr D.DwlLane.LANE_STATE 71 LaneState.SPARE_PRBS
    |>.setDl 71 (fun x => { x with step := 3, dwelt := true, offerTx := true, offerRx := true, acceptTx := true, acceptRx := true,
                                   more := 15, filler := [0] })

/-- Before the second that has passed is judged the spare sends its training blocks up to the present. The first of them ends S3, and with the
step the lane's record starts anew: what was remembered of the second before is gone. -/
theorem exec_spareReadinessCheck_spareBelowS4 :
    ∃ t, exec (.spareReadinessCheck 1000000000 7 0) ⟨spareBelowS4, [], []⟩ = .next t ∧ (t.dev.dl 71).filler = [0] :=
  ⟨_, rfl, by decide +kernel⟩

/-- Refutes O31: its third clause says that a spare's second within the limit is put before those remembered. Here the one remembered is
forgotten. -/
theorem not_laneFailuresComplete : ¬ Obligations.LaneFailuresComplete := by
  unfold Obligations.LaneFailuresComplete
  intro ⟨_, _, hspare, _⟩
  obtain ⟨t, hexec, hkept, _⟩ := hspare ⟨spareBelowS4, [], []⟩ 1000000000 7 0 71 (by decide) (by decide) (by decide) (by decide) (by decide)
    (by decide)
  obtain ⟨t', hexec', hlost⟩ := exec_spareReadinessCheck_spareBelowS4
  obtain rfl : t = t' := Host.Outcome.next.inj (hexec.symm.trans hexec')
  have hbefore : (spareBelowS4.dl 71).filler = [0] := by decide
  rw [hlost, hbefore] at hkept
  exact absurd hkept (by decide)

end Sys2Proof.Machine
end

section
/-! Obligations of 09_frame_store.md: channels train, follow their drift, degrade, recover and fail, and enter and leave self-refresh (R261 to
R269). -/

namespace Sys2Proof.Machine

open Sys2Proof

-- Proofs one after another, as in the lemmas on what the take engine tells: for the memory of the check.
set_option Elab.async false

/-! ## What a channel holds and shows -/

section
variable (d : Dev) (c dt : Nat)

@[simp] theorem Dev.chanState_elapse : (d.elapse dt).chanState c = d.chanState c := (rfl)
@[simp] theorem Dev.chanSt_elapse : (d.elapse dt).chanSt c = d.chanSt c := (rfl)
@[simp] theorem Dev.chanServes_elapse : (d.elapse dt).chanServes c = d.chanServes c := (rfl)
@[simp] theorem Dev.setTried_elapse : (d.elapse dt).setTried c = d.setTried c := (rfl)
@[simp] theorem Dev.reqWaits_elapse : (d.elapse dt).reqWaits c = d.reqWaits c := (rfl)
@[simp] theorem Dev.pasrMask_elapse : (d.elapse dt).pasrMask c = d.pasrMask c := (rfl)
@[simp] theorem Dev.restarts_elapse (kind : Nat) : (d.elapse dt).restarts kind = d.restarts kind := (rfl)
@[simp] theorem Dev.wall_elapse : (d.elapse dt).wall = d.wall + dt := (rfl)

@[simp] theorem Dev.chanSt_setChan_same (f : ChanSt → ChanSt) : (d.setChan c f).chanSt c = f (d.chanSt c) := nget_nput_same ..
@[simp] theorem Dev.chanSt_wr (f : Fld) (n v : Nat) : (d.wr f n v).chanSt c = d.chanSt c := (rfl)
@[simp] theorem Dev.chanSt_raise (src inst : Nat) : (d.raise src inst).chanSt c = d.chanSt c := (rfl)
@[simp] theorem Dev.chanSt_drawnN (n : Nat) : (d.drawnN n).chanSt c = d.chanSt c := (rfl)
@[simp] theorem Dev.rd_setChan (f : ChanSt → ChanSt) (g : Fld) (m : Nat) : (d.setChan c f).rd g m = d.rd g m := (rfl)
@[simp] theorem Dev.chanState_setChan (k : Nat) (f : ChanSt → ChanSt) : (d.setChan k f).chanState c = d.chanState c := (rfl)
@[simp] theorem Dev.chanState_raise (src inst : Nat) : (d.raise src inst).chanState c = d.chanState c := (rfl)

theorem Dev.chanState_chanTo {st : Nat} (h : st < 8) : (d.chanTo c st).chanState c = st :=
  (Dev.rd_wr_same ..).trans (Nat.mod_eq_of_lt h)

theorem Dev.mem_raised_raiseL (src inst : Nat) : ⟨src, inst, true⟩ ∈ (d.raiseL src inst).raised :=
  List.mem_append_right _ (List.mem_singleton_self _)

end

/-! ## Training (R265, R266, R275) -/

section
variable (d : Dev) {g : Fld} (m : Nat)

/-- Blocks that regrowth grants clear bits of PASR_MASK and no other field (R264, R272). -/
theorem Dev.rd_regrow_apart (hmask : Fld.apart D.ChanStatus.PASR_MASK g = true) : d.regrow.rd g m = d.rd g m := by
  have hunmask (d : Dev) (got : List Nat) : (d.unmask got).rd g m = d.rd g m :=
    Dev.rd_each _ _ _ _ _ fun _ _ => Dev.rd_wr_apart _ _ _ _ _ _ hmask
  have hfill (d : Dev) (h : Nat) (ls : List Nat) (host lost : Bool) : (d.fillBlocks h ls host lost).rd g m = d.rd g m := by
    unfold Dev.fillBlocks
    split
    · rfl
    · exact Dev.rd_ite g m ((Dev.rd_spendHost ..).trans (hunmask ..)) (hunmask ..)
  have hclass (d : Dev) (cls : List Nat) (least : Bool) : (d.regrowClass cls least).rd g m = d.rd g m :=
    Dev.rd_foldl _ _ _ _ _ fun _ _ => Dev.rd_ite g m rfl (hfill ..)
  exact Dev.rd_foldl _ _ _ _ _ fun _ _ => (hclass ..).trans (Dev.rd_ite g m (hclass ..) rfl)

/-- Repaired rows are counted and noted in the knot map (R275). -/
theorem Dev.rd_repairRows (c : Nat) (bad : List Nat) (hrows : Fld.apart D.ChanCounters.ROWS_REPAIRED g = true)
    (hfull : Fld.apart D.KnotStatus.FULL g = true) : (d.repairRows c bad).rd g m = d.rd g m := by
  refine Dev.rd_each _ _ _ _ _ fun d r => ?_
  rw [Dev.rd_knotAdd _ _ _ _ _ _ _ _ hfull, Dev.rd_sat_apart _ _ _ _ _ _ hrows]
  exact Dev.rd_ite g m (Dev.rd_setChan ..) ((Dev.rd_setStore ..).trans (Dev.rd_setChan ..))

end

/-- A loop over nothing. -/
theorem Dev.each_nil (d : Dev) (f : Dev → Nat → Dev) : d.each [] f = d := (rfl)

/-- What a channel shows of the set that has passed: its state, and the set. -/
def passedFields : List Fld := [D.ChanStatus.STATE, D.ChanStatus.SET_IN_USE]

/-- A set that passes puts the channel ONLINE. Rows repaired, a RETIRED channel restored and allocations that regrow leave what it shows. -/
theorem exec_chanTrainingSetDone_passed {s : State} (dt : Nat) {chan k : Nat} (hreset : s.dev.inReset = false) (hchan : chan < 32)
    (hstate : s.dev.chanState chan = ChanState.TRAINING) (htried : s.dev.setTried chan = some k) :
    ∃ e : Dev, exec (.chanTrainingSetDone dt chan true []) s = .next { s with dev := e } ∧ ∀ g ∈ passedFields, ∀ m,
      e.rd g m = (((s.dev.elapse dt).chanTo chan ChanState.ONLINE).wr D.ChanStatus.SET_IN_USE chan k).rd g m := by
  refine ⟨_, rfl, fun g hg m => ?_⟩
  have hoff : ∀ g ∈ passedFields, Fld.apart D.ChanStatus.PASR_MASK g = true ∧ Fld.apart D.ChanCounters.ROWS_REPAIRED g = true ∧
      Fld.apart D.KnotStatus.FULL g = true := by decide
  obtain ⟨hmask, hrows, hfull⟩ := hoff g hg
  beta_reduce
  extract_lets d restore
  have hin : ¬(d.inReset = true ∨ 32 ≤ chan ∨ d.chanState chan ≠ ChanState.TRAINING) := by
    simp [d, hreset, hstate]; omega
  rw [if_neg hin, show d.setTried chan = some k from htried]
  simp -zeta only [if_true]
  extract_lets shown passed repaired defective restored
  have hrepaired : repaired.rd g m = shown.rd g m :=
    Dev.rd_ite g m ((Dev.rd_repairRows _ _ _ _ hrows hfull).trans (Dev.rd_setChan ..)) (Dev.rd_setChan ..)
  have hdefective : defective.rd g m = shown.rd g m := by
    rw [show defective = repaired from Dev.each_nil ..]
    exact hrepaired
  have hrestored : restored.rd g m = shown.rd g m :=
    Dev.rd_ite g m ((Dev.rd_knotAdd _ _ _ _ _ _ _ _ hfull).trans ((Dev.rd_endCond ..).trans hdefective)) hdefective
  exact Dev.rd_ite g m hrestored ((Dev.rd_regrow_apart _ _ hmask).trans hrestored)

/-! ## Failure and retirement (R268, R269) -/

section
variable (d : Dev) (c : Nat)

theorem Dev.chanState_startTraining (restore : Bool) : (d.startTraining c restore).chanState c = ChanState.TRAINING := by
  rw [Dev.startTraining, Dev.chanState, Dev.rd_flag_apart _ _ _ _ _ _ (by decide), Dev.rd_setChan, Dev.rd_sat_apart _ _ _ _ _ _ (by decide)]
  exact Dev.chanState_chanTo d c (by decide)

theorem Dev.rd_reserveCheck (o : Dev) (g : Fld) (m : Nat) : (Dev.reserveCheck o d).rd g m = d.rd g m := Dev.rd_ite g m (Dev.rd_raise ..) rfl

theorem Dev.chanState_retireChan : (d.retireChan c).chanState c = ChanState.RETIRED := by
  simp only [Dev.retireChan, Dev.chanState]
  rw [Dev.rd_reserveCheck, Dev.rd_knotAdd _ _ _ _ _ _ _ _ (by decide), Dev.rd_setChan, Dev.rd_wr_apart _ _ _ _ _ _ (by decide), Dev.rd_raiseL]
  exact Dev.chanState_chanTo d c (by decide)

/-- Whatever becomes of its blocks, a channel that fails is trained again, or retired where two failures of the last 24 h stand on record. -/
theorem Dev.chanState_chanFailed : (d.chanFailed c).chanState c =
    if 2 ≤ ((d.chanSt c).failedAt.filter (fun t => decide (d.wall < t + 86400000000000))).length then ChanState.RETIRED
    else ChanState.TRAINING := by
  simp only [Dev.chanFailed, Dev.chanTo, Dev.chanSt_raise, Dev.chanSt_wr, Dev.raise_wall, Dev.wr_wall, List.length_cons, Nat.reduceLeDiff]
  split
  · exact Dev.chanState_retireChan ..
  · exact Dev.chanState_startTraining ..

end

/-! ## Refresh and self-refresh (R261 to R264) -/

/-- Refresh changes nothing but up to when a channel has issued it. -/
theorem Dev.refreshIdle_cases (d : Dev) (c : Nat) :
    d.refreshIdle c = d ∨ ∃ t : ChanSt → Nat, d.refreshIdle c = d.setChan c (fun x => { x with refreshed := t x }) := by
  unfold Dev.refreshIdle
  split
  · exact .inr ⟨_, rfl⟩
  · split
    · exact .inl rfl
    · exact .inr ⟨_, rfl⟩

/-- What does not depend on what a channel holds is the same after refresh. -/
theorem Dev.refreshIdle_eq {α : Type} (d : Dev) (c : Nat) (φ : Dev → α) (hφ : ∀ f, φ (d.setChan c f) = φ d := by exact fun _ => rfl) :
    φ (d.refreshIdle c) = φ d := by
  obtain h | ⟨t, h⟩ := d.refreshIdle_cases c <;> rw [h]
  exact hφ _

/-- So is all that the channel holds beside that. -/
theorem Dev.chanSt_refreshIdle {α : Type} (d : Dev) (c : Nat) (φ : ChanSt → α)
    (hφ : ∀ x t, φ { x with refreshed := t } = φ x := by exact fun _ _ => rfl) : φ ((d.refreshIdle c).chanSt c) = φ (d.chanSt c) := by
  obtain h | ⟨t, h⟩ := d.refreshIdle_cases c <;> rw [h]
  rw [Dev.chanSt_setChan_same, hφ]

/-- SRE takes effect: the channel is in self-refresh and masks the segments that hold nothing in use (R262, R264). -/
def Dev.sreIssued (d : Dev) (c : Nat) : Dev :=
  (((d.flag D.ChanStatus.SELF_REFRESH c true).sat D.ChanCounters.SR_ENTRIES c 1).wr D.ChanStatus.PASR_MASK c (d.pasrMask c)).setChan c
    (fun x => { x with sreAt := d.wall })

theorem sumOf_le {α : Type} {f g : α → Nat} (h : ∀ a, f a ≤ g a) (l : List α) : sumOf f l ≤ sumOf g l := by
  induction l with
  | nil => exact Nat.le_refl _
  | cons a t ih => exact Nat.add_le_add (h a) ih

/-- A channel has eight segments, one bit of the mask each. -/
theorem Dev.pasrMask_lt (d : Dev) (c : Nat) : d.pasrMask c < 2 ^ 8 := by
  have hall : sumOf (fun k => 2 ^ k) (List.range 8) < 2 ^ 8 := by decide
  unfold Dev.pasrMask
  split
  · refine Nat.lt_of_le_of_lt (sumOf_le (fun k => ?_) _) hall
    split <;> simp
  · decide

section
variable (d : Dev) (c : Nat)

theorem Dev.on_sreIssued_selfRefresh : (d.sreIssued c).on D.ChanStatus.SELF_REFRESH c = true := by
  rw [Dev.sreIssued, Dev.on, Dev.rd_setChan, Dev.rd_wr_apart _ _ _ _ _ _ (by decide), Dev.rd_sat_apart _ _ _ _ _ _ (by decide)]
  exact Dev.on_flag_same _ _ _ _ rfl

theorem Dev.rd_sreIssued_entries : (d.sreIssued c).rd D.ChanCounters.SR_ENTRIES c = min (d.rd D.ChanCounters.SR_ENTRIES c + 1) (2 ^ 32 - 1) := by
  rw [Dev.sreIssued, Dev.rd_setChan, Dev.rd_wr_apart _ _ _ _ _ _ (by decide), Dev.rd_sat_same, Dev.rd_flag_apart _ _ _ _ _ _ (by decide)]
  rfl

theorem Dev.rd_sreIssued_mask : (d.sreIssued c).rd D.ChanStatus.PASR_MASK c = d.pasrMask c := by
  rw [Dev.sreIssued, Dev.rd_setChan, Dev.rd_wr_same]
  exact Nat.mod_eq_of_lt (Dev.pasrMask_lt d c)

end

/-! ## The commands -/

section
variable {s : State} (dt : Nat) {chan : Nat} (hserve : s.dev.serving = true) (hchan : chan < 32)
include hserve hchan

/-- R267: both delays move by what is drawn, at most 2 steps either way. -/
theorem exec_delayRecentre (hrun : s.dev.chanState chan = ChanState.ONLINE ∨ s.dev.chanState chan = ChanState.DEGRADED)
    (hdue : (s.dev.elapse dt).past (s.dev.chanSt chan).shiftAt 100000000 = true) (hsec : s.dev.restarts 3 = false) :
    ∃ r w : Nat, r < 5 ∧ w < 5 ∧ exec (.delayRecentre dt chan) s = .next { s with dev := ((s.dev.elapse dt).setChan chan (fun x =>
      { x with shift := (x.shift.1 + (r : Int) - 2, x.shift.2 + (w : Int) - 2), shiftAt := s.dev.wall + dt })).drawnN 2 } := by
  have hrun' : (s.dev.chanState chan == ChanState.ONLINE || s.dev.chanState chan == ChanState.DEGRADED) = true := by simpa using hrun
  have hin : ¬(32 ≤ chan ∨ (!true) = true ∨ (!true) = true ∨ false = true) := by simp; omega
  simp only [exec, execDelayRecentre, State.act, Dev.live_serving _ _ _ hserve, Dev.chanSt_elapse, Dev.chanState_elapse, hrun', hdue,
    Dev.restarts_elapse, hsec, if_neg hin]
  exact ⟨_, _, Nat.mod_lt _ (by decide), Nat.mod_lt _ (by decide), rfl⟩

section
variable (hdue : (s.dev.elapse dt).past (s.dev.chanSt chan).second 1000000000 = true)
include hdue

/-- Table 09.6: a second with too many corrected errors. -/
theorem exec_chanDegradeCheck_many (hmany : s.dev.rd D.Fs.RETRAIN_CORR_PER_S 0 < (s.dev.chanSt chan).corr)
    (hstate : s.dev.chanState chan = ChanState.ONLINE) : ∃ e : Dev, exec (.chanDegradeCheck dt chan) s
      = .next { s with dev := (e.chanTo chan ChanState.DEGRADED).raise Src.FS_CHAN_DEGRADED chan } := by
  have hin : ¬(32 ≤ chan ∨ (!true) = true) := by simp; omega
  simp only [exec, execChanDegradeCheck, State.act, Dev.live_serving _ _ _ hserve, Dev.chanSt_elapse, Dev.rd_elapse, hdue, if_neg hin,
    Dev.chanState_setChan, Dev.chanState_elapse, hstate, hmany, decide_true, and_self, if_true]
  exact ⟨_, rfl⟩

/-- Table 09.6: the tenth clean second. -/
theorem exec_chanDegradeCheck_tenth (hfew : (s.dev.chanSt chan).corr ≤ s.dev.rd D.Fs.RETRAIN_CORR_PER_S 0)
    (hclean : 9 ≤ (s.dev.chanSt chan).clean) (hstate : s.dev.chanState chan = ChanState.DEGRADED) :
    ∃ e : Dev, exec (.chanDegradeCheck dt chan) s = .next { s with dev := e.chanTo chan ChanState.ONLINE } := by
  have hin : ¬(32 ≤ chan ∨ (!true) = true) := by simp; omega
  have hten : 10 ≤ (s.dev.chanSt chan).clean + 1 := by omega
  simp only [exec, execChanDegradeCheck, State.act, Dev.live_serving _ _ _ hserve, Dev.chanSt_elapse, Dev.rd_elapse, hdue, if_neg hin,
    Dev.chanState_setChan, Dev.chanState_elapse, hstate, Nat.not_lt.2 hfew, decide_false, Bool.false_eq_true, and_false, if_false, hten,
    and_self, if_true]
  exact ⟨_, rfl⟩

end

/-- R269: a mode register that reads back wrong fails a channel that takes requests. -/
theorem exec_chanFail_mismatch (hrun : s.dev.chanServes chan = true) :
    exec (.chanFail dt chan 1) s = .next { s with dev := (s.dev.elapse dt).chanFailed chan } := by
  have hin : ¬(32 ≤ chan ∨ (!true) = true ∨ 1 < 1) := by simp; omega
  simp only [exec, execChanFail, State.act, Dev.live_serving _ _ _ hserve, Dev.chanServes_elapse, hrun, if_neg hin, Nat.one_ne_zero, false_and,
    if_false]

/-- R261: a temperature that rises above the high limit. -/
theorem exec_mr4Poll_rises (rate : Nat) (hoff : s.dev.chanState chan ≠ ChanState.OFFLINE) (hretired : s.dev.chanState chan ≠ ChanState.RETIRED)
    (hcool : (s.dev.chanSt chan).hot = false) : exec (.mr4Poll dt chan rate true) s = .next { s with
      dev := (((s.dev.elapse dt).wr D.ChanStatus.MR4_RATE chan rate).setChan chan (fun x => { x with hot := true })).raiseL
        Src.FS_DRAM_HOT chan } := by
  have hin : ¬(32 ≤ chan ∨ s.dev.chanState chan = ChanState.OFFLINE ∨ s.dev.chanState chan = ChanState.RETIRED) := by
    simp [hoff, hretired]; omega
  simp only [exec, execMr4Poll, State.act, Dev.live_serving _ _ _ hserve, Dev.chanState_elapse, if_neg hin, Dev.chanSt_elapse, hcool,
    Bool.not_false, Bool.and_self, if_true]

/-- R262: SRE ends the entry of a channel that no request waits for, and the segments masked then lose their contents (R264). -/
theorem exec_srEntry_issued (hrun : s.dev.chanServes chan = true) (hidle : s.dev.reqWaits chan = false)
    (hout : s.dev.on D.ChanStatus.SELF_REFRESH chan = false) (hentering : (s.dev.chanSt chan).entering = true) :
    exec (.srEntry dt chan true) s
      = .next ({ s with dev := ((s.dev.elapse dt).refreshIdle chan).sreIssued chan } : State).maskedLost := by
  have hin : ¬(32 ≤ chan ∨ (!true) = true ∨ false = true ∨ false = true) := by simp; omega
  have hserves : ((s.dev.elapse dt).refreshIdle chan).chanServes chan = s.dev.chanServes chan := Dev.refreshIdle_eq _ _ (Dev.chanServes · chan)
  have hwaits : ((s.dev.elapse dt).refreshIdle chan).reqWaits chan = s.dev.reqWaits chan := Dev.refreshIdle_eq _ _ (Dev.reqWaits · chan)
  have hself : ((s.dev.elapse dt).refreshIdle chan).on D.ChanStatus.SELF_REFRESH chan = s.dev.on D.ChanStatus.SELF_REFRESH chan :=
    Dev.refreshIdle_eq _ _ (Dev.on · _ chan)
  have henter : (((s.dev.elapse dt).refreshIdle chan).chanSt chan).entering = (s.dev.chanSt chan).entering :=
    Dev.chanSt_refreshIdle _ _ ChanSt.entering
  simp only [exec, execSrEntry, Dev.srEntry, Dev.live_serving _ _ _ hserve, hchan, if_true, hserves, hwaits, hself, henter, hrun, hidle, hout,
    hentering, if_neg hin, Dev.sreIssued]

section
variable (hwait : s.dev.reqWaits chan = true) (hentering : (s.dev.chanSt chan).entering = true)
include hwait hentering

/-- R263: a request that waits abandons an entry before SRE. -/
theorem exec_srExit_beforeSre (hout : s.dev.on D.ChanStatus.SELF_REFRESH chan = false) : exec (.srExit dt chan) s = .next { s with
      dev := ((s.dev.elapse dt).sat D.ChanCounters.SR_ABORTS chan 1).setChan chan
        (fun x => { x with entering := false, idleAt := s.dev.wall + dt }) } := by
  have hin : ¬(32 ≤ chan ∨ (!true) = true ∨ (!true) = true) := by simp; omega
  simp only [exec, execSrExit, State.act, Dev.live_serving _ _ _ hserve, Dev.chanSt_elapse, hentering, Dev.reqWaits_elapse, hwait, if_neg hin,
    Dev.on_elapse, hout, Bool.not_false, if_true, Dev.wall_elapse, Dev.sat]

/-- R263: self-refresh ends once it has lasted its least time. -/
theorem exec_srExit_afterSre (hself : s.dev.on D.ChanStatus.SELF_REFRESH chan = true)
    (hlong : (s.dev.elapse dt).past (s.dev.chanSt chan).sreAt 403 = true) :
    ∃ (e : Dev) (f : ChanSt → ChanSt), (∀ x, (f x).entering = false) ∧ exec (.srExit dt chan) s = .next { s with
      dev := ((e.flag D.ChanStatus.SELF_REFRESH chan false).wr D.ChanStatus.PASR_MASK chan 0).setChan chan f } := by
  have hin : ¬32 ≤ chan := by omega
  simp only [exec, execSrExit, State.act, Dev.live_serving _ _ _ hserve, Dev.chanSt_elapse, hentering, Dev.reqWaits_elapse, hwait, hin,
    Dev.on_elapse, hself, Bool.not_true, Bool.false_eq_true, or_self, if_false, hlong]
  exact ⟨_, _, fun _ => rfl, rfl⟩

end

end

/-- Settles O33: each command as its equation above says it, and what the channel then holds and shows. -/
theorem channelsComplete : Obligations.ChannelsComplete := by
  unfold Obligations.ChannelsComplete
  refine ⟨fun s dt chan k hreset hchan hstate htried hk => ?_, fun s dt chan hserve hchan hrun hdue hsec => ?_,
    fun s dt chan hserve hchan hdue hmany hstate => ?_, fun s dt chan hserve hchan hdue hfew hclean hstate => ?_,
    fun s dt chan hserve hchan hrun => ?_, fun s dt chan rate hserve hchan hoff hretired hcool hrate => ?_,
    fun s dt chan hserve hchan hrun hidle hout hentering => ?_, fun s dt chan hserve hchan hwait hout hentering => ?_,
    fun s dt chan hserve hchan hwait hself hentering hlong => ?_⟩
  · obtain ⟨e, hexec, hrd⟩ := exec_chanTrainingSetDone_passed dt hreset hchan hstate htried
    refine ⟨_, hexec, ?_, ?_⟩
    · rw [Dev.chanState, hrd _ (by decide), Dev.rd_wr_apart _ _ _ _ _ _ (by decide)]
      exact Dev.chanState_chanTo _ _ (by decide)
    · rw [hrd _ (by decide), Dev.rd_wr_same]
      exact Nat.mod_eq_of_lt hk
  · obtain ⟨r, w, hr, hw, hexec⟩ := exec_delayRecentre dt hserve hchan hrun hdue hsec
    refine ⟨_, hexec, ?_⟩
    simp only [Dev.chanSt_drawnN, Dev.chanSt_setChan_same, Dev.chanSt_elapse, true_and]
    omega
  · obtain ⟨e, hexec⟩ := exec_chanDegradeCheck_many dt hserve hchan hdue hmany hstate
    exact ⟨_, hexec, (Dev.chanState_raise ..).trans (Dev.chanState_chanTo e chan (by decide)),
      List.contains_iff_mem.2 (Dev.mem_raised_raise ..)⟩
  · obtain ⟨e, hexec⟩ := exec_chanDegradeCheck_tenth dt hserve hchan hdue hfew hclean hstate
    exact ⟨_, hexec, Dev.chanState_chanTo e chan (by decide)⟩
  · have hstate := Dev.chanState_chanFailed (s.dev.elapse dt) chan
    rw [Dev.chanSt_elapse, Dev.wall_elapse] at hstate
    exact ⟨_, exec_chanFail_mismatch dt hserve hchan hrun, hstate⟩
  · refine ⟨_, exec_mr4Poll_rises dt hserve hchan rate hoff hretired hcool, ?_, List.contains_iff_mem.2 (Dev.mem_raised_raiseL ..)⟩
    rw [Dev.rd_raiseL, Dev.rd_setChan, Dev.rd_wr_same]
    exact Nat.mod_eq_of_lt (show rate < 32 by omega)
  · have hentries : ((s.dev.elapse dt).refreshIdle chan).rd D.ChanCounters.SR_ENTRIES chan = s.dev.rd D.ChanCounters.SR_ENTRIES chan :=
      Dev.refreshIdle_eq _ _ (Dev.rd · _ chan)
    have hmask : ((s.dev.elapse dt).refreshIdle chan).pasrMask chan = s.dev.pasrMask chan := Dev.refreshIdle_eq _ _ (Dev.pasrMask · chan)
    refine ⟨_, exec_srEntry_issued dt hserve hchan hrun hidle hout hentering, Dev.on_sreIssued_selfRefresh .., ?_, ?_, rfl⟩
    · rw [← hentries]
      exact Dev.rd_sreIssued_entries ..
    · rw [← hmask]
      exact Dev.rd_sreIssued_mask ..
  · refine ⟨_, exec_srExit_beforeSre dt hserve hchan hwait hentering hout, ?_, ?_⟩
    · rw [Dev.chanSt_setChan_same]
    · rw [Dev.rd_setChan, Dev.rd_sat_same]
      rfl
  · obtain ⟨e, f, hf, hexec⟩ := exec_srExit_afterSre dt hserve hchan hwait hentering hself hlong
    refine ⟨_, hexec, ?_, ?_, ?_⟩
    · rw [Dev.chanSt_setChan_same, hf]
    · rw [Dev.on, Dev.rd_setChan, Dev.rd_wr_apart _ _ _ _ _ _ (by decide)]
      exact Dev.on_flag_same _ _ _ _ rfl
    · rw [Dev.rd_setChan, Dev.rd_wr_same]
      rfl

end Sys2Proof.Machine
end

section
/-! Obligations of 09_frame_store.md: a channel serves the request that R258 selects, and a late real-time request is a miss (R257 to R260,
R268, R276). -/

namespace Sys2Proof.Machine

open Sys2Proof

-- Proofs one after another, as in the lemmas on what the take engine tells: for the memory of the check.
set_option Elab.async false

/-! ## Which request is selected (R258, R259) -/

/-- The selection asks for the allocations, the open rows, and how long the low ports of the channel have waited. -/
theorem Dev.selectReq_congr {d e : Dev} {c : Nat} (hstore : e.store = d.store) (hstarve : (e.chanSt c).starve = (d.chanSt c).starve)
    (l : List MemReq) : e.selectReq c l = d.selectReq c l := by
  have hrow : e.reqRow = d.reqRow := funext fun r => by rw [Dev.reqRow, Dev.reqBlock, hstore, Dev.reqRow, Dev.reqBlock]
  have hhit : e.reqHit = d.reqHit := funext fun r => by rw [Dev.reqHit, hstore, hrow, Dev.reqHit]
  have howed : e.owedPort c l = d.owedPort c l := by simp only [Dev.owedPort, hstarve]
  simp only [Dev.selectReq, howed, hhit, hrow]

/-- Time that passes, and refresh, leave the selection. -/
theorem Dev.selectReq_atSlot (d : Dev) (dt c : Nat) (l : List MemReq) : ((d.elapse dt).refreshIdle c).selectReq c l = d.selectReq c l :=
  Dev.selectReq_congr (Dev.refreshIdle_eq (d.elapse dt) c Dev.store) (Dev.chanSt_refreshIdle (d.elapse dt) c ChanSt.starve) l

/-! ## A request is served -/

/-- The slot goes to a request: its port counts it, the low ports wait one slot more, those it passed are told, its row is open, and it waits
no longer. -/
def Dev.slotTaken (d : Dev) (c : Nat) (r : MemReq) : Dev :=
  let all := d.store.reqs.filter (fun x => x.chan == c)
  let d := (d.countReq r).countStarve c r.port (all.filter (fun x => x != r))
  let older := all.takeWhile (fun x => x != r)
  let d := d.setStore (fun s =>
    let rest := (s.reqs.filter (fun x => x != r)).map (fun (x : MemReq) =>
      if older.contains x ∧ (d.reqRow x).1 = (d.reqRow r).1 then { x with passed := x.passed + 1 } else x)
    { s with reqs := rest, openRow := Assoc.insertAt natLt (Assoc.erase s.openRow (d.reqRow r).1) (d.reqRow r).1 (d.reqRow r).2 })
  d.setChan c (fun x => { x with idleAt := d.wall })

section
variable {d : Dev} (c : Nat) {r : MemReq} {a : Alloc} (bytes : List Nat) (halloc : Assoc.find d.store.alloc r.handle = some a)
include halloc

/-- A write without errors. -/
theorem Dev.serveReq_write (hwrite : r.write = true) :
    d.serveReq c 0 r bytes = (d.slotTaken c r).storePut r.handle r.logical r.off (bytesOf r.len r.data) := by
  simp only [Dev.serveReq, halloc, Dev.noteEcc, hwrite, if_true, Dev.slotTaken]

/-- A read without errors of content that is there, in time. -/
theorem Dev.serveReq_read (hwrite : r.write = false) (hclean : a.poison r.logical r.off r.len = false) (hnew : r.missed = false)
    (htime : d.wall - r.since ≤ 2000) : d.serveReq c 0 r bytes
      = (d.slotTaken c r).emit (.memRead r.port r.handle (r.logical * blockBytes + r.off) false bytes) := by
  have hecc : ((0 : Nat) == 2) = false ∧ ((0 : Nat) == 4) = false := by decide
  simp only [Dev.serveReq, halloc, Dev.noteEcc, hwrite, hclean, hnew, Nat.not_lt.2 htime, hecc, decide_false, Bool.false_and, Bool.or_self,
    Bool.and_false, Bool.false_eq_true, if_false, Dev.slotTaken]

end

section
variable (d : Dev) (c : Nat) (r : MemReq)

/-- A port's counters are dictionary fields. -/
theorem Dev.countReq_eq {α : Type} (φ : Dev → α) (hφ : ∀ d f n v, φ (Dev.wr d f n v) = φ d) : φ (d.countReq r) = φ d := by
  simp only [Dev.countReq, Dev.sat]
  split <;> simp only [hφ]

theorem Dev.memQ_slotTaken : (d.slotTaken c r).memQ = d.memQ := by
  simp only [Dev.slotTaken, Dev.setChan, Dev.setStore, Dev.countStarve]
  exact d.countReq_eq r Dev.memQ Dev.wr_memQ

theorem Dev.alloc_slotTaken : (d.slotTaken c r).store.alloc = d.store.alloc := by
  simp only [Dev.slotTaken, Dev.setChan, Dev.setStore, Dev.countStarve]
  exact congrArg StoreSt.alloc (d.countReq_eq r Dev.store Dev.wr_store)

theorem Dev.copying_slotTaken : (d.slotTaken c r).store.copying = d.store.copying := by
  simp only [Dev.slotTaken, Dev.setChan, Dev.setStore, Dev.countStarve]
  exact congrArg StoreSt.copying (d.countReq_eq r Dev.store Dev.wr_store)

/-- Until the request itself is served nothing is on its way into the frame store. -/
theorem Dev.memQ_atSlot {d : Dev} (hnone : d.memQ = []) (dt c : Nat) (r : MemReq) :
    (((d.elapse dt).refreshIdle c).slotTaken c r).memQ = [] := by
  rw [Dev.memQ_slotTaken, Dev.refreshIdle_eq (d.elapse dt) c Dev.memQ, Dev.elapse_memQ, hnone]

theorem Dev.mem_out_emit (e : Emission) : e ∈ (d.emit e).out := List.mem_append_right _ (List.mem_singleton_self _)

end

/-- Bytes for a block with no copy under way go to the one address that it translates to (R254). -/
theorem Dev.memQ_storePut {d : Dev} {h l off p : Nat} {a : Alloc} (bytes : List Nat) (halloc : Assoc.find d.store.alloc h = some a)
    (haddr : a.addr l off = some p) (hcopy : d.store.copying = []) : (d.storePut h l off bytes).memQ = d.memQ ++ [(p, bytes)] := by
  simp only [Dev.storePut, halloc, haddr, hcopy, List.filter_nil, List.map_nil]

/-! ## The commands -/

theorem length_bytesOf (n v : Nat) : (bytesOf n v).length = n := by
  induction n generalizing v with
  | zero => rfl
  | succ n ih => rw [bytesOf, List.length_cons, ih]

/-- Of a command that may write the frame store, what it does to the device it meets decides. -/
theorem State.actMem_congr {s : State} {f g : Dev → Dev} (h : f s.dev = g s.dev) : s.actMem f = s.actMem g := by
  rw [State.actMem, h, State.actMem]

/-- A command whose device queues bytes at one place of the frame store writes them there. -/
theorem State.actMem_of_memQ_one {s : State} {f : Dev → Dev} {p : Nat} {bytes : List Nat} (h : (f s.dev).memQ = [(p, bytes)])
    (hin : p + bytes.length ≤ memSize) :
    s.actMem f = .next { s with dev := { f s.dev with memQ := [] }, mem := Memory.writeBytes s.mem p bytes } := by
  have hfind : [(p, bytes)].find? (fun w => decide (memSize < w.1 + w.2.length)) = none := by
    rw [List.find?_singleton, decide_eq_false (Nat.not_lt.2 hin), if_neg Bool.false_ne_true]
  simp only [State.actMem, h, hfind, Memory.writeAll]

section
variable {s : State} {dt chan p : Nat} {r : MemReq} {a : Alloc} (hserve : s.dev.serving = true) (hchan : chan < 32)
  (hrun : s.dev.chanServes chan = true) (hout : (s.dev.chanSt chan).entering = false)
  (hsel : s.dev.selectReq chan (s.dev.store.reqs.filter (fun x => x.chan == chan)) = some r)
  (halloc : Assoc.find s.dev.store.alloc r.handle = some a) (haddr : a.addr r.logical r.off = some p)
  (hslot : ((s.dev.elapse dt).refreshIdle chan).postponed chan < 8)
include hserve hchan hrun hout hsel halloc haddr hslot

/-- The slot of a running channel with little refresh postponed goes to the request selected. -/
theorem exec_memRequestServe_selected : exec (.memRequestServe dt chan [] 0) s
    = s.actMem fun d => ((d.elapse dt).refreshIdle chan).serveReq chan 0 r (Memory.readBytes s.mem p r.len) := by
  have hin : ¬(32 ≤ chan ∨ (!true) = true) := by simp; omega
  have hstore : ((s.dev.elapse dt).refreshIdle chan).store = s.dev.store := Dev.refreshIdle_eq _ _ Dev.store
  have henter : (((s.dev.elapse dt).refreshIdle chan).chanSt chan).entering = (s.dev.chanSt chan).entering :=
    Dev.chanSt_refreshIdle _ _ ChanSt.entering
  refine (State.actMem_congr ?_ : execMemRequestServe dt chan [] 0 s = _)
  simp only [Dev.live_serving _ _ _ hserve, Dev.chanServes_elapse, hrun, if_neg hin, List.foldl_nil, henter, hout, Bool.false_eq_true, if_false,
    Nat.not_le.2 hslot, hstore, Dev.selectReq_atSlot, hsel, halloc, Option.bind_some, haddr]

section
variable (hnone : s.dev.memQ = [])
include hnone

/-- R258: a timely read without errors sends the bytes that memory holds. -/
theorem memRequestServe_reads (hwrite : r.write = false) (hclean : a.poison r.logical r.off r.len = false) (hnew : r.missed = false)
    (htime : s.dev.wall + dt - r.since ≤ 2000) : Completes (.memRequestServe dt chan [] 0) s (fun t =>
      t.dev.out.contains (.memRead r.port r.handle (r.logical * blockBytes + r.off) false (Memory.readBytes s.mem p r.len)) = true ∧
        t.mem = s.mem) := by
  have hstore : ((s.dev.elapse dt).refreshIdle chan).store = s.dev.store := Dev.refreshIdle_eq _ _ Dev.store
  have hwall : ((s.dev.elapse dt).refreshIdle chan).wall = s.dev.wall + dt := Dev.refreshIdle_eq _ _ Dev.wall
  have hread := Dev.serveReq_read chan (Memory.readBytes s.mem p r.len) (hstore.symm ▸ halloc) hwrite hclean hnew (hwall.symm ▸ htime)
  refine ⟨_, (exec_memRequestServe_selected hserve hchan hrun hout hsel halloc haddr hslot).trans (State.actMem_of_memQ_nil _ _ ?_), ?_, rfl⟩
  · rw [hread]
    exact (Dev.emit_memQ ..).trans (Dev.memQ_atSlot hnone ..)
  · rw [hread]
    exact List.contains_iff_mem.2 (Dev.mem_out_emit ..)

/-- R258: a write without errors stores its bytes where its block lies. -/
theorem memRequestServe_writes (hwrite : r.write = true) (hend : p + r.len ≤ memSize) (hcopy : s.dev.store.copying = []) :
    Completes (.memRequestServe dt chan [] 0) s (fun t => t.mem = Memory.writeBytes s.mem p (bytesOf r.len r.data)) := by
  have hstore : ((s.dev.elapse dt).refreshIdle chan).store = s.dev.store := Dev.refreshIdle_eq _ _ Dev.store
  have halloc' := ((s.dev.elapse dt).refreshIdle chan).alloc_slotTaken chan r
  have hcopy' := ((s.dev.elapse dt).refreshIdle chan).copying_slotTaken chan r
  rw [hstore] at halloc' hcopy'
  have hqueue : (((s.dev.elapse dt).refreshIdle chan).serveReq chan 0 r (Memory.readBytes s.mem p r.len)).memQ
      = [(p, bytesOf r.len r.data)] := by
    rw [Dev.serveReq_write chan _ (hstore.symm ▸ halloc) hwrite,
      Dev.memQ_storePut _ (halloc'.symm ▸ halloc) haddr (hcopy'.trans hcopy), Dev.memQ_atSlot hnone, List.nil_append]
  exact ⟨_, (exec_memRequestServe_selected hserve hchan hrun hout hsel halloc haddr hslot).trans
    (State.actMem_of_memQ_one hqueue (by rwa [length_bytesOf])), rfl⟩

end

end

/-- R260: a request that waits is on record as missed. -/
def Dev.markMissed (d : Dev) (r : MemReq) : Dev :=
  d.setStore (fun st => { st with reqs := st.reqs.map (fun (x : MemReq) => if x = r then { x with missed := true } else x) })

/-- R260: of the requests that wait, the late one is marked, and its port counts a miss. -/
theorem exec_requestDeadlineMiss_late {s : State} {dt chan : Nat} {r : MemReq} (hserve : s.dev.serving = true)
    (hlate : s.dev.store.reqs.find? (fun x => x.chan == chan && realTime x.port && !x.missed && decide (2000 < s.dev.wall + dt - x.since))
      = some r) : exec (.requestDeadlineMiss dt chan) s
      = .next { s with dev := ((s.dev.elapse dt).markMissed r).sat D.FsPortCounters.DEADLINE_MISSES r.port 1 } := by
  simp only [exec, execRequestDeadlineMiss, State.act, Dev.live_serving _ _ _ hserve, Dev.elapse_store, Dev.wall_elapse, hlate, Dev.markMissed]

/-- A request that is marked as missed is no longer the one it was. -/
theorem Dev.contains_markMissed (d : Dev) {r : MemReq} (hnew : r.missed = false) : (d.markMissed r).store.reqs.contains r = false := by
  rw [Dev.markMissed, Dev.setStore, ← Bool.not_eq_true, List.contains_iff_mem, List.mem_map]
  rintro ⟨x, -, hx⟩
  split at hx
  case isTrue => exact absurd (hnew ▸ congrArg MemReq.missed hx) (by simp)
  case isFalse hne => exact hne hx

/-- Settles O32: what the slot's request does to memory, and what a late one leaves on record. -/
theorem storeRequestsComplete : Obligations.StoreRequestsComplete := by
  unfold Obligations.StoreRequestsComplete
  refine ⟨fun s dt chan p r a hserve hchan hrun hout hsel hwrite halloc haddr hclean hnew htime hnone hslot => ?_,
    fun s dt chan p r a hserve hchan hrun hout hsel hwrite halloc haddr hend hcopy hnone hslot => ?_, fun s dt chan r hserve hlate => ?_⟩
  · exact memRequestServe_reads hserve hchan hrun hout hsel halloc haddr hslot hnone hwrite hclean hnew htime
  · exact memRequestServe_writes hserve hchan hrun hout hsel halloc haddr hslot hnone hwrite hend hcopy
  · have hcond := List.find?_some hlate
    simp only [Bool.and_eq_true, Bool.not_eq_true'] at hcond
    obtain ⟨⟨_, hnew⟩, _⟩ := hcond
    refine ⟨_, exec_requestDeadlineMiss_late hserve hlate, ?_, Dev.contains_markMissed _ hnew⟩
    rw [Dev.rd_sat_same, Dev.markMissed, Dev.rd_setStore]
    rfl

end Sys2Proof.Machine
end

section
/-! Obligations of 10_processing_tiles.md: physical tiles fail, are replaced and tested, and the frame synchronisers of a logical tile read and
lose their input (R296, R299, R302, R310, R311). -/

namespace Sys2Proof.Machine

open Sys2Proof

/-! ## What a frame synchroniser holds -/

section
variable (d : Dev) (t : Nat) (b : Bool)

@[simp] theorem Dev.fsSt_setFs_same (f : FsSt → FsSt) : (d.setFs t b f).fsSt t b = f (d.fsSt t b) := by
  cases b <;> simp [Dev.setFs, Dev.setTile, Dev.fsSt, Dev.tileSt]

@[simp] theorem Dev.fsSt_wr (f : Fld) (n v : Nat) : (d.wr f n v).fsSt t b = d.fsSt t b := (rfl)
@[simp] theorem Dev.fsSt_flag (f : Fld) (n : Nat) (x : Bool) : (d.flag f n x).fsSt t b = d.fsSt t b := (rfl)
@[simp] theorem Dev.fsSt_sat (f : Fld) (n k : Nat) : (d.sat f n k).fsSt t b = d.fsSt t b := (rfl)
@[simp] theorem Dev.fsSt_elapse (dt : Nat) : (d.elapse dt).fsSt t b = d.fsSt t b := (rfl)

@[simp] theorem Dev.rd_setFs (f : FsSt → FsSt) (g : Fld) (m : Nat) : (d.setFs t b f).rd g m = d.rd g m := (rfl)
@[simp] theorem Dev.rd_tileFrameStart (g : Fld) (m : Nat) : (d.tileFrameStart t).rd g m = d.rd g m := (rfl)

/-- What applies from a frame's first line on is no part of the synchronisers. -/
@[simp] theorem Dev.fsSt_tileFrameStart : (d.tileFrameStart t).fsSt t b = d.fsSt t b := by
  cases b <;> simp [Dev.tileFrameStart, Dev.setTile, Dev.fsSt, Dev.tileSt]

/-- What an output frame carries is apart from which frame it reads and when. -/
theorem Dev.seen_target_readAnc (f : Nat) (again black : Bool) : ((d.readAnc t b f again black).fsSt t b).seen = (d.fsSt t b).seen ∧
    ((d.readAnc t b f again black).fsSt t b).target = (d.fsSt t b).target := by
  rw [Dev.readAnc, Dev.fsSt_setFs_same]
  exact ⟨rfl, rfl⟩

end

/-! ## What a lost or replaced tile shows (R311) -/

section
variable (d : Dev) {g : Fld} (m t p : Nat)

theorem Dev.rd_tileOutsLost (hs : g.sub ≠ D.Flow.STATUS.sub) : (d.tileOutsLost t).rd g m = d.rd g m :=
  Dev.rd_each _ _ _ _ _ fun _ _ => (Dev.rd_flag_status _ _ hs (by decide) ..).trans (Dev.rd_flag_status _ _ hs (by decide) ..)

/-- Beside the status of its outputs, a tile without a physical tile shows only that in its record. -/
theorem Dev.rd_tileGone (hs : g.sub ≠ D.Flow.STATUS.sub) (raise : Bool) : (d.tileGone t raise).rd g m
    = (((d.wr D.Tile.PHYS_TILE t 0xFF).flag D.TileStatus.UNAVAILABLE t true).flag D.TileStatus.SUBSTITUTING t false).rd g m := by
  have hagain (x : Dev) (l : List Nat) : ({ x with tileAgain := l } : Dev).rd g m = x.rd g m := rfl
  have hraise (x : Dev) : (if raise then x.raise Src.PT_NO_SPARE t else x).rd g m = x.rd g m := Dev.rd_ite g m rfl rfl
  unfold Dev.tileGone
  dsimp only
  split
  · rw [hagain, hraise, Dev.rd_tileOutsLost _ _ _ hs]
  · rw [hraise, Dev.rd_tileOutsLost _ _ _ hs]

theorem Dev.on_tileGone_unavailable (raise : Bool) : (d.tileGone t raise).on D.TileStatus.UNAVAILABLE t = true := by
  rw [Dev.on, Dev.rd_tileGone _ _ _ (by decide), Dev.rd_flag_apart _ _ _ _ _ _ (by decide)]
  exact Dev.on_flag_same _ _ _ _ rfl

/-- Beside the status of its tile and outputs and what is counted, a spare that is taken shows only its place in the map. -/
theorem Dev.rd_tileTakeSpare (hs : g.sub ≠ D.Flow.STATUS.sub) (hstatus : g.sub ≠ D.Tile.STATUS.sub)
    (hall : Fld.apart D.Tiles.SUBSTITUTIONS g = true) (hone : Fld.apart D.Tile.SUBSTITUTIONS g = true) : (d.tileTakeSpare t p).rd g m
    = ((((d.wr D.TileMapEl.STATE p PhysTile.ACTIVE).wr D.TileMapEl.LOGICAL p t).wake (fun i => i == (4, p))).wr D.Tile.PHYS_TILE t p).rd g m := by
  have htile {f : Fld} (hf : f.sub = D.Tile.STATUS.sub) : Fld.apart f g = true := by simp [Fld.apart, hf, hstatus.symm]
  unfold Dev.tileTakeSpare
  rw [Dev.rd_raise, Dev.rd_add_apart _ _ _ _ _ _ hone, Dev.rd_add_apart _ _ _ _ _ _ hall,
    Dev.rd_each _ _ _ _ _ fun _ _ => Dev.rd_flag_status _ _ hs (by decide) .., Dev.rd_flag_apart _ _ _ _ _ _ (htile (by decide)),
    Dev.rd_flag_apart _ _ _ _ _ _ (htile (by decide))]

theorem Dev.rd_tileTakeSpare_state :
    (d.tileTakeSpare t p).rd D.TileMapEl.STATE m = (d.wr D.TileMapEl.STATE p PhysTile.ACTIVE).rd D.TileMapEl.STATE m := by
  rw [Dev.rd_tileTakeSpare _ _ _ _ (by decide) (by decide) (by decide) (by decide)]
  simp (disch := decide) only [Dev.rd_wr_apart, Dev.rd_wake]

theorem Dev.rd_tileTakeSpare_physTile (hp : p < 256) : (d.tileTakeSpare t p).rd D.Tile.PHYS_TILE t = p := by
  rw [Dev.rd_tileTakeSpare _ _ _ _ (by decide) (by decide) (by decide) (by decide), Dev.rd_wr_same]
  exact Nat.mod_eq_of_lt hp

theorem Dev.rd_wr_tileState {st : Nat} (hst : st < 8) : (d.wr D.TileMapEl.STATE p st).rd D.TileMapEl.STATE p = st :=
  (Dev.rd_wr_same ..).trans (Nat.mod_eq_of_lt hst)

theorem Dev.on_tileFailed (hstate : Fld.apart D.TileMapEl.STATE g = true) (hfailures : Fld.apart D.TileMapEl.FAILURES g = true) :
    (d.tileFailed p).on g m = d.on g m := by
  rw [Dev.on, Dev.tileFailed, Dev.rd_sat_apart _ _ _ _ _ _ hfailures, Dev.rd_wr_apart _ _ _ _ _ _ hstate, Dev.on]

theorem Dev.rd_tileFailed_state : (d.tileFailed p).rd D.TileMapEl.STATE p = PhysTile.FAILED :=
  (Dev.rd_sat_apart _ _ _ _ _ _ (by decide)).trans (Dev.rd_wr_tileState _ _ (by decide))

end

/-- The spare that is taken is one, and there are 68 physical tiles. -/
theorem Dev.spare_of_tileSpare {d : Dev} {r : Nat} (h : d.tileSpare = some r) : d.rd D.TileMapEl.STATE r = PhysTile.SPARE ∧ r < 68 :=
  ⟨eq_of_beq (List.find?_some h :), List.mem_range.1 (List.mem_of_find?_eq_some h)⟩

/-! ## TILE_CMD (Table 10.7, R310) -/

/-- The fields of a TILE_CMD that names a tile: command, reserved bits and tile. -/
theorem tileCmdValue_fields {cmd n : Nat} (hcmd : cmd < 256) (hn : n < 128) :
    bitsOf (cmd * 2 ^ 24 + n) 24 8 = cmd ∧ bitsOf (cmd * 2 ^ 24 + n) 7 17 = 0 ∧ bitsOf (cmd * 2 ^ 24 + n) 0 7 = n := by
  simp only [bitsOf]
  omega

/-- R310: a tile is tested for RESTORE. -/
def Dev.testToRestore (d : Dev) (n : Nat) : Dev :=
  { d.wr D.TileMapEl.STATE n PhysTile.TESTING with tileRestore := d.tileRestore ++ [n] }

theorem Dev.rd_testToRestore_state (d : Dev) (n : Nat) : (d.testToRestore n).rd D.TileMapEl.STATE n = PhysTile.TESTING := by
  have hnoted (x : Dev) (l : List Nat) : ({ x with tileRestore := l } : Dev).rd D.TileMapEl.STATE n = x.rd D.TileMapEl.STATE n := rfl
  rw [Dev.testToRestore, hnoted, Dev.rd_wr_tileState _ _ (by decide)]

theorem Dev.mem_tileRestore_testToRestore (d : Dev) (n : Nat) : n ∈ (d.testToRestore n).tileRestore := by
  simp [Dev.testToRestore]

section
variable {d : Dev} {v n : Nat} (hreserved : bitsOf v 7 17 = 0) (htile : bitsOf v 0 7 = n)
include hreserved htile

theorem Dev.tileCmd_substitute {p r : Nat} (hcmd : bitsOf v 24 8 = 1) (hn : n < 64) (hphys : d.physOf n = some p)
    (hspare : d.tileSpare = some r) : d.tileCmd v = ((d.wr D.TileMapEl.STATE p PhysTile.TESTING).tileTakeSpare n r, St.OK) := by
  simp [Dev.tileCmd, hcmd, hreserved, htile, hphys, hspare, Nat.not_le.2 hn]

theorem Dev.tileCmd_restore (hcmd : bitsOf v 24 8 = 2) (hn : n < 68) (hstate : d.rd D.TileMapEl.STATE n = PhysTile.FAILED) :
    d.tileCmd v = (d.testToRestore n, St.OK) := by
  simp [Dev.tileCmd, hcmd, hreserved, htile, hstate, Nat.not_le.2 hn, Dev.testToRestore]

theorem Dev.tileCmd_test (hcmd : bitsOf v 24 8 = 3) (hn : n < 68) (hstate : d.rd D.TileMapEl.STATE n = PhysTile.SPARE) :
    d.tileCmd v = (d.wr D.TileMapEl.STATE n PhysTile.TESTING, St.OK) := by
  simp [Dev.tileCmd, hcmd, hreserved, htile, hstate, Nat.not_le.2 hn]

end

section
variable (d : Dev) (q : Rcp)

/-- What the management cores count leaves the map of physical tiles alone. -/
theorem Dev.tileState_atBody (p : Nat) : (d.atBody q).rd D.TileMapEl.STATE p = d.rd D.TileMapEl.STATE p :=
  Dev.rd_atBody _ _ _ _ (by decide) (by decide) (by decide)

theorem Dev.tileState_answer (r : Reply) (p : Nat) : (d.answer q r).rd D.TileMapEl.STATE p = d.rd D.TileMapEl.STATE p :=
  Dev.rd_answer _ _ _ _ _ (by decide) (by decide)

theorem Dev.tileSpare_atBody : (d.atBody q).tileSpare = d.tileSpare := by
  simp only [Dev.tileSpare, Dev.tileState_atBody]

theorem Dev.physOf_atBody (t : Nat) : (d.atBody q).physOf t = d.physOf t := by
  simp (disch := decide) only [Dev.physOf, Dev.rd_atBody]

end

section
variable {s : State} {q : Rcp}

/-- A granted TILE_CMD answers what its command gives. -/
theorem State.act_tileCmd {me : Instr} {cmd n : Nat} {e : Dev} (hn : n < 128)
    (hgrant : s.dev.grants q 0x0F00 0x08 ⟨4, cmd * 2 ^ 24 + n⟩ = true) (hbody : (s.dev.atBody q).tileCmd (cmd * 2 ^ 24 + n) = (e, St.OK)) :
    s.act (serveWrite me q 0x0F00 0x08 ⟨4, cmd * 2 ^ 24 + n % 128⟩ fun _ d => d.tileCmd (cmd * 2 ^ 24 + n % 128))
      = .next { s with dev := e.answer q (Reply.of St.OK) } := by
  rw [Nat.mod_eq_of_lt hn, State.act, serveWrite_answers hgrant hbody (by decide)]

/-- R310: the tile replaced is tested, and the spare takes the logical tile. -/
theorem tileCmdSubstitute_completes {tile p r : Nat} (htile : tile < 64) (hgrant : s.dev.grants q 0x0F00 0x08 ⟨4, 2 ^ 24 + tile⟩ = true)
    (hphys : s.dev.physOf tile = some p) (hspare : s.dev.tileSpare = some r) (hstate : s.dev.rd D.TileMapEl.STATE p = PhysTile.ACTIVE) :
    Completes (.tileCmdSubstitute q tile) s (fun t => t.dev.answered q St.OK = true ∧ t.dev.rd D.TileMapEl.STATE p = PhysTile.TESTING ∧
      t.dev.rd D.TileMapEl.STATE r = PhysTile.ACTIVE ∧ t.dev.rd D.Tile.PHYS_TILE tile = r) := by
  obtain ⟨hspareState, hr⟩ := Dev.spare_of_tileSpare hspare
  have hne : p ≠ r := by
    rintro rfl
    rw [hstate] at hspareState
    exact absurd hspareState (by decide)
  rw [← Nat.one_mul (2 ^ 24)] at hgrant
  obtain ⟨hcmd, hreserved, hnamed⟩ := tileCmdValue_fields (cmd := 1) (n := tile) (by decide) (by omega)
  have hbody := Dev.tileCmd_substitute hreserved hnamed hcmd htile ((s.dev.physOf_atBody q _).trans hphys) ((s.dev.tileSpare_atBody q).trans hspare)
  refine ⟨_, State.act_tileCmd (by omega) hgrant hbody, Dev.answered_ok _, ?_, ?_, ?_⟩
  · rw [Dev.tileState_answer, Dev.rd_tileTakeSpare_state, Dev.rd_wr_ne _ _ _ _ _ hne, Dev.rd_wr_tileState _ _ (by decide)]
  · rw [Dev.tileState_answer, Dev.rd_tileTakeSpare_state, Dev.rd_wr_tileState _ _ (by decide)]
  · rw [Dev.rd_answer _ _ _ _ _ (by decide) (by decide), Dev.rd_tileTakeSpare_physTile _ _ _ (by omega)]

/-- R310: a FAILED tile is tested, for its entry in the knot map. -/
theorem tileCmdRestore_completes {phys : Nat} (hphys : phys < 68) (hgrant : s.dev.grants q 0x0F00 0x08 ⟨4, 2 * 2 ^ 24 + phys⟩ = true)
    (hstate : s.dev.rd D.TileMapEl.STATE phys = PhysTile.FAILED) :
    Completes (.tileCmdRestore q phys) s (fun t => t.dev.answered q St.OK = true ∧ t.dev.rd D.TileMapEl.STATE phys = PhysTile.TESTING ∧
      t.dev.tileRestore.contains phys = true) := by
  obtain ⟨hcmd, hreserved, hnamed⟩ := tileCmdValue_fields (cmd := 2) (n := phys) (by decide) (by omega)
  have hbody := Dev.tileCmd_restore hreserved hnamed hcmd hphys ((s.dev.tileState_atBody q _).trans hstate)
  refine ⟨_, State.act_tileCmd (by omega) hgrant hbody, Dev.answered_ok _, ?_, ?_⟩
  · rw [Dev.tileState_answer, Dev.rd_testToRestore_state]
  · rw [Dev.tileRestore_answer, List.contains_iff_mem]
    exact Dev.mem_tileRestore_testToRestore ..

/-- R310: a spare is tested. -/
theorem tileCmdTest_completes {phys : Nat} (hphys : phys < 68) (hgrant : s.dev.grants q 0x0F00 0x08 ⟨4, 3 * 2 ^ 24 + phys⟩ = true)
    (hstate : s.dev.rd D.TileMapEl.STATE phys = PhysTile.SPARE) :
    Completes (.tileCmdTest q phys) s (fun t => t.dev.answered q St.OK = true ∧ t.dev.rd D.TileMapEl.STATE phys = PhysTile.TESTING) := by
  obtain ⟨hcmd, hreserved, hnamed⟩ := tileCmdValue_fields (cmd := 3) (n := phys) (by decide) (by omega)
  have hbody := Dev.tileCmd_test hreserved hnamed hcmd hphys ((s.dev.tileState_atBody q _).trans hstate)
  refine ⟨_, State.act_tileCmd (by omega) hgrant hbody, Dev.answered_ok _, ?_⟩
  rw [Dev.tileState_answer, Dev.rd_wr_tileState _ _ (by decide)]

end

/-! ## Failure, the end of BIST and of substitution -/

/-- R310: the tile's failure stands in the knot map. -/
def Dev.tileRetired (d : Dev) (p : Nat) : Dev :=
  (d.tileFailed p).knotAdd KnotKind.TILE KnotAct.RETIRED p knotNone Src.PT_NO_SPARE 0

/-- A tile under test is no longer tested for RESTORE, and is a spare. -/
def Dev.tilePassed (d : Dev) (p : Nat) : Dev :=
  { d with tileRestore := d.tileRestore.filter (fun x => x != p) }.wr D.TileMapEl.STATE p PhysTile.SPARE

theorem Dev.tileRestore_tilePassed (d : Dev) (p : Nat) : (d.tilePassed p).tileRestore.contains p = false := by
  simp [Dev.tilePassed]

theorem Dev.tileRestore_knotAdd (d : Dev) (kind action inst spare cause detail : Nat) :
    (d.knotAdd kind action inst spare cause detail).tileRestore = d.tileRestore := by
  unfold Dev.knotAdd
  dsimp only
  generalize (if 4096 ≤ d.knot.entries.length then Knot.compact d.knot.entries else d.knot.entries) = l
  split
  · rw [Dev.flag, Dev.wr_tileRestore]
  · rfl

section
variable {s : State} {dt : Nat} (hserve : s.dev.serving = true)
include hserve

/-- R312: without AUTO_SPARE nothing takes the place of a tile that fails. -/
theorem exec_tileFail_noSpare {phys : Nat} (hphys : phys < 68) (hstate : s.dev.rd D.TileMapEl.STATE phys = PhysTile.ACTIVE)
    (hauto : s.dev.on D.Tiles.AUTO_SPARE 0 = false) : exec (.tileFail dt phys) s
      = .next { s with dev := ((s.dev.elapse dt).tileRetired phys).tileGone (s.dev.rd D.TileMapEl.LOGICAL phys) false } := by
  have hin : ¬(68 ≤ phys ∨ s.dev.rd D.TileMapEl.STATE phys ≠ PhysTile.ACTIVE) := by simp [hstate, hphys]
  have hkept : ((s.dev.elapse dt).tileFailed phys).on D.Tiles.AUTO_SPARE 0 = false := by
    rw [Dev.on_tileFailed _ _ _ (by decide) (by decide), Dev.on_elapse, hauto]
  refine congrArg (fun d : Dev => Host.Outcome.next { s with dev := d }) (a₂ := Dev.tileGone _ _ _) ?_
  exact (Dev.live_serving _ _ _ hserve).trans ((if_neg hin).trans (if_pos hkept))

/-- R311: the outputs start a frame, and their numbering goes on. -/
theorem tileSubstitutionDone_completes {tile : Nat} (htile : tile < 64) (hsub : s.dev.on D.TileStatus.SUBSTITUTING tile = true) :
    Completes (.tileSubstitutionDone dt tile) s (fun t => t.dev.on D.TileStatus.SUBSTITUTING tile = false) := by
  have hin : ¬(64 ≤ tile ∨ (!(s.dev.elapse dt).on D.TileStatus.SUBSTITUTING tile) = true) := by simp [hsub, htile]
  refine ⟨_, rfl, ?_⟩
  simp only [Dev.live_serving _ _ _ hserve, if_neg hin]
  rw [Dev.on, Dev.rd_each _ _ _ _ _ fun _ _ => Dev.rd_setFlow .., Dev.rd_tileFrameStart]
  exact Dev.on_flag_same _ _ _ _ rfl

/-- Table 10.7: a tile whose BIST passes is a spare; where RESTORE tested it, its entry in the knot map ends. -/
theorem exec_tileBistDone_passed {phys : Nat} (hphys : phys < 68) (hstate : s.dev.rd D.TileMapEl.STATE phys = PhysTile.TESTING) :
    exec (.tileBistDone dt phys true) s = .next { s with
      dev := if s.dev.tileRestore.contains phys
        then ((s.dev.elapse dt).tilePassed phys).knotAdd KnotKind.TILE KnotAct.RESTORED phys knotNone knotCommand 0
        else (s.dev.elapse dt).tilePassed phys } := by
  simp only [exec, execTileBistDone, State.act, Dev.live_serving _ _ _ hserve, Dev.rd_elapse, hstate, Nat.not_le.2 hphys, ne_eq,
    not_true_eq_false, or_self, if_false, if_true, Dev.elapse_tileRestore, Dev.tilePassed]

end

/-! ## The frame synchronisers -/

/-- R299: a synchroniser is without input, and its tile is not locked. -/
def Dev.inputLost (d : Dev) (t : Nat) (b : Bool) : Dev :=
  (d.setFs t b (fun x => { x with lossy := true, whole := false })).flag D.TileStatus.FS_LOCKED t false

/-- R302: the output of a channel that is silent stops. -/
def Dev.silentStops (d : Dev) (t : Nat) (b : Bool) : Dev :=
  if d.tileSilent t b then
    match d.tileOut t (if b then 2 else 0) with
    | some o => (d.flag D.FlowStatus.SOURCE_LOST o true).flag D.FlowStatus.EMITTING o false
    | none => d
  else d

section
variable (d : Dev) (t : Nat) (b : Bool)

theorem Dev.lossy_inputLost : ((d.inputLost t b).fsSt t b).lossy = true := by
  rw [Dev.inputLost, Dev.fsSt_flag, Dev.fsSt_setFs_same]

theorem Dev.silentStops_cases : d.silentStops t b = d ∨
    ∃ o, d.silentStops t b = (d.flag D.FlowStatus.SOURCE_LOST o true).flag D.FlowStatus.EMITTING o false := by
  unfold Dev.silentStops
  split
  · split
    case h_1 o _ => exact .inr ⟨o, rfl⟩
    case h_2 => exact .inl rfl
  · exact .inl rfl

theorem Dev.fsSt_silentStops (t' : Nat) (b' : Bool) : (d.silentStops t b).fsSt t' b' = d.fsSt t' b' := by
  obtain h | ⟨o, h⟩ := d.silentStops_cases t b <;> rw [h]
  rw [Dev.fsSt_flag, Dev.fsSt_flag]

theorem Dev.rd_silentStops {g : Fld} (m : Nat) (hs : g.sub ≠ D.Flow.STATUS.sub) : (d.silentStops t b).rd g m = d.rd g m := by
  obtain h | ⟨o, h⟩ := d.silentStops_cases t b <;> rw [h]
  rw [Dev.rd_flag_status _ _ hs (by decide), Dev.rd_flag_status _ _ hs (by decide)]

end

section
variable {s : State} {dt tile c : Nat} {b : Bool} (hserve : s.dev.serving = true) (htile : tile < 64) (hrun : s.dev.running c = true)
include hserve htile hrun

/-- R296 to R300: an output frame reads the newest frame that is complete, and the time of its SWITCH_POINT cell is set. -/
theorem fsOutputFrame_completes (lost : Nat) (hout : s.dev.tileOut tile (if b then 2 else 0) = some c) (hon : s.dev.fsOn tile b = true)
    (havail : s.dev.on D.TileStatus.UNAVAILABLE tile = false) (hsub : s.dev.on D.TileStatus.SUBSTITUTING tile = false) :
    Completes (.fsOutputFrame dt tile b lost) s (fun t => (t.dev.fsSt tile b).seen = (s.dev.fsSt tile b).done2 / 2 ∧
      (t.dev.fsSt tile b).target.isSome = true) := by
  have hbound : (s.dev.elapse dt).tileOut tile (if b then 2 else 0) = some c := hout
  have hstart : ¬(64 ≤ tile ∨ (!(s.dev.elapse dt).fsOn tile b) = true ∨ (!(s.dev.elapse dt).running c) = true ∨
      (s.dev.elapse dt).on D.TileStatus.UNAVAILABLE tile = true ∨ (s.dev.elapse dt).on D.TileStatus.SUBSTITUTING tile = true) := by
    have hsync : (s.dev.elapse dt).fsOn tile b = true := hon
    simp [hsync, hrun, havail, hsub, htile]
  refine ⟨_, rfl, ?_⟩
  simp only [Dev.live_serving _ _ _ hserve, hbound, if_neg hstart]
  cases b <;> simp [Dev.seen_target_readAnc]

/-- R299, R302: an input that has delivered nothing for a frame period is lost. -/
theorem fsInputLoss_completes (hin : s.dev.tileIn tile (if b then 2 else 0) = some c) (hlossy : (s.dev.fsSt tile b).lossy = false)
    (hpast : (s.dev.elapse dt).past (s.dev.fsSt tile b).inAt (Fmt.periodNs (s.dev.format c)) = true) :
    Completes (.fsInputLoss dt tile b) s (fun t => (t.dev.fsSt tile b).lossy = true ∧ t.dev.on D.TileStatus.FS_LOCKED tile = false) := by
  have hbound : (s.dev.elapse dt).tileIn tile (if b then 2 else 0) = some c := hin
  have hformat : (s.dev.elapse dt).format c = s.dev.format c := rfl
  have hlost : ¬(64 ≤ tile ∨ (!(s.dev.elapse dt).running c) = true ∨ ((s.dev.elapse dt).fsSt tile b).lossy = true ∨
      (!(s.dev.elapse dt).past ((s.dev.elapse dt).fsSt tile b).inAt (Fmt.periodNs ((s.dev.elapse dt).format c))) = true) := by
    simp [hrun, hlossy, hformat, hpast, htile]
  have hexec : exec (.fsInputLoss dt tile b) s = .next { s with dev := ((s.dev.elapse dt).inputLost tile b).silentStops tile b } := by
    simp only [exec, execFsInputLoss, State.act, Dev.live_serving _ _ _ hserve, hbound, if_neg hlost]
    rfl
  refine ⟨_, hexec, ?_, ?_⟩
  · rw [Dev.fsSt_silentStops, Dev.lossy_inputLost]
  · rw [Dev.on, Dev.rd_silentStops _ _ _ _ (by decide)]
    exact Dev.on_flag_same _ _ _ _ rfl

end

/-- Settles O35: each command as its lemma above says it, and what the tile, its place in the map and its synchroniser then show. -/
theorem tilesComplete : Obligations.TilesComplete := by
  unfold Obligations.TilesComplete
  refine ⟨fun s dt phys hserve hphys hstate hauto => ?_, fun _ _ _ hserve => tileSubstitutionDone_completes hserve,
    fun _ _ _ _ _ => tileCmdSubstitute_completes, fun _ _ _ => tileCmdRestore_completes, fun _ _ _ => tileCmdTest_completes,
    fun s dt phys hserve hphys hstate => ?_,
    fun _ _ _ lost _ _ hserve htile hout hon hrun havail hsub => fsOutputFrame_completes hserve htile hrun lost hout hon havail hsub,
    fun _ _ _ _ _ hserve htile hin hrun hlossy hpast => fsInputLoss_completes hserve htile hrun hin hlossy hpast⟩
  · refine ⟨_, exec_tileFail_noSpare hserve hphys hstate hauto, ?_, ?_⟩
    · rw [Dev.rd_tileGone _ _ _ (by decide)]
      simp (disch := decide) only [Dev.rd_flag_apart, Dev.rd_wr_apart, Dev.tileRetired, Dev.rd_knotAdd, Dev.rd_tileFailed_state]
    · rw [Dev.on_tileGone_unavailable]
  · refine ⟨_, exec_tileBistDone_passed hserve hphys hstate, ?_, ?_⟩
    · exact Dev.rd_ite _ _ ((Dev.rd_knotAdd _ _ _ _ _ _ _ _ (by decide)).trans (Dev.rd_wr_tileState _ _ (by decide)))
        (Dev.rd_wr_tileState _ _ (by decide))
    · have hpassed := Dev.tileRestore_tilePassed (s.dev.elapse dt) phys
      dsimp only
      split
      · rw [Dev.tileRestore_knotAdd, hpassed]
      · exact hpassed

end Sys2Proof.Machine
end

section
/-! Obligations of the step itself: the front of the queue, the idle step, and the state at power-on (R414, R462, R487, R492, R496, R530). -/

namespace Sys2Proof.Machine
open Sys2Proof

/-- Settles O1: with a command at the front `step` is that command with the queue's rest. -/
theorem stepRunsFront : Obligations.StepRunsFront := by
  unfold Obligations.StepRunsFront
  intro s c rest hfront
  simp only [step, hfront]

/-- What an idle step does with the request it takes up. -/
theorem State.idle_of_some {s : State} {c : Instr} {d : Dev}
    (h : s.dev.readyRequest = some (c, d) ∨ s.dev.readyRequest = none ∧ s.dev.heldRequest = some (c, d)) {t : State} (ht : s.idle = .next t) :
    ∃ u, exec c { s with dev := d } = .next u ∧ t = { u with dev := { u.dev with rcp := { u.dev.rcp with retake := false } } } := by
  have htaken : s.dev.readyRequest.orElse (fun _ => s.dev.heldRequest) = some (c, d) := by
    rcases h with h | ⟨hready, hheld⟩
    · rw [h]; rfl
    · rw [hready, ← hheld]; rfl
  unfold State.idle at ht
  rw [htaken] at ht
  dsimp only at ht
  split at ht
  case h_1 u hu => cases ht; exact ⟨u, hu, rfl⟩
  case h_2 o hno => exact absurd ht (hno t)

/-- Settles O2: an empty queue is `State.idle`, which takes up the ready request before the held one. -/
theorem stepIdles : Obligations.StepIdles := by
  unfold Obligations.StepIdles
  refine ⟨fun s hempty hready hheld => ?_, fun s c d hempty htaken t ht => ?_⟩
  · simp only [step, hempty, State.idle, hready, hheld, Option.orElse]
  · simp only [step, hempty] at ht
    obtain ⟨u, hu, rfl⟩ := State.idle_of_some htaken ht
    exact ⟨u, hu, rfl, rfl, rfl, rfl⟩

/-- Settles O6: the entries listed at power-on are those of the POR's cause and of ERR_N, and every other key is listed nowhere. -/
theorem resetState : Obligations.ResetState := by
  unfold Obligations.ResetState
  refine ⟨rfl, rfl, State.reset_memory, by simp [State.sessionsOk, State.reset, Dev.reset], by decide, by decide, by decide, by decide, by decide, by decide, rfl, rfl,
    fun k herrn hcause hcounts => ?_⟩
  have hlisted : Assoc.find Dev.reset.dict k = none := by
    simp only [Dev.reset, Assoc.find, Ne.symm herrn, Ne.symm hcause, Ne.symm hcounts, if_false]
  simp only [Dev.ent, Store.get, Assoc.get, State.reset, hlisted, Option.getD_none]

end Sys2Proof.Machine
end

section
/-! What the step leaves of the frame store's canonical form, whatever the command (Table 00.2, 09_frame_store.md). -/

namespace Sys2Proof.Machine
open Sys2Proof

/-- How a command reaches the block: through the device alone, with bytes for the frame store, through a reset that may empty it, by the refresh
of a channel, or by the copy of a block. -/
inductive Effect (s : State) : Host.Outcome State Fault Refusal → Prop where
  | device (f : Dev → Dev) : Effect s (s.act f)
  | bytes (f : Dev → Dev) : Effect s (s.actMem f)
  | reset (f : Dev → Dev) : Effect s (s.actReset f)
  | refresh (d : Dev) : Effect s (.next ({ s with dev := d } : State).maskedLost)
  | copy (dt handle logical : Nat) : Effect s (execBlockRelocated dt handle logical s)

theorem exec_effect (c : Instr) (s : State) : Effect s (exec c s) := by
  cases c with
  | writeDom | cellRelease | busTransaction | memRequestServe | veneerWrite => unfold exec; exact .bytes _
  | porstAssert | supplyFault | resetAssert | thermalSample => unfold exec; exact .reset _
  | srEntry => unfold exec; exact .refresh _
  | blockRelocated => unfold exec; exact .copy ..
  | _ => unfold exec; exact .device _

theorem State.act_mem {s t : State} {f : Dev → Dev} (h : s.act f = .next t) : t.mem = s.mem := by
  obtain rfl := Host.Outcome.next.inj h; rfl

theorem State.actReset_mem {s t : State} {f : Dev → Dev} (h : s.actReset f = .next t) : t.mem = s.mem ∨ t.mem = [] := by
  obtain rfl := Host.Outcome.next.inj h
  dsimp only
  split
  · exact .inr rfl
  · exact .inl rfl

theorem State.memOk_of_mem {s t : State} (hs : s.memOk) (h : t.mem = s.mem ∨ t.mem = []) : t.memOk := by
  unfold State.memOk
  rcases h with h | h <;> rw [h]
  · exact hs
  · exact State.reset_memory

theorem execBlockRelocated_memOk {s t : State} {dt handle logical : Nat} (hs : s.memOk) (h : execBlockRelocated dt handle logical s = .next t) :
    t.memOk := by
  unfold execBlockRelocated at h
  dsimp only at h
  split at h
  · obtain rfl := Host.Outcome.next.inj h; exact hs
  · split at h
    · split at h
      · split at h
        · cases h
        case isFalse hend =>
          obtain rfl := Host.Outcome.next.inj h
          exact ⟨Memory.wf_copyBlock _ _ _ hs.1, Memory.inside_copyBlock _ _ _ (Nat.lt_of_not_le hend) hs.2⟩
      · obtain rfl := Host.Outcome.next.inj h; exact hs
    · obtain rfl := Host.Outcome.next.inj h; exact hs

theorem exec_memOk {c : Instr} {s t : State} (hs : s.memOk) (h : exec c s = .next t) : t.memOk := by
  have heffect := exec_effect c s
  rw [h] at heffect
  generalize ho : Host.Outcome.next t = o at heffect
  cases heffect with
  | device f => exact State.memOk_of_mem hs (.inl (State.act_mem ho.symm))
  | bytes f => exact State.actMem_keeps s t f hs.1 hs.2 ho.symm
  | reset f => exact State.memOk_of_mem hs (State.actReset_mem ho.symm)
  | refresh d =>
    obtain rfl := Host.Outcome.next.inj ho
    exact State.maskedLost_keeps { s with dev := d } hs.1 hs.2
  | copy dt handle logical => exact execBlockRelocated_memOk hs ho.symm

/-- An idle step runs a command the device holds back, or leaves everything but the device. -/
theorem State.idle_inv {s t : State} (h : s.idle = .next t) :
    (∃ c d u, s.dev.readyRequest.orElse (fun _ => s.dev.heldRequest) = some (c, d) ∧ exec c { s with dev := d } = .next u ∧
      t = { u with dev := { u.dev with rcp := { u.dev.rcp with retake := false } } }) ∨ t = { s with dev := s.dev.lanesRun 1 id } := by
  unfold State.idle at h
  split at h
  case h_1 c d htaken =>
    split at h
    case h_1 u hu => cases h; exact .inl ⟨c, d, u, htaken, hu, rfl⟩
    case h_2 o hno => exact absurd h (hno t)
  case h_2 => cases h; exact .inr rfl

/-- Settles O4: each way a command reaches the block keeps the form, and a step is a command or an idle step. -/
theorem stepKeepsMemory : Obligations.StepKeepsMemory := by
  unfold Obligations.StepKeepsMemory
  intro s t hs h
  unfold step at h
  split at h
  case h_1 =>
    obtain ⟨c, d, u, _, hu, rfl⟩ | rfl := State.idle_inv h
    · exact exec_memOk (s := { s with dev := d }) (t := u) hs hu
    · exact hs
  case h_2 c rest _ => exact exec_memOk (s := { s with pending := rest }) hs h

end Sys2Proof.Machine
end

section
/-! Obligations of 14_references.md: references judged by their events, and the DPLLs that follow them (R389 to R400). -/

namespace Sys2Proof.Machine
open Sys2Proof

/-! ## What DPLLs and references show, and what stays beside them -/

/-- The fields that DPLLs show and count. -/
def dpllFields : List Fld :=
  [D.DpllStatus.STATE, D.DpllStatus.CURRENT, D.DpllStatus.PENDING, D.DpllStatus.FROZEN, D.DpllStatus.PHASE_MOVING, D.DpllStatus.BUILDOUT_NS,
    D.DpllStatus.FREQ_PPB, D.DpllCounters.HOLDOVERS, D.DpllCounters.FREEZES]

/-- Those and the fields that references show. -/
def refFields : List Fld :=
  dpllFields ++ [D.RefStatus.STATE, D.RefStatus.ACTIVE, D.RefStatus.SOFT, D.RefStatus.HARD, D.RefStatus.CAUSE, D.RefStatus.OFFSET_PPB,
    D.RefSticky.STOP, D.RefSticky.GLITCH, D.RefSticky.SOFT, D.RefSticky.HARD, D.RefSticky.DISQUALIFIED, D.RefSticky.FORMAT,
    D.RefArea.LO_OFFSET_PPB]

/-- The events of a reference that the device has noted. -/
def Dev.refSeen (d : Dev) (r : Nat) : Option Nat × Nat × Option Int := ((d.refSt r).last, (d.refSt r).count, (d.refSt r).meas)

/-- One device differs from another in the fields listed, in what DPLLs hold and in how references are judged; the events noted, the servo, what is
sent and the faults raised before stand. -/
structure Dev.RefsMove (l : List Fld) (o d : Dev) : Prop where
  rd : ∀ g, l.all (fun f => Fld.apart f g) = true → ∀ m, d.rd g m = o.rd g m
  seen : ∀ r, d.refSeen r = o.refSeen r
  time : d.time = o.time
  wall : d.wall = o.wall
  out : d.out = o.out
  raw : d.raw = o.raw
  raised : ∀ x ∈ o.raised, x ∈ d.raised

theorem Dev.refSt_setRef_same (d : Dev) (r : Nat) (f : RefSt → RefSt) : (d.setRef r f).refSt r = f (d.refSt r) := by
  simp only [Dev.refSt, Dev.setRef, nget_nput_same]

theorem Dev.refSt_setRef_other (d : Dev) {r j : Nat} (f : RefSt → RefSt) (h : j ≠ r) : (d.setRef r f).refSt j = d.refSt j := by
  simp only [Dev.refSt, Dev.setRef, nget_nput_other _ _ _ h]

theorem Dev.dpllSt_setDpll_same (d : Dev) (k : Nat) (f : DpllSt → DpllSt) : (d.setDpll k f).dpllSt k = f (d.dpllSt k) := by
  simp only [Dev.dpllSt, Dev.setDpll, nget_nput_same]

theorem Dev.rd_setRef (d : Dev) (r : Nat) (f : RefSt → RefSt) (g : Fld) (m : Nat) : (d.setRef r f).rd g m = d.rd g m := (rfl)
theorem Dev.rd_setDpll (d : Dev) (k : Nat) (f : DpllSt → DpllSt) (g : Fld) (m : Nat) : (d.setDpll k f).rd g m = d.rd g m := (rfl)

namespace Dev.RefsMove

theorem refl (l : List Fld) (d : Dev) : d.RefsMove l d :=
  ⟨fun _ _ _ => rfl, fun _ => rfl, rfl, rfl, rfl, rfl, fun _ h => h⟩

section
variable {l : List Fld} {o d : Dev} (h : o.RefsMove l d)
include h

theorem wr {f : Fld} {n v : Nat} (hf : f ∈ l := by decide) : o.RefsMove l (d.wr f n v) :=
  ⟨fun g hg m => (Dev.rd_wr_apart d f g n m v (List.all_eq_true.mp hg f hf)).trans (h.rd g hg m), h.seen, h.time, h.wall, h.out, h.raw, h.raised⟩

theorem flag {f : Fld} {n : Nat} {b : Bool} (hf : f ∈ l := by decide) : o.RefsMove l (d.flag f n b) := h.wr hf
theorem sat {f : Fld} {n k : Nat} (hf : f ∈ l := by decide) : o.RefsMove l (d.sat f n k) := h.wr hf
theorem wrI {f : Fld} {n : Nat} {v : Int} (hf : f ∈ l := by decide) : o.RefsMove l (d.wrI f n v) := h.wr hf

theorem raise {a b : Nat} : o.RefsMove l (d.raise a b) :=
  ⟨h.rd, h.seen, h.time, h.wall, h.out, h.raw, fun x hx => List.mem_append_left _ (h.raised x hx)⟩

theorem setDpll {k : Nat} {f : DpllSt → DpllSt} : o.RefsMove l (d.setDpll k f) := ⟨h.rd, h.seen, h.time, h.wall, h.out, h.raw, h.raised⟩
theorem drawn : o.RefsMove l d.drawn := ⟨h.rd, h.seen, h.time, h.wall, h.out, h.raw, h.raised⟩

theorem setRef {r : Nat} {f : RefSt → RefSt} (hf : ∀ x, ((f x).last, (f x).count, (f x).meas) = (x.last, x.count, x.meas) := by intro; rfl) :
    o.RefsMove l (d.setRef r f) := by
  refine ⟨h.rd, fun j => .trans ?_ (h.seen j), h.time, h.wall, h.out, h.raw, h.raised⟩
  by_cases hj : j = r
  · subst hj; simp only [Dev.refSeen, Dev.refSt_setRef_same, hf]
  · simp only [Dev.refSeen, Dev.refSt_setRef_other d f hj]

theorem ite {p : Prop} [Decidable p] {e : Dev} (k : o.RefsMove l e) : o.RefsMove l (if p then d else e) := by
  split <;> assumption

theorem foldl {α : Type} (s : List α) {f : Dev → α → Dev} (hf : ∀ d a, o.RefsMove l d → o.RefsMove l (f d a)) : o.RefsMove l (s.foldl f d) := by
  induction s generalizing d with
  | nil => exact h
  | cons a t ih => exact ih (hf d a h)

theorem each {s : List Nat} {f : Dev → Nat → Dev} (hf : ∀ d n, o.RefsMove l d → o.RefsMove l (f d n)) : o.RefsMove l (d.each s f) := h.foldl s hf

end

/-! ## The DPLLs look at their references (R395, R399) -/

section
variable {l : List Fld} (hl : dpllFields ⊆ l) {o d : Dev} (h : o.RefsMove l d)
include hl h

theorem dpllTo (k st : Nat) : o.RefsMove l (d.dpllTo k st) :=
  (((h.setDpll.wr (hl (by decide))).flag (hl (by decide))).flag (hl (by decide))).wr (hl (by decide))

theorem dpllSwitch (k r : Nat) (b : Bool) : o.RefsMove l (d.dpllSwitch k r b) :=
  have hswitch := ((h.dpllTo hl k DpllState.SWITCHING).wr (f := D.DpllStatus.PENDING) (hl (by decide))).setDpll
  hswitch.raise.ite hswitch

theorem dpllHold (k : Nat) : o.RefsMove l (d.dpllHold k) :=
  ((h.dpllTo hl ..).wr (hl (by decide))).raise.ite (((h.dpllTo hl ..).wr (hl (by decide))).raise.sat (hl (by decide))).setDpll

theorem dpllPull (k r : Nat) : o.RefsMove l (d.dpllPull k r) :=
  have hcurrent := ((h.dpllTo hl k DpllState.LOCKING).wr (f := D.DpllStatus.CURRENT) (hl (by decide))).wrI
    (f := D.DpllStatus.BUILDOUT_NS) (hl (by decide))
  hcurrent.setDpll.ite hcurrent.setDpll.drawn

theorem dpllReselect (k : Nat) : o.RefsMove l (d.dpllReselect k) := by
  unfold Dev.dpllReselect
  dsimp only
  refine ite ?_ (ite ?_ (ite (ite h ?_) (ite (ite ?_ (ite ?_ (ite ?_ h))) h)))
  · split; exacts [h.dpllPull hl .., h]
  · split; exacts [h.dpllSwitch hl .., h]
  · split; exacts [h.dpllSwitch hl .., h.dpllHold hl ..]
  · split; exacts [h.dpllSwitch hl .., h.dpllHold hl ..]
  · split; exacts [ite h (h.dpllSwitch hl ..), h]
  · split; exacts [ite h (h.dpllSwitch hl ..), h]

theorem reselectAll : o.RefsMove l d.reselectAll := h.each fun _ _ h => h.dpllReselect hl _

end

/-! ## References are judged (R389 to R391) -/

theorem dpll_in_ref : dpllFields ⊆ refFields := fun _ h => List.mem_append_left _ h

section
variable {o d : Dev} (h : o.RefsMove refFields d)
include h

theorem refDown (r cause : Nat) : o.RefsMove refFields (d.refDown r cause) := h.wr.wr.flag.raise

theorem disqualify (r cause : Nat) : o.RefsMove refFields (d.disqualify r cause) :=
  .reselectAll dpll_in_ref (ite (each (h.refDown ..) fun _ _ h => h.refDown ..) (h.refDown ..))

theorem refFails (r cause : Nat) : o.RefsMove refFields (d.refFails r cause) :=
  ite (h.disqualify ..) (ite h.wr h)

theorem refPresent (r : Nat) : o.RefsMove refFields (d.refPresent r) := by
  unfold Dev.refPresent
  exact ite h.flag.wr.setRef h.flag

theorem timeRef : o.RefsMove refFields d.timeRef :=
  ite h (ite (h.refPresent _) (h.flag.refFails ..))

theorem freezeDplls (r : Nat) : o.RefsMove refFields (d.freezeDplls r) := h.each fun _ _ h => h.flag.sat

theorem refGlitch (r : Nat) : o.RefsMove refFields (d.refGlitch r) := by
  unfold Dev.refGlitch
  exact ite (ite (h.setRef.flag.disqualify ..) h.setRef.flag.raise) (h.setRef.refFails ..)

theorem refPlaced (r : Nat) (missed : Bool) : o.RefsMove refFields (d.refPlaced r missed) := by
  unfold Dev.refPlaced
  dsimp only
  refine refPresent (ite (refGlitch ?_ r) ?_) r <;>
  exact each (ite (h.setRef.freezeDplls r) h.setRef) fun _ _ h => h.flag

theorem refMisplaced (r : Nat) : o.RefsMove refFields (d.refMisplaced r) := by
  unfold Dev.refMisplaced
  dsimp only
  refine ite (refFails (flag (setRef (ite ?_ h))) ..) (setRef (ite ?_ h)) <;> exact h.freezeDplls r

theorem refLimits (r : Nat) (off : Int) : o.RefsMove refFields (d.refLimits r off) := by
  unfold Dev.refLimits
  dsimp only
  refine ite (ite (disqualify (flag (flag (ite ?_ h.wrI.flag))) ..) (refFails (flag (ite ?_ h.wrI.flag)) ..)) (flag (ite ?_ h.wrI.flag)) <;>
  exact h.wrI.flag.flag.raise

theorem dpllFreq (k : Nat) (demand : Option Int) : o.RefsMove refFields (d.dpllFreq k demand) := h.setDpll.wrI

end

end Dev.RefsMove

/-! ## What a reference shows when it is disqualified -/

/-- The selection of the DPLLs leaves what a reference shows. -/
theorem Dev.rd_reselectAll (d : Dev) {g : Fld} (hg : dpllFields.all (fun f => Fld.apart f g) = true) (m : Nat) : d.reselectAll.rd g m = d.rd g m :=
  ((Dev.RefsMove.refl dpllFields d).reselectAll fun _ h => h).rd g hg m

theorem Dev.rd_refDown_other (d : Dev) {r j : Nat} (cause : Nat) (h : r ≠ j) (g : Fld)
    (hg : g = D.RefStatus.STATE ∨ g = D.RefStatus.CAUSE ∨ g = D.RefStatus.ACTIVE ∨ g = D.RefSticky.DISQUALIFIED) :
    (d.refDown j cause).rd g r = d.rd g r := by
  have hkey : g.key r ≠ D.RefStatus.CAUSE.key j ∧ g.key r ≠ D.RefStatus.STATE.key j ∧ g.key r ≠ D.RefSticky.DISQUALIFIED.key j := by
    rcases hg with rfl | rfl | rfl | rfl <;> simp [Fld.key, D.RefStatus.CAUSE, D.RefStatus.STATE, D.RefStatus.ACTIVE, D.RefSticky.DISQUALIFIED, h]
  obtain ⟨hcause, hstate, hsticky⟩ := hkey
  rw [Dev.refDown, Dev.rd_raise, Dev.flag, Dev.rd_wr_key _ _ _ _ _ _ hsticky, Dev.rd_wr_key _ _ _ _ _ _ hstate, Dev.rd_wr_key _ _ _ _ _ _ hcause]

/-- The fields of a reference that is disqualified read as `refDown` leaves them: the references that go with it are others. -/
theorem Dev.rd_disqualify (d : Dev) (r cause : Nat) (g : Fld)
    (hg : g = D.RefStatus.STATE ∨ g = D.RefStatus.CAUSE ∨ g = D.RefStatus.ACTIVE ∨ g = D.RefSticky.DISQUALIFIED) :
    (d.disqualify r cause).rd g r = (d.refDown r cause).rd g r := by
  have hdpll : dpllFields.all (fun f => Fld.apart f g) = true := by rcases hg with rfl | rfl | rfl | rfl <;> decide
  unfold Dev.disqualify
  dsimp only
  rw [Dev.rd_reselectAll _ hdpll]
  split
  case isFalse => rfl
  case isTrue =>
    have hdown : (d.refDown r cause).refState r = RefState.ABSENT := by
      rw [Dev.refState, Dev.refDown, Dev.rd_raise, Dev.rd_flag_apart _ _ _ _ _ _ (by decide), Dev.rd_wr_same]; decide
    have hothers : ∀ j ∈ (List.range 4).filter (fun h => (d.refDown r cause).rd D.RefCfg.TYPE h == 1 && (d.refDown r cause).rd D.RefCfg.F_PIN h == r
        && (d.refDown r cause).refState h == RefState.QUALIFIED), r ≠ j := by
      rintro j hj rfl
      simp [hdown, RefState.ABSENT, RefState.QUALIFIED] at hj
    generalize (List.range 4).filter _ = js at hothers
    generalize d.refDown r cause = e
    rw [Dev.each]
    induction js generalizing e with
    | nil => rfl
    | cons j js ih =>
      rw [List.foldl_cons, ih (fun i hi => hothers i (List.mem_cons_of_mem _ hi)),
        Dev.rd_refDown_other _ _ (hothers j List.mem_cons_self) _ hg]

/-- A reference whose events have ended, before it is judged. -/
def Dev.refQuiet (d : Dev) (r : Nat) : Dev := (d.flag D.RefStatus.ACTIVE r false).setRef r (fun x => { x with last := none, bad := 0 })

theorem Dev.refHalt_of_qualified {d : Dev} {r : Nat} (hon : d.refOn r = true) (hstate : d.refState r = RefState.QUALIFIED) :
    d.refHalt r = (((d.refQuiet r).flag D.RefSticky.STOP r true).raise Src.REF_LOS r).disqualify r 1 := by
  have hquiet : (d.refQuiet r).refState r = RefState.QUALIFIED := by
    rw [Dev.refState, Dev.refQuiet, Dev.rd_setRef, Dev.rd_flag_apart _ _ _ _ _ _ (by decide)]
    exact hstate
  have hrunning : ¬(!d.refOn r) = true := by simp [hon]
  simp only [Dev.refHalt, if_neg hrunning]
  exact if_pos hquiet

/-! ## The commands of references -/

section
variable {s : State} {dt ref : Nat} (hreset : s.dev.inReset = false) (hon : s.dev.refOn ref = true)
include hreset hon

/-- R389: an event of a monitored reference is noted and counted, whatever it is judged to be. -/
theorem refPhaseEvent_completes (href : ref < 132) (hlocked : ref < 4 ∨ s.dev.on D.SdiRxStatus.LOCKED (ref - 4) = true) :
    Completes (.refPhaseEvent dt ref) s (fun t => (t.dev.refSt ref).last = some (s.dev.wall + dt) ∧ (t.dev.refSt ref).count = (s.dev.refSt ref).count + 1) := by
  have hmonitored : ¬(132 ≤ ref ∨ (!(s.dev.elapse dt).refOn ref) = true ∨ (s.dev.elapse dt).inReset = true ∨
      (4 ≤ ref ∧ (s.dev.elapse dt).on D.SdiRxStatus.LOCKED (ref - 4) = false)) := by
    have hrunning : (s.dev.elapse dt).refOn ref = true := hon
    rcases hlocked with h | h <;> simp [hrunning, hreset, h] <;> omega
  -- the event is noted first
  let noted := (s.dev.elapse dt).setRef ref (fun y => { y with last := some (s.dev.elapse dt).wall, count := y.count + 1, frameAt := some (s.dev.elapse dt).now })
  have hnoted : noted.refSeen ref = (some (s.dev.wall + dt), (s.dev.refSt ref).count + 1, (s.dev.refSt ref).meas) := by
    simp only [noted, Dev.refSeen, Dev.refSt_setRef_same]; rfl
  -- and its judgement leaves what was noted
  have hjudged : ∀ e : Dev, noted.RefsMove refFields e → (e.refSt ref).last = some (s.dev.wall + dt) ∧ (e.refSt ref).count = (s.dev.refSt ref).count + 1 := by
    intro e he
    have hseen := (he.seen ref).trans hnoted
    simp only [Dev.refSeen, Prod.mk.injEq] at hseen
    exact ⟨hseen.1, hseen.2.1⟩
  -- a sample for the servo is no part of it
  have hsampled : ∀ e : Dev, noted.RefsMove refFields e →
      ∀ d, d = (if e.rd D.RefArea.TIME_PPS_REF 0 = ref ∧ e.refQualified ref = true ∧ e.rd D.RefCfg.TYPE ref = 4
        then { e with time := { e.time with samples := e.time.samples ++ [(1, sdiff e.now ((e.now + 500000000) / 1000000000 * 1000000000) 64)] } }
        else e) → (d.refSt ref).last = some (s.dev.wall + dt) ∧ (d.refSt ref).count = (s.dev.refSt ref).count + 1 := by
    rintro e he _ rfl
    split <;> exact hjudged e he
  have hrefl := Dev.RefsMove.refl refFields noted
  refine ⟨_, rfl, ?_⟩
  simp only [if_neg hmonitored]
  split
  · exact hsampled noted hrefl _ rfl
  · exact hsampled _ (.ite (hrefl.refPlaced ..) (.ite (hrefl.refPlaced ..) (hrefl.refMisplaced ..))) _ rfl

/-- Table 14.3: a reference that stops is disqualified with cause 1. -/
theorem refStop_completes (href : ref < 132) (hstop : (s.dev.elapse dt).refStopped ref = true) (hstate : s.dev.refState ref = RefState.QUALIFIED) :
    Completes (.refStop dt ref) s (fun t => t.dev.refState ref = RefState.ABSENT ∧ t.dev.rd D.RefStatus.CAUSE ref = 1 ∧
      t.dev.on D.RefSticky.DISQUALIFIED ref = true ∧ t.dev.on D.RefStatus.ACTIVE ref = false) := by
  have hstopped : ¬(132 ≤ ref ∨ (s.dev.elapse dt).inReset = true ∨ (!(s.dev.elapse dt).refStopped ref) = true) := by
    simp [hstop, hreset]; omega
  have hhalt := Dev.refHalt_of_qualified (d := s.dev.elapse dt) hon hstate
  refine ⟨_, rfl, ?_⟩
  simp only [if_neg hstopped, hhalt]
  simp only [Dev.refState, Dev.on]
  rw [Dev.rd_disqualify _ _ _ _ (.inl rfl), Dev.rd_disqualify _ _ _ _ (.inr (.inl rfl)), Dev.rd_disqualify _ _ _ _ (.inr (.inr (.inr rfl))),
    Dev.rd_disqualify _ _ _ _ (.inr (.inr (.inl rfl)))]
  simp (disch := decide) only [Dev.refDown, Dev.refQuiet, Dev.rd_raise, Dev.flag, Dev.rd_wr_apart, Dev.rd_wr_same, Dev.rd_setRef]
  decide

/-- R390: the measured frequency is kept. -/
theorem refFreqUpdate_completes (href : ref < 132) (v : Int) (demand : List (Nat × Int)) :
    Completes (.refFreqUpdate dt [(ref, v)] demand) s (fun t => (t.dev.refSt ref).meas = some v) := by
  have hrunning : ref < 132 ∧ (s.dev.elapse dt).refOn ref = true := ⟨href, hon⟩
  let kept := (s.dev.elapse dt).setRef ref (fun x => { x with meas := some v })
  have hkept : (kept.refSeen ref).2.2 = some v := by
    simp only [kept, Dev.refSeen, Dev.refSt_setRef_same]
  have hrefl := Dev.RefsMove.refl refFields kept
  refine ⟨_, rfl, ?_⟩
  simp only [Dev.inReset_elapse, hreset, Bool.false_eq_true, if_false, List.foldl_cons, List.foldl_nil, if_pos hrunning]
  suffices h : kept.RefsMove refFields _ from (congrArg (·.2.2) (h.seen ref)).trans hkept
  refine .each (.each (.foldl ?_ _ fun _ _ h => h.refLimits ..) fun _ _ h => .ite h.flag h) fun _ _ h => h.dpllFreq ..
  exact .ite hrefl.wrI.raise hrefl.wrI

/-- R391: a reference whose hold-off has passed cleanly is qualified. -/
theorem refHoldoffElapsed_completes (href : ref < 133) (hstate : s.dev.refState ref = RefState.HOLDING_OFF)
    (hpast : (s.dev.elapse dt).past (s.dev.refSt ref).holdAt (s.dev.rd D.RefCfg.HOLDOFF_S ref * 1000000000) = true)
    (hhard : s.dev.on D.RefStatus.HARD ref = false) (hpin : 4 ≤ ref ∨ s.dev.rd D.RefCfg.TYPE ref ≠ 1) :
    Completes (.refHoldoffElapsed dt ref) s (fun t => t.dev.refState ref = RefState.QUALIFIED ∧ t.dev.on D.RefSticky.QUALIFIED ref = true) := by
  have hclean : ¬(133 ≤ ref ∨ (!(s.dev.elapse dt).refOn ref) = true ∨ (s.dev.elapse dt).inReset = true ∨
      (s.dev.elapse dt).refState ref ≠ RefState.HOLDING_OFF ∨
      (!(s.dev.elapse dt).past ((s.dev.elapse dt).refSt ref).holdAt ((s.dev.elapse dt).rd D.RefCfg.HOLDOFF_S ref * 1000000000)) = true ∨
      (s.dev.elapse dt).on D.RefStatus.HARD ref = true ∨
      (ref < 4 ∧ (s.dev.elapse dt).rd D.RefCfg.TYPE ref = 1 ∧ (s.dev.elapse dt).rd D.RefCfg.F_PIN ref < 4 ∧
        (s.dev.elapse dt).refState ((s.dev.elapse dt).rd D.RefCfg.F_PIN ref) ≠ RefState.QUALIFIED)) := by
    have hrunning : (s.dev.elapse dt).refOn ref = true := hon
    have hheld : (s.dev.elapse dt).refState ref = RefState.HOLDING_OFF := hstate
    have hpassed : (s.dev.elapse dt).past ((s.dev.elapse dt).refSt ref).holdAt (s.dev.rd D.RefCfg.HOLDOFF_S ref * 1000000000) = true := hpast
    simp only [hrunning, hheld, hpassed, Dev.rd_elapse, Dev.on_elapse, Dev.inReset_elapse, hreset, hhard]
    rcases hpin with h | h <;> simp [h] <;> omega
  refine ⟨_, rfl, ?_⟩
  simp only [if_neg hclean]
  simp only [Dev.refState, Dev.on]
  rw [Dev.rd_reselectAll _ (by decide), Dev.rd_reselectAll _ (by decide)]
  simp (disch := decide) only [Dev.flag, Dev.rd_wr_apart, Dev.rd_wr_same]
  decide

end

/-- Settles O41: each command by its lemma above. -/
theorem referencesComplete : Obligations.ReferencesComplete := by
  unfold Obligations.ReferencesComplete
  exact ⟨fun _ _ _ href hon hreset hlocked => refPhaseEvent_completes hreset hon href hlocked,
    fun _ _ _ href hon hreset hstop hstate => refStop_completes hreset hon href hstop hstate,
    fun _ _ _ v demand href hon hreset => refFreqUpdate_completes hreset hon href v demand,
    fun _ _ _ href hon hreset hstate hpast hhard hpin => refHoldoffElapsed_completes hreset hon href hstate hpast hhard hpin⟩

/-! ## Signed values in fields -/

theorem ofInt_lt (w : Nat) (i : Int) : ofInt w i < 2 ^ w := by
  have hpos : (0 : Int) < (2 ^ w : Nat) := by exact_mod_cast Nat.two_pow_pos w
  unfold ofInt
  have := Int.emod_lt_of_pos i hpos
  have := Int.emod_nonneg i hpos.ne'
  omega

theorem ofInt_cast (w : Nat) (i : Int) : (ofInt w i : Int) = i % (2 ^ w : Nat) :=
  Int.toNat_of_nonneg (Int.emod_nonneg i (by exact_mod_cast (Nat.two_pow_pos w).ne'))

/-- A value that fits a field of w bits is read back from it. -/
theorem toInt_ofInt {w : Nat} (hw : 0 < w) {i : Int} (hlo : -(2 ^ (w - 1) : Nat) ≤ i) (hhi : i < (2 ^ (w - 1) : Nat)) : toInt w (ofInt w i) = i := by
  have hcast := ofInt_cast w i
  have hlt := ofInt_lt w i
  have hdouble : 2 ^ w = 2 * 2 ^ (w - 1) := by rw [← pow_succ', Nat.sub_add_cancel hw]
  unfold toInt
  rw [Nat.mod_eq_of_lt hlt]
  generalize 2 ^ (w - 1) = half at *
  generalize ofInt w i = x at *
  rw [hdouble] at *
  have hrange : i % ((2 * half : Nat) : Int) = if 0 ≤ i then i else i + (2 * half : Nat) := by
    split
    · exact Int.emod_eq_of_lt (by omega) (by omega)
    · rw [← Int.add_emod_right]
      exact Int.emod_eq_of_lt (by omega) (by omega)
  rw [hrange] at hcast
  split at hcast <;> split <;> omega

/-! ## The commands of DPLLs -/

/-- What DPLLs do leaves the eligibility of a reference. -/
theorem Dev.RefsMove.eligible {o d : Dev} (h : o.RefsMove dpllFields d) (k r : Nat) : d.eligible k r = o.eligible k r := by
  unfold Dev.eligible Dev.refQualified Dev.refFits Dev.dpllFps
  simp (disch := decide) only [h.rd]

/-- R395: a locked DPLL keeps a reference that stays eligible, where nothing reverts it. -/
theorem Dev.dpllReselect_of_eligible {d : Dev} {k : Nat} (hstate : d.dpllState k = DpllState.LOCKED)
    (heligible : d.eligible k (d.rd D.DpllStatus.CURRENT k) = true) (hmode : d.rd D.RefArea.MODE 0 = 0) (hrevert : d.on D.DpllCfg.REVERTIVE k = false) :
    d.dpllReselect k = d := by
  simp [Dev.dpllReselect, hstate, heligible, hmode, hrevert, DpllState.LOCKED, DpllState.FREE_RUN, DpllState.HOLDOVER, DpllState.SWITCHING]

section
variable {s : State} {dt k : Nat} (hk : k < 8) (hreset : s.dev.inReset = false)
include hk hreset

/-- R395: the lock stands where the reference stays eligible and nothing reverts it. -/
theorem dpllLocked_completes {err : Nat} (hstate : s.dev.dpllState k = DpllState.LOCKING) (herr : err ≤ 100)
    (hpast : (s.dev.elapse dt).past (s.dev.dpllSt k).since 1000000000 = true)
    (hevents : 16 ≤ (s.dev.elapse dt).eventsSince k (s.dev.rd D.DpllStatus.CURRENT k)) (hfrozen : s.dev.on D.DpllStatus.FROZEN k = false)
    (heligible : s.dev.eligible k (s.dev.rd D.DpllStatus.CURRENT k) = true) (hmode : s.dev.rd D.RefArea.MODE 0 = 0)
    (hrevert : s.dev.on D.DpllCfg.REVERTIVE k = false) :
    Completes (.dpllLocked dt k err) s (fun t => t.dev.dpllState k = DpllState.LOCKED ∧ (t.dev.dpllSt k).err = err) := by
  have hlocks : ¬(8 ≤ k ∨ (s.dev.elapse dt).inReset = true ∨ (s.dev.elapse dt).dpllState k ≠ DpllState.LOCKING ∨ 100 < err ∨
      (!(s.dev.elapse dt).past ((s.dev.elapse dt).dpllSt k).since 1000000000) = true ∨
      (s.dev.elapse dt).eventsSince k ((s.dev.elapse dt).rd D.DpllStatus.CURRENT k) < 16 ∨ (s.dev.elapse dt).on D.DpllStatus.FROZEN k = true) := by
    have hlocking : (s.dev.elapse dt).dpllState k = DpllState.LOCKING := hstate
    have hpassed : (s.dev.elapse dt).past ((s.dev.elapse dt).dpllSt k).since 1000000000 = true := hpast
    simp [hlocking, hpassed, hreset, hk, herr, hfrozen, hevents]
  let locked := ((s.dev.elapse dt).wr D.DpllStatus.STATE k DpllState.LOCKED).setDpll k (fun x =>
    { x with everLocked := true, pull := false, since := (s.dev.elapse dt).wall, err := err, hist := [] })
  have hmoves : (s.dev.elapse dt).RefsMove dpllFields locked := (Dev.RefsMove.refl _ _).wr.setDpll
  have hstate' : locked.dpllState k = DpllState.LOCKED := by
    simp only [locked, Dev.dpllState, Dev.rd_setDpll, Dev.rd_wr_same]; decide
  have hcurrent : locked.rd D.DpllStatus.CURRENT k = s.dev.rd D.DpllStatus.CURRENT k := by
    simp (disch := decide) only [locked, Dev.rd_setDpll, Dev.rd_wr_apart, Dev.rd_elapse]
  have hstays : locked.dpllReselect k = locked := Dev.dpllReselect_of_eligible hstate'
    (by rw [hcurrent, hmoves.eligible]; exact heligible) (by rw [hmoves.rd _ (by decide)]; exact hmode)
    (by rw [Dev.on, hmoves.rd _ (by decide)]; exact hrevert)
  refine ⟨_, rfl, ?_⟩
  simp only [if_neg hlocks]
  rw [show (((s.dev.elapse dt).wr D.DpllStatus.STATE k DpllState.LOCKED).setDpll k _).dpllReselect k = locked from hstays]
  exact ⟨hstate', by simp only [locked, Dev.dpllSt_setDpll_same]⟩

/-- R396: the target becomes the current reference. -/
theorem dpllSwitchMeasured_completes (hstate : s.dev.dpllState k = DpllState.SWITCHING)
    (hpast : (s.dev.elapse dt).past (s.dev.dpllSt k).since 1000000 = true)
    (hevents : 4 ≤ (s.dev.elapse dt).eventsSince k (s.dev.rd D.DpllStatus.PENDING k))
    (heligible : s.dev.eligible k (s.dev.rd D.DpllStatus.PENDING k) = true) :
    Completes (.dpllSwitchMeasured dt k) s (fun t => t.dev.dpllState k = DpllState.LOCKING ∧
      t.dev.rd D.DpllStatus.CURRENT k = s.dev.rd D.DpllStatus.PENDING k ∧
      t.dev.rd D.DpllCounters.SWITCHES k = min (s.dev.rd D.DpllCounters.SWITCHES k + 1) (2 ^ 32 - 1)) := by
  have hmeasured : ¬(8 ≤ k ∨ (s.dev.elapse dt).inReset = true ∨ (s.dev.elapse dt).dpllState k ≠ DpllState.SWITCHING ∨
      (!(s.dev.elapse dt).past ((s.dev.elapse dt).dpllSt k).since 1000000) = true ∨
      (s.dev.elapse dt).eventsSince k ((s.dev.elapse dt).rd D.DpllStatus.PENDING k) < 4) := by
    have hswitching : (s.dev.elapse dt).dpllState k = DpllState.SWITCHING := hstate
    have hpassed : (s.dev.elapse dt).past ((s.dev.elapse dt).dpllSt k).since 1000000 = true := hpast
    simp [hswitching, hpassed, hreset, hk, hevents]
  have htarget : ¬(!(s.dev.elapse dt).eligible k ((s.dev.elapse dt).rd D.DpllStatus.PENDING k)) = true := by
    have : (s.dev.elapse dt).eligible k (s.dev.rd D.DpllStatus.PENDING k) = true := heligible
    simp [this]
  have hbits : s.dev.rd D.DpllStatus.PENDING k % 2 ^ 8 = s.dev.rd D.DpllStatus.PENDING k := Nat.mod_eq_of_lt (bitsOf_lt ..)
  refine ⟨_, rfl, ?_⟩
  simp only [if_neg hmeasured, if_neg htarget]
  -- however the difference of phase is taken up, the fields asked for stand by then
  split
  · simp (disch := decide) only [Dev.dpllState, Dev.wrI, Dev.rd_wr_apart, Dev.rd_sat_same, Dev.rd_sat_apart, Dev.rd_setDpll, Dev.dpllTo, Dev.flag,
      Dev.rd_wr_same, Dev.rd_elapse]
    exact ⟨by decide, hbits, rfl⟩
  · split
    all_goals
      simp (disch := decide) only [Dev.dpllState, Dev.wrI, Dev.rd_wr_apart, Dev.rd_sat_same, Dev.rd_sat_apart, Dev.rd_setDpll, Dev.dpllTo, Dev.flag,
        Dev.rd_wr_same, Dev.rd_elapse]
      exact ⟨by decide, hbits, rfl⟩

/-- R399: a holdover that has lasted HOLDOVER_MAX_S ends in FREE_RUN. -/
theorem dpllHoldoverExpiry_completes (hstate : s.dev.dpllState k = DpllState.HOLDOVER)
    (hpast : (s.dev.elapse dt).past (s.dev.dpllSt k).since (s.dev.rd D.DpllCfg.HOLDOVER_MAX_S k * 1000000000) = true) :
    Completes (.dpllHoldoverExpiry dt k) s (fun t => t.dev.dpllState k = DpllState.FREE_RUN ∧
      t.dev.raised.contains ⟨Src.REF_DPLL_FREE_RUN, k, false⟩ = true) := by
  have hexpired : ¬(8 ≤ k ∨ (s.dev.elapse dt).inReset = true ∨ (s.dev.elapse dt).dpllState k ≠ DpllState.HOLDOVER ∨
      (!(s.dev.elapse dt).past ((s.dev.elapse dt).dpllSt k).since ((s.dev.elapse dt).rd D.DpllCfg.HOLDOVER_MAX_S k * 1000000000)) = true) := by
    have hheld : (s.dev.elapse dt).dpllState k = DpllState.HOLDOVER := hstate
    have hpassed : (s.dev.elapse dt).past ((s.dev.elapse dt).dpllSt k).since (s.dev.rd D.DpllCfg.HOLDOVER_MAX_S k * 1000000000) = true := hpast
    simp [hheld, hpassed, hreset, hk]
  refine ⟨_, rfl, ?_⟩
  simp only [if_neg hexpired]
  refine ⟨?_, by simp [Dev.raise]⟩
  simp (disch := decide) only [Dev.dpllState, Dev.dpllTo, Dev.flag, Dev.rd_raise, Dev.rd_wr_apart, Dev.rd_wr_same]
  decide

/-- R400: a PHASE_STEP that has covered its distance ends, and is counted. -/
theorem dpllPhaseMoveDone_completes {t0 : Nat} {by0 : Int} (hmove : (s.dev.dpllSt k).move = some (1, by0, t0))
    (hmoved : (s.dev.elapse dt).moved k = by0) :
    Completes (.dpllPhaseMoveDone dt k) s (fun t => (t.dev.dpllSt k).move = none ∧ t.dev.on D.DpllStatus.PHASE_MOVING k = false ∧
      t.dev.rd D.DpllCounters.PHASE_STEPS k = min (s.dev.rd D.DpllCounters.PHASE_STEPS k + 1) (2 ^ 32 - 1)) := by
  have hunder : ((s.dev.elapse dt).dpllSt k).move = some (1, by0, t0) := hmove
  have hdone : ¬(8 ≤ k ∨ (s.dev.elapse dt).inReset = true ∨ (s.dev.elapse dt).moved k ≠ by0) := by simp [hmoved, hreset, hk]
  refine ⟨_, rfl, ?_⟩
  simp only [hunder, if_neg hdone]
  simp only [Dev.dpllSt_setDpll_same, Dev.on, Dev.rd_setDpll, true_and]
  simp (disch := decide) only [Nat.one_ne_zero, if_false, if_true, Dev.rd_sat_apart, Dev.rd_sat_same, Dev.wrI, Dev.flag, Dev.rd_wr_apart, Dev.rd_wr_same,
    Dev.rd_elapse]
  exact ⟨by decide, rfl⟩

end

section
variable {s : State} {q : Rcp} {k : Nat} (hk : k < 8) (hdisabled : s.dev.dpllState k ≠ DpllState.DISABLED)
  (hswitching : s.dev.dpllState k ≠ DpllState.SWITCHING) (hstill : s.dev.on D.DpllStatus.PHASE_MOVING k = false)
include hk hdisabled hswitching hstill

/-- R400: a DPLL_CMD starts a phase move of the distance it names. -/
theorem Dev.dpllCmd_atBody {v kind : Nat} {val by0 : Int} (hkind : bitsOf v 56 8 = kind) (hdpll : bitsOf v 48 8 = k) (hzero : bitsOf v 32 16 = 0)
    (hval : toInt 32 (bitsOf v 0 32) = val) (hrange : ¬(kind ≠ 1 ∧ kind ≠ 2 ∨ 1000000000 < val.natAbs ∨ (kind = 2 ∧ val ≠ 0)))
    (hby : (if kind = 1 then val else -(s.dev.rdI D.DpllStatus.BUILDOUT_NS k)) = by0) :
    (s.dev.atBody q).dpllCmd v = (((s.dev.atBody q).flag D.DpllStatus.PHASE_MOVING k true).setDpll k
      (fun x => { x with move := some (kind, by0, s.dev.wall + q.dt) }), St.OK) := by
  have hstate : (s.dev.atBody q).dpllState k = s.dev.dpllState k := Dev.rd_atBody _ _ _ _ (by decide) (by decide) (by decide)
  have hmoving : (s.dev.atBody q).on D.DpllStatus.PHASE_MOVING k = false := by
    rw [Dev.on, Dev.rd_atBody _ _ _ _ (by decide) (by decide) (by decide)]; exact hstill
  have hbuildout : (s.dev.atBody q).rdI D.DpllStatus.BUILDOUT_NS k = s.dev.rdI D.DpllStatus.BUILDOUT_NS k := by
    rw [Dev.rdI, Dev.rd_atBody _ _ _ _ (by decide) (by decide) (by decide)]; rfl
  have hform : ¬(kind ≠ 1 ∧ kind ≠ 2 ∨ 8 ≤ k ∨ 0 ≠ 0 ∨ 1000000000 < val.natAbs ∨ (kind = 2 ∧ val ≠ 0)) := by
    intro h
    exact hrange (by omega)
  have hidle : ¬(s.dev.dpllState k = DpllState.DISABLED ∨ s.dev.dpllState k = DpllState.SWITCHING) := not_or.mpr ⟨hdisabled, hswitching⟩
  have hfree : ¬(false = true) := Bool.false_ne_true
  simp only [Dev.dpllCmd, hkind, hdpll, hzero, hval, if_neg hform, hstate, if_neg hidle, hmoving, if_neg hfree, hbuildout, hby, Dev.wall_atBody]
  rfl

/-- What a DPLL_CMD that has been granted leaves behind. -/
theorem dpllCmd_completes {c me : Instr} {v kind : Nat} {val by0 : Int} (hkind : bitsOf v 56 8 = kind) (hdpll : bitsOf v 48 8 = k)
    (hzero : bitsOf v 32 16 = 0) (hval : toInt 32 (bitsOf v 0 32) = val)
    (hrange : ¬(kind ≠ 1 ∧ kind ≠ 2 ∨ 1000000000 < val.natAbs ∨ (kind = 2 ∧ val ≠ 0)))
    (hby : (if kind = 1 then val else -(s.dev.rdI D.DpllStatus.BUILDOUT_NS k)) = by0)
    (hexec : exec c s = s.act (serveWrite me q 0x0700 0x0D ⟨8, v⟩ fun _ d => d.dpllCmd v)) (hgrant : s.dev.grants q 0x0700 0x0D ⟨8, v⟩ = true) :
    Completes c s (fun t => t.dev.answered q St.OK = true ∧ (t.dev.dpllSt k).move = some (kind, by0, s.dev.wall + q.dt) ∧
      t.dev.on D.DpllStatus.PHASE_MOVING k = true) := by
  have hbody := Dev.dpllCmd_atBody (q := q) hk hdisabled hswitching hstill hkind hdpll hzero hval hrange hby
  refine ⟨_, by rw [hexec, State.act, serveWrite_answers hgrant hbody (by decide)], Dev.answered_ok _, ?_, ?_⟩
  · rw [Dev.dpllSt, Dev.dpll_answer, ← Dev.dpllSt, Dev.dpllSt_setDpll_same]
  · rw [Dev.on, Dev.rd_answer _ _ _ _ _ (by decide) (by decide), Dev.rd_setDpll, Dev.flag, Dev.rd_wr_same]
    decide

end

/-- Settles O42: each command by its lemma above. -/
theorem dpllsComplete : Obligations.DpllsComplete := by
  unfold Obligations.DpllsComplete
  refine ⟨fun _ _ _ _ hk hreset hstate herr hpast hevents hfrozen heligible hmode hrevert =>
      dpllLocked_completes hk hreset hstate herr hpast hevents hfrozen heligible hmode hrevert,
    fun _ _ _ hk hreset hstate hpast hevents heligible => dpllSwitchMeasured_completes hk hreset hstate hpast hevents heligible,
    fun _ _ _ hk hreset hstate hpast => dpllHoldoverExpiry_completes hk hreset hstate hpast,
    fun s q k value hk hvalue hgrant hdisabled hswitching hstill => ?_, fun s q k hk hgrant hdisabled hswitching hstill => ?_,
    fun _ _ _ _ _ hk hreset hmove hmoved => dpllPhaseMoveDone_completes hk hreset hmove hmoved⟩
  · have hlt := ofInt_lt 32 value
    have hkept : bitsOf (2 ^ 56 + k * 2 ^ 48 + ofInt 32 value) 0 32 = ofInt 32 value := by unfold bitsOf; omega
    refine dpllCmd_completes hk hdisabled hswitching hstill (me := .dpllCmdPhaseStep q.again k value) (kind := 1) (val := value) (by unfold bitsOf; omega) (by unfold bitsOf; omega)
      (by unfold bitsOf; omega) (by rw [hkept]; exact toInt_ofInt (by decide) (by omega) (by omega)) (by omega) rfl ?_ hgrant
    simp only [exec, execDpllCmdPhaseStep, Nat.mod_eq_of_lt (show k < 256 by omega)]
  · have hcompletes := dpllCmd_completes (c := .dpllCmdClearBuildout q k) (me := .dpllCmdClearBuildout q.again k) hk hdisabled hswitching hstill (kind := 2) (val := 0)
      (by unfold bitsOf; omega) (by unfold bitsOf; omega) (by unfold bitsOf; omega)
      (by rw [show bitsOf (2 ^ 57 + k * 2 ^ 48) 0 32 = 0 by unfold bitsOf; omega]; decide) (by decide) rfl
      (by simp only [exec, execDpllCmdClearBuildout, Nat.mod_eq_of_lt (show k < 256 by omega)]) hgrant
    obtain ⟨t, ht, hok, hmove, _⟩ := hcompletes
    exact ⟨t, ht, hok, hmove⟩

end Sys2Proof.Machine
end

section
/-! Obligations of 13_device_time.md: changeovers of device time, the servo and the time outputs (R367 to R374, R383, R384, R402, R403). -/

namespace Sys2Proof.Machine
open Sys2Proof

/-! ## Device time -/

theorem ofInt_congr {w : Nat} {i j : Int} (h : i % (2 ^ w : Nat) = j % (2 ^ w : Nat)) : ofInt w i = ofInt w j := by
  unfold ofInt; rw [h]

/-- A value cut to a field may be cut before it is added to. -/
theorem ofInt_add_ofInt (w : Nat) (i j : Int) : ofInt w (i + (ofInt w j : Int)) = ofInt w (i + j) :=
  ofInt_congr (by rw [ofInt_cast, Int.add_emod_emod])

theorem ofInt_mod (w : Nat) (i : Int) : ofInt w i % 2 ^ w = ofInt w i := Nat.mod_eq_of_lt (ofInt_lt w i)

theorem sdiff_self (a w : Nat) : sdiff a a w = 0 := by
  have hpos := Nat.two_pow_pos w
  have hcancel : (a % 2 ^ w + 2 ^ w - a % 2 ^ w) % 2 ^ w = 0 := by rw [Nat.add_sub_cancel_left, Nat.mod_self]
  unfold sdiff
  dsimp only
  rw [hcancel]
  simp

theorem Dev.raw_elapse_lt (d : Dev) (dt : Nat) : (d.elapse dt).raw < 2 ^ 64 := by
  dsimp only [Dev.elapse]
  split
  · decide
  · exact Nat.mod_lt _ (by decide)

/-- R367: device time is made of RAW and three fields. -/
theorem Dev.now_congr {d e : Dev} (hraw : d.raw = e.raw) (hoffset : d.rd D.Time.OFFSET 0 = e.rd D.Time.OFFSET 0)
    (hrate : d.rd D.Time.RATE 0 = e.rd D.Time.RATE 0) (hepoch : d.rd D.Time.RATE_EPOCH 0 = e.rd D.Time.RATE_EPOCH 0) : d.now = e.now := by
  simp only [Dev.now, Dev.rdI, hraw, hoffset, hrate, hepoch]

theorem Dev.rd_setTime (d : Dev) (f : TimeSt → TimeSt) (g : Fld) (m : Nat) : (d.setTime f).rd g m = d.rd g m := (rfl)
theorem Dev.now_setTime (d : Dev) (f : TimeSt → TimeSt) : (d.setTime f).now = d.now := (rfl)
theorem Dev.time_setTime (d : Dev) (f : TimeSt → TimeSt) : (d.setTime f).time = f d.time := (rfl)

/-! ## Changeovers (R368, R371) -/

/-- R368: device time does not jump where its rate changes. -/
theorem Dev.now_setRate {d : Dev} (r : Int) (hraw : d.raw < 2 ^ 64) : (d.setRate r).now = d.now := by
  have hkept : (d.setRate r).raw = d.raw := by simp only [Dev.setRate, Dev.wrI, Dev.wr_raw]
  have hoffset : (d.setRate r).rd D.Time.OFFSET 0 = ofInt 64 ((d.rd D.Time.OFFSET 0 : Int)
      + Int.fdiv (d.rdI D.Time.RATE 0 * sdiff d.raw (d.rd D.Time.RATE_EPOCH 0) 64) (2 ^ 52 : Nat)) := by
    simp (disch := decide) only [Dev.setRate, Dev.wrI, Dev.rd_wr_apart, Dev.rd_wr_same]
    exact ofInt_mod ..
  have hepoch : (d.setRate r).rd D.Time.RATE_EPOCH 0 = d.raw := by
    simp (disch := decide) only [Dev.setRate, Dev.wrI, Dev.rd_wr_apart, Dev.rd_wr_same]
    exact Nat.mod_eq_of_lt hraw
  simp only [Dev.now, hkept, hoffset, hepoch, sdiff_self, Int.mul_zero, Int.zero_fdiv, Int.add_zero, ofInt_add_ofInt, Int.add_assoc]

/-- What a step does to device time itself, noted for the ring log and counted (R371, R531). -/
def Dev.stepCounted (d : Dev) (v : Int) : Dev :=
  let e := d.wr D.Time.OFFSET 0 (ofInt 64 ((d.rd D.Time.OFFSET 0 : Int) + v))
  { e with ring := { e.ring with stepped := some (match d.ring.stepped with | some x => x.1 | none => d.now, e.now) } }.add D.Time.STEPS 0 1

/-- One device differs from another in what merges count as late, and in parts that do not make device time. -/
structure Dev.LateMove (o d : Dev) : Prop where
  rd : ∀ g, Fld.apart D.Flow.LATE g = true → ∀ m, d.rd g m = o.rd g m
  raw : d.raw = o.raw

namespace Dev.LateMove

theorem other {o d e : Dev} (h : o.LateMove d) (hdict : e.dict = d.dict := by rfl) (hraw : e.raw = d.raw := by rfl) : o.LateMove e :=
  ⟨fun g hg m => (Dev.rd_congr hdict g m).trans (h.rd g hg m), hraw.trans h.raw⟩

theorem late {o d : Dev} (h : o.LateMove d) (c k : Nat) : o.LateMove (d.sat D.Flow.LATE c k) :=
  ⟨fun g hg m => (Dev.rd_sat_apart d _ g c m k hg).trans (h.rd g hg m), (Dev.wr_raw ..).trans h.raw⟩

theorem each {o d : Dev} (h : o.LateMove d) {l : List Nat} {f : Dev → Nat → Dev} (hf : ∀ d n, o.LateMove d → o.LateMove (f d n)) :
    o.LateMove (d.each l f) := by
  unfold Dev.each
  induction l generalizing d with
  | nil => exact h
  | cons a t ih => exact ih (hf d a h)

section
variable {o d : Dev} (h : o.LateMove d)
include h

theorem putMerge {c : Nat} {cur : Bool} {m : Merge} : o.LateMove (d.putMerge c cur m) := h.other
theorem raise {a b : Nat} : o.LateMove (d.raise a b) := h.other
theorem event {a b : Nat} : o.LateMove (d.event a b) := h.other
theorem setDpll {k : Nat} {f : DpllSt → DpllSt} : o.LateMove (d.setDpll k f) := h.other
theorem setTime {f : TimeSt → TimeSt} : o.LateMove (d.setTime f) := h.other
theorem audioStep : o.LateMove d.audioStep := h.other
theorem refs {r : NMap RefSt} : o.LateMove { d with ref := r } := h.other

theorem stepMerge (c : Nat) (cur : Bool) (m : Merge) (fwd : Bool) : o.LateMove (d.stepMerge c cur m fwd) := by
  unfold Dev.stepMerge
  split
  · exact h.putMerge.late ..
  · exact (h.putMerge.late ..).other

theorem stepMerges (c : Nat) (fwd : Bool) : o.LateMove (
    let d := match (d.flowSt c).cur with | some m => d.stepMerge c true m fwd | none => d
    match (d.flowSt c).pend with | some m => d.stepMerge c false m fwd | none => d) := by
  have hcur : o.LateMove (match (d.flowSt c).cur with | some m => d.stepMerge c true m fwd | none => d) := by
    split
    · exact h.stepMerge ..
    · exact h
  dsimp only
  split
  · exact hcur.stepMerge ..
  · exact hcur

end

/-- R371: beside what a step counts, it moves merges, phases, positions and pulses. -/
theorem stepTime (d : Dev) (v : Int) : (d.stepCounted v).LateMove (d.stepTime v) := by
  have hcounted : (d.stepCounted v).LateMove (d.stepCounted v) := ⟨fun _ _ _ => rfl, rfl⟩
  unfold Dev.stepTime
  dsimp only
  refine setTime (audioStep (each (refs (each ?_ fun e c he => he.stepMerges c _)) fun e k he => ?_))
  · exact hcounted.raise.event
  · split
    · exact he
    · exact he.setDpll

end Dev.LateMove

theorem Dev.rd_ring (d : Dev) (x : RingSt) (g : Fld) (m : Nat) : ({ d with ring := x } : Dev).rd g m = d.rd g m := (rfl)

theorem Dev.rd_stepCounted (d : Dev) (v : Int) {g : Fld} (hg : Fld.apart D.Time.STEPS g = true) (m : Nat) :
    (d.stepCounted v).rd g m = (d.wr D.Time.OFFSET 0 (ofInt 64 ((d.rd D.Time.OFFSET 0 : Int) + v))).rd g m := by
  rw [Dev.stepCounted, Dev.rd_add_apart _ _ _ _ _ _ hg, Dev.rd_ring]

/-- R371: a step moves device time by what it says, and is counted. -/
theorem Dev.now_stepTime (d : Dev) (v : Int) : (d.stepTime v).now = ofInt 64 ((d.now : Int) + v) := by
  have hstep := Dev.LateMove.stepTime d v
  have hrate : (d.stepTime v).rd D.Time.RATE 0 = d.rd D.Time.RATE 0 := by
    rw [hstep.rd _ (by decide), Dev.rd_stepCounted _ _ (by decide), Dev.rd_wr_apart _ _ _ _ _ _ (by decide)]
  have hepoch : (d.stepTime v).rd D.Time.RATE_EPOCH 0 = d.rd D.Time.RATE_EPOCH 0 := by
    rw [hstep.rd _ (by decide), Dev.rd_stepCounted _ _ (by decide), Dev.rd_wr_apart _ _ _ _ _ _ (by decide)]
  have hoffset : (d.stepTime v).rd D.Time.OFFSET 0 = ofInt 64 ((d.rd D.Time.OFFSET 0 : Int) + v) := by
    rw [hstep.rd _ (by decide), Dev.rd_stepCounted _ _ (by decide), Dev.rd_wr_same]
    exact ofInt_mod ..
  have hraw : (d.stepTime v).raw = d.raw := hstep.raw.trans (by simp only [Dev.stepCounted, Dev.add, Dev.wr_raw])
  simp only [Dev.now, Dev.rdI, hrate, hepoch, hoffset, hraw]
  generalize Int.fdiv _ _ = x
  rw [Int.add_right_comm, ofInt_add_ofInt, Int.add_comm (ofInt 64 _ : Int) v, ofInt_add_ofInt]
  congr 1
  omega

theorem Dev.steps_stepTime (d : Dev) (v : Int) : (d.stepTime v).rd D.Time.STEPS 0 = (d.rd D.Time.STEPS 0 + 1) % 2 ^ 32 := by
  rw [(Dev.LateMove.stepTime d v).rd _ (by decide), Dev.stepCounted, Dev.add, Dev.rd_wr_same, Dev.rd_ring, Dev.rd_wr_apart _ _ _ _ _ _ (by decide)]
  rfl

/-! ## The commands of device time -/

section
variable {s : State} {dt at0 : Nat} {v : Int} (hcold : s.dev.inCold = false) (hpast : at0 + 1024 ≤ s.dev.wall + dt)
include hcold hpast

/-- R368: a change asked for 1,024 ns ago takes effect. -/
theorem exec_timeChangeover {step : Bool} (hchange : s.dev.time.change = some ⟨step, v, at0, none⟩) : exec (.timeChangeover dt) s
    = .next { s with dev := Dev.setTime (if step = true then (s.dev.elapse dt).stepTime v else (s.dev.elapse dt).setRate v) fun t =>
        { t with change := none, sync := none, waiting := none, req := [], peer := [] } } := by
  have hrunning : ¬((s.dev.elapse dt).inCold = true) := by
    rw [show (s.dev.elapse dt).inCold = s.dev.inCold from rfl, hcold]; exact Bool.false_ne_true
  have hasked : (s.dev.elapse dt).time.change = some ⟨step, v, at0, none⟩ := hchange
  have hdue : ¬(!(s.dev.elapse dt).past at0 1024) = true := by
    simpa [Dev.past] using hpast
  simp only [exec, execTimeChangeover, State.act, if_neg hrunning, hasked, if_neg hdue]

theorem timeChangeover_rate (hchange : s.dev.time.change = some ⟨false, v, at0, none⟩) :
    Completes (.timeChangeover dt) s (fun t => t.dev.rd D.Time.RATE 0 = ofInt 64 v ∧ t.dev.now = (s.dev.elapse dt).now ∧ t.dev.time.change = none) := by
  refine ⟨_, exec_timeChangeover hcold hpast hchange, ?_, ?_, ?_⟩
  · simp only [Bool.false_eq_true, if_false, Dev.rd_setTime, Dev.setRate, Dev.wrI, Dev.rd_wr_same]
    exact ofInt_mod ..
  · rw [if_neg Bool.false_ne_true, Dev.now_setTime, Dev.now_setRate v (s.dev.raw_elapse_lt dt)]
  · rw [Dev.time_setTime]

theorem timeChangeover_step (hchange : s.dev.time.change = some ⟨true, v, at0, none⟩) :
    Completes (.timeChangeover dt) s (fun t => t.dev.now = ofInt 64 (((s.dev.elapse dt).now : Int) + v) ∧
      t.dev.rd D.Time.STEPS 0 = (s.dev.rd D.Time.STEPS 0 + 1) % 2 ^ 32 ∧ t.dev.time.change = none) := by
  refine ⟨_, exec_timeChangeover hcold hpast hchange, ?_, ?_, ?_⟩
  · rw [if_pos rfl, Dev.now_setTime, Dev.now_stepTime]
  · rw [if_pos rfl, Dev.rd_setTime, Dev.steps_stepTime, Dev.rd_elapse]
  · rw [Dev.time_setTime]

end

section
variable {s : State} {q : Rcp} (hmode : s.dev.rd D.Time.MODE 0 = 1) (hnone : s.dev.time.change = none)
include hmode hnone

/-- R374: a SERVO_CMD of a KIND with a rate in range asks for its change, and answers later. -/
theorem Dev.servoCmd_asks {session op v kind : Nat} {val r : Int} (hkind : bitsOf v 64 8 = kind) (hval : toInt 64 (bitsOf v 0 64) = val)
    (hknown : kind = 1 ∨ kind = 2 ∨ kind = 3)
    (hrate : (if kind = 1 then s.dev.rdI D.Time.RATE 0 else if kind = 2 then val else s.dev.rdI D.Time.RATE 0 + val) = r)
    (hok : s.dev.rateOk r = true) :
    ∃ owes, (s.dev.atBody q).servoCmd session op v = ((s.dev.atBody q).setTime
      (fun t => { t with change := some ⟨kind == 1, if kind = 1 then val else r, (s.dev.atBody q).wall, owes⟩ }), St.LATER) := by
  have hrd : ∀ g : Fld, offRx g = true → Fld.apart D.MgCounters.RCP_FRAMES g = true → Fld.apart D.MgStatus.CONFIRM_PENDING g = true →
      (s.dev.atBody q).rd g 0 = s.dev.rd g 0 := fun g h0 h1 h2 => Dev.rd_atBody _ _ _ _ h0 h1 h2
  have hhost : ¬((s.dev.atBody q).rd D.Time.MODE 0 ≠ 1) := by rw [hrd _ (by decide) (by decide) (by decide), hmode]; simp
  have hform : ¬(kind ≠ 1 ∧ kind ≠ 2 ∧ kind ≠ 3) := by omega
  have hfree : ¬((s.dev.atBody q).time.change.isSome = true) := by rw [Dev.time_atBody, hnone]; exact Bool.false_ne_true
  have hcur : (s.dev.atBody q).rdI D.Time.RATE 0 = s.dev.rdI D.Time.RATE 0 := by
    rw [Dev.rdI, hrd _ (by decide) (by decide) (by decide)]; rfl
  have hwithin : ¬(!(s.dev.atBody q).rateOk r) = true := by
    rw [Dev.rateOk, hrd _ (by decide) (by decide) (by decide), ← Dev.rateOk, hok]; exact Bool.false_ne_true
  have hasks : ∀ (d : Dev) b x o, d.time.change = none → d.askChange b x o = d.setTime (fun t => { t with change := some ⟨b, x, d.wall, o⟩ }) := by
    intro d b x o h
    rw [Dev.askChange, h]
  have hnone' : (s.dev.atBody q).time.change = none := by rw [Dev.time_atBody, hnone]
  refine ⟨some (session, (match (s.dev.atBody q).session? session with | some x => (x.last + 1) % 2 ^ 32 | none => 0), op), ?_⟩
  simp only [Dev.servoCmd, if_neg hhost, hkind, hval, if_neg hform, if_neg hfree, hcur, hrate, if_neg hwithin]
  rw [hasks _ _ _ _ hnone'] <;> rfl

/-- What a SERVO_CMD that has been granted leaves to the changeover. -/
theorem servoCmd_completes {c me : Instr} {v kind : Nat} {val r x : Int} (hkind : bitsOf v 64 8 = kind) (hval : toInt 64 (bitsOf v 0 64) = val)
    (hknown : kind = 1 ∨ kind = 2 ∨ kind = 3)
    (hrate : (if kind = 1 then s.dev.rdI D.Time.RATE 0 else if kind = 2 then val else s.dev.rdI D.Time.RATE 0 + val) = r)
    (hok : s.dev.rateOk r = true) (hx : (if kind = 1 then val else r) = x)
    (hexec : exec c s = s.act (serveWrite me q 0x0600 0x08 ⟨9, v⟩ fun w d => d.servoCmd w.session q.op v))
    (hgrant : s.dev.grants q 0x0600 0x08 ⟨9, v⟩ = true) :
    Completes c s (fun t => t.dev.time.change.map (fun (y : Change) => (y.step, y.value)) = some (kind == 1, x)) := by
  obtain ⟨owes, hbody⟩ := Dev.servoCmd_asks (q := q) hmode hnone (session := (s.dev.asker q).session) (op := q.op) hkind hval hknown hrate hok
  refine ⟨_, by rw [hexec, State.act, serveWrite_answers hgrant hbody (by decide)], ?_⟩
  dsimp only
  rw [Dev.time_answer, Dev.time_setTime, hx]
  rfl

end

/-- The fields of SERVO_CMD (Table 13.8). -/
theorem servoValue_fields {kind : Nat} (hkind : kind < 256) {v : Int} (hlo : -(2 ^ 63) ≤ v) (hhi : v < 2 ^ 63) :
    bitsOf (kind * 2 ^ 64 + ofInt 64 v) 64 8 = kind ∧ toInt 64 (bitsOf (kind * 2 ^ 64 + ofInt 64 v) 0 64) = v := by
  have hlt := ofInt_lt 64 v
  have hlow : bitsOf (kind * 2 ^ 64 + ofInt 64 v) 0 64 = ofInt 64 v := by unfold bitsOf; omega
  exact ⟨by unfold bitsOf; omega, by rw [hlow]; exact toInt_ofInt (by decide) (by omega) (by omega)⟩

/-- Settles O38: the changeovers by `Dev.now_setRate` and `Dev.now_stepTime`, the commands by what they ask for. -/
theorem deviceTimeChangesComplete : Obligations.DeviceTimeChangesComplete := by
  unfold Obligations.DeviceTimeChangesComplete
  refine ⟨fun _ _ _ _ hcold hchange hpast => timeChangeover_rate hcold hpast hchange,
    fun _ _ _ _ hcold hchange hpast => timeChangeover_step hcold hpast hchange,
    fun s q v hlo hhi hgrant hmode hnone hok => ?_, fun s q v hlo hhi hgrant hmode hnone hok => ?_, fun s q v hlo hhi hgrant hmode hnone hok => ?_⟩
  · obtain ⟨hkind, hval⟩ := servoValue_fields (kind := 1) (by decide) hlo hhi
    exact servoCmd_completes hmode hnone hkind hval (.inl rfl) rfl hok rfl rfl hgrant
  · obtain ⟨hkind, hval⟩ := servoValue_fields (kind := 2) (by decide) hlo hhi
    exact servoCmd_completes hmode hnone hkind hval (.inr (.inl rfl)) rfl hok rfl rfl hgrant
  · obtain ⟨hkind, hval⟩ := servoValue_fields (kind := 3) (by decide) hlo hhi
    exact servoCmd_completes hmode hnone hkind hval (.inr (.inr rfl)) rfl hok rfl rfl hgrant

/-! ## The servo (R372, R373) -/

/-- The servo's own part of a change of state. -/
def Dev.servoEnters (d : Dev) (st : Nat) : Dev :=
  (d.wr D.Time.SERVO_STATE 0 st).setTime fun t =>
    { t with good := 0, bad := 0, slewAt := if st = ServoState.FREE_RUN then t.slewAt else none, traced := t.traced || st == ServoState.LOCKED }

theorem Dev.refsMove_servoTo (d : Dev) (st : Nat) : (d.servoEnters st).RefsMove refFields (d.servoTo st) :=
  (Dev.RefsMove.refl refFields (d.servoEnters st)).timeRef

theorem Dev.servo_servoTo (d : Dev) {st : Nat} (hst : st < 256) : (d.servoTo st).servo = st := by
  rw [Dev.servo, (d.refsMove_servoTo st).rd _ (by decide), Dev.servoEnters, Dev.rd_setTime, Dev.rd_wr_same]
  exact Nat.mod_eq_of_lt hst

theorem Dev.time_servoTo (d : Dev) (st : Nat) : (d.servoTo st).time = (d.servoEnters st).time := (d.refsMove_servoTo st).time

theorem Dev.servo_setTime (d : Dev) (f : TimeSt → TimeSt) : (d.setTime f).servo = d.servo := (rfl)

section
variable {s : State} {dt : Nat} (hreset : s.dev.inReset = false)
include hreset

/-- R372: a sample of the source in force starts the acquisition. -/
theorem servoSample_completes {src : Nat} {off : Int} {rest : List (Nat × Int)} (hsample : s.dev.time.samples = (src, off) :: rest)
    (hsrc : src = s.dev.timeSource) (hrestart : s.dev.sec.restarting ≠ some 4) (hmode : s.dev.rd D.Time.MODE 0 ≠ 1)
    (hservo : s.dev.servo = ServoState.FREE_RUN) :
    Completes (.servoSample dt) s (fun t => t.dev.servo = ServoState.ACQUIRING ∧ t.dev.time.samples = rest ∧ t.dev.time.sampleAt = s.dev.wall + dt) := by
  have hnext : (s.dev.elapse dt).time.samples = (src, off) :: rest := hsample
  let taken := (s.dev.elapse dt).setTime (fun t => { t with samples := rest })
  let judged := (taken.wrI D.Time.OFFSET_NS 0 off).setTime (fun t => { t with sampleAt := taken.wall })
  have hvalid : ¬(taken.inReset = true ∨ src ≠ taken.timeSource ∨ taken.sec.restarting = some 4) := by
    have hsource : taken.timeSource = s.dev.timeSource := (rfl)
    have hin : taken.inReset = false := hreset
    have hsec : taken.sec = s.dev.sec := (rfl)
    rw [hsource, hin, hsec]
    simp [hsrc, hrestart]
  have hauto : ¬judged.rd D.Time.MODE 0 = 1 := by
    simp (disch := decide) only [judged, Dev.rd_setTime, Dev.wrI, Dev.rd_wr_apart]
    exact hmode
  have hfree : judged.servo = ServoState.FREE_RUN ∨ judged.servo = ServoState.HOLDOVER := .inl <| by
    simp (disch := decide) only [judged, Dev.servo, Dev.rd_setTime, Dev.wrI, Dev.rd_wr_apart]
    exact hservo
  have hexec : exec (.servoSample dt) s = .next { s with dev := judged.acquire } := by
    simp only [exec, execServoSample, State.act, hnext]
    exact congrArg (fun d : Dev => Host.Outcome.next { s with dev := d }) ((if_neg hvalid).trans ((if_neg hauto).trans (if_pos hfree)))
  refine ⟨_, hexec, ?_⟩
  dsimp only [Dev.acquire]
  rw [Dev.servo_setTime, Dev.servo_servoTo _ (by decide), Dev.time_setTime, Dev.time_servoTo]
  exact ⟨rfl, rfl, rfl⟩

/-- R372: a LOCKED servo without samples holds over. -/
theorem servoSampleTimeout_completes (hpast : (s.dev.elapse dt).past s.dev.time.sampleAt 2000000000 = true) (hservo : s.dev.servo = ServoState.LOCKED) :
    Completes (.servoSampleTimeout dt) s (fun t => t.dev.servo = ServoState.HOLDOVER ∧ t.dev.raised.contains ⟨Src.TIM_HOLDOVER, 0, false⟩ = true) := by
  have hsilent : ¬((s.dev.elapse dt).inReset = true ∨
      (!((s.dev.elapse dt).past (s.dev.elapse dt).time.sampleAt 2000000000 || (s.dev.elapse dt).timeRefLost)) = true) := by
    simp [hpast, hreset]
  have hlocked : (s.dev.elapse dt).servo = ServoState.ACQUIRING ∨ (s.dev.elapse dt).servo = ServoState.LOCKED := .inr hservo
  refine ⟨_, rfl, ?_⟩
  simp only [if_neg hsilent, Dev.servoHold, if_pos hlocked]
  refine ⟨by rw [Dev.servo_setTime, Dev.servo_servoTo _ (by decide)], ?_⟩
  rw [List.contains_iff_mem]
  exact (Dev.refsMove_servoTo _ _).raised _ (by simp [Dev.servoEnters, Dev.setTime, Dev.raise])

/-- R372, R403: holdover ends in FREE_RUN. -/
theorem servoHoldoverExpiry_completes (hservo : s.dev.servo = ServoState.HOLDOVER)
    (hpast : (s.dev.elapse dt).past s.dev.time.holdAt (s.dev.rd D.RefArea.TIME_HOLDOVER_MAX_S 0 * 1000000000) = true) :
    Completes (.servoHoldoverExpiry dt) s (fun t => t.dev.servo = ServoState.FREE_RUN) := by
  have hexpired : ¬((s.dev.elapse dt).inReset = true ∨ (s.dev.elapse dt).servo ≠ ServoState.HOLDOVER ∨
      (!(s.dev.elapse dt).past (s.dev.elapse dt).time.holdAt ((s.dev.elapse dt).rd D.RefArea.TIME_HOLDOVER_MAX_S 0 * 1000000000)) = true) := by
    have hheld : (s.dev.elapse dt).servo = ServoState.HOLDOVER := hservo
    simp [hheld, hpast, hreset]
  refine ⟨_, rfl, ?_⟩
  simp only [if_neg hexpired]
  exact Dev.servo_servoTo _ (by decide)

end

/-! ## The time outputs (R383, R384) -/

/-- R384: an edge that has come on an output that is driven and not squelched drives its pin. -/
theorem timeOutputEdge_completes {s : State} {dt o e : Nat} (hserve : s.dev.serving = true) (ho : o < 3)
    (hlow : (nget s.dev.time.outs {} o).high = none) (hedge : (s.dev.elapse dt).lastEdge o = some e) (hseen : (nget s.dev.time.outs {} o).seen < e)
    (hfrom : (nget s.dev.time.outs {} o).from_ ≤ e) (hon : s.dev.pulseOn o = true) (hsquelch : s.dev.squelched o = false) :
    Completes (.timeOutputEdge dt o) s (fun t => t.dev.out = [Emission.pin o (s.dev.pulseLevel o true)] ∧
      (nget t.dev.time.outs {} o).seen = (s.dev.elapse dt).now) := by
  have hout : ¬3 ≤ o := by omega
  have hlow' : (nget (s.dev.elapse dt).time.outs {} o).high = none := hlow
  have hnew : ¬(e ≤ (nget (s.dev.elapse dt).time.outs {} o).seen ∨ e < (nget (s.dev.elapse dt).time.outs {} o).from_ ∨
      (s.dev.elapse dt).pulseOn o = false ∨ (none : Option Nat).isSome = true) := by
    have hdriven : (s.dev.elapse dt).pulseOn o = true := hon
    rw [hdriven]
    simp only [Dev.elapse_time, Option.isSome_none, Bool.true_eq_false, Bool.false_eq_true, or_false]
    omega
  have hfree : ¬(s.dev.elapse dt).squelched o = true := by
    rw [show (s.dev.elapse dt).squelched o = s.dev.squelched o from (rfl), hsquelch]
    exact Bool.false_ne_true
  refine ⟨_, rfl, ?_⟩
  simp only [Dev.live_serving _ _ _ hserve, if_neg hout, hlow', Bool.false_eq_true, if_false, hedge]
  rw [if_neg hnew, if_neg hfree]
  refine ⟨rfl, ?_⟩
  rw [Dev.emit_time, Dev.time_setTime, nget_nput_same]

/-- Settles O39: each command by its lemma above. -/
theorem servoCompletes : Obligations.ServoCompletes := by
  unfold Obligations.ServoCompletes
  exact ⟨fun _ _ _ _ _ hreset hsample hsrc hrestart hmode hservo => servoSample_completes hreset hsample hsrc hrestart hmode hservo,
    fun _ _ hreset hpast hservo => servoSampleTimeout_completes hreset hpast hservo,
    fun _ _ hreset hservo hpast => servoHoldoverExpiry_completes hreset hservo hpast,
    fun _ _ _ _ hserve ho hlow hedge hseen hfrom hon hsquelch => timeOutputEdge_completes hserve ho hlow hedge hseen hfrom hon hsquelch⟩

end Sys2Proof.Machine
end

section
/-! Obligations of 15_dictionary_rcp.md: frames that are discarded and requests out of order (R411, R414). -/

namespace Sys2Proof.Machine
open Sys2Proof

/-! ## What reception leaves of the sessions and of what is sent -/

theorem Dev.out_sendOn (d : Dev) (via : Nat) (e : Emission) : (d.sendOn via e).out = d.out ++ [e] := by
  have emit : ∀ x : Dev, (x.emit e).out = x.out ++ [e] := fun _ => (rfl)
  rw [Dev.sendOn, emit]; split <;> rw [Dev.sat, Dev.wr_out]

theorem Dev.out_coreFrame (d : Dev) (p : Nat) : (d.coreFrame p).out = d.out := by
  have e : ∀ (x : Dev) (n : NMap NetPortSt), ({ x with netPort := n } : Dev).out = x.out := fun _ _ => (rfl)
  rw [Dev.coreFrame, e]; split <;> simp only [Dev.sat, Dev.wr_out]

theorem Dev.out_mgRx (d : Dev) (via : Nat) : (d.mgRx via).out = d.out := by
  rw [Dev.mgRx]; split
  · rfl
  · split
    · exact Dev.wr_out ..
    · rw [Dev.out_coreFrame, Dev.sat, Dev.wr_out]

theorem Dev.out_mgAccept (d : Dev) (via : Nat) : (d.mgAccept via).out = d.out := by
  unfold Dev.mgAccept; split
  · exact Dev.wr_out ..
  · rfl

theorem Dev.out_confirmMg (d : Dev) : d.confirmMg.out = d.out := by
  unfold Dev.confirmMg Dev.flag; split
  · rw [Dev.wr_out, Dev.wr_out]
  · rfl

theorem Dev.out_heard (d : Dev) (q : Rcp) : (d.heard q).out = d.out := by
  unfold Dev.heard; split
  · rfl
  · rw [Dev.out_confirmMg, Dev.out_mgAccept, Dev.setSession_out]

@[simp] theorem Dev.out_atBody (d : Dev) (q : Rcp) : (d.atBody q).out = [] := by
  rw [Dev.atBody, Dev.out_heard, Dev.out_mgRx]; rfl

theorem Dev.session_congr {d e : Dev} (id : Nat) (h : d.rcp.sessions = e.rcp.sessions) : d.session? id = e.session? id := by
  unfold Dev.session?; rw [h]

theorem Dev.session_sat (d : Dev) (f : Fld) (n k id : Nat) : (d.sat f n k).session? id = d.session? id :=
  Dev.session_congr id (by rw [Dev.sat, Dev.wr_rcp])

theorem Dev.session_sendOn (d : Dev) (via : Nat) (e : Emission) (id : Nat) : (d.sendOn via e).session? id = d.session? id := by
  have emit : ∀ x : Dev, (x.emit e).session? id = x.session? id := fun _ => (rfl)
  rw [Dev.sendOn, emit]; split <;> exact Dev.session_sat ..

theorem Dev.session_mgAccept (d : Dev) (via id : Nat) : (d.mgAccept via).session? id = d.session? id := by
  unfold Dev.mgAccept; split
  · exact Dev.session_sat ..
  · rfl

theorem Dev.session_confirmMg (d : Dev) (id : Nat) : d.confirmMg.session? id = d.session? id := by
  unfold Dev.confirmMg Dev.flag; split
  · exact Dev.session_congr id (by rw [Dev.wr_rcp, Dev.wr_rcp])
  · rfl

/-- Where a request has been heard, its session has executed, holds and keeps what it had. -/
theorem Dev.session_atBody (d : Dev) (q : Rcp) (x : Session) (hx : d.session? q.session = some x) :
    ∃ y, (d.atBody q).session? q.session = some y ∧ y.id = x.id ∧ y.last = x.last ∧ y.held = x.held ∧ y.cache = x.cache := by
  have hrx : ((d.elapse q.dt).mgRx q.via).session? q.session = some x := by rw [Dev.session_mgRx, Dev.session_elapse, hx]
  unfold Dev.atBody Dev.heard; split
  · exact ⟨x, hrx, rfl, rfl, rfl, rfl⟩
  · rw [Dev.session_confirmMg, Dev.session_mgAccept, Dev.session_setSession _ _ _ (by intro; rfl), hrx]
    exact ⟨_, rfl, rfl, rfl, rfl, rfl⟩

theorem Dev.id_of_session {d : Dev} {id : Nat} {x : Session} (h : d.session? id = some x) : x.id = id := by
  simpa using List.find?_some h

/-! ## Receiving a frame -/

/-- What receives a request's frame: `serve` or, for the OPEN exchange, `openServe`. -/
inductive Reception (q : Rcp) : (Dev → Dev) → Prop
  | serve (me : Instr) (anon early : Bool) (ix : Option Nat) (body : Who → Dev → Dev × Reply) : Reception q (serve me q anon early ix body)
  | openServe (me : Instr) (body : Dev → Dev) : Reception q (fun d => d.openServe me q body)

/-- A frame that is discarded: time has passed, the frame is counted on its port and among those dropped (R411). -/
def Dev.discarded (d : Dev) (q : Rcp) : Dev :=
  let e := ((d.elapse q.dt).mgRx q.via).dropFrame
  if headerOk q = true ∧ q.session ≠ 0 ∧ (d.session? q.session).isSome = true then e.sat D.Rcp.AUTH_FAILURES 0 1 else e

theorem Dev.hears_iff (d : Dev) (q : Rcp) : d.hears q = true ↔ d.listens q.via = true ∧ (d.elapse q.dt).passedBy q = false := by
  simp only [Dev.hears, Bool.and_eq_true, Bool.not_eq_true']

theorem Dev.discards_eq (d : Dev) (q : Rcp) :
    d.discards q = (!headerOk q || !d.sealOk q || (q.session != 0 && (d.session? q.session).isNone)) := by
  unfold Dev.discards headerOk
  simp only [bne, Bool.not_and, Bool.not_not, Bool.or_assoc]

theorem Reception.discards {q : Rcp} {F : Dev → Dev} (hF : Reception q F) {d : Dev} (hears : d.hears q = true) (hd : d.discards q = true) :
    F d = d.discarded q := by
  obtain ⟨hl, hp⟩ := (d.hears_iff q).mp hears
  rw [Dev.discards_eq] at hd
  unfold Dev.discarded
  cases hF with
  | serve me anon early ix body =>
    unfold Machine.serve
    simp only [Dev.listens_elapse, hl, hp, Bool.not_true, Bool.false_eq_true, if_false, Dev.sealOk_mgRx, Dev.session_mgRx, Dev.session_elapse]
    by_cases hh : headerOk q = true <;> by_cases h0 : q.session = 0 <;> cases hs : d.session? q.session <;> cases hk : d.sealOk q <;>
      simp_all
  | openServe me body =>
    unfold Dev.openServe
    simp only [Dev.listens_elapse, hl, hp, Bool.not_true, Bool.false_eq_true, if_false, Dev.sealOk_mgRx, Dev.session_mgRx, Dev.session_elapse]
    by_cases hh : headerOk q = true <;> by_cases h0 : q.session = 0 <;> cases hs : d.session? q.session <;> cases hk : d.sealOk q <;>
      simp_all

/-- A session's frame that is not discarded takes its turn among the session's requests (R414). -/
theorem Reception.sequenced {q : Rcp} {F : Dev → Dev} (hF : Reception q F) {d : Dev} {x : Session} (hears : d.hears q = true)
    (hd : d.discards q = false) (h0 : q.session ≠ 0) (hx : d.session? q.session = some x) :
    ∃ me early ix body, F d = (d.atBody q).sequenced me q early ix x body := by
  obtain ⟨hl, hp⟩ := (d.hears_iff q).mp hears
  rw [Dev.discards_eq] at hd
  simp only [Bool.or_eq_false_iff, Bool.not_eq_false'] at hd
  obtain ⟨⟨hh, hk⟩, -⟩ := hd
  unfold Dev.atBody
  cases hF with
  | serve me anon early ix body =>
    refine ⟨me, early, ix, body, ?_⟩
    unfold Machine.serve
    simp only [Dev.listens_elapse, hl, hp, hh, hk, hx, h0, Bool.not_true, Bool.false_eq_true, if_false, Dev.sealOk_mgRx, Dev.session_mgRx, Dev.session_elapse]
  | openServe me body =>
    refine ⟨me, true, none, fun _ d => (d, Reply.of St.STATE), ?_⟩
    unfold Dev.openServe
    simp only [Dev.listens_elapse, hl, hp, hh, hk, hx, h0, Bool.not_true, Bool.false_eq_true, if_false, Dev.sealOk_mgRx, Dev.session_mgRx, Dev.session_elapse,
      ne_eq, not_false_eq_true, if_true]

/-- Every request but CLOSE and DISCOVER is only received; WRITE_DOM and the write of a veneer may store bytes of the frame store. -/
theorem exec_reception {c : Instr} {q : Rcp} (h : requestOf c = some q) (hclose : c ≠ .close q) (hdisc : ∀ b, c ≠ .discover q b) :
    ∃ F, Reception q F ∧ ((∀ s, exec c s = s.act F) ∨ ∀ s, exec c s = s.actMem F) := by
  cases c <;> cases h
  case close.refl => exact absurd rfl hclose
  case discover.refl => exact absurd rfl (hdisc _)
  case writeDom.refl | veneerWrite.refl => exact ⟨_, .serve .., .inr fun _ => rfl⟩
  case openHello.refl | openChallengeFetch.refl | openResponse.refl => exact ⟨_, .openServe .., .inl fun _ => rfl⟩
  all_goals exact ⟨_, .serve .., .inl fun _ => rfl⟩

/-- What every reception of a request leads to, its command leads to. -/
theorem completes_of_reception {c : Instr} {q : Rcp} {s : State} {P : Dev → Prop} (h : requestOf c = some q) (hdisc : ∀ b, c ≠ .discover q b)
    (hP : ∀ F, Reception q F → P (F s.dev)) (hmem : ∀ F, Reception q F → (F s.dev).memQ = [])
    (hkeep : ∀ F, Reception q F → ((F s.dev).session? q.session).map Session.last = (s.dev.session? q.session).map Session.last ∨ unknownOp q.op = true) :
    Completes c s (fun t => P t.dev) := by
  by_cases hclose : c = .close q
  · subst hclose
    refine ⟨_, rfl, ?_⟩
    dsimp only
    have served := Reception.serve (q := q) (.close q.again) false false none (fun _ d => (d, Reply.of St.OK))
    cases hx : (serve (.close q.again) q false false none (fun _ d => (d, Reply.of St.OK)) s.dev).session? q.session with
    | none => exact hP _ served
    | some x =>
      dsimp only
      rw [if_neg]
      · exact hP _ served
      · rintro ⟨hne, hopen⟩
        rcases hkeep _ served with hlast | hop
        · rw [hx] at hlast; exact hne hlast.symm
        · simp only [Dev.gate, hop, if_true, Option.isNone_some] at hopen; exact absurd hopen (by decide)
  · obtain ⟨F, hF, hexec | hexec⟩ := exec_reception h hclose hdisc
    · exact ⟨_, hexec s, hP F hF⟩
    · exact ⟨_, (hexec s).trans (State.actMem_of_memQ_nil _ _ (hmem F hF)), hP F hF⟩

/-- The same of a DISCOVER of a session, whose response is a SESSION 0 frame (R434). -/
theorem completes_discover {q : Rcp} {multicast : Bool} {s : State} {P : Dev → Prop} (hv : multicast = true → q.via ≤ 1) (h0 : q.session ≠ 0)
    (hP : ∀ F, Reception q F → P { F s.dev with out := (F s.dev).out.map Emission.anon }) :
    Completes (.discover q multicast) s (fun t => P t.dev) := by
  have hvia : ¬ (multicast = true ∧ 2 ≤ q.via) := fun ⟨hb, h2⟩ => by have := hv hb; omega
  refine ⟨_, rfl, ?_⟩
  dsimp only
  rw [if_neg hvia, if_pos h0]
  exact hP _ (.serve ..)

/-! ## Frames that are discarded -/

theorem Dev.discarded_out (d : Dev) (q : Rcp) : (d.discarded q).out = [] := by
  have h : ((d.elapse q.dt).mgRx q.via).dropFrame.out = [] := by rw [Dev.dropFrame, Dev.sat, Dev.wr_out, Dev.out_mgRx]; rfl
  unfold Dev.discarded; dsimp only; split
  · rw [Dev.sat, Dev.wr_out, h]
  · exact h

theorem Dev.discarded_memQ (d : Dev) (q : Rcp) : (d.discarded q).memQ = d.memQ := by
  unfold Dev.discarded Dev.dropFrame Dev.sat; dsimp only; split <;> simp only [Dev.wr_memQ, Dev.memQ_mgRx', Dev.elapse_memQ]

theorem Dev.session_discarded (d : Dev) (q : Rcp) (id : Nat) : (d.discarded q).session? id = d.session? id := by
  unfold Dev.discarded Dev.dropFrame; dsimp only; split <;> simp only [Dev.session_sat, Dev.session_mgRx, Dev.session_elapse]

theorem Dev.dropped_discarded (d : Dev) (q : Rcp) :
    (d.discarded q).rd D.Rcp.FRAMES_DROPPED 0 = min (d.rd D.Rcp.FRAMES_DROPPED 0 + 1) (2 ^ 32 - 1) := by
  have h : ((d.elapse q.dt).mgRx q.via).dropFrame.rd D.Rcp.FRAMES_DROPPED 0 = min (d.rd D.Rcp.FRAMES_DROPPED 0 + 1) (2 ^ 32 - 1) := by
    rw [Dev.dropFrame, Dev.rd_sat_same, Dev.rd_mgRx _ _ _ _ (by decide), Dev.rd_elapse]; rfl
  unfold Dev.discarded; dsimp only; split
  · rw [Dev.rd_sat_apart _ _ _ _ _ _ (by decide), h]
  · exact h

theorem Dev.authFailures_discarded (d : Dev) (q : Rcp) :
    (d.discarded q).rd D.Rcp.AUTH_FAILURES 0 = (if headerOk q = true ∧ q.session ≠ 0 ∧ (d.session? q.session).isSome = true
      then min (d.rd D.Rcp.AUTH_FAILURES 0 + 1) (2 ^ 32 - 1) else d.rd D.Rcp.AUTH_FAILURES 0) := by
  have h : ((d.elapse q.dt).mgRx q.via).dropFrame.rd D.Rcp.AUTH_FAILURES 0 = d.rd D.Rcp.AUTH_FAILURES 0 := by
    rw [Dev.dropFrame, Dev.rd_sat_apart _ _ _ _ _ _ (by decide), Dev.rd_mgRx _ _ _ _ (by decide), Dev.rd_elapse]
  unfold Dev.discarded; dsimp only; split
  · rw [Dev.rd_sat_same, h]; rfl
  · exact h

/-- A DISCOVER in a SESSION 0 frame that is discarded. -/
theorem exec_discover_discards {q : Rcp} {multicast : Bool} {s : State} (hv : multicast = true → q.via ≤ 1) (h0 : q.session = 0)
    (hears : s.dev.hears q = true) (hd : s.dev.discards q = true) : exec (.discover q multicast) s = .next { s with dev := s.dev.discarded q } := by
  obtain ⟨hl, hp⟩ := (s.dev.hears_iff q).mp hears
  have hvia : ¬ (multicast = true ∧ 2 ≤ q.via) := fun ⟨hb, h2⟩ => by have := hv hb; omega
  have hbad : (headerOk q && s.dev.sealOk q) = false := by
    rw [Dev.discards_eq] at hd
    simpa only [h0, bne_self_eq_false, Bool.false_and, Bool.or_false, ← Bool.not_and, Bool.not_eq_true'] using hd
  simp only [exec, execDiscover, State.act]
  simp only [if_neg hvia, if_neg (not_not.mpr h0), Dev.listens_elapse, hl, hp, Dev.sealOk_mgRx, hbad, Bool.not_true, Bool.false_eq_true, if_false]
  simp only [Dev.discarded, h0, ne_eq, not_true, false_and, and_false, if_false]

/-- A frame that is discarded is not answered and is counted (R411). -/
theorem completes_discards {c : Instr} {q : Rcp} {s : State} {P : Dev → Prop} (h : requestOf c = some q) (hm : s.dev.memQ = [])
    (hears : s.dev.hears q = true) (hv : c ≠ .discover q true ∨ q.via ≤ 1) (hd : s.dev.discards q = true) (hP : P (s.dev.discarded q)) :
    Completes c s (fun t => P t.dev) := by
  have he : ∀ F, Reception q F → F s.dev = s.dev.discarded q := fun F hF => hF.discards hears hd
  by_cases hdisc : ∃ b, c = .discover q b
  · obtain ⟨b, rfl⟩ := hdisc
    have hvia : b = true → q.via ≤ 1 := fun hb => hv.resolve_left (fun hne => hne (by rw [hb]))
    by_cases h0 : q.session = 0
    · exact ⟨_, exec_discover_discards hvia h0 hears hd, hP⟩
    · have same : ({ s.dev.discarded q with out := (s.dev.discarded q).out.map Emission.anon } : Dev) = s.dev.discarded q := by
        rw [Dev.discarded_out, List.map_nil, ← Dev.discarded_out s.dev q]
      exact completes_discover hvia h0 (fun F hF => by rw [he F hF, same]; exact hP)
  · refine completes_of_reception h (fun b hb => hdisc ⟨b, hb⟩) (fun F hF => ?_) (fun F hF => ?_) (fun F hF => .inl ?_) <;> rw [he F hF]
    · exact hP
    · rw [Dev.discarded_memQ, hm]
    · rw [Dev.session_discarded]

/-! ## A session's frames by their sequence numbers -/

theorem Dev.sequenced_unknownOp (d : Dev) (me : Instr) (q : Rcp) (early : Bool) (ix : Option Nat) (x : Session) (body : Who → Dev → Dev × Reply)
    (h1 : sdiff q.seq x.last 32 = 1) (hop : unknownOp q.op = true) : d.sequenced me q early ix x body = d.answer q (Reply.of St.FORMAT) := by
  simp only [Dev.sequenced, h1, if_true, Dev.gate, hop]

/-- A request that comes ahead of its turn is kept with its session, once. -/
def Dev.holdsBack (d : Dev) (me : Instr) (q : Rcp) (x : Session) : Dev :=
  if x.held.any (fun h => h.1 == q.seq) then d
  else d.setSession x.id (fun y => { y with held := y.held ++ [(q.seq, me)], heldAt := if y.held.isEmpty then d.wall else y.heldAt })

theorem Dev.sequenced_ahead (d : Dev) (me : Instr) (q : Rcp) (early : Bool) (ix : Option Nat) (x : Session) (body : Who → Dev → Dev × Reply)
    (h2 : 2 ≤ sdiff q.seq x.last 32) (h8 : sdiff q.seq x.last 32 ≤ 8) : d.sequenced me q early ix x body = d.holdsBack me q x := by
  simp only [Dev.sequenced]
  rw [if_neg (by omega), if_pos ⟨h2, h8⟩]; rfl

/-- The kept response of a request that comes again leaves again. -/
def Dev.resent (d : Dev) (q : Rcp) (r : Resp) : Dev :=
  (d.sendOn q.via (.response q.via q.peer q.port q.session r.seq r.op r.status r.payload (sealBack q))).sat D.Rcp.RETRANSMITS 0 1

theorem Dev.sequenced_again (d : Dev) (me : Instr) (q : Rcp) (early : Bool) (ix : Option Nat) (x : Session) (body : Who → Dev → Dev × Reply) {r : Resp}
    (h31 : -31 ≤ sdiff q.seq x.last 32) (h0 : sdiff q.seq x.last 32 ≤ 0) (hr : x.cache.find? (fun k => k.seq == q.seq) = some r) :
    d.sequenced me q early ix x body = d.resent q r := by
  simp only [Dev.sequenced, hr]
  rw [if_neg (by omega), if_neg (by omega), if_pos ⟨h31, h0⟩]; rfl

theorem Dev.sequenced_outside (d : Dev) (me : Instr) (q : Rcp) (early : Bool) (ix : Option Nat) (x : Session) (body : Who → Dev → Dev × Reply)
    (h : sdiff q.seq x.last 32 < -31 ∨ 8 < sdiff q.seq x.last 32) : d.sequenced me q early ix x body = d := by
  simp only [Dev.sequenced]
  rw [if_neg (by omega), if_neg (by omega), if_neg (by omega)]

theorem Dev.out_holdsBack (d : Dev) (me : Instr) (q : Rcp) (x : Session) : (d.holdsBack me q x).out = d.out := by
  unfold Dev.holdsBack; split
  · rfl
  · rw [Dev.setSession_out]

theorem Dev.memQ_holdsBack (d : Dev) (me : Instr) (q : Rcp) (x : Session) : (d.holdsBack me q x).memQ = d.memQ := by
  unfold Dev.holdsBack; split
  · rfl
  · rw [Dev.setSession_memQ]

theorem Dev.session_holdsBack (d : Dev) (me : Instr) (q : Rcp) {x y : Session} (hid : x.id = q.session) (hy : d.session? q.session = some y)
    (hheld : y.held = x.held) :
    ((d.holdsBack me q x).session? q.session).map (fun z => (z.last, z.held.any (fun h => h.1 == q.seq))) = some (y.last, true) := by
  unfold Dev.holdsBack; split
  case isTrue h => rw [hy, Option.map_some, hheld, h]
  case isFalse h =>
    rw [hid, Dev.session_setSession _ _ _ (by intro; rfl), hy]
    simp only [Option.map_some, List.any_append, List.any_cons, beq_self_eq_true, Bool.true_or, Bool.or_true]

/-! ## The obligations -/

/-- Settles O8: a frame that is discarded leaves only what is counted of it, whichever request it carries; the gate answers an unknown OP before the
request's own body. -/
theorem badFramesAreDiscarded : Obligations.BadFramesAreDiscarded := by
  unfold Obligations.BadFramesAreDiscarded
  refine ⟨fun c q s h hm hears hv hd => ?_, fun c q s x h hm hears hv hd h0 hx h1 hop => ?_⟩
  · refine completes_discards h hm hears hv hd (P := fun e => e.out = [] ∧ e.rd D.Rcp.FRAMES_DROPPED 0 = _ ∧ e.rd D.Rcp.AUTH_FAILURES 0 = _)
      ⟨s.dev.discarded_out q, s.dev.dropped_discarded q, ?_⟩
    rw [Dev.authFailures_discarded]
    rw [Dev.discards_eq] at hd
    refine if_congr ⟨fun ⟨hh, h0, hs⟩ => ⟨hh, h0, ?_, hs⟩, fun ⟨hh, h0, _, hs⟩ => ⟨hh, h0, hs⟩⟩ rfl rfl
    simpa [hh, h0, Option.isSome_iff_ne_none.mp hs] using hd
  · have he : ∀ F, Reception q F → F s.dev = (s.dev.atBody q).answer q (Reply.of St.FORMAT) := fun F hF => by
      obtain ⟨me, early, ix, body, hF⟩ := hF.sequenced hears hd h0 hx
      rw [hF, Dev.sequenced_unknownOp _ _ _ _ _ _ _ h1 hop]
    have hout : ((s.dev.atBody q).answer q (Reply.of St.FORMAT)).out =
        [.response q.via q.peer q.port q.session q.seq q.op St.FORMAT ⟨0, 0⟩ (sealBack q)] := by
      rw [Dev.out_answer _ _ _ (by decide), Dev.out_atBody]; rfl
    by_cases hdisc : ∃ b, c = .discover q b
    · obtain ⟨b, rfl⟩ := hdisc
      have hvia : b = true → q.via ≤ 1 := fun hb => hv.resolve_left (fun hne => hne (by rw [hb]))
      refine completes_discover hvia h0 (P := fun e => e.out.any _ = true) (fun F hF => ?_)
      rw [he F hF]; dsimp only; rw [hout]
      simp [Emission.anon]
    · refine completes_of_reception h (fun b hb => hdisc ⟨b, hb⟩) (P := fun e => e.out.any _ = true) (fun F hF => ?_) (fun F hF => ?_) (fun _ _ => .inr hop) <;>
        rw [he F hF]
      · rw [hout]; simp
      · rw [Dev.memQ_answer, Dev.memQ_atBody, hm]

/-- Settles O9: a request out of order is held, answered from what is kept, or discarded, before its own body. -/
theorem requestsRunInOrder : Obligations.RequestsRunInOrder := by
  unfold Obligations.RequestsRunInOrder
  intro c q s x h hdisc hm hears hd h0 hx
  obtain ⟨y, hy, -, hlast, hheld, hcache⟩ := s.dev.session_atBody q x hx
  have hmem : (s.dev.atBody q).memQ = [] := by rw [Dev.memQ_atBody, hm]
  refine ⟨fun h2 h8 => ?_, fun r h31 hle hr => ?_, fun hfar => ?_⟩
  · have held := fun me => (s.dev.atBody q).session_holdsBack me q (Dev.id_of_session hx) hy hheld
    have he : ∀ F, Reception q F → ∃ me, F s.dev = (s.dev.atBody q).holdsBack me q x := fun F hF => by
      obtain ⟨me, early, ix, body, hF⟩ := hF.sequenced hears hd h0 hx
      exact ⟨me, by rw [hF, Dev.sequenced_ahead _ _ _ _ _ _ _ h2 h8]⟩
    refine completes_of_reception h hdisc (P := fun e => e.out = [] ∧ (e.session? q.session).map _ = _)
      (fun F hF => ?_) (fun F hF => ?_) (fun F hF => .inl ?_) <;> obtain ⟨me, hF⟩ := he F hF <;> rw [hF]
    · rw [Dev.out_holdsBack, Dev.out_atBody, held, hlast]; exact ⟨rfl, rfl⟩
    · rw [Dev.memQ_holdsBack, hmem]
    · simpa [hx, hlast, Function.comp_def] using congrArg (Option.map Prod.fst) (held me)
  · have he : ∀ F, Reception q F → F s.dev = (s.dev.atBody q).resent q r := fun F hF => by
      obtain ⟨me, early, ix, body, hF⟩ := hF.sequenced hears hd h0 hx
      rw [hF, Dev.sequenced_again _ _ _ _ _ _ _ h31 hle hr]
    have hs : (((s.dev.atBody q).resent q r).session? q.session).map Session.last = some x.last := by
      rw [Dev.resent, Dev.session_sat, Dev.session_sendOn, hy, Option.map_some, hlast]
    refine completes_of_reception h hdisc (P := fun e => e.out = _ ∧ e.rd D.Rcp.RETRANSMITS 0 = _ ∧ (e.session? q.session).map _ = _)
      (fun F hF => ?_) (fun F hF => ?_) (fun F hF => .inl ?_) <;> rw [he F hF]
    · refine ⟨?_, ?_, hs⟩
      · rw [Dev.resent, Dev.sat, Dev.wr_out, Dev.out_sendOn, Dev.out_atBody]; rfl
      · rw [Dev.resent, Dev.rd_sat_same, Dev.rd_sendOn _ _ _ _ _ (by decide) (by decide), Dev.rd_atBody _ _ _ _ (by decide) (by decide) (by decide)]
        rfl
    · rw [Dev.resent, Dev.sat, Dev.wr_memQ, Dev.memQ_sendOn', hmem]
    · rw [hs, hx, Option.map_some]
  · have he : ∀ F, Reception q F → F s.dev = s.dev.atBody q := fun F hF => by
      obtain ⟨me, early, ix, body, hF⟩ := hF.sequenced hears hd h0 hx
      rw [hF, Dev.sequenced_outside _ _ _ _ _ _ _ hfar]
    refine completes_of_reception h hdisc (P := fun e => e.out = [] ∧ (e.session? q.session).map _ = _)
      (fun F hF => ?_) (fun F hF => ?_) (fun F hF => .inl ?_) <;> rw [he F hF]
    · rw [Dev.out_atBody, hy, Option.map_some, hlast, hheld, hcache]; exact ⟨rfl, rfl⟩
    · exact hmem
    · rw [hy, hx, Option.map_some, Option.map_some, hlast]

end Sys2Proof.Machine
end

section
/-! Obligations of 15_dictionary_rcp.md: sessions (R408, R417). -/

namespace Sys2Proof.Machine
open Sys2Proof

/-- A session of the OWNER role that has executed request 7. -/
def ownersSession : Session := ⟨0, 1, 4, 7, [], 0, [], none, false, [], [], 0, 0, 0, 0, 0, 0, 0⟩

/-- A device in service that is taking up a request it has held, so that the frame has been heard already (R414). -/
def takingUp : Dev :=
  ({ Dev.reset with rst := {}, rcp := { Dev.reset.rcp with sessions := [ownersSession], retake := true } } : Dev).wr D.Rst.STARTUP_STAGE 0 6

/-- The session's next request, a KEEPALIVE, from another address than the session's latest. -/
def keepaliveElsewhere : Rcp := ⟨5, 0, 1, 0, 0x5243, 1, 0, 1, 8, 12, true, .gcm 0 (gcmNonce 1 0 8), Dev.reset.rcp.inUse.port⟩

theorem exec_keepalive_takingUp : ∃ t, exec (.keepalive keepaliveElsewhere) ⟨takingUp, [], []⟩ = .next t ∧
    (t.dev.session? 1).map (fun y => y.peer) = some 0 := ⟨_, rfl, by decide⟩

/-- Refutes O44: a KEEPALIVE that was held and is taken up again leaves the session's latest source as it is, since the frame was heard when it
came; the clause of KEEPALIVE says that its own address is the session's in every state. -/
theorem not_rcpSessionsComplete : ¬ Obligations.RcpSessionsComplete := by
  unfold Obligations.RcpSessionsComplete
  rintro ⟨-, -, -, -, -, -, -, -, -, -, hkeepalive, -⟩
  obtain ⟨t, hexec, -, hsource⟩ := hkeepalive ⟨takingUp, [], []⟩ keepaliveElsewhere (by decide)
  obtain ⟨u, hexec', hpeer⟩ := exec_keepalive_takingUp
  obtain rfl := Host.Outcome.next.inj (hexec.symm.trans hexec')
  have hsaid := congrArg (Option.map fun y => y.2.2.1) hsource
  rw [Option.map_map] at hsaid
  exact absurd (hpeer.symm.trans hsaid) (by decide)

end Sys2Proof.Machine
end

section
/-! Obligations of 15_dictionary_rcp.md and 16_security_firmware.md: the OPEN exchange (R446), the management ports (R429, R430) and the journal's
compaction (R427). -/

namespace Sys2Proof.Machine
open Sys2Proof

variable {d : Dev}

/-! ## What counting leaves of the endpoint -/

@[simp] theorem Dev.rcp_sat (f : Fld) (n k : Nat) : (d.sat f n k).rcp = d.rcp := Dev.wr_rcp ..
@[simp] theorem Dev.rcp_flag (f : Fld) (n : Nat) (b : Bool) : (d.flag f n b).rcp = d.rcp := Dev.wr_rcp ..

theorem Dev.rcp_mgAccept (via : Nat) : (d.mgAccept via).rcp = d.rcp := by
  unfold Dev.mgAccept; split
  · exact Dev.rcp_sat ..
  · rfl

theorem Dev.rcp_sendOn (via : Nat) (e : Emission) : (d.sendOn via e).rcp = d.rcp := by
  have emit : ∀ x : Dev, (x.emit e).rcp = x.rcp := fun _ => (rfl)
  rw [Dev.sendOn, emit]; split <;> exact Dev.rcp_sat ..

theorem Dev.rcp_mgErrors (p : Nat) : (d.mgErrors p).rcp = d.rcp := by
  unfold Dev.mgErrors; split
  · rfl
  · rw [Dev.rcp_sat, Dev.drawn_rcp]

theorem Dev.rd_mgErrors (p : Nat) (g : Fld) (m : Nat) (h : Fld.apart D.MgCounters.RX_FCS_ERRORS g = true) : (d.mgErrors p).rd g m = d.rd g m := by
  unfold Dev.mgErrors; split
  · rfl
  · rw [Dev.rd_sat_apart _ _ _ _ _ _ h, Dev.rd_drawn]

/-! ## The OPEN exchange -/

/-- The device at which an OPEN frame's body runs: time has passed and the frame is counted on its port. -/
def Dev.atOpen (d : Dev) (q : Rcp) : Dev := ((d.elapse q.dt).mgRx q.via).mgAccept q.via

@[simp] theorem Dev.rcp_atOpen (q : Rcp) : (d.atOpen q).rcp = d.rcp := by
  rw [Dev.atOpen, Dev.rcp_mgAccept, Dev.rcp_mgRx, Dev.elapse_rcp]

@[simp] theorem Dev.out_atOpen (q : Rcp) : (d.atOpen q).out = [] := by
  rw [Dev.atOpen, Dev.out_mgAccept, Dev.out_mgRx]; rfl

@[simp] theorem Dev.openEx_atOpen (q : Rcp) (id : Nat) : (d.atOpen q).openEx q id = d.openEx q id := by
  unfold Dev.openEx; rw [Dev.rcp_atOpen]

theorem Dev.restarts_atOpen (q : Rcp) (kind : Nat) : (d.atOpen q).restarts kind = d.restarts kind := by
  unfold Dev.restarts Dev.atOpen; rw [Dev.sec_mgAccept, Dev.sec_mgRx, Dev.elapse_sec]

theorem Dev.opensOk_mgRx (dt via : Nat) : ((d.elapse dt).mgRx via).opensOk = d.opensOk := by
  unfold Dev.opensOk Dev.owner Dev.safeBoot Dev.on Dev.stage
  rw [Dev.sec_mgRx, Dev.rst_mgRx, Dev.rd_mgRx _ _ _ _ (by decide), Dev.rd_mgRx _ _ _ _ (by decide)]; rfl

/-- An OPEN frame that is taken in SESSION 0 runs its body. -/
theorem Dev.openServe_taken {q : Rcp} (me : Instr) (body : Dev → Dev) (hears : d.hears q = true)
    (hframe : headerOk q = true ∧ d.sealOk q = true ∧ q.session = 0) (hopen : d.opensOk = true) (hmgt : d.restarts 1 = false) :
    d.openServe me q body = body (d.atOpen q) := by
  obtain ⟨hl, hp⟩ := (d.hears_iff q).mp hears
  obtain ⟨hh, hk, h0⟩ := hframe
  have hmgt' : ((d.elapse q.dt).mgRx q.via).restarts 1 = false := by
    unfold Dev.restarts; rw [Dev.sec_mgRx]; exact hmgt
  simp only [Dev.openServe, Dev.listens_elapse, hl, hp, hh, Dev.sealOk_mgRx, hk, h0, Dev.opensOk_mgRx, hopen, hmgt', Bool.not_true, Bool.false_eq_true, if_false,
    ne_eq, not_true]
  rfl

theorem Dev.rcp_openSay (q : Rcp) (st : Nat) (v : Bytes) : (d.openSay q st v).rcp = d.rcp := Dev.rcp_sendOn ..

theorem Dev.out_openSay (q : Rcp) (st : Nat) (v : Bytes) :
    (d.openSay q st v).out = d.out ++ [.response q.via q.peer q.port 0 q.seq q.op st v none] := Dev.out_sendOn ..

theorem Dev.openEx_openSay (q' : Rcp) (st : Nat) (v : Bytes) (q : Rcp) (id : Nat) : (d.openSay q' st v).openEx q id = d.openEx q id := by
  unfold Dev.openEx; rw [Dev.rcp_openSay]

/-- The exchange found after it has begun. -/
theorem Dev.openEx_append {q : Rcp} {id : Nat} {x : OpenEx} (hx : x.is q id = true) (hnone : d.openEx q id = none) :
    ({ d with rcp := { d.rcp with opens := d.rcp.opens ++ [x] } } : Dev).openEx q id = some x := by
  unfold Dev.openEx at hnone ⊢
  simp only [List.find?_append, hnone, List.find?_cons, hx, Option.none_or]

/-- The exchange found after it has changed. -/
theorem Dev.openEx_setOpen (q : Rcp) (id : Nat) {f : OpenEx → OpenEx} (hf : ∀ x, (f x).is q id = x.is q id) :
    (d.setOpen q id f).openEx q id = (d.openEx q id).map (fun x => { f x with seenAt := d.wall }) := by
  have same : ∀ x : OpenEx, ({ f x with seenAt := d.wall } : OpenEx).is q id = x.is q id := hf
  unfold Dev.openEx Dev.setOpen
  dsimp only
  induction d.rcp.opens with
  | nil => rfl
  | cons x l ih =>
    cases hx : x.is q id <;> simp [hx, same, ih]

/-! ## A link of a management port -/

@[simp] theorem Dev.mgField_elapse (dt p : Nat) (f : Fld) : (d.elapse dt).mgField p f = d.mgField p f := (rfl)
@[simp] theorem Dev.mgTries_elapse (dt p : Nat) : (d.elapse dt).mgTries p = d.mgTries p := (rfl)

theorem Dev.mgField_lt (p : Nat) (f : Fld) : d.mgField p f < 2 ^ f.w := Nat.mod_lt _ (Nat.two_pow_pos _)

/-- The fields of a port without a link, before its tries start again. -/
def Dev.mgLinkGone (d : Dev) (p : Nat) : Dev :=
  ((((d.mgErrors p).wr D.MgStatus.LINK p (if d.mgField p D.MgCfg.ENABLE = 1 then 1 else 0)).wr D.MgStatus.SPEED_IN_USE p 0).wr D.MgStatus.IPV4_IN_USE p 0).flag
    D.MgStatus.IPV4_LL_IN_USE p false

/-- The tries of a port start again from its fastest speed. -/
def Dev.mgRetry (d : Dev) (p : Nat) : Dev := { d with rcp := { d.rcp with tries := nput d.rcp.tries (2, 0) p (2, d.wall) } }

theorem Dev.mgDown_eq (p : Nat) : d.mgDown p = (d.mgLinkGone p).mgRetry p := rfl

theorem Dev.rd_mgDown (p : Nat) (g : Fld) (m : Nat) : (d.mgDown p).rd g m = (d.mgLinkGone p).rd g m := by
  have retry : ∀ e : Dev, (e.mgRetry p).rd g m = e.rd g m := fun _ => (rfl)
  rw [Dev.mgDown_eq, retry]

theorem Dev.link_mgDown (p : Nat) : (d.mgDown p).rd D.MgStatus.LINK p = if d.mgField p D.MgCfg.ENABLE = 1 then 1 else 0 := by
  rw [Dev.rd_mgDown, Dev.mgLinkGone, Dev.rd_flag_apart _ _ _ _ _ _ (by decide), Dev.rd_wr_apart _ _ _ _ _ _ (by decide),
    Dev.rd_wr_apart _ _ _ _ _ _ (by decide), Dev.rd_wr_same]
  split <;> rfl

theorem Dev.ipv4_mgDown (p : Nat) : (d.mgDown p).rd D.MgStatus.IPV4_IN_USE p = 0 := by
  rw [Dev.rd_mgDown, Dev.mgLinkGone, Dev.rd_flag_apart _ _ _ _ _ _ (by decide), Dev.rd_wr_same]; rfl

/-- What a port that starts again leaves of the management values and of the journal. -/
def Dev.mgParts (d : Dev) : MgNet × Option (MgNet × Nat) × Option (MgNet × Nat) × Flash × List Raise :=
  (d.rcp.inUse, d.rcp.next, d.rcp.test, d.flash, d.raised)

theorem Dev.mgParts_wr (f : Fld) (n v : Nat) : (d.wr f n v).mgParts = d.mgParts := by
  unfold Dev.mgParts; rw [Dev.wr_rcp, Dev.wr_flash, Dev.wr_raised]

theorem Dev.mgParts_mgErrors (p : Nat) : (d.mgErrors p).mgParts = d.mgParts := by
  unfold Dev.mgErrors; split
  · rfl
  · rw [Dev.sat, Dev.mgParts_wr]; rfl

theorem Dev.mgParts_mgDown (p : Nat) : (d.mgDown p).mgParts = d.mgParts := by
  have retry : ∀ e : Dev, (e.mgRetry p).mgParts = e.mgParts := fun _ => (rfl)
  rw [Dev.mgDown_eq, retry, Dev.mgLinkGone, Dev.flag]
  simp only [Dev.mgParts_wr, Dev.mgParts_mgErrors]

theorem Dev.mgParts_useMg (m : MgNet) : (d.useMg m).mgParts = (m, d.mgParts.2) :=
  Dev.each_eq Dev.mgParts (fun d p => d.mgParts_mgDown p) _ _

/-! ## The obligation -/

/-- O45, a HELLO segment that begins an exchange. -/
theorem completes_openHello {s : State} {q : Rcp} {id : Nat} {v : Bytes} (hears : s.dev.hears q = true)
    (hframe : headerOk q = true ∧ s.dev.sealOk q = true ∧ q.session = 0) (hopen : s.dev.opensOk = true) (hmgt : s.dev.restarts 1 = false)
    (hmgt5 : s.dev.restarts 5 = false) (hv : 1 ≤ v.len ∧ v.len ≤ 1024) (hnone : s.dev.openEx q id = none) (hopens : s.dev.rcp.opens.length < 4)
    (hsessions : s.dev.rcp.sessions.length < 16) :
    Completes (.openHello q id 0 1988 v) s (fun t => t.dev.rcp.opens.length = s.dev.rcp.opens.length + 1 ∧
      (t.dev.openEx q id).map (fun y => (y.stage, y.hello, y.helloLen)) = some (0, v.val % 256 ^ v.len, v.len) ∧
      t.dev.out = [.response q.via q.peer q.port 0 q.seq q.op 0 (openPayload id 1 0 1988 ⟨0, 0⟩) none]) := by
  refine ⟨_, rfl, ?_⟩
  dsimp only
  rw [Dev.openServe_taken _ _ hears hframe hopen hmgt]
  have hform : ¬ (v.len = 0 ∨ 1024 < v.len ∨ 1988 ≠ helloBytes ∨ 1988 < 0 + v.len) := by unfold helloBytes; omega
  have hbusy : ¬ (4 ≤ (s.dev.atOpen q).rcp.opens.length ∨ (s.dev.atOpen q).restarts 5 = true) := by
    rw [Dev.rcp_atOpen, Dev.restarts_atOpen, hmgt5]; simpa using hopens
  have hfull : ¬ 16 ≤ (s.dev.atOpen q).rcp.sessions.length := by rw [Dev.rcp_atOpen]; omega
  simp only [if_neg hform, Dev.openEx_atOpen, hnone, ne_eq, not_true, if_false, if_neg hbusy, if_neg hfull]
  refine ⟨?_, ?_, ?_⟩
  · rw [Dev.rcp_openSay]; simp only [Dev.rcp_atOpen, List.length_append, List.length_singleton]
  · rw [Dev.openEx_openSay, Dev.openEx_append (by simp [OpenEx.is]) (by rw [Dev.openEx_atOpen, hnone])]; rfl
  · rw [Dev.out_openSay]
    exact congrArg (· ++ _) (s.dev.out_atOpen q)

/-- O45, a CHALLENGE segment that is fetched. -/
theorem completes_openChallengeFetch {s : State} {q : Rcp} {id offset : Nat} {x : OpenEx} (hears : s.dev.hears q = true)
    (hframe : headerOk q = true ∧ s.dev.sealOk q = true ∧ q.session = 0) (hopen : s.dev.opensOk = true) (hmgt : s.dev.restarts 1 = false)
    (hx : s.dev.openEx q id = some x) (hstage : x.stage = 1) (hoffset : offset < 6481) :
    Completes (.openChallengeFetch q id offset) s (fun t => t.dev.out = [.response q.via q.peer q.port 0 q.seq q.op 0 (openPayload id 2 offset 6481
      ⟨min 1024 (6481 - offset), bytesAt 6481 x.challenge offset (min 1024 (6481 - offset))⟩) none]) := by
  refine ⟨_, rfl, ?_⟩
  dsimp only
  rw [Dev.openServe_taken _ _ hears hframe hopen hmgt]
  have hin : ¬ challengeBytes ≤ offset := by unfold challengeBytes; omega
  simp only [Dev.openEx_atOpen, hx, hstage, ne_eq, not_true, if_false, if_neg hin]
  rw [Dev.out_openSay]
  exact congrArg (· ++ _) (s.dev.out_atOpen q)

/-- O45, a RESPONSE segment that is not the last. -/
theorem completes_openResponse {s : State} {q : Rcp} {id : Nat} {v : Bytes} {x : OpenEx} (hears : s.dev.hears q = true)
    (hframe : headerOk q = true ∧ s.dev.sealOk q = true ∧ q.session = 0) (hopen : s.dev.opensOk = true) (hmgt : s.dev.restarts 1 = false)
    (hx : s.dev.openEx q id = some x) (hstage : x.stage = 1) (hlen : x.respLen = 0) (hv : 1 ≤ v.len ∧ v.len ≤ 1024) :
    Completes (.openResponse q id 0 7809 v) s (fun t =>
      (t.dev.openEx q id).map (fun y => (y.resp, y.respLen, y.respTotal)) = some (joined x.resp v.val v.len, v.len, 7809) ∧
      t.dev.out = [.response q.via q.peer q.port 0 q.seq q.op 0 (openPayload id 3 0 7809 ⟨0, 0⟩) none]) := by
  refine ⟨_, rfl, ?_⟩
  dsimp only
  rw [Dev.openServe_taken _ _ hears hframe hopen hmgt]
  have hform : ¬ (v.len = 0 ∨ 1024 < v.len ∨ 7809 < 0 + v.len ∨ (7809 ≠ 4401 ∧ 7809 ≠ 7809)) := by omega
  have hturn : ¬ (x.stage ≠ 1 ∨ 0 ≠ x.respLen ∨ (0 ≠ 0 ∧ 7809 ≠ x.respTotal)) := by omega
  have hmore : 0 + v.len < 7809 := by omega
  simp only [Dev.openEx_atOpen, hx, if_neg hform, if_neg hturn, if_pos hmore]
  refine ⟨?_, ?_⟩
  · rw [Dev.openEx_openSay, Dev.openEx_setOpen _ _ (by intro; rfl), Dev.openEx_setOpen _ _ (by intro; rfl), Dev.openEx_atOpen, hx]
    simp only [Option.map_some, Nat.zero_add]
  · rw [Dev.out_openSay]
    exact congrArg (· ++ _) (s.dev.out_atOpen q)

theorem completes_openExchangeTimeout (s : State) (dt : Nat) : Completes (.openExchangeTimeout dt) s (fun t =>
    t.dev.rcp.opens = s.dev.rcp.opens.filter (fun x => decide ((s.dev.elapse dt).wall < x.seenAt + 5000000000))) := by
  refine ⟨_, rfl, ?_⟩
  dsimp only
  refine List.filter_congr fun x _ => ?_
  simp only [Dev.past, ← decide_not, not_le]

/-- A port whose link comes up at a speed, before it has an address. -/
def Dev.mgLinked (d : Dev) (p speed : Nat) : Dev := (d.wr D.MgStatus.LINK p 2).wr D.MgStatus.SPEED_IN_USE p speed

theorem Dev.mgField_mgLinked (p speed n : Nat) (f : Fld) : (d.mgLinked p speed).mgField n f = d.mgField n f := by
  unfold Dev.mgField Dev.mgLinked; rw [Dev.wr_rcp, Dev.wr_rcp]

theorem Dev.link_mgLinked (p speed : Nat) : (d.mgLinked p speed).rd D.MgStatus.LINK p = 2 := by
  rw [Dev.mgLinked, Dev.rd_wr_apart _ _ _ _ _ _ (by decide), Dev.rd_wr_same]; rfl

theorem Dev.speed_mgLinked (p : Nat) {speed : Nat} (h : speed ≤ 2) : (d.mgLinked p speed).rd D.MgStatus.SPEED_IN_USE p = speed := by
  rw [Dev.mgLinked, Dev.rd_wr_same, Nat.mod_eq_of_lt (Nat.lt_of_le_of_lt h (by decide))]

section linkUp

variable {s : State} {dt port speed : Nat} (hport : port ≤ 1) (hl : s.dev.listens port = true)
  (hen : s.dev.mgField port D.MgCfg.ENABLE = 1) (hspeed : speed = s.dev.mgTries port) (hdown : s.dev.rd D.MgStatus.LINK port ≠ 2)
include hport hl hen hspeed hdown

/-- The link of a port that tries the speed comes up (R429). -/
theorem exec_mgLinkUp : exec (.mgLinkUp dt port speed) s = s.act fun _ =>
    let d := (s.dev.elapse dt).mgLinked port speed
    if s.dev.mgField port D.MgCfg.IPV4_ADDR = 0 ∧ s.dev.mgField port D.MgCfg.IPV4_LL = 1 then
      (d.drawn.wr D.MgStatus.IPV4_IN_USE port (169 * 2 ^ 24 + 254 * 2 ^ 16 + 256 + d.freeVal % 65024)).flag D.MgStatus.IPV4_LL_IN_USE port true
    else d.wr D.MgStatus.IPV4_IN_USE port (s.dev.mgField port D.MgCfg.IPV4_ADDR) := by
  have hmay : ¬ (2 ≤ port ∨ (!s.dev.listens port) = true ∨ s.dev.mgField port D.MgCfg.ENABLE ≠ 1 ∨ speed ≠ s.dev.mgTries port ∨
      s.dev.rd D.MgStatus.LINK port = 2) := by
    rintro (h | h | h | h | h)
    · omega
    · rw [hl] at h; cases h
    · exact h hen
    · exact h hspeed
    · exact hdown h
  have hfield := fun f => (Dev.mgField_mgLinked (d := s.dev.elapse dt) port speed port f).trans (Dev.mgField_elapse ..)
  simp only [Dev.mgLinked] at hfield
  simp only [exec, execMgLinkUp, State.act, Dev.listens_elapse, Dev.mgField_elapse, Dev.mgTries_elapse, Dev.rd_elapse, if_neg hmay, hfield]
  rfl

theorem completes_mgLinkUp_own (hle : speed ≤ 2) (hown : s.dev.mgField port D.MgCfg.IPV4_ADDR ≠ 0) :
    Completes (.mgLinkUp dt port speed) s (fun t => t.dev.rd D.MgStatus.LINK port = 2 ∧ t.dev.rd D.MgStatus.SPEED_IN_USE port = speed ∧
      t.dev.rd D.MgStatus.IPV4_IN_USE port = s.dev.mgField port D.MgCfg.IPV4_ADDR) := by
  refine ⟨_, exec_mgLinkUp hport hl hen hspeed hdown, ?_⟩
  dsimp only
  rw [if_neg (fun h => hown h.1)]
  refine ⟨?_, ?_, ?_⟩
  · rw [Dev.rd_wr_apart _ _ _ _ _ _ (by decide), Dev.link_mgLinked]
  · rw [Dev.rd_wr_apart _ _ _ _ _ _ (by decide), Dev.speed_mgLinked _ hle]
  · rw [Dev.rd_wr_same]
    exact Nat.mod_eq_of_lt (s.dev.mgField_lt port D.MgCfg.IPV4_ADDR)

theorem completes_mgLinkUp_linkLocal (hnone : s.dev.mgField port D.MgCfg.IPV4_ADDR = 0) (hll : s.dev.mgField port D.MgCfg.IPV4_LL = 1) :
    Completes (.mgLinkUp dt port speed) s (fun t => t.dev.rd D.MgStatus.LINK port = 2 ∧ t.dev.on D.MgStatus.IPV4_LL_IN_USE port = true ∧
      t.dev.rd D.MgStatus.IPV4_IN_USE port / 65536 = 169 * 256 + 254) := by
  refine ⟨_, exec_mgLinkUp hport hl hen hspeed hdown, ?_⟩
  dsimp only
  rw [if_pos ⟨hnone, hll⟩]
  refine ⟨?_, Dev.on_flag_same _ _ _ _ rfl, ?_⟩
  · rw [Dev.rd_flag_apart _ _ _ _ _ _ (by decide), Dev.rd_wr_apart _ _ _ _ _ _ (by decide), Dev.rd_drawn, Dev.link_mgLinked]
  · have hfree : ∀ n, (169 * 2 ^ 24 + 254 * 2 ^ 16 + 256 + n % 65024) % 2 ^ 32 / 65536 = 169 * 256 + 254 := fun n => by omega
    rw [Dev.rd_flag_apart _ _ _ _ _ _ (by decide), Dev.rd_wr_same]
    exact hfree _

end linkUp

theorem completes_mgLinkDown {s : State} {dt port : Nat} (hport : port ≤ 1) (hl : s.dev.listens port = true)
    (hup : s.dev.rd D.MgStatus.LINK port = 2) :
    Completes (.mgLinkDown dt port) s (fun t => t.dev.rd D.MgStatus.LINK port = (if s.dev.mgField port D.MgCfg.ENABLE = 1 then 1 else 0) ∧
      t.dev.rd D.MgStatus.IPV4_IN_USE port = 0) := by
  have hmay : ¬ (2 ≤ port ∨ (!s.dev.listens port) = true ∨ s.dev.rd D.MgStatus.LINK port ≠ 2) := by
    rw [hl, hup]; simp; omega
  refine ⟨_, rfl, ?_⟩
  simp only [Dev.listens_elapse, Dev.rd_elapse, if_neg hmay]
  exact ⟨Dev.link_mgDown port, Dev.ipv4_mgDown port⟩

theorem completes_mgSpeedTryTimeout {s : State} {dt port n t : Nat} (hport : port ≤ 1) (hl : s.dev.listens port = true)
    (hcfg : s.dev.mgField port D.MgCfg.ENABLE = 1 ∧ s.dev.mgField port D.MgCfg.SPEED = 3) (hdown : s.dev.rd D.MgStatus.LINK port ≠ 2)
    (htry : nget s.dev.rcp.tries (2, 0) port = (n, t)) (hpast : (s.dev.elapse dt).past t 2000000000 = true) :
    Completes (.mgSpeedTryTimeout dt port) s (fun t => t.dev.mgTries port = (if n = 0 then 2 else n - 1)) := by
  have hmay : ¬ (2 ≤ port ∨ (!s.dev.listens port) = true ∨ s.dev.mgField port D.MgCfg.ENABLE ≠ 1 ∨ s.dev.mgField port D.MgCfg.SPEED ≠ 3 ∨
      s.dev.rd D.MgStatus.LINK port = 2) := by
    rw [hl, hcfg.1, hcfg.2]; simp [hdown]; omega
  have hspeed : ∀ l, ({ s.dev.elapse dt with rcp := { s.dev.rcp with tries := l } } : Dev).mgTries port = (nget l (2, 0) port).1 := fun l => by
    have h3 : ({ s.dev.elapse dt with rcp := { s.dev.rcp with tries := l } } : Dev).mgField port D.MgCfg.SPEED = 3 := hcfg.2
    unfold Dev.mgTries; rw [h3]; rfl
  refine ⟨_, rfl, ?_⟩
  simp only [Dev.listens_elapse, Dev.mgField_elapse, Dev.rd_elapse, if_neg hmay, Dev.elapse_rcp, htry, hpast, if_true]
  rw [hspeed, nget_nput_same]

/-! ## Management changes -/

theorem Dev.mgParts_showTest (b : Bool) : (d.showTest b).mgParts = d.mgParts := by
  rw [Dev.showTest, Dev.flag, Dev.flag, Dev.mgParts_wr, Dev.mgParts_wr]

theorem Dev.confirm0_showTest (b : Bool) : (d.showTest b).on D.MgStatus.CONFIRM_PENDING 0 = b := by
  have same := Dev.on_flag_same d D.MgStatus.CONFIRM_PENDING 0 b rfl
  unfold Dev.on at same ⊢
  rw [Dev.showTest, Dev.flag, Dev.rd_wr_ne _ _ _ _ _ (by decide), same]

theorem Dev.confirm1_showTest (b : Bool) : (d.showTest b).on D.MgStatus.CONFIRM_PENDING 1 = b := by
  rw [Dev.showTest, Dev.on_flag_same _ _ _ _ rfl]

theorem isSome_ite_none {α : Type} (n : Nat) (x : α) : (if n = 0 then none else some x).isSome = (n != 0) := by
  cases n <;> rfl

theorem completes_mgCfgEffect {s : State} {dt at_ : Nat} {m : MgNet} (hnext : s.dev.rcp.next = some (m, at_)) (hdue : at_ ≤ (s.dev.elapse dt).wall)
    (hreset : s.dev.inReset = false) :
    Completes (.mgCfgEffect dt) s (fun t => t.dev.rcp.inUse = m ∧ t.dev.rcp.next = none ∧
      t.dev.rcp.test.isSome = (s.dev.rd D.Rcp.MG_CONFIRM_S 0 != 0) ∧
      t.dev.on D.MgStatus.CONFIRM_PENDING 1 = (s.dev.rd D.Rcp.MG_CONFIRM_S 0 != 0)) := by
  have hmay : ¬ ((s.dev.elapse dt).wall < at_ ∨ (s.dev.elapse dt).inReset = true) := by
    rintro (h | h)
    · exact absurd h (not_lt.mpr hdue)
    · rw [Dev.inReset_elapse, hreset] at h; cases h
  have hparts : ∀ (e : Dev) (b : Bool), ((e.useMg m).showTest b).mgParts = (m, e.mgParts.2) := fun e b => by
    rw [Dev.mgParts_showTest, Dev.mgParts_useMg]
  refine ⟨_, rfl, ?_⟩
  simp only [Dev.elapse_rcp, hnext, if_neg hmay, Dev.rd_elapse, Dev.confirm1_showTest]
  refine ⟨?_, ?_, ?_, ?_⟩
  · exact congrArg Prod.fst (hparts _ _)
  · exact congrArg (fun p => p.2.1) (hparts _ _)
  · rw [show ∀ e : Dev, e.rcp.test = e.mgParts.2.2.1 from fun _ => rfl, hparts]
    exact isSome_ite_none _ _
  · exact isSome_ite_none _ _

/-! ## The journal -/

theorem Dev.gen_compactDue : d.compactDue.flash.gen = d.flash.gen := by
  unfold Dev.compactDue; split
  · rw [Dev.compact, Dev.wr_flash]; rfl
  · rfl

theorem Dev.gen_append (r : JRec) : (d.append r).flash.gen = r.gen := by
  rw [Dev.append, Dev.wr_flash]

/-- A commit group takes two generations (R425). -/
theorem Dev.gen_journalGroup (items : Store) : (d.journalGroup items).flash.gen = d.flash.gen + 2 := by
  rw [Dev.journalGroup, Dev.wr_flash, Dev.gen_append, Dev.gen_compactDue]

theorem Dev.gen_writeNetId (g : Nat) : (d.writeNetId g).flash.gen = d.flash.gen := by
  unfold Dev.writeNetId; dsimp only; split <;> rfl

theorem Dev.gen_setMgNet (m : MgNet) : (d.setMgNet m).flash.gen = d.flash.gen := by
  rw [Dev.setMgNet, Dev.wr_flash, Dev.setEnt_flash, Dev.setEnt_flash, Dev.wr_flash]

theorem Dev.rcp_journalGroup (items : Store) : (d.journalGroup items).rcp = d.rcp := by
  have append : ∀ (e : Dev) r, (e.append r).rcp = e.rcp := fun e r => by rw [Dev.append, Dev.wr_rcp]
  have compactDue : d.compactDue.rcp = d.rcp := by
    unfold Dev.compactDue; split
    · rw [Dev.compact, Dev.wr_rcp]; rfl
    · rfl
  rw [Dev.journalGroup, Dev.wr_rcp, append, append, compactDue]

theorem Dev.rcp_writeNetId (g : Nat) : (d.writeNetId g).rcp = d.rcp := by
  unfold Dev.writeNetId; dsimp only; split <;> rfl

theorem Dev.rcp_setMgNet (m : MgNet) : (d.setMgNet m).rcp = d.rcp := by
  rw [Dev.setMgNet, Dev.wr_rcp, Dev.setEnt_rcp, Dev.setEnt_rcp, Dev.wr_rcp]

theorem completes_rcpMgReverted {s : State} {dt at_ : Nat} {m : MgNet} (htest : s.dev.rcp.test = some (m, at_))
    (hdue : at_ ≤ (s.dev.elapse dt).wall) (hreset : s.dev.inReset = false) (hwarn : s.dev.pwrWarn = false) :
    Completes (.rcpMgReverted dt) s (fun t => t.dev.rcp.inUse = m ∧ t.dev.rcp.test = none ∧ t.dev.flash.gen = s.dev.flash.gen + 2 ∧
      t.dev.on D.MgStatus.CONFIRM_PENDING 0 = false ∧ t.dev.raised.contains ⟨Src.RCP_MG_REVERTED, 0, false⟩ = true) := by
  have hmay : ¬ ((s.dev.elapse dt).wall < at_ ∨ (s.dev.elapse dt).inReset = true ∨ (s.dev.elapse dt).pwrWarn = true) := by
    rintro (h | h | h)
    · exact absurd h (not_lt.mpr hdue)
    · rw [Dev.inReset_elapse, hreset] at h; cases h
    · exact absurd h (by rw [show (s.dev.elapse dt).pwrWarn = false from hwarn]; decide)
  have hraise : ∀ e : Dev, ((e.raise Src.RCP_MG_REVERTED 0).rcp, (e.raise Src.RCP_MG_REVERTED 0).flash) = (e.rcp, e.flash) := fun _ => (rfl)
  have hparts : ∀ (e : Dev) (b : Bool), ((e.useMg m).showTest b).mgParts = (m, e.mgParts.2) := fun e b => by
    rw [Dev.mgParts_showTest, Dev.mgParts_useMg]
  have htested : ∀ (e : Dev) (b : Bool), ((e.useMg m).showTest b).rcp.test = e.rcp.test := fun e b => congrArg (fun p => p.2.2.1) (hparts e b)
  have hflash : ∀ (e : Dev) (b : Bool), ((e.useMg m).showTest b).flash = e.flash := fun e b => congrArg (fun p => p.2.2.2.1) (hparts e b)
  refine ⟨_, rfl, ?_⟩
  simp only [Dev.elapse_rcp, htest, if_neg hmay]
  refine ⟨?_, ?_, ?_, ?_, ?_⟩
  · rw [(Prod.mk.inj (hraise _)).1]
    exact congrArg Prod.fst (hparts _ _)
  · rw [(Prod.mk.inj (hraise _)).1, htested, Dev.rcp_writeNetId, Dev.rcp_journalGroup, Dev.rcp_setMgNet]
  · rw [(Prod.mk.inj (hraise _)).2, hflash, Dev.gen_writeNetId, Dev.gen_journalGroup, Dev.gen_setMgNet]; rfl
  · rw [Dev.on, Dev.rd_raise]; exact Dev.confirm0_showTest false
  · exact List.contains_iff_mem.mpr (Dev.mem_raised_raise ..)

theorem completes_journalCompaction {s : State} {dt : Nat} (hfull : 75 ≤ s.dev.journalPct) (hwarn : s.dev.pwrWarn = false)
    (hreset : s.dev.inReset = false) :
    Completes (.journalCompaction dt) s (fun t => t.dev.flash.journal = [] ∧ t.dev.flash.used = 0 ∧ t.dev.rd D.Rcp.JOURNAL_USED_PCT 0 = 0 ∧
      t.dev.flash.gen = s.dev.flash.gen) := by
  have hmay : 75 ≤ (s.dev.elapse dt).journalPct ∧ (s.dev.elapse dt).pwrWarn = false ∧ (s.dev.elapse dt).inReset = false := ⟨hfull, hwarn, hreset⟩
  refine ⟨_, rfl, ?_⟩
  simp only [if_pos hmay]
  rw [Dev.compact, Dev.wr_flash]
  exact ⟨rfl, rfl, Dev.rd_wr_same _ _ _ _, rfl⟩

/-- Settles O45: each clause is its command's own effect, the OPEN frames' behind the checks of their reception. -/
theorem openAndManagementComplete : Obligations.OpenAndManagementComplete := by
  unfold Obligations.OpenAndManagementComplete
  refine ⟨?_, ?_, ?_, completes_openExchangeTimeout, ?_, ?_, ?_, ?_, ?_, ?_, ?_⟩
  · intro s q id v hears hframe ⟨hopen, hmgt, hmgt5⟩ hv hnone hopens hsessions
    exact completes_openHello hears hframe hopen hmgt hmgt5 hv hnone hopens hsessions
  · intro s q id offset x hears hframe ⟨hopen, hmgt⟩ hx hstage hoffset
    exact completes_openChallengeFetch hears hframe hopen hmgt hx hstage hoffset
  · intro s q id v x hears hframe ⟨hopen, hmgt⟩ hx ⟨hstage, hlen⟩ hv
    exact completes_openResponse hears hframe hopen hmgt hx hstage hlen hv
  · intro s dt port speed hport hl hen hspeed hle hdown hown
    exact completes_mgLinkUp_own hport hl hen hspeed hdown hle hown
  · intro s dt port speed hport hl hen hspeed _ hdown ⟨hnone, hll⟩
    exact completes_mgLinkUp_linkLocal hport hl hen hspeed hdown hnone hll
  · intro s dt port hport hl hup
    exact completes_mgLinkDown hport hl hup
  · intro s dt port n t hport hl hcfg hdown htry hpast
    exact completes_mgSpeedTryTimeout hport hl hcfg hdown htry hpast
  · intro s dt t m hnext hdue hreset
    exact completes_mgCfgEffect hnext hdue hreset
  · intro s dt t m htest hdue hreset hwarn
    exact completes_rcpMgReverted htest hdue hreset hwarn
  · intro s dt hfull hwarn hreset
    exact completes_journalCompaction hfull hwarn hreset

end Sys2Proof.Machine
end

section
/-! Obligations of 16_security_firmware.md: owner commands, attestation and the debug token (R442 to R453). -/

namespace Sys2Proof.Machine
open Sys2Proof

/-! ## Fields of a packed value (R5) -/

/-- The bits that a list of fields takes. -/
def packBits (l : List (Nat × Nat)) : Nat := sumOf Prod.fst l

theorem pack_foldl (l : List (Nat × Nat)) (a : Nat) :
    l.foldl (fun a x => a * 2 ^ x.1 + x.2 % 2 ^ x.1) a = a * 2 ^ packBits l + pack l := by
  unfold pack packBits
  induction l generalizing a with
  | nil => simp [sumOf]
  | cons x l ih =>
    rw [List.foldl_cons, List.foldl_cons, ih, ih (0 * 2 ^ x.1 + x.2 % 2 ^ x.1), sumOf, Nat.pow_add]
    ring

theorem pack_cons (x : Nat × Nat) (l : List (Nat × Nat)) : pack (x :: l) = x.2 % 2 ^ x.1 * 2 ^ packBits l + pack l := by
  rw [pack, List.foldl_cons, pack_foldl, Nat.zero_mul, Nat.zero_add]

theorem pack_lt (l : List (Nat × Nat)) : pack l < 2 ^ packBits l := by
  induction l with
  | nil => exact Nat.one_pos
  | cons x l ih =>
    have hx : x.2 % 2 ^ x.1 < 2 ^ x.1 := Nat.mod_lt _ (Nat.two_pow_pos _)
    rw [pack_cons, show packBits (x :: l) = x.1 + packBits l from rfl, Nat.pow_add]
    nlinarith

theorem pack_append (l m : List (Nat × Nat)) : pack (l ++ m) = pack l * 2 ^ packBits m + pack m := by
  rw [pack, List.foldl_append, pack_foldl]; rfl

/-- The bits of the fields in the middle are those fields packed. -/
theorem bitsOf_pack (l k m : List (Nat × Nat)) : bitsOf (pack (l ++ k ++ m)) (packBits m) (packBits k) = pack k := by
  have hm : (pack (l ++ k) * 2 ^ packBits m + pack m) / 2 ^ packBits m = pack (l ++ k) := by
    rw [Nat.mul_comm, Nat.mul_add_div (Nat.two_pow_pos _), Nat.div_eq_of_lt (pack_lt m), Nat.add_zero]
  rw [bitsOf, pack_append, hm, pack_append, Nat.mul_comm, Nat.mul_add_mod, Nat.mod_eq_of_lt (pack_lt k)]

/-- The same of bytes. -/
theorem bytesAt_pack {len off n : Nat} {fields : List (Nat × Nat)} (l k m : List (Nat × Nat)) (hf : fields = l ++ k ++ m)
    (hm : packBits m = 8 * (len - off - n)) (hk : packBits k = 8 * n) : bytesAt len (pack fields) off n = pack k := by
  rw [bytesAt, ← hm, ← hk, hf, bitsOf_pack]

theorem pack_singleton {w x : Nat} (h : x < 2 ^ w) : pack [(w, x)] = x := by
  rw [pack_cons, Nat.mod_eq_of_lt h]; exact Nat.mul_one x

/-! ## The ownership record -/

variable {d : Dev}

/-- The copy that was written is the one in force (R438). -/
theorem Dev.owner_writeOwner (enrolled : Bool) (since policy pub : Nat) :
    ∃ g, (d.writeOwner enrolled since policy pub).owner = some ⟨true, g, enrolled, since, policy, pub⟩ := by
  have field : ∀ (e : Dev) (f : Fld) (n v : Nat), (e.wr f n v).owner = e.owner := fun e f n v => by
    unfold Dev.owner; rw [Dev.wr_sec]
  unfold Dev.writeOwner
  dsimp only
  rw [field]
  refine ⟨max (if d.sec.owner0.valid then d.sec.owner0.gen else 0) (if d.sec.owner1.valid then d.sec.owner1.gen else 0) + 1, ?_⟩
  cases ha : d.sec.owner0.valid <;> cases hb : d.sec.owner1.valid <;> by_cases hle : d.sec.owner0.gen ≤ d.sec.owner1.gen <;>
    simp [Dev.owner, ha, hb, hle]

theorem Dev.ownerState_showOwner (r : OwnerRec) : (d.showOwner r).rd D.Sec.OWNER_STATE 0 = ofBool r.enrolled := by
  have key : ∀ (e : Dev) v, (e.setEnt (D.Sec.POLICY.key 0) v).rd D.Sec.OWNER_STATE 0 = e.rd D.Sec.OWNER_STATE 0 := fun e v => by
    unfold Dev.rd; rw [Dev.ent_setEnt_other _ _ (by decide)]
  rw [Dev.showOwner, Dev.rd_wr_apart _ _ _ _ _ _ (by decide), key, Dev.rd_wr_apart _ _ _ _ _ _ (by decide), Dev.rd_wr_same]
  cases r.enrolled <;> rfl

theorem Dev.freeIdx_showOwner (r : OwnerRec) : (d.showOwner r).freeIdx = d.freeIdx := by
  rw [Dev.showOwner, Dev.wr_freeIdx, Dev.setEnt_freeIdx, Dev.wr_freeIdx, Dev.wr_freeIdx]

theorem Dev.freeIdx_writeOwner (enrolled : Bool) (since policy pub : Nat) : (d.writeOwner enrolled since policy pub).freeIdx = d.freeIdx := by
  rw [Dev.writeOwner, Dev.wr_freeIdx]; split <;> rfl

/-- Who owns the device, and the free values drawn: what the end of a session leaves alone. -/
def Dev.ownParts (d : Dev) : Nat × Nat := (d.rd D.Sec.OWNER_STATE 0, d.freeIdx)

/-- The end of a session (R417) reaches the endpoint, the security state and the fields of an update session. -/
theorem Dev.closeSession_eq {α : Type} (φ : Dev → α) (hparts : ∀ (e : Dev) r x, φ { e with rcp := r, sec := x } = φ e)
    (hstate : ∀ (e : Dev) v, φ (e.wr D.Upd.UPDATE_STATE 0 v) = φ e) (hholder : ∀ (e : Dev) v, φ (e.wr D.Upd.UPDATE_HOLDER 0 v) = φ e)
    (d : Dev) (id : Nat) : φ (d.closeSession id) = φ d := by
  have hdrop : ∀ e : Dev, φ e.updateDrop = φ e := fun e => by rw [Dev.updateDrop, hholder, hstate]; exact hparts e e.rcp _
  have hgroup : ∀ e : Dev, φ e.dropGroup = φ e := fun e => hparts e _ e.sec
  unfold Dev.closeSession
  dsimp only
  refine (hparts _ _ _).trans ?_
  cases d.rcp.group with
  | none => dsimp only; split <;> simp only [hdrop]
  | some g => dsimp only; split <;> split <;> simp only [hdrop, hgroup]

theorem Dev.ownParts_closeSession (id : Nat) : (d.closeSession id).ownParts = d.ownParts := by
  have field : ∀ (e : Dev) (f : Fld) (v : Nat), Fld.apart f D.Sec.OWNER_STATE = true → (e.wr f 0 v).ownParts = e.ownParts := fun e f v h => by
    unfold Dev.ownParts; rw [Dev.rd_wr_apart _ _ _ _ _ _ h, Dev.wr_freeIdx]
  exact Dev.closeSession_eq Dev.ownParts (fun _ _ _ => rfl) (fun e v => field e _ v (by decide)) (fun e v => field e _ v (by decide)) d id

theorem Dev.ownParts_changeM (k v : Nat) : (d.changeM k v).ownParts = d.ownParts := by
  unfold Dev.changeM; split <;> rfl

/-- A change of ownership shows in OWNER_STATE and draws no free value (R444). -/
theorem Dev.ownParts_ownerChange (w : Who) (v : Nat) : (d.ownerChange w v).ownParts = (ofBool (bytesAt 8644 v 0 1 != 3), d.freeIdx) := by
  have hsec : ∀ (e : Dev) x, ({ e with sec := x } : Dev).ownParts = e.ownParts := fun _ _ => rfl
  have hevent : ∀ (e : Dev) k x, (e.event k x).ownParts = e.ownParts := fun _ _ _ => rfl
  have hclose : ∀ (e : Dev) l, (e.each l (fun d i => d.closeSession i)).ownParts = e.ownParts := fun e l =>
    Dev.each_eq Dev.ownParts (fun d i => d.ownParts_closeSession i) e l
  unfold Dev.ownerChange
  dsimp only
  rw [Dev.ownParts_closeSession, hclose, hevent, Dev.ownParts_changeM, hsec]
  obtain ⟨g, howner⟩ := Dev.owner_writeOwner (d := d) (bytesAt 8644 v 0 1 != 3) d.now
    (if bytesAt 8644 v 0 1 = 3 then policyReset else bytesAt 8644 v 36 32) (bytesAt 8644 v 68 1952)
  rw [howner]
  dsimp only
  rw [Dev.ownParts, Dev.ownerState_showOwner, Dev.freeIdx_showOwner, Dev.freeIdx_writeOwner]

/-! ## Owner commands -/

theorem Dev.ownerCheck_lt (w : Who) (v : Nat) : d.ownerCheck w v < 0x100 := by
  unfold Dev.ownerCheck; dsimp only; split_ifs <;> decide

theorem Dev.ownParts_newNonce : d.newNonce.ownParts = (d.rd D.Sec.OWNER_STATE 0, d.freeIdx + 1) := by
  have drawn : ∀ e : Dev, e.drawn.ownParts = (e.rd D.Sec.OWNER_STATE 0, e.freeIdx + 1) := fun _ => rfl
  rw [Dev.newNonce, drawn, Dev.rd_wr_apart _ _ _ _ _ _ (by decide), Dev.wr_freeIdx]

/-- What an owner command leaves: where its checks pass, the device is owned unless it was a RELEASE; a new nonce is drawn either way (R443, R444). -/
theorem Dev.ownerCmd_eq (w : Who) {v : Nat} (hwarn : d.pwrWarn = false) : ∃ e, d.ownerCmd w ⟨8644, v⟩ = (e, d.ownerCheck w v) ∧
    e.ownParts = (if d.ownerCheck w v = St.OK then ofBool (bytesAt 8644 v 0 1 != 3) else d.rd D.Sec.OWNER_STATE 0, d.freeIdx + 1) := by
  have hparts := Prod.mk.inj (d.ownParts_ownerChange w v)
  by_cases hok : d.ownerCheck w v = St.OK
  · refine ⟨(d.ownerChange w v).newNonce, ?_, ?_⟩
    · simp only [Dev.ownerCmd, ne_eq, not_true, if_false, hok, hwarn, Bool.false_eq_true]
    · rw [Dev.ownParts_newNonce, hparts.1, hparts.2, if_pos hok]
  · refine ⟨d.newNonce, ?_, ?_⟩
    · simp only [Dev.ownerCmd, ne_eq, not_true, if_false, hok, not_false_eq_true, if_true]
    · rw [Dev.ownParts_newNonce, if_neg hok]

theorem Dev.ownParts_answer (q : Rcp) (r : Reply) : (d.answer q r).ownParts = d.ownParts := by
  rw [Dev.ownParts, Dev.rd_answer _ _ _ _ _ (by decide) (by decide), Dev.freeIdx_answer]; rfl

theorem Dev.ownParts_atBody (q : Rcp) : (d.atBody q).ownParts = d.ownParts := by
  rw [Dev.ownParts, Dev.rd_atBody _ _ _ _ (by decide) (by decide) (by decide), Dev.freeIdx_atBody]; rfl

/-- A granted WRITE_DOM completes as what it does, with the answer to it, does. -/
theorem completes_serveDom {c me : Instr} {s : State} {q : Rcp} {ix sub off st : Nat} {v : Bytes} {act : Who → Dev → Dev × Nat} {e : Dev} {P : State → Prop}
    (hexec : exec c s = s.act (serveDom me q ix sub off v act)) (hgrant : s.dev.grantsDom q ix sub off v = true)
    (hact : act (s.dev.asker q) (s.dev.atBody q) = (e, st)) (hst : st < 0x100)
    (hP : P { s with dev := e.answer q (Reply.of st) }) : Completes c s P :=
  ⟨{ s with dev := e.answer q (Reply.of st) }, by rw [hexec, State.act, serveDom_answers hgrant hact (by unfold St.DEFER; omega)], hP⟩

/-- The same of a granted WRITE. -/
theorem completes_serveWrite {c me : Instr} {s : State} {q : Rcp} {ix sub st : Nat} {v : Bytes} {act : Who → Dev → Dev × Nat} {e : Dev} {P : State → Prop}
    (hexec : exec c s = s.act (serveWrite me q ix sub v act)) (hgrant : s.dev.grants q ix sub v = true)
    (hact : act (s.dev.asker q) (s.dev.atBody q) = (e, st)) (hst : st < 0x100)
    (hP : P { s with dev := e.answer q (Reply.of st) }) : Completes c s P :=
  ⟨{ s with dev := e.answer q (Reply.of st) }, by rw [hexec, State.act, serveWrite_answers hgrant hact (by unfold St.DEFER; omega)], hP⟩

theorem completes_ownerCmd {c me : Instr} {s : State} {q : Rcp} {v : Nat}
    (hexec : exec c s = s.act (serveDom me q 0x0200 0x08 0 ⟨8644, v⟩ fun w d => d.ownerCmd w ⟨8644, v⟩))
    (hgrant : s.dev.grantsDom q 0x0200 0x08 0 ⟨8644, v⟩ = true) (hwarn : s.dev.pwrWarn = false) :
    Completes c s (fun t => t.dev.answered q ((s.dev.atBody q).ownerCheck (s.dev.asker q) v) = true ∧
      t.dev.on D.Sec.OWNER_STATE 0 = (if (s.dev.atBody q).ownerCheck (s.dev.asker q) v = St.OK then bytesAt 8644 v 0 1 != 3
        else s.dev.on D.Sec.OWNER_STATE 0) ∧ t.dev.freeIdx = s.dev.freeIdx + 1) := by
  have hwarn' : (s.dev.atBody q).pwrWarn = false := by rw [Dev.pwrWarn, Dev.pwr_atBody]; exact hwarn
  have hst := (s.dev.atBody q).ownerCheck_lt (s.dev.asker q) v
  obtain ⟨e, hcmd, hparts⟩ := (s.dev.atBody q).ownerCmd_eq (s.dev.asker q) (v := v) hwarn'
  have hbody := Prod.mk.inj (s.dev.ownParts_atBody q)
  have hfinal := Prod.mk.inj ((e.ownParts_answer q (Reply.of ((s.dev.atBody q).ownerCheck (s.dev.asker q) v))).trans hparts)
  refine completes_serveDom hexec hgrant hcmd hst ⟨Dev.answered_refused _ _ _ hst, ?_, ?_⟩
  · refine (congrArg (· == 1) hfinal.1).trans ?_
    split
    · cases bytesAt 8644 v 0 1 != 3 <;> rfl
    · exact congrArg (· == 1) hbody.1
  · exact hfinal.2.trans (congrArg (· + 1) hbody.2)

theorem kind_ownerValue {kind : Nat} (hkind : kind < 256) (nonce policy pub newSig ownerSig : Nat) :
    bytesAt 8644 (ownerValue kind nonce policy pub newSig ownerSig) 0 1 = kind := by
  rw [ownerValue, bytesAt_pack [] [(8, kind)] _ (by rfl) (by simp [packBits, sumOf]) (by simp [packBits, sumOf])]
  exact pack_singleton hkind

/-! ## Attestation and the debug token -/

theorem completes_attestNonce {s : State} {q : Rcp} {nonce : Nat} (hgrant : s.dev.grants q 0x0200 0x0B ⟨32, nonce⟩ = true) :
    Completes (.attestNonce q nonce) s (fun t => t.dev.answered q St.OK = true ∧ t.dev.sec.quote =
      some ((s.dev.atBody q).quoteBody nonce * 2 ^ 26472 + Config.identitySign ⟨392, (s.dev.atBody q).quoteBody nonce⟩ % 2 ^ 26472)) := by
  refine completes_serveWrite (act := fun _ d => (d.makeQuote nonce, St.OK)) rfl hgrant rfl (by decide) ⟨Dev.answered_ok _, ?_⟩
  dsimp only
  rw [Dev.sec_answer]; rfl

/-- A debug token (R453). -/
def debugTokenValue (serial nonce sig : Nat) : Nat := pack [(128, serial), (256, nonce), (26472, sig), (24, 0)]

section debugToken

variable {serial nonce sig : Nat} (hserial : serial < 2 ^ 128) (hnonce : nonce < 2 ^ 256) (hsig : sig < 2 ^ 26472)

include hserial in
theorem serial_debugToken : bytesAt 3360 (debugTokenValue serial nonce sig) 0 16 = serial := by
  rw [debugTokenValue, bytesAt_pack [] [(128, serial)] _ (by rfl) (by simp [packBits, sumOf]) (by simp [packBits, sumOf]), pack_singleton hserial]

include hnonce in
theorem nonce_debugToken : bytesAt 3360 (debugTokenValue serial nonce sig) 16 32 = nonce := by
  rw [debugTokenValue, bytesAt_pack [(128, serial)] [(256, nonce)] _ (by rfl) (by simp [packBits, sumOf]) (by simp [packBits, sumOf]), pack_singleton hnonce]

include hserial hnonce in
theorem signed_debugToken : bytesAt 3360 (debugTokenValue serial nonce sig) 0 48 = serial * 2 ^ 256 + nonce := by
  rw [debugTokenValue, bytesAt_pack [] [(128, serial), (256, nonce)] _ (by rfl) (by simp [packBits, sumOf]) (by simp [packBits, sumOf]), pack_cons, pack_singleton hnonce, Nat.mod_eq_of_lt hserial]
  rfl

include hsig in
theorem sig_debugToken : bytesAt 3360 (debugTokenValue serial nonce sig) 48 3309 = sig := by
  rw [debugTokenValue, bytesAt_pack [(128, serial), (256, nonce)] [(26472, sig)] _ (by rfl) (by simp [packBits, sumOf]) (by simp [packBits, sumOf]), pack_singleton hsig]

theorem padding_debugToken : bytesAt 3360 (debugTokenValue serial nonce sig) 3357 3 = 0 := by
  rw [debugTokenValue, bytesAt_pack [(128, serial), (256, nonce), (26472, sig)] [(24, 0)] _ (by rfl) (by simp [packBits, sumOf]) (by simp [packBits, sumOf])]
  rfl

end debugToken

/-- What a write of DEBUG_TOKEN checks beyond the lock itself (R453). -/
def Dev.tokenOk (d : Dev) (serial nonce sig : Nat) : Prop :=
  serial = Config.serial ∧ nonce = d.rd D.Sec.OWNER_NONCE 0 ∧ Config.mldsaVerify (d.rd D.Sec.OWNER_PUBLIC 0) ⟨48, serial * 2 ^ 256 + nonce⟩ sig = true

section debugCmd

variable {serial nonce sig : Nat} (hallowed : d.on D.Policy.DEBUG_ALLOWED 0 = true) (hserial : serial < 2 ^ 128) (hnonce : nonce < 2 ^ 256)
  (hsig : sig < 2 ^ 26472) (hlocked : d.rd D.Sec.DEBUG_STATE 0 = 0)
include hallowed hserial hnonce hsig

theorem Dev.debugCmd_refused (hbad : ¬ d.tokenOk serial nonce sig) : d.debugCmd ⟨3360, debugTokenValue serial nonce sig⟩ = (d, St.AUTH) := by
  unfold Dev.tokenOk at hbad
  rw [Dev.debugCmd, if_neg (by simp), if_neg (by simp [hallowed]), if_pos]
  rw [serial_debugToken hserial, nonce_debugToken hnonce, signed_debugToken hserial hnonce, sig_debugToken hsig]
  by_contra hnot
  push Not at hnot
  obtain ⟨hs, hn, -, hv⟩ := hnot
  exact hbad ⟨hs, hn, by simpa using hv⟩

include hlocked

theorem Dev.debugCmd_accepted (hok : d.tokenOk serial nonce sig) : ∃ x, d.debugCmd ⟨3360, debugTokenValue serial nonce sig⟩ =
    ({ d.wr D.Sec.DEBUG_STATE 0 1 with sec := x }, St.OK) := by
  obtain ⟨hs, hn, hv⟩ := hok
  rw [Dev.debugCmd, if_neg (by simp), if_neg (by simp [hallowed]), if_neg]
  · rw [hlocked, if_neg (by decide)]
    exact ⟨_, rfl⟩
  · rw [serial_debugToken hserial, nonce_debugToken hnonce, signed_debugToken hserial hnonce, sig_debugToken hsig, padding_debugToken, hv]
    simp [hs, hn]

end debugCmd

theorem Dev.tokenOk_atBody (q : Rcp) (serial nonce sig : Nat) : (d.atBody q).tokenOk serial nonce sig ↔ d.tokenOk serial nonce sig := by
  unfold Dev.tokenOk
  rw [Dev.rd_atBody _ _ _ _ (by decide) (by decide) (by decide), Dev.rd_atBody _ _ _ _ (by decide) (by decide) (by decide)]

theorem completes_debugToken {s : State} {q : Rcp} {serial nonce sig : Nat} {P : State → Prop}
    (hgrant : s.dev.grantsDom q 0x0200 0x0F 0 ⟨3360, debugTokenValue serial nonce sig⟩ = true) (hallowed : s.dev.on D.Policy.DEBUG_ALLOWED 0 = true)
    (hserial : serial < 2 ^ 128) (hnonce : nonce < 2 ^ 256) (hsig : sig < 2 ^ 26472) (hlocked : s.dev.rd D.Sec.DEBUG_STATE 0 = 0)
    (hok : s.dev.tokenOk serial nonce sig → ∀ t, t.dev.answered q St.OK = true → t.dev.rd D.Sec.DEBUG_STATE 0 = 1 → P t)
    (hbad : ¬ s.dev.tokenOk serial nonce sig → ∀ t, t.dev.answered q St.AUTH = true → t.dev.rd D.Sec.DEBUG_STATE 0 = 0 → P t) :
    Completes (.debugToken q serial nonce sig) s P := by
  have hallowed' : (s.dev.atBody q).on D.Policy.DEBUG_ALLOWED 0 = true := by
    rw [Dev.on, Dev.rd_atBody _ _ _ _ (by decide) (by decide) (by decide)]; exact hallowed
  have hlocked' : (s.dev.atBody q).rd D.Sec.DEBUG_STATE 0 = 0 := by rw [Dev.rd_atBody _ _ _ _ (by decide) (by decide) (by decide), hlocked]
  by_cases h : s.dev.tokenOk serial nonce sig
  · obtain ⟨x, hcmd⟩ := Dev.debugCmd_accepted hallowed' hserial hnonce hsig hlocked' ((Dev.tokenOk_atBody q _ _ _).mpr h)
    refine completes_serveDom (act := fun _ d => d.debugCmd ⟨3360, debugTokenValue serial nonce sig⟩) rfl hgrant hcmd (by decide) (hok h _ (Dev.answered_ok _) ?_)
    dsimp only
    rw [Dev.rd_answer _ _ _ _ _ (by decide) (by decide)]
    exact Dev.rd_wr_same ..
  · have hcmd := Dev.debugCmd_refused hallowed' hserial hnonce hsig (fun hx => h ((Dev.tokenOk_atBody q _ _ _).mp hx))
    refine completes_serveDom (act := fun _ d => d.debugCmd ⟨3360, debugTokenValue serial nonce sig⟩) rfl hgrant hcmd (by decide)
      (hbad h _ (Dev.answered_refused _ _ _ (by decide)) ?_)
    dsimp only
    rw [Dev.rd_answer _ _ _ _ _ (by decide) (by decide), hlocked']

/-- Settles O46: an owner command's clauses are one lemma about what every owner command leaves; a debug token's bytes are read back from how it is packed. -/
theorem securityCommandsComplete : Obligations.SecurityCommandsComplete := by
  unfold Obligations.SecurityCommandsComplete
  refine ⟨?_, ?_, ?_, ?_, fun s q nonce hgrant => completes_attestNonce hgrant, ?_⟩
  · intro s q nonce policy pub sig hgrant hwarn
    have h := completes_ownerCmd (c := .ownerCmdEnrol q nonce policy pub sig) rfl hgrant hwarn
    rwa [kind_ownerValue (by decide)] at h
  · intro s q nonce policy pub newSig ownerSig hgrant hwarn
    have h := completes_ownerCmd (c := .ownerCmdTransfer q nonce policy pub newSig ownerSig) rfl hgrant hwarn
    rwa [kind_ownerValue (by decide)] at h
  · intro s q nonce ownerSig hgrant hwarn
    have h := completes_ownerCmd (c := .ownerCmdRelease q nonce ownerSig) rfl hgrant hwarn
    rwa [kind_ownerValue (by decide)] at h
  · intro s dt t hwindow hpast
    refine ⟨_, rfl, ?_⟩
    simp only [Dev.elapse_sec, hwindow, hpast, if_true, Dev.enrolLeft, and_self]
  · intro s q serial nonce sig hgrant hallowed hserial hnonce hsig hlocked
    exact completes_debugToken hgrant hallowed hserial hnonce hsig hlocked
      (fun hok t hanswer hstate => by rw [if_pos (show _ ∧ _ from hok), if_pos (show _ ∧ _ from hok)]; exact ⟨hanswer, hstate⟩)
      (fun hbad t hanswer hstate => by rw [if_neg (show ¬ (_ ∧ _) from hbad), if_neg (show ¬ (_ ∧ _) from hbad)]; exact ⟨hanswer, hstate⟩)

end Sys2Proof.Machine
end

section
/-! Obligations of 16_security_firmware.md: update sessions (R455 to R460, R471). -/

namespace Sys2Proof.Machine
open Sys2Proof

variable {d : Dev}

/-! ## What the checks of firmware read -/

/-- A field that the reception of a request does not share reads as before it, also after the holder has been heard. -/
theorem Dev.holderHeard_eq {α : Type} (φ : Dev → α) (h : ∀ (e : Dev) t, φ (e.setSec (fun x => { x with heardAt := t })) = φ e) (d : Dev) (w : Who) :
    φ (d.holderHeard w) = φ d := by
  unfold Dev.holderHeard; split
  · exact h d d.wall
  · rfl

/-- The device at which an update request acts: it has heard the request, and the holder has written. -/
def Dev.atUpdate (d : Dev) (q : Rcp) : Dev := (d.atBody q).holderHeard (d.asker q)

theorem Dev.atUpdate_eq {α : Type} (φ : Dev → α) (h : ∀ (e : Dev) t, φ (e.setSec (fun x => { x with heardAt := t })) = φ e) (d : Dev) (q : Rcp) :
    φ (d.atUpdate q) = φ (d.atBody q) := Dev.holderHeard_eq φ h _ _

/-- Fields apart from those that receiving a request counts in. -/
def offHeard (f : Fld) : Bool := offRx f && Fld.apart D.MgCounters.RCP_FRAMES f && Fld.apart D.MgStatus.CONFIRM_PENDING f

theorem Dev.rd_atBody_off (q : Rcp) {f : Fld} (h : offHeard f = true) (n : Nat) : (d.atBody q).rd f n = d.rd f n := by
  unfold offHeard at h
  simp only [Bool.and_eq_true] at h
  exact Dev.rd_atBody _ _ _ _ h.1.1 h.1.2 h.2

theorem Dev.rd_atUpdate (q : Rcp) {f : Fld} (h : offHeard f = true) (n : Nat) : (d.atUpdate q).rd f n = d.rd f n :=
  (Dev.atUpdate_eq (fun e => e.rd f n) (fun _ _ => rfl) d q).trans (Dev.rd_atBody_off q h n)

theorem Dev.on_atUpdate (q : Rcp) {f : Fld} (h : offHeard f = true) (n : Nat) : (d.atUpdate q).on f n = d.on f n := by
  rw [Dev.on, Dev.rd_atUpdate q h]; rfl

theorem Dev.upd_atUpdate (q : Rcp) : (d.atUpdate q).upd = d.upd := Dev.rd_atUpdate q (by decide) 0

theorem Dev.rst_atUpdate (q : Rcp) : (d.atUpdate q).rst = d.rst :=
  (Dev.atUpdate_eq Dev.rst (fun _ _ => rfl) d q).trans (Dev.rst_atBody d q)

theorem Dev.slot_atUpdate (q : Rcp) (k : Nat) : (d.atUpdate q).slot k = d.slot k := by
  rw [Dev.atUpdate_eq (fun e => e.slot k) (fun _ _ => rfl), Dev.slot, Dev.sec_atBody]; rfl

theorem Dev.boot_atUpdate (q : Rcp) : (d.atUpdate q).boot = d.boot := by
  rw [Dev.atUpdate_eq Dev.boot (fun _ _ => rfl), Dev.boot, Dev.sec_atBody]; rfl

theorem Dev.arc_atUpdate (q : Rcp) : (d.atUpdate q).sec.arc = d.sec.arc := by
  rw [Dev.atUpdate_eq (fun e => e.sec.arc) (fun _ _ => rfl), Dev.sec_atBody]

theorem Dev.running_atUpdate (q : Rcp) : (d.atUpdate q).sec.running = d.sec.running := by
  rw [Dev.atUpdate_eq (fun e => e.sec.running) (fun _ _ => rfl), Dev.sec_atBody]

theorem Dev.targetSlot_atUpdate (q : Rcp) : (d.atUpdate q).targetSlot = d.targetSlot := by
  unfold Dev.targetSlot; rw [Dev.rst_atUpdate, Dev.boot_atUpdate, Dev.running_atUpdate]

theorem Dev.manifest_atUpdate (q : Rcp) (k : Nat) : (d.atUpdate q).manifest k = d.manifest k := by
  unfold Dev.manifest; rw [Dev.slot_atUpdate]

theorem Dev.acceptable_atUpdate (q : Rcp) (factory : Bool) (m : Nat) : (d.atUpdate q).acceptable factory m = d.acceptable factory m := by
  unfold Dev.acceptable Dev.ownerSigned
  rw [Dev.rd_atUpdate q (by decide), Dev.on_atUpdate q (by decide), Dev.on_atUpdate q (by decide), Dev.on_atUpdate q (by decide), Dev.on_atUpdate q (by decide)]

theorem Dev.imagesOk_atUpdate (q : Rcp) (k : Nat) : (d.atUpdate q).imagesOk k = d.imagesOk k := by
  unfold Dev.imagesOk; rw [Dev.slot_atUpdate, Dev.manifest_atUpdate]

theorem Dev.updateWho_atBody (q : Rcp) (w : Who) : (d.atBody q).updateWho w = d.updateWho w := by
  unfold Dev.updateWho Dev.upd Dev.pwrWarn
  rw [Dev.rd_atBody_off q (by decide), Dev.rd_atBody_off q (by decide), Dev.rd_atBody_off q (by decide), Dev.pwr_atBody]

/-- A field of firmware reads the same after the answer. -/
theorem Dev.upd_answer (q : Rcp) (r : Reply) : (d.answer q r).upd = d.upd := Dev.rd_answer _ _ _ _ _ (by decide) (by decide)

theorem Dev.slot_answer (q : Rcp) (r : Reply) (k : Nat) : (d.answer q r).slot k = d.slot k := by unfold Dev.slot; rw [Dev.sec_answer]

theorem Dev.targetSlot_congr {e : Dev} (hrst : d.rst.recovery = e.rst.recovery) (hrun : d.sec.running = e.sec.running) (hboot : d.boot = e.boot) :
    d.targetSlot = e.targetSlot := by
  unfold Dev.targetSlot; rw [hrst, hrun, hboot]

theorem Dev.slot_setSlot_same (k : Nat) (f : ImgSlot → ImgSlot) : (d.setSlot k f).slot k = f (d.slot k) := by
  unfold Dev.setSlot Dev.slot; exact nget_nput_same ..

/-- The target slot (R458). -/
def Dev.target (d : Dev) : ImgSlot := d.slot d.targetSlot

theorem Dev.target_wr (f : Fld) (n v : Nat) : (d.wr f n v).target = d.target := by
  unfold Dev.target Dev.slot
  rw [Dev.targetSlot_congr (e := d) (by rw [Dev.wr_rst]) (by rw [Dev.wr_sec]) (by unfold Dev.boot; rw [Dev.wr_sec]), Dev.wr_sec]

theorem Dev.target_answer (q : Rcp) (r : Reply) : (d.answer q r).target = d.target := by
  unfold Dev.target Dev.slot
  rw [Dev.targetSlot_congr (e := d) (by rw [Dev.rst_answer]) (by rw [Dev.sec_answer]) (by unfold Dev.boot; rw [Dev.sec_answer]), Dev.sec_answer]

theorem Dev.target_atUpdate (q : Rcp) : (d.atUpdate q).target = d.target := by
  unfold Dev.target; rw [Dev.targetSlot_atUpdate, Dev.slot_atUpdate]

theorem Dev.target_setSlot (f : ImgSlot → ImgSlot) : (d.setSlot d.targetSlot f).target = f d.target := by
  have h : (d.setSlot d.targetSlot f).targetSlot = d.targetSlot := (rfl)
  unfold Dev.target; rw [h, Dev.slot_setSlot_same]

theorem Dev.target_setSec {f : SecSt → SecSt} (hslots : ∀ x, (f x).slots = x.slots) (hrun : ∀ x, (f x).running = x.running)
    (hboot0 : ∀ x, (f x).boot0 = x.boot0) (hboot1 : ∀ x, (f x).boot1 = x.boot1) : (d.setSec f).target = d.target := by
  unfold Dev.target Dev.slot Dev.targetSlot Dev.boot Dev.setSec
  dsimp only
  rw [hslots, hrun, hboot0, hboot1]

/-! ## Update commands -/

theorem Dev.updateCmd_eq {q : Rcp} {k : Nat} (hk : 1 ≤ k ∧ k ≤ 8) (hwho : d.updateWho (d.asker q) = none) :
    (d.atBody q).updateCmd (d.asker q) (k * 2 ^ 24) =
      (if k = 1 then (d.atUpdate q).updateBegin (d.asker q)
       else if k = 2 then (d.atUpdate q).updateEnd
       else if k = 3 then (d.atUpdate q).updateAbort
       else if k = 4 then (d.atUpdate q).activateInService
       else if k = 5 then (d.atUpdate q).activateRestart
       else if k = 6 then (if d.upd = Upd.TRIAL then ((d.atUpdate q).accept, St.OK) else (d.atUpdate q, St.STATE))
       else if k = 7 then (if d.upd = Upd.TRIAL then ((d.atUpdate q).reject, St.OK) else (d.atUpdate q, St.STATE))
       else ((d.atUpdate q).recover, St.OK)) := by
  have hcmd : bitsOf (k * 2 ^ 24) 24 8 = k := by unfold bitsOf; omega
  have hform : ¬ (k * 2 ^ 24 % 2 ^ 24 ≠ 0 ∨ k = 0 ∨ 8 < k) := by omega
  simp only [Dev.updateCmd, hcmd, if_neg hform, Dev.updateWho_atBody, hwho]
  rw [← Dev.atUpdate, Dev.upd_atUpdate]

/-! ## The obligation's clauses -/

section

variable {s : State} {q : Rcp} (hwho : s.dev.updateWho (s.dev.asker q) = none)
include hwho

theorem completes_updateBegin (hgrant : s.dev.grants q 0x0300 2 ⟨4, 2 ^ 24⟩ = true) (hidle : s.dev.upd = Upd.IDLE) (hrec : s.dev.rst.recovery = false) :
    Completes (.updateBegin q) s (fun t => t.dev.answered q St.OK = true ∧ t.dev.upd = Upd.RECEIVING ∧
      t.dev.rd D.Upd.UPDATE_HOLDER 0 = q.session % 2 ^ 32 ∧ t.dev.target = {}) := by
  have hcmd := Dev.updateCmd_eq (k := 1) (by decide) hwho
  rw [if_pos rfl, Dev.updateBegin, Dev.upd_atUpdate, Dev.rst_atUpdate, hidle, hrec, if_neg (by decide), if_neg (by decide)] at hcmd
  have sec : ∀ (e : Dev) (f : Fld) n t, (e.setSec (fun x => { x with heardAt := t })).rd f n = e.rd f n := fun _ _ _ _ => (rfl)
  refine completes_serveWrite (act := fun w d => d.updateCmd w (1 * 2 ^ 24)) rfl hgrant hcmd (by decide) ⟨Dev.answered_ok _, ?_, ?_, ?_⟩
  · rw [Dev.upd_answer, Dev.upd, sec, Dev.rd_wr_apart _ _ _ _ _ _ (by decide), Dev.updTo, Dev.rd_wr_same]; rfl
  · rw [Dev.rd_answer _ _ _ _ _ (by decide) (by decide), sec, Dev.rd_wr_same]; rfl
  · rw [Dev.target_answer, Dev.target_setSec (by intro; rfl) (by intro; rfl) (by intro; rfl) (by intro; rfl), Dev.target_wr, Dev.updTo, Dev.target_wr,
      Dev.target_setSlot]

theorem completes_updateEnd (hgrant : s.dev.grants q 0x0300 2 ⟨4, 2 * 2 ^ 24⟩ = true) (hrecv : s.dev.upd = Upd.RECEIVING)
    (himages : s.dev.imagesOk s.dev.targetSlot = true) :
    Completes (.updateEnd q) s (fun t => t.dev.answered q St.OK = true ∧ t.dev.upd = Upd.IDLE ∧ t.dev.target.state = ImgState.READY ∧
      t.dev.target.manifest = s.dev.target.manifest) := by
  have hcmd := Dev.updateCmd_eq (k := 2) (by decide) hwho
  have hready : ¬ ((s.dev.atUpdate q).upd ≠ Upd.RECEIVING ∨ (s.dev.atUpdate q).imagesOk (s.dev.atUpdate q).targetSlot = false) := by
    rw [Dev.upd_atUpdate, Dev.targetSlot_atUpdate, Dev.imagesOk_atUpdate, hrecv, himages]; decide
  rw [if_neg (by decide), if_pos rfl, Dev.updateEnd, if_neg hready] at hcmd
  refine completes_serveWrite (act := fun w d => d.updateCmd w (2 * 2 ^ 24)) rfl hgrant hcmd (by decide) ⟨Dev.answered_ok _, ?_, ?_⟩
  · rw [Dev.upd_answer, Dev.upd, Dev.rd_wr_apart _ _ _ _ _ _ (by decide), Dev.updTo, Dev.rd_wr_same]; rfl
  · rw [Dev.target_answer, Dev.target_wr, Dev.updTo, Dev.target_wr, Dev.target_setSlot, Dev.target_atUpdate]; exact ⟨rfl, rfl⟩

end

theorem Dev.upd_updateDrop : d.updateDrop.upd = Upd.IDLE := by
  rw [Dev.updateDrop, Dev.upd, Dev.rd_wr_apart _ _ _ _ _ _ (by decide), Dev.rd_wr_same]; rfl

theorem Dev.target_updateDrop : d.updateDrop.target = {} := by
  rw [Dev.updateDrop, Dev.target_wr, Dev.target_wr, Dev.target_setSlot]

theorem completes_updateAbort {s : State} {q : Rcp} (hwho : s.dev.updateWho (s.dev.asker q) = none)
    (hgrant : s.dev.grants q 0x0300 2 ⟨4, 3 * 2 ^ 24⟩ = true) (hrecv : s.dev.upd = Upd.RECEIVING) :
    Completes (.updateAbort q) s (fun t => t.dev.answered q St.OK = true ∧ t.dev.upd = Upd.IDLE ∧ t.dev.target = {}) := by
  have hcmd := Dev.updateCmd_eq (k := 3) (by decide) hwho
  rw [if_neg (by decide), if_neg (by decide), if_pos rfl, Dev.updateAbort, Dev.upd_atUpdate, hrecv, if_pos rfl] at hcmd
  refine completes_serveWrite (act := fun w d => d.updateCmd w (3 * 2 ^ 24)) rfl hgrant hcmd (by decide) ⟨Dev.answered_ok _, ?_, ?_⟩
  · rw [Dev.upd_answer, Dev.upd_updateDrop]
  · rw [Dev.target_answer, Dev.target_updateDrop]

theorem completes_updateIdleExpiry {s : State} {dt : Nat} (hrecv : s.dev.upd = Upd.RECEIVING)
    (hpast : (s.dev.elapse dt).past s.dev.sec.heardAt (s.dev.rd D.Upd.UPDATE_IDLE_S 0 * 1000000000) = true) :
    Completes (.updateIdleExpiry dt) s (fun t => t.dev.upd = Upd.IDLE ∧ t.dev.target = {} ∧ t.dev.rd D.Upd.UPDATE_HOLDER 0 = 0) := by
  have hdue : (s.dev.elapse dt).upd = Upd.RECEIVING ∧
      (s.dev.elapse dt).past (s.dev.elapse dt).sec.heardAt ((s.dev.elapse dt).rd D.Upd.UPDATE_IDLE_S 0 * 1000000000) = true := ⟨hrecv, hpast⟩
  refine ⟨_, rfl, ?_⟩
  simp only [if_pos hdue]
  exact ⟨Dev.upd_updateDrop, Dev.target_updateDrop, by rw [Dev.updateDrop, Dev.rd_wr_same]; rfl⟩

/-! ## Manifests and images -/

/-- The outcome of a manifest of the right form and security version: its acceptance alone (Table 16.13). -/
theorem Dev.manifestCheck_of_form {v : Nat} (hform : manifestForm v = true) (harc : d.sec.arc ≤ manSvn v) :
    d.manifestCheck ⟨6976, v⟩ = if d.acceptable false v = true then St.OK else St.AUTH := by
  have hlen : ¬ ((6976 : Nat) ≠ 6976 ∨ manifestForm v = false) := by rw [hform]; decide
  rw [Dev.manifestCheck, if_neg hlen, if_neg (not_lt.mpr harc)]
  cases d.acceptable false v <;> rfl

theorem completes_manifestIn {s : State} {q : Rcp} {v : Nat} (hgrant : s.dev.grantsDom q 0x0300 6 0 ⟨6976, v⟩ = true)
    (hwho : s.dev.updateWho (s.dev.asker q) = none) (hrecv : s.dev.upd = Upd.RECEIVING) (hform : manifestForm v = true)
    (harc : s.dev.sec.arc ≤ manSvn v) :
    Completes (.manifestIn q v) s (fun t => t.dev.answered q (if s.dev.acceptable false v = true then St.OK else St.AUTH) = true ∧
      t.dev.rd D.Upd.LAST_RESULT 0 = (if s.dev.acceptable false v = true then St.OK else St.AUTH) ∧
      t.dev.target.manifest = (if s.dev.acceptable false v = true then some v else s.dev.target.manifest)) := by
  have hcheck : (s.dev.atUpdate q).manifestCheck ⟨6976, v⟩ = if s.dev.acceptable false v = true then St.OK else St.AUTH := by
    rw [Dev.manifestCheck_of_form hform (by rw [Dev.arc_atUpdate]; exact harc), Dev.acceptable_atUpdate]
  have hin : (s.dev.atBody q).manifestIn (s.dev.asker q) ⟨6976, v⟩ =
      (if (if s.dev.acceptable false v = true then St.OK else St.AUTH) = St.OK then (s.dev.atUpdate q).keepManifest v else s.dev.atUpdate q).result
        (if s.dev.acceptable false v = true then St.OK else St.AUTH) := by
    simp only [Dev.manifestIn, Dev.updateWho_atBody, hwho]
    rw [← Dev.atUpdate, Dev.upd_atUpdate, hcheck, hrecv, if_pos rfl]
  cases hok : s.dev.acceptable false v <;> simp only [hok, if_true, Bool.false_eq_true, if_false] at hin ⊢
  · rw [if_neg (by decide)] at hin
    refine completes_serveDom (act := fun w d => d.manifestIn w ⟨6976, v⟩) rfl hgrant hin (by decide) ⟨Dev.answered_refused _ _ _ (by decide), ?_, ?_⟩
    · rw [Dev.rd_answer _ _ _ _ _ (by decide) (by decide), Dev.rd_wr_same]; rfl
    · rw [Dev.target_answer, Dev.target_wr, Dev.target_atUpdate]
  · refine completes_serveDom (act := fun w d => d.manifestIn w ⟨6976, v⟩) rfl hgrant hin (by decide) ⟨Dev.answered_ok _, ?_, ?_⟩
    · rw [Dev.rd_answer _ _ _ _ _ (by decide) (by decide), Dev.rd_wr_same]; rfl
    · rw [Dev.target_answer, Dev.target_wr, Dev.keepManifest, Dev.target_setSlot]

theorem completes_imageWrite {s : State} {q : Rcp} {kind m : Nat} {v : Bytes} (hgrant : s.dev.grantsDom q 0x0301 kind 0 v = true)
    (hwho : s.dev.updateWho (s.dev.asker q) = none) (hrecv : s.dev.upd = Upd.RECEIVING) (hm : s.dev.target.manifest = some m)
    (hlen : v.len = imgField m (kind - 1) 20 4) :
    Completes (.imageWrite q kind v) s (fun t =>
      t.dev.answered q (if digest v.len v.val = imgField m (kind - 1) 32 32 then St.OK else St.AUTH) = true ∧
      t.dev.target.images.contains (kind, v) =
        (s.dev.target.images.contains (kind, v) || decide (digest v.len v.val = imgField m (kind - 1) 32 32))) := by
  have hm' : ((s.dev.atUpdate q).slot (s.dev.atUpdate q).targetSlot).manifest = some m := by
    rw [← hm, ← Dev.target_atUpdate q]; rfl
  by_cases hok : digest v.len v.val = imgField m (kind - 1) 32 32
  · have hin : (s.dev.atBody q).imageIn (s.dev.asker q) kind v = ((s.dev.atUpdate q).setSlot (s.dev.atUpdate q).targetSlot (fun x =>
        { x with images := x.images.filter (fun (g : Nat × Bytes) => g.1 != kind) ++ [(kind, v)] })).result St.OK := by
      simp only [Dev.imageIn, Dev.updateWho_atBody, hwho]
      rw [← Dev.atUpdate, Dev.upd_atUpdate, hrecv, if_neg (by decide), hm']
      simp only [hlen, ne_eq, not_true, if_false, ← hok]
    refine completes_serveDom (act := fun w d => d.imageIn w kind v) rfl hgrant hin (by decide) ⟨?_, ?_⟩
    · rw [if_pos hok]; exact Dev.answered_ok _
    · rw [Dev.target_answer, Dev.target_wr, Dev.target_setSlot]; simp [hok]
  · have hin : (s.dev.atBody q).imageIn (s.dev.asker q) kind v = (s.dev.atUpdate q).result St.AUTH := by
      simp only [Dev.imageIn, Dev.updateWho_atBody, hwho]
      rw [← Dev.atUpdate, Dev.upd_atUpdate, hrecv, if_neg (by decide), hm']
      simp only [hlen, ne_eq, not_true, if_false]
      rw [← hlen, if_pos hok]
    refine completes_serveDom (act := fun w d => d.imageIn w kind v) rfl hgrant hin (by decide) ⟨?_, ?_⟩
    · rw [if_neg hok]; exact Dev.answered_refused _ _ _ (by decide)
    · rw [Dev.target_answer, Dev.target_wr, Dev.target_atUpdate]; simp [hok]

/-! ## Recovery -/

theorem completes_recoveryIntervalEnd {s : State} {dt m : Nat} {c : Candidate} (hreset : s.dev.inReset = false) (hrec : s.dev.rst.recovery = true)
    (hpast : (s.dev.elapse dt).past s.dev.sec.intervalAt 1000000000 = true) (hidle : s.dev.upd = Upd.IDLE)
    (hbest : bestCandidate s.dev.sec.candidates s.dev.sec.intervalAt = some (c, m)) :
    Completes (.recoveryIntervalEnd dt) s (fun t => t.dev.upd = Upd.RECEIVING ∧ t.dev.rd D.Upd.UPDATE_HOLDER 0 = c.session % 2 ^ 32 ∧
      t.dev.target.manifest = some m) := by
  have hmay : ¬ ((s.dev.elapse dt).inReset = true ∨ (s.dev.elapse dt).rst.recovery = false ∨
      (!(s.dev.elapse dt).past (s.dev.elapse dt).sec.intervalAt 1000000000) = true) := by
    rintro (h | h | h)
    · rw [Dev.inReset_elapse, hreset] at h; cases h
    · exact absurd (h.symm.trans hrec) (by decide)
    · rw [Dev.elapse_sec, hpast] at h; cases h
  have hidle' : ∀ t, ¬ ((s.dev.elapse dt).setSec (fun x => { x with intervalAt := t })).upd ≠ Upd.IDLE := fun _ h => h hidle
  have hbest' : ∀ t, bestCandidate ((s.dev.elapse dt).setSec (fun x => { x with intervalAt := t })).sec.candidates
      (s.dev.elapse dt).sec.intervalAt = some (c, m) := fun _ => hbest
  refine ⟨_, rfl, ?_⟩
  simp only [if_neg hmay, if_neg (hidle' _), hbest']
  refine ⟨?_, ?_, ?_⟩
  · rw [Dev.upd, Dev.rd_wr_apart _ _ _ _ _ _ (by decide), Dev.updTo, Dev.rd_wr_same]; rfl
  · rw [Dev.rd_wr_same]; rfl
  · rw [Dev.target_wr, Dev.updTo, Dev.target_wr, Dev.target_setSec (by intro; rfl) (by intro; rfl) (by intro; rfl) (by intro; rfl), Dev.keepManifest,
      Dev.target_setSlot]

/-- Settles O47: every clause is what its command does to the target slot and the update's fields, read back behind the answer. -/
theorem updateSessionsComplete : Obligations.UpdateSessionsComplete := by
  unfold Obligations.UpdateSessionsComplete
  refine ⟨?_, ?_, ?_, ?_, ?_, ?_, ?_⟩
  · intro s q hgrant hwho hidle hrec
    exact completes_updateBegin hwho hgrant hidle hrec
  · intro s q v hgrant hwho hrecv hform harc
    exact completes_manifestIn hgrant hwho hrecv hform harc
  · intro s q kind m v hgrant hwho hrecv hm hlen
    exact completes_imageWrite hgrant hwho hrecv hm hlen
  · intro s q hgrant hwho hrecv himages
    exact completes_updateEnd hwho hgrant hrecv himages
  · intro s q hgrant hwho hrecv
    exact completes_updateAbort hwho hgrant hrecv
  · intro s dt hrecv hpast
    exact completes_updateIdleExpiry hrecv hpast
  · intro s dt m c hreset hrec hpast hidle hbest
    exact completes_recoveryIntervalEnd hreset hrec hpast hidle hbest

end Sys2Proof.Machine
end

section
/-! Obligations of 16_security_firmware.md: activation, trial, acceptance and fallback (R459, R461 to R468, R471). -/

namespace Sys2Proof.Machine
open Sys2Proof

variable {d : Dev}

/-! ## A reset that is asked for -/

/-- What reads the same on both branches reads the same. -/
theorem Dev.ite_eq {α : Type} (φ : Dev → α) {p : Prop} [Decidable p] {a b : Dev} {x : α} (ha : φ a = x) (hb : φ b = x) : φ (if p then a else b) = x := by
  split
  · exact ha
  · exact hb

/-- The fields that show an output's safe state, and that count it (Tables 05.11, 06.20). -/
def safeFields : List Fld :=
  [D.FlowStatus.SAFE, D.SdiTxStatus.SAFE, D.SdiTxStatus.SAFE_HOLD, D.NetTxStatus.SAFE, D.NetTxStatus.SAFE_HOLD, D.SdiTxCounters.SAFE_ENTRIES,
    D.NetTxCounters.SAFE_ENTRIES]

/-- An output that enters safe state writes these fields and its hold state, and nothing else. -/
theorem Dev.safeNow_eq {α : Type} (φ : Dev → α) (hwr : ∀ (e : Dev) f n v, f ∈ safeFields → φ (e.wr f n v) = φ e)
    (hhold : ∀ (e : Dev) h, φ { e with hold := h } = φ e) (d : Dev) (c : Nat) : φ (d.safeNow c) = φ d := by
  have hcount : φ (d.countSafe c) = φ d :=
    Dev.ite_eq φ (Dev.each_eq φ (fun e n => hwr e _ n _ (by decide)) _ _) (Dev.ite_eq φ (hwr _ _ _ _ (by decide)) rfl)
  have hflag : ∀ (e : Dev) f f' n, f ∈ safeFields → f' ∈ safeFields →
      φ (if true then e.flag f n true else (e.flag f n true).flag f' n false) = φ e := fun e f f' n hf hf' =>
    Dev.ite_eq φ (hwr _ _ _ _ hf) ((hwr _ _ _ _ hf').trans (hwr _ _ _ _ hf))
  have hshow : ∀ e : Dev, φ (e.showSafe c true) = φ e := fun e =>
    Dev.ite_eq φ ((Dev.each_eq φ (fun e n => hflag e _ _ n (by decide) (by decide)) _ _).trans (hwr _ _ _ _ (by decide)))
      (Dev.ite_eq φ ((hflag _ _ _ _ (by decide) (by decide)).trans (hwr _ _ _ _ (by decide))) (hwr _ _ _ _ (by decide)))
  exact Dev.ite_eq φ rfl ((hhold ..).trans ((hshow _).trans hcount))

/-- A reset asked for waits behind those that are in their entry delay (R494). -/
theorem Dev.rst_request (reach src detail dom inst : Nat) : (d.request reach src detail dom inst).rst =
    { d.rst with entering := d.rst.entering ++ [⟨reach, src, detail, dom, inst, d.now, d.wall, 0⟩] } := by
  unfold Dev.request; dsimp only; split
  · exact Dev.each_eq Dev.rst (fun e c => Dev.safeNow_eq Dev.rst (fun _ _ _ _ _ => Dev.wr_rst ..) (fun _ _ => rfl) e c) _ _
  · rfl

/-- A DOMAIN reset asked for changes nothing else. -/
theorem Dev.request_domain {α : Type} (φ : Dev → α) (h : ∀ (e : Dev) r, φ { e with rst := r } = φ e) (d : Dev) (src detail dom inst : Nat) :
    φ (d.request Reach.DOMAIN src detail dom inst) = φ d := by
  rw [Dev.request, if_neg (by decide)]; exact h ..

/-! ## What the steps of firmware leave of the security state -/

theorem Dev.sec_writeSettings (slot : Nat) (v : Settings) : (d.writeSettings slot v).sec = d.sec := (rfl)
theorem Dev.sec_fwEvent (what slot : Nat) : (d.fwEvent what slot).sec = d.sec := (rfl)
theorem Dev.sec_updTo (st : Nat) : (d.updTo st).sec = d.sec := Dev.wr_sec ..
theorem Dev.sec_showBoot : d.showBoot.sec = d.sec := by rw [Dev.showBoot, Dev.wr_sec, Dev.wr_sec]
theorem Dev.sec_setSec (f : SecSt → SecSt) : (d.setSec f).sec = f d.sec := (rfl)
theorem Dev.sec_eraseJournal : d.eraseJournal.sec = d.sec := Dev.wr_sec ..

theorem Dev.sec_compact : d.compact.sec = d.sec := by
  have flash : ∀ (e : Dev) x, ({ e with flash := x } : Dev).sec = e.sec := fun _ _ => rfl
  rw [Dev.compact, Dev.wr_sec, flash, Dev.sec_writeSettings]

theorem Dev.sec_newSettings (old new : Nat) : (d.newSettings old new).sec = d.sec := by
  have raise : ∀ (e : Dev) a b, (e.raise a b).sec = e.sec := fun _ _ _ => (rfl)
  unfold Dev.newSettings Dev.flag; dsimp only; split
  · rw [Dev.wr_sec, Dev.sec_writeSettings]
  · rw [raise, Dev.wr_sec, Dev.sec_writeSettings]

theorem Dev.sec_setMgNet (m : MgNet) : (d.setMgNet m).sec = d.sec := by
  rw [Dev.setMgNet, Dev.wr_sec, Dev.setEnt_sec, Dev.setEnt_sec, Dev.wr_sec]

theorem Dev.sec_showOwner (r : OwnerRec) : (d.showOwner r).sec = d.sec := by
  rw [Dev.showOwner, Dev.wr_sec, Dev.setEnt_sec, Dev.wr_sec, Dev.wr_sec]

theorem Dev.sec_loadSettings (slot : Nat) : (d.loadSettings slot).sec = d.sec := by
  have dict : ∀ (e : Dev) x, ({ e with dict := x } : Dev).sec = e.sec := fun _ _ => rfl
  unfold Dev.loadSettings; dsimp only
  split
  · rw [Dev.sec_showOwner, dict, Dev.sec_setMgNet, Dev.wr_sec, dict]
  · rw [dict, Dev.sec_setMgNet, Dev.wr_sec, dict]

theorem Dev.sec_modesBack (o : Dev) : (Dev.modesBack o d).sec = d.sec :=
  Dev.each_eq Dev.sec (fun _ _ => Dev.setEnt_sec ..) _ _

theorem Dev.sec_fallbackCounts (slot : Nat) : (d.fallbackCounts slot).sec = d.sec := by
  have raise : ∀ (e : Dev) a b, (e.raise a b).sec = e.sec := fun _ _ _ => (rfl)
  rw [Dev.fallbackCounts, Dev.sec_fwEvent, raise, Dev.add, Dev.wr_sec]

/-! ## Boot control (R438) -/

/-- The copy that was written is the one in force. -/
theorem Dev.boot_writeBoot (f : BootRec → BootRec) : ∃ g, (d.writeBoot f).boot = { f d.boot with valid := true, gen := g } := by
  refine ⟨max (if d.sec.boot0.valid then d.sec.boot0.gen else 0) (if d.sec.boot1.valid then d.sec.boot1.gen else 0) + 1, ?_⟩
  unfold Dev.writeBoot
  cases ha : d.sec.boot0.valid <;> cases hb : d.sec.boot1.valid <;> by_cases hle : d.sec.boot0.gen ≤ d.sec.boot1.gen <;>
    simp [Dev.boot, Dev.setSec, ha, hb, hle]

/-- Boot control and what its writes do not touch. -/
theorem Dev.writeBoot_eq {α : Type} (φ : Dev → α) (h0 : ∀ (e : Dev) r, φ (e.setSec (fun x => { x with boot0 := r })) = φ e)
    (h1 : ∀ (e : Dev) r, φ (e.setSec (fun x => { x with boot1 := r })) = φ e) (d : Dev) (f : BootRec → BootRec) : φ (d.writeBoot f) = φ d := by
  unfold Dev.writeBoot; dsimp only; split
  · exact h0 ..
  · exact h1 ..

theorem Dev.boot_congr {e : Dev} (h0 : d.sec.boot0 = e.sec.boot0) (h1 : d.sec.boot1 = e.sec.boot1) : d.boot = e.boot := by
  unfold Dev.boot; rw [h0, h1]

theorem Dev.boot_answer (q : Rcp) (r : Reply) : (d.answer q r).boot = d.boot :=
  Dev.boot_congr (by rw [Dev.sec_answer]) (by rw [Dev.sec_answer])

/-! ## The check of an activation (Table 16.13) -/

theorem Dev.manifest_congr {e : Dev} (h : d.sec.slots = e.sec.slots) (k : Nat) : d.manifest k = e.manifest k := by
  unfold Dev.manifest Dev.slot; rw [h]

theorem Dev.kindsToDo_congr {e : Dev} (h : d.sec.slots = e.sec.slots) (hsource : d.sec.source = e.sec.source) (k : Nat) :
    d.kindsToDo k = e.kindsToDo k := by
  unfold Dev.kindsToDo Dev.imgDigest; simp only [Dev.manifest_congr h, hsource]

theorem Dev.compatible_congr {e : Dev} (h : d.sec.slots = e.sec.slots) (l : List Nat) : d.compatible l = e.compatible l := by
  unfold Dev.compatible; simp only [Dev.manifest_congr h]

theorem Dev.slots_atUpdate (q : Rcp) : (d.atUpdate q).sec.slots = d.sec.slots := by
  rw [Dev.atUpdate_eq (fun e => e.sec.slots) (fun _ _ => rfl), Dev.sec_atBody]

theorem Dev.source_atUpdate (q : Rcp) : (d.atUpdate q).sec.source = d.sec.source := by
  rw [Dev.atUpdate_eq (fun e => e.sec.source) (fun _ _ => rfl), Dev.sec_atBody]

theorem Dev.group_atUpdate (q : Rcp) : (d.atUpdate q).rcp.group = d.rcp.group := by
  rw [Dev.atUpdate_eq (fun e => e.rcp.group) (fun _ _ => rfl)]
  have hconfirm : ∀ e : Dev, e.confirmMg.rcp.group = e.rcp.group := fun e => by
    unfold Dev.confirmMg; split
    · rw [Dev.rcp_flag, Dev.rcp_flag]
    · rfl
  unfold Dev.atBody Dev.heard; split
  · rw [Dev.rcp_mgRx, Dev.elapse_rcp]
  · have hsession : ∀ (e : Dev) id f, (e.setSession id f).rcp.group = e.rcp.group := fun _ _ _ => (rfl)
    rw [hconfirm, Dev.rcp_mgAccept, hsession, Dev.rcp_mgRx, Dev.elapse_rcp]

theorem Dev.activateCheck_atUpdate (q : Rcp) (inService : Bool) : (d.atUpdate q).activateCheck inService = d.activateCheck inService := by
  have hslots := Dev.slots_atUpdate (d := d) q
  unfold Dev.activateCheck Dev.rolledBack Dev.runFormat
  simp only [Dev.targetSlot_atUpdate, Dev.slot_atUpdate, Dev.manifest_atUpdate, Dev.group_atUpdate, Dev.acceptable_atUpdate, Dev.imagesOk_atUpdate,
    Dev.arc_atUpdate, Dev.source_atUpdate, Dev.compatible_congr hslots, Dev.kindsToDo_congr hslots (Dev.source_atUpdate q)]

theorem Dev.activateCheck_lt (inService : Bool) : d.activateCheck inService < 0x100 := by
  unfold Dev.activateCheck; dsimp only; split_ifs <;> decide

/-! ## Activation -/

theorem Dev.upd_updTo {st : Nat} (h : st < 256) : (d.updTo st).upd = st := by
  rw [Dev.upd, Dev.updTo, Dev.rd_wr_same]; exact Nat.mod_eq_of_lt h

theorem Dev.upd_showBoot : d.showBoot.upd = d.upd := by
  rw [Dev.upd, Dev.showBoot, Dev.rd_wr_apart _ _ _ _ _ _ (by decide), Dev.rd_wr_apart _ _ _ _ _ _ (by decide)]; rfl

/-- The requests of an activation step, each a DOMAIN reset, reach the resets alone. -/
theorem Dev.requests_eq {α : Type} (φ : Dev → α) (h : ∀ (e : Dev) r, φ { e with rst := r } = φ e) (d : Dev) (l : List Nat) :
    φ (d.each l (fun d m => d.request Reach.DOMAIN 0x09 0 m 0)) = φ d :=
  Dev.each_eq φ (fun e m => Dev.request_domain φ h e 0x09 0 m 0) d l

/-- The next image is replaced, or with none left the trial starts (R462). -/
theorem Dev.upd_nextStep : d.nextStep.upd = if d.sec.todo = [] then Upd.TRIAL else d.upd := by
  unfold Dev.nextStep
  cases d.sec.todo with
  | nil => exact Dev.upd_updTo (by decide)
  | cons k l =>
    rw [if_neg (by simp)]
    refine (Dev.requests_eq Dev.upd (fun _ _ => rfl) _ _).trans ?_
    split <;> rfl

/-- The images replaced and where each runs from. -/
def Dev.runParts (d : Dev) : List Nat × List Nat := (d.sec.steps, d.sec.source)

theorem Dev.runParts_nextStep : d.nextStep.runParts = d.runParts := by
  unfold Dev.nextStep
  cases d.sec.todo with
  | nil => unfold Dev.runParts; rw [Dev.sec_updTo]; rfl
  | cons k l =>
    refine (Dev.requests_eq Dev.runParts (fun _ _ => rfl) _ _).trans ?_
    split <;> rfl

theorem Dev.lastResult_result {st : Nat} (h : st < 256) (q : Rcp) (r : Reply) :
    ((d.wr D.Upd.LAST_RESULT 0 st).answer q r).rd D.Upd.LAST_RESULT 0 = st := by
  rw [Dev.rd_answer _ _ _ _ _ (by decide) (by decide), Dev.rd_wr_same]; exact Nat.mod_eq_of_lt h

theorem Dev.upd_result (st : Nat) (q : Rcp) (r : Reply) : ((d.wr D.Upd.LAST_RESULT 0 st).answer q r).upd = d.upd := by
  rw [Dev.upd_answer, Dev.upd, Dev.rd_wr_apart _ _ _ _ _ _ (by decide)]; rfl

/-- The device whose activation has been accepted, before its first step. -/
def Dev.activating (d : Dev) : Dev :=
  let k := d.targetSlot
  let d := d.compact.newSettings d.settingsSlot k
  let d := d.writeBoot (fun b => { b with trial := k, kind := 1, started := 1 })
  let d := (d.updTo Upd.ACTIVATING).showBoot
  let d := d.setSec (fun x => { x with before := x.source, steps := [], todo := d.kindsToDo k })
  d.fwEvent 1 k

theorem Dev.activateInService_eq (hidle : d.upd = Upd.IDLE) (hrec : d.rst.recovery = false) : d.activateInService =
    if d.activateCheck true = St.OK then d.activating.nextStep.result St.OK else d.result (d.activateCheck true) := by
  rw [Dev.activateInService, if_neg (by rw [hidle, hrec]; decide)]
  by_cases h : d.activateCheck true = St.OK
  · simp only [h, ne_eq, not_true, if_false, if_true]; rfl
  · simp only [h, ne_eq, not_false_eq_true, if_true, if_false]

theorem Dev.todo_activating : d.activating.sec.todo = d.kindsToDo d.targetSlot := by
  have fw : ∀ (e : Dev) a b, (e.fwEvent a b).sec = e.sec := fun _ _ _ => (rfl)
  unfold Dev.activating; dsimp only
  rw [fw, Dev.sec_setSec]
  refine Dev.kindsToDo_congr ?_ ?_ _
  · rw [Dev.sec_showBoot, Dev.sec_updTo, Dev.writeBoot_eq (fun e => e.sec.slots) (fun _ _ => rfl) (fun _ _ => rfl), Dev.sec_newSettings, Dev.sec_compact]
  · rw [Dev.sec_showBoot, Dev.sec_updTo, Dev.writeBoot_eq (fun e => e.sec.source) (fun _ _ => rfl) (fun _ _ => rfl), Dev.sec_newSettings, Dev.sec_compact]

theorem Dev.upd_activating : d.activating.upd = Upd.ACTIVATING := by
  have fw : ∀ (e : Dev) a b f, ((e.setSec f).fwEvent a b).upd = e.upd := fun _ _ _ _ => (rfl)
  unfold Dev.activating; dsimp only
  rw [fw, Dev.upd_showBoot, Dev.upd_updTo (by decide)]

/-- The device armed to restart into the target slot (R461). -/
def Dev.armedRestart (d : Dev) : Dev :=
  let k := d.targetSlot
  ((d.writeBoot (fun b => { b with trial := k, kind := 2, started := 0 })).updTo Upd.ARMED).showBoot.fwEvent 2 k

theorem Dev.activateRestart_eq (hidle : d.upd = Upd.IDLE) (hrec : d.rst.recovery = false) : d.activateRestart =
    if d.activateCheck false = St.OK then d.armedRestart.result St.OK else d.result (d.activateCheck false) := by
  have fw : ∀ (e : Dev) a b, (e.fwEvent a b).rst = e.rst := fun _ _ _ => (rfl)
  have hrst : d.armedRestart.rst = d.rst := by
    rw [Dev.armedRestart, fw, Dev.showBoot, Dev.wr_rst, Dev.wr_rst, Dev.updTo, Dev.wr_rst, Dev.writeBoot_eq Dev.rst (fun _ _ => rfl) (fun _ _ => rfl)]
  rw [Dev.activateRestart, if_neg (by rw [hidle]; decide)]
  by_cases h : d.activateCheck false = St.OK
  · simp only [h, ne_eq, not_true, if_false, if_true]
    rw [← Dev.armedRestart, hrst, hrec, if_neg (by decide)]
  · simp only [h, ne_eq, not_false_eq_true, if_true, if_false]

theorem Dev.upd_armedRestart : d.armedRestart.upd = Upd.ARMED := by
  have fw : ∀ (e : Dev) a b, (e.fwEvent a b).upd = e.upd := fun _ _ _ => (rfl)
  rw [Dev.armedRestart, fw, Dev.upd_showBoot, Dev.upd_updTo (by decide)]

/-! ## Acceptance -/

theorem Dev.upd_accept : d.accept.upd = Upd.IDLE := by
  have fw : ∀ (e : Dev) f a b, ((e.setSec f).fwEvent a b).upd = e.upd := fun _ _ _ _ => (rfl)
  unfold Dev.accept; dsimp only
  rw [fw, Dev.upd_showBoot, Dev.upd_updTo (by decide)]

/-- Only the slots change where slots that lie below the anti-rollback counter become invalid. -/
theorem Dev.invalidate_eq {α : Type} (φ : Dev → α) (h : ∀ (e : Dev) k f, φ (e.setSlot k f) = φ e) (d : Dev) : φ d.invalidate = φ d := by
  refine Dev.each_eq φ (fun e k => ?_) d _
  dsimp only; split
  · exact h ..
  · rfl

/-- Acceptance confirms the trial slot and leaves no trial (R467). -/
theorem Dev.boot_accept : d.accept.boot.confirmed = d.boot.trial ∧ d.accept.boot.trial = 0xFF := by
  have fw : ∀ (e : Dev) k a b, ((e.setSec (fun x => { x with trialKind := k })).fwEvent a b).boot = e.boot := fun _ _ _ _ => (rfl)
  have hwr : ∀ (e : Dev) f n v, (e.wr f n v).boot = e.boot := fun e f n v => Dev.boot_congr (by rw [Dev.wr_sec]) (by rw [Dev.wr_sec])
  have hslot : ∀ (e : Dev) k f, (e.setSlot k f).boot = e.boot := fun _ _ _ => (rfl)
  have hcopy : ∀ (e : Dev) c, (e.setSec (fun x => { x with copying := c })).boot = e.boot := fun _ _ => (rfl)
  have harc : ∀ (e : Dev) a, (e.setSec (fun x => { x with arc := a })).boot = e.boot := fun _ _ => (rfl)
  have hbig : ∀ (p : Bool) (e : Dev), (if p then (e.setSlot 2 (fun x => { x with state := ImgState.WRITING })).setSec (fun x => { x with copying := true })
      else e).boot = e.boot := fun p e => by
    split
    · rw [hcopy, hslot]
    · rfl
  obtain ⟨g, hboot⟩ := Dev.boot_writeBoot (d := d) (fun b => { b with
    confirmed := d.boot.trial, trial := 0xFF, kind := 0, started := 0, arcTarget := max b.arcTarget (max d.sec.arc (min 64 (manSvn (d.manifest d.boot.trial)))) })
  unfold Dev.accept; dsimp only
  rw [fw, Dev.showBoot, hwr, hwr, Dev.updTo, hwr, hbig, Dev.invalidate_eq Dev.boot hslot, hslot, hslot, harc, hboot]
  exact ⟨rfl, rfl⟩

section

variable {s : State} {q : Rcp} (hwho : s.dev.updateWho (s.dev.asker q) = none)
include hwho

theorem completes_activateInService (hgrant : s.dev.grants q 0x0300 2 ⟨4, 4 * 2 ^ 24⟩ = true) (hidle : s.dev.upd = Upd.IDLE)
    (hrec : s.dev.rst.recovery = false) :
    Completes (.activateInService q) s (fun t => t.dev.answered q (s.dev.activateCheck true) = true ∧
      t.dev.upd = (if s.dev.activateCheck true = St.OK then (if s.dev.kindsToDo s.dev.targetSlot = [] then Upd.TRIAL else Upd.ACTIVATING) else Upd.IDLE) ∧
      t.dev.rd D.Upd.LAST_RESULT 0 = s.dev.activateCheck true) := by
  have hcmd := Dev.updateCmd_eq (k := 4) (by decide) hwho
  rw [if_neg (by decide), if_neg (by decide), if_neg (by decide), if_pos rfl,
    Dev.activateInService_eq (by rw [Dev.upd_atUpdate, hidle]) (by rw [Dev.rst_atUpdate, hrec]), Dev.activateCheck_atUpdate] at hcmd
  by_cases hok : s.dev.activateCheck true = St.OK
  · rw [if_pos hok] at hcmd
    rw [hok, if_pos rfl]
    refine completes_serveWrite (act := fun w d => d.updateCmd w (4 * 2 ^ 24)) rfl hgrant hcmd (by decide)
      ⟨Dev.answered_ok _, ?_, Dev.lastResult_result (by decide) _ _⟩
    dsimp only
    rw [Dev.upd_result, Dev.upd_nextStep, Dev.upd_activating, Dev.todo_activating, Dev.targetSlot_atUpdate,
      Dev.kindsToDo_congr (Dev.slots_atUpdate q) (Dev.source_atUpdate q)]
  · rw [if_neg hok] at hcmd
    rw [if_neg hok]
    refine completes_serveWrite (act := fun w d => d.updateCmd w (4 * 2 ^ 24)) rfl hgrant hcmd (Dev.activateCheck_lt _)
      ⟨Dev.answered_refused _ _ _ (Dev.activateCheck_lt _), ?_, Dev.lastResult_result (Dev.activateCheck_lt _) _ _⟩
    dsimp only
    rw [Dev.upd_result, Dev.upd_atUpdate, hidle]

theorem completes_activateRestart (hgrant : s.dev.grants q 0x0300 2 ⟨4, 5 * 2 ^ 24⟩ = true) (hidle : s.dev.upd = Upd.IDLE)
    (hrec : s.dev.rst.recovery = false) :
    Completes (.activateRestart q) s (fun t => t.dev.answered q (s.dev.activateCheck false) = true ∧
      t.dev.upd = (if s.dev.activateCheck false = St.OK then Upd.ARMED else Upd.IDLE) ∧
      t.dev.rd D.Upd.LAST_RESULT 0 = s.dev.activateCheck false) := by
  have hcmd := Dev.updateCmd_eq (k := 5) (by decide) hwho
  rw [if_neg (by decide), if_neg (by decide), if_neg (by decide), if_neg (by decide), if_pos rfl,
    Dev.activateRestart_eq (by rw [Dev.upd_atUpdate, hidle]) (by rw [Dev.rst_atUpdate, hrec]), Dev.activateCheck_atUpdate] at hcmd
  by_cases hok : s.dev.activateCheck false = St.OK
  · rw [if_pos hok] at hcmd
    rw [hok, if_pos rfl]
    refine completes_serveWrite (act := fun w d => d.updateCmd w (5 * 2 ^ 24)) rfl hgrant hcmd (by decide)
      ⟨Dev.answered_ok _, ?_, Dev.lastResult_result (by decide) _ _⟩
    dsimp only
    rw [Dev.upd_result, Dev.upd_armedRestart]
  · rw [if_neg hok] at hcmd
    rw [if_neg hok]
    refine completes_serveWrite (act := fun w d => d.updateCmd w (5 * 2 ^ 24)) rfl hgrant hcmd (Dev.activateCheck_lt _)
      ⟨Dev.answered_refused _ _ _ (Dev.activateCheck_lt _), ?_, Dev.lastResult_result (Dev.activateCheck_lt _) _ _⟩
    dsimp only
    rw [Dev.upd_result, Dev.upd_atUpdate, hidle]

theorem completes_updateAccept (hgrant : s.dev.grants q 0x0300 2 ⟨4, 6 * 2 ^ 24⟩ = true) (htrial : s.dev.upd = Upd.TRIAL) :
    Completes (.updateAccept q) s (fun t => t.dev.answered q St.OK = true ∧ t.dev.upd = Upd.IDLE ∧ t.dev.boot.confirmed = s.dev.boot.trial ∧
      t.dev.boot.trial = 0xFF) := by
  have hcmd := Dev.updateCmd_eq (k := 6) (by decide) hwho
  rw [if_neg (by decide), if_neg (by decide), if_neg (by decide), if_neg (by decide), if_neg (by decide), if_pos rfl, if_pos htrial] at hcmd
  obtain ⟨hconfirmed, htrialSlot⟩ := Dev.boot_accept (d := s.dev.atUpdate q)
  refine completes_serveWrite (act := fun w d => d.updateCmd w (6 * 2 ^ 24)) rfl hgrant hcmd (by decide) ⟨Dev.answered_ok _, ?_, ?_, ?_⟩
  · rw [Dev.upd_answer, Dev.upd_accept]
  · rw [Dev.boot_answer, hconfirmed, Dev.boot_atUpdate]
  · rw [Dev.boot_answer, htrialSlot]

theorem completes_updateReject (hgrant : s.dev.grants q 0x0300 2 ⟨4, 7 * 2 ^ 24⟩ = true) (htrial : s.dev.upd = Upd.TRIAL) :
    Completes (.updateReject q) s (fun t => t.dev.answered q St.OK = true ∧ t.dev.upd = Upd.FALLING_BACK) := by
  have hcmd := Dev.updateCmd_eq (k := 7) (by decide) hwho
  rw [if_neg (by decide), if_neg (by decide), if_neg (by decide), if_neg (by decide), if_neg (by decide), if_neg (by decide), if_pos rfl,
    if_pos htrial] at hcmd
  refine completes_serveWrite (act := fun w d => d.updateCmd w (7 * 2 ^ 24)) rfl hgrant hcmd (by decide) ⟨Dev.answered_ok _, ?_⟩
  rw [Dev.upd_answer, Dev.reject, Dev.upd_updTo (by decide)]

theorem completes_updateRecover (hgrant : s.dev.grants q 0x0300 2 ⟨4, 8 * 2 ^ 24⟩ = true) :
    Completes (.updateRecover q) s (fun t => t.dev.answered q St.OK = true ∧ t.dev.rst.recoverNext = true) := by
  have hcmd := Dev.updateCmd_eq (k := 8) (by decide) hwho
  rw [if_neg (by decide), if_neg (by decide), if_neg (by decide), if_neg (by decide), if_neg (by decide), if_neg (by decide), if_neg (by decide)] at hcmd
  refine completes_serveWrite (act := fun w d => d.updateCmd w (8 * 2 ^ 24)) rfl hgrant hcmd (by decide) ⟨Dev.answered_ok _, ?_⟩
  rw [Dev.rst_answer, Dev.recover, Dev.rst_request]

end

/-! ## Steps, trial and fallback -/

theorem Dev.runParts_changeM (k v : Nat) : (d.changeM k v).runParts = d.runParts := by
  unfold Dev.changeM; split <;> rfl

theorem Dev.measureKinds_eq {α : Type} (φ : Dev → α) (h : ∀ (e : Dev) m, φ { e with sec := { e.sec with m := m } } = φ e) (d : Dev) (l : List Nat) :
    φ (d.measureKinds l) = φ d := by
  refine Dev.each_eq φ (fun e k => ?_) d l
  unfold Dev.changeM; dsimp only; split
  · rfl
  · exact (h _ _).trans (h _ _)

theorem completes_activationStepDone {s : State} {dt k : Nat} (hrestart : s.dev.sec.restarting = some k) (hactivating : s.dev.upd = Upd.ACTIVATING)
    (htime : s.dev.wall + dt ≤ s.dev.sec.stepAt + stepBound k) :
    Completes (.activationStepDone dt) s (fun t => t.dev.sec.steps = s.dev.sec.steps ++ [k] ∧
      t.dev.sec.source = s.dev.sec.source.set (k - 1) s.dev.boot.trial) := by
  have hmay : ¬ ((s.dev.elapse dt).upd ≠ Upd.ACTIVATING ∨ (s.dev.elapse dt).past ((s.dev.elapse dt).sec.stepAt + 1) (stepBound k) = true) := by
    rintro (h | h)
    · exact h hactivating
    · have hw : (s.dev.elapse dt).wall = s.dev.wall + dt := rfl
      simp only [Dev.past, Dev.elapse_sec, decide_eq_true_eq, hw] at h
      omega
  refine ⟨_, rfl, ?_⟩
  simp only [Dev.elapse_sec, hrestart]
  rw [Dev.elapse_sec] at hmay
  rw [if_neg hmay]
  have hparts : ∀ e : Dev, ((e.measureKinds [k]).nextStep.sec.steps, (e.measureKinds [k]).nextStep.sec.source) = (e.sec.steps, e.sec.source) := fun e =>
    (Dev.runParts_nextStep (d := e.measureKinds [k])).trans (Dev.measureKinds_eq Dev.runParts (fun _ _ => rfl) e [k])
  obtain ⟨hsteps, hsource⟩ := Prod.mk.inj (hparts ((s.dev.elapse dt).setSec (fun x => { x with
    source := x.source.set (k - 1) (s.dev.elapse dt).boot.trial, steps := x.steps ++ [k], todo := x.todo.tail, restarting := none })))
  exact ⟨hsteps, hsource⟩

theorem completes_activationStepTimeout {s : State} {dt k : Nat} (hrestart : s.dev.sec.restarting = some k) (hactivating : s.dev.upd = Upd.ACTIVATING)
    (hpast : (s.dev.elapse dt).past s.dev.sec.stepAt (stepBound k) = true) :
    Completes (.activationStepTimeout dt) s (fun t => t.dev.upd = Upd.IDLE ∧ t.dev.sec.source = s.dev.sec.before ∧ t.dev.sec.restarting = none ∧
      t.dev.raised.contains ⟨Src.MGT_FW_FALLBACK, 0, false⟩ = true) := by
  have hmay : ¬ ((s.dev.elapse dt).upd ≠ Upd.ACTIVATING ∨ (!(s.dev.elapse dt).past s.dev.sec.stepAt (stepBound k)) = true) := by
    rintro (h | h)
    · exact h hactivating
    · rw [hpast] at h; cases h
  have hraise : ∀ (e : Dev) a b, ((e.raise a 0).raise b 0).sec = e.sec := fun _ _ _ => (rfl)
  have hback : ∀ (e : Dev) l f, ((e.measureKinds l).writeBoot f).runParts = e.runParts ∧ ((e.measureKinds l).writeBoot f).sec.restarting = e.sec.restarting :=
    fun e l f => ⟨(Dev.writeBoot_eq Dev.runParts (fun _ _ => rfl) (fun _ _ => rfl) _ f).trans (Dev.measureKinds_eq Dev.runParts (fun _ _ => rfl) e l),
      (Dev.writeBoot_eq (fun e => e.sec.restarting) (fun _ _ => rfl) (fun _ _ => rfl) _ f).trans
        (Dev.measureKinds_eq (fun e => e.sec.restarting) (fun _ _ => rfl) e l)⟩
  refine ⟨_, rfl, ?_⟩
  simp only [Dev.elapse_sec, hrestart, if_neg hmay]
  refine ⟨?_, ?_, ?_, ?_⟩
  · rw [Dev.upd_showBoot, Dev.upd_updTo (by decide)]
  · rw [Dev.sec_showBoot, Dev.sec_updTo, hraise]
    exact (Prod.mk.inj (hback _ _ _).1).2
  · rw [Dev.sec_showBoot, Dev.sec_updTo, hraise, (hback _ _ _).2]; rfl
  · have hraised : ∀ (e : Dev), ⟨Src.MGT_FW_FALLBACK, 0, false⟩ ∈ ((e.raise Src.MGT_FW_FALLBACK 0).raise Src.MGT_CORE_FAIL 0).raised := fun e =>
      List.mem_append_left _ (Dev.mem_raised_raise ..)
    rw [List.contains_iff_mem, Dev.showBoot, Dev.wr_raised, Dev.wr_raised, Dev.updTo, Dev.wr_raised]
    exact hraised _

theorem completes_trialTimerEnd {s : State} {dt : Nat} (hreset : s.dev.inReset = false) (hwarn : s.dev.pwrWarn = false) (htrial : s.dev.upd = Upd.TRIAL)
    (hpast : (s.dev.elapse dt).past s.dev.sec.trialAt (s.dev.rd D.Upd.TRIAL_S 0 * 1000000000) = true) :
    Completes (.trialTimerEnd dt) s (fun t => t.dev.upd = (if s.dev.on D.Upd.AUTO_ACCEPT 0 = true then Upd.IDLE else Upd.FALLING_BACK)) := by
  have hmay : ¬ ((s.dev.elapse dt).inReset = true ∨ (s.dev.elapse dt).pwrWarn = true ∨ (s.dev.elapse dt).upd ≠ Upd.TRIAL ∨
      (!(s.dev.elapse dt).past (s.dev.elapse dt).sec.trialAt ((s.dev.elapse dt).rd D.Upd.TRIAL_S 0 * 1000000000)) = true) := by
    rintro (h | h | h | h)
    · rw [Dev.inReset_elapse, hreset] at h; cases h
    · exact absurd (h.symm.trans hwarn) (by decide)
    · exact h htrial
    · rw [Dev.elapse_sec, Dev.rd_elapse, hpast] at h; cases h
  refine ⟨_, rfl, ?_⟩
  simp only [if_neg hmay, Dev.on_elapse]
  split
  · exact Dev.upd_accept
  · exact Dev.upd_updTo (by decide)

theorem Dev.upd_fallbackCounts (slot : Nat) : (d.fallbackCounts slot).upd = d.upd := by
  have fw : ∀ (e : Dev) a b x y, ((e.raise a b).fwEvent x y).upd = e.upd := fun _ _ _ _ _ => (rfl)
  rw [Dev.fallbackCounts, fw, Dev.upd, Dev.rd_add_apart _ _ _ _ _ _ (by decide)]; rfl

/-- A live fallback: the images run from where they ran before, and no trial is left (R468). -/
theorem Dev.trial_fallbackLive : d.fallbackLive.upd = Upd.IDLE ∧ d.fallbackLive.sec.trialKind = 0 ∧ d.fallbackLive.sec.source = d.sec.before := by
  have hslot : ∀ (e : Dev) k f, ((e.setSlot k f).sec.trialKind, (e.setSlot k f).sec.source) = (e.sec.trialKind, e.sec.source) := fun _ _ _ => (rfl)
  have hparts : ∀ e : Dev, ∀ l k f g, ((((e.measureKinds l).eraseJournal.setSlot k f).writeBoot g).sec.trialKind,
      (((e.measureKinds l).eraseJournal.setSlot k f).writeBoot g).sec.source) = (e.sec.trialKind, e.sec.source) := fun e l k f g => by
    rw [Dev.writeBoot_eq (fun e => (e.sec.trialKind, e.sec.source)) (fun _ _ => rfl) (fun _ _ => rfl), hslot, Dev.sec_eraseJournal,
      Dev.measureKinds_eq (fun e => (e.sec.trialKind, e.sec.source)) (fun _ _ => rfl)]
  unfold Dev.fallbackLive; dsimp only
  refine ⟨?_, ?_⟩
  · rw [Dev.upd_fallbackCounts, Dev.upd_showBoot, Dev.upd_updTo (by decide)]
  · rw [Dev.sec_fallbackCounts, Dev.sec_showBoot, Dev.sec_updTo, Dev.sec_modesBack, Dev.sec_loadSettings]
    exact Prod.mk.inj (hparts _ _ _ _ _)

theorem completes_fallbackDone {s : State} {dt : Nat} (hreset : s.dev.inReset = false) (hback : s.dev.upd = Upd.FALLING_BACK)
    (hkind : s.dev.sec.trialKind = 1) :
    Completes (.fallbackDone dt) s (fun t => t.dev.upd = Upd.IDLE ∧ t.dev.sec.trialKind = 0 ∧ t.dev.sec.source = s.dev.sec.before) := by
  have hmay : ¬ ((s.dev.elapse dt).inReset = true ∨ (s.dev.elapse dt).upd ≠ Upd.FALLING_BACK ∨ (s.dev.elapse dt).sec.trialKind ≠ 1) := by
    rintro (h | h | h)
    · rw [Dev.inReset_elapse, hreset] at h; cases h
    · exact h hback
    · exact h hkind
  refine ⟨_, rfl, ?_⟩
  simp only [if_neg hmay]
  exact Dev.trial_fallbackLive

theorem completes_slotRCopyDone {s : State} {dt : Nat} (hreset : s.dev.inReset = false) (hcopy : s.dev.sec.copying = true) :
    Completes (.slotRCopyDone dt) s (fun t => (t.dev.slot 2).state = ImgState.READY ∧
      (t.dev.slot 2).manifest = (s.dev.slot s.dev.boot.confirmed).manifest ∧ t.dev.sec.copying = false) := by
  have hmay : ¬ ((s.dev.elapse dt).inReset = true ∨ (s.dev.elapse dt).sec.copying = false) := by
    rintro (h | h)
    · rw [Dev.inReset_elapse, hreset] at h; cases h
    · exact absurd (h.symm.trans hcopy) (by decide)
  have hslot : ∀ (e : Dev) f, (e.setSec (fun x => { x with copying := f })).slot 2 = e.slot 2 := fun _ _ => (rfl)
  refine ⟨_, rfl, ?_⟩
  simp only [if_neg hmay]
  rw [hslot, Dev.slot_setSlot_same]
  exact ⟨rfl, rfl, rfl⟩

/-- Settles O48: the check of an activation reads nothing that the request's reception changes; each step leaves the boot control, sources and update
state that its clause names, behind changes of other parts. -/
theorem activationCompletes : Obligations.ActivationCompletes := by
  unfold Obligations.ActivationCompletes
  refine ⟨?_, ?_, ?_, ?_, ?_, ?_, ?_, ?_, ?_, ?_⟩
  · intro s q hgrant hwho hidle hrec
    exact completes_activateInService hwho hgrant hidle hrec
  · intro s dt k hrestart hactivating htime
    exact completes_activationStepDone hrestart hactivating htime
  · intro s dt k hrestart hactivating hpast
    exact completes_activationStepTimeout hrestart hactivating hpast
  · intro s q hgrant hwho hidle hrec
    exact completes_activateRestart hwho hgrant hidle hrec
  · intro s q hgrant hwho htrial
    exact completes_updateAccept hwho hgrant htrial
  · intro s q hgrant hwho htrial
    exact completes_updateReject hwho hgrant htrial
  · intro s q hgrant hwho
    exact completes_updateRecover hwho hgrant
  · intro s dt hreset hwarn htrial hpast
    exact completes_trialTimerEnd hreset hwarn htrial hpast
  · intro s dt hreset hback hkind
    exact completes_fallbackDone hreset hback hkind
  · intro s dt hreset hcopy
    exact completes_slotRCopyDone hreset hcopy

end Sys2Proof.Machine
end

section
/-! Obligations of 17_faults.md: the fault collector's events (R475 to R487) and commands (R479, R484 to R491). -/

namespace Sys2Proof.Machine
open Sys2Proof

variable {d : Dev}

/-! ## What the reactions to a latch reach -/

/-- The fields that reactions and the first-error capture write (R477 to R488). -/
def reactFields : List Fld :=
  safeFields ++ [D.SourceStatus.SAFE_HOLDING, D.Flt.ERRN_STATE, D.FirstError.VALID, D.FirstError.INJECTED, D.FirstError.SOURCE, D.FirstError.INSTANCE,
    D.FirstError.TIME, D.FirstError.OVERFLOW, D.FirstError.OVERFLOW_COUNT, D.Summary.VALID, D.Summary.TIE, D.Summary.FIRST_KNOWN,
    D.Summary.FIRST_MEMBER, D.Summary.FIRST_SOURCE, D.Summary.STICKY]

section react

variable {α : Type} {φ : Dev → α} (hwr : ∀ (e : Dev) f n v, f ∈ reactFields → φ (e.wr f n v) = φ e)
  (hparts : ∀ (e : Dev) flt hold rst out raised events,
    φ { e with flt := flt, hold := hold, rst := rst, out := out, raised := raised, events := events } = φ e)

include hparts in
theorem Dev.setFlt_eq (e : Dev) (f : FltSt → FltSt) : φ (e.setFlt f) = φ e := hparts e _ e.hold e.rst e.out e.raised e.events
include hparts in
theorem Dev.emit_eq (e : Dev) (x : Emission) : φ (e.emit x) = φ e := hparts e e.flt e.hold e.rst _ e.raised e.events
include hparts in
theorem Dev.raise_eq (e : Dev) (a b : Nat) : φ (e.raise a b) = φ e := hparts e e.flt e.hold e.rst e.out _ e.events
include hparts in
theorem Dev.event_eq (e : Dev) (a b : Nat) : φ (e.event a b) = φ e := hparts e e.flt e.hold e.rst e.out e.raised _

include hwr hparts

theorem Dev.safeNow_react (e : Dev) (c : Nat) : φ (e.safeNow c) = φ e :=
  Dev.safeNow_eq φ (fun e f n v hf => hwr e f n v (List.mem_append_left _ hf)) (fun e h => hparts e e.flt h e.rst e.out e.raised e.events) e c

theorem Dev.request_eq (e : Dev) (reach src detail dom inst : Nat) : φ (e.request reach src detail dom inst) = φ e :=
  have hrst : ∀ e : Dev, ∀ r, φ { e with rst := r } = φ e := fun e r => hparts e e.flt e.hold r e.out e.raised e.events
  Dev.ite_eq φ ((Dev.each_eq φ (fun e c => Dev.safeNow_react hwr hparts e c) _ _).trans (hrst ..)) (hrst ..)

theorem Dev.blkrst_eq (e : Dev) (src inst : Nat) : φ (e.blkrst src inst) = φ e :=
  Dev.ite_eq φ ((Dev.raise_eq hparts ..).trans (Dev.setFlt_eq hparts ..))
    (Dev.ite_eq φ ((Dev.request_eq hwr hparts ..).trans (Dev.setFlt_eq hparts ..)) ((Dev.request_eq hwr hparts ..).trans (Dev.setFlt_eq hparts ..)))

theorem Dev.errnFall_eq (e : Dev) : φ e.errnFall = φ e :=
  Dev.ite_eq φ rfl ((Dev.emit_eq hparts ..).trans ((hwr _ _ _ _ (by decide)).trans (Dev.setFlt_eq hparts ..)))

theorem Dev.safeReact_eq (e : Dev) (src inst : Nat) : φ (e.safeReact src inst) = φ e :=
  (Dev.each_eq φ (fun e c => Dev.safeNow_react hwr hparts e c) _ _).trans ((hwr _ _ _ _ (by decide)).trans (Dev.setFlt_eq hparts ..))

theorem Dev.react_eq (e : Dev) (src inst : Nat) : φ (e.react src inst) = φ e := by
  have ite : ∀ (p : Prop) [Decidable p] (f : Dev → Dev), (∀ e, φ (f e) = φ e) → ∀ e : Dev, φ (if p then f e else e) = φ e := fun p _ f hf e =>
    Dev.ite_eq φ (hf e) rfl
  have hint : ∀ e : Dev, φ (if e.cfgOn D.SourceCfg.CHIPRST src then e.request Reach.WARM 0x05 src 0 0
      else if e.cfgOn D.SourceCfg.BLKRST src then e.blkrst src inst else e) = φ e := fun e =>
    Dev.ite_eq φ (Dev.request_eq hwr hparts ..) (ite _ _ (fun e => Dev.blkrst_eq hwr hparts e src inst) e)
  unfold Dev.react; dsimp only
  rw [Dev.ite_eq φ (x := φ _) rfl (hint _), ite _ _ (fun e => Dev.errnFall_eq hwr hparts e), ite _ _ (fun e => Dev.safeReact_eq hwr hparts e src inst),
    ite _ _ (fun e => Dev.setFlt_eq hparts e _), ite _ _ (fun e => Dev.setFlt_eq hparts e _)]

theorem Dev.summarySee_eq (e : Dev) (m src t : Nat) : φ (e.summarySee m src t) = φ e := by
  have first : ∀ e : Dev, φ ((e.wr D.Summary.FIRST_MEMBER 0 m).wr D.Summary.FIRST_SOURCE 0 src) = φ e := fun e =>
    (hwr _ _ _ _ (by decide)).trans (hwr _ _ _ _ (by decide))
  have hsticky : ∀ (e : Dev) v, φ ((e.flag D.Summary.VALID 0 true).wr D.Summary.STICKY 0 v) = φ e := fun e v =>
    (hwr _ _ _ _ (by decide)).trans (hwr _ _ _ _ (by decide))
  unfold Dev.summarySee; dsimp only
  refine Dev.ite_eq φ rfl (Dev.ite_eq φ (hsticky ..) (Dev.ite_eq φ ?_ (Dev.ite_eq φ (Dev.ite_eq φ ?_ ?_) (hsticky ..))))
  · refine (hwr _ _ _ _ (by decide)).trans ((first _).trans ((hparts _ _ _ _ _ _ _).trans (hsticky ..)))
  · exact (first _).trans ((hwr _ _ _ _ (by decide)).trans (hsticky ..))
  · exact (hwr _ _ _ _ (by decide)).trans (hsticky ..)

theorem Dev.capture_eq (e : Dev) (src inst : Nat) (injected : Bool) : φ (e.capture src inst injected) = φ e :=
  (Dev.event_eq hparts ..).trans ((hwr _ _ _ _ (by decide)).trans ((hwr _ _ _ _ (by decide)).trans ((hwr _ _ _ _ (by decide)).trans
    ((hwr _ _ _ _ (by decide)).trans (hwr _ _ _ _ (by decide))))))

theorem Dev.firstError_eq (e : Dev) (src inst : Nat) (injected : Bool) : φ (e.firstError src inst injected) = φ e := by
  have hlater : φ ((e.flag D.FirstError.OVERFLOW 0 true).sat D.FirstError.OVERFLOW_COUNT 0 1) = φ e :=
    (hwr _ _ _ _ (by decide)).trans (hwr _ _ _ _ (by decide))
  have hcap := fun e : Dev => Dev.capture_eq hwr hparts e src inst injected
  exact Dev.ite_eq φ ((Dev.summarySee_eq hwr hparts ..).trans (hcap e))
    (Dev.ite_eq φ (Dev.ite_eq φ ((hwr _ _ _ _ (by decide)).trans ((hcap _).trans hlater)) ((hcap _).trans hlater)) hlater)

end react

/-! ## A latch -/

/-- The fields of a source that a latch sets (R476). -/
def latchFields : List Fld :=
  [D.SourceStatus.PENDING, D.SourceStatus.COUNT, D.SourceStatus.LAST_TIME, D.SourceStatus.INSTANCE, D.SourceStatus.INJECTED]

/-- The device that shows a raising event of a source, before ACTIVE and the reactions. -/
def Dev.latched (d : Dev) (src inst : Nat) (injected : Bool) : Dev :=
  let d := (d.flag D.SourceStatus.PENDING src true).sat D.SourceStatus.COUNT src 1
  ((d.wr D.SourceStatus.LAST_TIME src d.now).wr D.SourceStatus.INSTANCE src inst).flag D.SourceStatus.INJECTED src injected

theorem reactFields_apart : ∀ g ∈ latchFields, ∀ f ∈ reactFields, Fld.apart f g = true := by decide

theorem active_apart : ∀ g ∈ latchFields, Fld.apart D.SourceStatus.ACTIVE g = true := by decide

/-- What a latch shows stays through its reactions and the first-error capture. -/
theorem Dev.rd_latch {src : Nat} (hsrc : sourceNamed src = true) (inst : Nat) (lasting injected : Bool) {g : Fld} (hg : g ∈ latchFields) (m : Nat) :
    (d.latch src inst lasting injected).rd g m = (d.latched src inst injected).rd g m := by
  have hwr : ∀ (e : Dev) f n v, f ∈ reactFields → (e.wr f n v).rd g m = e.rd g m := fun e f n v hf =>
    Dev.rd_wr_apart _ _ _ _ _ _ (reactFields_apart g hg f hf)
  have hparts : ∀ (e : Dev) flt hold rst out raised events,
      ({ e with flt := flt, hold := hold, rst := rst, out := out, raised := raised, events := events } : Dev).rd g m = e.rd g m :=
    fun _ _ _ _ _ _ _ => rfl
  have hactive := active_apart g hg
  have hset := fun e f => Dev.setFlt_eq (φ := fun e => e.rd g m) hparts e f
  have hlasting : ∀ e : Dev, ∀ f, (if lasting then (e.setFlt f).flag D.SourceStatus.ACTIVE src true else e).rd g m = e.rd g m := fun e f =>
    Dev.ite_eq (fun e => e.rd g m) ((Dev.rd_flag_apart _ _ _ _ _ _ hactive).trans (hset ..)) rfl
  have hreload : ∀ e : Dev, ∀ f, (if src = Src.FLT_CFG_PARITY then e.setFlt f else e).rd g m = e.rd g m := fun e f =>
    Dev.ite_eq (fun e => e.rd g m) (hset ..) rfl
  have hbase : ∀ e f f', (if src = Src.FLT_CFG_PARITY then Dev.setFlt (if lasting then (Dev.setFlt e f).flag D.SourceStatus.ACTIVE src true else e) f'
      else (if lasting then (Dev.setFlt e f).flag D.SourceStatus.ACTIVE src true else e)).rd g m = e.rd g m := fun e f f' => (hreload _ _).trans (hlasting _ _)
  have hfirst : ∀ (e : Dev) (p : Prop) [Decidable p], (if p then e.firstError src inst injected else e).rd g m = e.rd g m := fun e p _ =>
    Dev.ite_eq (fun e => e.rd g m) (Dev.firstError_eq (φ := fun e => e.rd g m) hwr hparts e src inst injected) rfl
  unfold Dev.latch
  rw [hsrc]
  simp only [Bool.not_true, Bool.false_eq_true, if_false]
  refine Dev.ite_eq (fun e => e.rd g m) (hbase ..) (Dev.ite_eq (fun e => e.rd g m) ((hfirst _ _).trans (hbase ..)) ?_)
  exact (Dev.react_eq (φ := fun e => e.rd g m) hwr hparts _ src inst).trans ((hfirst _ _).trans (hbase ..))

theorem Dev.pending_latched (src inst : Nat) (injected : Bool) : (d.latched src inst injected).on D.SourceStatus.PENDING src = true := by
  have h := Dev.on_flag_same d D.SourceStatus.PENDING src true rfl
  unfold Dev.on at h ⊢
  rw [Dev.latched, Dev.rd_flag_apart _ _ _ _ _ _ (by decide), Dev.rd_wr_apart _ _ _ _ _ _ (by decide), Dev.rd_wr_apart _ _ _ _ _ _ (by decide),
    Dev.rd_sat_apart _ _ _ _ _ _ (by decide), h]

theorem Dev.count_latched (src inst : Nat) (injected : Bool) :
    (d.latched src inst injected).rd D.SourceStatus.COUNT src = min (d.rd D.SourceStatus.COUNT src + 1) (2 ^ 32 - 1) := by
  rw [Dev.latched, Dev.rd_flag_apart _ _ _ _ _ _ (by decide), Dev.rd_wr_apart _ _ _ _ _ _ (by decide), Dev.rd_wr_apart _ _ _ _ _ _ (by decide),
    Dev.rd_sat_same, Dev.rd_flag_apart _ _ _ _ _ _ (by decide)]
  rfl

theorem Dev.instance_latched (src inst : Nat) (injected : Bool) : (d.latched src inst injected).rd D.SourceStatus.INSTANCE src = inst % 2 ^ 16 := by
  rw [Dev.latched, Dev.rd_flag_apart _ _ _ _ _ _ (by decide), Dev.rd_wr_same]; rfl

theorem Dev.injected_latched (src inst : Nat) (injected : Bool) : (d.latched src inst injected).on D.SourceStatus.INJECTED src = injected :=
  Dev.on_flag_same _ _ _ _ rfl

theorem Dev.now_lt : d.now < 2 ^ 64 := ofInt_lt ..

theorem Dev.lastTime_latched (src inst : Nat) (injected : Bool) : (d.latched src inst injected).rd D.SourceStatus.LAST_TIME src = d.now := by
  rw [Dev.latched, Dev.rd_flag_apart _ _ _ _ _ _ (by decide), Dev.rd_wr_apart _ _ _ _ _ _ (by decide), Dev.rd_wr_same, Dev.sat, Dev.now_wr _ _ _ _ (by decide),
    Dev.flag, Dev.now_wr _ _ _ _ (by decide)]
  exact Nat.mod_eq_of_lt Dev.now_lt

/-! ## Events of the collector -/

theorem completes_faultLatch {s : State} {dt src inst : Nat} {lasting : Bool} (hcold : s.dev.inCold = false) (hsrc : sourceNamed src = true) :
    Completes (.faultLatch dt src inst lasting) s (fun t => t.dev.on D.SourceStatus.PENDING src = true ∧
      t.dev.rd D.SourceStatus.COUNT src = min (s.dev.rd D.SourceStatus.COUNT src + 1) (2 ^ 32 - 1) ∧
      t.dev.rd D.SourceStatus.INSTANCE src = inst % 2 ^ 16 ∧ t.dev.rd D.SourceStatus.LAST_TIME src = (s.dev.elapse dt).now) := by
  have hcold' : ∀ l, ({ s.dev.elapse dt with raised := l } : Dev).inCold = false := fun _ => hcold
  refine ⟨_, rfl, ?_⟩
  simp only [hcold', Bool.false_eq_true, if_false]
  refine ⟨?_, ?_, ?_, ?_⟩
  · rw [Dev.on, Dev.rd_latch hsrc _ _ _ (by decide)]; exact Dev.pending_latched ..
  · rw [Dev.rd_latch hsrc _ _ _ (by decide), Dev.count_latched]; rfl
  · rw [Dev.rd_latch hsrc _ _ _ (by decide), Dev.instance_latched]
  · rw [Dev.rd_latch hsrc _ _ _ (by decide), Dev.lastTime_latched]; rfl

theorem completes_faultConditionEnd {s : State} {dt src inst : Nat} (hcold : s.dev.inCold = false) (hsrc : sourceNamed src = true)
    (honly : s.dev.flt.active.any (fun a => a.1 == src && a.2 != inst) = false) :
    Completes (.faultConditionEnd dt src inst) s (fun t => t.dev.on D.SourceStatus.ACTIVE src = false ∧
      t.dev.on D.SourceStatus.PENDING src = s.dev.on D.SourceStatus.PENDING src) := by
  have hcold' : ∀ l, ({ s.dev.elapse dt with ended := l } : Dev).inCold = false := fun _ => hcold
  have hnone : (s.dev.flt.active.filter (fun a => !(a.1 == src && a.2 == inst))).any (fun a => a.1 == src) = false := by
    rw [List.any_filter, ← honly]
    refine congrArg (s.dev.flt.active.any ·) (funext fun a => ?_)
    cases a.1 == src <;> simp [bne]
  have hflt : ∀ (e : Dev) f g n, (e.setFlt f).rd g n = e.rd g n := fun _ _ _ _ => (rfl)
  refine ⟨_, rfl, ?_⟩
  simp only [hcold', hsrc, Bool.not_true, Bool.or_false, Bool.false_eq_true, if_false, Dev.endActive]
  rw [if_neg (by rw [Dev.setFlt]; exact Bool.not_eq_true _ ▸ hnone)]
  refine ⟨Dev.on_flag_same _ _ _ _ rfl, ?_⟩
  rw [Dev.on, Dev.rd_flag_apart _ _ _ _ _ _ (by decide), hflt]; rfl

/-- ERR_N that has been low long enough and is held by nothing rises (R487). -/
theorem completes_errnMinExpiry {s : State} {dt : Nat} (hlow : s.dev.flt.errnLow = true) (hpend : s.dev.errPending = false)
    (hpor : s.dev.rst.asserted.any (fun r => decide (r.reach = 0)) = false) (hreload : s.dev.flt.reloadAt = none)
    (hpast : (s.dev.elapse dt).past s.dev.flt.errnAt (s.dev.rd D.Flt.ERRN_MIN_US 0 * 1000) = true) :
    Completes (.errnMinExpiry dt) s (fun t => t.dev.flt.errnLow = false ∧ t.dev.on D.Flt.ERRN_STATE 0 = false ∧ t.dev.out = [.pin Pin.ERR_N 1]) := by
  have hpend' : (s.dev.elapse dt).errPending = false := by
    have hload : ∀ e : Dev, e.flt.reloadAt = none → e.reloading = false := fun e h => by unfold Dev.reloading; rw [h]
    rw [← hpend]
    unfold Dev.errPending Dev.cfgOn Dev.sourceCfg
    rw [hload _ hreload, hload (s.dev.elapse dt) hreload]; rfl
  have hmay : ¬ ((s.dev.elapse dt).flt.errnLow = false ∨ (s.dev.elapse dt).errPending = true ∨
      (s.dev.elapse dt).rst.asserted.any (fun r => decide (r.reach = 0)) = true ∨
      (!(s.dev.elapse dt).past (s.dev.elapse dt).flt.errnAt ((s.dev.elapse dt).rd D.Flt.ERRN_MIN_US 0 * 1000)) = true) := by
    rintro (h | h | h | h)
    · exact absurd (h.symm.trans hlow) (by decide)
    · exact absurd (h.symm.trans hpend') (by decide)
    · exact absurd (h.symm.trans hpor) (by decide)
    · rw [show (s.dev.elapse dt).past (s.dev.elapse dt).flt.errnAt ((s.dev.elapse dt).rd D.Flt.ERRN_MIN_US 0 * 1000) = true from hpast] at h; cases h
  have hemit : ∀ (e : Dev) x, (e.emit x).flt = e.flt ∧ (e.emit x).out = e.out ++ [x] ∧ (e.emit x).rd D.Flt.ERRN_STATE 0 = e.rd D.Flt.ERRN_STATE 0 :=
    fun _ _ => ⟨rfl, rfl, rfl⟩
  refine ⟨_, rfl, ?_⟩
  simp only [Dev.errnRise, if_neg hmay]
  refine ⟨?_, ?_, ?_⟩
  · rw [(hemit _ _).1, Dev.flag, Dev.wr_flt]; rfl
  · rw [Dev.on, (hemit _ _).2.2, Dev.flag, Dev.rd_wr_same]; rfl
  · rw [(hemit _ _).2.1, Dev.flag, Dev.wr_out]; rfl

/-- Settles O49: what a latch shows stays through its reactions, which write other fields; the end of a condition and the release of ERR_N are read
off their definitions. -/
theorem faultEventsComplete : Obligations.FaultEventsComplete := by
  unfold Obligations.FaultEventsComplete
  refine ⟨?_, ?_, ?_⟩
  · intro s dt src inst lasting hcold hsrc
    exact completes_faultLatch hcold hsrc
  · intro s dt src inst hcold hsrc honly
    exact completes_faultConditionEnd hcold hsrc honly
  · intro s dt hlow hpend hreload hpor hpast
    exact completes_errnMinExpiry hlow hpend hpor hreload hpast

end Sys2Proof.Machine
end

section
/-! Obligations of 17_faults.md: FAULT_CMD (R479, R484 to R491). -/

namespace Sys2Proof.Machine
open Sys2Proof

variable {d : Dev}

/-! ## The command's bytes (Table 17.7) -/

theorem bitsOf_faultValue {cmd : Nat} (hcmd : cmd < 256) (src inst : Nat) :
    bitsOf (faultValue cmd src inst) 56 8 = cmd ∧ bitsOf (faultValue cmd src inst) 47 9 = src % 2 ^ 9 ∧
    bitsOf (faultValue cmd src inst) 16 16 = inst % 2 ^ 16 ∧ bitsOf (faultValue cmd src inst) 32 15 = 0 ∧ faultValue cmd src inst % 2 ^ 16 = 0 := by
  unfold faultValue
  refine ⟨?_, ?_, ?_, ?_, ?_⟩
  · exact (bitsOf_pack [] [(8, cmd)] [(9, src), (15, 0), (16, inst), (16, 0)]).trans (pack_singleton hcmd)
  · exact (bitsOf_pack [(8, cmd)] [(9, src)] [(15, 0), (16, inst), (16, 0)]).trans (by simp [pack])
  · exact (bitsOf_pack [(8, cmd), (9, src), (15, 0)] [(16, inst)] [(16, 0)]).trans (by simp [pack])
  · exact (bitsOf_pack [(8, cmd), (9, src)] [(15, 0)] [(16, inst), (16, 0)]).trans (by simp [pack])
  · rw [show ∀ x, x % 2 ^ 16 = bitsOf x 0 16 from fun x => by simp [bitsOf]]
    exact (bitsOf_pack [(8, cmd), (9, src), (15, 0), (16, inst)] [(16, 0)] []).trans (by simp [pack])

/-- What a command does that its role and its form let through. -/
theorem Dev.faultCmd_eq {w : Who} {cmd : Nat} (src inst : Nat) (hcmd : 1 ≤ cmd ∧ cmd ≤ 8) (hrole : 6 ≤ cmd → 3 ≤ w.role) :
    d.faultCmd w (faultValue cmd src inst) =
      (if cmd = 1 then (if sourceNamed (src % 2 ^ 9) then ((d.clearSource (src % 2 ^ 9)).errnRise, St.OK) else (d, St.RANGE))
       else if cmd = 2 then
        (if 400 ≤ src % 2 ^ 9 then (d, St.RANGE)
         else ((d.each (pick 16 (fun _ => true)) (fun d i => d.clearSource (src % 2 ^ 9 / 16 * 16 + i))).errnRise, St.OK))
       else if cmd = 3 then ((d.each (Src.table.map (fun t => t.1)) (fun d i => d.clearSource i)).errnRise, St.OK)
       else if cmd = 4 then (d.setEnt (D.FirstError.VALID.key 0) 0, St.OK)
       else if cmd = 5 then (if d.on D.Straps.HEAD 0 then (d.summaryClear, St.OK) else (d, St.STATE))
       else if cmd = 6 then
        (if sourceNamed (src % 2 ^ 9) then (d.blkrst (src % 2 ^ 9) (inst % 2 ^ 16), St.OK) else (d, St.RANGE))
       else if cmd = 7 then (d.request Reach.WARM 0x05 (src % 2 ^ 9) 0 0, St.OK)
       else if !d.injectAllowed then (d, St.STATE)
       else if !sourceNamed (src % 2 ^ 9) then (d, St.RANGE)
       else ((d.latch (src % 2 ^ 9) (inst % 2 ^ 16) false true).raise Src.FLT_INJECTED 0, St.OK)) := by
  obtain ⟨h1, h2, h3, h4, h5⟩ := bitsOf_faultValue (cmd := cmd) (by omega) src inst
  simp only [Dev.faultCmd, h1, h2, h3, h4, h5]
  rw [if_neg (by omega), if_neg (by omega)]

/-! ## Clearing (R484) -/

theorem Dev.rd_setFlt (f : FltSt → FltSt) (g : Fld) (m : Nat) : (d.setFlt f).rd g m = d.rd g m := (rfl)

theorem Dev.rd_errnRise {g : Fld} (m : Nat) (h : Fld.apart D.Flt.ERRN_STATE g = true) : d.errnRise.rd g m = d.rd g m := by
  have emit : ∀ (e : Dev) x, (e.emit x).rd g m = e.rd g m := fun _ _ => (rfl)
  refine Dev.ite_eq (fun e => e.rd g m) rfl ?_
  rw [emit, Dev.rd_flag_apart _ _ _ _ _ _ h, Dev.rd_setFlt]

/-- A source that is cleared: PENDING and SAFE_HOLDING go, unless its condition stands. -/
theorem Dev.pending_clearSource (src : Nat) :
    (d.clearSource src).on D.SourceStatus.PENDING src = (d.on D.SourceStatus.ACTIVE src && d.on D.SourceStatus.PENDING src) := by
  have h := Dev.on_flag_same d D.SourceStatus.PENDING src false rfl
  unfold Dev.clearSource; split
  case isTrue hact => rw [hact, Bool.true_and]
  case isFalse hact =>
    rw [Bool.not_eq_true] at hact
    unfold Dev.on at h hact ⊢
    rw [Dev.rd_setFlt, Dev.rd_flag_apart _ _ _ _ _ _ (by decide), h, hact, Bool.false_and]

theorem Dev.active_clearSource (src n : Nat) : (d.clearSource src).on D.SourceStatus.ACTIVE n = d.on D.SourceStatus.ACTIVE n := by
  unfold Dev.clearSource; split
  · rfl
  · rw [Dev.on, Dev.rd_setFlt, Dev.rd_flag_apart _ _ _ _ _ _ (by decide), Dev.rd_flag_apart _ _ _ _ _ _ (by decide)]; rfl

theorem Dev.pending_clearSource_ne {src n : Nat} (h : n ≠ src) : (d.clearSource src).on D.SourceStatus.PENDING n = d.on D.SourceStatus.PENDING n := by
  unfold Dev.clearSource; split
  · rfl
  · rw [Dev.on, Dev.rd_setFlt, Dev.rd_flag_apart _ _ _ _ _ _ (by decide), Dev.flag, Dev.rd_wr_ne _ _ _ _ _ h]; rfl

/-- Of the sources cleared, those stay pending whose condition stands. -/
theorem Dev.pending_clearEach (l : List Nat) (n : Nat) (d : Dev) :
    (d.each l (fun d i => d.clearSource i)).on D.SourceStatus.PENDING n =
      if n ∈ l then d.on D.SourceStatus.ACTIVE n && d.on D.SourceStatus.PENDING n else d.on D.SourceStatus.PENDING n := by
  unfold Dev.each
  induction l generalizing d with
  | nil => rfl
  | cons i l ih =>
    rw [List.foldl_cons, ih, Dev.active_clearSource]
    by_cases hi : n = i
    · subst hi
      rw [Dev.pending_clearSource, if_pos List.mem_cons_self, ← Bool.and_assoc, Bool.and_self, ite_self]
    · rw [Dev.pending_clearSource_ne hi]
      exact if_congr (by simp [hi]) rfl rfl

theorem Dev.pending_errnRise (n : Nat) : d.errnRise.on D.SourceStatus.PENDING n = d.on D.SourceStatus.PENDING n := by
  rw [Dev.on, Dev.rd_errnRise _ (by decide)]; rfl

/-! ## The commands -/

theorem sourceNamed_lt {src : Nat} (h : sourceNamed src = true) : src < 512 := by
  obtain ⟨t, ht, heq⟩ := List.any_eq_true.mp h
  have all : ∀ t ∈ Src.table, t.1 < 512 := by decide +kernel
  exact beq_iff_eq.mp heq ▸ all t ht

theorem Dev.on_answer (q : Rcp) (r : Reply) (f : Fld) (n : Nat) (hm : Fld.apart D.MgCounters.TX_FRAMES f = true)
    (hp : Fld.apart D.PortCounters.TX_FRAMES f = true) : (d.answer q r).on f n = d.on f n := by
  rw [Dev.on, Dev.rd_answer _ _ _ _ _ hm hp]; rfl

theorem Dev.on_atBody_off (q : Rcp) {f : Fld} (h : offHeard f = true) (n : Nat) : (d.atBody q).on f n = d.on f n := by
  rw [Dev.on, Dev.rd_atBody_off q h]; rfl

section

variable {s : State} {q : Rcp}

theorem completes_faultCmdClear {src : Nat} (hgrant : s.dev.grants q 0x0400 2 ⟨8, faultValue 1 src 0⟩ = true) (hsrc : sourceNamed src = true)
    (hactive : s.dev.on D.SourceStatus.ACTIVE src = false) :
    Completes (.faultCmdClear q src) s (fun t => t.dev.answered q St.OK = true ∧ t.dev.on D.SourceStatus.PENDING src = false ∧
      t.dev.on D.SourceStatus.SAFE_HOLDING src = false) := by
  have hcmd := Dev.faultCmd_eq (d := s.dev.atBody q) (w := s.dev.asker q) src 0 (cmd := 1) (by decide) (by omega)
  rw [if_pos rfl, Nat.mod_eq_of_lt (show src < 2 ^ 9 from sourceNamed_lt hsrc), if_pos hsrc] at hcmd
  have hactive' : (s.dev.atBody q).on D.SourceStatus.ACTIVE src = false := by rw [Dev.on_atBody_off q (by decide), hactive]
  refine completes_serveWrite (act := fun w d => d.faultCmd w (faultValue 1 src 0)) rfl hgrant hcmd (by decide) ⟨Dev.answered_ok _, ?_, ?_⟩
  · rw [Dev.on_answer _ _ _ _ (by decide) (by decide), Dev.pending_errnRise, Dev.pending_clearSource, hactive', Bool.false_and]
  · rw [Dev.on_answer _ _ _ _ (by decide) (by decide), Dev.on, Dev.rd_errnRise _ (by decide), Dev.clearSource, hactive',
      if_neg (by decide), Dev.rd_setFlt]
    exact Dev.on_flag_same _ _ _ _ rfl

/-- What a clearing of several sources leaves pending. -/
theorem Dev.pending_cleared (l : List Nat) {n : Nat} (hn : n ∈ l) :
    ((((s.dev.atBody q).each l (fun d i => d.clearSource i)).errnRise).answer q (Reply.of St.OK)).on D.SourceStatus.PENDING n =
      (s.dev.on D.SourceStatus.ACTIVE n && s.dev.on D.SourceStatus.PENDING n) := by
  rw [Dev.on_answer _ _ _ _ (by decide) (by decide), Dev.pending_errnRise, Dev.pending_clearEach, if_pos hn, Dev.on_atBody_off q (by decide),
    Dev.on_atBody_off q (by decide)]

theorem completes_faultCmdClearGroup {src : Nat} (hgrant : s.dev.grants q 0x0400 2 ⟨8, faultValue 2 src 0⟩ = true) (hsrc : src < 400) :
    Completes (.faultCmdClearGroup q src) s (fun t => t.dev.answered q St.OK = true ∧
      (List.range 16).all (fun i => t.dev.on D.SourceStatus.PENDING (src / 16 * 16 + i) ==
        (s.dev.on D.SourceStatus.ACTIVE (src / 16 * 16 + i) && s.dev.on D.SourceStatus.PENDING (src / 16 * 16 + i))) = true) := by
  have hcmd := Dev.faultCmd_eq (d := s.dev.atBody q) (w := s.dev.asker q) src 0 (cmd := 2) (by decide) (by omega)
  have hgroup : (s.dev.atBody q).each (pick 16 (fun _ => true)) (fun d i => d.clearSource (src / 16 * 16 + i)) =
      (s.dev.atBody q).each ((List.range 16).map (fun i => src / 16 * 16 + i)) (fun d i => d.clearSource i) := by
    unfold Dev.each; rw [List.foldl_map]; rfl
  rw [if_neg (by decide), if_pos rfl, Nat.mod_eq_of_lt (show src < 2 ^ 9 by omega), if_neg (by omega), hgroup] at hcmd
  refine completes_serveWrite (act := fun w d => d.faultCmd w (faultValue 2 src 0)) rfl hgrant hcmd (by decide) ⟨Dev.answered_ok _, ?_⟩
  exact List.all_eq_true.mpr fun i hi => beq_iff_eq.mpr (Dev.pending_cleared _ (List.mem_map_of_mem hi))

theorem completes_faultCmdClearAll (hgrant : s.dev.grants q 0x0400 2 ⟨8, faultValue 3 0 0⟩ = true) :
    Completes (.faultCmdClearAll q) s (fun t => t.dev.answered q St.OK = true ∧ Src.table.all (fun x0 => t.dev.on D.SourceStatus.PENDING x0.1 ==
      (s.dev.on D.SourceStatus.ACTIVE x0.1 && s.dev.on D.SourceStatus.PENDING x0.1)) = true) := by
  have hcmd := Dev.faultCmd_eq (d := s.dev.atBody q) (w := s.dev.asker q) 0 0 (cmd := 3) (by decide) (by omega)
  rw [if_neg (by decide), if_neg (by decide), if_pos rfl] at hcmd
  refine completes_serveWrite (act := fun w d => d.faultCmd w (faultValue 3 0 0)) rfl hgrant hcmd (by decide) ⟨Dev.answered_ok _, ?_⟩
  exact List.all_eq_true.mpr fun t ht => beq_iff_eq.mpr (Dev.pending_cleared _ (List.mem_map_of_mem ht))

theorem completes_faultCmdFirstClear (hgrant : s.dev.grants q 0x0400 2 ⟨8, faultValue 4 0 0⟩ = true) :
    Completes (.faultCmdFirstClear q) s (fun t => t.dev.answered q St.OK = true ∧ t.dev.ent (D.FirstError.VALID.key 0) = 0) := by
  have hcmd := Dev.faultCmd_eq (d := s.dev.atBody q) (w := s.dev.asker q) 0 0 (cmd := 4) (by decide) (by omega)
  rw [if_neg (by decide), if_neg (by decide), if_neg (by decide), if_pos rfl] at hcmd
  refine completes_serveWrite (act := fun w d => d.faultCmd w (faultValue 4 0 0)) rfl hgrant hcmd (by decide) ⟨Dev.answered_ok _, ?_⟩
  dsimp only
  rw [Dev.ent_answer _ _ _ (fun n => by simp [Fld.key, D.FirstError.VALID, D.MgCounters.TX_FRAMES])
    (fun n => by simp [Fld.key, D.FirstError.VALID, D.PortCounters.TX_FRAMES]), Dev.ent_setEnt_same]

/-- A member seen sets VALID and its STICKY bit; what follows writes only which member was the first (R488). -/
theorem Dev.summarySee_sticky {α : Type} (φ : Dev → α) (hwr : ∀ (e : Dev) f v, f ∈ [D.Summary.FIRST_MEMBER, D.Summary.FIRST_SOURCE, D.Summary.FIRST_KNOWN,
      D.Summary.TIE] → φ (e.wr f 0 v) = φ e) (hflt : ∀ (e : Dev) x, φ { e with flt := x } = φ e) (m src t : Nat) (hhead : d.on D.Straps.HEAD 0 = true) :
    φ (d.summarySee m src t) = φ ((d.flag D.Summary.VALID 0 true).wr D.Summary.STICKY 0 (setBits (d.rd D.Summary.STICKY 0) m 1 1)) := by
  have hfirst : ∀ (e : Dev), φ ((e.wr D.Summary.FIRST_MEMBER 0 m).wr D.Summary.FIRST_SOURCE 0 src) = φ e := fun e =>
    (hwr _ _ _ (by decide)).trans (hwr _ _ _ (by decide))
  unfold Dev.summarySee
  rw [hhead, Bool.not_true, if_neg Bool.false_ne_true]
  dsimp only
  refine Dev.ite_eq φ rfl (Dev.ite_eq φ ?_ (Dev.ite_eq φ (Dev.ite_eq φ ?_ ?_) rfl))
  · exact (hwr _ _ _ (by decide)).trans ((hfirst _).trans (hflt _ _))
  · exact (hfirst _).trans (hwr _ _ _ (by decide))
  · exact hwr _ _ _ (by decide)

theorem Dev.valid_summarySee (m src t : Nat) (hhead : d.on D.Straps.HEAD 0 = true) : (d.summarySee m src t).on D.Summary.VALID 0 = true := by
  have hwr : ∀ (e : Dev) f v, f ∈ [D.Summary.FIRST_MEMBER, D.Summary.FIRST_SOURCE, D.Summary.FIRST_KNOWN, D.Summary.TIE] →
      (e.wr f 0 v).rd D.Summary.VALID 0 = e.rd D.Summary.VALID 0 := fun e f v hf =>
    Dev.rd_wr_apart _ _ _ _ _ _ ((show ∀ f ∈ [D.Summary.FIRST_MEMBER, D.Summary.FIRST_SOURCE, D.Summary.FIRST_KNOWN, D.Summary.TIE],
      Fld.apart f D.Summary.VALID = true by decide) f hf)
  unfold Dev.on
  rw [Dev.summarySee_sticky (fun e => e.rd D.Summary.VALID 0) hwr (fun _ _ => (rfl)) m src t hhead, Dev.rd_wr_apart _ _ _ _ _ _ (by decide)]
  exact Dev.on_flag_same _ _ _ _ rfl

theorem Dev.rd_setEnt_ne {k : Key} {g : Fld} {n : Nat} (v : Nat) (h : k ≠ g.key n) : (d.setEnt k v).rd g n = d.rd g n :=
  congrArg (fun e => bitsOf e g.lo g.w) (Dev.ent_setEnt_other d v h.symm)

theorem Dev.valid_summaryClear (hhead : d.on D.Straps.HEAD 0 = true) : d.summaryClear.on D.Summary.VALID 0 = d.on D.FirstError.VALID 0 := by
  have hfirst : (d.setEnt (D.Summary.VALID.key 0) 0).on D.FirstError.VALID 0 = d.on D.FirstError.VALID 0 :=
    congrArg (· == 1) (Dev.rd_setEnt_ne 0 (by decide))
  unfold Dev.summaryClear; dsimp only; rw [hfirst]
  split
  case isTrue hvalid =>
    rw [Dev.valid_summarySee _ _ _ ((congrArg (· == 1) (Dev.rd_setEnt_ne 0 (by decide))).trans hhead), hvalid]
  case isFalse hvalid =>
    rw [Bool.eq_false_iff.mpr hvalid]; unfold Dev.on Dev.rd; rw [Dev.ent_setEnt_same]; rfl

theorem Dev.ent_summaryClear (hnone : d.on D.FirstError.VALID 0 = false) : d.summaryClear.ent (D.Summary.VALID.key 0) = 0 := by
  have hfirst : (d.setEnt (D.Summary.VALID.key 0) 0).on D.FirstError.VALID 0 = d.on D.FirstError.VALID 0 :=
    congrArg (· == 1) (Dev.rd_setEnt_ne 0 (by decide))
  unfold Dev.summaryClear; dsimp only
  rw [hfirst, hnone, if_neg Bool.false_ne_true, Dev.ent_setEnt_same]

theorem countIf_le_length {α : Type} (p : α → Bool) (l : List α) : countIf p l ≤ l.length := by
  induction l with
  | nil => exact Nat.le_refl 0
  | cons a l ih => simp only [countIf, List.length_cons]; split <;> omega

/-- Fewer than three of one instance in the last 60 s, the block is reset (R478). -/
theorem Dev.rst_blkrst (src inst : Nat) (hblk : d.flt.blk.length < 3) :
    (d.blkrst src inst).rst.entering.length = d.rst.entering.length + 1 := by
  have hset : ∀ f, (d.setFlt f).rst = d.rst := fun _ => (rfl)
  have hfew : ∀ (p : Nat × Nat × Nat → Bool) r, ¬ 3 ≤ countIf p (d.flt.blk.filter r) := fun p r =>
    Nat.not_le.mpr (Nat.lt_of_le_of_lt (Nat.le_trans (countIf_le_length p _) (List.length_filter_le _ _)) hblk)
  unfold Dev.blkrst
  dsimp only
  rw [if_neg (hfew _ _)]
  refine Dev.ite_eq (fun e => e.rst.entering.length) ?_ ?_
  · rw [Dev.rst_request, List.length_append, hset]; rfl
  · rw [Dev.rst_request, List.length_append, hset]; rfl

theorem completes_faultCmdSummaryClear (hgrant : s.dev.grants q 0x0400 2 ⟨8, faultValue 5 0 0⟩ = true) (hhead : s.dev.on D.Straps.HEAD 0 = true) :
    Completes (.faultCmdSummaryClear q) s (fun t => t.dev.answered q St.OK = true ∧ t.dev.on D.Summary.VALID 0 = s.dev.on D.FirstError.VALID 0 ∧
      (s.dev.on D.FirstError.VALID 0 = true ∨ t.dev.ent (D.Summary.VALID.key 0) = 0)) := by
  have hcmd := Dev.faultCmd_eq (d := s.dev.atBody q) (w := s.dev.asker q) 0 0 (cmd := 5) (by decide) (by omega)
  have hhead' : (s.dev.atBody q).on D.Straps.HEAD 0 = true := by rw [Dev.on_atBody_off q (by decide), hhead]
  rw [if_neg (by decide), if_neg (by decide), if_neg (by decide), if_neg (by decide), if_pos rfl, if_pos hhead'] at hcmd
  have hvalid := Dev.valid_summaryClear (d := s.dev.atBody q) hhead'
  rw [Dev.on_atBody_off q (by decide)] at hvalid
  refine completes_serveWrite (act := fun w d => d.faultCmd w (faultValue 5 0 0)) rfl hgrant hcmd (by decide) ⟨Dev.answered_ok _, ?_, ?_⟩
  · rw [Dev.on_answer _ _ _ _ (by decide) (by decide), hvalid]
  · refine (Bool.eq_false_or_eq_true (s.dev.on D.FirstError.VALID 0)).imp id fun hnone => ?_
    rw [← Dev.on_atBody_off q (by decide)] at hnone
    dsimp only
    rw [Dev.ent_answer _ _ _ (fun n => by simp [Fld.key, D.Summary.VALID, D.MgCounters.TX_FRAMES])
      (fun n => by simp [Fld.key, D.Summary.VALID, D.PortCounters.TX_FRAMES]), Dev.ent_summaryClear hnone]

theorem completes_faultCmdBlkrst {src inst : Nat} (hgrant : s.dev.grants q 0x0400 2 ⟨8, faultValue 6 src inst⟩ = true)
    (hrole : 3 ≤ (s.dev.asker q).role) (hsrc : sourceNamed src = true) (hinst : inst < 65536) (hblk : s.dev.flt.blk.length < 3) :
    Completes (.faultCmdBlkrst q src inst) s (fun t => t.dev.answered q St.OK = true ∧
      t.dev.rst.entering.length = s.dev.rst.entering.length + 1) := by
  have hcmd := Dev.faultCmd_eq (d := s.dev.atBody q) src inst (cmd := 6) (by decide) (fun _ => hrole)
  rw [if_neg (by decide), if_neg (by decide), if_neg (by decide), if_neg (by decide), if_neg (by decide), if_pos rfl,
    Nat.mod_eq_of_lt (show src < 2 ^ 9 from sourceNamed_lt hsrc), Nat.mod_eq_of_lt (show inst < 2 ^ 16 from hinst), if_pos hsrc] at hcmd
  refine completes_serveWrite (act := fun w d => d.faultCmd w (faultValue 6 src inst)) rfl hgrant hcmd (by decide) ⟨Dev.answered_ok _, ?_⟩
  dsimp only
  rw [Dev.rst_answer, Dev.rst_blkrst src inst (by rwa [Dev.flt_atBody]), Dev.rst_atBody]

theorem completes_faultCmdChiprst {src : Nat} (hgrant : s.dev.grants q 0x0400 2 ⟨8, faultValue 7 src 0⟩ = true) (hrole : 3 ≤ (s.dev.asker q).role) :
    Completes (.faultCmdChiprst q src) s (fun t => t.dev.answered q St.OK = true ∧ t.dev.rst.entering.map (fun (r : Reset) => (r.reach, r.src)) =
      s.dev.rst.entering.map (fun (r : Reset) => (r.reach, r.src)) ++ [(Reach.WARM, 5)]) := by
  have hcmd := Dev.faultCmd_eq (d := s.dev.atBody q) src 0 (cmd := 7) (by decide) (fun _ => hrole)
  rw [if_neg (by decide), if_neg (by decide), if_neg (by decide), if_neg (by decide), if_neg (by decide), if_neg (by decide), if_pos rfl] at hcmd
  refine completes_serveWrite (act := fun w d => d.faultCmd w (faultValue 7 src 0)) rfl hgrant hcmd (by decide) ⟨Dev.answered_ok _, ?_⟩
  dsimp only
  rw [Dev.rst_answer, Dev.rst_request, List.map_append, Dev.rst_atBody]; rfl

theorem completes_faultCmdInject {src inst : Nat} (hgrant : s.dev.grants q 0x0400 2 ⟨8, faultValue 8 src inst⟩ = true)
    (hrole : 3 ≤ (s.dev.asker q).role) (hallowed : s.dev.injectAllowed = true) (hsrc : sourceNamed src = true) :
    Completes (.faultCmdInject q src inst) s (fun t => t.dev.answered q St.OK = true ∧ t.dev.on D.SourceStatus.PENDING src = true ∧
      t.dev.on D.SourceStatus.INJECTED src = true ∧ t.dev.raised.contains ⟨Src.FLT_INJECTED, 0, false⟩ = true) := by
  have hcmd := Dev.faultCmd_eq (d := s.dev.atBody q) src inst (cmd := 8) (by decide) (fun _ => hrole)
  have hallowed' : (s.dev.atBody q).injectAllowed = true := by
    rw [← hallowed]; unfold Dev.injectAllowed; rw [Dev.on_atBody_off q (by decide), Dev.rd_atBody_off q (by decide)]
  rw [if_neg (by decide), if_neg (by decide), if_neg (by decide), if_neg (by decide), if_neg (by decide), if_neg (by decide), if_neg (by decide),
    Nat.mod_eq_of_lt (show src < 2 ^ 9 from sourceNamed_lt hsrc), hallowed', hsrc, if_neg (by decide), if_neg (by decide)] at hcmd
  refine completes_serveWrite (act := fun w d => d.faultCmd w (faultValue 8 src inst)) rfl hgrant hcmd (by decide) ⟨Dev.answered_ok _, ?_, ?_, ?_⟩
  · rw [Dev.on_answer _ _ _ _ (by decide) (by decide), Dev.on, Dev.rd_raise, Dev.rd_latch hsrc _ _ _ (by decide)]
    exact Dev.pending_latched ..
  · rw [Dev.on_answer _ _ _ _ (by decide) (by decide), Dev.on, Dev.rd_raise, Dev.rd_latch hsrc _ _ _ (by decide)]
    exact Dev.injected_latched ..
  · rw [List.contains_iff_mem, Dev.raised_answer]; exact Dev.mem_raised_raise ..

end

/-- Settles O50: a command's bytes are read back from how they are packed; clearing reaches each source of its scope once and no other. -/
theorem faultCommandsComplete : Obligations.FaultCommandsComplete := by
  unfold Obligations.FaultCommandsComplete
  refine ⟨?_, ?_, ?_, ?_, ?_, ?_, ?_, ?_⟩
  · intro s q src hgrant hsrc hactive
    exact completes_faultCmdClear hgrant hsrc hactive
  · intro s q src hgrant hsrc
    exact completes_faultCmdClearGroup hgrant hsrc
  · intro s q hgrant
    exact completes_faultCmdClearAll hgrant
  · intro s q hgrant
    exact completes_faultCmdFirstClear hgrant
  · intro s q hgrant hhead
    exact completes_faultCmdSummaryClear hgrant hhead
  · intro s q src inst hgrant hrole hsrc _ hinst hblk
    exact completes_faultCmdBlkrst hgrant hrole hsrc hinst hblk
  · intro s q src hgrant hrole
    exact completes_faultCmdChiprst hgrant hrole
  · intro s q src inst hgrant hrole hallowed hsrc _ _
    exact completes_faultCmdInject hgrant hrole hallowed hsrc

end Sys2Proof.Machine
end

section
/-! Obligations of 18_reset_startup_bus.md: the sources of a reset (R492, R494, R497, R544). -/

namespace Sys2Proof.Machine
open Sys2Proof

variable {d : Dev}

/-! ## A POR asserts at once -/

/-- The fields that a POR writes after it has cleared its domains and has been recorded (R487, R453, R504). -/
def porFields : List Fld := safeFields ++ [D.Sec.DEBUG_STATE, D.Flt.ERRN_STATE]

/-- A device whose domains a POR has cleared, and in which it is recorded and stands as asserted (R492, R495, R496). -/
def Dev.porStands (d : Dev) (r : Reset) : Dev :=
  let d := if d.upd = Upd.RECEIVING then d.updateDrop else d
  let d := (((d.wiped 0).sat D.Rst.RESET_COUNTS 0 1).stopLoad.recordCause r).wr D.Rst.STARTUP_STAGE 0 0
  d.setRst (fun x => { x with asserted := x.asserted ++ [{ r with at_ := d.wall }], entering := [], keep := [] })

section por

variable {α : Type} {φ : Dev → α} (hwr : ∀ (e : Dev) f n v, f ∈ porFields → φ (e.wr f n v) = φ e)
  (hparts : ∀ (e : Dev) flow sec flt out, φ { e with flow := flow, sec := sec, flt := flt, out := out } = φ e)
  (hrst : ∀ (e : Dev) recovery drive until_, φ (e.setRst fun x => { x with recovery := recovery, rstnDrive := drive, rstnUntil := until_ }) = φ e)
include hwr

/-- What shows an output's safe state writes its SAFE flags alone. -/
theorem Dev.showSafe_eq (e : Dev) (c : Nat) : φ (e.showSafe c true) = φ e := by
  have hflag : ∀ (e : Dev) f f' n, f ∈ porFields → f' ∈ porFields →
      φ (if true then e.flag f n true else (e.flag f n true).flag f' n false) = φ e := fun e f f' n hf hf' =>
    Dev.ite_eq φ (hwr _ _ _ _ hf) ((hwr _ _ _ _ hf').trans (hwr _ _ _ _ hf))
  exact Dev.ite_eq φ ((Dev.each_eq φ (fun e n => hflag e _ _ n (by decide) (by decide)) _ _).trans (hwr _ _ _ _ (by decide)))
    (Dev.ite_eq φ ((hflag _ _ _ _ (by decide) (by decide)).trans (hwr _ _ _ _ (by decide))) (hwr _ _ _ _ (by decide)))

include hparts

theorem Dev.allSafe_eq (e : Dev) : φ e.allSafe = φ e :=
  Dev.each_eq φ (fun e c => (hparts _ _ _ _ _).trans (Dev.showSafe_eq hwr e c)) _ _

omit hwr in
theorem Dev.pinsIdle_eq (e : Dev) (cold : Bool) (keep gpio : List Nat) : φ (e.pinsIdle cold keep gpio) = φ e := by
  have hpins : ∀ (l : List (Nat × Nat)) (e : Dev), φ (l.foldl (fun (d : Dev) x => d.emit (.pin x.1 x.2)) e) = φ e := by
    intro l
    induction l with
    | nil => intro e; rfl
    | cons x l ih => intro e; rw [List.foldl_cons, ih]; exact hparts _ _ _ _ _
  exact (hpins _ _).trans (hparts _ _ _ _ _)

theorem Dev.debugPor_errnFall_eq (e : Dev) : φ e.debugPor.errnFall = φ e := by
  have hdebug : φ e.debugPor = φ e := Dev.ite_eq φ ((hparts _ _ _ _ _).trans (hwr _ _ _ _ (by decide))) rfl
  exact Dev.ite_eq φ hdebug ((hparts _ _ _ _ _).trans ((hwr _ _ _ _ (by decide)).trans ((hparts _ _ _ _ _).trans hdebug)))

include hrst

/-- Past its record, a POR touches only what shows that outputs are safe, the debug state, ERR_N and RST_N. -/
theorem Dev.porNow_eq (src till : Nat) : φ (d.porNow src till) = φ (d.porStands ⟨Reach.POR, src, 0, 0, 0, d.now, d.wall, till⟩) := by
  have hlow : ∀ e : Dev, φ e.rstnLow = φ e := fun e => (hrst _ _ _ _).trans (Dev.ite_eq φ rfl (hparts _ _ _ _ _))
  have hshown : ∀ (e : Dev) keep gpio, φ ((((e.setRst (fun x => { x with recovery := false })).pinsIdle true keep gpio).allSafe).debugPor.errnFall) = φ e :=
    fun e keep gpio => (Dev.debugPor_errnFall_eq hwr hparts _).trans ((Dev.allSafe_eq hwr hparts _).trans ((Dev.pinsIdle_eq hparts _ _ _ _).trans (hrst _ _ _ _)))
  unfold Dev.porNow Dev.assertReset Dev.drivesOut
  simp only [Reach.POR, Reach.BLOCK, Reach.DOMAIN, Reach.WARM, false_and, and_true, if_false, if_true, beq_self_eq_true,
    Bool.true_or, Nat.zero_le, decide_true, OfNat.zero_ne_ofNat]
  exact (hlow _).trans (hshown _ _ _)

end por

/-! ## What a POR leaves -/

theorem Dev.asserted_porStands (r : Reset) : { r with at_ := (d.porStands r).wall } ∈ (d.porStands r).rst.asserted :=
  List.mem_append_right _ (List.mem_singleton_self _)

theorem Dev.entering_porStands (r : Reset) : (d.porStands r).rst.entering = [] := (rfl)

theorem Dev.stage_porStands (r : Reset) : (d.porStands r).stage = 0 := by
  have hset : ∀ (e : Dev) f, (e.setRst f).rd D.Rst.STARTUP_STAGE 0 = e.rd D.Rst.STARTUP_STAGE 0 := fun _ _ => (rfl)
  unfold Dev.stage Dev.porStands; dsimp only
  rw [hset, Dev.rd_wr_same]; rfl

theorem Dev.raw_porStands (r : Reset) : (d.porStands r).raw = 0 := by
  have hset : ∀ (e : Dev) f, (e.setRst f).raw = e.raw := fun _ _ => (rfl)
  have hstop : ∀ e : Dev, e.stopLoad.raw = e.raw := fun _ => (rfl)
  have hcause : ∀ e : Dev, (e.recordCause r).raw = e.raw := fun e => by
    unfold Dev.recordCause; dsimp only
    exact Dev.ite_eq Dev.raw rfl (by simp only [Dev.flag, Dev.wr_raw])
  have hwiped : ∀ e : Dev, (e.wiped 0).raw = 0 := fun _ => (rfl)
  unfold Dev.porStands; dsimp only
  rw [hset, Dev.wr_raw, hcause, hstop, Dev.sat, Dev.wr_raw, hwiped]

/-- A POR that comes at once stands, alone with those asserted before; start-up is at RESET and device time stands at 0. -/
theorem Dev.porNow_stands (src till : Nat) : (d.porNow src till).rst.asserted.any (fun r => r.reach == 0 && r.src == src) = true ∧
    (d.porNow src till).rst.entering = [] ∧ (d.porNow src till).stage = 0 ∧ (d.porNow src till).raw = 0 ∧ (d.porNow src till).inReset = true := by
  have hstage : ∀ f ∈ porFields, Fld.apart f D.Rst.STARTUP_STAGE = true := by decide
  have hasserted := Dev.porNow_eq (φ := fun e => e.rst.asserted) (d := d) (fun _ _ _ _ _ => by rw [Dev.wr_rst]) (fun _ _ _ _ _ => (rfl)) (fun _ _ _ _ => (rfl)) src till
  have hmem := Dev.asserted_porStands (d := d) ⟨Reach.POR, src, 0, 0, 0, d.now, d.wall, till⟩
  rw [← hasserted] at hmem
  refine ⟨List.any_eq_true.mpr ⟨_, hmem, by simp [Reach.POR]⟩, ?_, ?_, ?_, List.any_eq_true.mpr ⟨_, hmem, by simp [Reach.POR]⟩⟩
  · exact (Dev.porNow_eq (φ := fun e => e.rst.entering) (fun _ _ _ _ _ => by rw [Dev.wr_rst]) (fun _ _ _ _ _ => (rfl)) (fun _ _ _ _ => (rfl)) src till).trans
      (Dev.entering_porStands _)
  · exact (Dev.porNow_eq (φ := Dev.stage) (fun _ f _ _ hf => Dev.rd_wr_apart _ _ _ _ _ _ (hstage f hf)) (fun _ _ _ _ _ => (rfl)) (fun _ _ _ _ => (rfl)) src till).trans
      (Dev.stage_porStands _)
  · exact (Dev.porNow_eq (φ := Dev.raw) (fun _ _ _ _ _ => Dev.wr_raw ..) (fun _ _ _ _ _ => (rfl)) (fun _ _ _ _ => (rfl)) src till).trans
      (Dev.raw_porStands _)

/-! ## One lemma per source -/

section

variable {s : State} {q : Rcp} {dt : Nat}

theorem completes_porstAssert {low : Nat} (hlow : 250 ≤ low) : Completes (.porstAssert dt low) s (fun t =>
    t.dev.rst.asserted.any (fun r => r.reach == 0 && r.src == 1) = true ∧ t.dev.rst.entering = [] ∧ t.dev.stage = 0 ∧ t.dev.raw = 0 ∧ t.mem = []) := by
  obtain ⟨hasserted, hentering, hstage, hraw, hreset⟩ := Dev.porNow_stands (d := s.dev.elapse (dt + 250)) 0x01 ((s.dev.elapse (dt + 250)).wall + (low - 250))
  refine ⟨_, rfl, ?_⟩
  simp only [if_neg (Nat.not_lt.mpr hlow)]
  exact ⟨hasserted, hentering, hstage, hraw, if_pos hreset⟩

theorem completes_supplyFault {kind ns : Nat} (hkind : kind ≤ 1) (hns : 10000 ≤ ns) : Completes (.supplyFault dt kind ns) s (fun t =>
    t.dev.rst.asserted.any (fun r => r.reach == 0 && r.src == 2) = true ∧ t.dev.rst.entering = [] ∧ t.dev.stage = 0 ∧ t.mem = []) := by
  have hleast : ¬ (2 < kind ∨ ns < if kind = 0 then 1000 else 10000) := by split <;> omega
  obtain ⟨hasserted, hentering, hstage, -, hreset⟩ := Dev.porNow_stands (d := s.dev.elapse (dt + if kind = 0 then 1000 else 10000)) 0x02
    ((s.dev.elapse (dt + if kind = 0 then 1000 else 10000)).wall + (ns - if kind = 0 then 1000 else 10000))
  refine ⟨_, rfl, ?_⟩
  simp only [if_neg (show ¬ kind = 2 by omega), if_neg hleast]
  exact ⟨hasserted, hentering, hstage, if_pos hreset⟩

theorem completes_rstNInput {low : Nat} (hlow : 250 ≤ low) (hdrive : s.dev.rst.rstnDrive = false) : Completes (.rstNInput dt low) s (fun t =>
    t.dev.rst.entering.map (fun (r : Reset) => (r.reach, r.src)) =
      s.dev.rst.entering.map (fun (r : Reset) => (r.reach, r.src)) ++ [(if s.dev.rd D.Rst.RST_N_REACH 0 = 1 then 1 else 2, 3)]) := by
  have hdrive' : ¬ (s.dev.elapse (dt + 250)).rst.rstnDrive = true := Bool.not_eq_true _ ▸ hdrive
  have hrst : (s.dev.elapse (dt + 250)).rst = s.dev.rst := (rfl)
  have hset : ∀ (e : Dev) f, (e.setRst f).rst = f e.rst := fun _ _ => (rfl)
  refine ⟨_, rfl, ?_⟩
  simp only [if_neg (Nat.not_lt.mpr hlow), if_neg hdrive']
  rw [Dev.rstnRequest, hset, Dev.rst_request, Dev.rd_elapse, hrst]
  simp [Reach.COLD, Reach.WARM]

/-- A RESET_CMD that is granted and of a command and domain that exist asks for its reset. -/
theorem Dev.resetCmd_eq {v : Nat} (hcmd : 1 ≤ bitsOf v 24 8 ∧ bitsOf v 24 8 ≤ 3) (hrest : v % 65536 = 0)
    (hdom : (if bitsOf v 24 8 = 3 then decide (7 < bitsOf v 16 8) else bitsOf v 16 8 != 0) = false) :
    d.resetCmd v = (d.request (bitsOf v 24 8) 0x04 0 (bitsOf v 16 8) 0, St.OK) := by
  unfold Dev.resetCmd; dsimp only
  rw [hdom, if_neg (by simp only [Bool.false_eq_true, or_false]; omega)]

theorem completes_resetCmdCold (hgrant : s.dev.grants q 0x0510 1 ⟨4, 1 * 2 ^ 24⟩ = true) : Completes (.resetCmdCold q) s (fun t =>
    t.dev.answered q St.OK = true ∧ t.dev.rst.entering.map (fun (r : Reset) => (r.reach, r.src)) =
      s.dev.rst.entering.map (fun (r : Reset) => (r.reach, r.src)) ++ [(1, 4)]) := by
  refine completes_serveWrite (act := fun _ d => d.resetCmd (1 * 2 ^ 24)) rfl hgrant (Dev.resetCmd_eq (by decide) (by decide) (by decide)) (by decide)
    ⟨Dev.answered_ok _, ?_⟩
  rw [Dev.rst_answer, Dev.rst_request, List.map_append, Dev.rst_atBody]; rfl

theorem completes_resetCmdWarm (hgrant : s.dev.grants q 0x0510 1 ⟨4, 2 * 2 ^ 24⟩ = true) : Completes (.resetCmdWarm q) s (fun t =>
    t.dev.answered q St.OK = true ∧ t.dev.rst.entering.map (fun (r : Reset) => (r.reach, r.src)) =
      s.dev.rst.entering.map (fun (r : Reset) => (r.reach, r.src)) ++ [(2, 4)]) := by
  refine completes_serveWrite (act := fun _ d => d.resetCmd (2 * 2 ^ 24)) rfl hgrant (Dev.resetCmd_eq (by decide) (by decide) (by decide)) (by decide)
    ⟨Dev.answered_ok _, ?_⟩
  rw [Dev.rst_answer, Dev.rst_request, List.map_append, Dev.rst_atBody]; rfl

theorem completes_resetCmdDomain {dom : Nat} (hgrant : s.dev.grants q 0x0510 1 ⟨4, 3 * 2 ^ 24 + dom * 2 ^ 16⟩ = true) (hdom : dom ≤ 7) :
    Completes (.resetCmdDomain q dom) s (fun t => t.dev.answered q St.OK = true ∧ t.dev.rst.entering.map (fun (r : Reset) => (r.reach, r.src, r.dom)) =
      s.dev.rst.entering.map (fun (r : Reset) => (r.reach, r.src, r.dom)) ++ [(3, 4, dom)]) := by
  have hbyte : dom % 256 = dom := Nat.mod_eq_of_lt (by omega)
  have hcmd : bitsOf (3 * 2 ^ 24 + dom * 2 ^ 16) 24 8 = 3 := by unfold bitsOf; omega
  have hof : bitsOf (3 * 2 ^ 24 + dom * 2 ^ 16) 16 8 = dom := by unfold bitsOf; omega
  have hact := Dev.resetCmd_eq (d := s.dev.atBody q) (v := 3 * 2 ^ 24 + dom * 2 ^ 16) (by omega) (by omega) (by rw [hcmd, hof, if_pos rfl]; simp; omega)
  rw [hcmd, hof] at hact
  refine completes_serveWrite (act := fun _ d => d.resetCmd (3 * 2 ^ 24 + dom * 2 ^ 16)) (show execResetCmdDomain q dom s = _ by unfold execResetCmdDomain; rw [hbyte]) hgrant hact (by decide)
    ⟨Dev.answered_ok _, ?_⟩
  rw [Dev.rst_answer, Dev.rst_request, List.map_append, Dev.rst_atBody]; rfl

/-- The expiries of a domain among those that count: the earlier ones of the last 60 s, and this one (R494). -/
theorem countIf_watchdogs (l : List (Nat × Nat)) (dom : Nat) (recent : Nat × Nat → Bool) (t : Nat) :
    countIf (fun w => w.1 == dom) (l.filter (fun w => w.1 != dom || recent w) ++ [(dom, t)]) = countIf (fun w => w.1 == dom && recent w) l + 1 := by
  induction l with
  | nil => simp [countIf]
  | cons w l ih =>
    rw [countIf, List.filter_cons]
    by_cases hdom : w.1 = dom <;> by_cases hrecent : recent w = true <;> simp [hdom, hrecent, countIf, ih]
    all_goals omega

/-- A watchdog expiry in a domain that runs is noted and raised; at the third within 60 s the device is reset, before it the domain (R494). -/
theorem completes_watchdogExpiry {dom : Nat} (hdom : dom ≤ 7) (hrun : s.dev.inReset = false)
    (hout : s.dev.rst.asserted.any (fun r => r.reach == 3 && r.dom == dom) = false) :
    Completes (.watchdogExpiry dt dom) s (fun t => (∃ time wall, t.dev.rst.entering = s.dev.rst.entering ++
      [if 2 ≤ countIf (fun (w : Nat × Nat) => w.1 == dom && decide ((s.dev.elapse dt).wall < w.2 + 60000000000)) s.dev.rst.watchdogs
        then ⟨2, 7, dom, 0, 0, time, wall, 0⟩ else ⟨3, 7, dom, dom, 0, time, wall, 0⟩]) ∧ t.dev.raised.contains ⟨Src.RST_WATCHDOG, dom, false⟩ = true) := by
  have hruns : ¬ (7 < dom ∨ (s.dev.elapse dt).inReset = true ∨ s.dev.rst.asserted.any (fun r => r.reach == 3 && r.dom == dom) = true) := by
    rintro (h | h | h)
    · omega
    · rw [Dev.inReset_elapse, hrun] at h; cases h
    · exact absurd (hout.symm.trans h) (by decide)
  have hraised : ∀ (e : Dev) reach dom', (e.request reach 7 dom dom' 0).raised = e.raised := fun e reach dom' => by
    unfold Dev.request; dsimp only
    exact Dev.ite_eq Dev.raised (Dev.each_eq Dev.raised (fun e c => Dev.safeNow_eq Dev.raised (fun _ _ _ _ _ => Dev.wr_raised ..) (fun _ _ => (rfl)) e c) _ _) rfl
  have hcount := countIf_watchdogs s.dev.rst.watchdogs dom (fun w => decide ((s.dev.elapse dt).wall < w.2 + 60000000000)) (s.dev.elapse dt).wall
  have hlog : (s.dev.elapse dt).rst = s.dev.rst := (rfl)
  have hentering : ∀ (e : Dev) w, ((e.setRst (fun x => { x with watchdogs := w })).raise Src.RST_WATCHDOG dom).rst.entering = e.rst.entering := fun _ _ => (rfl)
  refine ⟨_, rfl, ?_⟩
  simp only [hlog, if_neg hruns, hcount]
  by_cases hthird : 2 ≤ countIf (fun (w : Nat × Nat) => w.1 == dom && decide ((s.dev.elapse dt).wall < w.2 + 60000000000)) s.dev.rst.watchdogs
  · rw [if_pos (Nat.succ_le_succ hthird)]; simp only [if_pos hthird]
    refine ⟨⟨_, _, by rw [Dev.rst_request, hentering, hlog]; rfl⟩, ?_⟩
    rw [List.contains_iff_mem, hraised]; exact Dev.mem_raised_raise ..
  · rw [if_neg (fun h => hthird (Nat.le_of_succ_le_succ h))]; simp only [if_neg hthird]
    refine ⟨⟨_, _, by rw [Dev.rst_request, hentering, hlog]; rfl⟩, ?_⟩
    rw [List.contains_iff_mem, hraised]; exact Dev.mem_raised_raise ..

end

/-- Settles O51: a POR clears its domains and stands at once; every other source puts one request behind those in their entry delay. -/
theorem resetSourcesComplete : Obligations.ResetSourcesComplete := by
  unfold Obligations.ResetSourcesComplete
  refine ⟨?_, ?_, ?_, ?_, ?_, ?_, ?_, ?_⟩
  · intro s dt low hlow
    exact completes_porstAssert hlow
  · intro s dt kind ns hkind hns
    exact completes_supplyFault hkind hns
  · intro s dt low hlow hdrive
    exact completes_rstNInput hlow hdrive
  · intro s q hgrant
    exact completes_resetCmdCold hgrant
  · intro s q hgrant
    exact completes_resetCmdWarm hgrant
  · intro s q dom hgrant hdom
    exact completes_resetCmdDomain hgrant hdom
  · intro s dt dom hdom hrun hout hfew
    obtain ⟨t, ht, ⟨time, wall, hentering⟩, hraised⟩ := completes_watchdogExpiry (dt := dt) hdom hrun hout
    refine ⟨t, ht, ?_, hraised⟩
    rw [hentering, if_neg (by omega), List.map_append]; rfl
  · intro s dt dom hdom hrun hout hthird
    obtain ⟨t, ht, ⟨time, wall, hentering⟩, hraised⟩ := completes_watchdogExpiry (dt := dt) hdom hrun hout
    refine ⟨t, ht, ?_⟩
    dsimp only; rw [hentering, if_pos hthird, List.map_append]; rfl

end Sys2Proof.Machine
end

section
/-! Obligations of 18_reset_startup_bus.md: the bus matrix (R506 to R518). -/

namespace Sys2Proof.Machine
open Sys2Proof

variable {d : Dev}

/-! ## The frame store after the bytes a write enables -/

theorem Memory.writeAll_cons (m : List Host.Cell) (a b : Nat) (t : List (Nat × List Nat)) :
    Memory.writeAll m ((a, [b]) :: t) = Memory.writeAll (Memory.write m a (BitVec.ofNat 8 b)) t := (rfl)

theorem Memory.read_writeAll_named {a i : Nat} (f : Nat → Nat) {l : List Nat} (hi : i ∈ l) (m : List Host.Cell) :
    Memory.read (Memory.writeAll m (l.map fun i => (a + i, [f i]))) (a + i) = BitVec.ofNat 8 (f i) := by
  have kept : ∀ (l : List Nat) (m : List Host.Cell), Memory.read m (a + i) = BitVec.ofNat 8 (f i) →
      Memory.read (Memory.writeAll m (l.map fun i => (a + i, [f i]))) (a + i) = BitVec.ofNat 8 (f i) := by
    intro l
    induction l with
    | nil => exact fun _ h => h
    | cons j l ih =>
      intro m h
      rw [List.map_cons, Memory.writeAll_cons]
      refine ih _ ?_
      rcases eq_or_ne i j with rfl | hij
      · exact Memory.read_write_same ..
      · rw [Memory.read_write_other m _ (by omega), h]
  induction l generalizing m with
  | nil => cases hi
  | cons j l ih =>
    rw [List.map_cons, Memory.writeAll_cons]
    rcases List.mem_cons.mp hi with rfl | hi
    · exact kept l _ (Memory.read_write_same ..)
    · exact ih hi _

theorem Memory.read_writeAll_others {a c : Nat} (f : Nat → Nat) {l : List Nat} (hc : ∀ i ∈ l, c ≠ a + i) (m : List Host.Cell) :
    Memory.read (Memory.writeAll m (l.map fun i => (a + i, [f i]))) c = Memory.read m c := by
  induction l generalizing m with
  | nil => rfl
  | cons j l ih =>
    rw [List.map_cons, Memory.writeAll_cons, ih (fun i hi => hc i (List.mem_cons_of_mem _ hi)), Memory.read_write_other m _ (hc j List.mem_cons_self)]

theorem enabledBytes_inside {a n : Nat} (data enables : Nat) (h : a + n ≤ memSize) :
    (enabledBytes a n data enables).find? (fun w => decide (memSize < w.1 + w.2.length)) = none := by
  refine List.find?_eq_none.mpr fun w hw => ?_
  obtain ⟨i, hi, rfl⟩ := List.mem_map.mp hw
  have := List.mem_range.mp (List.mem_filter.mp hi).1
  simp only [List.length_singleton, decide_eq_true_eq]; omega

theorem Memory.read_enabledBytes_named {a n i : Nat} (data enables : Nat) (hi : i < n) (m : List Host.Cell) :
    Memory.read (Memory.writeAll m (enabledBytes a n data enables)) (a + i) =
      if bit enables (n - 1 - i) then BitVec.ofNat 8 (byteAt n data i) else Memory.read m (a + i) := by
  split
  case isTrue hbit => exact Memory.read_writeAll_named (byteAt n data) (List.mem_filter.mpr ⟨List.mem_range.mpr hi, hbit⟩) m
  case isFalse hbit =>
    refine Memory.read_writeAll_others (byteAt n data) (fun j hj heq => hbit ?_) m
    rw [Nat.add_left_cancel heq]; exact (List.mem_filter.mp hj).2

theorem Memory.read_enabledBytes_others {a n c : Nat} (data enables : Nat) (hc : c < a ∨ a + n ≤ c) (m : List Host.Cell) :
    Memory.read (Memory.writeAll m (enabledBytes a n data enables)) c = Memory.read m c := by
  refine Memory.read_writeAll_others (byteAt n data) (fun j hj heq => ?_) m
  have := List.mem_range.mp (List.mem_filter.mp hj).1
  omega

/-- A command whose queued bytes lie inside the frame store stores them. -/
theorem State.actMem_of_inside (s : State) (f : Dev → Dev) {w : List (Nat × List Nat)} (h : (f s.dev).memQ = w)
    (hin : w.find? (fun x => decide (memSize < x.1 + x.2.length)) = none) :
    s.actMem f = .next { s with dev := { f s.dev with memQ := [] }, mem := Memory.writeAll s.mem w } := by
  simp only [State.actMem, h, hin]

/-! ## Responses -/

/-- The error log's elements move up by one, and the new error takes the first: dictionary entries alone are written (R516). -/
theorem Dev.logError_eq {α : Type} {φ : Dev → α} (hset : ∀ (e : Dev) i v, φ (e.setEnt (D.ErrorLog.RESP.key i) v) = φ e) (resp master target : Nat)
    (write : Bool) (addr : Nat) : φ (d.logError resp master target write addr) = φ d :=
  (hset _ _ _).trans (Dev.each_eq φ (fun _ _ => hset _ _ _) _ _)

/-- A response is sent; beside that it counts, and the default target and an ECC error raise (R510). -/
theorem Dev.busRespond_eq {α : Type} {φ : Dev → α} (hset : ∀ (e : Dev) k v, φ (e.setEnt k v) = φ e) {resp : Nat}
    (hraise : resp = BusResp.ERR_DECODE ∨ resp = BusResp.ERR_ECC → ∀ (e : Dev) src inst, φ (e.raise src inst) = φ e)
    (d : Dev) (master target : Nat) (write : Bool) (addr data : Nat) :
    φ (d.busRespond resp master target write addr data) = φ (d.emit (.busResponse master target resp (if resp = 0 ∧ !write then data else 0))) := by
  have hlog := fun e : Dev => Dev.logError_eq (d := e) (φ := φ) (fun e _ _ => hset e _ _) resp master target write addr
  unfold Dev.busRespond
  dsimp only
  split
  · rfl
  · split
    · exact (hset _ _ _).trans ((hlog _).trans ((hset _ _ _).trans (hset _ _ _)))
    split
    · exact (hset _ _ _).trans ((hlog _).trans ((hset _ _ _).trans (hset _ _ _)))
    split
    case isTrue hdecode => exact (hraise (.inl hdecode) _ _ _).trans ((hlog _).trans ((hset _ _ _).trans (hset _ _ _)))
    split
    case isTrue hecc => exact (hraise (.inr hecc) _ _ _).trans ((hlog _).trans ((hset _ _ _).trans (hset _ _ _)))
    · exact (hlog _).trans ((hset _ _ _).trans (hset _ _ _))

theorem Dev.out_busRespond (resp master target : Nat) (write : Bool) (addr data : Nat) : (d.busRespond resp master target write addr data).out =
    d.out ++ [.busResponse master target resp (if resp = 0 ∧ !write then data else 0)] :=
  Dev.busRespond_eq (φ := Dev.out) (fun _ _ _ => Dev.setEnt_out ..) (fun _ _ _ _ => rfl) ..

theorem Dev.busRespond_decode (master target : Nat) (write : Bool) (addr data : Nat) : d.busRespond BusResp.ERR_DECODE master target write addr data =
    ((((d.emit (.busResponse master target 2 0)).sat D.Bus.ERRORS 0 1).sat D.MasterStatus.ERRORS master 1).logError 2 master target write addr).raise
      Src.BUS_DEFAULT_TARGET master := (rfl)

theorem Dev.memQ_busRespond (resp master target : Nat) (write : Bool) (addr data : Nat) :
    (d.busRespond resp master target write addr data).memQ = d.memQ :=
  Dev.busRespond_eq (φ := Dev.memQ) (fun _ _ _ => Dev.setEnt_memQ ..) (fun _ _ _ _ => rfl) ..

/-- What is in flight to a target is answered: nothing but the flight list, counters and what is sent changes (R514). -/
theorem Dev.busIsolate_eq {α : Type} {φ : Dev → α} (hset : ∀ (e : Dev) k v, φ (e.setEnt k v) = φ e) (hemit : ∀ (e : Dev) x, φ (e.emit x) = φ e) (t : Nat) :
    φ (d.busIsolate t) = φ { d with bus := { d.bus with flight := d.bus.flight.filter (fun f => f.target != t) } } := by
  have hall : ∀ (l : List Flight) (e : Dev), φ (l.foldl (fun (d : Dev) (f : Flight) => d.busRespond BusResp.ERR_ISOLATED f.master t f.write f.addr 0) e) = φ e := by
    intro l
    induction l with
    | nil => exact fun _ => rfl
    | cons f l ih => intro e; rw [List.foldl_cons, ih, Dev.busRespond_eq hset (fun h => absurd h (by decide)), hemit]
  exact hall _ _

/-- What was sent first stays the first of what is sent. -/
theorem Dev.head_busIsolate {x : Emission} (h : d.out.head? = some x) (t : Nat) : (d.busIsolate t).out.head? = some x := by
  have hall : ∀ (l : List Flight) (e : Dev), e.out.head? = some x →
      (l.foldl (fun (d : Dev) (f : Flight) => d.busRespond BusResp.ERR_ISOLATED f.master t f.write f.addr 0) e).out.head? = some x := by
    intro l
    induction l with
    | nil => exact fun _ h => h
    | cons f l ih => intro e h; exact ih _ (by rw [Dev.out_busRespond, List.head?_append, h]; rfl)
  exact hall _ _ h

theorem Dev.bus_cutTarget (t cause : Nat) : (d.cutTarget t cause).bus =
    { d.bus with cut := nput d.bus.cut 0 t cause, flight := d.bus.flight.filter (fun f => f.target != t) } := by
  have hiso := fun e : Dev => Dev.busIsolate_eq (d := e) (φ := Dev.bus) (fun _ _ _ => Dev.setEnt_bus ..) (fun _ _ => Dev.emit_bus ..) t
  have hbus : (if d.isolation t = 0 then d.raise Src.BUS_ISOLATED t else d).bus = d.bus := Dev.ite_eq Dev.bus rfl rfl
  unfold Dev.cutTarget; dsimp only
  rw [hiso, hbus]

theorem Dev.cut_cutTarget (t cause : Nat) : (d.cutTarget t cause).bus.cut = nput d.bus.cut 0 t cause := by rw [Dev.bus_cutTarget]

theorem Dev.raised_cutTarget {r : Raise} (h : r ∈ d.raised) (t cause : Nat) : r ∈ (d.cutTarget t cause).raised := by
  have hiso := fun e : Dev => Dev.busIsolate_eq (d := e) (φ := Dev.raised) (fun _ _ _ => Dev.setEnt_raised ..) (fun _ _ => Dev.emit_raised ..) t
  unfold Dev.cutTarget; dsimp only
  rw [hiso]
  split
  · exact List.mem_append_left _ h
  · exact h

theorem Dev.head_cutTarget {x : Emission} (h : d.out.head? = some x) (t cause : Nat) : (d.cutTarget t cause).out.head? = some x := by
  unfold Dev.cutTarget; dsimp only
  refine Dev.head_busIsolate ?_ t
  exact (Dev.ite_eq (fun e => e.out.head?) h h)

/-! ## A transaction that its master may make -/

section

variable {s : State} {q : Rcp} {dt master addr beats data enables placed : Nat} {write : Bool}

theorem masterLimit_pos (m : Nat) : 0 < masterLimit m := by unfold masterLimit; split <;> [omega; (split <;> [omega; (split <;> omega)])]

/-- A transaction whose form and master let it through, to an address that exists (R506 to R510). -/
def BusIssued (d : Dev) (master addr beats : Nat) : Prop :=
  d.bus.flight = [] ∧ d.masterReset master = false ∧ master ≤ 8 ∧ 1 ≤ beats ∧ beats ≤ 16 ∧ addr % 8 = 0 ∧ addr < 2 ^ 32

theorem BusIssued.not_ignored (h : BusIssued d master addr beats) :
    ¬ (9 < master ∨ d.masterReset master = true ∨ (master = 9 ∧ d.rd D.Sec.DEBUG_STATE 0 ≠ 2) ∨ beats = 0 ∨ 16 < beats ∨ addr % 8 ≠ 0 ∨ 2 ^ 32 ≤ addr
      ∨ masterLimit master ≤ countIf (fun (f : Flight) => f.master == master) d.bus.flight) := by
  obtain ⟨hflight, hreset, hmaster, hbeats, hbeats', haddr, haddr'⟩ := h
  have := masterLimit_pos master
  rw [hflight, hreset]
  simp only [countIf, Bool.false_eq_true, false_or]
  omega

/-- One to a target its master may reach, and which is not isolated, is answered by the target at once. -/
theorem BusIssued.accepted (h : BusIssued d master addr beats) (htarget : addr / 2 ^ 24 ≤ 23)
    (haccess : busAccess master (addr / 2 ^ 24) write addr beats = true) (hiso : d.isolation (addr / 2 ^ 24) = 0) (mem : List Host.Cell) :
    d.busIssue mem master addr beats write data enables (some 0) placed =
      (let d := { d with bus := { d.bus with last := nput d.bus.last 0 (addr / 2 ^ 24) master } }
       let r := d.busAnswer (addr / 2 ^ 24) (placed + addr % 2 ^ 24) (8 * beats) 0
       let fs := addr / 2 ^ 24 == fsWindow && r == 0
       let d := if fs then d.add D.FsPortCounters.BYTES 10 (8 * beats) else d
       let d := if fs && write then { d with memQ := d.memQ ++ enabledBytes (placed + addr % 2 ^ 24) (8 * beats) data enables } else d
       d.busRespond r master (addr / 2 ^ 24) write addr
         (if fs then ofBytes (Memory.readBytes mem (placed + addr % 2 ^ 24) (8 * beats)) else data)) := by
  have hwaits : ¬ d.bus.flight.any (fun f => f.master == master && f.target == addr / 2 ^ 24) = true := by rw [h.1]; exact Bool.false_ne_true
  unfold Dev.busIssue
  refine (if_neg h.not_ignored).trans ((if_neg ?_).trans ((if_neg ?_).trans ((if_neg hwaits).trans rfl)))
  · rw [haccess]; simp; omega
  · rw [hiso]; decide

theorem BusIssued.decode (h : BusIssued d master addr beats) (htarget : 23 < addr / 2 ^ 24) (mem : List Host.Cell) (answer : Option Nat) :
    d.busIssue mem master addr beats write data enables answer placed = d.busRespond BusResp.ERR_DECODE master busDefault write addr 0 := by
  unfold Dev.busIssue
  dsimp only
  rw [if_neg h.not_ignored, if_pos (.inl htarget)]

/-- A write through FS_WINDOW to bytes it may name stores those that are enabled (R508). -/
theorem completes_busWrite {off : Nat} (hmem : s.dev.memQ = []) (hissued : BusIssued (s.dev.elapse dt) master (19 * 2 ^ 24 + off) beats)
    (haccess : busAccess master 19 true (19 * 2 ^ 24 + off) beats = true) (hiso : s.dev.isolation 19 = 0) (hoff : off < 2 ^ 24)
    (hwindow : s.dev.windowOk (placed + off) (8 * beats) = true) (hend : placed + off + 8 * beats ≤ memSize) :
    Completes (.busTransaction dt master (19 * 2 ^ 24 + off) beats true data enables (some 0) placed) s (fun t =>
      t.dev.out = [.busResponse master 19 0 0] ∧
      (∀ i : Nat, i < 8 * beats → Memory.read t.mem (placed + off + i) =
        if bit enables (8 * beats - 1 - i) then BitVec.ofNat 8 (byteAt (8 * beats) data i) else Memory.read s.mem (placed + off + i)) ∧
      (∀ a : Nat, a < placed + off ∨ placed + off + 8 * beats ≤ a → Memory.read t.mem a = Memory.read s.mem a)) := by
  have htarget : (19 * 2 ^ 24 + off) / 2 ^ 24 = 19 := by omega
  have hplace : (19 * 2 ^ 24 + off) % 2 ^ 24 = off := by omega
  have hans : (s.dev.elapse dt).busAnswer 19 (placed + off) (8 * beats) 0 = 0 := if_neg fun h => absurd (hwindow.symm.trans h.2.2) (by decide)
  have hbus : ∀ (e : Dev) b t a n r, Dev.busAnswer { e with bus := b } t a n r = e.busAnswer t a n r := fun _ _ _ _ _ _ => (rfl)
  have hacc := hissued.accepted (data := data) (enables := enables) (placed := placed) (by rw [htarget]; decide)
    (by rw [htarget]; exact haccess) (by rw [htarget]; exact hiso) s.mem
  rw [htarget, hplace] at hacc
  simp only [hbus, hans, fsWindow, beq_self_eq_true, Bool.and_self, if_true] at hacc
  have hqueue : ((s.dev.elapse dt).busIssue s.mem master (19 * 2 ^ 24 + off) beats true data enables (some 0) placed).memQ =
      enabledBytes (placed + off) (8 * beats) data enables := by
    have hmem' : (s.dev.elapse dt).memQ = [] := hmem
    rw [hacc, Dev.memQ_busRespond]; dsimp only
    rw [Dev.add, Dev.wr_memQ]; dsimp only
    rw [hmem', List.nil_append]
  have hout : ((s.dev.elapse dt).busIssue s.mem master (19 * 2 ^ 24 + off) beats true data enables (some 0) placed).out = [.busResponse master 19 0 0] := by
    have hout' : (s.dev.elapse dt).out = [] := (rfl)
    rw [hacc, Dev.out_busRespond]; dsimp only
    rw [Dev.add, Dev.wr_out]; dsimp only
    rw [hout']; rfl
  refine ⟨_, State.actMem_of_inside s (fun d => (d.elapse dt).busIssue s.mem master (19 * 2 ^ 24 + off) beats true data enables (some 0) placed) hqueue
    (enabledBytes_inside _ _ hend), hout, ?_, ?_⟩
  · exact fun i hi => Memory.read_enabledBytes_named data enables hi s.mem
  · exact fun a ha => Memory.read_enabledBytes_others data enables ha s.mem

/-- A transaction that does not store leaves memory as it is. -/
theorem completes_busStoresNothing {answer : Option Nat} {P : State → Prop}
    (hnone : ((s.dev.elapse dt).busIssue s.mem master addr beats write data enables answer placed).memQ = [])
    (hP : P { s with dev := (s.dev.elapse dt).busIssue s.mem master addr beats write data enables answer placed }) :
    Completes (.busTransaction dt master addr beats write data enables answer placed) s P :=
  ⟨_, State.actMem_of_memQ_nil s (fun d => (d.elapse dt).busIssue s.mem master addr beats write data enables answer placed) hnone, hP⟩

theorem completes_busRead (hmem : s.dev.memQ = []) (hissued : BusIssued (s.dev.elapse dt) master addr beats)
    (htarget : addr / 2 ^ 24 ≤ 23) (hother : addr / 2 ^ 24 ≠ 19)
    (haccess : busAccess master (addr / 2 ^ 24) false addr beats = true) (hiso : s.dev.isolation (addr / 2 ^ 24) = 0) :
    Completes (.busTransaction dt master addr beats false data enables (some 0) placed) s (fun t =>
      t.dev.out = [.busResponse master (addr / 2 ^ 24) 0 data] ∧ t.mem = s.mem) := by
  have hans : ∀ b, Dev.busAnswer { s.dev.elapse dt with bus := b } (addr / 2 ^ 24) (placed + addr % 2 ^ 24) (8 * beats) 0 = 0 := fun b =>
    if_neg fun h => hother h.1
  have hacc := hissued.accepted (data := data) (enables := enables) (placed := placed) htarget haccess hiso s.mem
  simp only [hans, fsWindow, beq_eq_false_iff_ne.mpr hother, Bool.false_and, Bool.false_eq_true, if_false] at hacc
  refine completes_busStoresNothing ?_ ⟨?_, rfl⟩
  · rw [hacc, Dev.memQ_busRespond]; exact hmem
  · exact (congrArg Dev.out hacc).trans (Dev.out_busRespond ..)

/-- What no target takes, the default target answers; the error is counted and raised (R510). -/
theorem completes_busDecode {answer : Option Nat} (hmem : s.dev.memQ = []) (hissued : BusIssued (s.dev.elapse dt) master addr beats)
    (htarget : 23 < addr / 2 ^ 24) : Completes (.busTransaction dt master addr beats write data enables answer placed) s (fun t =>
      t.dev.out = [.busResponse master 31 2 0] ∧ t.dev.rd D.Bus.ERRORS 0 = min (s.dev.rd D.Bus.ERRORS 0 + 1) (2 ^ 32 - 1) ∧
      t.dev.raised.contains ⟨Src.BUS_DEFAULT_TARGET, master, false⟩ = true ∧ t.mem = s.mem) := by
  have hdec := hissued.decode (write := write) (data := data) (enables := enables) (placed := placed) htarget s.mem answer
  refine completes_busStoresNothing ?_ ⟨?_, ?_, ?_, rfl⟩
  · rw [hdec, Dev.memQ_busRespond]; exact hmem
  · exact (congrArg Dev.out hdec).trans (by rw [Dev.out_busRespond]; rfl)
  · have hlog := fun e : Dev => Dev.logError_eq (d := e) (φ := fun e => e.rd D.Bus.ERRORS 0)
      (fun e i v => Dev.rd_setEnt_ne v (by simp [Fld.key, D.ErrorLog.RESP, D.Bus.ERRORS])) 2 master busDefault write addr
    have hsent : ∀ (e : Dev) x, (e.emit x).rd D.Bus.ERRORS 0 = e.rd D.Bus.ERRORS 0 := fun _ _ => (rfl)
    refine (congrArg (fun e => e.rd D.Bus.ERRORS 0) hdec).trans ?_
    rw [Dev.busRespond_decode, Dev.rd_raise, hlog, Dev.rd_sat_apart _ _ _ _ _ _ (by decide), Dev.rd_sat_same, hsent, Dev.rd_elapse]
    rfl
  · refine List.contains_iff_mem.mpr ?_
    rw [hdec, Dev.busRespond_decode]; exact Dev.mem_raised_raise ..

/-! ## Timeouts and BUS_CMD -/

/-- The oldest transaction that has waited 10 µs is answered ERR_TIMEOUT, and its target is isolated (R512). -/
theorem completes_busTimeout {f : Flight} {l : List Flight} (hflight : s.dev.bus.flight = f :: l) (hpast : (s.dev.elapse dt).past f.at_ 10000 = true) :
    Completes (.busTimeout dt) s (fun t => nget t.dev.bus.cut 0 f.target = 3 ∧ t.dev.bus.flight = l.filter (fun x0 => x0.target != f.target) ∧
      t.dev.raised.contains ⟨Src.BUS_TIMEOUT, f.target, false⟩ = true ∧ t.dev.out.head? = some (.busResponse f.master f.target 4 0)) := by
  have hflight' : (s.dev.elapse dt).bus.flight = f :: l := hflight
  have hraise : ∀ (e : Dev) src inst, (e.raise src inst).bus = e.bus := fun _ _ _ => (rfl)
  have hresp := fun e : Dev => Dev.busRespond_eq (φ := Dev.bus) (resp := BusResp.ERR_TIMEOUT) (fun _ _ _ => Dev.setEnt_bus ..) (fun _ _ _ _ => rfl) e
    f.master f.target f.write f.addr 0
  refine ⟨_, rfl, ?_⟩
  simp only [hflight', hpast, Bool.not_true, Bool.false_eq_true, if_false]
  refine ⟨?_, ?_, ?_, ?_⟩
  · rw [Dev.cut_cutTarget, nget_nput_same]
  · rw [Dev.bus_cutTarget]; dsimp only
    rw [hraise, hresp, Dev.emit_bus]
  · exact List.contains_iff_mem.mpr (Dev.raised_cutTarget (Dev.mem_raised_raise ..) _ _)
  · refine Dev.head_cutTarget ?_ _ _
    have hout : ∀ (e : Dev) src inst, (e.raise src inst).out = e.out := fun _ _ _ => (rfl)
    rw [hout, Dev.out_busRespond]; rfl

/-- What a BUS_CMD of the right form does (R512, R518). -/
theorem Dev.busCmd_eq {cmd target : Nat} (hcmd : 1 ≤ cmd ∧ cmd ≤ 3) (htarget : target ≤ 23) (hclear : cmd = 3 → target = 0) :
    d.busCmd (cmd * 2 ^ 24 + target) =
      if cmd = 1 then
        if d.targetReset target then (d, St.STATE) else ({ d with bus := { d.bus with cut := nput d.bus.cut 0 target 0 } }, St.OK)
      else if cmd = 2 then (d.cutTarget target 4, St.OK)
      else (d.each (List.range 16) (fun d i => d.setEnt (D.ErrorLog.RESP.key i) 0), St.OK) := by
  have hcmd' : bitsOf (cmd * 2 ^ 24 + target) 24 8 = cmd := by unfold bitsOf; omega
  have hrest : bitsOf (cmd * 2 ^ 24 + target) 5 19 = 0 := by unfold bitsOf; omega
  have htarget' : (cmd * 2 ^ 24 + target) % 32 = target := by omega
  unfold Dev.busCmd
  simp only [hcmd', hrest, htarget']
  rw [if_neg (by omega)]

theorem completes_busCmdUnisolate {target : Nat} (hgrant : s.dev.grants q 0x1300 2 ⟨4, 1 * 2 ^ 24 + target⟩ = true) (htarget : target ≤ 23)
    (hreset : s.dev.targetReset target = false) : Completes (.busCmdUnisolate q target) s (fun t =>
      t.dev.answered q St.OK = true ∧ t.dev.isolation target = 0) := by
  have hmod : target % 32 = target := Nat.mod_eq_of_lt (by omega)
  have hreset' : ∀ e : Dev, e.rst = s.dev.rst → e.targetReset target = false := fun e h => by
    rw [← hreset]; unfold Dev.targetReset Dev.inReset; rw [h]
  have hact := Dev.busCmd_eq (d := s.dev.atBody q) (cmd := 1) (by decide) htarget (fun h => absurd h (by decide))
  rw [if_pos rfl, hreset' _ (Dev.rst_atBody ..), if_neg Bool.false_ne_true] at hact
  refine completes_serveWrite (act := fun _ d => d.busCmd (1 * 2 ^ 24 + target)) (show execBusCmdUnisolate q target s = _ by unfold execBusCmdUnisolate; rw [hmod])
    hgrant hact (by decide) ⟨Dev.answered_ok _, ?_⟩
  unfold Dev.isolation
  rw [hreset' _ (by rw [Dev.rst_answer]; exact Dev.rst_atBody s.dev q), if_neg Bool.false_ne_true, Dev.bus_answer]
  dsimp only
  rw [nget_nput_same]

theorem completes_busCmdIsolate {target : Nat} (hgrant : s.dev.grants q 0x1300 2 ⟨4, 2 * 2 ^ 24 + target⟩ = true) (htarget : target ≤ 23) :
    Completes (.busCmdIsolate q target) s (fun t => t.dev.answered q St.OK = true ∧ nget t.dev.bus.cut 0 target = 4 ∧
      t.dev.bus.flight = s.dev.bus.flight.filter (fun x0 => x0.target != target)) := by
  have hmod : target % 32 = target := Nat.mod_eq_of_lt (by omega)
  have hact := Dev.busCmd_eq (d := s.dev.atBody q) (cmd := 2) (by decide) htarget (fun h => absurd h (by decide))
  rw [if_neg (by decide), if_pos rfl] at hact
  refine completes_serveWrite (act := fun _ d => d.busCmd (2 * 2 ^ 24 + target)) (show execBusCmdIsolate q target s = _ by unfold execBusCmdIsolate; rw [hmod])
    hgrant hact (by decide) ⟨Dev.answered_ok _, ?_, ?_⟩
  · rw [Dev.bus_answer, Dev.cut_cutTarget, nget_nput_same]
  · rw [Dev.bus_answer, Dev.bus_cutTarget, Dev.bus_atBody]

/-- After all are cleared, each of them is cleared. -/
theorem Dev.ent_each_cleared (f : Fld) (hf : f.rep = false) {l : List Nat} {i : Nat} (hi : i ∈ l) :
    (d.each l (fun d i => d.setEnt (f.key i) 0)).ent (f.key i) = 0 := by
  have hkey : ∀ j, j ≠ i → f.key i ≠ f.key j := fun j hj h => by
    simp only [Fld.key, hf, Bool.false_eq_true, if_false, Key.mk.injEq] at h; exact hj h.2.2.symm
  have kept : ∀ (l : List Nat) (e : Dev), e.ent (f.key i) = 0 → (e.each l (fun d i => d.setEnt (f.key i) 0)).ent (f.key i) = 0 := by
    intro l
    induction l with
    | nil => exact fun _ h => h
    | cons j l ih =>
      refine fun e h => ih _ ?_
      rcases eq_or_ne j i with rfl | hj
      · exact Dev.ent_setEnt_same ..
      · rw [Dev.ent_setEnt_other _ _ (hkey j hj), h]
  induction l generalizing d with
  | nil => cases hi
  | cons j l ih =>
    rcases List.mem_cons.mp hi with rfl | hi
    · exact kept l _ (Dev.ent_setEnt_same ..)
    · exact ih hi

theorem completes_busCmdLogClear (hgrant : s.dev.grants q 0x1300 2 ⟨4, 3 * 2 ^ 24⟩ = true) : Completes (.busCmdLogClear q) s (fun t =>
    t.dev.answered q St.OK = true ∧ (List.range 16).all (fun i => t.dev.ent (D.ErrorLog.RESP.key i) == 0) = true) := by
  have hact := Dev.busCmd_eq (d := s.dev.atBody q) (cmd := 3) (target := 0) (by decide) (by decide) (fun _ => rfl)
  rw [if_neg (by decide), if_neg (by decide)] at hact
  refine completes_serveWrite (act := fun _ d => d.busCmd (3 * 2 ^ 24)) rfl hgrant hact (by decide) ⟨Dev.answered_ok _, ?_⟩
  refine List.all_eq_true.mpr fun i hi => beq_iff_eq.mpr ?_
  rw [Dev.ent_answer _ _ _ (fun n => by simp [Fld.key, D.ErrorLog.RESP, D.MgCounters.TX_FRAMES])
    (fun n => by simp [Fld.key, D.ErrorLog.RESP, D.PortCounters.TX_FRAMES])]
  exact Dev.ent_each_cleared D.ErrorLog.RESP rfl hi

end

/-- Settles O53: a transaction is answered at once where its target answers, and the bytes it enables are those it stores. -/
theorem busComplete : Obligations.BusComplete := by
  unfold Obligations.BusComplete
  refine ⟨?_, ?_, ?_, ?_, ?_, ?_, ?_⟩
  · intro s dt master off beats data enables placed hmem hflight hreset ⟨haccess, hmaster⟩ hiso ⟨hbeats, hbeats', halign, hoff⟩ hwindow hend
    exact completes_busWrite hmem ⟨hflight, hreset, hmaster, hbeats, hbeats', by omega, by omega⟩ haccess hiso hoff hwindow hend
  · intro s dt master addr beats data enables placed hmem hflight hreset hmaster ⟨htarget, hother⟩ haccess hiso ⟨hbeats, hbeats', halign⟩
    exact completes_busRead hmem ⟨hflight, hreset, hmaster, hbeats, hbeats', halign, by omega⟩ htarget hother haccess hiso
  · intro s dt master addr beats data enables placed write answer hmem hflight hreset hmaster ⟨htarget, haddr⟩ ⟨hbeats, hbeats', halign⟩
    exact completes_busDecode hmem ⟨hflight, hreset, hmaster, hbeats, hbeats', halign, haddr⟩ htarget
  · intro s dt f l hflight hpast
    exact completes_busTimeout hflight hpast
  · intro s q target hgrant htarget hreset
    exact completes_busCmdUnisolate hgrant htarget hreset
  · intro s q target hgrant htarget
    exact completes_busCmdIsolate hgrant htarget
  · intro s q hgrant
    exact completes_busCmdLogClear hgrant

end Sys2Proof.Machine
end

section
/-! Obligations of 19_repair_power_ringlog.md: SRAM rows, the knot map's copies, islands and the power warning (R522 to R530). -/

namespace Sys2Proof.Machine
open Sys2Proof

variable {d : Dev}

/-! ## SRAM rows (R522) -/

theorem Dev.rows_knotAdd (d : Dev) (kind action inst spare cause detail : Nat) : (d.knotAdd kind action inst spare cause detail).rows = d.rows := by
  unfold Dev.knotAdd; dsimp only
  exact Dev.ite_eq Dev.rows (Dev.wr_rows ..) rfl

section

variable {s : State} {dt m row dom cause : Nat}

/-- An uncorrected error has its row judged defective, where it is not yet. -/
theorem exec_sramEccError_uncorrected (hrow : s.dev.sramDefective m row = false) :
    exec (.sramEccError dt m row dom cause false) s = .next { s with dev := (s.dev.elapse dt).rowFails m row dom cause } := by
  have hrow' : (s.dev.elapse dt).sramDefective m row = false := hrow
  refine (show execSramEccError dt m row dom cause false s = _ from ?_)
  unfold execSramEccError State.act
  simp only [Bool.false_eq_true, if_false, Bool.not_false, Bool.true_or, hrow', Bool.and_self, if_true]

theorem completes_sramSpared (hrow : s.dev.sramDefective m row = false)
    (hfew : nget s.dev.rows.used 0 m + countIf (fun (w : Nat × Nat × Nat) => w.1 == m) s.dev.rows.waiting < 4) :
    Completes (.sramEccError dt m row dom cause false) s (fun t => t.dev.rows.waiting = s.dev.rows.waiting ++ [(m, row, dom)]) := by
  have hrows : (s.dev.elapse dt).rows = s.dev.rows := (rfl)
  refine ⟨_, exec_sramEccError_uncorrected hrow, ?_⟩
  dsimp only; unfold Dev.rowFails; dsimp only
  rw [hrows, if_pos hfew, Dev.rows_knotAdd]

theorem completes_sramShort (hrow : s.dev.sramDefective m row = false)
    (hfull : 4 ≤ nget s.dev.rows.used 0 m + countIf (fun (w : Nat × Nat × Nat) => w.1 == m) s.dev.rows.waiting) :
    Completes (.sramEccError dt m row dom cause false) s (fun t => t.dev.rows.waiting = s.dev.rows.waiting ∧ t.dev.on D.KnotStatus.ROW_SHORT 0 = true) := by
  have hrows : (s.dev.elapse dt).rows = s.dev.rows := (rfl)
  refine ⟨_, exec_sramEccError_uncorrected hrow, ?_⟩
  dsimp only; unfold Dev.rowFails; dsimp only
  rw [hrows, if_neg (Nat.not_lt.mpr hfull), Dev.rows_knotAdd]
  refine ⟨congrArg RowSt.waiting (Dev.wr_rows ..), ?_⟩
  unfold Dev.on
  rw [Dev.rd_knotAdd _ _ _ _ _ _ _ _ (by decide)]
  exact Dev.on_flag_same _ _ _ _ rfl

/-! ## The knot map's copies (R438, R520) -/

/-- What is done on one of two branches is what one of them does. -/
theorem Dev.ite_or {α : Type} (φ : Dev → α) {p : Prop} [Decidable p] (a b : Dev) : φ (if p then a else b) = φ a ∨ φ (if p then a else b) = φ b := by
  split
  · exact .inl rfl
  · exact .inr rfl

@[simp] theorem Dev.flashOpen_elapse : (d.elapse dt).flashOpen = d.flashOpen := (rfl)

/-- A new copy takes the place of one of the two. -/
theorem Dev.knot_knotPut (c : Option (Nat × List Knot)) :
    (d.knotPut c).knot = { d.knot with copy0 := c } ∨ (d.knotPut c).knot = { d.knot with copy1 := c } := by
  unfold Dev.knotPut; dsimp only
  simp only [Dev.flag, Dev.wr_knot]
  exact Dev.ite_or Dev.knot _ _

/-- GENERATION of a copy, 0 where it is not valid. -/
def copyGen (c : Option (Nat × List Knot)) : Nat := match c with | some c => c.1 | none => 0

theorem Dev.knotGen_eq : d.knotGen = max (copyGen d.knot.copy0) (copyGen d.knot.copy1) := (rfl)

theorem completes_knotCopyWrite (hopen : s.dev.flashOpen = true) (hdirty : s.dev.knot.dirty = true) : Completes (.knotCopyWrite dt true) s (fun t =>
    t.dev.knot.dirty = false ∧ t.dev.knotGen = s.dev.knotGen + 1 ∧
    (t.dev.knot.copy0 = some (s.dev.knotGen + 1, s.dev.knot.entries) ∨ t.dev.knot.copy1 = some (s.dev.knotGen + 1, s.dev.knot.entries))) := by
  have hwrites : ¬ (!(s.dev.elapse dt).flashOpen ∨ s.dev.knot.dirty = false) := by simp [hopen, hdirty]
  have hgen : (s.dev.elapse dt).knotGen = s.dev.knotGen := (rfl)
  have hknot : (s.dev.elapse dt).knot = s.dev.knot := (rfl)
  refine ⟨_, rfl, ?_⟩
  simp only [hknot, if_neg hwrites, if_true, hgen]
  rw [Dev.knotGen_eq (d := s.dev), Dev.knotGen_eq]
  rcases Dev.knot_knotPut (d := s.dev.elapse dt) (some (max (copyGen s.dev.knot.copy0) (copyGen s.dev.knot.copy1) + 1, s.dev.knot.entries)) with h | h
  · rw [h, hknot]
    refine ⟨trivial, ?_, .inl rfl⟩
    dsimp only [copyGen]; omega
  · rw [h, hknot]
    refine ⟨trivial, ?_, .inr rfl⟩
    dsimp only [copyGen]; omega

/-! ## Islands (R526 to R529) -/

section

variable {island took : Nat} {next : Option Nat} {q : Rcp}

theorem completes_islandHorizonRecompute (hisland : island < 142) (hrun : s.dev.inReset = false) (hstage : 3 ≤ s.dev.stage)
    (hmode : s.dev.rd D.Pwr.MODE 0 = 0) : Completes (.islandHorizonRecompute dt island next) s (fun t => t.dev.rd D.IslandStatus.STATE island =
      deepest (s.dev.rd D.Pwr.HORIZON_GUARD_NS 0) next ((s.dev.elapse dt).islandRule (Config.island island).1 (Config.island island).2).2
        ((s.dev.elapse dt).islandRule (Config.island island).1 (Config.island island).2).1 % 8) := by
  have hrests : ¬ (142 ≤ island ∨ (s.dev.elapse dt).inReset = true ∨ (s.dev.elapse dt).stage < 3 ∨ (s.dev.elapse dt).rd D.Pwr.MODE 0 ≠ 0) := by
    simp [hrun, hmode]; omega
  refine ⟨_, rfl, ?_⟩
  simp only [if_neg hrests]
  unfold Dev.islandRest
  rw [Dev.rd_wr_same, Dev.rd_elapse]; rfl

/-- A demand wakes an island; a wake that took longer than its state allows is raised (R527). -/
theorem completes_islandWake (hisland : island < 142) (hrun : s.dev.inReset = false) (hrests : s.dev.rd D.IslandStatus.STATE island ≠ 0) :
    Completes (.islandWake dt island took) s (fun t => t.dev.rd D.IslandStatus.STATE island = 0 ∧
      t.dev.rd D.IslandStatus.WAKES island = min (s.dev.rd D.IslandStatus.WAKES island + 1) (2 ^ 32 - 1) ∧
      (wakeNs (s.dev.rd D.IslandStatus.STATE island) < took → t.dev.raised.contains ⟨Src.PWR_WAKE_LATE, 0, false⟩ = true)) := by
  have hwakes : ¬ (142 ≤ island ∨ (s.dev.elapse (dt + took)).inReset = true ∨ (s.dev.elapse (dt + took)).rd D.IslandStatus.STATE island = 0) := by
    simp [hrun, hrests]; omega
  have hlate : ∀ (e : Dev) (b : Bool) g, Fld.apart D.Pwr.WAKE_LATE g = true →
      (if b = true then (e.sat D.Pwr.WAKE_LATE 0 1).raise Src.PWR_WAKE_LATE 0 else e).rd g island = e.rd g island := fun e b g hg =>
    Dev.ite_eq (fun e => e.rd g island) (by rw [Dev.rd_raise, Dev.rd_sat_apart _ _ _ _ _ _ hg]) rfl
  refine ⟨_, rfl, ?_⟩
  simp only [if_neg hwakes]
  unfold Dev.islandUp
  dsimp only
  refine ⟨?_, ?_, fun htook => ?_⟩
  · rw [hlate _ _ _ (by decide), Dev.rd_sat_apart _ _ _ _ _ _ (by decide), Dev.rd_wr_same]; rfl
  · rw [hlate _ _ _ (by decide), Dev.rd_sat_same, Dev.rd_wr_apart _ _ _ _ _ _ (by decide), Dev.rd_elapse]; rfl
  · rw [Dev.rd_elapse, if_pos (decide_eq_true htook)]
    exact List.contains_iff_mem.mpr (Dev.mem_raised_raise ..)

/-- A request for an island, which one byte carries, in host-assisted mode (R529). -/
theorem Dev.islandWrite_eq {v : Nat} (hv : v < 256) (hmode : d.rd D.Pwr.MODE 0 = 1) (hisland : island < 142) (hform : bitsOf v 3 4 = 0) :
    (bit v 7 = false → d.islandWrite island ⟨1, v⟩ = (d.setEnt (D.IslandReq.STATE.key island) v, St.OK)) ∧
    (bit v 7 = true → bitsOf v 0 3 = 0 →
      d.islandWrite island ⟨1, v⟩ = ((d.setEnt (D.IslandReq.STATE.key island) v).wr D.IslandStatus.STATE island 0, St.OK)) := by
  have hbytes : bytesOf 1 v = [v] := by simp [bytesOf, Nat.mod_eq_of_lt hv]
  have hactive : 0 ∈ classStates (Config.island island).1 := by
    unfold classStates; split_ifs <;> exact List.mem_cons_self
  have hnumber : ¬ 142 ≤ island := by omega
  constructor
  · intro hback
    simp [Dev.islandWrite, hbytes, Dev.islandReqs, Dev.islandReq, hmode, hform, hnumber, hback]
  · intro hset hstate
    simp [Dev.islandWrite, hbytes, Dev.islandReqs, Dev.islandReq, hmode, hform, hnumber, hset, hstate, hactive]

theorem completes_islandRequest_active (hgrant : s.dev.grantsDom q 0x0520 2 island ⟨1, 128⟩ = true) (hmode : s.dev.rd D.Pwr.MODE 0 = 1)
    (hisland : island < 142) : Completes (.islandRequest q island 128) s (fun t =>
      t.dev.answered q St.OK = true ∧ t.dev.rd D.IslandStatus.STATE island = 0) := by
  have hact := (Dev.islandWrite_eq (d := s.dev.atBody q) (v := 128) (by decide) (by rw [Dev.rd_atBody_off q (by decide), hmode]) hisland (by decide)).2
    (by decide) (by decide)
  refine completes_serveDom (act := fun _ d => d.islandWrite island ⟨1, 128⟩) rfl hgrant hact (by decide) ⟨Dev.answered_ok _, ?_⟩
  rw [Dev.rd_answer _ _ _ _ _ (by decide) (by decide), Dev.rd_wr_same]; rfl

theorem completes_islandRequest_own {v : Nat} (hgrant : s.dev.grantsDom q 0x0520 2 island ⟨1, v⟩ = true) (hmode : s.dev.rd D.Pwr.MODE 0 = 1)
    (hisland : island < 142) (hv : v < 8) : Completes (.islandRequest q island v) s (fun t =>
      t.dev.answered q St.OK = true ∧ t.dev.ent (D.IslandReq.STATE.key island) = v) := by
  have hbyte : v % 256 = v := Nat.mod_eq_of_lt (by omega)
  have hact := (Dev.islandWrite_eq (d := s.dev.atBody q) (v := v) (by omega) (by rw [Dev.rd_atBody_off q (by decide), hmode]) hisland
    (by unfold bitsOf; omega)).1 (by unfold bit; simp; omega)
  refine completes_serveDom (act := fun _ d => d.islandWrite island ⟨1, v⟩) (show execIslandRequest q island v s = _ by unfold execIslandRequest; rw [hbyte])
    hgrant hact (by decide) ⟨Dev.answered_ok _, ?_⟩
  dsimp only
  rw [Dev.ent_answer _ _ _ (fun n => by simp [Fld.key, D.IslandReq.STATE, D.MgCounters.TX_FRAMES])
    (fun n => by simp [Fld.key, D.IslandReq.STATE, D.PortCounters.TX_FRAMES]), Dev.ent_setEnt_same]

end

end

/-! ## The records of the ring log (R531 to R536) -/

/-- The error counters that links settle before a record sums them. -/
def linkFields : List Fld :=
  [D.SdiRxCounters.CRC_Y, D.SdiRxCounters.CRC_C, D.SdiRxCounters.LINE_NUM_ERRORS, D.SdiRxCounters.TRS_ERRORS, D.SdiRxCounters.ANC_CHECKSUM_ERRORS,
    D.SdiRxCounters.ERRORED_FRAMES, D.PortCounters.FEC_CORRECTED, D.PortCounters.FEC_UNCORRECTED, D.MgCounters.RX_FCS_ERRORS]

section ring

variable {α : Type} {φ : Dev → α} (hwr : ∀ (e : Dev) f n v, f ∈ linkFields → φ (e.wr f n v) = φ e) (hdrawn : ∀ e : Dev, φ e.drawn = φ e)
  (hring : ∀ (e : Dev) r, φ { e with ring := r } = φ e) (hraise : ∀ e : Dev, φ (e.raise Src.RPR_LOG_WRITE 0) = φ e)

section

include hwr hdrawn

theorem Dev.linkErrors_eq (e : Dev) : φ e.linkErrors = φ e := by
  have hcount : ∀ (e : Dev) f n k, f ∈ linkFields → φ (e.drawn.sat f n k) = φ e := fun e f n k hf => (hwr _ _ _ _ hf).trans (hdrawn e)
  have hsdi : ∀ (e : Dev) n, φ (e.sdiErrors n) = φ e := fun e n => by
    refine Dev.ite_eq φ rfl ((hcount _ _ _ _ (by decide)).trans ((hcount _ _ _ _ (by decide)).trans ((hcount _ _ _ _ (by decide)).trans ?_)))
    exact Dev.ite_eq φ rfl ((hcount _ _ _ _ (by decide)).trans ((hcount _ _ _ _ (by decide)).trans (hcount _ _ _ _ (by decide))))
  have hfec : ∀ (e : Dev) p, φ (e.fecErrors p) = φ e := fun e p =>
    Dev.ite_eq φ rfl ((hcount _ _ _ _ (by decide)).trans (hcount _ _ _ _ (by decide)))
  have hmg : ∀ (e : Dev) p, φ (e.mgErrors p) = φ e := fun e p => Dev.ite_eq φ rfl (hcount _ _ _ _ (by decide))
  exact (Dev.each_eq φ hmg _ _).trans ((Dev.each_eq φ hfec _ _).trans (Dev.each_eq φ hsdi _ _))

end

include hring in
theorem Dev.setTier_eq (e : Dev) (t : Nat) (x : Tier) : φ (e.setTier t x) = φ e := Dev.ite_eq φ (hring ..) (Dev.ite_eq φ (hring ..) (hring ..))

include hring hraise

theorem Dev.writeRecord_eq (e : Dev) (t : Nat) (ok : Bool) (build : Nat → Nat → Bool → Nat) : φ (e.writeRecord t ok build) = φ e :=
  Dev.ite_eq φ (Dev.setTier_eq hring ..) ((hraise _).trans (Dev.setTier_eq hring ..))

include hwr hdrawn

theorem Dev.intervalEnd_eq (e : Dev) (ok : Bool) (kind flags stop : Nat) : φ (e.intervalEnd ok kind flags stop) = φ e := by
  unfold Dev.intervalEnd
  exact (Dev.writeRecord_eq hring hraise ..).trans (Dev.linkErrors_eq hwr hdrawn e)

/-- At a power warning the interval's record and the event's are written, and the next interval begins with its energy at 0 (R530). -/
theorem Dev.warnRecord_eq (henergy : ∀ e : Dev, φ { e with pwr := { e.pwr with energy := 0 } } = φ e) (e : Dev) (ok : Bool) : φ (e.warnRecord ok) = φ e := by
  unfold Dev.warnRecord Dev.intervalStart Dev.writeEvent
  exact Dev.ite_eq φ rfl ((henergy _).trans ((hring ..).trans ((Dev.writeRecord_eq hring hraise ..).trans (Dev.intervalEnd_eq hwr hdrawn hring hraise ..))))

end ring

/-- What has been raised stays raised when a record is written. -/
theorem Dev.mem_writeRecord {r : Raise} (h : r ∈ d.raised) (t : Nat) (ok : Bool) (build : Nat → Nat → Bool → Nat) : r ∈ (d.writeRecord t ok build).raised := by
  have htier : ∀ (e : Dev) t x, (e.setTier t x).raised = e.raised := fun e t x => Dev.setTier_eq (φ := Dev.raised) (fun _ _ => (rfl)) e t x
  unfold Dev.writeRecord; dsimp only
  split
  · rw [htier]; exact h
  · exact List.mem_append_left _ (by rw [htier]; exact h)

theorem Dev.mem_warnRecord {r : Raise} (h : r ∈ d.raised) (ok : Bool) : r ∈ (d.warnRecord ok).raised := by
  have hlink : d.linkErrors.raised = d.raised := Dev.linkErrors_eq (φ := Dev.raised) (fun _ _ _ _ _ => Dev.wr_raised ..) (fun _ => (rfl)) d
  have hstart : ∀ (e : Dev) start flags, (e.intervalStart start flags).raised = e.raised := fun _ _ _ => (rfl)
  unfold Dev.warnRecord
  split
  · exact h
  · dsimp only
    rw [hstart]
    unfold Dev.writeEvent Dev.intervalEnd
    exact Dev.mem_writeRecord (Dev.mem_writeRecord (by rw [hlink]; exact h) _ _ _) _ _ _

/-! ## The power warning (R530) -/

section

variable {s : State} {dt : Nat}

theorem completes_pwrWarn (erasing ok : Bool) (hhigh : s.dev.pwr.warnLow = false) (hcold : s.dev.inCold = false) : Completes (.pwrWarn dt erasing ok) s (fun t =>
    t.dev.pwr.warnLow = true ∧ t.dev.pwr.suspended = erasing ∧ t.dev.rd D.Pwr.PWR_WARNS 0 = (s.dev.rd D.Pwr.PWR_WARNS 0 + 1) % 2 ^ 32 ∧
    t.dev.raised.contains ⟨Src.PWR_WARN, 0, false⟩ = true) := by
  have hwarns : ¬ ((s.dev.elapse dt).pwr.warnLow = true ∨ (s.dev.elapse dt).inCold = true) := by
    rintro (h | h)
    · exact absurd (hhigh.symm.trans h) (by decide)
    · exact absurd (hcold.symm.trans h) (by decide)
  have hkept : ∀ f ∈ linkFields, Fld.apart f D.Pwr.PWR_WARNS = true := by decide
  have hpwr : ∀ (e : Dev), (e.warnRecord ok).pwr.warnLow = e.pwr.warnLow ∧ (e.warnRecord ok).pwr.suspended = e.pwr.suspended := fun e =>
    ⟨Dev.warnRecord_eq (φ := fun e => e.pwr.warnLow) (fun _ _ _ _ _ => by rw [Dev.wr_pwr]) (fun _ => (rfl)) (fun _ _ => (rfl)) (fun _ => (rfl)) (fun _ => (rfl)) e ok,
     Dev.warnRecord_eq (φ := fun e => e.pwr.suspended) (fun _ _ _ _ _ => by rw [Dev.wr_pwr]) (fun _ => (rfl)) (fun _ _ => (rfl)) (fun _ => (rfl)) (fun _ => (rfl)) e ok⟩
  have hrd : ∀ e : Dev, (e.warnRecord ok).rd D.Pwr.PWR_WARNS 0 = e.rd D.Pwr.PWR_WARNS 0 := fun e =>
    Dev.warnRecord_eq (φ := fun e => e.rd D.Pwr.PWR_WARNS 0) (fun _ f _ _ hf => Dev.rd_wr_apart _ _ _ _ _ _ (hkept f hf)) (fun _ => (rfl)) (fun _ _ => (rfl))
      (fun _ => (rfl)) (fun _ => (rfl)) e ok
  have hset : ∀ (e : Dev) p, Dev.rd { e with pwr := p } D.Pwr.PWR_WARNS 0 = e.rd D.Pwr.PWR_WARNS 0 := fun _ _ => (rfl)
  refine ⟨_, rfl, ?_⟩
  simp only [if_neg hwarns]
  refine ⟨(hpwr _).1, (hpwr _).2, ?_, ?_⟩
  · rw [hrd, hset, Dev.rd_raise, Dev.rd_add_same, Dev.rd_elapse]; rfl
  · have hraised : ∀ (e : Dev) p, Dev.raised { e with pwr := p } = e.raised := fun _ _ => (rfl)
    refine List.contains_iff_mem.mpr (Dev.mem_warnRecord ?_ ok)
    rw [hraised]; exact Dev.mem_raised_raise ..

theorem completes_pwrWarnRise (hlow : s.dev.pwr.warnLow = true) : Completes (.pwrWarnRise dt) s (fun t =>
    t.dev.pwr.warnLow = false ∧ t.dev.pwr.suspended = false) := by
  refine ⟨_, rfl, ?_⟩
  simp only [show (s.dev.elapse dt).pwr.warnLow = true from hlow, if_true]
  exact ⟨trivial, trivial⟩

end

/-- Settles O54: each event changes one part of the device; the interval's record that a power warning writes leaves the rest as it was. -/
theorem repairAndPowerComplete : Obligations.RepairAndPowerComplete := by
  unfold Obligations.RepairAndPowerComplete
  refine ⟨?_, ?_, ?_, ?_, ?_, ?_, ?_, ?_, ?_⟩
  · intro s dt m row dom cause hrow hfew
    exact completes_sramSpared hrow hfew
  · intro s dt m row dom cause hrow hfull
    exact completes_sramShort hrow hfull
  · intro s dt hopen hdirty
    exact completes_knotCopyWrite hopen hdirty
  · intro s dt island next hisland hrun hstage hmode
    exact completes_islandHorizonRecompute hisland hrun hstage hmode
  · intro s dt island took hisland hrun hrests
    exact completes_islandWake hisland hrun hrests
  · rintro s q island v hgrant hmode hisland rfl
    exact completes_islandRequest_active hgrant hmode hisland
  · intro s q island v hgrant hmode hisland hv
    exact completes_islandRequest_own hgrant hmode hisland hv
  · intro s dt erasing ok hhigh hcold
    exact completes_pwrWarn erasing ok hhigh hcold
  · intro s dt hlow
    exact completes_pwrWarnRise hlow

end Sys2Proof.Machine
end

section
/-! Obligations of 19_repair_power_ringlog.md and 20_pins_electrical.md: the ring log, the temperature and the regulators (R531 to R537, R547 to R549,
R559, R560). -/

namespace Sys2Proof.Machine
open Sys2Proof

variable {d : Dev}

/-! ## Records (R531 to R536) -/

theorem Tier.ready_seq (x : Tier) (t : Nat) : (x.ready t).seq = x.seq ∧ (x.ready t).next = x.next := by
  unfold Tier.ready; split <;> exact ⟨rfl, rfl⟩

/-- A record takes the next slot and the next SEQ of its tier, whether or not its write passes. -/
theorem Dev.ring_writeRecord_0 (ok : Bool) (build : Nat → Nat → Bool → Nat) :
    (d.writeRecord 0 ok build).ring.t0.seq = d.ring.t0.seq + 1 ∧ (d.writeRecord 0 ok build).ring.t0.next = (d.ring.t0.next + 1) % 16384 := by
  obtain ⟨hseq, hnext⟩ := Tier.ready_seq d.ring.t0 0
  unfold Dev.writeRecord; dsimp only
  split
  · exact ⟨congrArg (· + 1) hseq, congrArg (fun n => (n + 1) % 16384) hnext⟩
  · exact ⟨congrArg (· + 1) hseq, congrArg (fun n => (n + 1) % 16384) hnext⟩

theorem Dev.ring_writeRecord_1 (ok : Bool) (build : Nat → Nat → Bool → Nat) : (d.writeRecord 1 ok build).ring.t0 = d.ring.t0 :=
  Dev.ite_eq (fun e => e.ring.t0) rfl rfl

theorem Dev.ring_writeRecord_2 (ok : Bool) (build : Nat → Nat → Bool → Nat) :
    (d.writeRecord 2 ok build).ring.t2.seq = d.ring.t2.seq + 1 ∧ (d.writeRecord 2 ok build).ring.t2.next = (d.ring.t2.next + 1) % 262144 ∧
    (d.writeRecord 2 ok build).ring.t2.gap = !ok := by
  obtain ⟨hseq, hnext⟩ := Tier.ready_seq d.ring.t2 2
  unfold Dev.writeRecord; dsimp only
  cases ok
  · exact ⟨congrArg (· + 1) hseq, congrArg (fun n => (n + 1) % 262144) hnext, rfl⟩
  · exact ⟨congrArg (· + 1) hseq, congrArg (fun n => (n + 1) % 262144) hnext, rfl⟩

theorem Dev.t0_daily (ok : Bool) (stop : Nat) : (d.daily ok stop).ring.t0 = d.ring.t0 := by
  have hset : ∀ (e : Dev) m, (e.setRing (fun r => { r with day := m })).ring.t0 = e.ring.t0 := fun _ _ => (rfl)
  have hwrite : ∀ (e : Dev) m, (e.dailyWrite ok m).ring.t0 = e.ring.t0 := fun e m => by
    unfold Dev.dailyWrite; dsimp only
    split
    · rfl
    · exact Dev.ring_writeRecord_1 ok _
  exact Dev.ite_eq (fun e => e.ring.t0) (Dev.ite_eq (fun e => e.ring.t0) (hset _ _) rfl) ((hset _ _).trans (hwrite _ _))

theorem Dev.ring_intervalStart (start flags : Nat) : (d.intervalStart start flags).ring.t0.seq = d.ring.t0.seq ∧
    (d.intervalStart start flags).ring.t0.next = d.ring.t0.next ∧ (d.intervalStart start flags).ring.start = start := by
  have ht0 : (d.intervalStart start flags).ring.t0 = if d.pwr.warnLow then d.ring.t0 else d.ring.t0.ready 0 := (rfl)
  obtain ⟨hseq, hnext⟩ := Tier.ready_seq d.ring.t0 0
  rw [ht0]
  split
  · exact ⟨rfl, rfl, rfl⟩
  · exact ⟨hseq, hnext, rfl⟩

section

variable {s : State} {q : Rcp} {dt : Nat}

/-- The end of an interval (R531): its record, then the daily one where it is due, then the next interval. -/
theorem completes_logIntervalEnd (dailyOk : Bool) (hopen : s.dev.flashOpen = true) (hstepped : s.dev.ring.stepped = none)
    (hend : (s.dev.ring.start / 600000000000 + 1) * 600000000000 ≤ (s.dev.elapse dt).now) : Completes (.logIntervalEnd dt true dailyOk) s (fun t =>
      t.dev.ring.t0.seq = s.dev.ring.t0.seq + 1 ∧ t.dev.ring.t0.next = (s.dev.ring.t0.next + 1) % 16384 ∧
      t.dev.ring.start = (s.dev.ring.start / 600000000000 + 1) * 600000000000) := by
  have hring : (s.dev.elapse dt).ring = s.dev.ring := (rfl)
  have hlink : ∀ e : Dev, e.linkErrors.ring = e.ring := fun e => Dev.linkErrors_eq (φ := Dev.ring) (fun _ _ _ _ _ => Dev.wr_ring ..) (fun _ => (rfl)) e
  refine ⟨_, rfl, ?_⟩
  simp only [Dev.flashOpen_elapse, hopen, Bool.not_true, Bool.false_eq_true, if_false, hring, hstepped, if_pos hend]
  unfold Dev.intervalTurn Dev.intervalEnd
  dsimp only
  refine ⟨?_, ?_, (Dev.ring_intervalStart _ _).2.2⟩
  · rw [(Dev.ring_intervalStart _ _).1, Dev.t0_daily, (Dev.ring_writeRecord_0 true _).1, hlink, hring]
  · rw [(Dev.ring_intervalStart _ _).2.1, Dev.t0_daily, (Dev.ring_writeRecord_0 true _).2, hlink, hring]

theorem completes_eventRecordWrite {e : EventRec} {l : List EventRec} (ok : Bool) (hopen : s.dev.flashOpen = true) (hevents : s.dev.events = e :: l) :
    Completes (.eventRecordWrite dt ok) s (fun t => t.dev.events = l ∧ t.dev.ring.t2.seq = s.dev.ring.t2.seq + 1 ∧
      t.dev.ring.t2.next = (s.dev.ring.t2.next + 1) % 262144 ∧ t.dev.ring.t2.gap = !ok) := by
  have hevents' : (s.dev.elapse dt).events = e :: l := hevents
  have hset : ∀ e : Dev, Dev.ring { e with events := l } = e.ring := fun _ => (rfl)
  have hring : (s.dev.elapse dt).ring = s.dev.ring := (rfl)
  refine ⟨_, rfl, ?_⟩
  simp only [Dev.flashOpen_elapse, hopen, Bool.not_true, Bool.false_eq_true, if_false, hevents']
  unfold Dev.writeEvent
  dsimp only
  obtain ⟨hseq, hnext, hgap⟩ := Dev.ring_writeRecord_2 (d := { s.dev.elapse dt with events := l }) ok
    (fun seq prev _ => eventBytes (Dev.traceable { s.dev.elapse dt with events := l }) e seq prev)
  rw [hset, hring] at hseq hnext
  exact ⟨(Dev.writeRecord_eq (φ := Dev.events) (fun _ _ => (rfl)) (fun _ => (rfl)) ..), hseq, hnext, hgap⟩

/-! ## Verification (R537) -/

theorem completes_ringCmdVerify {tier : Nat} (hgrant : s.dev.grants q 0x1210 4 ⟨4, 2 ^ 24 + tier⟩ = true) (htier : tier ≤ 2)
    (hidle : s.dev.ring.verify = none) : Completes (.ringCmdVerify q tier) s (fun t => t.dev.answered q St.OK = true ∧
      t.dev.rd D.VerifyResult.STATE 0 = 1 ∧ t.dev.rd D.VerifyResult.TIER 0 = tier ∧ t.dev.ring.verify = some (tier, (s.dev.elapse q.dt).wall)) := by
  have hbyte : tier % 256 = tier := Nat.mod_eq_of_lt (by omega)
  have hcmd : bitsOf (2 ^ 24 + tier) 24 8 = 1 ∧ bitsOf (2 ^ 24 + tier) 8 16 = 0 ∧ bitsOf (2 ^ 24 + tier) 0 8 = tier := by unfold bitsOf; omega
  obtain ⟨hverify, hzero, htier'⟩ := hcmd
  have hact : (s.dev.atBody q).ringCmd (2 ^ 24 + tier) = (((((s.dev.atBody q).setRing (fun r => { r with verify := some (tier, (s.dev.atBody q).wall) })).setEnt
      (D.VerifyResult.STATE.key 0) 0).wr D.VerifyResult.STATE 0 1).wr D.VerifyResult.TIER 0 tier, St.OK) := by
    have hidle' : (s.dev.atBody q).ring.verify = none := by rw [Dev.ring_atBody, hidle]
    unfold Dev.ringCmd
    simp only [hverify, hzero, htier', hidle', Option.isSome_none, Bool.false_eq_true, if_false]
    rw [if_neg (by omega)]
  refine completes_serveWrite (act := fun _ d => d.ringCmd (2 ^ 24 + tier)) (show execRingCmdVerify q tier s = _ by unfold execRingCmdVerify; rw [hbyte])
    hgrant hact (by decide) ⟨Dev.answered_ok _, ?_, ?_, ?_⟩
  · rw [Dev.rd_answer _ _ _ _ _ (by decide) (by decide), Dev.rd_wr_apart _ _ _ _ _ _ (by decide), Dev.rd_wr_same]; rfl
  · rw [Dev.rd_answer _ _ _ _ _ (by decide) (by decide), Dev.rd_wr_same]; exact Nat.mod_eq_of_lt (Nat.lt_of_le_of_lt htier (by decide))
  · have hset : ∀ (e : Dev) f, (e.setRing f).ring = f e.ring := fun _ _ => (rfl)
    rw [Dev.ring_answer, Dev.wr_ring, Dev.wr_ring, Dev.setEnt_ring, hset, Dev.wall_atBody]

theorem completes_ringVerifyDone {tier began : Nat} (hverify : s.dev.ring.verify = some (tier, began)) (hrun : s.dev.inReset = false)
    (hpast : (s.dev.elapse dt).past began ((s.dev.records tier).length * tierBytes tier * 1000000000 / 67108864) = true) :
    Completes (.ringVerifyDone dt) s (fun t => t.dev.ring.verify = none ∧
      t.dev.rd D.VerifyResult.STATE 0 = (if (chainCheck tier none (s.dev.records tier) 0 none).2.isSome then 3 else 2) ∧
      t.dev.rd D.VerifyResult.CHECKED 0 = (chainCheck tier none (s.dev.records tier) 0 none).1 % 2 ^ 32) := by
  have hverify' : (s.dev.elapse dt).ring.verify = some (tier, began) := hverify
  have hrec : (s.dev.elapse dt).records tier = s.dev.records tier := (rfl)
  have hset : ∀ (e : Dev) f g, (e.setRing f).rd g 0 = e.rd g 0 := fun _ _ _ => (rfl)
  refine ⟨_, rfl, ?_⟩
  simp only [hverify', hrec, Dev.inReset_elapse, hrun, hpast, Bool.not_true, Bool.false_eq_true, or_self, if_false]
  unfold Dev.verified
  dsimp only
  rw [hrec]
  refine ⟨rfl, ?_, ?_⟩
  · rw [hset, Dev.rd_wr_apart _ _ _ _ _ _ (by decide), Dev.rd_wr_apart _ _ _ _ _ _ (by decide), Dev.rd_wr_same]; split <;> rfl
  · rw [hset, Dev.rd_wr_apart _ _ _ _ _ _ (by decide), Dev.rd_wr_same]; rfl

/-! ## The temperature (R559, R560) -/

/-- The supplies' state stands through a POR. -/
theorem Dev.pwr_porNow (src till : Nat) : (d.porNow src till).pwr = d.pwr := by
  have hset : ∀ (e : Dev) f, (e.setRst f).pwr = e.pwr := fun _ _ => (rfl)
  have hstop : ∀ e : Dev, e.stopLoad.pwr = e.pwr := fun _ => (rfl)
  have hwiped : ∀ e : Dev, (e.wiped 0).pwr = e.pwr := fun _ => (rfl)
  have hcause : ∀ (e : Dev) r, (e.recordCause r).pwr = e.pwr := fun e r => by
    unfold Dev.recordCause; dsimp only
    exact Dev.ite_eq Dev.pwr rfl (by simp only [Dev.flag, Dev.wr_pwr])
  have hdrop : ∀ e : Dev, e.updateDrop.pwr = e.pwr := fun e => by
    unfold Dev.updateDrop; rw [Dev.wr_pwr, Dev.wr_pwr]; rfl
  rw [Dev.porNow_eq (φ := Dev.pwr) (fun _ _ _ _ _ => Dev.wr_pwr ..) (fun _ _ _ _ _ => (rfl)) (fun _ _ _ _ => (rfl))]
  unfold Dev.porStands; dsimp only
  rw [hset, Dev.wr_pwr, hcause, hstop, Dev.sat, Dev.wr_pwr, hwiped]
  exact Dev.ite_eq Dev.pwr (hdrop d) rfl

theorem Dev.raised_setPwr (f : PwrSt → PwrSt) : (d.setPwr f).raised = d.raised := (rfl)

theorem Dev.pwr_setPwr (f : PwrSt → PwrSt) : (d.setPwr f).pwr = f d.pwr := (rfl)

/-- A sample of the histograms changes the ring log alone. -/
theorem Dev.histTick_eq {α : Type} {φ : Dev → α} (hring : ∀ (e : Dev) f, φ (e.setRing f) = φ e) (e : Dev) : φ e.histTick = φ e := by
  have hadd : ∀ (e : Dev) h b, φ (e.histAdd h b) = φ e := fun e _ _ => hring e _
  have hsample : ∀ e : Dev, φ e.histSample = φ e := fun e => by
    unfold Dev.histSample; dsimp only
    exact (hadd ..).trans ((hadd ..).trans ((hadd ..).trans ((hadd ..).trans ((hadd ..).trans (hadd ..)))))
  exact Dev.ite_eq φ rfl ((hring ..).trans (hsample e))

/-- What the limits of the temperature leave of the supplies' state: whether it tripped, and what is not about the temperature. -/
theorem Dev.trip_tempLimits (temp : Int) : (((d.tempHigh temp).tempLow temp).tempCrit temp).histTick.pwr.trip = d.pwr.trip := by
  have hset : ∀ (e : Dev) f, (f e.pwr).trip = e.pwr.trip → (e.setPwr f).pwr.trip = e.pwr.trip := fun _ _ h => h
  have hhigh : ∀ e : Dev, (e.tempHigh temp).pwr.trip = e.pwr.trip := fun e =>
    Dev.ite_eq (fun e => e.pwr.trip) rfl (Dev.ite_eq (fun e => e.pwr.trip) (Dev.ite_eq (fun e => e.pwr.trip) rfl rfl) rfl)
  have hlow : ∀ e : Dev, (e.tempLow temp).pwr.trip = e.pwr.trip := fun e =>
    Dev.ite_eq (fun e => e.pwr.trip) rfl (Dev.ite_eq (fun e => e.pwr.trip) rfl (Dev.ite_eq (fun e => e.pwr.trip) (Dev.ite_eq (fun e => e.pwr.trip) rfl rfl) rfl))
  have hcrit : ∀ e : Dev, (e.tempCrit temp).pwr.trip = e.pwr.trip := fun e =>
    Dev.ite_eq (fun e => e.pwr.trip) rfl (Dev.ite_eq (fun e => e.pwr.trip) rfl rfl)
  rw [Dev.histTick_eq (φ := Dev.pwr) (fun _ _ => (rfl)), hcrit, hlow, hhigh]

/-- A hot device leaves the warning of the cold, which is silent. -/
theorem Dev.tempLow_hot {temp : Int} (hhot : d.pwr.warnHot = true) (htemp : 110 ≤ temp) :
    (d.tempLow temp).raised = d.raised ∧ ∃ cold, (d.tempLow temp).pwr = { d.pwr with warnCold := cold } := by
  have hwarm : ¬ (d.pwr.warnCold = false ∧ temp < if gradeLetter = 0x49 then (-45 : Int) else -5) := by
    rintro ⟨-, h⟩; split at h <;> omega
  have hstays : (d.setPwr (fun p => { p with warnCold := false })).pwr.warnHot = true := hhot
  unfold Dev.tempLow; dsimp only
  generalize (if gradeLetter = 0x49 then (-45 : Int) else -5) = limit at hwarm ⊢
  rw [if_neg hwarm, if_pos hstays]
  split
  · exact ⟨rfl, _, rfl⟩
  · split
    · exact ⟨rfl, _, rfl⟩
    · exact ⟨rfl, _, rfl⟩

theorem Dev.tempTrip_below {temp : Int} (htrip : d.pwr.trip = false) (htemp : temp < 120) : d.tempTrip temp = d := by
  unfold Dev.tempTrip
  rw [if_neg (by omega), if_neg (by rw [htrip]; simp)]

/-- A device that was cool warns at 110 °C, and says that it is critical (Table 20.10). -/
theorem Dev.limits_hot {temp : Int} (hwarm : d.pwr.warnHot = false) (hcrit : d.pwr.crit = false) (htemp : 110 ≤ temp) :
    (∃ cold, (((d.tempHigh temp).tempLow temp).tempCrit temp).histTick.pwr = { d.pwr with warnHot := true, warnCold := cold, crit := true }) ∧
    (((d.tempHigh temp).tempLow temp).tempCrit temp).histTick.raised = d.raised ++ [⟨Src.PWR_TEMP_WARN, 0, true⟩] ++ [⟨Src.PWR_TEMP_CRIT, 0, false⟩] := by
  have hhigh : d.tempHigh temp = (d.setPwr (fun p => { p with warnHot := true })).raiseL Src.PWR_TEMP_WARN 0 := if_pos ⟨hwarm, by omega⟩
  obtain ⟨hraised, cold, hpwr⟩ := Dev.tempLow_hot (d := d.tempHigh temp) (by rw [hhigh]; rfl) htemp
  have hcritical : ((d.tempHigh temp).tempLow temp).tempCrit temp =
      (((d.tempHigh temp).tempLow temp).setPwr (fun p => { p with crit := true })).raise Src.PWR_TEMP_CRIT 0 :=
    if_pos ⟨by rw [hpwr, hhigh]; exact hcrit, htemp⟩
  have hpwr' : ∀ e : Dev, ((e.setPwr (fun p => { p with crit := true })).raise Src.PWR_TEMP_CRIT 0).pwr = { e.pwr with crit := true } := fun _ => (rfl)
  have hraised' : ∀ e : Dev, ((e.setPwr (fun p => { p with crit := true })).raise Src.PWR_TEMP_CRIT 0).raised = e.raised ++ [⟨Src.PWR_TEMP_CRIT, 0, false⟩] :=
    fun _ => (rfl)
  rw [Dev.histTick_eq (φ := Dev.pwr) (fun _ _ => (rfl)), Dev.histTick_eq (φ := Dev.raised) (fun _ _ => (rfl)), hcritical, hpwr', hraised', hpwr, hraised, hhigh]
  exact ⟨⟨cold, rfl⟩, rfl⟩

theorem completes_thermalSample_hot {temp : Int} (hcool : s.dev.pwr.warnHot = false ∧ s.dev.pwr.crit = false ∧ s.dev.pwr.trip = false)
    (htemp : 110 ≤ temp ∧ temp < 120) : Completes (.thermalSample dt temp) s (fun t => t.dev.pwr.temp = temp ∧ t.dev.pwr.warnHot = true ∧
      t.dev.pwr.crit = true ∧ t.dev.pwr.trip = false ∧ t.dev.raised.contains ⟨Src.PWR_TEMP_WARN, 0, true⟩ = true ∧
      t.dev.raised.contains ⟨Src.PWR_TEMP_CRIT, 0, false⟩ = true) := by
  obtain ⟨hwarm, hcrit, htrip⟩ := hcool
  obtain ⟨⟨cold, hpwr⟩, hraised⟩ := Dev.limits_hot (d := (s.dev.elapse dt).setPwr (fun p => { p with temp := temp })) hwarm hcrit htemp.1
  refine ⟨_, rfl, ?_⟩
  dsimp only
  rw [Dev.tempTrip_below (by rw [hpwr]; exact htrip) htemp.2, hpwr, hraised]
  refine ⟨rfl, rfl, rfl, htrip, ?_, ?_⟩
  · simp
  · simp

/-- At 120 °C the device trips, and a POR of source 0x02 stands (R560). -/
theorem Dev.tempTrip_trips {temp : Int} (hcool : d.pwr.trip = false) (htemp : 120 ≤ temp) : (d.tempTrip temp).pwr.trip = true ∧
    (d.tempTrip temp).rst.asserted.any (fun r => r.reach == 0 && r.src == 2) = true ∧ (d.tempTrip temp).inReset = true := by
  have htrip : d.tempTrip temp = ((d.setPwr (fun p => { p with trip := true, tripAt := d.wall })).porNow 0x02 d.wall).each
      ((List.range 142).filter (fun i => (Config.island i).1 != 1)) (fun d i => d.wr D.IslandStatus.STATE i 4) := if_pos ⟨hcool, htemp⟩
  have hrst : (d.tempTrip temp).rst = ((d.setPwr (fun p => { p with trip := true, tripAt := d.wall })).porNow 0x02 d.wall).rst := by
    rw [htrip]; exact Dev.each_eq Dev.rst (fun _ _ => Dev.wr_rst ..) _ _
  obtain ⟨hasserted, -, -, -, hreset⟩ := Dev.porNow_stands (d := d.setPwr (fun p => { p with trip := true, tripAt := d.wall })) 0x02 d.wall
  refine ⟨?_, by rw [hrst]; exact hasserted, by rw [Dev.inReset, hrst]; exact hreset⟩
  rw [htrip, Dev.each_eq Dev.pwr (fun _ _ => Dev.wr_pwr ..), Dev.pwr_porNow]; rfl

theorem completes_thermalSample_trip {temp : Int} (hcool : s.dev.pwr.trip = false) (htemp : 120 ≤ temp) : Completes (.thermalSample dt temp) s (fun t =>
    t.dev.pwr.trip = true ∧ t.dev.rst.asserted.any (fun r => r.reach == 0 && r.src == 2) = true ∧ t.mem = []) := by
  have hlimits := Dev.trip_tempLimits (d := (s.dev.elapse dt).setPwr (fun p => { p with temp := temp })) temp
  obtain ⟨htrip, hasserted, hreset⟩ := Dev.tempTrip_trips (hlimits.trans hcool) htemp
  exact ⟨_, rfl, htrip, hasserted, if_pos hreset⟩

/-! ## AVSBus and PMBus (R547 to R549) -/

theorem completes_avsUpdate (hrun : s.dev.inReset = false) (hstage : 3 ≤ s.dev.stage) (hwarn : s.dev.pwrWarn = false) (hnone : s.dev.pwr.avsHigh = none) :
    Completes (.avsUpdate dt [true]) s (fun t => t.dev.pwr.avsHigh = none ∧ t.dev.pwr.avsTarget = s.dev.avsWants ∧
      (s.dev.pwr.avsWritten < s.dev.avsWants → t.dev.pwr.avsWritten = s.dev.avsWants ∧ t.dev.out = [.railWrite 2 0 s.dev.avsWants])) := by
  have hruns : ¬ ((s.dev.elapse dt).inReset = true ∨ (s.dev.elapse dt).stage < 3 ∨ (s.dev.elapse dt).pwrWarn = true) := by
    rw [show (s.dev.elapse dt).pwrWarn = s.dev.pwrWarn from rfl, hwarn]; simp [hrun]; omega
  have hwants : (s.dev.elapse dt).avsWants = s.dev.avsWants := (rfl)
  have hwrite : ∀ (e : Dev) mv, e.avsWrite mv [true] = (e.emit (.railWrite 2 0 mv)).setPwr (fun p => { p with avsWritten := mv, avsHigh := none }) :=
    fun _ _ => (rfl)
  refine ⟨_, rfl, ?_⟩
  simp only [if_neg hruns, Dev.pwr_setPwr, show (s.dev.elapse dt).pwr.avsHigh = none from hnone, hwrite, hwants,
    show (s.dev.elapse dt).pwr.avsWritten = s.dev.pwr.avsWritten from rfl]
  split
  case isTrue hraise => exact ⟨rfl, rfl, fun _ => ⟨rfl, rfl⟩⟩
  case isFalse hraise =>
    split
    · exact ⟨rfl, rfl, fun h => absurd h hraise⟩
    · exact ⟨hnone, rfl, fun h => absurd h hraise⟩

theorem completes_avsRetry {mv : Nat} (ack : Bool) (hrun : s.dev.inReset = false) (hwarn : s.dev.pwrWarn = false) (hhigh : s.dev.pwr.avsHigh = some mv)
    (hpast : (s.dev.elapse dt).past s.dev.pwr.avsAt 100000000 = true) : Completes (.avsRetry dt ack) s (fun t => t.dev.out = [.railWrite 2 0 mv] ∧
      t.dev.pwr.avsHigh = (if ack then none else some mv) ∧ t.dev.pwr.avsWritten = (if ack then mv else s.dev.pwr.avsWritten)) := by
  have hpwr : (s.dev.elapse dt).pwr = s.dev.pwr := (rfl)
  have hruns : ¬ ((s.dev.elapse dt).inReset = true ∨ (s.dev.elapse dt).pwrWarn = true ∨ (!(s.dev.elapse dt).past s.dev.pwr.avsAt 100000000) = true) := by
    rw [show (s.dev.elapse dt).pwrWarn = s.dev.pwrWarn from rfl, hwarn, hpast]; simp [hrun]
  refine ⟨_, rfl, ?_⟩
  simp only [hpwr, hhigh, if_neg hruns]
  cases ack
  · exact ⟨rfl, hhigh, rfl⟩
  · exact ⟨rfl, rfl, rfl⟩

theorem completes_pmbusPoll {mv ma : Nat} (alert : Bool) (hrun : s.dev.inReset = false) (hstage : 3 ≤ s.dev.stage)
    (hpast : (s.dev.elapse dt).past s.dev.pwr.polledAt 100000000 = true) (halert : s.dev.pwr.alertLow = false) :
    Completes (.pmbusPoll dt [some (mv, ma), none] alert) s (fun t => t.dev.pwr.readings = [(0, mv, ma)] ∧
      t.dev.pwr.energy = s.dev.pwr.energy + 100 * mv * ma ∧ t.dev.pwr.alertLow = alert ∧ t.dev.out = []) := by
  have hpwr : (s.dev.elapse dt).pwr = s.dev.pwr := (rfl)
  have hruns : ¬ ((s.dev.elapse dt).inReset = true ∨ (s.dev.elapse dt).stage < 3 ∨ (!(s.dev.elapse dt).past s.dev.pwr.polledAt 100000000) = true) := by
    rw [hpast]; simp [hrun]; omega
  refine ⟨_, rfl, ?_⟩
  simp only [hpwr, if_neg hruns, halert, Bool.false_eq_true, if_false, Dev.pwr_setPwr]
  exact ⟨rfl, rfl, trivial, rfl⟩

end

/-- Settles O55: a record takes the next slot and the next SEQ of its tier; a sample, a target and a poll change the supplies' state alone. -/
theorem ringAndSensorsComplete : Obligations.RingAndSensorsComplete := by
  unfold Obligations.RingAndSensorsComplete
  refine ⟨?_, ?_, ?_, ?_, ?_, ?_, ?_, ?_, ?_⟩
  · intro s dt dailyOk hopen hstepped hend
    exact completes_logIntervalEnd dailyOk hopen hstepped hend
  · intro s dt e l ok hopen hevents
    exact completes_eventRecordWrite ok hopen hevents
  · intro s q tier hgrant htier hidle
    exact completes_ringCmdVerify hgrant htier hidle
  · intro s dt tier began hverify hrun hpast
    exact completes_ringVerifyDone hverify hrun hpast
  · intro s dt temp hcool htemp
    exact completes_thermalSample_hot hcool htemp
  · intro s dt temp hcool htemp
    exact completes_thermalSample_trip hcool htemp
  · intro s dt hrun hstage hwarn hnone
    exact completes_avsUpdate hrun hstage hwarn hnone
  · intro s dt mv ack hrun hwarn hhigh hpast
    exact completes_avsRetry ack hrun hwarn hhigh hpast
  · intro s dt mv ma alert hrun hstage hpast halert
    exact completes_pmbusPoll alert hrun hstage hpast halert

end Sys2Proof.Machine
end

section
/-! Obligations of 11_composition_heads.md: heads, layers, veneers and tally (R317 to R334). -/

namespace Sys2Proof.Machine
open Sys2Proof

variable {d : Dev}

/-! ## The state of a head and of a layer -/

theorem Dev.headSt_setHead (h : Nat) (f : HeadSt → HeadSt) : (d.setHead h f).headSt h = f (d.headSt h) := nget_nput_same ..

theorem Dev.layerSt_setLayer (e : Nat) (f : LayerSt → LayerSt) : (d.setLayer e f).layerSt e = f (d.layerSt e) := nget_nput_same ..

theorem Dev.layerSt_congr {e : Dev} (h : e.layer = d.layer) (n : Nat) : e.layerSt n = d.layerSt n := by unfold Dev.layerSt; rw [h]

/-! ## What receiving a request leaves -/

/-- A request that arrives is counted below the records, and noted for its session and its port. -/
theorem Dev.atBody_eq {α : Type} {φ : Dev → α} (hwr : ∀ (e : Dev) f n v, Fld.belowRecords f = true → φ (e.wr f n v) = φ e)
    (hparts : ∀ (e : Dev) wall raw out rcp netPort, φ { e with wall := wall, raw := raw, out := out, rcp := rcp, netPort := netPort } = φ e)
    (d : Dev) (q : Rcp) : φ (d.atBody q) = φ d := by
  have hcore : ∀ (e : Dev) p, φ (e.coreFrame p) = φ e := fun e p =>
    (hparts ..).trans (Dev.ite_eq φ (hwr _ _ _ _ (by decide)) ((hwr _ _ _ _ (by decide)).trans (hwr _ _ _ _ (by decide))))
  have hrx : ∀ (e : Dev) via, φ (e.mgRx via) = φ e := fun e via =>
    Dev.ite_eq φ rfl (Dev.ite_eq φ (hwr _ _ _ _ (by decide)) ((hcore ..).trans (hwr _ _ _ _ (by decide))))
  have hconfirm : ∀ e : Dev, φ e.confirmMg = φ e := fun e => by
    unfold Dev.confirmMg
    split
    · exact (hwr _ _ _ _ (by decide)).trans ((hwr _ _ _ _ (by decide)).trans (hparts ..))
    · rfl
  have haccept : ∀ (e : Dev) via, φ (e.mgAccept via) = φ e := fun e via => Dev.ite_eq φ (hwr _ _ _ _ (by decide)) rfl
  have hheard : ∀ (e : Dev), φ (e.heard q) = φ e := fun e => Dev.ite_eq φ rfl ((hconfirm _).trans ((haccept ..).trans (hparts ..)))
  exact (hheard _).trans ((hrx ..).trans (hparts ..))

theorem Dev.listed_atBody (q : Rcp) {g : Fld} (hg : Fld.inRecord g = true) (k : Nat) : (d.atBody q).listed g k = d.listed g k :=
  Dev.atBody_eq (φ := fun e => e.listed g k) (fun _ _ _ _ hf => Dev.listed_wr_below _ hf hg _ _ _) (fun _ _ _ _ _ _ => (rfl)) d q

theorem Dev.rd_atBody_record (q : Rcp) {g : Fld} (hg : Fld.inRecord g = true) (m : Nat) : (d.atBody q).rd g m = d.rd g m :=
  Dev.atBody_eq (φ := fun e => e.rd g m) (fun _ _ _ _ hf => Dev.rd_wr_apart _ _ _ _ _ _ (Fld.apart_of_belowRecords hf hg)) (fun _ _ _ _ _ _ => (rfl)) d q

/-- The heads that show a veneer are a matter of the flow and layer records alone. -/
theorem Dev.veneerHeads_atBody (q : Rcp) (v : Nat) : (d.atBody q).veneerHeads v = d.veneerHeads v := by
  have hrd : ∀ {g : Fld}, Fld.inRecord g = true → ∀ m, (d.atBody q).rd g m = d.rd g m := fun hg m => Dev.rd_atBody_record q hg m
  unfold Dev.veneerHeads Dev.veneerLayers Dev.headOut Dev.boundTo Dev.enabled Dev.on Dev.kind Dev.bindIx Dev.running Dev.flowLayer
  simp only [Dev.listed_atBody q (g := D.Flow.ENABLE) (by decide), hrd (g := D.Flow.ENABLE) (by decide), hrd (g := D.Flow.KIND) (by decide),
    hrd (g := D.FlowBind.INDEX) (by decide), hrd (g := D.Flow.STATE) (by decide), hrd (g := D.Layer.HEAD) (by decide), hrd (g := D.Layer.VENEER) (by decide),
    hrd (g := D.Layer.SOURCE) (by decide)]

section layers

variable {α : Type} {φ : Dev → α} (hset : ∀ (e : Dev) k v, φ (e.setEnt k v) = φ e) (hlayer : ∀ (e : Dev) n f, φ (e.setLayer n f) = φ e)
  (hraise : ∀ (e : Dev) src inst, φ (e.raise src inst) = φ e) (hflip : ∀ (e : Dev) l, φ { e with flip := l } = φ e)

include hset hflip in
/-- Flips that take place on a head's boundary change their veneers alone. -/
theorem Dev.passFlips_eq (e : Dev) (h : Nat) : φ (e.passFlips h) = φ e := by
  have hdone : ∀ (e : Dev) v, φ (e.flipDone v) = φ e := fun e v => by
    unfold Dev.flipDone
    split
    · exact Dev.ite_eq φ ((hset ..).trans ((hset ..).trans (hflip ..))) rfl
    · rfl
  exact (Dev.each_eq φ hdone _ _).trans (hflip ..)

include hlayer in
theorem Dev.layerUse_eq (e : Dev) (n : Nat) (first : Bool) : φ (e.layerUse n first) = φ e := by
  unfold Dev.layerUse; dsimp only
  rw [hlayer]
  split
  · exact Dev.ite_eq φ (hlayer ..) rfl
  · exact Dev.ite_eq φ (hlayer ..) rfl

include hlayer in
theorem Dev.layerBars_eq (e : Dev) (n : Nat) : φ (e.layerBars n) = φ e := by
  unfold Dev.layerBars; exact hlayer ..

include hlayer in
theorem Dev.layerSwitch_eq (e : Dev) (n : Nat) : φ (e.layerSwitch n) = φ e := by
  unfold Dev.layerSwitch; exact hlayer ..

include hset hraise

theorem Dev.layerNotReady_eq (e : Dev) (n : Nat) : φ (e.layerNotReady n) = φ e :=
  (hset ..).trans ((hset ..).trans ((hset ..).trans (Dev.ite_eq φ rfl (hraise ..))))

omit hraise in
include hlayer in
theorem Dev.layerNew_eq (e : Dev) (n : Nat) (f : LayerFrame) : φ (e.layerNew n f) = φ e :=
  (hset ..).trans ((hset ..).trans ((hset ..).trans ((hset ..).trans ((hlayer ..).trans (Dev.ite_eq φ rfl (Dev.layerSwitch_eq hlayer ..))))))

include hlayer

theorem Dev.layerFlow_eq (e : Dev) (n : Nat) : φ (e.layerFlow n) = φ e := by
  unfold Dev.layerFlow; dsimp only
  split
  · exact (Dev.layerNew_eq hset hlayer ..).trans (hlayer ..)
  · refine Dev.ite_eq φ ((Dev.layerNotReady_eq hset hraise ..).trans ((hlayer ..).trans ((Dev.layerSwitch_eq hlayer ..).trans (hlayer ..)))) (Dev.ite_eq φ ?_ ?_)
    · exact (hset ..).trans ((hset ..).trans ((hlayer ..).trans (hlayer ..)))
    · exact (Dev.layerNotReady_eq hset hraise ..).trans (hlayer ..)

theorem Dev.layerRow_eq (e : Dev) (n : Nat) : φ (e.layerRow n) = φ e := by
  refine Dev.ite_eq φ (hset ..) (Dev.ite_eq φ ((hset ..).trans (hset ..)) (Dev.ite_eq φ (hset ..) (Dev.ite_eq φ (hset ..) ?_)))
  exact Dev.layerFlow_eq hset hlayer hraise ..

end layers

/-! ## A head's frame boundary (R317, R326 to R332) -/

/-- What a head's frame begins with: the head's own changes, where they are due. -/
def Dev.headUse (d : Dev) (head : Nat) : Dev :=
  if !(d.headSt head).started || (match (d.headSt head).changed with | some t => d.leadPast t | none => false) then
    d.setHead head (fun x => { x with background := d.rd D.Head.BACKGROUND head, palette := d.rd D.Head.PALETTE head,
                                      zorder := d.on D.HeadTiming.ZORDER head, changed := none, started := true })
  else d

theorem Dev.started_headUse (head : Nat) : ((d.headUse head).headSt head).started = true := by
  unfold Dev.headUse
  cases hstarted : (d.headSt head).started
  · rw [Bool.not_false, Bool.true_or, if_pos rfl, Dev.headSt_setHead]
  · exact Dev.ite_eq (fun e => (e.headSt head).started) (by rw [Dev.headSt_setHead]) hstarted

/-- A head's frame ends with its picture, of the head and the stack that stand then. -/
theorem Dev.headFrame_picture (m : List Host.Cell) (head c t : Nat) (lost probe : List (Nat × Nat)) :
    ∃ (e : Dev) (stack : List LayerShown) (px : Nat × Nat → Nat), e.head = (d.headUse head).head ∧
      d.headFrame m head c t lost probe =
        (e.setHead head (fun x => { x with boundary := some t, stack := stack })).emit (.picture head
          ((e.setHead head (fun x => { x with boundary := some t, stack := stack })).headSt head).background
          ((e.setHead head (fun x => { x with boundary := some t, stack := stack })).headSt head).palette stack (probe.map fun p => (p.1, p.2, px p))) := by
  have hset : ∀ (e : Dev) k v, (e.setEnt k v).head = e.head := fun _ _ _ => Dev.setEnt_head ..
  have hlayer : ∀ (e : Dev) n f, (e.setLayer n f).head = e.head := fun _ _ _ => (rfl)
  have hraise : ∀ (e : Dev) src inst, (e.raise src inst).head = e.head := fun _ _ _ => (rfl)
  have hflow : ∀ (e : Dev) n f, (e.setFlow n f).head = e.head := fun _ _ _ => (rfl)
  have hrow : ∀ (e : Dev) n, (((e.layerUse n (!(d.headSt head).started)).layerRow n).layerBars n).head = e.head := fun e n =>
    (Dev.layerBars_eq hlayer ..).trans ((Dev.layerRow_eq hset hlayer hraise ..).trans (Dev.layerUse_eq hlayer ..))
  unfold Dev.headFrame
  refine ⟨_, _, _, ?_, rfl⟩
  refine (hset ..).trans ((Dev.each_eq Dev.head (fun _ _ => hset ..) _ _).trans ((Dev.each_eq Dev.head (fun _ _ => hset ..) _ _).trans
    ((Dev.each_eq Dev.head hrow _ _).trans ((Dev.each_eq Dev.head (fun _ _ => hflow ..) _ _).trans (Dev.passFlips_eq hset (fun _ _ => rfl) _ _)))))

section

variable {s : State} {q : Rcp} {dt : Nat}

theorem completes_headFrameBoundary {head c t0 : Nat} (lost probe : List (Nat × Nat)) (hserve : s.dev.serving = true) (hhead : head < 12)
    (hout : s.dev.headOut head = some c) (hrun : s.dev.running c = true) (hboundary : (s.dev.elapse dt).headBoundary head c = some t0) :
    Completes (.headFrameBoundary dt head lost probe) s (fun t => (t.dev.headSt head).started = true ∧ (t.dev.headSt head).boundary = some t0 ∧
      t.dev.out.any (fun x0 => match x0 with
        | .picture h0 b0 _ l0 p0 => h0 == head && b0 == (t.dev.headSt head).background && l0 == (t.dev.headSt head).stack && p0.map (fun y0 => (y0.1, y0.2.1)) == probe
        | _ => false) = true) := by
  have hout' : (s.dev.elapse dt).headOut head = some c := hout
  have hruns : ¬ (12 ≤ head ∨ (!(s.dev.elapse dt).running c) = true) := by rw [Dev.running_elapse, hrun]; simp; omega
  obtain ⟨e, stack, px, hkept, hpicture⟩ := Dev.headFrame_picture (d := s.dev.elapse dt) s.mem head c t0 lost probe
  have hst : (e.setHead head (fun x => { x with boundary := some t0, stack := stack })).headSt head = { e.headSt head with boundary := some t0, stack := stack } :=
    Dev.headSt_setHead ..
  have hemit : ∀ (e : Dev) x, (e.emit x).headSt head = e.headSt head := fun _ _ => (rfl)
  have hstarted : (e.headSt head).started = true := by
    rw [show e.headSt head = ((s.dev.elapse dt).headUse head).headSt head by unfold Dev.headSt; rw [hkept]]; exact Dev.started_headUse head
  refine ⟨_, rfl, ?_⟩
  simp only [Dev.live_serving _ _ _ hserve, hout', hboundary, if_neg hruns]
  rw [hpicture, hemit, hst]
  refine ⟨hstarted, rfl, List.any_eq_true.mpr ⟨_, List.mem_append_right _ (List.mem_singleton_self _), ?_⟩⟩
  simp [List.map_map, Function.comp_def]

/-! ## Layer frames and runs (R322, R325) -/

theorem completes_layerFrameComplete {e made : Nat} {rest : List Nat} (filled : List (Nat × Nat × Nat)) (hserve : s.dev.serving = true) (he : e < 192)
    (hdue : (s.dev.layerSt e).due = made :: rest) (hok : s.dev.engineOk e = true)
    (hheld : ((s.dev.store.alloc.find? (fun (x0 : Nat × Alloc) => x0.2.want.cls == 2 && x0.2.want.tag == 0 && x0.2.want.owner == e)).map
      (fun (x0 : Nat × Alloc) => x0.2.held)).getD 0 ≠ 0) : Completes (.layerFrameComplete dt e filled) s (fun t => (t.dev.layerSt e).due = rest ∧
      (t.dev.layerSt e).frames = (s.dev.layerSt e).frames + 1 ∧
      (t.dev.layerSt e).ready.getLast? = some ⟨(s.dev.layerSt e).frames + 1, s.dev.wall + dt, made, filled⟩ ∧
      t.dev.rd D.Layer.LOST_LINES e = min (s.dev.rd D.Layer.LOST_LINES e +
        (((filled.filter (fun (x0 : Nat × Nat × Nat) => x0.2.2 != 0)).map (fun (x0 : Nat × Nat × Nat) => x0.1)).eraseDups).length) (2 ^ 32 - 1)) := by
  have hdue' : ((s.dev.elapse dt).layerSt e).due = made :: rest := hdue
  have hok' : ∀ f, ((s.dev.elapse dt).setLayer e f).engineOk e = true := fun _ => hok
  have hstore : ∀ f, ((s.dev.elapse dt).setLayer e f).store = s.dev.store := fun _ => (rfl)
  have hst : (s.dev.elapse dt).layerSt e = s.dev.layerSt e := (rfl)
  have hset : ∀ (x : Dev) f n k, (x.sat f n k).layerSt e = x.layerSt e := fun _ _ _ _ => Dev.layerSt_congr (Dev.wr_layer ..) e
  refine ⟨_, rfl, ?_⟩
  simp only [Dev.live_serving _ _ _ hserve, hdue', hok', hstore]
  rw [if_neg ?fits]
  case fits =>
    rintro (h | h | h)
    · omega
    · exact absurd h (by decide)
    · refine hheld ?_
      cases hfind : s.dev.store.alloc.find? (fun (x0 : Nat × Alloc) => x0.2.want.cls == 2 && x0.2.want.tag == 0 && x0.2.want.owner == e) with
      | none => rfl
      | some a => rw [hfind] at h; exact h
  rw [Dev.layerSt_setLayer, hset, hset, Dev.layerSt_setLayer, Dev.rd_setLayer, Dev.rd_sat_apart _ _ _ _ _ _ (by decide), Dev.rd_sat_same, Dev.rd_setLayer,
    Dev.rd_elapse, hst]
  exact ⟨rfl, rfl, by rw [List.getLast?_concat]; rfl, rfl⟩

/-- What the evaluation of a source's FORMAT leaves of its engine (R325). -/
theorem Dev.format_layerEval (e f : Nat) (raise : Bool) : ((d.layerEval e f raise).layerSt e).format = f := by
  unfold Dev.layerEval; dsimp only
  rw [Dev.layerSt_setLayer]

theorem Dev.due_layerEval {e : Nat} (f : Nat) (raise : Bool) (h : (d.layerSt e).due = []) : ((d.layerEval e f raise).layerSt e).due = [] := by
  have hflag : ∀ (x : Dev) g n b, (x.flag g n b).layerSt e = x.layerSt e := fun _ _ _ _ => Dev.layerSt_congr (Dev.wr_layer ..) e
  have hraise : ∀ (x : Dev) src n, (x.raise src n).layerSt e = x.layerSt e := fun _ _ _ => (rfl)
  unfold Dev.layerEval; dsimp only
  rw [Dev.layerSt_setLayer]; dsimp only
  rw [hflag, hflag]
  refine Dev.ite_eq (fun x => (x.layerSt e).due) (by rw [Dev.layerSt_setLayer]) ?_
  refine Dev.ite_eq (fun x => (x.layerSt e).due) ?_ ?_
  · rw [hraise]
    exact Dev.ite_eq (fun x => (x.layerSt e).due) (by rw [hraise, Dev.layerSt_congr (Dev.wr_layer ..) e, h]) (by rw [Dev.layerSt_congr (Dev.wr_layer ..) e, h])
  · exact Dev.ite_eq (fun x => (x.layerSt e).due) (by rw [hraise, Dev.layerSt_congr (Dev.wr_layer ..) e, h]) (by rw [Dev.layerSt_congr (Dev.wr_layer ..) e, h])

theorem completes_layerRunStart {e c : Nat} {m : Merge} {r : Remote} (hserve : s.dev.serving = true) (he : e < 192) (hin : s.dev.layerIn e = some c)
    (hcur : (s.dev.flowSt c).cur = some m) (hsource : s.dev.sourceInfo m.efn = some r) (hrun : s.dev.running c = true) :
    Completes (.layerRunStart dt e) s (fun t => (t.dev.layerSt e).format = r.format ∧ (t.dev.layerSt e).due = []) := by
  have hin' : (s.dev.elapse dt).layerIn e = some c := hin
  have hsource' : (s.dev.elapse dt).sourceInfo m.efn = some r := hsource
  have hruns : ¬ (192 ≤ e ∨ (!(s.dev.elapse dt).running c) = true) := by rw [Dev.running_elapse, hrun]; simp; omega
  have hbound := List.find?_some hin'
  obtain ⟨hkind, hix⟩ := Bool.and_eq_true_iff.mp hbound
  have hnew : (((s.dev.elapse dt).layerNewRun c).layerSt e).due = [] := by
    unfold Dev.layerNewRun
    rw [if_neg (not_not.mpr (beq_iff_eq.mp hkind)), beq_iff_eq.mp hix, Dev.layerSt_setLayer]
  refine ⟨_, rfl, ?_⟩
  simp only [Dev.live_serving _ _ _ hserve, hin', Dev.flowSt_elapse, hcur, hsource', if_neg hruns]
  split
  case isTrue hsame => exact ⟨hsame, hnew⟩
  case isFalse hother => exact ⟨Dev.format_layerEval .., Dev.due_layerEval _ _ hnew⟩

/-! ## Veneers (R330) -/

theorem Memory.readBytes_writeBytes (l : List Nat) (m : List Host.Cell) (a : Nat) (hl : ∀ b ∈ l, b < 256) :
    Memory.readBytes (Memory.writeBytes m a l) a l.length = l := by
  induction l generalizing m a with
  | nil => rfl
  | cons b l ih =>
    rw [List.length_cons, Memory.readBytes, Memory.writeBytes, ih _ _ (fun b hb => hl b (List.mem_cons_of_mem _ hb)),
      Memory.read_writeBytes_other _ _ (.inl (Nat.lt_succ_self a)), Memory.read_write_same, BitVec.toNat_ofNat, Nat.mod_eq_of_lt (hl b List.mem_cons_self)]

/-- The fields of the header of a write of one pixel to the front (Table 11.9). -/
theorem veneerHeader_fields {v x y : Nat} (hv : v < 512) (hx : x < 65536) (hy : y < 65536) :
    bitsOf (veneerHeader v x y 1 1 false) 112 16 = v ∧ bitsOf (veneerHeader v x y 1 1 false) 96 16 = x ∧
    bitsOf (veneerHeader v x y 1 1 false) 80 16 = y ∧ bitsOf (veneerHeader v x y 1 1 false) 64 16 = 1 ∧
    bitsOf (veneerHeader v x y 1 1 false) 48 16 = 1 ∧ bit (veneerHeader v x y 1 1 false) 47 = false ∧ bitsOf (veneerHeader v x y 1 1 false) 0 47 = 0 := by
  unfold veneerHeader bitsOf bit ofBool
  simp
  omega

/-- A write of one pixel to the front of a single-buffered veneer goes to one place of its surface (Table 11.9). -/
theorem Dev.veneerWrite_pixel {v x y pixel h : Nat} {a : Alloc} (hv : v < 512) (hx : x < 65536) (hy : y < 65536) (hpixel : pixel < 2 ^ 32)
    (hon : d.on D.VeneerCfg.ENABLE v = true) (hsingle : d.on D.VeneerCfg.DOUBLE v = false) (hwidth : x + 1 ≤ d.rd D.VeneerCfg.WIDTH v)
    (hheight : y + 1 ≤ d.rd D.VeneerCfg.HEIGHT v) (hveneer : d.veneerAlloc v = some (h, a)) :
    d.veneerWrite ⟨20, veneerHeader v x y 1 1 false * 256 ^ 4 + pixel⟩ =
      (d.storePut h ((y * d.rd D.VeneerCfg.WIDTH v + x) * 4 / blockBytes) ((y * d.rd D.VeneerCfg.WIDTH v + x) * 4 % blockBytes) (bytesOf 4 pixel), St.OK) := by
  obtain ⟨hn, hx', hy', hw, hh, hback, hzero⟩ := veneerHeader_fields hv hx hy
  have hhead : (veneerHeader v x y 1 1 false * 256 ^ 4 + pixel) / 256 ^ (20 - 16) = veneerHeader v x y 1 1 false := by omega
  have hpixels : bytesOf 4 (veneerHeader v x y 1 1 false * 256 ^ 4 + pixel) = bytesOf 4 pixel := by
    generalize veneerHeader v x y 1 1 false = head
    simp only [bytesOf, List.cons.injEq, and_true]
    omega
  have hspan : ∀ off, off % 4 = 0 → d.storeSpan h 3 off (bytesOf 4 pixel) = d.storePut h (off / blockBytes) (off % blockBytes) (bytesOf 4 pixel) := by
    intro off hoff
    have hroom : (bytesOf 4 pixel).length ≤ blockBytes - off % blockBytes := by
      rw [show (bytesOf 4 pixel).length = 4 from rfl]; unfold blockBytes; omega
    rw [Dev.storeSpan, if_pos hroom, List.take_of_length_le hroom]
  unfold Dev.veneerWrite
  simp only [hhead, hn, hx', hy', hw, hh, hback, hzero, hveneer, hsingle]
  rw [if_neg (by decide), if_neg (by omega), if_neg (by decide), if_neg (by simp [hon]; omega), if_neg (by simp), Bool.not_false, if_pos rfl, Nat.zero_mul,
    Nat.zero_mul]
  refine congrArg (·, St.OK) ?_
  refine Eq.trans (b := d.storeSpan h 3 ((y * d.rd D.VeneerCfg.WIDTH v + x) * 4) (bytesOf 4 pixel)) ?_ (hspan _ (by omega))
  simp only [Dev.each, List.range_one, List.foldl_cons, List.foldl_nil, Nat.zero_add, Nat.add_zero, Nat.mul_one, Nat.sub_self, Nat.mul_zero, Nat.pow_zero,
    Nat.div_one, hpixels]

/-- One pixel is stored at its address, and nowhere else. -/
theorem completes_veneerWrite {v x y pixel h p : Nat} {a : Alloc} (hv : v < 512) (hx : x < 65536) (hy : y < 65536) (hpixel : pixel < 2 ^ 32)
    (hgrant : s.dev.grantsDom q 0x1010 0x03 0 ⟨20, veneerHeader v x y 1 1 false * 256 ^ 4 + pixel⟩ = true)
    (hon : s.dev.on D.VeneerCfg.ENABLE v = true) (hsingle : s.dev.on D.VeneerCfg.DOUBLE v = false) (hwidth : x + 1 ≤ s.dev.rd D.VeneerCfg.WIDTH v)
    (hheight : y + 1 ≤ s.dev.rd D.VeneerCfg.HEIGHT v) (hveneer : s.dev.veneerAlloc v = some (h, a)) (halloc : Assoc.find s.dev.store.alloc h = some a)
    (hcopy : s.dev.store.copying = []) (hmem : s.dev.memQ = [])
    (haddr : a.addr ((y * s.dev.rd D.VeneerCfg.WIDTH v + x) * 4 / blockBytes) ((y * s.dev.rd D.VeneerCfg.WIDTH v + x) * 4 % blockBytes) = some p)
    (hend : p + 4 ≤ memSize) : Completes (.veneerWrite q v x y 1 1 false pixel) s (fun t => t.dev.answered q St.OK = true ∧
      Memory.readBytes t.mem p 4 = bytesOf 4 pixel ∧ (∀ b, b < p ∨ p + 4 ≤ b → Memory.read t.mem b = Memory.read s.mem b)) := by
  have hrd : ∀ {f : Fld}, offHeard f = true → (s.dev.atBody q).rd f v = s.dev.rd f v := fun hf => Dev.rd_atBody_off q hf v
  have hbytes : (bytesOf 4 pixel).length = 4 := rfl
  have hact := Dev.veneerWrite_pixel (d := s.dev.atBody q) (h := h) (a := a) hv hx hy hpixel (by rw [Dev.on_atBody_off q (by decide), hon])
    (by rw [Dev.on_atBody_off q (by decide), hsingle]) (by rw [hrd (by decide)]; exact hwidth) (by rw [hrd (by decide)]; exact hheight)
    (by unfold Dev.veneerAlloc; rw [Dev.store_atBody]; exact hveneer)
  have hqueue : ((s.dev.atBody q).storePut h ((y * (s.dev.atBody q).rd D.VeneerCfg.WIDTH v + x) * 4 / blockBytes)
      ((y * (s.dev.atBody q).rd D.VeneerCfg.WIDTH v + x) * 4 % blockBytes) (bytesOf 4 pixel)).memQ = [(p, bytesOf 4 pixel)] := by
    unfold Dev.storePut
    rw [hrd (by decide), Dev.store_atBody, halloc]
    dsimp only
    rw [haddr]
    dsimp only
    rw [Dev.memQ_atBody, hmem, hcopy]; rfl
  have hexec : exec (.veneerWrite q v x y 1 1 false pixel) s =
      s.actMem (serveDom (.veneerWrite q.again v x y 1 1 false pixel) q 0x1010 0x03 0 ⟨20, veneerHeader v x y 1 1 false * 256 ^ 4 + pixel⟩
        fun _ d => d.veneerWrite ⟨20, veneerHeader v x y 1 1 false * 256 ^ 4 + pixel⟩) := by
    refine (show execVeneerWrite q v x y 1 1 false pixel s = _ from ?_)
    unfold execVeneerWrite
    rw [show pixel % 256 ^ (4 * 1 * 1) = pixel from Nat.mod_eq_of_lt hpixel]
  have hanswer := serveDom_answers (me := .veneerWrite q.again v x y 1 1 false pixel)
    (act := fun _ d => d.veneerWrite ⟨20, veneerHeader v x y 1 1 false * 256 ^ 4 + pixel⟩) hgrant hact (by decide)
  refine ⟨_, hexec.trans (State.actMem_of_memQ_one (by rw [hanswer, Dev.memQ_answer, hqueue]) (by rw [hbytes]; exact hend)), ?_, ?_, ?_⟩
  · have hkept : ∀ (e : Dev) l, Dev.answered { e with memQ := l } q St.OK = e.answered q St.OK := fun _ _ => (rfl)
    dsimp only; rw [hanswer, hkept]; exact Dev.answered_ok _
  · exact Memory.readBytes_writeBytes _ s.mem p (bytesOf_lt 4 pixel)
  · exact fun b hb => Memory.read_writeBytes_other _ s.mem (by rw [hbytes]; exact hb)

theorem completes_veneerFlip {v : Nat} (hv : v < 512) (hgrant : s.dev.grants q 0x1000 0x07 ⟨4, 2 ^ 24 + v⟩ = true) (hon : s.dev.on D.VeneerCfg.ENABLE v = true)
    (hdouble : s.dev.on D.VeneerCfg.DOUBLE v = true) (hidle : s.dev.on D.VeneerStatus.FLIP_PENDING v = false) (hheads : s.dev.veneerHeads v = []) :
    Completes (.veneerFlip q v) s (fun t => t.dev.answered q St.OK = true ∧ t.dev.rd D.VeneerStatus.FRONT v = 1 - s.dev.rd D.VeneerStatus.FRONT v) := by
  have hcmd : bitsOf (1 * 2 ^ 24 + v) 24 8 = 1 ∧ bitsOf (1 * 2 ^ 24 + v) 9 15 = 0 ∧ bitsOf (1 * 2 ^ 24 + v) 0 9 = v := by unfold bitsOf; omega
  obtain ⟨hflip, hzero, hn⟩ := hcmd
  have hmod : v % 512 = v := Nat.mod_eq_of_lt hv
  have hheads' : (s.dev.atBody q).veneerHeads v = [] := by rw [Dev.veneerHeads_atBody, hheads]
  have hact : (s.dev.atBody q).veneerCmd (1 * 2 ^ 24 + v) =
      ((s.dev.atBody q).wr D.VeneerStatus.FRONT v (1 - (s.dev.atBody q).rd D.VeneerStatus.FRONT v), St.OK) := by
    unfold Dev.veneerCmd
    simp only [hflip, hzero, hn, Dev.on_atBody_off q (f := D.VeneerCfg.ENABLE) (by decide), Dev.on_atBody_off q (f := D.VeneerCfg.DOUBLE) (by decide),
      Dev.on_atBody_off q (f := D.VeneerStatus.FLIP_PENDING) (by decide), hon, hdouble, hidle, hheads']
    simp
  refine completes_serveWrite (act := fun _ d => d.veneerCmd (1 * 2 ^ 24 + v)) (show execVeneerFlip q v s = _ by unfold execVeneerFlip; rw [hmod]; rfl)
    hgrant hact (by decide) ⟨Dev.answered_ok _, ?_⟩
  rw [Dev.rd_answer _ _ _ _ _ (by decide) (by decide), Dev.rd_wr_same, Dev.rd_atBody_off q (by decide)]
  exact Nat.mod_eq_of_lt (Nat.lt_of_le_of_lt (Nat.sub_le _ _) (by decide))

/-! ## Tally and engines (R331, R334) -/

/-- The journal is beside the dictionary; a record shows how full it is (R425, R427). -/
theorem Dev.rd_journalSingle {g : Fld} {m : Nat} (hg : Fld.apart D.Rcp.JOURNAL_USED_PCT g = true) (items : Store) :
    (d.journalSingle items).rd g m = d.rd g m := by
  have hflash : ∀ (x : Dev) j, Dev.rd { x with flash := j } g m = x.rd g m := fun _ _ => (rfl)
  have hcompact : d.compactDue.rd g m = d.rd g m := by
    refine Dev.ite_eq (fun x => x.rd g m) ?_ rfl
    unfold Dev.compact; dsimp only
    rw [Dev.rd_wr_apart _ _ _ _ _ _ hg, hflash]; rfl
  unfold Dev.journalSingle Dev.append; dsimp only
  rw [Dev.rd_wr_apart _ _ _ _ _ _ hg, hflash, hcompact]

theorem Dev.raised_knotAdd (d : Dev) (kind action inst spare cause detail : Nat) : (d.knotAdd kind action inst spare cause detail).raised = d.raised := by
  unfold Dev.knotAdd; dsimp only
  exact Dev.ite_eq Dev.raised (Dev.wr_raised ..) rfl

theorem completes_tallyWrite {e value : Nat} (hvalue : value < 65536) (hgrant : s.dev.grants q (0x6000 + e) 0x09 ⟨2, value⟩ = true)
    (hborder : bit value 15 = false ∨ bitsOf value 8 4 ≠ 0) (hwarn : s.dev.pwrWarn = false) :
    Completes (.tallyWrite q e value) s (fun t => t.dev.answered q St.OK = true ∧ t.dev.rd D.Layer.TALLY e = value) := by
  have hborder' : ¬ (bit value 15 = true ∧ bitsOf value 8 4 = 0) := by
    rintro ⟨h, h'⟩
    exact hborder.elim (fun hb => absurd (hb.symm.trans h) (by decide)) (fun hb => hb h')
  have hwarn' : ∀ x : Dev, x.pwr = s.dev.pwr → x.pwrWarn = false := fun x h => by unfold Dev.pwrWarn; rw [h]; exact hwarn
  have hact : kept [⟨0x6000 + e, 9, 0⟩] ((s.dev.atBody q).tallyWrite e value) =
      ((((s.dev.atBody q).wr D.Layer.TALLY e value).setLayer e (fun x => { x with tallies := x.tallies ++ [((s.dev.atBody q).wall, value)] })).journalSingle
        [(⟨0x6000 + e, 9, 0⟩, (((s.dev.atBody q).wr D.Layer.TALLY e value).setLayer e
          (fun x => { x with tallies := x.tallies ++ [((s.dev.atBody q).wall, value)] })).ent ⟨0x6000 + e, 9, 0⟩)], St.OK) := by
    unfold Dev.tallyWrite
    rw [if_neg hborder']
    unfold kept
    rw [if_neg (by simp), hwarn' _ ?same, if_neg Bool.false_ne_true]; rfl
    case same =>
      have hset : ∀ (x : Dev) n f, (x.setLayer n f).pwr = x.pwr := fun _ _ _ => (rfl)
      dsimp only; rw [hset, Dev.wr_pwr, Dev.pwr_atBody]
  refine completes_serveWrite (act := fun _ d => kept [⟨0x6000 + e, 9, 0⟩] (d.tallyWrite e value)) rfl hgrant hact (by decide) ⟨Dev.answered_ok _, ?_⟩
  rw [Dev.rd_answer _ _ _ _ _ (by decide) (by decide), Dev.rd_journalSingle (by decide), Dev.rd_setLayer, Dev.rd_wr_same]
  exact Nat.mod_eq_of_lt hvalue

theorem completes_cmpEngineFail {e : Nat} (hserve : s.dev.serving = true) (he : e < 192) (hok : s.dev.on D.LayerStatus.ENGINE_FAILED e = false)
    (hav : s.dev.on D.LayerStatus.UNAVAILABLE e = false) : Completes (.cmpEngineFail dt e) s (fun t => t.dev.on D.LayerStatus.ENGINE_FAILED e = true ∧
      t.dev.raised.contains ⟨Src.CMP_ENGINE_FAIL, e, false⟩ = true) := by
  have hfails : ¬ (192 ≤ e ∨ (s.dev.elapse dt).on D.LayerStatus.ENGINE_FAILED e = true ∨ (s.dev.elapse dt).on D.LayerStatus.UNAVAILABLE e = true) := by
    simp [hok, hav]; omega
  refine ⟨_, rfl, ?_⟩
  simp only [Dev.live_serving _ _ _ hserve, if_neg hfails]
  constructor
  · rw [Dev.on, Dev.rd_knotAdd _ _ _ _ _ _ _ _ (by decide), Dev.rd_raise]
    exact Dev.on_flag_same _ _ _ _ rfl
  · rw [List.contains_iff_mem, Dev.raised_knotAdd]; exact Dev.mem_raised_raise ..

end

/-- Settles O36: a frame's steps keep the head's state, which the picture shows; a pixel goes to the one place its address names. -/
theorem compositionCompletes : Obligations.CompositionCompletes := by
  unfold Obligations.CompositionCompletes
  refine ⟨?_, ?_, ?_, ?_, ?_, ?_, ?_⟩
  · intro s dt head c t0 lost probe hserve hhead hout hrun hboundary
    exact completes_headFrameBoundary lost probe hserve hhead hout hrun hboundary
  · intro s dt e made rest filled hserve he hdue hok hheld
    exact completes_layerFrameComplete filled hserve he hdue hok hheld
  · intro s dt e c m r hserve he hin hcur hsource hrun
    exact completes_layerRunStart hserve he hin hcur hsource hrun
  · intro s q v x y pixel h p a hv hx hy hpixel hgrant hon hsingle hwidth hheight hveneer halloc hcopy hmem haddr hend
    exact completes_veneerWrite hv hx hy hpixel hgrant hon hsingle hwidth hheight hveneer halloc hcopy hmem haddr hend
  · intro s q v hv hgrant hon hdouble hidle hheads
    exact completes_veneerFlip hv hgrant hon hdouble hidle hheads
  · intro s q e value _ hvalue hgrant hborder hwarn
    exact completes_tallyWrite hvalue hgrant hborder hwarn
  · intro s dt e hserve he hok hav
    exact completes_cmpEngineFail hserve he hok hav

end Sys2Proof.Machine
end

section
/-! Obligations of 95_what_each_step_holds.md: what the requests of wide effect leave as it was. -/

namespace Sys2Proof.Machine
open Sys2Proof

/-- A host-assisted device in service with a session of the OWNER role, whose slot 1 is LOADED with one change. -/
def slotLoaded : Dev :=
  ((((({ Dev.reset with rst := {}, rcp := { Dev.reset.rcp with sessions := [ownersSession] } } : Dev).wr D.Rst.STARTUP_STAGE 0 6).wr D.Xp.MODE 0 1).wr
    D.Salvo.STATE 1 SlotState.LOADED).wr D.Salvo.COUNT 1 1).wr D.Salvo.CHANGES 1 1

/-- The session's next request, on its own port. -/
def nextRequest : Rcp := ⟨5, 0, 1, 0, 0x5243, 1, 0, 1, 8, 2, true, .gcm 0 (gcmNonce 1 0 8), Dev.reset.rcp.inUse.port⟩

/-- The first change of slot 1, by its own entry. -/
def firstChange : Fld := ⟨D.Salvo.CHANGES.ix + 1, D.Salvo.CHANGES.sub, 0, 64, false⟩

/-- The entries have 16 slots, and a slot's number is taken modulo 16: CLEAR of 17 clears slot 1. -/
theorem exec_salvoClear_17 : ∃ t, exec (.salvoClear nextRequest 17) ⟨slotLoaded, [], []⟩ = .next t ∧
    t.dev.rd firstChange 0 = 0 ∧ slotLoaded.rd firstChange 0 = 1 := ⟨_, rfl, by decide, by decide⟩

/-- Refutes O59: the statement lists the changes of the slot that the command names, and a slot's number is taken modulo 16, so that a CLEAR of
17 changes slot 1. -/
theorem not_wideRequestFrames : ¬ Obligations.WideRequestFrames := by
  unfold Obligations.WideRequestFrames
  rintro ⟨-, -, -, hclear, -⟩
  obtain ⟨t, hexec, hcleared, hloaded⟩ := exec_salvoClear_17
  obtain ⟨-, -, -, hkept⟩ := hclear nextRequest 17 _ t hexec
  have hsame := hkept firstChange 0 (by decide)
  exact absurd (hcleared.symm.trans (hsame.trans hloaded)) (by decide)

end Sys2Proof.Machine
end

section
/-! What every operation of the model that is no command of RCP, of OPEN or of a reset leaves as it was: the state of RCP (15_dictionary_rcp.md), and
with it the sessions and the exchanges. One lemma per operation, in the order of the model. -/

namespace Sys2Proof.Machine
open Sys2Proof

theorem Dev.rcp_foldl {α : Type} (f : Dev → α → Dev) (l : List α) (d : Dev) (hf : ∀ d x, (f d x).rcp = d.rcp) :
    (l.foldl f d).rcp = d.rcp := by
  induction l generalizing d with
  | nil => rfl
  | cons x l ih => exact (ih _).trans (hf d x)

theorem Dev.rcp_foldl_fst {α β : Type} (f : Dev × β → α → Dev × β) (l : List α) (r : Dev × β) (hf : ∀ r x, (f r x).1.rcp = r.1.rcp) :
    (l.foldl f r).1.rcp = r.1.rcp := by
  induction l generalizing r with
  | nil => rfl
  | cons x l ih => exact (ih _).trans (hf r x)

theorem Dev.rcp_each (f : Dev → Nat → Dev) (l : List Nat) (d : Dev) (hf : ∀ d n, (f d n).rcp = d.rcp) : (d.each l f).rcp = d.rcp :=
  Dev.each_eq Dev.rcp hf d l

/-- Under a view `φ` that is not the projection itself the kernel compares two devices argument by argument, where it would evaluate
`(let …).rcp` through the whole device. -/
theorem Dev.rcp_of_view {a b : Dev} (h : ∀ φ : Dev → RcpSt, (∀ e, φ e = e.rcp) → φ a = φ b) : a.rcp = b.rcp :=
  h Dev.rcp fun _ => rfl

/-! ## Dictionary entries -/

theorem Dev.rcp_clearKey (d : Dev) (k : Key) : (d.clearKey k).rcp = d.rcp := by
  simp only [Dev.clearKey, Dev.setEnt_rcp, apply_ite Dev.rcp, ite_self]

theorem Dev.rcp_clearKeys (d : Dev) (l : List Key) : (d.clearKeys l).rcp = d.rcp := by
  simp only [Dev.clearKeys, Dev.rcp_clearKey, Dev.rcp_foldl, implies_true]

theorem Dev.rcp_add (s : Dev) (f : Fld) (n d : Nat) : (s.add f n d).rcp = s.rcp := by
  simp only [Dev.add, Dev.wr_rcp]

theorem Dev.rcp_wrI (s : Dev) (f : Fld) (n : Nat) (i : Int) : (s.wrI f n i).rcp = s.rcp := by
  simp only [Dev.wrI, Dev.wr_rcp]

/-! ## Time -/

theorem Dev.rcp_wake (d : Dev) (need : Nat × Nat → Bool) : (d.wake need).rcp = d.rcp := by
  simp only [Dev.wake, Dev.rcp_sat, Dev.wr_rcp, Dev.rcp_foldl, implies_true]

/-! ## Faults, sending, free values -/

theorem Dev.rcp_drawnN (s : Dev) (n : Nat) : (s.drawnN n).rcp = s.rcp := (rfl)

/-! ## Errors on a link that no command of the table reports -/

theorem Dev.rcp_sdiErrors (d : Dev) (n : Nat) : (d.sdiErrors n).rcp = d.rcp := by
  simp only [Dev.sdiErrors, Dev.rcp_sat, Dev.drawn_rcp, apply_ite Dev.rcp, ite_self]

theorem Dev.rcp_fecErrors (d : Dev) (p : Nat) : (d.fecErrors p).rcp = d.rcp := by
  simp only [Dev.fecErrors, Dev.rcp_sat, Dev.drawn_rcp, apply_ite Dev.rcp, ite_self]

theorem Dev.rcp_linkErrors (d : Dev) : d.linkErrors.rcp = d.rcp := by
  simp only [Dev.linkErrors, Dev.rcp_sdiErrors, Dev.rcp_fecErrors, Dev.rcp_mgErrors, Dev.rcp_each, implies_true]

/-! ## Frame-store bytes -/

theorem Dev.rcp_event (d : Dev) (kind data : Nat) : (d.event kind data).rcp = d.rcp := (rfl)

theorem Dev.rcp_knotAdd (d : Dev) (kind action inst spare cause detail : Nat) : (d.knotAdd kind action inst spare cause detail).rcp = d.rcp := by
  simp only [Dev.knotAdd, Dev.rcp_flag, Dev.rcp_event, apply_ite Dev.rcp, ite_self]

/-! ## Media events -/

theorem Dev.rcp_live (d : Dev) (dt : Nat) (f : Dev → Dev) (hf : ∀ e, (f e).rcp = e.rcp) : (d.live dt f).rcp = d.rcp := by
  simp only [Dev.live, hf, Dev.elapse_rcp, apply_ite Dev.rcp, ite_self]

/-! ## A source's words in an output's buffer -/

theorem Dev.rcp_setTx (d : Dev) (c : Nat) (f : HoldSt → HoldSt) : (d.setTx c f).rcp = d.rcp := (rfl)

/-! ## Timecode (R144) -/

theorem Dev.rcp_readLines (d : Dev) (c : Nat) : (d.readLines c).rcp = d.rcp := by
  refine (Dev.setFlow_rcp ..).trans (Dev.rcp_each _ _ _ fun e i => Dev.rcp_each _ _ _ fun e j => ?_)
  split <;> simp only [Dev.wr_rcp]

/-! ## Lines (R140 to R145, R150, R153) -/

theorem Dev.rcp_embedStop (d : Dev) (l : Nat) : (d.embedStop l).rcp = d.rcp := (rfl)

theorem Dev.rcp_deembedStop (d : Dev) (l : Nat) : (d.deembedStop l).rcp = d.rcp := (rfl)

theorem Dev.rcp_embedCentre (d : Dev) (l : Nat) : (d.embedCentre l).rcp = d.rcp := by
  simp only [Dev.embedCentre, Dev.raise_rcp, Dev.rcp_sat]

theorem Dev.rcp_embedTake (d : Dev) (c : Nat) (k w : Int) (n : Nat) : (d.embedTake c k w n).1.rcp = d.rcp := by
  induction n generalizing d w with
  | zero => rfl
  | succ n ih => simp only [Dev.embedTake, ih, Dev.rcp_embedCentre, apply_ite Dev.rcp, ite_self]

theorem Dev.rcp_embedLines (d : Dev) (c lines : Nat) : (d.embedLines c lines).1.rcp = d.rcp := by
  simp only [Dev.embedLines, Dev.rcp_embedTake, apply_ite Dev.rcp, apply_ite Prod.fst, ite_self]

theorem Dev.rcp_sendLine (d : Dev) (c n : Nat) (words : List (Option Nat)) (safe strip : Bool) : (d.sendLine c n words safe strip).1.rcp = d.rcp := by
  simp only [Dev.sendLine, Dev.rcp_embedLines, Dev.emit_rcp, Dev.rcp_sat, Dev.rcp_setTx, Dev.rcp_each, apply_ite Dev.rcp, apply_ite Prod.fst,
    ite_self, implies_true]

theorem Dev.rcp_sendBlack (d : Dev) (c : Nat) : (d.sendBlack c).rcp = d.rcp := by
  simp only [Dev.sendBlack, Dev.rcp_sendLine, Dev.rcp_each, implies_true]

theorem Dev.rcp_showBlack (d : Dev) (c : Nat) (lines : List Nat) : (d.showBlack c lines).rcp = d.rcp := by
  simp only [Dev.showBlack, Dev.emit_rcp, Dev.rcp_each, implies_true]

theorem Dev.rcp_sendHeld (d : Dev) (c : Nat) : (d.sendHeld c).rcp = d.rcp := by
  simp only [Dev.sendHeld, Dev.rcp_sendLine, Dev.rcp_each, implies_true]

theorem Dev.rcp_sendSdi (d : Dev) (c content : Nat) : (d.sendSdi c content).rcp = d.rcp := by
  simp only [Dev.sendSdi, Dev.emit_rcp, Dev.rcp_setTx, Dev.rcp_sendHeld, Dev.rcp_sendBlack, apply_ite Dev.rcp, ite_self]

theorem Dev.rcp_showSafe (d : Dev) (c : Nat) (b : Bool) : (d.showSafe c b).rcp = d.rcp := by
  simp only [Dev.showSafe, Dev.rcp_flag, Dev.rcp_each, apply_ite Dev.rcp, ite_self, implies_true]

theorem Dev.rcp_countSafe (d : Dev) (c : Nat) : (d.countSafe c).rcp = d.rcp := by
  simp only [Dev.countSafe, Dev.rcp_sat, Dev.rcp_each, apply_ite Dev.rcp, ite_self, implies_true]

theorem Dev.rcp_safeNow (d : Dev) (c : Nat) : (d.safeNow c).rcp = d.rcp := by
  simp only [Dev.safeNow, Dev.rcp_showSafe, Dev.rcp_countSafe, apply_ite Dev.rcp, ite_self]

theorem Dev.rcp_enterSafe (d : Dev) (c why : Nat) : (d.enterSafe c why).rcp = d.rcp := by
  simp only [Dev.enterSafe, Dev.setFlow_rcp, Dev.rcp_safeNow]

theorem Dev.rcp_dropWhy (d : Dev) (c why : Nat) : (d.dropWhy c why).rcp = d.rcp := by
  simp only [Dev.dropWhy, Dev.setFlow_rcp]

theorem Dev.rcp_leaveSafe (d : Dev) (c : Nat) : (d.leaveSafe c).rcp = d.rcp := by
  simp only [Dev.leaveSafe, Dev.rcp_dropWhy, Dev.rcp_showSafe, apply_ite Dev.rcp, ite_self]

theorem Dev.rcp_forceScope (d : Dev) (src inst : Nat) : (d.forceScope src inst).rcp = d.rcp := by
  simp only [Dev.forceScope, Dev.rcp_safeNow, Dev.rcp_each, implies_true]

/-! ## HOLD (R151 to R153, R190 to R192) -/

theorem Dev.rcp_setHoldReady (d : Dev) (c : Nat) (b : Bool) : (d.setHoldReady c b).rcp = d.rcp := by
  simp only [Dev.setHoldReady, Dev.rcp_flag, Dev.rcp_each, apply_ite Dev.rcp, ite_self, implies_true]

theorem Dev.rcp_setSafeHold (d : Dev) (c : Nat) (b : Bool) : (d.setSafeHold c b).rcp = d.rcp := by
  simp only [Dev.setSafeHold, Dev.rcp_flag, Dev.rcp_each, apply_ite Dev.rcp, ite_self, implies_true]

theorem Dev.rcp_countHeld (d : Dev) (c : Nat) : (d.countHeld c).rcp = d.rcp := by
  simp only [Dev.countHeld, Dev.rcp_sat, Dev.rcp_each, apply_ite Dev.rcp, ite_self, implies_true]

theorem Dev.rcp_holdEmpty (d : Dev) (c : Nat) : (d.holdEmpty c).rcp = d.rcp := by
  simp only [Dev.holdEmpty, Dev.raise_rcp, apply_ite Dev.rcp, ite_self]

theorem Dev.rcp_sendFrame (d : Dev) (c content : Nat) : (d.sendFrame c content).rcp = d.rcp := by
  simp only [Dev.sendFrame, Dev.rcp_sendSdi, Dev.emit_rcp, apply_ite Dev.rcp, ite_self]

theorem Dev.rcp_safeFrame (d : Dev) (c : Nat) : (d.safeFrame c).rcp = d.rcp := by
  simp only [Dev.safeFrame, Dev.rcp_sendFrame, Dev.rcp_setSafeHold, Dev.rcp_holdEmpty, Dev.rcp_setTx, Dev.rcp_countHeld, apply_ite Dev.rcp, ite_self]

theorem Dev.rcp_sdiFrameEnd (d : Dev) (c : Nat) : (d.sdiFrameEnd c).rcp = d.rcp := by
  simp only [Dev.sdiFrameEnd, Dev.rcp_setTx, Dev.rcp_setHoldReady, apply_ite Dev.rcp, ite_self]

theorem Dev.rcp_frameEnd (d : Dev) (c : Nat) (armed : Bool) : (d.frameEnd c armed).rcp = d.rcp := by
  simp only [Dev.frameEnd, Dev.rcp_setTx, Dev.rcp_setHoldReady, apply_ite Dev.rcp, ite_self]

/-! ## Sessions -/

theorem Dev.rcp_setSlot (s : Dev) (k : Nat) (f : ImgSlot → ImgSlot) : (s.setSlot k f).rcp = s.rcp := (rfl)

theorem Dev.rcp_updateDrop (s : Dev) : s.updateDrop.rcp = s.rcp := by
  simp only [Dev.updateDrop, Dev.wr_rcp, Dev.rcp_setSlot]

/-! ## Acceptance -/

theorem Dev.rcp_dropFrame (s : Dev) : s.dropFrame.rcp = s.rcp := by
  simp only [Dev.dropFrame, Dev.rcp_sat]

/-! ## Serving a request -/

theorem Dev.rcp_postpone (s : Dev) (me : Instr) : (s.postpone me).rcp = s.rcp := by
  simp only [Dev.postpone, apply_ite Dev.rcp, ite_self]

/-! ## Writing an entry -/

theorem Dev.rcp_setRef (d : Dev) (r : Nat) (f : RefSt → RefSt) : (d.setRef r f).rcp = d.rcp := (rfl)

theorem Dev.rcp_setDpll (d : Dev) (k : Nat) (f : DpllSt → DpllSt) : (d.setDpll k f).rcp = d.rcp := (rfl)

/-! ## Selection (R391, R395) -/

theorem Dev.rcp_dpllTo (d : Dev) (k st : Nat) : (d.dpllTo k st).rcp = d.rcp := by
  simp only [Dev.dpllTo, Dev.rcp_setDpll, Dev.wr_rcp, Dev.rcp_flag]

theorem Dev.rcp_dpllSwitch (d : Dev) (k r : Nat) (raise : Bool) : (d.dpllSwitch k r raise).rcp = d.rcp := by
  simp only [Dev.dpllSwitch, Dev.wr_rcp, Dev.rcp_dpllTo, Dev.rcp_setDpll, Dev.raise_rcp, apply_ite Dev.rcp, ite_self]

theorem Dev.rcp_dpllHold (d : Dev) (k : Nat) : (d.dpllHold k).rcp = d.rcp := by
  simp only [Dev.dpllHold, Dev.raise_rcp, Dev.wr_rcp, Dev.rcp_dpllTo, Dev.rcp_sat, Dev.rcp_setDpll, apply_ite Dev.rcp, ite_self]

theorem Dev.rcp_dpllPull (d : Dev) (k r : Nat) : (d.dpllPull k r).rcp = d.rcp := by
  simp only [Dev.dpllPull, Dev.wr_rcp, Dev.rcp_dpllTo, Dev.rcp_wrI, Dev.rcp_setDpll, Dev.drawn_rcp, apply_ite Dev.rcp, ite_self]

theorem Dev.rcp_dpllReselect (d : Dev) (k : Nat) : (d.dpllReselect k).rcp = d.rcp := by
  unfold Dev.dpllReselect
  dsimp only
  repeat' split
  all_goals simp only [Dev.rcp_dpllPull, Dev.rcp_dpllSwitch, Dev.rcp_dpllHold]

theorem Dev.rcp_reselectAll (d : Dev) : d.reselectAll.rcp = d.rcp := by
  simp only [Dev.reselectAll, Dev.rcp_dpllReselect, Dev.rcp_each, implies_true]

/-! ## Reference states (Table 14.3) -/

theorem Dev.rcp_refDown (d : Dev) (r cause : Nat) : (d.refDown r cause).rcp = d.rcp := by
  simp only [Dev.refDown, Dev.raise_rcp, Dev.rcp_flag, Dev.wr_rcp]

theorem Dev.rcp_disqualify (d : Dev) (r cause : Nat) : (d.disqualify r cause).rcp = d.rcp := by
  simp only [Dev.disqualify, Dev.rcp_refDown, Dev.rcp_reselectAll, Dev.rcp_each, apply_ite Dev.rcp, ite_self, implies_true]

theorem Dev.rcp_refFails (d : Dev) (r cause : Nat) : (d.refFails r cause).rcp = d.rcp := by
  simp only [Dev.refFails, Dev.rcp_disqualify, Dev.wr_rcp, apply_ite Dev.rcp, ite_self]

theorem Dev.rcp_refPresent (d : Dev) (r : Nat) : (d.refPresent r).rcp = d.rcp := by
  simp only [Dev.refPresent, Dev.rcp_flag, Dev.rcp_setRef, Dev.wr_rcp, apply_ite Dev.rcp, ite_self]

theorem Dev.rcp_timeRef (d : Dev) : d.timeRef.rcp = d.rcp := by
  simp only [Dev.timeRef, Dev.rcp_refPresent, Dev.rcp_refFails, Dev.rcp_flag, apply_ite Dev.rcp, ite_self]

theorem Dev.rcp_freezeDplls (d : Dev) (r : Nat) : (d.freezeDplls r).rcp = d.rcp := by
  simp only [Dev.freezeDplls, Dev.rcp_sat, Dev.rcp_flag, Dev.rcp_each, implies_true]

theorem Dev.rcp_refGlitch (d : Dev) (r : Nat) : (d.refGlitch r).rcp = d.rcp := by
  simp only [Dev.refGlitch, Dev.rcp_setRef, Dev.rcp_flag, Dev.rcp_disqualify, Dev.raise_rcp, Dev.rcp_refFails, apply_ite Dev.rcp, ite_self]

theorem Dev.rcp_refPlaced (d : Dev) (r : Nat) (missed : Bool) : (d.refPlaced r missed).rcp = d.rcp := by
  simp only [Dev.refPlaced, Dev.rcp_setRef, Dev.rcp_freezeDplls, Dev.rcp_flag, Dev.rcp_refGlitch, Dev.rcp_refPresent, Dev.rcp_each,
    apply_ite Dev.rcp, ite_self, implies_true]

theorem Dev.rcp_refMisplaced (d : Dev) (r : Nat) : (d.refMisplaced r).rcp = d.rcp := by
  simp only [Dev.refMisplaced, Dev.rcp_freezeDplls, Dev.rcp_refFails, Dev.rcp_flag, Dev.rcp_setRef, apply_ite Dev.rcp, ite_self]

theorem Dev.rcp_refHalt (d : Dev) (r : Nat) : (d.refHalt r).rcp = d.rcp := by
  simp only [Dev.refHalt, Dev.rcp_setRef, Dev.rcp_flag, Dev.rcp_disqualify, Dev.raise_rcp, Dev.rcp_refFails, apply_ite Dev.rcp, ite_self]

/-! ## Frequency (R390, R398) -/

theorem Dev.rcp_refLimits (d : Dev) (r : Nat) (off : Int) : (d.refLimits r off).rcp = d.rcp := by
  simp only [Dev.refLimits, Dev.rcp_flag, Dev.rcp_wrI, Dev.raise_rcp, Dev.rcp_disqualify, Dev.rcp_refFails, apply_ite Dev.rcp, ite_self]

theorem Dev.rcp_dpllFreq (d : Dev) (k : Nat) (demand : Option Int) : (d.dpllFreq k demand).rcp = d.rcp := by
  simp only [Dev.dpllFreq, Dev.rcp_wrI, Dev.rcp_setDpll]

/-! ## DPLL events -/

theorem Dev.rcp_dpllCmd (d : Dev) (v : Nat) : (d.dpllCmd v).1.rcp = d.rcp := by
  simp only [Dev.dpllCmd, Dev.rcp_setDpll, Dev.rcp_flag, apply_ite Dev.rcp, apply_ite Prod.fst, ite_self]

theorem Dev.rcp_refCommit (d : Dev) : d.refCommit.rcp = d.rcp := by
  simp only [Dev.refCommit, Dev.rcp_setRef, Dev.wr_rcp, Dev.rcp_flag, Dev.rcp_timeRef, Dev.rcp_setDpll, Dev.rcp_wrI, Dev.rcp_dpllTo,
    Dev.rcp_reselectAll, Dev.rcp_each, apply_ite Dev.rcp, ite_self, implies_true]

theorem Dev.rcp_setNetRx (d : Dev) (c : Nat) (f : NetRxSt → NetRxSt) : (d.setNetRx c f).rcp = d.rcp := (rfl)

/-! ## Assembly -/

theorem Dev.rcp_depack (d : Dev) (c : Nat) (p : Pkt) (lost : Nat) : (d.depack c p lost).rcp = d.rcp := by
  unfold Dev.depack
  dsimp only
  repeat' split
  all_goals simp only [Dev.rcp_sat, Dev.rcp_setNetRx]

/-! ## Taking a cell's content -/

theorem Dev.rcp_setStore (d : Dev) (f : StoreSt → StoreSt) : (d.setStore f).rcp = d.rcp := (rfl)

theorem Dev.rcp_spendHost (d : Dev) (got : List Nat) : (d.spendHost got).rcp = d.rcp := by
  simp only [Dev.spendHost, Dev.rcp_setStore, apply_ite Dev.rcp, ite_self]

theorem Dev.rcp_putAlloc (d : Dev) (h : Nat) (a : Option Alloc) : (d.putAlloc h a).rcp = d.rcp := by
  simp only [Dev.putAlloc, Dev.rcp_setStore]

theorem Dev.rcp_unmask (d : Dev) (got : List Nat) : (d.unmask got).rcp = d.rcp := by
  simp only [Dev.unmask, Dev.wr_rcp, Dev.rcp_each, implies_true]

/-! ## Reaching an allocation's bytes (R254, R269 to R271) -/

theorem Dev.rcp_storePut (d : Dev) (h l off : Nat) (bytes : List Nat) : (d.storePut h l off bytes).rcp = d.rcp := by
  unfold Dev.storePut
  dsimp only
  repeat' split
  all_goals simp only [Dev.rcp_putAlloc]

theorem Dev.rcp_storeSpan (d : Dev) (h k off : Nat) (bytes : List Nat) : (d.storeSpan h k off bytes).rcp = d.rcp := by
  induction k generalizing d off bytes with
  | zero => rfl
  | succ k ih => simp only [Dev.storeSpan, ih, Dev.rcp_storePut, apply_ite Dev.rcp, ite_self]

theorem Dev.rcp_layerGone (d : Dev) (e : Nat) : (d.layerGone e).rcp = d.rcp := by
  simp only [Dev.layerGone, Dev.raise_rcp, Dev.rcp_flag]

theorem Dev.rcp_ownerLost (d : Dev) (w : Want) (held : Nat) : (d.ownerLost w held).rcp = d.rcp := by
  simp only [Dev.ownerLost, Dev.rcp_setHoldReady, Dev.raise_rcp, Dev.rcp_layerGone, apply_ite Dev.rcp, ite_self]

theorem Dev.rcp_poolLoses (d : Dev) (w : Want) (gone : List Nat) : (d.poolLoses w gone).rcp = d.rcp := (rfl)

theorem Dev.rcp_giveUp (d : Dev) (h k : Nat) : (d.giveUp h k).rcp = d.rcp := by
  unfold Dev.giveUp
  split <;> simp only [Dev.rcp_poolLoses, Dev.rcp_sat, Dev.rcp_ownerLost, Dev.rcp_putAlloc, apply_ite Dev.rcp, ite_self]

theorem Dev.rcp_shrinkStage (d : Dev) (cls : List Nat) (whole : Bool) (need : Nat) : (d.shrinkStage cls whole need).rcp = d.rcp := by
  simp only [Dev.shrinkStage, Dev.rcp_giveUp, Dev.rcp_foldl, apply_ite Dev.rcp, ite_self, implies_true]

theorem Dev.rcp_shrink (d : Dev) (need : Nat) : (d.shrink need).rcp = d.rcp := by
  simp only [Dev.shrink, Dev.rcp_shrinkStage, Dev.raise_rcp, apply_ite Dev.rcp, ite_self]

theorem Dev.rcp_fillBlocks (d : Dev) (h : Nat) (ls : List Nat) (host lost : Bool) : (d.fillBlocks h ls host lost).rcp = d.rcp := by
  unfold Dev.fillBlocks
  split <;> simp only [Dev.rcp_unmask, Dev.rcp_putAlloc, Dev.rcp_spendHost, apply_ite Dev.rcp, ite_self]

theorem Dev.rcp_fillAlloc (d : Dev) (h : Nat) (host lost : Bool) : (d.fillAlloc h host lost).rcp = d.rcp := by
  unfold Dev.fillAlloc
  split <;> simp only [Dev.rcp_fillBlocks]

theorem Dev.rcp_regrowClass (d : Dev) (cls : List Nat) (least : Bool) : (d.regrowClass cls least).rcp = d.rcp := by
  simp only [Dev.regrowClass, Dev.rcp_fillBlocks, Dev.rcp_foldl, apply_ite Dev.rcp, ite_self, implies_true]

theorem Dev.rcp_regrow (d : Dev) : d.regrow.rcp = d.rcp := by
  simp only [Dev.regrow, Dev.rcp_regrowClass, Dev.rcp_foldl, apply_ite Dev.rcp, ite_self, implies_true]

theorem Dev.rcp_reconcile (d : Dev) (ws : List Want) : (d.reconcile ws).rcp = d.rcp := by
  simp only [Dev.reconcile, Dev.rcp_setStore, Dev.rcp_fillAlloc, Dev.rcp_putAlloc, Dev.rcp_regrow, Dev.rcp_foldl, implies_true]

theorem Dev.rcp_startAlloc (d : Dev) (w : Want) : (d.startAlloc w).rcp = d.rcp := by
  simp only [Dev.startAlloc, Dev.raise_rcp, Dev.rcp_sat, Dev.rcp_shrinkStage, Dev.rcp_shrink, Dev.rcp_fillBlocks, Dev.rcp_putAlloc,
    Dev.rcp_ownerLost, apply_ite Dev.rcp, ite_self]

theorem Dev.rcp_rebuildStore (d : Dev) (ws : List Want) : (d.rebuildStore ws).rcp = d.rcp := by
  simp only [Dev.rebuildStore, Dev.rcp_setStore, Dev.rcp_startAlloc, Dev.rcp_foldl, implies_true]

theorem Dev.rcp_dropHeld (d : Dev) : d.dropHeld.rcp = d.rcp := by
  simp only [Dev.dropHeld, Dev.rcp_setTx, Dev.rcp_setHoldReady, Dev.rcp_each, apply_ite Dev.rcp, ite_self, implies_true]

theorem Dev.rcp_settle (d : Dev) : d.settle.rcp = d.rcp := by
  simp only [Dev.settle, Dev.rcp_dropHeld, Dev.rcp_reconcile]

/-! ## Spaces of a line -/

theorem Dev.rcp_setTile (d : Dev) (t : Nat) (f : TileSt → TileSt) : (d.setTile t f).rcp = d.rcp := (rfl)

theorem Dev.rcp_setFs (d : Dev) (t : Nat) (b : Bool) (f : FsSt → FsSt) : (d.setFs t b f).rcp = d.rcp := by
  simp only [Dev.setFs, Dev.rcp_setTile]

/-! ## Input -/

theorem Dev.rcp_tileReads (d : Dev) (c t : Nat) (b : Bool) (mode : PicMode) (cell : Cell) : (d.tileReads c t b mode cell).rcp = d.rcp := by
  simp only [Dev.tileReads, Dev.setFlow_rcp, Dev.rcp_setFs, Dev.rcp_setTile, apply_ite Dev.rcp, ite_self]

theorem Dev.rcp_picReads (d : Dev) (t : Nat) (b : Bool) (mode : PicMode) (cell : Cell) : (d.picReads t b mode cell).rcp = d.rcp := by
  simp only [Dev.picReads, Dev.rcp_setFs]

theorem Dev.rcp_ancReads (d : Dev) (t : Nat) (cell : Cell) : (d.ancReads t cell).rcp = d.rcp := by
  simp only [Dev.ancReads, Dev.rcp_setTile, apply_ite Dev.rcp, ite_self]

theorem Dev.rcp_ancFrameDone (d : Dev) (t : Nat) (b : Bool) : (d.ancFrameDone t b).rcp = d.rcp := by
  simp only [Dev.ancFrameDone, Dev.rcp_setFs, Dev.rcp_setTile, apply_ite Dev.rcp, ite_self]

/-! ## Ancillary data of an output frame (R293, R294, R298) -/

theorem Dev.rcp_placeAnc (d : Dev) (c t field : Nat) : (d.placeAnc c t field).rcp = d.rcp := by
  simp only [Dev.placeAnc, Dev.rcp_setTile, Dev.rcp_sat, apply_ite Prod.fst]

theorem Dev.rcp_ancStart (d : Dev) (c t : Nat) : (d.ancStart c t).rcp = d.rcp := by
  simp only [Dev.ancStart, Dev.rcp_setTile]

/-! ## Output -/

theorem Dev.rcp_tileFrameStart (d : Dev) (t : Nat) : (d.tileFrameStart t).rcp = d.rcp := by
  simp only [Dev.tileFrameStart, Dev.rcp_setTile]

theorem Dev.rcp_tileOutsLost (d : Dev) (t : Nat) : (d.tileOutsLost t).rcp = d.rcp := by
  simp only [Dev.tileOutsLost, Dev.rcp_flag, Dev.rcp_each, implies_true]

/-! ## Input -/

theorem Dev.rcp_tileFrameDone (d : Dev) (t : Nat) (b : Bool) : (d.tileFrameDone t b).rcp = d.rcp := by
  simp only [Dev.tileFrameDone, Dev.rcp_flag, Dev.rcp_setFs, Dev.rcp_ancFrameDone]

theorem Dev.rcp_tileTakes (d : Dev) (c : Nat) (cell : Cell) : (d.tileTakes c cell).rcp = d.rcp := by
  simp only [Dev.tileTakes, Dev.rcp_ancReads, Dev.rcp_tileReads, Dev.rcp_picReads, Dev.rcp_setFs, Dev.rcp_tileFrameDone, apply_ite Dev.rcp, ite_self]

theorem Dev.rcp_tileMisses (d : Dev) (c : Nat) : (d.tileMisses c).rcp = d.rcp := by
  simp only [Dev.tileMisses, Dev.rcp_flag, Dev.rcp_setFs, Dev.rcp_tileFrameDone, apply_ite Dev.rcp, ite_self]

/-! ## LUTs (R290 to R292) -/

theorem Dev.rcp_lutWrite (d : Dev) (k v : Nat) : (d.lutWrite k v).1.rcp = d.rcp := by
  simp only [Dev.lutWrite, Dev.setEnt_rcp, apply_ite Dev.rcp, apply_ite Prod.fst, ite_self]

/-! ## Spares (R309 to R312) -/

theorem Dev.rcp_tileGone (d : Dev) (t : Nat) (raise : Bool) : (d.tileGone t raise).rcp = d.rcp := by
  unfold Dev.tileGone
  dsimp only
  split <;> simp only [Dev.rcp_tileOutsLost, Dev.rcp_flag, Dev.wr_rcp, Dev.raise_rcp, apply_ite Dev.rcp, ite_self]

theorem Dev.rcp_tileTakeSpare (d : Dev) (t p : Nat) : (d.tileTakeSpare t p).rcp = d.rcp := by
  simp only [Dev.tileTakeSpare, Dev.wr_rcp, Dev.rcp_wake, Dev.rcp_flag, Dev.raise_rcp, Dev.rcp_add, Dev.rcp_each, implies_true]

theorem Dev.rcp_tileFailed (d : Dev) (p : Nat) : (d.tileFailed p).rcp = d.rcp := by
  simp only [Dev.tileFailed, Dev.rcp_sat, Dev.wr_rcp]

theorem Dev.rcp_setLayer (d : Dev) (e : Nat) (f : LayerSt → LayerSt) : (d.setLayer e f).rcp = d.rcp := (rfl)

theorem Dev.rcp_setHead (d : Dev) (h : Nat) (f : HeadSt → HeadSt) : (d.setHead h f).rcp = d.rcp := (rfl)

/-! ## Geometry words (Table 11.13) -/

theorem Dev.rcp_layerEval (d : Dev) (e f : Nat) (raise : Bool) : (d.layerEval e f raise).rcp = d.rcp := by
  simp only [Dev.layerEval, Dev.wr_rcp, Dev.raise_rcp, Dev.rcp_setLayer, Dev.rcp_flag, apply_ite Dev.rcp, ite_self]

/-! ## What reaches a layer store -/

theorem Dev.rcp_layerTakes (d : Dev) (c : Nat) (cell : Cell) : (d.layerTakes c cell).rcp = d.rcp := by
  simp only [Dev.layerTakes, Dev.rcp_setLayer, apply_ite Dev.rcp, ite_self]

theorem Dev.rcp_layerNewRun (d : Dev) (c : Nat) : (d.layerNewRun c).rcp = d.rcp := by
  simp only [Dev.layerNewRun, Dev.rcp_setLayer, apply_ite Dev.rcp, ite_self]

theorem Dev.rcp_layerApply (d : Dev) (c : Nat) (disconnect : Bool) : (d.layerApply c disconnect).rcp = d.rcp := by
  simp only [Dev.layerApply, Dev.rcp_setLayer, Dev.rcp_sat, apply_ite Dev.rcp, ite_self]

theorem Dev.rcp_layerIdle (d : Dev) (c : Nat) : (d.layerIdle c).rcp = d.rcp := by
  simp only [Dev.layerIdle, Dev.rcp_setLayer, apply_ite Dev.rcp, ite_self]

theorem Dev.rcp_barSample (d : Dev) (ch v : Nat) : (d.barSample ch v).rcp = d.rcp := by
  simp only [Dev.barSample, Dev.rcp_setLayer, Dev.rcp_each, implies_true]

/-! ## Veneers -/

theorem Dev.rcp_flipDone (d : Dev) (v : Nat) : (d.flipDone v).rcp = d.rcp := by
  unfold Dev.flipDone
  split <;> simp only [Dev.rcp_flag, Dev.wr_rcp, apply_ite Dev.rcp, ite_self]

theorem Dev.rcp_flipsLeft (d : Dev) : d.flipsLeft.rcp = d.rcp := by
  simp only [Dev.flipsLeft, Dev.rcp_flipDone, Dev.rcp_each, implies_true]

theorem Dev.rcp_layerCommit (d : Dev) (e : Nat) : (d.layerCommit e).rcp = d.rcp := by
  simp only [Dev.layerCommit, Dev.rcp_setLayer, Dev.wr_rcp, Dev.rcp_layerEval, apply_ite Dev.rcp, ite_self]

theorem Dev.rcp_headCommit (d : Dev) (h : Nat) : (d.headCommit h).rcp = d.rcp := by
  simp only [Dev.headCommit, Dev.rcp_setHead]

theorem Dev.rcp_setAudio (d : Dev) (f : AudioSt → AudioSt) : (d.setAudio f).rcp = d.rcp := (rfl)

theorem Dev.rcp_setSrc (d : Dev) (ch : Nat) (f : SrcCh → SrcCh) : (d.setSrc ch f).rcp = d.rcp := by
  simp only [Dev.setSrc, Dev.rcp_setAudio]

theorem Dev.rcp_setDest (d : Dev) (r : Nat) (f : DestSt → DestSt) : (d.setDest r f).rcp = d.rcp := by
  simp only [Dev.setDest, Dev.rcp_setAudio]

theorem Dev.rcp_setBundle (d : Dev) (b : Nat) (f : BundleSt → BundleSt) : (d.setBundle b f).rcp = d.rcp := by
  simp only [Dev.setBundle, Dev.rcp_setAudio]

/-! ## Positions (R339) -/

theorem Dev.rcp_audioStep (d : Dev) : d.audioStep.rcp = d.rcp := by
  simp only [Dev.audioStep, Dev.rcp_setAudio]

/-! ## Writing a source channel (R349) -/

theorem Dev.rcp_putSample (d : Dev) (ch p w : Nat) : (d.putSample ch p w).rcp = d.rcp := by
  simp only [Dev.putSample, Dev.rcp_setSrc]

theorem Dev.rcp_am824 (d : Dev) (ch v : Nat) : (d.am824 ch v).1.rcp = d.rcp := by
  simp only [Dev.am824, Dev.rcp_setSrc]

theorem Dev.rcp_putSet (d : Dev) (b r : Nat) (set : Bytes) : (d.putSet b r set).rcp = d.rcp := by
  unfold Dev.putSet
  dsimp only
  split <;> simp only [Dev.rcp_sat, Dev.rcp_am824, Dev.rcp_putSample, Dev.rcp_each, apply_ite Dev.rcp, apply_ite Prod.fst, ite_self, implies_true]

theorem Dev.rcp_audioTakes (d : Dev) (c : Nat) (cell : Cell) (first : Bool) : (d.audioTakes c cell first).rcp = d.rcp := by
  simp only [Dev.audioTakes, Dev.rcp_setBundle, Dev.rcp_putSet, Dev.rcp_each, apply_ite Dev.rcp, ite_self, implies_true]

/-! ## Destination records -/

theorem Dev.rcp_noteFollow (d : Dev) (r : Nat) (efn : Option Nat) : (d.noteFollow r efn).rcp = d.rcp := by
  simp only [Dev.noteFollow, Dev.rcp_flag, Dev.raise_rcp, Dev.rcp_sat, apply_ite Dev.rcp, ite_self]

theorem Dev.rcp_askFade (d : Dev) (r : Nat) (f : Fade) : (d.askFade r f).rcp = d.rcp := by
  simp only [Dev.askFade, Dev.rcp_setDest]

theorem Dev.rcp_commitFade (d : Dev) (r : Nat) : (d.commitFade r).rcp = d.rcp := by
  simp only [Dev.commitFade, Dev.rcp_noteFollow, Dev.rcp_flag, Dev.rcp_askFade, apply_ite Dev.rcp, ite_self]

theorem Dev.rcp_audioApply (d : Dev) (c : Nat) (efn : Option Nat) (accept : Nat) : (d.audioApply c efn accept).rcp = d.rcp := by
  simp only [Dev.audioApply, Dev.rcp_noteFollow, Dev.rcp_askFade, Dev.rcp_each, apply_ite Dev.rcp, ite_self, implies_true]

/-! ## Delay lines (R345) -/

theorem Dev.rcp_placeLines (d : Dev) (l : List Nat) : (d.placeLines l).rcp = d.rcp := by
  induction l generalizing d with
  | nil => rfl
  | cons r t ih => simp only [Dev.placeLines, ih, Dev.rcp_setDest, Dev.rcp_flag, apply_ite Dev.rcp, ite_self]

theorem Dev.rcp_delayLost (d : Dev) (r off n : Nat) : (d.delayLost r off n).rcp = d.rcp := by
  simp only [Dev.delayLost, Dev.rcp_setDest, Dev.raise_rcp, Dev.rcp_flag]

/-! ## Accessors -/

theorem Dev.rcp_setDl (d : Dev) (e : Nat) (f : DwlLaneSt → DwlLaneSt) : (d.setDl e f).rcp = d.rcp := (rfl)

theorem Dev.rcp_setDg (d : Dev) (g : Nat) (f : DwlGroupSt → DwlGroupSt) : (d.setDg g f).rcp = d.rcp := (rfl)

theorem Dev.rcp_setDwl (d : Dev) (f : DwlSt → DwlSt) : (d.setDwl f).rcp = d.rcp := (rfl)

/-! ## Names -/

theorem Dev.rcp_laneTo (d : Dev) (e st use : Nat) : (d.laneTo e st use).rcp = d.rcp := by
  simp only [Dev.laneTo, Dev.wr_rcp]

theorem Dev.rcp_scanAbort (d : Dev) (lane : Nat) : (d.scanAbort lane).rcp = d.rcp := by
  simp only [Dev.scanAbort, Dev.wr_rcp, apply_ite Dev.rcp, ite_self]

/-! ## Ordered sets (Tables 07.1, 07.5, 07.6, 07.9) -/

theorem Dev.rcp_sendSet (d : Dev) (g l p : Nat) (s : LaneDue) : (d.sendSet g l p s).rcp = d.rcp := by
  unfold Dev.sendSet
  split <;> simp only [Dev.rcp_setDl, Dev.emit_rcp, Dev.rcp_setDg]

theorem Dev.rcp_showRotation (d : Dev) (g : Nat) (ls : List Nat) : (d.showRotation g ls).rcp = d.rcp := by
  simp only [Dev.showRotation, Dev.wr_rcp, Dev.rcp_each, implies_true]

theorem Dev.rcp_sendItem (d : Dev) (g l p : Nat) (i : ItemDue) : (d.sendItem g l p i).rcp = d.rcp := by
  unfold Dev.sendItem
  split <;> simp only [Dev.rcp_sat, Dev.emit_rcp, Dev.rcp_setDl, Dev.rcp_setDg, Dev.wr_rcp, Dev.rcp_showRotation, Dev.rcp_each, apply_ite Dev.rcp,
    ite_self, implies_true]

theorem Dev.rcp_laneTurn (d : Dev) (g l p : Nat) : (d.laneTurn g l p).rcp = d.rcp := by
  unfold Dev.laneTurn
  repeat' split
  all_goals simp only [Dev.rcp_sendSet, Dev.rcp_sendItem]

theorem Dev.rcp_groupTurns (d : Dev) (g n : Nat) : (d.groupTurns g n).rcp = d.rcp := by
  induction n generalizing d with
  | zero => rfl
  | succ n ih =>
    unfold Dev.groupTurns
    split
    · rfl
    · split
      · split
        · rw [ih, Dev.rcp_laneTurn]
        · rfl
      · rfl

theorem Dev.rcp_laneIdle (d : Dev) (e : Nat) : (d.laneIdle e).rcp = d.rcp := by
  simp only [Dev.laneIdle, Dev.emit_rcp, Dev.rcp_setDl, apply_ite Dev.rcp, ite_self]

theorem Dev.rcp_groupRun (d : Dev) (g : Nat) : (d.groupRun g).rcp = d.rcp := by
  simp only [Dev.groupRun, Dev.rcp_groupTurns, Dev.rcp_laneIdle, Dev.rcp_each, implies_true]

theorem Dev.rcp_queueSet (d : Dev) (e : Nat) (s : LaneDue) : (d.queueSet e s).rcp = d.rcp := by
  simp only [Dev.queueSet, Dev.rcp_setDl]

theorem Dev.rcp_sendSets (d : Dev) (e : Nat) (l : List LaneDue) : (d.sendSets e l).rcp = d.rcp := by
  simp only [Dev.sendSets, Dev.rcp_groupRun, Dev.rcp_setDl]

theorem Dev.rcp_sendItems (d : Dev) (g : Nat) (l : List ItemDue) : (d.sendItems g l).rcp = d.rcp := by
  simp only [Dev.sendItems, Dev.rcp_groupRun, Dev.rcp_setDg]

theorem Dev.rcp_sendMarker (d : Dev) (g lane rank next active : Nat) : (d.sendMarker g lane rank next active).rcp = d.rcp := by
  simp only [Dev.sendMarker, Dev.rcp_sendSets]

theorem Dev.rcp_sendRequest (d : Dev) (e lane count : Nat) : (d.sendRequest e lane count).rcp = d.rcp := by
  simp only [Dev.sendRequest, Dev.rcp_sendSets]

/-! ## Bring-up (R210 to R214) -/

theorem Dev.rcp_laneStart (d : Dev) (e : Nat) : (d.laneStart e).rcp = d.rcp := by
  simp only [Dev.laneStart, Dev.rcp_setDl, Dev.rcp_laneTo, Dev.rcp_flag, Dev.wr_rcp, Dev.rcp_scanAbort]

theorem Dev.rcp_sendBlocks (d : Dev) (e n : Nat) : (d.sendBlocks e n).rcp = d.rcp := by
  induction n generalizing d with
  | zero => rfl
  | succ n ih => simp only [Dev.sendBlocks, ih, Dev.rcp_setDl, Dev.wr_rcp, Dev.emit_rcp, apply_ite Dev.rcp, ite_self]

theorem Dev.rcp_laneBlocks (d : Dev) (e : Nat) : (d.laneBlocks e).rcp = d.rcp := by
  simp only [Dev.laneBlocks, Dev.rcp_laneStart, Dev.rcp_sendBlocks, apply_ite Dev.rcp, ite_self]

theorem Dev.rcp_lanesOut (d : Dev) : d.lanesOut.rcp = d.rcp := by
  simp only [Dev.lanesOut, Dev.rcp_groupRun, Dev.rcp_laneBlocks, Dev.rcp_each, implies_true]

theorem Dev.rcp_lanesAt (d : Dev) (dt : Nat) : (d.lanesAt dt).rcp = d.rcp := by
  simp only [Dev.lanesAt, Dev.rcp_lanesOut, Dev.elapse_rcp]

theorem Dev.rcp_lanesRun (d : Dev) (dt : Nat) (f : Dev → Dev) (hf : ∀ e, (f e).rcp = e.rcp) : (d.lanesRun dt f).rcp = d.rcp := by
  simp only [Dev.lanesRun, hf, Dev.rcp_lanesAt, Dev.elapse_rcp, apply_ite Dev.rcp, ite_self]

/-! ## Messages (R201) -/

theorem Dev.rcp_sendMsg (d : Dev) (g cls : Nat) (p : Bytes) : (d.sendMsg g cls p).rcp = d.rcp := by
  simp only [Dev.sendMsg, Dev.rcp_setDwl, Dev.emit_rcp, Dev.rcp_sendItems, apply_ite Dev.rcp, ite_self]

/-! ## Which group a flow crosses (R563), and the ledger of a group (R222) -/

theorem Dev.rcp_setRoute (d : Dev) (efn m g : Nat) : (d.setRoute efn m g).rcp = d.rcp := by
  simp only [Dev.setRoute, Dev.rcp_setDwl]

theorem Dev.rcp_reroute (d : Dev) (efn : Nat) (vias : List Nat) : (d.reroute efn vias).rcp = d.rcp := by
  refine (Dev.rcp_each _ _ _ fun e m => ?_).trans (Dev.rcp_setDwl ..)
  split <;> simp only [Dev.rcp_setRoute, Dev.rcp_setDwl]

theorem Dev.rcp_sendOver (d : Dev) (ms : List Nat) (relayed : Bool) (c : Cell) : (d.sendOver ms relayed c).rcp = d.rcp := by
  refine Dev.rcp_each _ _ _ fun e m => ?_
  split <;> simp only [Dev.rcp_sendItems, Dev.rcp_setRoute, apply_ite Dev.rcp, ite_self]

/-! ## Plane states (Table 04.4) -/

theorem Dev.rcp_setPlane (d : Dev) (p : Nat) (f : PlaneSt → PlaneSt) : (d.setPlane p f).rcp = d.rcp := (rfl)

/-! ## Plane tables (R112, R115) -/

theorem Dev.rcp_tablePut (d : Dev) (i v : Nat) : (d.tablePut i v).rcp = d.rcp := by
  simp only [Dev.tablePut, Dev.rcp_setPlane, Dev.rcp_each, apply_ite Dev.rcp, ite_self, implies_true]

theorem Dev.rcp_loadPlane (d : Dev) (p : Nat) : (d.loadPlane p).rcp = d.rcp := by
  simp only [Dev.loadPlane, Dev.rcp_setPlane]

/-! ## States -/

theorem Dev.rcp_planeTo (d : Dev) (p st : Nat) : (d.planeTo p st).rcp = d.rcp := by
  simp only [Dev.planeTo, Dev.rcp_setPlane, Dev.rcp_flag, Dev.wr_rcp]

theorem Dev.rcp_planeCause (d : Dev) (p cause : Nat) : (d.planeCause p cause).rcp = d.rcp := by
  simp only [Dev.planeCause, Dev.wr_rcp]

theorem Dev.rcp_planeFailure (d : Dev) (p cause : Nat) : (d.planeFailure p cause).rcp = d.rcp := by
  simp only [Dev.planeFailure, Dev.raise_rcp, Dev.rcp_planeCause, Dev.rcp_add]

theorem Dev.rcp_planeOffline (d : Dev) (p : Nat) : (d.planeOffline p).rcp = d.rcp := by
  simp only [Dev.planeOffline, Dev.rcp_planeTo, Dev.rcp_setPlane, Dev.rcp_flag]

theorem Dev.rcp_planeFailed (d : Dev) (p cause : Nat) : (d.planeFailed p cause).rcp = d.rcp := by
  simp only [Dev.planeFailed, Dev.rcp_planeTo, Dev.rcp_planeFailure, Dev.rcp_planeOffline, apply_ite Dev.rcp, ite_self]

theorem Dev.rcp_repairPlanes (d : Dev) : d.repairPlanes.rcp = d.rcp := by
  simp only [Dev.repairPlanes, Dev.rcp_planeOffline, Dev.rcp_each, apply_ite Dev.rcp, ite_self, implies_true]

theorem Dev.rcp_dropAnchor (d : Dev) (c : Nat) : (d.dropAnchor c).rcp = d.rcp := by
  simp only [Dev.dropAnchor, Dev.setFlow_rcp, Dev.rcp_flag]

theorem Dev.rcp_startRebuild (d : Dev) : d.startRebuild.rcp = d.rcp := by
  simp only [Dev.startRebuild, Dev.rcp_enterSafe, Dev.raise_rcp, Dev.rcp_planeTo, Dev.rcp_planeOffline, Dev.rcp_each, implies_true]

theorem Dev.rcp_planeFail (d : Dev) (p cause : Nat) : (d.planeFail p cause).rcp = d.rcp := by
  simp only [Dev.planeFail, Dev.rcp_planeFailed, Dev.rcp_planeTo, Dev.rcp_planeFailure, Dev.rcp_startRebuild, Dev.rcp_planeCause, apply_ite Dev.rcp,
    ite_self]

theorem Dev.rcp_badCopy (d : Dev) (p : Nat) : (d.badCopy p).rcp = d.rcp := by
  simp only [Dev.badCopy, Dev.rcp_planeFail, Dev.rcp_setPlane, apply_ite Dev.rcp, ite_self]

theorem Dev.rcp_mismatch (d : Dev) (p : Nat) : (d.mismatch p).rcp = d.rcp := by
  simp only [Dev.mismatch, Dev.rcp_setPlane, Dev.raise_rcp, Dev.rcp_sat, Dev.rcp_planeFail, apply_ite Dev.rcp, ite_self]

theorem Dev.rcp_reanchor (d : Dev) : d.reanchor.rcp = d.rcp := by
  simp only [Dev.reanchor, Dev.rcp_dropAnchor, Dev.rcp_each, implies_true]

theorem Dev.rcp_bothIn (d : Dev) : d.bothIn.rcp = d.rcp := by
  simp only [Dev.bothIn, Dev.rcp_planeTo]

theorem Dev.rcp_swapPlanes (d : Dev) (s : Nat) : (d.swapPlanes s).rcp = d.rcp := by
  simp only [Dev.swapPlanes, Dev.rcp_planeTo]

theorem Dev.rcp_resetPlane (d : Dev) (p : Nat) : (d.resetPlane p).1.rcp = d.rcp := by
  simp only [Dev.resetPlane, Dev.rcp_planeOffline, Dev.rcp_planeCause, Dev.rcp_swapPlanes, apply_ite Dev.rcp, apply_ite Prod.fst, ite_self]

theorem Dev.rcp_swapCmd (d : Dev) : d.swapCmd.1.rcp = d.rcp := by
  simp only [Dev.swapCmd, Dev.rcp_swapPlanes, apply_ite Dev.rcp, apply_ite Prod.fst, ite_self]

theorem Dev.rcp_blockPlane (d : Dev) (p : Nat) : (d.blockPlane p).rcp = d.rcp := by
  simp only [Dev.blockPlane, Dev.rcp_planeOffline, Dev.rcp_resetPlane, Dev.rcp_startRebuild, apply_ite Dev.rcp, ite_self]

theorem Dev.rcp_planeCmd (d : Dev) (v : Nat) : (d.planeCmd v).1.rcp = d.rcp := by
  simp only [Dev.planeCmd, Dev.rcp_resetPlane, Dev.rcp_swapCmd, apply_ite Dev.rcp, apply_ite Prod.fst, ite_self]

/-! ## Commands -/

theorem Dev.rcp_planeSlice (d : Dev) (p : Nat) (slice : Option Nat) : (d.planeSlice p slice).1.rcp = d.rcp := by
  unfold Dev.planeSlice
  dsimp only
  split <;> simp only [Dev.rcp_flag, Dev.rcp_knotAdd]

theorem Dev.rcp_startResync (d : Dev) (p : Nat) : (d.startResync p).rcp = d.rcp := by
  simp only [Dev.startResync, Dev.rcp_planeTo, Dev.rcp_setPlane]

theorem Dev.rcp_enterAlone (d : Dev) (p : Nat) : (d.enterAlone p).rcp = d.rcp := by
  simp only [Dev.enterAlone, Dev.rcp_reanchor, Dev.rcp_planeTo, Dev.rcp_loadPlane]

theorem Dev.rcp_setPool (d : Dev) (k : Nat) (f : PoolSt → PoolSt) : (d.setPool k f).rcp = d.rcp := (rfl)

theorem Dev.rcp_poolTakes (d : Dev) (c efn type : Nat) (cell : Cell) : (d.poolTakes c efn type cell).rcp = d.rcp := by
  unfold Dev.poolTakes
  dsimp only
  repeat' split
  all_goals simp only [Dev.rcp_storeSpan, Dev.rcp_setPool]

theorem Dev.rcp_played (d : Dev) (c n : Nat) : (d.played c n).rcp = d.rcp := by
  simp only [Dev.played, Dev.rcp_setPool]

/-! ## States (Table 02.7) -/

theorem Dev.rcp_flowTo (d : Dev) (c st : Nat) : (d.flowTo c st).rcp = d.rcp := by
  simp only [Dev.flowTo, Dev.setFlow_rcp, Dev.wr_rcp]

/-! ## Receive ports (R136 to R139) -/

theorem Dev.rcp_setRx (d : Dev) (l : Nat) (f : SdiRxSt → SdiRxSt) : (d.setRx l f).rcp = d.rcp := (rfl)

theorem Dev.rcp_showMatch (d : Dev) (l : Nat) : (d.showMatch l).rcp = d.rcp := by
  simp only [Dev.showMatch, Dev.rcp_setRx, Dev.raiseL_rcp, Dev.endCond_rcp, apply_ite Dev.rcp, ite_self]

theorem Dev.rcp_matchSweep (d : Dev) : d.matchSweep.rcp = d.rcp := by
  simp only [Dev.matchSweep, Dev.rcp_showMatch, Dev.rcp_each, implies_true]

theorem Dev.rcp_freezeIf (d : Dev) (c : Nat) : (d.freezeIf c).rcp = d.rcp := by
  simp only [Dev.freezeIf, Dev.rcp_showMatch, Dev.setFlow_rcp, Dev.rcp_flag, Dev.rcp_each, apply_ite Dev.rcp, ite_self, implies_true]

theorem Dev.rcp_flowStart (d : Dev) (c : Nat) : (d.flowStart c).rcp = d.rcp := by
  simp only [Dev.flowStart, Dev.setFlow_rcp, Dev.rcp_flowTo, Dev.wr_rcp, Dev.rcp_flag]

theorem Dev.rcp_flowStop (d : Dev) (c : Nat) (queued : Bool) : (d.flowStop c queued).rcp = d.rcp := by
  simp only [Dev.flowStop, Dev.rcp_flipsLeft, Dev.rcp_matchSweep, Dev.setFlow_rcp, Dev.rcp_flowTo, Dev.rcp_flag]

theorem Dev.rcp_headRestart (d : Dev) (c : Nat) : (d.headRestart c).rcp = d.rcp := by
  simp only [Dev.headRestart, Dev.rcp_setHead, apply_ite Dev.rcp, ite_self]

theorem Dev.rcp_showRelay (d : Dev) (c : Nat) : (d.showRelay c).rcp = d.rcp := by
  simp only [Dev.showRelay, Dev.rcp_tablePut, apply_ite Dev.rcp, ite_self]

theorem Dev.rcp_flowRun (d : Dev) (c : Nat) : (d.flowRun c).rcp = d.rcp := by
  simp only [Dev.flowRun, Dev.wr_rcp, Dev.rcp_flowTo, Dev.rcp_showRelay, Dev.rcp_headRestart, Dev.rcp_freezeIf, Dev.rcp_setNetRx, Dev.setFlow_rcp,
    Dev.rcp_flag, Dev.rcp_embedStop, Dev.rcp_safeNow, apply_ite Dev.rcp, ite_self]

/-! ## Plane entry and crossings -/

theorem Dev.rcp_intoPlanes (d : Dev) (c : Nat) (cell : Cell) : (d.intoPlanes c cell).rcp = d.rcp := by
  simp only [Dev.intoPlanes, Dev.emit_rcp]

/-! ## Commands -/

theorem Dev.rcp_peerGone (d : Dev) (c : Nat) : (d.peerGone c).rcp = d.rcp := by
  simp only [Dev.peerGone, Dev.wr_rcp, Dev.rcp_flag, apply_ite Dev.rcp, ite_self]

theorem Dev.rcp_emitted (d : Dev) (c itime : Nat) (first sp : Bool) : (d.emitted c itime first sp).rcp = d.rcp := by
  simp only [Dev.emitted, Dev.rcp_flag, Dev.rcp_add, Dev.wr_rcp, Dev.setFlow_rcp, apply_ite Dev.rcp, ite_self]

theorem Dev.rcp_sendCell (d : Dev) (ctx itime len pos : Nat) (sof eof : Bool) (payload : Nat) (field : optParam Nat 0) :
    (d.sendCell ctx itime len pos sof eof payload field).rcp = d.rcp := by
  simp only [Dev.sendCell, Dev.rcp_placeAnc, Dev.rcp_tileFrameStart, Dev.rcp_emitted, Dev.rcp_add, Dev.setFlow_rcp, Dev.rcp_readLines,
    Dev.rcp_sendOver, Dev.rcp_intoPlanes, apply_ite Dev.rcp, ite_self]

theorem Dev.rcp_sendSdiIn (d : Dev) (ctx itime len words : Nat) : (d.sendSdiIn ctx itime len words).rcp = d.rcp := by
  simp only [Dev.sendSdiIn, Dev.rcp_sendCell]

theorem Dev.rcp_sendBundle (d : Dev) (ctx : Nat) : (d.sendBundle ctx).rcp = d.rcp := by
  simp only [Dev.sendBundle, Dev.rcp_sendCell, Dev.rcp_setBundle, apply_ite Dev.rcp, ite_self]

theorem Dev.rcp_sendPlayback (d : Dev) (ctx : Nat) : (d.sendPlayback ctx).rcp = d.rcp := by
  unfold Dev.sendPlayback
  dsimp only
  repeat' split
  all_goals simp only [Dev.rcp_flag, Dev.setFlow_rcp, Dev.rcp_played, Dev.rcp_add, Dev.rcp_emitted, Dev.rcp_sendOver, Dev.rcp_intoPlanes]

theorem Dev.rcp_sendAnc (d : Dev) (ctx itime pos : Nat) : (d.sendAnc ctx itime pos).rcp = d.rcp := by
  simp only [Dev.sendAnc, Dev.rcp_ancStart, Dev.rcp_sendCell, Dev.rcp_setTile, apply_ite Dev.rcp, ite_self]

/-! ## Commit checks (Table 02.6) -/

theorem Dev.rcp_flowCommit (d : Dev) (c : Nat) : (d.flowCommit c).rcp = d.rcp := by
  simp only [Dev.flowCommit, Dev.wr_rcp, Dev.rcp_flowStart, Dev.setFlow_rcp, Dev.rcp_flowStop, Dev.rcp_flag, apply_ite Dev.rcp, ite_self]

theorem Dev.rcp_setNetTx (d : Dev) (c : Nat) (f : NetTxSt → NetTxSt) : (d.setNetTx c f).rcp = d.rcp := (rfl)

theorem Dev.rcp_txPush (d : Dev) (c : Nat) (cell : Cell) : (d.txPush c cell).rcp = d.rcp := by
  simp only [Dev.txPush, Dev.rcp_setNetTx, apply_ite Dev.rcp, ite_self]

theorem Dev.rcp_txMissing (d : Dev) (c : Nat) : (d.txMissing c).rcp = d.rcp := by
  unfold Dev.txMissing
  dsimp only
  repeat' split
  all_goals simp only [Dev.rcp_setNetTx, Dev.drawn_rcp]

theorem Dev.rcp_txClose (d : Dev) (c : Nat) : (d.txClose c).rcp = d.rcp := by
  unfold Dev.txClose
  split <;> simp only [Dev.rcp_setNetTx, Dev.rcp_txMissing, apply_ite Dev.rcp, ite_self]

theorem Dev.rcp_txSafe (d : Dev) (c : Nat) (held : Bool) : (d.txSafe c held).rcp = d.rcp := by
  simp only [Dev.txSafe, Dev.rcp_txClose, Dev.rcp_setNetTx, apply_ite Dev.rcp, ite_self]

/-! ## Signatures (R123) -/

theorem Dev.rcp_compareSig (d : Dev) (c : Nat) : (d.compareSig c).rcp = d.rcp := by
  simp only [Dev.compareSig, Dev.rcp_sat, apply_ite Dev.rcp, ite_self]

theorem Dev.rcp_signFrame (d : Dev) (c : Nat) (source boundary : Option Nat) (sig : Nat) : (d.signFrame c source boundary sig).rcp = d.rcp := by
  unfold Dev.signFrame
  split <;> simp only [Dev.rcp_compareSig, Dev.rcp_sendMsg, apply_ite Dev.rcp, ite_self]

theorem Dev.rcp_signBlack (d : Dev) (c o : Nat) : (d.signBlack c o).rcp = d.rcp := by
  simp only [Dev.signBlack, Dev.rcp_setTx]

theorem Dev.rcp_signLine (d : Dev) (c n : Nat) (links : List (List Nat)) : (d.signLine c n links).rcp = d.rcp := by
  simp only [Dev.signLine, Dev.rcp_setTx, Dev.rcp_signBlack, apply_ite Dev.rcp, ite_self]

/-! ## Frames -/

theorem Dev.rcp_endFrame (d : Dev) (c : Nat) : (d.endFrame c).rcp = d.rcp := by
  simp only [Dev.endFrame, Dev.rcp_signBlack, Dev.rcp_signFrame, Dev.rcp_setTx, Dev.rcp_sdiFrameEnd, apply_ite Dev.rcp, ite_self]

theorem Dev.rcp_sendSource (d : Dev) (c : Nat) (armed : Bool) (l : SdiLine) : (d.sendSource c armed l).rcp = d.rcp := by
  simp only [Dev.sendSource, Dev.rcp_sendLine, Dev.rcp_signLine, Dev.rcp_setTx, apply_ite Dev.rcp, ite_self]

theorem Dev.rcp_drainLines (d : Dev) (c : Nat) (armed : Bool) (l : List SdiLine) : (d.drainLines c armed l).rcp = d.rcp := by
  induction l generalizing d with
  | nil => exact Dev.setFlow_rcp ..
  | cons x t ih => simp only [Dev.drainLines, ih, Dev.rcp_sendFrame, Dev.setFlow_rcp, Dev.rcp_endFrame, Dev.rcp_sendSource, apply_ite Dev.rcp,
    ite_self]

theorem Dev.rcp_flushLines (d : Dev) (c : Nat) : (d.flushLines c).rcp = d.rcp := by
  simp only [Dev.flushLines, Dev.rcp_drainLines, Dev.setFlow_rcp, apply_ite Dev.rcp, ite_self]

theorem Dev.rcp_turnFrame (d : Dev) (c : Nat) (steady : Bool) (show_ : List Nat) : (d.turnFrame c steady show_).rcp = d.rcp := by
  simp only [Dev.turnFrame, Dev.rcp_endFrame, Dev.rcp_safeFrame, Dev.rcp_sendFrame, Dev.rcp_showBlack, Dev.rcp_flushLines, Dev.setFlow_rcp,
    apply_ite Dev.rcp, ite_self]

/-! ## Cells -/

theorem Dev.rcp_follow (d : Dev) (c itime : Nat) : (d.follow c itime).rcp = d.rcp := by
  simp only [Dev.follow, Dev.rcp_setTx]

theorem Dev.rcp_sdiTake (d : Dev) (c : Nat) (cell : Cell) : (d.sdiTake c cell).rcp = d.rcp := by
  unfold Dev.sdiTake
  dsimp only
  repeat' split
  all_goals simp only [Dev.rcp_flag, Dev.setFlow_rcp, Dev.rcp_follow, Dev.rcp_flushLines]

theorem Dev.rcp_sdiAhead (d : Dev) (c : Nat) (cells : List Cell) : (d.sdiAhead c cells).rcp = d.rcp := by
  simp only [Dev.sdiAhead, Dev.setFlow_rcp, apply_ite Dev.rcp, ite_self]

/-! ## Slots -/

theorem Dev.rcp_putMerge (d : Dev) (c : Nat) (current : Bool) (m : Merge) : (d.putMerge c current m).rcp = d.rcp := by
  simp only [Dev.putMerge, Dev.setFlow_rcp]

theorem Dev.rcp_keptNow (d : Dev) (c : Nat) (current : Bool) : (d.keptNow c current).rcp = d.rcp := by
  simp only [Dev.keptNow, Dev.setFlow_rcp, Dev.rcp_flag, apply_ite Dev.rcp, ite_self]

/-! ## Arrival -/

theorem Dev.rcp_comparePair (d : Dev) (t : Slot) : (d.comparePair t).1.rcp = d.rcp := by
  unfold Dev.comparePair
  split <;> simp only [Dev.rcp_add, Dev.rcp_mismatch, apply_ite Dev.rcp, apply_ite Prod.fst, ite_self]

theorem Dev.rcp_showAnchor (d : Dev) (c itime : Nat) : (d.showAnchor c itime).rcp = d.rcp := by
  simp only [Dev.showAnchor, Dev.wr_rcp, Dev.rcp_flag]

theorem Dev.rcp_badArrival (d : Dev) (c p : Nat) (cell : Cell) : (d.badArrival c p cell).rcp = d.rcp := by
  unfold Dev.badArrival
  dsimp only
  split <;> simp only [Dev.rcp_setPlane, Dev.rcp_sat, Dev.rcp_putMerge, Dev.rcp_badCopy, apply_ite Dev.rcp, ite_self]

theorem Dev.rcp_goodArrival (d : Dev) (c p : Nat) (cell : Cell) : (d.goodArrival c p cell).rcp = d.rcp := by
  unfold Dev.goodArrival
  dsimp only
  repeat' split
  all_goals simp only [Dev.rcp_sat, Dev.rcp_showAnchor, Dev.rcp_putMerge, Dev.rcp_tablePut, Dev.rcp_keptNow, Dev.rcp_comparePair, Dev.rcp_badCopy]

theorem Dev.rcp_countUsed (d : Dev) (p : Nat) (t : Slot) (certain : Bool) : (d.countUsed p t certain).1.rcp = d.rcp := by
  simp only [Dev.countUsed, Dev.rcp_add, apply_ite Dev.rcp, apply_ite Prod.fst, ite_self]

theorem Dev.rcp_absentCopy (d : Dev) (q : Nat) (t : Slot) : (d.absentCopy q t).rcp = d.rcp := by
  simp only [Dev.absentCopy, Dev.rcp_badCopy, Dev.rcp_sat, apply_ite Dev.rcp, ite_self]

theorem Dev.rcp_windowEnd (d : Dev) (c : Nat) (cur : Bool) (m : Merge) (t : Slot) : (d.windowEnd c cur m t).rcp = d.rcp := by
  unfold Dev.windowEnd
  dsimp only
  repeat' split
  all_goals simp only [Dev.rcp_sat, Dev.rcp_putMerge, Dev.rcp_countUsed, Dev.rcp_absentCopy, Dev.rcp_keptNow]

theorem Dev.rcp_settleWindow (d : Dev) (c seq : Nat) (cur : Bool) : (d.settleWindow c seq cur).rcp = d.rcp := by
  unfold Dev.settleWindow
  repeat' split
  all_goals simp only [Dev.rcp_windowEnd]

/-! ## Release -/

theorem Dev.rcp_showFrozen (d : Dev) (c : Nat) (b : Bool) : (d.showFrozen c b).rcp = d.rcp := by
  simp only [Dev.showFrozen, Dev.rcp_flag, Dev.rcp_each, apply_ite Dev.rcp, ite_self, implies_true]

theorem Dev.rcp_substitutes (d : Dev) (c : Nat) : (d.substitutes c).rcp = d.rcp := by
  simp only [Dev.substitutes, Dev.rcp_showFrozen]

theorem Dev.rcp_releaseMissing (d : Dev) (c : Nat) (m : Merge) (seq : Nat) : (d.releaseMissing c m seq).rcp = d.rcp := by
  simp only [Dev.releaseMissing, Dev.rcp_putMerge, Dev.rcp_sat, Dev.setFlow_rcp, Dev.rcp_flag, Dev.emit_rcp, Dev.rcp_tileMisses, Dev.rcp_txMissing,
    Dev.rcp_substitutes]

theorem Dev.rcp_releaseCell (d : Dev) (c : Nat) (m : Merge) (t : Slot) (p : Nat) (cell : Cell) : (d.releaseCell c m t p cell).rcp = d.rcp := by
  simp only [Dev.releaseCell, Dev.rcp_countUsed, Dev.rcp_putMerge, Dev.rcp_flag, Dev.rcp_add, Dev.wr_rcp, Dev.setFlow_rcp, Dev.rcp_sdiTake,
    Dev.rcp_showFrozen, Dev.rcp_substitutes, Dev.rcp_frameEnd, Dev.rcp_leaveSafe, Dev.rcp_audioTakes, Dev.rcp_layerTakes, Dev.rcp_tileTakes,
    Dev.rcp_poolTakes, Dev.rcp_txPush, Dev.emit_rcp, Dev.rcp_signFrame, apply_ite Dev.rcp, ite_self]

theorem Dev.rcp_releaseNext (d : Dev) (c : Nat) (m : Merge) (n : Nat) : (d.releaseNext c m n).rcp = d.rcp := by
  unfold Dev.releaseNext
  repeat' split
  all_goals simp only [Dev.rcp_releaseCell, Dev.rcp_releaseMissing]

theorem Dev.rcp_showUntimed (d : Dev) (c : Nat) (b : Bool) : (d.showUntimed c b).rcp = d.rcp := by
  simp only [Dev.showUntimed, Dev.rcp_flag, Dev.rcp_each, apply_ite Dev.rcp, ite_self, implies_true]

/-! ## What this member's outputs use -/

theorem Dev.rcp_showDest (d : Dev) (efn : Nat) : (d.showDest efn).rcp = d.rcp := by
  unfold Dev.showDest
  split <;> simp only [Dev.wr_rcp]

/-! ## What the members have left -/

theorem Dev.rcp_post (d : Dev) (m : Nat) (b : Bytes) : (d.post m b).rcp = d.rcp := by
  unfold Dev.post
  repeat' split
  all_goals simp only [Dev.rcp_sendMsg]

theorem Dev.rcp_report (d : Dev) : d.report.rcp = d.rcp := by
  simp only [Dev.report, Dev.rcp_setDwl, Dev.rcp_post, Dev.rcp_each, apply_ite Dev.rcp, ite_self, implies_true]

/-! ## Paths -/

theorem Dev.rcp_chargeHop (d : Dev) (r : Remote) (efn a b : Nat) : (d.chargeHop r efn a b).rcp = d.rcp := by
  unfold Dev.chargeHop
  dsimp only
  repeat' split
  all_goals simp only [Dev.rcp_setDwl]

/-! ## Contexts that the device itself makes -/

theorem Dev.rcp_ownFlow (d : Dev) (c kind efn bind format : Nat) : (d.ownFlow c kind efn bind format).rcp = d.rcp := by
  simp only [Dev.ownFlow, Dev.wr_rcp]

/-! ## Orders -/

theorem Dev.rcp_endPeer (d : Dev) (efn : Nat) : (d.endPeer efn).rcp = d.rcp := by
  unfold Dev.endPeer
  split <;> simp only [Dev.rcp_reroute, Dev.rcp_flowCommit, Dev.wr_rcp, apply_ite Dev.rcp, ite_self]

theorem Dev.rcp_replanPeer (d : Dev) (c : Nat) (group : Option Nat) (format : Nat) : (d.replanPeer c group format).rcp = d.rcp := by
  unfold Dev.replanPeer
  split <;> simp only [Dev.wr_rcp, Dev.setFlow_rcp]

theorem Dev.rcp_announce (d : Dev) (efn : Nat) : (d.announce efn).rcp = d.rcp := by
  simp only [Dev.announce, Dev.rcp_post, Dev.rcp_each, implies_true]

theorem Dev.rcp_planApply (d : Dev) (efn hops frm path info : Nat) : (d.planApply efn hops frm path info).rcp = d.rcp := by
  refine Dev.rcp_of_view fun φ hφ => ?_
  have hflow : ∀ (e : Dev) c g f, φ (((e.ownFlow c 0x08 efn g f).flag D.FlowStatus.PLANNER_OWNED c true).flowCommit c) = φ e := fun _ _ _ _ => by
    simp only [hφ, Dev.rcp_flowCommit, Dev.rcp_flag, Dev.rcp_ownFlow]
  unfold Dev.planApply
  split
  · simp only [hφ, Dev.rcp_report, Dev.rcp_announce, Dev.rcp_reroute, Dev.rcp_showDest, Dev.wr_rcp]
  · split
    · simp only [hφ, Dev.rcp_report, Dev.rcp_endPeer]
    · extract_lets d1 d2
      have h1 : φ d1 = φ d := by simp only [hφ, d1]
      have h2 : φ d2 = φ d1 := by
        clear_value d1
        unfold d2
        split
        · simp only [hφ, Dev.rcp_replanPeer, apply_ite Dev.rcp, ite_self]
        · split
          · rfl
          · exact hflow ..
      rw [← h1, ← h2]
      clear_value d2
      split
      · simp only [hφ, Dev.rcp_report, Dev.rcp_reroute, Dev.rcp_showRelay, Dev.rcp_showDest, Dev.wr_rcp]
      · rfl

theorem Dev.rcp_planOrder (d : Dev) (efn m : Nat) : (d.planOrder efn m).rcp = d.rcp := by
  simp only [Dev.planOrder, Dev.rcp_planApply, Dev.rcp_post, apply_ite Dev.rcp, apply_ite Prod.fst, ite_self]

theorem Dev.rcp_planTo (d : Dev) (l : List PlanPair) (efn : Nat) : (d.planTo l efn).rcp = d.rcp := by
  simp only [Dev.planTo, Dev.rcp_setDwl, Dev.rcp_add, Dev.wr_rcp, Dev.rcp_planOrder, Dev.rcp_each, implies_true]

theorem Dev.rcp_plan (d : Dev) (efn m : Nat) (want two : Bool) : (d.plan efn m want two).rcp = d.rcp := by
  unfold Dev.plan
  dsimp only
  repeat' split
  all_goals simp only [Dev.rcp_setDwl, Dev.rcp_planOrder, Dev.rcp_planTo]

theorem Dev.rcp_askPlan (d : Dev) (efn : Nat) (want : Bool) : (d.askPlan efn want).rcp = d.rcp := by
  simp only [Dev.askPlan, Dev.rcp_plan, Dev.rcp_post, apply_ite Dev.rcp, ite_self]

theorem Dev.rcp_flowUse (d : Dev) (efn : Nat) : (d.flowUse efn).rcp = d.rcp := by
  unfold Dev.flowUse
  dsimp only
  repeat' split
  all_goals simp only [Dev.rcp_showDest, Dev.rcp_post, Dev.rcp_askPlan]

theorem Dev.rcp_holdDelays (o d : Dev) : (Dev.holdDelays o d).rcp = d.rcp := by
  simp only [Dev.holdDelays, Dev.setFlow_rcp, Dev.rcp_each, implies_true]

theorem Dev.rcp_adoptPeer (d : Dev) (c : Nat) : (d.adoptPeer c).rcp = d.rcp := by
  simp only [Dev.adoptPeer, Dev.rcp_flag, Dev.rcp_flowUse, Dev.rcp_flowCommit, Dev.wr_rcp, apply_ite Dev.rcp, ite_self]

theorem Dev.rcp_sharePolicy (d : Dev) (g : Nat) : (d.sharePolicy g).rcp = d.rcp := by
  simp only [Dev.sharePolicy, Dev.rcp_sendMsg, apply_ite Dev.rcp, ite_self]

theorem Dev.rcp_greet (d : Dev) (g : Nat) : (d.greet g).rcp = d.rcp := by
  simp only [Dev.greet, Dev.rcp_sharePolicy, Dev.rcp_sendMsg, Dev.rcp_flowUse, Dev.rcp_each, apply_ite Dev.rcp, ite_self, implies_true]

theorem Dev.rcp_followGroups (d : Dev) : d.followGroups.rcp = d.rcp := by
  simp only [Dev.followGroups, Dev.rcp_reroute, Dev.rcp_each, implies_true]

theorem Dev.rcp_flowKnown (d : Dev) (efn : Nat) (here : Bool) (info : Nat) : (d.flowKnown efn here info).rcp = d.rcp := by
  unfold Dev.flowKnown
  dsimp only
  repeat' split
  all_goals simp only [Dev.rcp_replanPeer, Dev.rcp_flowUse, Dev.rcp_planOrder]

theorem Dev.rcp_destTold (d : Dev) (efn m : Nat) (held : Bool) : (d.destTold efn m held).rcp = d.rcp := by
  unfold Dev.destTold
  split <;> simp only [Dev.wr_rcp, apply_ite Dev.rcp, ite_self]

theorem Dev.rcp_planHere (d : Dev) (b : Bytes) : (d.planHere b).rcp = d.rcp := by
  unfold Dev.planHere
  split <;> simp only [Dev.rcp_plan, Dev.rcp_planApply, Dev.rcp_flowKnown, Dev.rcp_holdDelays, Dev.wr_rcp, Dev.rcp_flowUse, Dev.rcp_setDwl,
    Dev.rcp_destTold, Dev.rcp_each, apply_ite Dev.rcp, ite_self, implies_true]

theorem Dev.rcp_planIn (d : Dev) (b : Bytes) : (d.planIn b).rcp = d.rcp := by
  unfold Dev.planIn
  repeat' split
  all_goals simp only [Dev.rcp_planHere, Dev.rcp_sendMsg]

theorem Dev.rcp_setXp (d : Dev) (f : XpSt → XpSt) : (d.setXp f).rcp = d.rcp := (rfl)

theorem Dev.rcp_setSource (d : Dev) (c : Nat) (source : Option Nat) : (d.setSource c source).rcp = d.rcp := by
  simp only [Dev.setSource, Dev.rcp_tablePut, Dev.wr_rcp, Dev.rcp_flag]

/-! ## The take record (R97 to R99) -/

theorem Dev.rcp_eraseSector (d : Dev) : d.eraseSector.rcp = d.rcp := by
  unfold Dev.eraseSector
  split <;> simp only [Dev.wr_rcp]

theorem Dev.rcp_makeRoom (d : Dev) (n k : Nat) : (d.makeRoom n k).rcp = d.rcp := by
  induction k generalizing d with
  | zero => rfl
  | succ k ih => simp only [Dev.makeRoom, ih, Dev.rcp_eraseSector, apply_ite Dev.rcp, ite_self]

theorem Dev.rcp_logTake (d : Dev) (kind slot epoch time : Nat) (elems : List Nat) : (d.logTake kind slot epoch time elems).rcp = d.rcp := by
  simp only [Dev.logTake, Dev.rcp_makeRoom, Dev.wr_rcp]

/-! ## Inserted tiles (R81, R305) -/

theorem Dev.rcp_insertTile (d : Dev) {c efn : Nat} {sync gateway : Bool} {e : Dev} {i : Insert} (h : d.insertTile c efn sync gateway = some (e, i)) :
    e.rcp = d.rcp := by
  unfold Dev.insertTile at h
  split at h
  · obtain ⟨rfl, -⟩ := Prod.mk.inj (Option.some.inj h)
    simp only [Dev.rcp_flowCommit, Dev.setFlow_rcp, Dev.rcp_setSource, Dev.rcp_wake, Dev.rcp_setTile, Dev.rcp_flag, Dev.wr_rcp, Dev.rcp_ownFlow,
      apply_ite Dev.rcp, ite_self]
  · cases h

theorem Dev.rcp_freeTile (d : Dev) (t : Nat) : (d.freeTile t).rcp = d.rcp := by
  simp only [Dev.freeTile, Dev.rcp_flowCommit, Dev.wr_rcp, Dev.rcp_setSource, Dev.rcp_settle, Dev.rcp_setTile, Dev.rcp_flag, Dev.rcp_each,
    apply_ite Dev.rcp, ite_self, implies_true]

/-! ## The checks (Table 03.6) -/

theorem Dev.rcp_takeChecks (d : Dev) {c : Nat} {source : Option Nat} {fs : Bool} {time : Nat} {slot : Option (Nat × Nat)} {e : Dev} {p : Pend}
    (h : d.takeChecks c source fs time slot = .ok (e, p)) : e.rcp = d.rcp := by
  unfold Dev.takeChecks at h
  extract_lets p0 at_ at h
  by_cases h0 : c < 4096 ∨ 8192 ≤ c ∨ (!d.on D.Flow.ENABLE c) = true
  · rw [if_pos h0] at h; cases h
  · rw [if_neg h0] at h
    cases source with
    | none =>
      dsimp only at h
      split at h
      · cases h
      · obtain ⟨rfl, -⟩ := Prod.mk.inj (Except.ok.inj h); rfl
    | some x =>
      dsimp only at h
      iterate 7
        split at h
        · cases h
      split at h
      · split at h
        · obtain ⟨rfl, -⟩ := Prod.mk.inj (Except.ok.inj h); rfl
        · cases h
      · split at h
        · cases h
        case h_2 ht =>
          split at h
          · cases h
          split at h
          · cases h
          · obtain ⟨rfl, -⟩ := Prod.mk.inj (Except.ok.inj h)
            exact (Dev.rcp_settle _).trans (d.rcp_insertTile ht)

/-! ## Pending changes -/

theorem Dev.rcp_showPend (d : Dev) (c : Nat) : (d.showPend c).rcp = d.rcp := by
  unfold Dev.showPend
  split <;> simp only [Dev.wr_rcp, Dev.rcp_flag, Dev.setFlow_rcp]

theorem Dev.rcp_acceptTake (d : Dev) (c : Nat) (p : Pend) : (d.acceptTake c p).rcp = d.rcp := by
  simp only [Dev.acceptTake, Dev.rcp_sat, Dev.rcp_setXp, Dev.rcp_freeTile, Dev.rcp_flowUse, Dev.setFlow_rcp, Dev.rcp_report, Dev.rcp_showPend,
    Dev.wr_rcp, Dev.rcp_each, apply_ite Dev.rcp, ite_self, implies_true]

/-! ## The application instant (R83) -/

theorem Dev.rcp_holdDoubt (d : Dev) (c : Nat) : (d.holdDoubt c).rcp = d.rcp := by
  simp only [Dev.holdDoubt, Dev.rcp_enterSafe, Dev.rcp_flag, apply_ite Dev.rcp, ite_self]

theorem Dev.rcp_salvoApplied (d : Dev) (slot : Nat) : (d.salvoApplied slot).rcp = d.rcp := by
  simp only [Dev.salvoApplied, Dev.rcp_setXp, Dev.wr_rcp, Dev.rcp_add, apply_ite Dev.rcp, ite_self]

theorem Dev.rcp_applyPend (d : Dev) (c : Nat) (p : Pend) : (d.applyPend c p).rcp = d.rcp := by
  refine Dev.rcp_of_view fun φ hφ => ?_
  have hanchor : ∀ (e : Dev) a, φ (if e.running c then e.showAnchor c a else e) = φ e := fun _ _ => by
    simp only [hφ, Dev.rcp_showAnchor, apply_ite Dev.rcp, ite_self]
  unfold Dev.applyPend
  extract_lets n prev inserted untimed d1 d2 d3 d4 same next d5 d6 d7 d8 d9 d10 d11 d12 d13 d14 d15 d16 d17 d18 d19
  have h4 : φ d4 = φ d := by
    simp only [d4, d3, d2, d1, hφ, Dev.rcp_flag, Dev.wr_rcp, Dev.rcp_setSource, Dev.rcp_setXp]
  have h7 : φ d7 = φ d4 := by
    clear_value d4 same next
    simp only [d7, d6, d5, hφ, Dev.rcp_flag, Dev.rcp_setTx, Dev.setFlow_rcp, apply_ite Dev.rcp, ite_self]
  have h8 : φ d8 = φ d7 := by
    unfold d8
    split
    · exact hanchor ..
    · rfl
  have h10 : φ d10 = φ d8 := by
    clear_value d8
    simp only [d10, d9, hφ, Dev.rcp_dropWhy, Dev.rcp_flag, Dev.rcp_enterSafe, apply_ite Dev.rcp, ite_self]
  have h14 : φ d14 = φ d10 := by
    clear_value d10
    simp only [d14, d13, d12, d11, hφ, Dev.rcp_add, Dev.raise_rcp, Dev.rcp_showUntimed, Dev.rcp_sat, Dev.rcp_txSafe, Dev.setFlow_rcp,
      apply_ite Dev.rcp, ite_self]
  have h15 : φ d15 = φ d14 := by
    clear_value d14 inserted
    unfold d15
    cases inserted with
    | none => rfl
    | some t => simp only [hφ, Dev.rcp_freeTile, apply_ite Dev.rcp, ite_self]
  have h16 : φ d16 = φ d15 := by
    clear_value d15
    unfold d16
    split <;> simp only [hφ, Dev.rcp_showDest]
  have h17 : φ d17 = φ d16 := by
    clear_value d16 prev
    unfold d17
    split <;> simp only [hφ, Dev.rcp_flowUse, apply_ite Dev.rcp, ite_self]
  have h19 : φ d19 = φ d17 := by
    clear_value d17
    simp only [d19, d18, hφ, Dev.rcp_report, Dev.rcp_leaveSafe, Dev.rcp_showPend, Dev.rcp_audioApply, Dev.rcp_layerApply]
  have hall : φ d19 = φ d := by rw [h19, h17, h16, h15, h14, h10, h8, h7, h4]
  clear_value d19
  rw [← hall]
  split <;> simp only [hφ, Dev.rcp_salvoApplied]

theorem Dev.rcp_takeUp (d : Dev) (c : Nat) (p : Pend) : (d.takeUp c p).rcp = d.rcp := by
  unfold Dev.takeUp
  split
  · rfl
  · dsimp only
    split
    · rfl
    · split
      · simp only [Dev.rcp_showPend, Dev.rcp_setXp]
      · split
        · simp only [Dev.rcp_showPend, Dev.rcp_setXp]
        case h_2 h => simp only [Dev.rcp_showPend, Dev.rcp_setXp, Dev.rcp_settle, Dev.rcp_insertTile _ h]

theorem Dev.rcp_insertLate (d : Dev) (c : Nat) : (d.insertLate c).rcp = d.rcp := by
  unfold Dev.insertLate
  split
  · rfl
  · dsimp only
    split
    · rfl
    · split
      · exact Dev.rcp_setXp ..
      · split
        · exact Dev.rcp_setXp ..
        case h_2 h =>
          simp only [Dev.setFlow_rcp, Dev.rcp_flag, Dev.wr_rcp, Dev.rcp_settle, Dev.rcp_insertTile _ h, Dev.rcp_setXp]

theorem Dev.rcp_insertAgain (d : Dev) (c : Nat) : (d.insertAgain c).rcp = d.rcp := by
  unfold Dev.insertAgain
  split
  · rfl
  · dsimp only
    split
    · rfl
    · split
      · exact Dev.rcp_freeTile ..
      case h_2 h => simp only [Dev.setFlow_rcp, Dev.wr_rcp, Dev.rcp_settle, Dev.rcp_insertTile _ h, Dev.rcp_freeTile]

theorem Dev.rcp_applyDue (d : Dev) (c : Nat) : (d.applyDue c).rcp = d.rcp := by
  unfold Dev.applyDue
  dsimp only
  repeat' split
  all_goals simp only [Dev.rcp_holdDoubt, Dev.rcp_takeUp, Dev.rcp_applyPend]

/-! ## Reading the sources (R350, R358) -/

theorem Dev.rcp_showSilent (d : Dev) (o : Origin) (ch : Nat) (b now_ : Bool) : (d.showSilent o ch b now_).rcp = d.rcp := by
  unfold Dev.showSilent
  split <;> simp only [Dev.raise_rcp, Dev.rcp_flag, apply_ite Dev.rcp, ite_self]

theorem Dev.rcp_readCh (d : Dev) (k ch : Nat) (o : Origin) : (d.readCh k ch o).1.rcp = d.rcp := by
  unfold Dev.readCh
  split <;> simp only [Dev.rcp_barSample, Dev.rcp_setSrc, apply_ite Dev.rcp, ite_self]

theorem Dev.rcp_readAll (d : Dev) (k : Nat) (l : List (Nat × Origin)) : (d.readAll k l).1.rcp = d.rcp := by
  induction l generalizing d with
  | nil => rfl
  | cons o t ih => simp only [Dev.readAll, ih, Dev.rcp_readCh]

theorem Dev.rcp_noteOrigin (d : Dev) (o : Origin) (chs : List Nat) : (d.noteOrigin o chs).rcp = d.rcp := by
  unfold Dev.noteOrigin
  split <;> simp only [Dev.rcp_sat, Dev.rcp_showSilent, apply_ite Dev.rcp, ite_self]

/-! ## Destination records (R342 to R346) -/

theorem Dev.rcp_turnFades (d : Dev) (r k n : Nat) : (d.turnFades r k n).rcp = d.rcp := by
  induction n generalizing d with
  | zero => rfl
  | succ n ih =>
    unfold Dev.turnFades
    dsimp only
    repeat' split
    all_goals simp only [ih, Dev.rcp_add, Dev.rcp_setDest, Dev.rcp_sat]

theorem Dev.rcp_computeRecord (d : Dev) (words : List (Nat × Nat)) (r k : Nat) : (d.computeRecord words r k).rcp = d.rcp := by
  simp only [Dev.computeRecord, Dev.rcp_setDest, Dev.rcp_turnFades, Dev.rcp_sat, Dev.rcp_flag, Dev.wr_rcp, Dev.emit_rcp]

/-! ## AUDIO_OUT (R356) -/

theorem Dev.rcp_bundleOut (d : Dev) (c k : Nat) : (d.bundleOut c k).rcp = d.rcp := by
  simp only [Dev.bundleOut, Dev.setFlow_rcp, Dev.rcp_flag, Dev.wr_rcp, Dev.rcp_setBundle, apply_ite Dev.rcp, ite_self]

/-! ## Audio follows video (R96, R347) -/

theorem Dev.rcp_foresee (d : Dev) (r k : Nat) : (d.foresee r k).rcp = d.rcp := by
  unfold Dev.foresee
  dsimp only
  repeat' split
  all_goals simp only [Dev.rcp_askFade]

theorem Dev.rcp_embedRead (d : Dev) (k : Int) : (d.embedRead k).rcp = d.rcp := by
  simp only [Dev.embedRead, Dev.rcp_setAudio, Dev.rcp_each, apply_ite Dev.rcp, ite_self, implies_true]

/-! ## De-embedders (R349, R351, R352) -/

theorem Dev.rcp_recentre (d : Dev) (f : Fld) (n ch : Nat) : (d.recentre f n ch).rcp = d.rcp := by
  simp only [Dev.recentre, Dev.raise_rcp, Dev.rcp_sat]

/-! ## Commits -/

theorem Dev.rcp_sapCommit (d : Dev) (p : Nat) : (d.sapCommit p).rcp = d.rcp := by
  simp only [Dev.sapCommit, Dev.wr_rcp, Dev.rcp_flag, Dev.rcp_setAudio, apply_ite Dev.rcp, ite_self]

theorem Dev.rcp_gainCommit (d : Dev) (r : Nat) : (d.gainCommit r).rcp = d.rcp := by
  simp only [Dev.gainCommit, Dev.rcp_setDest]

theorem Dev.rcp_audioStart (d : Dev) : d.audioStart.rcp = d.rcp := by
  simp only [Dev.audioStart, Dev.rcp_noteFollow, Dev.rcp_setDest, Dev.wr_rcp, Dev.rcp_each, apply_ite Dev.rcp, ite_self, implies_true]

/-! ## The journal ring -/

theorem Dev.rcp_writeSettings (d : Dev) (slot : Nat) (v : Settings) : (d.writeSettings slot v).rcp = d.rcp := (rfl)

theorem Dev.rcp_compact (d : Dev) : d.compact.rcp = d.rcp := by
  simp only [Dev.compact, Dev.rcp_writeSettings, Dev.wr_rcp]

theorem Dev.rcp_compactDue (d : Dev) : d.compactDue.rcp = d.rcp := by
  simp only [Dev.compactDue, Dev.rcp_compact, apply_ite Dev.rcp, ite_self]

theorem Dev.rcp_append (d : Dev) (r : JRec) : (d.append r).rcp = d.rcp := by
  simp only [Dev.append, Dev.wr_rcp]

theorem Dev.rcp_journalSingle (d : Dev) (items : Store) : (d.journalSingle items).rcp = d.rcp := by
  simp only [Dev.journalSingle, Dev.rcp_compactDue, Dev.rcp_append]

theorem rcp_kept (keys : List Key) (r : Dev × Nat) : (kept keys r).1.rcp = r.1.rcp := by
  simp only [kept, Dev.rcp_journalSingle, apply_ite Dev.rcp, apply_ite Prod.fst, ite_self]

/-! ## The ownership record (R438, R441) -/

theorem Dev.rcp_writeOwner (d : Dev) (enrolled : Bool) (since policy pub : Nat) : (d.writeOwner enrolled since policy pub).rcp = d.rcp := by
  simp only [Dev.writeOwner, Dev.wr_rcp, apply_ite Dev.rcp, ite_self]

theorem Dev.rcp_showOwner (d : Dev) (r : OwnerRec) : (d.showOwner r).rcp = d.rcp := by
  simp only [Dev.showOwner, Dev.wr_rcp, Dev.setEnt_rcp]

/-! ## Measurements (R450) -/

theorem Dev.rcp_setM (d : Dev) (k v : Nat) : (d.setM k v).rcp = d.rcp := (rfl)

theorem Dev.rcp_changeM (d : Dev) (k v : Nat) : (d.changeM k v).rcp = d.rcp := by
  simp only [Dev.changeM, Dev.rcp_setM, apply_ite Dev.rcp, ite_self]

theorem Dev.rcp_policyCommit (d : Dev) : d.policyCommit.rcp = d.rcp := by
  unfold Dev.policyCommit
  split <;> simp only [Dev.rcp_writeOwner, Dev.rcp_changeM]

theorem Dev.rcp_logError (d : Dev) (resp master target : Nat) (write : Bool) (addr : Nat) :
    (d.logError resp master target write addr).rcp = d.rcp := by
  simp only [Dev.logError, Dev.setEnt_rcp, Dev.rcp_each, implies_true]

theorem Dev.rcp_busRespond (d : Dev) (resp master target : Nat) (write : Bool) (addr data : Nat) :
    (d.busRespond resp master target write addr data).rcp = d.rcp := by
  simp only [Dev.busRespond, Dev.emit_rcp, Dev.rcp_logError, Dev.rcp_sat, Dev.raise_rcp, apply_ite Dev.rcp, ite_self]

theorem Dev.rcp_busIsolate (d : Dev) (t : Nat) : (d.busIsolate t).rcp = d.rcp := by
  simp only [Dev.busIsolate, Dev.rcp_busRespond, Dev.rcp_foldl, implies_true]

theorem Dev.rcp_busDrop (d : Dev) (m : Nat) : (d.busDrop m).rcp = d.rcp := by
  simp only [Dev.busDrop, Dev.rcp_sat]

theorem Dev.rcp_busIssue (d : Dev) (mem : List Host.Cell) (master addr beats : Nat) (write : Bool) (data enables : Nat) (answer :
    Option Nat) (placed : Nat) :
    (d.busIssue mem master addr beats write data enables answer placed).rcp = d.rcp := by
  unfold Dev.busIssue
  split <;> simp only [Dev.rcp_busRespond, Dev.rcp_add, apply_ite Dev.rcp, ite_self]

theorem Dev.rcp_cutTarget (d : Dev) (t cause : Nat) : (d.cutTarget t cause).rcp = d.rcp := by
  simp only [Dev.cutTarget, Dev.raise_rcp, Dev.rcp_busIsolate, apply_ite Dev.rcp, ite_self]

theorem Dev.rcp_busCmd (d : Dev) (v : Nat) : (d.busCmd v).1.rcp = d.rcp := by
  simp only [Dev.busCmd, Dev.rcp_cutTarget, Dev.setEnt_rcp, Dev.rcp_each, apply_ite Dev.rcp, apply_ite Prod.fst, ite_self, implies_true]

/-! ## The frame boundary (R326 to R332) -/

theorem Dev.rcp_passFlips (d : Dev) (h : Nat) : (d.passFlips h).rcp = d.rcp := by
  simp only [Dev.passFlips, Dev.rcp_flipDone, Dev.rcp_each, implies_true]

theorem Dev.rcp_layerUse (d : Dev) (e : Nat) (first : Bool) : (d.layerUse e first).rcp = d.rcp := by
  unfold Dev.layerUse
  dsimp only
  split <;> simp only [Dev.rcp_setLayer, apply_ite Dev.rcp, ite_self]

theorem Dev.rcp_layerSwitch (d : Dev) (e : Nat) : (d.layerSwitch e).rcp = d.rcp := by
  simp only [Dev.layerSwitch, Dev.rcp_setLayer]

theorem Dev.rcp_layerNotReady (d : Dev) (e : Nat) : (d.layerNotReady e).rcp = d.rcp := by
  simp only [Dev.layerNotReady, Dev.raise_rcp, Dev.wr_rcp, Dev.rcp_sat, Dev.rcp_flag, apply_ite Dev.rcp, ite_self]

theorem Dev.rcp_layerNew (d : Dev) (e : Nat) (f : LayerFrame) : (d.layerNew e f).rcp = d.rcp := by
  simp only [Dev.layerNew, Dev.rcp_layerSwitch, Dev.rcp_setLayer, Dev.wr_rcp, Dev.rcp_flag, Dev.rcp_sat, apply_ite Dev.rcp, ite_self]

theorem Dev.rcp_layerFlow (d : Dev) (e : Nat) : (d.layerFlow e).rcp = d.rcp := by
  unfold Dev.layerFlow
  dsimp only
  split <;> simp only [Dev.rcp_setLayer, Dev.rcp_layerNew, Dev.rcp_layerNotReady, Dev.rcp_layerSwitch, Dev.wr_rcp, Dev.rcp_sat, apply_ite Dev.rcp,
    ite_self]

theorem Dev.rcp_layerRow (d : Dev) (e : Nat) : (d.layerRow e).rcp = d.rcp := by
  simp only [Dev.layerRow, Dev.wr_rcp, Dev.rcp_flag, Dev.rcp_layerFlow, apply_ite Dev.rcp, ite_self]

theorem Dev.rcp_layerBars (d : Dev) (e : Nat) : (d.layerBars e).rcp = d.rcp := by
  simp only [Dev.layerBars, Dev.rcp_setLayer]

theorem Dev.rcp_headFrame (d : Dev) (m : List Host.Cell) (head c t : Nat) (lost probe : List (Nat × Nat)) :
    (d.headFrame m head c t lost probe).rcp = d.rcp := by
  simp only [Dev.headFrame, Dev.rcp_setHead, Dev.rcp_passFlips, Dev.setFlow_rcp, Dev.rcp_layerBars, Dev.rcp_layerRow, Dev.rcp_layerUse, Dev.rcp_flag,
    Dev.rcp_sat, Dev.emit_rcp, Dev.rcp_each, apply_ite Dev.rcp, ite_self, implies_true]

/-! ## Veneers (R330) -/

theorem Dev.rcp_veneerWrite (d : Dev) (v : Bytes) : (d.veneerWrite v).1.rcp = d.rcp := by
  unfold Dev.veneerWrite
  dsimp only
  repeat' split
  all_goals simp only [Dev.rcp_storeSpan, Dev.rcp_each, implies_true]

theorem Dev.rcp_veneerCmd (d : Dev) (v : Nat) : (d.veneerCmd v).1.rcp = d.rcp := by
  simp only [Dev.veneerCmd, Dev.wr_rcp, Dev.rcp_flag, apply_ite Dev.rcp, apply_ite Prod.fst, ite_self]

/-! ## Tally and engines -/

theorem Dev.rcp_tallyWrite (d : Dev) (e v : Nat) : (d.tallyWrite e v).1.rcp = d.rcp := by
  simp only [Dev.tallyWrite, Dev.rcp_setLayer, Dev.wr_rcp, apply_ite Dev.rcp, apply_ite Prod.fst, ite_self]

/-! ## The ensemble (R220) and the group followed (R403) -/

theorem Dev.rcp_followGroup (d : Dev) : d.followGroup.rcp = d.rcp := by
  simp only [Dev.followGroup, Dev.wr_rcp]

theorem Dev.rcp_ensUpdate (d : Dev) : d.ensUpdate.rcp = d.rcp := by
  simp only [Dev.ensUpdate, Dev.rcp_report, Dev.rcp_followGroups, Dev.rcp_followGroup, Dev.wr_rcp, Dev.rcp_setDwl, apply_ite Dev.rcp, ite_self]

theorem Dev.rcp_summarySee (d : Dev) (m src t : Nat) : (d.summarySee m src t).rcp = d.rcp := by
  simp only [Dev.summarySee, Dev.wr_rcp, Dev.rcp_flag, apply_ite Dev.rcp, ite_self]

/-! ## Group states (Table 07.10a) -/

theorem Dev.rcp_groupState (d : Dev) (g st : Nat) : (d.groupState g st).rcp = d.rcp := by
  simp only [Dev.groupState, Dev.rcp_ensUpdate, Dev.rcp_setDg, Dev.wr_rcp]

theorem Dev.rcp_laneOff (d : Dev) (e : Nat) : (d.laneOff e).rcp = d.rcp := by
  simp only [Dev.laneOff, Dev.rcp_setDl, Dev.rcp_laneTo, Dev.wr_rcp, Dev.rcp_scanAbort, Dev.rcp_flag]

theorem Dev.rcp_groupTrain (d : Dev) (g : Nat) : (d.groupTrain g).rcp = d.rcp := by
  simp only [Dev.groupTrain, Dev.rcp_setDg, Dev.rcp_showRotation, Dev.rcp_laneStart, Dev.wr_rcp, Dev.rcp_setDl, Dev.rcp_laneTo, Dev.rcp_groupState,
    Dev.rcp_each, apply_ite Dev.rcp, ite_self, implies_true]

theorem Dev.rcp_groupOff (d : Dev) (g st : Nat) : (d.groupOff g st).rcp = d.rcp := by
  simp only [Dev.groupOff, Dev.rcp_laneOff, Dev.rcp_showRotation, Dev.rcp_setDg, Dev.rcp_groupState, Dev.rcp_flag, Dev.rcp_each, implies_true]

theorem Dev.rcp_groupCheck (d : Dev) (g : Nat) : (d.groupCheck g).rcp = d.rcp := by
  unfold Dev.groupCheck
  dsimp only
  repeat' split
  all_goals simp only [Dev.rcp_groupOff, Dev.wr_rcp, Dev.rcp_groupTrain]

theorem Dev.rcp_groupsCheck (d : Dev) : d.groupsCheck.rcp = d.rcp := by
  simp only [Dev.groupsCheck, Dev.rcp_groupCheck, Dev.rcp_each, implies_true]

theorem Dev.rcp_groupDown (d : Dev) (g : Nat) : (d.groupDown g).rcp = d.rcp := by
  simp only [Dev.groupDown, Dev.rcp_groupState, Dev.raise_rcp, Dev.rcp_setDg]

/-! ## The rotation (R202, R241) -/

theorem Dev.rcp_rotate (d : Dev) (g : Nat) (ls : List Nat) (now : Bool) (name : optParam (Option Nat) none) :
    (d.rotate g ls now name).rcp = d.rcp := by
  simp only [Dev.rotate, Dev.rcp_setDg, Dev.rcp_sendMarker, Dev.rcp_showRotation, Dev.rcp_each, apply_ite Dev.rcp, ite_self, implies_true]

/-! ## The spare (R239) -/

theorem Dev.rcp_showSpares (d : Dev) (g : Nat) : (d.showSpares g).rcp = d.rcp := by
  simp only [Dev.showSpares, Dev.wr_rcp, Dev.rcp_each, apply_ite Dev.rcp, ite_self, implies_true]

/-! ## Climbing (R212 to R214) -/

theorem Dev.rcp_laneComplete (d : Dev) (e : Nat) : (d.laneComplete e).rcp = d.rcp := by
  simp only [Dev.laneComplete, Dev.rcp_knotAdd, Dev.wr_rcp, Dev.rcp_flag, Dev.rcp_setDl, Dev.rcp_showSpares, Dev.rcp_laneTo, Dev.rcp_rotate,
    Dev.rcp_greet, Dev.rcp_groupState, Dev.rcp_ensUpdate, apply_ite Dev.rcp, ite_self]

theorem Dev.rcp_stepFailed (d : Dev) (e : Nat) : (d.stepFailed e).rcp = d.rcp := by
  simp only [Dev.stepFailed, Dev.wr_rcp, Dev.rcp_sat, Dev.rcp_setDl, Dev.rcp_laneStart, Dev.raise_rcp, Dev.rcp_laneTo, Dev.rcp_knotAdd,
    Dev.rcp_showSpares, apply_ite Dev.rcp, ite_self]

/-! ## Swaps and failures (R242 to R246) -/

theorem Dev.rcp_swapped (d : Dev) (e sp : Nat) : (d.swapped e sp).rcp = d.rcp := by
  simp only [Dev.swapped, Dev.wr_rcp, Dev.rcp_add, Dev.raise_rcp, Dev.rcp_flag, Dev.rcp_setDl, Dev.rcp_laneTo, Dev.rcp_showSpares]

theorem Dev.rcp_swapOut (d : Dev) (e sp : Nat) : (d.swapOut e sp).rcp = d.rcp := by
  simp only [Dev.swapOut, Dev.rcp_setDl, Dev.rcp_swapped, Dev.rcp_rotate, Dev.wr_rcp, Dev.rcp_laneTo, apply_ite Dev.rcp, ite_self]

theorem Dev.rcp_abandonSwap (d : Dev) (g l n : Nat) : (d.abandonSwap g l n).rcp = d.rcp := by
  simp only [Dev.abandonSwap, Dev.rcp_setDg, Dev.rcp_setDl, Dev.rcp_laneTo, Dev.rcp_flag, Dev.wr_rcp, Dev.rcp_showSpares, Dev.rcp_sendMarker]

theorem Dev.rcp_spareFail (d : Dev) (e : Nat) : (d.spareFail e).rcp = d.rcp := by
  simp only [Dev.spareFail, Dev.rcp_flag, Dev.rcp_laneTo, Dev.rcp_showSpares, Dev.rcp_scanAbort, Dev.rcp_setDl]

theorem Dev.rcp_laneFail (d : Dev) (e : Nat) : (d.laneFail e).rcp = d.rcp := by
  unfold Dev.laneFail
  dsimp only
  repeat' split
  all_goals simp only [Dev.rcp_abandonSwap, Dev.rcp_spareFail, Dev.rcp_flag, Dev.rcp_laneTo, Dev.rcp_setDl, Dev.rcp_scanAbort, Dev.rcp_swapped,
    Dev.rcp_rotate, Dev.rcp_sendRequest, Dev.rcp_sat, Dev.wr_rcp, Dev.rcp_setDg, Dev.raise_rcp, Dev.rcp_groupDown, Dev.rcp_showRotation]

theorem Dev.rcp_request (d : Dev) (reach src detail dom inst : Nat) : (d.request reach src detail dom inst).rcp = d.rcp := by
  simp only [Dev.request, Dev.rcp_safeNow, Dev.rcp_each, apply_ite Dev.rcp, ite_self, implies_true]

theorem Dev.rcp_newNonce (d : Dev) : d.newNonce.rcp = d.rcp := by
  simp only [Dev.newNonce, Dev.drawn_rcp, Dev.wr_rcp]

/-! ## Attestation -/

theorem Dev.rcp_makeQuote (d : Dev) (nonce : Nat) : (d.makeQuote nonce).rcp = d.rcp := (rfl)

/-! ## The debug lock -/

theorem Dev.rcp_debugCmd (d : Dev) (v : Bytes) : (d.debugCmd v).1.rcp = d.rcp := by
  simp only [Dev.debugCmd, Dev.wr_rcp, apply_ite Dev.rcp, apply_ite Prod.fst, ite_self]

theorem Dev.rcp_updTo (d : Dev) (st : Nat) : (d.updTo st).rcp = d.rcp := by
  simp only [Dev.updTo, Dev.wr_rcp]

theorem Dev.rcp_setSec (d : Dev) (f : SecSt → SecSt) : (d.setSec f).rcp = d.rcp := (rfl)

/-! ## Boot control (R438, R469) -/

theorem Dev.rcp_writeBoot (d : Dev) (f : BootRec → BootRec) : (d.writeBoot f).rcp = d.rcp := by
  simp only [Dev.writeBoot, Dev.rcp_setSec, apply_ite Dev.rcp, ite_self]

theorem Dev.rcp_showBoot (d : Dev) : d.showBoot.rcp = d.rcp := by
  simp only [Dev.showBoot, Dev.wr_rcp]

theorem Dev.rcp_fwEvent (d : Dev) (what slot : Nat) : (d.fwEvent what slot).rcp = d.rcp := by
  simp only [Dev.fwEvent, Dev.rcp_event]

/-! ## Settings at a change of image (R464, R468) -/

theorem Dev.rcp_loadSettings (d : Dev) (slot : Nat) : (d.loadSettings slot).rcp = d.rcp := by
  unfold Dev.loadSettings
  dsimp only
  split <;> simp only [Dev.rcp_setMgNet, Dev.wr_rcp, Dev.rcp_showOwner]

theorem Dev.rcp_newSettings (d : Dev) (old new : Nat) : (d.newSettings old new).rcp = d.rcp := by
  simp only [Dev.newSettings, Dev.rcp_flag, Dev.rcp_writeSettings, Dev.raise_rcp, apply_ite Dev.rcp, ite_self]

/-! ## Update sessions (R458 to R460, R471) -/

theorem Dev.rcp_holderHeard (d : Dev) (w : Who) : (d.holderHeard w).rcp = d.rcp := by
  simp only [Dev.holderHeard, Dev.rcp_setSec, apply_ite Dev.rcp, ite_self]

theorem Dev.rcp_result (d : Dev) (st : Nat) : (d.result st).1.rcp = d.rcp := by
  simp only [Dev.result, Dev.wr_rcp]

theorem Dev.rcp_updateBegin (d : Dev) (w : Who) : (d.updateBegin w).1.rcp = d.rcp := by
  simp only [Dev.updateBegin, Dev.rcp_setSec, Dev.rcp_setSlot, Dev.wr_rcp, Dev.rcp_updTo, apply_ite Dev.rcp, apply_ite Prod.fst, ite_self]

theorem Dev.rcp_keepManifest (d : Dev) (m : Nat) : (d.keepManifest m).rcp = d.rcp := by
  simp only [Dev.keepManifest, Dev.rcp_setSlot]

theorem Dev.rcp_manifestIn (d : Dev) (w : Who) (v : Bytes) : (d.manifestIn w v).1.rcp = d.rcp := by
  unfold Dev.manifestIn
  split <;> simp only [Dev.rcp_holderHeard, Dev.rcp_result, Dev.rcp_keepManifest, Dev.rcp_setSec, apply_ite Dev.rcp, apply_ite Prod.fst, ite_self]

theorem Dev.rcp_imageIn (d : Dev) (w : Who) (kind : Nat) (v : Bytes) : (d.imageIn w kind v).1.rcp = d.rcp := by
  unfold Dev.imageIn
  dsimp only
  repeat' split
  all_goals simp only [Dev.rcp_holderHeard, Dev.rcp_result, Dev.rcp_setSlot]

theorem Dev.rcp_updateEnd (d : Dev) : d.updateEnd.1.rcp = d.rcp := by
  simp only [Dev.updateEnd, Dev.rcp_setSlot, Dev.wr_rcp, Dev.rcp_updTo, apply_ite Dev.rcp, apply_ite Prod.fst, ite_self]

theorem Dev.rcp_updateAbort (d : Dev) : d.updateAbort.1.rcp = d.rcp := by
  simp only [Dev.updateAbort, Dev.rcp_updateDrop, Dev.rcp_showBoot, Dev.rcp_updTo, Dev.rcp_writeBoot, apply_ite Dev.rcp, apply_ite Prod.fst, ite_self]

/-! ## Activation (R461, R462) -/

theorem Dev.rcp_activateRestart (d : Dev) : d.activateRestart.1.rcp = d.rcp := by
  simp only [Dev.activateRestart, Dev.rcp_result, Dev.rcp_writeBoot, Dev.rcp_fwEvent, Dev.rcp_showBoot, Dev.rcp_updTo, Dev.rcp_request,
    apply_ite Dev.rcp, apply_ite Prod.fst, ite_self]

/-! ## Trial, acceptance and fallback (R465 to R468) -/

theorem Dev.rcp_invalidate (d : Dev) : d.invalidate.rcp = d.rcp := by
  simp only [Dev.invalidate, Dev.rcp_setSlot, Dev.rcp_each, apply_ite Dev.rcp, ite_self, implies_true]

theorem Dev.rcp_accept (d : Dev) : d.accept.rcp = d.rcp := by
  simp only [Dev.accept, Dev.rcp_writeBoot, Dev.rcp_setSec, Dev.rcp_setSlot, Dev.rcp_invalidate, Dev.rcp_fwEvent, Dev.rcp_showBoot, Dev.rcp_updTo,
    apply_ite Dev.rcp, ite_self]

theorem Dev.rcp_measureKinds (d : Dev) (l : List Nat) : (d.measureKinds l).rcp = d.rcp := by
  simp only [Dev.measureKinds, Dev.rcp_changeM, Dev.rcp_each, implies_true]

theorem Dev.rcp_fallbackCounts (d : Dev) (slot : Nat) : (d.fallbackCounts slot).rcp = d.rcp := by
  simp only [Dev.fallbackCounts, Dev.rcp_fwEvent, Dev.raise_rcp, Dev.rcp_add]

theorem Dev.rcp_eraseJournal (d : Dev) : d.eraseJournal.rcp = d.rcp := by
  simp only [Dev.eraseJournal, Dev.wr_rcp]

theorem Dev.rcp_reject (d : Dev) : d.reject.rcp = d.rcp := by
  simp only [Dev.reject, Dev.rcp_updTo]

theorem Dev.rcp_recover (d : Dev) : d.recover.rcp = d.rcp := by
  simp only [Dev.recover, Dev.rcp_request]

/-! ## The rows -/

theorem Dev.rcp_setFlt (d : Dev) (f : FltSt → FltSt) : (d.setFlt f).rcp = d.rcp := (rfl)

theorem Dev.rcp_errnFall (d : Dev) : d.errnFall.rcp = d.rcp := by
  simp only [Dev.errnFall, Dev.emit_rcp, Dev.rcp_flag, Dev.rcp_setFlt, apply_ite Dev.rcp, ite_self]

theorem Dev.rcp_errnRise (d : Dev) : d.errnRise.rcp = d.rcp := by
  simp only [Dev.errnRise, Dev.emit_rcp, Dev.rcp_flag, Dev.rcp_setFlt, apply_ite Dev.rcp, ite_self]

/-! ## Reactions (R477 to R481) -/

theorem Dev.rcp_blkrst (d : Dev) (src inst : Nat) : (d.blkrst src inst).rcp = d.rcp := by
  simp only [Dev.blkrst, Dev.raise_rcp, Dev.rcp_setFlt, Dev.rcp_request, apply_ite Dev.rcp, ite_self]

theorem Dev.rcp_safeReact (d : Dev) (src inst : Nat) : (d.safeReact src inst).rcp = d.rcp := by
  simp only [Dev.safeReact, Dev.rcp_setFlt, Dev.rcp_forceScope, Dev.rcp_flag]

theorem Dev.rcp_react (d : Dev) (src inst : Nat) : (d.react src inst).rcp = d.rcp := by
  simp only [Dev.react, Dev.rcp_setFlt, Dev.rcp_safeReact, Dev.rcp_errnFall, Dev.rcp_request, Dev.rcp_blkrst, apply_ite Dev.rcp, ite_self]

theorem Dev.rcp_capture (d : Dev) (src inst : Nat) (injected : Bool) : (d.capture src inst injected).rcp = d.rcp := by
  simp only [Dev.capture, Dev.wr_rcp, Dev.rcp_flag, Dev.rcp_event]

theorem Dev.rcp_firstError (d : Dev) (src inst : Nat) (injected : Bool) : (d.firstError src inst injected).rcp = d.rcp := by
  simp only [Dev.firstError, Dev.rcp_summarySee, Dev.rcp_capture, Dev.rcp_sat, Dev.rcp_flag, Dev.wr_rcp, apply_ite Dev.rcp, ite_self]

theorem Dev.rcp_latch (d : Dev) (src inst : Nat) (lasting injected : Bool) : (d.latch src inst lasting injected).rcp = d.rcp := by
  simp only [Dev.latch, Dev.rcp_sat, Dev.rcp_flag, Dev.wr_rcp, Dev.rcp_setFlt, Dev.rcp_firstError, Dev.rcp_react, apply_ite Dev.rcp, ite_self]

theorem Dev.rcp_endActive (d : Dev) (src inst : Nat) : (d.endActive src inst).rcp = d.rcp := by
  simp only [Dev.endActive, Dev.rcp_setFlt, Dev.rcp_flag, apply_ite Dev.rcp, ite_self]

/-! ## Clearing (R484) and commands (Table 17.7) -/

theorem Dev.rcp_clearSource (d : Dev) (src : Nat) : (d.clearSource src).rcp = d.rcp := by
  simp only [Dev.clearSource, Dev.rcp_flag, Dev.rcp_setFlt, apply_ite Dev.rcp, ite_self]

theorem Dev.rcp_summaryClear (d : Dev) : d.summaryClear.rcp = d.rcp := by
  simp only [Dev.summaryClear, Dev.setEnt_rcp, Dev.rcp_summarySee, apply_ite Dev.rcp, ite_self]

theorem Dev.rcp_faultCmd (d : Dev) (w : Who) (v : Nat) : (d.faultCmd w v).1.rcp = d.rcp := by
  simp only [Dev.faultCmd, Dev.rcp_errnRise, Dev.rcp_clearSource, Dev.setEnt_rcp, Dev.rcp_summaryClear, Dev.rcp_blkrst, Dev.rcp_request,
    Dev.raise_rcp, Dev.rcp_latch, Dev.rcp_each, apply_ite Dev.rcp, apply_ite Prod.fst, ite_self, implies_true]

/-! ## Acceptance -/

theorem Dev.rcp_spend (d : Dev) (c n : Nat) : (d.spend c n).rcp = d.rcp := by
  simp only [Dev.spend, Dev.setFlow_rcp, apply_ite Dev.rcp, ite_self]

theorem Dev.rcp_place (d : Dev) (c : Nat) (p : Pkt) (lost : Nat) : (d.place c p lost).rcp = d.rcp := by
  simp only [Dev.place, Dev.rcp_sat, Dev.wr_rcp, Dev.rcp_spend, Dev.rcp_setNetRx, Dev.rcp_depack, apply_ite Dev.rcp, ite_self]

theorem Dev.rcp_rxAccepted (d : Dev) (c : Nat) : (d.rxAccepted c).rcp = d.rcp := by
  simp only [Dev.rxAccepted, Dev.rcp_setNetRx, Dev.rcp_flag]

theorem Dev.rcp_acceptSingle (d : Dev) (c : Nat) (p : Pkt) (before : Option Nat) : (d.acceptSingle c p before).rcp = d.rcp := by
  simp only [Dev.acceptSingle, Dev.rcp_sat, Dev.rcp_setNetRx, Dev.rcp_rxAccepted, Dev.rcp_place, apply_ite Dev.rcp, ite_self]

/-! ## The ST 2022-7 merge -/

theorem Dev.rcp_skewSample (d : Dev) (c : Nat) (sample : Int) : (d.skewSample c sample).rcp = d.rcp := by
  simp only [Dev.skewSample, Dev.raise_rcp, Dev.rcp_flag, Dev.rcp_setNetRx, Dev.rcp_wrI, apply_ite Dev.rcp, ite_self]

theorem Dev.rcp_lateCopy (d : Dev) (c : Nat) (isA : Bool) (seq now : Nat) : (d.lateCopy c isA seq now).rcp = d.rcp := by
  unfold Dev.lateCopy
  dsimp only
  repeat' split
  all_goals simp only [Dev.rcp_sat, Dev.rcp_setNetRx, Dev.rcp_skewSample]

theorem Dev.rcp_countMissing (d : Dev) (c : Nat) (fromA : Bool) : (d.countMissing c fromA).rcp = d.rcp := by
  simp only [Dev.countMissing, Dev.rcp_sat]

theorem Dev.rcp_acceptMerge (d : Dev) (c : Nat) (isA : Bool) (p : Pkt) : (d.acceptMerge c isA p).rcp = d.rcp := by
  unfold Dev.acceptMerge
  dsimp only
  repeat' split
  all_goals simp only [Dev.rcp_setNetRx, Dev.rcp_lateCopy, Dev.rcp_sat, Dev.rcp_skewSample, Dev.rcp_countMissing, Dev.rcp_rxAccepted]

/-! ## Frames -/

theorem Dev.rcp_toCores (d : Dev) (p i : Nat) (f : NetFrame) : (d.toCores p i f).rcp = d.rcp := by
  simp only [Dev.toCores, Dev.rcp_coreFrame, apply_ite Dev.rcp, ite_self]

theorem Dev.rcp_toContext (d : Dev) (c : Nat) (isA : Bool) (f : NetFrame) : (d.toContext c isA f).rcp = d.rcp := by
  simp only [Dev.toContext, Dev.rcp_sat, Dev.rcp_flag, Dev.rcp_setNetRx, Dev.raise_rcp, Dev.rcp_acceptMerge, Dev.rcp_acceptSingle, apply_ite Dev.rcp,
    ite_self]

/-! ## Packets -/

theorem Dev.rcp_dropRest (d : Dev) (c : Nat) : (d.dropRest c).rcp = d.rcp := by
  unfold Dev.dropRest
  split <;> simp only [Dev.rcp_setNetTx, apply_ite Dev.rcp, ite_self]

theorem Dev.rcp_setHop (d : Dev) (c : Nat) (legB : Bool) (f : Hop → Hop) : (d.setHop c legB f).rcp = d.rcp := by
  simp only [Dev.setHop, Dev.rcp_setNetTx]

theorem Dev.rcp_discardLeg (d : Dev) (c : Nat) (legB : Bool) (p : Nat) : (d.discardLeg c legB p).rcp = d.rcp := by
  simp only [Dev.discardLeg, Dev.rcp_sat, Dev.rcp_flag, apply_ite Dev.rcp, ite_self]

theorem Dev.rcp_sendLeg (d : Dev) (c : Nat) (legB : Bool) (rtp : RtpHead) (head media : Bytes) : (d.sendLeg c legB rtp head media).rcp = d.rcp := by
  unfold Dev.sendLeg
  split <;> simp only [Dev.rcp_setNetTx, Dev.rcp_sat, Dev.emit_rcp, Dev.rcp_flag, Dev.rcp_discardLeg, apply_ite Dev.rcp, ite_self]

theorem Dev.rcp_frameStart (d : Dev) (c ts : Nat) : (d.frameStart c ts).rcp = d.rcp := by
  simp only [Dev.frameStart, Dev.rcp_sat, Dev.rcp_flag, Dev.rcp_setNetTx, apply_ite Dev.rcp, ite_self]

theorem Dev.rcp_sendPacket (d : Dev) (c : Nat) (p : TxPkt) (first : Bool) : (d.sendPacket c p first).rcp = d.rcp := by
  simp only [Dev.sendPacket, Dev.rcp_frameStart, Dev.rcp_sendLeg, Dev.rcp_sat, Dev.rcp_setNetTx, Dev.wr_rcp, apply_ite Dev.rcp, ite_self]

theorem Dev.rcp_silence (d : Dev) (c : Nat) : (d.silence c).rcp = d.rcp := by
  simp only [Dev.silence, Dev.rcp_sendPacket, Dev.rcp_setNetTx, apply_ite Dev.rcp, ite_self]

/-! ## Channels -/

theorem Dev.rcp_setChan (d : Dev) (c : Nat) (f : ChanSt → ChanSt) : (d.setChan c f).rcp = d.rcp := (rfl)

theorem Dev.rcp_chanTo (d : Dev) (c st : Nat) : (d.chanTo c st).rcp = d.rcp := by
  simp only [Dev.chanTo, Dev.wr_rcp]

/-! ## What owners do with lost or missed data (Table 09.7) -/

theorem Dev.rcp_packetsLost (d : Dev) (c n : Nat) : (d.packetsLost c n).rcp = d.rcp := by
  induction n generalizing d with
  | zero => rfl
  | succ n ih =>
    unfold Dev.packetsLost
    split
    · rw [ih, Dev.rcp_sat, Dev.rcp_setNetTx]
    · rfl

theorem Dev.rcp_ownerPoison (d : Dev) (a : Alloc) (l off n : Nat) : (d.ownerPoison a l off n).rcp = d.rcp := by
  simp only [Dev.ownerPoison, Dev.setFlow_rcp, Dev.rcp_setTx, Dev.rcp_substitutes, Dev.rcp_setHoldReady, Dev.rcp_setNetRx, Dev.rcp_packetsLost,
    Dev.rcp_sat, Dev.rcp_delayLost, apply_ite Dev.rcp, ite_self]

theorem Dev.rcp_blockLost (d : Dev) (a : Alloc) (l : Nat) : (d.blockLost a l).rcp = d.rcp := by
  simp only [Dev.blockLost, Dev.rcp_delayLost, Dev.rcp_ownerLost, apply_ite Dev.rcp, ite_self]

/-! ## Training (R265, R266) -/

theorem Dev.rcp_startTraining (d : Dev) (c : Nat) (restore : Bool) : (d.startTraining c restore).rcp = d.rcp := by
  simp only [Dev.startTraining, Dev.rcp_flag, Dev.rcp_setChan, Dev.rcp_sat, Dev.rcp_chanTo]

theorem Dev.rcp_reserveCheck (o d : Dev) : (Dev.reserveCheck o d).rcp = d.rcp := by
  simp only [Dev.reserveCheck, Dev.raise_rcp, apply_ite Dev.rcp, ite_self]

theorem Dev.rcp_retireChan (d : Dev) (c : Nat) : (d.retireChan c).rcp = d.rcp := by
  simp only [Dev.retireChan, Dev.rcp_reserveCheck, Dev.rcp_knotAdd, Dev.rcp_setChan, Dev.wr_rcp, Dev.raiseL_rcp, Dev.rcp_chanTo]

/-! ## Defective rows (R274, R275) -/

theorem Dev.rcp_startCopies (d : Dev) (l : List (Nat × Nat)) (host withdraw : Bool) : (d.startCopies l host withdraw).rcp = d.rcp := by
  simp only [Dev.startCopies, Dev.rcp_setStore, Dev.rcp_spendHost, apply_ite Dev.rcp, ite_self]

theorem Dev.rcp_defectCopies (d : Dev) : d.defectCopies.rcp = d.rcp := by
  simp only [Dev.defectCopies, Dev.rcp_startCopies, Dev.rcp_each, apply_ite Dev.rcp, ite_self, implies_true]

theorem Dev.rcp_rowDefective (d : Dev) (block row cause : Nat) : (d.rowDefective block row cause).rcp = d.rcp := by
  unfold Dev.rowDefective
  dsimp only
  repeat' split
  all_goals simp only [Dev.rcp_setChan, Dev.raise_rcp, Dev.rcp_setStore, Dev.rcp_reserveCheck, Dev.rcp_knotAdd, Dev.rcp_sat, Dev.rcp_startCopies,
    Dev.rcp_regrow]

theorem Dev.rcp_repairRows (d : Dev) (c : Nat) (bad : List Nat) : (d.repairRows c bad).rcp = d.rcp := by
  simp only [Dev.repairRows, Dev.rcp_setChan, Dev.rcp_setStore, Dev.rcp_knotAdd, Dev.rcp_sat, Dev.rcp_each, apply_ite Dev.rcp, ite_self, implies_true]

/-! ## Failure (R269) -/

theorem Dev.rcp_remapChan (d : Dev) (c : Nat) : (d.remapChan c).rcp = d.rcp := by
  simp only [Dev.remapChan, Dev.rcp_putAlloc, Dev.rcp_blockLost, Dev.rcp_fillBlocks, Dev.rcp_shrink, Dev.rcp_each, Dev.rcp_foldl, apply_ite Dev.rcp,
    ite_self, implies_true]

theorem Dev.rcp_dropReqs (d : Dev) (c : Nat) : (d.dropReqs c).rcp = d.rcp := by
  refine (Dev.rcp_foldl _ _ _ fun e r => ?_).trans (Dev.rcp_setStore ..)
  split
  · rfl
  · split
    · exact (Dev.rcp_ownerPoison ..).trans (Dev.emit_rcp ..)
    · rfl

theorem Dev.rcp_chanFailed (d : Dev) (c : Nat) : (d.chanFailed c).rcp = d.rcp := by
  simp only [Dev.chanFailed, Dev.raise_rcp, Dev.rcp_chanTo, Dev.rcp_setChan, Dev.rcp_setStore, Dev.rcp_remapChan, Dev.rcp_dropReqs,
    Dev.rcp_defectCopies, Dev.rcp_retireChan, Dev.rcp_startTraining, apply_ite Dev.rcp, ite_self]

/-! ## CHAN_CMD (R270, R280) -/

theorem Dev.rcp_evacDone (d : Dev) (c : Nat) : (d.evacDone c).rcp = d.rcp := by
  simp only [Dev.evacDone, Dev.rcp_startTraining, Dev.rcp_retireChan, apply_ite Dev.rcp, ite_self]

theorem Dev.rcp_evacCopies (d : Dev) (c : Nat) : (d.evacCopies c).rcp = d.rcp := by
  simp only [Dev.evacCopies, Dev.rcp_startCopies, apply_ite Dev.rcp, ite_self]

theorem Dev.rcp_chanCmd (d : Dev) (v : Nat) : (d.chanCmd v).1.rcp = d.rcp := by
  simp only [Dev.chanCmd, Dev.rcp_startTraining, Dev.rcp_setChan, Dev.rcp_chanTo, Dev.rcp_evacDone, Dev.rcp_evacCopies, apply_ite Dev.rcp,
    apply_ite Prod.fst, ite_self]

/-! ## Relocation (R270) -/

theorem Dev.rcp_relocated (d : Dev) (k : Copying) (a : Alloc) (old : Nat) : (d.relocated k a old).rcp = d.rcp := by
  simp only [Dev.relocated, Dev.rcp_putAlloc, Dev.rcp_setStore, Dev.rcp_sat, Dev.rcp_defectCopies, Dev.rcp_regrow, Dev.rcp_evacDone,
    Dev.rcp_evacCopies, Dev.rcp_each, implies_true]

/-! ## Refresh and self-refresh (R261 to R264) -/

theorem Dev.rcp_refreshIdle (d : Dev) (c : Nat) : (d.refreshIdle c).rcp = d.rcp := by
  simp only [Dev.refreshIdle, Dev.rcp_setChan, apply_ite Dev.rcp, ite_self]

theorem Dev.rcp_refreshSlot (d : Dev) (c : Nat) : (d.refreshSlot c).rcp = d.rcp := by
  simp only [Dev.refreshSlot, Dev.rcp_setChan, Dev.rcp_setStore]

theorem Dev.rcp_srEntry (d : Dev) (dt chan : Nat) (issued : Bool) : (d.srEntry dt chan issued).rcp = d.rcp := by
  simp only [Dev.srEntry, Dev.rcp_live, Dev.rcp_refreshIdle, Dev.rcp_setChan, Dev.wr_rcp, Dev.rcp_sat, Dev.rcp_flag, Dev.rcp_setStore,
    apply_ite Dev.rcp, ite_self, implies_true]

/-! ## Requests (R257 to R260) -/

theorem Dev.rcp_arrive (d : Dev) (c : Nat) (r : StoreReq) : (d.arrive c r).rcp = d.rcp := by
  unfold Dev.arrive
  repeat' split
  all_goals simp only [Dev.rcp_ownerPoison, Dev.emit_rcp, Dev.rcp_setStore]

theorem Dev.rcp_countReq (d : Dev) (r : MemReq) : (d.countReq r).rcp = d.rcp := by
  simp only [Dev.countReq, Dev.wr_rcp, Dev.rcp_sat, apply_ite Dev.rcp, ite_self]

theorem Dev.rcp_noteEcc (d : Dev) (c ecc : Nat) (r : MemReq) (prot : Bool) : (d.noteEcc c ecc r prot).rcp = d.rcp := by
  unfold Dev.noteEcc
  dsimp only
  repeat' split
  all_goals simp only [Dev.rcp_setChan, Dev.rcp_sat, Dev.rcp_setStore, Dev.rcp_rowDefective, Dev.raise_rcp]

theorem Dev.rcp_countStarve (d : Dev) (c port : Nat) (l : List MemReq) : (d.countStarve c port l).rcp = d.rcp := by
  simp only [Dev.countStarve, Dev.rcp_setChan]

theorem Dev.rcp_serveReq (d : Dev) (c ecc : Nat) (r : MemReq) (bytes : List Nat) : (d.serveReq c ecc r bytes).rcp = d.rcp := by
  unfold Dev.serveReq
  split <;> simp only [Dev.rcp_countStarve, Dev.rcp_countReq, Dev.rcp_setStore, Dev.rcp_setChan, Dev.rcp_noteEcc, Dev.rcp_storePut, Dev.emit_rcp,
    Dev.rcp_ownerPoison, apply_ite Dev.rcp, ite_self]

/-! ## Links and spares -/

theorem Dev.rcp_noLegs (d : Dev) : d.noLegs.rcp = d.rcp := by
  simp only [Dev.noLegs, Dev.rcp_flag, Dev.rcp_each, implies_true]

theorem Dev.rcp_portDown (d : Dev) (p : Nat) : (d.portDown p).rcp = d.rcp := by
  simp only [Dev.portDown, Dev.rcp_flag, Dev.wr_rcp, Dev.rcp_fecErrors, Dev.rcp_scanAbort, Dev.rcp_noLegs, Dev.raise_rcp, Dev.rcp_sat, Dev.rcp_each,
    apply_ite Dev.rcp, ite_self, implies_true]

theorem Dev.rcp_portTrains (d : Dev) (lane : Nat) : (d.portTrains lane).rcp = d.rcp := by
  unfold Dev.portTrains
  split <;> simp only [Dev.wr_rcp, Dev.rcp_portDown]

theorem Dev.rcp_remap (d : Dev) (s lane : Nat) (auto : Bool) (cause : Nat) : (d.remap s lane auto cause).rcp = d.rcp := by
  simp only [Dev.remap, Dev.rcp_wake, Dev.rcp_portTrains, Dev.rcp_flag, Dev.wr_rcp, Dev.emit_rcp, Dev.raise_rcp, Dev.rcp_knotAdd, apply_ite Dev.rcp,
    ite_self]

theorem Dev.rcp_unmap (d : Dev) (s : Nat) : (d.unmap s).rcp = d.rcp := by
  simp only [Dev.unmap, Dev.rcp_portTrains, Dev.rcp_flag, Dev.wr_rcp, Dev.emit_rcp, Dev.rcp_knotAdd, apply_ite Dev.rcp, ite_self]

theorem Dev.rcp_autoRemap (d : Dev) (lane : Nat) : (d.autoRemap lane).rcp = d.rcp := by
  simp only [Dev.autoRemap, Dev.wr_rcp, Dev.rcp_flag, Dev.rcp_remap, apply_ite Dev.rcp, ite_self]

/-! ## Memberships (R167 to R169) -/

theorem Dev.rcp_sendReport (d : Dev) (r : Report) : (d.sendReport r).rcp = d.rcp := by
  simp only [Dev.sendReport, Dev.rcp_sat, Dev.emit_rcp, apply_ite Dev.rcp, ite_self]

theorem Dev.rcp_sendRepeated (d : Dev) (r : Report) : (d.sendRepeated r).rcp = d.rcp := by
  simp only [Dev.sendRepeated, Dev.rcp_sendReport, Dev.drawn_rcp]

theorem Dev.rcp_sendAll (d : Dev) (l : List Report) : (d.sendAll l).rcp = d.rcp := by
  induction l generalizing d with
  | nil => rfl
  | cons r t ih => exact (ih _).trans (Dev.rcp_sendRepeated ..)

theorem Dev.rcp_ctrlTx (d : Dev) (v : Bytes) : (d.ctrlTx v).1.rcp = d.rcp := by
  simp only [Dev.ctrlTx, Dev.rcp_sat, Dev.emit_rcp, apply_ite Dev.rcp, apply_ite Prod.fst, ite_self]

theorem Dev.rcp_laneChanged (d : Dev) (l : Nat) : (d.laneChanged l).rcp = d.rcp := by
  unfold Dev.laneChanged
  split <;> simp only [Dev.rcp_freezeIf]

theorem Dev.rcp_undetect (d : Dev) (l : Nat) : (d.undetect l).rcp = d.rcp := by
  simp only [Dev.undetect, Dev.wr_rcp]

theorem Dev.rcp_showSkew (d : Dev) (c : Nat) (arrivals : List Nat) : (d.showSkew c arrivals).rcp = d.rcp := by
  simp only [Dev.showSkew, Dev.rcp_flag, Dev.wr_rcp, Dev.rcp_setRx, Dev.raise_rcp, Dev.rcp_each, apply_ite Dev.rcp, ite_self, implies_true]

/-! ## Transmit -/

theorem Dev.rcp_boundaryKerf (d : Dev) (c : Nat) : (d.boundaryKerf c).rcp = d.rcp := by
  unfold Dev.boundaryKerf
  dsimp only
  repeat' split
  all_goals simp only [Dev.rcp_wrI, Dev.setFlow_rcp, Dev.rcp_dropWhy, Dev.rcp_showUntimed, Dev.rcp_enterSafe, Dev.raise_rcp, Dev.rcp_sat,
    Dev.rcp_each, implies_true]

theorem Dev.rcp_embedFrame (d : Dev) (c : Nat) : (d.embedFrame c).rcp = d.rcp := by
  unfold Dev.embedFrame
  dsimp only
  repeat' split
  all_goals simp only [Dev.rcp_embedStop, Dev.wr_rcp, Dev.rcp_setAudio, Dev.rcp_embedCentre]

theorem Dev.rcp_sdiBoundary (d : Dev) (c at_ : Nat) (show_ : List Nat) : (d.sdiBoundary c at_ show_).rcp = d.rcp := by
  simp only [Dev.sdiBoundary, Dev.setFlow_rcp, Dev.rcp_setTx, Dev.rcp_insertLate, Dev.rcp_insertAgain, Dev.rcp_embedFrame, Dev.rcp_boundaryKerf,
    Dev.rcp_leaveSafe, Dev.rcp_applyDue, Dev.rcp_turnFrame, apply_ite Dev.rcp, ite_self]

/-! ## LANE_CMD (R248, R249, Table 08.5) -/

theorem Dev.rcp_cmdStep (d : Dev) (lane : Nat) : (d.cmdStep lane).1.rcp = d.rcp := by
  simp only [Dev.cmdStep, Dev.rcp_laneBlocks, Dev.rcp_setDl, apply_ite Dev.rcp, apply_ite Prod.fst, ite_self]

theorem Dev.rcp_cmdSwap (d : Dev) (lane : Nat) : (d.cmdSwap lane).1.rcp = d.rcp := by
  unfold Dev.cmdSwap
  dsimp only
  repeat' split
  all_goals simp only [Dev.rcp_swapOut]

theorem Dev.rcp_cmdRetrain (d : Dev) (lane : Nat) : (d.cmdRetrain lane).1.rcp = d.rcp := by
  simp only [Dev.cmdRetrain, Dev.rcp_laneStart, Dev.rcp_sat, Dev.wr_rcp, Dev.rcp_setDl, Dev.rcp_showSpares, apply_ite Dev.rcp, apply_ite Prod.fst,
    ite_self]

theorem Dev.rcp_cmdScan (d : Dev) (target lane : Nat) : (d.cmdScan target lane).1.rcp = d.rcp := by
  simp only [Dev.cmdScan, Dev.wr_rcp, apply_ite Dev.rcp, apply_ite Prod.fst, ite_self]

theorem Dev.rcp_cmdAbort (d : Dev) (lane : Nat) : (d.cmdAbort lane).1.rcp = d.rcp := by
  simp only [Dev.cmdAbort, Dev.rcp_scanAbort, apply_ite Dev.rcp, apply_ite Prod.fst, ite_self]

theorem Dev.rcp_laneCmd (d : Dev) (v : Nat) : (d.laneCmd v).1.rcp = d.rcp := by
  simp only [Dev.laneCmd, Dev.rcp_cmdStep, Dev.rcp_cmdSwap, Dev.rcp_cmdRetrain, Dev.rcp_cmdScan, Dev.rcp_cmdAbort, apply_ite Dev.rcp,
    apply_ite Prod.fst, ite_self]

/-! ## PRBS checkers (R235 to R237) -/

theorem Dev.rcp_setRst (d : Dev) (f : RstSt → RstSt) : (d.setRst f).rcp = d.rcp := (rfl)

/-! ## What a reset clears (Tables 18.1 and 18.2) -/

theorem Dev.rcp_allSafe (d : Dev) : d.allSafe.rcp = d.rcp := by
  simp only [Dev.allSafe, Dev.setFlow_rcp, Dev.rcp_showSafe, Dev.rcp_each, implies_true]

theorem Dev.rcp_debugPor (d : Dev) : d.debugPor.rcp = d.rcp := by
  simp only [Dev.debugPor, Dev.rcp_setSec, Dev.wr_rcp, apply_ite Dev.rcp, ite_self]

/-! ## Assertion -/

theorem Dev.rcp_rstnLow (d : Dev) : d.rstnLow.rcp = d.rcp := by
  simp only [Dev.rstnLow, Dev.rcp_setRst, Dev.emit_rcp, apply_ite Dev.rcp, ite_self]

theorem Dev.rcp_recordCause (d : Dev) (r : Reset) : (d.recordCause r).rcp = d.rcp := by
  simp only [Dev.recordCause, Dev.rcp_flag, Dev.wr_rcp, apply_ite Dev.rcp, ite_self]

theorem Dev.rcp_stopLoad (d : Dev) : d.stopLoad.rcp = d.rcp := by
  simp only [Dev.stopLoad, Dev.rcp_setRst]

theorem Dev.rcp_pinsIdle (d : Dev) (cold : Bool) (keep gpio : List Nat) : (d.pinsIdle cold keep gpio).rcp = d.rcp := by
  simp only [Dev.pinsIdle, Dev.emit_rcp, Dev.rcp_foldl, implies_true]

theorem Dev.rcp_blockDowel (d : Dev) (kind inst : Nat) : (d.blockDowel kind inst).rcp = d.rcp := by
  simp only [Dev.blockDowel, Dev.rcp_laneFail, Dev.rcp_spareFail, Dev.rcp_groupDown, Dev.rcp_showRotation, apply_ite Dev.rcp, ite_self]

/-! ## Sources (R494) -/

theorem Dev.rcp_rstnRequest (d : Dev) (till : Nat) : (d.rstnRequest till).rcp = d.rcp := by
  simp only [Dev.rstnRequest, Dev.rcp_request, Dev.rcp_setRst]

theorem Dev.rcp_resetCmd (d : Dev) (v : Nat) : (d.resetCmd v).1.rcp = d.rcp := by
  simp only [Dev.resetCmd, Dev.rcp_request, apply_ite Dev.rcp, apply_ite Prod.fst, ite_self]

/-! ## Release (R495, R500) -/

theorem Dev.rcp_resumeNarrower (d : Dev) (r : Reset) : (d.resumeNarrower r).rcp = d.rcp := by
  simp only [Dev.resumeNarrower, Dev.rcp_setRst]

theorem Dev.rcp_startLoad (d : Dev) : d.startLoad.rcp = d.rcp := by
  simp only [Dev.startLoad, Dev.rcp_setRst]

theorem Dev.rcp_loadAfter (d : Dev) (r : Reset) : (d.loadAfter r).rcp = d.rcp := by
  simp only [Dev.loadAfter, Dev.rcp_startLoad, apply_ite Dev.rcp, ite_self]

theorem Dev.rcp_debugOpen (d : Dev) : d.debugOpen.rcp = d.rcp := by
  simp only [Dev.debugOpen, Dev.raise_rcp, Dev.rcp_setM, Dev.wr_rcp, apply_ite Dev.rcp, ite_self]

theorem Dev.rcp_takeRows (d : Dev) (reach : Nat → Bool) : (d.takeRows reach).rcp = d.rcp := by
  simp only [Dev.takeRows, Dev.rcp_foldl, implies_true]

theorem Dev.rcp_rstnRelease (d : Dev) : d.rstnRelease.rcp = d.rcp := by
  simp only [Dev.rstnRelease, Dev.rcp_setRst, apply_ite Dev.rcp, ite_self]

theorem Dev.rcp_islandsOn (d : Dev) (l : List Nat) : (d.islandsOn l).rcp = d.rcp := by
  simp only [Dev.islandsOn, Dev.wr_rcp, Dev.rcp_each, implies_true]

theorem Dev.rcp_startUp (d : Dev) (reach src : Nat) : (d.startUp reach src).rcp = d.rcp := by
  simp only [Dev.startUp, Dev.rcp_setRst, Dev.wr_rcp, Dev.rcp_add, Dev.rcp_errnRise, Dev.rcp_islandsOn, Dev.rcp_takeRows, Dev.rcp_debugOpen]

theorem Dev.rcp_sampleStraps (d : Dev) (r : Reset) (l : Levels) : (d.sampleStraps r l).rcp = d.rcp := by
  simp only [Dev.sampleStraps, Dev.wr_rcp, Dev.rcp_flag, apply_ite Dev.rcp, ite_self]

theorem Dev.rcp_followedBy (d : Dev) (r : Reset) : (d.followedBy r).rcp = d.rcp := by
  simp only [Dev.followedBy, Dev.rcp_flag, apply_ite Dev.rcp, ite_self]

theorem Dev.rcp_release (d : Dev) (n : Nat) (r : Reset) (l : Levels) : (d.release n r l).rcp = d.rcp := by
  simp only [Dev.release, Dev.rcp_setRst, Dev.rcp_followedBy, Dev.rcp_resumeNarrower, Dev.rcp_sampleStraps, Dev.rcp_loadAfter, Dev.rcp_setSec,
    Dev.rcp_rstnRelease, Dev.rcp_islandsOn, Dev.rcp_takeRows, Dev.rcp_clearKeys, Dev.rcp_startUp, apply_ite Dev.rcp, ite_self]

/-! ## The end of a BLOCK reset (R493) -/

theorem Dev.rcp_blockStart (d : Dev) (kind inst : Nat) : (d.blockStart kind inst).rcp = d.rcp := by
  unfold Dev.blockStart
  dsimp only
  repeat' split
  all_goals simp only [Dev.rcp_scanAbort, Dev.rcp_flag, Dev.rcp_sdiErrors, Dev.rcp_portDown, Dev.rcp_laneStart, Dev.rcp_groupTrain,
    Dev.rcp_startTraining, Dev.rcp_refCommit, Dev.rcp_setDpll, Dev.rcp_clearKeys]

theorem Dev.rcp_blockEnd (d : Dev) (kind inst : Nat) : (d.blockEnd kind inst).rcp = d.rcp := by
  simp only [Dev.blockEnd, Dev.rcp_islandsOn, Dev.rcp_takeRows, Dev.rcp_clearKeys, Dev.rcp_blockStart, Dev.rcp_flowStop, Dev.rcp_each, implies_true]

/-! ## Tiers (Table 19.6) -/

theorem Dev.rcp_setTier (d : Dev) (t : Nat) (x : Tier) : (d.setTier t x).rcp = d.rcp := by
  simp only [Dev.setTier, apply_ite Dev.rcp, ite_self]

theorem Dev.rcp_setRing (d : Dev) (f : RingSt → RingSt) : (d.setRing f).rcp = d.rcp := (rfl)

theorem Dev.rcp_writeRecord (d : Dev) (t : Nat) (ok : Bool) (build : Nat → Nat → Bool → Nat) : (d.writeRecord t ok build).rcp = d.rcp := by
  simp only [Dev.writeRecord, Dev.rcp_setTier, Dev.raise_rcp, apply_ite Dev.rcp, ite_self]

/-! ## Event records (R536, Table 19.10) -/

theorem Dev.rcp_writeEvent (d : Dev) (ok : Bool) (e : EventRec) : (d.writeEvent ok e).rcp = d.rcp := by
  simp only [Dev.writeEvent, Dev.rcp_writeRecord]

/-! ## What an interval counts (Table 19.8) -/

theorem Dev.rcp_intervalStart (d : Dev) (start flags : Nat) : (d.intervalStart start flags).rcp = d.rcp := by
  simp only [Dev.intervalStart, Dev.rcp_setRing]

theorem Dev.rcp_intervalEnd (d : Dev) (ok : Bool) (kind flags stop : Nat) : (d.intervalEnd ok kind flags stop).rcp = d.rcp := by
  simp only [Dev.intervalEnd, Dev.rcp_linkErrors, Dev.rcp_writeRecord]

theorem Dev.rcp_dailyWrite (d : Dev) (ok : Bool) (m : Nat) : (d.dailyWrite ok m).rcp = d.rcp := by
  unfold Dev.dailyWrite
  dsimp only
  split <;> simp only [Dev.rcp_writeRecord]

theorem Dev.rcp_daily (d : Dev) (ok : Bool) (stop : Nat) : (d.daily ok stop).rcp = d.rcp := by
  simp only [Dev.daily, Dev.rcp_setRing, Dev.rcp_dailyWrite, apply_ite Dev.rcp, ite_self]

theorem Dev.rcp_chainStart (d : Dev) : d.chainStart.rcp = d.rcp := by
  refine Dev.rcp_each _ _ _ fun e t => ?_
  dsimp only
  split
  · rfl
  · exact (Dev.raise_rcp ..).trans (Dev.rcp_setTier ..)

/-! ## Histograms (Table 19.9) -/

theorem Dev.rcp_histAdd (d : Dev) (h b : Nat) : (d.histAdd h b).rcp = d.rcp := by
  simp only [Dev.histAdd, Dev.rcp_setRing]

theorem Dev.rcp_setPwr (d : Dev) (f : PwrSt → PwrSt) : (d.setPwr f).rcp = d.rcp := (rfl)

/-! ## Junction temperature (R559, R560, Table 20.10) -/

theorem Dev.rcp_tempHigh (d : Dev) (t : Int) : (d.tempHigh t).rcp = d.rcp := by
  simp only [Dev.tempHigh, Dev.raiseL_rcp, Dev.rcp_setPwr, Dev.endCond_rcp, apply_ite Dev.rcp, ite_self]

theorem Dev.rcp_tempLow (d : Dev) (t : Int) : (d.tempLow t).rcp = d.rcp := by
  simp only [Dev.tempLow, Dev.raiseL_rcp, Dev.rcp_setPwr, Dev.endCond_rcp, apply_ite Dev.rcp, ite_self]

theorem Dev.rcp_tempCrit (d : Dev) (t : Int) : (d.tempCrit t).rcp = d.rcp := by
  simp only [Dev.tempCrit, Dev.raise_rcp, Dev.rcp_setPwr, apply_ite Dev.rcp, ite_self]

/-! ## Histograms (Table 19.9) -/

theorem Dev.rcp_histSample (d : Dev) : d.histSample.rcp = d.rcp := by
  simp only [Dev.histSample, Dev.rcp_histAdd]

theorem Dev.rcp_histTick (d : Dev) : d.histTick.rcp = d.rcp := by
  simp only [Dev.histTick, Dev.rcp_setRing, Dev.rcp_histSample, apply_ite Dev.rcp, ite_self]

/-! ## AVSBus (R547, R548) -/

theorem Dev.rcp_avsWrite (d : Dev) (mv : Nat) (acks : List Bool) : (d.avsWrite mv acks).rcp = d.rcp := by
  simp only [Dev.avsWrite, Dev.emit_rcp, Dev.rcp_setPwr, Dev.raise_rcp, Dev.rcp_each, apply_ite Dev.rcp, ite_self, implies_true]

/-! ## Exchanges -/

theorem Dev.rcp_openFail (d : Dev) (q : Rcp) (status : Nat) : (d.openFail q status).rcp = d.rcp := by
  simp only [Dev.openFail, Dev.rcp_openSay]

/-! ## SRAM rows (R522) -/

theorem Dev.rcp_rowFails (d : Dev) (macro_ row dom cause : Nat) : (d.rowFails macro_ row dom cause).rcp = d.rcp := by
  simp only [Dev.rowFails, Dev.rcp_knotAdd, Dev.rcp_flag, apply_ite Dev.rcp, ite_self]

/-! ## The copies (R520, R523, R524) -/

theorem Dev.rcp_knotPut (d : Dev) (c : Option (Nat × List Knot)) : (d.knotPut c).rcp = d.rcp := by
  simp only [Dev.knotPut, Dev.rcp_flag, apply_ite Dev.rcp, ite_self]

/-! ## Classes (Tables 19.4 and 19.5) -/

theorem Dev.rcp_islandRest (d : Dev) (i : Nat) (next : Option Nat) : (d.islandRest i next).rcp = d.rcp := by
  simp only [Dev.islandRest, Dev.wr_rcp]

theorem Dev.rcp_islandUp (d : Dev) (i took : Nat) : (d.islandUp i took).rcp = d.rcp := by
  simp only [Dev.islandUp, Dev.rcp_sat, Dev.wr_rcp, Dev.raise_rcp, apply_ite Dev.rcp, ite_self]

theorem Dev.rcp_islandReq (d : Dev) (i v : Nat) : (d.islandReq i v).1.rcp = d.rcp := by
  simp only [Dev.islandReq, Dev.setEnt_rcp, Dev.wr_rcp, apply_ite Dev.rcp, apply_ite Prod.fst, ite_self]

theorem Dev.rcp_islandReqs (d : Dev) (i : Nat) (l : List Nat) : (d.islandReqs i l).1.rcp = d.rcp := by
  induction l generalizing d i with
  | nil => rfl
  | cons v l ih => simp only [Dev.islandReqs, ih, Dev.rcp_islandReq, apply_ite Dev.rcp, apply_ite Prod.fst, ite_self]

theorem Dev.rcp_islandWrite (d : Dev) (offset : Nat) (v : Bytes) : (d.islandWrite offset v).1.rcp = d.rcp := by
  simp only [Dev.islandWrite, Dev.rcp_islandReqs, apply_ite Dev.rcp, apply_ite Prod.fst, ite_self]

/-! ## The power warning (R530) -/

theorem Dev.rcp_warnRecord (d : Dev) (ok : Bool) : (d.warnRecord ok).rcp = d.rcp := by
  simp only [Dev.warnRecord, Dev.rcp_writeEvent, Dev.rcp_intervalEnd, Dev.rcp_intervalStart, apply_ite Dev.rcp, ite_self]

theorem Dev.rcp_take (d : Dev) (w : Who) (seq op v : Nat) : (d.take w seq op v).1.rcp = d.rcp := by
  unfold Dev.take
  dsimp only
  split
  · exact Dev.rcp_sat ..
  · split
    · exact Dev.rcp_sat ..
    case h_2 h =>
      simp only [Dev.rcp_setXp, Dev.rcp_sendMsg, Dev.rcp_acceptTake, Dev.rcp_logTake, Dev.rcp_takeChecks _ h, apply_ite Dev.rcp, apply_ite Prod.fst,
        ite_self]

/-! ## Slot states (Table 03.9) -/

theorem Dev.rcp_slotTo (d : Dev) (s st : Nat) : (d.slotTo s st).rcp = d.rcp := by
  simp only [Dev.slotTo, Dev.wr_rcp]

theorem Dev.rcp_setSalvo (d : Dev) (s : Nat) (f : SalvoSt → SalvoSt) : (d.setSalvo s f).rcp = d.rcp := by
  simp only [Dev.setSalvo, Dev.rcp_setXp]

/-! ## Requests -/

theorem Dev.rcp_writeChanges (d : Dev) (s offset : Nat) (v : Bytes) : (d.writeChanges s offset v).1.rcp = d.rcp := by
  simp only [Dev.writeChanges, Dev.setEnt_rcp, Dev.rcp_slotTo, Dev.wr_rcp, Dev.rcp_each, apply_ite Dev.rcp, apply_ite Prod.fst, ite_self,
    implies_true]

theorem Dev.rcp_writeTakeTime (d : Dev) (s v : Nat) : (d.writeTakeTime s v).1.rcp = d.rcp := by
  simp only [Dev.writeTakeTime, Dev.wr_rcp, apply_ite Dev.rcp, apply_ite Prod.fst, ite_self]

/-! ## Markers and parts -/

theorem Dev.rcp_sendMark (d : Dev) (g block : Nat) : (d.sendMark g block).rcp = d.rcp := by
  unfold Dev.sendMark
  dsimp only
  split <;> simp only [Dev.rcp_groupRun, Dev.rcp_queueSet, Dev.rcp_foldl, implies_true]

theorem Dev.rcp_markTo (d : Dev) (m block : Nat) : (d.markTo m block).rcp = d.rcp := by
  unfold Dev.markTo
  split <;> simp only [Dev.rcp_sendMark]

theorem Dev.rcp_markTwin (d : Dev) (block : Nat) : (d.markTwin block).rcp = d.rcp := by
  simp only [Dev.markTwin, Dev.rcp_sendMark, apply_ite Dev.rcp, ite_self]

theorem Dev.rcp_broadcast (d : Dev) (block : Nat) : (d.broadcast block).rcp = d.rcp := by
  simp only [Dev.broadcast, Dev.rcp_markTo, Dev.rcp_markTwin, Dev.rcp_each, apply_ite Dev.rcp, ite_self, implies_true]

theorem Dev.rcp_repeatMark (d : Dev) (group block : Nat) : (d.repeatMark group block).rcp = d.rcp := by
  simp only [Dev.repeatMark, Dev.rcp_markTwin, Dev.rcp_markTo, Dev.rcp_each, apply_ite Dev.rcp, ite_self, implies_true]

theorem Dev.rcp_partIn (d : Dev) (s epoch time : Nat) (via : Option Nat) (elems : List (Nat × Nat)) :
    (d.partIn s epoch time via elems).rcp = d.rcp := by
  simp only [Dev.partIn, Dev.rcp_setSalvo]

theorem Dev.rcp_partMessageIn (d : Dev) (group : Nat) (b : Bytes) : (d.partMessageIn group b).rcp = d.rcp := by
  unfold Dev.partMessageIn
  dsimp only
  repeat' split
  all_goals simp only [Dev.rcp_sendMsg, Dev.rcp_partIn]

/-! ## Prepare (R90) -/

theorem Dev.rcp_prepareElems (d : Dev) (s epoch time : Nat) (l : List (Nat × Nat)) (done : List (Nat × Pend)) :
    (d.prepareElems s epoch time l done).1.rcp = d.rcp := by
  induction l generalizing d done with
  | nil => rfl
  | cons c t ih =>
    cases hok : d.takeChecks (Change.output c.2) (if Change.disconnect c.2 then none else some (Change.source c.2)) (Change.fsOnTake c.2) time
      (some (s, epoch)) with
    | error st => exact congrArg (fun r => r.1.rcp) (Dev.prepareElems_error t done hok)
    | ok r => rw [Dev.prepareElems_ok t done hok, ih, Dev.rcp_setSalvo, Dev.rcp_takeChecks d (p := r.2) hok]

theorem Dev.rcp_releasePart (d : Dev) (l : List (Nat × Pend)) : (d.releasePart l).rcp = d.rcp := by
  simp only [Dev.releasePart, Dev.rcp_freeTile, Dev.rcp_each, implies_true]

theorem Dev.rcp_preparePart (d : Dev) (s : Nat) : (d.preparePart s).rcp = d.rcp := by
  unfold Dev.preparePart
  split
  · rfl
  case h_2 p _ =>
    have hprep := d.rcp_prepareElems s p.epoch p.time p.elems []
    split
    · exact Dev.rcp_setSalvo ..
    case h_2 h =>
      rw [h] at hprep
      exact (Dev.rcp_setSalvo ..).trans ((Dev.rcp_logTake ..).trans hprep)

/-! ## The decision (R91) -/

theorem Dev.rcp_decideSalvo (d : Dev) (s : Nat) (commit : Bool) (result member index : Nat) :
    (d.decideSalvo s commit result member index).rcp = d.rcp := by
  simp only [Dev.decideSalvo, Dev.rcp_setSalvo]

theorem Dev.rcp_voteIn (d : Dev) (s m card : Nat) (absent : Bool) (status index : Nat) : (d.voteIn s m card absent status index).rcp = d.rcp := by
  simp only [Dev.voteIn, Dev.wr_rcp, Dev.rcp_decideSalvo, Dev.rcp_setSalvo, apply_ite Dev.rcp, ite_self]

theorem Dev.rcp_pendPart (d : Dev) (s : Nat) (doubt : Bool) : (d.pendPart s doubt).rcp = d.rcp := by
  unfold Dev.pendPart
  split <;> simp only [Dev.rcp_setXp, Dev.rcp_showPend, Dev.rcp_each, implies_true]

theorem Dev.rcp_dropPart (d : Dev) (s : Nat) : (d.dropPart s).rcp = d.rcp := by
  unfold Dev.dropPart
  split <;> simp only [Dev.rcp_setXp, Dev.rcp_showPend, Dev.rcp_dropWhy, Dev.rcp_flag, Dev.rcp_setSalvo, Dev.rcp_releasePart, Dev.rcp_report,
    Dev.rcp_flowUse, Dev.rcp_each, implies_true]

theorem Dev.rcp_partPaths (d : Dev) (s : Nat) : (d.partPaths s).rcp = d.rcp := by
  unfold Dev.partPaths
  split <;> simp only [Dev.rcp_flowUse, Dev.rcp_each, implies_true]

theorem Dev.rcp_commitPart (d : Dev) (s : Nat) : (d.commitPart s).rcp = d.rcp := by
  unfold Dev.commitPart
  split <;> simp only [Dev.rcp_slotTo, Dev.rcp_logTake, Dev.rcp_report, Dev.rcp_partPaths, Dev.rcp_pendPart]

theorem Dev.rcp_abortPart (d : Dev) (s : Nat) : (d.abortPart s).rcp = d.rcp := by
  unfold Dev.abortPart
  split <;> simp only [Dev.rcp_logTake, Dev.rcp_slotTo, Dev.rcp_dropPart, Dev.rcp_sat, apply_ite Dev.rcp, ite_self]

/-! ## ARM, ABORT, CLEAR, COMMIT -/

theorem Dev.rcp_slotResult (d : Dev) (s result : Nat) : (d.slotResult s result).rcp = d.rcp := by
  simp only [Dev.slotResult, Dev.wr_rcp]

theorem Dev.rcp_arm (d : Dev) (s : Nat) : (d.arm s).1.rcp = d.rcp := by
  unfold Dev.arm
  extract_lets st lead epoch time d1 d2 d3 d4 d5 v d6
  have h2 : d2.rcp = d.rcp := by
    simp only [d2, d1, Dev.rcp_setSalvo, Dev.rcp_slotTo, Dev.wr_rcp]
  have h3 : d3.rcp = d2.rcp := Dev.rcp_each _ _ _ fun e m => by
    split
    · exact Dev.rcp_sendMsg ..
    · rfl
  clear_value d3
  simp only [d6, d5, d4, h3, h2, Dev.rcp_setSalvo, Dev.rcp_preparePart, Dev.rcp_partIn, Dev.rcp_broadcast, Dev.rcp_sendMsg, Dev.rcp_each,
    apply_ite Dev.rcp, apply_ite Prod.fst, ite_self, implies_true]

theorem Dev.rcp_abortCmd (d : Dev) (s : Nat) (w : Who) (seq op : Nat) : (d.abortCmd s w seq op).1.rcp = d.rcp := by
  unfold Dev.abortCmd
  dsimp only
  repeat' split
  all_goals simp only [Dev.rcp_slotResult, Dev.rcp_abortPart, Dev.rcp_setSalvo, Dev.rcp_decideSalvo]

theorem Dev.rcp_clearSlot (d : Dev) (s : Nat) : (d.clearSlot s).1.rcp = d.rcp := by
  simp only [Dev.clearSlot, Dev.setEnt_rcp, Dev.rcp_slotTo, Dev.wr_rcp, Dev.rcp_each, apply_ite Dev.rcp, apply_ite Prod.fst, ite_self, implies_true]

theorem Dev.rcp_commitCmd (d : Dev) (s : Nat) : (d.commitCmd s).1.rcp = d.rcp := by
  simp only [Dev.commitCmd, Dev.rcp_slotResult, Dev.rcp_commitPart, apply_ite Dev.rcp, apply_ite Prod.fst, ite_self]

theorem Dev.rcp_salvoControl (d : Dev) (s v : Nat) (w : Who) (seq op : Nat) : (d.salvoControl s v w seq op).1.rcp = d.rcp := by
  simp only [Dev.salvoControl, Dev.rcp_arm, Dev.rcp_abortCmd, Dev.rcp_clearSlot, Dev.rcp_commitCmd, apply_ite Dev.rcp, apply_ite Prod.fst, ite_self]

/-! ## Participants -/

theorem Dev.rcp_heardMark (d : Dev) (group block : Nat) : (d.heardMark group block).rcp = d.rcp := by
  simp only [Dev.heardMark, Dev.rcp_sat, Dev.rcp_setXp, apply_ite Dev.rcp, ite_self]

theorem Dev.rcp_sendQuery (d : Dev) (s : Nat) : (d.sendQuery s).rcp = d.rcp := by
  simp only [Dev.sendQuery, Dev.rcp_setSalvo, Dev.rcp_markTwin, Dev.rcp_markTo, apply_ite Dev.rcp, ite_self]

theorem Dev.rcp_setTime (d : Dev) (f : TimeSt → TimeSt) : (d.setTime f).rcp = d.rcp := (rfl)

theorem Dev.rcp_servoTo (d : Dev) (st : Nat) : (d.servoTo st).rcp = d.rcp := by
  simp only [Dev.servoTo, Dev.rcp_timeRef, Dev.rcp_setTime, Dev.wr_rcp]

theorem Dev.rcp_acquire (d : Dev) : d.acquire.rcp = d.rcp := by
  simp only [Dev.acquire, Dev.rcp_setTime, Dev.rcp_servoTo]

theorem Dev.rcp_askChange (d : Dev) (step : Bool) (v : Int) (owes : Option (Nat × Nat × Nat)) : (d.askChange step v owes).rcp = d.rcp := by
  unfold Dev.askChange
  split <;> simp only [Dev.rcp_setTime]

theorem Dev.rcp_servoRate (d : Dev) : d.servoRate.rcp = d.rcp := by
  simp only [Dev.servoRate, Dev.drawn_rcp, Dev.rcp_askChange]

theorem Dev.rcp_servoHold (d : Dev) : d.servoHold.rcp = d.rcp := by
  simp only [Dev.servoHold, Dev.rcp_setTime, Dev.rcp_servoTo, Dev.raise_rcp, apply_ite Dev.rcp, ite_self]

/-! ## Changeovers -/

theorem Dev.rcp_setRate (d : Dev) (r : Int) : (d.setRate r).rcp = d.rcp := by
  simp only [Dev.setRate, Dev.rcp_wrI, Dev.wr_rcp]

theorem Dev.rcp_stepMerge (d : Dev) (c : Nat) (cur : Bool) (m : Merge) (fwd : Bool) : (d.stepMerge c cur m fwd).rcp = d.rcp := by
  simp only [Dev.stepMerge, Dev.rcp_sat, Dev.rcp_putMerge, Dev.drawn_rcp, apply_ite Dev.rcp, ite_self]

theorem Dev.rcp_stepTime (d : Dev) (v : Int) : (d.stepTime v).rcp = d.rcp := by
  have hset : ∀ (e : Dev) l, Dev.rcp { e with ref := l } = e.rcp := fun _ _ => rfl
  generalize h : d.stepTime v = e
  unfold Dev.stepTime at h
  extract_lets before d1 src d2 d3 d4 d5 d6 now at h
  have h3 : d3.rcp = d.rcp := by
    simp only [d3, d2, d1, Dev.rcp_event, Dev.raise_rcp, Dev.rcp_add, Dev.wr_rcp]
  have h4 : d4.rcp = d3.rcp := Dev.rcp_each _ _ _ fun x c => by
    extract_lets y
    have hy : y.rcp = x.rcp := by
      unfold y
      split
      · exact Dev.rcp_stepMerge ..
      · rfl
    clear_value y
    split
    · exact (Dev.rcp_stepMerge ..).trans hy
    · exact hy
  have h6 : d6.rcp = d5.rcp := Dev.rcp_each _ _ _ fun x k => Dev.ite_eq Dev.rcp rfl (Dev.rcp_setDpll ..)
  subst h
  rw [Dev.rcp_setTime, Dev.rcp_audioStep, h6, hset, h4, h3]

theorem Dev.rcp_servoCmd (d : Dev) (session op v : Nat) : (d.servoCmd session op v).1.rcp = d.rcp := by
  simp only [Dev.servoCmd, Dev.rcp_askChange, apply_ite Dev.rcp, apply_ite Prod.fst, ite_self]

theorem Dev.rcp_servoMode (d : Dev) : d.servoMode.rcp = d.rcp := by
  simp only [Dev.servoMode, Dev.rcp_servoTo, apply_ite Dev.rcp, ite_self]

/-! ## Time outputs (R383, R384) -/

theorem Dev.rcp_pulseCommit (d : Dev) (o : Nat) : (d.pulseCommit o).rcp = d.rcp := by
  simp only [Dev.pulseCommit, Dev.emit_rcp, Dev.rcp_setTime, apply_ite Dev.rcp, ite_self]

theorem Dev.rcp_dropSet (d : Dev) (g : Nat) : (d.dropSet g).rcp = d.rcp := by
  simp only [Dev.dropSet, Dev.rcp_sat]

theorem Dev.rcp_heardTwin (d : Dev) (g : Nat) : (d.heardTwin g).rcp = d.rcp := by
  simp only [Dev.heardTwin, apply_ite Dev.rcp, ite_self]

/-! ## Items and replay (R199, R200, R202, R206 to R209) -/

theorem Dev.rcp_deliver (d : Dev) (g n : Nat) : (d.deliver g n).rcp = d.rcp := by
  induction n generalizing d with
  | zero => rfl
  | succ n ih =>
    unfold Dev.deliver
    dsimp only
    split
    · rw [ih]
      split <;> simp only [Dev.rcp_setDg, Dev.rcp_sat, Dev.emit_rcp, apply_ite Dev.rcp, ite_self]
    · simp only [ih, Dev.rcp_setDg, apply_ite Dev.rcp, ite_self]

theorem Dev.rcp_askReplay (d : Dev) (e : Nat) : (d.askReplay e).rcp = d.rcp := by
  simp only [Dev.askReplay, Dev.rcp_sat, Dev.rcp_sendRequest, Dev.rcp_setDl, Dev.rcp_laneFail, apply_ite Dev.rcp, ite_self]

theorem Dev.rcp_takeRank (d : Dev) (e count : Nat) : (d.takeRank e count).rcp = d.rcp := by
  unfold Dev.takeRank
  split <;> simp only [Dev.rcp_setDl, apply_ite Dev.rcp, ite_self]

theorem Dev.rcp_afterReplay (d : Dev) (e : Nat) : (d.afterReplay e).rcp = d.rcp := by
  unfold Dev.afterReplay
  dsimp only
  repeat' split
  all_goals simp only [Dev.rcp_setDl, Dev.rcp_swapOut]

/-! ## Management frames (R201) -/

theorem Dev.rcp_roleTold (d : Dev) (p : Bytes) : (d.roleTold p).rcp = d.rcp := by
  simp only [Dev.roleTold, Dev.wr_rcp, apply_ite Dev.rcp, ite_self]

theorem Dev.rcp_message (d : Dev) (g cls id : Nat) (p : Bytes) : (d.message g cls id p).rcp = d.rcp := by
  simp only [Dev.message, Dev.emit_rcp, Dev.rcp_partMessageIn, Dev.rcp_planIn, Dev.rcp_roleTold, apply_ite Dev.rcp, ite_self]

/-! ## Bring-up (R210 to R216) -/

theorem Dev.rcp_miswired (d : Dev) (g : Nat) : (d.miswired g).rcp = d.rcp := by
  simp only [Dev.miswired, Dev.rcp_groupDown, Dev.rcp_showRotation, Dev.rcp_laneStart, Dev.rcp_groupState, Dev.raise_rcp, Dev.rcp_each,
    apply_ite Dev.rcp, ite_self, implies_true]

/-! ## The address chain (R217 to R219) -/

theorem Dev.rcp_headChain (d : Dev) : d.headChain.rcp = d.rcp := by
  simp only [Dev.headChain, Dev.rcp_setDwl, Dev.rcp_ensUpdate, Dev.rcp_groupsCheck, Dev.wr_rcp, apply_ite Dev.rcp, ite_self]

theorem Dev.rcp_takePosition (d : Dev) (v : Nat × Nat × Nat × Nat) : (d.takePosition v).rcp = d.rcp := by
  simp only [Dev.takePosition, Dev.rcp_setDwl, Dev.wr_rcp, Dev.rcp_ensUpdate, Dev.rcp_groupsCheck, Dev.raise_rcp, apply_ite Dev.rcp, ite_self]

/-! ## Time beacons (R226 to R228) -/

theorem Dev.rcp_ptpOut (d : Dev) (iface : Nat) (m : PtpOut) : (d.ptpOut iface m).rcp = d.rcp := by
  unfold Dev.ptpOut
  dsimp only
  split <;> simp only [Dev.rcp_sat, Dev.emit_rcp, apply_ite Dev.rcp, ite_self]

theorem Dev.rcp_ptpSend (d : Dev) (iface dst kind domain seq : Nat) (corr : Int) : (d.ptpSend iface dst kind domain seq corr).rcp = d.rcp := by
  simp only [Dev.ptpSend, Dev.rcp_ptpOut]

/-! ## The leader (R376) -/

theorem Dev.rcp_showLeader (d : Dev) (l : Leader) : (d.showLeader l).rcp = d.rcp := by
  simp only [Dev.showLeader, Dev.rcp_flag, Dev.wr_rcp, Dev.rcp_setTime]

theorem Dev.rcp_selectLeader (d : Dev) : d.selectLeader.rcp = d.rcp := by
  unfold Dev.selectLeader
  split <;> simp only [Dev.rcp_setTime, Dev.rcp_flag, Dev.wr_rcp, Dev.rcp_servoHold, Dev.raise_rcp, Dev.rcp_sat, Dev.rcp_showLeader,
    apply_ite Dev.rcp, ite_self]

theorem Dev.rcp_ptpCommit (d : Dev) : d.ptpCommit.rcp = d.rcp := by
  simp only [Dev.ptpCommit, Dev.rcp_setTime, Dev.rcp_selectLeader, Dev.wr_rcp, apply_ite Dev.rcp, ite_self]

/-! ## Exchanges (R377, R380) -/

theorem Dev.rcp_ptpSample (d : Dev) (iface : Nat) (t3 t4 : Int) (link : Option Int) : (d.ptpSample iface t3 t4 link).rcp = d.rcp := by
  unfold Dev.ptpSample
  split <;> simp only [Dev.rcp_sat, Dev.wr_rcp, Dev.rcp_setTime]

theorem Dev.rcp_linkDelay (d : Dev) (iface : Nat) (t3 t4 l : Int) : (d.linkDelay iface t3 t4 l).rcp = d.rcp := by
  simp only [Dev.linkDelay, Dev.rcp_sat, Dev.wr_rcp, Dev.rcp_setTime, Dev.rcp_ptpSample, apply_ite Dev.rcp, ite_self]

/-! ## The transparent clock (R381, R382) -/

theorem Dev.rcp_tileCmd (d : Dev) (v : ℕ) : (Dev.tileCmd d v).1.rcp = d.rcp := by
  refine Dev.rcp_of_view fun φ hφ => ?_
  unfold Dev.tileCmd
  dsimp only
  repeat' split
  all_goals simp only [hφ, Dev.wr_rcp, Dev.rcp_tileTakeSpare]

theorem Dev.rcp_readAnc (d : Dev) (t : Nat) (b : Bool) (f : Nat) (again black : Bool) : (d.readAnc t b f again black).rcp = d.rcp := by
  simp only [Dev.readAnc, Dev.rcp_setFs]

theorem Dev.rcp_setTwin (d : Dev) (f : TwinSt → TwinSt) : (d.setTwin f).rcp = d.rcp := (rfl)

theorem Dev.rcp_twinTo (d : Dev) (st : Nat) : (d.twinTo st).rcp = d.rcp := by
  simp only [Dev.twinTo, Dev.rcp_setTwin, Dev.wr_rcp, Dev.rcp_setNetTx, Dev.rcp_flag, Dev.rcp_each, apply_ite Dev.rcp, ite_self, implies_true]

theorem Dev.rcp_twinCommit (d : Dev) : d.twinCommit.rcp = d.rcp := by
  simp only [Dev.twinCommit, Dev.rcp_twinTo, apply_ite Dev.rcp, ite_self]

/-! ## Pairing (R118 to R120) -/

theorem Dev.rcp_sendPairing (d : Dev) : d.sendPairing.rcp = d.rcp := by
  simp only [Dev.sendPairing, Dev.rcp_twinTo, Dev.rcp_setTwin, Dev.rcp_sendMsg]

/-! ## Reconciliation and the state copy (R121, R122) -/

theorem Dev.rcp_reconcileOne (d : Dev) (n e : Nat) : (d.reconcileOne n e).rcp = d.rcp := by
  unfold Dev.reconcileOne
  dsimp only
  split
  · rfl
  · split
    · exact Dev.raise_rcp ..
    case h_2 h => simp only [Dev.rcp_sat, Dev.rcp_acceptTake, Dev.rcp_logTake, Dev.rcp_takeChecks _ h]

theorem Dev.rcp_takeCopy (d : Dev) (stats : List (Nat × Nat × Nat × Nat)) (x : TwinCopy) : (d.takeCopy stats x).rcp = d.rcp := by
  unfold Dev.takeCopy
  extract_lets d1 d2
  have h1 : d1.rcp = d.rcp := Dev.rcp_foldl _ _ _ fun e y => by
    split
    · exact Dev.ite_eq Dev.rcp (Dev.setEnt_rcp ..) rfl
    · rfl
  have h2 : d2.rcp = d1.rcp := Dev.rcp_foldl _ _ _ fun _ _ => Dev.rcp_setNetTx ..
  exact h2.trans h1

theorem Dev.rcp_twinCmd (d : Dev) (_v : Nat) : (d.twinCmd _v).1.rcp = d.rcp := by
  simp only [Dev.twinCmd, Dev.rcp_sendMsg, Dev.wr_rcp, apply_ite Dev.rcp, apply_ite Prod.fst, ite_self]

/-! ## Signatures and anchors (R123, R124) -/

theorem Dev.rcp_sendAnchor (d : Dev) (c : Nat) : (d.sendAnchor c).rcp = d.rcp := by
  simp only [Dev.sendAnchor, Dev.rcp_sendMsg]

theorem Dev.rcp_stageEnd (d : Dev) (next : Nat) : (d.stageEnd next).rcp = d.rcp := by
  simp only [Dev.stageEnd, Dev.wr_rcp]

/-! ## ROM: slot selection (R470) -/

theorem Dev.rcp_markInvalid (d : Dev) (k : Nat) : (d.markInvalid k).rcp = d.rcp := by
  simp only [Dev.markInvalid, Dev.raise_rcp, Dev.rcp_setSlot, apply_ite Dev.rcp, ite_self]

theorem Dev.rcp_runSlot (d : Dev) (k : Nat) : (d.runSlot k).rcp = d.rcp := by
  simp only [Dev.runSlot, Dev.rcp_setSec]

theorem Dev.rcp_fallbackBoot (d : Dev) (trial : Nat) : (d.fallbackBoot trial).rcp = d.rcp := by
  simp only [Dev.fallbackBoot, Dev.rcp_writeBoot, Dev.rcp_setSlot, Dev.rcp_fallbackCounts, Dev.rcp_eraseJournal]

theorem Dev.rcp_firstGood (d : Dev) (l : List Nat) : (d.firstGood l).1.rcp = d.rcp := by
  induction l generalizing d with
  | nil => rfl
  | cons k t ih => simp only [Dev.firstGood, ih, Dev.rcp_markInvalid, apply_ite Dev.rcp, apply_ite Prod.fst, ite_self]

theorem Dev.rcp_selectSlot (d : Dev) : d.selectSlot.1.rcp = d.rcp := by
  unfold Dev.selectSlot
  dsimp only
  repeat' split
  all_goals simp only [Dev.rcp_setSec, Dev.rcp_runSlot, Dev.rcp_compact, Dev.rcp_writeBoot, Dev.rcp_setSlot, Dev.rcp_markInvalid,
    Dev.rcp_fallbackBoot, Dev.rcp_firstGood]

theorem Dev.rcp_controllersDone (d : Dev) (failed : List Nat) : (d.controllersDone failed).rcp = d.rcp := by
  simp only [Dev.controllersDone, Dev.raise_rcp, Dev.rcp_setM, Dev.rcp_stageEnd, Dev.rcp_each, implies_true]

/-! ## SETTINGS -/

theorem Dev.rcp_knotLoad (d : Dev) : d.knotLoad.rcp = d.rcp := by
  unfold Dev.knotLoad
  dsimp only
  split <;> simp only [Dev.raise_rcp, Dev.rcp_flag, Dev.setEnt_rcp, Dev.rcp_each, apply_ite Dev.rcp, ite_self, implies_true]

theorem Dev.rcp_netIdSettle (d : Dev) : d.netIdSettle.rcp = d.rcp := by
  unfold Dev.netIdSettle
  split <;> simp only [Dev.rcp_writeNetId, Dev.raise_rcp, apply_ite Dev.rcp, ite_self]

/-! ## Entering RESOURCES -/

theorem Dev.rcp_knotSpares (d : Dev) : d.knotSpares.rcp = d.rcp := by
  simp only [Dev.knotSpares, Dev.rcp_flag, Dev.wr_rcp, Dev.emit_rcp, Dev.rcp_each, apply_ite Dev.rcp, ite_self, implies_true]

theorem Dev.rcp_enterResources (d : Dev) : d.enterResources.rcp = d.rcp := by
  simp only [Dev.enterResources, Dev.rcp_knotSpares, Dev.raiseL_rcp, Dev.rcp_chanTo, Dev.rcp_setChan, Dev.wr_rcp, Dev.rcp_stageEnd,
    Dev.rcp_groupsCheck, Dev.rcp_headChain, Dev.rcp_each, apply_ite Dev.rcp, ite_self, implies_true]

/-! ## Entering SERVICE -/

theorem Dev.rcp_tilesStart (d : Dev) (failed : List Nat) : (d.tilesStart failed).rcp = d.rcp := by
  simp only [Dev.tilesStart, Dev.rcp_flag, Dev.wr_rcp, Dev.rcp_tileGone, Dev.rcp_each, apply_ite Dev.rcp, ite_self, implies_true]

theorem Dev.rcp_enginesStart (d : Dev) (failed : List Nat) : (d.enginesStart failed).rcp = d.rcp := by
  simp only [Dev.enginesStart, Dev.rcp_flag, Dev.rcp_each, apply_ite Dev.rcp, ite_self, implies_true]

theorem Dev.rcp_planesStart (d : Dev) (failed : List Nat) (slices : List (Nat × Nat)) : (d.planesStart failed slices).rcp = d.rcp := by
  simp only [Dev.planesStart, Dev.rcp_planeSlice, Dev.rcp_flag, Dev.rcp_planeFailed, Dev.rcp_bothIn, Dev.rcp_loadPlane, Dev.rcp_planeTo,
    Dev.raise_rcp, apply_ite Dev.rcp, ite_self]

theorem Dev.rcp_veneersStart (d : Dev) : d.veneersStart.rcp = d.rcp := by
  simp only [Dev.veneersStart, Dev.rcp_setStore, Dev.raise_rcp, Dev.rcp_flag, Dev.rcp_each, implies_true]

/-! ## The crosspoint (R98, R93) -/

theorem Dev.rcp_restoreChange (d : Dev) (e time : Nat) (slot : Option (Nat × Nat)) (back : Bool) :
    (d.restoreChange e time slot back).rcp = d.rcp := by
  unfold Dev.restoreChange
  dsimp only
  split <;> simp only [Dev.rcp_setXp, Dev.rcp_showPend, Dev.rcp_flowUse]

theorem Dev.rcp_slotStart (d : Dev) (s : Nat) : (d.slotStart s).rcp = d.rcp := by
  unfold Dev.slotStart
  dsimp only
  split <;> simp only [Dev.rcp_setSalvo, Dev.wr_rcp]

theorem Dev.rcp_doubtStart (d : Dev) (r : TRec) : (d.doubtStart r).rcp = d.rcp := by
  simp only [Dev.doubtStart, Dev.rcp_setSalvo, Dev.rcp_logTake, Dev.rcp_restoreChange, Dev.rcp_setXp, Dev.rcp_slotTo, Dev.wr_rcp, Dev.rcp_pendPart,
    Dev.rcp_holdDoubt, Dev.rcp_each, Dev.rcp_foldl, apply_ite Dev.rcp, ite_self, implies_true]

theorem Dev.rcp_crosspointStart (d : Dev) : d.crosspointStart.rcp = d.rcp := by
  unfold Dev.crosspointStart
  extract_lets x d1 d2 d3
  have h1 : d1.rcp = d.rcp := Dev.rcp_foldl _ _ _ fun e y => Dev.ite_eq Dev.rcp (Dev.rcp_restoreChange ..) (Dev.rcp_setXp ..)
  have h2 : d2.rcp = d1.rcp := Dev.rcp_foldl _ _ _ fun e p => by
    dsimp only
    split
    · exact (Dev.rcp_slotTo ..).trans ((Dev.wr_rcp ..).trans (Dev.rcp_restoreChange ..))
    · exact Dev.rcp_restoreChange ..
  have h3 : d3.rcp = d2.rcp := Dev.rcp_each _ _ _ fun _ _ => Dev.rcp_slotStart ..
  exact (Dev.rcp_foldl _ _ _ fun _ _ => Dev.rcp_doubtStart ..).trans (h3.trans (h2.trans h1))

theorem Dev.rcp_trialStart (d : Dev) : d.trialStart.rcp = d.rcp := by
  simp only [Dev.trialStart, Dev.rcp_setSec, Dev.rcp_updTo, apply_ite Dev.rcp, ite_self]

theorem Dev.rcp_enterService (d : Dev) (tiles engines planes : List Nat) (slices : List (Nat × Nat)) :
    (d.enterService tiles engines planes slices).rcp = d.rcp := by
  simp only [Dev.enterService, Dev.rcp_planesStart, Dev.rcp_enginesStart, Dev.rcp_tilesStart, Dev.rcp_veneersStart, Dev.rcp_rebuildStore,
    Dev.rcp_setRst, Dev.rcp_stageEnd, Dev.rcp_allSafe, Dev.rcp_audioStart, Dev.rcp_ptpCommit, Dev.rcp_refCommit, Dev.rcp_sapCommit,
    Dev.rcp_pulseCommit, Dev.rcp_flowCommit, Dev.rcp_trialStart, Dev.rcp_crosspointStart, Dev.rcp_each, implies_true]

/-! ## Reading an entry -/

theorem Dev.rcp_prbsSettle (d : Dev) : d.prbsSettle.rcp = d.rcp := by
  simp only [Dev.prbsSettle, Dev.rcp_sat, Dev.rcp_drawnN, Dev.rcp_foldl, implies_true]

theorem Dev.rcp_fetch (d : Dev) (r : Dict.Row) (ix : Nat) : (d.fetch r ix).1.rcp = d.rcp := by
  simp only [Dev.fetch, Dev.rcp_prbsSettle, Dev.rcp_linkErrors, Dev.rcp_lanesOut, Dev.rcp_clearKeys, apply_ite Dev.rcp, apply_ite Prod.fst, ite_self]

theorem Dev.rcp_readBody (d : Dev) (role ix sub : Nat) : (d.readBody role ix sub).1.rcp = d.rcp := by
  unfold Dev.readBody
  dsimp only
  repeat' split
  all_goals simp only [Dev.rcp_fetch]

/-! ## Transfers (R413) -/

theorem Dev.rcp_intervalTurn (d : Dev) (ok dailyOk : Bool) (kind flags stop start : Nat) :
    (d.intervalTurn ok dailyOk kind flags stop start).rcp = d.rcp := by
  simp only [Dev.intervalTurn, Dev.rcp_intervalStart, Dev.rcp_daily, Dev.rcp_intervalEnd]

theorem Dev.rcp_ringCmd (d : Dev) (v : Nat) : (d.ringCmd v).1.rcp = d.rcp := by
  simp only [Dev.ringCmd, Dev.rcp_setRing, Dev.wr_rcp, Dev.setEnt_rcp, apply_ite Dev.rcp, apply_ite Prod.fst, ite_self]

theorem Dev.rcp_verified (d : Dev) (t : Nat) : (d.verified t).rcp = d.rcp := by
  simp only [Dev.verified, Dev.wr_rcp, Dev.rcp_setRing]

/-! ## RW entries -/

theorem Dev.rcp_hostListWrite (d : Dev) (offset : Nat) (v : Bytes) : (d.hostListWrite offset v).1.rcp = d.rcp := by
  simp only [Dev.hostListWrite, Dev.rcp_setStore, Dev.rcp_regrow, Dev.rcp_evacCopies, Dev.rcp_each, apply_ite Dev.rcp, apply_ite Prod.fst, ite_self,
    implies_true]

theorem Dev.rcp_putAll (d : Dev) (l : Store) : (d.putAll l).rcp = d.rcp := by
  simp only [Dev.putAll, Dev.setEnt_rcp, Dev.rcp_foldl, implies_true]

/-! ## The values -/

theorem Dev.rcp_withValues (o : Dev) (items : Store) : (o.withValues items).rcp = o.rcp := by
  simp only [Dev.withValues, Dev.rcp_placeLines, Dev.rcp_putAll]

theorem Dev.rcp_withCharges (o d : Dev) (ctxs : List Nat) : (Dev.withCharges o d ctxs).rcp = d.rcp := by
  refine Dev.rcp_each _ _ _ fun e c => ?_
  simp only [Dev.rcp_reroute, Dev.rcp_showRelay, Dev.wr_rcp, apply_ite Dev.rcp, ite_self]

/-! ## Flows (R59, R60, R72, R481) -/

theorem Dev.rcp_commitFlows (o d : Dev) (ctxs : List Nat) : (Dev.commitFlows o d ctxs).rcp = d.rcp := by
  simp only [Dev.commitFlows, Dev.rcp_flowCommit, Dev.rcp_matchSweep, Dev.rcp_freezeIf, Dev.rcp_safeNow, Dev.rcp_settle, Dev.rcp_holdDelays,
    Dev.rcp_each, implies_true]

theorem Dev.rcp_commitOrigins (o d : Dev) (ctxs : List Nat) : (Dev.commitOrigins o d ctxs).rcp = d.rcp := by
  simp only [Dev.commitOrigins, Dev.rcp_showDest, Dev.rcp_announce, Dev.rcp_adoptPeer, Dev.rcp_report, Dev.rcp_flowUse, Dev.rcp_each,
    apply_ite Dev.rcp, ite_self, implies_true]

/-! ## Time and references -/

theorem Dev.rcp_commitTime (d : Dev) (keys : List Key) : (d.commitTime keys).rcp = d.rcp := by
  simp only [Dev.commitTime, Dev.rcp_refCommit, Dev.rcp_ptpCommit, Dev.rcp_pulseCommit, Dev.rcp_each, apply_ite Dev.rcp, ite_self, implies_true]

/-! ## Pictures and audio -/

theorem Dev.rcp_commitPictures (o d : Dev) (keys : List Key) : (Dev.commitPictures o d keys).rcp = d.rcp := by
  simp only [Dev.commitPictures, Dev.rcp_layerCommit, Dev.rcp_headCommit, Dev.rcp_flipsLeft, Dev.rcp_flag, Dev.rcp_setPool, Dev.rcp_each,
    apply_ite Dev.rcp, ite_self, implies_true]

theorem Dev.rcp_commitAudio (d : Dev) (keys : List Key) : (d.commitAudio keys).rcp = d.rcp := by
  simp only [Dev.commitAudio, Dev.rcp_sapCommit, Dev.rcp_deembedStop, Dev.rcp_commitFade, Dev.rcp_gainCommit, Dev.rcp_each, implies_true]

/-! ## Ports and lanes -/

theorem Dev.rcp_commitPorts (o d : Dev) (keys : List Key) : (Dev.commitPorts o d keys).rcp = d.rcp := by
  simp only [Dev.commitPorts, Dev.setEnt_rcp, Dev.rcp_portDown, Dev.wr_rcp, Dev.rcp_each, apply_ite Dev.rcp, ite_self, implies_true]

theorem Dev.rcp_commitSpares (o d : Dev) (keys : List Key) : (Dev.commitSpares o d keys).rcp = d.rcp := by
  simp only [Dev.commitSpares, Dev.emit_rcp, Dev.setEnt_rcp, Dev.rcp_unmap, Dev.rcp_remap, Dev.rcp_each, apply_ite Dev.rcp, ite_self, implies_true]

theorem Dev.rcp_commitLanes (o d : Dev) (keys : List Key) : (Dev.commitLanes o d keys).rcp = d.rcp := by
  simp only [Dev.commitLanes, Dev.rcp_prbsSettle, Dev.rcp_flag, Dev.rcp_scanAbort, Dev.rcp_each, apply_ite Dev.rcp, ite_self, implies_true]

/-! ## The ensemble, the twin, the records -/

theorem Dev.rcp_commitEnsemble (d : Dev) (keys : List Key) : (d.commitEnsemble keys).rcp = d.rcp := by
  simp only [Dev.commitEnsemble, Dev.rcp_sharePolicy, Dev.rcp_repairPlanes, Dev.rcp_groupsCheck, Dev.rcp_twinCommit, Dev.rcp_each, apply_ite Dev.rcp,
    ite_self, implies_true]

/-! ## MODE changes (R33, R428) -/

theorem Dev.rcp_reportAll (d : Dev) : d.reportAll.rcp = d.rcp := by
  simp only [Dev.reportAll, Dev.rcp_sendAll, Dev.rcp_each, implies_true]

theorem Dev.rcp_modeEffect (d : Dev) (ix v : Nat) : (d.modeEffect ix v).rcp = d.rcp := by
  simp only [Dev.modeEffect, Dev.setEnt_rcp, Dev.rcp_lanesOut, Dev.rcp_servoMode, Dev.rcp_reselectAll, Dev.rcp_reportAll, Dev.rcp_adoptPeer,
    Dev.rcp_flag, Dev.rcp_each, apply_ite Dev.rcp, ite_self, implies_true]

/-! ## The management ports (R429, R430) -/

theorem Dev.rcp_showTest (d : Dev) (b : Bool) : (d.showTest b).rcp = d.rcp := by
  simp only [Dev.showTest, Dev.rcp_flag]

end Sys2Proof.Machine
end

section
/-! How many sessions are open and how many exchanges are OPEN (R417, R446) after each operation that does touch the state of RCP: as many as before, or
fewer; only an accepted response adds a session. -/

namespace Sys2Proof.Machine
open Sys2Proof

/-- The number of open sessions and the number of OPEN exchanges. -/
def RcpSt.seats (r : RcpSt) : Nat × Nat := (r.sessions.length, r.opens.length)

theorem State.sessionsOk_iff (s : State) : s.sessionsOk ↔ s.dev.rcp.seats ≤ (16, 4) := Iff.rfl

theorem Dev.seats_ite {p : Prop} [Decidable p] {a b : Dev} {x : Nat × Nat} (ha : a.rcp.seats ≤ x) (hb : b.rcp.seats ≤ x) :
    (if p then a else b).rcp.seats ≤ x := by
  split
  · exact ha
  · exact hb

theorem Dev.seats_le_of_rcp {a b : Dev} (h : a.rcp = b.rcp) : a.rcp.seats ≤ b.rcp.seats := le_of_eq (congrArg RcpSt.seats h)

theorem Dev.seats_each (f : Dev → Nat → Dev) (hf : ∀ d n, (f d n).rcp.seats ≤ d.rcp.seats) (l : List Nat) (d : Dev) :
    (d.each l f).rcp.seats ≤ d.rcp.seats := by
  unfold Dev.each
  induction l generalizing d with
  | nil => exact le_rfl
  | cons x l ih => exact (ih _).trans (hf d x)

/-! ## Sessions, requests and answers -/

theorem Dev.seats_setSession (d : Dev) (id : Nat) (f : Session → Session) : (d.setSession id f).rcp.seats = d.rcp.seats := by
  simp only [Dev.setSession, RcpSt.seats, List.length_map]

theorem Dev.seats_dropGroup (d : Dev) : d.dropGroup.rcp.seats = d.rcp.seats := (rfl)

theorem Dev.seats_anonCount (d : Dev) (via : Nat) : (d.anonCount via).rcp.seats = d.rcp.seats := (rfl)

theorem Dev.seats_closeSession (d : Dev) (id : Nat) : (d.closeSession id).rcp.seats ≤ d.rcp.seats := by
  unfold Dev.closeSession
  extract_lets d1 d2
  have h1 : d1.rcp.seats = d.rcp.seats := by
    unfold d1
    split
    · simp only [Dev.seats_dropGroup, apply_ite Dev.rcp, apply_ite RcpSt.seats, ite_self]
    · rfl
  have h2 : d2.rcp.seats = d1.rcp.seats := by simp only [d2, Dev.rcp_updateDrop, apply_ite Dev.rcp, ite_self]
  rw [← h1, ← h2]
  exact ⟨List.length_filter_le .., le_rfl⟩

theorem Dev.seats_confirmMg (d : Dev) : d.confirmMg.rcp.seats = d.rcp.seats := by
  unfold Dev.confirmMg
  split
  · simp only [Dev.rcp_flag, RcpSt.seats]
  · rfl

theorem Dev.seats_heard (d : Dev) (q : Rcp) : (d.heard q).rcp.seats = d.rcp.seats := by
  simp only [Dev.heard, Dev.seats_confirmMg, Dev.rcp_mgAccept, Dev.seats_setSession, apply_ite Dev.rcp, apply_ite RcpSt.seats, ite_self]

theorem Dev.seats_answerLate (d : Dev) (session seq op status : Nat) : (d.answerLate session seq op status).rcp.seats = d.rcp.seats := by
  unfold Dev.answerLate
  split
  · rfl
  · rw [Dev.rcp_sendOn, Dev.seats_setSession]

theorem Dev.seats_answer (d : Dev) (q : Rcp) (r : Reply) : (d.answer q r).rcp.seats = d.rcp.seats := by
  simp only [Dev.answer, Dev.rcp_sendOn, Dev.seats_setSession, apply_ite Dev.rcp, apply_ite RcpSt.seats, ite_self]

section
variable {body : Who → Dev → Dev × Reply} (hbody : ∀ w e, (body w e).1.rcp.seats ≤ e.rcp.seats)
include hbody

theorem Dev.seats_sequenced (d : Dev) (me : Instr) (q : Rcp) (early : Bool) (ix : Option Nat) (x : Session) :
    (d.sequenced me q early ix x body).rcp.seats ≤ d.rcp.seats := by
  unfold Dev.sequenced
  extract_lets n r
  split
  · split
    · rw [Dev.seats_answer]
    · refine Dev.seats_ite (Dev.seats_le_of_rcp (Dev.rcp_postpone ..)) ?_
      rw [Dev.seats_answer]
      exact hbody ..
  · split
    · exact Dev.seats_ite le_rfl (Dev.seats_setSession ..).le
    · split
      · split
        · exact Dev.seats_le_of_rcp ((Dev.rcp_sat ..).trans (Dev.rcp_sendOn ..))
        · exact le_rfl
      · exact le_rfl

theorem seats_serve (me : Instr) (q : Rcp) (anon early : Bool) (ix : Option Nat) (d : Dev) :
    (serve me q anon early ix body d).rcp.seats ≤ d.rcp.seats := by
  have hrx : ∀ e : Dev, ((e.elapse q.dt).mgRx q.via).rcp = e.rcp := fun e => (Dev.rcp_mgRx ..).trans (Dev.elapse_rcp ..)
  have hanon : ∀ e : Dev, ((e.anonCount q.via).mgAccept q.via).rcp.seats = e.rcp.seats := fun e => by rw [Dev.rcp_mgAccept, Dev.seats_anonCount]
  unfold serve
  extract_lets s s1 s2 r
  have hs : s.rcp.seats ≤ d.rcp.seats := Dev.seats_le_of_rcp (Dev.elapse_rcp ..)
  have hs1 : s1.rcp.seats ≤ d.rcp.seats := Dev.seats_le_of_rcp (hrx d)
  have hdrop : s1.dropFrame.rcp.seats ≤ d.rcp.seats := (Dev.seats_le_of_rcp (Dev.rcp_dropFrame _)).trans hs1
  have hs2 : s2.rcp.seats ≤ d.rcp.seats := (hanon s1).le.trans hs1
  have hr : r.1.rcp.seats ≤ d.rcp.seats := by
    unfold r
    split
    · exact hs2
    · exact (hbody ..).trans hs2
  refine Dev.seats_ite hs (Dev.seats_ite hs1 (Dev.seats_ite hdrop (Dev.seats_ite (Dev.seats_ite (Dev.seats_ite ?_ ?_) hdrop) ?_)))
  · exact (Dev.seats_le_of_rcp (Dev.rcp_postpone ..)).trans hs1
  · exact (Dev.seats_le_of_rcp (Dev.rcp_sendOn ..)).trans hr
  · split
    · exact hdrop
    · refine Dev.seats_ite ((Dev.seats_le_of_rcp (Dev.rcp_sat ..)).trans hdrop) ?_
      exact (Dev.seats_sequenced hbody ..).trans ((Dev.seats_heard ..).le.trans hs1)

end

theorem seats_serveWrite {act : Who → Dev → Dev × Nat} (hact : ∀ w e, (act w e).1.rcp.seats ≤ e.rcp.seats) (me : Instr) (q : Rcp) (ix sub : Nat)
    (v : Bytes) (d : Dev) : (serveWrite me q ix sub v act d).rcp.seats ≤ d.rcp.seats :=
  seats_serve (fun w e => by
    dsimp only
    split
    · exact le_rfl
    · exact hact w e) ..

theorem seats_serveDom {act : Who → Dev → Dev × Nat} (hact : ∀ w e, (act w e).1.rcp.seats ≤ e.rcp.seats) (me : Instr) (q : Rcp) (ix sub offset : Nat)
    (v : Bytes) (d : Dev) : (serveDom me q ix sub offset v act d).rcp.seats ≤ d.rcp.seats :=
  seats_serve (fun w e => by
    dsimp only
    split
    · exact le_rfl
    · exact hact w e) ..

/-! ## Security and firmware -/

theorem Dev.seats_ownerChange (d : Dev) (w : Who) (v : Nat) : (d.ownerChange w v).rcp.seats ≤ d.rcp.seats := by
  unfold Dev.ownerChange
  extract_lets f kind policy pub d1 d2 d3 d4 d5 ids d6
  have h2 : d2.rcp = d1.rcp := by
    unfold d2
    split
    · exact Dev.rcp_showOwner ..
    · rfl
  have h5 : d5.rcp = d.rcp := by
    simp only [d5, d4, d3, Dev.rcp_changeM, h2, d1, Dev.rcp_writeOwner]
  exact (Dev.seats_closeSession ..).trans ((Dev.seats_each _ (fun _ _ => Dev.seats_closeSession ..) _ _).trans (Dev.seats_le_of_rcp h5))

theorem Dev.seats_ownerCmd (d : Dev) (w : Who) (v : Bytes) : (d.ownerCmd w v).1.rcp.seats ≤ d.rcp.seats := by
  simp only [Dev.ownerCmd, apply_ite Prod.fst]
  refine Dev.seats_ite le_rfl (Dev.seats_ite (Dev.seats_le_of_rcp (Dev.rcp_newNonce _)) (Dev.seats_ite le_rfl ?_))
  rw [Dev.rcp_newNonce]
  exact Dev.seats_ownerChange ..

theorem Dev.seats_nextStep (d : Dev) : d.nextStep.rcp.seats ≤ d.rcp.seats := by
  unfold Dev.nextStep
  split
  · simp only [Dev.rcp_updTo, Dev.rcp_setSec, Dev.rcp_setSlot, le_refl]
  · extract_lets d1 old d2
    have h2 : d2.rcp.seats ≤ d1.rcp.seats := Dev.seats_ite ⟨le_rfl, Nat.zero_le _⟩ le_rfl
    refine le_trans (Dev.seats_le_of_rcp (Dev.rcp_each _ _ _ fun _ _ => Dev.rcp_request ..)) (h2.trans ?_)
    exact Dev.seats_le_of_rcp (Dev.rcp_setSec ..)

theorem Dev.seats_activateInService (d : Dev) : d.activateInService.1.rcp.seats ≤ d.rcp.seats := by
  unfold Dev.activateInService
  split
  · exact le_rfl
  · extract_lets st k d1 d2 d3 d4
    split
    · exact Dev.seats_le_of_rcp (Dev.rcp_result ..)
    · rw [Dev.rcp_result]
      refine (Dev.seats_nextStep _).trans (Dev.seats_le_of_rcp ?_)
      simp only [d4, d3, d2, d1, Dev.rcp_fwEvent, Dev.rcp_setSec, Dev.rcp_showBoot, Dev.rcp_updTo, Dev.rcp_writeBoot, Dev.rcp_newSettings, Dev.rcp_compact]

theorem Dev.seats_modesBack (o d : Dev) : (Dev.modesBack o d).rcp.seats = d.rcp.seats := by
  unfold Dev.modesBack
  extract_lets l old d1
  have h1 : d1.rcp.seats = d.rcp.seats := rfl
  rw [Dev.rcp_each _ _ d1 fun _ _ => Dev.setEnt_rcp .., h1]

theorem Dev.seats_fallbackLive (d : Dev) : d.fallbackLive.rcp.seats = d.rcp.seats := by
  simp only [Dev.fallbackLive, Dev.rcp_fallbackCounts, Dev.rcp_showBoot, Dev.rcp_updTo, Dev.seats_modesBack, Dev.rcp_loadSettings, Dev.rcp_writeBoot,
    Dev.rcp_setSlot, Dev.rcp_eraseJournal, Dev.rcp_measureKinds, Dev.rcp_setSec]

theorem Dev.seats_updateCmd (d : Dev) (w : Who) (v : Nat) : (d.updateCmd w v).1.rcp.seats ≤ d.rcp.seats := by
  unfold Dev.updateCmd
  extract_lets cmd d1
  split
  · exact le_rfl
  · split
    · exact le_rfl
    · have h1 : d1.rcp = d.rcp := Dev.rcp_holderHeard ..
      rw [← h1]
      simp only [apply_ite Prod.fst]
      refine Dev.seats_ite (Dev.seats_le_of_rcp (Dev.rcp_updateBegin ..)) (Dev.seats_ite (Dev.seats_le_of_rcp (Dev.rcp_updateEnd ..))
        (Dev.seats_ite (Dev.seats_le_of_rcp (Dev.rcp_updateAbort ..)) (Dev.seats_ite (Dev.seats_activateInService _)
        (Dev.seats_ite (Dev.seats_le_of_rcp (Dev.rcp_activateRestart ..)) (Dev.seats_ite (Dev.seats_ite ?_ le_rfl)
        (Dev.seats_ite (Dev.seats_ite ?_ le_rfl) ?_))))))
      · exact Dev.seats_le_of_rcp (Dev.rcp_accept ..)
      · exact Dev.seats_le_of_rcp (Dev.rcp_reject ..)
      · exact Dev.seats_le_of_rcp (Dev.rcp_recover ..)

end Sys2Proof.Machine
end

section
/-! The sessions and exchanges through transfers, writes, commit groups and subscriptions, through the management ports and through resets. -/

namespace Sys2Proof.Machine
open Sys2Proof

/-! ## Transfers and writes -/

theorem Dev.seats_setXfer (d : Dev) (id : Nat) (t : Option Transfer) (dead : Bool) : (d.setXfer id t dead).rcp.seats = d.rcp.seats := by
  unfold Dev.setXfer
  split
  · rfl
  · exact Dev.seats_setSession ..

theorem Dev.seats_goOn (d : Dev) {id ix sub offset : Nat} {write : Bool} {r : Dev × Nat} (h : d.goOn id write ix sub offset = .error r) :
    r.1.rcp.seats = d.rcp.seats := by
  unfold Dev.goOn at h
  dsimp only at h
  repeat' split at h
  all_goals cases h
  all_goals simp only [Dev.seats_setXfer]

theorem Dev.seats_readSegment (d : Dev) (id : Nat) (t : Transfer) (offset length : Nat) : (d.readSegment id t offset length).1.rcp.seats = d.rcp.seats :=
  Dev.seats_setXfer ..

theorem Dev.seats_readDomBody (d : Dev) (w : Who) (ix sub flags offset length : Nat) :
    (d.readDomBody w ix sub flags offset length).1.rcp.seats = d.rcp.seats := by
  unfold Dev.readDomBody
  extract_lets d1
  split
  · rfl
  split
  · rfl
  split
  · split
    case h_1 h => exact Dev.seats_goOn _ h
    · exact Dev.seats_readSegment ..
  · have h1 : d1.rcp.seats = d.rcp.seats := Dev.seats_setXfer ..
    rw [← h1]
    split
    · rfl
    · split
      · rfl
      · split
        · rfl
        split
        · rfl
        · rw [Dev.seats_readSegment, Dev.rcp_fetch]

theorem Dev.seats_abortGroup (d : Dev) : d.abortGroup.rcp.seats = d.rcp.seats := by
  unfold Dev.abortGroup
  split
  · rw [Dev.seats_setSession, Dev.seats_dropGroup]
  · rfl

theorem Dev.seats_writeOnly (d : Dev) (w : Who) (q : Rcp) (ix sub : Nat) (v : Bytes) : (d.writeOnly w q ix sub v).1.rcp.seats ≤ d.rcp.seats := by
  unfold Dev.writeOnly
  simp only [apply_ite Prod.fst]
  have h {a : Dev} (h : a.rcp = d.rcp) : a.rcp.seats ≤ d.rcp.seats := Dev.seats_le_of_rcp h
  refine Dev.seats_ite (Dev.seats_abortGroup _).le (Dev.seats_ite (Dev.seats_ite (Dev.seats_ownerCmd ..) (Dev.seats_ite (h (Dev.rcp_makeQuote ..))
    (h (Dev.rcp_debugCmd ..)))) (Dev.seats_ite (Dev.seats_ite (Dev.seats_updateCmd ..) (h (Dev.rcp_manifestIn ..)))
    (Dev.seats_ite (h (Dev.rcp_imageIn ..)) (Dev.seats_ite (h (Dev.rcp_faultCmd ..)) (Dev.seats_ite (h (Dev.rcp_resetCmd ..))
    (Dev.seats_ite (h (Dev.rcp_servoCmd ..)) (Dev.seats_ite (h (Dev.rcp_dpllCmd ..)) (Dev.seats_ite (h (Dev.rcp_laneCmd ..))
    (Dev.seats_ite (h (Dev.rcp_ctrlTx ..)) (Dev.seats_ite (h (Dev.rcp_take ..)) (Dev.seats_ite (h (Dev.rcp_salvoControl ..))
    (Dev.seats_ite (h (Dev.rcp_planeCmd ..)) (Dev.seats_ite (h (Dev.rcp_twinCmd ..)) (Dev.seats_ite (h (Dev.rcp_chanCmd ..))
    (Dev.seats_ite (h (Dev.rcp_tileCmd ..)) (Dev.seats_ite (h (Dev.rcp_veneerCmd ..)) (Dev.seats_ite (h (Dev.rcp_veneerWrite ..))
    (Dev.seats_ite (h (Dev.rcp_ringCmd ..)) (h (Dev.rcp_busCmd ..))))))))))))))))))))

theorem Dev.seats_modeWrite (d : Dev) (ix v : Nat) : (d.modeWrite ix v).1.rcp.seats = d.rcp.seats := by
  unfold Dev.modeWrite
  extract_lets k rest d1
  have h1 : d1.rcp = d.rcp := Dev.rcp_journalSingle ..
  split
  · rfl
  · exact (rfl : _ = d1.rcp.seats).trans (congrArg RcpSt.seats h1)

theorem Dev.seats_writeNow (d : Dev) (r : Dict.Row) (ix offset : Nat) (v : Bytes) : (d.writeNow r ix offset v).1.rcp.seats = d.rcp.seats := by
  simp only [Dev.writeNow, Dev.seats_modeWrite, Dev.rcp_islandWrite, Dev.rcp_writeChanges, Dev.rcp_writeTakeTime, Dev.rcp_hostListWrite, rcp_kept,
    Dev.rcp_lutWrite, Dev.rcp_tallyWrite, Dev.rcp_putAll, apply_ite Prod.fst, apply_ite Dev.rcp, apply_ite RcpSt.seats, ite_self]

theorem Dev.seats_stageAll (d : Dev) (w : Who) (l : Store) : (d.stageAll w l).1.rcp.seats = d.rcp.seats := by
  unfold Dev.stageAll
  extract_lets staged old d1
  split
  · rfl
  · split
    · rfl
    · split
      · rfl
      · exact (Dev.seats_setSession ..).trans rfl

theorem Dev.seats_writeEntry (d : Dev) (w : Who) (q : Rcp) (ix sub offset : Nat) (v : Bytes) :
    (d.writeEntry w q ix sub offset v).1.rcp.seats ≤ d.rcp.seats := by
  unfold Dev.writeEntry
  split
  · exact le_rfl
  · simp only [apply_ite Prod.fst]
    exact Dev.seats_ite (Dev.seats_stageAll ..).le (Dev.seats_ite (Dev.seats_writeOnly ..) (Dev.seats_writeNow ..).le)

theorem Dev.seats_writeWhole (d : Dev) (w : Who) (q : Rcp) (t : Transfer) : (d.writeWhole w q t).1.rcp.seats ≤ d.rcp.seats := by
  unfold Dev.writeWhole
  dsimp only
  split
  · exact le_rfl
  · exact Dev.seats_writeEntry ..

theorem Dev.seats_writeDomBody (d : Dev) (w : Who) (q : Rcp) (ix sub flags offset : Nat) (v : Bytes) :
    (d.writeDomBody w q ix sub flags offset v).1.rcp.seats ≤ d.rcp.seats := by
  unfold Dev.writeDomBody
  extract_lets first d1 got
  have h1 : d1.rcp.seats = d.rcp.seats := by
    simp only [d1, Dev.seats_setXfer, apply_ite Dev.rcp, apply_ite RcpSt.seats, ite_self]
  have hgot {r : Dev × Nat} (h : got = .error r) : r.1.rcp.seats = d1.rcp.seats := by
    unfold got at h
    split at h
    · split at h
      · cases h; rfl
      · cases h
    · exact Dev.seats_goOn _ h
  split
  · exact le_rfl
  split
  · exact le_rfl
  · rw [← h1]
    clear_value got
    cases got with
    | error r => exact (hgot rfl).le
    | ok t =>
      simp only [apply_ite Prod.fst]
      refine Dev.seats_ite le_rfl (Dev.seats_ite ?_ (Dev.seats_setXfer ..).le)
      exact (Dev.seats_writeWhole ..).trans (Dev.seats_setXfer ..).le

/-! ## Commit groups and subscriptions -/

theorem Dev.seats_commitRecords (o d : Dev) (keys : List Key) : (Dev.commitRecords o d keys).rcp.seats = d.rcp.seats := by
  unfold Dev.commitRecords
  extract_lets d1 old d2
  have h1 : d1.rcp = d.rcp := by simp only [d1, Dev.rcp_writeNetId, apply_ite Dev.rcp, ite_self]
  have h2 : d2.rcp.seats = d1.rcp.seats := by
    unfold d2
    split <;> rfl
  simp only [Dev.rcp_policyCommit, apply_ite Dev.rcp, ite_self, h2, h1]

theorem Dev.seats_commitGroup (d : Dev) {staged : Store} {e : Dev} (h : d.commitGroup staged = .ok e) : e.rcp.seats = d.rcp.seats := by
  unfold Dev.commitGroup at h
  extract_lets items keys d1 ctxs d2 d3 d4 d5 d6 d7 d8 d9 d10 d11 d12 d13 at h
  split at h
  · cases h
  split at h
  · cases h
  · obtain rfl := Except.ok.inj h
    rw [Dev.seats_commitRecords]
    simp only [d13, d12, d11, d10, d9, d8, d7, d6, d5, d4, d3, d2, d1, Dev.rcp_commitEnsemble, Dev.rcp_commitLanes, Dev.rcp_commitSpares,
      Dev.rcp_commitPorts, Dev.rcp_commitAudio, Dev.rcp_commitPictures, Dev.rcp_commitTime, Dev.rcp_commitOrigins, Dev.rcp_commitFlows, Dev.rcp_wake,
      Dev.rcp_journalGroup, Dev.rcp_withCharges, Dev.rcp_withValues]

theorem Dev.seats_noGroup (d : Dev) (id : Nat) : (d.noGroup id).1.rcp.seats = d.rcp.seats := Dev.seats_setSession ..

theorem Dev.seats_commitBody (d : Dev) (id : Nat) : (d.commitBody id).1.rcp.seats = d.rcp.seats := by
  unfold Dev.commitBody
  split
  · exact Dev.seats_noGroup ..
  · split
    · exact Dev.seats_noGroup ..
    split
    · rfl
    split
    · rfl
    · split
      · exact Dev.seats_dropGroup _
      case h_2 h => exact (Dev.seats_setSession ..).trans ((Dev.seats_dropGroup _).trans (Dev.seats_commitGroup _ h))

theorem Dev.seats_subscribe (d : Dev) (w : Who) (first last minMs : Nat) : (d.subscribe w first last minMs).1.rcp.seats = d.rcp.seats := by
  unfold Dev.subscribe
  split
  · rfl
  · simp only [Dev.seats_setSession, apply_ite Prod.fst, apply_ite Dev.rcp, apply_ite RcpSt.seats, ite_self]

theorem Dev.seats_setSub (d : Dev) (session id : Nat) (f : Sub → Sub) : (d.setSub session id f).rcp.seats = d.rcp.seats := Dev.seats_setSession ..

theorem Dev.seats_noteChanges (d : Dev) (x : Session) (b : Sub) : (d.noteChanges x b).rcp.seats = d.rcp.seats := by
  unfold Dev.noteChanges
  extract_lets now new t d1 d2
  have h1 : d1.rcp.seats = d.rcp.seats := Dev.seats_setSub ..
  have h2 : d2.rcp.seats = d1.rcp.seats := by
    unfold d2
    split
    · split
      · rfl
      · rw [Dev.rcp_sat, Dev.seats_setSession, Dev.seats_setSub]
    · rfl
  split
  · rfl
  · rw [Dev.seats_setSession, h2, h1]

theorem Dev.seats_noteLeaves (d : Dev) (x : Session) (b : Sub) : (d.noteLeaves x b).rcp.seats = d.rcp.seats := by
  unfold Dev.noteLeaves
  split
  · rfl
  · simp only [Dev.rcp_sendOn, Dev.seats_setSession, Dev.seats_setSub, apply_ite Dev.rcp, apply_ite RcpSt.seats, ite_self]

/-! ## Management ports and takes -/

theorem Dev.seats_mgDown (d : Dev) (p : Nat) : (d.mgDown p).rcp.seats = d.rcp.seats := by
  unfold Dev.mgDown
  extract_lets d1 d2 old
  have h2 : d2.rcp = d.rcp := by simp only [d2, d1, Dev.rcp_flag, Dev.wr_rcp, Dev.rcp_mgErrors]
  have hset : ∀ (e : Dev) l, ({ e with rcp := { e.rcp with tries := l } } : Dev).rcp.seats = e.rcp.seats := fun _ _ => rfl
  exact (hset d2 _).trans (congrArg RcpSt.seats h2)

theorem Dev.seats_useMg (d : Dev) (m : MgNet) : (d.useMg m).rcp.seats = d.rcp.seats := by
  unfold Dev.useMg
  extract_lets old was d1
  exact (Dev.each_eq (fun e => e.rcp.seats) (fun _ _ => Dev.seats_mgDown ..) d1 _).trans rfl

theorem Dev.seats_endAsk (d : Dev) (a : TakeAsk) : (d.endAsk a).rcp.seats = d.rcp.seats := by
  simp only [Dev.endAsk, Dev.seats_answerLate, Dev.rcp_acceptTake, Dev.rcp_setXp]

end Sys2Proof.Machine
end

section
/-! The sessions and exchanges through resets and start-up, which drop them, and through OPEN, which alone adds to them. -/

namespace Sys2Proof.Machine
open Sys2Proof

/-! ## Resets and start-up -/

theorem Dev.seats_wiped (d : Dev) (reach : Nat) : (d.wiped reach).rcp.seats ≤ d.rcp.seats := ⟨Nat.zero_le _, Nat.zero_le _⟩

theorem Dev.seats_dropOpens (d : Dev) : ({ d with rcp := { d.rcp with opens := [] } } : Dev).rcp.seats ≤ d.rcp.seats := ⟨le_rfl, Nat.zero_le _⟩

theorem Dev.seats_assertReset (d : Dev) (r : Reset) : (d.assertReset r).rcp.seats ≤ d.rcp.seats := by
  unfold Dev.assertReset
  refine Dev.seats_ite le_rfl ?_
  extract_lets keep gpio d1 d2 d3 d4 d5 d6 d7 old d8 d9 d10 d11 d12
  have h1 : d1.rcp = d.rcp := by simp only [d1, Dev.rcp_updateDrop, apply_ite Dev.rcp, ite_self]
  have h2 : d2.rcp.seats ≤ d1.rcp.seats := Dev.seats_ite (Dev.seats_wiped ..) le_rfl
  have h5 : d5.rcp = d2.rcp := by
    simp only [d5, d4, d3, Dev.rcp_setRst, Dev.wr_rcp, Dev.rcp_recordCause, Dev.rcp_stopLoad, Dev.rcp_sat, apply_ite Dev.rcp, ite_self]
  have h7 : d7.rcp = d5.rcp := by
    simp only [d7, d6, Dev.rcp_errnFall, Dev.rcp_debugPor, Dev.rcp_allSafe, Dev.rcp_pinsIdle, Dev.rcp_setRst, apply_ite Dev.rcp, ite_self]
  have h8 : d8.rcp.seats ≤ d7.rcp.seats := Dev.seats_ite (Dev.seats_dropOpens d7) le_rfl
  have h12 : d12.rcp = d8.rcp := by
    simp only [d12, d11, d10, d9, Dev.rcp_blockDowel, Dev.rcp_busIsolate, Dev.rcp_blockPlane, Dev.rcp_busDrop, apply_ite Dev.rcp, ite_self]
  have hall : d12.rcp.seats ≤ d.rcp.seats := by
    rw [h12]
    rw [h7, h5] at h8
    rw [h1] at h2
    exact h8.trans h2
  exact Dev.seats_ite ((Dev.seats_le_of_rcp (Dev.rcp_rstnLow _)).trans hall) hall

theorem Dev.seats_porNow (d : Dev) (src till : Nat) : (d.porNow src till).rcp.seats ≤ d.rcp.seats := Dev.seats_assertReset ..

theorem Dev.seats_tempTrip (d : Dev) (t : Int) : (d.tempTrip t).rcp.seats ≤ d.rcp.seats := by
  unfold Dev.tempTrip
  extract_lets d1 d2
  have h2 : d2.rcp = d.rcp := Dev.rcp_setPwr ..
  refine Dev.seats_ite ?_ (Dev.seats_ite (le_of_eq (congrArg RcpSt.seats h2)) le_rfl)
  refine (Dev.seats_le_of_rcp (Dev.rcp_each _ _ _ fun _ _ => Dev.wr_rcp ..)).trans ((Dev.seats_porNow ..).trans ?_)
  exact Dev.seats_le_of_rcp (Dev.rcp_setPwr ..)

theorem Dev.seats_loadRecords (d : Dev) : d.loadRecords.rcp.seats = d.rcp.seats := by
  unfold Dev.loadRecords
  extract_lets m d1 d2 old
  have h1 : d1.rcp = d.rcp := by simp only [d1, Dev.rcp_setMgNet, Dev.wr_rcp]
  have h2 : d2.rcp = d1.rcp := by
    unfold d2
    split
    · exact Dev.rcp_showOwner ..
    · rfl
  rw [Dev.rcp_showBoot, Dev.wr_rcp, ← h1, ← h2]
  rfl

theorem Dev.seats_enterRecovery (d : Dev) : d.enterRecovery.rcp.seats = d.rcp.seats := by
  simp only [Dev.enterRecovery, Dev.rcp_fwEvent, Dev.rcp_setSec, Dev.rcp_newNonce, Dev.seats_loadRecords, Dev.rcp_setRst]

theorem Dev.seats_romDone (d : Dev) (gbit : Nat) : (d.romDone gbit).rcp.seats = d.rcp.seats := by
  unfold Dev.romDone
  extract_lets big d1 d2 d3 d4 r
  have h3 : d3.rcp = d.rcp := by simp only [d3, d2, d1, Dev.rcp_setM, Dev.rcp_setSlot, Dev.rcp_setSec, apply_ite Dev.rcp, ite_self]
  have h4 : d4.rcp = d3.rcp := by
    unfold d4
    split
    · exact Dev.rcp_showOwner ..
    · rfl
  have hr : r.1.rcp = d4.rcp := Dev.rcp_selectSlot ..
  rw [← h3]
  split
  · rw [Dev.seats_enterRecovery, Dev.raise_rcp]
  split
  · rw [Dev.seats_enterRecovery, Dev.raise_rcp]
  split
  · exact Dev.seats_enterRecovery _
  · split
    · rw [Dev.seats_enterRecovery, hr, h4]
    · rw [Dev.rcp_stageEnd, Dev.rcp_setM, hr, h4]

theorem Dev.seats_settingsDone (d : Dev) : d.settingsDone.rcp.seats = d.rcp.seats := by
  have hset : ∀ (e : Dev) l, ({ e with rcp := { e.rcp with inUse := l } } : Dev).rcp.seats = e.rcp.seats := fun _ _ => rfl
  unfold Dev.settingsDone
  extract_lets d1 d2 d3 old d4 d5 d6 d7 d8 d9 d10
  have h3 : d3.rcp = d.rcp := by
    simp only [d3, d2, d1, Dev.rcp_netIdSettle, Dev.rcp_loadSettings, Dev.raise_rcp, Dev.rcp_newSettings, apply_ite Dev.rcp, ite_self]
  have h4 : d4.rcp.seats = d3.rcp.seats := hset d3 _
  have h10 : d10.rcp = d4.rcp := by
    simp only [d10, d9, d8, d7, d6, d5, Dev.rcp_intervalStart, Dev.rcp_chainStart, Dev.rcp_servoMode, Dev.rcp_event, Dev.raise_rcp, Dev.wr_rcp,
      Dev.rcp_knotLoad, Dev.rcp_showBoot, Dev.rcp_setM, Dev.rcp_newNonce, apply_ite Dev.rcp, ite_self]
  rw [Dev.rcp_setRing, h10, h4, h3]

/-! ## OPEN -/

theorem Dev.seats_setOpen (d : Dev) (q : Rcp) (id : Nat) (f : OpenEx → OpenEx) : (d.setOpen q id f).rcp.seats = d.rcp.seats := by
  simp only [Dev.setOpen, RcpSt.seats, List.length_map]

theorem Dev.seats_dropOpen (d : Dev) (q : Rcp) (id : Nat) : (d.dropOpen q id).rcp.seats ≤ d.rcp.seats := ⟨le_rfl, List.length_filter_le ..⟩

theorem Dev.seats_challenge (d : Dev) (q : Rcp) (id hello : Nat) : (d.challenge q id hello).rcp.seats = d.rcp.seats := by
  simp only [Dev.challenge, Dev.rcp_openSay, Dev.seats_setOpen, Dev.rcp_drawnN]

/-- An accepted response opens one session more, in place of its exchange. -/
theorem Dev.seats_accepted (d : Dev) (q : Rcp) (x : OpenEx) (offset total role k : Nat) :
    (d.accepted q x offset total role k).rcp.seats ≤ (d.rcp.seats.1 + 1, d.rcp.seats.2) := by
  simp only [Dev.accepted, Dev.rcp_openSay]
  refine (Dev.seats_dropOpen ..).trans ?_
  exact ⟨(List.length_append ..).le, le_rfl⟩

/-- Room is asked for before the session is opened (R417). -/
theorem Dev.seats_openEnd {d : Dev} (hd : d.rcp.seats ≤ (16, 4)) (q : Rcp) (x : OpenEx) (offset : Nat) (r : Bytes) :
    (d.openEnd q x offset r).rcp.seats ≤ (16, 4) := by
  have hdrop : ∀ st, ((d.dropOpen q x.id).openFail q st).rcp.seats ≤ (16, 4) := fun st =>
    (Dev.seats_le_of_rcp (Dev.rcp_openFail ..)).trans ((Dev.seats_dropOpen ..).trans hd)
  unfold Dev.openEnd
  refine Dev.seats_ite (hdrop _) (Dev.seats_ite (hdrop _) ?_)
  split
  · rw [Dev.rcp_openFail, Dev.rcp_sat]
    exact (Dev.seats_dropOpen ..).trans hd
  · split
    · exact hdrop _
    case isFalse hroom =>
      refine (Dev.seats_accepted ..).trans ?_
      exact ⟨Nat.lt_of_not_le hroom, hd.2⟩

theorem Dev.seats_openServe {n : Nat × Nat} {d : Dev} {body : Dev → Dev} (hbody : ∀ e : Dev, e.rcp.seats ≤ n → (body e).rcp.seats ≤ n)
    (hd : d.rcp.seats ≤ n) (me : Instr) (q : Rcp) : (d.openServe me q body).rcp.seats ≤ n := by
  have hrx : ((d.elapse q.dt).mgRx q.via).rcp.seats ≤ n := by rwa [Dev.rcp_mgRx, Dev.elapse_rcp]
  have hdrop : (((d.elapse q.dt).mgRx q.via).dropFrame).rcp.seats ≤ n := by rwa [Dev.rcp_dropFrame]
  unfold Dev.openServe
  extract_lets d1 d2
  refine Dev.seats_ite hd (Dev.seats_ite hrx (Dev.seats_ite hdrop (Dev.seats_ite ?_ (Dev.seats_ite hdrop (Dev.seats_ite hrx (Dev.seats_ite ?_ ?_))))))
  · split
    · exact hdrop
    · refine Dev.seats_ite (by rwa [Dev.rcp_sat]) ?_
      exact (Dev.seats_sequenced (fun _ _ => le_rfl) ..).trans ((Dev.seats_heard ..).le.trans hrx)
  · exact (Dev.seats_le_of_rcp (Dev.rcp_postpone ..)).trans hrx
  · exact hbody _ ((Dev.seats_le_of_rcp (Dev.rcp_mgAccept ..)).trans hrx)

end Sys2Proof.Machine
end

section
/-! The commands that leave the state of RCP as it was keep the bounds of R417 and R446: one lemma per command, from the lemmas about the operations
it runs. -/

namespace Sys2Proof.Machine
open Sys2Proof

/-- The step keeps the bounds: at most 16 open sessions and 4 OPEN exchanges. -/
def State.KeepsSeats (s : State) (o : Host.Outcome State Fault Refusal) : Prop :=
  s.dev.rcp.seats ≤ (16, 4) → ∀ t, o = .next t → t.dev.rcp.seats ≤ (16, 4)

/-- A state that has only a device of no more seats and other memory. -/
theorem State.keepsSeats_next {s : State} {d : Dev} (hd : d.rcp.seats ≤ s.dev.rcp.seats) (m : List Host.Cell) :
    s.KeepsSeats (.next { s with dev := d, mem := m }) := by
  intro hs t h
  obtain rfl := Host.Outcome.next.inj h
  exact hd.trans hs

section
variable {s : State} {f : Dev → Dev} {dt : Nat}

theorem State.keepsSeats_act (hf : ∀ d : Dev, d.rcp.seats ≤ (16, 4) → (f d).rcp.seats ≤ (16, 4)) :
    s.KeepsSeats (s.act f) := by
  intro hs t h
  obtain rfl := Host.Outcome.next.inj h
  exact hf _ hs

theorem State.keepsSeats_actMem (hf : ∀ d : Dev, (f d).rcp.seats ≤ d.rcp.seats) : s.KeepsSeats (s.actMem f) := by
  intro hs t h
  unfold State.actMem at h
  dsimp only at h
  split at h
  · cases h
  · obtain rfl := Host.Outcome.next.inj h
    exact (hf _).trans hs

theorem State.keepsSeats_actReset (hf : ∀ d : Dev, (f d).rcp.seats ≤ d.rcp.seats) : s.KeepsSeats (s.actReset f) := by
  intro hs t h
  obtain rfl := Host.Outcome.next.inj h
  exact (hf _).trans hs

theorem State.keepsSeats_of_le (hf : ∀ d : Dev, (f d).rcp.seats ≤ d.rcp.seats) : s.KeepsSeats (s.act f) :=
  State.keepsSeats_act fun d hd => (hf d).trans hd

theorem State.keepsSeats_of_rcp (hf : ∀ d : Dev, (f d).rcp = d.rcp) : s.KeepsSeats (s.act f) :=
  State.keepsSeats_of_le fun d => Dev.seats_le_of_rcp (hf d)

theorem State.keepsSeats_live (hf : ∀ d : Dev, (f d).rcp = d.rcp) : s.KeepsSeats (s.act fun d => d.live dt f) :=
  State.keepsSeats_of_rcp fun d => d.rcp_live dt f hf

theorem State.keepsSeats_lanesRun (hf : ∀ d : Dev, (f d).rcp = d.rcp) : s.KeepsSeats (s.act fun d => d.lanesRun dt f) :=
  State.keepsSeats_of_rcp fun d => d.rcp_lanesRun dt f hf
end

theorem seats_execRefPhaseEvent (dt ref : Nat) (s : State) : s.KeepsSeats (execRefPhaseEvent dt ref s) := by
  refine State.keepsSeats_of_rcp fun d => ?_
  refine Dev.rcp_of_view fun φ hφ => ?_
  dsimp only
  repeat' split
  all_goals simp only [hφ, Dev.rcp_setRef, Dev.rcp_refPlaced, Dev.rcp_refMisplaced, Dev.elapse_rcp]

theorem seats_execRefStop (dt ref : Nat) (s : State) : s.KeepsSeats (execRefStop dt ref s) := by
  refine State.keepsSeats_of_rcp fun d => ?_
  simp only [Dev.rcp_refHalt, Dev.elapse_rcp, apply_ite Dev.rcp, ite_self]

theorem seats_execRefFreqUpdate (dt : Nat) (meas demand : List (Nat × Int)) (s : State) : s.KeepsSeats (execRefFreqUpdate dt meas demand s) := by
  refine State.keepsSeats_of_rcp fun d => ?_
  simp only [Dev.rcp_setRef, Dev.rcp_wrI, Dev.raise_rcp, Dev.rcp_refLimits, Dev.rcp_flag, Dev.rcp_dpllFreq, Dev.elapse_rcp, Dev.rcp_each,
    Dev.rcp_foldl, apply_ite Dev.rcp, ite_self, implies_true]

theorem seats_execRefHoldoffElapsed (dt ref : Nat) (s : State) : s.KeepsSeats (execRefHoldoffElapsed dt ref s) := by
  refine State.keepsSeats_of_rcp fun d => ?_
  simp only [Dev.rcp_reselectAll, Dev.rcp_flag, Dev.wr_rcp, Dev.elapse_rcp, apply_ite Dev.rcp, ite_self]

theorem seats_execDpllLocked (dt dpll err : Nat) (s : State) : s.KeepsSeats (execDpllLocked dt dpll err s) := by
  refine State.keepsSeats_of_rcp fun d => ?_
  simp only [Dev.rcp_setDpll, Dev.wr_rcp, Dev.rcp_dpllReselect, Dev.elapse_rcp, apply_ite Dev.rcp, ite_self]

theorem seats_execDpllSwitchMeasured (dt dpll : Nat) (s : State) : s.KeepsSeats (execDpllSwitchMeasured dt dpll s) := by
  refine State.keepsSeats_of_rcp fun d => ?_
  simp only [Dev.rcp_dpllReselect, Dev.rcp_setDpll, Dev.wr_rcp, Dev.rcp_dpllTo, Dev.rcp_sat, Dev.rcp_wrI, Dev.rcp_flag, Dev.elapse_rcp,
    apply_ite Dev.rcp, ite_self]

theorem seats_execDpllHoldoverExpiry (dt dpll : Nat) (s : State) : s.KeepsSeats (execDpllHoldoverExpiry dt dpll s) := by
  refine State.keepsSeats_of_rcp fun d => ?_
  simp only [Dev.raise_rcp, Dev.rcp_dpllTo, Dev.elapse_rcp, apply_ite Dev.rcp, ite_self]

theorem seats_execDpllPhaseMoveDone (dt dpll : Nat) (s : State) : s.KeepsSeats (execDpllPhaseMoveDone dt dpll s) := by
  refine State.keepsSeats_of_rcp fun d => ?_
  dsimp only
  split <;> simp only [Dev.rcp_flag, Dev.rcp_sat, Dev.rcp_wrI, Dev.rcp_setDpll, Dev.elapse_rcp, apply_ite Dev.rcp, ite_self]

theorem seats_execPlaneFail (dt plane cause : Nat) (s : State) : s.KeepsSeats (execPlaneFail dt plane cause s) := by
  refine State.keepsSeats_live fun d => ?_
  simp only [Dev.raise_rcp, Dev.rcp_flag, Dev.rcp_planeFail, apply_ite Dev.rcp, ite_self]

theorem seats_execPlaneBistDone (dt plane : Nat) (pass shadowOk : Bool) (slice : Option Nat) (s : State) :
    s.KeepsSeats (execPlaneBistDone dt plane pass shadowOk slice s) := by
  refine State.keepsSeats_live fun d => ?_
  simp only [Dev.rcp_planeSlice, Dev.rcp_flag, Dev.rcp_planeFailed, Dev.rcp_startResync, Dev.rcp_enterAlone, Dev.raise_rcp, Dev.rcp_setPlane,
    apply_ite Dev.rcp, ite_self]

theorem seats_execPlaneResyncDone (dt plane : Nat) (wrong : List (Nat × Nat)) (s : State) :
    s.KeepsSeats (execPlaneResyncDone dt plane wrong s) := by
  refine State.keepsSeats_live fun d => ?_
  simp only [Dev.rcp_setPlane, Dev.rcp_planeFailed, Dev.wr_rcp, Dev.rcp_add, Dev.rcp_planeTo, apply_ite Dev.rcp, ite_self]

theorem seats_execPlaneRebuildDone (dt : Nat) (shadowOk : Bool) (s : State) : s.KeepsSeats (execPlaneRebuildDone dt shadowOk s) := by
  refine State.keepsSeats_live fun d => ?_
  simp only [Dev.rcp_planeFailed, Dev.raise_rcp, Dev.wr_rcp, Dev.rcp_add, Dev.rcp_loadPlane, Dev.rcp_reanchor, Dev.rcp_bothIn, Dev.rcp_setPlane,
    Dev.rcp_planeTo, apply_ite Dev.rcp, ite_self]

theorem seats_execFlowEngineConfigured (dt ctx : Nat) (s : State) : s.KeepsSeats (execFlowEngineConfigured dt ctx s) := by
  refine State.keepsSeats_live fun d => ?_
  simp only [Dev.rcp_flowStop, Dev.rcp_flowRun, apply_ite Dev.rcp, ite_self]

theorem seats_execFlowEngineQuiesced (dt ctx : Nat) (s : State) : s.KeepsSeats (execFlowEngineQuiesced dt ctx s) := by
  refine State.keepsSeats_live fun d => ?_
  simp only [Dev.setFlow_rcp, Dev.rcp_flowStart, Dev.rcp_showRelay, Dev.rcp_peerGone, Dev.rcp_flowTo, Dev.rcp_flag, Dev.rcp_layerIdle,
    Dev.rcp_setNetRx, Dev.rcp_settle, apply_ite Dev.rcp, ite_self]

theorem seats_execRunStart (dt ctx : Nat) (s : State) : s.KeepsSeats (execRunStart dt ctx s) := by
  refine State.keepsSeats_live fun d => ?_
  simp only [Dev.rcp_flag, Dev.wr_rcp, Dev.setFlow_rcp, apply_ite Dev.rcp, ite_self]

theorem seats_execCellEmit (dt ctx itime len pos : Nat) (sof eof : Bool) (payload field : Nat) (s : State) :
    s.KeepsSeats (execCellEmit dt ctx itime len pos sof eof payload field s) := by
  refine State.keepsSeats_live fun d => ?_
  split <;> simp only [Dev.rcp_sendCell, Dev.rcp_setNetRx, Dev.rcp_sendBundle, Dev.rcp_sendPlayback, Dev.rcp_sendSdiIn, Dev.rcp_sendAnc,
    apply_ite Dev.rcp, ite_self]

theorem seats_execCellReceived (dt group : Nat) (cell : Cell) (s : State) : s.KeepsSeats (execCellReceived dt group cell s) := by
  refine State.keepsSeats_live fun d => ?_
  repeat' split
  all_goals simp only [Dev.rcp_sat, Dev.setFlow_rcp, Dev.rcp_emitted, Dev.rcp_sendOver, Dev.rcp_intoPlanes, apply_ite Dev.rcp, ite_self]

theorem seats_execMergeCopyArrival (dt ctx plane : Nat) (cell : Cell) (s : State) : s.KeepsSeats (execMergeCopyArrival dt ctx plane cell s) := by
  refine State.keepsSeats_live fun d => ?_
  repeat' split
  all_goals simp only [Dev.rcp_badArrival, Dev.rcp_sat, Dev.rcp_goodArrival]

theorem seats_execMergeWindowEnd (dt ctx seq : Nat) (s : State) : s.KeepsSeats (execMergeWindowEnd dt ctx seq s) := by
  refine State.keepsSeats_live fun d => ?_
  simp only [Dev.rcp_settleWindow, apply_ite Dev.rcp, ite_self]

theorem seats_execCellRelease (dt ctx : Nat) (s : State) : s.KeepsSeats (execCellRelease dt ctx s) := by
  refine State.keepsSeats_actMem fun d => Dev.seats_le_of_rcp (d.rcp_live dt _ fun d => ?_)
  dsimp only
  repeat' split
  all_goals simp only [Dev.rcp_sdiAhead, Dev.setFlow_rcp, Dev.rcp_settleWindow, Dev.rcp_releaseNext]

theorem seats_execSourceLossTimeout (dt ctx : Nat) (s : State) : s.KeepsSeats (execSourceLossTimeout dt ctx s) := by
  refine State.keepsSeats_live fun d => ?_
  simp only [Dev.rcp_flag, Dev.rcp_enterSafe, Dev.rcp_substitutes, apply_ite Dev.rcp, ite_self]

theorem seats_execAudioPosition (dt : Nat) (s : State) : s.KeepsSeats (execAudioPosition dt s) := by
  refine State.keepsSeats_live fun d => ?_
  simp only [Dev.rcp_readAll, Dev.rcp_noteOrigin, Dev.rcp_computeRecord, Dev.rcp_foresee, Dev.rcp_bundleOut, Dev.rcp_setAudio, Dev.rcp_embedRead,
    Dev.rcp_each, Dev.rcp_foldl, apply_ite Dev.rcp, ite_self, implies_true]

theorem seats_execAudioSampleWrite (dt lane groups : Nat) (words : List Nat) (s : State) :
    s.KeepsSeats (execAudioSampleWrite dt lane groups words s) := by
  refine State.keepsSeats_live fun d => ?_
  simp only [Dev.wr_rcp, Dev.rcp_recentre, Dev.rcp_setAudio, Dev.rcp_putSample, Dev.rcp_each, apply_ite Dev.rcp, ite_self, implies_true]

theorem seats_execSapFrame (dt port : Nat) (slots : List Nat) (half : Bool) (s : State) : s.KeepsSeats (execSapFrame dt port slots half s) := by
  refine State.keepsSeats_live fun d => ?_
  simp only [Dev.rcp_flag, Dev.rcp_recentre, Dev.emit_rcp, Dev.rcp_putSample, Dev.rcp_setAudio, Dev.rcp_each, apply_ite Dev.rcp, ite_self,
    implies_true]

theorem seats_execBusTransaction (dt master addr beats : Nat) (write : Bool) (data enables : Nat) (answer : Option Nat) (placed : Nat) (s : State) :
    s.KeepsSeats (execBusTransaction dt master addr beats write data enables answer placed s) :=
  State.keepsSeats_actMem fun _ => Dev.seats_le_of_rcp ((Dev.rcp_busIssue ..).trans (Dev.elapse_rcp ..))

theorem seats_execBusTimeout (dt : Nat) (s : State) : s.KeepsSeats (execBusTimeout dt s) := by
  refine State.keepsSeats_of_rcp fun d => ?_
  dsimp only
  split <;> simp only [Dev.raise_rcp, Dev.rcp_busRespond, Dev.rcp_cutTarget, Dev.elapse_rcp, apply_ite Dev.rcp, ite_self]

theorem seats_execHeadFrameBoundary (dt head : Nat) (lost : List (Nat × Nat)) (probe : List (Nat × Nat)) (s : State) :
    s.KeepsSeats (execHeadFrameBoundary dt head lost probe s) := by
  refine State.keepsSeats_live fun d => ?_
  repeat' split
  all_goals simp only [Dev.rcp_headFrame]

theorem seats_execLayerFrameComplete (dt engine : Nat) (filled : List (Nat × Nat × Nat)) (s : State) :
    s.KeepsSeats (execLayerFrameComplete dt engine filled s) := by
  refine State.keepsSeats_live fun d => ?_
  dsimp only
  split <;> simp only [Dev.rcp_setLayer, Dev.rcp_sat, apply_ite Dev.rcp, ite_self]

theorem seats_execLayerRunStart (dt engine : Nat) (s : State) : s.KeepsSeats (execLayerRunStart dt engine s) := by
  refine State.keepsSeats_live fun d => ?_
  repeat' split
  all_goals simp only [Dev.rcp_layerNewRun, Dev.rcp_layerEval, apply_ite Dev.rcp, ite_self]

theorem seats_execCmpEngineFail (dt engine : Nat) (s : State) : s.KeepsSeats (execCmpEngineFail dt engine s) := by
  refine State.keepsSeats_live fun d => ?_
  simp only [Dev.rcp_knotAdd, Dev.raise_rcp, Dev.rcp_flag, apply_ite Dev.rcp, ite_self]

theorem seats_execEnrolWindowExpiry (dt : Nat) (s : State) : s.KeepsSeats (execEnrolWindowExpiry dt s) := by
  refine State.keepsSeats_of_rcp fun d => ?_
  dsimp only
  split <;> simp only [Dev.elapse_rcp, apply_ite Dev.rcp, ite_self]

theorem seats_execUpdateIdleExpiry (dt : Nat) (s : State) : s.KeepsSeats (execUpdateIdleExpiry dt s) := by
  refine State.keepsSeats_of_rcp fun d => ?_
  simp only [Dev.rcp_updateDrop, Dev.elapse_rcp, apply_ite Dev.rcp, ite_self]

theorem seats_execActivationStepTimeout (dt : Nat) (s : State) : s.KeepsSeats (execActivationStepTimeout dt s) := by
  refine State.keepsSeats_of_rcp fun d => ?_
  dsimp only
  split <;> simp only [Dev.rcp_setSec, Dev.rcp_writeBoot, Dev.rcp_measureKinds, Dev.rcp_showBoot, Dev.rcp_updTo, Dev.raise_rcp, Dev.elapse_rcp,
    apply_ite Dev.rcp, ite_self]

theorem seats_execTrialTimerEnd (dt : Nat) (s : State) : s.KeepsSeats (execTrialTimerEnd dt s) := by
  refine State.keepsSeats_of_rcp fun d => ?_
  simp only [Dev.rcp_accept, Dev.rcp_reject, Dev.elapse_rcp, apply_ite Dev.rcp, ite_self]

theorem seats_execSlotRCopyDone (dt : Nat) (s : State) : s.KeepsSeats (execSlotRCopyDone dt s) := by
  refine State.keepsSeats_of_rcp fun d => ?_
  simp only [Dev.rcp_setSec, Dev.rcp_setSlot, Dev.elapse_rcp, apply_ite Dev.rcp, ite_self]

theorem seats_execRecoveryIntervalEnd (dt : Nat) (s : State) : s.KeepsSeats (execRecoveryIntervalEnd dt s) := by
  refine State.keepsSeats_of_rcp fun d => ?_
  dsimp only
  repeat' split
  all_goals simp only [Dev.rcp_setSec, Dev.rcp_keepManifest, Dev.wr_rcp, Dev.rcp_updTo, Dev.elapse_rcp]

theorem seats_execFaultLatch (dt src inst : Nat) (lasting : Bool) (s : State) : s.KeepsSeats (execFaultLatch dt src inst lasting s) := by
  refine State.keepsSeats_of_rcp fun d => ?_
  simp only [Dev.rcp_latch, Dev.elapse_rcp, apply_ite Dev.rcp, ite_self]

theorem seats_execFaultConditionEnd (dt src inst : Nat) (s : State) : s.KeepsSeats (execFaultConditionEnd dt src inst s) := by
  refine State.keepsSeats_of_rcp fun d => ?_
  simp only [Dev.rcp_endActive, Dev.elapse_rcp, apply_ite Dev.rcp, ite_self]

theorem seats_execErrnMinExpiry (dt : Nat) (s : State) : s.KeepsSeats (execErrnMinExpiry dt s) := by
  refine State.keepsSeats_of_rcp fun d => ?_
  simp only [Dev.rcp_errnRise, Dev.elapse_rcp]

theorem seats_execNet20227Release (dt ctx : Nat) (s : State) : s.KeepsSeats (execNet20227Release dt ctx s) := by
  refine State.keepsSeats_live fun d => ?_
  repeat' split
  all_goals simp only [Dev.rcp_sat, Dev.rcp_countMissing, Dev.rcp_setNetRx, Dev.rcp_place, apply_ite Dev.rcp, ite_self]

theorem seats_execNetFrameRx (dt : Nat) (f : NetFrame) (s : State) : s.KeepsSeats (execNetFrameRx dt f s) := by
  refine State.keepsSeats_live fun d => ?_
  dsimp only
  repeat' split
  all_goals simp only [Dev.rcp_sat, Dev.rcp_toContext, Dev.rcp_toCores]

theorem seats_execNetRxSilence (dt ctx : Nat) (legB : Bool) (s : State) : s.KeepsSeats (execNetRxSilence dt ctx legB s) := by
  refine State.keepsSeats_live fun d => ?_
  dsimp only
  split <;> simp only [Dev.rcp_flag, Dev.raise_rcp, apply_ite Dev.rcp, ite_self]

theorem seats_execNetPacketTx (dt ctx : Nat) (s : State) : s.KeepsSeats (execNetPacketTx dt ctx s) := by
  refine State.keepsSeats_live fun d => ?_
  repeat' split
  all_goals simp only [Dev.rcp_silence, Dev.rcp_dropRest, Dev.rcp_sat, Dev.rcp_setNetTx, Dev.rcp_sendPacket, apply_ite Dev.rcp, ite_self]

theorem seats_execNetResolveRefresh (dt ctx : Nat) (legB : Bool) (mac : Option Nat) (s : State) :
    s.KeepsSeats (execNetResolveRefresh dt ctx legB mac s) := by
  refine State.keepsSeats_live fun d => ?_
  simp only [Dev.rcp_sat, Dev.emit_rcp, Dev.rcp_setHop, Dev.rcp_flag, Dev.raise_rcp, apply_ite Dev.rcp, ite_self]

theorem seats_execChanTrainingSetDone (dt chan : Nat) (pass : Bool) (defects : List Nat) (s : State) :
    s.KeepsSeats (execChanTrainingSetDone dt chan pass defects s) := by
  refine State.keepsSeats_of_rcp fun d => ?_
  dsimp only
  repeat' split
  all_goals simp only [Dev.rcp_retireChan, Dev.wr_rcp, Dev.rcp_chanTo, Dev.rcp_setChan, Dev.rcp_repairRows, Dev.rcp_rowDefective, Dev.rcp_knotAdd,
    Dev.endCond_rcp, Dev.rcp_regrow, Dev.rcp_sat, Dev.elapse_rcp, Dev.rcp_each, implies_true]

theorem seats_execDelayRecentre (dt chan : Nat) (s : State) : s.KeepsSeats (execDelayRecentre dt chan s) := by
  refine State.keepsSeats_live fun d => ?_
  simp only [Dev.rcp_drawnN, Dev.rcp_setChan, apply_ite Dev.rcp, ite_self]

theorem seats_execChanDegradeCheck (dt chan : Nat) (s : State) : s.KeepsSeats (execChanDegradeCheck dt chan s) := by
  refine State.keepsSeats_live fun d => ?_
  simp only [Dev.rcp_setChan, Dev.raise_rcp, Dev.rcp_chanTo, apply_ite Dev.rcp, ite_self]

theorem seats_execChanFail (dt chan cause : Nat) (s : State) : s.KeepsSeats (execChanFail dt chan cause s) := by
  refine State.keepsSeats_live fun d => ?_
  simp only [Dev.rcp_chanFailed, apply_ite Dev.rcp, ite_self]

theorem seats_execBlockRelocated (dt handle logical : Nat) (s : State) : s.KeepsSeats (execBlockRelocated dt handle logical s) := by
  have hd : (s.dev.elapse dt).rcp.seats ≤ s.dev.rcp.seats := Dev.seats_le_of_rcp (Dev.elapse_rcp ..)
  unfold execBlockRelocated
  dsimp only
  split
  · exact State.keepsSeats_next hd _
  split
  · split
    · split
      · intro _ _ h
        cases h
      · exact State.keepsSeats_next ((Dev.seats_le_of_rcp (Dev.rcp_relocated ..)).trans hd) _
    · exact State.keepsSeats_next ((Dev.seats_le_of_rcp (Dev.rcp_setStore ..)).trans hd) _
  · exact State.keepsSeats_next hd _

theorem seats_execPatrolTest (dt block row : Nat) (ok : Bool) (s : State) : s.KeepsSeats (execPatrolTest dt block row ok s) := by
  refine State.keepsSeats_live fun d => ?_
  simp only [Dev.rcp_sat, Dev.rcp_rowDefective, apply_ite Dev.rcp, ite_self]

theorem seats_execMr4Poll (dt chan rate : Nat) (hot : Bool) (s : State) : s.KeepsSeats (execMr4Poll dt chan rate hot s) := by
  refine State.keepsSeats_live fun d => ?_
  simp only [Dev.rcp_setChan, Dev.wr_rcp, Dev.raiseL_rcp, Dev.endCond_rcp, apply_ite Dev.rcp, ite_self]

theorem seats_execSrEntry (dt chan : Nat) (issued : Bool) (s : State) : s.KeepsSeats (execSrEntry dt chan issued s) :=
  State.keepsSeats_next (Dev.seats_le_of_rcp (Dev.rcp_srEntry ..)) _

theorem seats_execSrExit (dt chan : Nat) (s : State) : s.KeepsSeats (execSrExit dt chan s) := by
  refine State.keepsSeats_live fun d => ?_
  simp only [Dev.rcp_setChan, Dev.rcp_sat, Dev.wr_rcp, Dev.rcp_flag, Dev.rcp_wake, apply_ite Dev.rcp, ite_self]

theorem seats_execMemRequestServe (dt chan : Nat) (arrivals : List StoreReq) (ecc : Nat) (s : State) :
    s.KeepsSeats (execMemRequestServe dt chan arrivals ecc s) := by
  refine State.keepsSeats_actMem fun d => Dev.seats_le_of_rcp (d.rcp_live dt _ fun d => ?_)
  dsimp only
  repeat' split
  all_goals simp only [Dev.rcp_arrive, Dev.rcp_refreshIdle, Dev.rcp_refreshSlot, Dev.rcp_serveReq, Dev.rcp_foldl, implies_true]

theorem seats_execRequestDeadlineMiss (dt chan : Nat) (s : State) : s.KeepsSeats (execRequestDeadlineMiss dt chan s) := by
  refine State.keepsSeats_live fun d => ?_
  split <;> simp only [Dev.rcp_setStore, Dev.rcp_sat]

theorem seats_execNetLinkUp (dt port : Nat) (s : State) : s.KeepsSeats (execNetLinkUp dt port s) := by
  refine State.keepsSeats_live fun d => ?_
  simp only [Dev.rcp_flag, Dev.wr_rcp, apply_ite Dev.rcp, ite_self]

theorem seats_execNetLinkDown (dt port : Nat) (s : State) : s.KeepsSeats (execNetLinkDown dt port s) := by
  refine State.keepsSeats_live fun d => ?_
  simp only [Dev.rcp_portDown, apply_ite Dev.rcp, ite_self]

theorem seats_execNetSpareRemap (dt lane : Nat) (s : State) : s.KeepsSeats (execNetSpareRemap dt lane s) := by
  refine State.keepsSeats_live fun d => ?_
  simp only [Dev.rcp_autoRemap, apply_ite Dev.rcp, ite_self]

theorem seats_execNetTrainingFailed (dt port lane : Nat) (signal : Bool) (s : State) :
    s.KeepsSeats (execNetTrainingFailed dt port lane signal s) := by
  refine State.keepsSeats_live fun d => ?_
  split <;> simp only [Dev.rcp_flag, Dev.wr_rcp, Dev.rcp_autoRemap, apply_ite Dev.rcp, ite_self]

theorem seats_execNetCtrlFrame (dt : Nat) (s : State) : s.KeepsSeats (execNetCtrlFrame dt s) := by
  refine State.keepsSeats_live fun d => ?_
  split <;> simp only [Dev.rcp_sat, Dev.emit_rcp, apply_ite Dev.rcp, ite_self]

theorem seats_execNetMembershipReport (dt iface : Nat) (s : State) : s.KeepsSeats (execNetMembershipReport dt iface s) := by
  refine State.keepsSeats_live fun d => ?_
  simp only [Dev.rcp_sendAll, apply_ite Dev.rcp, ite_self]

theorem seats_execIgmpReportRepeat (dt iface : Nat) (s : State) : s.KeepsSeats (execIgmpReportRepeat dt iface s) := by
  refine State.keepsSeats_live fun d => ?_
  split <;> simp only [Dev.rcp_sendReport, Dev.drawn_rcp, apply_ite Dev.rcp, ite_self]

theorem seats_execNetQueryRx (dt port iface version : Nat) (ask : Nat × Nat) (s : State) :
    s.KeepsSeats (execNetQueryRx dt port iface version ask s) := by
  refine State.keepsSeats_live fun d => ?_
  simp only [Dev.rcp_coreFrame, Dev.rcp_sat, Dev.raise_rcp, Dev.drawn_rcp, apply_ite Dev.rcp, ite_self]

theorem seats_execNetQueryResponse (dt iface : Nat) (s : State) : s.KeepsSeats (execNetQueryResponse dt iface s) := by
  refine State.keepsSeats_live fun d => ?_
  split <;> simp only [Dev.rcp_sendReport, Dev.rcp_foldl, apply_ite Dev.rcp, ite_self, implies_true]

theorem seats_execSdiRxLock (dt lane rate : Nat) (s : State) : s.KeepsSeats (execSdiRxLock dt lane rate s) := by
  refine State.keepsSeats_live fun d => ?_
  simp only [Dev.wr_rcp, Dev.rcp_flag, Dev.rcp_setRx, apply_ite Dev.rcp, ite_self]

theorem seats_execSdiRxLockLost (dt lane : Nat) (s : State) : s.KeepsSeats (execSdiRxLockLost dt lane s) := by
  refine State.keepsSeats_live fun d => ?_
  simp only [Dev.wr_rcp, Dev.rcp_flag, Dev.rcp_sdiErrors, Dev.rcp_setRx, Dev.rcp_undetect, Dev.raise_rcp, Dev.rcp_sat, Dev.rcp_refHalt,
    Dev.rcp_deembedStop, Dev.rcp_laneChanged, Dev.rcp_scanAbort, apply_ite Dev.rcp, ite_self]

theorem seats_execSdiRxFormatChange (dt lane : Nat) (s : State) : s.KeepsSeats (execSdiRxFormatChange dt lane s) := by
  refine State.keepsSeats_live fun d => ?_
  simp only [Dev.rcp_undetect, Dev.rcp_sat, Dev.rcp_laneChanged, Dev.rcp_setRx, apply_ite Dev.rcp, ite_self]

theorem seats_execSdiFormatDetected (dt lane raster rate : Nat) (arrivals : List Nat) (ltc : Nat) (pid : Option (Nat × Nat)) (s : State) :
    s.KeepsSeats (execSdiFormatDetected dt lane raster rate arrivals ltc pid s) := by
  refine State.keepsSeats_live fun d => Dev.rcp_of_view fun φ hφ => ?_
  have hshow : ∀ (e : Dev) c, φ ((e.showSkew c arrivals).freezeIf c) = φ e := fun e c => by simp only [hφ, Dev.rcp_freezeIf, Dev.rcp_showSkew]
  split
  · rfl
  split
  · rfl
  · extract_lets f d1 d2 d3
    have h2 : φ d2 = φ d := by
      unfold d2
      split <;> simp only [d1, hφ, Dev.rcp_flag, Dev.wr_rcp]
    have h3 : φ d3 = φ d2 := by simp only [d3, hφ, Dev.rcp_setRx, Dev.wr_rcp]
    rw [← h2, ← h3]
    split
    · rfl
    · exact hshow ..

theorem seats_execSdiPortResume (dt ctx first : Nat) (others : List Nat) (s : State) : s.KeepsSeats (execSdiPortResume dt ctx first others s) := by
  refine State.keepsSeats_live fun d => ?_
  simp only [Dev.rcp_showSkew, Dev.rcp_flag, Dev.setFlow_rcp, apply_ite Dev.rcp, ite_self]

theorem seats_execSdiGroupDeskewLost (dt lane skew : Nat) (s : State) : s.KeepsSeats (execSdiGroupDeskewLost dt lane skew s) := by
  refine State.keepsSeats_live fun d => ?_
  split <;> simp only [Dev.rcp_flag, Dev.wr_rcp, Dev.rcp_freezeIf, Dev.raise_rcp, apply_ite Dev.rcp, ite_self]

theorem seats_execSdiPidAbsent (dt lane : Nat) (s : State) : s.KeepsSeats (execSdiPidAbsent dt lane s) := by
  refine State.keepsSeats_live fun d => ?_
  simp only [Dev.rcp_laneChanged, Dev.rcp_flag, apply_ite Dev.rcp, ite_self]

theorem seats_execSdiTxFrameBoundary (dt ctx line lines : Nat) (s : State) : s.KeepsSeats (execSdiTxFrameBoundary dt ctx line lines s) := by
  refine State.keepsSeats_live fun d => ?_
  repeat' split
  all_goals simp only [Dev.rcp_sdiBoundary, Dev.rcp_frameEnd, Dev.setFlow_rcp, Dev.rcp_leaveSafe, Dev.rcp_applyDue, Dev.rcp_insertLate,
    Dev.rcp_insertAgain, Dev.rcp_safeFrame, Dev.rcp_txSafe, Dev.rcp_sendFrame, apply_ite Dev.rcp, ite_self]

theorem seats_execHoldMaxExpiry (dt ctx : Nat) (s : State) : s.KeepsSeats (execHoldMaxExpiry dt ctx s) := by
  refine State.keepsSeats_live fun d => ?_
  dsimp only
  split <;> simp only [Dev.rcp_holdEmpty, Dev.rcp_setSafeHold, apply_ite Dev.rcp, ite_self]

theorem seats_execMarginScanDone (dt lane width height : Nat) (s : State) : s.KeepsSeats (execMarginScanDone dt lane width height s) := by
  refine State.keepsSeats_lanesRun fun d => ?_
  split <;> simp only [Dev.rcp_scanAbort, Dev.wr_rcp, apply_ite Dev.rcp, ite_self]

theorem seats_execPhyLaneFailed (dt lane cause skew : Nat) (s : State) : s.KeepsSeats (execPhyLaneFailed dt lane cause skew s) := by
  refine State.keepsSeats_lanesRun fun d => ?_
  simp only [Dev.rcp_sat, Dev.wr_rcp, Dev.rcp_spareFail, Dev.rcp_laneFail, apply_ite Dev.rcp, ite_self]

theorem seats_execPhyDegradeCheck (dt lane errors symbols : Nat) (s : State) : s.KeepsSeats (execPhyDegradeCheck dt lane errors symbols s) := by
  refine State.keepsSeats_lanesRun fun d => Dev.rcp_of_view fun φ hφ => ?_
  have hset : ∀ (x : Dev) l, φ { x with phy := l } = φ x := fun x l => by simp only [hφ]
  have hcount : ∀ (x : Dev) e f n, φ ((x.setDl e f).wr D.LaneStatus.ERRORS_PER_S lane n) = φ x := fun x e f n => by simp only [hφ, Dev.wr_rcp,
    Dev.rcp_setDl]
  have hsat : ∀ (x : Dev) e m n, φ ((x.sat D.DwlLaneCounters.CODE_VIOLATIONS e m).sat D.DwlLaneCounters.DISPARITY_ERRORS e n) = φ x :=
    fun x e m n => by simp only [hφ, Dev.rcp_sat]
  have hdegraded : ∀ x : Dev, φ ((x.wr D.LaneStatus.USE lane LaneUse.DEGRADED).raise Src.PHY_LANE_DEGRADED lane) = φ x := fun x => by
    simp only [hφ, Dev.raise_rcp, Dev.wr_rcp]
  have hswap : ∀ (x : Dev) a b, φ (x.swapOut a b) = φ x := fun x a b => by simp only [hφ, Dev.rcp_swapOut]
  have hwr : ∀ (x : Dev) f n v, φ (x.wr f n v) = φ x := fun x f n v => by simp only [hφ, Dev.wr_rcp]
  have hremap : ∀ (x : Dev) l, φ (x.autoRemap l) = φ x := fun x l => by simp only [hφ, Dev.rcp_autoRemap]
  split
  · rfl
  have h1 := hset d { d.phy with judged := nput d.phy.judged 0 lane d.wall }
  generalize ({ d with phy := { d.phy with judged := nput d.phy.judged 0 lane d.wall } } : Dev) = d1 at h1 ⊢
  rw [← h1]
  extract_lets d2 e n d3 d4 d5 d6 phys limit
  split
  · have h3 : φ d4 = φ d1 := (hcount ..).trans (hsat ..)
    rw [← h3]
    split
    · rfl
    · rw [← (hdegraded d4 : φ d5 = φ d4)]
      split
      · exact hswap ..
      · rfl
  · rw [← (hwr d2 .. : φ d6 = φ d1)]
    split
    · rfl
    split
    · rfl
    split
    · rfl
    split
    · exact (hremap ..).trans (hwr ..)
    split
    · exact hdegraded _
    · exact hwr ..

theorem seats_execSpareReadinessCheck (dt group errors : Nat) (s : State) : s.KeepsSeats (execSpareReadinessCheck dt group errors s) := by
  refine State.keepsSeats_lanesRun fun d => ?_
  split <;> simp only [Dev.rcp_sat, Dev.rcp_setDl, Dev.raise_rcp, Dev.rcp_laneStart, Dev.rcp_showSpares, apply_ite Dev.rcp, ite_self]

theorem seats_execSdiSliceSpare (dt lane : Nat) (locks : Bool) (s : State) : s.KeepsSeats (execSdiSliceSpare dt lane locks s) := by
  refine State.keepsSeats_live fun d => ?_
  simp only [Dev.wr_rcp, Dev.rcp_flag, Dev.raise_rcp, Dev.rcp_knotAdd, apply_ite Dev.rcp, ite_self]

theorem seats_execPrbsCheckerLock (dt lane : Nat) (s : State) : s.KeepsSeats (execPrbsCheckerLock dt lane s) := by
  refine State.keepsSeats_lanesRun fun d => ?_
  simp only [Dev.rcp_flag, apply_ite Dev.rcp, ite_self]

theorem seats_execPrbsCheckerUnlock (dt lane bits errors : Nat) (s : State) : s.KeepsSeats (execPrbsCheckerUnlock dt lane bits errors s) := by
  refine State.keepsSeats_lanesRun fun d => ?_
  simp only [Dev.rcp_flag, Dev.rcp_sat, apply_ite Dev.rcp, ite_self]

theorem seats_execRstNInput (dt low : Nat) (s : State) : s.KeepsSeats (execRstNInput dt low s) := by
  refine State.keepsSeats_of_rcp fun d => ?_
  simp only [Dev.rcp_rstnRequest, Dev.elapse_rcp, apply_ite Dev.rcp, ite_self]

theorem seats_execWatchdogExpiry (dt dom : Nat) (s : State) : s.KeepsSeats (execWatchdogExpiry dt dom s) := by
  refine State.keepsSeats_of_rcp fun d => ?_
  simp only [Dev.raise_rcp, Dev.rcp_setRst, Dev.rcp_request, Dev.elapse_rcp, apply_ite Dev.rcp, ite_self]

theorem seats_execResetRelease (dt n : Nat) (head planeB testMode : Bool) (geo : Nat) (s : State) :
    s.KeepsSeats (execResetRelease dt n head planeB testMode geo s) := by
  refine State.keepsSeats_of_rcp fun d => ?_
  dsimp only
  split <;> simp only [Dev.rcp_release, Dev.elapse_rcp, apply_ite Dev.rcp, ite_self]

theorem seats_execBlockResetEnd (dt target inst : Nat) (s : State) : s.KeepsSeats (execBlockResetEnd dt target inst s) := by
  refine State.keepsSeats_of_rcp fun d => ?_
  dsimp only
  repeat' split
  all_goals simp only [Dev.rcp_setRst, Dev.rcp_loadAfter, Dev.rcp_blockEnd, Dev.elapse_rcp]

theorem seats_execRstnOutEnd (dt low : Nat) (s : State) : s.KeepsSeats (execRstnOutEnd dt low s) := by
  refine State.keepsSeats_of_rcp fun d => ?_
  dsimp only
  split <;> simp only [Dev.emit_rcp, Dev.rcp_setRst, Dev.rcp_rstnRequest, Dev.elapse_rcp, apply_ite Dev.rcp, ite_self]

theorem seats_execAvsUpdate (dt : Nat) (acks : List Bool) (s : State) : s.KeepsSeats (execAvsUpdate dt acks s) := by
  refine State.keepsSeats_of_rcp fun d => ?_
  dsimp only
  repeat' split
  all_goals simp only [Dev.rcp_setPwr, Dev.rcp_avsWrite, Dev.elapse_rcp]

theorem seats_execAvsRetry (dt : Nat) (ack : Bool) (s : State) : s.KeepsSeats (execAvsRetry dt ack s) := by
  refine State.keepsSeats_of_rcp fun d => ?_
  dsimp only
  split <;> simp only [Dev.emit_rcp, Dev.rcp_setPwr, Dev.elapse_rcp, apply_ite Dev.rcp, ite_self]

theorem seats_execPmbusPoll (dt : Nat) (readings : List (Option (Nat × Nat))) (alert : Bool) (s : State) :
    s.KeepsSeats (execPmbusPoll dt readings alert s) := by
  refine State.keepsSeats_of_rcp fun d => ?_
  simp only [Dev.emit_rcp, Dev.rcp_setPwr, Dev.elapse_rcp, Dev.rcp_each, apply_ite Dev.rcp, ite_self, implies_true]

theorem seats_execSramEccError (dt macro_ row dom cause : Nat) (corrected : Bool) (s : State) :
    s.KeepsSeats (execSramEccError dt macro_ row dom cause corrected s) := by
  refine State.keepsSeats_of_rcp fun d => ?_
  simp only [Dev.rcp_setPlane, Dev.rcp_rowFails, Dev.elapse_rcp, apply_ite Dev.rcp, ite_self]

theorem seats_execKnotCopyWrite (dt : Nat) (ok : Bool) (s : State) : s.KeepsSeats (execKnotCopyWrite dt ok s) := by
  refine State.keepsSeats_of_rcp fun d => ?_
  simp only [Dev.rcp_knotPut, Dev.raise_rcp, Dev.elapse_rcp, apply_ite Dev.rcp, ite_self]

theorem seats_execIslandHorizonRecompute (dt island : Nat) (next : Option Nat) (s : State) :
    s.KeepsSeats (execIslandHorizonRecompute dt island next s) := by
  refine State.keepsSeats_of_rcp fun d => ?_
  simp only [Dev.rcp_islandRest, Dev.elapse_rcp, apply_ite Dev.rcp, ite_self]

theorem seats_execIslandWake (dt island took : Nat) (s : State) : s.KeepsSeats (execIslandWake dt island took s) := by
  refine State.keepsSeats_of_rcp fun d => ?_
  simp only [Dev.rcp_islandUp, Dev.elapse_rcp, apply_ite Dev.rcp, ite_self]

theorem seats_execPwrWarn (dt : Nat) (erasing ok : Bool) (s : State) : s.KeepsSeats (execPwrWarn dt erasing ok s) := by
  refine State.keepsSeats_of_rcp fun d => ?_
  simp only [Dev.raise_rcp, Dev.rcp_add, Dev.rcp_warnRecord, Dev.elapse_rcp, apply_ite Dev.rcp, ite_self]

theorem seats_execPwrWarnRise (dt : Nat) (s : State) : s.KeepsSeats (execPwrWarnRise dt s) := by
  refine State.keepsSeats_of_rcp fun d => ?_
  simp only [Dev.elapse_rcp, apply_ite Dev.rcp, ite_self]

theorem seats_execTwinTakeRx (dt msg v : Nat) (s : State) : s.KeepsSeats (execTwinTakeRx dt msg v s) := by
  refine State.keepsSeats_live fun d => ?_
  split
  · rfl
  · cases h : d.takeChecks (TakeD.output v) (takeSource v) (TakeD.fsOnTake v) (TakeD.time v) none with
    | error st => exact (Dev.raise_rcp ..).trans (Dev.rcp_sendMsg ..)
    | ok r =>
      dsimp only
      rw [Dev.rcp_acceptTake, Dev.rcp_sendMsg, Dev.rcp_logTake, Dev.rcp_takeChecks d (p := r.2) h]

theorem seats_execTakeApply (dt ctx : Nat) (s : State) : s.KeepsSeats (execTakeApply dt ctx s) := by
  refine State.keepsSeats_live fun d => ?_
  simp only [Dev.rcp_applyDue, apply_ite Dev.rcp, ite_self]

theorem seats_execDelayChangeApply (dt ctx : Nat) (s : State) : s.KeepsSeats (execDelayChangeApply dt ctx s) := by
  refine State.keepsSeats_live fun d => ?_
  simp only [Dev.setFlow_rcp, apply_ite Dev.rcp, ite_self]

theorem seats_execLogSectorErase (dt : Nat) (s : State) : s.KeepsSeats (execLogSectorErase dt s) := by
  refine State.keepsSeats_of_rcp fun d => ?_
  simp only [Dev.rcp_eraseSector, Dev.elapse_rcp]

theorem seats_execSalvoPrepare (dt group block : Nat) (s : State) : s.KeepsSeats (execSalvoPrepare dt group block s) := by
  refine State.keepsSeats_live fun d => ?_
  dsimp only
  repeat' split
  all_goals simp only [Dev.rcp_heardMark, Dev.rcp_repeatMark, Dev.rcp_slotTo, Dev.wr_rcp, Dev.rcp_setSalvo, Dev.rcp_preparePart]

theorem seats_execSalvoPrepared (dt slot : Nat) (s : State) : s.KeepsSeats (execSalvoPrepared dt slot s) := by
  refine State.keepsSeats_live fun d => ?_
  split <;> simp only [Dev.rcp_setSalvo, Dev.rcp_slotTo, Dev.wr_rcp, Dev.rcp_abortPart, Dev.rcp_sat, Dev.rcp_voteIn, Dev.rcp_markTo,
    Dev.rcp_markTwin, apply_ite Dev.rcp, ite_self]

theorem seats_execSalvoVoteRx (dt group block : Nat) (s : State) : s.KeepsSeats (execSalvoVoteRx dt group block s) := by
  refine State.keepsSeats_live fun d => ?_
  simp only [Dev.rcp_heardMark, Dev.rcp_setSalvo, Dev.rcp_voteIn, apply_ite Dev.rcp, ite_self]

theorem seats_execSalvoVoteDeadline (dt slot : Nat) (s : State) : s.KeepsSeats (execSalvoVoteDeadline dt slot s) := by
  refine State.keepsSeats_live fun d => ?_
  simp only [Dev.rcp_decideSalvo, apply_ite Dev.rcp, ite_self]

theorem seats_execSalvoCommitRx (dt group block : Nat) (s : State) : s.KeepsSeats (execSalvoCommitRx dt group block s) := by
  refine State.keepsSeats_live fun d => ?_
  simp only [Dev.rcp_heardMark, Dev.rcp_repeatMark, Dev.rcp_commitPart, apply_ite Dev.rcp, ite_self]

theorem seats_execSalvoAbortRx (dt group block : Nat) (s : State) : s.KeepsSeats (execSalvoAbortRx dt group block s) := by
  refine State.keepsSeats_live fun d => ?_
  simp only [Dev.rcp_heardMark, Dev.rcp_repeatMark, Dev.rcp_abortPart, apply_ite Dev.rcp, ite_self]

theorem seats_execSalvoDecideDeadline (dt slot : Nat) (s : State) : s.KeepsSeats (execSalvoDecideDeadline dt slot s) := by
  refine State.keepsSeats_live fun d => ?_
  simp only [Dev.rcp_slotResult, Dev.rcp_abortPart, Dev.raise_rcp, Dev.rcp_sat, Dev.rcp_slotTo, Dev.rcp_sendQuery, Dev.rcp_pendPart,
    apply_ite Dev.rcp, ite_self]

theorem seats_execSalvoQueryTimer (dt slot : Nat) (s : State) : s.KeepsSeats (execSalvoQueryTimer dt slot s) := by
  refine State.keepsSeats_live fun d => ?_
  simp only [Dev.rcp_sendQuery, apply_ite Dev.rcp, ite_self]

theorem seats_execSalvoQueryRx (dt group block : Nat) (s : State) : s.KeepsSeats (execSalvoQueryRx dt group block s) := by
  refine State.keepsSeats_live fun d => ?_
  simp only [Dev.rcp_heardMark, Dev.rcp_sendMark, Dev.rcp_markTwin, apply_ite Dev.rcp, ite_self]

theorem seats_execSalvoTakeTimeReached (dt slot : Nat) (s : State) : s.KeepsSeats (execSalvoTakeTimeReached dt slot s) := by
  refine State.keepsSeats_live fun d => ?_
  simp only [Dev.wr_rcp, Dev.rcp_slotTo, apply_ite Dev.rcp, ite_self]

theorem seats_execServoSample (dt : Nat) (s : State) : s.KeepsSeats (execServoSample dt s) := by
  refine State.keepsSeats_of_rcp fun d => ?_
  dsimp only
  split <;> simp only [Dev.rcp_setTime, Dev.rcp_wrI, Dev.rcp_acquire, Dev.rcp_askChange, Dev.rcp_servoRate, Dev.rcp_servoTo, Dev.rcp_sat,
    Dev.raise_rcp, Dev.elapse_rcp, apply_ite Dev.rcp, ite_self]

theorem seats_execServoSampleTimeout (dt : Nat) (s : State) : s.KeepsSeats (execServoSampleTimeout dt s) := by
  refine State.keepsSeats_of_rcp fun d => ?_
  simp only [Dev.rcp_servoHold, Dev.elapse_rcp, apply_ite Dev.rcp, ite_self]

theorem seats_execServoHoldoverExpiry (dt : Nat) (s : State) : s.KeepsSeats (execServoHoldoverExpiry dt s) := by
  refine State.keepsSeats_of_rcp fun d => ?_
  simp only [Dev.rcp_servoTo, Dev.rcp_setTime, Dev.elapse_rcp, apply_ite Dev.rcp, ite_self]

theorem seats_execTimeOutputEdge (dt output : Nat) (s : State) : s.KeepsSeats (execTimeOutputEdge dt output s) := by
  refine State.keepsSeats_live fun d => ?_
  dsimp only
  repeat' split
  all_goals simp only [Dev.rcp_setTime, Dev.emit_rcp]

theorem seats_execDwlItemRx (dt group lane chars ending : Nat) (cv disparity : Nat × Nat) (skips : Nat) (s : State) :
    s.KeepsSeats (execDwlItemRx dt group lane chars ending cv disparity skips s) := by
  refine State.keepsSeats_lanesRun fun d => ?_
  simp only [Dev.rcp_sat, Dev.rcp_setDl, Dev.rcp_heardTwin, Dev.rcp_takeRank, Dev.rcp_askReplay, Dev.wr_rcp, Dev.rcp_setDg, Dev.rcp_afterReplay,
    Dev.rcp_deliver, apply_ite Dev.rcp, ite_self]

theorem seats_execDwlReplayReqRx (dt group lane block : Nat) (s : State) : s.KeepsSeats (execDwlReplayReqRx dt group lane block s) := by
  refine State.keepsSeats_lanesRun fun d => ?_
  dsimp only
  repeat' split
  all_goals simp only [Dev.rcp_dropSet, Dev.rcp_heardTwin, Dev.rcp_sat, Dev.rcp_swapped, Dev.rcp_rotate, Dev.rcp_setDl, Dev.rcp_laneTo,
    Dev.emit_rcp, Dev.rcp_sendSets, Dev.rcp_sendMarker]

theorem seats_execDwlLaneMarkerRx (dt group lane block : Nat) (s : State) : s.KeepsSeats (execDwlLaneMarkerRx dt group lane block s) := by
  refine State.keepsSeats_lanesRun fun d => Dev.rcp_of_view fun φ hφ => ?_
  have hdrop : ∀ x : Dev, φ (x.dropSet group) = φ x := fun x => by simp only [hφ, Dev.rcp_dropSet]
  have hheard : ∀ x : Dev, φ (x.heardTwin group) = φ x := fun x => by simp only [hφ, Dev.rcp_heardTwin]
  have hdl : ∀ (x : Dev) e f, φ (x.setDl e f) = φ x := fun x e f => by simp only [hφ, Dev.rcp_setDl]
  have hdg : ∀ (x : Dev) f, φ (x.setDg group f) = φ x := fun x f => by simp only [hφ, Dev.rcp_setDg]
  have hgive : ∀ (x : Dev) y k f, φ (((x.laneTo y LaneState.SPARE_PRBS LaneUse.SPARE_READY).setDl y f).abandonSwap group lane k) = φ x :=
    fun x y k f => by simp only [hφ, Dev.rcp_abandonSwap, Dev.rcp_setDl, Dev.rcp_laneTo]
  have hheld : ∀ (x : Dev) f e n, φ ((x.setDg group f).wr D.DwlLane.LCOUNT_RX e n) = φ x := fun x f e n => by simp only [hφ, Dev.wr_rcp,
    Dev.rcp_setDg]
  have hlost : ∀ (x : Dev) e f, φ ((x.setDl e f).raise Src.DWL_REPLAY_LOST (phyOf e)) = φ x := fun x e f => by simp only [hφ, Dev.raise_rcp,
    Dev.rcp_setDl]
  have hdeliver : ∀ (x : Dev) n, φ (x.deliver group n) = φ x := fun x n => by simp only [hφ, Dev.rcp_deliver]
  have hfail : ∀ (x : Dev) e, φ (x.laneFail e) = φ x := fun x e => by simp only [hφ, Dev.rcp_laneFail]
  have hrank : ∀ (x : Dev) e f n, φ ((x.setDl e f).wr D.DwlLane.LCOUNT_RX e n) = φ x := fun x e f n => by simp only [hφ, Dev.wr_rcp, Dev.rcp_setDl]
  have hswap : ∀ (x : Dev) a b, φ (x.swapOut a b) = φ x := fun x a b => by simp only [hφ, Dev.rcp_swapOut]
  extract_lets e r n act d1 x d2 spare c lost d3 d4 d5 d6 g d7
  split
  · rfl
  split
  · exact hdrop d
  rw [← (hheard d : φ d1 = φ d)]
  split
  · rw [← (hdl d1 .. : φ d2 = φ d1)]
    split
    · exact hgive ..
    · rfl
  split
  · split
    · have h5 : φ d5 = φ d1 := (hdeliver ..).trans ((hlost ..).trans (hheld ..))
      rw [← h5]
      split
      · exact hfail ..
      · rfl
    · rfl
  · have h6 : φ d6 = φ d1 := by
      unfold d6
      split
      · exact hrank ..
      · split <;> exact hdl ..
    have h7 : φ d7 = φ d6 := by
      unfold d7
      split
      · exact hdg ..
      · split
        · exact hdg ..
        · rfl
    rw [← h6, ← h7]
    split
    · split
      · exact hswap ..
      · rfl
    · rfl

theorem seats_execDwlMgmtFrameRx (dt group chars : Nat) (s : State) : s.KeepsSeats (execDwlMgmtFrameRx dt group chars s) := by
  refine State.keepsSeats_lanesRun fun d => ?_
  simp only [Dev.rcp_heardTwin, Dev.rcp_message, Dev.rcp_setDg, apply_ite Dev.rcp, ite_self]

theorem seats_execDwlMsgTimeout (dt : Nat) (s : State) : s.KeepsSeats (execDwlMsgTimeout dt s) := by
  refine State.keepsSeats_lanesRun fun d => ?_
  simp only [Dev.rcp_sat, Dev.rcp_setDg, Dev.rcp_each, apply_ite Dev.rcp, ite_self, implies_true]

theorem seats_execDwlTrainingBlockRx (dt group lane block : Nat) (inverted : Bool) (s : State) :
    s.KeepsSeats (execDwlTrainingBlockRx dt group lane block inverted s) := by
  refine State.keepsSeats_lanesRun fun d => ?_
  simp only [Dev.rcp_dropSet, Dev.rcp_laneStart, Dev.rcp_setDl, Dev.rcp_miswired, Dev.rcp_flag, apply_ite Dev.rcp, ite_self]

theorem seats_execDwlStepDwellEnd (dt group lane errors : Nat) (s : State) : s.KeepsSeats (execDwlStepDwellEnd dt group lane errors s) := by
  refine State.keepsSeats_lanesRun fun d => ?_
  simp only [Dev.rcp_stepFailed, Dev.wr_rcp, Dev.rcp_setDl, Dev.rcp_flag, Dev.rcp_laneComplete, apply_ite Dev.rcp, ite_self]

theorem seats_execDwlStepFailure (dt group : Nat) (lane : Nat × Option Nat) (s : State) : s.KeepsSeats (execDwlStepFailure dt group lane s) := by
  refine State.keepsSeats_lanesRun fun d => ?_
  split <;> simp only [Dev.rcp_stepFailed, Dev.rcp_setDl, apply_ite Dev.rcp, ite_self]

theorem seats_execGroupMiswiredRetry (dt group : Nat) (s : State) : s.KeepsSeats (execGroupMiswiredRetry dt group s) := by
  refine State.keepsSeats_lanesRun fun d => ?_
  simp only [Dev.rcp_groupTrain, apply_ite Dev.rcp, ite_self]

theorem seats_execChainFrameTx (dt : Nat) (s : State) : s.KeepsSeats (execChainFrameTx dt s) := by
  refine State.keepsSeats_of_rcp fun d => ?_
  dsimp only
  repeat' split
  all_goals simp only [Dev.rcp_setDwl, Dev.emit_rcp, Dev.elapse_rcp]

theorem seats_execChainFrameRx (dt frame : Nat) (s : State) : s.KeepsSeats (execChainFrameRx dt frame s) := by
  refine State.keepsSeats_lanesRun fun d => ?_
  dsimp only
  repeat' split
  all_goals simp only [Dev.rcp_setDwl, Dev.raise_rcp, Dev.rcp_takePosition]

theorem seats_execChainLost (dt : Nat) (s : State) : s.KeepsSeats (execChainLost dt s) := by
  refine State.keepsSeats_lanesRun fun d => ?_
  simp only [Dev.raise_rcp, Dev.rcp_setDwl, apply_ite Dev.rcp, ite_self]

theorem seats_execMemberReportTx (dt : Nat) (s : State) : s.KeepsSeats (execMemberReportTx dt s) := by
  refine State.keepsSeats_lanesRun fun d => ?_
  repeat' split
  all_goals simp only [Dev.rcp_setDwl, Dev.rcp_sendMsg, apply_ite Dev.rcp, ite_self]

theorem seats_execMemberReportRx (dt group length : Nat) (s : State) : s.KeepsSeats (execMemberReportRx dt group length s) := by
  refine State.keepsSeats_lanesRun fun d => ?_
  simp only [Dev.rcp_ensUpdate, Dev.rcp_setDwl, Dev.wr_rcp, apply_ite Dev.rcp, ite_self]

theorem seats_execChainShortTimeout (dt : Nat) (s : State) : s.KeepsSeats (execChainShortTimeout dt s) := by
  refine State.keepsSeats_lanesRun fun d => ?_
  split <;> simp only [Dev.raise_rcp, Dev.rcp_setDwl, apply_ite Dev.rcp, ite_self]

theorem seats_execBeaconTx (dt group : Nat) (s : State) : s.KeepsSeats (execBeaconTx dt group s) := by
  refine State.keepsSeats_lanesRun fun d => ?_
  simp only [Dev.rcp_report, Dev.rcp_sendSets, Dev.rcp_setDg, apply_ite Dev.rcp, ite_self]

theorem seats_execBeaconRx (dt group block : Nat) (s : State) : s.KeepsSeats (execBeaconRx dt group block s) := by
  refine State.keepsSeats_lanesRun fun d => ?_
  dsimp only
  repeat' split
  all_goals simp only [Dev.rcp_dropSet, Dev.rcp_heardTwin, Dev.rcp_sat, Dev.rcp_setDg, Dev.rcp_followGroup, Dev.rcp_flag, Dev.rcp_wrI,
    Dev.rcp_setTime, Dev.rcp_summarySee]

theorem seats_execBeaconLost (dt group : Nat) (s : State) : s.KeepsSeats (execBeaconLost dt group s) := by
  refine State.keepsSeats_lanesRun fun d => ?_
  simp only [Dev.rcp_sat, Dev.rcp_flag, Dev.rcp_followGroup, Dev.raise_rcp, Dev.rcp_servoHold, apply_ite Dev.rcp, ite_self]

theorem seats_execPtpAnnounceRx (dt iface : Nat) (ann : Announce) (s : State) : s.KeepsSeats (execPtpAnnounceRx dt iface ann s) := by
  refine State.keepsSeats_live fun d => ?_
  simp only [Dev.rcp_sat, Dev.rcp_selectLeader, Dev.rcp_setTime, apply_ite Dev.rcp, ite_self]

theorem seats_execPtpLeaderLost (dt iface sender port : Nat) (s : State) : s.KeepsSeats (execPtpLeaderLost dt iface sender port s) := by
  refine State.keepsSeats_live fun d => ?_
  dsimp only
  split <;> simp only [Dev.rcp_setTime, Dev.rcp_selectLeader, Dev.rcp_sat, apply_ite Dev.rcp, ite_self]

theorem seats_execPtpDelayReqTx (dt iface : Nat) (s : State) : s.KeepsSeats (execPtpDelayReqTx dt iface s) := by
  refine State.keepsSeats_live fun d => ?_
  simp only [Dev.rcp_setTime, Dev.rcp_sat, Dev.rcp_ptpSend, apply_ite Dev.rcp, ite_self]

theorem seats_execPtpEventRx (dt iface : Nat) (m : PtpMsg) (s : State) : s.KeepsSeats (execPtpEventRx dt iface m s) := by
  refine State.keepsSeats_live fun d => ?_
  repeat' split
  all_goals simp only [Dev.rcp_sat, Dev.rcp_setTime, Dev.rcp_ptpSample, Dev.rcp_ptpSend, Dev.rcp_linkDelay, apply_ite Dev.rcp, ite_self]

theorem seats_execTcRelay (dt iface kind domain seq rx : Nat) (corr : Int) (msg : TcMsg) (s : State) :
    s.KeepsSeats (execTcRelay dt iface kind domain seq rx corr msg s) := by
  refine State.keepsSeats_live fun d => ?_
  dsimp only
  repeat' split
  all_goals simp only [Dev.rcp_sat, Dev.rcp_ptpOut, Dev.rcp_each, implies_true]

theorem seats_execLeapSecond (dt : Nat) (s : State) : s.KeepsSeats (execLeapSecond dt s) := by
  refine State.keepsSeats_live fun d => ?_
  split <;> simp only [Dev.rcp_setTime, Dev.rcp_flag, apply_ite Dev.rcp, ite_self]

theorem seats_execTileFail (dt phys : Nat) (s : State) : s.KeepsSeats (execTileFail dt phys s) := by
  refine State.keepsSeats_live fun d => Dev.rcp_of_view fun φ hφ => ?_
  split
  · rfl
  · extract_lets t d1 auto retired
    have h1 : φ d1 = φ d := by simp only [d1, hφ, Dev.rcp_tileFailed]
    have hgone : ∀ (e : Dev) b, φ ((retired e).tileGone t b) = φ e := fun e b => by simp only [retired, hφ, Dev.rcp_tileGone, Dev.rcp_knotAdd]
    rw [← h1]
    split
    · exact hgone ..
    · split
      · simp only [hφ, Dev.rcp_tileTakeSpare, Dev.rcp_knotAdd]
      · split
        · simp only [hφ, Dev.rcp_tileTakeSpare, Dev.rcp_tileGone, Dev.rcp_knotAdd]
        · exact hgone ..

theorem seats_execTileSubstitutionDone (dt tile : Nat) (s : State) : s.KeepsSeats (execTileSubstitutionDone dt tile s) := by
  refine State.keepsSeats_live fun d => ?_
  simp only [Dev.rcp_flag, Dev.rcp_tileFrameStart, Dev.setFlow_rcp, Dev.rcp_each, apply_ite Dev.rcp, ite_self, implies_true]

theorem seats_execTileBistDone (dt phys : Nat) (pass : Bool) (s : State) : s.KeepsSeats (execTileBistDone dt phys pass s) := by
  refine State.keepsSeats_live fun d => ?_
  simp only [Dev.wr_rcp, Dev.rcp_knotAdd, Dev.rcp_tileFailed, apply_ite Dev.rcp, ite_self]

theorem seats_execFsOutputFrame (dt tile : Nat) (chanB : Bool) (lost : Nat) (s : State) :
    s.KeepsSeats (execFsOutputFrame dt tile chanB lost s) := by
  refine State.keepsSeats_live fun d => ?_
  split <;> simp only [Dev.rcp_tileFrameStart, Dev.rcp_setFs, Dev.rcp_readAnc, Dev.rcp_sat, apply_ite Dev.rcp, ite_self]

theorem seats_execFsInputLoss (dt tile : Nat) (chanB : Bool) (s : State) : s.KeepsSeats (execFsInputLoss dt tile chanB s) := by
  refine State.keepsSeats_live fun d => ?_
  dsimp only
  repeat' split
  all_goals simp only [Dev.rcp_flag, Dev.rcp_setFs]

theorem seats_execTwinPairingSend (dt : Nat) (s : State) : s.KeepsSeats (execTwinPairingSend dt s) := by
  refine State.keepsSeats_lanesRun fun d => ?_
  simp only [Dev.rcp_sendPairing, apply_ite Dev.rcp, ite_self]

theorem seats_execTwinPairingRx (dt block : Nat) (s : State) : s.KeepsSeats (execTwinPairingRx dt block s) := by
  refine State.keepsSeats_lanesRun fun d => ?_
  simp only [Dev.rcp_setTwin, Dev.rcp_sendPairing, Dev.rcp_twinTo, Dev.raise_rcp, Dev.wr_rcp, Dev.rcp_sendMsg, apply_ite Dev.rcp, ite_self]

theorem seats_execTwinPairingTimeout (dt : Nat) (s : State) : s.KeepsSeats (execTwinPairingTimeout dt s) := by
  refine State.keepsSeats_lanesRun fun d => ?_
  simp only [Dev.rcp_twinTo, apply_ite Dev.rcp, ite_self]

theorem seats_execTwinReconcile (dt table : Nat) (s : State) : s.KeepsSeats (execTwinReconcile dt table s) := by
  refine State.keepsSeats_live fun d => ?_
  simp only [Dev.rcp_reconcileOne, Dev.rcp_twinTo, Dev.emit_rcp, Dev.rcp_each, apply_ite Dev.rcp, ite_self, implies_true]

theorem seats_execTwinCopyDone (dt : Nat) (stats : List (Nat × Nat × Nat × Nat)) (copy : TwinCopy) (s : State) :
    s.KeepsSeats (execTwinCopyDone dt stats copy s) := by
  refine State.keepsSeats_live fun d => ?_
  simp only [Dev.rcp_takeCopy, Dev.wr_rcp, Dev.rcp_add, Dev.rcp_twinTo, Dev.rcp_setTwin, apply_ite Dev.rcp, ite_self]

theorem seats_execTwinLost (dt : Nat) (reset : Bool) (s : State) : s.KeepsSeats (execTwinLost dt reset s) := by
  refine State.keepsSeats_lanesRun fun d => ?_
  simp only [Dev.rcp_setTwin, Dev.rcp_twinTo, Dev.raise_rcp, Dev.rcp_add, Dev.rcp_sat, apply_ite Dev.rcp, ite_self]

theorem seats_execTwinSignatureRx (dt ctx source boundary crc : Nat) (s : State) :
    s.KeepsSeats (execTwinSignatureRx dt ctx source boundary crc s) := by
  refine State.keepsSeats_live fun d => ?_
  simp only [Dev.rcp_compareSig, Dev.rcp_setTwin, apply_ite Dev.rcp, ite_self]

theorem seats_execTwinAnchorSend (dt : Nat) (s : State) : s.KeepsSeats (execTwinAnchorSend dt s) := by
  refine State.keepsSeats_live fun d => ?_
  split
  · rfl
  · refine (Dev.rcp_each _ _ _ fun e c => ?_).trans (Dev.rcp_setTwin ..)
    rw [Dev.rcp_sendAnchor]
    split
    · exact (Dev.wr_rcp ..).trans (Dev.rcp_flag ..)
    · rfl

theorem seats_execTwinAnchorRx (dt ctx : Nat) (anchor : Nat × Nat) (running : Bool) (s : State) :
    s.KeepsSeats (execTwinAnchorRx dt ctx anchor running s) := by
  refine State.keepsSeats_live fun d => Dev.rcp_of_view fun φ hφ => ?_
  extract_lets n ts seq d1 d2 d3
  split
  · rfl
  ·
    have h1 : φ d1 = φ d := by simp only [d1, hφ, Dev.rcp_flag, Dev.rcp_setTwin]
    have h2 : φ d2 = φ d1 := by simp only [d2, hφ, Dev.rcp_sendAnchor]
    have h3 : φ d3 = φ d2 := by simp only [d3, hφ, Dev.wr_rcp]
    rw [← h1]
    split
    · rfl
    · rw [← h2]
      split
      · rfl
      · rw [← h3]
        split
        · simp only [hφ, Dev.rcp_setNetTx]
        · simp only [hφ, Dev.rcp_flag, Dev.rcp_setNetTx, apply_ite Dev.rcp, ite_self]

theorem seats_execFuseLoadDone (dt words : Nat) (pass : Bool) (s : State) : s.KeepsSeats (execFuseLoadDone dt words pass s) := by
  refine State.keepsSeats_of_rcp fun d => ?_
  simp only [Dev.wr_rcp, Dev.rcp_setRst, Dev.rcp_flag, Dev.rcp_stageEnd, Dev.rcp_startLoad, Dev.raise_rcp, Dev.elapse_rcp, apply_ite Dev.rcp,
    ite_self]

theorem seats_execLogIntervalEnd (dt : Nat) (ok dailyOk : Bool) (s : State) : s.KeepsSeats (execLogIntervalEnd dt ok dailyOk s) := by
  refine State.keepsSeats_of_rcp fun d => ?_
  dsimp only
  repeat' split
  all_goals simp only [Dev.rcp_intervalTurn, Dev.elapse_rcp]

theorem seats_execEventRecordWrite (dt : Nat) (ok : Bool) (s : State) : s.KeepsSeats (execEventRecordWrite dt ok s) := by
  refine State.keepsSeats_of_rcp fun d => ?_
  dsimp only
  repeat' split
  all_goals simp only [Dev.rcp_writeEvent, Dev.elapse_rcp]

theorem seats_execRingVerifyDone (dt : Nat) (s : State) : s.KeepsSeats (execRingVerifyDone dt s) := by
  refine State.keepsSeats_of_rcp fun d => ?_
  dsimp only
  split <;> simp only [Dev.rcp_verified, Dev.elapse_rcp, apply_ite Dev.rcp, ite_self]

theorem seats_execJournalCompaction (dt : Nat) (s : State) : s.KeepsSeats (execJournalCompaction dt s) := by
  refine State.keepsSeats_of_rcp fun d => ?_
  simp only [Dev.rcp_compact, Dev.elapse_rcp, apply_ite Dev.rcp, ite_self]

theorem seats_execMgLinkUp (dt port speed : Nat) (s : State) : s.KeepsSeats (execMgLinkUp dt port speed s) := by
  refine State.keepsSeats_of_rcp fun d => ?_
  simp only [Dev.wr_rcp, Dev.rcp_flag, Dev.drawn_rcp, Dev.elapse_rcp, apply_ite Dev.rcp, ite_self]

end Sys2Proof.Machine
end

section
/-! The commands that do touch the state of RCP (requests in a session, OPEN, resets, and what time does to sessions and exchanges) keep the bounds of
R417 and R446. Only OPEN takes a seat, and it asks for room first. -/

namespace Sys2Proof.Machine
open Sys2Proof

section
variable {s : State} {act : Who → Dev → Dev × Nat} {me : Instr} {q : Rcp} {ix sub offset : Nat} {v : Bytes}

theorem State.keepsSeats_serveWrite_le (hact : ∀ w e, (act w e).1.rcp.seats ≤ e.rcp.seats) : s.KeepsSeats (s.act (serveWrite me q ix sub v act)) :=
  State.keepsSeats_of_le fun d => seats_serveWrite hact me q ix sub v d

theorem State.keepsSeats_serveWrite (hact : ∀ w e, (act w e).1.rcp = e.rcp) : s.KeepsSeats (s.act (serveWrite me q ix sub v act)) :=
  State.keepsSeats_serveWrite_le fun w e => Dev.seats_le_of_rcp (hact w e)

theorem State.keepsSeats_serveDom_le (hact : ∀ w e, (act w e).1.rcp.seats ≤ e.rcp.seats) : s.KeepsSeats (s.act (serveDom me q ix sub offset v act)) :=
  State.keepsSeats_of_le fun d => seats_serveDom hact me q ix sub offset v d

theorem State.keepsSeats_serveDom (hact : ∀ w e, (act w e).1.rcp = e.rcp) : s.KeepsSeats (s.act (serveDom me q ix sub offset v act)) :=
  State.keepsSeats_serveDom_le fun w e => Dev.seats_le_of_rcp (hact w e)

theorem State.keepsSeats_serveDomMem (hact : ∀ w e, (act w e).1.rcp = e.rcp) : s.KeepsSeats (s.actMem (serveDom me q ix sub offset v act)) :=
  State.keepsSeats_actMem fun d => seats_serveDom (fun w e => Dev.seats_le_of_rcp (hact w e)) me q ix sub offset v d

theorem State.keepsSeats_serve {body : Who → Dev → Dev × Reply} {anon early : Bool} {at_ : Option Nat}
    (hbody : ∀ w e, (body w e).1.rcp.seats ≤ e.rcp.seats) : s.KeepsSeats (s.act (serve me q anon early at_ body)) :=
  State.keepsSeats_of_le fun d => seats_serve hbody me q anon early at_ d
end

theorem Dev.seats_elapse (d : Dev) (dt : Nat) : (d.elapse dt).rcp.seats = d.rcp.seats := congrArg RcpSt.seats (Dev.elapse_rcp ..)

theorem Dev.seats_live (d : Dev) (dt : Nat) (f : Dev → Dev) (hf : ∀ e, (f e).rcp.seats ≤ e.rcp.seats) : (d.live dt f).rcp.seats ≤ d.rcp.seats :=
  Dev.seats_ite ((hf _).trans (Dev.seats_elapse ..).le) (Dev.seats_elapse ..).le

section
variable {s : State} {q : Rcp} {me : Instr} {ix sub offset k n seq op : Nat} {b v : Bytes}

theorem State.keepsSeats_dpllCmd : s.KeepsSeats (s.act (serveWrite me q ix sub b fun _ d => d.dpllCmd n)) :=
  State.keepsSeats_serveWrite fun _ _ => Dev.rcp_dpllCmd ..

theorem State.keepsSeats_busCmd : s.KeepsSeats (s.act (serveWrite me q ix sub b fun _ d => d.busCmd n)) :=
  State.keepsSeats_serveWrite fun _ _ => Dev.rcp_busCmd ..

theorem State.keepsSeats_ownerCmd : s.KeepsSeats (s.act (serveDom me q ix sub offset b fun w d => d.ownerCmd w v)) :=
  State.keepsSeats_serveDom_le fun _ _ => Dev.seats_ownerCmd ..

theorem State.keepsSeats_updateCmd : s.KeepsSeats (s.act (serveWrite me q ix sub b fun w d => d.updateCmd w n)) :=
  State.keepsSeats_serveWrite_le fun _ _ => Dev.seats_updateCmd ..

theorem State.keepsSeats_faultCmd : s.KeepsSeats (s.act (serveWrite me q ix sub b fun w d => d.faultCmd w n)) :=
  State.keepsSeats_serveWrite fun _ _ => Dev.rcp_faultCmd ..

theorem State.keepsSeats_chanCmd : s.KeepsSeats (s.act (serveWrite me q ix sub b fun _ d => d.chanCmd n)) :=
  State.keepsSeats_serveWrite fun _ _ => Dev.rcp_chanCmd ..

theorem State.keepsSeats_laneCmd : s.KeepsSeats (s.act (serveWrite me q ix sub b fun _ d => d.laneCmd n)) :=
  State.keepsSeats_serveWrite fun _ _ => Dev.rcp_laneCmd ..

theorem State.keepsSeats_resetCmd : s.KeepsSeats (s.act (serveWrite me q ix sub b fun _ d => d.resetCmd n)) :=
  State.keepsSeats_serveWrite fun _ _ => Dev.rcp_resetCmd ..

theorem State.keepsSeats_salvoControl : s.KeepsSeats (s.act (serveWrite me q ix sub b fun w d => d.salvoControl k n w seq op)) :=
  State.keepsSeats_serveWrite fun _ _ => Dev.rcp_salvoControl ..

theorem State.keepsSeats_servoCmd : s.KeepsSeats (s.act (serveWrite me q ix sub b fun w d => d.servoCmd w.session op n)) :=
  State.keepsSeats_serveWrite fun _ _ => Dev.rcp_servoCmd ..

theorem State.keepsSeats_tileCmd : s.KeepsSeats (s.act (serveWrite me q ix sub b fun _ d => d.tileCmd n)) :=
  State.keepsSeats_serveWrite fun _ _ => Dev.rcp_tileCmd ..

theorem State.keepsSeats_writeEntry : s.KeepsSeats (s.act (serveWrite me q ix sub b fun w d => d.writeEntry w q ix sub offset v)) :=
  State.keepsSeats_serveWrite_le fun _ _ => Dev.seats_writeEntry ..

end

theorem seats_execDpllCmdPhaseStep (q : Rcp) (dpll : Nat) (value : Int) (s : State) : s.KeepsSeats (execDpllCmdPhaseStep q dpll value s) :=
  State.keepsSeats_dpllCmd

theorem seats_execDpllCmdClearBuildout (q : Rcp) (dpll : Nat) (s : State) : s.KeepsSeats (execDpllCmdClearBuildout q dpll s) :=
  State.keepsSeats_dpllCmd

theorem seats_execPlaneCmdResetX (q : Rcp) (s : State) : s.KeepsSeats (execPlaneCmdResetX q s) :=
  State.keepsSeats_serveWrite fun _ _ => Dev.rcp_resetPlane ..

theorem seats_execPlaneCmdResetY (q : Rcp) (s : State) : s.KeepsSeats (execPlaneCmdResetY q s) :=
  State.keepsSeats_serveWrite fun _ _ => Dev.rcp_resetPlane ..

theorem seats_execPlaneCmdSwap (q : Rcp) (s : State) : s.KeepsSeats (execPlaneCmdSwap q s) :=
  State.keepsSeats_serveWrite fun _ _ => Dev.rcp_swapCmd ..

theorem seats_execBusCmdUnisolate (q : Rcp) (target : Nat) (s : State) : s.KeepsSeats (execBusCmdUnisolate q target s) :=
  State.keepsSeats_busCmd

theorem seats_execBusCmdIsolate (q : Rcp) (target : Nat) (s : State) : s.KeepsSeats (execBusCmdIsolate q target s) :=
  State.keepsSeats_busCmd

theorem seats_execBusCmdLogClear (q : Rcp) (s : State) : s.KeepsSeats (execBusCmdLogClear q s) :=
  State.keepsSeats_busCmd

theorem seats_execVeneerWrite (q : Rcp) (veneer x y w h : Nat) (back : Bool) (pixels : Nat) (s : State) :
    s.KeepsSeats (execVeneerWrite q veneer x y w h back pixels s) :=
  State.keepsSeats_serveDomMem fun _ _ => Dev.rcp_veneerWrite ..

theorem seats_execVeneerFlip (q : Rcp) (veneer : Nat) (s : State) : s.KeepsSeats (execVeneerFlip q veneer s) :=
  State.keepsSeats_serveWrite fun _ _ => Dev.rcp_veneerCmd ..

theorem seats_execTallyWrite (q : Rcp) (engine value : Nat) (s : State) : s.KeepsSeats (execTallyWrite q engine value s) :=
  State.keepsSeats_serveWrite fun _ _ => (rcp_kept ..).trans (Dev.rcp_tallyWrite ..)

theorem seats_execOwnerCmdEnrol (q : Rcp) (nonce policy pub sig : Nat) (s : State) : s.KeepsSeats (execOwnerCmdEnrol q nonce policy pub sig s) :=
  State.keepsSeats_ownerCmd

theorem seats_execOwnerCmdTransfer (q : Rcp) (nonce policy pub newSig ownerSig : Nat) (s : State) :
    s.KeepsSeats (execOwnerCmdTransfer q nonce policy pub newSig ownerSig s) :=
  State.keepsSeats_ownerCmd

theorem seats_execOwnerCmdRelease (q : Rcp) (nonce ownerSig : Nat) (s : State) : s.KeepsSeats (execOwnerCmdRelease q nonce ownerSig s) :=
  State.keepsSeats_ownerCmd

theorem seats_execAttestNonce (q : Rcp) (nonce : Nat) (s : State) : s.KeepsSeats (execAttestNonce q nonce s) :=
  State.keepsSeats_serveWrite fun _ _ => Dev.rcp_makeQuote ..

theorem seats_execDebugToken (q : Rcp) (serial nonce sig : Nat) (s : State) : s.KeepsSeats (execDebugToken q serial nonce sig s) :=
  State.keepsSeats_serveDom fun _ _ => Dev.rcp_debugCmd ..

theorem seats_execUpdateBegin (q : Rcp) (s : State) : s.KeepsSeats (execUpdateBegin q s) :=
  State.keepsSeats_updateCmd

theorem seats_execManifestIn (q : Rcp) (v : Nat) (s : State) : s.KeepsSeats (execManifestIn q v s) :=
  State.keepsSeats_serveDom fun _ _ => Dev.rcp_manifestIn ..

theorem seats_execImageWrite (q : Rcp) (kind : Nat) (v : Bytes) (s : State) : s.KeepsSeats (execImageWrite q kind v s) :=
  State.keepsSeats_serveDom fun _ _ => Dev.rcp_imageIn ..

theorem seats_execUpdateEnd (q : Rcp) (s : State) : s.KeepsSeats (execUpdateEnd q s) :=
  State.keepsSeats_updateCmd

theorem seats_execUpdateAbort (q : Rcp) (s : State) : s.KeepsSeats (execUpdateAbort q s) :=
  State.keepsSeats_updateCmd

theorem seats_execActivateInService (q : Rcp) (s : State) : s.KeepsSeats (execActivateInService q s) :=
  State.keepsSeats_updateCmd

theorem seats_execActivationStepDone (dt : Nat) (s : State) : s.KeepsSeats (execActivationStepDone dt s) := by
  refine State.keepsSeats_of_le fun d => le_of_le_of_eq ?_ (Dev.seats_elapse d dt)
  generalize d.elapse dt = e
  dsimp only
  split
  · exact le_rfl
  · refine Dev.seats_ite le_rfl ?_
    refine (Dev.seats_nextStep _).trans ?_
    rw [Dev.rcp_measureKinds, Dev.rcp_setSec]

theorem seats_execActivateRestart (q : Rcp) (s : State) : s.KeepsSeats (execActivateRestart q s) :=
  State.keepsSeats_updateCmd

theorem seats_execUpdateAccept (q : Rcp) (s : State) : s.KeepsSeats (execUpdateAccept q s) :=
  State.keepsSeats_updateCmd

theorem seats_execUpdateReject (q : Rcp) (s : State) : s.KeepsSeats (execUpdateReject q s) :=
  State.keepsSeats_updateCmd

theorem seats_execUpdateRecover (q : Rcp) (s : State) : s.KeepsSeats (execUpdateRecover q s) :=
  State.keepsSeats_updateCmd

theorem seats_execFallbackDone (dt : Nat) (s : State) : s.KeepsSeats (execFallbackDone dt s) := by
  refine State.keepsSeats_of_le fun d => le_of_le_of_eq ?_ (Dev.seats_elapse d dt)
  generalize d.elapse dt = e
  exact Dev.seats_ite le_rfl (Dev.seats_fallbackLive e).le

theorem seats_execFaultCmdClear (q : Rcp) (src : Nat) (s : State) : s.KeepsSeats (execFaultCmdClear q src s) :=
  State.keepsSeats_faultCmd

theorem seats_execFaultCmdClearGroup (q : Rcp) (src : Nat) (s : State) : s.KeepsSeats (execFaultCmdClearGroup q src s) :=
  State.keepsSeats_faultCmd

theorem seats_execFaultCmdClearAll (q : Rcp) (s : State) : s.KeepsSeats (execFaultCmdClearAll q s) :=
  State.keepsSeats_faultCmd

theorem seats_execFaultCmdFirstClear (q : Rcp) (s : State) : s.KeepsSeats (execFaultCmdFirstClear q s) :=
  State.keepsSeats_faultCmd

theorem seats_execFaultCmdSummaryClear (q : Rcp) (s : State) : s.KeepsSeats (execFaultCmdSummaryClear q s) :=
  State.keepsSeats_faultCmd

theorem seats_execFaultCmdBlkrst (q : Rcp) (src inst : Nat) (s : State) : s.KeepsSeats (execFaultCmdBlkrst q src inst s) :=
  State.keepsSeats_faultCmd

theorem seats_execFaultCmdChiprst (q : Rcp) (src : Nat) (s : State) : s.KeepsSeats (execFaultCmdChiprst q src s) :=
  State.keepsSeats_faultCmd

theorem seats_execFaultCmdInject (q : Rcp) (src inst : Nat) (s : State) : s.KeepsSeats (execFaultCmdInject q src inst s) :=
  State.keepsSeats_faultCmd

theorem seats_execChanCmdRetrain (q : Rcp) (chan : Nat) (s : State) : s.KeepsSeats (execChanCmdRetrain q chan s) :=
  State.keepsSeats_chanCmd

theorem seats_execChanCmdRetire (q : Rcp) (chan : Nat) (s : State) : s.KeepsSeats (execChanCmdRetire q chan s) :=
  State.keepsSeats_chanCmd

theorem seats_execChanCmdRestore (q : Rcp) (chan : Nat) (s : State) : s.KeepsSeats (execChanCmdRestore q chan s) :=
  State.keepsSeats_chanCmd

theorem seats_execCtrlTx (q : Rcp) (v : Bytes) (s : State) : s.KeepsSeats (execCtrlTx q v s) :=
  State.keepsSeats_serveDom fun _ _ => Dev.rcp_ctrlTx ..

theorem seats_execLaneCmdStep (q : Rcp) (lane : Nat) (s : State) : s.KeepsSeats (execLaneCmdStep q lane s) :=
  State.keepsSeats_laneCmd

theorem seats_execLaneCmdSwapOut (q : Rcp) (lane : Nat) (s : State) : s.KeepsSeats (execLaneCmdSwapOut q lane s) :=
  State.keepsSeats_laneCmd

theorem seats_execLaneCmdRetrain (q : Rcp) (lane : Nat) (s : State) : s.KeepsSeats (execLaneCmdRetrain q lane s) :=
  State.keepsSeats_laneCmd

theorem seats_execLaneCmdMarginScan (q : Rcp) (target lane : Nat) (s : State) : s.KeepsSeats (execLaneCmdMarginScan q target lane s) :=
  State.keepsSeats_laneCmd

theorem seats_execLaneCmdMarginAbort (q : Rcp) (lane : Nat) (s : State) : s.KeepsSeats (execLaneCmdMarginAbort q lane s) :=
  State.keepsSeats_laneCmd

theorem seats_execPorstAssert (dt low : Nat) (s : State) : s.KeepsSeats (execPorstAssert dt low s) :=
  State.keepsSeats_actReset fun _ =>
    Dev.seats_ite (Dev.seats_elapse ..).le ((Dev.seats_porNow ..).trans (Dev.seats_elapse ..).le)

theorem seats_execSupplyFault (dt kind ns : Nat) (s : State) : s.KeepsSeats (execSupplyFault dt kind ns s) := by
  refine State.keepsSeats_actReset fun d => ?_
  have hel : ∀ n, (d.elapse n).rcp.seats ≤ d.rcp.seats := fun n => (Dev.seats_elapse ..).le
  have hpor : ∀ n t, ((d.elapse n).porNow 0x02 t).rcp.seats ≤ d.rcp.seats := fun n t => (Dev.seats_porNow ..).trans (hel n)
  exact Dev.seats_ite (Dev.seats_ite (hpor ..) (hel _)) (Dev.seats_ite (hel _) (hpor ..))

theorem seats_execResetCmdCold (q : Rcp) (s : State) : s.KeepsSeats (execResetCmdCold q s) :=
  State.keepsSeats_resetCmd

theorem seats_execResetCmdWarm (q : Rcp) (s : State) : s.KeepsSeats (execResetCmdWarm q s) :=
  State.keepsSeats_resetCmd

theorem seats_execResetCmdDomain (q : Rcp) (dom : Nat) (s : State) : s.KeepsSeats (execResetCmdDomain q dom s) :=
  State.keepsSeats_resetCmd

theorem seats_execResetAssert (dt n : Nat) (s : State) : s.KeepsSeats (execResetAssert dt n s) := by
  refine State.keepsSeats_actReset fun d => le_of_le_of_eq ?_ (Dev.seats_elapse d dt)
  generalize d.elapse dt = e
  dsimp only
  split
  · exact le_rfl
  · exact (Dev.seats_assertReset ..).trans (Dev.seats_le_of_rcp (Dev.rcp_setRst ..))

theorem seats_execThermalSample (dt : Nat) (temp : Int) (s : State) : s.KeepsSeats (execThermalSample dt temp s) := by
  refine State.keepsSeats_actReset fun d => le_of_le_of_eq ?_ (Dev.seats_elapse d dt)
  refine (Dev.seats_tempTrip ..).trans (Dev.seats_le_of_rcp ?_)
  simp only [Dev.rcp_histTick, Dev.rcp_tempCrit, Dev.rcp_tempLow, Dev.rcp_tempHigh, Dev.rcp_setPwr]

theorem seats_execOpenHello (q : Rcp) (id offset total : Nat) (v : Bytes) (s : State) : s.KeepsSeats (execOpenHello q id offset total v s) := by
  refine State.keepsSeats_act fun d hd => Dev.seats_openServe (fun e he => ?_) hd _ _
  have hfail : ∀ st, (e.openFail q st).rcp.seats ≤ (16, 4) := fun st => (Dev.seats_le_of_rcp (Dev.rcp_openFail ..)).trans he
  refine Dev.seats_ite (hfail _) ?_
  split
  · refine Dev.seats_ite (hfail _) ?_
    split
    · exact hfail _
    case isFalse hroom =>
      refine Dev.seats_ite (hfail _) ?_
      rw [Dev.rcp_openSay]
      exact ⟨he.1, (List.length_append ..).trans_le (Nat.lt_of_not_le (not_or.mp hroom).1)⟩
  · refine Dev.seats_ite ?_ (Dev.seats_ite ?_ (Dev.seats_ite ?_ ?_))
    · rw [Dev.rcp_openFail, Dev.seats_setOpen]
      exact he
    · rw [Dev.rcp_openSay, Dev.seats_setOpen]
      exact he
    · rw [Dev.rcp_openFail]
      exact (Dev.seats_dropOpen ..).trans he
    · rw [Dev.seats_challenge]
      exact he

theorem seats_execOpenChallengeFetch (q : Rcp) (id offset : Nat) (s : State) : s.KeepsSeats (execOpenChallengeFetch q id offset s) := by
  refine State.keepsSeats_act fun d hd => Dev.seats_openServe (fun e he => ?_) hd _ _
  have hfail : ∀ (x : Dev) st, x.rcp.seats ≤ (16, 4) → (x.openFail q st).rcp.seats ≤ (16, 4) := fun x st hx =>
    (Dev.seats_le_of_rcp (Dev.rcp_openFail ..)).trans hx
  split
  · exact hfail _ _ he
  · have hset : (e.setOpen q id fun x => x).rcp.seats ≤ (16, 4) := by rwa [Dev.seats_setOpen]
    refine Dev.seats_ite (hfail _ _ hset) (Dev.seats_ite (hfail _ _ hset) ?_)
    rwa [Dev.rcp_openSay]

theorem seats_execOpenResponse (q : Rcp) (id offset total : Nat) (v : Bytes) (s : State) :
    s.KeepsSeats (execOpenResponse q id offset total v s) := by
  refine State.keepsSeats_act fun d hd => Dev.seats_openServe (fun e he => ?_) hd _ _
  have hfail : ∀ (x : Dev) st, x.rcp.seats ≤ (16, 4) → (x.openFail q st).rcp.seats ≤ (16, 4) := fun x st hx =>
    (Dev.seats_le_of_rcp (Dev.rcp_openFail ..)).trans hx
  split
  · exact hfail _ _ he
  · have hset : (e.setOpen q id fun x => x).rcp.seats ≤ (16, 4) := by rwa [Dev.seats_setOpen]
    refine Dev.seats_ite (hfail _ _ hset) (Dev.seats_ite (hfail _ _ hset) (Dev.seats_ite ?_ (Dev.seats_openEnd hset ..)))
    rwa [Dev.rcp_openSay, Dev.seats_setOpen]

theorem seats_execOpenExchangeTimeout (dt : Nat) (s : State) : s.KeepsSeats (execOpenExchangeTimeout dt s) := by
  refine State.keepsSeats_of_le fun d => le_of_le_of_eq ?_ (Dev.seats_elapse d dt)
  generalize d.elapse dt = e
  exact ⟨le_rfl, List.length_filter_le ..⟩

theorem seats_execIslandRequest (q : Rcp) (island v : Nat) (s : State) : s.KeepsSeats (execIslandRequest q island v s) :=
  State.keepsSeats_serveDom fun _ _ => Dev.rcp_islandWrite ..

theorem seats_execTake (q : Rcp) (v : Nat) (s : State) : s.KeepsSeats (execTake q v s) :=
  State.keepsSeats_serveWrite fun _ _ => Dev.rcp_take ..

theorem seats_execTwinTakeAck (dt msg status : Nat) (s : State) : s.KeepsSeats (execTwinTakeAck dt msg status s) := by
  refine State.keepsSeats_of_le fun d => d.seats_live dt _ fun e => ?_
  split
  · exact le_rfl
  · rw [Dev.seats_endAsk]
    exact Dev.seats_ite le_rfl (Dev.seats_le_of_rcp (Dev.rcp_sat ..))

theorem seats_execTwinTakeTimeout (dt : Nat) (s : State) : s.KeepsSeats (execTwinTakeTimeout dt s) := by
  refine State.keepsSeats_of_le fun d => d.seats_live dt _ fun e => ?_
  split
  · exact le_rfl
  · refine Dev.seats_ite le_rfl ?_
    rw [Dev.seats_endAsk, Dev.raise_rcp, Dev.rcp_sat]

theorem seats_execSalvoChangesWrite (q : Rcp) (slot offset : Nat) (v : Bytes) (s : State) :
    s.KeepsSeats (execSalvoChangesWrite q slot offset v s) :=
  State.keepsSeats_serveDom fun _ _ => Dev.rcp_writeChanges ..

theorem seats_execSalvoTakeTimeWrite (q : Rcp) (slot v : Nat) (s : State) : s.KeepsSeats (execSalvoTakeTimeWrite q slot v s) :=
  State.keepsSeats_serveWrite fun _ _ => Dev.rcp_writeTakeTime ..

theorem seats_execSalvoArm (q : Rcp) (slot : Nat) (s : State) : s.KeepsSeats (execSalvoArm q slot s) :=
  State.keepsSeats_salvoControl

theorem seats_execSalvoAbort (q : Rcp) (slot : Nat) (s : State) : s.KeepsSeats (execSalvoAbort q slot s) :=
  State.keepsSeats_salvoControl

theorem seats_execSalvoClear (q : Rcp) (slot : Nat) (s : State) : s.KeepsSeats (execSalvoClear q slot s) :=
  State.keepsSeats_salvoControl

theorem seats_execSalvoCommitCmd (q : Rcp) (slot : Nat) (s : State) : s.KeepsSeats (execSalvoCommitCmd q slot s) :=
  State.keepsSeats_salvoControl

theorem seats_execSalvoDecisionLogged (dt slot : Nat) (s : State) : s.KeepsSeats (execSalvoDecisionLogged dt slot s) := by
  refine State.keepsSeats_of_le fun d => d.seats_live dt _ fun e => ?_
  split
  · exact le_rfl
  · dsimp only
    split <;> simp only [Dev.seats_answerLate, Dev.rcp_setSalvo, Dev.rcp_broadcast, Dev.rcp_commitPart, Dev.rcp_abortPart, Dev.rcp_logTake, Dev.wr_rcp,
      apply_ite Dev.rcp, ite_self, le_refl]

theorem seats_execTimeChangeover (dt : Nat) (s : State) : s.KeepsSeats (execTimeChangeover dt s) := by
  refine State.keepsSeats_of_le fun d => le_of_le_of_eq ?_ (Dev.seats_elapse d dt)
  generalize d.elapse dt = e
  refine Dev.seats_ite le_rfl ?_
  split
  · refine Dev.seats_ite le_rfl ?_
    dsimp only
    split <;> simp only [Dev.seats_answerLate, Dev.rcp_setTime, Dev.rcp_stepTime, Dev.rcp_setRate, apply_ite Dev.rcp, ite_self, le_refl]
  · split
    · exact Dev.seats_le_of_rcp ((Dev.rcp_setTime ..).trans (Dev.rcp_setRate ..))
    · exact le_rfl

theorem seats_execServoCmdStep (q : Rcp) (value : Int) (s : State) : s.KeepsSeats (execServoCmdStep q value s) :=
  State.keepsSeats_servoCmd

theorem seats_execServoCmdSetRate (q : Rcp) (value : Int) (s : State) : s.KeepsSeats (execServoCmdSetRate q value s) :=
  State.keepsSeats_servoCmd

theorem seats_execServoCmdAddRate (q : Rcp) (value : Int) (s : State) : s.KeepsSeats (execServoCmdAddRate q value s) :=
  State.keepsSeats_servoCmd

theorem seats_execTileCmdSubstitute (q : Rcp) (tile : Nat) (s : State) : s.KeepsSeats (execTileCmdSubstitute q tile s) :=
  State.keepsSeats_tileCmd

theorem seats_execTileCmdRestore (q : Rcp) (phys : Nat) (s : State) : s.KeepsSeats (execTileCmdRestore q phys s) :=
  State.keepsSeats_tileCmd

theorem seats_execTileCmdTest (q : Rcp) (phys : Nat) (s : State) : s.KeepsSeats (execTileCmdTest q phys s) :=
  State.keepsSeats_tileCmd

theorem seats_execTwinCmdMakeActive (q : Rcp) (s : State) : s.KeepsSeats (execTwinCmdMakeActive q s) :=
  State.keepsSeats_serveWrite fun _ _ => Dev.rcp_twinCmd ..

theorem seats_execStartupStageDone (dt gbit : Nat) (failed tiles engines planes : List Nat) (slices : List (Nat × Nat)) (s : State) :
    s.KeepsSeats (execStartupStageDone dt gbit failed tiles engines planes slices s) := by
  refine State.keepsSeats_of_le fun d => le_of_le_of_eq ?_ (Dev.seats_elapse d dt)
  generalize d.elapse dt = e
  refine Dev.seats_ite le_rfl (Dev.seats_ite (Dev.seats_romDone ..).le ?_)
  refine Dev.seats_ite (Dev.seats_ite le_rfl (Dev.seats_le_of_rcp (Dev.rcp_controllersDone ..))) ?_
  refine Dev.seats_ite ((Dev.seats_le_of_rcp (Dev.rcp_enterResources _)).trans (Dev.seats_settingsDone e).le) ?_
  exact Dev.seats_ite (Dev.seats_le_of_rcp (Dev.rcp_enterService ..)) (Dev.seats_ite (Dev.seats_le_of_rcp (Dev.rcp_stageEnd ..)) le_rfl)

theorem seats_execRead (q : Rcp) (ix sub : Nat) (s : State) : s.KeepsSeats (execRead q ix sub s) :=
  State.keepsSeats_serve fun _ _ => Dev.seats_le_of_rcp (Dev.rcp_readBody ..)

theorem seats_execReadDom (q : Rcp) (ix sub flags offset length : Nat) (s : State) : s.KeepsSeats (execReadDom q ix sub flags offset length s) :=
  State.keepsSeats_serve fun _ _ => (Dev.seats_readDomBody ..).le

theorem seats_execTransferTimeout (dt session : Nat) (s : State) : s.KeepsSeats (execTransferTimeout dt session s) := by
  refine State.keepsSeats_of_le fun d => le_of_le_of_eq ?_ (Dev.seats_elapse d dt)
  generalize d.elapse dt = e
  dsimp only
  split
  · exact Dev.seats_ite (Dev.seats_setXfer ..).le le_rfl
  · exact le_rfl

theorem seats_execRingCmdVerify (q : Rcp) (tier : Nat) (s : State) : s.KeepsSeats (execRingCmdVerify q tier s) :=
  State.keepsSeats_serveWrite fun _ _ => Dev.rcp_ringCmd ..

theorem seats_execWrite (q : Rcp) (ix sub : Nat) (v : Bytes) (s : State) : s.KeepsSeats (execWrite q ix sub v s) :=
  State.keepsSeats_writeEntry

theorem seats_execWriteDom (q : Rcp) (ix sub flags offset : Nat) (v : Bytes) (s : State) : s.KeepsSeats (execWriteDom q ix sub flags offset v s) :=
  State.keepsSeats_actMem fun _ => seats_serve (fun _ _ => Dev.seats_writeDomBody ..) ..

theorem seats_execModeWrite (q : Rcp) (ix : Nat) (v : Bytes) (s : State) : s.KeepsSeats (execModeWrite q ix v s) :=
  State.keepsSeats_writeEntry

theorem seats_execGroupAbort (q : Rcp) (v : Bytes) (s : State) : s.KeepsSeats (execGroupAbort q v s) :=
  State.keepsSeats_serveWrite_le fun _ _ => le_of_eq (Dev.seats_abortGroup ..)

theorem seats_execCommit (q : Rcp) (s : State) : s.KeepsSeats (execCommit q s) :=
  State.keepsSeats_serve fun _ _ => (Dev.seats_commitBody ..).le

theorem seats_execHeldRequestDiscard (dt session : Nat) (s : State) : s.KeepsSeats (execHeldRequestDiscard dt session s) := by
  refine State.keepsSeats_of_le fun d => le_of_le_of_eq ?_ (Dev.seats_elapse d dt)
  generalize d.elapse dt = e
  dsimp only
  split
  · exact le_rfl
  · exact Dev.seats_ite le_rfl (Dev.seats_setSession ..).le

theorem seats_execDiscard (q : Rcp) (s : State) : s.KeepsSeats (execDiscard q s) := by
  refine State.keepsSeats_serve fun _ _ => ?_
  split
  · exact (Dev.seats_dropGroup _).le
  · exact le_rfl

theorem seats_execGroupIdleDiscard (dt : Nat) (s : State) : s.KeepsSeats (execGroupIdleDiscard dt s) := by
  refine State.keepsSeats_of_le fun d => le_of_le_of_eq ?_ (Dev.seats_elapse d dt)
  generalize d.elapse dt = e
  dsimp only
  split
  · exact le_rfl
  · exact Dev.seats_ite ((Dev.seats_setSession ..).trans (Dev.seats_dropGroup _)).le le_rfl

theorem seats_execSubscribe (q : Rcp) (first last minMs : Nat) (s : State) : s.KeepsSeats (execSubscribe q first last minMs s) :=
  State.keepsSeats_serve fun _ _ => (Dev.seats_subscribe ..).le

theorem seats_execUnsubscribe (q : Rcp) (id : Nat) (s : State) : s.KeepsSeats (execUnsubscribe q id s) := by
  refine State.keepsSeats_serve fun _ _ => ?_
  split
  · exact le_rfl
  · split
    · exact (Dev.seats_setSession ..).le
    · exact le_rfl

theorem seats_execNotifySend (dt session id : Nat) (leave : Bool) (s : State) : s.KeepsSeats (execNotifySend dt session id leave s) := by
  refine State.keepsSeats_of_le fun d => le_of_le_of_eq ?_ (Dev.seats_elapse d dt)
  generalize d.elapse dt = e
  dsimp only
  split
  · exact le_rfl
  · split
    · exact le_rfl
    · exact Dev.seats_ite (Dev.seats_noteLeaves ..).le (Dev.seats_noteChanges ..).le

theorem seats_execClose (q : Rcp) (s : State) : s.KeepsSeats (execClose q s) := by
  refine State.keepsSeats_of_le fun d => ?_
  have hserve := seats_serve (body := fun _ d => (d, Reply.of St.OK)) (fun _ _ => le_rfl) (.close q.again) q false false none d
  extract_lets before open_ d1
  split
  · exact Dev.seats_ite ((Dev.seats_closeSession ..).trans hserve) hserve
  · exact hserve

theorem seats_execKeepalive (q : Rcp) (s : State) : s.KeepsSeats (execKeepalive q s) :=
  State.keepsSeats_serve fun _ _ => le_rfl

theorem seats_execSessionIdleExpiry (dt session : Nat) (s : State) : s.KeepsSeats (execSessionIdleExpiry dt session s) := by
  refine State.keepsSeats_of_le fun d => le_of_le_of_eq ?_ (Dev.seats_elapse d dt)
  generalize d.elapse dt = e
  dsimp only
  split
  · exact le_rfl
  · exact Dev.seats_ite (Dev.seats_closeSession ..) le_rfl

theorem seats_execDiscover (q : Rcp) (multicast : Bool) (s : State) : s.KeepsSeats (execDiscover q multicast s) := by
  refine State.keepsSeats_of_le fun d => ?_
  refine Dev.seats_ite (Dev.seats_elapse ..).le ?_
  refine Dev.seats_ite (seats_serve (body := fun _ d => (d, ⟨St.OK, d.discoverPayload⟩)) (fun _ _ => le_rfl) (.discover q.again multicast) q ..) ?_
  refine le_of_le_of_eq ?_ (Dev.seats_elapse d q.dt)
  generalize d.elapse q.dt = e
  refine Dev.seats_le_of_rcp ?_
  simp only [Dev.rcp_mgRx, Dev.rcp_postpone, Dev.rcp_sendOn, Dev.rcp_mgAccept, Dev.rcp_dropFrame, apply_ite Dev.rcp, ite_self]

theorem seats_execModeChangeEffect (dt ix : Nat) (s : State) : s.KeepsSeats (execModeChangeEffect dt ix s) := by
  refine State.keepsSeats_of_le fun d => le_of_le_of_eq ?_ (Dev.seats_elapse d dt)
  generalize d.elapse dt = e
  dsimp only
  split
  · exact le_rfl
  · refine Dev.seats_ite le_rfl ?_
    rw [Dev.rcp_modeEffect]
    exact le_rfl

theorem seats_execMgCfgEffect (dt : Nat) (s : State) : s.KeepsSeats (execMgCfgEffect dt s) := by
  refine State.keepsSeats_of_le fun d => le_of_le_of_eq ?_ (Dev.seats_elapse d dt)
  generalize d.elapse dt = e
  dsimp only
  split
  · exact le_rfl
  · exact Dev.seats_ite le_rfl ((Dev.seats_le_of_rcp (Dev.rcp_showTest ..)).trans (Dev.seats_useMg ..).le)

theorem seats_execRcpMgReverted (dt : Nat) (s : State) : s.KeepsSeats (execRcpMgReverted dt s) := by
  refine State.keepsSeats_of_le fun d => le_of_le_of_eq ?_ (Dev.seats_elapse d dt)
  generalize d.elapse dt = e
  dsimp only
  split
  · exact le_rfl
  · refine Dev.seats_ite le_rfl ?_
    rw [Dev.raise_rcp, Dev.rcp_showTest, Dev.seats_useMg, Dev.rcp_writeNetId, Dev.rcp_journalGroup, Dev.rcp_setMgNet]
    exact le_rfl

theorem seats_execMgLinkDown (dt port : Nat) (s : State) : s.KeepsSeats (execMgLinkDown dt port s) := by
  refine State.keepsSeats_of_le fun d => le_of_le_of_eq ?_ (Dev.seats_elapse d dt)
  generalize d.elapse dt = e
  exact Dev.seats_ite le_rfl (Dev.seats_mgDown ..).le

theorem seats_execMgSpeedTryTimeout (dt port : Nat) (s : State) : s.KeepsSeats (execMgSpeedTryTimeout dt port s) := by
  refine State.keepsSeats_of_le fun d => le_of_le_of_eq ?_ (Dev.seats_elapse d dt)
  generalize d.elapse dt = e
  have htries : ∀ (x : Dev) l, ({ x with rcp := { x.rcp with tries := l } } : Dev).rcp.seats = x.rcp.seats := fun _ _ => rfl
  dsimp only
  generalize nget e.rcp.tries (2, 0) port = x
  exact Dev.seats_ite le_rfl (Dev.seats_ite (htries ..).le le_rfl)

end Sys2Proof.Machine
end

section
/-! Every command keeps the bounds of R417 and R446, and so does every step. -/

namespace Sys2Proof.Machine
open Sys2Proof

theorem exec_keepsSeats (c : Instr) (s : State) : s.KeepsSeats (exec c s) := by
  cases c with
  | read q ix sub => exact seats_execRead q ix sub s
  | write q ix sub v => exact seats_execWrite q ix sub v s
  | readDom q ix sub flags offset length => exact seats_execReadDom q ix sub flags offset length s
  | writeDom q ix sub flags offset v => exact seats_execWriteDom q ix sub flags offset v s
  | transferTimeout dt session => exact seats_execTransferTimeout dt session s
  | heldRequestDiscard dt session => exact seats_execHeldRequestDiscard dt session s
  | commit q => exact seats_execCommit q s
  | discard q => exact seats_execDiscard q s
  | groupAbort q v => exact seats_execGroupAbort q v s
  | groupIdleDiscard dt => exact seats_execGroupIdleDiscard dt s
  | subscribe q first last minMs => exact seats_execSubscribe q first last minMs s
  | unsubscribe q id => exact seats_execUnsubscribe q id s
  | notifySend dt session id leave => exact seats_execNotifySend dt session id leave s
  | close q => exact seats_execClose q s
  | keepalive q => exact seats_execKeepalive q s
  | sessionIdleExpiry dt session => exact seats_execSessionIdleExpiry dt session s
  | discover q multicast => exact seats_execDiscover q multicast s
  | modeWrite q ix v => exact seats_execModeWrite q ix v s
  | modeChangeEffect dt ix => exact seats_execModeChangeEffect dt ix s
  | journalCompaction dt => exact seats_execJournalCompaction dt s
  | mgCfgEffect dt => exact seats_execMgCfgEffect dt s
  | rcpMgReverted dt => exact seats_execRcpMgReverted dt s
  | openHello q id offset total v => exact seats_execOpenHello q id offset total v s
  | openChallengeFetch q id offset => exact seats_execOpenChallengeFetch q id offset s
  | openResponse q id offset total v => exact seats_execOpenResponse q id offset total v s
  | openExchangeTimeout dt => exact seats_execOpenExchangeTimeout dt s
  | flowEngineConfigured dt ctx => exact seats_execFlowEngineConfigured dt ctx s
  | flowEngineQuiesced dt ctx => exact seats_execFlowEngineQuiesced dt ctx s
  | runStart dt ctx => exact seats_execRunStart dt ctx s
  | cellEmit dt ctx itime len pos sof eof payload field => exact seats_execCellEmit dt ctx itime len pos sof eof payload field s
  | cellReceived dt group cell => exact seats_execCellReceived dt group cell s
  | mergeCopyArrival dt ctx plane cell => exact seats_execMergeCopyArrival dt ctx plane cell s
  | mergeWindowEnd dt ctx seq => exact seats_execMergeWindowEnd dt ctx seq s
  | cellRelease dt ctx => exact seats_execCellRelease dt ctx s
  | sourceLossTimeout dt ctx => exact seats_execSourceLossTimeout dt ctx s
  | take q v => exact seats_execTake q v s
  | twinTakeRx dt msg v => exact seats_execTwinTakeRx dt msg v s
  | twinTakeAck dt msg status => exact seats_execTwinTakeAck dt msg status s
  | twinTakeTimeout dt => exact seats_execTwinTakeTimeout dt s
  | takeApply dt ctx => exact seats_execTakeApply dt ctx s
  | delayChangeApply dt ctx => exact seats_execDelayChangeApply dt ctx s
  | salvoChangesWrite q slot offset v => exact seats_execSalvoChangesWrite q slot offset v s
  | salvoTakeTimeWrite q slot v => exact seats_execSalvoTakeTimeWrite q slot v s
  | salvoArm q slot => exact seats_execSalvoArm q slot s
  | salvoAbort q slot => exact seats_execSalvoAbort q slot s
  | salvoClear q slot => exact seats_execSalvoClear q slot s
  | salvoCommitCmd q slot => exact seats_execSalvoCommitCmd q slot s
  | salvoPrepare dt group block => exact seats_execSalvoPrepare dt group block s
  | salvoPrepared dt slot => exact seats_execSalvoPrepared dt slot s
  | salvoVoteRx dt group block => exact seats_execSalvoVoteRx dt group block s
  | salvoDecisionLogged dt slot => exact seats_execSalvoDecisionLogged dt slot s
  | salvoVoteDeadline dt slot => exact seats_execSalvoVoteDeadline dt slot s
  | salvoCommitRx dt group block => exact seats_execSalvoCommitRx dt group block s
  | salvoAbortRx dt group block => exact seats_execSalvoAbortRx dt group block s
  | salvoDecideDeadline dt slot => exact seats_execSalvoDecideDeadline dt slot s
  | salvoQueryTimer dt slot => exact seats_execSalvoQueryTimer dt slot s
  | salvoQueryRx dt group block => exact seats_execSalvoQueryRx dt group block s
  | salvoTakeTimeReached dt slot => exact seats_execSalvoTakeTimeReached dt slot s
  | logSectorErase dt => exact seats_execLogSectorErase dt s
  | planeFail dt plane cause => exact seats_execPlaneFail dt plane cause s
  | planeCmdResetX q => exact seats_execPlaneCmdResetX q s
  | planeCmdResetY q => exact seats_execPlaneCmdResetY q s
  | planeCmdSwap q => exact seats_execPlaneCmdSwap q s
  | planeBistDone dt plane pass shadowOk slice => exact seats_execPlaneBistDone dt plane pass shadowOk slice s
  | planeResyncDone dt plane wrong => exact seats_execPlaneResyncDone dt plane wrong s
  | planeRebuildDone dt shadowOk => exact seats_execPlaneRebuildDone dt shadowOk s
  | twinPairingSend dt => exact seats_execTwinPairingSend dt s
  | twinPairingRx dt block => exact seats_execTwinPairingRx dt block s
  | twinPairingTimeout dt => exact seats_execTwinPairingTimeout dt s
  | twinReconcile dt table => exact seats_execTwinReconcile dt table s
  | twinCopyDone dt stats copy => exact seats_execTwinCopyDone dt stats copy s
  | twinLost dt reset => exact seats_execTwinLost dt reset s
  | twinCmdMakeActive q => exact seats_execTwinCmdMakeActive q s
  | twinSignatureRx dt ctx source boundary crc => exact seats_execTwinSignatureRx dt ctx source boundary crc s
  | twinAnchorSend dt => exact seats_execTwinAnchorSend dt s
  | twinAnchorRx dt ctx anchor running => exact seats_execTwinAnchorRx dt ctx anchor running s
  | sdiRxLock dt lane rate => exact seats_execSdiRxLock dt lane rate s
  | sdiRxLockLost dt lane => exact seats_execSdiRxLockLost dt lane s
  | sdiRxFormatChange dt lane => exact seats_execSdiRxFormatChange dt lane s
  | sdiFormatDetected dt lane raster rate arrivals ltc pid => exact seats_execSdiFormatDetected dt lane raster rate arrivals ltc pid s
  | sdiPortResume dt ctx first others => exact seats_execSdiPortResume dt ctx first others s
  | sdiTxFrameBoundary dt ctx line lines => exact seats_execSdiTxFrameBoundary dt ctx line lines s
  | holdMaxExpiry dt ctx => exact seats_execHoldMaxExpiry dt ctx s
  | netLinkUp dt port => exact seats_execNetLinkUp dt port s
  | netLinkDown dt port => exact seats_execNetLinkDown dt port s
  | netSpareRemap dt lane => exact seats_execNetSpareRemap dt lane s
  | netFrameRx dt f => exact seats_execNetFrameRx dt f s
  | netCtrlFrame dt => exact seats_execNetCtrlFrame dt s
  | netQueryRx dt port iface version ask => exact seats_execNetQueryRx dt port iface version ask s
  | netQueryResponse dt iface => exact seats_execNetQueryResponse dt iface s
  | netMembershipReport dt iface => exact seats_execNetMembershipReport dt iface s
  | igmpReportRepeat dt iface => exact seats_execIgmpReportRepeat dt iface s
  | ctrlTx q v => exact seats_execCtrlTx q v s
  | netResolveRefresh dt ctx legB mac => exact seats_execNetResolveRefresh dt ctx legB mac s
  | netRxSilence dt ctx legB => exact seats_execNetRxSilence dt ctx legB s
  | net20227Release dt ctx => exact seats_execNet20227Release dt ctx s
  | netPacketTx dt ctx => exact seats_execNetPacketTx dt ctx s
  | dwlItemRx dt group lane chars ending cv disparity skips => exact seats_execDwlItemRx dt group lane chars ending cv disparity skips s
  | dwlReplayReqRx dt group lane block => exact seats_execDwlReplayReqRx dt group lane block s
  | dwlLaneMarkerRx dt group lane block => exact seats_execDwlLaneMarkerRx dt group lane block s
  | dwlMgmtFrameRx dt group chars => exact seats_execDwlMgmtFrameRx dt group chars s
  | dwlMsgTimeout dt => exact seats_execDwlMsgTimeout dt s
  | dwlTrainingBlockRx dt group lane block inverted => exact seats_execDwlTrainingBlockRx dt group lane block inverted s
  | dwlStepDwellEnd dt group lane errors => exact seats_execDwlStepDwellEnd dt group lane errors s
  | dwlStepFailure dt group lane => exact seats_execDwlStepFailure dt group lane s
  | groupMiswiredRetry dt group => exact seats_execGroupMiswiredRetry dt group s
  | chainFrameTx dt => exact seats_execChainFrameTx dt s
  | chainFrameRx dt frame => exact seats_execChainFrameRx dt frame s
  | chainLost dt => exact seats_execChainLost dt s
  | memberReportTx dt => exact seats_execMemberReportTx dt s
  | memberReportRx dt group length => exact seats_execMemberReportRx dt group length s
  | chainShortTimeout dt => exact seats_execChainShortTimeout dt s
  | beaconTx dt group => exact seats_execBeaconTx dt group s
  | beaconRx dt group block => exact seats_execBeaconRx dt group block s
  | beaconLost dt group => exact seats_execBeaconLost dt group s
  | laneCmdStep q lane => exact seats_execLaneCmdStep q lane s
  | laneCmdSwapOut q lane => exact seats_execLaneCmdSwapOut q lane s
  | laneCmdRetrain q lane => exact seats_execLaneCmdRetrain q lane s
  | laneCmdMarginScan q target lane => exact seats_execLaneCmdMarginScan q target lane s
  | laneCmdMarginAbort q lane => exact seats_execLaneCmdMarginAbort q lane s
  | marginScanDone dt lane width height => exact seats_execMarginScanDone dt lane width height s
  | phyLaneFailed dt lane cause skew => exact seats_execPhyLaneFailed dt lane cause skew s
  | phyDegradeCheck dt lane errors symbols => exact seats_execPhyDegradeCheck dt lane errors symbols s
  | spareReadinessCheck dt group errors => exact seats_execSpareReadinessCheck dt group errors s
  | sdiSliceSpare dt lane locks => exact seats_execSdiSliceSpare dt lane locks s
  | memRequestServe dt chan arrivals ecc => exact seats_execMemRequestServe dt chan arrivals ecc s
  | requestDeadlineMiss dt chan => exact seats_execRequestDeadlineMiss dt chan s
  | mr4Poll dt chan rate hot => exact seats_execMr4Poll dt chan rate hot s
  | srEntry dt chan issued => exact seats_execSrEntry dt chan issued s
  | srExit dt chan => exact seats_execSrExit dt chan s
  | chanTrainingSetDone dt chan pass defects => exact seats_execChanTrainingSetDone dt chan pass defects s
  | delayRecentre dt chan => exact seats_execDelayRecentre dt chan s
  | chanDegradeCheck dt chan => exact seats_execChanDegradeCheck dt chan s
  | chanFail dt chan cause => exact seats_execChanFail dt chan cause s
  | chanCmdRetrain q chan => exact seats_execChanCmdRetrain q chan s
  | chanCmdRetire q chan => exact seats_execChanCmdRetire q chan s
  | chanCmdRestore q chan => exact seats_execChanCmdRestore q chan s
  | blockRelocated dt handle logical => exact seats_execBlockRelocated dt handle logical s
  | patrolTest dt block row ok => exact seats_execPatrolTest dt block row ok s
  | tileFail dt phys => exact seats_execTileFail dt phys s
  | tileSubstitutionDone dt tile => exact seats_execTileSubstitutionDone dt tile s
  | tileCmdSubstitute q tile => exact seats_execTileCmdSubstitute q tile s
  | tileCmdRestore q phys => exact seats_execTileCmdRestore q phys s
  | tileCmdTest q phys => exact seats_execTileCmdTest q phys s
  | tileBistDone dt phys pass => exact seats_execTileBistDone dt phys pass s
  | fsOutputFrame dt tile chanB lost => exact seats_execFsOutputFrame dt tile chanB lost s
  | fsInputLoss dt tile chanB => exact seats_execFsInputLoss dt tile chanB s
  | headFrameBoundary dt head lost probe => exact seats_execHeadFrameBoundary dt head lost probe s
  | layerFrameComplete dt engine filled => exact seats_execLayerFrameComplete dt engine filled s
  | layerRunStart dt engine => exact seats_execLayerRunStart dt engine s
  | veneerWrite q veneer x y w h back pixels => exact seats_execVeneerWrite q veneer x y w h back pixels s
  | veneerFlip q veneer => exact seats_execVeneerFlip q veneer s
  | tallyWrite q engine value => exact seats_execTallyWrite q engine value s
  | cmpEngineFail dt engine => exact seats_execCmpEngineFail dt engine s
  | audioPosition dt => exact seats_execAudioPosition dt s
  | audioSampleWrite dt lane groups words => exact seats_execAudioSampleWrite dt lane groups words s
  | sapFrame dt port slots half => exact seats_execSapFrame dt port slots half s
  | servoSample dt => exact seats_execServoSample dt s
  | servoSampleTimeout dt => exact seats_execServoSampleTimeout dt s
  | servoHoldoverExpiry dt => exact seats_execServoHoldoverExpiry dt s
  | timeChangeover dt => exact seats_execTimeChangeover dt s
  | servoCmdStep q value => exact seats_execServoCmdStep q value s
  | servoCmdSetRate q value => exact seats_execServoCmdSetRate q value s
  | servoCmdAddRate q value => exact seats_execServoCmdAddRate q value s
  | ptpAnnounceRx dt iface ann => exact seats_execPtpAnnounceRx dt iface ann s
  | ptpLeaderLost dt iface sender port => exact seats_execPtpLeaderLost dt iface sender port s
  | ptpDelayReqTx dt iface => exact seats_execPtpDelayReqTx dt iface s
  | ptpEventRx dt iface m => exact seats_execPtpEventRx dt iface m s
  | tcRelay dt iface kind domain seq rx corr msg => exact seats_execTcRelay dt iface kind domain seq rx corr msg s
  | leapSecond dt => exact seats_execLeapSecond dt s
  | timeOutputEdge dt output => exact seats_execTimeOutputEdge dt output s
  | refPhaseEvent dt ref => exact seats_execRefPhaseEvent dt ref s
  | refStop dt ref => exact seats_execRefStop dt ref s
  | refFreqUpdate dt meas demand => exact seats_execRefFreqUpdate dt meas demand s
  | refHoldoffElapsed dt ref => exact seats_execRefHoldoffElapsed dt ref s
  | dpllLocked dt dpll err => exact seats_execDpllLocked dt dpll err s
  | dpllSwitchMeasured dt dpll => exact seats_execDpllSwitchMeasured dt dpll s
  | dpllHoldoverExpiry dt dpll => exact seats_execDpllHoldoverExpiry dt dpll s
  | dpllCmdPhaseStep q dpll value => exact seats_execDpllCmdPhaseStep q dpll value s
  | dpllCmdClearBuildout q dpll => exact seats_execDpllCmdClearBuildout q dpll s
  | dpllPhaseMoveDone dt dpll => exact seats_execDpllPhaseMoveDone dt dpll s
  | ownerCmdEnrol q nonce policy pub sig => exact seats_execOwnerCmdEnrol q nonce policy pub sig s
  | ownerCmdTransfer q nonce policy pub newSig ownerSig => exact seats_execOwnerCmdTransfer q nonce policy pub newSig ownerSig s
  | ownerCmdRelease q nonce ownerSig => exact seats_execOwnerCmdRelease q nonce ownerSig s
  | enrolWindowExpiry dt => exact seats_execEnrolWindowExpiry dt s
  | attestNonce q nonce => exact seats_execAttestNonce q nonce s
  | debugToken q serial nonce sig => exact seats_execDebugToken q serial nonce sig s
  | updateBegin q => exact seats_execUpdateBegin q s
  | manifestIn q v => exact seats_execManifestIn q v s
  | imageWrite q kind v => exact seats_execImageWrite q kind v s
  | updateEnd q => exact seats_execUpdateEnd q s
  | updateAbort q => exact seats_execUpdateAbort q s
  | updateIdleExpiry dt => exact seats_execUpdateIdleExpiry dt s
  | activateInService q => exact seats_execActivateInService q s
  | activationStepDone dt => exact seats_execActivationStepDone dt s
  | activationStepTimeout dt => exact seats_execActivationStepTimeout dt s
  | activateRestart q => exact seats_execActivateRestart q s
  | updateAccept q => exact seats_execUpdateAccept q s
  | updateReject q => exact seats_execUpdateReject q s
  | updateRecover q => exact seats_execUpdateRecover q s
  | trialTimerEnd dt => exact seats_execTrialTimerEnd dt s
  | fallbackDone dt => exact seats_execFallbackDone dt s
  | slotRCopyDone dt => exact seats_execSlotRCopyDone dt s
  | recoveryIntervalEnd dt => exact seats_execRecoveryIntervalEnd dt s
  | faultLatch dt src inst lasting => exact seats_execFaultLatch dt src inst lasting s
  | faultConditionEnd dt src inst => exact seats_execFaultConditionEnd dt src inst s
  | faultCmdClear q src => exact seats_execFaultCmdClear q src s
  | faultCmdClearGroup q src => exact seats_execFaultCmdClearGroup q src s
  | faultCmdClearAll q => exact seats_execFaultCmdClearAll q s
  | faultCmdFirstClear q => exact seats_execFaultCmdFirstClear q s
  | faultCmdSummaryClear q => exact seats_execFaultCmdSummaryClear q s
  | faultCmdBlkrst q src inst => exact seats_execFaultCmdBlkrst q src inst s
  | faultCmdChiprst q src => exact seats_execFaultCmdChiprst q src s
  | faultCmdInject q src inst => exact seats_execFaultCmdInject q src inst s
  | errnMinExpiry dt => exact seats_execErrnMinExpiry dt s
  | porstAssert dt low => exact seats_execPorstAssert dt low s
  | supplyFault dt kind ns => exact seats_execSupplyFault dt kind ns s
  | rstNInput dt low => exact seats_execRstNInput dt low s
  | resetCmdCold q => exact seats_execResetCmdCold q s
  | resetCmdWarm q => exact seats_execResetCmdWarm q s
  | resetCmdDomain q dom => exact seats_execResetCmdDomain q dom s
  | watchdogExpiry dt dom => exact seats_execWatchdogExpiry dt dom s
  | resetAssert dt n => exact seats_execResetAssert dt n s
  | resetRelease dt n head planeB testMode geo => exact seats_execResetRelease dt n head planeB testMode geo s
  | blockResetEnd dt target inst => exact seats_execBlockResetEnd dt target inst s
  | rstnOutEnd dt low => exact seats_execRstnOutEnd dt low s
  | fuseLoadDone dt words pass => exact seats_execFuseLoadDone dt words pass s
  | startupStageDone dt gbit failed tiles engines planes slices => exact seats_execStartupStageDone dt gbit failed tiles engines planes slices s
  | busTransaction dt master addr beats write data enables answer placed => exact seats_execBusTransaction dt master addr beats write data enables answer placed s
  | busTimeout dt => exact seats_execBusTimeout dt s
  | busCmdUnisolate q target => exact seats_execBusCmdUnisolate q target s
  | busCmdIsolate q target => exact seats_execBusCmdIsolate q target s
  | busCmdLogClear q => exact seats_execBusCmdLogClear q s
  | sramEccError dt macro_ row dom cause corrected => exact seats_execSramEccError dt macro_ row dom cause corrected s
  | knotCopyWrite dt ok => exact seats_execKnotCopyWrite dt ok s
  | islandHorizonRecompute dt island next => exact seats_execIslandHorizonRecompute dt island next s
  | islandWake dt island took => exact seats_execIslandWake dt island took s
  | islandRequest q island v => exact seats_execIslandRequest q island v s
  | pwrWarn dt erasing ok => exact seats_execPwrWarn dt erasing ok s
  | pwrWarnRise dt => exact seats_execPwrWarnRise dt s
  | logIntervalEnd dt ok dailyOk => exact seats_execLogIntervalEnd dt ok dailyOk s
  | eventRecordWrite dt ok => exact seats_execEventRecordWrite dt ok s
  | ringCmdVerify q tier => exact seats_execRingCmdVerify q tier s
  | ringVerifyDone dt => exact seats_execRingVerifyDone dt s
  | thermalSample dt temp => exact seats_execThermalSample dt temp s
  | avsUpdate dt acks => exact seats_execAvsUpdate dt acks s
  | avsRetry dt ack => exact seats_execAvsRetry dt ack s
  | pmbusPoll dt readings alert => exact seats_execPmbusPoll dt readings alert s
  | prbsCheckerLock dt lane => exact seats_execPrbsCheckerLock dt lane s
  | prbsCheckerUnlock dt lane bits errors => exact seats_execPrbsCheckerUnlock dt lane bits errors s
  | sdiGroupDeskewLost dt lane skew => exact seats_execSdiGroupDeskewLost dt lane skew s
  | sdiPidAbsent dt lane => exact seats_execSdiPidAbsent dt lane s
  | netTrainingFailed dt port lane signal => exact seats_execNetTrainingFailed dt port lane signal s
  | mgLinkUp dt port speed => exact seats_execMgLinkUp dt port speed s
  | mgLinkDown dt port => exact seats_execMgLinkDown dt port s
  | mgSpeedTryTimeout dt port => exact seats_execMgSpeedTryTimeout dt port s

/-- What the device takes up has been set down by it: no seat is taken by that. -/
theorem Dev.seats_taken {d e : Dev} {c : Instr} (h : (d.readyRequest.orElse fun _ => d.heldRequest) = some (c, e)) :
    e.rcp.seats = d.rcp.seats := by
  have h : d.readyRequest = some (c, e) ∨ d.readyRequest = none ∧ d.heldRequest = some (c, e) := (Option.orElse_eq_some _ _ _).mp h
  obtain h | ⟨-, h⟩ := h
  · unfold Dev.readyRequest at h
    split at h
    · cases h
    · split at h
      · cases h
      · obtain rfl := congrArg Prod.snd (Option.some.inj h)
        rfl
  · unfold Dev.heldRequest at h
    obtain ⟨r, -, hr⟩ := Option.map_eq_some_iff.mp h
    obtain rfl := congrArg Prod.snd hr
    exact Dev.seats_setSession ..

/-- Settles O5: a command keeps both bounds, and a step is a command or an idle step. -/
theorem stepKeepsSessions : Obligations.StepKeepsSessions := by
  unfold Obligations.StepKeepsSessions
  intro s t hs h
  rw [State.sessionsOk_iff] at hs ⊢
  unfold step at h
  split at h
  case h_1 =>
    obtain ⟨c, d, u, htaken, hu, rfl⟩ | rfl := State.idle_inv h
    · have hd : d.rcp.seats ≤ (16, 4) := (Dev.seats_taken htaken).trans_le hs
      exact exec_keepsSeats c { s with dev := d } hd u hu
    · exact (Dev.seats_le_of_rcp (s.dev.rcp_lanesRun 1 id fun _ => rfl)).trans hs
  case h_2 c rest _ => exact exec_keepsSeats c { s with pending := rest } hs t h

end Sys2Proof.Machine
end
